-- ==== Sys2Proof/Word.lean ====
section
/-! DEFINITION. The plain word types of the model: 32-bit registers, bytes, and addresses as natural numbers (R30, R585). -/

namespace Sys2Proof

/-- A 32-bit word: one register, one Tangram register, one memory word. -/
abbrev Word := BitVec 32

/-- One byte of memory or of a frame. -/
abbrev Byte := BitVec 8

/-- A 40-bit physical address, kept as a natural number below `2 ^ 40` (R30). -/
abbrev Addr := Nat

end Sys2Proof
end

