-- ==== Sys2Proof/Data.lean ====
section
/-! DEFINITION. The plain data that commands carry and the state holds: who issues a request, what stands on a bus,
what leaves the module, and a sparse table indexed by a natural number. -/

namespace Sys2Proof

/-- A sparse table: entries of instances whose value differs from the initial one, by instance number. -/
structure Tab (α : Type) where
  cells : List (Nat × α) := []
  deriving DecidableEq, Repr, Inhabited

/-- The parts of the family (R1, R5); the twin AZC-4896D is two halves. -/
inductive Part where
  | azc2416 | azc3632 | azc4896 | twinA | twinB
  deriving DecidableEq, Repr, Inhabited

/-- Who issues a fabric request (R30): initiator ID, world (`true` for Inner), generation, and whether it is the debug port's (R12). -/
structure Req where
  id : Nat
  inner : Bool := true
  gen : Nat := 0
  debug : Bool := false
  deriving DecidableEq, Repr, Inhabited

/-- The four accesses of R467: read, write, fetch, atomic. -/
inductive AccKind where
  | read | write | fetch | amo
  deriving DecidableEq, Repr, Inhabited

/-- A GTB stamp: nanoseconds and 8-bit fraction (R40). -/
structure Stamp where
  ns : Nat := 0
  frac : Nat := 0
  deriving DecidableEq, Repr, Inhabited

/-- A held capture stamp with its edge (R60). -/
structure CapStamp where
  at_ : Stamp
  rising : Bool
  deriving DecidableEq, Repr, Inhabited

/-- A Sync (with its Follow_Up) as received: domain number, grandmaster, precise origin time in ns,
correction in 2⁻¹⁶ ns, and the GTB stamp of its arrival (R46, R47). -/
structure SyncMsg where
  domNum : Nat
  gm : Nat
  origin : Nat
  corr : Int
  rx : Stamp
  deriving DecidableEq, Repr, Inhabited

/-- The gPTP messages that the time engine sends and receives (R46). -/
inductive PtpKind where
  | sync | followUp | pdelayReq | pdelayResp | pdelayRespFollowUp
  deriving DecidableEq, Repr, Inhabited

/-- A message of the time engine: its kind, the slot, its sequence number, the time it carries in ns, its correction in 2⁻¹⁶ ns, and of a relayed Sync the arrival less
the link delay, from which its residence counts (R46). -/
structure PtpMsg where
  kind : PtpKind
  dom : Nat := 0
  seq : Nat := 0
  time : Nat := 0
  corr : Int := 0
  since : Option Nat := none
  deriving DecidableEq, Repr, Inhabited

/-- A peer delay message as received: kind, sequence number, the time it carries and the stamp of its arrival (R46). -/
structure PdelayMsg where
  kind : PtpKind
  seq : Nat
  time : Nat
  rx : Stamp
  deriving DecidableEq, Repr, Inhabited

/-- The peer delay measurement of one port (R46). -/
structure PtpPort where
  seq : Nat := 0
  t1 : Nat := 0
  t2 : Nat := 0
  t4 : Nat := 0
  delay : Nat := 0
  deriving DecidableEq, Repr, Inhabited

/-- What the time engine keeps of one domain: whether a grandmaster is known, the last Sync, the next sequence number, and whether SYNCTO intervals have passed
since the last Sync (R46, R50, R65). -/
structure PtpDom where
  known : Bool := false
  last : Option SyncMsg := none
  lastPort : Nat := 0
  lastOfs : Int := 0
  seq : Nat := 0
  silent : Bool := false
  deriving DecidableEq, Repr, Inhabited

/-- The route an event takes, as EVR_ROUTE held it when the event entered the sort (R85). -/
structure Route where
  en : Bool := false
  inner : Bool := false
  cls : Nat := 0
  log : Bool := false
  trc : Bool := false
  irq : Bool := false
  dest : Nat := 0
  deriving DecidableEq, Repr, Inhabited

/-- What the writes of the persistent event area meet: VDD_BAK in mV, and whether each of the two copy writes reads back good (R540). -/
structure BakObs where
  mv : Nat := 3000
  first : Bool := true
  second : Bool := true
  deriving DecidableEq, Repr, Inhabited

/-- A firing, a direct-path event, an edge or a count on its way to a unit that follows it: a converter, a converter group, a sigma-delta filter, a PWM pair (R55), a slot
of a Tangram engine (R139), a capture unit (R66), a CAN controller's correlation with the reference clock (R296), a transmit layout of the gateway (R347). The stamp is that of the occurrence. -/
inductive Due where
  | adc (n : Nat)
  | group (g : Nat)
  | window (m : Nat)
  | sync (j : Nat)
  | slot (e k : Nat) (at_ : Stamp)
  | cap (u : Nat) (rising : Bool) (at_ : Stamp)
  | corr (c : Nat) (at_ : Stamp) (ref : Nat)
  | layout (l : Nat)
  deriving DecidableEq, Repr, Inhabited

/-- The four record types of R75. -/
inductive RecType where
  | event | loss | jump | late
  deriving DecidableEq, Repr, Inhabited

/-- An event on its way through the event router: source, log word, stamp, record type and route (R69, R74, R75). -/
structure Ev where
  src : Nat
  word : Nat
  at_ : Stamp
  typ : RecType := .event
  route : Route := {}
  deriving DecidableEq, Repr, Inhabited

/-- An entry of the persistent event area (R81), with its count (R510; log entry 29). -/
structure PersistEntry where
  src : Nat
  word : Nat
  at_ : Stamp
  count : Nat := 1
  deriving DecidableEq, Repr, Inhabited

/-- What a fabric access finds: no error; in a protected memory word a corrected error, an uncorrectable error or an address error (R442); a parity error
on the request or on the data returned (R31). -/
inductive EccObs where
  | clean | corrected | uncorrectable | addressError | parity
  deriving DecidableEq, Repr, Inhabited

/-- What a Tangram engine finds where it reads its IMEM or DMEM: no error, a corrected error, an uncorrectable error in one copy, or one at
the same address in both copies of a pair; `odd` where the copy is the odd engine's (R136, R175). -/
inductive TgEcc where
  | clean | badBoth
  | corrected (odd : Bool)
  | bad (odd : Bool)
  deriving DecidableEq, Repr, Inhabited

/-- A parity error of a control-lane read: none, on the request, or on the returned data (R31). -/
inductive LaneParity where
  | none | request | data
  deriving DecidableEq, Repr, Inhabited

/-- The issue of an instruction: the engine, and what the fetch of its word found (R136). -/
structure TgAt where
  e : Fin 12
  fetch : TgEcc := .clean
  deriving DecidableEq, Repr, Inhabited

/-- The comparison of a pair at the later seal: the copies agree, their output buffers differ, or their signatures differ (R172). -/
inductive TgCmp where
  | agree | output | signature
  deriving DecidableEq, Repr, Inhabited

/-- How a power-up test ends: passed, failed, failed in one of two copies (false copy A, or the lower unit), or skipped because the conditions of R563 did
not hold (R575, R576). -/
inductive TestEnd where
  | pass | fail | skip
  | oneCopy (second : Bool)
  deriving DecidableEq, Repr, Inhabited

/-- What a power die measures (R196 to R198): a current sample with its range (low: 0.1 mA; else class LSB), an output voltage in mV, the means
of the last millisecond (class LSB, mV), a group temperature in 0.1 °C, and feed voltage in mV with the feed current in 10 mA. -/
inductive PscSample where
  | cur (n : Nat) (i : Int)
  | vout (n : Nat) (v : Int)
  | avg (n : Nat)
  | temp (g : Nat) (t : Int)
  | feed (f vpwr : Nat)
  | bad (f : Nat)
  deriving DecidableEq, Repr, Inhabited

/-- A frame as a port receives it: its bytes from the destination address to the FCS, the stamp of its first bit, and the symbol errors since the frame before
(R231, R237). -/
structure EthRx where
  bytes : List Nat
  at_ : Stamp
  symErr : Nat := 0
  deriving DecidableEq, Repr, Inhabited

/-- A CAN frame: type (0 classic, 1 FD, 2 XL), identifier with the base or priority identifier in [28:18], flags, data bytes, of a remote frame the data length code, XL fields,
and the value of the stamp counter at its start of frame (R277, R284, R295). -/
structure CanFrame where
  fmt : Nat := 0
  ide : Bool := false
  id : Nat := 0
  rtr : Bool := false
  brs : Bool := false
  esi : Bool := false
  data : List Nat := []
  dlc : Nat := 0
  sdt : Nat := 0
  vcid : Nat := 0
  sec : Bool := false
  af : Nat := 0
  stamp : Nat := 0
  deriving DecidableEq, Repr, Inhabited

/-- Where the gateway takes a PDU from: a receive object of a CAN controller, a completed response of a LIN channel, or a frame of a queue of
port 20 (R338, R340). -/
inductive GwSrc where
  | can (c : Fin 16) (o : Fin 128)
  | lin (l : Fin 8) (id : Fin 64)
  | eth (q : Fin 8) (bytes : List Nat)
  deriving DecidableEq, Repr, Inhabited

/-- An inbound PCIe request: its function, whether it names BAR2 (endpoint), whether it writes, its address (the offset inside the BAR, or the PCIe address in
root-port mode), the number of bytes, the bytes written, the AER status bit of a poisoned TLP or one that fails its ECRC, and what a read of memory finds (R357, R358, R364). -/
structure PcieIn where
  fn : Nat := 0
  bar2 : Bool := false
  write : Bool
  addr : Nat
  size : Nat
  bytes : List Nat := []
  bad : Option Nat := none
  ecc : EccObs := .clean
  deriving DecidableEq, Repr, Inhabited

/-- What a mirror frame brings to half B of a twin: a 32-bit register write, an entry of the filtering database (entry, key, data), a word of Tangram DMEM
(engine, offset, value), the state of a transmit object of a CAN controller (request, TXDONE, TXFAIL), a 64-bit register write, a command of the forwarding
table, and the state of a gPTP domain (grandmaster, offset, rate ratio) (R35, R36, R270). -/
inductive MirrorItem where
  | write (addr value : Nat)
  | fdb (i key data : Nat)
  | dmem (e off value : Nat)
  | can (c o : Nat) (txreq done fail : Bool)
  | write8 (addr value : Nat)
  | fdbCmd (key data : Nat) (op : Nat)
  | gptp (d gm : Nat) (ofs ratio : Int)
  deriving DecidableEq, Repr, Inhabited

/-- What a core finds at an instruction beside the state: an uncorrectable error in the line of its fetch, and of its data access (R380); an uncorrectable
error in state that one copy of a pair alone holds (R422), and in the journal entry that it reads (R427); the 64 bits of the random bit generator (R389); and how often the events of R375 occurred that the state does not
show (event number and occurrences); a parity error on the fabric at its fetch and at its data access (R31). -/
structure RvObs where
  fetchBad : Bool := false
  dataBad : Bool := false
  fetchParity : Bool := false
  parity : Bool := false
  upset : Bool := false
  jrnBad : Bool := false
  rnd : Nat := 0
  events : List (Nat × Nat) := []
  deriving DecidableEq, Repr, Inhabited

/-- What the module has sent or driven: responses of the fabric to an initiator; gPTP messages with port, kind, domain or sequence and a time; frames of the switch ports;
CAN and LIN frames; PCIe packets; link frames; pulses and levels of balls. Each carries its numbers as the rule of the sender states them. -/
inductive Out where
  | ptp (port : Nat) (m : PtpMsg)
  | eth (port : Nat) (bytes : List Nat)
  | can (ctrl : Nat) (frame : CanFrame)
  | lin (chan : Nat) (bytes : List Nat)
  | pcie (words : List Nat)
  | link (name : String) (words : List Nat)
  | resp (id : Nat) (error : Bool) (data : Nat)
  | ball (name : String) (index value : Nat)
  deriving DecidableEq, Repr, Inhabited

end Sys2Proof
end

