-- ==== Sys2Proof/Syntax.lean ====
section
/-! DEFINITION. The commands of the block: one constructor per row of spec/opcode_table.json, in the table's order.
An operand is what comes from outside with the command (an index, a written value, a frame, a measured sample). -/

namespace Sys2Proof

/-- The commands, each with the operands that come with it. -/
inductive Instr where
  /-- R595: A software write to a register field that has no row of its own is applied whole in one update step, later write holding, with pair low words held until the high word. -/
  | registerWrite (r : Req) (addr size value : Nat)
  /-- R593: A read that returns data clears its RC fields, except through the debug port. -/
  | readClear (r : Req) (addr : Nat)
  /-- R592: A 32-bit read of a pair's low word latches the high word for that initiator's next access. -/
  | pairLowWordRead (r : Req) (addr : Nat)
  /-- R30: A fabric request with address, initiator ID, world, generation and parity reaches its target and is checked and served. -/
  | fabricRequest (r : Req) (acc : AccKind) (addr size value : Nat) (parityOk : Bool) (ecc : EccObs)
  /-- R18: Every 100 µs the core die sends a heartbeat frame on each command link. -/
  | commandLinkHeartbeat (f : Fin 2) (valid other : Bool)
  /-- R216: A power die with no valid heartbeat for 2 ms enters hold, keeping every channel and its protection. -/
  | powerDieHoldEnter (f : Fin 2)
  /-- R217: At the first valid heartbeat the die leaves hold, its state is read back and hold events are raised. -/
  | powerDieHoldLeave (f : Fin 2)
  /-- R19: Every 500 µs the core die sends an internal heartbeat to the interface die. -/
  | supplyLinkHeartbeat
  /-- R19: After two missing heartbeats the interface die drives ZONE_OK low, forces transceivers passive and takes Ethernet down. -/
  | interfaceHeartbeatLoss
  /-- R20: After 250 ns without a transfer the core die sends an idle handshake on the control lane. -/
  | controlLaneIdleHandshake
  /-- R20: 1 µs without a control-lane handshake while a PWM pair is enabled drives every enabled output to its safe state. -/
  | controlLaneLoss
  /-- R21: VDD_CORE below 0.69 V for 2 µs sets SYS_CORESTAT.LAPSE and raises source 4. -/
  | coreSupplyLapse
  /-- R26: Every 10 µs the measured VDD_CORE is updated in SYS_CORESTAT.VCORE. -/
  | vcoreMeasure (millivolt : Nat)
  /-- R25: A stopped or deviating crystal switches the reference oscillator to the RC source, takes links down and puts the GTB in holdover. -/
  | xtalFallback
  /-- R34: Loss of the mixed-signal die supply stops its functions; the core die raises source 6 and drives ZONE_OK low within 100 µs. -/
  | msSupplyLoss
  /-- R543: Return of the mixed-signal die supply performs a domain reset of its domains and restores the GTB. -/
  | msSupplyReturn (failed : List (Fin 177)) (cals : List (Nat × Nat × Nat))
  /-- R35: On the AZC-4896D half A sends a mirror frame at least every 250 ns. -/
  | mirrorFrameSend
  /-- R35: Half B takes a mirror frame and updates its standby state, taking over on a reported cause. -/
  | mirrorFrameReceive (cause : Fin 4) (items : List MirrorItem)
  /-- R35: No valid mirror frame for 1 µs while ARMED makes half B take over. -/
  | mirrorTimeout
  /-- R36: Half B declares takeover, asserts the takeover line disabling half A's PWM stages and commands the power dies and CAN. -/
  | takeover
  /-- R36: At the next PWM period start of each pair half B enables its output stages with its standby duty. -/
  | takeoverPwmEnable (j : Fin 24)
  /-- R38: A write of 1 to SYS_TWIN.HANDOFF hands control to half B at the end of each protected pair's iteration. -/
  | twinHandoff
  /-- R629: A write of 1 to GTB_ADJCTL.SLEW with SERVO = 0 starts a slew by GTB_ADJ at ±500 ppm. -/
  | slewStart
  /-- R629: The slew ends at the tick the GTB has gained GTB_ADJ, and S returns to 0. -/
  | slewComplete
  /-- R49: A step of the GTB is applied in one tick, moving triggers and gate lists and raising source 20. -/
  | gtbStep
  /-- R64: A write of 1 to GTB_SNAPCTL.TAKE captures GTB, fraction and quality in one tick. -/
  | snapshotTake
  /-- R47: A gPTP Sync received in a domain updates offset and servo, declaring lock or leaving holdover. -/
  | syncReceive (d : Fin 4) (p : Fin 18) (m : SyncMsg)
  /-- R46: Sync information from the slave port is forwarded on the domain's master ports within 1 ms. -/
  | syncRelay (d : Fin 4)
  /-- R46: At each Sync interval a master or grandmaster domain sends a two-step Sync. -/
  | syncTransmit (d : Fin 4)
  /-- R46: At each Pdelay_Req interval a port sends a peer delay request. -/
  | pdelayReqTransmit (p : Fin 18)
  /-- R46: A peer delay message is received and the link delay measurement updated. -/
  | pdelayReceive (p : Fin 18) (m : PdelayMsg)
  /-- R50: SYNCTO Sync intervals without a Sync sets SYNCTO and enters holdover in the selected domain. -/
  | syncTimeout (d : Fin 4)
  /-- R50: A write of GTB_CFG.DOMAIN or disabling the selected slot enters holdover. -/
  | gtbDomainWrite (d : Fin 4) (disable : Bool)
  /-- R53: A trigger fires at the first tick the GTB reaches its compare value, advancing a periodic compare and pulsing GTB_OUT. -/
  | triggerFire (n : Fin 64)
  /-- R56: A write of the high word of GTB_TRGCMP applies the compare value and fires late if it lies behind the GTB. -/
  | triggerCompareWrite (n : Fin 64) (value : Nat)
  /-- R57: A write of GTB_TRGCTL enables or disables a trigger, firing late or resolving by arrival against a match. -/
  | triggerCtlWrite (n : Fin 64) (value : Nat)
  /-- R60: A selected edge at a capture source is stamped and held, or discarded on overflow with source 26. -/
  | captureEdge (u : Fin 32) (rising : Bool) (stamp : Stamp) (held : Nat)
  /-- R60: A write of 1 to GTB_CAPCTL.POP removes the oldest held stamp. -/
  | capturePop (u : Fin 32)
  /-- R74: An event from a block enters the EVR, is stamped and taken into the sort or counted as lost on repeat. -/
  | eventEnterEvr
  /-- R72: 500 ns after its stamp an event is released to its interrupt, log, trace and alarm sinks in stamp order. -/
  | eventRelease (b : BakObs)
  /-- R82: A late event is released to its sinks within 100 ns of entry with its original stamp. -/
  | lateEventRelease (b : BakObs)
  /-- R75: The log path writes the next 16-byte record into the SRAM ring at its drain rate. -/
  | logRecordWrite (parity : Bool)
  /-- R75: The trace path hands the next record to the trace unit at its drain rate. -/
  | traceRecordHandoff
  /-- R80: A write to EVR_ALMACK frees or reduces a latch entry only if the written COUNT matches or is smaller. -/
  | alarmAck (src count : Nat)
  /-- R89: Every 10 µs the monitor converter compares VREF with the bandgap, declaring a mismatch at the third excess. -/
  | refMonitorCompare (dev : Int)
  /-- R89: A write of 1 to ADC_REFSTAT.MISMATCH clears it only while NOW = 0. -/
  | refMismatchClear
  /-- R91: A trigger reaching an enabled ungrouped converter opens its track-and-hold and starts its sequence. -/
  | adcSequenceStart (n : Fin 8)
  /-- R94: A write of 1 to ADC_CTL.START starts the sequence of a converter in no enabled group. -/
  | adcStart (n : Fin 8)
  /-- R94: A write setting or clearing FREERUN and EN starts or ends back-to-back sequences. -/
  | adcFreerunWrite (n : Fin 8) (en freerun : Bool)
  /-- R93: A slot's conversion or mean completes, is corrected, formatted and stored in ADC_RES. -/
  | adcSlotComplete (n : Fin 8) (sum : Nat) (err : Int)
  /-- R96: A group's trigger starts the eligible converters of its mask at one sampling instant. -/
  | adcGroupStart (g : Fin 8)
  /-- R96: A write of 1 to ADC_GRP.START starts an enabled group. -/
  | adcGroupStartWrite (g : Fin 8)
  /-- R98: A slot's word of a group set is written over the control lane into the Tangram data memory of ENG and ENG + 1. -/
  | adcWordDeliver (g : Fin 8) (parity : Bool × Bool)
  /-- R97: When the last word of a set is written, source 72 + g is raised and SEQNO increments. -/
  | adcSetComplete (g : Fin 8)
  /-- R99: A group set is written as a 512-byte record into its SRAM ring as initiator 28. -/
  | adcRingWrite (g : Fin 8) (parity : List Nat)
  /-- R102: A main sinc filter result is formed every OSR bits, stored, delivered to the engines and raises source 96 + m. -/
  | sdfResult (m : Fin 4) (levels : List (Bool × Bool)) (parity : Bool × Bool)
  /-- R102: A trigger firing restarts the decimation window 30 ns later and marks results unsettled. -/
  | sdfWindowRestart (m : Fin 4)
  /-- R104: The fast filter output leaving its thresholds asserts the trip line and raises source 100 + m with cause 2. -/
  | sdfFastTrip (m : Fin 4) (levels : List (Bool × Bool)) (parity : Bool × Bool)
  /-- R105: No SD_CLK edge for 1 µs sets CLKLOSS, raises cause 1 and asserts the fast trip line. -/
  | sdfClockLoss (m : Fin 4)
  /-- R107: A filtered comparator crossing asserts its trip line, counts TRIPS and raises source 104 + k. -/
  | comparatorTrip (k : Fin 24) (v : Nat)
  /-- R106: The input passing the threshold by HYST releases the comparator's trip line. -/
  | comparatorRelease (k : Fin 24) (v : Nat)
  /-- R108: At the end of a blanking window the trip line follows the comparator again, tripping if it is active. -/
  | blankingEnd (k : Fin 24)
  /-- R118: The PWM counter wraps or starts a period, loading a pending set, ending cycle-by-cycle or cleared trips. -/
  | pwmPeriodStart (j : Fin 24) (settled : Bool)
  /-- R118: The counter reaching PER / 2 is a load point and a mid-period occurrence. -/
  | pwmMidPeriod (j : Fin 24) (settled : Bool)
  /-- R111: The counter reaching an ON or OFF value changes an output under dead time, XLOCK and MINPW. -/
  | pwmEdge (j : Fin 24) (outB rise dead : Bool)
  /-- R116: A firing of SYNCTRG ends the period 20 ns later and reloads the counter with PHASE. -/
  | pwmSync (j : Fin 24) (c : Nat) (settled : Bool)
  /-- R117: A write of PWM_COMMIT.GO copies the shadow registers into the pending set. -/
  | pwmCommit (j : Fin 24)
  /-- R118: With LOAD = 0b11 the pending set loads 10 ns after its commit reaches the island. -/
  | pwmSetLoad (j : Fin 24) (c : Nat)
  /-- R121: A write of 1 to PWM_CTL.SWTRIP trips the pair, latched. -/
  | pwmSwtrip (j : Fin 24)
  /-- R121: A write of 1 to PWM_GCTL.GTRIP trips every enabled pair, latched. -/
  | pwmGtrip
  /-- R123: A write of 1 to TRIPCLR with no source active ends a latched trip at the next period start. -/
  | pwmTripclr (j : Fin 24)
  /-- R125: Setting PWM_CTL.EN starts the counter at PHASE; clearing it drives both outputs low within 40 ns. -/
  | pwmEnableWrite (j : Fin 24) (en settled : Bool)
  /-- R125: A write of FORCEA or FORCEB overrides the edge rules of its output within 10 ns. -/
  | pwmForceWrite (j : Fin 24) (forceA forceB : Fin 4)
  /-- R135: A fabric write to an engine's DMEM is applied, or held in the input stage during an iteration. -/
  | tgDmemWrite (e : Fin 12) (off size v : Nat)
  /-- R139: A slot's selected occurrence counts against DIV and dispatches, makes the slot pending, or is discarded as overrun. -/
  | tgOccurrence (e : Fin 12) (sl : Fin 8)
  /-- R139: A write of a bit of TG_CTL.SWDISP dispatches that slot. -/
  | tgSwdisp (e : Fin 12) (sl : Fin 8)
  /-- R141: An engine starts an iteration, setting PC, MODE, DTIME and DSLOT, after any input-stage write-out. -/
  | tgDispatch (e : Fin 12)
  /-- R145: Tangram ADD: rd ← rs1 + rs2, saturating. -/
  | tgAdd (x : TgAt) (rd rs1 rs2 : Fin 32)
  /-- R145: Tangram SUB: rd ← rs1 − rs2, saturating. -/
  | tgSub (x : TgAt) (rd rs1 rs2 : Fin 32)
  /-- R145: Tangram bitwise AND. -/
  | tgAnd (x : TgAt) (rd rs1 rs2 : Fin 32)
  /-- R145: Tangram bitwise OR. -/
  | tgOr (x : TgAt) (rd rs1 rs2 : Fin 32)
  /-- R145: Tangram bitwise XOR. -/
  | tgXor (x : TgAt) (rd rs1 rs2 : Fin 32)
  /-- R145: Tangram shift left by rs2, saturating. -/
  | tgShl (x : TgAt) (rd rs1 rs2 : Fin 32)
  /-- R145: Tangram logical shift right by rs2. -/
  | tgShr (x : TgAt) (rd rs1 rs2 : Fin 32)
  /-- R145: Tangram arithmetic shift right by rs2. -/
  | tgSra (x : TgAt) (rd rs1 rs2 : Fin 32)
  /-- R145: Tangram shift left by an immediate, saturating. -/
  | tgShli (x : TgAt) (rd rs1 n : Fin 32)
  /-- R145: Tangram logical shift right by an immediate. -/
  | tgShri (x : TgAt) (rd rs1 n : Fin 32)
  /-- R145: Tangram arithmetic shift right by an immediate. -/
  | tgSrai (x : TgAt) (rd rs1 n : Fin 32)
  /-- R145: Tangram signed minimum. -/
  | tgMin (x : TgAt) (rd rs1 rs2 : Fin 32)
  /-- R145: Tangram signed maximum. -/
  | tgMax (x : TgAt) (rd rs1 rs2 : Fin 32)
  /-- R145: Tangram unsigned minimum. -/
  | tgMinu (x : TgAt) (rd rs1 rs2 : Fin 32)
  /-- R145: Tangram unsigned maximum. -/
  | tgMaxu (x : TgAt) (rd rs1 rs2 : Fin 32)
  /-- R145: Tangram CLAMP: rd ← min(max(rs1, rs2), rs3), signed. -/
  | tgClamp (x : TgAt) (rd rs1 rs2 rs3 : Fin 32)
  /-- R147: Tangram absolute value, saturating under SAT. -/
  | tgAbs (x : TgAt) (rd rs1 : Fin 32)
  /-- R145: Tangram signed set-less-than. -/
  | tgSlt (x : TgAt) (rd rs1 rs2 : Fin 32)
  /-- R145: Tangram unsigned set-less-than. -/
  | tgSltu (x : TgAt) (rd rs1 rs2 : Fin 32)
  /-- R145: Tangram count of leading zeros. -/
  | tgClz (x : TgAt) (rd rs1 : Fin 32)
  /-- R145: Tangram low 32 bits of the product. -/
  | tgMul (x : TgAt) (rd rs1 rs2 : Fin 32)
  /-- R145: Tangram signed high 32 bits of the product. -/
  | tgMulh (x : TgAt) (rd rs1 rs2 : Fin 32)
  /-- R145: Tangram unsigned high 32 bits of the product. -/
  | tgMulhu (x : TgAt) (rd rs1 rs2 : Fin 32)
  /-- R147: Tangram signed division toward zero with the division-by-zero rules. -/
  | tgDiv (x : TgAt) (rd rs1 rs2 : Fin 32)
  /-- R147: Tangram unsigned division. -/
  | tgDivu (x : TgAt) (rd rs1 rs2 : Fin 32)
  /-- R147: Tangram signed remainder. -/
  | tgRem (x : TgAt) (rd rs1 rs2 : Fin 32)
  /-- R147: Tangram unsigned remainder. -/
  | tgRemu (x : TgAt) (rd rs1 rs2 : Fin 32)
  /-- R148: Tangram accumulate Q31 × Q31 into an accumulator. -/
  | tgMacq (x : TgAt) (a rs1 rs2 : Fin 32)
  /-- R148: Tangram subtract a Q31 product from an accumulator. -/
  | tgMsuq (x : TgAt) (a rs1 rs2 : Fin 32)
  /-- R148: Tangram accumulator ← Q31 product. -/
  | tgMulq (x : TgAt) (a rs1 rs2 : Fin 32)
  /-- R148: Tangram accumulate an integer product at bit 0. -/
  | tgMaci (x : TgAt) (a rs1 rs2 : Fin 32)
  /-- R145: Tangram clear an accumulator. -/
  | tgAclr (x : TgAt) (a : Fin 32)
  /-- R145: Tangram load an accumulator with rs1 × 2^31. -/
  | tgAcld (x : TgAt) (a rs1 : Fin 32)
  /-- R145: Tangram arithmetic shift right of an accumulator. -/
  | tgAcsr (x : TgAt) (a n : Fin 32)
  /-- R148: Tangram round and saturate acc / 2^31 into rd. -/
  | tgSatq (x : TgAt) (rd a : Fin 32)
  /-- R148: Tangram saturate an accumulator to 32 bits into rd. -/
  | tgSati (x : TgAt) (rd a : Fin 32)
  /-- R149: Tangram proportional-integral update of integrator and output with clamps. -/
  | tgPiu (x : TgAt) (rd rs1 rs2 rs3 : Fin 32)
  /-- R150: Tangram binary32 addition. -/
  | tgFadd (x : TgAt) (rd rs1 rs2 : Fin 32)
  /-- R150: Tangram binary32 subtraction. -/
  | tgFsub (x : TgAt) (rd rs1 rs2 : Fin 32)
  /-- R150: Tangram binary32 multiplication. -/
  | tgFmul (x : TgAt) (rd rs1 rs2 : Fin 32)
  /-- R150: Tangram fused multiply-add with one rounding. -/
  | tgFma (x : TgAt) (rd rs1 rs2 rs3 : Fin 32)
  /-- R150: Tangram binary32 division. -/
  | tgFdiv (x : TgAt) (rd rs1 rs2 : Fin 32)
  /-- R150: Tangram binary32 square root. -/
  | tgFsqrt (x : TgAt) (rd rs1 : Fin 32)
  /-- R145: Tangram binary32 minimum. -/
  | tgFmin (x : TgAt) (rd rs1 rs2 : Fin 32)
  /-- R145: Tangram binary32 maximum. -/
  | tgFmax (x : TgAt) (rd rs1 rs2 : Fin 32)
  /-- R145: Tangram binary32 absolute value. -/
  | tgFabs (x : TgAt) (rd rs1 : Fin 32)
  /-- R145: Tangram binary32 negation. -/
  | tgFneg (x : TgAt) (rd rs1 : Fin 32)
  /-- R145: Tangram binary32 equality compare. -/
  | tgFeq (x : TgAt) (rd rs1 rs2 : Fin 32)
  /-- R145: Tangram binary32 less-than compare. -/
  | tgFlt (x : TgAt) (rd rs1 rs2 : Fin 32)
  /-- R145: Tangram binary32 less-or-equal compare. -/
  | tgFle (x : TgAt) (rd rs1 rs2 : Fin 32)
  /-- R150: Tangram binary32 to int32 under FRM, saturating. -/
  | tgFcvtws (x : TgAt) (rd rs1 : Fin 32)
  /-- R145: Tangram int32 to binary32. -/
  | tgFcvtsw (x : TgAt) (rd rs1 : Fin 32)
  /-- R150: Tangram binary32 to Q31, saturating. -/
  | tgFcvtqs (x : TgAt) (rd rs1 : Fin 32)
  /-- R145: Tangram Q31 to binary32. -/
  | tgFcvtsq (x : TgAt) (rd rs1 : Fin 32)
  /-- R160: Tangram return from exception restoring MODE and loop state and resuming at EPC. -/
  | tgEret (x : TgAt)
  /-- R152: Tangram read of a special register. -/
  | tgMfs (x : TgAt) (rd sr : Fin 32)
  /-- R152: Tangram write of a special register. -/
  | tgMts (x : TgAt) (sr rs1 : Fin 32)
  /-- R166: Tangram post of event 49 + 2e through the output buffer. -/
  | tgEvp (x : TgAt) (rs1 : Fin 32)
  /-- R153: Tangram jump to register with delay slot. -/
  | tgJr (x : TgAt) (rs1 : Fin 32)
  /-- R145: Tangram add immediate, saturating. -/
  | tgAddi (x : TgAt) (rd rs1 : Fin 32) (imm : Fin 65536)
  /-- R145: Tangram AND with zero-extended immediate. -/
  | tgAndi (x : TgAt) (rd rs1 : Fin 32) (imm : Fin 65536)
  /-- R145: Tangram OR with zero-extended immediate. -/
  | tgOri (x : TgAt) (rd rs1 : Fin 32) (imm : Fin 65536)
  /-- R145: Tangram XOR with zero-extended immediate. -/
  | tgXori (x : TgAt) (rd rs1 : Fin 32) (imm : Fin 65536)
  /-- R145: Tangram load upper immediate. -/
  | tgLui (x : TgAt) (rd : Fin 32) (imm : Fin 65536)
  /-- R145: Tangram signed set-less-than immediate. -/
  | tgSlti (x : TgAt) (rd rs1 : Fin 32) (imm : Fin 65536)
  /-- R134: Tangram load word from DMEM. -/
  | tgLw (x : TgAt) (rd rs1 : Fin 32) (imm : Fin 65536) (data : TgEcc)
  /-- R134: Tangram load signed half from DMEM. -/
  | tgLh (x : TgAt) (rd rs1 : Fin 32) (imm : Fin 65536) (data : TgEcc)
  /-- R134: Tangram load unsigned half from DMEM. -/
  | tgLhu (x : TgAt) (rd rs1 : Fin 32) (imm : Fin 65536) (data : TgEcc)
  /-- R145: Tangram load an accumulator from 12 bytes of DMEM. -/
  | tgLacc (x : TgAt) (a rs1 : Fin 32) (imm : Fin 65536) (data : TgEcc)
  /-- R173: Tangram store word to DMEM, journalled in a pair. -/
  | tgSw (x : TgAt) (rs2 rs1 : Fin 32) (imm : Fin 65536)
  /-- R173: Tangram store half to DMEM, journalled in a pair. -/
  | tgSh (x : TgAt) (rs2 rs1 : Fin 32) (imm : Fin 65536)
  /-- R173: Tangram store an accumulator as 12 bytes to DMEM. -/
  | tgSacc (x : TgAt) (a rs1 : Fin 32) (imm : Fin 65536)
  /-- R151: Tangram read over the control lane from a converter register page. -/
  | tgLdc (x : TgAt) (rd rs1 : Fin 32) (imm : Fin 65536) (parity : LaneParity)
  /-- R151: Tangram write over the control lane through the output buffer. -/
  | tgStc (x : TgAt) (rs2 rs1 : Fin 32) (imm : Fin 65536)
  /-- R151: Tangram control-lane write followed by PWM_COMMIT.GO of the same page. -/
  | tgStcc (x : TgAt) (rs2 rs1 : Fin 32) (imm : Fin 65536)
  /-- R153: Tangram branch if equal, with delay slot. -/
  | tgBeq (x : TgAt) (rs1 rs2 : Fin 32) (off : Fin 65536)
  /-- R153: Tangram branch if not equal. -/
  | tgBne (x : TgAt) (rs1 rs2 : Fin 32) (off : Fin 65536)
  /-- R153: Tangram branch if less, signed. -/
  | tgBlt (x : TgAt) (rs1 rs2 : Fin 32) (off : Fin 65536)
  /-- R153: Tangram branch if greater or equal, signed. -/
  | tgBge (x : TgAt) (rs1 rs2 : Fin 32) (off : Fin 65536)
  /-- R153: Tangram branch if less, unsigned. -/
  | tgBltu (x : TgAt) (rs1 rs2 : Fin 32) (off : Fin 65536)
  /-- R153: Tangram branch if greater or equal, unsigned. -/
  | tgBgeu (x : TgAt) (rs1 rs2 : Fin 32) (off : Fin 65536)
  /-- R153: Tangram jump with delay slot. -/
  | tgJmp (x : TgAt) (off : Fin 67108864)
  /-- R153: Tangram call writing the link into t31. -/
  | tgCall (x : TgAt) (off : Fin 67108864)
  /-- R154: Tangram hardware loop with count from a register. -/
  | tgLoop (x : TgAt) (level : Fin 2) (rs1 : Fin 32) (off : Fin 65536)
  /-- R154: Tangram hardware loop with immediate count. -/
  | tgLoopi (x : TgAt) (level : Fin 2) (n : Fin 512) (off : Fin 65536)
  /-- R157: Tangram write of MODE under a mask. -/
  | tgSetm (x : TgAt) (mask value : Fin 256)
  /-- R167: Tangram end of iteration, making the engine idle and sealing the output buffer. -/
  | tgEnd (x : TgAt)
  /-- R158: Tangram raise exception BRK. -/
  | tgBrk (x : TgAt)
  /-- R167: 14 ns after END the output buffer is sealed and released, or compared in a pair at the later seal. -/
  | tgSeal (e : Fin 12) (cmp : TgCmp)
  /-- R172: The second copy not retiring END within SKEW × 10 ns is treated as a mismatch. -/
  | tgSkewTimeout (e : Fin 12)
  /-- R168: A buffer not released within DEADLINE × 10 ns of dispatch is discarded with cause 5. -/
  | tgDeadlineExpiry (e : Fin 12)
  /-- R170: Setting TG_PCTL.PAIR joins two engines and starts copying state into the odd engine. -/
  | tgPairWrite (e : Fin 12) (pair : Bool)
  /-- R170: The odd copy is filled, SYNCING clears and dispatch may start. -/
  | tgPairSyncDone (e : Fin 12)
  /-- R177: A write of 1 to TG_MOVE.GO asks to move a context, refusing with ERRC when a check fails. -/
  | tgMoveGo (e : Fin 12) (dest : Fin 16)
  /-- R178: The source freezes at the first moment it runs no iteration and stops dispatching. -/
  | tgMoveFreeze (e : Fin 12)
  /-- R178: The context copy to DEST completes, the source slots disabled, FWD set and cause 6 raised. -/
  | tgMoveComplete (e : Fin 12)
  /-- R179: A write of 0 to TG_MOVE.FWD ends forwarding of deliveries to DEST. -/
  | tgMoveFwdClear (e : Fin 12)
  /-- R193: PSC_CMD OP ON switches a channel on continuously. -/
  | pscOn (n : Fin 40) (r : Req) (vi : Option Nat)
  /-- R193: PSC_CMD OP OFF switches a channel off, cancelling retry or restore. -/
  | pscOff (n : Fin 40) (r : Req) (vi : Option Nat)
  /-- R195: PSC_CMD OP PWM switches a channel with the period and duty of PSC_PWMC. -/
  | pscPwm (n : Fin 40) (r : Req) (vi : Option Nat)
  /-- R193: PSC_CMD OP CLEAR ends a latched fault, refused while the I²t model stands above 5,000. -/
  | pscClear (n : Fin 40) (r : Req) (vi : Option Nat)
  /-- R200: PSC_CMD OP OLCHECK runs one off-state open-load check in OFF. -/
  | pscOlcheck (n : Fin 40) (r : Req) (vi : Option Nat)
  /-- R192: A command frame reaching the power die is applied in its 1 µs cycle and acknowledged. -/
  | pscCommandApply (f : Fin 2) (crcOk : Bool) (other : Option (Fin 40 × Fin 16))
  /-- R190: An acknowledgement from the die clears CMDPEND. -/
  | pscAckReceive (f : Fin 2) (crcOk : Bool)
  /-- R190: No acknowledgement in 3 µs resends the frame, failing the command after three resends. -/
  | pscAckTimeout (f : Fin 2)
  /-- R198: A measurement sample from the die updates PSC_CUR and PSC_VOUT. -/
  | pscSample (m : PscSample)
  /-- R197: A low-range channel above 550 mA switches to the normal range, and returns after 1 ms below 450 mA. -/
  | pscRangeSwitch (n : Fin 40)
  /-- R202: OCFILT + 1 samples above the threshold switch the channel off to RETRY or LATCHED. -/
  | pscOvercurrent (n : Fin 40) (samples : List Nat)
  /-- R204: A channel in current limit for its class time switches off with cause 2. -/
  | pscShortCircuit (n : Fin 40)
  /-- R205: A group at 170 °C switches off its ON and PWM channels with cause 5. -/
  | pscGroupOvertemp (g : Fin 10) (t : Int)
  /-- R206: Every millisecond the I²t wire model of each channel is updated, warning or tripping. -/
  | i2tUpdate (n : Fin 40) (sumSq : Nat)
  /-- R194: A retry falls due after its delay and group cooling, switching the channel back on. -/
  | pscRetryDue (n : Fin 40)
  /-- R194: 1 s in ON or PWM without a fault restores RLEFT to RETRY. -/
  | pscRetryRestore (n : Fin 40)
  /-- R211: An output below −2 V at switch-off counts a clamp event, latching on too many per second. -/
  | pscClampEvent (n : Fin 40)
  /-- R195: A channel PWM period starts on, applying any new PSC_PWMC. -/
  | pscPwmPeriod (n : Fin 40) (off : Bool)
  /-- R200: An off-state check starts 10 ms after OFF or every 100 ms, testing for short to supply and enabling the pull-up. -/
  | offstateCheckStart (n : Fin 40) (periodic : Bool) (v : Int)
  /-- R200: After the settle time the output is compared for open load and the pull-up disabled. -/
  | offstateCheckSettled (n : Fin 40) (v : Int)
  /-- R201: 10 ms of low-range samples below ONOLTHR in ON declares an on-state open load. -/
  | onstateOpenLoad (n : Fin 40) (largest : Nat)
  /-- R212: Feed current or a group temperature over its limit for SHEDDLY ms sheds one channel by priority. -/
  | pscShed (f : Fin 2) (hot : Option (Fin 10))
  /-- R215: After 1 s with margin the die restores the next shed channel. -/
  | pscRestore (f : Fin 2)
  /-- R199: Every millisecond the PSC sequencer writes a 256-byte record into its SRAM ring. -/
  | pscRecordWrite (parity : Bool)
  /-- R218: After a core-die reset the PSC block loads its mirror from each die, or writes it to an unconfigured die. -/
  | pscMirrorLoad (f : Fin 2)
  /-- R219: A feed below 4.0 V for 10 µs resets its die, switching every channel OFF. -/
  | feedPowerOnReset (f : Fin 2)
  /-- R219: A feed above 5.0 V restarts the die and the PSC block writes its mirror. -/
  | feedRestart (f : Fin 2)
  /-- R220: A feed between 4.5 V and 6.0 V sets UV with channels kept. -/
  | feedUndervoltage (f : Fin 2) (vpwr : Nat)
  /-- R220: A feed above 18 V sets OV and raises cause 8 once per excursion. -/
  | feedOvervoltage (f : Fin 2) (vpwr : Nat)
  /-- R253: A port's link failure is declared and the port enters its hold. -/
  | portLinkDown (p : Fin 18)
  /-- R229: A port declares link up and sends from its queues. -/
  | portLinkUp (p : Fin 18) (speed sqi : Nat)
  /-- R253: The hold expiring before link-up flushes every queued frame and sets the port down. -/
  | portHoldExpiry (p : Fin 18)
  /-- R254: Clearing EPORT_CFG.EN discards every queued frame of the port at once. -/
  | portDisable (p : Fin 22)
  /-- R230: A follower without a beacon for 4 ms reports PLCA status lost and declares link down. -/
  | plcaBeaconTimeout (p : Fin 4)
  /-- R230: The coordinator sends a beacon each PLCA cycle. -/
  | plcaBeacon (p : Fin 4)
  /-- R237: A frame received whole at a port is filtered, classified, looked up, sampled, admitted and learned. -/
  | frameReceive (p : Fin 22) (rx : EthRx)
  /-- R255: An egress port starts sending from its highest eligible queue, discarding aged or too-long frames. -/
  | frameTransmit (p : Fin 22)
  /-- R250: A frame from an internal port waiting for cells is admitted when cells are free. -/
  | internalIngressResume (p : Fin 4)
  /-- R255: The operating gate list moves to its next entry at its GTB time. -/
  | gateEntryAdvance (p : Fin 18)
  /-- R256: A write of 1 to EPORT_GCLCTL.CHANGE sets PEND and computes the change time. -/
  | gclChangeWrite (p : Fin 18)
  /-- R256: At the change time the new gate list becomes operating and source 232 + p cause 4 is raised. -/
  | gateListChange (p : Fin 18)
  /-- R261: A write of 1 to ESW_SGCTL.CHANGE schedules a new stream gate list. -/
  | streamGateChangeWrite (g : Fin 64)
  /-- R261: At its change time a stream gate list is applied. -/
  | streamGateListChange (g : Fin 64)
  /-- R261: A stream gate list moves to its next entry. -/
  | streamGateEntryAdvance (g : Fin 64)
  /-- R243: ESW_FDBCMD READ copies the entry of ESW_FDBKEY into ESW_FDBDATA. -/
  | fdbRead
  /-- R243: ESW_FDBCMD WRITE writes an entry, replacing the oldest dynamic way if needed. -/
  | fdbWrite
  /-- R243: ESW_FDBCMD DELETE removes an entry. -/
  | fdbDelete
  /-- R243: ESW_FDBCMD FLUSH removes entries whose ports lie within the mask. -/
  | fdbFlush
  /-- R243: ESW_FDBCMD INVCACHE invalidates every lookup cache line. -/
  | fdbInvcache
  /-- R243: ESW_FDBCMD FENCE completes when every earlier lookup's frame is queued or discarded. -/
  | fdbFence
  /-- R244: A forwarding-table command completes, GO reads 0 and later lookups see its effect. -/
  | fdbCommandComplete
  /-- R245: A write to ESW_FDBWIN word 0 or 1 invalidates the entry, and word 2 sets it whole. -/
  | fdbWindowWrite (i : Fin 16384) (w : Fin 3) (v : Nat)
  /-- R245: A lookup cache line expires 10 ms after it is filled. -/
  | fdbCacheExpiry (key : Nat)
  /-- R241: Ageing removes dynamic entries not refreshed for AGETIME. -/
  | fdbAgeSweep
  /-- R249: A write of 1 to ESW_PINCFG.REVERT restores the hash paths while both ports are up. -/
  | pinRevert (k : Fin 4)
  /-- R249: When the returning port's queues may send, REVERT clears and source 258 cause 2 is raised. -/
  | pinRevertComplete (k : Fin 4)
  /-- R264: A recovery function without a frame for RESETMS ms resets. -/
  | frerRecoveryReset (r : Fin 512)
  /-- R266: The mirror/sample port writes a 160-byte sample record into its SRAM ring. -/
  | sampleRecordWrite (parity : Bool)
  /-- R279: A write of CAN_CTL.EN = 1 checks the configuration and starts the controller or sets CFGERR. -/
  | canStart (c : Fin 16)
  /-- R284: A received frame becomes valid and is filtered into the first accepting receive object or gateway. -/
  | canFrameValid (c : Fin 16) (f : CanFrame) (age : Nat)
  /-- R285: A taken frame is written into its object under the SEQ protocol and FULL set. -/
  | canObjectWrite (c : Fin 16)
  /-- R287: A write of 1 to CAN_OBJCTL.TXREQ requests transmission of an enabled send object. -/
  | canTxreq (c : Fin 16) (o : Fin 128)
  /-- R287: At the start of arbitration the controller takes the requested frame that would win. -/
  | canArbitrationStart (c : Fin 16)
  /-- R290: A successful transmission clears TXREQ, sets DONE and stamps the object. -/
  | canTxSuccess (c : Fin 16) (tdcv : Fin 256)
  /-- R291: A transmission error updates the error counters and state and retransmits or fails under DAR. -/
  | canTxError (c : Fin 16) (lec : Fin 7) (data : Bool) (count : Bool) (tdcv : Option (Fin 256))
  /-- R290: Lost arbitration leads to retry at the next arbitration or fails under DAR. -/
  | canArbitrationLost (c : Fin 16)
  /-- R290: A write of 1 to ABORT on an object not being transmitted clears TXREQ and sets FAIL. -/
  | canAbort (c : Fin 16) (o : Fin 128)
  /-- R291: A write of 1 to CAN_CTL.BORECOV starts counting the bus-off recovery sequences. -/
  | canBusoffRecover (c : Fin 16)
  /-- R291: After 128 sequences of 11 recessive bits the controller leaves bus-off. -/
  | canBusoffRecovered (c : Fin 16)
  /-- R292: A change of LOM takes effect at the next bus idle. -/
  | canLomApply (c : Fin 16)
  /-- R294: TXD dominant for 2.5 ms releases the bus, sets TXDTO and raises cause 5. -/
  | canTxdTimeout (c : Fin 16)
  /-- R296: A trigger firing or TAKE latches CAN_STAMP with the GTB and increments CNT. -/
  | canCorrelation (c : Fin 16) (take : Bool)
  /-- R299: A sleeping transceiver with WAKEEN reports a qualifying dominant phase as a wake. -/
  | busWakeDetect (b : Fin 24)
  /-- R300: A transceiver above 175 °C releases its bus and reports over-temperature. -/
  | transceiverOvertemp (b : Fin 24)
  /-- R300: A transceiver cooled 10 °C resumes. -/
  | transceiverOvertempEnd (b : Fin 24)
  /-- R306: A commander starts a schedule slot by sending the entry's header. -/
  | linSlotStart (l : Fin 8)
  /-- R303: A responder accepts a header within the sync tolerance and publishes, subscribes or ignores. -/
  | linHeaderReceive (l : Fin 8) (id : Fin 64) (div : Nat)
  /-- R305: A complete good response is stored or sent, SEQ incremented and NEW set. -/
  | linResponseComplete (l : Fin 8) (bytes : List Nat) (cks : Nat) (err : Nat)
  /-- R305: A response incomplete after its time is counted as no response or incomplete. -/
  | linResponseTimeout (l : Fin 8) (got : Nat)
  /-- R299: A write of 1 to LIN_CTL.WAKE in normal mode sends a 1 ms dominant pulse. -/
  | linWakePulse (l : Fin 8)
  /-- R318: CRS_CTL.EN becoming 1 sends the AZC's alive message. -/
  | carouselEnable
  /-- R316: A Carousel message is received and acted on for rounds, joins, readiness, sleep and keepers. -/
  | carouselMessageReceive (bytes : List Nat)
  /-- R315: A received local message is relayed to the other ring buses and port 19. -/
  | carouselRelay (from_ : Option (Fin 16)) (bytes : List Nat)
  /-- R316: The AZC sends its ring message 0.5 to 1 ms after its predecessor's. -/
  | carouselSend (bb : Bool)
  /-- R317: SLOTTO × 2 ms without the expected member removes it and the next member sends. -/
  | carouselSlotTimeout (bb : Bool)
  /-- R318: No ring message after an alive message lets the lowest node form the ring. -/
  | carouselFormTimeout (bb : Bool)
  /-- R320: A write of CRS_CTL.CONSENT sets the vote, sending a cancelling message in prepare. -/
  | consentWrite (v : Bool)
  /-- R329: A withholding run passing KEEPLIM raises source 266 cause 2. -/
  | keeperLimit (i : Fin 64)
  /-- R323: Prepare expiring ends LIN schedules and sends go-to-sleep frames. -/
  | prepareExpiry
  /-- R323: After the go-to-sleep frames ZONE_OK drops and transceivers and PHYs enter sleep. -/
  | sleepTransceiversOff
  /-- R323: 5 ms later the interface die switches off the core and mixed-signal dies. -/
  | sleepCorePowerOff
  /-- R325: A wake report in sleep starts bring-up within 50 µs. -/
  | wakeReport (b : Fin 40)
  /-- R327: WAKEWIN expiring counts false wakes and returns to sleep if FWRET and no confirmation. -/
  | wakeWindowExpiry
  /-- R334: A write of CRS_ZOK.REQ = 1 restarts the watchdog and raises ZONE_OK if every condition holds. -/
  | zoneOkRequest
  /-- R333: A write of CRS_ZOK.DROP = 1 drives ZONE_OK low. -/
  | zoneOkDrop
  /-- R333: WDT expiring without REQ drives ZONE_OK low with cause 2. -/
  | zoneOkWatchdog
  /-- R339: A CAN, LIN or Ethernet PDU is handed to the gateway and enters its class receive buffer or is discarded. -/
  | gwPduReceive (src : GwSrc)
  /-- R346: A receive PDU is matched to its layout, copied and routed into transmit images. -/
  | gwPduProcess
  /-- R347: A trigger firing makes a cyclic transmit layout due. -/
  | gwLayoutCyclicDue (l : Fin 4096)
  /-- R347: The MINGAP interval ending makes a waiting on-write or on-change layout due. -/
  | gwMingapExpiry (l : Fin 4096)
  /-- R348: A due transmit layout is formed from its image and sent to its sink. -/
  | gwPduForm
  /-- R348: A pending CAN layout is formed again when its object's TXREQ clears. -/
  | gwSinkReady (l : Fin 4096)
  /-- R355: A write of 1 to GW_FENCE.GO starts a fence over started PDUs and formations. -/
  | gwFence
  /-- R355: The fence completes, GO reads 0 and source 281 is raised. -/
  | gwFenceComplete
  /-- R353: A write of the committing word of a gateway layout, conversion or header applies its held words. -/
  | tableEntryCommitWrite (addr value : Nat)
  /-- R358: An inbound TLP is matched to a BAR, window or instance page and issued on the fabric or refused. -/
  | pcieInboundRequest (x : PcieIn)
  /-- R360: A fabric access to the PCIe range is matched to an outbound window and sent as a TLP. -/
  | pcieOutboundRequest (r : Req) (acc : AccKind) (addr size value : Nat)
  /-- R363: A completion for an outbound read is delivered to its initiator by tag. -/
  | pcieCompletion (tag : Nat) (status : Fin 3) (bytes : List Nat)
  /-- R364: An outbound read without completion in CTO returns an error response. -/
  | pcieCompletionTimeout (tag : Nat)
  /-- R364: The PCIe link comes up and source 288 cause 1 is raised. -/
  | pcieLinkUp (gen width ltssm : Nat)
  /-- R364: The link goes down, discarding posted writes and failing non-posted requests. -/
  | pcieLinkDown (ltssm : Nat)
  /-- R365: A function level reset discards the function's requests and resets its bound instance or PF0's windows. -/
  | pcieFunctionLevelReset (f : Fin 256)
  /-- R356: The host changes VF enable and NumVFs, raising source 292. -/
  | pcieVfEnable (en : Bool) (num : Fin 256)
  /-- R615: PCIE_PERST_N low as endpoint holds the PCIe block in reset. -/
  | pciePerst (low : Bool)
  /-- R370: A write of 1 to PCIE_CTL.RETRAIN retrains the link. -/
  | pcieRetrain
  /-- R370: A write to PCIE_PFIRQ raises the named PF0 MSI-X vectors. -/
  | pciePfMsix (vectors : Nat)
  /-- R371: An application core executes a standard RISC-V instruction under its profile and attributes. -/
  | rvInstruction (c : Fin 8) (o : RvObs)
  /-- R395: MRET to a lower mode changes the world and resolves the shadow, taking a pending interrupt first. -/
  | mret (c : Fin 8) (o : RvObs)
  /-- R388: WCALL raises the world call exception to M-mode. -/
  | wcall (c : Fin 8) (o : RvObs)
  /-- R392: CKPT requests a checkpoint in a pair, no effect unpaired. -/
  | ckpt (c : Fin 8) (o : RvObs)
  /-- R389: AGREE.LD reads 8 bytes uncached and gives both copies the lead's value. -/
  | agreeLd (c : Fin 8) (o : RvObs)
  /-- R389: AGREE.RND returns 64 agreed random bits. -/
  | agreeRnd (c : Fin 8) (o : RvObs)
  /-- R389: AGREE.CYC returns the lead copy's mcycle. -/
  | agreeCyc (c : Fin 8) (o : RvObs)
  /-- R390: GTBRD returns the GTB nanoseconds over a dedicated path. -/
  | gtbrd (c : Fin 8) (o : RvObs)
  /-- R390: GTBRD.X returns the fraction and quality of the last GTBRD. -/
  | gtbrdX (c : Fin 8) (o : RvObs)
  /-- R391: EVPOST raises source 32 + c with rs1 as its log word. -/
  | evpost (c : Fin 8) (o : RvObs)
  /-- R398: A read of mhjvclaim claims and clears the lowest pending Inner source. -/
  | claimReadInner (c : Fin 8) (o : RvObs)
  /-- R398: A read of shjvclaim claims the lowest pending Outer source while CUR = 0. -/
  | claimReadOuter (c : Fin 8) (o : RvObs)
  /-- R400: A core takes the highest pending enabled interrupt. -/
  | interruptTake (c : Fin 8)
  /-- R399: time reaching mhjvtcmp or shjvtcmp sets MTIP or STIP. -/
  | timerCompareMatch (c : Fin 8)
  /-- R384: A write of 1 to mhjvctl.PFLUSH invalidates every predictor entry. -/
  | predictorFlush (c : Fin 8) (o : RvObs)
  /-- R380: An error response to an I/O store or write-back sets mhjvberr and raises MBEI. -/
  | storeErrorResponse (c : Fin 8) (inner : Bool) (addr : Nat)
  /-- R412: The release buffer compares an access from both copies and releases it once. -/
  | pairAccessRelease (n : Fin 4) (agree : Bool) (ecc : EccObs)
  /-- R422: The shadow not producing or reaching K within LAGTO is a lag mismatch. -/
  | pairLagTimeout (n : Fin 4)
  /-- R418: Both copies stop at K, snapshot and compare signatures. -/
  | checkpoint (n : Fin 4) (sigOk : Bool)
  /-- R419: The snapshot write completes, the slot becomes committed and the journal is freed. -/
  | checkpointCommit (n : Fin 4)
  /-- R424: Both copies hold the committed checkpoint and start the replay. -/
  | pairRestoreDone (n : Fin 4) (crcOk : Bool)
  /-- R425: The replay hash is checked and fresh inputs and release resume, raising cause 7. -/
  | pairReplayEnd (n : Fin 4) (hashOk : Bool)
  /-- R431: A debug halt stops the lead after count K and the shadow at K. -/
  | debugHalt (c : Fin 8)
  /-- R430: A debug resume is applied to the lead and journalled for the shadow. -/
  | debugResume (c : Fin 8)
  /-- R430: A debug single step is applied to the lead and journalled. -/
  | debugStep (c : Fin 8)
  /-- R430: An abstract register write is applied and journalled, busy while the journal is full. -/
  | debugAbstractWrite (c : Fin 8) (reg value : Nat)
  /-- R431: Program buffer execution runs with its accesses through the release buffer. -/
  | debugProgramBuffer (c : Fin 8) (words : List Nat) (o : RvObs)
  /-- R542: A debug ndmreset starts a warm reset. -/
  | debugNdmreset
  /-- R454: A write to RGN_RCTL applies the region at checker, permission copies and control-lane ports. -/
  | regionCtlWrite (r : Req) (t : Fin 17) (k : Fin 32) (v : Nat)
  /-- R448: A write of RGN_IGRP reassigns initiator groups and worlds at every copy. -/
  | igrpWrite (r : Req) (k : Fin 8) (v : Nat)
  /-- R455: A write of 1 to RGN_CTL.FENCE waits for every earlier checked request to reach its target. -/
  | regionFence
  /-- R455: The region fence completes and FENCE reads 0. -/
  | regionFenceComplete
  /-- R443: The patrol scrubber reads one line of SRAM and eNVM every PERIOD × 100 ns. -/
  | scrubLine (envm : Bool) (e : EccObs)
  /-- R461: A hart's world watchdog expires after TIMEOUT × 10 µs in the Inner world. -/
  | worldWatchdogExpiry (h : Fin 8)
  /-- R461: A write of 1 to RGN_WWDT.KICK by the hart restarts its watchdog. -/
  | watchdogKick (h : Fin 8) (r : Req)
  /-- R464: Compass takes up a restart, stops the hart and saves its Outer state. -/
  | innerWorldRestartBegin (h : Fin 8)
  /-- R464: After reload and remeasure the hart starts at the restart entry, or is stopped on a mismatch. -/
  | innerWorldRestartComplete (h : Fin 8)
  /-- R487: VIM CREATE gives an instance a new generation, binds it and makes it ACTIVE. -/
  | vimCreate (i : Fin 256)
  /-- R488: VIM ATTACH checks and gives a resource to an instance. -/
  | vimAttach (i : Fin 256) (kind : Fin 8) (slot : Fin 32)
  /-- R492: VIM DETACH drains a resource and takes it from the instance. -/
  | vimDetach (i : Fin 256) (kind : Fin 8) (slot : Fin 32)
  /-- R492: VIM QUIESCE stops new work on every resource of an instance. -/
  | vimQuiesce (i : Fin 256)
  /-- R492: Nothing outstanding or QTO expired makes the instance QUIESCED. -/
  | vimQuiesceComplete (i : Fin 256) (expired : Bool)
  /-- R485: VIM RESUME makes a quiesced instance ACTIVE again. -/
  | vimResume (i : Fin 256)
  /-- R490: VIM RESET performs an instance reset. -/
  | vimReset (i : Fin 256)
  /-- R493: VIM MIGRATE moves a quiesced instance to a new function with a new generation. -/
  | vimMigrate (i : Fin 256) (bind : Fin 4) (fn : Fin 256)
  /-- R494: VIM TAKEDOWN detaches and scrubs everything and frees the instance. -/
  | vimTakedown (i : Fin 256)
  /-- R489: A generation change delayed by the 1 ms spacing takes place. -/
  | vimGenChangeDue (i : Fin 256)
  /-- R495: A direct write to a map register of an attached resource applies without drain. -/
  | vimMapWrite (addr value : Nat)
  /-- R490: A write of 1 to VI_CTL.RESET resets the instance. -/
  | viTenantReset (i : Fin 256)
  /-- R490: The instance reset ends, fields marked I restored and source 15 cause 4 raised. -/
  | viResetComplete (i : Fin 256)
  /-- R478: A write to a ring TAIL hands descriptors to the AZC. -/
  | viDoorbell (i : Fin 256) (rx : Bool) (slot : Fin 16) (tail : Fin 4096)
  /-- R479: The core port fetches a transmit descriptor and sends or refuses its frame, then writes it back. -/
  | viTxFrame (i : Fin 256) (slot : Fin 16) (parity : Bool)
  /-- R480: A frame delivered to a core port is steered to matching instance slots and written into their rings. -/
  | viRxDeliver (p : Fin 2) (parity : List (Fin 256 × Fin 16))
  /-- R482: The token bucket refill lets an instance's waiting access proceed. -/
  | viBucketRefill (i : Fin 256)
  /-- R501: A write of CLAIM to a FREE channel makes it OWNED by the writer. -/
  | mbxClaim (m : Fin 8) (r : Req)
  /-- R503: A write of GO with OPCODE queues the command. -/
  | mbxGo (m : Fin 8) (r : Req) (op : Fin 256)
  /-- R505: A write of RELEASE frees the channel or dequeues its command. -/
  | mbxRelease (m : Fin 8) (r : Req)
  /-- R505: A channel idle for 100 ms is reclaimed and source 302 raised. -/
  | mbxReclaimTimeout (m : Fin 8)
  /-- R504: Compass writes results and ERR, sets DONE and raises source 296. -/
  | mbxCommandComplete
  /-- R510: Compass returns SYS_ID, state, ROM version and device ID. -/
  | getInfo (m : Fin 8)
  /-- R510: Compass returns bank, version and boot status. -/
  | getBootstat (m : Fin 8)
  /-- R510: Compass returns its arguments. -/
  | echo (m : Fin 8)
  /-- R513: Compass provisions the device secret and ID, moving BLANK to MAKER. -/
  | provDevid (m : Fin 8) (secret attest devId : Nat)
  /-- R513: Compass advances the life cycle MAKER to OEM_DEV or OEM_DEV to FIELD. -/
  | lcAdvance (m : Fin 8)
  /-- R513: Compass moves to RETURN with erasure under a return token. -/
  | lcReturn (m : Fin 8)
  /-- R513: Compass moves to END erasing the device secret. -/
  | lcEnd (m : Fin 8)
  /-- R514: Compass issues a 256-bit nonce for a token. -/
  | lcChallenge (m : Fin 8) (nonce : List Nat)
  /-- R514: A nonce lapses 60 s after it was issued. -/
  | nonceExpiry
  /-- R512: Compass opens the debug port in FIELD under an unlock token. -/
  | dbgUnlock (m : Fin 8)
  /-- R510: Compass writes a root-key digest into a slot. -/
  | provRootkey (m : Fin 8)
  /-- R514: Compass revokes a root-key slot under a revocation token. -/
  | keyRevoke (m : Fin 8)
  /-- R510: Compass copies a measurement slot into a buffer. -/
  | measRead (m : Fin 8)
  /-- R522: Compass extends slot 4 to 7 with a digest. -/
  | measExtend (m : Fin 8)
  /-- R523: Compass writes a signed quote of the selected slots. -/
  | quote (m : Fin 8)
  /-- R523: Compass writes the attestation certificate chain. -/
  | getCert (m : Fin 8)
  /-- R510: Compass verifies a signed blob and optionally extends a slot. -/
  | verifyImage (m : Fin 8)
  /-- R524: Compass opens the non-booted bank and copies the settings record. -/
  | updBegin (m : Fin 8) (nvmOk : Bool)
  /-- R524: Compass programs buffer data into the open bank. -/
  | updWrite (m : Fin 8) (nvmOk : Bool)
  /-- R524: Compass programs flash data into the open bank. -/
  | updFromXspi (m : Fin 8) (data : Option (List Nat)) (nvmOk : Bool)
  /-- R524: Compass verifies the open bank and sets VERIFIED. -/
  | updVerify (m : Fin 8) (bad : List Nat)
  /-- R524: Compass makes the verified bank pending with its tries. -/
  | updActivate (m : Fin 8)
  /-- R525: Compass makes the trial bank active and raises the rollback counter. -/
  | updConfirm (m : Fin 8)
  /-- R525: Compass makes the other bank pending with one try. -/
  | updRevert (m : Fin 8)
  /-- R510: Compass returns a settings record word. -/
  | cfgRead (m : Fin 8)
  /-- R526: Compass changes masked bits of a settings word and commits both copies. -/
  | cfgWrite (m : Fin 8) (nvmOk : Bool)
  /-- R510: Compass rewrites an eNVM page that holds correctable errors. -/
  | envmRefresh (m : Fin 8) (corrected : Nat) (ecc : EccObs) (nvmOk : Bool)
  /-- R510: Compass writes the persistent event entries into a buffer. -/
  | persistRead (m : Fin 8)
  /-- R510: Compass clears the persistent event area. -/
  | persistClear (m : Fin 8)
  /-- R458: Compass checks, releases, resets, scrubs, grants and re-routes a resource for a new owner. -/
  | handover (m : Fin 8) (late : List (Fin 119))
  /-- R510: Compass starts an Inner-world restart of a hart with reason 4. -/
  | innerRestart (m : Fin 8)
  /-- R510: Compass begins a warm or cold reset. -/
  | resetReq (m : Fin 8)
  /-- R578: Compass runs a self-test on request. -/
  | stRun (m : Fin 8) (flaky bad : List Nat) (ok : Bool) (sig : Nat)
  /-- R580: Compass stops operation, clears secrets and memories and enables scan. -/
  | scanEnable (m : Fin 8)
  /-- R510: Compass wraps a key with a derived key. -/
  | keyWrap (m : Fin 8)
  /-- R510: Compass unwraps a key, checking its integrity. -/
  | keyUnwrap (m : Fin 8)
  /-- R510: Compass writes random bytes into a buffer. -/
  | rng (m : Fin 8) (bytes : List Nat)
  /-- R510: Compass initialises the external flash. -/
  | xspiInit (m : Fin 8) (found : Option (Fin 4294967296 × Fin 4294967296))
  /-- R510: Compass reads external flash into SRAM. -/
  | xspiRead (m : Fin 8) (data : Option (List Nat))
  /-- R510: Compass programs external flash from SRAM. -/
  | xspiProgram (m : Fin 8) (ok : Bool)
  /-- R510: Compass starts an erase of external flash. -/
  | xspiErase (m : Fin 8) (ok : Bool)
  /-- R510: The flash device completes its erase and xSPI commands are accepted again. -/
  | xspiEraseDone
  /-- R520: The manager core chooses, verifies, loads and starts a bank or enters recovery mode. -/
  | secureBoot (bad : List Nat) (us : Nat)
  /-- R531: VBAT at or above 6.0 V for 100 µs after a loss starts a power-on reset. -/
  | vbatValid
  /-- R531: VBAT below 4.5 V for 20 µs stops the regulators and moves the backup domain to VBAK. -/
  | vbatLoss
  /-- R532: VBAT below 8.0 V sets VBATLO and reduced function. -/
  | vbatLow (v : Fin 256)
  /-- R530: VBAT above 16 V sets VBATHI and raises source 2 cause 2. -/
  | vbatHigh (v : Fin 256)
  /-- R532: VBAT back in range clears the flags and raises source 2 cause 3. -/
  | vbatNormal (v : Fin 256)
  /-- R534: Clearing a Run bit of PWR_DOMCTL idles and powers the domain off. -/
  | domainOff (d : Fin 24)
  /-- R535: Setting a Run bit powers the domain up with a domain reset and recalibration. -/
  | domainOn (d : Fin 24) (failed : List (Fin 177)) (cals : List (Nat × Nat × Nat))
  /-- R536: Each millisecond in mode 0b01 the set point steps down above TLIM or back up below it. -/
  | vcoreThermalStep (tj : Int)
  /-- R537: The arbiter switches the backup domain to VBAK and records source 3 cause 1. -/
  | backupToVbak
  /-- R537: After 50 µs of VBAT above 5.0 V the arbiter switches back to the VBAT rail. -/
  | backupToVbat
  /-- R538: VDD_BAK below 2.0 V for 5 µs clears CONT. -/
  | backupContinuityLoss (mv : Nat)
  /-- R539: VDD_BAK below 1.6 V for 10 µs resets the backup domain and invalidates its records. -/
  | backupPor
  /-- R540: At each backup tick the GTB island writes a GTB record copy. -/
  | backupGtbRecord (mv : Nat) (crcOk : Bool)
  /-- R542: A power-on reset acts as a cold reset on unpowered dies and starts bring-up. -/
  | powerOnReset (src : Fin 16)
  /-- R21: VDD_CORE below 0.64 V applies a power-on reset to the core die. -/
  | vddCoreCollapse
  /-- R542: A cold reset restores fields marked C, W, B and I, zeroes SRAM and starts bring-up. -/
  | coldReset (src : Fin 16)
  /-- R542: A warm reset restores fields marked W, B and I and starts bring-up. -/
  | warmReset (src : Fin 16)
  /-- R544: An accepted RESET_N low pulse starts a reset of PINKIND. -/
  | resetPinAssert
  /-- R544: RESET_N high for 10 µs ends the held reset. -/
  | resetPinRelease
  /-- R547: A write of RST_BLKRST.GO asks a block to go idle before resetting it. -/
  | blockReset
  /-- R548: The block reaches idle and is reset within 1 µs. -/
  | blockIdleReached
  /-- R547: The idle timeout forces the reset, counting FORCED and raising source 9. -/
  | blockIdleTimeout
  /-- R551: A calibration ends, applying pending PHYEN or marking the block unusable on failure. -/
  | calibrationDone (item : Option (Fin 177)) (ok : Bool) (cal : Nat × Nat)
  /-- R551: After boot SYS_READY reaches CAN-ready and source 1 cause 2 is raised. -/
  | canReady (t : Nat)
  /-- R551: Every calibration and power-up test ended brings SYS_READY to fully ready. -/
  | fullyReady (t : Nat) (peer : Bool)
  /-- R563: Every 10 µs the STE evaluates its conditions, aborting slices or reporting overdue. -/
  | steConditionCheck (rcOk : Bool)
  /-- R566: At its period a block takes one copy out for a test slice. -/
  | steSliceStart (u : Fin 58)
  /-- R571: A slice ends with its signature compared, rejoining, retesting or failing the copy. -/
  | steSliceEnd (u : Fin 58) (ok : Bool)
  /-- R575: A power-up test ends, marking its item unusable on failure. -/
  | powerupTestDone (item : Fin 179) (e : TestEnd)
  /-- R122: A level change on PWM_TRIP0_N to PWM_TRIP3_N that lasts the 20 ns filter asserts or releases that ball's trip line, tripping the pairs that select it. -/
  | externalTripBallChange (i : Fin 4) (level : Bool)
  /-- R104: The fast sigma-delta filter output returning within HI and LO releases its trip line, ending the source's active state for cycle-by-cycle trips and TRIPCLR. -/
  | sdfFastTripRelease (m : Fin 4) (levels : List (Bool × Bool)) (parity : Bool × Bool)
  /-- R105: An edge returning on SD_CLKm after a clock loss releases the fast-filter trip line held under R105. -/
  | sdfClockReturn (m : Fin 4)
  /-- R291: An error detected on a frame being received raises the receive error counter and may move the controller to error passive or back. -/
  | canRxError (c : Fin 16) (lec : Fin 7) (data : Bool) (inc : Fin 9)
  /-- R277: A recessive res bit with PXHD = 0 makes the controller enter protocol exception, set CAN_STAT.PXE and raise source 192 + 2c with cause 4. -/
  | canProtocolException (c : Fin 16)
  /-- R279: After a good start the controller sees 11 recessive bits and leaves the integrating state to take part in traffic. -/
  | canIntegrationDone (c : Fin 16)
  /-- R294: TXD recessive for 1 µs ends the transceiver's release of the bus after a TXD dominant timeout. -/
  | canBusReleaseEnd (c : Fin 16)
  /-- R307: A LIN transmitter held dominant too long releases its bus, sets LIN_STAT.TXDTO and raises source 224 + l with cause 4. -/
  | linTxdTimeout (l : Fin 8)
  /-- R539: VBAK falling below 2.5 V while VBAT is present sets PWR_STAT.BAKLOW and raises source 3 with cause 2. -/
  | vbakLow (v : Fin 256)
  deriving DecidableEq, Repr

end Sys2Proof
end

