-- ==== Sys2Proof/Decode.lean ====
section
/-! DEFINITION. Commands from words: no row of spec/opcode_table.json has bits, so that no word spells a command (log entry 2). -/

namespace Sys2Proof

/-- The command that a word of `nbits` bits spells by the table. -/
def decodeTableWord (_nbits _w : Nat) : Option Instr := none

end Sys2Proof
end

