-- ==== Sys2Proof/Config.lean ====
section
/-! DEFINITION. What an implementation fixes and what the spec leaves open: constants without a body,
so that no proof can see a value the spec does not state. -/

namespace Sys2Proof.Config

/-- The rate that the hardware PI servo sets for an offset in ns with gains KP and KI (R46 to R48 name the servo
and its gains and state no equation): a free value of the counter of draws, the offset and the gains (log entry 4). -/
opaque servoRate : Nat → Int → Nat → Nat → Int

/-- The value of a running PWM counter at the crossing of a read into its island (R132): the model keeps no island clock, so it is a
free value of the counter of draws (log entry 10). -/
opaque pwmCount : Nat → Nat

/-- A result of a sigma-delta filter that is not settled, of which R102 states no value: a free value of the counter of draws (log entry 129). -/
opaque sdfUnsettled : Nat → BitVec 32

/-- EVAL after TLIMIT and BRK, for which R152 names no content: a free value of the counter of draws (log entry 11). -/
opaque tgEval : Nat → Nat

/-- A draw of a port's 31-bit LFSR, whose polynomial and seed R251 does not state: a free value of the counter of draws (log entry 13). -/
opaque ethDraw : Nat → BitVec 31

/-- Whether a lookup finds the line that a lookup cache has held for less than 10 ms: R245 bounds the life of a line and states no placement, so it
is a free value of the counter of draws (log entry 14). -/
opaque cacheHit : Nat → Bool

/-- The value from 119 to 127 to which ISO 11898-1 sets a receive error counter above 127 at a frame received without error (R291 names the standard):
119 plus this free value of the counter of draws (log entry 17). -/
opaque canRec : Nat → Fin 9

/-- The type of service, the don't-fragment flag and the identification of an IPv4 header that the gateway builds, which R341 does not state: a free value
of the counter of draws (log entry 18). -/
opaque ipHeader : Nat → BitVec 25

/-- SHA-384 of a list of bytes (R519, R522): the standard's function, not computed here (log entry 26). -/
opaque sha384 : List Nat → BitVec 384

/-- Whether a signature over a message verifies under a public key, for scheme 0 (LMS and HSS) and 1 (ECDSA P-384) of a manifest, and for a token for
2 plus the type word of its root-key slot, 2 for Hjelvy's key (R514, R519): the standards' function, not computed here (log entry 26). -/
opaque sigOk : Nat → List Nat → List Nat → List Nat → Bool

/-- An ECDSA P-384 signature r and s made with a private key over a digest: a free value of the counter of draws too (R523; log entry 26). -/
opaque sign : Nat → Nat → List Nat → BitVec 768

/-- A signed blob checked under a root-key slot, in a layout that the spec does not state: 1 where the signature fails, 2 where a digest differs; its security version, and
the digest that extends a slot (R510 VERIFY_IMAGE; log entry 30). -/
opaque signedBlob : List Nat → List Nat → Fin 3 × BitVec 32 × BitVec 384

/-- AES-256 key wrap with padding and its inverse, under the key derived from device secret, salt, world, group and label (R510; log entry 26). -/
opaque keyWrap : Nat → Nat → Bool → Nat → Nat → List Nat → List Nat
opaque keyUnwrap : Nat → Nat → Bool → Nat → Nat → List Nat → Option (List Nat)

/-- Hjelvy's public key in the Compass ROM, and the ROM version, fixed at manufacture (R441, R512, R514; log entry 27). -/
opaque makerKey : List Nat
opaque romVersion : BitVec 32

/-- The bytes of the Compass ROM, fixed at manufacture (R441; log entry 27). -/
opaque rom : Nat → BitVec 8

/-- The X.509 certificate chain of an attestation key (R523; log entry 27). -/
opaque certChain : Nat → Nat → List Nat

/-- The body of a message of the time engine behind its EtherType, byte by byte, from its kind, slot, sequence number, time and correction: the layout is that of IEEE
802.1AS, which the spec does not restate (R46; log entry 135). -/
opaque ptpBody : Nat → Nat → Nat → Nat → Int → Nat → BitVec 8

/-- The source address of the frames that the time engine sends on a port (R46; log entry 135). -/
opaque portMac : Nat → BitVec 48

end Sys2Proof.Config
end

