-- ==== Sys2Proof/Machine/Bits.lean ====
section
/-! DEFINITION. Bit fields, two's complement and little-endian byte order over natural numbers.
Registers are held field by field as natural numbers below `2 ^ width`; these helpers cut words into fields and back. -/

namespace Sys2Proof.Machine

/-- Bits `lo + w - 1` down to `lo` of `v`. -/
def bf (v lo w : Nat) : Nat := (v >>> lo) % 2 ^ w

/-- Bit `n` of `v`. -/
def bitOf (v n : Nat) : Bool := (v >>> n) % 2 == 1

/-- `v` with bit `n` set. -/
def setBit (v n : Nat) : Nat := v ||| (1 <<< n)

/-- `v` with bit `n` cleared. -/
def clrBit (v n : Nat) : Nat := if bitOf v n then v - 2 ^ n else v

/-- `v` with bit `n` set to `b`. -/
def putBit (v n : Nat) (b : Bool) : Nat := if b then setBit v n else clrBit v n

/-- A Boolean as a bit. -/
def b2n (b : Bool) : Nat := if b then 1 else 0

/-- The two's complement value of the `w`-bit number `v`. -/
def toS (w v : Nat) : Int := if v % 2 ^ w < 2 ^ (w - 1) then (v % 2 ^ w : Nat) else (v % 2 ^ w : Nat) - (2 ^ w : Nat)

/-- The `w`-bit two's complement representation of `i`. -/
def ofS (w : Nat) (i : Int) : Nat := (i % (2 ^ w : Nat)).toNat

/-- `i` saturated to the range `lo` to `hi`. -/
def clampI (lo hi i : Int) : Int := if i < lo then lo else if hi < i then hi else i

/-- `v` saturated at the largest `w`-bit number. -/
def satU (w v : Nat) : Nat := min v (2 ^ w - 1)

/-- The positions below `n` of the bits set in `v`, in increasing order. -/
def bitsOf (v n : Nat) : List Nat := (List.range n).filter (bitOf v)

/-- The number of bits set in `v` below position `n`. -/
def popCount (v n : Nat) : Nat := (bitsOf v n).length

/-- The lowest bit set in `v` below position `n`. -/
def lowestBit (v n : Nat) : Option Nat := (bitsOf v n).head?

/-- The number whose bit `k` is `f k`, for `k < n`. -/
def bitsFrom (n : Nat) (f : Nat → Bool) : Nat := (List.range n).foldl (fun a k => if f k then setBit a k else a) 0

/-- The `n` bytes of `v`, least significant first (R585: the fabric is little-endian). -/
def toBytes : Nat → Nat → List Nat
  | 0, _ => []
  | n + 1, v => v % 256 :: toBytes n (v / 256)

/-- The number spelled by bytes, least significant first (R585). -/
def ofBytes : List Nat → Nat
  | [] => 0
  | b :: bs => b % 256 + 256 * ofBytes bs

/-- The number spelled by bytes, most significant first (network order). -/
def ofBytesBE (bs : List Nat) : Nat := bs.foldl (fun a b => a * 256 + b % 256) 0

/-- The `n` bytes of `v`, most significant first. -/
def toBytesBE (n v : Nat) : List Nat := (toBytes n v).reverse

/-- The number of bits of `v` up to its highest one, at most `fuel`. -/
def bitLen : Nat → Nat → Nat
  | 0, _ => 0
  | f + 1, v => if v = 0 then 0 else 1 + bitLen f (v / 2)

/-- The integer square root of `v` by bisection over `fuel` bits. -/
def isqrt : Nat → Nat → Nat
  | 0, _ => 0
  | f + 1, v =>
    let r := 2 * isqrt f (v / 4)
    if (r + 1) * (r + 1) ≤ v then r + 1 else r

end Sys2Proof.Machine
end

