-- ==== Sys2Proof/Machine/Fld.lean ====
section
/-! DEFINITION. What a register field is: its address, place, width, reset value, access code (R11) and
the reset kind that restores it (R14, R15, R16), and what a register is for the decode of an address (R585, R586). -/

namespace Sys2Proof.Machine

/-- The access codes of R11. `wk` is the write-only word that is stored (EPORT_MSSALT and EPORT_MSKEY of R588). -/
inductive Acc where
  | rw | ro | wo | w1c | w1s | rc | hu | wk
  deriving DecidableEq, Repr

/-- The reset kinds of R14: cold, warm, block and instance; `K` is a field of the backup domain (R16);
`cfg` and `cal` are fields that bring-up fills from the settings record and from calibration. -/
inductive Kind where
  | C | W | B | I | K | cfg | cal
  deriving DecidableEq, Repr

/-- The number of a kind inside a register-file key. -/
def kindCode : Kind → Nat
  | .C => 0 | .W => 1 | .B => 2 | .I => 3 | .K => 4 | .cfg => 5 | .cal => 6

/-- One field of one register. `addr` is the address of the register (of its low word for a pair),
`lo` its lowest bit, `w` its width, `rst` its reset value. -/
structure Fld where
  addr : Nat
  lo : Nat
  w : Nat
  rst : Nat
  acc : Acc
  kind : Kind
  deriving DecidableEq, Repr

/-- The key under which the register file holds a field: its address, its lowest bit and its reset kind. -/
def fldKey (f : Fld) : Nat := (f.addr * 64 + f.lo) * 8 + kindCode f.kind

/-- The reset-kind number of a key. -/
def keyKind (k : Nat) : Nat := k % 8

/-- The register address of a key. -/
def keyAddr (k : Nat) : Nat := k / 512

/-- The register blocks of R601; `csr` holds the custom CSRs of the cores (R402), outside the address map. -/
inductive Blk where
  | sys | rst | pwr | mbx | gtb | evr | pair | tg | rgn | adc | pwm | cmp | sdf | psc | esw | eport
  | can | lin | crs | gw | pcie | ste | vim | vi | csr
  deriving DecidableEq, Repr

/-- A register of the address tables: block, base address, two dimensions with their strides, size in bytes
(8 for a pair, R588), and its fields for an index pair. -/
structure RegDef where
  blk : Blk
  base : Nat
  n1 : Nat
  s1 : Nat
  n2 : Nat
  s2 : Nat
  size : Nat
  flds : Nat → Nat → List Fld

/-- The index of offset `off` in a dimension of stride `s`, and the rest. -/
def dimIx (off s : Nat) : Nat × Nat := if s = 0 then (0, off) else (off / s, off % s)

/-- The indices at which `a` falls into register `r`, with the byte offset inside it (0, or 4 for the high word of a pair). -/
def regHit (a : Nat) (r : RegDef) : Option (Nat × Nat × Nat) :=
  if a < r.base then none
  else
    let p := dimIx (a - r.base) r.s1
    let q := dimIx p.2 r.s2
    if p.1 < r.n1 ∧ q.1 < r.n2 ∧ q.2 < r.size then some (p.1, q.1, q.2) else none

/-- The first register of a table that `a` falls into. -/
def findReg (a : Nat) : List RegDef → Option (RegDef × Nat × Nat × Nat)
  | [] => none
  | r :: rs => match regHit a r with
    | some (i, j, o) => some (r, i, j, o)
    | none => findReg a rs

/-- The default class of event source `s` (R84, from the event tables R68, R182, R222, R271, R307, R335, R366,
R404, R434, R467, R527, R558, R582). Sources 72 to 151, for which no class is given, take 0 (log entry 9). Sources 51 + 2e with e even, for which R182 gives 1 as the
odd engine's software event and 3 as the pair's escalation, take 3, paired or not (DESIGN CHOICE, log entry 118). -/
def evrDefaultClass (s : Nat) : Nat :=
  let first := [2,1,2,2,2,2,3,3,2,1,3,1,2,2,0,2, 1,2,1,2,2,1,3,2,2,2,2,0,2,1,3,3]
  let top := [2,1,1,1,1,2,0,0, 2,2,2,2,1,1,1,2,0,0,0,0,0,0,0,0, 2,1,3,1,1,2,2,2, 0,2,2,3,2,3,1,1,
    2,2,3,2,0,1,3,0, 1,2,2,2,2,1,0,0]
  if s < 32 then first.getD s 0
  else if s < 40 then 1
  else if s < 48 then (if s % 2 = 0 then 2 else 3)
  else if s < 72 then (if s % 2 = 0 then 2 else if s % 4 = 3 then 3 else 1)
  else if s < 152 then 0
  else if s < 192 then 2
  else if s < 224 then (if s % 2 = 0 then 2 else 0)
  else if s < 255 then 1
  else if s < 264 then [2,1,2,2,2,0,0,0,0].getD (s - 255) 0
  else if s < 320 then top.getD (s - 264) 0
  else 0

end Sys2Proof.Machine
end

