-- ==== Sys2Proof/Machine/RegBus.lean ====
section
/-! DEFINITION. The fields of the CAN, LIN and CRS registers, one definition per field: its address, place, width,
reset value, access code and reset kind, from the layout and address tables of spec/ (R308, R311, R336). -/

namespace Sys2Proof.Machine

/-- CAN_CTL: address (R308). -/
def a_CAN_CTL (c : Nat) : Nat := 0x44000000 + c * 0x10000
/-- R309 CAN_CTL[31] RW. -/
def CAN_CTL_EN (c : Nat) : Fld := ⟨(a_CAN_CTL c), 31, 1, 0, .rw, .B⟩
/-- R309 CAN_CTL[30] RW. -/
def CAN_CTL_LOM (c : Nat) : Fld := ⟨(a_CAN_CTL c), 30, 1, 0, .rw, .B⟩
/-- R309 CAN_CTL[29] RW. -/
def CAN_CTL_FDEN (c : Nat) : Fld := ⟨(a_CAN_CTL c), 29, 1, 0, .rw, .B⟩
/-- R309 CAN_CTL[28] RW. -/
def CAN_CTL_XLEN (c : Nat) : Fld := ⟨(a_CAN_CTL c), 28, 1, 0, .rw, .B⟩
/-- R309 CAN_CTL[27] RW. -/
def CAN_CTL_DAR (c : Nat) : Fld := ⟨(a_CAN_CTL c), 27, 1, 0, .rw, .B⟩
/-- R309 CAN_CTL[26] RW. -/
def CAN_CTL_BOAUTO (c : Nat) : Fld := ⟨(a_CAN_CTL c), 26, 1, 1, .rw, .B⟩
/-- R309 CAN_CTL[25] RW. -/
def CAN_CTL_SELFRX (c : Nat) : Fld := ⟨(a_CAN_CTL c), 25, 1, 0, .rw, .B⟩
/-- R309 CAN_CTL[24] RW. -/
def CAN_CTL_PXHD (c : Nat) : Fld := ⟨(a_CAN_CTL c), 24, 1, 0, .rw, .B⟩
/-- R309 CAN_CTL[23] RW. -/
def CAN_CTL_LOOP (c : Nat) : Fld := ⟨(a_CAN_CTL c), 23, 1, 0, .rw, .B⟩
/-- R309 CAN_CTL[22] WO. -/
def CAN_CTL_BORECOV (c : Nat) : Fld := ⟨(a_CAN_CTL c), 22, 1, 0, .wo, .B⟩
/-- R309 CAN_CTL[21] RW. -/
def CAN_CTL_XLFAST (c : Nat) : Fld := ⟨(a_CAN_CTL c), 21, 1, 0, .rw, .B⟩
/-- CAN_NBT: address (R308). -/
def a_CAN_NBT (c : Nat) : Nat := 0x44000004 + c * 0x10000
/-- R309 CAN_NBT[31:24] RW. -/
def CAN_NBT_BRP (c : Nat) : Fld := ⟨(a_CAN_NBT c), 24, 8, 0, .rw, .B⟩
/-- R309 CAN_NBT[23:16] RW. -/
def CAN_NBT_TSEG1 (c : Nat) : Fld := ⟨(a_CAN_NBT c), 16, 8, 0, .rw, .B⟩
/-- R309 CAN_NBT[15:8] RW. -/
def CAN_NBT_TSEG2 (c : Nat) : Fld := ⟨(a_CAN_NBT c), 8, 8, 0, .rw, .B⟩
/-- R309 CAN_NBT[7:0] RW. -/
def CAN_NBT_SJW (c : Nat) : Fld := ⟨(a_CAN_NBT c), 0, 8, 0, .rw, .B⟩
/-- CAN_DBT: address (R308). -/
def a_CAN_DBT (c : Nat) : Nat := 0x44000008 + c * 0x10000
/-- R309 CAN_DBT[31:24] RW. -/
def CAN_DBT_BRP (c : Nat) : Fld := ⟨(a_CAN_DBT c), 24, 8, 0, .rw, .B⟩
/-- R309 CAN_DBT[23:16] RW. -/
def CAN_DBT_TSEG1 (c : Nat) : Fld := ⟨(a_CAN_DBT c), 16, 8, 0, .rw, .B⟩
/-- R309 CAN_DBT[15:8] RW. -/
def CAN_DBT_TSEG2 (c : Nat) : Fld := ⟨(a_CAN_DBT c), 8, 8, 0, .rw, .B⟩
/-- R309 CAN_DBT[7:0] RW. -/
def CAN_DBT_SJW (c : Nat) : Fld := ⟨(a_CAN_DBT c), 0, 8, 0, .rw, .B⟩
/-- CAN_XBT: address (R308). -/
def a_CAN_XBT (c : Nat) : Nat := 0x4400000C + c * 0x10000
/-- R309 CAN_XBT[31:24] RW. -/
def CAN_XBT_BRP (c : Nat) : Fld := ⟨(a_CAN_XBT c), 24, 8, 0, .rw, .B⟩
/-- R309 CAN_XBT[23:16] RW. -/
def CAN_XBT_TSEG1 (c : Nat) : Fld := ⟨(a_CAN_XBT c), 16, 8, 0, .rw, .B⟩
/-- R309 CAN_XBT[15:8] RW. -/
def CAN_XBT_TSEG2 (c : Nat) : Fld := ⟨(a_CAN_XBT c), 8, 8, 0, .rw, .B⟩
/-- R309 CAN_XBT[7:0] RW. -/
def CAN_XBT_SJW (c : Nat) : Fld := ⟨(a_CAN_XBT c), 0, 8, 0, .rw, .B⟩
/-- CAN_TDC: address (R308). -/
def a_CAN_TDC (c : Nat) : Nat := 0x44000010 + c * 0x10000
/-- R309 CAN_TDC[31] RW. -/
def CAN_TDC_EN (c : Nat) : Fld := ⟨(a_CAN_TDC c), 31, 1, 1, .rw, .B⟩
/-- R309 CAN_TDC[15:8] RW. -/
def CAN_TDC_TDCO (c : Nat) : Fld := ⟨(a_CAN_TDC c), 8, 8, 0, .rw, .B⟩
/-- R309 CAN_TDC[7:0] RO. -/
def CAN_TDC_TDCV (c : Nat) : Fld := ⟨(a_CAN_TDC c), 0, 8, 0, .ro, .B⟩
/-- CAN_STAT: address (R308). -/
def a_CAN_STAT (c : Nat) : Nat := 0x44000014 + c * 0x10000
/-- R309 CAN_STAT[31:29] RO. -/
def CAN_STAT_STATE (c : Nat) : Fld := ⟨(a_CAN_STAT c), 29, 3, 0, .ro, .B⟩
/-- R309 CAN_STAT[28] W1C. -/
def CAN_STAT_CFGERR (c : Nat) : Fld := ⟨(a_CAN_STAT c), 28, 1, 0, .w1c, .B⟩
/-- R309 CAN_STAT[27] W1C. -/
def CAN_STAT_TXDTO (c : Nat) : Fld := ⟨(a_CAN_STAT c), 27, 1, 0, .w1c, .B⟩
/-- R309 CAN_STAT[26] W1C. -/
def CAN_STAT_PXE (c : Nat) : Fld := ⟨(a_CAN_STAT c), 26, 1, 0, .w1c, .B⟩
/-- R309 CAN_STAT[25] RO. -/
def CAN_STAT_RXACT (c : Nat) : Fld := ⟨(a_CAN_STAT c), 25, 1, 0, .ro, .B⟩
/-- R309 CAN_STAT[24] RO. -/
def CAN_STAT_TXACT (c : Nat) : Fld := ⟨(a_CAN_STAT c), 24, 1, 0, .ro, .B⟩
/-- R309 CAN_STAT[23] RO. -/
def CAN_STAT_TXV (c : Nat) : Fld := ⟨(a_CAN_STAT c), 23, 1, 0, .ro, .B⟩
/-- R309 CAN_STAT[22:16] RO. -/
def CAN_STAT_TXOBJ (c : Nat) : Fld := ⟨(a_CAN_STAT c), 16, 7, 0, .ro, .B⟩
/-- CAN_ERR: address (R308). -/
def a_CAN_ERR (c : Nat) : Nat := 0x44000018 + c * 0x10000
/-- R309 CAN_ERR[31:29] RO. -/
def CAN_ERR_LEC (c : Nat) : Fld := ⟨(a_CAN_ERR c), 29, 3, 0, .ro, .B⟩
/-- R309 CAN_ERR[28] RO. -/
def CAN_ERR_LECDATA (c : Nat) : Fld := ⟨(a_CAN_ERR c), 28, 1, 0, .ro, .B⟩
/-- R309 CAN_ERR[24:16] RO. -/
def CAN_ERR_REC (c : Nat) : Fld := ⟨(a_CAN_ERR c), 16, 9, 0, .ro, .B⟩
/-- R309 CAN_ERR[15:8] RO. -/
def CAN_ERR_TEC (c : Nat) : Fld := ⟨(a_CAN_ERR c), 8, 8, 0, .ro, .B⟩
/-- CAN_ERRCNT: address (R308). -/
def a_CAN_ERRCNT (c : Nat) : Nat := 0x4400001C + c * 0x10000
/-- R309 CAN_ERRCNT[31:24] RC. -/
def CAN_ERRCNT_BUSOFF (c : Nat) : Fld := ⟨(a_CAN_ERRCNT c), 24, 8, 0, .rc, .B⟩
/-- R309 CAN_ERRCNT[23:16] RC. -/
def CAN_ERRCNT_ERRS (c : Nat) : Fld := ⟨(a_CAN_ERRCNT c), 16, 8, 0, .rc, .B⟩
/-- R309 CAN_ERRCNT[15:8] RC. -/
def CAN_ERRCNT_NOMATCH (c : Nat) : Fld := ⟨(a_CAN_ERRCNT c), 8, 8, 0, .rc, .B⟩
/-- R309 CAN_ERRCNT[7:0] RC. -/
def CAN_ERRCNT_ARBLOST (c : Nat) : Fld := ⟨(a_CAN_ERRCNT c), 0, 8, 0, .rc, .B⟩
/-- CAN_STAMP: address (R308). -/
def a_CAN_STAMP (c : Nat) : Nat := 0x44000020 + c * 0x10000
/-- R309 CAN_STAMP[31:0] RO. -/
def CAN_STAMP_CNT (c : Nat) : Fld := ⟨(a_CAN_STAMP c), 0, 32, 0, .ro, .C⟩
/-- CAN_CORRCTL: address (R308). -/
def a_CAN_CORRCTL (c : Nat) : Nat := 0x44000024 + c * 0x10000
/-- R309 CAN_CORRCTL[31] RW. -/
def CAN_CORRCTL_EN (c : Nat) : Fld := ⟨(a_CAN_CORRCTL c), 31, 1, 0, .rw, .B⟩
/-- R309 CAN_CORRCTL[30] WO. -/
def CAN_CORRCTL_TAKE (c : Nat) : Fld := ⟨(a_CAN_CORRCTL c), 30, 1, 0, .wo, .B⟩
/-- R309 CAN_CORRCTL[21:16] RW. -/
def CAN_CORRCTL_TRIG (c : Nat) : Fld := ⟨(a_CAN_CORRCTL c), 16, 6, 0, .rw, .B⟩
/-- CAN_CORRSTAMP: address (R308). -/
def a_CAN_CORRSTAMP (c : Nat) : Nat := 0x44000028 + c * 0x10000
/-- R309 CAN_CORRSTAMP[31:0] RO. -/
def CAN_CORRSTAMP_CNT (c : Nat) : Fld := ⟨(a_CAN_CORRSTAMP c), 0, 32, 0, .ro, .B⟩
/-- CAN_CORRGTB: address (R308). -/
def a_CAN_CORRGTB (c : Nat) : Nat := 0x44000030 + c * 0x10000
/-- R309 CAN_CORRGTB[63:0] RO. -/
def CAN_CORRGTB_NS (c : Nat) : Fld := ⟨(a_CAN_CORRGTB c), 0, 64, 0, .ro, .B⟩
/-- CAN_CORRX: address (R308). -/
def a_CAN_CORRX (c : Nat) : Nat := 0x44000038 + c * 0x10000
/-- R309 CAN_CORRX[31:16] RO. -/
def CAN_CORRX_CNT (c : Nat) : Fld := ⟨(a_CAN_CORRX c), 16, 16, 0, .ro, .B⟩
/-- R309 CAN_CORRX[7:0] RO. -/
def CAN_CORRX_FRAC (c : Nat) : Fld := ⟨(a_CAN_CORRX c), 0, 8, 0, .ro, .B⟩
/-- CAN_TRXCTL: address (R308). -/
def a_CAN_TRXCTL (c : Nat) : Nat := 0x44000040 + c * 0x10000
/-- R309 CAN_TRXCTL[31:30] RW. -/
def CAN_TRXCTL_MODE (c : Nat) : Fld := ⟨(a_CAN_TRXCTL c), 30, 2, 1, .rw, .C⟩
/-- R309 CAN_TRXCTL[29] RW. -/
def CAN_TRXCTL_SIC (c : Nat) : Fld := ⟨(a_CAN_TRXCTL c), 29, 1, 1, .rw, .C⟩
/-- R309 CAN_TRXCTL[28] RW. -/
def CAN_TRXCTL_WAKEEN (c : Nat) : Fld := ⟨(a_CAN_TRXCTL c), 28, 1, 0, .rw, .C⟩
/-- CAN_TRXSTAT: address (R308). -/
def a_CAN_TRXSTAT (c : Nat) : Nat := 0x44000044 + c * 0x10000
/-- R309 CAN_TRXSTAT[31] RO. -/
def CAN_TRXSTAT_PWROK (c : Nat) : Fld := ⟨(a_CAN_TRXSTAT c), 31, 1, 0, .ro, .C⟩
/-- R309 CAN_TRXSTAT[30] RO. -/
def CAN_TRXSTAT_FORCED (c : Nat) : Fld := ⟨(a_CAN_TRXSTAT c), 30, 1, 0, .ro, .C⟩
/-- R309 CAN_TRXSTAT[29] W1C. -/
def CAN_TRXSTAT_OT (c : Nat) : Fld := ⟨(a_CAN_TRXSTAT c), 29, 1, 0, .w1c, .C⟩
/-- R309 CAN_TRXSTAT[28] W1C. -/
def CAN_TRXSTAT_WAKE (c : Nat) : Fld := ⟨(a_CAN_TRXSTAT c), 28, 1, 0, .w1c, .C⟩
/-- R309 CAN_TRXSTAT[27:26] RO. -/
def CAN_TRXSTAT_STATE (c : Nat) : Fld := ⟨(a_CAN_TRXSTAT c), 26, 2, 1, .ro, .C⟩
/-- CAN_TXPEND: address (R308). -/
def a_CAN_TXPEND (c w : Nat) : Nat := 0x44000100 + c * 0x10000 + w * 4
/-- R309 CAN_TXPEND[31:0] RO. -/
def CAN_TXPEND_OBJ (c w : Nat) : Fld := ⟨(a_CAN_TXPEND c w), 0, 32, 0, .ro, .B⟩
/-- CAN_RXFULL: address (R308). -/
def a_CAN_RXFULL (c w : Nat) : Nat := 0x44000110 + c * 0x10000 + w * 4
/-- R309 CAN_RXFULL[31:0] RO. -/
def CAN_RXFULL_OBJ (c w : Nat) : Fld := ⟨(a_CAN_RXFULL c w), 0, 32, 0, .ro, .B⟩
/-- CAN_OBJOWN: address (R308). -/
def a_CAN_OBJOWN (c o : Nat) : Nat := 0x44000800 + c * 0x10000 + o * 4
/-- R309 CAN_OBJOWN[31:30] RW. -/
def CAN_OBJOWN_MODE (c o : Nat) : Fld := ⟨(a_CAN_OBJOWN c o), 30, 2, 0, .rw, .cfg⟩
/-- R309 CAN_OBJOWN[21:16] RW. -/
def CAN_OBJOWN_OWNID (c o : Nat) : Fld := ⟨(a_CAN_OBJOWN c o), 16, 6, 0, .rw, .cfg⟩
/-- R309 CAN_OBJOWN[7:0] RW. -/
def CAN_OBJOWN_VI (c o : Nat) : Fld := ⟨(a_CAN_OBJOWN c o), 0, 8, 0, .rw, .cfg⟩
/-- CAN_OBJCFG: address (R308). -/
def a_CAN_OBJCFG (c o : Nat) : Nat := 0x44001000 + c * 0x10000 + o * 0x20
/-- R310 CAN_OBJCFG[31] RW. -/
def CAN_OBJCFG_EN (c o : Nat) : Fld := ⟨(a_CAN_OBJCFG c o), 31, 1, 0, .rw, .B⟩
/-- R310 CAN_OBJCFG[30] RW. -/
def CAN_OBJCFG_DIR (c o : Nat) : Fld := ⟨(a_CAN_OBJCFG c o), 30, 1, 0, .rw, .B⟩
/-- R310 CAN_OBJCFG[29:28] RW. -/
def CAN_OBJCFG_FMT (c o : Nat) : Fld := ⟨(a_CAN_OBJCFG c o), 28, 2, 0, .rw, .B⟩
/-- R310 CAN_OBJCFG[27] RW. -/
def CAN_OBJCFG_BRS (c o : Nat) : Fld := ⟨(a_CAN_OBJCFG c o), 27, 1, 0, .rw, .B⟩
/-- R310 CAN_OBJCFG[26] RW. -/
def CAN_OBJCFG_RTR (c o : Nat) : Fld := ⟨(a_CAN_OBJCFG c o), 26, 1, 0, .rw, .B⟩
/-- R310 CAN_OBJCFG[25] RW. -/
def CAN_OBJCFG_OVW (c o : Nat) : Fld := ⟨(a_CAN_OBJCFG c o), 25, 1, 0, .rw, .B⟩
/-- R310 CAN_OBJCFG[24] RW. -/
def CAN_OBJCFG_GW (c o : Nat) : Fld := ⟨(a_CAN_OBJCFG c o), 24, 1, 0, .rw, .B⟩
/-- R310 CAN_OBJCFG[23] RW. -/
def CAN_OBJCFG_IE (c o : Nat) : Fld := ⟨(a_CAN_OBJCFG c o), 23, 1, 0, .rw, .B⟩
/-- R310 CAN_OBJCFG[19:10] RW. -/
def CAN_OBJCFG_PBASE (c o : Nat) : Fld := ⟨(a_CAN_OBJCFG c o), 10, 10, 0, .rw, .B⟩
/-- R310 CAN_OBJCFG[9:5] RW. -/
def CAN_OBJCFG_PSIZE (c o : Nat) : Fld := ⟨(a_CAN_OBJCFG c o), 5, 5, 0, .rw, .B⟩
/-- CAN_OBJID: address (R308). -/
def a_CAN_OBJID (c o : Nat) : Nat := 0x44001004 + c * 0x10000 + o * 0x20
/-- R310 CAN_OBJID[31] HU. -/
def CAN_OBJID_IDE (c o : Nat) : Fld := ⟨(a_CAN_OBJID c o), 31, 1, 0, .hu, .B⟩
/-- R310 CAN_OBJID[28:0] HU. -/
def CAN_OBJID_ID (c o : Nat) : Fld := ⟨(a_CAN_OBJID c o), 0, 29, 0, .hu, .B⟩
/-- CAN_OBJMASK: address (R308). -/
def a_CAN_OBJMASK (c o : Nat) : Nat := 0x44001008 + c * 0x10000 + o * 0x20
/-- R310 CAN_OBJMASK[31] RW. -/
def CAN_OBJMASK_IDEM (c o : Nat) : Fld := ⟨(a_CAN_OBJMASK c o), 31, 1, 0, .rw, .B⟩
/-- R310 CAN_OBJMASK[28:0] RW. -/
def CAN_OBJMASK_MASK (c o : Nat) : Fld := ⟨(a_CAN_OBJMASK c o), 0, 29, 0, .rw, .B⟩
/-- CAN_OBJXL: address (R308). -/
def a_CAN_OBJXL (c o : Nat) : Nat := 0x4400100C + c * 0x10000 + o * 0x20
/-- R310 CAN_OBJXL[31:24] HU. -/
def CAN_OBJXL_SDT (c o : Nat) : Fld := ⟨(a_CAN_OBJXL c o), 24, 8, 0, .hu, .B⟩
/-- R310 CAN_OBJXL[23:16] HU. -/
def CAN_OBJXL_VCID (c o : Nat) : Fld := ⟨(a_CAN_OBJXL c o), 16, 8, 0, .hu, .B⟩
/-- R310 CAN_OBJXL[15] HU. -/
def CAN_OBJXL_SEC (c o : Nat) : Fld := ⟨(a_CAN_OBJXL c o), 15, 1, 0, .hu, .B⟩
/-- CAN_OBJAF: address (R308). -/
def a_CAN_OBJAF (c o : Nat) : Nat := 0x44001010 + c * 0x10000 + o * 0x20
/-- R310 CAN_OBJAF[31:0] HU. -/
def CAN_OBJAF_AF (c o : Nat) : Fld := ⟨(a_CAN_OBJAF c o), 0, 32, 0, .hu, .B⟩
/-- CAN_OBJCTL: address (R308). -/
def a_CAN_OBJCTL (c o : Nat) : Nat := 0x44001014 + c * 0x10000 + o * 0x20
/-- R310 CAN_OBJCTL[31] W1S. -/
def CAN_OBJCTL_TXREQ (c o : Nat) : Fld := ⟨(a_CAN_OBJCTL c o), 31, 1, 0, .w1s, .B⟩
/-- R310 CAN_OBJCTL[30] WO. -/
def CAN_OBJCTL_ABORT (c o : Nat) : Fld := ⟨(a_CAN_OBJCTL c o), 30, 1, 0, .wo, .B⟩
/-- R310 CAN_OBJCTL[23:16] RO. -/
def CAN_OBJCTL_SEQ (c o : Nat) : Fld := ⟨(a_CAN_OBJCTL c o), 16, 8, 0, .ro, .B⟩
/-- R310 CAN_OBJCTL[15:8] RC. -/
def CAN_OBJCTL_LOSTCNT (c o : Nat) : Fld := ⟨(a_CAN_OBJCTL c o), 8, 8, 0, .rc, .B⟩
/-- CAN_OBJSTAT: address (R308). -/
def a_CAN_OBJSTAT (c o : Nat) : Nat := 0x44001018 + c * 0x10000 + o * 0x20
/-- R310 CAN_OBJSTAT[31] W1C. -/
def CAN_OBJSTAT_FULL (c o : Nat) : Fld := ⟨(a_CAN_OBJSTAT c o), 31, 1, 0, .w1c, .B⟩
/-- R310 CAN_OBJSTAT[30] W1C. -/
def CAN_OBJSTAT_LOST (c o : Nat) : Fld := ⟨(a_CAN_OBJSTAT c o), 30, 1, 0, .w1c, .B⟩
/-- R310 CAN_OBJSTAT[29] W1C. -/
def CAN_OBJSTAT_DONE (c o : Nat) : Fld := ⟨(a_CAN_OBJSTAT c o), 29, 1, 0, .w1c, .B⟩
/-- R310 CAN_OBJSTAT[28] W1C. -/
def CAN_OBJSTAT_FAIL (c o : Nat) : Fld := ⟨(a_CAN_OBJSTAT c o), 28, 1, 0, .w1c, .B⟩
/-- R310 CAN_OBJSTAT[27:26] RO. -/
def CAN_OBJSTAT_FT (c o : Nat) : Fld := ⟨(a_CAN_OBJSTAT c o), 26, 2, 0, .ro, .B⟩
/-- R310 CAN_OBJSTAT[25] RO. -/
def CAN_OBJSTAT_BRSR (c o : Nat) : Fld := ⟨(a_CAN_OBJSTAT c o), 25, 1, 0, .ro, .B⟩
/-- R310 CAN_OBJSTAT[24] RO. -/
def CAN_OBJSTAT_ESIR (c o : Nat) : Fld := ⟨(a_CAN_OBJSTAT c o), 24, 1, 0, .ro, .B⟩
/-- R310 CAN_OBJSTAT[23] RO. -/
def CAN_OBJSTAT_RTRR (c o : Nat) : Fld := ⟨(a_CAN_OBJSTAT c o), 23, 1, 0, .ro, .B⟩
/-- R310 CAN_OBJSTAT[11:0] HU. -/
def CAN_OBJSTAT_LEN (c o : Nat) : Fld := ⟨(a_CAN_OBJSTAT c o), 0, 12, 0, .hu, .B⟩
/-- CAN_OBJSTAMP: address (R308). -/
def a_CAN_OBJSTAMP (c o : Nat) : Nat := 0x4400101C + c * 0x10000 + o * 0x20
/-- R310 CAN_OBJSTAMP[31:0] RO. -/
def CAN_OBJSTAMP_STAMP (c o : Nat) : Fld := ⟨(a_CAN_OBJSTAMP c o), 0, 32, 0, .ro, .B⟩
/-- LIN_CTL: address (R311). -/
def a_LIN_CTL (l : Nat) : Nat := 0x44100000 + l * 0x1000
/-- R311 LIN_CTL[31] RW. -/
def LIN_CTL_EN (l : Nat) : Fld := ⟨(a_LIN_CTL l), 31, 1, 0, .rw, .B⟩
/-- R311 LIN_CTL[30] RW. -/
def LIN_CTL_CMDR (l : Nat) : Fld := ⟨(a_LIN_CTL l), 30, 1, 0, .rw, .B⟩
/-- R311 LIN_CTL[29] WO. -/
def LIN_CTL_WAKE (l : Nat) : Fld := ⟨(a_LIN_CTL l), 29, 1, 0, .wo, .B⟩
/-- R311 LIN_CTL[27:26] RW. -/
def LIN_CTL_TRXMODE (l : Nat) : Fld := ⟨(a_LIN_CTL l), 26, 2, 1, .rw, .C⟩
/-- R311 LIN_CTL[25] RW. -/
def LIN_CTL_WAKEEN (l : Nat) : Fld := ⟨(a_LIN_CTL l), 25, 1, 0, .rw, .C⟩
/-- R311 LIN_CTL[24:22] RW. -/
def LIN_CTL_BRKLEN (l : Nat) : Fld := ⟨(a_LIN_CTL l), 22, 3, 0, .rw, .B⟩
/-- R311 LIN_CTL[15:0] RW. -/
def LIN_CTL_BAUDDIV (l : Nat) : Fld := ⟨(a_LIN_CTL l), 0, 16, 0x341, .rw, .B⟩
/-- LIN_STAT: address (R311). -/
def a_LIN_STAT (l : Nat) : Nat := 0x44100004 + l * 0x1000
/-- R311 LIN_STAT[31:29] RO. -/
def LIN_STAT_STATE (l : Nat) : Fld := ⟨(a_LIN_STAT l), 29, 3, 0, .ro, .B⟩
/-- R311 LIN_STAT[28] RO. -/
def LIN_STAT_FORCED (l : Nat) : Fld := ⟨(a_LIN_STAT l), 28, 1, 0, .ro, .C⟩
/-- R311 LIN_STAT[27] W1C. -/
def LIN_STAT_WAKE (l : Nat) : Fld := ⟨(a_LIN_STAT l), 27, 1, 0, .w1c, .C⟩
/-- R311 LIN_STAT[26] W1C. -/
def LIN_STAT_TXDTO (l : Nat) : Fld := ⟨(a_LIN_STAT l), 26, 1, 0, .w1c, .B⟩
/-- R311 LIN_STAT[25] W1C. -/
def LIN_STAT_OT (l : Nat) : Fld := ⟨(a_LIN_STAT l), 25, 1, 0, .w1c, .C⟩
/-- R311 LIN_STAT[23:21] RO. -/
def LIN_STAT_LEC (l : Nat) : Fld := ⟨(a_LIN_STAT l), 21, 3, 0, .ro, .B⟩
/-- R311 LIN_STAT[15:8] RC. -/
def LIN_STAT_ERRS (l : Nat) : Fld := ⟨(a_LIN_STAT l), 8, 8, 0, .rc, .B⟩
/-- R311 LIN_STAT[5:0] RO. -/
def LIN_STAT_LASTID (l : Nat) : Fld := ⟨(a_LIN_STAT l), 0, 6, 0, .ro, .B⟩
/-- LIN_SCHCTL: address (R311). -/
def a_LIN_SCHCTL (l : Nat) : Nat := 0x44100008 + l * 0x1000
/-- R311 LIN_SCHCTL[31] RW. -/
def LIN_SCHCTL_RUN (l : Nat) : Fld := ⟨(a_LIN_SCHCTL l), 31, 1, 0, .rw, .B⟩
/-- R311 LIN_SCHCTL[4:0] RW. -/
def LIN_SCHCTL_LEN (l : Nat) : Fld := ⟨(a_LIN_SCHCTL l), 0, 5, 0, .rw, .B⟩
/-- LIN_SCHSTAT: address (R311). -/
def a_LIN_SCHSTAT (l : Nat) : Nat := 0x4410000C + l * 0x1000
/-- R311 LIN_SCHSTAT[31:16] RO. -/
def LIN_SCHSTAT_CYCLES (l : Nat) : Fld := ⟨(a_LIN_SCHSTAT l), 16, 16, 0, .ro, .B⟩
/-- R311 LIN_SCHSTAT[4:0] RO. -/
def LIN_SCHSTAT_CUR (l : Nat) : Fld := ⟨(a_LIN_SCHSTAT l), 0, 5, 0, .ro, .B⟩
/-- LIN_SCH: address (R311). -/
def a_LIN_SCH (l i : Nat) : Nat := 0x44100100 + l * 0x1000 + i * 4
/-- R311 LIN_SCH[13:8] RW. -/
def LIN_SCH_ID (l i : Nat) : Fld := ⟨(a_LIN_SCH l i), 8, 6, 0, .rw, .B⟩
/-- R311 LIN_SCH[7:0] RW. -/
def LIN_SCH_SLOT (l i : Nat) : Fld := ⟨(a_LIN_SCH l i), 0, 8, 0xA, .rw, .B⟩
/-- LIN_FCFG: address (R311). -/
def a_LIN_FCFG (l id : Nat) : Nat := 0x44100200 + l * 0x1000 + id * 0x10
/-- R311 LIN_FCFG[31:30] RW. -/
def LIN_FCFG_DIR (l id : Nat) : Fld := ⟨(a_LIN_FCFG l id), 30, 2, 0, .rw, .B⟩
/-- R311 LIN_FCFG[29] RW. -/
def LIN_FCFG_ENH (l id : Nat) : Fld := ⟨(a_LIN_FCFG l id), 29, 1, 1, .rw, .B⟩
/-- R311 LIN_FCFG[28] RW. -/
def LIN_FCFG_IE (l id : Nat) : Fld := ⟨(a_LIN_FCFG l id), 28, 1, 0, .rw, .B⟩
/-- R311 LIN_FCFG[3:0] RW. -/
def LIN_FCFG_LEN (l id : Nat) : Fld := ⟨(a_LIN_FCFG l id), 0, 4, 8, .rw, .B⟩
/-- LIN_FSTAT: address (R311). -/
def a_LIN_FSTAT (l id : Nat) : Nat := 0x44100204 + l * 0x1000 + id * 0x10
/-- R311 LIN_FSTAT[31] RC. -/
def LIN_FSTAT_NEW (l id : Nat) : Fld := ⟨(a_LIN_FSTAT l id), 31, 1, 0, .rc, .B⟩
/-- R311 LIN_FSTAT[30] W1C. -/
def LIN_FSTAT_ERR (l id : Nat) : Fld := ⟨(a_LIN_FSTAT l id), 30, 1, 0, .w1c, .B⟩
/-- R311 LIN_FSTAT[29:27] RO. -/
def LIN_FSTAT_LEC (l id : Nat) : Fld := ⟨(a_LIN_FSTAT l id), 27, 3, 0, .ro, .B⟩
/-- R311 LIN_FSTAT[23:16] RO. -/
def LIN_FSTAT_SEQ (l id : Nat) : Fld := ⟨(a_LIN_FSTAT l id), 16, 8, 0, .ro, .B⟩
/-- LIN_FDATA: address (R311). -/
def a_LIN_FDATA (l id : Nat) : Nat := 0x44100208 + l * 0x1000 + id * 0x10
/-- R311 LIN_FDATA[63:0] HU. -/
def LIN_FDATA_DATA (l id : Nat) : Fld := ⟨(a_LIN_FDATA l id), 0, 64, 0, .hu, .B⟩
/-- CRS_CTL: address (R336). -/
def a_CRS_CTL : Nat := 0x44200000
/-- R337 CRS_CTL[31] RW. -/
def CRS_CTL_EN : Fld := ⟨a_CRS_CTL, 31, 1, 0, .rw, .cfg⟩
/-- R337 CRS_CTL[30] RW. -/
def CRS_CTL_CONSENT : Fld := ⟨a_CRS_CTL, 30, 1, 1, .rw, .B⟩
/-- R337 CRS_CTL[29] RW. -/
def CRS_CTL_HIER : Fld := ⟨a_CRS_CTL, 29, 1, 0, .rw, .cfg⟩
/-- R337 CRS_CTL[28] RW. -/
def CRS_CTL_FWRET : Fld := ⟨a_CRS_CTL, 28, 1, 0, .rw, .cfg⟩
/-- R337 CRS_CTL[15:11] RW. -/
def CRS_CTL_RING : Fld := ⟨a_CRS_CTL, 11, 5, 0, .rw, .cfg⟩
/-- R337 CRS_CTL[5:0] RW. -/
def CRS_CTL_NODE : Fld := ⟨a_CRS_CTL, 0, 6, 0, .rw, .cfg⟩
/-- CRS_CFG: address (R336). -/
def a_CRS_CFG : Nat := 0x44200004
/-- R337 CRS_CFG[31:24] RW. -/
def CRS_CFG_STEP : Fld := ⟨a_CRS_CFG, 24, 8, 0, .rw, .cfg⟩
/-- R337 CRS_CFG[23:16] RW. -/
def CRS_CFG_SLOTTO : Fld := ⟨a_CRS_CFG, 16, 8, 0, .rw, .cfg⟩
/-- R337 CRS_CFG[15:8] RW. -/
def CRS_CFG_PREP : Fld := ⟨a_CRS_CFG, 8, 8, 0, .rw, .cfg⟩
/-- R337 CRS_CFG[7:0] RW. -/
def CRS_CFG_WAKEWIN : Fld := ⟨a_CRS_CFG, 0, 8, 0, .rw, .cfg⟩
/-- CRS_CFG2: address (R336). -/
def a_CRS_CFG2 : Nat := 0x44200008
/-- R337 CRS_CFG2[31:24] RW. -/
def CRS_CFG2_FWMAX : Fld := ⟨a_CRS_CFG2, 24, 8, 0, .rw, .cfg⟩
/-- R337 CRS_CFG2[23:16] RW. -/
def CRS_CFG2_KEEPLIM : Fld := ⟨a_CRS_CFG2, 16, 8, 0, .rw, .cfg⟩
/-- R337 CRS_CFG2[4:0] RW. -/
def CRS_CFG2_CANBASE : Fld := ⟨a_CRS_CFG2, 0, 5, 0, .rw, .cfg⟩
/-- CRS_STAT: address (R336). -/
def a_CRS_STAT : Nat := 0x4420000C
/-- R337 CRS_STAT[31:29] RO. -/
def CRS_STAT_STATE : Fld := ⟨a_CRS_STAT, 29, 3, 0, .ro, .B⟩
/-- R337 CRS_STAT[28:27] RO. -/
def CRS_STAT_BBSTATE : Fld := ⟨a_CRS_STAT, 27, 2, 0, .ro, .B⟩
/-- R337 CRS_STAT[26:24] RO. -/
def CRS_STAT_CONSRUN : Fld := ⟨a_CRS_STAT, 24, 3, 0, .ro, .B⟩
/-- R337 CRS_STAT[23:16] RO. -/
def CRS_STAT_ROUND : Fld := ⟨a_CRS_STAT, 16, 8, 0, .ro, .B⟩
/-- R337 CRS_STAT[15:8] RO. -/
def CRS_STAT_BBROUND : Fld := ⟨a_CRS_STAT, 8, 8, 0, .ro, .B⟩
/-- R337 CRS_STAT[6:0] RO. -/
def CRS_STAT_MEMBERS : Fld := ⟨a_CRS_STAT, 0, 7, 0, .ro, .B⟩
/-- CRS_LMAC: address (R336). -/
def a_CRS_LMAC : Nat := 0x44200010
/-- R337 CRS_LMAC[47:0] RW. -/
def CRS_LMAC_MAC : Fld := ⟨a_CRS_LMAC, 0, 48, 0, .rw, .cfg⟩
/-- CRS_BBMAC: address (R336). -/
def a_CRS_BBMAC : Nat := 0x44200018
/-- R337 CRS_BBMAC[47:0] RW. -/
def CRS_BBMAC_MAC : Fld := ⟨a_CRS_BBMAC, 0, 48, 0, .rw, .cfg⟩
/-- CRS_SA: address (R336). -/
def a_CRS_SA : Nat := 0x44200020
/-- R337 CRS_SA[47:0] RW. -/
def CRS_SA_MAC : Fld := ⟨a_CRS_SA, 0, 48, 0, .rw, .cfg⟩
/-- CRS_ZOK: address (R336). -/
def a_CRS_ZOK : Nat := 0x44200028
/-- R337 CRS_ZOK[31] WO. -/
def CRS_ZOK_REQ : Fld := ⟨a_CRS_ZOK, 31, 1, 0, .wo, .W⟩
/-- R337 CRS_ZOK[30] WO. -/
def CRS_ZOK_DROP : Fld := ⟨a_CRS_ZOK, 30, 1, 0, .wo, .W⟩
/-- R337 CRS_ZOK[29] RO. -/
def CRS_ZOK_LEVEL : Fld := ⟨a_CRS_ZOK, 29, 1, 0, .ro, .W⟩
/-- R337 CRS_ZOK[23:20] RO. -/
def CRS_ZOK_CAUSE : Fld := ⟨a_CRS_ZOK, 20, 4, 6, .ro, .W⟩
/-- R337 CRS_ZOK[15:0] RW. -/
def CRS_ZOK_WDT : Fld := ⟨a_CRS_ZOK, 0, 16, 0x64, .rw, .W⟩
/-- CRS_PRES: address (R336). -/
def a_CRS_PRES : Nat := 0x44200030
/-- R337 CRS_PRES[63:0] RO. -/
def CRS_PRES_NODES : Fld := ⟨a_CRS_PRES, 0, 64, 0, .ro, .B⟩
/-- CRS_CONS: address (R336). -/
def a_CRS_CONS : Nat := 0x44200038
/-- R337 CRS_CONS[63:0] RO. -/
def CRS_CONS_NODES : Fld := ⟨a_CRS_CONS, 0, 64, 0, .ro, .B⟩
/-- CRS_BBPRES: address (R336). -/
def a_CRS_BBPRES : Nat := 0x44200040
/-- R337 CRS_BBPRES[31:0] RO. -/
def CRS_BBPRES_RINGS : Fld := ⟨a_CRS_BBPRES, 0, 32, 0, .ro, .B⟩
/-- CRS_BBCONS: address (R336). -/
def a_CRS_BBCONS : Nat := 0x44200044
/-- R337 CRS_BBCONS[31:0] RO. -/
def CRS_BBCONS_RINGS : Fld := ⟨a_CRS_BBCONS, 0, 32, 0, .ro, .B⟩
/-- CRS_WAKE: address (R336). -/
def a_CRS_WAKE : Nat := 0x44200048
/-- R337 CRS_WAKE[31] RO. -/
def CRS_WAKE_CONF : Fld := ⟨a_CRS_WAKE, 31, 1, 0, .ro, .K⟩
/-- R337 CRS_WAKE[30] RO. -/
def CRS_WAKE_FALSE : Fld := ⟨a_CRS_WAKE, 30, 1, 0, .ro, .K⟩
/-- R337 CRS_WAKE[23:16] RO. -/
def CRS_WAKE_COUNT : Fld := ⟨a_CRS_WAKE, 16, 8, 0, .ro, .K⟩
/-- R337 CRS_WAKE[5:0] RO. -/
def CRS_WAKE_FIRST : Fld := ⟨a_CRS_WAKE, 0, 6, 0x3F, .ro, .K⟩
/-- CRS_WAKEBUS: address (R336). -/
def a_CRS_WAKEBUS : Nat := 0x44200050
/-- R337 CRS_WAKEBUS[39:0] RO. -/
def CRS_WAKEBUS_BUSES : Fld := ⟨a_CRS_WAKEBUS, 0, 40, 0, .ro, .K⟩
/-- CRS_BUS: address (R336). -/
def a_CRS_BUS (b : Nat) : Nat := 0x44200100 + b * 4
/-- R337 CRS_BUS[31] RW. -/
def CRS_BUS_RING (b : Nat) : Fld := ⟨(a_CRS_BUS b), 31, 1, 0, .rw, .cfg⟩
/-- R337 CRS_BUS[30] RW. -/
def CRS_BUS_WAKEEN (b : Nat) : Fld := ⟨(a_CRS_BUS b), 30, 1, 0, .rw, .cfg⟩
/-- R337 CRS_BUS[29] RW. -/
def CRS_BUS_GTS (b : Nat) : Fld := ⟨(a_CRS_BUS b), 29, 1, 0, .rw, .cfg⟩
/-- CRS_FW: address (R336). -/
def a_CRS_FW (b : Nat) : Nat := 0x44200200 + b * 4
/-- R337 CRS_FW[31] HU. -/
def CRS_FW_WOFF (b : Nat) : Fld := ⟨(a_CRS_FW b), 31, 1, 0, .hu, .K⟩
/-- R337 CRS_FW[23:16] RO. -/
def CRS_FW_RUN (b : Nat) : Fld := ⟨(a_CRS_FW b), 16, 8, 0, .ro, .K⟩
/-- R337 CRS_FW[15:0] RC. -/
def CRS_FW_COUNT (b : Nat) : Fld := ⟨(a_CRS_FW b), 0, 16, 0, .rc, .K⟩
/-- CRS_KEEP: address (R336). -/
def a_CRS_KEEP (i : Nat) : Nat := 0x44200300 + i * 4
/-- R337 CRS_KEEP[31] RO. -/
def CRS_KEEP_WH (i : Nat) : Fld := ⟨(a_CRS_KEEP i), 31, 1, 0, .ro, .B⟩
/-- R337 CRS_KEEP[15:0] RO. -/
def CRS_KEEP_TIME (i : Nat) : Fld := ⟨(a_CRS_KEEP i), 0, 16, 0, .ro, .B⟩
/-- CRS_BBKEEP: address (R336). -/
def a_CRS_BBKEEP (r : Nat) : Nat := 0x44200400 + r * 4
/-- R337 CRS_BBKEEP[31] RO. -/
def CRS_BBKEEP_WH (r : Nat) : Fld := ⟨(a_CRS_BBKEEP r), 31, 1, 0, .ro, .B⟩
/-- R337 CRS_BBKEEP[26:16] RO. -/
def CRS_BBKEEP_KEEPER (r : Nat) : Fld := ⟨(a_CRS_BBKEEP r), 16, 11, 0, .ro, .B⟩
/-- R337 CRS_BBKEEP[15:0] RO. -/
def CRS_BBKEEP_TIME (r : Nat) : Fld := ⟨(a_CRS_BBKEEP r), 0, 16, 0, .ro, .B⟩

/-- The registers of this file with their extents, for the decode of an address (R585, R586, R601). -/
def regTableRegBus0 : List RegDef :=
  [⟨.can, 0x44000000, 16, 0x10000, 1, 0x0, 4, fun i _ => [CAN_CTL_EN i, CAN_CTL_LOM i, CAN_CTL_FDEN i, CAN_CTL_XLEN i, CAN_CTL_DAR i, CAN_CTL_BOAUTO i, CAN_CTL_SELFRX i, CAN_CTL_PXHD i, CAN_CTL_LOOP i, CAN_CTL_BORECOV i, CAN_CTL_XLFAST i]⟩,
   ⟨.can, 0x44000004, 16, 0x10000, 1, 0x0, 4, fun i _ => [CAN_NBT_BRP i, CAN_NBT_TSEG1 i, CAN_NBT_TSEG2 i, CAN_NBT_SJW i]⟩,
   ⟨.can, 0x44000008, 16, 0x10000, 1, 0x0, 4, fun i _ => [CAN_DBT_BRP i, CAN_DBT_TSEG1 i, CAN_DBT_TSEG2 i, CAN_DBT_SJW i]⟩,
   ⟨.can, 0x4400000C, 16, 0x10000, 1, 0x0, 4, fun i _ => [CAN_XBT_BRP i, CAN_XBT_TSEG1 i, CAN_XBT_TSEG2 i, CAN_XBT_SJW i]⟩,
   ⟨.can, 0x44000010, 16, 0x10000, 1, 0x0, 4, fun i _ => [CAN_TDC_EN i, CAN_TDC_TDCO i, CAN_TDC_TDCV i]⟩,
   ⟨.can, 0x44000014, 16, 0x10000, 1, 0x0, 4, fun i _ => [CAN_STAT_STATE i, CAN_STAT_CFGERR i, CAN_STAT_TXDTO i, CAN_STAT_PXE i, CAN_STAT_RXACT i, CAN_STAT_TXACT i, CAN_STAT_TXV i, CAN_STAT_TXOBJ i]⟩,
   ⟨.can, 0x44000018, 16, 0x10000, 1, 0x0, 4, fun i _ => [CAN_ERR_LEC i, CAN_ERR_LECDATA i, CAN_ERR_REC i, CAN_ERR_TEC i]⟩,
   ⟨.can, 0x4400001C, 16, 0x10000, 1, 0x0, 4, fun i _ => [CAN_ERRCNT_BUSOFF i, CAN_ERRCNT_ERRS i, CAN_ERRCNT_NOMATCH i, CAN_ERRCNT_ARBLOST i]⟩,
   ⟨.can, 0x44000020, 16, 0x10000, 1, 0x0, 4, fun i _ => [CAN_STAMP_CNT i]⟩,
   ⟨.can, 0x44000024, 16, 0x10000, 1, 0x0, 4, fun i _ => [CAN_CORRCTL_EN i, CAN_CORRCTL_TAKE i, CAN_CORRCTL_TRIG i]⟩,
   ⟨.can, 0x44000028, 16, 0x10000, 1, 0x0, 4, fun i _ => [CAN_CORRSTAMP_CNT i]⟩,
   ⟨.can, 0x44000030, 16, 0x10000, 1, 0x0, 8, fun i _ => [CAN_CORRGTB_NS i]⟩,
   ⟨.can, 0x44000038, 16, 0x10000, 1, 0x0, 4, fun i _ => [CAN_CORRX_CNT i, CAN_CORRX_FRAC i]⟩,
   ⟨.can, 0x44000040, 16, 0x10000, 1, 0x0, 4, fun i _ => [CAN_TRXCTL_MODE i, CAN_TRXCTL_SIC i, CAN_TRXCTL_WAKEEN i]⟩,
   ⟨.can, 0x44000044, 16, 0x10000, 1, 0x0, 4, fun i _ => [CAN_TRXSTAT_PWROK i, CAN_TRXSTAT_FORCED i, CAN_TRXSTAT_OT i, CAN_TRXSTAT_WAKE i, CAN_TRXSTAT_STATE i]⟩,
   ⟨.can, 0x44000100, 16, 0x10000, 4, 0x4, 4, fun i j => [CAN_TXPEND_OBJ i j]⟩]
def regTableRegBus1 : List RegDef :=
  [⟨.can, 0x44000110, 16, 0x10000, 4, 0x4, 4, fun i j => [CAN_RXFULL_OBJ i j]⟩,
   ⟨.can, 0x44000800, 16, 0x10000, 128, 0x4, 4, fun i j => [CAN_OBJOWN_MODE i j, CAN_OBJOWN_OWNID i j, CAN_OBJOWN_VI i j]⟩,
   ⟨.can, 0x44001000, 16, 0x10000, 128, 0x20, 4, fun i j => [CAN_OBJCFG_EN i j, CAN_OBJCFG_DIR i j, CAN_OBJCFG_FMT i j, CAN_OBJCFG_BRS i j, CAN_OBJCFG_RTR i j, CAN_OBJCFG_OVW i j, CAN_OBJCFG_GW i j, CAN_OBJCFG_IE i j, CAN_OBJCFG_PBASE i j, CAN_OBJCFG_PSIZE i j]⟩,
   ⟨.can, 0x44001004, 16, 0x10000, 128, 0x20, 4, fun i j => [CAN_OBJID_IDE i j, CAN_OBJID_ID i j]⟩,
   ⟨.can, 0x44001008, 16, 0x10000, 128, 0x20, 4, fun i j => [CAN_OBJMASK_IDEM i j, CAN_OBJMASK_MASK i j]⟩,
   ⟨.can, 0x4400100C, 16, 0x10000, 128, 0x20, 4, fun i j => [CAN_OBJXL_SDT i j, CAN_OBJXL_VCID i j, CAN_OBJXL_SEC i j]⟩,
   ⟨.can, 0x44001010, 16, 0x10000, 128, 0x20, 4, fun i j => [CAN_OBJAF_AF i j]⟩,
   ⟨.can, 0x44001014, 16, 0x10000, 128, 0x20, 4, fun i j => [CAN_OBJCTL_TXREQ i j, CAN_OBJCTL_ABORT i j, CAN_OBJCTL_SEQ i j, CAN_OBJCTL_LOSTCNT i j]⟩,
   ⟨.can, 0x44001018, 16, 0x10000, 128, 0x20, 4, fun i j => [CAN_OBJSTAT_FULL i j, CAN_OBJSTAT_LOST i j, CAN_OBJSTAT_DONE i j, CAN_OBJSTAT_FAIL i j, CAN_OBJSTAT_FT i j, CAN_OBJSTAT_BRSR i j, CAN_OBJSTAT_ESIR i j, CAN_OBJSTAT_RTRR i j, CAN_OBJSTAT_LEN i j]⟩,
   ⟨.can, 0x4400101C, 16, 0x10000, 128, 0x20, 4, fun i j => [CAN_OBJSTAMP_STAMP i j]⟩,
   ⟨.lin, 0x44100000, 8, 0x1000, 1, 0x0, 4, fun i _ => [LIN_CTL_EN i, LIN_CTL_CMDR i, LIN_CTL_WAKE i, LIN_CTL_TRXMODE i, LIN_CTL_WAKEEN i, LIN_CTL_BRKLEN i, LIN_CTL_BAUDDIV i]⟩,
   ⟨.lin, 0x44100004, 8, 0x1000, 1, 0x0, 4, fun i _ => [LIN_STAT_STATE i, LIN_STAT_FORCED i, LIN_STAT_WAKE i, LIN_STAT_TXDTO i, LIN_STAT_OT i, LIN_STAT_LEC i, LIN_STAT_ERRS i, LIN_STAT_LASTID i]⟩,
   ⟨.lin, 0x44100008, 8, 0x1000, 1, 0x0, 4, fun i _ => [LIN_SCHCTL_RUN i, LIN_SCHCTL_LEN i]⟩,
   ⟨.lin, 0x4410000C, 8, 0x1000, 1, 0x0, 4, fun i _ => [LIN_SCHSTAT_CYCLES i, LIN_SCHSTAT_CUR i]⟩,
   ⟨.lin, 0x44100100, 8, 0x1000, 32, 0x4, 4, fun i j => [LIN_SCH_ID i j, LIN_SCH_SLOT i j]⟩,
   ⟨.lin, 0x44100200, 8, 0x1000, 64, 0x10, 4, fun i j => [LIN_FCFG_DIR i j, LIN_FCFG_ENH i j, LIN_FCFG_IE i j, LIN_FCFG_LEN i j]⟩]
def regTableRegBus2 : List RegDef :=
  [⟨.lin, 0x44100204, 8, 0x1000, 64, 0x10, 4, fun i j => [LIN_FSTAT_NEW i j, LIN_FSTAT_ERR i j, LIN_FSTAT_LEC i j, LIN_FSTAT_SEQ i j]⟩,
   ⟨.lin, 0x44100208, 8, 0x1000, 64, 0x10, 8, fun i j => [LIN_FDATA_DATA i j]⟩,
   ⟨.crs, 0x44200000, 1, 0x0, 1, 0x0, 4, fun _ _ => [CRS_CTL_EN, CRS_CTL_CONSENT, CRS_CTL_HIER, CRS_CTL_FWRET, CRS_CTL_RING, CRS_CTL_NODE]⟩,
   ⟨.crs, 0x44200004, 1, 0x0, 1, 0x0, 4, fun _ _ => [CRS_CFG_STEP, CRS_CFG_SLOTTO, CRS_CFG_PREP, CRS_CFG_WAKEWIN]⟩,
   ⟨.crs, 0x44200008, 1, 0x0, 1, 0x0, 4, fun _ _ => [CRS_CFG2_FWMAX, CRS_CFG2_KEEPLIM, CRS_CFG2_CANBASE]⟩,
   ⟨.crs, 0x4420000C, 1, 0x0, 1, 0x0, 4, fun _ _ => [CRS_STAT_STATE, CRS_STAT_BBSTATE, CRS_STAT_CONSRUN, CRS_STAT_ROUND, CRS_STAT_BBROUND, CRS_STAT_MEMBERS]⟩,
   ⟨.crs, 0x44200010, 1, 0x0, 1, 0x0, 8, fun _ _ => [CRS_LMAC_MAC]⟩,
   ⟨.crs, 0x44200018, 1, 0x0, 1, 0x0, 8, fun _ _ => [CRS_BBMAC_MAC]⟩,
   ⟨.crs, 0x44200020, 1, 0x0, 1, 0x0, 8, fun _ _ => [CRS_SA_MAC]⟩,
   ⟨.crs, 0x44200028, 1, 0x0, 1, 0x0, 4, fun _ _ => [CRS_ZOK_REQ, CRS_ZOK_DROP, CRS_ZOK_LEVEL, CRS_ZOK_CAUSE, CRS_ZOK_WDT]⟩,
   ⟨.crs, 0x44200030, 1, 0x0, 1, 0x0, 8, fun _ _ => [CRS_PRES_NODES]⟩,
   ⟨.crs, 0x44200038, 1, 0x0, 1, 0x0, 8, fun _ _ => [CRS_CONS_NODES]⟩,
   ⟨.crs, 0x44200040, 1, 0x0, 1, 0x0, 4, fun _ _ => [CRS_BBPRES_RINGS]⟩,
   ⟨.crs, 0x44200044, 1, 0x0, 1, 0x0, 4, fun _ _ => [CRS_BBCONS_RINGS]⟩,
   ⟨.crs, 0x44200048, 1, 0x0, 1, 0x0, 4, fun _ _ => [CRS_WAKE_CONF, CRS_WAKE_FALSE, CRS_WAKE_COUNT, CRS_WAKE_FIRST]⟩,
   ⟨.crs, 0x44200050, 1, 0x0, 1, 0x0, 8, fun _ _ => [CRS_WAKEBUS_BUSES]⟩]
def regTableRegBus3 : List RegDef :=
  [⟨.crs, 0x44200100, 40, 0x4, 1, 0x0, 4, fun i _ => [CRS_BUS_RING i, CRS_BUS_WAKEEN i, CRS_BUS_GTS i]⟩,
   ⟨.crs, 0x44200200, 40, 0x4, 1, 0x0, 4, fun i _ => [CRS_FW_WOFF i, CRS_FW_RUN i, CRS_FW_COUNT i]⟩,
   ⟨.crs, 0x44200300, 64, 0x4, 1, 0x0, 4, fun i _ => [CRS_KEEP_WH i, CRS_KEEP_TIME i]⟩,
   ⟨.crs, 0x44200400, 32, 0x4, 1, 0x0, 4, fun i _ => [CRS_BBKEEP_WH i, CRS_BBKEEP_KEEPER i, CRS_BBKEEP_TIME i]⟩]
def regTableRegBus : List RegDef :=
  regTableRegBus0 ++ regTableRegBus1 ++ regTableRegBus2 ++ regTableRegBus3

end Sys2Proof.Machine
end

