-- ==== Sys2Proof/Machine/RegConv.lean ====
section
/-! DEFINITION. The fields of the ADC, PWM, CMP, DAC and SDF registers, one definition per field: its address, place, width,
reset value, access code and reset kind, from the layout and address tables of spec/ (R128). -/

namespace Sys2Proof.Machine

/-- ADC_CTL: address (R128). -/
def a_ADC_CTL (n : Nat) : Nat := 0x41000000 + n * 0x1000
/-- R129 ADC_CTL[31] RW. -/
def ADC_CTL_EN (n : Nat) : Fld := ⟨(a_ADC_CTL n), 31, 1, 0, .rw, .B⟩
/-- R129 ADC_CTL[30] RW. -/
def ADC_CTL_FREERUN (n : Nat) : Fld := ⟨(a_ADC_CTL n), 30, 1, 0, .rw, .B⟩
/-- R129 ADC_CTL[27:24] RW. -/
def ADC_CTL_LEN (n : Nat) : Fld := ⟨(a_ADC_CTL n), 24, 4, 0, .rw, .B⟩
/-- R129 ADC_CTL[21:16] RW. -/
def ADC_CTL_TRIG (n : Nat) : Fld := ⟨(a_ADC_CTL n), 16, 6, 0, .rw, .B⟩
/-- R129 ADC_CTL[15] RW. -/
def ADC_CTL_TRIGEN (n : Nat) : Fld := ⟨(a_ADC_CTL n), 15, 1, 0, .rw, .B⟩
/-- R129 ADC_CTL[0] WO. -/
def ADC_CTL_START (n : Nat) : Fld := ⟨(a_ADC_CTL n), 0, 1, 0, .wo, .B⟩
/-- ADC_STAT: address (R128). -/
def a_ADC_STAT (n : Nat) : Nat := 0x41000004 + n * 0x1000
/-- R129 ADC_STAT[31:16] W1C. -/
def ADC_STAT_LIMHIT (n : Nat) : Fld := ⟨(a_ADC_STAT n), 16, 16, 0, .w1c, .B⟩
/-- R129 ADC_STAT[15:8] RC. -/
def ADC_STAT_OVR (n : Nat) : Fld := ⟨(a_ADC_STAT n), 8, 8, 0, .rc, .B⟩
/-- R129 ADC_STAT[1] RO. -/
def ADC_STAT_CALOK (n : Nat) : Fld := ⟨(a_ADC_STAT n), 1, 1, 0, .ro, .C⟩
/-- R129 ADC_STAT[0] RO. -/
def ADC_STAT_BUSY (n : Nat) : Fld := ⟨(a_ADC_STAT n), 0, 1, 0, .ro, .B⟩
/-- ADC_CAL: address (R128). -/
def a_ADC_CAL (n : Nat) : Nat := 0x41000008 + n * 0x1000
/-- R129 ADC_CAL[31:16] RO. -/
def ADC_CAL_GAIN (n : Nat) : Fld := ⟨(a_ADC_CAL n), 16, 16, 0x8000, .ro, .cal⟩
/-- R129 ADC_CAL[15:0] RO. -/
def ADC_CAL_OFFSET (n : Nat) : Fld := ⟨(a_ADC_CAL n), 0, 16, 0, .ro, .cal⟩
/-- ADC_SEQ: address (R128). -/
def a_ADC_SEQ (n k : Nat) : Nat := 0x41000100 + n * 0x1000 + k * 4
/-- R129 ADC_SEQ[15:12] RW. -/
def ADC_SEQ_TRACK (n k : Nat) : Fld := ⟨(a_ADC_SEQ n k), 12, 4, 0, .rw, .B⟩
/-- R129 ADC_SEQ[11:10] RW. -/
def ADC_SEQ_AVG (n k : Nat) : Fld := ⟨(a_ADC_SEQ n k), 10, 2, 0, .rw, .B⟩
/-- R129 ADC_SEQ[9] RW. -/
def ADC_SEQ_LIMEN (n k : Nat) : Fld := ⟨(a_ADC_SEQ n k), 9, 1, 0, .rw, .B⟩
/-- R129 ADC_SEQ[8] RW. -/
def ADC_SEQ_FMT (n k : Nat) : Fld := ⟨(a_ADC_SEQ n k), 8, 1, 0, .rw, .B⟩
/-- R129 ADC_SEQ[3] RW. -/
def ADC_SEQ_INT (n k : Nat) : Fld := ⟨(a_ADC_SEQ n k), 3, 1, 0, .rw, .B⟩
/-- R129 ADC_SEQ[2:0] RW. -/
def ADC_SEQ_INSEL (n k : Nat) : Fld := ⟨(a_ADC_SEQ n k), 0, 3, 0, .rw, .B⟩
/-- ADC_RES: address (R128). -/
def a_ADC_RES (n k : Nat) : Nat := 0x41000200 + n * 0x1000 + k * 4
/-- R129 ADC_RES[31] RC. -/
def ADC_RES_NEW (n k : Nat) : Fld := ⟨(a_ADC_RES n k), 31, 1, 0, .rc, .B⟩
/-- R129 ADC_RES[23:16] RO. -/
def ADC_RES_SEQNO (n k : Nat) : Fld := ⟨(a_ADC_RES n k), 16, 8, 0, .ro, .B⟩
/-- R129 ADC_RES[15:0] RO. -/
def ADC_RES_VALUE (n k : Nat) : Fld := ⟨(a_ADC_RES n k), 0, 16, 0, .ro, .B⟩
/-- ADC_LIM: address (R128). -/
def a_ADC_LIM (n k : Nat) : Nat := 0x41000300 + n * 0x1000 + k * 4
/-- R129 ADC_LIM[31:16] RW. -/
def ADC_LIM_HI (n k : Nat) : Fld := ⟨(a_ADC_LIM n k), 16, 16, 0xFFFF, .rw, .B⟩
/-- R129 ADC_LIM[15:0] RW. -/
def ADC_LIM_LO (n k : Nat) : Fld := ⟨(a_ADC_LIM n k), 0, 16, 0, .rw, .B⟩
/-- ADC_GRP: address (R128). -/
def a_ADC_GRP (g : Nat) : Nat := 0x41008000 + g * 0x1000
/-- R129 ADC_GRP[31] RW. -/
def ADC_GRP_EN (g : Nat) : Fld := ⟨(a_ADC_GRP g), 31, 1, 0, .rw, .B⟩
/-- R129 ADC_GRP[29:24] RW. -/
def ADC_GRP_TRIG (g : Nat) : Fld := ⟨(a_ADC_GRP g), 24, 6, 0, .rw, .B⟩
/-- R129 ADC_GRP[8] WO. -/
def ADC_GRP_START (g : Nat) : Fld := ⟨(a_ADC_GRP g), 8, 1, 0, .wo, .B⟩
/-- R129 ADC_GRP[7:0] RW. -/
def ADC_GRP_MASK (g : Nat) : Fld := ⟨(a_ADC_GRP g), 0, 8, 0, .rw, .B⟩
/-- ADC_GRPDST: address (R128). -/
def a_ADC_GRPDST (g : Nat) : Nat := 0x41008004 + g * 0x1000
/-- R129 ADC_GRPDST[31] RW. -/
def ADC_GRPDST_EN (g : Nat) : Fld := ⟨(a_ADC_GRPDST g), 31, 1, 0, .rw, .B⟩
/-- R129 ADC_GRPDST[30] RW. -/
def ADC_GRPDST_PAIR (g : Nat) : Fld := ⟨(a_ADC_GRPDST g), 30, 1, 0, .rw, .B⟩
/-- R129 ADC_GRPDST[29] RW. -/
def ADC_GRPDST_SRAM (g : Nat) : Fld := ⟨(a_ADC_GRPDST g), 29, 1, 0, .rw, .B⟩
/-- R129 ADC_GRPDST[27:24] RW. -/
def ADC_GRPDST_ENG (g : Nat) : Fld := ⟨(a_ADC_GRPDST g), 24, 4, 0, .rw, .B⟩
/-- R129 ADC_GRPDST[15:0] RW. -/
def ADC_GRPDST_ADDR (g : Nat) : Fld := ⟨(a_ADC_GRPDST g), 0, 16, 0, .rw, .B⟩
/-- ADC_GRPSTAT: address (R128). -/
def a_ADC_GRPSTAT (g : Nat) : Nat := 0x41008008 + g * 0x1000
/-- R129 ADC_GRPSTAT[31:24] RO. -/
def ADC_GRPSTAT_SEQNO (g : Nat) : Fld := ⟨(a_ADC_GRPSTAT g), 24, 8, 0, .ro, .B⟩
/-- R129 ADC_GRPSTAT[17] RO. -/
def ADC_GRPSTAT_CONFLICT (g : Nat) : Fld := ⟨(a_ADC_GRPSTAT g), 17, 1, 0, .ro, .B⟩
/-- R129 ADC_GRPSTAT[16] W1C. -/
def ADC_GRPSTAT_DSTERR (g : Nat) : Fld := ⟨(a_ADC_GRPSTAT g), 16, 1, 0, .w1c, .B⟩
/-- R129 ADC_GRPSTAT[15:0] RO. -/
def ADC_GRPSTAT_WR (g : Nat) : Fld := ⟨(a_ADC_GRPSTAT g), 0, 16, 0, .ro, .B⟩
/-- ADC_GRPBUF: address (R128). -/
def a_ADC_GRPBUF (g : Nat) : Nat := 0x41008010 + g * 0x1000
/-- R129 ADC_GRPBUF[39:12] RW. -/
def ADC_GRPBUF_BASE (g : Nat) : Fld := ⟨(a_ADC_GRPBUF g), 12, 28, 0, .rw, .B⟩
/-- R129 ADC_GRPBUF[3:0] RW. -/
def ADC_GRPBUF_SIZE (g : Nat) : Fld := ⟨(a_ADC_GRPBUF g), 0, 4, 0, .rw, .B⟩
/-- ADC_REFCTL: address (R128). -/
def a_ADC_REFCTL : Nat := 0x41010000
/-- R129 ADC_REFCTL[7:0] RW. -/
def ADC_REFCTL_THR : Fld := ⟨a_ADC_REFCTL, 0, 8, 0x32, .rw, .C⟩
/-- ADC_REFSTAT: address (R128). -/
def a_ADC_REFSTAT : Nat := 0x41010004
/-- R129 ADC_REFSTAT[31] W1C. -/
def ADC_REFSTAT_MISMATCH : Fld := ⟨a_ADC_REFSTAT, 31, 1, 0, .w1c, .C⟩
/-- R129 ADC_REFSTAT[30] RO. -/
def ADC_REFSTAT_NOW : Fld := ⟨a_ADC_REFSTAT, 30, 1, 0, .ro, .C⟩
/-- R129 ADC_REFSTAT[15:0] RO. -/
def ADC_REFSTAT_DEV : Fld := ⟨a_ADC_REFSTAT, 0, 16, 0, .ro, .C⟩
/-- PWM_CTL: address (R128). -/
def a_PWM_CTL (j : Nat) : Nat := 0x41100000 + j * 0x1000
/-- R132 PWM_CTL[31] RW. -/
def PWM_CTL_EN (j : Nat) : Fld := ⟨(a_PWM_CTL j), 31, 1, 0, .rw, .B⟩
/-- R132 PWM_CTL[29:28] RW. -/
def PWM_CTL_FORCEA (j : Nat) : Fld := ⟨(a_PWM_CTL j), 28, 2, 0, .rw, .B⟩
/-- R132 PWM_CTL[27:26] RW. -/
def PWM_CTL_FORCEB (j : Nat) : Fld := ⟨(a_PWM_CTL j), 26, 2, 0, .rw, .B⟩
/-- R132 PWM_CTL[25] WO. -/
def PWM_CTL_TRIPCLR (j : Nat) : Fld := ⟨(a_PWM_CTL j), 25, 1, 0, .wo, .B⟩
/-- R132 PWM_CTL[24] WO. -/
def PWM_CTL_SWTRIP (j : Nat) : Fld := ⟨(a_PWM_CTL j), 24, 1, 0, .wo, .B⟩
/-- PWM_CFG: address (R128). -/
def a_PWM_CFG (j : Nat) : Nat := 0x41100004 + j * 0x1000
/-- R132 PWM_CFG[31:30] RW. -/
def PWM_CFG_LOAD (j : Nat) : Fld := ⟨(a_PWM_CFG j), 30, 2, 0, .rw, .B⟩
/-- R132 PWM_CFG[29:28] RW. -/
def PWM_CFG_ALIGN (j : Nat) : Fld := ⟨(a_PWM_CFG j), 28, 2, 0, .rw, .B⟩
/-- R132 PWM_CFG[27] RW. -/
def PWM_CFG_DUTYMODE (j : Nat) : Fld := ⟨(a_PWM_CFG j), 27, 1, 0, .rw, .B⟩
/-- R132 PWM_CFG[26] RW. -/
def PWM_CFG_COMPL (j : Nat) : Fld := ⟨(a_PWM_CFG j), 26, 1, 1, .rw, .B⟩
/-- R132 PWM_CFG[25] RW. -/
def PWM_CFG_XLOCK (j : Nat) : Fld := ⟨(a_PWM_CFG j), 25, 1, 1, .rw, .B⟩
/-- R132 PWM_CFG[24] RW. -/
def PWM_CFG_COARSE (j : Nat) : Fld := ⟨(a_PWM_CFG j), 24, 1, 0, .rw, .B⟩
/-- R132 PWM_CFG[23] RW. -/
def PWM_CFG_SYNC (j : Nat) : Fld := ⟨(a_PWM_CFG j), 23, 1, 0, .rw, .B⟩
/-- R132 PWM_CFG[21:16] RW. -/
def PWM_CFG_SYNCTRG (j : Nat) : Fld := ⟨(a_PWM_CFG j), 16, 6, 0, .rw, .B⟩
/-- R132 PWM_CFG[15:8] RW. -/
def PWM_CFG_MINPW (j : Nat) : Fld := ⟨(a_PWM_CFG j), 8, 8, 0x28, .rw, .B⟩
/-- R132 PWM_CFG[7:0] RW. -/
def PWM_CFG_SYNCWIN (j : Nat) : Fld := ⟨(a_PWM_CFG j), 0, 8, 0x64, .rw, .B⟩
/-- PWM_DT: address (R128). -/
def a_PWM_DT (j : Nat) : Nat := 0x41100008 + j * 0x1000
/-- R132 PWM_DT[31:16] RW. -/
def PWM_DT_DTA (j : Nat) : Fld := ⟨(a_PWM_DT j), 16, 16, 0, .rw, .B⟩
/-- R132 PWM_DT[15:0] RW. -/
def PWM_DT_DTB (j : Nat) : Fld := ⟨(a_PWM_DT j), 0, 16, 0, .rw, .B⟩
/-- PWM_SH_PHASE: address (R128). -/
def a_PWM_SH_PHASE (j : Nat) : Nat := 0x4110000C + j * 0x1000
/-- R132 PWM_SH_PHASE[23:0] RW. -/
def PWM_SH_PHASE_VALUE (j : Nat) : Fld := ⟨(a_PWM_SH_PHASE j), 0, 24, 0, .rw, .B⟩
/-- PWM_SH_PER: address (R128). -/
def a_PWM_SH_PER (j : Nat) : Nat := 0x41100010 + j * 0x1000
/-- R132 PWM_SH_PER[23:0] RW. -/
def PWM_SH_PER_VALUE (j : Nat) : Fld := ⟨(a_PWM_SH_PER j), 0, 24, 0, .rw, .B⟩
/-- PWM_SH_ONA: address (R128). -/
def a_PWM_SH_ONA (j : Nat) : Nat := 0x41100014 + j * 0x1000
/-- R132 PWM_SH_ONA[23:0] RW. -/
def PWM_SH_ONA_VALUE (j : Nat) : Fld := ⟨(a_PWM_SH_ONA j), 0, 24, 0, .rw, .B⟩
/-- PWM_SH_OFFA: address (R128). -/
def a_PWM_SH_OFFA (j : Nat) : Nat := 0x41100018 + j * 0x1000
/-- R132 PWM_SH_OFFA[23:0] RW. -/
def PWM_SH_OFFA_VALUE (j : Nat) : Fld := ⟨(a_PWM_SH_OFFA j), 0, 24, 0, .rw, .B⟩
/-- PWM_SH_ONB: address (R128). -/
def a_PWM_SH_ONB (j : Nat) : Nat := 0x4110001C + j * 0x1000
/-- R132 PWM_SH_ONB[23:0] RW. -/
def PWM_SH_ONB_VALUE (j : Nat) : Fld := ⟨(a_PWM_SH_ONB j), 0, 24, 0, .rw, .B⟩
/-- PWM_SH_OFFB: address (R128). -/
def a_PWM_SH_OFFB (j : Nat) : Nat := 0x41100020 + j * 0x1000
/-- R132 PWM_SH_OFFB[23:0] RW. -/
def PWM_SH_OFFB_VALUE (j : Nat) : Fld := ⟨(a_PWM_SH_OFFB j), 0, 24, 0, .rw, .B⟩
/-- PWM_SH_DUTY: address (R128). -/
def a_PWM_SH_DUTY (j : Nat) : Nat := 0x41100024 + j * 0x1000
/-- R132 PWM_SH_DUTY[23:0] RW. -/
def PWM_SH_DUTY_VALUE (j : Nat) : Fld := ⟨(a_PWM_SH_DUTY j), 0, 24, 0, .rw, .B⟩
/-- PWM_COMMIT: address (R128). -/
def a_PWM_COMMIT (j : Nat) : Nat := 0x41100028 + j * 0x1000
/-- R132 PWM_COMMIT[0] WO. -/
def PWM_COMMIT_GO (j : Nat) : Fld := ⟨(a_PWM_COMMIT j), 0, 1, 0, .wo, .B⟩
/-- PWM_ACT_PER: address (R128). -/
def a_PWM_ACT_PER (j : Nat) : Nat := 0x41100030 + j * 0x1000
/-- R132 PWM_ACT_PER[23:0] RO. -/
def PWM_ACT_PER_VALUE (j : Nat) : Fld := ⟨(a_PWM_ACT_PER j), 0, 24, 0, .ro, .B⟩
/-- PWM_ACT_ONA: address (R128). -/
def a_PWM_ACT_ONA (j : Nat) : Nat := 0x41100034 + j * 0x1000
/-- R132 PWM_ACT_ONA[23:0] RO. -/
def PWM_ACT_ONA_VALUE (j : Nat) : Fld := ⟨(a_PWM_ACT_ONA j), 0, 24, 0, .ro, .B⟩
/-- PWM_ACT_OFFA: address (R128). -/
def a_PWM_ACT_OFFA (j : Nat) : Nat := 0x41100038 + j * 0x1000
/-- R132 PWM_ACT_OFFA[23:0] RO. -/
def PWM_ACT_OFFA_VALUE (j : Nat) : Fld := ⟨(a_PWM_ACT_OFFA j), 0, 24, 0, .ro, .B⟩
/-- PWM_ACT_ONB: address (R128). -/
def a_PWM_ACT_ONB (j : Nat) : Nat := 0x4110003C + j * 0x1000
/-- R132 PWM_ACT_ONB[23:0] RO. -/
def PWM_ACT_ONB_VALUE (j : Nat) : Fld := ⟨(a_PWM_ACT_ONB j), 0, 24, 0, .ro, .B⟩
/-- PWM_ACT_OFFB: address (R128). -/
def a_PWM_ACT_OFFB (j : Nat) : Nat := 0x41100040 + j * 0x1000
/-- R132 PWM_ACT_OFFB[23:0] RO. -/
def PWM_ACT_OFFB_VALUE (j : Nat) : Fld := ⟨(a_PWM_ACT_OFFB j), 0, 24, 0, .ro, .B⟩
/-- PWM_ACT_PHASE: address (R128). -/
def a_PWM_ACT_PHASE (j : Nat) : Nat := 0x41100044 + j * 0x1000
/-- R132 PWM_ACT_PHASE[23:0] RO. -/
def PWM_ACT_PHASE_VALUE (j : Nat) : Fld := ⟨(a_PWM_ACT_PHASE j), 0, 24, 0, .ro, .B⟩
/-- PWM_CNT: address (R128). -/
def a_PWM_CNT (j : Nat) : Nat := 0x41100048 + j * 0x1000
/-- R132 PWM_CNT[23:0] RO. -/
def PWM_CNT_CNT (j : Nat) : Fld := ⟨(a_PWM_CNT j), 0, 24, 0, .ro, .B⟩
/-- PWM_TRIPSEL: address (R128). -/
def a_PWM_TRIPSEL (j : Nat) : Nat := 0x41100050 + j * 0x1000
/-- R132 PWM_TRIPSEL[31:28] RW. -/
def PWM_TRIPSEL_EXT (j : Nat) : Fld := ⟨(a_PWM_TRIPSEL j), 28, 4, 0, .rw, .B⟩
/-- R132 PWM_TRIPSEL[27:24] RW. -/
def PWM_TRIPSEL_SDF (j : Nat) : Fld := ⟨(a_PWM_TRIPSEL j), 24, 4, 0, .rw, .B⟩
/-- R132 PWM_TRIPSEL[23:0] RW. -/
def PWM_TRIPSEL_CMP (j : Nat) : Fld := ⟨(a_PWM_TRIPSEL j), 0, 24, 0, .rw, .B⟩
/-- PWM_TRIPCTL: address (R128). -/
def a_PWM_TRIPCTL (j : Nat) : Nat := 0x41100054 + j * 0x1000
/-- R132 PWM_TRIPCTL[31] RW. -/
def PWM_TRIPCTL_CBC (j : Nat) : Fld := ⟨(a_PWM_TRIPCTL j), 31, 1, 0, .rw, .B⟩
/-- R132 PWM_TRIPCTL[30] RW. -/
def PWM_TRIPCTL_REFTRIP (j : Nat) : Fld := ⟨(a_PWM_TRIPCTL j), 30, 1, 1, .rw, .B⟩
/-- R132 PWM_TRIPCTL[29:28] RW. -/
def PWM_TRIPCTL_SAFEA (j : Nat) : Fld := ⟨(a_PWM_TRIPCTL j), 28, 2, 0, .rw, .B⟩
/-- R132 PWM_TRIPCTL[27:26] RW. -/
def PWM_TRIPCTL_SAFEB (j : Nat) : Fld := ⟨(a_PWM_TRIPCTL j), 26, 2, 0, .rw, .B⟩
/-- PWM_STAT: address (R128). -/
def a_PWM_STAT (j : Nat) : Nat := 0x41100058 + j * 0x1000
/-- R132 PWM_STAT[31:24] RC. -/
def PWM_STAT_LATE (j : Nat) : Fld := ⟨(a_PWM_STAT j), 24, 8, 0, .rc, .B⟩
/-- R132 PWM_STAT[23:16] RC. -/
def PWM_STAT_MINCNT (j : Nat) : Fld := ⟨(a_PWM_STAT j), 16, 8, 0, .rc, .B⟩
/-- R132 PWM_STAT[15:8] RC. -/
def PWM_STAT_SYNCERR (j : Nat) : Fld := ⟨(a_PWM_STAT j), 8, 8, 0, .rc, .B⟩
/-- R132 PWM_STAT[3] RO. -/
def PWM_STAT_PEND (j : Nat) : Fld := ⟨(a_PWM_STAT j), 3, 1, 0, .ro, .B⟩
/-- R132 PWM_STAT[2] RO. -/
def PWM_STAT_CBC (j : Nat) : Fld := ⟨(a_PWM_STAT j), 2, 1, 0, .ro, .B⟩
/-- R132 PWM_STAT[1] RO. -/
def PWM_STAT_TRIPPED (j : Nat) : Fld := ⟨(a_PWM_STAT j), 1, 1, 0, .ro, .B⟩
/-- R132 PWM_STAT[0] RO. -/
def PWM_STAT_RUN (j : Nat) : Fld := ⟨(a_PWM_STAT j), 0, 1, 0, .ro, .B⟩
/-- PWM_TRIPSRC: address (R128). -/
def a_PWM_TRIPSRC (j : Nat) : Nat := 0x4110005C + j * 0x1000
/-- R132 PWM_TRIPSRC[31] RO. -/
def PWM_TRIPSRC_VALID (j : Nat) : Fld := ⟨(a_PWM_TRIPSRC j), 31, 1, 0, .ro, .B⟩
/-- R132 PWM_TRIPSRC[5:0] RO. -/
def PWM_TRIPSRC_SRC (j : Nat) : Fld := ⟨(a_PWM_TRIPSRC j), 0, 6, 0, .ro, .B⟩
/-- PWM_GCTL: address (R128). -/
def a_PWM_GCTL : Nat := 0x41118000
/-- R132 PWM_GCTL[0] WO. -/
def PWM_GCTL_GTRIP : Fld := ⟨a_PWM_GCTL, 0, 1, 0, .wo, .C⟩
/-- PWM_GSTAT: address (R128). -/
def a_PWM_GSTAT : Nat := 0x41118004
/-- R132 PWM_GSTAT[23:0] RO. -/
def PWM_GSTAT_TRIPPED : Fld := ⟨a_PWM_GSTAT, 0, 24, 0, .ro, .C⟩
/-- CMP_CTL: address (R128). -/
def a_CMP_CTL (c : Nat) : Nat := 0x41200000 + c * 0x1000
/-- R131 CMP_CTL[31] RW. -/
def CMP_CTL_EN (c : Nat) : Fld := ⟨(a_CMP_CTL c), 31, 1, 0, .rw, .B⟩
/-- R131 CMP_CTL[30] RW. -/
def CMP_CTL_POL (c : Nat) : Fld := ⟨(a_CMP_CTL c), 30, 1, 0, .rw, .B⟩
/-- R131 CMP_CTL[29] RW. -/
def CMP_CTL_WINDOW (c : Nat) : Fld := ⟨(a_CMP_CTL c), 29, 1, 0, .rw, .B⟩
/-- R131 CMP_CTL[28:26] RW. -/
def CMP_CTL_REFSEL (c : Nat) : Fld := ⟨(a_CMP_CTL c), 26, 3, 0, .rw, .B⟩
/-- R131 CMP_CTL[25:24] RW. -/
def CMP_CTL_HYST (c : Nat) : Fld := ⟨(a_CMP_CTL c), 24, 2, 1, .rw, .B⟩
/-- R131 CMP_CTL[21:16] RW. -/
def CMP_CTL_INSEL (c : Nat) : Fld := ⟨(a_CMP_CTL c), 16, 6, 0, .rw, .B⟩
/-- R131 CMP_CTL[15:12] RW. -/
def CMP_CTL_FILT (c : Nat) : Fld := ⟨(a_CMP_CTL c), 12, 4, 0, .rw, .B⟩
/-- R131 CMP_CTL[11:6] RW. -/
def CMP_CTL_BLANK (c : Nat) : Fld := ⟨(a_CMP_CTL c), 6, 6, 0, .rw, .B⟩
/-- R131 CMP_CTL[5] RW. -/
def CMP_CTL_BLKOUT (c : Nat) : Fld := ⟨(a_CMP_CTL c), 5, 1, 0, .rw, .B⟩
/-- R131 CMP_CTL[4:0] RW. -/
def CMP_CTL_BLKPAIR (c : Nat) : Fld := ⟨(a_CMP_CTL c), 0, 5, 0x1F, .rw, .B⟩
/-- CMP_THR: address (R128). -/
def a_CMP_THR (c : Nat) : Nat := 0x41200004 + c * 0x1000
/-- R131 CMP_THR[25:16] RW. -/
def CMP_THR_HI (c : Nat) : Fld := ⟨(a_CMP_THR c), 16, 10, 0x3FF, .rw, .B⟩
/-- R131 CMP_THR[9:0] RW. -/
def CMP_THR_LO (c : Nat) : Fld := ⟨(a_CMP_THR c), 0, 10, 0, .rw, .B⟩
/-- CMP_STAT: address (R128). -/
def a_CMP_STAT (c : Nat) : Nat := 0x41200008 + c * 0x1000
/-- R131 CMP_STAT[31:16] RC. -/
def CMP_STAT_TRIPS (c : Nat) : Fld := ⟨(a_CMP_STAT c), 16, 16, 0, .rc, .B⟩
/-- R131 CMP_STAT[2] W1C. -/
def CMP_STAT_LATCH (c : Nat) : Fld := ⟨(a_CMP_STAT c), 2, 1, 0, .w1c, .B⟩
/-- R131 CMP_STAT[1] RO. -/
def CMP_STAT_OUT (c : Nat) : Fld := ⟨(a_CMP_STAT c), 1, 1, 0, .ro, .B⟩
/-- R131 CMP_STAT[0] RO. -/
def CMP_STAT_RAW (c : Nat) : Fld := ⟨(a_CMP_STAT c), 0, 1, 0, .ro, .B⟩
/-- DAC_CTL: address (R128). -/
def a_DAC_CTL (d : Nat) : Nat := 0x41218000 + d * 0x1000
/-- R131 DAC_CTL[31] RW. -/
def DAC_CTL_EN (d : Nat) : Fld := ⟨(a_DAC_CTL d), 31, 1, 0, .rw, .B⟩
/-- R131 DAC_CTL[30] RW. -/
def DAC_CTL_OUTEN (d : Nat) : Fld := ⟨(a_DAC_CTL d), 30, 1, 0, .rw, .B⟩
/-- R131 DAC_CTL[29] RW. -/
def DAC_CTL_LOOP (d : Nat) : Fld := ⟨(a_DAC_CTL d), 29, 1, 0, .rw, .B⟩
/-- DAC_VAL: address (R128). -/
def a_DAC_VAL (d : Nat) : Nat := 0x41218004 + d * 0x1000
/-- R131 DAC_VAL[11:0] RW. -/
def DAC_VAL_VALUE (d : Nat) : Fld := ⟨(a_DAC_VAL d), 0, 12, 0, .rw, .B⟩
/-- SDF_CTL: address (R128). -/
def a_SDF_CTL (m : Nat) : Nat := 0x41300000 + m * 0x1000
/-- R130 SDF_CTL[31] RW. -/
def SDF_CTL_EN (m : Nat) : Fld := ⟨(a_SDF_CTL m), 31, 1, 0, .rw, .B⟩
/-- R130 SDF_CTL[30] RW. -/
def SDF_CTL_CLKOUT (m : Nat) : Fld := ⟨(a_SDF_CTL m), 30, 1, 0, .rw, .B⟩
/-- R130 SDF_CTL[29] RW. -/
def SDF_CTL_EDGE (m : Nat) : Fld := ⟨(a_SDF_CTL m), 29, 1, 0, .rw, .B⟩
/-- R130 SDF_CTL[27:24] RW. -/
def SDF_CTL_CLKDIV (m : Nat) : Fld := ⟨(a_SDF_CTL m), 24, 4, 4, .rw, .B⟩
/-- R130 SDF_CTL[21:16] RW. -/
def SDF_CTL_TRIG (m : Nat) : Fld := ⟨(a_SDF_CTL m), 16, 6, 0, .rw, .B⟩
/-- R130 SDF_CTL[15] RW. -/
def SDF_CTL_TRIGEN (m : Nat) : Fld := ⟨(a_SDF_CTL m), 15, 1, 0, .rw, .B⟩
/-- SDF_FLT: address (R128). -/
def a_SDF_FLT (m : Nat) : Nat := 0x41300004 + m * 0x1000
/-- R130 SDF_FLT[31:30] RW. -/
def SDF_FLT_ORDER (m : Nat) : Fld := ⟨(a_SDF_FLT m), 30, 2, 3, .rw, .B⟩
/-- R130 SDF_FLT[20:16] RW. -/
def SDF_FLT_SHIFT (m : Nat) : Fld := ⟨(a_SDF_FLT m), 16, 5, 0, .rw, .B⟩
/-- R130 SDF_FLT[8:0] RW. -/
def SDF_FLT_OSR (m : Nat) : Fld := ⟨(a_SDF_FLT m), 0, 9, 0x40, .rw, .B⟩
/-- SDF_FAST: address (R128). -/
def a_SDF_FAST (m : Nat) : Nat := 0x41300008 + m * 0x1000
/-- R130 SDF_FAST[31] RW. -/
def SDF_FAST_EN (m : Nat) : Fld := ⟨(a_SDF_FAST m), 31, 1, 0, .rw, .B⟩
/-- R130 SDF_FAST[30] RW. -/
def SDF_FAST_ORDER (m : Nat) : Fld := ⟨(a_SDF_FAST m), 30, 1, 1, .rw, .B⟩
/-- R130 SDF_FAST[5:0] RW. -/
def SDF_FAST_OSR (m : Nat) : Fld := ⟨(a_SDF_FAST m), 0, 6, 8, .rw, .B⟩
/-- SDF_THR: address (R128). -/
def a_SDF_THR (m : Nat) : Nat := 0x4130000C + m * 0x1000
/-- R130 SDF_THR[31:16] RW. -/
def SDF_THR_HI (m : Nat) : Fld := ⟨(a_SDF_THR m), 16, 16, 0x7FFF, .rw, .B⟩
/-- R130 SDF_THR[15:0] RW. -/
def SDF_THR_LO (m : Nat) : Fld := ⟨(a_SDF_THR m), 0, 16, 0x8000, .rw, .B⟩
/-- SDF_STAT: address (R128). -/
def a_SDF_STAT (m : Nat) : Nat := 0x41300010 + m * 0x1000
/-- R130 SDF_STAT[31:24] RC. -/
def SDF_STAT_OVR (m : Nat) : Fld := ⟨(a_SDF_STAT m), 24, 8, 0, .rc, .B⟩
/-- R130 SDF_STAT[4] RO. -/
def SDF_STAT_SETTLE (m : Nat) : Fld := ⟨(a_SDF_STAT m), 4, 1, 0, .ro, .B⟩
/-- R130 SDF_STAT[3] RO. -/
def SDF_STAT_FASTHI (m : Nat) : Fld := ⟨(a_SDF_STAT m), 3, 1, 0, .ro, .B⟩
/-- R130 SDF_STAT[2] RO. -/
def SDF_STAT_FASTLO (m : Nat) : Fld := ⟨(a_SDF_STAT m), 2, 1, 0, .ro, .B⟩
/-- R130 SDF_STAT[1] W1C. -/
def SDF_STAT_CLKLOSS (m : Nat) : Fld := ⟨(a_SDF_STAT m), 1, 1, 0, .w1c, .B⟩
/-- R130 SDF_STAT[0] RC. -/
def SDF_STAT_READY (m : Nat) : Fld := ⟨(a_SDF_STAT m), 0, 1, 0, .rc, .B⟩
/-- SDF_DATA: address (R128). -/
def a_SDF_DATA (m : Nat) : Nat := 0x41300014 + m * 0x1000
/-- R130 SDF_DATA[31:0] RO. -/
def SDF_DATA_DATA (m : Nat) : Fld := ⟨(a_SDF_DATA m), 0, 32, 0, .ro, .B⟩
/-- SDF_DST: address (R128). -/
def a_SDF_DST (m : Nat) : Nat := 0x41300018 + m * 0x1000
/-- R130 SDF_DST[31] RW. -/
def SDF_DST_EN (m : Nat) : Fld := ⟨(a_SDF_DST m), 31, 1, 0, .rw, .B⟩
/-- R130 SDF_DST[30] RW. -/
def SDF_DST_PAIR (m : Nat) : Fld := ⟨(a_SDF_DST m), 30, 1, 0, .rw, .B⟩
/-- R130 SDF_DST[27:24] RW. -/
def SDF_DST_ENG (m : Nat) : Fld := ⟨(a_SDF_DST m), 24, 4, 0, .rw, .B⟩
/-- R130 SDF_DST[15:0] RW. -/
def SDF_DST_ADDR (m : Nat) : Fld := ⟨(a_SDF_DST m), 0, 16, 0, .rw, .B⟩

/-- The registers of this file with their extents, for the decode of an address (R585, R586, R601). -/
def regTableRegConv0 : List RegDef :=
  [⟨.adc, 0x41000000, 8, 0x1000, 1, 0x0, 4, fun i _ => [ADC_CTL_EN i, ADC_CTL_FREERUN i, ADC_CTL_LEN i, ADC_CTL_TRIG i, ADC_CTL_TRIGEN i, ADC_CTL_START i]⟩,
   ⟨.adc, 0x41000004, 8, 0x1000, 1, 0x0, 4, fun i _ => [ADC_STAT_LIMHIT i, ADC_STAT_OVR i, ADC_STAT_CALOK i, ADC_STAT_BUSY i]⟩,
   ⟨.adc, 0x41000008, 8, 0x1000, 1, 0x0, 4, fun i _ => [ADC_CAL_GAIN i, ADC_CAL_OFFSET i]⟩,
   ⟨.adc, 0x41000100, 8, 0x1000, 16, 0x4, 4, fun i j => [ADC_SEQ_TRACK i j, ADC_SEQ_AVG i j, ADC_SEQ_LIMEN i j, ADC_SEQ_FMT i j, ADC_SEQ_INT i j, ADC_SEQ_INSEL i j]⟩,
   ⟨.adc, 0x41000200, 8, 0x1000, 16, 0x4, 4, fun i j => [ADC_RES_NEW i j, ADC_RES_SEQNO i j, ADC_RES_VALUE i j]⟩,
   ⟨.adc, 0x41000300, 8, 0x1000, 16, 0x4, 4, fun i j => [ADC_LIM_HI i j, ADC_LIM_LO i j]⟩,
   ⟨.adc, 0x41008000, 8, 0x1000, 1, 0x0, 4, fun i _ => [ADC_GRP_EN i, ADC_GRP_TRIG i, ADC_GRP_START i, ADC_GRP_MASK i]⟩,
   ⟨.adc, 0x41008004, 8, 0x1000, 1, 0x0, 4, fun i _ => [ADC_GRPDST_EN i, ADC_GRPDST_PAIR i, ADC_GRPDST_SRAM i, ADC_GRPDST_ENG i, ADC_GRPDST_ADDR i]⟩,
   ⟨.adc, 0x41008008, 8, 0x1000, 1, 0x0, 4, fun i _ => [ADC_GRPSTAT_SEQNO i, ADC_GRPSTAT_CONFLICT i, ADC_GRPSTAT_DSTERR i, ADC_GRPSTAT_WR i]⟩,
   ⟨.adc, 0x41008010, 8, 0x1000, 1, 0x0, 8, fun i _ => [ADC_GRPBUF_BASE i, ADC_GRPBUF_SIZE i]⟩,
   ⟨.adc, 0x41010000, 1, 0x0, 1, 0x0, 4, fun _ _ => [ADC_REFCTL_THR]⟩,
   ⟨.adc, 0x41010004, 1, 0x0, 1, 0x0, 4, fun _ _ => [ADC_REFSTAT_MISMATCH, ADC_REFSTAT_NOW, ADC_REFSTAT_DEV]⟩,
   ⟨.pwm, 0x41100000, 24, 0x1000, 1, 0x0, 4, fun i _ => [PWM_CTL_EN i, PWM_CTL_FORCEA i, PWM_CTL_FORCEB i, PWM_CTL_TRIPCLR i, PWM_CTL_SWTRIP i]⟩,
   ⟨.pwm, 0x41100004, 24, 0x1000, 1, 0x0, 4, fun i _ => [PWM_CFG_LOAD i, PWM_CFG_ALIGN i, PWM_CFG_DUTYMODE i, PWM_CFG_COMPL i, PWM_CFG_XLOCK i, PWM_CFG_COARSE i, PWM_CFG_SYNC i, PWM_CFG_SYNCTRG i, PWM_CFG_MINPW i, PWM_CFG_SYNCWIN i]⟩,
   ⟨.pwm, 0x41100008, 24, 0x1000, 1, 0x0, 4, fun i _ => [PWM_DT_DTA i, PWM_DT_DTB i]⟩,
   ⟨.pwm, 0x4110000C, 24, 0x1000, 1, 0x0, 4, fun i _ => [PWM_SH_PHASE_VALUE i]⟩]
def regTableRegConv1 : List RegDef :=
  [⟨.pwm, 0x41100010, 24, 0x1000, 1, 0x0, 4, fun i _ => [PWM_SH_PER_VALUE i]⟩,
   ⟨.pwm, 0x41100014, 24, 0x1000, 1, 0x0, 4, fun i _ => [PWM_SH_ONA_VALUE i]⟩,
   ⟨.pwm, 0x41100018, 24, 0x1000, 1, 0x0, 4, fun i _ => [PWM_SH_OFFA_VALUE i]⟩,
   ⟨.pwm, 0x4110001C, 24, 0x1000, 1, 0x0, 4, fun i _ => [PWM_SH_ONB_VALUE i]⟩,
   ⟨.pwm, 0x41100020, 24, 0x1000, 1, 0x0, 4, fun i _ => [PWM_SH_OFFB_VALUE i]⟩,
   ⟨.pwm, 0x41100024, 24, 0x1000, 1, 0x0, 4, fun i _ => [PWM_SH_DUTY_VALUE i]⟩,
   ⟨.pwm, 0x41100028, 24, 0x1000, 1, 0x0, 4, fun i _ => [PWM_COMMIT_GO i]⟩,
   ⟨.pwm, 0x41100030, 24, 0x1000, 1, 0x0, 4, fun i _ => [PWM_ACT_PER_VALUE i]⟩,
   ⟨.pwm, 0x41100034, 24, 0x1000, 1, 0x0, 4, fun i _ => [PWM_ACT_ONA_VALUE i]⟩,
   ⟨.pwm, 0x41100038, 24, 0x1000, 1, 0x0, 4, fun i _ => [PWM_ACT_OFFA_VALUE i]⟩,
   ⟨.pwm, 0x4110003C, 24, 0x1000, 1, 0x0, 4, fun i _ => [PWM_ACT_ONB_VALUE i]⟩,
   ⟨.pwm, 0x41100040, 24, 0x1000, 1, 0x0, 4, fun i _ => [PWM_ACT_OFFB_VALUE i]⟩,
   ⟨.pwm, 0x41100044, 24, 0x1000, 1, 0x0, 4, fun i _ => [PWM_ACT_PHASE_VALUE i]⟩,
   ⟨.pwm, 0x41100048, 24, 0x1000, 1, 0x0, 4, fun i _ => [PWM_CNT_CNT i]⟩,
   ⟨.pwm, 0x41100050, 24, 0x1000, 1, 0x0, 4, fun i _ => [PWM_TRIPSEL_EXT i, PWM_TRIPSEL_SDF i, PWM_TRIPSEL_CMP i]⟩,
   ⟨.pwm, 0x41100054, 24, 0x1000, 1, 0x0, 4, fun i _ => [PWM_TRIPCTL_CBC i, PWM_TRIPCTL_REFTRIP i, PWM_TRIPCTL_SAFEA i, PWM_TRIPCTL_SAFEB i]⟩]
def regTableRegConv2 : List RegDef :=
  [⟨.pwm, 0x41100058, 24, 0x1000, 1, 0x0, 4, fun i _ => [PWM_STAT_LATE i, PWM_STAT_MINCNT i, PWM_STAT_SYNCERR i, PWM_STAT_PEND i, PWM_STAT_CBC i, PWM_STAT_TRIPPED i, PWM_STAT_RUN i]⟩,
   ⟨.pwm, 0x4110005C, 24, 0x1000, 1, 0x0, 4, fun i _ => [PWM_TRIPSRC_VALID i, PWM_TRIPSRC_SRC i]⟩,
   ⟨.pwm, 0x41118000, 1, 0x0, 1, 0x0, 4, fun _ _ => [PWM_GCTL_GTRIP]⟩,
   ⟨.pwm, 0x41118004, 1, 0x0, 1, 0x0, 4, fun _ _ => [PWM_GSTAT_TRIPPED]⟩,
   ⟨.cmp, 0x41200000, 24, 0x1000, 1, 0x0, 4, fun i _ => [CMP_CTL_EN i, CMP_CTL_POL i, CMP_CTL_WINDOW i, CMP_CTL_REFSEL i, CMP_CTL_HYST i, CMP_CTL_INSEL i, CMP_CTL_FILT i, CMP_CTL_BLANK i, CMP_CTL_BLKOUT i, CMP_CTL_BLKPAIR i]⟩,
   ⟨.cmp, 0x41200004, 24, 0x1000, 1, 0x0, 4, fun i _ => [CMP_THR_HI i, CMP_THR_LO i]⟩,
   ⟨.cmp, 0x41200008, 24, 0x1000, 1, 0x0, 4, fun i _ => [CMP_STAT_TRIPS i, CMP_STAT_LATCH i, CMP_STAT_OUT i, CMP_STAT_RAW i]⟩,
   ⟨.cmp, 0x41218000, 4, 0x1000, 1, 0x0, 4, fun i _ => [DAC_CTL_EN i, DAC_CTL_OUTEN i, DAC_CTL_LOOP i]⟩,
   ⟨.cmp, 0x41218004, 4, 0x1000, 1, 0x0, 4, fun i _ => [DAC_VAL_VALUE i]⟩,
   ⟨.sdf, 0x41300000, 4, 0x1000, 1, 0x0, 4, fun i _ => [SDF_CTL_EN i, SDF_CTL_CLKOUT i, SDF_CTL_EDGE i, SDF_CTL_CLKDIV i, SDF_CTL_TRIG i, SDF_CTL_TRIGEN i]⟩,
   ⟨.sdf, 0x41300004, 4, 0x1000, 1, 0x0, 4, fun i _ => [SDF_FLT_ORDER i, SDF_FLT_SHIFT i, SDF_FLT_OSR i]⟩,
   ⟨.sdf, 0x41300008, 4, 0x1000, 1, 0x0, 4, fun i _ => [SDF_FAST_EN i, SDF_FAST_ORDER i, SDF_FAST_OSR i]⟩,
   ⟨.sdf, 0x4130000C, 4, 0x1000, 1, 0x0, 4, fun i _ => [SDF_THR_HI i, SDF_THR_LO i]⟩,
   ⟨.sdf, 0x41300010, 4, 0x1000, 1, 0x0, 4, fun i _ => [SDF_STAT_OVR i, SDF_STAT_SETTLE i, SDF_STAT_FASTHI i, SDF_STAT_FASTLO i, SDF_STAT_CLKLOSS i, SDF_STAT_READY i]⟩,
   ⟨.sdf, 0x41300014, 4, 0x1000, 1, 0x0, 4, fun i _ => [SDF_DATA_DATA i]⟩,
   ⟨.sdf, 0x41300018, 4, 0x1000, 1, 0x0, 4, fun i _ => [SDF_DST_EN i, SDF_DST_PAIR i, SDF_DST_ENG i, SDF_DST_ADDR i]⟩]
def regTableRegConv : List RegDef :=
  regTableRegConv0 ++ regTableRegConv1 ++ regTableRegConv2

end Sys2Proof.Machine
end

