-- ==== Sys2Proof/Machine/RegCore.lean ====
section
/-! DEFINITION. The fields of the custom CSR, PAIR and RGN registers, one definition per field: its address, place, width,
reset value, access code and reset kind, from the layout and address tables of spec/ (R402, R435, R468). -/

namespace Sys2Proof.Machine

/-- PAIR_CTL: address (R435). -/
def a_PAIR_CTL (n : Nat) : Nat := 0x40040000 + n * 0x1000
/-- R436 PAIR_CTL[15:8] RW. -/
def PAIR_CTL_LAGTO (n : Nat) : Fld := ⟨(a_PAIR_CTL n), 8, 8, 0xA, .rw, .W⟩
/-- R436 PAIR_CTL[0] WO. -/
def PAIR_CTL_CKNOW (n : Nat) : Fld := ⟨(a_PAIR_CTL n), 0, 1, 0, .wo, .W⟩
/-- PAIR_CFG: address (R435). -/
def a_PAIR_CFG (n : Nat) : Nat := 0x40040004 + n * 0x1000
/-- R436 PAIR_CFG[31] RO. -/
def PAIR_CFG_SPLIT (n : Nat) : Fld := ⟨(a_PAIR_CFG n), 31, 1, 0, .ro, .cfg⟩
/-- PAIR_CKINT: address (R435). -/
def a_PAIR_CKINT (n : Nat) : Nat := 0x40040008 + n * 0x1000
/-- R436 PAIR_CKINT[9:0] RW. -/
def PAIR_CKINT_INT (n : Nat) : Fld := ⟨(a_PAIR_CKINT n), 0, 10, 0x14, .rw, .W⟩
/-- PAIR_STAT: address (R435). -/
def a_PAIR_STAT (n : Nat) : Nat := 0x4004000C + n * 0x1000
/-- R436 PAIR_STAT[31:29] RO. -/
def PAIR_STAT_STATE (n : Nat) : Fld := ⟨(a_PAIR_STAT n), 29, 3, 1, .ro, .cfg⟩
/-- R436 PAIR_STAT[28] W1C. -/
def PAIR_STAT_ESCD (n : Nat) : Fld := ⟨(a_PAIR_STAT n), 28, 1, 0, .w1c, .B⟩
/-- R436 PAIR_STAT[27:25] RO. -/
def PAIR_STAT_LAST (n : Nat) : Fld := ⟨(a_PAIR_STAT n), 25, 3, 0, .ro, .B⟩
/-- R436 PAIR_STAT[24:23] RO. -/
def PAIR_STAT_WIN (n : Nat) : Fld := ⟨(a_PAIR_STAT n), 23, 2, 0, .ro, .B⟩
/-- R436 PAIR_STAT[15:0] RO. -/
def PAIR_STAT_JOCC (n : Nat) : Fld := ⟨(a_PAIR_STAT n), 0, 16, 0, .ro, .B⟩
/-- PAIR_CNT: address (R435). -/
def a_PAIR_CNT (n : Nat) : Nat := 0x40040010 + n * 0x1000
/-- R436 PAIR_CNT[31:16] RC. -/
def PAIR_CNT_MISM (n : Nat) : Fld := ⟨(a_PAIR_CNT n), 16, 16, 0, .rc, .B⟩
/-- R436 PAIR_CNT[8:0] RO. -/
def PAIR_CNT_DBGJ (n : Nat) : Fld := ⟨(a_PAIR_CNT n), 0, 9, 0, .ro, .B⟩
/-- PAIR_CKSTAT: address (R435). -/
def a_PAIR_CKSTAT (n : Nat) : Nat := 0x40040014 + n * 0x1000
/-- R436 PAIR_CKSTAT[31:16] RC. -/
def PAIR_CKSTAT_FORCED (n : Nat) : Fld := ⟨(a_PAIR_CKSTAT n), 16, 16, 0, .rc, .B⟩
/-- R436 PAIR_CKSTAT[15:0] HU. -/
def PAIR_CKSTAT_JMAX (n : Nat) : Fld := ⟨(a_PAIR_CKSTAT n), 0, 16, 0, .hu, .B⟩
/-- PAIR_REC: address (R435). -/
def a_PAIR_REC (n : Nat) : Nat := 0x40040018 + n * 0x1000
/-- R436 PAIR_REC[31:16] RO. -/
def PAIR_REC_LAST (n : Nat) : Fld := ⟨(a_PAIR_REC n), 16, 16, 0, .ro, .B⟩
/-- R436 PAIR_REC[15:0] HU. -/
def PAIR_REC_MAX (n : Nat) : Fld := ⟨(a_PAIR_REC n), 0, 16, 0, .hu, .B⟩
/-- PAIR_MPOS: address (R435). -/
def a_PAIR_MPOS (n : Nat) : Nat := 0x40040020 + n * 0x1000
/-- R436 PAIR_MPOS[63:0] RO. -/
def PAIR_MPOS_CNT (n : Nat) : Fld := ⟨(a_PAIR_MPOS n), 0, 64, 0, .ro, .B⟩
/-- PAIR_CKCNT: address (R435). -/
def a_PAIR_CKCNT (n : Nat) : Nat := 0x40040028 + n * 0x1000
/-- R436 PAIR_CKCNT[31:0] RO. -/
def PAIR_CKCNT_CNT (n : Nat) : Fld := ⟨(a_PAIR_CKCNT n), 0, 32, 0, .ro, .B⟩
/-- RGN_CTL: address (R468). -/
def a_RGN_CTL : Nat := 0x40080000
/-- R469 RGN_CTL[31] W1S. -/
def RGN_CTL_FENCE : Fld := ⟨a_RGN_CTL, 31, 1, 0, .w1s, .C⟩
/-- RGN_VINFO: address (R468). -/
def a_RGN_VINFO : Nat := 0x40080004
/-- R469 RGN_VINFO[31] W1C. -/
def RGN_VINFO_VALID : Fld := ⟨a_RGN_VINFO, 31, 1, 0, .w1c, .C⟩
/-- R469 RGN_VINFO[30:23] RC. -/
def RGN_VINFO_MORE : Fld := ⟨a_RGN_VINFO, 23, 8, 0, .rc, .C⟩
/-- R469 RGN_VINFO[22:17] RO. -/
def RGN_VINFO_INIT : Fld := ⟨a_RGN_VINFO, 17, 6, 0, .ro, .C⟩
/-- R469 RGN_VINFO[16] RO. -/
def RGN_VINFO_WORLD : Fld := ⟨a_RGN_VINFO, 16, 1, 0, .ro, .C⟩
/-- R469 RGN_VINFO[15:14] RO. -/
def RGN_VINFO_ACC : Fld := ⟨a_RGN_VINFO, 14, 2, 0, .ro, .C⟩
/-- R469 RGN_VINFO[13:9] RO. -/
def RGN_VINFO_CHK : Fld := ⟨a_RGN_VINFO, 9, 5, 0, .ro, .C⟩
/-- R469 RGN_VINFO[7:0] RO. -/
def RGN_VINFO_GEN : Fld := ⟨a_RGN_VINFO, 0, 8, 0, .ro, .C⟩
/-- RGN_VADDR: address (R468). -/
def a_RGN_VADDR : Nat := 0x40080008
/-- R469 RGN_VADDR[39:0] RO. -/
def RGN_VADDR_ADDR : Fld := ⟨a_RGN_VADDR, 0, 40, 0, .ro, .C⟩
/-- RGN_VCNT: address (R468). -/
def a_RGN_VCNT : Nat := 0x40080010
/-- R469 RGN_VCNT[31:0] RC. -/
def RGN_VCNT_CNT : Fld := ⟨a_RGN_VCNT, 0, 32, 0, .rc, .C⟩
/-- RGN_ECCSTAT: address (R468). -/
def a_RGN_ECCSTAT : Nat := 0x40080014
/-- R469 RGN_ECCSTAT[31:24] RC. -/
def RGN_ECCSTAT_UE : Fld := ⟨a_RGN_ECCSTAT, 24, 8, 0, .rc, .C⟩
/-- R469 RGN_ECCSTAT[23:16] RC. -/
def RGN_ECCSTAT_CENVM : Fld := ⟨a_RGN_ECCSTAT, 16, 8, 0, .rc, .C⟩
/-- R469 RGN_ECCSTAT[15:0] RC. -/
def RGN_ECCSTAT_CESRAM : Fld := ⟨a_RGN_ECCSTAT, 0, 16, 0, .rc, .C⟩
/-- RGN_EADDR: address (R468). -/
def a_RGN_EADDR : Nat := 0x40080018
/-- R469 RGN_EADDR[39:0] RO. -/
def RGN_EADDR_ADDR : Fld := ⟨a_RGN_EADDR, 0, 40, 0, .ro, .C⟩
/-- RGN_EINFO: address (R468). -/
def a_RGN_EINFO : Nat := 0x40080020
/-- R469 RGN_EINFO[31] W1C. -/
def RGN_EINFO_VALID : Fld := ⟨a_RGN_EINFO, 31, 1, 0, .w1c, .C⟩
/-- R469 RGN_EINFO[30] RO. -/
def RGN_EINFO_ADDRERR : Fld := ⟨a_RGN_EINFO, 30, 1, 0, .ro, .C⟩
/-- R469 RGN_EINFO[29:25] RO. -/
def RGN_EINFO_CHK : Fld := ⟨a_RGN_EINFO, 25, 5, 0, .ro, .C⟩
/-- R469 RGN_EINFO[24] RO. -/
def RGN_EINFO_SCRUB : Fld := ⟨a_RGN_EINFO, 24, 1, 0, .ro, .C⟩
/-- R469 RGN_EINFO[23:18] RO. -/
def RGN_EINFO_INIT : Fld := ⟨a_RGN_EINFO, 18, 6, 0, .ro, .C⟩
/-- RGN_SCRUB: address (R468). -/
def a_RGN_SCRUB : Nat := 0x40080024
/-- R469 RGN_SCRUB[31] RW. -/
def RGN_SCRUB_EN : Fld := ⟨a_RGN_SCRUB, 31, 1, 1, .rw, .C⟩
/-- R469 RGN_SCRUB[7:0] RW. -/
def RGN_SCRUB_PERIOD : Fld := ⟨a_RGN_SCRUB, 0, 8, 0x14, .rw, .C⟩
/-- RGN_IGRP: address (R468). -/
def a_RGN_IGRP (k : Nat) : Nat := 0x40080040 + k * 4
/-- R469 RGN_IGRP[3] RW. -/
def RGN_IGRP_WORLD0 (k : Nat) : Fld := ⟨(a_RGN_IGRP k), 3, 1, 0, .rw, .cfg⟩
/-- R469 RGN_IGRP[2:0] RW. -/
def RGN_IGRP_GROUP0 (k : Nat) : Fld := ⟨(a_RGN_IGRP k), 0, 3, 0, .rw, .cfg⟩
/-- R469 RGN_IGRP[7] RW. -/
def RGN_IGRP_WORLD1 (k : Nat) : Fld := ⟨(a_RGN_IGRP k), 7, 1, 0, .rw, .cfg⟩
/-- R469 RGN_IGRP[6:4] RW. -/
def RGN_IGRP_GROUP1 (k : Nat) : Fld := ⟨(a_RGN_IGRP k), 4, 3, 0, .rw, .cfg⟩
/-- R469 RGN_IGRP[11] RW. -/
def RGN_IGRP_WORLD2 (k : Nat) : Fld := ⟨(a_RGN_IGRP k), 11, 1, 0, .rw, .cfg⟩
/-- R469 RGN_IGRP[10:8] RW. -/
def RGN_IGRP_GROUP2 (k : Nat) : Fld := ⟨(a_RGN_IGRP k), 8, 3, 0, .rw, .cfg⟩
/-- R469 RGN_IGRP[15] RW. -/
def RGN_IGRP_WORLD3 (k : Nat) : Fld := ⟨(a_RGN_IGRP k), 15, 1, 0, .rw, .cfg⟩
/-- R469 RGN_IGRP[14:12] RW. -/
def RGN_IGRP_GROUP3 (k : Nat) : Fld := ⟨(a_RGN_IGRP k), 12, 3, 0, .rw, .cfg⟩
/-- R469 RGN_IGRP[19] RW. -/
def RGN_IGRP_WORLD4 (k : Nat) : Fld := ⟨(a_RGN_IGRP k), 19, 1, 0, .rw, .cfg⟩
/-- R469 RGN_IGRP[18:16] RW. -/
def RGN_IGRP_GROUP4 (k : Nat) : Fld := ⟨(a_RGN_IGRP k), 16, 3, 0, .rw, .cfg⟩
/-- R469 RGN_IGRP[23] RW. -/
def RGN_IGRP_WORLD5 (k : Nat) : Fld := ⟨(a_RGN_IGRP k), 23, 1, 0, .rw, .cfg⟩
/-- R469 RGN_IGRP[22:20] RW. -/
def RGN_IGRP_GROUP5 (k : Nat) : Fld := ⟨(a_RGN_IGRP k), 20, 3, 0, .rw, .cfg⟩
/-- R469 RGN_IGRP[27] RW. -/
def RGN_IGRP_WORLD6 (k : Nat) : Fld := ⟨(a_RGN_IGRP k), 27, 1, 0, .rw, .cfg⟩
/-- R469 RGN_IGRP[26:24] RW. -/
def RGN_IGRP_GROUP6 (k : Nat) : Fld := ⟨(a_RGN_IGRP k), 24, 3, 0, .rw, .cfg⟩
/-- R469 RGN_IGRP[31] RW. -/
def RGN_IGRP_WORLD7 (k : Nat) : Fld := ⟨(a_RGN_IGRP k), 31, 1, 0, .rw, .cfg⟩
/-- R469 RGN_IGRP[30:28] RW. -/
def RGN_IGRP_GROUP7 (k : Nat) : Fld := ⟨(a_RGN_IGRP k), 28, 3, 0, .rw, .cfg⟩
/-- RGN_WWDT: address (R468). -/
def a_RGN_WWDT (h : Nat) : Nat := 0x40080080 + h * 0x10
/-- R469 RGN_WWDT[31] WO. -/
def RGN_WWDT_KICK (h : Nat) : Fld := ⟨(a_RGN_WWDT h), 31, 1, 0, .wo, .W⟩
/-- R469 RGN_WWDT[15:0] RW. -/
def RGN_WWDT_TIMEOUT (h : Nat) : Fld := ⟨(a_RGN_WWDT h), 0, 16, 0, .rw, .cfg⟩
/-- RGN_WSTAT: address (R468). -/
def a_RGN_WSTAT (h : Nat) : Nat := 0x40080084 + h * 0x10
/-- R469 RGN_WSTAT[31:29] RO. -/
def RGN_WSTAT_STATE (h : Nat) : Fld := ⟨(a_RGN_WSTAT h), 29, 3, 0, .ro, .W⟩
/-- R469 RGN_WSTAT[23:20] RO. -/
def RGN_WSTAT_REASON (h : Nat) : Fld := ⟨(a_RGN_WSTAT h), 20, 4, 0, .ro, .W⟩
/-- R469 RGN_WSTAT[17:16] RO. -/
def RGN_WSTAT_RECENT (h : Nat) : Fld := ⟨(a_RGN_WSTAT h), 16, 2, 0, .ro, .W⟩
/-- R469 RGN_WSTAT[15:0] RC. -/
def RGN_WSTAT_RESTARTS (h : Nat) : Fld := ⟨(a_RGN_WSTAT h), 0, 16, 0, .rc, .C⟩
/-- RGN_TSTAT: address (R468). -/
def a_RGN_TSTAT (t : Nat) : Nat := 0x40081000 + t * 0x1000
/-- R470 RGN_TSTAT[31:16] RC. -/
def RGN_TSTAT_DENIED (t : Nat) : Fld := ⟨(a_RGN_TSTAT t), 16, 16, 0, .rc, .C⟩
/-- RGN_RCTL: address (R468). -/
def a_RGN_RCTL (t r : Nat) : Nat := 0x40081100 + t * 0x1000 + r * 0x20
/-- R470 RGN_RCTL[31] RW. -/
def RGN_RCTL_EN (t r : Nat) : Fld := ⟨(a_RGN_RCTL t r), 31, 1, 0, .rw, .C⟩
/-- R470 RGN_RCTL[30] RW. -/
def RGN_RCTL_LOCK (t r : Nat) : Fld := ⟨(a_RGN_RCTL t r), 30, 1, 0, .rw, .C⟩
/-- RGN_RBASE: address (R468). -/
def a_RGN_RBASE (t r : Nat) : Nat := 0x40081104 + t * 0x1000 + r * 0x20
/-- R470 RGN_RBASE[27:0] RW. -/
def RGN_RBASE_BASE (t r : Nat) : Fld := ⟨(a_RGN_RBASE t r), 0, 28, 0, .rw, .C⟩
/-- RGN_RLIM: address (R468). -/
def a_RGN_RLIM (t r : Nat) : Nat := 0x40081108 + t * 0x1000 + r * 0x20
/-- R470 RGN_RLIM[27:0] RW. -/
def RGN_RLIM_LIMIT (t r : Nat) : Fld := ⟨(a_RGN_RLIM t r), 0, 28, 0, .rw, .C⟩
/-- RGN_RPI: address (R468). -/
def a_RGN_RPI (t r : Nat) : Nat := 0x4008110C + t * 0x1000 + r * 0x20
/-- R470 RGN_RPI[23:0] RW. -/
def RGN_RPI_PERM (t r : Nat) : Fld := ⟨(a_RGN_RPI t r), 0, 24, 0, .rw, .C⟩
/-- RGN_RPO: address (R468). -/
def a_RGN_RPO (t r : Nat) : Nat := 0x40081110 + t * 0x1000 + r * 0x20
/-- R470 RGN_RPO[23:0] RW. -/
def RGN_RPO_PERM (t r : Nat) : Fld := ⟨(a_RGN_RPO t r), 0, 24, 0, .rw, .C⟩
/-- mhjvworld: address (R402). -/
def a_mhjvworld (c : Nat) : Nat := 0x10000003E00 + c * 0x10000
/-- R403 mhjvworld[63] RO. -/
def mhjvworld_SHADOW (c : Nat) : Fld := ⟨(a_mhjvworld c), 63, 1, 0, .ro, .W⟩
/-- R403 mhjvworld[2] RO. -/
def mhjvworld_OPEND (c : Nat) : Fld := ⟨(a_mhjvworld c), 2, 1, 0, .ro, .W⟩
/-- R403 mhjvworld[1] RO. -/
def mhjvworld_PW (c : Nat) : Fld := ⟨(a_mhjvworld c), 1, 1, 1, .ro, .W⟩
/-- R403 mhjvworld[0] RW. -/
def mhjvworld_CUR (c : Nat) : Fld := ⟨(a_mhjvworld c), 0, 1, 1, .rw, .W⟩
/-- mhjvclaim: address (R402). -/
def a_mhjvclaim (c : Nat) : Nat := 0x10000003E08 + c * 0x10000
/-- R403 mhjvclaim[63] RC. -/
def mhjvclaim_VALID (c : Nat) : Fld := ⟨(a_mhjvclaim c), 63, 1, 0, .rc, .W⟩
/-- R403 mhjvclaim[8:0] RC. -/
def mhjvclaim_SRC (c : Nat) : Fld := ⟨(a_mhjvclaim c), 0, 9, 0, .rc, .W⟩
/-- mhjvctl: address (R402). -/
def a_mhjvctl (c : Nat) : Nat := 0x10000003E10 + c * 0x10000
/-- R403 mhjvctl[1] RW. -/
def mhjvctl_NOSPEC (c : Nat) : Fld := ⟨(a_mhjvctl c), 1, 1, 0, .rw, .W⟩
/-- R403 mhjvctl[0] WO. -/
def mhjvctl_PFLUSH (c : Nat) : Fld := ⟨(a_mhjvctl c), 0, 1, 0, .wo, .W⟩
/-- mhjvtcmp: address (R402). -/
def a_mhjvtcmp (c : Nat) : Nat := 0x10000003E18 + c * 0x10000
/-- R403 mhjvtcmp[63:0] RW. -/
def mhjvtcmp_CMP (c : Nat) : Fld := ⟨(a_mhjvtcmp c), 0, 64, 0xFFFFFFFFFFFFFFFF, .rw, .W⟩
/-- mhjvberr: address (R402). -/
def a_mhjvberr (c : Nat) : Nat := 0x10000003E20 + c * 0x10000
/-- R403 mhjvberr[63] W1C. -/
def mhjvberr_VALID (c : Nat) : Fld := ⟨(a_mhjvberr c), 63, 1, 0, .w1c, .W⟩
/-- R403 mhjvberr[62] RO. -/
def mhjvberr_WORLD (c : Nat) : Fld := ⟨(a_mhjvberr c), 62, 1, 0, .ro, .W⟩
/-- R403 mhjvberr[55:48] RC. -/
def mhjvberr_MORE (c : Nat) : Fld := ⟨(a_mhjvberr c), 48, 8, 0, .rc, .W⟩
/-- R403 mhjvberr[39:0] RO. -/
def mhjvberr_ADDR (c : Nat) : Fld := ⟨(a_mhjvberr c), 0, 40, 0, .ro, .W⟩
/-- shjvclaim: address (R402). -/
def a_shjvclaim (c : Nat) : Nat := 0x10000002E00 + c * 0x10000
/-- R403 shjvclaim[63] RC. -/
def shjvclaim_VALID (c : Nat) : Fld := ⟨(a_shjvclaim c), 63, 1, 0, .rc, .W⟩
/-- R403 shjvclaim[8:0] RC. -/
def shjvclaim_SRC (c : Nat) : Fld := ⟨(a_shjvclaim c), 0, 9, 0, .rc, .W⟩
/-- shjvtcmp: address (R402). -/
def a_shjvtcmp (c : Nat) : Nat := 0x10000002E08 + c * 0x10000
/-- R403 shjvtcmp[63:0] RW. -/
def shjvtcmp_CMP (c : Nat) : Fld := ⟨(a_shjvtcmp c), 0, 64, 0xFFFFFFFFFFFFFFFF, .rw, .W⟩
/-- shjvstat: address (R402). -/
def a_shjvstat (c : Nat) : Nat := 0x10000006E00 + c * 0x10000
/-- R403 shjvstat[63] RO. -/
def shjvstat_SHADOW (c : Nat) : Fld := ⟨(a_shjvstat c), 63, 1, 0, .ro, .W⟩
/-- mhjvid: address (R402). -/
def a_mhjvid (c : Nat) : Nat := 0x10000007E00 + c * 0x10000
/-- R403 mhjvid[3] RO. -/
def mhjvid_PAIRED (c : Nat) : Fld := ⟨(a_mhjvid c), 3, 1, (if c < 8 then 1 else 0), .ro, .cfg⟩
/-- R403 mhjvid[2:0] RO. -/
def mhjvid_CORE (c : Nat) : Fld := ⟨(a_mhjvid c), 0, 3, (c % 8), .ro, .cfg⟩

/-- The registers of this file with their extents, for the decode of an address (R585, R586, R601). -/
def regTableRegCore0 : List RegDef :=
  [⟨.pair, 0x40040000, 4, 0x1000, 1, 0x0, 4, fun i _ => [PAIR_CTL_LAGTO i, PAIR_CTL_CKNOW i]⟩,
   ⟨.pair, 0x40040004, 4, 0x1000, 1, 0x0, 4, fun i _ => [PAIR_CFG_SPLIT i]⟩,
   ⟨.pair, 0x40040008, 4, 0x1000, 1, 0x0, 4, fun i _ => [PAIR_CKINT_INT i]⟩,
   ⟨.pair, 0x4004000C, 4, 0x1000, 1, 0x0, 4, fun i _ => [PAIR_STAT_STATE i, PAIR_STAT_ESCD i, PAIR_STAT_LAST i, PAIR_STAT_WIN i, PAIR_STAT_JOCC i]⟩,
   ⟨.pair, 0x40040010, 4, 0x1000, 1, 0x0, 4, fun i _ => [PAIR_CNT_MISM i, PAIR_CNT_DBGJ i]⟩,
   ⟨.pair, 0x40040014, 4, 0x1000, 1, 0x0, 4, fun i _ => [PAIR_CKSTAT_FORCED i, PAIR_CKSTAT_JMAX i]⟩,
   ⟨.pair, 0x40040018, 4, 0x1000, 1, 0x0, 4, fun i _ => [PAIR_REC_LAST i, PAIR_REC_MAX i]⟩,
   ⟨.pair, 0x40040020, 4, 0x1000, 1, 0x0, 8, fun i _ => [PAIR_MPOS_CNT i]⟩,
   ⟨.pair, 0x40040028, 4, 0x1000, 1, 0x0, 4, fun i _ => [PAIR_CKCNT_CNT i]⟩,
   ⟨.rgn, 0x40080000, 1, 0x0, 1, 0x0, 4, fun _ _ => [RGN_CTL_FENCE]⟩,
   ⟨.rgn, 0x40080004, 1, 0x0, 1, 0x0, 4, fun _ _ => [RGN_VINFO_VALID, RGN_VINFO_MORE, RGN_VINFO_INIT, RGN_VINFO_WORLD, RGN_VINFO_ACC, RGN_VINFO_CHK, RGN_VINFO_GEN]⟩,
   ⟨.rgn, 0x40080008, 1, 0x0, 1, 0x0, 8, fun _ _ => [RGN_VADDR_ADDR]⟩,
   ⟨.rgn, 0x40080010, 1, 0x0, 1, 0x0, 4, fun _ _ => [RGN_VCNT_CNT]⟩,
   ⟨.rgn, 0x40080014, 1, 0x0, 1, 0x0, 4, fun _ _ => [RGN_ECCSTAT_UE, RGN_ECCSTAT_CENVM, RGN_ECCSTAT_CESRAM]⟩,
   ⟨.rgn, 0x40080018, 1, 0x0, 1, 0x0, 8, fun _ _ => [RGN_EADDR_ADDR]⟩,
   ⟨.rgn, 0x40080020, 1, 0x0, 1, 0x0, 4, fun _ _ => [RGN_EINFO_VALID, RGN_EINFO_ADDRERR, RGN_EINFO_CHK, RGN_EINFO_SCRUB, RGN_EINFO_INIT]⟩]
def regTableRegCore1 : List RegDef :=
  [⟨.rgn, 0x40080024, 1, 0x0, 1, 0x0, 4, fun _ _ => [RGN_SCRUB_EN, RGN_SCRUB_PERIOD]⟩,
   ⟨.rgn, 0x40080040, 8, 0x4, 1, 0x0, 4, fun i _ => [RGN_IGRP_WORLD0 i, RGN_IGRP_GROUP0 i, RGN_IGRP_WORLD1 i, RGN_IGRP_GROUP1 i, RGN_IGRP_WORLD2 i, RGN_IGRP_GROUP2 i, RGN_IGRP_WORLD3 i, RGN_IGRP_GROUP3 i, RGN_IGRP_WORLD4 i, RGN_IGRP_GROUP4 i, RGN_IGRP_WORLD5 i, RGN_IGRP_GROUP5 i, RGN_IGRP_WORLD6 i, RGN_IGRP_GROUP6 i, RGN_IGRP_WORLD7 i, RGN_IGRP_GROUP7 i]⟩,
   ⟨.rgn, 0x40080080, 8, 0x10, 1, 0x0, 4, fun i _ => [RGN_WWDT_KICK i, RGN_WWDT_TIMEOUT i]⟩,
   ⟨.rgn, 0x40080084, 8, 0x10, 1, 0x0, 4, fun i _ => [RGN_WSTAT_STATE i, RGN_WSTAT_REASON i, RGN_WSTAT_RECENT i, RGN_WSTAT_RESTARTS i]⟩,
   ⟨.rgn, 0x40081000, 17, 0x1000, 1, 0x0, 4, fun i _ => [RGN_TSTAT_DENIED i]⟩,
   ⟨.rgn, 0x40081100, 17, 0x1000, 32, 0x20, 4, fun i j => [RGN_RCTL_EN i j, RGN_RCTL_LOCK i j]⟩,
   ⟨.rgn, 0x40081104, 17, 0x1000, 32, 0x20, 4, fun i j => [RGN_RBASE_BASE i j]⟩,
   ⟨.rgn, 0x40081108, 17, 0x1000, 32, 0x20, 4, fun i j => [RGN_RLIM_LIMIT i j]⟩,
   ⟨.rgn, 0x4008110C, 17, 0x1000, 32, 0x20, 4, fun i j => [RGN_RPI_PERM i j]⟩,
   ⟨.rgn, 0x40081110, 17, 0x1000, 32, 0x20, 4, fun i j => [RGN_RPO_PERM i j]⟩,
   ⟨.csr, 0x10000003E00, 9, 0x10000, 1, 0x0, 8, fun i _ => [mhjvworld_SHADOW i, mhjvworld_OPEND i, mhjvworld_PW i, mhjvworld_CUR i]⟩,
   ⟨.csr, 0x10000003E08, 9, 0x10000, 1, 0x0, 8, fun i _ => [mhjvclaim_VALID i, mhjvclaim_SRC i]⟩,
   ⟨.csr, 0x10000003E10, 9, 0x10000, 1, 0x0, 8, fun i _ => [mhjvctl_NOSPEC i, mhjvctl_PFLUSH i]⟩,
   ⟨.csr, 0x10000003E18, 9, 0x10000, 1, 0x0, 8, fun i _ => [mhjvtcmp_CMP i]⟩,
   ⟨.csr, 0x10000003E20, 9, 0x10000, 1, 0x0, 8, fun i _ => [mhjvberr_VALID i, mhjvberr_WORLD i, mhjvberr_MORE i, mhjvberr_ADDR i]⟩,
   ⟨.csr, 0x10000002E00, 9, 0x10000, 1, 0x0, 8, fun i _ => [shjvclaim_VALID i, shjvclaim_SRC i]⟩]
def regTableRegCore2 : List RegDef :=
  [⟨.csr, 0x10000002E08, 9, 0x10000, 1, 0x0, 8, fun i _ => [shjvtcmp_CMP i]⟩,
   ⟨.csr, 0x10000006E00, 9, 0x10000, 1, 0x0, 8, fun i _ => [shjvstat_SHADOW i]⟩,
   ⟨.csr, 0x10000007E00, 9, 0x10000, 1, 0x0, 8, fun i _ => [mhjvid_PAIRED i, mhjvid_CORE i]⟩]
def regTableRegCore : List RegDef :=
  regTableRegCore0 ++ regTableRegCore1 ++ regTableRegCore2

end Sys2Proof.Machine
end

