-- ==== Sys2Proof/Machine/RegEngine.lean ====
section
/-! DEFINITION. The fields of the TG and PSC registers, one definition per field: its address, place, width,
reset value, access code and reset kind, from the layout and address tables of spec/ (R183, R224). -/

namespace Sys2Proof.Machine

/-- TG_CTL: address (R183). -/
def a_TG_CTL (e : Nat) : Nat := 0x40050000 + e * 0x1000
/-- R184 TG_CTL[31] RW. -/
def TG_CTL_RUN (e : Nat) : Fld := ⟨(a_TG_CTL e), 31, 1, 0, .rw, .B⟩
/-- R184 TG_CTL[7:0] WO. -/
def TG_CTL_SWDISP (e : Nat) : Fld := ⟨(a_TG_CTL e), 0, 8, 0, .wo, .B⟩
/-- TG_STAT: address (R183). -/
def a_TG_STAT (e : Nat) : Nat := 0x40050004 + e * 0x1000
/-- R184 TG_STAT[31:24] RC. -/
def TG_STAT_OVR (e : Nat) : Fld := ⟨(a_TG_STAT e), 24, 8, 0, .rc, .B⟩
/-- R184 TG_STAT[23:16] RC. -/
def TG_STAT_INDROP (e : Nat) : Fld := ⟨(a_TG_STAT e), 16, 8, 0, .rc, .B⟩
/-- R184 TG_STAT[15:12] RC. -/
def TG_STAT_CECC (e : Nat) : Fld := ⟨(a_TG_STAT e), 12, 4, 0, .rc, .B⟩
/-- R184 TG_STAT[11:8] RO. -/
def TG_STAT_SLOT (e : Nat) : Fld := ⟨(a_TG_STAT e), 8, 4, 0, .ro, .B⟩
/-- R184 TG_STAT[5] W1C. -/
def TG_STAT_LATEDROP (e : Nat) : Fld := ⟨(a_TG_STAT e), 5, 1, 0, .w1c, .B⟩
/-- R184 TG_STAT[4] W1C. -/
def TG_STAT_DFAULT (e : Nat) : Fld := ⟨(a_TG_STAT e), 4, 1, 0, .w1c, .B⟩
/-- R184 TG_STAT[3] W1C. -/
def TG_STAT_EXC (e : Nat) : Fld := ⟨(a_TG_STAT e), 3, 1, 0, .w1c, .B⟩
/-- R184 TG_STAT[2] RO. -/
def TG_STAT_HOLD (e : Nat) : Fld := ⟨(a_TG_STAT e), 2, 1, 0, .ro, .B⟩
/-- R184 TG_STAT[1] RO. -/
def TG_STAT_PEND (e : Nat) : Fld := ⟨(a_TG_STAT e), 1, 1, 0, .ro, .B⟩
/-- R184 TG_STAT[0] RO. -/
def TG_STAT_BUSY (e : Nat) : Fld := ⟨(a_TG_STAT e), 0, 1, 0, .ro, .B⟩
/-- TG_PCTL: address (R183). -/
def a_TG_PCTL (e : Nat) : Nat := 0x40050008 + e * 0x1000
/-- R184 TG_PCTL[31] RW. -/
def TG_PCTL_PAIR (e : Nat) : Fld := ⟨(a_TG_PCTL e), 31, 1, 0, .rw, .B⟩
/-- R184 TG_PCTL[30] RW. -/
def TG_PCTL_PROT (e : Nat) : Fld := ⟨(a_TG_PCTL e), 30, 1, 0, .rw, .B⟩
/-- R184 TG_PCTL[23:16] RW. -/
def TG_PCTL_SKEW (e : Nat) : Fld := ⟨(a_TG_PCTL e), 16, 8, 0x14, .rw, .B⟩
/-- TG_PSTAT: address (R183). -/
def a_TG_PSTAT (e : Nat) : Nat := 0x4005000C + e * 0x1000
/-- R184 TG_PSTAT[31:24] RC. -/
def TG_PSTAT_MISM (e : Nat) : Fld := ⟨(a_TG_PSTAT e), 24, 8, 0, .rc, .B⟩
/-- R184 TG_PSTAT[4] RO. -/
def TG_PSTAT_SYNCING (e : Nat) : Fld := ⟨(a_TG_PSTAT e), 4, 1, 0, .ro, .B⟩
/-- R184 TG_PSTAT[3] RO. -/
def TG_PSTAT_ESC (e : Nat) : Fld := ⟨(a_TG_PSTAT e), 3, 1, 0, .ro, .B⟩
/-- R184 TG_PSTAT[2] RO. -/
def TG_PSTAT_REPLAY (e : Nat) : Fld := ⟨(a_TG_PSTAT e), 2, 1, 0, .ro, .B⟩
/-- R184 TG_PSTAT[1:0] RO. -/
def TG_PSTAT_LAST (e : Nat) : Fld := ⟨(a_TG_PSTAT e), 0, 2, 0, .ro, .B⟩
/-- TG_EVEC: address (R183). -/
def a_TG_EVEC (e : Nat) : Nat := 0x40050010 + e * 0x1000
/-- R184 TG_EVEC[15:2] RW. -/
def TG_EVEC_VEC (e : Nat) : Fld := ⟨(a_TG_EVEC e), 2, 14, 0, .rw, .B⟩
/-- TG_ECAUSE: address (R183). -/
def a_TG_ECAUSE (e : Nat) : Nat := 0x40050014 + e * 0x1000
/-- R184 TG_ECAUSE[31] RO. -/
def TG_ECAUSE_DS (e : Nat) : Fld := ⟨(a_TG_ECAUSE e), 31, 1, 0, .ro, .B⟩
/-- R184 TG_ECAUSE[30] RO. -/
def TG_ECAUSE_SHADOW (e : Nat) : Fld := ⟨(a_TG_ECAUSE e), 30, 1, 0, .ro, .B⟩
/-- R184 TG_ECAUSE[29] RO. -/
def TG_ECAUSE_LOOPEND (e : Nat) : Fld := ⟨(a_TG_ECAUSE e), 29, 1, 0, .ro, .B⟩
/-- R184 TG_ECAUSE[28] RO. -/
def TG_ECAUSE_LVL (e : Nat) : Fld := ⟨(a_TG_ECAUSE e), 28, 1, 0, .ro, .B⟩
/-- R184 TG_ECAUSE[3:0] RO. -/
def TG_ECAUSE_CODE (e : Nat) : Fld := ⟨(a_TG_ECAUSE e), 0, 4, 0, .ro, .B⟩
/-- TG_EPC: address (R183). -/
def a_TG_EPC (e : Nat) : Nat := 0x40050018 + e * 0x1000
/-- R184 TG_EPC[15:2] RO. -/
def TG_EPC_PC (e : Nat) : Fld := ⟨(a_TG_EPC e), 2, 14, 0, .ro, .B⟩
/-- TG_ESCPWM: address (R183). -/
def a_TG_ESCPWM (e : Nat) : Nat := 0x4005001C + e * 0x1000
/-- R184 TG_ESCPWM[23:0] RW. -/
def TG_ESCPWM_PAIRS (e : Nat) : Fld := ⟨(a_TG_ESCPWM e), 0, 24, 0, .rw, .B⟩
/-- TG_MOVE: address (R183). -/
def a_TG_MOVE (e : Nat) : Nat := 0x40050020 + e * 0x1000
/-- R184 TG_MOVE[31] W1S. -/
def TG_MOVE_GO (e : Nat) : Fld := ⟨(a_TG_MOVE e), 31, 1, 0, .w1s, .B⟩
/-- R184 TG_MOVE[30] W1C. -/
def TG_MOVE_DONE (e : Nat) : Fld := ⟨(a_TG_MOVE e), 30, 1, 0, .w1c, .B⟩
/-- R184 TG_MOVE[29] W1C. -/
def TG_MOVE_ERR (e : Nat) : Fld := ⟨(a_TG_MOVE e), 29, 1, 0, .w1c, .B⟩
/-- R184 TG_MOVE[28] HU. -/
def TG_MOVE_FWD (e : Nat) : Fld := ⟨(a_TG_MOVE e), 28, 1, 0, .hu, .B⟩
/-- R184 TG_MOVE[27:24] RW. -/
def TG_MOVE_DEST (e : Nat) : Fld := ⟨(a_TG_MOVE e), 24, 4, 0, .rw, .B⟩
/-- R184 TG_MOVE[23:20] RO. -/
def TG_MOVE_ERRC (e : Nat) : Fld := ⟨(a_TG_MOVE e), 20, 4, 0, .ro, .B⟩
/-- TG_MOVEWIN: address (R183). -/
def a_TG_MOVEWIN (e : Nat) : Nat := 0x40050024 + e * 0x1000
/-- R184 TG_MOVEWIN[24:16] RW. -/
def TG_MOVEWIN_LEN (e : Nat) : Fld := ⟨(a_TG_MOVEWIN e), 16, 9, 0, .rw, .B⟩
/-- R184 TG_MOVEWIN[15:0] RW. -/
def TG_MOVEWIN_BASE (e : Nat) : Fld := ⟨(a_TG_MOVEWIN e), 0, 16, 0, .rw, .B⟩
/-- TG_ITER: address (R183). -/
def a_TG_ITER (e : Nat) : Nat := 0x40050028 + e * 0x1000
/-- R184 TG_ITER[31:0] RO. -/
def TG_ITER_CNT (e : Nat) : Fld := ⟨(a_TG_ITER e), 0, 32, 0, .ro, .B⟩
/-- TG_SLOT: address (R183). -/
def a_TG_SLOT (e s : Nat) : Nat := 0x40050040 + e * 0x1000 + s * 0x10
/-- R184 TG_SLOT[31] HU. -/
def TG_SLOT_EN (e s : Nat) : Fld := ⟨(a_TG_SLOT e s), 31, 1, 0, .hu, .B⟩
/-- R184 TG_SLOT[30:28] RW. -/
def TG_SLOT_TYPE (e s : Nat) : Fld := ⟨(a_TG_SLOT e s), 28, 3, 0, .rw, .B⟩
/-- R184 TG_SLOT[25:16] RW. -/
def TG_SLOT_SRC (e s : Nat) : Fld := ⟨(a_TG_SLOT e s), 16, 10, 0, .rw, .B⟩
/-- R184 TG_SLOT[15:8] RW. -/
def TG_SLOT_DIV (e s : Nat) : Fld := ⟨(a_TG_SLOT e s), 8, 8, 0, .rw, .B⟩
/-- R184 TG_SLOT[7:0] RW. -/
def TG_SLOT_MODE (e s : Nat) : Fld := ⟨(a_TG_SLOT e s), 0, 8, 1, .rw, .B⟩
/-- TG_SLOTENT: address (R183). -/
def a_TG_SLOTENT (e s : Nat) : Nat := 0x40050044 + e * 0x1000 + s * 0x10
/-- R184 TG_SLOTENT[15:2] RW. -/
def TG_SLOTENT_ENT (e s : Nat) : Fld := ⟨(a_TG_SLOTENT e s), 2, 14, 0, .rw, .B⟩
/-- TG_SLOTLIM: address (R183). -/
def a_TG_SLOTLIM (e s : Nat) : Nat := 0x40050048 + e * 0x1000 + s * 0x10
/-- R184 TG_SLOTLIM[31:16] RW. -/
def TG_SLOTLIM_DEADLINE (e s : Nat) : Fld := ⟨(a_TG_SLOTLIM e s), 16, 16, 0, .rw, .B⟩
/-- R184 TG_SLOTLIM[15:0] RW. -/
def TG_SLOTLIM_TLIM (e s : Nat) : Fld := ⟨(a_TG_SLOTLIM e s), 0, 16, 0, .rw, .B⟩
/-- TG_SLOTSTAT: address (R183). -/
def a_TG_SLOTSTAT (e s : Nat) : Nat := 0x4005004C + e * 0x1000 + s * 0x10
/-- R184 TG_SLOTSTAT[31:16] HU. -/
def TG_SLOTSTAT_MAXC (e s : Nat) : Fld := ⟨(a_TG_SLOTSTAT e s), 16, 16, 0, .hu, .B⟩
/-- R184 TG_SLOTSTAT[15:8] RC. -/
def TG_SLOTSTAT_OVR (e s : Nat) : Fld := ⟨(a_TG_SLOTSTAT e s), 8, 8, 0, .rc, .B⟩
/-- PSC_CMD: address (R224). -/
def a_PSC_CMD (n : Nat) : Nat := 0x42000000 + n * 0x100
/-- R225 PSC_CMD[3:0] WO. -/
def PSC_CMD_OP (n : Nat) : Fld := ⟨(a_PSC_CMD n), 0, 4, 0, .wo, .C⟩
/-- PSC_CFG: address (R224). -/
def a_PSC_CFG (n : Nat) : Nat := 0x42000004 + n * 0x100
/-- R225 PSC_CFG[31:28] HU. -/
def PSC_CFG_WCLS (n : Nat) : Fld := ⟨(a_PSC_CFG n), 28, 4, 0, .hu, .C⟩
/-- R225 PSC_CFG[26:24] HU. -/
def PSC_CFG_PRIO (n : Nat) : Fld := ⟨(a_PSC_CFG n), 24, 3, 4, .hu, .C⟩
/-- R225 PSC_CFG[23:21] HU. -/
def PSC_CFG_RETRY (n : Nat) : Fld := ⟨(a_PSC_CFG n), 21, 3, 0, .hu, .C⟩
/-- R225 PSC_CFG[20:16] HU. -/
def PSC_CFG_RETRYDLY (n : Nat) : Fld := ⟨(a_PSC_CFG n), 16, 5, 0, .hu, .C⟩
/-- R225 PSC_CFG[15:8] HU. -/
def PSC_CFG_INRUSH (n : Nat) : Fld := ⟨(a_PSC_CFG n), 8, 8, 0, .hu, .C⟩
/-- R225 PSC_CFG[5:4] HU. -/
def PSC_CFG_OLOFF (n : Nat) : Fld := ⟨(a_PSC_CFG n), 4, 2, 0, .hu, .C⟩
/-- R225 PSC_CFG[3] HU. -/
def PSC_CFG_ONOL (n : Nat) : Fld := ⟨(a_PSC_CFG n), 3, 1, 0, .hu, .C⟩
/-- R225 PSC_CFG[2] HU. -/
def PSC_CFG_LOWRANGE (n : Nat) : Fld := ⟨(a_PSC_CFG n), 2, 1, 0, .hu, .C⟩
/-- PSC_PROT: address (R224). -/
def a_PSC_PROT (n : Nat) : Nat := 0x42000008 + n * 0x100
/-- R225 PSC_PROT[31:24] HU. -/
def PSC_PROT_OCTHR (n : Nat) : Fld := ⟨(a_PSC_PROT n), 24, 8, 0x30, .hu, .C⟩
/-- R225 PSC_PROT[23:16] HU. -/
def PSC_PROT_INRTHR (n : Nat) : Fld := ⟨(a_PSC_PROT n), 16, 8, 0x80, .hu, .C⟩
/-- R225 PSC_PROT[15:8] HU. -/
def PSC_PROT_OCFILT (n : Nat) : Fld := ⟨(a_PSC_PROT n), 8, 8, 0, .hu, .C⟩
/-- R225 PSC_PROT[7:0] HU. -/
def PSC_PROT_I2TWARN (n : Nat) : Fld := ⟨(a_PSC_PROT n), 0, 8, 0x50, .hu, .C⟩
/-- PSC_OL: address (R224). -/
def a_PSC_OL (n : Nat) : Nat := 0x4200000C + n * 0x100
/-- R225 PSC_OL[31:27] HU. -/
def PSC_OL_OLPU (n : Nat) : Fld := ⟨(a_PSC_OL n), 27, 5, 0, .hu, .C⟩
/-- R225 PSC_OL[23:16] HU. -/
def PSC_OL_OLTHR (n : Nat) : Fld := ⟨(a_PSC_OL n), 16, 8, 0x28, .hu, .C⟩
/-- R225 PSC_OL[15:13] HU. -/
def PSC_OL_OLSET (n : Nat) : Fld := ⟨(a_PSC_OL n), 13, 3, 1, .hu, .C⟩
/-- R225 PSC_OL[12:0] HU. -/
def PSC_OL_ONOLTHR (n : Nat) : Fld := ⟨(a_PSC_OL n), 0, 13, 0, .hu, .C⟩
/-- PSC_PWMC: address (R224). -/
def a_PSC_PWMC (n : Nat) : Nat := 0x42000010 + n * 0x100
/-- R225 PSC_PWMC[31:20] HU. -/
def PSC_PWMC_PERIOD (n : Nat) : Fld := ⟨(a_PSC_PWMC n), 20, 12, 0x3E8, .hu, .C⟩
/-- R225 PSC_PWMC[9:0] HU. -/
def PSC_PWMC_DUTY (n : Nat) : Fld := ⟨(a_PSC_PWMC n), 0, 10, 0, .hu, .C⟩
/-- PSC_STAT: address (R224). -/
def a_PSC_STAT (n : Nat) : Nat := 0x42000014 + n * 0x100
/-- R225 PSC_STAT[31:29] RO. -/
def PSC_STAT_STATE (n : Nat) : Fld := ⟨(a_PSC_STAT n), 29, 3, 0, .ro, .C⟩
/-- R225 PSC_STAT[28:25] RO. -/
def PSC_STAT_CAUSE (n : Nat) : Fld := ⟨(a_PSC_STAT n), 25, 4, 0, .ro, .C⟩
/-- R225 PSC_STAT[24:22] RO. -/
def PSC_STAT_RLEFT (n : Nat) : Fld := ⟨(a_PSC_STAT n), 22, 3, 0, .ro, .C⟩
/-- R225 PSC_STAT[21] RO. -/
def PSC_STAT_CMDPEND (n : Nat) : Fld := ⟨(a_PSC_STAT n), 21, 1, 0, .ro, .C⟩
/-- R225 PSC_STAT[20] W1C. -/
def PSC_STAT_CMDFAIL (n : Nat) : Fld := ⟨(a_PSC_STAT n), 20, 1, 0, .w1c, .C⟩
/-- R225 PSC_STAT[19] W1C. -/
def PSC_STAT_REFUSED (n : Nat) : Fld := ⟨(a_PSC_STAT n), 19, 1, 0, .w1c, .C⟩
/-- R225 PSC_STAT[18] RO. -/
def PSC_STAT_HELD (n : Nat) : Fld := ⟨(a_PSC_STAT n), 18, 1, 0, .ro, .C⟩
/-- R225 PSC_STAT[17] RO. -/
def PSC_STAT_INRUSH (n : Nat) : Fld := ⟨(a_PSC_STAT n), 17, 1, 0, .ro, .C⟩
/-- R225 PSC_STAT[16] RO. -/
def PSC_STAT_LR (n : Nat) : Fld := ⟨(a_PSC_STAT n), 16, 1, 0, .ro, .C⟩
/-- R225 PSC_STAT[15] W1C. -/
def PSC_STAT_FAULT (n : Nat) : Fld := ⟨(a_PSC_STAT n), 15, 1, 0, .w1c, .C⟩
/-- R225 PSC_STAT[14] W1C. -/
def PSC_STAT_OPEN (n : Nat) : Fld := ⟨(a_PSC_STAT n), 14, 1, 0, .w1c, .C⟩
/-- R225 PSC_STAT[13] W1C. -/
def PSC_STAT_STB (n : Nat) : Fld := ⟨(a_PSC_STAT n), 13, 1, 0, .w1c, .C⟩
/-- R225 PSC_STAT[12] W1C. -/
def PSC_STAT_ONOPEN (n : Nat) : Fld := ⟨(a_PSC_STAT n), 12, 1, 0, .w1c, .C⟩
/-- R225 PSC_STAT[11] W1C. -/
def PSC_STAT_CLAMP (n : Nat) : Fld := ⟨(a_PSC_STAT n), 11, 1, 0, .w1c, .C⟩
/-- R225 PSC_STAT[10] W1C. -/
def PSC_STAT_I2TW (n : Nat) : Fld := ⟨(a_PSC_STAT n), 10, 1, 0, .w1c, .C⟩
/-- R225 PSC_STAT[9] RO. -/
def PSC_STAT_UV (n : Nat) : Fld := ⟨(a_PSC_STAT n), 9, 1, 0, .ro, .C⟩
/-- PSC_CUR: address (R224). -/
def a_PSC_CUR (n : Nat) : Nat := 0x42000018 + n * 0x100
/-- R225 PSC_CUR[31] RO. -/
def PSC_CUR_RANGE (n : Nat) : Fld := ⟨(a_PSC_CUR n), 31, 1, 0, .ro, .C⟩
/-- R225 PSC_CUR[23:16] RO. -/
def PSC_CUR_SEQ (n : Nat) : Fld := ⟨(a_PSC_CUR n), 16, 8, 0, .ro, .C⟩
/-- R225 PSC_CUR[15:0] RO. -/
def PSC_CUR_I (n : Nat) : Fld := ⟨(a_PSC_CUR n), 0, 16, 0, .ro, .C⟩
/-- PSC_VOUT: address (R224). -/
def a_PSC_VOUT (n : Nat) : Nat := 0x4200001C + n * 0x100
/-- R225 PSC_VOUT[15:0] RO. -/
def PSC_VOUT_V (n : Nat) : Fld := ⟨(a_PSC_VOUT n), 0, 16, 0, .ro, .C⟩
/-- PSC_CURAVG: address (R224). -/
def a_PSC_CURAVG (n : Nat) : Nat := 0x42000020 + n * 0x100
/-- R225 PSC_CURAVG[15:0] RO. -/
def PSC_CURAVG_I (n : Nat) : Fld := ⟨(a_PSC_CURAVG n), 0, 16, 0, .ro, .C⟩
/-- PSC_I2T: address (R224). -/
def a_PSC_I2T (n : Nat) : Nat := 0x42000024 + n * 0x100
/-- R225 PSC_I2T[15:0] RO. -/
def PSC_I2T_X (n : Nat) : Fld := ⟨(a_PSC_I2T n), 0, 16, 0, .ro, .C⟩
/-- PSC_CNT: address (R224). -/
def a_PSC_CNT (n : Nat) : Nat := 0x42000028 + n * 0x100
/-- R225 PSC_CNT[31:24] RC. -/
def PSC_CNT_OCTRIPS (n : Nat) : Fld := ⟨(a_PSC_CNT n), 24, 8, 0, .rc, .C⟩
/-- R225 PSC_CNT[23:16] RC. -/
def PSC_CNT_RETRIES (n : Nat) : Fld := ⟨(a_PSC_CNT n), 16, 8, 0, .rc, .C⟩
/-- R225 PSC_CNT[15:8] RC. -/
def PSC_CNT_CLAMPS (n : Nat) : Fld := ⟨(a_PSC_CNT n), 8, 8, 0, .rc, .C⟩
/-- R225 PSC_CNT[7:0] RC. -/
def PSC_CNT_OLDET (n : Nat) : Fld := ⟨(a_PSC_CNT n), 0, 8, 0, .rc, .C⟩
/-- PSC_OWN: address (R224). -/
def a_PSC_OWN (n : Nat) : Nat := 0x42003000 + n * 4
/-- R226 PSC_OWN[31:30] RW. -/
def PSC_OWN_MODE (n : Nat) : Fld := ⟨(a_PSC_OWN n), 30, 2, 0, .rw, .cfg⟩
/-- R226 PSC_OWN[21:16] RW. -/
def PSC_OWN_OWNID (n : Nat) : Fld := ⟨(a_PSC_OWN n), 16, 6, 0, .rw, .cfg⟩
/-- R226 PSC_OWN[7:0] RW. -/
def PSC_OWN_VI (n : Nat) : Fld := ⟨(a_PSC_OWN n), 0, 8, 0, .rw, .cfg⟩
/-- PSC_WCUST: address (R224). -/
def a_PSC_WCUST (c : Nat) : Nat := 0x42003100 + c * 4
/-- R226 PSC_WCUST[31:16] HU. -/
def PSC_WCUST_TAU (c : Nat) : Fld := ⟨(a_PSC_WCUST c), 16, 16, 0, .hu, .C⟩
/-- R226 PSC_WCUST[15:0] HU. -/
def PSC_WCUST_ITRIP (c : Nat) : Fld := ⟨(a_PSC_WCUST c), 0, 16, 0, .hu, .C⟩
/-- PSC_FEEDCFG: address (R224). -/
def a_PSC_FEEDCFG (f : Nat) : Nat := 0x42003200 + f * 0x10
/-- R226 PSC_FEEDCFG[31:24] HU. -/
def PSC_FEEDCFG_FEEDLIM (f : Nat) : Fld := ⟨(a_PSC_FEEDCFG f), 24, 8, 0x50, .hu, .C⟩
/-- R226 PSC_FEEDCFG[23:16] HU. -/
def PSC_FEEDCFG_FEEDHYST (f : Nat) : Fld := ⟨(a_PSC_FEEDCFG f), 16, 8, 4, .hu, .C⟩
/-- R226 PSC_FEEDCFG[15:8] HU. -/
def PSC_FEEDCFG_SHEDDLY (f : Nat) : Fld := ⟨(a_PSC_FEEDCFG f), 8, 8, 0xA, .hu, .C⟩
/-- R226 PSC_FEEDCFG[7:0] HU. -/
def PSC_FEEDCFG_TWARN (f : Nat) : Fld := ⟨(a_PSC_FEEDCFG f), 0, 8, 0x8C, .hu, .C⟩
/-- PSC_FEEDSTAT: address (R224). -/
def a_PSC_FEEDSTAT (f : Nat) : Nat := 0x42003204 + f * 0x10
/-- R226 PSC_FEEDSTAT[31:16] RO. -/
def PSC_FEEDSTAT_VPWR (f : Nat) : Fld := ⟨(a_PSC_FEEDSTAT f), 16, 16, 0, .ro, .C⟩
/-- R226 PSC_FEEDSTAT[15:0] RO. -/
def PSC_FEEDSTAT_ISUM (f : Nat) : Fld := ⟨(a_PSC_FEEDSTAT f), 0, 16, 0, .ro, .C⟩
/-- PSC_DIESTAT: address (R224). -/
def a_PSC_DIESTAT (f : Nat) : Nat := 0x42003208 + f * 0x10
/-- R226 PSC_DIESTAT[31] RO. -/
def PSC_DIESTAT_LINKUP (f : Nat) : Fld := ⟨(a_PSC_DIESTAT f), 31, 1, 0, .ro, .C⟩
/-- R226 PSC_DIESTAT[30] RO. -/
def PSC_DIESTAT_HOLD (f : Nat) : Fld := ⟨(a_PSC_DIESTAT f), 30, 1, 0, .ro, .C⟩
/-- R226 PSC_DIESTAT[29] W1C. -/
def PSC_DIESTAT_RESTARTED (f : Nat) : Fld := ⟨(a_PSC_DIESTAT f), 29, 1, 0, .w1c, .C⟩
/-- R226 PSC_DIESTAT[28] RO. -/
def PSC_DIESTAT_UV (f : Nat) : Fld := ⟨(a_PSC_DIESTAT f), 28, 1, 0, .ro, .C⟩
/-- R226 PSC_DIESTAT[27] RO. -/
def PSC_DIESTAT_OV (f : Nat) : Fld := ⟨(a_PSC_DIESTAT f), 27, 1, 0, .ro, .C⟩
/-- R226 PSC_DIESTAT[26] W1C. -/
def PSC_DIESTAT_OVERLIM (f : Nat) : Fld := ⟨(a_PSC_DIESTAT f), 26, 1, 0, .w1c, .C⟩
/-- R226 PSC_DIESTAT[20:16] RO. -/
def PSC_DIESTAT_NSHED (f : Nat) : Fld := ⟨(a_PSC_DIESTAT f), 16, 5, 0, .ro, .C⟩
/-- R226 PSC_DIESTAT[15:0] RO. -/
def PSC_DIESTAT_HOLDMS (f : Nat) : Fld := ⟨(a_PSC_DIESTAT f), 0, 16, 0, .ro, .C⟩
/-- PSC_LINKSTAT: address (R224). -/
def a_PSC_LINKSTAT (f : Nat) : Nat := 0x4200320C + f * 0x10
/-- R226 PSC_LINKSTAT[31:24] RC. -/
def PSC_LINKSTAT_CRCERR (f : Nat) : Fld := ⟨(a_PSC_LINKSTAT f), 24, 8, 0, .rc, .C⟩
/-- R226 PSC_LINKSTAT[23:16] RC. -/
def PSC_LINKSTAT_RETRIES (f : Nat) : Fld := ⟨(a_PSC_LINKSTAT f), 16, 8, 0, .rc, .C⟩
/-- R226 PSC_LINKSTAT[15:8] RC. -/
def PSC_LINKSTAT_FAILS (f : Nat) : Fld := ⟨(a_PSC_LINKSTAT f), 8, 8, 0, .rc, .C⟩
/-- PSC_GRPTEMP: address (R224). -/
def a_PSC_GRPTEMP (g : Nat) : Nat := 0x42003300 + g * 4
/-- R226 PSC_GRPTEMP[31] RO. -/
def PSC_GRPTEMP_OTOFF (g : Nat) : Fld := ⟨(a_PSC_GRPTEMP g), 31, 1, 0, .ro, .C⟩
/-- R226 PSC_GRPTEMP[30] RO. -/
def PSC_GRPTEMP_WARN (g : Nat) : Fld := ⟨(a_PSC_GRPTEMP g), 30, 1, 0, .ro, .C⟩
/-- R226 PSC_GRPTEMP[15:0] RO. -/
def PSC_GRPTEMP_TEMP (g : Nat) : Fld := ⟨(a_PSC_GRPTEMP g), 0, 16, 0, .ro, .C⟩
/-- PSC_RECCTL: address (R224). -/
def a_PSC_RECCTL : Nat := 0x42003400
/-- R226 PSC_RECCTL[31] HU. -/
def PSC_RECCTL_EN : Fld := ⟨a_PSC_RECCTL, 31, 1, 0, .hu, .B⟩
/-- R226 PSC_RECCTL[3:0] RW. -/
def PSC_RECCTL_SIZE : Fld := ⟨a_PSC_RECCTL, 0, 4, 0, .rw, .B⟩
/-- PSC_RECBASE: address (R224). -/
def a_PSC_RECBASE : Nat := 0x42003408
/-- R226 PSC_RECBASE[39:12] RW. -/
def PSC_RECBASE_BASE : Fld := ⟨a_PSC_RECBASE, 12, 28, 0, .rw, .B⟩
/-- PSC_RECWR: address (R224). -/
def a_PSC_RECWR : Nat := 0x42003410
/-- R226 PSC_RECWR[15:0] RO. -/
def PSC_RECWR_WR : Fld := ⟨a_PSC_RECWR, 0, 16, 0, .ro, .B⟩

/-- The registers of this file with their extents, for the decode of an address (R585, R586, R601). -/
def regTableRegEngine0 : List RegDef :=
  [⟨.tg, 0x40050000, 12, 0x1000, 1, 0x0, 4, fun i _ => [TG_CTL_RUN i, TG_CTL_SWDISP i]⟩,
   ⟨.tg, 0x40050004, 12, 0x1000, 1, 0x0, 4, fun i _ => [TG_STAT_OVR i, TG_STAT_INDROP i, TG_STAT_CECC i, TG_STAT_SLOT i, TG_STAT_LATEDROP i, TG_STAT_DFAULT i, TG_STAT_EXC i, TG_STAT_HOLD i, TG_STAT_PEND i, TG_STAT_BUSY i]⟩,
   ⟨.tg, 0x40050008, 12, 0x1000, 1, 0x0, 4, fun i _ => [TG_PCTL_PAIR i, TG_PCTL_PROT i, TG_PCTL_SKEW i]⟩,
   ⟨.tg, 0x4005000C, 12, 0x1000, 1, 0x0, 4, fun i _ => [TG_PSTAT_MISM i, TG_PSTAT_SYNCING i, TG_PSTAT_ESC i, TG_PSTAT_REPLAY i, TG_PSTAT_LAST i]⟩,
   ⟨.tg, 0x40050010, 12, 0x1000, 1, 0x0, 4, fun i _ => [TG_EVEC_VEC i]⟩,
   ⟨.tg, 0x40050014, 12, 0x1000, 1, 0x0, 4, fun i _ => [TG_ECAUSE_DS i, TG_ECAUSE_SHADOW i, TG_ECAUSE_LOOPEND i, TG_ECAUSE_LVL i, TG_ECAUSE_CODE i]⟩,
   ⟨.tg, 0x40050018, 12, 0x1000, 1, 0x0, 4, fun i _ => [TG_EPC_PC i]⟩,
   ⟨.tg, 0x4005001C, 12, 0x1000, 1, 0x0, 4, fun i _ => [TG_ESCPWM_PAIRS i]⟩,
   ⟨.tg, 0x40050020, 12, 0x1000, 1, 0x0, 4, fun i _ => [TG_MOVE_GO i, TG_MOVE_DONE i, TG_MOVE_ERR i, TG_MOVE_FWD i, TG_MOVE_DEST i, TG_MOVE_ERRC i]⟩,
   ⟨.tg, 0x40050024, 12, 0x1000, 1, 0x0, 4, fun i _ => [TG_MOVEWIN_LEN i, TG_MOVEWIN_BASE i]⟩,
   ⟨.tg, 0x40050028, 12, 0x1000, 1, 0x0, 4, fun i _ => [TG_ITER_CNT i]⟩,
   ⟨.tg, 0x40050040, 12, 0x1000, 8, 0x10, 4, fun i j => [TG_SLOT_EN i j, TG_SLOT_TYPE i j, TG_SLOT_SRC i j, TG_SLOT_DIV i j, TG_SLOT_MODE i j]⟩,
   ⟨.tg, 0x40050044, 12, 0x1000, 8, 0x10, 4, fun i j => [TG_SLOTENT_ENT i j]⟩,
   ⟨.tg, 0x40050048, 12, 0x1000, 8, 0x10, 4, fun i j => [TG_SLOTLIM_DEADLINE i j, TG_SLOTLIM_TLIM i j]⟩,
   ⟨.tg, 0x4005004C, 12, 0x1000, 8, 0x10, 4, fun i j => [TG_SLOTSTAT_MAXC i j, TG_SLOTSTAT_OVR i j]⟩,
   ⟨.psc, 0x42000000, 40, 0x100, 1, 0x0, 4, fun i _ => [PSC_CMD_OP i]⟩]
def regTableRegEngine1 : List RegDef :=
  [⟨.psc, 0x42000004, 40, 0x100, 1, 0x0, 4, fun i _ => [PSC_CFG_WCLS i, PSC_CFG_PRIO i, PSC_CFG_RETRY i, PSC_CFG_RETRYDLY i, PSC_CFG_INRUSH i, PSC_CFG_OLOFF i, PSC_CFG_ONOL i, PSC_CFG_LOWRANGE i]⟩,
   ⟨.psc, 0x42000008, 40, 0x100, 1, 0x0, 4, fun i _ => [PSC_PROT_OCTHR i, PSC_PROT_INRTHR i, PSC_PROT_OCFILT i, PSC_PROT_I2TWARN i]⟩,
   ⟨.psc, 0x4200000C, 40, 0x100, 1, 0x0, 4, fun i _ => [PSC_OL_OLPU i, PSC_OL_OLTHR i, PSC_OL_OLSET i, PSC_OL_ONOLTHR i]⟩,
   ⟨.psc, 0x42000010, 40, 0x100, 1, 0x0, 4, fun i _ => [PSC_PWMC_PERIOD i, PSC_PWMC_DUTY i]⟩,
   ⟨.psc, 0x42000014, 40, 0x100, 1, 0x0, 4, fun i _ => [PSC_STAT_STATE i, PSC_STAT_CAUSE i, PSC_STAT_RLEFT i, PSC_STAT_CMDPEND i, PSC_STAT_CMDFAIL i, PSC_STAT_REFUSED i, PSC_STAT_HELD i, PSC_STAT_INRUSH i, PSC_STAT_LR i, PSC_STAT_FAULT i, PSC_STAT_OPEN i, PSC_STAT_STB i, PSC_STAT_ONOPEN i, PSC_STAT_CLAMP i, PSC_STAT_I2TW i, PSC_STAT_UV i]⟩,
   ⟨.psc, 0x42000018, 40, 0x100, 1, 0x0, 4, fun i _ => [PSC_CUR_RANGE i, PSC_CUR_SEQ i, PSC_CUR_I i]⟩,
   ⟨.psc, 0x4200001C, 40, 0x100, 1, 0x0, 4, fun i _ => [PSC_VOUT_V i]⟩,
   ⟨.psc, 0x42000020, 40, 0x100, 1, 0x0, 4, fun i _ => [PSC_CURAVG_I i]⟩,
   ⟨.psc, 0x42000024, 40, 0x100, 1, 0x0, 4, fun i _ => [PSC_I2T_X i]⟩,
   ⟨.psc, 0x42000028, 40, 0x100, 1, 0x0, 4, fun i _ => [PSC_CNT_OCTRIPS i, PSC_CNT_RETRIES i, PSC_CNT_CLAMPS i, PSC_CNT_OLDET i]⟩,
   ⟨.psc, 0x42003000, 40, 0x4, 1, 0x0, 4, fun i _ => [PSC_OWN_MODE i, PSC_OWN_OWNID i, PSC_OWN_VI i]⟩,
   ⟨.psc, 0x42003100, 4, 0x4, 1, 0x0, 4, fun i _ => [PSC_WCUST_TAU i, PSC_WCUST_ITRIP i]⟩,
   ⟨.psc, 0x42003200, 2, 0x10, 1, 0x0, 4, fun i _ => [PSC_FEEDCFG_FEEDLIM i, PSC_FEEDCFG_FEEDHYST i, PSC_FEEDCFG_SHEDDLY i, PSC_FEEDCFG_TWARN i]⟩,
   ⟨.psc, 0x42003204, 2, 0x10, 1, 0x0, 4, fun i _ => [PSC_FEEDSTAT_VPWR i, PSC_FEEDSTAT_ISUM i]⟩,
   ⟨.psc, 0x42003208, 2, 0x10, 1, 0x0, 4, fun i _ => [PSC_DIESTAT_LINKUP i, PSC_DIESTAT_HOLD i, PSC_DIESTAT_RESTARTED i, PSC_DIESTAT_UV i, PSC_DIESTAT_OV i, PSC_DIESTAT_OVERLIM i, PSC_DIESTAT_NSHED i, PSC_DIESTAT_HOLDMS i]⟩,
   ⟨.psc, 0x4200320C, 2, 0x10, 1, 0x0, 4, fun i _ => [PSC_LINKSTAT_CRCERR i, PSC_LINKSTAT_RETRIES i, PSC_LINKSTAT_FAILS i]⟩]
def regTableRegEngine2 : List RegDef :=
  [⟨.psc, 0x42003300, 10, 0x4, 1, 0x0, 4, fun i _ => [PSC_GRPTEMP_OTOFF i, PSC_GRPTEMP_WARN i, PSC_GRPTEMP_TEMP i]⟩,
   ⟨.psc, 0x42003400, 1, 0x0, 1, 0x0, 4, fun _ _ => [PSC_RECCTL_EN, PSC_RECCTL_SIZE]⟩,
   ⟨.psc, 0x42003408, 1, 0x0, 1, 0x0, 8, fun _ _ => [PSC_RECBASE_BASE]⟩,
   ⟨.psc, 0x42003410, 1, 0x0, 1, 0x0, 4, fun _ _ => [PSC_RECWR_WR]⟩]
def regTableRegEngine : List RegDef :=
  regTableRegEngine0 ++ regTableRegEngine1 ++ regTableRegEngine2

end Sys2Proof.Machine
end

