-- ==== Sys2Proof/Machine/RegEth.lean ====
section
/-! DEFINITION. The fields of the ESW and EPORT registers, one definition per field: its address, place, width,
reset value, access code and reset kind, from the layout and address tables of spec/ (R273). -/

namespace Sys2Proof.Machine

/-- ESW_CTL: address (R273). -/
def a_ESW_CTL : Nat := 0x43000000
/-- R274 ESW_CTL[31] RW. -/
def ESW_CTL_EN : Fld := ⟨a_ESW_CTL, 31, 1, 0, .rw, .B⟩
/-- R274 ESW_CTL[15:0] RW. -/
def ESW_CTL_Q7RES : Fld := ⟨a_ESW_CTL, 0, 16, 0x200, .rw, .B⟩
/-- ESW_BUFSTAT: address (R273). -/
def a_ESW_BUFSTAT : Nat := 0x43000004
/-- R274 ESW_BUFSTAT[31:16] RO. -/
def ESW_BUFSTAT_FREE : Fld := ⟨a_ESW_BUFSTAT, 16, 16, 0x8000, .ro, .B⟩
/-- R274 ESW_BUFSTAT[15:0] HU. -/
def ESW_BUFSTAT_MINFREE : Fld := ⟨a_ESW_BUFSTAT, 0, 16, 0x8000, .hu, .B⟩
/-- ESW_DROP: address (R273). -/
def a_ESW_DROP : Nat := 0x43000008
/-- R274 ESW_DROP[31:24] RC. -/
def ESW_DROP_AGE : Fld := ⟨a_ESW_DROP, 24, 8, 0, .rc, .B⟩
/-- R274 ESW_DROP[23:16] RC. -/
def ESW_DROP_FLUSH : Fld := ⟨a_ESW_DROP, 16, 8, 0, .rc, .B⟩
/-- R274 ESW_DROP[15:8] RC. -/
def ESW_DROP_RED : Fld := ⟨a_ESW_DROP, 8, 8, 0, .rc, .B⟩
/-- R274 ESW_DROP[7:0] RC. -/
def ESW_DROP_NOBUF : Fld := ⟨a_ESW_DROP, 0, 8, 0, .rc, .B⟩
/-- ESW_FDBCFG: address (R273). -/
def a_ESW_FDBCFG : Nat := 0x43000010
/-- R274 ESW_FDBCFG[15:0] RW. -/
def ESW_FDBCFG_AGETIME : Fld := ⟨a_ESW_FDBCFG, 0, 16, 0x12C, .rw, .B⟩
/-- ESW_FDBCMD: address (R273). -/
def a_ESW_FDBCMD : Nat := 0x43000014
/-- R274 ESW_FDBCMD[31] W1S. -/
def ESW_FDBCMD_GO : Fld := ⟨a_ESW_FDBCMD, 31, 1, 0, .w1s, .B⟩
/-- R274 ESW_FDBCMD[30] W1C. -/
def ESW_FDBCMD_ERR : Fld := ⟨a_ESW_FDBCMD, 30, 1, 0, .w1c, .B⟩
/-- R274 ESW_FDBCMD[23:20] RO. -/
def ESW_FDBCMD_ERRC : Fld := ⟨a_ESW_FDBCMD, 20, 4, 0, .ro, .B⟩
/-- R274 ESW_FDBCMD[3:0] RW. -/
def ESW_FDBCMD_OP : Fld := ⟨a_ESW_FDBCMD, 0, 4, 0, .rw, .B⟩
/-- ESW_FDBKEY: address (R273). -/
def a_ESW_FDBKEY : Nat := 0x43000018
/-- R274 ESW_FDBKEY[59:48] RW. -/
def ESW_FDBKEY_VID : Fld := ⟨a_ESW_FDBKEY, 48, 12, 0, .rw, .B⟩
/-- R274 ESW_FDBKEY[47:0] RW. -/
def ESW_FDBKEY_MAC : Fld := ⟨a_ESW_FDBKEY, 0, 48, 0, .rw, .B⟩
/-- ESW_FDBDATA: address (R273). -/
def a_ESW_FDBDATA : Nat := 0x43000020
/-- R274 ESW_FDBDATA[31] HU. -/
def ESW_FDBDATA_VALID : Fld := ⟨a_ESW_FDBDATA, 31, 1, 0, .hu, .B⟩
/-- R274 ESW_FDBDATA[30] HU. -/
def ESW_FDBDATA_STATIC : Fld := ⟨a_ESW_FDBDATA, 30, 1, 0, .hu, .B⟩
/-- R274 ESW_FDBDATA[29] HU. -/
def ESW_FDBDATA_DROP : Fld := ⟨a_ESW_FDBDATA, 29, 1, 0, .hu, .B⟩
/-- R274 ESW_FDBDATA[28] HU. -/
def ESW_FDBDATA_PIN : Fld := ⟨a_ESW_FDBDATA, 28, 1, 0, .hu, .B⟩
/-- R274 ESW_FDBDATA[27:26] HU. -/
def ESW_FDBDATA_PG : Fld := ⟨a_ESW_FDBDATA, 26, 2, 0, .hu, .B⟩
/-- R274 ESW_FDBDATA[25:22] HU. -/
def ESW_FDBDATA_AGE : Fld := ⟨a_ESW_FDBDATA, 22, 4, 0, .hu, .B⟩
/-- R274 ESW_FDBDATA[21:0] HU. -/
def ESW_FDBDATA_PORTS : Fld := ⟨a_ESW_FDBDATA, 0, 22, 0, .hu, .B⟩
/-- ESW_FDBSTAT: address (R273). -/
def a_ESW_FDBSTAT : Nat := 0x43000024
/-- R274 ESW_FDBSTAT[31:24] RC. -/
def ESW_FDBSTAT_LRNFAIL : Fld := ⟨a_ESW_FDBSTAT, 24, 8, 0, .rc, .B⟩
/-- R274 ESW_FDBSTAT[23:16] RC. -/
def ESW_FDBSTAT_MOVES : Fld := ⟨a_ESW_FDBSTAT, 16, 8, 0, .rc, .B⟩
/-- R274 ESW_FDBSTAT[14:0] RO. -/
def ESW_FDBSTAT_USED : Fld := ⟨a_ESW_FDBSTAT, 0, 15, 0, .ro, .B⟩
/-- ESW_SAMPCTL: address (R273). -/
def a_ESW_SAMPCTL : Nat := 0x43000040
/-- R274 ESW_SAMPCTL[31] HU. -/
def ESW_SAMPCTL_EN : Fld := ⟨a_ESW_SAMPCTL, 31, 1, 0, .hu, .B⟩
/-- R274 ESW_SAMPCTL[30] RW. -/
def ESW_SAMPCTL_MODE : Fld := ⟨a_ESW_SAMPCTL, 30, 1, 0, .rw, .B⟩
/-- R274 ESW_SAMPCTL[4:0] RW. -/
def ESW_SAMPCTL_SIZE : Fld := ⟨a_ESW_SAMPCTL, 0, 5, 4, .rw, .B⟩
/-- ESW_SAMPSTAT: address (R273). -/
def a_ESW_SAMPSTAT : Nat := 0x43000044
/-- R274 ESW_SAMPSTAT[31] W1C. -/
def ESW_SAMPSTAT_WRAPPED : Fld := ⟨a_ESW_SAMPSTAT, 31, 1, 0, .w1c, .B⟩
/-- R274 ESW_SAMPSTAT[15:0] RC. -/
def ESW_SAMPSTAT_LOST : Fld := ⟨a_ESW_SAMPSTAT, 0, 16, 0, .rc, .B⟩
/-- ESW_SAMPBASE: address (R273). -/
def a_ESW_SAMPBASE : Nat := 0x43000048
/-- R274 ESW_SAMPBASE[39:12] RW. -/
def ESW_SAMPBASE_BASE : Fld := ⟨a_ESW_SAMPBASE, 12, 28, 0, .rw, .B⟩
/-- ESW_SAMPWR: address (R273). -/
def a_ESW_SAMPWR : Nat := 0x43000050
/-- R274 ESW_SAMPWR[15:0] RO. -/
def ESW_SAMPWR_WR : Fld := ⟨a_ESW_SAMPWR, 0, 16, 0, .ro, .B⟩
/-- ESW_SAMPRD: address (R273). -/
def a_ESW_SAMPRD : Nat := 0x43000054
/-- R274 ESW_SAMPRD[15:0] RW. -/
def ESW_SAMPRD_RD : Fld := ⟨a_ESW_SAMPRD, 0, 16, 0, .rw, .B⟩
/-- ESW_PINCFG: address (R273). -/
def a_ESW_PINCFG (k : Nat) : Nat := 0x43000080 + k * 0x10
/-- R274 ESW_PINCFG[31] RW. -/
def ESW_PINCFG_EN (k : Nat) : Fld := ⟨(a_ESW_PINCFG k), 31, 1, 0, .rw, .B⟩
/-- R274 ESW_PINCFG[30] W1S. -/
def ESW_PINCFG_REVERT (k : Nat) : Fld := ⟨(a_ESW_PINCFG k), 30, 1, 0, .w1s, .B⟩
/-- R274 ESW_PINCFG[9:5] RW. -/
def ESW_PINCFG_PORTB (k : Nat) : Fld := ⟨(a_ESW_PINCFG k), 5, 5, 0, .rw, .B⟩
/-- R274 ESW_PINCFG[4:0] RW. -/
def ESW_PINCFG_PORTA (k : Nat) : Fld := ⟨(a_ESW_PINCFG k), 0, 5, 0, .rw, .B⟩
/-- ESW_PINHASH: address (R273). -/
def a_ESW_PINHASH (k : Nat) : Nat := 0x43000084 + k * 0x10
/-- R274 ESW_PINHASH[31:16] RW. -/
def ESW_PINHASH_SEED (k : Nat) : Fld := ⟨(a_ESW_PINHASH k), 16, 16, 0xFFFF, .rw, .B⟩
/-- R274 ESW_PINHASH[11:0] RW. -/
def ESW_PINHASH_FIELDS (k : Nat) : Fld := ⟨(a_ESW_PINHASH k), 0, 12, 7, .rw, .B⟩
/-- ESW_PINSTAT: address (R273). -/
def a_ESW_PINSTAT (k : Nat) : Nat := 0x43000088 + k * 0x10
/-- R274 ESW_PINSTAT[31:24] RC. -/
def ESW_PINSTAT_FAILOVERS (k : Nat) : Fld := ⟨(a_ESW_PINSTAT k), 24, 8, 0, .rc, .B⟩
/-- R274 ESW_PINSTAT[2] RO. -/
def ESW_PINSTAT_REVPEND (k : Nat) : Fld := ⟨(a_ESW_PINSTAT k), 2, 1, 0, .ro, .B⟩
/-- R274 ESW_PINSTAT[1:0] RO. -/
def ESW_PINSTAT_PATHS (k : Nat) : Fld := ⟨(a_ESW_PINSTAT k), 0, 2, 0, .ro, .B⟩
/-- ESW_RED: address (R273). -/
def a_ESW_RED (r c : Nat) : Nat := 0x43000100 + r * 0x10 + c * 4
/-- R274 ESW_RED[31:24] RW. -/
def ESW_RED_PMAX (r c : Nat) : Fld := ⟨(a_ESW_RED r c), 24, 8, 0, .rw, .B⟩
/-- R274 ESW_RED[23:12] RW. -/
def ESW_RED_MAX (r c : Nat) : Fld := ⟨(a_ESW_RED r c), 12, 12, 0, .rw, .B⟩
/-- R274 ESW_RED[11:0] RW. -/
def ESW_RED_MIN (r c : Nat) : Fld := ⟨(a_ESW_RED r c), 0, 12, 0, .rw, .B⟩
/-- ESW_VLANM: address (R273). -/
def a_ESW_VLANM (v : Nat) : Nat := 0x43008000 + v * 8
/-- R274 ESW_VLANM[31] RW. -/
def ESW_VLANM_LEARN (v : Nat) : Fld := ⟨(a_ESW_VLANM v), 31, 1, 0, .rw, .B⟩
/-- R274 ESW_VLANM[21:0] RW. -/
def ESW_VLANM_MEMBER (v : Nat) : Fld := ⟨(a_ESW_VLANM v), 0, 22, 0, .rw, .B⟩
/-- ESW_VLANU: address (R273). -/
def a_ESW_VLANU (v : Nat) : Nat := 0x43008004 + v * 8
/-- R274 ESW_VLANU[21:0] RW. -/
def ESW_VLANU_UNTAG (v : Nat) : Fld := ⟨(a_ESW_VLANU v), 0, 22, 0, .rw, .B⟩
/-- ESW_FDBWINKEY: address (R273). -/
def a_ESW_FDBWINKEY (i : Nat) : Nat := 0x43010000 + i * 0x10
/-- R274 ESW_FDBWINKEY[59:48] RW. -/
def ESW_FDBWINKEY_VID (i : Nat) : Fld := ⟨(a_ESW_FDBWINKEY i), 48, 12, 0, .rw, .B⟩
/-- R274 ESW_FDBWINKEY[47:0] RW. -/
def ESW_FDBWINKEY_MAC (i : Nat) : Fld := ⟨(a_ESW_FDBWINKEY i), 0, 48, 0, .rw, .B⟩
/-- ESW_FDBWINDATA: address (R273). -/
def a_ESW_FDBWINDATA (i : Nat) : Nat := 0x43010008 + i * 0x10
/-- R274 ESW_FDBWINDATA[31] HU. -/
def ESW_FDBWINDATA_VALID (i : Nat) : Fld := ⟨(a_ESW_FDBWINDATA i), 31, 1, 0, .hu, .B⟩
/-- R274 ESW_FDBWINDATA[30] HU. -/
def ESW_FDBWINDATA_STATIC (i : Nat) : Fld := ⟨(a_ESW_FDBWINDATA i), 30, 1, 0, .hu, .B⟩
/-- R274 ESW_FDBWINDATA[29] HU. -/
def ESW_FDBWINDATA_DROP (i : Nat) : Fld := ⟨(a_ESW_FDBWINDATA i), 29, 1, 0, .hu, .B⟩
/-- R274 ESW_FDBWINDATA[28] HU. -/
def ESW_FDBWINDATA_PIN (i : Nat) : Fld := ⟨(a_ESW_FDBWINDATA i), 28, 1, 0, .hu, .B⟩
/-- R274 ESW_FDBWINDATA[27:26] HU. -/
def ESW_FDBWINDATA_PG (i : Nat) : Fld := ⟨(a_ESW_FDBWINDATA i), 26, 2, 0, .hu, .B⟩
/-- R274 ESW_FDBWINDATA[25:22] HU. -/
def ESW_FDBWINDATA_AGE (i : Nat) : Fld := ⟨(a_ESW_FDBWINDATA i), 22, 4, 0, .hu, .B⟩
/-- R274 ESW_FDBWINDATA[21:0] HU. -/
def ESW_FDBWINDATA_PORTS (i : Nat) : Fld := ⟨(a_ESW_FDBWINDATA i), 0, 22, 0, .hu, .B⟩
/-- ESW_SFKEY: address (R273). -/
def a_ESW_SFKEY (i : Nat) : Nat := 0x43050000 + i * 0x10
/-- R275 ESW_SFKEY[63] RW. -/
def ESW_SFKEY_EN (i : Nat) : Fld := ⟨(a_ESW_SFKEY i), 63, 1, 0, .rw, .B⟩
/-- R275 ESW_SFKEY[62] RW. -/
def ESW_SFKEY_TYPE (i : Nat) : Fld := ⟨(a_ESW_SFKEY i), 62, 1, 0, .rw, .B⟩
/-- R275 ESW_SFKEY[59:48] RW. -/
def ESW_SFKEY_VID (i : Nat) : Fld := ⟨(a_ESW_SFKEY i), 48, 12, 0, .rw, .B⟩
/-- R275 ESW_SFKEY[47:0] RW. -/
def ESW_SFKEY_MAC (i : Nat) : Fld := ⟨(a_ESW_SFKEY i), 0, 48, 0, .rw, .B⟩
/-- ESW_SFCTL: address (R273). -/
def a_ESW_SFCTL (i : Nat) : Nat := 0x43050008 + i * 0x10
/-- R275 ESW_SFCTL[31:27] RW. -/
def ESW_SFCTL_PORT (i : Nat) : Fld := ⟨(a_ESW_SFCTL i), 27, 5, 0x1F, .rw, .B⟩
/-- R275 ESW_SFCTL[26] RW. -/
def ESW_SFCTL_OVBLK (i : Nat) : Fld := ⟨(a_ESW_SFCTL i), 26, 1, 0, .rw, .B⟩
/-- R275 ESW_SFCTL[25] HU. -/
def ESW_SFCTL_BLOCKED (i : Nat) : Fld := ⟨(a_ESW_SFCTL i), 25, 1, 0, .hu, .B⟩
/-- R275 ESW_SFCTL[24] RW. -/
def ESW_SFCTL_SGEN (i : Nat) : Fld := ⟨(a_ESW_SFCTL i), 24, 1, 0, .rw, .B⟩
/-- R275 ESW_SFCTL[23:18] RW. -/
def ESW_SFCTL_SG (i : Nat) : Fld := ⟨(a_ESW_SFCTL i), 18, 6, 0, .rw, .B⟩
/-- R275 ESW_SFCTL[17] RW. -/
def ESW_SFCTL_MTREN (i : Nat) : Fld := ⟨(a_ESW_SFCTL i), 17, 1, 0, .rw, .B⟩
/-- R275 ESW_SFCTL[16:7] RW. -/
def ESW_SFCTL_MTR (i : Nat) : Fld := ⟨(a_ESW_SFCTL i), 7, 10, 0, .rw, .B⟩
/-- ESW_SFCTL2: address (R273). -/
def a_ESW_SFCTL2 (i : Nat) : Nat := 0x4305000C + i * 0x10
/-- R275 ESW_SFCTL2[31] RW. -/
def ESW_SFCTL2_FREN (i : Nat) : Fld := ⟨(a_ESW_SFCTL2 i), 31, 1, 0, .rw, .B⟩
/-- R275 ESW_SFCTL2[29:21] RW. -/
def ESW_SFCTL2_FR (i : Nat) : Fld := ⟨(a_ESW_SFCTL2 i), 21, 9, 0, .rw, .B⟩
/-- R275 ESW_SFCTL2[13:0] RW. -/
def ESW_SFCTL2_MAXSDU (i : Nat) : Fld := ⟨(a_ESW_SFCTL2 i), 0, 14, 0, .rw, .B⟩
/-- ESW_SFCNT: address (R273). -/
def a_ESW_SFCNT (i : Nat) : Nat := 0x43058000 + i * 4
/-- R275 ESW_SFCNT[31:16] RC. -/
def ESW_SFCNT_DROP (i : Nat) : Fld := ⟨(a_ESW_SFCNT i), 16, 16, 0, .rc, .B⟩
/-- R275 ESW_SFCNT[15:0] RC. -/
def ESW_SFCNT_MATCH (i : Nat) : Fld := ⟨(a_ESW_SFCNT i), 0, 16, 0, .rc, .B⟩
/-- ESW_MTRCIR: address (R273). -/
def a_ESW_MTRCIR (m : Nat) : Nat := 0x43060000 + m * 0x10
/-- R275 ESW_MTRCIR[31] RW. -/
def ESW_MTRCIR_CA (m : Nat) : Fld := ⟨(a_ESW_MTRCIR m), 31, 1, 0, .rw, .B⟩
/-- R275 ESW_MTRCIR[30] RW. -/
def ESW_MTRCIR_CF (m : Nat) : Fld := ⟨(a_ESW_MTRCIR m), 30, 1, 0, .rw, .B⟩
/-- R275 ESW_MTRCIR[29] RW. -/
def ESW_MTRCIR_DROPY (m : Nat) : Fld := ⟨(a_ESW_MTRCIR m), 29, 1, 0, .rw, .B⟩
/-- R275 ESW_MTRCIR[28] RW. -/
def ESW_MTRCIR_DROPR (m : Nat) : Fld := ⟨(a_ESW_MTRCIR m), 28, 1, 1, .rw, .B⟩
/-- R275 ESW_MTRCIR[27:0] RW. -/
def ESW_MTRCIR_CIR (m : Nat) : Fld := ⟨(a_ESW_MTRCIR m), 0, 28, 0, .rw, .B⟩
/-- ESW_MTREIR: address (R273). -/
def a_ESW_MTREIR (m : Nat) : Nat := 0x43060004 + m * 0x10
/-- R275 ESW_MTREIR[27:0] RW. -/
def ESW_MTREIR_EIR (m : Nat) : Fld := ⟨(a_ESW_MTREIR m), 0, 28, 0, .rw, .B⟩
/-- ESW_MTRBS: address (R273). -/
def a_ESW_MTRBS (m : Nat) : Nat := 0x43060008 + m * 0x10
/-- R275 ESW_MTRBS[31:16] RW. -/
def ESW_MTRBS_EBS (m : Nat) : Fld := ⟨(a_ESW_MTRBS m), 16, 16, 0, .rw, .B⟩
/-- R275 ESW_MTRBS[15:0] RW. -/
def ESW_MTRBS_CBS (m : Nat) : Fld := ⟨(a_ESW_MTRBS m), 0, 16, 0, .rw, .B⟩
/-- ESW_MTRCNT: address (R273). -/
def a_ESW_MTRCNT (m : Nat) : Nat := 0x4306000C + m * 0x10
/-- R275 ESW_MTRCNT[31:16] RC. -/
def ESW_MTRCNT_RED (m : Nat) : Fld := ⟨(a_ESW_MTRCNT m), 16, 16, 0, .rc, .B⟩
/-- R275 ESW_MTRCNT[15:0] RC. -/
def ESW_MTRCNT_YELLOW (m : Nat) : Fld := ⟨(a_ESW_MTRCNT m), 0, 16, 0, .rc, .B⟩
/-- ESW_SGCTL: address (R273). -/
def a_ESW_SGCTL (g : Nat) : Nat := 0x43064000 + g * 0x100
/-- R275 ESW_SGCTL[31] RW. -/
def ESW_SGCTL_EN (g : Nat) : Fld := ⟨(a_ESW_SGCTL g), 31, 1, 0, .rw, .B⟩
/-- R275 ESW_SGCTL[30] W1S. -/
def ESW_SGCTL_CHANGE (g : Nat) : Fld := ⟨(a_ESW_SGCTL g), 30, 1, 0, .w1s, .B⟩
/-- R275 ESW_SGCTL[29] RW. -/
def ESW_SGCTL_CLOSEINV (g : Nat) : Fld := ⟨(a_ESW_SGCTL g), 29, 1, 0, .rw, .B⟩
/-- R275 ESW_SGCTL[5:0] RW. -/
def ESW_SGCTL_LEN (g : Nat) : Fld := ⟨(a_ESW_SGCTL g), 0, 6, 0, .rw, .B⟩
/-- ESW_SGBASE: address (R273). -/
def a_ESW_SGBASE (g : Nat) : Nat := 0x43064008 + g * 0x100
/-- R275 ESW_SGBASE[63:0] RW. -/
def ESW_SGBASE_BASE (g : Nat) : Fld := ⟨(a_ESW_SGBASE g), 0, 64, 0, .rw, .B⟩
/-- ESW_SGCYC: address (R273). -/
def a_ESW_SGCYC (g : Nat) : Nat := 0x43064010 + g * 0x100
/-- R275 ESW_SGCYC[31:0] RW. -/
def ESW_SGCYC_CYC (g : Nat) : Fld := ⟨(a_ESW_SGCYC g), 0, 32, 0, .rw, .B⟩
/-- ESW_SGSTAT: address (R273). -/
def a_ESW_SGSTAT (g : Nat) : Nat := 0x43064014 + g * 0x100
/-- R275 ESW_SGSTAT[31:16] RC. -/
def ESW_SGSTAT_CLOSED (g : Nat) : Fld := ⟨(a_ESW_SGSTAT g), 16, 16, 0, .rc, .B⟩
/-- R275 ESW_SGSTAT[1] W1C. -/
def ESW_SGSTAT_INVRX (g : Nat) : Fld := ⟨(a_ESW_SGSTAT g), 1, 1, 0, .w1c, .B⟩
/-- R275 ESW_SGSTAT[0] RO. -/
def ESW_SGSTAT_PEND (g : Nat) : Fld := ⟨(a_ESW_SGSTAT g), 0, 1, 0, .ro, .B⟩
/-- ESW_SGL: address (R273). -/
def a_ESW_SGL (g l : Nat) : Nat := 0x43064080 + g * 0x100 + l * 4
/-- R275 ESW_SGL[31] RW. -/
def ESW_SGL_OPEN (g l : Nat) : Fld := ⟨(a_ESW_SGL g l), 31, 1, 0, .rw, .B⟩
/-- R275 ESW_SGL[30:28] RW. -/
def ESW_SGL_IPV (g l : Nat) : Fld := ⟨(a_ESW_SGL g l), 28, 3, 0, .rw, .B⟩
/-- R275 ESW_SGL[27] RW. -/
def ESW_SGL_IPVEN (g l : Nat) : Fld := ⟨(a_ESW_SGL g l), 27, 1, 0, .rw, .B⟩
/-- R275 ESW_SGL[26:0] RW. -/
def ESW_SGL_INTERVAL (g l : Nat) : Fld := ⟨(a_ESW_SGL g l), 0, 27, 0, .rw, .B⟩
/-- ESW_FRCTL: address (R273). -/
def a_ESW_FRCTL (r : Nat) : Nat := 0x43068000 + r * 0x10
/-- R275 ESW_FRCTL[31] RW. -/
def ESW_FRCTL_EN (r : Nat) : Fld := ⟨(a_ESW_FRCTL r), 31, 1, 0, .rw, .B⟩
/-- R275 ESW_FRCTL[30] RW. -/
def ESW_FRCTL_GEN (r : Nat) : Fld := ⟨(a_ESW_FRCTL r), 30, 1, 0, .rw, .B⟩
/-- R275 ESW_FRCTL[20:16] RW. -/
def ESW_FRCTL_HIST (r : Nat) : Fld := ⟨(a_ESW_FRCTL r), 16, 5, 0x1F, .rw, .B⟩
/-- R275 ESW_FRCTL[15:0] RW. -/
def ESW_FRCTL_RESETMS (r : Nat) : Fld := ⟨(a_ESW_FRCTL r), 0, 16, 0x3E8, .rw, .B⟩
/-- ESW_FRSTAT: address (R273). -/
def a_ESW_FRSTAT (r : Nat) : Nat := 0x43068004 + r * 0x10
/-- R275 ESW_FRSTAT[23:16] RC. -/
def ESW_FRSTAT_ROGUE (r : Nat) : Fld := ⟨(a_ESW_FRSTAT r), 16, 8, 0, .rc, .B⟩
/-- R275 ESW_FRSTAT[15:0] RO. -/
def ESW_FRSTAT_SEQ (r : Nat) : Fld := ⟨(a_ESW_FRSTAT r), 0, 16, 0, .ro, .B⟩
/-- ESW_FRDUP: address (R273). -/
def a_ESW_FRDUP (r : Nat) : Nat := 0x43068008 + r * 0x10
/-- R275 ESW_FRDUP[31:0] RC. -/
def ESW_FRDUP_DUP (r : Nat) : Fld := ⟨(a_ESW_FRDUP r), 0, 32, 0, .rc, .B⟩
/-- EPORT_CFG: address (R273). -/
def a_EPORT_CFG (p : Nat) : Nat := 0x43100000 + p * 0x1000
/-- R276 EPORT_CFG[31] RW. -/
def EPORT_CFG_EN (p : Nat) : Fld := ⟨(a_EPORT_CFG p), 31, 1, 0, .rw, .B⟩
/-- R276 EPORT_CFG[30] RW. -/
def EPORT_CFG_LEARN (p : Nat) : Fld := ⟨(a_EPORT_CFG p), 30, 1, 1, .rw, .B⟩
/-- R276 EPORT_CFG[29] RW. -/
def EPORT_CFG_INGFILT (p : Nat) : Fld := ⟨(a_EPORT_CFG p), 29, 1, 1, .rw, .B⟩
/-- R276 EPORT_CFG[28] RW. -/
def EPORT_CFG_DEICOL (p : Nat) : Fld := ⟨(a_EPORT_CFG p), 28, 1, 0, .rw, .B⟩
/-- R276 EPORT_CFG[27] RW. -/
def EPORT_CFG_DEIMARK (p : Nat) : Fld := ⟨(a_EPORT_CFG p), 27, 1, 0, .rw, .B⟩
/-- R276 EPORT_CFG[26:24] RW. -/
def EPORT_CFG_PPRI (p : Nat) : Fld := ⟨(a_EPORT_CFG p), 24, 3, 0, .rw, .B⟩
/-- R276 EPORT_CFG[23:12] RW. -/
def EPORT_CFG_PVID (p : Nat) : Fld := ⟨(a_EPORT_CFG p), 12, 12, 1, .rw, .B⟩
/-- EPORT_STAT: address (R273). -/
def a_EPORT_STAT (p : Nat) : Nat := 0x43100004 + p * 0x1000
/-- R276 EPORT_STAT[31:29] RO. -/
def EPORT_STAT_STATE (p : Nat) : Fld := ⟨(a_EPORT_STAT p), 29, 3, 0, .ro, .B⟩
/-- R276 EPORT_STAT[15:8] RC. -/
def EPORT_STAT_FLAPS (p : Nat) : Fld := ⟨(a_EPORT_STAT p), 8, 8, 0, .rc, .B⟩
/-- R276 EPORT_STAT[2:0] RO. -/
def EPORT_STAT_SPEED (p : Nat) : Fld := ⟨(a_EPORT_STAT p), 0, 3, 0, .ro, .B⟩
/-- EPORT_PHYCFG: address (R273). -/
def a_EPORT_PHYCFG (p : Nat) : Nat := 0x43100008 + p * 0x1000
/-- R276 EPORT_PHYCFG[31] RW. -/
def EPORT_PHYCFG_PHYEN (p : Nat) : Fld := ⟨(a_EPORT_PHYCFG p), 31, 1, 0, .rw, .B⟩
/-- R276 EPORT_PHYCFG[30] RW. -/
def EPORT_PHYCFG_MS (p : Nat) : Fld := ⟨(a_EPORT_PHYCFG p), 30, 1, 0, .rw, .B⟩
/-- R276 EPORT_PHYCFG[29] RW. -/
def EPORT_PHYCFG_LPBK (p : Nat) : Fld := ⟨(a_EPORT_PHYCFG p), 29, 1, 0, .rw, .B⟩
/-- R276 EPORT_PHYCFG[28:26] RW. -/
def EPORT_PHYCFG_RATE (p : Nat) : Fld := ⟨(a_EPORT_PHYCFG p), 26, 3, 0, .rw, .B⟩
/-- EPORT_PHYSTAT: address (R273). -/
def a_EPORT_PHYSTAT (p : Nat) : Nat := 0x4310000C + p * 0x1000
/-- R276 EPORT_PHYSTAT[31] RO. -/
def EPORT_PHYSTAT_LINK (p : Nat) : Fld := ⟨(a_EPORT_PHYSTAT p), 31, 1, 0, .ro, .B⟩
/-- R276 EPORT_PHYSTAT[30] RO. -/
def EPORT_PHYSTAT_LOCK (p : Nat) : Fld := ⟨(a_EPORT_PHYSTAT p), 30, 1, 0, .ro, .B⟩
/-- R276 EPORT_PHYSTAT[23:16] RO. -/
def EPORT_PHYSTAT_SQI (p : Nat) : Fld := ⟨(a_EPORT_PHYSTAT p), 16, 8, 0, .ro, .B⟩
/-- R276 EPORT_PHYSTAT[15:0] RC. -/
def EPORT_PHYSTAT_SYMERR (p : Nat) : Fld := ⟨(a_EPORT_PHYSTAT p), 0, 16, 0, .rc, .B⟩
/-- EPORT_HOLD: address (R273). -/
def a_EPORT_HOLD (p : Nat) : Nat := 0x43100010 + p * 0x1000
/-- R276 EPORT_HOLD[13:0] RW. -/
def EPORT_HOLD_HOLD (p : Nat) : Fld := ⟨(a_EPORT_HOLD p), 0, 14, 0x7D0, .rw, .B⟩
/-- EPORT_TSLAT: address (R273). -/
def a_EPORT_TSLAT (p : Nat) : Nat := 0x43100014 + p * 0x1000
/-- R276 EPORT_TSLAT[31:16] RW. -/
def EPORT_TSLAT_TX (p : Nat) : Fld := ⟨(a_EPORT_TSLAT p), 16, 16, 0, .rw, .B⟩
/-- R276 EPORT_TSLAT[15:0] RW. -/
def EPORT_TSLAT_RX (p : Nat) : Fld := ⟨(a_EPORT_TSLAT p), 0, 16, 0, .rw, .B⟩
/-- EPORT_SAMP: address (R273). -/
def a_EPORT_SAMP (p : Nat) : Nat := 0x43100018 + p * 0x1000
/-- R276 EPORT_SAMP[31] RW. -/
def EPORT_SAMP_EN (p : Nat) : Fld := ⟨(a_EPORT_SAMP p), 31, 1, 0, .rw, .B⟩
/-- R276 EPORT_SAMP[30] RW. -/
def EPORT_SAMP_RAND (p : Nat) : Fld := ⟨(a_EPORT_SAMP p), 30, 1, 0, .rw, .B⟩
/-- R276 EPORT_SAMP[17:16] RW. -/
def EPORT_SAMP_WHERE (p : Nat) : Fld := ⟨(a_EPORT_SAMP p), 16, 2, 1, .rw, .B⟩
/-- R276 EPORT_SAMP[15:0] RW. -/
def EPORT_SAMP_NM1 (p : Nat) : Fld := ⟨(a_EPORT_SAMP p), 0, 16, 0, .rw, .B⟩
/-- EPORT_PCPMAP: address (R273). -/
def a_EPORT_PCPMAP (p : Nat) : Nat := 0x4310001C + p * 0x1000
/-- R276 EPORT_PCPMAP[23:0] RW. -/
def EPORT_PCPMAP_MAP (p : Nat) : Fld := ⟨(a_EPORT_PCPMAP p), 0, 24, 0xFAC688, .rw, .B⟩
/-- EPORT_DROP: address (R273). -/
def a_EPORT_DROP (p : Nat) : Nat := 0x43100020 + p * 0x1000
/-- R276 EPORT_DROP[31:24] RC. -/
def EPORT_DROP_DOWN (p : Nat) : Fld := ⟨(a_EPORT_DROP p), 24, 8, 0, .rc, .B⟩
/-- R276 EPORT_DROP[23:16] RC. -/
def EPORT_DROP_VLAN (p : Nat) : Fld := ⟨(a_EPORT_DROP p), 16, 8, 0, .rc, .B⟩
/-- R276 EPORT_DROP[15:8] RC. -/
def EPORT_DROP_LEN (p : Nat) : Fld := ⟨(a_EPORT_DROP p), 8, 8, 0, .rc, .B⟩
/-- R276 EPORT_DROP[7:0] RC. -/
def EPORT_DROP_FCS (p : Nat) : Fld := ⟨(a_EPORT_DROP p), 0, 8, 0, .rc, .B⟩
/-- EPORT_PLCA: address (R273). -/
def a_EPORT_PLCA (p : Nat) : Nat := 0x43100024 + p * 0x1000
/-- R276 EPORT_PLCA[31] RW. -/
def EPORT_PLCA_EN (p : Nat) : Fld := ⟨(a_EPORT_PLCA p), 31, 1, 0, .rw, .B⟩
/-- R276 EPORT_PLCA[23:16] RW. -/
def EPORT_PLCA_NODEID (p : Nat) : Fld := ⟨(a_EPORT_PLCA p), 16, 8, 0, .rw, .B⟩
/-- R276 EPORT_PLCA[15:8] RW. -/
def EPORT_PLCA_NCNT (p : Nat) : Fld := ⟨(a_EPORT_PLCA p), 8, 8, 8, .rw, .B⟩
/-- R276 EPORT_PLCA[7:0] RW. -/
def EPORT_PLCA_TO (p : Nat) : Fld := ⟨(a_EPORT_PLCA p), 0, 8, 0x20, .rw, .B⟩
/-- EPORT_MAXLEN: address (R273). -/
def a_EPORT_MAXLEN (p : Nat) : Nat := 0x43100028 + p * 0x1000
/-- R276 EPORT_MAXLEN[13:0] RW. -/
def EPORT_MAXLEN_MAXLEN (p : Nat) : Fld := ⟨(a_EPORT_MAXLEN p), 0, 14, 0x5F2, .rw, .B⟩
/-- EPORT_Q: address (R273). -/
def a_EPORT_Q (p q : Nat) : Nat := 0x43100040 + p * 0x1000 + q * 0x10
/-- R276 EPORT_Q[31:29] RW. -/
def EPORT_Q_REDP (p q : Nat) : Fld := ⟨(a_EPORT_Q p q), 29, 3, 0, .rw, .B⟩
/-- R276 EPORT_Q[28] RW. -/
def EPORT_Q_REDEN (p q : Nat) : Fld := ⟨(a_EPORT_Q p q), 28, 1, 0, .rw, .B⟩
/-- R276 EPORT_Q[23:12] RW. -/
def EPORT_Q_QLIM (p q : Nat) : Fld := ⟨(a_EPORT_Q p q), 12, 12, 0, .rw, .B⟩
/-- R276 EPORT_Q[11:10] RW. -/
def EPORT_Q_UNIT (p q : Nat) : Fld := ⟨(a_EPORT_Q p q), 10, 2, 0, .rw, .B⟩
/-- R276 EPORT_Q[9:0] RW. -/
def EPORT_Q_AGE (p q : Nat) : Fld := ⟨(a_EPORT_Q p q), 0, 10, 0, .rw, .B⟩
/-- EPORT_QCBS: address (R273). -/
def a_EPORT_QCBS (p q : Nat) : Nat := 0x43100044 + p * 0x1000 + q * 0x10
/-- R276 EPORT_QCBS[31] RW. -/
def EPORT_QCBS_EN (p q : Nat) : Fld := ⟨(a_EPORT_QCBS p q), 31, 1, 0, .rw, .B⟩
/-- R276 EPORT_QCBS[30:0] RW. -/
def EPORT_QCBS_IDLESLOPE (p q : Nat) : Fld := ⟨(a_EPORT_QCBS p q), 0, 31, 0, .rw, .B⟩
/-- EPORT_QSTAT: address (R273). -/
def a_EPORT_QSTAT (p q : Nat) : Nat := 0x43100048 + p * 0x1000 + q * 0x10
/-- R276 EPORT_QSTAT[31:16] RO. -/
def EPORT_QSTAT_OCC (p q : Nat) : Fld := ⟨(a_EPORT_QSTAT p q), 16, 16, 0, .ro, .B⟩
/-- R276 EPORT_QSTAT[15:0] HU. -/
def EPORT_QSTAT_MAXOCC (p q : Nat) : Fld := ⟨(a_EPORT_QSTAT p q), 0, 16, 0, .hu, .B⟩
/-- EPORT_QDROP: address (R273). -/
def a_EPORT_QDROP (p q : Nat) : Nat := 0x4310004C + p * 0x1000 + q * 0x10
/-- R276 EPORT_QDROP[31:24] RC. -/
def EPORT_QDROP_AGE (p q : Nat) : Fld := ⟨(a_EPORT_QDROP p q), 24, 8, 0, .rc, .B⟩
/-- R276 EPORT_QDROP[23:16] RC. -/
def EPORT_QDROP_FLUSH (p q : Nat) : Fld := ⟨(a_EPORT_QDROP p q), 16, 8, 0, .rc, .B⟩
/-- R276 EPORT_QDROP[15:8] RC. -/
def EPORT_QDROP_ADMIT (p q : Nat) : Fld := ⟨(a_EPORT_QDROP p q), 8, 8, 0, .rc, .B⟩
/-- R276 EPORT_QDROP[7:0] RC. -/
def EPORT_QDROP_TOOLONG (p q : Nat) : Fld := ⟨(a_EPORT_QDROP p q), 0, 8, 0, .rc, .B⟩
/-- EPORT_GCLCTL: address (R273). -/
def a_EPORT_GCLCTL (p : Nat) : Nat := 0x43100100 + p * 0x1000
/-- R276 EPORT_GCLCTL[31] RW. -/
def EPORT_GCLCTL_EN (p : Nat) : Fld := ⟨(a_EPORT_GCLCTL p), 31, 1, 0, .rw, .B⟩
/-- R276 EPORT_GCLCTL[30] W1S. -/
def EPORT_GCLCTL_CHANGE (p : Nat) : Fld := ⟨(a_EPORT_GCLCTL p), 30, 1, 0, .w1s, .B⟩
/-- R276 EPORT_GCLCTL[15:8] RW. -/
def EPORT_GCLCTL_IDLE (p : Nat) : Fld := ⟨(a_EPORT_GCLCTL p), 8, 8, 0xFF, .rw, .B⟩
/-- R276 EPORT_GCLCTL[7:0] RW. -/
def EPORT_GCLCTL_LEN (p : Nat) : Fld := ⟨(a_EPORT_GCLCTL p), 0, 8, 1, .rw, .B⟩
/-- EPORT_GCLBASE: address (R273). -/
def a_EPORT_GCLBASE (p : Nat) : Nat := 0x43100108 + p * 0x1000
/-- R276 EPORT_GCLBASE[63:0] RW. -/
def EPORT_GCLBASE_BASE (p : Nat) : Fld := ⟨(a_EPORT_GCLBASE p), 0, 64, 0, .rw, .B⟩
/-- EPORT_GCLCYC: address (R273). -/
def a_EPORT_GCLCYC (p : Nat) : Nat := 0x43100110 + p * 0x1000
/-- R276 EPORT_GCLCYC[31:0] RW. -/
def EPORT_GCLCYC_CYC (p : Nat) : Fld := ⟨(a_EPORT_GCLCYC p), 0, 32, 0, .rw, .B⟩
/-- EPORT_GCLSTAT: address (R273). -/
def a_EPORT_GCLSTAT (p : Nat) : Nat := 0x43100114 + p * 0x1000
/-- R276 EPORT_GCLSTAT[31:24] RC. -/
def EPORT_GCLSTAT_STEPS (p : Nat) : Fld := ⟨(a_EPORT_GCLSTAT p), 24, 8, 0, .rc, .B⟩
/-- R276 EPORT_GCLSTAT[15:8] RO. -/
def EPORT_GCLSTAT_GATES (p : Nat) : Fld := ⟨(a_EPORT_GCLSTAT p), 8, 8, 0, .ro, .B⟩
/-- R276 EPORT_GCLSTAT[0] RO. -/
def EPORT_GCLSTAT_PEND (p : Nat) : Fld := ⟨(a_EPORT_GCLSTAT p), 0, 1, 0, .ro, .B⟩
/-- EPORT_RXFRM: address (R273). -/
def a_EPORT_RXFRM (p : Nat) : Nat := 0x43100200 + p * 0x1000
/-- R276 EPORT_RXFRM[31:0] RO. -/
def EPORT_RXFRM_CNT (p : Nat) : Fld := ⟨(a_EPORT_RXFRM p), 0, 32, 0, .ro, .B⟩
/-- EPORT_TXFRM: address (R273). -/
def a_EPORT_TXFRM (p : Nat) : Nat := 0x43100204 + p * 0x1000
/-- R276 EPORT_TXFRM[31:0] RO. -/
def EPORT_TXFRM_CNT (p : Nat) : Fld := ⟨(a_EPORT_TXFRM p), 0, 32, 0, .ro, .B⟩
/-- EPORT_RXOCT: address (R273). -/
def a_EPORT_RXOCT (p : Nat) : Nat := 0x43100208 + p * 0x1000
/-- R276 EPORT_RXOCT[63:0] RO. -/
def EPORT_RXOCT_CNT (p : Nat) : Fld := ⟨(a_EPORT_RXOCT p), 0, 64, 0, .ro, .B⟩
/-- EPORT_TXOCT: address (R273). -/
def a_EPORT_TXOCT (p : Nat) : Nat := 0x43100210 + p * 0x1000
/-- R276 EPORT_TXOCT[63:0] RO. -/
def EPORT_TXOCT_CNT (p : Nat) : Fld := ⟨(a_EPORT_TXOCT p), 0, 64, 0, .ro, .B⟩
/-- EPORT_RXBAD: address (R273). -/
def a_EPORT_RXBAD (p : Nat) : Nat := 0x43100218 + p * 0x1000
/-- R276 EPORT_RXBAD[31:0] RO. -/
def EPORT_RXBAD_CNT (p : Nat) : Fld := ⟨(a_EPORT_RXBAD p), 0, 32, 0, .ro, .B⟩
/-- EPORT_MSCFG: address (R273). -/
def a_EPORT_MSCFG (p : Nat) : Nat := 0x43100300 + p * 0x1000
/-- R276 EPORT_MSCFG[31] RW. -/
def EPORT_MSCFG_EN (p : Nat) : Fld := ⟨(a_EPORT_MSCFG p), 31, 1, 0, .rw, .B⟩
/-- R276 EPORT_MSCFG[30] RW. -/
def EPORT_MSCFG_PTPCLR (p : Nat) : Fld := ⟨(a_EPORT_MSCFG p), 30, 1, 1, .rw, .B⟩
/-- R276 EPORT_MSCFG[29] RW. -/
def EPORT_MSCFG_SCIINC (p : Nat) : Fld := ⟨(a_EPORT_MSCFG p), 29, 1, 1, .rw, .B⟩
/-- R276 EPORT_MSCFG[27:26] RW. -/
def EPORT_MSCFG_VALIDATE (p : Nat) : Fld := ⟨(a_EPORT_MSCFG p), 26, 2, 2, .rw, .B⟩
/-- R276 EPORT_MSCFG[25:24] RW. -/
def EPORT_MSCFG_CS (p : Nat) : Fld := ⟨(a_EPORT_MSCFG p), 24, 2, 0, .rw, .B⟩
/-- R276 EPORT_MSCFG[23:22] RW. -/
def EPORT_MSCFG_COFS (p : Nat) : Fld := ⟨(a_EPORT_MSCFG p), 22, 2, 1, .rw, .B⟩
/-- R276 EPORT_MSCFG[21:20] RW. -/
def EPORT_MSCFG_TXAN (p : Nat) : Fld := ⟨(a_EPORT_MSCFG p), 20, 2, 0, .rw, .B⟩
/-- R276 EPORT_MSCFG[15:0] RW. -/
def EPORT_MSCFG_RPWIN (p : Nat) : Fld := ⟨(a_EPORT_MSCFG p), 0, 16, 0, .rw, .B⟩
/-- EPORT_MSTXSCI: address (R273). -/
def a_EPORT_MSTXSCI (p : Nat) : Nat := 0x43100308 + p * 0x1000
/-- R276 EPORT_MSTXSCI[63:0] RW. -/
def EPORT_MSTXSCI_SCI (p : Nat) : Fld := ⟨(a_EPORT_MSTXSCI p), 0, 64, 0, .rw, .B⟩
/-- EPORT_MSSTAT: address (R273). -/
def a_EPORT_MSSTAT (p : Nat) : Nat := 0x43100350 + p * 0x1000
/-- R276 EPORT_MSSTAT[31:24] RC. -/
def EPORT_MSSTAT_NOSA (p : Nat) : Fld := ⟨(a_EPORT_MSSTAT p), 24, 8, 0, .rc, .B⟩
/-- R276 EPORT_MSSTAT[23:16] RC. -/
def EPORT_MSSTAT_BADTAG (p : Nat) : Fld := ⟨(a_EPORT_MSSTAT p), 16, 8, 0, .rc, .B⟩
/-- R276 EPORT_MSSTAT[15:8] RC. -/
def EPORT_MSSTAT_NOTVALID (p : Nat) : Fld := ⟨(a_EPORT_MSSTAT p), 8, 8, 0, .rc, .B⟩
/-- R276 EPORT_MSSTAT[7:0] RC. -/
def EPORT_MSSTAT_LATE (p : Nat) : Fld := ⟨(a_EPORT_MSSTAT p), 0, 8, 0, .rc, .B⟩
/-- EPORT_MSRXSCI: address (R273). -/
def a_EPORT_MSRXSCI (p c : Nat) : Nat := 0x43100310 + p * 0x1000 + c * 8
/-- R276 EPORT_MSRXSCI[63:0] RW. -/
def EPORT_MSRXSCI_SCI (p c : Nat) : Fld := ⟨(a_EPORT_MSRXSCI p c), 0, 64, 0, .rw, .B⟩
/-- EPORT_MSSA: address (R273). -/
def a_EPORT_MSSA (p s : Nat) : Nat := 0x43100400 + p * 0x1000 + s * 0x40
/-- R276 EPORT_MSSA[31] RW. -/
def EPORT_MSSA_EN (p s : Nat) : Fld := ⟨(a_EPORT_MSSA p s), 31, 1, 0, .rw, .B⟩
/-- R276 EPORT_MSSA[30] RO. -/
def EPORT_MSSA_EXH (p s : Nat) : Fld := ⟨(a_EPORT_MSSA p s), 30, 1, 0, .ro, .B⟩
/-- EPORT_MSPN: address (R273). -/
def a_EPORT_MSPN (p s : Nat) : Nat := 0x43100408 + p * 0x1000 + s * 0x40
/-- R276 EPORT_MSPN[63:0] HU. -/
def EPORT_MSPN_PN (p s : Nat) : Fld := ⟨(a_EPORT_MSPN p s), 0, 64, 1, .hu, .B⟩
/-- EPORT_MSSSCI: address (R273). -/
def a_EPORT_MSSSCI (p s : Nat) : Nat := 0x43100410 + p * 0x1000 + s * 0x40
/-- R276 EPORT_MSSSCI[31:0] RW. -/
def EPORT_MSSSCI_SSCI (p s : Nat) : Fld := ⟨(a_EPORT_MSSSCI p s), 0, 32, 0, .rw, .B⟩
/-- EPORT_MSSALT0: address (R273). -/
def a_EPORT_MSSALT0 (p s : Nat) : Nat := 0x43100414 + p * 0x1000 + s * 0x40
/-- R276 EPORT_MSSALT0[31:0] WO. -/
def EPORT_MSSALT0_W (p s : Nat) : Fld := ⟨(a_EPORT_MSSALT0 p s), 0, 32, 0, .wk, .B⟩
/-- EPORT_MSSALT1: address (R273). -/
def a_EPORT_MSSALT1 (p s : Nat) : Nat := 0x43100418 + p * 0x1000 + s * 0x40
/-- R276 EPORT_MSSALT1[31:0] WO. -/
def EPORT_MSSALT1_W (p s : Nat) : Fld := ⟨(a_EPORT_MSSALT1 p s), 0, 32, 0, .wk, .B⟩
/-- EPORT_MSSALT2: address (R273). -/
def a_EPORT_MSSALT2 (p s : Nat) : Nat := 0x4310041C + p * 0x1000 + s * 0x40
/-- R276 EPORT_MSSALT2[31:0] WO. -/
def EPORT_MSSALT2_W (p s : Nat) : Fld := ⟨(a_EPORT_MSSALT2 p s), 0, 32, 0, .wk, .B⟩
/-- EPORT_MSKEY0: address (R273). -/
def a_EPORT_MSKEY0 (p s : Nat) : Nat := 0x43100420 + p * 0x1000 + s * 0x40
/-- R276 EPORT_MSKEY0[31:0] WO. -/
def EPORT_MSKEY0_W (p s : Nat) : Fld := ⟨(a_EPORT_MSKEY0 p s), 0, 32, 0, .wk, .B⟩
/-- EPORT_MSKEY1: address (R273). -/
def a_EPORT_MSKEY1 (p s : Nat) : Nat := 0x43100424 + p * 0x1000 + s * 0x40
/-- R276 EPORT_MSKEY1[31:0] WO. -/
def EPORT_MSKEY1_W (p s : Nat) : Fld := ⟨(a_EPORT_MSKEY1 p s), 0, 32, 0, .wk, .B⟩
/-- EPORT_MSKEY2: address (R273). -/
def a_EPORT_MSKEY2 (p s : Nat) : Nat := 0x43100428 + p * 0x1000 + s * 0x40
/-- R276 EPORT_MSKEY2[31:0] WO. -/
def EPORT_MSKEY2_W (p s : Nat) : Fld := ⟨(a_EPORT_MSKEY2 p s), 0, 32, 0, .wk, .B⟩
/-- EPORT_MSKEY3: address (R273). -/
def a_EPORT_MSKEY3 (p s : Nat) : Nat := 0x4310042C + p * 0x1000 + s * 0x40
/-- R276 EPORT_MSKEY3[31:0] WO. -/
def EPORT_MSKEY3_W (p s : Nat) : Fld := ⟨(a_EPORT_MSKEY3 p s), 0, 32, 0, .wk, .B⟩
/-- EPORT_MSKEY4: address (R273). -/
def a_EPORT_MSKEY4 (p s : Nat) : Nat := 0x43100430 + p * 0x1000 + s * 0x40
/-- R276 EPORT_MSKEY4[31:0] WO. -/
def EPORT_MSKEY4_W (p s : Nat) : Fld := ⟨(a_EPORT_MSKEY4 p s), 0, 32, 0, .wk, .B⟩
/-- EPORT_MSKEY5: address (R273). -/
def a_EPORT_MSKEY5 (p s : Nat) : Nat := 0x43100434 + p * 0x1000 + s * 0x40
/-- R276 EPORT_MSKEY5[31:0] WO. -/
def EPORT_MSKEY5_W (p s : Nat) : Fld := ⟨(a_EPORT_MSKEY5 p s), 0, 32, 0, .wk, .B⟩
/-- EPORT_MSKEY6: address (R273). -/
def a_EPORT_MSKEY6 (p s : Nat) : Nat := 0x43100438 + p * 0x1000 + s * 0x40
/-- R276 EPORT_MSKEY6[31:0] WO. -/
def EPORT_MSKEY6_W (p s : Nat) : Fld := ⟨(a_EPORT_MSKEY6 p s), 0, 32, 0, .wk, .B⟩
/-- EPORT_MSKEY7: address (R273). -/
def a_EPORT_MSKEY7 (p s : Nat) : Nat := 0x4310043C + p * 0x1000 + s * 0x40
/-- R276 EPORT_MSKEY7[31:0] WO. -/
def EPORT_MSKEY7_W (p s : Nat) : Fld := ⟨(a_EPORT_MSKEY7 p s), 0, 32, 0, .wk, .B⟩
/-- EPORT_GCL: address (R273). -/
def a_EPORT_GCL (p e : Nat) : Nat := 0x43100E00 + p * 0x1000 + e * 4
/-- R276 EPORT_GCL[31:24] RW. -/
def EPORT_GCL_GATES (p e : Nat) : Fld := ⟨(a_EPORT_GCL p e), 24, 8, 0, .rw, .B⟩
/-- R276 EPORT_GCL[23:0] RW. -/
def EPORT_GCL_INTERVAL (p e : Nat) : Fld := ⟨(a_EPORT_GCL p e), 0, 24, 0, .rw, .B⟩

/-- The registers of this file with their extents, for the decode of an address (R585, R586, R601). -/
def regTableRegEth0 : List RegDef :=
  [⟨.esw, 0x43000000, 1, 0x0, 1, 0x0, 4, fun _ _ => [ESW_CTL_EN, ESW_CTL_Q7RES]⟩,
   ⟨.esw, 0x43000004, 1, 0x0, 1, 0x0, 4, fun _ _ => [ESW_BUFSTAT_FREE, ESW_BUFSTAT_MINFREE]⟩,
   ⟨.esw, 0x43000008, 1, 0x0, 1, 0x0, 4, fun _ _ => [ESW_DROP_AGE, ESW_DROP_FLUSH, ESW_DROP_RED, ESW_DROP_NOBUF]⟩,
   ⟨.esw, 0x43000010, 1, 0x0, 1, 0x0, 4, fun _ _ => [ESW_FDBCFG_AGETIME]⟩,
   ⟨.esw, 0x43000014, 1, 0x0, 1, 0x0, 4, fun _ _ => [ESW_FDBCMD_GO, ESW_FDBCMD_ERR, ESW_FDBCMD_ERRC, ESW_FDBCMD_OP]⟩,
   ⟨.esw, 0x43000018, 1, 0x0, 1, 0x0, 8, fun _ _ => [ESW_FDBKEY_VID, ESW_FDBKEY_MAC]⟩,
   ⟨.esw, 0x43000020, 1, 0x0, 1, 0x0, 4, fun _ _ => [ESW_FDBDATA_VALID, ESW_FDBDATA_STATIC, ESW_FDBDATA_DROP, ESW_FDBDATA_PIN, ESW_FDBDATA_PG, ESW_FDBDATA_AGE, ESW_FDBDATA_PORTS]⟩,
   ⟨.esw, 0x43000024, 1, 0x0, 1, 0x0, 4, fun _ _ => [ESW_FDBSTAT_LRNFAIL, ESW_FDBSTAT_MOVES, ESW_FDBSTAT_USED]⟩,
   ⟨.esw, 0x43000040, 1, 0x0, 1, 0x0, 4, fun _ _ => [ESW_SAMPCTL_EN, ESW_SAMPCTL_MODE, ESW_SAMPCTL_SIZE]⟩,
   ⟨.esw, 0x43000044, 1, 0x0, 1, 0x0, 4, fun _ _ => [ESW_SAMPSTAT_WRAPPED, ESW_SAMPSTAT_LOST]⟩,
   ⟨.esw, 0x43000048, 1, 0x0, 1, 0x0, 8, fun _ _ => [ESW_SAMPBASE_BASE]⟩,
   ⟨.esw, 0x43000050, 1, 0x0, 1, 0x0, 4, fun _ _ => [ESW_SAMPWR_WR]⟩,
   ⟨.esw, 0x43000054, 1, 0x0, 1, 0x0, 4, fun _ _ => [ESW_SAMPRD_RD]⟩,
   ⟨.esw, 0x43000080, 4, 0x10, 1, 0x0, 4, fun i _ => [ESW_PINCFG_EN i, ESW_PINCFG_REVERT i, ESW_PINCFG_PORTB i, ESW_PINCFG_PORTA i]⟩,
   ⟨.esw, 0x43000084, 4, 0x10, 1, 0x0, 4, fun i _ => [ESW_PINHASH_SEED i, ESW_PINHASH_FIELDS i]⟩,
   ⟨.esw, 0x43000088, 4, 0x10, 1, 0x0, 4, fun i _ => [ESW_PINSTAT_FAILOVERS i, ESW_PINSTAT_REVPEND i, ESW_PINSTAT_PATHS i]⟩]
def regTableRegEth1 : List RegDef :=
  [⟨.esw, 0x43000100, 8, 0x10, 3, 0x4, 4, fun i j => [ESW_RED_PMAX i j, ESW_RED_MAX i j, ESW_RED_MIN i j]⟩,
   ⟨.esw, 0x43008000, 4096, 0x8, 1, 0x0, 4, fun i _ => [ESW_VLANM_LEARN i, ESW_VLANM_MEMBER i]⟩,
   ⟨.esw, 0x43008004, 4096, 0x8, 1, 0x0, 4, fun i _ => [ESW_VLANU_UNTAG i]⟩,
   ⟨.esw, 0x43010000, 16384, 0x10, 1, 0x0, 8, fun i _ => [ESW_FDBWINKEY_VID i, ESW_FDBWINKEY_MAC i]⟩,
   ⟨.esw, 0x43010008, 16384, 0x10, 1, 0x0, 4, fun i _ => [ESW_FDBWINDATA_VALID i, ESW_FDBWINDATA_STATIC i, ESW_FDBWINDATA_DROP i, ESW_FDBWINDATA_PIN i, ESW_FDBWINDATA_PG i, ESW_FDBWINDATA_AGE i, ESW_FDBWINDATA_PORTS i]⟩,
   ⟨.esw, 0x43050000, 2048, 0x10, 1, 0x0, 8, fun i _ => [ESW_SFKEY_EN i, ESW_SFKEY_TYPE i, ESW_SFKEY_VID i, ESW_SFKEY_MAC i]⟩,
   ⟨.esw, 0x43050008, 2048, 0x10, 1, 0x0, 4, fun i _ => [ESW_SFCTL_PORT i, ESW_SFCTL_OVBLK i, ESW_SFCTL_BLOCKED i, ESW_SFCTL_SGEN i, ESW_SFCTL_SG i, ESW_SFCTL_MTREN i, ESW_SFCTL_MTR i]⟩,
   ⟨.esw, 0x4305000C, 2048, 0x10, 1, 0x0, 4, fun i _ => [ESW_SFCTL2_FREN i, ESW_SFCTL2_FR i, ESW_SFCTL2_MAXSDU i]⟩,
   ⟨.esw, 0x43058000, 2048, 0x4, 1, 0x0, 4, fun i _ => [ESW_SFCNT_DROP i, ESW_SFCNT_MATCH i]⟩,
   ⟨.esw, 0x43060000, 1024, 0x10, 1, 0x0, 4, fun i _ => [ESW_MTRCIR_CA i, ESW_MTRCIR_CF i, ESW_MTRCIR_DROPY i, ESW_MTRCIR_DROPR i, ESW_MTRCIR_CIR i]⟩,
   ⟨.esw, 0x43060004, 1024, 0x10, 1, 0x0, 4, fun i _ => [ESW_MTREIR_EIR i]⟩,
   ⟨.esw, 0x43060008, 1024, 0x10, 1, 0x0, 4, fun i _ => [ESW_MTRBS_EBS i, ESW_MTRBS_CBS i]⟩,
   ⟨.esw, 0x4306000C, 1024, 0x10, 1, 0x0, 4, fun i _ => [ESW_MTRCNT_RED i, ESW_MTRCNT_YELLOW i]⟩,
   ⟨.esw, 0x43064000, 64, 0x100, 1, 0x0, 4, fun i _ => [ESW_SGCTL_EN i, ESW_SGCTL_CHANGE i, ESW_SGCTL_CLOSEINV i, ESW_SGCTL_LEN i]⟩,
   ⟨.esw, 0x43064008, 64, 0x100, 1, 0x0, 8, fun i _ => [ESW_SGBASE_BASE i]⟩,
   ⟨.esw, 0x43064010, 64, 0x100, 1, 0x0, 4, fun i _ => [ESW_SGCYC_CYC i]⟩]
def regTableRegEth2 : List RegDef :=
  [⟨.esw, 0x43064014, 64, 0x100, 1, 0x0, 4, fun i _ => [ESW_SGSTAT_CLOSED i, ESW_SGSTAT_INVRX i, ESW_SGSTAT_PEND i]⟩,
   ⟨.esw, 0x43064080, 64, 0x100, 32, 0x4, 4, fun i j => [ESW_SGL_OPEN i j, ESW_SGL_IPV i j, ESW_SGL_IPVEN i j, ESW_SGL_INTERVAL i j]⟩,
   ⟨.esw, 0x43068000, 512, 0x10, 1, 0x0, 4, fun i _ => [ESW_FRCTL_EN i, ESW_FRCTL_GEN i, ESW_FRCTL_HIST i, ESW_FRCTL_RESETMS i]⟩,
   ⟨.esw, 0x43068004, 512, 0x10, 1, 0x0, 4, fun i _ => [ESW_FRSTAT_ROGUE i, ESW_FRSTAT_SEQ i]⟩,
   ⟨.esw, 0x43068008, 512, 0x10, 1, 0x0, 4, fun i _ => [ESW_FRDUP_DUP i]⟩,
   ⟨.eport, 0x43100000, 22, 0x1000, 1, 0x0, 4, fun i _ => [EPORT_CFG_EN i, EPORT_CFG_LEARN i, EPORT_CFG_INGFILT i, EPORT_CFG_DEICOL i, EPORT_CFG_DEIMARK i, EPORT_CFG_PPRI i, EPORT_CFG_PVID i]⟩,
   ⟨.eport, 0x43100004, 22, 0x1000, 1, 0x0, 4, fun i _ => [EPORT_STAT_STATE i, EPORT_STAT_FLAPS i, EPORT_STAT_SPEED i]⟩,
   ⟨.eport, 0x43100008, 22, 0x1000, 1, 0x0, 4, fun i _ => [EPORT_PHYCFG_PHYEN i, EPORT_PHYCFG_MS i, EPORT_PHYCFG_LPBK i, EPORT_PHYCFG_RATE i]⟩,
   ⟨.eport, 0x4310000C, 22, 0x1000, 1, 0x0, 4, fun i _ => [EPORT_PHYSTAT_LINK i, EPORT_PHYSTAT_LOCK i, EPORT_PHYSTAT_SQI i, EPORT_PHYSTAT_SYMERR i]⟩,
   ⟨.eport, 0x43100010, 22, 0x1000, 1, 0x0, 4, fun i _ => [EPORT_HOLD_HOLD i]⟩,
   ⟨.eport, 0x43100014, 22, 0x1000, 1, 0x0, 4, fun i _ => [EPORT_TSLAT_TX i, EPORT_TSLAT_RX i]⟩,
   ⟨.eport, 0x43100018, 22, 0x1000, 1, 0x0, 4, fun i _ => [EPORT_SAMP_EN i, EPORT_SAMP_RAND i, EPORT_SAMP_WHERE i, EPORT_SAMP_NM1 i]⟩,
   ⟨.eport, 0x4310001C, 22, 0x1000, 1, 0x0, 4, fun i _ => [EPORT_PCPMAP_MAP i]⟩,
   ⟨.eport, 0x43100020, 22, 0x1000, 1, 0x0, 4, fun i _ => [EPORT_DROP_DOWN i, EPORT_DROP_VLAN i, EPORT_DROP_LEN i, EPORT_DROP_FCS i]⟩,
   ⟨.eport, 0x43100024, 22, 0x1000, 1, 0x0, 4, fun i _ => [EPORT_PLCA_EN i, EPORT_PLCA_NODEID i, EPORT_PLCA_NCNT i, EPORT_PLCA_TO i]⟩,
   ⟨.eport, 0x43100028, 22, 0x1000, 1, 0x0, 4, fun i _ => [EPORT_MAXLEN_MAXLEN i]⟩]
def regTableRegEth3 : List RegDef :=
  [⟨.eport, 0x43100040, 22, 0x1000, 8, 0x10, 4, fun i j => [EPORT_Q_REDP i j, EPORT_Q_REDEN i j, EPORT_Q_QLIM i j, EPORT_Q_UNIT i j, EPORT_Q_AGE i j]⟩,
   ⟨.eport, 0x43100044, 22, 0x1000, 8, 0x10, 4, fun i j => [EPORT_QCBS_EN i j, EPORT_QCBS_IDLESLOPE i j]⟩,
   ⟨.eport, 0x43100048, 22, 0x1000, 8, 0x10, 4, fun i j => [EPORT_QSTAT_OCC i j, EPORT_QSTAT_MAXOCC i j]⟩,
   ⟨.eport, 0x4310004C, 22, 0x1000, 8, 0x10, 4, fun i j => [EPORT_QDROP_AGE i j, EPORT_QDROP_FLUSH i j, EPORT_QDROP_ADMIT i j, EPORT_QDROP_TOOLONG i j]⟩,
   ⟨.eport, 0x43100100, 22, 0x1000, 1, 0x0, 4, fun i _ => [EPORT_GCLCTL_EN i, EPORT_GCLCTL_CHANGE i, EPORT_GCLCTL_IDLE i, EPORT_GCLCTL_LEN i]⟩,
   ⟨.eport, 0x43100108, 22, 0x1000, 1, 0x0, 8, fun i _ => [EPORT_GCLBASE_BASE i]⟩,
   ⟨.eport, 0x43100110, 22, 0x1000, 1, 0x0, 4, fun i _ => [EPORT_GCLCYC_CYC i]⟩,
   ⟨.eport, 0x43100114, 22, 0x1000, 1, 0x0, 4, fun i _ => [EPORT_GCLSTAT_STEPS i, EPORT_GCLSTAT_GATES i, EPORT_GCLSTAT_PEND i]⟩,
   ⟨.eport, 0x43100200, 22, 0x1000, 1, 0x0, 4, fun i _ => [EPORT_RXFRM_CNT i]⟩,
   ⟨.eport, 0x43100204, 22, 0x1000, 1, 0x0, 4, fun i _ => [EPORT_TXFRM_CNT i]⟩,
   ⟨.eport, 0x43100208, 22, 0x1000, 1, 0x0, 8, fun i _ => [EPORT_RXOCT_CNT i]⟩,
   ⟨.eport, 0x43100210, 22, 0x1000, 1, 0x0, 8, fun i _ => [EPORT_TXOCT_CNT i]⟩,
   ⟨.eport, 0x43100218, 22, 0x1000, 1, 0x0, 4, fun i _ => [EPORT_RXBAD_CNT i]⟩,
   ⟨.eport, 0x43100300, 22, 0x1000, 1, 0x0, 4, fun i _ => [EPORT_MSCFG_EN i, EPORT_MSCFG_PTPCLR i, EPORT_MSCFG_SCIINC i, EPORT_MSCFG_VALIDATE i, EPORT_MSCFG_CS i, EPORT_MSCFG_COFS i, EPORT_MSCFG_TXAN i, EPORT_MSCFG_RPWIN i]⟩,
   ⟨.eport, 0x43100308, 22, 0x1000, 1, 0x0, 8, fun i _ => [EPORT_MSTXSCI_SCI i]⟩,
   ⟨.eport, 0x43100350, 22, 0x1000, 1, 0x0, 4, fun i _ => [EPORT_MSSTAT_NOSA i, EPORT_MSSTAT_BADTAG i, EPORT_MSSTAT_NOTVALID i, EPORT_MSSTAT_LATE i]⟩]
def regTableRegEth4 : List RegDef :=
  [⟨.eport, 0x43100310, 22, 0x1000, 8, 0x8, 8, fun i j => [EPORT_MSRXSCI_SCI i j]⟩,
   ⟨.eport, 0x43100400, 22, 0x1000, 36, 0x40, 4, fun i j => [EPORT_MSSA_EN i j, EPORT_MSSA_EXH i j]⟩,
   ⟨.eport, 0x43100408, 22, 0x1000, 36, 0x40, 8, fun i j => [EPORT_MSPN_PN i j]⟩,
   ⟨.eport, 0x43100410, 22, 0x1000, 36, 0x40, 4, fun i j => [EPORT_MSSSCI_SSCI i j]⟩,
   ⟨.eport, 0x43100414, 22, 0x1000, 36, 0x40, 4, fun i j => [EPORT_MSSALT0_W i j]⟩,
   ⟨.eport, 0x43100418, 22, 0x1000, 36, 0x40, 4, fun i j => [EPORT_MSSALT1_W i j]⟩,
   ⟨.eport, 0x4310041C, 22, 0x1000, 36, 0x40, 4, fun i j => [EPORT_MSSALT2_W i j]⟩,
   ⟨.eport, 0x43100420, 22, 0x1000, 36, 0x40, 4, fun i j => [EPORT_MSKEY0_W i j]⟩,
   ⟨.eport, 0x43100424, 22, 0x1000, 36, 0x40, 4, fun i j => [EPORT_MSKEY1_W i j]⟩,
   ⟨.eport, 0x43100428, 22, 0x1000, 36, 0x40, 4, fun i j => [EPORT_MSKEY2_W i j]⟩,
   ⟨.eport, 0x4310042C, 22, 0x1000, 36, 0x40, 4, fun i j => [EPORT_MSKEY3_W i j]⟩,
   ⟨.eport, 0x43100430, 22, 0x1000, 36, 0x40, 4, fun i j => [EPORT_MSKEY4_W i j]⟩,
   ⟨.eport, 0x43100434, 22, 0x1000, 36, 0x40, 4, fun i j => [EPORT_MSKEY5_W i j]⟩,
   ⟨.eport, 0x43100438, 22, 0x1000, 36, 0x40, 4, fun i j => [EPORT_MSKEY6_W i j]⟩,
   ⟨.eport, 0x4310043C, 22, 0x1000, 36, 0x40, 4, fun i j => [EPORT_MSKEY7_W i j]⟩,
   ⟨.eport, 0x43100E00, 22, 0x1000, 128, 0x4, 4, fun i j => [EPORT_GCL_GATES i j, EPORT_GCL_INTERVAL i j]⟩]
def regTableRegEth : List RegDef :=
  regTableRegEth0 ++ regTableRegEth1 ++ regTableRegEth2 ++ regTableRegEth3 ++ regTableRegEth4

end Sys2Proof.Machine
end

