-- ==== Sys2Proof/Machine/RegGate.lean ====
section
/-! DEFINITION. The fields of the GW and PCIE registers, one definition per field: its address, place, width,
reset value, access code and reset kind, from the layout and address tables of spec/ (R367, R369). -/

namespace Sys2Proof.Machine

/-- GW_CTL: address (R367). -/
def a_GW_CTL : Nat := 0x45000000
/-- R368 GW_CTL[31] RW. -/
def GW_CTL_EN : Fld := ⟨a_GW_CTL, 31, 1, 0, .rw, .B⟩
/-- GW_FENCE: address (R367). -/
def a_GW_FENCE : Nat := 0x45000004
/-- R368 GW_FENCE[31] W1S. -/
def GW_FENCE_GO : Fld := ⟨a_GW_FENCE, 31, 1, 0, .w1s, .B⟩
/-- GW_ERR: address (R367). -/
def a_GW_ERR : Nat := 0x45000008
/-- R368 GW_ERR[31:24] RC. -/
def GW_ERR_NOMATCH : Fld := ⟨a_GW_ERR, 24, 8, 0, .rc, .B⟩
/-- R368 GW_ERR[23:16] RC. -/
def GW_ERR_OOR : Fld := ⟨a_GW_ERR, 16, 8, 0, .rc, .B⟩
/-- R368 GW_ERR[15:8] RC. -/
def GW_ERR_BADFRM : Fld := ⟨a_GW_ERR, 8, 8, 0, .rc, .B⟩
/-- R368 GW_ERR[7:0] RC. -/
def GW_ERR_SHORT : Fld := ⟨a_GW_ERR, 0, 8, 0, .rc, .B⟩
/-- GW_OPS: address (R367). -/
def a_GW_OPS : Nat := 0x4500000C
/-- R368 GW_OPS[31:0] RO. -/
def GW_OPS_CNT : Fld := ⟨a_GW_OPS, 0, 32, 0, .ro, .B⟩
/-- GW_MAC: address (R367). -/
def a_GW_MAC : Nat := 0x45000010
/-- R368 GW_MAC[47:0] RW. -/
def GW_MAC_MAC : Fld := ⟨a_GW_MAC, 0, 48, 0, .rw, .cfg⟩
/-- GW_IPV4: address (R367). -/
def a_GW_IPV4 : Nat := 0x45000018
/-- R368 GW_IPV4[31:0] RW. -/
def GW_IPV4_ADDR : Fld := ⟨a_GW_IPV4, 0, 32, 0, .rw, .cfg⟩
/-- GW_CSTAT: address (R367). -/
def a_GW_CSTAT (c : Nat) : Nat := 0x45000020 + c * 4
/-- R368 GW_CSTAT[31:24] RC. -/
def GW_CSTAT_RXDROP (c : Nat) : Fld := ⟨(a_GW_CSTAT c), 24, 8, 0, .rc, .B⟩
/-- R368 GW_CSTAT[15:8] RO. -/
def GW_CSTAT_PDUS (c : Nat) : Fld := ⟨(a_GW_CSTAT c), 8, 8, 0, .ro, .B⟩
/-- R368 GW_CSTAT[7:0] HU. -/
def GW_CSTAT_MAXPDUS (c : Nat) : Fld := ⟨(a_GW_CSTAT c), 0, 8, 0, .hu, .B⟩
/-- GW_EHDA: address (R367). -/
def a_GW_EHDA (h : Nat) : Nat := 0x45002000 + h * 0x20
/-- R368 GW_EHDA[63:61] RW. -/
def GW_EHDA_PCP (h : Nat) : Fld := ⟨(a_GW_EHDA h), 61, 3, 0, .rw, .C⟩
/-- R368 GW_EHDA[60] RW. -/
def GW_EHDA_TAG (h : Nat) : Fld := ⟨(a_GW_EHDA h), 60, 1, 0, .rw, .C⟩
/-- R368 GW_EHDA[59:48] RW. -/
def GW_EHDA_VID (h : Nat) : Fld := ⟨(a_GW_EHDA h), 48, 12, 0, .rw, .C⟩
/-- R368 GW_EHDA[47:0] RW. -/
def GW_EHDA_DA (h : Nat) : Fld := ⟨(a_GW_EHDA h), 0, 48, 0, .rw, .C⟩
/-- GW_EHID: address (R367). -/
def a_GW_EHID (h : Nat) : Nat := 0x45002008 + h * 0x20
/-- R368 GW_EHID[63:0] RW. -/
def GW_EHID_ID (h : Nat) : Fld := ⟨(a_GW_EHID h), 0, 64, 0, .rw, .C⟩
/-- GW_EHCTL: address (R367). -/
def a_GW_EHCTL (h : Nat) : Nat := 0x45002010 + h * 0x20
/-- R368 GW_EHCTL[31] RW. -/
def GW_EHCTL_EN (h : Nat) : Fld := ⟨(a_GW_EHCTL h), 31, 1, 0, .rw, .C⟩
/-- R368 GW_EHCTL[30:29] RW. -/
def GW_EHCTL_FMT (h : Nat) : Fld := ⟨(a_GW_EHCTL h), 29, 2, 0, .rw, .C⟩
/-- R368 GW_EHCTL[27:0] RW. -/
def GW_EHCTL_TSOFS (h : Nat) : Fld := ⟨(a_GW_EHCTL h), 0, 28, 0, .rw, .C⟩
/-- GW_EHSTAT: address (R367). -/
def a_GW_EHSTAT (h : Nat) : Nat := 0x45002014 + h * 0x20
/-- R368 GW_EHSTAT[7:0] RO. -/
def GW_EHSTAT_SEQ (h : Nat) : Fld := ⟨(a_GW_EHSTAT h), 0, 8, 0, .ro, .B⟩
/-- GW_LCTL: address (R367). -/
def a_GW_LCTL (l : Nat) : Nat := 0x45010000 + l * 0x20
/-- R368 GW_LCTL[31] RW. -/
def GW_LCTL_EN (l : Nat) : Fld := ⟨(a_GW_LCTL l), 31, 1, 0, .rw, .C⟩
/-- R368 GW_LCTL[30] RW. -/
def GW_LCTL_DIR (l : Nat) : Fld := ⟨(a_GW_LCTL l), 30, 1, 0, .rw, .C⟩
/-- R368 GW_LCTL[29:27] RW. -/
def GW_LCTL_KIND (l : Nat) : Fld := ⟨(a_GW_LCTL l), 27, 3, 0, .rw, .C⟩
/-- R368 GW_LCTL[26:25] RW. -/
def GW_LCTL_CLASS (l : Nat) : Fld := ⟨(a_GW_LCTL l), 25, 2, 0, .rw, .C⟩
/-- R368 GW_LCTL[24] RW. -/
def GW_LCTL_FWDEN (l : Nat) : Fld := ⟨(a_GW_LCTL l), 24, 1, 0, .rw, .C⟩
/-- R368 GW_LCTL[23:12] RW. -/
def GW_LCTL_FWDL (l : Nat) : Fld := ⟨(a_GW_LCTL l), 12, 12, 0, .rw, .C⟩
/-- R368 GW_LCTL[11:0] RW. -/
def GW_LCTL_LEN (l : Nat) : Fld := ⟨(a_GW_LCTL l), 0, 12, 0, .rw, .C⟩
/-- GW_LSRC: address (R367). -/
def a_GW_LSRC (l : Nat) : Nat := 0x45010004 + l * 0x20
/-- R368 GW_LSRC[31:28] RW. -/
def GW_LSRC_CH (l : Nat) : Fld := ⟨(a_GW_LSRC l), 28, 4, 0, .rw, .C⟩
/-- R368 GW_LSRC[27:21] RW. -/
def GW_LSRC_OBJ (l : Nat) : Fld := ⟨(a_GW_LSRC l), 21, 7, 0, .rw, .C⟩
/-- R368 GW_LSRC[20:15] RW. -/
def GW_LSRC_LID (l : Nat) : Fld := ⟨(a_GW_LSRC l), 15, 6, 0, .rw, .C⟩
/-- R368 GW_LSRC[14:7] RW. -/
def GW_LSRC_HDR (l : Nat) : Fld := ⟨(a_GW_LSRC l), 7, 8, 0, .rw, .C⟩
/-- R368 GW_LSRC[6:0] RW. -/
def GW_LSRC_ACFT (l : Nat) : Fld := ⟨(a_GW_LSRC l), 0, 7, 0, .rw, .C⟩
/-- GW_LMID: address (R367). -/
def a_GW_LMID (l : Nat) : Nat := 0x45010008 + l * 0x20
/-- R368 GW_LMID[63:59] RW. -/
def GW_LMID_BUSID (l : Nat) : Fld := ⟨(a_GW_LMID l), 59, 5, 0, .rw, .C⟩
/-- R368 GW_LMID[47:0] RW. -/
def GW_LMID_MID (l : Nat) : Fld := ⟨(a_GW_LMID l), 0, 48, 0, .rw, .C⟩
/-- GW_LTX: address (R367). -/
def a_GW_LTX (l : Nat) : Nat := 0x45010010 + l * 0x20
/-- R368 GW_LTX[31:30] RW. -/
def GW_LTX_MODE (l : Nat) : Fld := ⟨(a_GW_LTX l), 30, 2, 0, .rw, .C⟩
/-- R368 GW_LTX[29:24] RW. -/
def GW_LTX_TRIG (l : Nat) : Fld := ⟨(a_GW_LTX l), 24, 6, 0, .rw, .C⟩
/-- R368 GW_LTX[23:16] RW. -/
def GW_LTX_MINGAP (l : Nat) : Fld := ⟨(a_GW_LTX l), 16, 8, 0, .rw, .C⟩
/-- R368 GW_LTX[15:8] RW. -/
def GW_LTX_GRP (l : Nat) : Fld := ⟨(a_GW_LTX l), 8, 8, 0, .rw, .C⟩
/-- R368 GW_LTX[7] RW. -/
def GW_LTX_GLEAD (l : Nat) : Fld := ⟨(a_GW_LTX l), 7, 1, 0, .rw, .C⟩
/-- GW_LRT: address (R367). -/
def a_GW_LRT (l : Nat) : Nat := 0x45010014 + l * 0x20
/-- R368 GW_LRT[31:16] RW. -/
def GW_LRT_RFIRST (l : Nat) : Fld := ⟨(a_GW_LRT l), 16, 16, 0, .rw, .C⟩
/-- R368 GW_LRT[7:0] RW. -/
def GW_LRT_RCNT (l : Nat) : Fld := ⟨(a_GW_LRT l), 0, 8, 0, .rw, .C⟩
/-- GW_LIMG: address (R367). -/
def a_GW_LIMG (l : Nat) : Nat := 0x45010018 + l * 0x20
/-- R368 GW_LIMG[31:24] RW. -/
def GW_LIMG_FILL (l : Nat) : Fld := ⟨(a_GW_LIMG l), 24, 8, 0, .rw, .C⟩
/-- R368 GW_LIMG[12:0] RW. -/
def GW_LIMG_IMGBASE (l : Nat) : Fld := ⟨(a_GW_LIMG l), 0, 13, 0, .rw, .C⟩
/-- GW_LSTAT: address (R367). -/
def a_GW_LSTAT (l : Nat) : Nat := 0x4501001C + l * 0x20
/-- R368 GW_LSTAT[31:16] RO. -/
def GW_LSTAT_CNT (l : Nat) : Fld := ⟨(a_GW_LSTAT l), 16, 16, 0, .ro, .B⟩
/-- R368 GW_LSTAT[15] RO. -/
def GW_LSTAT_PEND (l : Nat) : Fld := ⟨(a_GW_LSTAT l), 15, 1, 0, .ro, .B⟩
/-- R368 GW_LSTAT[7:0] RC. -/
def GW_LSTAT_COAL (l : Nat) : Fld := ⟨(a_GW_LSTAT l), 0, 8, 0, .rc, .B⟩
/-- GW_CVFMT: address (R367). -/
def a_GW_CVFMT (v : Nat) : Nat := 0x45040000 + v * 0x20
/-- R368 GW_CVFMT[31:30] RW. -/
def GW_CVFMT_STYPE (v : Nat) : Fld := ⟨(a_GW_CVFMT v), 30, 2, 0, .rw, .C⟩
/-- R368 GW_CVFMT[29] RW. -/
def GW_CVFMT_SBE (v : Nat) : Fld := ⟨(a_GW_CVFMT v), 29, 1, 0, .rw, .C⟩
/-- R368 GW_CVFMT[28:24] RW. -/
def GW_CVFMT_SLEN (v : Nat) : Fld := ⟨(a_GW_CVFMT v), 24, 5, 0, .rw, .C⟩
/-- R368 GW_CVFMT[23:22] RW. -/
def GW_CVFMT_DTYPE (v : Nat) : Fld := ⟨(a_GW_CVFMT v), 22, 2, 0, .rw, .C⟩
/-- R368 GW_CVFMT[21] RW. -/
def GW_CVFMT_DBE (v : Nat) : Fld := ⟨(a_GW_CVFMT v), 21, 1, 0, .rw, .C⟩
/-- R368 GW_CVFMT[20:16] RW. -/
def GW_CVFMT_DLEN (v : Nat) : Fld := ⟨(a_GW_CVFMT v), 16, 5, 0, .rw, .C⟩
/-- R368 GW_CVFMT[15:14] RW. -/
def GW_CVFMT_OOR (v : Nat) : Fld := ⟨(a_GW_CVFMT v), 14, 2, 0, .rw, .C⟩
/-- R368 GW_CVFMT[13:12] RW. -/
def GW_CVFMT_RND (v : Nat) : Fld := ⟨(a_GW_CVFMT v), 12, 2, 0, .rw, .C⟩
/-- GW_CVFAC: address (R367). -/
def a_GW_CVFAC (v : Nat) : Nat := 0x45040004 + v * 0x20
/-- R368 GW_CVFAC[31:0] RW. -/
def GW_CVFAC_FACTOR (v : Nat) : Fld := ⟨(a_GW_CVFAC v), 0, 32, 0x3F800000, .rw, .C⟩
/-- GW_CVOFS: address (R367). -/
def a_GW_CVOFS (v : Nat) : Nat := 0x45040008 + v * 0x20
/-- R368 GW_CVOFS[31:0] RW. -/
def GW_CVOFS_OFFSET (v : Nat) : Fld := ⟨(a_GW_CVOFS v), 0, 32, 0, .rw, .C⟩
/-- GW_CVMIN: address (R367). -/
def a_GW_CVMIN (v : Nat) : Nat := 0x4504000C + v * 0x20
/-- R368 GW_CVMIN[31:0] RW. -/
def GW_CVMIN_MIN (v : Nat) : Fld := ⟨(a_GW_CVMIN v), 0, 32, 0xFF800000, .rw, .C⟩
/-- GW_CVMAX: address (R367). -/
def a_GW_CVMAX (v : Nat) : Nat := 0x45040010 + v * 0x20
/-- R368 GW_CVMAX[31:0] RW. -/
def GW_CVMAX_MAX (v : Nat) : Fld := ⟨(a_GW_CVMAX v), 0, 32, 0x7F800000, .rw, .C⟩
/-- GW_CVDEF: address (R367). -/
def a_GW_CVDEF (v : Nat) : Nat := 0x45040014 + v * 0x20
/-- R368 GW_CVDEF[31:0] RW. -/
def GW_CVDEF_DEFAULT (v : Nat) : Fld := ⟨(a_GW_CVDEF v), 0, 32, 0, .rw, .C⟩
/-- GW_RT: address (R367). -/
def a_GW_RT (r : Nat) : Nat := 0x45080000 + r * 8
/-- R368 GW_RT[63] RW. -/
def GW_RT_EN (r : Nat) : Fld := ⟨(a_GW_RT r), 63, 1, 0, .rw, .C⟩
/-- R368 GW_RT[62] RW. -/
def GW_RT_TRG (r : Nat) : Fld := ⟨(a_GW_RT r), 62, 1, 0, .rw, .C⟩
/-- R368 GW_RT[61:49] RW. -/
def GW_RT_CONV (r : Nat) : Fld := ⟨(a_GW_RT r), 49, 13, 0, .rw, .C⟩
/-- R368 GW_RT[48:37] RW. -/
def GW_RT_DSTL (r : Nat) : Fld := ⟨(a_GW_RT r), 37, 12, 0, .rw, .C⟩
/-- R368 GW_RT[36:25] RW. -/
def GW_RT_DPOS (r : Nat) : Fld := ⟨(a_GW_RT r), 25, 12, 0, .rw, .C⟩
/-- R368 GW_RT[24:13] RW. -/
def GW_RT_SPOS (r : Nat) : Fld := ⟨(a_GW_RT r), 13, 12, 0, .rw, .C⟩
/-- PCIE_CTL: address (R369). -/
def a_PCIE_CTL : Nat := 0x45100000
/-- R370 PCIE_CTL[31] RW. -/
def PCIE_CTL_EN : Fld := ⟨a_PCIE_CTL, 31, 1, 0, .rw, .cfg⟩
/-- R370 PCIE_CTL[30] RO. -/
def PCIE_CTL_MODE : Fld := ⟨a_PCIE_CTL, 30, 1, 0, .ro, .cfg⟩
/-- R370 PCIE_CTL[29:28] RW. -/
def PCIE_CTL_MAXGEN : Fld := ⟨a_PCIE_CTL, 28, 2, 3, .rw, .B⟩
/-- R370 PCIE_CTL[27:26] RW. -/
def PCIE_CTL_LANES : Fld := ⟨a_PCIE_CTL, 26, 2, 2, .rw, .B⟩
/-- R370 PCIE_CTL[25] WO. -/
def PCIE_CTL_RETRAIN : Fld := ⟨a_PCIE_CTL, 25, 1, 0, .wo, .B⟩
/-- PCIE_STAT: address (R369). -/
def a_PCIE_STAT : Nat := 0x45100004
/-- R370 PCIE_STAT[31] RO. -/
def PCIE_STAT_LINKUP : Fld := ⟨a_PCIE_STAT, 31, 1, 0, .ro, .B⟩
/-- R370 PCIE_STAT[30:28] RO. -/
def PCIE_STAT_GEN : Fld := ⟨a_PCIE_STAT, 28, 3, 0, .ro, .B⟩
/-- R370 PCIE_STAT[27:26] RO. -/
def PCIE_STAT_WIDTH : Fld := ⟨a_PCIE_STAT, 26, 2, 0, .ro, .B⟩
/-- R370 PCIE_STAT[25:20] RO. -/
def PCIE_STAT_LTSSM : Fld := ⟨a_PCIE_STAT, 20, 6, 0, .ro, .B⟩
/-- R370 PCIE_STAT[15:8] RC. -/
def PCIE_STAT_DOWNS : Fld := ⟨a_PCIE_STAT, 8, 8, 0, .rc, .B⟩
/-- R370 PCIE_STAT[7:0] RC. -/
def PCIE_STAT_RECOV : Fld := ⟨a_PCIE_STAT, 0, 8, 0, .rc, .B⟩
/-- PCIE_CFG: address (R369). -/
def a_PCIE_CFG : Nat := 0x45100008
/-- R370 PCIE_CFG[31:16] RW. -/
def PCIE_CFG_CTO : Fld := ⟨a_PCIE_CFG, 16, 16, 0x3E8, .rw, .B⟩
/-- PCIE_ERR: address (R369). -/
def a_PCIE_ERR : Nat := 0x4510000C
/-- R370 PCIE_ERR[31:24] RC. -/
def PCIE_ERR_UR : Fld := ⟨a_PCIE_ERR, 24, 8, 0, .rc, .B⟩
/-- R370 PCIE_ERR[23:16] RC. -/
def PCIE_ERR_REFUSED : Fld := ⟨a_PCIE_ERR, 16, 8, 0, .rc, .B⟩
/-- R370 PCIE_ERR[15:8] RC. -/
def PCIE_ERR_CTO : Fld := ⟨a_PCIE_ERR, 8, 8, 0, .rc, .B⟩
/-- R370 PCIE_ERR[7:0] RC. -/
def PCIE_ERR_POISON : Fld := ⟨a_PCIE_ERR, 0, 8, 0, .rc, .B⟩
/-- PCIE_VFCTL: address (R369). -/
def a_PCIE_VFCTL : Nat := 0x45100010
/-- R370 PCIE_VFCTL[31] RO. -/
def PCIE_VFCTL_VFEN : Fld := ⟨a_PCIE_VFCTL, 31, 1, 0, .ro, .B⟩
/-- R370 PCIE_VFCTL[15:8] RO. -/
def PCIE_VFCTL_NUMVF : Fld := ⟨a_PCIE_VFCTL, 8, 8, 0, .ro, .B⟩
/-- R370 PCIE_VFCTL[7:0] RO. -/
def PCIE_VFCTL_TOTALVF : Fld := ⟨a_PCIE_VFCTL, 0, 8, 0, .ro, .cfg⟩
/-- PCIE_RPBUS: address (R369). -/
def a_PCIE_RPBUS : Nat := 0x45100014
/-- R370 PCIE_RPBUS[15:8] RW. -/
def PCIE_RPBUS_SUB : Fld := ⟨a_PCIE_RPBUS, 8, 8, 0, .rw, .B⟩
/-- R370 PCIE_RPBUS[7:0] RW. -/
def PCIE_RPBUS_SEC : Fld := ⟨a_PCIE_RPBUS, 0, 8, 0, .rw, .B⟩
/-- PCIE_PFIRQ: address (R369). -/
def a_PCIE_PFIRQ : Nat := 0x45100018
/-- R370 PCIE_PFIRQ[31:0] WO. -/
def PCIE_PFIRQ_VEC : Fld := ⟨a_PCIE_PFIRQ, 0, 32, 0, .wo, .B⟩
/-- PCIE_FNID: address (R369). -/
def a_PCIE_FNID (f : Nat) : Nat := 0x45100100 + f * 4
/-- R370 PCIE_FNID[31] RW. -/
def PCIE_FNID_VIEN (f : Nat) : Fld := ⟨(a_PCIE_FNID f), 31, 1, 0, .rw, .C⟩
/-- R370 PCIE_FNID[13:8] RW. -/
def PCIE_FNID_ID (f : Nat) : Fld := ⟨(a_PCIE_FNID f), 8, 6, 0, .rw, .cfg⟩
/-- R370 PCIE_FNID[7:0] RW. -/
def PCIE_FNID_VI (f : Nat) : Fld := ⟨(a_PCIE_FNID f), 0, 8, 0, .rw, .C⟩
/-- PCIE_IWCTL: address (R369). -/
def a_PCIE_IWCTL (w : Nat) : Nat := 0x45101000 + w * 0x20
/-- R370 PCIE_IWCTL[31] RW. -/
def PCIE_IWCTL_EN (w : Nat) : Fld := ⟨(a_PCIE_IWCTL w), 31, 1, 0, .rw, .B⟩
/-- R370 PCIE_IWCTL[29:28] RW. -/
def PCIE_IWCTL_SWAP (w : Nat) : Fld := ⟨(a_PCIE_IWCTL w), 28, 2, 0, .rw, .B⟩
/-- R370 PCIE_IWCTL[27] RW. -/
def PCIE_IWCTL_BAR (w : Nat) : Fld := ⟨(a_PCIE_IWCTL w), 27, 1, 0, .rw, .B⟩
/-- R370 PCIE_IWCTL[26] RW. -/
def PCIE_IWCTL_WR (w : Nat) : Fld := ⟨(a_PCIE_IWCTL w), 26, 1, 0, .rw, .B⟩
/-- R370 PCIE_IWCTL[25] RW. -/
def PCIE_IWCTL_RD (w : Nat) : Fld := ⟨(a_PCIE_IWCTL w), 25, 1, 0, .rw, .B⟩
/-- R370 PCIE_IWCTL[5:0] RW. -/
def PCIE_IWCTL_SIZE (w : Nat) : Fld := ⟨(a_PCIE_IWCTL w), 0, 6, 0xC, .rw, .B⟩
/-- PCIE_IWSRC: address (R369). -/
def a_PCIE_IWSRC (w : Nat) : Nat := 0x45101008 + w * 0x20
/-- R370 PCIE_IWSRC[63:0] RW. -/
def PCIE_IWSRC_BASE (w : Nat) : Fld := ⟨(a_PCIE_IWSRC w), 0, 64, 0, .rw, .B⟩
/-- PCIE_IWDST: address (R369). -/
def a_PCIE_IWDST (w : Nat) : Nat := 0x45101010 + w * 0x20
/-- R370 PCIE_IWDST[39:0] RW. -/
def PCIE_IWDST_BASE (w : Nat) : Fld := ⟨(a_PCIE_IWDST w), 0, 40, 0, .rw, .B⟩
/-- PCIE_OWCTL: address (R369). -/
def a_PCIE_OWCTL (w : Nat) : Nat := 0x45102000 + w * 0x20
/-- R370 PCIE_OWCTL[31] RW. -/
def PCIE_OWCTL_EN (w : Nat) : Fld := ⟨(a_PCIE_OWCTL w), 31, 1, 0, .rw, .B⟩
/-- R370 PCIE_OWCTL[30:29] RW. -/
def PCIE_OWCTL_TYPE (w : Nat) : Fld := ⟨(a_PCIE_OWCTL w), 29, 2, 0, .rw, .B⟩
/-- R370 PCIE_OWCTL[27:26] RW. -/
def PCIE_OWCTL_SWAP (w : Nat) : Fld := ⟨(a_PCIE_OWCTL w), 26, 2, 0, .rw, .B⟩
/-- R370 PCIE_OWCTL[25:24] RW. -/
def PCIE_OWCTL_ACCW (w : Nat) : Fld := ⟨(a_PCIE_OWCTL w), 24, 2, 0, .rw, .B⟩
/-- R370 PCIE_OWCTL[23] RW. -/
def PCIE_OWCTL_MERGE (w : Nat) : Fld := ⟨(a_PCIE_OWCTL w), 23, 1, 0, .rw, .B⟩
/-- R370 PCIE_OWCTL[22] RW. -/
def PCIE_OWCTL_NOSNOOP (w : Nat) : Fld := ⟨(a_PCIE_OWCTL w), 22, 1, 0, .rw, .B⟩
/-- R370 PCIE_OWCTL[21] RW. -/
def PCIE_OWCTL_RELAX (w : Nat) : Fld := ⟨(a_PCIE_OWCTL w), 21, 1, 0, .rw, .B⟩
/-- R370 PCIE_OWCTL[5:0] RW. -/
def PCIE_OWCTL_SIZE (w : Nat) : Fld := ⟨(a_PCIE_OWCTL w), 0, 6, 0xC, .rw, .B⟩
/-- PCIE_OWSRC: address (R369). -/
def a_PCIE_OWSRC (w : Nat) : Nat := 0x45102008 + w * 0x20
/-- R370 PCIE_OWSRC[39:0] RW. -/
def PCIE_OWSRC_BASE (w : Nat) : Fld := ⟨(a_PCIE_OWSRC w), 0, 40, 0x8000000000, .rw, .B⟩
/-- PCIE_OWDST: address (R369). -/
def a_PCIE_OWDST (w : Nat) : Nat := 0x45102010 + w * 0x20
/-- R370 PCIE_OWDST[63:0] RW. -/
def PCIE_OWDST_BASE (w : Nat) : Fld := ⟨(a_PCIE_OWDST w), 0, 64, 0, .rw, .B⟩

/-- The registers of this file with their extents, for the decode of an address (R585, R586, R601). -/
def regTableRegGate0 : List RegDef :=
  [⟨.gw, 0x45000000, 1, 0x0, 1, 0x0, 4, fun _ _ => [GW_CTL_EN]⟩,
   ⟨.gw, 0x45000004, 1, 0x0, 1, 0x0, 4, fun _ _ => [GW_FENCE_GO]⟩,
   ⟨.gw, 0x45000008, 1, 0x0, 1, 0x0, 4, fun _ _ => [GW_ERR_NOMATCH, GW_ERR_OOR, GW_ERR_BADFRM, GW_ERR_SHORT]⟩,
   ⟨.gw, 0x4500000C, 1, 0x0, 1, 0x0, 4, fun _ _ => [GW_OPS_CNT]⟩,
   ⟨.gw, 0x45000010, 1, 0x0, 1, 0x0, 8, fun _ _ => [GW_MAC_MAC]⟩,
   ⟨.gw, 0x45000018, 1, 0x0, 1, 0x0, 4, fun _ _ => [GW_IPV4_ADDR]⟩,
   ⟨.gw, 0x45000020, 4, 0x4, 1, 0x0, 4, fun i _ => [GW_CSTAT_RXDROP i, GW_CSTAT_PDUS i, GW_CSTAT_MAXPDUS i]⟩,
   ⟨.gw, 0x45002000, 256, 0x20, 1, 0x0, 8, fun i _ => [GW_EHDA_PCP i, GW_EHDA_TAG i, GW_EHDA_VID i, GW_EHDA_DA i]⟩,
   ⟨.gw, 0x45002008, 256, 0x20, 1, 0x0, 8, fun i _ => [GW_EHID_ID i]⟩,
   ⟨.gw, 0x45002010, 256, 0x20, 1, 0x0, 4, fun i _ => [GW_EHCTL_EN i, GW_EHCTL_FMT i, GW_EHCTL_TSOFS i]⟩,
   ⟨.gw, 0x45002014, 256, 0x20, 1, 0x0, 4, fun i _ => [GW_EHSTAT_SEQ i]⟩,
   ⟨.gw, 0x45010000, 4096, 0x20, 1, 0x0, 4, fun i _ => [GW_LCTL_EN i, GW_LCTL_DIR i, GW_LCTL_KIND i, GW_LCTL_CLASS i, GW_LCTL_FWDEN i, GW_LCTL_FWDL i, GW_LCTL_LEN i]⟩,
   ⟨.gw, 0x45010004, 4096, 0x20, 1, 0x0, 4, fun i _ => [GW_LSRC_CH i, GW_LSRC_OBJ i, GW_LSRC_LID i, GW_LSRC_HDR i, GW_LSRC_ACFT i]⟩,
   ⟨.gw, 0x45010008, 4096, 0x20, 1, 0x0, 8, fun i _ => [GW_LMID_BUSID i, GW_LMID_MID i]⟩,
   ⟨.gw, 0x45010010, 4096, 0x20, 1, 0x0, 4, fun i _ => [GW_LTX_MODE i, GW_LTX_TRIG i, GW_LTX_MINGAP i, GW_LTX_GRP i, GW_LTX_GLEAD i]⟩,
   ⟨.gw, 0x45010014, 4096, 0x20, 1, 0x0, 4, fun i _ => [GW_LRT_RFIRST i, GW_LRT_RCNT i]⟩]
def regTableRegGate1 : List RegDef :=
  [⟨.gw, 0x45010018, 4096, 0x20, 1, 0x0, 4, fun i _ => [GW_LIMG_FILL i, GW_LIMG_IMGBASE i]⟩,
   ⟨.gw, 0x4501001C, 4096, 0x20, 1, 0x0, 4, fun i _ => [GW_LSTAT_CNT i, GW_LSTAT_PEND i, GW_LSTAT_COAL i]⟩,
   ⟨.gw, 0x45040000, 8192, 0x20, 1, 0x0, 4, fun i _ => [GW_CVFMT_STYPE i, GW_CVFMT_SBE i, GW_CVFMT_SLEN i, GW_CVFMT_DTYPE i, GW_CVFMT_DBE i, GW_CVFMT_DLEN i, GW_CVFMT_OOR i, GW_CVFMT_RND i]⟩,
   ⟨.gw, 0x45040004, 8192, 0x20, 1, 0x0, 4, fun i _ => [GW_CVFAC_FACTOR i]⟩,
   ⟨.gw, 0x45040008, 8192, 0x20, 1, 0x0, 4, fun i _ => [GW_CVOFS_OFFSET i]⟩,
   ⟨.gw, 0x4504000C, 8192, 0x20, 1, 0x0, 4, fun i _ => [GW_CVMIN_MIN i]⟩,
   ⟨.gw, 0x45040010, 8192, 0x20, 1, 0x0, 4, fun i _ => [GW_CVMAX_MAX i]⟩,
   ⟨.gw, 0x45040014, 8192, 0x20, 1, 0x0, 4, fun i _ => [GW_CVDEF_DEFAULT i]⟩,
   ⟨.gw, 0x45080000, 65536, 0x8, 1, 0x0, 8, fun i _ => [GW_RT_EN i, GW_RT_TRG i, GW_RT_CONV i, GW_RT_DSTL i, GW_RT_DPOS i, GW_RT_SPOS i]⟩,
   ⟨.pcie, 0x45100000, 1, 0x0, 1, 0x0, 4, fun _ _ => [PCIE_CTL_EN, PCIE_CTL_MODE, PCIE_CTL_MAXGEN, PCIE_CTL_LANES, PCIE_CTL_RETRAIN]⟩,
   ⟨.pcie, 0x45100004, 1, 0x0, 1, 0x0, 4, fun _ _ => [PCIE_STAT_LINKUP, PCIE_STAT_GEN, PCIE_STAT_WIDTH, PCIE_STAT_LTSSM, PCIE_STAT_DOWNS, PCIE_STAT_RECOV]⟩,
   ⟨.pcie, 0x45100008, 1, 0x0, 1, 0x0, 4, fun _ _ => [PCIE_CFG_CTO]⟩,
   ⟨.pcie, 0x4510000C, 1, 0x0, 1, 0x0, 4, fun _ _ => [PCIE_ERR_UR, PCIE_ERR_REFUSED, PCIE_ERR_CTO, PCIE_ERR_POISON]⟩,
   ⟨.pcie, 0x45100010, 1, 0x0, 1, 0x0, 4, fun _ _ => [PCIE_VFCTL_VFEN, PCIE_VFCTL_NUMVF, PCIE_VFCTL_TOTALVF]⟩,
   ⟨.pcie, 0x45100014, 1, 0x0, 1, 0x0, 4, fun _ _ => [PCIE_RPBUS_SUB, PCIE_RPBUS_SEC]⟩,
   ⟨.pcie, 0x45100018, 1, 0x0, 1, 0x0, 4, fun _ _ => [PCIE_PFIRQ_VEC]⟩]
def regTableRegGate2 : List RegDef :=
  [⟨.pcie, 0x45100100, 256, 0x4, 1, 0x0, 4, fun i _ => [PCIE_FNID_VIEN i, PCIE_FNID_ID i, PCIE_FNID_VI i]⟩,
   ⟨.pcie, 0x45101000, 64, 0x20, 1, 0x0, 4, fun i _ => [PCIE_IWCTL_EN i, PCIE_IWCTL_SWAP i, PCIE_IWCTL_BAR i, PCIE_IWCTL_WR i, PCIE_IWCTL_RD i, PCIE_IWCTL_SIZE i]⟩,
   ⟨.pcie, 0x45101008, 64, 0x20, 1, 0x0, 8, fun i _ => [PCIE_IWSRC_BASE i]⟩,
   ⟨.pcie, 0x45101010, 64, 0x20, 1, 0x0, 8, fun i _ => [PCIE_IWDST_BASE i]⟩,
   ⟨.pcie, 0x45102000, 64, 0x20, 1, 0x0, 4, fun i _ => [PCIE_OWCTL_EN i, PCIE_OWCTL_TYPE i, PCIE_OWCTL_SWAP i, PCIE_OWCTL_ACCW i, PCIE_OWCTL_MERGE i, PCIE_OWCTL_NOSNOOP i, PCIE_OWCTL_RELAX i, PCIE_OWCTL_SIZE i]⟩,
   ⟨.pcie, 0x45102008, 64, 0x20, 1, 0x0, 8, fun i _ => [PCIE_OWSRC_BASE i]⟩,
   ⟨.pcie, 0x45102010, 64, 0x20, 1, 0x0, 8, fun i _ => [PCIE_OWDST_BASE i]⟩]
def regTableRegGate : List RegDef :=
  regTableRegGate0 ++ regTableRegGate1 ++ regTableRegGate2

end Sys2Proof.Machine
end

