-- ==== Sys2Proof/Machine/RegSys.lean ====
section
/-! DEFINITION. The fields of the SYS, RST, PWR, STE and MBX registers, one definition per field: its address, place, width,
reset value, access code and reset kind, from the layout and address tables of spec/ (R528, R559, R583, R599). -/

namespace Sys2Proof.Machine

/-- SYS_ID: address (R599). -/
def a_SYS_ID : Nat := 0x40000000
/-- R600 SYS_ID[31:16] RO. -/
def SYS_ID_PART : Fld := ⟨a_SYS_ID, 16, 16, 0x4896, .ro, .C⟩
/-- R600 SYS_ID[8] RO. -/
def SYS_ID_HALF : Fld := ⟨a_SYS_ID, 8, 1, 0, .ro, .C⟩
/-- R600 SYS_ID[7:4] RO. -/
def SYS_ID_STEP : Fld := ⟨a_SYS_ID, 4, 4, 1, .ro, .C⟩
/-- R600 SYS_ID[3:0] RO. -/
def SYS_ID_MINOR : Fld := ⟨a_SYS_ID, 0, 4, 0, .ro, .C⟩
/-- SYS_CAP: address (R599). -/
def a_SYS_CAP : Nat := 0x40000004
/-- R600 SYS_CAP[31:28] RO. -/
def SYS_CAP_NPAIR : Fld := ⟨a_SYS_CAP, 28, 4, 4, .ro, .C⟩
/-- R600 SYS_CAP[27:24] RO. -/
def SYS_CAP_NTG : Fld := ⟨a_SYS_CAP, 24, 4, 0xC, .ro, .C⟩
/-- R600 SYS_CAP[23:16] RO. -/
def SYS_CAP_NPSC : Fld := ⟨a_SYS_CAP, 16, 8, 0x28, .ro, .C⟩
/-- R600 SYS_CAP[15:11] RO. -/
def SYS_CAP_NCAN : Fld := ⟨a_SYS_CAP, 11, 5, 0x10, .ro, .C⟩
/-- R600 SYS_CAP[10:7] RO. -/
def SYS_CAP_NLIN : Fld := ⟨a_SYS_CAP, 7, 4, 8, .ro, .C⟩
/-- R600 SYS_CAP[6:0] RO. -/
def SYS_CAP_NPORT : Fld := ⟨a_SYS_CAP, 0, 7, 0x12, .ro, .C⟩
/-- SYS_READY: address (R599). -/
def a_SYS_READY : Nat := 0x40000008
/-- R560 SYS_READY[31:29] RO. -/
def SYS_READY_STAGE : Fld := ⟨a_SYS_READY, 29, 3, 0, .ro, .W⟩
/-- R560 SYS_READY[28] RO. -/
def SYS_READY_DEGRADED : Fld := ⟨a_SYS_READY, 28, 1, 0, .ro, .W⟩
/-- SYS_READYT: address (R599). -/
def a_SYS_READYT : Nat := 0x4000000C
/-- R560 SYS_READYT[31:16] RO. -/
def SYS_READYT_TFULL : Fld := ⟨a_SYS_READYT, 16, 16, 0, .ro, .W⟩
/-- R560 SYS_READYT[15:0] RO. -/
def SYS_READYT_TCAN : Fld := ⟨a_SYS_READYT, 0, 16, 0, .ro, .W⟩
/-- SYS_CLKSTAT: address (R599). -/
def a_SYS_CLKSTAT : Nat := 0x40000010
/-- R27 SYS_CLKSTAT[26] W1C. -/
def SYS_CLKSTAT_FALLBACK : Fld := ⟨a_SYS_CLKSTAT, 26, 1, 0, .w1c, .C⟩
/-- R27 SYS_CLKSTAT[25] RO. -/
def SYS_CLKSTAT_XTAL_OK : Fld := ⟨a_SYS_CLKSTAT, 25, 1, 0, .ro, .C⟩
/-- R27 SYS_CLKSTAT[24:0] RO. -/
def SYS_CLKSTAT_LOCK : Fld := ⟨a_SYS_CLKSTAT, 0, 25, 0, .ro, .C⟩
/-- SYS_CORESTAT: address (R599). -/
def a_SYS_CORESTAT : Nat := 0x40000014
/-- R26 SYS_CORESTAT[15:8] RO. -/
def SYS_CORESTAT_VCORE : Fld := ⟨a_SYS_CORESTAT, 8, 8, 0, .ro, .C⟩
/-- R26 SYS_CORESTAT[1] W1C. -/
def SYS_CORESTAT_LAPSE : Fld := ⟨a_SYS_CORESTAT, 1, 1, 0, .w1c, .C⟩
/-- R26 SYS_CORESTAT[0] RO. -/
def SYS_CORESTAT_BELOW : Fld := ⟨a_SYS_CORESTAT, 0, 1, 0, .ro, .C⟩
/-- SYS_TWIN: address (R599). -/
def a_SYS_TWIN : Nat := 0x40000020
/-- R38 SYS_TWIN[15:8] RC. -/
def SYS_TWIN_TAKEOVERS : Fld := ⟨a_SYS_TWIN, 8, 8, 0, .rc, .C⟩
/-- R38 SYS_TWIN[4] WO. -/
def SYS_TWIN_HANDOFF : Fld := ⟨a_SYS_TWIN, 4, 1, 0, .wo, .C⟩
/-- R38 SYS_TWIN[3] RW. -/
def SYS_TWIN_ARMED : Fld := ⟨a_SYS_TWIN, 3, 1, 0, .rw, .cfg⟩
/-- R38 SYS_TWIN[2] RO. -/
def SYS_TWIN_MIRROR_OK : Fld := ⟨a_SYS_TWIN, 2, 1, 0, .ro, .C⟩
/-- R38 SYS_TWIN[1:0] RO. -/
def SYS_TWIN_ROLE : Fld := ⟨a_SYS_TWIN, 0, 2, 0, .ro, .C⟩
/-- RST_CAUSE: address (R559). -/
def a_RST_CAUSE : Nat := 0x40001000
/-- R561 RST_CAUSE[31:28] RO. -/
def RST_CAUSE_KIND : Fld := ⟨a_RST_CAUSE, 28, 4, 1, .ro, .K⟩
/-- R561 RST_CAUSE[27:24] RO. -/
def RST_CAUSE_SRC : Fld := ⟨a_RST_CAUSE, 24, 4, 9, .ro, .K⟩
/-- R561 RST_CAUSE[23:16] RO. -/
def RST_CAUSE_RESTARTS : Fld := ⟨a_RST_CAUSE, 16, 8, 0, .ro, .K⟩
/-- R561 RST_CAUSE[7:0] RO. -/
def RST_CAUSE_COUNT : Fld := ⟨a_RST_CAUSE, 0, 8, 0, .ro, .K⟩
/-- RST_CFG: address (R559). -/
def a_RST_CFG : Nat := 0x40001004
/-- R561 RST_CFG[31] RW. -/
def RST_CFG_PINKIND : Fld := ⟨a_RST_CFG, 31, 1, 0, .rw, .cfg⟩
/-- RST_IDLETO: address (R559). -/
def a_RST_IDLETO : Nat := 0x40001008
/-- R561 RST_IDLETO[13:0] RW. -/
def RST_IDLETO_TIMEOUT : Fld := ⟨a_RST_IDLETO, 0, 14, 0x64, .rw, .C⟩
/-- RST_BLKRST: address (R559). -/
def a_RST_BLKRST : Nat := 0x4000100C
/-- R561 RST_BLKRST[31] W1S. -/
def RST_BLKRST_GO : Fld := ⟨a_RST_BLKRST, 31, 1, 0, .w1s, .C⟩
/-- R561 RST_BLKRST[30] W1C. -/
def RST_BLKRST_ERR : Fld := ⟨a_RST_BLKRST, 30, 1, 0, .w1c, .C⟩
/-- R561 RST_BLKRST[6:0] RW. -/
def RST_BLKRST_BLK : Fld := ⟨a_RST_BLKRST, 0, 7, 0, .rw, .C⟩
/-- RST_BLKSTAT: address (R559). -/
def a_RST_BLKSTAT : Nat := 0x40001010
/-- R561 RST_BLKSTAT[31:24] RC. -/
def RST_BLKSTAT_FORCED : Fld := ⟨a_RST_BLKSTAT, 24, 8, 0, .rc, .C⟩
/-- R561 RST_BLKSTAT[15:8] RC. -/
def RST_BLKSTAT_DONE : Fld := ⟨a_RST_BLKSTAT, 8, 8, 0, .rc, .C⟩
/-- R561 RST_BLKSTAT[6:0] RO. -/
def RST_BLKSTAT_LAST : Fld := ⟨a_RST_BLKSTAT, 0, 7, 0, .ro, .C⟩
/-- RST_STORM: address (R559). -/
def a_RST_STORM : Nat := 0x40001014
/-- R561 RST_STORM[31] W1C. -/
def RST_STORM_ESC : Fld := ⟨a_RST_STORM, 31, 1, 0, .w1c, .C⟩
/-- R561 RST_STORM[4:0] RO. -/
def RST_STORM_COUNT : Fld := ⟨a_RST_STORM, 0, 5, 0, .ro, .C⟩
/-- PWR_STAT: address (R559). -/
def a_PWR_STAT : Nat := 0x40002000
/-- R562 PWR_STAT[31:24] RO. -/
def PWR_STAT_VBAT : Fld := ⟨a_PWR_STAT, 24, 8, 0, .ro, .C⟩
/-- R562 PWR_STAT[23:16] RO. -/
def PWR_STAT_VBAK : Fld := ⟨a_PWR_STAT, 16, 8, 0, .ro, .C⟩
/-- R562 PWR_STAT[5] RO. -/
def PWR_STAT_NVMHOLD : Fld := ⟨a_PWR_STAT, 5, 1, 0, .ro, .C⟩
/-- R562 PWR_STAT[4] RO. -/
def PWR_STAT_MAIN : Fld := ⟨a_PWR_STAT, 4, 1, 0, .ro, .C⟩
/-- R562 PWR_STAT[3] RO. -/
def PWR_STAT_BAKLOW : Fld := ⟨a_PWR_STAT, 3, 1, 0, .ro, .C⟩
/-- R562 PWR_STAT[2] RO. -/
def PWR_STAT_VBATHI : Fld := ⟨a_PWR_STAT, 2, 1, 0, .ro, .C⟩
/-- R562 PWR_STAT[1] RO. -/
def PWR_STAT_VBATLO : Fld := ⟨a_PWR_STAT, 1, 1, 0, .ro, .C⟩
/-- PWR_VCORE: address (R559). -/
def a_PWR_VCORE : Nat := 0x40002004
/-- R562 PWR_VCORE[31:30] RW. -/
def PWR_VCORE_MODE : Fld := ⟨a_PWR_VCORE, 30, 2, 0, .rw, .cfg⟩
/-- R562 PWR_VCORE[23:16] RW. -/
def PWR_VCORE_TLIM : Fld := ⟨a_PWR_VCORE, 16, 8, 0, .rw, .cfg⟩
/-- R562 PWR_VCORE[12:8] RO. -/
def PWR_VCORE_SET : Fld := ⟨a_PWR_VCORE, 8, 5, 0x14, .ro, .C⟩
/-- R562 PWR_VCORE[4:0] RW. -/
def PWR_VCORE_TARGET : Fld := ⟨a_PWR_VCORE, 0, 5, 0, .rw, .cfg⟩
/-- PWR_DOMCTL: address (R559). -/
def a_PWR_DOMCTL : Nat := 0x40002008
/-- R562 PWR_DOMCTL[23:14] RW. -/
def PWR_DOMCTL_RUN : Fld := ⟨a_PWR_DOMCTL, 14, 10, 0, .rw, .cfg⟩
/-- R562 PWR_DOMCTL[11:5] RO. -/
def PWR_DOMCTL_COLD : Fld := ⟨a_PWR_DOMCTL, 5, 7, 0, .ro, .cfg⟩
/-- PWR_DOMSTAT: address (R559). -/
def a_PWR_DOMSTAT : Nat := 0x4000200C
/-- R562 PWR_DOMSTAT[31] RO. -/
def PWR_DOMSTAT_BUSY : Fld := ⟨a_PWR_DOMSTAT, 31, 1, 0, .ro, .C⟩
/-- R562 PWR_DOMSTAT[30] W1C. -/
def PWR_DOMSTAT_FAIL : Fld := ⟨a_PWR_DOMSTAT, 30, 1, 0, .w1c, .C⟩
/-- R562 PWR_DOMSTAT[23:0] RO. -/
def PWR_DOMSTAT_UP : Fld := ⟨a_PWR_DOMSTAT, 0, 24, 0, .ro, .C⟩
/-- PWR_BAKSTAT: address (R559). -/
def a_PWR_BAKSTAT : Nat := 0x40002010
/-- R562 PWR_BAKSTAT[31] RO. -/
def PWR_BAKSTAT_CONT : Fld := ⟨a_PWR_BAKSTAT, 31, 1, 0, .ro, .K⟩
/-- R562 PWR_BAKSTAT[30] RO. -/
def PWR_BAKSTAT_RECA : Fld := ⟨a_PWR_BAKSTAT, 30, 1, 0, .ro, .K⟩
/-- R562 PWR_BAKSTAT[29] RO. -/
def PWR_BAKSTAT_RECB : Fld := ⟨a_PWR_BAKSTAT, 29, 1, 0, .ro, .K⟩
/-- R562 PWR_BAKSTAT[28] RO. -/
def PWR_BAKSTAT_PEA : Fld := ⟨a_PWR_BAKSTAT, 28, 1, 0, .ro, .K⟩
/-- R562 PWR_BAKSTAT[27] RO. -/
def PWR_BAKSTAT_PEB : Fld := ⟨a_PWR_BAKSTAT, 27, 1, 0, .ro, .K⟩
/-- R562 PWR_BAKSTAT[26] RO. -/
def PWR_BAKSTAT_RESTORED : Fld := ⟨a_PWR_BAKSTAT, 26, 1, 0, .ro, .K⟩
/-- R562 PWR_BAKSTAT[23:16] RC. -/
def PWR_BAKSTAT_SWITCHES : Fld := ⟨a_PWR_BAKSTAT, 16, 8, 0, .rc, .K⟩
/-- R562 PWR_BAKSTAT[15:0] HU. -/
def PWR_BAKSTAT_VBAKMIN : Fld := ⟨a_PWR_BAKSTAT, 0, 16, 0xFFFF, .hu, .K⟩
/-- PWR_TEMP: address (R559). -/
def a_PWR_TEMP : Nat := 0x40002014
/-- R562 PWR_TEMP[15:0] RO. -/
def PWR_TEMP_TJ : Fld := ⟨a_PWR_TEMP, 0, 16, 0, .ro, .C⟩
/-- MBX_CMD: address (R528). -/
def a_MBX_CMD (m : Nat) : Nat := 0x40008000 + m * 0x80
/-- R529 MBX_CMD[31] W1S. -/
def MBX_CMD_GO (m : Nat) : Fld := ⟨(a_MBX_CMD m), 31, 1, 0, .w1s, .W⟩
/-- R529 MBX_CMD[7:0] RW. -/
def MBX_CMD_OPCODE (m : Nat) : Fld := ⟨(a_MBX_CMD m), 0, 8, 0, .rw, .W⟩
/-- MBX_STATUS: address (R528). -/
def a_MBX_STATUS (m : Nat) : Nat := 0x40008004 + m * 0x80
/-- R529 MBX_STATUS[31:29] RO. -/
def MBX_STATUS_STATE (m : Nat) : Fld := ⟨(a_MBX_STATUS m), 29, 3, 0, .ro, .W⟩
/-- R529 MBX_STATUS[28] W1S. -/
def MBX_STATUS_CLAIM (m : Nat) : Fld := ⟨(a_MBX_STATUS m), 28, 1, 0, .w1s, .W⟩
/-- R529 MBX_STATUS[27] WO. -/
def MBX_STATUS_RELEASE (m : Nat) : Fld := ⟨(a_MBX_STATUS m), 27, 1, 0, .wo, .W⟩
/-- R529 MBX_STATUS[26] RO. -/
def MBX_STATUS_MINE (m : Nat) : Fld := ⟨(a_MBX_STATUS m), 26, 1, 0, .ro, .W⟩
/-- R529 MBX_STATUS[25] RO. -/
def MBX_STATUS_WORLD (m : Nat) : Fld := ⟨(a_MBX_STATUS m), 25, 1, 0, .ro, .W⟩
/-- R529 MBX_STATUS[24:19] RO. -/
def MBX_STATUS_OWNER (m : Nat) : Fld := ⟨(a_MBX_STATUS m), 19, 6, 0, .ro, .W⟩
/-- R529 MBX_STATUS[15:8] RO. -/
def MBX_STATUS_GEN (m : Nat) : Fld := ⟨(a_MBX_STATUS m), 8, 8, 0, .ro, .W⟩
/-- R529 MBX_STATUS[7:0] RO. -/
def MBX_STATUS_ERR (m : Nat) : Fld := ⟨(a_MBX_STATUS m), 0, 8, 0, .ro, .W⟩
/-- MBX_ARG: address (R528). -/
def a_MBX_ARG (m k : Nat) : Nat := 0x40008020 + m * 0x80 + k * 4
/-- R529 MBX_ARG[31:0] RW. -/
def MBX_ARG_ARG (m k : Nat) : Fld := ⟨(a_MBX_ARG m k), 0, 32, 0, .rw, .W⟩
/-- MBX_RESULT: address (R528). -/
def a_MBX_RESULT (m k : Nat) : Nat := 0x40008040 + m * 0x80 + k * 4
/-- R529 MBX_RESULT[31:0] RO. -/
def MBX_RESULT_RESULT (m k : Nat) : Fld := ⟨(a_MBX_RESULT m k), 0, 32, 0, .ro, .W⟩
/-- MBX_GSTAT: address (R528). -/
def a_MBX_GSTAT : Nat := 0x40008400
/-- R529 MBX_GSTAT[31:29] RO. -/
def MBX_GSTAT_LC : Fld := ⟨a_MBX_GSTAT, 29, 3, 0, .ro, .cfg⟩
/-- R529 MBX_GSTAT[28] RO. -/
def MBX_GSTAT_RECOVERY : Fld := ⟨a_MBX_GSTAT, 28, 1, 0, .ro, .cfg⟩
/-- R529 MBX_GSTAT[27:24] RO. -/
def MBX_GSTAT_QUEUED : Fld := ⟨a_MBX_GSTAT, 24, 4, 0, .ro, .W⟩
/-- R529 MBX_GSTAT[23:16] RO. -/
def MBX_GSTAT_CUROP : Fld := ⟨a_MBX_GSTAT, 16, 8, 0, .ro, .W⟩
/-- R529 MBX_GSTAT[10:8] RO. -/
def MBX_GSTAT_CURCH : Fld := ⟨a_MBX_GSTAT, 8, 3, 0, .ro, .W⟩
/-- MBX_RECL: address (R528). -/
def a_MBX_RECL : Nat := 0x40008404
/-- R529 MBX_RECL[31:16] RC. -/
def MBX_RECL_RECLAIMED : Fld := ⟨a_MBX_RECL, 16, 16, 0, .rc, .W⟩
/-- STE_CTL: address (R583). -/
def a_STE_CTL : Nat := 0x46000000
/-- R584 STE_CTL[31] RW. -/
def STE_CTL_EN : Fld := ⟨a_STE_CTL, 31, 1, 0, .rw, .cfg⟩
/-- R584 STE_CTL[15:0] RW. -/
def STE_CTL_OVERDUE : Fld := ⟨a_STE_CTL, 0, 16, 0x64, .rw, .B⟩
/-- STE_PER: address (R583). -/
def a_STE_PER : Nat := 0x46000004
/-- R584 STE_PER[31:24] RW. -/
def STE_PER_PAIRPER : Fld := ⟨a_STE_PER, 24, 8, 0x1E, .rw, .B⟩
/-- R584 STE_PER[23:16] RW. -/
def STE_PER_TGPER : Fld := ⟨a_STE_PER, 16, 8, 0x1E, .rw, .B⟩
/-- R584 STE_PER[15:8] RW. -/
def STE_PER_PSCPER : Fld := ⟨a_STE_PER, 8, 8, 0x1E, .rw, .B⟩
/-- R584 STE_PER[7:0] RW. -/
def STE_PER_RGNPER : Fld := ⟨a_STE_PER, 0, 8, 0x1E, .rw, .B⟩
/-- STE_COND: address (R583). -/
def a_STE_COND : Nat := 0x46000008
/-- R584 STE_COND[31] RO. -/
def STE_COND_OK : Fld := ⟨a_STE_COND, 31, 1, 0, .ro, .B⟩
/-- R584 STE_COND[2] RO. -/
def STE_COND_TJ : Fld := ⟨a_STE_COND, 2, 1, 0, .ro, .B⟩
/-- R584 STE_COND[1] RO. -/
def STE_COND_OSC : Fld := ⟨a_STE_COND, 1, 1, 0, .ro, .B⟩
/-- R584 STE_COND[0] RO. -/
def STE_COND_VCORE : Fld := ⟨a_STE_COND, 0, 1, 0, .ro, .B⟩
/-- STE_STAT: address (R583). -/
def a_STE_STAT : Nat := 0x4600000C
/-- R584 STE_STAT[31] RO. -/
def STE_STAT_PUDONE : Fld := ⟨a_STE_STAT, 31, 1, 0, .ro, .C⟩
/-- R584 STE_STAT[30] W1C. -/
def STE_STAT_PUSKIP : Fld := ⟨a_STE_STAT, 30, 1, 0, .w1c, .C⟩
/-- R584 STE_STAT[23:16] RC. -/
def STE_STAT_ABORTS : Fld := ⟨a_STE_STAT, 16, 8, 0, .rc, .B⟩
/-- R584 STE_STAT[15:8] RC. -/
def STE_STAT_FAILS : Fld := ⟨a_STE_STAT, 8, 8, 0, .rc, .B⟩
/-- R584 STE_STAT[7:0] RO. -/
def STE_STAT_ACTIVE : Fld := ⟨a_STE_STAT, 0, 8, 0, .ro, .B⟩
/-- STE_ROUND: address (R583). -/
def a_STE_ROUND : Nat := 0x46000010
/-- R584 STE_ROUND[31:0] RO. -/
def STE_ROUND_CNT : Fld := ⟨a_STE_ROUND, 0, 32, 0, .ro, .B⟩
/-- STE_UNUSE: address (R583). -/
def a_STE_UNUSE (k : Nat) : Nat := 0x46000020 + k * 4
/-- R584 STE_UNUSE[31:0] RO. -/
def STE_UNUSE_ITEMS (k : Nat) : Fld := ⟨(a_STE_UNUSE k), 0, 32, 0, .ro, .C⟩
/-- STE_USTAT: address (R583). -/
def a_STE_USTAT (u : Nat) : Nat := 0x46000100 + u * 4
/-- R584 STE_USTAT[31:30] RO. -/
def STE_USTAT_STATE (u : Nat) : Fld := ⟨(a_STE_USTAT u), 30, 2, 0, .ro, .C⟩
/-- R584 STE_USTAT[29] RO. -/
def STE_USTAT_RETEST (u : Nat) : Fld := ⟨(a_STE_USTAT u), 29, 1, 0, .ro, .B⟩
/-- R584 STE_USTAT[23:16] RO. -/
def STE_USTAT_AGE (u : Nat) : Fld := ⟨(a_STE_USTAT u), 16, 8, 0, .ro, .B⟩
/-- R584 STE_USTAT[15:0] RO. -/
def STE_USTAT_PASSES (u : Nat) : Fld := ⟨(a_STE_USTAT u), 0, 16, 0, .ro, .B⟩

/-- The registers of this file with their extents, for the decode of an address (R585, R586, R601). -/
def regTableRegSys0 : List RegDef :=
  [⟨.sys, 0x40000000, 1, 0x0, 1, 0x0, 4, fun _ _ => [SYS_ID_PART, SYS_ID_HALF, SYS_ID_STEP, SYS_ID_MINOR]⟩,
   ⟨.sys, 0x40000004, 1, 0x0, 1, 0x0, 4, fun _ _ => [SYS_CAP_NPAIR, SYS_CAP_NTG, SYS_CAP_NPSC, SYS_CAP_NCAN, SYS_CAP_NLIN, SYS_CAP_NPORT]⟩,
   ⟨.sys, 0x40000008, 1, 0x0, 1, 0x0, 4, fun _ _ => [SYS_READY_STAGE, SYS_READY_DEGRADED]⟩,
   ⟨.sys, 0x4000000C, 1, 0x0, 1, 0x0, 4, fun _ _ => [SYS_READYT_TFULL, SYS_READYT_TCAN]⟩,
   ⟨.sys, 0x40000010, 1, 0x0, 1, 0x0, 4, fun _ _ => [SYS_CLKSTAT_FALLBACK, SYS_CLKSTAT_XTAL_OK, SYS_CLKSTAT_LOCK]⟩,
   ⟨.sys, 0x40000014, 1, 0x0, 1, 0x0, 4, fun _ _ => [SYS_CORESTAT_VCORE, SYS_CORESTAT_LAPSE, SYS_CORESTAT_BELOW]⟩,
   ⟨.sys, 0x40000020, 1, 0x0, 1, 0x0, 4, fun _ _ => [SYS_TWIN_TAKEOVERS, SYS_TWIN_HANDOFF, SYS_TWIN_ARMED, SYS_TWIN_MIRROR_OK, SYS_TWIN_ROLE]⟩,
   ⟨.rst, 0x40001000, 1, 0x0, 1, 0x0, 4, fun _ _ => [RST_CAUSE_KIND, RST_CAUSE_SRC, RST_CAUSE_RESTARTS, RST_CAUSE_COUNT]⟩,
   ⟨.rst, 0x40001004, 1, 0x0, 1, 0x0, 4, fun _ _ => [RST_CFG_PINKIND]⟩,
   ⟨.rst, 0x40001008, 1, 0x0, 1, 0x0, 4, fun _ _ => [RST_IDLETO_TIMEOUT]⟩,
   ⟨.rst, 0x4000100C, 1, 0x0, 1, 0x0, 4, fun _ _ => [RST_BLKRST_GO, RST_BLKRST_ERR, RST_BLKRST_BLK]⟩,
   ⟨.rst, 0x40001010, 1, 0x0, 1, 0x0, 4, fun _ _ => [RST_BLKSTAT_FORCED, RST_BLKSTAT_DONE, RST_BLKSTAT_LAST]⟩,
   ⟨.rst, 0x40001014, 1, 0x0, 1, 0x0, 4, fun _ _ => [RST_STORM_ESC, RST_STORM_COUNT]⟩,
   ⟨.pwr, 0x40002000, 1, 0x0, 1, 0x0, 4, fun _ _ => [PWR_STAT_VBAT, PWR_STAT_VBAK, PWR_STAT_NVMHOLD, PWR_STAT_MAIN, PWR_STAT_BAKLOW, PWR_STAT_VBATHI, PWR_STAT_VBATLO]⟩,
   ⟨.pwr, 0x40002004, 1, 0x0, 1, 0x0, 4, fun _ _ => [PWR_VCORE_MODE, PWR_VCORE_TLIM, PWR_VCORE_SET, PWR_VCORE_TARGET]⟩,
   ⟨.pwr, 0x40002008, 1, 0x0, 1, 0x0, 4, fun _ _ => [PWR_DOMCTL_RUN, PWR_DOMCTL_COLD]⟩]
def regTableRegSys1 : List RegDef :=
  [⟨.pwr, 0x4000200C, 1, 0x0, 1, 0x0, 4, fun _ _ => [PWR_DOMSTAT_BUSY, PWR_DOMSTAT_FAIL, PWR_DOMSTAT_UP]⟩,
   ⟨.pwr, 0x40002010, 1, 0x0, 1, 0x0, 4, fun _ _ => [PWR_BAKSTAT_CONT, PWR_BAKSTAT_RECA, PWR_BAKSTAT_RECB, PWR_BAKSTAT_PEA, PWR_BAKSTAT_PEB, PWR_BAKSTAT_RESTORED, PWR_BAKSTAT_SWITCHES, PWR_BAKSTAT_VBAKMIN]⟩,
   ⟨.pwr, 0x40002014, 1, 0x0, 1, 0x0, 4, fun _ _ => [PWR_TEMP_TJ]⟩,
   ⟨.mbx, 0x40008000, 8, 0x80, 1, 0x0, 4, fun i _ => [MBX_CMD_GO i, MBX_CMD_OPCODE i]⟩,
   ⟨.mbx, 0x40008004, 8, 0x80, 1, 0x0, 4, fun i _ => [MBX_STATUS_STATE i, MBX_STATUS_CLAIM i, MBX_STATUS_RELEASE i, MBX_STATUS_MINE i, MBX_STATUS_WORLD i, MBX_STATUS_OWNER i, MBX_STATUS_GEN i, MBX_STATUS_ERR i]⟩,
   ⟨.mbx, 0x40008020, 8, 0x80, 8, 0x4, 4, fun i j => [MBX_ARG_ARG i j]⟩,
   ⟨.mbx, 0x40008040, 8, 0x80, 8, 0x4, 4, fun i j => [MBX_RESULT_RESULT i j]⟩,
   ⟨.mbx, 0x40008400, 1, 0x0, 1, 0x0, 4, fun _ _ => [MBX_GSTAT_LC, MBX_GSTAT_RECOVERY, MBX_GSTAT_QUEUED, MBX_GSTAT_CUROP, MBX_GSTAT_CURCH]⟩,
   ⟨.mbx, 0x40008404, 1, 0x0, 1, 0x0, 4, fun _ _ => [MBX_RECL_RECLAIMED]⟩,
   ⟨.ste, 0x46000000, 1, 0x0, 1, 0x0, 4, fun _ _ => [STE_CTL_EN, STE_CTL_OVERDUE]⟩,
   ⟨.ste, 0x46000004, 1, 0x0, 1, 0x0, 4, fun _ _ => [STE_PER_PAIRPER, STE_PER_TGPER, STE_PER_PSCPER, STE_PER_RGNPER]⟩,
   ⟨.ste, 0x46000008, 1, 0x0, 1, 0x0, 4, fun _ _ => [STE_COND_OK, STE_COND_TJ, STE_COND_OSC, STE_COND_VCORE]⟩,
   ⟨.ste, 0x4600000C, 1, 0x0, 1, 0x0, 4, fun _ _ => [STE_STAT_PUDONE, STE_STAT_PUSKIP, STE_STAT_ABORTS, STE_STAT_FAILS, STE_STAT_ACTIVE]⟩,
   ⟨.ste, 0x46000010, 1, 0x0, 1, 0x0, 4, fun _ _ => [STE_ROUND_CNT]⟩,
   ⟨.ste, 0x46000020, 8, 0x4, 1, 0x0, 4, fun i _ => [STE_UNUSE_ITEMS i]⟩,
   ⟨.ste, 0x46000100, 58, 0x4, 1, 0x0, 4, fun i _ => [STE_USTAT_STATE i, STE_USTAT_RETEST i, STE_USTAT_AGE i, STE_USTAT_PASSES i]⟩]
def regTableRegSys : List RegDef :=
  regTableRegSys0 ++ regTableRegSys1

end Sys2Proof.Machine
end

