-- ==== Sys2Proof/Machine/RegTime.lean ====
section
/-! DEFINITION. The fields of the GTB and EVR registers, one definition per field: its address, place, width,
reset value, access code and reset kind, from the layout and address tables of spec/ (R61, R83). -/

namespace Sys2Proof.Machine

/-- GTB_NOW: address (R61). -/
def a_GTB_NOW : Nat := 0x40010000
/-- R62 GTB_NOW[63:0] RO. -/
def GTB_NOW_NS : Fld := ⟨a_GTB_NOW, 0, 64, 0, .ro, .K⟩
/-- GTB_SNAPCTL: address (R61). -/
def a_GTB_SNAPCTL : Nat := 0x40010008
/-- R64 GTB_SNAPCTL[0] WO. -/
def GTB_SNAPCTL_TAKE : Fld := ⟨a_GTB_SNAPCTL, 0, 1, 0, .wo, .C⟩
/-- GTB_SNAP: address (R61). -/
def a_GTB_SNAP : Nat := 0x40010010
/-- R62 GTB_SNAP[63:0] RO. -/
def GTB_SNAP_NS : Fld := ⟨a_GTB_SNAP, 0, 64, 0, .ro, .C⟩
/-- GTB_SNAPX: address (R61). -/
def a_GTB_SNAPX : Nat := 0x40010018
/-- R64 GTB_SNAPX[11:8] RO. -/
def GTB_SNAPX_QUAL : Fld := ⟨a_GTB_SNAPX, 8, 4, 0, .ro, .C⟩
/-- R64 GTB_SNAPX[7:0] RO. -/
def GTB_SNAPX_FRAC : Fld := ⟨a_GTB_SNAPX, 0, 8, 0, .ro, .C⟩
/-- GTB_STAT: address (R61). -/
def a_GTB_STAT : Nat := 0x40010020
/-- R63 GTB_STAT[11:8] RO. -/
def GTB_STAT_QUAL : Fld := ⟨a_GTB_STAT, 8, 4, 1, .ro, .C⟩
/-- R63 GTB_STAT[3] W1C. -/
def GTB_STAT_STEPPED : Fld := ⟨a_GTB_STAT, 3, 1, 0, .w1c, .C⟩
/-- R63 GTB_STAT[2] RO. -/
def GTB_STAT_HOLDOVER : Fld := ⟨a_GTB_STAT, 2, 1, 0, .ro, .C⟩
/-- R63 GTB_STAT[1] RO. -/
def GTB_STAT_LOCKED : Fld := ⟨a_GTB_STAT, 1, 1, 0, .ro, .C⟩
/-- R63 GTB_STAT[0] RO. -/
def GTB_STAT_GTB_VALID : Fld := ⟨a_GTB_STAT, 0, 1, 0, .ro, .K⟩
/-- GTB_CFG: address (R61). -/
def a_GTB_CFG : Nat := 0x40010024
/-- R64 GTB_CFG[5:4] RW. -/
def GTB_CFG_STEPMODE : Fld := ⟨a_GTB_CFG, 4, 2, 0, .rw, .cfg⟩
/-- R64 GTB_CFG[3] RW. -/
def GTB_CFG_SERVO : Fld := ⟨a_GTB_CFG, 3, 1, 1, .rw, .C⟩
/-- R64 GTB_CFG[1:0] RW. -/
def GTB_CFG_DOMAIN : Fld := ⟨a_GTB_CFG, 0, 2, 0, .rw, .C⟩
/-- GTB_RATE: address (R61). -/
def a_GTB_RATE : Nat := 0x40010028
/-- R64 GTB_RATE[31:0] HU. -/
def GTB_RATE_RATE : Fld := ⟨a_GTB_RATE, 0, 32, 0, .hu, .C⟩
/-- GTB_SRVCFG: address (R61). -/
def a_GTB_SRVCFG : Nat := 0x4001002C
/-- R64 GTB_SRVCFG[31:28] RW. -/
def GTB_SRVCFG_REACQ : Fld := ⟨a_GTB_SRVCFG, 28, 4, 8, .rw, .C⟩
/-- R64 GTB_SRVCFG[27:24] RW. -/
def GTB_SRVCFG_SYNCTO : Fld := ⟨a_GTB_SRVCFG, 24, 4, 3, .rw, .C⟩
/-- R64 GTB_SRVCFG[23:20] RW. -/
def GTB_SRVCFG_LOCKN : Fld := ⟨a_GTB_SRVCFG, 20, 4, 8, .rw, .C⟩
/-- R64 GTB_SRVCFG[19:16] RW. -/
def GTB_SRVCFG_KP : Fld := ⟨a_GTB_SRVCFG, 16, 4, 2, .rw, .C⟩
/-- R64 GTB_SRVCFG[15:12] RW. -/
def GTB_SRVCFG_KI : Fld := ⟨a_GTB_SRVCFG, 12, 4, 6, .rw, .C⟩
/-- R64 GTB_SRVCFG[11:0] RW. -/
def GTB_SRVCFG_LOCKTHR : Fld := ⟨a_GTB_SRVCFG, 0, 12, 0x32, .rw, .C⟩
/-- GTB_ADJ: address (R61). -/
def a_GTB_ADJ : Nat := 0x40010030
/-- R62 GTB_ADJ[63:0] RW. -/
def GTB_ADJ_OFS : Fld := ⟨a_GTB_ADJ, 0, 64, 0, .rw, .C⟩
/-- GTB_ADJCTL: address (R61). -/
def a_GTB_ADJCTL : Nat := 0x40010038
/-- R64 GTB_ADJCTL[1] WO. -/
def GTB_ADJCTL_SLEW : Fld := ⟨a_GTB_ADJCTL, 1, 1, 0, .wo, .C⟩
/-- R64 GTB_ADJCTL[0] WO. -/
def GTB_ADJCTL_STEP : Fld := ⟨a_GTB_ADJCTL, 0, 1, 0, .wo, .C⟩
/-- GTB_HOLDTIME: address (R61). -/
def a_GTB_HOLDTIME : Nat := 0x4001003C
/-- R64 GTB_HOLDTIME[31:0] RO. -/
def GTB_HOLDTIME_MS : Fld := ⟨a_GTB_HOLDTIME, 0, 32, 0, .ro, .C⟩
/-- GTB_STEPTHR: address (R61). -/
def a_GTB_STEPTHR : Nat := 0x40010040
/-- R64 GTB_STEPTHR[31:0] RW. -/
def GTB_STEPTHR_NS : Fld := ⟨a_GTB_STEPTHR, 0, 32, 0xF4240, .rw, .C⟩
/-- GTB_DCFG: address (R61). -/
def a_GTB_DCFG (d : Nat) : Nat := 0x40010100 + d * 0x40
/-- R65 GTB_DCFG[31] RW. -/
def GTB_DCFG_EN (d : Nat) : Fld := ⟨(a_GTB_DCFG d), 31, 1, 0, .rw, .C⟩
/-- R65 GTB_DCFG[23:16] RW. -/
def GTB_DCFG_DOMNUM (d : Nat) : Fld := ⟨(a_GTB_DCFG d), 16, 8, 0, .rw, .C⟩
/-- R65 GTB_DCFG[11:8] RW. -/
def GTB_DCFG_LOGSYNC (d : Nat) : Fld := ⟨(a_GTB_DCFG d), 8, 4, 0xD, .rw, .C⟩
/-- R65 GTB_DCFG[4:0] RW. -/
def GTB_DCFG_SLVPORT (d : Nat) : Fld := ⟨(a_GTB_DCFG d), 0, 5, 0x1F, .rw, .C⟩
/-- GTB_DPORTS: address (R61). -/
def a_GTB_DPORTS (d : Nat) : Nat := 0x40010104 + d * 0x40
/-- R65 GTB_DPORTS[17:0] RW. -/
def GTB_DPORTS_PORTS (d : Nat) : Fld := ⟨(a_GTB_DPORTS d), 0, 18, 0, .rw, .C⟩
/-- GTB_DSTAT: address (R61). -/
def a_GTB_DSTAT (d : Nat) : Nat := 0x40010108 + d * 0x40
/-- R65 GTB_DSTAT[31:24] RC. -/
def GTB_DSTAT_GMCHG (d : Nat) : Fld := ⟨(a_GTB_DSTAT d), 24, 8, 0, .rc, .C⟩
/-- R65 GTB_DSTAT[3] W1C. -/
def GTB_DSTAT_SYNCTO (d : Nat) : Fld := ⟨(a_GTB_DSTAT d), 3, 1, 0, .w1c, .C⟩
/-- R65 GTB_DSTAT[2:0] RO. -/
def GTB_DSTAT_STATE (d : Nat) : Fld := ⟨(a_GTB_DSTAT d), 0, 3, 0, .ro, .C⟩
/-- GTB_DOFS: address (R61). -/
def a_GTB_DOFS (d : Nat) : Nat := 0x40010110 + d * 0x40
/-- R62 GTB_DOFS[63:0] RO. -/
def GTB_DOFS_OFS (d : Nat) : Fld := ⟨(a_GTB_DOFS d), 0, 64, 0, .ro, .C⟩
/-- GTB_DRATIO: address (R61). -/
def a_GTB_DRATIO (d : Nat) : Nat := 0x40010118 + d * 0x40
/-- R65 GTB_DRATIO[31:0] RO. -/
def GTB_DRATIO_RATIO (d : Nat) : Fld := ⟨(a_GTB_DRATIO d), 0, 32, 0, .ro, .C⟩
/-- GTB_DGMID: address (R61). -/
def a_GTB_DGMID (d : Nat) : Nat := 0x40010120 + d * 0x40
/-- R62 GTB_DGMID[63:0] RO. -/
def GTB_DGMID_GMID (d : Nat) : Fld := ⟨(a_GTB_DGMID d), 0, 64, 0, .ro, .C⟩
/-- GTB_TRGCTL: address (R61). -/
def a_GTB_TRGCTL (n : Nat) : Nat := 0x40011000 + n / 8 * 0x1000 + n % 8 * 0x20
/-- R66 GTB_TRGCTL[31] RW. -/
def GTB_TRGCTL_EN (n : Nat) : Fld := ⟨(a_GTB_TRGCTL n), 31, 1, 0, .rw, .B⟩
/-- R66 GTB_TRGCTL[30] RW. -/
def GTB_TRGCTL_PERIODIC (n : Nat) : Fld := ⟨(a_GTB_TRGCTL n), 30, 1, 0, .rw, .B⟩
/-- R66 GTB_TRGCTL[29] RW. -/
def GTB_TRGCTL_STEPFOLLOW (n : Nat) : Fld := ⟨(a_GTB_TRGCTL n), 29, 1, 0, .rw, .B⟩
/-- R66 GTB_TRGCTL[18] RW. -/
def GTB_TRGCTL_OUTEN (n : Nat) : Fld := ⟨(a_GTB_TRGCTL n), 18, 1, 0, .rw, .B⟩
/-- R66 GTB_TRGCTL[17:16] RW. -/
def GTB_TRGCTL_OUT (n : Nat) : Fld := ⟨(a_GTB_TRGCTL n), 16, 2, 0, .rw, .B⟩
/-- R66 GTB_TRGCTL[15:0] RW. -/
def GTB_TRGCTL_PULSE (n : Nat) : Fld := ⟨(a_GTB_TRGCTL n), 0, 16, 0, .rw, .B⟩
/-- GTB_TRGSTAT: address (R61). -/
def a_GTB_TRGSTAT (n : Nat) : Nat := 0x40011004 + n / 8 * 0x1000 + n % 8 * 0x20
/-- R66 GTB_TRGSTAT[31:16] RC. -/
def GTB_TRGSTAT_MISSED (n : Nat) : Fld := ⟨(a_GTB_TRGSTAT n), 16, 16, 0, .rc, .B⟩
/-- R66 GTB_TRGSTAT[2] W1C. -/
def GTB_TRGSTAT_LATE (n : Nat) : Fld := ⟨(a_GTB_TRGSTAT n), 2, 1, 0, .w1c, .B⟩
/-- R66 GTB_TRGSTAT[1] RO. -/
def GTB_TRGSTAT_ARMED (n : Nat) : Fld := ⟨(a_GTB_TRGSTAT n), 1, 1, 0, .ro, .B⟩
/-- R66 GTB_TRGSTAT[0] W1C. -/
def GTB_TRGSTAT_FIRED (n : Nat) : Fld := ⟨(a_GTB_TRGSTAT n), 0, 1, 0, .w1c, .B⟩
/-- GTB_TRGCMP: address (R61). -/
def a_GTB_TRGCMP (n : Nat) : Nat := 0x40011008 + n / 8 * 0x1000 + n % 8 * 0x20
/-- R62 GTB_TRGCMP[63:0] HU. -/
def GTB_TRGCMP_CMP (n : Nat) : Fld := ⟨(a_GTB_TRGCMP n), 0, 64, 0, .hu, .B⟩
/-- GTB_TRGPER: address (R61). -/
def a_GTB_TRGPER (n : Nat) : Nat := 0x40011010 + n / 8 * 0x1000 + n % 8 * 0x20
/-- R66 GTB_TRGPER[31:0] RW. -/
def GTB_TRGPER_PER (n : Nat) : Fld := ⟨(a_GTB_TRGPER n), 0, 32, 0, .rw, .B⟩
/-- GTB_TRGPERF: address (R61). -/
def a_GTB_TRGPERF (n : Nat) : Nat := 0x40011014 + n / 8 * 0x1000 + n % 8 * 0x20
/-- R66 GTB_TRGPERF[15:8] HU. -/
def GTB_TRGPERF_CMPFRAC (n : Nat) : Fld := ⟨(a_GTB_TRGPERF n), 8, 8, 0, .hu, .B⟩
/-- R66 GTB_TRGPERF[7:0] RW. -/
def GTB_TRGPERF_PERFRAC (n : Nat) : Fld := ⟨(a_GTB_TRGPERF n), 0, 8, 0, .rw, .B⟩
/-- GTB_TRGCNT: address (R61). -/
def a_GTB_TRGCNT (n : Nat) : Nat := 0x40011018 + n / 8 * 0x1000 + n % 8 * 0x20
/-- R66 GTB_TRGCNT[31:0] RO. -/
def GTB_TRGCNT_CNT (n : Nat) : Fld := ⟨(a_GTB_TRGCNT n), 0, 32, 0, .ro, .B⟩
/-- GTB_CAPCTL: address (R61). -/
def a_GTB_CAPCTL (n : Nat) : Nat := 0x40019000 + n / 8 * 0x1000 + n % 8 * 0x20
/-- R66 GTB_CAPCTL[31] RW. -/
def GTB_CAPCTL_EN (n : Nat) : Fld := ⟨(a_GTB_CAPCTL n), 31, 1, 0, .rw, .B⟩
/-- R66 GTB_CAPCTL[30:29] RW. -/
def GTB_CAPCTL_EDGE (n : Nat) : Fld := ⟨(a_GTB_CAPCTL n), 29, 2, 1, .rw, .B⟩
/-- R66 GTB_CAPCTL[23:16] RW. -/
def GTB_CAPCTL_SRC (n : Nat) : Fld := ⟨(a_GTB_CAPCTL n), 16, 8, 0, .rw, .B⟩
/-- R66 GTB_CAPCTL[11:8] RW. -/
def GTB_CAPCTL_FILT (n : Nat) : Fld := ⟨(a_GTB_CAPCTL n), 8, 4, 0, .rw, .B⟩
/-- R66 GTB_CAPCTL[0] WO. -/
def GTB_CAPCTL_POP (n : Nat) : Fld := ⟨(a_GTB_CAPCTL n), 0, 1, 0, .wo, .B⟩
/-- GTB_CAPSTAT: address (R61). -/
def a_GTB_CAPSTAT (n : Nat) : Nat := 0x40019004 + n / 8 * 0x1000 + n % 8 * 0x20
/-- R66 GTB_CAPSTAT[23:16] RC. -/
def GTB_CAPSTAT_OVF (n : Nat) : Fld := ⟨(a_GTB_CAPSTAT n), 16, 8, 0, .rc, .B⟩
/-- R66 GTB_CAPSTAT[3:0] RO. -/
def GTB_CAPSTAT_LEVEL (n : Nat) : Fld := ⟨(a_GTB_CAPSTAT n), 0, 4, 0, .ro, .B⟩
/-- GTB_CAPHEAD: address (R61). -/
def a_GTB_CAPHEAD (n : Nat) : Nat := 0x40019008 + n / 8 * 0x1000 + n % 8 * 0x20
/-- R62 GTB_CAPHEAD[63:0] RO. -/
def GTB_CAPHEAD_NS (n : Nat) : Fld := ⟨(a_GTB_CAPHEAD n), 0, 64, 0, .ro, .B⟩
/-- GTB_CAPHEADX: address (R61). -/
def a_GTB_CAPHEADX (n : Nat) : Nat := 0x40019010 + n / 8 * 0x1000 + n % 8 * 0x20
/-- R66 GTB_CAPHEADX[9] RO. -/
def GTB_CAPHEADX_EDGE (n : Nat) : Fld := ⟨(a_GTB_CAPHEADX n), 9, 1, 0, .ro, .B⟩
/-- R66 GTB_CAPHEADX[8] RO. -/
def GTB_CAPHEADX_VALID (n : Nat) : Fld := ⟨(a_GTB_CAPHEADX n), 8, 1, 0, .ro, .B⟩
/-- R66 GTB_CAPHEADX[7:0] RO. -/
def GTB_CAPHEADX_FRAC (n : Nat) : Fld := ⟨(a_GTB_CAPHEADX n), 0, 8, 0, .ro, .B⟩
/-- EVR_ROUTE: address (R83). -/
def a_EVR_ROUTE (s : Nat) : Nat := 0x40020000 + s * 4
/-- R84 EVR_ROUTE[31] RW. -/
def EVR_ROUTE_EN (s : Nat) : Fld := ⟨(a_EVR_ROUTE s), 31, 1, 0, .rw, .cfg⟩
/-- R84 EVR_ROUTE[30] RW. -/
def EVR_ROUTE_WORLD (s : Nat) : Fld := ⟨(a_EVR_ROUTE s), 30, 1, 0, .rw, .cfg⟩
/-- R84 EVR_ROUTE[29:28] RW. -/
def EVR_ROUTE_CLASS (s : Nat) : Fld := ⟨(a_EVR_ROUTE s), 28, 2, (evrDefaultClass s), .rw, .cfg⟩
/-- R84 EVR_ROUTE[27] RW. -/
def EVR_ROUTE_LOG (s : Nat) : Fld := ⟨(a_EVR_ROUTE s), 27, 1, 0, .rw, .cfg⟩
/-- R84 EVR_ROUTE[26] RW. -/
def EVR_ROUTE_TRC (s : Nat) : Fld := ⟨(a_EVR_ROUTE s), 26, 1, 0, .rw, .cfg⟩
/-- R84 EVR_ROUTE[25] RW. -/
def EVR_ROUTE_IRQ (s : Nat) : Fld := ⟨(a_EVR_ROUTE s), 25, 1, 0, .rw, .cfg⟩
/-- R84 EVR_ROUTE[23:20] RW. -/
def EVR_ROUTE_DEST (s : Nat) : Fld := ⟨(a_EVR_ROUTE s), 20, 4, 0, .rw, .cfg⟩
/-- EVR_LOSSLOG: address (R83). -/
def a_EVR_LOSSLOG (s : Nat) : Nat := 0x40021000 + s * 4
/-- R84 EVR_LOSSLOG[31:0] RO. -/
def EVR_LOSSLOG_LOST (s : Nat) : Fld := ⟨(a_EVR_LOSSLOG s), 0, 32, 0, .ro, .C⟩
/-- EVR_LOSSTRC: address (R83). -/
def a_EVR_LOSSTRC (s : Nat) : Nat := 0x40021800 + s * 4
/-- R84 EVR_LOSSTRC[31:0] RO. -/
def EVR_LOSSTRC_LOST (s : Nat) : Fld := ⟨(a_EVR_LOSSTRC s), 0, 32, 0, .ro, .C⟩
/-- EVR_STAT: address (R83). -/
def a_EVR_STAT : Nat := 0x40020800
/-- R84 EVR_STAT[31] W1C. -/
def EVR_STAT_WRAPPED : Fld := ⟨a_EVR_STAT, 31, 1, 0, .w1c, .C⟩
/-- R84 EVR_STAT[30] W1C. -/
def EVR_STAT_LOGFULL : Fld := ⟨a_EVR_STAT, 30, 1, 0, .w1c, .C⟩
/-- R84 EVR_STAT[29:28] RO. -/
def EVR_STAT_TRCLVL : Fld := ⟨a_EVR_STAT, 28, 2, 0, .ro, .C⟩
/-- R84 EVR_STAT[27:26] RO. -/
def EVR_STAT_LOGLVL : Fld := ⟨a_EVR_STAT, 26, 2, 0, .ro, .C⟩
/-- R84 EVR_STAT[21:11] RO. -/
def EVR_STAT_TRCOCC : Fld := ⟨a_EVR_STAT, 11, 11, 0, .ro, .C⟩
/-- R84 EVR_STAT[10:0] RO. -/
def EVR_STAT_LOGOCC : Fld := ⟨a_EVR_STAT, 0, 11, 0, .ro, .C⟩
/-- EVR_LOGCFG: address (R83). -/
def a_EVR_LOGCFG : Nat := 0x40020804
/-- R84 EVR_LOGCFG[31] HU. -/
def EVR_LOGCFG_EN : Fld := ⟨a_EVR_LOGCFG, 31, 1, 0, .hu, .C⟩
/-- R84 EVR_LOGCFG[30] RW. -/
def EVR_LOGCFG_MODE : Fld := ⟨a_EVR_LOGCFG, 30, 1, 0, .rw, .C⟩
/-- R84 EVR_LOGCFG[4:0] RW. -/
def EVR_LOGCFG_SIZE : Fld := ⟨a_EVR_LOGCFG, 0, 5, 0xC, .rw, .C⟩
/-- EVR_LOGBASE: address (R83). -/
def a_EVR_LOGBASE : Nat := 0x40020808
/-- R84 EVR_LOGBASE[39:0] RW. -/
def EVR_LOGBASE_BASE : Fld := ⟨a_EVR_LOGBASE, 0, 40, 0, .rw, .C⟩
/-- EVR_LOGWR: address (R83). -/
def a_EVR_LOGWR : Nat := 0x40020810
/-- R84 EVR_LOGWR[15:0] RO. -/
def EVR_LOGWR_WR : Fld := ⟨a_EVR_LOGWR, 0, 16, 0, .ro, .C⟩
/-- EVR_LOGRD: address (R83). -/
def a_EVR_LOGRD : Nat := 0x40020814
/-- R84 EVR_LOGRD[15:0] RW. -/
def EVR_LOGRD_RD : Fld := ⟨a_EVR_LOGRD, 0, 16, 0, .rw, .C⟩
/-- EVR_TRCCFG: address (R83). -/
def a_EVR_TRCCFG : Nat := 0x40020818
/-- R84 EVR_TRCCFG[31] RW. -/
def EVR_TRCCFG_EN : Fld := ⟨a_EVR_TRCCFG, 31, 1, 0, .rw, .C⟩
/-- EVR_ALMSTAT: address (R83). -/
def a_EVR_ALMSTAT : Nat := 0x40020820
/-- R84 EVR_ALMSTAT[31] RO. -/
def EVR_ALMSTAT_FULL : Fld := ⟨a_EVR_ALMSTAT, 31, 1, 0, .ro, .C⟩
/-- R84 EVR_ALMSTAT[24:16] RO. -/
def EVR_ALMSTAT_USED : Fld := ⟨a_EVR_ALMSTAT, 16, 9, 0, .ro, .C⟩
/-- R84 EVR_ALMSTAT[15:0] RC. -/
def EVR_ALMSTAT_OVFCNT : Fld := ⟨a_EVR_ALMSTAT, 0, 16, 0, .rc, .C⟩
/-- EVR_ALMACK: address (R83). -/
def a_EVR_ALMACK : Nat := 0x40020824
/-- R84 EVR_ALMACK[24:16] WO. -/
def EVR_ALMACK_SRC : Fld := ⟨a_EVR_ALMACK, 16, 9, 0, .wo, .C⟩
/-- R84 EVR_ALMACK[15:0] WO. -/
def EVR_ALMACK_COUNT : Fld := ⟨a_EVR_ALMACK, 0, 16, 0, .wo, .C⟩
/-- EVR_ALMOVF: address (R83). -/
def a_EVR_ALMOVF (k : Nat) : Nat := 0x40020840 + k * 4
/-- R84 EVR_ALMOVF[31:0] W1C. -/
def EVR_ALMOVF_SRCBITS (k : Nat) : Fld := ⟨(a_EVR_ALMOVF k), 0, 32, 0, .w1c, .C⟩
/-- EVR_ALMSRC: address (R83). -/
def a_EVR_ALMSRC (e : Nat) : Nat := 0x40022000 + e * 0x20
/-- R84 EVR_ALMSRC[31] RO. -/
def EVR_ALMSRC_VALID (e : Nat) : Fld := ⟨(a_EVR_ALMSRC e), 31, 1, 0, .ro, .C⟩
/-- R84 EVR_ALMSRC[24:16] RO. -/
def EVR_ALMSRC_SRC (e : Nat) : Fld := ⟨(a_EVR_ALMSRC e), 16, 9, 0, .ro, .C⟩
/-- R84 EVR_ALMSRC[15:0] RO. -/
def EVR_ALMSRC_COUNT (e : Nat) : Fld := ⟨(a_EVR_ALMSRC e), 0, 16, 0, .ro, .C⟩
/-- EVR_ALMFIRST: address (R83). -/
def a_EVR_ALMFIRST (e : Nat) : Nat := 0x40022008 + e * 0x20
/-- R84 EVR_ALMFIRST[63:0] RO. -/
def EVR_ALMFIRST_NS (e : Nat) : Fld := ⟨(a_EVR_ALMFIRST e), 0, 64, 0, .ro, .C⟩
/-- EVR_ALMLAST: address (R83). -/
def a_EVR_ALMLAST (e : Nat) : Nat := 0x40022010 + e * 0x20
/-- R84 EVR_ALMLAST[63:0] RO. -/
def EVR_ALMLAST_NS (e : Nat) : Fld := ⟨(a_EVR_ALMLAST e), 0, 64, 0, .ro, .C⟩

/-- The registers of this file with their extents, for the decode of an address (R585, R586, R601). -/
def regTableRegTime0 : List RegDef :=
  [⟨.gtb, 0x40010000, 1, 0x0, 1, 0x0, 8, fun _ _ => [GTB_NOW_NS]⟩,
   ⟨.gtb, 0x40010008, 1, 0x0, 1, 0x0, 4, fun _ _ => [GTB_SNAPCTL_TAKE]⟩,
   ⟨.gtb, 0x40010010, 1, 0x0, 1, 0x0, 8, fun _ _ => [GTB_SNAP_NS]⟩,
   ⟨.gtb, 0x40010018, 1, 0x0, 1, 0x0, 4, fun _ _ => [GTB_SNAPX_QUAL, GTB_SNAPX_FRAC]⟩,
   ⟨.gtb, 0x40010020, 1, 0x0, 1, 0x0, 4, fun _ _ => [GTB_STAT_QUAL, GTB_STAT_STEPPED, GTB_STAT_HOLDOVER, GTB_STAT_LOCKED, GTB_STAT_GTB_VALID]⟩,
   ⟨.gtb, 0x40010024, 1, 0x0, 1, 0x0, 4, fun _ _ => [GTB_CFG_STEPMODE, GTB_CFG_SERVO, GTB_CFG_DOMAIN]⟩,
   ⟨.gtb, 0x40010028, 1, 0x0, 1, 0x0, 4, fun _ _ => [GTB_RATE_RATE]⟩,
   ⟨.gtb, 0x4001002C, 1, 0x0, 1, 0x0, 4, fun _ _ => [GTB_SRVCFG_REACQ, GTB_SRVCFG_SYNCTO, GTB_SRVCFG_LOCKN, GTB_SRVCFG_KP, GTB_SRVCFG_KI, GTB_SRVCFG_LOCKTHR]⟩,
   ⟨.gtb, 0x40010030, 1, 0x0, 1, 0x0, 8, fun _ _ => [GTB_ADJ_OFS]⟩,
   ⟨.gtb, 0x40010038, 1, 0x0, 1, 0x0, 4, fun _ _ => [GTB_ADJCTL_SLEW, GTB_ADJCTL_STEP]⟩,
   ⟨.gtb, 0x4001003C, 1, 0x0, 1, 0x0, 4, fun _ _ => [GTB_HOLDTIME_MS]⟩,
   ⟨.gtb, 0x40010040, 1, 0x0, 1, 0x0, 4, fun _ _ => [GTB_STEPTHR_NS]⟩,
   ⟨.gtb, 0x40010100, 4, 0x40, 1, 0x0, 4, fun i _ => [GTB_DCFG_EN i, GTB_DCFG_DOMNUM i, GTB_DCFG_LOGSYNC i, GTB_DCFG_SLVPORT i]⟩,
   ⟨.gtb, 0x40010104, 4, 0x40, 1, 0x0, 4, fun i _ => [GTB_DPORTS_PORTS i]⟩,
   ⟨.gtb, 0x40010108, 4, 0x40, 1, 0x0, 4, fun i _ => [GTB_DSTAT_GMCHG i, GTB_DSTAT_SYNCTO i, GTB_DSTAT_STATE i]⟩,
   ⟨.gtb, 0x40010110, 4, 0x40, 1, 0x0, 8, fun i _ => [GTB_DOFS_OFS i]⟩]
def regTableRegTime1 : List RegDef :=
  [⟨.gtb, 0x40010118, 4, 0x40, 1, 0x0, 4, fun i _ => [GTB_DRATIO_RATIO i]⟩,
   ⟨.gtb, 0x40010120, 4, 0x40, 1, 0x0, 8, fun i _ => [GTB_DGMID_GMID i]⟩,
   ⟨.gtb, 0x40011000, 8, 0x1000, 8, 0x20, 4, fun g k => [GTB_TRGCTL_EN (8 * g + k), GTB_TRGCTL_PERIODIC (8 * g + k), GTB_TRGCTL_STEPFOLLOW (8 * g + k), GTB_TRGCTL_OUTEN (8 * g + k), GTB_TRGCTL_OUT (8 * g + k), GTB_TRGCTL_PULSE (8 * g + k)]⟩,
   ⟨.gtb, 0x40011004, 8, 0x1000, 8, 0x20, 4, fun g k => [GTB_TRGSTAT_MISSED (8 * g + k), GTB_TRGSTAT_LATE (8 * g + k), GTB_TRGSTAT_ARMED (8 * g + k), GTB_TRGSTAT_FIRED (8 * g + k)]⟩,
   ⟨.gtb, 0x40011008, 8, 0x1000, 8, 0x20, 8, fun g k => [GTB_TRGCMP_CMP (8 * g + k)]⟩,
   ⟨.gtb, 0x40011010, 8, 0x1000, 8, 0x20, 4, fun g k => [GTB_TRGPER_PER (8 * g + k)]⟩,
   ⟨.gtb, 0x40011014, 8, 0x1000, 8, 0x20, 4, fun g k => [GTB_TRGPERF_CMPFRAC (8 * g + k), GTB_TRGPERF_PERFRAC (8 * g + k)]⟩,
   ⟨.gtb, 0x40011018, 8, 0x1000, 8, 0x20, 4, fun g k => [GTB_TRGCNT_CNT (8 * g + k)]⟩,
   ⟨.gtb, 0x40019000, 4, 0x1000, 8, 0x20, 4, fun g k => [GTB_CAPCTL_EN (8 * g + k), GTB_CAPCTL_EDGE (8 * g + k), GTB_CAPCTL_SRC (8 * g + k), GTB_CAPCTL_FILT (8 * g + k), GTB_CAPCTL_POP (8 * g + k)]⟩,
   ⟨.gtb, 0x40019004, 4, 0x1000, 8, 0x20, 4, fun g k => [GTB_CAPSTAT_OVF (8 * g + k), GTB_CAPSTAT_LEVEL (8 * g + k)]⟩,
   ⟨.gtb, 0x40019008, 4, 0x1000, 8, 0x20, 8, fun g k => [GTB_CAPHEAD_NS (8 * g + k)]⟩,
   ⟨.gtb, 0x40019010, 4, 0x1000, 8, 0x20, 4, fun g k => [GTB_CAPHEADX_EDGE (8 * g + k), GTB_CAPHEADX_VALID (8 * g + k), GTB_CAPHEADX_FRAC (8 * g + k)]⟩,
   ⟨.evr, 0x40020000, 320, 0x4, 1, 0x0, 4, fun i _ => [EVR_ROUTE_EN i, EVR_ROUTE_WORLD i, EVR_ROUTE_CLASS i, EVR_ROUTE_LOG i, EVR_ROUTE_TRC i, EVR_ROUTE_IRQ i, EVR_ROUTE_DEST i]⟩,
   ⟨.evr, 0x40021000, 320, 0x4, 1, 0x0, 4, fun i _ => [EVR_LOSSLOG_LOST i]⟩,
   ⟨.evr, 0x40021800, 320, 0x4, 1, 0x0, 4, fun i _ => [EVR_LOSSTRC_LOST i]⟩,
   ⟨.evr, 0x40020800, 1, 0x0, 1, 0x0, 4, fun _ _ => [EVR_STAT_WRAPPED, EVR_STAT_LOGFULL, EVR_STAT_TRCLVL, EVR_STAT_LOGLVL, EVR_STAT_TRCOCC, EVR_STAT_LOGOCC]⟩]
def regTableRegTime2 : List RegDef :=
  [⟨.evr, 0x40020804, 1, 0x0, 1, 0x0, 4, fun _ _ => [EVR_LOGCFG_EN, EVR_LOGCFG_MODE, EVR_LOGCFG_SIZE]⟩,
   ⟨.evr, 0x40020808, 1, 0x0, 1, 0x0, 8, fun _ _ => [EVR_LOGBASE_BASE]⟩,
   ⟨.evr, 0x40020810, 1, 0x0, 1, 0x0, 4, fun _ _ => [EVR_LOGWR_WR]⟩,
   ⟨.evr, 0x40020814, 1, 0x0, 1, 0x0, 4, fun _ _ => [EVR_LOGRD_RD]⟩,
   ⟨.evr, 0x40020818, 1, 0x0, 1, 0x0, 4, fun _ _ => [EVR_TRCCFG_EN]⟩,
   ⟨.evr, 0x40020820, 1, 0x0, 1, 0x0, 4, fun _ _ => [EVR_ALMSTAT_FULL, EVR_ALMSTAT_USED, EVR_ALMSTAT_OVFCNT]⟩,
   ⟨.evr, 0x40020824, 1, 0x0, 1, 0x0, 4, fun _ _ => [EVR_ALMACK_SRC, EVR_ALMACK_COUNT]⟩,
   ⟨.evr, 0x40020840, 10, 0x4, 1, 0x0, 4, fun i _ => [EVR_ALMOVF_SRCBITS i]⟩,
   ⟨.evr, 0x40022000, 256, 0x20, 1, 0x0, 4, fun i _ => [EVR_ALMSRC_VALID i, EVR_ALMSRC_SRC i, EVR_ALMSRC_COUNT i]⟩,
   ⟨.evr, 0x40022008, 256, 0x20, 1, 0x0, 8, fun i _ => [EVR_ALMFIRST_NS i]⟩,
   ⟨.evr, 0x40022010, 256, 0x20, 1, 0x0, 8, fun i _ => [EVR_ALMLAST_NS i]⟩]
def regTableRegTime : List RegDef :=
  regTableRegTime0 ++ regTableRegTime1 ++ regTableRegTime2

end Sys2Proof.Machine
end

