-- ==== Sys2Proof/Machine/RegVim.lean ====
section
/-! DEFINITION. The fields of the VIM and instance page registers, one definition per field: its address, place, width,
reset value, access code and reset kind, from the layout and address tables of spec/ (R474, R497). -/

namespace Sys2Proof.Machine

/-- VIM_GCTL: address (R497). -/
def a_VIM_GCTL : Nat := 0x47000000
/-- R498 VIM_GCTL[31] RW. -/
def VIM_GCTL_EN : Fld := ⟨a_VIM_GCTL, 31, 1, 0, .rw, .C⟩
/-- R498 VIM_GCTL[27:16] RW. -/
def VIM_GCTL_CELLBUD : Fld := ⟨a_VIM_GCTL, 16, 12, 0x7C0, .rw, .C⟩
/-- R498 VIM_GCTL[10:0] RW. -/
def VIM_GCTL_BUDGET : Fld := ⟨a_VIM_GCTL, 0, 11, 0x200, .rw, .C⟩
/-- VIM_GSTAT: address (R497). -/
def a_VIM_GSTAT : Nat := 0x47000004
/-- R498 VIM_GSTAT[31:23] RO. -/
def VIM_GSTAT_NACT : Fld := ⟨a_VIM_GSTAT, 23, 9, 0, .ro, .C⟩
/-- R498 VIM_GSTAT[22:11] RO. -/
def VIM_GSTAT_CELLS : Fld := ⟨a_VIM_GSTAT, 11, 12, 0, .ro, .C⟩
/-- R498 VIM_GSTAT[10:0] RO. -/
def VIM_GSTAT_RATE : Fld := ⟨a_VIM_GSTAT, 0, 11, 0, .ro, .C⟩
/-- VIM_CMD: address (R497). -/
def a_VIM_CMD : Nat := 0x47000008
/-- R498 VIM_CMD[31] W1S. -/
def VIM_CMD_GO : Fld := ⟨a_VIM_CMD, 31, 1, 0, .w1s, .C⟩
/-- R498 VIM_CMD[30] W1C. -/
def VIM_CMD_ERR : Fld := ⟨a_VIM_CMD, 30, 1, 0, .w1c, .C⟩
/-- R498 VIM_CMD[23:20] RO. -/
def VIM_CMD_ERRC : Fld := ⟨a_VIM_CMD, 20, 4, 0, .ro, .C⟩
/-- R498 VIM_CMD[15:8] RW. -/
def VIM_CMD_VI : Fld := ⟨a_VIM_CMD, 8, 8, 0, .rw, .C⟩
/-- R498 VIM_CMD[3:0] RW. -/
def VIM_CMD_OP : Fld := ⟨a_VIM_CMD, 0, 4, 0, .rw, .C⟩
/-- VIM_CMDARG: address (R497). -/
def a_VIM_CMDARG : Nat := 0x4700000C
/-- R498 VIM_CMDARG[31:29] RW. -/
def VIM_CMDARG_KIND : Fld := ⟨a_VIM_CMDARG, 29, 3, 0, .rw, .C⟩
/-- R498 VIM_CMDARG[28:24] RW. -/
def VIM_CMDARG_SLOT : Fld := ⟨a_VIM_CMDARG, 24, 5, 0, .rw, .C⟩
/-- R498 VIM_CMDARG[9:8] RW. -/
def VIM_CMDARG_BIND : Fld := ⟨a_VIM_CMDARG, 8, 2, 0, .rw, .C⟩
/-- R498 VIM_CMDARG[7:0] RW. -/
def VIM_CMDARG_FN : Fld := ⟨a_VIM_CMDARG, 0, 8, 0, .rw, .C⟩
/-- VIM_CMDRES: address (R497). -/
def a_VIM_CMDRES : Nat := 0x47000010
/-- R498 VIM_CMDRES[31:16] RO. -/
def VIM_CMDRES_ABANDONED : Fld := ⟨a_VIM_CMDRES, 16, 16, 0, .ro, .C⟩
/-- R498 VIM_CMDRES[15:0] RO. -/
def VIM_CMDRES_TIME : Fld := ⟨a_VIM_CMDRES, 0, 16, 0, .ro, .C⟩
/-- VIM_CPSTAT: address (R497). -/
def a_VIM_CPSTAT (p : Nat) : Nat := 0x47000020 + p * 4
/-- R498 VIM_CPSTAT[31:16] RC. -/
def VIM_CPSTAT_NOMATCH (p : Nat) : Fld := ⟨(a_VIM_CPSTAT p), 16, 16, 0, .rc, .C⟩
/-- R498 VIM_CPSTAT[8:0] RO. -/
def VIM_CPSTAT_NINST (p : Nat) : Fld := ⟨(a_VIM_CPSTAT p), 0, 9, 0, .ro, .C⟩
/-- VIM_LNOTE: address (R497). -/
def a_VIM_LNOTE (k : Nat) : Nat := 0x47001000 + k * 4
/-- R498 VIM_LNOTE[31:0] W1C. -/
def VIM_LNOTE_VI (k : Nat) : Fld := ⟨(a_VIM_LNOTE k), 0, 32, 0, .w1c, .C⟩
/-- VIM_ICFG: address (R497). -/
def a_VIM_ICFG (i : Nat) : Nat := 0x47100000 + i * 0x1000
/-- R498 VIM_ICFG[31:30] RW. -/
def VIM_ICFG_BIND (i : Nat) : Fld := ⟨(a_VIM_ICFG i), 30, 2, 0, .rw, .C⟩
/-- R498 VIM_ICFG[29] RW. -/
def VIM_ICFG_FAULTRST (i : Nat) : Fld := ⟨(a_VIM_ICFG i), 29, 1, 0, .rw, .C⟩
/-- R498 VIM_ICFG[23:16] RW. -/
def VIM_ICFG_QTO (i : Nat) : Fld := ⟨(a_VIM_ICFG i), 16, 8, 0x64, .rw, .C⟩
/-- R498 VIM_ICFG[7:0] RW. -/
def VIM_ICFG_FN (i : Nat) : Fld := ⟨(a_VIM_ICFG i), 0, 8, 0, .rw, .C⟩
/-- VIM_ISTAT: address (R497). -/
def a_VIM_ISTAT (i : Nat) : Nat := 0x47100004 + i * 0x1000
/-- R498 VIM_ISTAT[31:29] RO. -/
def VIM_ISTAT_STATE (i : Nat) : Fld := ⟨(a_VIM_ISTAT i), 29, 3, 0, .ro, .C⟩
/-- R498 VIM_ISTAT[23:16] RO. -/
def VIM_ISTAT_GEN (i : Nat) : Fld := ⟨(a_VIM_ISTAT i), 16, 8, 1, .ro, .C⟩
/-- R498 VIM_ISTAT[15:12] RO. -/
def VIM_ISTAT_FCODE (i : Nat) : Fld := ⟨(a_VIM_ISTAT i), 12, 4, 0, .ro, .C⟩
/-- R498 VIM_ISTAT[11] W1C. -/
def VIM_ISTAT_LIMERR (i : Nat) : Fld := ⟨(a_VIM_ISTAT i), 11, 1, 0, .w1c, .C⟩
/-- R498 VIM_ISTAT[7:0] RC. -/
def VIM_ISTAT_STALE (i : Nat) : Fld := ⟨(a_VIM_ISTAT i), 0, 8, 0, .rc, .C⟩
/-- VIM_LIM: address (R497). -/
def a_VIM_LIM (i : Nat) : Nat := 0x47100008 + i * 0x1000
/-- R498 VIM_LIM[26:16] RW. -/
def VIM_LIM_RATE (i : Nat) : Fld := ⟨(a_VIM_LIM i), 16, 11, 0, .rw, .C⟩
/-- R498 VIM_LIM[15:8] RW. -/
def VIM_LIM_BURST (i : Nat) : Fld := ⟨(a_VIM_LIM i), 8, 8, 0x10, .rw, .C⟩
/-- R498 VIM_LIM[5:0] RW. -/
def VIM_LIM_OUTST (i : Nat) : Fld := ⟨(a_VIM_LIM i), 0, 6, 8, .rw, .C⟩
/-- VIM_LIM2: address (R497). -/
def a_VIM_LIM2 (i : Nat) : Nat := 0x4710000C + i * 0x1000
/-- R498 VIM_LIM2[31:28] RW. -/
def VIM_LIM2_PSCQ (i : Nat) : Fld := ⟨(a_VIM_LIM2 i), 28, 4, 0, .rw, .C⟩
/-- R498 VIM_LIM2[27:16] RW. -/
def VIM_LIM2_CELLS (i : Nat) : Fld := ⟨(a_VIM_LIM2 i), 16, 12, 0, .rw, .C⟩
/-- VIM_ICNT: address (R497). -/
def a_VIM_ICNT (i : Nat) : Nat := 0x47100010 + i * 0x1000
/-- R498 VIM_ICNT[31:16] RC. -/
def VIM_ICNT_RESETS (i : Nat) : Fld := ⟨(a_VIM_ICNT i), 16, 16, 0, .rc, .C⟩
/-- R498 VIM_ICNT[15:8] RC. -/
def VIM_ICNT_FAULTS (i : Nat) : Fld := ⟨(a_VIM_ICNT i), 8, 8, 0, .rc, .C⟩
/-- R498 VIM_ICNT[7:0] RC. -/
def VIM_ICNT_LIMHIT (i : Nat) : Fld := ⟨(a_VIM_ICNT i), 0, 8, 0, .rc, .C⟩
/-- VIM_IATT: address (R497). -/
def a_VIM_IATT (i : Nat) : Nat := 0x47100014 + i * 0x1000
/-- R498 VIM_IATT[20] RO. -/
def VIM_IATT_TG (i : Nat) : Fld := ⟨(a_VIM_IATT i), 20, 1, 0, .ro, .C⟩
/-- R498 VIM_IATT[19] RO. -/
def VIM_IATT_RSET (i : Nat) : Fld := ⟨(a_VIM_IATT i), 19, 1, 0, .ro, .C⟩
/-- R498 VIM_IATT[18] RO. -/
def VIM_IATT_PSC (i : Nat) : Fld := ⟨(a_VIM_IATT i), 18, 1, 0, .ro, .C⟩
/-- R498 VIM_IATT[17:16] RO. -/
def VIM_IATT_CAN (i : Nat) : Fld := ⟨(a_VIM_IATT i), 16, 2, 0, .ro, .C⟩
/-- R498 VIM_IATT[15:0] RO. -/
def VIM_IATT_QP (i : Nat) : Fld := ⟨(a_VIM_IATT i), 0, 16, 0, .ro, .C⟩
/-- VIM_PSCMASK: address (R497). -/
def a_VIM_PSCMASK (i : Nat) : Nat := 0x47100300 + i * 0x1000
/-- R498 VIM_PSCMASK[39:0] RW. -/
def VIM_PSCMASK_CH (i : Nat) : Fld := ⟨(a_VIM_PSCMASK i), 0, 40, 0, .rw, .C⟩
/-- VIM_RSET: address (R497). -/
def a_VIM_RSET (i : Nat) : Nat := 0x47100308 + i * 0x1000
/-- R498 VIM_RSET[31:16] RW. -/
def VIM_RSET_RBASE (i : Nat) : Fld := ⟨(a_VIM_RSET i), 16, 16, 0, .rw, .C⟩
/-- R498 VIM_RSET[8:0] RW. -/
def VIM_RSET_RCNT (i : Nat) : Fld := ⟨(a_VIM_RSET i), 0, 9, 0, .rw, .C⟩
/-- VIM_RSLAY: address (R497). -/
def a_VIM_RSLAY (i : Nat) : Nat := 0x4710030C + i * 0x1000
/-- R498 VIM_RSLAY[31:20] RW. -/
def VIM_RSLAY_LBASE (i : Nat) : Fld := ⟨(a_VIM_RSLAY i), 20, 12, 0, .rw, .C⟩
/-- R498 VIM_RSLAY[12:0] RW. -/
def VIM_RSLAY_LCNT (i : Nat) : Fld := ⟨(a_VIM_RSLAY i), 0, 13, 0, .rw, .C⟩
/-- VIM_RSCONV: address (R497). -/
def a_VIM_RSCONV (i : Nat) : Nat := 0x47100310 + i * 0x1000
/-- R498 VIM_RSCONV[28:16] RW. -/
def VIM_RSCONV_CBASE (i : Nat) : Fld := ⟨(a_VIM_RSCONV i), 16, 13, 0, .rw, .C⟩
/-- R498 VIM_RSCONV[13:0] RW. -/
def VIM_RSCONV_CCNT (i : Nat) : Fld := ⟨(a_VIM_RSCONV i), 0, 14, 0, .rw, .C⟩
/-- VIM_TG: address (R497). -/
def a_VIM_TG (i : Nat) : Nat := 0x47100314 + i * 0x1000
/-- R498 VIM_TG[31:28] RW. -/
def VIM_TG_ENG (i : Nat) : Fld := ⟨(a_VIM_TG i), 28, 4, 0, .rw, .C⟩
/-- VIM_APBASE: address (R497). -/
def a_VIM_APBASE (i a : Nat) : Nat := 0x47100040 + i * 0x1000 + a * 0x10
/-- R498 VIM_APBASE[63] RW. -/
def VIM_APBASE_EN (i a : Nat) : Fld := ⟨(a_VIM_APBASE i a), 63, 1, 0, .rw, .C⟩
/-- R498 VIM_APBASE[62] RW. -/
def VIM_APBASE_W (i a : Nat) : Fld := ⟨(a_VIM_APBASE i a), 62, 1, 0, .rw, .C⟩
/-- R498 VIM_APBASE[39:12] RW. -/
def VIM_APBASE_BASE (i a : Nat) : Fld := ⟨(a_VIM_APBASE i a), 12, 28, 0, .rw, .C⟩
/-- VIM_APLIM: address (R497). -/
def a_VIM_APLIM (i a : Nat) : Nat := 0x47100048 + i * 0x1000 + a * 0x10
/-- R498 VIM_APLIM[39:12] RW. -/
def VIM_APLIM_LIMIT (i a : Nat) : Fld := ⟨(a_VIM_APLIM i a), 12, 28, 0, .rw, .C⟩
/-- VIM_QP: address (R497). -/
def a_VIM_QP (i s : Nat) : Nat := 0x47100100 + i * 0x1000 + s * 0x10
/-- R498 VIM_QP[31] RW. -/
def VIM_QP_MCAST (i s : Nat) : Fld := ⟨(a_VIM_QP i s), 31, 1, 0, .rw, .C⟩
/-- R498 VIM_QP[30] RW. -/
def VIM_QP_CP (i s : Nat) : Fld := ⟨(a_VIM_QP i s), 30, 1, 0, .rw, .C⟩
/-- R498 VIM_QP[29:27] RW. -/
def VIM_QP_MAXQ (i s : Nat) : Fld := ⟨(a_VIM_QP i s), 27, 3, 0, .rw, .C⟩
/-- R498 VIM_QP[20:12] RW. -/
def VIM_QP_QP (i s : Nat) : Fld := ⟨(a_VIM_QP i s), 12, 9, 0, .rw, .C⟩
/-- R498 VIM_QP[11:0] RW. -/
def VIM_QP_VID (i s : Nat) : Fld := ⟨(a_VIM_QP i s), 0, 12, 0, .rw, .C⟩
/-- VIM_QPMAC: address (R497). -/
def a_VIM_QPMAC (i s : Nat) : Nat := 0x47100108 + i * 0x1000 + s * 0x10
/-- R498 VIM_QPMAC[47:0] RW. -/
def VIM_QPMAC_MAC (i s : Nat) : Fld := ⟨(a_VIM_QPMAC i s), 0, 48, 0, .rw, .C⟩
/-- VIM_CAN: address (R497). -/
def a_VIM_CAN (i c : Nat) : Nat := 0x47100200 + i * 0x1000 + c * 0x10
/-- R498 VIM_CAN[31:28] RW. -/
def VIM_CAN_CH (i c : Nat) : Fld := ⟨(a_VIM_CAN i c), 28, 4, 0, .rw, .C⟩
/-- R498 VIM_CAN[27:21] RW. -/
def VIM_CAN_OBASE (i c : Nat) : Fld := ⟨(a_VIM_CAN i c), 21, 7, 0, .rw, .C⟩
/-- R498 VIM_CAN[20:16] RW. -/
def VIM_CAN_OCNT (i c : Nat) : Fld := ⟨(a_VIM_CAN i c), 16, 5, 0, .rw, .C⟩
/-- R498 VIM_CAN[9:0] RW. -/
def VIM_CAN_PBBASE (i c : Nat) : Fld := ⟨(a_VIM_CAN i c), 0, 10, 0, .rw, .C⟩
/-- VIM_CANID: address (R497). -/
def a_VIM_CANID (i c : Nat) : Nat := 0x47100204 + i * 0x1000 + c * 0x10
/-- R498 VIM_CANID[31] RW. -/
def VIM_CANID_IDE (i c : Nat) : Fld := ⟨(a_VIM_CANID i c), 31, 1, 0, .rw, .C⟩
/-- R498 VIM_CANID[28:0] RW. -/
def VIM_CANID_ID (i c : Nat) : Fld := ⟨(a_VIM_CANID i c), 0, 29, 0, .rw, .C⟩
/-- VIM_CANMASK: address (R497). -/
def a_VIM_CANMASK (i c : Nat) : Nat := 0x47100208 + i * 0x1000 + c * 0x10
/-- R498 VIM_CANMASK[28:0] RW. -/
def VIM_CANMASK_MASK (i c : Nat) : Fld := ⟨(a_VIM_CANMASK i c), 0, 29, 0x1FFFFFFF, .rw, .C⟩
/-- VIM_CANTX: address (R497). -/
def a_VIM_CANTX (i c : Nat) : Nat := 0x4710020C + i * 0x1000 + c * 0x10
/-- R498 VIM_CANTX[15:0] RW. -/
def VIM_CANTX_TXMAX (i c : Nat) : Fld := ⟨(a_VIM_CANTX i c), 0, 16, 0, .rw, .C⟩
/-- VI_INFO: address (R474). -/
def a_VI_INFO (i : Nat) : Nat := 0x60000000 + i * 0x10000
/-- R499 VI_INFO[31:24] RO. -/
def VI_INFO_GEN (i : Nat) : Fld := ⟨(a_VI_INFO i), 24, 8, 1, .ro, .C⟩
/-- R499 VI_INFO[9:8] RO. -/
def VI_INFO_BIND (i : Nat) : Fld := ⟨(a_VI_INFO i), 8, 2, 0, .ro, .C⟩
/-- R499 VI_INFO[7:0] RO. -/
def VI_INFO_VI (i : Nat) : Fld := ⟨(a_VI_INFO i), 0, 8, i, .ro, .cfg⟩
/-- VI_STAT: address (R474). -/
def a_VI_STAT (i : Nat) : Nat := 0x60000004 + i * 0x10000
/-- R499 VI_STAT[31:29] RO. -/
def VI_STAT_STATE (i : Nat) : Fld := ⟨(a_VI_STAT i), 29, 3, 0, .ro, .C⟩
/-- R499 VI_STAT[23:20] RO. -/
def VI_STAT_FCODE (i : Nat) : Fld := ⟨(a_VI_STAT i), 20, 4, 0, .ro, .I⟩
/-- R499 VI_STAT[15:8] RO. -/
def VI_STAT_RESETS (i : Nat) : Fld := ⟨(a_VI_STAT i), 8, 8, 0, .ro, .C⟩
/-- VI_CTL: address (R474). -/
def a_VI_CTL (i : Nat) : Nat := 0x60000008 + i * 0x10000
/-- R499 VI_CTL[31] WO. -/
def VI_CTL_RESET (i : Nat) : Fld := ⟨(a_VI_CTL i), 31, 1, 0, .wo, .I⟩
/-- VI_VIEW: address (R474). -/
def a_VI_VIEW (i : Nat) : Nat := 0x6000000C + i * 0x10000
/-- R499 VI_VIEW[31:27] RO. -/
def VI_VIEW_NQP (i : Nat) : Fld := ⟨(a_VI_VIEW i), 27, 5, 0, .ro, .C⟩
/-- R499 VI_VIEW[26:25] RO. -/
def VI_VIEW_CAN (i : Nat) : Fld := ⟨(a_VI_VIEW i), 25, 2, 0, .ro, .C⟩
/-- R499 VI_VIEW[24] RO. -/
def VI_VIEW_RSET (i : Nat) : Fld := ⟨(a_VI_VIEW i), 24, 1, 0, .ro, .C⟩
/-- R499 VI_VIEW[23] RO. -/
def VI_VIEW_TG (i : Nat) : Fld := ⟨(a_VI_VIEW i), 23, 1, 0, .ro, .C⟩
/-- R499 VI_VIEW[21:16] RO. -/
def VI_VIEW_NPSC (i : Nat) : Fld := ⟨(a_VI_VIEW i), 16, 6, 0, .ro, .C⟩
/-- VI_NOTE: address (R474). -/
def a_VI_NOTE (i : Nat) : Nat := 0x60000010 + i * 0x10000
/-- R499 VI_NOTE[20:0] W1C. -/
def VI_NOTE_BITS (i : Nat) : Fld := ⟨(a_VI_NOTE i), 0, 21, 0, .w1c, .I⟩
/-- VI_NMASK: address (R474). -/
def a_VI_NMASK (i : Nat) : Nat := 0x60000014 + i * 0x10000
/-- R499 VI_NMASK[20:0] RW. -/
def VI_NMASK_BITS (i : Nat) : Fld := ⟨(a_VI_NMASK i), 0, 21, 0, .rw, .I⟩
/-- VI_TGWIN: address (R474). -/
def a_VI_TGWIN (i : Nat) : Nat := 0x60000018 + i * 0x10000
/-- R499 VI_TGWIN[1] RW. -/
def VI_TGWIN_SEL (i : Nat) : Fld := ⟨(a_VI_TGWIN i), 1, 1, 0, .rw, .I⟩
/-- R499 VI_TGWIN[0] RW. -/
def VI_TGWIN_HALF (i : Nat) : Fld := ⟨(a_VI_TGWIN i), 0, 1, 0, .rw, .I⟩
/-- VI_TXBASE: address (R474). -/
def a_VI_TXBASE (i s : Nat) : Nat := 0x60001000 + i * 0x10000 + s * 0x100
/-- R499 VI_TXBASE[39:12] RW. -/
def VI_TXBASE_BASE (i s : Nat) : Fld := ⟨(a_VI_TXBASE i s), 12, 28, 0, .rw, .I⟩
/-- VI_TXCTL: address (R474). -/
def a_VI_TXCTL (i s : Nat) : Nat := 0x60001008 + i * 0x10000 + s * 0x100
/-- R499 VI_TXCTL[31] RW. -/
def VI_TXCTL_EN (i s : Nat) : Fld := ⟨(a_VI_TXCTL i s), 31, 1, 0, .rw, .I⟩
/-- R499 VI_TXCTL[3:0] RW. -/
def VI_TXCTL_SIZE (i s : Nat) : Fld := ⟨(a_VI_TXCTL i s), 0, 4, 4, .rw, .I⟩
/-- VI_TXTAIL: address (R474). -/
def a_VI_TXTAIL (i s : Nat) : Nat := 0x6000100C + i * 0x10000 + s * 0x100
/-- R499 VI_TXTAIL[11:0] RW. -/
def VI_TXTAIL_TAIL (i s : Nat) : Fld := ⟨(a_VI_TXTAIL i s), 0, 12, 0, .rw, .I⟩
/-- VI_TXHEAD: address (R474). -/
def a_VI_TXHEAD (i s : Nat) : Nat := 0x60001010 + i * 0x10000 + s * 0x100
/-- R499 VI_TXHEAD[11:0] RO. -/
def VI_TXHEAD_HEAD (i s : Nat) : Fld := ⟨(a_VI_TXHEAD i s), 0, 12, 0, .ro, .I⟩
/-- VI_RXBASE: address (R474). -/
def a_VI_RXBASE (i s : Nat) : Nat := 0x60001020 + i * 0x10000 + s * 0x100
/-- R499 VI_RXBASE[39:12] RW. -/
def VI_RXBASE_BASE (i s : Nat) : Fld := ⟨(a_VI_RXBASE i s), 12, 28, 0, .rw, .I⟩
/-- VI_RXCTL: address (R474). -/
def a_VI_RXCTL (i s : Nat) : Nat := 0x60001028 + i * 0x10000 + s * 0x100
/-- R499 VI_RXCTL[31] RW. -/
def VI_RXCTL_EN (i s : Nat) : Fld := ⟨(a_VI_RXCTL i s), 31, 1, 0, .rw, .I⟩
/-- R499 VI_RXCTL[3:0] RW. -/
def VI_RXCTL_SIZE (i s : Nat) : Fld := ⟨(a_VI_RXCTL i s), 0, 4, 4, .rw, .I⟩
/-- VI_RXTAIL: address (R474). -/
def a_VI_RXTAIL (i s : Nat) : Nat := 0x6000102C + i * 0x10000 + s * 0x100
/-- R499 VI_RXTAIL[11:0] RW. -/
def VI_RXTAIL_TAIL (i s : Nat) : Fld := ⟨(a_VI_RXTAIL i s), 0, 12, 0, .rw, .I⟩
/-- VI_RXHEAD: address (R474). -/
def a_VI_RXHEAD (i s : Nat) : Nat := 0x60001030 + i * 0x10000 + s * 0x100
/-- R499 VI_RXHEAD[11:0] RO. -/
def VI_RXHEAD_HEAD (i s : Nat) : Fld := ⟨(a_VI_RXHEAD i s), 0, 12, 0, .ro, .I⟩
/-- VI_QPSTAT: address (R474). -/
def a_VI_QPSTAT (i s : Nat) : Nat := 0x60001040 + i * 0x10000 + s * 0x100
/-- R499 VI_QPSTAT[31:24] RC. -/
def VI_QPSTAT_SPOOF (i s : Nat) : Fld := ⟨(a_VI_QPSTAT i s), 24, 8, 0, .rc, .I⟩
/-- R499 VI_QPSTAT[23:16] RC. -/
def VI_QPSTAT_RXNOBUF (i s : Nat) : Fld := ⟨(a_VI_QPSTAT i s), 16, 8, 0, .rc, .I⟩
/-- R499 VI_QPSTAT[15:8] RC. -/
def VI_QPSTAT_TXERR (i s : Nat) : Fld := ⟨(a_VI_QPSTAT i s), 8, 8, 0, .rc, .I⟩
/-- VI_QPINFO: address (R474). -/
def a_VI_QPINFO (i s : Nat) : Nat := 0x60001044 + i * 0x10000 + s * 0x100
/-- R499 VI_QPINFO[20:12] RO. -/
def VI_QPINFO_QP (i s : Nat) : Fld := ⟨(a_VI_QPINFO i s), 12, 9, 0, .ro, .C⟩
/-- R499 VI_QPINFO[11:0] RO. -/
def VI_QPINFO_VID (i s : Nat) : Fld := ⟨(a_VI_QPINFO i s), 0, 12, 0, .ro, .C⟩
/-- VI_PSCCH: address (R474). -/
def a_VI_PSCCH (i k : Nat) : Nat := 0x60002018 + i * 0x10000 + k * 0x40
/-- R499 VI_PSCCH[5:0] RO. -/
def VI_PSCCH_CH (i k : Nat) : Fld := ⟨(a_VI_PSCCH i k), 0, 6, 0, .ro, .C⟩

/-- The registers of this file with their extents, for the decode of an address (R585, R586, R601). -/
def regTableRegVim0 : List RegDef :=
  [⟨.vim, 0x47000000, 1, 0x0, 1, 0x0, 4, fun _ _ => [VIM_GCTL_EN, VIM_GCTL_CELLBUD, VIM_GCTL_BUDGET]⟩,
   ⟨.vim, 0x47000004, 1, 0x0, 1, 0x0, 4, fun _ _ => [VIM_GSTAT_NACT, VIM_GSTAT_CELLS, VIM_GSTAT_RATE]⟩,
   ⟨.vim, 0x47000008, 1, 0x0, 1, 0x0, 4, fun _ _ => [VIM_CMD_GO, VIM_CMD_ERR, VIM_CMD_ERRC, VIM_CMD_VI, VIM_CMD_OP]⟩,
   ⟨.vim, 0x4700000C, 1, 0x0, 1, 0x0, 4, fun _ _ => [VIM_CMDARG_KIND, VIM_CMDARG_SLOT, VIM_CMDARG_BIND, VIM_CMDARG_FN]⟩,
   ⟨.vim, 0x47000010, 1, 0x0, 1, 0x0, 4, fun _ _ => [VIM_CMDRES_ABANDONED, VIM_CMDRES_TIME]⟩,
   ⟨.vim, 0x47000020, 2, 0x4, 1, 0x0, 4, fun i _ => [VIM_CPSTAT_NOMATCH i, VIM_CPSTAT_NINST i]⟩,
   ⟨.vim, 0x47001000, 8, 0x4, 1, 0x0, 4, fun i _ => [VIM_LNOTE_VI i]⟩,
   ⟨.vim, 0x47100000, 256, 0x1000, 1, 0x0, 4, fun i _ => [VIM_ICFG_BIND i, VIM_ICFG_FAULTRST i, VIM_ICFG_QTO i, VIM_ICFG_FN i]⟩,
   ⟨.vim, 0x47100004, 256, 0x1000, 1, 0x0, 4, fun i _ => [VIM_ISTAT_STATE i, VIM_ISTAT_GEN i, VIM_ISTAT_FCODE i, VIM_ISTAT_LIMERR i, VIM_ISTAT_STALE i]⟩,
   ⟨.vim, 0x47100008, 256, 0x1000, 1, 0x0, 4, fun i _ => [VIM_LIM_RATE i, VIM_LIM_BURST i, VIM_LIM_OUTST i]⟩,
   ⟨.vim, 0x4710000C, 256, 0x1000, 1, 0x0, 4, fun i _ => [VIM_LIM2_PSCQ i, VIM_LIM2_CELLS i]⟩,
   ⟨.vim, 0x47100010, 256, 0x1000, 1, 0x0, 4, fun i _ => [VIM_ICNT_RESETS i, VIM_ICNT_FAULTS i, VIM_ICNT_LIMHIT i]⟩,
   ⟨.vim, 0x47100014, 256, 0x1000, 1, 0x0, 4, fun i _ => [VIM_IATT_TG i, VIM_IATT_RSET i, VIM_IATT_PSC i, VIM_IATT_CAN i, VIM_IATT_QP i]⟩,
   ⟨.vim, 0x47100300, 256, 0x1000, 1, 0x0, 8, fun i _ => [VIM_PSCMASK_CH i]⟩,
   ⟨.vim, 0x47100308, 256, 0x1000, 1, 0x0, 4, fun i _ => [VIM_RSET_RBASE i, VIM_RSET_RCNT i]⟩,
   ⟨.vim, 0x4710030C, 256, 0x1000, 1, 0x0, 4, fun i _ => [VIM_RSLAY_LBASE i, VIM_RSLAY_LCNT i]⟩]
def regTableRegVim1 : List RegDef :=
  [⟨.vim, 0x47100310, 256, 0x1000, 1, 0x0, 4, fun i _ => [VIM_RSCONV_CBASE i, VIM_RSCONV_CCNT i]⟩,
   ⟨.vim, 0x47100314, 256, 0x1000, 1, 0x0, 4, fun i _ => [VIM_TG_ENG i]⟩,
   ⟨.vim, 0x47100040, 256, 0x1000, 4, 0x10, 8, fun i j => [VIM_APBASE_EN i j, VIM_APBASE_W i j, VIM_APBASE_BASE i j]⟩,
   ⟨.vim, 0x47100048, 256, 0x1000, 4, 0x10, 8, fun i j => [VIM_APLIM_LIMIT i j]⟩,
   ⟨.vim, 0x47100100, 256, 0x1000, 16, 0x10, 4, fun i j => [VIM_QP_MCAST i j, VIM_QP_CP i j, VIM_QP_MAXQ i j, VIM_QP_QP i j, VIM_QP_VID i j]⟩,
   ⟨.vim, 0x47100108, 256, 0x1000, 16, 0x10, 8, fun i j => [VIM_QPMAC_MAC i j]⟩,
   ⟨.vim, 0x47100200, 256, 0x1000, 2, 0x10, 4, fun i j => [VIM_CAN_CH i j, VIM_CAN_OBASE i j, VIM_CAN_OCNT i j, VIM_CAN_PBBASE i j]⟩,
   ⟨.vim, 0x47100204, 256, 0x1000, 2, 0x10, 4, fun i j => [VIM_CANID_IDE i j, VIM_CANID_ID i j]⟩,
   ⟨.vim, 0x47100208, 256, 0x1000, 2, 0x10, 4, fun i j => [VIM_CANMASK_MASK i j]⟩,
   ⟨.vim, 0x4710020C, 256, 0x1000, 2, 0x10, 4, fun i j => [VIM_CANTX_TXMAX i j]⟩,
   ⟨.vi, 0x60000000, 256, 0x10000, 1, 0x0, 4, fun i _ => [VI_INFO_GEN i, VI_INFO_BIND i, VI_INFO_VI i]⟩,
   ⟨.vi, 0x60000004, 256, 0x10000, 1, 0x0, 4, fun i _ => [VI_STAT_STATE i, VI_STAT_FCODE i, VI_STAT_RESETS i]⟩,
   ⟨.vi, 0x60000008, 256, 0x10000, 1, 0x0, 4, fun i _ => [VI_CTL_RESET i]⟩,
   ⟨.vi, 0x6000000C, 256, 0x10000, 1, 0x0, 4, fun i _ => [VI_VIEW_NQP i, VI_VIEW_CAN i, VI_VIEW_RSET i, VI_VIEW_TG i, VI_VIEW_NPSC i]⟩,
   ⟨.vi, 0x60000010, 256, 0x10000, 1, 0x0, 4, fun i _ => [VI_NOTE_BITS i]⟩,
   ⟨.vi, 0x60000014, 256, 0x10000, 1, 0x0, 4, fun i _ => [VI_NMASK_BITS i]⟩]
def regTableRegVim2 : List RegDef :=
  [⟨.vi, 0x60000018, 256, 0x10000, 1, 0x0, 4, fun i _ => [VI_TGWIN_SEL i, VI_TGWIN_HALF i]⟩,
   ⟨.vi, 0x60001000, 256, 0x10000, 16, 0x100, 8, fun i j => [VI_TXBASE_BASE i j]⟩,
   ⟨.vi, 0x60001008, 256, 0x10000, 16, 0x100, 4, fun i j => [VI_TXCTL_EN i j, VI_TXCTL_SIZE i j]⟩,
   ⟨.vi, 0x6000100C, 256, 0x10000, 16, 0x100, 4, fun i j => [VI_TXTAIL_TAIL i j]⟩,
   ⟨.vi, 0x60001010, 256, 0x10000, 16, 0x100, 4, fun i j => [VI_TXHEAD_HEAD i j]⟩,
   ⟨.vi, 0x60001020, 256, 0x10000, 16, 0x100, 8, fun i j => [VI_RXBASE_BASE i j]⟩,
   ⟨.vi, 0x60001028, 256, 0x10000, 16, 0x100, 4, fun i j => [VI_RXCTL_EN i j, VI_RXCTL_SIZE i j]⟩,
   ⟨.vi, 0x6000102C, 256, 0x10000, 16, 0x100, 4, fun i j => [VI_RXTAIL_TAIL i j]⟩,
   ⟨.vi, 0x60001030, 256, 0x10000, 16, 0x100, 4, fun i j => [VI_RXHEAD_HEAD i j]⟩,
   ⟨.vi, 0x60001040, 256, 0x10000, 16, 0x100, 4, fun i j => [VI_QPSTAT_SPOOF i j, VI_QPSTAT_RXNOBUF i j, VI_QPSTAT_TXERR i j]⟩,
   ⟨.vi, 0x60001044, 256, 0x10000, 16, 0x100, 4, fun i j => [VI_QPINFO_QP i j, VI_QPINFO_VID i j]⟩,
   ⟨.vi, 0x60002018, 256, 0x10000, 40, 0x40, 4, fun i j => [VI_PSCCH_CH i j]⟩]
def regTableRegVim : List RegDef :=
  regTableRegVim0 ++ regTableRegVim1 ++ regTableRegVim2

end Sys2Proof.Machine
end

