-- ==== Sys2Proof/Machine/Tab.lean ====
section
/-! DEFINITION. Reading and writing a sparse table. -/

namespace Sys2Proof

/-- The entry of instance `k` in a cell list, or `d` where none is listed. -/
def cellsGet {α : Type} (d : α) (k : Nat) : List (Nat × α) → α
  | [] => d
  | (j, v) :: r => if j = k then v else cellsGet d k r

/-- A cell list with instance `k` taken out. -/
def cellsDel {α : Type} (k : Nat) : List (Nat × α) → List (Nat × α)
  | [] => []
  | (j, v) :: r => if j = k then cellsDel k r else (j, v) :: cellsDel k r

/-- A cell list with `(k, v)` put before the first larger instance number. -/
def cellsIns {α : Type} (k : Nat) (v : α) : List (Nat × α) → List (Nat × α)
  | [] => [(k, v)]
  | (j, w) :: r => if k < j then (k, v) :: (j, w) :: r else (j, w) :: cellsIns k v r

/-- The entry of instance `k`, the type's initial value where none is listed. -/
def Tab.get {α : Type} [Inhabited α] (t : Tab α) (k : Nat) : α := cellsGet default k t.cells

/-- The table with instance `k` set to `v`. -/
def Tab.put {α : Type} (t : Tab α) (k : Nat) (v : α) : Tab α := ⟨cellsIns k v (cellsDel k t.cells)⟩

/-- The table with instance `k` changed by `f`. -/
def Tab.upd {α : Type} [Inhabited α] (t : Tab α) (k : Nat) (f : α → α) : Tab α := t.put k (f (t.get k))

/-- The table with instance `k` back at the initial value. -/
def Tab.del {α : Type} (t : Tab α) (k : Nat) : Tab α := ⟨cellsDel k t.cells⟩

end Sys2Proof
end

