-- ==== Sys2Proof/Machine/State.lean ====
section
/-! DEFINITION. The state of the module: every register field, every memory, and the state that the rules give the
blocks beside their registers. All of it is plain data. -/

namespace Sys2Proof.Machine

/-- The stops of the model. -/
inductive Fault where
  /-- Raised by no command: the spec describes the outcome of every command. Safe. -/
  | none
  deriving DecidableEq, Repr

/-- The refusals of the model. -/
inductive Refusal where
  /-- Raised by an arm of `exec` whose command has no meaning yet. Safe: the machine goes on where the model stops. -/
  | notModelled (mnemonic : String)
  deriving DecidableEq, Repr

/-- The global time base beside its registers (chapter 2). Times are in units of 2⁻⁴⁰ ns: the nanoseconds, the 8-bit
fraction and the 32 hidden fraction bits of R40. -/
structure Gtb where
  /-- The GTB itself (R40). -/
  now : Nat := 0
  /-- The gain of a running slew that is still to come; 0 when none runs (R629). -/
  slew : Int := 0
  /-- Consecutive Syncs within LOCKTHR (R47). -/
  lockRun : Nat := 0
  /-- A lock was declared since the cold reset or the restore (R48, STEPMODE 0b10). -/
  everLocked : Bool := false
  /-- The GTB was restored from the backup domain and has not been corrected since (R44, R63). -/
  restored : Bool := false
  /-- Consecutive Syncs from one grandmaster in holdover (R51). -/
  reacq : Nat := 0
  /-- The grandmaster of the Syncs counted in reacq (R51). -/
  reacqGm : Nat := 0
  /-- The reference oscillator runs from the RC source until a cold reset (R25, R51). -/
  rc : Bool := false
  /-- Length of the present holdover in ns, for GTB_HOLDTIME (R50, R63). -/
  holdNs : Nat := 0
  /-- Peer delay per external port (R46). -/
  ports : Tab PtpPort := {}
  /-- The engines of the gPTP domains (R46). -/
  doms : Tab PtpDom := {}
  /-- Stamps held by the capture units, oldest first (R60). -/
  caps : Tab (List CapStamp) := {}
  /-- The ns until which each ball GTB_OUTn is driven high (R55, R66). -/
  outHigh : Tab Nat := {}
  deriving DecidableEq, Repr, Inhabited

/-- A copy of the persistent event area in the backup domain: its sequence number, whether its CRC is good, and its entries (R540). -/
structure AreaCopy where
  /-- Its sequence number (R540). -/
  seq : Nat := 0
  /-- Its CRC is good (R540). -/
  good : Bool := false
  /-- Its entries, most recent first (R81). -/
  entries : List PersistEntry := []
  deriving DecidableEq, Repr, Inhabited

/-- The event router beside its registers (R69 to R82). -/
structure Evr where
  /-- Events that have happened and have not entered the sort, oldest first (R74). -/
  entering : List Ev := []
  /-- The sort of the ordered path, in increasing stamp and source order (R72). -/
  sorted : List Ev := []
  /-- Late events, in the order of their entry (R82). -/
  late : List Ev := []
  /-- The 1,024-entry queue of the log path, oldest first (R76). -/
  logQ : List Ev := []
  /-- The 1,024-entry queue of the trace path, oldest first (R76). -/
  trcQ : List Ev := []
  /-- The drop level of the log path, 4 for Full (R76). -/
  logLvl : Nat := 0
  /-- The drop level of the trace path, 4 for Full (R76). -/
  trcLvl : Nat := 0
  /-- Per source the stamp of the first event lost on the log path, for its loss summary (R76). -/
  logFirst : Tab Stamp := {}
  /-- Per source the stamp of the first event lost on the trace path (R76). -/
  trcFirst : Tab Stamp := {}
  /-- Per source and cause: occurrences since the last summary report and the ns of that report (R271, R366). -/
  sums : Tab (Nat × Nat) := {}
  /-- The persistent event area, most recent first, at most 32 entries (R81). -/
  persist : List PersistEntry := []
  /-- The area has changed since its last commit (R540). -/
  commit : Bool := false
  /-- Copy A of the area in the backup domain (R540). -/
  areaA : AreaCopy := {}
  /-- Copy B of the area in the backup domain (R540). -/
  areaB : AreaCopy := {}
  deriving DecidableEq, Repr, Inhabited

/-- An entry of the per-initiator read latch: the register block and address of the high word, and its latched value (R592). -/
structure ReadLatch where
  /-- The register block of the latched pair (R592). -/
  block : Nat
  /-- The address of the pair's high word (R592). -/
  addr : Nat
  /-- The high word as latched at the read of the low word (R592). -/
  high : Nat
  deriving DecidableEq, Repr, Inhabited

/-- The sequence of a converter: whether it runs, the slot in conversion, the slots' ADC_SEQ words as taken at the start (R91),
the sequence count, and the group set it works for (group and set number) (R91 to R97). -/
structure AdcConv where
  /-- A sequence is running (R91). -/
  running : Bool := false
  /-- The slot in conversion (R91). -/
  slot : Nat := 0
  /-- The slots' ADC_SEQ words as taken at the start (R91; log entry 123). -/
  slots : List Nat := []
  /-- The sequence count of the results (R97). -/
  count : Nat := 0
  /-- The group and set number that the sequence works for (R96, R97). -/
  set : Option (Nat × Nat) := none
  deriving DecidableEq, Repr, Inhabited

/-- A group set from its start to its completion: its number, its converters with their slot counts, the slots that are still to
come, its words by index, the words to be delivered, and ADC_GRPDST and ADC_GRPBUF as in force at the start (R97 to R100). -/
structure AdcSet where
  /-- The number of the set (R97). -/
  id : Nat
  /-- Its converters with their slot counts (R97). -/
  convs : List (Nat × Nat) := []
  /-- Slots that are still to come (R97). -/
  left : Nat := 0
  /-- Its words by index (R98). -/
  words : Tab Nat := {}
  /-- Words that are still to be delivered (R98). -/
  todo : List Nat := []
  /-- ADC_GRPDST at the start: delivery to an engine over the lane (R98). -/
  lane : Bool := false
  /-- Delivery to both engines of a pair (R98). -/
  pair : Bool := false
  /-- Delivery into a ring in SRAM (R99). -/
  sram : Bool := false
  /-- The engine of the delivery (R98). -/
  eng : Nat := 0
  /-- The DMEM offset of the delivery (R98). -/
  addr : Nat := 0
  /-- ADC_GRPBUF at the start: base of the ring (R99). -/
  base : Nat := 0
  /-- Size of the ring (R99). -/
  size : Nat := 0
  /-- A write of the ring has been refused (R100). -/
  refused : Bool := false
  /-- The set has been written into its ring (R99). -/
  ringDone : Bool := false
  deriving DecidableEq, Repr, Inhabited

/-- A sigma-delta filter: the bits sampled, the bits of the present window, windows until it is settled, whether the latest result is unread and undelivered, whether its
clock is lost with the trip line held, and its trip line (R101 to R105). -/
structure SdfSt where
  /-- The bits sampled since the filter was enabled, latest first, as many as a filter can span (R101, R102). -/
  bits : List Bool := []
  /-- Bits of the present decimation window (R102). -/
  win : Nat := 0
  /-- Windows until the filter is settled (R102). -/
  unsettled : Nat := 0
  /-- The latest result is unread and undelivered (R103). -/
  unread : Bool := false
  /-- The modulator's clock is lost, with the trip line held (R105). -/
  lost : Bool := false
  /-- The trip line of the fast filter (R104). -/
  line : Bool := false
  deriving DecidableEq, Repr, Inhabited

/-- A comparator: the side it is active on (0 none, 1 above HI, 2 below), its filtered output, and whether a blanking window is open
(R106, R107). Its trip line is CMP_STAT.OUT. -/
structure CmpSt where
  /-- The side on which the comparator is active: 0 none, 1 above HI, 2 below LO (R106). -/
  side : Nat := 0
  /-- Its filtered output (R107). -/
  filtered : Bool := false
  /-- A blanking window is open (R107). -/
  blank : Bool := false
  deriving DecidableEq, Repr, Inhabited

/-- A PWM pair: the committed set that awaits its load point (PHASE, PER, ONA, OFFA, ONB, OFFB, DUTY), whether its outputs still
await the first sync, the counter at the last happening, the levels the edge rules give, the edges taken in this period
(A rise, A fall, B rise, B fall), the outputs that hold a raising edge under XLOCK or wait for their dead time, the levels driven
(0 low, 1 high, 2 high impedance), the times at which they fell, and whether a TRIPCLR waits for the period start (R111 to R125). -/
structure PwmSt where
  /-- The committed set that awaits its load point: PHASE, PER, ONA, OFFA, ONB, OFFB, DUTY (R117, R118). -/
  pend : Option (List Nat) := none
  /-- The outputs still await the first sync (R125). -/
  await : Bool := false
  /-- The counter at the last happening (R111). -/
  cnt : Nat := 0
  /-- The level that the edge rules give output A (R111). -/
  va : Bool := false
  /-- The level that the edge rules give output B (R111). -/
  vb : Bool := false
  /-- Edges taken in this period: A rise, A fall, B rise, B fall (R111, R119). -/
  taken : Nat := 0
  /-- Outputs that hold a raising edge under XLOCK while the other is high (R114). -/
  held : Nat := 0
  /-- Outputs that wait for their dead time before they rise (R114, R125). -/
  wait : Nat := 0
  /-- No sync has come since EN was set (R116, R125). -/
  fresh : Bool := false
  /-- The level driven on ball A: 0 low, 1 high, 2 high impedance (R113, R550). -/
  a : Nat := 0
  /-- The level driven on ball B: 0 low, 1 high, 2 high impedance (R113, R550). -/
  b : Nat := 0
  /-- The elapsed time at which ball A was last driven low, in ns (R122). -/
  lowA : Nat := 0
  /-- The elapsed time at which ball B was last driven low, in ns (R122). -/
  lowB : Nat := 0
  /-- A TRIPCLR waits for the period start (R123). -/
  clr : Bool := false
  deriving DecidableEq, Repr, Inhabited

/-- The converter blocks beside their registers (chapter 3). -/
structure Conv where
  /-- The converters' sequences (R91). -/
  adc : Tab AdcConv := {}
  /-- Per group its sets from start to completion (R97). -/
  sets : Tab (List AdcSet) := {}
  /-- The number of the next set (R97). -/
  setNo : Nat := 0
  /-- Comparisons beyond THR in the present excursion of the reference monitor (R89). -/
  refRun : Nat := 0
  /-- The sigma-delta filters (R102). -/
  sdf : Tab SdfSt := {}
  /-- The comparators (R106). -/
  cmp : Tab CmpSt := {}
  /-- The PWM pairs (R111). -/
  pwm : Tab PwmSt := {}
  /-- The filtered trip lines of the balls PWM_TRIP0_N to PWM_TRIP3_N, bit i asserted (R122). -/
  ext : Nat := 0
  /-- The control lane carries no handshakes (R20, R123). -/
  laneLost : Bool := false
  deriving DecidableEq, Repr, Inhabited

/-- An entry of an engine's output buffer: a control-lane write, or an EVP word (R166). -/
inductive TgOut where
  | lane (addr val : Nat)
  | evp (word : Nat)
  deriving DecidableEq, Repr, Inhabited

/-- The state of an engine or of an engine pair at its dispatch, for a replay: t1 to t31, acc0, acc1, MODE (R174). -/
structure TgSnap where
  /-- t1 to t31 at the dispatch (R174). -/
  t : Tab Nat := {}
  /-- acc0 at the dispatch (R174). -/
  acc0 : Nat := 0
  /-- acc1 at the dispatch (R174). -/
  acc1 : Nat := 0
  /-- MODE at the dispatch (R174). -/
  mode : Nat := 0
  deriving DecidableEq, Repr, Inhabited

/-- A Tangram engine (R133, R137, R152 to R180). Registers hold 32-bit numbers, accumulators 72-bit ones. ECAUSE and EPC
are TG_ECAUSE and TG_EPC. -/
structure TgEng where
  /-- The registers t0 to t31 (R133); t0 reads 0. -/
  t : Tab Nat := {}
  /-- The accumulator acc0, 72 bits (R133). -/
  acc0 : Nat := 0
  /-- The accumulator acc1, 72 bits (R133). -/
  acc1 : Nat := 0
  /-- MODE (R137). -/
  mode : Nat := 1
  /-- LS of loop level 0 (R154). -/
  ls0 : Nat := 0
  /-- LE of loop level 0 (R154). -/
  le0 : Nat := 0
  /-- LC of loop level 0 (R154). -/
  lc0 : Nat := 0
  /-- LS of loop level 1 (R154). -/
  ls1 : Nat := 0
  /-- LE of loop level 1 (R154). -/
  le1 : Nat := 0
  /-- LC of loop level 1 (R154). -/
  lc1 : Nat := 0
  /-- Active loop levels (R154). -/
  lact : Nat := 0
  /-- ELACT: active levels saved at an exception (R159, R160). -/
  elact : Nat := 0
  /-- EMODE: MODE saved at an exception (R159). -/
  emode : Nat := 0
  /-- EVAL (R152). -/
  eval : Nat := 0
  /-- ETGT: the target of an interrupted branch (R161). -/
  etgt : Nat := 0
  /-- DTIME: the stamp of the occurrence that dispatched (R141). -/
  dtime : Nat := 0
  /-- DSLOT: the slot that runs (R141). -/
  dslot : Nat := 0
  /-- FFLAGS, accrued (R150, R152). -/
  fflags : Nat := 0
  /-- The address of the next instruction (R133). -/
  pc : Nat := 0
  /-- The instruction at `pc` is a delay slot: the branch's address and the address it resolved to (R153, R161). -/
  ds : Option (Nat × Nat) := none
  /-- The instruction at `pc` is in the shadow of SETM (R162). -/
  shadow : Bool := false
  /-- Slots retired in the iteration (R158). -/
  cost : Nat := 0
  /-- TLIMIT has been taken in the iteration (R164). -/
  tlDone : Bool := false
  /-- Instructions issue, from the dispatch to END (R167). -/
  run : Bool := false
  /-- END has retired with the buffer not yet released (R167). -/
  ended : Bool := false
  /-- The output buffer, oldest first (R166). -/
  obuf : List TgOut := []
  /-- The input stage, oldest word first: DMEM offset, size and value (R135, R169). -/
  inq : List (Nat × Nat × Nat) := []
  /-- Pending slots with the stamps of their occurrences (R140). -/
  pend : List (Nat × Nat) := []
  /-- Occurrence counts of the slots for DIV (R139). -/
  divs : Tab Nat := {}
  /-- The journal of a pair, latest first: DMEM offset, size and the old contents in the even and the odd copy (R173). -/
  journal : List (Nat × Nat × Nat × Nat) := []
  /-- Retained LDC values in program order (R171). -/
  ldc : List Nat := []
  /-- LDC values already given in this replay (R171). -/
  ldcUsed : Nat := 0
  /-- The state at the dispatch (R174). -/
  snap : TgSnap := {}
  /-- The times of the mismatches in the last 100 ms (R176). -/
  misms : List Nat := []
  deriving DecidableEq, Repr, Inhabited

/-- A channel as its power die holds it (R193 to R216): the state code of PSC_STAT.STATE, the state to return to (1 ON, 2 PWM), retries left,
cause of the last switch-off, the ms left of the inrush window, low range, whether it conducts, whether its retry waits for its group to cool, its shed
current, the wire model x in units of 2⁻⁴⁸ (0.5 after a power-on reset), the clamp events of the last second, an off-state check that settles, its counters, the PWM setting
in force, its last means and voltage, what the hold has latched (bits as in PSC_STAT), whether its state
changed during the hold, and the cause of its last change. -/
structure PscCh where
  /-- The state code of PSC_STAT.STATE (R193). -/
  st : Nat := 0
  /-- The state that a retry returns to: 1 ON, 2 PWM (R194). -/
  back : Nat := 1
  /-- Retries left (R194). -/
  rleft : Nat := 0
  /-- Cause of the last switch-off (R193). -/
  cause : Nat := 0
  /-- The ms left of the inrush window (R203). -/
  inrush : Nat := 0
  /-- The channel measures in its low range (R197). -/
  low : Bool := false
  /-- The channel conducts (R193, R195). -/
  gate : Bool := false
  /-- Its retry waits for its group to cool (R194). -/
  otWait : Bool := false
  /-- Its current in the shedding order (R213). -/
  shedCur : Nat := 0
  /-- The wire model x in units of 2⁻⁴⁸, 0.5 after a power-on reset (R206, R219). -/
  x : Nat := 2 ^ 47
  /-- Times of the clamp events of the last second (R211). -/
  clampTimes : List Nat := []
  /-- An off-state check settles (R200). -/
  checking : Bool := false
  /-- Overcurrent trips counted (R225). -/
  octrips : Nat := 0
  /-- Retries counted (R225). -/
  retries : Nat := 0
  /-- Clamp events counted (R225). -/
  clamps : Nat := 0
  /-- Open loads counted (R225). -/
  oldet : Nat := 0
  /-- The period in force (R195). -/
  per : Nat := 0
  /-- The duty in force (R195). -/
  duty : Nat := 0
  /-- The last mean current (R198). -/
  avg : Nat := 0
  /-- The last mean output voltage (R199). -/
  vmean : Int := 0
  /-- The last output voltage (R198). -/
  vout : Int := 0
  /-- The sum of the current samples of the running millisecond, in 0.1 mA, and their number (R198). -/
  sum : Nat := 0
  cnt : Nat := 0
  /-- The sum of its voltage samples in mV, and their number (R199). -/
  vsum : Int := 0
  vcnt : Nat := 0
  /-- The mean current of the last whole millisecond in 0.1 mA (R196, R198). -/
  mean : Nat := 0
  /-- The latest current sample in 0.1 mA (R197). -/
  lastI : Nat := 0
  /-- Samples in a row below 450 mA (R197). -/
  lowRun : Nat := 0
  /-- The cycle of its die in which an overcurrent switched it off (R193). -/
  ocCycle : Option Nat := none
  /-- Flags that the hold has latched, bits as in PSC_STAT (R217). -/
  flags : Nat := 0
  /-- Its state has changed during the hold (R217). -/
  changed : Bool := false
  /-- The cause of its last change (R217). -/
  last : Nat := 0
  deriving DecidableEq, Repr, Inhabited

/-- A command in the queue of a die: channel, operation, resends so far, whether the die has applied it, and the instance that gave it (R189, R190, R476). -/
structure PscCmd where
  /-- The channel (R189). -/
  n : Nat
  /-- The operation (R188). -/
  op : Nat
  /-- Resends so far (R190). -/
  resent : Nat := 0
  /-- The die has applied the frame and its acknowledgement is lost (R190). -/
  applied : Bool := false
  /-- The instance that gave the command (R476). -/
  vi : Option Nat := none
  deriving DecidableEq, Repr, Inhabited

/-- A power die (R205, R212, R214, R216, R218 to R220): configured since its power-on reset, in hold, without supply, feed current in 10 mA, feed below
6.0 V, feed between 4.5 V and 6.0 V, feed above 18 V, its groups above TWARN and switched off (bit g), and an OVERLIM still to show. -/
structure PscDie where
  /-- The die has received its settings since its power-on reset (R218, R219). -/
  configured : Bool := false
  /-- The die is in hold (R216). -/
  hold : Bool := false
  /-- The die is without supply (R219). -/
  off : Bool := false
  /-- Feed current in 10 mA (R212). -/
  isum : Nat := 0
  /-- The feed is below 6.0 V (R220). -/
  uv : Bool := false
  /-- The feed is between 4.5 V and 6.0 V (R220). -/
  uvCh : Bool := false
  /-- The feed is above 18 V (R220). -/
  ov : Bool := false
  /-- Groups above TWARN, bit g (R208, R212). -/
  warn : Nat := 0
  /-- Groups switched off by temperature, bit g (R205). -/
  otOff : Nat := 0
  /-- An OVERLIM that is still to be shown (R214). -/
  overLim : Bool := false
  /-- Milliseconds in a row with ISUM above FEEDLIM (R212). -/
  overMs : Nat := 0
  /-- Milliseconds in a row with each group above TWARN (R212). -/
  hotMs : Tab Nat := {}
  /-- Milliseconds in a row with room for the next shed channel, and that channel (R215). -/
  room : Nat := 0
  roomCh : Nat := 0
  /-- The 1 µs cycles in which it has done something, the elapsed µs of the last, and the last step of R192 done in it. -/
  cycle : Nat := 0
  cycleAt : Nat := 0
  rank : Nat := 0
  /-- The elapsed time at which the hold began (R216). -/
  holdAt : Nat := 0
  /-- The PSC block has loaded its mirror from the die, or written it, since the last reset of the core die (R218). -/
  loaded : Bool := false
  /-- The die has restarted after a power-on reset, and the PSC block has not yet written the mirror to it (R219). -/
  restarted : Bool := false
  deriving DecidableEq, Repr, Inhabited

/-- The protected switch channels beside their registers (chapter 5). -/
structure Psc where
  /-- The channels (R193). -/
  ch : Tab PscCh := {}
  /-- The power dies (R185). -/
  die : Tab PscDie := {}
  /-- The command queue of each die, at most 64 (R189). -/
  queue : Tab (List PscCmd) := {}
  /-- The working values of the settings on the power dies, keyed as the register file (R218). -/
  set : Tab Nat := {}
  /-- The group temperatures in 0.1 °C (R205). -/
  temps : Tab Int := {}
  deriving DecidableEq, Repr, Inhabited

/-- A gate list as it operates: base time, cycle, entries of gate states (for a stream gate: open, IPVEN, IPV) and interval in ns,
and the change time of a pending change (R255, R256, R261). -/
structure GateList where
  /-- Base time (R255). -/
  base : Nat := 0
  /-- Cycle in ns (R255). -/
  cyc : Nat := 0
  /-- Gate states (for a stream gate open, IPVEN, IPV) and interval in ns (R255, R261). -/
  entries : List (Nat × Nat) := []
  /-- The change time of a pending change (R256). -/
  ct : Option Nat := none
  deriving DecidableEq, Repr, Inhabited

/-- A frame inside the switch: addresses, VID, PCP, colour (0 green, 1 yellow, 2 red), sequence number of its R-TAG, the bytes behind the VLAN tag (an R-TAG included)
without the FCS, its length in bytes as received, its receive stamp, its first 128 bytes as received and its ingress port (R233, R235, R238, R264). -/
structure EthFrame where
  /-- Destination address (R238). -/
  da : Nat := 0
  /-- Source address (R238). -/
  sa : Nat := 0
  /-- VID (R238). -/
  vid : Nat := 0
  /-- PCP (R238). -/
  pcp : Nat := 0
  /-- Colour: 0 green, 1 yellow, 2 red (R262). -/
  colour : Nat := 0
  /-- Sequence number of its R-TAG (R264). -/
  rtag : Option Nat := none
  /-- The bytes behind the VLAN tag without the FCS, an R-TAG included (R238). -/
  rest : List Nat := []
  /-- Length in bytes as received (R235). -/
  len : Nat := 0
  /-- Receive stamp (R233). -/
  rx : Stamp := { ns := 0 }
  /-- Its first 128 bytes as received (R266). -/
  head : List Nat := []
  /-- Ingress port (R238). -/
  port : Nat := 0
  /-- The message of the time engine that the frame is (R234). -/
  ptp : Option PtpMsg := none
  deriving DecidableEq, Repr, Inhabited

/-- A copy in an egress queue: the frame's number and cells in the buffer, the frame, the pin group it went through with its hash bit,
and whether a revert waits for it (R235, R247 to R249). -/
structure EthCopy where
  /-- The frame's number in the buffer (R235). -/
  id : Nat
  /-- Its cells (R235). -/
  cells : Nat
  /-- The frame (R235). -/
  fr : EthFrame
  /-- The pin group it went through (R247). -/
  grp : Option Nat := none
  /-- Its hash bit in the group (R247). -/
  hash : Bool := false
  /-- A revert waits for it (R249). -/
  rev : Bool := false
  deriving DecidableEq, Repr, Inhabited

/-- A frame that waits at an internal port: its number, the frame, its queue and its destinations with pin group and hash bit (R250). -/
structure EthWait where
  /-- The frame's number (R250). -/
  id : Nat
  /-- The frame (R250). -/
  fr : EthFrame
  /-- Its queue (R250). -/
  queue : Nat
  /-- Its destinations with pin group and hash bit (R250). -/
  dests : List (Nat × Option Nat × Bool)
  deriving DecidableEq, Repr, Inhabited

/-- A forwarding-table command between GO and its completion: OP, key, ESW_FDBDATA, and the number of the next frame at GO (R243, R244). -/
structure FdbOp where
  /-- OP (R243). -/
  op : Nat
  /-- The key (R243). -/
  key : Nat
  /-- ESW_FDBDATA at GO (R243). -/
  data : Nat
  /-- The number of the next frame at GO (R244). -/
  frame : Nat
  deriving DecidableEq, Repr, Inhabited

/-- A line of the lookup caches: the key, the entry's data word found (none for a miss), and the ns of its filling (R245). -/
structure FdbLine where
  /-- The key (R245). -/
  key : Nat
  /-- The data word found, none for a miss (R245). -/
  res : Option Nat
  /-- The ns of its filling (R245). -/
  filled : Nat
  deriving DecidableEq, Repr, Inhabited

/-- The buckets of a meter in 10⁻⁶ bit, and the ns of their last update (R262). -/
structure EthMeter where
  /-- The committed bucket in 10⁻⁶ bit (R262). -/
  c : Nat := 0
  /-- The excess bucket in 10⁻⁶ bit (R262). -/
  e : Nat := 0
  /-- The ns of their last update (R262). -/
  upd : Nat := 0
  deriving DecidableEq, Repr, Inhabited

/-- A recovery function: whether it has accepted a frame since its reset, and its history, bit k for the sequence number k below the last (R264). -/
structure EthFrer where
  /-- A frame has been accepted since the function's reset (R264). -/
  started : Bool := false
  /-- The history, bit k for the sequence number k below the last (R264). -/
  hist : Nat := 0
  deriving DecidableEq, Repr, Inhabited

/-- The transmission of a port: queue, start and end ns and transmit stamp of the frame last started, the copy that is still being sent, the credits of its queues in 10⁻⁶ bit, and the ns of their last
update (R255, R259). -/
structure EthTx where
  /-- The queue of the frame last started (R255). -/
  queue : Nat := 0
  /-- The ns of its start (R255). -/
  start : Nat := 0
  /-- The ns of its end (R255). -/
  endNs : Nat := 0
  /-- Its transmit stamp (R231). -/
  stamp : Stamp := { ns := 0 }
  /-- The copy that is being sent; its cells are taken until the end (R235). -/
  sending : Option EthCopy := none
  /-- The credits of the port's queues in 10⁻⁶ bit (R259). -/
  credit : Tab Int := {}
  /-- The ns of their last update (R259). -/
  upd : Nat := 0
  deriving DecidableEq, Repr, Inhabited

/-- The Ethernet switch beside its registers (chapter 6). -/
structure Esw where
  /-- Operating gate lists of the ports (R255). -/
  gates : Tab GateList := {}
  /-- Operating gate lists of the stream gates (R261). -/
  sgates : Tab GateList := {}
  /-- The egress queues, queue q of port p under 8p + q, head first (R235, R237). -/
  queues : Tab (List EthCopy) := {}
  /-- Copies left of each frame in the buffer (R235). -/
  refs : Tab Nat := {}
  /-- The number of the next frame (R235). -/
  nextId : Nat := 0
  /-- The frame that waits at each internal port (R250). -/
  wait : Tab (Option EthWait) := {}
  /-- The command of the forwarding table in progress (R243, R244). -/
  fdb : Option FdbOp := none
  /-- The lookup cache lines, latest first (R245). -/
  cache : List FdbLine := []
  /-- The surviving port of each pin group while a failover is in force (R248). -/
  survivor : Tab (Option Nat) := {}
  /-- The meters (R262). -/
  meters : Tab EthMeter := {}
  /-- The recovery functions (R264). -/
  frer : Tab EthFrer := {}
  /-- Frames counted by each port's sampler (R265). -/
  sampled : Tab Nat := {}
  /-- Sample records that wait for the ring (R266, R267). -/
  records : List (List Nat) := []
  /-- The transmission of each port (R255). -/
  tx : Tab EthTx := {}
  /-- Frames delivered to core ports 0 and 1 that are still to be steered to instance slots: port, queue, frame (R480). -/
  core : List (Nat × Nat × EthFrame) := []
  /-- Frames that a looped PHY returns to its own port, oldest first (R276). -/
  looped : List (Nat × List Nat) := []
  /-- Ports 12 to 15 whose medium has a fault, bit p (R230). -/
  fault : Nat := 0
  deriving DecidableEq, Repr, Inhabited

/-- A frame in arbitration or transmission: its object, whether it is not retransmitted, the frame as taken at the start of arbitration, and the
stamp of its start of frame (R287, R288, R290, R295). -/
structure CanTx where
  /-- The object in transmission (R287). -/
  obj : Nat
  /-- It is not retransmitted (R290). -/
  once : Bool := false
  /-- The frame as taken at the start of arbitration (R288). -/
  frame : CanFrame
  /-- The stamp of its start of frame (R295). -/
  stamp : Nat
  deriving DecidableEq, Repr, Inhabited

/-- A CAN controller and its transceiver: listen-only as in force, the frame in transmission, the frames taken that are still to be written into
their objects, whether the bus is released after a TXD dominant timeout, and whether the transceiver is too hot (R285, R292, R294, R300). -/
structure CanSt where
  /-- Listen-only as in force (R292). -/
  lom : Bool := false
  /-- The frame in transmission (R287). -/
  tx : Option CanTx := none
  /-- Frames taken that are still to be written into their objects (R285). -/
  taken : List (Nat × CanFrame) := []
  /-- The bus is released after a TXD dominant timeout (R294). -/
  released : Bool := false
  /-- The transceiver is too hot (R300). -/
  hot : Bool := false
  deriving DecidableEq, Repr, Inhabited

/-- The frame of a LIN channel between its header and its end: identifier, direction as LIN_FCFG.DIR, the response copied for publishing (R304). -/
structure LinFrame where
  /-- Identifier (R304). -/
  id : Nat
  /-- Direction as LIN_FCFG.DIR (R304). -/
  dir : Nat
  /-- The response copied for publishing (R304). -/
  data : Nat := 0
  deriving DecidableEq, Repr, Inhabited

/-- A LIN channel and its transceiver: whether its schedule has begun, its frame, the header that it sends, a go-to-sleep frame that waits, the last completed response (which the gateway takes), over-temperature (R306, R339, R300). -/
structure LinSt where
  /-- The schedule has begun (R306). -/
  begun : Bool := false
  /-- The frame between its header and its end (R304). -/
  frame : Option LinFrame := none
  /-- The identifier of the header that a commander sends (R303). -/
  head : Option Nat := none
  /-- The go-to-sleep frame waits for the end of the frame in progress (R323). -/
  gts : Bool := false
  /-- The last completed response, which the gateway takes (R339). -/
  last : Option (Nat × List Nat) := none
  /-- The transceiver is too hot (R300). -/
  hot : Bool := false
  deriving DecidableEq, Repr, Inhabited

/-- A Carousel ring as the CRS block follows it: the last sender, the members that have sent and that have consented in this round, the ALLC of the last message,
the rounds that have ended with ALLC = 1 in a row, the members that represent a local ring, the members to be added at the next round, the nodes whose alive messages were heard while forming,
whether the ring is forming, and the ROUND of the messages heard before the AZC joins (R316 to R319). -/
structure Ring where
  /-- The last sender (R316). -/
  last : Nat := 0
  /-- Members that have sent in this round (R316). -/
  sent : Nat := 0
  /-- Members that have consented in this round (R319). -/
  votes : Nat := 0
  /-- ALLC of the last message (R319). -/
  allc : Bool := false
  /-- Rounds that have ended with ALLC = 1 in a row (R319). -/
  run : Nat := 0
  /-- Members that represent a local ring (R319). -/
  reps : Nat := 0
  /-- Members to be added at the next round (R318). -/
  joining : Nat := 0
  /-- Nodes whose alive messages were heard while forming (R318). -/
  heard : Nat := 0
  /-- The ring is forming (R318). -/
  forming : Bool := false
  /-- ROUND of the messages heard before the AZC joins (R318). -/
  learn : Option Nat := none
  deriving DecidableEq, Repr, Inhabited

/-- The Carousel unit beside its registers (chapter 8): both rings; per member the stamps of the first withholding and first consenting message of its run,
whether the run is sole, and whether its limit is reported; whether the wake window is open, and the buses confirmed in it (R326, R329). -/
structure Crs where
  /-- The local ring (R316). -/
  loc : Ring := {}
  /-- The backbone ring (R321). -/
  bb : Ring := {}
  /-- Per member the stamp of the first withholding message of its run (R329). -/
  start : Tab Nat := {}
  /-- Per member the stamp of the first consenting message after it (R329). -/
  stop : Tab Nat := {}
  /-- Members whose run is sole (R329). -/
  sole : Nat := 0
  /-- Members whose limit is reported (R329). -/
  limited : Nat := 0
  /-- Frames for port 19 that wait behind one that waits for cells (R250, R314). -/
  eth : List (List Nat) := []
  /-- The wake window is open (R326). -/
  window : Bool := false
  /-- The buses confirmed in it (R326). -/
  confirmed : Nat := 0
  deriving DecidableEq, Repr, Inhabited

/-- A receive PDU: its KIND with the key of R342 (controller or channel, object or identifier, stream ID or UDP destination with its port, ACF type, bus ID,
message ID), and its payload. -/
structure GwPdu where
  /-- KIND (R342). -/
  kind : Nat
  /-- Controller or channel (R342). -/
  ch : Nat := 0
  /-- Object, identifier or UDP port (R342). -/
  obj : Nat := 0
  /-- Stream ID or UDP destination (R342). -/
  sid : Nat := 0
  /-- ACF type (R342). -/
  acft : Nat := 0
  /-- Bus ID (R342). -/
  busid : Nat := 0
  /-- Message ID (R342). -/
  mid : Nat := 0
  /-- Payload (R342). -/
  data : List Nat := []
  deriving DecidableEq, Repr, Inhabited

/-- What a class serves in its order: a receive PDU, or a due transmit layout (R351). -/
inductive GwJob where
  | pdu (p : GwPdu)
  | layout (l : Nat)
  deriving DecidableEq, Repr

/-- The gateway beside its registers (chapter 9): the image memory by byte, the jobs of each class, the frames on their way to port 20 by class, the last
transmission of each layout (ns + 1; 0 never), the layouts whose MINGAP runs, the CAN layouts that wait for TXREQ, and the held words of the tables by
address (R346 to R350, R353). -/
structure Gw where
  /-- The image memory by byte (R346). -/
  image : Tab Nat := {}
  /-- What each class serves, in its order (R351). -/
  jobs : Tab (List GwJob) := {}
  /-- Frames on their way to port 20 by class (R348). -/
  frames : Tab (List (List Nat)) := {}
  /-- The frame that waits at port 20 for cells, in its buffer all the while (R350). -/
  port : Option (List Nat) := none
  /-- Frames that port 20 has sent to the gateway, oldest first, each with its queue (R340). -/
  inbox : List (Nat × List Nat) := []
  /-- The last transmission of each layout, ns + 1; 0 never (R347, R348). -/
  sent : Tab Nat := {}
  /-- Layouts whose MINGAP runs (R347, R348). -/
  gap : List Nat := []
  /-- CAN layouts that wait for TXREQ (R348). -/
  sink : List Nat := []
  /-- Held words of the tables by address (R353). -/
  held : Tab (Option Nat) := {}
  deriving DecidableEq, Repr, Inhabited

/-- An outbound non-posted request that waits for its completion: tag, initiator with its generation, fabric address, size, unit of the byte swap, and
whether it is a configuration access; the instance that waits for it, or whether it is a load of the core with that ID (R360 to R364). -/
structure PcieReq where
  /-- Tag (R362). -/
  tag : Nat
  /-- Initiator (R360). -/
  id : Nat
  /-- Its generation (R360). -/
  gen : Nat
  /-- Fabric address (R360). -/
  addr : Nat
  /-- Size (R360). -/
  size : Nat
  /-- Unit of the byte swap (R361). -/
  swap : Nat
  /-- It is a configuration access (R360). -/
  config : Bool
  /-- The instance that waits for it (R478). -/
  vi : Option Nat := none
  /-- It is a load of the core with that ID (R360). -/
  core : Bool := false
  deriving DecidableEq, Repr, Inhabited

/-- The PCIe bridge beside its registers: outstanding requests, and a posted write that may still be merged: window, initiator, next address, bytes and
the ns of its last part (R361). -/
structure Pcie where
  /-- Outstanding requests (R362). -/
  out : List PcieReq := []
  /-- A posted write that may still be merged: window, initiator, next address, bytes and the ns of its last part (R361). -/
  merge : Option (Nat × Nat × Nat × List Nat × Nat) := none
  deriving DecidableEq, Repr, Inhabited

/-- An access that leaves a core, as the release buffer holds it: kind (0 load, 1 store, 2 AMO, 3 LR, 4 SC, 5 A or D update, 6 EVPOST, 7 AGREE.LD), address, size,
data (for an AMO its operand), the operation of an AMO, the world bit, and the position of its instruction (R406, R412). -/
structure Acs where
  /-- 0 load, 1 store, 2 AMO, 3 LR, 4 SC, 5 A or D update, 6 EVPOST, 7 AGREE.LD (R406). -/
  kind : Nat
  /-- Physical address (R406). -/
  addr : Nat
  /-- Size (R406). -/
  size : Nat
  /-- Data; for an AMO its operand (R406). -/
  data : Nat := 0
  /-- The operation of an AMO (R406). -/
  op : Nat := 0
  /-- The world bit (R406). -/
  inner : Bool := true
  /-- The position of its instruction (R412). -/
  seq : Nat := 0
  deriving DecidableEq, Repr, Inhabited

/-- A core C0 to C7 beside its custom CSRs (chapter 10). Registers hold 64-bit numbers; `csr` holds the standard CSRs by number. -/
structure Core where
  /-- x0 to x31, 64 bits (R371); x0 reads 0. -/
  x : Tab Nat := {}
  /-- f0 to f31, 64 bits (R371). -/
  f : Tab Nat := {}
  /-- The program counter (R371). -/
  pc : Nat := 0
  /-- Privilege: 0 U, 1 S, 3 M; M after reset (R388). -/
  priv : Nat := 3
  /-- The V bit (R371). -/
  virt : Bool := false
  /-- The standard CSRs by number; an unlisted one holds its reset value (R371, log entry 20). -/
  csr : Tab Nat := {}
  /-- Instructions retired since the core's start (R415). -/
  cnt : Nat := 0
  /-- Steps of the core: retirements, traps, interrupts and journalled settings (R409). -/
  seq : Nat := 0
  /-- The 64-byte line reserved by LR (R373). -/
  res : Option Nat := none
  /-- The core waits in WFI (R375, R415). -/
  wfi : Bool := false
  /-- Fraction and quality at the last GTBRD (R390). -/
  gtbrd : Option (Nat × Nat) := none
  /-- The next instruction is the shadow of a change to Outer (R395). -/
  shadow : Bool := false
  /-- The next instruction is the shadow of a trap from the Outer world (R396). -/
  entry : Bool := false
  /-- Out of reset (R520, R577). -/
  live : Bool := false
  /-- Stopped by Compass (R464, R466). -/
  stopped : Bool := false
  /-- Stopped by an Inner crash (R396). -/
  crashed : Bool := false
  /-- Halted for debug (R430). -/
  halted : Bool := false
  /-- Halts after one instruction (R430). -/
  single : Bool := false
  /-- Words of the program buffer still to be executed (R431). -/
  pbuf : List Nat := []
  /-- The access presented as the oldest unretired instruction (R413, R414). -/
  wait : Option Acs := none
  /-- Its response: error and value (R413, R414). -/
  resp : Option (Bool × Nat) := none
  /-- Entries of the pair's journal that this copy has used (R410). -/
  jpos : Nat := 0
  /-- Entries of the string replay journal that this copy has used (R430). -/
  dpos : Nat := 0
  /-- Worlds in which the predictors hold entries: bit 1 Inner, bit 0 Outer (R384). -/
  pred : Nat := 0
  deriving DecidableEq, Repr, Inhabited

/-- An entry of the input journal: kind (0 load, 1 AMO, 2 LR, 3 SC, 4 AGREE, 5 GTBRD, 6 GTBRD.X, 7 counter or time, 8 claim, 9 interrupt, 10 mhjvberr), size,
physical address, value with its error flag, the step of the lead it belongs to, and whether it is verified (R409, R410). -/
structure JEntry where
  /-- 0 load, 1 AMO, 2 LR, 3 SC, 4 AGREE, 5 GTBRD, 6 GTBRD.X, 7 counter or time, 8 claim, 9 interrupt, 10 mhjvberr (R409). -/
  kind : Nat
  /-- Size (R409). -/
  size : Nat := 0
  /-- Physical address (R409). -/
  addr : Nat := 0
  /-- Value (R409). -/
  value : Nat := 0
  /-- Its error flag (R409). -/
  err : Bool := false
  /-- The step of the lead it belongs to (R409). -/
  seq : Nat := 0
  /-- The shadow has used it (R410). -/
  verified : Bool := false
  deriving DecidableEq, Repr, Inhabited

/-- A debug action of the string replay journal (R430): halt, resume, single step, a register write, a program buffer, a trigger hit. -/
inductive DbgAct where
  | halt | resume | step | hit
  | write (reg value : Nat)
  | prog (words : List Nat)
  deriving DecidableEq, Repr, Inhabited

/-- A checkpoint image: the lead's state and its custom CSRs by key (R420). -/
structure CkImage where
  /-- The lead's state (R420). -/
  core : Core
  /-- Its custom CSRs by key (R420). -/
  csrs : List (Nat × Nat) := []
  deriving DecidableEq, Repr, Inhabited

/-- A pair beside its registers (chapter 11): which copy runs as lead (1: C(2n + 1), in a slice), the journal since the committed checkpoint, the string
replay journal, the accesses of lead and shadow that wait in the release buffer, those released since the committed checkpoint and those folded in this replay, the lead's traps that the shadow has not taken,
the step at which a checkpoint stands, a request that waits for a commit, the image under commit with the lists it frees, the committed slot with its image, the times of
the mismatches of the last 100 ms, the ns of the last detection, the accesses a copy that rejoins
still drops with the step before which its traps are not compared, a halt request that waits for the end of a replay, and a released access whose response is still to come (R405 to R431). -/
structure Pair where
  /-- C(2n + 1) runs as lead, in a slice (R429, R567). -/
  swap : Bool := false
  /-- The input journal since the committed checkpoint (R409). -/
  journal : List JEntry := []
  /-- The string replay journal (R430). -/
  dbg : List (Nat × DbgAct) := []
  /-- Accesses of the lead in the release buffer (R412). -/
  lq : List Acs := []
  /-- Accesses of the shadow in the release buffer (R412). -/
  sq : List Acs := []
  /-- Accesses released since the committed checkpoint (R425). -/
  released : List Acs := []
  /-- Those folded in this replay (R425). -/
  replayed : List Acs := []
  /-- The lead's traps that the shadow has not taken (R416). -/
  traps : List (Nat × Nat × Nat) := []
  /-- The step at which a checkpoint stands (R418). -/
  ckAt : Option Nat := none
  /-- A request for a checkpoint that waits for a commit (R417). -/
  ckPend : Bool := false
  /-- The image under commit with the lists that it frees (R420). -/
  commit : Option (CkImage × Nat × Nat × Nat) := none
  /-- The committed slot (R419). -/
  slot : Nat := 0
  /-- The committed image (R420). -/
  image : Option CkImage := none
  /-- Times of the mismatches of the last 100 ms (R427). -/
  misms : List Nat := []
  /-- The ns of the last detection (R423). -/
  detect : Nat := 0
  /-- Accesses that a copy which rejoins still drops (R429). -/
  drop : Nat := 0
  /-- The step before which its traps are not compared (R429). -/
  rejoin : Nat := 0
  /-- A halt request that waits for the end of a replay (R430). -/
  hreq : Bool := false
  /-- A released access whose response is still to come (R413, R414). -/
  bus : Option Acs := none
  deriving DecidableEq, Repr, Inhabited



/-- An operation that a core port has begun for an instance: slot, direction, descriptor index, what it reads (descriptor, or the buffer), the generation at its start, the
PCIe tag it waits for, whether it waits to be taken up (for tokens, or for an operation before it), whether it is abandoned, the bytes of its descriptor, and for a receive the frame with its queue,
ingress port and stamp (R478 to R482, R489, R492). -/
structure ViOp where
  /-- The slot (R478). -/
  slot : Nat
  /-- It receives (R480). -/
  rx : Bool := false
  /-- Descriptor index (R478). -/
  idx : Nat := 0
  /-- It reads or writes the buffer, not the descriptor (R478). -/
  buf : Bool := false
  /-- The generation at its start (R489). -/
  gen : Nat := 0
  /-- The PCIe tag that it waits for (R478). -/
  tag : Option Nat := none
  /-- It waits to be taken up, for tokens or for an operation before it (R482). -/
  tokens : Bool := false
  /-- It is abandoned (R489, R492). -/
  gone : Bool := false
  /-- The bytes of its descriptor (R478). -/
  desc : List Nat := []
  /-- The frame to be received (R480). -/
  frame : List Nat := []
  /-- The frame's queue (R480). -/
  queue : Nat := 0
  /-- Its ingress port (R480). -/
  port : Nat := 0
  /-- Its stamp (R480). -/
  ns : Nat := 0
  /-- The frame of its own that waits at the core port for cells (R250, R479). -/
  waits : Option Nat := none
  /-- A write-back that waits for tokens: stamp, status, length (R482). -/
  wb : Option (Nat × Nat × Nat) := none
  deriving DecidableEq, Repr, Inhabited

/-- A virtual instance beside its registers (chapter 13): tokens taken and not yet refilled in 1/125 byte with the ns of the last refill; the ns of the last generation change plus 1;
the command that waits for a generation change; the resets (false) and the manager's command (true) that wait for the one under way to end; a fault recorded while quiescing; the state a reset returns to; the millisecond of
the last wait counted; per CAN set its 10 ms window and the requests in it; its frames in the switch buffer with their cells; its operations; the resource that
a DETACH drains. -/
structure ViSt where
  /-- Tokens taken and not yet refilled, in 1/125 byte (R482). -/
  spent : Nat := 0
  /-- The ns of the last refill (R482). -/
  upd : Nat := 0
  /-- The ns of the last generation change, plus 1 (R489). -/
  genNs : Nat := 0
  /-- The command that waits for a generation change (R489). -/
  due : Option Nat := none
  /-- The resets (false) and the manager's command (true) that wait for the one under way to end (R486). -/
  waiting : List Bool := []
  /-- A fault recorded while quiescing (R491). -/
  faulted : Bool := false
  /-- The state that a reset returns to (R485, R490). -/
  back : Nat := 1
  /-- The millisecond of the last wait counted (R482). -/
  waitMs : Nat := 0
  /-- Per CAN set its 10 ms window and the requests in it (R476). -/
  canWin : Tab (Nat × Nat) := {}
  /-- Its frames in the switch buffer with their cells (R483). -/
  frames : List (Nat × Nat) := []
  /-- Its operations (R478). -/
  ops : List ViOp := []
  /-- The resource that a DETACH drains (R492). -/
  drain : Option (Nat × Nat) := none
  deriving DecidableEq, Repr, Inhabited

/-- The key store (R515): life-cycle state, device ID, whether the device secret, the attestation key and the wrap-derivation salt stand, the digests of the root-key slots with
their type words, the revoked slots, rollback counter, active bank, pending bank, tries left, update state (0 IDLE, 1 OPEN, 2 VERIFIED) with the opened bank, erasure flag and commit number. -/
structure KeyStore where
  /-- Life-cycle state (R512); BLANK as manufactured. -/
  lc : Nat := 0
  /-- Device ID (R515). -/
  devId : Nat := 0
  /-- The device secret; 0 none (R515). -/
  secret : Nat := 0
  /-- The attestation key; 0 none (R515, R523). -/
  attest : Nat := 0
  /-- The salt of the wrap derivation (R515). -/
  salt : Nat := 0
  /-- Digests of the root-key slots with their type words (R515). -/
  roots : Tab (List Nat) := {}
  /-- Revoked slots (R515). -/
  revoked : Nat := 0
  /-- Rollback counter (R525). -/
  rollback : Nat := 0
  /-- Active bank (R520). -/
  active : Nat := 0
  /-- Pending bank (R524, R525). -/
  pending : Option Nat := none
  /-- Tries left of the pending bank (R525). -/
  tries : Nat := 0
  /-- Update state: 0 IDLE, 1 OPEN, 2 VERIFIED (R524). -/
  upd : Nat := 0
  /-- The bank that the update has opened (R524). -/
  bank : Nat := 0
  /-- Erasure flag (R516). -/
  erase : Bool := false
  /-- Commit number (R515). -/
  seq : Nat := 0
  deriving DecidableEq, Repr, Inhabited

/-- Compass beside the mailbox registers (chapter 14): queued channels in the order of their GO writes; the running channel and whether its result is discarded; results and ERR of
the command it has carried out; the instance whose generation a channel's owner carries; the key store; measurement slots; nonce and failed tokens; the debug scope opened; the booted bank, whether it runs as
a trial, the boot result per bank and the last boot time; whether the secrets are cleared and the key store is closed (R580); external flash: initialised mode and an erase under way; per
hart the ns of its last restarts, and the restart under way: hart, reason and the ns of its detection. -/
structure Cmp where
  /-- Queued channels in the order of their GO writes (R503). -/
  queue : List Nat := []
  /-- The running channel (R503). -/
  run : Option Nat := none
  /-- Its result is discarded (R505). -/
  drop : Bool := false
  /-- Results and ERR of the command that has been carried out (R504). -/
  res : Option (List Nat × Nat) := none
  /-- The instance whose generation a channel's owner carries (R501). -/
  vi : Tab (Option Nat) := {}
  /-- The group of a channel's owner as at its claim (R507). -/
  grp : Tab Nat := {}
  /-- The key store (R515). -/
  ks : KeyStore := {}
  /-- Measurement slots (R522). -/
  meas : Tab (List Nat) := {}
  /-- The nonce of the last challenge (R514). -/
  nonce : Option (List Nat) := none
  /-- Tokens that have failed (R514). -/
  fails : Nat := 0
  /-- The debug scope opened (R512). -/
  debug : Option Nat := none
  /-- The booted bank (R520). -/
  booted : Option Nat := none
  /-- It runs as a trial (R525). -/
  trial : Bool := false
  /-- The boot result per bank (R509, R510). -/
  bootErr : Tab Nat := {}
  /-- The last boot time (R510). -/
  bootUs : Nat := 0
  /-- The secrets are cleared and the key store is closed (R580). -/
  scan : Bool := false
  /-- The mode in which the external flash was initialised (R445, R510). -/
  flash : Option Nat := none
  /-- An erase of the flash is under way (R445, R510). -/
  erasing : Bool := false
  /-- Per hart the times of its last restarts (R466). -/
  restarts : Tab (List Nat) := {}
  /-- Per hart the restart under way: reason and the time of its detection (R464). -/
  restart : Tab (Option (Nat × Nat)) := {}
  deriving DecidableEq, Repr, Inhabited

/-- Power, reset and start-up beside their registers (chapters 1 and 15). -/
structure Pow where
  /-- The core die is supplied and running (R34, R542). -/
  coreUp : Bool := true
  /-- The mixed-signal die is supplied and running (R34, R542). -/
  msUp : Bool := true
  /-- Nanoseconds of the reference clock since the last cold reset; the CAN stamp counters count it (R295). -/
  refNs : Nat := 0
  /-- Nanoseconds of ticks since State.reset, through every reset and sleep: the elapsed time by which the rules measure intervals (log entry 101). -/
  elapsed : Nat := 0
  /-- The block whose reset waits for it to go idle (R547). -/
  blk : Option Nat := none
  /-- VBAT is valid (R531). -/
  vbat : Bool := true
  /-- The module sleeps with its dies off (R323). -/
  asleep : Bool := false
  /-- RESET_N is held low after its reset has been accepted (R544). -/
  pin : Bool := false
  /-- In bring-up: the kind of reset it began with (2 POR, 3 cold, 4 warm); none once fully ready (R545). -/
  bringUp : Option Nat := some 2
  /-- The settings record has been read since the last power-on (R544). -/
  settings : Bool := false
  /-- Starts of the warm resets of the last 2 s (R546). -/
  storm : List Nat := []
  /-- Calibrations that have ended in this bring-up, by item (R551). -/
  calDone : List Nat := []
  /-- Power-up tests that have ended in this bring-up, by item (R575). -/
  testDone : List Nat := []
  /-- The present thermal excursion has lowered the set point (R536). -/
  hot : Bool := false
  /-- The steps by which the set point stands below its target (R536). -/
  lower : Nat := 0
  /-- The newest GTB record: ns, backup tick number and GTB_VALID (R540). -/
  gtbRec : Nat × Nat × Bool := (0, 0, false)
  /-- The backup ticks counted (R540). -/
  ticks : Nat := 0
  /-- Copy B of the record is the newer one (R540). -/
  recB : Bool := false
  /-- Records of the backup domain that wait for the EVR to run: source, log word, stamp (R70, R537). -/
  backLog : List (Nat × Nat × Stamp) := []
  /-- Settings in force, words of the record by index (R603). -/
  record : Tab Nat := {}
  /-- The interface die hears the core die's heartbeats (R19). -/
  coreBeat : Bool := true
  /-- The PWM pairs that still await their period start in a takeover, as bits (R36). -/
  takeover : Nat := 0
  /-- The output stages of half A that the takeover line of half B has disabled, by PWM pair (R36). -/
  cut : Nat := 0
  /-- What half A of a twin has to report in its mirror frames, as bits: 1 an escalation, 2 the loss of its mixed-signal die supply, 3 a handoff (R35). -/
  twin : Nat := 0
  /-- The protected engine pairs whose current iteration a handoff awaits, as bits by even engine (R38). -/
  handWait : Nat := 0
  /-- Half A has reported a handoff: its stages pass to half B pair by pair, without a gap (R38). -/
  handed : Bool := false
  /-- PCIE_PERST_N is held low (R615). -/
  perst : Bool := false
  /-- The module drives PCIE_PERST_N high, as a root port (R615). -/
  perstOut : Bool := false
  deriving DecidableEq, Repr, Inhabited

/-- The self-test engine beside its registers (chapter 16): units that have passed since the last round, the copy of each block (by its lower unit) that is tested next,
the ns (plus 1) of each unit's last pass, and the ns (plus 1) since which a condition has failed without a break, with whether that is reported (R564, R566). -/
structure Ste where
  /-- Units that have passed since the last round (R566). -/
  passed : List Nat := []
  /-- The copy of each block, by its lower unit, that is tested next (R566). -/
  next : Tab Bool := {}
  /-- The ns of each unit's last pass, plus 1 (R566). -/
  passNs : Tab Nat := {}
  /-- The ns since which a condition has failed without a break, plus 1 (R564). -/
  failNs : Nat := 0
  /-- That failure has been reported (R564). -/
  told : Bool := false
  deriving DecidableEq, Repr, Inhabited

/-- The state of the module. -/
structure State where
  /-- Which part it is; the twin's halves are parts of their own (R1, R5, R35). -/
  part : Part := .azc4896
  /-- The register file: every field whose value differs from its reset value, under its key (R11, R14). -/
  regs : Tab Nat := {}
  /-- Low words of pairs held until the high word is written, by pair address (R588). -/
  held : Tab (Option Nat) := {}
  /-- The read latch of each initiator (R592). -/
  latch : Tab (Option ReadLatch) := {}
  /-- Memory: SRAM, eNVM, Tangram local memory, CAN payload areas and the other addressed memories, by byte address. -/
  mem : List Host.Cell := []
  /-- The global time base (R40). -/
  gtb : Gtb := {}
  /-- Firings, direct-path events and edges on their way to the units that follow them, oldest first (R55, R66, R71, R139, R296). -/
  due : List Due := []
  /-- The event router (R69). -/
  evr : Evr := {}
  /-- The converter blocks (R91). -/
  conv : Conv := {}
  /-- The Tangram engines TG0 to TG11 (R133). -/
  tg : Tab TgEng := {}
  /-- The protected switch channels and their power dies (R185). -/
  psc : Psc := {}
  /-- The Rhomboid switch (R235). -/
  esw : Esw := {}
  /-- The CAN controllers CAN0 to CAN15 (R284). -/
  can : Tab CanSt := {}
  /-- The LIN channels LIN0 to LIN7 (R303). -/
  lin : Tab LinSt := {}
  /-- Carousel sleep and wake (R313). -/
  crs : Crs := {}
  /-- The Kaleidoscope gateway (R340). -/
  gw : Gw := {}
  /-- The PCIe bridge (R360). -/
  pcie : Pcie := {}
  /-- The cores C0 to C7 (R371). -/
  core : Tab Core := {}
  /-- The pairs P0 to P3 (R405). -/
  pair : Tab Pair := {}
  /-- The lines that the patrol scrubber reads next: SRAM and eNVM (R443). -/
  scrub : Nat × Nat := (0, 0)
  /-- The virtual instances (R471). -/
  vi : Tab ViSt := {}
  /-- The ns at which the manager command that runs was given (R487). -/
  vimStart : Nat := 0
  /-- Compass (R500). -/
  cmp : Cmp := {}
  /-- Power, reset and start-up (R531). -/
  pow : Pow := {}
  /-- The self-test engine (R563). -/
  ste : Ste := {}
  /-- Pending interrupts of the cores C0 to C7 and the manager core, Inner file, in increasing source order (R397). -/
  irqInner : Tab (List Nat) := {}
  /-- Pending interrupts, Outer file (R397). -/
  irqOuter : Tab (List Nat) := {}
  /-- What the module has sent over its buses, links and balls, latest first (the model's own record). -/
  out : List Out := []
  /-- The model's counter of draws of free values. -/
  free : Nat := 0
  /-- The commands that wait, first in, first out. -/
  pending : List Instr := []
  deriving DecidableEq, Repr, Inhabited

/-- The module right after its first power-up, with every register at its reset value, every memory empty and no command waiting. -/
def State.reset : State := {}

end Sys2Proof.Machine
end

