-- ==== Sys2Proof/Machine/Ops.lean ====
section
/-! DEFINITION. The named operations over the register file, the memories and the time base. Every read and write of a
register field, of a byte of memory and of a free value goes through them. -/

namespace Sys2Proof.Machine

open Sys2Proof

/-! ### Register fields (R11 to R16) -/

/-- The register file with field `f` set to `v`, cut to the field's width. The reset value is not listed. -/
def regPut (f : Fld) (v : Nat) (t : Tab Nat) : Tab Nat :=
  if v % 2 ^ f.w = f.rst then t.del (fldKey f) else t.put (fldKey f) (v % 2 ^ f.w)

/-- The value of field `f`; an unlisted field holds its reset value (R14). -/
def State.get (s : State) (f : Fld) : Nat := cellsGet f.rst (fldKey f) s.regs.cells

/-- Field `f` set to `v`. -/
def State.set (s : State) (f : Fld) (v : Nat) : State := { s with regs := regPut f v s.regs }

/-- Whether field `f` reads other than 0. -/
def State.on (s : State) (f : Fld) : Bool := s.get f != 0

/-- Field `f` as a two's complement number. -/
def State.getS (s : State) (f : Fld) : Int := toS f.w (s.get f)

/-- Field `f` set to the two's complement of `i`. -/
def State.setS (s : State) (f : Fld) (i : Int) : State := s.set f (ofS f.w i)

/-- Field `f` increased by `n`, saturating at its largest value. -/
def State.addSat (s : State) (f : Fld) (n : Nat) : State := s.set f (satU f.w (s.get f + n))

/-- Field `f` counted up by one, saturating. -/
def State.inc (s : State) (f : Fld) : State := s.addSat f 1

/-- Field `f` increased by `n`, wrapping. -/
def State.addWrap (s : State) (f : Fld) (n : Nat) : State := s.set f ((s.get f + n) % 2 ^ f.w)

/-- Field `f` set to `v` where `c` holds. -/
def State.setIf (s : State) (c : Bool) (f : Fld) (v : Nat) : State := if c then s.set f v else s

/-- Bit `n` of field `f` set to `b`. -/
def State.setBit (s : State) (f : Fld) (n : Nat) (b : Bool) : State := s.set f (putBit (s.get f) n b)

/-- Field `f` raised to `v` where `v` is the larger (the tracking fields of R597). -/
def State.track (s : State) (f : Fld) (v : Nat) : State := if s.get f < v then s.set f (satU f.w v) else s

/-- A state changed in turn for each element of a list. -/
def State.each {α : Type} (s : State) (l : List α) (g : State → α → State) : State := l.foldl g s

/-! ### Memory (R437, R440, R585) -/

/-- What a byte of memory that nothing has written reads as: bring-up clears SRAM to zero (R440); every other memory reads 0
by the model's choice (log entry 3). -/
def emptyByte : BitVec 8 := 0

/-- The byte of memory at address `a`. -/
def State.byte (s : State) (a : Nat) : Nat := (cellsGet emptyByte a s.mem).toNat

/-- A memory with the byte at `a` set to `b`; a byte that reads as unwritten memory is not listed. -/
def memPut (a : Nat) (b : BitVec 8) (m : List Host.Cell) : List Host.Cell :=
  if b = emptyByte then cellsDel a m else cellsIns a b (cellsDel a m)

/-- A core loses its reservation at a write to the line (R373). -/
def Core.lose (line : Nat) (k : Core) : Core := if k.res = some line then { k with res := none } else k

/-- The byte at address `a` set to `b`; reservations of its line are lost (R373). -/
def State.setByte (s : State) (a b : Nat) : State :=
  { s with mem := memPut a (BitVec.ofNat 8 b) s.mem, core := ⟨s.core.cells.map (fun c => (c.1, c.2.lose (a / 64)))⟩ }

/-- The `n` bytes from address `a` on set to zero, as unwritten memory reads. -/
def State.zero (s : State) (a n : Nat) : State :=
  { s with mem := s.mem.filter (fun c => !(decide (a ≤ c.1) && decide (c.1 < a + n)))
           core := ⟨s.core.cells.map (fun c => (c.1, if c.2.res.any (fun l => decide (a < 64 * l + 64) && decide (64 * l < a + n)) then { c.2 with res := none } else c.2))⟩ }

/-- The `n` bytes from address `a` on, lowest address first. -/
def State.bytes (s : State) : Nat → Nat → List Nat
  | _, 0 => []
  | a, n + 1 => s.byte a :: s.bytes (a + 1) n

/-- The bytes of `bs` written from address `a` on. -/
def State.setBytes : State → Nat → List Nat → State
  | s, _, [] => s
  | s, a, b :: bs => (s.setByte a b).setBytes (a + 1) bs

/-- The little-endian number of `n` bytes at address `a` (R585). -/
def State.load (s : State) (a n : Nat) : Nat := ofBytes (s.bytes a n)

/-- The little-endian number `v` stored in `n` bytes at address `a` (R585). -/
def State.store (s : State) (a n v : Nat) : State := s.setBytes a (toBytes n v)

/-- The canonical form of a memory: addresses strictly rising, and no byte listed that unwritten memory reads as. -/
def memWf : List Host.Cell → Bool
  | [] => true
  | [(_, b)] => b != emptyByte
  | (a, b) :: (c, d) :: r => decide (a < c) && b != emptyByte && memWf ((c, d) :: r)

/-- The memory of a state is in canonical form. -/
abbrev Memory.wf (s : State) : Prop := memWf s.mem = true

/-! ### Free values -/

/-- One free value drawn: the counter of draws advances. -/
def State.draw (s : State) : State := { s with free := s.free + 1 }

/-- Block `n` (R561) has been asked to go idle and starts nothing new: for its reset (R547, R548), or a converter or group whose domain is to be switched off (R534). -/
def State.idling (s : State) (n : Nat) : Bool :=
  s.pow.blk == some n || (decide (n < 16) && s.on PWR_DOMSTAT_BUSY && !bitOf (s.get PWR_DOMCTL_RUN) 0)

/-! ### Time (R40, R69) -/

/-- One ns in the units of the GTB. -/
def nsUnit : Nat := 2 ^ 40

/-- The GTB in whole nanoseconds (R40). -/
def State.nowNs (s : State) : Nat := s.gtb.now / nsUnit

/-- The 8-bit fraction of the GTB (R40). -/
def State.nowFrac (s : State) : Nat := s.gtb.now / 2 ^ 32 % 256

/-- The stamp of an event that happens now: 4 ns resolution, fraction 0, taken at the happening (R69, log entry 5). -/
def State.stamp (s : State) : Stamp := { ns := s.nowNs - s.nowNs % 4, frac := 0 }

/-- Something sent over a bus, link or ball. -/
def State.emit (s : State) (o : Out) : State := { s with out := o :: s.out }

/-- R35: half A of a twin has cause `c` to report in its mirror frames. -/
def State.twinReport (s : State) (c : Nat) : State :=
  if s.part = .twinA then { s with pow := { s.pow with twin := Machine.setBit s.pow.twin c } } else s

/-- A log word with a cause in [31:24] and a value in the low bits. -/
def causeWord (cause value : Nat) : Nat := cause * 2 ^ 24 + value % 2 ^ 24

/-- The outcome of a command that always completes. -/
abbrev done (s : State) : Host.Outcome State Fault Refusal := .next s

/-- Whether the core die runs: the dies can then take a cold or warm reset. -/
def State.alive (s : State) : Bool := s.pow.vbat && s.pow.coreUp

end Sys2Proof.Machine
end

