-- ==== Sys2Proof/Machine/Follow.lean ====
section
/-! DEFINITION. What follows a firing, a direct-path event, an edge or a count: the units that select it, and its arrival there
(R55, R66, R71, R139, R296, R347; log entry 113). -/

namespace Sys2Proof.Machine

open Sys2Proof

/-- The GTB as a stamp, with its fraction (R40). -/
def State.exact (s : State) : Stamp := { ns := s.nowNs, frac := s.nowFrac }

/-- Things set on their way to the units that follow them. -/
def State.follow (s : State) (l : List Due) : State := { s with due := s.due ++ l }

/-- The oldest thing on its way that `p` selects arrives. -/
def State.arrive (s : State) (p : Due → Bool) : Option (Due × State) :=
  match s.due.find? p with
  | some d => some (d, { s with due := s.due.erase d })
  | none => none

/-- The slots of the engines that select source `src` of occurrence type `typ` (R139). -/
def State.slotDues (s : State) (typ src : Nat) (at_ : Stamp) : List Due :=
  (List.range 96).filterMap (fun x =>
    let e := x / 8
    let k := x % 8
    if s.on (TG_SLOT_EN e k) && s.get (TG_SLOT_TYPE e k) == typ && s.get (TG_SLOT_SRC e k) == src then some (.slot e k at_) else none)

/-- The enabled capture units that select source `src` and an edge of this direction (R59, R66). -/
def State.capDues (s : State) (src : Nat) (rising : Bool) : List Due :=
  (List.range 32).filterMap (fun u =>
    if s.on (GTB_CAPCTL_EN u) && s.get (GTB_CAPCTL_SRC u) == src && bitOf (s.get (GTB_CAPCTL_EDGE u)) (if rising then 0 else 1) then
      some (.cap u rising s.exact) else none)

/-- R55, R66, R296, R347: what trigger line `n` reaches when it fires. -/
def State.lineDues (s : State) (n : Nat) : List Due :=
  (List.range 8).filterMap (fun k => if s.on (ADC_CTL_EN k) && s.on (ADC_CTL_TRIGEN k) && s.get (ADC_CTL_TRIG k) == n then some (.adc k) else none) ++
  (List.range 8).filterMap (fun g => if s.on (ADC_GRP_EN g) && s.get (ADC_GRP_TRIG g) == n then some (.group g) else none) ++
  (List.range 4).filterMap (fun m => if s.on (SDF_CTL_EN m) && s.on (SDF_CTL_TRIGEN m) && s.get (SDF_CTL_TRIG m) == n then some (.window m) else none) ++
  (List.range 24).filterMap (fun j => if s.on (PWM_STAT_RUN j) && s.on (PWM_CFG_SYNC j) && s.get (PWM_CFG_SYNCTRG j) == n then some (.sync j) else none) ++
  s.slotDues 0 n s.exact ++ s.capDues (128 + n) true ++
  (List.range 16).filterMap (fun c => if s.on (CAN_CORRCTL_EN c) && s.get (CAN_CORRCTL_TRIG c) == n then some (.corr c s.exact s.pow.refNs) else none) ++
  (List.range 4096).filterMap (fun l => if s.on (GW_LCTL_EN l) && (s.get (GW_LTX_MODE l) == 0 || s.get (GW_LTX_MODE l) == 3) && s.get (GW_LTX_TRIG l) == n then some (.layout l) else none)

end Sys2Proof.Machine
end

