-- ==== Sys2Proof/Machine/Events.lean ====
section
/-! DEFINITION. The event router: how an event is raised, how the paths queue, refuse and summarise events,
the alarm latch, and the interrupt files (R67 to R85). -/

namespace Sys2Proof.Machine

open Sys2Proof

/-- The route that EVR_ROUTE gives source `src` now (R84). -/
def State.route (s : State) (src : Nat) : Route :=
  { en := s.on (EVR_ROUTE_EN src), inner := s.on (EVR_ROUTE_WORLD src), cls := s.get (EVR_ROUTE_CLASS src)
    log := s.on (EVR_ROUTE_LOG src), trc := s.on (EVR_ROUTE_TRC src), irq := s.on (EVR_ROUTE_IRQ src)
    dest := s.get (EVR_ROUTE_DEST src) }

/-! ### The log path (`lg = true`) and the trace path (`lg = false`) of R76 -/

/-- Whether a path is enabled (R77). -/
def State.pathOn (s : State) (lg : Bool) : Bool := if lg then s.on EVR_LOGCFG_EN else s.on EVR_TRCCFG_EN

/-- The queue of a path. -/
def State.pathQ (s : State) (lg : Bool) : List Ev := if lg then s.evr.logQ else s.evr.trcQ

/-- The drop level of a path, 4 for Full. -/
def State.pathLvl (s : State) (lg : Bool) : Nat := if lg then s.evr.logLvl else s.evr.trcLvl

/-- The loss counter of a path for a source. -/
def lossFld (lg : Bool) (src : Nat) : Fld := if lg then EVR_LOSSLOG_LOST src else EVR_LOSSTRC_LOST src

/-- A path with a new queue and drop level; EVR_STAT shows both, Full as 3 (R76, R84). -/
def State.setPath (s : State) (lg : Bool) (q : List Ev) (lvl : Nat) : State :=
  if lg then
    ({ s with evr := { s.evr with logQ := q, logLvl := lvl } }.set EVR_STAT_LOGOCC q.length).set EVR_STAT_LOGLVL (min lvl 3)
  else
    ({ s with evr := { s.evr with trcQ := q, trcLvl := lvl } }.set EVR_STAT_TRCOCC q.length).set EVR_STAT_TRCLVL (min lvl 3)

/-- The drop level that an occupancy rises to (R76). -/
def levelAt (occ : Nat) : Nat :=
  if 1024 ≤ occ then 4 else if 960 ≤ occ then 3 else if 896 ≤ occ then 2 else if 768 ≤ occ then 1 else 0

/-- One event of `src` counted as lost by a path, keeping the stamp of the first one since the last summary (R76). -/
def State.countLoss (s : State) (lg : Bool) (src : Nat) (at_ : Stamp) : State :=
  let s1 := if s.get (lossFld lg src) = 0 then
      (if lg then { s with evr := { s.evr with logFirst := s.evr.logFirst.put src at_ } }
       else { s with evr := { s.evr with trcFirst := s.evr.trcFirst.put src at_ } })
    else s
  s1.inc (lossFld lg src)

/-- A repeat of a source whose previous event has not entered the sort, counted in each enabled path it is routed to (R74). -/
def State.countRepeat (s : State) (e : Ev) : State :=
  let r := s.route e.src
  let s1 := if r.en && r.log && s.pathOn true then s.countLoss true e.src e.at_ else s
  if r.en && r.trc && s1.pathOn false then s1.countLoss false e.src e.at_ else s1

/-- An event that enters the event router without its alarm: kept for the sort with the route that EVR_ROUTE holds at its stamp (R85), or counted
as a repeat (R74). -/
def State.enterRaw (s : State) (e : Ev) : State :=
  if s.evr.entering.any (fun x => x.src == e.src) then s.countRepeat e
  else { s with evr := { s.evr with entering := s.evr.entering ++ [{ e with route := s.route e.src }] } }

/-- A repeat of class 3 of an enabled source, which still reaches the alarm latch (R74). -/
def State.repeatAlarm (s : State) (e : Ev) : Bool :=
  s.evr.entering.any (fun x => x.src == e.src) && (s.route e.src).en && (s.route e.src).cls == 3

/-! ### The alarm latch (R78 to R81) -/

/-- The latch entry that source `src` holds. -/
def State.alarmOf (s : State) (src : Nat) : Option Nat :=
  (List.range 256).find? (fun e => s.on (EVR_ALMSRC_VALID e) && s.get (EVR_ALMSRC_SRC e) == src)

/-- The lowest free latch entry. -/
def State.alarmFree (s : State) : Option Nat := (List.range 256).find? (fun e => !s.on (EVR_ALMSRC_VALID e))

/-- A record of the persistent event area, the 32 most recent, which a commit is to write (R81, R540). -/
def State.persistAdd (s : State) (p : PersistEntry) : State :=
  { s with evr := { s.evr with persist := (p :: s.evr.persist).take 32, commit := true } }

/-- The area as a copy with sequence number `q`; a write that ends with a bad CRC leaves nothing in it (R540). -/
def State.areaNow (s : State) (q : Nat) (ok : Bool) : AreaCopy := { seq := q, good := ok, entries := if ok then s.evr.persist else [] }

/-- PEA and PEB show which copies are good (R562). -/
def State.areaShow (s : State) : State := (s.set PWR_BAKSTAT_PEA (b2n s.evr.areaA.good)).set PWR_BAKSTAT_PEB (b2n s.evr.areaB.good)

/-- The sequence number that orders a copy; one with a bad CRC comes first (R540). -/
def AreaCopy.rank (x : AreaCopy) : Nat := if x.good then x.seq + 1 else 0

/-- R540: a due commit writes the whole area into the copy with the lower sequence number, reads it back, and then writes the other copy; below 2.1 V no copy write
starts, and after a copy that ends with a bad CRC the other stands. -/
def State.persistCommit (s : State) (b : BakObs) : State :=
  if !s.evr.commit || decide (b.mv < 2100) then s
  else
    let q := max s.evr.areaA.seq s.evr.areaB.seq + 1
    let inA := decide (s.evr.areaA.rank ≤ s.evr.areaB.rank)
    let x := s.areaNow q b.first
    let y := s.areaNow (q + 1) b.second
    let s1 : State := if inA then { s with evr := { s.evr with areaA := x } } else { s with evr := { s.evr with areaB := x } }
    let s2 : State := if !b.first then s1
      else if inA then { s1 with evr := { s1.evr with areaB := y, commit := !b.second } }
      else { s1 with evr := { s1.evr with areaA := y, commit := !b.second } }
    s2.areaShow

/-- A repeat counted in the newest entry of its source in the persistent area (log entry 29). -/
def persistBump (src : Nat) : List PersistEntry → List PersistEntry
  | [] => []
  | p :: l => if p.src = src then { p with count := satU 16 (p.count + 1) } :: l else p :: persistBump src l

/-- Whether the latch has no place for an alarm of source `src` (R79). -/
def State.alarmFull (s : State) (src : Nat) : Bool := (s.alarmOf src).isNone && s.alarmFree.isNone

/-- A class 3 event takes or increments its latch entry, or sets its overflow bit (R78, R79, R81). -/
def State.alarmTake (s : State) (e : Ev) : State :=
  match s.alarmOf e.src with
  | some k =>
    ({ s with evr := { s.evr with persist := persistBump e.src s.evr.persist, commit := true } }.inc (EVR_ALMSRC_COUNT k)).set (EVR_ALMLAST_NS k) e.at_.ns
  | none =>
    match s.alarmFree with
    | some k =>
      let s1 := (((s.set (EVR_ALMSRC_VALID k) 1).set (EVR_ALMSRC_SRC k) e.src).set (EVR_ALMSRC_COUNT k) 1).set
        (EVR_ALMFIRST_NS k) e.at_.ns
      let s2 := (s1.set (EVR_ALMLAST_NS k) e.at_.ns).addWrap EVR_ALMSTAT_USED 1
      (s2.set EVR_ALMSTAT_FULL (b2n (s2.get EVR_ALMSTAT_USED == 256))).persistAdd
        { src := e.src, word := e.word, at_ := e.at_ }
    | none => (s.setBit (EVR_ALMOVF_SRCBITS (e.src / 32)) (e.src % 32) true).inc EVR_ALMSTAT_OVFCNT

/-- A class 3 event at the latch; where it finds no place, source 30 is raised (R79). While an event of source 30 waits, the new one is a repeat that reaches
the latch at once (R74); its own overflow then raises no further one (log entry 115). -/
def State.alarm (s : State) (e : Ev) : State :=
  let t := s.alarmTake e
  let x : Ev := { src := 30, word := e.src, at_ := s.stamp }
  if !s.alarmFull e.src then t
  else if t.repeatAlarm x then (t.enterRaw x).alarmTake x
  else t.enterRaw x

/-- The self-test item that a source belongs to (R561, R574). -/
def srcItem (n : Nat) : Option Nat :=
  if n < 32 then none
  else if n < 40 then some (128 + (n - 32))
  else if n < 48 then some (114 + (n - 40) / 2)
  else if n < 72 then some (72 + (n - 48) / 2)
  else if n < 80 then some (8 + (n - 72))
  else if n < 96 then some ((n - 80) % 8)
  else if n < 104 then some (68 + (n - 96) % 4)
  else if n < 128 then some (40 + (n - 104))
  else if n < 152 then some (16 + (n - 128))
  else if n < 192 then some 85
  else if n < 224 then some (87 + (n - 192) / 2)
  else if n < 232 then some (103 + (n - 224))
  else if n < 250 then some (140 + (n - 232))
  else none

/-- The power domain that an item lies in, where it is one that can be off (R533). -/
def itemDomain (i : Nat) : Option Nat :=
  if i < 16 ∨ (40 ≤ i ∧ i < 72) then some 14
  else if i < 40 then some 15
  else if 72 ≤ i ∧ i < 84 then some (9 + (i - 72) / 4)
  else if 114 ≤ i ∧ i < 118 then some (5 + (i - 114))
  else if 128 ≤ i ∧ i < 136 then some (5 + (i - 128) / 2)
  else if 140 ≤ i ∧ i < 158 then
    some (if i < 142 then 16 else if i < 148 then 17 else if i < 152 then 18 else if i < 156 then 19 else 20)
  else none

/-- Copy `u` of the self-test table has failed (R571). -/
def State.copyFailed (s : State) (u : Nat) : Bool := s.get (STE_USTAT_STATE u) == 3

/-- Whether item `i` is marked in STE_UNUSE (R574). -/
def State.marked (s : State) (i : Nat) : Bool := bitOf (s.get (STE_UNUSE_ITEMS (i / 32))) (i % 32)

/-- An item that is unusable (R577). A block of two copies runs on with one of them: its mark then makes nothing unusable (R572, R575). -/
def State.unusable (s : State) (i : Nat) : Bool :=
  s.marked i &&
  (if 72 ≤ i ∧ i < 84 then !s.copyFailed (8 + (i - 72))
  else if i = 85 then s.copyFailed 20 && s.copyFailed 21
  else if 158 ≤ i ∧ i < 176 then s.copyFailed (22 + 2 * (i - 158)) && s.copyFailed (23 + 2 * (i - 158))
  else if 128 ≤ i ∧ i < 136 then
    s.on (PAIR_CFG_SPLIT ((i - 128) / 2)) || s.marked (if i % 2 = 0 then i + 1 else i - 1)
  else true)

/-- The power-up test of item `i` has ended: after a warm reset only the switch, the ports and the PCIe block are tested again (R575, R576). -/
def State.tested (s : State) (i : Nat) : Bool :=
  match s.pow.bringUp with
  | none => true
  | some k => s.pow.testDone.contains i || (k == 4 && !(i == 86 || i == 113 || (decide (140 ≤ i) && decide (i < 158))))

/-- The calibration of item `i` has ended: a warm reset calibrates the PWM delay lines and the PHYs alone (R551). -/
def State.calibrated (s : State) (i : Nat) : Bool :=
  match s.pow.bringUp with
  | none => true
  | some k => s.pow.calDone.contains i || (k == 4 && !((decide (16 ≤ i) && decide (i < 40)) || (decide (140 ≤ i) && decide (i < 158))))

/-- A port whose PHY may bring up its link: calibrated, tested, usable and powered, with the core die's heartbeats heard (R19, R534, R556, R576, R577). -/
def State.portLive (s : State) (p : Nat) : Bool :=
  s.pow.coreBeat && s.calibrated (140 + p) && s.tested (140 + p) && !s.unusable (140 + p) &&
  (match itemDomain (140 + p) with | none => true | some d => bitOf (s.get PWR_DOMSTAT_UP) d)

/-- A source that raises nothing: its domain is off, or its item is unusable (R534, R577). -/
def State.muted (s : State) (src : Nat) : Bool :=
  match srcItem src with
  | none => false
  | some i => s.unusable i || (match itemDomain i with | none => false | some d => !bitOf (s.get PWR_DOMSTAT_UP) d)

/-- An event that enters the event router; a repeat of class 3 still reaches the alarm latch (R74). -/
def State.enterNow (s : State) (e : Ev) : State :=
  if s.repeatAlarm e then (s.enterRaw e).alarm e else s.enterRaw e

/-- R71: an event of sources 72 to 151 sets out on the direct path, whatever its route, to the slots that select it. -/
def State.direct (s : State) (e : Ev) : State :=
  if 72 ≤ e.src ∧ e.src < 152 then s.follow (s.slotDues 1 e.src e.at_) else s

/-- An event of a source that is not muted enters the event router (R534, R577). -/
def State.enter (s : State) (e : Ev) : State := if s.muted e.src then s else (s.enterNow e).direct e

/-! ### Notices to virtual instances (R477) -/

/-- The MSI-X vector of a notification bit: queue pairs, CAN, channels, context, fault (R477). -/
def viVector (b : Nat) : Nat := if b < 16 then b % 4 else if b < 18 then 4 else b - 13

/-- The address of a byte of an instance's MSI-X table and PBA (R474). -/
def viMsix (i o : Nat) : Nat := 0x6000_0800 + i * 0x1_0000 + o

/-- An MSI-X vector signalled: the message, or its PBA bit while the vector is masked. A vector is masked from reset (PRESUMED, log entry 25): the byte of vector
control is held inverted in its bit 0. -/
def State.msix (s : State) (i v : Nat) : State :=
  if (s.byte (viMsix i (16 * v + 12))) % 2 = 1 then
    s.emit (.pcie ([7, s.get (VIM_ICFG_FN i), v] ++ s.bytes (viMsix i (16 * v)) 12))
  else s.setByte (viMsix i 0x80) (Machine.setBit (s.byte (viMsix i 0x80)) v)

/-- Bit `b` of VI_NOTE of instance `i` is set; one that becomes 1 unmasked notifies the tenant (R477). -/
def State.viNote (s : State) (i b : Nat) : State :=
  if bitOf (s.get (VI_NOTE_BITS i)) b then s
  else
    let s1 := s.setBit (VI_NOTE_BITS i) b true
    if !bitOf (s.get (VI_NMASK_BITS i)) b then s1
    else if s.get (VIM_ICFG_BIND i) = 1 then s1.msix i (viVector b)
    else if s.get (VIM_ICFG_BIND i) = 2 then
      (s1.setBit (VIM_LNOTE_VI (i / 32)) (i % 32) true).enter { src := 14, word := i, at_ := s.stamp }
    else s1

/-- VIM_ISTAT.STATE: 0 FREE, 1 ACTIVE, 2 ERROR, 3 QUIESCING, 4 QUIESCED, 5 RESETTING (R498). -/
def State.viState (s : State) (i : Nat) : Nat := s.get (VIM_ISTAT_STATE i)

/-- A state shown at the manager and at the tenant, and the number of instances that are not FREE. -/
def State.viGoto (s : State) (i st : Nat) : State :=
  let was := s.viState i
  let s1 := (s.set (VIM_ISTAT_STATE i) st).set (VI_STAT_STATE i) st
  if was = 0 ∧ st ≠ 0 then s1.addWrap VIM_GSTAT_NACT 1
  else if was ≠ 0 ∧ st = 0 then s1.set VIM_GSTAT_NACT (s1.get VIM_GSTAT_NACT - 1)
  else s1

/-- R491: a fault of instance `i` recorded and reported: FCODE, bit 20 of VI_NOTE, FAULTS and source 15. An ACTIVE instance stops in ERROR, with a reset due where
FAULTRST is set; while quiescing the fault is remembered. -/
def State.viFaultMark (s : State) (i code : Nat) : State :=
  let s1 := (((s.set (VI_STAT_FCODE i) code).set (VIM_ISTAT_FCODE i) code).inc (VIM_ICNT_FAULTS i)).viNote i 20
  let s2 := s1.enter { src := 15, word := 2 ^ 24 + code % 256 * 256 + i, at_ := s.stamp }
  if s.viState i = 3 then { s2 with vi := s2.vi.upd i (fun v => { v with faulted := true }) }
  else if s.viState i = 1 then
    let s3 : State := { s2 with vi := s2.vi.upd i (fun v => { v with ops := v.ops.filter (fun o => !(o.tokens && !o.buf && o.desc.isEmpty)) }) }
    let s4 := s3.viGoto i 2
    if !s.on (VIM_ICFG_FAULTRST i) then s4
    else { s4 with vi := s4.vi.upd i (fun v =>
      if v.due.isNone && v.drain.isNone then { v with due := some 6 } else { v with waiting := v.waiting ++ [false] }) }
  else s2

/-- R491, R176: the pair at engine `e` escalates: the instance that holds it as its context takes fault 4. -/
def State.viEscalation (s : State) (e : Nat) : State :=
  match (List.range 256).find? (fun i => s.on (VIM_IATT_TG i) && s.get (VIM_TG_ENG i) == e) with
  | some i => s.viFaultMark i 4
  | none => s

/-- The instance and CAN set that object `o` of controller `c` belongs to, where one is attached. -/
def State.viCan (s : State) (c o : Nat) : Option (Nat × Nat) :=
  (List.range 256).findSome? (fun i => ([0, 1].find? (fun k => bitOf (s.get (VIM_IATT_CAN i)) k && s.get (VIM_CAN_CH i k) == c &&
    decide (s.get (VIM_CAN_OBASE i k) ≤ o) && decide (o ≤ s.get (VIM_CAN_OBASE i k) + s.get (VIM_CAN_OCNT i k)))).map (fun k => (i, k)))

/-- What an event means to an instance that holds its resource: a completed CAN object, a channel's source, a context's source (R477). -/
def State.viHear (s : State) (src word : Nat) : State :=
  if !s.on VIM_GCTL_EN then s
  else if 192 ≤ src ∧ src < 224 ∧ src % 2 = 1 ∧ (word / 2 ^ 24 = 1 ∨ word / 2 ^ 24 = 2) then
    match s.viCan ((src - 192) / 2) (word % 2 ^ 24) with
    | some (i, k) => s.viNote i (16 + k)
    | none => s
  else if 152 ≤ src ∧ src < 192 then
    match (List.range 256).find? (fun i => s.on (VIM_IATT_PSC i) && bitOf (s.get (VIM_PSCMASK_CH i)) (src - 152)) with
    | some i => s.viNote i 18
    | none => s
  else if 48 ≤ src ∧ src < 72 ∧ src % 2 = 0 then
    match (List.range 256).find? (fun i => s.on (VIM_IATT_TG i) && s.get (VIM_TG_ENG i) == (src - 48) / 2) with
    | some i => s.viNote i 19
    | none => s
  else s

/-- Source `src` raised now with a log word (R67, R69). -/
def State.raise (s : State) (src word : Nat) : State :=
  (s.enter { src := src, word := word % 2 ^ 32, at_ := s.stamp }).viHear src word

/-- Source `src` raised with a stamp of its own: a capture stamp, or a stamp of the backup domain (R69, R70). -/
def State.raiseAt (s : State) (src word : Nat) (at_ : Stamp) : State := s.enter { src := src, word := word % 2 ^ 32, at_ := at_ }

/-- Source `src` raised with a cause and a value. -/
def State.raiseC (s : State) (src cause value : Nat) : State := s.raise src (causeWord cause value)

/-- A cause reported as a summary: at most once per millisecond, its value counting the occurrences since the last report,
saturating at 0xFFFF (R271, R366; occurrences within the millisecond are reported with the next one after it, log entry 6). -/
def State.raiseSum (s : State) (src cause n : Nat) : State :=
  let k := src * 16 + cause
  let p := s.evr.sums.get k
  if p.2 = 0 ∨ p.2 + 1000000 ≤ s.pow.elapsed + 1 then
    ({ s with evr := { s.evr with sums := s.evr.sums.put k (0, s.pow.elapsed + 1) } }).raise src (causeWord cause (satU 16 (p.1 + n)))
  else { s with evr := { s.evr with sums := s.evr.sums.put k (p.1 + n, p.2) } }

/-! ### Admission to a path (R76) -/

/-- A record put into a path's queue, raising the drop level and its source where the occupancy reaches one (R76). -/
def State.pathPush (s : State) (lg : Bool) (e : Ev) : State :=
  let q := s.pathQ lg ++ [e]
  let l := levelAt q.length
  if s.pathLvl lg < l then (s.setPath lg q l).raise (if lg then 28 else 29) l
  else s.setPath lg q (s.pathLvl lg)

/-- The loss-summary record of a source, while the drop level is 0 (R76). -/
def State.summary1 (lg : Bool) (s : State) (src : Nat) : State :=
  let n := s.get (lossFld lg src)
  if s.pathLvl lg = 0 ∧ n ≠ 0 then
    let at_ := if lg then s.evr.logFirst.get src else s.evr.trcFirst.get src
    (s.set (lossFld lg src) 0).pathPush lg { src := src, word := n, at_ := at_, typ := .loss, route := s.route src }
  else s

/-- The loss summaries of every source with a non-zero counter, in increasing source order (R76). -/
def State.summaries (s : State) (lg : Bool) : State := s.each (List.range 320) (State.summary1 lg)

/-- Whether a path at drop level `lvl` refuses class `cls` (R76). -/
def refusesClass (lvl cls : Nat) : Bool := decide (cls < lvl)

/-- An event offered to a path: summaries first while the level is 0, then admitted, or refused and counted (R76 to R78). -/
def State.pathOffer (s : State) (lg : Bool) (e : Ev) : State :=
  if !s.pathOn lg then s
  else
    let s1 := if s.pathLvl lg = 0 then s.summaries lg else s
    if refusesClass (s1.pathLvl lg) e.route.cls then
      let s2 := s1.countLoss lg e.src e.at_
      s2.setIf (lg && e.route.cls == 3) EVR_STAT_LOGFULL 1
    else s1.pathPush lg e

/-- A path's queue without its oldest record; below 512 the drop level returns to 0 and the summaries are enqueued (R76). -/
def State.pathPop (s : State) (lg : Bool) : State :=
  let q := (s.pathQ lg).tail
  if q.length < 512 ∧ s.pathLvl lg ≠ 0 then (s.setPath lg q 0).summaries lg else s.setPath lg q (s.pathLvl lg)

/-! ### Interrupt files (R73, R397) -/

/-- A source added to a list of pending sources in increasing order; a pending one is coalesced. -/
def pendIns (src : Nat) : List Nat → List Nat
  | [] => [src]
  | x :: r => if src < x then src :: x :: r else if src = x then x :: r else x :: pendIns src r

/-- The core that takes an interrupt sent to destination `d`: a paired pair takes it at its lead core (R84). -/
def State.irqCore (s : State) (d : Nat) : Nat :=
  if d < 8 then (if s.on (PAIR_CFG_SPLIT (d / 2)) then d else d / 2 * 2) else d

/-- Source `src` made pending at destination `d` in the Inner or the Outer file; 9 to 15 are no destination (R73, R84). -/
def State.pendIrq (s : State) (d : Nat) (inner : Bool) (src : Nat) : State :=
  if 8 < d then s
  else
    let c := s.irqCore d
    if inner then { s with irqInner := s.irqInner.upd c (pendIns src) }
    else { s with irqOuter := s.irqOuter.upd c (pendIns src) }

/-- An event released to its sinks: interrupt, log, trace and alarm latch (R72, R73, R76, R78). -/
def State.deliver (s : State) (e : Ev) : State :=
  if !e.route.en then s
  else
    let s1 := if e.route.irq then s.pendIrq e.route.dest e.route.inner e.src else s
    let s2 := if e.route.log then s1.pathOffer true e else s1
    let s3 := if e.route.trc then s2.pathOffer false e else s2
    if e.route.cls = 3 then s3.alarm e else s3

/-- An event put into the sort in increasing stamp order, equal stamps in increasing source number (R72). -/
def sortIns (e : Ev) : List Ev → List Ev
  | [] => [e]
  | x :: r =>
    if e.at_.ns < x.at_.ns ∨ (e.at_.ns = x.at_.ns ∧ (e.at_.frac < x.at_.frac ∨ (e.at_.frac = x.at_.frac ∧ e.src < x.src)))
    then e :: x :: r else x :: sortIns e r

/-- R74, R82, R85: the oldest event that has entered the router goes into the sort, or is queued as a late event. -/
def State.sortTake (s : State) : State :=
  match s.evr.entering with
  | [] => s
  | e :: rest =>
    let s1 : State := { s with evr := { s.evr with entering := rest } }
    if e.at_.ns + 500 < s.nowNs then { s1 with evr := { s1.evr with late := s1.evr.late ++ [{ e with typ := .late }] } }
    else { s1 with evr := { s1.evr with sorted := sortIns e s1.evr.sorted } }
/-- R74: every event that has entered the router is in the sort, as it is 10 ns later for each: what one command raises one after the other enters one by one
(DEDUCED, log entry 153). -/
def State.evrTake (s : State) : State := s.each s.evr.entering (fun t _ => t.sortTake)

end Sys2Proof.Machine
end

