-- ==== Sys2Proof/Machine/Check.lean ====
section
/-! DEFINITION. The address map, the region checkers and the refusals (R6, R437 to R452, R585 to R587), and the memory
accesses of the module's own initiators, which pass the same checkers. -/

namespace Sys2Proof.Machine

open Sys2Proof

/-! ### What a part carries (R2, R3) -/

/-- SRAM size in bytes (R2). -/
def sramSize : Part → Nat
  | .azc2416 => 0x80_0000 | .azc3632 => 0xE0_0000 | _ => 0x140_0000

/-- Size of one eNVM bank (R2, R438). -/
def envmBank : Part → Nat
  | .azc2416 => 0x80_0000 | .azc3632 => 0xC0_0000 | _ => 0x100_0000

/-- Whether a part has a second half (R7, R35). -/
def isTwin : Part → Bool
  | .twinA => true | .twinB => true | _ => false

/-- One count per family member: AZC-2416, AZC-3632, AZC-4896 and each half of the twin (R2, R3). -/
def perPart (p : Part) (a b c : Nat) : Nat :=
  match p with
  | .azc2416 => a | .azc3632 => b | _ => c

/-- Application pairs, Tangram engines, ADCs, comparators, PWM pairs, sigma-delta inputs, CAN, LIN and instances carried (R2, R3). -/
def nPair (p : Part) : Nat := perPart p 2 3 4
def nTg (p : Part) : Nat := perPart p 4 8 12
def nAdc (p : Part) : Nat := perPart p 4 6 8
def nCmp (p : Part) : Nat := perPart p 12 18 24
def nPwm (p : Part) : Nat := perPart p 12 18 24
def nSdf (p : Part) : Nat := perPart p 2 4 4
def nCan (p : Part) : Nat := perPart p 6 12 16
def nLin (p : Part) : Nat := perPart p 2 6 8
def nVi (p : Part) : Nat := perPart p 64 128 256

/-- Whether a part carries switch channel `n` (R3). -/
def hasPsc (p : Part) (n : Nat) : Bool :=
  match p with
  | .azc2416 => decide (n < 12) || (decide (24 ≤ n) && decide (n < 28))
  | .azc3632 => decide (n < 20) || (decide (24 ≤ n) && decide (n < 34)) || n == 36 || n == 37
  | _ => decide (n < 40)

/-- Whether a part carries external Ethernet port `p` (R3). -/
def hasPort (p : Part) (n : Nat) : Bool :=
  match p with
  | .azc2416 => [2, 3, 4, 5, 8, 9, 12, 13].contains n
  | .azc3632 => n == 0 || (decide (2 ≤ n) && decide (n < 11)) || (decide (12 ≤ n) && decide (n < 16))
  | _ => decide (n < 18)

/-- Whether a part carries power die `f` (R3). -/
def hasDie (p : Part) (f : Nat) : Bool := match p with | .azc2416 => f == 0 | _ => decide (f < 2)

/-- Whether a part carries bus `b`: buses 0 to 15 are CAN, 16 to 23 LIN (R2, R3). -/
def busCarried (p : Part) (b : Nat) : Bool := if b < 16 then decide (b < nCan p) else decide (b < 16 + nLin p)

/-- Whether a part carries what a sample of the power dies is of (R3). -/
def sampleCarried (p : Part) (m : PscSample) : Bool :=
  match m with
  | .cur n _ => hasPsc p n
  | .vout n _ => hasPsc p n
  | .avg n => hasPsc p n
  | .temp g _ => hasPsc p (4 * g)
  | .feed f _ => hasDie p f
  | .bad f => hasDie p f

/-- The lanes of the PCIe link and its virtual functions (R3). -/
def pcieLanes (p : Part) : Nat := perPart p 1 2 2
def pcieVfs (p : Part) : Nat := perPart p 63 127 255

/-! ### Checkers and their ranges (R446) -/

/-- `a` lies in the `n` bytes from `b` on. -/
def within (a b n : Nat) : Bool := decide (b ≤ a) && decide (a < b + n)

/-- The checker in front of address `a`, with the start of its range; none for an unmapped address (R446, R438). -/
def checkerOf (p : Part) (a : Nat) : Option (Nat × Nat) :=
  if within a 0 (envmBank p) then some (0, 0)
  else if within a 0x0100_0000 (envmBank p) then some (1, 0x0100_0000)
  else if within a 0x0800_0000 0x4_0000 then some (17, 0x0800_0000)
  else if within a 0x1000_0000 (sramSize p) then
    let q := sramSize p / 4
    let b := (a - 0x1000_0000) / q
    some (2 + b, 0x1000_0000 + b * q)
  else if within a 0x2000_0000 (nTg p * 0x4_0000) && decide (a % 0x4_0000 < 0x2_0000) then some (6, 0x2000_0000)
  else if within a 0x4000_0000 0x800_0000 then some (7 + (a - 0x4000_0000) / 0x100_0000, a / 0x100_0000 * 0x100_0000)
  else if within a 0x6000_0000 (nVi p * 0x1_0000) then some (15, 0x6000_0000)
  else if within a 0x80_0000_0000 0x80_0000_0000 then some (16, 0x80_0000_0000)
  else none

/-- Item number of self-test and power domain of a register page, where it belongs to one (R533, R561, R577). -/
def pageItem (a : Nat) : Option Nat × Option Nat :=
  if within a 0x4004_0000 0x4000 then (some (114 + (a - 0x4004_0000) / 0x1000), some (5 + (a - 0x4004_0000) / 0x1000))
  else if within a 0x4005_0000 0xC000 then (some (72 + (a - 0x4005_0000) / 0x1000), some (9 + (a - 0x4005_0000) / 0x4000))
  else if within a 0x2000_0000 0x30_0000 then (some (72 + (a - 0x2000_0000) / 0x4_0000), some (9 + (a - 0x2000_0000) / 0x10_0000))
  else if within a 0x4100_0000 0x8000 then (some ((a - 0x4100_0000) / 0x1000), some 14)
  else if within a 0x4100_8000 0x8000 then (some (8 + (a - 0x4100_8000) / 0x1000), some 14)
  else if within a 0x4101_0000 0x1000 then (none, some 14)
  else if within a 0x4110_0000 0x1_8000 then (some (16 + (a - 0x4110_0000) / 0x1000), some 15)
  else if within a 0x4111_8000 0x1000 then (none, some 15)
  else if within a 0x4120_0000 0x1_8000 then (some (40 + (a - 0x4120_0000) / 0x1000), some 14)
  else if within a 0x4121_8000 0x4000 then (some (64 + (a - 0x4121_8000) / 0x1000), some 14)
  else if within a 0x4130_0000 0x4000 then (some (68 + (a - 0x4130_0000) / 0x1000), some 14)
  else if within a 0x4200_0000 0x4000 then (some 85, none)
  else if within a 0x4300_0000 0x6_A000 then (some 86, none)
  else if within a 0x4310_0000 0x1_2000 then
    let p := (a - 0x4310_0000) / 0x1000
    (some (140 + p), some (if p < 2 then 16 else if p < 8 then 17 else if p < 12 then 18 else if p < 16 then 19 else 20))
  else if within a 0x4400_0000 0x10_0000 then (some (87 + (a - 0x4400_0000) / 0x1_0000), none)
  else if within a 0x4410_0000 0x8000 then (some (103 + (a - 0x4410_0000) / 0x1000), none)
  else if within a 0x4420_0000 0x1000 then (some 111, none)
  else if within a 0x4500_0000 0x10_0000 then (some 112, none)
  else if within a 0x4510_0000 0x3000 then (some 113, none)
  else if within a 0x4600_0000 0x1000 then (some 118, none)
  else if within a 0x1000_0000 0x140_0000 then (some (136 + (a - 0x1000_0000) / 0x50_0000), none)
  else (none, none)

/-- The pages that the register summary lists (R601). -/
def pageListed (a : Nat) : Bool :=
  within a 0x4000_0000 0x3000 || within a 0x4000_8000 0x1000 || within a 0x4001_0000 0xD000 || within a 0x4002_0000 0x4000 ||
  within a 0x4004_0000 0x4000 || within a 0x4005_0000 0xC000 || within a 0x4008_0000 0x1_2000 || within a 0x4100_0000 0x1_1000 ||
  within a 0x4110_0000 0x1_9000 || within a 0x4120_0000 0x1_C000 || within a 0x4130_0000 0x4000 || within a 0x4200_0000 0x4000 ||
  within a 0x4300_0000 0x6_A000 || within a 0x4310_0000 0x1_6000 || within a 0x4400_0000 0x10_0000 || within a 0x4410_0000 0x8000 ||
  within a 0x4420_0000 0x1000 || within a 0x4500_0000 0x10_0000 || within a 0x4510_0000 0x3000 || within a 0x4600_0000 0x1000 ||
  within a 0x4700_0000 0x2000 || within a 0x4710_0000 0x10_0000 || within a 0x6000_0000 0x100_0000

/-- A register page of an instance that the part does not carry (R3, R6). -/
def pageCarried (p : Part) (a : Nat) : Bool :=
  if within a 0x4004_0000 0x4000 then decide ((a - 0x4004_0000) / 0x1000 < nPair p)
  else if within a 0x4005_0000 0xC000 then decide ((a - 0x4005_0000) / 0x1000 < nTg p)
  else if within a 0x4100_0000 0x8000 then decide ((a - 0x4100_0000) / 0x1000 < nAdc p)
  else if within a 0x4110_0000 0x1_8000 then decide ((a - 0x4110_0000) / 0x1000 < nPwm p)
  else if within a 0x4120_0000 0x1_8000 then decide ((a - 0x4120_0000) / 0x1000 < nCmp p)
  else if within a 0x4130_0000 0x4000 then decide ((a - 0x4130_0000) / 0x1000 < nSdf p)
  else if within a 0x4310_0000 0x1_2000 then hasPort p ((a - 0x4310_0000) / 0x1000)
  else if within a 0x4400_0000 0x10_0000 then decide ((a - 0x4400_0000) / 0x1_0000 < nCan p)
  else if within a 0x4410_0000 0x8000 then decide ((a - 0x4410_0000) / 0x1000 < nLin p)
  else if within a 0x4710_0000 0x10_0000 then decide ((a - 0x4710_0000) / 0x1000 < nVi p)
  else true

/-- Whether the domain of bit `n` is powered and usable; domains that are not switched follow their die's supply (R533, R534). -/
def State.domainUp (s : State) (n : Nat) : Bool := bitOf (s.get PWR_DOMSTAT_UP) n

/-- Whether an address answers: in the map, its page listed and carried, its domain up, its item usable, and its die supplied
(R6, R534, R577, R586). -/
def State.mapped (s : State) (a : Nat) : Bool :=
  match checkerOf s.part a with
  | none => false
  | some (t, _) =>
    (!(decide (7 ≤ t) && decide (t ≤ 15)) || (pageListed a && pageCarried s.part a)) &&
    (match (pageItem a).1 with | none => true | some i => !s.unusable i) &&
    (match (pageItem a).2 with | none => true | some d => s.domainUp d) &&
    (s.pow.msUp || !(within a 0x4001_0000 0xD000))

/-! ### The decision (R447 to R449, R439, R441, R421) -/

/-- The world a request is checked in: the core's own for IDs 0 to 7, Inner for 8, RGN_IGRP's for the others (R448). -/
def State.worldOf (s : State) (r : Req) : Bool :=
  if r.id < 8 then r.inner
  else if r.id = 8 then true
  else bitOf (s.get ((fun k j => (⟨a_RGN_IGRP k, 4 * j + 3, 1, 0, .rw, .cfg⟩ : Fld)) (r.id / 8) (r.id % 8))) 0

/-- The initiator group of an ID (R448). -/
def State.groupOf (s : State) (id : Nat) : Nat := s.get ⟨a_RGN_IGRP (id / 8), 4 * (id % 8), 3, 0, .rw, .cfg⟩

/-- The lowest-numbered enabled region of checker `t` that covers granule `g` (R447). -/
def State.regionFor (s : State) (t g : Nat) : Option Nat :=
  (List.range 32).find? (fun r => s.on (RGN_RCTL_EN t r) && decide (s.get (RGN_RBASE_BASE t r) ≤ g) &&
    decide (g ≤ s.get (RGN_RLIM_LIMIT t r)))

/-- Whether the permission bits `x` of a group grant an access: R for a read, W for a write, X for a fetch, R and W for an atomic (R447). -/
def permits (x : Nat) : AccKind → Bool
  | .read => bitOf x 0
  | .write => bitOf x 1
  | .fetch => bitOf x 2
  | .amo => bitOf x 0 && bitOf x 1

/-- Whether the regions of checker `t` give a world and a group the kind of access at address `a` (R446, R447). -/
def State.groupGrants (s : State) (t a : Nat) (inner : Bool) (g : Nat) (k : AccKind) : Bool :=
  match s.regionFor t (a / 4096) with
  | none => false
  | some i => permits ((if inner then s.get (RGN_RPI_PERM t i) else s.get (RGN_RPO_PERM t i)) / 2 ^ (3 * g)) k

/-- Whether the regions of checker `t` grant an access to address `a` (R447). -/
def State.regionGrants (s : State) (t a : Nat) (r : Req) (k : AccKind) : Bool := s.groupGrants t a (s.worldOf r) (s.groupOf r.id) k

/-- The checkpoint area at the top of SRAM (R421). -/
def inCheckpointArea (p : Part) (a : Nat) : Bool := within a (0x1000_0000 + sramSize p - 0x4000) 0x4000

/-- The configuration and key area of an eNVM bank (R439). -/
def inKeyArea (p : Part) (a : Nat) : Bool :=
  within a (envmBank p - 0x1_0000) 0x1_0000 || within a (0x0100_0000 + envmBank p - 0x1_0000) 0x1_0000

/-- The checker's decision on a mapped address: the fixed rules first, then the regions (R421, R439, R441, R447, R449, R577). -/
def State.admits (s : State) (a : Nat) (r : Req) (k : AccKind) : Bool :=
  match checkerOf s.part a with
  | none => false
  | some (t, _) =>
    if inCheckpointArea s.part a then false
    else if t = 17 then r.id == 8 && (k == .read || k == .fetch)
    else if r.id = 8 then true
    else if t ≤ 1 then !inKeyArea s.part a && k != .write && k != .amo && s.regionGrants t a r k
    else if s.unusable (158 + t) then false
    else if within a 0x4008_0000 0x1_2000 then decide (r.id ≤ 8) && s.worldOf r
    else if within a 0x4000_8000 0x1000 then true
    else if within a 0x4000_0000 8 && k == .read then true
    else s.regionGrants t a r k

/-- The access code of RGN_VINFO.ACC (R469). -/
def accCode : AccKind → Nat
  | .read => 0 | .write => 1 | .fetch => 2 | .amo => 3

/-- A refused or unmapped request counted, latched and reported (R451, R452). `chk` is 0x1F for an unmapped target. -/
def State.refuse (s : State) (a : Nat) (r : Req) (k : AccKind) (chk base : Nat) : State :=
  let w := b2n (s.worldOf r)
  let s1 := if chk < 17 then (s.inc (RGN_TSTAT_DENIED chk)).inc RGN_VCNT_CNT else s.inc RGN_VCNT_CNT
  let s2 :=
    if s.on RGN_VINFO_VALID then s1.inc RGN_VINFO_MORE
    else ((((((s1.set RGN_VINFO_VALID 1).set RGN_VINFO_INIT r.id).set RGN_VINFO_WORLD w).set RGN_VINFO_ACC (accCode k)).set
      RGN_VINFO_CHK chk).set RGN_VINFO_GEN r.gen).set RGN_VADDR_ADDR a
  s2.raise (if chk = 0x1F then 315 else 314)
    (r.id * 2 ^ 26 + w * 2 ^ 25 + accCode k * 2 ^ 23 + chk * 2 ^ 18 + bf (a - base) 12 18)

/-- The check of a request: `some s'` with the refusal done where it is refused, `none` where it passes (R447 to R452). -/
def State.checkReq (s : State) (a : Nat) (r : Req) (k : AccKind) : Option State :=
  if !s.mapped a then some (s.refuse a r k 0x1F 0)
  else if s.admits a r k then none
  else match checkerOf s.part a with
    | some (t, b) => some (s.refuse a r k t b)
    | none => some (s.refuse a r k 0x1F 0)

/-- A request of one of the module's own initiators, with the world and group that RGN_IGRP gives it. -/
def ownReq (id : Nat) : Req := { id := id }

/-- R31: an access that meets a parity error reads and writes nothing, and raises source 316. -/
def State.parityError (s : State) (id : Nat) : State := s.raise 316 (id % 64)

/-- The part of a write that lies in the granule of its first byte, and what follows it (R447, R587). -/
def granuleCut (a n : Nat) : Nat := min n (4096 - a % 4096)

/-- Bytes written by an own initiator through the checkers: the state after, and whether the write was admitted. A write across a granule is two accesses, each
checked on its own (R447); one that meets a parity error writes nothing (R31). -/
def State.fabWrite (s : State) (id a : Nat) (bs : List Nat) (parity : Bool := false) : State × Bool :=
  if parity then (s.parityError id, false)
  else
    let k := granuleCut a bs.length
    match s.checkReq a (ownReq id) .write with
    | some s' => (s', false)
    | none =>
      let s1 := s.setBytes a (bs.take k)
      if bs.length ≤ k then (s1, true)
      else match s1.checkReq (a + k) (ownReq id) .write with
        | some s' => (s', false)
        | none => (s1.setBytes (a + k) (bs.drop k), true)

/-- The ring index after `i` in a ring of `n` records. -/
def ringNext (i n : Nat) : Nat := if i + 1 < n then i + 1 else 0

end Sys2Proof.Machine
end

