-- ==== Sys2Proof/Machine/Access.lean ====
section
/-! DEFINITION. Reading and writing registers by address: the access codes of R11, the pairs and their held low words (R588, R589),
the read latch (R592), the side effects of a read (R593), and the fields that a reset kind restores (R14 to R16). What a write or a
read of one register does beyond its fields is passed in as a hook. -/

namespace Sys2Proof.Machine

open Sys2Proof

/-- Every register of the part. -/
def allRegs : List RegDef :=
  regTableRegSys ++ regTableRegTime ++ regTableRegConv ++ regTableRegEngine ++ regTableRegEth ++ regTableRegBus ++ regTableRegGate ++
  regTableRegCore ++ regTableRegVim

/-- A number for a block, for the read latch of R592. -/
def blkCode : Blk → Nat
  | .sys => 0 | .rst => 1 | .pwr => 2 | .mbx => 3 | .gtb => 4 | .evr => 5 | .pair => 6 | .tg => 7 | .rgn => 8 | .adc => 9 | .pwm => 10
  | .cmp => 11 | .sdf => 12 | .psc => 13 | .esw => 14 | .eport => 15 | .can => 16 | .lin => 17 | .crs => 18 | .gw => 19 | .pcie => 20
  | .ste => 21 | .vim => 22 | .vi => 23 | .csr => 24

/-- The new value of one field under its access code when `v` is written to its bits (R11). -/
def accWrite (f : Fld) (old v : Nat) : Nat :=
  match f.acc with
  | .rw => v | .hu => v | .wk => v
  | .w1s => old ||| v
  | .w1c => old - (old &&& v)
  | .ro => old | .wo => old | .rc => old

/-- One field written (R596). -/
def State.fieldWrite (s : State) (f : Fld) (v : Nat) : State := s.set f (accWrite f (s.get f) (v % 2 ^ f.w))

/-- All fields of a register written with the register value `v`, in one step (R596). -/
def State.fieldsWrite (s : State) (fs : List Fld) (v : Nat) : State := s.each fs (fun t f => t.fieldWrite f (v / 2 ^ f.lo))

/-- Whether a field reads as its value; WO fields and the write-only words read 0 (R11, R588). -/
def readable (f : Fld) : Bool :=
  match f.acc with
  | .wo => false
  | .wk => false
  | _ => true

/-- The value that a read of a register returns (R590, R591). -/
def State.fieldsRead (s : State) (fs : List Fld) : Nat :=
  fs.foldl (fun a f => if readable f then a + s.get f * 2 ^ f.lo else a) 0

/-- The RC fields of a register cleared by a read (R11, R593). -/
def State.clearRc (s : State) (fs : List Fld) : State := s.each fs (fun t f => if f.acc == .rc then t.set f 0 else t)

/-- What a register does beyond its fields at a write: its address (of the low word of a pair), the value written, the state before
the write and the state with the fields written. -/
abbrev WriteHook := Nat → Nat → State → State → State

/-- A whole register written: its fields, then its action. -/
def State.regApply (hook : WriteHook) (s : State) (base : Nat) (fs : List Fld) (v : Nat) : State := hook base v s (s.fieldsWrite fs v)

/-- A 32-bit write (R588): to the low word of a pair it is held; to the high word it applies with the held low word, or with the low
word as it stands where none is held. -/
def State.write4 (hook : WriteHook) (s : State) (a v : Nat) : State :=
  match findReg a allRegs with
  | none => s
  | some (r, i, j, o) =>
    let base := a - o
    let fs := r.flds i j
    if r.size = 8 then
      if o = 0 then { s with held := s.held.put base (some (v % 2 ^ 32)) }
      else
        let low := match s.held.get base with
          | some w => w
          | none => s.fieldsRead fs % 2 ^ 32
        let s1 : State := { s with held := s.held.del base }
        s1.regApply hook base fs (low + v % 2 ^ 32 * 2 ^ 32)
    else s.regApply hook base fs (v % 2 ^ 32)

/-- A write of 4 or 8 bytes (R588, R589): a pair at once, two registers as two 32-bit writes, the lower address first. -/
def State.regWrite (hook : WriteHook) (s : State) (a size v : Nat) : State :=
  if size = 8 then
    match findReg a allRegs with
    | some (r, i, j, _) =>
      if r.size = 8 then
        let s1 : State := { s with held := s.held.del a }
        s1.regApply hook a (r.flds i j) (v % 2 ^ 64)
      else (s.write4 hook a (v % 2 ^ 32)).write4 hook (a + 4) (v / 2 ^ 32)
    | none => s.write4 hook (a + 4) (v / 2 ^ 32)
  else s.write4 hook a v

/-- What a register does beyond its fields at a read: before the value is taken (registers that show a running count), and after. -/
structure ReadHook where
  before : Nat → State → State
  after : Nat → State → State

/-- A read without hooks. -/
def noRead : ReadHook := ⟨fun _ s => s, fun _ s => s⟩

/-- A 32-bit read by initiator `id` (R590, R592, R593): the data and the state after its side effects. A read through the debug port
clears nothing (R12). -/
def State.read4 (hook : ReadHook) (s0 : State) (id : Nat) (debug : Bool) (a : Nat) : Nat × State :=
  match findReg a allRegs with
  | none => (0, s0)
  | some (r, i, j, o) =>
    let base := a - o
    let s := hook.before base s0
    let fs := r.flds i j
    let w := s.fieldsRead fs
    let lat := s.latch.get id
    let hi := match lat with
      | some l => if l.addr = base + 4 then l.high else w / 2 ^ 32
      | none => w / 2 ^ 32
    let lat' := if r.size = 8 && o == 0 then some { block := blkCode r.blk, addr := base + 4, high := w / 2 ^ 32 }
      else match lat with
        | some l => if l.block = blkCode r.blk then none else some l
        | none => none
    let s1 : State := { s with latch := s.latch.put id lat' }
    let part := fs.filter (fun f => if o = 0 then f.lo < 32 else 32 ≤ f.lo)
    let s2 := if debug then s1 else hook.after base (s1.clearRc part)
    (if o = 0 then w % 2 ^ 32 else hi, s2)

/-- A read of 4 or 8 bytes (R589 to R593). -/
def State.regRead (hook : ReadHook) (s : State) (id : Nat) (debug : Bool) (a size : Nat) : Nat × State :=
  if size = 8 then
    match findReg a allRegs with
    | some (r, i, j, _) =>
      if r.size = 8 then
        let s1 := hook.before a s
        let fs := r.flds i j
        let lat' := match s1.latch.get id with
          | some l => if l.block = blkCode r.blk then none else some l
          | none => none
        let s2 : State := { s1 with latch := s1.latch.put id lat' }
        (s1.fieldsRead fs, if debug then s2 else hook.after a (s2.clearRc fs))
      else
        let x := s.read4 hook id debug a
        let y := x.2.read4 hook id debug (a + 4)
        (x.1 + y.1 * 2 ^ 32, y.2)
    | none =>
      let y := s.read4 hook id debug (a + 4)
      (y.1 * 2 ^ 32, y.2)
  else s.read4 hook id debug a

/-! ### What a reset kind restores (R14 to R16) -/

/-- The register file without the entries that `p` selects: those fields are back at their reset values. -/
def State.restore (s : State) (p : Nat → Bool) : State := { s with regs := ⟨s.regs.cells.filter (fun c => !p c.1)⟩ }

/-- The held low words of the pairs at the addresses that `p` selects are cleared (R588). -/
def State.unhold (s : State) (p : Nat → Bool) : State := { s with held := ⟨s.held.cells.filter (fun c => !p c.1)⟩ }

/-- A block reset of the registers in the `n` bytes from `b` on: the fields marked B and I (R15). -/
def State.restoreBlock (s : State) (b n : Nat) : State :=
  (s.restore (fun k => within (keyAddr k) b n && (keyKind k == 2 || keyKind k == 3))).unhold (fun a => within a b n)

/-- A warm reset of all registers: the fields marked W, B and I (R15). -/
def State.restoreWarm (s : State) : State :=
  (s.restore (fun k => keyKind k == 1 || keyKind k == 2 || keyKind k == 3)).unhold (fun _ => true)

/-- A cold reset of all registers: the fields marked C, W, B and I (R15). A cfg or cal field keeps its value until the bring-up that follows writes it from the settings
record or from the calibration (DESIGN CHOICE, log entry 122). -/
def State.restoreCold (s : State) : State := (s.restore (fun k => decide (keyKind k ≤ 3))).unhold (fun _ => true)

end Sys2Proof.Machine
end

