-- ==== Sys2Proof/Machine/TgMem.lean ====
section
/-! DEFINITION. The local memory of the Tangram engines, the input stage, and the forwarding of deliveries (R134, R135, R169, R170, R179). -/

namespace Sys2Proof.Machine

open Sys2Proof

/-- Base addresses of an engine's IMEM and DMEM (R134). -/
def tgImem (e : Nat) : Nat := 0x2000_0000 + e * 0x4_0000
def tgDmem (e : Nat) : Nat := 0x2001_0000 + e * 0x4_0000

/-- The even engine of the pair that `e` belongs to, or `e` itself (R170). -/
def State.tgLead (s : State) (e : Nat) : Nat := if e % 2 = 1 && s.on (TG_PCTL_PAIR (e - 1)) then e - 1 else e

/-- Whether engine `e` is the even engine of a pair. -/
def State.tgPaired (s : State) (e : Nat) : Bool := e % 2 == 0 && s.on (TG_PCTL_PAIR e)

/-- The engines of the context of `e`: the engine alone, or both copies of its pair. -/
def State.tgCopies (s : State) (e : Nat) : List Nat := if s.tgPaired e then [e, e + 1] else [e]

/-- An engine changed; in a pair both copies change alike, each keeping its own input stage (R171). -/
def State.tgSet (s : State) (e : Nat) (g : TgEng → TgEng) : State :=
  let x := g (s.tg.get e)
  let s1 : State := { s with tg := s.tg.put e x }
  if s.tgPaired e then { s1 with tg := s1.tg.put (e + 1) { x with inq := (s.tg.get (e + 1)).inq } } else s1

/-- R169, R182: a fault event of an engine's context: cause, slot, code and a 16-bit value. -/
def State.tgFault (s : State) (e cause code val : Nat) : State :=
  let l := s.tgLead e
  s.raise (48 + 2 * l) (cause * 2 ^ 24 + (s.tg.get l).dslot * 2 ^ 20 + code * 2 ^ 16 + val % 65536)

/-- R135, R169: one word or half for DMEM: applied while no iteration runs, held in the input stage of up to 256 otherwise; with the
stage full it is dropped, counted in INDROP and reported with cause 4. -/
def State.dmemIn (s : State) (e off size v : Nat) : State :=
  if s.on (TG_STAT_BUSY (s.tgLead e)) then
    let x := s.tg.get e
    if 256 ≤ x.inq.length then (s.inc (TG_STAT_INDROP e)).tgFault e 4 0 0
    else { s with tg := s.tg.put e { x with inq := x.inq ++ [(off % 0x1_0000, size, v)] } }
  else s.store (tgDmem e + off % 0x1_0000) size v

/-- R169: the input stage of engine `e` written into its DMEM in arrival order. -/
def State.dmemFlush (s : State) (e : Nat) : State :=
  let x := s.tg.get e
  let s1 : State := { s with tg := s.tg.put e { x with inq := [] } }
  s1.each x.inq (fun t w => t.store (tgDmem e + w.1) w.2.1 w.2.2)

/-- R98, R103, R179: a word delivered over the control lane to engine `e`; while the context forwards, to the engine of DEST in its place. -/
def State.tgDeliver (s : State) (e off v : Nat) : State :=
  let l := s.tgLead e
  s.dmemIn (if s.on (TG_MOVE_FWD l) then s.get (TG_MOVE_DEST l) + (e - l) else e) off 4 v

/-- R135, R169, R170: a fabric write to DMEM, word by word; the even engine of a pair takes it for both copies. -/
def State.tgFabricDmem (s : State) (e off size v : Nat) : State :=
  s.each (s.tgCopies e) (fun t k => t.each (List.range ((size + 3) / 4)) (fun u i =>
    u.dmemIn k (off + 4 * i) (min 4 (size - 4 * i)) (v / 2 ^ (32 * i) % 2 ^ 32)))

/-- A control-lane delivery to engine `e` as initiator 28: the state after and whether the destination took it (R31, R98, R100). -/
def State.laneDeliver (s : State) (e off v : Nat) (parity : Bool := false) : State × Bool :=
  if parity then (s.parityError 28, false)
  else match s.checkReq (tgDmem e + off) (ownReq 28) .write with
  | some s1 => (s1, false)
  | none => (s.tgDeliver e off v, true)

end Sys2Proof.Machine
end

