-- ==== Sys2Proof/Machine/Adc.lean ====
section
/-! DEFINITION. SAR converters, groups and their delivery (R86 to R100). -/

namespace Sys2Proof.Machine

open Sys2Proof

/-! ### Sequences (R91 to R95) -/

/-- The lowest-numbered enabled group whose mask names converter `n` (R96). -/
def State.adcOwner (s : State) (n : Nat) : Option Nat :=
  (List.range 8).find? (fun g => s.on (ADC_GRP_EN g) && bitOf (s.get (ADC_GRP_MASK g)) n)

/-- The ADC_SEQ words of the sequence of a converter: AVG from bit 10 on, LIMEN, FMT, INT in bit 3, INSEL. -/
def State.adcSlots (s : State) (n : Nat) : List Nat :=
  (List.range (s.get (ADC_CTL_LEN n) + 1)).map (fun k =>
    s.get (ADC_SEQ_AVG n k) * 1024 + s.get (ADC_SEQ_LIMEN n k) * 512 + s.get (ADC_SEQ_FMT n k) * 256 + s.get (ADC_SEQ_INT n k) * 8 +
      s.get (ADC_SEQ_INSEL n k))

/-- A sequence begins: its count advances, BUSY reads 1 (R91). LEN and the slots' ADC_SEQ are taken here, for the whole sequence (DESIGN CHOICE, log entry 123). -/
def State.adcBegin (s : State) (n : Nat) (set : Option (Nat × Nat)) : State :=
  let c := s.conv.adc.get n
  let c1 : AdcConv := { running := true, slot := 0, slots := s.adcSlots n, count := (c.count + 1) % 256, set := set }
  ({ s with conv := { s.conv with adc := s.conv.adc.put n c1 } } : State).set (ADC_STAT_BUSY n) 1

/-- R94: a start that arrives while the sequence runs: discarded, counted and reported. -/
def State.adcOverrun (s : State) (n : Nat) : State := (s.inc (ADC_STAT_OVR n)).raiseC (88 + n) 1 0

/-- A start of a converter that is no group's. -/
def State.adcStart (s : State) (n : Nat) : State :=
  if s.idling n then s else if (s.conv.adc.get n).running then s.adcOverrun n else s.adcBegin n none

/-- R55, R91, R96: a firing of its trigger line reaches converter `n`: in no enabled group, enabled and not running freely, it starts. -/
def execAdcSequenceStart (n : Fin 8) (s : State) : Host.Outcome State Fault Refusal :=
  match s.arrive (· == .adc n) with
  | none => done s
  | some (_, t) => if t.on (ADC_CTL_EN n) && (t.adcOwner n).isNone && !t.on (ADC_CTL_FREERUN n) then done (t.adcStart n) else done t

/-- R94, R96: a write of 1 to START; ignored in an enabled group, while free-running and while disabled. -/
def State.adcStartWrite (s : State) (n : Nat) : State :=
  if s.on (ADC_CTL_EN n) && (s.adcOwner n).isNone && !s.on (ADC_CTL_FREERUN n) then s.adcStart n else s

def execAdcStart (n : Fin 8) (s : State) : Host.Outcome State Fault Refusal := done (s.adcStartWrite n)

/-- R94: EN and FREERUN as written: free-running begins at the write that makes both 1, or at the end of a running sequence. -/
def State.adcFreerun (s : State) (n : Nat) : State :=
  if s.on (ADC_CTL_EN n) && s.on (ADC_CTL_FREERUN n) && !(s.conv.adc.get n).running then s.adcBegin n none else s

def execAdcFreerunWrite (n : Fin 8) (en freerun : Bool) (s : State) : Host.Outcome State Fault Refusal :=
  if !decide (n.val < nAdc s.part) then done s else
  done (((s.set (ADC_CTL_EN n) (b2n en)).set (ADC_CTL_FREERUN n) (b2n freerun)).adcFreerun n)

/-- R86, R109: the sum of the 2^m raw codes of a slot whose ADC_SEQ word is `w`. Internal inputs 0 to 3 lie at the DAC's value while EN and LOOP are set and else at 0 V, 7 at 0 V;
`sum` is what the converter makes of a ball or of the sensors on 4 to 6, `err` its deviation from an internal level. -/
def State.adcSum (s : State) (w sum : Nat) (err : Int) : Nat :=
  let m := bf w 10 2
  let top : Int := 2 ^ m * 65535
  let d := w % 8
  let level : Nat := if 4 ≤ d then 0 else if s.on (DAC_CTL_EN d) && s.on (DAC_CTL_LOOP d) then 16 * s.get (DAC_VAL_VALUE d) else 0
  if bitOf w 3 && (decide (d < 4) || d == 7) then (clampI 0 top ((2 ^ m * level : Nat) + err)).toNat else (clampI 0 top sum).toNat

/-- R93: the corrected code of a slot: (mean + OFFSET) × GAIN / 32,768, halves rounded up, saturated; `sum` is the sum of the 2^m raw codes. -/
def State.adcCode (s : State) (n m sum : Nat) : Nat :=
  let d : Int := 2 ^ m * 32768
  let x : Int := ((sum : Int) + s.getS (ADC_CAL_OFFSET n) * 2 ^ m) * s.get (ADC_CAL_GAIN n)
  (clampI 0 65535 ((2 * x + d) / (2 * d))).toNat

/-- R95: whether a stored result lies outside the slot's limits, unsigned or signed. -/
def State.adcOutside (s : State) (n k : Nat) (fmt : Bool) (v : Nat) : Bool :=
  let hi := s.get (ADC_LIM_HI n k)
  let lo := s.get (ADC_LIM_LO n k)
  if fmt then decide (toS 16 hi < toS 16 v) || decide (toS 16 v < toS 16 lo) else decide (hi < v) || decide (v < lo)

/-- One set of a group changed. -/
def State.setUpd (s : State) (g id : Nat) (f : AdcSet → AdcSet) : State :=
  { s with conv := { s.conv with sets := s.conv.sets.upd g (fun l => l.map (fun x => if x.id = id then f x else x)) } }

/-- The number of words before converter `n` in a set (R98). -/
def setOffset : List (Nat × Nat) → Nat → Nat
  | [], _ => 0
  | (c, k) :: r, n => if c = n then 0 else k + setOffset r n

/-- A finished slot's word enters its set, to be delivered where the lane is enabled (R97, R98). -/
def State.setWord (s : State) (g id n k w : Nat) : State :=
  s.setUpd g id (fun x =>
    let i := setOffset x.convs n + k
    { x with words := x.words.put i w, left := x.left - 1, todo := if x.lane then x.todo ++ [i] else x.todo })

/-- R86, R91, R93, R95, R97: the slot in conversion completes: its result is corrected, formatted and stored, compared with its limits, and
enters its set; at the last slot the sequence ends, an ungrouped converter raises 80 + n, and a free-running one begins again. -/
def execAdcSlotComplete (n : Fin 8) (sum : Nat) (err : Int) (s : State) : Host.Outcome State Fault Refusal :=
  let c := s.conv.adc.get n
  match c.running, c.slots[c.slot]? with
  | true, some w =>
    let k := c.slot
    let code := s.adcCode n (bf w 10 2) (s.adcSum w sum err)
    let v := if bitOf w 8 then (code + 0x8000) % 65536 else code
    let s1 := ((s.set (ADC_RES_NEW n k) 1).set (ADC_RES_SEQNO n k) c.count).set (ADC_RES_VALUE n k) v
    let s2 :=
      if bitOf w 9 && s1.adcOutside n k (bitOf w 8) v then
        let t := s1.setBit (ADC_STAT_LIMHIT n) k true
        t.raiseC (88 + n) 2 (t.get (ADC_STAT_LIMHIT n))
      else s1
    let s3 := match c.set with
      | some (g, id) => s2.setWord g id n k (2 ^ 31 + c.count * 2 ^ 16 + v)
      | none => s2
    if k + 1 < c.slots.length then done { s3 with conv := { s3.conv with adc := s3.conv.adc.put n { c with slot := k + 1 } } }
    else
      let s4 := ({ s3 with conv := { s3.conv with adc := s3.conv.adc.put n { c with running := false, set := none } } } : State).set
        (ADC_STAT_BUSY n) 0
      let s5 := if c.set.isNone && (s4.adcOwner n).isNone then s4.raiseC (80 + n) c.count 0 else s4
      done (s5.adcFreerun n)
  | _, _ => done s

/-! ### Groups (R96 to R100) -/

/-- CONFLICT reads 1 while a converter of MASK belongs to a lower group (R96, R129) or is unusable (R577). -/
def State.grpConflict (s : State) (g : Nat) : State :=
  s.set (ADC_GRPSTAT_CONFLICT g) (b2n ((bitsOf (s.get (ADC_GRP_MASK g)) 8).any (fun n => s.unusable n ||
    (match s.adcOwner n with
    | some o => decide (o < g)
    | none => false)) && s.on (ADC_GRP_EN g)))

/-- The converters that group `g` starts now (R96). -/
def State.grpStarts (s : State) (g : Nat) : List Nat :=
  (bitsOf (s.get (ADC_GRP_MASK g)) 8).filter (fun n => s.adcOwner n == some g && s.on (ADC_CTL_EN n) && !s.on (ADC_CTL_FREERUN n) &&
    !s.idling n && !s.unusable n)

/-- R96 to R98: a start of an enabled group: its eligible converters begin at one instant, running ones count an overrun, and the set
takes ADC_GRPDST and ADC_GRPBUF as they stand. -/
def State.grpStart (s0 : State) (g : Nat) : State :=
  let s := s0.grpConflict g
  if !s.on (ADC_GRP_EN g) || s.idling (8 + g) then s
  else
    let el := s.grpStarts g
    let go := el.filter (fun n => !(s.conv.adc.get n).running)
    let s1 := s.each (el.filter (fun n => (s.conv.adc.get n).running)) State.adcOverrun
    if go.isEmpty then s1
    else
      let id := s1.conv.setNo
      let convs := go.map (fun n => (n, s.get (ADC_CTL_LEN n) + 1))
      let x : AdcSet :=
        { id := id, convs := convs, left := (convs.map Prod.snd).sum, lane := s.on (ADC_GRPDST_EN g), pair := s.on (ADC_GRPDST_PAIR g),
          sram := s.on (ADC_GRPDST_SRAM g), eng := s.get (ADC_GRPDST_ENG g), addr := s.get (ADC_GRPDST_ADDR g) / 4 * 4,
          base := s.get (ADC_GRPBUF_BASE g) * 4096, size := s.get (ADC_GRPBUF_SIZE g) }
      let s2 : State := { s1 with conv := { s1.conv with setNo := id + 1, sets := s1.conv.sets.upd g (fun l => l ++ [x]) } }
      s2.each go (fun t n => t.adcBegin n (some (g, id)))

/-- R55, R96: a firing of its trigger line reaches the group. -/
def execAdcGroupStart (g : Fin 8) (s : State) : Host.Outcome State Fault Refusal :=
  match s.arrive (· == .group g) with
  | none => done s
  | some (_, t) => done (t.grpStart g)

/-- R96: a write of 1 to ADC_GRP.START; ignored while EN = 0. -/
def execAdcGroupStartWrite (g : Fin 8) (s : State) : Host.Outcome State Fault Refusal :=
  if s.on (ADC_GRP_EN g) then done (s.grpStart g) else done s

/-- R100: a refused word: DSTERR, and at the set's first one source 88 + m with cause 3, m the lowest converter started. -/
def State.setRefused (s : State) (g : Nat) (x : AdcSet) : State :=
  let s1 := s.set (ADC_GRPSTAT_DSTERR g) 1
  if x.refused then s1
  else (s1.setUpd g x.id (fun y => { y with refused := true })).raiseC (88 + ((x.convs.map Prod.fst).headD 0)) 3 0

/-- The set of a group with a given number, as it stands. -/
def State.setNow (s : State) (g : Nat) (x : AdcSet) : AdcSet := ((s.conv.sets.get g).find? (fun y => y.id == x.id)).getD x

/-- R98, R100: the next word of the group's oldest set with words to deliver goes to the data memory of ENG, and of ENG + 1 with PAIR; `parity` says which of the two writes meets
a parity error. -/
def execAdcWordDeliver (g : Fin 8) (parity : Bool × Bool) (s : State) : Host.Outcome State Fault Refusal :=
  match (s.conv.sets.get g).find? (fun x => !x.todo.isEmpty) with
  | none => done s
  | some x =>
    let i := x.todo.headD 0
    let s1 := s.setUpd g x.id (fun y => { y with todo := y.todo.tail })
    if decide (11 < x.eng) || (x.pair && x.eng % 2 == 1) then done (s1.setRefused g x)
    else
      done (s1.each (if x.pair then [x.eng, x.eng + 1] else [x.eng]) (fun t e =>
        let r := t.laneDeliver e ((x.addr + 4 * i) % 0x1_0000) (x.words.get i) (if e = x.eng then parity.1 else parity.2)
        if r.2 then r.1 else r.1.setRefused g (r.1.setNow g x)))

/-- R99, R100: the oldest finished set for the SRAM ring is written as a 512-byte record of words, zero-filled, as initiator 28; `parity` lists the words that meet
a parity error. -/
def execAdcRingWrite (g : Fin 8) (parity : List Nat) (s : State) : Host.Outcome State Fault Refusal :=
  match (s.conv.sets.get g).find? (fun x => x.sram && decide (x.left = 0) && !x.ringDone) with
  | none => done s
  | some x =>
    let n := 2 ^ (x.size + 12) / 512
    let wr := s.get (ADC_GRPSTAT_WR g) % n
    let s1 := s.each (List.range 128) (fun t i =>
      let r := t.fabWrite 28 (x.base + wr * 512 + 4 * i) (toBytes 4 (x.words.get i)) (parity.contains i)
      if r.2 then r.1 else r.1.setRefused g (r.1.setNow g x))
    let s2 := s1.setUpd g x.id (fun y => { y with ringDone := true })
    done (s2.set (ADC_GRPSTAT_WR g) (ringNext wr n))

/-- R97: the group's oldest set whose every word is written to every enabled destination is complete: SEQNO advances and source 72 + g
is raised. -/
def execAdcSetComplete (g : Fin 8) (s : State) : Host.Outcome State Fault Refusal :=
  match (s.conv.sets.get g).find? (fun x => decide (x.left = 0) && x.todo.isEmpty && (!x.sram || x.ringDone)) with
  | none => done s
  | some x =>
    let s1 : State := { s with conv := { s.conv with sets := s.conv.sets.upd g (fun l => l.filter (fun y => y.id != x.id)) } }
    let s2 := s1.addWrap (ADC_GRPSTAT_SEQNO g) 1
    done (s2.raiseC (72 + g) (s2.get (ADC_GRPSTAT_SEQNO g)) 0)

end Sys2Proof.Machine
end

