-- ==== Sys2Proof/Machine/Wake.lean ====
section
/-! DEFINITION. What several blocks tell the interface die: a waking bus that confirms (R326), and ZONE_OK (R333, R334). -/

namespace Sys2Proof.Machine

open Sys2Proof

/-- R326: bus `b` shows its confirmation; it counts for a waking bus inside the wake window, once. -/
def State.wakeConfirm (s : State) (b : Nat) : State :=
  if s.crs.window && bitOf (s.get CRS_WAKEBUS_BUSES) b && !bitOf s.crs.confirmed b then
    let s1 : State := { s with crs := { s.crs with confirmed := putBit s.crs.confirmed b true } }
    ((s1.set CRS_WAKE_CONF 1).set (CRS_FW_RUN b) 0).raiseC 264 1 b
  else s

/-- R333: ZONE_OK goes low with a cause. -/
def State.zoneLow (s : State) (cause : Nat) : State :=
  if s.on CRS_ZOK_LEVEL then (((s.set CRS_ZOK_LEVEL 0).set CRS_ZOK_CAUSE cause).raiseC 269 1 cause).emit (.ball "ZONE_OK" 0 0) else s

/-- R334: ZONE_OK rises. -/
def State.zoneHigh (s : State) : State :=
  if s.on CRS_ZOK_LEVEL then s else ((s.set CRS_ZOK_LEVEL 1).raiseC 269 2 0).emit (.ball "ZONE_OK" 0 1)

end Sys2Proof.Machine
end

