-- ==== Sys2Proof/Machine/Can.lean ====
section
/-! DEFINITION. The CAN controllers with their message memory and transceivers (R277 to R302, R308 to R310). A frame is what stands on the bus between
its start and its end; bit timing inside it is not modelled. -/

namespace Sys2Proof.Machine

open Sys2Proof

/-! ### Controllers, objects and their payload (R280, R282) -/

/-- The base address of controller `c` (R308). -/
def canBase (c : Nat) : Nat := 0x4400_0000 + c * 0x1_0000

/-- The state of controller `c` beside its registers. -/
def State.canSt (s : State) (c : Nat) : CanSt := s.can.get c

/-- The state of controller `c` changed. -/
def State.canUpd (s : State) (c : Nat) (g : CanSt → CanSt) : State := { s with can := s.can.upd c g }

/-- The stamp counter at a time of the reference clock: 25 ns since the last cold reset, wrapping (R295). -/
def stampAt (ref : Nat) : Nat := ref / 25 % 2 ^ 32

/-- The stamp counter now (R295). -/
def State.canStamp (s : State) : Nat := stampAt s.pow.refNs

/-- Whether the transceivers are supplied; without VBAT they are unpowered (R297). -/
def State.trxPower (s : State) : Bool := s.pow.vbat

/-- Whether a CAN transceiver drives its bus from the controller's TXD: in the normal state, neither released after a TXD dominant timeout nor too hot (R294, R297,
R300). -/
def State.canDrives (s : State) (c : Nat) : Bool := s.trxPower && s.get (CAN_TRXSTAT_STATE c) == 0 && !(s.canSt c).released && !(s.canSt c).hot

/-- Whether a controller receives from its bus: its receiver is on, and its RXD is not joined to its own TXD (R293, R297). -/
def State.canHears (s : State) (c : Nat) : Bool := s.trxPower && s.get (CAN_TRXSTAT_STATE c) != 2 && !s.on (CAN_CTL_LOOP c)

/-- The capacity of object `o` in bytes (R282). -/
def State.canCap (s : State) (c o : Nat) : Nat := (s.get (CAN_OBJCFG_PSIZE c o) + 1) * 64

/-- The start of the payload of object `o` inside the controller's pages (R282). -/
def State.canPay (s : State) (c o : Nat) : Nat := 0x2000 + s.get (CAN_OBJCFG_PBASE c o) * 64

/-- R282: whether object `o` may be enabled: its payload ends within the area and overlaps no other enabled object's. -/
def State.canFits (s : State) (c o : Nat) : Bool :=
  let b := s.canPay c o
  let n := s.canCap c o
  decide (b + n ≤ 0x1_0000) && (List.range 128).all (fun k => k == o || !s.on (CAN_OBJCFG_EN c k) ||
    decide (b + n ≤ s.canPay c k) || decide (s.canPay c k + s.canCap c k ≤ b))

/-- The object that an offset inside the controller's pages belongs to: its header, or the payload of an enabled object (R283). -/
def State.canObjAt (s : State) (c off : Nat) : Option Nat :=
  if within off 0x1000 0x1000 then some ((off - 0x1000) / 0x20)
  else if 0x2000 ≤ off then (List.range 128).find? (fun o => s.on (CAN_OBJCFG_EN c o) && within off (s.canPay c o) (s.canCap c o))
  else none

/-- R283: whether an initiator, or an instance through its page, may access object `o`; the modes are those of R191. -/
def State.canOwns (s : State) (c o : Nat) (r : Req) (vi : Option Nat) : Bool :=
  match s.get (CAN_OBJOWN_MODE c o) with
  | 0 => true
  | 1 => vi.isNone && r.id == s.get (CAN_OBJOWN_OWNID c o)
  | 2 => vi == some (s.get (CAN_OBJOWN_VI c o))
  | _ => false

/-- R289: whether a write to an offset is turned away because the object's request stands. -/
def State.canLocked (s : State) (c off : Nat) : Bool :=
  match s.canObjAt c off with
  | some o => s.on (CAN_OBJCTL_TXREQ c o) && (decide (0x2000 ≤ off) || decide (off % 0x20 < 8) || within (off % 0x20) 0xC 8)
  | none => false

/-- FULL of object `o` set, with its bit of CAN_RXFULL (R309). -/
def State.canFull (s : State) (c o : Nat) (b : Bool) : State :=
  (s.set (CAN_OBJSTAT_FULL c o) (b2n b)).setBit (CAN_RXFULL_OBJ c (o / 32)) (o % 32) b

/-- TXREQ of object `o` set, with its bit of CAN_TXPEND (R309). -/
def State.canReq (s : State) (c o : Nat) (b : Bool) : State :=
  (s.set (CAN_OBJCTL_TXREQ c o) (b2n b)).setBit (CAN_TXPEND_OBJ c (o / 32)) (o % 32) b

/-- R301: half A mirrors TXREQ, DONE and FAIL of an object. -/
def State.canMirror (s : State) (c o : Nat) : State :=
  if s.part = .twinA then
    s.emit (.link "MIRROR_CAN" [c, o, s.get (CAN_OBJCTL_TXREQ c o), s.get (CAN_OBJSTAT_DONE c o), s.get (CAN_OBJSTAT_FAIL c o)])
  else s

/-! ### Start and error states (R279, R291, R292) -/

/-- Quanta of a bit of the three bit timing registers, and its length in cycles of 160 MHz (R280). -/
def bitQuanta (t1 t2 : Nat) : Nat := t1 + t2 + 3

/-- R279: whether the configuration passes the checks of a start. -/
def State.canGood (s : State) (c : Nat) : Bool :=
  let nq := bitQuanta (s.get (CAN_NBT_TSEG1 c)) (s.get (CAN_NBT_TSEG2 c))
  let nl := (s.get (CAN_NBT_BRP c) + 1) * nq
  let dq := bitQuanta (s.get (CAN_DBT_TSEG1 c)) (s.get (CAN_DBT_TSEG2 c))
  let dl := (s.get (CAN_DBT_BRP c) + 1) * dq
  let xq := bitQuanta (s.get (CAN_XBT_TSEG1 c)) (s.get (CAN_XBT_TSEG2 c))
  let xl := (s.get (CAN_XBT_BRP c) + 1) * xq
  let fast := s.on (CAN_CTL_XLFAST c)
  decide (8 ≤ nq) && decide (160 ≤ nl) && decide (nl ≤ 16000)
    && (!s.on (CAN_CTL_FDEN c) || (decide (5 ≤ dq) && decide (20 ≤ dl)))
    && (!s.on (CAN_CTL_XLEN c) || (decide (5 ≤ xq) && decide ((if fast then 8 else 16) ≤ xl)))
    && decide (s.get (CAN_TDC_TDCO c) + s.get (CAN_TDC_TDCV c) ≤ 255)

/-- The state code of a controller in traffic, by its counters and listen-only (R291, R309). -/
def State.canLive (s : State) (c : Nat) : Nat :=
  if (s.canSt c).lom then 6
  else if 128 ≤ s.get (CAN_ERR_REC c) ∨ 128 ≤ s.get (CAN_ERR_TEC c) then 3 else 2

/-- R279: a write of 1 to CAN_CTL.EN of a controller that is off. On the standby half B it runs with LOM = 1 (R301). -/
def State.canStart (s : State) (c : Nat) : State :=
  if s.canGood c then
    let s0 := s.setIf (s.part == .twinB && s.get SYS_TWIN_ROLE == 2) (CAN_CTL_LOM c) 1
    let s1 := s0.canUpd c (fun x => { x with lom := s0.on (CAN_CTL_LOM c), tx := none })
    (((s1.set (CAN_CTL_EN c) 1).set (CAN_STAT_STATE c) 1).set (CAN_ERR_REC c) 0).set (CAN_ERR_TEC c) 0
  else (s.set (CAN_CTL_EN c) 0).set (CAN_STAT_CFGERR c) 1

/-- The controller is off: nothing in transmission, TXD recessive. -/
def State.canOff (s : State) (c : Nat) : State :=
  let s1 := s.canUpd c (fun x => { x with tx := none, taken := [] })
  ((((s1.set (CAN_CTL_EN c) 0).set (CAN_STAT_STATE c) 0).set (CAN_STAT_TXV c) 0).set (CAN_STAT_TXACT c) 0).set (CAN_STAT_RXACT c) 0

/-- Whether a controller takes part in traffic: error active, error passive or listen-only. -/
def State.canIn (s : State) (c : Nat) : Bool := [2, 3, 6].contains (s.get (CAN_STAT_STATE c))

/-- R291: the state after a change of the error counters, with its event. -/
def State.canErrState (s : State) (c : Nat) : State :=
  let st := s.get (CAN_STAT_STATE c)
  let tec := s.get (CAN_ERR_TEC c)
  let live := s.canLive c
  if st = 2 ∧ live = 3 then (s.set (CAN_STAT_STATE c) 3).raiseC (192 + 2 * c) 1 tec
  else if st = 3 ∧ live = 2 then (s.set (CAN_STAT_STATE c) 2).raiseC (192 + 2 * c) 3 tec
  else s

/-- The transmission of a controller is over. -/
def State.canTxEnd (s : State) (c : Nat) : State :=
  ((s.canUpd c (fun x => { x with tx := none })).set (CAN_STAT_TXV c) 0).set (CAN_STAT_TXACT c) 0

/-- R290: a request that ends without success. -/
def State.canFail (s : State) (c o : Nat) : State :=
  (((s.canReq c o false).set (CAN_OBJSTAT_FAIL c o) 1).canMirror c o).raiseC (193 + 2 * c) 4 o

/-! ### Receiving (R284 to R286) -/

/-- Whether receive object `o` accepts a frame (R284). -/
def State.canAccepts (s : State) (c o : Nat) (f : CanFrame) : Bool :=
  let fm := s.get (CAN_OBJCFG_FMT c o)
  let id := if f.fmt = 2 then f.id / 2 ^ 18 * 2 ^ 18 else f.id
  s.on (CAN_OBJCFG_EN c o) && !s.on (CAN_OBJCFG_DIR c o) && (fm == 3 || fm == f.fmt)
    && (f.fmt != 0 || s.on (CAN_OBJCFG_RTR c o) == f.rtr)
    && ((id ^^^ s.get (CAN_OBJID_ID c o)) &&& s.get (CAN_OBJMASK_MASK c o)) == 0
    && (!s.on (CAN_OBJMASK_IDEM c o) || s.on (CAN_OBJID_IDE c o) == f.ide)
    && decide (f.data.length ≤ s.canCap c o)

/-- R284: a valid frame offered to the receive objects. -/
def State.canOffer (s : State) (c : Nat) (f : CanFrame) : State :=
  let acc := (List.range 128).filter (fun o => s.canAccepts c o f)
  let busy (o : Nat) : Bool := s.on (CAN_OBJSTAT_FULL c o) || (s.canSt c).taken.any (fun x => x.1 == o)
  match acc with
  | [] => s.inc (CAN_ERRCNT_NOMATCH c)
  | first :: _ =>
    match acc.find? (fun o => !busy o || s.on (CAN_OBJCFG_OVW c o)) with
    | some o => s.canUpd c (fun x => { x with taken := x.taken ++ [(o, f)] })
    | none => ((s.set (CAN_OBJSTAT_LOST c first) 1).inc (CAN_OBJCTL_LOSTCNT c first)).raiseC (193 + 2 * c) 3 first

/-- R285: a taken frame written into its object. -/
def State.canStore (s : State) (c o : Nat) (f : CanFrame) : State :=
  let s1 := s.setBytes (canBase c + s.canPay c o) (f.data.map (· % 256))
  let s2 := ((s1.set (CAN_OBJSTAT_LEN c o) f.data.length).set (CAN_OBJSTAT_FT c o) f.fmt).set (CAN_OBJSTAT_BRSR c o) (b2n f.brs)
  let s3 := (s2.set (CAN_OBJSTAT_ESIR c o) (b2n f.esi)).set (CAN_OBJSTAT_RTRR c o) (b2n f.rtr)
  let s4 := if s3.get (CAN_OBJMASK_MASK c o) = 2 ^ 29 - 1 then s3
    else (s3.set (CAN_OBJID_ID c o) f.id).set (CAN_OBJID_IDE c o) (b2n f.ide)
  let s5 := if f.fmt = 2 then
      (((s4.set (CAN_OBJXL_SDT c o) f.sdt).set (CAN_OBJXL_VCID c o) f.vcid).set (CAN_OBJXL_SEC c o) (b2n f.sec)).set (CAN_OBJAF_AF c o) f.af
    else s4
  let s6 := ((s5.set (CAN_OBJSTAMP_STAMP c o) f.stamp).addWrap (CAN_OBJCTL_SEQ c o) 2).canFull c o true
  if s6.on (CAN_OBJCFG_IE c o) then s6.raiseC (193 + 2 * c) 1 o else s6

/-- The receive error counter after a frame received without error (R291, ISO 11898-1). -/
def State.canRxGood (s : State) (c : Nat) : State :=
  if (s.canSt c).lom then s
  else
    let r := s.get (CAN_ERR_REC c)
    if r = 0 then s
    else if r < 128 then (s.set (CAN_ERR_REC c) (r - 1)).canErrState c
    else (s.draw.set (CAN_ERR_REC c) (119 + (Config.canRec s.free).val)).canErrState c

/-! ### Sending (R287 to R290) -/

/-- The data length that a CAN FD data length code gives for `n` bytes, rounded up (R288). -/
def fdLen (n : Nat) : Nat :=
  if n ≤ 8 then n else if n ≤ 12 then 12 else if n ≤ 16 then 16 else if n ≤ 20 then 20 else if n ≤ 24 then 24 else if n ≤ 32 then 32
  else if n ≤ 48 then 48 else 64

/-- The frame that object `o` sends now (R288). -/
def State.canForm (s : State) (c o : Nat) : CanFrame :=
  let fm := s.get (CAN_OBJCFG_FMT c o)
  let fmt := if fm = 3 then 0 else fm
  let n := min (s.get (CAN_OBJSTAT_LEN c o)) (s.canCap c o)
  let len := if fmt = 0 then min n 8 else if fmt = 1 then min n 64 else max (min n 2048) 1
  let rtr := fmt == 0 && s.on (CAN_OBJCFG_RTR c o)
  let bytes := s.bytes (canBase c + s.canPay c o) len
  let pad := if fmt = 1 then List.replicate (fdLen len - len) 0 else []
  { fmt := fmt, ide := fmt != 2 && s.on (CAN_OBJID_IDE c o), rtr := rtr
    id := if fmt = 2 then s.get (CAN_OBJID_ID c o) / 2 ^ 18 * 2 ^ 18 else s.get (CAN_OBJID_ID c o)
    brs := fmt == 1 && s.on (CAN_OBJCFG_BRS c o), esi := fmt != 0 && s.get (CAN_STAT_STATE c) == 3
    data := if rtr then [] else bytes ++ pad, dlc := if rtr then len else 0
    sdt := if fmt = 2 then s.get (CAN_OBJXL_SDT c o) else 0, vcid := if fmt = 2 then s.get (CAN_OBJXL_VCID c o) else 0
    sec := fmt == 2 && s.on (CAN_OBJXL_SEC c o), af := if fmt = 2 then s.get (CAN_OBJAF_AF c o) else 0, stamp := s.canStamp }

/-- The bits of a frame's arbitration field and the format bits behind it as a number; the smallest wins on the bus (R287, ISO 11898-1). -/
def arbKey (f : CanFrame) : Nat :=
  let base := f.id / 2 ^ 18 % 2 ^ 11
  let ext := f.id % 2 ^ 18
  if f.ide then ((((base * 2 + 1) * 2 + 1) * 2 ^ 18 + ext) * 2 + b2n f.rtr) * 4 + (if f.fmt = 0 then 0 else 2)
  else (((base * 2 + b2n f.rtr) * 2) * 2 ^ 19) * 4 + (if f.fmt = 0 then 0 else if f.fmt = 1 then 2 else 3) * 2 ^ 19

/-- Whether object `o` has a request that the controller can send now (R277, R287). -/
def State.canWants (s : State) (c o : Nat) : Bool :=
  let fm := s.get (CAN_OBJCFG_FMT c o)
  s.on (CAN_OBJCTL_TXREQ c o) && s.on (CAN_OBJCFG_EN c o) && s.on (CAN_OBJCFG_DIR c o)
    && (fm != 1 || s.on (CAN_CTL_FDEN c)) && (fm != 2 || s.on (CAN_CTL_XLEN c))

/-- The object whose frame would win arbitration, the lowest number among equals (R287). -/
def State.canBest (s : State) (c : Nat) : Option Nat :=
  ((List.range 128).filter (s.canWants c)).foldl (fun b o =>
    match b with
    | none => some o
    | some k => if arbKey (s.canForm c o) < arbKey (s.canForm c k) then some o else some k) none

/-- R287: a write of 1 to CAN_OBJCTL.TXREQ. -/
def State.canTxreq (s : State) (c o : Nat) : State :=
  if s.on (CAN_OBJCFG_EN c o) && s.on (CAN_OBJCFG_DIR c o) then (s.canReq c o true).canMirror c o else s

/-- R290: a write of 1 to CAN_OBJCTL.ABORT. -/
def State.canAbort (s : State) (c o : Nat) : State :=
  match (s.canSt c).tx with
  | some t =>
    if t.obj = o then s.canUpd c (fun x => { x with tx := some { t with once := true } })
    else if s.on (CAN_OBJCTL_TXREQ c o) then s.canFail c o else s
  | none => if s.on (CAN_OBJCTL_TXREQ c o) then s.canFail c o else s

/-- R291: a write of 1 to CAN_CTL.BORECOV. -/
def State.canRecover (s : State) (c : Nat) : State :=
  if s.get (CAN_STAT_STATE c) = 4 then s.set (CAN_STAT_STATE c) 5 else s

/-- R296: a correlation of the stamp counter with the GTB, at one instant. -/
def State.canCorrAt (s : State) (c : Nat) (at_ : Stamp) (ref : Nat) : State :=
  (((s.set (CAN_CORRSTAMP_CNT c) (stampAt ref)).set (CAN_CORRGTB_NS c) at_.ns).set (CAN_CORRX_FRAC c) at_.frac).addWrap (CAN_CORRX_CNT c) 1

/-- R296: a correlation now. -/
def State.canCorrelate (s : State) (c : Nat) : State := s.canCorrAt c s.exact s.pow.refNs

/-- Bits per second of a data phase above 1 Mbit/s: a bit of fewer than 160 island cycles (R280, R281). -/
def fastBit (brp t1 t2 : Nat) : Bool := decide ((brp + 1) * bitQuanta t1 t2 < 160)

/-- R281: whether the data phase of a frame can be sent without transmitter delay compensation, or has it; the internal loop has no loop delay of R278. -/
def State.canDataOk (s : State) (c : Nat) (f : CanFrame) : Bool :=
  s.on (CAN_TDC_EN c) || s.on (CAN_CTL_LOOP c) ||
    (if f.fmt = 1 then !(f.brs && fastBit (s.get (CAN_DBT_BRP c)) (s.get (CAN_DBT_TSEG1 c)) (s.get (CAN_DBT_TSEG2 c)))
     else if f.fmt = 2 then !fastBit (s.get (CAN_XBT_BRP c)) (s.get (CAN_XBT_TSEG1 c)) (s.get (CAN_XBT_TSEG2 c)) else true)

/-- R281: the delay measured in an FD or XL frame, with the compensation on (log entry 138). -/
def State.canTdcv (s : State) (c : Nat) (f : CanFrame) (v : Nat) : State := if f.fmt ≠ 0 ∧ s.on (CAN_TDC_EN c) then s.set (CAN_TDC_TDCV c) v else s

/-- The state of a CAN transceiver as CAN_TRXSTAT shows it: forced passive before the selection (R297). -/
def State.canTrx (s : State) (c : Nat) : State :=
  s.set (CAN_TRXSTAT_STATE c) (if s.on (CAN_TRXSTAT_FORCED c) then 1 else s.get (CAN_TRXCTL_MODE c))

/-! ### The commands -/

/-- R279, R576: CAN_CTL.EN written 1; before the end of the controller's test the start waits for it. -/
def execCanStart (c : Fin 16) (s : State) : Host.Outcome State Fault Refusal :=
  if !decide (c.val < nCan s.part) then done s else
  if s.on (CAN_CTL_EN c) then done s else if s.tested (87 + c) then done (s.canStart c) else done (s.set (CAN_CTL_EN c) 1)

/-- R279: 11 recessive bits are seen. -/
def execCanIntegrationDone (c : Fin 16) (s : State) : Host.Outcome State Fault Refusal :=
  if s.get (CAN_STAT_STATE c) = 1 then done (s.set (CAN_STAT_STATE c) (s.canLive c)) else done s

/-- R301: while half B stands by, its mirrored send object whose frame half A has completed loses its request. -/
def State.canMirrorSeen (s : State) (c : Nat) (f : CanFrame) : State :=
  if s.part = .twinB ∧ s.get SYS_TWIN_ROLE = 2 then
    match (List.range 128).find? (fun o => s.on (CAN_OBJCTL_TXREQ c o) &&
        ({ s.canForm c o with stamp := f.stamp, brs := f.brs, esi := f.esi, sdt := f.sdt, vcid := f.vcid, sec := f.sec, af := f.af } == f)) with
    | some o => s.canReq c o false
    | none => s
  else s

/-- R284: a frame on the bus becomes valid; its formats must be enabled (R309). Its stamp is what the stamp counter showed at its start of frame, `age` counts of 25 ns ago, the
calibrated delay of the receive path taken off (R295). -/
def execCanFrameValid (c : Fin 16) (fr : CanFrame) (age : Nat) (s0 : State) : Host.Outcome State Fault Refusal :=
  let f := { fr with stamp := (s0.canStamp + 2 ^ 32 - age % 2 ^ 32) % 2 ^ 32 }
  let s := if s0.canHears c then s0.set (CAN_STAT_RXACT c) 0 else s0
  if s.canHears c && s.canIn c && decide (f.fmt < 3) && (f.fmt != 1 || s.on (CAN_CTL_FDEN c)) && (f.fmt != 2 || s.on (CAN_CTL_XLEN c)) then
    done ((((s.canRxGood c).canMirrorSeen c f).canOffer c f).wakeConfirm c)
  else done s

/-- R285: the oldest taken frame is written into its object. The CRS block takes what comes into object 127 of a controller of the ring, which is then free (R314). -/
def execCanObjectWrite (c : Fin 16) (s : State) : Host.Outcome State Fault Refusal :=
  match (s.canSt c).taken with
  | [] => done s
  | (o, f) :: r =>
    let s1 := (s.canUpd c (fun x => { x with taken := r })).canStore c o f
    done (if o = 127 ∧ s.on CRS_CTL_EN ∧ s.on (CRS_BUS_RING c) then s1.canFull c o false else s1)

/-- R287: CAN_OBJCTL.TXREQ written 1. -/
def execCanTxreq (c : Fin 16) (o : Fin 128) (s : State) : Host.Outcome State Fault Refusal :=
  if !decide (c.val < nCan s.part) then done s else
  done (s.canTxreq c o)

/-- R287, R288: arbitration starts with the frame that would win; header and payload are taken now. Listen-only sends nothing (R292). -/
def execCanArbitrationStart (c : Fin 16) (s : State) : Host.Outcome State Fault Refusal :=
  let st := s.get (CAN_STAT_STATE c)
  if (st = 2 ∨ st = 3) ∧ (s.canSt c).tx = none ∧ s.idling (87 + c) = false then
    match s.canBest c with
    | some o =>
      let s1 := s.canUpd c (fun x => { x with tx := some { obj := o, frame := s.canForm c o, stamp := s.canStamp } })
      done (((s1.set (CAN_STAT_TXV c) 1).set (CAN_STAT_TXOBJ c) o).set (CAN_STAT_TXACT c) 1)
    | none => done s
  else done s

/-- R290: the frame in transmission is sent; `tdcv` is the delay measured in it, in cycles of 6.25 ns (R281). No frame is sent whole where the transceiver does not drive the bus, and
none with a data phase that needs the compensation it has not (R281, R297). -/
def execCanTxSuccess (c : Fin 16) (tdcv : Fin 256) (s : State) : Host.Outcome State Fault Refusal :=
  match (s.canSt c).tx with
  | none => done s
  | some t =>
    if !(s.canDrives c || s.on (CAN_CTL_LOOP c)) || !s.canDataOk c t.frame then done s else
    let s1 := (((s.canTxEnd c).canReq c t.obj false).set (CAN_OBJSTAT_DONE c t.obj) 1).canMirror c t.obj
    let s2 := s1.set (CAN_OBJSTAMP_STAMP c t.obj) t.stamp
    let s3 := if s2.on (CAN_OBJCFG_IE c t.obj) then s2.raiseC (193 + 2 * c.val) 2 t.obj else s2
    let s4 := s3.canTdcv c t.frame tdcv
    let s5 := (s4.set (CAN_ERR_TEC c) (s4.get (CAN_ERR_TEC c) - 1)).canErrState c
    let s6 := if s5.on (CAN_CTL_LOOP c) then s5 else s5.emit (.can c t.frame)
    done (if s6.on (CAN_CTL_SELFRX c) then s6.canOffer c t.frame else s6)

/-- R291: an error while sending. `count` tells whether ISO 11898-1 counts it (an acknowledgement error of an error passive sender that sees no dominant
bit, and a stuff error in arbitration, are not counted); `tdcv` is the delay measured before it, where the frame has passed its arbitration phase (R281). -/
def execCanTxError (c : Fin 16) (lec : Fin 7) (data : Bool) (count : Bool) (tdcv : Option (Fin 256)) (s : State) : Host.Outcome State Fault Refusal :=
  match (s.canSt c).tx with
  | none => done s
  | some t =>
    let s0 := match tdcv with
      | some v => s.canTdcv c t.frame v
      | none => s
    let s1 := (((s0.canTxEnd c).inc (CAN_ERRCNT_ERRS c)).set (CAN_ERR_LEC c) lec.val).set (CAN_ERR_LECDATA c) (b2n data)
    let tec := s1.get (CAN_ERR_TEC c) + (if count then 8 else 0)
    let s2 := s1.set (CAN_ERR_TEC c) (satU 8 tec)
    let s3 := if 255 < tec then
        ((s2.set (CAN_STAT_STATE c) (if s2.on (CAN_CTL_BOAUTO c) then 5 else 4)).inc (CAN_ERRCNT_BUSOFF c)).raiseC (192 + 2 * c.val) 2 (satU 8 tec)
      else s2.canErrState c
    done (if s3.on (CAN_CTL_DAR c) || t.once then s3.canFail c t.obj else s3)

/-- R290: arbitration is lost; the controller receives the frame that has won (R309, log entry 139). -/
def execCanArbitrationLost (c : Fin 16) (s : State) : Host.Outcome State Fault Refusal :=
  match (s.canSt c).tx with
  | none => done s
  | some t =>
    let s1 := ((s.canTxEnd c).inc (CAN_ERRCNT_ARBLOST c)).setIf (s.canHears c) (CAN_STAT_RXACT c) 1
    done (if s1.on (CAN_CTL_DAR c) || t.once then s1.canFail c t.obj else s1)

/-- R290: CAN_OBJCTL.ABORT written 1. -/
def execCanAbort (c : Fin 16) (o : Fin 128) (s : State) : Host.Outcome State Fault Refusal :=
  if !decide (c.val < nCan s.part) then done s else
  done (s.canAbort c o)

/-- R291: CAN_CTL.BORECOV written 1. -/
def execCanBusoffRecover (c : Fin 16) (s : State) : Host.Outcome State Fault Refusal := done (s.canRecover c)

/-- R291: 128 sequences of 11 recessive bits are counted. -/
def execCanBusoffRecovered (c : Fin 16) (s : State) : Host.Outcome State Fault Refusal :=
  if s.get (CAN_STAT_STATE c) = 5 then
    let s1 := (s.set (CAN_ERR_TEC c) 0).set (CAN_ERR_REC c) 0
    done ((s1.set (CAN_STAT_STATE c) (s1.canLive c)).raiseC (192 + 2 * c.val) 3 0)
  else done s

/-- R292: the bus is idle, and LOM as written takes effect. -/
def execCanLomApply (c : Fin 16) (s : State) : Host.Outcome State Fault Refusal :=
  if !decide (c.val < nCan s.part) then done s else
  if (s.canSt c).tx.isSome then done s
  else
    let s1 := s.canUpd c (fun x => { x with lom := s.on (CAN_CTL_LOM c) })
    done (if s1.canIn c then s1.set (CAN_STAT_STATE c) (s1.canLive c) else s1)

/-- R291: an error in a frame being received; `inc` is what ISO 11898-1 adds to the receive error counter (1 or 8). Listen-only changes no counter (R292). -/
def execCanRxError (c : Fin 16) (lec : Fin 7) (data : Bool) (inc : Fin 9) (s : State) : Host.Outcome State Fault Refusal :=
  if s.canHears c && s.canIn c then
    let s1 := (((s.inc (CAN_ERRCNT_ERRS c)).set (CAN_ERR_LEC c) lec.val).set (CAN_ERR_LECDATA c) (b2n data)).set (CAN_STAT_RXACT c) 0
    done (if (s1.canSt c).lom then s1 else (s1.addSat (CAN_ERR_REC c) inc).canErrState c)
  else done s

/-- R277: a recessive res bit with PXHD = 0. -/
def execCanProtocolException (c : Fin 16) (s : State) : Host.Outcome State Fault Refusal :=
  if s.canHears c && s.canIn c && !s.on (CAN_CTL_PXHD c) then
    done ((((s.set (CAN_STAT_RXACT c) 0).set (CAN_STAT_PXE c) 1).set (CAN_STAT_STATE c) 1).raiseC (192 + 2 * c.val) 4 0)
  else done s

/-- R294: TXD is dominant for 2.5 ms. -/
def execCanTxdTimeout (c : Fin 16) (s : State) : Host.Outcome State Fault Refusal :=
  if !decide (c.val < nCan s.part) then done s else
  if (s.canSt c).released then done s
  else done (((s.canUpd c (fun x => { x with released := true })).set (CAN_STAT_TXDTO c) 1).raiseC (192 + 2 * c.val) 5 0)

/-- R294: TXD has been recessive for 1 µs. -/
def execCanBusReleaseEnd (c : Fin 16) (s : State) : Host.Outcome State Fault Refusal :=
  if !decide (c.val < nCan s.part) then done s else
  done (s.canUpd c (fun x => { x with released := false }))

/-- Whether a firing on its way is one for the correlation of controller `c`. -/
def isCorrDue (c : Nat) (d : Due) : Bool :=
  match d with
  | .corr k _ _ => k == c
  | _ => false

/-- R296: TAKE is written 1, or a firing of the trigger line that the controller follows reaches it: the values are those of the firing. -/
def execCanCorrelation (c : Fin 16) (take : Bool) (s : State) : Host.Outcome State Fault Refusal :=
  if !decide (c.val < nCan s.part) then done s else
  if take then done (s.canCorrelate c)
  else match s.arrive (isCorrDue c) with
    | some (.corr _ t r, s1) => done (s1.canCorrAt c t r)
    | _ => done s

/-- R299: a transceiver in sleep with wake detection sees a dominant phase that qualifies: buses 0 to 15 are CAN, 16 to 23 LIN. -/
def execBusWakeDetect (b : Fin 24) (s : State) : Host.Outcome State Fault Refusal :=
  if !busCarried s.part b then done s else
  if !s.trxPower then done s
  else if b.val < 16 then
    (if s.get (CAN_TRXSTAT_STATE b) = 2 ∧ s.on (CAN_TRXCTL_WAKEEN b) then done (s.set (CAN_TRXSTAT_WAKE b) 1) else done s)
  else
    let l := b.val - 16
    if s.get (LIN_CTL_TRXMODE l) = 2 ∧ !s.on (LIN_STAT_FORCED l) ∧ s.on (LIN_CTL_WAKEEN l) then
      done ((s.set (LIN_STAT_WAKE l) 1).raiseC (224 + l) 3 0)
    else done s

/-- R300: a transceiver above 175 °C releases its bus. -/
def execTransceiverOvertemp (b : Fin 24) (s : State) : Host.Outcome State Fault Refusal :=
  if !busCarried s.part b then done s else
  if b.val < 16 then
    (if (s.canSt b).hot then done s
      else done (((s.canUpd b (fun x => { x with hot := true })).set (CAN_TRXSTAT_OT b) 1).raiseC (192 + 2 * b.val) 7 0))
  else
    let l := b.val - 16
    if (s.lin.get l).hot then done s
    else
      let s1 : State := { s with lin := s.lin.upd l (fun x => { x with hot := true }) }
      done ((s1.set (LIN_STAT_OT l) 1).raiseC (224 + l) 4 0)

/-- R300: a transceiver 10 °C below its limit resumes. -/
def execTransceiverOvertempEnd (b : Fin 24) (s : State) : Host.Outcome State Fault Refusal :=
  if !busCarried s.part b then done s else
  if b.val < 16 then done (s.canUpd b (fun x => { x with hot := false }))
  else done { s with lin := s.lin.upd (b.val - 16) (fun x => { x with hot := false }) }

/-! ### Register writes and reads, and the block reset -/

/-- What a write to a controller's registers does beyond its fields (R279, R280, R282, R287, R289 to R292, R296);
`old` is the state before it. A start waits for the controller's test (R576). -/
def canWrite : Nat → Nat → State → State → State := fun a v old s =>
  let c := (a - 0x4400_0000) / 0x1_0000
  let o := a % 0x1_0000
  let back : State := { old with held := s.held }
  if o = 0 then
    let s1 := if bitOf v 22 then s.canRecover c else s
    let s2 := if s1.get (CAN_STAT_STATE c) = 4 ∧ s1.on (CAN_CTL_BOAUTO c) then s1.set (CAN_STAT_STATE c) 5 else s1
    if bitOf v 31 && !old.on (CAN_CTL_EN c) then (if s2.tested (87 + c) then s2.canStart c else s2)
    else if !bitOf v 31 && old.on (CAN_CTL_EN c) then s2.canOff c
    else s2
  else if (o = 4 ∨ o = 8 ∨ o = 0xC ∨ o = 0x10) ∧ old.on (CAN_CTL_EN c) then back
  else if o = 0x24 then (if bitOf v 30 then s.canCorrelate c else s)
  else if o = 0x40 then s.canTrx c
  else if within o 0x800 0x200 then
    (if (o = 0x9F8 ∨ o = 0x9FC) ∧ s.on CRS_CTL_EN ∧ s.on (CRS_BUS_RING c) then back else s)
  else if within o 0x1000 0x1000 then
    let k := (o - 0x1000) / 0x20
    let r := o % 0x20
    if r = 0 then
      (if bitOf v 31 && !s.canFits c k then (s.set (CAN_OBJCFG_EN c k) 0).set (CAN_STAT_CFGERR c) 1 else s)
    else if r = 0x14 then
      let s1 := s.canReq c k (old.on (CAN_OBJCTL_TXREQ c k))
      let s2 := if bitOf v 31 then s1.canTxreq c k else s1
      if bitOf v 30 then s2.canAbort c k else s2
    else if r = 0x18 then
      let s1 := s.canFull c k (s.on (CAN_OBJSTAT_FULL c k))
      if old.on (CAN_OBJCTL_TXREQ c k) then s1.set (CAN_OBJSTAT_LEN c k) (old.get (CAN_OBJSTAT_LEN c k)) else s1
    else s
  else s

/-- What a read of a controller's registers shows beyond its fields: the stamp counter now (R295), and whether the transceiver is supplied (R309). -/
def canBefore (a : Nat) (s : State) : State :=
  let c := (a - 0x4400_0000) / 0x1_0000
  if a % 0x1_0000 = 0x20 then s.set (CAN_STAMP_CNT c) s.canStamp
  else if a % 0x1_0000 = 0x44 then s.set (CAN_TRXSTAT_PWROK c) (b2n s.trxPower)
  else s

/-- The block reset of controller `c`: its fields are restored, and its TXD is recessive; the payload area stays (R282, R297). -/
def State.canReset (s : State) (c : Nat) : State :=
  (s.restoreBlock (canBase c) 0x2000).canUpd c (fun x => { released := x.released, hot := x.hot })

end Sys2Proof.Machine
end

