-- ==== Sys2Proof/Machine/Gates.lean ====
section
/-! DEFINITION. The gate lists of the switch ports and of the stream gates: their change time, the change, the entry in force,
and what a step of the GTB does to them (R255, R256, R258, R261). -/

namespace Sys2Proof.Machine

open Sys2Proof

/-- The entry of a list into which offset `t` of the cycle falls; the last entry reached holds to the cycle end (R255). -/
def gateEntry : List (Nat × Nat) → Nat → Nat → Nat
  | [], _, last => last
  | (g, n) :: r, t, _ => if t < n then g else gateEntry r (t - n) g

/-- The sum of the intervals of a list. -/
def gateSum (l : List (Nat × Nat)) : Nat := l.foldl (fun a e => a + e.2) 0

/-- The gate states that a list gives at GTB time `now`; before its base time its first entry (R255). -/
def gateAt (g : GateList) (now : Nat) : Nat :=
  let c := if g.cyc = 0 then gateSum g.entries else g.cyc
  let t := if now < g.base ∨ c = 0 then 0 else (now - g.base) % c
  gateEntry g.entries t 0

/-- The change time of R256: the base time, or the first cycle start at or after the GTB plus 2 µs. -/
def changeTime (base cyc now : Nat) : Nat :=
  if now + 2000 ≤ base then base
  else if cyc = 0 then now + 2000
  else base + (now + 2000 - base + cyc - 1) / cyc * cyc

/-- The entries that EPORT_GCL holds; an interval of 0 acts as 8 ns, a length of 0 as 1, above 128 as 128 (R276). -/
def State.gclEntries (s : State) (p : Nat) : List (Nat × Nat) :=
  let n := min (max (s.get (EPORT_GCLCTL_LEN p)) 1) 128
  (List.range n).map (fun e =>
    let iv := s.get (EPORT_GCL_INTERVAL p e)
    (s.get (EPORT_GCL_GATES p e), if iv = 0 then 8 else iv))

/-- The entries that ESW_SGL holds: OPEN in bit 4, IPVEN in bit 3, IPV below (R275). -/
def State.sglEntries (s : State) (g : Nat) : List (Nat × Nat) :=
  let n := min (s.get (ESW_SGCTL_LEN g) + 1) 32
  (List.range n).map (fun e =>
    (s.get (ESW_SGL_OPEN g e) * 16 + s.get (ESW_SGL_IPVEN g e) * 8 + s.get (ESW_SGL_IPV g e), s.get (ESW_SGL_INTERVAL g e)))

/-- R256: a write of 1 to EPORT_GCLCTL.CHANGE makes the change pending with its change time. -/
def State.gateChange (s : State) (p : Nat) : State :=
  let c := s.get (EPORT_GCLCYC_CYC p)
  let cyc := if c = 0 then gateSum (s.gclEntries p) else c
  let ct := changeTime (s.get (EPORT_GCLBASE_BASE p)) cyc s.nowNs
  let s1 := { s with esw := { s.esw with gates := s.esw.gates.upd p (fun g => { g with ct := some ct }) } }
  (s1.set (EPORT_GCLCTL_CHANGE p) 1).set (EPORT_GCLSTAT_PEND p) 1

/-- R256: at the change time the list of the registers becomes the operating list, PEND and CHANGE clear, and source 232 + p is raised. -/
def State.gateApply (s : State) (p : Nat) : State :=
  match (s.esw.gates.get p).ct with
  | none => s
  | some _ =>
    let g : GateList := { base := s.get (EPORT_GCLBASE_BASE p), cyc := s.get (EPORT_GCLCYC_CYC p), entries := s.gclEntries p }
    let s1 := { s with esw := { s.esw with gates := s.esw.gates.put p g } }
    ((s1.set (EPORT_GCLCTL_CHANGE p) 0).set (EPORT_GCLSTAT_PEND p) 0).raiseC (232 + p) 4 0

/-- R261: as `gateChange`, for a stream gate. -/
def State.sgateChange (s : State) (g : Nat) : State :=
  let c := s.get (ESW_SGCYC_CYC g)
  let cyc := if c = 0 then gateSum (s.sglEntries g) else c
  let ct := changeTime (s.get (ESW_SGBASE_BASE g)) cyc s.nowNs
  let s1 := { s with esw := { s.esw with sgates := s.esw.sgates.upd g (fun x => { x with ct := some ct }) } }
  (s1.set (ESW_SGCTL_CHANGE g) 1).set (ESW_SGSTAT_PEND g) 1

/-- R261: as `gateApply`, for a stream gate; source 255 cause 3. -/
def State.sgateApply (s : State) (g : Nat) : State :=
  match (s.esw.sgates.get g).ct with
  | none => s
  | some _ =>
    let x : GateList := { base := s.get (ESW_SGBASE_BASE g), cyc := s.get (ESW_SGCYC_CYC g), entries := s.sglEntries g }
    let s1 := { s with esw := { s.esw with sgates := s.esw.sgates.put g x } }
    ((s1.set (ESW_SGCTL_CHANGE g) 0).set (ESW_SGSTAT_PEND g) 0).raiseC 255 3 g

/-- The gate states of port `p` now: its operating list while EN = 1, IDLE otherwise (R255). -/
def State.portGates (s : State) (p : Nat) : Nat :=
  if s.on (EPORT_GCLCTL_EN p) then gateAt (s.esw.gates.get p) s.nowNs else s.get (EPORT_GCLCTL_IDLE p)

/-- R258: a GTB step for one port list: counted and reported where it operates, and a pending change whose time the step passes is applied. -/
def State.gateStepPort (s : State) (p : Nat) : State :=
  let s1 := if s.on (EPORT_GCLCTL_EN p) then (s.inc (EPORT_GCLSTAT_STEPS p)).raiseC (232 + p) 5 0 else s
  match (s1.esw.gates.get p).ct with
  | some t => if t ≤ s1.nowNs then s1.gateApply p else s1
  | none => s1

/-- R258, R261: a GTB step for one stream gate list. -/
def State.gateStepStream (s : State) (g : Nat) : State :=
  match (s.esw.sgates.get g).ct with
  | some t => if t ≤ s.nowNs then s.sgateApply g else s
  | none => s

/-- R258: what a GTB step does to all gate lists; the entry in force follows the new GTB. -/
def State.gateStep (s : State) : State :=
  (s.each (List.range 18) State.gateStepPort).each (List.range 64) State.gateStepStream

end Sys2Proof.Machine
end

