-- ==== Sys2Proof/Machine/Gcm.lean ====
section
/-! DEFINITION. GCM-AES with keys of 128 and 256 bits, which MACsec names (R268): the cipher of FIPS 197 and the mode of NIST SP 800-38D (PRESUMED, log entry 58). -/

namespace Sys2Proof.Machine

open Sys2Proof

/-! ### AES -/

/-- Twice an element of the field of AES. -/
def aesDbl (b : Nat) : Nat := if b < 128 then 2 * b else (2 * b) ^^^ 0x11B

/-- The product of two elements of the field of AES. -/
def aesMul (a b : Nat) : Nat := ((List.range 8).foldl (fun (x : Nat × Nat) i => (if bitOf b i then x.1 ^^^ x.2 else x.1, aesDbl x.2)) (0, a)).1

/-- The substitution of a byte: its inverse (its 254th power) under the affine map. -/
def aesSub (b : Nat) : Nat :=
  let sq (x : Nat) : Nat := aesMul x x
  let p3 := aesMul (sq b) b
  let p15 := aesMul (sq (sq p3)) p3
  let p252 := sq (sq (aesMul (sq (sq p15)) p3))
  let inv := aesMul p252 (sq b)
  let rot (n : Nat) : Nat := (inv * 2 ^ n + inv / 2 ^ (8 - n)) % 256
  inv ^^^ rot 1 ^^^ rot 2 ^^^ rot 3 ^^^ rot 4 ^^^ 0x63

/-- Two lists of bytes added. -/
def xorBytes (a b : List Nat) : List Nat := List.zipWith (fun x y => x ^^^ y) a b

/-- The next word of the key schedule: `w` holds the words so far, latest first, `n` the words of the key. -/
def aesWord (n : Nat) (x : List (List Nat) × Nat) : List (List Nat) × Nat :=
  let w := x.1
  let i := w.length
  let t := w.headD []
  let u := if i % n = 0 then xorBytes ((t.drop 1 ++ t.take 1).map aesSub) [x.2, 0, 0, 0]
    else if 6 < n ∧ i % n = 4 then t.map aesSub else t
  (xorBytes (w.getD (n - 1) []) u :: w, if i % n = 0 then aesDbl x.2 else x.2)

/-- The round keys of a key of 16 or 32 bytes, 16 bytes each. -/
def aesKeys (key : List Nat) : List (List Nat) :=
  let n := key.length / 4
  let first := ((List.range n).map (fun i => (key.drop (4 * i)).take 4)).reverse
  let w := ((List.range (4 * (n + 7) - n)).foldl (fun x _ => aesWord n x) (first, 1)).1.reverse
  (List.range (n + 7)).map (fun r => ((w.drop (4 * r)).take 4).flatten)

/-- The substitution and the shift of the rows of a block of 16 bytes, column by column. -/
def aesShift (b : List Nat) : List Nat := (List.range 16).map (fun i => aesSub (b.getD ((i + 4 * (i % 4)) % 16) 0))

/-- The mixing of the columns. -/
def aesMix (b : List Nat) : List Nat :=
  (List.range 16).map (fun i =>
    let c (k : Nat) : Nat := b.getD (i / 4 * 4 + (i + k) % 4) 0
    aesDbl (c 0) ^^^ aesDbl (c 1) ^^^ c 1 ^^^ c 2 ^^^ c 3)

/-- A block of 16 bytes encrypted under round keys. -/
def aesBlock : List (List Nat) → List Nat → List Nat
  | [], b => b
  | [k], b => xorBytes (aesShift b) k
  | k :: r, b => aesBlock r (xorBytes (aesMix (aesShift b)) k)

/-- A block of 16 bytes encrypted under a key. -/
def aesEncrypt (ks : List (List Nat)) (b : List Nat) : List Nat := aesBlock (ks.drop 1) (xorBytes b (ks.headD []))

/-! ### Galois counter mode -/

/-- The product in the field of GCM; bit 127 of a number is the first bit of its block. -/
def gcmMul (a b : Nat) : Nat :=
  ((List.range 128).foldl (fun (x : Nat × Nat) i =>
    (if bitOf a (127 - i) then x.1 ^^^ x.2 else x.1, if x.2 % 2 = 1 then (x.2 / 2) ^^^ (0xE1 * 2 ^ 120) else x.2 / 2)) (0, b)).1

/-- Bytes filled up to whole blocks with zeros. -/
def gcmPad (l : List Nat) : List Nat := l ++ List.replicate ((16 - l.length % 16) % 16) 0

/-- The hash of whole blocks under the hash key `h`. -/
def gcmHash (h : Nat) (l : List Nat) : Nat :=
  (List.range (l.length / 16)).foldl (fun y i => gcmMul (y ^^^ ofBytesBE ((l.drop (16 * i)).take 16)) h) 0

/-- `n` bytes of the key stream for an IV of 12 bytes. -/
def gcmStream (ks : List (List Nat)) (iv : List Nat) (n : Nat) : List Nat :=
  ((List.range ((n + 15) / 16)).flatMap (fun i => aesEncrypt ks (iv ++ toBytesBE 4 (i + 2)))).take n

/-- Bytes encrypted or decrypted. -/
def gcmCrypt (key iv bs : List Nat) : List Nat := xorBytes bs (gcmStream (aesKeys key) iv bs.length)

/-- The tag of 16 bytes over additional data and cipher text. -/
def gcmTag (key iv aad ct : List Nat) : List Nat :=
  let ks := aesKeys key
  let h := ofBytesBE (aesEncrypt ks (List.replicate 16 0))
  let s := gcmHash h (gcmPad aad ++ gcmPad ct ++ toBytesBE 8 (8 * aad.length) ++ toBytesBE 8 (8 * ct.length))
  xorBytes (toBytesBE 16 s) (aesEncrypt ks (iv ++ [0, 0, 0, 1]))

end Sys2Proof.Machine
end

