-- ==== Sys2Proof/Machine/Esw.lean ====
section
/-! DEFINITION. The buffer, the queues, the forwarding table, the pin groups, the stream filters and the samplers of the Ethernet switch (R227 to R274).
A frame is its bytes from the destination address to the FCS. -/

namespace Sys2Proof.Machine

open Sys2Proof

/-! ### The mirror of the twin (R270) -/

/-- What half A of a twin mirrors to half B: writes to the switch, the ports, the CAN controllers, the domain slots of gPTP and the gateway (R7, R35, R36, R270, R301; log
entry 34). -/
def mirrorPage (a : Nat) : Bool :=
  within a 0x4300_0000 0x20_0000 || within a 0x4400_0000 0x10_0000 || within a 0x4001_0100 0x100 || within a 0x4500_0000 0x10_0000

/-- A 32-bit write of half A sent over the mirror link. -/
def State.mirrored (s : State) (a v : Nat) : State :=
  if s.part = .twinA ∧ mirrorPage a = true then s.emit (.link "MIRROR" [a, v]) else s

/-- A 64-bit write of half A sent over the mirror link. -/
def State.mirrored8 (s : State) (a v : Nat) : State :=
  if s.part = .twinA ∧ mirrorPage a = true then s.emit (.link "MIRROR8" [a, v]) else s

/-- The value that a register holds now, without a read's effects. -/
def State.regNow (s : State) (a : Nat) : Nat :=
  match findReg a allRegs with
  | some (r, i, j, _) => s.fieldsRead (r.flds i j)
  | none => 0

/-- R38, R270: half B stands by: its switch takes the mirrored tables and forwards nothing before the takeover (log entry 136). -/
def State.standby (s : State) : Bool := s.part == .twinB && s.get SYS_TWIN_ROLE == 2

/-! ### Frames (R238, R242, R247, R264) -/

/-- One bit of a CRC register that shifts right. -/
def crcBit (poly c : Nat) : Nat := if c % 2 = 1 then (c / 2) ^^^ poly else c / 2

/-- One byte into a CRC register that shifts right. -/
def crcByte (poly c b : Nat) : Nat := (List.range 8).foldl (fun x _ => crcBit poly x) (c ^^^ b)

/-- The CRC-32 of IEEE 802.3, final complement included (R242). -/
def crc32 (bs : List Nat) : Nat := (bs.foldl (crcByte 0xEDB8_8320) 0xFFFF_FFFF) ^^^ 0xFFFF_FFFF

/-- One bit into the 16-bit CRC of R247, which shifts left with polynomial x¹⁶ + x¹² + x⁵ + 1. -/
def hashBit (c : Nat) (b : Bool) : Nat :=
  let t := bitOf c 15 != b
  let c1 := c * 2 % 0x1_0000
  if t then c1 ^^^ 0x1021 else c1

/-- The bits of bytes in transmission order, least significant bit of each byte first (R247, log entry 15). -/
def txBits (bs : List Nat) : List Bool := bs.flatMap (fun b => (List.range 8).map (bitOf b))

/-- Whether the FCS at the end of a frame is right. -/
def fcsOk (bs : List Nat) : Bool := ofBytes (bs.drop (bs.length - 4)) == crc32 (bs.take (bs.length - 4))

/-- The Tag Control Information of a frame with TPID 0x8100 (R238). -/
def ethTci (bs : List Nat) : Option Nat :=
  if bs.getD 12 0 = 0x81 ∧ bs.getD 13 0 = 0 then some (bs.getD 14 0 * 256 + bs.getD 15 0) else none

/-- What follows the addresses and the VLAN tag, without the FCS: EtherType and payload. -/
def ethRest (bs : List Nat) : List Nat :=
  let b := bs.take (bs.length - 4)
  if (ethTci bs).isSome then b.drop 16 else b.drop 12

/-- The sequence number of an R-TAG (EtherType 0xF1C1, two reserved bytes, two bytes of sequence number; R264). -/
def ethRtag (r : List Nat) : Option Nat :=
  if r.getD 0 0 = 0xF1 ∧ r.getD 1 0 = 0xC1 then some (r.getD 4 0 * 256 + r.getD 5 0) else none

/-- A frame as received on port `p` with stamp `rx`, before its classification. -/
def ethParse (p : Nat) (rx : Stamp) (bs : List Nat) : EthFrame :=
  let r := ethRest bs
  { da := ofBytesBE (bs.take 6), sa := ofBytesBE ((bs.drop 6).take 6), rtag := ethRtag r
    rest := r, len := bs.length, rx := rx, port := p, head := bs.take 128 }

/-- EtherType and payload behind an R-TAG, where the frame carries one. -/
def EthFrame.body (f : EthFrame) : List Nat := if f.rtag.isSome then f.rest.drop 6 else f.rest

/-- The EtherType of a frame, behind its R-TAG. -/
def EthFrame.etype (f : EthFrame) : Nat := f.body.getD 0 0 * 256 + f.body.getD 1 0

/-- A frame without its R-TAG (R264). -/
def EthFrame.untag (f : EthFrame) : EthFrame := { f with rtag := ethRtag (f.rest.drop 6), rest := f.rest.drop 6 }

/-- A frame with an R-TAG of sequence number `q` added behind the VLAN tag (R264). -/
def EthFrame.tag (f : EthFrame) (q : Nat) : EthFrame := { f with rtag := some q, rest := [0xF1, 0xC1, 0, 0] ++ toBytesBE 2 q ++ f.rest }

/-- The cells a frame takes (R235). -/
def EthFrame.cells (f : EthFrame) : Nat := (f.len + 255) / 256

/-- Bits of one header field in a byte, `n` bits from bit `lo` on, in transmission order. -/
def partBits (b lo n : Nat) : List Bool := (List.range n).map (fun i => bitOf b (lo + i))

/-- The layer-4 ports of TCP and UDP: the offset behind the EtherType where they stand. -/
def l4Offset (f : EthFrame) : Option Nat :=
  let r := f.body
  if f.etype = 0x0800 then
    let frag := (r.getD 8 0 * 256 + r.getD 9 0) % 0x2000
    if (r.getD 11 0 = 6 ∨ r.getD 11 0 = 17) ∧ frag = 0 then some (2 + r.getD 2 0 % 16 * 4) else none
  else if f.etype = 0x86DD then
    if r.getD 8 0 = 6 ∨ r.getD 8 0 = 17 then some 42 else none
  else none

/-- The bits of field `n` of ESW_PINHASH.FIELDS, empty where the frame lacks it (R247, R274). -/
def hashField (f : EthFrame) (n : Nat) : List Bool :=
  let r := f.body
  let v4 := f.etype == 0x0800
  let v6 := f.etype == 0x86DD
  match n with
  | 0 => txBits (toBytesBE 6 f.da)
  | 1 => txBits (toBytesBE 6 f.sa)
  | 2 => partBits (f.vid / 256) 0 4 ++ partBits f.vid 0 8
  | 3 => partBits f.pcp 0 3
  | 4 => txBits (r.take 2)
  | 5 => if v4 then txBits ((r.drop 14).take 4) else if v6 then txBits ((r.drop 10).take 16) else []
  | 6 => if v4 then txBits ((r.drop 18).take 4) else if v6 then txBits ((r.drop 26).take 16) else []
  | 7 => if v4 then txBits ((r.drop 11).take 1) else if v6 then txBits ((r.drop 8).take 1) else []
  | 8 => match l4Offset f with
    | some o => txBits ((r.drop o).take 2)
    | none => []
  | 9 => match l4Offset f with
    | some o => txBits ((r.drop (o + 2)).take 2)
    | none => []
  | 10 => if f.etype = 0x22F0 then txBits ((r.drop 6).take 8) else []
  | 11 => if v6 then partBits (r.getD 3 0) 0 4 ++ txBits ((r.drop 4).take 2) else []
  | _ => []

/-- The hash bit of a frame for pin group `k` (R247). -/
def State.pinHash (s : State) (k : Nat) (f : EthFrame) : Bool :=
  let bits := (bitsOf (s.get (ESW_PINHASH_FIELDS k)) 12).flatMap (hashField f)
  bitOf (bits.foldl hashBit (s.get (ESW_PINHASH_SEED k))) 0

/-- The bytes of a frame as port `p` sends it: tagged unless the VID is untagged there, DEI marked, padding and FCS (R238, R264). The time engine's frames carry no tag. -/
def State.ethBytes (s : State) (p : Nat) (f : EthFrame) : List Nat :=
  let dei := if f.colour = 1 ∧ s.on (EPORT_CFG_DEIMARK p) then 0x1000 else 0
  let tag := if f.ptp.isSome || bitOf (s.get (ESW_VLANU_UNTAG f.vid)) p then [] else [0x81, 0] ++ toBytesBE 2 (f.pcp * 0x2000 + dei + f.vid)
  let b := toBytesBE 6 f.da ++ toBytesBE 6 f.sa ++ tag ++ f.rest
  let b1 := b ++ List.replicate (60 - b.length) 0
  b1 ++ toBytes 4 (crc32 b1)

/-! ### Ports (R227 to R230) -/

/-- Whether a register of an EPORT page is one that the kind of its port carries (R232, R273). -/
def eportCarries (a : Nat) : Bool :=
  if within a 0x4310_0000 0x1_6000 then
    let p := (a - 0x4310_0000) / 0x1000
    let o := a % 0x1000
    if o = 8 ∨ o = 0xC then decide (p < 18)
    else if o = 0x14 then p == 16 || p == 17
    else if o = 0x24 then decide (12 ≤ p) && decide (p < 16)
    else if (0x100 ≤ o ∧ o < 0x200) ∨ 0xE00 ≤ o then decide (p < 18)
    else if 0x300 ≤ o ∧ o < 0xE00 then decide (p < 8) || p == 16 || p == 17
    else true
  else true

/-- Whether a port carries MACsec (R227). -/
def hasMacsec (p : Nat) : Bool := decide (p < 8) || p == 16 || p == 17

/-- Whether a port is up (R276). -/
def State.portUp (s : State) (p : Nat) : Bool := s.get (EPORT_STAT_STATE p) == 3

/-- The rate of a port in Mbit/s (R227, R276). -/
def State.portRate (s : State) (p : Nat) : Nat :=
  if p = 18 ∨ p = 19 then 16000 else if p = 20 then 8000 else if p = 21 then 2000
  else [0, 10, 100, 1000, 2500, 5000, 10000].getD (s.get (EPORT_STAT_SPEED p)) 0

/-- The largest frame of a port, held between 64 and 9,216 bytes (R276). -/
def State.maxLen (s : State) (p : Nat) : Nat := min (max (s.get (EPORT_MAXLEN_MAXLEN p)) 64) 9216

/-! ### Buffer and queues (R235, R250, R259) -/

/-- Queue `q` of port `p`. -/
def State.ethQ (s : State) (p q : Nat) : List EthCopy := s.esw.queues.get (8 * p + q)

/-- Queue `q` of port `p` set, with its occupancy (R276). -/
def State.setEthQ (s : State) (p q : Nat) (l : List EthCopy) : State :=
  let occ := l.foldl (fun a c => a + c.cells) 0
  let s1 : State := { s with esw := { s.esw with queues := s.esw.queues.put (8 * p + q) l } }
  (s1.set (EPORT_QSTAT_OCC p q) occ).track (EPORT_QSTAT_MAXOCC p q) occ

/-- The free cells set; the lowest value is kept, and a fall below Q7RES raises source 259 cause 1 (R271, R274). -/
def State.setFree (s : State) (v : Nat) : State :=
  let old := s.get ESW_BUFSTAT_FREE
  let s1 := s.set ESW_BUFSTAT_FREE v
  let s2 := s1.setIf (decide (v < s1.get ESW_BUFSTAT_MINFREE)) ESW_BUFSTAT_MINFREE v
  let r := s2.get ESW_CTL_Q7RES
  if v < r ∧ r ≤ old then s2.raiseC 259 1 0 else s2

/-- A copy that has left its queue; with the last copy the cells are free again (R235). -/
def State.copyGone (s : State) (c : EthCopy) : State :=
  let n := s.esw.refs.get c.id
  if n ≤ 1 then
    let s1 : State := { s with esw := { s.esw with refs := s.esw.refs.del c.id } }
    s1.setFree (s1.get ESW_BUFSTAT_FREE + c.cells)
  else { s with esw := { s.esw with refs := s.esw.refs.put c.id (n - 1) } }

/-- Every queued frame of a port discarded and counted as FLUSH (R253, R254). -/
def State.flushPort (s : State) (p : Nat) : State :=
  s.each (List.range 8) (fun t q =>
    let l := t.ethQ p q
    (t.each l (fun u c => ((u.inc (EPORT_QDROP_FLUSH p q)).inc ESW_DROP_FLUSH).copyGone c)).setEthQ p q [])

/-- The transmission record of a port. -/
def State.ethTx (s : State) (p : Nat) : EthTx := s.esw.tx.get p

/-- The credit of a shaped queue after a time without and with its own transmission (R259): units of 10⁻⁶ bit. -/
def cbsStep (rate idle maxLen : Nat) (isOpen waiting : Bool) (sendNs restNs : Nat) (c : Int) : Int :=
  let r : Int := (rate * 1000 : Nat)
  let i : Int := idle
  let m : Int := (maxLen * 8000000 : Nat)
  let c1 := c - (r - i) * sendNs
  let c2 := if isOpen then
      (if waiting then c1 + i * restNs else if c1 < 0 then min 0 (c1 + i * restNs) else 0)
    else c1
  if r ≤ 0 then c2 else clampI (m * (i - r) / r) (m * i / r) c2

/-- The credits and shown gate states of a port brought up to now; in a hold both stand still (R253, R255, R259). -/
def State.ethSettle (s : State) (p : Nat) : State :=
  let x := s.ethTx p
  let now := s.pow.elapsed
  let gates := s.get (EPORT_GCLSTAT_GATES p)
  let cr := if s.portUp p then
      (List.range 8).foldl (fun (t : Tab Int) q =>
        if s.on (EPORT_QCBS_EN p q) then
          let send := if x.queue = q then min now x.endNs - max x.upd x.start else 0
          t.put q (cbsStep (s.portRate p) (s.get (EPORT_QCBS_IDLESLOPE p q)) (s.maxLen p) (bitOf gates q)
            (!(s.ethQ p q).isEmpty) send (now - x.upd - send) (x.credit.get q))
        else t.del q) x.credit
    else x.credit
  let s1 : State := { s with esw := { s.esw with tx := s.esw.tx.put p { x with credit := cr, upd := now } } }
  if s.get (EPORT_STAT_STATE p) = 2 then s1 else s1.set (EPORT_GCLSTAT_GATES p) (s1.portGates p)

/-! ### Pin groups (R247 to R249) -/

/-- Whether a pin group acts as enabled (R247). -/
def State.pinOn (s : State) (k : Nat) : Bool :=
  let a := s.get (ESW_PINCFG_PORTA k)
  let b := s.get (ESW_PINCFG_PORTB k)
  s.on (ESW_PINCFG_EN k) && a != b && decide (a < 18) && decide (b < 18)

/-- Whether port `p` belongs to the enabled group `k`. -/
def State.inPin (s : State) (k p : Nat) : Bool := s.pinOn k && (s.get (ESW_PINCFG_PORTA k) == p || s.get (ESW_PINCFG_PORTB k) == p)

/-- The other port of the group. -/
def State.pinOther (s : State) (k p : Nat) : Nat :=
  if s.get (ESW_PINCFG_PORTA k) = p then s.get (ESW_PINCFG_PORTB k) else s.get (ESW_PINCFG_PORTA k)

/-- The port that a frame with hash bit `h` takes in group `k` (R247, R248). -/
def State.pinPath (s : State) (k : Nat) (h : Bool) : Nat :=
  let a := s.get (ESW_PINCFG_PORTA k)
  let b := s.get (ESW_PINCFG_PORTB k)
  let byHash := if h then b else a
  match s.portUp a, s.portUp b with
  | true, false => a
  | false, true => b
  | true, true => (s.esw.survivor.get k).getD byHash
  | false, false => (s.esw.survivor.get k).getD byHash

/-- The paths that carry a group, as ESW_PINSTAT shows them (R248, R274). -/
def State.pinRefresh (s : State) (k : Nat) : State :=
  let a := s.get (ESW_PINCFG_PORTA k)
  let b := s.get (ESW_PINCFG_PORTB k)
  let carries (p : Nat) : Bool := s.pinOn k && s.portUp p && (!s.portUp (s.pinOther k p) || (s.esw.survivor.get k).getD p == p)
  s.set (ESW_PINSTAT_PATHS k) (b2n (carries a) + 2 * b2n (carries b))

/-- The marks of a revert of group `k` taken from the queues of a port. -/
def State.unmark (s : State) (k p : Nat) : State :=
  s.each (List.range 8) (fun t q => t.setEthQ p q ((t.ethQ p q).map (fun (c : EthCopy) => if c.grp = some k then { c with rev := false } else c)))

/-- R248: the failover of group `k` from port `p`, which has left the up state, to the other port. -/
def State.pinFail (s : State) (k p : Nat) : State :=
  let o := s.pinOther k p
  let s1 := (s.unmark k p).unmark k o
  let s2 := s1.each (List.range 8) (fun t q =>
    let l := t.ethQ p q
    let mv := l.filter (fun (c : EthCopy) => c.grp == some k)
    if mv.isEmpty then t
    else ((t.ethSettle o).setEthQ p q (l.filter (fun (c : EthCopy) => c.grp != some k))).setEthQ o q (t.ethQ o q ++ mv))
  let s3 : State := { s2 with esw := { s2.esw with survivor := s2.esw.survivor.put k (some o) } }
  ((((s3.set (ESW_PINCFG_REVERT k) 0).set (ESW_PINSTAT_REVPEND k) 0).inc (ESW_PINSTAT_FAILOVERS k)).raiseC 258 1 k).pinRefresh k

/-- A port that has left the up state, for its pin groups (R248). -/
def State.pinPortLeaves (s : State) (p : Nat) : State :=
  s.each (List.range 4) (fun t k =>
    if t.inPin k p then (if t.portUp (t.pinOther k p) then t.pinFail k p else t.pinRefresh k) else t)

/-- A port that has come up, for its pin groups. -/
def State.pinPortUp (s : State) (p : Nat) : State := s.each (List.range 4) (fun t k => if t.inPin k p then t.pinRefresh k else t)

/-- R249: a write of 1 to REVERT. Copies whose hash selects the returning port are marked; its queues wait for them. -/
def State.pinRevert (s : State) (k : Nat) : State :=
  let a := s.get (ESW_PINCFG_PORTA k)
  let b := s.get (ESW_PINCFG_PORTB k)
  if s.pinOn k && s.portUp a && s.portUp b then
    let s1 := match s.esw.survivor.get k with
      | none => s
      | some x =>
        let toB := x == a
        let t := s.each (List.range 8) (fun t q =>
          t.setEthQ x q ((t.ethQ x q).map (fun (c : EthCopy) => if c.grp = some k ∧ c.hash = toB then { c with rev := true } else c)))
        { t with esw := { t.esw with survivor := t.esw.survivor.del k } }
    ((s1.set (ESW_PINCFG_REVERT k) 1).set (ESW_PINSTAT_REVPEND k) 1).pinRefresh k
  else s.set (ESW_PINCFG_REVERT k) 0

/-- Whether queue `q` of port `p` waits for a revert (R249). -/
def State.revBlocks (s : State) (p q : Nat) : Bool :=
  (List.range 4).any (fun k => s.inPin k p && s.on (ESW_PINSTAT_REVPEND k) &&
    (s.ethQ (s.pinOther k p) q).any (fun (c : EthCopy) => c.rev && c.grp == some k))

/-! ### Link state (R229, R253, R254) -/

/-- R235: a frame that a port was sending has left it, or its sending ends: its cells are free. -/
def State.sendEnd (s : State) (p : Nat) : State :=
  match (s.ethTx p).sending with
  | some c => State.copyGone { s with esw := { s.esw with tx := s.esw.tx.upd p (fun x => { x with sending := none }) } } c
  | none => s

/-- R235: the frames that the ports have sent by now leave the buffer. -/
def State.ethEnds (s : State) : State :=
  s.each (List.range 22) (fun t p => if (t.ethTx p).endNs ≤ t.pow.elapsed then t.sendEnd p else t)

/-- A port that goes down from the up state: hold, event (cause 2, or 8 for a lost PLCA status; log entry 137), failover (R230, R253, R248). -/
def State.linkDown (s : State) (p : Nat) (cause : Nat := 2) : State :=
  let s0 := s.ethSettle p
  let s1 := ((s0.set (EPORT_PHYSTAT_LINK p) 0).set (EPORT_PHYSTAT_LOCK p) 0).set (EPORT_STAT_SPEED p) 0
  if s1.portUp p then
    let s2 : State := { s1 with esw := { s1.esw with tx := s1.esw.tx.upd p (fun x => { x with endNs := s1.pow.elapsed }) } }
    ((((s2.sendEnd p).set (EPORT_STAT_STATE p) 2).inc (EPORT_STAT_FLAPS p)).raiseC (232 + p) cause 0).pinPortLeaves p
  else s1

/-- R229, R253, R326: link up at a speed code: the port goes up where it is enabled. -/
def State.linkUp (s : State) (n speed : Nat) : State :=
  let s0 : State := { s with esw := { s.esw with fault := putBit s.esw.fault n false } }
  let s1 := (((s0.ethSettle n).set (EPORT_PHYSTAT_LINK n) 1).set (EPORT_PHYSTAT_LOCK n) 1).set (EPORT_STAT_SPEED n) speed
  let s2 := s1.wakeConfirm (if n < 12 then 24 + n else 64)
  if s2.on (EPORT_CFG_EN n) && !s2.portUp n then
    (((s2.set (EPORT_STAT_STATE n) 3).raiseC (232 + n) 1 0).pinPortUp n).ethSettle n
  else s2

/-- Whether a port's PHY can have a link: it is enabled, alive and not on the RC source (R230, R556, R576). -/
def State.phyLive (s : State) (n : Nat) : Bool := !s.gtb.rc && s.on (EPORT_PHYCFG_PHYEN n) && s.portLive n

/-- R230: a 10BASE-T1S port with PLCA off is up whenever it is enabled and its medium has no fault. -/
def State.csmaUp (s : State) (n : Nat) : State :=
  if decide (12 ≤ n) && decide (n < 16) && !s.on (EPORT_PLCA_EN n) && s.on (EPORT_CFG_EN n) && s.phyLive n && !bitOf s.esw.fault n && !s.portUp n then s.linkUp n 1
  else s

/-- A port whose EN clears: its queued frames are discarded at once (R254). -/
def State.portOff (s : State) (p : Nat) : State :=
  let up := s.portUp p
  let s1 := ((s.ethSettle p).flushPort p).set (EPORT_STAT_STATE p) 0
  let s2 : State := { s1 with esw := { s1.esw with wait := s1.esw.wait.del p } }
  if up then s2.pinPortLeaves p else s2

/-! ### Forwarding table (R240 to R246) -/

/-- The bucket of a key: VID in bits [59:48], address below (R242, R274). -/
def fdbBucket (key : Nat) : Nat := crc32 (toBytesBE 2 (key / 2 ^ 48 % 4096) ++ toBytesBE 6 (key % 2 ^ 48)) % 4096

/-- The fields of the data word of entry `i`, highest first. -/
def fdbData (i : Nat) : List Fld :=
  [ESW_FDBWINDATA_VALID i, ESW_FDBWINDATA_STATIC i, ESW_FDBWINDATA_DROP i, ESW_FDBWINDATA_PIN i, ESW_FDBWINDATA_PG i,
    ESW_FDBWINDATA_AGE i, ESW_FDBWINDATA_PORTS i]

/-- The fields of ESW_FDBDATA. -/
def fdbOut : List Fld :=
  [ESW_FDBDATA_VALID, ESW_FDBDATA_STATIC, ESW_FDBDATA_DROP, ESW_FDBDATA_PIN, ESW_FDBDATA_PG, ESW_FDBDATA_AGE, ESW_FDBDATA_PORTS]

/-- Every field of a list set from a register value by hardware. -/
def State.putFields (s : State) (fs : List Fld) (v : Nat) : State := s.each fs (fun t f => t.set f (v / 2 ^ f.lo))

/-- The key of entry `i`. -/
def State.fdbKey (s : State) (i : Nat) : Nat := s.get (ESW_FDBWINKEY_VID i) * 2 ^ 48 + s.get (ESW_FDBWINKEY_MAC i)

/-- The four entries of a key's bucket. -/
def fdbWays (key : Nat) : List Nat := (List.range 4).map (fun w => 4 * fdbBucket key + w)

/-- The valid entry of a key. -/
def State.fdbFind (s : State) (key : Nat) : Option Nat :=
  (fdbWays key).find? (fun i => s.on (ESW_FDBWINDATA_VALID i) && s.fdbKey i == key)

/-- The matching lookup cache line invalidated (R244). -/
def State.fdbInval (s : State) (key : Nat) : State := { s with esw := { s.esw with cache := s.esw.cache.filter (fun l => l.key != key) } }

/-- The count of valid entries after entry `i` changed from valid `old` to valid `new`. -/
def State.fdbUsed (s : State) (old new : Bool) : State := s.set ESW_FDBSTAT_USED (s.get ESW_FDBSTAT_USED + b2n new - b2n old)

/-- The mirror of a table change to half B of the twin (R270). -/
def State.fdbMirror (s : State) (i key data : Nat) : State :=
  if s.part = .twinA then s.emit (.link "MIRROR_FDB" [i, key, data]) else s

/-- Entry `i` written whole through the command path (R243, R244). -/
def State.fdbPut (s : State) (i key data : Nat) : State :=
  let s1 := (s.fdbInval (s.fdbKey i)).fdbInval key
  let s2 := ((s1.set (ESW_FDBWINKEY_VID i) (key / 2 ^ 48)).set (ESW_FDBWINKEY_MAC i) key).putFields (fdbData i) data
  (s2.fdbUsed (s.on (ESW_FDBWINDATA_VALID i)) (bitOf data 31)).fdbMirror i key data

/-- Entry `i` removed through the command path. -/
def State.fdbRemove (s : State) (i : Nat) : State :=
  let s1 := (s.fdbInval (s.fdbKey i)).set (ESW_FDBWINDATA_VALID i) 0
  (s1.fdbUsed (s.on (ESW_FDBWINDATA_VALID i)) false).fdbMirror i (s.fdbKey i) 0

/-- The free way of a bucket with the lowest number. -/
def State.fdbFree (s : State) (key : Nat) : Option Nat := (fdbWays key).find? (fun i => !s.on (ESW_FDBWINDATA_VALID i))

/-- The dynamic way of a bucket with the highest AGE, the lowest number among equals. -/
def State.fdbOldest (s : State) (key : Nat) : Option Nat :=
  ((fdbWays key).filter (fun i => !s.on (ESW_FDBWINDATA_STATIC i))).foldl (fun b i =>
    match b with
    | none => some i
    | some j => if s.get (ESW_FDBWINDATA_AGE j) < s.get (ESW_FDBWINDATA_AGE i) then some i else some j) none

/-- A command that fails: ERR, ERRC and source 254 cause 2 (R243, R271). -/
def State.fdbError (s : State) (c : Nat) : State := ((s.set ESW_FDBCMD_ERR 1).set ESW_FDBCMD_ERRC c).raiseC 254 2 c

/-- R243, R270: GO written with an operation; half A of a twin sends the command over the mirror link. -/
def State.fdbGo (s : State) (op : Nat) : State :=
  if s.esw.fdb.isSome then s.fdbError 4
  else
    let s1 := s.set ESW_FDBCMD_OP op
    if op = 0 ∨ 6 < op then (s1.set ESW_FDBCMD_GO 0).fdbError 3
    else
      let c : FdbOp :=
        { op := op, key := s1.get ESW_FDBKEY_VID * 2 ^ 48 + s1.get ESW_FDBKEY_MAC, data := s1.fieldsRead fdbOut, frame := s1.esw.nextId }
      let s2 : State := { s1 with esw := { s1.esw with fdb := some c } }
      (if s.part = .twinA then s2.emit (.link "MIRROR_FDBCMD" [op, c.key, c.data]) else s2).set ESW_FDBCMD_GO 1

/-- R243: the effect of a command of the table at its completion. -/
def State.fdbRun (s : State) (c : FdbOp) : State :=
  match c.op with
  | 1 => match s.fdbFind c.key with
    | some i => s.putFields fdbOut (s.fieldsRead (fdbData i))
    | none => s.fdbError 2
  | 2 => match s.fdbFind c.key with
    | some i => s.fdbPut i c.key c.data
    | none => match s.fdbFree c.key with
      | some i => s.fdbPut i c.key c.data
      | none => match s.fdbOldest c.key with
        | some i => s.fdbPut i c.key c.data
        | none => s.fdbError 1
  | 3 => match s.fdbFind c.key with
    | some i => s.fdbRemove i
    | none => s.fdbError 2
  | 4 =>
    let m := c.data % 2 ^ 22
    s.each (List.range 16384) (fun t i =>
      let ps := t.get (ESW_FDBWINDATA_PORTS i)
      if t.on (ESW_FDBWINDATA_VALID i) && (ps &&& m) == ps && (bitOf c.data 30 || !t.on (ESW_FDBWINDATA_STATIC i)) then t.fdbRemove i else t)
  | 5 => { s with esw := { s.esw with cache := [] } }
  | _ => s

/-- Whether a command can complete: FENCE waits for the frames whose lookup is older than GO and that wait at an internal port (R243). -/
def State.fdbReady (s : State) (c : FdbOp) : Bool :=
  c.op != 6 || (List.range 22).all (fun p => match s.esw.wait.get p with
    | some w => decide (c.frame ≤ w.id)
    | none => true)

/-- R239, R245: the lookup of a key, with the data word of its entry. A line held by a lookup cache for less than 10 ms may be found. -/
def State.fdbLookup (s : State) (key : Nat) : State × Option Nat :=
  let now := s.pow.elapsed
  let res := (s.fdbFind key).map (fun i => s.fieldsRead (fdbData i))
  let fill (t : State) : State :=
    { t with esw := { t.esw with cache := ({ key := key, res := res, filled := now } :: t.esw.cache.filter (fun l => l.key != key)).take 512 } }
  match s.esw.cache.find? (fun l => l.key == key && decide (now < l.filled + 10000000)) with
  | some l => if Config.cacheHit s.free then (s.draw, l.res) else (fill s.draw, res)
  | none => (fill s, res)

/-- The enabled pin group of a port. -/
def State.pinOf (s : State) (p : Nat) : Option Nat := (List.range 4).find? (fun k => s.inPin k p)

/-- R240: the source address of a frame learned toward its ingress port. -/
def State.ethLearn (s : State) (f : EthFrame) : State :=
  let unicast := !bitOf (f.sa / 2 ^ 40) 0
  if !(unicast && s.on (EPORT_CFG_LEARN f.port) && s.on (ESW_VLANM_LEARN f.vid)) then s
  else
    let key := f.vid * 2 ^ 48 + f.sa
    let dest := match s.pinOf f.port with
      | some k => 2 ^ 28 + k * 2 ^ 26 + 2 ^ f.port
      | none => 2 ^ f.port
    let word := 2 ^ 31 + dest
    match s.fdbFind key with
    | some i =>
      if s.on (ESW_FDBWINDATA_STATIC i) then s
      else
        let old := s.fieldsRead (fdbData i)
        let same := if bitOf dest 28 then bf old 26 3 == bf dest 26 3 else !bitOf old 28 && old % 2 ^ 22 == dest
        if same then s.fdbPut i key word
        else ((s.fdbPut i key word).inc ESW_FDBSTAT_MOVES).raiseSum 254 3 1
    | none => match s.fdbFree key with
      | some i => s.fdbPut i key word
      | none => (s.inc ESW_FDBSTAT_LRNFAIL).raiseSum 254 1 1

/-! ### Meters and recovery (R262, R264) -/

/-- The buckets of meter `m` filled up to now with the rates in force (R262): units of 10⁻⁶ bit. -/
def State.meterFill (s : State) (m : Nat) : EthMeter :=
  let x := s.esw.meters.get m
  let dt := s.pow.elapsed - x.upd
  let cbs := s.get (ESW_MTRBS_CBS m) * 512000000
  let ebs := s.get (ESW_MTRBS_EBS m) * 512000000
  let c := x.c + s.get (ESW_MTRCIR_CIR m) * dt
  let spill := if s.on (ESW_MTRCIR_CF m) then c - cbs else 0
  { c := min c cbs, e := min (x.e + s.get (ESW_MTREIR_EIR m) * dt + spill) ebs, upd := s.pow.elapsed }

/-- R263: a write to a register of meter `m` keeps the bucket levels, cut to the new sizes; `old` is the state before the write. -/
def State.meterChange (s old : State) (m : Nat) : State :=
  let x := old.meterFill m
  let y : EthMeter := { x with c := min x.c (s.get (ESW_MTRBS_CBS m) * 512000000), e := min x.e (s.get (ESW_MTRBS_EBS m) * 512000000) }
  { s with esw := { s.esw with meters := s.esw.meters.put m y } }

/-- The colour that meter `m` gives a frame of `len` bytes with colour `c` (R262). -/
def State.meterColour (s : State) (m len c : Nat) : State × Nat :=
  let x := s.meterFill m
  let n := len * 8000000
  let inC := if s.on (ESW_MTRCIR_CA m) then c else 0
  let r : EthMeter × Nat :=
    if inC = 0 ∧ n ≤ x.c then ({ x with c := x.c - n }, 0)
    else if inC ≤ 1 ∧ n ≤ x.e then ({ x with e := x.e - n }, 1)
    else (x, 2)
  ({ s with esw := { s.esw with meters := s.esw.meters.put m r.1 } }, r.2)

/-- R264: the vector recovery algorithm of IEEE 802.1CB. Answers 0 accepted, 1 duplicate, 2 outside the history. -/
def State.frerTake (s : State) (r seq : Nat) : State × Nat :=
  let x := s.esw.frer.get r
  let h := max (s.get (ESW_FRCTL_HIST r)) 1 + 1
  let put (t : State) (y : EthFrer) : State := { t with esw := { t.esw with frer := t.esw.frer.put r y } }
  if !x.started then ((put s { started := true, hist := 1 }).set (ESW_FRSTAT_SEQ r) seq, 0)
  else
    let up := (seq + 0x1_0000 - s.get (ESW_FRSTAT_SEQ r)) % 0x1_0000
    if up = 0 then (s, 1)
    else if up < 0x8000 then
      if h ≤ up then (s, 2)
      else ((put s { x with hist := (x.hist * 2 ^ up + 1) % 2 ^ h }).set (ESW_FRSTAT_SEQ r) seq, 0)
    else
      let back := 0x1_0000 - up
      if h ≤ back then (s, 2)
      else if bitOf x.hist back then (s, 1)
      else (put s { x with hist := x.hist + 2 ^ back }, 0)

/-! ### Sampling (R265 to R267) -/

/-- The 160 bytes of a sample record (R266). -/
def sampleBytes (f : EthFrame) (port : Nat) (tx : Bool) (fate mask count queue : Nat) (len : Nat) (head : List Nat) : List Nat :=
  toBytes 8 f.rx.ns
    ++ toBytes 4 (f.rx.frac % 256 * 2 ^ 24 + port * 2 ^ 19 + b2n tx * 2 ^ 18 + f.colour * 2 ^ 16 + len)
    ++ toBytes 4 (fate * 2 ^ 22 + mask) ++ toBytes 4 count ++ toBytes 4 (queue * 2 ^ 12 + f.vid) ++ List.replicate 8 0
    ++ head.take 128 ++ List.replicate (128 - head.length) 0

/-- R265: a frame counted by the sampler of a port, and sampled where its turn comes. -/
def State.sample (s : State) (p : Nat) (tx : Bool) (f : EthFrame) (fate mask queue len : Nat) (head : List Nat) : State :=
  if !(s.on (EPORT_SAMP_EN p) && bitOf (s.get (EPORT_SAMP_WHERE p)) (b2n tx)) then s
  else
    let n := (s.esw.sampled.get p + 1) % 2 ^ 32
    let s1 : State := { s with esw := { s.esw with sampled := s.esw.sampled.put p n } }
    let nm := s1.get (EPORT_SAMP_NM1 p) + 1
    let rand := s1.on (EPORT_SAMP_RAND p)
    let hit := if rand then decide ((Config.ethDraw s1.free).toNat * nm < 2 ^ 31) else n % nm == 0
    let s2 := if rand then s1.draw else s1
    if !(hit && s2.on ESW_SAMPCTL_EN) then s2
    else if 64 ≤ s2.esw.records.length then (s2.inc ESW_SAMPSTAT_LOST).raiseSum 260 1 1
    else { s2 with esw := { s2.esw with records := s2.esw.records ++ [sampleBytes f p tx fate mask n queue len head] } }

/-! ### Admission (R250, R251) -/

/-- R251: whether random early drop passes a frame of colour `c` into queue `q` of port `p`. -/
def State.redPass (s : State) (p q c : Nat) : State × Bool :=
  if !s.on (EPORT_Q_REDEN p q) then (s, true)
  else
    let r := s.get (EPORT_Q_REDP p q)
    let occ := s.get (EPORT_QSTAT_OCC p q)
    let lo := s.get (ESW_RED_MIN r c) * 8
    let hi := s.get (ESW_RED_MAX r c) * 8
    if occ < lo then (s, true)
    else if hi ≤ occ then (s, false)
    else (s.draw, !decide ((Config.ethDraw s.free).toNat * (256 * (hi - lo)) < (s.get (ESW_RED_PMAX r c) + 1) * (occ - lo) * 2 ^ 31))

/-- The outcome of the admission of one copy: 0 admitted, 1 port down, 2 queue limit, 3 random early drop, 4 no cells (R250, R253). -/
def State.admitOne (s : State) (f : EthFrame) (q p : Nat) : State × Nat :=
  let lim := s.get (EPORT_Q_QLIM p q)
  let free := s.get ESW_BUFSTAT_FREE
  if !(s.portUp p || s.get (EPORT_STAT_STATE p) == 2) then (s, 1)
  else if lim ≠ 0 ∧ lim * 8 < s.get (EPORT_QSTAT_OCC p q) + f.cells then (s, 2)
  else
    let r := s.redPass p q f.colour
    if !r.2 then (r.1, 3)
    else if free < f.cells ∨ (q < 7 ∧ free < f.cells + s.get ESW_CTL_Q7RES) then (r.1, 4)
    else (r.1, 0)

/-- The outcomes of the admission of a frame at its destinations, in order. -/
def State.admitAll (s : State) (f : EthFrame) (q : Nat) : List (Nat × Option Nat × Bool) → State × List (Nat × Option Nat × Bool × Nat)
  | [] => (s, [])
  | (p, g, h) :: r =>
    let x := s.admitOne f q p
    let y := State.admitAll x.1 f q r
    (y.1, (p, g, h, x.2) :: y.2)

/-- A refused copy counted (R250, R253, R274). -/
def State.refuseCopy (s : State) (p q why : Nat) : State :=
  match why with
  | 1 => s.inc (EPORT_DROP_DOWN p)
  | 2 => s.inc (EPORT_QDROP_ADMIT p q)
  | 3 => (s.inc (EPORT_QDROP_ADMIT p q)).inc ESW_DROP_RED
  | _ => (s.inc ESW_DROP_NOBUF).raiseSum 259 2 1

/-- A frame put into the queues that admit it, its cells taken once; answers the destination mask (R235, R250). -/
def State.enqueue (s : State) (id : Nat) (f : EthFrame) (q : Nat) (l : List (Nat × Option Nat × Bool × Nat)) : State × Nat :=
  let ok := l.filter (fun x => x.2.2.2 == 0)
  let s1 := s.each (l.filter (fun x => x.2.2.2 != 0)) (fun t x => t.refuseCopy x.1 q x.2.2.2)
  if ok.isEmpty then (s1, 0)
  else
    let s2 : State := { s1 with esw := { s1.esw with refs := s1.esw.refs.put id ok.length } }
    let s3 := s2.setFree (s2.get ESW_BUFSTAT_FREE - f.cells)
    (s3.each ok (fun t x => (t.ethSettle x.1).setEthQ x.1 q
      (t.ethQ x.1 q ++ [{ id := id, cells := f.cells, fr := f, grp := x.2.1, hash := x.2.2.1 }])),
      bitsFrom 22 (fun p => ok.any (fun x => x.1 == p)))

/-- Steps 8 and 9 of R237, with the sample of the received frame (R250, R240, R265). An internal port's frame that lacks cells everywhere waits; it carries the GTB of its
entry into the buffer (R233). -/
def State.ethFinish (s : State) (id : Nat) (f0 : EthFrame) (q : Nat) (dests : List (Nat × Option Nat × Bool)) (first : Bool) : State :=
  let f := if 18 ≤ f0.port then { f0 with rx := s.stamp } else f0
  let a := s.admitAll f q dests
  if 18 ≤ f.port ∧ a.2.all (fun x => x.2.2.2 == 4) then
    let s1 : State := { a.1 with esw := { a.1.esw with wait := a.1.esw.wait.put f.port (some { id := id, fr := f, queue := q, dests := dests }) } }
    if first then s1.raiseSum (232 + f.port) 10 1 else s1
  else
    let e := a.1.enqueue id f q a.2
    let s1 : State := { e.1 with esw := { e.1.esw with wait := e.1.esw.wait.del f.port } }
    let fate := if e.2 ≠ 0 then 0 else if a.2.all (fun x => x.2.2.2 == 1) then 9 else 8
    (s1.ethLearn f).sample f.port false f fate e.2 q f.len f.head

/-! ### The receive path (R237) -/

/-- A frame on its way through the steps of R237: the state, the frame, the fate that ends it (R266), its stream filter and the queue of its gate. -/
structure EthRun where
  s : State
  f : EthFrame
  fate : Nat := 0
  filt : Option Nat := none
  ipv : Option Nat := none

/-- A step of R237, taken where no earlier step has discarded the frame. -/
def EthRun.andThen (r : EthRun) (g : EthRun → EthRun) : EthRun := if r.fate = 0 then g r else r

/-- Whether a frame is one that passes MACsec unprotected (R234, R268). -/
def State.macClear (s : State) (p : Nat) (da etype : Nat) : Bool :=
  da / 16 == 0x0180C200000 && ((etype == 0x88F7 && s.on (EPORT_MSCFG_PTPCLR p)) || etype == 0x888E)

/-- A SecTAG (EtherType 0x88E5) as received: whether it is well formed, its SCI where included, its association number, the packet number it carries, whether the
data are encrypted, and where they begin (R268; the layout is that of IEEE 802.1AE, log entry 58). -/
structure SecTag where
  wellFormed : Bool
  sci : Option Nat
  an : Nat
  pn : Nat
  enc : Bool
  data : Nat
  deriving DecidableEq, Repr

/-- The SecTAG of a frame. -/
def secTag (xpn : Bool) (bs : List Nat) : Option SecTag :=
  if bs.getD 12 0 = 0x88 ∧ bs.getD 13 0 = 0xE5 then
    let t := bs.getD 14 0
    let sl := bs.getD 15 0
    let sc := bitOf t 5
    let h := if sc then 28 else 20
    let pn := ofBytesBE ((bs.drop 16).take 4)
    let n := bs.length - 20 - h
    some { wellFormed := !bitOf t 7 && !(sc && (bitOf t 6 || bitOf t 4)) && bitOf t 3 == bitOf t 2 && decide (sl < 48) && decide (h + 20 ≤ bs.length) &&
                         (sl == 0 || sl == n) && (xpn || pn != 0)
           sci := if sc then some (ofBytesBE ((bs.drop 20).take 8)) else none
           an := t % 4, pn := pn, enc := bitOf t 3, data := h }
  else none

/-- Whether the cipher suite of a port has extended packet numbers (R276). -/
def State.macXpn (s : State) (p : Nat) : Bool := decide (2 ≤ s.get (EPORT_MSCFG_CS p))

/-- The key of an SA: 16 or 32 bytes (R276). -/
def State.macKey (s : State) (p n : Nat) : List Nat :=
  let w := [EPORT_MSKEY0_W p n, EPORT_MSKEY1_W p n, EPORT_MSKEY2_W p n, EPORT_MSKEY3_W p n, EPORT_MSKEY4_W p n, EPORT_MSKEY5_W p n, EPORT_MSKEY6_W p n, EPORT_MSKEY7_W p n]
  (w.flatMap (fun f => toBytes 4 (s.get f))).take (if s.get (EPORT_MSCFG_CS p) % 2 = 1 then 32 else 16)

/-- The IV of a frame: SCI and PN, or salt added to SSCI and PN in the extended suites (R268, R276). -/
def State.macIv (s : State) (p n sci pn : Nat) : List Nat :=
  if s.macXpn p then
    xorBytes (([EPORT_MSSALT0_W p n, EPORT_MSSALT1_W p n, EPORT_MSSALT2_W p n]).flatMap (fun f => toBytes 4 (s.get f)))
      (toBytesBE 4 (s.get (EPORT_MSSSCI_SSCI p n)) ++ toBytesBE 8 pn)
  else toBytesBE 8 sci ++ toBytesBE 4 pn

/-- The confidentiality offset of a port (R276). -/
def State.macOffset (s : State) (p : Nat) : Nat := [0, 0, 30, 50].getD (s.get (EPORT_MSCFG_COFS p)) 0

/-- The whole packet number of a received frame, from the lowest acceptable one in the extended suites. -/
def macFullPn (xpn : Bool) (low pn : Nat) : Nat :=
  if !xpn then pn
  else if bitOf low 31 && !bitOf pn 31 then (low / 2 ^ 32 + 1) * 2 ^ 32 + pn
  else low / 2 ^ 32 * 2 ^ 32 + pn

/-- R268: the data of a protected frame and whether its ICV is right under SA `n`. -/
def State.macOpen (s : State) (p n sci pn : Nat) (t : SecTag) (bs : List Nat) : List Nat × Bool :=
  let key := s.macKey p n
  let iv := s.macIv p n sci pn
  let body := (bs.take (bs.length - 20)).drop t.data
  let off := if t.enc then s.macOffset p else body.length
  let icv := (bs.drop (bs.length - 20)).take 16
  (body.take off ++ gcmCrypt key iv (body.drop off), gcmTag key iv (bs.take t.data ++ body.take off) (body.drop off) == icv)

/-- A frame without its SecTAG and ICV, around data. -/
def macStrip (bs data : List Nat) : List Nat :=
  let b := bs.take 12 ++ data
  b ++ toBytes 4 (crc32 b)

/-- R268: the MACsec checks of a received frame: the frame as it goes on, without SecTAG and ICV; none where it is discarded. -/
def State.macRx (s : State) (p : Nat) (bs : List Nat) : State × Option (List Nat) :=
  if !(hasMacsec p && s.on (EPORT_MSCFG_EN p)) then (s, some bs)
  else
    let v := s.get (EPORT_MSCFG_VALIDATE p)
    match secTag (s.macXpn p) bs with
    | none =>
      let f := ethParse p { ns := 0 } bs
      (s, if s.macClear p f.da f.etype || decide (v < 2) then some bs else none)
    | some t =>
      if !t.wellFormed then (s.inc (EPORT_MSSTAT_BADTAG p), none)
      else
        let plain := if t.enc then none else some (macStrip bs ((bs.take (bs.length - 20)).drop t.data))
        let ch := (List.range 8).find? (fun c => match t.sci with
          | some x => s.get (EPORT_MSRXSCI_SCI p c) == x
          | none => s.on (EPORT_MSSA_EN p (4 + 4 * c + t.an)))
        let sa := ch.bind (fun c => if s.on (EPORT_MSSA_EN p (4 + 4 * c + t.an)) then some (c, 4 + 4 * c + t.an) else none)
        match sa with
        | none => (s.inc (EPORT_MSSTAT_NOSA p), if v < 2 then plain else none)
        | some (c, n) =>
          let low := s.get (EPORT_MSPN_PN p n)
          let pn := macFullPn (s.macXpn p) low t.pn
          let x := s.macOpen p n (s.get (EPORT_MSRXSCI_SCI p c)) pn t bs
          if v = 0 then (s, if t.enc then some (macStrip bs x.1) else plain)
          else if !x.2 then (s.inc (EPORT_MSSTAT_NOTVALID p), if v = 1 then plain else none)
          else if pn < low then (s.inc (EPORT_MSSTAT_LATE p), none)
          else (s.set (EPORT_MSPN_PN p n) (max low (pn + 1 - s.get (EPORT_MSCFG_RPWIN p))), some (macStrip bs x.1))

/-- Step 2 of R237: the VLAN of the frame and the ingress filter (R238). -/
def EthRun.vlan (tci : Option Nat) (r : EthRun) : EthRun :=
  let s := r.s
  let p := r.f.port
  let t := tci.getD 0
  let own := t % 4096 != 0
  let vid := if own then t % 4096 else s.get (EPORT_CFG_PVID p)
  let pcp := if own then t / 0x2000 else s.get (EPORT_CFG_PPRI p)
  let col := b2n (bitOf t 12 && s.on (EPORT_CFG_DEICOL p))
  let f := { r.f with vid := vid, pcp := pcp, colour := col }
  if vid = 0xFFF ∧ own then { r with f := f, fate := 2 }
  else if s.on (EPORT_CFG_INGFILT p) && !bitOf (s.get (ESW_VLANM_MEMBER vid)) p then
    { r with f := f, fate := 2, s := s.inc (EPORT_DROP_VLAN p) }
  else { r with f := f }

/-- Whether stream filter `i` matches a frame (R260). -/
def State.filterHit (s : State) (i : Nat) (f : EthFrame) : Bool :=
  let po := s.get (ESW_SFCTL_PORT i)
  s.on (ESW_SFKEY_EN i) && s.get (ESW_SFKEY_VID i) == f.vid
    && s.get (ESW_SFKEY_MAC i) == (if s.on (ESW_SFKEY_TYPE i) then f.sa else f.da) && (po == 31 || po == f.port)

/-- A frame discarded by its filter, gate or meter (R260). -/
def EthRun.drop (r : EthRun) (i fate : Nat) : EthRun := { r with fate := fate, s := r.s.inc (ESW_SFCNT_DROP i) }

/-- R260: the size limit and the block of filter `i`. -/
def EthRun.filtSize (i : Nat) (r : EthRun) : EthRun :=
  let s := r.s
  let m := s.get (ESW_SFCTL2_MAXSDU i)
  if m ≠ 0 ∧ m < r.f.len then
    let s1 := if s.on (ESW_SFCTL_OVBLK i) && !s.on (ESW_SFCTL_BLOCKED i) then (s.set (ESW_SFCTL_BLOCKED i) 1).raiseC 255 1 i else s
    { r with s := s1 }.drop i 3
  else if s.on (ESW_SFCTL_BLOCKED i) then r.drop i 3
  else r

/-- R261: the stream gate of filter `i`. -/
def EthRun.filtGate (i : Nat) (r : EthRun) : EthRun :=
  let s := r.s
  if !s.on (ESW_SFCTL_SGEN i) then r
  else
    let g := s.get (ESW_SFCTL_SG i)
    let e := if s.on (ESW_SGCTL_EN g) then gateAt (s.esw.sgates.get g) s.nowNs else 16
    if bitOf e 4 && !s.on (ESW_SGSTAT_INVRX g) then { r with ipv := if bitOf e 3 then some (e % 8) else none }
    else
      let s1 := s.inc (ESW_SGSTAT_CLOSED g)
      let s2 := if s1.on (ESW_SGCTL_CLOSEINV g) && !s1.on (ESW_SGSTAT_INVRX g) then (s1.set (ESW_SGSTAT_INVRX g) 1).raiseC 255 2 g else s1
      { r with s := s2 }.drop i 4

/-- R262: the meter of filter `i`. -/
def EthRun.filtMeter (i : Nat) (r : EthRun) : EthRun :=
  if !r.s.on (ESW_SFCTL_MTREN i) then r
  else
    let m := r.s.get (ESW_SFCTL_MTR i)
    let x := r.s.meterColour m r.f.len r.f.colour
    let r1 : EthRun := { r with s := x.1, f := { r.f with colour := x.2 } }
    if x.2 = 2 then
      let s2 := r1.s.inc (ESW_MTRCNT_RED m)
      if s2.on (ESW_MTRCIR_DROPR m) then { r1 with s := s2.raiseSum 256 1 1 }.drop i 5 else { r1 with s := s2 }
    else if x.2 = 1 then
      let s2 := r1.s.inc (ESW_MTRCNT_YELLOW m)
      if s2.on (ESW_MTRCIR_DROPY m) then { r1 with s := s2 }.drop i 5 else { r1 with s := s2 }
    else r1

/-- Step 3 of R237: the lowest-numbered matching filter with its gate and meter (R260 to R262). -/
def EthRun.stream (r : EthRun) : EthRun :=
  match (List.range 2048).find? (fun i => r.s.filterHit i r.f) with
  | none => r
  | some i =>
    let r1 : EthRun := { r with filt := some i, s := r.s.inc (ESW_SFCNT_MATCH i) }
    ((r1.andThen (EthRun.filtSize i)).andThen (EthRun.filtGate i)).andThen (EthRun.filtMeter i)

/-- The FRER function of the frame's filter, where it is enabled: generation or recovery (R264). -/
def EthRun.frer (r : EthRun) (gen : Bool) : Option Nat :=
  r.filt.bind (fun i =>
    let n := r.s.get (ESW_SFCTL2_FR i)
    if r.s.on (ESW_SFCTL2_FREN i) && r.s.on (ESW_FRCTL_EN n) && r.s.on (ESW_FRCTL_GEN n) == gen then some n else none)

/-- Step 4 of R237: FRER recovery (R264). -/
def EthRun.recover (r : EthRun) : EthRun :=
  match r.frer false, r.f.rtag with
  | some n, some q =>
    let x := r.s.frerTake n q
    let r1 : EthRun := { r with s := x.1, f := r.f.untag }
    if x.2 = 1 then { r1 with fate := 6, s := r1.s.inc (ESW_FRDUP_DUP n) }
    else if x.2 = 2 then { r1 with fate := 6, s := (r1.s.inc (ESW_FRSTAT_ROGUE n)).raiseSum 257 1 1 }
    else r1
  | _, _ => r

/-- Step 6 of R237: FRER sequence generation (R264). -/
def EthRun.generate (r : EthRun) : EthRun :=
  match r.frer true with
  | some n => { r with f := r.f.tag (r.s.get (ESW_FRSTAT_SEQ n)), s := r.s.addWrap (ESW_FRSTAT_SEQ n) 1 }
  | none => r

/-- A destination set with every enabled pin group that it touches as one destination, its path for the frame (R239). -/
def State.pinSet (s : State) (f : EthFrame) (m : Nat) : List (Nat × Option Nat × Bool) :=
  let gs := (List.range 4).filter (fun k => s.pinOn k &&
    (bitOf m (s.get (ESW_PINCFG_PORTA k)) || bitOf m (s.get (ESW_PINCFG_PORTB k))))
  let plain := (bitsOf m 22).filter (fun p => !gs.any (fun k => s.inPin k p))
  plain.map (fun p => (p, none, false)) ++ gs.map (fun k => (s.pinPath k (s.pinHash k f), some k, s.pinHash k f))

/-- Step 5 of R237: the destinations (R234, R239). -/
def State.ethDests (s : State) (f : EthFrame) : State × List (Nat × Option Nat × Bool) :=
  let live (p : Nat) : Bool := p != f.port && s.on (EPORT_CFG_EN p) && (decide (18 ≤ p) || !s.unusable (140 + p))
  if f.da / 16 = 0x0180C200000 then (s, if live 18 then [(18, none, false)] else [])
  else
    let x := s.fdbLookup (f.vid * 2 ^ 48 + f.da)
    let mem := s.get (ESW_VLANM_MEMBER f.vid)
    let l := match x.2 with
      | some w =>
        if bitOf w 29 then []
        else if bitOf w 28 then
          let k := bf w 26 2
          if s.pinOn k then [(s.pinPath k (s.pinHash k f), some k, s.pinHash k f)]
          else (bitsOf (w % 2 ^ 22) 22).map (fun p => (p, none, false))
        else (bitsOf (w % 2 ^ 22) 22).map (fun p => (p, none, false))
      | none => s.pinSet f mem
    (x.1, l.filter (fun d => bitOf mem d.1 && live d.1))

/-- R314: whether a frame is one of the Carousel, to or from the CRS block. -/
def State.isCarousel (s : State) (f : EthFrame) : Bool := f.etype == 0x88B5 && (f.da == s.get CRS_LMAC_MAC || f.da == s.get CRS_BBMAC_MAC)

/-- R232: a receive stamp of port `p`, corrected on ports 16 and 17. -/
def State.rxStamp (s : State) (p : Nat) (t : Stamp) : Stamp :=
  if p = 16 ∨ p = 17 then { t with ns := t.ns - s.get (EPORT_TSLAT_RX p) } else t

/-- Steps 2 to 9 of R237, for a frame of good FCS and length that MACsec has let through. A frame for the gPTP time engine goes to it as a command of chapter 2 (R234). -/
def State.ethRoute (s : State) (p : Nat) (at_ : Stamp) (bs : List Nat) : State :=
  let r0 : EthRun := { s := s, f := ethParse p at_ bs }
  let r := ((r0.andThen (EthRun.vlan (ethTci bs))).andThen EthRun.stream).andThen EthRun.recover
  if r.fate ≠ 0 then r.s.sample p false r.f r.fate 0 0 r.f.len r.f.head
  else if r.f.da = 0x0180C200000E ∧ r.f.etype = 0x88F7 then (r.s.ethLearn r.f).sample p false r.f 0 0 0 r.f.len r.f.head
  else
    let d := r.s.ethDests r.f
    if d.2.isEmpty then d.1.sample p false r.f 7 0 0 r.f.len r.f.head
    else
      let g := { r with s := d.1 }.generate
      -- the frames of the Carousel go through queue 7 (R314, log entry 141)
      let ring := g.s.isCarousel g.f && (p == 19 || d.2.any (fun x => x.1 == 19))
      let q := if ring then 7 else match g.ipv with
        | some v => v
        | none => bf (g.s.get (EPORT_PCPMAP_MAP p)) (3 * g.f.pcp) 3
      let s1 : State := { g.s with esw := { g.s.esw with nextId := g.s.esw.nextId + 1 } }
      s1.ethFinish g.s.esw.nextId g.f q d.2 true

/-- R237: a frame received whole at a port. On ports 12 to 15 one without an FCS error confirms a wake, whatever its length (R325). -/
def State.ethReceive (s : State) (p : Nat) (rx : EthRx) : State :=
  let bs := rx.bytes.map (· % 256)
  let s0 := s.addSat (EPORT_PHYSTAT_SYMERR p) rx.symErr
  if !fcsOk bs then (s0.inc (EPORT_DROP_FCS p)).addWrap (EPORT_RXBAD_CNT p) 1
  else
    let s1 := if 12 ≤ p ∧ p < 16 then s0.wakeConfirm (24 + p) else s0
    if bs.length < 64 ∨ s1.maxLen p < bs.length then (s1.inc (EPORT_DROP_LEN p)).addWrap (EPORT_RXBAD_CNT p) 1
    else
      let m := ((s1.addWrap (EPORT_RXFRM_CNT p) 1).addWrap (EPORT_RXOCT_CNT p) bs.length).macRx p bs
      match m.2 with
      | none => m.1
      | some inner =>
        if !m.1.on ESW_CTL_EN || m.1.standby then m.1
        else m.1.ethRoute p (if 18 ≤ p then s.stamp else s.rxStamp p rx.at_) inner

/-! ### The transmit path (R252, R255, R257, R269) -/

/-- The cycle of a list, each entry with its length within the cycle; the last entry reached holds to the cycle end (R255). -/
def gateCut : List (Nat × Nat) → Nat → List (Nat × Nat)
  | [], _ => []
  | [(g, _)], n => [(g, n)]
  | (g, m) :: r, n => if n ≤ m then [(g, n)] else (g, m) :: gateCut r (n - m)

/-- The cycle of a gate list. -/
def GateList.cycle (g : GateList) : List (Nat × Nat) := gateCut g.entries (if g.cyc = 0 then gateSum g.entries else g.cyc)

/-- The rest of a cycle from offset `t` on. -/
def gateFrom : List (Nat × Nat) → Nat → List (Nat × Nat)
  | [], _ => []
  | (g, n) :: r, t => if t < n then (g, n - t) :: r else gateFrom r (t - n)

/-- The time that queue `q` stays open at the start of a run of entries. -/
def openLead (q : Nat) : List (Nat × Nat) → Nat
  | [] => 0
  | (g, n) :: r => if bitOf g q then n + openLead q r else 0

/-- The longest open run of queue `q` in a run of entries. -/
def openLongest (q : Nat) : List (Nat × Nat) → Nat
  | [] => 0
  | (g, n) :: r => max (openLead q ((g, n) :: r)) (openLongest q r)

/-- Whether queue `q` of a list stays open for `dur` ns from `now` on (R257). -/
def GateList.opensFor (g : GateList) (q now dur : Nat) : Bool :=
  let c := g.cycle
  let t := if now < g.base ∨ gateSum c = 0 then 0 else (now - g.base) % gateSum c
  c.all (fun e => bitOf e.1 q) || decide (dur ≤ openLead q (gateFrom c t ++ c))

/-- Whether a frame of `dur` ns on queue `q` of port `p` leaves before the gate closes, a pending change included (R257). -/
def State.gateFits (s : State) (p q dur : Nat) : Bool :=
  if !s.on (EPORT_GCLCTL_EN p) then true
  else
    let g := s.esw.gates.get p
    match g.ct with
    | some ct =>
      if ct < s.nowNs + dur then
        let n : GateList := { base := s.get (EPORT_GCLBASE_BASE p), cyc := s.get (EPORT_GCLCYC_CYC p), entries := s.gclEntries p }
        g.opensFor q s.nowNs (ct - s.nowNs) && n.opensFor q ct (s.nowNs + dur - ct)
      else g.opensFor q s.nowNs dur
    | none => g.opensFor q s.nowNs dur

/-- Whether a frame of `dur` ns is longer than every open interval of queue `q` (R257). -/
def State.gateTooLong (s : State) (p q dur : Nat) : Bool :=
  let c := (s.esw.gates.get p).cycle
  s.on (EPORT_GCLCTL_EN p) && !c.all (fun e => bitOf e.1 q) && decide (openLongest q (c ++ c) < dur)

/-- The age limit of a queue in ns; 0 for none (R252). -/
def State.ageLimit (s : State) (p q : Nat) : Nat :=
  min (s.get (EPORT_Q_AGE p q)) 1000 * (if s.get (EPORT_Q_UNIT p q) = 0 then 1000 else 1000000)

/-- The time in ns that `n` bytes take on a port, preamble included (R236). -/
def State.txNs (s : State) (p n : Nat) : Nat :=
  let r := s.portRate p
  if r = 0 then 0 else ((n + 8) * 8000 + r - 1) / r

/-- Whether a frame leaves port `p` under MACsec (R268). -/
def State.macGuards (s : State) (p : Nat) (f : EthFrame) : Bool := hasMacsec p && s.on (EPORT_MSCFG_EN p) && !s.macClear p f.da f.etype

/-- The length of a frame on the line of port `p`, SecTAG and ICV included (R257). -/
def State.wireLen (s : State) (p : Nat) (f : EthFrame) : Nat :=
  (s.ethBytes p f).length + (if s.macGuards p f then (if s.on (EPORT_MSCFG_SCIINC p) then 32 else 24) else 0)

/-- What the head of queue `q` does: 0 sends, 1 is discarded as aged, 2 as too long; none where it waits (R252, R255, R257). -/
def State.headAct (s : State) (p q : Nat) : Option (Nat × Nat) :=
  match s.ethQ p q with
  | [] => none
  | c :: _ =>
    let dur := s.txNs p (s.wireLen p c.fr)
    let lim := s.ageLimit p q
    if p < 18 ∧ s.gateTooLong p q dur then some (q, 2)
    else if s.revBlocks p q then none
    else if p < 18 ∧ !bitOf (s.portGates p) q then none
    else if p < 18 ∧ s.on (EPORT_QCBS_EN p q) ∧ (s.ethTx p).credit.get q < 0 then none
    else if p < 18 ∧ !s.gateFits p q dur then none
    else if lim ≠ 0 ∧ c.fr.rx.ns + lim < s.nowNs then some (q, 1)
    else some (q, 0)

/-- R269: the SA of a port's next frame; none where no SA is usable. -/
def State.macTx (s : State) (p : Nat) : Option Nat :=
  let a := s.get (EPORT_MSCFG_TXAN p)
  if s.on (EPORT_MSSA_EN p a) && !s.on (EPORT_MSSA_EXH p a) then some a else none

/-- R268: a frame as it leaves under SA `a`: SecTAG, data and ICV. -/
def State.macProtect (s : State) (p a : Nat) (bs : List Nat) : List Nat :=
  let b := bs.take (bs.length - 4)
  let data := b.drop 12
  let pn := s.get (EPORT_MSPN_PN p a)
  let enc := s.get (EPORT_MSCFG_COFS p) != 0
  let inc := s.on (EPORT_MSCFG_SCIINC p)
  let tag := [0x88, 0xE5, a + (if inc then 0x20 else 0) + (if enc then 0xC else 0), if data.length < 48 then data.length else 0] ++ toBytesBE 4 pn ++
    (if inc then toBytesBE 8 (s.get (EPORT_MSTXSCI_SCI p)) else [])
  let key := s.macKey p a
  let iv := s.macIv p a (s.get (EPORT_MSTXSCI_SCI p)) pn
  let off := if enc then s.macOffset p else data.length
  let head := b.take 12 ++ tag ++ data.take off
  let ct := gcmCrypt key iv (data.drop off)
  let out := head ++ ct ++ gcmTag key iv head ct
  out ++ toBytes 4 (crc32 out)

/-- R269: one frame protected under SA `a`: the PN advanced, its threshold and its end reported. -/
def State.macSend (s : State) (p a : Nat) : State :=
  let pn := s.get (EPORT_MSPN_PN p a)
  let xpn := s.macXpn p
  let thr := if xpn then 2 ^ 62 else 0xC000_0000
  let last := if xpn then 2 ^ 64 - 1 else 2 ^ 32 - 1
  if last ≤ pn then (s.set (EPORT_MSSA_EXH p a) 1).raiseC (232 + p) 7 a
  else
    let s2 := s.set (EPORT_MSPN_PN p a) (pn + 1)
    if pn + 1 = thr + 1 then s2.raiseC (232 + p) 6 a else s2

/-- The head of queue `q` of port `p` taken from its queue. -/
def State.popQ (s : State) (p q : Nat) : State := s.setEthQ p q (s.ethQ p q).tail

/-! ### The messages of the time engine (R46, R234) -/

/-- The length of a message of the time engine behind its EtherType (IEEE 802.1AS; log entry 135). -/
def ptpLen (k : PtpKind) : Nat :=
  match k with
  | .sync => 44
  | .followUp => 76
  | _ => 54

/-- The number of a kind of message. -/
def ptpNum (k : PtpKind) : Nat :=
  match k with
  | .sync => 0
  | .pdelayReq => 2
  | .pdelayResp => 3
  | .followUp => 8
  | .pdelayRespFollowUp => 10

/-- The frame of a message of the time engine on port `p`. -/
def ptpFrame (p : Nat) (m : PtpMsg) (at_ : Stamp) : EthFrame :=
  let body := (List.range (ptpLen m.kind)).map (fun i => (Config.ptpBody (ptpNum m.kind) m.dom m.seq m.time m.corr i).toNat)
  let rest := [0x88, 0xF7] ++ body
  { da := 0x0180C200000E, sa := (Config.portMac p).toNat, pcp := 7, rest := rest, len := max 64 (rest.length + 16), rx := at_, port := 22, ptp := some m }

/-- R234: a message of the time engine placed in queue 7 of a port, under the admission of R250. -/
def State.ptpSend (s : State) (p : Nat) (m : PtpMsg) : State :=
  let f := ptpFrame p m s.stamp
  let s1 : State := { s with esw := { s.esw with nextId := s.esw.nextId + 1 } }
  let a := s1.admitAll f 7 [(p, none, false)]
  (a.1.enqueue s.esw.nextId f 7 a.2).1

/-- R46, R234: what follows the transmission of a message at stamp `t`: the Follow_Up of a Sync with the time of its transmission, or the correction of a relayed one;
the time of a peer delay request kept; the follow-up of a response. -/
def State.ptpSent (s : State) (p : Nat) (m : PtpMsg) (t : Stamp) : State :=
  match m.kind with
  | .sync =>
    match m.since with
    | none => s.ptpSend p { kind := .followUp, dom := m.dom, seq := m.seq, time := t.ns, corr := (t.frac * 256 : Nat) }
    | some b =>
      let held : Int := ((t.ns : Int) - b) * 65536
      s.ptpSend p { kind := .followUp, dom := m.dom, seq := m.seq, time := m.time, corr := m.corr + held * (2 ^ 32 + s.getS (GTB_DRATIO_RATIO m.dom)) / 2 ^ 32 }
  | .pdelayReq => { s with gtb := { s.gtb with ports := s.gtb.ports.upd p (fun x => { x with t1 := t.ns }) } }
  | .pdelayResp => s.ptpSend p { kind := .pdelayRespFollowUp, seq := m.seq, time := t.ns }
  | .followUp => s
  | .pdelayRespFollowUp => s

/-- R231, R232: the transmit stamp of a frame that starts now on port `p`. -/
def State.txStamp (s : State) (p : Nat) : Stamp :=
  let t := s.exact
  if p = 16 ∨ p = 17 then { t with ns := t.ns + s.get (EPORT_TSLAT_TX p) } else t

/-- What a frame that starts on a port does behind it: bytes on the line, or back to the port itself where its PHY is looped (R276), a message of the time engine by
its fields. -/
def State.ethOut (s : State) (p : Nat) (f : EthFrame) (bs : List Nat) (t : Stamp) : State :=
  if decide (p < 18) && s.on (EPORT_PHYCFG_LPBK p) then { s with esw := { s.esw with looped := s.esw.looped ++ [(p, bs)] } }
  else match f.ptp with
    | some m => (s.emit (.ptp p m)).ptpSent p m t
    | none => s.emit (.eth p bs)

/-- A frame that starts on port `p`; its cells stay taken until its end (R235, R255, R265, R269). -/
def State.ethStart (s : State) (p q : Nat) (c : EthCopy) : State :=
  let plain := s.ethBytes p c.fr
  let x : State × List Nat := if s.macGuards p c.fr then
      (match s.macTx p with
        | some a => (s.macSend p a, s.macProtect p a plain)
        | none => (s, plain))
    else (s, plain)
  let bs := x.2
  let s2 := ((x.1.popQ p q).addWrap (EPORT_TXFRM_CNT p) 1).addWrap (EPORT_TXOCT_CNT p) bs.length
  let now := s2.pow.elapsed
  let t := s2.txStamp p
  let s3 : State := { s2 with esw := { s2.esw with tx := s2.esw.tx.upd p (fun y =>
    { y with queue := q, start := now, endNs := now + s2.txNs p bs.length, stamp := t, sending := some c }) } }
  let s4 : State := if p = 18 ∨ p = 19 then { s3 with esw := { s3.esw with core := s3.esw.core ++ [(p - 18, q, c.fr)] } }
    else if p = 20 then { s3 with gw := { s3.gw with inbox := s3.gw.inbox ++ [(q, bs)] } } else s3
  (s4.sample p true c.fr 0 (2 ^ p) q bs.length plain).ethOut p c.fr bs t

/-- Whether the MACsec of a port lets the head of queue `q` go. -/
def State.macFree (s : State) (p q : Nat) : Bool :=
  !(hasMacsec p && s.on (EPORT_MSCFG_EN p)) || (s.macTx p).isSome || (match s.ethQ p q with
    | c :: _ => s.macClear p c.fr.da c.fr.etype
    | [] => true)

/-- R255: the port starts its next frame, discarding the aged and the too long ones it comes to; `n` bounds the frames looked at, and `ready` tells
whether the receiver behind the port takes a frame of a queue (R340). -/
def State.ethSend (ready : State → Nat → Bool) : Nat → State → Nat → State
  | 0, s, _ => s
  | n + 1, s, p =>
    match [7, 6, 5, 4, 3, 2, 1, 0].findSome? (fun q => if s.macFree p q && ready s q then s.headAct p q else none) with
    | none => s
    | some (q, act) =>
      match s.ethQ p q with
      | [] => s
      | c :: _ =>
        if act = 0 then s.ethStart p q c
        else if act = 1 then
          State.ethSend ready n (((((s.popQ p q).copyGone c).inc (EPORT_QDROP_AGE p q)).inc ESW_DROP_AGE).raiseSum (232 + p) 9 1) p
        else State.ethSend ready n (((s.popQ p q).copyGone c).inc (EPORT_QDROP_TOOLONG p q)) p

/-! ### The commands of the ports -/

/-- R230, R253: a port's link failure is declared; an up port enters its hold. -/
def execPortLinkDown (p : Fin 18) (s : State) : Host.Outcome State Fault Refusal :=
  if !hasPort s.part p then done s else
  done (State.linkDown { s with esw := { s.esw with fault := putBit s.esw.fault p true } } p)

/-- R229, R253, R326: a port declares link up. The RC source keeps the links down (R230), and PHYEN waits for calibration and test (R556, R576). -/
def execPortLinkUp (p : Fin 18) (speed sqi : Nat) (s : State) : Host.Outcome State Fault Refusal :=
  if !hasPort s.part p then done s else
  if !s.phyLive p then done s
  else
    let n := p.val
    let sp := if n < 2 then [6, 5, 4, 6, 6, 6, 6, 6].getD (s.get (EPORT_PHYCFG_RATE n)) 6
      else if n < 8 then 3 else if n < 12 then 2 else if n < 16 then 1 else if 2 ≤ speed ∧ speed ≤ 6 then speed else 6
    done ((s.set (EPORT_PHYSTAT_SQI n) sqi).linkUp n sp)

/-- R253: the hold expires before link-up; every queued frame is flushed. -/
def execPortHoldExpiry (p : Fin 18) (s : State) : Host.Outcome State Fault Refusal :=
  if !hasPort s.part p then done s else
  if s.get (EPORT_STAT_STATE p) = 2 then done (((s.flushPort p).set (EPORT_STAT_STATE p) 1).raiseC (232 + p.val) 3 0) else done s

/-- R254: EPORT_CFG.EN is cleared. -/
def execPortDisable (p : Fin 22) (s : State) : Host.Outcome State Fault Refusal :=
  if !(decide (18 ≤ p.val) || hasPort s.part p) then done s else
  let s1 := s.set (EPORT_CFG_EN p) 0
  done ((s1.mirrored (a_EPORT_CFG p) (s1.regNow (a_EPORT_CFG p))).portOff p)

/-- R230: a follower has seen no beacon for 4 ms. -/
def execPlcaBeaconTimeout (p : Fin 4) (s : State) : Host.Outcome State Fault Refusal :=
  if !hasPort s.part (12 + p) then done s else
  let n := 12 + p.val
  let id := s.get (EPORT_PLCA_NODEID n)
  if s.on (EPORT_PLCA_EN n) && id != 0 && id != 255 && s.on (EPORT_PHYSTAT_LINK n) then done (s.linkDown n 8) else done s

/-- R230: a PLCA cycle begins: the coordinator sends its beacon; a follower whose link is down declares link up. -/
def execPlcaBeacon (p : Fin 4) (s : State) : Host.Outcome State Fault Refusal :=
  if !hasPort s.part (12 + p) then done s else
  let n := 12 + p.val
  let id := s.get (EPORT_PLCA_NODEID n)
  if !(s.on (EPORT_PLCA_EN n) && s.on (EPORT_CFG_EN n) && s.phyLive n) then done s
  else if id = 0 then done (s.emit (.link "PLCA_BEACON" [n, s.get (EPORT_PLCA_NCNT n), s.get (EPORT_PLCA_TO n)]))
  else if id = 255 || s.portUp n then done s
  else done (s.linkUp n 1)

/-- R255: the operating gate list of a port moves to its next entry. -/
def execGateEntryAdvance (p : Fin 18) (s : State) : Host.Outcome State Fault Refusal :=
  if !hasPort s.part p then done s else
  done (s.ethSettle p)

/-- R256: a write of 1 to EPORT_GCLCTL.CHANGE. -/
def execGclChangeWrite (p : Fin 18) (s : State) : Host.Outcome State Fault Refusal :=
  if !hasPort s.part p then done s else
  if s.on (EPORT_GCLCTL_CHANGE p) then done s
  else done ((s.mirrored (a_EPORT_GCLCTL p) (s.regNow (a_EPORT_GCLCTL p) + 2 ^ 30)).gateChange p)

/-- R256: the change time of a port's list. -/
def execGateListChange (p : Fin 18) (s : State) : Host.Outcome State Fault Refusal :=
  if !hasPort s.part p then done s else
  done ((s.ethSettle p).gateApply p |>.ethSettle p)

/-- R261: a write of 1 to ESW_SGCTL.CHANGE. -/
def execStreamGateChangeWrite (g : Fin 64) (s : State) : Host.Outcome State Fault Refusal :=
  if s.on (ESW_SGCTL_CHANGE g) then done s
  else done ((s.mirrored (a_ESW_SGCTL g) (s.regNow (a_ESW_SGCTL g) + 2 ^ 30)).sgateChange g)

/-- R261: the change time of a stream gate list. -/
def execStreamGateListChange (g : Fin 64) (s : State) : Host.Outcome State Fault Refusal := done (s.sgateApply g)

/-- R261: a stream gate list moves to its next entry. The entry in force is that of the GTB, so nothing is stored. -/
def execStreamGateEntryAdvance (_g : Fin 64) (s : State) : Host.Outcome State Fault Refusal := done s

/-! ### The commands of the forwarding table, the pin groups, FRER and the sample path -/

/-- R243: READ is started. -/
def execFdbRead (s : State) : Host.Outcome State Fault Refusal := done (s.fdbGo 1)

/-- R243: WRITE is started. -/
def execFdbWrite (s : State) : Host.Outcome State Fault Refusal := done (s.fdbGo 2)

/-- R243: DELETE is started. -/
def execFdbDelete (s : State) : Host.Outcome State Fault Refusal := done (s.fdbGo 3)

/-- R243: FLUSH is started. -/
def execFdbFlush (s : State) : Host.Outcome State Fault Refusal := done (s.fdbGo 4)

/-- R243: INVCACHE is started. -/
def execFdbInvcache (s : State) : Host.Outcome State Fault Refusal := done (s.fdbGo 5)

/-- R243: FENCE is started. -/
def execFdbFence (s : State) : Host.Outcome State Fault Refusal := done (s.fdbGo 6)

/-- R243, R244: the command completes and GO reads 0. -/
def execFdbCommandComplete (s : State) : Host.Outcome State Fault Refusal :=
  match s.esw.fdb with
  | none => done s
  | some c =>
    if s.fdbReady c then
      let s1 := s.fdbRun c
      let s2 : State := { s1 with esw := { s1.esw with fdb := none } }
      done (s2.set ESW_FDBCMD_GO 0)
    else done s

/-- R245: a write to word 0, 1 or 2 of an entry. -/
def State.fdbWindow (s : State) (i w v : Nat) : State :=
  let old := s.on (ESW_FDBWINDATA_VALID i)
  if w = 2 then (s.putFields (fdbData i) v).fdbUsed old (bitOf v 31)
  else
    let s1 := (s.set (ESW_FDBWINDATA_VALID i) 0).fdbUsed old false
    if w = 0 then { s1 with held := s1.held.put (a_ESW_FDBWINKEY i) (some (v % 2 ^ 32)) }
    else
      let low := (s1.held.get (a_ESW_FDBWINKEY i)).getD (s1.get (ESW_FDBWINKEY_MAC i) % 2 ^ 32)
      let s2 : State := { s1 with held := s1.held.del (a_ESW_FDBWINKEY i) }
      (s2.set (ESW_FDBWINKEY_MAC i) (low + v % 2 ^ 16 * 2 ^ 32)).set (ESW_FDBWINKEY_VID i) (v / 2 ^ 16)

/-- R245: a write to a word of the forwarding-table window. -/
def execFdbWindowWrite (i : Fin 16384) (w : Fin 3) (v : Nat) (s : State) : Host.Outcome State Fault Refusal :=
  done ((s.mirrored (0x4301_0000 + 0x10 * i + 4 * w) v).fdbWindow i w v)

/-- R245: the lookup cache line of a key expires. -/
def execFdbCacheExpiry (key : Nat) (s : State) : Host.Outcome State Fault Refusal :=
  done { s with esw := { s.esw with cache := s.esw.cache.filter (fun l => l.key != key || decide (s.pow.elapsed < l.filled + 10000000)) } }

/-- R241: one ageing sweep, AGETIME / 8 s after the one before; the ninth sweep without a refresh removes a dynamic entry (log entry 16). -/
def execFdbAgeSweep (s : State) : Host.Outcome State Fault Refusal :=
  if s.get ESW_FDBCFG_AGETIME = 0 then done s
  else
    done (s.each (List.range 16384) (fun t i =>
      if t.on (ESW_FDBWINDATA_VALID i) && !t.on (ESW_FDBWINDATA_STATIC i) then
        (if 8 ≤ t.get (ESW_FDBWINDATA_AGE i) then t.fdbRemove i else t.inc (ESW_FDBWINDATA_AGE i))
      else t))

/-- R249: a write of 1 to ESW_PINCFG.REVERT. -/
def execPinRevert (k : Fin 4) (s : State) : Host.Outcome State Fault Refusal :=
  done ((s.mirrored (a_ESW_PINCFG k) (s.regNow (a_ESW_PINCFG k) / 2 ^ 31 * 2 ^ 31 + 2 ^ 30 + s.regNow (a_ESW_PINCFG k) % 2 ^ 10)).pinRevert k)

/-- R249: a revert is complete when no copy that its queues wait for is left. -/
def execPinRevertComplete (k : Fin 4) (s : State) : Host.Outcome State Fault Refusal :=
  let waits (p : Nat) : Bool := (List.range 8).any (fun q => (s.ethQ p q).any (fun (c : EthCopy) => c.rev && c.grp == some k.val))
  if s.on (ESW_PINSTAT_REVPEND k) && !waits (s.get (ESW_PINCFG_PORTA k)) && !waits (s.get (ESW_PINCFG_PORTB k)) then
    done (((s.set (ESW_PINCFG_REVERT k) 0).set (ESW_PINSTAT_REVPEND k) 0).raiseC 258 2 k)
  else done s

/-- R264: a recovery function without a frame for RESETMS ms resets. -/
def execFrerRecoveryReset (r : Fin 512) (s : State) : Host.Outcome State Fault Refusal :=
  if s.on (ESW_FRCTL_EN r) && !s.on (ESW_FRCTL_GEN r) && (s.esw.frer.get r).started then
    let s1 : State := { s with esw := { s.esw with frer := s.esw.frer.del r } }
    done (s1.raiseC 257 2 r)
  else done s

/-- R266, R267: the oldest sample record is written into the ring. -/
def execSampleRecordWrite (parity : Bool) (s : State) : Host.Outcome State Fault Refusal :=
  match s.esw.records with
  | [] => done s
  | b :: rest =>
    let z := s.get ESW_SAMPCTL_SIZE
    let n := 2 ^ (if 4 ≤ z ∧ z ≤ 16 then z else 4)
    let wr := s.get ESW_SAMPWR_WR % n
    let full := ringNext wr n == s.get ESW_SAMPRD_RD % n
    if !s.on ESW_SAMPCTL_EN || (full && !s.on ESW_SAMPCTL_MODE) then done s
    else
      match s.fabWrite 31 (s.get ESW_SAMPBASE_BASE * 4096 + 160 * wr) b parity with
      | (s1, false) => done ((s1.set ESW_SAMPCTL_EN 0).raiseC 260 2 0)
      | (s1, true) =>
        let s2 : State := { s1 with esw := { s1.esw with records := rest } }
        done ((s2.set ESW_SAMPWR_WR (ringNext wr n)).setIf full ESW_SAMPSTAT_WRAPPED 1)

/-! ### Register writes and the block reset -/

/-- A write that the block ignores: the state before it, without the held low word. -/
def State.ignored (s old : State) : State := { old with held := s.held }

/-- What a write to an EPORT page does beyond its fields (R230, R253 to R256, R269, R273, R276, R597); `old` is the state before the write. -/
def eportWrite (a v : Nat) (old s : State) : State :=
  let p := (a - 0x4310_0000) / 0x1000
  let o := a % 0x1000
  if !eportCarries a then s.ignored old
  else if o = 0 then
    let was := old.on (EPORT_CFG_EN p)
    if was && !bitOf v 31 then s.portOff p
    else if !was && bitOf v 31 then
      let up := decide (18 ≤ p) || s.on (EPORT_PHYSTAT_LINK p)
      let s1 := s.set (EPORT_STAT_STATE p) (if up then 3 else 1)
      if up then s1.pinPortUp p else s1.csmaUp p
    else s
  else if o = 8 then (if old.on (EPORT_PHYCFG_PHYEN p) && !bitOf v 31 then s.linkDown p else s.csmaUp p)
  else if o = 0x24 then s.csmaUp p
  else if within o 0x40 0x80 ∧ o % 0x10 = 8 then
    let q := (o - 0x40) / 0x10
    s.set (EPORT_QSTAT_MAXOCC p q) (max (s.get (EPORT_QSTAT_MAXOCC p q)) (s.get (EPORT_QSTAT_OCC p q)))
  else if o = 0x300 ∧ ¬ s.macXpn p then s.each (List.range 36) (fun t n => t.set (EPORT_MSPN_PN p n) (t.get (EPORT_MSPN_PN p n) % 2 ^ 32))
  else if o = 0x100 then
    if bitOf v 30 && !old.on (EPORT_GCLCTL_CHANGE p) then (s.gateChange p).ethSettle p else s.ethSettle p
  else if (o = 0x108 ∨ o = 0x110 ∨ 0xE00 ≤ o) ∧ old.on (EPORT_GCLSTAT_PEND p) then s.ignored old
  else if 0x400 ≤ o ∧ o < 0xD00 then
    let n := (o - 0x400) / 0x40
    if 0x14 ≤ o % 0x40 ∧ old.on (EPORT_MSSA_EN p n) then s.ignored old
    else if o % 0x40 = 0 ∧ !bitOf v 31 then s.set (EPORT_MSSA_EXH p n) 0
    else if o % 0x40 = 8 ∧ ¬ s.macXpn p then s.set (EPORT_MSPN_PN p n) (s.get (EPORT_MSPN_PN p n) % 2 ^ 32)
    else s
  else s

/-- What a write to a register of the switch does beyond its fields (R243, R249, R256, R261 to R263, R597). -/
def eswWrite : Nat → Nat → State → State → State := fun a v old s =>
  if 0x4310_0000 ≤ a then eportWrite a v old s
  else if a = a_ESW_BUFSTAT then s.set ESW_BUFSTAT_MINFREE (min (s.get ESW_BUFSTAT_MINFREE) (s.get ESW_BUFSTAT_FREE))
  else if a = a_ESW_FDBCMD then
    if bitOf v 31 then (if old.on ESW_FDBCMD_GO then old.fdbError 4 else s.fdbGo (v % 16)) else s
  else if within a 0x4300_0080 0x40 && a % 0x10 == 0 then
    let k := (a - 0x4300_0080) / 0x10
    let same := [ESW_PINCFG_EN k, ESW_PINCFG_PORTA k, ESW_PINCFG_PORTB k].all (fun f => old.get f == s.get f)
    let s1 : State := if same then s else { s with esw := { s.esw with survivor := s.esw.survivor.del k } }
    if bitOf v 30 && !old.on (ESW_PINCFG_REVERT k) then s1.pinRevert k else s1.pinRefresh k
  else if within a 0x4301_0000 0x4_0000 then
    let i := (a - 0x4301_0000) / 0x10
    if a % 0x10 = 0 then (s.set (ESW_FDBWINDATA_VALID i) 0).fdbUsed (old.on (ESW_FDBWINDATA_VALID i)) false
    else if a % 0x10 = 8 then s.fdbUsed (old.on (ESW_FDBWINDATA_VALID i)) (bitOf v 31)
    else s
  else if within a 0x4306_0000 0x4000 then s.meterChange old ((a - 0x4306_0000) / 0x10)
  else if within a 0x4306_4000 0x4000 then
    let g := (a - 0x4306_4000) / 0x100
    if a % 0x100 = 0 then (if bitOf v 30 && !old.on (ESW_SGCTL_CHANGE g) then s.sgateChange g else s)
    else if (a % 0x100 = 8 ∨ a % 0x100 = 0x10 ∨ 0x80 ≤ a % 0x100) ∧ old.on (ESW_SGSTAT_PEND g) then s.ignored old
    else s
  else s

/-- What a read of a register of the switch shows beyond its fields: the gate states now (R276). -/
def eswBefore (a : Nat) (s : State) : State :=
  if within a 0x4310_0000 0x1_2000 && a % 0x1000 == 0x114 then s.ethSettle ((a - 0x4310_0000) / 0x1000) else s

/-- The block reset of the switch: every queued frame is discarded, the fields are restored, and the PHY links stay up (R273). -/
def State.eswReset (s : State) : State :=
  let keep := (List.range 18).flatMap (fun p => [EPORT_PHYSTAT_LINK p, EPORT_PHYSTAT_LOCK p, EPORT_PHYSTAT_SQI p])
  let vals := keep.map (fun f => (f, s.get f))
  let s1 := (s.restoreBlock 0x4300_0000 0x7_0000).restoreBlock 0x4310_0000 0x1_6000
  let s2 : State := { s1 with esw := {} }
  s2.each vals (fun t x => t.set x.1 x.2)

end Sys2Proof.Machine
end

