-- ==== Sys2Proof/Machine/Lin.lean ====
section
/-! DEFINITION. The LIN channels: schedules, headers, responses, errors and transceivers (R299, R303 to R307, R311). -/

namespace Sys2Proof.Machine

open Sys2Proof

/-- The protected identifier: the identifier with its two parity bits (ISO 17987-3, named by R303). -/
def linPid (id : Nat) : Nat :=
  let b (n : Nat) : Nat := b2n (bitOf id n)
  let p0 := (b 0 + b 1 + b 2 + b 4) % 2
  let p1 := (b 1 + b 3 + b 4 + b 5 + 1) % 2
  id + 64 * p0 + 128 * p1

/-- The LIN checksum over bytes: the inverted sum with end-around carry. -/
def linSum (bs : List Nat) : Nat := 255 - bs.foldl (fun a b => if 255 < a + b % 256 then a + b % 256 - 255 else a + b % 256) 0

/-- The checksum of a response of identifier `id`: classic for 0x3C and 0x3D, else as ENH says (R304). -/
def State.linCks (s : State) (l id : Nat) (bs : List Nat) : Nat :=
  if id = 0x3C ∨ id = 0x3D ∨ !s.on (LIN_FCFG_ENH l id) then linSum bs else linSum (linPid id :: bs)

/-- The data bytes of an identifier, 1 to 8 (R311). -/
def State.linLen (s : State) (l id : Nat) : Nat := min (max (s.get (LIN_FCFG_LEN l id)) 1) 8

/-- Channel `l` with its frame set, no header on its way. -/
def State.linFrame (s : State) (l : Nat) (f : Option LinFrame) : State :=
  { s with lin := s.lin.upd l (fun x => { x with frame := f, head := none }) }

/-- Whether a LIN transceiver drives its bus: in the normal state and not too hot (R297, R300). -/
def State.linDrives (s : State) (l : Nat) : Bool := s.pow.vbat && s.get (LIN_CTL_TRXMODE l) == 0 && !s.on (LIN_STAT_FORCED l) && !(s.lin.get l).hot

/-- Whether a LIN receiver is on (R297). -/
def State.linHears (s : State) (l : Nat) : Bool := s.pow.vbat && (s.get (LIN_CTL_TRXMODE l) != 2 || s.on (LIN_STAT_FORCED l))

/-- The state code of a channel without a frame: disabled, asleep or idle (R311). -/
def State.linRest (s : State) (l : Nat) : State :=
  s.set (LIN_STAT_STATE l) (if !s.on (LIN_CTL_EN l) then 0 else if s.get (LIN_CTL_TRXMODE l) = 2 then 4 else 1)

/-- The break of 13 + BRKLEN bits, the sync field and the protected identifier of a header as they go out (R303). -/
def State.linOut (s : State) (l id : Nat) : State :=
  if s.linDrives l then s.emit (.lin l [13 + s.get (LIN_CTL_BRKLEN l), 0x55, linPid id]) else s

/-- R323: the go-to-sleep frame: identifier 0x3C, 0x00 and seven bytes of 0xFF, classic checksum. -/
def State.linSleep (s : State) (l : Nat) : State :=
  let d := [0, 255, 255, 255, 255, 255, 255, 255]
  let s1 : State := { s with lin := s.lin.upd l (fun x => { x with gts := false }) }
  let s2 := (s1.linOut l 0x3C).set (LIN_STAT_LASTID l) 0x3C
  if s2.linDrives l then s2.emit (.lin l (d ++ [linSum d])) else s2

/-- A frame of channel `l` has ended: the channel rests, or sends the go-to-sleep frame that waits for it (R306, R311, R323). -/
def State.linEnd (s : State) (l : Nat) : State :=
  let s1 := (s.linFrame l none).linRest l
  if (s1.lin.get l).gts then s1.linSleep l else s1

/-- R304: what follows the protected identifier: the response to publish is copied, one to subscribe is awaited, others are ignored. -/
def State.linAfterHeader (s : State) (l id : Nat) : State :=
  let d := s.get (LIN_FCFG_DIR l id)
  let s1 := s.set (LIN_STAT_LASTID l) id
  if d = 1 ∨ d = 2 then (s1.linFrame l (some { id := id, dir := d, data := s1.get (LIN_FDATA_DATA l id) })).set (LIN_STAT_STATE l) 3
  else s1.linEnd l

/-- R305: an error of a frame. -/
def State.linError (s : State) (l id code : Nat) : State :=
  let s1 := ((s.set (LIN_FSTAT_ERR l id) 1).set (LIN_FSTAT_LEC l id) code).set (LIN_STAT_LEC l) code
  ((s1.inc (LIN_STAT_ERRS l)).raiseC (224 + l) 2 (code * 256 + id)).linEnd l

/-- Whether a frame of channel `l` is in progress. -/
def State.linBusy (s : State) (l : Nat) : Bool := (s.lin.get l).frame.isSome || (s.lin.get l).head.isSome

/-- R306: the schedule ends. -/
def State.linStop (s : State) (l : Nat) : State :=
  let s1 : State := { s with lin := s.lin.upd l (fun x => { x with begun := false }) }
  if s1.linBusy l then s1 else s1.linRest l

/-- The header that a commander sends (R303); the channel is in it until the stop bit of the protected identifier (R304, R311). -/
def State.linHeader (s : State) (l id : Nat) : State :=
  let s1 := (s.linOut l id).linFrame l none
  ({ s1 with lin := s1.lin.upd l (fun x => { x with head := some id }) } : State).set (LIN_STAT_STATE l) 2

/-- R306: the start of a schedule slot; a schedule that is no longer running ends here. -/
def execLinSlotStart (l : Fin 8) (s : State) : Host.Outcome State Fault Refusal :=
  if !(s.on (LIN_CTL_EN l) && s.on (LIN_CTL_CMDR l)) || s.idling (103 + l) then done s
  else if !s.on (LIN_SCHCTL_RUN l) then done (s.linStop l)
  else
    let cur := s.get (LIN_SCHSTAT_CUR l)
    let begun := (s.lin.get l).begun
    let wrap := begun && decide (s.get (LIN_SCHCTL_LEN l) ≤ cur)
    let i := if begun && !wrap then cur + 1 else 0
    let s1 : State := { s with lin := s.lin.upd l (fun x => { x with begun := true }) }
    let s2 := (if wrap then s1.addWrap (LIN_SCHSTAT_CYCLES l) 1 else s1).set (LIN_SCHSTAT_CUR l) i
    done (s2.linHeader l (s2.get (LIN_SCH_ID l i)))

/-- The effective divider of a channel (R303). -/
def State.linDiv (s : State) (l : Nat) : Nat := min (max (s.get (LIN_CTL_BAUDDIV l)) 800) 16000

/-- R303, R304: the stop bit of a protected identifier: of the commander's own header, or of one that a responder sees, whose sync field measures `div`; a rate outside ±14 % is ignored
and counted with code 5. -/
def execLinHeaderReceive (l : Fin 8) (id : Fin 64) (div : Nat) (s : State) : Host.Outcome State Fault Refusal :=
  if !s.on (LIN_CTL_EN l) || !s.linHears l then done s
  else if s.on (LIN_CTL_CMDR l) then (if (s.lin.get l).head = some id.val ∧ s.linDrives l then done (s.linAfterHeader l id) else done s)
  else
    let b := s.linDiv l
    if 86 * div ≤ 100 * b ∧ 100 * b ≤ 114 * div then done (s.linAfterHeader l id)
    else done ((s.set (LIN_STAT_LEC l) 5).inc (LIN_STAT_ERRS l))

/-- The last response completed on a channel, for the gateway to take (R340). -/
def State.linKeep (s : State) (l id : Nat) (bytes : List Nat) : State :=
  { s with lin := s.lin.upd l (fun x => { x with last := some (id, bytes) }) }

/-- R304, R305: a response is complete: bytes and checksum as they stand on the bus for a subscribed one; `err` is 3 for a framing error and 4 for a bit error, which a header may have
too. -/
def execLinResponseComplete (l : Fin 8) (bytes : List Nat) (cks err : Nat) (s : State) : Host.Outcome State Fault Refusal :=
  match (s.lin.get l).frame with
  | none => (match (s.lin.get l).head with
    | some id => if err = 4 then done (s.linError l id err) else done s
    | none => done s)
  | some f =>
    let n := s.linLen l f.id
    if err = 3 ∨ err = 4 then done (s.linError l f.id err)
    else if !(if f.dir = 2 then s.linDrives l else s.linHears l) then done s
    else if f.dir = 1 ∧ (bytes.length ≠ n ∨ cks ≠ s.linCks l f.id bytes) then done (s.linError l f.id 1)
    else
      let own := f.dir == 2
      let out := toBytes n f.data
      let s1 := if own then s.emit (.lin l (out ++ [s.linCks l f.id out]))
        else (s.set (LIN_FDATA_DATA l f.id) (ofBytes bytes)).set (LIN_FSTAT_NEW l f.id) 1
      let s2 := (((s1.linKeep l f.id (if own then out else bytes)).addWrap (LIN_FSTAT_SEQ l f.id) 1)).linEnd l
      let s3 := if s2.on (LIN_FCFG_IE l f.id) then s2.raiseC (224 + l.val) 1 f.id else s2
      done (if own && s3.on (LIN_CTL_CMDR l) then s3 else s3.wakeConfirm (16 + l.val))

/-- R305: a subscribed response is incomplete after its time; `got` bytes have arrived. -/
def execLinResponseTimeout (l : Fin 8) (got : Nat) (s : State) : Host.Outcome State Fault Refusal :=
  match (s.lin.get l).frame with
  | none => done s
  | some f => if f.dir = 1 then done (s.linError l f.id (if got = 0 then 2 else 6)) else done s

/-- R299: a dominant pulse of 1 ms in normal mode. -/
def State.linWake (s : State) (l : Nat) : State :=
  if s.linDrives l then s.emit (.link "LIN_WAKE" [l]) else s

/-- R299: LIN_CTL.WAKE written 1. -/
def execLinWakePulse (l : Fin 8) (s : State) : Host.Outcome State Fault Refusal :=
  if !decide (l.val < nLin s.part) then done s else
  done (s.linWake l)

/-- R307: TXD has been dominant too long. -/
def execLinTxdTimeout (l : Fin 8) (s : State) : Host.Outcome State Fault Refusal :=
  if !decide (l.val < nLin s.part) then done s else
  done ((s.set (LIN_STAT_TXDTO l) 1).raiseC (224 + l.val) 4 0)

/-- What a write to a channel's registers does beyond its fields (R299, R303, R306). -/
def linWrite : Nat → Nat → State → State → State := fun a v _ s =>
  let l := (a - 0x4410_0000) / 0x1000
  if a % 0x1000 = 0 then
    let s1 := if bitOf v 29 then s.linWake l else s
    if s1.on (LIN_CTL_EN l) then (if s1.linBusy l then s1 else s1.linRest l)
    else ((s1.linFrame l none).linStop l)
  else s

/-- The block reset of channel `l`. -/
def State.linReset (s : State) (l : Nat) : State :=
  let s1 := s.restoreBlock (0x4410_0000 + l * 0x1000) 0x1000
  { s1 with lin := s1.lin.upd l (fun x => { hot := x.hot }) }

end Sys2Proof.Machine
end

