-- ==== Sys2Proof/Machine/Crs.lean ====
section
/-! DEFINITION. The Carousel unit: the local ring and the backbone, readiness, sleep indication and cancellation, keepers, the begin of a
power-down and the wake window (R312 to R331). `bb` selects the backbone. -/

namespace Sys2Proof.Machine

open Sys2Proof

/-! ### Both rings (R312, R316) -/

/-- A ring beside its registers. -/
def State.ring (s : State) (bb : Bool) : Ring := if bb then s.crs.bb else s.crs.loc

/-- A ring changed. -/
def State.ringUpd (s : State) (bb : Bool) (g : Ring → Ring) : State :=
  if bb then { s with crs := { s.crs with bb := g s.crs.bb } } else { s with crs := { s.crs with loc := g s.crs.loc } }

/-- The AZC's own place in a ring: its node ID, or its ring number. -/
def State.ringOwn (s : State) (bb : Bool) : Nat := s.get (if bb then CRS_CTL_RING else CRS_CTL_NODE)

/-- The members present in a ring. -/
def State.pres (s : State) (bb : Bool) : Nat := s.get (if bb then CRS_BBPRES_RINGS else CRS_PRES_NODES)

/-- The members present set; CRS_STAT counts the local ones. -/
def State.setPres (s : State) (bb : Bool) (m : Nat) : State :=
  if bb then s.set CRS_BBPRES_RINGS m else (s.set CRS_PRES_NODES m).set CRS_STAT_MEMBERS (popCount m 64)

/-- Whether a ring runs (running or ready). -/
def State.ringRuns (s : State) (bb : Bool) : Bool :=
  if bb then s.get CRS_STAT_BBSTATE == 1 || s.get CRS_STAT_BBSTATE == 2 else s.get CRS_STAT_STATE == 2 || s.get CRS_STAT_STATE == 3

/-- Whether a ring is ready. -/
def State.ringReady (s : State) (bb : Bool) : Bool := if bb then s.get CRS_STAT_BBSTATE == 2 else s.get CRS_STAT_STATE == 3

/-- Whether a ring is in prepare. -/
def State.ringPrep (s : State) (bb : Bool) : Bool := if bb then s.get CRS_STAT_BBSTATE == 3 else s.get CRS_STAT_STATE == 4

/-- The lowest and the highest member of a set. -/
def lowest (m : Nat) : Nat := ((bitsOf m 64).head?).getD 0

/-- The highest member of a set. -/
def highest (m : Nat) : Nat := ((bitsOf m 64).getLast?).getD 0

/-- The member that follows `k`: the next higher one, the lowest after the highest (R316). -/
def nextAfter (m k : Nat) : Nat := ((bitsOf m 64).find? (fun i => decide (k < i))).getD (lowest m)

/-- The global ID of a local member (R312). -/
def State.globalId (s : State) (i : Nat) : Nat := s.get CRS_CTL_RING * 64 + i

/-! ### Messages (R313 to R315) -/

/-- The eight bytes of a message (R313). -/
def State.ringMsg (s : State) (bb : Bool) (typ : Nat) (consent allc : Bool) : List Nat :=
  let rep := s.on CRS_CTL_HIER
  let wh := (List.range 64).filter (fun i => s.on (CRS_KEEP_WH i))
  let keeper := wh.foldl (fun (b : Option Nat) i => match b with
    | none => some i
    | some k => if s.crs.start.get i < s.crs.start.get k then some i else some k) none
  let kw := if bb && typ == 0 && !consent then
      (match keeper with
        | some i => (2 ^ 15 + s.globalId i, satU 16 ((s.nowNs - s.crs.start.get i) / 1000000000))
        | none => (0, 0))
    else (0, 0)
  [typ * 64 + s.ringOwn bb, b2n bb * 128 + s.get CRS_CTL_RING, s.get (if bb then CRS_STAT_BBROUND else CRS_STAT_ROUND),
    b2n consent * 128 + b2n allc * 64 + b2n rep * 32] ++ toBytes 2 kw.1 ++ toBytes 2 kw.2

/-- A local message handed to a CAN controller of the ring: through its object 126, as a classic frame (R314). -/
def State.crsCan (s : State) (c src : Nat) (bytes : List Nat) : State :=
  if !s.on (CRS_BUS_RING c) then s
  else
    let s1 := (s.set (CAN_OBJID_ID c 126) ((s.get CRS_CFG2_CANBASE * 64 + src) * 2 ^ 18)).set (CAN_OBJID_IDE c 126) 0
    let s2 := (s1.setBytes (canBase c + s1.canPay c 126) bytes).set (CAN_OBJSTAT_LEN c 126) 8
    s2.canTxreq c 126

/-- The frame of a message: EtherType 0x88B5, from CRS_SA to CRS_LMAC or CRS_BBMAC, untagged, with zeros to the minimum length (R314). -/
def State.crsFrame (s : State) (bb : Bool) (bytes : List Nat) : List Nat :=
  let b := toBytesBE 6 (s.get (if bb then CRS_BBMAC_MAC else CRS_LMAC_MAC)) ++ toBytesBE 6 (s.get CRS_SA_MAC) ++ [0x88, 0xB5] ++ bytes
  let b1 := b ++ List.replicate (60 - b.length) 0
  b1 ++ toBytes 4 (crc32 b1)

/-- A frame of the CRS block enters the switch through port 19, behind one that waits there for cells (R250, R314). -/
def State.crsIn (s : State) (bs : List Nat) : State :=
  if !s.portUp 19 then s
  else if (s.esw.wait.get 19).isSome then { s with crs := { s.crs with eth := s.crs.eth ++ [bs] } }
  else s.ethReceive 19 { bytes := bs, at_ := s.stamp }

/-- The frames of the CRS block that have waited at port 19 go on (R250, R314). -/
def State.crsFlush (s : State) : State := ({ s with crs := { s.crs with eth := [] } } : State).each s.crs.eth State.crsIn

/-- A message handed to the switch through port 19 (R314). -/
def State.crsEth (s : State) (bb : Bool) (bytes : List Nat) : State := s.crsIn (s.crsFrame bb bytes)

/-- R314: the CRS block holds objects 126 and 127 of a controller of the ring: it sends through the one, and the other receives the classic base frames of its identifiers. Their places in the
payload area stay as they are set (log entry 140). -/
def State.crsObjects (s : State) (c : Nat) : State :=
  if !s.on (CRS_BUS_RING c) then s
  else
    let s1 := (s.set (CAN_OBJOWN_MODE c 126) 3).set (CAN_OBJOWN_MODE c 127) 3
    let s2 := [126, 127].foldl (fun (t : State) o => (((t.set (CAN_OBJCFG_EN c o) 1).set (CAN_OBJCFG_DIR c o) (b2n (o == 126))).set (CAN_OBJCFG_FMT c o) 0).set (CAN_OBJCFG_RTR c o) 0) s1
    (((s2.set (CAN_OBJID_ID c 127) (s.get CRS_CFG2_CANBASE * 2 ^ 24)).set (CAN_OBJID_IDE c 127) 0).set (CAN_OBJMASK_MASK c 127) (31 * 2 ^ 24)).set (CAN_OBJMASK_IDEM c 127) 1

/-- A message of the AZC sent: a local one on every CAN bus of the ring and port 19, a backbone one on port 19 (R314, R315). -/
def State.crsSend (s : State) (bb : Bool) (bytes : List Nat) : State :=
  if bb then s.crsEth true bytes else (s.each (List.range 16) (fun t c => t.crsCan c (bytes.getD 0 0 % 64) bytes)).crsEth false bytes

/-! ### Keepers (R329, R330) -/

/-- The log word of source 266 (R335). -/
def keepWord (cause : Nat) (sole : Bool) (gid t : Nat) : Nat := cause * 2 ^ 24 + b2n sole * 2 ^ 23 + gid % 2048 * 2 ^ 12 + min t 4095

/-- R329: what a message of member `i` means for its withholding run. -/
def State.keepMsg (s : State) (i : Nat) (consent : Bool) : State :=
  if !consent && !s.on (CRS_KEEP_WH i) then
    let c := s.crs
    let s1 : State := { s with crs := { c with start := c.start.put i s.nowNs, stop := c.stop.del i, sole := putBit c.sole i true, limited := putBit c.limited i false } }
    (s1.set (CRS_KEEP_WH i) 1).set (CRS_KEEP_TIME i) 0
  else if !consent then { s with crs := { s.crs with stop := s.crs.stop.del i } }
  else if s.on (CRS_KEEP_WH i) && s.crs.stop.get i == 0 then
    { s with crs := { s.crs with stop := s.crs.stop.put i s.nowNs } }
  else s

/-- R329: the run of member `i` ends at time `t`. -/
def State.keepEnd (s : State) (i t : Nat) : State :=
  let sec := (t - s.crs.start.get i) / 1000000000
  ((s.set (CRS_KEEP_WH i) 0).set (CRS_KEEP_TIME i) (satU 16 sec)).raise 266 (keepWord 1 (bitOf s.crs.sole i) (s.globalId i) sec)

/-- R330: what a backbone message of ring `r` means for its keeper. -/
def State.bbKeep (s : State) (r : Nat) (consent : Bool) (kw wh : Nat) : State :=
  if consent then
    (if s.on (CRS_BBKEEP_WH r) then
      (s.set (CRS_BBKEEP_WH r) 0).raise 266 (keepWord 1 false (s.get (CRS_BBKEEP_KEEPER r)) (s.get (CRS_BBKEEP_TIME r)))
    else s)
  else
    let s1 := s.set (CRS_BBKEEP_WH r) 1
    if bitOf kw 15 then (s1.set (CRS_BBKEEP_KEEPER r) kw).set (CRS_BBKEEP_TIME r) wh else s1

/-! ### Rounds (R316 to R320) -/

/-- The count of consenting rounds of a ring (R319). -/
def State.setRun (s : State) (bb : Bool) (n : Nat) : State :=
  let s1 := s.ringUpd bb (fun x => { x with run := n })
  if bb then s1 else s1.set CRS_STAT_CONSRUN n

/-- A backbone of one member is ready whenever the local ring is (R321). -/
def State.bbSolo (s : State) : State :=
  if s.ringRuns true && s.pres true == 2 ^ s.ringOwn true then
    if s.ringReady false then (if s.ringReady true then s else (s.set CRS_STAT_BBSTATE 2).raiseC 268 3 0) else s.set CRS_STAT_BBSTATE 1
  else s

/-- The ring is ready when the count is 2, and runs otherwise (R319). -/
def State.ringCheck (s : State) (bb : Bool) : State :=
  let n := (s.ring bb).run
  let s1 := if !s.ringRuns bb then s
    else if 2 ≤ n then
      (if s.ringReady bb then s else if bb then (s.set CRS_STAT_BBSTATE 2).raiseC 268 3 0 else (s.set CRS_STAT_STATE 3).raiseC 267 1 0)
    else if bb then s.set CRS_STAT_BBSTATE 1 else s.set CRS_STAT_STATE 2
  if bb then s1 else s1.bbSolo

/-- A round ends (R316, R319, R329). -/
def State.endRound (s : State) (bb : Bool) : State :=
  let x := s.ring bb
  let s1 := s.set (if bb then CRS_BBCONS_RINGS else CRS_CONS_NODES) x.votes
  let s2 := if bb then s1
    else
      let p := s1.pres false
      let others (i : Nat) : Bool := (bitsOf p 64).any (fun j => j != i && !bitOf x.votes j)
      let sole := if x.allc then s1.crs.sole else bitsFrom 64 (fun i => bitOf s1.crs.sole i && !others i)
      let t : State := { s1 with crs := { s1.crs with sole := sole } }
      t.each (List.range 64) (fun u i => if u.on (CRS_KEEP_WH i) && bitOf x.votes i then u.keepEnd i (u.crs.stop.get i) else u)
  (s2.setRun bb (if x.allc then min 2 (x.run + 1) else 0)).ringCheck bb

/-- A round begins: members that announced themselves join, which returns the count to 0 (R316, R318, R320). -/
def State.startRound (s : State) (bb : Bool) : State :=
  let x := s.ring bb
  let p := s.pres bb
  let new := (bitsOf x.joining 64).filter (fun i => !bitOf p i)
  let s1 := s.each new (fun t i => t.raiseC (if bb then 268 else 265) 1 i)
  let s2 := (s1.setPres bb (p ||| x.joining)).ringUpd bb (fun y => { y with joining := 0, sent := 0, votes := 0 })
  if new.isEmpty then s2 else (s2.setRun bb 0).ringCheck bb

/-- A ring message of member `i` recorded in the round; the round ends with the highest present member's. -/
def State.ringRecord (s : State) (bb : Bool) (i : Nat) (consent allc rep : Bool) : State :=
  let s1 := s.ringUpd bb (fun x => { x with last := i, sent := putBit x.sent i true, votes := putBit x.votes i consent, allc := allc, reps := putBit x.reps i rep })
  let s2 := if bb then s1 else s1.keepMsg i consent
  if i = highest (s2.pres bb) then s2.endRound bb else s2

/-- R319: the ring enters prepare. -/
def State.enterPrepare (s : State) (bb : Bool) : State :=
  if bb then (s.set CRS_STAT_BBSTATE 3).raiseC 268 4 0 else (s.set CRS_STAT_STATE 4).raiseC 267 2 0

/-- R319: a sleep indication sent. -/
def State.sendSleep (s : State) (bb : Bool) : State := (s.crsSend bb (s.ringMsg bb 1 true true)).enterPrepare bb

/-- R320: a cancelled ring: the lowest member starts a new round, with the count 0. -/
def State.ringAgain (s : State) (bb : Bool) : State :=
  let s1 := (s.setRun bb 0).ringUpd bb (fun x => { x with last := highest (s.pres bb) })
  if bb then s1.set CRS_STAT_BBSTATE 1 else s1.set CRS_STAT_STATE 2

/-- R320: the sleep is cancelled by the node with global ID `g`. Where the backbone is in prepare, the local ring is no longer ready, and a backbone message with CONSENT = 0 cancels it (R321). -/
def State.ringCancel (s : State) (bb : Bool) (g : Nat) : State :=
  let s1 := s.ringAgain bb
  if bb then s1
  else
    let s2 := s1.raiseC 267 3 g
    (if s2.on CRS_CTL_HIER && s2.ringPrep true then (s2.crsSend true (s2.ringMsg true 0 false false)).ringAgain true else s2).bbSolo

/-- R321: the backbone has gone to prepare: the local ring follows where it is ready, and cancels where it is not. -/
def State.bbFollow (s : State) : State :=
  if s.ringReady false then s.sendSleep false
  else if s.ringPrep false then s
  else (s.crsSend true (s.ringMsg true 0 false false)).ringCancel true 0

/-- The AZC's own vote in a ring: CONSENT, or that its local ring is ready (R320, R321). -/
def State.ownVote (s : State) (bb : Bool) : Bool := if bb then s.ringReady false || s.ringPrep false else s.on CRS_CTL_CONSENT

/-- The AZC's ring message, sent in its place (R316, R320). -/
def State.sendRing (s : State) (bb : Bool) : State :=
  let own := s.ringOwn bb
  let c := s.ownVote bb
  let x := s.ring bb
  let allc := c && x.sent == x.votes
  (s.crsSend bb (s.ringMsg bb 0 c allc)).ringRecord bb own c allc (s.on CRS_CTL_HIER)

/-- R317: a member that stays silent is removed. -/
def State.ringRemove (s : State) (bb : Bool) (k : Nat) : State :=
  let top := k == highest (s.pres bb)
  let s1 := (s.setPres bb (clrBit (s.pres bb) k)).raiseC (if bb then 268 else 265) 2 k
  let s2 := s1.ringUpd bb (fun x => { x with reps := clrBit x.reps k, joining := clrBit x.joining k })
  let s3 := if bb then s2.bbKeep k true 0 0 else if s2.on (CRS_KEEP_WH k) then s2.keepEnd k s2.nowNs else s2
  let s4 := if top && s3.ringRuns bb then s3.endRound bb else s3
  s4.bbSolo

/-- R318: an alive message sent, and the ring forming. -/
def State.sendAlive (s : State) (bb : Bool) : State :=
  let s1 := (s.ringUpd bb (fun _ => { forming := true })).setPres bb 0
  let s2 := if bb then s1.set CRS_STAT_BBSTATE 0 else s1.set CRS_STAT_STATE 1
  s2.crsSend bb (s2.ringMsg bb 2 (s2.ownVote bb) false)

/-- R318: CRS_CTL.EN becomes 1, or the AZC restarts with it. The CRS block holds objects 126 and 127 of the ring's controllers (R314). -/
def State.carouselEnable (s : State) : State :=
  let s1 := (s.set CRS_CTL_EN 1).each (List.range 16) State.crsObjects
  let s2 := s1.sendAlive false
  if s2.on CRS_CTL_HIER then s2.sendAlive true else s2

/-- R320: a write of CRS_CTL.CONSENT; in prepare a 0 cancels the sleep. -/
def State.consentWrite (s : State) (v : Bool) : State :=
  let s1 := s.set CRS_CTL_CONSENT (b2n v)
  if !v && s1.ringPrep false then
    ((s1.crsSend false (s1.ringMsg false 0 false false)).keepMsg (s1.ringOwn false) false).ringCancel false (s1.globalId (s1.ringOwn false))
  else s1

/-! ### Receiving (R313, R316 to R321) -/

/-- R318, R320: an alive message of member `i`. -/
def State.ringAlive (s : State) (bb : Bool) (i : Nat) : State :=
  let s1 := s.ringUpd bb (fun x => { x with joining := if x.forming then x.joining else putBit x.joining i true, heard := putBit x.heard i true })
  if s1.ringPrep bb then s1.ringCancel bb (if bb then i * 64 else s1.globalId i)
  else if s1.ringRuns bb then (s1.setRun bb 0).ringCheck bb else s1

/-- R318: a ring message while the AZC waits for its place. It joins at the first message of the next round, or of round 0 where the lowest node heard
forms the ring, with the members that it has heard; until then it learns them (log entry 62). -/
def State.ringLearn (s : State) (bb : Bool) (i round : Nat) : State :=
  let x := s.ring bb
  let own := s.ringOwn bb
  let join := match x.learn with
    | some r => r != round
    | none => round == 0 && i == lowest (putBit (putBit x.heard i true) own true)
  if join then
    let t := (s.ringUpd bb (fun y => { y with forming := false, learn := none })).setPres bb (putBit (s.pres bb ||| x.heard) own true)
    if bb then t.set CRS_STAT_BBSTATE 1 else t.set CRS_STAT_STATE 2
  else
    let t := s.ringUpd bb (fun y => { y with learn := some round })
    if bitOf (t.pres bb) i then t else (t.setPres bb (putBit (t.pres bb) i true)).raiseC (if bb then 268 else 265) 1 i

/-- R316, R319, R320: a ring message of member `i`. -/
def State.ringTake (s : State) (bb : Bool) (i round : Nat) (consent allc rep : Bool) (kw wh : Nat) : State :=
  let s0 := if bb then s.bbKeep i consent kw wh else s
  if s0.ringPrep bb then
    (if consent then s0
      else
        let t := if bb then s0 else s0.keepMsg i false
        t.ringCancel bb (if bb then i * 64 else t.globalId i))
  else
    let s1 := if (s0.ring bb).forming then s0.ringLearn bb i round else s0
    if !s1.ringRuns bb then s1
    else
      let rf := if bb then CRS_STAT_BBROUND else CRS_STAT_ROUND
      let s2 := if s1.get rf = round then s1 else (s1.set rf round).startRound bb
      let s3 := if bitOf (s2.pres bb) i then s2
        else ((s2.setPres bb (putBit (s2.pres bb) i true)).raiseC (if bb then 268 else 265) 1 i).setRun bb 0
      s3.ringRecord bb i consent allc rep

/-- R313: a message that a node ignores. -/
def State.crsIgnores (s : State) (bytes : List Nat) : Bool :=
  let b (n : Nat) : Nat := bytes.getD n 0 % 256
  bytes.length != 8 || b 0 / 64 == 3 || bf (b 1) 5 2 != 0 || b 3 % 32 != 0 || bf (b 4 + 256 * b 5) 11 4 != 0
    || (!bitOf (b 1) 7 && b 1 % 32 != s.get CRS_CTL_RING)

/-- R313, R316: a Carousel message received. -/
def State.carouselTake (s : State) (bytes : List Nat) : State :=
  let b (n : Nat) : Nat := bytes.getD n 0 % 256
  let typ := b 0 / 64
  let src := b 0 % 64
  let bb := bitOf (b 1) 7
  let kw := b 4 + 256 * b 5
  if !s.alive || s.crsIgnores bytes || (bb && (!s.on CRS_CTL_HIER || decide (31 < src))) || !s.on CRS_CTL_EN || s.get CRS_STAT_STATE == 5 then s
  else if src = s.ringOwn bb then s.raiseC 265 3 src
  else if typ = 2 then s.ringAlive bb src
  else if typ = 1 then
    (if s.ringRuns bb then
      let t := s.enterPrepare bb
      if bb then t.bbFollow else t
    else s)
  else s.ringTake bb src (b 2) (bitOf (b 3) 7) (bitOf (b 3) 6) (bitOf (b 3) 5) kw (b 6 + 256 * b 7)

/-! ### Sleep (R322, R323) -/

/-- R323, step 1: prepare has expired: LIN schedules end with the frame in progress, and commanders with GTS then send the go-to-sleep frame. -/
def State.powerDownBegin (s : State) : State :=
  let s1 := s.set CRS_STAT_STATE 5
  s1.each (List.range 8) (fun t l =>
    let u := (t.set (LIN_SCHCTL_RUN l) 0).linStop l
    if u.on (LIN_CTL_EN l) && u.on (LIN_CTL_CMDR l) && u.on (CRS_BUS_GTS (16 + l)) then
      (if u.linBusy l then { u with lin := u.lin.upd l (fun x => { x with gts := true }) } else u.linSleep l)
    else u)

/-- Whether bus `b` sleeps with wake detection (R323, R328). -/
def State.wakeBus (s : State) (b : Nat) : Bool := s.on (CRS_BUS_WAKEEN b) && !s.on (CRS_FW_WOFF b)

/-- R323, step 2: transceivers and PHYs go to sleep. Two frame times have passed, so a go-to-sleep frame that waited is out. -/
def State.transceiversOff (s : State) : State :=
  let s0 : State := { s with crs := { s.crs with window := false } }.each ((List.range 8).filter (fun l => (s.lin.get l).gts)) State.linEnd
  let s1 := (s0.raiseC 267 4 0).zoneLow 5
  let s2 := s1.each (List.range 16) (fun t c => ((t.set (CAN_TRXCTL_MODE c) 2).set (CAN_TRXCTL_WAKEEN c) (b2n (t.wakeBus c))).canTrx c)
  let s3 := s2.each (List.range 8) (fun t l => ((t.set (LIN_CTL_TRXMODE l) 2).set (LIN_CTL_WAKEEN l) (b2n (t.wakeBus (16 + l)))).linRest l)
  s3.each (List.range 18) (fun t p => t.linkDown p)

/-! ### The commands -/

/-- R318: CRS_CTL.EN becomes 1. -/
def execCarouselEnable (s : State) : Host.Outcome State Fault Refusal := done s.carouselEnable

/-- R313 to R321: a Carousel message is received. -/
def execCarouselMessageReceive (bytes : List Nat) (s : State) : Host.Outcome State Fault Refusal := done (s.carouselTake bytes)

/-- R315: a received local message is relayed: from a CAN bus to the other CAN buses of the ring and port 19, from port 19 to every CAN bus of the ring. -/
def execCarouselRelay (from_ : Option (Fin 16)) (bytes : List Nat) (s : State) : Host.Outcome State Fault Refusal :=
  if !s.alive || !s.on CRS_CTL_EN || s.get CRS_STAT_STATE == 5 || s.crsIgnores bytes || bitOf (bytes.getD 1 0) 7 then done s
  else
    let src := bytes.getD 0 0 % 64
    match from_ with
    | some c => done ((s.each ((List.range 16).filter (fun k => k != c.val)) (fun t k => t.crsCan k src bytes)).crsEth false bytes)
    | none => done (s.each (List.range 16) (fun t k => t.crsCan k src bytes))

/-- R316, R319: the AZC's turn: its ring message, or, as the lowest member of a ready ring without a REP member, the sleep indication. -/
def execCarouselSend (bb : Bool) (s : State) : Host.Outcome State Fault Refusal :=
  let own := s.ringOwn bb
  let p := s.pres bb
  if !(s.alive && s.on CRS_CTL_EN && (!bb || s.on CRS_CTL_HIER) && s.ringRuns bb && nextAfter p (s.ring bb).last == own) || s.idling 111 then done s
  else
    let first := own == lowest p
    if first && s.ringReady bb && (bb || ((s.ring false).reps == 0 && !s.on CRS_CTL_HIER)) then
      let t := s.sendSleep bb
      done (if bb then t.bbFollow else t)
    else if first then done (((s.addWrap (if bb then CRS_STAT_BBROUND else CRS_STAT_ROUND) 1).startRound bb).sendRing bb)
    else done (s.sendRing bb)

/-- R317: the expected member has not sent in its slot. -/
def execCarouselSlotTimeout (bb : Bool) (s : State) : Host.Outcome State Fault Refusal :=
  let k := nextAfter (s.pres bb) (s.ring bb).last
  if s.alive && s.on CRS_CTL_EN && s.ringRuns bb && k != s.ringOwn bb && bitOf (s.pres bb) k then done (s.ringRemove bb k) else done s

/-- R318: no ring message after the AZC's alive message: the lowest node forms the ring with the first message of round 0. -/
def execCarouselFormTimeout (bb : Bool) (s : State) : Host.Outcome State Fault Refusal :=
  let x := s.ring bb
  let own := s.ringOwn bb
  let all := putBit x.heard own true
  if s.alive && s.on CRS_CTL_EN && x.forming && x.learn.isNone && own == lowest all then
    let s1 := ((s.setPres bb all).ringUpd bb (fun y => { y with forming := false, sent := 0, votes := 0 })).set
      (if bb then CRS_STAT_BBROUND else CRS_STAT_ROUND) 0
    let s2 := if bb then s1.set CRS_STAT_BBSTATE 1 else (s1.set CRS_STAT_STATE 2).raiseC 265 4 (popCount all 64)
    done (s2.sendRing bb).bbSolo
  else done s

/-- R320: CRS_CTL.CONSENT is written. -/
def execConsentWrite (v : Bool) (s : State) : Host.Outcome State Fault Refusal := done (s.consentWrite v)

/-- R329: a withholding run passes KEEPLIM minutes. -/
def execKeeperLimit (i : Fin 64) (s : State) : Host.Outcome State Fault Refusal :=
  if s.on (CRS_KEEP_WH i) && s.get CRS_CFG2_KEEPLIM != 0 && !bitOf s.crs.limited i then
    let s1 : State := { s with crs := { s.crs with limited := putBit s.crs.limited i true } }
    done (s1.raise 266 (keepWord 2 (bitOf s.crs.sole i) (s.globalId i) ((s.nowNs - s.crs.start.get i) / 1000000000)))
  else done s

/-- R319, R323: prepare expires. -/
def execPrepareExpiry (s : State) : Host.Outcome State Fault Refusal := if s.ringPrep false then done s.powerDownBegin else done s

/-- R323: the go-to-sleep frames are sent; transceivers and PHYs sleep. -/
def execSleepTransceiversOff (s : State) : Host.Outcome State Fault Refusal :=
  if s.get CRS_STAT_STATE = 5 then done s.transceiversOff else done s

/-- A waking bus without a confirmation (R326, R328). -/
def State.falseWake (s : State) (b : Nat) : State :=
  let s1 := (((s.set CRS_WAKE_FALSE 1).inc (CRS_FW_COUNT b)).inc (CRS_FW_RUN b)).raiseC 264 2 b
  if s1.get CRS_CFG2_FWMAX ≠ 0 ∧ s1.get CRS_CFG2_FWMAX ≤ s1.get (CRS_FW_RUN b) ∧ !s1.on (CRS_FW_WOFF b) then
    (s1.set (CRS_FW_WOFF b) 1).raiseC 264 3 b
  else s1

/-- R326 to R328: WAKEWIN expires. -/
def execWakeWindowExpiry (s : State) : Host.Outcome State Fault Refusal :=
  if !s.crs.window then done s
  else
    let conf := s.crs.confirmed
    let s1 := s.each ((bitsOf (s.get CRS_WAKEBUS_BUSES) 40).filter (fun b => !bitOf conf b)) State.falseWake
    let s2 : State := { s1 with crs := { s1.crs with window := false } }
    let back := s2.on CRS_CTL_FWRET && s2.on CRS_CTL_CONSENT && (bitsOf conf 40).all (fun b => !s2.on (CRS_BUS_WAKEEN b))
    done (if back then s2.powerDownBegin else s2)

/-! ### Register writes and reads, and the block reset -/

/-- A ring left: no members, off. -/
def State.ringOff (s : State) (bb : Bool) : State :=
  ((s.ringUpd bb (fun _ => {})).setPres bb 0).set (if bb then CRS_STAT_BBSTATE else CRS_STAT_STATE) 0

/-- What a write to CRS_CTL, CRS_CFG2 or CRS_BUS does beyond its fields; `old` is the state before it (R314, R318, R320, R321). -/
def crsWrite : Nat → Nat → State → State → State := fun a v old s =>
  if a = a_CRS_CTL then
    let s1 := (s.set CRS_CTL_CONSENT (old.get CRS_CTL_CONSENT)).consentWrite (bitOf v 30)
    if bitOf v 31 && !old.on CRS_CTL_EN then s1.carouselEnable
    else if !bitOf v 31 && old.on CRS_CTL_EN then (s1.ringOff false).ringOff true
    else if bitOf v 31 && bitOf v 29 && !old.on CRS_CTL_HIER then s1.sendAlive true
    else if bitOf v 31 && !bitOf v 29 && old.on CRS_CTL_HIER then s1.ringOff true
    else s1
  else if (a = a_CRS_CFG2 || within a 0x4420_0100 0x40) && s.on CRS_CTL_EN then s.each (List.range 16) State.crsObjects
  else s

/-- What a read of CRS_KEEP shows: the time of a present run, to its first consenting message where one has come (R329, R337). -/
def crsBefore (a : Nat) (s : State) : State :=
  if within a 0x4420_0300 0x100 then
    let i := (a - 0x4420_0300) / 4
    if s.on (CRS_KEEP_WH i) then s.set (CRS_KEEP_TIME i) (satU 16 (((if s.crs.stop.get i = 0 then s.nowNs else s.crs.stop.get i) - s.crs.start.get i) / 1000000000)) else s
  else s

/-- The block reset of the CRS block; a node that restarts sends its alive message (R318). -/
def State.crsReset (s : State) : State :=
  let s1 := s.restoreBlock 0x4420_0000 0x1000
  let s2 : State := { s1 with crs := { window := s.crs.window, confirmed := s.crs.confirmed } }
  if s2.on CRS_CTL_EN then s2.carouselEnable else s2

end Sys2Proof.Machine
end

