-- ==== Sys2Proof/Machine/Mbx.lean ====
section
/-! DEFINITION. The mailbox of Compass: its channels, their owners and the queue of commands (R501 to R508, R527 to R529). -/

namespace Sys2Proof.Machine

open Sys2Proof

/-- Channel states (R529). -/
def mbxFREE : Nat := 0
def mbxOWNED : Nat := 1
def mbxQUEUED : Nat := 2
def mbxRUNNING : Nat := 3
def mbxDONE : Nat := 4

/-- The state of channel `m`. -/
def State.mbx (s : State) (m : Nat) : Nat := s.get (MBX_STATUS_STATE m)

/-- Whether a request is the owner's: initiator ID, world and generation as at the claim (R501). -/
def State.mbxMine (s : State) (m : Nat) (r : Req) : Bool :=
  s.mbx m != mbxFREE && s.get (MBX_STATUS_OWNER m) == r.id && s.on (MBX_STATUS_WORLD m) == s.worldOf r && s.get (MBX_STATUS_GEN m) == r.gen % 256

/-- R501: a claim of a FREE channel by a request; `vi` is the instance whose generation it carries. -/
def State.mbxClaim (s : State) (m : Nat) (r : Req) (vi : Option Nat) : State :=
  if s.mbx m ≠ mbxFREE then s
  else
    let s1 := (((s.set (MBX_STATUS_STATE m) mbxOWNED).set (MBX_STATUS_OWNER m) r.id).set (MBX_STATUS_WORLD m) (b2n (s.worldOf r))).set
      (MBX_STATUS_GEN m) r.gen
    { s1 with cmp := { s1.cmp with vi := s1.cmp.vi.put m vi, grp := s1.cmp.grp.put m (s.groupOf r.id) } }

/-- The eight results of a channel cleared. -/
def State.mbxClear (s : State) (m : Nat) : State := s.each (List.range 8) (fun t k => t.set (MBX_RESULT_RESULT m k) 0)

/-- MBX_GSTAT.QUEUED after a change of the queue. -/
def State.mbxQueue (s : State) (l : List Nat) : State :=
  ({ s with cmp := { s.cmp with queue := l } } : State).set MBX_GSTAT_QUEUED l.length

/-- R503: a command started by the owner. -/
def State.mbxGo (s : State) (m : Nat) (r : Req) (op : Nat) : State :=
  if !s.mbxMine m r || !(s.mbx m == mbxOWNED || s.mbx m == mbxDONE) then s
  else
    let s1 := ((((s.mbxClear m).set (MBX_STATUS_ERR m) 0).set (MBX_STATUS_STATE m) mbxQUEUED).set (MBX_CMD_OPCODE m) op).set (MBX_CMD_GO m) 1
    s1.mbxQueue (s1.cmp.queue ++ [m])

/-- A channel becomes FREE: its owner, arguments and results are gone, and its command no longer waits (R505, R532). -/
def State.mbxFree (s : State) (m : Nat) : State :=
  let s1 := (s.mbxClear m).each (List.range 8) (fun t k => t.set (MBX_ARG_ARG m k) 0)
  let s2 := s1.each [MBX_STATUS_STATE m, MBX_STATUS_OWNER m, MBX_STATUS_WORLD m, MBX_STATUS_GEN m, MBX_STATUS_ERR m, MBX_CMD_GO m, MBX_CMD_OPCODE m]
    (fun t f => t.set f 0)
  let s3 : State := { s2 with cmp := { s2.cmp with vi := s2.cmp.vi.del m, grp := s2.cmp.grp.del m } }
  (s3.setIf (s.cmp.queue.head? == some m) PWR_STAT_NVMHOLD 0).mbxQueue (s3.cmp.queue.filter (fun k => k != m))

/-- R505: the owner's release, or a reclaim: in RUNNING it takes effect at completion. -/
def State.mbxLeave (s : State) (m : Nat) : State :=
  if s.mbx m = mbxRUNNING then { s with cmp := { s.cmp with drop := true } } else s.mbxFree m

/-- R505: a release by the owner. -/
def State.mbxRelease (s : State) (m : Nat) (r : Req) : State := if s.mbxMine m r then s.mbxLeave m else s

/-- R505: Compass reclaims a channel: 1 for a generation change, 2 for an Inner-world restart, 3 for a timeout. -/
def State.mbxReclaim (s : State) (m why : Nat) : State :=
  if s.mbx m = mbxFREE then s else ((s.mbxLeave m).inc MBX_RECL_RECLAIMED).raise 302 (m * 256 + why)

/-- R505: the channels of an instance whose generation changes. -/
def State.mbxGenGone (s : State) (i : Nat) : State :=
  s.each ((List.range 8).filter (fun m => s.cmp.vi.get m == some i && s.on (MBX_STATUS_GEN m))) (fun t m => t.mbxReclaim m 1)

/-- R505: the channels of a hart whose Inner world restarts. -/
def State.mbxHartGone (s : State) (h : Nat) : State :=
  s.each ((List.range 8).filter (fun m => s.get (MBX_STATUS_OWNER m) == h && s.on (MBX_STATUS_WORLD m))) (fun t m => t.mbxReclaim m 2)

/-- R501. -/
def execMbxClaim (m : Fin 8) (r : Req) (s : State) : Host.Outcome State Fault Refusal := done (s.mbxClaim m r none)

/-- R503. -/
def execMbxGo (m : Fin 8) (r : Req) (op : Fin 256) (s : State) : Host.Outcome State Fault Refusal := done (s.mbxGo m r op)

/-- R505. -/
def execMbxRelease (m : Fin 8) (r : Req) (s : State) : Host.Outcome State Fault Refusal := done (s.mbxRelease m r)

/-- R505: 100 ms without an access from the owner, in OWNED or DONE. -/
def execMbxReclaimTimeout (m : Fin 8) (s : State) : Host.Outcome State Fault Refusal :=
  if s.mbx m = mbxOWNED ∨ s.mbx m = mbxDONE then done (s.mbxReclaim m 3) else done s

/-! ### A command taken up and completed (R503, R504, R508, R509) -/

/-- ERR values (R509). -/
def errUNKNOWN : Nat := 1
def errLCSTATE : Nat := 2
def errCALLER : Nat := 3
def errARG : Nat := 4
def errACCESS : Nat := 5
def errBUSY : Nat := 6
def errAUTH : Nat := 7
def errVERSION : Nat := 8
def errDIGEST : Nat := 9
def errNVM : Nat := 10
def errFLASH : Nat := 11
def errSLOTS : Nat := 12
def errLOCKOUT : Nat := 13
def errORDER : Nat := 14
def errECC : Nat := 15

/-- What a command yields: the state it leaves, its results and ERR. -/
structure CmdRes where
  s : State
  res : List Nat := []
  err : Nat := 0

/-- A failed command: nothing has changed (R504). -/
def CmdRes.fail (s : State) (e : Nat) : CmdRes := { s := s, err := e }

/-- Argument `k` of channel `m`. -/
def State.arg (s : State) (m k : Nat) : Nat := s.get (MBX_ARG_ARG m k)

/-- The owner of a channel as a request (R507). -/
def State.mbxOwner (s : State) (m : Nat) : Req :=
  { id := s.get (MBX_STATUS_OWNER m), inner := s.on (MBX_STATUS_WORLD m), gen := s.get (MBX_STATUS_GEN m) }

/-- Callers of R508: `any`, or Inner, and while in recovery mode Rec where the row has it. -/
def State.callerOk (s : State) (m : Nat) (inner recov : Bool) : Bool :=
  let o := s.get (MBX_STATUS_OWNER m)
  (!inner && !recov) || (inner && s.on (MBX_STATUS_WORLD m)) ||
  (recov && s.on MBX_GSTAT_RECOVERY && (o == 9 || o == s.get (PCIE_FNID_ID 0)))

/-- R503: Compass takes up the first queued command, where it is channel `m`'s and has opcode `op`. Compass is one sequencer: nothing else runs. -/
def State.takeUp (s : State) (m op : Nat) : Option State :=
  if s.cmp.run.isSome || s.cmp.queue.head? != some m || s.get (MBX_CMD_OPCODE m) != op then none
  else
    let s1 := s.mbxQueue s.cmp.queue.tail
    let s2 : State := { s1 with cmp := { s1.cmp with run := some m, drop := false, res := none } }
    some (((s2.set (MBX_STATUS_STATE m) mbxRUNNING).set MBX_GSTAT_CUROP op).set MBX_GSTAT_CURCH m)

/-- The life-cycle states of a command as a mask over the codes of R512. -/
def State.lcOk (s : State) (mask : Nat) : Bool := bitOf mask s.cmp.ks.lc

/-- A command of the table carried out: taken up, checked for state and caller, then run; its results wait for the completion (R504, R508, R509). -/
def State.command (s : State) (m op lcMask : Nat) (inner recov : Bool) (body : State → CmdRes) : Host.Outcome State Fault Refusal :=
  match s.takeUp m op with
  | none => done s
  | some s1 =>
    let r := if !s1.lcOk lcMask then CmdRes.fail s1 errLCSTATE
      else if !s1.callerOk m inner recov then CmdRes.fail s1 errCALLER
      else body s1
    done { r.s with cmp := { r.s.cmp with res := some (r.res, r.err) } }

/-- R504: the running command completes: results, ERR, DONE and source 296. A queued command whose opcode is not in the table completes with UNKNOWN. -/
def State.mbxComplete (s : State) : State :=
  match s.cmp.run, s.cmp.res with
  | some m, some (res, err) =>
    let s1 : State := { s with cmp := { s.cmp with run := none, res := none, drop := false } }
    let s2 := ((s1.each (res.zipIdx.take 8) (fun t p => t.set (MBX_RESULT_RESULT m p.2) p.1)).set (MBX_STATUS_ERR m) err).set (MBX_CMD_GO m) 0
    let s3 := ((s2.set (MBX_STATUS_STATE m) mbxDONE).set MBX_GSTAT_CUROP 0).raise 296
      (s.get (MBX_CMD_OPCODE m) * 2 ^ 24 + err * 2 ^ 16 + m * 256 + s.get (MBX_STATUS_OWNER m))
    if s.cmp.drop then s3.mbxFree m else s3
  | _, _ => s

/-- The opcodes of the command table (R510). -/
def mbxOpcodes : List Nat :=
  [0x01, 0x02, 0x03, 0x10, 0x11, 0x12, 0x13, 0x14, 0x15, 0x16, 0x17, 0x20, 0x21, 0x22, 0x23, 0x24, 0x30, 0x31, 0x32, 0x33, 0x34, 0x35, 0x36,
   0x40, 0x41, 0x42, 0x43, 0x44, 0x50, 0x51, 0x52, 0x53, 0x54, 0x60, 0x61, 0x62, 0x70, 0x71, 0x72, 0x73]

/-! ### Buffers (R507) -/

/-- The address and length of a channel's buffer. -/
def State.bufAddr (s : State) (m : Nat) : Nat := s.arg m 0 + s.arg m 1 % 256 * 2 ^ 32
def State.bufLen (s : State) (m : Nat) : Nat := s.arg m 2

/-- R507: whether `n` bytes at the buffer may be read (or written) for the caller, with the ID, world and group recorded at its claim. -/
def State.bufOk (s : State) (m n : Nat) (k : AccKind) : Bool :=
  let a := s.bufAddr m
  let r := s.mbxOwner m
  a % 8 == 0 && decide (0x1000_0000 ≤ a) && decide (a + n ≤ 0x1000_0000 + sramSize s.part - 0x4000) &&
  (List.range ((a + n + 4095) / 4096 - a / 4096)).all (fun g =>
    match checkerOf s.part ((a / 4096 + g) * 4096) with
    | some (t, _) => decide (2 ≤ t) && decide (t ≤ 5) && (r.id == 8 || s.groupGrants t ((a / 4096 + g) * 4096) r.inner (s.cmp.grp.get m) k) && s.mapped ((a / 4096 + g) * 4096)
    | none => false)

/-- The bytes of the buffer. -/
def State.bufRead (s : State) (m n : Nat) : List Nat := s.bytes (s.bufAddr m) n

end Sys2Proof.Machine
end

