-- ==== Sys2Proof/Machine/Float.lean ====
section
/-! DEFINITION. IEEE 754 binary formats over natural numbers: binary32 for the Tangram engines (R150) and the cores, binary64 for
the gateway (R346) and the cores. Every operation computes exactly, then rounds once. -/

namespace Sys2Proof.Machine

/-- A binary format: width of the exponent field and of the fraction field. -/
structure Fmt where
  ew : Nat
  mw : Nat
  deriving DecidableEq, Repr

def f32 : Fmt := ⟨8, 23⟩
def f64 : Fmt := ⟨11, 52⟩

/-- The rounding directions of IEEE 754. -/
inductive Rm where
  | nearestEven | towardZero | down | up | nearestAway
  deriving DecidableEq, Repr

/-- How an operation rounds, and whether subnormal inputs and results are taken as zero (R137 FRM, FTZ). -/
structure FMode where
  rm : Rm := .nearestEven
  ftz : Bool := false
  deriving DecidableEq, Repr

/-- A value taken apart: sign (`true` for minus), and for a finite one `m * 2 ^ e`. -/
inductive FNum where
  | nan (signalling : Bool)
  | inf (neg : Bool)
  | fin (neg : Bool) (m : Nat) (e : Int)
  deriving DecidableEq, Repr

/-- The sticky flags: invalid, division by zero, overflow, underflow, inexact, in the places of FFLAGS [4:0] (R152). -/
def flNV : Nat := 16
def flDZ : Nat := 8
def flOF : Nat := 4
def flUF : Nat := 2
def flNX : Nat := 1

namespace Fmt

/-- The exponent bias. -/
def bias (f : Fmt) : Nat := 2 ^ (f.ew - 1) - 1

/-- The exponent of the last place of a subnormal number. -/
def eMin (f : Fmt) : Int := 1 - (f.bias : Int) - f.mw

/-- Width of the format. -/
def width (f : Fmt) : Nat := 1 + f.ew + f.mw

/-- A bit pattern from sign, biased exponent and fraction. -/
def pack (f : Fmt) (neg : Bool) (ex frac : Nat) : Nat := (b2n neg) * 2 ^ (f.ew + f.mw) + ex * 2 ^ f.mw + frac

/-- The quiet NaN that a NaN result is (R150: 0x7FC0_0000). -/
def qnan (f : Fmt) : Nat := f.pack false (2 ^ f.ew - 1) (2 ^ (f.mw - 1))

def infBits (f : Fmt) (neg : Bool) : Nat := f.pack neg (2 ^ f.ew - 1) 0

def zeroBits (f : Fmt) (neg : Bool) : Nat := f.pack neg 0 0

/-- The largest finite number. -/
def maxBits (f : Fmt) (neg : Bool) : Nat := f.pack neg (2 ^ f.ew - 2) (2 ^ f.mw - 1)

end Fmt

/-- A bit pattern taken apart; with FTZ a subnormal one is a zero of its sign (R137). -/
def fUnpack (f : Fmt) (ftz : Bool) (x : Nat) : FNum :=
  let s := bitOf x (f.ew + f.mw)
  let ex := bf x f.mw f.ew
  let fr := x % 2 ^ f.mw
  if ex = 2 ^ f.ew - 1 then (if fr = 0 then .inf s else .nan (!bitOf fr (f.mw - 1)))
  else if ex = 0 then .fin s (if ftz then 0 else fr) f.eMin
  else .fin s (2 ^ f.mw + fr) (f.eMin + ex - 1)

/-- Whether a magnitude with quotient `q` and remainder `r` of `2 ^ k` (and an inexact tail `sticky`) is rounded up in magnitude. -/
def roundsUp (rm : Rm) (neg : Bool) (q r k : Nat) (sticky : Bool) : Bool :=
  let half := 2 ^ k / 2
  match rm with
  | .nearestEven => decide (half < r) || (decide (r = half) && decide (k ≠ 0) && (sticky || q % 2 == 1))
  | .nearestAway => decide (half ≤ r) && decide (k ≠ 0)
  | .towardZero => false
  | .down => neg && (decide (r ≠ 0) || sticky)
  | .up => !neg && (decide (r ≠ 0) || sticky)

/-- `m` divided by `2 ^ k` and rounded to an integer: the result, and whether it is inexact. -/
def roundShift (rm : Rm) (neg : Bool) (m k : Nat) (sticky : Bool) : Nat × Bool :=
  let q := m / 2 ^ k
  let r := m % 2 ^ k
  (q + b2n (roundsUp rm neg q r k sticky), decide (r ≠ 0) || sticky)

/-- A finite magnitude `m * 2 ^ e` (and an inexact tail `sticky`) rounded into the format: the bits and the flags.
Tininess is detected after rounding (R150). -/
def fRound (f : Fmt) (md : FMode) (neg : Bool) (m0 : Nat) (e0 : Int) (sticky : Bool) : Nat × Nat :=
  if m0 = 0 then (f.zeroBits neg, 0)
  else
    -- two places more than the format needs, so that the tail only decides ties and direction
    let up := f.mw + 3
    let m := m0 * 2 ^ up
    let e := e0 - up
    let p := f.mw + 1
    let k0 := Nat.log2 m + 1 - p
    let r0 := roundShift md.rm neg m k0 sticky
    -- the value rounded as though the exponent were unbounded
    let tiny := decide ((k0 : Int) + e + (if r0.1 < 2 ^ p then 0 else 1) < f.eMin)
    let k := if (k0 : Int) + e < f.eMin then (f.eMin - e).toNat else k0
    let r := roundShift md.rm neg m k sticky
    if tiny && md.ftz then (f.zeroBits neg, flUF + flNX)
    else
      let le := e + k                       -- exponent of the last place of `r.1`
      let q := if r.1 = 2 ^ p then r.1 / 2 else r.1
      let le' := if r.1 = 2 ^ p then le + 1 else le
      let fl := (if r.2 then flNX else 0) + (if tiny && r.2 then flUF else 0)
      if q < 2 ^ f.mw then (f.pack neg 0 q, fl)
      else
        let ex := (le' - f.eMin + 1).toNat
        if 2 ^ f.ew - 1 ≤ ex then
          let toInf := match md.rm with
            | .nearestEven => true | .nearestAway => true | .towardZero => false | .down => neg | .up => !neg
          (if toInf then f.infBits neg else f.maxBits neg, flOF + flNX)
        else (f.pack neg ex (q - 2 ^ f.mw), fl)

/-- Two finite numbers as integers with one exponent, and their exact sum. -/
def exactSum (sa : Bool) (ma : Nat) (ea : Int) (sb : Bool) (mb : Nat) (eb : Int) : Int × Int :=
  let e := min ea eb
  let a : Int := (ma * 2 ^ (ea - e).toNat : Nat)
  let b : Int := (mb * 2 ^ (eb - e).toNat : Nat)
  ((if sa then -a else a) + (if sb then -b else b), e)

/-- A sum of finite numbers rounded; an exact zero sum takes the common sign, or minus only when rounding down. -/
def fSumRound (f : Fmt) (md : FMode) (sa : Bool) (ma : Nat) (ea : Int) (sb : Bool) (mb : Nat) (eb : Int) : Nat × Nat :=
  let v := exactSum sa ma ea sb mb eb
  if v.1 = 0 then
    (f.zeroBits (if sa == sb then sa else md.rm == .down), 0)
  else fRound f md (decide (v.1 < 0)) v.1.natAbs v.2 false

/-- NV for a signalling NaN among the operands. -/
def sigNV (l : List FNum) : Nat := if l.any (fun x => x == .nan true) then flNV else 0

def FNum.isNan : FNum → Bool
  | .nan _ => true
  | _ => false

/-- The number with its sign reversed. -/
def FNum.neg : FNum → FNum
  | .nan q => .nan q
  | .inf s => .inf (!s)
  | .fin s m e => .fin (!s) m e

/-- Addition (R150). -/
def fAddN (f : Fmt) (md : FMode) (a b : FNum) : Nat × Nat :=
  match a, b with
  | .nan _, _ => (f.qnan, sigNV [a, b])
  | _, .nan _ => (f.qnan, sigNV [a, b])
  | .inf s, .inf t => if s == t then (f.infBits s, 0) else (f.qnan, flNV)
  | .inf s, _ => (f.infBits s, 0)
  | _, .inf t => (f.infBits t, 0)
  | .fin s m e, .fin t n d => fSumRound f md s m e t n d

def fAdd (f : Fmt) (md : FMode) (x y : Nat) : Nat × Nat := fAddN f md (fUnpack f md.ftz x) (fUnpack f md.ftz y)

/-- Subtraction (R150). -/
def fSub (f : Fmt) (md : FMode) (x y : Nat) : Nat × Nat := fAddN f md (fUnpack f md.ftz x) (fUnpack f md.ftz y).neg

/-- Multiplication (R150). -/
def fMul (f : Fmt) (md : FMode) (x y : Nat) : Nat × Nat :=
  let a := fUnpack f md.ftz x
  let b := fUnpack f md.ftz y
  match a, b with
  | .nan _, _ => (f.qnan, sigNV [a, b])
  | _, .nan _ => (f.qnan, sigNV [a, b])
  | .inf s, .inf t => (f.infBits (s != t), 0)
  | .inf s, .fin t n _ => if n = 0 then (f.qnan, flNV) else (f.infBits (s != t), 0)
  | .fin s m _, .inf t => if m = 0 then (f.qnan, flNV) else (f.infBits (s != t), 0)
  | .fin s m e, .fin t n d => fRound f md (s != t) (m * n) (e + d) false

/-- Fused multiply-add with one rounding; NV for 0 × ∞ whatever the third operand (R150). -/
def fFmaN (f : Fmt) (md : FMode) (a b c : FNum) : Nat × Nat :=
  let bad := match a, b with
    | .inf _, .fin _ n _ => n == 0
    | .fin _ m _, .inf _ => m == 0
    | _, _ => false
  if bad then (f.qnan, flNV)
  else if a.isNan || b.isNan || c.isNan then (f.qnan, sigNV [a, b, c])
  else
    let prodInf := match a, b with
      | .inf s, .inf t => some (s != t)
      | .inf s, .fin t _ _ => some (s != t)
      | .fin s _ _, .inf t => some (s != t)
      | _, _ => none
    match prodInf, c with
    | some s, .inf t => if s == t then (f.infBits s, 0) else (f.qnan, flNV)
    | some s, _ => (f.infBits s, 0)
    | none, .inf t => (f.infBits t, 0)
    | none, _ =>
      match a, b, c with
      | .fin s m e, .fin t n d, .fin u k g => fSumRound f md (s != t) (m * n) (e + d) u k g
      | _, _, _ => (f.qnan, 0)

def fFma (f : Fmt) (md : FMode) (x y z : Nat) : Nat × Nat :=
  fFmaN f md (fUnpack f md.ftz x) (fUnpack f md.ftz y) (fUnpack f md.ftz z)

/-- Division (R150). -/
def fDiv (f : Fmt) (md : FMode) (x y : Nat) : Nat × Nat :=
  let a := fUnpack f md.ftz x
  let b := fUnpack f md.ftz y
  match a, b with
  | .nan _, _ => (f.qnan, sigNV [a, b])
  | _, .nan _ => (f.qnan, sigNV [a, b])
  | .inf _, .inf _ => (f.qnan, flNV)
  | .inf s, .fin t _ _ => (f.infBits (s != t), 0)
  | .fin s _ _, .inf t => (f.zeroBits (s != t), 0)
  | .fin s m e, .fin t n d =>
    if n = 0 then (if m = 0 then (f.qnan, flNV) else (f.infBits (s != t), flDZ))
    else
      let k := 2 * f.mw + 6
      let num := m * 2 ^ k
      fRound f md (s != t) (num / n) (e - d - k) (decide (num % n ≠ 0))

/-- Square root (R150). -/
def fSqrt (f : Fmt) (md : FMode) (x : Nat) : Nat × Nat :=
  let a := fUnpack f md.ftz x
  match a with
  | .nan _ => (f.qnan, sigNV [a])
  | .inf s => if s then (f.qnan, flNV) else (f.infBits false, 0)
  | .fin s m e =>
    if m = 0 then (f.zeroBits s, 0)
    else if s then (f.qnan, flNV)
    else
      let k := 2 * f.mw + 8
      -- an even exponent under the root
      let m1 := if (e - k) % 2 = 0 then m * 2 ^ k else m * 2 ^ (k + 1)
      let e1 := if (e - k) % 2 = 0 then e - k else e - k - 1
      let r := isqrt (Nat.log2 m1 / 2 + 2) m1
      fRound f md false r (e1 / 2) (decide (r * r ≠ m1))

/-- An order for FMIN and FMAX: −0 below +0 (R145). -/
def fKeyLe : FNum → FNum → Bool
  | .inf s, .inf t => s || !t
  | .inf s, _ => s
  | _, .inf t => !t
  | .fin s m e, .fin t n d =>
    let v := (exactSum s m e (!t) n d).1
    if v = 0 then s || !t else decide (v < 0)
  | _, _ => false

/-- The word as FTZ leaves it: a subnormal one becomes a zero of its sign. -/
def fFlushed (f : Fmt) (ftz : Bool) (x : Nat) : Nat :=
  if ftz && bf x f.mw f.ew == 0 then f.zeroBits (bitOf x (f.ew + f.mw)) else x % 2 ^ f.width

/-- Minimum (`mx = false`) and maximum; a NaN operand yields the other (R145). -/
def fMinMax (f : Fmt) (md : FMode) (mx : Bool) (x y : Nat) : Nat × Nat :=
  let a := fUnpack f md.ftz x
  let b := fUnpack f md.ftz y
  let v :=
    if a.isNan && b.isNan then f.qnan
    else if a.isNan then fFlushed f md.ftz y
    else if b.isNan then fFlushed f md.ftz x
    else if fKeyLe a b != mx then fFlushed f md.ftz x else fFlushed f md.ftz y
  (v, sigNV [a, b])

/-- The value comparison of two numbers that are no NaN: less, equal. -/
def fLess (a b : FNum) : Bool × Bool :=
  match a, b with
  | .inf s, .inf t => (s && !t, s == t)
  | .inf s, _ => (s, false)
  | _, .inf t => (!t, false)
  | .fin s m e, .fin t n d =>
    let v := (exactSum s m e (!t) n d).1
    (decide (v < 0), decide (v = 0))
  | _, _ => (false, false)

/-- Equal (quiet), less and less-or-equal (signalling), codes 0, 1, 2 (R145, R150). -/
def fCmp (f : Fmt) (md : FMode) (op x y : Nat) : Nat × Nat :=
  let a := fUnpack f md.ftz x
  let b := fUnpack f md.ftz y
  if a.isNan || b.isNan then (0, if op = 0 then sigNV [a, b] else flNV)
  else
    let c := fLess a b
    (b2n (if op = 0 then c.2 else if op = 1 then c.1 else c.1 || c.2), 0)

/-- A number times `2 ^ sc`, to an integer between `lo` and `hi`, saturating with NV; a NaN gives `hi` (R145, R150). -/
def fToInt (f : Fmt) (md : FMode) (sc : Nat) (lo hi : Int) (x : Nat) : Int × Nat :=
  match fUnpack f md.ftz x with
  | .nan _ => (hi, flNV)
  | .inf s => (if s then lo else hi, flNV)
  | .fin s m e =>
    let e1 := e + sc
    let r := if 0 ≤ e1 then (m * 2 ^ e1.toNat, false) else roundShift md.rm s m (-e1).toNat false
    let v : Int := if s then -(r.1 : Int) else r.1
    if v < lo then (lo, flNV) else if hi < v then (hi, flNV) else (v, if r.2 then flNX else 0)

/-- An integer divided by `2 ^ sc`, to the format (R145). -/
def fFromInt (f : Fmt) (md : FMode) (sc : Nat) (v : Int) : Nat × Nat :=
  if v = 0 then (f.zeroBits false, 0) else fRound f md (decide (v < 0)) v.natAbs (-(sc : Int)) false

/-- A number of format `f` rounded to format `g`: the bits and the flags. -/
def fCvt (f g : Fmt) (md : FMode) (x : Nat) : Nat × Nat :=
  match fUnpack f md.ftz x with
  | .nan s => (g.qnan, if s then flNV else 0)
  | .inf s => (g.infBits s, 0)
  | .fin s m e => fRound g md s m e false

end Sys2Proof.Machine
end

