-- ==== Sys2Proof/Machine/Hart.lean ====
section
/-! DEFINITION. The application cores without their instructions: worlds, traps, interrupts and CSRs (R371 to R403). Where the spec names the
RISC-V architecture (R371), its layouts are those of the RISC-V privileged architecture 1.12 (log entry 20). -/

namespace Sys2Proof.Machine

open Sys2Proof

/-- Two's complement wrap to 64 bits. -/
def w64 (i : Int) : Nat := ofS 64 i

/-- A 64-bit number as a signed one. -/
def s64 (v : Nat) : Int := toS 64 v

/-- Bits `lo + w - 1` down to `lo` of `v` replaced by `x`. -/
def putBf (v lo w x : Nat) : Nat := v - bf v lo w * 2 ^ lo + x % 2 ^ w * 2 ^ lo

/-- The bits of `v` under `mask` replaced by those of `x`, 64 bits. -/
def maskPut (v mask x : Nat) : Nat := (v &&& (mask ^^^ (2 ^ 64 - 1))) ||| (x &&& mask)

/-! ### Which copy a core is (R405, R432) -/

/-- Core `c` is a copy of a joined pair (R432). -/
def State.joined (s : State) (c : Nat) : Bool := decide (c < 8) && !s.on (PAIR_CFG_SPLIT (c / 2))

/-- The copy of pair `n` that runs as lead, and the other (R405, R429). -/
def State.leadOf (s : State) (n : Nat) : Nat := 2 * n + b2n (s.pair.get n).swap
def State.shadowOf (s : State) (n : Nat) : Nat := 2 * n + 1 - b2n (s.pair.get n).swap

/-- Whether a core is its pair's lead. -/
def State.isLead (s : State) (c : Nat) : Bool := c == s.leadOf (c / 2)

/-- The number a core shows and issues under: 2n for both copies of a pair (R372). -/
def State.hartOf (s : State) (c : Nat) : Nat := if s.joined c then c / 2 * 2 else c

/-- Core `c` changed. -/
def State.coreSet (s : State) (c : Nat) (g : Core → Core) : State := { s with core := s.core.upd c g }

/-- Pair `n` changed. -/
def State.pairSet (s : State) (n : Nat) (g : Pair → Pair) : State := { s with pair := s.pair.upd n g }

/-- A standard CSR of a core, and one set. -/
def Core.cs (k : Core) (n : Nat) : Nat := k.csr.get n
def Core.setCs (k : Core) (n v : Nat) : Core := { k with csr := k.csr.put n (v % 2 ^ 64) }

/-- An integer register; x0 reads 0 and discards writes. -/
def Core.getX (k : Core) (r : Nat) : Nat := if r = 0 then 0 else k.x.get r
def Core.setX (k : Core) (r v : Nat) : Core := if r = 0 then k else { k with x := k.x.put r (v % 2 ^ 64) }

/-- The world a core issues with (R393). -/
def State.coreWorld (s : State) (c : Nat) : Bool := (s.core.get c).priv == 3 || s.on (mhjvworld_CUR c)

/-- The request of a core (R30, R405). -/
def State.coreReq (s : State) (c : Nat) : Req := { id := s.hartOf c, inner := s.coreWorld c }

/-- RGN_WSTAT.STATE of a hart after its core has changed (R469). -/
def State.wstat (s : State) (c : Nat) : State :=
  let k := s.core.get c
  if s.joined c && !s.isLead c then s
  else if s.get (RGN_WSTAT_STATE (s.hartOf c)) = 2 then s
  else s.set (RGN_WSTAT_STATE (s.hartOf c)) (if k.stopped then 3 else if k.halted then 4 else b2n (s.coreWorld c))

/-! ### Standard CSRs: what reads force and writes admit (R371, R372) -/

/-- mstatus: SD, UXL and SXL. -/
def msFull (v : Nat) : Nat := (v &&& 0x7FFFFFF0FFFFFFFF) ||| 0xA00000000 ||| (if bf v 13 2 = 3 then 2 ^ 63 else 0)

/-- mstatus after a write: SIE, MIE, SPIE, MPIE, SPP, MPP, FS, MPRV, SUM, MXR, TVM, TW, TSR, GVA, MPV. MPP takes 0, 1 and 3. -/
def msWrite (old v : Nat) : Nat :=
  let n := maskPut old 0xC0007E79AA v
  if bf v 11 2 = 2 then putBf n 11 2 (bf old 11 2) else n

/-- The bits of mstatus that sstatus shows. -/
def ssMask : Nat := 0xC6122

/-- vsstatus and sstatus as read. -/
def ssFull (v : Nat) : Nat := (v &&& ssMask) ||| 0x200000000 ||| (if bf v 13 2 = 3 then 2 ^ 63 else 0)

/-- The exceptions that medeleg and hedeleg can delegate; bit 24 reads 0 (R388). -/
def medelegMask : Nat := 0xF0B7FF
def hedelegMask : Nat := 0xB1FF

/-- The interrupts: of S level, of VS level, and all that mie can enable (R399). -/
def sIrqs : Nat := 0x222
def vsIrqs : Nat := 0x444
def mieMask : Nat := 0x10EEE

/-- mideleg as it acts: the VS-level interrupts are always delegated; GEILEN = 0 leaves no guest external interrupt (R371). -/
def Core.mideleg (k : Core) : Nat := (k.cs 0x303 &&& sIrqs) ||| vsIrqs

/-! ### Interrupts (R397 to R400) -/

/-- The core whose interrupt files core `c` reads (R405). -/
def State.inner (s : State) (c : Nat) : List Nat := s.irqInner.get (s.hartOf c)
def State.outer (s : State) (c : Nat) : List Nat := s.irqOuter.get (s.hartOf c)

/-- R397, R399: mip, with the hardware parts. -/
def State.mip (s : State) (c : Nat) : Nat :=
  let k := s.core.get c
  let cur := s.on (mhjvworld_CUR c)
  (k.cs 0x344 &&& sIrqs) ||| (k.cs 0x645 &&& vsIrqs) ||| (if s.inner c ≠ [] then 0x800 else 0) |||
  (if s.outer c ≠ [] ∧ cur = false then 0x200 else 0) ||| (if s.get (mhjvtcmp_CMP c) ≤ s.nowNs then 0x80 else 0) |||
  (if s.get (shjvtcmp_CMP c) ≤ s.nowNs then 0x20 else 0) ||| (if s.on (mhjvberr_VALID c) then 0x1_0000 else 0)

/-- The order of R400. -/
def irqOrder : List Nat := [16, 11, 7, 9, 1, 5, 10, 2, 6]

/-- The pending enabled interrupt that a core takes (R399, R400). -/
def State.pickIrq (s : State) (c : Nat) : Option Nat :=
  let k := s.core.get c
  let p := s.mip c &&& k.cs 0x304
  let md := k.mideleg
  let hd := k.cs 0x603 &&& vsIrqs
  let ms := k.cs 0x300
  let m := if k.priv < 3 || bitOf ms 3 then irqOrder.find? (fun i => bitOf p i && !bitOf md i) else none
  let h := if k.priv = 3 then none
    else if k.virt || k.priv == 0 || bitOf ms 1 then irqOrder.find? (fun i => bitOf p i && bitOf md i && !bitOf hd i) else none
  let v := if k.priv = 3 then none
    else if k.virt && (k.priv == 0 || bitOf (k.cs 0x200) 1) then irqOrder.find? (fun i => bitOf p i && bitOf md i && bitOf hd i) else none
  match m, h, v with
  | some i, _, _ => some i
  | none, some i, _ => some i
  | none, none, v => v

/-! ### Traps (R388, R393 to R396) -/

/-- What a trap carries: whether it is an interrupt, its code, tval, the guest physical address of a guest-page fault, whether tval is a guest virtual
address, and the pseudoinstruction of an implicit access. -/
structure Trap where
  irq : Bool := false
  code : Nat
  tval : Nat := 0
  gpa : Nat := 0
  gva : Bool := false
  tinst : Nat := 0
  deriving DecidableEq, Repr

/-- The handler address that a tvec register gives. -/
def vector (tvec : Nat) (t : Trap) : Nat :=
  let base := tvec / 4 * 4
  if t.irq && tvec % 4 == 1 then (base + 4 * t.code) % 2 ^ 64 else base

/-- xcause. -/
def Trap.cause (t : Trap) : Nat := (if t.irq then 2 ^ 63 else 0) + t.code

/-- The level a trap goes to: 3 M, 1 HS, 0 VS (R388). -/
def Core.trapLevel (k : Core) (t : Trap) : Nat :=
  let md := if t.irq then k.mideleg else k.cs 0x302 &&& medelegMask
  let hd := if t.irq then k.cs 0x603 &&& vsIrqs else k.cs 0x602 &&& hedelegMask
  if k.priv = 3 || !bitOf md t.code then 3 else if k.virt && bitOf hd t.code then 0 else 1

/-- A core after a trap into M-mode (registers only). -/
def Core.trapM (k : Core) (t : Trap) : Core :=
  let ms := k.cs 0x300
  let ms1 := putBf (putBf (putBf (putBf (putBf ms 11 2 k.priv) 7 1 (bf ms 3 1)) 3 1 0) 39 1 (b2n k.virt)) 38 1 (b2n t.gva)
  { (((((k.setCs 0x300 ms1).setCs 0x341 k.pc).setCs 0x342 t.cause).setCs 0x343 t.tval).setCs 0x34B (t.gpa / 4)).setCs 0x34A t.tinst with
    priv := 3, virt := false, pc := vector (k.cs 0x305) t }

/-- A core after a trap into HS-mode. -/
def Core.trapS (k : Core) (t : Trap) : Core :=
  let ms := k.cs 0x300
  let ms1 := putBf (putBf (putBf ms 8 1 (k.priv % 2)) 5 1 (bf ms 1 1)) 1 1 0
  let hs := putBf (putBf (k.cs 0x600) 7 1 (b2n k.virt)) 6 1 (b2n t.gva)
  let hs1 := if k.virt then putBf hs 8 1 (k.priv % 2) else hs
  { ((((((k.setCs 0x300 ms1).setCs 0x600 hs1).setCs 0x141 k.pc).setCs 0x142 t.cause).setCs 0x143 t.tval).setCs 0x643 (t.gpa / 4)).setCs 0x64A t.tinst with
    priv := 1, virt := false, pc := vector (k.cs 0x105) t }

/-- A core after a trap into VS-mode; VS-level interrupts show their S-level codes. -/
def Core.trapV (k : Core) (t : Trap) : Core :=
  let t1 := if t.irq then { t with code := t.code - 1 } else t
  let vs := k.cs 0x200
  let vs1 := putBf (putBf (putBf vs 8 1 (k.priv % 2)) 5 1 (bf vs 1 1)) 1 1 0
  { (((k.setCs 0x200 vs1).setCs 0x241 k.pc).setCs 0x242 t1.cause).setCs 0x243 t1.tval with
    priv := 1, pc := vector (k.cs 0x205) t1 }

/-- R393 to R396: core `c` takes a trap. An exception in the shadow of a trap from the Outer world stops the core instead, with an Inner crash reported to
Compass (R396, R462). -/
def State.takeTrap (s : State) (c : Nat) (t : Trap) : State :=
  let k := s.core.get c
  if k.entry && !t.irq then (s.coreSet c (fun k => { k with crashed := true, seq := k.seq + 1 })).wstat c
  else
    let lvl := k.trapLevel t
    let outer := !s.coreWorld c
    let step (k : Core) : Core :=
      { k with seq := k.seq + 1, res := none, shadow := false, entry := decide (lvl = 3) && outer, wfi := false, wait := none, resp := none }
    if lvl = 3 then
      (((s.coreSet c (fun k => step (k.trapM t))).set (mhjvworld_PW c) (s.get (mhjvworld_CUR c))).set (mhjvworld_SHADOW c) (b2n k.shadow)).wstat c
    else if lvl = 1 then (s.coreSet c (fun k => step (k.trapS t))).set (shjvstat_SHADOW c) (b2n k.shadow)
    else s.coreSet c (fun k => step (k.trapV t))

/-! ### CSRs (R371, R372, R375, R402, R403) -/

/-- Whether a CSR exists (R371, R402, R373). -/
def csrExists (n : Nat) : Bool :=
  [0x001, 0x002, 0x003, 0x100, 0x104, 0x105, 0x106, 0x10A, 0x140, 0x141, 0x142, 0x143, 0x144, 0x180,
   0x200, 0x204, 0x205, 0x240, 0x241, 0x242, 0x243, 0x244, 0x280,
   0x600, 0x602, 0x603, 0x604, 0x605, 0x606, 0x607, 0x60A, 0x643, 0x644, 0x645, 0x64A, 0x680, 0xE12,
   0x300, 0x301, 0x302, 0x303, 0x304, 0x305, 0x306, 0x30A, 0x320, 0x340, 0x341, 0x342, 0x343, 0x344, 0x34A, 0x34B,
   0x3A0, 0x3A2, 0x7A0, 0x7A1, 0x7A2, 0x7A4, 0xB00, 0xB02, 0xF11, 0xF12, 0xF13, 0xF14, 0xF15,
   0x7C0, 0x7C1, 0x7C2, 0x7C3, 0x7C4, 0x5C0, 0x5C1, 0xDC0, 0xFC0].contains n ||
  (decide (0x3B0 ≤ n) && decide (n < 0x3C0)) || (decide (0xB03 ≤ n) && decide (n < 0xB20)) ||
  (decide (0x323 ≤ n) && decide (n < 0x340)) || (decide (0xC00 ≤ n) && decide (n < 0xC20))

/-- The CSR that a number means in a virtual mode: the S-level ones mean their VS-level counterparts. -/
def csrVirt (n : Nat) : Nat :=
  if [0x100, 0x104, 0x105, 0x140, 0x141, 0x142, 0x143, 0x144, 0x180].contains n then n + 0x100 else n

/-- How an access ends: allowed, illegal instruction, or virtual instruction. -/
inductive CsrOk where
  | ok | illegal | virtual
  deriving DecidableEq, Repr

/-- The counter-enable bits in force for a counter read (R371, R387). -/
def Core.counterOk (k : Core) (bit : Nat) : CsrOk :=
  if k.priv = 3 then .ok
  else if !bitOf (k.cs 0x306) bit then .illegal
  else if k.virt && !bitOf (k.cs 0x606) bit then .virtual
  else if k.priv = 0 && !bitOf (k.cs 0x106) bit then (if k.virt then .virtual else .illegal)
  else .ok

/-- Whether floating-point state is on. -/
def Core.fpOn (k : Core) : Bool := bf (k.cs 0x300) 13 2 != 0 && (!k.virt || bf (k.cs 0x200) 13 2 != 0)

/-- The check of an access to CSR `n` (R371, R402). Every custom CSR raises virtual instruction from VS and VU. -/
def Core.csrCheck (k : Core) (n : Nat) (write : Bool) : CsrOk :=
  let lvl := n / 256 % 4
  if !csrExists n then .illegal
  else if k.virt && k.priv != 3 && [0x7C0, 0x7C1, 0x7C2, 0x7C3, 0x7C4, 0x5C0, 0x5C1, 0xDC0, 0xFC0].contains n then .virtual
  else if write && n / 1024 == 3 then .illegal
  else if n < 4 then (if k.fpOn then .ok else .illegal)
  else if 0xC00 ≤ n && n < 0xC20 then k.counterOk (n % 32)
  else if k.priv = 3 then .ok
  else if lvl = 3 then .illegal
  else if k.virt then
    if lvl = 2 || k.priv == 0 then .virtual
    else if n == 0x180 && bitOf (k.cs 0x600) 20 then .virtual
    else .ok
  else if k.priv = 0 then .illegal
  else if (n == 0x180 || n == 0x680) && bitOf (k.cs 0x300) 20 then .illegal
  else .ok

/-- R398: a claim: the lowest pending source of a file, which is cleared. -/
def State.claim (s : State) (c : Nat) (inner : Bool) : State × Nat :=
  let h := s.hartOf c
  if inner then
    match s.irqInner.get h with
    | [] => (s, 0)
    | x :: r => ({ s with irqInner := s.irqInner.put h r }, 2 ^ 63 + x)
  else if s.on (mhjvworld_CUR c) then (s, 0)
  else
    match s.irqOuter.get h with
    | [] => (s, 0)
    | x :: r => ({ s with irqOuter := s.irqOuter.put h r }, 2 ^ 63 + x)

/-- pmpcfg of entry `i`, pmpaddr of entry `i`. -/
def Core.pmpcfg (k : Core) (i : Nat) : Nat := bf (k.cs (0x3A0 + 2 * (i / 8))) (8 * (i % 8)) 8
def Core.pmpaddr (k : Core) (i : Nat) : Nat := k.cs (0x3B0 + i)

/-- A CSR as read by a core, without the side effects of a claim (R372, R375, R397, R399, R403). `n` is the CSR after `csrVirt`. -/
def State.csrGet (s : State) (c n : Nat) : Nat :=
  let k := s.core.get c
  match n with
  | 0x001 => k.cs 3 % 32
  | 0x002 => bf (k.cs 3) 5 3
  | 0x003 => k.cs 3 % 256
  | 0x100 => ssFull (k.cs 0x300)
  | 0x200 => ssFull (k.cs 0x200)
  | 0x300 => msFull (k.cs 0x300)
  | 0x301 => 0x80000000009411AD
  | 0x302 => k.cs 0x302 &&& medelegMask
  | 0x303 => k.mideleg
  | 0x304 => k.cs 0x304 &&& mieMask
  | 0x344 => s.mip c
  | 0x104 => k.cs 0x304 &&& k.mideleg &&& sIrqs
  | 0x144 => s.mip c &&& k.mideleg &&& sIrqs
  | 0x204 => (k.cs 0x304 &&& k.cs 0x603 &&& vsIrqs) / 2
  | 0x244 => (s.mip c &&& k.cs 0x603 &&& vsIrqs) / 2
  | 0x600 => (k.cs 0x600 &&& 0x7003C0) ||| 0x200000000
  | 0x602 => k.cs 0x602 &&& hedelegMask
  | 0x603 => k.cs 0x603 &&& vsIrqs
  | 0x604 => k.cs 0x304 &&& vsIrqs
  | 0x644 => s.mip c &&& vsIrqs
  | 0x645 => k.cs 0x645 &&& vsIrqs
  | 0x607 => 0
  | 0xE12 => 0
  | 0xF11 => 0
  | 0xF12 => 0x8000000000004896
  | 0xF13 => 1
  | 0xF14 => s.hartOf c
  | 0xF15 => 0
  | 0x7A0 => k.cs 0x7A0 % 4
  | 0x7A1 => k.cs (0x1_7A10 + k.cs 0x7A0 % 4)
  | 0x7A2 => k.cs (0x1_7A20 + k.cs 0x7A0 % 4)
  | 0x7A4 => 4
  | 0xC00 => k.cs 0xB00
  | 0xC01 => (s.nowNs + (if k.virt then k.cs 0x605 else 0)) % 2 ^ 64
  | 0xC02 => k.cs 0xB02
  | 0x7C0 => s.get (mhjvworld_SHADOW c) * 2 ^ 63 + (if s.outer c ≠ [] ∧ s.on (mhjvworld_CUR c) then 4 else 0) + s.get (mhjvworld_PW c) * 2 +
      s.get (mhjvworld_CUR c)
  | 0x7C1 => 0
  | 0x5C0 => 0
  | 0x7C2 => s.get (mhjvctl_NOSPEC c) * 2
  | 0x7C3 => s.get (mhjvtcmp_CMP c)
  | 0x7C4 => s.get (mhjvberr_VALID c) * 2 ^ 63 + s.get (mhjvberr_WORLD c) * 2 ^ 62 + s.get (mhjvberr_MORE c) * 2 ^ 48 + s.get (mhjvberr_ADDR c)
  | 0x5C1 => s.get (shjvtcmp_CMP c)
  | 0xDC0 => s.get (shjvstat_SHADOW c) * 2 ^ 63
  | 0xFC0 => b2n (s.joined c) * 8 + s.hartOf c % 8
  | n =>
    if 0xC03 ≤ n ∧ n < 0xC20 then (if n < 0xC0B then k.cs (0xB00 + n % 32) else 0)
    else if 0xB0B ≤ n ∧ n < 0xB20 then 0
    else if 0x32B ≤ n ∧ n < 0x340 then 0
    else if 0x3B0 ≤ n ∧ n < 0x3C0 then (if bitOf (k.pmpcfg (n - 0x3B0)) 4 then k.cs n ||| 0x1FF else k.cs n / 1024 * 1024)
    else k.cs n

/-- A read of a CSR by an instruction with its side effects: a claim clears the pending bit (R398), MORE clears (R403). -/
def State.csrRead (s : State) (c n : Nat) : State × Nat :=
  match n with
  | 0x7C1 => s.claim c true
  | 0x5C0 => s.claim c false
  | 0x7C4 => (s.set (mhjvberr_MORE c) 0, s.csrGet c 0x7C4)
  | n => (s, s.csrGet c n)

/-- The values a satp, vsatp or hgatp takes: MODE Bare or 8 (R371). -/
def atpWrite (old v : Nat) : Nat := if v / 2 ^ 60 = 0 ∨ v / 2 ^ 60 = 8 then v else old

/-- pmpcfg bytes after a write: locked entries keep theirs; W without R is not taken. -/
def Core.pmpcfgWrite (k : Core) (n v : Nat) : Nat :=
  let first := (n - 0x3A0) * 4
  ofBytes ((List.range 8).map (fun j =>
    let old := k.pmpcfg (first + j)
    let b := bf v (8 * j) 8 &&& 0x9F
    if bitOf old 7 || (bitOf b 1 && !bitOf b 0) then old else b))

/-- Whether pmpaddr `i` is locked: by its own entry, or by the next one in TOR mode. -/
def Core.pmpLocked (k : Core) (i : Nat) : Bool :=
  bitOf (k.pmpcfg i) 7 || (decide (i < 15) && bitOf (k.pmpcfg (i + 1)) 7 && bf (k.pmpcfg (i + 1)) 3 2 == 1)

/-- A write of a standard CSR held by the core. -/
def Core.csrSet (k : Core) (n v : Nat) : Core :=
  match n with
  | 0x001 => k.setCs 3 (putBf (k.cs 3) 0 5 v)
  | 0x002 => k.setCs 3 (putBf (k.cs 3) 5 3 v)
  | 0x003 => k.setCs 3 (v % 256)
  | 0x100 => k.setCs 0x300 (maskPut (k.cs 0x300) ssMask v)
  | 0x200 => k.setCs 0x200 (v &&& ssMask)
  | 0x300 => k.setCs 0x300 (msWrite (k.cs 0x300) v)
  | 0x301 => k
  | 0x302 => k.setCs 0x302 (v &&& medelegMask)
  | 0x303 => k.setCs 0x303 (v &&& sIrqs)
  | 0x304 => k.setCs 0x304 (v &&& mieMask)
  | 0x104 => k.setCs 0x304 (maskPut (k.cs 0x304) (k.mideleg &&& sIrqs) v)
  | 0x204 => k.setCs 0x304 (maskPut (k.cs 0x304) (k.cs 0x603 &&& vsIrqs) (v * 2))
  | 0x604 => k.setCs 0x304 (maskPut (k.cs 0x304) vsIrqs v)
  | 0x344 => (k.setCs 0x344 (maskPut (k.cs 0x344) sIrqs v)).setCs 0x645 (maskPut (k.cs 0x645) 4 v)
  | 0x144 => k.setCs 0x344 (maskPut (k.cs 0x344) (k.mideleg &&& 2) v)
  | 0x244 => k.setCs 0x645 (maskPut (k.cs 0x645) (k.cs 0x603 &&& 4) (v * 2))
  | 0x644 => k.setCs 0x645 (maskPut (k.cs 0x645) 4 v)
  | 0x645 => k.setCs 0x645 (v &&& vsIrqs)
  | 0x600 => k.setCs 0x600 (v &&& 0x7003C0)
  | 0x602 => k.setCs 0x602 (v &&& hedelegMask)
  | 0x603 => k.setCs 0x603 (v &&& vsIrqs)
  | 0x607 => k
  | 0x105 => k.setCs 0x105 (if v % 4 < 2 then v else v / 4 * 4)
  | 0x205 => k.setCs 0x205 (if v % 4 < 2 then v else v / 4 * 4)
  | 0x305 => k.setCs 0x305 (if v % 4 < 2 then v else v / 4 * 4)
  | 0x106 => k.setCs 0x106 (v % 2 ^ 32)
  | 0x306 => k.setCs 0x306 (v % 2 ^ 32)
  | 0x606 => k.setCs 0x606 (v % 2 ^ 32)
  | 0x10A => k.setCs 0x10A (v % 2)
  | 0x30A => k.setCs 0x30A (v % 2)
  | 0x60A => k.setCs 0x60A (v % 2)
  | 0x320 => k.setCs 0x320 (v &&& 0x7FD)
  | 0x141 => k.setCs 0x141 (v / 2 * 2)
  | 0x241 => k.setCs 0x241 (v / 2 * 2)
  | 0x341 => k.setCs 0x341 (v / 2 * 2)
  | 0x180 => k.setCs 0x180 (atpWrite (k.cs 0x180) v)
  | 0x280 => k.setCs 0x280 (atpWrite (k.cs 0x280) v)
  | 0x680 => k.setCs 0x680 (atpWrite (k.cs 0x680) (v &&& 0xF3FFFFFFFFFFFFFC))
  | 0x3A0 => k.setCs 0x3A0 (k.pmpcfgWrite 0x3A0 v)
  | 0x3A2 => k.setCs 0x3A2 (k.pmpcfgWrite 0x3A2 v)
  | 0x7A0 => k.setCs 0x7A0 (v % 4)
  | 0x7A1 => k.setCs (0x1_7A10 + k.cs 0x7A0 % 4) (v % 2 ^ 59 + 2 * 2 ^ 60)
  | 0x7A2 => k.setCs (0x1_7A20 + k.cs 0x7A0 % 4) v
  | 0x7A4 => k
  | n =>
    if 0x3B0 ≤ n ∧ n < 0x3C0 then (if k.pmpLocked (n - 0x3B0) then k else k.setCs n (v % 2 ^ 54))
    else if 0x323 ≤ n ∧ n < 0x340 then (if n < 0x32B then k.setCs n (v % 16) else k)
    else if 0xB0B ≤ n ∧ n < 0xB20 then k
    else k.setCs n v

/-- A write of a CSR by an instruction (R384, R393, R398, R403). -/
def State.csrWrite (s : State) (c n v : Nat) : State :=
  match n with
  | 0x7C0 => s.set (mhjvworld_CUR c) (v % 2)
  | 0x7C1 => s
  | 0x5C0 => s
  | 0x7C2 =>
    let s1 := s.set (mhjvctl_NOSPEC c) (bf v 1 1)
    if bitOf v 0 then s1.coreSet c (fun k => { k with pred := 0 }) else s1
  | 0x7C3 => s.set (mhjvtcmp_CMP c) v
  | 0x5C1 => s.set (shjvtcmp_CMP c) v
  | 0x7C4 => if bitOf v 63 then s.set (mhjvberr_VALID c) 0 else s
  | n => s.coreSet c (fun k => k.csrSet n v)

/-- R380: an error response to a store or write-back: mhjvberr, and MBEI through it. -/
def State.berr (s : State) (c : Nat) (inner : Bool) (addr : Nat) : State :=
  if s.on (mhjvberr_VALID c) then s.inc (mhjvberr_MORE c)
  else ((s.set (mhjvberr_VALID c) 1).set (mhjvberr_WORLD c) (b2n inner)).set (mhjvberr_ADDR c) addr

/-! ### Start, stop and reset of a core -/

/-- The registers of a core right after its reset: M-mode in the Inner world, everything else 0. -/
def Core.fresh : Core := {}

/-- The custom CSRs of a core, which every reset of the core returns to their reset values (R403). -/
def coreFlds (c : Nat) : List Fld :=
  [mhjvworld_SHADOW c, mhjvworld_PW c, mhjvworld_CUR c, mhjvctl_NOSPEC c, mhjvtcmp_CMP c, mhjvberr_VALID c, mhjvberr_WORLD c, mhjvberr_MORE c,
   mhjvberr_ADDR c, shjvtcmp_CMP c, shjvstat_SHADOW c]

/-- A core held in reset, with fresh state; what it still waits for on PCIe no longer reaches it. -/
def State.coreReset (s : State) (c : Nat) : State :=
  let deaf (q : PcieReq) : PcieReq := if q.id = c then { q with core := false } else q
  let s1 : State := { s with pcie := { s.pcie with out := s.pcie.out.map deaf } }
  (s1.each (coreFlds c) (fun s f => s.set f f.rst)).coreSet c (fun _ => Core.fresh)

/-- A core that starts at `pc` in M-mode in the Inner world with a0 to a2 (R464). -/
def State.coreStart (s : State) (c pc a0 a1 a2 : Nat) : State :=
  let s1 := s.coreReset c
  (s1.coreSet c (fun k => { ((k.setX 10 a0).setX 11 a1).setX 12 a2 with pc := pc, live := true })).wstat c

/-- The counters of one tick: mcycle counts 4 ns while the core is not stopped in WFI (R375). -/
def Core.tick (k : Core) : Core :=
  if !k.live || k.wfi || bitOf (k.cs 0x320) 0 then k else k.setCs 0xB00 ((k.cs 0xB00 + 4) % 2 ^ 64)

/-- hpmcounter events counted (R375). -/
def Core.count (k : Core) (ev n : Nat) : Core :=
  [3, 4, 5, 6, 7, 8, 9, 10].foldl (fun k i =>
    if ev ≠ 0 ∧ k.cs (0x320 + i) = ev ∧ !bitOf (k.cs 0x320) i then k.setCs (0xB00 + i) (k.cs (0xB00 + i) + n) else k) k

end Sys2Proof.Machine
end

