-- ==== Sys2Proof/Machine/Pair.lean ====
section
/-! DEFINITION. Redundant pairs without the accesses they release: mismatch, escalation, checkpoints, recovery, slices and debug (R405 to R436). -/

namespace Sys2Proof.Machine

open Sys2Proof

/-- PAIR_STAT.STATE: 0 split, 1 running, 2 restarting, 3 replaying, 4 solo, 5 halted, 6 escalated (R436). -/
def State.pst (s : State) (n : Nat) : Nat := s.get (PAIR_STAT_STATE n)

/-- JOCC and JMAX after a change of the journal (R436). -/
def State.jocc (s : State) (n : Nat) : State :=
  let l := (s.pair.get n).journal.length
  (s.set (PAIR_STAT_JOCC n) l).track (PAIR_CKSTAT_JMAX n) l

/-! ### Checkpoints (R417 to R421) -/

/-- R417: a checkpoint is requested: the lead stands at the count it has retired; during a commit the request waits. -/
def State.ckBegin (s : State) (n : Nat) : State :=
  let p := s.pair.get n
  if s.pst n ≠ 1 ∨ p.ckAt.isSome then s
  else if p.commit.isSome then s.pairSet n (fun p => { p with ckPend := true })
  else s.pairSet n (fun p => { p with ckAt := some (s.core.get (s.leadOf n)).seq })

/-- R409, R411: an entry is appended to the journal; at 28,672 entries a checkpoint is forced. -/
def State.jrnAdd (s : State) (n : Nat) (e : JEntry) : State :=
  let s1 := (s.pairSet n (fun p => { p with journal := p.journal ++ [e] })).jocc n
  if (s1.pair.get n).journal.length = 28672 ∧ s1.pst n = 1 then (s1.inc (PAIR_CKSTAT_FORCED n)).ckBegin n else s1

/-- R420: what a checkpoint image and a signature cover of a core: registers, counters, mode and CSRs, without what belongs to the running of the copy. -/
def State.archOf (s : State) (c : Nat) : CkImage :=
  let k := s.core.get c
  { core := { k with res := none, halted := false, single := false, pbuf := [], wait := none, resp := none, jpos := 0, dpos := 0, pred := 0, live := true }
    csrs := (coreFlds c).map (fun f => (f.lo, s.get f)) }

/-- What the signatures of two copies are compared for: the image without the counters, which no retired write sets (R375, R418). -/
def CkImage.sig (i : CkImage) : CkImage :=
  { i with core := [0xB00, 0xB03, 0xB04, 0xB05, 0xB06, 0xB07, 0xB08, 0xB09, 0xB0A].foldl (fun k n => k.setCs n 0) i.core }

/-- The custom CSRs of a core from an image. -/
def State.csrsLoad (s : State) (c : Nat) (l : List (Nat × Nat)) : State :=
  s.each ((coreFlds c).zip l) (fun s p => s.set p.1 p.2.2)

/-- A core loaded from an image (R424). -/
def State.imageLoad (s : State) (c : Nat) (i : CkImage) : State := (s.csrsLoad c i.csrs).coreSet c (fun _ => i.core)

/-- The pair as a start leaves it: both copies hold one state, which is the committed checkpoint, and nothing waits (R424, R427; log entry 23). -/
def State.pairFresh (s : State) (n : Nat) : State :=
  let s1 := s.imageLoad (2 * n + 1) (s.archOf (2 * n))
  let s2 := (s1.pairSet n (fun p => { misms := p.misms, image := some (s1.archOf (2 * n)), slot := p.slot })).jocc n
  (s2.set (PAIR_CNT_DBGJ n) 0).set (PAIR_STAT_STATE n) 1

/-- R419: the commit completes: the other slot becomes the committed one, and what lies before the checkpoint is freed. -/
def State.ckCommit (s : State) (n : Nat) : State :=
  match (s.pair.get n).commit with
  | none => s
  | some (im, j, d, r) =>
    let s1 := s.pairSet n (fun p => { p with commit := none, image := some im, slot := 1 - p.slot, journal := p.journal.drop j, dbg := p.dbg.drop d
                                             released := p.released.drop r, ckPend := false })
    let back (k : Core) : Core := { k with jpos := k.jpos - j, dpos := k.dpos - d }
    let s2 := (((s1.coreSet (2 * n) back).coreSet (2 * n + 1) back).jocc n).addWrap (PAIR_CKCNT_CNT n) 1
    let s3 := s2.set (PAIR_CNT_DBGJ n) (s2.pair.get n).dbg.length
    if (s.pair.get n).ckPend then s3.ckBegin n else s3

/-! ### Mismatch, recovery and escalation (R422 to R428) -/

/-- What both an escalation and a block reset of the page do to the cores: held in reset, journals and release buffer cleared, both slots invalid. -/
def State.pairHold (s : State) (n : Nat) : State :=
  let s1 := (s.coreReset (2 * n)).coreReset (2 * n + 1)
  let s2 := (s1.pairSet n (fun p => { misms := p.misms })).jocc n
  s2.set (PAIR_CNT_DBGJ n) 0

/-- R427: the pair escalates with a cause of R434. -/
def State.escalate (s : State) (n cause : Nat) : State :=
  let s1 := (((s.pairHold n).set (PAIR_STAT_STATE n) 6).set (PAIR_STAT_ESCD n) 1)
  s1.raiseC (41 + 2 * n) cause (s1.get (PAIR_STAT_LAST n))

/-- The times of the mismatches of pair `n` within the last 100 ms (R427). -/
def State.recentMisms (s : State) (n : Nat) : List Nat := (s.pair.get n).misms.filter (fun t => decide (s.pow.elapsed < t + 100000000))

/-- PAIR_STAT.WIN as a read shows it (R434). -/
def State.pairShow (s : State) (n : Nat) : State := s.set (PAIR_STAT_WIN n) (min (s.recentMisms n).length 2)

/-- R422, R423, R427: pair `n` detects a mismatch. -/
def State.mismatch (s : State) (n code : Nat) : State :=
  if ¬ (s.pst n = 1 ∨ s.pst n = 2 ∨ s.pst n = 3 ∨ s.pst n = 5) then s
  else
    let again := s.pst n == 2 || s.pst n == 3
    let now := s.pow.elapsed
    let ms := s.recentMisms n ++ [now]
    let s1 := s.pairSet n (fun p => { p with hreq := p.hreq || (s.core.get (s.leadOf n)).halted, lq := [], sq := [], journal := p.journal.filter (fun e => e.verified), traps := [], ckAt := none, ckPend := false, commit := none
                                             replayed := [], drop := 0, rejoin := 0, misms := ms, detect := if again then p.detect else now })
    let stop (k : Core) : Core := { k with wait := none, resp := none }
    let s2 := ((s1.coreSet (2 * n) stop).coreSet (2 * n + 1) stop).jocc n
    let s3 := ((s2.set (PAIR_MPOS_CNT n) (s.core.get (s.leadOf n)).cnt).inc (PAIR_CNT_MISM n)).set (PAIR_STAT_LAST n) code
    let s4 := ((s3.set (PAIR_STAT_WIN n) (min ms.length 2)).raiseC (40 + 2 * n) code (s3.get (PAIR_CNT_MISM n))).set (PAIR_STAT_STATE n) 2
    if again then s4.escalate n 2 else if 3 ≤ ms.length then s4.escalate n 1 else s4

/-- R424: both copies hold the committed image and the replay starts; an image whose CRC fails escalates (R427). -/
def State.restoreDone (s : State) (n : Nat) (crcOk : Bool) : State :=
  if s.pst n ≠ 2 then s
  else match (s.pair.get n).image with
    | none => s.escalate n 4
    | some im =>
      if !crcOk then s.escalate n 4
      else
        let s1 := (s.imageLoad (2 * n) im).imageLoad (2 * n + 1) im
        (s1.pairSet n (fun p => { p with replayed := [], lq := [], sq := [], traps := [] })).set (PAIR_STAT_STATE n) 3

/-- A core stops for debug: dpc and dcsr are its pc and its privilege. -/
def Core.halt (k : Core) : Core := { k with halted := true, single := false }

/-- A register write by number: CSRs below 0x1000, x0 to x31 from 0x1000, f0 to f31 from 0x1020 (the numbers of RISC-V External Debug Support, R373). -/
def State.dbgWrite (s : State) (c reg v : Nat) : State :=
  if 0x1020 ≤ reg then s.coreSet c (fun k => { k with f := k.f.put (reg % 32) (v % 2 ^ 64) })
  else if 0x1000 ≤ reg then s.coreSet c (fun k => k.setX (reg % 32) v)
  else if reg = 0x7B1 then s.coreSet c (fun k => { k with pc := v % 2 ^ 64 / 2 * 2 })
  else s.csrWrite c reg (v % 2 ^ 64)

/-- A program buffer as halfwords. -/
def halves (words : List Nat) : List Nat := words.flatMap (fun w => [w % 2 ^ 16, w / 2 ^ 16 % 2 ^ 16])

/-- R430: the entries of the string replay journal at the step where copy `c` stands: register writes are applied, a program buffer is loaded, and what has stopped or started
the lead needs nothing. -/
def State.dbgCatch : Nat → State → Nat → State
  | 0, s, _ => s
  | m + 1, s, c =>
    let k := s.core.get c
    match (s.pair.get (c / 2)).dbg[k.dpos]? with
    | none => s
    | some (q, a) =>
      if q ≠ k.seq ∨ k.pbuf ≠ [] then s
      else
        let s1 := s.coreSet c (fun k => { k with dpos := k.dpos + 1 })
        match a with
        | .write r v => State.dbgCatch m (s1.dbgWrite c r v) c
        | .prog w => s1.coreSet c (fun k => { k with pbuf := halves w })
        | _ => State.dbgCatch m s1 c

/-- R431: both copies have stopped: the shadow stands where the lead has halted. -/
def State.haltCheck (s : State) (n : Nat) : State :=
  let l := s.core.get (s.leadOf n)
  let h := s.core.get (s.shadowOf n)
  if l.halted ∧ l.pbuf = [] ∧ h.seq = l.seq ∧ h.pbuf = [] ∧ s.pst n = 1 then
    ((s.dbgCatch 256 (s.shadowOf n)).coreSet (s.shadowOf n) (fun k => k.halt)).set (PAIR_STAT_STATE n) 5
  else s

/-- An action recorded in the string replay journal (R430). -/
def State.dbgAdd (s : State) (n : Nat) (a : DbgAct) : State :=
  let q := (s.core.get (s.leadOf n)).seq
  let s1 := s.pairSet n (fun p => { p with dbg := p.dbg ++ [(q, a)] })
  (s1.coreSet (s.leadOf n) (fun k => { k with dpos := (s1.pair.get n).dbg.length })).set (PAIR_CNT_DBGJ n) (s1.pair.get n).dbg.length

/-- R431: a halt of a joined pair: the lead stops after the count it has retired, and the action is recorded. -/
def State.haltPair (s : State) (n : Nat) : State :=
  if (s.pair.get n).dbg.length ≥ 256 then s.emit (.link "DEBUG_CMDERR" [2 * n, 1])
  else (((s.dbgAdd n .halt).coreSet (s.leadOf n) Core.halt).wstat (s.leadOf n)).haltCheck n

/-- Whether both copies have used the last verified entry and passed the last access released before (R425). -/
def State.replayAtEnd (s : State) (n : Nat) : Bool :=
  let p := s.pair.get n
  decide (p.journal.length ≤ (s.core.get (2 * n)).jpos) && decide (p.journal.length ≤ (s.core.get (2 * n + 1)).jpos) &&
  decide (p.dbg.length ≤ (s.core.get (2 * n)).dpos) && p.replayed.length == p.released.length

/-- R425 to R427: the replay ends: its hash is compared, and fresh inputs and release resume, with cause 7. -/
def State.replayEnd (s : State) (n : Nat) (hashOk : Bool) : State :=
  if s.pst n ≠ 3 ∨ !s.replayAtEnd n then s
  else
    let p := s.pair.get n
    let strip (l : List Acs) : List Acs := l.map (fun (a : Acs) => { a with seq := 0 })
    if !hashOk || strip p.replayed != strip p.released then s.escalate n 3
    else
      let us := (s.pow.elapsed - p.detect) / 1000
      let s1 := ((s.set (PAIR_REC_LAST n) (satU 16 us)).track (PAIR_REC_MAX n) us).set (PAIR_STAT_STATE n) 1
      let s2 := (s1.pairSet n (fun p => { p with replayed := [], hreq := false })).raiseC (40 + 2 * n) 7 (satU 16 us)
      if p.hreq then s2.haltPair n else s2

/-- R418: the signatures are compared once both copies stand at the checkpoint and every access before it has been released (log entry 24); a match takes the
image to be committed. -/
def State.checkpoint (s : State) (n : Nat) (sigOk : Bool) : State :=
  let s0 := s.ckBegin n
  let p := s0.pair.get n
  match p.ckAt with
  | none => s0
  | some k =>
    let l := s0.leadOf n
    let h := s0.shadowOf n
    if s0.pst n ≠ 1 ∨ (s0.core.get l).seq ≠ k ∨ (s0.core.get h).seq ≠ k ∨ p.lq.any (fun (a : Acs) => decide (a.seq < k)) ∨ p.commit.isSome then s0
    else
      let a := s0.archOf l
      let b := s0.archOf h
      if !sigOk || a.sig != b.sig then s0.mismatch n 3
      else s0.pairSet n (fun p => { p with ckAt := none, commit := some (a, (s0.core.get l).jpos, (s0.core.get l).dpos, (p.released.filter (fun (a : Acs) => decide (a.seq < k))).length) })

/-! ### Self-test slices (R429) -/

/-- R429: copy `c` leaves its pair at the committed checkpoint, and the other runs as lead. -/
def State.soloBegin (s : State) (c : Nat) : State :=
  let n := c / 2
  let s1 := s.pairSet n (fun p =>
    { p with swap := decide (c % 2 = 0), lq := if c = s.leadOf n then p.sq else p.lq, sq := [], traps := [], ckAt := none, ckPend := false })
  (s1.coreSet c (fun k => { k with live := false })).set (PAIR_STAT_STATE n) 4

/-- R429: copy `c` loads the committed image and replays the journal; accesses released since are not compared again. -/
def State.soloEnd (s : State) (c : Nat) : State :=
  let n := c / 2
  match (s.pair.get n).image with
  | none => s
  | some im =>
    let s1 := s.imageLoad c im
    (s1.pairSet n (fun p => { p with drop := p.released.length, rejoin := (s.core.get (s.leadOf n)).seq, sq := [], traps := [] })).set (PAIR_STAT_STATE n) 1

/-! ### Debug (R430, R431) -/

/-- The core that a debug request acts on: the lead of a joined pair, where the debug module presents hart 2n alone (R430). -/
def State.dbgCore (s : State) (c : Nat) : Option Nat :=
  if s.joined c then (if c % 2 = 0 then some (s.leadOf (c / 2)) else none) else some c

/-- R512: the debug port reaches the harts: in MAKER, OEM_DEV and RETURN, and in FIELD under a granted unlock. -/
def State.dbgOpen (s : State) : Bool :=
  let lc := s.cmp.ks.lc
  lc == 1 || lc == 2 || lc == 4 || (lc == 3 && Option.isSome s.cmp.debug)

/-- A debug action on a core: done on the lead and recorded, or done on an unpaired core. A full string replay journal answers busy (R431). -/
def State.dbgDo (s : State) (c : Nat) (a : DbgAct) (g : State → Nat → State) : State :=
  match s.dbgCore c with
  | none => s
  | some l =>
    if s.joined c then
      if (s.pair.get (c / 2)).dbg.length ≥ 256 then s.emit (.link "DEBUG_CMDERR" [c, 1])
      else g (s.dbgAdd (c / 2) a) l
    else g s l

/-- R431: a halt stops the lead after the count it has retired; the shadow runs to it. During a restart or replay it waits for its end. -/
def execDebugHalt (c : Fin 8) (s : State) : Host.Outcome State Fault Refusal :=
  if !s.dbgOpen then done s
  else if (s.core.get c).stopped || !(s.core.get c).live then done s
  else if s.joined c then
    if c.val % 2 = 1 then done s
    else if s.pst (c.val / 2) = 2 ∨ s.pst (c.val / 2) = 3 then done (s.pairSet (c.val / 2) (fun p => { p with hreq := true }))
    else done (s.haltPair (c.val / 2))
  else done ((s.coreSet c Core.halt).wstat c)

/-- R430: a resume. -/
def execDebugResume (c : Fin 8) (s : State) : Host.Outcome State Fault Refusal :=
  let go (s : State) (l : Nat) : State :=
    let s1 := (s.coreSet l (fun k => { k with halted := false })).wstat l
    if s1.joined l then
      let s2 := s1.coreSet (s1.shadowOf (l / 2)) (fun k => { k with halted := false })
      if s2.pst (l / 2) = 5 then s2.set (PAIR_STAT_STATE (l / 2)) 1 else s2
    else s1
  if s.dbgOpen && ((s.core.get c).halted || s.joined c) then done (s.dbgDo c .resume go) else done s

/-- R430: a single step: the halted core runs one instruction and halts again. -/
def execDebugStep (c : Fin 8) (s : State) : Host.Outcome State Fault Refusal :=
  let go (s : State) (l : Nat) : State :=
    let s1 := s.coreSet l (fun k => { k with halted := false, single := true })
    if s1.joined l then
      let s2 := s1.coreSet (s1.shadowOf (l / 2)) (fun k => { k with halted := false })
      if s2.pst (l / 2) = 5 then s2.set (PAIR_STAT_STATE (l / 2)) 1 else s2
    else s1
  match s.dbgCore c with
  | none => done s
  | some l => if s.dbgOpen && (s.core.get l).halted then done (s.dbgDo c .step go) else done s

/-- R430, R431: an abstract register write on a halted core. -/
def execDebugAbstractWrite (c : Fin 8) (reg value : Nat) (s : State) : Host.Outcome State Fault Refusal :=
  match s.dbgCore c with
  | none => done s
  | some l =>
    if s.dbgOpen && (s.core.get l).halted then
      let s1 := s.dbgDo c (.write reg value) (fun s l => s.dbgWrite l reg value)
      -- the shadow, where it has stopped at the same count, applies the entry at once
      if s1.joined c && s1.pst (c.val / 2) == 5 && decide ((s.pair.get (c.val / 2)).dbg.length < 256) then
        done ((s1.dbgWrite (s1.shadowOf (c.val / 2)) reg value).coreSet (s1.shadowOf (c.val / 2)) (fun k => { k with dpos := (s1.pair.get (c.val / 2)).dbg.length }))
      else done s1
    else done s

/-! ### The commands of the pairs that release nothing -/

/-- R422: the shadow does not produce the access the release buffer holds from the lead, or does not reach K, in time. -/
def execPairLagTimeout (n : Fin 4) (s : State) : Host.Outcome State Fault Refusal :=
  let p := s.pair.get n
  let h := s.core.get (s.shadowOf n)
  if (p.lq ≠ [] ∧ p.sq = []) ∨ (match p.ckAt with | some k => decide (h.seq < k) | none => false) = true then done (s.mismatch n 5) else done s

/-- R418. -/
def execCheckpoint (n : Fin 4) (sigOk : Bool) (s : State) : Host.Outcome State Fault Refusal :=
  if !decide (n.val < nPair s.part) then done s else
  done (s.checkpoint n sigOk)

/-- R419. -/
def execCheckpointCommit (n : Fin 4) (s : State) : Host.Outcome State Fault Refusal := done (s.ckCommit n)

/-- R424. -/
def execPairRestoreDone (n : Fin 4) (crcOk : Bool) (s : State) : Host.Outcome State Fault Refusal := done (s.restoreDone n crcOk)

/-- R425. -/
def execPairReplayEnd (n : Fin 4) (hashOk : Bool) (s : State) : Host.Outcome State Fault Refusal := done (s.replayEnd n hashOk)

end Sys2Proof.Machine
end

