-- ==== Sys2Proof/Machine/Pwm.lean ====
section
/-! DEFINITION. Trip sources, comparators, the reference monitor, and the PWM pairs: edges, periods, loads, trips and safe states
(R89, R106 to R125). -/

namespace Sys2Proof.Machine

open Sys2Proof

/-! ### The state of a pair -/

/-- The hidden state of a PWM pair changed. -/
def State.pwmUpd (s : State) (j : Nat) (f : PwmSt → PwmSt) : State := { s with conv := { s.conv with pwm := s.conv.pwm.upd j f } }

/-- Units of 25 ps per unit of the counter: fine or coarse (R110). -/
def State.pwmUnit (s : State) (j : Nat) : Nat := if s.on (PWM_CFG_COARSE j) then 256 else 1

/-- The dead time of an output in 25 ps (R113, R114, R122). -/
def State.pwmDt (s : State) (j : Nat) (o : Bool) : Nat := s.get (if o then PWM_DT_DTB j else PWM_DT_DTA j)

/-- The smallest period of the mode (R110). -/
def State.pwmMin (s : State) (j : Nat) : Nat := if s.on (PWM_CFG_COARSE j) then 79 else 20000

/-- The active period (R110). -/
def State.pwmPer (s : State) (j : Nat) : Nat := max (s.pwmMin j) (s.get (PWM_ACT_PER_VALUE j))

/-- ON and OFF of an output (B: `o = true`), values above PER acting as PER; B in complementary mode rises at OFF and falls at ON (R111, R113). -/
def State.pwmOnOff (s : State) (j : Nat) (o : Bool) : Nat × Nat :=
  let per := s.pwmPer j
  let a := (min per (s.get (PWM_ACT_ONA_VALUE j)), min per (s.get (PWM_ACT_OFFA_VALUE j)))
  if !o then a
  else if s.on (PWM_CFG_COMPL j) then (a.2, a.1)
  else (min per (s.get (PWM_ACT_ONB_VALUE j)), min per (s.get (PWM_ACT_OFFB_VALUE j)))

/-- The dead time that R113 puts before a rise of an output, in 25 ps. -/
def State.pwmDead (s : State) (j : Nat) (o : Bool) : Nat :=
  if s.on (PWM_CFG_COMPL j) then s.pwmDt j o else 0

/-- Whether R111 holds an output high for the whole period, or low. -/
def State.pwmSteady (s : State) (j : Nat) (o : Bool) : Option Bool :=
  let c := o && s.on (PWM_CFG_COMPL j)
  let p := if c then s.pwmOnOff j false else s.pwmOnOff j o
  if p.1 = p.2 then some c
  else if p.1 = 0 && p.2 == s.pwmPer j then some (!c)
  else none

/-- The level that R111 gives for counter value `t`. -/
def State.pwmLevel (s : State) (j : Nat) (o : Bool) (t : Nat) : Bool :=
  match s.pwmSteady j o with
  | some v => v
  | none =>
    let p := s.pwmOnOff j o
    if p.1 ≤ p.2 then decide (p.1 ≤ t) && decide (t < p.2) else decide (t < p.2) || decide (p.1 ≤ t)

/-- Bits of the edges in `taken`: A rise 0, A fall 1, B rise 2, B fall 3. -/
def pwmBit (o rise : Bool) : Nat := 2 * b2n o + (if rise then 0 else 1)

/-- The counter time of an edge in 25 ps, dead time included; none where the output has no such edge (R111, R113). -/
def State.pwmEdgeTime (s : State) (j : Nat) (o rise : Bool) : Option Nat :=
  match s.pwmSteady j o with
  | some v => if v == rise then some (if rise then s.pwmDead j o else 0) else none
  | none =>
    let p := s.pwmOnOff j o
    some (if rise then p.1 * s.pwmUnit j + s.pwmDead j o else p.2 * s.pwmUnit j)

/-- The width in 25 ps of the pulse that an edge begins: high for a rise, low for a fall; none for a steady output (R113, R115). -/
def State.pwmWidth (s : State) (j : Nat) (o rise : Bool) : Option Int :=
  match s.pwmSteady j o with
  | some _ => none
  | none =>
    let p := s.pwmOnOff j o
    let per := s.pwmPer j
    let hi : Int := ((if p.1 ≤ p.2 then p.2 - p.1 else per - p.1 + p.2) * s.pwmUnit j : Nat) - (s.pwmDead j o : Int)
    some (if rise then hi else (per * s.pwmUnit j : Nat) - hi)

/-! ### Driving the balls (R122, R124, R125) -/

/-- The level a safe-state code stands for: 0 low, 1 high, 2 high impedance (R132). -/
def safeLevel (c : Nat) : Nat := if c = 1 then 1 else if c = 2 then 2 else 0

/-- The safe levels of a pair: both high gives both low (R122). -/
def State.pwmSafe (s : State) (j : Nat) : Nat × Nat :=
  let a := safeLevel (s.get (PWM_TRIPCTL_SAFEA j))
  let b := safeLevel (s.get (PWM_TRIPCTL_SAFEB j))
  if a = 1 ∧ b = 1 then (0, 0) else (a, b)

/-- Whether a pair is in a trip. -/
def State.pwmTripped (s : State) (j : Nat) : Bool := s.on (PWM_STAT_TRIPPED j) || s.on (PWM_STAT_CBC j)

/-- R36: whether the output stage of pair `j` is enabled: on a twin that of the active half alone, in half A until the takeover line disables it, all at once after a failure and pair by pair in a handoff (R38), in half B
after a takeover from the pair's next period start on. -/
def State.stageOn (s : State) (j : Nat) : Bool :=
  match s.part with
  | .twinA => s.get SYS_TWIN_ROLE == 1 && !bitOf s.pow.cut j
  | .twinB => (s.get SYS_TWIN_ROLE == 1 || s.get SYS_TWIN_ROLE == 3) && !bitOf s.pow.takeover j
  | _ => true

/-- The level driven on an output, and the elapsed time at which it was last driven low. -/
def PwmSt.ball (p : PwmSt) (o : Bool) : Nat := if o then p.b else p.a
def PwmSt.lowAt (p : PwmSt) (o : Bool) : Nat := if o then p.lowB else p.lowA

/-- R122: the other output has been low for the dead time of `o` (25 ps units against ns). -/
def State.pwmLongLow (s : State) (j : Nat) (o : Bool) : Bool :=
  let p := s.conv.pwm.get j
  p.ball (!o) == 0 && decide (25 * s.pwmDt j o ≤ 1000 * (s.pow.elapsed - p.lowAt (!o)))

/-- R122: the level of an output in a trip: low and high impedance at once, high only after the other has been low for the dead time; beside a high output that has fallen
or left for high impedance it stays low until that time ends. -/
def State.pwmSafeOut (s : State) (j : Nat) (o : Bool) : Nat :=
  let p := s.conv.pwm.get j
  let v := if o then (s.pwmSafe j).2 else (s.pwmSafe j).1
  if v ≠ 1 then v else if (p.ball o = 1 ∧ p.ball (!o) ≠ 1) ∨ s.pwmLongLow j o = true then 1 else 0

/-- The level that edge rules and FORCE ask of an output (R113, R125). -/
def State.pwmWant (s : State) (j : Nat) (o : Bool) : Bool :=
  let p := s.conv.pwm.get j
  let fa := s.get (PWM_CTL_FORCEA j)
  let fb := s.get (PWM_CTL_FORCEB j)
  let a := if fa = 1 then false else if fa = 2 then true else p.va
  if !o then a
  else if s.on (PWM_CFG_COMPL j) then (if fa = 1 || fa = 2 then !a else p.vb)
  else if fb = 1 then false else if fb = 2 then true else p.vb

/-- An output is asked high and neither held nor waiting for its dead time. -/
def State.pwmEff (s : State) (j : Nat) (o : Bool) : Bool :=
  let p := s.conv.pwm.get j
  s.pwmWant j o && !bitOf p.held (b2n o) && !bitOf p.wait (b2n o)

/-- R114: a hold ends when the output is no longer asked high, or when the other is high no more; its dead time then follows. -/
def State.pwmFree (s : State) (j : Nat) (o : Bool) : State :=
  let i := b2n o
  if !s.pwmWant j o then s.pwmUpd j (fun p => { p with held := clrBit p.held i, wait := clrBit p.wait i })
  else if bitOf (s.conv.pwm.get j).held i && !s.pwmEff j (!o) then
    s.pwmUpd j (fun p => { p with held := clrBit p.held i, wait := putBit p.wait i (s.pwmDt j o != 0) })
  else s

/-- The levels of a pair's balls: low while disabled or awaiting the first sync, safe in a trip, else the edge rules under FORCE,
complementary mode and XLOCK (R113, R114, R122, R124, R125). -/
def State.pwmTarget (s : State) (j : Nat) : Nat × Nat :=
  let p := s.conv.pwm.get j
  if !s.stageOn j then (2, 2)
  else if !s.on (PWM_CTL_EN j) then (0, 0)
  else if s.pwmTripped j then (s.pwmSafeOut j false, s.pwmSafeOut j true)
  else if p.await then (0, 0)
  else
    let a := s.pwmEff j false
    let b := s.pwmEff j true
    if s.on (PWM_CFG_XLOCK j) && a && b then (if p.b = 1 then (0, 1) else (1, 0)) else (b2n a, b2n b)

/-- A blanking window opens on the comparators that blank on an output of pair `j` (R107). -/
def State.blankOpen (s : State) (j : Nat) (o : Bool) : State :=
  s.each (List.range 24) (fun t k =>
    if t.get (CMP_CTL_BLKPAIR k) = j && t.get (CMP_CTL_BLKOUT k) == b2n o && t.on (CMP_CTL_BLANK k) then
      { t with conv := { t.conv with cmp := t.conv.cmp.upd k (fun c => { c with blank := true }) } }
    else t)

/-- One ball driven to level `v`; the units that capture it see its edge (R59, R66), and blanking opens (R107). -/
def State.pwmBall (s : State) (j : Nat) (o : Bool) (old v : Nat) : State :=
  if old = v then s
  else
    let now := s.pow.elapsed
    let s1 := (s.pwmUpd j (fun p => if o then { p with b := v, lowB := if v = 0 then now else p.lowB } else { p with a := v, lowA := if v = 0 then now else p.lowA })).emit
      (.ball (if o then "PWM_B" else "PWM_A") j v)
    if (old == 1) != (v == 1) then (s1.follow (s1.capDues (64 + 2 * j + b2n o) (v == 1))).blankOpen j o else s1

/-- The balls brought to their levels: what falls or leaves for high impedance goes before what rises (R114, R122). -/
def State.pwmDrive (s0 : State) (j : Nat) : State :=
  let s := (s0.pwmFree j false).pwmFree j true
  let p := s.conv.pwm.get j
  let t := s.pwmTarget j
  let s1 := if t.1 = 1 then s else s.pwmBall j false p.a t.1
  let s2 := s1.pwmBall j true p.b t.2
  if t.1 = 1 then s2.pwmBall j false p.a 1 else s2

/-- R113, R114, R125: an output that FORCE, or the end of a trip, asks high while the other is high: under XLOCK it is held, and counted, until the other has fallen and its dead time
has passed; output B in complementary mode waits its dead time after A. -/
def State.pwmClash (s : State) (j : Nat) (o : Bool) : State :=
  let p := s.conv.pwm.get j
  let x := s.on (PWM_CFG_XLOCK j)
  let c := o && s.on (PWM_CFG_COMPL j)
  let hold (t : State) : State := (t.inc (PWM_STAT_LATE j)).pwmUpd j (fun q => { q with held := putBit q.held (b2n o) true })
  let wait (t : State) : State := t.pwmUpd j (fun q => { q with wait := putBit q.wait (b2n o) (s.pwmDt j o != 0) })
  if !s.pwmEff j o || p.ball o == 1 then s
  else if p.ball (!o) = 1 then
    if s.pwmEff j (!o) then (if x then hold s else s)
    else if c then wait s
    else if x then wait (s.inc (PWM_STAT_LATE j))
    else s
  else if o && x && s.pwmEff j false then hold s
  else s

/-- Both outputs. -/
def State.pwmClashes (s : State) (j : Nat) : State := (s.pwmClash j false).pwmClash j true

/-- The pair's outputs follow edge rules and FORCE: enabled, started, in no trip. -/
def State.pwmLive (s : State) (j : Nat) : Bool := s.on (PWM_CTL_EN j) && !s.pwmTripped j && !(s.conv.pwm.get j).await

/-! ### Trips (R121 to R123) -/

/-- Whether pair `j` selects the trip source with code `c` of PWM_TRIPSRC (R121, R132). -/
def State.pwmSelects (s : State) (j c : Nat) : Bool :=
  if c < 24 then bitOf (s.get (PWM_TRIPSEL_CMP j)) c
  else if c < 28 then bitOf (s.get (PWM_TRIPSEL_SDF j)) (c - 24)
  else if c < 32 then bitOf (s.get (PWM_TRIPSEL_EXT j)) (c - 28)
  else if c = 32 then s.on (PWM_TRIPCTL_REFTRIP j)
  else true

/-- Whether a trip source is active (R123). -/
def State.tripActive (s : State) (c : Nat) : Bool :=
  if c < 24 then s.on (CMP_STAT_OUT c)
  else if c < 28 then (s.conv.sdf.get (c - 24)).line
  else if c < 32 then bitOf s.conv.ext (c - 28)
  else if c = 32 then s.on ADC_REFSTAT_MISMATCH
  else if c = 34 then s.conv.laneLost
  else false

/-- The lowest code of the selected sources that are active for pair `j`; the lane's loss acts on enabled pairs (R20, R121, R123). -/
def State.pwmActive (s : State) (j : Nat) : Option Nat :=
  (List.range 35).find? (fun c => s.pwmSelects j c && s.tripActive c && (c != 34 || s.on (PWM_CTL_EN j)))

/-- R121 to R123: a source with code `c` trips pair `j`. Outside a trip it is recorded, PWM_GSTAT and the trip bit are set, source
128 + j is raised and the safe states are driven; a latching source latches a cycle-by-cycle trip; a TRIPCLR that waits is void. -/
def State.pwmTrip (s : State) (j c : Nat) : State :=
  let latch := decide (33 ≤ c) || !s.on (PWM_TRIPCTL_CBC j)
  if s.on (PWM_STAT_TRIPPED j) then s.pwmUpd j (fun p => { p with clr := false })
  else if s.on (PWM_STAT_CBC j) then
    (if 33 ≤ c then ((s.set (PWM_STAT_CBC j) 0).set (PWM_STAT_TRIPPED j) 1).raiseC (128 + j) 1 c else s)
  else
    let s1 := ((s.set (PWM_TRIPSRC_VALID j) 1).set (PWM_TRIPSRC_SRC j) c).setBit PWM_GSTAT_TRIPPED j true
    let s2 := (if latch then s1.set (PWM_STAT_TRIPPED j) 1 else s1.set (PWM_STAT_CBC j) 1).pwmUpd j (fun p => { p with clr := false })
    (s2.raiseC (128 + j) 1 c).pwmDrive j

/-- A source with code `c` that has become active trips every pair that selects it. -/
def State.tripAll (s : State) (c : Nat) : State :=
  s.each (List.range 24) (fun t j => if t.pwmSelects j c && (c != 34 || t.on (PWM_CTL_EN j)) then t.pwmTrip j c else t)

/-- A new selection: a selected source that is active trips the pair (R121). -/
def State.pwmRescan (s : State) (j : Nat) : State :=
  match s.pwmActive j with
  | some c => s.pwmTrip j c
  | none => s

/-- R123: at a period start a cycle-by-cycle trip ends when no selected source is active, a latched one when TRIPCLR was accepted; the outputs resume. -/
def State.pwmTripEnd (s : State) (j : Nat) : State :=
  let resume (t : State) : State := (t.setBit PWM_GSTAT_TRIPPED j false).pwmUpd j (fun p => { p with held := 0, wait := 0 })
  if s.on (PWM_STAT_CBC j) && (s.pwmActive j).isNone then resume (s.set (PWM_STAT_CBC j) 0)
  else if s.on (PWM_STAT_TRIPPED j) && (s.conv.pwm.get j).clr then
    let s1 := s.pwmUpd j (fun p => { p with clr := false })
    if (s.pwmActive j).isNone then resume (s1.set (PWM_STAT_TRIPPED j) 0) else s1
  else s

/-- R121: a write of 1 to SWTRIP trips the pair, latched. -/
def execPwmSwtrip (j : Fin 24) (s : State) : Host.Outcome State Fault Refusal :=
  if !decide (j.val < nPwm s.part) then done s else
  done (s.pwmTrip j 33)

/-- R121, R132: a write of 1 to GTRIP trips every enabled pair, latched. -/
def State.pwmGtrip (s : State) : State := s.each (List.range 24) (fun t j => if t.on (PWM_CTL_EN j) then t.pwmTrip j 35 else t)

def execPwmGtrip (s : State) : Host.Outcome State Fault Refusal := done s.pwmGtrip

/-- R123: a write of 1 to TRIPCLR while no selected source is active lets a latched trip end at the next period start. -/
def State.pwmTripclr (s : State) (j : Nat) : State :=
  if s.on (PWM_STAT_TRIPPED j) && (s.pwmActive j).isNone then s.pwmUpd j (fun p => { p with clr := true }) else s

def execPwmTripclr (j : Fin 24) (s : State) : Host.Outcome State Fault Refusal :=
  if !decide (j.val < nPwm s.part) then done s else
  done (s.pwmTripclr j)

/-- R122: a level on PWM_TRIPi_N has lasted the filter: low asserts the ball's trip line, high releases it. -/
def execExternalTripBallChange (i : Fin 4) (level : Bool) (s : State) : Host.Outcome State Fault Refusal :=
  let s1 : State := { s with conv := { s.conv with ext := putBit s.conv.ext i (!level) } }
  if !level && !bitOf s.conv.ext i then done (s1.tripAll (28 + i)) else done s1

/-! ### The reference monitor (R89) -/

/-- R89: a comparison with deviation `dev` in 0.01 %: DEV and NOW, and at the third comparison of an excursion MISMATCH, source 7 and
the trips of the pairs with REFTRIP. -/
def execRefMonitorCompare (dev : Int) (s : State) : Host.Outcome State Fault Refusal :=
  let ex := decide (s.get ADC_REFCTL_THR < dev.natAbs)
  let run := if ex then s.conv.refRun + 1 else 0
  let s1 : State := { s with conv := { s.conv with refRun := run } }
  let s2 := (s1.setS ADC_REFSTAT_DEV dev).set ADC_REFSTAT_NOW (b2n ex)
  if run = 3 then done (((s2.set ADC_REFSTAT_MISMATCH 1).raise 7 (ofS 16 dev)).tripAll 32) else done s2

/-- R89: a write of 1 to MISMATCH clears it only while NOW = 0. -/
def execRefMismatchClear (s : State) : Host.Outcome State Fault Refusal :=
  if s.on ADC_REFSTAT_NOW then done s else done (s.set ADC_REFSTAT_MISMATCH 0)

/-! ### Comparators (R106 to R108). Voltages count in units of 2.500 V / 1,024,000, of which a threshold LSB has 1,000, a DAC LSB 250
and 10 mV 4,096; `v` is the input as the comparator sees it against its thresholds. -/

/-- The thresholds HI and LO in force (R106). -/
def State.cmpThr (s : State) (k : Nat) : Nat × Nat :=
  let r := s.get (CMP_CTL_REFSEL k)
  let hi := if 1 ≤ r ∧ r ≤ 4 then (if s.on (DAC_CTL_EN (r - 1)) then 250 * s.get (DAC_VAL_VALUE (r - 1)) else 0)
    else 1000 * s.get (CMP_THR_HI k)
  (hi, 1000 * s.get (CMP_THR_LO k))

/-- HYST in voltage units: 0, 10, 20 or 40 mV (R131). -/
def State.cmpHyst (s : State) (k : Nat) : Nat := [0, 4096, 8192, 16384].getD (s.get (CMP_CTL_HYST k)) 0

/-- The side on which the input is active: 0 none, 1 above HI, 2 below HI with POL = 1, or below LO in window mode (R106). -/
def State.cmpSide (s : State) (k : Nat) (v : Nat) : Nat :=
  let t := s.cmpThr k
  if s.on (CMP_CTL_WINDOW k) then (if t.1 < v then 1 else if v < t.2 then 2 else 0)
  else if s.on (CMP_CTL_POL k) then (if v < t.1 then 2 else 0)
  else if t.1 < v then 1 else 0

/-- Whether an active comparator is released: the input lies HYST past the threshold of its side (R106). -/
def State.cmpReleases (s : State) (k side v : Nat) : Bool :=
  let t := s.cmpThr k
  let h := s.cmpHyst k
  if side = 1 then decide (v + h < t.1)
  else if s.on (CMP_CTL_WINDOW k) then decide (t.2 + h < v)
  else decide (t.1 + h < v)

/-- The hidden state of a comparator changed. -/
def State.cmpUpd (s : State) (k : Nat) (f : CmpSt → CmpSt) : State := { s with conv := { s.conv with cmp := s.conv.cmp.upd k f } }

/-- The trip line of a comparator changed: what captures it or is dispatched by it follows (R66, R139). -/
def State.cmpOut (s : State) (k : Nat) (v : Bool) : State :=
  if s.on (CMP_STAT_OUT k) = v then s
  else (s.set (CMP_STAT_OUT k) (b2n v)).follow (s.capDues (16 + k) v ++ (if v then s.slotDues 4 k s.exact else []))

/-- The trip line set to the filtered output outside blanking; a rising line counts, sets LATCH, raises 104 + k and trips (R107). -/
def State.cmpLine (s : State) (k : Nat) : State :=
  let c := s.conv.cmp.get k
  if c.blank then s
  else if c.filtered && !s.on (CMP_STAT_OUT k) then
    let s1 := ((s.cmpOut k true).inc (CMP_STAT_TRIPS k)).set (CMP_STAT_LATCH k) 1
    (s1.raise (104 + k) (s1.get (CMP_STAT_TRIPS k))).tripAll k
  else if !c.filtered then s.cmpOut k false
  else s

/-- R106, R107: the input has crossed into the active side and lasted the filter. -/
def execComparatorTrip (k : Fin 24) (v : Nat) (s : State) : Host.Outcome State Fault Refusal :=
  if !decide (k.val < nCmp s.part) then done s else
  let side := s.cmpSide k v
  if s.on (CMP_CTL_EN k) && side != 0 then
    done (((s.set (CMP_STAT_RAW k) 1).cmpUpd k (fun c => { c with side := side, filtered := true })).cmpLine k)
  else done s

/-- R106: the input has passed HYST beyond the threshold and lasted the filter; beyond the other threshold of a window it stays active. -/
def execComparatorRelease (k : Fin 24) (v : Nat) (s : State) : Host.Outcome State Fault Refusal :=
  if !decide (k.val < nCmp s.part) then done s else
  let c := s.conv.cmp.get k
  if c.side != 0 && s.cmpReleases k c.side v then
    let side := s.cmpSide k v
    if side = 0 then
      done (((s.set (CMP_STAT_RAW k) 0).cmpUpd k (fun x => { x with side := 0, filtered := false })).cmpLine k)
    else done (s.cmpUpd k (fun x => { x with side := side }))
  else done s

/-- R107, R108: a blanking window ends: the trip line follows the filtered output again. -/
def execBlankingEnd (k : Fin 24) (s : State) : Host.Outcome State Fault Refusal :=
  if !decide (k.val < nCmp s.part) then done s else
  done ((s.cmpUpd k (fun c => { c with blank := false })).cmpLine k)

/-- A comparator that is switched off is inactive (R107, R131). -/
def State.cmpOff (s : State) (k : Nat) : State :=
  if s.on (CMP_CTL_EN k) then s
  else ((s.set (CMP_STAT_RAW k) 0).cmpOut k false).cmpUpd k (fun c => { c with side := 0, filtered := false })

/-! ### Edges (R111 to R115) -/

/-- The edge-rule level of an output. -/
def PwmSt.level (p : PwmSt) (o : Bool) : Bool := if o then p.vb else p.va

/-- The edge-rule level of an output set. -/
def PwmSt.setLevel (p : PwmSt) (o v : Bool) : PwmSt := if o then { p with vb := v } else { p with va := v }

/-- An output rises; while the other is high under XLOCK its edge is held and counted (R114). -/
def State.pwmRise (s : State) (j : Nat) (o : Bool) : State :=
  if (s.conv.pwm.get j).level o then s
  else
    let s1 := s.pwmUpd j (fun q => q.setLevel o true)
    if s.on (PWM_CFG_XLOCK j) && s1.pwmWant j o && s1.pwmEff j (!o) then
      (s1.inc (PWM_STAT_LATE j)).pwmUpd j (fun q => { q with held := putBit q.held (b2n o) true })
    else s1

/-- An output falls; a rise of the other that it held back waits for its dead time (R114). -/
def State.pwmFall (s : State) (j : Nat) (o : Bool) : State := s.pwmUpd j (fun q => q.setLevel o false)

/-- Whether the pulse that an edge begins is not driven: shorter than MINPW, or gone under its dead time (R113, R115). -/
def State.pwmShort (s : State) (j : Nat) (o rise : Bool) : Bool :=
  match s.pwmWidth j o rise with
  | some w => decide (w < 10 * (s.get (PWM_CFG_MINPW j) : Int)) || decide (w ≤ 0)
  | none => false

/-- An edge taken (R111 to R115). -/
def State.pwmTakeEdge (s : State) (j : Nat) (o rise : Bool) : State :=
  let s1 := s.pwmUpd j (fun q => { q with taken := putBit q.taken (pwmBit o rise) true })
  if s1.pwmShort j o rise && (s1.conv.pwm.get j).level o != rise then s1.inc (PWM_STAT_MINCNT j)
  else if rise then s1.pwmRise j o else s1.pwmFall j o

/-- R114, R122, R125: the dead time ends that an output waits for: it rises; in a trip, where its safe state is high and the other output is low. -/
def State.pwmDeadEnd (s : State) (j : Nat) (o : Bool) : State :=
  let p := s.conv.pwm.get j
  if s.pwmTripped j then
    if s.stageOn j && s.on (PWM_CTL_EN j) && (if o then (s.pwmSafe j).2 else (s.pwmSafe j).1) == 1 && p.ball (!o) == 0 then s.pwmBall j o (p.ball o) 1 else s
  else if bitOf p.wait (b2n o) then (s.pwmUpd j (fun q => { q with wait := clrBit q.wait (b2n o) })).pwmDrive j
  else s

/-- R111 to R115: the counter reaches the rising or falling edge of output A or B; with `dead`, the dead time ends that the output's rise waits for. -/
def execPwmEdge (j : Fin 24) (outB rise dead : Bool) (s : State) : Host.Outcome State Fault Refusal :=
  let p := s.conv.pwm.get j
  if dead then (if rise then done (s.pwmDeadEnd j outB) else done s)
  else match s.pwmEdgeTime j outB rise with
  | some t =>
    if s.on (PWM_STAT_RUN j) && !p.await && !bitOf p.taken (pwmBit outB rise) then
      done (((s.pwmUpd j (fun q => { q with cnt := max q.cnt (t / s.pwmUnit j) })).pwmTakeEdge j outB rise).pwmDrive j)
    else done s
  | none => done s

/-! ### Loads and periods (R112, R116 to R119) -/

/-- R112: ON and OFF from DUTY and PER. -/
def dutyEdges (duty per align : Nat) : Nat × Nat :=
  if duty = 0 then (0, 0)
  else if per ≤ duty then (0, per)
  else
    let al := if align = 3 then (if 2 * duty ≤ per then 1 else 2) else align
    if al = 0 then (0, duty)
    else if al = 1 then ((per - duty) / 2, (per - duty) / 2 + duty)
    else (per - duty / 2, duty / 2)

/-- R117: the seven shadow registers copied into the pending set in one step. -/
def State.pwmCommit (s : State) (j : Nat) : State :=
  (s.pwmUpd j (fun p => { p with pend := some [s.get (PWM_SH_PHASE_VALUE j), s.get (PWM_SH_PER_VALUE j), s.get (PWM_SH_ONA_VALUE j),
    s.get (PWM_SH_OFFA_VALUE j), s.get (PWM_SH_ONB_VALUE j), s.get (PWM_SH_OFFB_VALUE j), s.get (PWM_SH_DUTY_VALUE j)] })).set
    (PWM_STAT_PEND j) 1

def execPwmCommit (j : Fin 24) (s : State) : Host.Outcome State Fault Refusal :=
  if !decide (j.val < nPwm s.part) then done s else
  done (s.pwmCommit j)

/-- R110, R112, R117: the pending set becomes active whole. PWM_ACT_PER then shows the period that acts, a smaller one as the minimum (DESIGN CHOICE, log entry 125). -/
def State.pwmLoad (s : State) (j : Nat) : State :=
  match (s.conv.pwm.get j).pend with
  | some [phase, per0, ona, offa, onb, offb, duty] =>
    let per := max (s.pwmMin j) per0
    let a := if s.on (PWM_CFG_DUTYMODE j) then dutyEdges duty per (s.get (PWM_CFG_ALIGN j)) else (ona, offa)
    let s1 := ((s.pwmUpd j (fun p => { p with pend := none })).set (PWM_STAT_PEND j) 0).set (PWM_ACT_PER_VALUE j) per
    let s2 := ((s1.set (PWM_ACT_ONA_VALUE j) a.1).set (PWM_ACT_OFFA_VALUE j) a.2).set (PWM_ACT_ONB_VALUE j) onb
    (s2.set (PWM_ACT_OFFB_VALUE j) offb).set (PWM_ACT_PHASE_VALUE j) phase
  | _ => s

/-- R118: a load at a period start (`mid = false`) or at mid-period, where LOAD names it and the commit reached the island at least
4 cycles before (`settled`). -/
def State.pwmLoadAt (s : State) (j : Nat) (mid settled : Bool) : State :=
  let l := s.get (PWM_CFG_LOAD j)
  if settled && (l == 2 || l == (if mid then 1 else 0)) then s.pwmLoad j else s

/-- The edges of a pair that are not taken yet and lie at or before time `w`, in the order of their times, falls first among equals: time, output, rise. -/
def State.pwmDueEdges (s : State) (j w : Nat) : List (Nat × Bool × Bool) :=
  ([(false, false), (true, false), (false, true), (true, true)].filterMap (fun e =>
    match s.pwmEdgeTime j e.1 e.2 with
    | some t => if !bitOf (s.conv.pwm.get j).taken (pwmBit e.1 e.2) && decide (t ≤ w) then some (t, e.1, e.2) else none
    | none => none)).foldl (fun l x => l.takeWhile (fun y => decide (y.1 ≤ x.1)) ++ x :: l.dropWhile (fun y => decide (y.1 ≤ x.1))) []

/-- R119: after a load at counter value `c`, the edges not yet taken whose new times do not lie after the load point occur now, in the order of their times, and
count in LATE. -/
def State.pwmLateEdges (s : State) (j c : Nat) : State :=
  s.each (s.pwmDueEdges j (c * s.pwmUnit j)) (fun t e => (t.inc (PWM_STAT_LATE j)).pwmTakeEdge j e.2.1 e.2.2)

/-- One output at a period start with counter value `c`: the level of R111, a rise waiting for its dead time; the edges at or before `c`
are taken (R116, R119). A pulse that is too short is not driven, and counted unless its edge in the period before has been (R115). -/
def State.pwmReload (c j : Nat) (s : State) (o : Bool) : State :=
  let want := s.pwmLevel j o c
  let p := s.conv.pwm.get j
  let short := p.level o != want && s.pwmShort j o want
  let wait := want && !p.level o && s.pwmDead j o != 0 && !short
  let s1 := if short then s.setIf (!bitOf p.taken (pwmBit o want)) (PWM_STAT_MINCNT j) (satU 8 (s.get (PWM_STAT_MINCNT j) + 1))
    else if want then (if wait then s else s.pwmRise j o) else s.pwmFall j o
  let gone (rise : Bool) : Bool := match s.pwmEdgeTime j o rise with
    | some t => decide (t ≤ c * s.pwmUnit j) && !(rise && wait)
    | none => false
  s1.pwmUpd j (fun q =>
    { q with taken := putBit (putBit q.taken (pwmBit o true) (gone true)) (pwmBit o false) (gone false) })

/-- A period start: the counter at `c`, the trip's end, the outputs, and the slots of engines that follow it (R116, R118, R123, R139). -/
def State.pwmStart (s : State) (j c : Nat) : State :=
  let s1 := ((s.pwmUpd j (fun p => { p with cnt := c })).pwmTripEnd j).follow (s.slotDues 2 j s.exact)
  if (s1.conv.pwm.get j).await then s1.pwmDrive j
  else
    let s2 := (s1.pwmReload c j false).pwmReload c j true
    (if s.pwmTripped j && !s1.pwmTripped j then s2.pwmClashes j else s2).pwmDrive j

/-- R119: after a load at counter value `c` inside a period: the late edges, and the end of the period where the new PER lies below the counter. That end is no wrap without
a sync (DESIGN CHOICE, log entry 126). -/
def State.pwmReplan (s : State) (j c : Nat) : State :=
  let s1 := s.pwmLateEdges j c
  if s1.pwmPer j < c then s1.pwmStart j 0 else s1.pwmDrive j

/-- A sync error counted and reported (R116). It has no trip source: bits [5:0] of its word are 0 (DESIGN CHOICE, log entry 127). -/
def State.pwmSyncErr (s : State) (j : Nat) : State := (s.inc (PWM_STAT_SYNCERR j)).raiseC (128 + j) 2 0

/-- R116, R118, R123: the counter wraps to 0; with SYNC = 1 it has passed the sync window, which counts. -/
def execPwmPeriodStart (j : Fin 24) (settled : Bool) (s : State) : Host.Outcome State Fault Refusal :=
  if !s.on (PWM_STAT_RUN j) then done s
  else
    let s1 := if s.on (PWM_CFG_SYNC j) then s.pwmSyncErr j else s
    done ((s1.pwmLoadAt j false settled).pwmStart j 0)

/-- R118, R119, R139: the counter reaches PER / 2. -/
def execPwmMidPeriod (j : Fin 24) (settled : Bool) (s : State) : Host.Outcome State Fault Refusal :=
  if !s.on (PWM_STAT_RUN j) then done s
  else
    let c := s.pwmPer j / 2
    let l := s.get (PWM_CFG_LOAD j)
    let s1 := (s.pwmUpd j (fun p => { p with cnt := max p.cnt c })).follow (s.slotDues 3 j s.exact)
    if settled && (l == 1 || l == 2) && (s.conv.pwm.get j).pend.isSome then
      let s2 := s1.pwmLoad j
      if (s.conv.pwm.get j).await then done s2 else done (s2.pwmReplan j c)
    else done s1

/-- R118, R119: with LOAD = 0b11 the pending set loads 10 ns after its commit, at counter value `c`. -/
def execPwmSetLoad (j : Fin 24) (c : Nat) (s : State) : Host.Outcome State Fault Refusal :=
  if s.get (PWM_CFG_LOAD j) != 3 || (s.conv.pwm.get j).pend.isNone then done s
  else if s.on (PWM_STAT_RUN j) && !(s.conv.pwm.get j).await then
    done (((s.pwmUpd j (fun p => { p with cnt := c })).pwmLoad j).pwmReplan j c)
  else done (s.pwmLoad j)

/-- R55, R116, R118, R119, R125: a firing of SYNCTRG reaches pair `j` at counter value `c`: counted when below the window, but not the first one after EN is set; the counter
reloads with the PHASE active before a set that loads here. -/
def execPwmSync (j : Fin 24) (c : Nat) (settled : Bool) (s0 : State) : Host.Outcome State Fault Refusal :=
  match s0.arrive (· == .sync j) with
  | none => done s0
  | some (_, s) =>
    if !(s.on (PWM_CFG_SYNC j) && s.on (PWM_STAT_RUN j)) then done s
    else
      let early := decide (c * s.pwmUnit j + 4 * s.get (PWM_CFG_SYNCWIN j) < s.pwmPer j * s.pwmUnit j)
      let s1 := if early && !(s.conv.pwm.get j).fresh then s.pwmSyncErr j else s
      let phase := s1.get (PWM_ACT_PHASE_VALUE j)
      done (((s1.pwmUpd j (fun p => { p with await := false, fresh := false })).pwmLoadAt j false settled).pwmStart j phase)

/-- R118, R125: EN as written: setting it starts the counter at PHASE, the outputs at once or at the first sync; clearing it drives both low. -/
def State.pwmEnable (s : State) (j : Nat) (was settled : Bool) : State :=
  if s.on (PWM_CTL_EN j) && !was then
    let s1 := (s.pwmLoadAt j false settled).set (PWM_STAT_RUN j) 1
    (s1.pwmUpd j (fun p => { p with await := s.on (PWM_CFG_SYNC j), fresh := true, va := false, vb := false, held := 0, wait := 0, taken := 0 })).pwmStart j
      (s1.get (PWM_ACT_PHASE_VALUE j))
  else if !s.on (PWM_CTL_EN j) && was then
    ((s.set (PWM_STAT_RUN j) 0).pwmUpd j (fun p => { p with await := false, va := false, vb := false, held := 0, wait := 0 })).pwmDrive j
  else s

/-- After EN is set, a source that is active trips the pair (R20, R121). -/
def State.pwmEnabled (s : State) (j : Nat) (was settled : Bool) : State :=
  let s1 := s.pwmEnable j was settled
  if s.on (PWM_CTL_EN j) && !was then s1.pwmRescan j else s1

def execPwmEnableWrite (j : Fin 24) (en settled : Bool) (s : State) : Host.Outcome State Fault Refusal :=
  if !decide (j.val < nPwm s.part) then done s else
  done ((s.set (PWM_CTL_EN j) (b2n en)).pwmEnabled j (s.on (PWM_CTL_EN j)) settled)

/-- R125: FORCEA and FORCEB as written override the edge rules of their outputs at once. -/
def execPwmForceWrite (j : Fin 24) (forceA forceB : Fin 4) (s : State) : Host.Outcome State Fault Refusal :=
  if !decide (j.val < nPwm s.part) then done s else
  let s1 := (s.set (PWM_CTL_FORCEA j) forceA).set (PWM_CTL_FORCEB j) forceB
  done ((if s1.pwmLive j then s1.pwmClashes j else s1).pwmDrive j)

/-! ### Sigma-delta settings (R101, R102, R130) -/

/-- The hidden state of a filter changed. -/
def State.sdfUpd (s : State) (m : Nat) (f : SdfSt → SdfSt) : State := { s with conv := { s.conv with sdf := s.conv.sdf.upd m f } }

/-- ORDER of the main filter; 0 acts as 1 (R130). -/
def State.sdfOrder (s : State) (m : Nat) : Nat := max 1 (s.get (SDF_FLT_ORDER m))

/-- R101: what the AZC drives on SD_CLKm: 2 high impedance, else 100 MHz / d as 3 + 10 × d, d from 4 to 15. -/
def State.sdfClock (s : State) (m : Nat) : Nat := if s.on (SDF_CTL_CLKOUT m) then 3 + 10 * max 4 (s.get (SDF_CTL_CLKDIV m)) else 2

/-- A modulator clock that is driven goes to high impedance (R550). -/
def State.sdfClockOff (s : State) (m : Nat) : State := if s.on (SDF_CTL_CLKOUT m) then s.emit (.ball "SD_CLK" m 2) else s

/-! ### What writes and reads of the converter registers do (R94, R96, R109, R117, R121 to R125, R129 to R132) -/

/-- The action of a write to a register of the converter blocks at address `a`; `old` is the state before the write. Inside a block reset
or a read nothing of this happens. A write of
PWM_CTL.EN takes a pending set as committed 4 island cycles before (DESIGN CHOICE, log entry 128). -/
def convWrite (a v : Nat) (old s : State) : State :=
  if within a 0x4100_0000 0x8000 then
    let n := (a - 0x4100_0000) / 0x1000
    if a % 0x1000 = 0 then
      let s1 := if s.on (ADC_CTL_FREERUN n) && s.on (ADC_CTL_EN n) && !(old.on (ADC_CTL_FREERUN n) && old.on (ADC_CTL_EN n)) then
        s.adcFreerun n else s
      if bitOf v 0 then s1.adcStartWrite n else s1
    else s
  else if within a 0x4100_8000 0x8000 then
    let g := (a - 0x4100_8000) / 0x1000
    if a % 0x1000 = 0 then
      let s1 := s.each (List.range 8) State.grpConflict
      if bitOf v 8 && s1.on (ADC_GRP_EN g) then s1.grpStart g else s1
    else s
  else if a = a_ADC_REFSTAT then
    s.set ADC_REFSTAT_MISMATCH (if old.on ADC_REFSTAT_NOW then old.get ADC_REFSTAT_MISMATCH else s.get ADC_REFSTAT_MISMATCH)
  else if within a 0x4110_0000 0x1_8000 then
    let j := (a - 0x4110_0000) / 0x1000
    let o := a % 0x1000
    if o = 0 then
      let s1 := s.pwmEnabled j (old.on (PWM_CTL_EN j)) true
      let s2 := (if s1.pwmLive j && old.on (PWM_CTL_EN j) then s1.pwmClashes j else s1).pwmDrive j
      let s3 := if bitOf v 24 then s2.pwmTrip j 33 else s2
      if bitOf v 25 then s3.pwmTripclr j else s3
    else if o = 0x28 then (if bitOf v 0 then s.pwmCommit j else s)
    else if o = 0x50 || o = 0x54 then (s.pwmRescan j).pwmDrive j
    else s
  else if a = a_PWM_GCTL then (if bitOf v 0 then s.pwmGtrip else s)
  else if within a 0x4120_0000 0x1_8000 then (if a % 0x1000 = 0 then s.cmpOff ((a - 0x4120_0000) / 0x1000) else s)
  else if within a 0x4121_8000 0x4000 then
    let d := (a - 0x4121_8000) / 0x1000
    if s.on (DAC_CTL_EN d) && s.on (DAC_CTL_OUTEN d) then s.emit (.ball "DAC_OUT" d (s.get (DAC_VAL_VALUE d)))
    else if old.on (DAC_CTL_EN d) && old.on (DAC_CTL_OUTEN d) then s.emit (.ball "DAC_OUT" d (2 ^ 12)) else s
  else if within a 0x4130_0000 0x4000 then
    let m := (a - 0x4130_0000) / 0x1000
    let s1 := if s.on (SDF_CTL_EN m) && !old.on (SDF_CTL_EN m) then s.sdfUpd m (fun x => { x with bits := [], win := 0, unsettled := s.sdfOrder m })
      else if s.get (SDF_FLT_ORDER m) != old.get (SDF_FLT_ORDER m) || s.get (SDF_FLT_OSR m) != old.get (SDF_FLT_OSR m) then
        s.sdfUpd m (fun x => { x with win := 0, unsettled := s.sdfOrder m })
      else s
    let s2 := if s.sdfClock m = old.sdfClock m then s1 else s1.emit (.ball "SD_CLK" m (s.sdfClock m))
    if s.on (SDF_CTL_EN m) && s.on (SDF_FAST_EN m) then s2
    else ((s2.set (SDF_STAT_FASTHI m) 0).set (SDF_STAT_FASTLO m) 0).sdfUpd m (fun x => { x with line := false })
  else s

/-- The largest value that the counter of a running pair can have reached: below the next edge that has not come, below PER, and with SYNC = 1 no further than the sync window
(R111, R116). -/
def State.pwmCntMax (s : State) (j : Nat) : Nat :=
  let u := s.pwmUnit j
  let top := if s.on (PWM_CFG_SYNC j) then s.pwmPer j + 4 * s.get (PWM_CFG_SYNCWIN j) / u else s.pwmPer j - 1
  ((s.pwmDueEdges j (top * u)).map (fun e => e.1 / u)).foldl min top

/-- Before a read of PWM_CNT the counter shows a value of the running counter: a free value from the last value it is known to have had to the largest it can have
(log entry 10). -/
def convBefore (a : Nat) (s : State) : State :=
  if within a 0x4110_0000 0x1_8000 && a % 0x1000 == 0x48 then
    let j := (a - 0x4110_0000) / 0x1000
    let lo := (s.conv.pwm.get j).cnt
    let v := lo + Config.pwmCount s.free % (s.pwmCntMax j + 1 - lo)
    if s.on (PWM_STAT_RUN j) then ((s.set (PWM_CNT_CNT j) v).pwmUpd j (fun p => { p with cnt := v })).draw
    else s.set (PWM_CNT_CNT j) (s.conv.pwm.get j).cnt
  else s

/-- A read of SDF_DATA takes the result (R103); a read of ADC_RES clears NEW, as RC does. -/
def convAfter (a : Nat) (s : State) : State :=
  if within a 0x4130_0000 0x4000 && a % 0x1000 == 0x14 then
    s.sdfUpd ((a - 0x4130_0000) / 0x1000) (fun x => { x with unread := false })
  else s

/-- The reads of the converter registers. -/
def convRead : ReadHook := ⟨convBefore, convAfter⟩

end Sys2Proof.Machine
end

