-- ==== Sys2Proof/Machine/Operands.lean ====
section
/-! DEFINITION. The operand forms of the Tangram instructions: their words (R144, R145), which words are instructions (R146), register
operands (R133), DMEM addresses (R134) and control-lane addresses (R151). -/

namespace Sys2Proof.Machine

open Sys2Proof

/-! ### Words (R144) -/

def tgR (op fn rd rs1 rs2 rs3 : Nat) : Nat := op * 2 ^ 26 + rd * 2 ^ 21 + rs1 * 2 ^ 16 + rs2 * 2 ^ 11 + rs3 * 2 ^ 6 + fn
def tgI (op rd rs1 imm : Nat) : Nat := op * 2 ^ 26 + rd * 2 ^ 21 + rs1 * 2 ^ 16 + imm
def tgS (op rs2 rs1 imm : Nat) : Nat := op * 2 ^ 26 + rs2 * 2 ^ 21 + rs1 * 2 ^ 16 + imm
def tgB (op rs1 rs2 off : Nat) : Nat := op * 2 ^ 26 + rs1 * 2 ^ 21 + rs2 * 2 ^ 16 + off
def tgJ (op off : Nat) : Nat := op * 2 ^ 26 + off
def tgL (op level count off : Nat) : Nat := op * 2 ^ 26 + level * 2 ^ 25 + count * 2 ^ 16 + off
def tgM (op mask value : Nat) : Nat := op * 2 ^ 26 + mask * 2 ^ 8 + value
def tgZ (op : Nat) : Nat := op * 2 ^ 26

/-- Whether the special register `sr` exists, and whether MTS may write it (R152). -/
def tgSrReadable (sr : Nat) : Bool := decide (sr ≤ 18)
def tgSrWritable (sr : Nat) : Bool := decide (sr ≤ 18) && sr != 0 && sr != 14 && sr != 15 && sr != 16 && sr != 18

/-- Whether a word of format R is an instruction (R145, R146, R149, R152). -/
def tgLegalR (op fn rd rs1 rs2 rs3 : Nat) : Bool :=
  if op = 0 then
    decide (fn ≤ 0x1A) && (fn == 0x0F || rs3 == 0) && (!(fn == 0x10 || fn == 0x13) || rs2 == 0)
  else if op = 1 then
    if fn ≤ 3 then decide (rd ≤ 1) && rs3 == 0
    else if fn = 4 then decide (rd ≤ 1) && rs1 == 0 && rs2 == 0 && rs3 == 0
    else if fn = 5 then decide (rd ≤ 1) && rs2 == 0 && rs3 == 0
    else if fn = 6 then decide (rd ≤ 1) && rs1 == 0 && rs3 == 0
    else if fn ≤ 8 then decide (rs1 ≤ 1) && rs2 == 0 && rs3 == 0
    else fn == 9 && rs3 % 2 == 0 && rs3 != 0 && rd != rs1
  else if op = 2 then
    decide (fn ≤ 0x10) && (fn == 3 || rs3 == 0) && (!(fn == 5 || fn == 8 || fn == 9 || decide (0x0D ≤ fn)) || rs2 == 0)
  else
    rs2 == 0 && rs3 == 0 &&
    (if fn = 0 then rd == 0 && rs1 == 0
     else if fn = 1 then tgSrReadable rs1
     else if fn = 2 then tgSrWritable rd
     else decide (fn ≤ 4) && rd == 0)

/-- Whether a word is an instruction; every other word raises ILLEGAL (R146). -/
def tgLegal (w : Nat) : Bool :=
  let op := bf w 26 6
  let rd := bf w 21 5
  if op ≤ 3 then tgLegalR op (bf w 0 6) rd (bf w 16 5) (bf w 11 5) (bf w 6 5)
  else if op = 8 then bf w 16 5 == 0
  else if op ≤ 9 then true
  else if op = 0x13 || op = 0x17 then decide (rd ≤ 1)
  else if op = 0x10 || op = 0x11 || op = 0x12 || op = 0x14 || op = 0x15 || op = 0x18 || op = 0x19 || op = 0x1A then true
  else if 0x20 ≤ op ∧ op ≤ 0x25 then true
  else if op = 0x28 || op = 0x29 || op = 0x31 then true
  else if op = 0x30 then bf w 21 4 == 0
  else if op = 0x38 then bf w 16 10 == 0
  else if op = 0x39 || op = 0x3F then w % 2 ^ 26 == 0
  else false

/-! ### Register and address operands -/

/-- Register t`r`; t0 reads 0 (R133). -/
def TgEng.reg (x : TgEng) (r : Nat) : Nat := if r = 0 then 0 else x.t.get r

/-- Register t`r` as a signed number. -/
def TgEng.regS (x : TgEng) (r : Nat) : Int := toS 32 (x.reg r)

/-- Register t`r` set; t0 ignores writes (R133). -/
def TgEng.setReg (x : TgEng) (r v : Nat) : TgEng := if r = 0 then x else { x with t := x.t.put r (v % 2 ^ 32) }

/-- Accumulator `a` as a signed 72-bit number (R148). -/
def TgEng.acc (x : TgEng) (a : Nat) : Int := toS 72 (if a = 0 then x.acc0 else x.acc1)

/-- Accumulator `a` set to a 72-bit number. -/
def TgEng.putAcc (x : TgEng) (a v : Nat) : TgEng := if a = 0 then { x with acc0 := v % 2 ^ 72 } else { x with acc1 := v % 2 ^ 72 }

/-- The DMEM byte offset of rs1 + sext(imm), modulo 64 KiB (R134). -/
def TgEng.dAddr (x : TgEng) (rs1 imm : Nat) : Nat := (((x.reg rs1 : Int) + toS 16 imm) % 0x1_0000).toNat

/-- The control-lane address of rs1 + sext(imm) (R151). -/
def TgEng.laneAddr (x : TgEng) (rs1 imm : Nat) : Nat := 0x4100_0000 + (((x.reg rs1 : Int) + toS 16 imm) % 0x40_0000).toNat

/-- Whether an address lies in an ADC, SDF, CMP, DAC or PWM register page (R151, R601). -/
def lanePage (a : Nat) : Bool :=
  within a 0x4100_0000 0x1_1000 || within a 0x4110_0000 0x1_9000 || within a 0x4120_0000 0x1_C000 || within a 0x4130_0000 0x4000

/-- Whether an address is a shadow register that STCC may name: offsets 0x00C to 0x024 of a PWM pair page (R151). -/
def stccPage (a : Nat) : Bool := within a 0x4110_0000 0x1_8000 && decide (0x00C ≤ a % 0x1000) && decide (a % 0x1000 ≤ 0x024)

end Sys2Proof.Machine
end

