-- ==== Sys2Proof/Machine/Flags.lean ====
section
/-! DEFINITION. The results and sticky flags of the Tangram arithmetic: saturation and wrapping, rounding under QRND, accumulators,
PIU and binary32 (R137, R147 to R150, R152). -/

namespace Sys2Proof.Machine

open Sys2Proof

/-- FFLAGS [6] QSAT and [5] AOV (R152). -/
def flQSAT : Nat := 64
def flAOV : Nat := 32

/-- Flags raised: sticky (R152). -/
def TgEng.flag (x : TgEng) (f : Nat) : TgEng := { x with fflags := x.fflags ||| f }

/-- The fields of MODE (R137). -/
def TgEng.user (x : TgEng) : Bool := !bitOf x.mode 7
def TgEng.exl (x : TgEng) : Bool := bitOf x.mode 6
def TgEng.sat (x : TgEng) : Bool := bitOf x.mode 0
def TgEng.qrnd (x : TgEng) : Nat := bf x.mode 1 2
def TgEng.fmode (x : TgEng) : FMode :=
  { rm := [Rm.nearestEven, .towardZero, .down, .up].getD (bf x.mode 4 2) .up, ftz := bitOf x.mode 3 }

/-- The bounds of a signed 32-bit number. -/
def s32Min : Int := -(2 : Int) ^ 31
def s32Max : Int := (2 : Int) ^ 31 - 1

/-- An exact integer result as 32 bits: saturated with SAT = 1, wrapped with SAT = 0 (R147). -/
def TgEng.clip (x : TgEng) (v : Int) : Nat := ofS 32 (if x.sat then clampI s32Min s32Max v else v)

/-- An exact result saturated to 32 bits, each saturation setting QSAT (R148, R149). -/
def TgEng.satQ (x : TgEng) (v : Int) : Nat × TgEng :=
  if v < s32Min ∨ s32Max < v then (ofS 32 (clampI s32Min s32Max v), x.flag flQSAT) else (ofS 32 v, x)

/-- `v / d` rounded under QRND: 0 floor, 1 half up, 2 and 3 half to even (R137). -/
def qRound (q : Nat) (v : Int) (d : Nat) : Int :=
  let f := v / d
  let r := v % d
  if q = 0 then f
  else if (d : Int) < 2 * r ∨ (2 * r = d ∧ (q = 1 ∨ f % 2 = 1)) then f + 1 else f

/-- An accumulator set to an exact value: one that does not fit 72 bits wraps and sets AOV (R148). -/
def TgEng.setAcc (x : TgEng) (a : Nat) (v : Int) : TgEng :=
  let y := if v < -(2 : Int) ^ 71 ∨ (2 : Int) ^ 71 ≤ v then x.flag flAOV else x
  y.putAcc a (ofS 72 v)

/-- Signed and unsigned quotient and remainder (R147). -/
def tgDivS (sat : Bool) (a b : Int) : Int :=
  if b = 0 then -1
  else if a = s32Min ∧ b = -1 then (if sat then s32Max else s32Min)
  else Int.tdiv a b
def tgRemS (a b : Int) : Int := if b = 0 then a else if a = s32Min ∧ b = -1 then 0 else Int.tmod a b
def tgDivU (a b : Nat) : Nat := if b = 0 then 0xFFFF_FFFF else a / b
def tgRemU (a b : Nat) : Nat := if b = 0 then a else a % b

/-- The leading zeros of a 32-bit number (R145). -/
def clz32 (v : Nat) : Nat := 32 - bitLen 32 (v % 2 ^ 32)

/-- R149: the integrator and the output of PIU, with QSAT where a clamp changes a value. -/
def TgEng.piu (x : TgEng) (rd rs1 rs2 rs3 : Nat) : TgEng :=
  let g := x.reg rs3
  let u := x.regS (rs3 + 1)
  let e := x.regS rs2
  let a := x.regS rs1 + qRound x.qrnd (e * (g % 65536)) 4096
  let i1 := min (max a 0) u
  let b := i1 + qRound x.qrnd (e * (g / 65536)) 4096
  let o := min (max b 0) u
  let y := if i1 ≠ a ∨ o ≠ b then x.flag flQSAT else x
  (y.setReg rs1 (ofS 32 i1)).setReg rd (ofS 32 o)

/-- A binary32 result written with its flags (R150). -/
def TgEng.setF (x : TgEng) (rd : Nat) (r : Nat × Nat) : TgEng := (x.flag r.2).setReg rd r.1

/-- An integer result of a conversion written with its flags. -/
def TgEng.setI (x : TgEng) (rd : Nat) (r : Int × Nat) : TgEng := (x.flag r.2).setReg rd (ofS 32 r.1)

end Sys2Proof.Machine
end

