-- ==== Sys2Proof/Machine/Slice.lean ====
section
/-! DEFINITION. What ends a self-test slice from outside the self-test engine: its abort (R563, R570). -/

namespace Sys2Proof.Machine

open Sys2Proof

/-- Unit `u` is in a slice (R565, R584). -/
def State.inSlice (s : State) (u : Nat) : Bool := s.get (STE_USTAT_STATE u) == 1

/-- The slice of unit `u` has ended: ACTIVE counts down. -/
def State.sliceOver (s : State) (u st : Nat) : State :=
  (s.set (STE_USTAT_STATE u) st).set STE_STAT_ACTIVE (s.get STE_STAT_ACTIVE - 1)

/-- R563, R570: a running slice of unit `u` is aborted: counted, and source 308 in summary. What the rejoin copies is the caller's. -/
def State.sliceAbort (s : State) (u : Nat) : State :=
  if s.inSlice u then ((s.sliceOver u 0).inc STE_STAT_ABORTS).raiseSum 308 0 1 else s

/-- The slices of both engines of a pair aborted (R570). -/
def State.tgSlicesAbort (s : State) (e : Nat) : State := (s.sliceAbort (8 + e / 2 * 2)).sliceAbort (9 + e / 2 * 2)

end Sys2Proof.Machine
end

