-- ==== Sys2Proof/Machine/Tangram.lean ====
section
/-! DEFINITION. The Tangram engines: the issue of an instruction with its cost, delay slot, shadow, loops and exceptions (R143, R153 to
R165), iterations, release, pairs and moves (R138 to R142, R166 to R180). -/

namespace Sys2Proof.Machine

open Sys2Proof

/-! ### Iterations (R139 to R141, R165 to R169) -/

/-- TG_STAT.PEND brought up to date (R184). -/
def State.tgPendBit (s : State) (e : Nat) : State := s.set (TG_STAT_PEND e) (b2n (!(s.tg.get e).pend.isEmpty))

/-- Engine `k` runs no iterations: it is out for a slice, or has failed one (R568, R572). -/
def State.tgOut (s : State) (k : Nat) : Bool := s.get (STE_USTAT_STATE (8 + k)) == 1 || s.copyFailed (8 + k)

/-- A pair whose copies are compared: neither is out for a slice, and neither has failed one (R568, R572). -/
def State.tgCompared (s : State) (e : Nat) : Bool := s.tgPaired e && !s.tgOut e && !s.tgOut (e + 1)

/-- The engine in whose memory an error was found: the odd copy of a pair, or engine `e` (R136). -/
def State.tgErrCopy (s : State) (e : Nat) (odd : Bool) : Nat := if odd && s.tgPaired e then e + 1 else e

/-- What an ECC error means to the context of `e`: an error of a copy of a pair that runs nothing is none, and where the copies are not
compared there is no other copy to take the word from (R136, R175, R568). -/
def State.tgFound (s : State) (e : Nat) (c : TgEcc) : TgEcc :=
  match c with
  | .corrected odd => if s.tgPaired e && s.tgOut (s.tgErrCopy e odd) then .clean else c
  | .bad odd =>
    if s.tgPaired e && s.tgOut (s.tgErrCopy e odd) then .clean
    else if s.tgCompared e then c else .badBoth
  | c => c

/-- R175: the word at offset `a` of a local memory (IMEM or DMEM, from `base`) rewritten from the other copy of the pair. -/
def State.tgRepair (base : Nat → Nat) (e a : Nat) (odd : Bool) (s : State) : State :=
  let o := a / 4 * 4 % 0x1_0000
  if odd then s.store (base (e + 1) + o) 4 (s.load (base e + o) 4) else s.store (base e + o) 4 (s.load (base (e + 1) + o) 4)

/-- The end of an iteration by release or discard: idle, the input stages of its copies written out, MAXC kept (R140, R169, R184). -/
def State.tgFinish (s : State) (e : Nat) : State :=
  let x := s.tg.get e
  let m := satU 16 ((x.cost + 15) / 16)
  let s1 := s.track (TG_SLOTSTAT_MAXC e x.dslot) m
  let s2 := s1.tgSet e (fun y => { y with run := false, ended := false, obuf := [], journal := [], ldc := [], ldcUsed := 0, ds := none, shadow := false })
  let s3 := s2.each (s.tgCopies e) (fun t k => t.set (TG_STAT_BUSY k) 0)
  let s4 : State := { s3 with pow := { s3.pow with handWait := clrBit s3.pow.handWait e } }
  (if s.on (TG_MOVE_GO e) then s4 else s4.each (s.tgCopies e) State.dmemFlush).set (TG_PSTAT_REPLAY e) 0

/-- R139, R140: an occurrence for slot `sl` with its stamp: pending, or discarded, counted and reported with cause 3 when it is already. -/
def State.tgOccur (s : State) (e sl stampNs : Nat) : State :=
  if !s.on (TG_CTL_RUN e) || s.on (TG_PSTAT_ESC e) then s
  else if (s.tg.get e).pend.any (fun p => p.1 == sl) then
    ((s.inc (TG_SLOTSTAT_OVR e sl)).inc (TG_STAT_OVR e)).raise (48 + 2 * e) (3 * 2 ^ 24 + sl * 2 ^ 20)
  else (s.tgSet e (fun x => { x with pend := x.pend ++ [(sl, stampNs)] })).tgPendBit e

/-- Whether a slot's TYPE and SRC name an occurrence (R139). -/
def tgSlotValid (typ src : Nat) : Bool :=
  (typ == 0 && decide (src < 64)) || (typ == 1 && decide (72 ≤ src) && decide (src ≤ 151)) ||
  ((typ == 2 || typ == 3 || typ == 4) && decide (src < 24))

/-- An occurrence on its way to slot `sl` of engine `e` (R139). -/
def isSlotDue (e sl : Nat) (d : Due) : Bool :=
  match d with
  | .slot x k _ => x == e && k == sl
  | _ => false

/-- R139: an occurrence counted against DIV, with its stamp; every (DIV + 1)-th dispatches. -/
def State.tgCount (s : State) (e sl stampNs : Nat) : State :=
  if s.tgLead e != e || !s.on (TG_SLOT_EN e sl) || !tgSlotValid (s.get (TG_SLOT_TYPE e sl)) (s.get (TG_SLOT_SRC e sl)) then s
  else
    let n := (s.tg.get e).divs.get sl
    if n < s.get (TG_SLOT_DIV e sl) then s.tgSet e (fun x => { x with divs := x.divs.put sl (n + 1) })
    else (s.tgSet e (fun x => { x with divs := x.divs.put sl 0 })).tgOccur e sl stampNs

/-- R55, R71, R139: the oldest occurrence on its way to slot `sl` reaches engine `e`, with the stamp it had (log entry 113). -/
def execTgOccurrence (e : Fin 12) (sl : Fin 8) (s : State) : Host.Outcome State Fault Refusal :=
  match s.arrive (isSlotDue e sl) with
  | some (.slot _ _ at_, t) => done (t.tgCount e sl at_.ns)
  | _ => done s

/-- R139: a write of 1 to SWDISP bit `sl` dispatches the slot whatever its TYPE, stamped with the GTB at the write. -/
def State.tgSwdisp (s : State) (e sl : Nat) : State := if s.tgLead e = e then s.tgOccur e sl s.nowNs else s

def execTgSwdisp (e : Fin 12) (sl : Fin 8) (s : State) : Host.Outcome State Fault Refusal :=
  if !decide (e.val < nTg s.part) then done s else
  done (s.tgSwdisp e sl)

/-- The pending slot with the lowest number (R140). -/
def lowestPend : List (Nat × Nat) → Option (Nat × Nat)
  | [] => none
  | p :: r => match lowestPend r with
    | none => some p
    | some q => if p.1 ≤ q.1 then some p else some q

/-- The state of an engine as an iteration of slot `sl` starts (R141). -/
def TgEng.start (x : TgEng) (ent mode sl stampNs : Nat) : TgEng :=
  { x with pc := ent * 4, mode := mode, lact := 0, dtime := stampNs, dslot := sl, ds := none, shadow := false, cost := 0, tlDone := false
           run := true, ended := false, obuf := [], journal := [], ldcUsed := 0 }

/-- R141, R142: the pending slot with the lowest number starts, when the engine is idle, enabled, not frozen, not being filled and not
escalated. The state is kept for a replay (R174). -/
def execTgDispatch (e : Fin 12) (s : State) : Host.Outcome State Fault Refusal :=
  if s.tgLead e != e.val || !s.on (TG_CTL_RUN e) || s.on (TG_STAT_BUSY e) || s.on (TG_STAT_HOLD e) || s.on (TG_PSTAT_SYNCING e) ||
    s.on (TG_PSTAT_ESC e) || s.on (TG_MOVE_GO e) || s.idling (72 + e) || (s.tgPaired e && s.idling (73 + e)) then done s
  else match lowestPend (s.tg.get e).pend with
    | none => done s
    | some (sl, st) =>
      let s1 := s.each (s.tgCopies e) State.dmemFlush
      let s2 := s1.tgSet e (fun x =>
        let y := { x with pend := x.pend.filter (fun p => p.1 != sl), ldc := [] }.start (s.get (TG_SLOTENT_ENT e sl)) (s.get (TG_SLOT_MODE e sl)) sl st
        { y with snap := { t := y.t, acc0 := y.acc0, acc1 := y.acc1, mode := y.mode } })
      let s3 := s2.each (s.tgCopies e) (fun t k => (t.set (TG_STAT_BUSY k) 1).set (TG_STAT_SLOT k) sl)
      done (s3.tgPendBit e)

/-! ### Pairs: journal, mismatch, replay, escalation (R172 to R176) -/

/-- R174: the journal undone in both copies, the latest entry first. -/
def State.tgUndo (s : State) (e : Nat) : State :=
  (s.tg.get e).journal.foldl (fun t w => t.each (s.tgCopies e) (fun u k => u.store (tgDmem k + w.1) w.2.1 (if k = e then w.2.2.1 else w.2.2.2))) s

/-- R176: both engines stop and discard their buffers, the pairs in TG_ESCPWM trip, and source 51 + 2e is raised; with PROT on the twin
half B takes over (R35); an instance that holds the pair takes fault 4 (R491). -/
def State.tgEscalate (s : State) (e cause : Nat) : State :=
  let sl := (s.tg.get e).dslot
  let s1 := (((s.tgSlicesAbort e).tgFinish e).set (TG_PSTAT_ESC e) 1).tgSet e (fun x => { x with pend := [] })
  let s2 := (s1.tgPendBit e).each (bitsOf (s.get (TG_ESCPWM_PAIRS e)) 24) (fun t j => t.pwmTrip j 33)
  let s3 := if s.on (TG_PCTL_PROT e) then s2.twinReport 1 else s2
  (s3.raise (51 + 2 * e) (cause * 2 ^ 24 + sl * 2 ^ 20)).viEscalation e

/-- R174, R176: a mismatch of kind `c` (1 output, 2 signature, 3 skew, 4 ECC): counted, recorded and reported; the journal is undone, the
state at dispatch restored and the slot replayed, or the pair escalates in a replay and at the third mismatch within 100 ms. `fix` is the
rewriting of a failing word (R175). -/
def State.tgMismatch (s : State) (e c : Nat) (fix : State → State := id) : State :=
  let x := s.tg.get e
  let recent := x.misms.filter (fun t => decide (s.pow.elapsed ≤ t + 100_000_000)) ++ [s.pow.elapsed]
  let replay := s.on (TG_PSTAT_REPLAY e)
  let s1 := (s.inc (TG_PSTAT_MISM e)).set (TG_PSTAT_LAST e) (min c 3)
  let s2 := s1.raise (50 + 2 * e) (c * 2 ^ 24 + x.dslot * 2 ^ 20 + s1.get (TG_PSTAT_MISM e))
  let s3 := (fix (s2.tgUndo e)).tgSet e (fun y =>
    { y with t := x.snap.t, acc0 := x.snap.acc0, acc1 := x.snap.acc1, mode := x.snap.mode, lact := 0, journal := [], misms := recent })
  if replay then s3.tgEscalate e 1
  else if 3 ≤ recent.length then s3.tgEscalate e 2
  else
    (s3.tgSet e (fun y => y.start (s.get (TG_SLOTENT_ENT e x.dslot)) x.snap.mode x.dslot x.dtime)).set (TG_PSTAT_REPLAY e) 1

/-- A transfer from the core die crosses the control lane, which is alive with it (R20, R123). -/
def State.laneAlive (s : State) : State := { s with conv := { s.conv with laneLost := false } }

/-- R167, R172: what a released buffer sends: control-lane writes to their islands, EVP words to the EVR, in program order. -/
def State.tgSend (l : Nat) (s : State) (o : TgOut) : State :=
  match o with
  | .lane a v => if s.mapped a then s.laneAlive.write4 convWrite a v else s.laneAlive
  | .evp w => s.raise (49 + 2 * l) w

/-- R167: the buffer is released once, TG_ITER counts, and the iteration is over. -/
def State.tgRelease (s : State) (e : Nat) : State :=
  ((s.each (s.tg.get e).obuf (State.tgSend e)).addWrap (TG_ITER_CNT e) 1).tgFinish e

/-- R167, R172: 14 ns after END the buffer is sealed: an unpaired engine releases it, a pair at the later seal releases it when its copies
agree and takes a mismatch otherwise. -/
def execTgSeal (e : Fin 12) (cmp : TgCmp) (s : State) : Host.Outcome State Fault Refusal :=
  if s.tgLead e != e.val || !(s.tg.get e).ended then done s
  else if !s.tgCompared e then done (s.tgRelease e)
  else match cmp with
    | .agree => done (s.tgRelease e)
    | .output => done (s.tgMismatch e 1)
    | .signature => done (s.tgMismatch e 2)

/-- R172: the second copy has not retired END within SKEW × 10 ns of the first: a mismatch. -/
def execTgSkewTimeout (e : Fin 12) (s : State) : Host.Outcome State Fault Refusal :=
  if s.tgCompared e && s.on (TG_STAT_BUSY e) then done (s.tgMismatch e 3) else done s

/-- R168: a buffer not released within DEADLINE × 10 ns of its dispatch is discarded whole. -/
def execTgDeadlineExpiry (e : Fin 12) (s : State) : Host.Outcome State Fault Refusal :=
  if s.tgLead e = e.val && s.on (TG_STAT_BUSY e) && s.on (TG_SLOTLIM_DEADLINE e (s.tg.get e).dslot) then
    done (((s.set (TG_STAT_LATEDROP e) 1).tgFault e 5 0 0).tgFinish e)
  else done s

/-! ### Exceptions (R158 to R165) -/

/-- The level of an active loop whose body ends at `pc` and that decides first (R155, R163). -/
def TgEng.lastLevel (x : TgEng) (pc : Nat) : Option Nat :=
  if bitOf x.lact 1 && x.le1 == pc then some 1 else if bitOf x.lact 0 && x.le0 == pc then some 0 else none

/-- R165: a double fault ends the iteration and discards the buffer; DMEM stores stand and the journal is cleared. -/
def State.tgDoubleFault (s : State) (e code epc : Nat) : State :=
  ((s.set (TG_STAT_DFAULT e) 1).tgFault e 2 code (epc / 4)).tgFinish e

/-- TG_ECAUSE and TG_EPC written at an exception entry (R159, R184). -/
def State.tgCause (s : State) (e code epc : Nat) (ds shadow loopEnd : Bool) (lvl : Nat) : State :=
  let s1 := ((s.set (TG_ECAUSE_DS e) (b2n ds)).set (TG_ECAUSE_SHADOW e) (b2n shadow)).set (TG_ECAUSE_LOOPEND e) (b2n loopEnd)
  ((s1.set (TG_ECAUSE_LVL e) lvl).set (TG_ECAUSE_CODE e) code).set (TG_EPC_PC e) (epc / 4)

/-- R159: exception entry at the handler, with EPC `epc`, the delay slot's resolved address `tgt`, and the flags of R161 to R163. -/
def State.tgEnter (s : State) (e code eval epc : Nat) (tgt : Option Nat) (shadow : Bool) (lvl : Option Nat) : State :=
  let x := s.tg.get e
  if x.exl then s.tgDoubleFault e code epc
  else
    let s1 := s.tgSet e (fun y =>
      { y with eval := eval % 2 ^ 32, etgt := tgt.getD y.etgt, emode := y.mode, elact := y.lact, lact := 0, mode := y.mode ||| 0xC0
               pc := s.get (TG_EVEC_VEC e) * 4, ds := none, shadow := false, cost := y.cost + 6 })
    ((s1.tgCause e code epc tgt.isSome shadow lvl.isSome (lvl.getD 0)).set (TG_STAT_EXC e) 1).tgFault e 1 code (epc / 4)

/-- R164: TLIMIT at an instruction boundary, once per iteration, but not between a branch and its delay slot or SETM and its shadow.
EVAL is a free value (log entry 11). -/
def State.tgBoundary (s : State) (e : Nat) : State :=
  let x := s.tg.get e
  let lim := s.get (TG_SLOTLIM_TLIM e x.dslot)
  if x.run && x.ds.isNone && !x.shadow && !x.tlDone && lim != 0 && decide (lim * 16 < x.cost) then
    ((s.tgSet e (fun y => { y with tlDone := true })).draw).tgEnter e 9 (Config.tgEval s.free) x.pc none false none
  else s

/-- R159, R161 to R163: an exception of the instruction at `pc`. -/
def State.tgTrap (s : State) (e code eval : Nat) : State :=
  let x := s.tg.get e
  match x.ds with
  | some (br, tgt) => (s.tgEnter e code eval br (some tgt) false (x.lastLevel x.pc)).tgBoundary e
  | none => (s.tgEnter e code eval x.pc none x.shadow (x.lastLevel x.pc)).tgBoundary e

/-! ### The issue of an instruction (R143, R153 to R157, R163) -/

/-- What an instruction is for the rules of delay slots and loop ends (R153, R156). -/
inductive TgKind where
  | plain | branch | loop | setm | stop
  deriving DecidableEq, Repr

/-- What an instruction does: it retires and goes on, resolves a branch, continues at an address, writes MODE, ends the iteration, traps, or
the iteration has been stopped under it (R175). -/
inductive TgRes where
  | halted (s : State)
  | ok (s : State)
  | branch (s : State) (target extra : Nat)
  | goto (s : State) (pc : Nat)
  | setm (s : State)
  | stop (s : State)
  | trap (s : State) (code eval : Nat)

/-- R154, R155: the loop decision after the instruction at `pc` has retired, level 1 first, with LC at its new value and the next address. -/
def TgEng.loopNext (x : TgEng) (pc : Nat) : TgEng × Nat :=
  if bitOf x.lact 1 && x.le1 == pc then
    let y := { x with lc1 := x.lc1 - 1 }
    if y.lc1 != 0 then (y, y.ls1)
    else
      let z := { y with lact := clrBit y.lact 1 }
      if bitOf z.lact 0 && z.le0 == pc then
        let w := { z with lc0 := z.lc0 - 1 }
        if w.lc0 != 0 then (w, w.ls0) else ({ w with lact := clrBit w.lact 0 }, (pc + 4) % 0x1_0000)
      else (z, (pc + 4) % 0x1_0000)
  else if bitOf x.lact 0 && x.le0 == pc then
    let w := { x with lc0 := x.lc0 - 1 }
    if w.lc0 != 0 then (w, w.ls0) else ({ w with lact := clrBit w.lact 0 }, (pc + 4) % 0x1_0000)
  else (x, (pc + 4) % 0x1_0000)

/-- R155: a transfer to an address outside an active body makes that level inactive. -/
def TgEng.leave (x : TgEng) (target : Nat) : TgEng :=
  let l0 := if bitOf x.lact 0 && !(decide (x.ls0 ≤ target) && decide (target ≤ x.le0)) then clrBit x.lact 0 else x.lact
  let l1 := if bitOf x.lact 1 && !(decide (x.ls1 ≤ target) && decide (target ≤ x.le1)) then clrBit l0 1 else l0
  { x with lact := l1 }

/-- The word that the engine fetches: always one of its IMEM (R134). -/
def State.tgFetch (s : State) (e : Nat) : Nat := s.load (tgImem e + (s.tg.get e).pc / 4 * 4 % 0x1_0000) 4

/-- R143, R154: the instruction has retired at `cost` slots: the next one follows a delay slot's target, the loop decision, or `pc + 4`. -/
def State.tgNext (s : State) (e cost : Nat) (shadow : Bool) : State :=
  (s.tgSet e (fun x =>
    match x.ds with
    | some (_, tgt) => { x with pc := tgt, ds := none, shadow := shadow, cost := x.cost + cost }
    | none =>
      let r := x.loopNext x.pc
      { r.1 with pc := r.2, shadow := shadow, cost := x.cost + cost })).tgBoundary e

/-- What the retirement of a result does. -/
def State.tgRetire (e cost : Nat) (r : TgRes) : State :=
  match r with
  | .ok s => s.tgNext e cost false
  | .setm s => s.tgNext e cost true
  | .branch s tgt extra => (s.tgSet e (fun x =>
      { x with ds := some (x.pc, tgt), pc := (x.pc + 4) % 0x1_0000, shadow := false, cost := x.cost + cost + extra })).tgBoundary e
  | .goto s pc => (s.tgSet e (fun x => { x with pc := pc, shadow := false, cost := x.cost + cost })).tgBoundary e
  | .stop s => s.tgSet e (fun x => { x with run := false, ended := true, cost := x.cost + cost })
  | .trap s code eval => s.tgTrap e code eval
  | .halted s => s

/-- R136: a corrected error counted in the engine whose memory it was found in. -/
def State.tgCorrected (s : State) (e : Nat) (c : TgEcc) : State :=
  match c with
  | .corrected odd => s.inc (TG_STAT_CECC (s.tgErrCopy e odd))
  | _ => s

/-- R136, R146, R153, R156: engine `x.e` issues the instruction with word `w` where its IMEM holds that word at the PC. A word that is no
instruction raises ILLEGAL, a branch-like one in a delay slot too, a loop body that ends in one raises LOOPERR. -/
def State.tgIssue (x : TgAt) (w cost : Nat) (k : TgKind) (body : State → TgRes) (s : State) : Host.Outcome State Fault Refusal :=
  let e := x.e.val
  let g := s.tg.get e
  if s.tgLead e != e || !g.run then done s
  else match s.tgFound e x.fetch with
  | .bad odd => done (s.tgMismatch e 4 (State.tgRepair tgImem e g.pc odd))
  | .badBoth => done (s.tgTrap e 5 g.pc)
  | c =>
    let s1 := s.tgCorrected e c
    let f := s1.tgFetch e
    if !tgLegal f then done (s1.tgTrap e 1 f)
    else if f != w then done s
    else if (g.lastLevel g.pc).isSome && (k == .branch || k == .stop || g.ds.isSome) then done (s1.tgTrap e 7 w)
    else if g.ds.isSome && k != .plain then done (s1.tgTrap e 1 w)
    else done (State.tgRetire e cost (body s1))

/-- An instruction that only changes the engine. -/
def State.tgAlu (x : TgAt) (w cost : Nat) (f : TgEng → TgEng) (s : State) : Host.Outcome State Fault Refusal :=
  s.tgIssue x w cost .plain (fun t => .ok (t.tgSet x.e f))

/-! ### Data memory and the control lane (R134, R136, R151, R166, R173) -/

/-- R136, R175: a DMEM read at byte offset `a` that found `c`: none where it goes on. -/
def State.tgDmemEcc (s : State) (e a : Nat) (c : TgEcc) (k : State → TgRes) : TgRes :=
  match s.tgFound e c with
  | .bad odd => .halted (s.tgMismatch e 4 (State.tgRepair tgDmem e a odd))
  | .badBoth => .trap s 4 a
  | d => k (s.tgCorrected e d)

/-- A store to DMEM, in a pair to both copies with the old contents journalled; a 257th journalled store raises BUFFULL (R158, R173). -/
def State.tgStore (s : State) (e : Nat) (parts : List (Nat × Nat × Nat)) : TgRes :=
  let x := s.tg.get e
  if s.tgPaired e && decide (256 < x.journal.length + parts.length) then .trap s 8 1
  else
    .ok (parts.foldl (fun t p =>
      let old (k : Nat) : Nat := t.load (tgDmem k + p.1) p.2.1
      let t1 := if s.tgPaired e then t.tgSet e (fun y => { y with journal := (p.1, p.2.1, old e, old (e + 1)) :: y.journal }) else t
      t1.each (s.tgCopies e) (fun u k => u.store (tgDmem k + p.1) p.2.1 p.2.2)) s)

/-- Entries placed in the output buffer of 32; an instruction that would exceed it raises BUFFULL with EVAL 0 (R158, R166). -/
def State.tgPut (s : State) (e : Nat) (l : List TgOut) : TgRes :=
  if 32 < (s.tg.get e).obuf.length + l.length then .trap s 8 0
  else .ok (s.tgSet e (fun x => { x with obuf := x.obuf ++ l }))

/-- R151: the checks of a control-lane access: alignment, the page, and the region checker's decision for initiator 16 + e. -/
def State.tgLane (s : State) (e a : Nat) (ac : AccKind) (page : Bool) (k : State → TgRes) : TgRes :=
  if a % 4 ≠ 0 then .trap s 3 a
  else if !page then .trap s 6 a
  else match s.checkReq a (ownReq (16 + e)) ac with
    | some s1 => .trap s1 6 a
    | none => k s

/-- R31, R171: the value of an LDC: retained in a replay, else read over the control lane with the field's side effects and retained. None
where the request (not read then) or the returned data had a parity error: an error response, taken as a refused access (R151, log entry 130). -/
def State.tgLdc (s : State) (e a : Nat) (parity : LaneParity) : Option Nat × State :=
  let x := s.tg.get e
  match x.ldc[x.ldcUsed]? with
  | some v => (some v, s.tgSet e (fun y => { y with ldcUsed := y.ldcUsed + 1 }))
  | none =>
    if parity = .request then (none, s.laneAlive.parityError (16 + e))
    else
      let r := s.laneAlive.regRead convRead (16 + e) false a 4
      if parity = .data then (none, r.2.parityError (16 + e))
      else (some r.1, r.2.tgSet e (fun y => { y with ldc := y.ldc ++ [r.1], ldcUsed := y.ldcUsed + 1 }))

/-! ### Special registers (R152) -/

/-- The value of special register `sr`. -/
def State.tgSr (s : State) (e sr : Nat) : Nat :=
  let x := s.tg.get e
  match sr with
  | 0 => x.mode
  | 1 => s.get (TG_EPC_PC e) * 4
  | 2 => s.get (TG_ECAUSE_DS e) * 2 ^ 31 + s.get (TG_ECAUSE_SHADOW e) * 2 ^ 30 + s.get (TG_ECAUSE_LOOPEND e) * 2 ^ 29 +
      s.get (TG_ECAUSE_LVL e) * 2 ^ 28 + s.get (TG_ECAUSE_CODE e)
  | 3 => x.emode
  | 4 => x.eval
  | 5 => x.etgt
  | 6 => x.ls0
  | 7 => x.le0
  | 8 => x.lc0
  | 9 => x.ls1
  | 10 => x.le1
  | 11 => x.lc1
  | 12 => x.lact
  | 13 => x.elact
  | 14 => x.dtime % 2 ^ 32
  | 15 => x.dtime / 2 ^ 32 % 2 ^ 32
  | 16 => x.dslot
  | 17 => x.fflags
  | 18 => e
  | _ => 0

/-- Special register `sr` written with `v`, to the width it has; LS and LE hold word addresses (log entry 131). -/
def State.tgSetSr (s : State) (e sr v : Nat) : State :=
  match sr with
  | 1 => s.set (TG_EPC_PC e) (bf v 2 14)
  | 2 => s.tgCause e (bf v 0 4) (s.get (TG_EPC_PC e) * 4) (bitOf v 31) (bitOf v 30) (bitOf v 29) (bf v 28 1)
  | 3 => s.tgSet e (fun x => { x with emode := v % 256 })
  | 4 => s.tgSet e (fun x => { x with eval := v })
  | 5 => s.tgSet e (fun x => { x with etgt := v % 0x1_0000 })
  | 6 => s.tgSet e (fun x => { x with ls0 := v / 4 * 4 % 0x1_0000 })
  | 7 => s.tgSet e (fun x => { x with le0 := v / 4 * 4 % 0x1_0000 })
  | 8 => s.tgSet e (fun x => { x with lc0 := v })
  | 9 => s.tgSet e (fun x => { x with ls1 := v / 4 * 4 % 0x1_0000 })
  | 10 => s.tgSet e (fun x => { x with le1 := v / 4 * 4 % 0x1_0000 })
  | 11 => s.tgSet e (fun x => { x with lc1 := v })
  | 12 => s.tgSet e (fun x => { x with lact := v % 4 })
  | 13 => s.tgSet e (fun x => { x with elact := v % 4 })
  | 17 => s.tgSet e (fun x => { x with fflags := v % 128 })
  | _ => s

/-! ### DMEM writes of the fabric, pairing, moves (R135, R138, R170, R177 to R180) -/

/-- R135: a fabric write to DMEM: applied, or held in the input stage during an iteration. -/
def execTgDmemWrite (e : Fin 12) (off size v : Nat) (s : State) : Host.Outcome State Fault Refusal :=
  if !decide (e.val < nTg s.part) then done s else
  if s.tgLead e = e.val then done (s.tgFabricDmem e off size v) else done s

/-- R170: PAIR as written on even `e`; ignored while either engine has RUN = 1, on an odd engine without effect. Setting it begins the
copy into the odd engine; with an unusable engine a write of 1 is ignored (R577). -/
def State.tgPairWrite (s : State) (e : Nat) (pair : Bool) : State :=
  if e % 2 = 1 || s.on (TG_CTL_RUN e) || s.on (TG_CTL_RUN (e + 1)) then s
  else if pair && (s.unusable (72 + e) || s.unusable (73 + e)) then s
  else if pair && !s.on (TG_PCTL_PAIR e) then (s.set (TG_PCTL_PAIR e) 1).set (TG_PSTAT_SYNCING e) 1
  else (s.tgSlicesAbort e).set (TG_PCTL_PAIR e) (b2n pair)

def execTgPairWrite (e : Fin 12) (pair : Bool) (s : State) : Host.Outcome State Fault Refusal :=
  if !decide (e.val < nTg s.part) then done s else
  done (s.tgPairWrite e pair)

/-- The listed bytes of memory in a window copied to another window of the same size (the target's own bytes go). -/
def copyWindow (src dst n : Nat) (m : List Host.Cell) : List Host.Cell :=
  let keep := m.filter (fun c => !within c.1 dst n)
  (m.filter (fun c => within c.1 src n)).foldl (fun l c => memPut (c.1 - src + dst) c.2 l) keep

/-- R170: the odd copy is filled: IMEM, DMEM, t1 to t31 and the accumulators of the even engine. -/
def execTgPairSyncDone (e : Fin 12) (s : State) : Host.Outcome State Fault Refusal :=
  if s.on (TG_PSTAT_SYNCING e) then
    let x := s.tg.get e
    let s1 : State := { s with
      mem := copyWindow (tgImem e) (tgImem (e + 1)) 0x2_0000 s.mem
      tg := s.tg.put (e + 1) { x with inq := (s.tg.get (e + 1)).inq } }
    done (s1.set (TG_PSTAT_SYNCING e) 0)
  else done s

/-- R177: the reason to refuse a move of `e` to `d`, the lowest code that applies. The even engine's registers speak for the odd engine
of a pair too (R170). -/
def State.tgMoveErr (s : State) (e d : Nat) : Option Nat :=
  if 11 < d || !s.on (TG_CTL_RUN (s.tgLead d)) then some 1
  else if (List.range 8).any (fun k => s.on (TG_SLOT_EN (s.tgLead d) k)) then some 2
  else if (s.tgLead d != d) || (s.tgPaired d != s.tgPaired e) then some 3
  else if s.on (TG_PSTAT_ESC e) then some 4
  else if d = e then some 5
  else if !(s.mapped (a_TG_CTL d) && s.admits (a_TG_CTL d) (ownReq (16 + e)) .write) then some 6
  else none

/-- R177: GO on engine `e` with DEST `d`: refused with ERRC and cause 7, or the move is under way (GO reads 1). -/
def State.tgMoveGo (s : State) (e d : Nat) : State :=
  if s.tgLead e != e then s
  else match s.tgMoveErr e d with
    | some c => (((s.set (TG_MOVE_GO e) 0).set (TG_MOVE_ERR e) 1).set (TG_MOVE_ERRC e) c).raise (48 + 2 * e) (7 * 2 ^ 24 + c * 2 ^ 16)
    | none => (s.tgSlicesAbort e).set (TG_MOVE_GO e) 1

/-- R177: a write of 1 to TG_MOVE.GO; ignored while a move of `e` is under way. -/
def execTgMoveGo (e : Fin 12) (dest : Fin 16) (s : State) : Host.Outcome State Fault Refusal :=
  if !decide (e.val < nTg s.part) then done s else
  if s.on (TG_MOVE_GO e) then done s else done ((s.set (TG_MOVE_DEST e) dest).tgMoveGo e dest)

/-- R178: the source freezes at the first moment it runs no iteration or replay. -/
def execTgMoveFreeze (e : Fin 12) (s : State) : Host.Outcome State Fault Refusal :=
  if s.on (TG_MOVE_GO e) && !s.on (TG_STAT_BUSY e) then done (s.set (TG_STAT_HOLD e) 1) else done s

/-- R178: one engine of the context copied: registers, accumulators, FFLAGS and the DMEM window; the input stage goes into DEST's DMEM. -/
def State.tgCopyTo (base len : Nat) (s : State) (p : Nat × Nat) : State :=
  let a := s.tg.get p.1
  let b := s.tg.get p.2
  let s1 : State := { s with tg := s.tg.put p.2 { b with t := a.t, acc0 := a.acc0, acc1 := a.acc1, fflags := a.fflags } }
  let s2 := s1.each (List.range len) (fun t i =>
    let o := (base + 4 * i) % 0x1_0000
    t.store (tgDmem p.2 + o) 4 (t.load (tgDmem p.1 + o) 4))
  let s3 := s2.each a.inq (fun t w => t.dmemIn p.2 w.1 w.2.1 w.2.2)
  { s3 with tg := s3.tg.put p.1 { (s3.tg.get p.1) with inq := [] } }

/-- R178: the register sets of a slot copied from `e` to `d`. -/
def State.tgCopySlot (e d : Nat) (s : State) (k : Nat) : State :=
  let s1 := ((s.set (TG_SLOT_EN d k) (s.get (TG_SLOT_EN e k))).set (TG_SLOT_TYPE d k) (s.get (TG_SLOT_TYPE e k))).set
    (TG_SLOT_SRC d k) (s.get (TG_SLOT_SRC e k))
  let s2 := ((s1.set (TG_SLOT_DIV d k) (s.get (TG_SLOT_DIV e k))).set (TG_SLOT_MODE d k) (s.get (TG_SLOT_MODE e k))).set
    (TG_SLOTENT_ENT d k) (s.get (TG_SLOTENT_ENT e k))
  ((s2.set (TG_SLOTLIM_DEADLINE d k) (s.get (TG_SLOTLIM_DEADLINE e k))).set (TG_SLOTLIM_TLIM d k) (s.get (TG_SLOTLIM_TLIM e k))).set
    (TG_SLOT_EN e k) 0

/-- R178, R179: the copy to DEST completes: the context, its slots, its pending dispatches with their stamps; the source's slots are
disabled, FWD and DONE are set, GO cleared and cause 6 raised. -/
def execTgMoveComplete (e : Fin 12) (s : State) : Host.Outcome State Fault Refusal :=
  if !(s.on (TG_MOVE_GO e) && s.on (TG_STAT_HOLD e)) then done s
  else
    let d := s.get (TG_MOVE_DEST e)
    let base := s.get (TG_MOVEWIN_BASE e) / 4 * 4
    let len := min 256 (s.get (TG_MOVEWIN_LEN e))
    let pairs := if s.tgPaired e then [(e.val, d), (e.val + 1, d + 1)] else [(e.val, d)]
    let s1 := s.each pairs (State.tgCopyTo base len)
    let s2 := s1.each (List.range 8) (State.tgCopySlot e d)
    let s3 := ((s2.set (TG_EVEC_VEC d) (s.get (TG_EVEC_VEC e))).set (TG_ESCPWM_PAIRS d) (s.get (TG_ESCPWM_PAIRS e))).set
      (TG_PCTL_SKEW d) (s.get (TG_PCTL_SKEW e))
    let pend := (s.tg.get e).pend
    let s4 := s3.tgSet d (fun x => { x with
      pend := x.pend ++ pend.filter (fun p => !x.pend.any (fun q => q.1 == p.1)), divs := {}, misms := [] })
    let s5 := ((s4.tgSet e (fun x => { x with pend := [] })).tgPendBit d).tgPendBit e
    let s6 := ((s5.set (TG_MOVE_FWD e) 1).set (TG_MOVE_DONE e) 1).set (TG_MOVE_GO e) 0
    done (s6.raise (48 + 2 * e) (6 * 2 ^ 24))

/-- R179: a write of 0 to FWD ends the forwarding; the source is no longer held. -/
def State.tgFwdClear (s : State) (e : Nat) : State := (s.set (TG_MOVE_FWD e) 0).set (TG_STAT_HOLD e) 0

def execTgMoveFwdClear (e : Fin 12) (s : State) : Host.Outcome State Fault Refusal :=
  if !decide (e.val < nTg s.part) then done s else
  if s.on (TG_MOVE_FWD e) then done (s.tgFwdClear e) else done s

/-- R138: what a block reset of engine `e` clears beside its page: registers, accumulators, loops, buffers, input stage, journal; MODE
is 0x01. IMEM and DMEM keep their contents. -/
def State.tgReset1 (s : State) (e : Nat) : State :=
  let s1 : State := { s with tg := s.tg.put e {} }
  s1.restoreBlock (a_TG_CTL e) 0x1000

/-- R138: a block reset of either engine of a pair resets both and clears PAIR. -/
def State.tgReset (s : State) (e : Nat) : State :=
  let l := s.tgLead e
  let s1 := s.tgSlicesAbort e
  if s1.tgPaired l then (s1.tgReset1 l).tgReset1 (l + 1) else s1.tgReset1 e

/-- What a write to a register of an engine's page does beyond its fields (R138, R139, R170, R177, R179, R184). The odd engine's page
is ignored in a pair, apart from TG_STAT. DEST stands while a move is under way (log entry 132). -/
def tgWrite (a v : Nat) (old s : State) : State :=
  let e := (a - 0x4005_0000) / 0x1000
  let o := a % 0x1000
  if old.tgLead e != e && o != 4 then old
  else if o = 0 then s.each (bitsOf v 8) (fun t k => t.tgSwdisp e k)
  else if o = 8 then
    if e % 2 = 1 then old
    else
      let was := old.get (TG_PCTL_PAIR e)
      (s.set (TG_PCTL_PAIR e) was).tgPairWrite e (bitOf v 31)
  else if o = 0x20 then
    let fwd := old.on (TG_MOVE_FWD e)
    let s1 := if !fwd then s.set (TG_MOVE_FWD e) 0 else if bitOf v 28 then s.set (TG_MOVE_FWD e) 1 else s.tgFwdClear e
    let s2 := (s1.set (TG_MOVE_GO e) (old.get (TG_MOVE_GO e))).setIf (old.on (TG_MOVE_GO e)) (TG_MOVE_DEST e) (old.get (TG_MOVE_DEST e))
    if bitOf v 31 && !old.on (TG_MOVE_GO e) then s2.tgMoveGo e (bf v 24 4) else s2
  else if 0x40 ≤ o ∧ o < 0xC0 ∧ o % 0x10 = 0 then
    let k := (o - 0x40) / 0x10
    if s.on (TG_SLOT_EN e k) && !old.on (TG_SLOT_EN e k) then s.tgSet e (fun x => { x with divs := x.divs.put k 0 }) else s
  else s

end Sys2Proof.Machine
end

