-- ==== Sys2Proof/Machine/Boot.lean ====
section
/-! DEFINITION. Secure boot: manifest, verification, settings record, measurement, loading and the start of the harts (R456, R463, R515 to R526,
R603 to R605). -/

namespace Sys2Proof.Machine

open Sys2Proof

/-! ### The manifest (R517, R518) -/

/-- Where bank `b` begins, and where its manifest lies. -/
def bankBase (b : Nat) : Nat := b * 0x0100_0000
def manifest (p : Part) (b : Nat) : Nat := bankBase b + envmBank p - 0x1_0000

/-- Word at offset `o` of the manifest of bank `b`. -/
def State.man (s : State) (b o : Nat) : Nat := s.load (manifest s.part b + o) 4

/-- Security version, signature scheme and root-key slot of a bank. -/
def State.manVersion (s : State) (b : Nat) : Nat := s.man b 8
def State.manScheme (s : State) (b : Nat) : Nat := s.man b 0xC % 2
def State.manSlot (s : State) (b : Nat) : Nat := s.man b 0x10

/-- The fields of the monitor descriptor: code, data, SRAM base and stride, first and restart entry. -/
def State.monCode (s : State) (b : Nat) : Nat × Nat := (s.man b 0x18, s.man b 0x1C)
def State.monData (s : State) (b : Nat) : Nat × Nat := (s.man b 0x20, s.man b 0x24)
def State.isBase (s : State) (b : Nat) : Nat := s.man b 0x28
def State.isStride (s : State) (b : Nat) : Nat := s.man b 0x2C

/-- The address of the first entry and of the restart entry. -/
def State.entryAt (s : State) (b : Nat) (restart : Bool) : Nat := bankBase b + (s.monCode b).1 + s.man b (if restart then 0x34 else 0x30)

/-- The area of hart `h`, and its Outer save area. -/
def State.hartArea (s : State) (b h : Nat) : Nat := s.isBase b + h * s.isStride b
def State.saveArea (s : State) (b h : Nat) : Nat := s.hartArea b h + s.isStride b - 4096

/-- An image entry: kind word, offset, size, destination. -/
def State.image (s : State) (b k : Nat) : Nat × Nat × Nat × Nat :=
  let o := 0x40 + 16 * k
  (s.man b o, s.man b (o + 4), s.man b (o + 8), s.man b (o + 12))

/-- The image entries of a bank. -/
def State.images (s : State) (b : Nat) : List (Nat × Nat × Nat × Nat) := (List.range (min 15 (s.man b 0x14))).map (s.image b)

/-- SHA-384 as 48 bytes. -/
def digest (l : List Nat) : List Nat := toBytesBE 48 (Config.sha384 l).toNat

/-! ### Settings records (R526, R603) -/

/-- Copy `k` of the settings record of a bank: its words, its sequence number, and whether its CRC is good. -/
def State.recAt (s : State) (b k : Nat) : Nat := manifest s.part b + 0x2000 * (k + 1)
def State.recSeq (s : State) (b k : Nat) : Nat := s.load (s.recAt b k + 0x1000) 4
def State.recGood (s : State) (b k : Nat) : Bool :=
  crc32 (s.bytes (s.recAt b k) 0x1004) == s.load (s.recAt b k + 0x1004) 4

/-- The copy of a bank's record that counts: a good CRC and the higher sequence number. -/
def State.recCopy (s : State) (b : Nat) : Option Nat :=
  match s.recGood b 0, s.recGood b 1 with
  | true, true => some (if s.recSeq b 1 ≤ s.recSeq b 0 then 0 else 1)
  | true, false => some 0
  | false, true => some 1
  | false, false => none

/-- Word `i` of the record in a copy. -/
def State.recWord (s : State) (b k i : Nat) : Nat := s.load (s.recAt b k + 4 * i) 4

/-- A copy of a record written: words, sequence number, CRC (R515, R526). -/
def State.recWrite (s : State) (b k : Nat) (words : List Nat) (seq : Nat) : State :=
  let bs := words.flatMap (toBytes 4) ++ toBytes 4 seq
  s.setBytes (s.recAt b k) (bs ++ toBytes 4 (crc32 bs))

/-- Both copies written in turn, the one with the lower sequence number first. -/
def State.recCommit (s : State) (b : Nat) (words : List Nat) : State :=
  let c := (s.recCopy b).getD 0
  let q := if (s.recCopy b).isSome then s.recSeq b c + 1 else 1
  (s.recWrite b (1 - c) words (q % 2 ^ 32)).recWrite b c words (q % 2 ^ 32)

/-! ### Keys and signatures (R514, R519) -/

/-- Whether a root-key slot is provisioned and not revoked. -/
def State.rootLive (s : State) (k : Nat) : Bool := decide (k < 4) && s.cmp.ks.roots.get k != [] && !bitOf s.cmp.ks.revoked k

/-- R519: a public key is accepted under slot `k`: SHA-384 of the slot's type word and the key equals the slot's digest. -/
def State.keyOk (s : State) (k : Nat) (key : List Nat) : Bool :=
  s.rootLive k && digest ((s.cmp.ks.roots.get k).take 4 ++ key) == (s.cmp.ks.roots.get k).drop 4

/-- R512, R517 to R521, R524: a bank checked as boot does: 0, or the ERR of the check that fails. Magic, format, entries and key fail as a
signature does (log entry 28). `ecc` says that an uncorrectable word was found. -/
def State.verifyBank (s : State) (b : Nat) (ecc : Bool) : Nat :=
  let ks := s.cmp.ks
  let n := s.man b 0x14
  let msg := s.bytes (manifest s.part b) 0x900
  let key := s.bytes (manifest s.part b + 0x800) 0x100
  let sig := s.bytes (manifest s.part b + 0x900) 0x1700
  let test := ks.lc == 1 || ks.lc == 4
  let fits (o z : Nat) : Bool := decide (o + z ≤ envmBank s.part - 0x1_0000)
  let agree (e : Nat × Nat × Nat × Nat) : Bool :=
    if e.1 % 16 = 0 then (e.2.1, e.2.2.1) == s.monCode b else if e.1 % 16 = 1 then (e.2.1, e.2.2.1) == s.monData b else true
  if ecc then errECC
  else if ks.lc = 0 ∨ ks.lc = 5 then errAUTH
  else if s.man b 0 ≠ 0x4A484D46 ∨ s.man b 4 ≠ 1 ∨ n = 0 ∨ 15 < n then errAUTH
  else if (if test then key != Config.makerKey else !s.keyOk (s.manSlot b) key) then errAUTH
  else if ks.lc = 3 ∧ s.manVersion b < ks.rollback then errVERSION
  else if !Config.sigOk (s.manScheme b) key msg sig then errAUTH
  else if !(s.images b).all (fun e => fits e.2.1 e.2.2.1 && agree e) then errDIGEST
  else if !(s.images b).zipIdx.all (fun p =>
      digest (s.bytes (bankBase b + p.1.2.1) p.1.2.2.1) == s.bytes (manifest s.part b + 0x200 + 48 * p.2) 48) then errDIGEST
  else if (s.recCopy b).isNone then errECC
  else 0

/-! ### Measurement (R522) -/

/-- A measurement slot; every slot starts at zero. -/
def State.measAt (s : State) (k : Nat) : List Nat := if s.cmp.meas.get k = [] then List.replicate 48 0 else s.cmp.meas.get k

/-- Slot `k` extended with digest `d`. -/
def State.measExtend (s : State) (k : Nat) (d : List Nat) : State :=
  { s with cmp := { s.cmp with meas := s.cmp.meas.put k (digest (s.measAt k ++ d)) } }

/-- Slots 0 to 3 at boot, from zero. -/
def State.measBoot (s : State) (b : Nat) : State :=
  let s0 : State := { s with cmp := { s.cmp with meas := {} } }
  let img (o : Nat × Nat) : List Nat := digest (s.bytes (bankBase b + o.1) o.2)
  let words := (List.range 1024).flatMap (fun i => toBytes 4 (s.pow.record.get i))
  let s1 := s0.measExtend 0 (digest (toBytes 4 Config.romVersion.toNat ++ s.bytes (manifest s.part b) 0x2000 ++ words))
  let s2 := (s1.measExtend 1 (img (s.monCode b))).measExtend 2 (img (s.monData b))
  s2.each ((s.images b).filter (fun e => decide (2 ≤ e.1 % 16))) (fun t e => t.measExtend 3 (img (e.2.1, e.2.2.1)))

/-! ### The cfg fields (R535, R536, R603 to R605) -/

/-- The registers of the settings map: first index, number, address and stride. -/
def settingsMap : List (Nat × Nat × Nat × Nat) :=
  [(1, 1, a_GTB_CFG, 4), (2, 1, a_PWR_VCORE, 4), (3, 1, a_PWR_DOMCTL, 4), (4, 1, a_RST_CFG, 4), (5, 1, a_STE_CTL, 4), (6, 1, a_PCIE_CTL, 4),
   (7, 1, a_PCIE_VFCTL, 4), (9, 1, a_SYS_TWIN, 4), (10, 4, a_PAIR_CFG 0, 0x1000), (16, 8, a_RGN_IGRP 0, 4), (24, 8, a_RGN_WWDT 0, 16),
   (32, 1, a_CRS_CTL, 4), (33, 1, a_CRS_CFG, 4), (34, 1, a_CRS_CFG2, 4), (35, 1, a_CRS_LMAC, 8), (37, 1, a_CRS_BBMAC, 8), (39, 1, a_CRS_SA, 8),
   (41, 1, a_GW_MAC, 8), (43, 1, a_GW_IPV4, 4), (64, 40, a_CRS_BUS 0, 4), (128, 40, a_PSC_OWN 0, 4), (256, 320, a_EVR_ROUTE 0, 4),
   (576, 256, a_PCIE_FNID 0, 4)]

/-- The cfg fields of one register written from a word. -/
def State.cfgReg (s : State) (a v : Nat) : State :=
  match findReg a allRegs with
  | some (r, i, j, _) => s.each ((r.flds i j).filter (fun f => f.kind == Kind.cfg)) (fun t f => t.set f (v / 2 ^ f.lo))
  | none => s

/-- The value that the record gives a register: a low and a high word for a pair. -/
def State.cfgWord (s : State) (i a : Nat) : Nat :=
  match findReg a allRegs with
  | some (r, _, _, _) => if r.size = 8 then s.pow.record.get i + s.pow.record.get (i + 1) * 2 ^ 32 else s.pow.record.get i
  | none => s.pow.record.get i

/-- The part of a route that a word of 0 stands for: the source's default class (R603). -/
def State.cfgRoute (s : State) (n : Nat) : State :=
  if s.pow.record.get (256 + n) = 0 then s.set (EVR_ROUTE_CLASS n) (evrDefaultClass n) else s

/-- R604: the CAN ownership runs, in increasing index over a table without owners. -/
def State.cfgCan (s : State) : State :=
  let objs := (List.range 16).flatMap (fun c => (List.range 128).map (fun o => (c, o)))
  let own (t : State) (c o m i : Nat) : State := ((t.set (CAN_OBJOWN_MODE c o) m).set (CAN_OBJOWN_OWNID c o) i).set (CAN_OBJOWN_VI c o) 0
  let s1 := s.each objs (fun t x => own t x.1 x.2 0 0)
  let s2 := s1.each (List.range 64) (fun t k =>
    let w := t.pow.record.get (192 + k)
    if bitOf w 5 then
      t.each ((List.range (bf w 6 7 + 1)).filter (fun d => decide (bf w 13 7 + d < 128))) (fun u d => own u (bf w 20 4) (bf w 13 7 + d) (bf w 30 2) (bf w 24 6))
    else t)
  if s2.on CRS_CTL_EN then
    s2.each ((List.range 16).filter (fun c => s2.on (CRS_BUS_RING c))) (fun t c => (t.set (CAN_OBJOWN_MODE c 126) 3).set (CAN_OBJOWN_MODE c 127) 3)
  else s2

/-- R536: the target of the set point: 20 in a bring-up until Compass has written the cfg values. -/
def State.vcoreTarget (s : State) : Nat :=
  if s.cmp.booted.isNone && s.pow.bringUp.any (fun k => decide (k < 4)) then 20 else min 30 (s.get PWR_VCORE_TARGET)

/-- R536: the set point in force follows its target, less the steps of a thermal lowering in mode 0b01; 0.700 V while VBAT is low (R532). -/
def State.vcoreFollow (s : State) : State :=
  let t := s.vcoreTarget
  let s1 : State := if s.get PWR_VCORE_MODE = 1 then { s with pow := { s.pow with lower := min s.pow.lower t } }
    else { s with pow := { s.pow with lower := 0, hot := false } }
  s1.set PWR_VCORE_SET (if s.on PWR_STAT_VBATLO then 0 else t - s1.pow.lower)

/-- The domains that come up with the dies: the ones that are not switched, and those that PWR_DOMCTL has on; Tangram local memory without power reads as memory
that nothing has written (R533, log entry 3), and the PWM balls go from high impedance to low (R550). -/
def State.domainsUp (s : State) : State :=
  let s1 := s.each (List.range 3) (fun t k => if bitOf (s.get PWR_DOMCTL_COLD) (4 + k) then t else t.zero (0x2000_0000 + k * 0x10_0000) 0x10_0000)
  let s2 := if bitOf (s.get PWR_DOMCTL_RUN) 1 then s1.each (List.range 24) (fun t j => (t.pwmBall j false 2 0).pwmBall j true 2 0) else s1
  s2.set PWR_DOMSTAT_UP (0x301F + s.get PWR_DOMCTL_COLD * 2 ^ 5 + s.get PWR_DOMCTL_RUN * 2 ^ 14)

/-- Islands locked while their dies and domains are up (R24, R27, R551). -/
def State.islands (s : State) : State :=
  let up (d : Nat) : Bool := bitOf (s.get PWR_DOMSTAT_UP) d
  let dom := [16, 16, 17, 17, 17, 17, 17, 17, 18, 19, 20, 20, 21, 4, 4, 4, 15, 14, 14, 4, 23, 22, 13, 0, 13]
  s.set SYS_CLKSTAT_LOCK (bitsFrom 25 (fun n => up (dom.getD n 0)))

/-- R520, R542: the cfg fields from the record in force, at a cold or power-on boot. -/
def State.cfgApply (s : State) : State :=
  let s1 := s.each (settingsMap.flatMap (fun m => (List.range m.2.1).map (fun k => (m.1 + k, m.2.2.1 + k * m.2.2.2))))
    (fun t x => t.cfgReg x.2 (t.cfgWord x.1 x.2))
  let s2 := ((s1.each (List.range 320) State.cfgRoute).cfgCan).vcoreFollow
  (s2.each (List.range 4) (fun t n => t.set (PAIR_STAT_STATE n) 0)).each (List.range 256) (fun t i => t.set (VI_INFO_VI i) i)

/-! ### Loading and starting (R456, R520, R577) -/

/-- The Inner data area of a hart, or a destination, filled with an image and zeros. -/
def State.place (s : State) (a : Nat) (src : Nat × Nat) (area : Nat) : State :=
  let n := min src.2 area
  (s.zero (a + n) (area - n)).setBytes a (s.bytes src.1 n)

/-- The Inner data area of hart `h` loaded from the monitor's data image (R456). -/
def State.innerLoad (s : State) (b h : Nat) : State :=
  s.place (s.hartArea b h) (bankBase b + (s.monData b).1, (s.monData b).2) (s.isStride b - 4096)

/-- The harts of a part. -/
def State.harts (s : State) : List Nat := List.range (2 * nPair s.part)

/-- The images of kinds 1, 3, 4 and 5 loaded. -/
def State.loadImages (s : State) (b : Nat) : State :=
  let s1 := s.each s.harts (fun t h => t.innerLoad b h)
  s1.each (s.images b) (fun t e =>
    let src := t.bytes (bankBase b + e.2.1) e.2.2.1
    let g := bf e.1 8 4
    if e.1 % 16 = 3 then t.setBytes e.2.2.2 src
    else if e.1 % 16 = 4 ∧ g < nTg t.part ∧ !t.unusable (72 + g) then t.setBytes (tgImem g) (src.take 0x1_0000)
    else if e.1 % 16 = 5 ∧ g < nTg t.part ∧ !t.unusable (72 + g) then t.setBytes (tgDmem g) (src.take 0x1_0000)
    else t)

/-- Permission bits `x` for the groups of the initiators 0 to 7. -/
def State.coreGroups (s : State) (x : Nat) : Nat :=
  (List.range 8).foldl (fun a id => a ||| x * 2 ^ (3 * s.groupOf id)) 0

/-- A region slot set whole. -/
def State.slotSet (s : State) (t r base lim pi po : Nat) : State :=
  ((((s.set (RGN_RBASE_BASE t r) base).set (RGN_RLIM_LIMIT t r) lim).set (RGN_RPI_PERM t r) pi).set (RGN_RPO_PERM t r) po).set (RGN_RCTL_EN t r) 1

/-- R456: slot 0 of the checkers that the code range and the Inner SRAM range touch. -/
def State.monSlots (s : State) (b : Nat) : State :=
  let c0 := bankBase b + (s.monCode b).1
  let s1 := s.slotSet b 0 (c0 / 4096) ((c0 + (s.monCode b).2 - 1) / 4096) (s.coreGroups 5) 0
  let a := s.isBase b
  let z := a + 8 * s.isStride b - 1
  s1.each ((List.range 4).filter (fun q =>
      let lo := 0x1000_0000 + q * (sramSize s.part / 4)
      decide (a < lo + sramSize s.part / 4) && decide (lo ≤ z)))
    (fun t q => t.slotSet (2 + q) 0 (a / 4096) (z / 4096) (s.coreGroups 3) 0)

/-- R577: whether a hart can start: carried, its domain on, its core usable; a joined pair needs SRAM bank 3. -/
def State.hartUsable (s : State) (h : Nat) : Bool :=
  decide (h < 2 * nPair s.part) && s.domainUp (5 + h / 2) && !s.unusable (128 + h) && (!s.joined h || (h % 2 == 0 && !s.unusable 139))

/-- R424, R427, R572, R577: hart `h` starts at `pc` in M-mode in the Inner world; a joined pair with fresh state, or in solo where one core cannot run. -/
def State.hartStart (s : State) (h pc a1 a2 : Nat) : State :=
  if !s.hartUsable h then s
  else if s.joined h then
    let n := h / 2
    let bad (c : Nat) : Bool := s.marked (128 + c)
    let s0 := s.pairSet n (fun p => { p with swap := bad h })
    let l := s0.leadOf n
    let s1 := ((s0.coreReset (2 * n)).coreReset (2 * n + 1)).coreStart l pc h a1 a2
    if bad h || bad (h + 1) then
      let s2 := s1.pairSet n (fun p => { misms := p.misms, swap := p.swap, image := some (s1.archOf l) })
      (s2.jocc n).set (PAIR_STAT_STATE n) 4
    else s1.pairFresh n
  else s.coreStart h pc h a1 a2

/-- The first start of hart `h` from the booted bank. -/
def State.hartBoot (s : State) (h : Nat) : State :=
  match s.cmp.booted with
  | some b => s.hartStart h (s.entryAt b false) 0 (s.saveArea b h)
  | none => s

/-- R520: load_and_start. A warm boot keeps the cfg fields and the record in force (R542). An AZC that starts with CRS_CTL.EN = 1 sends its alive messages (R318). -/
def State.loadAndStart (s : State) (b : Nat) : State :=
  let warm := s.pow.bringUp == some 4
  let words : Tab Nat := match s.recCopy b with
    | some k => (List.range 1024).foldl (fun t i => t.put i (s.recWord b k i)) {}
    | none => s.pow.record
  let s0 : State := { s with cmp := { s.cmp with booted := some b, trial := s.cmp.ks.pending == some b }
                             pow := { s.pow with settings := true, record := if warm then s.pow.record else words } }
  let s1 := (if warm then s0 else ((s0.cfgApply).domainsUp).islands).monSlots b
  let s2 := ((s1.loadImages b).measBoot b)
  let s3 := s2.each s2.harts State.hartBoot
  if s3.on CRS_CTL_EN then s3.carouselEnable else s3

/-! ### Secure boot (R520, R521) -/

/-- A boot attempt of bank `b`: its ERR recorded, and event 297 cause 2 where it fails. -/
def State.bootTry (s : State) (b : Nat) (ecc : Bool) : State × Bool :=
  let err := s.verifyBank b ecc
  let s1 : State := { s with cmp := { s.cmp with bootErr := s.cmp.bootErr.put b err } }
  if err = 0 then
    let s2 := s1.evrTake.raiseC 297 1 b
    let s3 := if s.cmp.ks.pending = some b then s2.evrTake.raiseC 297 3 s.cmp.ks.tries
      else if s.cmp.ks.pending.isSome ∧ s.cmp.ks.tries = 0 then s2.evrTake.raiseC 297 4 b else s2
    (s3.loadAndStart b, true)
  else
    let s2 := s1.evrTake.raiseC 297 2 (b * 256 + err)
    (if s.cmp.ks.pending = some b then { s2 with cmp := { s2.cmp with ks := { s2.cmp.ks with tries := 0, seq := s2.cmp.ks.seq + 1 } } } else s2, false)

/-- R82: an event recorded while the EVR did not run enters it: with a stamp more than 500 ns old it is a late event, each taken into the sort before the next enters. -/
def State.enterLate (s : State) (src word : Nat) (at_ : Stamp) : State :=
  if s.muted src then s
  else if at_.ns + 500 < s.nowNs then
    { s with evr := { s.evr with late := s.evr.late ++ [{ src := src, word := word % 2 ^ 32, at_ := at_, typ := .late, route := s.route src }] } }
  else s.evrTake.raiseAt src word at_

/-- R543, R70, R537: the bring-up reports its reset with source 0, and what the backup domain has recorded before the EVR ran enters it. -/
def State.bootReport (s : State) : State :=
  let s1 := s.raise 0 (s.get RST_CAUSE_KIND * 2 ^ 28 + s.get RST_CAUSE_SRC * 2 ^ 24 + s.get RST_CAUSE_RESTARTS * 2 ^ 16)
  let s2 := s1.each s.pow.backLog (fun t p => t.enterLate p.1 p.2.1 p.2.2)
  { s2 with pow := { s2.pow with backLog := [] } }

/-- R521: recovery mode: no hart starts. -/
def State.recovery (s : State) : State := (s.bootReport.set MBX_GSTAT_RECOVERY 1).evrTake.raiseC 297 5 0

/-- The life-cycle state as MBX_GSTAT shows it. -/
def State.showLc (s : State) : State := s.set MBX_GSTAT_LC s.cmp.ks.lc

/-- Memory of a bank below its key-store copy, erased: eNVM that nothing has programmed reads as unwritten memory (log entry 3). -/
def State.bankErase (s : State) (b : Nat) : State := s.zero (bankBase b) (envmBank s.part - 0x8000)

/-- R516: an erasure that a loss of power has interrupted is completed. -/
def State.eraseFinish (s : State) : State :=
  if s.cmp.ks.erase then
    let s1 := (s.bankErase 0).bankErase 1
    { s1 with cmp := { s1.cmp with ks := { s1.cmp.ks with erase := false, seq := s1.cmp.ks.seq + 1 } } }
  else s

/-- R551, R576: the power-up tests of the SRAM banks, the cores and the engines have ended: Compass then loads images and starts harts. -/
def State.coreTested (s : State) : Bool :=
  ((List.range 4).map (· + 136) ++ s.harts.map (· + 128) ++ (List.range (nTg s.part)).map (· + 72)).all s.tested

end Sys2Proof.Machine
end

