-- ==== Sys2Proof/Machine/Gtb.lean ====
section
/-! DEFINITION. The global time base: its advance, slews and steps, gPTP and the servo, trigger comparators and capture units
(R40 to R66, R629). -/

namespace Sys2Proof.Machine

open Sys2Proof

/-! ### Advance (R40, R41, R629) -/

/-- The saturation of GTB_RATE and the slew offset: 500 ppm in units of 2⁻³² (R41, R629). -/
def rateLimit : Int := 0x0020C49C

/-- The GTB with its 64-bit nanosecond count kept to 64 bits: it stands at its largest value, so that it never moves backward (R42; DESIGN CHOICE, log entry 119). -/
def gtbWrap (t : Nat) : Nat := min t (2 ^ 104 - 1)

/-- The GTB and slew changed. -/
def State.setGtb (s : State) (now : Nat) (slew : Int) : State := { s with gtb := { s.gtb with now := gtbWrap now, slew := slew } }

/-- The advance of one tick under GTB_RATE alone, in units of 2⁻⁴⁰ ns: 4 ns × (1 + RATE × 2⁻³²) (R40). -/
def State.tickAdvance (s : State) : Nat := (4 * 2 ^ 8 * ((2 : Int) ^ 32 + clampI (-rateLimit) rateLimit (s.getS GTB_RATE_RATE))).toNat

/-- The gain of one tick of a running slew, at most what is still to come (R629). -/
def slewGain (slew : Int) : Int :=
  let g : Int := 4 * 2 ^ 8 * rateLimit
  if 0 < slew then min slew g else if slew < 0 then max slew (-g) else 0

/-- One tick of the 250 MHz GTB island (R40, R629); holdover time counts (R50). -/
def State.gtbTick (s : State) : State :=
  let g := slewGain s.gtb.slew
  let s1 := s.setGtb ((s.gtb.now + s.tickAdvance : Int) + g).toNat (s.gtb.slew - g)
  if s.on GTB_STAT_HOLDOVER then
    let h := s.gtb.holdNs + 4
    ({ s1 with gtb := { s1.gtb with holdNs := h } }).set GTB_HOLDTIME_MS (satU 32 (h / 1000000))
  else s1

/-! ### Quality and slot state (R52, R63, R65) -/

/-- GTB_STAT.QUAL as R63 gives it. -/
def State.quality (s : State) : Nat :=
  if !s.on GTB_STAT_GTB_VALID then 1
  else if s.on GTB_STAT_HOLDOVER then (if s.gtb.rc then 4 else 3)
  else if s.on GTB_STAT_LOCKED then 6
  else if s.gtb.restored then 2
  else 5

/-- GTB_STAT.QUAL brought up to date. -/
def State.refreshQual (s : State) : State := s.set GTB_STAT_QUAL s.quality

/-- The slave port of a slot; none where the AZC is grandmaster (R65). -/
def State.slavePort (s : State) (d : Nat) : Option Nat :=
  let p := s.get (GTB_DCFG_SLVPORT d)
  if p < 12 ∨ p = 16 ∨ p = 17 then some p else none

/-- GTB_DSTAT.STATE as R65 gives it. -/
def State.slotState (s : State) (d : Nat) : Nat :=
  if !s.on (GTB_DCFG_EN d) then 0
  else if (s.slavePort d).isNone then 4
  else if s.get GTB_CFG_DOMAIN = d ∧ s.on GTB_STAT_HOLDOVER then 3
  else if (s.gtb.doms.get d).last.isNone ∨ (s.gtb.doms.get d).silent = true then 1
  else 2

/-- GTB_DSTAT.STATE brought up to date; a change in a slot that is not selected raises source 21 (R68). -/
def State.refreshSlot (s : State) (d : Nat) : State :=
  let v := s.slotState d
  if v = s.get (GTB_DSTAT_STATE d) then s
  else
    let s1 := s.set (GTB_DSTAT_STATE d) v
    if s.get GTB_CFG_DOMAIN = d then s1 else s1.raise 21 d

/-! ### Triggers (R53 to R58) -/

/-- The compare value of a trigger in units of 1/256 ns. -/
def State.trgCmp (s : State) (n : Nat) : Nat := s.get (GTB_TRGCMP_CMP n) * 256 + s.get (GTB_TRGPERF_CMPFRAC n)

/-- The compare value of a trigger set, in units of 1/256 ns. -/
def State.setTrgCmp (s : State) (n v : Nat) : State :=
  (s.set (GTB_TRGCMP_CMP n) (v / 256 % 2 ^ 64)).set (GTB_TRGPERF_CMPFRAC n) (v % 256)

/-- The period of a trigger in units of 1/256 ns, at least 40 ns (R54). -/
def State.trgPer (s : State) (n : Nat) : Nat := max (40 * 256) (s.get (GTB_TRGPER_PER n) * 256 + s.get (GTB_TRGPERF_PERFRAC n))

/-- The GTB in units of 1/256 ns. -/
def State.now256 (s : State) : Nat := s.gtb.now / 2 ^ 32

/-- ARMED follows EN: enabled and waiting for the compare value (R66). -/
def State.arm (s : State) (n : Nat) : State := s.set (GTB_TRGSTAT_ARMED n) (s.get (GTB_TRGCTL_EN n))

/-- R53, R54, R55, R66: a firing: the count, FIRED, the next compare value or the end of a one-shot, the pulse on its ball, and its way to the units that follow the
line. -/
def State.fire (s0 : State) (n : Nat) : State :=
  let s := s0.follow (s0.lineDues n)
  let s1 := (s.addWrap (GTB_TRGCNT_CNT n) 1).set (GTB_TRGSTAT_FIRED n) 1
  let s2 := if s.on (GTB_TRGCTL_PERIODIC n) then s1.setTrgCmp n (s.trgCmp n + s.trgPer n)
    else (s1.set (GTB_TRGCTL_EN n) 0).set (GTB_TRGSTAT_ARMED n) 0
  if s.on (GTB_TRGCTL_OUTEN n) then
    let b := s.get (GTB_TRGCTL_OUT n)
    let w := 4 * max 1 (s.get (GTB_TRGCTL_PULSE n))
    let s3 : State := { s2 with gtb := { s2.gtb with outHigh := s2.gtb.outHigh.put b (max (s.gtb.outHigh.get b) (s.pow.elapsed + 8 + w)) } }
    if s.gtb.outHigh.get b = 0 then s3.emit (.ball "GTB_OUT" b 1) else s3
  else s2

/-- R55, R66: the pulses of the balls GTB_OUT0 to GTB_OUT3 whose end has come. -/
def State.outEnds (s : State) : State :=
  s.each (List.range 4) (fun t n =>
    if t.gtb.outHigh.get n ≠ 0 ∧ t.gtb.outHigh.get n ≤ t.pow.elapsed then
      ({ t with gtb := { t.gtb with outHigh := t.gtb.outHigh.put n 0 } } : State).emit (.ball "GTB_OUT" n 0)
    else t)

/-- R56: a late firing: as a firing, with LATE set and source 24 raised. -/
def State.fireLate (s : State) (n : Nat) : State := ((s.fire n).set (GTB_TRGSTAT_LATE n) 1).raise 24 n

/-- R53: trigger `n` fires where it is enabled and the GTB has reached its compare value. -/
def execTriggerFire (n : Fin 64) (s : State) : Host.Outcome State Fault Refusal :=
  if s.on (GTB_TRGCTL_EN n) && decide (s.trgCmp n ≤ s.now256) then done (s.fire n) else done s

/-- R56: the compare value is applied; at or below the GTB with the trigger enabled, it fires late. -/
def execTriggerCompareWrite (n : Fin 64) (value : Nat) (s : State) : Host.Outcome State Fault Refusal :=
  let s1 := s.set (GTB_TRGCMP_CMP n) value
  if s1.on (GTB_TRGCTL_EN n) && decide (s1.trgCmp n ≤ s1.now256) then done (s1.fireLate n) else done s1

/-- R56, R57: the fields of GTB_TRGCTL are written; setting EN with the compare value at or below the GTB fires late,
clearing EN before the match keeps the trigger from firing. -/
def execTriggerCtlWrite (n : Fin 64) (value : Nat) (s : State) : Host.Outcome State Fault Refusal :=
  let was := s.on (GTB_TRGCTL_EN n)
  let s1 := (((((s.set (GTB_TRGCTL_EN n) (bf value 31 1)).set (GTB_TRGCTL_PERIODIC n) (bf value 30 1)).set
    (GTB_TRGCTL_STEPFOLLOW n) (bf value 29 1)).set (GTB_TRGCTL_OUTEN n) (bf value 18 1)).set (GTB_TRGCTL_OUT n) (bf value 16 2)).set
    (GTB_TRGCTL_PULSE n) (bf value 0 16)
  let s2 := s1.arm n
  if !was && s2.on (GTB_TRGCTL_EN n) && decide (s2.trgCmp n ≤ s2.now256) then done (s2.fireLate n) else done s2

/-- R58 for one enabled trigger: `old` is the GTB before the step and `d` the step applied, in units of 1/256 ns. -/
def State.stepTrigger (old : Nat) (d : Int) (s : State) (n : Nat) : State :=
  if !s.on (GTB_TRGCTL_EN n) then s
  else
    let c := s.trgCmp n
    if s.on (GTB_TRGCTL_STEPFOLLOW n) then s.setTrgCmp n ((c + d).toNat)
    else if decide (0 < d) && decide (old < c) && decide (c ≤ s.now256) then
      let s1 := s.fireLate n
      if s.on (GTB_TRGCTL_PERIODIC n) then
        let c1 := s1.trgCmp n
        if s1.now256 < c1 then s1
        else
          let k := (s1.now256 - c1) / s1.trgPer n + 1
          ((s1.setTrgCmp n (c1 + k * s1.trgPer n)).addSat (GTB_TRGSTAT_MISSED n) k).raise 25 (satU 16 k * 2 ^ 16 + n)
      else s1
    else s

/-! ### Steps and slews (R49, R58, R258, R629) -/

/-- R49: the step that is applied for a step of `d` ns: to 0 at the lowest, to 2⁶⁴ − 1 ns at the highest. -/
def appliedStep (nowNs : Nat) (d : Int) : Int :=
  if (nowNs : Int) + d < 0 then -(nowNs : Int) else if (2 : Int) ^ 64 - 1 < nowNs + d then (2 : Int) ^ 64 - 1 - nowNs else d

/-- R49: a step of `d` ns in one tick. It ends a slew (R629), moves triggers (R58) and gate lists (R258), sets STEPPED and
raises source 20, whose record is the time-jump record with the step applied. The record carries the GTB after the step as its stamp (DESIGN CHOICE, log entry 120). -/
def State.gtbStep (s : State) (d : Int) : State :=
  let a := appliedStep s.nowNs d
  let old := s.now256
  let to0 := decide ((s.nowNs : Int) + d < 0)
  let now' := if to0 then 0 else ((s.gtb.now : Int) + a * nsUnit).toNat
  let s1 := (s.setGtb now' 0).set GTB_STAT_STEPPED 1
  let s2 := s1.each (List.range 64) (State.stepTrigger old (a * 256))
  let w := ofS 32 (clampI (-0x7FFFFFFF) 0x7FFFFFFF a)
  (s2.gateStep).enter { src := 20, word := w, at_ := s2.stamp, typ := .jump }

/-- R49, R64: a write of 1 to GTB_ADJCTL.STEP steps the GTB by GTB_ADJ, ignored while SERVO = 1. -/
def execGtbStep (s : State) : Host.Outcome State Fault Refusal :=
  if s.on GTB_CFG_SERVO then done s else done (s.gtbStep (s.getS GTB_ADJ_OFS))

/-- R629: a write of 1 to GTB_ADJCTL.SLEW starts a slew by GTB_ADJ, or replaces the gain still to come; ignored while SERVO = 1,
and a GTB_ADJ of 0 starts none. -/
def execSlewStart (s : State) : Host.Outcome State Fault Refusal :=
  let a := s.getS GTB_ADJ_OFS
  if s.on GTB_CFG_SERVO || decide (a = 0) then done s
  else done { s with gtb := { s.gtb with slew := a * nsUnit } }

/-- R629: the tick at which the GTB has gained GTB_ADJ. The time of the remaining gain passes with it: as many ticks as 500 ppm
need, each under GTB_RATE, plus the gain. -/
def execSlewComplete (s : State) : Host.Outcome State Fault Refusal :=
  let g := s.gtb.slew
  let n := (g.natAbs + (4 * 2 ^ 8 * rateLimit).toNat - 1) / (4 * 2 ^ 8 * rateLimit).toNat
  done (s.setGtb ((s.gtb.now : Int) + (n * s.tickAdvance : Nat) + g).toNat 0)

/-- R64: TAKE captures the GTB, its fraction and its quality in one tick. -/
def execSnapshotTake (s : State) : Host.Outcome State Fault Refusal :=
  done (((s.set GTB_SNAP_NS s.nowNs).set GTB_SNAPX_QUAL (s.get GTB_STAT_QUAL)).set GTB_SNAPX_FRAC s.nowFrac)

/-! ### Holdover and the servo (R47 to R52) -/

/-- R50: the GTB enters holdover: the servo stops, LOCKED clears (R47), HOLDTIME starts, and source 17 is raised with [0] = 1.
In holdover already, it stays (log entry 7). -/
def State.enterHoldover (s : State) : State :=
  if s.on GTB_STAT_HOLDOVER then { s with gtb := { s.gtb with reacq := 0 } }
  else
    let s1 := { s with gtb := { s.gtb with lockRun := 0, reacq := 0, holdNs := 0 } }
    let s2 := ((s1.set GTB_STAT_HOLDOVER 1).set GTB_STAT_LOCKED 0).set GTB_HOLDTIME_MS 0
    (s2.refreshQual.refreshSlot (s.get GTB_CFG_DOMAIN)).raise 17 1

/-- R48: an offset of `o` ns is slewed out: the servo sets GTB_RATE within ±500 ppm. Its value is a free value (log entry 4). -/
def State.servoSlew (s : State) (o : Int) : State :=
  let r := clampI (-rateLimit) rateLimit (Config.servoRate s.free o (s.get GTB_SRVCFG_KP) (s.get GTB_SRVCFG_KI))
  (s.setS GTB_RATE_RATE r).draw

/-- R48: a correction of offset `o` under STEPMODE; `first` says that lock is gained for the first time. -/
def State.correct (s : State) (o : Int) (first : Bool) : State :=
  let s0 := { s with gtb := { s.gtb with restored := false } }
  if first && !s.on GTB_STAT_GTB_VALID then (s0.gtbStep o).set GTB_STAT_GTB_VALID 1
  else match s.get GTB_CFG_STEPMODE with
    | 0 => s0.servoSlew o
    | 1 => if s.get GTB_STEPTHR_NS < o.natAbs then s0.gtbStep o else s0.servoSlew o
    | _ => if first then s0.gtbStep o else s0.servoSlew o

/-- R50: the grandmaster of a domain: a change counts in GMCHG, raises source 19 or 21, and in the selected domain enters holdover. -/
def State.grandmaster (s : State) (d gm : Nat) : State :=
  let dm := s.gtb.doms.get d
  let s1 := ({ s with gtb := { s.gtb with doms := s.gtb.doms.put d { dm with known := true } } }).set (GTB_DGMID_GMID d) gm
  if dm.known && s.get (GTB_DGMID_GMID d) != gm % 2 ^ 64 then
    let s2 := s1.inc (GTB_DSTAT_GMCHG d)
    if s.get GTB_CFG_DOMAIN = d then (s2.raise 19 d).enterHoldover else s2.raise 21 d
  else s1

/-- R47, R48: a Sync of the selected domain outside holdover: lock is counted, declared or lost, and the offset corrected. -/
def State.servoSync (s : State) (o : Int) : State :=
  let thr := s.get GTB_SRVCFG_LOCKTHR
  let run := if o.natAbs ≤ thr then s.gtb.lockRun + 1 else 0
  let s1 := { s with gtb := { s.gtb with lockRun := run } }
  if s.on GTB_STAT_LOCKED && decide (4 * thr < o.natAbs) then
    ((s1.set GTB_STAT_LOCKED 0).raise 17 0).correct o false
  else if !s.on GTB_STAT_LOCKED && decide (s.get GTB_SRVCFG_LOCKN ≤ run) && decide (o.natAbs ≤ thr) then
    let first := !s.gtb.everLocked
    let s2 := { s1 with gtb := { s1.gtb with everLocked := true } }
    ((s2.set GTB_STAT_LOCKED 1).raise 16 0).correct o first
  else s1.correct o false

/-- R51: a Sync of the selected domain in holdover: REACQ consecutive ones from one grandmaster end it, but not after a fallback
to the RC source. The correction is the servo's, which acts with SERVO = 1 alone (R41). -/
def State.holdoverSync (s : State) (gm : Nat) (o : Int) : State :=
  let n := if s.gtb.reacq ≠ 0 ∧ s.gtb.reacqGm = gm then s.gtb.reacq + 1 else 1
  let s1 := { s with gtb := { s.gtb with reacq := n, reacqGm := gm } }
  if s.gtb.rc || decide (n < s.get GTB_SRVCFG_REACQ) then s1
  else
    let s2 := (s1.set GTB_STAT_HOLDOVER 0).raise 18 0
    if s.on GTB_CFG_SERVO then s2.correct o false else s2

/-- The offset of a domain to the GTB in ns: origin plus correction plus the port's link delay, minus the arrival (R46, R62). -/
def syncOffset (m : SyncMsg) (linkDelay : Nat) : Int := (m.origin : Int) + m.corr / 65536 + linkDelay - m.rx.ns

/-- R46, R47, R50, R51, R232: a Sync received on the slave port of an enabled slot with its domainNumber. Other Syncs are ignored. -/
def execSyncReceive (d : Fin 4) (p : Fin 18) (msg : SyncMsg) (s : State) : Host.Outcome State Fault Refusal :=
  if !hasPort s.part p then done s else
  if !(s.on (GTB_DCFG_EN d) && s.get (GTB_DCFG_DOMNUM d) == msg.domNum && s.slavePort d == some p.val) then done s
  else
    let m := { msg with rx := s.rxStamp p msg.rx }
    let s0 := s.grandmaster d m.gm
    let o := syncOffset m (s.gtb.ports.get p).delay
    let dm := s0.gtb.doms.get d
    let ratio : Int := match dm.last with
      | some q => if q.rx.ns < m.rx.ns then (o - dm.lastOfs) * 2 ^ 32 / ((m.rx.ns : Int) - q.rx.ns) else s0.getS (GTB_DRATIO_RATIO d)
      | none => 0
    let s1 := { s0 with gtb := { s0.gtb with doms := s0.gtb.doms.put d { dm with last := some m, lastPort := p, lastOfs := o, silent := false } } }
    let s2 := (s1.setS (GTB_DOFS_OFS d) o).setS (GTB_DRATIO_RATIO d) ratio
    let s3 :=
      if s2.get GTB_CFG_DOMAIN = d.val then
        (if s2.on GTB_STAT_HOLDOVER then s2.holdoverSync m.gm o
         else if s2.on GTB_CFG_SERVO then s2.servoSync o else s2)
      else s2
    done (s3.refreshQual.refreshSlot d)

/-- The master ports of a slot: the enabled external ports other than the slave port (R46, R65). -/
def State.masterPorts (s : State) (d : Nat) : List Nat :=
  (bitsOf (s.get (GTB_DPORTS_PORTS d)) 18).filter (fun p => (p < 12 || 15 < p) && s.slavePort d != some p)

/-- R46: Sync information of the slave port forwarded on every other port of the domain; link delay and residence time up to the transmission, at the domain's rate,
enter the correction of its Follow_Up. -/
def execSyncRelay (d : Fin 4) (s : State) : Host.Outcome State Fault Refusal :=
  let dm := s.gtb.doms.get d
  match dm.last with
  | none => done s
  | some m =>
    if !s.on (GTB_DCFG_EN d) || (s.slavePort d).isNone then done s
    else
      let msg : PtpMsg :=
        { kind := .sync, dom := d, seq := dm.seq, time := m.origin, corr := m.corr, since := some (m.rx.ns - (s.gtb.ports.get dm.lastPort).delay) }
      done (({ s with gtb := { s.gtb with doms := s.gtb.doms.put d { dm with seq := (dm.seq + 1) % 65536 } } } : State).each (s.masterPorts d) (fun t p => t.ptpSend p msg))

/-- R46, R234: at each Sync interval a grandmaster domain sends a two-step Sync on its ports, with the GTB as the time source; its Follow_Up carries the stamp of the
transmission. -/
def execSyncTransmit (d : Fin 4) (s : State) : Host.Outcome State Fault Refusal :=
  if !s.on (GTB_DCFG_EN d) || (s.slavePort d).isSome then done s
  else
    let q := (s.gtb.doms.get d).seq
    let s1 := { s with gtb := { s.gtb with doms := s.gtb.doms.upd d (fun x => { x with seq := (q + 1) % 65536 }) } }
    done ((s1.each (s.masterPorts d) (fun t p => t.ptpSend p { kind := .sync, dom := d, seq := q })).refreshSlot d)

/-- Whether a port can carry gPTP (R46). -/
def ptpPort (p : Nat) : Bool := decide (p < 12) || p == 16 || p == 17

/-- R46: at each Pdelay_Req interval a port sends a peer delay request, and keeps the time of its transmission. -/
def execPdelayReqTransmit (p : Fin 18) (s : State) : Host.Outcome State Fault Refusal :=
  if !hasPort s.part p then done s else
  if !ptpPort p then done s
  else
    let x := s.gtb.ports.get p
    let q := (x.seq + 1) % 65536
    let s1 : State := { s with gtb := { s.gtb with ports := s.gtb.ports.put p { x with seq := q } } }
    done (s1.ptpSend p { kind := .pdelayReq, seq := q })

/-- R46: a peer delay message. A request is answered with its arrival and the sending time; a response and its follow-up
give the link delay ((t4 − t1) − (t3 − t2)) / 2. -/
def execPdelayReceive (p : Fin 18) (m : PdelayMsg) (s : State) : Host.Outcome State Fault Refusal :=
  if !hasPort s.part p then done s else
  if !ptpPort p then done s
  else
    let x := s.gtb.ports.get p
    match m.kind with
    | .pdelayReq => done (s.ptpSend p { kind := .pdelayResp, seq := m.seq, time := (s.rxStamp p m.rx).ns })
    | .pdelayResp =>
      if m.seq = x.seq then done { s with gtb := { s.gtb with ports := s.gtb.ports.put p { x with t2 := m.time, t4 := (s.rxStamp p m.rx).ns } } } else done s
    | .pdelayRespFollowUp =>
      if m.seq = x.seq then
        let dl : Int := ((x.t4 : Int) - x.t1 - (m.time - x.t2)) / 2
        done { s with gtb := { s.gtb with ports := s.gtb.ports.put p { x with delay := dl.toNat } } }
      else done s
    | .sync => done s
    | .followUp => done s

/-- R50, R65: SYNCTO Sync intervals without a Sync in an enabled slot that follows a port: SYNCTO, source 23, and holdover in the
selected domain. -/
def execSyncTimeout (d : Fin 4) (s : State) : Host.Outcome State Fault Refusal :=
  if !s.on (GTB_DCFG_EN d) || (s.slavePort d).isNone then done s
  else
    let s0 : State := { s with gtb := { s.gtb with doms := s.gtb.doms.upd d (fun x => { x with silent := true }) } }
    let s1 := (s0.set (GTB_DSTAT_SYNCTO d) 1).raise 23 d
    let s2 := if s.get GTB_CFG_DOMAIN = d.val then s1.enterHoldover else s1
    done (s2.refreshSlot d)

/-- R50: a write of GTB_CFG.DOMAIN, or a write that disables slot `d`; holdover is entered where the selected domain is written or
disabled. -/
def execGtbDomainWrite (d : Fin 4) (disable : Bool) (s : State) : Host.Outcome State Fault Refusal :=
  if disable then
    let s1 := s.set (GTB_DCFG_EN d) 0
    let s2 := if s.get GTB_CFG_DOMAIN = d.val then s1.enterHoldover else s1
    done (s2.refreshSlot d)
  else done ((s.set GTB_CFG_DOMAIN d).enterHoldover.refreshSlot d)

/-! ### Capture units (R59, R60) -/

/-- The registers of a capture unit brought up to date with its held stamps (R66). -/
def State.capShow (s : State) (u : Nat) : State :=
  let l := s.gtb.caps.get u
  let s1 := s.set (GTB_CAPSTAT_LEVEL u) l.length
  match l with
  | [] => (((s1.set (GTB_CAPHEAD_NS u) 0).set (GTB_CAPHEADX_FRAC u) 0).set (GTB_CAPHEADX_EDGE u) 0).set (GTB_CAPHEADX_VALID u) 0
  | c :: _ => (((s1.set (GTB_CAPHEAD_NS u) c.at_.ns).set (GTB_CAPHEADX_FRAC u) c.at_.frac).set (GTB_CAPHEADX_EDGE u)
      (b2n c.rising)).set (GTB_CAPHEADX_VALID u) 1

/-- A stamp in units of 1/256 ns, and back. -/
def fineOf (t : Stamp) : Nat := t.ns * 256 + t.frac % 256
def stampOf (v : Nat) : Stamp := { ns := v / 256, frac := v % 256 }

/-- R60: a stamp that a unit has taken: held with its stamp and source 27 raised, or, with 8 stamps held, discarded, counted in OVF and source 26 raised. -/
def State.capture (s : State) (u : Nat) (rising : Bool) (stamp : Stamp) : State :=
  let l := s.gtb.caps.get u
  if 8 ≤ l.length then (s.inc (GTB_CAPSTAT_OVF u)).raiseAt 26 u stamp
  else
    let s1 : State := { s with gtb := { s.gtb with caps := s.gtb.caps.put u (l ++ [{ at_ := stamp, rising := rising }]) } }
    (s1.capShow u).raiseAt 27 u stamp

/-- Whether an edge on its way is one of this direction for capture unit `u`. -/
def isCapDue (u : Nat) (rising : Bool) (d : Due) : Bool :=
  match d with
  | .cap k r _ => k == u && r == rising
  | _ => false

/-- R59, R60, R66: an edge at the source of an enabled unit that its EDGE selects. At a ball GTB_CAP0 to GTB_CAP7 `stamp` is the GTB when the edge leaves the glitch filter,
which passes a level that lasts FILT × 4 ns (`held` is how long it lasts, in ns), and the stamp is corrected for the filter's delay. An internal source (comparator, PWM output,
trigger line) has had the edge, and its stamp lies within 2 ns of it. Other values of SRC select nothing. -/
def execCaptureEdge (u : Fin 32) (rising : Bool) (stamp : Stamp) (held : Nat) (s : State) : Host.Outcome State Fault Refusal :=
  let e := s.get (GTB_CAPCTL_EDGE u)
  let f := 4 * s.get (GTB_CAPCTL_FILT u)
  if s.get (GTB_CAPCTL_SRC u) < 8 then
    if !s.on (GTB_CAPCTL_EN u) || !(if rising then bitOf e 0 else bitOf e 1) || decide (held < f) then done s
    else done (s.capture u rising (stampOf (fineOf stamp - 256 * f)))
  else match s.arrive (isCapDue u rising) with
    | some (.cap _ _ t, s1) =>
      if s.on (GTB_CAPCTL_EN u) then done (s1.capture u rising (stampOf (min (max (fineOf stamp) (fineOf t - 512)) (fineOf t + 512)))) else done s1
    | _ => done s

/-- R60: a write of 1 to GTB_CAPCTL.POP removes the oldest held stamp. -/
def execCapturePop (u : Fin 32) (s : State) : Host.Outcome State Fault Refusal :=
  let s1 : State := { s with gtb := { s.gtb with caps := s.gtb.caps.put u (s.gtb.caps.get u).tail } }
  done (s1.capShow u)

end Sys2Proof.Machine
end

