-- ==== Sys2Proof/Machine/Gw.lean ====
section
/-! DEFINITION. The Kaleidoscope gateway: PDUs, layouts, routes and conversions, images and transmissions, frames of IEEE 1722 and UDP, and the
held words of its tables (R338 to R355, R366 to R368). -/

namespace Sys2Proof.Machine

open Sys2Proof

/-! ### Layouts and images (R338, R343, R346) -/

/-- The bytes of a layout's PDU (R368). -/
def State.gwLen (s : State) (l : Nat) : Nat := min (max (s.get (GW_LCTL_LEN l)) 1) 2048

/-- Where byte `i` of the image of layout `l` stands in the image memory (R368). -/
def State.imgAt (s : State) (l i : Nat) : Nat := (s.get (GW_LIMG_IMGBASE l) * 64 + i) % 0x8_0000

/-- Byte `i` of the image of layout `l`. -/
def State.imgByte (s : State) (l i : Nat) : Nat := s.gw.image.get (s.imgAt l i)

/-- The image of layout `l`. -/
def State.imgBytes (s : State) (l : Nat) : List Nat := (List.range (s.gwLen l)).map (s.imgByte l)

/-- Byte `i` of the image of layout `l` set. -/
def State.setImg (s : State) (l i b : Nat) : State := { s with gw := { s.gw with image := s.gw.image.put (s.imgAt l i) (b % 256) } }

/-- R346: the image filled with its FILL byte. -/
def State.gwFill (s : State) (l : Nat) : State := s.each (List.range (s.gwLen l)) (fun t i => t.setImg l i (t.get (GW_LIMG_FILL l)))

/-- The lowest-numbered enabled receive layout that a condition selects (R342). -/
def State.gwFind (s : State) (p : Nat → Bool) : Option Nat :=
  (List.range 4096).find? (fun l => s.on (GW_LCTL_EN l) && !s.on (GW_LCTL_DIR l) && p l)

/-- R342: the receive layout of a PDU. -/
def State.gwMatch (s : State) (p : GwPdu) : Option Nat :=
  s.gwFind (fun l => s.get (GW_LCTL_KIND l) == p.kind &&
    (match p.kind with
      | 0 => s.get (GW_LSRC_CH l) == p.ch && s.get (GW_LSRC_OBJ l) == p.obj
      | 1 => s.get (GW_LSRC_CH l) == p.ch && s.get (GW_LSRC_LID l) == p.obj
      | 2 =>
        let h := s.get (GW_LSRC_HDR l)
        s.on (GW_EHCTL_EN h) && decide (s.get (GW_EHCTL_FMT h) < 2) && s.get (GW_EHID_ID h) == p.sid && s.get (GW_LSRC_ACFT l) == p.acft
          && s.get (GW_LMID_BUSID l) == p.busid && s.get (GW_LMID_MID l) == p.mid
      | 3 =>
        let h := s.get (GW_LSRC_HDR l)
        let id := s.get (GW_EHID_ID h)
        s.on (GW_EHCTL_EN h) && s.get (GW_EHCTL_FMT h) == 2 && id / 2 ^ 32 == p.sid / 2 ^ 16 && id % 2 ^ 16 == p.sid % 2 ^ 16
      | _ => false))

/-! ### Buffers and order (R350, R351) -/

/-- The cells of 64 bytes that the PDUs of a class take. -/
def gwCells (l : List GwJob) : Nat := l.foldl (fun a j => match j with
  | .pdu p => a + (p.data.length + 63) / 64
  | .layout _ => a) 0

/-- The PDUs in the buffer of a class. -/
def gwPdus (l : List GwJob) : Nat := l.foldl (fun a j => match j with
  | .pdu _ => a + 1
  | .layout _ => a) 0

/-- The jobs of class `c` set, with the count of PDUs (R368). -/
def State.setJobs (s : State) (c : Nat) (l : List GwJob) : State :=
  let s1 : State := { s with gw := { s.gw with jobs := s.gw.jobs.put c l } }
  (s1.set (GW_CSTAT_PDUS c) (gwPdus l)).track (GW_CSTAT_MAXPDUS c) (gwPdus l)

/-- Whether class `c` has room for PDUs of the given lengths (R350). -/
def State.gwRoom (s : State) (c : Nat) (lens : List Nat) : Bool :=
  let l := s.gw.jobs.get c
  decide (gwPdus l + lens.length ≤ 128) && decide (gwCells l + lens.foldl (fun a n => a + (n + 63) / 64) 0 ≤ 512)

/-- A PDU put into the buffer of class `c`. -/
def State.gwPut (s : State) (c : Nat) (p : GwPdu) : State := s.setJobs c (s.gw.jobs.get c ++ [.pdu p])

/-- R350: a CAN or LIN PDU enters the buffer of its class, or is discarded. -/
def State.gwEnter (s : State) (l : Nat) (p : GwPdu) : State :=
  let c := s.get (GW_LCTL_CLASS l)
  if s.gwRoom c [p.data.length] then s.gwPut c p else (s.inc (GW_CSTAT_RXDROP c)).raiseSum (272 + c) 0 1

/-! ### IEEE 1722 and UDP frames (R341) -/

/-- The ACF messages of a 1722 frame from a run of bytes; `n` bounds their number. None where a message does not parse. -/
def acfSplit (sid : Nat) : Nat → List Nat → Option (List GwPdu)
  | 0, bs => if bs.isEmpty then some [] else none
  | n + 1, bs =>
    if bs.isEmpty then some []
    else
      let h := bs.getD 0 0 * 256 + bs.getD 1 0
      let typ := h / 512
      let len := h % 512 * 4
      let head := if typ = 1 then 16 else if typ = 2 then 8 else if typ = 3 then 12 else if typ = 5 then 8 else 0
      if head = 0 ∨ len < head ∨ bs.length < len then none
      else
        let pad := if typ = 5 then 0 else bs.getD 2 0 / 64
        let ids := ofBytesBE (((bs.drop (head - 4)).take 4)) % 2 ^ 29
        let p : GwPdu := { kind := 2, sid := sid, acft := typ
                           busid := if typ = 1 ∨ typ = 2 then bs.getD 3 0 % 32 else if typ = 3 then bs.getD 2 0 % 32 else 0
                           mid := if typ = 3 then bs.getD 3 0 % 64 else if typ = 5 then ofBytesBE ((bs.drop 2).take 6) else ids
                           data := (bs.take (len - pad)).drop head }
        let rtr := typ == 1 && bitOf (bs.getD 2 0) 4
        (acfSplit sid n (bs.drop len)).map (fun r => if rtr then r else p :: r)

/-- The ones' complement sum of a run of bytes, big-endian 16-bit words. -/
def onesSum : List Nat → Nat
  | a :: b :: r => let x := onesSum r + a * 256 + b; if 0xFFFF < x then x - 0xFFFF else x
  | [a] => a * 256
  | [] => 0

/-- The PDUs of a frame from port 20, none where it does not parse (R341, R342). -/
def gwParse (bs : List Nat) : Option (List GwPdu) :=
  let r := ethRest bs
  let et := r.getD 0 0 * 256 + r.getD 1 0
  let b := r.drop 2
  if et = 0x22F0 then
    let sid := ofBytesBE ((b.drop 4).take 8)
    if b.getD 0 0 = 0x82 then
      let n := b.getD 1 0 % 8 * 256 + b.getD 2 0
      if b.length < 12 + n then none else acfSplit sid 32 ((b.drop 12).take n)
    else if b.getD 0 0 = 0x05 then
      let n := b.getD 20 0 * 256 + b.getD 21 0
      if b.length < 24 + n then none else acfSplit sid 32 ((b.drop 24).take n)
    else none
  else if et = 0x0800 then
    let n := b.getD 2 0 * 256 + b.getD 3 0
    let u := (b.take n).drop 20
    let ul := u.getD 4 0 * 256 + u.getD 5 0
    let pseudo := (b.drop 12).take 8 ++ [0, 17] ++ toBytesBE 2 ul ++ u.take ul
    let sumOk := (u.getD 6 0 == 0 && u.getD 7 0 == 0) || onesSum pseudo == 0xFFFF
    if b.getD 0 0 ≠ 0x45 ∨ n < 28 ∨ b.length < n ∨ (b.getD 6 0 * 256 + b.getD 7 0) % 0x4000 ≠ 0 ∨ b.getD 9 0 ≠ 17
        ∨ onesSum (b.take 20) ≠ 0xFFFF ∨ ul < 8 ∨ n - 20 < ul ∨ !sumOk then none
    else some [{ kind := 3, sid := ofBytesBE ((b.drop 16).take 4) * 2 ^ 16 + ofBytesBE ((u.drop 2).take 2), data := (u.take ul).drop 8 }]
  else none

/-- The addresses, VLAN tag and EtherType of a frame built from header `h` (R348). -/
def State.gwEthHead (s : State) (h et : Nat) : List Nat :=
  let tag := if s.on (GW_EHDA_TAG h) then [0x81, 0] ++ toBytesBE 2 (s.get (GW_EHDA_PCP h) * 0x2000 + s.get (GW_EHDA_VID h)) else []
  toBytesBE 6 (s.get (GW_EHDA_DA h)) ++ toBytesBE 6 (s.get GW_MAC_MAC) ++ tag ++ toBytesBE 2 et

/-- A frame padded to 64 bytes, with its FCS (R348). -/
def gwPad (b : List Nat) : List Nat :=
  let b1 := b ++ List.replicate (60 - b.length) 0
  b1 ++ toBytes 4 (crc32 b1)

/-- The ACF message of layout `l` (R341). -/
def State.gwAcf (s : State) (l : Nat) : List Nat :=
  let typ := s.get (GW_LSRC_ACFT l)
  let d := s.imgBytes l
  let pad := (4 - d.length % 4) % 4
  let body := d ++ List.replicate pad 0
  let mid := s.get (GW_LMID_MID l)
  let bus := s.get (GW_LMID_BUSID l)
  let rest :=
    if typ = 1 ∨ typ = 2 then
      let fd := b2n (decide (8 < d.length))
      [pad * 64 + b2n (decide (0x7FF < mid)) * 8 + fd * 4 + fd * 2, bus] ++ (if typ = 1 then List.replicate 8 0 else [])
        ++ toBytesBE 4 (mid % 2 ^ 29) ++ body
    else if typ = 3 then [pad * 64 + bus, mid % 64] ++ List.replicate 8 0 ++ body
    else toBytesBE 6 mid ++ body
  toBytesBE 2 (typ * 512 + (rest.length + 2) / 4 % 512) ++ rest

/-- The layouts that the frame of layout `l` carries: its group's, or itself (R349). -/
def State.gwGroup (s : State) (l : Nat) : List Nat :=
  let g := s.get (GW_LTX_GRP l)
  if g = 0 then [l]
  else (List.range 4096).filter (fun k => s.on (GW_LCTL_EN k) && s.on (GW_LCTL_DIR k) && s.get (GW_LCTL_KIND k) == 2 && s.get (GW_LTX_GRP k) == g)

/-- The messages of a group that fit into 1,500 bytes of AVTP payload, with their layouts, and the layouts left out (R349). -/
def State.gwFit (s : State) : List Nat → Nat → List Nat × List Nat × List Nat
  | [], _ => ([], [], [])
  | k :: r, room =>
    let m := s.gwAcf k
    if m.length ≤ room then
      let x := State.gwFit s r (room - m.length)
      (m ++ x.1, k :: x.2.1, x.2.2)
    else
      let x := State.gwFit s r room
      (x.1, x.2.1, k :: x.2.2)

/-- The 1722 frame of header `h` around ACF messages (R341). -/
def State.gw1722 (s : State) (h : Nat) (acf : List Nat) : List Nat :=
  let sid := toBytesBE 8 (s.get (GW_EHID_ID h))
  let seq := s.get (GW_EHSTAT_SEQ h)
  let av := if s.get (GW_EHCTL_FMT h) = 1 then
      [0x05, 0x81, seq, 0] ++ sid ++ toBytesBE 4 ((s.nowNs + s.get (GW_EHCTL_TSOFS h)) % 2 ^ 32) ++ [0, 0, 0, 0] ++ toBytesBE 2 acf.length ++ [0, 0]
    else [0x82, 0x80 + acf.length / 256 % 8, acf.length % 256, seq] ++ sid
  gwPad (s.gwEthHead h 0x22F0 ++ av ++ acf)

/-- The UDP datagram of header `h` (R341). -/
def State.gwUdp (s : State) (h : Nat) (d : List Nat) : List Nat :=
  let id := s.get (GW_EHID_ID h)
  let x := (Config.ipHeader s.free).toNat
  let ip0 := [0x45, x / 2 ^ 17] ++ toBytesBE 2 (28 + d.length) ++ toBytesBE 2 (x % 2 ^ 16) ++ [b2n (bitOf x 16) * 64, 0, 64, 17]
  let addrs := toBytesBE 4 (s.get GW_IPV4_ADDR) ++ toBytesBE 4 (id / 2 ^ 32)
  let ip := ip0 ++ toBytesBE 2 (0xFFFF - onesSum (ip0 ++ [0, 0] ++ addrs)) ++ addrs
  let u0 := toBytesBE 2 (id / 2 ^ 16 % 2 ^ 16) ++ toBytesBE 2 (id % 2 ^ 16) ++ toBytesBE 2 (8 + d.length)
  let c := 0xFFFF - onesSum (addrs ++ [0, 17] ++ toBytesBE 2 (8 + d.length) ++ u0 ++ [0, 0] ++ d)
  gwPad (s.gwEthHead h 0x0800 ++ ip ++ u0 ++ toBytesBE 2 (if c = 0 then 0xFFFF else c) ++ d)

/-! ### Signals and conversions (R343 to R345) -/

/-- The bit positions of a signal, most significant bit first (R343). -/
def sigBits (be : Bool) (pos : Nat) : Nat → List Nat
  | 0 => []
  | n + 1 => if be then pos :: sigBits be (if pos % 8 = 0 then pos + 15 else pos - 1) n else (pos + n) :: sigBits be pos n

/-- The number that bits spell, most significant first. -/
def bitsNat (l : List Bool) : Nat := l.foldl (fun a b => a * 2 + b2n b) 0

/-- Outcome of a conversion: the raw destination bits, none where the route writes nothing, and whether the value was out of range (R344, R345). -/
structure GwConv where
  bits : Option Nat
  oor : Bool

/-- The rounding direction of RND (R368). -/
def gwRnd (n : Nat) : Rm := if n = 0 then .nearestEven else if n = 1 then .towardZero else if n = 2 then .down else .up

/-- Whether a binary64 value lies below another. -/
def f64Lt (a b : Nat) : Bool := (fLess (fUnpack f64 false a) (fUnpack f64 false b)).1

/-- The length of a signal of a type: a binary32 takes 32 bits (R344). -/
def gwSigLen (typ len1 : Nat) : Nat := if typ = 2 then 32 else len1 + 1

/-- R344, R345: a source value through conversion `v`. -/
def State.gwConvert (s : State) (v src : Nat) : GwConv :=
  let st := s.get (GW_CVFMT_STYPE v)
  let dt := s.get (GW_CVFMT_DTYPE v)
  let n := gwSigLen st (s.get (GW_CVFMT_SLEN v))
  let dn := gwSigLen dt (s.get (GW_CVFMT_DLEN v))
  let md : FMode := {}
  let wide (x : Nat) : Nat := (fCvt f32 f64 md x).1
  let x := if st = 2 then wide src else if st = 1 then (fFromInt f64 md 0 (toS n src)).1 else (fFromInt f64 md 0 src).1
  let y := (fAdd f64 md (fMul f64 md x (wide (s.get (GW_CVFAC_FACTOR v)))).1 (wide (s.get (GW_CVOFS_OFFSET v)))).1
  let lo := wide (s.get (GW_CVMIN_MIN v))
  let hi := wide (s.get (GW_CVMAX_MAX v))
  let dflt := s.get (GW_CVDEF_DEFAULT v) % 2 ^ dn
  let rd : FMode := { rm := gwRnd (s.get (GW_CVFMT_RND v)) }
  let tlo : Int := if dt = 1 then -(2 ^ (dn - 1) : Nat) else 0
  let thi : Int := if dt = 1 then (2 ^ (dn - 1) : Nat) - 1 else (2 ^ dn : Nat) - 1
  let asInt (z : Nat) : Int × Nat := fToInt f64 rd 0 tlo thi z
  let as32 (z : Nat) : Nat := (fCvt f64 f32 rd z).1
  let isInf (z : Nat) (f : Fmt) : Bool := z == f.infBits false || z == f.infBits true
  if (fUnpack f64 false y).isNan then ⟨some dflt, false⟩
  else
    let outT := if dt = 2 then isInf (as32 y) f32 && !isInf y f64 else (asInt y).2 / flNV % 2 == 1
    if f64Lt y lo || f64Lt hi y || outT then
      let o := s.get (GW_CVFMT_OOR v)
      if o = 1 then ⟨some dflt, true⟩
      else if o = 2 then ⟨none, true⟩
      else
        let z := if f64Lt y lo then lo else if f64Lt hi y then hi else y
        if dt = 2 then
          let w := as32 z
          ⟨some (if isInf w f32 && !isInf z f64 then f32.maxBits (bitOf w 31) else w), true⟩
        else ⟨some (ofS dn (asInt z).1), true⟩
    else if dt = 2 then ⟨some (as32 y), false⟩
    else ⟨some (ofS dn (asInt y).1), false⟩

/-- What a PDU's routes with TRG = 1 have done so far: layouts written, layouts changed (R347). -/
structure GwTouch where
  s : State
  wrote : List Nat := []
  changed : List Nat := []

/-- One route executed (R346). -/
def GwTouch.route (data : List Nat) (t : GwTouch) (r : Nat) : GwTouch :=
  let s := t.s
  if !s.on (GW_RT_EN r) then t
  else
    let v := s.get (GW_RT_CONV r)
    let l := s.get (GW_RT_DSTL r)
    let sp := sigBits (s.on (GW_CVFMT_SBE v)) (s.get (GW_RT_SPOS r)) (gwSigLen (s.get (GW_CVFMT_STYPE v)) (s.get (GW_CVFMT_SLEN v)))
    let dp := sigBits (s.on (GW_CVFMT_DBE v)) (s.get (GW_RT_DPOS r)) (gwSigLen (s.get (GW_CVFMT_DTYPE v)) (s.get (GW_CVFMT_DLEN v)))
    let short := sp.any (fun b => decide (min (data.length * 8) 4096 ≤ b)) || dp.any (fun b => decide (min (s.gwLen l * 8) 4096 ≤ b))
    if short || !s.on (GW_LCTL_DIR l) then { t with s := s.inc GW_ERR_SHORT }
    else
      let c := s.gwConvert v (bitsNat (sp.map (fun b => bitOf (data.getD (b / 8) 0) (b % 8))))
      let s1 := if c.oor then (s.inc GW_ERR_OOR).raiseSum 277 0 1 else s
      match c.bits with
      | none => { t with s := s1 }
      | some w =>
        let ws := (List.range dp.length).map (fun i => (dp.getD i 0, bitOf w (dp.length - 1 - i)))
        let differs := ws.any (fun x => bitOf (s1.imgByte l (x.1 / 8)) (x.1 % 8) != x.2)
        let s2 := s1.each ws (fun u x => u.setImg l (x.1 / 8) (putBit (u.imgByte l (x.1 / 8)) (x.1 % 8) x.2))
        let trg := s2.on (GW_RT_TRG r)
        { s := s2, wrote := if trg then l :: t.wrote else t.wrote, changed := if trg && differs then l :: t.changed else t.changed }

/-! ### Transmission (R347 to R349) -/

/-- R347: layout `l` falls due. A group member that does not lead never sends alone (R349). -/
def State.gwDue (s : State) (l : Nat) : State :=
  let tx := s.on (GW_LCTL_EN l) && s.on (GW_LCTL_DIR l) && s.on GW_CTL_EN
  let led := s.get (GW_LCTL_KIND l) == 2 && s.get (GW_LTX_GRP l) != 0 && !s.on (GW_LTX_GLEAD l)
  if !tx || led then s
  else if s.on (GW_LSTAT_PEND l) then (s.inc (GW_LSTAT_COAL l)).raiseSum 280 0 1
  else
    let c := s.get (GW_LCTL_CLASS l)
    (s.set (GW_LSTAT_PEND l) 1).setJobs c (s.gw.jobs.get c ++ [.layout l])

/-- R347: a write or change falls due at once, or at the end of MINGAP. -/
def State.gwDueGap (s : State) (l : Nat) : State :=
  let t := s.gw.sent.get l
  if t = 0 ∨ t - 1 + s.get (GW_LTX_MINGAP l) * 10000 ≤ s.pow.elapsed then s.gwDue l
  else if s.gw.gap.contains l then s
  else { s with gw := { s.gw with gap := s.gw.gap ++ [l] } }

/-- Everything that waits of layout `l` is cancelled (R355). -/
def State.gwCancel (s : State) (l : Nat) : State :=
  let s1 := s.each (List.range 4) (fun t c =>
    let j := t.gw.jobs.get c
    if j.contains (.layout l) then t.setJobs c (j.filter (fun x => x != .layout l)) else t)
  let s2 : State := { s1 with gw := { s1.gw with gap := s1.gw.gap.filter (· != l), sink := s1.gw.sink.filter (· != l) } }
  s2.set (GW_LSTAT_PEND l) 0

/-- Layout `l` has sent its PDU. -/
def State.gwSent (s : State) (l : Nat) : State :=
  let s1 : State := { s with gw := { s.gw with sent := s.gw.sent.put l (s.pow.elapsed + 1) } }
  (s1.set (GW_LSTAT_PEND l) 0).addWrap (GW_LSTAT_CNT l) 1

/-- R348: the sink of layout `l` refuses. -/
def State.gwRefused (s : State) (l : Nat) : State := (s.set (GW_LSTAT_PEND l) 0).raise 279 l

/-- R339, R348: a CAN PDU written into its send object, and its transmission requested. -/
def State.gwSendCan (s : State) (l : Nat) : State :=
  let c := s.get (GW_LSRC_CH l)
  let o := s.get (GW_LSRC_OBJ l)
  let d := (s.imgBytes l).take (s.canCap c o)
  let ok := s.on (CAN_OBJCFG_EN c o) && s.on (CAN_OBJCFG_GW c o) && s.on (CAN_OBJCFG_DIR c o) && s.canOwns c o (ownReq 32) none
  if !ok then s.gwRefused l
  else match s.checkReq (a_CAN_OBJCTL c o) (ownReq 32) .write with
    | some t => t.gwRefused l
    | none => match s.checkReq (canBase c + s.canPay c o) (ownReq 32) .write with
      | some t => t.gwRefused l
      | none =>
        let s1 := (s.setBytes (canBase c + s.canPay c o) d).set (CAN_OBJSTAT_LEN c o) (s.gwLen l)
        (s1.canTxreq c o).gwSent l

/-- R348: a LIN PDU written into LIN_FDATA. -/
def State.gwSendLin (s : State) (l : Nat) : State :=
  let c := s.get (GW_LSRC_CH l)
  let id := s.get (GW_LSRC_LID l)
  if 8 ≤ c ∨ s.get (LIN_FCFG_DIR c id) ≠ 2 then s.gwRefused l
  else match s.checkReq (a_LIN_FDATA c id) (ownReq 32) .write with
    | some t => t.gwRefused l
    | none => (s.set (LIN_FDATA_DATA c id) (ofBytes ((s.imgBytes l).take 8))).gwSent l

/-- R350: whether the transmit frame buffer of class `c` has room for a frame. -/
def State.gwFrameRoom (s : State) (c n : Nat) : Bool :=
  decide ((s.gw.frames.get c).foldl (fun a f => a + f.length) 0 + n ≤ 16384)

/-- A frame put into the transmit frame buffer of class `c` and offered to port 20 (R348). -/
def State.gwFrame (s : State) (c : Nat) (f : List Nat) : State :=
  let s1 : State := { s with gw := { s.gw with frames := s.gw.frames.upd c (fun x => x ++ [f]) } }
  s1.emit (.link "GW_FRAME" (c :: f))

/-- R348, R349: the frame of an Ethernet layout; none where its class has no room for it. -/
def State.gwSendEth (s : State) (l : Nat) : Option State :=
  let h := s.get (GW_LSRC_HDR l)
  let c := s.get (GW_LCTL_CLASS l)
  let fm := s.get (GW_EHCTL_FMT h)
  if s.get (GW_LCTL_KIND l) = 2 then
    let x := if s.get (GW_LTX_GRP l) = 0 then (s.gwAcf l, [l], []) else s.gwFit (s.gwGroup l) 1500
    let f := s.gw1722 h x.1
    if !s.on (GW_EHCTL_EN h) || decide (1 < fm) then some (s.gwRefused l)
    else if !s.gwFrameRoom c f.length then none
    else
      let s1 := (s.gwFrame c f).addWrap (GW_EHSTAT_SEQ h) 1
      let s2 := s1.each x.2.1 State.gwSent
      some ((s2.each x.2.2 (fun t k => t.inc (GW_LSTAT_COAL k))).set (GW_LSTAT_PEND l) 0)
  else
    let f := s.gwUdp h (s.imgBytes l)
    if !s.on (GW_EHCTL_EN h) || fm != 2 then some (s.gwRefused l)
    else if !s.gwFrameRoom c f.length then none
    else some (((s.draw.gwFrame c f).addWrap (GW_EHSTAT_SEQ h) 1).gwSent l)

/-- Signal operations counted (R351). -/
def State.gwOps (s : State) (n : Nat) : State := s.addWrap GW_OPS_CNT n

/-- R348, R351: layout `l` is formed and sent; none where it stays pending for room in its frame buffer. Each PDU of a group's frame costs what it costs alone. -/
def State.gwForm (s : State) (l : Nat) : Option State :=
  let cost (k : Nat) : Nat := 4 + (s.gwLen k + 63) / 64
  let ops := if s.get (GW_LCTL_KIND l) = 2 ∧ s.get (GW_LTX_GRP l) ≠ 0 then ((s.gwFit (s.gwGroup l) 1500).2.1.map cost).sum else cost l
  match s.get (GW_LCTL_KIND l) with
  | 0 =>
    if s.on (CAN_OBJCTL_TXREQ (s.get (GW_LSRC_CH l)) (s.get (GW_LSRC_OBJ l))) then
      some { s with gw := { s.gw with sink := s.gw.sink.filter (· != l) ++ [l] } }
    else some ((s.gwOps ops).gwSendCan l)
  | 1 => some ((s.gwOps ops).gwSendLin l)
  | 2 => (s.gwOps ops).gwSendEth l
  | 3 => (s.gwOps ops).gwSendEth l
  | _ => some (s.set (GW_LSTAT_PEND l) 0)

/-- R351: whether a job of its class can be served now: a frame layout waits while its buffer has no room. -/
def State.gwCan (s : State) : GwJob → Bool
  | .pdu _ => true
  | .layout l => (s.gwForm l).isSome

/-- R351: the next job: the first one that can be served of the highest class. -/
def State.gwNext (s : State) : Option (Nat × GwJob) :=
  [3, 2, 1, 0].findSome? (fun c => ((s.gw.jobs.get c).find? s.gwCan).map (fun j => (c, j)))

/-- A job taken from its class. -/
def State.gwTake (s : State) (c : Nat) (j : GwJob) : State := s.setJobs c ((s.gw.jobs.get c).erase j)

/-! ### The commands -/

/-- R338 to R342, R350: a PDU is handed to the gateway; a frame is one that port 20 has sent, from queue `q`. It waits while its class has no room (R340). -/
def execGwPduReceive (src : GwSrc) (s : State) : Host.Outcome State Fault Refusal :=
  if !s.on GW_CTL_EN || s.idling 112 then done s
  else match src with
    | .can c o =>
      let p : GwPdu := { kind := 0, ch := c, obj := o, data := s.bytes (canBase c + s.canPay c o) (min (s.get (CAN_OBJSTAT_LEN c o)) (s.canCap c o)) }
      if s.on (CAN_OBJCFG_GW c o) && !s.on (CAN_OBJCFG_DIR c o) && s.on (CAN_OBJSTAT_FULL c o) then
        (match s.gwMatch p with
          | some l => done ((s.gwEnter l p).canFull c o false)
          | none => done s)
      else done s
    | .lin c id =>
      match (s.lin.get c).last with
      | some (i, d) =>
        if i = id then
          let p : GwPdu := { kind := 1, ch := c, obj := id, data := d }
          let s1 : State := { s with lin := s.lin.upd c (fun x => { x with last := none }) }
          match s1.gwMatch p with
          | some l => done (s1.gwEnter l p)
          | none => done s1
        else done s
      | none => done s
    | .eth q bytes =>
      if !s.gw.inbox.contains (q, bytes) then done s else
      let s1 : State := { s with gw := { s.gw with inbox := s.gw.inbox.erase (q, bytes) } }
      match gwParse bytes with
      | none => done ((s1.inc GW_ERR_BADFRM).raiseSum 278 0 1)
      | some ps =>
        if s.gwRoom (q / 2) (ps.map (fun p => p.data.length)) then done (s1.each ps (fun t p => t.gwPut (q / 2) p)) else done s

/-- R346, R347: one receive PDU processed: the copy, the routes in order, then the layouts that fall due. -/
def State.gwProcess (s : State) (l : Nat) (data : List Nat) : State :=
  let fwd := s.on (GW_LCTL_FWDEN l)
  let d := s.get (GW_LCTL_FWDL l)
  let n := min data.length (s.gwLen d)
  let s1 := if fwd then s.each (List.range n) (fun t i => t.setImg d i (data.getD i 0)) else s
  let cnt := s.get (GW_LRT_RCNT l)
  let t := (List.range cnt).foldl (fun (t : GwTouch) i => t.route data ((s.get (GW_LRT_RFIRST l) + i) % 65536)) { s := s1 }
  let s2 := (t.s.gwOps (4 + cnt + (if fwd then (n + 63) / 64 else 0))).addWrap (GW_LSTAT_CNT l) 1
  s2.each ((List.range 4096).filter (fun k => t.wrote.contains k)) (fun u k =>
    let m := u.get (GW_LTX_MODE k)
    if m = 1 ∨ (2 ≤ m ∧ t.changed.contains k) then u.gwDueGap k else u)

/-- R351: the next job is a receive PDU: it is matched to its layout and processed. -/
def execGwPduProcess (s : State) : Host.Outcome State Fault Refusal :=
  if !s.on GW_CTL_EN || s.idling 112 then done s
  else match s.gwNext with
    | some (c, .pdu p) =>
      let s1 := s.gwTake c (.pdu p)
      match s1.gwMatch p with
      | some l => done (s1.gwProcess l p.data)
      | none => done ((s1.inc GW_ERR_NOMATCH).raiseSum 276 0 1)
    | _ => done s

/-- R347: a firing of its trigger line reaches a cyclic layout. -/
def execGwLayoutCyclicDue (l : Fin 4096) (s : State) : Host.Outcome State Fault Refusal :=
  match s.arrive (fun d => d == .layout l) with
  | some (_, t) => done (t.gwDue l)
  | none => done s

/-- R347: the MINGAP interval of a layout ends. -/
def execGwMingapExpiry (l : Fin 4096) (s : State) : Host.Outcome State Fault Refusal :=
  if s.gw.gap.contains l.val then
    let s1 : State := { s with gw := { s.gw with gap := s.gw.gap.filter (· != l.val) } }
    done (s1.gwDue l)
  else done s

/-- R348, R351: the next job is a due layout: it is formed and sent to its sink. -/
def execGwPduForm (s : State) : Host.Outcome State Fault Refusal :=
  if !s.on GW_CTL_EN || s.idling 112 then done s
  else match s.gwNext with
    | some (c, .layout l) =>
      let s1 := s.gwTake c (.layout l)
      done ((s1.gwForm l).getD s1)
    | _ => done s

/-- R348: TXREQ of the object of a waiting CAN layout has cleared; the layout is formed again. -/
def execGwSinkReady (l : Fin 4096) (s : State) : Host.Outcome State Fault Refusal :=
  if s.on GW_CTL_EN && s.gw.sink.contains l.val && !s.on (CAN_OBJCTL_TXREQ (s.get (GW_LSRC_CH l)) (s.get (GW_LSRC_OBJ l))) then
    let s1 : State := { s with gw := { s.gw with sink := s.gw.sink.filter (· != l.val) } }
    done ((s1.gwForm l).getD s1)
  else done s

/-- R355: a write of 1 to GW_FENCE.GO. -/
def execGwFence (s : State) : Host.Outcome State Fault Refusal := done (s.set GW_FENCE_GO 1)

/-- R355: every PDU and formation that started before has finished. -/
def execGwFenceComplete (s : State) : Host.Outcome State Fault Refusal :=
  if s.on GW_FENCE_GO then done ((s.set GW_FENCE_GO 0).raise 281 0) else done s

/-! ### The frames of the switch's ports, port 20 among them -/

/-- Whether the gateway offers a frame to port 20: it stands in a transmit frame buffer (R348, R350). -/
def State.gwOffers (s : State) (bytes : List Nat) : Bool := [3, 2, 1, 0].any (fun c => (s.gw.frames.get c).contains bytes)

/-- A frame of the gateway that port 20 has taken leaves its transmit frame buffer (R350). -/
def State.gwTaken (s : State) (bytes : List Nat) : State :=
  match [3, 2, 1, 0].find? (fun c => (s.gw.frames.get c).contains bytes) with
  | some c => { s with gw := { s.gw with frames := s.gw.frames.upd c (fun l => l.erase bytes) } }
  | none => s

/-- R350: the frame that the gateway has offered to port 20 leaves its buffer once the port no longer waits for cells. -/
def State.gwEntered (s : State) : State :=
  match s.gw.port, s.esw.wait.get 20 with
  | some b, none => State.gwTaken { s with gw := { s.gw with port := none } } b
  | _, _ => s

/-- R237: a frame received whole at a port that is up; a port with a looped PHY receives what it has sent (R276), and port 20 what the gateway has formed (R348). Port 21 sends toward SRAM only; while a frame of an internal port waits, the next one waits behind it. -/
def execFrameReceive (p : Fin 22) (rx : EthRx) (s : State) : Host.Outcome State Fault Refusal :=
  if !(decide (18 ≤ p.val) || hasPort s.part p) then done s else
  if !s.portUp p || p.val == 21 || (s.esw.wait.get p).isSome then done s
  else if decide (p.val < 18) && s.on (EPORT_PHYCFG_LPBK p) then
    (match s.esw.looped.find? (fun x => x.1 == p.val) with
      | some x => done (State.ethReceive { s with esw := { s.esw with looped := s.esw.looped.erase x } } p { rx with bytes := x.2 })
      | none => done s)
  else if p.val = 20 then (if s.gwOffers rx.bytes then done (State.ethReceive { s with gw := { s.gw with port := some rx.bytes } } p rx).gwEntered else done s)
  else done (s.ethReceive p rx)

/-- R340: whether the gateway has room for the frame at the head of queue `q` of port 20; one that does not parse is taken and discarded. A frame of the class
that is on its way to the buffer comes first. -/
def State.gwReady (s : State) (q : Nat) : Bool :=
  match s.ethQ 20 q with
  | c :: _ => s.gw.inbox.all (fun x => x.1 / 2 != q / 2) && (match gwParse (s.ethBytes 20 c.fr) with
    | some ps => s.gwRoom (q / 2) (ps.map (fun p => p.data.length))
    | none => true)
  | [] => true

/-- R255, R340: a port that sends nothing starts its next frame. -/
def execFrameTransmit (p : Fin 22) (s : State) : Host.Outcome State Fault Refusal :=
  if !(decide (18 ≤ p.val) || hasPort s.part p) then done s else
  let s1 := s.ethEnds.ethSettle p
  if s1.portUp p && decide ((s1.ethTx p).endNs ≤ s1.pow.elapsed) then
    done (s1.ethSend (fun t q => p.val != 20 || t.gwReady q) (1 + (List.range 8).foldl (fun a q => a + (s1.ethQ p q).length) 0) p)
  else done s1

/-! ### Held words of the tables (R353) -/

/-- The committing word of the table entry that an address belongs to, where it belongs to one. -/
def gwCommitOf (a : Nat) : Option Nat :=
  if within a 0x4500_2000 0x2000 then (if a % 0x20 < 0x14 then some (a / 0x20 * 0x20 + 0x10) else none)
  else if within a 0x4501_0000 0x2_0000 then (if a % 0x20 < 0x1C then some (a / 0x20 * 0x20) else none)
  else if within a 0x4504_0000 0x4_0000 then (if a % 0x20 < 0x18 then some (a / 0x20 * 0x20) else none)
  else none

/-- One word of a register set by its address, whole. -/
def State.putWord (s : State) (a v : Nat) : State :=
  match findReg a allRegs with
  | none => s
  | some (r, i, j, o) =>
    let fs := r.flds i j
    let w := s.fieldsRead fs
    s.fieldsWrite fs (if o = 0 then w / 2 ^ 32 * 2 ^ 32 + v % 2 ^ 32 else w % 2 ^ 32 + v % 2 ^ 32 * 2 ^ 32)

/-- What a layout's commit changes beyond its fields: an image filled at its enable, what waits cancelled at its disable (R346, R355). -/
def State.gwLayoutChange (s old : State) (l : Nat) : State :=
  let was := old.on (GW_LCTL_EN l)
  let is := s.on (GW_LCTL_EN l)
  if !was && is && s.on (GW_LCTL_DIR l) then s.gwFill l
  else if was && !is then s.gwCancel l
  else s

/-- R353: a write of one word of a layout, conversion or header: held, or, for the committing word, applied with the held ones. -/
def State.gwTableWrite (s : State) (a v : Nat) : State :=
  match gwCommitOf a with
  | none => s.putWord a v
  | some c =>
    if a = c then
      let e := a / 0x20 * 0x20
      let s1 := s.each ((List.range 8).map (fun i => e + 4 * i)) (fun t w => match t.gw.held.get w with
        | some x =>
          let u := t.putWord w x
          { u with gw := { u.gw with held := u.gw.held.del w } }
        | none => t)
      let s2 := s1.putWord a v
      if within a 0x4501_0000 0x2_0000 then s2.gwLayoutChange s ((a - 0x4501_0000) / 0x20) else s2
    else { s with gw := { s.gw with held := s.gw.held.put a (some (v % 2 ^ 32)) } }

/-- R353: a write of the committing word of a layout, conversion or header. -/
def execTableEntryCommitWrite (addr value : Nat) (s : State) : Host.Outcome State Fault Refusal :=
  let a := addr % 2 ^ 40
  if gwCommitOf a = some a ∧ s.mapped a = true then done (s.gwTableWrite a value) else done s

/-- The block reset of the gateway: PDUs and pending flags are discarded, every image is refilled, and the tables stay (R346). -/
def State.gwReset (s : State) : State :=
  let s1 := s.restoreBlock 0x4500_0000 0x10_0000
  let s2 : State := { s1 with gw := { image := s1.gw.image } }
  s2.each ((List.range 4096).filter (fun l => s2.on (GW_LCTL_EN l) && s2.on (GW_LCTL_DIR l))) State.gwFill

end Sys2Proof.Machine
end

