-- ==== Sys2Proof/Machine/Pcie.lean ====
section
/-! DEFINITION. The PCIe bridge: outbound windows, byte lanes, requests and their completions, the link (R356 to R365, R369, R370). A TLP
is recorded as a list: its kind (0 memory write, 1 memory read, 2 and 3 configuration write and read of Type 0, 4 and 5 of Type 1, 6 completion,
7 MSI-X message), then its numbers. -/

namespace Sys2Proof.Machine

open Sys2Proof

/-- The size of a window, 2^12 to 2^36 (R370). -/
def winSize (n : Nat) : Nat := 2 ^ min (max n 12) 36

/-- Whether an address lies in a window whose base is aligned to its size (R358, R360). -/
def winHit (base size a : Nat) : Bool := within a (base / size * size) size

/-- The unit of a data-invariant byte swap; 1 for address-invariant (R361). -/
def swapUnit (n : Nat) : Nat := if n = 0 then 1 else 2 ^ n

/-- Runs of addresses cut wherever a multiple of `b` begins (R361). -/
def cutAt (b : Nat) : List Nat → List (List Nat)
  | [] => []
  | [a] => [[a]]
  | a :: c :: r =>
    if c % b = 0 then [a] :: cutAt b (c :: r)
    else match cutAt b (c :: r) with
      | p :: q => (a :: p) :: q
      | [] => [[a]]

/-- The pieces of an access at offset `off` of `n` bytes: cut to the access width of ACCW and, in a data-invariant window, to its unit (R361). -/
def pcieCut (accw unit off n : Nat) : List (List Nat) :=
  let l := (List.range n).map (fun i => off + i)
  let b1 := if accw = 1 then 4 else if accw = 2 then 8 else 2 ^ 40
  let b := if unit = 1 then b1 else min b1 unit
  if b = 2 ^ 40 then [l] else cutAt b l

/-- The offset on the other side of the byte at offset `o` (R361). -/
def lane (unit o : Nat) : Nat := o / unit * unit + (unit - 1 - o % unit)

/-- The lowest-numbered enabled outbound window that an address falls into (R360). -/
def State.owFind (s : State) (a : Nat) : Option Nat :=
  (List.range 64).find? (fun w => s.on (PCIE_OWCTL_EN w) && winHit (s.get (PCIE_OWSRC_BASE w)) (winSize (s.get (PCIE_OWCTL_SIZE w))) a)

/-- The merged write leaves as one TLP (R361). -/
def State.pcieFlush (s : State) : State :=
  match s.pcie.merge with
  | none => s
  | some (w, _, next, bs, _) =>
    let s1 : State := { s with pcie := { s.pcie with merge := none } }
    s1.emit (.pcie ([0, s.get (PCIE_OWCTL_RELAX w), s.get (PCIE_OWCTL_NOSNOOP w), next - bs.length] ++ bs))

/-- The byte of `bs` that stands for offset `o`, when `bs` starts at offset `off`. -/
def byteAt (bs : List Nat) (off o : Nat) : Nat := bs.getD (o - off) 0

/-- R360, R361: a memory write through window `w`: its TLPs. -/
def State.pcieWrite (s : State) (w id a : Nat) (bs : List Nat) : State :=
  let sz := winSize (s.get (PCIE_OWCTL_SIZE w))
  let dst := s.get (PCIE_OWDST_BASE w) / sz * sz
  let u := swapUnit (s.get (PCIE_OWCTL_SWAP w))
  let off := a - s.get (PCIE_OWSRC_BASE w) / sz * sz
  let whole := u == 1 || (off % u == 0 && bs.length % u == 0)
  let far := if u = 1 then bs else (cutAt u ((List.range bs.length).map (fun i => off + i))).flatMap (fun p => (p.map (byteAt bs off)).reverse)
  let pieces := pcieCut (s.get (PCIE_OWCTL_ACCW w)) u off bs.length
  let joined := match s.pcie.merge with
    | some (w', id', next, old, t) =>
      if whole ∧ w' = w ∧ id' = id ∧ next = dst + off ∧ s.pow.elapsed ≤ t + 50 ∧ old.length + bs.length ≤ 256
          ∧ (next - old.length) / 4096 = (next + bs.length - 1) / 4096 then some (old ++ far) else none
    | none => none
  if s.on (PCIE_OWCTL_MERGE w) ∧ whole ∧ bs.length ≤ 256 then
    match joined with
    | some all => { s with pcie := { s.pcie with merge := some (w, id, dst + off + bs.length, all, s.pow.elapsed) } }
    | none =>
      let s1 := s.pcieFlush
      { s1 with pcie := { s1.pcie with merge := some (w, id, dst + off + bs.length, far, s.pow.elapsed) } }
  else
    s.pcieFlush.each pieces (fun t p =>
      let q := if u = 1 then p else p.reverse
      t.emit (.pcie ([0, s.get (PCIE_OWCTL_RELAX w), s.get (PCIE_OWCTL_NOSNOOP w), dst + (q.map (fun o => if u = 1 then o else lane u o)).headD 0]
        ++ q.map (byteAt bs off))))

/-- The lowest free tag; at most 64 requests are outstanding (R356). -/
def State.pcieTag (s : State) : Option Nat :=
  if 64 ≤ s.pcie.out.length then none else (List.range 256).find? (fun t => !s.pcie.out.any (fun q => q.tag == t))

/-- An error response to an initiator, and an access to an unmapped target logged (R360). -/
def State.pcieUnmapped (s : State) (r : Req) (acc : AccKind) (a : Nat) : State :=
  (s.refuse a r acc 0x1F 0).emit (.resp r.id true 0)

/-- R360, R364: a fabric access to the outbound range. A write is posted; a read, and a configuration access, waits for its completion. Nothing
is taken while 64 requests are outstanding. -/
def State.pcieOut (s : State) (r : Req) (vi : Option Nat) (acc : AccKind) (a size value : Nat) : State :=
  match s.owFind a with
  | none => s.pcieUnmapped r acc a
  | some w =>
    let typ := s.get (PCIE_OWCTL_TYPE w)
    let n := size
    let cfgOk := typ == 1 && s.on PCIE_CTL_MODE && (n == 1 || n == 2 || n == 4) && a % 4 + n ≤ 4
    let wr := acc == .write
    let sz := winSize (s.get (PCIE_OWCTL_SIZE w))
    let off := a - s.get (PCIE_OWSRC_BASE w) / sz * sz
    let bus := bf off 20 8
    let sec := s.get PCIE_RPBUS_SEC
    let reach := bus == sec || (decide (sec < bus) && decide (bus ≤ s.get PCIE_RPBUS_SUB))
    if !((typ == 0 && acc != .amo) || (cfgOk && reach && acc != .amo)) then s.emit (.resp r.id true 0)
    else if !s.on PCIE_STAT_LINKUP then (if typ = 0 ∧ wr then s.emit (.resp r.id false 0) else s.emit (.resp r.id true 0))
    else if typ = 0 ∧ wr then (s.pcieWrite w r.id a (toBytes n value)).emit (.resp r.id false 0)
    else if s.idling 113 then s
    else
      match s.pcieTag with
      | none => s
      | some t =>
        let s1 := s.pcieFlush
        let q : PcieReq := { tag := t, id := r.id, gen := r.gen, addr := a, size := n, swap := s.get (PCIE_OWCTL_SWAP w) * 4 + s.get (PCIE_OWCTL_ACCW w),
                             config := typ == 1, vi := vi }
        let s2 : State := { s1 with pcie := { s1.pcie with out := s1.pcie.out ++ [q] } }
        if typ = 1 then
          let k := (if bus = sec then 2 else 4) + (if wr then 0 else 1)
          s2.emit (.pcie ([k, t, bus, bf off 15 5, bf off 12 3, off % 4096, n] ++ (if wr then toBytes n value else [])))
        else
          let u := swapUnit (s.get (PCIE_OWCTL_SWAP w))
          s2.each (pcieCut (s.get (PCIE_OWCTL_ACCW w)) u off n) (fun x p =>
            let lo := if u = 1 then p.headD 0 else lane u (p.getLastD 0)
            x.emit (.pcie [1, t, s.get (PCIE_OWCTL_RELAX w), s.get (PCIE_OWCTL_NOSNOOP w), s.get (PCIE_OWDST_BASE w) / sz * sz + lo, p.length]))

/-- The fabric-side bytes of a read from the completion bytes of its pieces (R361). -/
def unlane (unit : Nat) : List (List Nat) → List Nat → List Nat
  | [], _ => []
  | p :: r, bs =>
    let x := bs.take p.length
    (if unit = 1 then x else x.reverse) ++ unlane unit r (bs.drop p.length)

/-- The read data of a request, little-endian, from its completion. -/
def PcieReq.value (q : PcieReq) (bytes : List Nat) : Nat :=
  let u := if q.config then 1 else swapUnit (q.swap / 4)
  ofBytes (unlane u (pcieCut (if q.config then 0 else q.swap % 4) u q.addr q.size) bytes)

/-- A request answered: it is no longer outstanding. -/
def State.pcieDone (s : State) (tag : Nat) : State :=
  { s with pcie := { s.pcie with out := s.pcie.out.filter (fun q => q.tag != tag) } }

/-- R363, R364: the completion of a request, delivered to its initiator. -/
def State.pcieComplete (s : State) (q : PcieReq) (status : Nat) (bytes : List Nat) : State :=
  let s1 := s.pcieDone q.tag
  if status = 0 then s1.emit (.resp q.id false (q.value bytes))
  else if q.config && status == 1 then s1.emit (.resp q.id false 0xFFFF_FFFF)
  else (s1.emit (.resp q.id true 0)).raiseSum 295 0 1

/-- R364: the link is down: posted writes are discarded, and non-posted requests receive error responses. -/
def State.pcieDown (s : State) : State :=
  let s1 := s.each s.pcie.out (fun t q => t.emit (.resp q.id true 0))
  let s2 : State := { s1 with pcie := {} }
  (((s2.set PCIE_STAT_LINKUP 0).set PCIE_STAT_GEN 0).set PCIE_STAT_WIDTH 0).inc PCIE_STAT_DOWNS |>.raiseC 288 2 0

/-- R360: a fabric access to the PCIe range, admitted by its checker. -/
def execPcieOutboundRequest (r : Req) (acc : AccKind) (addr size value : Nat) (s : State) : Host.Outcome State Fault Refusal :=
  done (s.pcieOut r none acc (addr % 2 ^ 40) size value)

/-- R550, R615, R616: as a root port the module drives PCIE_PERST_N: 0 low, 1 high, 2 not driven. -/
def State.perstDrive (s : State) (v : Nat) : State :=
  if s.on PCIE_CTL_MODE && (v == 2 || s.pow.perstOut != (v == 1)) then
    State.emit { s with pow := { s.pow with perstOut := v == 1 } } (.ball "PCIE_PERST_N" 0 v)
  else s

/-- R3, R356, R364: the link comes up at a rate and width within MAXGEN, LANES and the lanes that the part carries. A root port has driven PCIE_PERST_N high 100 ms after
EN was set (R615). -/
def execPcieLinkUp (gen width ltssm : Nat) (s : State) : Host.Outcome State Fault Refusal :=
  if s.on PCIE_STAT_LINKUP || !s.on PCIE_CTL_EN || s.gtb.rc || !s.pow.coreBeat || s.pow.perst || s.unusable 113 || !bitOf (s.get PWR_DOMSTAT_UP) 21 then done s
  else
    let g := min (max gen 1) (s.get PCIE_CTL_MAXGEN + 1)
    let w := if s.get PCIE_CTL_LANES = 1 ∨ width = 1 ∨ pcieLanes s.part = 1 then 1 else 2
    let s1 := ((((s.perstDrive 1).set PCIE_STAT_LINKUP 1).set PCIE_STAT_GEN g).set PCIE_STAT_WIDTH w).set PCIE_STAT_LTSSM ltssm
    done (s1.raiseC 288 1 (g * 16 + w))

/-- R3, R356, R366: the host changes the VF enable and NumVFs, at most TOTALVF and the virtual functions of the part. -/
def execPcieVfEnable (en : Bool) (num : Fin 256) (s : State) : Host.Outcome State Fault Refusal :=
  let n := min num.val (min (s.get PCIE_VFCTL_TOTALVF) (pcieVfs s.part))
  done (((s.set PCIE_VFCTL_VFEN (b2n en)).set PCIE_VFCTL_NUMVF n).raise 292 n)

/-- R370: a retraining of the link. -/
def State.pcieRetrain (s : State) : State := if s.on PCIE_STAT_LINKUP then (s.inc PCIE_STAT_RECOV).raiseC 288 3 0 else s

/-- R370: the MSI-X vectors of PF0 raised. -/
def State.pciePfirq (s : State) (v : Nat) : State := s.each (bitsOf v 32) (fun t n => t.emit (.pcie [7, 0, n]))

/-- R370: PCIE_CTL.RETRAIN is written 1. -/
def execPcieRetrain (s : State) : Host.Outcome State Fault Refusal := done (s.pcieRetrain)

/-- R370: PCIE_PFIRQ is written: the named PF0 vectors. -/
def execPciePfMsix (vectors : Nat) (s : State) : Host.Outcome State Fault Refusal := done (s.pciePfirq vectors)

end Sys2Proof.Machine
end

