-- ==== Sys2Proof/Machine/Psc.lean ====
section
/-! DEFINITION. Protected switch channels: the command queue and its frames, the channel states on the power dies, protection, the wire model,
shedding, hold, mirrors and feeds (R185 to R226). -/

namespace Sys2Proof.Machine

open Sys2Proof

/-! ### Channels, dies, groups (R185 to R187) -/

/-- The die of a channel: 0 for PSC-A, 1 for PSC-B (R186). -/
def pscDieOf (n : Nat) : Nat :=
  if n < 12 then 0 else if n < 24 then 1 else if n < 30 then 0 else if n < 36 then 1 else if n < 38 then 0 else 1

/-- The channels of a die. -/
def pscOfDie (f : Nat) : List Nat := (List.range 40).filter (fun n => pscDieOf n == f)

/-- The temperature group of a channel (R187). -/
def pscGroup (n : Nat) : Nat :=
  if n < 24 then (if n < 12 then n / 4 else 5 + (n - 12) / 4)
  else if n < 28 then 3 else if n < 30 then 4 else if n < 34 then 8 else if n < 36 then 9 else if n < 38 then 4 else 9

/-- The current LSB of a channel's class in mA (R185). -/
def pscLsb (n : Nat) : Nat := if n < 24 then 1 else if n < 36 then 2 else 4

/-- Twice the switching time of a channel's class in µs (R185, R195). -/
def pscMinUs (n : Nat) : Nat := if n < 24 then 40 else if n < 36 then 80 else 160

/-! ### Settings on the die and their mirror (R218) -/

/-- A setting as the power die works with it. -/
def State.dget (s : State) (f : Fld) : Nat := cellsGet f.rst (fldKey f) s.psc.set.cells

/-- A setting on the power die. -/
def State.dset (s : State) (f : Fld) (v : Nat) : State := { s with psc := { s.psc with set := regPut f v s.psc.set } }

/-- The settings of a channel. -/
def pscFields (n : Nat) : List Fld :=
  [PSC_CFG_WCLS n, PSC_CFG_PRIO n, PSC_CFG_RETRY n, PSC_CFG_RETRYDLY n, PSC_CFG_INRUSH n, PSC_CFG_OLOFF n, PSC_CFG_ONOL n, PSC_CFG_LOWRANGE n,
   PSC_PROT_OCTHR n, PSC_PROT_INRTHR n, PSC_PROT_OCFILT n, PSC_PROT_I2TWARN n, PSC_OL_OLPU n, PSC_OL_OLTHR n, PSC_OL_OLSET n,
   PSC_OL_ONOLTHR n, PSC_PWMC_PERIOD n, PSC_PWMC_DUTY n]

/-- The settings of a die of its channels and its feed, which have the same place in the mirror and on the die. -/
def ownFields (f : Nat) : List Fld :=
  (pscOfDie f).flatMap pscFields ++
  [PSC_FEEDCFG_FEEDLIM f, PSC_FEEDCFG_FEEDHYST f, PSC_FEEDCFG_SHEDDLY f, PSC_FEEDCFG_TWARN f]

/-- The fields of PSC_WCUST in the mirror, each with the place of the working value that die `f` has of it. -/
def custFields (f : Nat) : List (Fld × Fld) :=
  (List.range 4).flatMap (fun c => [(PSC_WCUST_TAU c, PSC_WCUST_TAU (c + 8 * (f + 1))), (PSC_WCUST_ITRIP c, PSC_WCUST_ITRIP (c + 8 * (f + 1)))])

/-- The settings of a die: the field of the mirror and the place of its working value. -/
def dieFields (f : Nat) : List (Fld × Fld) := (ownFields f).map (fun d => (d, d)) ++ custFields f

/-- A channel of a die changed. -/
def State.chUpd (s : State) (n : Nat) (g : PscCh → PscCh) : State := { s with psc := { s.psc with ch := s.psc.ch.upd n g } }

/-- A die changed. -/
def State.dieUpd (s : State) (f : Nat) (g : PscDie → PscDie) : State := { s with psc := { s.psc with die := s.psc.die.upd f g } }

/-- Whether channel `n`'s die is in hold and so reports nothing (R216). -/
def State.pscHeld (s : State) (n : Nat) : Bool := (s.psc.die.get (pscDieOf n)).hold

/-- R192: die `f` does something of step `rank` of its 1 µs cycle (1 power-on reset, 2 protection, 3 retry, 4 shedding and restoring, 5 commands). A
step that comes before the last one done belongs to the next cycle (log entry 133). -/
def State.pscStep (s : State) (f rank : Nat) : State :=
  s.dieUpd f (fun d => if d.cycleAt = s.pow.elapsed / 1000 ∧ d.rank ≤ rank then { d with rank := rank }
    else { d with cycleAt := s.pow.elapsed / 1000, cycle := d.cycle + 1, rank := rank })

/-- R221: whether this half's port is the one from which the power dies take commands and heartbeats: on a twin that of the active half. -/
def State.dieMine (s : State) : Bool :=
  match s.part with
  | .twinA => s.get SYS_TWIN_ROLE == 1 && s.pow.cut == 0 && s.pow.takeover == 0
  | .twinB => s.get SYS_TWIN_ROLE == 1 || s.get SYS_TWIN_ROLE == 3
  | _ => true

/-- Whether die `f` takes frames from the PSC block: it is supplied, its link runs, its mirror is loaded, and it follows this half (R217 to R219, R221). -/
def State.pscTakes (s : State) (f : Nat) : Bool :=
  let d := s.psc.die.get f
  hasDie s.part f && d.loaded && !d.hold && !d.off && s.dieMine

/-- A setting reaches the die: class 0 by a write clears the wire model (R208), LOWRANGE = 0 ends the low range (R197). -/
def State.pscForward (s : State) (n : Nat) : State :=
  let was := s.dget (PSC_CFG_WCLS n)
  let s1 := s.each (pscFields n) (fun t f => t.dset f (t.get f))
  (if was != 0 && s.get (PSC_CFG_WCLS n) == 0 then s1.chUpd n (fun c => { c with x := 0 }) else s1).chUpd n
    (fun c => { c with low := c.low && s.on (PSC_CFG_LOWRANGE n) })

/-! ### What the registers show (R198, R216, R225) -/

/-- The position of the W1C bits of PSC_STAT that a die sets. -/
def pscW1c (n : Nat) : List (Nat × Fld) :=
  [(15, PSC_STAT_FAULT n), (14, PSC_STAT_OPEN n), (13, PSC_STAT_STB n), (12, PSC_STAT_ONOPEN n), (11, PSC_STAT_CLAMP n), (10, PSC_STAT_I2TW n)]

/-- PSC_STAT, PSC_I2T and PSC_CNT of a channel brought to what its die reports; not while the die is in hold. -/
def State.pscShow (s : State) (n : Nat) : State :=
  if s.pscHeld n then s
  else
    let c := s.psc.ch.get n
    let s1 := ((s.set (PSC_STAT_STATE n) c.st).set (PSC_STAT_CAUSE n) c.cause).set (PSC_STAT_RLEFT n) c.rleft
    let s2 := (s1.set (PSC_STAT_INRUSH n) (b2n (c.inrush != 0))).set (PSC_STAT_LR n) (b2n c.low)
    let s3 := s2.each (pscW1c n) (fun t p => if bitOf c.flags p.1 then t.set p.2 1 else t)
    let s4 := (s3.chUpd n (fun d => { d with flags := 0 })).set (PSC_I2T_X n) (min 10000 (c.x * 10000 / 2 ^ 48))
    let s5 := ((s4.set (PSC_CNT_OCTRIPS n) c.octrips).set (PSC_CNT_RETRIES n) c.retries).set (PSC_CNT_CLAMPS n) c.clamps
    let s6 := s5.set (PSC_CNT_OLDET n) c.oldet
    let f := pscDieOf n
    s6.set (PSC_DIESTAT_NSHED f) (((pscOfDie f).filter (fun k => (s.psc.ch.get k).st == 5)).length)

/-- Event source 152 + n with a cause: PSC_STAT.STATE after the event and PSC_CURAVG (R222). -/
def State.pscRaise (s : State) (n cause : Nat) : State :=
  s.raise (152 + n) (cause * 2 ^ 24 + s.get (PSC_STAT_STATE n) * 2 ^ 21 + s.get (PSC_CURAVG_I n))

/-- The causes that change a channel's state (R193). -/
def pscMoves (cause : Nat) : Bool := [1, 2, 3, 5, 6, 7, 8, 12].contains cause

/-- An event of a channel's die: reported, or in hold recorded where it changes the state (R216, R217). -/
def State.pscEvent (s : State) (n cause : Nat) : State :=
  if s.pscHeld n then (if pscMoves cause then s.chUpd n (fun c => { c with last := cause }) else s) else (s.pscShow n).pscRaise n cause

/-- Event source 12 + f (R223). -/
def State.dieRaise (s : State) (f cause v : Nat) : State := s.raise (12 + f) (cause * 2 ^ 24 + v % 65536)

/-- The temperature groups of a die (R187). -/
def grpOfDie (f : Nat) : List Nat := if f = 0 then [0, 1, 2, 3, 4] else [5, 6, 7, 8, 9]

/-- The registers that show a die's own findings brought to what it reports; not while it is in hold (R205, R212, R214, R220). -/
def State.dieShow (s : State) (f : Nat) : State :=
  let d := s.psc.die.get f
  if d.hold then s
  else
    let s1 := (s.set (PSC_DIESTAT_UV f) (b2n d.uv)).set (PSC_DIESTAT_OV f) (b2n d.ov)
    let s2 := s1.each (pscOfDie f) (fun t n => t.set (PSC_STAT_UV n) (b2n d.uvCh))
    let s3 := s2.each (grpOfDie f) (fun t g => (t.set (PSC_GRPTEMP_WARN g) (bf d.warn g 1)).set (PSC_GRPTEMP_OTOFF g) (bf d.otOff g 1))
    if d.overLim then (s3.set (PSC_DIESTAT_OVERLIM f) 1).dieUpd f (fun x => { x with overLim := false }) else s3

/-- An event that a die itself reports: not in hold (R216). -/
def State.dieEvent (s : State) (f cause v : Nat) : State := if (s.psc.die.get f).hold then s else (s.dieShow f).dieRaise f cause v

/-! ### State changes (R193) -/

/-- Whether a channel is ON or in PWM. -/
def PscCh.live (c : PscCh) : Bool := c.st == 1 || c.st == 2

/-- A channel enters a state; entering ON or PWM it conducts, and with `window` the inrush window starts (R193, R203). -/
def State.pscTo (s : State) (n st : Nat) (window : Bool) : State :=
  (s.chUpd n (fun c => { c with
    st := st, changed := c.changed || s.pscHeld n, checking := false, gate := st == 1 || (st == 2 && c.gate)
    inrush := if st = 1 || st = 2 then (if window then s.dget (PSC_CFG_INRUSH n) else c.inrush) else 0 })).pscShow n

/-- A flag of PSC_STAT set, and a finding counted. -/
def State.pscFlag (s : State) (n bit : Nat) : State := s.chUpd n (fun c => { c with flags := putBit c.flags bit true })

/-- R193: a switch-off by protection with cause 1, 2 or 5: to RETRY with a retry left, else to LATCHED with cause 6 as well. -/
def State.pscTrip (s : State) (n cause : Nat) : State :=
  let c := s.psc.ch.get n
  if !c.live then s
  else
    let s1 := (s.pscFlag n 15).chUpd n (fun d => { d with
      cause := cause, octrips := satU 8 (d.octrips + 1), otWait := cause == 5
      ocCycle := if cause = 1 then some (s.psc.die.get (pscDieOf n)).cycle else none })
    if 0 < c.rleft then
      ((s1.chUpd n (fun d => { d with rleft := d.rleft - 1, back := c.st })).pscTo n 3 false).pscEvent n cause
    else ((s1.pscTo n 4 false).pscEvent n cause).pscEvent n 6

/-- R193: a latch by cause 3 or 12. -/
def State.pscLatch (s : State) (n cause : Nat) : State :=
  (((s.pscFlag n 15).chUpd n (fun d => { d with cause := cause })).pscTo n 4 false).pscEvent n cause

/-! ### Commands and frames (R188 to R191) -/

/-- A refused command: REFUSED and cause 13 (R189, R191, R193). -/
def State.pscRefuse (s : State) (n : Nat) : State := (s.set (PSC_STAT_REFUSED n) 1).pscRaise n 13

/-- Whether PSC_OWN lets this initiator or instance command the channel (R191). -/
def State.pscOwns (s : State) (n : Nat) (r : Req) (vi : Option Nat) : Bool :=
  match s.get (PSC_OWN_MODE n) with
  | 0 => true
  | 1 => vi.isNone && r.id == s.get (PSC_OWN_OWNID n)
  | 2 => vi == some (s.get (PSC_OWN_VI n))
  | _ => false

/-- R188, R189, R191: an operation written to PSC_CMD[n]: refused for its owner (and logged as a violation) or at a full queue, with an error
response; an undefined one only sets REFUSED; others are queued with CMDPEND set. The result says whether the write was taken. -/
def State.pscCommand (s : State) (n op : Nat) (r : Req) (vi : Option Nat) : State × Bool :=
  if s.idling 85 then (s, false)
  else if !s.pscOwns n r vi then
    (((s.refuse (a_PSC_CMD n) r .write 9 0x4200_0000).pscRefuse n), false)
  else if op = 0 ∨ 5 < op then (s.set (PSC_STAT_REFUSED n) 1, true)
  else
    let f := pscDieOf n
    if 64 ≤ (s.psc.queue.get f).length then (s.pscRefuse n, false)
    else
      let s1 : State := { s with psc := { s.psc with queue := s.psc.queue.upd f (fun q => q ++ [{ n := n, op := op, vi := vi }]) } }
      (s1.set (PSC_STAT_CMDPEND n) 1, true)

/-- R200: the first step of an off-state check at output voltage `v` mV: a short to supply, or the pull-up on until the settle time. -/
def State.pscCheck (s : State) (n : Nat) (v : Int) : State :=
  if (s.dget (PSC_OL_OLTHR n) : Int) * 50 < v then
    ((s.pscFlag n 13).chUpd n (fun c => { c with checking := false, oldet := satU 8 (c.oldet + 1) })).pscEvent n 10
  else s.chUpd n (fun c => { c with checking := s.dget (PSC_OL_OLPU n) != 0 })

/-- R193: a command applied to a channel on its die; a command during a check ends the check (R200). -/
def State.pscApply (s0 : State) (n op : Nat) : State :=
  let s := s0.chUpd n (fun c => { c with checking := false })
  let c := s.psc.ch.get n
  match op with
  | 1 => if c.st = 0 then s.pscTo n 1 true else if c.st = 2 then s.pscTo n 1 false
         else if c.st = 5 then s.chUpd n (fun d => { d with back := 1 }) else if c.st = 1 then s else s.pscRefuse n
  | 2 => if c.st = 4 ∨ c.st = 0 then s else s.pscTo n 0 false
  | 3 => if c.st = 0 then s.pscTo n 2 true else if c.st = 1 then s.pscTo n 2 false
         else if c.st = 5 then s.chUpd n (fun d => { d with back := 2 }) else if c.st = 2 then s else s.pscRefuse n
  | 4 => if c.st = 4 then
           (if c.cause = 3 ∧ 5000 < c.x * 10000 / 2 ^ 48 then s.pscRefuse n else s.pscTo n 0 false)
         else s
  | _ => if c.st = 0 then (if s.dget (PSC_CFG_OLOFF n) = 0 then s else s.pscCheck n c.vout) else s.pscRefuse n

/-- R190, R192: the frame at the front of a die's queue reaches the die: with a CRC error it is discarded and counted; an applied one is not
applied again, and none reaches a die whose link is down (R217), that has no supply (R219), whose mirror is not loaded (R218), or that follows the other half
(R221). `other` is a command frame on the port of the other half of a twin, which the die takes while it follows that half (log entry 134). -/
def execPscCommandApply (f : Fin 2) (crcOk : Bool) (other : Option (Fin 40 × Fin 16)) (s : State) : Host.Outcome State Fault Refusal :=
  if !hasDie s.part f then done s else
  match other with
  | some (n, op) =>
    let d := s.psc.die.get f
    if isTwin s.part && !s.dieMine && crcOk && !d.hold && !d.off && pscDieOf n == f.val && decide (1 ≤ op.val) && decide (op.val ≤ 5) then
      done ((s.pscStep f 5).pscApply n op)
    else done s
  | none =>
    match s.psc.queue.get f with
    | [] => done s
    | c :: rest =>
      if !s.pscTakes f then done s
      else if !crcOk then done (s.inc (PSC_LINKSTAT_CRCERR f))
      else if c.applied then done s
      else
        let s1 : State := { s with psc := { s.psc with queue := s.psc.queue.put f ({ c with applied := true } :: rest) } }
        done ((s1.pscStep f 5).pscApply c.n c.op)

/-- The front frame leaves the queue; CMDPEND stays while another command of the channel waits (R190). -/
def State.pscPop (s : State) (f : Nat) : State :=
  match s.psc.queue.get f with
  | [] => s
  | c :: rest =>
    let s1 : State := { s with psc := { s.psc with queue := s.psc.queue.put f rest } }
    s1.set (PSC_STAT_CMDPEND c.n) (b2n (rest.any (fun d => d.n == c.n)))

/-- R190: the front frame has failed: CMDFAIL, FAILS, causes 14 and 3. -/
def State.pscFail (s : State) (f : Nat) : State :=
  match s.psc.queue.get f with
  | [] => s
  | c :: _ =>
    let s1 := ((s.pscPop f).set (PSC_STAT_CMDFAIL c.n) 1).inc (PSC_LINKSTAT_FAILS f)
    (s1.pscRaise c.n 14).dieRaise f 3 (s1.get (PSC_LINKSTAT_FAILS f))

/-- R190: the die's acknowledgement of the front frame, which it has applied, arrives; one with a CRC error is discarded and counted (R226). -/
def execPscAckReceive (f : Fin 2) (crcOk : Bool) (s : State) : Host.Outcome State Fault Refusal :=
  if !hasDie s.part f then done s else
  match s.psc.queue.get f with
  | [] => done s
  | c :: _ =>
    if !c.applied then done s
    else if !crcOk then done (s.inc (PSC_LINKSTAT_CRCERR f))
    else done (s.pscPop f)

/-- R190: no acknowledgement in 3 µs: the frame is resent, at most three times; then the command has failed. -/
def execPscAckTimeout (f : Fin 2) (s : State) : Host.Outcome State Fault Refusal :=
  if !hasDie s.part f then done s else
  match s.psc.queue.get f with
  | [] => done s
  | c :: rest =>
    if c.resent < 3 then
      let s1 : State := { s with psc := { s.psc with queue := s.psc.queue.put f ({ c with resent := c.resent + 1 } :: rest) } }
      done (s1.inc (PSC_LINKSTAT_RETRIES f))
    else done (s.pscFail f)

/-! ### Shed channels and the room for them (R212, R215) -/

/-- TWARN of a die in °C (R226). -/
def State.twarn (s : State) (f : Nat) : Nat := min 150 (max 100 (s.dget (PSC_FEEDCFG_TWARN f)))

/-- The shed channel to restore: lowest PRIO, then lowest number (R215). -/
def State.restorePick (s : State) (f : Nat) : Option Nat :=
  ((pscOfDie f).filter (fun n => (s.psc.ch.get n).st == 5)).foldl (fun a n => match a with
    | none => some n
    | some m => if s.dget (PSC_CFG_PRIO n) < s.dget (PSC_CFG_PRIO m) then some n else a) none

/-- R215: whether there is room for channel `n` on its die: the feed current with its shed current, and every group 10 °C below TWARN. -/
def State.shedRoom (s : State) (f n : Nat) : Bool :=
  decide ((s.psc.die.get f).isum * 10 + (s.psc.ch.get n).shedCur * pscLsb n + 1000 * s.dget (PSC_FEEDCFG_FEEDHYST f) ≤
    1000 * min 80 (s.dget (PSC_FEEDCFG_FEEDLIM f))) &&
  (grpOfDie f).all (fun g => decide (s.psc.temps.get g + 100 ≤ 10 * (s.twarn f : Nat)))

/-- R215: a break in the room for the next shed channel restarts its second; with `ms` a millisecond with room is counted. -/
def State.roomSee (s : State) (f : Nat) (ms : Bool) : State :=
  match s.restorePick f with
  | none => s.dieUpd f (fun d => { d with room := 0 })
  | some n =>
    if !s.shedRoom f n then s.dieUpd f (fun d => { d with room := 0 })
    else if !ms then s
    else s.dieUpd f (fun d => { d with room := if d.roomCh = n then d.room + 1 else 1, roomCh := n })

/-! ### Measurement (R196 to R199) -/

/-- R196 to R198: a current sample in 0.1 mA as the channel's range gives it: in 0.1 mA up to 500.0 mA, or in class LSB; reverse current reads 0. -/
def pscReading (n : Nat) (low : Bool) (i : Int) : Nat := if low then min 5000 i.toNat else satU 16 (i.toNat / (10 * pscLsb n))

/-- The mean current of the channels of die `f` in the last millisecond, in 10 mA (R196). -/
def State.feedSum (s : State) (f : Nat) : Nat :=
  (((pscOfDie f).filter (hasPsc s.part)).map (fun n => (s.psc.ch.get n).mean)).sum / 100

/-- R196 to R199, R205, R212, R215, R220: a measurement: kept by the die, and shown unless it is in hold. `avg` ends a channel's millisecond, `temp` and `feed` those of a
group and of the feed; `bad` is a frame from the die with a CRC error (R226). Cooling below 150 °C ends OTOFF, below TWARN WARN; a feed back in its range ends UV and OV. -/
def execPscSample (m : PscSample) (s : State) : Host.Outcome State Fault Refusal :=
  if !sampleCarried s.part m then done s else
  match m with
  | .cur n i =>
    let low := (s.psc.ch.get n).low
    let v := pscReading n low i
    let s1 := s.chUpd n (fun c => { c with
      lastI := i.toNat, lowRun := if i.toNat < 4500 then c.lowRun + 1 else 0
      sum := c.sum + (if low then v else v * 10 * pscLsb n), cnt := c.cnt + 1 })
    if s.pscHeld n then done s1
    else done (((s1.addWrap (PSC_CUR_SEQ n) 1).set (PSC_CUR_I n) v).set (PSC_CUR_RANGE n) (b2n low))
  | .vout n v =>
    let w := clampI (-32768) 32767 v
    let s1 := s.chUpd n (fun c => { c with vout := w, vsum := c.vsum + w, vcnt := c.vcnt + 1 })
    if s.pscHeld n then done s1 else done (s1.setS (PSC_VOUT_V n) w)
  | .avg n =>
    let c := s.psc.ch.get n
    let mean := if c.cnt = 0 then c.mean else c.sum / c.cnt
    let avg := satU 16 (mean / (10 * pscLsb n))
    let s1 := s.chUpd n (fun c => { c with
      mean := mean, avg := avg, vmean := if c.vcnt = 0 then c.vmean else c.vsum / c.vcnt, sum := 0, cnt := 0, vsum := 0, vcnt := 0 })
    if s.pscHeld n then done s1 else done (s1.set (PSC_CURAVG_I n) avg)
  | .temp g t =>
    let f := if g < 5 then 0 else 1
    let cool := decide (t ≤ 10 * (s.twarn f : Nat))
    let s1 : State := { s with psc := { s.psc with temps := s.psc.temps.put g t } }
    let s2 := ((s1.dieUpd f (fun d => { d with
      otOff := if t < 1500 then putBit d.otOff g false else d.otOff, warn := if cool then putBit d.warn g false else d.warn
      hotMs := d.hotMs.put g (if cool then 0 else d.hotMs.get g + 1) })).dieShow f).roomSee f false
    if (s.psc.die.get f).hold then done s2 else done (s2.setS (PSC_GRPTEMP_TEMP g) t)
  | .feed f vpwr =>
    let isum := s.feedSum f
    let s1 := ((s.dieUpd f (fun d => { d with
      isum := isum, uv := d.uv && decide (vpwr < 6000), uvCh := d.uv && decide (4500 ≤ vpwr) && decide (vpwr < 6000), ov := d.ov && decide (18000 < vpwr)
      overMs := if 100 * min 80 (s.dget (PSC_FEEDCFG_FEEDLIM f)) < isum then d.overMs + 1 else 0 })).dieShow f).roomSee f true
    if (s.psc.die.get f).hold then done s1
    else done ((s1.set (PSC_FEEDSTAT_VPWR f) (satU 16 vpwr)).set (PSC_FEEDSTAT_ISUM f) (satU 16 isum))
  | .bad f => if (s.psc.die.get f).hold then done s else done (s.inc (PSC_LINKSTAT_CRCERR f))

/-- R197: the channel changes its range: with LOWRANGE = 1 to the normal one after a sample above 550 mA, to the low one after 1 ms (50 samples) below 450 mA. -/
def execPscRangeSwitch (n : Fin 40) (s : State) : Host.Outcome State Fault Refusal :=
  if !hasPsc s.part n then done s else
  let c := s.psc.ch.get n
  let low := s.dget (PSC_CFG_LOWRANGE n) != 0 && (if c.low then decide (c.lastI ≤ 5500) else decide (50 ≤ c.lowRun))
  done ((s.chUpd n (fun d => { d with low := low })).pscShow n)

/-- R199: the record of the last millisecond written as initiator 14; a refused write, or one that meets a parity error (R31), clears EN and raises source 12 with
cause 9. -/
def execPscRecordWrite (parity : Bool) (s : State) : Host.Outcome State Fault Refusal :=
  if !s.on PSC_RECCTL_EN then done s
  else
    let n := 2 ^ (s.get PSC_RECCTL_SIZE + 12) / 256
    let wr := s.get PSC_RECWR_WR % n
    let body := toBytes 8 s.nowNs ++ toBytes 2 (s.get (PSC_FEEDSTAT_ISUM 0)) ++ toBytes 2 (s.get (PSC_FEEDSTAT_ISUM 1)) ++ toBytes 4 0 ++
      (List.range 40).flatMap (fun k => toBytes 2 (s.get (PSC_CURAVG_I k)) ++ toBytes 2 (ofS 16 (s.psc.ch.get k).vmean)) ++ List.replicate 80 0
    let r := s.fabWrite 14 (s.get PSC_RECBASE_BASE * 4096 + wr * 256) body parity
    if r.2 then done (r.1.set PSC_RECWR_WR (ringNext wr n)) else done ((r.1.set PSC_RECCTL_EN 0).dieRaise 0 9 0)

/-! ### Open load (R200, R201) -/

/-- R200: an off-state check starts: 10 ms after an OFF command, or (`periodic`) every 100 ms with OLOFF 0b10 or 0b11. -/
def execOffstateCheckStart (n : Fin 40) (periodic : Bool) (v : Int) (s : State) : Host.Outcome State Fault Refusal :=
  if !hasPsc s.part n then done s else
  let ol := s.dget (PSC_CFG_OLOFF n)
  if (s.psc.ch.get n).st = 0 && decide ((if periodic then 2 else 1) ≤ ol) then done (s.pscCheck n v) else done s

/-- R200: after the settle time the output above the threshold is an open load; the pull-up goes off. -/
def execOffstateCheckSettled (n : Fin 40) (v : Int) (s : State) : Host.Outcome State Fault Refusal :=
  if !hasPsc s.part n then done s else
  if !(s.psc.ch.get n).checking then done s
  else
    let s1 := s.chUpd n (fun c => { c with checking := false })
    if (s.dget (PSC_OL_OLTHR n) : Int) * 50 < v then
      done (((s1.pscFlag n 14).chUpd n (fun c => { c with oldet := satU 8 (c.oldet + 1) })).pscEvent n 9)
    else done s1

/-- R201: 10 ms of low-range samples (in 0.1 mA) below ONOLTHR in ON, outside the inrush window, with ONOL = 1 and LOWRANGE = 1. -/
def execOnstateOpenLoad (n : Fin 40) (largest : Nat) (s : State) : Host.Outcome State Fault Refusal :=
  if !hasPsc s.part n then done s else
  let c := s.psc.ch.get n
  if s.dget (PSC_CFG_ONOL n) = 1 && s.dget (PSC_CFG_LOWRANGE n) == 1 && c.st == 1 && c.inrush == 0 &&
    decide (largest < min 5000 (s.dget (PSC_OL_ONOLTHR n))) then
    done (((s.pscFlag n 12).chUpd n (fun d => { d with oldet := satU 8 (d.oldet + 1) })).pscEvent n 11)
  else done s

/-! ### Protection (R202 to R211) -/

/-- R202: the overcurrent threshold in force in class LSB: 250 per step, INRTHR in the inrush window, at most 0x80 steps. -/
def State.pscOcThr (s : State) (n : Nat) : Nat :=
  250 * min 0x80 (if (s.psc.ch.get n).inrush ≠ 0 then s.dget (PSC_PROT_INRTHR n) else s.dget (PSC_PROT_OCTHR n))

/-- R202: consecutive samples in class LSB, of on-phases in PWM; OCFILT + 1 of them above the threshold switch the channel off. -/
def execPscOvercurrent (n : Fin 40) (samples : List Nat) (s : State) : Host.Outcome State Fault Refusal :=
  if !hasPsc s.part n then done s else
  if decide (s.dget (PSC_PROT_OCFILT n) + 1 ≤ samples.length) && samples.all (fun i => decide (s.pscOcThr n < i)) then
    done ((s.pscStep (pscDieOf n) 2).pscTrip n 1)
  else done s

/-- R193, R204: the class's time in current limit has passed: cause 2. Where an overcurrent of the same cycle has switched the channel off already, CAUSE becomes 2. -/
def execPscShortCircuit (n : Fin 40) (s : State) : Host.Outcome State Fault Refusal :=
  if !hasPsc s.part n then done s else
  let s1 := s.pscStep (pscDieOf n) 2
  let c := s.psc.ch.get n
  if (c.st = 3 ∨ c.st = 4) ∧ c.cause = 1 ∧ c.ocCycle = some (s1.psc.die.get (pscDieOf n)).cycle then
    done ((s1.chUpd n (fun d => { d with cause := 2 })).pscShow n)
  else done (s1.pscTrip n 2)

/-- R205: a group temperature of 170.0 °C: every ON or PWM channel of the group switches off with cause 5, and OTOFF is set. -/
def execPscGroupOvertemp (g : Fin 10) (t : Int) (s : State) : Host.Outcome State Fault Refusal :=
  if !hasPsc s.part (4 * g) then done s else
  if t < 1700 then done s
  else
    let s1 : State := { s with psc := { s.psc with temps := s.psc.temps.put g t } }
    let f := if g.val < 5 then 0 else 1
    done ((((s1.pscStep f 2).dieUpd f (fun d => { d with otOff := putBit d.otOff g true })).dieShow f).each ((List.range 40).filter (fun n => pscGroup n == g.val)) (fun u n => u.pscTrip n 5))

/-- Itrip in mA and τ in 0.1 s of a channel's wire class; none where it has no model (R207). -/
def State.wireClass (s : State) (n : Nat) : Option (Nat × Nat) :=
  let c := s.dget (PSC_CFG_WCLS n)
  if c = 0 then none
  else if c < 12 then
    some ([(2500, 50), (4000, 80), (6000, 120), (8000, 160), (11000, 220), (14000, 280), (18000, 380), (25000, 550), (34000, 800), (44000, 1100),
      (2500, 50)].getD (c - 1) (2500, 50))
  else
    let k := c - 12 + 8 * (pscDieOf n + 1)
    let i := s.dget (PSC_WCUST_ITRIP k)
    if i = 0 then none else some (10 * i, max 1 (s.dget (PSC_WCUST_TAU k)))

/-- exp(−0.001 / τ) for τ in 0.1 s, in units of 2⁻⁴⁸: the series to its fifth power (R206, log entry 12). -/
def decay (tau : Nat) : Nat :=
  let z := 100 * tau      -- the exponent is −1 / z
  let one := 2 ^ 48
  one - one / z + one / (2 * z ^ 2) - one / (6 * z ^ 3) + one / (24 * z ^ 4) - one / (120 * z ^ 5)

/-- R206: the model state after a millisecond with `sumSq` the sum of its 50 squared samples in mA². -/
def wireStep (itrip tau x sumSq : Nat) : Nat :=
  let a := decay tau
  let r := sumSq * 2 ^ 48 / (50 * itrip ^ 2)
  (x * a + r * (2 ^ 48 - a)) / 2 ^ 48

/-- R203, R206, R208: a millisecond of channel `n`: the inrush window runs, and the wire model warns once per crossing or trips. -/
def execI2tUpdate (n : Fin 40) (sumSq : Nat) (s : State) : Host.Outcome State Fault Refusal :=
  if !hasPsc s.part n then done s else
  let s0 := (s.chUpd n (fun c => { c with inrush := c.inrush - 1 })).pscShow n
  match s.wireClass n with
  | none => done s0
  | some (itrip, tau) =>
    let c := s0.psc.ch.get n
    let x := wireStep itrip tau c.x sumSq
    let s1 := (s0.chUpd n (fun d => { d with x := x })).pscShow n
    let w := s.dget (PSC_PROT_I2TWARN n) * 2 ^ 48 / 100
    let s2 := if w ≠ 0 ∧ c.x < w ∧ w ≤ x then (s1.pscFlag n 10).pscEvent n 4 else s1
    if 2 ^ 48 ≤ x ∧ c.live then done ((s2.pscStep (pscDieOf n) 2).pscLatch n 3) else done s2

/-- R194: a retry falls due; after an over-temperature it also waits for the group to fall below 150.0 °C. -/
def execPscRetryDue (n : Fin 40) (s : State) : Host.Outcome State Fault Refusal :=
  if !hasPsc s.part n then done s else
  let c := s.psc.ch.get n
  if c.st = 3 && !(c.otWait && decide (1500 ≤ s.psc.temps.get (pscGroup n))) then
    done (((s.pscStep (pscDieOf n) 3).chUpd n (fun d => { d with retries := satU 8 (d.retries + 1), otWait := false })).pscTo n c.back true)
  else done s

/-- R194: 1 s in ON or PWM without a fault: RLEFT returns to RETRY. -/
def execPscRetryRestore (n : Fin 40) (s : State) : Host.Outcome State Fault Refusal :=
  if !hasPsc s.part n then done s else
  if (s.psc.ch.get n).live then done ((s.chUpd n (fun d => { d with rleft := s.dget (PSC_CFG_RETRY n) })).pscShow n) else done s

/-- R211: a clamp event counts; the sixth within 1 s (class S, M) or the second (class L) latches the channel from ON, PWM or OFF. -/
def execPscClampEvent (n : Fin 40) (s : State) : Host.Outcome State Fault Refusal :=
  if !hasPsc s.part n then done s else
  let now := s.pow.elapsed
  let times := (s.psc.ch.get n).clampTimes.filter (fun t => decide (now < t + 1_000_000_000)) ++ [now]
  let s1 := ((s.pscFlag n 11).chUpd n (fun c => { c with clampTimes := times, clamps := satU 8 (c.clamps + 1) })).pscShow n
  if (if n.val < 36 then 6 else 2) ≤ times.length ∧ (s.psc.ch.get n).st ≤ 2 then done ((s1.pscStep (pscDieOf n) 2).pscLatch n 12) else done s1

/-- R195: what a period of `per` × 10 µs with on-time `duty` / 1,024 drives: always off where the on-time is below twice the switching time, always on where the
off-time is, and otherwise on and then off (none). -/
def pscSteady (n per duty : Nat) : Option Bool :=
  if duty * per * 10 < pscMinUs n * 1024 then some false
  else if (1024 - duty) * per * 10 < pscMinUs n * 1024 then some true
  else none

/-- R195: a PWM period starts, on, with the PSC_PWMC in force; or (`off`) its on-time ends and the gate turns off. -/
def execPscPwmPeriod (n : Fin 40) (off : Bool) (s : State) : Host.Outcome State Fault Refusal :=
  if !hasPsc s.part n then done s else
  let c := s.psc.ch.get n
  if c.st ≠ 2 then done s
  else if off then
    (if pscSteady n c.per c.duty = none then done (s.chUpd n (fun d => { d with gate := false })) else done s)
  else
    let per := min 4000 (max 100 (s.dget (PSC_PWMC_PERIOD n)))
    let duty := s.dget (PSC_PWMC_DUTY n)
    done (s.chUpd n (fun d => { d with per := per, duty := duty, gate := pscSteady n per duty != some false }))

/-! ### Shedding (R212 to R215) -/

/-- The channel to shed among those of a list: highest PRIO, then highest mean current, then highest number (R213). -/
def State.shedPick (s : State) (l : List Nat) : Option Nat :=
  (l.filter (fun n => (s.psc.ch.get n).live && s.dget (PSC_CFG_PRIO n) != 0)).foldl (fun a n => match a with
    | none => some n
    | some m =>
      let k (i : Nat) : Nat := s.dget (PSC_CFG_PRIO i) * 2 ^ 24 + (s.psc.ch.get i).avg
      if k m ≤ k n then some n else a) none

/-- R212: whether the feed (none) or a group of die `f` has stood above its limit for SHEDDLY milliseconds in a row. -/
def State.shedDue (s : State) (f : Nat) (hot : Option (Fin 10)) : Bool :=
  let d := s.psc.die.get f
  let n := max 1 (s.dget (PSC_FEEDCFG_SHEDDLY f))
  match hot with
  | none => decide (n ≤ d.overMs)
  | some g => decide (g.val / 5 = f) && decide (n ≤ d.hotMs.get g)

/-- A further channel is shed only after a further SHEDDLY milliseconds (R212, R214). -/
def State.shedAgain (s : State) (f : Nat) (hot : Option (Fin 10)) : State :=
  s.dieUpd f (fun d => match hot with
    | none => { d with overMs := 0 }
    | some g => { d with hotMs := d.hotMs.put g 0 })

/-- R212 to R214: the feed (`hot = none`) or a group has stood above its limit for SHEDDLY ms: a channel is shed, or OVERLIM and cause 7. -/
def execPscShed (f : Fin 2) (hot : Option (Fin 10)) (s : State) : Host.Outcome State Fault Refusal :=
  if !hasDie s.part f then done s else
  if !s.shedDue f hot then done s
  else
    let s1 := (s.pscStep f 4).shedAgain f hot
    let s0 := match hot with
      | some g => if bitOf (s.psc.die.get f).warn g then s1 else (s1.dieUpd f (fun d => { d with warn := putBit d.warn g true })).dieEvent f 6 g
      | none => s1
    let l := (pscOfDie f).filter (fun n => match hot with
      | some g => pscGroup n == g.val
      | none => true)
    match s0.shedPick l with
    | some n =>
      let c := s0.psc.ch.get n
      done (((s0.chUpd n (fun d => { d with back := c.st, shedCur := c.avg })).pscTo n 5 false).pscEvent n 7)
    | none => done ((s0.dieUpd f (fun d => { d with overLim := true })).dieEvent f 7 ((s.psc.die.get f).isum / 100))

/-- R215: for 1 s without a break there has been room for the next shed channel: it is restored. -/
def execPscRestore (f : Fin 2) (s : State) : Host.Outcome State Fault Refusal :=
  if !hasDie s.part f then done s else
  match s.restorePick f with
  | none => done s
  | some n =>
    let d := s.psc.die.get f
    if decide (1000 ≤ d.room) && d.roomCh == n && s.shedRoom f n then
      done ((((s.pscStep f 4).dieUpd f (fun x => { x with room := 0 })).pscTo n (s.psc.ch.get n).back true).pscEvent n 8)
    else done s

/-! ### Hold, mirror and feed (R216 to R220) -/

/-- R216, R226: the length of a hold of die `f` so far, in ms. -/
def State.holdMs (s : State) (f : Nat) : Nat := satU 16 ((s.pow.elapsed - (s.psc.die.get f).holdAt) / 1_000_000)

/-- R217: the hold ends: the channels are read back, causes 1 and 2 are raised, and every channel whose state changed raises the cause of its last change. Commands
from before the end fail (R190). -/
def State.holdLeave (s : State) (f : Nat) : State :=
  let ms := s.holdMs f
  let s1 := s.dieUpd f (fun d => { d with hold := false })
  let s2 := ((s1.set (PSC_DIESTAT_LINKUP f) 1).set (PSC_DIESTAT_HOLD f) 0).set (PSC_DIESTAT_HOLDMS f) ms
  let s3 := s2.each (pscOfDie f) (fun t n => (t.set (PSC_STAT_HELD n) 0).pscShow n)
  let s4 := ((s3.dieShow f).dieRaise f 1 0).dieRaise f 2 ms
  let s5 := s4.each (pscOfDie f) (fun t n =>
    if (t.psc.ch.get n).changed then (t.chUpd n (fun c => { c with changed := false })).pscRaise n (t.psc.ch.get n).last else t)
  s5.each (List.range (s.psc.queue.get f).length) (fun t _ => t.pscFail f)

/-- R18, R217, R221: a heartbeat frame on command link `f`, from the core die, or on the port of the other half of a twin. A valid one on the port that the die follows
shows the link running and ends its hold. -/
def execCommandLinkHeartbeat (f : Fin 2) (valid other : Bool) (s : State) : Host.Outcome State Fault Refusal :=
  if !hasDie s.part f || (if other then !isTwin s.part else !s.alive || s.cmp.scan) then done s
  else
    let s1 := if other then s else s.emit (.link "HEARTBEAT" [f])
    let d := s.psc.die.get f
    if !valid || d.off || other == s.dieMine then done s1
    else if d.hold then done (s1.holdLeave f)
    else done (s1.set (PSC_DIESTAT_LINKUP f) 1)

/-- R18, R216: 2 ms without a valid heartbeat: the die holds. -/
def execPowerDieHoldEnter (f : Fin 2) (s : State) : Host.Outcome State Fault Refusal :=
  if !hasDie s.part f then done s else
  if (s.psc.die.get f).hold || (s.psc.die.get f).off then done s
  else
    let s1 := s.dieUpd f (fun d => { d with hold := true, holdAt := s.pow.elapsed })
    let s2 := ((s1.set (PSC_DIESTAT_LINKUP f) 0).set (PSC_DIESTAT_HOLD f) 1).each (pscOfDie f) (fun t n => t.set (PSC_STAT_HELD n) 1)
    done (s2.each (pscOfDie f) (fun t n => t.chUpd n (fun c => { c with changed := false, last := c.cause })))

/-- R217: the first valid heartbeat after a hold. -/
def execPowerDieHoldLeave (f : Fin 2) (s : State) : Host.Outcome State Fault Refusal :=
  if !hasDie s.part f then done s else
  if (s.psc.die.get f).hold && !(s.psc.die.get f).off then done (s.holdLeave f) else done s

/-- R218: the mirror of a die written to it; a channel whose class is 0 clears its model (R219). -/
def State.mirrorWrite (s : State) (f : Nat) : State :=
  let s1 := s.each (dieFields f) (fun t d => t.dset d.2 (t.get d.1))
  (s1.each (pscOfDie f) (fun t n => if t.get (PSC_CFG_WCLS n) = 0 then t.chUpd n (fun c => { c with x := 0 }) else t)).dieUpd f
    (fun d => { d with configured := true })

/-- R219: the restart of a die that has taken a power-on reset, shown and reported with cause 5 once the mirror is written to it. -/
def State.restartShow (s : State) (f : Nat) : State :=
  if (s.psc.die.get f).restarted then
    ((s.dieUpd f (fun d => { d with restarted := false })).set (PSC_DIESTAT_RESTARTED f) 1).dieRaise f 5 0
  else s

/-- R218: after a reset of the core die the mirror is loaded from a configured die, or written to an unconfigured one; it waits while the die has no supply or is in
hold. -/
def State.mirrorLoad (s : State) (f : Nat) : State :=
  let d := s.psc.die.get f
  if d.hold || d.off || !hasDie s.part f then s.dieUpd f (fun x => { x with loaded := false })
  else
    let s1 := if d.configured then s.each (dieFields f) (fun t d => t.set d.1 (t.dget d.2)) else s.mirrorWrite f
    ((((s1.dieUpd f (fun x => { x with loaded := true })).set (PSC_DIESTAT_LINKUP f) 1).each (pscOfDie f) State.pscShow).dieShow f).restartShow f

def execPscMirrorLoad (f : Fin 2) (s : State) : Host.Outcome State Fault Refusal :=
  if !hasDie s.part f then done s else
  if s.alive then done (s.mirrorLoad f) else done s

/-- R218: whether every power die that has supply has had its mirror loaded. -/
def State.mirrorsReady (s : State) : Bool :=
  (List.range 2).all (fun f => !hasDie s.part f || (s.psc.die.get f).off || (s.psc.die.get f).loaded)

/-- R219: a feed below 4.0 V for 10 µs: every channel of the die goes OFF, its settings take their reset values, it is unconfigured, and the
wire models start at 0.5. -/
def execFeedPowerOnReset (f : Fin 2) (s : State) : Host.Outcome State Fault Refusal :=
  if !hasDie s.part f then done s else
  let s0 := s.pscStep f 1
  let s1 := (s0.each (dieFields f) (fun t d => t.dset d.2 d.2.rst)).dieUpd f (fun d => { d with configured := false, off := true, overMs := 0, hotMs := {}, room := 0 })
  done ((s1.set (PSC_DIESTAT_LINKUP f) 0).each (pscOfDie f) (fun t n => (t.chUpd n (fun c => { changed := c.changed, last := c.last })).pscShow n))

/-- R219: the feed rises above 5.0 V: the die restarts; where the core die runs, the PSC block writes the mirror to it at link-up and raises cause 5. -/
def execFeedRestart (f : Fin 2) (s : State) : Host.Outcome State Fault Refusal :=
  if !hasDie s.part f then done s else
  if !(s.psc.die.get f).off then done s
  else
    let s1 := s.dieUpd f (fun d => { d with off := false, restarted := true, loaded := false })
    if s.alive then done (s1.mirrorLoad f) else done s1

/-- VPWR as a die reports it: not in hold. -/
def State.vpwrShow (s : State) (f vpwr : Nat) : State := if (s.psc.die.get f).hold then s else s.set (PSC_FEEDSTAT_VPWR f) (satU 16 vpwr)

/-- R220, R223: the feed at `vpwr` mV lies below 6.0 V: UV, for the channels from 4.5 V on, and cause 4 as it begins. -/
def execFeedUndervoltage (f : Fin 2) (vpwr : Nat) (s : State) : Host.Outcome State Fault Refusal :=
  if !hasDie s.part f then done s else
  if 6000 ≤ vpwr then done s
  else
    let s1 := ((s.dieUpd f (fun d => { d with uv := true, uvCh := decide (4500 ≤ vpwr) })).dieShow f).vpwrShow f vpwr
    if (s.psc.die.get f).uv then done s1 else done (s1.dieEvent f 4 (vpwr / 100))

/-- R220, R223: the feed at `vpwr` mV lies above 18 V: OV, and cause 8 once per excursion. -/
def execFeedOvervoltage (f : Fin 2) (vpwr : Nat) (s : State) : Host.Outcome State Fault Refusal :=
  if !hasDie s.part f then done s else
  if vpwr ≤ 18000 then done s
  else
    let s1 := ((s.dieUpd f (fun d => { d with ov := true })).dieShow f).vpwrShow f vpwr
    if (s.psc.die.get f).ov then done s1 else done (s1.dieEvent f 8 (vpwr / 100))

/-- What a write to a PSC register does beyond its fields: settings are forwarded to their die where it takes frames (R190, R216, R218). -/
def pscWrite (a : Nat) (s : State) : State :=
  if a < 0x4200_2800 then
    let n := (a - 0x4200_0000) / 0x100
    if s.pscTakes (pscDieOf n) && within (a % 0x100) 4 0x10 then s.pscForward n else s
  else if within a 0x4200_3100 0x10 then
    s.each (List.range 2) (fun t f => if t.pscTakes f then t.each (custFields f) (fun u d => u.dset d.2 (u.get d.1)) else t)
  else if within a 0x4200_3200 0x20 && a % 0x10 == 0 then
    let f := (a - 0x4200_3200) / 0x10
    if s.pscTakes f then
      s.each [PSC_FEEDCFG_FEEDLIM f, PSC_FEEDCFG_FEEDHYST f, PSC_FEEDCFG_SHEDDLY f, PSC_FEEDCFG_TWARN f] (fun t d => t.dset d (t.get d))
    else s
  else s

/-- What a read of a PSC register shows: the length of a hold that still runs (R226). -/
def pscBefore (a : Nat) (s : State) : State :=
  let f := (a - 0x4200_3200) / 0x10
  if within a 0x4200_3200 0x20 && a % 0x10 == 8 && (s.psc.die.get f).hold then s.set (PSC_DIESTAT_HOLDMS f) (s.holdMs f) else s

/-- A read-clear of PSC_CNT clears the counts on the die (R225). -/
def pscAfter (a : Nat) (s : State) : State :=
  if within a 0x4200_0000 0x2800 && a % 0x100 == 0x28 then
    s.chUpd ((a - 0x4200_0000) / 0x100) (fun c => { c with octrips := 0, retries := 0, clamps := 0, oldet := 0 })
  else s

end Sys2Proof.Machine
end

