-- ==== Sys2Proof/Machine/Vim.lean ====
section
/-! DEFINITION. Virtual instances: the instance manager's commands, generations, resets, queue pairs, limits and notifications (R471 to R499). -/

namespace Sys2Proof.Machine

open Sys2Proof

/-- Instance `i` beside its registers, changed. -/
def State.viUpd (s : State) (i : Nat) (g : ViSt → ViSt) : State := { s with vi := s.vi.upd i g }

/-- Source 15 (R496). -/
def State.viEvent (s : State) (i cause value : Nat) : State := s.raise 15 (cause * 2 ^ 24 + value % 256 * 256 + i)

/-- Whether slot `k` of instance `i` is attached. -/
def State.viSlot (s : State) (i k : Nat) : Bool := bitOf (s.get (VIM_IATT_QP i)) k

/-- The core port of a slot (R498). -/
def State.viPort (s : State) (i k : Nat) : Nat := s.get (VIM_QP_CP i k)

/-- N_p of R484: the instances with a slot attached on core port `p`. -/
def State.viCount (s : State) (p : Nat) : Nat :=
  ((List.range 256).filter (fun i => (List.range 16).any (fun k => s.viSlot i k && s.viPort i k == p))).length

/-- What an instance's view shows of its resources, after an attach, a detach or a change of a map (R499). -/
def State.viShow (s : State) (i : Nat) : State :=
  let m := s.get (VIM_PSCMASK_CH i)
  let psc := s.on (VIM_IATT_PSC i)
  let s1 := ((((s.set (VI_VIEW_NQP i) (popCount (s.get (VIM_IATT_QP i)) 16)).set (VI_VIEW_CAN i) (s.get (VIM_IATT_CAN i))).set
    (VI_VIEW_RSET i) (s.get (VIM_IATT_RSET i))).set (VI_VIEW_TG i) (s.get (VIM_IATT_TG i))).set (VI_VIEW_NPSC i) (if psc then popCount m 40 else 0)
  let s2 := s1.each (List.range 16) (fun t k => (t.set (VI_QPINFO_QP i k) (if t.viSlot i k then t.get (VIM_QP_QP i k) else 0)).set
    (VI_QPINFO_VID i k) (if t.viSlot i k then t.get (VIM_QP_VID i k) else 0))
  let s3 := s2.each (List.range 40) (fun t k => t.set (VI_PSCCH_CH i k) (if psc then (bitsOf m 40).getD k 0 else 0))
  s3.each [0, 1] (fun t p => t.set (VIM_CPSTAT_NINST p) (t.viCount p))

/-! ### Generations (R489) -/

/-- Whether 1 ms has passed since the last change of an instance's generation. -/
def State.genReady (s : State) (i : Nat) : Bool := (s.vi.get i).genNs == 0 || decide ((s.vi.get i).genNs + 1000000 ≤ s.pow.elapsed + 1)

/-- R489: the next generation, 1 to 255; the mailbox channels claimed under the old one are reclaimed (R505). -/
def State.genNext (s : State) (i : Nat) : State :=
  let g := if s.get (VIM_ISTAT_GEN i) = 255 then 1 else s.get (VIM_ISTAT_GEN i) + 1
  (((s.set (VIM_ISTAT_GEN i) g).set (VI_INFO_GEN i) g).viUpd i (fun v => { v with genNs := s.pow.elapsed + 1 })).mbxGenGone i

/-- A result of an operation whose generation has passed (R489, R496). -/
def State.viStale (s : State) (i : Nat) : State :=
  let k := 15 * 16
  let p := s.evr.sums.get k
  let s1 := s.inc (VIM_ISTAT_STALE i)
  if p.2 = 0 ∨ p.2 + 1000000 ≤ s.pow.elapsed + 1 then
    ({ s1 with evr := { s1.evr with sums := s1.evr.sums.put k (0, s.pow.elapsed + 1) } } : State).viEvent i 2 (min (p.1 + 1) 255)
  else { s1 with evr := { s1.evr with sums := s1.evr.sums.put k (p.1 + 1, p.2) } }

/-! ### Resources (R471, R488) -/

/-- The objects of CAN set `k`. -/
def State.viObjs (s : State) (i k : Nat) : List Nat :=
  (List.range (s.get (VIM_CAN_OCNT i k) + 1)).map (fun j => s.get (VIM_CAN_OBASE i k) + j)

/-- Whether two ranges given by first and length overlap. -/
def overlaps (a n b m : Nat) : Bool := decide (a < b + m) && decide (b < a + n) && n != 0 && m != 0

/-- Whether the resource of a kind, as the maps describe it, is held already: by another instance, or with `same` by another slot of the instance too. -/
def State.viHeld (s : State) (same : Bool) (i kind slot : Nat) : Bool :=
  let other (p : Nat → Bool) : Bool := (List.range 256).any (fun j => j != i && p j)
  match kind with
  | 0 => (List.range 256).any (fun j => (List.range 16).any (fun k =>
      (j != i || (same && k != slot)) && s.viSlot j k && s.get (VIM_QP_QP j k) == s.get (VIM_QP_QP i slot)))
  | 1 => (List.range 256).any (fun j => [0, 1].any (fun k => (j != i || (same && k != slot)) && bitOf (s.get (VIM_IATT_CAN j)) k &&
        s.get (VIM_CAN_CH j k) == s.get (VIM_CAN_CH i slot) &&
        overlaps (s.get (VIM_CAN_OBASE j k)) (s.get (VIM_CAN_OCNT j k) + 1) (s.get (VIM_CAN_OBASE i slot)) (s.get (VIM_CAN_OCNT i slot) + 1)))
  | 2 => other (fun j => s.on (VIM_IATT_PSC j) && (s.get (VIM_PSCMASK_CH j) &&& s.get (VIM_PSCMASK_CH i)) != 0)
  | 3 => other (fun j => s.on (VIM_IATT_RSET j) &&
      overlaps (s.get (VIM_RSET_RBASE j)) (s.get (VIM_RSET_RCNT j)) (s.get (VIM_RSET_RBASE i)) (s.get (VIM_RSET_RCNT i)))
  | 4 => other (fun j => s.on (VIM_IATT_TG j) && s.get (VIM_TG_ENG j) == s.get (VIM_TG_ENG i))
  | _ => false

/-- R488: whether the resource of a kind, as the maps describe it, is valid and not held (nor, for a queue pair or CAN set, by another slot). -/
def State.viFree (s : State) (i kind slot : Nat) : Bool :=
  let e := s.get (VIM_TG_ENG i)
  (match kind with
   | 0 => decide (slot < 16)
   | 1 => decide (slot < 2) && decide (s.get (VIM_CAN_OBASE i slot) + s.get (VIM_CAN_OCNT i slot) < 128) && decide (s.get (VIM_CAN_PBBASE i slot) ≤ 832) &&
      decide (s.get (VIM_CAN_CH i slot) < nCan s.part)
   | 2 => true
   | 3 => decide (s.get (VIM_RSET_RBASE i) + s.get (VIM_RSET_RCNT i) ≤ 65536)
   | 4 => decide (e < nTg s.part) && s.tgLead e == e
   | _ => false) && !s.viHeld true i kind slot

/-- Whether the resource is attached. -/
def State.viHas (s : State) (i kind slot : Nat) : Bool :=
  match kind with
  | 0 => s.viSlot i slot
  | 1 => bitOf (s.get (VIM_IATT_CAN i)) slot
  | 2 => s.on (VIM_IATT_PSC i)
  | 3 => s.on (VIM_IATT_RSET i)
  | 4 => s.on (VIM_IATT_TG i)
  | _ => false

/-- The VIM_IATT bit of a resource. -/
def State.viMark (s : State) (i kind slot : Nat) (b : Bool) : State :=
  match kind with
  | 0 => s.setBit (VIM_IATT_QP i) slot b
  | 1 => s.setBit (VIM_IATT_CAN i) slot b
  | 2 => s.set (VIM_IATT_PSC i) (b2n b)
  | 3 => s.set (VIM_IATT_RSET i) (b2n b)
  | 4 => s.set (VIM_IATT_TG i) (b2n b)
  | _ => s

/-- The ownership of a resource written: MODE 0b10 with the instance, or 0b11 (R487). -/
def State.viOwn (s : State) (i kind slot mode : Nat) : State :=
  match kind with
  | 1 => s.each (s.viObjs i slot) (fun t o => (t.set (CAN_OBJOWN_MODE (s.get (VIM_CAN_CH i slot)) o) mode).set
      (CAN_OBJOWN_VI (s.get (VIM_CAN_CH i slot)) o) i)
  | 2 => s.each (bitsOf (s.get (VIM_PSCMASK_CH i)) 40) (fun t n => (t.set (PSC_OWN_MODE n) mode).set (PSC_OWN_VI n) i)
  | _ => s

/-- Every resource an instance holds, as kind and slot. -/
def State.viAll (s : State) (i : Nat) : List (Nat × Nat) :=
  ((List.range 16).map (fun k => (0, k)) ++ [(1, 0), (1, 1), (2, 0), (3, 0), (4, 0)]).filter (fun p => s.viHas i p.1 p.2)

/-- Every pending transmit request of a CAN set aborted; `clear` also clears FULL and LOST (R490, R492). -/
def State.viCanAbort (s : State) (i k : Nat) (clear : Bool) : State :=
  let c := s.get (VIM_CAN_CH i k)
  s.each (s.viObjs i k) (fun t o =>
    let t1 := if t.on (CAN_OBJCTL_TXREQ c o) then t.canAbort c o else t
    if clear then (t1.canFull c o false).set (CAN_OBJSTAT_LOST c o) 0 else t1)

/-- EN cleared in every route of the set (R490, R494). -/
def State.viRoutesOff (s : State) (i : Nat) : State :=
  s.each (List.range (s.get (VIM_RSET_RCNT i))) (fun t r => t.set (GW_RT_EN (s.get (VIM_RSET_RBASE i) + r)) 0)

/-- The engines of the context. -/
def State.viEngines (s : State) (i : Nat) : List Nat := if s.on (VIM_IATT_TG i) then s.tgCopies (s.get (VIM_TG_ENG i)) else []

/-- IMEM and DMEM of the context written zero (R490, R494). -/
def State.viTgZero (s : State) (i : Nat) : State := s.each (s.viEngines i) (fun t e => (t.zero (tgImem e) 0x1_0000).zero (tgDmem e) 0x1_0000)

/-- A resource taken away without a drain: its ownership admits nobody, a context stops, its bit is clear (R487, R492). -/
def State.viTake (s : State) (i kind slot : Nat) : State :=
  let s1 := if kind = 4 then s.each (s.viEngines i) (fun t e => t.set (TG_CTL_RUN e) 0) else s
  (s1.viOwn i kind slot 3).viMark i kind slot false

/-! ### States and commands (R485 to R487) -/

/-- The fields marked I of an instance restored, its MSI-X table, pending bits and held low words among them (R490). -/
def State.viRestore (s : State) (i : Nat) : State :=
  let b := 0x6000_0000 + i * 0x1_0000
  ((s.restore (fun k => keyKind k == 3 && decide (b ≤ keyAddr k) && decide (keyAddr k < b + 0x1_0000))).unhold (fun a => decide (b ≤ a) && decide (a < b + 0x1_0000))).zero
    (b + 0x800) 0x100

/-- The command of the manager fails and changes nothing (R487). -/
def State.vimErr (s : State) (c : Nat) : State := ((s.set VIM_CMD_ERR 1).set VIM_CMD_ERRC c).set VIM_CMD_GO 0

/-- The command is complete: GO clears, with the operations abandoned and the time it took (R487). -/
def State.vimDone (s : State) (abandoned : Nat) : State :=
  ((s.set VIM_CMD_GO 0).set VIM_CMDRES_ABANDONED (satU 16 abandoned)).set VIM_CMDRES_TIME (satU 16 ((s.pow.elapsed - s.vimStart) / 1000))

/-- Whether a function can be bound: not 0, below TotalVFs + 1, and bound to no instance (R487). -/
def State.fnFree (s : State) (fn : Nat) : Bool :=
  fn != 0 && decide (fn ≤ min (s.get PCIE_VFCTL_TOTALVF) (pcieVfs s.part)) && !s.on (PCIE_FNID_VIEN fn)

/-- R472: the function of a PCIe-bound instance is bound to it, or unbound. -/
def State.fnBind (s : State) (i : Nat) (on : Bool) : State :=
  if s.get (VIM_ICFG_BIND i) ≠ 1 then s
  else
    let f := s.get (VIM_ICFG_FN i)
    if on then (s.set (PCIE_FNID_VIEN f) 1).set (PCIE_FNID_VI f) i else s.set (PCIE_FNID_VIEN f) 0

/-- R490 steps 1 to 4: the reset begins. The slots stop; CAN requests are aborted; the routes are disabled. -/
def State.viResetBegin (s : State) (i : Nat) : State :=
  let s1 := (s.genNext i).viGoto i 5
  let s2 := s1.each ((s1.viAll i).filter (fun p => p.1 == 1)) (fun t p => t.viCanAbort i p.2 true)
  let s3 := if s2.on (VIM_IATT_RSET i) then s2.viRoutesOff i else s2
  s3.viUpd i (fun v => { v with due := none, back := if s.viState i = 4 then 4 else 1, ops := v.ops.filter (fun o => !o.tokens) })

/-- R491: a fault of instance `i`; with FAULTRST the reset begins as soon as the spacing of generations allows (R485, R489). -/
def State.viFault (s : State) (i code : Nat) : State :=
  let s1 := s.viFaultMark i code
  if (s1.vi.get i).due = some 6 ∧ s1.genReady i = true then s1.viResetBegin i else s1

/-- Whether the manager acts on something for instance `i` that has not ended: what arrives meanwhile waits for it (R486). -/
def State.viBusy (s : State) (i : Nat) : Bool :=
  s.viState i == 3 || s.viState i == 5 || (s.vi.get i).due.isSome || (s.vi.get i).drain.isSome

/-- A reset acted on: it begins, or is delayed for the spacing of generations (R485, R489). -/
def State.viResetNow (s : State) (i : Nat) : State :=
  if s.viState i = 1 ∨ s.viState i = 2 ∨ s.viState i = 4 then
    (if s.genReady i then s.viResetBegin i else s.viUpd i (fun v => { v with due := some 6 }))
  else s

/-- A reset asked for by the tenant or a function level reset: at once, or when what the manager acts on for the instance has ended (R485, R486). -/
def State.viReset (s : State) (i : Nat) : State :=
  if s.viState i = 0 then s
  else if s.viBusy i then s.viUpd i (fun v => { v with waiting := v.waiting ++ [false] })
  else s.viResetNow i

/-- The effects of CREATE, MIGRATE and TAKEDOWN from the change of generation on (R487, R493, R494). -/
def State.vimGen (s : State) (i op : Nat) : State :=
  let s0 := s.viUpd i (fun v => { v with due := none })
  if op = 1 then
    ((((s0.genNext i).viRestore i).fnBind i true).set (VI_INFO_BIND i) (s0.get (VIM_ICFG_BIND i))).viGoto i 1 |>.viShow i |>.vimDone 0
  else if op = 7 then
    let s1 := (s0.fnBind i false).genNext i
    let s2 := (s1.set (VIM_ICFG_BIND i) (s1.get VIM_CMDARG_BIND)).set (VIM_ICFG_FN i) (s1.get VIM_CMDARG_FN)
    ((s2.fnBind i true).set (VI_INFO_BIND i) (s2.get (VIM_ICFG_BIND i))).vimDone 0
  else if op = 8 then
    let all := s0.viAll i
    let cans := all.filter (fun p => p.1 == 1)
    let s1 := s0.each cans (fun t p =>
      let c := s0.get (VIM_CAN_CH i p.2)
      let t1 := t.viCanAbort i p.2 true
      let t2 := t1.each (s0.viObjs i p.2) (fun u o => u.restoreBlock (a_CAN_OBJCFG c o) 0x20)
      t2.zero (canBase c + 0x2000 + s0.get (VIM_CAN_PBBASE i p.2) * 64) 4096)
    let s2 := if s1.on (VIM_IATT_RSET i) then s1.viRoutesOff i else s1
    let s3 := (s2.viTgZero i).each all (fun t p => t.viTake i p.1 p.2)
    let s4 := ((s3.genNext i).fnBind i false).viRestore i
    let s5 := { s4 with vi := s4.vi.put i { genNs := (s4.vi.get i).genNs, frames := (s4.vi.get i).frames, ops := (s4.vi.get i).ops } }
    (((s5.viGoto i 0).set (VIM_ISTAT_FCODE i) 0).viShow i).vimDone 0
  else s0

/-- R487: the manager has taken up a command: VIM_CMD and VIM_CMDARG hold it, and GO reads 1. -/
def State.vimTaken (s : State) (i op kind slot : Nat) : State :=
  { ((((s.set VIM_CMD_VI i).set VIM_CMD_OP op).set VIM_CMDARG_KIND kind).set VIM_CMDARG_SLOT slot).set VIM_CMD_GO 1 with vimStart := s.pow.elapsed }

/-- R487: a manager command for instance `i` that has been taken up; `kind` and `slot` as in VIM_CMDARG. An instance that the part does not carry is in no state of the From column
(log entry 142). -/
def State.vimRun (s : State) (i op kind slot : Nat) : State :=
  let st := s.viState i
  if nVi s.part ≤ i then s.vimErr 1 else
  match op with
  | 1 =>
    if st ≠ 0 then s.vimErr 1
    else if s.get (VIM_ICFG_BIND i) = 1 ∧ !s.fnFree (s.get (VIM_ICFG_FN i)) then s.vimErr 3
    else if s.genReady i then s.vimGen i 1 else s.viUpd i (fun v => { v with due := some 1 })
  | 2 =>
    if st ≠ 1 ∧ st ≠ 4 then s.vimErr 1
    else if s.viHas i kind slot || !s.viFree i kind slot then s.vimErr 2
    else (((s.viOwn i kind slot 2).viMark i kind slot true).viShow i).vimDone 0
  | 3 =>
    if st ≠ 1 ∧ st ≠ 4 then s.vimErr 1
    else if !s.viHas i kind slot then s.vimErr 2
    else s.viUpd i (fun v => { v with drain := some (kind, slot) })
  | 4 => if st ≠ 1 ∧ st ≠ 2 then s.vimErr 1 else s.viGoto i 3
  | 5 =>
    if st ≠ 4 then s.vimErr 1
    else ((s.viGoto i (if (s.vi.get i).faulted then 2 else 1)).viUpd i (fun v => { v with faulted := false })).vimDone 0
  | 6 => if st ≠ 1 ∧ st ≠ 2 ∧ st ≠ 4 then s.vimErr 1 else s.viResetNow i
  | 7 =>
    if st ≠ 4 then s.vimErr 1
    else if s.get VIM_CMDARG_BIND = 1 ∧ !(s.fnFree (s.get VIM_CMDARG_FN) ||
        (s.get (VIM_ICFG_BIND i) == 1 && s.get (VIM_ICFG_FN i) == s.get VIM_CMDARG_FN)) then s.vimErr 3
    else if s.genReady i then s.vimGen i 7 else s.viUpd i (fun v => { v with due := some 7 })
  | 8 =>
    if st ≠ 4 then s.vimErr 1
    else if s.genReady i then s.vimGen i 8 else s.viUpd i (fun v => { v with due := some 8 })
  | _ => s.vimErr 5

/-- R486, R487: a command that has been taken up runs, or waits for what the manager acts on for the instance. -/
def State.vimTry (s : State) (i op kind slot : Nat) : State :=
  if s.viBusy i then s.viUpd i (fun v => { v with waiting := v.waiting ++ [true] }) else s.vimRun i op kind slot

/-- R487: a command written to VIM_CMD with its argument; a write of GO while GO reads 1 fails with 4. -/
def State.vimCmd (s : State) (i op kind slot : Nat) : State :=
  if s.on VIM_CMD_GO then (s.set VIM_CMD_ERR 1).set VIM_CMD_ERRC 4
  else (s.vimTaken i op kind slot).vimTry i op kind slot

/-- R486: what waits for instance `i` is acted on in the order of its arrival, until something is under way again. -/
def State.viServe : Nat → State → Nat → State
  | 0, s, _ => s
  | n + 1, s, i =>
    if s.viBusy i then s
    else match (s.vi.get i).waiting with
      | [] => s
      | w :: rest =>
        let s1 := s.viUpd i (fun v => { v with waiting := rest })
        State.viServe n (if w then s1.vimRun i (s1.get VIM_CMD_OP) (s1.get VIM_CMDARG_KIND) (s1.get VIM_CMDARG_SLOT) else s1.viResetNow i) i
def State.viServeAll (s : State) (i : Nat) : State := State.viServe ((s.vi.get i).waiting.length + 1) s i

/-- R487: CREATE. -/
def execVimCreate (i : Fin 256) (s : State) : Host.Outcome State Fault Refusal := done (s.vimCmd i 1 (s.get VIM_CMDARG_KIND) (s.get VIM_CMDARG_SLOT))

/-- R487, R488: ATTACH. -/
def execVimAttach (i : Fin 256) (kind : Fin 8) (slot : Fin 32) (s : State) : Host.Outcome State Fault Refusal := done (s.vimCmd i 2 kind slot)

/-- R487, R492: DETACH. -/
def execVimDetach (i : Fin 256) (kind : Fin 8) (slot : Fin 32) (s : State) : Host.Outcome State Fault Refusal := done (s.vimCmd i 3 kind slot)

/-- R487, R492: QUIESCE. -/
def execVimQuiesce (i : Fin 256) (s : State) : Host.Outcome State Fault Refusal := done (s.vimCmd i 4 (s.get VIM_CMDARG_KIND) (s.get VIM_CMDARG_SLOT))

/-- R485: RESUME. -/
def execVimResume (i : Fin 256) (s : State) : Host.Outcome State Fault Refusal := done (s.vimCmd i 5 (s.get VIM_CMDARG_KIND) (s.get VIM_CMDARG_SLOT))

/-- R487, R490: RESET. -/
def execVimReset (i : Fin 256) (s : State) : Host.Outcome State Fault Refusal := done (s.vimCmd i 6 (s.get VIM_CMDARG_KIND) (s.get VIM_CMDARG_SLOT))

/-- R493: MIGRATE to a function. -/
def execVimMigrate (i : Fin 256) (bind : Fin 4) (fn : Fin 256) (s : State) : Host.Outcome State Fault Refusal :=
  if s.on VIM_CMD_GO then done ((s.set VIM_CMD_ERR 1).set VIM_CMD_ERRC 4)
  else done (((s.set VIM_CMDARG_BIND bind).set VIM_CMDARG_FN fn).vimCmd i 7 (s.get VIM_CMDARG_KIND) (s.get VIM_CMDARG_SLOT))

/-- R494: TAKEDOWN. -/
def execVimTakedown (i : Fin 256) (s : State) : Host.Outcome State Fault Refusal := done (s.vimCmd i 8 (s.get VIM_CMDARG_KIND) (s.get VIM_CMDARG_SLOT))

/-- R489: a delayed change of generation takes place. -/
def execVimGenChangeDue (i : Fin 256) (s : State) : Host.Outcome State Fault Refusal :=
  match (s.vi.get i).due with
  | none => done s
  | some op => if !s.genReady i then done s else if op = 6 then done (s.viResetBegin i) else done ((s.vimGen i op).viServeAll i)

/-- R490: the tenant's reset: a write of 1 to VI_CTL.RESET. -/
def execViTenantReset (i : Fin 256) (s : State) : Host.Outcome State Fault Refusal :=
  if !decide (i.val < nVi s.part) then done s else
  done (s.viReset i)

/-- R490 steps 5 and 6: the context's engines are reset and their memory is zero, and the instance is ACTIVE or QUIESCED again. -/
def execViResetComplete (i : Fin 256) (s : State) : Host.Outcome State Fault Refusal :=
  if s.viState i ≠ 5 ∨ (s.viEngines i).any (fun e => s.on (TG_STAT_BUSY e)) then done s
  else
    let es := s.viEngines i
    let s1 := match es with
      | [] => s
      | e :: _ =>
        let t := (bitsOf (s.get (TG_ESCPWM_PAIRS e)) 24).foldl (fun (u : State) j => u.pwmTrip j 33) s
        (t.viTgZero i).tgReset e
    let s2 := s1.viRestore i
    let s3 := ((s2.inc (VIM_ICNT_RESETS i)).addWrap (VI_STAT_RESETS i) 1).viGoto i (s.vi.get i).back
    let s4 := (s3.viShow i).viEvent i 4 0
    let mine := s4.on VIM_CMD_GO && s4.get VIM_CMD_OP == 6 && s4.get VIM_CMD_VI == i.val && !(s.vi.get i).waiting.contains true
    done (State.viServeAll (if mine then s4.vimDone 0 else s4) i)

/-- Whether an operation is neither abandoned nor of a generation that has passed (R489, R492). -/
def State.viLive (s : State) (i : Nat) (o : ViOp) : Bool := !o.gone && o.gen == s.get (VIM_ISTAT_GEN i)

/-- Whether an operation has begun: its descriptor has been fetched (R490, R492). -/
def ViOp.begun (o : ViOp) : Bool := !o.desc.isEmpty || o.wb.isSome

/-- R492: a quiesce or a drain completes: nothing is outstanding, or QTO has passed and the rest is abandoned. -/
def execVimQuiesceComplete (i : Fin 256) (expired : Bool) (s : State) : Host.Outcome State Fault Refusal :=
  let v := s.vi.get i
  let whole := s.viState i == 3
  if !whole && v.drain.isNone then done s
  else
    let mine (k slot : Nat) : Bool := whole || v.drain == some (k, slot)
    let busy := v.ops.filter (fun (o : ViOp) => s.viLive i o && mine 0 o.slot && (o.begun || !o.tokens))
    let cans := (s.viAll i).filter (fun p => p.1 == 1 && mine 1 p.2)
    let wait := cans.any (fun p => (s.viObjs i p.2).any (fun o => s.on (CAN_OBJCTL_TXREQ (s.get (VIM_CAN_CH i p.2)) o)))
    let ctx := !whole && (v.drain == some (4, 0)) && (s.viEngines i).any (fun e => s.on (TG_STAT_BUSY e))
    if !expired && (!busy.isEmpty || wait || ctx) then done s
    else
      let s1 := s.each cans (fun t p => t.viCanAbort i p.2 false)
      let s2 := s1.viUpd i (fun x => { x with ops := (x.ops.filter (fun (o : ViOp) => !(o.tokens && mine 0 o.slot))).map (fun (o : ViOp) =>
        if mine 0 o.slot then { o with gone := true } else o) })
      let n := busy.length
      let s3 := match v.drain, whole with
        | some (k, slot), false => ((s2.viTake i k slot).viShow i).viUpd i (fun x => { x with drain := none })
        | _, _ => s2.viGoto i 4
      let s4 := (s3.vimDone n).viEvent i 3 (min n 255)
      done (s4.viServeAll i)

/-! ### Apertures, tokens and accesses (R481, R482) -/

/-- R481: whether `n` bytes at `a` lie in an enabled aperture, one with W for a write. -/
def State.viInside (s : State) (i a n : Nat) (write : Bool) : Bool :=
  [0, 1, 2, 3].any (fun k => s.on (VIM_APBASE_EN i k) && (!write || s.on (VIM_APBASE_W i k)) &&
    decide (s.get (VIM_APBASE_BASE i k) ≤ a / 4096) && decide ((a + n - 1) / 4096 ≤ s.get (VIM_APLIM_LIMIT i k)))

/-- R482: the bucket refilled to now. -/
def State.viRefill (s : State) (i : Nat) : State :=
  s.viUpd i (fun v => { v with spent := v.spent - (s.pow.elapsed - v.upd) * s.get (VIM_LIM_RATE i), upd := s.pow.elapsed })

/-- The bucket of an instance in 1/125 byte. -/
def State.viBurst (s : State) (i : Nat) : Nat := max (s.get (VIM_LIM_BURST i)) 1 * 1024 * 125

/-- R482: tokens for `n` bytes taken, or none while the bucket is below the size (at most its whole content) or RATE is 0. -/
def State.viTokens (s : State) (i n : Nat) : Option State :=
  let s1 := s.viRefill i
  let need := min (n * 125) (s1.viBurst i)
  if s1.get (VIM_LIM_RATE i) = 0 ∨ s1.viBurst i < (s1.vi.get i).spent + need then none
  else some (s1.viUpd i (fun v => { v with spent := v.spent + need }))

/-- An inbound request takes its bytes without being held (R482). -/
def State.viInbound (s : State) (i n : Nat) : State :=
  let s1 := s.viRefill i
  s1.viUpd i (fun v => { v with spent := min (v.spent + n * 125) (s1.viBurst i) })

/-- R482: a wait for tokens, counted once per millisecond. -/
def State.viWait (s : State) (i : Nat) : State :=
  let ms := s.pow.elapsed / 1000000 + 1
  if (s.vi.get i).waitMs = ms then s else (s.inc (VIM_ICNT_LIMHIT i)).viUpd i (fun v => { v with waitMs := ms })

/-- The request of a core port for an instance (R478). -/
def State.viReq (s : State) (i p : Nat) : Req := { id := 29 + p, gen := s.get (VIM_ISTAT_GEN i) }

/-- How a read of a core port goes: the bytes, a PCIe tag to wait for, or an error response. -/
inductive ViRead where
  | data (bs : List Nat)
  | tag (t : Nat)
  | stall
  | error

/-- A read of a core port, within the apertures: memory answers at once, a PCIe window with its completion. -/
def State.viRead (s : State) (i p a n : Nat) : State × ViRead :=
  let r := s.viReq i p
  match s.checkReq a r .read with
  | some s' => (s', .error)
  | none =>
    if 0x80_0000_0000 ≤ a then
      match s.pcieTag with
      | none => (s, .stall)
      | some t =>
        let s1 := s.pcieOut r (some i) .read a n 0
        if s1.pcie.out.any (fun q => q.tag == t) then (s1, .tag t) else (s1, .error)
    else if a < 0x1140_0000 then (s, .data (s.bytes a n))
    else (s, .error)

/-- A write of a core port, within the apertures: whether it was taken. -/
def State.viWrite (s : State) (i p a : Nat) (bs : List Nat) : State × Bool :=
  let r := s.viReq i p
  match s.checkReq a r .write with
  | some s' => (s', false)
  | none =>
    if 0x80_0000_0000 ≤ a then
      let s1 := s.pcieOut r (some i) .write a bs.length (ofBytes bs)
      (s1, match s1.out with
        | .resp _ e _ :: _ => !e
        | _ => true)
    else if within a 0x1000_0000 0x140_0000 then (s.setBytes a bs, true)
    else (s, false)

/-! ### Queue pairs (R478 to R481) -/

/-- Ring length, base address, HEAD and TAIL of a slot's ring. -/
def ringLen (n : Nat) : Nat := 2 ^ min (max n 4) 12
def State.viLen (s : State) (i k : Nat) (rx : Bool) : Nat := ringLen (s.get (if rx then VI_RXCTL_SIZE i k else VI_TXCTL_SIZE i k))
def State.viBase (s : State) (i k : Nat) (rx : Bool) : Nat := s.get (if rx then VI_RXBASE_BASE i k else VI_TXBASE_BASE i k) * 4096
def State.viHead (s : State) (i k : Nat) (rx : Bool) : Nat := s.get (if rx then VI_RXHEAD_HEAD i k else VI_TXHEAD_HEAD i k) % s.viLen i k rx
def State.viTail (s : State) (i k : Nat) (rx : Bool) : Nat := s.get (if rx then VI_RXTAIL_TAIL i k else VI_TXTAIL_TAIL i k) % s.viLen i k rx

/-- The address of a descriptor. -/
def State.viDesc (s : State) (i k : Nat) (rx : Bool) (idx : Nat) : Nat := s.viBase i k rx + idx * 32

/-- The operation taken off the list of those outstanding. -/
def State.viDrop (s : State) (i : Nat) (o : ViOp) : State := s.viUpd i (fun v => { v with ops := v.ops.erase o })

/-- An operation that has begun put back on the list, before those of its slot that wait for it. -/
def State.viPush (s : State) (i : Nat) (o : ViOp) : State := s.viUpd i (fun v => { v with ops := o :: v.ops })

/-- R478: the descriptor of an operation completes: its write-back, HEAD, and the notice it asked for; a write-back outside the apertures is not issued and
faults (R481). It takes its bytes from the bucket, and waits for them (R482). -/
def State.viBack (s : State) (i : Nat) (o : ViOp) (stamp status len : Nat) : State :=
  let k := o.slot
  let a := s.viDesc i k o.rx o.idx + 16
  let w := 2 ^ 31 + status * 2 ^ 27 + o.queue * 2 ^ 24 + o.gen * 2 ^ 16 + len % 2 ^ 14
  let bs := toBytes 8 stamp ++ toBytes 4 w ++ toBytes 4 (if o.rx then o.port else 0)
  if !s.viInside i a 16 true then s.viFault i 1
  else match s.viTokens i 16 with
  | none => (s.viWait i).viPush i { o with tokens := true, tag := none, wb := some (stamp, status, len) }
  | some t =>
    let x := t.viWrite i (s.viPort i k) a bs
    if !x.2 then x.1.viFault i 3
    else
      let s0 := if !o.rx && (status == 2 || status == 3) then x.1.inc (VI_QPSTAT_TXERR i k) else x.1
      let h := (o.idx + 1) % s.viLen i k o.rx
      let s1 := if s.viHead i k o.rx = o.idx then s0.set (if o.rx then VI_RXHEAD_HEAD i k else VI_TXHEAD_HEAD i k) h else s0
      if bitOf (ofBytes ((o.desc.drop 8).take 4)) 31 then s1.viNote i k else s1

/-- R481: an access of an operation failed with a fault code: its descriptor completes with STATUS 3 where its write-back passes the check. -/
def State.viBad (s : State) (i : Nat) (o : ViOp) (code : Nat) : State :=
  if s.viInside i (s.viDesc i o.slot o.rx o.idx + 16) 16 true then (s.viBack i o (if o.rx then o.ns else 0) 3 0).viFault i code else s.viFault i code

/-- Cells of the switch buffer that an instance's frames occupy (R483). -/
def State.viCells (s : State) (i : Nat) : Nat :=
  ((s.vi.get i).frames.filter (fun f => s.esw.refs.get f.1 != 0)).foldl (fun a f => a + f.2) 0

/-- R479: a transmit frame as read: refused as a spoof, or handed to the switch as the core port's own reception. A frame beyond CELLS, or behind one
that waits for cells at its port, waits in its ring (R250, R483); one that waits for cells itself completes once it has entered the buffer (R233). -/
def State.viSend (s : State) (i : Nat) (o : ViOp) (bs : List Nat) : State :=
  let cp := 18 + s.viPort i o.slot
  let k := o.slot
  let q := min (bf (ofBytes ((o.desc.drop 8).take 4)) 27 3) (s.get (VIM_QP_MAXQ i k))
  let o1 := { o with queue := q }
  let frame := bs ++ List.replicate (60 - bs.length) 0
  if ofBytesBE ((bs.drop 6).take 6) ≠ s.get (VIM_QPMAC_MAC i k) ∨ (ethTci bs).isSome then (s.inc (VI_QPSTAT_SPOOF i k)).viBack i o1 0 4 0
  else if (s.esw.wait.get cp).isSome || decide (s.get (VIM_LIM2_CELLS i) * 8 < s.viCells i + (frame.length + 8 + 255) / 256) then s
  else
    let tagged := frame.take 12 ++ [0x81, 0] ++ toBytesBE 2 (q * 0x2000 + s.get (VIM_QP_VID i k)) ++ frame.drop 12
    let id := s.esw.nextId
    let s1 := s.ethReceive cp { bytes := tagged ++ toBytes 4 (crc32 tagged), at_ := s.stamp }
    let s2 := s1.viUpd i (fun v => { v with frames := (v.frames.filter (fun f => s1.esw.refs.get f.1 != 0)) ++
      (if s1.esw.nextId = id then [] else [(id, (tagged.length + 4 + 255) / 256)]) })
    if ((s2.esw.wait.get cp).map (fun w => w.id)) = some id then s2.viPush i { o1 with waits := some id }
    else s2.viBack i o1 (if bitOf (ofBytes ((o.desc.drop 8).take 4)) 30 then s.stamp.ns else 0) 0 0

/-- R233, R479: an operation whose frame has waited for cells and waits no longer completes, with the stamp of the frame's entry into the buffer where it asks for it; one of an
earlier generation is discarded (R489). -/
def State.viEntered (s : State) (i : Nat) : State :=
  let still (n : Nat) : Bool := (List.range 2).any (fun p => ((s.esw.wait.get (18 + p)).map (fun w => w.id)) == some n)
  s.each ((s.vi.get i).ops.filter (fun (o : ViOp) => match o.waits with
    | some n => !still n
    | none => false)) (fun t o =>
      let t1 := t.viDrop i o
      if o.gen ≠ s.get (VIM_ISTAT_GEN i) then t1.viStale i
      else t1.viBack i { o with waits := none } (if bitOf (ofBytes ((o.desc.drop 8).take 4)) 30 then s.stamp.ns else 0) 0 0)

/-- R250: free cells let the frame that waits at an internal port enter the buffer, in the order of its arrival; what has handed it over goes on. -/
def execInternalIngressResume (p : Fin 4) (s : State) : Host.Outcome State Fault Refusal :=
  let s1 := match s.esw.wait.get (18 + p.val) with
    | some w => s.ethFinish w.id w.fr w.queue w.dests false
    | none => s
  done (s1.each (List.range 256) State.viEntered).gwEntered.crsFlush

/-- R480 to R482: the frame of a receive operation written into its buffer, once the bucket holds its bytes. -/
def State.viFill (s : State) (i : Nat) (o : ViOp) : State :=
  let a := ofBytes (o.desc.take 8) % 2 ^ 40
  let size := ofBytes ((o.desc.drop 8).take 4) % 2 ^ 14
  let bs := o.frame.take size
  let st := if size < o.frame.length then 5 else 0
  if bs.isEmpty then s.viBack i o o.ns st 0
  else if !s.viInside i a bs.length true then s.viBad i o 1
  else match s.viTokens i bs.length with
  | none => (s.viWait i).viPush i { o with tokens := true, tag := none }
  | some t =>
    let x := t.viWrite i (s.viPort i o.slot) a bs
    if x.2 then x.1.viBack i o o.ns st bs.length else x.1.viBad i o 3

/-- What an operation reads: address and length of its descriptor's first half, or of its transmit buffer. -/
def State.viWhat (s : State) (i : Nat) (o : ViOp) : Nat × Nat :=
  if o.buf then (ofBytes (o.desc.take 8) % 2 ^ 40, ofBytes ((o.desc.drop 8).take 4) % 2 ^ 14)
  else (s.viDesc i o.slot o.rx o.idx, 16)

/-- At most OUTST accesses of an instance are outstanding (R482). -/
def State.viRoom (s : State) (i : Nat) : Bool :=
  decide (((s.vi.get i).ops.filter (fun (o : ViOp) => o.tag.isSome)).length < min (max (s.get (VIM_LIM_OUTST i)) 1) 32)

/-- An operation with the data it waited for: a descriptor leads to its buffer, a transmit buffer to the switch (R479, R480). The operation is no longer on the list; `n` bounds the
reads that follow at once, and `parity` says that the first of them meets a parity error (R31). A write that has waited for tokens is made. -/
def State.viGo (parity : Bool) : Nat → State → Nat → ViOp → State
  | 0, s, _, _ => s
  | n + 1, s, i, o =>
    let w := s.viWhat i o
    let p := s.viPort i o.slot
    let len := w.2
    if let some (stamp, status, n) := o.wb then s.viBack i { o with wb := none } stamp status n
    else if o.rx ∧ o.desc ≠ [] then s.viFill i o
    else if o.buf ∧ ¬ (14 ≤ len ∧ len ≤ s.maxLen (18 + p) - 4) then s.viBack i { o with queue := 0 } 0 2 0
    else if !s.viInside i w.1 len false then s.viBad i o 1
    else if !s.viRoom i then s.viPush i { o with tokens := true, tag := none }
    else match s.viTokens i len with
      | none => (s.viWait i).viPush i { o with tokens := true, tag := none }
      | some s1 =>
        let x := if parity then (s1.parityError (29 + p), ViRead.error) else s1.viRead i p w.1 len
        match x.2 with
        | .error => x.1.viBad i o 3
        | .stall => x.1.viPush i { o with tokens := true, tag := none }
        | .tag t => x.1.viPush i { o with tag := some t, tokens := false }
        | .data bs =>
          if o.buf then x.1.viSend i o bs
          else if o.rx then x.1.viFill i { o with desc := bs }
          else State.viGo false n x.1 i { o with desc := bs, buf := true }

/-- The operations that wait are taken up, each the first of its slot and direction, until none can go on (R478, R482); no descriptor is fetched for an instance
that is not ACTIVE or for a slot that drains (R491, R492); while VIM_GCTL.EN = 0 none is (R472). -/
def State.viMore : Nat → State → Nat → State
  | 0, s, _ => s
  | n + 1, s, i =>
    let ops := (s.vi.get i).ops
    if !s.on VIM_GCTL_EN then s else
    match ops.find? (fun o => o.tokens && s.viLive i o && (o.begun || (s.viState i == 1 && (s.vi.get i).drain != some (0, o.slot))) && ops.find? (fun p => p.slot == o.slot && p.rx == o.rx && s.viLive i p) == some o) with
    | none => s
    | some o =>
      let t := State.viGo false 2 (s.viDrop i o) i { o with tokens := false }
      if (t.vi.get i).ops.length < ops.length then State.viMore n t i else t

/-- The data of a PCIe completion reach the operation that waits for the tag; a stale one is discarded (R489). While VIM_GCTL.EN = 0 the operation reads again later (R472). -/
def State.viTagData (s : State) (tag : Nat) (err : Bool) (bs : List Nat) : State :=
  match (List.range 256).findSome? (fun i => ((s.vi.get i).ops.find? (fun (o : ViOp) => o.tag == some tag)).map (fun o => (i, o))) with
  | none => s
  | some (i, o) =>
    let s1 := s.viDrop i o
    if o.gen ≠ s1.get (VIM_ISTAT_GEN i) then s1.viStale i
    else if !s.on VIM_GCTL_EN then s1.viPush i { o with tag := none, tokens := true }
    else
      let s2 := if err then s1.viBad i o 3
        else if o.buf then s1.viSend i o bs
        else if o.rx then s1.viFill i { o with desc := bs }
        else State.viGo false 2 s1 i { o with desc := bs, buf := true, tag := none }
      State.viMore ((s2.vi.get i).ops.length) s2 i

/-- R478, R491: a doorbell: refused outside ACTIVE and ERROR, ignored in ERROR; a ring that does not lie in the apertures faults (R491). -/
def State.viDoorbell (s : State) (i : Nat) (rx : Bool) (k tail : Nat) : State :=
  if s.viState i ≠ 1 ∨ !s.viSlot i k ∨ (s.vi.get i).drain = some (0, k) then s
  else
    let s1 := s.set (if rx then VI_RXTAIL_TAIL i k else VI_TXTAIL_TAIL i k) tail
    if s1.viInside i (s1.viBase i k rx) (s1.viLen i k rx * 32) false then s1 else s1.viFault i 2

/-- R478. -/
def execViDoorbell (i : Fin 256) (rx : Bool) (slot : Fin 16) (tail : Fin 4096) (s : State) : Host.Outcome State Fault Refusal :=
  if !decide (i.val < nVi s.part) then done s else
  done (s.viDoorbell i rx slot tail)

/-- R478, R479: the core port takes the next transmit descriptor of a slot; `parity` says that its read meets a parity error (R31). -/
def execViTxFrame (i : Fin 256) (slot : Fin 16) (parity : Bool) (s : State) : Host.Outcome State Fault Refusal :=
  let k := slot.val
  let busy := (s.vi.get i).ops.any (fun (o : ViOp) => o.slot == k && !o.rx && s.viLive i o)
  if !s.on VIM_GCTL_EN || s.viState i != 1 || !s.viSlot i k || (s.vi.get i).drain == some (0, k) || !s.on (VI_TXCTL_EN i k) || busy ||
    s.viHead i k false == s.viTail i k false then done s
  else done (State.viGo parity 2 s i { slot := k, idx := s.viHead i k false, gen := s.get (VIM_ISTAT_GEN i) })

/-- R480: a copy for one slot: its descriptor is fetched, or the copy is discarded where the ring is empty. -/
def State.viCopy (q : Nat) (f : EthFrame) (parity : List (Fin 256 × Fin 16)) (s : State) (x : Nat × Nat) : State :=
  let i := x.1
  let k := x.2
  let n := ((s.vi.get i).ops.filter (fun (o : ViOp) => o.slot == k && o.rx && s.viLive i o)).length
  let len := s.viLen i k true
  let free := (s.viTail i k true + len - s.viHead i k true) % len
  if !s.on (VI_RXCTL_EN i k) || decide (free ≤ n) then s.inc (VI_QPSTAT_RXNOBUF i k)
  else
    let bs := toBytesBE 6 f.da ++ toBytesBE 6 f.sa ++ f.rest
    let o : ViOp := { slot := k, rx := true, idx := (s.viHead i k true + n) % len, gen := s.get (VIM_ISTAT_GEN i), frame := bs, queue := q,
                      port := f.port, ns := f.rx.ns }
    if n = 0 then State.viGo (parity.any (fun y => y.1.val == i && y.2.val == k)) 2 s i o else s.viUpd i (fun v => { v with ops := v.ops ++ [{ o with tokens := true }] })

/-- R480: a frame delivered to core port `p` is steered to the slots it is for, in increasing instance and slot number. The CRS block takes the frames of the Carousel (R314). `parity` lists the slots whose descriptor read meets a parity error (R31). -/
def execViRxDeliver (p : Fin 2) (parity : List (Fin 256 × Fin 16)) (s : State) : Host.Outcome State Fault Refusal :=
  match s.esw.core.find? (fun x => x.1 == p.val) with
  | none => done s
  | some (_, q, f) =>
    let s1 : State := { s with esw := { s.esw with core := s.esw.core.erase (p.val, q, f) } }
    let multi := bitOf (f.da / 2 ^ 40) 0
    if p.val = 1 ∧ q = 7 ∧ s.isCarousel f then done s1 else
    let slots := if !s1.on VIM_GCTL_EN then [] else (List.range 256).flatMap (fun i =>
      if s1.viState i != 1 then [] else ((List.range 16).filter (fun k => s1.viSlot i k && s1.viPort i k == p.val &&
        (s1.vi.get i).drain != some (0, k) && s1.get (VIM_QP_VID i k) == f.vid &&
        (if multi then s1.on (VIM_QP_MCAST i k) else s1.get (VIM_QPMAC_MAC i k) == f.da))).map (fun k => (i, k)))
    if slots.isEmpty then done (s1.inc (VIM_CPSTAT_NOMATCH p)) else done (s1.each slots (State.viCopy q f parity))

/-- R482: the refill of an instance's bucket lets its waiting accesses proceed. -/
def execViBucketRefill (i : Fin 256) (s : State) : Host.Outcome State Fault Refusal :=
  if !decide (i.val < nVi s.part) then done s else
  done (State.viMore ((s.vi.get i).ops.length) (s.viRefill i) i)

/-! ### Writes of the manager (R483, R495, R498) -/

/-- The sums of RATE and CELLS over all instances. -/
def State.vimSums (s : State) : State :=
  let sum (f : Nat → Fld) : Nat := (List.range 256).foldl (fun a i => a + s.get (f i)) 0
  (s.set VIM_GSTAT_RATE (sum VIM_LIM_RATE)).set VIM_GSTAT_CELLS (sum VIM_LIM2_CELLS)

/-- What a write to a manager page does beyond its fields: BIND and FN only while FREE, the budgets, and map writes that would give a resource to
two instances (R483, R495, R498); `old` is the state before it. -/
def State.vimPage (i o : Nat) (old s : State) : State :=
  let back : State := { old with held := s.held }
  if o = 0 then
    if old.viState i = 0 then s
    else (s.set (VIM_ICFG_BIND i) (old.get (VIM_ICFG_BIND i))).set (VIM_ICFG_FN i) (old.get (VIM_ICFG_FN i))
  else if o = 8 ∨ o = 0xC then
    let s1 := s.vimSums
    let rate := (List.range 256).foldl (fun a j => a + s.get (VIM_LIM_RATE j)) 0
    let cells := (List.range 256).foldl (fun a j => a + s.get (VIM_LIM2_CELLS j)) 0
    if (o = 8 ∧ min (s.get VIM_GCTL_BUDGET) 1024 < rate) ∨ (o = 0xC ∧ s.get VIM_GCTL_CELLBUD < cells) then back.set (VIM_ISTAT_LIMERR i) 1 else s1
  else if 0x100 ≤ o ∧ o < 0x318 then
    let bad := (s.viAll i).any (fun p => s.viHeld false i p.1 p.2)
    if bad then back.set (VIM_ISTAT_LIMERR i) 1 else s.viShow i
  else s

/-- What a write to the VIM block does beyond its fields (R487, R495). -/
def vimWrite : Nat → Nat → State → State → State := fun a v old s =>
  if a = a_VIM_CMD then
    if !bitOf v 31 then s
    else if old.on VIM_CMD_GO then (({ old with held := s.held } : State).set VIM_CMD_ERR 1).set VIM_CMD_ERRC 4
    else (s.vimTaken (s.get VIM_CMD_VI) (s.get VIM_CMD_OP) (s.get VIM_CMDARG_KIND) (s.get VIM_CMDARG_SLOT)).vimTry (s.get VIM_CMD_VI) (s.get VIM_CMD_OP)
      (s.get VIM_CMDARG_KIND) (s.get VIM_CMDARG_SLOT)
  else if within a 0x4710_0000 0x10_0000 then State.vimPage ((a - 0x4710_0000) / 0x1000) (a % 0x1000) old s
  else s

/-- R495: a direct write of a map register, a pair with its high word; it applies at once. -/
def execVimMapWrite (addr value : Nat) (s : State) : Host.Outcome State Fault Refusal :=
  if within addr 0x4710_0040 0xF_FFC0 && decide (0x40 ≤ addr % 0x1000) && s.mapped (addr / 4 * 4) then done (s.regWrite vimWrite (addr / 4 * 4) 4 value) else done s

end Sys2Proof.Machine
end

