-- ==== Sys2Proof/Machine/Link.lean ====
section
/-! DEFINITION. What comes back to cores, pairs and instances: copies that rejoin their pair, entries of the input journal, and completions and errors of the PCIe link
(R363 to R365, R370, R409, R411, R414, R615). -/

namespace Sys2Proof.Machine

open Sys2Proof

/-! ### Slices of a pair's copy (R411, R429, R563, R567, R570) -/

/-- A copy comes back into its block (R429, R568). -/
def State.unitRejoin (s : State) (u : Nat) : State := if u < 8 then s.soloEnd u else s

/-- R563, R570: the slice of unit `u` is aborted, and the copy rejoins. -/
def State.sliceDrop (s : State) (u : Nat) : State := if s.inSlice u then (s.sliceAbort u).unitRejoin u else s

/-- R411, R567: the journal of pair `n` reaches the forced-checkpoint threshold in a slice: the slice is aborted. -/
def State.sliceFull (s : State) (n : Nat) : State :=
  if 28672 ≤ (s.pair.get n).journal.length then (s.sliceDrop (2 * n)).sliceDrop (2 * n + 1) else s

/-- R409, R411: an entry written to the journal of pair `n`. -/
def State.jrnPut (s : State) (n : Nat) (e : JEntry) : State := (s.jrnAdd n e).sliceFull n

/-! ### Responses (R363, R364, R414) -/

/-- The journal kind of a response: load, AMO, LR, SC, or AGREE (R409). -/
def jkind (k : Nat) : Nat := if k = 2 then 1 else if k = 3 then 2 else if k = 4 then 3 else if k = 7 then 4 else 0

/-- R414: the response to an access that a pair has released, in the journal; the release has verified it. -/
def State.jrnResp (s : State) (n : Nat) (a : Acs) (err : Bool) (v : Nat) : State :=
  s.jrnPut n { kind := jkind a.kind, size := a.size, addr := a.addr, value := v, err := err, seq := (s.core.get (s.leadOf n)).seq, verified := true }

/-- A response that comes later reaches hart `c`: a joined pair journals it (R414). -/
def State.coreHear (s : State) (c : Nat) (err : Bool) (v : Nat) : State :=
  if s.joined c then
    match (s.pair.get (c / 2)).bus with
    | none => s
    | some a => (s.pairSet (c / 2) (fun p => { p with bus := none })).jrnResp (c / 2) a err v
  else s.coreSet c (fun k => { k with resp := some (err, v) })

/-- The end of an outbound request reaches the instance or the core that waits for it. -/
def State.pcieHear (s : State) (q : PcieReq) (err : Bool) (v : Nat) (bytes : List Nat) : State :=
  if q.vi.isSome then s.viTagData q.tag err bytes else if q.core then s.coreHear q.id err v else s

/-- R364: the link is down, and every request that was outstanding ends in error. -/
def State.linkLost (s : State) : State := s.pcieDown.each s.pcie.out (fun t q => t.pcieHear q true 0 [])

/-! ### The commands of the link (R356, R363 to R365, R370, R615) -/

/-- R364: an outbound read without its completion in PCIE_CFG.CTO. -/
def execPcieCompletionTimeout (tag : Nat) (s : State) : Host.Outcome State Fault Refusal :=
  match s.pcie.out.find? (fun q => q.tag == tag) with
  | some q => done (State.pcieHear ((((s.pcieDone tag).inc PCIE_ERR_CTO).raiseSum 295 0 1).emit (.resp q.id true 0)) q true 0 [])
  | none => done s

/-- R363, R364: a completion for an outstanding request: status 0 success, 1 UR, 2 CA. A tag that waits for nothing is discarded. -/
def execPcieCompletion (tag : Nat) (status : Fin 3) (bytes : List Nat) (s : State) : Host.Outcome State Fault Refusal :=
  match s.pcie.out.find? (fun q => q.tag == tag) with
  | some q =>
    let s1 := s.pcieComplete q status bytes
    let ur := q.config && status.val == 1
    done (s1.pcieHear q (decide (status.val ≠ 0) && !ur) (if ur then 0xFFFF_FFFF else q.value bytes) (toBytes q.size (q.value bytes)))
  | none => done s

/-- R364: the link goes down. -/
def execPcieLinkDown (ltssm : Nat) (s : State) : Host.Outcome State Fault Refusal :=
  if s.on PCIE_STAT_LINKUP then done (s.linkLost.set PCIE_STAT_LTSSM ltssm) else done s

/-- What a write to the PCIe block does beyond its fields (R363, R364, R370, R615); `old` is the state before it. -/
def pcieRegWrite : Nat → Nat → State → State → State := fun a v old s =>
  let back : State := { old with held := s.held }
  if a = a_PCIE_CTL then
    let s1 := if bitOf v 25 then s.pcieRetrain else s
    if bitOf v 31 then s1 else (if s1.on PCIE_STAT_LINKUP then s1.linkLost else s1).perstDrive 0
  else if a = a_PCIE_PFIRQ then s.pciePfirq v
  else if within a 0x4510_1000 0x800 then
    (if a % 0x20 ≠ 0 ∧ old.on (PCIE_IWCTL_EN ((a - 0x4510_1000) / 0x20)) then back else s)
  else if within a 0x4510_2000 0x800 then
    (if a % 0x20 ≠ 0 ∧ old.on (PCIE_OWCTL_EN ((a - 0x4510_2000) / 0x20)) then back else s)
  else s

/-- R365: the block reset of the PCIe block takes the link down and restores its fields. -/
def State.pcieReset (s : State) : State :=
  let s1 := if s.on PCIE_STAT_LINKUP then s.linkLost else s
  let s2 := s1.restoreBlock 0x4510_0000 0x1_0000
  { s2 with pcie := {} }

/-- R615: as an endpoint, PCIE_PERST_N low resets the PCIe block without the idle wait and holds it. -/
def execPciePerst (low : Bool) (s : State) : Host.Outcome State Fault Refusal :=
  if s.on PCIE_CTL_MODE then done s
  else
    let s1 := if low then s.pcieReset else s
    done { s1 with pow := { s1.pow with perst := low } }

end Sys2Proof.Machine
end

