-- ==== Sys2Proof/Machine/Reset.lean ====
section
/-! DEFINITION. What the reset kinds do: block, domain, warm, cold and power-on resets (R534, R535, R541 to R550). -/

namespace Sys2Proof.Machine

open Sys2Proof

/-! ### Blocks (R547 to R549, R561) -/

/-- Whether block number `n` names a block that the part carries (R3, R561). -/
def blockCarried (p : Part) (n : Nat) : Bool :=
  if n < 8 then decide (n < nAdc p)
  else if n < 16 then decide (n - 8 < nAdc p)
  else if n < 40 then decide (n - 16 < nPwm p)
  else if n < 64 then decide (n - 40 < nCmp p)
  else if n < 68 then true
  else if n < 72 then decide (n - 68 < nSdf p)
  else if n < 84 then decide (n - 72 < nTg p)
  else if n < 87 then true
  else if n < 103 then decide (n - 87 < nCan p)
  else if n < 111 then decide (n - 103 < nLin p)
  else if n < 114 then true
  else if n < 118 then decide (n - 114 < nPair p)
  else decide (n = 118)

/-- Whether a block can be reset: carried, usable, its domain on (R549, R577). -/
def State.blockReady (s : State) (n : Nat) : Bool :=
  blockCarried s.part n && !s.unusable n && (match itemDomain n with | none => true | some d => s.domainUp d)

/-- R548: whether block `n` is idle. -/
def State.blockIdle (s : State) (n : Nat) : Bool :=
  if n < 8 then !(s.conv.adc.get n).running
  else if n < 16 then (s.conv.sets.get (n - 8)).isEmpty
  else if 72 ≤ n ∧ n < 84 then
    let e := s.tgLead (n - 72)
    !s.on (TG_STAT_BUSY e) && !s.on (TG_PSTAT_REPLAY e) && (s.tg.get e).inq.isEmpty
  else if n = 85 then (s.psc.queue.get 0).isEmpty && (s.psc.queue.get 1).isEmpty
  else if 87 ≤ n ∧ n < 103 then (s.can.get (n - 87)).tx.isNone
  else if 103 ≤ n ∧ n < 111 then (s.lin.get (n - 103)).frame.isNone
  else if n = 113 then s.pcie.out.isEmpty
  else if 114 ≤ n ∧ n < 118 then
    let p := n - 114
    let q := s.pair.get p
    s.on (PAIR_CFG_SPLIT p) || ((s.core.get (2 * p)).seq == (s.core.get (2 * p + 1)).seq && q.lq.isEmpty && q.sq.isEmpty)
  else if n = 118 then (List.range 58).all (fun u => !s.inSlice u)
  else true

/-- A PWM pair back at reset: both outputs low (R550). -/
def State.pwmReset (s : State) (j : Nat) : State :=
  let p := s.conv.pwm.get j
  let s1 := ((s.pwmBall j false p.a 0).pwmBall j true p.b 0).pwmUpd j (fun _ => {})
  s1.restoreBlock (0x4110_0000 + j * 0x1000) 0x1000

/-- An ADC group back at reset, with the converters that run for it; its converters are the higher groups' again (R96, R129). -/
def State.grpReset (s : State) (g : Nat) : State :=
  let s1 := s.each (List.range 8) (fun t n =>
    match (t.conv.adc.get n).set with
    | some (k, _) => if k = g then ({ t with conv := { t.conv with adc := t.conv.adc.del n } } : State).set (ADC_STAT_BUSY n) 0 else t
    | none => t)
  let s2 : State := { s1 with conv := { s1.conv with sets := s1.conv.sets.del g } }
  (s2.restoreBlock (0x4100_8000 + g * 0x1000) 0x1000).each (List.range 8) State.grpConflict

/-- The block reset of the GTB: triggers and captures are restored, the balls GTB_OUT0 to GTB_OUT3 low; the GTB runs on. -/
def State.gtbReset (s : State) : State :=
  let s1 : State := { s with gtb := { s.gtb with caps := {}, outHigh := {} } }
  (s1.each (List.range 4) (fun t n => if s.gtb.outHigh.get n = 0 then t else t.emit (.ball "GTB_OUT" n 0))).restoreBlock 0x4001_0000 0xD000

/-- The command queues emptied, no command unacknowledged any more (R225). -/
def State.pscDrop (s : State) : State :=
  ({ s with psc := { s.psc with queue := {} } } : State).each (List.range 40) (fun t n => t.set (PSC_STAT_CMDPEND n) 0)

/-- R547, R570: the block reset of the PSC block: the record registers restored, the mirror loaded; no channel changes. -/
def State.pscReset (s : State) : State :=
  let s1 := ((s.sliceAbort 20).sliceAbort 21).restoreBlock 0x4200_0000 0x4000
  (s1.pscDrop.mirrorLoad 0).mirrorLoad 1

/-- The block reset of a pair's page: both copies as an escalation does without its event, and the cores start as after a warm reset. -/
def State.pairReset (s : State) (n : Nat) : State :=
  let s1 := ((s.sliceAbort (2 * n)).sliceAbort (2 * n + 1)).restoreBlock (0x4004_0000 + n * 0x1000) 0x1000
  if s1.on (PAIR_CFG_SPLIT n) then
    (((s1.coreReset (2 * n)).coreReset (2 * n + 1)).hartBoot (2 * n)).hartBoot (2 * n + 1)
  else (s1.pairHold n).hartBoot (2 * n)

/-- Every running slice ends: a core's copy rejoins (R429, R570). -/
def State.steAbort (s : State) : State :=
  s.each ((List.range 58).filter s.inSlice) (fun t u => let x := t.sliceAbort u; if u < 8 then x.soloEnd u else x)

/-- The block reset of block `n` (R547, R561). -/
def State.blockReset (s : State) (n : Nat) : State :=
  if n < 8 then ({ s with conv := { s.conv with adc := s.conv.adc.del n } } : State).restoreBlock (0x4100_0000 + n * 0x1000) 0x1000
  else if n < 16 then s.grpReset (n - 8)
  else if n < 40 then s.pwmReset (n - 16)
  else if n < 64 then
    let k := n - 40
    let s1 := s.restoreBlock (0x4120_0000 + k * 0x1000) 0x1000
    (({ s1 with conv := { s1.conv with cmp := s1.conv.cmp.del k } } : State).set (CMP_STAT_RAW k) 0).set (CMP_STAT_OUT k) 0
  else if n < 68 then s.restoreBlock (0x4121_8000 + (n - 64) * 0x1000) 0x1000 |>.emit (.ball "DAC_OUT" (n - 64) (2 ^ 12))
  else if n < 72 then (({ s with conv := { s.conv with sdf := s.conv.sdf.del (n - 68) } } : State).sdfClockOff (n - 68)).restoreBlock (0x4130_0000 + (n - 68) * 0x1000) 0x1000
  else if n < 84 then s.tgReset (n - 72)
  else if n = 84 then s.gtbReset
  else if n = 85 then s.pscReset
  else if n = 86 then s.eswReset
  else if n < 103 then s.canReset (n - 87)
  else if n < 111 then s.linReset (n - 103)
  else if n = 111 then s.crsReset
  else if n = 112 then s.gwReset
  else if n = 113 then s.pcieReset
  else if n < 118 then s.pairReset (n - 114)
  else if n = 118 then s.steAbort.restoreBlock 0x4600_0000 0x1000
  else s

/-- R547, R549: a request to reset block BLK; one at a time. -/
def State.blkGo (s : State) (n : Nat) : State :=
  if s.pow.blk.isSome then s
  else if !s.blockReady n then (s.set RST_BLKRST_ERR 1).set RST_BLKRST_GO 0
  else ({ s with pow := { s.pow with blk := some n } } : State).set RST_BLKRST_GO 1

/-- R547: the block is reset, and GO reads 0. -/
def State.blkDone (s : State) (n : Nat) : State :=
  let s1 : State := { s with pow := { s.pow with blk := none } }
  (((s1.blockReset n).inc RST_BLKSTAT_DONE).set RST_BLKRST_GO 0)

/-- R547: a reset forced by the idle timeout. -/
def State.blkForced (s : State) (n : Nat) : State := ((s.inc RST_BLKSTAT_FORCED).set RST_BLKSTAT_LAST n).raise 9 n

/-- R547: RST_BLKRST.GO is written 1. -/
def execBlockReset (s : State) : Host.Outcome State Fault Refusal := done (s.blkGo (s.get RST_BLKRST_BLK))

/-- R547, R548: the block that is to be reset is idle. -/
def execBlockIdleReached (s : State) : Host.Outcome State Fault Refusal :=
  match s.pow.blk with
  | some n => if s.blockIdle n then done (s.blkDone n) else done s
  | none => done s

/-- R547: RST_IDLETO.TIMEOUT µs have passed without idle. -/
def execBlockIdleTimeout (s : State) : Host.Outcome State Fault Refusal :=
  match s.pow.blk with
  | some n => if s.blockIdle n then done s else done ((s.blkForced n).blkDone n)
  | none => done s

/-! ### Domains (R533 to R535) -/

/-- The blocks of a domain, by block number, and the ranges of its register pages. -/
def domainBlocks (d : Nat) : List Nat := (List.range 119).filter (fun n => itemDomain n == some d)
def domainPages (d : Nat) : List (Nat × Nat) :=
  if d = 13 then [(0x4001_0000, 0xD000)]
  else if d = 14 then [(0x4100_0000, 0x1_1000), (0x4120_0000, 0x1_C000), (0x4130_0000, 0x4000)]
  else if d = 15 then [(0x4110_0000, 0x1_9000)]
  else if d = 16 then [(0x4310_0000, 0x2000)]
  else if d = 17 then [(0x4310_2000, 0x6000)]
  else if d = 18 then [(0x4310_8000, 0x4000)]
  else if d = 19 then [(0x4310_C000, 0x4000)]
  else if d = 20 then [(0x4311_0000, 0x2000)]
  else if 9 ≤ d ∧ d ≤ 11 then [(0x4005_0000 + (d - 9) * 0x4000, 0x4000)]
  else if 5 ≤ d ∧ d ≤ 8 then [(0x4004_0000 + (d - 5) * 0x1000, 0x1000)]
  else []

/-- The ports of a domain. -/
def domainPorts (d : Nat) : List Nat := (List.range 18).filter (fun p => itemDomain (140 + p) == some d)

/-- Every field of the domain's pages back at its cold-reset value, but for cfg and calibration (R535, R543). -/
def State.domainFields (s : State) (d : Nat) : State :=
  s.each (domainPages d) (fun t x => (t.restore (fun k => within (keyAddr k) x.1 x.2 && decide (keyKind k ≤ 3))).unhold (fun a => within a x.1 x.2))

/-- R535: the cfg fields of a domain's pages from the record in force. -/
def State.domainCfg (s : State) (d : Nat) : State :=
  let regs := settingsMap.flatMap (fun m => (List.range m.2.1).map (fun k => (m.1 + k, m.2.2.1 + k * m.2.2.2)))
  s.each (regs.filter (fun x => (domainPages d).any (fun y => within x.2 y.1 y.2))) (fun t x => t.cfgReg x.2 (t.cfgWord x.1 x.2))

/-- R535, R542: the domain reset. -/
def State.domainReset (s : State) (d : Nat) : State :=
  let s1 := s.each (domainBlocks d) State.blockReset
  let s2 := s1.each (domainPorts d) (fun t p => (t.linkDown p).portOff p)
  (s2.domainFields d).domainCfg d

/-- R534, R550: power is removed from a domain: links are down, PWM balls and DAC outputs at high impedance. -/
def State.domainGone (s : State) (d : Nat) : State :=
  let s1 := s.each (domainBlocks d) State.blockReset
  let s2 := s1.each (domainPorts d) (fun t p => t.linkDown p)
  let s3 := if d = 15 then s2.each (List.range 24) (fun t j => (t.pwmBall j false 0 2).pwmBall j true 0 2) else s2
  let s4 := if d = 21 then (if s3.on PCIE_STAT_LINKUP then s3.linkLost else s3).perstDrive 2 else s3
  (s4.setBit PWR_DOMSTAT_UP d false).islands

/-- R534, R535: a write to PWR_DOMCTL: ignored while BUSY reads 1; else a change of a Run bit begins. -/
def State.domctlWrite (s old : State) : State :=
  if old.on PWR_DOMSTAT_BUSY then s.set PWR_DOMCTL_RUN (old.get PWR_DOMCTL_RUN)
  else if s.get PWR_DOMCTL_RUN != old.get PWR_DOMCTL_RUN then s.set PWR_DOMSTAT_BUSY 1 else s

/-- BUSY reads 0 once no Run bit differs from its domain's state. -/
def State.domSettled (s : State) : State :=
  s.setIf ((List.range 10).all (fun k => bitOf (s.get PWR_DOMCTL_RUN) k == s.domainUp (14 + k))) PWR_DOMSTAT_BUSY 0

/-- R534: domain `d` is off: its Run bit is clear, its blocks are idle, and its power is removed. -/
def execDomainOff (d : Fin 24) (s : State) : Host.Outcome State Fault Refusal :=
  if decide (14 ≤ d.val) && !bitOf (s.get PWR_DOMCTL_RUN) (d.val - 14) && s.domainUp d then
    done (((s.raiseC 11 2 d).domainGone d).domSettled)
  else done s

/-- R555: the SYS_READY ball shows the stage: 0 low, 3 a square wave of 1 kHz, 1 high, 4 a square wave of 10 Hz. -/
def State.readyBall (s : State) : State :=
  let v := if s.get SYS_READY_STAGE < 2 then 0 else if s.get SYS_READY_STAGE = 2 then 3 else if s.on SYS_READY_DEGRADED then 4 else 1
  s.emit (.ball "SYS_READY" 0 v)

/-- R554, R555: DEGRADED is set; in stage 3 the ball shows it. -/
def State.degrade (s : State) : State :=
  let t := s.set SYS_READY_DEGRADED 1
  if s.get SYS_READY_STAGE == 3 && !s.on SYS_READY_DEGRADED then t.readyBall else t

/-- Item `i` marked in STE_UNUSE, with its event; `cause` 1 at bring-up, 2 by ST_RUN (R577). -/
def State.markOne (s : State) (cause i : Nat) : State :=
  if s.marked i then s else ((s.setBit (STE_UNUSE_ITEMS (i / 32)) (i % 32) true).degrade.evrTake).raiseC 304 cause i

/-- An item marked unusable, with what depends on it (R577). -/
def State.markItem (s : State) (i cause : Nat) : State :=
  if s.marked i then s
  else
    let s1 := s.markOne cause i
    let s2 := if 140 ≤ i ∧ i < 158 then (s1.linkDown (i - 140)).portOff (i - 140) else s1
    if i = 176 then
      let all := List.range 8 ++ (List.range 24).map (· + 40) ++ (List.range 4).map (· + 64)
      ((s2.each all (fun t k => t.markOne cause k)).set ADC_REFSTAT_MISMATCH 1).tripAll 32
    else s2

/-- R551, R129: a converter's calibration has not ended well. -/
def State.calClear (s : State) (i : Nat) : State := if i < 8 then s.set (ADC_STAT_CALOK i) 0 else s

/-- R14, R129, R232, R551: what the calibration of an item has measured: of a converter gain and offset, of a port the stamp corrections of its PHY; CALOK says that a
converter's succeeded. -/
def State.calSet (s : State) (ok : Bool) (x : Nat × Nat × Nat) : State :=
  let i := x.1
  if !ok then s.calClear i
  else if i < 8 then ((s.set (ADC_CAL_GAIN i) x.2.1).set (ADC_CAL_OFFSET i) x.2.2).set (ADC_STAT_CALOK i) 1
  else s

/-- R535: domain `d` is powered, has taken its domain reset and calibrated; `failed` lists the items whose calibration or test has failed, `cals` what the calibrations
have measured. -/
def execDomainOn (d : Fin 24) (failed : List (Fin 177)) (cals : List (Nat × Nat × Nat)) (s : State) : Host.Outcome State Fault Refusal :=
  if decide (14 ≤ d.val) && bitOf (s.get PWR_DOMCTL_RUN) (d.val - 14) && !s.domainUp d then
    let s0 := (((s.setBit PWR_DOMSTAT_UP d true).islands).domainReset d).raiseC 11 1 d
    let bad := (failed.map Fin.val).filter (fun i => itemDomain i == some d.val)
    let s1 := s0.each (cals.filter (fun c => itemDomain c.1 == some d.val)) (fun t c => t.calSet (!bad.contains c.1) c)
    let s2 := s1.each bad (fun t i => t.markItem i 1)
    let s3 := if bad.isEmpty then s2 else (s2.set PWR_DOMSTAT_FAIL 1).evrTake.raiseC 11 3 d
    done s3.domSettled
  else done s

/-! ### Time across a loss of power (R44, R45, R541) -/

/-- The GTB as the backup domain holds it now: the newest record plus the ticks counted since, in ns (R44). -/
def State.backupNow (s : State) : Nat := s.pow.gtbRec.1 + (s.pow.ticks - s.pow.gtbRec.2.1) * 30517578125 / 1000000

/-- R541: the servo restarts in holdover after a reset that keeps the GTB counting; on the RC source holdover lasts until a cold reset (R51). -/
def State.gtbKeep (s : State) : State :=
  let s1 : State := { s with gtb := { now := s.gtb.now, slew := 0, everLocked := s.gtb.everLocked, restored := s.gtb.restored, rc := s.gtb.rc } }
  let s2 := (s1.set GTB_STAT_LOCKED 0).set GTB_STAT_HOLDOVER (b2n (s.on GTB_STAT_GTB_VALID || s.gtb.rc))
  (s2.refreshQual).each (List.range 4) State.refreshSlot

/-- An event of the backup domain or of the restore: kept with its stamp until the EVR runs at bring-up (`boot`), or raised at once (R70, R537, R541). -/
def State.backNote (s : State) (boot : Bool) (src w : Nat) : State :=
  if boot then { s with pow := { s.pow with backLog := s.pow.backLog ++ [(src, w, s.stamp)] } } else s.raise src w

/-- R541: the GTB restored from the backup domain, or started at 0. A clearing of GTB_VALID raises source 22 once the EVR runs; on the RC source it is in holdover (R25). -/
def State.gtbRestore (s : State) (boot : Bool) : State :=
  let good := (s.on PWR_BAKSTAT_RECA || s.on PWR_BAKSTAT_RECB) && s.on PWR_BAKSTAT_CONT
  let was := s.on GTB_STAT_GTB_VALID
  let fresh : Gtb := { now := 0, rc := s.gtb.rc }
  if good then
    let t := s.pow.gtbRec.1 * nsUnit + (s.pow.ticks - s.pow.gtbRec.2.1) * (1_000_000_000 * nsUnit / 32768)
    let s1 : State := { s with gtb := { fresh with now := gtbWrap t, restored := true } }
    let s2 := (((s1.set GTB_STAT_GTB_VALID (b2n s.pow.gtbRec.2.2)).set PWR_BAKSTAT_RESTORED 1).set GTB_STAT_HOLDOVER (b2n s.gtb.rc)).set GTB_STAT_LOCKED 0
    s2.refreshQual
  else
    let s1 : State := { s with gtb := fresh }
    let s2 := (((s1.set GTB_STAT_GTB_VALID 0).set PWR_BAKSTAT_RESTORED 0).set GTB_STAT_HOLDOVER (b2n s.gtb.rc)).set GTB_STAT_LOCKED 0
    let s3 := (s2.refreshQual).backNote boot 3 (causeWord 3 (s.get PWR_BAKSTAT_VBAKMIN))
    if was then s3.backNote boot 22 0 else s3

/-! ### Power-on, cold and warm resets (R542 to R546) -/

/-- Memory without the cells that `p` selects. -/
def State.forget (s : State) (p : Nat → Bool) : State := { s with mem := s.mem.filter (fun c => !p c.1) }

/-- What survives a loss of power: the eNVM (R440). -/
def isEnvm (a : Nat) : Bool := decide (a < 0x0800_0000)

/-- R84, R542: the event router after a reset of kind 2 (power-on), 3 (cold) or 4 (warm): a warm reset keeps its fields, which are marked C, and what they show; the persistent
area is the backup domain's. -/
def Evr.afterReset (x : Evr) (kind : Nat) : Evr :=
  if kind = 4 then x else { persist := x.persist, commit := x.commit, areaA := x.areaA, areaB := x.areaB }

/-- The converter blocks after a reset: after a warm one the PWM balls are low, else high impedance (R550). -/
def Conv.afterReset (x : Conv) (kind : Nat) : Conv :=
  { ext := x.ext, pwm := if kind = 4 then {} else ⟨(List.range 24).map (fun j => (j, { a := 2, b := 2 }))⟩ }

/-- R542: everything that the core die holds beside the registers, after a reset of kind 2, 3 or 4. What belongs to a transceiver, a power die, the backup domain or the key store
stays; so does memory beside SRAM (R440) where the dies stay powered. -/
def State.coreHidden (s0 : State) (kind : Nat) : State :=
  let c := s0.cmp
  let p := s0.pow
  let s1 : State := { s0 with
    latch := {}, due := [], evr := s0.evr.afterReset kind, tg := {}, psc := { s0.psc with queue := {}, die := (s0.psc.die.upd 0 (fun d => { d with loaded := false })).upd 1 (fun d => { d with loaded := false }) }, esw := {}
    can := ⟨s0.can.cells.map (fun x => (x.1, { released := x.2.released, hot := x.2.hot }))⟩
    lin := ⟨s0.lin.cells.map (fun x => (x.1, { hot := x.2.hot }))⟩
    crs := { window := s0.crs.window, confirmed := s0.crs.confirmed }, gw := {}, pcie := {}, core := {}
    pair := {}, vi := {}, vimStart := 0, irqInner := {}, irqOuter := {}, ste := {}
    cmp := { ks := c.ks, fails := if kind = 4 then c.fails else 0, debug := if kind = 4 then c.debug else none, scan := kind == 4 && c.scan
             erasing := c.erasing }
    pow := { p with refNs := if kind = 4 then p.refNs else 0, blk := none, calDone := [], testDone := [], takeover := 0, cut := if kind = 4 then p.cut else 0, twin := 0, handWait := 0, handed := kind == 4 && p.handed
                    settings := kind != 2 && p.settings, hot := kind == 4 && p.hot, lower := if kind = 4 then p.lower else 0 } }
  if kind = 4 then s1.forget (fun a => within a 0x6000_0000 0x100_0000)
  else if kind = 3 then s1.forget (fun a => within a 0x1000_0000 0x140_0000 || within a 0x4400_0000 0x10_0000 || within a 0x6000_0000 0x100_0000)
  else s1.forget (fun a => !isEnvm a)

/-- R542: everything that the dies hold beside the registers, after a reset of kind 2, 3 or 4. -/
def State.hiddenReset (s : State) (kind : Nat) : State :=
  let s0 := if kind = 4 then s.each (List.range 24) State.pwmReset
    else s.each (List.range 24) (fun t j => let p := s.conv.pwm.get j; (t.pwmBall j false p.a 2).pwmBall j true p.b 2)
  let s1 := s0.pscDrop.coreHidden kind
  { s1 with conv := s0.conv.afterReset kind }

/-- The register pages of the mixed-signal die (R533). -/
def msPage (a : Nat) : Bool :=
  within a 0x4001_0000 0xD000 || within a 0x4100_0000 0x40_0000 || within a 0x4310_0000 0x1_2000 || within a 0x4510_0000 0x1_0000

/-- R21, R34, R616: the core die stops: its registers and all it holds are lost, beside what the interface die and the power domain keep. -/
def State.coreDown (s : State) : State :=
  let s1 := (s.restore (fun k => decide (keyKind k ≤ 3) && !msPage (keyAddr k) && !within (keyAddr k) 0x4000_1000 0x2000 && !within (keyAddr k) 0x4420_0000 0x1000)).unhold
    (fun a => !msPage a)
  let s2 := s1.coreHidden 2
  State.emit { s2 with pow := { s2.pow with coreUp := false } } (.ball "XSPI_CS_N" 0 2)

/-- The transceivers and their forced state after a reset that restores their selection (R297, R550). -/
def State.trxAfter (s : State) : State := (s.each (List.range 16) State.canTrx).each (List.range 8) State.linRest

/-- R540: the backup domain serves its records at the bring-up of a power-on reset: of each record the good copy with the higher sequence number counts and rewrites the
other; a lost persistent area reads as empty, and source 3 is raised with cause 4. -/
def State.backServe (s : State) : State :=
  let g := s.on PWR_BAKSTAT_RECA || s.on PWR_BAKSTAT_RECB
  let s1 := (s.setIf g PWR_BAKSTAT_RECA 1).setIf g PWR_BAKSTAT_RECB 1
  let a := s.evr.areaA
  let b := s.evr.areaB
  if !a.good && !b.good then
    ({ s1 with evr := { s1.evr with persist := [], commit := false } } : State).backNote true 3 (causeWord 4 (s1.get PWR_BAKSTAT_VBAKMIN))
  else
    let x := if b.rank ≤ a.rank then a else b
    State.areaShow { s1 with evr := { s1.evr with persist := x.entries, commit := false, areaA := x, areaB := x } }

/-- R550: the outputs of the GTB are low, those of the DACs and the modulator clocks at high impedance from a reset's start; a root port
drives PCIE_PERST_N low until 100 ms after EN is set (R615). -/
def State.outputsReset (s : State) (kind : Nat) : State :=
  (if kind = 4 then s else s.perstDrive 0).each (List.range 4) (fun t n =>
    let t1 := if kind = 2 ∨ s.gtb.outHigh.get n ≠ 0 then t.emit (.ball "GTB_OUT" n 0) else t
    (if s.on (DAC_CTL_EN n) && s.on (DAC_CTL_OUTEN n) then t1.emit (.ball "DAC_OUT" n (2 ^ 12)) else t1).sdfClockOff n)

/-- R546: the warm resets within the last 2 s. -/
def State.recentStorm (s : State) : List Nat := s.pow.storm.filter (fun t => decide (s.pow.elapsed < t + 2_000_000_000))

/-- RST_STORM.COUNT as a read shows it (R561). -/
def State.stormShow (s : State) : State := s.set RST_STORM_COUNT s.recentStorm.length

/-- R542 to R546: a reset of kind 2, 3 or 4 with its source begins. During bring-up the wider kind counts (R545). It ends a block reset (R549) and discards the commands that
wait (R545). -/
def State.resetKind (s : State) (kind0 src0 : Nat) : State :=
  let wide := match s.pow.bringUp with | some k => min k kind0 | none => kind0
  let recent := s.recentStorm ++ [s.pow.elapsed]
  let esc := wide == 4 && decide (16 ≤ recent.length)
  let kind := if esc then 3 else wide
  let src := if esc then 8 else src0
  let again := s.pow.bringUp.isSome
  let zok := s.on CRS_ZOK_LEVEL
  let was := [PWR_STAT_VBAT, PWR_STAT_VBAK, PWR_STAT_MAIN, PWR_STAT_BAKLOW, PWR_STAT_VBATHI, PWR_STAT_VBATLO].map (fun f => (f, s.get f))
  let sb := s.outputsReset kind
  let s1 := if kind = 4 then sb.restoreWarm.each (List.range 58) (fun t u => t.setIf (!t.copyFailed u) (STE_USTAT_STATE u) 0) else sb.restoreCold.each was (fun t p => t.set p.1 p.2)
  let s2 := s1.hiddenReset kind
  let s3 := if kind = 2 then State.gtbRestore ({ s2 with gtb := { s2.gtb with rc := false } } : State).backServe true
    else ({ s2 with gtb := { s2.gtb with rc := kind == 4 && s2.gtb.rc, everLocked := kind == 4 && s2.gtb.everLocked } } : State).gtbKeep
  let s4 := ((s3.set RST_CAUSE_KIND kind).set RST_CAUSE_SRC src).addWrap RST_CAUSE_COUNT 1 |>.set RST_BLKRST_GO 0 |>.set PWR_STAT_NVMHOLD 0
  let s5 := if again then s4.inc RST_CAUSE_RESTARTS else s4.set RST_CAUSE_RESTARTS 0
  let s6 : State := { s5 with pow := { s5.pow with bringUp := some kind, storm := if kind = 4 then recent else [], coreUp := true, msUp := true
                                                   coreBeat := true, asleep := false } }
  let s7 := (s6.set RST_STORM_COUNT (if kind = 4 then recent.length else 0)).setIf esc RST_STORM_ESC 1
  let s8 := if esc then s7.raise 10 0 else s7
  let s9 := (if zok then (s8.raiseC 269 1 6).emit (.ball "ZONE_OK" 0 0) else s8).emit (.ball "SYS_READY" 0 0)
  let s10 := if kind = 4 then s9 else (s9.trxAfter)
  (if kind = 4 then s10 else s10.vcoreFollow).emit (.ball "XSPI_CS_N" 0 1)

end Sys2Proof.Machine
end

