-- ==== Sys2Proof/Machine/Power.lean ====
section
/-! DEFINITION. Supplies, the backup domain, the reset kinds as they are asked for, and bring-up to fully ready (R530 to R556), with the
conditions of ZONE_OK and the wake reports (R324 to R326, R333, R334). -/

namespace Sys2Proof.Machine

open Sys2Proof

/-! ### The backup domain (R537 to R540) -/

/-- R70, R537: an event of the backup domain: it enters the EVR, or is kept with its stamp until the EVR runs. -/
def State.backRaise (s : State) (cause : Nat) : State :=
  let w := causeWord cause (s.get PWR_BAKSTAT_VBAKMIN)
  if s.pow.coreUp then s.raise 3 w
  else { s with pow := { s.pow with backLog := s.pow.backLog ++ [(3, w, { ns := s.backupNow })] } }

/-- R562: VBAKMIN follows the lowest VDD_BAK, in mV. -/
def State.backMin (s : State) (mv : Nat) : State := if mv < s.get PWR_BAKSTAT_VBAKMIN then s.set PWR_BAKSTAT_VBAKMIN mv else s

/-- R537: the switch to VBAK, counted and recorded. -/
def State.toVbak (s : State) : State :=
  if s.on PWR_STAT_MAIN then ((s.set PWR_STAT_MAIN 0).inc PWR_BAKSTAT_SWITCHES).backRaise 1 else s

/-- R537: VBAT has stayed below 4.5 V for 20 µs: the arbiter selects VBAK. -/
def execBackupToVbak (s : State) : Host.Outcome State Fault Refusal := done s.toVbak

/-- R537: VBAT has stayed at or above 5.0 V for 50 µs: the arbiter selects the VBAT rail. -/
def execBackupToVbat (s : State) : Host.Outcome State Fault Refusal := done (s.set PWR_STAT_MAIN 1)

/-- R538: VDD_BAK has stayed below 2.0 V for 5 µs; `mv` is the lowest value it had. -/
def execBackupContinuityLoss (mv : Nat) (s : State) : Host.Outcome State Fault Refusal := done ((s.backMin mv).set PWR_BAKSTAT_CONT 0)

/-- R539: VDD_BAK has stayed below 1.6 V for 10 µs: every field of the backup domain takes its value for after backup POR, and the records are lost (R541 for
GTB_VALID, R558 for the event). -/
def execBackupPor (s : State) : Host.Outcome State Fault Refusal :=
  let was := s.on GTB_STAT_GTB_VALID
  let s1 := s.restore (fun k => keyKind k == kindCode .K)
  let s2 : State := { s1 with evr := { s1.evr with persist := [], commit := false, areaA := {}, areaB := {} }, pow := { s1.pow with gtbRec := (0, 0, false), ticks := 0, recB := false, backLog := [] } }
  let s3 := s2.backRaise 5
  done (if was then (if s3.pow.coreUp then s3.raise 22 0
    else { s3 with pow := { s3.pow with backLog := s3.pow.backLog ++ [(22, 0, { ns := s3.backupNow })] } }) else s3)

/-- R540: a tick of the backup oscillator: it is counted, and while the mixed-signal die is powered the GTB island writes a record, alternately into copy A and copy B, unless VDD_BAK, `mv`,
lies below 2.1 V. A write that ends with a bad CRC leaves the other copy standing. A due commit of the persistent event area is written too. -/
def execBackupGtbRecord (mv : Nat) (crcOk : Bool) (s : State) : Host.Outcome State Fault Refusal :=
  let s0 : State := { s with pow := { s.pow with ticks := s.pow.ticks + 1 } }
  let s1 := (s0.backMin mv).persistCommit { mv := mv, first := crcOk, second := crcOk }
  if !s1.pow.msUp || decide (mv < 2100) then done s1
  else
    let b := !s1.pow.recB
    let copy := if b then PWR_BAKSTAT_RECB else PWR_BAKSTAT_RECA
    if crcOk then
      let s2 : State := { s1 with pow := { s1.pow with gtbRec := (s1.nowNs, s1.pow.ticks, s1.on GTB_STAT_GTB_VALID), recB := b } }
      done ((s2.set copy 1).set PWR_BAKSTAT_CONT 1)
    else done (({ s1 with pow := { s1.pow with recB := b } } : State).set copy 0)

/-- R539, R558: VBAK measured, in 20 mV: below 2.5 V while VBAT is present BAKLOW is set, and source 3 with cause 2 raised as it falls. -/
def execVbakLow (v : Fin 256) (s : State) : Host.Outcome State Fault Refusal :=
  let s1 := s.set PWR_STAT_VBAK v
  if !s.pow.vbat then done s1
  else if 125 ≤ v.val then done (s1.set PWR_STAT_BAKLOW 0)
  else if s.on PWR_STAT_BAKLOW then done s1
  else done ((s1.set PWR_STAT_BAKLOW 1).backRaise 2)

/-! ### VBAT (R530 to R532) -/

/-- R616: the balls whose driver has lost its supply: high impedance is 2, for a DAC output 2^12. -/
def State.ballsOff (s : State) (sleep : Bool) : State :=
  let s1 := s.each (List.range 24) (fun t j => (t.pwmBall j false 0 2).pwmBall j true 0 2)
  let s2 := s1.each (List.range 4) (fun t n => ((t.emit (.ball "GTB_OUT" n 2)).emit (.ball "SD_CLK" n 2)).emit (.ball "DAC_OUT" n (2 ^ 12)))
  (((s2.perstDrive 2).emit (.ball "ZONE_OK" 0 0)).emit (.ball "SYS_READY" 0 (if sleep then 0 else 2))).emit (.ball "XSPI_CS_N" 0 2)

/-- The core die and the mixed-signal die lose their supplies: links are down, ZONE_OK reads low (R34, R531, R616). -/
def State.diesOff (s : State) (sleep : Bool) : State :=
  let s1 := ((s.ballsOff sleep).each (List.range 18) (fun t p => t.linkDown p)).set CRS_ZOK_LEVEL 0
  { s1 with pow := { s1.pow with coreUp := false, msUp := false, coreBeat := false }, due := [] }

/-- R531: VBAT has stayed below 4.5 V for 20 µs. -/
def execVbatLoss (s : State) : Host.Outcome State Fault Refusal :=
  if !s.pow.vbat then done s
  else
    let s1 := (s.diesOff false).toVbak
    done { s1 with pow := { s1.pow with vbat := false, asleep := false } }

/-- R531: VBAT has stayed at or above 6.0 V for 100 µs after a loss: a power-on reset starts. -/
def execVbatValid (s : State) : Host.Outcome State Fault Refusal :=
  if s.pow.vbat then done s
  else
    let s1 : State := { s with pow := { s.pow with vbat := true } }
    done (s1.resetKind 2 1)

/-- R532: VBAT, in 0.2 V, lies from 4.5 V to 8.0 V. -/
def execVbatLow (v : Fin 256) (s : State) : Host.Outcome State Fault Refusal :=
  if !s.pow.vbat || decide (40 ≤ v.val) then done s
  else
    let s1 := (s.set PWR_STAT_VBAT v).set PWR_STAT_VBATHI 0
    if s.on PWR_STAT_VBATLO then done s1 else done (((s1.set PWR_STAT_VBATLO 1).raiseC 2 1 v).vcoreFollow)

/-- R532: VBAT rises above 8.0 V again: VBATLO clears, and eNVM programming goes on. -/
def State.vbatBack (s : State) (v : Nat) : State :=
  if s.on PWR_STAT_VBATLO then (((s.set PWR_STAT_VBATLO 0).set PWR_STAT_NVMHOLD 0).raiseC 2 3 v).vcoreFollow else s

/-- R530: VBAT lies above 16 V. -/
def execVbatHigh (v : Fin 256) (s : State) : Host.Outcome State Fault Refusal :=
  if !s.pow.vbat || decide (v.val ≤ 80) then done s
  else
    let s1 := (s.set PWR_STAT_VBAT v).vbatBack v
    if s.on PWR_STAT_VBATHI then done s1 else done ((s1.set PWR_STAT_VBATHI 1).evrTake.raiseC 2 2 v)

/-- R530, R532: VBAT lies from 8.0 V to 16 V again. -/
def execVbatNormal (v : Fin 256) (s : State) : Host.Outcome State Fault Refusal :=
  if !s.pow.vbat || decide (v.val < 40) || decide (80 < v.val) then done s
  else
    let s1 := s.set PWR_STAT_VBAT v
    if s.on PWR_STAT_VBATHI then done (((s1.set PWR_STAT_VBATHI 0).raiseC 2 3 v).vbatBack v) else done (s1.vbatBack v)

/-! ### The core supply (R536) -/

/-- R536: every millisecond: core-die Tj in 0.1 °C; in mode 0b01 the set point falls above TLIM and rises below TLIM − 5 °C. -/
def execVcoreThermalStep (tj : Int) (s : State) : Host.Outcome State Fault Refusal :=
  let s1 := s.setS PWR_TEMP_TJ tj
  let lim : Int := 10 * (min 125 (max 85 (s.get PWR_VCORE_TLIM)) : Nat)
  let p := s1.pow
  if s.get PWR_VCORE_MODE ≠ 1 ∨ (s.cmp.booted.isNone && s.pow.bringUp.any (fun k => decide (k < 4))) = true then done s1
  else if lim < tj then
    if p.lower < s.vcoreTarget then
      let s2 : State := { s1 with pow := { p with lower := p.lower + 1, hot := true } }
      done ((if p.hot then s2 else s2.raiseC 8 1 (ofS 16 tj)).vcoreFollow)
    else done s1
  else if tj ≤ lim - 50 then
    let s2 : State := { s1 with pow := { p with lower := p.lower - 1, hot := false } }
    done ((if p.hot then s2.raiseC 8 2 (ofS 16 tj) else s2).vcoreFollow)
  else done s1

/-! ### The resets as they are asked for (R542 to R546) -/

/-- R542: a power-on reset; its source is VBAT valid after a loss, the end of sleep, or VDD_CORE below 0.64 V. -/
def execPowerOnReset (src : Fin 16) (s : State) : Host.Outcome State Fault Refusal :=
  if s.pow.vbat && [1, 2, 3].contains src.val then done (s.resetKind 2 src) else done s

/-- R21, R34: VDD_CORE falls below 0.64 V: the core die is held in its power-on reset and stops with all it holds. The mixed-signal die runs on: its comparators still
trip, and the PWM pairs go to their safe states when the control lane falls silent (R20). The power-on reset of POWER_ON_RESET follows once VDD_CORE is back. -/
def execVddCoreCollapse (s : State) : Host.Outcome State Fault Refusal := if s.alive then done s.coreDown else done s

/-- R542: a cold reset, by RESET_N, RESET_REQ or the reset storm. -/
def execColdReset (src : Fin 16) (s : State) : Host.Outcome State Fault Refusal :=
  if s.alive && [4, 5, 8].contains src.val then done (s.resetKind 3 src) else done s

/-- R542: a warm reset, by RESET_N, RESET_REQ, an update command or a debug ndmreset. -/
def execWarmReset (src : Fin 16) (s : State) : Host.Outcome State Fault Refusal :=
  if s.alive && [4, 5, 6, 7].contains src.val then done (s.resetKind 4 src) else done s

/-- R542: the debug module asks for an ndmreset. -/
def execDebugNdmreset (s : State) : Host.Outcome State Fault Refusal := if s.alive && s.dbgOpen then done (s.resetKind 4 7) else done s

/-- R544: a low pulse on RESET_N is accepted: the reset that PINKIND names, held while the pin stays low. In sleep the dies start unpowered. -/
def execResetPinAssert (s : State) : Host.Outcome State Fault Refusal :=
  if !s.pow.vbat || s.pow.pin then done s
  else
    let kind := if !s.pow.coreUp then 2 else if !s.pow.settings || s.on RST_CFG_PINKIND then 3 else 4
    let s1 := s.resetKind kind 4
    done { s1 with pow := { s1.pow with pin := true } }

/-- R544: RESET_N has been high for 10 µs. -/
def execResetPinRelease (s : State) : Host.Outcome State Fault Refusal := done { s with pow := { s.pow with pin := false } }

/-! ### The mixed-signal die's supply returns (R543) -/

/-- R543: a domain reset of PD_MS to PD_PCIE, and the GTB restored; `failed` lists the items whose calibration or test has failed, `cals` what the calibrations have
measured. An oscillator on the RC source stays there (R25). -/
def execMsSupplyReturn (failed : List (Fin 177)) (cals : List (Nat × Nat × Nat)) (s : State) : Host.Outcome State Fault Refusal :=
  if s.pow.msUp || !s.alive then done s
  else
    let s1 : State := { s with pow := { s.pow with msUp := true } }
    let ds := 13 :: (List.range 8).filterMap (fun k => if bitOf (s.get PWR_DOMCTL_RUN) k then some (14 + k) else none)
    let s2 := (s1.each ds (fun t d => t.setBit PWR_DOMSTAT_UP d true)).islands
    let s3 := ((((s2.each ds State.domainReset).gtbRestore false).set SYS_CLKSTAT_XTAL_OK (b2n (!s.gtb.rc))).each (ds.flatMap domainBlocks) (fun t i => t.calClear i)).each
      (cals.filter (fun c => (itemDomain c.1).any (fun d => ds.contains d))) (fun t c => t.calSet (!(failed.map Fin.val).contains c.1) c)
    done (s3.each ((failed.map Fin.val).filter (fun i => (itemDomain i).any (fun d => ds.contains d))) (fun t i => t.markItem i 1))

/-! ### Bring-up (R551 to R556, R575, R576) -/

/-- Whether the part carries self-test item `i` and its domain is on. -/
def State.itemHere (s : State) (i : Nat) : Bool :=
  (if i < 119 then blockCarried s.part i
  else if i < 128 then false
  else if i < 136 then decide (i - 128 < 2 * nPair s.part)
  else if 140 ≤ i ∧ i < 158 then hasPort s.part (i - 140)
  else decide (i < 177)) &&
  (match itemDomain i with | none => true | some d => s.domainUp d)

/-- R551, step 8: the items that calibrate: PWM pairs and ports, and after a cold or power-on reset the converters; number 255 stands for the trim of the
reference oscillator. -/
def calItems (warm : Bool) : List Nat :=
  (List.range 24).map (· + 16) ++ (List.range 18).map (· + 140) ++ (if warm then [] else List.range 8 ++ [255])

/-- R575: the tests of a bring-up by item; 177 stands for the eNVM, 178 for the L2. -/
def testItems (warm : Bool) : List Nat :=
  [86, 113] ++ (List.range 18).map (· + 140) ++
  (if warm then [] else List.range 8 ++ (List.range 24).map (· + 16) ++ (List.range 32).map (· + 40) ++ (List.range 12).map (· + 72) ++ [85] ++
    (List.range 16).map (· + 87) ++ (List.range 12).map (· + 128) ++ (List.range 19).map (· + 158) ++ [177, 178])

/-- Whether this bring-up follows a warm reset. -/
def State.warmUp (s : State) : Bool := s.pow.bringUp == some 4

/-- Whether a calibration or test of item `i` is one of this bring-up: carried, powered, not unusable. -/
def State.itemDue (s : State) (i : Nat) : Bool := decide (176 < i) || (s.itemHere i && !s.marked i)

/-- R553: every calibration and every power-up test has ended. -/
def State.bringUpOver (s : State) : Bool :=
  (calItems s.warmUp).all (fun i => s.pow.calDone.contains i || !s.itemDue i) &&
  (testItems s.warmUp).all (fun i => s.pow.testDone.contains i || !s.itemDue i)

/-- R551, R554: a calibration ends; `none` is the trim of the reference oscillator. `cal` is what it has measured: of a converter gain and offset, of a port the stamp
correction of its PHY. -/
def execCalibrationDone (item : Option (Fin 177)) (ok : Bool) (cal : Nat × Nat) (s : State) : Host.Outcome State Fault Refusal :=
  let i := match item with | some k => k.val | none => 255
  if s.pow.bringUp.isNone || !(calItems s.warmUp).contains i || s.pow.calDone.contains i || !s.itemDue i then done s
  else
    let s0 : State := { s with pow := { s.pow with calDone := i :: s.pow.calDone } }
    let s1 := s0.calSet ok (i, cal)
    done (if ok || i = 255 then s1 else s1.markItem i 1)

/-- R575, one copy of the PSC logic or of a checker fails: the block runs on with the other. -/
def State.oneCopy (s : State) (i : Nat) (b : Bool) : State :=
  let u := (if i = 85 then 20 else 22 + 2 * (i - 158)) + b2n b
  ((s.set (STE_USTAT_STATE u) 3).setBit (STE_UNUSE_ITEMS (i / 32)) (i % 32) true).degrade

/-- R575: what the end of the test of item `i` leaves. -/
def State.testEnded (s : State) (i : Nat) (e : TestEnd) : State :=
  match e with
  | .pass => s
  | .skip => ((s.set STE_STAT_PUSKIP 1).raiseC 307 0 (s.get STE_COND_TJ * 4 + s.get STE_COND_OSC * 2 + s.get STE_COND_VCORE))
  | .oneCopy b => if i = 85 ∨ (158 ≤ i ∧ i < 176) then s.oneCopy i b else s
  | .fail =>
    if i = 177 then s.raise 313 0
    else if i = 178 then s.each (s.harts.map (· + 128)) (fun t k => t.markItem k 1)
    else if i = 85 ∨ (158 ≤ i ∧ i < 176) then ((s.oneCopy i false).oneCopy i true).raiseC 304 1 i
    else s.markItem i 1

/-- R575, R576: a power-up test ends: 177 is the eNVM's, 178 the L2's. A CAN controller whose EN has been written starts now. -/
def execPowerupTestDone (item : Fin 179) (e : TestEnd) (s : State) : Host.Outcome State Fault Refusal :=
  let i := item.val
  if s.pow.bringUp.isNone || !(testItems s.warmUp).contains i || s.pow.testDone.contains i || !s.itemDue i then done s
  else
    let s1 : State := { s with pow := { s.pow with testDone := i :: s.pow.testDone } }
    let s2 := s1.testEnded i e
    let c := i - 87
    let s3 := if 87 ≤ i ∧ i < 103 ∧ s2.on (CAN_CTL_EN c) ∧ s2.get (CAN_STAT_STATE c) = 0 ∧ s2.unusable i = false then s2.canStart c else s2
    done (s3.setIf ((testItems s3.warmUp).all (fun k => s3.pow.testDone.contains k || !s3.itemDue k)) STE_STAT_PUDONE 1)

/-- R218, R551 step 7, R543: with the mirrors loaded, CAN-ready after `t` × 10 µs: the reset is reported, and the records of the backup domain enter the EVR (R70, R537). -/
def execCanReady (t : Nat) (s : State) : Host.Outcome State Fault Refusal :=
  if s.pow.bringUp.isNone || s.pow.pin || s.get SYS_READY_STAGE != 1 || s.on MBX_GSTAT_RECOVERY || !s.mirrorsReady then done s
  else
    let s1 := (s.set SYS_READY_STAGE 2).set SYS_READYT_TCAN (satU 16 t)
    done (s1.bootReport.raiseC 1 2 (satU 16 t)).readyBall

/-- R554: an item is marked unusable; the marks outlast a warm reset (R583). -/
def State.anyMarked (s : State) : Bool := (List.range 6).any (fun k => s.get (STE_UNUSE_ITEMS k) != 0)

/-- R551 step 8, R553, R554, R555, R557: fully ready after `t` × 10 µs; `peer` says on a twin that the other half is active. -/
def execFullyReady (t : Nat) (peer : Bool) (s : State) : Host.Outcome State Fault Refusal :=
  if s.pow.bringUp.isNone || s.get SYS_READY_STAGE != 2 || !s.bringUpOver then done s
  else
    let s0 := s.setIf s.anyMarked SYS_READY_DEGRADED 1
    let s1 := (s0.set SYS_READY_STAGE 3).set SYS_READYT_TFULL (satU 16 t)
    let s2 : State := { s1 with pow := { s1.pow with bringUp := none } }
    let s3 := if isTwin s.part then (s2.set SYS_TWIN_ROLE (if peer then 2 else 1)).each (List.range 24) State.pwmDrive else s2
    done (s3.raiseC 1 3 (s0.get SYS_READY_DEGRADED * 2 ^ 23 + satU 16 t)).readyBall

/-! ### ZONE_OK (R333, R334) -/

/-- R333: what must hold beside the request. -/
def State.zoneMay (s : State) : Bool :=
  s.get SYS_READY_STAGE == 3 && s.pow.coreBeat && s.pow.msUp && s.pow.coreUp && s.get CRS_STAT_STATE != 5

/-- R334: CRS_ZOK.REQ is written 1. -/
def State.zoneRequest (s : State) : State := if s.zoneMay then s.zoneHigh else s

/-- R334. -/
def execZoneOkRequest (s : State) : Host.Outcome State Fault Refusal := done s.zoneRequest

/-- R333: CRS_ZOK.DROP is written 1. -/
def execZoneOkDrop (s : State) : Host.Outcome State Fault Refusal := done (s.zoneLow 1)

/-- R333: WDT ms have passed without a REQ write. -/
def execZoneOkWatchdog (s : State) : Host.Outcome State Fault Refusal := done (s.zoneLow 2)

/-! ### Sleep and wake (R323 to R326) -/

/-- R326: a waking bus recorded: the first one opens a wake, the others are added. -/
def State.wakeRecord (s : State) (b : Nat) : State :=
  if s.crs.window then s.setBit CRS_WAKEBUS_BUSES b true
  else
    let s1 := (((s.addWrap CRS_WAKE_COUNT 1).set CRS_WAKE_CONF 0).set CRS_WAKE_FALSE 0).set CRS_WAKE_FIRST b
    { s1.set CRS_WAKEBUS_BUSES (2 ^ b) with crs := { s1.crs with window := true, confirmed := 0 } }

/-- R323: bus `b` sleeps with wake detection on. -/
def State.wakeDetect (s : State) (b : Nat) : Bool :=
  if b < 16 then decide (s.get (CAN_TRXCTL_MODE b) = 2) && s.on (CAN_TRXCTL_WAKEEN b)
  else if b < 24 then decide (s.get (LIN_CTL_TRXMODE (b - 16)) = 2) && s.on (LIN_CTL_WAKEEN (b - 16))
  else s.wakeBus b

/-- R324 to R326: bus `b` reports a wake: in sleep bring-up starts; between the sleep of the transceivers and the switch-off the report is held; in the bring-up of a
wake it is one more waking bus. -/
def execWakeReport (b : Fin 40) (s : State) : Host.Outcome State Fault Refusal :=
  if s.pow.asleep then
    if s.pow.vbat && s.wakeDetect b then done ((s.wakeRecord b).resetKind 2 2) else done s
  else if s.pow.vbat && s.get CRS_STAT_STATE == 5 && s.wakeDetect b then done (s.wakeRecord b)
  else if s.crs.window && s.pow.bringUp.isSome && decide (s.get SYS_READY_STAGE < 2) then done (s.wakeRecord b)
  else done s

/-- R323 step 4: the interface die switches the core and the mixed-signal die off; a held report starts bring-up at once (R324). -/
def execSleepCorePowerOff (s : State) : Host.Outcome State Fault Refusal :=
  if s.get CRS_STAT_STATE ≠ 5 ∨ !s.pow.coreUp then done s
  else
    let s1 := s.diesOff true
    let s2 : State := { s1 with pow := { s1.pow with asleep := true } }
    done (if s2.crs.window then s2.resetKind 2 2 else s2)

end Sys2Proof.Machine
end

