-- ==== Sys2Proof/Machine/Arch.lean ====
section
/-! DEFINITION. The module as a whole: heartbeats, the control lane, the core supply, the crystal, the loss of the mixed-signal die's supply, and the twin
(R19 to R21, R25, R34 to R39). -/

namespace Sys2Proof.Machine

open Sys2Proof

/-! ### Heartbeats and the control lane (R19, R20) -/

/-- The core die runs: supplied, and not stopped by scan (R580). -/
def State.coreRuns (s : State) : Bool := s.alive && !s.cmp.scan

/-- R19: the forced passive state of every transceiver set or released (R297). -/
def State.forceTrx (s : State) (f : Bool) : State :=
  (s.each (List.range 16) (fun t c => (t.set (CAN_TRXSTAT_FORCED c) (b2n f)).canTrx c)).each (List.range 8) (fun t l => t.set (LIN_STAT_FORCED l) (b2n f))

/-- R19: the core die sends a heartbeat over the supply control link; with the first one after a loss the transceivers follow their selection again. -/
def execSupplyLinkHeartbeat (s : State) : Host.Outcome State Fault Refusal :=
  if !s.coreRuns then done s
  else
    let s1 := s.emit (.link "SUPPLY_HEARTBEAT" [])
    if s.pow.coreBeat then done s1
    else
      let s2 : State := { s1 with pow := { s1.pow with coreBeat := true } }
      done (s2.forceTrx false).readyBall

/-- R19, R555, R616: two heartbeats are missing: ZONE_OK low with cause 3, the transceivers passive, the Ethernet and PCIe links down, SYS_READY low. -/
def State.beatLost (s : State) : State :=
  let s0 : State := { s with pow := { s.pow with coreBeat := false } }
  let s1 := ((s0.zoneLow 3).forceTrx true).each (List.range 18) (fun t p => t.linkDown p)
  ((if s1.on PCIE_STAT_LINKUP then s1.linkLost else s1).perstDrive 0).emit (.ball "SYS_READY" 0 0)

/-- R19. -/
def execInterfaceHeartbeatLoss (s : State) : Host.Outcome State Fault Refusal := if s.pow.coreBeat then done s.beatLost else done s

/-- R20: 250 ns without a transfer on the control lane: the core die sends an idle handshake, and the lane is alive. -/
def execControlLaneIdleHandshake (s : State) : Host.Outcome State Fault Refusal :=
  if !s.coreRuns then done s
  else
    done (s.laneAlive.emit (.link "LANE_IDLE" []))

/-- R20: 1 µs without a handshake while a PWM pair is enabled: every enabled pair goes to its safe state. -/
def State.laneLoss (s : State) : State :=
  if (List.range 24).any (fun j => s.on (PWM_CTL_EN j)) && !s.conv.laneLost then
    ({ s with conv := { s.conv with laneLost := true } } : State).tripAll 34
  else s

/-- R20. -/
def execControlLaneLoss (s : State) : Host.Outcome State Fault Refusal := done s.laneLoss

/-! ### The core supply and the crystal (R21, R25 to R27) -/

/-- R21: VDD_CORE has stayed below 0.69 V for 2 µs. -/
def execCoreSupplyLapse (s : State) : Host.Outcome State Fault Refusal :=
  done (((s.set SYS_CORESTAT_LAPSE 1).set SYS_CORESTAT_BELOW 1).raise 4 (s.get SYS_CORESTAT_VCORE))

/-- R26: VDD_CORE measured, in mV. -/
def execVcoreMeasure (millivolt : Nat) (s : State) : Host.Outcome State Fault Refusal :=
  done ((s.set SYS_CORESTAT_VCORE (min 255 ((millivolt - 600) / 2))).set SYS_CORESTAT_BELOW (b2n (decide (millivolt < 690))))

/-- R25, R50: the reference oscillator switches to the RC source: the Ethernet, USXGMII and PCIe islands hold their links down, and the GTB enters holdover. -/
def execXtalFallback (s : State) : Host.Outcome State Fault Refusal :=
  if s.gtb.rc then done s
  else
    let s0 : State := { s with gtb := { s.gtb with rc := true } }
    let s1 := (((s0.set SYS_CLKSTAT_XTAL_OK 0).set SYS_CLKSTAT_FALLBACK 1).raise 5 0).each (List.range 18) (fun t p => t.linkDown p)
    let s2 := if s1.on PCIE_STAT_LINKUP then s1.linkLost else s1
    done (s2.enterHoldover).refreshQual

/-! ### The mixed-signal die (R34) -/

/-- R34: the mixed-signal die's supply is lost: its domains are gone, the core die raises source 6 and drives ZONE_OK low; half A of a twin reports it (R35). -/
def execMsSupplyLoss (s : State) : Host.Outcome State Fault Refusal :=
  if !s.pow.msUp then done s
  else
    let s1 := ((s.zoneLow 4).raise 6 0).twinReport 2
    let s2 := s1.each ((List.range 8).map (· + 14)) (fun t d => if t.domainUp d then t.domainGone d else t)
    let s3 := ((s2.gtbReset).setBit PWR_DOMSTAT_UP 13 false).islands
    let s4 := (s3.set SYS_CLKSTAT_XTAL_OK 0).each (List.range 4) (fun t n => ((t.emit (.ball "GTB_OUT" n 2)).emit (.ball "SD_CLK" n 2)).emit (.ball "DAC_OUT" n (2 ^ 12)))
    done { s4 with pow := { s4.pow with msUp := false }, due := [] }

/-! ### The twin (R35 to R38) -/

/-- A pair of engines that is protected on the twin (R181, R572). -/
def State.protectedPairs (s : State) : List Nat := ((List.range 6).map (· * 2)).filter (fun e => s.tgPaired e && s.on (TG_PCTL_PROT e))

/-- R35, R38: the cause that the next mirror frame carries: a failure first, a handoff once the iteration of each protected pair that ran at the write has ended. -/
def State.twinCause (s : State) : Nat :=
  if bitOf s.pow.twin 1 then 1 else if bitOf s.pow.twin 2 then 2 else if bitOf s.pow.twin 3 ∧ s.pow.handWait = 0 then 3 else 0

/-- R35, R38: half A sends a mirror frame with what it has to report. -/
def execMirrorFrameSend (s : State) : Host.Outcome State Fault Refusal :=
  if s.part ≠ .twinA ∨ s.alive = false then done s
  else
    let c := s.twinCause
    let s1 := s.emit (.link "MIRROR_FRAME" [c])
    done (if c = 0 then s1 else { s1 with pow := { s1.pow with twin := clrBit s1.pow.twin c, handed := s1.pow.handed || c == 3 } })

/-- Half B stands by with takeover armed (R35). -/
def State.twinArmed (s : State) : Bool := s.part == .twinB && s.on SYS_TWIN_ARMED && s.get SYS_TWIN_ROLE == 2

/-- R36, R38, R270, R301: in half A the takeover line disables the output stages, in a handoff each at its pair's next period start. Half B takes over: the takeover line
(2 in a handoff), the second command ports of half A's power dies, the switch with its recovery functions started anew, CAN out of listen-only; its PWM stages follow pair by
pair. Half A's SYS_TWIN.ROLE keeps 0b01 until its next reset (DESIGN CHOICE, log entry 121). -/
def State.takeOver (s : State) (hand : Bool := false) : State :=
  if s.part = .twinA then
    if s.pow.handed then { s with pow := { s.pow with takeover := 2 ^ 24 - 1 } }
    else ({ s with pow := { s.pow with cut := 2 ^ 24 - 1 } } : State).each (List.range 24) State.pwmDrive
  else if !s.twinArmed then s
  else
    let s0 : State := { s with pow := { s.pow with takeover := 2 ^ 24 - 1 }, esw := { s.esw with frer := {} } }
    let s1 := ((s0.raise 6 0).emit (.link "TAKEOVER_LINE" [if hand then 2 else 1])).emit (.link "POWER_DIE_PORT" [1])
    let s2 := (s1.set SYS_TWIN_ROLE 3).inc SYS_TWIN_TAKEOVERS
    s2.each (List.range 16) (fun t c =>
      let u := (t.set (CAN_CTL_LOM c) 0).canUpd c (fun x => { x with lom := false })
      if u.get (CAN_STAT_STATE c) = 6 then u.set (CAN_STAT_STATE c) (u.canLive c) else u)

/-- R36. -/
def execTakeover (s : State) : Host.Outcome State Fault Refusal := done s.takeOver

/-- R35: no valid mirror frame for 1 µs. -/
def execMirrorTimeout (s : State) : Host.Outcome State Fault Refusal :=
  if s.part = .twinB then done (s.set SYS_TWIN_MIRROR_OK 0).takeOver else done s

/-- R36, R38: the period of pair `j` starts: half B enables its output stages, and in a handoff half A disables its own. -/
def execTakeoverPwmEnable (j : Fin 24) (s : State) : Host.Outcome State Fault Refusal :=
  if !decide (j.val < nPwm s.part) then done s else
  if bitOf s.pow.takeover j then
    let p := s.pow
    let s1 : State := { s with pow := { p with takeover := putBit p.takeover j false, cut := if s.part = .twinA then putBit p.cut j true else p.cut } }
    done (s1.pwmDrive j)
  else done s

/-- R38: SYS_TWIN.HANDOFF is written 1 in the active half A: the current iteration of each protected pair is awaited. -/
def State.handoff (s : State) : State :=
  if s.get SYS_TWIN_ROLE = 1 then
    let w := (s.protectedPairs.filter (fun e => s.on (TG_STAT_BUSY e))).foldl Machine.setBit 0
    State.twinReport { s with pow := { s.pow with handWait := w } } 3
  else s

/-- R38. -/
def execTwinHandoff (s : State) : Host.Outcome State Fault Refusal := done s.handoff

end Sys2Proof.Machine
end

