-- ==== Sys2Proof/Machine/Ste.lean ====
section
/-! DEFINITION. The self-test engine: conditions, periodic slices, tests on request, scan (R563 to R584). -/

namespace Sys2Proof.Machine

open Sys2Proof

/-! ### Units (R565, R566) -/

/-- The item that unit `u` stands for (R574). -/
def unitItem (u : Nat) : Nat := if u < 8 then 128 + u else if u < 20 then 72 + (u - 8) else if u < 22 then 85 else 158 + (u - 22) / 2

/-- The lower unit of a block, and the other copy of a unit. -/
def unitLow (u : Nat) : Nat := u / 2 * 2
def unitPeer (u : Nat) : Nat := if u % 2 = 0 then u + 1 else u - 1

/-- R565, R572: a unit exists while its block runs paired: neither copy has failed. -/
def State.unitExists (s : State) (u : Nat) : Bool :=
  !s.copyFailed u && !s.copyFailed (unitPeer u) && !s.unusable (unitItem u) &&
  (if u < 8 then decide (u < 2 * nPair s.part) && s.joined u && s.domainUp (5 + u / 2) && !s.marked (128 + u) && !s.marked (128 + unitPeer u)
  else if u < 20 then decide (u - 8 < nTg s.part) && s.tgPaired ((u - 8) / 2 * 2)
  else true)

/-- R565, R570: whether the block of unit `u` can give a copy away now. -/
def State.unitReady (s : State) (u : Nat) : Bool :=
  if u < 8 then
    let n := u / 2
    s.pst n == 1 && (s.pair.get n).image.isSome && !(s.core.get (2 * n)).halted && !(s.core.get (2 * n + 1)).halted
  else if u < 20 then
    let e := (u - 8) / 2 * 2
    !s.on (TG_STAT_BUSY e) && !s.on (TG_PSTAT_ESC e) && !s.on (TG_PSTAT_REPLAY e)
  else true

/-- The units that exist. -/
def State.units (s : State) : List Nat := (List.range 58).filter s.unitExists

/-! ### A slice (R566, R571, R572) -/

/-- R566: a round is complete when every existing unit has passed once since the last one. -/
def State.roundCheck (s : State) : State :=
  if s.units.all s.ste.passed.contains then
    let s1 : State := { s with ste := { s.ste with passed := [] } }
    let s2 := s1.addWrap STE_ROUND_CNT 1
    s2.raise 311 (s2.get STE_ROUND_CNT % 65536)
  else s

/-- Unit `u` has passed a slice. -/
def State.unitPass (s : State) (u : Nat) : State :=
  let s1 : State := { s with ste := { s.ste with passed := u :: s.ste.passed, passNs := s.ste.passNs.put u (s.pow.refNs + 1) } }
  (s1.addWrap (STE_USTAT_PASSES u) 1).roundCheck

/-- R571: the first signature of unit `u` differs. -/
def State.unitRetest (s : State) (u : Nat) : State := (s.set (STE_USTAT_RETEST u) 1).raise 305 u

/-- R571, R572: the copy has failed: its item is marked, DEGRADED set; a protected engine pair of a twin hands control to half B. -/
def State.unitFail (s : State) (u : Nat) : State :=
  let i := unitItem u
  let s1 := ((s.set (STE_USTAT_STATE u) 3).inc STE_STAT_FAILS).setBit (STE_UNUSE_ITEMS (i / 32)) (i % 32) true
  let s2 := s1.degrade.raise 306 u
  if 8 ≤ u ∧ u < 20 ∧ s.on (TG_PCTL_PROT ((u - 8) / 2 * 2)) then s2.handoff else s2

/-- R563, R564: every 10 µs the conditions are evaluated; `rcOk` says that the STE measures the RC source within ±2 %. -/
def execSteConditionCheck (rcOk : Bool) (s : State) : Host.Outcome State Fault Refusal :=
  let v := s.get SYS_CORESTAT_VCORE
  let t := s.getS PWR_TEMP_TJ
  let vc := decide (80 ≤ v) && decide (v ≤ 120)
  let os := s.on SYS_CLKSTAT_XTAL_OK || rcOk
  let tj := decide (-400 ≤ t) && decide (t ≤ 1350)
  let ok := vc && os && tj
  let s1 := (((s.set STE_COND_VCORE (b2n vc)).set STE_COND_OSC (b2n os)).set STE_COND_TJ (b2n tj)).set STE_COND_OK (b2n ok)
  if ok then done { s1 with ste := { s1.ste with failNs := 0, told := false } }
  else
    let since := if s.ste.failNs = 0 then s.pow.refNs + 1 else s.ste.failNs
    let s2 := (({ s1 with ste := { s1.ste with failNs := since } } : State).each ((List.range 58).filter s1.inSlice) State.sliceDrop)
    if !s.ste.told && decide (since + max 1 (s.get STE_CTL_OVERDUE) * 1000000 ≤ s.pow.refNs + 1) then
      done (({ s2 with ste := { s2.ste with told := true } } : State).raise 307 (4 * b2n tj + 2 * b2n os + b2n vc))
    else done s2

/-- R566, R570: the period of a block has come: the slice of the copy whose turn it is starts, or waits. -/
def execSteSliceStart (u0 : Fin 58) (s : State) : Host.Outcome State Fault Refusal :=
  let u := u0.val
  if !s.on STE_CTL_EN || s.get SYS_READY_STAGE != 3 || !s.unitExists u || s.ste.next.get (unitLow u) != decide (u % 2 = 1) ||
    s.inSlice u || s.inSlice (unitPeer u) || s.idling 118 || s.cmp.scan then done s
  else if !s.on STE_COND_OK || !s.unitReady u then done (s.set (STE_USTAT_STATE u) 2)
  else
    let s1 := ((s.set (STE_USTAT_STATE u) 1).set (STE_USTAT_RETEST u) 0).addWrap STE_STAT_ACTIVE 1
    let s2 : State := { s1 with ste := { s1.ste with next := s1.ste.next.put (unitLow u) (decide (u % 2 = 0)) } }
    done (if u < 8 then s2.soloBegin u else s2)

/-- R571: the slice ends with its signature as expected or not. -/
def execSteSliceEnd (u : Fin 58) (ok : Bool) (s : State) : Host.Outcome State Fault Refusal :=
  if !s.inSlice u then done s
  else if ok then done (((s.sliceOver u 0).unitRejoin u).unitPass u)
  else if s.on (STE_USTAT_RETEST u) then done ((s.sliceOver u 0).unitFail u)
  else done (s.unitRetest u)

/-! ### Tests on request (R578, R579) -/

/-- What a run-time test needs: its item, whether its operand is defined, and whether its precondition holds. -/
structure RunTest where
  item : Nat
  known : Bool
  pre : Bool

/-- R578: the tests of codes 0x10 to 0x32. -/
def State.runTest (s : State) (code o : Nat) : RunTest :=
  let here (i : Nat) : Bool := s.itemHere i
  if code = 0x10 then { item := 128 + o, known := decide (o < 8) && here (128 + o), pre := !s.joined o }
  else if code = 0x11 then
    { item := 72 + o, known := decide (o < 12) && here (72 + o), pre := s.tgCopies (o / 2 * 2) == [o / 2 * 2] && !s.on (TG_CTL_RUN o) && !s.on (TG_STAT_BUSY o) }
  else if code = 0x20 then
    { item := o % 8, known := decide (o &&& 0x307 = o) && here (o % 8), pre := !s.on (ADC_CTL_EN (o % 8)) && !s.on (DAC_CTL_EN (o / 256)) }
  else if code = 0x21 then
    { item := 40 + o % 32, known := decide (o &&& 0x31F = o) && decide (o % 32 < 24) && here (40 + o % 32)
      pre := !s.on (CMP_CTL_EN (o % 32)) && !s.on (DAC_CTL_EN (o / 256)) }
  else if code = 0x22 then { item := 176, known := true, pre := true }
  else if code = 0x30 then { item := 140 + o, known := decide (o < 18) && here (140 + o), pre := !s.on (EPORT_PHYCFG_PHYEN o) }
  else if code = 0x31 then { item := 87 + o, known := decide (o < 16) && here (87 + o), pre := !s.on (CAN_CTL_EN o) }
  else if code = 0x32 then { item := 16 + o, known := decide (o < 24) && here (16 + o), pre := !s.on (PWM_CTL_EN o) }
  else { item := 0, known := false, pre := false }

/-- R578, R579: a slice asked for: `flaky` passes at the retest, `bad` fails it. -/
def State.askedSlice (flaky bad : List Nat) (s : State) (u : Nat) : State :=
  if bad.contains u then
    let s1 := s.unitRetest u
    (if u < 8 then s1.soloBegin u else s1).unitFail u
  else (if flaky.contains u then s.unitRetest u else s.set (STE_USTAT_RETEST u) 0).unitPass u

/-- R578: a test has completed: its result, and source 309. -/
def testDone (s : State) (code : Nat) (pass : Bool) (sig : Nat) : CmdRes :=
  { s := s.raise 309 (code % 256 * 256 + b2n pass), res := [b2n pass, sig % 2 ^ 32] }

/-- R579: a failed test marks its item; a split core that fails stays stopped. -/
def State.testFail (s : State) (code i : Nat) : State :=
  let s1 := s.markItem i 2
  if code = 0x10 then (s1.coreSet (i - 128) (fun k => { k with stopped := true })).wstat (i - 128) else s1

/-- R570, R578, R579: ST_RUN; it waits while a unit that it needs is in a slice. The outcome is an input: units that pass at the retest, units that fail it, whether another test passes, and the signature or
the deviation. -/
def execStRun (m : Fin 8) (flaky bad : List Nat) (ok : Bool) (sig : Nat) (s : State) : Host.Outcome State Fault Refusal :=
  let code := s.arg m 0
  let o := s.arg m 1
  if (code = 1 ∧ s.inSlice o) ∨ (code = 2 ∧ (List.range 58).any s.inSlice) then done s
  else
    s.command m 0x53 0x1E true false (fun s =>
      if code = 1 then
        if 58 ≤ o then CmdRes.fail s errARG
        else if !s.unitExists o then CmdRes.fail s errBUSY
        else if !s.on STE_COND_OK then CmdRes.fail s errORDER
        else testDone (s.askedSlice flaky bad o) code (!bad.contains o) sig
      else if code = 2 then
        if !s.on STE_CTL_EN then CmdRes.fail s errBUSY
        else if !s.on STE_COND_OK then CmdRes.fail s errORDER
        else testDone (s.each s.units (State.askedSlice flaky bad)) code (!s.units.any bad.contains) sig
      else
        let t := s.runTest code o
        if !t.known then CmdRes.fail s errARG
        else if !t.pre then CmdRes.fail s errBUSY
        else if !s.on STE_COND_OK then CmdRes.fail s errORDER
        else testDone (if ok then s else s.testFail code t.item) code ok sig)

/-! ### Scan (R580, R581) -/

/-- R580: the secrets that SCAN_ENABLE clears in the MACsec key and salt registers. -/
def macKeys (k : Nat) : Bool := within (keyAddr k) 0x4310_0000 0x1_2000 && decide (0x400 ≤ keyAddr k % 0x1000) && decide (keyAddr k % 0x1000 < 0xD00) &&
  decide (0x14 ≤ keyAddr k % 0x40)

/-- R580: SCAN_ENABLE. Heartbeats and handshakes stop, and what follows from that follows in its own steps. -/
def execScanEnable (m : Fin 8) (s : State) : Host.Outcome State Fault Refusal :=
  s.command m 0x54 (if isTwin s.part then 0x12 else 0x16) true true (fun s =>
    if s.arg m 0 ≠ 0x5343_414E then CmdRes.fail s errARG
    else
      let s1 := s.raise 310 0
      let s2 := s1.each (List.range 8) (fun t c => (t.coreSet c (fun k => { k with stopped := true })).wstat c)
      let s3 := s2.each (List.range 12) (fun t e => (t.set (TG_CTL_RUN e) 0).tgFinish e)
      let s4 := (s3.restore macKeys).forget (fun a => within a 0x1000_0000 0x140_0000 || within a 0x2000_0000 0x30_0000)
      { s := { s4 with cmp := { s4.cmp with nonce := none, scan := true } } })

end Sys2Proof.Machine
end

