-- ==== Sys2Proof/Machine/Rgn.lean ====
section
/-! DEFINITION. Memories and region checkers as they are changed: error correction, the scrubber, regions, initiator groups, HANDOVER, and the restart of an
Inner world (R442 to R466, R511, R602). -/

namespace Sys2Proof.Machine

open Sys2Proof

/-! ### Error correction and the scrubber (R443, R444) -/

/-- What a read of a word at `a` finds, counted and reported; `init` is the initiator. A corrected word of SRAM is also written back, which the memory here
always shows. -/
def State.eccSee (s : State) (a init : Nat) (scrub : Bool) (e : EccObs) : State :=
  let chk := match checkerOf s.part a with
    | some (t, b) => if t ≤ 6 then (t, b) else (0x1E, a)
    | none => (0x1E, a)
  match e with
  | .clean => s
  | .parity => s.parityError init
  | .corrected => (s.inc (if chk.1 < 2 then RGN_ECCSTAT_CENVM else RGN_ECCSTAT_CESRAM)).raiseSum 312 0 1
  | x =>
    let ae := b2n (x == .addressError)
    let s1 := s.inc RGN_ECCSTAT_UE
    let s2 := if s.on RGN_EINFO_VALID then s1
      else (((((s1.set RGN_EINFO_VALID 1).set RGN_EINFO_ADDRERR ae).set RGN_EINFO_CHK chk.1).set RGN_EINFO_SCRUB (b2n scrub)).set RGN_EINFO_INIT init).set
        RGN_EADDR_ADDR (if chk.1 = 0x1E then 0 else a / 8 * 8)
    s2.raise 313 (chk.1 * 2 ^ 27 + ae * 2 ^ 26 + (a - chk.2) / 64 % 2 ^ 26)

/-- The lines of 64 bytes that a pass of the scrubber reads, and the address of line `k`. -/
def scrubLines (p : Part) (envm : Bool) : Nat := if envm then envmBank p * 2 / 64 else sramSize p / 64
def scrubAddr (p : Part) (envm : Bool) (k : Nat) : Nat :=
  if envm then (if k < envmBank p / 64 then k * 64 else 0x0100_0000 + (k - envmBank p / 64) * 64) else 0x1000_0000 + k * 64

/-- R443: the scrubber reads its next line of a memory; `e` is what it finds. The last line completes a pass. -/
def execScrubLine (envm : Bool) (e : EccObs) (s : State) : Host.Outcome State Fault Refusal :=
  if !s.on RGN_SCRUB_EN then done s
  else
    let k := if envm then s.scrub.2 else s.scrub.1
    let s1 := s.eccSee (scrubAddr s.part envm k) 0 true e
    let last := decide (scrubLines s.part envm ≤ k + 1)
    let n := if last then 0 else k + 1
    let s2 : State := { s1 with scrub := if envm then (s1.scrub.1, n) else (n, s1.scrub.2) }
    done (if last then s2.raiseC 318 0 (b2n envm) else s2)

/-! ### Regions and groups (R448, R450, R453 to R455) -/

/-- R450: whether a request may write slot `k` of checker `t`. -/
def State.slotOpen (s : State) (r : Req) (t k : Nat) : Bool := (decide (8 ≤ k) || r.id == 8) && !s.on (RGN_RCTL_LOCK t k)

/-- A held word of a region applied to its field (R453). -/
def State.applyHeld (s : State) (f : Fld) : State :=
  match s.held.get f.addr with
  | some v => ({ s with held := s.held.del f.addr } : State).set f v
  | none => s

/-- R453, R454: RGN_RCTL of a slot is written: the held words of the region apply with it. -/
def State.rctlWrite (s : State) (t k v : Nat) : State :=
  let s1 := (((s.applyHeld (RGN_RBASE_BASE t k)).applyHeld (RGN_RLIM_LIMIT t k)).applyHeld (RGN_RPI_PERM t k)).applyHeld (RGN_RPO_PERM t k)
  (s1.set (RGN_RCTL_EN t k) (b2n (bitOf v 31))).set (RGN_RCTL_LOCK t k) (b2n (bitOf v 30 && decide (8 ≤ k)))

/-- R454: a write of `v` to RGN_RCTL by request `r`. -/
def execRegionCtlWrite (r : Req) (t : Fin 17) (k : Fin 32) (v : Nat) (s : State) : Host.Outcome State Fault Refusal :=
  match s.checkReq (a_RGN_RCTL t k) r .write with
  | some s1 => done (s1.emit (.resp r.id true 0))
  | none => if s.slotOpen r t k then done ((s.rctlWrite t k v).emit (.resp r.id false 0)) else done (s.emit (.resp r.id true 0))

/-- R448: a word of RGN_IGRP: groups and worlds of eight initiators. -/
def State.igrpWrite (s : State) (k v : Nat) : State :=
  s.each (List.range 8) (fun t j =>
    (t.set ⟨a_RGN_IGRP k, 4 * j + 3, 1, 0, .rw, .cfg⟩ (bf v (4 * j + 3) 1)).set ⟨a_RGN_IGRP k, 4 * j, 3, 0, .rw, .cfg⟩ (bf v (4 * j) 3))

/-- R448: a write of `v` to RGN_IGRP by request `r`. -/
def execIgrpWrite (r : Req) (k : Fin 8) (v : Nat) (s : State) : Host.Outcome State Fault Refusal :=
  match s.checkReq (a_RGN_IGRP k) r .write with
  | some s1 => done (s1.emit (.resp r.id true 0))
  | none => done ((s.igrpWrite k v).emit (.resp r.id false 0))

/-- R455: RGN_CTL.FENCE is written 1; every request of the model has reached its target as it is made. -/
def execRegionFence (s : State) : Host.Outcome State Fault Refusal := done (s.set RGN_CTL_FENCE 1)

/-- R455. -/
def execRegionFenceComplete (s : State) : Host.Outcome State Fault Refusal := done (s.set RGN_CTL_FENCE 0)

/-! ### The world watchdog and the restart (R461 to R466) -/

/-- Whether `h` names a hart: the lower core of a joined pair, or a split core. -/
def State.isHart (s : State) (h : Nat) : Bool := decide (h < 2 * nPair s.part) && (!s.joined h || h % 2 == 0)

/-- The core that runs hart `h`. -/
def State.coreOf (s : State) (h : Nat) : Nat := if s.joined h then s.leadOf (h / 2) else h

/-- R461: the watchdog of hart `h` expires: it has counted TIMEOUT × 10 µs in the Inner world. Compass takes the restart up. -/
def execWorldWatchdogExpiry (h : Fin 8) (s : State) : Host.Outcome State Fault Refusal :=
  let c := s.coreOf h
  if s.isHart h && s.on (RGN_WWDT_TIMEOUT h) && (s.core.get c).live && !(s.core.get c).halted && s.coreWorld c then
    done { s with cmp := { s.cmp with restart := s.cmp.restart.put h (some (1, 0)) } }
  else done s

/-- R461: whether a request may write KICK of hart `h`: the hart itself, in the Inner world. -/
def kickOk (h : Nat) (r : Req) : Bool := r.id == h && r.inner

/-- R461: RGN_WWDT.KICK is written 1. -/
def execWatchdogKick (h : Fin 8) (r : Req) (s : State) : Host.Outcome State Fault Refusal :=
  if !decide (h.val < 2 * nPair s.part) then done s else
  match s.checkReq (a_RGN_WWDT h) r .write with
  | some s1 => done (s1.emit (.resp r.id true 0))
  | none =>
    if kickOk h r then done (s.emit (.resp r.id false 0))
    else done ((s.refuse (a_RGN_WWDT h) r .write 7 0x4000_0000).emit (.resp r.id true 0))

/-- The S-, HS-, H- and VS-level CSRs of R371, in increasing number. -/
def savedCsrs : List Nat :=
  [0x100, 0x104, 0x105, 0x106, 0x10A, 0x140, 0x141, 0x142, 0x143, 0x144, 0x180, 0x200, 0x204, 0x205, 0x240, 0x241, 0x242, 0x243, 0x244, 0x280,
   0x600, 0x602, 0x603, 0x604, 0x605, 0x606, 0x607, 0x60A, 0x643, 0x644, 0x645, 0x64A, 0x680, 0xE12]

/-- R463: the save area of hart `h` from 0x100 on: the state at the failure (none for reason 3), and the restart record. -/
def State.saveBytes (s : State) (h reason recent ns : Nat) : List Nat :=
  let c := s.coreOf h
  let k := s.core.get c
  let w (v : Nat) : List Nat := toBytes 8 v
  let pad (n : Nat) (l : List Nat) : List Nat := l ++ List.replicate (n - l.length) 0
  let body : List Nat :=
    if reason = 3 then List.replicate 0xE00 0
    else
      pad 0xE00 ((List.range 32).flatMap (fun i => w (k.f.get i)) ++ w (s.csrGet c 3) ++
        ([0x300, 0x341, 0x342, 0x343, 0x34B, 0x34A, 0x7C0].flatMap (fun n => w (s.csrGet c n))) ++
        pad (0x800 - 0x240) (savedCsrs.flatMap (fun n => w (s.csrGet c n))) ++ (List.range 32).flatMap (fun i => w (k.getX i)))
  body ++ w (reason * 2 ^ 56 + recent * 2 ^ 48) ++ w ns ++ List.replicate 0xF0 0

/-- Hart `h` stops where it is: its core, or both copies of its pair. -/
def State.hartStop (s : State) (h : Nat) : State :=
  if s.joined h then ((s.sliceAbort h).sliceAbort (h + 1)).pairHold (h / 2)
  else s.coreSet h (fun k => { k with live := false, crashed := false, res := none, wait := none, resp := none })

/-- The times of the restarts of hart `h` within the last 1 s (R466). -/
def State.recentRestarts (s : State) (h : Nat) : List Nat :=
  (s.cmp.restarts.get h).filter (fun t => decide (s.pow.elapsed < t + 1_000_000_000))

/-- RGN_WSTAT.RECENT as a read shows it (R469). -/
def State.wstatShow (s : State) (h : Nat) : State := s.set (RGN_WSTAT_RECENT h) (min (s.recentRestarts h).length 3)

/-- R464 steps 1 to 3, R466: a restart of hart `h` is taken up; a fourth one within 1 s leaves the hart stopped. -/
def State.restartBegin (s : State) (h reason : Nat) : State :=
  let now := s.pow.elapsed
  let prior := s.recentRestarts h
  if 3 ≤ prior.length then
    let s1 : State := { s with cmp := { s.cmp with restart := s.cmp.restart.put h none } }
    let s2 := (s1.hartStop h).coreSet h (fun k => { k with stopped := true })
    (s2.set (RGN_WSTAT_STATE h) 3).raiseC 299 2 h
  else
    let recent := prior.length + 1
    let s1 := (((s.set (RGN_WSTAT_STATE h) 2).set (RGN_WSTAT_REASON h) reason).set (RGN_WSTAT_RECENT h) recent).inc (RGN_WSTAT_RESTARTS h)
    let s2 := (s1.raiseC 298 1 (h * 16 + reason)).mbxHartGone h
    let s3 := match s.cmp.booted with
      | some b => s2.setBytes (s.saveArea b h + 0x100) (s.saveBytes h reason recent s.nowNs)
      | none => s2
    let s4 := s3.hartStop h
    { s4 with cmp := { s4.cmp with restarts := s4.cmp.restarts.put h (prior ++ [now]), restart := s4.cmp.restart.put h (some (reason, now + 1)) } }

/-- R462: the reason for which hart `h` is to restart: its watchdog has expired, it has reported a crash, or its pair has escalated. -/
def State.restartWhy (s : State) (h : Nat) : Option Nat :=
  match s.cmp.restart.get h with
  | some (_, d) => if d = 0 then some 1 else none
  | none => if (s.core.get (s.coreOf h)).crashed then some 2 else if s.joined h && s.pst (h / 2) == 6 then some 3 else none

/-- R462, R464: Compass takes up a restart of hart `h`, unless a HANDOVER runs (R460). -/
def execInnerWorldRestartBegin (h : Fin 8) (s : State) : Host.Outcome State Fault Refusal :=
  match s.restartWhy h with
  | some why =>
    if s.isHart h && s.get (RGN_WSTAT_STATE h) != 2 && s.get (RGN_WSTAT_STATE h) != 3 && s.get MBX_GSTAT_CUROP != 0x50 then done (s.restartBegin h why)
    else done s
  | none => done s

/-- R464 steps 4 and 5, R466: the data area is reloaded, the code measured again, and the hart starts at the restart entry or stays stopped. -/
def execInnerWorldRestartComplete (h0 : Fin 8) (s : State) : Host.Outcome State Fault Refusal :=
  let h := h0.val
  match s.cmp.restart.get h, s.cmp.booted with
  | some (why, d), some b =>
    if d = 0 then done s
    else
      let s0 : State := { s with cmp := { s.cmp with restart := s.cmp.restart.put h none } }
      let s1 := s0.innerLoad b h
      let code := s1.bytes (bankBase b + (s1.monCode b).1) (s1.monCode b).2
      if digest (List.replicate 48 0 ++ digest code) == s.measAt 1 then
        let s2 := (s1.set (RGN_WSTAT_STATE h) 1).hartStart h (s1.entryAt b true) why (s1.saveArea b h)
        done (s2.raiseC 298 2 (satU 16 ((s.pow.elapsed + 1 - d) / 1000)))
      else
        let s2 := (s1.coreSet h (fun k => { k with stopped := true })).set (RGN_WSTAT_STATE h) 3
        done (s2.raiseC 299 1 h)
  | _, _ => done s

/-! ### HANDOVER (R457 to R460, R511, R602) -/

/-- The block that a page of kind 1 belongs to; none for a page that no block reset restores, and `none` outside for a page that is excluded (R602). -/
def pageKind1 (a : Nat) : Option (Option Nat) :=
  if within a 0x4100_0000 0x1_0000 then some (some ((a - 0x4100_0000) / 0x1000))
  else if within a 0x4110_0000 0x1_8000 then some (some (16 + (a - 0x4110_0000) / 0x1000))
  else if within a 0x4120_0000 0x1_8000 then some (some (40 + (a - 0x4120_0000) / 0x1000))
  else if within a 0x4121_8000 0x4000 then some (some (64 + (a - 0x4121_8000) / 0x1000))
  else if within a 0x4130_0000 0x4000 then some (some (68 + (a - 0x4130_0000) / 0x1000))
  else if within a 0x4300_1000 0x6_9000 then some (some 86)
  else if within a 0x4310_0000 0x1_6000 then some (some 86)
  else if within a 0x4400_0000 0x10_0000 then (if a % 0x1_0000 < 0x1000 then none else some (some (87 + (a - 0x4400_0000) / 0x1_0000)))
  else if within a 0x4410_0000 0x8000 then some (some (103 + (a - 0x4410_0000) / 0x1000))
  else if within a 0x4500_1000 0xF_F000 then some (some 112)
  else if within a 0x4510_1000 0x2000 then some (some 113)
  else if within a 0x4700_0000 0x2000 then some none
  else if within a 0x4710_0000 0x10_0000 then some none
  else none

/-- The event sources of a block whose every page lies among the pages of kind 1 (R457). -/
def blockSources (n : Nat) : List Nat :=
  if n < 8 then [80 + n, 88 + n]
  else if n < 16 then [72 + (n - 8)]
  else if n < 40 then [128 + (n - 16)]
  else if n < 64 then [104 + (n - 40)]
  else if 68 ≤ n ∧ n < 72 then [96 + (n - 68), 100 + (n - 68)]
  else if 103 ≤ n ∧ n < 111 then [224 + (n - 103)]
  else []

/-- What a HANDOVER acts on: granules per checker (checker, first, last), blocks to reset, sources, and memory to scrub (address, bytes). -/
structure Resource where
  slots : List (Nat × Nat × Nat) := []
  blocks : List Nat := []
  sources : List Nat := []
  mem : List (Nat × Nat) := []

/-- R457, R602, R511: the resource of kinds 0, 1, 5 and 6; none where an index is out of range or a page is excluded. -/
def State.resourceOf (s : State) (kind first n : Nat) : Option Resource :=
  if kind = 0 then
    let a := first * 4096
    let z := (first + n) * 4096
    if a < 0x1000_0000 ∨ 0x1000_0000 + sramSize s.part - 0x4000 < z then none
    else
      let bank (q : Nat) : Nat × Nat := (0x1000_0000 + q * (sramSize s.part / 4), 0x1000_0000 + (q + 1) * (sramSize s.part / 4))
      some { slots := (List.range 4).filterMap (fun q =>
               let b := bank q
               if a < b.2 ∧ b.1 < z then some (2 + q, max a b.1 / 4096, (min z b.2 - 1) / 4096) else none)
             mem := [(a, n * 4096)] }
  else if kind = 1 then
    let pages := (List.range n).map (fun k => (first + k) * 4096)
    if 4096 < n ∨ !pages.all (fun p => (pageKind1 p).isSome && pageListed p && pageCarried s.part p) then none
    else
      let t := 7 + (first * 4096 - 0x4000_0000) / 0x100_0000
      let bs := (pages.filterMap (fun p => (pageKind1 p).getD none)).eraseDups
      some { slots := [(t, first, first + n - 1)], blocks := bs, sources := bs.flatMap blockSources }
  else if kind = 5 then
    if nTg s.part ≤ first then none
    else
      let e := s.tgLead first
      let es := s.tgCopies e
      let z := e + es.length - 1
      some { slots := [(7, a_TG_CTL e / 4096, a_TG_CTL z / 4096), (6, tgImem e / 4096, (tgImem z + 0x1_FFFF) / 4096)], blocks := [72 + e]
             sources := [48 + 2 * e, 49 + 2 * e, 50 + 2 * e, 51 + 2 * e], mem := es.map (fun k => (tgImem k, 0x2_0000)) }
  else if first < 12 then some { slots := [(7, 0x4_0011 + first, 0x4_0011 + first)] } else none

/-- The Compass slots of a checker that are free. -/
def State.freeSlots (s : State) (t : Nat) : List Nat := (List.range 8).filter (fun r => !s.on (RGN_RCTL_EN t r))

/-- A range of granules taken out of the Compass slots of checker `t`: a slot inside it is freed, one that reaches over it is cut, and what lies beyond needs a
slot of its own. None where no slot is free for it. -/
def State.cutSlots (s : State) (t lo hi : Nat) : Option State :=
  (List.range 8).foldl (fun a r =>
    match a with
    | none => none
    | some (u : State) =>
      let b := u.get (RGN_RBASE_BASE t r)
      let l := u.get (RGN_RLIM_LIMIT t r)
      if !u.on (RGN_RCTL_EN t r) || decide (hi < b) || decide (l < lo) then some u
      else if lo ≤ b ∧ l ≤ hi then some (u.set (RGN_RCTL_EN t r) 0)
      else if lo ≤ b then some (u.set (RGN_RBASE_BASE t r) (hi + 1))
      else if l ≤ hi then some (u.set (RGN_RLIM_LIMIT t r) (lo - 1))
      else match u.freeSlots t with
        | [] => none
        | k :: _ => some ((u.set (RGN_RLIM_LIMIT t r) (lo - 1)).slotSet t k (hi + 1) l (u.get (RGN_RPI_PERM t r)) (u.get (RGN_RPO_PERM t r)))) (some s)

/-- The Compass slots of a resource written for an owner's permission words, or freed where there are none; none where a slot is missing. -/
def State.grantSlots (s : State) (l : List (Nat × Nat × Nat)) (perm : Option (Nat × Nat)) : Option State :=
  l.foldl (fun a x =>
    match a with
    | none => none
    | some (u : State) =>
      match u.cutSlots x.1 x.2.1 x.2.2, perm with
      | none, _ => none
      | some v, none => some v
      | some v, some (pi, po) => match v.freeSlots x.1 with
        | [] => none
        | k :: _ => some (v.slotSet x.1 k x.2.1 x.2.2 pi po)) (some s)

/-- R458: whether an Outer caller of group `g` owns every part of a resource: Compass slots with a permission of its group. -/
def State.ownsSlots (s : State) (g : Nat) (l : List (Nat × Nat × Nat)) : Bool :=
  l.all (fun x => (List.range 8).any (fun r => s.on (RGN_RCTL_EN x.1 r) && decide (s.get (RGN_RBASE_BASE x.1 r) ≤ x.2.1) &&
    decide (x.2.2 ≤ s.get (RGN_RLIM_LIMIT x.1 r)) && bf (s.get (RGN_RPO_PERM x.1 r)) (3 * g) 3 != 0))

/-- A source's pending bit cleared at the destination it has now: the state, and 1 where it was set (R458 step 6). -/
def State.unpend (s : State) (src : Nat) : State × Nat :=
  let c := s.irqCore (s.get (EVR_ROUTE_DEST src))
  if s.on (EVR_ROUTE_WORLD src) then
    ({ s with irqInner := s.irqInner.upd c (fun l => l.filter (fun x => x != src)) }, b2n ((s.irqInner.get c).contains src))
  else ({ s with irqOuter := s.irqOuter.upd c (fun l => l.filter (fun x => x != src)) }, b2n ((s.irqOuter.get c).contains src))

/-- R458 step 6: the sources re-routed; the number of pending bits cleared. -/
def State.reroute (s : State) (l : List Nat) (dest : Nat → Nat × Nat) : State × Nat :=
  l.foldl (fun (a : State × Nat) src =>
    let u := a.1.unpend src
    (((u.1.set (EVR_ROUTE_WORLD src) (dest src).1).set (EVR_ROUTE_DEST src) (dest src).2).set (EVR_ROUTE_IRQ src) 1, a.2 + u.2)) (s, 0)

/-- R458 step 3: the block resets; those of `late` that are not idle are forced. The number forced. -/
def State.handReset (s : State) (late blocks : List Nat) : State × Nat :=
  blocks.foldl (fun (a : State × Nat) n =>
    if !a.1.blockReady n then a
    else
      let f := late.contains n && !a.1.blockIdle n
      ((((if f then a.1.evrTake.blkForced n else a.1).blockReset n).inc RST_BLKSTAT_DONE), a.2 + b2n f)) (s, 0)

/-- R458 step 7. -/
def handDone (s : State) (kind forced cleared : Nat) : CmdRes := { s := s.raise 317 (kind * 65536 + satU 16 forced), res := [forced, cleared] }

/-- The destination of a source that goes back to the Inner world's own settings: that of the record in force (R457). -/
def State.homeRoute (s : State) (src : Nat) : Nat × Nat := (1, bf (s.pow.record.get (256 + src)) 20 4)

/-- The core that sources of a group's resource go to: the lowest core of the group; with none the destination stays. -/
def State.groupDest (s : State) (g src : Nat) : Nat :=
  ((List.range 8).find? (fun id => s.groupOf id == g)).getD (s.get (EVR_ROUTE_DEST src))

/-- HANDOVER of kinds 0, 1, 5 and 6. -/
def State.handPages (s : State) (m : Nat) (o : Req) (kind fl first n owner : Nat) (late : List Nat) : CmdRes :=
  let back := bitOf fl 25
  match s.resourceOf kind first n with
  | none => CmdRes.fail s errARG
  | some x =>
    let es := if kind = 5 then s.tgCopies (s.tgLead first) else []
    if !o.inner && !(back && s.ownsSlots (s.cmp.grp.get m) x.slots) then CmdRes.fail s errCALLER
    else if es.any (fun e => s.on (TG_MOVE_GO e) || s.on (TG_MOVE_FWD e)) then CmdRes.fail s errBUSY
    else
      let g := owner % 8
      let p := (if kind = 0 ∧ bitOf fl 26 then 7 else 3) * 2 ^ (3 * g)
      let w := bitOf owner 8
      match s.grantSlots x.slots (if back then none else some (if w then (p, 0) else (0, p))) with
      | none => CmdRes.fail s errSLOTS
      | some s1 =>
        let r := if bitOf fl 28 then s1.handReset late x.blocks else (s1, 0)
        let s2 := if bitOf fl 28 ∧ kind = 6 then
            let u := r.1.restoreBlock ((0x4_0011 + first) * 4096) 0x1000
            if 8 ≤ first then { u with gtb := { u.gtb with caps := ⟨u.gtb.caps.cells.filter (fun c => c.1 / 8 != first - 8)⟩ } } else u
          else r.1
        let s3 := if bitOf fl 27 then s2.each x.mem (fun t m => t.zero m.1 m.2) else s2
        let q := s3.reroute x.sources (fun src => if back then s3.homeRoute src else (b2n w, s3.groupDest g src))
        handDone q.1 kind r.2 q.2

/-- Whether an owner word of kinds 2 and 3 names an initiator ID or an instance (R511). -/
def ownerWord (v : Nat) : Bool := v / 256 == 1 || v / 256 == 2

/-- HANDOVER of kind 2: PSC channels. -/
def State.handPsc (s : State) (m : Nat) (o : Req) (fl first n owner : Nat) : CmdRes :=
  let back := bitOf fl 25
  let chs := (List.range (min n 41)).map (· + first)
  let own (c : Nat) : Bool := (s.get (PSC_OWN_MODE c) == 1 && s.get (PSC_OWN_OWNID c) == o.id) ||
    (s.get (PSC_OWN_MODE c) == 2 && s.cmp.vi.get m == some (s.get (PSC_OWN_VI c)))
  if !chs.all (fun c => decide (c < 40) && hasPsc s.part c) || (!back && !ownerWord owner) || (!back && owner / 256 == 1 && decide (63 < owner % 256)) then
    CmdRes.fail s errARG
  else if !o.inner && !(back && chs.all own) then CmdRes.fail s errCALLER
  else
    let mode := if back then 0 else owner / 256
    let s1 := s.each chs (fun t c => ((t.set (PSC_OWN_MODE c) mode).set (PSC_OWN_OWNID c) (if mode = 1 then owner % 64 else 0)).set (PSC_OWN_VI c)
      (if mode = 2 then owner % 256 else 0))
    let q := s1.reroute (chs.map (· + 152)) (fun src =>
      if back then s1.homeRoute src
      else (s1.get (EVR_ROUTE_WORLD src), if mode = 1 ∧ owner % 256 ≤ 8 then owner % 256 else s1.get (EVR_ROUTE_DEST src)))
    handDone q.1 2 0 q.2

/-- HANDOVER of kind 3: objects of CAN controller `c`. -/
def State.handCan (s : State) (m : Nat) (o : Req) (fl first n owner c : Nat) : CmdRes :=
  let back := bitOf fl 25
  let objs := (List.range (min n 129)).map (· + first)
  let own (k : Nat) : Bool := (s.get (CAN_OBJOWN_MODE c k) == 1 && s.get (CAN_OBJOWN_OWNID c k) == o.id) ||
    (s.get (CAN_OBJOWN_MODE c k) == 2 && s.cmp.vi.get m == some (s.get (CAN_OBJOWN_VI c k)))
  if nCan s.part ≤ c ∨ !objs.all (fun k => decide (k < 128)) ∨ (!back ∧ !ownerWord owner) ∨ (!back ∧ owner / 256 = 1 ∧ 63 < owner % 256) then CmdRes.fail s errARG
  else if !o.inner && !(back && objs.all own) then CmdRes.fail s errCALLER
  else
    let mode := if back then 0 else owner / 256
    let s1 := s.each objs (fun t k => ((t.set (CAN_OBJOWN_MODE c k) mode).set (CAN_OBJOWN_OWNID c k) (if mode = 1 then owner % 64 else 0)).set (CAN_OBJOWN_VI c k)
      (if mode = 2 then owner % 256 else 0))
    let s2 := if bitOf fl 28 then s1.each objs (fun t k => (t.canAbort c k).set (CAN_OBJCFG_EN c k) 0) else s1
    let s3 := if bitOf fl 27 then s2.each objs (fun t k =>
        (t.restore (fun key => within (keyAddr key) (canBase c + 0x1000 + k * 0x20) 0x20)).zero (canBase c + s.canPay c k) (s.canCap c k)) else s2
    handDone s3 3 0 0

/-- HANDOVER of kind 4: event sources. -/
def State.handSources (s : State) (o : Req) (fl first n owner : Nat) : CmdRes :=
  let back := bitOf fl 25
  let l := (List.range (min n 321)).map (· + first)
  if !l.all (fun x => decide (x < 320)) || (!back && decide (8 < owner % 16)) then CmdRes.fail s errARG
  else if !o.inner && !(back && l.all (fun x => !s.on (EVR_ROUTE_WORLD x) && s.get (EVR_ROUTE_DEST x) == o.id)) then CmdRes.fail s errCALLER
  else
    let q := s.reroute l (fun src => if back then s.homeRoute src else (bf owner 8 1, owner % 16))
    handDone q.1 4 0 q.2

/-- R457 to R460, R511: HANDOVER; `late` lists the blocks that do not go idle within the timeout. -/
def execHandover (m : Fin 8) (late : List (Fin 119)) (s : State) : Host.Outcome State Fault Refusal :=
  s.command m 0x50 0x1E false false (fun s =>
    let fl := s.arg m 0
    let kind := fl / 2 ^ 29
    let first := s.arg m 1
    let n := s.arg m 2
    let owner := s.arg m 3
    let o := s.mbxOwner m
    if bf fl 0 25 ≠ 0 then CmdRes.fail s errUNKNOWN
    else if kind = 7 ∨ n = 0 ∨ ((kind = 5 ∨ kind = 6) ∧ n ≠ 1) ∨ (bitOf fl 26 = true ∧ kind ≠ 0) ∨ (kind ≠ 3 ∧ s.arg m 4 ≠ 0) then CmdRes.fail s errARG
    else if kind = 2 then s.handPsc m o fl first n owner
    else if kind = 3 then s.handCan m o fl first n owner (s.arg m 4)
    else if kind = 4 then s.handSources o fl first n owner
    else s.handPages m o kind fl first n owner (late.map Fin.val))

end Sys2Proof.Machine
end

