-- ==== Sys2Proof/Machine/Compass.lean ====
section
/-! DEFINITION. The commands of Compass (R503, R504, R509 to R516, R519, R522 to R526), the completion of a command, and secure boot as it runs
(R520, R521). -/

namespace Sys2Proof.Machine

open Sys2Proof

/-! ### Shared forms -/

/-- R504, R509: the completion of a command; an opcode that is not in the table fails with UNKNOWN. UPD_ACTIVATE and UPD_REVERT with their reset flag then begin
a warm reset (R542). -/
def execMbxCommandComplete (s : State) : Host.Outcome State Fault Refusal :=
  match s.cmp.run, s.cmp.queue with
  | none, m :: _ =>
    if mbxOpcodes.contains (s.get (MBX_CMD_OPCODE m)) then done s
    else match s.takeUp m (s.get (MBX_CMD_OPCODE m)) with
      | some s1 => done ({ s1 with cmp := { s1.cmp with res := some ([], errUNKNOWN) } } : State).mbxComplete
      | none => done s
  | some m, _ =>
    let op := s.get (MBX_CMD_OPCODE m)
    let s1 := s.mbxComplete
    if (op == 0x34 || op == 0x36) && bitOf (s.arg m 3) 0 && s.cmp.res.any (fun r => r.2 == 0) then done (s1.resetKind 4 6) else done s1
  | none, [] => done s

/-- R532: a command that must program eNVM or commit the key store waits in the queue while VBAT is low; one that fails before that completes. -/
def State.commandNv (s : State) (m op lcMask : Nat) (inner recov : Bool) (body : State → CmdRes) : Host.Outcome State Fault Refusal :=
  let wait := match s.takeUp m op with
    | none => false
    | some s1 =>
      let r := body s1
      s1.on PWR_STAT_VBATLO && s1.lcOk lcMask && s1.callerOk m inner recov && (r.err == 0 || r.err == errNVM)
  if wait then done (s.set PWR_STAT_NVMHOLD 1) else s.command m op lcMask inner recov body

/-- The key store changed and committed (R515). -/
def State.ksSet (s : State) (g : KeyStore → KeyStore) : State :=
  { s with cmp := { s.cmp with ks := { g s.cmp.ks with seq := s.cmp.ks.seq + 1 } } }

/-- R507: a buffer of `need` bytes or more that Compass reads, or writes; ERR where it is refused. Bits [31:8] of ARG[1] are reserved. -/
def State.bufErr (s : State) (m need : Nat) (rd wr : Bool) : Nat :=
  if s.arg m 1 / 256 ≠ 0 then errUNKNOWN
  else if s.bufLen m < need then errARG
  else if (rd && !s.bufOk m (s.bufLen m) .read) || (wr && !s.bufOk m (s.bufLen m) .write) then errACCESS
  else 0

/-- A body that runs where ERR is 0. -/
def CmdRes.orRun (s : State) (e : Nat) (k : CmdRes) : CmdRes := if e ≠ 0 then CmdRes.fail s e else k

/-- The bank other than `b`. -/
def otherBank (b : Nat) : Nat := if b = 0 then 1 else 0

/-! ### Information (R510) -/

/-- SYS_ID of a part (R5, R600). -/
def sysId : Part → Nat
  | .azc2416 => 0x2416_0010
  | .azc3632 => 0x3632_0010
  | .azc4896 => 0x4896_0010
  | .twinA => 0x489D_0010
  | .twinB => 0x489D_0110

/-- The 32-bit words of a list of bytes. -/
def words32 (n : Nat) (l : List Nat) : List Nat := (List.range n).map (fun k => ofBytes ((l.drop (4 * k)).take 4))

/-- GET_INFO. -/
def execGetInfo (m : Fin 8) (s : State) : Host.Outcome State Fault Refusal :=
  s.command m 0x01 0x3F false false (fun s =>
    { s := s
      res := [sysId s.part, s.get MBX_GSTAT_LC + s.get MBX_GSTAT_RECOVERY * 2 ^ 8 + s.cmp.booted.getD 0 * 2 ^ 16, Config.romVersion.toNat,
        s.pow.record.get 0 % 256] ++ words32 4 (toBytes 16 s.cmp.ks.devId) })

/-- GET_BOOTSTAT. -/
def execGetBootstat (m : Fin 8) (s : State) : Host.Outcome State Fault Refusal :=
  s.command m 0x02 0x1E false false (fun s =>
    let k := s.cmp.ks
    { s := s
      res := [s.cmp.booted.getD 0 + k.active * 2 + k.pending.getD 0 * 4 + k.tries % 8 * 16 + k.upd * 256, s.manVersion 0, s.manVersion 1, k.rollback,
        s.cmp.bootErr.get 0 + s.cmp.bootErr.get 1 * 256, s.cmp.bootUs] })

/-- ECHO. -/
def execEcho (m : Fin 8) (s : State) : Host.Outcome State Fault Refusal :=
  s.command m 0x03 0x3F false false (fun s => { s := s, res := (List.range 8).map (s.arg m) })

/-! ### Tokens and the life cycle (R512 to R516) -/

/-- Why a token fails: 0 where it is valid for kind `kind` (R514). In BLANK there is no challenge, so no nonce is compared (log entry 31). -/
def State.tokenBad (s : State) (m kind : Nat) : Bool :=
  let b := s.bufRead m (s.bufLen m)
  let w (o : Nat) : Nat := ofBytes ((b.drop o).take 4)
  let ks := s.cmp.ks
  let key := (b.drop 0x40).take 0x100
  let slot := w 4
  let keyGood := if kind = 4 then key == Config.makerKey else s.keyOk slot key
  let scheme := if kind = 4 then 2 else 2 + ofBytes ((ks.roots.get slot).take 4)
  !(w 0 == kind && ofBytes ((b.drop 8).take 16) == ks.devId && (ks.lc == 0 || s.cmp.nonce == some ((b.drop 0x18).take 32)) && keyGood &&
    Config.sigOk scheme key (b.take 0x140) (b.drop 0x140))

/-- Word 0x38 of a token: its argument; word 4: the slot that signed it. -/
def State.tokenArg (s : State) (m : Nat) : Nat := ofBytes (s.bytes (s.bufAddr m + 0x38) 4)
def State.tokenSlot (s : State) (m : Nat) : Nat := ofBytes (s.bytes (s.bufAddr m + 4) 4)

/-- R514: a command under a token: refused after eight failures; a token that fails raises source 301; a nonce serves one token. -/
def State.withToken (s : State) (m op kind : Nat) (k : State → CmdRes) : CmdRes :=
  CmdRes.orRun s (s.bufErr m 0x141 true false)
    (if 8 ≤ s.cmp.fails then CmdRes.fail s errLOCKOUT
     else
       let bad := s.tokenBad m kind
       let used := s.cmp.nonce == some (s.bytes (s.bufAddr m + 0x18) 32)
       let s1 : State := { s with cmp := { s.cmp with nonce := if used then none else s.cmp.nonce, fails := s.cmp.fails + b2n bad } }
       if bad then CmdRes.fail (s1.raise 301 op) errAUTH else k s1)

/-- R513: the life-cycle state changes, with source 300. -/
def State.lcSet (s : State) (lc : Nat) : State := ((s.ksSet (fun k => { k with lc := lc })).showLc).raise 300 lc

/-- R513: what RETURN erases, by the two commits of R516. -/
def State.lcErase (s : State) : State :=
  let s1 := (s.bankErase 0).bankErase 1
  let s2 := s1.ksSet (fun k => { k with roots := {}, revoked := 0, salt := 0, erase := false })
  { s2 with evr := { s2.evr with persist := [], commit := true } }

/-- PROV_DEVID: BLANK to MAKER. Device secret, attestation key and device ID are inputs from the random bit generator. -/
def execProvDevid (m : Fin 8) (secret attest devId : Nat) (s : State) : Host.Outcome State Fault Refusal :=
  s.commandNv m 0x10 0x01 false true (fun s => s.withToken m 0x10 4 (fun s =>
    let s1 := (s.ksSet (fun k => { k with secret := secret, attest := attest, devId := devId % 2 ^ 128, salt := 1 })).lcSet 1
    { s := s1, res := [0, 0, 0, 0] ++ words32 4 (toBytes 16 devId) }))

/-- LC_ADVANCE: MAKER to OEM_DEV under a manufacturing token, OEM_DEV to FIELD under its conditions. -/
def execLcAdvance (m : Fin 8) (s : State) : Host.Outcome State Fault Refusal :=
  s.commandNv m 0x11 0x06 true true (fun s =>
    let ks := s.cmp.ks
    if s.arg m 4 ≠ 0x4C43_4144 ∨ s.arg m 3 ≠ ks.lc + 1 then CmdRes.fail s errARG
    else if ks.lc = 1 then
      s.withToken m 0x11 4 (fun s => { s := ((s.bankErase 0).bankErase 1).lcSet 2, res := [2] })
    else if s.arg m 0 ≠ 0 ∨ s.arg m 1 ≠ 0 then CmdRes.fail s errARG
    else if ks.pending.isSome then CmdRes.fail s errBUSY
    else match s.cmp.booted with
      | none => CmdRes.fail s errORDER
      | some b =>
        if !(List.range 4).any s.rootLive || s.verifyBank b false != 0 then CmdRes.fail s errORDER
        else { s := (s.ksSet (fun k => { k with rollback := s.manVersion b })).lcSet 3, res := [3] })

/-- LC_RETURN. -/
def execLcReturn (m : Fin 8) (s : State) : Host.Outcome State Fault Refusal :=
  s.commandNv m 0x12 0x0C true true (fun s => s.withToken m 0x12 1 (fun s => { s := s.lcErase.lcSet 4, res := [4] }))

/-- LC_END. -/
def execLcEnd (m : Fin 8) (s : State) : Host.Outcome State Fault Refusal :=
  s.commandNv m 0x13 0x1F true true (fun s =>
    if s.arg m 3 ≠ 0x454E_4421 then CmdRes.fail s errARG
    else { s := (s.lcErase.ksSet (fun k => { k with secret := 0, attest := 0 })).lcSet 5 })

/-- LC_CHALLENGE: 32 bytes from the random bit generator. -/
def execLcChallenge (m : Fin 8) (nonce : List Nat) (s : State) : Host.Outcome State Fault Refusal :=
  s.command m 0x14 0x1E false false (fun s =>
    let n := (List.range 32).map (fun i => nonce.getD i 0 % 256)
    { s := { s with cmp := { s.cmp with nonce := some n } }, res := words32 8 n })

/-- R514: the nonce lapses 60 s after it was issued. -/
def execNonceExpiry (s : State) : Host.Outcome State Fault Refusal := done { s with cmp := { s.cmp with nonce := none } }

/-- DBG_UNLOCK: the debug port opens in FIELD with the scope of the token until the next cold reset (R512). -/
def execDbgUnlock (m : Fin 8) (s : State) : Host.Outcome State Fault Refusal :=
  s.command m 0x15 0x08 true true (fun s => s.withToken m 0x15 2 (fun s =>
    let scope := s.tokenArg m
    { s := { s with cmp := { s.cmp with debug := some scope } }, res := [scope] }))

/-- PROV_ROOTKEY. -/
def execProvRootkey (m : Fin 8) (s : State) : Host.Outcome State Fault Refusal :=
  s.commandNv m 0x16 0x04 true true (fun s =>
    let k := s.arg m 3
    if 4 ≤ k then CmdRes.fail s errARG
    else CmdRes.orRun s (s.bufErr m 52 true false)
      (if s.cmp.ks.roots.get k != [] then CmdRes.fail s errBUSY
       else { s := s.ksSet (fun x => { x with roots := x.roots.put k (s.bufRead m 52) }) }))

/-- KEY_REVOKE (R514). -/
def execKeyRevoke (m : Fin 8) (s : State) : Host.Outcome State Fault Refusal :=
  s.commandNv m 0x17 0x0C true true (fun s => s.withToken m 0x17 3 (fun s =>
    let k := s.tokenArg m
    if 4 ≤ k then CmdRes.fail s errARG
    else if !(List.range 4).any (fun j => j != k && s.rootLive j) || k == s.tokenSlot m || s.cmp.booted.any (fun b => s.manSlot b == k) then
      CmdRes.fail s errBUSY
    else { s := s.ksSet (fun x => { x with revoked := Machine.setBit x.revoked k }) }))

/-! ### Measurement (R522, R523) -/

/-- MEAS_READ. -/
def execMeasRead (m : Fin 8) (s : State) : Host.Outcome State Fault Refusal :=
  s.command m 0x20 0x1E false false (fun s =>
    if 8 ≤ s.arg m 3 then CmdRes.fail s errARG
    else CmdRes.orRun s (s.bufErr m 48 false true) { s := s.setBytes (s.bufAddr m) (s.measAt (s.arg m 3)) })

/-- MEAS_EXTEND. -/
def execMeasExtend (m : Fin 8) (s : State) : Host.Outcome State Fault Refusal :=
  s.command m 0x21 0x1E true false (fun s =>
    if s.arg m 3 < 4 ∨ 8 ≤ s.arg m 3 then CmdRes.fail s errARG
    else CmdRes.orRun s (s.bufErr m 48 true false) { s := s.measExtend (s.arg m 3) (s.bufRead m 48) })

/-- R523: the bytes of a quote before its signature: bytes 0x32 to 0x37 stay as the buffer holds them. -/
def State.quoteBytes (s : State) (m mask : Nat) : List Nat :=
  let b := s.bufRead m 0x40
  toBytes 16 s.cmp.ks.devId ++ (b.drop 0x10).take 0x20 ++ [mask, s.cmp.ks.lc] ++ (b.drop 0x32).take 6 ++ toBytes 8 s.nowNs ++
    (bitsOf mask 8).flatMap s.measAt

/-- QUOTE. -/
def execQuote (m : Fin 8) (s : State) : Host.Outcome State Fault Refusal :=
  s.command m 0x22 0x1C false false (fun s =>
    let mask := s.arg m 3
    if 256 ≤ mask then CmdRes.fail s errUNKNOWN
    else CmdRes.orRun s (s.bufErr m (0xA0 + 48 * popCount mask 8) true true)
      (let b := s.quoteBytes m mask
       if s.cmp.scan then CmdRes.fail s errORDER
       else
         let q := b ++ toBytesBE 96 (Config.sign s.free s.cmp.ks.attest (digest b)).toNat
         { s := s.draw.setBytes (s.bufAddr m) q, res := [q.length] }))

/-- GET_CERT. -/
def execGetCert (m : Fin 8) (s : State) : Host.Outcome State Fault Refusal :=
  s.command m 0x23 0x1C false false (fun s =>
    let c := (Config.certChain s.cmp.ks.attest s.cmp.ks.devId).map (· % 256)
    CmdRes.orRun s (s.bufErr m c.length false true) { s := s.setBytes (s.bufAddr m) c, res := [c.length] })

/-- VERIFY_IMAGE. -/
def execVerifyImage (m : Fin 8) (s : State) : Host.Outcome State Fault Refusal :=
  s.command m 0x24 0x1C false false (fun s =>
    let e := s.arg m 4
    if 4 ≤ s.arg m 3 ∨ (e ≠ 0 ∧ (e < 4 ∨ 8 ≤ e)) then CmdRes.fail s errARG
    else CmdRes.orRun s (s.bufErr m 1 true false)
      (let r := Config.signedBlob (s.cmp.ks.roots.get (s.arg m 3)) (s.bufRead m (s.bufLen m))
       if !s.rootLive (s.arg m 3) || r.1.val == 1 then CmdRes.fail s errAUTH
       else if r.1.val = 2 then CmdRes.fail s errDIGEST
       else if s.cmp.ks.lc = 3 ∧ r.2.1.toNat < s.cmp.ks.rollback then CmdRes.fail s errVERSION
       else { s := if e = 0 then s else s.measExtend e (toBytesBE 48 r.2.2.toNat), res := [r.2.1.toNat] }))

/-! ### Updates (R524, R525) -/

/-- The settings record that an opened bank is given: the one in force, or in recovery mode the one whose index 0 holds 1. -/
def State.recNew (s : State) : List Nat :=
  (List.range 1024).map (fun i => if s.on MBX_GSTAT_RECOVERY then b2n (i == 0) else s.pow.record.get i)

/-- UPD_BEGIN. `nvmOk` tells whether every page programs and verifies. -/
def execUpdBegin (m : Fin 8) (nvmOk : Bool) (s : State) : Host.Outcome State Fault Refusal :=
  s.commandNv m 0x30 0x0C true true (fun s =>
    let b := match s.cmp.booted with
      | some b => otherBank b
      | none => s.arg m 3 % 2
    if 2 ≤ s.arg m 3 then CmdRes.fail s errUNKNOWN
    else if s.cmp.trial then CmdRes.fail s errBUSY
    else if !nvmOk then CmdRes.fail s errNVM
    else { s := ((s.recCommit b s.recNew).ksSet (fun k => { k with upd := 1, bank := b, pending := none, tries := 0 })).raiseC 303 1 0, res := [b] })

/-- Whether an update may program `n` bytes at bank offset `o` (R524). -/
def updFits (p : Part) (o n : Nat) : Bool :=
  decide (256 ≤ n) && decide (n ≤ 0x1_0000) && n % 256 == 0 && o % 256 == 0 && decide (o + n ≤ envmBank p - 0x8000)

/-- Bytes programmed into the open bank, which is OPEN again (R524). -/
def State.updProgram (s : State) (o : Nat) (l : List Nat) : State :=
  (s.setBytes (bankBase s.cmp.ks.bank + o) l).ksSet (fun k => { k with upd := 1 })

/-- UPD_WRITE. -/
def execUpdWrite (m : Fin 8) (nvmOk : Bool) (s : State) : Host.Outcome State Fault Refusal :=
  s.commandNv m 0x31 0x0C true true (fun s =>
    if !updFits s.part (s.arg m 3) (s.arg m 2) then CmdRes.fail s errARG
    else CmdRes.orRun s (s.bufErr m 256 true false)
      (if s.cmp.ks.upd = 0 then CmdRes.fail s errORDER
       else if !nvmOk then CmdRes.fail s errNVM
       else { s := s.updProgram (s.arg m 3) (s.bufRead m (s.arg m 2)) }))

/-- UPD_FROM_XSPI: `data` are the bytes that the device returns, none where it does not respond. -/
def execUpdFromXspi (m : Fin 8) (data : Option (List Nat)) (nvmOk : Bool) (s : State) : Host.Outcome State Fault Refusal :=
  s.commandNv m 0x32 0x0C true true (fun s =>
    let n := s.arg m 5
    if !updFits s.part (s.arg m 3) n then CmdRes.fail s errARG
    else if s.cmp.ks.upd = 0 then CmdRes.fail s errORDER
    else if s.cmp.erasing then CmdRes.fail s errBUSY
    else match s.cmp.flash, data with
      | some _, some d =>
        if !nvmOk then CmdRes.fail s errNVM
        else { s := s.updProgram (s.arg m 3) ((List.range n).map (fun i => d.getD i 0 % 256)) }
      | _, _ => CmdRes.fail s errFLASH)

/-- Uncorrectable words found in bank `b`, reported under R444. -/
def State.eccBank (s : State) (b : Nat) (bad : List Nat) : State :=
  s.each (bad.filter (fun a => within a (bankBase b) (envmBank s.part))) (fun t a => t.eccSee a 8 false .uncorrectable)

/-- Whether one of the words lies in bank `b`. -/
def inBank (p : Part) (b : Nat) (bad : List Nat) : Bool := bad.any (fun a => within a (bankBase b) (envmBank p))

/-- The KiB that the images of a bank take, rounded up. -/
def State.imageKiB (s : State) (b : Nat) : Nat := ((s.images b).foldl (fun a e => a + e.2.2.1) 0 + 1023) / 1024

/-- UPD_VERIFY: `bad` are the addresses of words that cannot be corrected. -/
def execUpdVerify (m : Fin 8) (bad : List Nat) (s : State) : Host.Outcome State Fault Refusal :=
  s.commandNv m 0x33 0x0C true true (fun s =>
    let b := s.cmp.ks.bank
    if s.cmp.ks.upd = 0 then CmdRes.fail s errORDER
    else
      let e := s.verifyBank b (inBank s.part b bad)
      CmdRes.orRun (s.eccBank b bad) e
        { s := s.ksSet (fun k => { k with upd := 2 }), res := [s.manVersion b, s.manSlot b, s.imageKiB b] })

/-- UPD_ACTIVATE. The reset it may ask for follows at its completion. -/
def execUpdActivate (m : Fin 8) (s : State) : Host.Outcome State Fault Refusal :=
  s.commandNv m 0x34 0x0C true true (fun s =>
    let a := s.arg m 3
    if a &&& 0x71 ≠ a then CmdRes.fail s errUNKNOWN
    else if s.cmp.ks.upd ≠ 2 then CmdRes.fail s errORDER
    else
      let t := bf a 4 3
      { s := (s.ksSet (fun k => { k with upd := 0, pending := some k.bank, tries := if t = 0 then 3 else t })).raiseC 303 2 0 })

/-- UPD_CONFIRM. -/
def execUpdConfirm (m : Fin 8) (s : State) : Host.Outcome State Fault Refusal :=
  s.commandNv m 0x35 0x0C true false (fun s =>
    match s.cmp.booted with
    | none => CmdRes.fail s errORDER
    | some b =>
      if s.cmp.ks.pending ≠ some b then CmdRes.fail s errORDER
      else
        let roll := if s.cmp.ks.lc = 3 then max s.cmp.ks.rollback (s.manVersion b) else s.cmp.ks.rollback
        let s1 := s.ksSet (fun k => { k with active := b, pending := none, tries := 0, rollback := roll })
        { s := ({ s1 with cmp := { s1.cmp with trial := false } } : State).raiseC 303 3 (roll % 2 ^ 16), res := [roll] })

/-- UPD_REVERT. The reset it may ask for follows at its completion. -/
def execUpdRevert (m : Fin 8) (s : State) : Host.Outcome State Fault Refusal :=
  s.commandNv m 0x36 0x0C true true (fun s =>
    let b := otherBank (s.cmp.booted.getD s.cmp.ks.active)
    if 2 ≤ s.arg m 3 then CmdRes.fail s errUNKNOWN
    else if s.manVersion b < s.cmp.ks.rollback then CmdRes.fail s errVERSION
    else if s.verifyBank b false ≠ 0 then CmdRes.fail s errORDER
    else { s := (s.ksSet (fun k => { k with pending := some b, tries := 1 })).raiseC 303 4 0 })

/-! ### Settings, eNVM and the persistent area (R510, R526) -/

/-- The bank that ARG[3] names. -/
def State.cfgBank (s : State) (m : Nat) : Option Nat :=
  let a := s.arg m 3
  if a < 2 then some a else if a = 2 then s.cmp.booted else none

/-- CFG_READ. -/
def execCfgRead (m : Fin 8) (s : State) : Host.Outcome State Fault Refusal :=
  s.command m 0x40 0x1E true false (fun s =>
    match s.cfgBank m with
    | none => CmdRes.fail s errARG
    | some b =>
      if 1024 ≤ s.arg m 4 then CmdRes.fail s errARG
      else match s.recCopy b with
        | some k => { s := s, res := [s.recWord b k (s.arg m 4)] }
        | none => CmdRes.fail s errECC)

/-- CFG_WRITE; with no good copy the words of copy A are the ones that are changed (log entry 32). -/
def execCfgWrite (m : Fin 8) (nvmOk : Bool) (s : State) : Host.Outcome State Fault Refusal :=
  s.commandNv m 0x41 0x1E true false (fun s =>
    match s.cfgBank m with
    | none => CmdRes.fail s errARG
    | some b =>
      if 1024 ≤ s.arg m 4 then CmdRes.fail s errARG
      else if !nvmOk then CmdRes.fail s errNVM
      else
        let k := (s.recCopy b).getD 0
        let new (i : Nat) : Nat :=
          let w := s.recWord b k i
          if i = s.arg m 4 then (w ^^^ (w &&& s.arg m 6)) ||| (s.arg m 5 &&& s.arg m 6) else w
        { s := s.recCommit b ((List.range 1024).map new) })

/-- ENVM_REFRESH: `corrected` words of the page had a correctable error; `ecc` is the worst word found. -/
def execEnvmRefresh (m : Fin 8) (corrected : Nat) (ecc : EccObs) (nvmOk : Bool) (s : State) : Host.Outcome State Fault Refusal :=
  let n := min corrected 32
  let body (s : State) : CmdRes :=
    let a := s.arg m 3
    if a % 256 ≠ 0 ∨ !(within a (bankBase 0) (envmBank s.part) || within a (bankBase 1) (envmBank s.part)) then CmdRes.fail s errARG
    else if ecc == .uncorrectable || ecc == .addressError then CmdRes.fail (s.eccSee a 8 false ecc) errECC
    else
      let s1 := s.each (List.range n) (fun t _ => t.eccSee a 8 false .corrected)
      if n ≠ 0 ∧ !nvmOk then CmdRes.fail s1 errNVM else { s := s1, res := [n] }
  if n = 0 then s.command m 0x42 0x1E true false body else s.commandNv m 0x42 0x1E true false body

/-- PERSIST_READ: the entries, oldest first, 16 bytes each. -/
def execPersistRead (m : Fin 8) (s : State) : Host.Outcome State Fault Refusal :=
  s.command m 0x43 0x1E true false (fun s =>
    let l := s.evr.persist.reverse
    let one (p : PersistEntry) : List Nat := toBytes 8 p.at_.ns ++ toBytes 2 (p.src % 512) ++ toBytes 2 (satU 16 p.count) ++ toBytes 4 p.word
    CmdRes.orRun s (s.bufErr m 512 false true) { s := s.setBytes (s.bufAddr m) (l.flatMap one), res := [l.length] })

/-- PERSIST_CLEAR. -/
def execPersistClear (m : Fin 8) (s : State) : Host.Outcome State Fault Refusal :=
  s.command m 0x44 0x1E true false (fun s => { s := { s with evr := { s.evr with persist := [], commit := true } } })

/-! ### Restart and reset -/

/-- INNER_RESTART: a restart under way already stands for the one asked for. -/
def execInnerRestart (m : Fin 8) (s : State) : Host.Outcome State Fault Refusal :=
  s.command m 0x51 0x1E true false (fun s =>
    let h := s.arg m 0
    if !(decide (h < 8) && s.isHart h) then CmdRes.fail s errARG
    else if s.get (RGN_WSTAT_STATE h) = 3 then CmdRes.fail s errORDER
    else if s.get (RGN_WSTAT_STATE h) = 2 then { s := s }
    else { s := s.restartBegin h 4 })

/-- RESET_REQ: the reset begins, and the channel is freed by it (R506). -/
def execResetReq (m : Fin 8) (s : State) : Host.Outcome State Fault Refusal :=
  let kind := s.arg m 0
  let ok := (kind == 1 || kind == 2) && s.arg m 1 == 0x5253_5421
  if s.lcOk 0x1F && s.callerOk m true true && ok then
    match s.takeUp m 0x52 with
    | some s1 => done (s1.resetKind (if kind = 1 then 4 else 3) 5)
    | none => done s
  else s.command m 0x52 0x1F true true (fun s => CmdRes.fail s errARG)

/-! ### Keys and random bytes -/

/-- KEY_WRAP and KEY_UNWRAP: bytes in, bytes out. -/
def State.wrapping (s : State) (m grow : Nat) (f : List Nat → Option (List Nat)) : CmdRes :=
  let n := s.bufLen m
  let e := s.bufErr m 16 true true
  if e ≠ 0 then CmdRes.fail s e
  else if 4096 < n ∨ n % 8 ≠ 0 then CmdRes.fail s errARG
  else if !s.bufOk m (n + grow) .write then CmdRes.fail s errACCESS
  else if s.cmp.scan then CmdRes.fail s errORDER
  else match f (s.bufRead m n) with
    | some d =>
      let out := d.map (· % 256)
      { s := s.setBytes (s.bufAddr m) out, res := [out.length] }
    | none => CmdRes.fail s errAUTH

/-- KEY_WRAP: NIST SP 800-38F adds 8 bytes. -/
def execKeyWrap (m : Fin 8) (s : State) : Host.Outcome State Fault Refusal :=
  s.command m 0x60 0x1C false false (fun s =>
    s.wrapping m 8 (fun d => some (Config.keyWrap s.cmp.ks.secret s.cmp.ks.salt (s.mbxOwner m).inner (s.cmp.grp.get m) (s.arg m 3) d)))

/-- KEY_UNWRAP. -/
def execKeyUnwrap (m : Fin 8) (s : State) : Host.Outcome State Fault Refusal :=
  s.command m 0x61 0x1C false false (fun s =>
    s.wrapping m 0 (Config.keyUnwrap s.cmp.ks.secret s.cmp.ks.salt (s.mbxOwner m).inner (s.cmp.grp.get m) (s.arg m 3)))

/-- RNG: `bytes` come from the random bit generator. -/
def execRng (m : Fin 8) (bytes : List Nat) (s : State) : Host.Outcome State Fault Refusal :=
  s.command m 0x62 0x1E false false (fun s =>
    let n := s.bufLen m
    if 4096 < n then CmdRes.fail s errARG
    else CmdRes.orRun s (s.bufErr m 1 false true)
      { s := s.setBytes (s.bufAddr m) ((List.range n).map (fun i => bytes.getD i 0 % 256)) })

/-! ### External flash (R445) -/

/-- A command to the flash device goes out on its bus: opcode, address, length. -/
def State.xspi (s : State) (op a n : Nat) : State := s.emit (.link "XSPI" [op, a, n])

/-- XSPI_INIT: `found` is what the device answers: JEDEC ID and size in KiB. -/
def execXspiInit (m : Fin 8) (found : Option (Fin 4294967296 × Fin 4294967296)) (s : State) : Host.Outcome State Fault Refusal :=
  s.command m 0x70 0x1E true true (fun s =>
    if 2 ≤ s.arg m 3 ∨ s.arg m 4 = 0 ∨ 200 < s.arg m 4 then CmdRes.fail s errARG
    else if s.cmp.erasing then CmdRes.fail s errBUSY
    else
      let s1 := s.xspi 0x70 (s.arg m 3) (s.arg m 4)
      match found with
      | some (j, k) => { s := { s1 with cmp := { s1.cmp with flash := some (s.arg m 3) } }, res := [j, k] }
      | none => CmdRes.fail s1 errFLASH)

/-- XSPI_READ: `data` are the bytes that the device returns. -/
def execXspiRead (m : Fin 8) (data : Option (List Nat)) (s : State) : Host.Outcome State Fault Refusal :=
  s.command m 0x71 0x1E true true (fun s =>
    let n := s.bufLen m
    if 0x1_0000 < n then CmdRes.fail s errARG
    else CmdRes.orRun s (s.bufErr m 1 false true)
      (if s.cmp.erasing then CmdRes.fail s errBUSY
       else match s.cmp.flash, data with
         | some _, some d =>
           { s := (s.xspi 0x71 (s.arg m 3) n).setBytes (s.bufAddr m) ((List.range n).map (fun i => d.getD i 0 % 256)) }
         | _, _ => CmdRes.fail s errFLASH))

/-- XSPI_PROGRAM: pages of 256 bytes; `ok` tells whether the device programs each within 5 ms. -/
def execXspiProgram (m : Fin 8) (ok : Bool) (s : State) : Host.Outcome State Fault Refusal :=
  s.command m 0x72 0x1E true true (fun s =>
    let n := s.bufLen m
    if 0x1_0000 < n ∨ s.arg m 3 % 256 ≠ 0 then CmdRes.fail s errARG
    else CmdRes.orRun s (s.bufErr m 1 true false)
      (if s.cmp.erasing then CmdRes.fail s errBUSY
       else
         let s1 := s.emit (.link "XSPI" ([0x72, s.arg m 3, n] ++ s.bufRead m n))
         if s.cmp.flash.isNone then CmdRes.fail s errFLASH
         else if !ok then CmdRes.fail s1 errFLASH
         else { s := s1 }))

/-- XSPI_ERASE: the device goes on erasing on its own. -/
def execXspiErase (m : Fin 8) (ok : Bool) (s : State) : Host.Outcome State Fault Refusal :=
  s.command m 0x73 0x1E true true (fun s =>
    let a := s.arg m 3
    let z := s.arg m 4
    if 3 ≤ z ∨ (z = 0 ∧ a % 0x1000 ≠ 0) ∨ (z = 1 ∧ a % 0x1_0000 ≠ 0) then CmdRes.fail s errARG
    else if s.cmp.erasing then CmdRes.fail s errBUSY
    else
      let s1 := s.xspi 0x73 a z
      if s.cmp.flash.isNone then CmdRes.fail s errFLASH
      else if !ok then CmdRes.fail s1 errFLASH
      else { s := { s1 with cmp := { s1.cmp with erasing := true } } })

/-- The device has completed its erase. -/
def execXspiEraseDone (s : State) : Host.Outcome State Fault Refusal := done { s with cmp := { s.cmp with erasing := false } }

/-! ### Secure boot (R520, R521) -/

/-- R520: a boot attempt of bank `b` with the words found there that cannot be corrected. -/
def State.bootWith (s : State) (b : Nat) (bad : List Nat) : State × Bool := (s.eccBank b bad).bootTry b (inBank s.part b bad)

/-- R520, R551 steps 3 to 6: Compass starts, takes the key store and boots a bank, or enters recovery mode. `bad` are the addresses of eNVM words that cannot be
corrected, `us` the time the boot took. While VBAT is low, a start that must commit the key store or complete an erasure waits (R532). -/
def execSecureBoot (bad : List Nat) (us : Nat) (s : State) : Host.Outcome State Fault Refusal :=
  let ks := s.cmp.ks
  let first := if 0 < ks.tries then ks.pending.getD ks.active else ks.active
  if s.pow.bringUp.isNone || s.pow.pin || !s.pow.coreUp || !s.pow.vbat || s.get SYS_READY_STAGE != 0 || !s.coreTested then done s
  else if s.on PWR_STAT_VBATLO && (ks.erase || (ks.lc != 0 && ks.lc != 5 && ks.pending.isSome)) then done (s.set PWR_STAT_NVMHOLD 1)
  else
    let s0 := ((s.set SYS_READY_STAGE 1).eraseFinish).showLc
    let cold := s.pow.bringUp != some 4
    let s1 := if cold then (((s0.set SYS_CLKSTAT_XTAL_OK (b2n (!s0.gtb.rc))).set PWR_DOMSTAT_UP 0x301F).islands) else s0
    let s2 : State := { s1 with cmp := { s1.cmp with bootUs := us % 2 ^ 32 } }
    if ks.lc = 0 ∨ ks.lc = 5 then done s2.recovery
    else
      let s3 := if ks.pending = some first then s2.ksSet (fun k => { k with tries := k.tries - 1 }) else s2
      let r := s3.bootWith first bad
      if r.2 then done r.1
      else
        let q := r.1.bootWith (otherBank first) bad
        if q.2 then done q.1 else done q.1.recovery

end Sys2Proof.Machine
end

