-- ==== Sys2Proof/Machine/Evr.lean ====
section
/-! DEFINITION. The commands of the event router: entry into the sort, release to the sinks, the drain of the log and
trace paths, and the acknowledgement of an alarm (R71 to R82). -/

namespace Sys2Proof.Machine

open Sys2Proof

/-- R74, R82, R85: the oldest event that has entered the router is taken into the sort with the route of its stamp,
or, when its stamp lies more than 500 ns back, queued as a late event. -/
def execEventEnterEvr (s : State) : Host.Outcome State Fault Refusal := done s.sortTake

/-- R72, R540: the first event of the sort is released to its sinks, 500 ns after its stamp (the command is that instant); `b` is what a commit of the persistent
area meets. -/
def execEventRelease (b : BakObs) (s : State) : Host.Outcome State Fault Refusal :=
  match s.evr.sorted with
  | [] => done s
  | e :: rest => done (({ s with evr := { s.evr with sorted := rest } }.deliver e).persistCommit b)

/-- R82, R540: the first late event is released to its sinks with its original stamp. -/
def execLateEventRelease (b : BakObs) (s : State) : Host.Outcome State Fault Refusal :=
  match s.evr.late with
  | [] => done s
  | e :: rest => done (({ s with evr := { s.evr with late := rest } }.deliver e).persistCommit b)

/-- The type bits of a record (R75). -/
def recTypeCode : RecType → Nat
  | .event => 0 | .loss => 1 | .jump => 2 | .late => 3

/-- The 16 bytes of a log or trace record (R75). -/
def recordBytes (e : Ev) : List Nat :=
  toBytes 8 e.at_.ns ++
    toBytes 4 (e.at_.frac % 256 * 2 ^ 24 + e.route.cls % 4 * 2 ^ 22 + recTypeCode e.typ * 2 ^ 20 + e.src % 512) ++ toBytes 4 e.word

/-- The number of 16-byte records of the log ring: 2^SIZE bytes, SIZE 12 to 20, other values acting as 12 (R84). -/
def State.logRing (s : State) : Nat :=
  let z := s.get EVR_LOGCFG_SIZE
  2 ^ (if 12 ≤ z ∧ z ≤ 20 then z else 12) / 16

/-- R75, R77: the log path writes its oldest record into the ring at WR as initiator 11. A full ring stops the path with
MODE = 0 and is overwritten with MODE = 1; a refused write disables the path and raises source 31. With MODE = 1 too the ring counts as full when WR + 1 = RD, the test
that R84 gives for MODE = 0 (DESIGN CHOICE, log entry 116). A write that meets a parity error (`parity`) is refused as well (R31). -/
def execLogRecordWrite (parity : Bool) (s : State) : Host.Outcome State Fault Refusal :=
  if !s.on EVR_LOGCFG_EN then done s
  else match s.evr.logQ with
    | [] => done s
    | e :: _ =>
      let n := s.logRing
      let wr := s.get EVR_LOGWR_WR % n
      let full := ringNext wr n == s.get EVR_LOGRD_RD % n
      if full && !s.on EVR_LOGCFG_MODE then done s
      else
        let base := s.get EVR_LOGBASE_BASE / 4096 * 4096
        match s.fabWrite 11 (base + 16 * wr) (recordBytes e) parity with
        | (s1, false) => done ((s1.set EVR_LOGCFG_EN 0).raise 31 0)
        | (s1, true) => done (((s1.pathPop true).set EVR_LOGWR_WR (ringNext wr n)).setIf full EVR_STAT_WRAPPED 1)

/-- R75: the trace path hands its oldest record to the trace unit. -/
def execTraceRecordHandoff (s : State) : Host.Outcome State Fault Refusal :=
  if !s.on EVR_TRCCFG_EN then done s
  else match s.evr.trcQ with
    | [] => done s
    | e :: _ => done ((s.pathPop false).emit (.link "TRACE" (recordBytes e)))

/-- R80: an acknowledgement frees the entry of its source when the counts are equal, and reduces COUNT when it is smaller. A freed entry reads VALID and COUNT 0 and keeps
SRC, FIRST and LAST (DESIGN CHOICE, log entry 117). -/
def execAlarmAck (src count : Nat) (s : State) : Host.Outcome State Fault Refusal :=
  match s.alarmOf (src % 512) with
  | none => done s
  | some k =>
    let c := s.get (EVR_ALMSRC_COUNT k)
    let n := count % 2 ^ 16
    if n = c then
      done ((((s.set (EVR_ALMSRC_VALID k) 0).set (EVR_ALMSRC_COUNT k) 0).set EVR_ALMSTAT_USED
        (s.get EVR_ALMSTAT_USED - 1)).set EVR_ALMSTAT_FULL 0)
    else if n < c then done (s.set (EVR_ALMSRC_COUNT k) (c - n))
    else done s

end Sys2Proof.Machine
end

