-- ==== Sys2Proof/Machine/Fabric.lean ====
section
/-! DEFINITION. Fabric requests as they reach their targets: checks, memory, registers with what their writes and reads do, and the outbound range
(R30, R31, R437 to R444, R446 to R453, R585 to R599). -/

namespace Sys2Proof.Machine

open Sys2Proof

/-- How a fabric access ends: data (0 for a write), an error response, or a completion still to come. -/
inductive FabEnd where
  | data (v : Nat)
  | error
  | pending
  deriving DecidableEq, Repr

/-- The state after a meaning that always completes. -/
def State.ran (s : State) (o : Host.Outcome State Fault Refusal) : State :=
  match o with
  | .next t => t
  | _ => s

/-! ### What writes do beyond their fields -/

/-- SYS_TWIN (R38): on a part that is no twin half, writes are ignored. -/
def sysWrite (a v : Nat) (old s : State) : State :=
  if a = a_SYS_TWIN then
    if !isTwin s.part then s.ignored old else if bitOf v 4 then s.handoff else s
  else s

/-- RST and PWR (R534 to R536, R547). -/
def powerWrite (a v : Nat) (old s : State) : State :=
  if a = a_RST_BLKRST then
    if old.on RST_BLKRST_GO then (s.ignored old).setIf (bitOf v 30) RST_BLKRST_ERR 0
    else if bitOf v 31 then (s.set RST_BLKRST_GO 0).blkGo (bf v 0 7) else s
  else if a = a_PWR_DOMCTL then s.domctlWrite old
  else if a = a_PWR_VCORE then s.vcoreFollow
  else s

/-- The unit of a GTB page of 8 units. -/
def gtbUnit (a base : Nat) : Nat := (a - base) / 0x1000 * 8 + a % 0x1000 / 0x20

/-- A trigger is enabled and its compare value lies at or below the GTB (R56). -/
def State.trgDue (s : State) (n : Nat) : Bool := s.on (GTB_TRGCTL_EN n) && decide (s.trgCmp n ≤ s.now256)

/-- The GTB block (R41, R49, R50, R56, R57, R60, R64, R629). Every write of GTB_CFG writes its field DOMAIN (R50, R596). -/
def gtbWrite (a v : Nat) (old s : State) : State :=
  if a = a_GTB_RATE then
    if old.on GTB_CFG_SERVO then s.set GTB_RATE_RATE (old.get GTB_RATE_RATE)
    else s.setS GTB_RATE_RATE (clampI (-rateLimit) rateLimit (s.getS GTB_RATE_RATE))
  else if a = a_GTB_CFG then
    let s1 : State := if s.on GTB_CFG_SERVO && !old.on GTB_CFG_SERVO then { s with gtb := { s.gtb with slew := 0 } } else s
    (s1.enterHoldover.refreshSlot (old.get GTB_CFG_DOMAIN)).refreshSlot (s.get GTB_CFG_DOMAIN)
  else if a = a_GTB_ADJCTL then
    let s1 := if bitOf v 1 then s.ran (execSlewStart s) else s
    if bitOf v 0 then s1.ran (execGtbStep s1) else s1
  else if a = a_GTB_SNAPCTL then (if bitOf v 0 then s.ran (execSnapshotTake s) else s)
  else if within a 0x4001_0100 0x100 then
    let d := (a - 0x4001_0100) / 0x40
    if a % 0x40 = 0 then
      let s1 := if old.on (GTB_DCFG_EN d) && !s.on (GTB_DCFG_EN d) && s.get GTB_CFG_DOMAIN == d then s.enterHoldover else s
      s1.refreshSlot d
    else if a % 0x40 = 4 then s.set (GTB_DPORTS_PORTS d) (s.get (GTB_DPORTS_PORTS d) &&& 0x30FFF)
    else s.refreshSlot d
  else if within a 0x4001_1000 0x8000 then
    let n := gtbUnit a 0x4001_1000
    if a % 0x20 = 0 then
      let s1 := s.arm n
      if !old.on (GTB_TRGCTL_EN n) && s1.trgDue n then s1.fireLate n else s1
    else if a % 0x20 = 8 then (if s.trgDue n then s.fireLate n else s)
    else s
  else if within a 0x4001_9000 0x4000 then
    let n := gtbUnit a 0x4001_9000
    if a % 0x20 = 0 && bitOf v 0 then
      let s1 : State := { s with gtb := { s.gtb with caps := s.gtb.caps.put n (s.gtb.caps.get n).tail } }
      s1.capShow n
    else s
  else s

/-- ZONE_OK and the other CRS registers (R318, R320, R333, R334). -/
def crsRegWrite (a v : Nat) (old s : State) : State :=
  if a = a_CRS_ZOK then
    let s1 := if bitOf v 31 then s.zoneRequest else s
    if bitOf v 30 then s1.zoneLow 1 else s1
  else crsWrite a v old s

/-- What a write does beyond the fields of its register, block by block. -/
def blockWrite : WriteHook := fun a v old s =>
  if within a 0x4000_0000 0x1000 then sysWrite a v old s
  else if within a 0x4000_1000 0x2000 then powerWrite a v old s
  else if within a 0x4001_0000 0xD000 then gtbWrite a v old s
  else if a = a_EVR_ALMACK then s.ran (execAlarmAck (bf v 16 9) (bf v 0 16) s)
  else if within a 0x4004_0000 0x4000 then 
    -- a restarted JMAX takes up JOCC (R597)
    (let n := (a - 0x4004_0000) / 0x1000
     if a % 0x1000 = 0 && bitOf v 0 then s.ckBegin n else if a % 0x1000 = 0x14 then s.track (PAIR_CKSTAT_JMAX n) (s.get (PAIR_STAT_JOCC n)) else s)
  else if within a 0x4005_0000 0xC000 then tgWrite a v old s
  else if within a 0x4100_0000 0x40_0000 then convWrite a v old s
  else if within a 0x4200_0000 0x4000 then pscWrite a s
  else if within a 0x4300_0000 0x20_0000 then eswWrite a v old s
  else if within a 0x4400_0000 0x10_0000 then canWrite a v old s
  else if within a 0x4410_0000 0x8000 then linWrite a v old s
  else if within a 0x4420_0000 0x1000 then crsRegWrite a v old s
  else if within a 0x4500_0020 0x10 then
    -- a restarted MAXPDUS takes up PDUS (R597)
    (let c := (a - 0x4500_0020) / 4
     s.track (GW_CSTAT_MAXPDUS c) (s.get (GW_CSTAT_PDUS c)))
  else if within a 0x4510_0000 0x3000 then pcieRegWrite a v old s
  else if within a 0x4700_0000 0x20_0000 then vimWrite a v old s
  else s

/-! ### What reads show and do beyond their fields -/

/-- SYS_CAP of a part (R2, R3, R600). -/
def State.sysCap (s : State) : State :=
  let p := s.part
  ((((((s.set SYS_CAP_NPAIR (nPair p)).set SYS_CAP_NTG (nTg p)).set SYS_CAP_NPSC (((List.range 40).filter (hasPsc p)).length)).set SYS_CAP_NCAN
    (nCan p)).set SYS_CAP_NLIN (nLin p)).set SYS_CAP_NPORT (((List.range 18).filter (hasPort p)).length))

/-- Registers that show a running value, brought up to it before they are read (R5, R38, R43, R564, R600). -/
def blockBefore (a : Nat) (s : State) : State :=
  if a = a_SYS_ID then (s.set SYS_ID_PART (sysId s.part / 2 ^ 16)).set SYS_ID_HALF (bf (sysId s.part) 8 1)
  else if a = a_SYS_CAP then s.sysCap
  else if a = a_SYS_TWIN then (if isTwin s.part then s else s.set SYS_TWIN_ARMED 0)
  else if a = a_RST_STORM then s.stormShow
  else if a = a_GTB_NOW then s.set GTB_NOW_NS s.nowNs
  else if within a 0x4004_0000 0x4000 then (if a % 0x1000 = 0xC then s.pairShow ((a - 0x4004_0000) / 0x1000) else s)
  else if within a 0x4005_0000 0xC000 then
    -- TG_PCTL of an odd engine reads 0 (R184)
    (let e := (a - 0x4005_0000) / 0x1000
     if a = a_TG_PCTL e ∧ e % 2 = 1 then ((s.set (TG_PCTL_PAIR e) 0).set (TG_PCTL_PROT e) 0).set (TG_PCTL_SKEW e) 0 else s)
  else if within a 0x4008_0080 0x80 then (if a % 0x10 = 4 then s.wstatShow ((a - 0x4008_0080) / 0x10) else s)
  else if within a 0x4100_0000 0x40_0000 then convBefore a s
  else if within a 0x4200_3000 0x1000 then pscBefore a s
  else if within a 0x4310_0000 0x1_6000 then eswBefore a s
  else if within a 0x4400_0000 0x10_0000 then canBefore a s
  else if within a 0x4420_0000 0x1000 then crsBefore a s
  else if within a 0x4600_0100 0xE8 then
    let u := (a - 0x4600_0100) / 4
    s.set (STE_USTAT_AGE u) (if s.unitExists u then satU 8 ((s.pow.refNs + 1 - s.ste.passNs.get u) / 1000000) else 0)
  else s

/-- What a read does beyond its RC fields. -/
def blockAfter (a : Nat) (s : State) : State :=
  if within a 0x4100_0000 0x40_0000 then convAfter a s
  else if within a 0x4200_0000 0x4000 then pscAfter a s
  else s

/-- The reads of all blocks. -/
def blockRead : ReadHook := ⟨blockBefore, blockAfter⟩

/-! ### The mailbox page (R501 to R505, R528) -/

/-- A word written to the mailbox page by `r`; `vi` is the instance whose generation it carries. -/
def State.mbxWrite4 (s : State) (r : Req) (vi : Option Nat) (a v : Nat) : State :=
  let o := a - 0x4000_8000
  let m := o / 0x80
  let k := o % 0x80
  let mine := s.mbxMine m r && (s.mbx m == mbxOWNED || s.mbx m == mbxDONE)
  if 0x400 ≤ o then s
  else if k = 0 then
    if !mine then s
    else if bitOf v 31 then s.mbxGo m r (v % 256) else s.set (MBX_CMD_OPCODE m) (v % 256)
  else if k = 4 then
    if s.mbx m = mbxFREE then (if bitOf v 28 then s.mbxClaim m r vi else s)
    else if bitOf v 27 then s.mbxRelease m r else s
  else if 0x20 ≤ k ∧ k < 0x40 then (if mine then s.set (MBX_ARG_ARG m ((k - 0x20) / 4)) v else s)
  else s

/-- A word of the mailbox page as `r` reads it. -/
def State.mbxRead4 (s : State) (r : Req) (a : Nat) : Nat × State :=
  let o := a - 0x4000_8000
  let m := o / 0x80
  let x := s.read4 blockRead r.id (r.debug || r.id == 9) a
  if o < 0x400 then
    if o % 0x80 = 4 then (x.1 + b2n (s.mbxMine m r) * 2 ^ 26, x.2)
    else if s.mbxMine m r then x else (0, s)
  else x

/-! ### The region checkers' own registers (R448, R450, R453, R461) -/

/-- A word written to the RGN block: whether it is taken, or answered with an error response. -/
def State.rgnWrite4 (s : State) (r : Req) (a v : Nat) : State × Bool :=
  if a < 0x4008_1000 then
    let o := a - 0x4008_0000
    if within o 0x40 0x20 then (s.igrpWrite ((o - 0x40) / 4) v, true)
    else if within o 0x80 0x80 && o % 0x10 == 0 && bitOf v 31 && !kickOk ((o - 0x80) / 0x10) r then (s.refuse a r .write 7 0x4000_0000, false)
    else (s.write4 blockWrite a v, true)
  else
    let t := (a - 0x4008_1000) / 0x1000
    let o := a % 0x1000
    if o < 0x100 ∨ 0x500 ≤ o then (s, true)
    else
      let k := (o - 0x100) / 0x20
      let w := (o - 0x100) % 0x20
      if !s.slotOpen r t k then (s, false)
      else if w = 0 then (s.rctlWrite t k v, true)
      else if w ≤ 0x10 then ({ s with held := s.held.put a (some (v % 2 ^ 32)) }, true)
      else (s, true)

/-! ### CAN objects and switch channels (R191, R283, R289) -/

/-- R283: a refused access to an object: logged as a violation, and source 192 + 2c with cause 6. -/
def State.canRefuse (s : State) (c o a : Nat) (r : Req) (k : AccKind) : State :=
  (s.refuse a r k 11 0x4400_0000).raiseC (192 + 2 * c) 6 o

/-- R283, R289: whether an access to offset `off` of controller `c` is turned away: for its owner, or for a request that stands. -/
def State.canGuard (s : State) (c off a : Nat) (r : Req) (vi : Option Nat) (k : AccKind) : Option State :=
  match s.canObjAt c off with
  | none => none
  | some o =>
    if !s.canOwns c o r vi then some (s.canRefuse c o a r k)
    else if k == .write && s.canLocked c off then some s
    else none

/-! ### Register space (R586, R587, R589) -/

/-- A register of a switch channel that the part does not carry: it reads 0 and ignores writes (R3, R601). -/
def pscAbsent (p : Part) (a : Nat) : Bool := within a 0x4200_0000 0x2800 && !hasPsc p ((a - 0x4200_0000) / 0x100)

/-- One 32-bit write to a register: taken, or answered with an error response. -/
def State.word (s : State) (r : Req) (vi : Option Nat) (a v : Nat) : State × Bool :=
  if within a 0x4000_8000 0x1000 then (s.mbxWrite4 r vi a v, true)
  else if within a 0x4008_0000 0x1_2000 then s.rgnWrite4 r a v
  else if pscAbsent s.part a then (s, true)
  else if within a 0x4200_0000 0x2800 && a % 0x100 == 0 then s.pscCommand ((a - 0x4200_0000) / 0x100) (v % 16) r vi
  else if within a 0x4301_0000 0x4_0000 then
    let i := (a - 0x4301_0000) / 0x10
    (if a % 0x10 < 0xC then (s.mirrored a v).fdbWindow i (a % 0x10 / 4) v else s, true)
  else if within a 0x4400_0000 0x10_0000 then
    let c := (a - 0x4400_0000) / 0x1_0000
    let off := a % 0x1_0000
    match s.canGuard c off a r vi .write with
    | some s1 => (s1, false)
    | none => if 0x2000 ≤ off then ((s.mirrored a v).store a 4 v, true) else ((s.mirrored a v).write4 blockWrite a v, true)
  else if (gwCommitOf a).isSome then ((s.mirrored a v).gwTableWrite a v, true)
  else ((s.mirrored a v).write4 blockWrite a v, true)

/-- Whether an 8-byte write to `a` is the write of a pair; other addresses take two 32-bit writes (R588, R589). -/
def isPair (a : Nat) : Bool :=
  !within a 0x4301_0000 0x4_0000 && (gwCommitOf a).isNone &&
  (match findReg a allRegs with
   | some (r, _, _, _) => r.size == 8
   | none => false)

/-- A write of 4 or 8 bytes to the register space. -/
def State.regFabWrite (s : State) (r : Req) (vi : Option Nat) (a size v : Nat) : State × Bool :=
  if size = 4 then s.word r vi a (v % 2 ^ 32)
  else if pscAbsent s.part a then (s, true)
  else if isPair a then ((s.mirrored8 a v).regWrite blockWrite a 8 v, true)
  else
    let x := s.word r vi a (v % 2 ^ 32)
    let y := x.1.word r vi (a + 4) (v / 2 ^ 32 % 2 ^ 32)
    (y.1, x.2 && y.2)

/-- A read of 4 or 8 bytes of the register space: none is an error response. -/
def State.regFabRead0 (s : State) (r : Req) (vi : Option Nat) (a size : Nat) : State × Option Nat :=
  let dbg := r.debug || r.id == 9
  if pscAbsent s.part a then (s, some 0)
  else if within a 0x4000_8000 0x1000 then
    let x := s.mbxRead4 r a
    if size = 4 then (x.2, some x.1)
    else
      let y := x.2.mbxRead4 r (a + 4)
      (y.2, some (x.1 + y.1 * 2 ^ 32))
  else if within a 0x4400_0000 0x10_0000 then
    let c := (a - 0x4400_0000) / 0x1_0000
    let off := a % 0x1_0000
    match s.canGuard c off a r vi .read with
    | some s1 => (s1, none)
    | none =>
      if 0x2000 ≤ off then (s, some (s.load a size))
      else
        let x := s.regRead blockRead r.id dbg a size
        (x.2, some x.1)
  else
    let x := s.regRead blockRead r.id dbg a size
    (x.2, some x.1)

/-- R273: a read of registers of an EPORT page that the kind of its port does not carry gives 0. -/
def eportShown (a size v : Nat) : Nat :=
  (if eportCarries a then v % 2 ^ 32 else 0) + (if size = 8 ∧ eportCarries (a + 4) then v / 2 ^ 32 * 2 ^ 32 else 0)

/-- A read of a register through the fabric (R273, R587). -/
def State.regFabRead (s : State) (r : Req) (vi : Option Nat) (a size : Nat) : State × Option Nat :=
  let x := s.regFabRead0 r vi a size
  if within a 0x4310_0000 0x1_6000 then (x.1, x.2.map (eportShown a size)) else x

/-- The access forms that the register space and the instance pages take (R587). -/
def regForm (acc : AccKind) (a size : Nat) : Bool :=
  (acc == .read || acc == .write) && ((size == 4 && a % 4 == 0) || (size == 8 && a % 8 == 0))

/-! ### Instance pages (R472 to R476, R489, R490, R492, R499) -/

/-- Whether windows and doorbells of a resource are refused now (R490, R492). -/
def State.viShut (s : State) (i kind slot : Nat) : Bool :=
  decide (3 ≤ s.viState i) || (s.vi.get i).drain == some (kind, slot)

/-- R476: a request that an instance makes on CAN: none where it is refused. -/
def State.viCanMay (s : State) (i c ch o : Nat) : State × Bool :=
  let bad := (s.get (CAN_OBJID_ID ch o) ^^^ s.get (VIM_CANID_ID i c)) &&& s.get (VIM_CANMASK_MASK i c) != 0 || s.get (CAN_OBJID_IDE ch o) != s.get (VIM_CANID_IDE i c)
  let w := s.nowNs / 10_000_000 + 1
  let p := (s.vi.get i).canWin.get c
  let n := if p.1 = w then p.2 else 0
  if bad then (s, false)
  else if s.get (VIM_CANTX_TXMAX i c) ≤ n then (s.inc (VIM_ICNT_LIMHIT i), false)
  else (s.viUpd i (fun v => { v with canWin := v.canWin.put c (w, n + 1) }), true)

/-- R476: a channel command of an instance: refused where PSCQ of its commands wait in the die's queue. -/
def State.viPsc (s : State) (i n op : Nat) (r : Req) : State × Bool :=
  let q := (s.psc.queue.get (pscDieOf n)).filter (fun c => c.vi == some i)
  if s.get (VIM_LIM2_PSCQ i) ≤ q.length then ((s.set (PSC_STAT_REFUSED n) 1).inc (VIM_ICNT_LIMHIT i), false)
  else s.pscCommand n op r (some i)

/-- A word that a window shows: where it leads, and whether writes are admitted (R474, R475). -/
inductive ViTo where
  /-- Nothing is held there: reads 0 and ignores writes. -/
  | nothing
  /-- A register of the page itself. -/
  | own
  /-- MSI-X table and PBA. -/
  | msix
  /-- A register or a byte range at an address, with the resource it belongs to; writes admitted or not. -/
  | at (addr kind slot : Nat) (write : Bool)
  /-- PSC_CMD of a channel. -/
  | cmd (n : Nat)
  /-- A route of the set. -/
  | route (addr : Nat)
  /-- A word of a CAN header: controller, set, object, address. -/
  | can (ch c o addr : Nat)
  deriving DecidableEq, Repr

/-- The channels of an instance, in the order of its page (R474). -/
def State.viChans (s : State) (i : Nat) : List Nat := (List.range 40).filter (bitOf (s.get (VIM_PSCMASK_CH i)))

/-- Where offset `x` of the page of instance `i` leads (R474). -/
def State.viWhere (s : State) (i x : Nat) : ViTo :=
  if within x 0x800 0x800 then .msix
  else if x < 0x1000 then .own
  else if x < 0x2000 then (if s.viSlot i ((x - 0x1000) / 0x100) then .own else .nothing)
  else if x < 0x3000 then
    let k := (x - 0x2000) / 0x40
    if !s.on (VIM_IATT_PSC i) then .nothing
    else match (s.viChans i)[k]? with
      | none => .nothing
      | some n =>
        let y := x % 0x40
        if y = 0 then .cmd n
        else if y = 0x18 then .own
        else if y < 0x18 then .at (a_PSC_STAT n + (y - 4)) 2 0 false
        else .nothing
  else if x < 0x3800 then
    let k := (x - 0x3000) / 8
    if s.on (VIM_IATT_RSET i) && decide (k < s.get (VIM_RSET_RCNT i)) then .route (a_GW_RT ((s.get (VIM_RSET_RBASE i) + k) % 65536) + x % 8) else .nothing
  else if x < 0x4000 then .nothing
  else if x < 0x5000 then
    let y := x - 0x4000
    if s.on (VIM_IATT_TG i) && decide (s.get (VIM_TG_ENG i) < nTg s.part) then .at (0x4005_0000 + s.get (VIM_TG_ENG i) * 0x1000 + y) 4 0 (!(y == 8 || y == 0x20 || y == 0x24 || y == 0x1C)) else .nothing
  else if x < 0x5800 then
    let c := (x - 0x5000) / 0x400
    let j := x % 0x400 / 0x20
    let ch := s.get (VIM_CAN_CH i c)
    let o := s.get (VIM_CAN_OBASE i c) + j
    if bitOf (s.get (VIM_IATT_CAN i)) c && decide (j ≤ s.get (VIM_CAN_OCNT i c)) && decide (o < 128) then
      .can ch c o (0x4400_0000 + ch * 0x1_0000 + 0x1000 + o * 0x20 + x % 0x20)
    else .nothing
  else if x < 0x6000 then .nothing
  else if x < 0x8000 then
    let c := (x - 0x6000) / 0x1000
    let off := 0x2000 + s.get (VIM_CAN_PBBASE i c) * 64 + x % 0x1000
    if bitOf (s.get (VIM_IATT_CAN i)) c && decide (off < 0x1_0000) then .at (0x4400_0000 + s.get (VIM_CAN_CH i c) * 0x1_0000 + off) 1 c true else .nothing
  else if s.on (VIM_IATT_TG i) && decide (s.get (VIM_TG_ENG i) < nTg s.part) then
    let e := s.get (VIM_TG_ENG i)
    .at ((if s.on (VI_TGWIN_SEL i) then tgDmem e else tgImem e) + s.get (VI_TGWIN_HALF i) * 0x8000 + (x - 0x8000)) 4 0 true
  else .nothing

/-- A write to the local memory of an engine: IMEM at once, DMEM through its input stage, both copies of a pair (R135, R170). -/
def State.tgMemWrite (s : State) (a size v : Nat) : State :=
  let e := (a - 0x2000_0000) / 0x4_0000
  let off := a % 0x4_0000
  if 0x1_0000 ≤ off then s.tgFabricDmem e (off - 0x1_0000) size v
  else s.each (s.tgCopies e) (fun t k => t.store (tgImem k + off) size v)

/-- What a write to a register of an instance page does beyond its fields. -/
def viPageHook (i : Nat) : WriteHook := fun a v _ s => if a = a_VI_CTL i ∧ bitOf v 31 = true then s.viReset i else s

/-- A byte address of the MSI-X table is a vector-control byte; its mask bit stands inverted, so that an empty table is masked (log entry 25). -/
def msixMask (x : Nat) : Bool := decide (x < 0x880) && x % 16 == 12

/-- The MSI-X table and PBA read and written; the PBA ignores writes, and a vector that is unmasked with its PBA bit set is sent (R477). -/
def State.msixRead (s : State) (i x n : Nat) : Nat :=
  ofBytes ((List.range n).map (fun j => let b := s.byte (0x6000_0000 + i * 0x1_0000 + x + j); if msixMask (x + j) then b ^^^ 1 else b))

def State.msixWrite (s : State) (i x n v : Nat) : State :=
  let base := 0x6000_0000 + i * 0x1_0000
  let s1 := s.each (List.range n) (fun t j =>
    if 0x880 ≤ x + j then t
    else
      let b := v / 2 ^ (8 * j) % 256
      t.setByte (base + x + j) (if msixMask (x + j) then (b % 2) ^^^ 1 else b))
  s1.each (List.range 8) (fun t w =>
    if bitOf (t.byte (base + 0x80C + 16 * w)) 0 && bitOf (t.byte (base + 0x880)) w then
      (t.setByte (base + 0x880) (clrBit (t.byte (base + 0x880)) w)).msix i w
    else t)

/-- One 32-bit write to an instance page; the result says whether it was taken (R475, R476, R490, R492). -/
def State.viWord (s : State) (i : Nat) (r : Req) (x v : Nat) : State × Bool :=
  let a := 0x6000_0000 + i * 0x1_0000 + x
  match s.viWhere i x with
  | .nothing => (s, true)
  | .msix => (s.msixWrite i x 4 v, true)
  | .own =>
    let k := (x - 0x1000) / 0x100
    if within x 0x1000 0x1000 && (x % 0x100 == 0xC || x % 0x100 == 0x2C) then
      if s.viShut i 0 k then (s, false) else (s.viDoorbell i (x % 0x100 == 0x2C) k (v % 4096), true)
    else if 0x2000 ≤ x then (s, false)
    else (s.write4 (viPageHook i) a v, true)
  | .cmd n => if s.viShut i 2 0 then (s, false) else s.viPsc i n (v % 16) r
  | .route b =>
    if s.viShut i 3 0 then (s, false)
    else if b % 8 = 0 then ((s.mirrored b v).write4 blockWrite b v, true)
    else
      let low := (s.held.get (b - 4)).getD 0
      let w := v * 2 ^ 32 + low
      let dst := bf w 37 12
      let cv := bf w 49 13
      let ok := decide (s.get (VIM_RSLAY_LBASE i) ≤ dst) && decide (dst < s.get (VIM_RSLAY_LBASE i) + s.get (VIM_RSLAY_LCNT i)) &&
        decide (s.get (VIM_RSCONV_CBASE i) ≤ cv) && decide (cv < s.get (VIM_RSCONV_CBASE i) + s.get (VIM_RSCONV_CCNT i))
      if ok then ((s.mirrored b v).write4 blockWrite b v, true) else ({ s with held := s.held.del (b - 4) }, false)
  | .can ch c o b =>
    if s.viShut i 1 c then (s, false)
    else match s.canGuard ch (b % 0x1_0000) b r (some i) .write with
      | some s1 => (s1, false)
      | none =>
        if b % 0x20 = 0x14 ∧ bitOf v 31 = true then
          let p := s.viCanMay i c ch o
          if p.2 then ((p.1.mirrored b v).write4 blockWrite b v, true) else (p.1, false)
        else ((s.mirrored b v).write4 blockWrite b v, true)
  | .at b kind slot w =>
    if !w || s.viShut i kind slot then (s, false)
    else if b < 0x4000_0000 then (s.tgMemWrite b 4 v, true)
    else if kind = 1 then
      match s.canGuard (s.get (VIM_CAN_CH i slot)) (b % 0x1_0000) b r (some i) .write with
      | some s1 => (s1, false)
      | none => ((s.mirrored b v).store b 4 v, true)
    else (s.write4 blockWrite b v, true)

/-- One 32-bit read of an instance page. -/
def State.viWordRead (s : State) (i : Nat) (r : Req) (x : Nat) : State × Option Nat :=
  let dbg := r.debug || r.id == 9
  let reg (t : State) (b : Nat) : State × Option Nat :=
    let y := t.read4 blockRead r.id dbg b
    (y.2, some y.1)
  match s.viWhere i x with
  | .nothing => (s, some 0)
  | .msix => (s, some (s.msixRead i x 4))
  | .own => reg s (0x6000_0000 + i * 0x1_0000 + x)
  | .cmd _ => (s, some 0)
  | .route b => reg s b
  | .can ch _ _ b =>
    match s.canGuard ch (b % 0x1_0000) b r (some i) .read with
    | some s1 => (s1, none)
    | none => reg s b
  | .at b kind slot _ =>
    if b < 0x4000_0000 then (s, some (s.load b 4))
    else if kind = 1 then
      match s.canGuard (s.get (VIM_CAN_CH i slot)) (b % 0x1_0000) b r (some i) .read with
      | some s1 => (s1, none)
      | none => (s, some (s.load b 4))
    else reg s b

/-- An 8-byte access to an instance page that is one access to a pair: an own pair, or a route. -/
def State.viPair (s : State) (i x : Nat) : Bool :=
  match s.viWhere i x with
  | .own => isPair (0x6000_0000 + i * 0x1_0000 + x)
  | _ => false

/-- R472, R489: an access to the page of an instance. A FREE instance, or VIM_GCTL.EN = 0, answers as an unmapped target; a stale generation is refused. -/
def State.viPage (s : State) (r : Req) (acc : AccKind) (a size v : Nat) : State × FabEnd :=
  let i := (a - 0x6000_0000) / 0x1_0000
  let x := a % 0x1_0000
  if !s.on VIM_GCTL_EN || s.viState i == 0 then (s.refuse a r acc 0x1F 0, .error)
  else if r.gen ≠ 0 ∧ r.gen ≠ s.get (VIM_ISTAT_GEN i) then (s.viStale i, .error)
  else
    let wr := acc == .write
    if size = 8 ∧ s.viPair i x = true then
      if wr then (s.regWrite (viPageHook i) a 8 v, .data 0)
      else
        let y := s.regRead blockRead r.id (r.debug || r.id == 9) a 8
        (y.2, .data y.1)
    else if wr then
      let p := s.viWord i r x (v % 2 ^ 32)
      let q := if size = 8 then p.1.viWord i r (x + 4) (v / 2 ^ 32 % 2 ^ 32) else (p.1, true)
      (q.1, if p.2 && q.2 then .data 0 else .error)
    else
      let p := s.viWordRead i r x
      let q := if size = 8 then p.1.viWordRead i r (x + 4) else (p.1, some 0)
      (q.1, match p.2, q.2 with
        | some lo, some hi => .data (lo + hi * 2 ^ 32)
        | _, _ => .error)

/-! ### Memory (R135, R170, R437 to R444) -/

/-- A word of the Compass ROM, fixed at manufacture (R441). -/
def romLoad (a n : Nat) : Nat := ofBytes ((List.range n).map (fun i => (Config.rom (a + i)).toNat))

/-- A naturally aligned whole number of 64-bit words (R444). -/
def wholeWords (a size : Nat) : Bool := a % 8 == 0 && size % 8 == 0

/-- An access to eNVM, SRAM or the ROM; `e` is what a read of its words finds. -/
def State.ramAccess (s : State) (r : Req) (acc : AccKind) (a size v : Nat) (e : EccObs) : State × FabEnd :=
  let reads := acc != .write || !wholeWords a size
  let s1 := if reads then s.eccSee a r.id false e else s
  if reads && (e == .uncorrectable || e == .addressError) then (s1, .error)
  else
    let old := if within a 0x0800_0000 0x4_0000 then romLoad a size else s1.load a size
    if acc == .write || acc == .amo then (s1.store a size v, .data (if acc == .amo then old else 0)) else (s1, .data old)

/-- RAM inside a block of the core die that requests reach: payload areas, the tables of the switch and of the gateway, MSI-X tables (R442). -/
def blockRam (a : Nat) : Bool :=
  (within a 0x4400_0000 0x10_0000 && decide (0x2000 ≤ a % 0x1_0000)) || within a 0x4301_0000 0x4_0000 || (gwCommitOf a).isSome ||
  (within a 0x6000_0000 0x100_0000 && within (a % 0x1_0000) 0x800 0x800)

/-- R444: the CAN object whose payload holds an uncorrectable word is discarded: a received frame is lost, a request to send is given up. -/
def State.ramLost (s : State) (a : Nat) : State :=
  let c := (a - 0x4400_0000) / 0x1_0000
  if !within a 0x4400_0000 0x10_0000 then s
  else match s.canObjAt c (a % 0x1_0000) with
    | none => s
    | some o =>
      if s.on (CAN_OBJCFG_DIR c o) then s.canAbort c o
      else if s.on (CAN_OBJSTAT_FULL c o) then
        (((s.canFull c o false).set (CAN_OBJSTAT_LOST c o) 1).inc (CAN_OBJCTL_LOSTCNT c o)).raiseC (193 + 2 * c) 3 o
      else s

/-- An access of a form that registers and instance pages take. -/
def State.regSpace (s : State) (r : Req) (vi : Option Nat) (acc : AccKind) (a size v : Nat) : State × FabEnd :=
  if 0x6000_0000 ≤ a then s.viPage r acc a size v
  else if acc == .write then
    let x := s.regFabWrite r vi a size v
    (x.1, if x.2 then .data 0 else .error)
  else
    let x := s.regFabRead r vi a size
    (x.1, match x.2 with | some d => .data d | none => .error)

/-- R443, R444: such an access to a RAM inside a block that finds an error. One that is refused, or that replaces whole words, reads nothing. -/
def State.blockRamDo (s : State) (r : Req) (vi : Option Nat) (acc : AccKind) (a size v : Nat) (e : EccObs) : State × FabEnd :=
  let x := s.regSpace r vi acc a size v
  if x.2 = .error ∨ (acc = .write ∧ wholeWords a size = true) then x
  else if e = .corrected then (x.1.eccSee a r.id false e, x.2)
  else ((s.eccSee a r.id false e).ramLost a, .error)

/-! ### The whole access -/

/-- R431, R512: what the debug port may reach: everything its group allows while it is open, else the mailbox page alone. -/
def State.portReach (s : State) (r : Req) (a : Nat) : Bool := r.id != 9 || s.dbgOpen || within a 0x4000_8000 0x1000

/-- The outbound range: the answer where it comes at once. -/
def State.pcieAccess (s : State) (r : Req) (vi : Option Nat) (acc : AccKind) (a size v : Nat) : State × FabEnd :=
  let s1 := s.pcieOut r vi acc a size v
  if s1.pcie.out.length = s.pcie.out.length ∧ s1.out.length = s.out.length then (s1, .pending)
  else match s1.out with
    | .resp _ e d :: rest =>
      if s1.pcie.out.length = s.pcie.out.length then ({ s1 with out := rest }, if e then .error else .data d) else (s1, .pending)
    | _ => (s1, .pending)

/-- R30, R446 to R452, R585 to R587: a fabric access of `size` bytes at `a`, checked and served. A read returns its data, a write the value 0, an AMO the old value
as it stores the new one. -/
def State.fabDo (s : State) (r : Req) (vi : Option Nat) (acc : AccKind) (a size v : Nat) (e : EccObs) : State × FabEnd :=
  if !s.portReach r a then (s, .error)
  else if e = .parity then (s.parityError r.id, .error)
  else match s.checkReq a r acc with
  | some s1 => (s1, .error)
  | none =>
    if 0x80_0000_0000 ≤ a then s.pcieAccess r vi acc a size v
    else if within a 0x4000_0000 0x2100_0000 then
      if !regForm acc a size then (s.refuse a r acc 0x1F 0, .error)
      else if e ≠ .clean ∧ blockRam a = true then s.blockRamDo r vi acc a size v e
      else s.regSpace r vi acc a size v
    else if within a 0x2000_0000 0x30_0000 then
      let k := (a - 0x2000_0000) / 0x4_0000
      if s.tgLead k ≠ k then (s, .error)
      else if acc == .write || acc == .amo then (s.tgMemWrite a size v, .data (if acc == .amo then s.load a size else 0))
      else (s, .data (s.load a size))
    else s.ramAccess r acc a size v e

/-- R447: LR and SC need both R and W, as an AMO does. -/
def State.fabLrSc (s : State) (r : Req) (acc : AccKind) (a size v : Nat) (e : EccObs) : State × FabEnd :=
  if e = .parity then s.fabDo r none acc a size v e
  else match s.checkReq a r .amo with
    | some s1 => (s1, .error)
    | none => s.fabDo r none acc a size v e

/-- The response of a fabric access sent to its initiator. -/
def State.answer (r : Req) (x : State × FabEnd) : State :=
  match x.2 with
  | .data d => x.1.emit (.resp r.id false d)
  | .error => x.1.emit (.resp r.id true 0)
  | .pending => x.1

/-- Whether a request can exist: it does not cross a 4 KiB boundary (R447). -/
def oneGranule (a size : Nat) : Bool := size != 0 && decide (size ≤ 64) && a / 4096 == (a + size - 1) / 4096 && decide (a < 2 ^ 40)

/-- R30, R31: a fabric request with its parity. -/
def execFabricRequest (r : Req) (acc : AccKind) (addr size value : Nat) (parityOk : Bool) (ecc : EccObs) (s : State) : Host.Outcome State Fault Refusal :=
  if !s.alive || !oneGranule addr size then done s
  else if !parityOk then done ((s.parityError r.id).emit (.resp r.id true 0))
  else done (State.answer r (s.fabDo r none acc addr size value ecc))

/-! ### Commands of the switch channels (R188, R191, R474) -/

/-- The address at which a PSC_CMD is written: its own, or its copy in the page of an instance that the channel is assigned to. -/
def State.pscAt (s : State) (n : Nat) (vi : Option Nat) : Option Nat :=
  match vi with
  | none => some (a_PSC_CMD n)
  | some i =>
    let k := (s.viChans i).idxOf n
    if s.on (VIM_IATT_PSC i) && decide (k < (s.viChans i).length) then some (0x6000_0000 + i * 0x1_0000 + 0x2000 + k * 0x40) else none

/-- A PSC_CMD write whose address the checkers have admitted: by the instance's page, or to the channel itself. -/
def State.pscTaken (s : State) (n op : Nat) (r : Req) (vi : Option Nat) (a : Nat) : State × Bool :=
  match vi with
  | none => s.pscCommand n op r none
  | some _ => let x := s.viPage r .write a 4 op; (x.1, x.2 != .error)

/-- The outcome of a PSC_CMD write: an error response where a region checker, the instance's page or the PSC block does not take it (R189, R191). -/
def State.pscWritten (s : State) (n op : Nat) (r : Req) (vi : Option Nat) : Host.Outcome State Fault Refusal :=
  match s.pscAt n vi with
  | none => done s
  | some a =>
    if !hasPsc s.part n then done s
    else match s.checkReq a r .write with
    | some s1 => done (s1.emit (.resp r.id true 0))
    | none =>
      let x := s.pscTaken n op r vi a
      if x.2 then done x.1 else done (x.1.emit (.resp r.id true 0))

/-- R193: a write of ON is queued for the die; PSC_COMMAND_APPLY applies it. -/
def execPscOn (n : Fin 40) (r : Req) (vi : Option Nat) (s : State) : Host.Outcome State Fault Refusal := s.pscWritten n 1 r vi

/-- R193: a write of OFF. -/
def execPscOff (n : Fin 40) (r : Req) (vi : Option Nat) (s : State) : Host.Outcome State Fault Refusal := s.pscWritten n 2 r vi

/-- R195: a write of PWM. -/
def execPscPwm (n : Fin 40) (r : Req) (vi : Option Nat) (s : State) : Host.Outcome State Fault Refusal := s.pscWritten n 3 r vi

/-- R193: a write of CLEAR. -/
def execPscClear (n : Fin 40) (r : Req) (vi : Option Nat) (s : State) : Host.Outcome State Fault Refusal := s.pscWritten n 4 r vi

/-- R200: a write of OLCHECK. -/
def execPscOlcheck (n : Fin 40) (r : Req) (vi : Option Nat) (s : State) : Host.Outcome State Fault Refusal := s.pscWritten n 5 r vi

/-- R588, R589, R595: a software write to a register. -/
def execRegisterWrite (r : Req) (addr size value : Nat) (s : State) : Host.Outcome State Fault Refusal :=
  if s.alive && within addr 0x4000_0000 0x800_0000 && oneGranule addr size then done (State.answer r (s.fabDo r none .write addr size value .clean)) else done s

/-- R11, R12, R593: a 32-bit read of a register, which clears its RC fields. -/
def execReadClear (r : Req) (addr : Nat) (s : State) : Host.Outcome State Fault Refusal :=
  if s.alive && within addr 0x4000_0000 0x800_0000 && oneGranule addr 4 then done (State.answer r (s.fabDo r none .read addr 4 0 .clean)) else done s

/-- R592: a 32-bit read of the low word of a pair. -/
def execPairLowWordRead (r : Req) (addr : Nat) (s : State) : Host.Outcome State Fault Refusal :=
  if s.alive && within addr 0x4000_0000 0x800_0000 && isPair addr then done (State.answer r (s.fabDo r none .read addr 4 0 .clean)) else done s

end Sys2Proof.Machine
end

