-- ==== Sys2Proof/Machine/Inbound.lean ====
section
/-! DEFINITION. Requests that the PCIe bridge receives, and function level resets (R357 to R359, R361, R364, R365). -/

namespace Sys2Proof.Machine

open Sys2Proof

/-- An access of the bridge on the fabric: its address, its size, and the fabric bytes of a write; `flip` says that the PCIe side holds them in reverse. -/
structure InPiece where
  addr : Nat
  bytes : List Nat
  flip : Bool
  deriving DecidableEq, Repr

/-- Where the bytes of an inbound request go: fabric pieces with the byte swap unit of their window, or nothing that takes them (R358). -/
inductive InTo where
  | seg (addr unit : Nat) (bytes : List Nat)
  | unsupported
  deriving DecidableEq, Repr

/-- R358: the lowest-numbered enabled inbound window that matches. -/
def State.iwFind (s : State) (root bar2 : Bool) (a : Nat) : Option Nat :=
  (List.range 64).find? (fun w => s.on (PCIE_IWCTL_EN w) && (root || s.on (PCIE_IWCTL_BAR w) == bar2) &&
    winHit (s.get (PCIE_IWSRC_BASE w)) (winSize (s.get (PCIE_IWCTL_SIZE w))) a)

/-- R358: the segments of a request, split at the ends of windows; `bs` has one byte for each byte of the request. -/
def State.inSegs (s : State) (root bar2 write : Bool) : Nat → Nat → List Nat → List InTo
  | 0, _, _ => []
  | _, _, [] => []
  | n + 1, a, bs =>
    match s.iwFind root bar2 a with
    | none => [.unsupported]
    | some w =>
      if !(if write then s.on (PCIE_IWCTL_WR w) else s.on (PCIE_IWCTL_RD w)) then [.unsupported]
      else
        let sz := winSize (s.get (PCIE_IWCTL_SIZE w))
        let src := s.get (PCIE_IWSRC_BASE w) / sz * sz
        let k := src + sz - a
        .seg (s.get (PCIE_IWDST_BASE w) / sz * sz + (a - src)) (swapUnit (s.get (PCIE_IWCTL_SWAP w))) (bs.take k) :: s.inSegs root bar2 write n (a + k) (bs.drop k)

/-- R359: the boundary that an access of the bridge does not cross. -/
def inBound (a : Nat) : Nat := if within a 0x4000_0000 0x1000_0000 then 8 else 64

/-- R359, R361: the accesses of a segment in address order of the PCIe side, never across a boundary, with the byte lanes of the window. -/
def inPieces (addr unit : Nat) (bs : List Nat) : List InPiece :=
  let offs := (List.range bs.length).map (fun i => addr + i)
  if unit = 1 then
    (cutAt (inBound addr) offs).map (fun p => { addr := p.headD addr, bytes := p.map (byteAt bs addr), flip := false })
  else
    (cutAt unit offs).map (fun p => { addr := lane unit (p.getLastD addr), bytes := (p.map (byteAt bs addr)).reverse, flip := true })

/-- The answer of a request as it builds up: the state, whether an access has been refused, and the bytes read, in the order of the PCIe side. -/
abbrev InAcc := State × Bool × List Nat

/-- One access of the bridge (R364). A read of the outbound range is refused: its data would come through the same link. -/
def State.inPiece (r : Req) (vi : Option Nat) (write : Bool) (e : EccObs) (x : InAcc) (p : InPiece) : InAcc :=
  let s := x.1
  let n := p.bytes.length
  let bad (t : State) : InAcc := ((t.inc PCIE_ERR_REFUSED).raiseSum 294 0 1, true, x.2.2 ++ List.replicate n 0)
  if !write && decide (0x80_0000_0000 ≤ p.addr) then bad s
  else
    let y := s.fabDo r vi (if write then .write else .read) p.addr n (ofBytes p.bytes) e
    match y.2 with
    | .data d =>
      let bs := toBytes n d
      (y.1, x.2.1, x.2.2 ++ (if p.flip then bs.reverse else bs))
    | _ => bad y.1

/-- A request served segment by segment: its completion status (0 success, 1 UR, 2 CA) beside the state and the data. -/
def State.inServe (s : State) (r : Req) (vi : Option Nat) (write : Bool) (e : EccObs) (l : List InTo) : State × Nat × List Nat :=
  l.foldl (fun x t =>
    match t with
    | .unsupported => ((x.1.inc PCIE_ERR_UR).raiseSum 293 0 1, max x.2.1 1, x.2.2)
    | .seg a u bs =>
      let y := (inPieces a u bs).foldl (State.inPiece r vi write e) (x.1, false, x.2.2)
      (y.1, if y.2.1 then 2 else x.2.1, y.2.2)) (s, 0, [])

/-- The completion of a read (R364). A posted write has none. -/
def State.inDone (fn : Nat) (write : Bool) (x : State × Nat × List Nat) : State :=
  if write then x.1 else x.1.emit (.pcie ([6, fn, x.2.1] ++ (if x.2.1 = 0 then x.2.2 else [])))

/-- R357: the request of function `f`; other IDs than 40 to 63 act as 40. -/
def State.fnReq (s : State) (f : Nat) : Req :=
  let i := s.get (PCIE_FNID_ID f)
  { id := if 40 ≤ i ∧ i < 64 then i else 40 }

/-- R357 to R359, R364: an inbound request. A poisoned TLP, or one that fails its ECRC, is discarded and reported. -/
def State.pcieInbound (s : State) (x : PcieIn) : State :=
  let bs := (List.range (min x.size 4096)).map (fun i => x.bytes.getD i 0 % 256)
  let root := s.on PCIE_CTL_MODE
  if !s.alive || !s.on PCIE_STAT_LINKUP || s.idling 113 then s
  else match x.bad with
  | some b => (s.inc PCIE_ERR_POISON).raise 290 b
  | none =>
    if root ∨ x.fn = 0 then State.inDone x.fn x.write (s.inServe (s.fnReq 0) none x.write x.ecc (s.inSegs root x.bar2 x.write 64 x.addr bs))
    else
      let v := x.fn
      let i := s.get (PCIE_FNID_VI v)
      let ok := s.on PCIE_VFCTL_VFEN && decide (v ≤ s.get PCIE_VFCTL_NUMVF) && s.on (PCIE_FNID_VIEN v) && decide (x.addr + x.size ≤ 0x1_0000)
      if !ok then State.inDone v x.write (s.inServe (s.fnReq 0) none x.write x.ecc [.unsupported])
      else
        let r : Req := { s.fnReq v with gen := s.get (VIM_ISTAT_GEN i) }
        State.inDone v x.write ((s.viInbound i bs.length).inServe r (some i) x.write x.ecc [.seg (0x6000_0000 + i * 0x1_0000 + x.addr) 1 bs])

/-- R357 to R359. -/
def execPcieInboundRequest (x : PcieIn) (s : State) : Host.Outcome State Fault Refusal := done (s.pcieInbound x)

/-- R365, R486: a function level reset: of a bound VF it resets the instance, of PF0 it disables every window. -/
def execPcieFunctionLevelReset (f : Fin 256) (s : State) : Host.Outcome State Fault Refusal :=
  if decide (pcieVfs s.part < f.val) then done s else
  let s1 := s.raise 291 f
  if f.val = 0 then done (s1.each (List.range 64) (fun t w => (t.set (PCIE_IWCTL_EN w) 0).set (PCIE_OWCTL_EN w) 0))
  else if s.on (PCIE_FNID_VIEN f) then done (s1.viReset (s.get (PCIE_FNID_VI f)))
  else done s1

end Sys2Proof.Machine
end

