-- ==== Sys2Proof/Machine/RvInt.lean ====
section
/-! DEFINITION. The instructions of the application cores as words: their fields, the compressed ones as the words they stand for, and what the integer ones compute
(R371: RV64I, M, C, Zba, Zbb, Zbs; their encodings and results are those of the RISC-V unprivileged architecture, log entry 20). -/

namespace Sys2Proof.Machine

open Sys2Proof

/-! ### Fields -/

def wOp (w : Nat) : Nat := w % 128
def wRd (w : Nat) : Nat := bf w 7 5
def wF3 (w : Nat) : Nat := bf w 12 3
def wRs1 (w : Nat) : Nat := bf w 15 5
def wRs2 (w : Nat) : Nat := bf w 20 5
def wF7 (w : Nat) : Nat := bf w 25 7
def wCsr (w : Nat) : Nat := bf w 20 12

/-- The immediates. -/
def immI (w : Nat) : Int := toS 12 (bf w 20 12)
def immS (w : Nat) : Int := toS 12 (bf w 25 7 * 32 + bf w 7 5)
def immB (w : Nat) : Int := toS 13 (bf w 31 1 * 4096 + bf w 7 1 * 2048 + bf w 25 6 * 32 + bf w 8 4 * 2)
def immU (w : Nat) : Int := toS 32 (w / 4096 % 2 ^ 20 * 4096)
def immJ (w : Nat) : Int := toS 21 (bf w 31 1 * 2 ^ 20 + bf w 12 8 * 4096 + bf w 20 1 * 2048 + bf w 21 10 * 2)

/-- A 64-bit sum with a signed offset. -/
def addI (a : Nat) (i : Int) : Nat := w64 ((a : Int) + i)

/-- The low `w` bits of `v` as a signed number, in 64 bits. -/
def sext (w v : Nat) : Nat := w64 (toS w v)

/-! ### Words from fields -/

def wR (op f3 f7 rd rs1 rs2 : Nat) : Nat := f7 * 2 ^ 25 + rs2 * 2 ^ 20 + rs1 * 2 ^ 15 + f3 * 2 ^ 12 + rd * 2 ^ 7 + op
def wI (op f3 rd rs1 imm : Nat) : Nat := imm % 4096 * 2 ^ 20 + rs1 * 2 ^ 15 + f3 * 2 ^ 12 + rd * 2 ^ 7 + op
def wS (op f3 rs1 rs2 imm : Nat) : Nat := bf imm 5 7 * 2 ^ 25 + rs2 * 2 ^ 20 + rs1 * 2 ^ 15 + f3 * 2 ^ 12 + imm % 32 * 2 ^ 7 + op
def wB (f3 rs1 rs2 imm : Nat) : Nat :=
  bf imm 12 1 * 2 ^ 31 + bf imm 5 6 * 2 ^ 25 + rs2 * 2 ^ 20 + rs1 * 2 ^ 15 + f3 * 2 ^ 12 + bf imm 1 4 * 2 ^ 8 + bf imm 11 1 * 2 ^ 7 + 0x63
def wJ (rd imm : Nat) : Nat := bf imm 20 1 * 2 ^ 31 + bf imm 1 10 * 2 ^ 21 + bf imm 11 1 * 2 ^ 20 + bf imm 12 8 * 2 ^ 12 + rd * 2 ^ 7 + 0x6F

/-! ### Compressed instructions -/

/-- A signed immediate of `n` bits as the low bits of a word. -/
def cSext (n v : Nat) : Nat := ofS 32 (toS n v)

/-- The immediates of the compressed formats. -/
def c6 (w : Nat) : Nat := bf w 12 1 * 32 + bf w 2 5
def cLw (w : Nat) : Nat := bf w 5 1 * 64 + bf w 10 3 * 8 + bf w 6 1 * 4
def cLd (w : Nat) : Nat := bf w 5 2 * 64 + bf w 10 3 * 8
def cJ (w : Nat) : Nat :=
  cSext 12 (bf w 12 1 * 2048 + bf w 8 1 * 1024 + bf w 9 2 * 256 + bf w 6 1 * 128 + bf w 7 1 * 64 + bf w 2 1 * 32 + bf w 11 1 * 16 + bf w 3 3 * 2)
def cB (w : Nat) : Nat := cSext 9 (bf w 12 1 * 256 + bf w 5 2 * 64 + bf w 2 1 * 32 + bf w 10 2 * 8 + bf w 3 2 * 2)
def c16sp (w : Nat) : Nat := cSext 10 (bf w 12 1 * 512 + bf w 3 2 * 128 + bf w 5 1 * 64 + bf w 2 1 * 32 + bf w 6 1 * 16)

/-- Quadrant 0. -/
def rvc0 (w : Nat) : Option Nat :=
  let rd := bf w 2 3 + 8
  let rs := bf w 7 3 + 8
  let i4 := bf w 7 4 * 64 + bf w 11 2 * 16 + bf w 5 1 * 8 + bf w 6 1 * 4
  match bf w 13 3 with
  | 0 => if i4 = 0 then none else some (wI 0x13 0 rd 2 i4)
  | 1 => some (wI 0x07 3 rd rs (cLd w))
  | 2 => some (wI 0x03 2 rd rs (cLw w))
  | 3 => some (wI 0x03 3 rd rs (cLd w))
  | 5 => some (wS 0x27 3 rs rd (cLd w))
  | 6 => some (wS 0x23 2 rs rd (cLw w))
  | 7 => some (wS 0x23 3 rs rd (cLd w))
  | _ => none

/-- Quadrant 1. -/
def rvc1 (w : Nat) : Option Nat :=
  let rd := bf w 7 5
  let r1 := bf w 7 3 + 8
  let r2 := bf w 2 3 + 8
  let i := cSext 6 (c6 w)
  match bf w 13 3 with
  | 0 => some (wI 0x13 0 rd rd i)
  | 1 => if rd = 0 then none else some (wI 0x1B 0 rd rd i)
  | 2 => some (wI 0x13 0 rd 0 i)
  | 3 =>
    if c6 w = 0 then none
    else if rd = 2 then some (wI 0x13 0 2 2 (c16sp w))
    else some (bf i 0 20 * 4096 + rd * 128 + 0x37)
  | 4 =>
    match bf w 10 2 with
    | 0 => some (wI 0x13 5 r1 r1 (c6 w))
    | 1 => some (wI 0x13 5 r1 r1 (0x400 + c6 w))
    | 2 => some (wI 0x13 7 r1 r1 i)
    | _ =>
      match bf w 12 1, bf w 5 2 with
      | 0, 0 => some (wR 0x33 0 0x20 r1 r1 r2)
      | 0, 1 => some (wR 0x33 4 0 r1 r1 r2)
      | 0, 2 => some (wR 0x33 6 0 r1 r1 r2)
      | 0, _ => some (wR 0x33 7 0 r1 r1 r2)
      | _, 0 => some (wR 0x3B 0 0x20 r1 r1 r2)
      | _, 1 => some (wR 0x3B 0 0 r1 r1 r2)
      | _, _ => none
  | 5 => some (wJ 0 (cJ w))
  | 6 => some (wB 0 r1 0 (cB w))
  | _ => some (wB 1 r1 0 (cB w))

/-- Quadrant 2. -/
def rvc2 (w : Nat) : Option Nat :=
  let rd := bf w 7 5
  let r2 := bf w 2 5
  let ldsp := bf w 2 3 * 64 + bf w 12 1 * 32 + bf w 5 2 * 8
  let lwsp := bf w 2 2 * 64 + bf w 12 1 * 32 + bf w 4 3 * 4
  let sdsp := bf w 7 3 * 64 + bf w 10 3 * 8
  let swsp := bf w 7 2 * 64 + bf w 9 4 * 4
  match bf w 13 3 with
  | 0 => some (wI 0x13 1 rd rd (c6 w))
  | 1 => some (wI 0x07 3 rd 2 ldsp)
  | 2 => if rd = 0 then none else some (wI 0x03 2 rd 2 lwsp)
  | 3 => if rd = 0 then none else some (wI 0x03 3 rd 2 ldsp)
  | 4 =>
    if bf w 12 1 = 0 then
      if r2 ≠ 0 then some (wR 0x33 0 0 rd 0 r2) else if rd = 0 then none else some (wI 0x67 0 0 rd 0)
    else if r2 ≠ 0 then some (wR 0x33 0 0 rd rd r2)
    else if rd = 0 then some 0x00100073 else some (wI 0x67 0 1 rd 0)
  | 5 => some (wS 0x27 3 2 r2 sdsp)
  | 6 => some (wS 0x23 2 2 r2 swsp)
  | _ => some (wS 0x23 3 2 r2 sdsp)

/-- The word that a compressed instruction stands for; none is illegal. -/
def rvc (w : Nat) : Option Nat :=
  match w % 4 with
  | 0 => rvc0 w
  | 1 => rvc1 w
  | _ => rvc2 w

/-! ### Integer results -/

/-- Division and remainder: by zero all ones and the dividend; the overflow wraps. -/
def divS (n a b : Nat) : Nat := if toS n b = 0 then 2 ^ n - 1 else ofS n (Int.tdiv (toS n a) (toS n b))
def remS (n a b : Nat) : Nat := if toS n b = 0 then a % 2 ^ n else ofS n (Int.tmod (toS n a) (toS n b))
def divU (n a b : Nat) : Nat := if b % 2 ^ n = 0 then 2 ^ n - 1 else a % 2 ^ n / (b % 2 ^ n)
def remU (n a b : Nat) : Nat := if b % 2 ^ n = 0 then a % 2 ^ n else a % 2 ^ n % (b % 2 ^ n)

/-- Rotations and arithmetic shift of `n` bits. -/
def rotL (n a k : Nat) : Nat := (a % 2 ^ n * 2 ^ (k % n)) % 2 ^ n + a % 2 ^ n / 2 ^ (n - k % n)
def rotR (n a k : Nat) : Nat := rotL n a (n - k % n)
def sraN (n a k : Nat) : Nat := ofS n (toS n a / 2 ^ k)

/-- Leading and trailing zeros of `n` bits. -/
def clzN (n a : Nat) : Nat := n - bitLen n (a % 2 ^ n)
def ctzN (n a : Nat) : Nat := ((List.range n).find? (bitOf a)).getD n

/-- OR-combine of the bytes, and the bytes reversed. -/
def orcB (a : Nat) : Nat := ofBytes ((toBytes 8 a).map (fun b => if b = 0 then 0 else 255))
def rev8 (a : Nat) : Nat := ofBytes (toBytes 8 a).reverse

/-- Bit operations of Zbs. -/
def bClr (a k : Nat) : Nat := clrBit a (k % 64)
def bInv (a k : Nat) : Nat := a ^^^ 2 ^ (k % 64)
def bSet (a k : Nat) : Nat := a ||| 2 ^ (k % 64)
def bExt (a k : Nat) : Nat := bf a (k % 64) 1

/-- Bitwise complement of 64 bits. -/
def not64 (a : Nat) : Nat := 2 ^ 64 - 1 - a % 2 ^ 64

/-- The OP major opcode (0x33): the result of two 64-bit operands; none is illegal. -/
def aluOp (f7 f3 a b : Nat) : Option Nat :=
  let k := b % 64
  match f7, f3 with
  | 0, 0 => some (a + b)
  | 0, 1 => some (a * 2 ^ k)
  | 0, 2 => some (b2n (decide (s64 a < s64 b)))
  | 0, 3 => some (b2n (decide (a < b)))
  | 0, 4 => some (a ^^^ b)
  | 0, 5 => some (a / 2 ^ k)
  | 0, 6 => some (a ||| b)
  | 0, 7 => some (a &&& b)
  | 0x20, 0 => some (w64 ((a : Int) - b))
  | 0x20, 4 => some (not64 (a ^^^ b))
  | 0x20, 5 => some (sraN 64 a k)
  | 0x20, 6 => some (a ||| not64 b)
  | 0x20, 7 => some (a &&& not64 b)
  | 1, 0 => some (a * b)
  | 1, 1 => some (w64 (s64 a * s64 b / 2 ^ 64))
  | 1, 2 => some (w64 (s64 a * (b : Int) / 2 ^ 64))
  | 1, 3 => some (a * b / 2 ^ 64)
  | 1, 4 => some (divS 64 a b)
  | 1, 5 => some (divU 64 a b)
  | 1, 6 => some (remS 64 a b)
  | 1, 7 => some (remU 64 a b)
  | 0x10, 2 => some (a * 2 + b)
  | 0x10, 4 => some (a * 4 + b)
  | 0x10, 6 => some (a * 8 + b)
  | 5, 4 => some (if s64 a < s64 b then a else b)
  | 5, 5 => some (min a b)
  | 5, 6 => some (if s64 a < s64 b then b else a)
  | 5, 7 => some (max a b)
  | 0x30, 1 => some (rotL 64 a k)
  | 0x30, 5 => some (rotR 64 a k)
  | 0x24, 1 => some (bClr a b)
  | 0x24, 5 => some (bExt a b)
  | 0x34, 1 => some (bInv a b)
  | 0x14, 1 => some (bSet a b)
  | _, _ => none

/-- The OP-IMM major opcode (0x13): the register operand and the word. -/
def aluImm (w a : Nat) : Option Nat :=
  let i := w64 (immI w)
  let k := bf w 20 6
  match wF3 w with
  | 0 => some (a + i)
  | 2 => some (b2n (decide (s64 a < s64 i)))
  | 3 => some (b2n (decide (a < i)))
  | 4 => some (a ^^^ i)
  | 6 => some (a ||| i)
  | 7 => some (a &&& i)
  | 1 =>
    match bf w 26 6 with
    | 0 => some (a * 2 ^ k)
    | 0x0A => some (bSet a k)
    | 0x12 => some (bClr a k)
    | 0x1A => some (bInv a k)
    | _ =>
      match wCsr w with
      | 0x600 => some (clzN 64 a)
      | 0x601 => some (ctzN 64 a)
      | 0x602 => some (popCount a 64)
      | 0x604 => some (sext 8 a)
      | 0x605 => some (sext 16 a)
      | _ => none
  | _ =>
    match bf w 26 6 with
    | 0 => some (a / 2 ^ k)
    | 0x10 => some (sraN 64 a k)
    | 0x12 => some (bExt a k)
    | 0x18 => some (rotR 64 a k)
    | _ => if wCsr w = 0x287 then some (orcB a) else if wCsr w = 0x6B8 then some (rev8 a) else none

/-- The OP-32 major opcode (0x3B); `r2` is the number of the second register, which ZEXT.H fixes. -/
def aluOp32 (f7 f3 r2 a b : Nat) : Option Nat :=
  let k := b % 32
  let x := a % 2 ^ 32
  match f7, f3 with
  | 0, 0 => some (sext 32 (a + b))
  | 0, 1 => some (sext 32 (x * 2 ^ k))
  | 0, 5 => some (sext 32 (x / 2 ^ k))
  | 0x20, 0 => some (w64 (toS 32 (ofS 32 ((a : Int) - b))))
  | 0x20, 5 => some (sext 32 (sraN 32 a k))
  | 1, 0 => some (sext 32 (a * b))
  | 1, 4 => some (sext 32 (divS 32 a b))
  | 1, 5 => some (sext 32 (divU 32 a b))
  | 1, 6 => some (sext 32 (remS 32 a b))
  | 1, 7 => some (sext 32 (remU 32 a b))
  | 4, 0 => some (x + b)
  | 4, 4 => if r2 = 0 then some (a % 2 ^ 16) else none
  | 0x10, 2 => some (x * 2 + b)
  | 0x10, 4 => some (x * 4 + b)
  | 0x10, 6 => some (x * 8 + b)
  | 0x30, 1 => some (sext 32 (rotL 32 a k))
  | 0x30, 5 => some (sext 32 (rotR 32 a k))
  | _, _ => none

/-- The OP-IMM-32 major opcode (0x1B). -/
def aluImm32 (w a : Nat) : Option Nat :=
  let k := wRs2 w
  let x := a % 2 ^ 32
  match wF3 w with
  | 0 => some (sext 32 (a + w64 (immI w)))
  | 1 =>
    if wF7 w = 0 then some (sext 32 (x * 2 ^ k))
    else if bf w 26 6 = 2 then some (x * 2 ^ bf w 20 6)
    else match wCsr w with
      | 0x600 => some (clzN 32 a)
      | 0x601 => some (ctzN 32 a)
      | 0x602 => some (popCount a 32)
      | _ => none
  | 5 =>
    match wF7 w with
    | 0 => some (sext 32 (x / 2 ^ k))
    | 0x20 => some (sext 32 (sraN 32 a k))
    | 0x30 => some (sext 32 (rotR 32 a k))
    | _ => none
  | _ => none

/-- Whether a branch is taken; none is illegal. -/
def branchTaken (f3 a b : Nat) : Option Bool :=
  match f3 with
  | 0 => some (a == b)
  | 1 => some (a != b)
  | 4 => some (decide (s64 a < s64 b))
  | 5 => some (decide (s64 b ≤ s64 a))
  | 6 => some (decide (a < b))
  | 7 => some (decide (b ≤ a))
  | _ => none

/-- The value that an AMO of operation `f5` leaves in memory: `n` bits, memory value and register value. -/
def amoNew (f5 n old v : Nat) : Option Nat :=
  let a := old % 2 ^ n
  let b := v % 2 ^ n
  match f5 with
  | 0 => some ((a + b) % 2 ^ n)
  | 1 => some b
  | 4 => some (a ^^^ b)
  | 8 => some (a ||| b)
  | 12 => some (a &&& b)
  | 16 => some (if toS n a < toS n b then a else b)
  | 20 => some (if toS n a < toS n b then b else a)
  | 24 => some (min a b)
  | 28 => some (max a b)
  | _ => none

/-! ### Floating point (R371: F and D) -/

/-- A rounding mode by number; none is reserved. -/
def rmOf (n : Nat) : Option Rm :=
  match n with
  | 0 => some .nearestEven
  | 1 => some .towardZero
  | 2 => some .down
  | 3 => some .up
  | 4 => some .nearestAway
  | _ => none

/-- A single-precision value in a 64-bit register, and one read from it: a value that is not NaN-boxed reads as the canonical NaN. -/
def boxF (v : Nat) : Nat := 0xFFFF_FFFF_0000_0000 + v % 2 ^ 32
def unboxF (v : Nat) : Nat := if v / 2 ^ 32 = 0xFFFF_FFFF then v % 2 ^ 32 else f32.qnan

/-- FCLASS. -/
def fClass (f : Fmt) (x : Nat) : Nat :=
  let s := bitOf x (f.ew + f.mw)
  let ex := bf x f.mw f.ew
  let fr := x % 2 ^ f.mw
  2 ^ (if ex = 2 ^ f.ew - 1 then (if fr = 0 then (if s then 0 else 7) else if bitOf fr (f.mw - 1) then 9 else 8)
       else if ex = 0 then (if fr = 0 then (if s then 3 else 4) else if s then 2 else 5)
       else if s then 1 else 6)

/-- The result of a floating-point instruction: a value for an f register, or for an x register, with the flags it raises. -/
inductive FpRes where
  | f (v fl : Nat)
  | x (v fl : Nat)
  deriving DecidableEq, Repr

/-- Sign injection. -/
def fSgn (f : Fmt) (f3 a b : Nat) : Option Nat :=
  let top := f.ew + f.mw
  let m := a % 2 ^ top
  let sb := bf b top 1
  match f3 with
  | 0 => some (m + sb * 2 ^ top)
  | 1 => some (m + (1 - sb) * 2 ^ top)
  | 2 => some (m + (bf a top 1 ^^^ sb) * 2 ^ top)
  | _ => none

/-- A conversion to an integer: 0 W, 1 WU, 2 L, 3 LU. -/
def fToX (f : Fmt) (md : FMode) (k x : Nat) : Nat × Nat :=
  let r := match k with
    | 0 => fToInt f md 0 (-(2 ^ 31 : Int)) (2 ^ 31 - 1) x
    | 1 => fToInt f md 0 0 (2 ^ 32 - 1) x
    | 2 => fToInt f md 0 (-(2 ^ 63 : Int)) (2 ^ 63 - 1) x
    | _ => fToInt f md 0 0 (2 ^ 64 - 1) x
  (if k < 2 then w64 (toS 32 (ofS 32 r.1)) else w64 r.1, r.2)

/-- The integer that a conversion from an integer takes. -/
def fOfX (k v : Nat) : Int :=
  match k with
  | 0 => toS 32 v
  | 1 => (v % 2 ^ 32 : Nat)
  | 2 => toS 64 v
  | _ => (v % 2 ^ 64 : Nat)

/-- OP-FP (0x53): the word, the dynamic rounding mode, the f operands as registers hold them, and the x operand. -/
def fpOp (w frm a b xa : Nat) : Option FpRes :=
  let f7 := wF7 w
  let dbl := f7 % 4 == 1
  let f : Fmt := if dbl then f64 else f32
  let get (v : Nat) : Nat := if dbl then v % 2 ^ 64 else unboxF v
  let put (v : Nat) : Nat := if dbl then v % 2 ^ 64 else boxF v
  let fa := get a
  let fb := get b
  let f3 := wF3 w
  let r2 := wRs2 w
  let md : Option FMode := (rmOf (if f3 = 7 then frm else f3)).map (fun r => { rm := r })
  let out (r : Option (Nat × Nat)) : Option FpRes := r.map (fun p => .f (put p.1) p.2)
  if 2 ≤ f7 % 4 then none
  else match f7 / 4 with
  | 0 => out (md.map (fun m => fAdd f m fa fb))
  | 1 => out (md.map (fun m => fSub f m fa fb))
  | 2 => out (md.map (fun m => fMul f m fa fb))
  | 3 => out (md.map (fun m => fDiv f m fa fb))
  | 0x0B => if r2 = 0 then out (md.map (fun m => fSqrt f m fa)) else none
  | 4 => (fSgn f f3 fa fb).map (fun v => .f (put v) 0)
  | 5 => if f3 < 2 then (let r := fMinMax f {} (f3 == 1) fa fb; some (.f (put r.1) r.2)) else none
  | 8 =>
    if dbl ∧ r2 = 0 then md.map (fun m => let r := fCvt f32 f64 m (unboxF a); .f r.1 r.2)
    else if !dbl ∧ r2 = 1 then md.map (fun m => let r := fCvt f64 f32 m (a % 2 ^ 64); .f (boxF r.1) r.2)
    else none
  | 0x14 => if f3 < 3 then (let r := fCmp f {} (if f3 = 2 then 0 else if f3 = 1 then 1 else 2) fa fb; some (.x r.1 r.2)) else none
  | 0x18 => if r2 < 4 then md.map (fun m => let r := fToX f m r2 fa; .x r.1 r.2) else none
  | 0x1A => if r2 < 4 then md.map (fun m => let r := fFromInt f m 0 (fOfX r2 xa); .f (put r.1) r.2) else none
  | 0x1C =>
    if r2 ≠ 0 then none
    else if f3 = 0 then some (.x (if dbl then a % 2 ^ 64 else sext 32 a) 0)
    else if f3 = 1 then some (.x (fClass f fa) 0)
    else none
  | 0x1E => if r2 = 0 ∧ f3 = 0 then some (.f (if dbl then xa % 2 ^ 64 else boxF xa) 0) else none
  | _ => none

/-- FMADD, FMSUB, FNMSUB, FNMADD (0x43, 0x47, 0x4B, 0x4F): the value for the f register and the flags. -/
def fpFma (w frm a b c : Nat) : Option (Nat × Nat) :=
  let fm := bf w 25 2
  let dbl := fm == 1
  let f : Fmt := if dbl then f64 else f32
  let get (v : Nat) : Nat := if dbl then v % 2 ^ 64 else unboxF v
  let flip (b : Bool) (v : Nat) : Nat := if b then v ^^^ 2 ^ (f.ew + f.mw) else v
  let op := wOp w
  if 2 ≤ fm then none
  else (rmOf (if wF3 w = 7 then frm else wF3 w)).map (fun r =>
    let x := fFma f { rm := r } (flip (op == 0x4B || op == 0x4F) (get a)) (get b) (flip (op == 0x47 || op == 0x4F) (get c))
    (if dbl then x.1 else boxF x.1, x.2))

end Sys2Proof.Machine
end

