-- ==== Sys2Proof/Machine/RvMem.lean ====
section
/-! DEFINITION. What a core does with memory: translation, physical memory protection, attributes and permission copies, the input journal and the release buffer as a copy meets
them, loads, stores, and atomic accesses (R371 to R384, R405 to R416). Translation and protection follow the RISC-V privileged architecture 1.12 (log entry 20). -/

namespace Sys2Proof.Machine

open Sys2Proof

/-- Why an instruction does not retire now: it waits, it traps, the copies of its pair differ (code of R422), or a trigger stops the core. -/
inductive Stop where
  | stall
  | trap (t : Trap)
  | mism (code : Nat)
  | hit
  deriving DecidableEq, Repr

/-- A part of an instruction. -/
abbrev Rv := EStateM Stop State

/-- The kinds of access that faults distinguish. -/
inductive Mem where
  | fetch | load | store
  deriving DecidableEq, Repr

/-- The codes of misaligned, access, page and guest-page faults. -/
def Mem.mis : Mem → Nat | .fetch => 0 | .load => 4 | .store => 6
def Mem.acc : Mem → Nat | .fetch => 1 | .load => 5 | .store => 7
def Mem.page : Mem → Nat | .fetch => 12 | .load => 13 | .store => 15
def Mem.guest : Mem → Nat | .fetch => 20 | .load => 21 | .store => 23

/-- An access in flight: its kind, its virtual address, and the privilege and mode it is made with; MXR of an HLVX. -/
structure Va where
  m : Mem
  va : Nat
  priv : Nat
  virt : Bool
  /-- HLVX: execute permission in place of read. -/
  exec : Bool := false
  /-- The access meets a parity error on the fabric (R31). -/
  parity : Bool := false

/-- What an access finds on the fabric (R31). -/
def Va.seen (v : Va) : EccObs := if v.parity then .parity else .clean

/-- A fault at the address of an access. -/
def Va.fault {α : Type} (v : Va) (code : Nat) : Rv α := throw (.trap { code := code, tval := v.va, gva := v.virt })

/-- A guest-page fault: the guest physical address, and the pseudoinstruction of an implicit access. -/
def Va.guestFault {α : Type} (v : Va) (gpa tinst : Nat) : Rv α :=
  throw (.trap { code := v.m.guest, tval := v.va, gpa := gpa, gva := v.virt, tinst := tinst })

/-! ### Physical memory protection (R371) -/

/-- The range of PMP entry `i`, granularity 4 KiB; none where it is off. -/
def Core.pmpRange (k : Core) (i : Nat) : Option (Nat × Nat) :=
  let a := k.pmpaddr i
  match bf (k.pmpcfg i) 3 2 with
  | 0 => none
  | 1 =>
    let lo := if i = 0 then 0 else k.pmpaddr (i - 1) / 1024 * 4096
    some (lo, a / 1024 * 4096)
  | 2 => some (a / 1024 * 4096, a / 1024 * 4096 + 4096)
  | _ =>
    let x := a ||| 0x1FF
    let ones := ((List.range 56).find? (fun j => !bitOf x j)).getD 56
    let size := 2 ^ (ones + 3)
    some (x * 4 / size * size, x * 4 / size * size + size)

/-- Whether the PMP allows an access of `priv`: the lowest entry that holds the address decides; only M passes where none does. Entries have 4 KiB granularity, so that no access within a page straddles one. -/
def Core.pmpOk (k : Core) (m : Mem) (priv pa : Nat) : Bool :=
  match (List.range 16).find? (fun i => match k.pmpRange i with | some (lo, hi) => decide (lo ≤ pa) && decide (pa < hi) | none => false) with
  | none => priv == 3
  | some i =>
    let g := k.pmpcfg i
    (priv == 3 && !bitOf g 7) || bitOf g (match m with | .load => 0 | .store => 1 | .fetch => 2)

/-! ### Attributes and permission copies (R376, R377) -/

/-- The kinds of address of R376. -/
inductive Attr where
  | none | envm | sram | local_ | io
  deriving DecidableEq, Repr

/-- R376. -/
def attrOf (pa : Nat) : Attr :=
  if pa < 0x0200_0000 then .envm
  else if within pa 0x1000_0000 0x140_0000 then .sram
  else if within pa 0x2000_0000 0x30_0000 then .local_
  else if within pa 0x4000_0000 0x1000_0000 || within pa 0x6000_0000 0x100_0000 || within pa 0x80_0000_0000 0x80_0000_0000 then .io
  else .none

/-- Cacheable memory. -/
def Attr.cached (a : Attr) : Bool := a == .envm || a == .sram

/-- R377: the permission copy of the world denies a cacheable access. -/
def State.copyDenies (s : State) (c pa : Nat) (k : AccKind) : Bool :=
  match checkerOf s.part pa with
  | some (t, _) => decide (t ≤ 5) && !s.regionGrants t pa (s.coreReq c) k
  | none => false

/-- R376: an access to an address of kind "none" is logged, by one copy of a pair. -/
def State.noneLogged (s : State) (c pa : Nat) (k : AccKind) : State :=
  if s.joined c && !s.isLead c then s
  else if within pa 0x0800_0000 0x4_0000 then s.refuse pa (s.coreReq c) k 17 0x0800_0000
  else s.refuse pa (s.coreReq c) k 0x1F 0

/-! ### The release buffer and the journal as a copy meets them (R406, R409 to R414) -/

/-- The accesses of a copy that wait in the release buffer. -/
def State.queueOf (s : State) (c : Nat) : List Acs := if s.isLead c then (s.pair.get (c / 2)).lq else (s.pair.get (c / 2)).sq

/-- R412: an access taken from copy `c`; a copy that rejoins drops those released since its checkpoint (R429). -/
def State.push (s : State) (c : Nat) (a : Acs) : State :=
  s.pairSet (c / 2) (fun p =>
    if s.isLead c then { p with lq := p.lq ++ [a] }
    else if 0 < p.drop then { p with drop := p.drop - 1 }
    else { p with sq := p.sq ++ [a] })

/-- `n` bytes at `pa` as a copy sees them before its own stores are released (R407). -/
def overlay (q : List Acs) (pa n v : Nat) : Nat :=
  ofBytes ((List.range n).map (fun i =>
    match q.reverse.find? (fun a => (a.kind == 1 || a.kind == 5) && within (pa + i) a.addr a.size) with
    | some a => a.data / 256 ^ (pa + i - a.addr) % 256
    | none => v / 256 ^ i % 256))

/-- The state of core `c`, and a change of it. -/
def rvCore (c : Nat) : Rv Core := do return (← get).core.get c
def rvSet (c : Nat) (g : Core → Core) : Rv Unit := modify (fun s => s.coreSet c g)

/-- The entry of the journal that copy `c` uses next. -/
def State.jNext (s : State) (c : Nat) : Option JEntry := (s.pair.get (c / 2)).journal[(s.core.get c).jpos]?

/-- The next entry used and verified (R410). -/
def State.jUse (s : State) (c : Nat) : State :=
  let j := (s.core.get c).jpos
  (s.pairSet (c / 2) (fun p => { p with journal := p.journal.modify j (fun (e : JEntry) => { e with verified := true }) })).coreSet c (fun k => { k with jpos := j + 1 })

/-- R409, R410, R425: an agreed input: from the journal where it holds the next entry, else read by the lead and journalled; on an unpaired core, read. -/
def agreed (c kind size addr : Nat) (fresh : Rv (Bool × Nat)) : Rv (Bool × Nat) := do
  let s ← get
  if !s.joined c then fresh
  else
    match s.jNext c with
    | some e =>
      if e.kind ≠ kind ∨ e.size ≠ size ∨ e.addr ≠ addr then throw (.mism 2)
      else
        set (s.jUse c)
        return (e.err, e.value)
    | none =>
      if s.isLead c && (s.pst (c / 2) == 1 || s.pst (c / 2) == 4) then
        let r ← fresh
        modify (fun s => (s.jrnPut (c / 2) { kind := kind, size := size, addr := addr, value := r.2, err := r.1, seq := (s.core.get c).seq }).coreSet c
          (fun k => { k with jpos := k.jpos + 1 }))
        return r
      else throw .stall

/-- A fabric access of core `c` by itself; a load that PCIe has to answer is marked as its own. -/
def State.coreFab (s : State) (c : Nat) (acc : AccKind) (pa size v : Nat) (e : EccObs) : State × FabEnd :=
  let x := s.fabDo (s.coreReq c) none acc pa size v e
  if x.2 = .pending ∧ acc = .read ∧ s.pcie.out.length < x.1.pcie.out.length then
    let t := (x.1.pcie.out.getLast?.map (fun (q : PcieReq) => q.tag)).getD 0
    let own (q : PcieReq) : PcieReq := { q with core := q.tag == t || (q.core && q.id != s.hartOf c) }
    ({ x.1 with pcie := { x.1.pcie with out := x.1.pcie.out.map own } }, .pending)
  else x

def fab (c : Nat) (acc : AccKind) (pa size v : Nat) (e : EccObs) : Rv FabEnd :=
  modifyGet (fun s => let x := s.coreFab c acc pa size v e; (x.2, x.1))

/-- R382, R406, R412 to R414: an access that waits for its response as the oldest unretired instruction: error flag and value. In a pair it passes the release buffer;
alone it goes to the fabric, or to `act` where it is no plain read. -/
def presented (c : Nat) (a : Acs) (e : EccObs) (act : Option (Rv (Bool × Nat))) : Rv (Bool × Nat) := do
  let s ← get
  let k ← rvCore c
  if s.joined c then
    if k.wait.isNone then
      modify (fun s => (s.push c { a with seq := k.seq }).coreSet c (fun k => { k with wait := some a }))
    let s1 ← get
    match s1.jNext c with
    | none => throw .stall
    | some e =>
      if e.kind ≠ jkind a.kind ∨ e.size ≠ a.size ∨ e.addr ≠ a.addr then throw (.mism 2)
      else
        set ((s1.jUse c).coreSet c (fun k => { k with wait := none }))
        return (e.err, e.value)
  else
    match k.wait, k.resp with
    | some _, some r =>
      rvSet c (fun k => { k with wait := none, resp := none })
      return r
    | some _, none => throw .stall
    | none, _ =>
      match act with
      | some f => f
      | none =>
        match ← fab c .read a.addr a.size 0 e with
        | .data d => return (false, d)
        | .error => return (true, 0)
        | .pending =>
          if s.pcie.out.length < (← get).pcie.out.length then rvSet c (fun k => { k with wait := some a, resp := none })
          throw .stall

/-- The last errors of stores (R380, R409, R414): on a pair the lead's setting is journalled at its step; where the lead has not used the journal up, the setting waits its turn there. -/
def State.storeError (s : State) (c : Nat) (inner : Bool) (addr : Nat) : State :=
  if !s.joined c then s.berr c inner addr
  else
    let n := c / 2
    let l := s.leadOf n
    let k := s.core.get l
    if (s.pst n = 1 ∨ s.pst n = 4 ∨ s.pst n = 5) ∧ (s.pair.get n).journal.length ≤ k.jpos then
      ((s.berr l inner addr).jrnPut n { kind := 10, addr := addr, value := b2n inner, seq := k.seq, verified := true }).coreSet l (fun k => { k with jpos := k.jpos + 1 })
    else if s.pst n = 6 ∨ s.pst n = 0 then s
    else s.jrnPut n { kind := 10, addr := addr, value := b2n inner, seq := 0, verified := true }

/-- A write of core `c` that keeps its own reservation (R373: only writes of other initiators end it). -/
def State.coreWrite (s : State) (c pa size v : Nat) (e : EccObs := .clean) : State × FabEnd :=
  let r := (s.core.get c).res
  let x := s.coreFab c .write pa size v e
  (x.1.coreSet c (fun k => { k with res := r }), x.2)

/-- R379, R380, R406: a store, or an A or D update, that does not wait. An error response to it sets mhjvberr. -/
def posted (c kind pa size v : Nat) (e : EccObs := .clean) : Rv Unit := do
  let s ← get
  if s.joined c then
    modify (fun s => s.push c { kind := kind, addr := pa, size := size, data := v, inner := s.coreWorld c, seq := (s.core.get c).seq })
  else
    let x := s.coreWrite c pa size v e
    set (if x.2 = .error then x.1.storeError c (s.coreWorld c) pa else x.1)

/-! ### Page tables -/

/-- A page-table entry read at `pa` (R376, R377, R408): cacheable memory that the PMP lets S-mode read. -/
def ptRead (c : Nat) (v : Va) (pa : Nat) : Rv Nat := do
  let s ← get
  let k ← rvCore c
  if !(attrOf pa).cached || !k.pmpOk .load 1 pa || s.copyDenies c pa .read then v.fault v.m.acc
  else
    match ← fab c .read pa 8 0 v.seen with
    | .data d => return if s.joined c then overlay (s.queueOf c) pa 8 d else d
    | _ => v.fault v.m.acc

/-- R373, R382: A and D set by an atomic update. -/
def ptWrite (c : Nat) (v : Va) (pa pte : Nat) : Rv Unit := do
  let s ← get
  let k ← rvCore c
  if attrOf pa ≠ .sram || !k.pmpOk .store 1 pa || s.copyDenies c pa .amo then v.fault v.m.acc
  else posted c 5 pa 8 pte

/-- Bits of a page-table entry. -/
def pteV (p : Nat) : Bool := bitOf p 0
def pteR (p : Nat) : Bool := bitOf p 1
def pteW (p : Nat) : Bool := bitOf p 2
def pteX (p : Nat) : Bool := bitOf p 3
def pteU (p : Nat) : Bool := bitOf p 4

/-- An entry that no walk accepts: invalid, W without R, or a reserved bit. -/
def pteBad (p : Nat) : Bool := !pteV p || (!pteR p && pteW p) || p / 2 ^ 54 != 0

/-- A walk of a three-level table whose top index has `top` bits: `rd` and `wr` reach the entries, `ok` says that a leaf admits the access, `bad` ends the walk. -/
def walk (store : Bool) (va top : Nat) (rd : Nat → Rv Nat) (wr : Nat → Nat → Rv Unit) (ok : Nat → Bool) (bad : Rv Nat) : Nat → Nat → Rv Nat
  | 0, _ => bad
  | l + 1, base => do
    let a := base + 8 * (if l = 2 then bf va 30 top else bf va (12 + 9 * l) 9)
    let pte ← rd a
    let ppn := bf pte 10 44
    if pteBad pte then bad
    else if !pteR pte && !pteX pte then
      if pte &&& 0xD0 ≠ 0 then bad else walk store va top rd wr ok bad l (ppn * 4096)
    else if ppn % 2 ^ (9 * l) ≠ 0 || !ok pte then bad
    else
      let need := if store then 0xC0 else 0x40
      if pte &&& need ≠ need then wr a (pte ||| need)
      return ppn / 2 ^ (9 * l) * 2 ^ (9 * l) * 4096 + va % 2 ^ (12 + 9 * l)

/-- Whether read (or execute, for a fetch and HLVX) or write permission is there; `mxr` makes executable pages readable. -/
def pteAllows (v : Va) (mxr : Bool) (p : Nat) : Bool :=
  match v.m with
  | .fetch => pteX p
  | .store => pteW p
  | .load => if v.exec then pteX p else pteR p || (mxr && pteX p)

/-- The G-stage (R371: hgatp Bare or Sv39x4). `need` is what the stage checks, `v` the access that a fault reports. -/
def gStage (c : Nat) (v need : Va) (tinst gpa : Nat) : Rv Nat := do
  let k ← rvCore c
  let atp := k.cs 0x680
  if atp / 2 ^ 60 = 0 then return gpa
  else
    let bad : Rv Nat := v.guestFault gpa tinst
    if gpa / 2 ^ 41 ≠ 0 then bad
    else walk (need.m == .store) gpa 11 (ptRead c v) (ptWrite c v) (fun p => pteU p && pteAllows need (bitOf (k.cs 0x300) 19) p) bad 3 (atp % 2 ^ 44 / 4 * 4 * 4096)

/-- R371: a virtual address translated: satp outside the virtual modes, vsatp and hgatp inside. -/
def translate (c : Nat) (v : Va) : Rv Nat := do
  let k ← rvCore c
  if v.priv = 3 then return v.va
  else
    let ms := k.cs 0x300
    let vs := k.cs 0x200
    let atp := if v.virt then k.cs 0x280 else k.cs 0x180
    let sum := if v.virt then bitOf vs 18 else bitOf ms 18
    let mxr := bitOf ms 19 || (v.virt && bitOf vs 19)
    let gs (need : Va) (tinst gpa : Nat) : Rv Nat := if v.virt then gStage c v need tinst gpa else pure gpa
    if atp / 2 ^ 60 = 0 then gs v 0 v.va
    else
      let bad : Rv Nat := v.fault v.m.page
      if sext 39 v.va ≠ v.va then bad
      else
        let rd (a : Nat) : Rv Nat := do
          let pa ← gs { v with m := .load, exec := false } 0x3000 a
          ptRead c v pa
        let wr (a p : Nat) : Rv Unit := do
          let pa ← gs { v with m := .store, exec := false } 0x3020 a
          ptWrite c v pa p
        let ok (p : Nat) : Bool := pteAllows v mxr p && (if v.priv = 0 then pteU p else !pteU p || (sum && v.m != .fetch))
        let gpa ← walk (v.m == .store) v.va 9 rd wr ok bad 3 (atp % 2 ^ 44 * 4096)
        gs v 0 gpa

/-! ### Triggers (R373, R430) -/

/-- Whether trigger `i` matches an address for an access of kind `m` (type 2, address match). -/
def Core.trigHit (k : Core) (i : Nat) (m : Mem) (va : Nat) : Bool :=
  let t := k.cs (0x1_7A10 + i)
  let d := k.cs (0x1_7A20 + i)
  let on := bitOf t (match m with | .fetch => 2 | .store => 1 | .load => 0) && bitOf t (if k.priv = 3 then 6 else if k.priv = 1 then 4 else 3) && !bitOf t 19
  let napot := ((List.range 63).find? (fun j => !bitOf d j)).getD 63
  on && (match bf t 7 4 with
    | 0 => va == d
    | 1 => va / 2 ^ (napot + 1) == d / 2 ^ (napot + 1)
    | 2 => decide (d ≤ va)
    | 3 => decide (va < d)
    | _ => false)

/-- A trigger that fires before its access: a breakpoint, or a stop for debug, which a replay does not repeat. -/
def triggers (c : Nat) (m : Mem) (va : Nat) : Rv Unit := do
  let s ← get
  let k ← rvCore c
  if k.pbuf ≠ [] then return ()
  else
    match (List.range 4).find? (fun i => k.trigHit i m va) with
    | none => return ()
    | some i =>
      if bf (k.cs (0x1_7A10 + i)) 12 4 = 1 then
        if s.joined c && s.pst (c / 2) == 3 then return () else throw .hit
      else throw (.trap { code := 3, tval := va, gva := k.virt })

/-! ### Loads and stores -/

/-- The privilege and mode of a data access (MPRV). -/
def Core.dataMode (k : Core) : Nat × Bool :=
  let ms := k.cs 0x300
  if k.priv = 3 ∧ bitOf ms 17 = true then (bf ms 11 2, bitOf ms 39 && bf ms 11 2 != 3) else (k.priv, k.virt)

/-- The physical address and attribute of an access, after the checks that come before its data (R374, R376, R377). -/
def located (c : Nat) (v : Va) (acc : AccKind) : Rv (Nat × Attr) := do
  let pa ← translate c v
  let s ← get
  let k ← rvCore c
  if !k.pmpOk (if v.exec then .fetch else v.m) v.priv pa then v.fault v.m.acc
  else
    let a := attrOf pa
    if a = .none then
      modify (fun s => s.noneLogged c pa acc)
      v.fault v.m.acc
    else if (a == .envm && (acc == .write || acc == .amo)) || (a != .sram && acc == .amo) then v.fault v.m.acc
    else if a.cached && s.copyDenies c pa acc then v.fault v.m.acc
    else return (pa, a)

/-- The parts of an access of `n` bytes: one, or two where it crosses a page (R374: only in cacheable memory). -/
def parts (c : Nat) (v : Va) (acc : AccKind) (n : Nat) : Rv (Attr × List (Nat × Nat)) := do
  let (pa, a) ← located c v acc
  if v.va % n = 0 then return (a, [(pa, n)])
  else if !a.cached then v.fault v.m.mis
  else
    let k := 4096 - v.va % 4096
    if n ≤ k then return (a, [(pa, n)])
    else
      let v2 : Va := { v with va := (v.va + k) % 2 ^ 64 }
      let (pb, b) ← located c v2 acc
      if !b.cached then v.fault v.m.mis else return (a, [(pa, k), (pb, n - k)])

/-- A cacheable read of the parts of an access (R377, R380, R407): error flag and value. -/
def readParts (c : Nat) (bad : Bool) (seen : EccObs) : List (Nat × Nat) → Rv (Bool × Nat)
  | [] => return (bad, 0)
  | (pa, n) :: r => do
    let s ← get
    match ← fab c .read pa n 0 seen with
    | .data d =>
      let d1 := if s.joined c then overlay (s.queueOf c) pa n d else d
      let (e, x) ← readParts c bad seen r
      return (e, d1 + x * 256 ^ n)
    | _ => return (true, 0)

/-- A load of `n` bytes, zero-extended. -/
def loadAt (c : Nat) (v : Va) (n : Nat) (o : RvObs) : Rv Nat := do
  triggers c v.m v.va
  let (a, ps) ← parts c v .read n
  let pa := (ps.headD (0, 0)).1
  let s ← get
  let r ← (if a.cached then agreed c 0 n pa (readParts c o.dataBad v.seen ps)
    else presented c { kind := 0, addr := pa, size := n, inner := s.coreWorld c } v.seen none)
  if r.1 then v.fault v.m.acc
  else
    if a = .io then rvSet c (fun k => k.count 6 1)
    return r.2 % 256 ^ n

/-- A store of `n` bytes. -/
def storeParts (c : Nat) (v : Va) (io : Bool) : List (Nat × Nat) → Nat → Rv Unit
  | [], _ => return ()
  | (pa, n) :: r, x => do
    let s ← get
    if s.joined c || io then posted c 1 pa n (x % 256 ^ n) v.seen
    else
      let y := s.coreWrite c pa n (x % 256 ^ n) v.seen
      set y.1
      if y.2 = .error then v.fault v.m.acc
    storeParts c v io r (x / 256 ^ n)

def storeAt (c : Nat) (v : Va) (n x : Nat) : Rv Unit := do
  triggers c v.m v.va
  let (a, ps) ← parts c v .write n
  storeParts c v (!a.cached) ps x

/-- The access of a plain load or store of core `c` at `va`. -/
def plainVa (c : Nat) (m : Mem) (va : Nat) (o : RvObs) : Rv Va := do
  let k ← rvCore c
  let (p, w) := k.dataMode
  return { m := m, va := va, priv := p, virt := w, parity := o.parity }

/-- R373, R382, R407, R447: LR, SC and AMO, checked alike. `f5` is the operation; 2 is LR, 3 is SC. -/
def atomicAt (c f5 n va x : Nat) (o : RvObs) : Rv Nat := do
  let m : Mem := if f5 = 2 then .load else .store
  let v ← plainVa c m va o
  triggers c m va
  if va % n ≠ 0 then v.fault m.mis
  else
    let (pa, a) ← located c v .amo
    if a ≠ .sram then v.fault m.acc
    else
      let s ← get
      let kind := if f5 = 2 then 3 else if f5 = 3 then 4 else 2
      let q : Acs := { kind := kind, addr := pa, size := n, data := if f5 = 2 then 0 else x % 256 ^ n, op := f5, inner := s.coreWorld c }
      let alone : Rv (Bool × Nat) := do
        let s ← get
        let k ← rvCore c
        if f5 = 3 ∧ k.res ≠ some (pa / 64) then
          rvSet c (fun k => { k with res := none })
          return (false, 1)
        else
          let old := s.load pa n
          let y := if f5 = 2 then s.coreFab c .read pa n 0 v.seen
            else if f5 = 3 then s.coreFab c .write pa n (x % 256 ^ n) v.seen
            else (let z := s.coreFab c .amo pa n ((amoNew f5 (8 * n) old x).getD old) v.seen; (z.1.coreSet c (fun k' => { k' with res := k.res }), z.2))
          set y.1
          if f5 = 2 ∧ y.2 ≠ .error then rvSet c (fun k => { k with res := some (pa / 64) })
          if f5 = 3 then rvSet c (fun k => { k with res := none })
          match y.2 with
          | .data d => return (false, if f5 = 3 then 0 else d)
          | _ => return (true, 0)
      if o.dataBad && f5 != 3 && !s.joined c then v.fault m.acc
      else
        let r ← presented c q v.seen (some alone)
        if r.1 then v.fault m.acc else return r.2

/-- R389: AGREE.LD: 8 bytes uncached, whatever the attributes; translation and PMP as for a load. -/
def agreeLoad (c va : Nat) (o : RvObs) : Rv Nat := do
  let v ← plainVa c .load va o
  triggers c .load va
  if va % 8 ≠ 0 then v.fault 4
  else
    let pa ← translate c v
    let s ← get
    let k ← rvCore c
    if !k.pmpOk .load v.priv pa then v.fault 5
    else
      let a := attrOf pa
      let r ← (if a = .io ∨ a = .local_ then presented c { kind := 7, addr := pa, size := 8, inner := s.coreWorld c } v.seen none
        else agreed c 4 8 pa (do
          match ← fab c .read pa 8 0 v.seen with
          | .data d => return (false, d)
          | _ => return (true, 0)))
      if r.1 then v.fault 5 else return r.2

/-! ### Fetching -/

/-- A halfword of code at `va` (R376, R377, R380, R394). -/
def fetchHalf (c va : Nat) (o : RvObs) : Rv Nat := do
  let k ← rvCore c
  let v : Va := { m := .fetch, va := va % 2 ^ 64, priv := k.priv, virt := k.virt, parity := o.fetchParity }
  let (pa, a) ← located c v .fetch
  if !a.cached || o.fetchBad then v.fault 1
  else
    match ← fab c .fetch pa 2 0 v.seen with
    | .data d => return d
    | _ => v.fault 1

/-- The next instruction: its word and its length. A program buffer comes first (R430). -/
def fetchWord (c : Nat) (o : RvObs) : Rv (Nat × Nat) := do
  let k ← rvCore c
  match k.pbuf with
  | h :: r => return if h % 4 = 3 then (h + r.headD 0 * 2 ^ 16, 4) else (h, 2)
  | [] =>
    triggers c .fetch k.pc
    let lo ← fetchHalf c k.pc o
    if lo % 4 = 3 then
      let hi ← fetchHalf c (k.pc + 2) o
      return (lo + hi * 2 ^ 16, 4)
    else return (lo, 2)

end Sys2Proof.Machine
end

