-- ==== Sys2Proof/Machine/RvExec.lean ====
section
/-! DEFINITION. The instructions of the application cores: standard, CSR, hypervisor and Xhjv (R371, R384, R386 to R392, R398, R402, R408, R409). Each gives the address of
the next instruction. -/

namespace Sys2Proof.Machine

open Sys2Proof

/-- Illegal and virtual instruction: tval is the instruction. -/
def illegal {α : Type} (w : Nat) : Rv α := throw (.trap { code := 2, tval := w })
def virtual {α : Type} (w : Nat) : Rv α := throw (.trap { code := 22, tval := w })

/-- An integer register read and written. -/
def getX (c r : Nat) : Rv Nat := do return (← rvCore c).getX r
def setX (c r v : Nat) : Rv Unit := rvSet c (fun k => k.setX r v)

/-- An optional result written to rd; none is illegal. -/
def putX (c w : Nat) (r : Option Nat) : Rv Unit :=
  match r with
  | some v => setX c (wRd w) v
  | none => illegal w

/-- Predictor entries made by a branch or jump in the world of the core (R384). -/
def predict (c : Nat) : Rv Unit := modify (fun s => s.coreSet c (fun k => { k with pred := k.pred ||| (if s.coreWorld c then 2 else 1) }))

/-- Stores of a pair that a fence waits for (R379, R408): the copy's accesses are released. -/
def drained (c : Nat) : Rv Unit := do
  let s ← get
  if s.joined c && s.queueOf c != [] then throw .stall

/-! ### CSR instructions (R398, R402, R409) -/

/-- A read by an instruction; the agreed inputs of R409 come through the journal. -/
def csrInput (c n : Nat) : Rv Nat := do
  let claim := n = 0x7C1 ∨ n = 0x5C0
  let count := n = 0xC00 ∨ n = 0xC01 ∨ n = 0xB00 ∨ (0xB03 ≤ n ∧ n < 0xB0B) ∨ (0xC03 ≤ n ∧ n < 0xC0B)
  let fresh : Rv (Bool × Nat) := modifyGet (fun s => let x := s.csrRead c n; ((false, x.2), x.1))
  if claim then return (← agreed c 8 8 n fresh).2
  else if count then return (← agreed c 7 8 n fresh).2
  else return (← fresh).2

/-- A write by an instruction; a written minstret is not counted up by its own instruction. -/
def csrPut (c n v : Nat) : Rv Unit :=
  modify (fun s =>
    let s1 := s.csrWrite c n (v % 2 ^ 64)
    if n = 0xB02 ∧ bitOf ((s.core.get c).cs 0x320) 2 = false then s1.csrWrite c n ((v + 2 ^ 64 - 1) % 2 ^ 64) else s1)

/-- The floating-point state becomes dirty. -/
def Core.fpDirty (k : Core) : Core :=
  let k1 := k.setCs 0x300 (k.cs 0x300 ||| 0x6000)
  if k.virt then k1.setCs 0x200 (k1.cs 0x200 ||| 0x6000) else k1

/-- CSRRW, CSRRS, CSRRC and their immediate forms. -/
def csrInstr (c w : Nat) : Rv Unit := do
  let k ← rvCore c
  let f3 := wF3 w
  let n := wCsr w
  let rs := wRs1 w
  let wr := f3 % 4 == 1 || rs != 0
  let rd := f3 % 4 != 1 || wRd w != 0
  match k.csrCheck n wr with
  | .illegal => illegal w
  | .virtual => virtual w
  | .ok =>
    let src := if 4 ≤ f3 then rs else k.getX rs
    let m := if k.virt then csrVirt n else n
    let old ← (if rd then csrInput c m else pure 0)
    let cur := if m = 0x344 ∧ rd then (old &&& (2 ^ 64 - 1 - 0x200)) ||| (k.cs 0x344 &&& 0x200) else old
    if wr then
      csrPut c m (if f3 % 4 = 1 then src else if f3 % 4 = 2 then cur ||| src else cur &&& not64 src)
      if n < 4 then rvSet c Core.fpDirty
    setX c (wRd w) old

/-! ### System instructions -/

/-- SRET. -/
def sretInstr (c w : Nat) : Rv Nat := do
  let k ← rvCore c
  let ms := k.cs 0x300
  let hs := k.cs 0x600
  if k.priv = 0 then (if k.virt then virtual w else illegal w)
  else if k.virt then
    if bitOf hs 22 then virtual w
    else
      let vs := k.cs 0x200
      rvSet c (fun k => { (k.setCs 0x200 (putBf (putBf (putBf vs 1 1 (bf vs 5 1)) 5 1 1) 8 1 0)) with priv := bf vs 8 1 })
      return k.cs 0x241
  else if k.priv = 1 ∧ bitOf ms 22 = true then illegal w
  else
    let ms1 := putBf (putBf (putBf (putBf ms 1 1 (bf ms 5 1)) 5 1 1) 8 1 0) 17 1 0
    rvSet c (fun k => { ((k.setCs 0x300 ms1).setCs 0x600 (putBf hs 7 1 0)) with priv := bf ms 8 1, virt := bitOf hs 7 })
    modify (fun s => s.wstat c)
    return k.cs 0x141

/-- MRET (R393 to R395): a mode below M in the Outer world makes the next instruction a shadow. -/
def mretInstr (c w : Nat) : Rv Nat := do
  let k ← rvCore c
  if k.priv ≠ 3 then illegal w
  else
    let ms := k.cs 0x300
    let mpp := bf ms 11 2
    let ms1 := putBf (putBf (putBf (putBf ms 3 1 (bf ms 7 1)) 7 1 1) 11 2 0) 39 1 0
    let ms2 := if mpp = 3 then ms1 else putBf ms1 17 1 0
    rvSet c (fun k => { (k.setCs 0x300 ms2) with priv := mpp, virt := bitOf ms 39 && mpp != 3 })
    modify (fun s => s.wstat c)
    return k.cs 0x341

/-- WFI (R415): it waits for a pending interrupt that mie enables; the shadow of a pair waits until its lead has gone on. -/
def wfiInstr (c w : Nat) : Rv Unit := do
  let s ← get
  let k ← rvCore c
  if k.priv = 0 then (if k.virt && !bitOf (k.cs 0x300) 21 then virtual w else illegal w)
  else if k.priv = 1 && bitOf (k.cs 0x300) 21 then illegal w
  else if k.virt && bitOf (k.cs 0x600) 21 then virtual w
  else if s.joined c && !s.isLead c then return ()
  else if s.joined c && (s.jNext c).isSome then return ()
  else if s.mip c &&& k.cs 0x304 = 0 then
    rvSet c (fun k => { k with wfi := true })
    throw .stall

/-- SFENCE.VMA, HFENCE.VVMA, HFENCE.GVMA: their permission, and the stores of a pair that they wait for (R408). -/
def fenceVma (c w : Nat) : Rv Unit := do
  let k ← rvCore c
  let f7 := wF7 w
  if f7 = 0x09 then
    if k.virt then (if k.priv = 0 || bitOf (k.cs 0x600) 20 then virtual w else drained c)
    else if k.priv = 0 || (k.priv == 1 && bitOf (k.cs 0x300) 20) then illegal w
    else drained c
  else if k.virt then virtual w
  else if k.priv = 0 || (f7 == 0x31 && k.priv == 1 && bitOf (k.cs 0x300) 20) then illegal w
  else drained c

/-- HLV, HLVX and HSV: accesses as VS or VU by hstatus.SPVP. -/
def hyperAccess (c w : Nat) (o : RvObs) : Rv Unit := do
  let k ← rvCore c
  let f7 := wF7 w
  let n := 2 ^ ((f7 - 0x30) / 2)
  let r2 := wRs2 w
  let store := f7 % 2 == 1
  let known := 0x30 ≤ f7 ∧ f7 ≤ 0x37 ∧
    (if store then wRd w = 0 else r2 = 0 ∨ (r2 = 1 ∧ n < 8) ∨ (r2 = 3 ∧ (n = 2 ∨ n = 4)))
  if ¬ known then illegal w
  else if k.virt then virtual w
  else if k.priv = 0 && !bitOf (k.cs 0x600) 9 then illegal w
  else
    let v : Va := { m := if store then .store else .load, va := k.getX (wRs1 w), priv := bf (k.cs 0x600) 8 1, virt := true, exec := !store && r2 == 3, parity := o.parity }
    if store then storeAt c v n (k.getX r2)
    else
      let d ← loadAt c v n o
      setX c (wRd w) (if r2 = 0 then sext (8 * n) d else d)

/-- SYSTEM with funct3 0. -/
def systemInstr (c w npc : Nat) : Rv Nat := do
  let k ← rvCore c
  if w = 0x00000073 then throw (.trap { code := if k.priv = 3 then 11 else if k.priv = 0 then 8 else if k.virt then 10 else 9 })
  else if w = 0x00100073 then throw (.trap { code := 3, tval := k.pc, gva := k.virt })
  else if w = 0x10200073 then sretInstr c w
  else if w = 0x30200073 then mretInstr c w
  else if w = 0x10500073 then
    wfiInstr c w
    return npc
  else if wRd w = 0 ∧ (wF7 w = 0x09 ∨ wF7 w = 0x11 ∨ wF7 w = 0x31) then
    fenceVma c w
    return npc
  else illegal w

/-! ### The Xhjv extension (R386 to R392) -/

/-- R387: GTBRD and GTBRD.X are permitted as a read of time. -/
def timeAllowed (c w : Nat) : Rv Unit := do
  match (← rvCore c).counterOk 1 with
  | .ok => return ()
  | .illegal => illegal w
  | .virtual => virtual w

/-- The Xhjv instructions by their word. -/
def isWcall (w : Nat) : Bool := w == 0x0000000B
def isCkpt (w : Nat) : Bool := w == 0x0000100B
def isAgreeLd (w : Nat) : Bool := wOp w == 0x0B && wF3 w == 2 && wF7 w == 0 && wRs2 w == 0
def isAgreeRnd (w : Nat) : Bool := wOp w == 0x0B && wF3 w == 2 && wF7 w == 1 && wRs2 w == 0 && wRs1 w == 0
def isAgreeCyc (w : Nat) : Bool := wOp w == 0x0B && wF3 w == 2 && wF7 w == 2 && wRs2 w == 0 && wRs1 w == 0
def isGtbrd (w : Nat) : Bool := wOp w == 0x0B && wF3 w == 3 && wF7 w == 0 && wRs2 w == 0 && wRs1 w == 0
def isGtbrdX (w : Nat) : Bool := wOp w == 0x0B && wF3 w == 3 && wF7 w == 1 && wRs2 w == 0 && wRs1 w == 0
def isEvpost (w : Nat) : Bool := wOp w == 0x0B && wF3 w == 4 && wF7 w == 0 && wRs2 w == 0 && wRd w == 0

/-- R387, R388: WCALL. -/
def wcallInstr (c w : Nat) : Rv Unit := do
  if (← rvCore c).priv = 3 then illegal w else throw (.trap { code := 24 })

/-- R389: AGREE.RND: the bits of the random bit generator. -/
def agreeRnd (c w : Nat) (o : RvObs) : Rv Unit := do
  setX c (wRd w) (← agreed c 4 8 0 (pure (false, o.rnd % 2 ^ 64))).2

/-- R389: AGREE.CYC: the lead's mcycle. -/
def agreeCyc (c w : Nat) : Rv Unit := do
  let k ← rvCore c
  setX c (wRd w) (← agreed c 4 8 0 (pure (false, k.cs 0xB00))).2

/-- R390: GTBRD. The fraction and the quality of the same tick stay for GTBRD.X; they travel with the value. -/
def gtbrdInstr (c w : Nat) : Rv Unit := do
  timeAllowed c w
  let s ← get
  let r ← agreed c 5 8 0 (pure (false, s.nowNs % 2 ^ 64 + (s.nowFrac + s.get GTB_STAT_QUAL * 256) * 2 ^ 64))
  rvSet c (fun k => { k with gtbrd := some (r.2 / 2 ^ 64 % 256, r.2 / 2 ^ 72) })
  setX c (wRd w) (r.2 % 2 ^ 64)

/-- R390: GTBRD.X: 0 where no GTBRD has been executed. -/
def gtbrdXInstr (c w : Nat) : Rv Unit := do
  timeAllowed c w
  let k ← rvCore c
  let v := match k.gtbrd with
    | some (f, q) => f + q % 16 * 256
    | none => 0
  setX c (wRd w) (← agreed c 6 8 0 (pure (false, v))).2

/-- R391: EVPOST: a pair's post passes its release buffer. -/
def evpostInstr (c w : Nat) : Rv Unit := do
  let k ← rvCore c
  if k.virt then virtual w
  else if k.priv = 0 then illegal w
  else
    let v := k.getX (wRs1 w) % 2 ^ 32
    modify (fun s =>
      if s.joined c then s.push c { kind := 6, addr := 0, size := 4, data := v, inner := s.coreWorld c, seq := k.seq }
      else s.raise (32 + c) v)

/-- The custom-0 major opcode. CKPT acts at its retirement. -/
def customInstr (c w : Nat) (o : RvObs) : Rv Unit := do
  if isWcall w then wcallInstr c w
  else if isCkpt w then return ()
  else if isAgreeLd w then setX c (wRd w) (← agreeLoad c (← getX c (wRs1 w)) o)
  else if isAgreeRnd w then agreeRnd c w o
  else if isAgreeCyc w then agreeCyc c w
  else if isGtbrd w then gtbrdInstr c w
  else if isGtbrdX w then gtbrdXInstr c w
  else if isEvpost w then evpostInstr c w
  else illegal w

/-! ### The standard instructions (R371) -/

/-- LOAD (0x03). -/
def loadInstr (c w : Nat) (o : RvObs) : Rv Unit := do
  let k ← rvCore c
  let f3 := wF3 w
  if f3 = 7 then illegal w
  else
    let n := 2 ^ (f3 % 4)
    let v ← plainVa c .load (addI (k.getX (wRs1 w)) (immI w)) o
    let d ← loadAt c v n o
    setX c (wRd w) (if f3 < 4 then sext (8 * n) d else d)

/-- STORE (0x23). -/
def storeInstr (c w : Nat) (o : RvObs) : Rv Unit := do
  let k ← rvCore c
  if 4 ≤ wF3 w then illegal w
  else
    let v ← plainVa c .store (addI (k.getX (wRs1 w)) (immS w)) o
    storeAt c v (2 ^ wF3 w) (k.getX (wRs2 w))

/-- AMO (0x2F). -/
def amoInstr (c w : Nat) (o : RvObs) : Rv Unit := do
  let k ← rvCore c
  let f5 := bf w 27 5
  let f3 := wF3 w
  let known := (f3 = 2 ∨ f3 = 3) ∧ (f5 = 3 ∨ (f5 = 2 ∧ wRs2 w = 0) ∨ (amoNew f5 64 0 0).isSome = true)
  if ¬ known then illegal w
  else
    let n := 2 ^ f3
    let d ← atomicAt c f5 n (k.getX (wRs1 w)) (k.getX (wRs2 w)) o
    setX c (wRd w) (if f5 = 3 then d else sext (8 * n) d)

/-- An f register written; the floating-point state is dirty. -/
def setF (c r v : Nat) : Rv Unit := rvSet c (fun k => { k with f := k.f.put r (v % 2 ^ 64) }.fpDirty)

/-- Floating-point flags raised. -/
def raiseF (c fl : Nat) : Rv Unit := if fl = 0 then pure () else rvSet c (fun k => (k.setCs 3 (k.cs 3 ||| fl)).fpDirty)

/-- LOAD-FP, STORE-FP, OP-FP and the fused multiply-adds. -/
def fpInstr (c w : Nat) (o : RvObs) : Rv Unit := do
  let k ← rvCore c
  if !k.fpOn then illegal w
  else
    let f3 := wF3 w
    let frm := bf (k.cs 3) 5 3
    let a := k.f.get (wRs1 w)
    let b := k.f.get (wRs2 w)
    if wOp w = 0x07 then
      if f3 ≠ 2 ∧ f3 ≠ 3 then illegal w
      else
        let v ← plainVa c .load (addI (k.getX (wRs1 w)) (immI w)) o
        let d ← loadAt c v (2 ^ f3) o
        setF c (wRd w) (if f3 = 2 then boxF d else d)
    else if wOp w = 0x27 then
      if f3 ≠ 2 ∧ f3 ≠ 3 then illegal w
      else
        let v ← plainVa c .store (addI (k.getX (wRs1 w)) (immS w)) o
        storeAt c v (2 ^ f3) (b % 256 ^ 2 ^ f3)
    else if wOp w = 0x53 then
      match fpOp w frm a b (k.getX (wRs1 w)) with
      | none => illegal w
      | some (.f v fl) =>
        setF c (wRd w) v
        raiseF c fl
      | some (.x v fl) =>
        setX c (wRd w) v
        raiseF c fl
    else
      match fpFma w frm a b (k.f.get (bf w 27 5)) with
      | none => illegal w
      | some (v, fl) =>
        setF c (wRd w) v
        raiseF c fl

/-- The hypervisor accesses and the other SYSTEM instructions. -/
def systemAll (c w npc : Nat) (o : RvObs) : Rv Nat := do
  match wF3 w with
  | 0 => systemInstr c w npc
  | 4 =>
    hyperAccess c w o
    return npc
  | _ =>
    csrInstr c w
    return npc

/-- One 32-bit instruction `w` at `pc`; the next one stands at `npc` where it does not jump. `raw` is the instruction as fetched. -/
def rvExec (c w raw pc npc : Nat) (o : RvObs) : Rv Nat := do
  let k ← rvCore c
  let a := k.getX (wRs1 w)
  let b := k.getX (wRs2 w)
  match wOp w with
  | 0x37 =>
    setX c (wRd w) (w64 (immU w))
    return npc
  | 0x17 =>
    setX c (wRd w) (addI pc (immU w))
    return npc
  | 0x6F =>
    predict c
    setX c (wRd w) npc
    return addI pc (immJ w)
  | 0x67 =>
    if wF3 w ≠ 0 then illegal raw
    else
      predict c
      setX c (wRd w) npc
      return addI a (immI w) / 2 * 2
  | 0x63 =>
    match branchTaken (wF3 w) a b with
    | none => illegal raw
    | some t =>
      predict c
      return if t then addI pc (immB w) else npc
  | 0x03 =>
    loadInstr c w o
    return npc
  | 0x23 =>
    storeInstr c w o
    return npc
  | 0x13 =>
    putX c w (aluImm w a)
    return npc
  | 0x33 =>
    putX c w (aluOp (wF7 w) (wF3 w) a b)
    return npc
  | 0x1B =>
    putX c w (aluImm32 w a)
    return npc
  | 0x3B =>
    putX c w (aluOp32 (wF7 w) (wF3 w) (wRs2 w) a b)
    return npc
  | 0x0F =>
    match wF3 w with
    | 0 => if bitOf w 26 || bitOf w 24 then drained c
    | 1 => drained c
    | _ => illegal w
    return npc
  | 0x2F =>
    amoInstr c w o
    return npc
  | 0x73 => systemAll c w npc o
  | 0x0B =>
    customInstr c w o
    return npc
  | op =>
    if [0x07, 0x27, 0x43, 0x47, 0x4B, 0x4F, 0x53].contains op then
      fpInstr c w o
      return npc
    else illegal raw

end Sys2Proof.Machine
end

