-- ==== Sys2Proof/Machine/Rv.lean ====
section
/-! DEFINITION. How the application cores run: one instruction of a core or of a copy, interrupts, the release of a pair's accesses, and the program buffer
(R371, R379, R380, R386 to R400, R406 to R416, R425, R429 to R431). -/

namespace Sys2Proof.Machine

open Sys2Proof

/-! ### When a core runs (R411, R417, R418, R425, R430) -/

/-- The lead of a pair may retire: it stands before a checkpoint, and within the limits of R411. -/
def State.leadMay (s : State) (n : Nat) : Bool :=
  let p := s.pair.get n
  let k := s.core.get (s.leadOf n)
  (match p.ckAt with | some x => decide (k.seq < x) | none => true) && decide (p.lq.length < 32) && decide (p.journal.length < 32768) &&
  (s.pst n == 4 || decide (k.cnt < (s.core.get (s.shadowOf n)).cnt + 256))

/-- The shadow follows its lead, up to an access that the lead presents. -/
def State.shadowMay (s : State) (n : Nat) : Bool :=
  let k := s.core.get (s.shadowOf n)
  let l := s.core.get (s.leadOf n)
  s.pst n != 4 && (decide (k.seq < l.seq) || (l.wait.isSome && decide (k.seq = l.seq) && (s.pair.get n).ckAt != some k.seq))

/-- Whether core `c` can take a step now. -/
def State.rvReady (s : State) (c : Nat) : Bool :=
  let k := s.core.get c
  let n := c / 2
  s.alive && k.live && !k.stopped && !k.crashed && (!k.halted || k.pbuf != []) && !s.idling (114 + n) &&
  (!s.joined c ||
    ((s.pst n == 1 || s.pst n == 3 || s.pst n == 4) && (if s.isLead c then s.leadMay n else s.shadowMay n)))

/-! ### After a step -/

/-- The checkpoint that a step of the lead has asked for stands after it (R417, R418). -/
def State.ckAfter (s : State) (c : Nat) : State :=
  if s.joined c && s.isLead c && (s.pair.get (c / 2)).ckAt.isSome then
    s.pairSet (c / 2) (fun p => { p with ckAt := some (s.core.get c).seq })
  else s

/-- A core that has stepped: a single step halts it, and its pair may now stand halted (R430, R431). -/
def State.stepped (s : State) (c : Nat) : State :=
  let s0 := if (s.core.get c).single then (s.coreSet c Core.halt).wstat c else s
  let s1 := s0.ckAfter c
  if s1.joined c then s1.haltCheck (c / 2) else s1

/-- Core `c` takes interrupt `i` (R399, R400, R415). -/
def State.takeIrq (s : State) (c i : Nat) : State :=
  (s.coreSet c (fun k => k.count 7 1)).takeTrap c { irq := true, code := i }

/-- R400, R415: the pending enabled interrupt of an unpaired core or of a lead, journalled at the step it is taken after. -/
def State.irqNow (s : State) (c : Nat) : State :=
  match s.pickIrq c with
  | none => s
  | some i =>
    if !s.joined c then s.takeIrq c i
    else
      let q := (s.core.get c).seq
      let s1 := (s.jrnPut (c / 2) { kind := 9, value := i, seq := q }).coreSet c (fun k => { k with jpos := k.jpos + 1 })
      s1.takeIrq c i

/-- Whether the lead of a pair takes interrupts afresh: the pair runs, and it has used its journal up (R425, R426, R429). -/
def State.irqFresh (s : State) (c : Nat) : Bool :=
  !s.joined c || (s.isLead c && (s.pst (c / 2) == 1 || s.pst (c / 2) == 4) && (s.jNext c).isNone)

/-- R394, R395: an MRET has retired: in the Outer world its target is a shadow, and a pending interrupt comes first. -/
def State.mretAfter (s : State) (c : Nat) : State :=
  if s.coreWorld c then s
  else
    let s1 := s.coreSet c (fun k => { k with shadow := true })
    if s1.irqFresh c then s1.irqNow c else s1

/-- The counters of a retired instruction (R375). -/
def Core.counted (k : Core) (o : RvObs) : Core :=
  let k1 := o.events.foldl (fun k e => k.count e.1 e.2) k
  if bitOf (k1.cs 0x320) 2 then { k1 with cnt := k1.cnt + 1 } else { k1.setCs 0xB02 (k1.cs 0xB02 + 1) with cnt := k1.cnt + 1 }

/-- Core `c` retires its instruction and goes on at `npc`. -/
def State.retire (s : State) (c npc : Nat) (o : RvObs) : State :=
  s.coreSet c (fun k =>
    { k.counted o with pc := npc % 2 ^ 64, seq := k.seq + 1, shadow := false, entry := false, wfi := false, wait := none, resp := none })

/-- R416: a synchronous trap of a copy, compared with the other's. -/
def State.trapStep (s : State) (c : Nat) (t : Trap) : State :=
  let n := c / 2
  let q := (s.core.get c).seq
  let key := (q, t.cause, t.tval)
  if !s.joined c then s.takeTrap c t
  else if s.isLead c then (s.pairSet n (fun p => { p with traps := p.traps ++ [key] })).takeTrap c t
  else if q < (s.pair.get n).rejoin then s.takeTrap c t
  else match (s.pair.get n).traps with
    | k :: r => if k = key then (s.pairSet n (fun p => { p with traps := r })).takeTrap c t else s.mismatch n 4
    | [] => s.mismatch n 4

/-- Whether the lead has trapped where copy `c` retires. -/
def State.trapMissed (s : State) (c : Nat) : Bool :=
  s.joined c && !s.isLead c && (match (s.pair.get (c / 2)).traps with | k :: _ => decide (k.1 = (s.core.get c).seq) | [] => false)

/-- What copy `c` takes from the journal before an instruction: settings of mhjvberr, and an interrupt at its step (R409, R414, R415). The flag says that it has
taken an interrupt. -/
def State.rvInputs : Nat → State → Nat → State × Bool
  | 0, s, _ => (s, false)
  | m + 1, s, c =>
    match s.jNext c with
    | none => (s, false)
    | some e =>
      let q := (s.core.get c).seq
      if e.kind = 10 ∧ e.seq ≤ q then State.rvInputs m ((s.jUse c).berr c (e.value == 1) e.addr) c
      else if e.kind = 9 ∧ e.seq = q then ((s.jUse c).takeIrq c e.value, true)
      else (s, false)

/-! ### One instruction -/

/-- What an instruction is, before it runs: its word as fetched, expanded, and its length. -/
structure RvWord where
  raw : Nat
  word : Option Nat
  len : Nat
  deriving DecidableEq, Repr

/-- The next instruction of core `c`, fetched. -/
def rvWord (c : Nat) (o : RvObs) : Rv RvWord := do
  let (w, n) ← fetchWord c o
  return { raw := w, word := if n = 2 then rvc w else some w, len := n }

/-- A fetched instruction run to the address of the next one. -/
def rvRun (c : Nat) (x : RvWord) (o : RvObs) : Rv Nat := do
  let pc := (← rvCore c).pc
  match x.word with
  | none => illegal x.raw
  | some w => rvExec c w x.raw pc ((pc + x.len) % 2 ^ 64) o

/-- Illegal and virtual instruction report the instruction as it was fetched. -/
def Trap.asFetched (t : Trap) (raw : Nat) : Trap := if t.irq = false ∧ (t.code = 2 ∨ t.code = 22) then { t with tval := raw } else t

/-- R430: a trigger whose action is debug mode stops the core before the instruction; a pair records the hit. -/
def State.trigStop (s : State) (c : Nat) : State :=
  if s.joined c then (if s.isLead c then ((s.dbgAdd (c / 2) .hit).coreSet c Core.halt).wstat c else s)
  else (s.coreSet c Core.halt).wstat c

/-- An instruction of core `c` that has been fetched. -/
def State.rvOne (s : State) (c : Nat) (x : RvWord) (o : RvObs) : State :=
  match rvRun c x o s with
  | .ok npc t =>
    if t.trapMissed c then t.mismatch (c / 2) 4
    else
      let r := t.retire c npc o
      let r1 := if x.word = some 0x30200073 then r.mretAfter c else r
      -- R392: CKPT asks for its checkpoint at its retirement
      let r2 := if x.word.any isCkpt && r1.joined c && r1.isLead c then r1.ckBegin (c / 2) else r1
      r2.stepped c
  | .error e t =>
    match e with
    | .stall => t
    | .trap tr => (t.trapStep c (tr.asFetched x.raw)).stepped c
    | .mism code => t.mismatch (c / 2) code
    | .hit => (t.trigStop c).stepped c

/-- R430, R431: an instruction of the program buffer: it runs in M-mode, counts as a step, and an exception, or EBREAK, ends the buffer. -/
def State.rvDebug (s : State) (c : Nat) (x : RvWord) (o : RvObs) : State :=
  let k := s.core.get c
  let s0 := s.coreSet c (fun k => { k with priv := 3, virt := false })
  let after (t : State) (rest : List Nat) : State :=
    (t.coreSet c (fun k' => { k' with priv := k.priv, virt := k.virt, pc := k.pc, seq := k.seq + 1, pbuf := rest, wait := none, resp := none })).stepped c
  let rest := k.pbuf.drop (x.len / 2)
  if x.word = some 0x00100073 then after s []
  else match rvRun c x o s0 with
    | .ok _ t => after t rest
    | .error e t =>
      match e with
      | .stall => t.coreSet c (fun k' => { k' with priv := k.priv, virt := k.virt })
      | .mism code => t.mismatch (c / 2) code
      | _ => after (if s.joined c && !s.isLead c then t else t.emit (.link "DEBUG_CMDERR" [s.hartOf c, 3])) []

/-- One step of core `c`, where its instruction satisfies `want`. An uncorrectable error in the copy (R422), or in the journal entry that it reads (R427), comes first. -/
def State.rvStep (s : State) (c : Nat) (o : RvObs) (want : Nat → Bool) : State :=
  if !s.joined c && !s.rvReady c then s
  else
    let s1 := if s.joined c then s.dbgCatch 256 c else s
    if !s1.rvReady c then s
    else if o.upset && s1.joined c && s1.pst (c / 2) != 4 then s1.mismatch (c / 2) 6
    else if o.jrnBad && s1.joined c && (s1.jNext c).isSome then s1.escalate (c / 2) 4
    else
      let y := if s1.joined c then s1.rvInputs 32768 c else (s1, false)
      if y.2 then (if want 0x13 then y.1.stepped c else s)
      else match rvWord c o y.1 with
        | .ok x t =>
          if !want (x.word.getD 0) then s
          else if (t.core.get c).pbuf ≠ [] then t.rvDebug c x o
          else t.rvOne c x o
        | .error e t =>
          if !want 0x13 then s
          else match e with
            | .trap tr => (t.trapStep c tr).stepped c
            | .mism code => t.mismatch (c / 2) code
            | .hit => (t.trigStop c).stepped c
            | .stall => t

/-! ### The commands of one core -/

/-- R371: the next instruction of core `c`. -/
def execRvInstruction (c : Fin 8) (o : RvObs) (s : State) : Host.Outcome State Fault Refusal := done (s.rvStep c o (fun _ => true))

/-- R395: the next instruction, where it is an MRET. -/
def execMret (c : Fin 8) (o : RvObs) (s : State) : Host.Outcome State Fault Refusal := done (s.rvStep c o (fun w => w == 0x30200073))

/-- R388. -/
def execWcall (c : Fin 8) (o : RvObs) (s : State) : Host.Outcome State Fault Refusal := done (s.rvStep c o isWcall)

/-- R392. -/
def execCkpt (c : Fin 8) (o : RvObs) (s : State) : Host.Outcome State Fault Refusal := done (s.rvStep c o isCkpt)

/-- R389. -/
def execAgreeLd (c : Fin 8) (o : RvObs) (s : State) : Host.Outcome State Fault Refusal := done (s.rvStep c o isAgreeLd)

/-- R389. -/
def execAgreeRnd (c : Fin 8) (o : RvObs) (s : State) : Host.Outcome State Fault Refusal := done (s.rvStep c o isAgreeRnd)

/-- R389. -/
def execAgreeCyc (c : Fin 8) (o : RvObs) (s : State) : Host.Outcome State Fault Refusal := done (s.rvStep c o isAgreeCyc)

/-- R390. -/
def execGtbrd (c : Fin 8) (o : RvObs) (s : State) : Host.Outcome State Fault Refusal := done (s.rvStep c o isGtbrd)

/-- R390. -/
def execGtbrdX (c : Fin 8) (o : RvObs) (s : State) : Host.Outcome State Fault Refusal := done (s.rvStep c o isGtbrdX)

/-- R391. -/
def execEvpost (c : Fin 8) (o : RvObs) (s : State) : Host.Outcome State Fault Refusal := done (s.rvStep c o isEvpost)

/-- A CSR instruction on CSR `n`. -/
def isCsr (n w : Nat) : Bool := wOp w == 0x73 && wF3 w % 4 != 0 && wCsr w == n

/-- R398: the next instruction, where it reads mhjvclaim. -/
def execClaimReadInner (c : Fin 8) (o : RvObs) (s : State) : Host.Outcome State Fault Refusal := done (s.rvStep c o (isCsr 0x7C1))

/-- R398: the next instruction, where it reads shjvclaim. -/
def execClaimReadOuter (c : Fin 8) (o : RvObs) (s : State) : Host.Outcome State Fault Refusal := done (s.rvStep c o (isCsr 0x5C0))

/-- R384: the next instruction, where it writes mhjvctl. -/
def execPredictorFlush (c : Fin 8) (o : RvObs) (s : State) : Host.Outcome State Fault Refusal := done (s.rvStep c o (isCsr 0x7C2))

/-- A WFI that a pending interrupt ends: it retires (R415). -/
def State.wfiEnd (s : State) (c : Nat) : State :=
  let k := s.core.get c
  if k.wfi && s.mip c &&& k.cs 0x304 != 0 && (!s.joined c || s.isLead c) then (s.retire c (k.pc + 4) {}).stepped c else s

/-- R400, R415: core `c` takes its highest pending enabled interrupt. An access that waits for its response completes first. -/
def execInterruptTake (c0 : Fin 8) (s : State) : Host.Outcome State Fault Refusal :=
  let c := c0.val
  let k := s.core.get c
  if !s.rvReady c || k.pbuf != [] || k.wait.isSome || !s.irqFresh c then done s
  else match (s.wfiEnd c).pickIrq c with
    | none => done s
    | some _ => done (((s.wfiEnd c).irqNow c).stepped c)

/-- R399: time reaches a compare value: MTIP or STIP reads 1, and a WFI that it ends retires. -/
def execTimerCompareMatch (c : Fin 8) (s : State) : Host.Outcome State Fault Refusal :=
  if s.mip c &&& 0xA0 = 0 ∨ s.rvReady c = false then done s else done (s.wfiEnd c)

/-- R380: an error response to a store, or to a write-back, of hart `c`. -/
def execStoreErrorResponse (c : Fin 8) (inner : Bool) (addr : Nat) (s : State) : Host.Outcome State Fault Refusal :=
  if (s.core.get c).live then done (s.storeError c inner (addr % 2 ^ 40)) else done s

/-! ### The release buffer (R406, R412 to R414, R425, R429) -/

/-- An access compared: everything but the step it belongs to. -/
def Acs.same (a b : Acs) : Bool := { a with seq := 0 } == { b with seq := 0 }

/-- The response of an access that returns one. -/
def State.acsResp (s : State) (n : Nat) (a : Acs) (e : FabEnd) : State :=
  match e with
  | .data d => s.jrnResp n a false d
  | _ => s.jrnResp n a true 0

/-- An access released to the fabric with initiator 2n; none while PCIe cannot take it. `ecc` is what it finds there. -/
def State.acsDo (s : State) (n : Nat) (a : Acs) (ecc : EccObs) : Option State :=
  let l := s.leadOf n
  let r : Req := { id := 2 * n, inner := a.inner }
  let go (acc : AccKind) (v : Nat) : State × FabEnd :=
    if a.kind = 3 ∨ a.kind = 4 then s.fabLrSc r acc a.addr a.size v ecc else s.fabDo r none acc a.addr a.size v ecc
  let res := (s.core.get l).res
  let keep (t : State) : State := t.coreSet l (fun k => { k with res := res })
  match a.kind with
  | 1 =>
    let x := go .write a.data
    some (if x.2 = .error then (keep x.1).storeError (2 * n) a.inner a.addr else keep x.1)
  | 5 =>
    let x := go .write a.data
    some (if x.2 = .error then (keep x.1).storeError (2 * n) a.inner a.addr else keep x.1)
  | 2 =>
    let x := go .amo ((amoNew a.op (8 * a.size) (s.load a.addr a.size) a.data).getD a.data)
    some ((keep x.1).acsResp n a x.2)
  | 3 =>
    let x := go .read 0
    some ((if x.2 = .error then x.1 else x.1.coreSet l (fun k => { k with res := some (a.addr / 64) })).acsResp n a x.2)
  | 4 =>
    let clear (t : State) : State := t.coreSet l (fun k => { k with res := none })
    if res = some (a.addr / 64) then
      let x := go .write a.data
      some ((clear x.1).acsResp n a x.2)
    else some ((clear s).acsResp n a (.data 1))
  | 6 => some (s.raise (32 + 2 * n) a.data)
  | _ =>
    let x := go .read 0
    if x.2 ≠ .pending then some (x.1.acsResp n a x.2)
    else if x.1.pcie.out.length ≤ s.pcie.out.length then none
    else
      let t := (x.1.pcie.out.getLast?.map (fun (q : PcieReq) => q.tag)).getD 0
      let own (q : PcieReq) : PcieReq := { q with core := q.tag == t || (q.core && q.id != 2 * n) }
      let s1 : State := { x.1 with pcie := { x.1.pcie with out := x.1.pcie.out.map own } }
      some (s1.pairSet n (fun p => { p with bus := some a }))

/-- The heads of the queues leave, and the access counts as released. -/
def Pair.pop (p : Pair) (a : Acs) : Pair := { p with lq := p.lq.tail, sq := p.sq.tail, released := p.released ++ [a] }

/-- R412: the oldest access of both copies is compared and released once; `agree` is what the comparison finds beside the accesses themselves. The first accesses of a
replay are folded into its hash and not issued (R425); in a slice the lead's access leaves uncompared (R429). -/
def State.release (s : State) (n : Nat) (agree : Bool) (ecc : EccObs) : State :=
  let p := s.pair.get n
  let issue (a : Acs) : State :=
    if p.bus.isSome then s
    else match (s.pairSet n (fun p => p.pop a)).acsDo n a ecc with
      | some t => t
      | none => s
  if s.get (PAIR_CFG_SPLIT n) ≠ 0 ∨ s.alive = false ∨ s.idling (114 + n) = true then s
  else match s.pst n, p.lq, p.sq with
    | 4, a :: _, _ => issue a
    | 1, a :: _, b :: _ => if !agree || !a.same b then s.mismatch n 1 else issue a
    | 3, a :: _, b :: _ =>
      if !agree || !a.same b then s.mismatch n 1
      else if p.replayed.length < p.released.length then
        s.pairSet n (fun p => { p with lq := p.lq.tail, sq := p.sq.tail, replayed := p.replayed ++ [a] })
      else s
    | _, _, _ => s

/-- R31, R412. -/
def execPairAccessRelease (n : Fin 4) (agree : Bool) (ecc : EccObs) (s : State) : Host.Outcome State Fault Refusal := done (s.release n agree ecc)

/-! ### The program buffer (R430, R431) -/

/-- Up to `m` steps of the program buffer of core `c`. -/
def State.pbufRun : Nat → State → Nat → RvObs → State
  | 0, s, _, _ => s
  | m + 1, s, c, o => if (s.core.get c).pbuf = [] ∨ (s.core.get c).wait.isSome = true then s else State.pbufRun m (s.rvStep c o (fun _ => true)) c o

/-- R431: the program buffer of a halted core runs; what it has not finished goes on with the core's next instructions. -/
def execDebugProgramBuffer (c : Fin 8) (words : List Nat) (o : RvObs) (s : State) : Host.Outcome State Fault Refusal :=
  let go (s : State) (l : Nat) : State :=
    let s1 := s.coreSet l (fun k => { k with pbuf := halves words })
    let s2 := if s1.joined l && s1.pst (l / 2) == 5 then
        (s1.set (PAIR_STAT_STATE (l / 2)) 1).coreSet (s1.shadowOf (l / 2)) (fun k => { k with dpos := (s1.core.get l).dpos - 1 })
      else s1
    s2.pbufRun (2 * words.length) l o
  match s.dbgCore c with
  | none => done s
  | some l => if s.dbgOpen && (s.core.get l).halted && (s.core.get l).pbuf == [] then done (s.dbgDo c (.prog words) go) else done s

end Sys2Proof.Machine
end

