-- ==== Sys2Proof/Machine/Sdf.lean ====
section
/-! DEFINITION. The sigma-delta filters: sampling, the main and the fast sinc filter, delivery, trip lines and clock loss (R101 to R105, R130). -/

namespace Sys2Proof.Machine

open Sys2Proof

/-! ### Sinc filters (R102, R104) -/

/-- OSR of the main filter, 4 to 256, and of the fast filter, 4 to 32; other values act as 4 (R130). -/
def State.sdfOsr (s : State) (m : Nat) : Nat := let r := s.get (SDF_FLT_OSR m); if 4 ≤ r ∧ r ≤ 256 then r else 4
def State.fastOsr (s : State) (m : Nat) : Nat := let r := s.get (SDF_FAST_OSR m); if 4 ≤ r ∧ r ≤ 32 then r else 4

/-- ORDER of the fast filter: sinc1 or sinc2 (R130). -/
def State.fastOrder (s : State) (m : Nat) : Nat := s.get (SDF_FAST_ORDER m) + 1

/-- A list added to another, element by element, from its place `0` on. -/
def addLists : List Nat → List Nat → List Nat
  | [], l => l
  | l, [] => l
  | a :: l, b :: r => (a + b) :: addLists l r

/-- The weights of a sinc filter of order `p` over windows of `r` bits: `p` moving sums in a row. -/
def sincWeights (r : Nat) : Nat → List Nat
  | 0 => [1]
  | p + 1 => (sincWeights r p).foldr (fun a acc => addLists (List.replicate r a) (0 :: acc)) []

/-- The bits that a filter spans. -/
def sincSpan (r p : Nat) : Nat := p * (r - 1) + 1

/-- The weighted count of the ones among the latest bits. -/
def sincOnes (r p : Nat) (bits : List Bool) : Nat := (List.zipWith (fun w b => if b then w else 0) (sincWeights r p) bits).sum

/-- R102: the main filter's output before the shift, with the bits counted as +1 and −1 (DESIGN CHOICE, log entry 129). -/
def sincMain (r p : Nat) (bits : List Bool) : Int := 2 * (sincOnes r p bits : Int) - (r ^ p : Nat)

/-- R104: the fast filter's output: −32,768 for all zeros, +32,767 for all ones; between them rounded down (DESIGN CHOICE, log entry 129). -/
def sincFast (r p : Nat) (bits : List Bool) : Int := (sincOnes r p bits * 65535 / r ^ p : Nat) - 32768

/-! ### Results (R102, R103) -/

/-- R102, R103: a main result: stored, delivered to the engines, and raised on 96 + m. `parity` says which of the two deliveries meets a parity error. An unsettled result has a free
value (log entry 129). -/
def State.sdfForm (s00 : State) (m : Nat) (parity : Bool × Bool) : State :=
  let x := s00.conv.sdf.get m
  let u := x.unsettled - 1
  let r := s00.sdfOsr m
  let p := s00.sdfOrder m
  let settled := u == 0 && decide (sincSpan r p ≤ x.bits.length)
  let v := if settled then ofS 32 (sincMain r p x.bits / 2 ^ min 24 (s00.get (SDF_FLT_SHIFT m))) else (Config.sdfUnsettled s00.free).toNat
  let s := if settled then s00 else s00.draw
  let s0 := if x.unread then s.inc (SDF_STAT_OVR m) else s
  let s1 := ((s0.set (SDF_DATA_DATA m) v).set (SDF_STAT_READY m) 1).set (SDF_STAT_SETTLE m) (b2n (u != 0))
  let eng := s.get (SDF_DST_ENG m)
  let pair := s.on (SDF_DST_PAIR m)
  let off := s.get (SDF_DST_ADDR m) / 4 * 4
  let r : State × Bool × Bool :=
    if !s.on (SDF_DST_EN m) then (s1, false, false)
    else if decide (11 < eng) || (pair && eng % 2 == 1) then (s1, false, true)
    else (if pair then [eng, eng + 1] else [eng]).foldl (fun a e =>
      let d := a.1.laneDeliver e off v (if e = eng then parity.1 else parity.2)
      (d.1, a.2.1 || d.2, a.2.2 || !d.2)) (s1, false, false)
  let s2 := r.1.sdfUpd m (fun y => { y with unsettled := u, unread := !r.2.1, win := 0 })
  let s3 := if r.2.2 then s2.raiseC (100 + m) 3 0 else s2
  s3.raise (96 + m) v

/-! ### The fast filter and its trip line (R104) -/

/-- R104: the fast filter after a bit: outside HI and LO the line asserts, cause 2 is raised and the pairs trip; within them it releases, unless a clock loss holds it (R105). -/
def State.sdfFast (s : State) (m : Nat) : State :=
  let x := s.conv.sdf.get m
  let r := s.fastOsr m
  let p := s.fastOrder m
  if !s.on (SDF_FAST_EN m) || decide (x.bits.length < sincSpan r p) then s
  else
    let out := sincFast r p x.bits
    let hi := decide (s.getS (SDF_THR_HI m) < out)
    let lo := decide (out < s.getS (SDF_THR_LO m))
    let s1 := (s.set (SDF_STAT_FASTHI m) (b2n hi)).set (SDF_STAT_FASTLO m) (b2n lo)
    if !hi && !lo then s1.sdfUpd m (fun y => { y with line := y.lost && y.line })
    else if x.line then s1
    else ((s1.sdfUpd m (fun y => { y with line := true })).raiseC (100 + m) 2 0).tripAll (24 + m)

/-! ### Sampling (R101) -/

/-- R101, R102, R104: one period of SD_CLKm: SD_DATm is sampled at the selected edge (`l` holds its level at the rising and at the falling edge), the fast filter compares, and the last bit
of a window forms a result. -/
def State.sdfBit (m : Nat) (parity : Bool × Bool) (s : State) (l : Bool × Bool) : State :=
  if !s.on (SDF_CTL_EN m) then s
  else
    let b := if s.on (SDF_CTL_EDGE m) then l.2 else l.1
    let s1 := (s.sdfUpd m (fun x => { x with bits := (b :: x.bits).take 766, win := x.win + 1 })).sdfFast m
    if s.sdfOsr m ≤ (s1.conv.sdf.get m).win then s1.sdfForm m parity else s1

/-- The levels of SD_DATm at a number of clock periods. -/
def State.sdfRun (s : State) (m : Nat) (levels : List (Bool × Bool)) (parity : Bool × Bool) : State := s.each levels (State.sdfBit m parity)

/-- R101 to R103: the clock periods up to the end of a decimation window: its result is formed. -/
def execSdfResult (m : Fin 4) (levels : List (Bool × Bool)) (parity : Bool × Bool) (s : State) : Host.Outcome State Fault Refusal := done (s.sdfRun m levels parity)

/-- R101, R104: the clock periods up to the bit that takes the fast filter's output out of its thresholds. -/
def execSdfFastTrip (m : Fin 4) (levels : List (Bool × Bool)) (parity : Bool × Bool) (s : State) : Host.Outcome State Fault Refusal := done (s.sdfRun m levels parity)

/-- R101, R104: the clock periods up to the bit that brings the fast filter's output back within its thresholds. -/
def execSdfFastTripRelease (m : Fin 4) (levels : List (Bool × Bool)) (parity : Bool × Bool) (s : State) : Host.Outcome State Fault Refusal := done (s.sdfRun m levels parity)

/-- R55, R102: a firing of its trigger line reaches the filter: the window restarts and ORDER results are unsettled. -/
def execSdfWindowRestart (m : Fin 4) (s : State) : Host.Outcome State Fault Refusal :=
  match s.arrive (· == .window m) with
  | none => done s
  | some (_, t) => if t.on (SDF_CTL_EN m) then done (t.sdfUpd m (fun x => { x with win := 0, unsettled := t.sdfOrder m })) else done t

/-! ### The loss of the clock (R105) -/

/-- R105: no clock edge for 1 µs while the filter is enabled: CLKLOSS, cause 1, and with the fast filter enabled its line asserts and is held. That assertion raises cause 1 alone, not
cause 2 as well (DESIGN CHOICE, log entry 124). -/
def execSdfClockLoss (m : Fin 4) (s : State) : Host.Outcome State Fault Refusal :=
  if !s.on (SDF_CTL_EN m) then done s
  else
    let s1 := ((s.set (SDF_STAT_CLKLOSS m) 1).sdfUpd m (fun x => { x with lost := true })).raiseC (100 + m) 1 0
    if s.on (SDF_FAST_EN m) && !(s.conv.sdf.get m).line then
      done ((s1.sdfUpd m (fun x => { x with line := true })).tripAll (24 + m))
    else done s1

/-- R105: a clock edge returns: the line is again what the fast output gives. -/
def execSdfClockReturn (m : Fin 4) (s : State) : Host.Outcome State Fault Refusal :=
  if !decide (m.val < nSdf s.part) then done s else
  done (s.sdfUpd m (fun x => { x with lost := false, line := x.line && (s.on (SDF_STAT_FASTHI m) || s.on (SDF_STAT_FASTLO m)) }))

end Sys2Proof.Machine
end

