-- ==== Sys2Proof/Machine/TgInstr.lean ====
section
/-! DEFINITION. The Tangram instructions, one meaning per instruction (R145 to R160). -/

namespace Sys2Proof.Machine

open Sys2Proof

/-! ### Shared by the branches and loops -/

/-- The target of a branch at the PC: the branch address + 4 × the sign-extended offset (R153). -/
def State.tgTarget (s : State) (e w off : Nat) : Nat := (((s.tg.get e).pc + 4 * toS w off : Int) % 0x1_0000).toNat

/-- A taken transfer: levels whose body it leaves become inactive (R155), and the next instruction is its delay slot. -/
def State.tgJump (s : State) (e target : Nat) : TgRes := .branch (s.tgSet e (fun g => g.leave target)) target 0

/-- A conditional branch: one more slot when taken; not taken it resolves to the branch address + 8 (R145, R161). -/
def State.tgCond (s : State) (e : Nat) (taken : Bool) (off : Nat) : TgRes :=
  if taken then .branch (s.tgSet e (fun g => g.leave (s.tgTarget e 16 off))) (s.tgTarget e 16 off) 1
  else .branch s (((s.tg.get e).pc + 8) % 0x1_0000) 0

/-- R154, R155: a loop begins on a level; a count of 0 continues after its body with the level inactive. -/
def State.tgLoop (s : State) (e level count off w : Nat) : TgRes :=
  let g := s.tg.get e
  if bitOf g.lact level then .trap s 7 w
  else
    let le := s.tgTarget e 16 off
    let ls := (g.pc + 4) % 0x1_0000
    let h := if level = 0 then { g with ls0 := ls, le0 := le, lc0 := count } else { g with ls1 := ls, le1 := le, lc1 := count }
    if count = 0 then .goto (s.tgSet e (fun _ => h)) ((le + 4) % 0x1_0000)
    else .ok (s.tgSet e (fun _ => { h with lact := putBit h.lact level true }))

/-! ### Integer arithmetic (R145, R147) -/

/-- R145, R147: the sum, saturated under SAT. -/
def execTgAdd (x : TgAt) (rd rs1 rs2 : Fin 32) (s : State) : Host.Outcome State Fault Refusal :=
  s.tgAlu x (tgR 0 0x00 rd rs1 rs2 0) 1 (fun g => g.setReg rd (g.clip (g.regS rs1 + g.regS rs2)))

/-- R145, R147: the difference, saturated under SAT. -/
def execTgSub (x : TgAt) (rd rs1 rs2 : Fin 32) (s : State) : Host.Outcome State Fault Refusal :=
  s.tgAlu x (tgR 0 0x01 rd rs1 rs2 0) 1 (fun g => g.setReg rd (g.clip (g.regS rs1 - g.regS rs2)))

/-- R145: bitwise AND. -/
def execTgAnd (x : TgAt) (rd rs1 rs2 : Fin 32) (s : State) : Host.Outcome State Fault Refusal :=
  s.tgAlu x (tgR 0 0x02 rd rs1 rs2 0) 1 (fun g => g.setReg rd (g.reg rs1 &&& g.reg rs2))

/-- R145: bitwise OR. -/
def execTgOr (x : TgAt) (rd rs1 rs2 : Fin 32) (s : State) : Host.Outcome State Fault Refusal :=
  s.tgAlu x (tgR 0 0x03 rd rs1 rs2 0) 1 (fun g => g.setReg rd (g.reg rs1 ||| g.reg rs2))

/-- R145: bitwise exclusive OR. -/
def execTgXor (x : TgAt) (rd rs1 rs2 : Fin 32) (s : State) : Host.Outcome State Fault Refusal :=
  s.tgAlu x (tgR 0 0x04 rd rs1 rs2 0) 1 (fun g => g.setReg rd (g.reg rs1 ^^^ g.reg rs2))

/-- R145, R147: shift left by rs2 mod 32, saturated under SAT. -/
def execTgShl (x : TgAt) (rd rs1 rs2 : Fin 32) (s : State) : Host.Outcome State Fault Refusal :=
  s.tgAlu x (tgR 0 0x05 rd rs1 rs2 0) 1 (fun g => g.setReg rd (g.clip (g.regS rs1 * 2 ^ (g.reg rs2 % 32))))

/-- R145: logical shift right by rs2 mod 32. -/
def execTgShr (x : TgAt) (rd rs1 rs2 : Fin 32) (s : State) : Host.Outcome State Fault Refusal :=
  s.tgAlu x (tgR 0 0x06 rd rs1 rs2 0) 1 (fun g => g.setReg rd (g.reg rs1 / 2 ^ (g.reg rs2 % 32)))

/-- R145: arithmetic shift right by rs2 mod 32. -/
def execTgSra (x : TgAt) (rd rs1 rs2 : Fin 32) (s : State) : Host.Outcome State Fault Refusal :=
  s.tgAlu x (tgR 0 0x07 rd rs1 rs2 0) 1 (fun g => g.setReg rd (ofS 32 (g.regS rs1 / 2 ^ (g.reg rs2 % 32))))

/-- R145, R147: shift left by n, saturated under SAT. -/
def execTgShli (x : TgAt) (rd rs1 n : Fin 32) (s : State) : Host.Outcome State Fault Refusal :=
  s.tgAlu x (tgR 0 0x08 rd rs1 n 0) 1 (fun g => g.setReg rd (g.clip (g.regS rs1 * 2 ^ n.val)))

/-- R145: logical shift right by n. -/
def execTgShri (x : TgAt) (rd rs1 n : Fin 32) (s : State) : Host.Outcome State Fault Refusal :=
  s.tgAlu x (tgR 0 0x09 rd rs1 n 0) 1 (fun g => g.setReg rd (g.reg rs1 / 2 ^ n.val))

/-- R145: arithmetic shift right by n. -/
def execTgSrai (x : TgAt) (rd rs1 n : Fin 32) (s : State) : Host.Outcome State Fault Refusal :=
  s.tgAlu x (tgR 0 0x0A rd rs1 n 0) 1 (fun g => g.setReg rd (ofS 32 (g.regS rs1 / 2 ^ n.val)))

/-- R145: signed minimum. -/
def execTgMin (x : TgAt) (rd rs1 rs2 : Fin 32) (s : State) : Host.Outcome State Fault Refusal :=
  s.tgAlu x (tgR 0 0x0B rd rs1 rs2 0) 1 (fun g => g.setReg rd (ofS 32 (min (g.regS rs1) (g.regS rs2))))

/-- R145: signed maximum. -/
def execTgMax (x : TgAt) (rd rs1 rs2 : Fin 32) (s : State) : Host.Outcome State Fault Refusal :=
  s.tgAlu x (tgR 0 0x0C rd rs1 rs2 0) 1 (fun g => g.setReg rd (ofS 32 (max (g.regS rs1) (g.regS rs2))))

/-- R145: unsigned minimum. -/
def execTgMinu (x : TgAt) (rd rs1 rs2 : Fin 32) (s : State) : Host.Outcome State Fault Refusal :=
  s.tgAlu x (tgR 0 0x0D rd rs1 rs2 0) 1 (fun g => g.setReg rd (min (g.reg rs1) (g.reg rs2)))

/-- R145: unsigned maximum. -/
def execTgMaxu (x : TgAt) (rd rs1 rs2 : Fin 32) (s : State) : Host.Outcome State Fault Refusal :=
  s.tgAlu x (tgR 0 0x0E rd rs1 rs2 0) 1 (fun g => g.setReg rd (max (g.reg rs1) (g.reg rs2)))

/-- R145: min(max(rs1, rs2), rs3), signed. -/
def execTgClamp (x : TgAt) (rd rs1 rs2 rs3 : Fin 32) (s : State) : Host.Outcome State Fault Refusal :=
  s.tgAlu x (tgR 0 0x0F rd rs1 rs2 rs3) 1 (fun g => g.setReg rd (ofS 32 (min (max (g.regS rs1) (g.regS rs2)) (g.regS rs3))))

/-- R147: the magnitude, saturated under SAT. -/
def execTgAbs (x : TgAt) (rd rs1 : Fin 32) (s : State) : Host.Outcome State Fault Refusal :=
  s.tgAlu x (tgR 0 0x10 rd rs1 0 0) 1 (fun g => g.setReg rd (g.clip ((g.regS rs1).natAbs : Int)))

/-- R145: 1 if rs1 < rs2 signed, else 0. -/
def execTgSlt (x : TgAt) (rd rs1 rs2 : Fin 32) (s : State) : Host.Outcome State Fault Refusal :=
  s.tgAlu x (tgR 0 0x11 rd rs1 rs2 0) 1 (fun g => g.setReg rd (b2n (decide (g.regS rs1 < g.regS rs2))))

/-- R145: 1 if rs1 < rs2 unsigned, else 0. -/
def execTgSltu (x : TgAt) (rd rs1 rs2 : Fin 32) (s : State) : Host.Outcome State Fault Refusal :=
  s.tgAlu x (tgR 0 0x12 rd rs1 rs2 0) 1 (fun g => g.setReg rd (b2n (decide (g.reg rs1 < g.reg rs2))))

/-- R145: the count of leading zeros. -/
def execTgClz (x : TgAt) (rd rs1 : Fin 32) (s : State) : Host.Outcome State Fault Refusal :=
  s.tgAlu x (tgR 0 0x13 rd rs1 0 0) 1 (fun g => g.setReg rd (clz32 (g.reg rs1)))

/-- R145: the low 32 bits of the product. -/
def execTgMul (x : TgAt) (rd rs1 rs2 : Fin 32) (s : State) : Host.Outcome State Fault Refusal :=
  s.tgAlu x (tgR 0 0x14 rd rs1 rs2 0) 4 (fun g => g.setReg rd (g.reg rs1 * g.reg rs2))

/-- R145: the high 32 bits of the signed product. -/
def execTgMulh (x : TgAt) (rd rs1 rs2 : Fin 32) (s : State) : Host.Outcome State Fault Refusal :=
  s.tgAlu x (tgR 0 0x15 rd rs1 rs2 0) 4 (fun g => g.setReg rd (ofS 32 (g.regS rs1 * g.regS rs2 / 2 ^ 32)))

/-- R145: the high 32 bits of the unsigned product. -/
def execTgMulhu (x : TgAt) (rd rs1 rs2 : Fin 32) (s : State) : Host.Outcome State Fault Refusal :=
  s.tgAlu x (tgR 0 0x16 rd rs1 rs2 0) 4 (fun g => g.setReg rd (g.reg rs1 * g.reg rs2 / 2 ^ 32))

/-- R147: the signed quotient toward zero. -/
def execTgDiv (x : TgAt) (rd rs1 rs2 : Fin 32) (s : State) : Host.Outcome State Fault Refusal :=
  s.tgAlu x (tgR 0 0x17 rd rs1 rs2 0) 20 (fun g => g.setReg rd (ofS 32 (tgDivS g.sat (g.regS rs1) (g.regS rs2))))

/-- R147: the unsigned quotient. -/
def execTgDivu (x : TgAt) (rd rs1 rs2 : Fin 32) (s : State) : Host.Outcome State Fault Refusal :=
  s.tgAlu x (tgR 0 0x18 rd rs1 rs2 0) 20 (fun g => g.setReg rd (tgDivU (g.reg rs1) (g.reg rs2)))

/-- R147: the remainder with the sign of rs1. -/
def execTgRem (x : TgAt) (rd rs1 rs2 : Fin 32) (s : State) : Host.Outcome State Fault Refusal :=
  s.tgAlu x (tgR 0 0x19 rd rs1 rs2 0) 20 (fun g => g.setReg rd (ofS 32 (tgRemS (g.regS rs1) (g.regS rs2))))

/-- R147: the unsigned remainder. -/
def execTgRemu (x : TgAt) (rd rs1 rs2 : Fin 32) (s : State) : Host.Outcome State Fault Refusal :=
  s.tgAlu x (tgR 0 0x1A rd rs1 rs2 0) 20 (fun g => g.setReg rd (tgRemU (g.reg rs1) (g.reg rs2)))

/-- R145, R147: the sum with the sign-extended immediate, saturated under SAT. -/
def execTgAddi (x : TgAt) (rd rs1 : Fin 32) (imm : Fin 65536) (s : State) : Host.Outcome State Fault Refusal :=
  s.tgAlu x (tgI 0x04 rd rs1 imm) 1 (fun g => g.setReg rd (g.clip (g.regS rs1 + toS 16 imm)))

/-- R145: AND with the zero-extended immediate. -/
def execTgAndi (x : TgAt) (rd rs1 : Fin 32) (imm : Fin 65536) (s : State) : Host.Outcome State Fault Refusal :=
  s.tgAlu x (tgI 0x05 rd rs1 imm) 1 (fun g => g.setReg rd (g.reg rs1 &&& imm.val))

/-- R145: OR with the zero-extended immediate. -/
def execTgOri (x : TgAt) (rd rs1 : Fin 32) (imm : Fin 65536) (s : State) : Host.Outcome State Fault Refusal :=
  s.tgAlu x (tgI 0x06 rd rs1 imm) 1 (fun g => g.setReg rd (g.reg rs1 ||| imm.val))

/-- R145: exclusive OR with the zero-extended immediate. -/
def execTgXori (x : TgAt) (rd rs1 : Fin 32) (imm : Fin 65536) (s : State) : Host.Outcome State Fault Refusal :=
  s.tgAlu x (tgI 0x07 rd rs1 imm) 1 (fun g => g.setReg rd (g.reg rs1 ^^^ imm.val))

/-- R145: the immediate in the upper half. -/
def execTgLui (x : TgAt) (rd : Fin 32) (imm : Fin 65536) (s : State) : Host.Outcome State Fault Refusal :=
  s.tgAlu x (tgI 8 rd 0 imm) 1 (fun g => g.setReg rd (imm.val * 65536))

/-- R145: 1 if rs1 < the sign-extended immediate, else 0. -/
def execTgSlti (x : TgAt) (rd rs1 : Fin 32) (imm : Fin 65536) (s : State) : Host.Outcome State Fault Refusal :=
  s.tgAlu x (tgI 0x09 rd rs1 imm) 1 (fun g => g.setReg rd (b2n (decide (g.regS rs1 < toS 16 imm))))

/-! ### Accumulators and PIU (R148, R149) -/

/-- R148: the Q31 product added to the accumulator. -/
def execTgMacq (x : TgAt) (a rs1 rs2 : Fin 32) (s : State) : Host.Outcome State Fault Refusal :=
  s.tgAlu x (tgR 1 0 a rs1 rs2 0) 6 (fun g => g.setAcc a (g.acc a + g.regS rs1 * g.regS rs2))

/-- R148: the Q31 product subtracted from the accumulator. -/
def execTgMsuq (x : TgAt) (a rs1 rs2 : Fin 32) (s : State) : Host.Outcome State Fault Refusal :=
  s.tgAlu x (tgR 1 1 a rs1 rs2 0) 6 (fun g => g.setAcc a (g.acc a - g.regS rs1 * g.regS rs2))

/-- R148: the accumulator becomes the Q31 product. -/
def execTgMulq (x : TgAt) (a rs1 rs2 : Fin 32) (s : State) : Host.Outcome State Fault Refusal :=
  s.tgAlu x (tgR 1 2 a rs1 rs2 0) 6 (fun g => g.setAcc a (g.regS rs1 * g.regS rs2))

/-- R148: the integer product added at bit 0. -/
def execTgMaci (x : TgAt) (a rs1 rs2 : Fin 32) (s : State) : Host.Outcome State Fault Refusal :=
  s.tgAlu x (tgR 1 3 a rs1 rs2 0) 6 (fun g => g.setAcc a (g.acc a + g.regS rs1 * g.regS rs2))

/-- R145: the accumulator becomes 0. -/
def execTgAclr (x : TgAt) (a : Fin 32) (s : State) : Host.Outcome State Fault Refusal :=
  s.tgAlu x (tgR 1 4 a 0 0 0) 1 (fun g => g.putAcc a 0)

/-- R145: the accumulator becomes rs1 × 2³¹. -/
def execTgAcld (x : TgAt) (a rs1 : Fin 32) (s : State) : Host.Outcome State Fault Refusal :=
  s.tgAlu x (tgR 1 5 a rs1 0 0) 2 (fun g => g.setAcc a (g.regS rs1 * 2 ^ 31))

/-- R145: the accumulator shifted right arithmetically by n. -/
def execTgAcsr (x : TgAt) (a n : Fin 32) (s : State) : Host.Outcome State Fault Refusal :=
  s.tgAlu x (tgR 1 6 a 0 n 0) 2 (fun g => g.setAcc a (g.acc a / 2 ^ n.val))

/-- R148: acc / 2³¹ rounded under QRND and saturated. -/
def execTgSatq (x : TgAt) (rd a : Fin 32) (s : State) : Host.Outcome State Fault Refusal :=
  s.tgAlu x (tgR 1 7 rd a 0 0) 4 (fun g => let r := g.satQ (qRound g.qrnd (g.acc a) (2 ^ 31)); r.2.setReg rd r.1)

/-- R148: the accumulator saturated to 32 bits. -/
def execTgSati (x : TgAt) (rd a : Fin 32) (s : State) : Host.Outcome State Fault Refusal :=
  s.tgAlu x (tgR 1 8 rd a 0 0) 4 (fun g => let r := g.satQ (g.acc a); r.2.setReg rd r.1)

/-- R149: the proportional-integral update. -/
def execTgPiu (x : TgAt) (rd rs1 rs2 rs3 : Fin 32) (s : State) : Host.Outcome State Fault Refusal :=
  s.tgAlu x (tgR 1 9 rd rs1 rs2 rs3) 12 (fun g => g.piu rd rs1 rs2 rs3)

/-! ### binary32 (R145, R150) -/

/-- R150: addition. -/
def execTgFadd (x : TgAt) (rd rs1 rs2 : Fin 32) (s : State) : Host.Outcome State Fault Refusal :=
  s.tgAlu x (tgR 2 0x00 rd rs1 rs2 0) 5 (fun g => g.setF rd (fAdd f32 g.fmode (g.reg rs1) (g.reg rs2)))

/-- R150: subtraction. -/
def execTgFsub (x : TgAt) (rd rs1 rs2 : Fin 32) (s : State) : Host.Outcome State Fault Refusal :=
  s.tgAlu x (tgR 2 0x01 rd rs1 rs2 0) 5 (fun g => g.setF rd (fSub f32 g.fmode (g.reg rs1) (g.reg rs2)))

/-- R150: multiplication. -/
def execTgFmul (x : TgAt) (rd rs1 rs2 : Fin 32) (s : State) : Host.Outcome State Fault Refusal :=
  s.tgAlu x (tgR 2 0x02 rd rs1 rs2 0) 5 (fun g => g.setF rd (fMul f32 g.fmode (g.reg rs1) (g.reg rs2)))

/-- R150: multiply-add with one rounding. -/
def execTgFma (x : TgAt) (rd rs1 rs2 rs3 : Fin 32) (s : State) : Host.Outcome State Fault Refusal :=
  s.tgAlu x (tgR 2 3 rd rs1 rs2 rs3) 6 (fun g => g.setF rd (fFma f32 g.fmode (g.reg rs1) (g.reg rs2) (g.reg rs3)))

/-- R150: division. -/
def execTgFdiv (x : TgAt) (rd rs1 rs2 : Fin 32) (s : State) : Host.Outcome State Fault Refusal :=
  s.tgAlu x (tgR 2 0x04 rd rs1 rs2 0) 24 (fun g => g.setF rd (fDiv f32 g.fmode (g.reg rs1) (g.reg rs2)))

/-- R150: square root. -/
def execTgFsqrt (x : TgAt) (rd rs1 : Fin 32) (s : State) : Host.Outcome State Fault Refusal :=
  s.tgAlu x (tgR 2 5 rd rs1 0 0) 24 (fun g => g.setF rd (fSqrt f32 g.fmode (g.reg rs1)))

/-- R150: minimum, −0 below +0; a NaN operand yields the other (R145). -/
def execTgFmin (x : TgAt) (rd rs1 rs2 : Fin 32) (s : State) : Host.Outcome State Fault Refusal :=
  s.tgAlu x (tgR 2 0x06 rd rs1 rs2 0) 2 (fun g => g.setF rd (fMinMax f32 g.fmode false (g.reg rs1) (g.reg rs2)))

/-- R150: maximum, −0 below +0; a NaN operand yields the other (R145). -/
def execTgFmax (x : TgAt) (rd rs1 rs2 : Fin 32) (s : State) : Host.Outcome State Fault Refusal :=
  s.tgAlu x (tgR 2 0x07 rd rs1 rs2 0) 2 (fun g => g.setF rd (fMinMax f32 g.fmode true (g.reg rs1) (g.reg rs2)))

/-- R145: the sign bit cleared, no flags. -/
def execTgFabs (x : TgAt) (rd rs1 : Fin 32) (s : State) : Host.Outcome State Fault Refusal :=
  s.tgAlu x (tgR 2 8 rd rs1 0 0) 1 (fun g => g.setReg rd (g.reg rs1 % 2 ^ 31))

/-- R145: the sign bit inverted, no flags. -/
def execTgFneg (x : TgAt) (rd rs1 : Fin 32) (s : State) : Host.Outcome State Fault Refusal :=
  s.tgAlu x (tgR 2 9 rd rs1 0 0) 1 (fun g => g.setReg rd (g.reg rs1 ^^^ 2 ^ 31))

/-- R150: 1 if equal, else 0. -/
def execTgFeq (x : TgAt) (rd rs1 rs2 : Fin 32) (s : State) : Host.Outcome State Fault Refusal :=
  s.tgAlu x (tgR 2 0x0A rd rs1 rs2 0) 2 (fun g => g.setF rd (fCmp f32 g.fmode 0 (g.reg rs1) (g.reg rs2)))

/-- R150: 1 if less, else 0. -/
def execTgFlt (x : TgAt) (rd rs1 rs2 : Fin 32) (s : State) : Host.Outcome State Fault Refusal :=
  s.tgAlu x (tgR 2 0x0B rd rs1 rs2 0) 2 (fun g => g.setF rd (fCmp f32 g.fmode 1 (g.reg rs1) (g.reg rs2)))

/-- R150: 1 if less or equal, else 0. -/
def execTgFle (x : TgAt) (rd rs1 rs2 : Fin 32) (s : State) : Host.Outcome State Fault Refusal :=
  s.tgAlu x (tgR 2 0x0C rd rs1 rs2 0) 2 (fun g => g.setF rd (fCmp f32 g.fmode 2 (g.reg rs1) (g.reg rs2)))

/-- R150: binary32 to int32 under FRM, saturating. -/
def execTgFcvtws (x : TgAt) (rd rs1 : Fin 32) (s : State) : Host.Outcome State Fault Refusal :=
  s.tgAlu x (tgR 2 0x0D rd rs1 0 0) 3 (fun g => g.setI rd (fToInt f32 g.fmode 0 s32Min s32Max (g.reg rs1)))

/-- R145: int32 to binary32. -/
def execTgFcvtsw (x : TgAt) (rd rs1 : Fin 32) (s : State) : Host.Outcome State Fault Refusal :=
  s.tgAlu x (tgR 2 0x0E rd rs1 0 0) 3 (fun g => g.setF rd (fFromInt f32 g.fmode 0 (g.regS rs1)))

/-- R150: binary32 × 2³¹ to Q31, saturating. -/
def execTgFcvtqs (x : TgAt) (rd rs1 : Fin 32) (s : State) : Host.Outcome State Fault Refusal :=
  s.tgAlu x (tgR 2 0x0F rd rs1 0 0) 3 (fun g => g.setI rd (fToInt f32 g.fmode 31 s32Min s32Max (g.reg rs1)))

/-- R145: Q31 to binary32. -/
def execTgFcvtsq (x : TgAt) (rd rs1 : Fin 32) (s : State) : Host.Outcome State Fault Refusal :=
  s.tgAlu x (tgR 2 0x10 rd rs1 0 0) 3 (fun g => g.setF rd (fFromInt f32 g.fmode 31 (g.regS rs1)))

/-! ### Special registers, MODE, events and the end of an iteration (R152, R157, R158, R160, R166, R167) -/

/-- R158, R160: MODE from EMODE, LACT from ELACT, and on at EPC, or where the loop decision leads when EPC is LE + 4 of an active level; PRIV in user mode. -/
def execTgEret (x : TgAt) (s : State) : Host.Outcome State Fault Refusal :=
  s.tgIssue x (tgR 3 0 0 0 0 0) 3 .stop (fun t => 
    let g := t.tg.get x.e
    if g.user then .trap t 2 (tgR 3 0 0 0 0 0)
    else
      let epc := t.get (TG_EPC_PC x.e) * 4
      let r := { g with mode := g.emode, lact := g.elact }.loopNext ((epc + 0xFFFC) % 0x1_0000)
      .goto (t.tgSet x.e (fun _ => r.1)) r.2)

/-- R152: rd becomes the special register sr. -/
def execTgMfs (x : TgAt) (rd sr : Fin 32) (s : State) : Host.Outcome State Fault Refusal :=
  s.tgIssue x (tgR 3 1 rd sr 0 0) 2 .plain (fun t => .ok (t.tgSet x.e (fun g => g.setReg rd (t.tgSr x.e sr))))

/-- R152, R158: the special register sr becomes rs1; in user mode PRIV, except for FFLAGS. -/
def execTgMts (x : TgAt) (sr rs1 : Fin 32) (s : State) : Host.Outcome State Fault Refusal :=
  s.tgIssue x (tgR 3 2 sr rs1 0 0) 2 .plain (fun t => 
    let g := t.tg.get x.e
    if g.user && sr.val != 17 then .trap t 2 (tgR 3 2 sr rs1 0 0) else .ok (t.tgSetSr x.e sr (g.reg rs1)))

/-- R145, R166: an event word placed in the output buffer. -/
def execTgEvp (x : TgAt) (rs1 : Fin 32) (s : State) : Host.Outcome State Fault Refusal :=
  s.tgIssue x (tgR 3 3 0 rs1 0 0) 2 .plain (fun t => t.tgPut x.e [.evp ((t.tg.get x.e).reg rs1)])

/-- R157: MODE under its mask, bit 6 ignored; in user mode one that would set PRIV raises PRIV. -/
def execTgSetm (x : TgAt) (mask value : Fin 256) (s : State) : Host.Outcome State Fault Refusal :=
  s.tgIssue x (tgM 0x38 mask value) 2 .setm (fun t => 
    let g := t.tg.get x.e
    let m := mask.val &&& 0xBF
    let n := (g.mode &&& (0xFF - m)) ||| (value.val &&& m)
    if g.user && bitOf n 7 then .trap t 2 (tgM 0x38 mask value) else .setm (t.tgSet x.e (fun y => { y with mode := n })))

/-- R167: the iteration ends; the buffer is to be sealed. -/
def execTgEnd (x : TgAt) (s : State) : Host.Outcome State Fault Refusal :=
  s.tgIssue x (tgZ 0x39) 3 .stop (fun t => .stop t)

/-- R158: the exception BRK, with a free EVAL (log entry 11). -/
def execTgBrk (x : TgAt) (s : State) : Host.Outcome State Fault Refusal :=
  s.tgIssue x (tgZ 0x3F) 1 .plain (fun t => .trap t.draw 10 (Config.tgEval t.free))

/-! ### Branches and loops (R153 to R156) -/

/-- R145, R153: jump to rs1. -/
def execTgJr (x : TgAt) (rs1 : Fin 32) (s : State) : Host.Outcome State Fault Refusal :=
  s.tgIssue x (tgR 3 4 0 rs1 0 0) 2 .branch (fun t => t.tgJump x.e ((t.tg.get x.e).reg rs1 / 4 * 4 % 0x1_0000))

/-- R153: jump. -/
def execTgJmp (x : TgAt) (off : Fin 67108864) (s : State) : Host.Outcome State Fault Refusal :=
  s.tgIssue x (tgJ 0x28 off) 2 .branch (fun t => t.tgJump x.e (t.tgTarget x.e 26 off))

/-- R145, R153: jump with t31 the branch address + 8. -/
def execTgCall (x : TgAt) (off : Fin 67108864) (s : State) : Host.Outcome State Fault Refusal :=
  s.tgIssue x (tgJ 0x29 off) 2 .branch (fun t => (t.tgSet x.e (fun g => g.setReg 31 (g.pc + 8))).tgJump x.e (t.tgTarget x.e 26 off))

/-- R145, R153: branch if equal. -/
def execTgBeq (x : TgAt) (rs1 rs2 : Fin 32) (off : Fin 65536) (s : State) : Host.Outcome State Fault Refusal :=
  s.tgIssue x (tgB 0x20 rs1 rs2 off) 1 .branch (fun t => let g := t.tg.get x.e; t.tgCond x.e (decide (g.reg rs1 = g.reg rs2)) off)

/-- R145, R153: branch if not equal. -/
def execTgBne (x : TgAt) (rs1 rs2 : Fin 32) (off : Fin 65536) (s : State) : Host.Outcome State Fault Refusal :=
  s.tgIssue x (tgB 0x21 rs1 rs2 off) 1 .branch (fun t => let g := t.tg.get x.e; t.tgCond x.e (decide (g.reg rs1 ≠ g.reg rs2)) off)

/-- R145, R153: branch if less, signed. -/
def execTgBlt (x : TgAt) (rs1 rs2 : Fin 32) (off : Fin 65536) (s : State) : Host.Outcome State Fault Refusal :=
  s.tgIssue x (tgB 0x22 rs1 rs2 off) 1 .branch (fun t => let g := t.tg.get x.e; t.tgCond x.e (decide (g.regS rs1 < g.regS rs2)) off)

/-- R145, R153: branch if greater or equal, signed. -/
def execTgBge (x : TgAt) (rs1 rs2 : Fin 32) (off : Fin 65536) (s : State) : Host.Outcome State Fault Refusal :=
  s.tgIssue x (tgB 0x23 rs1 rs2 off) 1 .branch (fun t => let g := t.tg.get x.e; t.tgCond x.e (decide (g.regS rs2 ≤ g.regS rs1)) off)

/-- R145, R153: branch if less, unsigned. -/
def execTgBltu (x : TgAt) (rs1 rs2 : Fin 32) (off : Fin 65536) (s : State) : Host.Outcome State Fault Refusal :=
  s.tgIssue x (tgB 0x24 rs1 rs2 off) 1 .branch (fun t => let g := t.tg.get x.e; t.tgCond x.e (decide (g.reg rs1 < g.reg rs2)) off)

/-- R145, R153: branch if greater or equal, unsigned. -/
def execTgBgeu (x : TgAt) (rs1 rs2 : Fin 32) (off : Fin 65536) (s : State) : Host.Outcome State Fault Refusal :=
  s.tgIssue x (tgB 0x25 rs1 rs2 off) 1 .branch (fun t => let g := t.tg.get x.e; t.tgCond x.e (decide (g.reg rs2 ≤ g.reg rs1)) off)

/-- R154, R155: a hardware loop with its count from rs1; LOOPERR on an active level. -/
def execTgLoop (x : TgAt) (level : Fin 2) (rs1 : Fin 32) (off : Fin 65536) (s : State) : Host.Outcome State Fault Refusal :=
  s.tgIssue x (tgL 0x30 level rs1 off) 2 .loop (fun t => t.tgLoop x.e level ((t.tg.get x.e).reg rs1) off (tgL 0x30 level rs1 off))

/-- R154, R155: a hardware loop with an immediate count; LOOPERR on an active level. -/
def execTgLoopi (x : TgAt) (level : Fin 2) (n : Fin 512) (off : Fin 65536) (s : State) : Host.Outcome State Fault Refusal :=
  s.tgIssue x (tgL 0x31 level n off) 2 .loop (fun t => t.tgLoop x.e level n off (tgL 0x31 level n off))

/-! ### Data memory (R134, R136, R173) -/

/-- R134, R158: a word loaded. -/
def execTgLw (x : TgAt) (rd rs1 : Fin 32) (imm : Fin 65536) (data : TgEcc) (s : State) : Host.Outcome State Fault Refusal :=
  s.tgIssue x (tgI 0x10 rd rs1 imm) 4 .plain (fun t => 
    let a := (t.tg.get x.e).dAddr rs1 imm
    if a % 4 ≠ 0 then .trap t 3 a
    else t.tgDmemEcc x.e a data (fun u => .ok (u.tgSet x.e (fun g => g.setReg rd (u.load (tgDmem x.e + a) 4)))))

/-- R134, R158: a half loaded with its sign. -/
def execTgLh (x : TgAt) (rd rs1 : Fin 32) (imm : Fin 65536) (data : TgEcc) (s : State) : Host.Outcome State Fault Refusal :=
  s.tgIssue x (tgI 0x11 rd rs1 imm) 4 .plain (fun t => 
    let a := (t.tg.get x.e).dAddr rs1 imm
    if a % 2 ≠ 0 then .trap t 3 a
    else t.tgDmemEcc x.e a data (fun u => .ok (u.tgSet x.e (fun g => g.setReg rd (ofS 32 (toS 16 (u.load (tgDmem x.e + a) 2)))))))

/-- R134, R158: a half loaded with zeros. -/
def execTgLhu (x : TgAt) (rd rs1 : Fin 32) (imm : Fin 65536) (data : TgEcc) (s : State) : Host.Outcome State Fault Refusal :=
  s.tgIssue x (tgI 0x12 rd rs1 imm) 4 .plain (fun t => 
    let a := (t.tg.get x.e).dAddr rs1 imm
    if a % 2 ≠ 0 then .trap t 3 a
    else t.tgDmemEcc x.e a data (fun u => .ok (u.tgSet x.e (fun g => g.setReg rd (u.load (tgDmem x.e + a) 2)))))

/-- R145, R158: an accumulator loaded from 12 bytes. -/
def execTgLacc (x : TgAt) (a rs1 : Fin 32) (imm : Fin 65536) (data : TgEcc) (s : State) : Host.Outcome State Fault Refusal :=
  s.tgIssue x (tgI 0x13 a rs1 imm) 8 .plain (fun t => 
    let o := (t.tg.get x.e).dAddr rs1 imm
    let w (u : State) (i : Nat) : Nat := u.load (tgDmem x.e + (o + 4 * i) % 0x1_0000) 4
    if o % 4 ≠ 0 then .trap t 3 o
    else t.tgDmemEcc x.e o data (fun u => .ok (u.tgSet x.e (fun g => g.putAcc a (w u 0 + w u 1 * 2 ^ 32 + w u 2 % 256 * 2 ^ 64)))))

/-- R134, R158, R173: a word stored. -/
def execTgSw (x : TgAt) (rs2 rs1 : Fin 32) (imm : Fin 65536) (s : State) : Host.Outcome State Fault Refusal :=
  s.tgIssue x (tgS 0x14 rs2 rs1 imm) 4 .plain (fun t => 
    let a := (t.tg.get x.e).dAddr rs1 imm
    if a % 4 ≠ 0 then .trap t 3 a else t.tgStore x.e [(a, 4, (t.tg.get x.e).reg rs2)])

/-- R134, R158, R173: a half stored. -/
def execTgSh (x : TgAt) (rs2 rs1 : Fin 32) (imm : Fin 65536) (s : State) : Host.Outcome State Fault Refusal :=
  s.tgIssue x (tgS 0x15 rs2 rs1 imm) 4 .plain (fun t => 
    let a := (t.tg.get x.e).dAddr rs1 imm
    if a % 2 ≠ 0 then .trap t 3 a else t.tgStore x.e [(a, 2, (t.tg.get x.e).reg rs2)])

/-- R145, R158, R173: an accumulator stored in 12 bytes, the upper bytes of the third word 0. -/
def execTgSacc (x : TgAt) (a rs1 : Fin 32) (imm : Fin 65536) (s : State) : Host.Outcome State Fault Refusal :=
  s.tgIssue x (tgI 0x17 a rs1 imm) 8 .plain (fun t => 
    let g := t.tg.get x.e
    let o := g.dAddr rs1 imm
    let v := if a.val = 0 then g.acc0 else g.acc1
    if o % 4 ≠ 0 then .trap t 3 o
    else t.tgStore x.e [(o, 4, v % 2 ^ 32), ((o + 4) % 0x1_0000, 4, v / 2 ^ 32 % 2 ^ 32), ((o + 8) % 0x1_0000, 4, v / 2 ^ 64 % 256)])

/-! ### The control lane (R151, R166, R171) -/

/-- R151, R171: a register of the converter blocks read over the control lane. -/
def execTgLdc (x : TgAt) (rd rs1 : Fin 32) (imm : Fin 65536) (parity : LaneParity) (s : State) : Host.Outcome State Fault Refusal :=
  s.tgIssue x (tgI 0x18 rd rs1 imm) 64 .plain (fun t => 
    let a := (t.tg.get x.e).laneAddr rs1 imm
    t.tgLane x.e a .read (lanePage a) (fun u =>
      match u.tgLdc x.e a parity with
      | (some v, w) => .ok (w.tgSet x.e (fun g => g.setReg rd v))
      | (none, w) => .trap w 6 a))

/-- R151, R166: a control-lane write placed in the output buffer. -/
def execTgStc (x : TgAt) (rs2 rs1 : Fin 32) (imm : Fin 65536) (s : State) : Host.Outcome State Fault Refusal :=
  s.tgIssue x (tgS 0x19 rs2 rs1 imm) 5 .plain (fun t => 
    let g := t.tg.get x.e
    let a := g.laneAddr rs1 imm
    t.tgLane x.e a .write (lanePage a) (fun u => u.tgPut x.e [.lane a (g.reg rs2)]))

/-- R151, R166: a write of a PWM shadow register and the COMMIT of its page placed in the output buffer. -/
def execTgStcc (x : TgAt) (rs2 rs1 : Fin 32) (imm : Fin 65536) (s : State) : Host.Outcome State Fault Refusal :=
  s.tgIssue x (tgS 0x1A rs2 rs1 imm) 5 .plain (fun t => 
    let g := t.tg.get x.e
    let a := g.laneAddr rs1 imm
    t.tgLane x.e a .write (stccPage a) (fun u => u.tgPut x.e [.lane a (g.reg rs2), .lane (a / 0x1000 * 0x1000 + 0x28) 1]))

end Sys2Proof.Machine
end

