-- ==== Sys2Proof/Machine/Twin.lean ====
section
/-! DEFINITION. What half B of a twin takes from the mirror link (R7, R35 to R38, R270, R301; log entry 34). -/

namespace Sys2Proof.Machine

open Sys2Proof

/-- A 32-bit write of half A applied to half B: registers of the switch, its ports and the CAN controllers, CAN payload, the domain slots of gPTP and the gateway's
tables (R35, R270, R301). Half B's controllers keep LOM = 1 while it stands by. -/
def State.twinWrite (s : State) (a v : Nat) : State :=
  if within a 0x4301_0000 0x4_0000 && decide (a % 0x10 < 0xC) then s.fdbWindow ((a - 0x4301_0000) / 0x10) (a % 0x10 / 4) v
  else if within a 0x4400_0000 0x10_0000 && decide (0x2000 ≤ a % 0x1_0000) then s.store a 4 v
  else if within a 0x4400_0000 0x10_0000 then
    let s1 := s.write4 blockWrite a v
    if a % 0x1_0000 = 0 then s1.set (CAN_CTL_LOM ((a - 0x4400_0000) / 0x1_0000)) 1 else s1
  else if within a 0x4300_0000 0x20_0000 || within a 0x4001_0100 0x100 then s.write4 blockWrite a v
  else if (gwCommitOf a).isSome then s.gwTableWrite a v
  else if within a 0x4500_0000 0x10_0000 then s.write4 blockWrite a v
  else s

/-- An item of a mirror frame applied to half B: writes, learns and removals of the filtering database, TXREQ, DONE and FAIL, Tangram state. -/
def State.twinItem (s : State) (x : MirrorItem) : State :=
  match x with
  | .write a v => s.twinWrite a v
  | .fdb i key data => s.fdbPut (i % 16384) key data
  | .dmem e off v => s.store (tgDmem (e % 12) + off % 0x1_0000 / 4 * 4) 4 v
  | .write8 a v => (s.twinWrite a (v % 2 ^ 32)).twinWrite (a + 4) (v / 2 ^ 32)
  | .fdbCmd key data op => if 1 ≤ op ∧ op ≤ 6 then s.fdbRun { op := op, key := key, data := data, frame := s.esw.nextId } else s
  | .gptp d gm ofs ratio =>
    let s1 : State := { s with gtb := { s.gtb with doms := s.gtb.doms.upd (d % 4) (fun x => { x with known := true }) } }
    ((s1.set (GTB_DGMID_GMID (d % 4)) gm).setS (GTB_DOFS_OFS (d % 4)) ofs).setS (GTB_DRATIO_RATIO (d % 4)) ratio
  | .can c o q d f => ((s.canReq (c % 16) (o % 128) q).set (CAN_OBJSTAT_DONE (c % 16) (o % 128)) (b2n d)).set (CAN_OBJSTAT_FAIL (c % 16) (o % 128)) (b2n f)

/-- R35: half B receives a valid mirror frame; a cause that half A reports (1 escalation in a protected pair, 2 loss of its mixed-signal die supply, 3 handoff) makes it take over.
What half A mirrors is applied while half B stands by. -/
def execMirrorFrameReceive (cause : Fin 4) (items : List MirrorItem) (s : State) : Host.Outcome State Fault Refusal :=
  if s.part ≠ .twinB ∨ s.alive = false then done s
  else
    let s1 := s.set SYS_TWIN_MIRROR_OK 1
    let s2 := if s1.get SYS_TWIN_ROLE = 2 then s1.each items State.twinItem else s1
    done (if cause.val = 0 then s2 else s2.takeOver (cause.val == 3))

end Sys2Proof.Machine
end

