-- ==== Sys2Proof/Machine/Dispatch.lean ====
section
/-! DEFINITION. The meaning of every command, one direct call per constructor. -/

namespace Sys2Proof.Machine

open Sys2Proof

def exec (i : Instr) (s : State) : Host.Outcome State Fault Refusal :=
  match i with
  | .registerWrite r addr size value => Sys2Proof.Machine.execRegisterWrite r addr size value s
  | .readClear r addr => Sys2Proof.Machine.execReadClear r addr s
  | .pairLowWordRead r addr => Sys2Proof.Machine.execPairLowWordRead r addr s
  | .fabricRequest r acc addr size value parityOk ecc => Sys2Proof.Machine.execFabricRequest r acc addr size value parityOk ecc s
  | .commandLinkHeartbeat f valid other => Sys2Proof.Machine.execCommandLinkHeartbeat f valid other s
  | .powerDieHoldEnter f => Sys2Proof.Machine.execPowerDieHoldEnter f s
  | .powerDieHoldLeave f => Sys2Proof.Machine.execPowerDieHoldLeave f s
  | .supplyLinkHeartbeat => Sys2Proof.Machine.execSupplyLinkHeartbeat s
  | .interfaceHeartbeatLoss => Sys2Proof.Machine.execInterfaceHeartbeatLoss s
  | .controlLaneIdleHandshake => Sys2Proof.Machine.execControlLaneIdleHandshake s
  | .controlLaneLoss => Sys2Proof.Machine.execControlLaneLoss s
  | .coreSupplyLapse => Sys2Proof.Machine.execCoreSupplyLapse s
  | .vcoreMeasure millivolt => Sys2Proof.Machine.execVcoreMeasure millivolt s
  | .xtalFallback => Sys2Proof.Machine.execXtalFallback s
  | .msSupplyLoss => Sys2Proof.Machine.execMsSupplyLoss s
  | .msSupplyReturn failed cals => Sys2Proof.Machine.execMsSupplyReturn failed cals s
  | .mirrorFrameSend => Sys2Proof.Machine.execMirrorFrameSend s
  | .mirrorFrameReceive cause items => Sys2Proof.Machine.execMirrorFrameReceive cause items s
  | .mirrorTimeout => Sys2Proof.Machine.execMirrorTimeout s
  | .takeover => Sys2Proof.Machine.execTakeover s
  | .takeoverPwmEnable j => Sys2Proof.Machine.execTakeoverPwmEnable j s
  | .twinHandoff => Sys2Proof.Machine.execTwinHandoff s
  | .slewStart => Sys2Proof.Machine.execSlewStart s
  | .slewComplete => Sys2Proof.Machine.execSlewComplete s
  | .gtbStep => Sys2Proof.Machine.execGtbStep s
  | .snapshotTake => Sys2Proof.Machine.execSnapshotTake s
  | .syncReceive d p m => Sys2Proof.Machine.execSyncReceive d p m s
  | .syncRelay d => Sys2Proof.Machine.execSyncRelay d s
  | .syncTransmit d => Sys2Proof.Machine.execSyncTransmit d s
  | .pdelayReqTransmit p => Sys2Proof.Machine.execPdelayReqTransmit p s
  | .pdelayReceive p m => Sys2Proof.Machine.execPdelayReceive p m s
  | .syncTimeout d => Sys2Proof.Machine.execSyncTimeout d s
  | .gtbDomainWrite d disable => Sys2Proof.Machine.execGtbDomainWrite d disable s
  | .triggerFire n => Sys2Proof.Machine.execTriggerFire n s
  | .triggerCompareWrite n value => Sys2Proof.Machine.execTriggerCompareWrite n value s
  | .triggerCtlWrite n value => Sys2Proof.Machine.execTriggerCtlWrite n value s
  | .captureEdge u rising stamp held => Sys2Proof.Machine.execCaptureEdge u rising stamp held s
  | .capturePop u => Sys2Proof.Machine.execCapturePop u s
  | .eventEnterEvr => Sys2Proof.Machine.execEventEnterEvr s
  | .eventRelease b => Sys2Proof.Machine.execEventRelease b s
  | .lateEventRelease b => Sys2Proof.Machine.execLateEventRelease b s
  | .logRecordWrite parity => Sys2Proof.Machine.execLogRecordWrite parity s
  | .traceRecordHandoff => Sys2Proof.Machine.execTraceRecordHandoff s
  | .alarmAck src count => Sys2Proof.Machine.execAlarmAck src count s
  | .refMonitorCompare dev => Sys2Proof.Machine.execRefMonitorCompare dev s
  | .refMismatchClear => Sys2Proof.Machine.execRefMismatchClear s
  | .adcSequenceStart n => Sys2Proof.Machine.execAdcSequenceStart n s
  | .adcStart n => Sys2Proof.Machine.execAdcStart n s
  | .adcFreerunWrite n en freerun => Sys2Proof.Machine.execAdcFreerunWrite n en freerun s
  | .adcSlotComplete n sum err => Sys2Proof.Machine.execAdcSlotComplete n sum err s
  | .adcGroupStart g => Sys2Proof.Machine.execAdcGroupStart g s
  | .adcGroupStartWrite g => Sys2Proof.Machine.execAdcGroupStartWrite g s
  | .adcWordDeliver g parity => Sys2Proof.Machine.execAdcWordDeliver g parity s
  | .adcSetComplete g => Sys2Proof.Machine.execAdcSetComplete g s
  | .adcRingWrite g parity => Sys2Proof.Machine.execAdcRingWrite g parity s
  | .sdfResult m levels parity => Sys2Proof.Machine.execSdfResult m levels parity s
  | .sdfWindowRestart m => Sys2Proof.Machine.execSdfWindowRestart m s
  | .sdfFastTrip m levels parity => Sys2Proof.Machine.execSdfFastTrip m levels parity s
  | .sdfClockLoss m => Sys2Proof.Machine.execSdfClockLoss m s
  | .comparatorTrip k v => Sys2Proof.Machine.execComparatorTrip k v s
  | .comparatorRelease k v => Sys2Proof.Machine.execComparatorRelease k v s
  | .blankingEnd k => Sys2Proof.Machine.execBlankingEnd k s
  | .pwmPeriodStart j settled => Sys2Proof.Machine.execPwmPeriodStart j settled s
  | .pwmMidPeriod j settled => Sys2Proof.Machine.execPwmMidPeriod j settled s
  | .pwmEdge j outB rise dead => Sys2Proof.Machine.execPwmEdge j outB rise dead s
  | .pwmSync j c settled => Sys2Proof.Machine.execPwmSync j c settled s
  | .pwmCommit j => Sys2Proof.Machine.execPwmCommit j s
  | .pwmSetLoad j c => Sys2Proof.Machine.execPwmSetLoad j c s
  | .pwmSwtrip j => Sys2Proof.Machine.execPwmSwtrip j s
  | .pwmGtrip => Sys2Proof.Machine.execPwmGtrip s
  | .pwmTripclr j => Sys2Proof.Machine.execPwmTripclr j s
  | .pwmEnableWrite j en settled => Sys2Proof.Machine.execPwmEnableWrite j en settled s
  | .pwmForceWrite j forceA forceB => Sys2Proof.Machine.execPwmForceWrite j forceA forceB s
  | .tgDmemWrite e off size v => Sys2Proof.Machine.execTgDmemWrite e off size v s
  | .tgOccurrence e sl => Sys2Proof.Machine.execTgOccurrence e sl s
  | .tgSwdisp e sl => Sys2Proof.Machine.execTgSwdisp e sl s
  | .tgDispatch e => Sys2Proof.Machine.execTgDispatch e s
  | .tgAdd x rd rs1 rs2 => Sys2Proof.Machine.execTgAdd x rd rs1 rs2 s
  | .tgSub x rd rs1 rs2 => Sys2Proof.Machine.execTgSub x rd rs1 rs2 s
  | .tgAnd x rd rs1 rs2 => Sys2Proof.Machine.execTgAnd x rd rs1 rs2 s
  | .tgOr x rd rs1 rs2 => Sys2Proof.Machine.execTgOr x rd rs1 rs2 s
  | .tgXor x rd rs1 rs2 => Sys2Proof.Machine.execTgXor x rd rs1 rs2 s
  | .tgShl x rd rs1 rs2 => Sys2Proof.Machine.execTgShl x rd rs1 rs2 s
  | .tgShr x rd rs1 rs2 => Sys2Proof.Machine.execTgShr x rd rs1 rs2 s
  | .tgSra x rd rs1 rs2 => Sys2Proof.Machine.execTgSra x rd rs1 rs2 s
  | .tgShli x rd rs1 n => Sys2Proof.Machine.execTgShli x rd rs1 n s
  | .tgShri x rd rs1 n => Sys2Proof.Machine.execTgShri x rd rs1 n s
  | .tgSrai x rd rs1 n => Sys2Proof.Machine.execTgSrai x rd rs1 n s
  | .tgMin x rd rs1 rs2 => Sys2Proof.Machine.execTgMin x rd rs1 rs2 s
  | .tgMax x rd rs1 rs2 => Sys2Proof.Machine.execTgMax x rd rs1 rs2 s
  | .tgMinu x rd rs1 rs2 => Sys2Proof.Machine.execTgMinu x rd rs1 rs2 s
  | .tgMaxu x rd rs1 rs2 => Sys2Proof.Machine.execTgMaxu x rd rs1 rs2 s
  | .tgClamp x rd rs1 rs2 rs3 => Sys2Proof.Machine.execTgClamp x rd rs1 rs2 rs3 s
  | .tgAbs x rd rs1 => Sys2Proof.Machine.execTgAbs x rd rs1 s
  | .tgSlt x rd rs1 rs2 => Sys2Proof.Machine.execTgSlt x rd rs1 rs2 s
  | .tgSltu x rd rs1 rs2 => Sys2Proof.Machine.execTgSltu x rd rs1 rs2 s
  | .tgClz x rd rs1 => Sys2Proof.Machine.execTgClz x rd rs1 s
  | .tgMul x rd rs1 rs2 => Sys2Proof.Machine.execTgMul x rd rs1 rs2 s
  | .tgMulh x rd rs1 rs2 => Sys2Proof.Machine.execTgMulh x rd rs1 rs2 s
  | .tgMulhu x rd rs1 rs2 => Sys2Proof.Machine.execTgMulhu x rd rs1 rs2 s
  | .tgDiv x rd rs1 rs2 => Sys2Proof.Machine.execTgDiv x rd rs1 rs2 s
  | .tgDivu x rd rs1 rs2 => Sys2Proof.Machine.execTgDivu x rd rs1 rs2 s
  | .tgRem x rd rs1 rs2 => Sys2Proof.Machine.execTgRem x rd rs1 rs2 s
  | .tgRemu x rd rs1 rs2 => Sys2Proof.Machine.execTgRemu x rd rs1 rs2 s
  | .tgMacq x a rs1 rs2 => Sys2Proof.Machine.execTgMacq x a rs1 rs2 s
  | .tgMsuq x a rs1 rs2 => Sys2Proof.Machine.execTgMsuq x a rs1 rs2 s
  | .tgMulq x a rs1 rs2 => Sys2Proof.Machine.execTgMulq x a rs1 rs2 s
  | .tgMaci x a rs1 rs2 => Sys2Proof.Machine.execTgMaci x a rs1 rs2 s
  | .tgAclr x a => Sys2Proof.Machine.execTgAclr x a s
  | .tgAcld x a rs1 => Sys2Proof.Machine.execTgAcld x a rs1 s
  | .tgAcsr x a n => Sys2Proof.Machine.execTgAcsr x a n s
  | .tgSatq x rd a => Sys2Proof.Machine.execTgSatq x rd a s
  | .tgSati x rd a => Sys2Proof.Machine.execTgSati x rd a s
  | .tgPiu x rd rs1 rs2 rs3 => Sys2Proof.Machine.execTgPiu x rd rs1 rs2 rs3 s
  | .tgFadd x rd rs1 rs2 => Sys2Proof.Machine.execTgFadd x rd rs1 rs2 s
  | .tgFsub x rd rs1 rs2 => Sys2Proof.Machine.execTgFsub x rd rs1 rs2 s
  | .tgFmul x rd rs1 rs2 => Sys2Proof.Machine.execTgFmul x rd rs1 rs2 s
  | .tgFma x rd rs1 rs2 rs3 => Sys2Proof.Machine.execTgFma x rd rs1 rs2 rs3 s
  | .tgFdiv x rd rs1 rs2 => Sys2Proof.Machine.execTgFdiv x rd rs1 rs2 s
  | .tgFsqrt x rd rs1 => Sys2Proof.Machine.execTgFsqrt x rd rs1 s
  | .tgFmin x rd rs1 rs2 => Sys2Proof.Machine.execTgFmin x rd rs1 rs2 s
  | .tgFmax x rd rs1 rs2 => Sys2Proof.Machine.execTgFmax x rd rs1 rs2 s
  | .tgFabs x rd rs1 => Sys2Proof.Machine.execTgFabs x rd rs1 s
  | .tgFneg x rd rs1 => Sys2Proof.Machine.execTgFneg x rd rs1 s
  | .tgFeq x rd rs1 rs2 => Sys2Proof.Machine.execTgFeq x rd rs1 rs2 s
  | .tgFlt x rd rs1 rs2 => Sys2Proof.Machine.execTgFlt x rd rs1 rs2 s
  | .tgFle x rd rs1 rs2 => Sys2Proof.Machine.execTgFle x rd rs1 rs2 s
  | .tgFcvtws x rd rs1 => Sys2Proof.Machine.execTgFcvtws x rd rs1 s
  | .tgFcvtsw x rd rs1 => Sys2Proof.Machine.execTgFcvtsw x rd rs1 s
  | .tgFcvtqs x rd rs1 => Sys2Proof.Machine.execTgFcvtqs x rd rs1 s
  | .tgFcvtsq x rd rs1 => Sys2Proof.Machine.execTgFcvtsq x rd rs1 s
  | .tgEret x => Sys2Proof.Machine.execTgEret x s
  | .tgMfs x rd sr => Sys2Proof.Machine.execTgMfs x rd sr s
  | .tgMts x sr rs1 => Sys2Proof.Machine.execTgMts x sr rs1 s
  | .tgEvp x rs1 => Sys2Proof.Machine.execTgEvp x rs1 s
  | .tgJr x rs1 => Sys2Proof.Machine.execTgJr x rs1 s
  | .tgAddi x rd rs1 imm => Sys2Proof.Machine.execTgAddi x rd rs1 imm s
  | .tgAndi x rd rs1 imm => Sys2Proof.Machine.execTgAndi x rd rs1 imm s
  | .tgOri x rd rs1 imm => Sys2Proof.Machine.execTgOri x rd rs1 imm s
  | .tgXori x rd rs1 imm => Sys2Proof.Machine.execTgXori x rd rs1 imm s
  | .tgLui x rd imm => Sys2Proof.Machine.execTgLui x rd imm s
  | .tgSlti x rd rs1 imm => Sys2Proof.Machine.execTgSlti x rd rs1 imm s
  | .tgLw x rd rs1 imm data => Sys2Proof.Machine.execTgLw x rd rs1 imm data s
  | .tgLh x rd rs1 imm data => Sys2Proof.Machine.execTgLh x rd rs1 imm data s
  | .tgLhu x rd rs1 imm data => Sys2Proof.Machine.execTgLhu x rd rs1 imm data s
  | .tgLacc x a rs1 imm data => Sys2Proof.Machine.execTgLacc x a rs1 imm data s
  | .tgSw x rs2 rs1 imm => Sys2Proof.Machine.execTgSw x rs2 rs1 imm s
  | .tgSh x rs2 rs1 imm => Sys2Proof.Machine.execTgSh x rs2 rs1 imm s
  | .tgSacc x a rs1 imm => Sys2Proof.Machine.execTgSacc x a rs1 imm s
  | .tgLdc x rd rs1 imm parity => Sys2Proof.Machine.execTgLdc x rd rs1 imm parity s
  | .tgStc x rs2 rs1 imm => Sys2Proof.Machine.execTgStc x rs2 rs1 imm s
  | .tgStcc x rs2 rs1 imm => Sys2Proof.Machine.execTgStcc x rs2 rs1 imm s
  | .tgBeq x rs1 rs2 off => Sys2Proof.Machine.execTgBeq x rs1 rs2 off s
  | .tgBne x rs1 rs2 off => Sys2Proof.Machine.execTgBne x rs1 rs2 off s
  | .tgBlt x rs1 rs2 off => Sys2Proof.Machine.execTgBlt x rs1 rs2 off s
  | .tgBge x rs1 rs2 off => Sys2Proof.Machine.execTgBge x rs1 rs2 off s
  | .tgBltu x rs1 rs2 off => Sys2Proof.Machine.execTgBltu x rs1 rs2 off s
  | .tgBgeu x rs1 rs2 off => Sys2Proof.Machine.execTgBgeu x rs1 rs2 off s
  | .tgJmp x off => Sys2Proof.Machine.execTgJmp x off s
  | .tgCall x off => Sys2Proof.Machine.execTgCall x off s
  | .tgLoop x level rs1 off => Sys2Proof.Machine.execTgLoop x level rs1 off s
  | .tgLoopi x level n off => Sys2Proof.Machine.execTgLoopi x level n off s
  | .tgSetm x mask value => Sys2Proof.Machine.execTgSetm x mask value s
  | .tgEnd x => Sys2Proof.Machine.execTgEnd x s
  | .tgBrk x => Sys2Proof.Machine.execTgBrk x s
  | .tgSeal e cmp => Sys2Proof.Machine.execTgSeal e cmp s
  | .tgSkewTimeout e => Sys2Proof.Machine.execTgSkewTimeout e s
  | .tgDeadlineExpiry e => Sys2Proof.Machine.execTgDeadlineExpiry e s
  | .tgPairWrite e pair => Sys2Proof.Machine.execTgPairWrite e pair s
  | .tgPairSyncDone e => Sys2Proof.Machine.execTgPairSyncDone e s
  | .tgMoveGo e dest => Sys2Proof.Machine.execTgMoveGo e dest s
  | .tgMoveFreeze e => Sys2Proof.Machine.execTgMoveFreeze e s
  | .tgMoveComplete e => Sys2Proof.Machine.execTgMoveComplete e s
  | .tgMoveFwdClear e => Sys2Proof.Machine.execTgMoveFwdClear e s
  | .pscOn n r vi => Sys2Proof.Machine.execPscOn n r vi s
  | .pscOff n r vi => Sys2Proof.Machine.execPscOff n r vi s
  | .pscPwm n r vi => Sys2Proof.Machine.execPscPwm n r vi s
  | .pscClear n r vi => Sys2Proof.Machine.execPscClear n r vi s
  | .pscOlcheck n r vi => Sys2Proof.Machine.execPscOlcheck n r vi s
  | .pscCommandApply f crcOk other => Sys2Proof.Machine.execPscCommandApply f crcOk other s
  | .pscAckReceive f crcOk => Sys2Proof.Machine.execPscAckReceive f crcOk s
  | .pscAckTimeout f => Sys2Proof.Machine.execPscAckTimeout f s
  | .pscSample m => Sys2Proof.Machine.execPscSample m s
  | .pscRangeSwitch n => Sys2Proof.Machine.execPscRangeSwitch n s
  | .pscOvercurrent n samples => Sys2Proof.Machine.execPscOvercurrent n samples s
  | .pscShortCircuit n => Sys2Proof.Machine.execPscShortCircuit n s
  | .pscGroupOvertemp g t => Sys2Proof.Machine.execPscGroupOvertemp g t s
  | .i2tUpdate n sumSq => Sys2Proof.Machine.execI2tUpdate n sumSq s
  | .pscRetryDue n => Sys2Proof.Machine.execPscRetryDue n s
  | .pscRetryRestore n => Sys2Proof.Machine.execPscRetryRestore n s
  | .pscClampEvent n => Sys2Proof.Machine.execPscClampEvent n s
  | .pscPwmPeriod n off => Sys2Proof.Machine.execPscPwmPeriod n off s
  | .offstateCheckStart n periodic v => Sys2Proof.Machine.execOffstateCheckStart n periodic v s
  | .offstateCheckSettled n v => Sys2Proof.Machine.execOffstateCheckSettled n v s
  | .onstateOpenLoad n largest => Sys2Proof.Machine.execOnstateOpenLoad n largest s
  | .pscShed f hot => Sys2Proof.Machine.execPscShed f hot s
  | .pscRestore f => Sys2Proof.Machine.execPscRestore f s
  | .pscRecordWrite parity => Sys2Proof.Machine.execPscRecordWrite parity s
  | .pscMirrorLoad f => Sys2Proof.Machine.execPscMirrorLoad f s
  | .feedPowerOnReset f => Sys2Proof.Machine.execFeedPowerOnReset f s
  | .feedRestart f => Sys2Proof.Machine.execFeedRestart f s
  | .feedUndervoltage f vpwr => Sys2Proof.Machine.execFeedUndervoltage f vpwr s
  | .feedOvervoltage f vpwr => Sys2Proof.Machine.execFeedOvervoltage f vpwr s
  | .portLinkDown p => Sys2Proof.Machine.execPortLinkDown p s
  | .portLinkUp p speed sqi => Sys2Proof.Machine.execPortLinkUp p speed sqi s
  | .portHoldExpiry p => Sys2Proof.Machine.execPortHoldExpiry p s
  | .portDisable p => Sys2Proof.Machine.execPortDisable p s
  | .plcaBeaconTimeout p => Sys2Proof.Machine.execPlcaBeaconTimeout p s
  | .plcaBeacon p => Sys2Proof.Machine.execPlcaBeacon p s
  | .frameReceive p rx => Sys2Proof.Machine.execFrameReceive p rx s
  | .frameTransmit p => Sys2Proof.Machine.execFrameTransmit p s
  | .internalIngressResume p => Sys2Proof.Machine.execInternalIngressResume p s
  | .gateEntryAdvance p => Sys2Proof.Machine.execGateEntryAdvance p s
  | .gclChangeWrite p => Sys2Proof.Machine.execGclChangeWrite p s
  | .gateListChange p => Sys2Proof.Machine.execGateListChange p s
  | .streamGateChangeWrite g => Sys2Proof.Machine.execStreamGateChangeWrite g s
  | .streamGateListChange g => Sys2Proof.Machine.execStreamGateListChange g s
  | .streamGateEntryAdvance g => Sys2Proof.Machine.execStreamGateEntryAdvance g s
  | .fdbRead => Sys2Proof.Machine.execFdbRead s
  | .fdbWrite => Sys2Proof.Machine.execFdbWrite s
  | .fdbDelete => Sys2Proof.Machine.execFdbDelete s
  | .fdbFlush => Sys2Proof.Machine.execFdbFlush s
  | .fdbInvcache => Sys2Proof.Machine.execFdbInvcache s
  | .fdbFence => Sys2Proof.Machine.execFdbFence s
  | .fdbCommandComplete => Sys2Proof.Machine.execFdbCommandComplete s
  | .fdbWindowWrite idx w v => Sys2Proof.Machine.execFdbWindowWrite idx w v s
  | .fdbCacheExpiry key => Sys2Proof.Machine.execFdbCacheExpiry key s
  | .fdbAgeSweep => Sys2Proof.Machine.execFdbAgeSweep s
  | .pinRevert k => Sys2Proof.Machine.execPinRevert k s
  | .pinRevertComplete k => Sys2Proof.Machine.execPinRevertComplete k s
  | .frerRecoveryReset r => Sys2Proof.Machine.execFrerRecoveryReset r s
  | .sampleRecordWrite parity => Sys2Proof.Machine.execSampleRecordWrite parity s
  | .canStart c => Sys2Proof.Machine.execCanStart c s
  | .canFrameValid c f age => Sys2Proof.Machine.execCanFrameValid c f age s
  | .canObjectWrite c => Sys2Proof.Machine.execCanObjectWrite c s
  | .canTxreq c o => Sys2Proof.Machine.execCanTxreq c o s
  | .canArbitrationStart c => Sys2Proof.Machine.execCanArbitrationStart c s
  | .canTxSuccess c tdcv => Sys2Proof.Machine.execCanTxSuccess c tdcv s
  | .canTxError c lec data count tdcv => Sys2Proof.Machine.execCanTxError c lec data count tdcv s
  | .canArbitrationLost c => Sys2Proof.Machine.execCanArbitrationLost c s
  | .canAbort c o => Sys2Proof.Machine.execCanAbort c o s
  | .canBusoffRecover c => Sys2Proof.Machine.execCanBusoffRecover c s
  | .canBusoffRecovered c => Sys2Proof.Machine.execCanBusoffRecovered c s
  | .canLomApply c => Sys2Proof.Machine.execCanLomApply c s
  | .canTxdTimeout c => Sys2Proof.Machine.execCanTxdTimeout c s
  | .canCorrelation c take => Sys2Proof.Machine.execCanCorrelation c take s
  | .busWakeDetect b => Sys2Proof.Machine.execBusWakeDetect b s
  | .transceiverOvertemp b => Sys2Proof.Machine.execTransceiverOvertemp b s
  | .transceiverOvertempEnd b => Sys2Proof.Machine.execTransceiverOvertempEnd b s
  | .linSlotStart l => Sys2Proof.Machine.execLinSlotStart l s
  | .linHeaderReceive l id div => Sys2Proof.Machine.execLinHeaderReceive l id div s
  | .linResponseComplete l bytes cks err => Sys2Proof.Machine.execLinResponseComplete l bytes cks err s
  | .linResponseTimeout l got => Sys2Proof.Machine.execLinResponseTimeout l got s
  | .linWakePulse l => Sys2Proof.Machine.execLinWakePulse l s
  | .carouselEnable => Sys2Proof.Machine.execCarouselEnable s
  | .carouselMessageReceive bytes => Sys2Proof.Machine.execCarouselMessageReceive bytes s
  | .carouselRelay from_ bytes => Sys2Proof.Machine.execCarouselRelay from_ bytes s
  | .carouselSend bb => Sys2Proof.Machine.execCarouselSend bb s
  | .carouselSlotTimeout bb => Sys2Proof.Machine.execCarouselSlotTimeout bb s
  | .carouselFormTimeout bb => Sys2Proof.Machine.execCarouselFormTimeout bb s
  | .consentWrite v => Sys2Proof.Machine.execConsentWrite v s
  | .keeperLimit idx => Sys2Proof.Machine.execKeeperLimit idx s
  | .prepareExpiry => Sys2Proof.Machine.execPrepareExpiry s
  | .sleepTransceiversOff => Sys2Proof.Machine.execSleepTransceiversOff s
  | .sleepCorePowerOff => Sys2Proof.Machine.execSleepCorePowerOff s
  | .wakeReport b => Sys2Proof.Machine.execWakeReport b s
  | .wakeWindowExpiry => Sys2Proof.Machine.execWakeWindowExpiry s
  | .zoneOkRequest => Sys2Proof.Machine.execZoneOkRequest s
  | .zoneOkDrop => Sys2Proof.Machine.execZoneOkDrop s
  | .zoneOkWatchdog => Sys2Proof.Machine.execZoneOkWatchdog s
  | .gwPduReceive src => Sys2Proof.Machine.execGwPduReceive src s
  | .gwPduProcess => Sys2Proof.Machine.execGwPduProcess s
  | .gwLayoutCyclicDue l => Sys2Proof.Machine.execGwLayoutCyclicDue l s
  | .gwMingapExpiry l => Sys2Proof.Machine.execGwMingapExpiry l s
  | .gwPduForm => Sys2Proof.Machine.execGwPduForm s
  | .gwSinkReady l => Sys2Proof.Machine.execGwSinkReady l s
  | .gwFence => Sys2Proof.Machine.execGwFence s
  | .gwFenceComplete => Sys2Proof.Machine.execGwFenceComplete s
  | .tableEntryCommitWrite addr value => Sys2Proof.Machine.execTableEntryCommitWrite addr value s
  | .pcieInboundRequest x => Sys2Proof.Machine.execPcieInboundRequest x s
  | .pcieOutboundRequest r acc addr size value => Sys2Proof.Machine.execPcieOutboundRequest r acc addr size value s
  | .pcieCompletion tag status bytes => Sys2Proof.Machine.execPcieCompletion tag status bytes s
  | .pcieCompletionTimeout tag => Sys2Proof.Machine.execPcieCompletionTimeout tag s
  | .pcieLinkUp gen width ltssm => Sys2Proof.Machine.execPcieLinkUp gen width ltssm s
  | .pcieLinkDown ltssm => Sys2Proof.Machine.execPcieLinkDown ltssm s
  | .pcieFunctionLevelReset f => Sys2Proof.Machine.execPcieFunctionLevelReset f s
  | .pcieVfEnable en num => Sys2Proof.Machine.execPcieVfEnable en num s
  | .pciePerst low => Sys2Proof.Machine.execPciePerst low s
  | .pcieRetrain => Sys2Proof.Machine.execPcieRetrain s
  | .pciePfMsix vectors => Sys2Proof.Machine.execPciePfMsix vectors s
  | .rvInstruction c o => Sys2Proof.Machine.execRvInstruction c o s
  | .mret c o => Sys2Proof.Machine.execMret c o s
  | .wcall c o => Sys2Proof.Machine.execWcall c o s
  | .ckpt c o => Sys2Proof.Machine.execCkpt c o s
  | .agreeLd c o => Sys2Proof.Machine.execAgreeLd c o s
  | .agreeRnd c o => Sys2Proof.Machine.execAgreeRnd c o s
  | .agreeCyc c o => Sys2Proof.Machine.execAgreeCyc c o s
  | .gtbrd c o => Sys2Proof.Machine.execGtbrd c o s
  | .gtbrdX c o => Sys2Proof.Machine.execGtbrdX c o s
  | .evpost c o => Sys2Proof.Machine.execEvpost c o s
  | .claimReadInner c o => Sys2Proof.Machine.execClaimReadInner c o s
  | .claimReadOuter c o => Sys2Proof.Machine.execClaimReadOuter c o s
  | .interruptTake c => Sys2Proof.Machine.execInterruptTake c s
  | .timerCompareMatch c => Sys2Proof.Machine.execTimerCompareMatch c s
  | .predictorFlush c o => Sys2Proof.Machine.execPredictorFlush c o s
  | .storeErrorResponse c inner addr => Sys2Proof.Machine.execStoreErrorResponse c inner addr s
  | .pairAccessRelease n agree ecc => Sys2Proof.Machine.execPairAccessRelease n agree ecc s
  | .pairLagTimeout n => Sys2Proof.Machine.execPairLagTimeout n s
  | .checkpoint n sigOk => Sys2Proof.Machine.execCheckpoint n sigOk s
  | .checkpointCommit n => Sys2Proof.Machine.execCheckpointCommit n s
  | .pairRestoreDone n crcOk => Sys2Proof.Machine.execPairRestoreDone n crcOk s
  | .pairReplayEnd n hashOk => Sys2Proof.Machine.execPairReplayEnd n hashOk s
  | .debugHalt c => Sys2Proof.Machine.execDebugHalt c s
  | .debugResume c => Sys2Proof.Machine.execDebugResume c s
  | .debugStep c => Sys2Proof.Machine.execDebugStep c s
  | .debugAbstractWrite c reg value => Sys2Proof.Machine.execDebugAbstractWrite c reg value s
  | .debugProgramBuffer c words o => Sys2Proof.Machine.execDebugProgramBuffer c words o s
  | .debugNdmreset => Sys2Proof.Machine.execDebugNdmreset s
  | .regionCtlWrite r t k v => Sys2Proof.Machine.execRegionCtlWrite r t k v s
  | .igrpWrite r k v => Sys2Proof.Machine.execIgrpWrite r k v s
  | .regionFence => Sys2Proof.Machine.execRegionFence s
  | .regionFenceComplete => Sys2Proof.Machine.execRegionFenceComplete s
  | .scrubLine envm e => Sys2Proof.Machine.execScrubLine envm e s
  | .worldWatchdogExpiry h => Sys2Proof.Machine.execWorldWatchdogExpiry h s
  | .watchdogKick h r => Sys2Proof.Machine.execWatchdogKick h r s
  | .innerWorldRestartBegin h => Sys2Proof.Machine.execInnerWorldRestartBegin h s
  | .innerWorldRestartComplete h => Sys2Proof.Machine.execInnerWorldRestartComplete h s
  | .vimCreate idx => Sys2Proof.Machine.execVimCreate idx s
  | .vimAttach idx kind slot => Sys2Proof.Machine.execVimAttach idx kind slot s
  | .vimDetach idx kind slot => Sys2Proof.Machine.execVimDetach idx kind slot s
  | .vimQuiesce idx => Sys2Proof.Machine.execVimQuiesce idx s
  | .vimQuiesceComplete idx expired => Sys2Proof.Machine.execVimQuiesceComplete idx expired s
  | .vimResume idx => Sys2Proof.Machine.execVimResume idx s
  | .vimReset idx => Sys2Proof.Machine.execVimReset idx s
  | .vimMigrate idx bind fn => Sys2Proof.Machine.execVimMigrate idx bind fn s
  | .vimTakedown idx => Sys2Proof.Machine.execVimTakedown idx s
  | .vimGenChangeDue idx => Sys2Proof.Machine.execVimGenChangeDue idx s
  | .vimMapWrite addr value => Sys2Proof.Machine.execVimMapWrite addr value s
  | .viTenantReset idx => Sys2Proof.Machine.execViTenantReset idx s
  | .viResetComplete idx => Sys2Proof.Machine.execViResetComplete idx s
  | .viDoorbell idx rx slot tail => Sys2Proof.Machine.execViDoorbell idx rx slot tail s
  | .viTxFrame idx slot parity => Sys2Proof.Machine.execViTxFrame idx slot parity s
  | .viRxDeliver p parity => Sys2Proof.Machine.execViRxDeliver p parity s
  | .viBucketRefill idx => Sys2Proof.Machine.execViBucketRefill idx s
  | .mbxClaim m r => Sys2Proof.Machine.execMbxClaim m r s
  | .mbxGo m r op => Sys2Proof.Machine.execMbxGo m r op s
  | .mbxRelease m r => Sys2Proof.Machine.execMbxRelease m r s
  | .mbxReclaimTimeout m => Sys2Proof.Machine.execMbxReclaimTimeout m s
  | .mbxCommandComplete => Sys2Proof.Machine.execMbxCommandComplete s
  | .getInfo m => Sys2Proof.Machine.execGetInfo m s
  | .getBootstat m => Sys2Proof.Machine.execGetBootstat m s
  | .echo m => Sys2Proof.Machine.execEcho m s
  | .provDevid m secret attest devId => Sys2Proof.Machine.execProvDevid m secret attest devId s
  | .lcAdvance m => Sys2Proof.Machine.execLcAdvance m s
  | .lcReturn m => Sys2Proof.Machine.execLcReturn m s
  | .lcEnd m => Sys2Proof.Machine.execLcEnd m s
  | .lcChallenge m nonce => Sys2Proof.Machine.execLcChallenge m nonce s
  | .nonceExpiry => Sys2Proof.Machine.execNonceExpiry s
  | .dbgUnlock m => Sys2Proof.Machine.execDbgUnlock m s
  | .provRootkey m => Sys2Proof.Machine.execProvRootkey m s
  | .keyRevoke m => Sys2Proof.Machine.execKeyRevoke m s
  | .measRead m => Sys2Proof.Machine.execMeasRead m s
  | .measExtend m => Sys2Proof.Machine.execMeasExtend m s
  | .quote m => Sys2Proof.Machine.execQuote m s
  | .getCert m => Sys2Proof.Machine.execGetCert m s
  | .verifyImage m => Sys2Proof.Machine.execVerifyImage m s
  | .updBegin m nvmOk => Sys2Proof.Machine.execUpdBegin m nvmOk s
  | .updWrite m nvmOk => Sys2Proof.Machine.execUpdWrite m nvmOk s
  | .updFromXspi m data nvmOk => Sys2Proof.Machine.execUpdFromXspi m data nvmOk s
  | .updVerify m bad => Sys2Proof.Machine.execUpdVerify m bad s
  | .updActivate m => Sys2Proof.Machine.execUpdActivate m s
  | .updConfirm m => Sys2Proof.Machine.execUpdConfirm m s
  | .updRevert m => Sys2Proof.Machine.execUpdRevert m s
  | .cfgRead m => Sys2Proof.Machine.execCfgRead m s
  | .cfgWrite m nvmOk => Sys2Proof.Machine.execCfgWrite m nvmOk s
  | .envmRefresh m corrected ecc nvmOk => Sys2Proof.Machine.execEnvmRefresh m corrected ecc nvmOk s
  | .persistRead m => Sys2Proof.Machine.execPersistRead m s
  | .persistClear m => Sys2Proof.Machine.execPersistClear m s
  | .handover m late => Sys2Proof.Machine.execHandover m late s
  | .innerRestart m => Sys2Proof.Machine.execInnerRestart m s
  | .resetReq m => Sys2Proof.Machine.execResetReq m s
  | .stRun m flaky bad ok sig => Sys2Proof.Machine.execStRun m flaky bad ok sig s
  | .scanEnable m => Sys2Proof.Machine.execScanEnable m s
  | .keyWrap m => Sys2Proof.Machine.execKeyWrap m s
  | .keyUnwrap m => Sys2Proof.Machine.execKeyUnwrap m s
  | .rng m bytes => Sys2Proof.Machine.execRng m bytes s
  | .xspiInit m found => Sys2Proof.Machine.execXspiInit m found s
  | .xspiRead m data => Sys2Proof.Machine.execXspiRead m data s
  | .xspiProgram m ok => Sys2Proof.Machine.execXspiProgram m ok s
  | .xspiErase m ok => Sys2Proof.Machine.execXspiErase m ok s
  | .xspiEraseDone => Sys2Proof.Machine.execXspiEraseDone s
  | .secureBoot bad us => Sys2Proof.Machine.execSecureBoot bad us s
  | .vbatValid => Sys2Proof.Machine.execVbatValid s
  | .vbatLoss => Sys2Proof.Machine.execVbatLoss s
  | .vbatLow v => Sys2Proof.Machine.execVbatLow v s
  | .vbatHigh v => Sys2Proof.Machine.execVbatHigh v s
  | .vbatNormal v => Sys2Proof.Machine.execVbatNormal v s
  | .domainOff d => Sys2Proof.Machine.execDomainOff d s
  | .domainOn d failed cals => Sys2Proof.Machine.execDomainOn d failed cals s
  | .vcoreThermalStep tj => Sys2Proof.Machine.execVcoreThermalStep tj s
  | .backupToVbak => Sys2Proof.Machine.execBackupToVbak s
  | .backupToVbat => Sys2Proof.Machine.execBackupToVbat s
  | .backupContinuityLoss mv => Sys2Proof.Machine.execBackupContinuityLoss mv s
  | .backupPor => Sys2Proof.Machine.execBackupPor s
  | .backupGtbRecord mv crcOk => Sys2Proof.Machine.execBackupGtbRecord mv crcOk s
  | .powerOnReset src => Sys2Proof.Machine.execPowerOnReset src s
  | .vddCoreCollapse => Sys2Proof.Machine.execVddCoreCollapse s
  | .coldReset src => Sys2Proof.Machine.execColdReset src s
  | .warmReset src => Sys2Proof.Machine.execWarmReset src s
  | .resetPinAssert => Sys2Proof.Machine.execResetPinAssert s
  | .resetPinRelease => Sys2Proof.Machine.execResetPinRelease s
  | .blockReset => Sys2Proof.Machine.execBlockReset s
  | .blockIdleReached => Sys2Proof.Machine.execBlockIdleReached s
  | .blockIdleTimeout => Sys2Proof.Machine.execBlockIdleTimeout s
  | .calibrationDone item ok cal => Sys2Proof.Machine.execCalibrationDone item ok cal s
  | .canReady t => Sys2Proof.Machine.execCanReady t s
  | .fullyReady t peer => Sys2Proof.Machine.execFullyReady t peer s
  | .steConditionCheck rcOk => Sys2Proof.Machine.execSteConditionCheck rcOk s
  | .steSliceStart u => Sys2Proof.Machine.execSteSliceStart u s
  | .steSliceEnd u ok => Sys2Proof.Machine.execSteSliceEnd u ok s
  | .powerupTestDone item e => Sys2Proof.Machine.execPowerupTestDone item e s
  | .externalTripBallChange idx level => Sys2Proof.Machine.execExternalTripBallChange idx level s
  | .sdfFastTripRelease m levels parity => Sys2Proof.Machine.execSdfFastTripRelease m levels parity s
  | .sdfClockReturn m => Sys2Proof.Machine.execSdfClockReturn m s
  | .canRxError c lec data inc => Sys2Proof.Machine.execCanRxError c lec data inc s
  | .canProtocolException c => Sys2Proof.Machine.execCanProtocolException c s
  | .canIntegrationDone c => Sys2Proof.Machine.execCanIntegrationDone c s
  | .canBusReleaseEnd c => Sys2Proof.Machine.execCanBusReleaseEnd c s
  | .linTxdTimeout l => Sys2Proof.Machine.execLinTxdTimeout l s
  | .vbakLow v => Sys2Proof.Machine.execVbakLow v s

end Sys2Proof.Machine
end

