-- ==== Sys2Proof/Machine/Tick.lean ====
section
/-! DEFINITION. What happens where no command waits: one 4 ns tick of the module's clocks (R40, R295, R361, R375, R564; log entry 1). -/

namespace Sys2Proof.Machine

open Sys2Proof

/-- A merged PCIe write that has waited 50 ns leaves (R361). -/
def State.mergeAged (s : State) : State :=
  match s.pcie.merge with
  | some (_, _, _, _, t) => if t + 50 ≤ s.pow.elapsed then s.pcieFlush else s
  | none => s

/-- One tick of 4 ns: the GTB and mcycle count while the mixed-signal die runs, the reference clock while the core die runs,
and the elapsed time always. A pulse of a ball GTB_OUT0 to GTB_OUT3 and the sending of a frame
end at their tick (R66, R235). -/
def State.tick (s : State) : State :=
  let s1 := if s.pow.msUp then s.gtbTick.outEnds else s
  let count (p : Nat × Core) : Nat × Core := (p.1, p.2.tick)
  let s2 : State := if s.alive && s.pow.msUp then { s1 with core := ⟨s1.core.cells.map count⟩ } else s1
  let s3 : State := if s.alive then { s2 with pow := { s2.pow with refNs := s2.pow.refNs + 4 } } else s2
  (State.mergeAged { s3 with pow := { s3.pow with elapsed := s3.pow.elapsed + 4 } }).ethEnds

end Sys2Proof.Machine
end

