-- ==== Sys2Proof/Safety.lean ====
section
/-! DEFINITION. The predicates in which the statements speak. -/

namespace Sys2Proof.Machine

open Sys2Proof

/-- Engine `x.e` issues the instruction of kind `k` with word `w`: it leads its context and runs, its fetch is clean, its IMEM holds `w` at the PC, `w` is an
instruction, and neither a delay slot nor a loop end forbids the kind (R136, R146, R153, R156, R170). -/
def tgReady (x : TgAt) (w : Nat) (k : TgKind) (s : State) : Bool :=
  let g := s.tg.get x.e
  s.tgLead x.e == x.e.val && g.run && x.fetch == .clean && tgLegal w && s.tgFetch x.e == w &&
  !((g.lastLevel g.pc).isSome && (k == .branch || k == .stop || g.ds.isSome)) && !(g.ds.isSome && k != .plain)

/-! ### Commands of the mailbox (R503, R504, R508) -/

/-- Compass has run a command: the state the command leaves, with its results and ERR kept for the completion. -/
def CmdRes.answer (r : CmdRes) : State := { r.s with cmp := { r.s.cmp with res := some (r.res, r.err) } }

/-- In `s` the first queued command is channel `m`'s with opcode `op`, Compass takes it up with state `t`, the life cycle is one of `mask`, and the caller is one that the
row admits. -/
abbrev compassRuns (s : State) (m op mask : Nat) (inner recov : Bool) (t : State) : Prop :=
  s.takeUp m op = some t ∧ t.lcOk mask = true ∧ t.callerOk m inner recov = true

/-- The same for a command that programs eNVM or commits the key store: VBAT is not low (R532). -/
abbrev compassRunsNv (s : State) (m op mask : Nat) (inner recov : Bool) (t : State) : Prop :=
  compassRuns s m op mask inner recov t ∧ t.on PWR_STAT_VBATLO = false

/-- A token in the buffer of channel `m` has been accepted: the nonce that it carries is spent (R514). -/
def State.tokenSpent (s : State) (m : Nat) : State :=
  { s with cmp := { s.cmp with nonce := if s.cmp.nonce == some (s.bytes (s.bufAddr m + 0x18) 32) then none else s.cmp.nonce } }

/-- A token in the buffer of channel `m` has failed: its nonce is spent, the failure is counted, and source 301 is raised (R514). -/
def State.tokenFailed (s : State) (m op : Nat) : State :=
  State.raise { s.tokenSpent m with cmp := { (s.tokenSpent m).cmp with fails := s.cmp.fails + 1 } } 301 op

/-! ### Instructions of the application cores (R371) -/

/-- The instruction that core `c` fetches where it runs unpaired and its fetch succeeds, with the state after the fetch. -/
def rvFetched (c : Nat) (o : RvObs) (s : State) : Option (RvWord × State) :=
  if s.joined c || !s.rvReady c then none
  else match rvWord c o s with
    | .ok x t => if (t.core.get c).pbuf != [] || t.joined c then none else some (x, t)
    | .error _ _ => none

/-- The address of the next instruction where a fetched instruction of an unpaired core runs to its end without a trap, with the state it leaves. -/
def rvRan (c : Nat) (x : RvWord) (o : RvObs) (t : State) : Option (Nat × State) :=
  match rvRun c x o t with
  | .ok npc u => if u.joined c then none else some (npc, u)
  | .error _ _ => none

/-- The trap that a fetched instruction of an unpaired core ends in, with the state at the trap. -/
def rvTraps (c : Nat) (x : RvWord) (o : RvObs) (t : State) : Option (Trap × State) :=
  match rvRun c x o t with
  | .error (.trap tr) u => if u.joined c then none else some (tr, u)
  | _ => none

/-- A register that an access of 32 bits reads or writes by itself: in no mailbox, region checker, lookup window, Ethernet port, CAN controller or gateway table, no command
of a switch channel, and carried by the part. -/
def plainReg (p : Part) (a : Nat) : Bool :=
  within a 0x4000_0000 0x800_0000 && !pscAbsent p a && !within a 0x4000_8000 0x1000 && !within a 0x4008_0000 0x1_2000 &&
  !(within a 0x4200_0000 0x2800 && a % 0x100 == 0) && !within a 0x4301_0000 0x4_0000 && !within a 0x4310_0000 0x1_6000 && !within a 0x4400_0000 0x10_0000 &&
  (gwCommitOf a).isNone

/-- A whole access to a register that its checker admits (R11, R440, R447). -/
def State.regOpen (s : State) (r : Req) (acc : AccKind) (a size : Nat) : Bool :=
  s.alive && within a 0x4000_0000 0x800_0000 && regForm acc a size && oneGranule a size && s.portReach r a && (s.checkReq a r acc).isNone

/-- The core translates nothing: M-mode, or no virtual mode with satp bare (R371). -/
def Core.bare (k : Core) : Bool := k.priv == 3 || (!k.virt && k.cs 0x180 / 2 ^ 60 == 0)

/-- An access at address `a` of core `c` that no check turns away, in cacheable memory: PMP, the copy of its world, the checker (R374, R376, R377, R447). -/
def State.reaches (s : State) (c : Nat) (m : Mem) (acc : AccKind) (a : Nat) : Bool :=
  let k := s.core.get c
  k.pmpOk m k.priv a && (attrOf a).cached && !s.copyDenies c a acc && s.portReach (s.coreReq c) a && (s.checkReq a (s.coreReq c) acc).isNone

/-- No trigger of core `c` matches an access at `a` (R373). -/
def Core.unwatched (k : Core) (m : Mem) (a : Nat) : Bool := !(List.range 4).any (fun i => k.trigHit i m a)

/-- Core `c` executes the 32-bit instruction `w` next: it is ready, unpaired or the lead of a pair that runs and has used its journal and the debugger's actions up,
translates nothing, no trigger matches, both halves of `w` stand at its pc in memory that it may fetch from, and no error meets the fetch. -/
def State.rvAt (s : State) (c w : Nat) (o : RvObs) : Bool :=
  let k := s.core.get c
  (!s.joined c || (s.isLead c && (s.pst (c / 2) == 1 || s.pst (c / 2) == 4) && (s.jNext c).isNone && ((s.pair.get (c / 2)).dbg[k.dpos]?).isNone && !o.upset)) &&
  s.rvReady c && k.pbuf == [] && k.bare && k.unwatched .fetch k.pc && decide (k.pc + 2 < 2 ^ 64) && s.reaches c .fetch .fetch k.pc &&
  s.reaches c .fetch .fetch (k.pc + 2) && !o.fetchBad && !o.fetchParity && s.load k.pc 2 + s.load (k.pc + 2) 2 * 2 ^ 16 == w && w % 4 == 3

/-- Core `c` may access the data at `a`, aligned, in SRAM, without translation, trigger or error (R371, R374, R376, R377). -/
def State.dataAt (s : State) (c : Nat) (m : Mem) (acc : AccKind) (a n : Nat) (o : RvObs) : Bool :=
  let k := s.core.get c
  !(k.priv == 3 && bitOf (k.cs 0x300) 17) && k.bare && k.unwatched m a && a % n == 0 && attrOf a == .sram && s.reaches c m acc a && !o.dataBad && !o.parity

/-- The value that core `c` takes as agreed: the lead of a pair records it in the journal (R409, R410). -/
def State.agreedTo (s : State) (c kind size addr : Nat) (value : Nat) : State :=
  if s.joined c then
    (s.jrnPut (c / 2) { kind := kind, size := size, addr := addr, value := value, seq := (s.core.get c).seq }).coreSet c (fun k => { k with jpos := k.jpos + 1 })
  else s

/-- What MRET makes of a core (R394, R395): MIE takes MPIE, MPIE 1, MPP and MPV 0, and below M-mode MPRV 0; privilege and V come from MPP and MPV. -/
def Core.afterMret (k : Core) : Core :=
  let ms := k.cs 0x300
  let mpp := bf ms 11 2
  let ms1 := putBf (putBf (putBf (putBf ms 3 1 (bf ms 7 1)) 7 1 1) 11 2 0) 39 1 0
  { (k.setCs 0x300 (if mpp = 3 then ms1 else putBf ms1 17 1 0)) with priv := mpp, virt := bitOf ms 39 && mpp != 3 }

/-! ### What a command can change -/

/-- The pieces of the state that a command may change; the queue and the part are not among them. -/
inductive Piece where
  /-- The register file. -/
  | regs
  /-- Held low words of pairs. -/
  | held
  /-- Read latches. -/
  | latch
  /-- The memories. -/
  | mem
  /-- The time base. -/
  | gtb
  /-- Arrivals that a firing, an edge or an event makes due. -/
  | due
  /-- The event router. -/
  | evr
  /-- The converters. -/
  | conv
  /-- The Tangram engines. -/
  | tg
  /-- The switch channels and their dies. -/
  | psc
  /-- The Rhomboid switch. -/
  | esw
  /-- The CAN controllers. -/
  | can
  /-- The LIN channels. -/
  | lin
  /-- Carousel. -/
  | crs
  /-- The gateway. -/
  | gw
  /-- The PCIe bridge. -/
  | pcie
  /-- The application cores. -/
  | core
  /-- The pairs. -/
  | pair
  /-- The patrol scrubber. -/
  | scrub
  /-- The virtual instances. -/
  | vi
  /-- The start of the manager command that runs. -/
  | vimStart
  /-- Compass with its key store. -/
  | cmp
  /-- Power, reset and start-up. -/
  | pow
  /-- The self-test engine. -/
  | ste
  /-- The Inner interrupt files. -/
  | irqInner
  /-- The Outer interrupt files. -/
  | irqOuter
  /-- What the module has sent. -/
  | out
  /-- The draws of free values. -/
  | free
  deriving DecidableEq, Repr

/-- Two states agree in a piece. -/
def Piece.same : Piece → State → State → Prop
  | .regs, s, t => s.regs = t.regs
  | .held, s, t => s.held = t.held
  | .latch, s, t => s.latch = t.latch
  | .mem, s, t => s.mem = t.mem
  | .gtb, s, t => s.gtb = t.gtb
  | .due, s, t => s.due = t.due
  | .evr, s, t => s.evr = t.evr
  | .conv, s, t => s.conv = t.conv
  | .tg, s, t => s.tg = t.tg
  | .psc, s, t => s.psc = t.psc
  | .esw, s, t => s.esw = t.esw
  | .can, s, t => s.can = t.can
  | .lin, s, t => s.lin = t.lin
  | .crs, s, t => s.crs = t.crs
  | .gw, s, t => s.gw = t.gw
  | .pcie, s, t => s.pcie = t.pcie
  | .core, s, t => s.core = t.core
  | .pair, s, t => s.pair = t.pair
  | .scrub, s, t => s.scrub = t.scrub
  | .vi, s, t => s.vi = t.vi
  | .vimStart, s, t => s.vimStart = t.vimStart
  | .cmp, s, t => s.cmp = t.cmp
  | .pow, s, t => s.pow = t.pow
  | .ste, s, t => s.ste = t.ste
  | .irqInner, s, t => s.irqInner = t.irqInner
  | .irqOuter, s, t => s.irqOuter = t.irqOuter
  | .out, s, t => s.out = t.out
  | .free, s, t => s.free = t.free

/-- The pieces that a command may change: the block that it acts on, the registers, and, where it may raise an event, what an event reaches: the event router,
the MSI-X pages of the instances with the reservations on them, and what is sent. -/
def touched : Instr → List Piece
  | .registerWrite .. | .readClear .. | .pairLowWordRead .. | .fabricRequest .. | .pcieInboundRequest .. | .pairAccessRelease .. => [.regs, .held, .latch, .mem, .gtb, .due, .evr, .conv, .tg, .psc, .esw, .can, .lin, .crs, .gw, .pcie, .core, .pair, .vi, .vimStart, .cmp, .pow, .out, .free]
  | .commandLinkHeartbeat .. | .powerDieHoldLeave .. | .pscCommandApply .. | .pscAckTimeout .. | .pscOvercurrent .. | .pscShortCircuit ..
  | .pscGroupOvertemp .. | .i2tUpdate .. | .pscClampEvent .. | .offstateCheckStart .. | .offstateCheckSettled .. | .onstateOpenLoad .. | .pscShed ..
  | .pscRestore .. | .pscMirrorLoad .. | .feedRestart .. | .feedUndervoltage .. | .feedOvervoltage .. => [.regs, .mem, .due, .evr, .psc, .core, .out]
  | .powerDieHoldEnter .. | .pscAckReceive .. | .pscSample .. | .pscRangeSwitch .. | .pscRetryDue .. | .pscRetryRestore .. | .feedPowerOnReset .. => [.regs, .psc]
  | .supplyLinkHeartbeat => [.regs, .pow, .out]
  | .interfaceHeartbeatLoss => [.regs, .mem, .due, .evr, .esw, .can, .crs, .pcie, .core, .pair, .vi, .cmp, .pow, .out, .free]
  | .controlLaneIdleHandshake => [.conv, .out]
  | .controlLaneLoss | .refMonitorCompare .. | .adcSequenceStart .. | .adcStart .. | .adcSlotComplete .. | .adcGroupStart .. | .adcGroupStartWrite ..
  | .adcSetComplete .. | .adcRingWrite .. | .sdfClockLoss .. | .comparatorTrip .. | .comparatorRelease .. | .blankingEnd .. | .pwmPeriodStart ..
  | .pwmSync .. | .pwmSwtrip .. | .pwmGtrip | .pwmEnableWrite .. | .externalTripBallChange .. => [.regs, .mem, .due, .evr, .conv, .core, .out]
  | .coreSupplyLapse | .logRecordWrite .. | .traceRecordHandoff | .tgPairWrite .. | .tgMoveGo .. | .pscRecordWrite .. | .pinRevertComplete ..
  | .canBusoffRecovered .. | .busWakeDetect .. | .zoneOkRequest | .zoneOkDrop | .zoneOkWatchdog | .gwFenceComplete | .pcieVfEnable .. | .pcieRetrain
  | .igrpWrite .. | .watchdogKick .. | .canRxError .. | .canProtocolException .. | .linTxdTimeout .. => [.regs, .mem, .due, .evr, .core, .out]
  | .vcoreMeasure .. | .snapshotTake | .alarmAck .. | .refMismatchClear | .tgMoveFreeze .. | .tgMoveFwdClear .. | .canBusoffRecover .. | .gwFence
  | .regionFence | .regionFenceComplete | .backupToVbat | .backupContinuityLoss .. | .canIntegrationDone .. => [.regs]
  | .xtalFallback => [.regs, .mem, .gtb, .due, .evr, .esw, .can, .crs, .pcie, .core, .pair, .vi, .cmp, .out, .free]
  | .msSupplyLoss | .msSupplyReturn .. | .domainOff .. | .blockIdleReached | .blockIdleTimeout => [.regs, .held, .mem, .gtb, .due, .evr, .conv, .tg, .psc, .esw, .can, .lin, .crs, .gw, .pcie, .core, .pair, .vi, .cmp, .pow, .out, .free]
  | .mirrorFrameSend => [.pow, .out]
  | .mirrorFrameReceive .. => [.regs, .held, .mem, .gtb, .due, .evr, .conv, .tg, .psc, .esw, .can, .lin, .crs, .gw, .pcie, .core, .pair, .vi, .vimStart, .cmp, .pow, .out, .free]
  | .mirrorTimeout | .takeover | .powerupTestDone .. => [.regs, .mem, .due, .evr, .conv, .esw, .can, .core, .pow, .out]
  | .takeoverPwmEnable .. => [.due, .conv, .pow, .out]
  | .twinHandoff | .resetPinRelease => [.pow]
  | .slewStart | .slewComplete => [.gtb]
  | .gtbStep => [.regs, .mem, .gtb, .due, .evr, .esw, .core, .out]
  | .syncReceive .. | .syncRelay .. | .syncTransmit .. | .pdelayReqTransmit .. | .pdelayReceive .. => [.regs, .mem, .gtb, .due, .evr, .esw, .core, .out, .free]
  | .syncTimeout .. | .gtbDomainWrite .. | .triggerCompareWrite .. | .triggerCtlWrite .. => [.regs, .mem, .gtb, .due, .evr, .core, .out]
  | .triggerFire .. => [.regs, .gtb, .due, .out]
  | .captureEdge .. => [.regs, .gtb, .due, .evr]
  | .capturePop .. => [.regs, .gtb]
  | .eventEnterEvr => [.evr]
  | .eventRelease .. | .lateEventRelease .. => [.regs, .mem, .due, .evr, .core, .irqInner, .irqOuter, .out]
  | .adcFreerunWrite .. | .pwmCommit .. => [.regs, .conv]
  | .adcWordDeliver .. => [.regs, .mem, .due, .evr, .conv, .tg, .core, .out]
  | .sdfResult .. | .sdfFastTrip .. | .sdfFastTripRelease .. => [.regs, .mem, .due, .evr, .conv, .tg, .core, .out, .free]
  | .sdfWindowRestart .. => [.due, .conv]
  | .pwmMidPeriod .. | .pwmEdge .. | .pwmSetLoad .. | .pwmForceWrite .. => [.regs, .due, .conv, .out]
  | .pwmTripclr .. | .sdfClockReturn .. => [.conv]
  | .tgDmemWrite .. | .tgOccurrence .. | .tgSwdisp .. | .tgMoveComplete .. => [.regs, .mem, .due, .evr, .tg, .core, .out]
  | .tgDispatch .. => [.regs, .mem, .tg, .core]
  | .tgAdd .. | .tgSub .. | .tgAnd .. | .tgOr .. | .tgXor .. | .tgShl .. | .tgShr .. | .tgSra .. | .tgShli .. | .tgShri .. | .tgSrai .. | .tgMin ..
  | .tgMax .. | .tgMinu .. | .tgMaxu .. | .tgClamp .. | .tgAbs .. | .tgSlt .. | .tgSltu .. | .tgClz .. | .tgMul .. | .tgMulh .. | .tgMulhu ..
  | .tgDiv .. | .tgDivu .. | .tgRem .. | .tgRemu .. | .tgMacq .. | .tgMsuq .. | .tgMulq .. | .tgMaci .. | .tgAclr .. | .tgAcld .. | .tgAcsr ..
  | .tgSatq .. | .tgSati .. | .tgPiu .. | .tgFadd .. | .tgFsub .. | .tgFmul .. | .tgFma .. | .tgFdiv .. | .tgFsqrt .. | .tgFmin .. | .tgFmax ..
  | .tgFabs .. | .tgFneg .. | .tgFeq .. | .tgFlt .. | .tgFle .. | .tgFcvtws .. | .tgFcvtsw .. | .tgFcvtqs .. | .tgFcvtsq .. | .tgEret .. | .tgMfs ..
  | .tgMts .. | .tgEvp .. | .tgJr .. | .tgAddi .. | .tgAndi .. | .tgOri .. | .tgXori .. | .tgLui .. | .tgSlti .. | .tgLw .. | .tgLh .. | .tgLhu ..
  | .tgLacc .. | .tgSw .. | .tgSh .. | .tgSacc .. | .tgStc .. | .tgStcc .. | .tgBeq .. | .tgBne .. | .tgBlt .. | .tgBge .. | .tgBltu .. | .tgBgeu ..
  | .tgJmp .. | .tgCall .. | .tgLoop .. | .tgLoopi .. | .tgSetm .. | .tgEnd .. | .tgBrk .. => [.regs, .mem, .due, .evr, .conv, .tg, .core, .vi, .pow, .out, .free]
  | .tgLdc .. => [.regs, .latch, .mem, .due, .evr, .conv, .tg, .core, .vi, .pow, .out, .free]
  | .tgSeal .. => [.regs, .held, .mem, .due, .evr, .conv, .tg, .core, .vi, .pow, .out]
  | .tgSkewTimeout .. => [.regs, .mem, .due, .evr, .conv, .tg, .core, .vi, .pow, .out]
  | .tgDeadlineExpiry .. => [.regs, .mem, .due, .evr, .tg, .core, .pow, .out]
  | .tgPairSyncDone .. => [.regs, .mem, .tg]
  | .pscOn .. | .pscOff .. | .pscPwm .. | .pscClear .. | .pscOlcheck .. => [.regs, .held, .latch, .mem, .gtb, .due, .evr, .conv, .tg, .psc, .esw, .can, .lin, .crs, .pcie, .core, .pair, .vi, .vimStart, .cmp, .pow, .out, .free]
  | .pscPwmPeriod .. => [.psc]
  | .portLinkDown .. | .portHoldExpiry .. | .portDisable .. | .plcaBeaconTimeout .. | .gateListChange .. | .streamGateListChange .. | .fdbRead
  | .fdbWrite | .fdbDelete | .fdbFlush | .fdbInvcache | .fdbFence | .fdbCommandComplete | .frerRecoveryReset .. | .sampleRecordWrite .. => [.regs, .mem, .due, .evr, .esw, .core, .out]
  | .portLinkUp .. | .plcaBeacon .. => [.regs, .mem, .due, .evr, .esw, .crs, .core, .out]
  | .frameReceive .. => [.regs, .mem, .due, .evr, .esw, .crs, .gw, .core, .out, .free]
  | .frameTransmit .. => [.regs, .mem, .gtb, .due, .evr, .esw, .gw, .core, .out, .free]
  | .internalIngressResume .. => [.regs, .mem, .due, .evr, .esw, .can, .crs, .gw, .pcie, .core, .vi, .cmp, .out, .free]
  | .gateEntryAdvance .. => [.regs, .esw]
  | .gclChangeWrite .. | .streamGateChangeWrite .. | .fdbAgeSweep | .pinRevert .. => [.regs, .esw, .out]
  | .streamGateEntryAdvance .. => []
  | .fdbWindowWrite .. => [.regs, .held, .out]
  | .fdbCacheExpiry .. => [.esw]
  | .canStart .. | .canArbitrationStart .. | .canLomApply .. => [.regs, .can]
  | .canFrameValid .. => [.regs, .mem, .due, .evr, .can, .crs, .core, .out, .free]
  | .canObjectWrite .. | .canTxSuccess .. | .canTxError .. | .canArbitrationLost .. | .canAbort .. | .canTxdTimeout .. => [.regs, .mem, .due, .evr, .can, .core, .out]
  | .canTxreq .. => [.regs, .out]
  | .canCorrelation .. => [.regs, .due]
  | .transceiverOvertemp .. => [.regs, .mem, .due, .evr, .can, .lin, .core, .out]
  | .transceiverOvertempEnd .. => [.can, .lin]
  | .linSlotStart .. | .linHeaderReceive .. | .prepareExpiry => [.regs, .lin, .out]
  | .linResponseComplete .. | .wakeWindowExpiry => [.regs, .mem, .due, .evr, .lin, .crs, .core, .out]
  | .linResponseTimeout .. => [.regs, .mem, .due, .evr, .lin, .core, .out]
  | .linWakePulse .. | .pciePfMsix .. => [.out]
  | .carouselEnable | .carouselMessageReceive .. | .carouselRelay .. | .carouselSend .. | .carouselFormTimeout .. | .consentWrite .. => [.regs, .mem, .due, .evr, .esw, .crs, .core, .out, .free]
  | .carouselSlotTimeout .. | .keeperLimit .. => [.regs, .mem, .due, .evr, .crs, .core, .out]
  | .sleepTransceiversOff => [.regs, .mem, .due, .evr, .esw, .lin, .crs, .core, .out]
  | .sleepCorePowerOff | .wakeReport .. | .debugNdmreset | .mbxCommandComplete | .resetReq .. | .vbatValid | .powerOnReset .. | .coldReset ..
  | .warmReset .. | .resetPinAssert => [.regs, .held, .latch, .mem, .gtb, .due, .evr, .conv, .tg, .psc, .esw, .can, .lin, .crs, .gw, .pcie, .core, .pair, .vi, .vimStart, .cmp, .pow, .ste, .irqInner, .irqOuter, .out]
  | .gwPduReceive .. => [.regs, .mem, .due, .evr, .lin, .gw, .core, .out]
  | .gwPduProcess | .gwPduForm | .gwSinkReady .. => [.regs, .mem, .due, .evr, .gw, .core, .out, .free]
  | .gwLayoutCyclicDue .. | .gwMingapExpiry .. => [.regs, .mem, .due, .evr, .gw, .core, .out]
  | .tableEntryCommitWrite .. => [.regs, .gw]
  | .pcieOutboundRequest .. => [.regs, .mem, .due, .evr, .pcie, .core, .out]
  | .pcieCompletion .. | .pcieCompletionTimeout .. | .pcieLinkDown .. => [.regs, .mem, .due, .evr, .esw, .can, .crs, .pcie, .core, .pair, .vi, .cmp, .out, .free]
  | .pcieLinkUp .. | .vbatLow .. | .vbatHigh .. | .vbatNormal .. | .vcoreThermalStep .. | .backupToVbak | .backupPor | .canReady .. | .vbakLow .. => [.regs, .mem, .due, .evr, .core, .pow, .out]
  | .pcieFunctionLevelReset .. | .viTenantReset .. | .viDoorbell .. => [.regs, .mem, .due, .evr, .can, .core, .vi, .cmp, .out]
  | .pciePerst .. => [.regs, .held, .mem, .due, .evr, .esw, .can, .crs, .pcie, .core, .pair, .vi, .cmp, .pow, .out, .free]
  | .rvInstruction .. | .mret .. | .wcall .. | .ckpt .. | .agreeLd .. | .agreeRnd .. | .agreeCyc .. | .gtbrd .. | .gtbrdX .. | .evpost ..
  | .claimReadInner .. | .claimReadOuter .. | .predictorFlush .. | .debugProgramBuffer .. => [.regs, .held, .latch, .mem, .gtb, .due, .evr, .conv, .tg, .psc, .esw, .can, .lin, .crs, .gw, .pcie, .core, .pair, .vi, .vimStart, .cmp, .pow, .irqInner, .irqOuter, .out, .free]
  | .interruptTake .. | .storeErrorResponse .. => [.regs, .mem, .due, .evr, .core, .pair, .out]
  | .timerCompareMatch .. | .checkpointCommit .. => [.regs, .core, .pair]
  | .pairLagTimeout .. | .checkpoint .. | .pairRestoreDone .. | .pairReplayEnd .. => [.regs, .mem, .due, .evr, .pcie, .core, .pair, .out]
  | .debugHalt .. | .debugResume .. | .debugStep .. | .debugAbstractWrite .. => [.regs, .core, .pair, .out]
  | .regionCtlWrite .. => [.regs, .held, .mem, .due, .evr, .core, .out]
  | .scrubLine .. => [.regs, .mem, .due, .evr, .core, .scrub, .out]
  | .worldWatchdogExpiry .. | .nonceExpiry | .xspiEraseDone => [.cmp]
  | .innerWorldRestartBegin .. | .innerWorldRestartComplete .. | .innerRestart .. => [.regs, .mem, .due, .evr, .pcie, .core, .pair, .cmp, .out]
  | .vimCreate .. | .vimAttach .. | .vimDetach .. | .vimQuiesce .. | .vimResume .. | .vimReset .. | .vimMigrate .. | .vimTakedown .. | .vimMapWrite .. => [.regs, .held, .mem, .due, .evr, .can, .core, .vi, .vimStart, .cmp, .out]
  | .vimQuiesceComplete .. | .vimGenChangeDue .. => [.regs, .held, .mem, .due, .evr, .can, .core, .vi, .cmp, .out]
  | .viResetComplete .. => [.regs, .held, .mem, .due, .evr, .conv, .tg, .can, .core, .vi, .cmp, .out]
  | .viTxFrame .. | .viRxDeliver .. | .viBucketRefill .. => [.regs, .mem, .due, .evr, .esw, .can, .crs, .pcie, .core, .vi, .cmp, .out, .free]
  | .mbxClaim .. | .mbxGo .. | .mbxRelease .. | .getInfo .. | .getBootstat .. | .echo .. | .lcChallenge .. | .provRootkey .. | .measExtend ..
  | .verifyImage .. | .cfgRead .. => [.regs, .cmp]
  | .mbxReclaimTimeout .. | .provDevid .. | .lcAdvance .. | .lcReturn .. | .lcEnd .. | .dbgUnlock .. | .keyRevoke .. | .updBegin .. | .updVerify ..
  | .updActivate .. | .updConfirm .. | .updRevert .. | .envmRefresh .. => [.regs, .mem, .due, .evr, .core, .cmp, .out]
  | .measRead .. | .getCert .. | .updWrite .. | .updFromXspi .. | .cfgWrite .. | .persistRead .. | .keyWrap .. | .keyUnwrap .. | .rng .. => [.regs, .mem, .core, .cmp]
  | .quote .. => [.regs, .mem, .core, .cmp, .free]
  | .persistClear .. => [.regs, .evr, .cmp]
  | .handover .. => [.regs, .held, .mem, .gtb, .due, .evr, .conv, .tg, .psc, .esw, .can, .lin, .crs, .gw, .pcie, .core, .pair, .vi, .cmp, .irqInner, .irqOuter, .out, .free]
  | .stRun .. => [.regs, .mem, .due, .evr, .conv, .esw, .core, .pair, .cmp, .pow, .ste, .out]
  | .scanEnable .. => [.regs, .mem, .due, .evr, .tg, .core, .cmp, .pow, .out]
  | .xspiInit .. | .xspiProgram .. | .xspiErase .. => [.regs, .cmp, .out]
  | .xspiRead .. => [.regs, .mem, .core, .cmp, .out]
  | .secureBoot .. => [.regs, .mem, .due, .evr, .conv, .esw, .crs, .pcie, .core, .pair, .cmp, .pow, .out, .free]
  | .vbatLoss | .calibrationDone .. => [.regs, .mem, .due, .evr, .conv, .esw, .core, .pow, .out]
  | .domainOn .. => [.regs, .held, .mem, .gtb, .due, .evr, .conv, .tg, .psc, .esw, .can, .lin, .crs, .gw, .pcie, .core, .pair, .vi, .cmp, .out, .free]
  | .backupGtbRecord .. => [.regs, .evr, .pow]
  | .vddCoreCollapse => [.regs, .held, .latch, .mem, .due, .evr, .tg, .psc, .esw, .can, .lin, .crs, .gw, .pcie, .core, .pair, .vi, .vimStart, .cmp, .pow, .ste, .irqInner, .irqOuter, .out]
  | .blockReset => [.regs, .pow]
  | .fullyReady .. => [.regs, .mem, .due, .evr, .conv, .core, .pow, .out]
  | .steConditionCheck .. => [.regs, .mem, .due, .evr, .core, .pair, .ste, .out]
  | .steSliceStart .. => [.regs, .core, .pair, .ste]
  | .steSliceEnd .. => [.regs, .mem, .due, .evr, .core, .pair, .pow, .ste, .out]
  | .canBusReleaseEnd .. => [.can]

/-- Whether a command may write memory below the instance pages, itself or by what it sets off: those that move data, and those that run an instruction, a
request, a reset or a Compass command with a buffer. -/
def writesMemory : Instr → Bool
  | .registerWrite .. | .readClear .. | .pairLowWordRead .. | .fabricRequest .. | .interfaceHeartbeatLoss | .xtalFallback | .msSupplyLoss
  | .msSupplyReturn .. | .mirrorFrameReceive .. | .logRecordWrite .. | .adcWordDeliver .. | .adcRingWrite .. | .sdfResult .. | .sdfFastTrip ..
  | .tgDmemWrite .. | .tgDispatch .. | .tgAdd .. | .tgSub .. | .tgAnd .. | .tgOr .. | .tgXor .. | .tgShl .. | .tgShr .. | .tgSra .. | .tgShli ..
  | .tgShri .. | .tgSrai .. | .tgMin .. | .tgMax .. | .tgMinu .. | .tgMaxu .. | .tgClamp .. | .tgAbs .. | .tgSlt .. | .tgSltu .. | .tgClz ..
  | .tgMul .. | .tgMulh .. | .tgMulhu .. | .tgDiv .. | .tgDivu .. | .tgRem .. | .tgRemu .. | .tgMacq .. | .tgMsuq .. | .tgMulq .. | .tgMaci ..
  | .tgAclr .. | .tgAcld .. | .tgAcsr .. | .tgSatq .. | .tgSati .. | .tgPiu .. | .tgFadd .. | .tgFsub .. | .tgFmul .. | .tgFma .. | .tgFdiv ..
  | .tgFsqrt .. | .tgFmin .. | .tgFmax .. | .tgFabs .. | .tgFneg .. | .tgFeq .. | .tgFlt .. | .tgFle .. | .tgFcvtws .. | .tgFcvtsw .. | .tgFcvtqs ..
  | .tgFcvtsq .. | .tgEret .. | .tgMfs .. | .tgMts .. | .tgEvp .. | .tgJr .. | .tgAddi .. | .tgAndi .. | .tgOri .. | .tgXori .. | .tgLui ..
  | .tgSlti .. | .tgLw .. | .tgLh .. | .tgLhu .. | .tgLacc .. | .tgSw .. | .tgSh .. | .tgSacc .. | .tgLdc .. | .tgStc .. | .tgStcc .. | .tgBeq ..
  | .tgBne .. | .tgBlt .. | .tgBge .. | .tgBltu .. | .tgBgeu .. | .tgJmp .. | .tgCall .. | .tgLoop .. | .tgLoopi .. | .tgSetm .. | .tgEnd ..
  | .tgBrk .. | .tgSeal .. | .tgSkewTimeout .. | .tgDeadlineExpiry .. | .tgPairSyncDone .. | .tgMoveComplete .. | .pscOn .. | .pscOff .. | .pscPwm ..
  | .pscClear .. | .pscOlcheck .. | .pscRecordWrite .. | .internalIngressResume .. | .sampleRecordWrite .. | .canObjectWrite .. | .carouselEnable
  | .carouselMessageReceive .. | .carouselRelay .. | .carouselSend .. | .carouselFormTimeout .. | .consentWrite .. | .sleepCorePowerOff
  | .wakeReport .. | .gwPduProcess | .gwPduForm | .gwSinkReady .. | .pcieInboundRequest .. | .pcieCompletion .. | .pcieCompletionTimeout ..
  | .pcieLinkDown .. | .pciePerst .. | .rvInstruction .. | .mret .. | .wcall .. | .ckpt .. | .agreeLd .. | .agreeRnd .. | .agreeCyc .. | .gtbrd ..
  | .gtbrdX .. | .evpost .. | .claimReadInner .. | .claimReadOuter .. | .predictorFlush .. | .pairAccessRelease .. | .debugProgramBuffer ..
  | .debugNdmreset | .innerWorldRestartBegin .. | .innerWorldRestartComplete .. | .vimCreate .. | .vimAttach .. | .vimDetach .. | .vimQuiesce ..
  | .vimQuiesceComplete .. | .vimResume .. | .vimReset .. | .vimMigrate .. | .vimTakedown .. | .vimGenChangeDue .. | .vimMapWrite ..
  | .viResetComplete .. | .viTxFrame .. | .viRxDeliver .. | .viBucketRefill .. | .mbxCommandComplete | .lcAdvance .. | .lcReturn .. | .lcEnd ..
  | .measRead .. | .quote .. | .getCert .. | .updBegin .. | .updWrite .. | .updFromXspi .. | .cfgWrite .. | .persistRead .. | .handover ..
  | .innerRestart .. | .resetReq .. | .scanEnable .. | .keyWrap .. | .keyUnwrap .. | .rng .. | .xspiRead .. | .secureBoot .. | .vbatValid
  | .domainOff .. | .domainOn .. | .powerOnReset .. | .vddCoreCollapse | .coldReset .. | .warmReset .. | .resetPinAssert | .blockIdleReached
  | .blockIdleTimeout | .sdfFastTripRelease .. => true
  | _ => false

/-- Whether the part carries the instance that a command acts on (R2, R3). -/
def carried (q : Part) : Instr → Bool
  | .commandLinkHeartbeat f _ _ => hasDie q f
  | .powerDieHoldEnter f => hasDie q f
  | .powerDieHoldLeave f => hasDie q f
  | .takeoverPwmEnable j => decide (j.val < nPwm q)
  | .syncReceive _ p _ => hasPort q p
  | .pdelayReqTransmit p => hasPort q p
  | .pdelayReceive p _ => hasPort q p
  | .adcFreerunWrite n _ _ => decide (n.val < nAdc q)
  | .comparatorTrip k _ => decide (k.val < nCmp q)
  | .comparatorRelease k _ => decide (k.val < nCmp q)
  | .blankingEnd k => decide (k.val < nCmp q)
  | .pwmCommit j => decide (j.val < nPwm q)
  | .pwmSwtrip j => decide (j.val < nPwm q)
  | .pwmTripclr j => decide (j.val < nPwm q)
  | .pwmEnableWrite j _ _ => decide (j.val < nPwm q)
  | .pwmForceWrite j _ _ => decide (j.val < nPwm q)
  | .tgDmemWrite e _ _ _ => decide (e.val < nTg q)
  | .tgSwdisp e _ => decide (e.val < nTg q)
  | .tgPairWrite e _ => decide (e.val < nTg q)
  | .tgMoveGo e _ => decide (e.val < nTg q)
  | .tgMoveFwdClear e => decide (e.val < nTg q)
  | .pscCommandApply f _ _ => hasDie q f
  | .pscAckReceive f _ => hasDie q f
  | .pscAckTimeout f => hasDie q f
  | .pscSample m => sampleCarried q m
  | .pscRangeSwitch n => hasPsc q n
  | .pscOvercurrent n _ => hasPsc q n
  | .pscShortCircuit n => hasPsc q n
  | .pscGroupOvertemp g _ => hasPsc q (4 * g)
  | .i2tUpdate n _ => hasPsc q n
  | .pscRetryDue n => hasPsc q n
  | .pscRetryRestore n => hasPsc q n
  | .pscClampEvent n => hasPsc q n
  | .pscPwmPeriod n _ => hasPsc q n
  | .offstateCheckStart n _ _ => hasPsc q n
  | .offstateCheckSettled n _ => hasPsc q n
  | .onstateOpenLoad n _ => hasPsc q n
  | .pscShed f _ => hasDie q f
  | .pscRestore f => hasDie q f
  | .pscMirrorLoad f => hasDie q f
  | .feedPowerOnReset f => hasDie q f
  | .feedRestart f => hasDie q f
  | .feedUndervoltage f _ => hasDie q f
  | .feedOvervoltage f _ => hasDie q f
  | .portLinkDown p => hasPort q p
  | .portLinkUp p _ _ => hasPort q p
  | .portHoldExpiry p => hasPort q p
  | .portDisable p => (decide (18 ≤ p.val) || hasPort q p)
  | .plcaBeaconTimeout p => hasPort q (12 + p)
  | .plcaBeacon p => hasPort q (12 + p)
  | .frameReceive p _ => (decide (18 ≤ p.val) || hasPort q p)
  | .frameTransmit p => (decide (18 ≤ p.val) || hasPort q p)
  | .gateEntryAdvance p => hasPort q p
  | .gclChangeWrite p => hasPort q p
  | .gateListChange p => hasPort q p
  | .canStart c => decide (c.val < nCan q)
  | .canTxreq c _ => decide (c.val < nCan q)
  | .canAbort c _ => decide (c.val < nCan q)
  | .canLomApply c => decide (c.val < nCan q)
  | .canTxdTimeout c => decide (c.val < nCan q)
  | .canCorrelation c _ => decide (c.val < nCan q)
  | .busWakeDetect b => busCarried q b
  | .transceiverOvertemp b => busCarried q b
  | .transceiverOvertempEnd b => busCarried q b
  | .pcieFunctionLevelReset f => !decide (pcieVfs q < f.val)
  | .checkpoint n _ => decide (n.val < nPair q)
  | .watchdogKick h _ => decide (h.val < 2 * nPair q)
  | .viTenantReset i => decide (i.val < nVi q)
  | .viDoorbell i _ _ _ => decide (i.val < nVi q)
  | .viBucketRefill i => decide (i.val < nVi q)
  | .sdfClockReturn m => decide (m.val < nSdf q)
  | .canBusReleaseEnd c => decide (c.val < nCan q)
  | .linTxdTimeout l => decide (l.val < nLin q)
  | .registerWrite .. | .readClear .. | .pairLowWordRead .. | .fabricRequest .. | .supplyLinkHeartbeat | .interfaceHeartbeatLoss
  | .controlLaneIdleHandshake | .controlLaneLoss | .coreSupplyLapse | .vcoreMeasure .. | .xtalFallback | .msSupplyLoss | .msSupplyReturn ..
  | .mirrorFrameSend | .mirrorFrameReceive .. | .mirrorTimeout | .takeover | .twinHandoff | .slewStart | .slewComplete | .gtbStep | .snapshotTake
  | .syncRelay .. | .syncTransmit .. | .syncTimeout .. | .gtbDomainWrite .. | .triggerFire .. | .triggerCompareWrite .. | .triggerCtlWrite ..
  | .captureEdge .. | .capturePop .. | .eventEnterEvr | .eventRelease .. | .lateEventRelease .. | .logRecordWrite .. | .traceRecordHandoff
  | .alarmAck .. | .refMonitorCompare .. | .refMismatchClear | .adcSequenceStart .. | .adcStart .. | .adcSlotComplete .. | .adcGroupStart ..
  | .adcGroupStartWrite .. | .adcWordDeliver .. | .adcSetComplete .. | .adcRingWrite .. | .sdfResult .. | .sdfWindowRestart .. | .sdfFastTrip ..
  | .sdfClockLoss .. | .pwmPeriodStart .. | .pwmMidPeriod .. | .pwmEdge .. | .pwmSync .. | .pwmSetLoad .. | .pwmGtrip | .tgOccurrence ..
  | .tgDispatch .. | .tgAdd .. | .tgSub .. | .tgAnd .. | .tgOr .. | .tgXor .. | .tgShl .. | .tgShr .. | .tgSra .. | .tgShli .. | .tgShri ..
  | .tgSrai .. | .tgMin .. | .tgMax .. | .tgMinu .. | .tgMaxu .. | .tgClamp .. | .tgAbs .. | .tgSlt .. | .tgSltu .. | .tgClz .. | .tgMul ..
  | .tgMulh .. | .tgMulhu .. | .tgDiv .. | .tgDivu .. | .tgRem .. | .tgRemu .. | .tgMacq .. | .tgMsuq .. | .tgMulq .. | .tgMaci .. | .tgAclr ..
  | .tgAcld .. | .tgAcsr .. | .tgSatq .. | .tgSati .. | .tgPiu .. | .tgFadd .. | .tgFsub .. | .tgFmul .. | .tgFma .. | .tgFdiv .. | .tgFsqrt ..
  | .tgFmin .. | .tgFmax .. | .tgFabs .. | .tgFneg .. | .tgFeq .. | .tgFlt .. | .tgFle .. | .tgFcvtws .. | .tgFcvtsw .. | .tgFcvtqs .. | .tgFcvtsq ..
  | .tgEret .. | .tgMfs .. | .tgMts .. | .tgEvp .. | .tgJr .. | .tgAddi .. | .tgAndi .. | .tgOri .. | .tgXori .. | .tgLui .. | .tgSlti .. | .tgLw ..
  | .tgLh .. | .tgLhu .. | .tgLacc .. | .tgSw .. | .tgSh .. | .tgSacc .. | .tgLdc .. | .tgStc .. | .tgStcc .. | .tgBeq .. | .tgBne .. | .tgBlt ..
  | .tgBge .. | .tgBltu .. | .tgBgeu .. | .tgJmp .. | .tgCall .. | .tgLoop .. | .tgLoopi .. | .tgSetm .. | .tgEnd .. | .tgBrk .. | .tgSeal ..
  | .tgSkewTimeout .. | .tgDeadlineExpiry .. | .tgPairSyncDone .. | .tgMoveFreeze .. | .tgMoveComplete .. | .pscOn .. | .pscOff .. | .pscPwm ..
  | .pscClear .. | .pscOlcheck .. | .pscRecordWrite .. | .internalIngressResume .. | .streamGateChangeWrite .. | .streamGateListChange ..
  | .streamGateEntryAdvance .. | .fdbRead | .fdbWrite | .fdbDelete | .fdbFlush | .fdbInvcache | .fdbFence | .fdbCommandComplete | .fdbWindowWrite ..
  | .fdbCacheExpiry .. | .fdbAgeSweep | .pinRevert .. | .pinRevertComplete .. | .frerRecoveryReset .. | .sampleRecordWrite .. | .canFrameValid ..
  | .canObjectWrite .. | .canArbitrationStart .. | .canTxSuccess .. | .canTxError .. | .canArbitrationLost .. | .canBusoffRecover ..
  | .canBusoffRecovered .. | .linSlotStart .. | .linHeaderReceive .. | .linResponseComplete .. | .linResponseTimeout .. | .linWakePulse ..
  | .carouselEnable | .carouselMessageReceive .. | .carouselRelay .. | .carouselSend .. | .carouselSlotTimeout .. | .carouselFormTimeout ..
  | .consentWrite .. | .keeperLimit .. | .prepareExpiry | .sleepTransceiversOff | .sleepCorePowerOff | .wakeReport .. | .wakeWindowExpiry
  | .zoneOkRequest | .zoneOkDrop | .zoneOkWatchdog | .gwPduReceive .. | .gwPduProcess | .gwLayoutCyclicDue .. | .gwMingapExpiry .. | .gwPduForm
  | .gwSinkReady .. | .gwFence | .gwFenceComplete | .tableEntryCommitWrite .. | .pcieInboundRequest .. | .pcieOutboundRequest .. | .pcieCompletion ..
  | .pcieCompletionTimeout .. | .pcieLinkUp .. | .pcieLinkDown .. | .pcieVfEnable .. | .pciePerst .. | .pcieRetrain | .pciePfMsix ..
  | .rvInstruction .. | .mret .. | .wcall .. | .ckpt .. | .agreeLd .. | .agreeRnd .. | .agreeCyc .. | .gtbrd .. | .gtbrdX .. | .evpost ..
  | .claimReadInner .. | .claimReadOuter .. | .interruptTake .. | .timerCompareMatch .. | .predictorFlush .. | .storeErrorResponse ..
  | .pairAccessRelease .. | .pairLagTimeout .. | .checkpointCommit .. | .pairRestoreDone .. | .pairReplayEnd .. | .debugHalt .. | .debugResume ..
  | .debugStep .. | .debugAbstractWrite .. | .debugProgramBuffer .. | .debugNdmreset | .regionCtlWrite .. | .igrpWrite .. | .regionFence
  | .regionFenceComplete | .scrubLine .. | .worldWatchdogExpiry .. | .innerWorldRestartBegin .. | .innerWorldRestartComplete .. | .vimCreate ..
  | .vimAttach .. | .vimDetach .. | .vimQuiesce .. | .vimQuiesceComplete .. | .vimResume .. | .vimReset .. | .vimMigrate .. | .vimTakedown ..
  | .vimGenChangeDue .. | .vimMapWrite .. | .viResetComplete .. | .viTxFrame .. | .viRxDeliver .. | .mbxClaim .. | .mbxGo .. | .mbxRelease ..
  | .mbxReclaimTimeout .. | .mbxCommandComplete | .getInfo .. | .getBootstat .. | .echo .. | .provDevid .. | .lcAdvance .. | .lcReturn .. | .lcEnd ..
  | .lcChallenge .. | .nonceExpiry | .dbgUnlock .. | .provRootkey .. | .keyRevoke .. | .measRead .. | .measExtend .. | .quote .. | .getCert ..
  | .verifyImage .. | .updBegin .. | .updWrite .. | .updFromXspi .. | .updVerify .. | .updActivate .. | .updConfirm .. | .updRevert .. | .cfgRead ..
  | .cfgWrite .. | .envmRefresh .. | .persistRead .. | .persistClear .. | .handover .. | .innerRestart .. | .resetReq .. | .stRun .. | .scanEnable ..
  | .keyWrap .. | .keyUnwrap .. | .rng .. | .xspiInit .. | .xspiRead .. | .xspiProgram .. | .xspiErase .. | .xspiEraseDone | .secureBoot ..
  | .vbatValid | .vbatLoss | .vbatLow .. | .vbatHigh .. | .vbatNormal .. | .domainOff .. | .domainOn .. | .vcoreThermalStep .. | .backupToVbak
  | .backupToVbat | .backupContinuityLoss .. | .backupPor | .backupGtbRecord .. | .powerOnReset .. | .vddCoreCollapse | .coldReset .. | .warmReset ..
  | .resetPinAssert | .resetPinRelease | .blockReset | .blockIdleReached | .blockIdleTimeout | .calibrationDone .. | .canReady .. | .fullyReady ..
  | .steConditionCheck .. | .steSliceStart .. | .steSliceEnd .. | .powerupTestDone .. | .externalTripBallChange .. | .sdfFastTripRelease ..
  | .canRxError .. | .canProtocolException .. | .canIntegrationDone .. | .vbakLow .. => true

/-! ### The command table (R510) -/

/-- A row of the command table: the channel, the opcode, the life-cycle states as a mask over the codes of R512, and whether an Inner caller, and a caller in
recovery mode, may give it. -/
structure MbxRow where
  m : Nat
  op : Nat
  mask : Nat
  inner : Bool
  recov : Bool
  deriving DecidableEq, Repr

/-- The row of a command of Compass (R510). -/
def mbxRow (p : Part) : Instr → Option MbxRow
  | .getInfo m => some ⟨m, 0x01, 0x3F, false, false⟩
  | .getBootstat m => some ⟨m, 0x02, 0x1E, false, false⟩
  | .echo m => some ⟨m, 0x03, 0x3F, false, false⟩
  | .provDevid m _ _ _ => some ⟨m, 0x10, 0x01, false, true⟩
  | .lcAdvance m => some ⟨m, 0x11, 0x06, true, true⟩
  | .lcReturn m => some ⟨m, 0x12, 0x0C, true, true⟩
  | .lcEnd m => some ⟨m, 0x13, 0x1F, true, true⟩
  | .lcChallenge m _ => some ⟨m, 0x14, 0x1E, false, false⟩
  | .dbgUnlock m => some ⟨m, 0x15, 0x08, true, true⟩
  | .provRootkey m => some ⟨m, 0x16, 0x04, true, true⟩
  | .keyRevoke m => some ⟨m, 0x17, 0x0C, true, true⟩
  | .measRead m => some ⟨m, 0x20, 0x1E, false, false⟩
  | .measExtend m => some ⟨m, 0x21, 0x1E, true, false⟩
  | .quote m => some ⟨m, 0x22, 0x1C, false, false⟩
  | .getCert m => some ⟨m, 0x23, 0x1C, false, false⟩
  | .verifyImage m => some ⟨m, 0x24, 0x1C, false, false⟩
  | .updBegin m _ => some ⟨m, 0x30, 0x0C, true, true⟩
  | .updWrite m _ => some ⟨m, 0x31, 0x0C, true, true⟩
  | .updFromXspi m _ _ => some ⟨m, 0x32, 0x0C, true, true⟩
  | .updVerify m _ => some ⟨m, 0x33, 0x0C, true, true⟩
  | .updActivate m => some ⟨m, 0x34, 0x0C, true, true⟩
  | .updConfirm m => some ⟨m, 0x35, 0x0C, true, false⟩
  | .updRevert m => some ⟨m, 0x36, 0x0C, true, true⟩
  | .cfgRead m => some ⟨m, 0x40, 0x1E, true, false⟩
  | .cfgWrite m _ => some ⟨m, 0x41, 0x1E, true, false⟩
  | .envmRefresh m _ _ _ => some ⟨m, 0x42, 0x1E, true, false⟩
  | .persistRead m => some ⟨m, 0x43, 0x1E, true, false⟩
  | .persistClear m => some ⟨m, 0x44, 0x1E, true, false⟩
  | .handover m _ => some ⟨m, 0x50, 0x1E, false, false⟩
  | .innerRestart m => some ⟨m, 0x51, 0x1E, true, false⟩
  | .resetReq m => some ⟨m, 0x52, 0x1F, true, true⟩
  | .stRun m _ _ _ _ => some ⟨m, 0x53, 0x1E, true, false⟩
  | .scanEnable m => some ⟨m, 0x54, if isTwin p then 0x12 else 0x16, true, true⟩
  | .keyWrap m => some ⟨m, 0x60, 0x1C, false, false⟩
  | .keyUnwrap m => some ⟨m, 0x61, 0x1C, false, false⟩
  | .rng m _ => some ⟨m, 0x62, 0x1E, false, false⟩
  | .xspiInit m _ => some ⟨m, 0x70, 0x1E, true, true⟩
  | .xspiRead m _ => some ⟨m, 0x71, 0x1E, true, true⟩
  | .xspiProgram m _ => some ⟨m, 0x72, 0x1E, true, true⟩
  | .xspiErase m _ => some ⟨m, 0x73, 0x1E, true, true⟩
  | _ => none

/-- An ST_RUN of a slice that is in a slice already waits for its end (R570). -/
def stWaits (s : State) : Instr → Bool
  | .stRun m _ _ _ _ => s.arg m 0 == 1 && s.inSlice (s.arg m 1)
  | _ => false

end Sys2Proof.Machine
end

