-- ==== Sys2Proof/Certificates/Slice0/Obligations.lean ====
section
/-! DEFINITION. The statements of this model, for the provers. -/

open Sys2Proof
open Sys2Proof.Machine

/-- Heartbeats, the control lane, the core supply and the crystal act as the module rules say. Rules: R19, R20, R21, R25, R26, R34. -/
def Obligations.ModuleLinks : Prop :=
  (∀ (s : State), s.coreRuns = true →
      s.pow.coreBeat = true →
      exec .supplyLinkHeartbeat s = .next (s.emit (.link "SUPPLY_HEARTBEAT" []))) ∧
  (∀ (s : State), s.coreRuns = true →
      s.pow.coreBeat = false →
      exec .supplyLinkHeartbeat s = .next (State.forceTrx { s.emit (.link "SUPPLY_HEARTBEAT" []) with pow := { s.pow with coreBeat := true } } false).readyBall) ∧
  (∀ (s : State), s.pow.coreBeat = true →
      exec .interfaceHeartbeatLoss s = .next s.beatLost) ∧
  (∀ (s : State), s.coreRuns = true →
      exec .controlLaneIdleHandshake s = .next (State.emit { s with conv := { s.conv with laneLost := false } } (.link "LANE_IDLE" []))) ∧
  (∀ (s : State), (List.range 24).any (fun j => s.on (PWM_CTL_EN j)) = true →
      s.conv.laneLost = false →
      exec .controlLaneLoss s = .next (State.tripAll { s with conv := { s.conv with laneLost := true } } 34)) ∧
  (∀ (s : State), exec .coreSupplyLapse s = .next (((s.set SYS_CORESTAT_LAPSE 1).set SYS_CORESTAT_BELOW 1).raise 4 (s.get SYS_CORESTAT_VCORE))) ∧
  (∀ (v : Nat) (s : State), v < 690 →
      exec (.vcoreMeasure v) s = .next ((s.set SYS_CORESTAT_VCORE (min 255 ((v - 600) / 2))).set SYS_CORESTAT_BELOW 1)) ∧
  (∀ (v : Nat) (s : State), 690 ≤ v →
      exec (.vcoreMeasure v) s = .next ((s.set SYS_CORESTAT_VCORE (min 255 ((v - 600) / 2))).set SYS_CORESTAT_BELOW 0)) ∧
  (∀ (s : State), s.gtb.rc = false →
      (State.each ((State.set (State.set { s with gtb := { s.gtb with rc := true } } SYS_CLKSTAT_XTAL_OK 0) SYS_CLKSTAT_FALLBACK 1).raise 5 0) (List.range 18) (fun t p => t.linkDown p)).on PCIE_STAT_LINKUP = false →
      exec .xtalFallback s = .next (State.each ((State.set (State.set { s with gtb := { s.gtb with rc := true } } SYS_CLKSTAT_XTAL_OK 0) SYS_CLKSTAT_FALLBACK 1).raise 5 0) (List.range 18) (fun t p => t.linkDown p)).enterHoldover.refreshQual) ∧
  (∀ (s : State), s.gtb.rc = false →
      (State.each ((State.set (State.set { s with gtb := { s.gtb with rc := true } } SYS_CLKSTAT_XTAL_OK 0) SYS_CLKSTAT_FALLBACK 1).raise 5 0) (List.range 18) (fun t p => t.linkDown p)).on PCIE_STAT_LINKUP = true →
      exec .xtalFallback s = .next (State.each ((State.set (State.set { s with gtb := { s.gtb with rc := true } } SYS_CLKSTAT_XTAL_OK 0) SYS_CLKSTAT_FALLBACK 1).raise 5 0) (List.range 18) (fun t p => t.linkDown p)).linkLost.enterHoldover.refreshQual) ∧
  (∀ (s : State), s.pow.msUp = true →
      ∃ t, exec .msSupplyLoss s = .next t ∧ t.pow.msUp = false) ∧
  (∀ (s : State), s.pow.msUp = false →
      exec .msSupplyLoss s = .next s)

/-- The twin: mirror frames, takeover and handoff. Rules: R35, R36, R38. Where a clause rests on a reading or a choice of the model and not on the words of a rule: log entries 34, 106, 121, 134. -/
def Obligations.TwinLink : Prop :=
  (∀ (s : State), s.part = .twinA →
      s.alive = true →
      s.twinCause ≠ 0 →
      exec .mirrorFrameSend s = .next { s.emit (.link "MIRROR_FRAME" [s.twinCause]) with pow := { s.pow with twin := clrBit s.pow.twin s.twinCause, handed := s.pow.handed || s.twinCause == 3 } }) ∧
  (∀ (s : State), s.part = .twinA →
      s.alive = true →
      s.twinCause = 0 →
      exec .mirrorFrameSend s = .next (s.emit (.link "MIRROR_FRAME" [0]))) ∧
  (∀ (c : Fin 4) (items : List MirrorItem) (s : State), s.part = .twinB →
      s.alive = true →
      c.val = 0 →
      (s.set SYS_TWIN_MIRROR_OK 1).get SYS_TWIN_ROLE = 2 →
      exec (.mirrorFrameReceive c items) s = .next ((s.set SYS_TWIN_MIRROR_OK 1).each items State.twinItem)) ∧
  (∀ (c : Fin 4) (items : List MirrorItem) (s : State), s.part = .twinB →
      s.alive = true →
      c.val ≠ 0 →
      (s.set SYS_TWIN_MIRROR_OK 1).get SYS_TWIN_ROLE ≠ 2 →
      exec (.mirrorFrameReceive c items) s = .next ((s.set SYS_TWIN_MIRROR_OK 1).takeOver (c.val == 3))) ∧
  (∀ (s : State), s.part = .twinB →
      exec .mirrorTimeout s = .next (s.set SYS_TWIN_MIRROR_OK 0).takeOver) ∧
  (∀ (s : State), s.part ≠ .twinB →
      exec .mirrorTimeout s = .next s) ∧
  (∀ (s : State), exec .takeover s = .next s.takeOver) ∧
  (∀ (j : Fin 24) (s : State), bitOf s.pow.takeover j = true →
      decide (j.val < nPwm s.part) = true →
      exec (.takeoverPwmEnable j) s = .next (State.pwmDrive { s with pow := { s.pow with takeover := putBit s.pow.takeover j false, cut := if s.part = .twinA then putBit s.pow.cut j true else s.pow.cut } } j)) ∧
  (∀ (j : Fin 24) (s : State), bitOf s.pow.takeover j = false →
      decide (j.val < nPwm s.part) = true →
      exec (.takeoverPwmEnable j) s = .next s) ∧
  (∀ (s : State), s.get SYS_TWIN_ROLE = 1 →
      exec .twinHandoff s = .next (State.twinReport { s with pow := { s.pow with handWait := (s.protectedPairs.filter (fun e => s.on (TG_STAT_BUSY e))).foldl Machine.setBit 0 } } 3)) ∧
  (∀ (s : State), s.get SYS_TWIN_ROLE ≠ 1 →
      exec .twinHandoff s = .next s)

/-- Trigger comparators and capture units. Rules: R53, R56, R57, R59, R60, R66. Where a clause rests on a reading or a choice of the model and not on the words of a rule: log entries 39, 113. -/
def Obligations.GtbTriggers : Prop :=
  (∀ (n : Fin 64) (s : State), s.on (GTB_TRGCTL_EN n) = true →
      s.trgCmp n ≤ s.now256 →
      exec (.triggerFire n) s = .next (s.fire n)) ∧
  (∀ (n : Fin 64) (s : State), s.on (GTB_TRGCTL_EN n) = false ∨ s.now256 < s.trgCmp n →
      exec (.triggerFire n) s = .next s) ∧
  (∀ (n : Fin 64) (v : Nat) (s : State), (s.set (GTB_TRGCMP_CMP n) v).on (GTB_TRGCTL_EN n) = false ∨ s.now256 < (s.set (GTB_TRGCMP_CMP n) v).trgCmp n →
      exec (.triggerCompareWrite n v) s = .next (s.set (GTB_TRGCMP_CMP n) v)) ∧
  (∀ (n : Fin 64) (v : Nat) (s : State), (s.set (GTB_TRGCMP_CMP n) v).on (GTB_TRGCTL_EN n) = true →
      (s.set (GTB_TRGCMP_CMP n) v).trgCmp n ≤ s.now256 →
      exec (.triggerCompareWrite n v) s = .next ((s.set (GTB_TRGCMP_CMP n) v).fireLate n)) ∧
  (∀ (n : Fin 64) (v : Nat) (s : State), (State.arm ((((((s.set (GTB_TRGCTL_EN n) (bf v 31 1)).set (GTB_TRGCTL_PERIODIC n) (bf v 30 1)).set (GTB_TRGCTL_STEPFOLLOW n) (bf v 29 1)).set (GTB_TRGCTL_OUTEN n) (bf v 18 1)).set (GTB_TRGCTL_OUT n) (bf v 16 2)).set (GTB_TRGCTL_PULSE n) (bf v 0 16)) n).on (GTB_TRGCTL_EN n) = false ∨ s.on (GTB_TRGCTL_EN n) = true ∨ (State.arm ((((((s.set (GTB_TRGCTL_EN n) (bf v 31 1)).set (GTB_TRGCTL_PERIODIC n) (bf v 30 1)).set (GTB_TRGCTL_STEPFOLLOW n) (bf v 29 1)).set (GTB_TRGCTL_OUTEN n) (bf v 18 1)).set (GTB_TRGCTL_OUT n) (bf v 16 2)).set (GTB_TRGCTL_PULSE n) (bf v 0 16)) n).now256 < (State.arm ((((((s.set (GTB_TRGCTL_EN n) (bf v 31 1)).set (GTB_TRGCTL_PERIODIC n) (bf v 30 1)).set (GTB_TRGCTL_STEPFOLLOW n) (bf v 29 1)).set (GTB_TRGCTL_OUTEN n) (bf v 18 1)).set (GTB_TRGCTL_OUT n) (bf v 16 2)).set (GTB_TRGCTL_PULSE n) (bf v 0 16)) n).trgCmp n →
      exec (.triggerCtlWrite n v) s = .next (State.arm ((((((s.set (GTB_TRGCTL_EN n) (bf v 31 1)).set (GTB_TRGCTL_PERIODIC n) (bf v 30 1)).set (GTB_TRGCTL_STEPFOLLOW n) (bf v 29 1)).set (GTB_TRGCTL_OUTEN n) (bf v 18 1)).set (GTB_TRGCTL_OUT n) (bf v 16 2)).set (GTB_TRGCTL_PULSE n) (bf v 0 16)) n)) ∧
  (∀ (n : Fin 64) (v : Nat) (s : State), s.on (GTB_TRGCTL_EN n) = false →
      (State.arm ((((((s.set (GTB_TRGCTL_EN n) (bf v 31 1)).set (GTB_TRGCTL_PERIODIC n) (bf v 30 1)).set (GTB_TRGCTL_STEPFOLLOW n) (bf v 29 1)).set (GTB_TRGCTL_OUTEN n) (bf v 18 1)).set (GTB_TRGCTL_OUT n) (bf v 16 2)).set (GTB_TRGCTL_PULSE n) (bf v 0 16)) n).on (GTB_TRGCTL_EN n) = true →
      (State.arm ((((((s.set (GTB_TRGCTL_EN n) (bf v 31 1)).set (GTB_TRGCTL_PERIODIC n) (bf v 30 1)).set (GTB_TRGCTL_STEPFOLLOW n) (bf v 29 1)).set (GTB_TRGCTL_OUTEN n) (bf v 18 1)).set (GTB_TRGCTL_OUT n) (bf v 16 2)).set (GTB_TRGCTL_PULSE n) (bf v 0 16)) n).trgCmp n ≤ (State.arm ((((((s.set (GTB_TRGCTL_EN n) (bf v 31 1)).set (GTB_TRGCTL_PERIODIC n) (bf v 30 1)).set (GTB_TRGCTL_STEPFOLLOW n) (bf v 29 1)).set (GTB_TRGCTL_OUTEN n) (bf v 18 1)).set (GTB_TRGCTL_OUT n) (bf v 16 2)).set (GTB_TRGCTL_PULSE n) (bf v 0 16)) n).now256 →
      exec (.triggerCtlWrite n v) s = .next ((State.arm ((((((s.set (GTB_TRGCTL_EN n) (bf v 31 1)).set (GTB_TRGCTL_PERIODIC n) (bf v 30 1)).set (GTB_TRGCTL_STEPFOLLOW n) (bf v 29 1)).set (GTB_TRGCTL_OUTEN n) (bf v 18 1)).set (GTB_TRGCTL_OUT n) (bf v 16 2)).set (GTB_TRGCTL_PULSE n) (bf v 0 16)) n).fireLate n)) ∧
  (∀ (u : Fin 32) (rising : Bool) (at_ st : Stamp) (held : Nat) (s : State), s.get (GTB_CAPCTL_SRC u) < 8 →
      s.on (GTB_CAPCTL_EN u) = true →
      bitOf (s.get (GTB_CAPCTL_EDGE u)) (if rising then 0 else 1) = true →
      4 * s.get (GTB_CAPCTL_FILT u) ≤ held →
      st = stampOf (fineOf at_ - 256 * (4 * s.get (GTB_CAPCTL_FILT u))) →
      (s.gtb.caps.get u).length < 8 →
      exec (.captureEdge u rising at_ held) s = .next ((State.capShow { s with gtb := { s.gtb with caps := s.gtb.caps.put u (s.gtb.caps.get u ++ [{ at_ := st, rising := rising }]) } } u).raiseAt 27 u st)) ∧
  (∀ (u : Fin 32) (rising : Bool) (at_ st : Stamp) (held : Nat) (s : State), s.get (GTB_CAPCTL_SRC u) < 8 →
      s.on (GTB_CAPCTL_EN u) = true →
      bitOf (s.get (GTB_CAPCTL_EDGE u)) (if rising then 0 else 1) = true →
      4 * s.get (GTB_CAPCTL_FILT u) ≤ held →
      st = stampOf (fineOf at_ - 256 * (4 * s.get (GTB_CAPCTL_FILT u))) →
      8 ≤ (s.gtb.caps.get u).length →
      exec (.captureEdge u rising at_ held) s = .next ((s.inc (GTB_CAPSTAT_OVF u)).raiseAt 26 u st)) ∧
  (∀ (u : Fin 32) (rising b : Bool) (at_ t st : Stamp) (held k : Nat) (s v : State), 8 ≤ s.get (GTB_CAPCTL_SRC u) →
      s.arrive (isCapDue u rising) = some (.cap k b t, v) →
      s.on (GTB_CAPCTL_EN u) = true →
      st = stampOf (min (max (fineOf at_) (fineOf t - 512)) (fineOf t + 512)) →
      (v.gtb.caps.get u).length < 8 →
      exec (.captureEdge u rising at_ held) s = .next ((State.capShow { v with gtb := { v.gtb with caps := v.gtb.caps.put u (v.gtb.caps.get u ++ [{ at_ := st, rising := rising }]) } } u).raiseAt 27 u st)) ∧
  (∀ (u : Fin 32) (s : State), exec (.capturePop u) s = .next (State.capShow { s with gtb := { s.gtb with caps := s.gtb.caps.put u (s.gtb.caps.get u).tail } } u))

/-- Steps, slews, snapshots and gPTP of the global time base. Rules: R46, R47, R49, R50, R64, R65, R629. Where a clause rests on a reading or a choice of the model and not on the words of a rule: log entries 4, 7, 33, 38, 119, 120. -/
def Obligations.GtbTime : Prop :=
  (∀ (s : State), s.on GTB_CFG_SERVO = false →
      exec .gtbStep s = .next (s.gtbStep (s.getS GTB_ADJ_OFS))) ∧
  (∀ (s : State), s.on GTB_CFG_SERVO = true →
      exec .gtbStep s = .next s) ∧
  (∀ (s : State), s.on GTB_CFG_SERVO = false →
      s.getS GTB_ADJ_OFS ≠ 0 →
      exec .slewStart s = .next { s with gtb := { s.gtb with slew := s.getS GTB_ADJ_OFS * nsUnit } }) ∧
  (∀ (s : State), s.on GTB_CFG_SERVO = true ∨ s.getS GTB_ADJ_OFS = 0 →
      exec .slewStart s = .next s) ∧
  (∀ (s : State), ∃ n : Nat, exec .slewComplete s = .next { s with gtb := { s.gtb with now := gtbWrap ((s.gtb.now : Int) + (n * s.tickAdvance : Nat) + s.gtb.slew).toNat, slew := 0 } }) ∧
  (∀ (s : State), exec .snapshotTake s = .next (((s.set GTB_SNAP_NS s.nowNs).set GTB_SNAPX_QUAL (s.get GTB_STAT_QUAL)).set GTB_SNAPX_FRAC s.nowFrac)) ∧
  (∀ (d : Fin 4) (p : Fin 18) (m : SyncMsg) (s : State), s.on (GTB_DCFG_EN d) = true →
      s.get (GTB_DCFG_DOMNUM d) = m.domNum →
      s.slavePort d = some p.val →
      ((s.grandmaster d m.gm).gtb.doms.get d).last = none →
      (State.setS (State.setS { (s.grandmaster d m.gm) with gtb := { (s.grandmaster d m.gm).gtb with doms := (s.grandmaster d m.gm).gtb.doms.put d { (s.grandmaster d m.gm).gtb.doms.get d with last := some ({ m with rx := s.rxStamp p m.rx } : SyncMsg), lastPort := p, lastOfs := syncOffset ({ m with rx := s.rxStamp p m.rx } : SyncMsg) (s.gtb.ports.get p).delay, silent := false } } } (GTB_DOFS_OFS d) (syncOffset ({ m with rx := s.rxStamp p m.rx } : SyncMsg) (s.gtb.ports.get p).delay)) (GTB_DRATIO_RATIO d) 0).get GTB_CFG_DOMAIN ≠ d →
      hasPort s.part p = true →
      exec (.syncReceive d p m) s = .next ((State.setS (State.setS { (s.grandmaster d m.gm) with gtb := { (s.grandmaster d m.gm).gtb with doms := (s.grandmaster d m.gm).gtb.doms.put d { (s.grandmaster d m.gm).gtb.doms.get d with last := some ({ m with rx := s.rxStamp p m.rx } : SyncMsg), lastPort := p, lastOfs := syncOffset ({ m with rx := s.rxStamp p m.rx } : SyncMsg) (s.gtb.ports.get p).delay, silent := false } } } (GTB_DOFS_OFS d) (syncOffset ({ m with rx := s.rxStamp p m.rx } : SyncMsg) (s.gtb.ports.get p).delay)) (GTB_DRATIO_RATIO d) 0).refreshQual.refreshSlot d)) ∧
  (∀ (d : Fin 4) (p : Fin 18) (m : SyncMsg) (s : State), s.on (GTB_DCFG_EN d) = false ∨ s.get (GTB_DCFG_DOMNUM d) ≠ m.domNum ∨ s.slavePort d ≠ some p.val →
      hasPort s.part p = true →
      exec (.syncReceive d p m) s = .next s) ∧
  (∀ (d : Fin 4) (m : SyncMsg) (s : State), (s.gtb.doms.get d).last = some m →
      s.on (GTB_DCFG_EN d) = true →
      (s.slavePort d).isSome = true →
      exec (.syncRelay d) s = .next (State.each { s with gtb := { s.gtb with doms := s.gtb.doms.put d { s.gtb.doms.get d with seq := ((s.gtb.doms.get d).seq + 1) % 65536 } } } (s.masterPorts d) (fun t p => t.ptpSend p { kind := .sync, dom := d, seq := (s.gtb.doms.get d).seq, time := m.origin, corr := m.corr, since := some (m.rx.ns - (s.gtb.ports.get (s.gtb.doms.get d).lastPort).delay) }))) ∧
  (∀ (d : Fin 4) (s : State), s.on (GTB_DCFG_EN d) = true →
      s.slavePort d = none →
      exec (.syncTransmit d) s = .next ((State.each ({ s with gtb := { s.gtb with doms := s.gtb.doms.upd d (fun x => { x with seq := ((s.gtb.doms.get d).seq + 1) % 65536 }) } } : State) (({ s with gtb := { s.gtb with doms := s.gtb.doms.upd d (fun x => { x with seq := ((s.gtb.doms.get d).seq + 1) % 65536 }) } } : State).masterPorts d) (fun t p => t.ptpSend p { kind := .sync, dom := d, seq := (s.gtb.doms.get d).seq })).refreshSlot d)) ∧
  (∀ (p : Fin 18) (s : State), ptpPort p = true →
      hasPort s.part p = true →
      exec (.pdelayReqTransmit p) s = .next (State.ptpSend { s with gtb := { s.gtb with ports := s.gtb.ports.put p { s.gtb.ports.get p with seq := ((s.gtb.ports.get p).seq + 1) % 65536 } } } p { kind := .pdelayReq, seq := ((s.gtb.ports.get p).seq + 1) % 65536 })) ∧
  (∀ (p : Fin 18) (m : PdelayMsg) (s : State), ptpPort p = true →
      m.kind = .pdelayReq →
      hasPort s.part p = true →
      exec (.pdelayReceive p m) s = .next (s.ptpSend p { kind := .pdelayResp, seq := m.seq, time := (s.rxStamp p m.rx).ns })) ∧
  (∀ (p : Fin 18) (m : PdelayMsg) (s : State), ptpPort p = true →
      m.kind = .pdelayRespFollowUp →
      m.seq = (s.gtb.ports.get p).seq →
      hasPort s.part p = true →
      ∃ t, exec (.pdelayReceive p m) s = .next t ∧ (t.gtb.ports.get p).delay = ((((s.gtb.ports.get p).t4 : Int) - (s.gtb.ports.get p).t1 - (m.time - (s.gtb.ports.get p).t2)) / 2).toNat) ∧
  (∀ (d : Fin 4) (s : State), s.on (GTB_DCFG_EN d) = true →
      (s.slavePort d).isSome = true →
      s.get GTB_CFG_DOMAIN = d →
      exec (.syncTimeout d) s = .next ((((State.set { s with gtb := { s.gtb with doms := s.gtb.doms.upd d (fun x => { x with silent := true }) } } (GTB_DSTAT_SYNCTO d) 1).raise 23 d).enterHoldover).refreshSlot d)) ∧
  (∀ (d : Fin 4) (s : State), s.on (GTB_DCFG_EN d) = true →
      (s.slavePort d).isSome = true →
      s.get GTB_CFG_DOMAIN ≠ d →
      exec (.syncTimeout d) s = .next (((State.set { s with gtb := { s.gtb with doms := s.gtb.doms.upd d (fun x => { x with silent := true }) } } (GTB_DSTAT_SYNCTO d) 1).raise 23 d).refreshSlot d)) ∧
  (∀ (d : Fin 4) (s : State), exec (.gtbDomainWrite d false) s = .next ((s.set GTB_CFG_DOMAIN d).enterHoldover.refreshSlot d)) ∧
  (∀ (d : Fin 4) (s : State), s.get GTB_CFG_DOMAIN = d →
      exec (.gtbDomainWrite d true) s = .next ((s.set (GTB_DCFG_EN d) 0).enterHoldover.refreshSlot d)) ∧
  (∀ (d : Fin 4) (s : State), s.get GTB_CFG_DOMAIN ≠ d →
      exec (.gtbDomainWrite d true) s = .next ((s.set (GTB_DCFG_EN d) 0).refreshSlot d))

/-- The event router: entry, release, the log and trace paths and the alarm latch. Rules: R72, R74, R75, R77, R80, R82, R85. Where a clause rests on a reading or a choice of the model and not on the words of a rule: log entries 5, 6, 37, 100, 102, 115, 116, 117, 118. -/
def Obligations.EventRouter : Prop :=
  (∀ (e : Ev) (r : List Ev) (s : State), s.evr.entering = e :: r →
      s.nowNs ≤ e.at_.ns + 500 →
      exec .eventEnterEvr s = .next { s with evr := { s.evr with entering := r, sorted := sortIns e s.evr.sorted } }) ∧
  (∀ (e : Ev) (r : List Ev) (s : State), s.evr.entering = e :: r →
      e.at_.ns + 500 < s.nowNs →
      exec .eventEnterEvr s = .next { s with evr := { s.evr with entering := r, late := s.evr.late ++ [{ e with typ := .late }] } }) ∧
  (∀ (b : BakObs) (e : Ev) (r : List Ev) (s : State), s.evr.sorted = e :: r →
      exec (.eventRelease b) s = .next ((State.deliver { s with evr := { s.evr with sorted := r } } e).persistCommit b)) ∧
  (∀ (b : BakObs) (e : Ev) (r : List Ev) (s : State), s.evr.late = e :: r →
      exec (.lateEventRelease b) s = .next ((State.deliver { s with evr := { s.evr with late := r } } e).persistCommit b)) ∧
  (∀ (e : Ev) (r : List Ev) (a : Nat) (s : State), s.on EVR_LOGCFG_EN = true →
      s.evr.logQ = e :: r →
      ringNext (s.get EVR_LOGWR_WR % s.logRing) s.logRing ≠ s.get EVR_LOGRD_RD % s.logRing →
      a = s.get EVR_LOGBASE_BASE / 4096 * 4096 + 16 * (s.get EVR_LOGWR_WR % s.logRing) →
      s.checkReq a (ownReq 11) .write = none →
      exec (.logRecordWrite false) s = .next (((s.setBytes a (recordBytes e)).pathPop true).set EVR_LOGWR_WR (ringNext (s.get EVR_LOGWR_WR % s.logRing) s.logRing))) ∧
  (∀ (b : Bool) (s : State), s.on EVR_LOGCFG_EN = true →
      s.on EVR_LOGCFG_MODE = false →
      ringNext (s.get EVR_LOGWR_WR % s.logRing) s.logRing = s.get EVR_LOGRD_RD % s.logRing →
      exec (.logRecordWrite b) s = .next s) ∧
  (∀ (e : Ev) (r : List Ev) (s : State), s.on EVR_TRCCFG_EN = true →
      s.evr.trcQ = e :: r →
      exec .traceRecordHandoff s = .next ((s.pathPop false).emit (.link "TRACE" (recordBytes e)))) ∧
  (∀ (src count k : Nat) (s : State), s.alarmOf (src % 512) = some k →
      count % 2 ^ 16 = s.get (EVR_ALMSRC_COUNT k) →
      exec (.alarmAck src count) s = .next ((((s.set (EVR_ALMSRC_VALID k) 0).set (EVR_ALMSRC_COUNT k) 0).set EVR_ALMSTAT_USED (s.get EVR_ALMSTAT_USED - 1)).set EVR_ALMSTAT_FULL 0)) ∧
  (∀ (src count k : Nat) (s : State), s.alarmOf (src % 512) = some k →
      count % 2 ^ 16 < s.get (EVR_ALMSRC_COUNT k) →
      exec (.alarmAck src count) s = .next (s.set (EVR_ALMSRC_COUNT k) (s.get (EVR_ALMSRC_COUNT k) - count % 2 ^ 16))) ∧
  (∀ (src count : Nat) (s : State), s.alarmOf (src % 512) = none →
      exec (.alarmAck src count) s = .next s)

/-- ADC sequences and their results. Rules: R91, R92, R93, R96, R97. Where a clause rests on a reading or a choice of the model and not on the words of a rule: log entries 40, 41, 109, 113, 123. -/
def Obligations.AdcSequences : Prop :=
  (∀ (n : Fin 8) (d : Due) (s t : State), s.arrive (fun d => d == .adc n) = some (d, t) →
      t.on (ADC_CTL_EN n) = true →
      t.adcOwner n = none →
      t.on (ADC_CTL_FREERUN n) = false →
      t.idling n = false →
      (t.conv.adc.get n).running = false →
      exec (.adcSequenceStart n) s = .next (t.adcBegin n none)) ∧
  (∀ (n : Fin 8) (d : Due) (s t : State), s.arrive (fun d => d == .adc n) = some (d, t) →
      t.on (ADC_CTL_EN n) = true →
      t.adcOwner n = none →
      t.on (ADC_CTL_FREERUN n) = false →
      t.idling n = false →
      (t.conv.adc.get n).running = true →
      exec (.adcSequenceStart n) s = .next (t.adcOverrun n)) ∧
  (∀ (n : Fin 8) (s : State), s.arrive (fun d => d == .adc n) = none →
      exec (.adcSequenceStart n) s = .next s) ∧
  (∀ (n : Fin 8) (d : Due) (s t : State), s.arrive (fun d => d == .adc n) = some (d, t) →
      t.on (ADC_CTL_EN n) = false ∨ t.on (ADC_CTL_FREERUN n) = true →
      exec (.adcSequenceStart n) s = .next t) ∧
  (∀ (n : Fin 8) (s : State), s.on (ADC_CTL_EN n) = true →
      s.adcOwner n = none →
      s.on (ADC_CTL_FREERUN n) = false →
      s.idling n = false →
      (s.conv.adc.get n).running = false →
      exec (.adcStart n) s = .next (s.adcBegin n none)) ∧
  (∀ (n : Fin 8) (s : State), s.on (ADC_CTL_EN n) = false ∨ s.on (ADC_CTL_FREERUN n) = true →
      exec (.adcStart n) s = .next s) ∧
  (∀ (n : Fin 8) (en fr : Bool) (s : State), decide (n.val < nAdc s.part) = true →
      exec (.adcFreerunWrite n en fr) s = .next (((s.set (ADC_CTL_EN n) (b2n en)).set (ADC_CTL_FREERUN n) (b2n fr)).adcFreerun n)) ∧
  (∀ (n : Fin 8) (sum w k : Nat) (err : Int) (s : State), s.conv.adc.get n = { running := true, slot := 0, slots := [w], count := k, set := none } →
      bitOf w 8 = false →
      bitOf w 9 = false →
      s.adcOwner n = none →
      exec (.adcSlotComplete n sum err) s = .next (State.adcFreerun ((State.set { ((s.set (ADC_RES_NEW n 0) 1).set (ADC_RES_SEQNO n 0) k).set (ADC_RES_VALUE n 0) (s.adcCode n (bf w 10 2) (s.adcSum w sum err)) with conv := { s.conv with adc := s.conv.adc.put n { running := false, slot := 0, slots := [w], count := k, set := none } } } (ADC_STAT_BUSY n) 0).raiseC (80 + n) k 0) n)) ∧
  (∀ (n : Fin 8) (sum : Nat) (err : Int) (s : State), (s.conv.adc.get n).running = false →
      exec (.adcSlotComplete n sum err) s = .next s)

/-- ADC groups: starts, words to the engines, the ring and completed sets. Rules: R96, R97, R98, R99, R100. Where a clause rests on a reading or a choice of the model and not on the words of a rule: log entry 40. -/
def Obligations.AdcGroups : Prop :=
  (∀ (g : Fin 8) (d : Due) (s t : State), s.arrive (fun d => d == .group g) = some (d, t) →
      exec (.adcGroupStart g) s = .next (t.grpStart g)) ∧
  (∀ (g : Fin 8) (s : State), s.arrive (fun d => d == .group g) = none →
      exec (.adcGroupStart g) s = .next s) ∧
  (∀ (g : Fin 8) (s : State), s.on (ADC_GRP_EN g) = true →
      exec (.adcGroupStartWrite g) s = .next (s.grpStart g)) ∧
  (∀ (g : Fin 8) (s : State), s.on (ADC_GRP_EN g) = false →
      exec (.adcGroupStartWrite g) s = .next s) ∧
  (∀ (g : Fin 8) (x : AdcSet) (s t : State), (s.conv.sets.get g).find? (fun y => !y.todo.isEmpty) = some x →
      x.eng ≤ 11 →
      x.pair = false →
      State.laneDeliver (s.setUpd g x.id (fun y => { y with todo := y.todo.tail })) x.eng ((x.addr + 4 * x.todo.headD 0) % 0x1_0000) (x.words.get (x.todo.headD 0)) = (t, true) →
      exec (.adcWordDeliver g (false, false)) s = .next t) ∧
  (∀ (g : Fin 8) (x : AdcSet) (par : List Nat) (s : State), (s.conv.sets.get g).find? (fun y => y.sram && decide (y.left = 0) && !y.ringDone) = some x →
      ∃ u : State, exec (.adcRingWrite g par) s = .next ((u.setUpd g x.id (fun y => { y with ringDone := true })).set (ADC_GRPSTAT_WR g) (ringNext (s.get (ADC_GRPSTAT_WR g) % (2 ^ (x.size + 12) / 512)) (2 ^ (x.size + 12) / 512))) ∧ u = s.each (List.range 128) (fun t i => if (t.fabWrite 28 (x.base + s.get (ADC_GRPSTAT_WR g) % (2 ^ (x.size + 12) / 512) * 512 + 4 * i) (toBytes 4 (x.words.get i)) (par.contains i)).2 then (t.fabWrite 28 (x.base + s.get (ADC_GRPSTAT_WR g) % (2 ^ (x.size + 12) / 512) * 512 + 4 * i) (toBytes 4 (x.words.get i)) (par.contains i)).1 else State.setRefused (t.fabWrite 28 (x.base + s.get (ADC_GRPSTAT_WR g) % (2 ^ (x.size + 12) / 512) * 512 + 4 * i) (toBytes 4 (x.words.get i)) (par.contains i)).1 g (State.setNow (t.fabWrite 28 (x.base + s.get (ADC_GRPSTAT_WR g) % (2 ^ (x.size + 12) / 512) * 512 + 4 * i) (toBytes 4 (x.words.get i)) (par.contains i)).1 g x))) ∧
  (∀ (g : Fin 8) (x : AdcSet) (u : State) (s : State), (s.conv.sets.get g).find? (fun y => decide (y.left = 0) && y.todo.isEmpty && (!y.sram || y.ringDone)) = some x →
      u = State.addWrap { s with conv := { s.conv with sets := s.conv.sets.upd g (fun l => l.filter (fun y => y.id != x.id)) } } (ADC_GRPSTAT_SEQNO g) 1 →
      exec (.adcSetComplete g) s = .next (u.raiseC (72 + g) (u.get (ADC_GRPSTAT_SEQNO g)) 0))

/-- Sigma-delta filters and comparators. Rules: R102, R103, R104, R105, R106, R107, R108. Where a clause rests on a reading or a choice of the model and not on the words of a rule: log entries 41, 113, 124, 129. -/
def Obligations.Filters : Prop :=
  (∀ (m : Fin 4) (l par : Bool × Bool) (v : Nat) (s u : State), u = s.sdfUpd m (fun x => { x with bits := ((if s.on (SDF_CTL_EDGE m) then l.2 else l.1) :: x.bits).take 766, win := x.win + 1 }) →
      v = ofS 32 (sincMain (s.sdfOsr m) (s.sdfOrder m) (u.conv.sdf.get m).bits / 2 ^ min 24 (s.get (SDF_FLT_SHIFT m))) →
      s.on (SDF_CTL_EN m) = true →
      s.on (SDF_FAST_EN m) = false →
      s.on (SDF_DST_EN m) = false →
      (u.conv.sdf.get m).unread = false →
      (u.conv.sdf.get m).unsettled ≤ 1 →
      s.sdfOsr m ≤ (u.conv.sdf.get m).win →
      sincSpan (s.sdfOsr m) (s.sdfOrder m) ≤ (u.conv.sdf.get m).bits.length →
      exec (.sdfResult m [l] par) s = .next (((((u.set (SDF_DATA_DATA m) v).set (SDF_STAT_READY m) 1).set (SDF_STAT_SETTLE m) 0).sdfUpd m (fun y => { y with unsettled := 0, unread := true, win := 0 })).raise (96 + m) v)) ∧
  (∀ (m : Fin 4) (ls : List (Bool × Bool)) (p : Bool × Bool) (s : State), s.on (SDF_CTL_EN m) = false →
      exec (.sdfResult m ls p) s = .next s ∧ exec (.sdfFastTrip m ls p) s = .next s ∧ exec (.sdfFastTripRelease m ls p) s = .next s) ∧
  (∀ (m : Fin 4) (d : Due) (s t : State), s.arrive (fun d => d == .window m) = some (d, t) →
      t.on (SDF_CTL_EN m) = true →
      exec (.sdfWindowRestart m) s = .next (t.sdfUpd m (fun x => { x with win := 0, unsettled := t.sdfOrder m }))) ∧
  (∀ (m : Fin 4) (l p : Bool × Bool) (out : Int) (s u v : State), u = s.sdfUpd m (fun x => { x with bits := ((if s.on (SDF_CTL_EDGE m) then l.2 else l.1) :: x.bits).take 766, win := x.win + 1 }) →
      out = sincFast (s.fastOsr m) (s.fastOrder m) (u.conv.sdf.get m).bits →
      s.on (SDF_CTL_EN m) = true →
      s.on (SDF_FAST_EN m) = true →
      sincSpan (s.fastOsr m) (s.fastOrder m) ≤ (u.conv.sdf.get m).bits.length →
      s.getS (SDF_THR_HI m) < out →
      s.getS (SDF_THR_LO m) ≤ out →
      (u.conv.sdf.get m).line = false →
      v = (State.raiseC (State.sdfUpd ((u.set (SDF_STAT_FASTHI m) 1).set (SDF_STAT_FASTLO m) 0) m (fun x => { x with line := true })) (100 + m) 2 0).tripAll (24 + m) →
      (v.conv.sdf.get m).win < s.sdfOsr m →
      exec (.sdfFastTrip m [l] p) s = .next v) ∧
  (∀ (m : Fin 4) (l p : Bool × Bool) (out : Int) (s u : State), u = s.sdfUpd m (fun x => { x with bits := ((if s.on (SDF_CTL_EDGE m) then l.2 else l.1) :: x.bits).take 766, win := x.win + 1 }) →
      out = sincFast (s.fastOsr m) (s.fastOrder m) (u.conv.sdf.get m).bits →
      s.on (SDF_CTL_EN m) = true →
      s.on (SDF_FAST_EN m) = true →
      sincSpan (s.fastOsr m) (s.fastOrder m) ≤ (u.conv.sdf.get m).bits.length →
      out ≤ s.getS (SDF_THR_HI m) →
      s.getS (SDF_THR_LO m) ≤ out →
      (u.conv.sdf.get m).win < s.sdfOsr m →
      exec (.sdfFastTripRelease m [l] p) s = .next (((u.set (SDF_STAT_FASTHI m) 0).set (SDF_STAT_FASTLO m) 0).sdfUpd m (fun x => { x with line := x.lost && x.line }))) ∧
  (∀ (m : Fin 4) (s : State), s.on (SDF_CTL_EN m) = true →
      s.on (SDF_FAST_EN m) = false →
      exec (.sdfClockLoss m) s = .next (((s.set (SDF_STAT_CLKLOSS m) 1).sdfUpd m (fun x => { x with lost := true })).raiseC (100 + m) 1 0)) ∧
  (∀ (m : Fin 4) (s : State), s.on (SDF_CTL_EN m) = true →
      s.on (SDF_FAST_EN m) = true →
      (s.conv.sdf.get m).line = false →
      exec (.sdfClockLoss m) s = .next ((State.sdfUpd (((s.set (SDF_STAT_CLKLOSS m) 1).sdfUpd m (fun x => { x with lost := true })).raiseC (100 + m) 1 0) m (fun x => { x with line := true })).tripAll (24 + m))) ∧
  (∀ (m : Fin 4) (s : State), decide (m.val < nSdf s.part) = true →
      exec (.sdfClockReturn m) s = .next (s.sdfUpd m (fun x => { x with lost := false, line := x.line && (s.on (SDF_STAT_FASTHI m) || s.on (SDF_STAT_FASTLO m)) }))) ∧
  (∀ (k : Fin 24) (v : Nat) (s : State), s.on (CMP_CTL_EN k) = true →
      s.cmpSide k v ≠ 0 →
      decide (k.val < nCmp s.part) = true →
      exec (.comparatorTrip k v) s = .next (((s.set (CMP_STAT_RAW k) 1).cmpUpd k (fun c => { c with side := s.cmpSide k v, filtered := true })).cmpLine k)) ∧
  (∀ (k : Fin 24) (v : Nat) (s : State), s.on (CMP_CTL_EN k) = false ∨ s.cmpSide k v = 0 →
      decide (k.val < nCmp s.part) = true →
      exec (.comparatorTrip k v) s = .next s) ∧
  (∀ (k : Fin 24) (v : Nat) (s : State), (s.conv.cmp.get k).side ≠ 0 →
      s.cmpReleases k (s.conv.cmp.get k).side v = true →
      s.cmpSide k v = 0 →
      decide (k.val < nCmp s.part) = true →
      exec (.comparatorRelease k v) s = .next (((s.set (CMP_STAT_RAW k) 0).cmpUpd k (fun x => { x with side := 0, filtered := false })).cmpLine k)) ∧
  (∀ (k : Fin 24) (s : State), decide (k.val < nCmp s.part) = true →
      exec (.blankingEnd k) s = .next ((s.cmpUpd k (fun c => { c with blank := false })).cmpLine k))

/-- The reference monitor and the external trip balls. Rules: R89, R122. -/
def Obligations.RefMonitor : Prop :=
  (∀ (dev : Int) (s : State), s.get ADC_REFCTL_THR < dev.natAbs →
      s.conv.refRun = 2 →
      exec (.refMonitorCompare dev) s = .next (State.tripAll (State.raise (State.set (State.set (State.setS { s with conv := { s.conv with refRun := 3 } } ADC_REFSTAT_DEV dev) ADC_REFSTAT_NOW 1) ADC_REFSTAT_MISMATCH 1) 7 (ofS 16 dev)) 32)) ∧
  (∀ (dev : Int) (s : State), s.get ADC_REFCTL_THR < dev.natAbs →
      s.conv.refRun ≠ 2 →
      exec (.refMonitorCompare dev) s = .next (State.set (State.setS { s with conv := { s.conv with refRun := s.conv.refRun + 1 } } ADC_REFSTAT_DEV dev) ADC_REFSTAT_NOW 1)) ∧
  (∀ (dev : Int) (s : State), dev.natAbs ≤ s.get ADC_REFCTL_THR →
      exec (.refMonitorCompare dev) s = .next (State.set (State.setS { s with conv := { s.conv with refRun := 0 } } ADC_REFSTAT_DEV dev) ADC_REFSTAT_NOW 0)) ∧
  (∀ (s : State), s.on ADC_REFSTAT_NOW = false →
      exec .refMismatchClear s = .next (s.set ADC_REFSTAT_MISMATCH 0)) ∧
  (∀ (s : State), s.on ADC_REFSTAT_NOW = true →
      exec .refMismatchClear s = .next s) ∧
  (∀ (i : Fin 4) (s : State), bitOf s.conv.ext i = false →
      exec (.externalTripBallChange i false) s = .next (State.tripAll { s with conv := { s.conv with ext := putBit s.conv.ext i true } } (28 + i))) ∧
  (∀ (i : Fin 4) (s : State), exec (.externalTripBallChange i true) s = .next { s with conv := { s.conv with ext := putBit s.conv.ext i false } })

/-- PWM pairs: edges, loads, periods, syncs, trips and forces. Rules: R111, R112, R116, R117, R118, R119, R121, R123, R125. Where a clause rests on a reading or a choice of the model and not on the words of a rule: log entries 42, 43, 113, 125, 126, 127, 128, 145. -/
def Obligations.PwmPairs : Prop :=
  (∀ (j : Fin 24) (outB rise : Bool) (t : Nat) (s : State), s.pwmEdgeTime j outB rise = some t →
      s.on (PWM_STAT_RUN j) = true →
      (s.conv.pwm.get j).await = false →
      bitOf (s.conv.pwm.get j).taken (pwmBit outB rise) = false →
      exec (.pwmEdge j outB rise false) s = .next (((s.pwmUpd j (fun q => { q with cnt := max q.cnt (t / s.pwmUnit j) })).pwmTakeEdge j outB rise).pwmDrive j)) ∧
  (∀ (j : Fin 24) (outB rise : Bool) (s : State), s.on (PWM_STAT_RUN j) = false →
      exec (.pwmEdge j outB rise false) s = .next s) ∧
  (∀ (j : Fin 24) (outB : Bool) (s : State), exec (.pwmEdge j outB true true) s = .next (s.pwmDeadEnd j outB)) ∧
  (∀ (j : Fin 24) (s : State), decide (j.val < nPwm s.part) = true →
      exec (.pwmCommit j) s = .next (s.pwmCommit j)) ∧
  (∀ (j : Fin 24) (settled : Bool) (s : State), s.on (PWM_STAT_RUN j) = true →
      s.on (PWM_CFG_SYNC j) = false →
      exec (.pwmPeriodStart j settled) s = .next ((s.pwmLoadAt j false settled).pwmStart j 0)) ∧
  (∀ (j : Fin 24) (settled : Bool) (s : State), s.on (PWM_STAT_RUN j) = true →
      s.on (PWM_CFG_SYNC j) = true →
      exec (.pwmPeriodStart j settled) s = .next (((s.pwmSyncErr j).pwmLoadAt j false settled).pwmStart j 0)) ∧
  (∀ (j : Fin 24) (s : State), s.on (PWM_STAT_RUN j) = true →
      (s.conv.pwm.get j).pend = none →
      exec (.pwmMidPeriod j true) s = .next ((s.pwmUpd j (fun p => { p with cnt := max p.cnt (s.pwmPer j / 2) })).follow (s.slotDues 3 j s.exact))) ∧
  (∀ (j : Fin 24) (s : State), s.on (PWM_STAT_RUN j) = true →
      (s.conv.pwm.get j).pend.isSome = true →
      s.get (PWM_CFG_LOAD j) = 1 →
      (s.conv.pwm.get j).await = false →
      exec (.pwmMidPeriod j true) s = .next ((((s.pwmUpd j (fun p => { p with cnt := max p.cnt (s.pwmPer j / 2) })).follow (s.slotDues 3 j s.exact)).pwmLoad j).pwmReplan j (s.pwmPer j / 2))) ∧
  (∀ (j : Fin 24) (c : Nat) (s : State), s.get (PWM_CFG_LOAD j) = 3 →
      (s.conv.pwm.get j).pend.isSome = true →
      s.on (PWM_STAT_RUN j) = false →
      exec (.pwmSetLoad j c) s = .next (s.pwmLoad j)) ∧
  (∀ (j : Fin 24) (c : Nat) (s : State), s.get (PWM_CFG_LOAD j) = 3 →
      (s.conv.pwm.get j).pend.isSome = true →
      s.on (PWM_STAT_RUN j) = true →
      (s.conv.pwm.get j).await = false →
      exec (.pwmSetLoad j c) s = .next (((s.pwmUpd j (fun p => { p with cnt := c })).pwmLoad j).pwmReplan j c)) ∧
  (∀ (j : Fin 24) (c : Nat) (settled : Bool) (d : Due) (s t : State), s.arrive (fun d => d == .sync j) = some (d, t) →
      t.on (PWM_CFG_SYNC j) = true →
      t.on (PWM_STAT_RUN j) = true →
      t.pwmPer j * t.pwmUnit j ≤ c * t.pwmUnit j + 4 * t.get (PWM_CFG_SYNCWIN j) →
      exec (.pwmSync j c settled) s = .next (((t.pwmUpd j (fun p => { p with await := false, fresh := false })).pwmLoadAt j false settled).pwmStart j (t.get (PWM_ACT_PHASE_VALUE j)))) ∧
  (∀ (j : Fin 24) (c : Nat) (settled : Bool) (s : State), s.arrive (fun d => d == .sync j) = none →
      exec (.pwmSync j c settled) s = .next s) ∧
  (∀ (j : Fin 24) (s : State), decide (j.val < nPwm s.part) = true →
      exec (.pwmSwtrip j) s = .next (s.pwmTrip j 33)) ∧
  (∀ (s : State), exec .pwmGtrip s = .next (s.each (List.range 24) (fun t j => if t.on (PWM_CTL_EN j) then t.pwmTrip j 35 else t))) ∧
  (∀ (j : Fin 24) (s : State), s.on (PWM_STAT_TRIPPED j) = true →
      s.pwmActive j = none →
      decide (j.val < nPwm s.part) = true →
      exec (.pwmTripclr j) s = .next (s.pwmUpd j (fun p => { p with clr := true }))) ∧
  (∀ (j : Fin 24) (s : State), s.on (PWM_STAT_TRIPPED j) = false ∨ (s.pwmActive j).isSome = true →
      decide (j.val < nPwm s.part) = true →
      exec (.pwmTripclr j) s = .next s) ∧
  (∀ (j : Fin 24) (en settled : Bool) (s : State), decide (j.val < nPwm s.part) = true →
      exec (.pwmEnableWrite j en settled) s = .next ((s.set (PWM_CTL_EN j) (b2n en)).pwmEnabled j (s.on (PWM_CTL_EN j)) settled)) ∧
  (∀ (j : Fin 24) (a b : Fin 4) (s u : State), u = (s.set (PWM_CTL_FORCEA j) a).set (PWM_CTL_FORCEB j) b →
      u.pwmLive j = false →
      decide (j.val < nPwm s.part) = true →
      exec (.pwmForceWrite j a b) s = .next (u.pwmDrive j)) ∧
  (∀ (j : Fin 24) (a b : Fin 4) (s u : State), u = (s.set (PWM_CTL_FORCEA j) a).set (PWM_CTL_FORCEB j) b →
      u.pwmLive j = true →
      decide (j.val < nPwm s.part) = true →
      exec (.pwmForceWrite j a b) s = .next ((u.pwmClashes j).pwmDrive j))

/-- Every integer instruction of a Tangram engine writes its result and goes on at its cost. Rules: R133, R143, R145, R147. Where a clause rests on a reading or a choice of the model and not on the words of a rule: log entry 45. -/
def Obligations.TangramInteger : Prop :=
  (∀ (x : TgAt) (rd rs1 rs2 : Fin 32) (s : State), tgReady x (tgR 0 0x00 rd rs1 rs2 0) .plain s = true →
      exec (.tgAdd x rd rs1 rs2) s = .next ((s.tgSet x.e (fun g => g.setReg rd (g.clip (g.regS rs1 + g.regS rs2)))).tgNext x.e 1 false)) ∧
  (∀ (x : TgAt) (rd rs1 rs2 : Fin 32) (s : State), tgReady x (tgR 0 0x01 rd rs1 rs2 0) .plain s = true →
      exec (.tgSub x rd rs1 rs2) s = .next ((s.tgSet x.e (fun g => g.setReg rd (g.clip (g.regS rs1 - g.regS rs2)))).tgNext x.e 1 false)) ∧
  (∀ (x : TgAt) (rd rs1 rs2 : Fin 32) (s : State), tgReady x (tgR 0 0x02 rd rs1 rs2 0) .plain s = true →
      exec (.tgAnd x rd rs1 rs2) s = .next ((s.tgSet x.e (fun g => g.setReg rd (g.reg rs1 &&& g.reg rs2))).tgNext x.e 1 false)) ∧
  (∀ (x : TgAt) (rd rs1 rs2 : Fin 32) (s : State), tgReady x (tgR 0 0x03 rd rs1 rs2 0) .plain s = true →
      exec (.tgOr x rd rs1 rs2) s = .next ((s.tgSet x.e (fun g => g.setReg rd (g.reg rs1 ||| g.reg rs2))).tgNext x.e 1 false)) ∧
  (∀ (x : TgAt) (rd rs1 rs2 : Fin 32) (s : State), tgReady x (tgR 0 0x04 rd rs1 rs2 0) .plain s = true →
      exec (.tgXor x rd rs1 rs2) s = .next ((s.tgSet x.e (fun g => g.setReg rd (g.reg rs1 ^^^ g.reg rs2))).tgNext x.e 1 false)) ∧
  (∀ (x : TgAt) (rd rs1 rs2 : Fin 32) (s : State), tgReady x (tgR 0 0x05 rd rs1 rs2 0) .plain s = true →
      exec (.tgShl x rd rs1 rs2) s = .next ((s.tgSet x.e (fun g => g.setReg rd (g.clip (g.regS rs1 * 2 ^ (g.reg rs2 % 32))))).tgNext x.e 1 false)) ∧
  (∀ (x : TgAt) (rd rs1 rs2 : Fin 32) (s : State), tgReady x (tgR 0 0x06 rd rs1 rs2 0) .plain s = true →
      exec (.tgShr x rd rs1 rs2) s = .next ((s.tgSet x.e (fun g => g.setReg rd (g.reg rs1 / 2 ^ (g.reg rs2 % 32)))).tgNext x.e 1 false)) ∧
  (∀ (x : TgAt) (rd rs1 rs2 : Fin 32) (s : State), tgReady x (tgR 0 0x07 rd rs1 rs2 0) .plain s = true →
      exec (.tgSra x rd rs1 rs2) s = .next ((s.tgSet x.e (fun g => g.setReg rd (ofS 32 (g.regS rs1 / 2 ^ (g.reg rs2 % 32))))).tgNext x.e 1 false)) ∧
  (∀ (x : TgAt) (rd rs1 n : Fin 32) (s : State), tgReady x (tgR 0 0x08 rd rs1 n 0) .plain s = true →
      exec (.tgShli x rd rs1 n) s = .next ((s.tgSet x.e (fun g => g.setReg rd (g.clip (g.regS rs1 * 2 ^ n.val)))).tgNext x.e 1 false)) ∧
  (∀ (x : TgAt) (rd rs1 n : Fin 32) (s : State), tgReady x (tgR 0 0x09 rd rs1 n 0) .plain s = true →
      exec (.tgShri x rd rs1 n) s = .next ((s.tgSet x.e (fun g => g.setReg rd (g.reg rs1 / 2 ^ n.val))).tgNext x.e 1 false)) ∧
  (∀ (x : TgAt) (rd rs1 n : Fin 32) (s : State), tgReady x (tgR 0 0x0A rd rs1 n 0) .plain s = true →
      exec (.tgSrai x rd rs1 n) s = .next ((s.tgSet x.e (fun g => g.setReg rd (ofS 32 (g.regS rs1 / 2 ^ n.val)))).tgNext x.e 1 false)) ∧
  (∀ (x : TgAt) (rd rs1 rs2 : Fin 32) (s : State), tgReady x (tgR 0 0x0B rd rs1 rs2 0) .plain s = true →
      exec (.tgMin x rd rs1 rs2) s = .next ((s.tgSet x.e (fun g => g.setReg rd (ofS 32 (min (g.regS rs1) (g.regS rs2))))).tgNext x.e 1 false)) ∧
  (∀ (x : TgAt) (rd rs1 rs2 : Fin 32) (s : State), tgReady x (tgR 0 0x0C rd rs1 rs2 0) .plain s = true →
      exec (.tgMax x rd rs1 rs2) s = .next ((s.tgSet x.e (fun g => g.setReg rd (ofS 32 (max (g.regS rs1) (g.regS rs2))))).tgNext x.e 1 false)) ∧
  (∀ (x : TgAt) (rd rs1 rs2 : Fin 32) (s : State), tgReady x (tgR 0 0x0D rd rs1 rs2 0) .plain s = true →
      exec (.tgMinu x rd rs1 rs2) s = .next ((s.tgSet x.e (fun g => g.setReg rd (min (g.reg rs1) (g.reg rs2)))).tgNext x.e 1 false)) ∧
  (∀ (x : TgAt) (rd rs1 rs2 : Fin 32) (s : State), tgReady x (tgR 0 0x0E rd rs1 rs2 0) .plain s = true →
      exec (.tgMaxu x rd rs1 rs2) s = .next ((s.tgSet x.e (fun g => g.setReg rd (max (g.reg rs1) (g.reg rs2)))).tgNext x.e 1 false)) ∧
  (∀ (x : TgAt) (rd rs1 rs2 rs3 : Fin 32) (s : State), tgReady x (tgR 0 0x0F rd rs1 rs2 rs3) .plain s = true →
      exec (.tgClamp x rd rs1 rs2 rs3) s = .next ((s.tgSet x.e (fun g => g.setReg rd (ofS 32 (min (max (g.regS rs1) (g.regS rs2)) (g.regS rs3))))).tgNext x.e 1 false)) ∧
  (∀ (x : TgAt) (rd rs1 : Fin 32) (s : State), tgReady x (tgR 0 0x10 rd rs1 0 0) .plain s = true →
      exec (.tgAbs x rd rs1) s = .next ((s.tgSet x.e (fun g => g.setReg rd (g.clip ((g.regS rs1).natAbs : Int)))).tgNext x.e 1 false)) ∧
  (∀ (x : TgAt) (rd rs1 rs2 : Fin 32) (s : State), tgReady x (tgR 0 0x11 rd rs1 rs2 0) .plain s = true →
      exec (.tgSlt x rd rs1 rs2) s = .next ((s.tgSet x.e (fun g => g.setReg rd (b2n (decide (g.regS rs1 < g.regS rs2))))).tgNext x.e 1 false)) ∧
  (∀ (x : TgAt) (rd rs1 rs2 : Fin 32) (s : State), tgReady x (tgR 0 0x12 rd rs1 rs2 0) .plain s = true →
      exec (.tgSltu x rd rs1 rs2) s = .next ((s.tgSet x.e (fun g => g.setReg rd (b2n (decide (g.reg rs1 < g.reg rs2))))).tgNext x.e 1 false)) ∧
  (∀ (x : TgAt) (rd rs1 : Fin 32) (s : State), tgReady x (tgR 0 0x13 rd rs1 0 0) .plain s = true →
      exec (.tgClz x rd rs1) s = .next ((s.tgSet x.e (fun g => g.setReg rd (clz32 (g.reg rs1)))).tgNext x.e 1 false)) ∧
  (∀ (x : TgAt) (rd rs1 rs2 : Fin 32) (s : State), tgReady x (tgR 0 0x14 rd rs1 rs2 0) .plain s = true →
      exec (.tgMul x rd rs1 rs2) s = .next ((s.tgSet x.e (fun g => g.setReg rd (g.reg rs1 * g.reg rs2))).tgNext x.e 4 false)) ∧
  (∀ (x : TgAt) (rd rs1 rs2 : Fin 32) (s : State), tgReady x (tgR 0 0x15 rd rs1 rs2 0) .plain s = true →
      exec (.tgMulh x rd rs1 rs2) s = .next ((s.tgSet x.e (fun g => g.setReg rd (ofS 32 (g.regS rs1 * g.regS rs2 / 2 ^ 32)))).tgNext x.e 4 false)) ∧
  (∀ (x : TgAt) (rd rs1 rs2 : Fin 32) (s : State), tgReady x (tgR 0 0x16 rd rs1 rs2 0) .plain s = true →
      exec (.tgMulhu x rd rs1 rs2) s = .next ((s.tgSet x.e (fun g => g.setReg rd (g.reg rs1 * g.reg rs2 / 2 ^ 32))).tgNext x.e 4 false)) ∧
  (∀ (x : TgAt) (rd rs1 rs2 : Fin 32) (s : State), tgReady x (tgR 0 0x17 rd rs1 rs2 0) .plain s = true →
      exec (.tgDiv x rd rs1 rs2) s = .next ((s.tgSet x.e (fun g => g.setReg rd (ofS 32 (tgDivS g.sat (g.regS rs1) (g.regS rs2))))).tgNext x.e 20 false)) ∧
  (∀ (x : TgAt) (rd rs1 rs2 : Fin 32) (s : State), tgReady x (tgR 0 0x18 rd rs1 rs2 0) .plain s = true →
      exec (.tgDivu x rd rs1 rs2) s = .next ((s.tgSet x.e (fun g => g.setReg rd (tgDivU (g.reg rs1) (g.reg rs2)))).tgNext x.e 20 false)) ∧
  (∀ (x : TgAt) (rd rs1 rs2 : Fin 32) (s : State), tgReady x (tgR 0 0x19 rd rs1 rs2 0) .plain s = true →
      exec (.tgRem x rd rs1 rs2) s = .next ((s.tgSet x.e (fun g => g.setReg rd (ofS 32 (tgRemS (g.regS rs1) (g.regS rs2))))).tgNext x.e 20 false)) ∧
  (∀ (x : TgAt) (rd rs1 rs2 : Fin 32) (s : State), tgReady x (tgR 0 0x1A rd rs1 rs2 0) .plain s = true →
      exec (.tgRemu x rd rs1 rs2) s = .next ((s.tgSet x.e (fun g => g.setReg rd (tgRemU (g.reg rs1) (g.reg rs2)))).tgNext x.e 20 false)) ∧
  (∀ (x : TgAt) (rd rs1 : Fin 32) (imm : Fin 65536) (s : State), tgReady x (tgI 0x04 rd rs1 imm) .plain s = true →
      exec (.tgAddi x rd rs1 imm) s = .next ((s.tgSet x.e (fun g => g.setReg rd (g.clip (g.regS rs1 + toS 16 imm)))).tgNext x.e 1 false)) ∧
  (∀ (x : TgAt) (rd rs1 : Fin 32) (imm : Fin 65536) (s : State), tgReady x (tgI 0x05 rd rs1 imm) .plain s = true →
      exec (.tgAndi x rd rs1 imm) s = .next ((s.tgSet x.e (fun g => g.setReg rd (g.reg rs1 &&& imm.val))).tgNext x.e 1 false)) ∧
  (∀ (x : TgAt) (rd rs1 : Fin 32) (imm : Fin 65536) (s : State), tgReady x (tgI 0x06 rd rs1 imm) .plain s = true →
      exec (.tgOri x rd rs1 imm) s = .next ((s.tgSet x.e (fun g => g.setReg rd (g.reg rs1 ||| imm.val))).tgNext x.e 1 false)) ∧
  (∀ (x : TgAt) (rd rs1 : Fin 32) (imm : Fin 65536) (s : State), tgReady x (tgI 0x07 rd rs1 imm) .plain s = true →
      exec (.tgXori x rd rs1 imm) s = .next ((s.tgSet x.e (fun g => g.setReg rd (g.reg rs1 ^^^ imm.val))).tgNext x.e 1 false)) ∧
  (∀ (x : TgAt) (rd : Fin 32) (imm : Fin 65536) (s : State), tgReady x (tgI 8 rd 0 imm) .plain s = true →
      exec (.tgLui x rd imm) s = .next ((s.tgSet x.e (fun g => g.setReg rd (imm.val * 65536))).tgNext x.e 1 false)) ∧
  (∀ (x : TgAt) (rd rs1 : Fin 32) (imm : Fin 65536) (s : State), tgReady x (tgI 0x09 rd rs1 imm) .plain s = true →
      exec (.tgSlti x rd rs1 imm) s = .next ((s.tgSet x.e (fun g => g.setReg rd (b2n (decide (g.regS rs1 < toS 16 imm))))).tgNext x.e 1 false))

/-- Every accumulator instruction of a Tangram engine. Rules: R143, R145, R148, R149. Where a clause rests on a reading or a choice of the model and not on the words of a rule: log entry 45. -/
def Obligations.TangramAccumulator : Prop :=
  (∀ (x : TgAt) (a rs1 rs2 : Fin 32) (s : State), tgReady x (tgR 1 0 a rs1 rs2 0) .plain s = true →
      exec (.tgMacq x a rs1 rs2) s = .next ((s.tgSet x.e (fun g => g.setAcc a (g.acc a + g.regS rs1 * g.regS rs2))).tgNext x.e 6 false)) ∧
  (∀ (x : TgAt) (a rs1 rs2 : Fin 32) (s : State), tgReady x (tgR 1 1 a rs1 rs2 0) .plain s = true →
      exec (.tgMsuq x a rs1 rs2) s = .next ((s.tgSet x.e (fun g => g.setAcc a (g.acc a - g.regS rs1 * g.regS rs2))).tgNext x.e 6 false)) ∧
  (∀ (x : TgAt) (a rs1 rs2 : Fin 32) (s : State), tgReady x (tgR 1 2 a rs1 rs2 0) .plain s = true →
      exec (.tgMulq x a rs1 rs2) s = .next ((s.tgSet x.e (fun g => g.setAcc a (g.regS rs1 * g.regS rs2))).tgNext x.e 6 false)) ∧
  (∀ (x : TgAt) (a rs1 rs2 : Fin 32) (s : State), tgReady x (tgR 1 3 a rs1 rs2 0) .plain s = true →
      exec (.tgMaci x a rs1 rs2) s = .next ((s.tgSet x.e (fun g => g.setAcc a (g.acc a + g.regS rs1 * g.regS rs2))).tgNext x.e 6 false)) ∧
  (∀ (x : TgAt) (a : Fin 32) (s : State), tgReady x (tgR 1 4 a 0 0 0) .plain s = true →
      exec (.tgAclr x a) s = .next ((s.tgSet x.e (fun g => g.putAcc a 0)).tgNext x.e 1 false)) ∧
  (∀ (x : TgAt) (a rs1 : Fin 32) (s : State), tgReady x (tgR 1 5 a rs1 0 0) .plain s = true →
      exec (.tgAcld x a rs1) s = .next ((s.tgSet x.e (fun g => g.setAcc a (g.regS rs1 * 2 ^ 31))).tgNext x.e 2 false)) ∧
  (∀ (x : TgAt) (a n : Fin 32) (s : State), tgReady x (tgR 1 6 a 0 n 0) .plain s = true →
      exec (.tgAcsr x a n) s = .next ((s.tgSet x.e (fun g => g.setAcc a (g.acc a / 2 ^ n.val))).tgNext x.e 2 false)) ∧
  (∀ (x : TgAt) (rd a : Fin 32) (s : State), tgReady x (tgR 1 7 rd a 0 0) .plain s = true →
      exec (.tgSatq x rd a) s = .next ((s.tgSet x.e (fun g => let r := g.satQ (qRound g.qrnd (g.acc a) (2 ^ 31)); r.2.setReg rd r.1)).tgNext x.e 4 false)) ∧
  (∀ (x : TgAt) (rd a : Fin 32) (s : State), tgReady x (tgR 1 8 rd a 0 0) .plain s = true →
      exec (.tgSati x rd a) s = .next ((s.tgSet x.e (fun g => let r := g.satQ (g.acc a); r.2.setReg rd r.1)).tgNext x.e 4 false)) ∧
  (∀ (x : TgAt) (rd rs1 rs2 rs3 : Fin 32) (s : State), tgReady x (tgR 1 9 rd rs1 rs2 rs3) .plain s = true →
      exec (.tgPiu x rd rs1 rs2 rs3) s = .next ((s.tgSet x.e (fun g => g.piu rd rs1 rs2 rs3)).tgNext x.e 12 false))

/-- Every binary32 instruction of a Tangram engine. Rules: R143, R145, R150. Where a clause rests on a reading or a choice of the model and not on the words of a rule: log entry 45. -/
def Obligations.TangramFloat : Prop :=
  (∀ (x : TgAt) (rd rs1 rs2 : Fin 32) (s : State), tgReady x (tgR 2 0x00 rd rs1 rs2 0) .plain s = true →
      exec (.tgFadd x rd rs1 rs2) s = .next ((s.tgSet x.e (fun g => g.setF rd (fAdd f32 g.fmode (g.reg rs1) (g.reg rs2)))).tgNext x.e 5 false)) ∧
  (∀ (x : TgAt) (rd rs1 rs2 : Fin 32) (s : State), tgReady x (tgR 2 0x01 rd rs1 rs2 0) .plain s = true →
      exec (.tgFsub x rd rs1 rs2) s = .next ((s.tgSet x.e (fun g => g.setF rd (fSub f32 g.fmode (g.reg rs1) (g.reg rs2)))).tgNext x.e 5 false)) ∧
  (∀ (x : TgAt) (rd rs1 rs2 : Fin 32) (s : State), tgReady x (tgR 2 0x02 rd rs1 rs2 0) .plain s = true →
      exec (.tgFmul x rd rs1 rs2) s = .next ((s.tgSet x.e (fun g => g.setF rd (fMul f32 g.fmode (g.reg rs1) (g.reg rs2)))).tgNext x.e 5 false)) ∧
  (∀ (x : TgAt) (rd rs1 rs2 rs3 : Fin 32) (s : State), tgReady x (tgR 2 3 rd rs1 rs2 rs3) .plain s = true →
      exec (.tgFma x rd rs1 rs2 rs3) s = .next ((s.tgSet x.e (fun g => g.setF rd (fFma f32 g.fmode (g.reg rs1) (g.reg rs2) (g.reg rs3)))).tgNext x.e 6 false)) ∧
  (∀ (x : TgAt) (rd rs1 rs2 : Fin 32) (s : State), tgReady x (tgR 2 0x04 rd rs1 rs2 0) .plain s = true →
      exec (.tgFdiv x rd rs1 rs2) s = .next ((s.tgSet x.e (fun g => g.setF rd (fDiv f32 g.fmode (g.reg rs1) (g.reg rs2)))).tgNext x.e 24 false)) ∧
  (∀ (x : TgAt) (rd rs1 : Fin 32) (s : State), tgReady x (tgR 2 5 rd rs1 0 0) .plain s = true →
      exec (.tgFsqrt x rd rs1) s = .next ((s.tgSet x.e (fun g => g.setF rd (fSqrt f32 g.fmode (g.reg rs1)))).tgNext x.e 24 false)) ∧
  (∀ (x : TgAt) (rd rs1 rs2 : Fin 32) (s : State), tgReady x (tgR 2 0x06 rd rs1 rs2 0) .plain s = true →
      exec (.tgFmin x rd rs1 rs2) s = .next ((s.tgSet x.e (fun g => g.setF rd (fMinMax f32 g.fmode false (g.reg rs1) (g.reg rs2)))).tgNext x.e 2 false)) ∧
  (∀ (x : TgAt) (rd rs1 rs2 : Fin 32) (s : State), tgReady x (tgR 2 0x07 rd rs1 rs2 0) .plain s = true →
      exec (.tgFmax x rd rs1 rs2) s = .next ((s.tgSet x.e (fun g => g.setF rd (fMinMax f32 g.fmode true (g.reg rs1) (g.reg rs2)))).tgNext x.e 2 false)) ∧
  (∀ (x : TgAt) (rd rs1 : Fin 32) (s : State), tgReady x (tgR 2 8 rd rs1 0 0) .plain s = true →
      exec (.tgFabs x rd rs1) s = .next ((s.tgSet x.e (fun g => g.setReg rd (g.reg rs1 % 2 ^ 31))).tgNext x.e 1 false)) ∧
  (∀ (x : TgAt) (rd rs1 : Fin 32) (s : State), tgReady x (tgR 2 9 rd rs1 0 0) .plain s = true →
      exec (.tgFneg x rd rs1) s = .next ((s.tgSet x.e (fun g => g.setReg rd (g.reg rs1 ^^^ 2 ^ 31))).tgNext x.e 1 false)) ∧
  (∀ (x : TgAt) (rd rs1 rs2 : Fin 32) (s : State), tgReady x (tgR 2 0x0A rd rs1 rs2 0) .plain s = true →
      exec (.tgFeq x rd rs1 rs2) s = .next ((s.tgSet x.e (fun g => g.setF rd (fCmp f32 g.fmode 0 (g.reg rs1) (g.reg rs2)))).tgNext x.e 2 false)) ∧
  (∀ (x : TgAt) (rd rs1 rs2 : Fin 32) (s : State), tgReady x (tgR 2 0x0B rd rs1 rs2 0) .plain s = true →
      exec (.tgFlt x rd rs1 rs2) s = .next ((s.tgSet x.e (fun g => g.setF rd (fCmp f32 g.fmode 1 (g.reg rs1) (g.reg rs2)))).tgNext x.e 2 false)) ∧
  (∀ (x : TgAt) (rd rs1 rs2 : Fin 32) (s : State), tgReady x (tgR 2 0x0C rd rs1 rs2 0) .plain s = true →
      exec (.tgFle x rd rs1 rs2) s = .next ((s.tgSet x.e (fun g => g.setF rd (fCmp f32 g.fmode 2 (g.reg rs1) (g.reg rs2)))).tgNext x.e 2 false)) ∧
  (∀ (x : TgAt) (rd rs1 : Fin 32) (s : State), tgReady x (tgR 2 0x0D rd rs1 0 0) .plain s = true →
      exec (.tgFcvtws x rd rs1) s = .next ((s.tgSet x.e (fun g => g.setI rd (fToInt f32 g.fmode 0 s32Min s32Max (g.reg rs1)))).tgNext x.e 3 false)) ∧
  (∀ (x : TgAt) (rd rs1 : Fin 32) (s : State), tgReady x (tgR 2 0x0E rd rs1 0 0) .plain s = true →
      exec (.tgFcvtsw x rd rs1) s = .next ((s.tgSet x.e (fun g => g.setF rd (fFromInt f32 g.fmode 0 (g.regS rs1)))).tgNext x.e 3 false)) ∧
  (∀ (x : TgAt) (rd rs1 : Fin 32) (s : State), tgReady x (tgR 2 0x0F rd rs1 0 0) .plain s = true →
      exec (.tgFcvtqs x rd rs1) s = .next ((s.tgSet x.e (fun g => g.setI rd (fToInt f32 g.fmode 31 s32Min s32Max (g.reg rs1)))).tgNext x.e 3 false)) ∧
  (∀ (x : TgAt) (rd rs1 : Fin 32) (s : State), tgReady x (tgR 2 0x10 rd rs1 0 0) .plain s = true →
      exec (.tgFcvtsq x rd rs1) s = .next ((s.tgSet x.e (fun g => g.setF rd (fFromInt f32 g.fmode 31 (g.regS rs1)))).tgNext x.e 3 false))

/-- Branches, loops, special registers, MODE, events and the end of an iteration. Rules: R145, R152, R153, R154, R155, R157, R158, R160, R166, R167. Where a clause rests on a reading or a choice of the model and not on the words of a rule: log entries 11, 46, 131. -/
def Obligations.TangramControl : Prop :=
  (∀ (x : TgAt) (s : State), tgReady x (tgR 3 0 0 0 0 0) .stop s = true →
      (s.tg.get x.e).user = false →
      exec (.tgEret x) s = .next (((s.tgSet x.e (fun _ => (TgEng.loopNext { s.tg.get x.e with mode := (s.tg.get x.e).emode, lact := (s.tg.get x.e).elact } ((s.get (TG_EPC_PC x.e) * 4 + 0xFFFC) % 0x1_0000)).1)).tgSet x.e (fun y => { y with pc := (TgEng.loopNext { s.tg.get x.e with mode := (s.tg.get x.e).emode, lact := (s.tg.get x.e).elact } ((s.get (TG_EPC_PC x.e) * 4 + 0xFFFC) % 0x1_0000)).2, shadow := false, cost := y.cost + 3 })).tgBoundary x.e)) ∧
  (∀ (x : TgAt) (s : State), tgReady x (tgR 3 0 0 0 0 0) .stop s = true →
      (s.tg.get x.e).user = true →
      exec (.tgEret x) s = .next (s.tgTrap x.e 2 (tgR 3 0 0 0 0 0))) ∧
  (∀ (x : TgAt) (rd sr : Fin 32) (s : State), tgReady x (tgR 3 1 rd sr 0 0) .plain s = true →
      exec (.tgMfs x rd sr) s = .next ((s.tgSet x.e (fun g => g.setReg rd (s.tgSr x.e sr))).tgNext x.e 2 false)) ∧
  (∀ (x : TgAt) (sr rs1 : Fin 32) (s : State), tgReady x (tgR 3 2 sr rs1 0 0) .plain s = true →
      (s.tg.get x.e).user = false ∨ sr.val = 17 →
      exec (.tgMts x sr rs1) s = .next ((s.tgSetSr x.e sr ((s.tg.get x.e).reg rs1)).tgNext x.e 2 false)) ∧
  (∀ (x : TgAt) (sr rs1 : Fin 32) (s : State), tgReady x (tgR 3 2 sr rs1 0 0) .plain s = true →
      (s.tg.get x.e).user = true →
      sr.val ≠ 17 →
      exec (.tgMts x sr rs1) s = .next (s.tgTrap x.e 2 (tgR 3 2 sr rs1 0 0))) ∧
  (∀ (x : TgAt) (rs1 : Fin 32) (s : State), tgReady x (tgR 3 3 0 rs1 0 0) .plain s = true →
      (s.tg.get x.e).obuf.length < 32 →
      exec (.tgEvp x rs1) s = .next ((s.tgSet x.e (fun y => { y with obuf := y.obuf ++ [.evp ((s.tg.get x.e).reg rs1)] })).tgNext x.e 2 false)) ∧
  (∀ (x : TgAt) (rs1 : Fin 32) (s : State), tgReady x (tgR 3 3 0 rs1 0 0) .plain s = true →
      32 ≤ (s.tg.get x.e).obuf.length →
      exec (.tgEvp x rs1) s = .next (s.tgTrap x.e 8 0)) ∧
  (∀ (x : TgAt) (mask value : Fin 256) (s : State), tgReady x (tgM 0x38 mask value) .setm s = true →
      (s.tg.get x.e).user = false →
      exec (.tgSetm x mask value) s = .next ((s.tgSet x.e (fun y => { y with mode := ((s.tg.get x.e).mode &&& (0xFF - (mask.val &&& 0xBF))) ||| (value.val &&& (mask.val &&& 0xBF)) })).tgNext x.e 2 true)) ∧
  (∀ (x : TgAt) (s : State), tgReady x (tgZ 0x39) .stop s = true →
      exec (.tgEnd x) s = .next (s.tgSet x.e (fun y => { y with run := false, ended := true, cost := y.cost + 3 }))) ∧
  (∀ (x : TgAt) (s : State), tgReady x (tgZ 0x3F) .plain s = true →
      exec (.tgBrk x) s = .next (s.draw.tgTrap x.e 10 (Config.tgEval s.free))) ∧
  (∀ (x : TgAt) (rs1 : Fin 32) (s : State), tgReady x (tgR 3 4 0 rs1 0 0) .branch s = true →
      exec (.tgJr x rs1) s = .next (State.tgRetire x.e 2 (s.tgJump x.e ((s.tg.get x.e).reg rs1 / 4 * 4 % 0x1_0000)))) ∧
  (∀ (x : TgAt) (off : Fin 67108864) (s : State), tgReady x (tgJ 0x28 off) .branch s = true →
      exec (.tgJmp x off) s = .next (State.tgRetire x.e 2 (s.tgJump x.e (s.tgTarget x.e 26 off)))) ∧
  (∀ (x : TgAt) (off : Fin 67108864) (s : State), tgReady x (tgJ 0x29 off) .branch s = true →
      exec (.tgCall x off) s = .next (State.tgRetire x.e 2 ((s.tgSet x.e (fun g => g.setReg 31 (g.pc + 8))).tgJump x.e (s.tgTarget x.e 26 off)))) ∧
  (∀ (x : TgAt) (rs1 rs2 : Fin 32) (off : Fin 65536) (s : State), tgReady x (tgB 0x20 rs1 rs2 off) .branch s = true →
      (s.tg.get x.e).reg rs1 = (s.tg.get x.e).reg rs2 →
      exec (.tgBeq x rs1 rs2 off) s = .next (((s.tgSet x.e (fun g => g.leave (s.tgTarget x.e 16 off))).tgSet x.e (fun y => { y with ds := some (y.pc, s.tgTarget x.e 16 off), pc := (y.pc + 4) % 0x1_0000, shadow := false, cost := y.cost + 1 + 1 })).tgBoundary x.e)) ∧
  (∀ (x : TgAt) (rs1 rs2 : Fin 32) (off : Fin 65536) (s : State), tgReady x (tgB 0x20 rs1 rs2 off) .branch s = true →
      ¬ ((s.tg.get x.e).reg rs1 = (s.tg.get x.e).reg rs2) →
      exec (.tgBeq x rs1 rs2 off) s = .next ((s.tgSet x.e (fun y => { y with ds := some (y.pc, ((s.tg.get x.e).pc + 8) % 0x1_0000), pc := (y.pc + 4) % 0x1_0000, shadow := false, cost := y.cost + 1 })).tgBoundary x.e)) ∧
  (∀ (x : TgAt) (rs1 rs2 : Fin 32) (off : Fin 65536) (s : State), tgReady x (tgB 0x21 rs1 rs2 off) .branch s = true →
      (s.tg.get x.e).reg rs1 ≠ (s.tg.get x.e).reg rs2 →
      exec (.tgBne x rs1 rs2 off) s = .next (((s.tgSet x.e (fun g => g.leave (s.tgTarget x.e 16 off))).tgSet x.e (fun y => { y with ds := some (y.pc, s.tgTarget x.e 16 off), pc := (y.pc + 4) % 0x1_0000, shadow := false, cost := y.cost + 1 + 1 })).tgBoundary x.e)) ∧
  (∀ (x : TgAt) (rs1 rs2 : Fin 32) (off : Fin 65536) (s : State), tgReady x (tgB 0x21 rs1 rs2 off) .branch s = true →
      ¬ ((s.tg.get x.e).reg rs1 ≠ (s.tg.get x.e).reg rs2) →
      exec (.tgBne x rs1 rs2 off) s = .next ((s.tgSet x.e (fun y => { y with ds := some (y.pc, ((s.tg.get x.e).pc + 8) % 0x1_0000), pc := (y.pc + 4) % 0x1_0000, shadow := false, cost := y.cost + 1 })).tgBoundary x.e)) ∧
  (∀ (x : TgAt) (rs1 rs2 : Fin 32) (off : Fin 65536) (s : State), tgReady x (tgB 0x22 rs1 rs2 off) .branch s = true →
      (s.tg.get x.e).regS rs1 < (s.tg.get x.e).regS rs2 →
      exec (.tgBlt x rs1 rs2 off) s = .next (((s.tgSet x.e (fun g => g.leave (s.tgTarget x.e 16 off))).tgSet x.e (fun y => { y with ds := some (y.pc, s.tgTarget x.e 16 off), pc := (y.pc + 4) % 0x1_0000, shadow := false, cost := y.cost + 1 + 1 })).tgBoundary x.e)) ∧
  (∀ (x : TgAt) (rs1 rs2 : Fin 32) (off : Fin 65536) (s : State), tgReady x (tgB 0x22 rs1 rs2 off) .branch s = true →
      ¬ ((s.tg.get x.e).regS rs1 < (s.tg.get x.e).regS rs2) →
      exec (.tgBlt x rs1 rs2 off) s = .next ((s.tgSet x.e (fun y => { y with ds := some (y.pc, ((s.tg.get x.e).pc + 8) % 0x1_0000), pc := (y.pc + 4) % 0x1_0000, shadow := false, cost := y.cost + 1 })).tgBoundary x.e)) ∧
  (∀ (x : TgAt) (rs1 rs2 : Fin 32) (off : Fin 65536) (s : State), tgReady x (tgB 0x23 rs1 rs2 off) .branch s = true →
      (s.tg.get x.e).regS rs2 ≤ (s.tg.get x.e).regS rs1 →
      exec (.tgBge x rs1 rs2 off) s = .next (((s.tgSet x.e (fun g => g.leave (s.tgTarget x.e 16 off))).tgSet x.e (fun y => { y with ds := some (y.pc, s.tgTarget x.e 16 off), pc := (y.pc + 4) % 0x1_0000, shadow := false, cost := y.cost + 1 + 1 })).tgBoundary x.e)) ∧
  (∀ (x : TgAt) (rs1 rs2 : Fin 32) (off : Fin 65536) (s : State), tgReady x (tgB 0x23 rs1 rs2 off) .branch s = true →
      ¬ ((s.tg.get x.e).regS rs2 ≤ (s.tg.get x.e).regS rs1) →
      exec (.tgBge x rs1 rs2 off) s = .next ((s.tgSet x.e (fun y => { y with ds := some (y.pc, ((s.tg.get x.e).pc + 8) % 0x1_0000), pc := (y.pc + 4) % 0x1_0000, shadow := false, cost := y.cost + 1 })).tgBoundary x.e)) ∧
  (∀ (x : TgAt) (rs1 rs2 : Fin 32) (off : Fin 65536) (s : State), tgReady x (tgB 0x24 rs1 rs2 off) .branch s = true →
      (s.tg.get x.e).reg rs1 < (s.tg.get x.e).reg rs2 →
      exec (.tgBltu x rs1 rs2 off) s = .next (((s.tgSet x.e (fun g => g.leave (s.tgTarget x.e 16 off))).tgSet x.e (fun y => { y with ds := some (y.pc, s.tgTarget x.e 16 off), pc := (y.pc + 4) % 0x1_0000, shadow := false, cost := y.cost + 1 + 1 })).tgBoundary x.e)) ∧
  (∀ (x : TgAt) (rs1 rs2 : Fin 32) (off : Fin 65536) (s : State), tgReady x (tgB 0x24 rs1 rs2 off) .branch s = true →
      ¬ ((s.tg.get x.e).reg rs1 < (s.tg.get x.e).reg rs2) →
      exec (.tgBltu x rs1 rs2 off) s = .next ((s.tgSet x.e (fun y => { y with ds := some (y.pc, ((s.tg.get x.e).pc + 8) % 0x1_0000), pc := (y.pc + 4) % 0x1_0000, shadow := false, cost := y.cost + 1 })).tgBoundary x.e)) ∧
  (∀ (x : TgAt) (rs1 rs2 : Fin 32) (off : Fin 65536) (s : State), tgReady x (tgB 0x25 rs1 rs2 off) .branch s = true →
      (s.tg.get x.e).reg rs2 ≤ (s.tg.get x.e).reg rs1 →
      exec (.tgBgeu x rs1 rs2 off) s = .next (((s.tgSet x.e (fun g => g.leave (s.tgTarget x.e 16 off))).tgSet x.e (fun y => { y with ds := some (y.pc, s.tgTarget x.e 16 off), pc := (y.pc + 4) % 0x1_0000, shadow := false, cost := y.cost + 1 + 1 })).tgBoundary x.e)) ∧
  (∀ (x : TgAt) (rs1 rs2 : Fin 32) (off : Fin 65536) (s : State), tgReady x (tgB 0x25 rs1 rs2 off) .branch s = true →
      ¬ ((s.tg.get x.e).reg rs2 ≤ (s.tg.get x.e).reg rs1) →
      exec (.tgBgeu x rs1 rs2 off) s = .next ((s.tgSet x.e (fun y => { y with ds := some (y.pc, ((s.tg.get x.e).pc + 8) % 0x1_0000), pc := (y.pc + 4) % 0x1_0000, shadow := false, cost := y.cost + 1 })).tgBoundary x.e)) ∧
  (∀ (x : TgAt) (level : Fin 2) (rs1 : Fin 32) (off : Fin 65536) (s : State), tgReady x (tgL 0x30 level rs1 off) .loop s = true →
      exec (.tgLoop x level rs1 off) s = .next (State.tgRetire x.e 2 (s.tgLoop x.e level ((s.tg.get x.e).reg rs1) off (tgL 0x30 level rs1 off)))) ∧
  (∀ (x : TgAt) (level : Fin 2) (n : Fin 512) (off : Fin 65536) (s : State), tgReady x (tgL 0x31 level n off) .loop s = true →
      exec (.tgLoopi x level n off) s = .next (State.tgRetire x.e 2 (s.tgLoop x.e level n off (tgL 0x31 level n off))))

/-- Loads, stores and control-lane accesses of a Tangram engine. Rules: R134, R136, R145, R151, R158, R166, R171, R173. Where a clause rests on a reading or a choice of the model and not on the words of a rule: log entries 50, 51, 130. -/
def Obligations.TangramMemory : Prop :=
  (∀ (x : TgAt) (rd rs1 : Fin 32) (imm : Fin 65536) (data : TgEcc) (s : State), tgReady x (tgI 0x10 rd rs1 imm) .plain s = true →
      data = .clean →
      (s.tg.get x.e).dAddr rs1 imm % 4 = 0 →
      exec (.tgLw x rd rs1 imm data) s = .next ((s.tgSet x.e (fun g => g.setReg rd (s.load (tgDmem x.e + (s.tg.get x.e).dAddr rs1 imm) 4))).tgNext x.e 4 false)) ∧
  (∀ (x : TgAt) (rd rs1 : Fin 32) (imm : Fin 65536) (data : TgEcc) (s : State), tgReady x (tgI 0x10 rd rs1 imm) .plain s = true →
      (s.tg.get x.e).dAddr rs1 imm % 4 ≠ 0 →
      exec (.tgLw x rd rs1 imm data) s = .next (s.tgTrap x.e 3 ((s.tg.get x.e).dAddr rs1 imm))) ∧
  (∀ (x : TgAt) (rd rs1 : Fin 32) (imm : Fin 65536) (data : TgEcc) (s : State), tgReady x (tgI 0x11 rd rs1 imm) .plain s = true →
      data = .clean →
      (s.tg.get x.e).dAddr rs1 imm % 2 = 0 →
      exec (.tgLh x rd rs1 imm data) s = .next ((s.tgSet x.e (fun g => g.setReg rd (ofS 32 (toS 16 (s.load (tgDmem x.e + (s.tg.get x.e).dAddr rs1 imm) 2))))).tgNext x.e 4 false)) ∧
  (∀ (x : TgAt) (rd rs1 : Fin 32) (imm : Fin 65536) (data : TgEcc) (s : State), tgReady x (tgI 0x12 rd rs1 imm) .plain s = true →
      data = .clean →
      (s.tg.get x.e).dAddr rs1 imm % 2 = 0 →
      exec (.tgLhu x rd rs1 imm data) s = .next ((s.tgSet x.e (fun g => g.setReg rd (s.load (tgDmem x.e + (s.tg.get x.e).dAddr rs1 imm) 2))).tgNext x.e 4 false)) ∧
  (∀ (x : TgAt) (a rs1 : Fin 32) (imm : Fin 65536) (data : TgEcc) (s : State), tgReady x (tgI 0x13 a rs1 imm) .plain s = true →
      data = .clean →
      (s.tg.get x.e).dAddr rs1 imm % 4 = 0 →
      exec (.tgLacc x a rs1 imm data) s = .next ((s.tgSet x.e (fun g => g.putAcc a (s.load (tgDmem x.e + ((s.tg.get x.e).dAddr rs1 imm + 4 * 0) % 0x1_0000) 4 + s.load (tgDmem x.e + ((s.tg.get x.e).dAddr rs1 imm + 4 * 1) % 0x1_0000) 4 * 2 ^ 32 + s.load (tgDmem x.e + ((s.tg.get x.e).dAddr rs1 imm + 4 * 2) % 0x1_0000) 4 % 256 * 2 ^ 64))).tgNext x.e 8 false)) ∧
  (∀ (x : TgAt) (rs2 rs1 : Fin 32) (imm : Fin 65536) (s : State), tgReady x (tgS 0x14 rs2 rs1 imm) .plain s = true →
      (s.tg.get x.e).dAddr rs1 imm % 4 = 0 →
      s.tgPaired x.e = false →
      exec (.tgSw x rs2 rs1 imm) s = .next ((s.store (tgDmem x.e + (s.tg.get x.e).dAddr rs1 imm) 4 ((s.tg.get x.e).reg rs2)).tgNext x.e 4 false)) ∧
  (∀ (x : TgAt) (rs2 rs1 : Fin 32) (imm : Fin 65536) (s : State), tgReady x (tgS 0x14 rs2 rs1 imm) .plain s = true →
      (s.tg.get x.e).dAddr rs1 imm % 4 ≠ 0 →
      exec (.tgSw x rs2 rs1 imm) s = .next (s.tgTrap x.e 3 ((s.tg.get x.e).dAddr rs1 imm))) ∧
  (∀ (x : TgAt) (rs2 rs1 : Fin 32) (imm : Fin 65536) (s : State), tgReady x (tgS 0x15 rs2 rs1 imm) .plain s = true →
      (s.tg.get x.e).dAddr rs1 imm % 2 = 0 →
      s.tgPaired x.e = false →
      exec (.tgSh x rs2 rs1 imm) s = .next ((s.store (tgDmem x.e + (s.tg.get x.e).dAddr rs1 imm) 2 ((s.tg.get x.e).reg rs2)).tgNext x.e 4 false)) ∧
  (∀ (x : TgAt) (a rs1 : Fin 32) (imm : Fin 65536) (s : State), tgReady x (tgI 0x17 a rs1 imm) .plain s = true →
      (s.tg.get x.e).dAddr rs1 imm % 4 = 0 →
      s.tgPaired x.e = false →
      exec (.tgSacc x a rs1 imm) s = .next ((((s.store (tgDmem x.e + (s.tg.get x.e).dAddr rs1 imm) 4 ((if a.val = 0 then (s.tg.get x.e).acc0 else (s.tg.get x.e).acc1) % 2 ^ 32)).store (tgDmem x.e + ((s.tg.get x.e).dAddr rs1 imm + 4) % 0x1_0000) 4 ((if a.val = 0 then (s.tg.get x.e).acc0 else (s.tg.get x.e).acc1) / 2 ^ 32 % 2 ^ 32)).store (tgDmem x.e + ((s.tg.get x.e).dAddr rs1 imm + 8) % 0x1_0000) 4 ((if a.val = 0 then (s.tg.get x.e).acc0 else (s.tg.get x.e).acc1) / 2 ^ 64 % 256)).tgNext x.e 8 false)) ∧
  (∀ (x : TgAt) (rd rs1 : Fin 32) (imm : Fin 65536) (parity : LaneParity) (s : State), tgReady x (tgI 0x18 rd rs1 imm) .plain s = true →
      parity = .none →
      (s.tg.get x.e).laneAddr rs1 imm % 4 = 0 →
      lanePage ((s.tg.get x.e).laneAddr rs1 imm) = true →
      s.checkReq ((s.tg.get x.e).laneAddr rs1 imm) (ownReq (16 + x.e)) .read = none →
      exec (.tgLdc x rd rs1 imm parity) s = .next (((s.tgLdc x.e ((s.tg.get x.e).laneAddr rs1 imm) .none).2.tgSet x.e (fun g => g.setReg rd ((s.tgLdc x.e ((s.tg.get x.e).laneAddr rs1 imm) .none).1.getD 0))).tgNext x.e 64 false)) ∧
  (∀ (x : TgAt) (rs2 rs1 : Fin 32) (imm : Fin 65536) (s : State), tgReady x (tgS 0x19 rs2 rs1 imm) .plain s = true →
      (s.tg.get x.e).laneAddr rs1 imm % 4 = 0 →
      lanePage ((s.tg.get x.e).laneAddr rs1 imm) = true →
      s.checkReq ((s.tg.get x.e).laneAddr rs1 imm) (ownReq (16 + x.e)) .write = none →
      (s.tg.get x.e).obuf.length < 32 →
      exec (.tgStc x rs2 rs1 imm) s = .next ((s.tgSet x.e (fun y => { y with obuf := y.obuf ++ [.lane ((s.tg.get x.e).laneAddr rs1 imm) ((s.tg.get x.e).reg rs2)] })).tgNext x.e 5 false)) ∧
  (∀ (x : TgAt) (rs2 rs1 : Fin 32) (imm : Fin 65536) (s : State), tgReady x (tgS 0x1A rs2 rs1 imm) .plain s = true →
      (s.tg.get x.e).laneAddr rs1 imm % 4 = 0 →
      stccPage ((s.tg.get x.e).laneAddr rs1 imm) = true →
      s.checkReq ((s.tg.get x.e).laneAddr rs1 imm) (ownReq (16 + x.e)) .write = none →
      (s.tg.get x.e).obuf.length < 31 →
      exec (.tgStcc x rs2 rs1 imm) s = .next ((s.tgSet x.e (fun y => { y with obuf := y.obuf ++ [.lane ((s.tg.get x.e).laneAddr rs1 imm) ((s.tg.get x.e).reg rs2), .lane ((s.tg.get x.e).laneAddr rs1 imm / 0x1000 * 0x1000 + 0x28) 1] })).tgNext x.e 5 false))

/-- Occurrences, dispatches, seals and deadlines of a Tangram engine. Rules: R139, R141, R167, R168, R172. Where a clause rests on a reading or a choice of the model and not on the words of a rule: log entries 44, 47, 113. -/
def Obligations.TangramIterations : Prop :=
  (∀ (e : Fin 12) (sl : Fin 8) (a b : Nat) (at_ : Stamp) (s t : State), s.arrive (isSlotDue e sl) = some (.slot a b at_, t) →
      t.tgLead e = e.val →
      t.on (TG_SLOT_EN e sl) = true →
      tgSlotValid (t.get (TG_SLOT_TYPE e sl)) (t.get (TG_SLOT_SRC e sl)) = true →
      (t.tg.get e).divs.get sl < t.get (TG_SLOT_DIV e sl) →
      exec (.tgOccurrence e sl) s = .next (t.tgSet e (fun x => { x with divs := x.divs.put sl ((t.tg.get e).divs.get sl + 1) }))) ∧
  (∀ (e : Fin 12) (sl : Fin 8) (a b : Nat) (at_ : Stamp) (s t : State), s.arrive (isSlotDue e sl) = some (.slot a b at_, t) →
      t.tgLead e = e.val →
      t.on (TG_SLOT_EN e sl) = true →
      tgSlotValid (t.get (TG_SLOT_TYPE e sl)) (t.get (TG_SLOT_SRC e sl)) = true →
      t.get (TG_SLOT_DIV e sl) ≤ (t.tg.get e).divs.get sl →
      exec (.tgOccurrence e sl) s = .next ((t.tgSet e (fun x => { x with divs := x.divs.put sl 0 })).tgOccur e sl at_.ns)) ∧
  (∀ (e : Fin 12) (sl : Fin 8) (s : State), s.arrive (isSlotDue e sl) = none →
      exec (.tgOccurrence e sl) s = .next s) ∧
  (∀ (e : Fin 12) (sl : Fin 8) (s : State), s.tgLead e = e.val →
      decide (e.val < nTg s.part) = true →
      exec (.tgSwdisp e sl) s = .next (s.tgOccur e sl s.nowNs)) ∧
  (∀ (e : Fin 12) (sl st : Nat) (s : State), s.tgLead e = e.val →
      s.on (TG_CTL_RUN e) = true →
      s.on (TG_STAT_BUSY e) = false →
      s.on (TG_STAT_HOLD e) = false →
      s.on (TG_PSTAT_SYNCING e) = false →
      s.on (TG_PSTAT_ESC e) = false →
      s.on (TG_MOVE_GO e) = false →
      s.pow.blk = none →
      lowestPend (s.tg.get e).pend = some (sl, st) →
      ∃ u : State, exec (.tgDispatch e) s = .next ((State.each u (s.tgCopies e) (fun t k => (t.set (TG_STAT_BUSY k) 1).set (TG_STAT_SLOT k) sl)).tgPendBit e) ∧ u = (s.each (s.tgCopies e) State.dmemFlush).tgSet e (fun x => { TgEng.start { x with pend := x.pend.filter (fun p => p.1 != sl), ldc := [] } (s.get (TG_SLOTENT_ENT e sl)) (s.get (TG_SLOT_MODE e sl)) sl st with snap := { t := x.t, acc0 := x.acc0, acc1 := x.acc1, mode := s.get (TG_SLOT_MODE e sl) } })) ∧
  (∀ (e : Fin 12) (s : State), s.on (TG_STAT_BUSY e) = true →
      exec (.tgDispatch e) s = .next s) ∧
  (∀ (e : Fin 12) (c : TgCmp) (s : State), s.tgLead e = e.val →
      (s.tg.get e).ended = true →
      s.tgCompared e = false →
      exec (.tgSeal e c) s = .next (s.tgRelease e)) ∧
  (∀ (e : Fin 12) (s : State), s.tgLead e = e.val →
      (s.tg.get e).ended = true →
      s.tgCompared e = true →
      exec (.tgSeal e .agree) s = .next (s.tgRelease e) ∧ exec (.tgSeal e .output) s = .next (s.tgMismatch e 1) ∧ exec (.tgSeal e .signature) s = .next (s.tgMismatch e 2)) ∧
  (∀ (e : Fin 12) (s : State), s.tgCompared e = true →
      s.on (TG_STAT_BUSY e) = true →
      exec (.tgSkewTimeout e) s = .next (s.tgMismatch e 3)) ∧
  (∀ (e : Fin 12) (s : State), s.tgLead e = e.val →
      s.on (TG_STAT_BUSY e) = true →
      s.on (TG_SLOTLIM_DEADLINE e (s.tg.get e).dslot) = true →
      exec (.tgDeadlineExpiry e) s = .next (((s.set (TG_STAT_LATEDROP e) 1).tgFault e 5 0 0).tgFinish e))

/-- DMEM writes, pairs and moves of Tangram engines. Rules: R135, R170, R177, R178, R179. Where a clause rests on a reading or a choice of the model and not on the words of a rule: log entries 48, 49, 132, 146. -/
def Obligations.TangramPairs : Prop :=
  (∀ (e : Fin 12) (off size v : Nat) (s : State), s.tgLead e = e.val →
      decide (e.val < nTg s.part) = true →
      exec (.tgDmemWrite e off size v) s = .next (s.tgFabricDmem e off size v)) ∧
  (∀ (e : Fin 12) (p : Bool) (s : State), e.val % 2 = 1 ∨ s.on (TG_CTL_RUN e) = true ∨ s.on (TG_CTL_RUN (e + 1)) = true →
      decide (e.val < nTg s.part) = true →
      exec (.tgPairWrite e p) s = .next s) ∧
  (∀ (e : Fin 12) (s : State), e.val % 2 = 0 →
      s.on (TG_CTL_RUN e) = false →
      s.on (TG_CTL_RUN (e + 1)) = false →
      s.unusable (72 + e) = false →
      s.unusable (73 + e) = false →
      s.on (TG_PCTL_PAIR e) = false →
      decide (e.val < nTg s.part) = true →
      exec (.tgPairWrite e true) s = .next ((s.set (TG_PCTL_PAIR e) 1).set (TG_PSTAT_SYNCING e) 1)) ∧
  (∀ (e : Fin 12) (s : State), e.val % 2 = 0 →
      s.on (TG_CTL_RUN e) = false →
      s.on (TG_CTL_RUN (e + 1)) = false →
      decide (e.val < nTg s.part) = true →
      exec (.tgPairWrite e false) s = .next ((s.tgSlicesAbort e).set (TG_PCTL_PAIR e) 0)) ∧
  (∀ (e : Fin 12) (s : State), s.on (TG_PSTAT_SYNCING e) = true →
      exec (.tgPairSyncDone e) s = .next (State.set { s with mem := copyWindow (tgImem e) (tgImem (e + 1)) 0x2_0000 s.mem, tg := s.tg.put (e + 1) { s.tg.get e with inq := (s.tg.get (e + 1)).inq } } (TG_PSTAT_SYNCING e) 0)) ∧
  (∀ (e : Fin 12) (d : Fin 16) (s : State), s.on (TG_MOVE_GO e) = false →
      decide (e.val < nTg s.part) = true →
      exec (.tgMoveGo e d) s = .next ((s.set (TG_MOVE_DEST e) d).tgMoveGo e d)) ∧
  (∀ (e : Fin 12) (d : Fin 16) (s : State), s.on (TG_MOVE_GO e) = true →
      decide (e.val < nTg s.part) = true →
      exec (.tgMoveGo e d) s = .next s) ∧
  (∀ (e : Fin 12) (s : State), s.on (TG_MOVE_GO e) = true →
      s.on (TG_STAT_BUSY e) = false →
      exec (.tgMoveFreeze e) s = .next (s.set (TG_STAT_HOLD e) 1)) ∧
  (∀ (e : Fin 12) (s : State), s.on (TG_MOVE_GO e) = true →
      s.on (TG_STAT_HOLD e) = true →
      ∃ u : State, exec (.tgMoveComplete e) s = .next (State.raise (State.set (State.set (State.set (u) (TG_MOVE_FWD e) 1) (TG_MOVE_DONE e) 1) (TG_MOVE_GO e) 0) (48 + 2 * e) (6 * 2 ^ 24))) ∧
  (∀ (e : Fin 12) (s : State), s.on (TG_MOVE_FWD e) = true →
      decide (e.val < nTg s.part) = true →
      exec (.tgMoveFwdClear e) s = .next ((s.set (TG_MOVE_FWD e) 0).set (TG_STAT_HOLD e) 0))

/-- Commands to the power dies: queue, application, acknowledgement and resends. Rules: R188, R189, R190, R191, R192, R193. Where a clause rests on a reading or a choice of the model and not on the words of a rule: log entries 52, 133, 134, 143. -/
def Obligations.PscCommands : Prop :=
  (∀ (n : Fin 40) (r : Req) (s : State), hasPsc s.part n = true →
      s.checkReq (a_PSC_CMD n) r .write = none →
      s.idling 85 = false →
      s.pscOwns n r none = true →
      (s.psc.queue.get (pscDieOf n)).length < 64 →
      exec (.pscOn n r none) s = .next (State.set { s with psc := { s.psc with queue := s.psc.queue.upd (pscDieOf n) (fun q => q ++ [{ n := n, op := 1 }]) } } (PSC_STAT_CMDPEND n) 1)) ∧
  (∀ (n : Fin 40) (r : Req) (s : State), hasPsc s.part n = true →
      s.checkReq (a_PSC_CMD n) r .write = none →
      s.idling 85 = false →
      s.pscOwns n r none = true →
      (s.psc.queue.get (pscDieOf n)).length < 64 →
      exec (.pscOff n r none) s = .next (State.set { s with psc := { s.psc with queue := s.psc.queue.upd (pscDieOf n) (fun q => q ++ [{ n := n, op := 2 }]) } } (PSC_STAT_CMDPEND n) 1)) ∧
  (∀ (n : Fin 40) (r : Req) (s : State), hasPsc s.part n = true →
      s.checkReq (a_PSC_CMD n) r .write = none →
      s.idling 85 = false →
      s.pscOwns n r none = true →
      (s.psc.queue.get (pscDieOf n)).length < 64 →
      exec (.pscPwm n r none) s = .next (State.set { s with psc := { s.psc with queue := s.psc.queue.upd (pscDieOf n) (fun q => q ++ [{ n := n, op := 3 }]) } } (PSC_STAT_CMDPEND n) 1)) ∧
  (∀ (n : Fin 40) (r : Req) (s : State), hasPsc s.part n = true →
      s.checkReq (a_PSC_CMD n) r .write = none →
      s.idling 85 = false →
      s.pscOwns n r none = true →
      (s.psc.queue.get (pscDieOf n)).length < 64 →
      exec (.pscClear n r none) s = .next (State.set { s with psc := { s.psc with queue := s.psc.queue.upd (pscDieOf n) (fun q => q ++ [{ n := n, op := 4 }]) } } (PSC_STAT_CMDPEND n) 1)) ∧
  (∀ (n : Fin 40) (r : Req) (s : State), hasPsc s.part n = true →
      s.checkReq (a_PSC_CMD n) r .write = none →
      s.idling 85 = false →
      s.pscOwns n r none = true →
      (s.psc.queue.get (pscDieOf n)).length < 64 →
      exec (.pscOlcheck n r none) s = .next (State.set { s with psc := { s.psc with queue := s.psc.queue.upd (pscDieOf n) (fun q => q ++ [{ n := n, op := 5 }]) } } (PSC_STAT_CMDPEND n) 1)) ∧
  (∀ (n : Fin 40) (r : Req) (i a : Nat) (x : State × FabEnd) (s : State), s.pscAt n (some i) = some a →
      hasPsc s.part n = true →
      s.checkReq a r .write = none →
      x = s.viPage r .write a 4 1 →
      exec (.pscOn n r (some i)) s = .next (if x.2 = .error then x.1.emit (.resp r.id true 0) else x.1)) ∧
  (∀ (n : Fin 40) (r : Req) (i a : Nat) (x : State × FabEnd) (s : State), s.pscAt n (some i) = some a →
      hasPsc s.part n = true →
      s.checkReq a r .write = none →
      x = s.viPage r .write a 4 2 →
      exec (.pscOff n r (some i)) s = .next (if x.2 = .error then x.1.emit (.resp r.id true 0) else x.1)) ∧
  (∀ (n : Fin 40) (r : Req) (i a : Nat) (x : State × FabEnd) (s : State), s.pscAt n (some i) = some a →
      hasPsc s.part n = true →
      s.checkReq a r .write = none →
      x = s.viPage r .write a 4 3 →
      exec (.pscPwm n r (some i)) s = .next (if x.2 = .error then x.1.emit (.resp r.id true 0) else x.1)) ∧
  (∀ (n : Fin 40) (r : Req) (i a : Nat) (x : State × FabEnd) (s : State), s.pscAt n (some i) = some a →
      hasPsc s.part n = true →
      s.checkReq a r .write = none →
      x = s.viPage r .write a 4 4 →
      exec (.pscClear n r (some i)) s = .next (if x.2 = .error then x.1.emit (.resp r.id true 0) else x.1)) ∧
  (∀ (n : Fin 40) (r : Req) (i a : Nat) (x : State × FabEnd) (s : State), s.pscAt n (some i) = some a →
      hasPsc s.part n = true →
      s.checkReq a r .write = none →
      x = s.viPage r .write a 4 5 →
      exec (.pscOlcheck n r (some i)) s = .next (if x.2 = .error then x.1.emit (.resp r.id true 0) else x.1)) ∧
  (∀ (n : Fin 40) (r : Req) (s : State), hasPsc s.part n = true →
      s.checkReq (a_PSC_CMD n) r .write = none →
      s.idling 85 = false →
      s.pscOwns n r none = false →
      exec (.pscOn n r none) s = .next (((s.refuse (a_PSC_CMD n) r .write 9 0x4200_0000).pscRefuse n).emit (.resp r.id true 0))) ∧
  (∀ (n : Fin 40) (r : Req) (t : State) (s : State), hasPsc s.part n = true →
      s.checkReq (a_PSC_CMD n) r .write = some t →
      exec (.pscOn n r none) s = .next (t.emit (.resp r.id true 0))) ∧
  (∀ (f : Fin 2) (c : PscCmd) (q : List PscCmd) (s : State), s.psc.queue.get f = c :: q →
      c.applied = false →
      s.pscTakes f = true →
      hasDie s.part f = true →
      exec (.pscCommandApply f true none) s = .next (State.pscApply (State.pscStep { s with psc := { s.psc with queue := s.psc.queue.put f ({ c with applied := true } :: q) } } f 5) c.n c.op)) ∧
  (∀ (f : Fin 2) (c : PscCmd) (q : List PscCmd) (s : State), s.psc.queue.get f = c :: q →
      c.applied = true →
      hasDie s.part f = true →
      exec (.pscCommandApply f true none) s = .next s) ∧
  (∀ (f : Fin 2) (c : PscCmd) (q : List PscCmd) (s : State), s.psc.queue.get f = c :: q →
      s.pscTakes f = true →
      hasDie s.part f = true →
      exec (.pscCommandApply f false none) s = .next (s.inc (PSC_LINKSTAT_CRCERR f))) ∧
  (∀ (f : Fin 2) (b : Bool) (s : State), s.pscTakes f = false →
      hasDie s.part f = true →
      exec (.pscCommandApply f b none) s = .next s) ∧
  (∀ (f : Fin 2) (n : Fin 40) (op : Fin 16) (s : State), isTwin s.part = true →
      s.dieMine = false →
      (s.psc.die.get f).hold = false →
      (s.psc.die.get f).off = false →
      pscDieOf n = f →
      1 ≤ op.val →
      op.val ≤ 5 →
      hasDie s.part f = true →
      exec (.pscCommandApply f true (some (n, op))) s = .next ((s.pscStep f 5).pscApply n op)) ∧
  (∀ (f : Fin 2) (c : PscCmd) (q : List PscCmd) (s : State), s.psc.queue.get f = c :: q →
      c.applied = true →
      hasDie s.part f = true →
      exec (.pscAckReceive f true) s = .next (State.set { s with psc := { s.psc with queue := s.psc.queue.put f q } } (PSC_STAT_CMDPEND c.n) (b2n (q.any (fun d => d.n == c.n))))) ∧
  (∀ (f : Fin 2) (c : PscCmd) (q : List PscCmd) (s : State), s.psc.queue.get f = c :: q →
      c.applied = true →
      hasDie s.part f = true →
      exec (.pscAckReceive f false) s = .next (s.inc (PSC_LINKSTAT_CRCERR f))) ∧
  (∀ (f : Fin 2) (c : PscCmd) (q : List PscCmd) (b : Bool) (s : State), s.psc.queue.get f = c :: q →
      c.applied = false →
      hasDie s.part f = true →
      exec (.pscAckReceive f b) s = .next s) ∧
  (∀ (f : Fin 2) (c : PscCmd) (q : List PscCmd) (s : State), s.psc.queue.get f = c :: q →
      c.resent < 3 →
      hasDie s.part f = true →
      exec (.pscAckTimeout f) s = .next (State.inc { s with psc := { s.psc with queue := s.psc.queue.put f ({ c with resent := c.resent + 1 } :: q) } } (PSC_LINKSTAT_RETRIES f))) ∧
  (∀ (f : Fin 2) (c : PscCmd) (q : List PscCmd) (s : State), s.psc.queue.get f = c :: q →
      c.resent = 3 →
      hasDie s.part f = true →
      ∃ u, u = ((s.pscPop f).set (PSC_STAT_CMDFAIL c.n) 1).inc (PSC_LINKSTAT_FAILS f) ∧ exec (.pscAckTimeout f) s = .next ((u.pscRaise c.n 14).dieRaise f 3 (u.get (PSC_LINKSTAT_FAILS f))))

/-- Measurements of the power dies, ranges, records and open load. Rules: R196, R197, R198, R199, R200, R201. Where a clause rests on a reading or a choice of the model and not on the words of a rule: log entries 54, 114, 133. -/
def Obligations.PscMeasurement : Prop :=
  (∀ (n : Nat) (i : Int) (s : State), s.pscHeld n = false →
      sampleCarried s.part (.cur n i) = true →
      exec (.pscSample (.cur n i)) s = .next ((((s.chUpd n (fun c => { c with lastI := i.toNat, lowRun := if i.toNat < 4500 then c.lowRun + 1 else 0, sum := c.sum + (if (s.psc.ch.get n).low then pscReading n (s.psc.ch.get n).low i else pscReading n (s.psc.ch.get n).low i * 10 * pscLsb n), cnt := c.cnt + 1 })).addWrap (PSC_CUR_SEQ n) 1).set (PSC_CUR_I n) (pscReading n (s.psc.ch.get n).low i)).set (PSC_CUR_RANGE n) (b2n (s.psc.ch.get n).low))) ∧
  (∀ (n : Nat) (v : Int) (s : State), s.pscHeld n = false →
      sampleCarried s.part (.vout n v) = true →
      exec (.pscSample (.vout n v)) s = .next ((s.chUpd n (fun c => { c with vout := clampI (-32768) 32767 v, vsum := c.vsum + clampI (-32768) 32767 v, vcnt := c.vcnt + 1 })).setS (PSC_VOUT_V n) (clampI (-32768) 32767 v))) ∧
  (∀ (n m : Nat) (s : State), s.pscHeld n = false →
      (s.psc.ch.get n).cnt ≠ 0 →
      m = (s.psc.ch.get n).sum / (s.psc.ch.get n).cnt →
      sampleCarried s.part (.avg n) = true →
      exec (.pscSample (.avg n)) s = .next ((s.chUpd n (fun c => { c with mean := m, avg := satU 16 (m / (10 * pscLsb n)), vmean := if c.vcnt = 0 then c.vmean else c.vsum / c.vcnt, sum := 0, cnt := 0, vsum := 0, vcnt := 0 })).set (PSC_CURAVG_I n) (satU 16 (m / (10 * pscLsb n))))) ∧
  (∀ (n : Nat) (i : Int) (s : State), s.pscHeld n = true →
      sampleCarried s.part (.cur n i) = true →
      exec (.pscSample (.cur n i)) s = .next (s.chUpd n (fun c => { c with lastI := i.toNat, lowRun := if i.toNat < 4500 then c.lowRun + 1 else 0, sum := c.sum + (if (s.psc.ch.get n).low then pscReading n (s.psc.ch.get n).low i else pscReading n (s.psc.ch.get n).low i * 10 * pscLsb n), cnt := c.cnt + 1 }))) ∧
  (∀ (f vpwr : Nat) (u : State) (s : State), (s.psc.die.get f).hold = false →
      u = ((s.dieUpd f (fun d => { d with isum := s.feedSum f, uv := d.uv && decide (vpwr < 6000), uvCh := d.uv && decide (4500 ≤ vpwr) && decide (vpwr < 6000), ov := d.ov && decide (18000 < vpwr), overMs := if 100 * min 80 (s.dget (PSC_FEEDCFG_FEEDLIM f)) < s.feedSum f then d.overMs + 1 else 0 })).dieShow f).roomSee f true →
      sampleCarried s.part (.feed f vpwr) = true →
      exec (.pscSample (.feed f vpwr)) s = .next ((u.set (PSC_FEEDSTAT_VPWR f) (satU 16 vpwr)).set (PSC_FEEDSTAT_ISUM f) (satU 16 (s.feedSum f)))) ∧
  (∀ (g : Nat) (t : Int) (s : State), t < 1500 →
      10 * (s.twarn (if g < 5 then 0 else 1) : Nat) < t →
      (s.psc.die.get (if g < 5 then 0 else 1)).hold = false →
      sampleCarried s.part (.temp g t) = true →
      exec (.pscSample (.temp g t)) s = .next (State.setS (((State.dieUpd { s with psc := { s.psc with temps := s.psc.temps.put g t } } (if g < 5 then 0 else 1) (fun d => { d with otOff := putBit d.otOff g false, hotMs := d.hotMs.put g (d.hotMs.get g + 1) })).dieShow (if g < 5 then 0 else 1)).roomSee (if g < 5 then 0 else 1) false) (PSC_GRPTEMP_TEMP g) t)) ∧
  (∀ (f : Nat) (s : State), (s.psc.die.get f).hold = false →
      sampleCarried s.part (.bad f) = true →
      exec (.pscSample (.bad f)) s = .next (s.inc (PSC_LINKSTAT_CRCERR f))) ∧
  (∀ (n : Fin 40) (s : State), (s.psc.ch.get n).low = true →
      s.dget (PSC_CFG_LOWRANGE n) ≠ 0 →
      hasPsc s.part n = true →
      exec (.pscRangeSwitch n) s = .next ((s.chUpd n (fun c => { c with low := decide ((s.psc.ch.get n).lastI ≤ 5500) })).pscShow n)) ∧
  (∀ (n : Fin 40) (s : State), (s.psc.ch.get n).low = false →
      s.dget (PSC_CFG_LOWRANGE n) ≠ 0 →
      hasPsc s.part n = true →
      exec (.pscRangeSwitch n) s = .next ((s.chUpd n (fun c => { c with low := decide (50 ≤ (s.psc.ch.get n).lowRun) })).pscShow n)) ∧
  (∀ (n : Fin 40) (s : State), s.dget (PSC_CFG_LOWRANGE n) = 0 →
      hasPsc s.part n = true →
      exec (.pscRangeSwitch n) s = .next ((s.chUpd n (fun c => { c with low := false })).pscShow n)) ∧
  (∀ (s : State), s.on PSC_RECCTL_EN = true →
      s.checkReq (s.get PSC_RECBASE_BASE * 4096 + s.get PSC_RECWR_WR % (2 ^ (s.get PSC_RECCTL_SIZE + 12) / 256) * 256) (ownReq 14) .write = none →
      exec (.pscRecordWrite false) s = .next ((s.setBytes (s.get PSC_RECBASE_BASE * 4096 + s.get PSC_RECWR_WR % (2 ^ (s.get PSC_RECCTL_SIZE + 12) / 256) * 256) (toBytes 8 s.nowNs ++ toBytes 2 (s.get (PSC_FEEDSTAT_ISUM 0)) ++ toBytes 2 (s.get (PSC_FEEDSTAT_ISUM 1)) ++ toBytes 4 0 ++ (List.range 40).flatMap (fun k => toBytes 2 (s.get (PSC_CURAVG_I k)) ++ toBytes 2 (ofS 16 (s.psc.ch.get k).vmean)) ++ List.replicate 80 0)).set PSC_RECWR_WR (ringNext (s.get PSC_RECWR_WR % (2 ^ (s.get PSC_RECCTL_SIZE + 12) / 256)) (2 ^ (s.get PSC_RECCTL_SIZE + 12) / 256)))) ∧
  (∀ (n : Fin 40) (periodic : Bool) (v : Int) (s : State), (s.psc.ch.get n).st = 0 →
      (if periodic then 2 else 1) ≤ s.dget (PSC_CFG_OLOFF n) →
      hasPsc s.part n = true →
      exec (.offstateCheckStart n periodic v) s = .next (s.pscCheck n v)) ∧
  (∀ (n : Fin 40) (v : Int) (s : State), (s.psc.ch.get n).checking = true →
      (s.dget (PSC_OL_OLTHR n) : Int) * 50 < v →
      hasPsc s.part n = true →
      exec (.offstateCheckSettled n v) s = .next ((((s.chUpd n (fun c => { c with checking := false })).pscFlag n 14).chUpd n (fun c => { c with oldet := satU 8 (c.oldet + 1) })).pscEvent n 9)) ∧
  (∀ (n : Fin 40) (v : Int) (s : State), (s.psc.ch.get n).checking = true →
      v ≤ (s.dget (PSC_OL_OLTHR n) : Int) * 50 →
      hasPsc s.part n = true →
      exec (.offstateCheckSettled n v) s = .next (s.chUpd n (fun c => { c with checking := false }))) ∧
  (∀ (n : Fin 40) (largest : Nat) (s : State), s.dget (PSC_CFG_ONOL n) = 1 →
      s.dget (PSC_CFG_LOWRANGE n) = 1 →
      (s.psc.ch.get n).st = 1 →
      (s.psc.ch.get n).inrush = 0 →
      largest < min 5000 (s.dget (PSC_OL_ONOLTHR n)) →
      hasPsc s.part n = true →
      exec (.onstateOpenLoad n largest) s = .next (((s.pscFlag n 12).chUpd n (fun d => { d with oldet := satU 8 (d.oldet + 1) })).pscEvent n 11))

/-- Protection, retries, PWM periods and shedding of the switch channels. Rules: R194, R195, R202, R204, R205, R206, R208, R211, R212, R213, R214, R215. Where a clause rests on a reading or a choice of the model and not on the words of a rule: log entries 12, 53, 133. -/
def Obligations.PscProtection : Prop :=
  (∀ (n : Fin 40) (l : List Nat) (s : State), s.dget (PSC_PROT_OCFILT n) + 1 ≤ l.length →
      l.all (fun i => decide (s.pscOcThr n < i)) = true →
      hasPsc s.part n = true →
      exec (.pscOvercurrent n l) s = .next ((s.pscStep (pscDieOf n) 2).pscTrip n 1)) ∧
  (∀ (n : Fin 40) (l : List Nat) (s : State), l.all (fun i => decide (s.pscOcThr n < i)) = false →
      hasPsc s.part n = true →
      exec (.pscOvercurrent n l) s = .next s) ∧
  (∀ (n : Fin 40) (s : State), (s.psc.ch.get n).cause ≠ 1 →
      hasPsc s.part n = true →
      exec (.pscShortCircuit n) s = .next ((s.pscStep (pscDieOf n) 2).pscTrip n 2)) ∧
  (∀ (n : Fin 40) (s : State), (s.psc.ch.get n).st = 4 →
      (s.psc.ch.get n).cause = 1 →
      (s.psc.ch.get n).ocCycle = some ((s.pscStep (pscDieOf n) 2).psc.die.get (pscDieOf n)).cycle →
      hasPsc s.part n = true →
      exec (.pscShortCircuit n) s = .next (((s.pscStep (pscDieOf n) 2).chUpd n (fun d => { d with cause := 2 })).pscShow n)) ∧
  (∀ (g : Fin 10) (t : Int) (s : State), 1700 ≤ t →
      hasPsc s.part (4 * g) = true →
      exec (.pscGroupOvertemp g t) s = .next (((State.dieUpd (State.pscStep { s with psc := { s.psc with temps := s.psc.temps.put g t } } (if g.val < 5 then 0 else 1) 2) (if g.val < 5 then 0 else 1) (fun d => { d with otOff := putBit d.otOff g true })).dieShow (if g.val < 5 then 0 else 1)).each ((List.range 40).filter (fun n => pscGroup n == g.val)) (fun u n => u.pscTrip n 5))) ∧
  (∀ (n : Fin 40) (q : Nat) (s : State), s.wireClass n = none →
      hasPsc s.part n = true →
      exec (.i2tUpdate n q) s = .next ((s.chUpd n (fun c => { c with inrush := c.inrush - 1 })).pscShow n)) ∧
  (∀ (n : Fin 40) (q itrip tau : Nat) (s : State), s.wireClass n = some (itrip, tau) →
      s.dget (PSC_PROT_I2TWARN n) = 0 →
      wireStep itrip tau (((s.chUpd n (fun c => { c with inrush := c.inrush - 1 })).pscShow n).psc.ch.get n).x q < 2 ^ 48 →
      hasPsc s.part n = true →
      exec (.i2tUpdate n q) s = .next ((((s.chUpd n (fun c => { c with inrush := c.inrush - 1 })).pscShow n).chUpd n (fun d => { d with x := wireStep itrip tau (((s.chUpd n (fun c => { c with inrush := c.inrush - 1 })).pscShow n).psc.ch.get n).x q })).pscShow n)) ∧
  (∀ (n : Fin 40) (s : State), (s.psc.ch.get n).st = 3 →
      (s.psc.ch.get n).otWait = false →
      hasPsc s.part n = true →
      exec (.pscRetryDue n) s = .next (((s.pscStep (pscDieOf n) 3).chUpd n (fun d => { d with retries := satU 8 (d.retries + 1), otWait := false })).pscTo n (s.psc.ch.get n).back true)) ∧
  (∀ (n : Fin 40) (s : State), (s.psc.ch.get n).live = true →
      hasPsc s.part n = true →
      exec (.pscRetryRestore n) s = .next ((s.chUpd n (fun d => { d with rleft := s.dget (PSC_CFG_RETRY n) })).pscShow n)) ∧
  (∀ (n : Fin 40) (s : State), (s.psc.ch.get n).clampTimes = [] →
      (if n.val < 36 then 6 else 2) = 6 →
      hasPsc s.part n = true →
      exec (.pscClampEvent n) s = .next (((s.pscFlag n 11).chUpd n (fun c => { c with clampTimes := [s.pow.elapsed], clamps := satU 8 (c.clamps + 1) })).pscShow n)) ∧
  (∀ (n : Fin 40) (per duty : Nat) (s : State), (s.psc.ch.get n).st = 2 →
      per = min 4000 (max 100 (s.dget (PSC_PWMC_PERIOD n))) →
      duty = s.dget (PSC_PWMC_DUTY n) →
      hasPsc s.part n = true →
      exec (.pscPwmPeriod n false) s = .next (s.chUpd n (fun c => { c with per := per, duty := duty, gate := pscSteady n per duty != some false }))) ∧
  (∀ (n : Fin 40) (s : State), (s.psc.ch.get n).st = 2 →
      pscSteady n (s.psc.ch.get n).per (s.psc.ch.get n).duty = none →
      hasPsc s.part n = true →
      exec (.pscPwmPeriod n true) s = .next (s.chUpd n (fun c => { c with gate := false }))) ∧
  (∀ (n : Fin 40) (b : Bool) (s : State), (s.psc.ch.get n).st ≠ 2 →
      hasPsc s.part n = true →
      exec (.pscPwmPeriod n b) s = .next s) ∧
  (∀ (f : Fin 2) (n : Nat) (u s : State), s.shedDue f none = true →
      u = (s.pscStep f 4).shedAgain f none →
      u.shedPick ((pscOfDie f).filter (fun _ => true)) = some n →
      hasDie s.part f = true →
      exec (.pscShed f none) s = .next (((u.chUpd n (fun d => { d with back := (u.psc.ch.get n).st, shedCur := (u.psc.ch.get n).avg })).pscTo n 5 false).pscEvent n 7)) ∧
  (∀ (f : Fin 2) (u s : State), s.shedDue f none = true →
      u = (s.pscStep f 4).shedAgain f none →
      u.shedPick ((pscOfDie f).filter (fun _ => true)) = none →
      hasDie s.part f = true →
      exec (.pscShed f none) s = .next ((u.dieUpd f (fun d => { d with overLim := true })).dieEvent f 7 ((s.psc.die.get f).isum / 100))) ∧
  (∀ (f : Fin 2) (hot : Option (Fin 10)) (s : State), s.shedDue f hot = false →
      hasDie s.part f = true →
      exec (.pscShed f hot) s = .next s) ∧
  (∀ (f : Fin 2) (n : Nat) (s : State), s.restorePick f = some n →
      s.shedRoom f n = true →
      1000 ≤ (s.psc.die.get f).room →
      (s.psc.die.get f).roomCh = n →
      hasDie s.part f = true →
      exec (.pscRestore f) s = .next ((((s.pscStep f 4).dieUpd f (fun x => { x with room := 0 })).pscTo n (s.psc.ch.get n).back true).pscEvent n 8))

/-- Hold, mirror and feed of the power dies. Rules: R18, R216, R217, R218, R219, R220, R223. Where a clause rests on a reading or a choice of the model and not on the words of a rule: log entries 55, 56, 143. -/
def Obligations.PscHoldAndFeed : Prop :=
  (∀ (f : Fin 2) (s : State), hasDie s.part f = true →
      s.alive = true →
      s.cmp.scan = false →
      s.dieMine = true →
      (s.psc.die.get f).off = false →
      (s.psc.die.get f).hold = false →
      exec (.commandLinkHeartbeat f true false) s = .next ((s.emit (.link "HEARTBEAT" [f])).set (PSC_DIESTAT_LINKUP f) 1) ∧ exec (.commandLinkHeartbeat f false false) s = .next (s.emit (.link "HEARTBEAT" [f]))) ∧
  (∀ (f : Fin 2) (s : State), hasDie s.part f = true →
      s.alive = true →
      s.cmp.scan = false →
      s.dieMine = true →
      (s.psc.die.get f).off = false →
      (s.psc.die.get f).hold = true →
      exec (.commandLinkHeartbeat f true false) s = .next ((s.emit (.link "HEARTBEAT" [f])).holdLeave f)) ∧
  (∀ (f : Fin 2) (s : State), (s.psc.die.get f).hold = false →
      (s.psc.die.get f).off = false →
      hasDie s.part f = true →
      exec (.powerDieHoldEnter f) s = .next ((State.each (((s.dieUpd f (fun d => { d with hold := true, holdAt := s.pow.elapsed })).set (PSC_DIESTAT_LINKUP f) 0).set (PSC_DIESTAT_HOLD f) 1) (pscOfDie f) (fun t n => t.set (PSC_STAT_HELD n) 1)).each (pscOfDie f) (fun t n => t.chUpd n (fun c => { c with changed := false, last := c.cause })))) ∧
  (∀ (f : Fin 2) (ms : Nat) (s : State), (s.psc.die.get f).hold = true →
      (s.psc.die.get f).off = false →
      ms = s.holdMs f →
      hasDie s.part f = true →
      ∃ u v : State, exec (.powerDieHoldLeave f) s = .next (v.each (List.range (s.psc.queue.get f).length) (fun t _ => t.pscFail f)) ∧ v = ((((u.dieShow f).dieRaise f 1 0).dieRaise f 2 ms).each (pscOfDie f) (fun t n => if (t.psc.ch.get n).changed then (t.chUpd n (fun c => { c with changed := false })).pscRaise n (t.psc.ch.get n).last else t)) ∧ u = ((((s.dieUpd f (fun d => { d with hold := false })).set (PSC_DIESTAT_LINKUP f) 1).set (PSC_DIESTAT_HOLD f) 0).set (PSC_DIESTAT_HOLDMS f) ms).each (pscOfDie f) (fun t n => (t.set (PSC_STAT_HELD n) 0).pscShow n)) ∧
  (∀ (f : Fin 2) (s : State), (s.psc.die.get f).hold = false →
      hasDie s.part f = true →
      exec (.powerDieHoldLeave f) s = .next s) ∧
  (∀ (f : Fin 2) (s : State), s.alive = true →
      hasDie s.part f = true →
      exec (.pscMirrorLoad f) s = .next (s.mirrorLoad f)) ∧
  (∀ (f : Fin 2) (s : State), hasDie s.part f = true →
      exec (.feedPowerOnReset f) s = .next ((State.set (((s.pscStep f 1).each (dieFields f) (fun t d => t.dset d.2 d.2.rst)).dieUpd f (fun d => { d with configured := false, off := true, overMs := 0, hotMs := {}, room := 0 })) (PSC_DIESTAT_LINKUP f) 0).each (pscOfDie f) (fun t n => (t.chUpd n (fun c => { changed := c.changed, last := c.last })).pscShow n))) ∧
  (∀ (f : Fin 2) (s : State), (s.psc.die.get f).off = true →
      s.alive = true →
      hasDie s.part f = true →
      exec (.feedRestart f) s = .next ((s.dieUpd f (fun d => { d with off := false, restarted := true, loaded := false })).mirrorLoad f)) ∧
  (∀ (f : Fin 2) (s : State), hasDie s.part f = true →
      (s.psc.die.get f).hold = false →
      (s.psc.die.get f).off = false →
      (s.psc.die.get f).configured = false →
      (s.psc.die.get f).restarted = true →
      s.mirrorLoad f = (((((s.mirrorWrite f).dieUpd f (fun x => { x with loaded := true })).set (PSC_DIESTAT_LINKUP f) 1).each (pscOfDie f) State.pscShow).dieShow f).restartShow f) ∧
  (∀ (f : Fin 2) (v : Nat) (s : State), v < 6000 →
      (s.psc.die.get f).uv = false →
      hasDie s.part f = true →
      exec (.feedUndervoltage f v) s = .next ((((s.dieUpd f (fun d => { d with uv := true, uvCh := decide (4500 ≤ v) })).dieShow f).vpwrShow f v).dieEvent f 4 (v / 100))) ∧
  (∀ (f : Fin 2) (v : Nat) (s : State), 6000 ≤ v →
      hasDie s.part f = true →
      exec (.feedUndervoltage f v) s = .next s) ∧
  (∀ (f : Fin 2) (v : Nat) (s : State), 18000 < v →
      (s.psc.die.get f).ov = false →
      hasDie s.part f = true →
      exec (.feedOvervoltage f v) s = .next ((((s.dieUpd f (fun d => { d with ov := true })).dieShow f).vpwrShow f v).dieEvent f 8 (v / 100))) ∧
  (∀ (f : Fin 2) (v : Nat) (s : State), v ≤ 18000 →
      hasDie s.part f = true →
      exec (.feedOvervoltage f v) s = .next s)

/-- Links, holds and PLCA of the Ethernet ports. Rules: R229, R230, R237, R253, R254. Where a clause rests on a reading or a choice of the model and not on the words of a rule: log entry 137. -/
def Obligations.EthernetPorts : Prop :=
  (∀ (p : Fin 18) (s : State), hasPort s.part p = true →
      exec (.portLinkDown p) s = .next (State.linkDown { s with esw := { s.esw with fault := putBit s.esw.fault p true } } p)) ∧
  (∀ (p : Fin 18) (speed sqi sp : Nat) (u s : State), s.phyLive p = true →
      2 ≤ p.val →
      p.val < 16 →
      sp = (if p.val < 8 then 3 else if p.val < 12 then 2 else 1) →
      u = ((((State.ethSettle { (s.set (EPORT_PHYSTAT_SQI p) sqi) with esw := { s.esw with fault := putBit s.esw.fault (p) false } } (p)).set (EPORT_PHYSTAT_LINK (p)) 1).set (EPORT_PHYSTAT_LOCK (p)) 1).set (EPORT_STAT_SPEED (p)) sp).wakeConfirm (if p.val < 12 then 24 + p.val else 64) →
      u.on (EPORT_CFG_EN p) = true →
      u.portUp p = false →
      hasPort s.part p = true →
      exec (.portLinkUp p speed sqi) s = .next ((((u.set (EPORT_STAT_STATE (p)) 3).raiseC (232 + (p)) 1 0).pinPortUp (p)).ethSettle (p))) ∧
  (∀ (p : Fin 18) (speed sqi : Nat) (s : State), s.phyLive p = false →
      hasPort s.part p = true →
      exec (.portLinkUp p speed sqi) s = .next s) ∧
  (∀ (p : Nat) (s : State), s.phyLive p = (!s.gtb.rc && s.on (EPORT_PHYCFG_PHYEN p) && s.portLive p)) ∧
  (∀ (p : Fin 18) (s : State), s.get (EPORT_STAT_STATE p) = 2 →
      hasPort s.part p = true →
      exec (.portHoldExpiry p) s = .next (((s.flushPort p).set (EPORT_STAT_STATE p) 1).raiseC (232 + p) 3 0)) ∧
  (∀ (p : Fin 18) (s : State), s.get (EPORT_STAT_STATE p) ≠ 2 →
      hasPort s.part p = true →
      exec (.portHoldExpiry p) s = .next s) ∧
  (∀ (p : Fin 22) (u s : State), u = s.set (EPORT_CFG_EN p) 0 →
      (decide (18 ≤ p.val) || hasPort s.part p) = true →
      exec (.portDisable p) s = .next ((u.mirrored (a_EPORT_CFG p) (u.regNow (a_EPORT_CFG p))).portOff p)) ∧
  (∀ (p : Fin 4) (s : State), s.on (EPORT_PLCA_EN (12 + p.val)) = true →
      s.get (EPORT_PLCA_NODEID (12 + p.val)) ≠ 0 →
      s.get (EPORT_PLCA_NODEID (12 + p.val)) ≠ 255 →
      s.on (EPORT_PHYSTAT_LINK (12 + p.val)) = true →
      hasPort s.part (12 + p) = true →
      exec (.plcaBeaconTimeout p) s = .next (s.linkDown (12 + p.val) 8)) ∧
  (∀ (p : Fin 4) (s : State), s.on (EPORT_PLCA_EN (12 + p.val)) = true →
      s.on (EPORT_CFG_EN (12 + p.val)) = true →
      s.phyLive (12 + p.val) = true →
      s.get (EPORT_PLCA_NODEID (12 + p.val)) = 0 →
      hasPort s.part (12 + p) = true →
      exec (.plcaBeacon p) s = .next (s.emit (.link "PLCA_BEACON" [(12 + p.val), s.get (EPORT_PLCA_NCNT (12 + p.val)), s.get (EPORT_PLCA_TO (12 + p.val))]))) ∧
  (∀ (p : Fin 4) (u s : State), s.on (EPORT_PLCA_EN (12 + p.val)) = true →
      s.on (EPORT_CFG_EN (12 + p.val)) = true →
      s.phyLive (12 + p.val) = true →
      s.get (EPORT_PLCA_NODEID (12 + p.val)) ≠ 0 →
      s.get (EPORT_PLCA_NODEID (12 + p.val)) ≠ 255 →
      s.portUp (12 + p.val) = false →
      u = ((((State.ethSettle { s with esw := { s.esw with fault := putBit s.esw.fault ((12 + p.val)) false } } ((12 + p.val))).set (EPORT_PHYSTAT_LINK ((12 + p.val))) 1).set (EPORT_PHYSTAT_LOCK ((12 + p.val))) 1).set (EPORT_STAT_SPEED ((12 + p.val))) 1).wakeConfirm 64 →
      u.on (EPORT_CFG_EN (12 + p.val)) = true →
      u.portUp (12 + p.val) = false →
      hasPort s.part (12 + p) = true →
      exec (.plcaBeacon p) s = .next ((((u.set (EPORT_STAT_STATE ((12 + p.val))) 3).raiseC (232 + ((12 + p.val))) 1 0).pinPortUp ((12 + p.val))).ethSettle ((12 + p.val))))

/-- Frames received and sent by the switch ports, and their gate lists. Rules: R237, R250, R255, R256, R261, R340. Where a clause rests on a reading or a choice of the model and not on the words of a rule: log entries 13, 57, 58, 59, 135, 136, 144. -/
def Obligations.EthernetFrames : Prop :=
  (∀ (p : Fin 22) (rx : EthRx) (s : State), s.portUp p = true →
      p.val < 20 →
      s.esw.wait.get p = none →
      (decide (p.val < 18) && s.on (EPORT_PHYCFG_LPBK p)) = false →
      (decide (18 ≤ p.val) || hasPort s.part p) = true →
      exec (.frameReceive p rx) s = .next (s.ethReceive p rx)) ∧
  (∀ (p : Fin 22) (rx : EthRx) (s : State), s.portUp p = true →
      p.val = 20 →
      s.esw.wait.get p = none →
      s.gwOffers rx.bytes = true →
      (decide (18 ≤ p.val) || hasPort s.part p) = true →
      exec (.frameReceive p rx) s = .next (State.ethReceive { s with gw := { s.gw with port := some rx.bytes } } p rx).gwEntered) ∧
  (∀ (p : Fin 22) (rx : EthRx) (x : Nat × List Nat) (s : State), s.portUp p = true →
      p.val < 18 →
      s.esw.wait.get p = none →
      s.on (EPORT_PHYCFG_LPBK p) = true →
      s.esw.looped.find? (fun x => x.1 == p.val) = some x →
      (decide (18 ≤ p.val) || hasPort s.part p) = true →
      exec (.frameReceive p rx) s = .next (State.ethReceive { s with esw := { s.esw with looped := s.esw.looped.erase x } } p { rx with bytes := x.2 })) ∧
  (∀ (p : Fin 22) (rx : EthRx) (s : State), s.portUp p = false ∨ p.val = 21 ∨ (s.esw.wait.get p).isSome = true ∨ p.val = 20 ∧ s.gwOffers rx.bytes = false →
      (decide (18 ≤ p.val) || hasPort s.part p) = true →
      exec (.frameReceive p rx) s = .next s) ∧
  (∀ (p : Fin 22) (u s : State), u = s.ethEnds.ethSettle p →
      u.portUp p = true →
      (u.ethTx p).endNs ≤ u.pow.elapsed →
      (decide (18 ≤ p.val) || hasPort s.part p) = true →
      exec (.frameTransmit p) s = .next (State.ethSend (fun t q => p.val != 20 || t.gwReady q) (1 + (List.range 8).foldl (fun a q => a + (u.ethQ p q).length) 0) u p)) ∧
  (∀ (p : Fin 22) (u s : State), u = s.ethEnds.ethSettle p →
      u.portUp p = false →
      (decide (18 ≤ p.val) || hasPort s.part p) = true →
      exec (.frameTransmit p) s = .next u) ∧
  (∀ (p : Fin 4) (w : EthWait) (s : State), s.esw.wait.get (18 + p.val) = some w →
      exec (.internalIngressResume p) s = .next (State.crsFlush (((s.ethFinish w.id w.fr w.queue w.dests false).each (List.range 256) State.viEntered).gwEntered))) ∧
  (∀ (p : Fin 18) (s : State), hasPort s.part p = true →
      exec (.gateEntryAdvance p) s = .next (s.ethSettle p)) ∧
  (∀ (p : Fin 18) (s : State), s.on (EPORT_GCLCTL_CHANGE p) = false →
      hasPort s.part p = true →
      exec (.gclChangeWrite p) s = .next ((s.mirrored (a_EPORT_GCLCTL p) (s.regNow (a_EPORT_GCLCTL p) + 2 ^ 30)).gateChange p)) ∧
  (∀ (p : Fin 18) (s : State), s.on (EPORT_GCLCTL_CHANGE p) = true →
      hasPort s.part p = true →
      exec (.gclChangeWrite p) s = .next s) ∧
  (∀ (p : Fin 18) (s : State), hasPort s.part p = true →
      exec (.gateListChange p) s = .next (((s.ethSettle p).gateApply p).ethSettle p)) ∧
  (∀ (g : Fin 64) (s : State), s.on (ESW_SGCTL_CHANGE g) = false →
      exec (.streamGateChangeWrite g) s = .next ((s.mirrored (a_ESW_SGCTL g) (s.regNow (a_ESW_SGCTL g) + 2 ^ 30)).sgateChange g)) ∧
  (∀ (g : Fin 64) (s : State), exec (.streamGateListChange g) s = .next (s.sgateApply g) ∧ exec (.streamGateEntryAdvance g) s = .next s)

/-- The forwarding table, pin groups, sequence recovery and the sample ring. Rules: R241, R243, R244, R245, R249, R264, R266, R267. Where a clause rests on a reading or a choice of the model and not on the words of a rule: log entries 13, 14, 15, 16. -/
def Obligations.ForwardingTable : Prop :=
  (∀ (s : State), s.part ≠ .twinA →
      s.esw.fdb = none →
      exec .fdbRead s = .next (State.set ({ s.set ESW_FDBCMD_OP 1 with esw := { s.esw with fdb := some { op := 1, key := (s.set ESW_FDBCMD_OP 1).get ESW_FDBKEY_VID * 2 ^ 48 + (s.set ESW_FDBCMD_OP 1).get ESW_FDBKEY_MAC, data := (s.set ESW_FDBCMD_OP 1).fieldsRead fdbOut, frame := s.esw.nextId } } } : State) ESW_FDBCMD_GO 1)) ∧
  (∀ (s : State), s.part ≠ .twinA →
      s.esw.fdb = none →
      exec .fdbWrite s = .next (State.set ({ s.set ESW_FDBCMD_OP 2 with esw := { s.esw with fdb := some { op := 2, key := (s.set ESW_FDBCMD_OP 2).get ESW_FDBKEY_VID * 2 ^ 48 + (s.set ESW_FDBCMD_OP 2).get ESW_FDBKEY_MAC, data := (s.set ESW_FDBCMD_OP 2).fieldsRead fdbOut, frame := s.esw.nextId } } } : State) ESW_FDBCMD_GO 1)) ∧
  (∀ (s : State), s.part ≠ .twinA →
      s.esw.fdb = none →
      exec .fdbDelete s = .next (State.set ({ s.set ESW_FDBCMD_OP 3 with esw := { s.esw with fdb := some { op := 3, key := (s.set ESW_FDBCMD_OP 3).get ESW_FDBKEY_VID * 2 ^ 48 + (s.set ESW_FDBCMD_OP 3).get ESW_FDBKEY_MAC, data := (s.set ESW_FDBCMD_OP 3).fieldsRead fdbOut, frame := s.esw.nextId } } } : State) ESW_FDBCMD_GO 1)) ∧
  (∀ (s : State), s.part ≠ .twinA →
      s.esw.fdb = none →
      exec .fdbFlush s = .next (State.set ({ s.set ESW_FDBCMD_OP 4 with esw := { s.esw with fdb := some { op := 4, key := (s.set ESW_FDBCMD_OP 4).get ESW_FDBKEY_VID * 2 ^ 48 + (s.set ESW_FDBCMD_OP 4).get ESW_FDBKEY_MAC, data := (s.set ESW_FDBCMD_OP 4).fieldsRead fdbOut, frame := s.esw.nextId } } } : State) ESW_FDBCMD_GO 1)) ∧
  (∀ (s : State), s.part ≠ .twinA →
      s.esw.fdb = none →
      exec .fdbInvcache s = .next (State.set ({ s.set ESW_FDBCMD_OP 5 with esw := { s.esw with fdb := some { op := 5, key := (s.set ESW_FDBCMD_OP 5).get ESW_FDBKEY_VID * 2 ^ 48 + (s.set ESW_FDBCMD_OP 5).get ESW_FDBKEY_MAC, data := (s.set ESW_FDBCMD_OP 5).fieldsRead fdbOut, frame := s.esw.nextId } } } : State) ESW_FDBCMD_GO 1)) ∧
  (∀ (s : State), s.part ≠ .twinA →
      s.esw.fdb = none →
      exec .fdbFence s = .next (State.set ({ s.set ESW_FDBCMD_OP 6 with esw := { s.esw with fdb := some { op := 6, key := (s.set ESW_FDBCMD_OP 6).get ESW_FDBKEY_VID * 2 ^ 48 + (s.set ESW_FDBCMD_OP 6).get ESW_FDBKEY_MAC, data := (s.set ESW_FDBCMD_OP 6).fieldsRead fdbOut, frame := s.esw.nextId } } } : State) ESW_FDBCMD_GO 1)) ∧
  (∀ (s : State), s.part = .twinA →
      s.esw.fdb = none →
      exec .fdbRead s = .next (State.set (({ s.set ESW_FDBCMD_OP 1 with esw := { s.esw with fdb := some { op := 1, key := (s.set ESW_FDBCMD_OP 1).get ESW_FDBKEY_VID * 2 ^ 48 + (s.set ESW_FDBCMD_OP 1).get ESW_FDBKEY_MAC, data := (s.set ESW_FDBCMD_OP 1).fieldsRead fdbOut, frame := s.esw.nextId } } } : State).emit (.link "MIRROR_FDBCMD" [1, (s.set ESW_FDBCMD_OP 1).get ESW_FDBKEY_VID * 2 ^ 48 + (s.set ESW_FDBCMD_OP 1).get ESW_FDBKEY_MAC, (s.set ESW_FDBCMD_OP 1).fieldsRead fdbOut])) ESW_FDBCMD_GO 1)) ∧
  (∀ (s : State), s.part = .twinA →
      s.esw.fdb = none →
      exec .fdbWrite s = .next (State.set (({ s.set ESW_FDBCMD_OP 2 with esw := { s.esw with fdb := some { op := 2, key := (s.set ESW_FDBCMD_OP 2).get ESW_FDBKEY_VID * 2 ^ 48 + (s.set ESW_FDBCMD_OP 2).get ESW_FDBKEY_MAC, data := (s.set ESW_FDBCMD_OP 2).fieldsRead fdbOut, frame := s.esw.nextId } } } : State).emit (.link "MIRROR_FDBCMD" [2, (s.set ESW_FDBCMD_OP 2).get ESW_FDBKEY_VID * 2 ^ 48 + (s.set ESW_FDBCMD_OP 2).get ESW_FDBKEY_MAC, (s.set ESW_FDBCMD_OP 2).fieldsRead fdbOut])) ESW_FDBCMD_GO 1)) ∧
  (∀ (s : State), s.part = .twinA →
      s.esw.fdb = none →
      exec .fdbDelete s = .next (State.set (({ s.set ESW_FDBCMD_OP 3 with esw := { s.esw with fdb := some { op := 3, key := (s.set ESW_FDBCMD_OP 3).get ESW_FDBKEY_VID * 2 ^ 48 + (s.set ESW_FDBCMD_OP 3).get ESW_FDBKEY_MAC, data := (s.set ESW_FDBCMD_OP 3).fieldsRead fdbOut, frame := s.esw.nextId } } } : State).emit (.link "MIRROR_FDBCMD" [3, (s.set ESW_FDBCMD_OP 3).get ESW_FDBKEY_VID * 2 ^ 48 + (s.set ESW_FDBCMD_OP 3).get ESW_FDBKEY_MAC, (s.set ESW_FDBCMD_OP 3).fieldsRead fdbOut])) ESW_FDBCMD_GO 1)) ∧
  (∀ (s : State), s.part = .twinA →
      s.esw.fdb = none →
      exec .fdbFlush s = .next (State.set (({ s.set ESW_FDBCMD_OP 4 with esw := { s.esw with fdb := some { op := 4, key := (s.set ESW_FDBCMD_OP 4).get ESW_FDBKEY_VID * 2 ^ 48 + (s.set ESW_FDBCMD_OP 4).get ESW_FDBKEY_MAC, data := (s.set ESW_FDBCMD_OP 4).fieldsRead fdbOut, frame := s.esw.nextId } } } : State).emit (.link "MIRROR_FDBCMD" [4, (s.set ESW_FDBCMD_OP 4).get ESW_FDBKEY_VID * 2 ^ 48 + (s.set ESW_FDBCMD_OP 4).get ESW_FDBKEY_MAC, (s.set ESW_FDBCMD_OP 4).fieldsRead fdbOut])) ESW_FDBCMD_GO 1)) ∧
  (∀ (s : State), s.part = .twinA →
      s.esw.fdb = none →
      exec .fdbInvcache s = .next (State.set (({ s.set ESW_FDBCMD_OP 5 with esw := { s.esw with fdb := some { op := 5, key := (s.set ESW_FDBCMD_OP 5).get ESW_FDBKEY_VID * 2 ^ 48 + (s.set ESW_FDBCMD_OP 5).get ESW_FDBKEY_MAC, data := (s.set ESW_FDBCMD_OP 5).fieldsRead fdbOut, frame := s.esw.nextId } } } : State).emit (.link "MIRROR_FDBCMD" [5, (s.set ESW_FDBCMD_OP 5).get ESW_FDBKEY_VID * 2 ^ 48 + (s.set ESW_FDBCMD_OP 5).get ESW_FDBKEY_MAC, (s.set ESW_FDBCMD_OP 5).fieldsRead fdbOut])) ESW_FDBCMD_GO 1)) ∧
  (∀ (s : State), s.part = .twinA →
      s.esw.fdb = none →
      exec .fdbFence s = .next (State.set (({ s.set ESW_FDBCMD_OP 6 with esw := { s.esw with fdb := some { op := 6, key := (s.set ESW_FDBCMD_OP 6).get ESW_FDBKEY_VID * 2 ^ 48 + (s.set ESW_FDBCMD_OP 6).get ESW_FDBKEY_MAC, data := (s.set ESW_FDBCMD_OP 6).fieldsRead fdbOut, frame := s.esw.nextId } } } : State).emit (.link "MIRROR_FDBCMD" [6, (s.set ESW_FDBCMD_OP 6).get ESW_FDBKEY_VID * 2 ^ 48 + (s.set ESW_FDBCMD_OP 6).get ESW_FDBKEY_MAC, (s.set ESW_FDBCMD_OP 6).fieldsRead fdbOut])) ESW_FDBCMD_GO 1)) ∧
  (∀ (s : State), s.esw.fdb.isSome = true →
      exec .fdbRead s = .next (s.fdbError 4)) ∧
  (∀ (c : FdbOp) (s : State), s.esw.fdb = some c →
      s.fdbReady c = true →
      exec .fdbCommandComplete s = .next (State.set { s.fdbRun c with esw := { (s.fdbRun c).esw with fdb := none } } ESW_FDBCMD_GO 0)) ∧
  (∀ (c : FdbOp) (s : State), s.esw.fdb = some c →
      s.fdbReady c = false →
      exec .fdbCommandComplete s = .next s) ∧
  (∀ (i : Fin 16384) (w : Fin 3) (v : Nat) (s : State), exec (.fdbWindowWrite i w v) s = .next ((s.mirrored (0x4301_0000 + 0x10 * i + 4 * w) v).fdbWindow i w v)) ∧
  (∀ (key : Nat) (s : State), exec (.fdbCacheExpiry key) s = .next { s with esw := { s.esw with cache := s.esw.cache.filter (fun l => l.key != key || decide (s.pow.elapsed < l.filled + 10000000)) } }) ∧
  (∀ (s : State), s.get ESW_FDBCFG_AGETIME ≠ 0 →
      exec .fdbAgeSweep s = .next (s.each (List.range 16384) (fun t i => if t.on (ESW_FDBWINDATA_VALID i) && !t.on (ESW_FDBWINDATA_STATIC i) then (if 8 ≤ t.get (ESW_FDBWINDATA_AGE i) then t.fdbRemove i else t.inc (ESW_FDBWINDATA_AGE i)) else t))) ∧
  (∀ (s : State), s.get ESW_FDBCFG_AGETIME = 0 →
      exec .fdbAgeSweep s = .next s) ∧
  (∀ (k : Fin 4) (s : State), exec (.pinRevert k) s = .next ((s.mirrored (a_ESW_PINCFG k) (s.regNow (a_ESW_PINCFG k) / 2 ^ 31 * 2 ^ 31 + 2 ^ 30 + s.regNow (a_ESW_PINCFG k) % 2 ^ 10)).pinRevert k)) ∧
  (∀ (k : Fin 4) (s : State), s.on (ESW_PINSTAT_REVPEND k) = true →
      s.esw.queues = {} →
      exec (.pinRevertComplete k) s = .next (((s.set (ESW_PINCFG_REVERT k) 0).set (ESW_PINSTAT_REVPEND k) 0).raiseC 258 2 k)) ∧
  (∀ (r : Fin 512) (s : State), s.on (ESW_FRCTL_EN r) = true →
      s.on (ESW_FRCTL_GEN r) = false →
      (s.esw.frer.get r).started = true →
      exec (.frerRecoveryReset r) s = .next (State.raiseC { s with esw := { s.esw with frer := s.esw.frer.del r } } 257 2 r)) ∧
  (∀ (b : List Nat) (l : List (List Nat)) (s : State), s.esw.records = b :: l →
      s.on ESW_SAMPCTL_EN = true →
      ringNext (s.get ESW_SAMPWR_WR % (2 ^ (if 4 ≤ s.get ESW_SAMPCTL_SIZE ∧ s.get ESW_SAMPCTL_SIZE ≤ 16 then s.get ESW_SAMPCTL_SIZE else 4))) (2 ^ (if 4 ≤ s.get ESW_SAMPCTL_SIZE ∧ s.get ESW_SAMPCTL_SIZE ≤ 16 then s.get ESW_SAMPCTL_SIZE else 4)) ≠ s.get ESW_SAMPRD_RD % (2 ^ (if 4 ≤ s.get ESW_SAMPCTL_SIZE ∧ s.get ESW_SAMPCTL_SIZE ≤ 16 then s.get ESW_SAMPCTL_SIZE else 4)) →
      s.checkReq (s.get ESW_SAMPBASE_BASE * 4096 + 160 * (s.get ESW_SAMPWR_WR % (2 ^ (if 4 ≤ s.get ESW_SAMPCTL_SIZE ∧ s.get ESW_SAMPCTL_SIZE ≤ 16 then s.get ESW_SAMPCTL_SIZE else 4)))) (ownReq 31) .write = none →
      (s.get ESW_SAMPBASE_BASE * 4096 + 160 * (s.get ESW_SAMPWR_WR % (2 ^ (if 4 ≤ s.get ESW_SAMPCTL_SIZE ∧ s.get ESW_SAMPCTL_SIZE ≤ 16 then s.get ESW_SAMPCTL_SIZE else 4)))) % 4096 + b.length ≤ 4096 →
      exec (.sampleRecordWrite false) s = .next (State.set { s.setBytes (s.get ESW_SAMPBASE_BASE * 4096 + 160 * (s.get ESW_SAMPWR_WR % (2 ^ (if 4 ≤ s.get ESW_SAMPCTL_SIZE ∧ s.get ESW_SAMPCTL_SIZE ≤ 16 then s.get ESW_SAMPCTL_SIZE else 4)))) b with esw := { (s.setBytes (s.get ESW_SAMPBASE_BASE * 4096 + 160 * (s.get ESW_SAMPWR_WR % (2 ^ (if 4 ≤ s.get ESW_SAMPCTL_SIZE ∧ s.get ESW_SAMPCTL_SIZE ≤ 16 then s.get ESW_SAMPCTL_SIZE else 4)))) b).esw with records := l } } ESW_SAMPWR_WR (ringNext (s.get ESW_SAMPWR_WR % (2 ^ (if 4 ≤ s.get ESW_SAMPCTL_SIZE ∧ s.get ESW_SAMPCTL_SIZE ≤ 16 then s.get ESW_SAMPCTL_SIZE else 4))) (2 ^ (if 4 ≤ s.get ESW_SAMPCTL_SIZE ∧ s.get ESW_SAMPCTL_SIZE ≤ 16 then s.get ESW_SAMPCTL_SIZE else 4))))) ∧
  (∀ (b : List Nat) (l : List (List Nat)) (t s : State), s.esw.records = b :: l →
      s.on ESW_SAMPCTL_EN = true →
      ringNext (s.get ESW_SAMPWR_WR % (2 ^ (if 4 ≤ s.get ESW_SAMPCTL_SIZE ∧ s.get ESW_SAMPCTL_SIZE ≤ 16 then s.get ESW_SAMPCTL_SIZE else 4))) (2 ^ (if 4 ≤ s.get ESW_SAMPCTL_SIZE ∧ s.get ESW_SAMPCTL_SIZE ≤ 16 then s.get ESW_SAMPCTL_SIZE else 4)) ≠ s.get ESW_SAMPRD_RD % (2 ^ (if 4 ≤ s.get ESW_SAMPCTL_SIZE ∧ s.get ESW_SAMPCTL_SIZE ≤ 16 then s.get ESW_SAMPCTL_SIZE else 4)) →
      s.fabWrite 31 (s.get ESW_SAMPBASE_BASE * 4096 + 160 * (s.get ESW_SAMPWR_WR % (2 ^ (if 4 ≤ s.get ESW_SAMPCTL_SIZE ∧ s.get ESW_SAMPCTL_SIZE ≤ 16 then s.get ESW_SAMPCTL_SIZE else 4)))) b true = (t, false) →
      exec (.sampleRecordWrite true) s = .next ((t.set ESW_SAMPCTL_EN 0).raiseC 260 2 0))

/-- CAN controllers: start, reception, transmission, errors and bus-off. Rules: R277, R279, R284, R285, R287, R288, R290, R291, R292. Where a clause rests on a reading or a choice of the model and not on the words of a rule: log entries 17, 60, 138, 139, 140, 146. -/
def Obligations.CanControllers : Prop :=
  (∀ (c : Fin 16) (s : State), s.on (CAN_CTL_EN c) = false →
      s.tested (87 + c.val) = true →
      decide (c.val < nCan s.part) = true →
      exec (.canStart c) s = .next (s.canStart c)) ∧
  (∀ (c : Fin 16) (s : State), s.get (CAN_STAT_STATE c) = 1 →
      exec (.canIntegrationDone c) s = .next (s.set (CAN_STAT_STATE c) (s.canLive c))) ∧
  (∀ (c : Fin 16) (s : State), s.get (CAN_STAT_STATE c) ≠ 1 →
      exec (.canIntegrationDone c) s = .next s) ∧
  (∀ (c : Fin 16) (fr f : CanFrame) (age : Nat) (s u : State), s.canHears c = true →
      u = s.set (CAN_STAT_RXACT c) 0 →
      u.canHears c = true →
      u.canIn c = true →
      f = { fr with stamp := (s.canStamp + 2 ^ 32 - age % 2 ^ 32) % 2 ^ 32 } →
      f.fmt = 0 ∨ (f.fmt = 1 ∧ u.on (CAN_CTL_FDEN c) = true) ∨ (f.fmt = 2 ∧ u.on (CAN_CTL_XLEN c) = true) →
      exec (.canFrameValid c fr age) s = .next ((((u.canRxGood c).canMirrorSeen c f).canOffer c f).wakeConfirm c)) ∧
  (∀ (c : Fin 16) (f : CanFrame) (age : Nat) (s : State), s.canHears c = false →
      exec (.canFrameValid c f age) s = .next s) ∧
  (∀ (c : Fin 16) (f : CanFrame) (age : Nat) (s u : State), s.canHears c = true →
      u = s.set (CAN_STAT_RXACT c) 0 →
      u.canIn c = false →
      exec (.canFrameValid c f age) s = .next u) ∧
  (∀ (c : Fin 16) (o : Nat) (f : CanFrame) (l : List (Nat × CanFrame)) (s : State), (s.canSt c).taken = (o, f) :: l →
      o ≠ 127 →
      exec (.canObjectWrite c) s = .next ((s.canUpd c (fun x => { x with taken := l })).canStore c o f)) ∧
  (∀ (c : Fin 16) (f : CanFrame) (l : List (Nat × CanFrame)) (s u : State), (s.canSt c).taken = (127, f) :: l →
      s.on CRS_CTL_EN = true →
      s.on (CRS_BUS_RING c) = true →
      u = (s.canUpd c (fun x => { x with taken := l })).canStore c 127 f →
      exec (.canObjectWrite c) s = .next (u.canFull c 127 false)) ∧
  (∀ (c : Fin 16) (o : Fin 128) (s : State), decide (c.val < nCan s.part) = true →
      exec (.canTxreq c o) s = .next (s.canTxreq c o)) ∧
  (∀ (c : Fin 16) (o : Nat) (s : State), s.get (CAN_STAT_STATE c) = 2 ∨ s.get (CAN_STAT_STATE c) = 3 →
      (s.canSt c).tx = none →
      s.idling (87 + c) = false →
      s.canBest c = some o →
      exec (.canArbitrationStart c) s = .next ((((s.canUpd c (fun x => { x with tx := some { obj := o, frame := s.canForm c o, stamp := s.canStamp } })).set (CAN_STAT_TXV c) 1).set (CAN_STAT_TXOBJ c) o).set (CAN_STAT_TXACT c) 1)) ∧
  (∀ (c : Fin 16) (v : Fin 256) (s : State), (s.canSt c).tx = none →
      exec (.canTxSuccess c v) s = .next s ∧ exec (.canArbitrationLost c) s = .next s) ∧
  (∀ (c : Fin 16) (t : CanTx) (v : Fin 256) (w u : State) (s : State), (s.canSt c).tx = some t →
      s.canDrives c = true →
      s.canDataOk c t.frame = true →
      w = ((((s.canTxEnd c).canReq c t.obj false).set (CAN_OBJSTAT_DONE c t.obj) 1).canMirror c t.obj).set (CAN_OBJSTAMP_STAMP c t.obj) t.stamp →
      w.on (CAN_OBJCFG_IE c t.obj) = false →
      u = State.canErrState ((w.canTdcv c t.frame v).set (CAN_ERR_TEC c) ((w.canTdcv c t.frame v).get (CAN_ERR_TEC c) - 1)) c →
      u.on (CAN_CTL_LOOP c) = false →
      (u.emit (.can c t.frame)).on (CAN_CTL_SELFRX c) = false →
      exec (.canTxSuccess c v) s = .next (u.emit (.can c t.frame))) ∧
  (∀ (c : Fin 16) (t : CanTx) (v : Fin 256) (s : State), (s.canSt c).tx = some t →
      (s.canDrives c = false ∧ s.on (CAN_CTL_LOOP c) = false) ∨ s.canDataOk c t.frame = false →
      exec (.canTxSuccess c v) s = .next s) ∧
  (∀ (c : Fin 16) (t : CanTx) (u s : State), (s.canSt c).tx = some t →
      u = ((s.canTxEnd c).inc (CAN_ERRCNT_ARBLOST c)).setIf (s.canHears c) (CAN_STAT_RXACT c) 1 →
      u.on (CAN_CTL_DAR c) = false →
      t.once = false →
      exec (.canArbitrationLost c) s = .next u) ∧
  (∀ (c : Fin 16) (t : CanTx) (lec : Fin 7) (data : Bool) (u : State) (s : State), (s.canSt c).tx = some t →
      t.once = true →
      u = (((s.canTxEnd c).inc (CAN_ERRCNT_ERRS c)).set (CAN_ERR_LEC c) lec.val).set (CAN_ERR_LECDATA c) (b2n data) →
      u.get (CAN_ERR_TEC c) ≤ 247 →
      exec (.canTxError c lec data true none) s = .next (State.canFail ((u.set (CAN_ERR_TEC c) (satU 8 (u.get (CAN_ERR_TEC c) + 8))).canErrState c) c t.obj)) ∧
  (∀ (c : Fin 16) (t : CanTx) (lec : Fin 7) (data cnt : Bool) (v : Fin 256) (s : State), (s.canSt c).tx = some t →
      exec (.canTxError c lec data cnt (some v)) s = exec (.canTxError c lec data cnt none) (s.canTdcv c t.frame v)) ∧
  (∀ (c : Fin 16) (o : Fin 128) (s : State), decide (c.val < nCan s.part) = true →
      exec (.canAbort c o) s = .next (s.canAbort c o)) ∧
  (∀ (c : Fin 16) (s : State), exec (.canBusoffRecover c) s = .next (s.canRecover c)) ∧
  (∀ (c : Fin 16) (s : State), s.get (CAN_STAT_STATE c) = 5 →
      exec (.canBusoffRecovered c) s = .next ((State.set ((s.set (CAN_ERR_TEC c) 0).set (CAN_ERR_REC c) 0) (CAN_STAT_STATE c) (((s.set (CAN_ERR_TEC c) 0).set (CAN_ERR_REC c) 0).canLive c)).raiseC (192 + 2 * c.val) 3 0)) ∧
  (∀ (c : Fin 16) (s : State), (s.canSt c).tx = none →
      (s.canUpd c (fun x => { x with lom := s.on (CAN_CTL_LOM c) })).canIn c = true →
      decide (c.val < nCan s.part) = true →
      exec (.canLomApply c) s = .next ((s.canUpd c (fun x => { x with lom := s.on (CAN_CTL_LOM c) })).set (CAN_STAT_STATE c) ((s.canUpd c (fun x => { x with lom := s.on (CAN_CTL_LOM c) })).canLive c))) ∧
  (∀ (c : Fin 16) (lec : Fin 7) (data : Bool) (i : Fin 9) (s : State), s.canHears c = true →
      s.canIn c = true →
      (s.canSt c).lom = false →
      exec (.canRxError c lec data i) s = .next ((State.addSat ((((s.inc (CAN_ERRCNT_ERRS c)).set (CAN_ERR_LEC c) lec.val).set (CAN_ERR_LECDATA c) (b2n data)).set (CAN_STAT_RXACT c) 0) (CAN_ERR_REC c) i).canErrState c)) ∧
  (∀ (c : Fin 16) (s : State), s.canHears c = true →
      s.canIn c = true →
      s.on (CAN_CTL_PXHD c) = false →
      exec (.canProtocolException c) s = .next ((((s.set (CAN_STAT_RXACT c) 0).set (CAN_STAT_PXE c) 1).set (CAN_STAT_STATE c) 1).raiseC (192 + 2 * c.val) 4 0))

/-- Dominant timeouts, correlation stamps, wake phases and over-temperature of the transceivers. Rules: R294, R296, R299, R300. Where a clause rests on a reading or a choice of the model and not on the words of a rule: log entry 60. -/
def Obligations.BusTransceivers : Prop :=
  (∀ (c : Fin 16) (s : State), (s.canSt c).released = false →
      decide (c.val < nCan s.part) = true →
      exec (.canTxdTimeout c) s = .next (((s.canUpd c (fun x => { x with released := true })).set (CAN_STAT_TXDTO c) 1).raiseC (192 + 2 * c.val) 5 0)) ∧
  (∀ (c : Fin 16) (s : State), (s.canSt c).released = true →
      decide (c.val < nCan s.part) = true →
      exec (.canTxdTimeout c) s = .next s) ∧
  (∀ (c : Fin 16) (s : State), decide (c.val < nCan s.part) = true →
      exec (.canBusReleaseEnd c) s = .next (s.canUpd c (fun x => { x with released := false }))) ∧
  (∀ (c : Fin 16) (s : State), decide (c.val < nCan s.part) = true →
      exec (.canCorrelation c true) s = .next (s.canCorrelate c)) ∧
  (∀ (c : Fin 16) (k : Nat) (t : Stamp) (r : Nat) (s u : State), s.arrive (isCorrDue c) = some (.corr k t r, u) →
      decide (c.val < nCan s.part) = true →
      exec (.canCorrelation c false) s = .next (u.canCorrAt c t r)) ∧
  (∀ (c : Fin 16) (s : State), s.arrive (isCorrDue c) = none →
      decide (c.val < nCan s.part) = true →
      exec (.canCorrelation c false) s = .next s) ∧
  (∀ (b : Fin 24) (s : State), s.trxPower = true →
      b.val < 16 →
      s.get (CAN_TRXSTAT_STATE b) = 2 →
      s.on (CAN_TRXCTL_WAKEEN b) = true →
      busCarried s.part b = true →
      exec (.busWakeDetect b) s = .next (s.set (CAN_TRXSTAT_WAKE b) 1)) ∧
  (∀ (b : Fin 24) (s : State), s.trxPower = true →
      16 ≤ b.val →
      s.get (LIN_CTL_TRXMODE (b - 16)) = 2 →
      s.on (LIN_STAT_FORCED (b - 16)) = false →
      s.on (LIN_CTL_WAKEEN (b - 16)) = true →
      busCarried s.part b = true →
      exec (.busWakeDetect b) s = .next ((s.set (LIN_STAT_WAKE (b - 16)) 1).raiseC (224 + (b - 16)) 3 0)) ∧
  (∀ (b : Fin 24) (s : State), b.val < 16 →
      (s.canSt b).hot = false →
      busCarried s.part b = true →
      exec (.transceiverOvertemp b) s = .next (((s.canUpd b (fun x => { x with hot := true })).set (CAN_TRXSTAT_OT b) 1).raiseC (192 + 2 * b.val) 7 0)) ∧
  (∀ (b : Fin 24) (s : State), 16 ≤ b.val →
      (s.lin.get (b - 16)).hot = false →
      busCarried s.part b = true →
      exec (.transceiverOvertemp b) s = .next ((State.set { s with lin := s.lin.upd (b - 16) (fun x => { x with hot := true }) } (LIN_STAT_OT (b - 16)) 1).raiseC (224 + (b - 16)) 4 0)) ∧
  (∀ (b : Fin 24) (s : State), b.val < 16 →
      busCarried s.part b = true →
      exec (.transceiverOvertempEnd b) s = .next (s.canUpd b (fun x => { x with hot := false }))) ∧
  (∀ (b : Fin 24) (s : State), 16 ≤ b.val →
      busCarried s.part b = true →
      exec (.transceiverOvertempEnd b) s = .next { s with lin := s.lin.upd (b.val - 16) (fun x => { x with hot := false }) })

/-- LIN channels: schedule slots, headers, responses, wake and dominant timeout. Rules: R299, R303, R304, R305, R306, R307. Where a clause rests on a reading or a choice of the model and not on the words of a rule: log entry 61. -/
def Obligations.LinChannels : Prop :=
  (∀ (l : Fin 8) (s : State), s.on (LIN_CTL_EN l) = true →
      s.on (LIN_CTL_CMDR l) = true →
      s.idling (103 + l) = false →
      s.on (LIN_SCHCTL_RUN l) = true →
      (s.lin.get l).begun = false →
      exec (.linSlotStart l) s = .next (State.linHeader (({ s with lin := s.lin.upd l (fun x => { x with begun := true }) } : State).set (LIN_SCHSTAT_CUR l) 0) l ((({ s with lin := s.lin.upd l (fun x => { x with begun := true }) } : State).set (LIN_SCHSTAT_CUR l) 0).get (LIN_SCH_ID l 0)))) ∧
  (∀ (l : Fin 8) (s : State), s.on (LIN_CTL_EN l) = true →
      s.on (LIN_CTL_CMDR l) = true →
      s.idling (103 + l) = false →
      s.on (LIN_SCHCTL_RUN l) = false →
      exec (.linSlotStart l) s = .next (s.linStop l)) ∧
  (∀ (l : Fin 8) (id : Fin 64) (div : Nat) (s : State), s.on (LIN_CTL_EN l) = true →
      s.linHears l = true →
      s.on (LIN_CTL_CMDR l) = false →
      86 * div ≤ 100 * s.linDiv l →
      100 * s.linDiv l ≤ 114 * div →
      exec (.linHeaderReceive l id div) s = .next (s.linAfterHeader l id)) ∧
  (∀ (l : Fin 8) (id : Fin 64) (div : Nat) (s : State), s.on (LIN_CTL_EN l) = true →
      s.linHears l = true →
      s.on (LIN_CTL_CMDR l) = false →
      100 * s.linDiv l < 86 * div ∨ 114 * div < 100 * s.linDiv l →
      exec (.linHeaderReceive l id div) s = .next ((s.set (LIN_STAT_LEC l) 5).inc (LIN_STAT_ERRS l))) ∧
  (∀ (l : Fin 8) (id : Fin 64) (div : Nat) (s : State), s.on (LIN_CTL_EN l) = true →
      s.linHears l = true →
      s.on (LIN_CTL_CMDR l) = true →
      (s.lin.get l).head = some id.val →
      s.linDrives l = true →
      exec (.linHeaderReceive l id div) s = .next (s.linAfterHeader l id)) ∧
  (∀ (l : Fin 8) (f : LinFrame) (bytes : List Nat) (cks : Nat) (u : State) (s : State), (s.lin.get l).frame = some f →
      f.dir = 1 →
      s.linHears l = true →
      bytes.length = s.linLen l f.id →
      cks = s.linCks l f.id bytes →
      u = State.linEnd (State.addWrap (State.linKeep ((s.set (LIN_FDATA_DATA l f.id) (ofBytes bytes)).set (LIN_FSTAT_NEW l f.id) 1) l f.id bytes) (LIN_FSTAT_SEQ l f.id) 1) l →
      u.on (LIN_FCFG_IE l f.id) = false →
      exec (.linResponseComplete l bytes cks 0) s = .next (u.wakeConfirm (16 + l.val))) ∧
  (∀ (l : Fin 8) (f : LinFrame) (bytes : List Nat) (cks : Nat) (s : State), (s.lin.get l).frame = some f →
      f.dir = 1 →
      s.linHears l = true →
      bytes.length ≠ s.linLen l f.id ∨ cks ≠ s.linCks l f.id bytes →
      exec (.linResponseComplete l bytes cks 0) s = .next (s.linError l f.id 1)) ∧
  (∀ (l : Fin 8) (f : LinFrame) (got : Nat) (s : State), (s.lin.get l).frame = some f →
      f.dir = 1 →
      exec (.linResponseTimeout l got) s = .next (s.linError l f.id (if got = 0 then 2 else 6))) ∧
  (∀ (l : Fin 8) (s : State), l.val < nLin s.part →
      exec (.linWakePulse l) s = .next (s.linWake l)) ∧
  (∀ (l : Fin 8) (s : State), decide (l.val < nLin s.part) = true →
      exec (.linTxdTimeout l) s = .next ((s.set (LIN_STAT_TXDTO l) 1).raiseC (224 + l.val) 4 0))

/-- Carousel: enabling, messages, turns, slots, forming, consent, the keeper limit and the wake window. Rules: R313, R315, R316, R317, R318, R319, R320, R323, R326, R329. Where a clause rests on a reading or a choice of the model and not on the words of a rule: log entries 62, 140, 141. -/
def Obligations.CarouselRings : Prop :=
  (∀ (s : State), exec .carouselEnable s = .next s.carouselEnable) ∧
  (∀ (bytes : List Nat) (s : State), exec (.carouselMessageReceive bytes) s = .next (s.carouselTake bytes)) ∧
  (∀ (c : Fin 16) (bytes : List Nat) (s : State), s.alive = true →
      s.on CRS_CTL_EN = true →
      s.get CRS_STAT_STATE ≠ 5 →
      s.crsIgnores bytes = false →
      bitOf (bytes.getD 1 0) 7 = false →
      exec (.carouselRelay (some c) bytes) s = .next ((s.each ((List.range 16).filter (fun k => k != c.val)) (fun t k => t.crsCan k (bytes.getD 0 0 % 64) bytes)).crsEth false bytes) ∧ exec (.carouselRelay none bytes) s = .next (s.each (List.range 16) (fun t k => t.crsCan k (bytes.getD 0 0 % 64) bytes))) ∧
  (∀ (bb : Bool) (s : State), s.alive = true →
      s.on CRS_CTL_EN = true →
      s.ringRuns bb = true →
      (bb = false ∨ s.on CRS_CTL_HIER = true) →
      nextAfter (s.pres bb) (s.ring bb).last = s.ringOwn bb →
      s.idling 111 = false →
      s.ringOwn bb ≠ lowest (s.pres bb) →
      exec (.carouselSend bb) s = .next (s.sendRing bb)) ∧
  (∀ (bb : Bool) (s : State), s.alive = true →
      s.on CRS_CTL_EN = true →
      s.ringRuns bb = true →
      (bb = false ∨ s.on CRS_CTL_HIER = true) →
      nextAfter (s.pres bb) (s.ring bb).last = s.ringOwn bb →
      s.idling 111 = false →
      s.ringOwn bb = lowest (s.pres bb) →
      s.ringReady bb = false →
      exec (.carouselSend bb) s = .next (((s.addWrap (if bb then CRS_STAT_BBROUND else CRS_STAT_ROUND) 1).startRound bb).sendRing bb)) ∧
  (∀ (s : State), s.alive = true →
      s.on CRS_CTL_EN = true →
      s.ringRuns false = true →
      nextAfter (s.pres false) (s.ring false).last = s.ringOwn false →
      s.idling 111 = false →
      s.ringOwn false = lowest (s.pres false) →
      s.ringReady false = true →
      s.crs.loc.reps = 0 →
      s.on CRS_CTL_HIER = false →
      exec (.carouselSend false) s = .next (s.sendSleep false)) ∧
  (∀ (bb : Bool) (k : Nat) (s : State), s.alive = true →
      s.on CRS_CTL_EN = true →
      s.ringRuns bb = true →
      k = nextAfter (s.pres bb) (s.ring bb).last →
      k ≠ s.ringOwn bb →
      bitOf (s.pres bb) k = true →
      exec (.carouselSlotTimeout bb) s = .next (s.ringRemove bb k)) ∧
  (∀ (s : State), s.alive = true →
      s.on CRS_CTL_EN = true →
      (s.ring false).forming = true →
      (s.ring false).learn = none →
      s.ringOwn false = lowest (putBit (s.ring false).heard (s.ringOwn false) true) →
      exec (.carouselFormTimeout false) s = .next (State.bbSolo (State.sendRing (State.raiseC (State.set (State.set ((s.setPres false (putBit (s.ring false).heard (s.ringOwn false) true)).ringUpd false (fun y => { y with forming := false, sent := 0, votes := 0 })) CRS_STAT_ROUND 0) CRS_STAT_STATE 2) 265 4 (popCount (putBit (s.ring false).heard (s.ringOwn false) true) 64)) false))) ∧
  (∀ (v : Bool) (s : State), v = true ∨ (s.set CRS_CTL_CONSENT (b2n v)).ringPrep false = false →
      exec (.consentWrite v) s = .next (s.set CRS_CTL_CONSENT (b2n v))) ∧
  (∀ (i : Fin 64) (s : State), s.on (CRS_KEEP_WH i) = true →
      s.get CRS_CFG2_KEEPLIM ≠ 0 →
      bitOf s.crs.limited i = false →
      exec (.keeperLimit i) s = .next (State.raise { s with crs := { s.crs with limited := putBit s.crs.limited i true } } 266 (keepWord 2 (bitOf s.crs.sole i) (s.globalId i) ((s.nowNs - s.crs.start.get i) / 1000000000)))) ∧
  (∀ (s : State), s.ringPrep false = true →
      exec .prepareExpiry s = .next s.powerDownBegin) ∧
  (∀ (s : State), s.ringPrep false = false →
      exec .prepareExpiry s = .next s) ∧
  (∀ (s : State), s.get CRS_STAT_STATE = 5 →
      exec .sleepTransceiversOff s = .next s.transceiversOff) ∧
  (∀ (s : State), s.crs.window = true →
      s.get CRS_WAKEBUS_BUSES = 0 →
      s.on CRS_CTL_FWRET = false →
      exec .wakeWindowExpiry s = .next { s with crs := { s.crs with window := false } }) ∧
  (∀ (s : State), s.crs.window = false →
      exec .wakeWindowExpiry s = .next s)

/-- The gateway: PDUs taken, processed and formed, layouts due, fences and table commits. Rules: R338, R340, R347, R348, R350, R351, R353, R355. Where a clause rests on a reading or a choice of the model and not on the words of a rule: log entries 18, 57, 64. -/
def Obligations.Gateway : Prop :=
  (∀ (c : Fin 8) (id : Fin 64) (d : List Nat) (l : Nat) (t : State) (s : State), s.on GW_CTL_EN = true →
      s.idling 112 = false →
      (s.lin.get c).last = some (id.val, d) →
      t = { s with lin := s.lin.upd c (fun x => { x with last := none }) } →
      t.gwMatch { kind := 1, ch := c, obj := id, data := d } = some l →
      exec (.gwPduReceive (.lin c id)) s = .next (t.gwEnter l { kind := 1, ch := c, obj := id, data := d })) ∧
  (∀ (q : Fin 8) (bytes : List Nat) (s1 s : State), s.on GW_CTL_EN = true →
      s.idling 112 = false →
      s.gw.inbox.contains (q.val, bytes) = true →
      s1 = { s with gw := { s.gw with inbox := s.gw.inbox.erase (q.val, bytes) } } →
      gwParse bytes = none →
      exec (.gwPduReceive (.eth q bytes)) s = .next ((s1.inc GW_ERR_BADFRM).raiseSum 278 0 1)) ∧
  (∀ (q : Fin 8) (bytes : List Nat) (ps : List GwPdu) (s1 s : State), s.on GW_CTL_EN = true →
      s.idling 112 = false →
      s.gw.inbox.contains (q.val, bytes) = true →
      s1 = { s with gw := { s.gw with inbox := s.gw.inbox.erase (q.val, bytes) } } →
      gwParse bytes = some ps →
      s.gwRoom (q.val / 2) (ps.map (fun p => p.data.length)) = true →
      exec (.gwPduReceive (.eth q bytes)) s = .next (s1.each ps (fun t p => t.gwPut (q.val / 2) p))) ∧
  (∀ (x : GwSrc) (s : State), s.on GW_CTL_EN = false →
      exec (.gwPduReceive x) s = .next s ∧ exec .gwPduProcess s = .next s ∧ exec .gwPduForm s = .next s) ∧
  (∀ (c l : Nat) (p : GwPdu) (s : State), s.on GW_CTL_EN = true →
      s.idling 112 = false →
      s.gwNext = some (c, .pdu p) →
      (s.gwTake c (.pdu p)).gwMatch p = some l →
      exec .gwPduProcess s = .next ((s.gwTake c (.pdu p)).gwProcess l p.data)) ∧
  (∀ (c : Nat) (p : GwPdu) (s : State), s.on GW_CTL_EN = true →
      s.idling 112 = false →
      s.gwNext = some (c, .pdu p) →
      (s.gwTake c (.pdu p)).gwMatch p = none →
      exec .gwPduProcess s = .next (((s.gwTake c (.pdu p)).inc GW_ERR_NOMATCH).raiseSum 276 0 1)) ∧
  (∀ (c l : Nat) (s : State), s.on GW_CTL_EN = true →
      s.idling 112 = false →
      s.gwNext = some (c, .layout l) →
      exec .gwPduForm s = .next (((s.gwTake c (.layout l)).gwForm l).getD (s.gwTake c (.layout l)))) ∧
  (∀ (l : Fin 4096) (d : Due) (s t : State), s.arrive (fun d => d == .layout l) = some (d, t) →
      exec (.gwLayoutCyclicDue l) s = .next (t.gwDue l)) ∧
  (∀ (l : Fin 4096) (s : State), s.arrive (fun d => d == .layout l) = none →
      exec (.gwLayoutCyclicDue l) s = .next s) ∧
  (∀ (l : Fin 4096) (s : State), s.gw.gap.contains l.val = true →
      exec (.gwMingapExpiry l) s = .next (State.gwDue { s with gw := { s.gw with gap := s.gw.gap.filter (· != l.val) } } l)) ∧
  (∀ (l : Fin 4096) (s : State), s.gw.gap.contains l.val = false →
      exec (.gwMingapExpiry l) s = .next s) ∧
  (∀ (l : Fin 4096) (s : State), s.on GW_CTL_EN = true →
      s.gw.sink.contains l.val = true →
      s.on (CAN_OBJCTL_TXREQ (s.get (GW_LSRC_CH l)) (s.get (GW_LSRC_OBJ l))) = false →
      exec (.gwSinkReady l) s = .next ((State.gwForm { s with gw := { s.gw with sink := s.gw.sink.filter (· != l.val) } } l).getD { s with gw := { s.gw with sink := s.gw.sink.filter (· != l.val) } })) ∧
  (∀ (s : State), exec .gwFence s = .next (s.set GW_FENCE_GO 1)) ∧
  (∀ (s : State), s.on GW_FENCE_GO = true →
      exec .gwFenceComplete s = .next ((s.set GW_FENCE_GO 0).raise 281 0)) ∧
  (∀ (a v : Nat) (s : State), a < 2 ^ 40 →
      gwCommitOf a = some a →
      s.mapped a = true →
      exec (.tableEntryCommitWrite a v) s = .next (s.gwTableWrite a v))

/-- The PCIe bridge: link, outbound and inbound requests, completions, interrupts and resets. Rules: R356, R357, R360, R363, R364, R365, R366, R370, R615. Where a clause rests on a reading or a choice of the model and not on the words of a rule: log entry 65. -/
def Obligations.PcieBridge : Prop :=
  (∀ (r : Req) (k : AccKind) (addr size v : Nat) (s : State), addr < 2 ^ 40 →
      exec (.pcieOutboundRequest r k addr size v) s = .next (s.pcieOut r none k addr size v)) ∧
  (∀ (gen width ltssm g w : Nat) (s : State), s.on PCIE_STAT_LINKUP = false →
      s.on PCIE_CTL_EN = true →
      s.gtb.rc = false →
      s.pow.coreBeat = true →
      s.pow.perst = false →
      s.unusable 113 = false →
      bitOf (s.get PWR_DOMSTAT_UP) 21 = true →
      g = min (max gen 1) (s.get PCIE_CTL_MAXGEN + 1) →
      w = (if s.get PCIE_CTL_LANES = 1 ∨ width = 1 ∨ pcieLanes s.part = 1 then 1 else 2) →
      exec (.pcieLinkUp gen width ltssm) s = .next ((((((s.perstDrive 1).set PCIE_STAT_LINKUP 1).set PCIE_STAT_GEN g).set PCIE_STAT_WIDTH w).set PCIE_STAT_LTSSM ltssm).raiseC 288 1 (g * 16 + w))) ∧
  (∀ (gen width ltssm : Nat) (s : State), s.on PCIE_STAT_LINKUP = true ∨ s.on PCIE_CTL_EN = false ∨ s.gtb.rc = true →
      exec (.pcieLinkUp gen width ltssm) s = .next s) ∧
  (∀ (en : Bool) (num : Fin 256) (s : State), exec (.pcieVfEnable en num) s = .next (((s.set PCIE_VFCTL_VFEN (b2n en)).set PCIE_VFCTL_NUMVF (min num.val (min (s.get PCIE_VFCTL_TOTALVF) (pcieVfs s.part)))).raise 292 (min num.val (min (s.get PCIE_VFCTL_TOTALVF) (pcieVfs s.part))))) ∧
  (∀ (s : State), s.on PCIE_STAT_LINKUP = true →
      exec .pcieRetrain s = .next ((s.inc PCIE_STAT_RECOV).raiseC 288 3 0)) ∧
  (∀ (v : Nat) (s : State), exec (.pciePfMsix v) s = .next (s.each (bitsOf v 32) (fun t n => t.emit (.pcie [7, 0, n])))) ∧
  (∀ (tag : Nat) (q : PcieReq) (s : State), s.pcie.out.find? (fun q => q.tag == tag) = some q →
      exec (.pcieCompletionTimeout tag) s = .next (State.pcieHear ((((s.pcieDone tag).inc PCIE_ERR_CTO).raiseSum 295 0 1).emit (.resp q.id true 0)) q true 0 [])) ∧
  (∀ (tag : Nat) (q : PcieReq) (bytes : List Nat) (s : State), s.pcie.out.find? (fun q => q.tag == tag) = some q →
      exec (.pcieCompletion tag 0 bytes) s = .next ((s.pcieComplete q 0 bytes).pcieHear q false (q.value bytes) (toBytes q.size (q.value bytes)))) ∧
  (∀ (tag : Nat) (q : PcieReq) (bytes : List Nat) (s : State), s.pcie.out.find? (fun q => q.tag == tag) = some q →
      exec (.pcieCompletion tag 2 bytes) s = .next ((s.pcieComplete q 2 bytes).pcieHear q true (q.value bytes) (toBytes q.size (q.value bytes)))) ∧
  (∀ (tag : Nat) (st : Fin 3) (bytes : List Nat) (s : State), s.pcie.out.find? (fun q => q.tag == tag) = none →
      exec (.pcieCompletion tag st bytes) s = .next s ∧ exec (.pcieCompletionTimeout tag) s = .next s) ∧
  (∀ (x : Nat) (s : State), s.on PCIE_STAT_LINKUP = true →
      exec (.pcieLinkDown x) s = .next (s.linkLost.set PCIE_STAT_LTSSM x)) ∧
  (∀ (s : State), s.on PCIE_CTL_MODE = false →
      exec (.pciePerst true) s = .next { s.pcieReset with pow := { s.pcieReset.pow with perst := true } } ∧ exec (.pciePerst false) s = .next { s with pow := { s.pow with perst := false } }) ∧
  (∀ (x : PcieIn) (s : State), exec (.pcieInboundRequest x) s = .next (s.pcieInbound x)) ∧
  (∀ (s : State), !decide (pcieVfs s.part < 0) = true →
      exec (.pcieFunctionLevelReset 0) s = .next ((s.raise 291 0).each (List.range 64) (fun t w => (t.set (PCIE_IWCTL_EN w) 0).set (PCIE_OWCTL_EN w) 0))) ∧
  (∀ (f : Fin 256) (s : State), f.val ≠ 0 →
      s.on (PCIE_FNID_VIEN f) = true →
      !decide (pcieVfs s.part < f.val) = true →
      exec (.pcieFunctionLevelReset f) s = .next ((s.raise 291 f).viReset (s.get (PCIE_FNID_VI f))))

/-- Commands of the instance manager. Rules: R485, R486, R487, R488, R489, R490, R492, R493, R494. Where a clause rests on a reading or a choice of the model and not on the words of a rule: log entries 87, 142, 146. -/
def Obligations.InstanceCommands : Prop :=
  (∀ (i : Fin 256) (t : State) (s : State), s.on VIM_CMD_GO = false →
      t = s.vimTaken i 1 (s.get VIM_CMDARG_KIND) (s.get VIM_CMDARG_SLOT) →
      t.viState i = 0 →
      t.get (VIM_ICFG_BIND i) ≠ 1 ∨ t.fnFree (t.get (VIM_ICFG_FN i)) = true →
      t.genReady i = true →
      t.viBusy i = false →
      ¬ nVi t.part ≤ i.val →
      exec (.vimCreate i) s = .next (t.vimGen i 1)) ∧
  (∀ (i : Fin 256) (t : State) (s : State), s.on VIM_CMD_GO = false →
      t = s.vimTaken i 1 (s.get VIM_CMDARG_KIND) (s.get VIM_CMDARG_SLOT) →
      t.viState i = 0 →
      t.get (VIM_ICFG_BIND i) ≠ 1 ∨ t.fnFree (t.get (VIM_ICFG_FN i)) = true →
      t.genReady i = false →
      t.viBusy i = false →
      ¬ nVi t.part ≤ i.val →
      exec (.vimCreate i) s = .next (t.viUpd i (fun v => { v with due := some 1 }))) ∧
  (∀ (i : Fin 256) (kind : Fin 8) (slot : Fin 32) (t : State) (s : State), s.on VIM_CMD_GO = false →
      t = s.vimTaken i 2 kind slot →
      t.viState i = 1 ∨ t.viState i = 4 →
      t.viHas i kind slot = false →
      t.viFree i kind slot = true →
      t.viBusy i = false →
      ¬ nVi t.part ≤ i.val →
      exec (.vimAttach i kind slot) s = .next (State.vimDone (((t.viOwn i kind slot 2).viMark i kind slot true).viShow i) 0)) ∧
  (∀ (i : Fin 256) (kind : Fin 8) (slot : Fin 32) (t : State) (s : State), s.on VIM_CMD_GO = false →
      t = s.vimTaken i 2 kind slot →
      t.viState i = 1 ∨ t.viState i = 4 →
      t.viHas i kind slot = true ∨ t.viFree i kind slot = false →
      t.viBusy i = false →
      ¬ nVi t.part ≤ i.val →
      exec (.vimAttach i kind slot) s = .next (t.vimErr 2)) ∧
  (∀ (i : Fin 256) (kind : Fin 8) (slot : Fin 32) (t : State) (s : State), s.on VIM_CMD_GO = false →
      t = s.vimTaken i 3 kind slot →
      t.viState i = 1 ∨ t.viState i = 4 →
      t.viHas i kind slot = true →
      t.viBusy i = false →
      ¬ nVi t.part ≤ i.val →
      exec (.vimDetach i kind slot) s = .next (t.viUpd i (fun v => { v with drain := some (kind.val, slot.val) }))) ∧
  (∀ (i : Fin 256) (t : State) (s : State), s.on VIM_CMD_GO = false →
      t = s.vimTaken i 4 (s.get VIM_CMDARG_KIND) (s.get VIM_CMDARG_SLOT) →
      t.viState i = 1 ∨ t.viState i = 2 →
      t.viBusy i = false →
      ¬ nVi t.part ≤ i.val →
      exec (.vimQuiesce i) s = .next (t.viGoto i 3)) ∧
  (∀ (i : Fin 256) (t : State) (s : State), s.on VIM_CMD_GO = false →
      t = s.vimTaken i 5 (s.get VIM_CMDARG_KIND) (s.get VIM_CMDARG_SLOT) →
      t.viState i = 4 →
      t.viBusy i = false →
      ¬ nVi t.part ≤ i.val →
      exec (.vimResume i) s = .next (State.vimDone ((t.viGoto i (if (t.vi.get i).faulted then 2 else 1)).viUpd i (fun v => { v with faulted := false })) 0)) ∧
  (∀ (i : Fin 256) (t : State) (s : State), s.on VIM_CMD_GO = false →
      t = s.vimTaken i 6 (s.get VIM_CMDARG_KIND) (s.get VIM_CMDARG_SLOT) →
      t.viState i = 1 ∨ t.viState i = 2 ∨ t.viState i = 4 →
      t.genReady i = true →
      t.viBusy i = false →
      ¬ nVi t.part ≤ i.val →
      exec (.vimReset i) s = .next (t.viResetBegin i)) ∧
  (∀ (i : Fin 256) (bind : Fin 4) (fn : Fin 256) (t : State) (s : State), s.on VIM_CMD_GO = false →
      t = State.vimTaken ((s.set VIM_CMDARG_BIND bind).set VIM_CMDARG_FN fn) i 7 (s.get VIM_CMDARG_KIND) (s.get VIM_CMDARG_SLOT) →
      ((s.set VIM_CMDARG_BIND bind).set VIM_CMDARG_FN fn).on VIM_CMD_GO = false →
      ((s.set VIM_CMDARG_BIND bind).set VIM_CMDARG_FN fn).get VIM_CMDARG_KIND = s.get VIM_CMDARG_KIND →
      t.viState i = 4 →
      t.get VIM_CMDARG_BIND ≠ 1 ∨ t.fnFree (t.get VIM_CMDARG_FN) = true →
      t.genReady i = true →
      t.viBusy i = false →
      ¬ nVi t.part ≤ i.val →
      exec (.vimMigrate i bind fn) s = .next (t.vimGen i 7)) ∧
  (∀ (i : Fin 256) (t : State) (s : State), s.on VIM_CMD_GO = false →
      t = s.vimTaken i 8 (s.get VIM_CMDARG_KIND) (s.get VIM_CMDARG_SLOT) →
      t.viState i = 4 →
      t.genReady i = true →
      t.viBusy i = false →
      ¬ nVi t.part ≤ i.val →
      exec (.vimTakedown i) s = .next (t.vimGen i 8)) ∧
  (∀ (i : Fin 256) (s : State), s.on VIM_CMD_GO = true →
      exec (.vimCreate i) s = .next ((s.set VIM_CMD_ERR 1).set VIM_CMD_ERRC 4) ∧ exec (.vimTakedown i) s = .next ((s.set VIM_CMD_ERR 1).set VIM_CMD_ERRC 4)) ∧
  (∀ (i : Fin 256) (t : State) (s : State), s.on VIM_CMD_GO = false →
      t = s.vimTaken i 1 (s.get VIM_CMDARG_KIND) (s.get VIM_CMDARG_SLOT) →
      t.viState i ≠ 0 ∨ nVi t.part ≤ i.val →
      t.viBusy i = false →
      exec (.vimCreate i) s = .next (t.vimErr 1)) ∧
  (∀ (i : Fin 256) (t : State) (s : State), s.on VIM_CMD_GO = false →
      t = s.vimTaken i 8 (s.get VIM_CMDARG_KIND) (s.get VIM_CMDARG_SLOT) →
      t.viState i ≠ 4 ∨ nVi t.part ≤ i.val →
      t.viBusy i = false →
      exec (.vimTakedown i) s = .next (t.vimErr 1))

/-- Instances: delayed generations, resets, drains, descriptors, reception, buckets and maps. Rules: R478, R479, R480, R482, R485, R489, R490, R492, R495, R496. Where a clause rests on a reading or a choice of the model and not on the words of a rule: log entries 25, 87, 101. -/
def Obligations.InstanceLife : Prop :=
  (∀ (i : Fin 256) (op : Nat) (s : State), (s.vi.get i).due = some op →
      s.genReady i = true →
      exec (.vimGenChangeDue i) s = .next (if op = 6 then s.viResetBegin i else (s.vimGen i op).viServeAll i)) ∧
  (∀ (i : Fin 256) (s : State), s.genReady i = false →
      exec (.vimGenChangeDue i) s = .next s) ∧
  (∀ (i : Fin 256) (s : State), s.viState i ≠ 0 →
      s.viBusy i = true →
      decide (i.val < nVi s.part) = true →
      exec (.viTenantReset i) s = .next (s.viUpd i (fun v => { v with waiting := v.waiting ++ [false] }))) ∧
  (∀ (i : Fin 256) (s : State), s.viState i = 1 ∨ s.viState i = 2 ∨ s.viState i = 4 →
      s.viBusy i = false →
      s.genReady i = true →
      decide (i.val < nVi s.part) = true →
      exec (.viTenantReset i) s = .next (s.viResetBegin i)) ∧
  (∀ (i : Fin 256) (u : State) (s : State), s.viState i = 5 →
      s.on (VIM_IATT_TG i) = false →
      u = (((((s.viRestore i).inc (VIM_ICNT_RESETS i)).addWrap (VI_STAT_RESETS i) 1).viGoto i (s.vi.get i).back).viShow i).viEvent i 4 0 →
      u.on VIM_CMD_GO = false →
      exec (.viResetComplete i) s = .next (u.viServeAll i)) ∧
  (∀ (i : Fin 256) (expired : Bool) (s : State), s.viState i = 3 →
      (s.vi.get i).ops = [] →
      (s.vi.get i).drain = none →
      (s.vi.get i).waiting = [] →
      s.on (VIM_IATT_QP i) = false →
      s.viAll i = [] →
      exec (.vimQuiesceComplete i expired) s = .next (State.viServeAll (State.viEvent (State.vimDone (State.viGoto (s.viUpd i (fun x => { x with ops := [] })) i 4) 0) i 3 0) i)) ∧
  (∀ (i : Fin 256) (expired : Bool) (s : State), s.viState i ≠ 3 →
      (s.vi.get i).drain = none →
      exec (.vimQuiesceComplete i expired) s = .next s) ∧
  (∀ (i : Fin 256) (rx : Bool) (slot : Fin 16) (tail : Fin 4096) (s : State), decide (i.val < nVi s.part) = true →
      exec (.viDoorbell i rx slot tail) s = .next (s.viDoorbell i rx slot tail)) ∧
  (∀ (i : Fin 256) (slot : Fin 16) (parity : Bool) (s : State), s.on VIM_GCTL_EN = true →
      s.viState i = 1 →
      s.viSlot i slot = true →
      (s.vi.get i).drain ≠ some (0, slot.val) →
      s.on (VI_TXCTL_EN i slot) = true →
      (s.vi.get i).ops = [] →
      s.viHead i slot false ≠ s.viTail i slot false →
      exec (.viTxFrame i slot parity) s = .next (State.viGo parity 2 s i { slot := slot, idx := s.viHead i slot false, gen := s.get (VIM_ISTAT_GEN i) })) ∧
  (∀ (p : Fin 2) (parity : List (Fin 256 × Fin 16)) (s : State), s.esw.core.find? (fun x => x.1 == p.val) = none →
      exec (.viRxDeliver p parity) s = .next s) ∧
  (∀ (p : Fin 2) (q : Nat) (f : EthFrame) (parity : List (Fin 256 × Fin 16)) (u : State) (s : State), s.esw.core.find? (fun x => x.1 == p.val) = some (p.val, q, f) →
      u = { s with esw := { s.esw with core := s.esw.core.erase (p.val, q, f) } } →
      u.on VIM_GCTL_EN = false →
      ¬ (p.val = 1 ∧ q = 7 ∧ s.isCarousel f) →
      exec (.viRxDeliver p parity) s = .next (u.inc (VIM_CPSTAT_NOMATCH p))) ∧
  (∀ (q : Nat) (f : EthFrame) (parity : List (Fin 256 × Fin 16)) (s : State), s.esw.core.find? (fun x => x.1 == 1) = some (1, q, f) →
      q = 7 →
      s.isCarousel f →
      exec (.viRxDeliver 1 parity) s = .next { s with esw := { s.esw with core := s.esw.core.erase (1, q, f) } }) ∧
  (∀ (i : Fin 256) (s : State), decide (i.val < nVi s.part) = true →
      exec (.viBucketRefill i) s = .next (State.viMore (s.vi.get i).ops.length (s.viRefill i) i)) ∧
  (∀ (i : Fin 256) (s : State), (s.vi.get i).ops = [] →
      decide (i.val < nVi s.part) = true →
      exec (.viBucketRefill i) s = .next (s.viRefill i)) ∧
  (∀ (addr value : Nat) (s : State), 0x4710_0040 ≤ addr →
      addr < 0x4720_0000 →
      0x40 ≤ addr % 0x1000 →
      s.mapped (addr / 4 * 4) = true →
      exec (.vimMapWrite addr value) s = .next (s.regWrite vimWrite (addr / 4 * 4) 4 value))

/-- Mailbox channels: claim, GO, release and reclaim. Rules: R501, R503, R505. Where a clause rests on a reading or a choice of the model and not on the words of a rule: log entry 81. -/
def Obligations.MailboxChannels : Prop :=
  (∀ (m : Fin 8) (r : Req) (s : State) (t : State), s.mbx m = 0 →
      t = (((s.set (MBX_STATUS_STATE m) 1).set (MBX_STATUS_OWNER m) r.id).set (MBX_STATUS_WORLD m) (b2n (s.worldOf r))).set (MBX_STATUS_GEN m) r.gen →
      exec (.mbxClaim m r) s = .next { t with cmp := { t.cmp with vi := t.cmp.vi.put m none, grp := t.cmp.grp.put m (s.groupOf r.id) } }) ∧
  (∀ (m : Fin 8) (r : Req) (s : State), s.mbx m ≠ 0 →
      exec (.mbxClaim m r) s = .next s) ∧
  (∀ (m : Fin 8) (r : Req) (op : Fin 256) (s : State) (t : State), s.mbxMine m r = true →
      s.mbx m = 1 ∨ s.mbx m = 4 →
      t = ((((s.mbxClear m).set (MBX_STATUS_ERR m) 0).set (MBX_STATUS_STATE m) 2).set (MBX_CMD_OPCODE m) op).set (MBX_CMD_GO m) 1 →
      exec (.mbxGo m r op) s = .next (t.mbxQueue (t.cmp.queue ++ [m.val]))) ∧
  (∀ (m : Fin 8) (r : Req) (op : Fin 256) (s : State), s.mbxMine m r = false →
      exec (.mbxGo m r op) s = .next s ∧ exec (.mbxRelease m r) s = .next s) ∧
  (∀ (m : Fin 8) (r : Req) (s : State), s.mbxMine m r = true →
      s.mbx m ≠ 3 →
      exec (.mbxRelease m r) s = .next (s.mbxFree m)) ∧
  (∀ (m : Fin 8) (r : Req) (s : State), s.mbxMine m r = true →
      s.mbx m = 3 →
      exec (.mbxRelease m r) s = .next { s with cmp := { s.cmp with drop := true } }) ∧
  (∀ (m : Fin 8) (s : State), s.mbx m = 1 ∨ s.mbx m = 4 →
      exec (.mbxReclaimTimeout m) s = .next (((s.mbxFree m).inc MBX_RECL_RECLAIMED).raise 302 (m.val * 256 + 3))) ∧
  (∀ (m : Fin 8) (s : State), s.mbx m ≠ 1 →
      s.mbx m ≠ 4 →
      exec (.mbxReclaimTimeout m) s = .next s)

/-- Fabric accesses to memory and registers. Rules: R30, R31, R440, R447, R585, R588, R592, R593. Where a clause rests on a reading or a choice of the model and not on the words of a rule: log entries 3, 75, 90, 96. -/
def Obligations.FabricAccesses : Prop :=
  (∀ (r : Req) (addr size : Nat) (ecc : EccObs) (s : State), s.alive = true →
      oneGranule addr size = true →
      s.portReach r addr = true →
      s.checkReq addr r .read = none →
      0x800_0000 + 0x4_0000 ≤ addr →
      addr < 0x1140_0000 →
      ecc = .clean →
      exec (.fabricRequest r .read addr size 0 true ecc) s = .next ((s.eccSee addr r.id false ecc).emit (.resp r.id false ((s.eccSee addr r.id false ecc).load addr size)))) ∧
  (∀ (r : Req) (addr size value : Nat) (s : State), s.alive = true →
      oneGranule addr size = true →
      s.portReach r addr = true →
      s.checkReq addr r .write = none →
      0x800_0000 + 0x4_0000 ≤ addr →
      addr < 0x1140_0000 →
      wholeWords addr size = true →
      exec (.fabricRequest r .write addr size value true .clean) s = .next ((s.store addr size value).emit (.resp r.id false 0))) ∧
  (∀ (r : Req) (acc : AccKind) (addr size value : Nat) (ecc : EccObs) (s : State), s.alive = true →
      oneGranule addr size = true →
      exec (.fabricRequest r acc addr size value false ecc) s = .next ((s.raise 316 (r.id % 64)).emit (.resp r.id true 0))) ∧
  (∀ (r : Req) (acc : AccKind) (addr size value : Nat) (ecc : EccObs) (t : State) (s : State), s.alive = true →
      oneGranule addr size = true →
      s.portReach r addr = true →
      s.checkReq addr r acc = some t →
      ecc ≠ .parity →
      exec (.fabricRequest r acc addr size value true ecc) s = .next (t.emit (.resp r.id true 0))) ∧
  (∀ (r : Req) (addr size value : Nat) (t : State) (d : Nat) (s : State), s.alive = true →
      within addr 0x4000_0000 0x800_0000 = true →
      oneGranule addr size = true →
      s.fabDo r none .write addr size value .clean = (t, .data d) →
      exec (.registerWrite r addr size value) s = .next (t.emit (.resp r.id false d))) ∧
  (∀ (r : Req) (addr : Nat) (t : State) (d : Nat) (s : State), s.alive = true →
      within addr 0x4000_0000 0x800_0000 = true →
      oneGranule addr 4 = true →
      s.fabDo r none .read addr 4 0 .clean = (t, .data d) →
      exec (.readClear r addr) s = .next (t.emit (.resp r.id false d))) ∧
  (∀ (r : Req) (addr : Nat) (t : State) (d : Nat) (s : State), s.alive = true →
      within addr 0x4000_0000 0x800_0000 = true →
      isPair addr = true →
      s.fabDo r none .read addr 4 0 .clean = (t, .data d) →
      exec (.pairLowWordRead r addr) s = .next (t.emit (.resp r.id false d))) ∧
  (∀ (r : Req) (addr value : Nat) (s : State), s.regOpen r .write addr 4 = true →
      plainReg s.part addr = true →
      exec (.registerWrite r addr 4 value) s = .next (((s.mirrored addr (value % 2 ^ 32)).write4 blockWrite addr (value % 2 ^ 32)).emit (.resp r.id false 0)) ∧ exec (.fabricRequest r .write addr 4 value true .clean) s = .next (((s.mirrored addr (value % 2 ^ 32)).write4 blockWrite addr (value % 2 ^ 32)).emit (.resp r.id false 0))) ∧
  (∀ (r : Req) (addr size value : Nat) (s : State), s.regOpen r .write addr size = true →
      exec (.registerWrite r addr size value) s = .next ((s.regFabWrite r none addr size value).1.emit (.resp r.id (!(s.regFabWrite r none addr size value).2) 0)) ∧ exec (.fabricRequest r .write addr size value true .clean) s = .next ((s.regFabWrite r none addr size value).1.emit (.resp r.id (!(s.regFabWrite r none addr size value).2) 0))) ∧
  (∀ (r : Req) (addr value : Nat) (s : State), s.regOpen r .write addr 8 = true →
      isPair addr = true →
      pscAbsent s.part addr = false →
      exec (.registerWrite r addr 8 value) s = .next (((s.mirrored8 addr value).regWrite blockWrite addr 8 value).emit (.resp r.id false 0))) ∧
  (∀ (r : Req) (addr : Nat) (s : State), s.regOpen r .read addr 4 = true →
      plainReg s.part addr = true →
      exec (.readClear r addr) s = .next ((s.regRead blockRead r.id (r.debug || r.id == 9) addr 4).2.emit (.resp r.id false (s.regRead blockRead r.id (r.debug || r.id == 9) addr 4).1))) ∧
  (∀ (r : Req) (addr size : Nat) (s : State), s.regOpen r .read addr size = true →
      plainReg s.part addr = true →
      exec (.fabricRequest r .read addr size 0 true .clean) s = .next ((s.regRead blockRead r.id (r.debug || r.id == 9) addr size).2.emit (.resp r.id false (s.regRead blockRead r.id (r.debug || r.id == 9) addr size).1))) ∧
  (∀ (r : Req) (addr : Nat) (s : State), s.regOpen r .read addr 4 = true →
      plainReg s.part addr = true →
      isPair addr = true →
      exec (.pairLowWordRead r addr) s = .next ((s.regRead blockRead r.id (r.debug || r.id == 9) addr 4).2.emit (.resp r.id false (s.regRead blockRead r.id (r.debug || r.id == 9) addr 4).1))) ∧
  (∀ (r : Req) (acc : AccKind) (addr size value k : Nat) (s : State), s.alive = true →
      oneGranule addr size = true →
      s.portReach r addr = true →
      s.checkReq addr r acc = none →
      within addr 0x2000_0000 0x30_0000 = true →
      k = (addr - 0x2000_0000) / 0x4_0000 →
      s.tgLead k = k →
      exec (.fabricRequest r acc addr size value true .clean) s = .next (if acc = .write then (s.tgMemWrite addr size value).emit (.resp r.id false 0) else if acc = .amo then (s.tgMemWrite addr size value).emit (.resp r.id false (s.load addr size)) else s.emit (.resp r.id false (s.load addr size)))) ∧
  (∀ (r : Req) (addr size value : Nat) (s : State), s.alive = true →
      oneGranule addr size = true →
      s.portReach r addr = true →
      s.checkReq addr r .amo = none →
      0x800_0000 + 0x4_0000 ≤ addr →
      addr < 0x1140_0000 →
      exec (.fabricRequest r .amo addr size value true .clean) s = .next ((s.store addr size value).emit (.resp r.id false (s.load addr size))))

/-- Instructions of an application core. Rules: R371, R375, R384, R387, R388, R389, R390, R391, R392, R395, R398. Where a clause rests on a reading or a choice of the model and not on the words of a rule: log entries 20, 66, 70. -/
def Obligations.CoreInstructions : Prop :=
  (∀ (c : Fin 8) (o : RvObs) (x : RvWord) (t : State) (npc : Nat) (u : State) (s : State), rvFetched c o s = some (x, t) →
      x.word ≠ some 0x30200073 →
      rvRan c x o t = some (npc, u) →
      exec (.rvInstruction c o) s = .next ((u.retire c npc o).stepped c)) ∧
  (∀ (c : Fin 8) (o : RvObs) (x : RvWord) (t : State) (w : Nat) (s : State), rvFetched c o s = some (x, t) →
      x.word = some w →
      wOp w = 0x13 →
      wF3 w = 0 →
      exec (.rvInstruction c o) s = .next (State.stepped (State.retire (t.coreSet c (fun k => k.setX (wRd w) ((t.core.get c).getX (wRs1 w) + w64 (immI w)))) c (((t.core.get c).pc + x.len) % 2 ^ 64) o) c)) ∧
  (∀ (c : Fin 8) (o : RvObs) (x : RvWord) (t u : State) (tr : Trap) (s : State), rvFetched c o s = some (x, t) →
      rvTraps c x o t = some (tr, u) →
      exec (.rvInstruction c o) s = .next ((u.takeTrap c (tr.asFetched x.raw)).stepped c)) ∧
  (∀ (c : Fin 8) (o : RvObs) (x : RvWord) (t : State) (s : State), rvFetched c o s = some (x, t) →
      x.word = some 0x30200073 →
      x.raw = 0x30200073 →
      (t.core.get c).priv = 3 →
      exec (.mret c o) s = .next ((State.mretAfter (State.retire ((t.coreSet c Core.afterMret).wstat c) c ((t.core.get c).cs 0x341) o) c).stepped c)) ∧
  (∀ (c : Fin 8) (o : RvObs) (x : RvWord) (t : State) (s : State), rvFetched c o s = some (x, t) →
      x.word = some 0x0000000B →
      x.raw = 0x0000000B →
      (t.core.get c).priv ≠ 3 →
      exec (.wcall c o) s = .next ((t.takeTrap c { code := 24 }).stepped c)) ∧
  (∀ (c : Fin 8) (o : RvObs) (x : RvWord) (t : State) (npc : Nat) (u : State) (s : State), rvFetched c o s = some (x, t) →
      x.word = some x.raw →
      isCkpt x.raw = true →
      rvRan c x o t = some (npc, u) →
      exec (.ckpt c o) s = .next ((u.retire c npc o).stepped c)) ∧
  (∀ (c : Fin 8) (o : RvObs) (x : RvWord) (t : State) (npc : Nat) (u : State) (s : State), rvFetched c o s = some (x, t) →
      x.word = some x.raw →
      isAgreeLd x.raw = true →
      rvRan c x o t = some (npc, u) →
      exec (.agreeLd c o) s = .next ((u.retire c npc o).stepped c)) ∧
  (∀ (c : Fin 8) (o : RvObs) (x : RvWord) (t : State) (npc : Nat) (u : State) (s : State), rvFetched c o s = some (x, t) →
      x.word = some x.raw →
      isAgreeRnd x.raw = true →
      rvRan c x o t = some (npc, u) →
      exec (.agreeRnd c o) s = .next ((u.retire c npc o).stepped c)) ∧
  (∀ (c : Fin 8) (o : RvObs) (x : RvWord) (t : State) (npc : Nat) (u : State) (s : State), rvFetched c o s = some (x, t) →
      x.word = some x.raw →
      isAgreeCyc x.raw = true →
      rvRan c x o t = some (npc, u) →
      exec (.agreeCyc c o) s = .next ((u.retire c npc o).stepped c)) ∧
  (∀ (c : Fin 8) (o : RvObs) (x : RvWord) (t : State) (npc : Nat) (u : State) (s : State), rvFetched c o s = some (x, t) →
      x.word = some x.raw →
      isGtbrd x.raw = true →
      rvRan c x o t = some (npc, u) →
      exec (.gtbrd c o) s = .next ((u.retire c npc o).stepped c)) ∧
  (∀ (c : Fin 8) (o : RvObs) (x : RvWord) (t : State) (npc : Nat) (u : State) (s : State), rvFetched c o s = some (x, t) →
      x.word = some x.raw →
      isGtbrdX x.raw = true →
      rvRan c x o t = some (npc, u) →
      exec (.gtbrdX c o) s = .next ((u.retire c npc o).stepped c)) ∧
  (∀ (c : Fin 8) (o : RvObs) (x : RvWord) (t : State) (npc : Nat) (u : State) (s : State), rvFetched c o s = some (x, t) →
      x.word = some x.raw →
      isEvpost x.raw = true →
      rvRan c x o t = some (npc, u) →
      exec (.evpost c o) s = .next ((u.retire c npc o).stepped c)) ∧
  (∀ (c : Fin 8) (o : RvObs) (x : RvWord) (t : State) (npc : Nat) (u : State) (s : State), rvFetched c o s = some (x, t) →
      x.word = some x.raw →
      isCsr 0x7C1 x.raw = true →
      rvRan c x o t = some (npc, u) →
      exec (.claimReadInner c o) s = .next ((u.retire c npc o).stepped c)) ∧
  (∀ (c : Fin 8) (o : RvObs) (x : RvWord) (t : State) (npc : Nat) (u : State) (s : State), rvFetched c o s = some (x, t) →
      x.word = some x.raw →
      isCsr 0x5C0 x.raw = true →
      rvRan c x o t = some (npc, u) →
      exec (.claimReadOuter c o) s = .next ((u.retire c npc o).stepped c)) ∧
  (∀ (c : Fin 8) (o : RvObs) (x : RvWord) (t : State) (npc : Nat) (u : State) (s : State), rvFetched c o s = some (x, t) →
      x.word = some x.raw →
      isCsr 0x7C2 x.raw = true →
      rvRan c x o t = some (npc, u) →
      exec (.predictorFlush c o) s = .next ((u.retire c npc o).stepped c)) ∧
  (∀ (c : Fin 8) (o : RvObs) (w : Nat) (s : State), s.rvAt c w o = true →
      wOp w = 0x37 →
      exec (.rvInstruction c o) s = .next ((State.retire (s.coreSet c (fun k => k.setX (wRd w) (w64 (immU w)))) c (((s.core.get c).pc + 4) % 2 ^ 64) o).stepped c)) ∧
  (∀ (c : Fin 8) (o : RvObs) (w : Nat) (s : State), s.rvAt c w o = true →
      wOp w = 0x17 →
      exec (.rvInstruction c o) s = .next ((State.retire (s.coreSet c (fun k => k.setX (wRd w) (addI (s.core.get c).pc (immU w)))) c (((s.core.get c).pc + 4) % 2 ^ 64) o).stepped c)) ∧
  (∀ (c : Fin 8) (o : RvObs) (w : Nat) (s : State) (v : Nat), s.rvAt c w o = true →
      wOp w = 0x13 →
      aluImm w ((s.core.get c).getX (wRs1 w)) = some v →
      exec (.rvInstruction c o) s = .next ((State.retire (s.coreSet c (fun k => k.setX (wRd w) v)) c (((s.core.get c).pc + 4) % 2 ^ 64) o).stepped c)) ∧
  (∀ (c : Fin 8) (o : RvObs) (w : Nat) (s : State) (v : Nat), s.rvAt c w o = true →
      wOp w = 0x33 →
      aluOp (wF7 w) (wF3 w) ((s.core.get c).getX (wRs1 w)) ((s.core.get c).getX (wRs2 w)) = some v →
      exec (.rvInstruction c o) s = .next ((State.retire (s.coreSet c (fun k => k.setX (wRd w) v)) c (((s.core.get c).pc + 4) % 2 ^ 64) o).stepped c)) ∧
  (∀ (c : Fin 8) (o : RvObs) (w : Nat) (s : State) (v : Nat), s.rvAt c w o = true →
      wOp w = 0x1B →
      aluImm32 w ((s.core.get c).getX (wRs1 w)) = some v →
      exec (.rvInstruction c o) s = .next ((State.retire (s.coreSet c (fun k => k.setX (wRd w) v)) c (((s.core.get c).pc + 4) % 2 ^ 64) o).stepped c)) ∧
  (∀ (c : Fin 8) (o : RvObs) (w : Nat) (s : State) (v : Nat), s.rvAt c w o = true →
      wOp w = 0x3B →
      aluOp32 (wF7 w) (wF3 w) (wRs2 w) ((s.core.get c).getX (wRs1 w)) ((s.core.get c).getX (wRs2 w)) = some v →
      exec (.rvInstruction c o) s = .next ((State.retire (s.coreSet c (fun k => k.setX (wRd w) v)) c (((s.core.get c).pc + 4) % 2 ^ 64) o).stepped c)) ∧
  (∀ (c : Fin 8) (o : RvObs) (w : Nat) (s : State), s.rvAt c w o = true →
      wOp w = 0x6F →
      exec (.rvInstruction c o) s = .next ((State.retire (State.coreSet (s.coreSet c (fun k => { k with pred := k.pred ||| (if s.coreWorld c then 2 else 1) })) c (fun k => k.setX (wRd w) (((s.core.get c).pc + 4) % 2 ^ 64))) c (addI (s.core.get c).pc (immJ w)) o).stepped c)) ∧
  (∀ (c : Fin 8) (o : RvObs) (w : Nat) (s : State), s.rvAt c w o = true →
      wOp w = 0x67 →
      wF3 w = 0 →
      exec (.rvInstruction c o) s = .next ((State.retire (State.coreSet (s.coreSet c (fun k => { k with pred := k.pred ||| (if s.coreWorld c then 2 else 1) })) c (fun k => k.setX (wRd w) (((s.core.get c).pc + 4) % 2 ^ 64))) c (addI ((s.core.get c).getX (wRs1 w)) (immI w) / 2 * 2) o).stepped c)) ∧
  (∀ (c : Fin 8) (o : RvObs) (w : Nat) (s : State) (taken : Bool), s.rvAt c w o = true →
      wOp w = 0x63 →
      branchTaken (wF3 w) ((s.core.get c).getX (wRs1 w)) ((s.core.get c).getX (wRs2 w)) = some taken →
      exec (.rvInstruction c o) s = .next ((State.retire ((s.coreSet c (fun k => { k with pred := k.pred ||| (if s.coreWorld c then 2 else 1) }))) c (if taken then addI (s.core.get c).pc (immB w) else (((s.core.get c).pc + 4) % 2 ^ 64)) o).stepped c)) ∧
  (∀ (c : Fin 8) (o : RvObs) (w : Nat) (s : State) (v : Nat), s.rvAt c w o = true →
      wOp w = 0x03 →
      wF3 w ≠ 7 →
      s.dataAt c .load .read (addI ((s.core.get c).getX (wRs1 w)) (immI w)) (2 ^ (wF3 w % 4)) o = true →
      s.joined c = false →
      v = s.load (addI ((s.core.get c).getX (wRs1 w)) (immI w)) (2 ^ (wF3 w % 4)) % 256 ^ 2 ^ (wF3 w % 4) →
      exec (.rvInstruction c o) s = .next ((State.retire (s.coreSet c (fun k => k.setX (wRd w) (if wF3 w < 4 then sext (8 * 2 ^ (wF3 w % 4)) v else v))) c (((s.core.get c).pc + 4) % 2 ^ 64) o).stepped c)) ∧
  (∀ (c : Fin 8) (o : RvObs) (w : Nat) (s : State) (ad x : Nat), s.rvAt c w o = true →
      wOp w = 0x23 →
      ¬ 4 ≤ wF3 w →
      s.dataAt c .store .write (addI ((s.core.get c).getX (wRs1 w)) (immS w)) (2 ^ wF3 w) o = true →
      s.joined c = false →
      ad = addI ((s.core.get c).getX (wRs1 w)) (immS w) →
      x = (s.core.get c).getX (wRs2 w) →
      exec (.rvInstruction c o) s = .next ((State.retire ((s.store ad (2 ^ wF3 w) (x % 256 ^ 2 ^ wF3 w)).coreSet c (fun k => { k with res := (s.core.get c).res })) c (((s.core.get c).pc + 4) % 2 ^ 64) o).stepped c)) ∧
  (∀ (c : Fin 8) (o : RvObs) (w : Nat) (s : State), s.rvAt c w o = true →
      w = 0x30200073 →
      (s.core.get c).priv = 3 →
      exec (.mret c o) s = .next ((State.mretAfter (State.retire ((s.coreSet c Core.afterMret).wstat c) c ((s.core.get c).cs 0x341) o) c).stepped c)) ∧
  (∀ (c : Fin 8) (o : RvObs) (w : Nat) (s : State), s.rvAt c w o = true →
      isWcall w = true →
      (s.core.get c).priv ≠ 3 →
      exec (.wcall c o) s = .next ((s.trapStep c { code := 24 }).stepped c)) ∧
  (∀ (c : Fin 8) (o : RvObs) (w : Nat) (s : State), s.rvAt c w o = true →
      isCkpt w = true →
      exec (.ckpt c o) s = .next (State.stepped (if s.joined c then (s.retire c (((s.core.get c).pc + 4) % 2 ^ 64) o).ckBegin (c / 2) else s.retire c (((s.core.get c).pc + 4) % 2 ^ 64) o) c)) ∧
  (∀ (c : Fin 8) (o : RvObs) (w : Nat) (s : State) (u : State), s.rvAt c w o = true →
      isAgreeLd w = true →
      s.dataAt c .load .read ((s.core.get c).getX (wRs1 w)) 8 o = true →
      u = s.agreedTo c 4 8 ((s.core.get c).getX (wRs1 w)) (s.load ((s.core.get c).getX (wRs1 w)) 8) →
      u.joined c = false ∨ u.isLead c = true →
      exec (.agreeLd c o) s = .next ((State.retire (u.coreSet c (fun k => k.setX (wRd w) (s.load ((s.core.get c).getX (wRs1 w)) 8))) c (((s.core.get c).pc + 4) % 2 ^ 64) o).stepped c)) ∧
  (∀ (c : Fin 8) (o : RvObs) (w : Nat) (s : State) (u : State), s.rvAt c w o = true →
      isAgreeRnd w = true →
      u = s.agreedTo c 4 8 0 (o.rnd % 2 ^ 64) →
      u.joined c = false ∨ u.isLead c = true →
      exec (.agreeRnd c o) s = .next ((State.retire (u.coreSet c (fun k => k.setX (wRd w) (o.rnd % 2 ^ 64))) c (((s.core.get c).pc + 4) % 2 ^ 64) o).stepped c)) ∧
  (∀ (c : Fin 8) (o : RvObs) (w : Nat) (s : State) (u : State), s.rvAt c w o = true →
      isAgreeCyc w = true →
      u = s.agreedTo c 4 8 0 ((s.core.get c).cs 0xB00) →
      u.joined c = false ∨ u.isLead c = true →
      exec (.agreeCyc c o) s = .next ((State.retire (u.coreSet c (fun k => k.setX (wRd w) ((s.core.get c).cs 0xB00))) c (((s.core.get c).pc + 4) % 2 ^ 64) o).stepped c)) ∧
  (∀ (c : Fin 8) (o : RvObs) (w : Nat) (s : State) (v : Nat) (u : State), s.rvAt c w o = true →
      isGtbrd w = true →
      (s.core.get c).counterOk 1 = .ok →
      v = (s.nowNs % 2 ^ 64 + (s.nowFrac + s.get GTB_STAT_QUAL * 256) * 2 ^ 64) →
      u = s.agreedTo c 5 8 0 v →
      u.joined c = false ∨ u.isLead c = true →
      exec (.gtbrd c o) s = .next ((State.retire (State.coreSet (u.coreSet c (fun k => { k with gtbrd := some (v / 2 ^ 64 % 256, v / 2 ^ 72) })) c (fun k => k.setX (wRd w) (v % 2 ^ 64))) c (((s.core.get c).pc + 4) % 2 ^ 64) o).stepped c)) ∧
  (∀ (c : Fin 8) (o : RvObs) (w : Nat) (s : State) (v : Nat) (u : State), s.rvAt c w o = true →
      isGtbrdX w = true →
      (s.core.get c).counterOk 1 = .ok →
      v = (((s.core.get c).gtbrd.map (fun p => p.1 + p.2 % 16 * 256)).getD 0) →
      u = s.agreedTo c 6 8 0 v →
      u.joined c = false ∨ u.isLead c = true →
      exec (.gtbrdX c o) s = .next ((State.retire (u.coreSet c (fun k => k.setX (wRd w) v)) c (((s.core.get c).pc + 4) % 2 ^ 64) o).stepped c)) ∧
  (∀ (c : Fin 8) (o : RvObs) (w : Nat) (s : State) (u : State), s.rvAt c w o = true →
      isEvpost w = true →
      (s.core.get c).virt = false →
      (s.core.get c).priv ≠ 0 →
      u = (if s.joined c then s.push c { kind := 6, addr := 0, size := 4, data := ((s.core.get c).getX (wRs1 w)) % 2 ^ 32, inner := s.coreWorld c, seq := (s.core.get c).seq } else s.raise (32 + c) (((s.core.get c).getX (wRs1 w)) % 2 ^ 32)) →
      u.joined c = false ∨ u.isLead c = true →
      exec (.evpost c o) s = .next ((State.retire (u) c (((s.core.get c).pc + 4) % 2 ^ 64) o).stepped c)) ∧
  (∀ (c : Fin 8) (o : RvObs) (w : Nat) (s : State) (u : State), s.rvAt c w o = true →
      isCsr 0x7C1 w = true →
      (s.core.get c).csrCheck 0x7C1 (wF3 w % 4 == 1 || wRs1 w != 0) = .ok →
      wF3 w % 4 ≠ 1 ∨ wRd w ≠ 0 →
      s.joined c = false →
      u = (s.claim c true).1 →
      exec (.claimReadInner c o) s = .next ((State.retire (u.coreSet c (fun k => k.setX (wRd w) (s.claim c true).2)) c (((s.core.get c).pc + 4) % 2 ^ 64) o).stepped c)) ∧
  (∀ (c : Fin 8) (o : RvObs) (w : Nat) (s : State) (u : State), s.rvAt c w o = true →
      isCsr 0x5C0 w = true →
      (s.core.get c).csrCheck 0x5C0 (wF3 w % 4 == 1 || wRs1 w != 0) = .ok →
      wF3 w % 4 ≠ 1 ∨ wRd w ≠ 0 →
      s.joined c = false →
      u = (s.claim c false).1 →
      exec (.claimReadOuter c o) s = .next ((State.retire (u.coreSet c (fun k => k.setX (wRd w) (s.claim c false).2)) c (((s.core.get c).pc + 4) % 2 ^ 64) o).stepped c)) ∧
  (∀ (c : Fin 8) (o : RvObs) (w : Nat) (s : State) (v : Nat), s.rvAt c w o = true →
      isCsr 0x7C2 w = true →
      (s.core.get c).priv = 3 →
      wF3 w % 4 = 1 ∨ wRs1 w ≠ 0 →
      s.joined c = false →
      v = (let src := if 4 ≤ wF3 w then wRs1 w else (s.core.get c).getX (wRs1 w); if wF3 w % 4 = 1 then src else if wF3 w % 4 = 2 then s.csrGet c 0x7C2 ||| src else s.csrGet c 0x7C2 &&& not64 src) →
      exec (.predictorFlush c o) s = .next ((State.retire (State.coreSet (s.csrWrite c 0x7C2 (v % 2 ^ 64)) c (fun k => k.setX (wRd w) (if wF3 w % 4 = 1 ∧ wRd w = 0 then 0 else s.csrGet c 0x7C2))) c (((s.core.get c).pc + 4) % 2 ^ 64) o).stepped c))

/-- Interrupts of the cores, time reaching a compare value, and the error response of a store. Rules: R380, R399, R400, R415. Where a clause rests on a reading or a choice of the model and not on the words of a rule: log entries 20, 72, 73. -/
def Obligations.CoreInterrupts : Prop :=
  (∀ (c : Fin 8) (i : Nat) (s : State), s.rvReady c = true →
      (s.core.get c).pbuf = [] →
      (s.core.get c).wait = none →
      (s.core.get c).wfi = false →
      s.joined c = false →
      s.pickIrq c = some i →
      exec (.interruptTake c) s = .next ((s.takeIrq c i).stepped c)) ∧
  (∀ (c : Fin 8) (s : State), s.rvReady c = true →
      (s.core.get c).wfi = false →
      s.pickIrq c = none →
      exec (.interruptTake c) s = .next s) ∧
  (∀ (c : Fin 8) (s : State), s.mip c &&& 0xA0 ≠ 0 →
      s.rvReady c = true →
      (s.core.get c).wfi = true →
      s.mip c &&& (s.core.get c).cs 0x304 ≠ 0 →
      s.joined c = false →
      exec (.timerCompareMatch c) s = .next ((s.retire c ((s.core.get c).pc + 4) {}).stepped c)) ∧
  (∀ (c : Fin 8) (s : State), s.mip c &&& 0xA0 = 0 →
      exec (.timerCompareMatch c) s = .next s) ∧
  (∀ (c : Fin 8) (inner : Bool) (addr : Nat) (s : State), (s.core.get c).live = true →
      s.joined c = false →
      exec (.storeErrorResponse c inner addr) s = .next (s.berr c inner (addr % 2 ^ 40))) ∧
  (∀ (c : Fin 8) (inner : Bool) (addr : Nat) (s : State), (s.core.get c).live = false →
      exec (.storeErrorResponse c inner addr) s = .next s)

/-- Redundant pairs: release, lag, checkpoints, recovery and replay. Rules: R412, R417, R418, R419, R422, R424, R425, R426, R427. Where a clause rests on a reading or a choice of the model and not on the words of a rule: log entries 23, 24, 67, 68, 101. -/
def Obligations.Pairs : Prop :=
  (∀ (n : Fin 4) (a : Acs) (b : Acs) (la lb : List Acs) (t : State) (ecc : EccObs) (s : State), s.get (PAIR_CFG_SPLIT n) = 0 →
      s.alive = true →
      s.idling (114 + n) = false →
      s.pst n = 1 →
      (s.pair.get n).lq = a :: la →
      (s.pair.get n).sq = b :: lb →
      a.same b = true →
      (s.pair.get n).bus = none →
      (s.pairSet n (fun p => p.pop a)).acsDo n a ecc = some t →
      exec (.pairAccessRelease n true ecc) s = .next t) ∧
  (∀ (n : Fin 4) (agree : Bool) (a : Acs) (b : Acs) (la lb : List Acs) (ecc : EccObs) (s : State), s.get (PAIR_CFG_SPLIT n) = 0 →
      s.alive = true →
      s.idling (114 + n) = false →
      s.pst n = 1 →
      (s.pair.get n).lq = a :: la →
      (s.pair.get n).sq = b :: lb →
      agree = false ∨ a.same b = false →
      exec (.pairAccessRelease n agree ecc) s = .next (s.mismatch n 1)) ∧
  (∀ (n : Fin 4) (s : State), (s.pair.get n).lq ≠ [] →
      (s.pair.get n).sq = [] →
      exec (.pairLagTimeout n) s = .next (s.mismatch n 5)) ∧
  (∀ (n : Fin 4) (s : State), (s.pair.get n).lq = [] →
      (s.pair.get n).ckAt = none →
      exec (.pairLagTimeout n) s = .next s) ∧
  (∀ (n : Fin 4) (sigOk : Bool) (s : State), s.pst n ≠ 1 →
      (s.pair.get n).ckAt = none →
      decide (n.val < nPair s.part) = true →
      exec (.checkpoint n sigOk) s = .next s) ∧
  (∀ (n : Fin 4) (sigOk : Bool) (t : State) (k : Nat) (s : State), s.ckBegin n = t →
      (t.pair.get n).ckAt = some k →
      t.pst n = 1 →
      (t.core.get (t.leadOf n)).seq = k →
      (t.core.get (t.shadowOf n)).seq = k →
      (t.pair.get n).lq = [] →
      (t.pair.get n).commit = none →
      sigOk = true →
      (t.archOf (t.leadOf n)).sig = (t.archOf (t.shadowOf n)).sig →
      decide (n.val < nPair s.part) = true →
      exec (.checkpoint n sigOk) s = .next (t.pairSet n (fun p => { p with ckAt := none, commit := some (t.archOf (t.leadOf n), (t.core.get (t.leadOf n)).jpos, (t.core.get (t.leadOf n)).dpos, (p.released.filter (fun (a : Acs) => decide (a.seq < k))).length) }))) ∧
  (∀ (n : Fin 4) (sigOk : Bool) (t : State) (k : Nat) (s : State), s.ckBegin n = t →
      (t.pair.get n).ckAt = some k →
      t.pst n = 1 →
      (t.core.get (t.leadOf n)).seq = k →
      (t.core.get (t.shadowOf n)).seq = k →
      (t.pair.get n).lq = [] →
      (t.pair.get n).commit = none →
      sigOk = false →
      decide (n.val < nPair s.part) = true →
      exec (.checkpoint n sigOk) s = .next (t.mismatch n 3)) ∧
  (∀ (n : Fin 4) (s : State), (s.pair.get n).commit = none →
      exec (.checkpointCommit n) s = .next s) ∧
  (∀ (n : Fin 4) (im : CkImage) (s t u : State), (s.pair.get n).commit = some (im, 0, 0, 0) →
      (s.pair.get n).ckPend = false →
      t = s.pairSet n (fun p => { p with commit := none, image := some im, slot := 1 - p.slot, ckPend := false, journal := p.journal, dbg := p.dbg, released := p.released }) →
      u = (((t.coreSet (2 * n) (fun k => k)).coreSet (2 * n + 1) (fun k => k)).jocc n).addWrap (PAIR_CKCNT_CNT n) 1 →
      exec (.checkpointCommit n) s = .next (u.set (PAIR_CNT_DBGJ n) (u.pair.get n).dbg.length)) ∧
  (∀ (n : Fin 4) (im : CkImage) (s : State), s.pst n = 2 →
      (s.pair.get n).image = some im →
      exec (.pairRestoreDone n true) s = .next ((((s.imageLoad (2 * n) im).imageLoad (2 * n + 1) im).pairSet n (fun p => { p with replayed := [], lq := [], sq := [], traps := [] })).set (PAIR_STAT_STATE n) 3) ∧ exec (.pairRestoreDone n false) s = .next (s.escalate n 4)) ∧
  (∀ (n : Fin 4) (ok : Bool) (s : State), s.pst n ≠ 2 →
      exec (.pairRestoreDone n ok) s = .next s) ∧
  (∀ (n : Fin 4) (s : State), s.pst n = 3 →
      s.replayAtEnd n = true →
      exec (.pairReplayEnd n false) s = .next (s.escalate n 3)) ∧
  (∀ (n : Fin 4) (us : Nat) (s : State), s.pst n = 3 →
      s.replayAtEnd n = true →
      (s.pair.get n).replayed = (s.pair.get n).released →
      (s.pair.get n).hreq = false →
      us = (s.pow.elapsed - (s.pair.get n).detect) / 1000 →
      exec (.pairReplayEnd n true) s = .next (State.raiseC (State.pairSet ((((s.set (PAIR_REC_LAST n) (satU 16 us)).track (PAIR_REC_MAX n) us)).set (PAIR_STAT_STATE n) 1) n (fun p => { p with replayed := [], hreq := false })) (40 + 2 * n.val) 7 (satU 16 us))) ∧
  (∀ (n : Fin 4) (ok : Bool) (s : State), s.pst n ≠ 3 ∨ s.replayAtEnd n = false →
      exec (.pairReplayEnd n ok) s = .next s)

/-- Debug: halt, resume, step, register write and program buffer. Rules: R373, R430, R431, R512. Where a clause rests on a reading or a choice of the model and not on the words of a rule: log entry 70. -/
def Obligations.DebugActions : Prop :=
  (∀ (c : Fin 8) (s : State), s.dbgOpen = true →
      (s.core.get c).live = true →
      (s.core.get c).stopped = false →
      s.joined c = false →
      exec (.debugHalt c) s = .next ((s.coreSet c Core.halt).wstat c)) ∧
  (∀ (c : Fin 8) (s : State), s.dbgOpen = true →
      (s.core.get c).live = true →
      (s.core.get c).stopped = false →
      s.joined c = true →
      c.val % 2 = 0 →
      s.pst (c.val / 2) = 2 ∨ s.pst (c.val / 2) = 3 →
      exec (.debugHalt c) s = .next (s.pairSet (c.val / 2) (fun p => { p with hreq := true }))) ∧
  (∀ (c : Fin 8) (s : State), s.dbgOpen = true →
      (s.core.get c).live = true →
      (s.core.get c).stopped = false →
      s.joined c = true →
      c.val % 2 = 0 →
      s.pst (c.val / 2) = 1 →
      (s.pair.get (c.val / 2)).dbg.length < 256 →
      exec (.debugHalt c) s = .next (State.haltCheck (State.wstat (State.coreSet (s.dbgAdd (c.val / 2) .halt) (s.leadOf (c.val / 2)) Core.halt) (s.leadOf (c.val / 2))) (c.val / 2))) ∧
  (∀ (c : Fin 8) (s : State), s.dbgOpen = false →
      exec (.debugHalt c) s = .next s ∧ exec (.debugResume c) s = .next s ∧ exec (.debugStep c) s = .next s) ∧
  (∀ (c : Fin 8) (s : State), s.dbgOpen = true →
      (s.core.get c).halted = true →
      s.joined c = false →
      exec (.debugResume c) s = .next ((s.coreSet c (fun k => { k with halted := false })).wstat c)) ∧
  (∀ (c : Fin 8) (s : State), s.dbgOpen = true →
      (s.core.get c).halted = true →
      s.joined c = false →
      exec (.debugStep c) s = .next (s.coreSet c (fun k => { k with halted := false, single := true }))) ∧
  (∀ (c : Fin 8) (reg value : Nat) (s : State), s.dbgOpen = true →
      (s.core.get c).halted = true →
      s.joined c = false →
      exec (.debugAbstractWrite c reg value) s = .next (s.dbgWrite c reg value)) ∧
  (∀ (c : Fin 8) (words : List Nat) (o : RvObs) (s : State), s.dbgOpen = true →
      (s.core.get c).halted = true →
      (s.core.get c).pbuf = [] →
      s.joined c = false →
      exec (.debugProgramBuffer c words o) s = .next (State.pbufRun (2 * words.length) (s.coreSet c (fun k => { k with pbuf := halves words })) c o))

/-- Region checkers: RGN_RCTL, RGN_IGRP, FENCE, the scrubber. Rules: R443, R448, R453, R454, R455. Where a clause rests on a reading or a choice of the model and not on the words of a rule: log entries 88, 92. -/
def Obligations.Regions : Prop :=
  (∀ (r : Req) (t : Fin 17) (k : Fin 32) (v : Nat) (s : State), s.checkReq (a_RGN_RCTL t k) r .write = none →
      s.slotOpen r t k = true →
      exec (.regionCtlWrite r t k v) s = .next ((s.rctlWrite t k v).emit (.resp r.id false 0))) ∧
  (∀ (r : Req) (t : Fin 17) (k : Fin 32) (v : Nat) (s : State), s.checkReq (a_RGN_RCTL t k) r .write = none →
      s.slotOpen r t k = false →
      exec (.regionCtlWrite r t k v) s = .next (s.emit (.resp r.id true 0))) ∧
  (∀ (r : Req) (t : Fin 17) (k : Fin 32) (v : Nat) (u : State) (s : State), s.checkReq (a_RGN_RCTL t k) r .write = some u →
      exec (.regionCtlWrite r t k v) s = .next (u.emit (.resp r.id true 0))) ∧
  (∀ (r : Req) (k : Fin 8) (v : Nat) (s : State), s.checkReq (a_RGN_IGRP k) r .write = none →
      exec (.igrpWrite r k v) s = .next ((s.igrpWrite k v).emit (.resp r.id false 0))) ∧
  (∀ (r : Req) (k : Fin 8) (v : Nat) (u : State) (s : State), s.checkReq (a_RGN_IGRP k) r .write = some u →
      exec (.igrpWrite r k v) s = .next (u.emit (.resp r.id true 0))) ∧
  (∀ (s : State), exec .regionFence s = .next (s.set RGN_CTL_FENCE 1) ∧ exec .regionFenceComplete s = .next (s.set RGN_CTL_FENCE 0)) ∧
  (∀ (envm : Bool) (e : EccObs) (s : State), s.on RGN_SCRUB_EN = false →
      exec (.scrubLine envm e) s = .next s) ∧
  (∀ (e : EccObs) (t : State) (s : State), s.on RGN_SCRUB_EN = true →
      t = s.eccSee (scrubAddr s.part false s.scrub.1) 0 true e →
      s.scrub.1 + 1 < scrubLines s.part false →
      exec (.scrubLine false e) s = .next { t with scrub := (s.scrub.1 + 1, t.scrub.2) }) ∧
  (∀ (e : EccObs) (t : State) (s : State), s.on RGN_SCRUB_EN = true →
      t = s.eccSee (scrubAddr s.part true s.scrub.2) 0 true e →
      scrubLines s.part true ≤ s.scrub.2 + 1 →
      exec (.scrubLine true e) s = .next (State.raiseC { t with scrub := (t.scrub.1, 0) } 318 0 1))

/-- World watchdogs, Inner-world restarts and HANDOVER. Rules: R457, R460, R461, R462, R464, R466, R511. Where a clause rests on a reading or a choice of the model and not on the words of a rule: log entries 85, 86, 101. -/
def Obligations.Worlds : Prop :=
  (∀ (h : Fin 8) (s : State), s.isHart h = true →
      s.on (RGN_WWDT_TIMEOUT h) = true →
      (s.core.get (s.coreOf h)).live = true →
      (s.core.get (s.coreOf h)).halted = false →
      s.coreWorld (s.coreOf h) = true →
      exec (.worldWatchdogExpiry h) s = .next { s with cmp := { s.cmp with restart := s.cmp.restart.put h (some (1, 0)) } }) ∧
  (∀ (h : Fin 8) (s : State), s.on (RGN_WWDT_TIMEOUT h) = false →
      exec (.worldWatchdogExpiry h) s = .next s) ∧
  (∀ (h : Fin 8) (r : Req) (s : State), s.checkReq (a_RGN_WWDT h) r .write = none →
      r.id = h.val →
      r.inner = true →
      decide (h.val < 2 * nPair s.part) = true →
      exec (.watchdogKick h r) s = .next (s.emit (.resp r.id false 0))) ∧
  (∀ (h : Fin 8) (r : Req) (s : State), s.checkReq (a_RGN_WWDT h) r .write = none →
      r.id ≠ h.val ∨ r.inner = false →
      decide (h.val < 2 * nPair s.part) = true →
      exec (.watchdogKick h r) s = .next ((s.refuse (a_RGN_WWDT h) r .write 7 0x4000_0000).emit (.resp r.id true 0))) ∧
  (∀ (h : Fin 8) (why : Nat) (s : State), s.restartWhy h = some why →
      s.isHart h = true →
      s.get (RGN_WSTAT_STATE h) ≠ 2 →
      s.get (RGN_WSTAT_STATE h) ≠ 3 →
      s.get MBX_GSTAT_CUROP ≠ 0x50 →
      exec (.innerWorldRestartBegin h) s = .next (s.restartBegin h why)) ∧
  (∀ (h : Fin 8) (s : State), s.restartWhy h = none →
      exec (.innerWorldRestartBegin h) s = .next s) ∧
  (∀ (h : Fin 8) (why d b : Nat) (t : State) (s : State), s.cmp.restart.get h = some (why, d) →
      s.cmp.booted = some b →
      d ≠ 0 →
      t = State.innerLoad { s with cmp := { s.cmp with restart := s.cmp.restart.put h none } } b h →
      digest (List.replicate 48 0 ++ digest (t.bytes (bankBase b + (t.monCode b).1) (t.monCode b).2)) = s.measAt 1 →
      exec (.innerWorldRestartComplete h) s = .next (((t.set (RGN_WSTAT_STATE h) 1).hartStart h (t.entryAt b true) why (t.saveArea b h)).raiseC 298 2 (satU 16 ((s.pow.elapsed + 1 - d) / 1000)))) ∧
  (∀ (h : Fin 8) (why d b : Nat) (t : State) (s : State), s.cmp.restart.get h = some (why, d) →
      s.cmp.booted = some b →
      d ≠ 0 →
      t = State.innerLoad { s with cmp := { s.cmp with restart := s.cmp.restart.put h none } } b h →
      digest (List.replicate 48 0 ++ digest (t.bytes (bankBase b + (t.monCode b).1) (t.monCode b).2)) ≠ s.measAt 1 →
      exec (.innerWorldRestartComplete h) s = .next (((t.coreSet h (fun k => { k with stopped := true })).set (RGN_WSTAT_STATE h) 3).raiseC 299 1 h)) ∧
  (∀ (h : Fin 8) (s : State), s.cmp.restart.get h = none ∨ s.cmp.booted = none →
      exec (.innerWorldRestartComplete h) s = .next s)

/-- Self-test slices and the conditions they run under. Rules: R563, R564, R566, R570, R571. Where a clause rests on a reading or a choice of the model and not on the words of a rule: log entry 89. -/
def Obligations.SelfTest : Prop :=
  (∀ (rcOk : Bool) (s : State), 80 ≤ s.get SYS_CORESTAT_VCORE →
      s.get SYS_CORESTAT_VCORE ≤ 120 →
      s.on SYS_CLKSTAT_XTAL_OK = true ∨ rcOk = true →
      -400 ≤ s.getS PWR_TEMP_TJ →
      s.getS PWR_TEMP_TJ ≤ 1350 →
      exec (.steConditionCheck rcOk) s = .next { (((s.set STE_COND_VCORE 1).set STE_COND_OSC 1).set STE_COND_TJ 1).set STE_COND_OK 1 with ste := { s.ste with failNs := 0, told := false } }) ∧
  (∀ (rcOk : Bool) (s : State) (t : State), s.get SYS_CORESTAT_VCORE < 80 →
      s.ste.told = true →
      s.on SYS_CLKSTAT_XTAL_OK = true →
      -400 ≤ s.getS PWR_TEMP_TJ →
      s.getS PWR_TEMP_TJ ≤ 1350 →
      t = (((s.set STE_COND_VCORE 0).set STE_COND_OSC 1).set STE_COND_TJ 1).set STE_COND_OK 0 →
      exec (.steConditionCheck rcOk) s = .next (State.each { t with ste := { t.ste with failNs := if s.ste.failNs = 0 then s.pow.refNs + 1 else s.ste.failNs } } ((List.range 58).filter t.inSlice) State.sliceDrop)) ∧
  (∀ (u : Fin 58) (s : State) (t : State), 8 ≤ u.val →
      s.on STE_CTL_EN = true →
      s.get SYS_READY_STAGE = 3 →
      s.unitExists u = true →
      s.ste.next.get (unitLow u) = decide (u.val % 2 = 1) →
      s.inSlice u = false →
      s.inSlice (unitPeer u) = false →
      s.idling 118 = false →
      s.cmp.scan = false →
      s.on STE_COND_OK = true →
      s.unitReady u = true →
      t = (((s.set (STE_USTAT_STATE u) 1).set (STE_USTAT_RETEST u) 0).addWrap STE_STAT_ACTIVE 1) →
      exec (.steSliceStart u) s = .next { t with ste := { t.ste with next := t.ste.next.put (unitLow u) (decide (u.val % 2 = 0)) } }) ∧
  (∀ (u : Fin 58) (s : State), s.on STE_CTL_EN = true →
      s.get SYS_READY_STAGE = 3 →
      s.unitExists u = true →
      s.ste.next.get (unitLow u) = decide (u.val % 2 = 1) →
      s.inSlice u = false →
      s.inSlice (unitPeer u) = false →
      s.idling 118 = false →
      s.cmp.scan = false →
      s.on STE_COND_OK = false →
      exec (.steSliceStart u) s = .next (s.set (STE_USTAT_STATE u) 2)) ∧
  (∀ (u : Fin 58) (s : State), s.inSlice u = true →
      exec (.steSliceEnd u true) s = .next (((s.sliceOver u 0).unitRejoin u).unitPass u)) ∧
  (∀ (u : Fin 58) (s : State), s.inSlice u = true →
      exec (.steSliceEnd u false) s = .next (if s.on (STE_USTAT_RETEST u) = true then (s.sliceOver u 0).unitFail u else s.unitRetest u)) ∧
  (∀ (u : Fin 58) (ok : Bool) (s : State), s.inSlice u = false →
      exec (.steSliceEnd u ok) s = .next s)

/-- Reset kinds, their sources, the reset pin and block resets. Rules: R21, R542, R543, R544, R547, R549. Where a clause rests on a reading or a choice of the model and not on the words of a rule: log entries 77, 78, 105. -/
def Obligations.Resets : Prop :=
  (∀ (src : Fin 16) (s : State), s.pow.vbat = true →
      src = 1 ∨ src = 2 ∨ src = 3 →
      exec (.powerOnReset src) s = .next (s.resetKind 2 src)) ∧
  (∀ (s : State), s.pow.vbat = true →
      s.pow.coreUp = true →
      exec .vddCoreCollapse s = .next s.coreDown) ∧
  (∀ (src : Fin 16) (s : State), s.pow.vbat = true →
      s.pow.coreUp = true →
      src = 4 ∨ src = 5 ∨ src = 8 →
      exec (.coldReset src) s = .next (s.resetKind 3 src)) ∧
  (∀ (src : Fin 16) (s : State), s.pow.vbat = true →
      s.pow.coreUp = true →
      src = 4 ∨ src = 5 ∨ src = 6 ∨ src = 7 →
      exec (.warmReset src) s = .next (s.resetKind 4 src)) ∧
  (∀ (s : State), s.pow.vbat = true →
      s.pow.coreUp = true →
      s.dbgOpen = true →
      exec .debugNdmreset s = .next (s.resetKind 4 7)) ∧
  (∀ (s : State) (t : State), s.pow.vbat = true →
      s.pow.pin = false →
      s.pow.coreUp = true →
      t = s.resetKind (if s.pow.settings = true ∧ s.on RST_CFG_PINKIND = false then 4 else 3) 4 →
      exec .resetPinAssert s = .next { t with pow := { t.pow with pin := true } }) ∧
  (∀ (s : State) (t : State), s.pow.vbat = true →
      s.pow.pin = false →
      s.pow.coreUp = false →
      t = s.resetKind 2 4 →
      exec .resetPinAssert s = .next { t with pow := { t.pow with pin := true } }) ∧
  (∀ (s : State), exec .resetPinRelease s = .next { s with pow := { s.pow with pin := false } }) ∧
  (∀ (s : State), s.pow.blk = none →
      s.blockReady (s.get RST_BLKRST_BLK) = true →
      exec .blockReset s = .next (State.set { s with pow := { s.pow with blk := some (s.get RST_BLKRST_BLK) } } RST_BLKRST_GO 1)) ∧
  (∀ (s : State), s.pow.blk = none →
      s.blockReady (s.get RST_BLKRST_BLK) = false →
      exec .blockReset s = .next ((s.set RST_BLKRST_ERR 1).set RST_BLKRST_GO 0)) ∧
  (∀ (n : Nat) (s : State), s.pow.blk = some n →
      s.blockIdle n = true →
      exec .blockIdleReached s = .next (s.blkDone n) ∧ exec .blockIdleTimeout s = .next s) ∧
  (∀ (n : Nat) (s : State), s.pow.blk = some n →
      s.blockIdle n = false →
      exec .blockIdleReached s = .next s ∧ exec .blockIdleTimeout s = .next ((((s.inc RST_BLKSTAT_FORCED).set RST_BLKSTAT_LAST n).raise 9 n).blkDone n))

/-- Power domains, the battery supply and the core supply. Rules: R530, R531, R532, R533, R534, R535, R536, R543. Where a clause rests on a reading or a choice of the model and not on the words of a rule: log entries 78, 105. -/
def Obligations.Supplies : Prop :=
  (∀ (d : Fin 24) (s : State), 14 ≤ d.val →
      bitOf (s.get PWR_DOMCTL_RUN) (d.val - 14) = false →
      s.domainUp d = true →
      exec (.domainOff d) s = .next (((s.raiseC 11 2 d).domainGone d).domSettled)) ∧
  (∀ (d : Fin 24) (cals : List (Nat × Nat × Nat)) (s : State), 14 ≤ d.val →
      bitOf (s.get PWR_DOMCTL_RUN) (d.val - 14) = true →
      s.domainUp d = false →
      exec (.domainOn d [] cals) s = .next (State.domSettled (State.each ((((s.setBit PWR_DOMSTAT_UP d true).islands).domainReset d).raiseC 11 1 d) (cals.filter (fun c => itemDomain c.1 == some d.val)) (fun t c => t.calSet true c)))) ∧
  (∀ (s : State) (t : State), s.pow.vbat = true →
      t = (s.diesOff false).toVbak →
      exec .vbatLoss s = .next { t with pow := { t.pow with vbat := false, asleep := false } }) ∧
  (∀ (s : State), s.pow.vbat = false →
      exec .vbatLoss s = .next s ∧ exec .vbatValid s = .next (State.resetKind { s with pow := { s.pow with vbat := true } } 2 1)) ∧
  (∀ (v : Fin 256) (s : State), s.pow.vbat = true →
      v.val < 40 →
      s.on PWR_STAT_VBATLO = false →
      exec (.vbatLow v) s = .next (((((s.set PWR_STAT_VBAT v).set PWR_STAT_VBATHI 0).set PWR_STAT_VBATLO 1).raiseC 2 1 v).vcoreFollow)) ∧
  (∀ (v : Fin 256) (s : State), s.pow.vbat = true →
      v.val < 40 →
      s.on PWR_STAT_VBATLO = true →
      exec (.vbatLow v) s = .next ((s.set PWR_STAT_VBAT v).set PWR_STAT_VBATHI 0)) ∧
  (∀ (v : Fin 256) (s : State), s.pow.vbat = true →
      80 < v.val →
      s.on PWR_STAT_VBATHI = false →
      exec (.vbatHigh v) s = .next ((((s.set PWR_STAT_VBAT v).vbatBack v).set PWR_STAT_VBATHI 1).evrTake.raiseC 2 2 v)) ∧
  (∀ (v : Fin 256) (s : State), s.pow.vbat = true →
      40 ≤ v.val →
      v.val ≤ 80 →
      s.on PWR_STAT_VBATHI = true →
      exec (.vbatNormal v) s = .next ((((s.set PWR_STAT_VBAT v).set PWR_STAT_VBATHI 0).raiseC 2 3 v).vbatBack v)) ∧
  (∀ (v : Fin 256) (s : State), s.pow.vbat = true →
      40 ≤ v.val →
      v.val ≤ 80 →
      s.on PWR_STAT_VBATHI = false →
      exec (.vbatNormal v) s = .next ((s.set PWR_STAT_VBAT v).vbatBack v)) ∧
  (∀ (tj : Int) (s : State), s.get PWR_VCORE_MODE = 1 →
      (10 * (min 125 (max 85 (s.get PWR_VCORE_TLIM)) : Nat) : Int) < tj →
      s.pow.lower < s.vcoreTarget →
      s.pow.hot = false →
      s.pow.bringUp = none →
      exec (.vcoreThermalStep tj) s = .next (((State.raiseC { s.setS PWR_TEMP_TJ tj with pow := { s.pow with lower := s.pow.lower + 1, hot := true } } 8 1 (ofS 16 tj))).vcoreFollow)) ∧
  (∀ (tj : Int) (s : State), s.get PWR_VCORE_MODE ≠ 1 →
      exec (.vcoreThermalStep tj) s = .next (s.setS PWR_TEMP_TJ tj)) ∧
  (∀ (cals : List (Nat × Nat × Nat)) (s : State) (ds : List Nat), s.pow.msUp = false →
      s.pow.vbat = true →
      s.pow.coreUp = true →
      ds = 13 :: (List.range 8).filterMap (fun k => if bitOf (s.get PWR_DOMCTL_RUN) k then some (14 + k) else none) →
      exec (.msSupplyReturn [] cals) s = .next (State.each (State.each (State.set (State.gtbRestore (State.each (State.islands (State.each { s with pow := { s.pow with msUp := true } } ds (fun t d => t.setBit PWR_DOMSTAT_UP d true))) ds State.domainReset) false) SYS_CLKSTAT_XTAL_OK (b2n (!s.gtb.rc))) (ds.flatMap domainBlocks) (fun t i => t.calClear i)) (cals.filter (fun c => (itemDomain c.1).any (fun d => ds.contains d))) (fun t c => t.calSet true c)))

/-- The backup domain: its supply, its records and its loss. Rules: R537, R538, R539, R540, R541, R558, R562. Where a clause rests on a reading or a choice of the model and not on the words of a rule: log entry 98. -/
def Obligations.BackupDomain : Prop :=
  (∀ (s : State), s.on PWR_STAT_MAIN = true →
      exec .backupToVbak s = .next (((s.set PWR_STAT_MAIN 0).inc PWR_BAKSTAT_SWITCHES).backRaise 1)) ∧
  (∀ (s : State), s.on PWR_STAT_MAIN = false →
      exec .backupToVbak s = .next s) ∧
  (∀ (s : State), exec .backupToVbat s = .next (s.set PWR_STAT_MAIN 1)) ∧
  (∀ (mv : Nat) (s : State), exec (.backupContinuityLoss mv) s = .next ((s.backMin mv).set PWR_BAKSTAT_CONT 0)) ∧
  (∀ (s : State) (t : State), s.on GTB_STAT_GTB_VALID = false →
      t = s.restore (fun k => keyKind k == kindCode .K) →
      exec .backupPor s = .next (State.backRaise { t with evr := { t.evr with persist := [], commit := false, areaA := {}, areaB := {} }, pow := { t.pow with gtbRec := (0, 0, false), ticks := 0, recB := false, backLog := [] } } 5)) ∧
  (∀ (s : State) (t u : State), s.on GTB_STAT_GTB_VALID = true →
      t = s.restore (fun k => keyKind k == kindCode .K) →
      u = State.backRaise { t with evr := { t.evr with persist := [], commit := false, areaA := {}, areaB := {} }, pow := { t.pow with gtbRec := (0, 0, false), ticks := 0, recB := false, backLog := [] } } 5 →
      u.pow.coreUp = true →
      exec .backupPor s = .next (u.raise 22 0)) ∧
  (∀ (mv : Nat) (crcOk : Bool) (s : State) (t : State), t = State.persistCommit (State.backMin { s with pow := { s.pow with ticks := s.pow.ticks + 1 } } mv) { mv := mv, first := crcOk, second := crcOk } →
      t.pow.msUp = false ∨ mv < 2100 →
      exec (.backupGtbRecord mv crcOk) s = .next t) ∧
  (∀ (mv : Nat) (s : State) (t : State), t = State.persistCommit (State.backMin { s with pow := { s.pow with ticks := s.pow.ticks + 1 } } mv) { mv := mv, first := true, second := true } →
      t.pow.msUp = true →
      2100 ≤ mv →
      exec (.backupGtbRecord mv true) s = .next ((State.set { t with pow := { t.pow with gtbRec := (t.nowNs, t.pow.ticks, t.on GTB_STAT_GTB_VALID), recB := !t.pow.recB } } (if t.pow.recB then PWR_BAKSTAT_RECA else PWR_BAKSTAT_RECB) 1).set PWR_BAKSTAT_CONT 1)) ∧
  (∀ (v : Fin 256) (s : State), s.pow.vbat = true →
      v.val < 125 →
      s.on PWR_STAT_BAKLOW = false →
      exec (.vbakLow v) s = .next (((s.set PWR_STAT_VBAK v).set PWR_STAT_BAKLOW 1).backRaise 2)) ∧
  (∀ (v : Fin 256) (s : State), s.pow.vbat = true →
      125 ≤ v.val →
      exec (.vbakLow v) s = .next ((s.set PWR_STAT_VBAK v).set PWR_STAT_BAKLOW 0))

/-- Bring-up: calibration, power-up tests, CAN-ready, fully ready, sleep, wake and ZONE_OK. Rules: R323, R324, R326, R333, R334, R551, R553, R575. Where a clause rests on a reading or a choice of the model and not on the words of a rule: log entries 36, 63, 107, 109, 122. -/
def Obligations.BringUp : Prop :=
  (∀ (k : Fin 177) (cal : Nat × Nat) (s : State), s.pow.bringUp.isSome = true →
      (calItems s.warmUp).contains k.val = true →
      s.pow.calDone.contains k.val = false →
      s.itemDue k = true →
      exec (.calibrationDone (some k) true cal) s = .next (State.calSet { s with pow := { s.pow with calDone := k.val :: s.pow.calDone } } true (k.val, cal)) ∧ exec (.calibrationDone (some k) false cal) s = .next (State.markItem (State.calSet { s with pow := { s.pow with calDone := k.val :: s.pow.calDone } } false (k.val, cal)) k 1)) ∧
  (∀ (i : Option (Fin 177)) (ok : Bool) (cal : Nat × Nat) (s : State), s.pow.bringUp = none →
      exec (.calibrationDone i ok cal) s = .next s) ∧
  (∀ (i : Fin 179) (e : TestEnd) (t : State) (s : State), s.pow.bringUp.isSome = true →
      (testItems s.warmUp).contains i.val = true →
      s.pow.testDone.contains i.val = false →
      s.itemDue i = true →
      i.val < 87 ∨ 103 ≤ i.val →
      t = State.testEnded { s with pow := { s.pow with testDone := i.val :: s.pow.testDone } } i e →
      exec (.powerupTestDone i e) s = .next (t.setIf ((testItems t.warmUp).all (fun k => t.pow.testDone.contains k || !t.itemDue k)) STE_STAT_PUDONE 1)) ∧
  (∀ (i : Fin 179) (e : TestEnd) (s : State), s.pow.bringUp = none →
      exec (.powerupTestDone i e) s = .next s) ∧
  (∀ (n : Nat) (s : State), s.pow.bringUp.isSome = true →
      s.pow.pin = false →
      s.get SYS_READY_STAGE = 1 →
      s.on MBX_GSTAT_RECOVERY = false →
      s.mirrorsReady = true →
      exec (.canReady n) s = .next (State.readyBall (State.raiseC (State.bootReport ((s.set SYS_READY_STAGE 2).set SYS_READYT_TCAN (satU 16 n))) 1 2 (satU 16 n)))) ∧
  (∀ (n : Nat) (peer : Bool) (u : State) (s : State), s.pow.bringUp.isSome = true →
      s.get SYS_READY_STAGE = 2 →
      s.bringUpOver = true →
      isTwin s.part = false →
      u = ((s.setIf s.anyMarked SYS_READY_DEGRADED 1).set SYS_READY_STAGE 3).set SYS_READYT_TFULL (satU 16 n) →
      exec (.fullyReady n peer) s = .next (State.readyBall (State.raiseC { u with pow := { u.pow with bringUp := none } } 1 3 ((s.setIf s.anyMarked SYS_READY_DEGRADED 1).get SYS_READY_DEGRADED * 2 ^ 23 + satU 16 n)))) ∧
  (∀ (n : Nat) (peer : Bool) (s : State), s.get SYS_READY_STAGE ≠ 1 →
      s.get SYS_READY_STAGE ≠ 2 →
      exec (.canReady n) s = .next s ∧ exec (.fullyReady n peer) s = .next s) ∧
  (∀ (s : State), s.zoneMay = true →
      s.on CRS_ZOK_LEVEL = false →
      exec .zoneOkRequest s = .next (((s.set CRS_ZOK_LEVEL 1).raiseC 269 2 0).emit (.ball "ZONE_OK" 0 1))) ∧
  (∀ (s : State), s.zoneMay = false →
      exec .zoneOkRequest s = .next s) ∧
  (∀ (s : State), s.on CRS_ZOK_LEVEL = true →
      exec .zoneOkDrop s = .next ((((s.set CRS_ZOK_LEVEL 0).set CRS_ZOK_CAUSE 1).raiseC 269 1 1).emit (.ball "ZONE_OK" 0 0)) ∧ exec .zoneOkWatchdog s = .next ((((s.set CRS_ZOK_LEVEL 0).set CRS_ZOK_CAUSE 2).raiseC 269 1 2).emit (.ball "ZONE_OK" 0 0))) ∧
  (∀ (b : Fin 40) (s : State), s.pow.asleep = true →
      s.pow.vbat = true →
      s.wakeDetect b = true →
      exec (.wakeReport b) s = .next ((s.wakeRecord b).resetKind 2 2)) ∧
  (∀ (b : Fin 40) (s : State), s.pow.asleep = true →
      s.wakeDetect b = false →
      exec (.wakeReport b) s = .next s) ∧
  (∀ (s : State) (t : State), s.get CRS_STAT_STATE = 5 →
      s.pow.coreUp = true →
      t = s.diesOff true →
      t.crs.window = false →
      exec .sleepCorePowerOff s = .next { t with pow := { t.pow with asleep := true } }) ∧
  (∀ (s : State), s.get CRS_STAT_STATE ≠ 5 ∨ s.pow.coreUp = false →
      exec .sleepCorePowerOff s = .next s)

/-- GET_INFO, GET_BOOTSTAT, ECHO, the nonce, measurement, quotes, certificates and images. Rules: R504, R507, R508, R509, R510, R514, R522, R523. Where a clause rests on a reading or a choice of the model and not on the words of a rule: log entries 26, 27, 30. -/
def Obligations.CompassInformation : Prop :=
  (∀ (m : Fin 8) (t : State) (s : State), compassRuns s m 0x01 0x3F false false t →
      exec (.getInfo m) s = .next (CmdRes.answer { s := t, res := [sysId t.part, t.get MBX_GSTAT_LC + t.get MBX_GSTAT_RECOVERY * 2 ^ 8 + t.cmp.booted.getD 0 * 2 ^ 16, Config.romVersion.toNat, t.pow.record.get 0 % 256] ++ words32 4 (toBytes 16 t.cmp.ks.devId) })) ∧
  (∀ (m : Fin 8) (t : State) (s : State), compassRuns s m 0x02 0x1E false false t →
      exec (.getBootstat m) s = .next (CmdRes.answer { s := t, res := [t.cmp.booted.getD 0 + t.cmp.ks.active * 2 + t.cmp.ks.pending.getD 0 * 4 + t.cmp.ks.tries % 8 * 16 + t.cmp.ks.upd * 256, t.manVersion 0, t.manVersion 1, t.cmp.ks.rollback, t.cmp.bootErr.get 0 + t.cmp.bootErr.get 1 * 256, t.cmp.bootUs] })) ∧
  (∀ (m : Fin 8) (t : State) (s : State), compassRuns s m 0x03 0x3F false false t →
      exec (.echo m) s = .next (CmdRes.answer { s := t, res := (List.range 8).map (t.arg m) })) ∧
  (∀ (m : Fin 8) (nonce : List Nat) (t : State) (s : State), compassRuns s m 0x14 0x1E false false t →
      nonce.length = 32 →
      nonce.all (fun b => decide (b < 256)) = true →
      exec (.lcChallenge m nonce) s = .next (CmdRes.answer { s := { t with cmp := { t.cmp with nonce := some nonce } }, res := words32 8 nonce })) ∧
  (∀ (s : State), exec .nonceExpiry s = .next { s with cmp := { s.cmp with nonce := none } }) ∧
  (∀ (m : Fin 8) (t : State) (s : State), compassRuns s m 0x20 0x1E false false t →
      t.arg m 3 < 8 →
      t.bufErr m 48 false true = 0 →
      exec (.measRead m) s = .next (CmdRes.answer { s := t.setBytes (t.bufAddr m) (t.measAt (t.arg m 3)) })) ∧
  (∀ (m : Fin 8) (t : State) (s : State), compassRuns s m 0x20 0x1E false false t →
      8 ≤ t.arg m 3 →
      exec (.measRead m) s = .next (CmdRes.fail t errARG).answer) ∧
  (∀ (m : Fin 8) (t : State) (s : State), compassRuns s m 0x21 0x1E true false t →
      4 ≤ t.arg m 3 →
      t.arg m 3 < 8 →
      t.bufErr m 48 true false = 0 →
      exec (.measExtend m) s = .next (CmdRes.answer { s := t.measExtend (t.arg m 3) (t.bufRead m 48) })) ∧
  (∀ (m : Fin 8) (q : List Nat) (t : State) (s : State), compassRuns s m 0x22 0x1C false false t →
      t.arg m 3 < 256 →
      t.bufErr m (0xA0 + 48 * popCount (t.arg m 3) 8) true true = 0 →
      t.cmp.scan = false →
      q = t.quoteBytes m (t.arg m 3) ++ toBytesBE 96 (Config.sign t.free t.cmp.ks.attest (digest (t.quoteBytes m (t.arg m 3)))).toNat →
      exec (.quote m) s = .next (CmdRes.answer { s := t.draw.setBytes (t.bufAddr m) q, res := [q.length] })) ∧
  (∀ (m : Fin 8) (cert : List Nat) (t : State) (s : State), compassRuns s m 0x23 0x1C false false t →
      cert = (Config.certChain t.cmp.ks.attest t.cmp.ks.devId).map (· % 256) →
      exec (.getCert m) s = .next (CmdRes.orRun t (t.bufErr m cert.length false true) { s := t.setBytes (t.bufAddr m) cert, res := [cert.length] }).answer) ∧
  (∀ (m : Fin 8) (r : Fin 3 × BitVec 32 × BitVec 384) (t : State) (s : State), compassRuns s m 0x24 0x1C false false t →
      t.arg m 3 < 4 →
      t.arg m 4 = 0 ∨ 4 ≤ t.arg m 4 ∧ t.arg m 4 < 8 →
      t.bufErr m 1 true false = 0 →
      r = Config.signedBlob (t.cmp.ks.roots.get (t.arg m 3)) (t.bufRead m (t.bufLen m)) →
      exec (.verifyImage m) s = .next (if !t.rootLive (t.arg m 3) || r.1.val == 1 then CmdRes.fail t errAUTH else if r.1.val = 2 then CmdRes.fail t errDIGEST else if t.cmp.ks.lc = 3 ∧ r.2.1.toNat < t.cmp.ks.rollback then CmdRes.fail t errVERSION else { s := if t.arg m 4 = 0 then t else t.measExtend (t.arg m 4) (toBytesBE 48 r.2.2.toNat), res := [r.2.1.toNat] }).answer) ∧
  (∀ (m : Fin 8) (bytes : List Nat) (t : State) (s : State), compassRuns s m 0x62 0x1E false false t →
      t.bufLen m ≤ 4096 →
      t.bufErr m 1 false true = 0 →
      exec (.rng m bytes) s = .next (CmdRes.answer { s := t.setBytes (t.bufAddr m) ((List.range (t.bufLen m)).map (fun i => bytes.getD i 0 % 256)) }))

/-- Provisioning, life cycle, debug unlock and root keys. Rules: R509, R510, R512, R513, R514, R515, R516. Where a clause rests on a reading or a choice of the model and not on the words of a rule: log entries 31, 82. -/
def Obligations.LifeCycle : Prop :=
  (∀ (m : Fin 8) (a b d : Nat) (t : State) (s : State), compassRunsNv s m 0x10 0x01 false true t →
      t.bufErr m 0x141 true false = 0 →
      t.cmp.fails < 8 →
      exec (.provDevid m a b d) s = .next (if t.tokenBad m 4 = true then CmdRes.fail (t.tokenFailed m 0x10) errAUTH else { s := State.lcSet (State.ksSet (t.tokenSpent m) (fun k => { k with secret := a, attest := b, devId := d % 2 ^ 128, salt := 1 })) 1, res := [0, 0, 0, 0] ++ words32 4 (toBytes 16 d) }).answer) ∧
  (∀ (m : Fin 8) (t : State) (s : State), compassRunsNv s m 0x11 0x06 true true t →
      t.arg m 4 = 0x4C43_4144 →
      t.arg m 3 = 2 →
      t.cmp.ks.lc = 1 →
      t.bufErr m 0x141 true false = 0 →
      t.cmp.fails < 8 →
      exec (.lcAdvance m) s = .next (if t.tokenBad m 4 = true then CmdRes.fail (t.tokenFailed m 0x11) errAUTH else { s := State.lcSet (State.bankErase (State.bankErase (t.tokenSpent m) 0) 1) 2, res := [2] }).answer) ∧
  (∀ (m : Fin 8) (b : Nat) (t : State) (s : State), compassRunsNv s m 0x11 0x06 true true t →
      t.arg m 4 = 0x4C43_4144 →
      t.arg m 3 = 3 →
      t.cmp.ks.lc = 2 →
      t.arg m 0 = 0 →
      t.arg m 1 = 0 →
      t.cmp.ks.pending = none →
      t.cmp.booted = some b →
      exec (.lcAdvance m) s = .next (if !(List.range 4).any t.rootLive || t.verifyBank b false != 0 then CmdRes.fail t errORDER else { s := State.lcSet (t.ksSet (fun k => { k with rollback := t.manVersion b })) 3, res := [3] }).answer) ∧
  (∀ (m : Fin 8) (t : State) (s : State), compassRunsNv s m 0x12 0x0C true true t →
      t.bufErr m 0x141 true false = 0 →
      t.cmp.fails < 8 →
      exec (.lcReturn m) s = .next (if t.tokenBad m 1 = true then CmdRes.fail (t.tokenFailed m 0x12) errAUTH else { s := State.lcSet (State.lcErase (t.tokenSpent m)) 4, res := [4] }).answer) ∧
  (∀ (m : Fin 8) (t : State) (s : State), compassRunsNv s m 0x13 0x1F true true t →
      t.arg m 3 = 0x454E_4421 →
      exec (.lcEnd m) s = .next (CmdRes.answer { s := State.lcSet (t.lcErase.ksSet (fun k => { k with secret := 0, attest := 0 })) 5 })) ∧
  (∀ (m : Fin 8) (t : State) (s : State), compassRunsNv s m 0x13 0x1F true true t →
      t.arg m 3 ≠ 0x454E_4421 →
      exec (.lcEnd m) s = .next (CmdRes.fail t errARG).answer) ∧
  (∀ (m : Fin 8) (t : State) (s : State), compassRuns s m 0x15 0x08 true true t →
      t.bufErr m 0x141 true false = 0 →
      t.cmp.fails < 8 →
      exec (.dbgUnlock m) s = .next (if t.tokenBad m 2 = true then CmdRes.fail (t.tokenFailed m 0x15) errAUTH else { s := { (t.tokenSpent m) with cmp := { (t.tokenSpent m).cmp with debug := some ((t.tokenSpent m).tokenArg m) } }, res := [(t.tokenSpent m).tokenArg m] }).answer) ∧
  (∀ (m : Fin 8) (t : State) (s : State), compassRunsNv s m 0x16 0x04 true true t →
      t.arg m 3 < 4 →
      t.bufErr m 52 true false = 0 →
      t.cmp.ks.roots.get (t.arg m 3) = [] →
      exec (.provRootkey m) s = .next (CmdRes.answer { s := t.ksSet (fun x => { x with roots := x.roots.put (t.arg m 3) (t.bufRead m 52) }) })) ∧
  (∀ (m : Fin 8) (t : State) (s : State), compassRunsNv s m 0x17 0x0C true true t →
      t.bufErr m 0x141 true false = 0 →
      t.cmp.fails < 8 →
      exec (.keyRevoke m) s = .next (if t.tokenBad m 3 = true then CmdRes.fail (t.tokenFailed m 0x17) errAUTH else (if 4 ≤ (t.tokenSpent m).tokenArg m then CmdRes.fail (t.tokenSpent m) errARG else if !(List.range 4).any (fun j => j != (t.tokenSpent m).tokenArg m && (t.tokenSpent m).rootLive j) || (t.tokenSpent m).tokenArg m == (t.tokenSpent m).tokenSlot m || (t.tokenSpent m).cmp.booted.any (fun b => (t.tokenSpent m).manSlot b == (t.tokenSpent m).tokenArg m) then CmdRes.fail (t.tokenSpent m) errBUSY else { s := State.ksSet (t.tokenSpent m) (fun x => { x with revoked := Machine.setBit x.revoked ((t.tokenSpent m).tokenArg m) }) })).answer)

/-- Updates of the software banks. Rules: R504, R509, R510, R524, R525, R532. Where a clause rests on a reading or a choice of the model and not on the words of a rule: log entries 28, 83, 95. -/
def Obligations.Updates : Prop :=
  (∀ (m : Fin 8) (b : Nat) (t : State) (s : State), compassRunsNv s m 0x30 0x0C true true t →
      t.arg m 3 < 2 →
      t.cmp.trial = false →
      t.cmp.booted = some b →
      exec (.updBegin m true) s = .next (CmdRes.answer { s := State.raiseC (State.ksSet (t.recCommit (otherBank b) t.recNew) (fun k => { k with upd := 1, bank := otherBank b, pending := none, tries := 0 })) 303 1 0, res := [otherBank b] })) ∧
  (∀ (m : Fin 8) (t : State) (s : State), compassRunsNv s m 0x30 0x0C true true t →
      t.arg m 3 < 2 →
      t.cmp.trial = true →
      exec (.updBegin m true) s = .next (CmdRes.fail t errBUSY).answer) ∧
  (∀ (m : Fin 8) (t : State) (s : State), compassRunsNv s m 0x31 0x0C true true t →
      updFits t.part (t.arg m 3) (t.arg m 2) = true →
      t.bufErr m 256 true false = 0 →
      t.cmp.ks.upd ≠ 0 →
      exec (.updWrite m true) s = .next (CmdRes.answer { s := t.updProgram (t.arg m 3) (t.bufRead m (t.arg m 2)) })) ∧
  (∀ (m : Fin 8) (t : State) (s : State), compassRunsNv s m 0x31 0x0C true true t →
      updFits t.part (t.arg m 3) (t.arg m 2) = true →
      t.bufErr m 256 true false = 0 →
      t.cmp.ks.upd = 0 →
      exec (.updWrite m true) s = .next (CmdRes.fail t errORDER).answer) ∧
  (∀ (m : Fin 8) (f : Nat) (d : List Nat) (t : State) (s : State), compassRunsNv s m 0x32 0x0C true true t →
      updFits t.part (t.arg m 3) (t.arg m 5) = true →
      t.cmp.ks.upd ≠ 0 →
      t.cmp.erasing = false →
      t.cmp.flash = some f →
      exec (.updFromXspi m (some d) true) s = .next (CmdRes.answer { s := t.updProgram (t.arg m 3) ((List.range (t.arg m 5)).map (fun i => d.getD i 0 % 256)) })) ∧
  (∀ (m : Fin 8) (b : Nat) (bad : List Nat) (t : State) (s : State), compassRunsNv s m 0x33 0x0C true true t →
      t.cmp.ks.upd ≠ 0 →
      b = t.cmp.ks.bank →
      exec (.updVerify m bad) s = .next (if t.verifyBank b (inBank t.part b bad) ≠ 0 then CmdRes.fail (t.eccBank b bad) (t.verifyBank b (inBank t.part b bad)) else { s := t.ksSet (fun k => { k with upd := 2 }), res := [t.manVersion b, t.manSlot b, t.imageKiB b] }).answer) ∧
  (∀ (m : Fin 8) (t : State) (s : State), compassRunsNv s m 0x34 0x0C true true t →
      t.arg m 3 &&& 0x71 = t.arg m 3 →
      t.cmp.ks.upd = 2 →
      exec (.updActivate m) s = .next (CmdRes.answer { s := State.raiseC (t.ksSet (fun k => { k with upd := 0, pending := some k.bank, tries := if bf (t.arg m 3) 4 3 = 0 then 3 else bf (t.arg m 3) 4 3 })) 303 2 0 })) ∧
  (∀ (m : Fin 8) (t : State) (s : State), compassRunsNv s m 0x34 0x0C true true t →
      t.arg m 3 &&& 0x71 = t.arg m 3 →
      t.cmp.ks.upd ≠ 2 →
      exec (.updActivate m) s = .next (CmdRes.fail t errORDER).answer) ∧
  (∀ (m : Fin 8) (b roll : Nat) (u : State) (t : State) (s : State), compassRunsNv s m 0x35 0x0C true false t →
      t.cmp.booted = some b →
      t.cmp.ks.pending = some b →
      roll = (if t.cmp.ks.lc = 3 then max t.cmp.ks.rollback (t.manVersion b) else t.cmp.ks.rollback) →
      u = t.ksSet (fun k => { k with active := b, pending := none, tries := 0, rollback := roll }) →
      exec (.updConfirm m) s = .next (CmdRes.answer { s := State.raiseC { u with cmp := { u.cmp with trial := false } } 303 3 (roll % 2 ^ 16), res := [roll] })) ∧
  (∀ (m : Fin 8) (b : Nat) (t : State) (s : State), compassRunsNv s m 0x36 0x0C true true t →
      t.arg m 3 < 2 →
      b = otherBank (t.cmp.booted.getD t.cmp.ks.active) →
      t.cmp.ks.rollback ≤ t.manVersion b →
      exec (.updRevert m) s = .next (if t.verifyBank b false ≠ 0 then CmdRes.fail t errORDER else { s := State.raiseC (t.ksSet (fun k => { k with pending := some b, tries := 1 })) 303 4 0 }).answer) ∧
  (∀ (m : Fin 8) (b : Nat) (t : State) (s : State), compassRunsNv s m 0x36 0x0C true true t →
      t.arg m 3 < 2 →
      b = otherBank (t.cmp.booted.getD t.cmp.ks.active) →
      t.manVersion b < t.cmp.ks.rollback →
      exec (.updRevert m) s = .next (CmdRes.fail t errVERSION).answer)

/-- Settings records, eNVM, the persistent area, wrapped keys and external flash. Rules: R445, R509, R510, R526, R532. Where a clause rests on a reading or a choice of the model and not on the words of a rule: log entries 26, 29, 32, 80, 83. -/
def Obligations.SettingsAndStorage : Prop :=
  (∀ (m : Fin 8) (b : Nat) (t : State) (s : State), compassRuns s m 0x40 0x1E true false t →
      t.cfgBank m = some b →
      t.arg m 4 < 1024 →
      exec (.cfgRead m) s = .next (match t.recCopy b with | some k => CmdRes.answer { s := t, res := [t.recWord b k (t.arg m 4)] } | none => (CmdRes.fail t errECC).answer)) ∧
  (∀ (m : Fin 8) (b : Nat) (t : State) (s : State), compassRuns s m 0x40 0x1E true false t →
      t.cfgBank m = some b →
      1024 ≤ t.arg m 4 →
      exec (.cfgRead m) s = .next (CmdRes.fail t errARG).answer) ∧
  (∀ (m : Fin 8) (b k : Nat) (t : State) (s : State), compassRunsNv s m 0x41 0x1E true false t →
      t.cfgBank m = some b →
      t.arg m 4 < 1024 →
      k = (t.recCopy b).getD 0 →
      exec (.cfgWrite m true) s = .next (CmdRes.answer { s := t.recCommit b ((List.range 1024).map (fun i => if i = t.arg m 4 then (t.recWord b k i ^^^ (t.recWord b k i &&& t.arg m 6)) ||| (t.arg m 5 &&& t.arg m 6) else t.recWord b k i)) })) ∧
  (∀ (m : Fin 8) (b : Nat) (t : State) (s : State), compassRunsNv s m 0x41 0x1E true false t →
      t.cfgBank m = some b →
      1024 ≤ t.arg m 4 →
      exec (.cfgWrite m true) s = .next (CmdRes.fail t errARG).answer) ∧
  (∀ (m : Fin 8) (t : State) (s : State), compassRuns s m 0x42 0x1E true false t →
      t.arg m 3 % 256 = 0 →
      within (t.arg m 3) (bankBase 0) (envmBank t.part) = true →
      exec (.envmRefresh m 0 .clean true) s = .next (CmdRes.answer { s := t, res := [0] })) ∧
  (∀ (m : Fin 8) (t : State) (s : State), compassRunsNv s m 0x42 0x1E true false t →
      t.arg m 3 % 256 = 0 →
      within (t.arg m 3) (bankBase 0) (envmBank t.part) = true →
      exec (.envmRefresh m 2 .corrected true) s = .next (CmdRes.answer { s := State.each t [0, 1] (fun u _ => u.eccSee (t.arg m 3) 8 false .corrected), res := [2] })) ∧
  (∀ (m : Fin 8) (l : List PersistEntry) (t : State) (s : State), compassRuns s m 0x43 0x1E true false t →
      t.bufErr m 512 false true = 0 →
      l = t.evr.persist.reverse →
      exec (.persistRead m) s = .next (CmdRes.answer { s := t.setBytes (t.bufAddr m) (l.flatMap (fun (p : PersistEntry) => toBytes 8 p.at_.ns ++ toBytes 2 (p.src % 512) ++ toBytes 2 (satU 16 p.count) ++ toBytes 4 p.word)), res := [l.length] })) ∧
  (∀ (m : Fin 8) (t : State) (s : State), compassRuns s m 0x44 0x1E true false t →
      exec (.persistClear m) s = .next (CmdRes.answer { s := { t with evr := { t.evr with persist := [], commit := true } } })) ∧
  (∀ (m : Fin 8) (w : List Nat) (t : State) (s : State), compassRuns s m 0x60 0x1C false false t →
      t.bufErr m 16 true true = 0 →
      t.bufLen m ≤ 4096 →
      t.bufLen m % 8 = 0 →
      t.bufOk m (t.bufLen m + 8) .write = true →
      t.cmp.scan = false →
      w = (Config.keyWrap t.cmp.ks.secret t.cmp.ks.salt (t.mbxOwner m).inner (t.cmp.grp.get m) (t.arg m 3) (t.bufRead m (t.bufLen m))).map (· % 256) →
      exec (.keyWrap m) s = .next (CmdRes.answer { s := t.setBytes (t.bufAddr m) w, res := [w.length] })) ∧
  (∀ (m : Fin 8) (w : Option (List Nat)) (t : State) (s : State), compassRuns s m 0x61 0x1C false false t →
      t.bufErr m 16 true true = 0 →
      t.bufLen m ≤ 4096 →
      t.bufLen m % 8 = 0 →
      t.bufOk m (t.bufLen m) .write = true →
      t.cmp.scan = false →
      w = Config.keyUnwrap t.cmp.ks.secret t.cmp.ks.salt (t.mbxOwner m).inner (t.cmp.grp.get m) (t.arg m 3) (t.bufRead m (t.bufLen m)) →
      exec (.keyUnwrap m) s = .next (match w with | some d => CmdRes.answer { s := t.setBytes (t.bufAddr m) (d.map (· % 256)), res := [(d.map (· % 256)).length] } | none => (CmdRes.fail t errAUTH).answer)) ∧
  (∀ (m : Fin 8) (j k : Fin 4294967296) (u : State) (t : State) (s : State), compassRuns s m 0x70 0x1E true true t →
      t.arg m 3 < 2 →
      t.arg m 4 ≠ 0 →
      t.arg m 4 ≤ 200 →
      t.cmp.erasing = false →
      u = t.xspi 0x70 (t.arg m 3) (t.arg m 4) →
      exec (.xspiInit m (some (j, k))) s = .next (CmdRes.answer { s := { u with cmp := { u.cmp with flash := some (t.arg m 3) } }, res := [j.val, k.val] })) ∧
  (∀ (m : Fin 8) (f : Nat) (d : List Nat) (t : State) (s : State), compassRuns s m 0x71 0x1E true true t →
      t.bufLen m ≤ 0x1_0000 →
      t.bufErr m 1 false true = 0 →
      t.cmp.erasing = false →
      t.cmp.flash = some f →
      exec (.xspiRead m (some d)) s = .next (CmdRes.answer { s := (t.xspi 0x71 (t.arg m 3) (t.bufLen m)).setBytes (t.bufAddr m) ((List.range (t.bufLen m)).map (fun i => d.getD i 0 % 256)) })) ∧
  (∀ (m : Fin 8) (f : Nat) (t : State) (s : State), compassRuns s m 0x72 0x1E true true t →
      t.bufLen m ≤ 0x1_0000 →
      t.arg m 3 % 256 = 0 →
      t.bufErr m 1 true false = 0 →
      t.cmp.erasing = false →
      t.cmp.flash = some f →
      exec (.xspiProgram m true) s = .next (CmdRes.answer { s := t.emit (.link "XSPI" ([0x72, t.arg m 3, t.bufLen m] ++ t.bufRead m (t.bufLen m))) })) ∧
  (∀ (m : Fin 8) (f : Nat) (u : State) (t : State) (s : State), compassRuns s m 0x73 0x1E true true t →
      t.arg m 4 = 2 →
      t.cmp.erasing = false →
      t.cmp.flash = some f →
      u = t.xspi 0x73 (t.arg m 3) 2 →
      exec (.xspiErase m true) s = .next (CmdRes.answer { s := { u with cmp := { u.cmp with erasing := true } } })) ∧
  (∀ (m : Fin 8) (t : State) (s : State), compassRuns s m 0x73 0x1E true true t →
      t.arg m 4 = 0 →
      t.arg m 3 % 0x1000 = 0 →
      t.cmp.erasing = true →
      exec (.xspiErase m true) s = .next (CmdRes.fail t errBUSY).answer) ∧
  (∀ (s : State), exec .xspiEraseDone s = .next { s with cmp := { s.cmp with erasing := false } })

/-- Completion of a command, HANDOVER, restarts, resets, tests on request, scan and secure boot. Rules: R457, R460, R504, R509, R510, R511, R520, R542, R578, R580. Where a clause rests on a reading or a choice of the model and not on the words of a rule: log entries 84, 86, 95. -/
def Obligations.CompassControl : Prop :=
  (∀ (m : Nat) (res : List Nat) (e : Nat) (s : State), s.cmp.run = some m →
      s.cmp.res = some (res, e) →
      s.get (MBX_CMD_OPCODE m) ≠ 0x34 →
      s.get (MBX_CMD_OPCODE m) ≠ 0x36 →
      s.cmp.drop = false →
      exec .mbxCommandComplete s = .next (State.raise (((State.set ((State.each { s with cmp := { s.cmp with run := none, res := none, drop := false } } (res.zipIdx.take 8) (fun t p => t.set (MBX_RESULT_RESULT m p.2) p.1)).set (MBX_STATUS_ERR m) e) (MBX_CMD_GO m) 0).set (MBX_STATUS_STATE m) 4).set MBX_GSTAT_CUROP 0) 296 (s.get (MBX_CMD_OPCODE m) * 2 ^ 24 + e * 2 ^ 16 + m * 256 + s.get (MBX_STATUS_OWNER m)))) ∧
  (∀ (s : State), s.cmp.run = none →
      s.cmp.queue = [] →
      exec .mbxCommandComplete s = .next s) ∧
  (∀ (m : Fin 8) (t : State) (s : State), compassRuns s m 0x50 0x1E false false t →
      bf (t.arg m 0) 0 25 = 0 →
      t.arg m 0 / 2 ^ 29 = 2 →
      t.arg m 2 ≠ 0 →
      bitOf (t.arg m 0) 26 = false →
      t.arg m 4 = 0 →
      exec (.handover m []) s = .next (t.handPsc m (t.mbxOwner m) (t.arg m 0) (t.arg m 1) (t.arg m 2) (t.arg m 3)).answer) ∧
  (∀ (m : Fin 8) (t : State) (s : State), compassRuns s m 0x50 0x1E false false t →
      bf (t.arg m 0) 0 25 = 0 →
      t.arg m 0 / 2 ^ 29 = 3 →
      t.arg m 2 ≠ 0 →
      bitOf (t.arg m 0) 26 = false →
      exec (.handover m []) s = .next (t.handCan m (t.mbxOwner m) (t.arg m 0) (t.arg m 1) (t.arg m 2) (t.arg m 3) (t.arg m 4)).answer) ∧
  (∀ (m : Fin 8) (t : State) (s : State), compassRuns s m 0x50 0x1E false false t →
      bf (t.arg m 0) 0 25 = 0 →
      t.arg m 0 / 2 ^ 29 = 4 →
      t.arg m 2 ≠ 0 →
      bitOf (t.arg m 0) 26 = false →
      t.arg m 4 = 0 →
      exec (.handover m []) s = .next (t.handSources (t.mbxOwner m) (t.arg m 0) (t.arg m 1) (t.arg m 2) (t.arg m 3)).answer) ∧
  (∀ (m : Fin 8) (late : List (Fin 119)) (t : State) (s : State), compassRuns s m 0x50 0x1E false false t →
      bf (t.arg m 0) 0 25 = 0 →
      t.arg m 0 / 2 ^ 29 = 0 ∨ t.arg m 0 / 2 ^ 29 = 1 →
      t.arg m 2 ≠ 0 →
      bitOf (t.arg m 0) 26 = false →
      t.arg m 4 = 0 →
      exec (.handover m late) s = .next (t.handPages m (t.mbxOwner m) (t.arg m 0 / 2 ^ 29) (t.arg m 0) (t.arg m 1) (t.arg m 2) (t.arg m 3) (late.map Fin.val)).answer) ∧
  (∀ (m : Fin 8) (late : List (Fin 119)) (t : State) (s : State), compassRuns s m 0x50 0x1E false false t →
      bf (t.arg m 0) 0 25 = 0 →
      t.arg m 0 / 2 ^ 29 = 7 ∨ t.arg m 2 = 0 →
      exec (.handover m late) s = .next (CmdRes.fail t errARG).answer) ∧
  (∀ (m : Fin 8) (t : State) (s : State), compassRuns s m 0x51 0x1E true false t →
      t.arg m 0 < 8 →
      t.isHart (t.arg m 0) = true →
      t.get (RGN_WSTAT_STATE (t.arg m 0)) ≠ 3 →
      t.get (RGN_WSTAT_STATE (t.arg m 0)) ≠ 2 →
      exec (.innerRestart m) s = .next (CmdRes.answer { s := t.restartBegin (t.arg m 0) 4 })) ∧
  (∀ (m : Fin 8) (t : State) (s : State), s.arg m 0 = 1 ∨ s.arg m 0 = 2 →
      s.arg m 1 = 0x5253_5421 →
      s.lcOk 0x1F = true →
      s.callerOk m true true = true →
      s.takeUp m 0x52 = some t →
      exec (.resetReq m) s = .next (t.resetKind (if s.arg m 0 = 1 then 4 else 3) 5)) ∧
  (∀ (m : Fin 8) (flaky bad : List Nat) (ok : Bool) (sig : Nat) (t : State) (s : State), compassRuns s m 0x53 0x1E true false t →
      s.arg m 0 = 1 →
      s.inSlice (s.arg m 1) = false →
      s.arg m 1 < 58 →
      t.unitExists (s.arg m 1) = true →
      t.on STE_COND_OK = true →
      exec (.stRun m flaky bad ok sig) s = .next (testDone (t.askedSlice flaky bad (s.arg m 1)) 1 (!bad.contains (s.arg m 1)) sig).answer) ∧
  (∀ (m : Fin 8) (t : State) (u : State) (s : State), compassRuns s m 0x54 (if isTwin s.part then 0x12 else 0x16) true true t →
      t.arg m 0 = 0x5343_414E →
      u = State.forget (State.restore (State.each (State.each (t.raise 310 0) (List.range 8) (fun v c => (v.coreSet c (fun k => { k with stopped := true })).wstat c)) (List.range 12) (fun v e => (v.set (TG_CTL_RUN e) 0).tgFinish e)) macKeys) (fun a => within a 0x1000_0000 0x140_0000 || within a 0x2000_0000 0x30_0000) →
      exec (.scanEnable m) s = .next (CmdRes.answer { s := { u with cmp := { u.cmp with nonce := none, scan := true } } })) ∧
  (∀ (bad : List Nat) (us : Nat) (s : State), s.pow.bringUp.isSome = true →
      s.pow.pin = false →
      s.pow.coreUp = true →
      s.pow.vbat = true →
      s.get SYS_READY_STAGE = 0 →
      s.coreTested = true →
      s.on PWR_STAT_VBATLO = false →
      s.pow.bringUp ≠ some 4 →
      s.cmp.ks.lc = 0 ∨ s.cmp.ks.lc = 5 →
      exec (.secureBoot bad us) s = .next (State.recovery { State.islands (((((s.set SYS_READY_STAGE 1).eraseFinish).showLc).set SYS_CLKSTAT_XTAL_OK (b2n (!(((s.set SYS_READY_STAGE 1).eraseFinish).showLc).gtb.rc))).set PWR_DOMSTAT_UP 0x301F) with cmp := { (State.islands (((((s.set SYS_READY_STAGE 1).eraseFinish).showLc).set SYS_CLKSTAT_XTAL_OK (b2n (!(((s.set SYS_READY_STAGE 1).eraseFinish).showLc).gtb.rc))).set PWR_DOMSTAT_UP 0x301F)).cmp with bootUs := us % 2 ^ 32 } })) ∧
  (∀ (bad : List Nat) (us : Nat) (t : State) (s : State), s.pow.bringUp.isSome = true →
      s.pow.pin = false →
      s.pow.coreUp = true →
      s.pow.vbat = true →
      s.get SYS_READY_STAGE = 0 →
      s.coreTested = true →
      s.on PWR_STAT_VBATLO = false →
      s.pow.bringUp ≠ some 4 →
      s.cmp.ks.lc ≠ 0 →
      s.cmp.ks.lc ≠ 5 →
      s.cmp.ks.pending = none →
      t = { State.islands (((((s.set SYS_READY_STAGE 1).eraseFinish).showLc).set SYS_CLKSTAT_XTAL_OK (b2n (!(((s.set SYS_READY_STAGE 1).eraseFinish).showLc).gtb.rc))).set PWR_DOMSTAT_UP 0x301F) with cmp := { (State.islands (((((s.set SYS_READY_STAGE 1).eraseFinish).showLc).set SYS_CLKSTAT_XTAL_OK (b2n (!(((s.set SYS_READY_STAGE 1).eraseFinish).showLc).gtb.rc))).set PWR_DOMSTAT_UP 0x301F)).cmp with bootUs := us % 2 ^ 32 } } →
      exec (.secureBoot bad us) s = .next (if (t.bootWith s.cmp.ks.active bad).2 = true then (t.bootWith s.cmp.ks.active bad).1 else if ((t.bootWith s.cmp.ks.active bad).1.bootWith (otherBank s.cmp.ks.active) bad).2 = true then ((t.bootWith s.cmp.ks.active bad).1.bootWith (otherBank s.cmp.ks.active) bad).1 else ((t.bootWith s.cmp.ks.active bad).1.bootWith (otherBank s.cmp.ks.active) bad).1.recovery)) ∧
  (∀ (bad : List Nat) (us : Nat) (s : State), s.get SYS_READY_STAGE ≠ 0 →
      exec (.secureBoot bad us) s = .next s)

/-- A step runs the command at the front of the queue. Rules: R40, R69, R595. Where a clause rests on a reading or a choice of the model and not on the words of a rule: log entries 1, 22. -/
def Obligations.StepRunsFront : Prop :=
  (∀ (c : Instr) (rest : List Instr) (s : State), s.pending = c :: rest → step s = exec c { s with pending := rest }) ∧
  (∀ s : State, s.pending = [] → step s = .next s.tick)

/-- The state after the first power-up. Rules: R14, R440, R542. Where a clause rests on a reading or a choice of the model and not on the words of a rule: log entries 3, 21, 35, 36, 109, 118. -/
def Obligations.ResetState : Prop :=
  Memory.wf State.reset ∧ (∀ f : Fld, State.reset.get f = f.rst) ∧ State.reset.pending = [] ∧ (∀ a : Nat, State.reset.byte a = 0)

/-- A read through the debug port clears nothing. Rules: R12. -/
def Obligations.DebugReads : Prop :=
  ∀ (r : Req) (a : Nat) (d : RegDef) (i j o : Nat) (s : State), r.debug = true → s.alive = true → a % 4 = 0 →
    0x4000_0000 ≤ a → a < 0x4800_0000 → within a 0x4000_8000 0x1000 = false → pscAbsent s.part a = false →
    (within a 0x4400_0000 0x10_0000 = true → a % 0x1_0000 < 0x2000 ∧ s.canGuard ((a - 0x4400_0000) / 0x1_0000) (a % 0x1_0000) a r none .read = none) →
    s.portReach r a = true → s.checkReq a r .read = none → findReg a allRegs = some (d, i, j, o) →
    ∃ (t : State) (w : Nat), exec (.readClear r a) s = .next (t.emit (.resp r.id false w)) ∧
      (∀ f : Fld, t.get f = (blockBefore (a - o) s).get f) ∧ (o = 0 → w = if within a 0x4310_0000 0x1_6000 && !eportCarries a then 0 else (blockBefore (a - o) s).fieldsRead (d.flds i j) % 2 ^ 32)

/-- The alarm latch when all its entries are in use. Rules: R79. Where a clause rests on a reading or a choice of the model and not on the words of a rule: log entries 102, 115. -/
def Obligations.AlarmLatchFull : Prop :=
  ∀ (e : Ev) (s : State), e.src < 320 → s.alarmOf e.src = none → (∀ k < 256, s.on (EVR_ALMSRC_VALID k) = true) →
    bitOf ((s.alarm e).get (EVR_ALMOVF_SRCBITS (e.src / 32))) (e.src % 32) = true ∧
    (s.repeatAlarm { src := 30, word := 0, at_ := {} } = false → (s.alarm e).get EVR_ALMSTAT_OVFCNT = satU EVR_ALMSTAT_OVFCNT.w (s.get EVR_ALMSTAT_OVFCNT + 1)) ∧
    (s.repeatAlarm { src := 30, word := 0, at_ := {} } = true → s.alarmOf 30 = none →
      bitOf ((s.alarm e).get (EVR_ALMOVF_SRCBITS 0)) 30 = true ∧ (s.alarm e).get EVR_ALMSTAT_OVFCNT = satU EVR_ALMSTAT_OVFCNT.w (s.get EVR_ALMSTAT_OVFCNT + 2)) ∧
    (s.alarm e).evr.entering.any (fun x => x.src == 30) = true

/-- A periodic trigger does not drift. Rules: R54. -/
def Obligations.TriggerPeriods : Prop :=
  ∀ (n : Fin 64) (s : State), s.on (GTB_TRGCTL_EN n) = true → s.on (GTB_TRGCTL_PERIODIC n) = true → s.trgCmp n ≤ s.now256 →
    ∃ t, exec (.triggerFire n) s = .next t ∧
      t.get (GTB_TRGCMP_CMP n) * 256 + t.get (GTB_TRGPERF_CMPFRAC n) =
        (s.get (GTB_TRGCMP_CMP n) * 256 + s.get (GTB_TRGPERF_CMPFRAC n) +
          max 10240 (s.get (GTB_TRGPER_PER n) * 256 + s.get (GTB_TRGPERF_PERFRAC n))) % 2 ^ 72

/-- A request to an unmapped target. Rules: R452. -/
def Obligations.UnmappedTargets : Prop :=
  ∀ (r : Req) (acc : AccKind) (a n v : Nat) (e : EccObs) (s : State), s.alive = true → oneGranule a n = true → s.portReach r a = true → s.mapped a = false → e ≠ .parity →
    ∃ (u : State) (w : Nat), exec (.fabricRequest r acc a n v true e) s = .next ((u.raise 315 w).emit (.resp r.id true 0)) ∧ u.mem = s.mem ∧
      u.get RGN_VCNT_CNT = satU RGN_VCNT_CNT.w (s.get RGN_VCNT_CNT + 1) ∧
      (s.on RGN_VINFO_VALID = false → u.get RGN_VINFO_VALID = 1 ∧ u.get RGN_VINFO_CHK = 0x1F ∧ u.get RGN_VINFO_INIT = r.id % 64 ∧
        u.get RGN_VINFO_WORLD = b2n (s.worldOf r) ∧ u.get RGN_VINFO_ACC = accCode acc ∧ u.get RGN_VINFO_GEN = r.gen % 2 ^ RGN_VINFO_GEN.w ∧
        u.get RGN_VADDR_ADDR = a) ∧
      (s.on RGN_VINFO_VALID = true → u.get RGN_VINFO_MORE = satU RGN_VINFO_MORE.w (s.get RGN_VINFO_MORE + 1) ∧
        u.get RGN_VINFO_CHK = s.get RGN_VINFO_CHK ∧ u.get RGN_VADDR_ADDR = s.get RGN_VADDR_ADDR)

/-- What every command of the table checks first. Rules: R503, R504, R508, R509, R510, R512. Where a clause rests on a reading or a choice of the model and not on the words of a rule: log entry 81. -/
def Obligations.MailboxChecks : Prop :=
  ∀ (i : Instr) (r : MbxRow) (s t : State), mbxRow s.part i = some r → stWaits s i = false → s.takeUp r.m r.op = some t →
    (t.lcOk r.mask = false → exec i s = .next (CmdRes.fail t errLCSTATE).answer) ∧
    (t.lcOk r.mask = true → t.callerOk r.m r.inner r.recov = false → exec i s = .next (CmdRes.fail t errCALLER).answer)

/-- Which commands leave the memories alone. Rules: R135, R437, R440, R451, R474. Where a clause rests on a reading or a choice of the model and not on the words of a rule: log entry 3. -/
def Obligations.MemoryFrame : Prop :=
  ∀ (i : Instr) (s t : State) (a : Nat), writesMemory i = false → exec i s = .next t → a < 0x6000_0000 → t.byte a = s.byte a

/-- What each command leaves unchanged. Rules: R2, R3, R28, R451, R595. -/
def Obligations.Untouched : Prop :=
  (∀ (i : Instr) (s t : State), exec i s = .next t → t.pending = s.pending ∧ t.part = s.part ∧ (∀ p : Piece, p ∉ touched i → p.same t s)) ∧
  (∀ (i : Instr) (s : State), carried s.part i = false → exec i s = .next s)

/-- Every step keeps the memory in canonical form. Rules: R437, R440, R585. Where a clause rests on a reading or a choice of the model and not on the words of a rule: log entry 3. -/
def Obligations.MemoryForm : Prop :=
  ∀ s t : State, Memory.wf s → step s = .next t → Memory.wf t
end

