-- ==== Sys2Proof/Laws/Regs.lean ====
section
/-! SUPPORT. Laws of sparse tables and of the register file: a read after a write gives the value cut to the field's width, and a write leaves every other field. -/

namespace Sys2Proof

theorem cellsGet_del_self {α : Type} (d : α) (k : Nat) (l : List (Nat × α)) : cellsGet d k (cellsDel k l) = d := by
  induction l with
  | nil => rfl
  | cons p r ih =>
    obtain ⟨j, v⟩ := p
    by_cases h : j = k <;> simp [cellsDel, cellsGet, h, ih]

theorem cellsGet_del_ne {α : Type} (d : α) (k i : Nat) (h : i ≠ k) (l : List (Nat × α)) : cellsGet d i (cellsDel k l) = cellsGet d i l := by
  induction l with
  | nil => rfl
  | cons p r ih =>
    obtain ⟨j, v⟩ := p
    by_cases h1 : j = k
    · subst h1
      simp [cellsDel, cellsGet, ih, Ne.symm h]
    · by_cases h2 : j = i
      · subst h2
        simp [cellsDel, cellsGet, h1]
      · simp [cellsDel, cellsGet, h1, h2, ih]

theorem cellsGet_ins_self {α : Type} (d : α) (k : Nat) (v : α) (l : List (Nat × α)) : cellsGet d k (cellsIns k v (cellsDel k l)) = v := by
  induction l with
  | nil => simp [cellsDel, cellsIns, cellsGet]
  | cons p r ih =>
    obtain ⟨j, w⟩ := p
    by_cases h1 : j = k
    · simp [cellsDel, h1, ih]
    · by_cases h2 : k < j
      · simp [cellsDel, cellsIns, cellsGet, h1, h2]
      · simp [cellsDel, cellsIns, cellsGet, h1, h2, ih]

theorem cellsGet_ins_ne {α : Type} (d : α) (k i : Nat) (h : i ≠ k) (v : α) (l : List (Nat × α)) : cellsGet d i (cellsIns k v l) = cellsGet d i l := by
  induction l with
  | nil => simp [cellsIns, cellsGet, Ne.symm h]
  | cons p r ih =>
    obtain ⟨j, w⟩ := p
    by_cases h2 : k < j
    · simp [cellsIns, cellsGet, h2, Ne.symm h]
    · by_cases h3 : j = i
      · subst h3
        simp [cellsIns, cellsGet, h2]
      · simp [cellsIns, cellsGet, h2, h3, ih]

/-- A table reads what was put. -/
@[simp] theorem Tab.get_put_self {α : Type} [Inhabited α] (t : Tab α) (k : Nat) (v : α) : (t.put k v).get k = v := cellsGet_ins_self _ _ _ _

/-- A put leaves every other instance. -/
theorem Tab.get_put_ne {α : Type} [Inhabited α] (t : Tab α) (k i : Nat) (h : i ≠ k) (v : α) : (t.put k v).get i = t.get i := by
  simp only [Tab.get, Tab.put]
  rw [cellsGet_ins_ne _ _ _ h, cellsGet_del_ne _ _ _ h]

@[simp] theorem Tab.get_upd_self {α : Type} [Inhabited α] (t : Tab α) (k : Nat) (f : α → α) : (t.upd k f).get k = f (t.get k) := by simp [Tab.upd]

theorem Tab.get_upd_ne {α : Type} [Inhabited α] (t : Tab α) (k i : Nat) (h : i ≠ k) (f : α → α) : (t.upd k f).get i = t.get i := by
  simp [Tab.upd, Tab.get_put_ne _ _ _ h]

namespace Machine

/-- A field reads what was written, cut to its width. -/
@[simp] theorem State.get_set_self (s : State) (f : Fld) (v : Nat) : (s.set f v).get f = v % 2 ^ f.w := by
  simp only [State.get, State.set, regPut]
  split
  · rename_i h
    simp only [Tab.del]
    rw [cellsGet_del_self, h]
  · simp only [Tab.put]
    exact cellsGet_ins_self _ _ _ _

/-- A write leaves every field under another key. -/
theorem State.get_set_ne (s : State) (f g : Fld) (v : Nat) (h : fldKey g ≠ fldKey f) : (s.set f v).get g = s.get g := by
  simp only [State.get, State.set, regPut]
  split
  · simp only [Tab.del]
    exact cellsGet_del_ne _ _ _ h _
  · simp only [Tab.put]
    rw [cellsGet_ins_ne _ _ _ h, cellsGet_del_ne _ _ _ h]

/-- A field after reset. -/
theorem State.reset_get (f : Fld) : State.reset.get f = f.rst := rfl

end Machine

end Sys2Proof
end

