-- ==== Sys2Proof/Laws/Mem.lean ====
section
/-! SUPPORT. Laws of memory: every operation keeps its canonical form, a byte reads what was written, and a write leaves every other byte. -/

namespace Sys2Proof.Machine

open Sys2Proof

/-- Every address of a memory lies above `k`. -/
def memAbove (k : Nat) (m : List Host.Cell) : Prop := ∀ c ∈ m, k < c.1

/-- The canonical form, cell by cell. -/
theorem memWf_cons (a : Nat) (b : BitVec 8) (r : List Host.Cell) : memWf ((a, b) :: r) = true ↔ b ≠ emptyByte ∧ memAbove a r ∧ memWf r = true := by
  induction r generalizing a b with
  | nil => simp [memWf, memAbove]
  | cons p r ih =>
    obtain ⟨c, d⟩ := p
    constructor
    · intro h
      simp only [memWf, Bool.and_eq_true, decide_eq_true_eq, bne_iff_ne, ne_eq] at h
      obtain ⟨⟨hac, hb⟩, ht⟩ := h
      have h2 := (ih c d).1 ht
      refine ⟨hb, ?_, ht⟩
      intro x hx
      rcases List.mem_cons.1 hx with rfl | hx
      · exact hac
      · exact Nat.lt_trans hac (h2.2.1 x hx)
    · rintro ⟨hb, ha, ht⟩
      simp only [memWf, Bool.and_eq_true, decide_eq_true_eq, bne_iff_ne, ne_eq]
      exact ⟨⟨ha (c, d) (by simp), hb⟩, ht⟩

/-- A filter keeps the canonical form. -/
theorem memWf_filter (p : Host.Cell → Bool) (m : List Host.Cell) (h : memWf m = true) : memWf (m.filter p) = true := by
  induction m with
  | nil => rfl
  | cons c r ih =>
    obtain ⟨a, b⟩ := c
    have h1 := (memWf_cons a b r).1 h
    by_cases hp : p (a, b) = true
    · rw [List.filter_cons_of_pos hp, memWf_cons]
      refine ⟨h1.1, ?_, ih h1.2.2⟩
      intro x hx
      exact h1.2.1 x (List.mem_filter.1 hx).1
    · rw [List.filter_cons_of_neg hp]
      exact ih h1.2.2

theorem cellsDel_eq_filter (k : Nat) (m : List Host.Cell) : cellsDel k m = m.filter (fun c => !decide (c.1 = k)) := by
  induction m with
  | nil => rfl
  | cons c r ih =>
    obtain ⟨a, b⟩ := c
    by_cases h : a = k <;> simp [cellsDel, h, ih]

theorem memAbove_ins (k a : Nat) (b : BitVec 8) (m : List Host.Cell) (hk : k < a) (h : memAbove k m) : memAbove k (cellsIns a b m) := by
  induction m with
  | nil =>
    intro x hx
    simp only [cellsIns, List.mem_singleton] at hx
    subst hx
    exact hk
  | cons c r ih =>
    obtain ⟨j, w⟩ := c
    intro x hx
    simp only [cellsIns] at hx
    split at hx
    · rcases List.mem_cons.1 hx with rfl | hx
      · exact hk
      · exact h x hx
    · rcases List.mem_cons.1 hx with rfl | hx
      · exact h _ (by simp)
      · exact ih (fun y hy => h y (by simp [hy])) x hx

theorem memWf_ins (a : Nat) (b : BitVec 8) (m : List Host.Cell) (hb : b ≠ emptyByte) (hn : ∀ c ∈ m, c.1 ≠ a) (h : memWf m = true) :
    memWf (cellsIns a b m) = true := by
  induction m with
  | nil => simp [cellsIns, memWf, hb]
  | cons c r ih =>
    obtain ⟨j, w⟩ := c
    have h1 := (memWf_cons j w r).1 h
    have hj : j ≠ a := hn (j, w) (by simp)
    simp only [cellsIns]
    split
    · rename_i hlt
      rw [memWf_cons]
      refine ⟨hb, ?_, h⟩
      intro x hx
      rcases List.mem_cons.1 hx with rfl | hx
      · exact hlt
      · exact Nat.lt_trans hlt (h1.2.1 x hx)
    · rename_i hge
      rw [memWf_cons]
      exact ⟨h1.1, memAbove_ins j a b r (by omega) h1.2.1, ih (fun c hc => hn c (by simp [hc])) h1.2.2⟩

/-- A byte put keeps the canonical form. -/
theorem memWf_put (a : Nat) (b : BitVec 8) (m : List Host.Cell) (h : memWf m = true) : memWf (memPut a b m) = true := by
  unfold memPut
  rw [cellsDel_eq_filter]
  split
  · exact memWf_filter _ _ h
  · rename_i hb
    apply memWf_ins _ _ _ hb
    · intro c hc
      have := (List.mem_filter.1 hc).2
      simpa using this
    · exact memWf_filter _ _ h

theorem State.setByte_wf (s : State) (a b : Nat) (h : Memory.wf s) : Memory.wf (s.setByte a b) := memWf_put _ _ _ h

theorem State.setBytes_wf (s : State) (a : Nat) (bs : List Nat) (h : Memory.wf s) : Memory.wf (s.setBytes a bs) := by
  induction bs generalizing s a with
  | nil => exact h
  | cons b bs ih => exact ih _ _ (State.setByte_wf s a b h)

theorem State.store_wf (s : State) (a n v : Nat) (h : Memory.wf s) : Memory.wf (s.store a n v) := State.setBytes_wf _ _ _ h

theorem State.zero_wf (s : State) (a n : Nat) (h : Memory.wf s) : Memory.wf (s.zero a n) := memWf_filter _ _ h

theorem State.forget_wf (s : State) (p : Nat → Bool) (h : Memory.wf s) : Memory.wf (s.forget p) := memWf_filter _ _ h

theorem memWf_foldPut (g : Host.Cell → Nat) (l m : List Host.Cell) (h : memWf m = true) :
    memWf (l.foldl (fun m c => memPut (g c) c.2 m) m) = true := by
  induction l generalizing m with
  | nil => exact h
  | cons c l ih => exact ih _ (memWf_put _ _ _ h)

theorem copyWindow_wf (src dst n : Nat) (m : List Host.Cell) (h : memWf m = true) : memWf (copyWindow src dst n m) = true :=
  memWf_foldPut (fun c => c.1 - src + dst) _ _ (memWf_filter _ _ h)

/-- A byte reads what was written. -/
@[simp] theorem State.byte_setByte_self (s : State) (a b : Nat) : (s.setByte a b).byte a = b % 256 := by
  simp only [State.byte, State.setByte, memPut]
  split
  · rename_i h
    rw [cellsGet_del_self, ← h]
    simp [BitVec.toNat_ofNat]
  · rw [cellsGet_ins_self]
    simp [BitVec.toNat_ofNat]

/-- A byte written leaves every other byte. -/
theorem State.byte_setByte_ne (s : State) (a b x : Nat) (h : x ≠ a) : (s.setByte a b).byte x = s.byte x := by
  simp only [State.byte, State.setByte, memPut]
  split
  · rw [cellsGet_del_ne _ _ _ h]
  · rw [cellsGet_ins_ne _ _ _ h, cellsGet_del_ne _ _ _ h]

/-- Bytes written leave every byte outside them. -/
theorem State.byte_setBytes_out (s : State) (a : Nat) (bs : List Nat) (x : Nat) (h : x < a ∨ a + bs.length ≤ x) : (s.setBytes a bs).byte x = s.byte x := by
  induction bs generalizing s a with
  | nil => rfl
  | cons b bs ih =>
    simp only [State.setBytes]
    simp only [List.length_cons] at h
    rw [ih _ _ (by omega), State.byte_setByte_ne _ _ _ _ (by omega)]

theorem toBytes_length (n v : Nat) : (toBytes n v).length = n := by
  induction n generalizing v with
  | zero => rfl
  | succ n ih => simp [toBytes, ih]

/-- A store leaves every byte outside the stored ones. -/
theorem State.byte_store_out (s : State) (a n v x : Nat) (h : x < a ∨ a + n ≤ x) : (s.store a n v).byte x = s.byte x :=
  State.byte_setBytes_out _ _ _ _ (by rw [toBytes_length]; exact h)

end Sys2Proof.Machine
end

