-- ==== Sys2Proof/Laws/Compass.lean ====
section
/-! SUPPORT. Laws of the mailbox commands: what a command does that Compass takes up and that its row admits, or does not admit. -/

namespace Sys2Proof.Machine

open Sys2Proof

/-- A command that runs answers with what its body yields. -/
theorem State.command_runs {s t : State} {m op mask : Nat} {inner recov : Bool} (body : State → CmdRes) (h : compassRuns s m op mask inner recov t) :
    s.command m op mask inner recov body = .next (body t).answer := by
  obtain ⟨h1, h2, h3⟩ := h
  simp only [State.command, h1, h2, h3, Bool.not_true, Bool.false_eq_true, if_false]
  rfl

/-- The same for a command that programs eNVM or commits the key store. -/
theorem State.commandNv_runs {s t : State} {m op mask : Nat} {inner recov : Bool} (body : State → CmdRes) (h : compassRunsNv s m op mask inner recov t) :
    s.commandNv m op mask inner recov body = .next (body t).answer := by
  have w := State.command_runs body h.1
  simp only [State.commandNv, h.1.1, h.2, Bool.false_and, Bool.false_eq_true, if_false, w]

/-- In a life-cycle state that the row does not have, a command fails with LCSTATE. -/
theorem State.command_lcstate {s t : State} {m op mask : Nat} {inner recov : Bool} (body : State → CmdRes) (h1 : s.takeUp m op = some t) (h2 : t.lcOk mask = false) :
    s.command m op mask inner recov body = .next (CmdRes.fail t errLCSTATE).answer := by
  simp only [State.command, h1, h2, Bool.not_false, if_true]
  rfl

theorem State.commandNv_lcstate {s t : State} {m op mask : Nat} {inner recov : Bool} (body : State → CmdRes) (h1 : s.takeUp m op = some t) (h2 : t.lcOk mask = false) :
    s.commandNv m op mask inner recov body = .next (CmdRes.fail t errLCSTATE).answer := by
  have w := State.command_lcstate (inner := inner) (recov := recov) body h1 h2
  simp only [State.commandNv, h1, h2, Bool.and_false, Bool.false_and, Bool.false_eq_true, if_false, w]

/-- From a caller that the row does not admit, a command fails with CALLER. -/
theorem State.command_caller {s t : State} {m op mask : Nat} {inner recov : Bool} (body : State → CmdRes) (h1 : s.takeUp m op = some t) (h2 : t.lcOk mask = true)
    (h3 : t.callerOk m inner recov = false) : s.command m op mask inner recov body = .next (CmdRes.fail t errCALLER).answer := by
  simp only [State.command, h1, h2, h3, Bool.not_true, Bool.not_false, Bool.false_eq_true, if_false, if_true]
  rfl

theorem State.commandNv_caller {s t : State} {m op mask : Nat} {inner recov : Bool} (body : State → CmdRes) (h1 : s.takeUp m op = some t) (h2 : t.lcOk mask = true)
    (h3 : t.callerOk m inner recov = false) : s.commandNv m op mask inner recov body = .next (CmdRes.fail t errCALLER).answer := by
  have w := State.command_caller body h1 h2 h3
  simp only [State.commandNv, h1, h3, Bool.and_false, Bool.false_and, Bool.false_eq_true, if_false, w]

/-- A command that Compass does not take up leaves the state. -/
theorem State.command_waits {s : State} {m op mask : Nat} {inner recov : Bool} (body : State → CmdRes) (h : s.takeUp m op = none) :
    s.command m op mask inner recov body = .next s := by
  simp only [State.command, h]

/-- A token that its buffer holds whole is accepted, or fails with AUTH. -/
theorem State.withToken_read {s : State} {m op kind : Nat} (k : State → CmdRes) (h1 : s.bufErr m 0x141 true false = 0) (h2 : s.cmp.fails < 8) :
    s.withToken m op kind k = if s.tokenBad m kind = true then CmdRes.fail (s.tokenFailed m op) errAUTH else k (s.tokenSpent m) := by
  have a : ¬ 8 ≤ s.cmp.fails := Nat.not_le.mpr h2
  by_cases b : s.tokenBad m kind = true
  · simp only [State.withToken, CmdRes.orRun, h1, a, b]
    rfl
  · simp only [Bool.not_eq_true] at b
    simp only [State.withToken, CmdRes.orRun, h1, a, b]
    rfl

theorem digest_length (l : List Nat) : (digest l).length = 48 := by simp [digest, toBytesBE, toBytes_length]

end Sys2Proof.Machine
end

