-- ==== Sys2Proof/Laws/Exec.lean ====
section
/-! SUPPORT. Each command runs its own meaning: one equation per arm of `exec`, true by computation, so that no proof unfolds the dispatch. -/

namespace Sys2Proof.Machine

open Sys2Proof

theorem exec_registerWrite (r : Req) (addr size value : Nat) (s : State) : exec (.registerWrite r addr size value) s = Sys2Proof.Machine.execRegisterWrite r addr size value s := rfl
theorem exec_readClear (r : Req) (addr : Nat) (s : State) : exec (.readClear r addr) s = Sys2Proof.Machine.execReadClear r addr s := rfl
theorem exec_pairLowWordRead (r : Req) (addr : Nat) (s : State) : exec (.pairLowWordRead r addr) s = Sys2Proof.Machine.execPairLowWordRead r addr s := rfl
theorem exec_fabricRequest (r : Req) (acc : AccKind) (addr size value : Nat) (parityOk : Bool) (ecc : EccObs) (s : State) : exec (.fabricRequest r acc addr size value parityOk ecc) s = Sys2Proof.Machine.execFabricRequest r acc addr size value parityOk ecc s := rfl
theorem exec_commandLinkHeartbeat (f : Fin 2) (valid other : Bool) (s : State) : exec (.commandLinkHeartbeat f valid other) s = Sys2Proof.Machine.execCommandLinkHeartbeat f valid other s := rfl
theorem exec_powerDieHoldEnter (f : Fin 2) (s : State) : exec (.powerDieHoldEnter f) s = Sys2Proof.Machine.execPowerDieHoldEnter f s := rfl
theorem exec_powerDieHoldLeave (f : Fin 2) (s : State) : exec (.powerDieHoldLeave f) s = Sys2Proof.Machine.execPowerDieHoldLeave f s := rfl
theorem exec_supplyLinkHeartbeat (s : State) : exec .supplyLinkHeartbeat s = Sys2Proof.Machine.execSupplyLinkHeartbeat s := rfl
theorem exec_interfaceHeartbeatLoss (s : State) : exec .interfaceHeartbeatLoss s = Sys2Proof.Machine.execInterfaceHeartbeatLoss s := rfl
theorem exec_controlLaneIdleHandshake (s : State) : exec .controlLaneIdleHandshake s = Sys2Proof.Machine.execControlLaneIdleHandshake s := rfl
theorem exec_controlLaneLoss (s : State) : exec .controlLaneLoss s = Sys2Proof.Machine.execControlLaneLoss s := rfl
theorem exec_coreSupplyLapse (s : State) : exec .coreSupplyLapse s = Sys2Proof.Machine.execCoreSupplyLapse s := rfl
theorem exec_vcoreMeasure (millivolt : Nat) (s : State) : exec (.vcoreMeasure millivolt) s = Sys2Proof.Machine.execVcoreMeasure millivolt s := rfl
theorem exec_xtalFallback (s : State) : exec .xtalFallback s = Sys2Proof.Machine.execXtalFallback s := rfl
theorem exec_msSupplyLoss (s : State) : exec .msSupplyLoss s = Sys2Proof.Machine.execMsSupplyLoss s := rfl
theorem exec_msSupplyReturn (failed : List (Fin 177)) (cals : List (Nat × Nat × Nat)) (s : State) : exec (.msSupplyReturn failed cals) s = Sys2Proof.Machine.execMsSupplyReturn failed cals s := rfl
theorem exec_mirrorFrameSend (s : State) : exec .mirrorFrameSend s = Sys2Proof.Machine.execMirrorFrameSend s := rfl
theorem exec_mirrorFrameReceive (cause : Fin 4) (items : List MirrorItem) (s : State) : exec (.mirrorFrameReceive cause items) s = Sys2Proof.Machine.execMirrorFrameReceive cause items s := rfl
theorem exec_mirrorTimeout (s : State) : exec .mirrorTimeout s = Sys2Proof.Machine.execMirrorTimeout s := rfl
theorem exec_takeover (s : State) : exec .takeover s = Sys2Proof.Machine.execTakeover s := rfl
theorem exec_takeoverPwmEnable (j : Fin 24) (s : State) : exec (.takeoverPwmEnable j) s = Sys2Proof.Machine.execTakeoverPwmEnable j s := rfl
theorem exec_twinHandoff (s : State) : exec .twinHandoff s = Sys2Proof.Machine.execTwinHandoff s := rfl
theorem exec_slewStart (s : State) : exec .slewStart s = Sys2Proof.Machine.execSlewStart s := rfl
theorem exec_slewComplete (s : State) : exec .slewComplete s = Sys2Proof.Machine.execSlewComplete s := rfl
theorem exec_gtbStep (s : State) : exec .gtbStep s = Sys2Proof.Machine.execGtbStep s := rfl
theorem exec_snapshotTake (s : State) : exec .snapshotTake s = Sys2Proof.Machine.execSnapshotTake s := rfl
theorem exec_syncReceive (d : Fin 4) (p : Fin 18) (m : SyncMsg) (s : State) : exec (.syncReceive d p m) s = Sys2Proof.Machine.execSyncReceive d p m s := rfl
theorem exec_syncRelay (d : Fin 4) (s : State) : exec (.syncRelay d) s = Sys2Proof.Machine.execSyncRelay d s := rfl
theorem exec_syncTransmit (d : Fin 4) (s : State) : exec (.syncTransmit d) s = Sys2Proof.Machine.execSyncTransmit d s := rfl
theorem exec_pdelayReqTransmit (p : Fin 18) (s : State) : exec (.pdelayReqTransmit p) s = Sys2Proof.Machine.execPdelayReqTransmit p s := rfl
theorem exec_pdelayReceive (p : Fin 18) (m : PdelayMsg) (s : State) : exec (.pdelayReceive p m) s = Sys2Proof.Machine.execPdelayReceive p m s := rfl
theorem exec_syncTimeout (d : Fin 4) (s : State) : exec (.syncTimeout d) s = Sys2Proof.Machine.execSyncTimeout d s := rfl
theorem exec_gtbDomainWrite (d : Fin 4) (disable : Bool) (s : State) : exec (.gtbDomainWrite d disable) s = Sys2Proof.Machine.execGtbDomainWrite d disable s := rfl
theorem exec_triggerFire (n : Fin 64) (s : State) : exec (.triggerFire n) s = Sys2Proof.Machine.execTriggerFire n s := rfl
theorem exec_triggerCompareWrite (n : Fin 64) (value : Nat) (s : State) : exec (.triggerCompareWrite n value) s = Sys2Proof.Machine.execTriggerCompareWrite n value s := rfl
theorem exec_triggerCtlWrite (n : Fin 64) (value : Nat) (s : State) : exec (.triggerCtlWrite n value) s = Sys2Proof.Machine.execTriggerCtlWrite n value s := rfl
theorem exec_captureEdge (u : Fin 32) (rising : Bool) (stamp : Stamp) (held : Nat) (s : State) : exec (.captureEdge u rising stamp held) s = Sys2Proof.Machine.execCaptureEdge u rising stamp held s := rfl
theorem exec_capturePop (u : Fin 32) (s : State) : exec (.capturePop u) s = Sys2Proof.Machine.execCapturePop u s := rfl
theorem exec_eventEnterEvr (s : State) : exec .eventEnterEvr s = Sys2Proof.Machine.execEventEnterEvr s := rfl
theorem exec_eventRelease (b : BakObs) (s : State) : exec (.eventRelease b) s = Sys2Proof.Machine.execEventRelease b s := rfl
theorem exec_lateEventRelease (b : BakObs) (s : State) : exec (.lateEventRelease b) s = Sys2Proof.Machine.execLateEventRelease b s := rfl
theorem exec_logRecordWrite (parity : Bool) (s : State) : exec (.logRecordWrite parity) s = Sys2Proof.Machine.execLogRecordWrite parity s := rfl
theorem exec_traceRecordHandoff (s : State) : exec .traceRecordHandoff s = Sys2Proof.Machine.execTraceRecordHandoff s := rfl
theorem exec_alarmAck (src count : Nat) (s : State) : exec (.alarmAck src count) s = Sys2Proof.Machine.execAlarmAck src count s := rfl
theorem exec_refMonitorCompare (dev : Int) (s : State) : exec (.refMonitorCompare dev) s = Sys2Proof.Machine.execRefMonitorCompare dev s := rfl
theorem exec_refMismatchClear (s : State) : exec .refMismatchClear s = Sys2Proof.Machine.execRefMismatchClear s := rfl
theorem exec_adcSequenceStart (n : Fin 8) (s : State) : exec (.adcSequenceStart n) s = Sys2Proof.Machine.execAdcSequenceStart n s := rfl
theorem exec_adcStart (n : Fin 8) (s : State) : exec (.adcStart n) s = Sys2Proof.Machine.execAdcStart n s := rfl
theorem exec_adcFreerunWrite (n : Fin 8) (en freerun : Bool) (s : State) : exec (.adcFreerunWrite n en freerun) s = Sys2Proof.Machine.execAdcFreerunWrite n en freerun s := rfl
theorem exec_adcSlotComplete (n : Fin 8) (sum : Nat) (err : Int) (s : State) : exec (.adcSlotComplete n sum err) s = Sys2Proof.Machine.execAdcSlotComplete n sum err s := rfl
theorem exec_adcGroupStart (g : Fin 8) (s : State) : exec (.adcGroupStart g) s = Sys2Proof.Machine.execAdcGroupStart g s := rfl
theorem exec_adcGroupStartWrite (g : Fin 8) (s : State) : exec (.adcGroupStartWrite g) s = Sys2Proof.Machine.execAdcGroupStartWrite g s := rfl
theorem exec_adcWordDeliver (g : Fin 8) (parity : Bool × Bool) (s : State) : exec (.adcWordDeliver g parity) s = Sys2Proof.Machine.execAdcWordDeliver g parity s := rfl
theorem exec_adcSetComplete (g : Fin 8) (s : State) : exec (.adcSetComplete g) s = Sys2Proof.Machine.execAdcSetComplete g s := rfl
theorem exec_adcRingWrite (g : Fin 8) (parity : List Nat) (s : State) : exec (.adcRingWrite g parity) s = Sys2Proof.Machine.execAdcRingWrite g parity s := rfl
theorem exec_sdfResult (m : Fin 4) (levels : List (Bool × Bool)) (parity : Bool × Bool) (s : State) : exec (.sdfResult m levels parity) s = Sys2Proof.Machine.execSdfResult m levels parity s := rfl
theorem exec_sdfWindowRestart (m : Fin 4) (s : State) : exec (.sdfWindowRestart m) s = Sys2Proof.Machine.execSdfWindowRestart m s := rfl
theorem exec_sdfFastTrip (m : Fin 4) (levels : List (Bool × Bool)) (parity : Bool × Bool) (s : State) : exec (.sdfFastTrip m levels parity) s = Sys2Proof.Machine.execSdfFastTrip m levels parity s := rfl
theorem exec_sdfClockLoss (m : Fin 4) (s : State) : exec (.sdfClockLoss m) s = Sys2Proof.Machine.execSdfClockLoss m s := rfl
theorem exec_comparatorTrip (k : Fin 24) (v : Nat) (s : State) : exec (.comparatorTrip k v) s = Sys2Proof.Machine.execComparatorTrip k v s := rfl
theorem exec_comparatorRelease (k : Fin 24) (v : Nat) (s : State) : exec (.comparatorRelease k v) s = Sys2Proof.Machine.execComparatorRelease k v s := rfl
theorem exec_blankingEnd (k : Fin 24) (s : State) : exec (.blankingEnd k) s = Sys2Proof.Machine.execBlankingEnd k s := rfl
theorem exec_pwmPeriodStart (j : Fin 24) (settled : Bool) (s : State) : exec (.pwmPeriodStart j settled) s = Sys2Proof.Machine.execPwmPeriodStart j settled s := rfl
theorem exec_pwmMidPeriod (j : Fin 24) (settled : Bool) (s : State) : exec (.pwmMidPeriod j settled) s = Sys2Proof.Machine.execPwmMidPeriod j settled s := rfl
theorem exec_pwmEdge (j : Fin 24) (outB rise dead : Bool) (s : State) : exec (.pwmEdge j outB rise dead) s = Sys2Proof.Machine.execPwmEdge j outB rise dead s := rfl
theorem exec_pwmSync (j : Fin 24) (c : Nat) (settled : Bool) (s : State) : exec (.pwmSync j c settled) s = Sys2Proof.Machine.execPwmSync j c settled s := rfl
theorem exec_pwmCommit (j : Fin 24) (s : State) : exec (.pwmCommit j) s = Sys2Proof.Machine.execPwmCommit j s := rfl
theorem exec_pwmSetLoad (j : Fin 24) (c : Nat) (s : State) : exec (.pwmSetLoad j c) s = Sys2Proof.Machine.execPwmSetLoad j c s := rfl
theorem exec_pwmSwtrip (j : Fin 24) (s : State) : exec (.pwmSwtrip j) s = Sys2Proof.Machine.execPwmSwtrip j s := rfl
theorem exec_pwmGtrip (s : State) : exec .pwmGtrip s = Sys2Proof.Machine.execPwmGtrip s := rfl
theorem exec_pwmTripclr (j : Fin 24) (s : State) : exec (.pwmTripclr j) s = Sys2Proof.Machine.execPwmTripclr j s := rfl
theorem exec_pwmEnableWrite (j : Fin 24) (en settled : Bool) (s : State) : exec (.pwmEnableWrite j en settled) s = Sys2Proof.Machine.execPwmEnableWrite j en settled s := rfl
theorem exec_pwmForceWrite (j : Fin 24) (forceA forceB : Fin 4) (s : State) : exec (.pwmForceWrite j forceA forceB) s = Sys2Proof.Machine.execPwmForceWrite j forceA forceB s := rfl
theorem exec_tgDmemWrite (e : Fin 12) (off size v : Nat) (s : State) : exec (.tgDmemWrite e off size v) s = Sys2Proof.Machine.execTgDmemWrite e off size v s := rfl
theorem exec_tgOccurrence (e : Fin 12) (sl : Fin 8) (s : State) : exec (.tgOccurrence e sl) s = Sys2Proof.Machine.execTgOccurrence e sl s := rfl
theorem exec_tgSwdisp (e : Fin 12) (sl : Fin 8) (s : State) : exec (.tgSwdisp e sl) s = Sys2Proof.Machine.execTgSwdisp e sl s := rfl
theorem exec_tgDispatch (e : Fin 12) (s : State) : exec (.tgDispatch e) s = Sys2Proof.Machine.execTgDispatch e s := rfl
theorem exec_tgAdd (x : TgAt) (rd rs1 rs2 : Fin 32) (s : State) : exec (.tgAdd x rd rs1 rs2) s = Sys2Proof.Machine.execTgAdd x rd rs1 rs2 s := rfl
theorem exec_tgSub (x : TgAt) (rd rs1 rs2 : Fin 32) (s : State) : exec (.tgSub x rd rs1 rs2) s = Sys2Proof.Machine.execTgSub x rd rs1 rs2 s := rfl
theorem exec_tgAnd (x : TgAt) (rd rs1 rs2 : Fin 32) (s : State) : exec (.tgAnd x rd rs1 rs2) s = Sys2Proof.Machine.execTgAnd x rd rs1 rs2 s := rfl
theorem exec_tgOr (x : TgAt) (rd rs1 rs2 : Fin 32) (s : State) : exec (.tgOr x rd rs1 rs2) s = Sys2Proof.Machine.execTgOr x rd rs1 rs2 s := rfl
theorem exec_tgXor (x : TgAt) (rd rs1 rs2 : Fin 32) (s : State) : exec (.tgXor x rd rs1 rs2) s = Sys2Proof.Machine.execTgXor x rd rs1 rs2 s := rfl
theorem exec_tgShl (x : TgAt) (rd rs1 rs2 : Fin 32) (s : State) : exec (.tgShl x rd rs1 rs2) s = Sys2Proof.Machine.execTgShl x rd rs1 rs2 s := rfl
theorem exec_tgShr (x : TgAt) (rd rs1 rs2 : Fin 32) (s : State) : exec (.tgShr x rd rs1 rs2) s = Sys2Proof.Machine.execTgShr x rd rs1 rs2 s := rfl
theorem exec_tgSra (x : TgAt) (rd rs1 rs2 : Fin 32) (s : State) : exec (.tgSra x rd rs1 rs2) s = Sys2Proof.Machine.execTgSra x rd rs1 rs2 s := rfl
theorem exec_tgShli (x : TgAt) (rd rs1 n : Fin 32) (s : State) : exec (.tgShli x rd rs1 n) s = Sys2Proof.Machine.execTgShli x rd rs1 n s := rfl
theorem exec_tgShri (x : TgAt) (rd rs1 n : Fin 32) (s : State) : exec (.tgShri x rd rs1 n) s = Sys2Proof.Machine.execTgShri x rd rs1 n s := rfl
theorem exec_tgSrai (x : TgAt) (rd rs1 n : Fin 32) (s : State) : exec (.tgSrai x rd rs1 n) s = Sys2Proof.Machine.execTgSrai x rd rs1 n s := rfl
theorem exec_tgMin (x : TgAt) (rd rs1 rs2 : Fin 32) (s : State) : exec (.tgMin x rd rs1 rs2) s = Sys2Proof.Machine.execTgMin x rd rs1 rs2 s := rfl
theorem exec_tgMax (x : TgAt) (rd rs1 rs2 : Fin 32) (s : State) : exec (.tgMax x rd rs1 rs2) s = Sys2Proof.Machine.execTgMax x rd rs1 rs2 s := rfl
theorem exec_tgMinu (x : TgAt) (rd rs1 rs2 : Fin 32) (s : State) : exec (.tgMinu x rd rs1 rs2) s = Sys2Proof.Machine.execTgMinu x rd rs1 rs2 s := rfl
theorem exec_tgMaxu (x : TgAt) (rd rs1 rs2 : Fin 32) (s : State) : exec (.tgMaxu x rd rs1 rs2) s = Sys2Proof.Machine.execTgMaxu x rd rs1 rs2 s := rfl
theorem exec_tgClamp (x : TgAt) (rd rs1 rs2 rs3 : Fin 32) (s : State) : exec (.tgClamp x rd rs1 rs2 rs3) s = Sys2Proof.Machine.execTgClamp x rd rs1 rs2 rs3 s := rfl
theorem exec_tgAbs (x : TgAt) (rd rs1 : Fin 32) (s : State) : exec (.tgAbs x rd rs1) s = Sys2Proof.Machine.execTgAbs x rd rs1 s := rfl
theorem exec_tgSlt (x : TgAt) (rd rs1 rs2 : Fin 32) (s : State) : exec (.tgSlt x rd rs1 rs2) s = Sys2Proof.Machine.execTgSlt x rd rs1 rs2 s := rfl
theorem exec_tgSltu (x : TgAt) (rd rs1 rs2 : Fin 32) (s : State) : exec (.tgSltu x rd rs1 rs2) s = Sys2Proof.Machine.execTgSltu x rd rs1 rs2 s := rfl
theorem exec_tgClz (x : TgAt) (rd rs1 : Fin 32) (s : State) : exec (.tgClz x rd rs1) s = Sys2Proof.Machine.execTgClz x rd rs1 s := rfl
theorem exec_tgMul (x : TgAt) (rd rs1 rs2 : Fin 32) (s : State) : exec (.tgMul x rd rs1 rs2) s = Sys2Proof.Machine.execTgMul x rd rs1 rs2 s := rfl
theorem exec_tgMulh (x : TgAt) (rd rs1 rs2 : Fin 32) (s : State) : exec (.tgMulh x rd rs1 rs2) s = Sys2Proof.Machine.execTgMulh x rd rs1 rs2 s := rfl
theorem exec_tgMulhu (x : TgAt) (rd rs1 rs2 : Fin 32) (s : State) : exec (.tgMulhu x rd rs1 rs2) s = Sys2Proof.Machine.execTgMulhu x rd rs1 rs2 s := rfl
theorem exec_tgDiv (x : TgAt) (rd rs1 rs2 : Fin 32) (s : State) : exec (.tgDiv x rd rs1 rs2) s = Sys2Proof.Machine.execTgDiv x rd rs1 rs2 s := rfl
theorem exec_tgDivu (x : TgAt) (rd rs1 rs2 : Fin 32) (s : State) : exec (.tgDivu x rd rs1 rs2) s = Sys2Proof.Machine.execTgDivu x rd rs1 rs2 s := rfl
theorem exec_tgRem (x : TgAt) (rd rs1 rs2 : Fin 32) (s : State) : exec (.tgRem x rd rs1 rs2) s = Sys2Proof.Machine.execTgRem x rd rs1 rs2 s := rfl
theorem exec_tgRemu (x : TgAt) (rd rs1 rs2 : Fin 32) (s : State) : exec (.tgRemu x rd rs1 rs2) s = Sys2Proof.Machine.execTgRemu x rd rs1 rs2 s := rfl
theorem exec_tgMacq (x : TgAt) (a rs1 rs2 : Fin 32) (s : State) : exec (.tgMacq x a rs1 rs2) s = Sys2Proof.Machine.execTgMacq x a rs1 rs2 s := rfl
theorem exec_tgMsuq (x : TgAt) (a rs1 rs2 : Fin 32) (s : State) : exec (.tgMsuq x a rs1 rs2) s = Sys2Proof.Machine.execTgMsuq x a rs1 rs2 s := rfl
theorem exec_tgMulq (x : TgAt) (a rs1 rs2 : Fin 32) (s : State) : exec (.tgMulq x a rs1 rs2) s = Sys2Proof.Machine.execTgMulq x a rs1 rs2 s := rfl
theorem exec_tgMaci (x : TgAt) (a rs1 rs2 : Fin 32) (s : State) : exec (.tgMaci x a rs1 rs2) s = Sys2Proof.Machine.execTgMaci x a rs1 rs2 s := rfl
theorem exec_tgAclr (x : TgAt) (a : Fin 32) (s : State) : exec (.tgAclr x a) s = Sys2Proof.Machine.execTgAclr x a s := rfl
theorem exec_tgAcld (x : TgAt) (a rs1 : Fin 32) (s : State) : exec (.tgAcld x a rs1) s = Sys2Proof.Machine.execTgAcld x a rs1 s := rfl
theorem exec_tgAcsr (x : TgAt) (a n : Fin 32) (s : State) : exec (.tgAcsr x a n) s = Sys2Proof.Machine.execTgAcsr x a n s := rfl
theorem exec_tgSatq (x : TgAt) (rd a : Fin 32) (s : State) : exec (.tgSatq x rd a) s = Sys2Proof.Machine.execTgSatq x rd a s := rfl
theorem exec_tgSati (x : TgAt) (rd a : Fin 32) (s : State) : exec (.tgSati x rd a) s = Sys2Proof.Machine.execTgSati x rd a s := rfl
theorem exec_tgPiu (x : TgAt) (rd rs1 rs2 rs3 : Fin 32) (s : State) : exec (.tgPiu x rd rs1 rs2 rs3) s = Sys2Proof.Machine.execTgPiu x rd rs1 rs2 rs3 s := rfl
theorem exec_tgFadd (x : TgAt) (rd rs1 rs2 : Fin 32) (s : State) : exec (.tgFadd x rd rs1 rs2) s = Sys2Proof.Machine.execTgFadd x rd rs1 rs2 s := rfl
theorem exec_tgFsub (x : TgAt) (rd rs1 rs2 : Fin 32) (s : State) : exec (.tgFsub x rd rs1 rs2) s = Sys2Proof.Machine.execTgFsub x rd rs1 rs2 s := rfl
theorem exec_tgFmul (x : TgAt) (rd rs1 rs2 : Fin 32) (s : State) : exec (.tgFmul x rd rs1 rs2) s = Sys2Proof.Machine.execTgFmul x rd rs1 rs2 s := rfl
theorem exec_tgFma (x : TgAt) (rd rs1 rs2 rs3 : Fin 32) (s : State) : exec (.tgFma x rd rs1 rs2 rs3) s = Sys2Proof.Machine.execTgFma x rd rs1 rs2 rs3 s := rfl
theorem exec_tgFdiv (x : TgAt) (rd rs1 rs2 : Fin 32) (s : State) : exec (.tgFdiv x rd rs1 rs2) s = Sys2Proof.Machine.execTgFdiv x rd rs1 rs2 s := rfl
theorem exec_tgFsqrt (x : TgAt) (rd rs1 : Fin 32) (s : State) : exec (.tgFsqrt x rd rs1) s = Sys2Proof.Machine.execTgFsqrt x rd rs1 s := rfl
theorem exec_tgFmin (x : TgAt) (rd rs1 rs2 : Fin 32) (s : State) : exec (.tgFmin x rd rs1 rs2) s = Sys2Proof.Machine.execTgFmin x rd rs1 rs2 s := rfl
theorem exec_tgFmax (x : TgAt) (rd rs1 rs2 : Fin 32) (s : State) : exec (.tgFmax x rd rs1 rs2) s = Sys2Proof.Machine.execTgFmax x rd rs1 rs2 s := rfl
theorem exec_tgFabs (x : TgAt) (rd rs1 : Fin 32) (s : State) : exec (.tgFabs x rd rs1) s = Sys2Proof.Machine.execTgFabs x rd rs1 s := rfl
theorem exec_tgFneg (x : TgAt) (rd rs1 : Fin 32) (s : State) : exec (.tgFneg x rd rs1) s = Sys2Proof.Machine.execTgFneg x rd rs1 s := rfl
theorem exec_tgFeq (x : TgAt) (rd rs1 rs2 : Fin 32) (s : State) : exec (.tgFeq x rd rs1 rs2) s = Sys2Proof.Machine.execTgFeq x rd rs1 rs2 s := rfl
theorem exec_tgFlt (x : TgAt) (rd rs1 rs2 : Fin 32) (s : State) : exec (.tgFlt x rd rs1 rs2) s = Sys2Proof.Machine.execTgFlt x rd rs1 rs2 s := rfl
theorem exec_tgFle (x : TgAt) (rd rs1 rs2 : Fin 32) (s : State) : exec (.tgFle x rd rs1 rs2) s = Sys2Proof.Machine.execTgFle x rd rs1 rs2 s := rfl
theorem exec_tgFcvtws (x : TgAt) (rd rs1 : Fin 32) (s : State) : exec (.tgFcvtws x rd rs1) s = Sys2Proof.Machine.execTgFcvtws x rd rs1 s := rfl
theorem exec_tgFcvtsw (x : TgAt) (rd rs1 : Fin 32) (s : State) : exec (.tgFcvtsw x rd rs1) s = Sys2Proof.Machine.execTgFcvtsw x rd rs1 s := rfl
theorem exec_tgFcvtqs (x : TgAt) (rd rs1 : Fin 32) (s : State) : exec (.tgFcvtqs x rd rs1) s = Sys2Proof.Machine.execTgFcvtqs x rd rs1 s := rfl
theorem exec_tgFcvtsq (x : TgAt) (rd rs1 : Fin 32) (s : State) : exec (.tgFcvtsq x rd rs1) s = Sys2Proof.Machine.execTgFcvtsq x rd rs1 s := rfl
theorem exec_tgEret (x : TgAt) (s : State) : exec (.tgEret x) s = Sys2Proof.Machine.execTgEret x s := rfl
theorem exec_tgMfs (x : TgAt) (rd sr : Fin 32) (s : State) : exec (.tgMfs x rd sr) s = Sys2Proof.Machine.execTgMfs x rd sr s := rfl
theorem exec_tgMts (x : TgAt) (sr rs1 : Fin 32) (s : State) : exec (.tgMts x sr rs1) s = Sys2Proof.Machine.execTgMts x sr rs1 s := rfl
theorem exec_tgEvp (x : TgAt) (rs1 : Fin 32) (s : State) : exec (.tgEvp x rs1) s = Sys2Proof.Machine.execTgEvp x rs1 s := rfl
theorem exec_tgJr (x : TgAt) (rs1 : Fin 32) (s : State) : exec (.tgJr x rs1) s = Sys2Proof.Machine.execTgJr x rs1 s := rfl
theorem exec_tgAddi (x : TgAt) (rd rs1 : Fin 32) (imm : Fin 65536) (s : State) : exec (.tgAddi x rd rs1 imm) s = Sys2Proof.Machine.execTgAddi x rd rs1 imm s := rfl
theorem exec_tgAndi (x : TgAt) (rd rs1 : Fin 32) (imm : Fin 65536) (s : State) : exec (.tgAndi x rd rs1 imm) s = Sys2Proof.Machine.execTgAndi x rd rs1 imm s := rfl
theorem exec_tgOri (x : TgAt) (rd rs1 : Fin 32) (imm : Fin 65536) (s : State) : exec (.tgOri x rd rs1 imm) s = Sys2Proof.Machine.execTgOri x rd rs1 imm s := rfl
theorem exec_tgXori (x : TgAt) (rd rs1 : Fin 32) (imm : Fin 65536) (s : State) : exec (.tgXori x rd rs1 imm) s = Sys2Proof.Machine.execTgXori x rd rs1 imm s := rfl
theorem exec_tgLui (x : TgAt) (rd : Fin 32) (imm : Fin 65536) (s : State) : exec (.tgLui x rd imm) s = Sys2Proof.Machine.execTgLui x rd imm s := rfl
theorem exec_tgSlti (x : TgAt) (rd rs1 : Fin 32) (imm : Fin 65536) (s : State) : exec (.tgSlti x rd rs1 imm) s = Sys2Proof.Machine.execTgSlti x rd rs1 imm s := rfl
theorem exec_tgLw (x : TgAt) (rd rs1 : Fin 32) (imm : Fin 65536) (data : TgEcc) (s : State) : exec (.tgLw x rd rs1 imm data) s = Sys2Proof.Machine.execTgLw x rd rs1 imm data s := rfl
theorem exec_tgLh (x : TgAt) (rd rs1 : Fin 32) (imm : Fin 65536) (data : TgEcc) (s : State) : exec (.tgLh x rd rs1 imm data) s = Sys2Proof.Machine.execTgLh x rd rs1 imm data s := rfl
theorem exec_tgLhu (x : TgAt) (rd rs1 : Fin 32) (imm : Fin 65536) (data : TgEcc) (s : State) : exec (.tgLhu x rd rs1 imm data) s = Sys2Proof.Machine.execTgLhu x rd rs1 imm data s := rfl
theorem exec_tgLacc (x : TgAt) (a rs1 : Fin 32) (imm : Fin 65536) (data : TgEcc) (s : State) : exec (.tgLacc x a rs1 imm data) s = Sys2Proof.Machine.execTgLacc x a rs1 imm data s := rfl
theorem exec_tgSw (x : TgAt) (rs2 rs1 : Fin 32) (imm : Fin 65536) (s : State) : exec (.tgSw x rs2 rs1 imm) s = Sys2Proof.Machine.execTgSw x rs2 rs1 imm s := rfl
theorem exec_tgSh (x : TgAt) (rs2 rs1 : Fin 32) (imm : Fin 65536) (s : State) : exec (.tgSh x rs2 rs1 imm) s = Sys2Proof.Machine.execTgSh x rs2 rs1 imm s := rfl
theorem exec_tgSacc (x : TgAt) (a rs1 : Fin 32) (imm : Fin 65536) (s : State) : exec (.tgSacc x a rs1 imm) s = Sys2Proof.Machine.execTgSacc x a rs1 imm s := rfl
theorem exec_tgLdc (x : TgAt) (rd rs1 : Fin 32) (imm : Fin 65536) (parity : LaneParity) (s : State) : exec (.tgLdc x rd rs1 imm parity) s = Sys2Proof.Machine.execTgLdc x rd rs1 imm parity s := rfl
theorem exec_tgStc (x : TgAt) (rs2 rs1 : Fin 32) (imm : Fin 65536) (s : State) : exec (.tgStc x rs2 rs1 imm) s = Sys2Proof.Machine.execTgStc x rs2 rs1 imm s := rfl
theorem exec_tgStcc (x : TgAt) (rs2 rs1 : Fin 32) (imm : Fin 65536) (s : State) : exec (.tgStcc x rs2 rs1 imm) s = Sys2Proof.Machine.execTgStcc x rs2 rs1 imm s := rfl
theorem exec_tgBeq (x : TgAt) (rs1 rs2 : Fin 32) (off : Fin 65536) (s : State) : exec (.tgBeq x rs1 rs2 off) s = Sys2Proof.Machine.execTgBeq x rs1 rs2 off s := rfl
theorem exec_tgBne (x : TgAt) (rs1 rs2 : Fin 32) (off : Fin 65536) (s : State) : exec (.tgBne x rs1 rs2 off) s = Sys2Proof.Machine.execTgBne x rs1 rs2 off s := rfl
theorem exec_tgBlt (x : TgAt) (rs1 rs2 : Fin 32) (off : Fin 65536) (s : State) : exec (.tgBlt x rs1 rs2 off) s = Sys2Proof.Machine.execTgBlt x rs1 rs2 off s := rfl
theorem exec_tgBge (x : TgAt) (rs1 rs2 : Fin 32) (off : Fin 65536) (s : State) : exec (.tgBge x rs1 rs2 off) s = Sys2Proof.Machine.execTgBge x rs1 rs2 off s := rfl
theorem exec_tgBltu (x : TgAt) (rs1 rs2 : Fin 32) (off : Fin 65536) (s : State) : exec (.tgBltu x rs1 rs2 off) s = Sys2Proof.Machine.execTgBltu x rs1 rs2 off s := rfl
theorem exec_tgBgeu (x : TgAt) (rs1 rs2 : Fin 32) (off : Fin 65536) (s : State) : exec (.tgBgeu x rs1 rs2 off) s = Sys2Proof.Machine.execTgBgeu x rs1 rs2 off s := rfl
theorem exec_tgJmp (x : TgAt) (off : Fin 67108864) (s : State) : exec (.tgJmp x off) s = Sys2Proof.Machine.execTgJmp x off s := rfl
theorem exec_tgCall (x : TgAt) (off : Fin 67108864) (s : State) : exec (.tgCall x off) s = Sys2Proof.Machine.execTgCall x off s := rfl
theorem exec_tgLoop (x : TgAt) (level : Fin 2) (rs1 : Fin 32) (off : Fin 65536) (s : State) : exec (.tgLoop x level rs1 off) s = Sys2Proof.Machine.execTgLoop x level rs1 off s := rfl
theorem exec_tgLoopi (x : TgAt) (level : Fin 2) (n : Fin 512) (off : Fin 65536) (s : State) : exec (.tgLoopi x level n off) s = Sys2Proof.Machine.execTgLoopi x level n off s := rfl
theorem exec_tgSetm (x : TgAt) (mask value : Fin 256) (s : State) : exec (.tgSetm x mask value) s = Sys2Proof.Machine.execTgSetm x mask value s := rfl
theorem exec_tgEnd (x : TgAt) (s : State) : exec (.tgEnd x) s = Sys2Proof.Machine.execTgEnd x s := rfl
theorem exec_tgBrk (x : TgAt) (s : State) : exec (.tgBrk x) s = Sys2Proof.Machine.execTgBrk x s := rfl
theorem exec_tgSeal (e : Fin 12) (cmp : TgCmp) (s : State) : exec (.tgSeal e cmp) s = Sys2Proof.Machine.execTgSeal e cmp s := rfl
theorem exec_tgSkewTimeout (e : Fin 12) (s : State) : exec (.tgSkewTimeout e) s = Sys2Proof.Machine.execTgSkewTimeout e s := rfl
theorem exec_tgDeadlineExpiry (e : Fin 12) (s : State) : exec (.tgDeadlineExpiry e) s = Sys2Proof.Machine.execTgDeadlineExpiry e s := rfl
theorem exec_tgPairWrite (e : Fin 12) (pair : Bool) (s : State) : exec (.tgPairWrite e pair) s = Sys2Proof.Machine.execTgPairWrite e pair s := rfl
theorem exec_tgPairSyncDone (e : Fin 12) (s : State) : exec (.tgPairSyncDone e) s = Sys2Proof.Machine.execTgPairSyncDone e s := rfl
theorem exec_tgMoveGo (e : Fin 12) (dest : Fin 16) (s : State) : exec (.tgMoveGo e dest) s = Sys2Proof.Machine.execTgMoveGo e dest s := rfl
theorem exec_tgMoveFreeze (e : Fin 12) (s : State) : exec (.tgMoveFreeze e) s = Sys2Proof.Machine.execTgMoveFreeze e s := rfl
theorem exec_tgMoveComplete (e : Fin 12) (s : State) : exec (.tgMoveComplete e) s = Sys2Proof.Machine.execTgMoveComplete e s := rfl
theorem exec_tgMoveFwdClear (e : Fin 12) (s : State) : exec (.tgMoveFwdClear e) s = Sys2Proof.Machine.execTgMoveFwdClear e s := rfl
theorem exec_pscOn (n : Fin 40) (r : Req) (vi : Option Nat) (s : State) : exec (.pscOn n r vi) s = Sys2Proof.Machine.execPscOn n r vi s := rfl
theorem exec_pscOff (n : Fin 40) (r : Req) (vi : Option Nat) (s : State) : exec (.pscOff n r vi) s = Sys2Proof.Machine.execPscOff n r vi s := rfl
theorem exec_pscPwm (n : Fin 40) (r : Req) (vi : Option Nat) (s : State) : exec (.pscPwm n r vi) s = Sys2Proof.Machine.execPscPwm n r vi s := rfl
theorem exec_pscClear (n : Fin 40) (r : Req) (vi : Option Nat) (s : State) : exec (.pscClear n r vi) s = Sys2Proof.Machine.execPscClear n r vi s := rfl
theorem exec_pscOlcheck (n : Fin 40) (r : Req) (vi : Option Nat) (s : State) : exec (.pscOlcheck n r vi) s = Sys2Proof.Machine.execPscOlcheck n r vi s := rfl
theorem exec_pscCommandApply (f : Fin 2) (crcOk : Bool) (other : Option (Fin 40 × Fin 16)) (s : State) : exec (.pscCommandApply f crcOk other) s = Sys2Proof.Machine.execPscCommandApply f crcOk other s := rfl
theorem exec_pscAckReceive (f : Fin 2) (crcOk : Bool) (s : State) : exec (.pscAckReceive f crcOk) s = Sys2Proof.Machine.execPscAckReceive f crcOk s := rfl
theorem exec_pscAckTimeout (f : Fin 2) (s : State) : exec (.pscAckTimeout f) s = Sys2Proof.Machine.execPscAckTimeout f s := rfl
theorem exec_pscSample (m : PscSample) (s : State) : exec (.pscSample m) s = Sys2Proof.Machine.execPscSample m s := rfl
theorem exec_pscRangeSwitch (n : Fin 40) (s : State) : exec (.pscRangeSwitch n) s = Sys2Proof.Machine.execPscRangeSwitch n s := rfl
theorem exec_pscOvercurrent (n : Fin 40) (samples : List Nat) (s : State) : exec (.pscOvercurrent n samples) s = Sys2Proof.Machine.execPscOvercurrent n samples s := rfl
theorem exec_pscShortCircuit (n : Fin 40) (s : State) : exec (.pscShortCircuit n) s = Sys2Proof.Machine.execPscShortCircuit n s := rfl
theorem exec_pscGroupOvertemp (g : Fin 10) (t : Int) (s : State) : exec (.pscGroupOvertemp g t) s = Sys2Proof.Machine.execPscGroupOvertemp g t s := rfl
theorem exec_i2tUpdate (n : Fin 40) (sumSq : Nat) (s : State) : exec (.i2tUpdate n sumSq) s = Sys2Proof.Machine.execI2tUpdate n sumSq s := rfl
theorem exec_pscRetryDue (n : Fin 40) (s : State) : exec (.pscRetryDue n) s = Sys2Proof.Machine.execPscRetryDue n s := rfl
theorem exec_pscRetryRestore (n : Fin 40) (s : State) : exec (.pscRetryRestore n) s = Sys2Proof.Machine.execPscRetryRestore n s := rfl
theorem exec_pscClampEvent (n : Fin 40) (s : State) : exec (.pscClampEvent n) s = Sys2Proof.Machine.execPscClampEvent n s := rfl
theorem exec_pscPwmPeriod (n : Fin 40) (off : Bool) (s : State) : exec (.pscPwmPeriod n off) s = Sys2Proof.Machine.execPscPwmPeriod n off s := rfl
theorem exec_offstateCheckStart (n : Fin 40) (periodic : Bool) (v : Int) (s : State) : exec (.offstateCheckStart n periodic v) s = Sys2Proof.Machine.execOffstateCheckStart n periodic v s := rfl
theorem exec_offstateCheckSettled (n : Fin 40) (v : Int) (s : State) : exec (.offstateCheckSettled n v) s = Sys2Proof.Machine.execOffstateCheckSettled n v s := rfl
theorem exec_onstateOpenLoad (n : Fin 40) (largest : Nat) (s : State) : exec (.onstateOpenLoad n largest) s = Sys2Proof.Machine.execOnstateOpenLoad n largest s := rfl
theorem exec_pscShed (f : Fin 2) (hot : Option (Fin 10)) (s : State) : exec (.pscShed f hot) s = Sys2Proof.Machine.execPscShed f hot s := rfl
theorem exec_pscRestore (f : Fin 2) (s : State) : exec (.pscRestore f) s = Sys2Proof.Machine.execPscRestore f s := rfl
theorem exec_pscRecordWrite (parity : Bool) (s : State) : exec (.pscRecordWrite parity) s = Sys2Proof.Machine.execPscRecordWrite parity s := rfl
theorem exec_pscMirrorLoad (f : Fin 2) (s : State) : exec (.pscMirrorLoad f) s = Sys2Proof.Machine.execPscMirrorLoad f s := rfl
theorem exec_feedPowerOnReset (f : Fin 2) (s : State) : exec (.feedPowerOnReset f) s = Sys2Proof.Machine.execFeedPowerOnReset f s := rfl
theorem exec_feedRestart (f : Fin 2) (s : State) : exec (.feedRestart f) s = Sys2Proof.Machine.execFeedRestart f s := rfl
theorem exec_feedUndervoltage (f : Fin 2) (vpwr : Nat) (s : State) : exec (.feedUndervoltage f vpwr) s = Sys2Proof.Machine.execFeedUndervoltage f vpwr s := rfl
theorem exec_feedOvervoltage (f : Fin 2) (vpwr : Nat) (s : State) : exec (.feedOvervoltage f vpwr) s = Sys2Proof.Machine.execFeedOvervoltage f vpwr s := rfl
theorem exec_portLinkDown (p : Fin 18) (s : State) : exec (.portLinkDown p) s = Sys2Proof.Machine.execPortLinkDown p s := rfl
theorem exec_portLinkUp (p : Fin 18) (speed sqi : Nat) (s : State) : exec (.portLinkUp p speed sqi) s = Sys2Proof.Machine.execPortLinkUp p speed sqi s := rfl
theorem exec_portHoldExpiry (p : Fin 18) (s : State) : exec (.portHoldExpiry p) s = Sys2Proof.Machine.execPortHoldExpiry p s := rfl
theorem exec_portDisable (p : Fin 22) (s : State) : exec (.portDisable p) s = Sys2Proof.Machine.execPortDisable p s := rfl
theorem exec_plcaBeaconTimeout (p : Fin 4) (s : State) : exec (.plcaBeaconTimeout p) s = Sys2Proof.Machine.execPlcaBeaconTimeout p s := rfl
theorem exec_plcaBeacon (p : Fin 4) (s : State) : exec (.plcaBeacon p) s = Sys2Proof.Machine.execPlcaBeacon p s := rfl
theorem exec_frameReceive (p : Fin 22) (rx : EthRx) (s : State) : exec (.frameReceive p rx) s = Sys2Proof.Machine.execFrameReceive p rx s := rfl
theorem exec_frameTransmit (p : Fin 22) (s : State) : exec (.frameTransmit p) s = Sys2Proof.Machine.execFrameTransmit p s := rfl
theorem exec_internalIngressResume (p : Fin 4) (s : State) : exec (.internalIngressResume p) s = Sys2Proof.Machine.execInternalIngressResume p s := rfl
theorem exec_gateEntryAdvance (p : Fin 18) (s : State) : exec (.gateEntryAdvance p) s = Sys2Proof.Machine.execGateEntryAdvance p s := rfl
theorem exec_gclChangeWrite (p : Fin 18) (s : State) : exec (.gclChangeWrite p) s = Sys2Proof.Machine.execGclChangeWrite p s := rfl
theorem exec_gateListChange (p : Fin 18) (s : State) : exec (.gateListChange p) s = Sys2Proof.Machine.execGateListChange p s := rfl
theorem exec_streamGateChangeWrite (g : Fin 64) (s : State) : exec (.streamGateChangeWrite g) s = Sys2Proof.Machine.execStreamGateChangeWrite g s := rfl
theorem exec_streamGateListChange (g : Fin 64) (s : State) : exec (.streamGateListChange g) s = Sys2Proof.Machine.execStreamGateListChange g s := rfl
theorem exec_streamGateEntryAdvance (g : Fin 64) (s : State) : exec (.streamGateEntryAdvance g) s = Sys2Proof.Machine.execStreamGateEntryAdvance g s := rfl
theorem exec_fdbRead (s : State) : exec .fdbRead s = Sys2Proof.Machine.execFdbRead s := rfl
theorem exec_fdbWrite (s : State) : exec .fdbWrite s = Sys2Proof.Machine.execFdbWrite s := rfl
theorem exec_fdbDelete (s : State) : exec .fdbDelete s = Sys2Proof.Machine.execFdbDelete s := rfl
theorem exec_fdbFlush (s : State) : exec .fdbFlush s = Sys2Proof.Machine.execFdbFlush s := rfl
theorem exec_fdbInvcache (s : State) : exec .fdbInvcache s = Sys2Proof.Machine.execFdbInvcache s := rfl
theorem exec_fdbFence (s : State) : exec .fdbFence s = Sys2Proof.Machine.execFdbFence s := rfl
theorem exec_fdbCommandComplete (s : State) : exec .fdbCommandComplete s = Sys2Proof.Machine.execFdbCommandComplete s := rfl
theorem exec_fdbWindowWrite (i : Fin 16384) (w : Fin 3) (v : Nat) (s : State) : exec (.fdbWindowWrite i w v) s = Sys2Proof.Machine.execFdbWindowWrite i w v s := rfl
theorem exec_fdbCacheExpiry (key : Nat) (s : State) : exec (.fdbCacheExpiry key) s = Sys2Proof.Machine.execFdbCacheExpiry key s := rfl
theorem exec_fdbAgeSweep (s : State) : exec .fdbAgeSweep s = Sys2Proof.Machine.execFdbAgeSweep s := rfl
theorem exec_pinRevert (k : Fin 4) (s : State) : exec (.pinRevert k) s = Sys2Proof.Machine.execPinRevert k s := rfl
theorem exec_pinRevertComplete (k : Fin 4) (s : State) : exec (.pinRevertComplete k) s = Sys2Proof.Machine.execPinRevertComplete k s := rfl
theorem exec_frerRecoveryReset (r : Fin 512) (s : State) : exec (.frerRecoveryReset r) s = Sys2Proof.Machine.execFrerRecoveryReset r s := rfl
theorem exec_sampleRecordWrite (parity : Bool) (s : State) : exec (.sampleRecordWrite parity) s = Sys2Proof.Machine.execSampleRecordWrite parity s := rfl
theorem exec_canStart (c : Fin 16) (s : State) : exec (.canStart c) s = Sys2Proof.Machine.execCanStart c s := rfl
theorem exec_canFrameValid (c : Fin 16) (f : CanFrame) (age : Nat) (s : State) : exec (.canFrameValid c f age) s = Sys2Proof.Machine.execCanFrameValid c f age s := rfl
theorem exec_canObjectWrite (c : Fin 16) (s : State) : exec (.canObjectWrite c) s = Sys2Proof.Machine.execCanObjectWrite c s := rfl
theorem exec_canTxreq (c : Fin 16) (o : Fin 128) (s : State) : exec (.canTxreq c o) s = Sys2Proof.Machine.execCanTxreq c o s := rfl
theorem exec_canArbitrationStart (c : Fin 16) (s : State) : exec (.canArbitrationStart c) s = Sys2Proof.Machine.execCanArbitrationStart c s := rfl
theorem exec_canTxSuccess (c : Fin 16) (tdcv : Fin 256) (s : State) : exec (.canTxSuccess c tdcv) s = Sys2Proof.Machine.execCanTxSuccess c tdcv s := rfl
theorem exec_canTxError (c : Fin 16) (lec : Fin 7) (data : Bool) (count : Bool) (tdcv : Option (Fin 256)) (s : State) : exec (.canTxError c lec data count tdcv) s = Sys2Proof.Machine.execCanTxError c lec data count tdcv s := rfl
theorem exec_canArbitrationLost (c : Fin 16) (s : State) : exec (.canArbitrationLost c) s = Sys2Proof.Machine.execCanArbitrationLost c s := rfl
theorem exec_canAbort (c : Fin 16) (o : Fin 128) (s : State) : exec (.canAbort c o) s = Sys2Proof.Machine.execCanAbort c o s := rfl
theorem exec_canBusoffRecover (c : Fin 16) (s : State) : exec (.canBusoffRecover c) s = Sys2Proof.Machine.execCanBusoffRecover c s := rfl
theorem exec_canBusoffRecovered (c : Fin 16) (s : State) : exec (.canBusoffRecovered c) s = Sys2Proof.Machine.execCanBusoffRecovered c s := rfl
theorem exec_canLomApply (c : Fin 16) (s : State) : exec (.canLomApply c) s = Sys2Proof.Machine.execCanLomApply c s := rfl
theorem exec_canTxdTimeout (c : Fin 16) (s : State) : exec (.canTxdTimeout c) s = Sys2Proof.Machine.execCanTxdTimeout c s := rfl
theorem exec_canCorrelation (c : Fin 16) (take : Bool) (s : State) : exec (.canCorrelation c take) s = Sys2Proof.Machine.execCanCorrelation c take s := rfl
theorem exec_busWakeDetect (b : Fin 24) (s : State) : exec (.busWakeDetect b) s = Sys2Proof.Machine.execBusWakeDetect b s := rfl
theorem exec_transceiverOvertemp (b : Fin 24) (s : State) : exec (.transceiverOvertemp b) s = Sys2Proof.Machine.execTransceiverOvertemp b s := rfl
theorem exec_transceiverOvertempEnd (b : Fin 24) (s : State) : exec (.transceiverOvertempEnd b) s = Sys2Proof.Machine.execTransceiverOvertempEnd b s := rfl
theorem exec_linSlotStart (l : Fin 8) (s : State) : exec (.linSlotStart l) s = Sys2Proof.Machine.execLinSlotStart l s := rfl
theorem exec_linHeaderReceive (l : Fin 8) (id : Fin 64) (div : Nat) (s : State) : exec (.linHeaderReceive l id div) s = Sys2Proof.Machine.execLinHeaderReceive l id div s := rfl
theorem exec_linResponseComplete (l : Fin 8) (bytes : List Nat) (cks : Nat) (err : Nat) (s : State) : exec (.linResponseComplete l bytes cks err) s = Sys2Proof.Machine.execLinResponseComplete l bytes cks err s := rfl
theorem exec_linResponseTimeout (l : Fin 8) (got : Nat) (s : State) : exec (.linResponseTimeout l got) s = Sys2Proof.Machine.execLinResponseTimeout l got s := rfl
theorem exec_linWakePulse (l : Fin 8) (s : State) : exec (.linWakePulse l) s = Sys2Proof.Machine.execLinWakePulse l s := rfl
theorem exec_carouselEnable (s : State) : exec .carouselEnable s = Sys2Proof.Machine.execCarouselEnable s := rfl
theorem exec_carouselMessageReceive (bytes : List Nat) (s : State) : exec (.carouselMessageReceive bytes) s = Sys2Proof.Machine.execCarouselMessageReceive bytes s := rfl
theorem exec_carouselRelay (from_ : Option (Fin 16)) (bytes : List Nat) (s : State) : exec (.carouselRelay from_ bytes) s = Sys2Proof.Machine.execCarouselRelay from_ bytes s := rfl
theorem exec_carouselSend (bb : Bool) (s : State) : exec (.carouselSend bb) s = Sys2Proof.Machine.execCarouselSend bb s := rfl
theorem exec_carouselSlotTimeout (bb : Bool) (s : State) : exec (.carouselSlotTimeout bb) s = Sys2Proof.Machine.execCarouselSlotTimeout bb s := rfl
theorem exec_carouselFormTimeout (bb : Bool) (s : State) : exec (.carouselFormTimeout bb) s = Sys2Proof.Machine.execCarouselFormTimeout bb s := rfl
theorem exec_consentWrite (v : Bool) (s : State) : exec (.consentWrite v) s = Sys2Proof.Machine.execConsentWrite v s := rfl
theorem exec_keeperLimit (i : Fin 64) (s : State) : exec (.keeperLimit i) s = Sys2Proof.Machine.execKeeperLimit i s := rfl
theorem exec_prepareExpiry (s : State) : exec .prepareExpiry s = Sys2Proof.Machine.execPrepareExpiry s := rfl
theorem exec_sleepTransceiversOff (s : State) : exec .sleepTransceiversOff s = Sys2Proof.Machine.execSleepTransceiversOff s := rfl
theorem exec_sleepCorePowerOff (s : State) : exec .sleepCorePowerOff s = Sys2Proof.Machine.execSleepCorePowerOff s := rfl
theorem exec_wakeReport (b : Fin 40) (s : State) : exec (.wakeReport b) s = Sys2Proof.Machine.execWakeReport b s := rfl
theorem exec_wakeWindowExpiry (s : State) : exec .wakeWindowExpiry s = Sys2Proof.Machine.execWakeWindowExpiry s := rfl
theorem exec_zoneOkRequest (s : State) : exec .zoneOkRequest s = Sys2Proof.Machine.execZoneOkRequest s := rfl
theorem exec_zoneOkDrop (s : State) : exec .zoneOkDrop s = Sys2Proof.Machine.execZoneOkDrop s := rfl
theorem exec_zoneOkWatchdog (s : State) : exec .zoneOkWatchdog s = Sys2Proof.Machine.execZoneOkWatchdog s := rfl
theorem exec_gwPduReceive (src : GwSrc) (s : State) : exec (.gwPduReceive src) s = Sys2Proof.Machine.execGwPduReceive src s := rfl
theorem exec_gwPduProcess (s : State) : exec .gwPduProcess s = Sys2Proof.Machine.execGwPduProcess s := rfl
theorem exec_gwLayoutCyclicDue (l : Fin 4096) (s : State) : exec (.gwLayoutCyclicDue l) s = Sys2Proof.Machine.execGwLayoutCyclicDue l s := rfl
theorem exec_gwMingapExpiry (l : Fin 4096) (s : State) : exec (.gwMingapExpiry l) s = Sys2Proof.Machine.execGwMingapExpiry l s := rfl
theorem exec_gwPduForm (s : State) : exec .gwPduForm s = Sys2Proof.Machine.execGwPduForm s := rfl
theorem exec_gwSinkReady (l : Fin 4096) (s : State) : exec (.gwSinkReady l) s = Sys2Proof.Machine.execGwSinkReady l s := rfl
theorem exec_gwFence (s : State) : exec .gwFence s = Sys2Proof.Machine.execGwFence s := rfl
theorem exec_gwFenceComplete (s : State) : exec .gwFenceComplete s = Sys2Proof.Machine.execGwFenceComplete s := rfl
theorem exec_tableEntryCommitWrite (addr value : Nat) (s : State) : exec (.tableEntryCommitWrite addr value) s = Sys2Proof.Machine.execTableEntryCommitWrite addr value s := rfl
theorem exec_pcieInboundRequest (x : PcieIn) (s : State) : exec (.pcieInboundRequest x) s = Sys2Proof.Machine.execPcieInboundRequest x s := rfl
theorem exec_pcieOutboundRequest (r : Req) (acc : AccKind) (addr size value : Nat) (s : State) : exec (.pcieOutboundRequest r acc addr size value) s = Sys2Proof.Machine.execPcieOutboundRequest r acc addr size value s := rfl
theorem exec_pcieCompletion (tag : Nat) (status : Fin 3) (bytes : List Nat) (s : State) : exec (.pcieCompletion tag status bytes) s = Sys2Proof.Machine.execPcieCompletion tag status bytes s := rfl
theorem exec_pcieCompletionTimeout (tag : Nat) (s : State) : exec (.pcieCompletionTimeout tag) s = Sys2Proof.Machine.execPcieCompletionTimeout tag s := rfl
theorem exec_pcieLinkUp (gen width ltssm : Nat) (s : State) : exec (.pcieLinkUp gen width ltssm) s = Sys2Proof.Machine.execPcieLinkUp gen width ltssm s := rfl
theorem exec_pcieLinkDown (ltssm : Nat) (s : State) : exec (.pcieLinkDown ltssm) s = Sys2Proof.Machine.execPcieLinkDown ltssm s := rfl
theorem exec_pcieFunctionLevelReset (f : Fin 256) (s : State) : exec (.pcieFunctionLevelReset f) s = Sys2Proof.Machine.execPcieFunctionLevelReset f s := rfl
theorem exec_pcieVfEnable (en : Bool) (num : Fin 256) (s : State) : exec (.pcieVfEnable en num) s = Sys2Proof.Machine.execPcieVfEnable en num s := rfl
theorem exec_pciePerst (low : Bool) (s : State) : exec (.pciePerst low) s = Sys2Proof.Machine.execPciePerst low s := rfl
theorem exec_pcieRetrain (s : State) : exec .pcieRetrain s = Sys2Proof.Machine.execPcieRetrain s := rfl
theorem exec_pciePfMsix (vectors : Nat) (s : State) : exec (.pciePfMsix vectors) s = Sys2Proof.Machine.execPciePfMsix vectors s := rfl
theorem exec_rvInstruction (c : Fin 8) (o : RvObs) (s : State) : exec (.rvInstruction c o) s = Sys2Proof.Machine.execRvInstruction c o s := rfl
theorem exec_mret (c : Fin 8) (o : RvObs) (s : State) : exec (.mret c o) s = Sys2Proof.Machine.execMret c o s := rfl
theorem exec_wcall (c : Fin 8) (o : RvObs) (s : State) : exec (.wcall c o) s = Sys2Proof.Machine.execWcall c o s := rfl
theorem exec_ckpt (c : Fin 8) (o : RvObs) (s : State) : exec (.ckpt c o) s = Sys2Proof.Machine.execCkpt c o s := rfl
theorem exec_agreeLd (c : Fin 8) (o : RvObs) (s : State) : exec (.agreeLd c o) s = Sys2Proof.Machine.execAgreeLd c o s := rfl
theorem exec_agreeRnd (c : Fin 8) (o : RvObs) (s : State) : exec (.agreeRnd c o) s = Sys2Proof.Machine.execAgreeRnd c o s := rfl
theorem exec_agreeCyc (c : Fin 8) (o : RvObs) (s : State) : exec (.agreeCyc c o) s = Sys2Proof.Machine.execAgreeCyc c o s := rfl
theorem exec_gtbrd (c : Fin 8) (o : RvObs) (s : State) : exec (.gtbrd c o) s = Sys2Proof.Machine.execGtbrd c o s := rfl
theorem exec_gtbrdX (c : Fin 8) (o : RvObs) (s : State) : exec (.gtbrdX c o) s = Sys2Proof.Machine.execGtbrdX c o s := rfl
theorem exec_evpost (c : Fin 8) (o : RvObs) (s : State) : exec (.evpost c o) s = Sys2Proof.Machine.execEvpost c o s := rfl
theorem exec_claimReadInner (c : Fin 8) (o : RvObs) (s : State) : exec (.claimReadInner c o) s = Sys2Proof.Machine.execClaimReadInner c o s := rfl
theorem exec_claimReadOuter (c : Fin 8) (o : RvObs) (s : State) : exec (.claimReadOuter c o) s = Sys2Proof.Machine.execClaimReadOuter c o s := rfl
theorem exec_interruptTake (c : Fin 8) (s : State) : exec (.interruptTake c) s = Sys2Proof.Machine.execInterruptTake c s := rfl
theorem exec_timerCompareMatch (c : Fin 8) (s : State) : exec (.timerCompareMatch c) s = Sys2Proof.Machine.execTimerCompareMatch c s := rfl
theorem exec_predictorFlush (c : Fin 8) (o : RvObs) (s : State) : exec (.predictorFlush c o) s = Sys2Proof.Machine.execPredictorFlush c o s := rfl
theorem exec_storeErrorResponse (c : Fin 8) (inner : Bool) (addr : Nat) (s : State) : exec (.storeErrorResponse c inner addr) s = Sys2Proof.Machine.execStoreErrorResponse c inner addr s := rfl
theorem exec_pairAccessRelease (n : Fin 4) (agree : Bool) (ecc : EccObs) (s : State) : exec (.pairAccessRelease n agree ecc) s = Sys2Proof.Machine.execPairAccessRelease n agree ecc s := rfl
theorem exec_pairLagTimeout (n : Fin 4) (s : State) : exec (.pairLagTimeout n) s = Sys2Proof.Machine.execPairLagTimeout n s := rfl
theorem exec_checkpoint (n : Fin 4) (sigOk : Bool) (s : State) : exec (.checkpoint n sigOk) s = Sys2Proof.Machine.execCheckpoint n sigOk s := rfl
theorem exec_checkpointCommit (n : Fin 4) (s : State) : exec (.checkpointCommit n) s = Sys2Proof.Machine.execCheckpointCommit n s := rfl
theorem exec_pairRestoreDone (n : Fin 4) (crcOk : Bool) (s : State) : exec (.pairRestoreDone n crcOk) s = Sys2Proof.Machine.execPairRestoreDone n crcOk s := rfl
theorem exec_pairReplayEnd (n : Fin 4) (hashOk : Bool) (s : State) : exec (.pairReplayEnd n hashOk) s = Sys2Proof.Machine.execPairReplayEnd n hashOk s := rfl
theorem exec_debugHalt (c : Fin 8) (s : State) : exec (.debugHalt c) s = Sys2Proof.Machine.execDebugHalt c s := rfl
theorem exec_debugResume (c : Fin 8) (s : State) : exec (.debugResume c) s = Sys2Proof.Machine.execDebugResume c s := rfl
theorem exec_debugStep (c : Fin 8) (s : State) : exec (.debugStep c) s = Sys2Proof.Machine.execDebugStep c s := rfl
theorem exec_debugAbstractWrite (c : Fin 8) (reg value : Nat) (s : State) : exec (.debugAbstractWrite c reg value) s = Sys2Proof.Machine.execDebugAbstractWrite c reg value s := rfl
theorem exec_debugProgramBuffer (c : Fin 8) (words : List Nat) (o : RvObs) (s : State) : exec (.debugProgramBuffer c words o) s = Sys2Proof.Machine.execDebugProgramBuffer c words o s := rfl
theorem exec_debugNdmreset (s : State) : exec .debugNdmreset s = Sys2Proof.Machine.execDebugNdmreset s := rfl
theorem exec_regionCtlWrite (r : Req) (t : Fin 17) (k : Fin 32) (v : Nat) (s : State) : exec (.regionCtlWrite r t k v) s = Sys2Proof.Machine.execRegionCtlWrite r t k v s := rfl
theorem exec_igrpWrite (r : Req) (k : Fin 8) (v : Nat) (s : State) : exec (.igrpWrite r k v) s = Sys2Proof.Machine.execIgrpWrite r k v s := rfl
theorem exec_regionFence (s : State) : exec .regionFence s = Sys2Proof.Machine.execRegionFence s := rfl
theorem exec_regionFenceComplete (s : State) : exec .regionFenceComplete s = Sys2Proof.Machine.execRegionFenceComplete s := rfl
theorem exec_scrubLine (envm : Bool) (e : EccObs) (s : State) : exec (.scrubLine envm e) s = Sys2Proof.Machine.execScrubLine envm e s := rfl
theorem exec_worldWatchdogExpiry (h : Fin 8) (s : State) : exec (.worldWatchdogExpiry h) s = Sys2Proof.Machine.execWorldWatchdogExpiry h s := rfl
theorem exec_watchdogKick (h : Fin 8) (r : Req) (s : State) : exec (.watchdogKick h r) s = Sys2Proof.Machine.execWatchdogKick h r s := rfl
theorem exec_innerWorldRestartBegin (h : Fin 8) (s : State) : exec (.innerWorldRestartBegin h) s = Sys2Proof.Machine.execInnerWorldRestartBegin h s := rfl
theorem exec_innerWorldRestartComplete (h : Fin 8) (s : State) : exec (.innerWorldRestartComplete h) s = Sys2Proof.Machine.execInnerWorldRestartComplete h s := rfl
theorem exec_vimCreate (i : Fin 256) (s : State) : exec (.vimCreate i) s = Sys2Proof.Machine.execVimCreate i s := rfl
theorem exec_vimAttach (i : Fin 256) (kind : Fin 8) (slot : Fin 32) (s : State) : exec (.vimAttach i kind slot) s = Sys2Proof.Machine.execVimAttach i kind slot s := rfl
theorem exec_vimDetach (i : Fin 256) (kind : Fin 8) (slot : Fin 32) (s : State) : exec (.vimDetach i kind slot) s = Sys2Proof.Machine.execVimDetach i kind slot s := rfl
theorem exec_vimQuiesce (i : Fin 256) (s : State) : exec (.vimQuiesce i) s = Sys2Proof.Machine.execVimQuiesce i s := rfl
theorem exec_vimQuiesceComplete (i : Fin 256) (expired : Bool) (s : State) : exec (.vimQuiesceComplete i expired) s = Sys2Proof.Machine.execVimQuiesceComplete i expired s := rfl
theorem exec_vimResume (i : Fin 256) (s : State) : exec (.vimResume i) s = Sys2Proof.Machine.execVimResume i s := rfl
theorem exec_vimReset (i : Fin 256) (s : State) : exec (.vimReset i) s = Sys2Proof.Machine.execVimReset i s := rfl
theorem exec_vimMigrate (i : Fin 256) (bind : Fin 4) (fn : Fin 256) (s : State) : exec (.vimMigrate i bind fn) s = Sys2Proof.Machine.execVimMigrate i bind fn s := rfl
theorem exec_vimTakedown (i : Fin 256) (s : State) : exec (.vimTakedown i) s = Sys2Proof.Machine.execVimTakedown i s := rfl
theorem exec_vimGenChangeDue (i : Fin 256) (s : State) : exec (.vimGenChangeDue i) s = Sys2Proof.Machine.execVimGenChangeDue i s := rfl
theorem exec_vimMapWrite (addr value : Nat) (s : State) : exec (.vimMapWrite addr value) s = Sys2Proof.Machine.execVimMapWrite addr value s := rfl
theorem exec_viTenantReset (i : Fin 256) (s : State) : exec (.viTenantReset i) s = Sys2Proof.Machine.execViTenantReset i s := rfl
theorem exec_viResetComplete (i : Fin 256) (s : State) : exec (.viResetComplete i) s = Sys2Proof.Machine.execViResetComplete i s := rfl
theorem exec_viDoorbell (i : Fin 256) (rx : Bool) (slot : Fin 16) (tail : Fin 4096) (s : State) : exec (.viDoorbell i rx slot tail) s = Sys2Proof.Machine.execViDoorbell i rx slot tail s := rfl
theorem exec_viTxFrame (i : Fin 256) (slot : Fin 16) (parity : Bool) (s : State) : exec (.viTxFrame i slot parity) s = Sys2Proof.Machine.execViTxFrame i slot parity s := rfl
theorem exec_viRxDeliver (p : Fin 2) (parity : List (Fin 256 × Fin 16)) (s : State) : exec (.viRxDeliver p parity) s = Sys2Proof.Machine.execViRxDeliver p parity s := rfl
theorem exec_viBucketRefill (i : Fin 256) (s : State) : exec (.viBucketRefill i) s = Sys2Proof.Machine.execViBucketRefill i s := rfl
theorem exec_mbxClaim (m : Fin 8) (r : Req) (s : State) : exec (.mbxClaim m r) s = Sys2Proof.Machine.execMbxClaim m r s := rfl
theorem exec_mbxGo (m : Fin 8) (r : Req) (op : Fin 256) (s : State) : exec (.mbxGo m r op) s = Sys2Proof.Machine.execMbxGo m r op s := rfl
theorem exec_mbxRelease (m : Fin 8) (r : Req) (s : State) : exec (.mbxRelease m r) s = Sys2Proof.Machine.execMbxRelease m r s := rfl
theorem exec_mbxReclaimTimeout (m : Fin 8) (s : State) : exec (.mbxReclaimTimeout m) s = Sys2Proof.Machine.execMbxReclaimTimeout m s := rfl
theorem exec_mbxCommandComplete (s : State) : exec .mbxCommandComplete s = Sys2Proof.Machine.execMbxCommandComplete s := rfl
theorem exec_getInfo (m : Fin 8) (s : State) : exec (.getInfo m) s = Sys2Proof.Machine.execGetInfo m s := rfl
theorem exec_getBootstat (m : Fin 8) (s : State) : exec (.getBootstat m) s = Sys2Proof.Machine.execGetBootstat m s := rfl
theorem exec_echo (m : Fin 8) (s : State) : exec (.echo m) s = Sys2Proof.Machine.execEcho m s := rfl
theorem exec_provDevid (m : Fin 8) (secret attest devId : Nat) (s : State) : exec (.provDevid m secret attest devId) s = Sys2Proof.Machine.execProvDevid m secret attest devId s := rfl
theorem exec_lcAdvance (m : Fin 8) (s : State) : exec (.lcAdvance m) s = Sys2Proof.Machine.execLcAdvance m s := rfl
theorem exec_lcReturn (m : Fin 8) (s : State) : exec (.lcReturn m) s = Sys2Proof.Machine.execLcReturn m s := rfl
theorem exec_lcEnd (m : Fin 8) (s : State) : exec (.lcEnd m) s = Sys2Proof.Machine.execLcEnd m s := rfl
theorem exec_lcChallenge (m : Fin 8) (nonce : List Nat) (s : State) : exec (.lcChallenge m nonce) s = Sys2Proof.Machine.execLcChallenge m nonce s := rfl
theorem exec_nonceExpiry (s : State) : exec .nonceExpiry s = Sys2Proof.Machine.execNonceExpiry s := rfl
theorem exec_dbgUnlock (m : Fin 8) (s : State) : exec (.dbgUnlock m) s = Sys2Proof.Machine.execDbgUnlock m s := rfl
theorem exec_provRootkey (m : Fin 8) (s : State) : exec (.provRootkey m) s = Sys2Proof.Machine.execProvRootkey m s := rfl
theorem exec_keyRevoke (m : Fin 8) (s : State) : exec (.keyRevoke m) s = Sys2Proof.Machine.execKeyRevoke m s := rfl
theorem exec_measRead (m : Fin 8) (s : State) : exec (.measRead m) s = Sys2Proof.Machine.execMeasRead m s := rfl
theorem exec_measExtend (m : Fin 8) (s : State) : exec (.measExtend m) s = Sys2Proof.Machine.execMeasExtend m s := rfl
theorem exec_quote (m : Fin 8) (s : State) : exec (.quote m) s = Sys2Proof.Machine.execQuote m s := rfl
theorem exec_getCert (m : Fin 8) (s : State) : exec (.getCert m) s = Sys2Proof.Machine.execGetCert m s := rfl
theorem exec_verifyImage (m : Fin 8) (s : State) : exec (.verifyImage m) s = Sys2Proof.Machine.execVerifyImage m s := rfl
theorem exec_updBegin (m : Fin 8) (nvmOk : Bool) (s : State) : exec (.updBegin m nvmOk) s = Sys2Proof.Machine.execUpdBegin m nvmOk s := rfl
theorem exec_updWrite (m : Fin 8) (nvmOk : Bool) (s : State) : exec (.updWrite m nvmOk) s = Sys2Proof.Machine.execUpdWrite m nvmOk s := rfl
theorem exec_updFromXspi (m : Fin 8) (data : Option (List Nat)) (nvmOk : Bool) (s : State) : exec (.updFromXspi m data nvmOk) s = Sys2Proof.Machine.execUpdFromXspi m data nvmOk s := rfl
theorem exec_updVerify (m : Fin 8) (bad : List Nat) (s : State) : exec (.updVerify m bad) s = Sys2Proof.Machine.execUpdVerify m bad s := rfl
theorem exec_updActivate (m : Fin 8) (s : State) : exec (.updActivate m) s = Sys2Proof.Machine.execUpdActivate m s := rfl
theorem exec_updConfirm (m : Fin 8) (s : State) : exec (.updConfirm m) s = Sys2Proof.Machine.execUpdConfirm m s := rfl
theorem exec_updRevert (m : Fin 8) (s : State) : exec (.updRevert m) s = Sys2Proof.Machine.execUpdRevert m s := rfl
theorem exec_cfgRead (m : Fin 8) (s : State) : exec (.cfgRead m) s = Sys2Proof.Machine.execCfgRead m s := rfl
theorem exec_cfgWrite (m : Fin 8) (nvmOk : Bool) (s : State) : exec (.cfgWrite m nvmOk) s = Sys2Proof.Machine.execCfgWrite m nvmOk s := rfl
theorem exec_envmRefresh (m : Fin 8) (corrected : Nat) (ecc : EccObs) (nvmOk : Bool) (s : State) : exec (.envmRefresh m corrected ecc nvmOk) s = Sys2Proof.Machine.execEnvmRefresh m corrected ecc nvmOk s := rfl
theorem exec_persistRead (m : Fin 8) (s : State) : exec (.persistRead m) s = Sys2Proof.Machine.execPersistRead m s := rfl
theorem exec_persistClear (m : Fin 8) (s : State) : exec (.persistClear m) s = Sys2Proof.Machine.execPersistClear m s := rfl
theorem exec_handover (m : Fin 8) (late : List (Fin 119)) (s : State) : exec (.handover m late) s = Sys2Proof.Machine.execHandover m late s := rfl
theorem exec_innerRestart (m : Fin 8) (s : State) : exec (.innerRestart m) s = Sys2Proof.Machine.execInnerRestart m s := rfl
theorem exec_resetReq (m : Fin 8) (s : State) : exec (.resetReq m) s = Sys2Proof.Machine.execResetReq m s := rfl
theorem exec_stRun (m : Fin 8) (flaky bad : List Nat) (ok : Bool) (sig : Nat) (s : State) : exec (.stRun m flaky bad ok sig) s = Sys2Proof.Machine.execStRun m flaky bad ok sig s := rfl
theorem exec_scanEnable (m : Fin 8) (s : State) : exec (.scanEnable m) s = Sys2Proof.Machine.execScanEnable m s := rfl
theorem exec_keyWrap (m : Fin 8) (s : State) : exec (.keyWrap m) s = Sys2Proof.Machine.execKeyWrap m s := rfl
theorem exec_keyUnwrap (m : Fin 8) (s : State) : exec (.keyUnwrap m) s = Sys2Proof.Machine.execKeyUnwrap m s := rfl
theorem exec_rng (m : Fin 8) (bytes : List Nat) (s : State) : exec (.rng m bytes) s = Sys2Proof.Machine.execRng m bytes s := rfl
theorem exec_xspiInit (m : Fin 8) (found : Option (Fin 4294967296 × Fin 4294967296)) (s : State) : exec (.xspiInit m found) s = Sys2Proof.Machine.execXspiInit m found s := rfl
theorem exec_xspiRead (m : Fin 8) (data : Option (List Nat)) (s : State) : exec (.xspiRead m data) s = Sys2Proof.Machine.execXspiRead m data s := rfl
theorem exec_xspiProgram (m : Fin 8) (ok : Bool) (s : State) : exec (.xspiProgram m ok) s = Sys2Proof.Machine.execXspiProgram m ok s := rfl
theorem exec_xspiErase (m : Fin 8) (ok : Bool) (s : State) : exec (.xspiErase m ok) s = Sys2Proof.Machine.execXspiErase m ok s := rfl
theorem exec_xspiEraseDone (s : State) : exec .xspiEraseDone s = Sys2Proof.Machine.execXspiEraseDone s := rfl
theorem exec_secureBoot (bad : List Nat) (us : Nat) (s : State) : exec (.secureBoot bad us) s = Sys2Proof.Machine.execSecureBoot bad us s := rfl
theorem exec_vbatValid (s : State) : exec .vbatValid s = Sys2Proof.Machine.execVbatValid s := rfl
theorem exec_vbatLoss (s : State) : exec .vbatLoss s = Sys2Proof.Machine.execVbatLoss s := rfl
theorem exec_vbatLow (v : Fin 256) (s : State) : exec (.vbatLow v) s = Sys2Proof.Machine.execVbatLow v s := rfl
theorem exec_vbatHigh (v : Fin 256) (s : State) : exec (.vbatHigh v) s = Sys2Proof.Machine.execVbatHigh v s := rfl
theorem exec_vbatNormal (v : Fin 256) (s : State) : exec (.vbatNormal v) s = Sys2Proof.Machine.execVbatNormal v s := rfl
theorem exec_domainOff (d : Fin 24) (s : State) : exec (.domainOff d) s = Sys2Proof.Machine.execDomainOff d s := rfl
theorem exec_domainOn (d : Fin 24) (failed : List (Fin 177)) (cals : List (Nat × Nat × Nat)) (s : State) : exec (.domainOn d failed cals) s = Sys2Proof.Machine.execDomainOn d failed cals s := rfl
theorem exec_vcoreThermalStep (tj : Int) (s : State) : exec (.vcoreThermalStep tj) s = Sys2Proof.Machine.execVcoreThermalStep tj s := rfl
theorem exec_backupToVbak (s : State) : exec .backupToVbak s = Sys2Proof.Machine.execBackupToVbak s := rfl
theorem exec_backupToVbat (s : State) : exec .backupToVbat s = Sys2Proof.Machine.execBackupToVbat s := rfl
theorem exec_backupContinuityLoss (mv : Nat) (s : State) : exec (.backupContinuityLoss mv) s = Sys2Proof.Machine.execBackupContinuityLoss mv s := rfl
theorem exec_backupPor (s : State) : exec .backupPor s = Sys2Proof.Machine.execBackupPor s := rfl
theorem exec_backupGtbRecord (mv : Nat) (crcOk : Bool) (s : State) : exec (.backupGtbRecord mv crcOk) s = Sys2Proof.Machine.execBackupGtbRecord mv crcOk s := rfl
theorem exec_powerOnReset (src : Fin 16) (s : State) : exec (.powerOnReset src) s = Sys2Proof.Machine.execPowerOnReset src s := rfl
theorem exec_vddCoreCollapse (s : State) : exec .vddCoreCollapse s = Sys2Proof.Machine.execVddCoreCollapse s := rfl
theorem exec_coldReset (src : Fin 16) (s : State) : exec (.coldReset src) s = Sys2Proof.Machine.execColdReset src s := rfl
theorem exec_warmReset (src : Fin 16) (s : State) : exec (.warmReset src) s = Sys2Proof.Machine.execWarmReset src s := rfl
theorem exec_resetPinAssert (s : State) : exec .resetPinAssert s = Sys2Proof.Machine.execResetPinAssert s := rfl
theorem exec_resetPinRelease (s : State) : exec .resetPinRelease s = Sys2Proof.Machine.execResetPinRelease s := rfl
theorem exec_blockReset (s : State) : exec .blockReset s = Sys2Proof.Machine.execBlockReset s := rfl
theorem exec_blockIdleReached (s : State) : exec .blockIdleReached s = Sys2Proof.Machine.execBlockIdleReached s := rfl
theorem exec_blockIdleTimeout (s : State) : exec .blockIdleTimeout s = Sys2Proof.Machine.execBlockIdleTimeout s := rfl
theorem exec_calibrationDone (item : Option (Fin 177)) (ok : Bool) (cal : Nat × Nat) (s : State) : exec (.calibrationDone item ok cal) s = Sys2Proof.Machine.execCalibrationDone item ok cal s := rfl
theorem exec_canReady (t : Nat) (s : State) : exec (.canReady t) s = Sys2Proof.Machine.execCanReady t s := rfl
theorem exec_fullyReady (t : Nat) (peer : Bool) (s : State) : exec (.fullyReady t peer) s = Sys2Proof.Machine.execFullyReady t peer s := rfl
theorem exec_steConditionCheck (rcOk : Bool) (s : State) : exec (.steConditionCheck rcOk) s = Sys2Proof.Machine.execSteConditionCheck rcOk s := rfl
theorem exec_steSliceStart (u : Fin 58) (s : State) : exec (.steSliceStart u) s = Sys2Proof.Machine.execSteSliceStart u s := rfl
theorem exec_steSliceEnd (u : Fin 58) (ok : Bool) (s : State) : exec (.steSliceEnd u ok) s = Sys2Proof.Machine.execSteSliceEnd u ok s := rfl
theorem exec_powerupTestDone (item : Fin 179) (e : TestEnd) (s : State) : exec (.powerupTestDone item e) s = Sys2Proof.Machine.execPowerupTestDone item e s := rfl
theorem exec_externalTripBallChange (i : Fin 4) (level : Bool) (s : State) : exec (.externalTripBallChange i level) s = Sys2Proof.Machine.execExternalTripBallChange i level s := rfl
theorem exec_sdfFastTripRelease (m : Fin 4) (levels : List (Bool × Bool)) (parity : Bool × Bool) (s : State) : exec (.sdfFastTripRelease m levels parity) s = Sys2Proof.Machine.execSdfFastTripRelease m levels parity s := rfl
theorem exec_sdfClockReturn (m : Fin 4) (s : State) : exec (.sdfClockReturn m) s = Sys2Proof.Machine.execSdfClockReturn m s := rfl
theorem exec_canRxError (c : Fin 16) (lec : Fin 7) (data : Bool) (inc : Fin 9) (s : State) : exec (.canRxError c lec data inc) s = Sys2Proof.Machine.execCanRxError c lec data inc s := rfl
theorem exec_canProtocolException (c : Fin 16) (s : State) : exec (.canProtocolException c) s = Sys2Proof.Machine.execCanProtocolException c s := rfl
theorem exec_canIntegrationDone (c : Fin 16) (s : State) : exec (.canIntegrationDone c) s = Sys2Proof.Machine.execCanIntegrationDone c s := rfl
theorem exec_canBusReleaseEnd (c : Fin 16) (s : State) : exec (.canBusReleaseEnd c) s = Sys2Proof.Machine.execCanBusReleaseEnd c s := rfl
theorem exec_linTxdTimeout (l : Fin 8) (s : State) : exec (.linTxdTimeout l) s = Sys2Proof.Machine.execLinTxdTimeout l s := rfl
theorem exec_vbakLow (v : Fin 256) (s : State) : exec (.vbakLow v) s = Sys2Proof.Machine.execVbakLow v s := rfl

end Sys2Proof.Machine
end

