-- ==== Sys2Proof/Laws/Fabric.lean ====
section
/-! SUPPORT. Laws of the fabric: an admitted access to a register reaches it. -/

namespace Sys2Proof.Machine

open Sys2Proof

/-- A register write that is admitted reaches the register. -/
theorem fabDo_regWrite (s : State) (r : Req) (a size v : Nat) (h : s.regOpen r .write a size = true) :
    s.fabDo r none .write a size v .clean = ((s.regFabWrite r none a size v).1, if (s.regFabWrite r none a size v).2 then .data 0 else .error) := by
  simp only [State.regOpen, Bool.and_eq_true, Option.isNone_iff_eq_none] at h
  obtain ⟨⟨⟨⟨⟨h1, h2⟩, h3⟩, h4⟩, h5⟩, h6⟩ := h
  have w2 : within a 0x4000_0000 0x2100_0000 = true := by
    simp only [within, Bool.and_eq_true, decide_eq_true_eq] at h2 ⊢; omega
  have n : ¬ (0x80_0000_0000 ≤ a) ∧ ¬ (0x6000_0000 ≤ a) := by
    simp only [within, Bool.and_eq_true, decide_eq_true_eq] at h2; omega
  simp [State.fabDo, State.regSpace, h5, h6, w2, n.1, n.2, h3]

/-- A register read that is admitted reaches the register. -/
theorem fabDo_regRead (s : State) (r : Req) (a size v : Nat) (h : s.regOpen r .read a size = true) :
    s.fabDo r none .read a size v .clean = ((s.regFabRead r none a size).1, match (s.regFabRead r none a size).2 with | some d => .data d | none => .error) := by
  simp only [State.regOpen, Bool.and_eq_true, Option.isNone_iff_eq_none] at h
  obtain ⟨⟨⟨⟨⟨h1, h2⟩, h3⟩, h4⟩, h5⟩, h6⟩ := h
  have w2 : within a 0x4000_0000 0x2100_0000 = true := by
    simp only [within, Bool.and_eq_true, decide_eq_true_eq] at h2 ⊢; omega
  have n : ¬ (0x80_0000_0000 ≤ a) ∧ ¬ (0x6000_0000 ≤ a) := by
    simp only [within, Bool.and_eq_true, decide_eq_true_eq] at h2; omega
  cases hz : (s.regFabRead r none a size).2 <;> simp [State.fabDo, State.regSpace, h5, h6, w2, n.1, n.2, h3, hz]

/-- A write of 32 bits to a plain register. -/
theorem regFabWrite_plain (s : State) (r : Req) (a v : Nat) (h : plainReg s.part a = true) :
    s.regFabWrite r none a 4 v = ((s.mirrored a (v % 2 ^ 32)).write4 blockWrite a (v % 2 ^ 32), true) := by
  simp only [plainReg, Bool.and_eq_true, Bool.not_eq_true', Option.isNone_iff_eq_none, Bool.and_eq_false_iff] at h
  obtain ⟨⟨⟨⟨⟨⟨⟨⟨h1, h2⟩, h3⟩, h4⟩, h5⟩, h6⟩, h7⟩, h8⟩, h9⟩ := h
  have h5' : (within a 0x4200_0000 0x2800 && a % 0x100 == 0) = false := by
    rcases h5 with h5 | h5 <;> simp [h5]
    all_goals simp_all
  simp only [State.regFabWrite, State.word, h2, h3, h4, h5', h6, h8, h9]
  simp

/-- A read of a plain register. -/
theorem regFabRead_plain (s : State) (r : Req) (a size : Nat) (h : plainReg s.part a = true) :
    s.regFabRead r none a size = ((s.regRead blockRead r.id (r.debug || r.id == 9) a size).2, some (s.regRead blockRead r.id (r.debug || r.id == 9) a size).1) := by
  simp only [plainReg, Bool.and_eq_true, Bool.not_eq_true', Option.isNone_iff_eq_none, Bool.and_eq_false_iff] at h
  obtain ⟨⟨⟨⟨⟨⟨⟨⟨h1, h2⟩, h3⟩, h4⟩, h5⟩, h6⟩, h7⟩, h8⟩, h9⟩ := h
  simp only [State.regFabRead, State.regFabRead0, h2, h3, h7, h8]
  simp

end Sys2Proof.Machine
end

