-- ==== Sys2Proof/Laws/Rv.lean ====
section
/-! SUPPORT. Laws of the application cores: what one step of an unpaired core does. -/

set_option linter.unusedSimpArgs false

namespace Sys2Proof.Machine

open Sys2Proof

/-- A step of an unpaired core whose instruction is fetched runs that instruction, where it is the one that the command wants. -/
theorem State.rvStep_fetched {c : Nat} {o : RvObs} {s t : State} {x : RvWord} {want : Nat → Bool} (h : rvFetched c o s = some (x, t))
    (hw : want (x.word.getD 0) = true) : s.rvStep c o want = t.rvOne c x o ∧ t.joined c = false := by
  unfold rvFetched at h
  split at h
  · cases h
  · rename_i hc
    simp only [Bool.or_eq_true, Bool.not_eq_true', not_or, Bool.not_eq_true, Bool.not_eq_false] at hc
    split at h
    · rename_i y u hy
      split at h
      · cases h
      · rename_i hp
        simp only [Option.some.injEq, Prod.mk.injEq] at h
        obtain ⟨rfl, rfl⟩ := h
        simp only [Bool.or_eq_true, bne_iff_ne, ne_eq, not_or, Decidable.not_not, Bool.not_eq_true] at hp
        refine ⟨?_, hp.2⟩
        simp [State.rvStep, hc.1, hc.2, hy, hw, hp.1]
    · cases h

/-- A fetched instruction of an unpaired core that runs to its end retires. -/
theorem State.rvOne_ran {c : Nat} {o : RvObs} {t u : State} {x : RvWord} {npc : Nat} (h : rvRan c x o t = some (npc, u)) :
    t.rvOne c x o = ((if x.word = some 0x30200073 then (u.retire c npc o).mretAfter c else u.retire c npc o)).stepped c ∨ x.word.any isCkpt = true := by
  unfold rvRan at h
  split at h
  · rename_i n v hv
    split at h
    · cases h
    · rename_i hj
      simp only [Option.some.injEq, Prod.mk.injEq] at h
      obtain ⟨rfl, rfl⟩ := h
      simp only [Bool.not_eq_true] at hj
      by_cases hk : x.word.any isCkpt = true
      · exact .inr hk
      · left
        simp only [Bool.not_eq_true] at hk
        simp [State.rvOne, hv, State.trapMissed, hj, hk]
  · cases h

/-- CKPT on an unpaired core only retires. -/
theorem State.rvOne_ckpt {c : Nat} {o : RvObs} {t u : State} {x : RvWord} {npc : Nat} (h : rvRan c x o t = some (npc, u)) (hk : x.word.any isCkpt = true) :
    t.rvOne c x o = (u.retire c npc o).stepped c := by
  unfold rvRan at h
  split at h
  · rename_i n v hv
    split at h
    · cases h
    · rename_i hj
      simp only [Option.some.injEq, Prod.mk.injEq] at h
      obtain ⟨rfl, rfl⟩ := h
      simp only [Bool.not_eq_true] at hj
      have hm : ¬ x.word = some 0x30200073 := by
        intro e
        rw [e] at hk
        exact absurd hk (by decide)
      have hr : (v.retire c n o).joined c = v.joined c := rfl
      simp [State.rvOne, hv, State.trapMissed, hj, hm, hr]
  · cases h

/-- A synchronous trap of a fetched instruction of an unpaired core is taken. -/
theorem State.rvOne_trap {c : Nat} {o : RvObs} {t u : State} {x : RvWord} {tr : Trap} (h : rvRun c x o t = .error (.trap tr) u) (hj : u.joined c = false) :
    t.rvOne c x o = (u.takeTrap c (tr.asFetched x.raw)).stepped c := by
  simp [State.rvOne, h, State.trapStep, hj]

/-- A trap of a fetched instruction as `rvTraps` gives it. -/
theorem State.rvOne_traps {c : Nat} {o : RvObs} {t u : State} {x : RvWord} {tr : Trap} (h : rvTraps c x o t = some (tr, u)) :
    t.rvOne c x o = (u.takeTrap c (tr.asFetched x.raw)).stepped c := by
  unfold rvTraps at h
  split at h
  · rename_i r v hv
    split at h
    · cases h
    · rename_i hj
      simp only [Option.some.injEq, Prod.mk.injEq] at h
      obtain ⟨rfl, rfl⟩ := h
      simp only [Bool.not_eq_true] at hj
      exact State.rvOne_trap hv hj
  · cases h

/-- What RGN_WSTAT shows changes no pair. -/
@[simp] theorem State.joined_wstat (s : State) (c d : Nat) : (s.wstat c).joined d = s.joined d := by
  have k : ∀ v, (s.set (RGN_WSTAT_STATE (s.hartOf c)) v).joined d = s.joined d := by
    intro v
    simp only [State.joined, State.on]
    rw [State.get_set_ne]
    simp only [fldKey, PAIR_CFG_SPLIT, RGN_WSTAT_STATE, kindCode]
    omega
  simp only [State.wstat]
  split
  · rfl
  · split
    · rfl
    · exact k _

@[simp] theorem State.joined_coreSet (s : State) (c d : Nat) (g : Core → Core) : (s.coreSet c g).joined d = s.joined d := rfl

/-- Two changes of a core that agree on it are one change. -/
theorem State.coreSet_congr (s : State) (c : Nat) (f g : Core → Core) (h : f (s.core.get c) = g (s.core.get c)) : s.coreSet c f = s.coreSet c g := by
  simp only [State.coreSet, Tab.upd, h]

/-- MRET in M-mode. -/
theorem mretInstr_machine (t : State) (c w : Nat) (h3 : (t.core.get c).priv = 3) :
    mretInstr c w t = .ok ((t.core.get c).cs 0x341) ((t.coreSet c Core.afterMret).wstat c) := by
  have e : mretInstr c w t = .ok ((t.core.get c).cs 0x341) ((t.coreSet c (fun k => { (k.setCs 0x300 (if bf ((t.core.get c).cs 0x300) 11 2 = 3
        then putBf (putBf (putBf (putBf ((t.core.get c).cs 0x300) 3 1 (bf ((t.core.get c).cs 0x300) 7 1)) 7 1 1) 11 2 0) 39 1 0
        else putBf (putBf (putBf (putBf (putBf ((t.core.get c).cs 0x300) 3 1 (bf ((t.core.get c).cs 0x300) 7 1)) 7 1 1) 11 2 0) 39 1 0) 17 1 0))
        with priv := bf ((t.core.get c).cs 0x300) 11 2, virt := bitOf ((t.core.get c).cs 0x300) 39 && bf ((t.core.get c).cs 0x300) 11 2 != 3 })).wstat c) := by
    simp [mretInstr, h3, rvCore, bind, EStateM.bind, get, getThe, MonadStateOf.get, EStateM.get, pure, EStateM.pure, rvSet, modify, modifyGet,
      MonadStateOf.modifyGet, EStateM.modifyGet]
  rw [e]
  exact congrArg (fun u => EStateM.Result.ok _ (State.wstat u c)) (State.coreSet_congr _ _ _ _ (by simp only [Core.afterMret]))

/-- A write of a field that bring-up does not fill splits and joins no pair. -/
theorem State.joined_set (s : State) (f : Fld) (v d : Nat) (h : f.kind ≠ .cfg) : (s.set f v).joined d = s.joined d := by
  simp only [State.joined, State.on]
  rw [State.get_set_ne]
  simp only [fldKey, PAIR_CFG_SPLIT]
  intro e
  apply h
  have m := congrArg (· % 8) e
  revert m
  cases f.kind <;> simp [kindCode]

/-- A CSR written splits and joins no pair. -/
theorem State.joined_csrWrite (s : State) (c n v d : Nat) : (s.csrWrite c n v).joined d = s.joined d := by
  unfold State.csrWrite
  split
  · exact State.joined_set _ _ _ _ (by simp [mhjvworld_CUR])
  · rfl
  · rfl
  · split
    · exact (State.joined_coreSet _ _ _ _).trans (State.joined_set _ _ _ _ (by simp [mhjvctl_NOSPEC]))
    · exact State.joined_set _ _ _ _ (by simp [mhjvctl_NOSPEC])
  · exact State.joined_set _ _ _ _ (by simp [mhjvtcmp_CMP])
  · exact State.joined_set _ _ _ _ (by simp [shjvtcmp_CMP])
  · split
    · exact State.joined_set _ _ _ _ (by simp [mhjvberr_VALID])
    · rfl
  · rfl

/-! ### What the pieces of an instruction do on a state -/

/-- A sequence runs its second part where the first ends. -/
theorem rv_bind {α β : Type} (x : Rv α) (f : α → Rv β) (s : State) :
    (x >>= f) s = match x s with | .ok a t => f a t | .error e t => .error e t := by
  simp only [bind, EStateM.bind]
  cases x s <;> rfl
/-- A mapped result. -/
theorem rv_map {α β : Type} (x : Rv α) (f : α → β) (s : State) : (f <$> x) s = match x s with | .ok a t => .ok (f a) t | .error e t => .error e t := by
  simp only [Functor.map, EStateM.map]
  cases x s <;> rfl
/-- A result alone changes nothing. -/
theorem rv_pure {α : Type} (a : α) (s : State) : (pure a : Rv α) s = .ok a s := rfl
/-- The state as it is. -/
theorem rv_get (s : State) : (get : Rv State) s = .ok s s := rfl
/-- The state replaced. -/
theorem rv_set (t s : State) : (set t : Rv PUnit) s = .ok ⟨⟩ t := rfl
/-- An instruction that ends early. -/
theorem rv_throw {α : Type} (e : Stop) (s : State) : (throw e : Rv α) s = .error e s := rfl
/-- A change of the state. -/
theorem rv_modify (f : State → State) (s : State) : (modify f : Rv PUnit) s = .ok ⟨⟩ (f s) := rfl
/-- A change of the state with its result. -/
theorem rv_modifyGet {α : Type} (f : State → α × State) (s : State) : (modifyGet f : Rv α) s = .ok (f s).1 (f s).2 := rfl
/-- The state of a core. -/
theorem rvCore_run (c : Nat) (s : State) : rvCore c s = .ok (s.core.get c) s := rfl
/-- A change of a core. -/
theorem rvSet_run (c : Nat) (g : Core → Core) (s : State) : rvSet c g s = .ok ⟨⟩ (s.coreSet c g) := rfl
/-- A choice between two. -/
theorem rv_ite {α : Type} (p : Prop) [Decidable p] (x y : Rv α) (s : State) : (if p then x else y) s = if p then x s else y s := by split <;> rfl

/-- An access of a core to cacheable memory that its checker admits is served there. -/
theorem State.coreFab_cached (s : State) (c a n : Nat) (acc : AccKind) (hr : acc = .read ∨ acc = .fetch) (h1 : (attrOf a).cached = true)
    (h2 : s.portReach (s.coreReq c) a = true) (h3 : s.checkReq a (s.coreReq c) acc = none) :
    s.coreFab c acc a n 0 .clean = (s, .data (s.load a n)) := by
  have hb : a < 0x0200_0000 ∨ within a 0x1000_0000 0x140_0000 = true := by
    unfold attrOf at h1
    split at h1
    · exact .inl ‹_›
    · split at h1
      · exact .inr ‹_›
      · split at h1
        · simp [Attr.cached] at h1
        · split at h1 <;> simp [Attr.cached] at h1
  have hc : ¬ (0x80_0000_0000 ≤ a) ∧ within a 0x4000_0000 0x2100_0000 = false ∧ within a 0x2000_0000 0x30_0000 = false ∧ within a 0x0800_0000 0x4_0000 = false := by
    simp only [within, Bool.and_eq_true, decide_eq_true_eq, Bool.and_eq_false_iff, decide_eq_false_iff_not] at hb ⊢
    omega
  obtain ⟨n1, n2, n3, n4⟩ := hc
  have e : s.fabDo (s.coreReq c) none acc a n 0 .clean = (s, .data (s.load a n)) := by
    rcases hr with rfl | rfl <;> simp [State.fabDo, h2, h3, n1, n2, n3, n4, State.ramAccess, State.eccSee]
  simp [State.coreFab, e]

/-- Without translation a virtual address is the physical one. -/
theorem translate_bare (s : State) (c : Nat) (v : Va) (h1 : v.priv = (s.core.get c).priv) (h2 : v.virt = (s.core.get c).virt)
    (h : (s.core.get c).bare = true) : translate c v s = .ok v.va s := by
  simp only [Core.bare, Bool.or_eq_true, beq_iff_eq, Bool.and_eq_true, Bool.not_eq_true'] at h
  by_cases h3 : (s.core.get c).priv = 3
  · simp [translate, rv_bind, rv_map, rv_pure, rv_get, rvCore_run, rv_ite, rv_modifyGet, h1, h3]
  · rcases h with h | ⟨hv, hs⟩
    · exact absurd h h3
    · have hs' : (s.core.get c).cs 384 < 1152921504606846976 := by omega
      simp [translate, rv_bind, rv_map, rv_pure, rv_get, rvCore_run, rv_ite, rv_modifyGet, h1, h2, h3, hv, hs']

/-- An access that no check turns away is located. -/
theorem located_at (s : State) (c : Nat) (v : Va) (acc : AccKind) (h1 : v.priv = (s.core.get c).priv) (h2 : v.virt = (s.core.get c).virt)
    (hx : v.exec = false) (h : (s.core.get c).bare = true) (hr : s.reaches c v.m acc v.va = true) (hw : acc = .write ∨ acc = .amo → attrOf v.va = .sram) :
    located c v acc s = .ok (v.va, attrOf v.va) s := by
  have ht := translate_bare s c v h1 h2 h
  simp only [State.reaches, Bool.and_eq_true, Bool.not_eq_true', Option.isNone_iff_eq_none] at hr
  obtain ⟨⟨⟨⟨g1, g2⟩, g3⟩, g4⟩, g5⟩ := hr
  have hn : attrOf v.va ≠ .none := by
    intro e; rw [e] at g2; simp [Attr.cached] at g2
  rw [← h1] at g1
  by_cases ha : acc = .write ∨ acc = .amo
  · have e := hw ha
    simp [located, rv_bind, rv_map, rv_pure, rv_get, rvCore_run, rv_ite, rv_modifyGet, ht, g1, hx, e, g3]
  · have e1 : acc ≠ .write := fun e => ha (.inl e)
    have e2 : acc ≠ .amo := fun e => ha (.inr e)
    simp [located, rv_bind, rv_map, rv_pure, rv_get, rvCore_run, rv_ite, rv_modifyGet, ht, g1, hx, hn, e1, e2, g2, g3]

/-- A halfword that may be fetched is read. -/
theorem fetchHalf_at (s : State) (c a : Nat) (o : RvObs) (h : s.reaches c .fetch .fetch a = true) (ha : a < 2 ^ 64)
    (hp : (s.core.get c).bare = true) (h1 : o.fetchBad = false) (h2 : o.fetchParity = false) :
    fetchHalf c a o s = .ok (s.load a 2) s := by
  have hm : a % 18446744073709551616 = a := Nat.mod_eq_of_lt ha
  have hl := located_at s c { m := .fetch, va := a, priv := (s.core.get c).priv, virt := (s.core.get c).virt } .fetch rfl rfl rfl hp h (by simp)
  simp only [State.reaches, Bool.and_eq_true, Bool.not_eq_true', Option.isNone_iff_eq_none] at h
  obtain ⟨⟨⟨⟨g1, g2⟩, g3⟩, g4⟩, g5⟩ := h
  have hf := State.coreFab_cached s c a 2 .fetch (.inr rfl) g2 g4 g5
  simp [fetchHalf, rv_bind, rv_map, rv_pure, rv_get, rvCore_run, rv_ite, rv_modifyGet, hm, hl, g2, h1, h2, fab, hf, Va.seen]

/-- A step of a core that executes `w` next runs `w`. -/
theorem State.rvStep_at {c w : Nat} {o : RvObs} {s : State} {want : Nat → Bool} (h : s.rvAt c w o = true) (hw : want w = true) :
    s.rvStep c o want = s.rvOne c ⟨w, some w, 4⟩ o ∧
      (s.joined c = false ∨ (s.isLead c = true ∧ s.jNext c = none ∧ (s.pst (c / 2) = 1 ∨ s.pst (c / 2) = 4))) := by
  simp only [State.rvAt, Bool.and_eq_true, Bool.or_eq_true, Bool.not_eq_true', beq_iff_eq, decide_eq_true_eq, Option.isNone_iff_eq_none] at h
  obtain ⟨⟨⟨⟨⟨⟨⟨⟨⟨⟨⟨g1, g2⟩, g3⟩, g4⟩, g5⟩, g6⟩, g7⟩, g8⟩, g9⟩, g10⟩, g11⟩, g12⟩ := h
  have a1 := fetchHalf_at s c (s.core.get c).pc o g7 (by omega) g4 g9 g10
  have a2 := fetchHalf_at s c ((s.core.get c).pc + 2) o g8 g6 g4 g9 g10
  have a3 : s.load (s.core.get c).pc 2 % 4 = 3 := by omega
  have a5 : s.load (s.core.get c).pc 2 + s.load ((s.core.get c).pc + 2) 2 * 65536 = w := g11
  have a4 : (List.range 4).find? (fun i => (s.core.get c).trigHit i .fetch (s.core.get c).pc) = none := by
    simp only [Core.unwatched, Bool.not_eq_true'] at g5
    rw [List.find?_eq_none]
    intro i hi
    simpa using List.any_eq_false.mp g5 i hi
  have f : rvWord c o s = .ok ⟨w, some w, 4⟩ s := by
    simp [rvWord, fetchWord, triggers, rv_bind, rv_map, rv_pure, rv_get, rvCore_run, rv_ite, rv_modifyGet, g3, a4, a1, a2, a3, a5]
  rcases g1 with g1 | ⟨⟨⟨⟨l1, lp⟩, l2⟩, l3⟩, l4⟩
  · exact ⟨by simp [State.rvStep, g1, g2, f, hw, g3], .inl g1⟩
  · refine ⟨?_, .inr ⟨l1, l2, lp⟩⟩
    have d : s.dbgCatch 256 c = s := by
      rw [show (256 : Nat) = 255 + 1 from rfl]
      simp [State.dbgCatch, l3]
    have r : s.rvInputs 32768 c = (s, false) := by
      rw [show (32768 : Nat) = 32767 + 1 from rfl]
      simp only [State.rvInputs, l2]
    cases hj : s.joined c <;> simp [State.rvStep, hj, d, g2, l2, l4, r, f, hw, g3]

/-- An instruction that runs to its end on an unpaired core or a lead retires. -/
theorem State.rvOne_ok {c : Nat} {o : RvObs} {t u : State} {w npc : Nat} (h : rvExec c w w (t.core.get c).pc (((t.core.get c).pc + 4) % 2 ^ 64) o t = .ok npc u)
    (hj : u.joined c = false ∨ u.isLead c = true) (n1 : w ≠ 0x30200073) (n2 : isCkpt w = false) :
    t.rvOne c ⟨w, some w, 4⟩ o = (u.retire c npc o).stepped c := by
  have m : u.trapMissed c = false := by rcases hj with hj | hj <;> simp [State.trapMissed, hj]
  have r : rvRun c ⟨w, some w, 4⟩ o t = .ok npc u := by simpa [rvRun, rv_bind, rv_map, rv_pure, rv_get, rvCore_run, rv_ite, rv_modifyGet] using h
  simp [State.rvOne, r, m, n1, n2]

/-- What an unpaired core, or a lead that has used its journal up, takes as agreed is what it finds. -/
theorem agreed_at {c kind size addr : Nat} {fresh : Rv (Bool × Nat)} {s : State} {v : Nat}
    (h : s.joined c = false ∨ (s.isLead c = true ∧ s.jNext c = none ∧ (s.pst (c / 2) = 1 ∨ s.pst (c / 2) = 4))) (hf : fresh s = .ok (false, v) s) :
    agreed c kind size addr fresh s = .ok (false, v) (s.agreedTo c kind size addr v) := by
  cases hj : s.joined c
  · simp [agreed, rv_bind, rv_map, rv_pure, rv_get, rvCore_run, rv_ite, rv_modifyGet, hj, hf, State.agreedTo]
  · rcases h with h | ⟨h1, h2, h3⟩
    · rw [hj] at h; exact absurd h (by decide)
    · rcases h3 with h3 | h3 <;> simp [agreed, rv_bind, rv_map, rv_pure, rv_get, rvCore_run, rv_ite, rv_modifyGet, rv_modify, hj, h1, h2, h3, hf, State.agreedTo]

/-- The instructions of the custom-0 opcode, run. -/
theorem rvExec_custom {c w pc npc : Nat} {o : RvObs} {s u : State} (hw : wOp w = 0x0B) (h : customInstr c w o s = .ok () u) : rvExec c w w pc npc o s = .ok npc u := by
  simp [rvExec, rv_bind, rv_map, rvCore_run, hw, h, rv_pure]

/-- Where the core stands after a change of core `c` that leaves its pair alone. -/
theorem lead_coreSet {s : State} {c : Nat} {P : Prop} (g : Core → Core) (h : s.joined c = false ∨ (s.isLead c = true ∧ P)) :
    (s.coreSet c g).joined c = false ∨ (s.coreSet c g).isLead c = true := h.imp id (·.1)

/-- The address of a data access that no check turns away. -/
theorem dataAt_run {s : State} {c n a : Nat} {m : Mem} {acc : AccKind} {o : RvObs} (h : s.dataAt c m acc a n o = true) :
    plainVa c m a o s = .ok { m := m, va := a, priv := (s.core.get c).priv, virt := (s.core.get c).virt } s ∧ triggers c m a s = .ok ⟨⟩ s ∧
      located c { m := m, va := a, priv := (s.core.get c).priv, virt := (s.core.get c).virt } acc s = .ok (a, .sram) s ∧ a % n = 0 ∧
      s.portReach (s.coreReq c) a = true ∧ s.checkReq a (s.coreReq c) acc = none ∧ attrOf a = .sram ∧ o.dataBad = false ∧
      (s.core.get c).pmpOk m (s.core.get c).priv a = true ∧ translate c { m := m, va := a, priv := (s.core.get c).priv, virt := (s.core.get c).virt } s = .ok a s := by
  simp only [State.dataAt, Bool.and_eq_true, Bool.not_eq_true', beq_iff_eq] at h
  obtain ⟨⟨⟨⟨⟨⟨⟨g1, g2⟩, g3⟩, g4⟩, g5⟩, g6⟩, g7⟩, g8⟩ := h
  have hl := located_at s c { m := m, va := a, priv := (s.core.get c).priv, virt := (s.core.get c).virt } acc rfl rfl rfl g2 g6 (fun _ => g5)
  have ht := translate_bare s c { m := m, va := a, priv := (s.core.get c).priv, virt := (s.core.get c).virt } rfl rfl g2
  simp only [State.reaches, Bool.and_eq_true, Bool.not_eq_true', Option.isNone_iff_eq_none] at g6
  have e : (s.core.get c).dataMode = ((s.core.get c).priv, (s.core.get c).virt) := by
    have n : ¬ ((s.core.get c).priv = 3 ∧ bitOf ((s.core.get c).cs 0x300) 17 = true) := by
      rintro ⟨p, q⟩
      rw [p, q] at g1
      exact absurd g1 (by decide)
    simp only [Core.dataMode, if_neg n]
  refine ⟨by simp [plainVa, rv_bind, rv_map, rv_pure, rv_get, rvCore_run, rv_ite, rv_modifyGet, e, g8], ?_, by rw [hl, g5], g4, g6.1.2, g6.2, g5, g7, g6.1.1.1.1, ht⟩
  have a4 : (List.range 4).find? (fun i => (s.core.get c).trigHit i m a) = none := by
    simp only [Core.unwatched, Bool.not_eq_true'] at g3
    rw [List.find?_eq_none]
    intro i hi
    simpa using List.any_eq_false.mp g3 i hi
  simp only [triggers, rv_bind, rv_map, rv_pure, rv_get, rvCore_run, rv_ite, rv_modifyGet, a4]
  split <;> rfl

/-- A word of a custom row is no MRET, and none of the two rows that are one word each. -/
theorem custom_word {w : Nat} {f : Nat} (h : wOp w = 0x0B) (h3 : wF3 w = f) (hf : 2 ≤ f) : w ≠ 0x30200073 ∧ isWcall w = false ∧ isCkpt w = false := by
  refine ⟨?_, ?_, ?_⟩
  · intro e; rw [e] at h; revert h; decide
  · cases e : isWcall w
    · rfl
    · simp only [isWcall, beq_iff_eq] at e
      rw [e] at h3
      have : wF3 0x0000000B = 0 := by decide
      omega
  · cases e : isCkpt w
    · rfl
    · simp only [isCkpt, beq_iff_eq] at e
      rw [e] at h3
      have : wF3 0x0000100B = 1 := by decide
      omega

/-- A store of a core to SRAM that its checker admits is done there. -/
theorem State.coreFab_sram_write (s : State) (c a n v : Nat) (h1 : attrOf a = .sram) (h2 : s.portReach (s.coreReq c) a = true)
    (h3 : s.checkReq a (s.coreReq c) .write = none) : s.coreFab c .write a n v .clean = (s.store a n v, .data 0) := by
  have hb : within a 0x1000_0000 0x140_0000 = true := by
    unfold attrOf at h1
    split at h1
    · cases h1
    · split at h1
      · assumption
      · split at h1
        · cases h1
        · split at h1 <;> cases h1
  have hc : ¬ (0x80_0000_0000 ≤ a) ∧ within a 0x4000_0000 0x2100_0000 = false ∧ within a 0x2000_0000 0x30_0000 = false ∧ within a 0x0800_0000 0x4_0000 = false := by
    simp only [within, Bool.and_eq_true, decide_eq_true_eq, Bool.and_eq_false_iff, decide_eq_false_iff_not] at hb ⊢
    omega
  obtain ⟨n1, n2, n3, n4⟩ := hc
  have e : s.fabDo (s.coreReq c) none .write a n v .clean = (s.store a n v, .data 0) := by
    simp [State.fabDo, h2, h3, n1, n2, n3, n4, State.ramAccess, State.eccSee]
  simp [State.coreFab, e]

/-- Bytes stored leave the register file. -/
theorem State.setBytes_regs (l : List Nat) : ∀ (s : State) (a : Nat), (s.setBytes a l).regs = s.regs := by
  induction l with
  | nil => intro s a; rfl
  | cons b r ih => intro s a; exact ih _ _

/-- A store splits and joins no pair. -/
theorem State.joined_store (s : State) (a n v c : Nat) : (s.store a n v).joined c = s.joined c := by
  simp only [State.joined, State.on, State.get, State.store, State.setBytes_regs]

/-- A SYSTEM instruction of a CSR row that completes goes on at the next address. -/
theorem systemAll_csr {c w npc : Nat} {o : RvObs} {s u : State} (h0 : wF3 w ≠ 0) (h4 : wF3 w ≠ 4) (h : csrInstr c w s = .ok ⟨⟩ u) :
    systemAll c w npc o s = .ok npc u := by
  have e : systemAll c w npc o = (do csrInstr c w; return npc) := by
    unfold systemAll
    split
    · exact absurd ‹_› h0
    · exact absurd ‹_› h4
    · rfl
  rw [e]
  simp [rv_bind, rv_map, h, rv_pure]

/-- A claim joins no pair. -/
theorem claim_joined {s : State} {c d : Nat} {i : Bool} (h : s.joined d = false) : (s.claim c i).1.joined d = false := by
  have e : (s.claim c i).1.joined d = s.joined d := by
    simp only [State.claim]
    split
    · split <;> rfl
    · split
      · rfl
      · split <;> rfl
  rw [e, h]

end Sys2Proof.Machine
end

