-- ==== Sys2Proof/Laws/State.lean ====
section
/-! SUPPORT. What the small updates of the state leave alone: one lemma per field and update, so that no proof unfolds a record update. -/

namespace Sys2Proof.Machine

open Sys2Proof

/-! ### set -/

@[simp] theorem State.set_part (s : State) (f : Fld) (v : Nat) : (s.set f v).part = s.part := rfl
@[simp] theorem State.set_held (s : State) (f : Fld) (v : Nat) : (s.set f v).held = s.held := rfl
@[simp] theorem State.set_latch (s : State) (f : Fld) (v : Nat) : (s.set f v).latch = s.latch := rfl
@[simp] theorem State.set_mem (s : State) (f : Fld) (v : Nat) : (s.set f v).mem = s.mem := rfl
@[simp] theorem State.set_gtb (s : State) (f : Fld) (v : Nat) : (s.set f v).gtb = s.gtb := rfl
@[simp] theorem State.set_due (s : State) (f : Fld) (v : Nat) : (s.set f v).due = s.due := rfl
@[simp] theorem State.set_evr (s : State) (f : Fld) (v : Nat) : (s.set f v).evr = s.evr := rfl
@[simp] theorem State.set_conv (s : State) (f : Fld) (v : Nat) : (s.set f v).conv = s.conv := rfl
@[simp] theorem State.set_tg (s : State) (f : Fld) (v : Nat) : (s.set f v).tg = s.tg := rfl
@[simp] theorem State.set_psc (s : State) (f : Fld) (v : Nat) : (s.set f v).psc = s.psc := rfl
@[simp] theorem State.set_esw (s : State) (f : Fld) (v : Nat) : (s.set f v).esw = s.esw := rfl
@[simp] theorem State.set_can (s : State) (f : Fld) (v : Nat) : (s.set f v).can = s.can := rfl
@[simp] theorem State.set_lin (s : State) (f : Fld) (v : Nat) : (s.set f v).lin = s.lin := rfl
@[simp] theorem State.set_crs (s : State) (f : Fld) (v : Nat) : (s.set f v).crs = s.crs := rfl
@[simp] theorem State.set_gw (s : State) (f : Fld) (v : Nat) : (s.set f v).gw = s.gw := rfl
@[simp] theorem State.set_pcie (s : State) (f : Fld) (v : Nat) : (s.set f v).pcie = s.pcie := rfl
@[simp] theorem State.set_core (s : State) (f : Fld) (v : Nat) : (s.set f v).core = s.core := rfl
@[simp] theorem State.set_pair (s : State) (f : Fld) (v : Nat) : (s.set f v).pair = s.pair := rfl
@[simp] theorem State.set_scrub (s : State) (f : Fld) (v : Nat) : (s.set f v).scrub = s.scrub := rfl
@[simp] theorem State.set_vi (s : State) (f : Fld) (v : Nat) : (s.set f v).vi = s.vi := rfl
@[simp] theorem State.set_vimStart (s : State) (f : Fld) (v : Nat) : (s.set f v).vimStart = s.vimStart := rfl
@[simp] theorem State.set_cmp (s : State) (f : Fld) (v : Nat) : (s.set f v).cmp = s.cmp := rfl
@[simp] theorem State.set_pow (s : State) (f : Fld) (v : Nat) : (s.set f v).pow = s.pow := rfl
@[simp] theorem State.set_ste (s : State) (f : Fld) (v : Nat) : (s.set f v).ste = s.ste := rfl
@[simp] theorem State.set_irqInner (s : State) (f : Fld) (v : Nat) : (s.set f v).irqInner = s.irqInner := rfl
@[simp] theorem State.set_irqOuter (s : State) (f : Fld) (v : Nat) : (s.set f v).irqOuter = s.irqOuter := rfl
@[simp] theorem State.set_out (s : State) (f : Fld) (v : Nat) : (s.set f v).out = s.out := rfl
@[simp] theorem State.set_free (s : State) (f : Fld) (v : Nat) : (s.set f v).free = s.free := rfl
@[simp] theorem State.set_pending (s : State) (f : Fld) (v : Nat) : (s.set f v).pending = s.pending := rfl

/-! ### emit -/

@[simp] theorem State.emit_part (s : State) (o : Out) : (s.emit o).part = s.part := rfl
@[simp] theorem State.emit_regs (s : State) (o : Out) : (s.emit o).regs = s.regs := rfl
@[simp] theorem State.emit_held (s : State) (o : Out) : (s.emit o).held = s.held := rfl
@[simp] theorem State.emit_latch (s : State) (o : Out) : (s.emit o).latch = s.latch := rfl
@[simp] theorem State.emit_mem (s : State) (o : Out) : (s.emit o).mem = s.mem := rfl
@[simp] theorem State.emit_gtb (s : State) (o : Out) : (s.emit o).gtb = s.gtb := rfl
@[simp] theorem State.emit_due (s : State) (o : Out) : (s.emit o).due = s.due := rfl
@[simp] theorem State.emit_evr (s : State) (o : Out) : (s.emit o).evr = s.evr := rfl
@[simp] theorem State.emit_conv (s : State) (o : Out) : (s.emit o).conv = s.conv := rfl
@[simp] theorem State.emit_tg (s : State) (o : Out) : (s.emit o).tg = s.tg := rfl
@[simp] theorem State.emit_psc (s : State) (o : Out) : (s.emit o).psc = s.psc := rfl
@[simp] theorem State.emit_esw (s : State) (o : Out) : (s.emit o).esw = s.esw := rfl
@[simp] theorem State.emit_can (s : State) (o : Out) : (s.emit o).can = s.can := rfl
@[simp] theorem State.emit_lin (s : State) (o : Out) : (s.emit o).lin = s.lin := rfl
@[simp] theorem State.emit_crs (s : State) (o : Out) : (s.emit o).crs = s.crs := rfl
@[simp] theorem State.emit_gw (s : State) (o : Out) : (s.emit o).gw = s.gw := rfl
@[simp] theorem State.emit_pcie (s : State) (o : Out) : (s.emit o).pcie = s.pcie := rfl
@[simp] theorem State.emit_core (s : State) (o : Out) : (s.emit o).core = s.core := rfl
@[simp] theorem State.emit_pair (s : State) (o : Out) : (s.emit o).pair = s.pair := rfl
@[simp] theorem State.emit_scrub (s : State) (o : Out) : (s.emit o).scrub = s.scrub := rfl
@[simp] theorem State.emit_vi (s : State) (o : Out) : (s.emit o).vi = s.vi := rfl
@[simp] theorem State.emit_vimStart (s : State) (o : Out) : (s.emit o).vimStart = s.vimStart := rfl
@[simp] theorem State.emit_cmp (s : State) (o : Out) : (s.emit o).cmp = s.cmp := rfl
@[simp] theorem State.emit_pow (s : State) (o : Out) : (s.emit o).pow = s.pow := rfl
@[simp] theorem State.emit_ste (s : State) (o : Out) : (s.emit o).ste = s.ste := rfl
@[simp] theorem State.emit_irqInner (s : State) (o : Out) : (s.emit o).irqInner = s.irqInner := rfl
@[simp] theorem State.emit_irqOuter (s : State) (o : Out) : (s.emit o).irqOuter = s.irqOuter := rfl
@[simp] theorem State.emit_free (s : State) (o : Out) : (s.emit o).free = s.free := rfl
@[simp] theorem State.emit_pending (s : State) (o : Out) : (s.emit o).pending = s.pending := rfl

/-! ### draw -/

@[simp] theorem State.draw_part (s : State) : (s.draw).part = s.part := rfl
@[simp] theorem State.draw_regs (s : State) : (s.draw).regs = s.regs := rfl
@[simp] theorem State.draw_held (s : State) : (s.draw).held = s.held := rfl
@[simp] theorem State.draw_latch (s : State) : (s.draw).latch = s.latch := rfl
@[simp] theorem State.draw_mem (s : State) : (s.draw).mem = s.mem := rfl
@[simp] theorem State.draw_gtb (s : State) : (s.draw).gtb = s.gtb := rfl
@[simp] theorem State.draw_due (s : State) : (s.draw).due = s.due := rfl
@[simp] theorem State.draw_evr (s : State) : (s.draw).evr = s.evr := rfl
@[simp] theorem State.draw_conv (s : State) : (s.draw).conv = s.conv := rfl
@[simp] theorem State.draw_tg (s : State) : (s.draw).tg = s.tg := rfl
@[simp] theorem State.draw_psc (s : State) : (s.draw).psc = s.psc := rfl
@[simp] theorem State.draw_esw (s : State) : (s.draw).esw = s.esw := rfl
@[simp] theorem State.draw_can (s : State) : (s.draw).can = s.can := rfl
@[simp] theorem State.draw_lin (s : State) : (s.draw).lin = s.lin := rfl
@[simp] theorem State.draw_crs (s : State) : (s.draw).crs = s.crs := rfl
@[simp] theorem State.draw_gw (s : State) : (s.draw).gw = s.gw := rfl
@[simp] theorem State.draw_pcie (s : State) : (s.draw).pcie = s.pcie := rfl
@[simp] theorem State.draw_core (s : State) : (s.draw).core = s.core := rfl
@[simp] theorem State.draw_pair (s : State) : (s.draw).pair = s.pair := rfl
@[simp] theorem State.draw_scrub (s : State) : (s.draw).scrub = s.scrub := rfl
@[simp] theorem State.draw_vi (s : State) : (s.draw).vi = s.vi := rfl
@[simp] theorem State.draw_vimStart (s : State) : (s.draw).vimStart = s.vimStart := rfl
@[simp] theorem State.draw_cmp (s : State) : (s.draw).cmp = s.cmp := rfl
@[simp] theorem State.draw_pow (s : State) : (s.draw).pow = s.pow := rfl
@[simp] theorem State.draw_ste (s : State) : (s.draw).ste = s.ste := rfl
@[simp] theorem State.draw_irqInner (s : State) : (s.draw).irqInner = s.irqInner := rfl
@[simp] theorem State.draw_irqOuter (s : State) : (s.draw).irqOuter = s.irqOuter := rfl
@[simp] theorem State.draw_out (s : State) : (s.draw).out = s.out := rfl
@[simp] theorem State.draw_pending (s : State) : (s.draw).pending = s.pending := rfl

/-! ### coreSet -/

@[simp] theorem State.coreSet_part (s : State) (c : Nat) (g : Core → Core) : (s.coreSet c g).part = s.part := rfl
@[simp] theorem State.coreSet_regs (s : State) (c : Nat) (g : Core → Core) : (s.coreSet c g).regs = s.regs := rfl
@[simp] theorem State.coreSet_held (s : State) (c : Nat) (g : Core → Core) : (s.coreSet c g).held = s.held := rfl
@[simp] theorem State.coreSet_latch (s : State) (c : Nat) (g : Core → Core) : (s.coreSet c g).latch = s.latch := rfl
@[simp] theorem State.coreSet_mem (s : State) (c : Nat) (g : Core → Core) : (s.coreSet c g).mem = s.mem := rfl
@[simp] theorem State.coreSet_gtb (s : State) (c : Nat) (g : Core → Core) : (s.coreSet c g).gtb = s.gtb := rfl
@[simp] theorem State.coreSet_due (s : State) (c : Nat) (g : Core → Core) : (s.coreSet c g).due = s.due := rfl
@[simp] theorem State.coreSet_evr (s : State) (c : Nat) (g : Core → Core) : (s.coreSet c g).evr = s.evr := rfl
@[simp] theorem State.coreSet_conv (s : State) (c : Nat) (g : Core → Core) : (s.coreSet c g).conv = s.conv := rfl
@[simp] theorem State.coreSet_tg (s : State) (c : Nat) (g : Core → Core) : (s.coreSet c g).tg = s.tg := rfl
@[simp] theorem State.coreSet_psc (s : State) (c : Nat) (g : Core → Core) : (s.coreSet c g).psc = s.psc := rfl
@[simp] theorem State.coreSet_esw (s : State) (c : Nat) (g : Core → Core) : (s.coreSet c g).esw = s.esw := rfl
@[simp] theorem State.coreSet_can (s : State) (c : Nat) (g : Core → Core) : (s.coreSet c g).can = s.can := rfl
@[simp] theorem State.coreSet_lin (s : State) (c : Nat) (g : Core → Core) : (s.coreSet c g).lin = s.lin := rfl
@[simp] theorem State.coreSet_crs (s : State) (c : Nat) (g : Core → Core) : (s.coreSet c g).crs = s.crs := rfl
@[simp] theorem State.coreSet_gw (s : State) (c : Nat) (g : Core → Core) : (s.coreSet c g).gw = s.gw := rfl
@[simp] theorem State.coreSet_pcie (s : State) (c : Nat) (g : Core → Core) : (s.coreSet c g).pcie = s.pcie := rfl
@[simp] theorem State.coreSet_pair (s : State) (c : Nat) (g : Core → Core) : (s.coreSet c g).pair = s.pair := rfl
@[simp] theorem State.coreSet_scrub (s : State) (c : Nat) (g : Core → Core) : (s.coreSet c g).scrub = s.scrub := rfl
@[simp] theorem State.coreSet_vi (s : State) (c : Nat) (g : Core → Core) : (s.coreSet c g).vi = s.vi := rfl
@[simp] theorem State.coreSet_vimStart (s : State) (c : Nat) (g : Core → Core) : (s.coreSet c g).vimStart = s.vimStart := rfl
@[simp] theorem State.coreSet_cmp (s : State) (c : Nat) (g : Core → Core) : (s.coreSet c g).cmp = s.cmp := rfl
@[simp] theorem State.coreSet_pow (s : State) (c : Nat) (g : Core → Core) : (s.coreSet c g).pow = s.pow := rfl
@[simp] theorem State.coreSet_ste (s : State) (c : Nat) (g : Core → Core) : (s.coreSet c g).ste = s.ste := rfl
@[simp] theorem State.coreSet_irqInner (s : State) (c : Nat) (g : Core → Core) : (s.coreSet c g).irqInner = s.irqInner := rfl
@[simp] theorem State.coreSet_irqOuter (s : State) (c : Nat) (g : Core → Core) : (s.coreSet c g).irqOuter = s.irqOuter := rfl
@[simp] theorem State.coreSet_out (s : State) (c : Nat) (g : Core → Core) : (s.coreSet c g).out = s.out := rfl
@[simp] theorem State.coreSet_free (s : State) (c : Nat) (g : Core → Core) : (s.coreSet c g).free = s.free := rfl
@[simp] theorem State.coreSet_pending (s : State) (c : Nat) (g : Core → Core) : (s.coreSet c g).pending = s.pending := rfl

/-! ### pairSet -/

@[simp] theorem State.pairSet_part (s : State) (n : Nat) (g : Pair → Pair) : (s.pairSet n g).part = s.part := rfl
@[simp] theorem State.pairSet_regs (s : State) (n : Nat) (g : Pair → Pair) : (s.pairSet n g).regs = s.regs := rfl
@[simp] theorem State.pairSet_held (s : State) (n : Nat) (g : Pair → Pair) : (s.pairSet n g).held = s.held := rfl
@[simp] theorem State.pairSet_latch (s : State) (n : Nat) (g : Pair → Pair) : (s.pairSet n g).latch = s.latch := rfl
@[simp] theorem State.pairSet_mem (s : State) (n : Nat) (g : Pair → Pair) : (s.pairSet n g).mem = s.mem := rfl
@[simp] theorem State.pairSet_gtb (s : State) (n : Nat) (g : Pair → Pair) : (s.pairSet n g).gtb = s.gtb := rfl
@[simp] theorem State.pairSet_due (s : State) (n : Nat) (g : Pair → Pair) : (s.pairSet n g).due = s.due := rfl
@[simp] theorem State.pairSet_evr (s : State) (n : Nat) (g : Pair → Pair) : (s.pairSet n g).evr = s.evr := rfl
@[simp] theorem State.pairSet_conv (s : State) (n : Nat) (g : Pair → Pair) : (s.pairSet n g).conv = s.conv := rfl
@[simp] theorem State.pairSet_tg (s : State) (n : Nat) (g : Pair → Pair) : (s.pairSet n g).tg = s.tg := rfl
@[simp] theorem State.pairSet_psc (s : State) (n : Nat) (g : Pair → Pair) : (s.pairSet n g).psc = s.psc := rfl
@[simp] theorem State.pairSet_esw (s : State) (n : Nat) (g : Pair → Pair) : (s.pairSet n g).esw = s.esw := rfl
@[simp] theorem State.pairSet_can (s : State) (n : Nat) (g : Pair → Pair) : (s.pairSet n g).can = s.can := rfl
@[simp] theorem State.pairSet_lin (s : State) (n : Nat) (g : Pair → Pair) : (s.pairSet n g).lin = s.lin := rfl
@[simp] theorem State.pairSet_crs (s : State) (n : Nat) (g : Pair → Pair) : (s.pairSet n g).crs = s.crs := rfl
@[simp] theorem State.pairSet_gw (s : State) (n : Nat) (g : Pair → Pair) : (s.pairSet n g).gw = s.gw := rfl
@[simp] theorem State.pairSet_pcie (s : State) (n : Nat) (g : Pair → Pair) : (s.pairSet n g).pcie = s.pcie := rfl
@[simp] theorem State.pairSet_core (s : State) (n : Nat) (g : Pair → Pair) : (s.pairSet n g).core = s.core := rfl
@[simp] theorem State.pairSet_scrub (s : State) (n : Nat) (g : Pair → Pair) : (s.pairSet n g).scrub = s.scrub := rfl
@[simp] theorem State.pairSet_vi (s : State) (n : Nat) (g : Pair → Pair) : (s.pairSet n g).vi = s.vi := rfl
@[simp] theorem State.pairSet_vimStart (s : State) (n : Nat) (g : Pair → Pair) : (s.pairSet n g).vimStart = s.vimStart := rfl
@[simp] theorem State.pairSet_cmp (s : State) (n : Nat) (g : Pair → Pair) : (s.pairSet n g).cmp = s.cmp := rfl
@[simp] theorem State.pairSet_pow (s : State) (n : Nat) (g : Pair → Pair) : (s.pairSet n g).pow = s.pow := rfl
@[simp] theorem State.pairSet_ste (s : State) (n : Nat) (g : Pair → Pair) : (s.pairSet n g).ste = s.ste := rfl
@[simp] theorem State.pairSet_irqInner (s : State) (n : Nat) (g : Pair → Pair) : (s.pairSet n g).irqInner = s.irqInner := rfl
@[simp] theorem State.pairSet_irqOuter (s : State) (n : Nat) (g : Pair → Pair) : (s.pairSet n g).irqOuter = s.irqOuter := rfl
@[simp] theorem State.pairSet_out (s : State) (n : Nat) (g : Pair → Pair) : (s.pairSet n g).out = s.out := rfl
@[simp] theorem State.pairSet_free (s : State) (n : Nat) (g : Pair → Pair) : (s.pairSet n g).free = s.free := rfl
@[simp] theorem State.pairSet_pending (s : State) (n : Nat) (g : Pair → Pair) : (s.pairSet n g).pending = s.pending := rfl

/-! ### setByte -/

@[simp] theorem State.setByte_part (s : State) (a b : Nat) : (s.setByte a b).part = s.part := rfl
@[simp] theorem State.setByte_regs (s : State) (a b : Nat) : (s.setByte a b).regs = s.regs := rfl
@[simp] theorem State.setByte_held (s : State) (a b : Nat) : (s.setByte a b).held = s.held := rfl
@[simp] theorem State.setByte_latch (s : State) (a b : Nat) : (s.setByte a b).latch = s.latch := rfl
@[simp] theorem State.setByte_gtb (s : State) (a b : Nat) : (s.setByte a b).gtb = s.gtb := rfl
@[simp] theorem State.setByte_due (s : State) (a b : Nat) : (s.setByte a b).due = s.due := rfl
@[simp] theorem State.setByte_evr (s : State) (a b : Nat) : (s.setByte a b).evr = s.evr := rfl
@[simp] theorem State.setByte_conv (s : State) (a b : Nat) : (s.setByte a b).conv = s.conv := rfl
@[simp] theorem State.setByte_tg (s : State) (a b : Nat) : (s.setByte a b).tg = s.tg := rfl
@[simp] theorem State.setByte_psc (s : State) (a b : Nat) : (s.setByte a b).psc = s.psc := rfl
@[simp] theorem State.setByte_esw (s : State) (a b : Nat) : (s.setByte a b).esw = s.esw := rfl
@[simp] theorem State.setByte_can (s : State) (a b : Nat) : (s.setByte a b).can = s.can := rfl
@[simp] theorem State.setByte_lin (s : State) (a b : Nat) : (s.setByte a b).lin = s.lin := rfl
@[simp] theorem State.setByte_crs (s : State) (a b : Nat) : (s.setByte a b).crs = s.crs := rfl
@[simp] theorem State.setByte_gw (s : State) (a b : Nat) : (s.setByte a b).gw = s.gw := rfl
@[simp] theorem State.setByte_pcie (s : State) (a b : Nat) : (s.setByte a b).pcie = s.pcie := rfl
@[simp] theorem State.setByte_pair (s : State) (a b : Nat) : (s.setByte a b).pair = s.pair := rfl
@[simp] theorem State.setByte_scrub (s : State) (a b : Nat) : (s.setByte a b).scrub = s.scrub := rfl
@[simp] theorem State.setByte_vi (s : State) (a b : Nat) : (s.setByte a b).vi = s.vi := rfl
@[simp] theorem State.setByte_vimStart (s : State) (a b : Nat) : (s.setByte a b).vimStart = s.vimStart := rfl
@[simp] theorem State.setByte_cmp (s : State) (a b : Nat) : (s.setByte a b).cmp = s.cmp := rfl
@[simp] theorem State.setByte_pow (s : State) (a b : Nat) : (s.setByte a b).pow = s.pow := rfl
@[simp] theorem State.setByte_ste (s : State) (a b : Nat) : (s.setByte a b).ste = s.ste := rfl
@[simp] theorem State.setByte_irqInner (s : State) (a b : Nat) : (s.setByte a b).irqInner = s.irqInner := rfl
@[simp] theorem State.setByte_irqOuter (s : State) (a b : Nat) : (s.setByte a b).irqOuter = s.irqOuter := rfl
@[simp] theorem State.setByte_out (s : State) (a b : Nat) : (s.setByte a b).out = s.out := rfl
@[simp] theorem State.setByte_free (s : State) (a b : Nat) : (s.setByte a b).free = s.free := rfl
@[simp] theorem State.setByte_pending (s : State) (a b : Nat) : (s.setByte a b).pending = s.pending := rfl

/-! ### canUpd -/

@[simp] theorem State.canUpd_part (s : State) (c : Nat) (g : CanSt → CanSt) : (s.canUpd c g).part = s.part := rfl
@[simp] theorem State.canUpd_regs (s : State) (c : Nat) (g : CanSt → CanSt) : (s.canUpd c g).regs = s.regs := rfl
@[simp] theorem State.canUpd_held (s : State) (c : Nat) (g : CanSt → CanSt) : (s.canUpd c g).held = s.held := rfl
@[simp] theorem State.canUpd_latch (s : State) (c : Nat) (g : CanSt → CanSt) : (s.canUpd c g).latch = s.latch := rfl
@[simp] theorem State.canUpd_mem (s : State) (c : Nat) (g : CanSt → CanSt) : (s.canUpd c g).mem = s.mem := rfl
@[simp] theorem State.canUpd_gtb (s : State) (c : Nat) (g : CanSt → CanSt) : (s.canUpd c g).gtb = s.gtb := rfl
@[simp] theorem State.canUpd_due (s : State) (c : Nat) (g : CanSt → CanSt) : (s.canUpd c g).due = s.due := rfl
@[simp] theorem State.canUpd_evr (s : State) (c : Nat) (g : CanSt → CanSt) : (s.canUpd c g).evr = s.evr := rfl
@[simp] theorem State.canUpd_conv (s : State) (c : Nat) (g : CanSt → CanSt) : (s.canUpd c g).conv = s.conv := rfl
@[simp] theorem State.canUpd_tg (s : State) (c : Nat) (g : CanSt → CanSt) : (s.canUpd c g).tg = s.tg := rfl
@[simp] theorem State.canUpd_psc (s : State) (c : Nat) (g : CanSt → CanSt) : (s.canUpd c g).psc = s.psc := rfl
@[simp] theorem State.canUpd_esw (s : State) (c : Nat) (g : CanSt → CanSt) : (s.canUpd c g).esw = s.esw := rfl
@[simp] theorem State.canUpd_lin (s : State) (c : Nat) (g : CanSt → CanSt) : (s.canUpd c g).lin = s.lin := rfl
@[simp] theorem State.canUpd_crs (s : State) (c : Nat) (g : CanSt → CanSt) : (s.canUpd c g).crs = s.crs := rfl
@[simp] theorem State.canUpd_gw (s : State) (c : Nat) (g : CanSt → CanSt) : (s.canUpd c g).gw = s.gw := rfl
@[simp] theorem State.canUpd_pcie (s : State) (c : Nat) (g : CanSt → CanSt) : (s.canUpd c g).pcie = s.pcie := rfl
@[simp] theorem State.canUpd_core (s : State) (c : Nat) (g : CanSt → CanSt) : (s.canUpd c g).core = s.core := rfl
@[simp] theorem State.canUpd_pair (s : State) (c : Nat) (g : CanSt → CanSt) : (s.canUpd c g).pair = s.pair := rfl
@[simp] theorem State.canUpd_scrub (s : State) (c : Nat) (g : CanSt → CanSt) : (s.canUpd c g).scrub = s.scrub := rfl
@[simp] theorem State.canUpd_vi (s : State) (c : Nat) (g : CanSt → CanSt) : (s.canUpd c g).vi = s.vi := rfl
@[simp] theorem State.canUpd_vimStart (s : State) (c : Nat) (g : CanSt → CanSt) : (s.canUpd c g).vimStart = s.vimStart := rfl
@[simp] theorem State.canUpd_cmp (s : State) (c : Nat) (g : CanSt → CanSt) : (s.canUpd c g).cmp = s.cmp := rfl
@[simp] theorem State.canUpd_pow (s : State) (c : Nat) (g : CanSt → CanSt) : (s.canUpd c g).pow = s.pow := rfl
@[simp] theorem State.canUpd_ste (s : State) (c : Nat) (g : CanSt → CanSt) : (s.canUpd c g).ste = s.ste := rfl
@[simp] theorem State.canUpd_irqInner (s : State) (c : Nat) (g : CanSt → CanSt) : (s.canUpd c g).irqInner = s.irqInner := rfl
@[simp] theorem State.canUpd_irqOuter (s : State) (c : Nat) (g : CanSt → CanSt) : (s.canUpd c g).irqOuter = s.irqOuter := rfl
@[simp] theorem State.canUpd_out (s : State) (c : Nat) (g : CanSt → CanSt) : (s.canUpd c g).out = s.out := rfl
@[simp] theorem State.canUpd_free (s : State) (c : Nat) (g : CanSt → CanSt) : (s.canUpd c g).free = s.free := rfl
@[simp] theorem State.canUpd_pending (s : State) (c : Nat) (g : CanSt → CanSt) : (s.canUpd c g).pending = s.pending := rfl

/-! ### viUpd -/

@[simp] theorem State.viUpd_part (s : State) (i : Nat) (g : ViSt → ViSt) : (s.viUpd i g).part = s.part := rfl
@[simp] theorem State.viUpd_regs (s : State) (i : Nat) (g : ViSt → ViSt) : (s.viUpd i g).regs = s.regs := rfl
@[simp] theorem State.viUpd_held (s : State) (i : Nat) (g : ViSt → ViSt) : (s.viUpd i g).held = s.held := rfl
@[simp] theorem State.viUpd_latch (s : State) (i : Nat) (g : ViSt → ViSt) : (s.viUpd i g).latch = s.latch := rfl
@[simp] theorem State.viUpd_mem (s : State) (i : Nat) (g : ViSt → ViSt) : (s.viUpd i g).mem = s.mem := rfl
@[simp] theorem State.viUpd_gtb (s : State) (i : Nat) (g : ViSt → ViSt) : (s.viUpd i g).gtb = s.gtb := rfl
@[simp] theorem State.viUpd_due (s : State) (i : Nat) (g : ViSt → ViSt) : (s.viUpd i g).due = s.due := rfl
@[simp] theorem State.viUpd_evr (s : State) (i : Nat) (g : ViSt → ViSt) : (s.viUpd i g).evr = s.evr := rfl
@[simp] theorem State.viUpd_conv (s : State) (i : Nat) (g : ViSt → ViSt) : (s.viUpd i g).conv = s.conv := rfl
@[simp] theorem State.viUpd_tg (s : State) (i : Nat) (g : ViSt → ViSt) : (s.viUpd i g).tg = s.tg := rfl
@[simp] theorem State.viUpd_psc (s : State) (i : Nat) (g : ViSt → ViSt) : (s.viUpd i g).psc = s.psc := rfl
@[simp] theorem State.viUpd_esw (s : State) (i : Nat) (g : ViSt → ViSt) : (s.viUpd i g).esw = s.esw := rfl
@[simp] theorem State.viUpd_can (s : State) (i : Nat) (g : ViSt → ViSt) : (s.viUpd i g).can = s.can := rfl
@[simp] theorem State.viUpd_lin (s : State) (i : Nat) (g : ViSt → ViSt) : (s.viUpd i g).lin = s.lin := rfl
@[simp] theorem State.viUpd_crs (s : State) (i : Nat) (g : ViSt → ViSt) : (s.viUpd i g).crs = s.crs := rfl
@[simp] theorem State.viUpd_gw (s : State) (i : Nat) (g : ViSt → ViSt) : (s.viUpd i g).gw = s.gw := rfl
@[simp] theorem State.viUpd_pcie (s : State) (i : Nat) (g : ViSt → ViSt) : (s.viUpd i g).pcie = s.pcie := rfl
@[simp] theorem State.viUpd_core (s : State) (i : Nat) (g : ViSt → ViSt) : (s.viUpd i g).core = s.core := rfl
@[simp] theorem State.viUpd_pair (s : State) (i : Nat) (g : ViSt → ViSt) : (s.viUpd i g).pair = s.pair := rfl
@[simp] theorem State.viUpd_scrub (s : State) (i : Nat) (g : ViSt → ViSt) : (s.viUpd i g).scrub = s.scrub := rfl
@[simp] theorem State.viUpd_vimStart (s : State) (i : Nat) (g : ViSt → ViSt) : (s.viUpd i g).vimStart = s.vimStart := rfl
@[simp] theorem State.viUpd_cmp (s : State) (i : Nat) (g : ViSt → ViSt) : (s.viUpd i g).cmp = s.cmp := rfl
@[simp] theorem State.viUpd_pow (s : State) (i : Nat) (g : ViSt → ViSt) : (s.viUpd i g).pow = s.pow := rfl
@[simp] theorem State.viUpd_ste (s : State) (i : Nat) (g : ViSt → ViSt) : (s.viUpd i g).ste = s.ste := rfl
@[simp] theorem State.viUpd_irqInner (s : State) (i : Nat) (g : ViSt → ViSt) : (s.viUpd i g).irqInner = s.irqInner := rfl
@[simp] theorem State.viUpd_irqOuter (s : State) (i : Nat) (g : ViSt → ViSt) : (s.viUpd i g).irqOuter = s.irqOuter := rfl
@[simp] theorem State.viUpd_out (s : State) (i : Nat) (g : ViSt → ViSt) : (s.viUpd i g).out = s.out := rfl
@[simp] theorem State.viUpd_free (s : State) (i : Nat) (g : ViSt → ViSt) : (s.viUpd i g).free = s.free := rfl
@[simp] theorem State.viUpd_pending (s : State) (i : Nat) (g : ViSt → ViSt) : (s.viUpd i g).pending = s.pending := rfl

/-! ### Reads through the updates -/

@[simp] theorem State.emit_out (s : State) (o : Out) : (s.emit o).out = o :: s.out := rfl
@[simp] theorem State.draw_free (s : State) : s.draw.free = s.free + 1 := rfl
@[simp] theorem State.emit_get (s : State) (o : Out) (f : Fld) : (s.emit o).get f = s.get f := rfl
@[simp] theorem State.draw_get (s : State) (f : Fld) : s.draw.get f = s.get f := rfl
@[simp] theorem State.coreSet_get (s : State) (c : Nat) (g : Core → Core) (f : Fld) : (s.coreSet c g).get f = s.get f := rfl
@[simp] theorem State.pairSet_get (s : State) (n : Nat) (g : Pair → Pair) (f : Fld) : (s.pairSet n g).get f = s.get f := rfl
@[simp] theorem State.setByte_get (s : State) (a b : Nat) (f : Fld) : (s.setByte a b).get f = s.get f := rfl
@[simp] theorem State.set_byte (s : State) (f : Fld) (v a : Nat) : (s.set f v).byte a = s.byte a := rfl
@[simp] theorem State.emit_byte (s : State) (o : Out) (a : Nat) : (s.emit o).byte a = s.byte a := rfl

end Sys2Proof.Machine
end

