-- ==== Sys2Proof/Laws/Tangram.lean ====
section
/-! SUPPORT. Laws of the issue of a Tangram instruction. -/

namespace Sys2Proof.Machine

open Sys2Proof

/-- An engine that is ready issues: the body acts on the state as it stands, and its result retires at the instruction's cost. -/
theorem tgIssue_ready (x : TgAt) (w cost : Nat) (k : TgKind) (body : State → TgRes) (s : State) (h : tgReady x w k s = true) :
    s.tgIssue x w cost k body = .next (State.tgRetire x.e cost (body s)) := by
  simp only [tgReady, Bool.and_eq_true, beq_iff_eq, Bool.not_eq_true'] at h
  obtain ⟨⟨⟨⟨⟨⟨h1, h2⟩, h3⟩, h4⟩, h5⟩, h6⟩, h7⟩ := h
  simp [State.tgIssue, State.tgFound, State.tgCorrected, h1, h2, h3, h4, h5, h6, h7, done]

/-- A ready engine runs an instruction that only changes its registers, and goes on with the next one. -/
theorem tgAlu_ready (x : TgAt) (w cost : Nat) (f : TgEng → TgEng) (s : State) (h : tgReady x w .plain s = true) :
    s.tgAlu x w cost f = .next ((s.tgSet x.e f).tgNext x.e cost false) := tgIssue_ready x w cost .plain _ s h

/-- Entries that fit are appended to the output buffer. -/
theorem tgPut_ok (s : State) (e : Nat) (l : List TgOut) (h : (s.tg.get e).obuf.length + l.length ≤ 32) :
    s.tgPut e l = .ok (s.tgSet e (fun x => { x with obuf := x.obuf ++ l })) := by
  simp [State.tgPut, Nat.not_lt.mpr h]

/-- Entries that do not fit raise BUFFULL. -/
theorem tgPut_full (s : State) (e : Nat) (l : List TgOut) (h : 32 < (s.tg.get e).obuf.length + l.length) : s.tgPut e l = .trap s 8 0 := by
  simp [State.tgPut, h]

/-- An unpaired engine stores into its own DMEM alone. -/
theorem tgStore_alone (s : State) (e : Nat) (parts : List (Nat × Nat × Nat)) (h : s.tgPaired e = false) :
    s.tgStore e parts = .ok (parts.foldl (fun t p => t.store (tgDmem e + p.1) p.2.1 p.2.2) s) := by
  simp [State.tgStore, State.tgCopies, State.each, h]

/-- An aligned access to an admitted converter register goes on. -/
theorem tgLane_ok (s : State) (e a : Nat) (ac : AccKind) (page : Bool) (k : State → TgRes) (h1 : a % 4 = 0) (h2 : page = true)
    (h3 : s.checkReq a (ownReq (16 + e)) ac = none) : s.tgLane e a ac page k = k s := by
  simp [State.tgLane, h1, h2, h3]

end Sys2Proof.Machine
end

