-- ==== Sys2Proof/WellFormed.lean ====
section
/-! DEFINITION. Well-formed commands: the operands that the types leave open lie in the ranges that the spec gives them. The meanings are total: they take ill-formed operands as well. -/

namespace Sys2Proof

/-- A number of at most 16, 32 or 64 bits, and a signed one of 64. -/
def u16 (v : Nat) : Bool := decide (v < 2 ^ 16)
def u32 (v : Nat) : Bool := decide (v < 2 ^ 32)
def u64 (v : Nat) : Bool := decide (v < 2 ^ 64)
def i64 (v : Int) : Bool := decide (-(2 : Int) ^ 63 ≤ v) && decide (v < (2 : Int) ^ 63)

/-- A fabric address has 40 bits (R30). -/
def addrWf (a : Nat) : Bool := decide (a < 2 ^ 40)

/-- Bytes. -/
def bytesWf (l : List Nat) : Bool := l.all (fun b => decide (b < 256))

/-- Initiators are 0 to 63, generations 0 to 255 (R30, R32). -/
def reqWf (r : Req) : Bool := decide (r.id < 64) && decide (r.gen < 256)

/-- A stamp's fraction has 8 bits (R40). -/
def stampWf (t : Stamp) : Bool := u64 t.ns && decide (t.frac < 256)

/-- A Sync (R46). -/
def syncWf (m : SyncMsg) : Bool := decide (m.domNum < 256) && u64 m.gm && i64 m.corr && stampWf m.rx

/-- A frame: bytes, at most 16,384, and the stamp of its first bit (R231). -/
def ethWf (x : EthRx) : Bool := bytesWf x.bytes && stampWf x.at_ && decide (x.bytes.length ≤ 16384)

/-- A CAN frame: classic up to 8 bytes, FD up to 64, XL up to 2,048; identifier of 29 bits (R277). -/
def canWf (f : CanFrame) : Bool :=
  decide (f.fmt < 3) && decide (f.id < 2 ^ 29) && bytesWf f.data && decide (f.dlc < 16) &&
  decide (f.data.length ≤ (if f.fmt = 0 then 8 else if f.fmt = 1 then 64 else 2048))

/-- An inbound request: up to 4,096 bytes, function 0 to 255 (R356). -/
def inWf (x : PcieIn) : Bool := decide (x.fn < 256) && u64 x.addr && decide (0 < x.size) && decide (x.size ≤ 4096) && bytesWf x.bytes

/-- Random bits of one word; events of R375 by number. -/
def obsWf (o : RvObs) : Bool := u64 o.rnd && o.events.all (fun e => decide (1 ≤ e.1) && decide (e.1 ≤ 8))

/-- Where the gateway takes a PDU from. -/
def srcWf (x : GwSrc) : Bool :=
  match x with
  | .can _ _ => true
  | .lin _ _ => true
  | .eth _ bytes => bytesWf bytes

/-- What a power die measures: channels 0 to 39, groups 0 to 9, feeds 0 and 1 (R196 to R198). -/
def sampleWf (x : PscSample) : Bool :=
  match x with
  | .cur n i => decide (n < 40) && i64 i
  | .vout n v => decide (n < 40) && i64 v
  | .avg n => decide (n < 40)
  | .temp g t => decide (g < 10) && i64 t
  | .feed f v => decide (f < 2) && u64 v
  | .bad f => decide (f < 2)

/-- An item of a mirror frame (R36). -/
def itemWf (x : MirrorItem) : Bool :=
  match x with
  | .write a v => addrWf a && u32 v
  | .fdb i key data => decide (i < 16384) && u64 key && u32 data
  | .dmem e off v => decide (e < 12) && decide (off < 0x1_0000) && u32 v
  | .can c o _ _ _ => decide (c < 16) && decide (o < 128)
  | .write8 a v => addrWf a && u64 v
  | .fdbCmd key data op => u64 key && u32 data && decide (op < 16)
  | .gptp d gm ofs ratio => decide (d < 4) && u64 gm && i64 ofs && i64 ratio

/-- Whether a command is well-formed. -/
def Instr.wellFormed (i : Instr) : Bool :=
  match i with
  | .registerWrite r addr size value => reqWf r && addrWf addr && decide (0 < size) && decide (size ≤ 64) && decide (value < 256 ^ size)
  | .readClear r addr => reqWf r && addrWf addr
  | .pairLowWordRead r addr => reqWf r && addrWf addr
  | .fabricRequest r _ addr size value _ _ => reqWf r && addrWf addr && decide (0 < size) && decide (size ≤ 64) && decide (value < 256 ^ size)
  | .commandLinkHeartbeat _ _ _ => true
  | .powerDieHoldEnter _ => true
  | .powerDieHoldLeave _ => true
  | .supplyLinkHeartbeat => true
  | .interfaceHeartbeatLoss => true
  | .controlLaneIdleHandshake => true
  | .controlLaneLoss => true
  | .coreSupplyLapse => true
  | .vcoreMeasure millivolt => u16 millivolt
  | .xtalFallback => true
  | .msSupplyLoss => true
  | .msSupplyReturn _ _ => true
  | .mirrorFrameSend => true
  | .mirrorFrameReceive _ items => items.all itemWf
  | .mirrorTimeout => true
  | .takeover => true
  | .takeoverPwmEnable _ => true
  | .twinHandoff => true
  | .slewStart => true
  | .slewComplete => true
  | .gtbStep => true
  | .snapshotTake => true
  | .syncReceive _ _ m => syncWf m
  | .syncRelay _ => true
  | .syncTransmit _ => true
  | .pdelayReqTransmit _ => true
  | .pdelayReceive _ m => stampWf m.rx
  | .syncTimeout _ => true
  | .gtbDomainWrite _ _ => true
  | .triggerFire _ => true
  | .triggerCompareWrite _ value => u64 value
  | .triggerCtlWrite _ value => u32 value
  | .captureEdge _ _ stamp held => stampWf stamp && u64 held
  | .capturePop _ => true
  | .eventEnterEvr => true
  | .eventRelease _ => true
  | .lateEventRelease _ => true
  | .logRecordWrite _ => true
  | .traceRecordHandoff => true
  | .alarmAck src count => decide (src < 320) && u16 count
  | .refMonitorCompare dev => i64 dev
  | .refMismatchClear => true
  | .adcSequenceStart _ => true
  | .adcStart _ => true
  | .adcFreerunWrite _ _ _ => true
  | .adcSlotComplete _ sum err => decide (sum < 2 ^ 24) && i64 err
  | .adcGroupStart _ => true
  | .adcGroupStartWrite _ => true
  | .adcWordDeliver _ _ => true
  | .adcSetComplete _ => true
  | .adcRingWrite _ parity => parity.all addrWf
  | .sdfResult _ _ _ => true
  | .sdfWindowRestart _ => true
  | .sdfFastTrip _ _ _ => true
  | .sdfClockLoss _ => true
  | .comparatorTrip _ v => u32 v
  | .comparatorRelease _ v => u32 v
  | .blankingEnd _ => true
  | .pwmPeriodStart _ _ => true
  | .pwmMidPeriod _ _ => true
  | .pwmEdge _ _ _ _ => true
  | .pwmSync _ c _ => u64 c
  | .pwmCommit _ => true
  | .pwmSetLoad _ c => u64 c
  | .pwmSwtrip _ => true
  | .pwmGtrip => true
  | .pwmTripclr _ => true
  | .pwmEnableWrite _ _ _ => true
  | .pwmForceWrite _ _ _ => true
  | .tgDmemWrite _ off size v => decide (off < 0x1_0000) && decide (0 < size) && decide (size ≤ 64) && decide (v < 256 ^ size)
  | .tgOccurrence _ _ => true
  | .tgSwdisp _ _ => true
  | .tgDispatch _ => true
  | .tgAdd _ _ _ _ => true
  | .tgSub _ _ _ _ => true
  | .tgAnd _ _ _ _ => true
  | .tgOr _ _ _ _ => true
  | .tgXor _ _ _ _ => true
  | .tgShl _ _ _ _ => true
  | .tgShr _ _ _ _ => true
  | .tgSra _ _ _ _ => true
  | .tgShli _ _ _ _ => true
  | .tgShri _ _ _ _ => true
  | .tgSrai _ _ _ _ => true
  | .tgMin _ _ _ _ => true
  | .tgMax _ _ _ _ => true
  | .tgMinu _ _ _ _ => true
  | .tgMaxu _ _ _ _ => true
  | .tgClamp _ _ _ _ _ => true
  | .tgAbs _ _ _ => true
  | .tgSlt _ _ _ _ => true
  | .tgSltu _ _ _ _ => true
  | .tgClz _ _ _ => true
  | .tgMul _ _ _ _ => true
  | .tgMulh _ _ _ _ => true
  | .tgMulhu _ _ _ _ => true
  | .tgDiv _ _ _ _ => true
  | .tgDivu _ _ _ _ => true
  | .tgRem _ _ _ _ => true
  | .tgRemu _ _ _ _ => true
  | .tgMacq _ _ _ _ => true
  | .tgMsuq _ _ _ _ => true
  | .tgMulq _ _ _ _ => true
  | .tgMaci _ _ _ _ => true
  | .tgAclr _ _ => true
  | .tgAcld _ _ _ => true
  | .tgAcsr _ _ _ => true
  | .tgSatq _ _ _ => true
  | .tgSati _ _ _ => true
  | .tgPiu _ _ _ _ _ => true
  | .tgFadd _ _ _ _ => true
  | .tgFsub _ _ _ _ => true
  | .tgFmul _ _ _ _ => true
  | .tgFma _ _ _ _ _ => true
  | .tgFdiv _ _ _ _ => true
  | .tgFsqrt _ _ _ => true
  | .tgFmin _ _ _ _ => true
  | .tgFmax _ _ _ _ => true
  | .tgFabs _ _ _ => true
  | .tgFneg _ _ _ => true
  | .tgFeq _ _ _ _ => true
  | .tgFlt _ _ _ _ => true
  | .tgFle _ _ _ _ => true
  | .tgFcvtws _ _ _ => true
  | .tgFcvtsw _ _ _ => true
  | .tgFcvtqs _ _ _ => true
  | .tgFcvtsq _ _ _ => true
  | .tgEret _ => true
  | .tgMfs _ _ _ => true
  | .tgMts _ _ _ => true
  | .tgEvp _ _ => true
  | .tgJr _ _ => true
  | .tgAddi _ _ _ _ => true
  | .tgAndi _ _ _ _ => true
  | .tgOri _ _ _ _ => true
  | .tgXori _ _ _ _ => true
  | .tgLui _ _ _ => true
  | .tgSlti _ _ _ _ => true
  | .tgLw _ _ _ _ _ => true
  | .tgLh _ _ _ _ _ => true
  | .tgLhu _ _ _ _ _ => true
  | .tgLacc _ _ _ _ _ => true
  | .tgSw _ _ _ _ => true
  | .tgSh _ _ _ _ => true
  | .tgSacc _ _ _ _ => true
  | .tgLdc _ _ _ _ _ => true
  | .tgStc _ _ _ _ => true
  | .tgStcc _ _ _ _ => true
  | .tgBeq _ _ _ _ => true
  | .tgBne _ _ _ _ => true
  | .tgBlt _ _ _ _ => true
  | .tgBge _ _ _ _ => true
  | .tgBltu _ _ _ _ => true
  | .tgBgeu _ _ _ _ => true
  | .tgJmp _ _ => true
  | .tgCall _ _ => true
  | .tgLoop _ _ _ _ => true
  | .tgLoopi _ _ _ _ => true
  | .tgSetm _ _ _ => true
  | .tgEnd _ => true
  | .tgBrk _ => true
  | .tgSeal _ _ => true
  | .tgSkewTimeout _ => true
  | .tgDeadlineExpiry _ => true
  | .tgPairWrite _ _ => true
  | .tgPairSyncDone _ => true
  | .tgMoveGo _ _ => true
  | .tgMoveFreeze _ => true
  | .tgMoveComplete _ => true
  | .tgMoveFwdClear _ => true
  | .pscOn _ r vi => reqWf r && vi.all u16
  | .pscOff _ r vi => reqWf r && vi.all u16
  | .pscPwm _ r vi => reqWf r && vi.all u16
  | .pscClear _ r vi => reqWf r && vi.all u16
  | .pscOlcheck _ r vi => reqWf r && vi.all u16
  | .pscCommandApply _ _ _ => true
  | .pscAckReceive _ _ => true
  | .pscAckTimeout _ => true
  | .pscSample m => sampleWf m
  | .pscRangeSwitch _ => true
  | .pscOvercurrent _ samples => samples.all u16
  | .pscShortCircuit _ => true
  | .pscGroupOvertemp _ t => i64 t
  | .i2tUpdate _ sumSq => u64 sumSq
  | .pscRetryDue _ => true
  | .pscRetryRestore _ => true
  | .pscClampEvent _ => true
  | .pscPwmPeriod _ _ => true
  | .offstateCheckStart _ _ v => i64 v
  | .offstateCheckSettled _ v => i64 v
  | .onstateOpenLoad _ largest => u64 largest
  | .pscShed _ _ => true
  | .pscRestore _ => true
  | .pscRecordWrite _ => true
  | .pscMirrorLoad _ => true
  | .feedPowerOnReset _ => true
  | .feedRestart _ => true
  | .feedUndervoltage _ vpwr => u64 vpwr
  | .feedOvervoltage _ vpwr => u64 vpwr
  | .portLinkDown _ => true
  | .portLinkUp _ speed sqi => decide (speed < 8) && decide (sqi < 8)
  | .portHoldExpiry _ => true
  | .portDisable _ => true
  | .plcaBeaconTimeout _ => true
  | .plcaBeacon _ => true
  | .frameReceive _ rx => ethWf rx
  | .frameTransmit _ => true
  | .internalIngressResume _ => true
  | .gateEntryAdvance _ => true
  | .gclChangeWrite _ => true
  | .gateListChange _ => true
  | .streamGateChangeWrite _ => true
  | .streamGateListChange _ => true
  | .streamGateEntryAdvance _ => true
  | .fdbRead => true
  | .fdbWrite => true
  | .fdbDelete => true
  | .fdbFlush => true
  | .fdbInvcache => true
  | .fdbFence => true
  | .fdbCommandComplete => true
  | .fdbWindowWrite _ _ v => u32 v
  | .fdbCacheExpiry key => u64 key
  | .fdbAgeSweep => true
  | .pinRevert _ => true
  | .pinRevertComplete _ => true
  | .frerRecoveryReset _ => true
  | .sampleRecordWrite _ => true
  | .canStart _ => true
  | .canFrameValid _ f age => canWf f && u64 age
  | .canObjectWrite _ => true
  | .canTxreq _ _ => true
  | .canArbitrationStart _ => true
  | .canTxSuccess _ _ => true
  | .canTxError _ _ _ _ _ => true
  | .canArbitrationLost _ => true
  | .canAbort _ _ => true
  | .canBusoffRecover _ => true
  | .canBusoffRecovered _ => true
  | .canLomApply _ => true
  | .canTxdTimeout _ => true
  | .canCorrelation _ _ => true
  | .busWakeDetect _ => true
  | .transceiverOvertemp _ => true
  | .transceiverOvertempEnd _ => true
  | .linSlotStart _ => true
  | .linHeaderReceive _ _ div => u64 div
  | .linResponseComplete _ bytes cks err => bytesWf bytes && decide (cks < 256) && u64 err
  | .linResponseTimeout _ got => u64 got
  | .linWakePulse _ => true
  | .carouselEnable => true
  | .carouselMessageReceive bytes => bytesWf bytes
  | .carouselRelay _ bytes => bytesWf bytes
  | .carouselSend _ => true
  | .carouselSlotTimeout _ => true
  | .carouselFormTimeout _ => true
  | .consentWrite _ => true
  | .keeperLimit _ => true
  | .prepareExpiry => true
  | .sleepTransceiversOff => true
  | .sleepCorePowerOff => true
  | .wakeReport _ => true
  | .wakeWindowExpiry => true
  | .zoneOkRequest => true
  | .zoneOkDrop => true
  | .zoneOkWatchdog => true
  | .gwPduReceive src => srcWf src
  | .gwPduProcess => true
  | .gwLayoutCyclicDue _ => true
  | .gwMingapExpiry _ => true
  | .gwPduForm => true
  | .gwSinkReady _ => true
  | .gwFence => true
  | .gwFenceComplete => true
  | .tableEntryCommitWrite addr value => addrWf addr && u64 value
  | .pcieInboundRequest x => inWf x
  | .pcieOutboundRequest r _ addr size value => reqWf r && addrWf addr && decide (0 < size) && decide (size ≤ 64) && decide (value < 256 ^ size)
  | .pcieCompletion tag _ bytes => decide (tag < 256) && bytesWf bytes
  | .pcieCompletionTimeout tag => decide (tag < 256)
  | .pcieLinkUp gen width ltssm => decide (1 ≤ gen) && decide (gen ≤ 4) && (decide (width = 1) || decide (width = 2)) && u64 ltssm
  | .pcieLinkDown ltssm => u64 ltssm
  | .pcieFunctionLevelReset _ => true
  | .pcieVfEnable _ _ => true
  | .pciePerst _ => true
  | .pcieRetrain => true
  | .pciePfMsix vectors => u32 vectors
  | .rvInstruction _ o => obsWf o
  | .mret _ o => obsWf o
  | .wcall _ o => obsWf o
  | .ckpt _ o => obsWf o
  | .agreeLd _ o => obsWf o
  | .agreeRnd _ o => obsWf o
  | .agreeCyc _ o => obsWf o
  | .gtbrd _ o => obsWf o
  | .gtbrdX _ o => obsWf o
  | .evpost _ o => obsWf o
  | .claimReadInner _ o => obsWf o
  | .claimReadOuter _ o => obsWf o
  | .interruptTake _ => true
  | .timerCompareMatch _ => true
  | .predictorFlush _ o => obsWf o
  | .storeErrorResponse _ _ addr => addrWf addr
  | .pairAccessRelease _ _ _ => true
  | .pairLagTimeout _ => true
  | .checkpoint _ _ => true
  | .checkpointCommit _ => true
  | .pairRestoreDone _ _ => true
  | .pairReplayEnd _ _ => true
  | .debugHalt _ => true
  | .debugResume _ => true
  | .debugStep _ => true
  | .debugAbstractWrite _ reg value => decide (reg < 0x1040) && u64 value
  | .debugProgramBuffer _ words o => words.all u32 && obsWf o
  | .debugNdmreset => true
  | .regionCtlWrite r _ _ v => reqWf r && u32 v
  | .igrpWrite r _ v => reqWf r && u32 v
  | .regionFence => true
  | .regionFenceComplete => true
  | .scrubLine _ _ => true
  | .worldWatchdogExpiry _ => true
  | .watchdogKick _ r => reqWf r
  | .innerWorldRestartBegin _ => true
  | .innerWorldRestartComplete _ => true
  | .vimCreate _ => true
  | .vimAttach _ _ _ => true
  | .vimDetach _ _ _ => true
  | .vimQuiesce _ => true
  | .vimQuiesceComplete _ _ => true
  | .vimResume _ => true
  | .vimReset _ => true
  | .vimMigrate _ _ _ => true
  | .vimTakedown _ => true
  | .vimGenChangeDue _ => true
  | .vimMapWrite addr value => addrWf addr && u64 value
  | .viTenantReset _ => true
  | .viResetComplete _ => true
  | .viDoorbell _ _ _ _ => true
  | .viTxFrame _ _ _ => true
  | .viRxDeliver _ _ => true
  | .viBucketRefill _ => true
  | .mbxClaim _ r => reqWf r
  | .mbxGo _ r _ => reqWf r
  | .mbxRelease _ r => reqWf r
  | .mbxReclaimTimeout _ => true
  | .mbxCommandComplete => true
  | .getInfo _ => true
  | .getBootstat _ => true
  | .echo _ => true
  | .provDevid _ secret attest devId => decide (secret < 2 ^ 256) && decide (attest < 2 ^ 256) && decide (devId < 2 ^ 128)
  | .lcAdvance _ => true
  | .lcReturn _ => true
  | .lcEnd _ => true
  | .lcChallenge _ nonce => bytesWf nonce
  | .nonceExpiry => true
  | .dbgUnlock _ => true
  | .provRootkey _ => true
  | .keyRevoke _ => true
  | .measRead _ => true
  | .measExtend _ => true
  | .quote _ => true
  | .getCert _ => true
  | .verifyImage _ => true
  | .updBegin _ _ => true
  | .updWrite _ _ => true
  | .updFromXspi _ data _ => data.all bytesWf
  | .updVerify _ bad => bad.all addrWf
  | .updActivate _ => true
  | .updConfirm _ => true
  | .updRevert _ => true
  | .cfgRead _ => true
  | .cfgWrite _ _ => true
  | .envmRefresh _ corrected _ _ => u64 corrected
  | .persistRead _ => true
  | .persistClear _ => true
  | .handover _ _ => true
  | .innerRestart _ => true
  | .resetReq _ => true
  | .stRun _ flaky bad _ sig => flaky.all addrWf && bad.all addrWf && u64 sig
  | .scanEnable _ => true
  | .keyWrap _ => true
  | .keyUnwrap _ => true
  | .rng _ bytes => bytesWf bytes
  | .xspiInit _ _ => true
  | .xspiRead _ data => data.all bytesWf
  | .xspiProgram _ _ => true
  | .xspiErase _ _ => true
  | .xspiEraseDone => true
  | .secureBoot bad us => bad.all addrWf && u64 us
  | .vbatValid => true
  | .vbatLoss => true
  | .vbatLow _ => true
  | .vbatHigh _ => true
  | .vbatNormal _ => true
  | .domainOff _ => true
  | .domainOn _ _ _ => true
  | .vcoreThermalStep tj => i64 tj
  | .backupToVbak => true
  | .backupToVbat => true
  | .backupContinuityLoss mv => u64 mv
  | .backupPor => true
  | .backupGtbRecord mv _ => u64 mv
  | .powerOnReset _ => true
  | .vddCoreCollapse => true
  | .coldReset _ => true
  | .warmReset _ => true
  | .resetPinAssert => true
  | .resetPinRelease => true
  | .blockReset => true
  | .blockIdleReached => true
  | .blockIdleTimeout => true
  | .calibrationDone _ _ _ => true
  | .canReady t => u64 t
  | .fullyReady t _ => u64 t
  | .steConditionCheck _ => true
  | .steSliceStart _ => true
  | .steSliceEnd _ _ => true
  | .powerupTestDone _ _ => true
  | .externalTripBallChange _ _ => true
  | .sdfFastTripRelease _ _ _ => true
  | .sdfClockReturn _ => true
  | .canRxError _ _ _ _ => true
  | .canProtocolException _ => true
  | .canIntegrationDone _ => true
  | .canBusReleaseEnd _ => true
  | .linTxdTimeout _ => true
  | .vbakLow _ => true

end Sys2Proof
end

