-- ==== Sys2Proof/Tests/Slice0.lean ====
section
/-! SUPPORT. Tests of the model on small states, and for every statement a state and operands that meet its hypotheses. -/

namespace Sys2Proof.Tests

open Sys2Proof Sys2Proof.Machine

set_option Elab.async false
set_option linter.unusedVariables false

/-- A state in which the regions of every checker but the eNVM's and Compass's grant everything to every group of both worlds, and every power domain is up. -/
def openAll : State :=
  ((List.range 15).foldl (fun s t => ((((s.set (RGN_RCTL_EN (t + 2) 0) 1).set (RGN_RLIM_LIMIT (t + 2) 0) 0xFFFFFFF).set (RGN_RPO_PERM (t + 2) 0) 0xFFFFFF).set (RGN_RPI_PERM (t + 2) 0) 0xFFFFFF)) State.reset).set PWR_DOMSTAT_UP 0x3FFFFF

/-- Engine TG3 runs with `g` and its IMEM holds `w` at address 0. -/
def tgWith (b : State) (g : TgEng) (w : Nat) : State := ({ b with tg := Tab.put {} 3 { g with run := true, pc := 0 } } : State).store (tgImem 3) 4 w

/-- Running with all registers 0. -/
def tgHolds (w : Nat) : State := tgWith State.reset { mode := 0x80 } w

/-- In user mode. -/
def tgHoldsUser (w : Nat) : State := tgWith State.reset { mode := 0 } w

/-- With a full output buffer. -/
def tgHoldsFull (w : Nat) : State := tgWith State.reset { obuf := List.replicate 32 (.evp 0) } w

/-- With t5 = 1 and t6 = 2. -/
def tgHoldsLt (w : Nat) : State := tgWith State.reset { t := (Tab.put {} 5 1).put 6 2 } w

/-- With every region open, and t5 = 0. -/
def tgHoldsOpen (w : Nat) : State := tgWith openAll {} w

/-- With every region open, and t5 = 0x10_0008: with the immediate 8 the control-lane address of a shadow register. -/
def tgHoldsPwm (w : Nat) : State := tgWith openAll { t := Tab.put {} 5 0x10_0008 } w

/-- With every region open, core 1 of the split pair 0 runs in M-mode at 0x1000_0000, where SRAM holds `w`; `k` gives what differs from a core just started. -/
def rvHolds (k : Core → Core) (w : Nat) : State :=
  (({ ((openAll.set (PAIR_CFG_SPLIT 0) 1).set (PAIR_STAT_STATE 0) 0) with core := Tab.put {} 1 (k { live := true, pc := 0x1000_0000 }) } : State).store 0x1000_0000 4 w)

/-- The instruction that core 1 fetches in a state, with the state after the fetch. -/
def rvX (s : State) : RvWord × State := (rvFetched 1 {} s).getD (⟨0, none, 0⟩, s)

/-- What core 1 has run of the instruction it has fetched. -/
def rvY (s : State) : Nat × State := (rvRan 1 (rvX s).1 {} (rvX s).2).getD (0, s)

/-- Channel 2 has been claimed by initiator 4 in the Inner world, its command `op` with the arguments `args` is the first in the queue, and the life cycle is `lc`; every
region is open and the eight failures of R514 have not happened. -/
def mbxHolds (lc op : Nat) (args : List Nat) : State :=
  let s := openAll.each args.zipIdx (fun t p => t.set (MBX_ARG_ARG 2 p.2) p.1)
  let s1 := ((((s.set (MBX_STATUS_STATE 2) 2).set (MBX_STATUS_OWNER 2) 4).set (MBX_STATUS_WORLD 2) 1).set (MBX_CMD_OPCODE 2) op).set (MBX_CMD_GO 2) 1
  { s1 with cmp := { s1.cmp with queue := [2], ks := { lc := lc } } }

/-- The state with which Compass takes that command up. -/
def mbxTaken (s : State) : State := (s.takeUp 2 (s.get (MBX_CMD_OPCODE 2))).getD s

/-- A state with Compass changed. -/
def State.withCmp (s : State) (g : Cmp → Cmp) : State := { s with cmp := g s.cmp }


/-! ### Well-formed commands: for each check a command that it refuses, and one that passes them -/

theorem test_wf_ok : Instr.wellFormed (.registerWrite { id := 4 } 0x4000_0014 4 0xFFFF_FFFF) = true := by decide +kernel
theorem test_wf_initiator : Instr.wellFormed (.readClear { id := 64 } 0x4000_0014) = false := by decide +kernel
theorem test_wf_generation : Instr.wellFormed (.readClear { id := 4, gen := 256 } 0x4000_0014) = false := by decide +kernel
theorem test_wf_address : Instr.wellFormed (.pairLowWordRead { id := 4 } (2 ^ 40)) = false := by decide +kernel
theorem test_wf_size : Instr.wellFormed (.registerWrite { id := 4 } 0x4000_0014 0 0) = false := by decide +kernel
theorem test_wf_value : Instr.wellFormed (.fabricRequest { id := 4 } .write 0x1000_0000 4 (2 ^ 32) true .clean) = false := by decide +kernel
theorem test_wf_word16 : Instr.wellFormed (.vcoreMeasure 65536) = false := by decide +kernel
theorem test_wf_word32 : Instr.wellFormed (.triggerCtlWrite 3 (2 ^ 32)) = false := by decide +kernel
theorem test_wf_word64 : Instr.wellFormed (.triggerCompareWrite 3 (2 ^ 64)) = false := by decide +kernel
theorem test_wf_signed : Instr.wellFormed (.vcoreThermalStep (2 ^ 63)) = false := by decide +kernel
theorem test_wf_stamp : Instr.wellFormed (.captureEdge 3 true { ns := 0, frac := 256 } 0) = false := by decide +kernel
theorem test_wf_sync : Instr.wellFormed (.syncReceive 1 2 { domNum := 256, gm := 0, origin := 0, corr := 0, rx := {} }) = false := by decide +kernel
theorem test_wf_frame : Instr.wellFormed (.frameReceive 2 { bytes := [256], at_ := {} }) = false := by decide +kernel
theorem test_wf_can : Instr.wellFormed (.canFrameValid 2 { fmt := 0, data := [1, 2, 3, 4, 5, 6, 7, 8, 9] } 0) = false := by decide +kernel
theorem test_wf_inbound : Instr.wellFormed (.pcieInboundRequest { write := false, addr := 0, size := 0 }) = false := by decide +kernel
theorem test_wf_events : Instr.wellFormed (.mret 3 { events := [(9, 1)] }) = false := by decide +kernel
theorem test_wf_gateway : Instr.wellFormed (.gwPduReceive (.eth 2 [256])) = false := by decide +kernel
theorem test_wf_sample : Instr.wellFormed (.pscSample (.temp 10 0)) = false := by decide +kernel
theorem test_wf_sample_cur : Instr.wellFormed (.pscSample (.cur 40 0)) = false := by decide +kernel
theorem test_wf_mirror : Instr.wellFormed (.mirrorFrameReceive 0 [.dmem 12 0 0]) = false := by decide +kernel
theorem test_wf_bytes : Instr.wellFormed (.carouselMessageReceive [256]) = false := by decide +kernel
theorem test_wf_sum : Instr.wellFormed (.adcSlotComplete 2 (2 ^ 24) 0) = false := by decide +kernel
theorem test_wf_tag : Instr.wellFormed (.pcieCompletion 256 0 []) = false := by decide +kernel
theorem test_wf_register : Instr.wellFormed (.debugAbstractWrite 1 0x1040 0) = false := by decide +kernel
theorem test_wf_dmem : Instr.wellFormed (.tgDmemWrite 3 0x1_0000 4 0) = false := by decide +kernel
theorem test_wf_identity : Instr.wellFormed (.provDevid 2 (2 ^ 256) 0 0) = false := by decide +kernel
theorem test_wf_speed : Instr.wellFormed (.portLinkUp 3 8 0) = false := by decide +kernel

/-! ### Words and the queue -/

/-- No row of the table has bits. -/
theorem test_no_word : decodeTableWord 32 0 = none := rfl

/-- The queue is first in, first out: of two commands the one in front runs. -/
theorem test_front : step { State.reset with pending := [.regionFence, .nonceExpiry] } = exec .regionFence { State.reset with pending := [.nonceExpiry] } := rfl

/-- A command leaves the rest of the queue. -/
theorem test_rest : (step { State.reset with pending := [.regionFence, .nonceExpiry] }) =
    .next (({ State.reset with pending := [.nonceExpiry] } : State).set RGN_CTL_FENCE 1) := rfl

/-! ### Numbers from the spec's own words -/

/-- R26: VCORE is (V - 600 mV) / 2 mV. -/
theorem test_vcore : (State.reset.set SYS_CORESTAT_VCORE 0).get SYS_CORESTAT_VCORE = 0 ∧
    exec (.vcoreMeasure 800) State.reset = .next ((State.reset.set SYS_CORESTAT_VCORE 100).set SYS_CORESTAT_BELOW 0) := by
  refine ⟨by decide +kernel, rfl⟩

/-- R5: SYS_ID of the AZC-4896. -/
theorem test_sys_id : sysId .azc4896 / 2 ^ 16 = 0x4896 ∧ sysId .twinB / 2 ^ 16 = 0x489D ∧ bf (sysId .twinB) 8 1 = 1 := by decide +kernel

/-- R54: a period below 40 ns counts as 40 ns. -/
theorem test_period : (State.reset.set (GTB_TRGPER_PER 3) 39).trgPer 3 = 40 * 256 := by decide +kernel

/-- R421: the checkpoint area of the AZC-4896 is 0x00_113F_C000 to 0x00_113F_FFFF. -/
theorem test_checkpoint_area : inCheckpointArea .azc4896 0x113F_C000 = true ∧ inCheckpointArea .azc4896 0x113F_FFFF = true ∧
    inCheckpointArea .azc4896 0x113F_BFFF = false ∧ inCheckpointArea .azc4896 0x1140_0000 = false := by decide +kernel

/-- R439: the configuration and key areas of the AZC-4896. -/
theorem test_key_area : inKeyArea .azc4896 0xFF_0000 = true ∧ inKeyArea .azc4896 0x1FF_FFFF = true ∧ inKeyArea .azc4896 0xFE_FFFF = false := by decide +kernel

/-- R441: only initiator 8 reads the Compass ROM, and no one writes it. -/
theorem test_rom : State.reset.admits 0x0800_0000 { id := 8 } .read = true ∧ State.reset.admits 0x0800_0000 { id := 8 } .write = false ∧
    State.reset.admits 0x0800_0000 { id := 0 } .fetch = false := by decide +kernel

/-- R585: the low byte of a word lies at its lowest address. -/
theorem test_byte_order : (State.reset.store 0x1000_0000 4 0x1234_5678).byte 0x1000_0000 = 0x78 ∧
    (State.reset.store 0x1000_0000 4 0x1234_5678).byte 0x1000_0003 = 0x12 := by decide +kernel

/-- R13: a reserved bit reads 0, and a field takes no more than its width. -/
theorem test_width : (State.reset.set (GTB_TRGPERF_PERFRAC 3) 0x1FF).get (GTB_TRGPERF_PERFRAC 3) = 0xFF := by decide +kernel

/-- A byte written with the value of unwritten memory leaves the list. -/
theorem test_memory_form : ((State.reset.setByte 0x1000_0000 7).setByte 0x1000_0000 0).mem = [] := by decide +kernel

/-- R146: OP values without an instruction. -/
theorem test_tangram_illegal : tgLegal 0xFFFF_FFFF = false := by decide +kernel

/-! ### Witnesses of the statements over all commands -/

theorem witness_StepRunsFront : (∃ (c : Instr) (rest : List Instr) (s : State), s.pending = c :: rest) ∧ (∃ s : State, s.pending = []) :=
  ⟨⟨.regionFence, [], { State.reset with pending := [.regionFence] }, rfl⟩, ⟨State.reset, rfl⟩⟩

theorem witness_DebugReads : ∃ (r : Req) (a : Nat) (d : RegDef) (i j o : Nat) (s : State), r.debug = true ∧ s.alive = true ∧ a % 4 = 0 ∧
    0x4000_0000 ≤ a ∧ a < 0x4800_0000 ∧ within a 0x4000_8000 0x1000 = false ∧ pscAbsent s.part a = false ∧
    (within a 0x4400_0000 0x10_0000 = true → a % 0x1_0000 < 0x2000 ∧ s.canGuard ((a - 0x4400_0000) / 0x1_0000) (a % 0x1_0000) a r none .read = none) ∧
    s.portReach r a = true ∧ s.checkReq a r .read = none ∧ findReg a allRegs = some (d, i, j, o) := by
  have h : (findReg 0x4008_0010 allRegs).isSome = true := by decide +kernel
  obtain ⟨⟨d, i, j, o⟩, h⟩ := Option.isSome_iff_exists.1 h
  refine ⟨{ id := 4, debug := true }, 0x4008_0010, d, i, j, o, openAll, rfl, ?_, ?_, ?_, ?_, ?_, ?_, ?_, ?_, ?_, h⟩ <;> decide +kernel

theorem witness_AlarmLatchFull : ∃ (e : Ev) (s : State), e.src < 320 ∧ s.alarmOf e.src = none ∧ ∀ k < 256, s.on (EVR_ALMSRC_VALID k) = true :=
  ⟨{ src := 319, word := 0, at_ := {} }, State.reset.each (List.range 256) (fun t k => t.set (EVR_ALMSRC_VALID k) 1), by decide +kernel⟩

theorem witness_TriggerPeriods : ∃ (n : Fin 64) (s : State), s.on (GTB_TRGCTL_EN n) = true ∧ s.on (GTB_TRGCTL_PERIODIC n) = true ∧ s.trgCmp n ≤ s.now256 :=
  ⟨63, (State.reset.set (GTB_TRGCTL_EN 63) 1).set (GTB_TRGCTL_PERIODIC 63) 1, by decide +kernel⟩

theorem witness_UnmappedTargets : (∃ (r : Req) (a n : Nat) (s : State), s.alive = true ∧ oneGranule a n = true ∧ s.portReach r a = true ∧ s.mapped a = false ∧
      s.on RGN_VINFO_VALID = false) ∧
    ∃ (r : Req) (a n : Nat) (s : State), s.alive = true ∧ oneGranule a n = true ∧ s.portReach r a = true ∧ s.mapped a = false ∧ s.on RGN_VINFO_VALID = true :=
  ⟨⟨{ id := 4 }, 0x0200_0000, 4, openAll, by decide +kernel⟩, ⟨{ id := 63 }, 0x4FFF_FFFF, 1, openAll.set RGN_VINFO_VALID 1, by decide +kernel⟩⟩

theorem witness_MailboxChecks : (∃ (i : Instr) (r : MbxRow) (s t : State), mbxRow s.part i = some r ∧ stWaits s i = false ∧ s.takeUp r.m r.op = some t ∧
      t.lcOk r.mask = false) ∧
    ∃ (i : Instr) (r : MbxRow) (s t : State), mbxRow s.part i = some r ∧ stWaits s i = false ∧ s.takeUp r.m r.op = some t ∧ t.lcOk r.mask = true ∧
      t.callerOk r.m r.inner r.recov = false :=
  ⟨⟨.getBootstat 2, ⟨2, 0x02, 0x1E, false, false⟩, mbxHolds 0 0x02 [], mbxTaken (mbxHolds 0 0x02 []), by decide +kernel⟩,
   ⟨.cfgRead 2, ⟨2, 0x40, 0x1E, true, false⟩, (mbxHolds 3 0x40 []).set (MBX_STATUS_WORLD 2) 0, mbxTaken ((mbxHolds 3 0x40 []).set (MBX_STATUS_WORLD 2) 0), by decide +kernel⟩⟩

theorem witness_MemoryFrame : ∃ (i : Instr) (s t : State) (a : Nat), writesMemory i = false ∧ exec i s = .next t ∧ a < 0x6000_0000 :=
  ⟨.regionFence, State.reset, State.reset.set RGN_CTL_FENCE 1, 0x5FFF_FFFF, rfl, rfl, by decide⟩

theorem witness_Untouched : ∃ (i : Instr) (s t : State) (p : Piece), exec i s = .next t ∧ p ∉ touched i :=
  ⟨.regionFence, State.reset, State.reset.set RGN_CTL_FENCE 1, .mem, rfl, by decide⟩

theorem witness_MemoryForm : ∃ s t : State, Memory.wf s ∧ step s = .next t :=
  ⟨State.reset, State.reset.tick, rfl, rfl⟩

/-! ### Witnesses of the hypotheses of the statements -/

theorem witness_ModuleLinks :
    (∃ (s : State), (s.coreRuns = true) ∧ (s.pow.coreBeat = true)) ∧
    (∃ (s : State), (s.coreRuns = true) ∧ (s.pow.coreBeat = false)) ∧
    (∃ (s : State), (s.pow.coreBeat = true)) ∧
    (∃ (s : State), (s.coreRuns = true)) ∧
    (∃ (s : State), ((List.range 24).any (fun j => s.on (PWM_CTL_EN j)) = true) ∧ (s.conv.laneLost = false)) ∧
    (∃ (v : Nat) (s : State), (v < 690)) ∧
    (∃ (v : Nat) (s : State), (690 ≤ v)) ∧
    (∃ (s : State), (s.gtb.rc = false) ∧ ((State.each ((State.set (State.set { s with gtb := { s.gtb with rc := true } } SYS_CLKSTAT_XTAL_OK 0) SYS_CLKSTAT_FALLBACK 1).raise 5 0) (List.range 18) (fun t p => t.linkDown p)).on PCIE_STAT_LINKUP = false)) ∧
    (∃ (s : State), (s.gtb.rc = false) ∧ ((State.each ((State.set (State.set { s with gtb := { s.gtb with rc := true } } SYS_CLKSTAT_XTAL_OK 0) SYS_CLKSTAT_FALLBACK 1).raise 5 0) (List.range 18) (fun t p => t.linkDown p)).on PCIE_STAT_LINKUP = true)) ∧
    (∃ (s : State), (s.pow.msUp = true)) ∧
    (∃ (s : State), (s.pow.msUp = false)) :=
  ⟨⟨State.reset, by decide +kernel⟩,
   ⟨{ State.reset with pow := { State.reset.pow with coreBeat := false } }, by decide +kernel⟩,
   ⟨State.reset, by decide +kernel⟩,
   ⟨State.reset, by decide +kernel⟩,
   ⟨(State.reset.set (PWM_CTL_EN 3) 1), by decide +kernel⟩,
   ⟨689, State.reset, by decide +kernel⟩,
   ⟨690, State.reset, by decide +kernel⟩,
   ⟨State.reset, by decide +kernel⟩,
   ⟨(State.reset.set PCIE_STAT_LINKUP 1), by decide +kernel⟩,
   ⟨State.reset, by decide +kernel⟩,
   ⟨{ State.reset with pow := { State.reset.pow with msUp := false } }, by decide +kernel⟩⟩

theorem witness_TwinLink :
    (∃ (s : State), (s.part = .twinA) ∧ (s.alive = true) ∧ (s.twinCause ≠ 0)) ∧
    (∃ (s : State), (s.part = .twinA) ∧ (s.alive = true) ∧ (s.twinCause = 0)) ∧
    (∃ (c : Fin 4) (items : List MirrorItem) (s : State), (s.part = .twinB) ∧ (s.alive = true) ∧ (c.val = 0) ∧ ((s.set SYS_TWIN_MIRROR_OK 1).get SYS_TWIN_ROLE = 2)) ∧
    (∃ (c : Fin 4) (items : List MirrorItem) (s : State), (s.part = .twinB) ∧ (s.alive = true) ∧ (c.val ≠ 0) ∧ ((s.set SYS_TWIN_MIRROR_OK 1).get SYS_TWIN_ROLE ≠ 2)) ∧
    (∃ (s : State), (s.part = .twinB)) ∧
    (∃ (s : State), (s.part ≠ .twinB)) ∧
    (∃ (j : Fin 24) (s : State), (bitOf s.pow.takeover j = true) ∧ (decide (j.val < nPwm s.part) = true)) ∧
    (∃ (j : Fin 24) (s : State), (bitOf s.pow.takeover j = false) ∧ (decide (j.val < nPwm s.part) = true)) ∧
    (∃ (s : State), (s.get SYS_TWIN_ROLE = 1)) ∧
    (∃ (s : State), (s.get SYS_TWIN_ROLE ≠ 1)) :=
  ⟨⟨{ State.reset with part := .twinA, pow := { State.reset.pow with twin := 2 } }, by decide +kernel⟩,
   ⟨{ State.reset with part := .twinA }, by decide +kernel⟩,
   ⟨0, [], State.set { State.reset with part := .twinB } SYS_TWIN_ROLE 2, by decide +kernel⟩,
   ⟨1, [], State.set { State.reset with part := .twinB } SYS_TWIN_ROLE 3, by decide +kernel⟩,
   ⟨{ State.reset with part := .twinB }, by decide +kernel⟩,
   ⟨State.reset, by decide +kernel⟩,
   ⟨3, { State.reset with pow := { State.reset.pow with takeover := 8 } }, by decide +kernel⟩,
   ⟨3, State.reset, by decide +kernel⟩,
   ⟨(State.reset.set SYS_TWIN_ROLE 1), by decide +kernel⟩,
   ⟨State.reset, by decide +kernel⟩⟩

theorem witness_GtbTriggers :
    (∃ (n : Fin 64) (s : State), (s.on (GTB_TRGCTL_EN n) = true) ∧ (s.trgCmp n ≤ s.now256)) ∧
    (∃ (n : Fin 64) (s : State), (s.on (GTB_TRGCTL_EN n) = false ∨ s.now256 < s.trgCmp n)) ∧
    (∃ (n : Fin 64) (v : Nat) (s : State), ((s.set (GTB_TRGCMP_CMP n) v).on (GTB_TRGCTL_EN n) = false ∨ s.now256 < (s.set (GTB_TRGCMP_CMP n) v).trgCmp n)) ∧
    (∃ (n : Fin 64) (v : Nat) (s : State), ((s.set (GTB_TRGCMP_CMP n) v).on (GTB_TRGCTL_EN n) = true) ∧ ((s.set (GTB_TRGCMP_CMP n) v).trgCmp n ≤ s.now256)) ∧
    (∃ (n : Fin 64) (v : Nat) (s : State), ((State.arm ((((((s.set (GTB_TRGCTL_EN n) (bf v 31 1)).set (GTB_TRGCTL_PERIODIC n) (bf v 30 1)).set (GTB_TRGCTL_STEPFOLLOW n) (bf v 29 1)).set (GTB_TRGCTL_OUTEN n) (bf v 18 1)).set (GTB_TRGCTL_OUT n) (bf v 16 2)).set (GTB_TRGCTL_PULSE n) (bf v 0 16)) n).on (GTB_TRGCTL_EN n) = false ∨ s.on (GTB_TRGCTL_EN n) = true ∨ (State.arm ((((((s.set (GTB_TRGCTL_EN n) (bf v 31 1)).set (GTB_TRGCTL_PERIODIC n) (bf v 30 1)).set (GTB_TRGCTL_STEPFOLLOW n) (bf v 29 1)).set (GTB_TRGCTL_OUTEN n) (bf v 18 1)).set (GTB_TRGCTL_OUT n) (bf v 16 2)).set (GTB_TRGCTL_PULSE n) (bf v 0 16)) n).now256 < (State.arm ((((((s.set (GTB_TRGCTL_EN n) (bf v 31 1)).set (GTB_TRGCTL_PERIODIC n) (bf v 30 1)).set (GTB_TRGCTL_STEPFOLLOW n) (bf v 29 1)).set (GTB_TRGCTL_OUTEN n) (bf v 18 1)).set (GTB_TRGCTL_OUT n) (bf v 16 2)).set (GTB_TRGCTL_PULSE n) (bf v 0 16)) n).trgCmp n)) ∧
    (∃ (n : Fin 64) (v : Nat) (s : State), (s.on (GTB_TRGCTL_EN n) = false) ∧ ((State.arm ((((((s.set (GTB_TRGCTL_EN n) (bf v 31 1)).set (GTB_TRGCTL_PERIODIC n) (bf v 30 1)).set (GTB_TRGCTL_STEPFOLLOW n) (bf v 29 1)).set (GTB_TRGCTL_OUTEN n) (bf v 18 1)).set (GTB_TRGCTL_OUT n) (bf v 16 2)).set (GTB_TRGCTL_PULSE n) (bf v 0 16)) n).on (GTB_TRGCTL_EN n) = true) ∧ ((State.arm ((((((s.set (GTB_TRGCTL_EN n) (bf v 31 1)).set (GTB_TRGCTL_PERIODIC n) (bf v 30 1)).set (GTB_TRGCTL_STEPFOLLOW n) (bf v 29 1)).set (GTB_TRGCTL_OUTEN n) (bf v 18 1)).set (GTB_TRGCTL_OUT n) (bf v 16 2)).set (GTB_TRGCTL_PULSE n) (bf v 0 16)) n).trgCmp n ≤ (State.arm ((((((s.set (GTB_TRGCTL_EN n) (bf v 31 1)).set (GTB_TRGCTL_PERIODIC n) (bf v 30 1)).set (GTB_TRGCTL_STEPFOLLOW n) (bf v 29 1)).set (GTB_TRGCTL_OUTEN n) (bf v 18 1)).set (GTB_TRGCTL_OUT n) (bf v 16 2)).set (GTB_TRGCTL_PULSE n) (bf v 0 16)) n).now256)) ∧
    (∃ (u : Fin 32) (rising : Bool) (at_ st : Stamp) (held : Nat) (s : State), (s.get (GTB_CAPCTL_SRC u) < 8) ∧ (s.on (GTB_CAPCTL_EN u) = true) ∧ (bitOf (s.get (GTB_CAPCTL_EDGE u)) (if rising then 0 else 1) = true) ∧ (4 * s.get (GTB_CAPCTL_FILT u) ≤ held) ∧ (st = stampOf (fineOf at_ - 256 * (4 * s.get (GTB_CAPCTL_FILT u)))) ∧ ((s.gtb.caps.get u).length < 8)) ∧
    (∃ (u : Fin 32) (rising : Bool) (at_ st : Stamp) (held : Nat) (s : State), (s.get (GTB_CAPCTL_SRC u) < 8) ∧ (s.on (GTB_CAPCTL_EN u) = true) ∧ (bitOf (s.get (GTB_CAPCTL_EDGE u)) (if rising then 0 else 1) = true) ∧ (4 * s.get (GTB_CAPCTL_FILT u) ≤ held) ∧ (st = stampOf (fineOf at_ - 256 * (4 * s.get (GTB_CAPCTL_FILT u)))) ∧ (8 ≤ (s.gtb.caps.get u).length)) ∧
    (∃ (u : Fin 32) (rising b : Bool) (at_ t st : Stamp) (held k : Nat) (s v : State), (8 ≤ s.get (GTB_CAPCTL_SRC u)) ∧ (s.arrive (isCapDue u rising) = some (.cap k b t, v)) ∧ (s.on (GTB_CAPCTL_EN u) = true) ∧ (st = stampOf (min (max (fineOf at_) (fineOf t - 512)) (fineOf t + 512))) ∧ ((v.gtb.caps.get u).length < 8)) :=
  ⟨⟨5, (State.reset.set (GTB_TRGCTL_EN 5) 1), by decide +kernel⟩,
   ⟨5, State.reset, by decide +kernel⟩,
   ⟨5, 7, State.reset, by decide +kernel⟩,
   ⟨5, 0, (State.reset.set (GTB_TRGCTL_EN 5) 1), by decide +kernel⟩,
   ⟨5, 3, State.reset, by decide +kernel⟩,
   ⟨5, 0x8000_0000, State.reset, by decide +kernel⟩,
   ⟨5, true, {}, {}, 40, ((State.reset.set (GTB_CAPCTL_EN 5) 1).set (GTB_CAPCTL_EDGE 5) 1), by decide +kernel⟩,
   ⟨5, false, {}, {}, 40, State.set (State.set { State.reset with gtb := { State.reset.gtb with caps := Tab.put {} 5 (List.replicate 8 { at_ := {}, rising := true }) } } (GTB_CAPCTL_EN 5) 1) (GTB_CAPCTL_EDGE 5) 2, by decide +kernel⟩,
   ⟨5, true, true, {}, {}, {}, 40, 5, State.set (State.set { State.reset with due := [.cap 5 true {}] } (GTB_CAPCTL_EN 5) 1) (GTB_CAPCTL_SRC 5) 130, State.set (State.set State.reset (GTB_CAPCTL_EN 5) 1) (GTB_CAPCTL_SRC 5) 130, by decide +kernel⟩⟩

theorem witness_GtbTime :
    (∃ (s : State), (s.on GTB_CFG_SERVO = false)) ∧
    (∃ (s : State), (s.on GTB_CFG_SERVO = true)) ∧
    (∃ (s : State), (s.on GTB_CFG_SERVO = false) ∧ (s.getS GTB_ADJ_OFS ≠ 0)) ∧
    (∃ (s : State), (s.on GTB_CFG_SERVO = true ∨ s.getS GTB_ADJ_OFS = 0)) ∧
    (∃ (d : Fin 4) (p : Fin 18) (m : SyncMsg) (s : State), (s.on (GTB_DCFG_EN d) = true) ∧ (s.get (GTB_DCFG_DOMNUM d) = m.domNum) ∧ (s.slavePort d = some p.val) ∧ (((s.grandmaster d m.gm).gtb.doms.get d).last = none) ∧ ((State.setS (State.setS { (s.grandmaster d m.gm) with gtb := { (s.grandmaster d m.gm).gtb with doms := (s.grandmaster d m.gm).gtb.doms.put d { (s.grandmaster d m.gm).gtb.doms.get d with last := some ({ m with rx := s.rxStamp p m.rx } : SyncMsg), lastPort := p, lastOfs := syncOffset ({ m with rx := s.rxStamp p m.rx } : SyncMsg) (s.gtb.ports.get p).delay, silent := false } } } (GTB_DOFS_OFS d) (syncOffset ({ m with rx := s.rxStamp p m.rx } : SyncMsg) (s.gtb.ports.get p).delay)) (GTB_DRATIO_RATIO d) 0).get GTB_CFG_DOMAIN ≠ d) ∧ (hasPort s.part p = true)) ∧
    (∃ (d : Fin 4) (p : Fin 18) (m : SyncMsg) (s : State), (s.on (GTB_DCFG_EN d) = false ∨ s.get (GTB_DCFG_DOMNUM d) ≠ m.domNum ∨ s.slavePort d ≠ some p.val) ∧ (hasPort s.part p = true)) ∧
    (∃ (d : Fin 4) (m : SyncMsg) (s : State), ((s.gtb.doms.get d).last = some m) ∧ (s.on (GTB_DCFG_EN d) = true) ∧ ((s.slavePort d).isSome = true)) ∧
    (∃ (d : Fin 4) (s : State), (s.on (GTB_DCFG_EN d) = true) ∧ (s.slavePort d = none)) ∧
    (∃ (p : Fin 18) (s : State), (ptpPort p = true) ∧ (hasPort s.part p = true)) ∧
    (∃ (p : Fin 18) (m : PdelayMsg) (s : State), (ptpPort p = true) ∧ (m.kind = .pdelayReq) ∧ (hasPort s.part p = true)) ∧
    (∃ (p : Fin 18) (m : PdelayMsg) (s : State), (ptpPort p = true) ∧ (m.kind = .pdelayRespFollowUp) ∧ (m.seq = (s.gtb.ports.get p).seq) ∧ (hasPort s.part p = true)) ∧
    (∃ (d : Fin 4) (s : State), (s.on (GTB_DCFG_EN d) = true) ∧ ((s.slavePort d).isSome = true) ∧ (s.get GTB_CFG_DOMAIN = d)) ∧
    (∃ (d : Fin 4) (s : State), (s.on (GTB_DCFG_EN d) = true) ∧ ((s.slavePort d).isSome = true) ∧ (s.get GTB_CFG_DOMAIN ≠ d)) ∧
    (∃ (d : Fin 4) (s : State), (s.get GTB_CFG_DOMAIN = d)) ∧
    (∃ (d : Fin 4) (s : State), (s.get GTB_CFG_DOMAIN ≠ d)) :=
  ⟨⟨(State.reset.set GTB_CFG_SERVO 0), by decide +kernel⟩,
   ⟨(State.reset.set GTB_CFG_SERVO 1), by decide +kernel⟩,
   ⟨((State.reset.set GTB_ADJ_OFS 5).set GTB_CFG_SERVO 0), by decide +kernel⟩,
   ⟨State.reset, by decide +kernel⟩,
   ⟨1, 2, { domNum := 0, gm := 7, origin := 100, corr := 0, rx := {} }, ((State.reset.set (GTB_DCFG_EN 1) 1).set (GTB_DCFG_SLVPORT 1) 2), by decide +kernel⟩,
   ⟨1, 2, { domNum := 0, gm := 7, origin := 100, corr := 0, rx := {} }, State.reset, by decide +kernel⟩,
   ⟨1, { domNum := 0, gm := 7, origin := 100, corr := 0, rx := {} }, State.set (State.set { State.reset with gtb := { State.reset.gtb with doms := Tab.put {} 1 { last := some { domNum := 0, gm := 7, origin := 100, corr := 0, rx := {} } } } } (GTB_DCFG_EN 1) 1) (GTB_DCFG_SLVPORT 1) 2, by decide +kernel⟩,
   ⟨1, ((State.reset.set (GTB_DCFG_EN 1) 1).set (GTB_DCFG_SLVPORT 1) 31), by decide +kernel⟩,
   ⟨16, State.reset, by decide +kernel⟩,
   ⟨3, { kind := .pdelayReq, seq := 1, time := 0, rx := {} }, State.reset, by decide +kernel⟩,
   ⟨3, { kind := .pdelayRespFollowUp, seq := 0, time := 0, rx := {} }, State.reset, by decide +kernel⟩,
   ⟨0, (State.reset.set (GTB_DCFG_EN 0) 1).set (GTB_DCFG_SLVPORT 0) 2, by decide +kernel⟩,
   ⟨1, (State.reset.set (GTB_DCFG_EN 1) 1).set (GTB_DCFG_SLVPORT 1) 2, by decide +kernel⟩,
   ⟨0, State.reset, by decide +kernel⟩,
   ⟨1, State.reset, by decide +kernel⟩⟩

theorem witness_EventRouter :
    (∃ (e : Ev) (r : List Ev) (s : State), (s.evr.entering = e :: r) ∧ (s.nowNs ≤ e.at_.ns + 500)) ∧
    (∃ (e : Ev) (r : List Ev) (s : State), (s.evr.entering = e :: r) ∧ (e.at_.ns + 500 < s.nowNs)) ∧
    (∃ (b : BakObs) (e : Ev) (r : List Ev) (s : State), (s.evr.sorted = e :: r)) ∧
    (∃ (b : BakObs) (e : Ev) (r : List Ev) (s : State), (s.evr.late = e :: r)) ∧
    (∃ (e : Ev) (r : List Ev) (a : Nat) (s : State), (s.on EVR_LOGCFG_EN = true) ∧ (s.evr.logQ = e :: r) ∧ (ringNext (s.get EVR_LOGWR_WR % s.logRing) s.logRing ≠ s.get EVR_LOGRD_RD % s.logRing) ∧ (a = s.get EVR_LOGBASE_BASE / 4096 * 4096 + 16 * (s.get EVR_LOGWR_WR % s.logRing)) ∧ (s.checkReq a (ownReq 11) .write = none)) ∧
    (∃ (b : Bool) (s : State), (s.on EVR_LOGCFG_EN = true) ∧ (s.on EVR_LOGCFG_MODE = false) ∧ (ringNext (s.get EVR_LOGWR_WR % s.logRing) s.logRing = s.get EVR_LOGRD_RD % s.logRing)) ∧
    (∃ (e : Ev) (r : List Ev) (s : State), (s.on EVR_TRCCFG_EN = true) ∧ (s.evr.trcQ = e :: r)) ∧
    (∃ (src count k : Nat) (s : State), (s.alarmOf (src % 512) = some k) ∧ (count % 2 ^ 16 = s.get (EVR_ALMSRC_COUNT k))) ∧
    (∃ (src count k : Nat) (s : State), (s.alarmOf (src % 512) = some k) ∧ (count % 2 ^ 16 < s.get (EVR_ALMSRC_COUNT k))) ∧
    (∃ (src count : Nat) (s : State), (s.alarmOf (src % 512) = none)) :=
  ⟨⟨{ src := 5, word := 3, at_ := {} }, [], { State.reset with evr := { State.reset.evr with entering := [{ src := 5, word := 3, at_ := {} }] } }, by decide +kernel⟩,
   ⟨{ src := 5, word := 3, at_ := {} }, [], { State.reset with gtb := { State.reset.gtb with now := 2 ^ 60 }, evr := { State.reset.evr with entering := [{ src := 5, word := 3, at_ := {} }] } }, by decide +kernel⟩,
   ⟨{}, { src := 5, word := 3, at_ := {} }, [], { State.reset with evr := { State.reset.evr with sorted := [{ src := 5, word := 3, at_ := {} }] } }, by decide +kernel⟩,
   ⟨{}, { src := 5, word := 3, at_ := {} }, [], { State.reset with evr := { State.reset.evr with late := [{ src := 5, word := 3, at_ := {} }] } }, by decide +kernel⟩,
   ⟨{ src := 5, word := 3, at_ := {} }, [], 0x1000_0000, State.set (State.set { openAll with evr := { State.reset.evr with logQ := [{ src := 5, word := 3, at_ := {} }] } } EVR_LOGCFG_EN 1) EVR_LOGBASE_BASE 0x1000_0000, by decide +kernel⟩,
   ⟨false, ((State.reset.set EVR_LOGCFG_EN 1).set EVR_LOGRD_RD 1), by decide +kernel⟩,
   ⟨{ src := 5, word := 3, at_ := {} }, [], State.set { State.reset with evr := { State.reset.evr with trcQ := [{ src := 5, word := 3, at_ := {} }] } } EVR_TRCCFG_EN 1, by decide +kernel⟩,
   ⟨5, 2, 0, (((State.reset.set (EVR_ALMSRC_VALID 0) 1).set (EVR_ALMSRC_SRC 0) 5).set (EVR_ALMSRC_COUNT 0) 2), by decide +kernel⟩,
   ⟨5, 1, 0, (((State.reset.set (EVR_ALMSRC_VALID 0) 1).set (EVR_ALMSRC_SRC 0) 5).set (EVR_ALMSRC_COUNT 0) 2), by decide +kernel⟩,
   ⟨5, 1, State.reset, by decide +kernel⟩⟩

theorem witness_AdcSequences :
    (∃ (n : Fin 8) (d : Due) (s t : State), (s.arrive (fun d => d == .adc n) = some (d, t)) ∧ (t.on (ADC_CTL_EN n) = true) ∧ (t.adcOwner n = none) ∧ (t.on (ADC_CTL_FREERUN n) = false) ∧ (t.idling n = false) ∧ ((t.conv.adc.get n).running = false)) ∧
    (∃ (n : Fin 8) (d : Due) (s t : State), (s.arrive (fun d => d == .adc n) = some (d, t)) ∧ (t.on (ADC_CTL_EN n) = true) ∧ (t.adcOwner n = none) ∧ (t.on (ADC_CTL_FREERUN n) = false) ∧ (t.idling n = false) ∧ ((t.conv.adc.get n).running = true)) ∧
    (∃ (n : Fin 8) (s : State), (s.arrive (fun d => d == .adc n) = none)) ∧
    (∃ (n : Fin 8) (d : Due) (s t : State), (s.arrive (fun d => d == .adc n) = some (d, t)) ∧ (t.on (ADC_CTL_EN n) = false ∨ t.on (ADC_CTL_FREERUN n) = true)) ∧
    (∃ (n : Fin 8) (s : State), (s.on (ADC_CTL_EN n) = true) ∧ (s.adcOwner n = none) ∧ (s.on (ADC_CTL_FREERUN n) = false) ∧ (s.idling n = false) ∧ ((s.conv.adc.get n).running = false)) ∧
    (∃ (n : Fin 8) (s : State), (s.on (ADC_CTL_EN n) = false ∨ s.on (ADC_CTL_FREERUN n) = true)) ∧
    (∃ (n : Fin 8) (en fr : Bool) (s : State), (decide (n.val < nAdc s.part) = true)) ∧
    (∃ (n : Fin 8) (sum w k : Nat) (err : Int) (s : State), (s.conv.adc.get n = { running := true, slot := 0, slots := [w], count := k, set := none }) ∧ (bitOf w 8 = false) ∧ (bitOf w 9 = false) ∧ (s.adcOwner n = none)) ∧
    (∃ (n : Fin 8) (sum : Nat) (err : Int) (s : State), ((s.conv.adc.get n).running = false)) :=
  ⟨⟨2, .adc 2, State.set { State.reset with due := [.adc 2] } (ADC_CTL_EN 2) 1, (State.reset.set (ADC_CTL_EN 2) 1), by decide +kernel⟩,
   ⟨2, .adc 2, State.set { { State.reset with conv := { State.reset.conv with adc := Tab.put {} 2 { running := true, slot := 0, slots := [0], count := 3, set := none } } } with due := [.adc 2] } (ADC_CTL_EN 2) 1, State.set { State.reset with conv := { State.reset.conv with adc := Tab.put {} 2 { running := true, slot := 0, slots := [0], count := 3, set := none } } } (ADC_CTL_EN 2) 1, by decide +kernel⟩,
   ⟨2, State.reset, by decide +kernel⟩,
   ⟨2, .adc 2, { State.reset with due := [.adc 2] }, State.reset, by decide +kernel⟩,
   ⟨2, ((State.reset.set (ADC_CTL_EN 2) 1).set (ADC_CTL_TRIGEN 2) 1), by decide +kernel⟩,
   ⟨2, State.reset, by decide +kernel⟩,
   ⟨0, false, false, State.reset, by decide +kernel⟩,
   ⟨2, 100, 0, 3, 0, { State.reset with conv := { State.reset.conv with adc := Tab.put {} 2 { running := true, slot := 0, slots := [0], count := 3, set := none } } }, by decide +kernel⟩,
   ⟨2, 100, 0, State.reset, by decide +kernel⟩⟩

theorem witness_AdcGroups :
    (∃ (g : Fin 8) (d : Due) (s t : State), (s.arrive (fun d => d == .group g) = some (d, t))) ∧
    (∃ (g : Fin 8) (s : State), (s.arrive (fun d => d == .group g) = none)) ∧
    (∃ (g : Fin 8) (s : State), (s.on (ADC_GRP_EN g) = true)) ∧
    (∃ (g : Fin 8) (s : State), (s.on (ADC_GRP_EN g) = false)) ∧
    (∃ (g : Fin 8) (x : AdcSet) (s t : State), ((s.conv.sets.get g).find? (fun y => !y.todo.isEmpty) = some x) ∧ (x.eng ≤ 11) ∧ (x.pair = false) ∧ (State.laneDeliver (s.setUpd g x.id (fun y => { y with todo := y.todo.tail })) x.eng ((x.addr + 4 * x.todo.headD 0) % 0x1_0000) (x.words.get (x.todo.headD 0)) = (t, true))) ∧
    (∃ (g : Fin 8) (x : AdcSet) (par : List Nat) (s : State), ((s.conv.sets.get g).find? (fun y => y.sram && decide (y.left = 0) && !y.ringDone) = some x)) ∧
    (∃ (g : Fin 8) (x : AdcSet) (u : State) (s : State), ((s.conv.sets.get g).find? (fun y => decide (y.left = 0) && y.todo.isEmpty && (!y.sram || y.ringDone)) = some x) ∧ (u = State.addWrap { s with conv := { s.conv with sets := s.conv.sets.upd g (fun l => l.filter (fun y => y.id != x.id)) } } (ADC_GRPSTAT_SEQNO g) 1)) :=
  ⟨⟨2, .group 2, { State.reset with due := [.group 2] }, State.reset, by decide +kernel⟩,
   ⟨2, State.reset, by decide +kernel⟩,
   ⟨2, (State.reset.set (ADC_GRP_EN 2) 1), by decide +kernel⟩,
   ⟨2, State.reset, by decide +kernel⟩,
   ⟨2, { id := 4, convs := [(1, 1)], todo := [0], lane := true, eng := 3 }, { openAll with conv := { openAll.conv with sets := Tab.put {} 2 [{ id := 4, convs := [(1, 1)], todo := [0], lane := true, eng := 3 }] } }, (State.laneDeliver (State.setUpd { openAll with conv := { openAll.conv with sets := Tab.put {} 2 [{ id := 4, convs := [(1, 1)], todo := [0], lane := true, eng := 3 }] } } 2 4 (fun y => { y with todo := y.todo.tail })) 3 0 0).1, by decide +kernel⟩,
   ⟨2, { id := 4, convs := [(1, 1)], sram := true, size := 0, base := 0x1000_0000 }, [], { State.reset with conv := { State.reset.conv with sets := Tab.put {} 2 [{ id := 4, convs := [(1, 1)], sram := true, size := 0, base := 0x1000_0000 }] } }, by decide +kernel⟩,
   ⟨2, { id := 4, convs := [(1, 1)] }, State.addWrap { { State.reset with conv := { State.reset.conv with sets := Tab.put {} 2 [{ id := 4, convs := [(1, 1)] }] } } with conv := { State.reset.conv with sets := Tab.upd (Tab.put {} 2 [{ id := 4, convs := [(1, 1)] }]) 2 (fun l => l.filter (fun y => y.id != 4)) } } (ADC_GRPSTAT_SEQNO 2) 1, { State.reset with conv := { State.reset.conv with sets := Tab.put {} 2 [{ id := 4, convs := [(1, 1)] }] } }, by decide +kernel⟩⟩

theorem witness_Filters :
    (∃ (m : Fin 4) (l par : Bool × Bool) (v : Nat) (s u : State), (u = s.sdfUpd m (fun x => { x with bits := ((if s.on (SDF_CTL_EDGE m) then l.2 else l.1) :: x.bits).take 766, win := x.win + 1 })) ∧ (v = ofS 32 (sincMain (s.sdfOsr m) (s.sdfOrder m) (u.conv.sdf.get m).bits / 2 ^ min 24 (s.get (SDF_FLT_SHIFT m)))) ∧ (s.on (SDF_CTL_EN m) = true) ∧ (s.on (SDF_FAST_EN m) = false) ∧ (s.on (SDF_DST_EN m) = false) ∧ ((u.conv.sdf.get m).unread = false) ∧ ((u.conv.sdf.get m).unsettled ≤ 1) ∧ (s.sdfOsr m ≤ (u.conv.sdf.get m).win) ∧ (sincSpan (s.sdfOsr m) (s.sdfOrder m) ≤ (u.conv.sdf.get m).bits.length)) ∧
    (∃ (m : Fin 4) (ls : List (Bool × Bool)) (p : Bool × Bool) (s : State), (s.on (SDF_CTL_EN m) = false)) ∧
    (∃ (m : Fin 4) (d : Due) (s t : State), (s.arrive (fun d => d == .window m) = some (d, t)) ∧ (t.on (SDF_CTL_EN m) = true)) ∧
    (∃ (m : Fin 4) (l p : Bool × Bool) (out : Int) (s u v : State), (u = s.sdfUpd m (fun x => { x with bits := ((if s.on (SDF_CTL_EDGE m) then l.2 else l.1) :: x.bits).take 766, win := x.win + 1 })) ∧ (out = sincFast (s.fastOsr m) (s.fastOrder m) (u.conv.sdf.get m).bits) ∧ (s.on (SDF_CTL_EN m) = true) ∧ (s.on (SDF_FAST_EN m) = true) ∧ (sincSpan (s.fastOsr m) (s.fastOrder m) ≤ (u.conv.sdf.get m).bits.length) ∧ (s.getS (SDF_THR_HI m) < out) ∧ (s.getS (SDF_THR_LO m) ≤ out) ∧ ((u.conv.sdf.get m).line = false) ∧ (v = (State.raiseC (State.sdfUpd ((u.set (SDF_STAT_FASTHI m) 1).set (SDF_STAT_FASTLO m) 0) m (fun x => { x with line := true })) (100 + m) 2 0).tripAll (24 + m)) ∧ ((v.conv.sdf.get m).win < s.sdfOsr m)) ∧
    (∃ (m : Fin 4) (l p : Bool × Bool) (out : Int) (s u : State), (u = s.sdfUpd m (fun x => { x with bits := ((if s.on (SDF_CTL_EDGE m) then l.2 else l.1) :: x.bits).take 766, win := x.win + 1 })) ∧ (out = sincFast (s.fastOsr m) (s.fastOrder m) (u.conv.sdf.get m).bits) ∧ (s.on (SDF_CTL_EN m) = true) ∧ (s.on (SDF_FAST_EN m) = true) ∧ (sincSpan (s.fastOsr m) (s.fastOrder m) ≤ (u.conv.sdf.get m).bits.length) ∧ (out ≤ s.getS (SDF_THR_HI m)) ∧ (s.getS (SDF_THR_LO m) ≤ out) ∧ ((u.conv.sdf.get m).win < s.sdfOsr m)) ∧
    (∃ (m : Fin 4) (s : State), (s.on (SDF_CTL_EN m) = true) ∧ (s.on (SDF_FAST_EN m) = false)) ∧
    (∃ (m : Fin 4) (s : State), (s.on (SDF_CTL_EN m) = true) ∧ (s.on (SDF_FAST_EN m) = true) ∧ ((s.conv.sdf.get m).line = false)) ∧
    (∃ (m : Fin 4) (s : State), (decide (m.val < nSdf s.part) = true)) ∧
    (∃ (k : Fin 24) (v : Nat) (s : State), (s.on (CMP_CTL_EN k) = true) ∧ (s.cmpSide k v ≠ 0) ∧ (decide (k.val < nCmp s.part) = true)) ∧
    (∃ (k : Fin 24) (v : Nat) (s : State), (s.on (CMP_CTL_EN k) = false ∨ s.cmpSide k v = 0) ∧ (decide (k.val < nCmp s.part) = true)) ∧
    (∃ (k : Fin 24) (v : Nat) (s : State), ((s.conv.cmp.get k).side ≠ 0) ∧ (s.cmpReleases k (s.conv.cmp.get k).side v = true) ∧ (s.cmpSide k v = 0) ∧ (decide (k.val < nCmp s.part) = true)) ∧
    (∃ (k : Fin 24) (s : State), (decide (k.val < nCmp s.part) = true)) :=
  ⟨⟨1, (true, false), (false, false), _, State.set (State.set { State.reset with conv := { State.reset.conv with sdf := Tab.put {} 1 { bits := List.replicate 20 true, win := 3 } } } (SDF_CTL_EN 1) 1) (SDF_FLT_OSR 1) 4, _, rfl, rfl, by decide +kernel⟩,
   ⟨1, [(true, true)], (false, false), State.reset, by decide +kernel⟩,
   ⟨1, .window 1, State.set { State.reset with due := [.window 1] } (SDF_CTL_EN 1) 1, State.set State.reset (SDF_CTL_EN 1) 1, by decide +kernel⟩,
   ⟨1, (true, true), (false, false), _, State.set (State.set (State.set (State.set { State.reset with conv := { State.reset.conv with sdf := Tab.put {} 1 { bits := List.replicate 20 true, win := 0 } } } (SDF_CTL_EN 1) 1) (SDF_FAST_EN 1) 1) (SDF_FLT_OSR 1) 64) (SDF_THR_HI 1) 0, _, _, rfl, rfl, by decide +kernel, (by decide +kernel), by decide +kernel, (by decide +kernel), by decide +kernel, (by decide +kernel), rfl, by decide +kernel⟩,
   ⟨1, (true, false), (false, false), _, State.set (State.set (State.set (State.set { State.reset with conv := { State.reset.conv with sdf := Tab.put {} 1 { bits := List.replicate 20 false, win := 0 } } } (SDF_CTL_EN 1) 1) (SDF_FAST_EN 1) 1) (SDF_FLT_OSR 1) 64) (SDF_THR_HI 1) 0x7FFF, _, rfl, rfl, by decide +kernel⟩,
   ⟨1, (State.reset.set (SDF_CTL_EN 1) 1), by decide +kernel⟩,
   ⟨1, ((State.reset.set (SDF_CTL_EN 1) 1).set (SDF_FAST_EN 1) 1), by decide +kernel⟩,
   ⟨0, State.reset, by decide +kernel⟩,
   ⟨4, 10000000, (State.reset.set (CMP_CTL_EN 4) 1), by decide +kernel⟩,
   ⟨4, 0, State.reset, by decide +kernel⟩,
   ⟨4, 0, State.set { State.reset with conv := { State.reset.conv with cmp := Tab.put {} 4 { side := 1 } } } (CMP_THR_HI 4) 10, by decide +kernel⟩,
   ⟨0, State.reset, by decide +kernel⟩⟩

theorem witness_RefMonitor :
    (∃ (dev : Int) (s : State), (s.get ADC_REFCTL_THR < dev.natAbs) ∧ (s.conv.refRun = 2)) ∧
    (∃ (dev : Int) (s : State), (s.get ADC_REFCTL_THR < dev.natAbs) ∧ (s.conv.refRun ≠ 2)) ∧
    (∃ (dev : Int) (s : State), (dev.natAbs ≤ s.get ADC_REFCTL_THR)) ∧
    (∃ (s : State), (s.on ADC_REFSTAT_NOW = false)) ∧
    (∃ (s : State), (s.on ADC_REFSTAT_NOW = true)) ∧
    (∃ (i : Fin 4) (s : State), (bitOf s.conv.ext i = false)) :=
  ⟨⟨40000, { State.reset with conv := { State.reset.conv with refRun := 2 } }, by decide +kernel⟩,
   ⟨40000, State.reset, by decide +kernel⟩,
   ⟨0, State.reset, by decide +kernel⟩,
   ⟨State.reset, by decide +kernel⟩,
   ⟨(State.reset.set ADC_REFSTAT_NOW 1), by decide +kernel⟩,
   ⟨1, { State.reset with conv := { State.reset.conv with ext := 0 } }, by decide +kernel⟩⟩

theorem witness_PwmPairs :
    (∃ (j : Fin 24) (outB rise : Bool) (t : Nat) (s : State), (s.pwmEdgeTime j outB rise = some t) ∧ (s.on (PWM_STAT_RUN j) = true) ∧ ((s.conv.pwm.get j).await = false) ∧ (bitOf (s.conv.pwm.get j).taken (pwmBit outB rise) = false)) ∧
    (∃ (j : Fin 24) (outB rise : Bool) (s : State), (s.on (PWM_STAT_RUN j) = false)) ∧
    (∃ (j : Fin 24) (s : State), (decide (j.val < nPwm s.part) = true)) ∧
    (∃ (j : Fin 24) (settled : Bool) (s : State), (s.on (PWM_STAT_RUN j) = true) ∧ (s.on (PWM_CFG_SYNC j) = false)) ∧
    (∃ (j : Fin 24) (settled : Bool) (s : State), (s.on (PWM_STAT_RUN j) = true) ∧ (s.on (PWM_CFG_SYNC j) = true)) ∧
    (∃ (j : Fin 24) (s : State), (s.on (PWM_STAT_RUN j) = true) ∧ ((s.conv.pwm.get j).pend = none)) ∧
    (∃ (j : Fin 24) (s : State), (s.on (PWM_STAT_RUN j) = true) ∧ ((s.conv.pwm.get j).pend.isSome = true) ∧ (s.get (PWM_CFG_LOAD j) = 1) ∧ ((s.conv.pwm.get j).await = false)) ∧
    (∃ (j : Fin 24) (c : Nat) (s : State), (s.get (PWM_CFG_LOAD j) = 3) ∧ ((s.conv.pwm.get j).pend.isSome = true) ∧ (s.on (PWM_STAT_RUN j) = false)) ∧
    (∃ (j : Fin 24) (c : Nat) (s : State), (s.get (PWM_CFG_LOAD j) = 3) ∧ ((s.conv.pwm.get j).pend.isSome = true) ∧ (s.on (PWM_STAT_RUN j) = true) ∧ ((s.conv.pwm.get j).await = false)) ∧
    (∃ (j : Fin 24) (c : Nat) (settled : Bool) (d : Due) (s t : State), (s.arrive (fun d => d == .sync j) = some (d, t)) ∧ (t.on (PWM_CFG_SYNC j) = true) ∧ (t.on (PWM_STAT_RUN j) = true) ∧ (t.pwmPer j * t.pwmUnit j ≤ c * t.pwmUnit j + 4 * t.get (PWM_CFG_SYNCWIN j))) ∧
    (∃ (j : Fin 24) (c : Nat) (settled : Bool) (s : State), (s.arrive (fun d => d == .sync j) = none)) ∧
    (∃ (j : Fin 24) (s : State), (decide (j.val < nPwm s.part) = true)) ∧
    (∃ (j : Fin 24) (s : State), (s.on (PWM_STAT_TRIPPED j) = true) ∧ (s.pwmActive j = none) ∧ (decide (j.val < nPwm s.part) = true)) ∧
    (∃ (j : Fin 24) (s : State), (s.on (PWM_STAT_TRIPPED j) = false ∨ (s.pwmActive j).isSome = true) ∧ (decide (j.val < nPwm s.part) = true)) ∧
    (∃ (j : Fin 24) (en settled : Bool) (s : State), (decide (j.val < nPwm s.part) = true)) ∧
    (∃ (j : Fin 24) (a b : Fin 4) (s u : State), (u = (s.set (PWM_CTL_FORCEA j) a).set (PWM_CTL_FORCEB j) b) ∧ (u.pwmLive j = false) ∧ (decide (j.val < nPwm s.part) = true)) ∧
    (∃ (j : Fin 24) (a b : Fin 4) (s u : State), (u = (s.set (PWM_CTL_FORCEA j) a).set (PWM_CTL_FORCEB j) b) ∧ (u.pwmLive j = true) ∧ (decide (j.val < nPwm s.part) = true)) :=
  ⟨⟨4, false, true, 10, ((State.reset.set (PWM_STAT_RUN 4) 1).set (PWM_ACT_ONA_VALUE 4) 10).set (PWM_ACT_OFFA_VALUE 4) 20, by decide +kernel⟩,
   ⟨4, false, true, State.reset, by decide +kernel⟩,
   ⟨0, State.reset, by decide +kernel⟩,
   ⟨4, true, (State.reset.set (PWM_STAT_RUN 4) 1), by decide +kernel⟩,
   ⟨4, true, ((State.reset.set (PWM_STAT_RUN 4) 1).set (PWM_CFG_SYNC 4) 1), by decide +kernel⟩,
   ⟨4, (State.reset.set (PWM_STAT_RUN 4) 1), by decide +kernel⟩,
   ⟨4, State.set (State.set { State.reset with conv := { State.reset.conv with pwm := Tab.put {} 4 { pend := some [0, 0, 0, 0, 0, 0, 0] } } } (PWM_STAT_RUN 4) 1) (PWM_CFG_LOAD 4) 1, by decide +kernel⟩,
   ⟨4, 9, State.set { State.reset with conv := { State.reset.conv with pwm := Tab.put {} 4 { pend := some [0, 0, 0, 0, 0, 0, 0] } } } (PWM_CFG_LOAD 4) 3, by decide +kernel⟩,
   ⟨4, 9, State.set (State.set { State.reset with conv := { State.reset.conv with pwm := Tab.put {} 4 { pend := some [0, 0, 0, 0, 0, 0, 0] } } } (PWM_CFG_LOAD 4) 3) (PWM_STAT_RUN 4) 1, by decide +kernel⟩,
   ⟨4, 100000, true, .sync 4, ((State.set { State.reset with due := [.sync 4] } (PWM_STAT_RUN 4) 1).set (PWM_CFG_SYNC 4) 1), ((State.reset.set (PWM_STAT_RUN 4) 1).set (PWM_CFG_SYNC 4) 1), by decide +kernel⟩,
   ⟨4, 9, true, State.reset, by decide +kernel⟩,
   ⟨0, State.reset, by decide +kernel⟩,
   ⟨4, (State.reset.set (PWM_STAT_TRIPPED 4) 1), by decide +kernel⟩,
   ⟨4, State.reset, by decide +kernel⟩,
   ⟨0, false, false, State.reset, by decide +kernel⟩,
   ⟨4, 1, 0, State.reset, _, rfl, by decide +kernel⟩,
   ⟨4, 1, 0, State.set State.reset (PWM_CTL_EN 4) 1, _, rfl, by decide +kernel⟩⟩

theorem witness_TangramInteger :
    (∃ (x : TgAt) (rd rs1 rs2 : Fin 32) (s : State), (tgReady x (tgR 0 0x00 rd rs1 rs2 0) .plain s = true)) ∧
    (∃ (x : TgAt) (rd rs1 rs2 : Fin 32) (s : State), (tgReady x (tgR 0 0x01 rd rs1 rs2 0) .plain s = true)) ∧
    (∃ (x : TgAt) (rd rs1 rs2 : Fin 32) (s : State), (tgReady x (tgR 0 0x02 rd rs1 rs2 0) .plain s = true)) ∧
    (∃ (x : TgAt) (rd rs1 rs2 : Fin 32) (s : State), (tgReady x (tgR 0 0x03 rd rs1 rs2 0) .plain s = true)) ∧
    (∃ (x : TgAt) (rd rs1 rs2 : Fin 32) (s : State), (tgReady x (tgR 0 0x04 rd rs1 rs2 0) .plain s = true)) ∧
    (∃ (x : TgAt) (rd rs1 rs2 : Fin 32) (s : State), (tgReady x (tgR 0 0x05 rd rs1 rs2 0) .plain s = true)) ∧
    (∃ (x : TgAt) (rd rs1 rs2 : Fin 32) (s : State), (tgReady x (tgR 0 0x06 rd rs1 rs2 0) .plain s = true)) ∧
    (∃ (x : TgAt) (rd rs1 rs2 : Fin 32) (s : State), (tgReady x (tgR 0 0x07 rd rs1 rs2 0) .plain s = true)) ∧
    (∃ (x : TgAt) (rd rs1 n : Fin 32) (s : State), (tgReady x (tgR 0 0x08 rd rs1 n 0) .plain s = true)) ∧
    (∃ (x : TgAt) (rd rs1 n : Fin 32) (s : State), (tgReady x (tgR 0 0x09 rd rs1 n 0) .plain s = true)) ∧
    (∃ (x : TgAt) (rd rs1 n : Fin 32) (s : State), (tgReady x (tgR 0 0x0A rd rs1 n 0) .plain s = true)) ∧
    (∃ (x : TgAt) (rd rs1 rs2 : Fin 32) (s : State), (tgReady x (tgR 0 0x0B rd rs1 rs2 0) .plain s = true)) ∧
    (∃ (x : TgAt) (rd rs1 rs2 : Fin 32) (s : State), (tgReady x (tgR 0 0x0C rd rs1 rs2 0) .plain s = true)) ∧
    (∃ (x : TgAt) (rd rs1 rs2 : Fin 32) (s : State), (tgReady x (tgR 0 0x0D rd rs1 rs2 0) .plain s = true)) ∧
    (∃ (x : TgAt) (rd rs1 rs2 : Fin 32) (s : State), (tgReady x (tgR 0 0x0E rd rs1 rs2 0) .plain s = true)) ∧
    (∃ (x : TgAt) (rd rs1 rs2 rs3 : Fin 32) (s : State), (tgReady x (tgR 0 0x0F rd rs1 rs2 rs3) .plain s = true)) ∧
    (∃ (x : TgAt) (rd rs1 : Fin 32) (s : State), (tgReady x (tgR 0 0x10 rd rs1 0 0) .plain s = true)) ∧
    (∃ (x : TgAt) (rd rs1 rs2 : Fin 32) (s : State), (tgReady x (tgR 0 0x11 rd rs1 rs2 0) .plain s = true)) ∧
    (∃ (x : TgAt) (rd rs1 rs2 : Fin 32) (s : State), (tgReady x (tgR 0 0x12 rd rs1 rs2 0) .plain s = true)) ∧
    (∃ (x : TgAt) (rd rs1 : Fin 32) (s : State), (tgReady x (tgR 0 0x13 rd rs1 0 0) .plain s = true)) ∧
    (∃ (x : TgAt) (rd rs1 rs2 : Fin 32) (s : State), (tgReady x (tgR 0 0x14 rd rs1 rs2 0) .plain s = true)) ∧
    (∃ (x : TgAt) (rd rs1 rs2 : Fin 32) (s : State), (tgReady x (tgR 0 0x15 rd rs1 rs2 0) .plain s = true)) ∧
    (∃ (x : TgAt) (rd rs1 rs2 : Fin 32) (s : State), (tgReady x (tgR 0 0x16 rd rs1 rs2 0) .plain s = true)) ∧
    (∃ (x : TgAt) (rd rs1 rs2 : Fin 32) (s : State), (tgReady x (tgR 0 0x17 rd rs1 rs2 0) .plain s = true)) ∧
    (∃ (x : TgAt) (rd rs1 rs2 : Fin 32) (s : State), (tgReady x (tgR 0 0x18 rd rs1 rs2 0) .plain s = true)) ∧
    (∃ (x : TgAt) (rd rs1 rs2 : Fin 32) (s : State), (tgReady x (tgR 0 0x19 rd rs1 rs2 0) .plain s = true)) ∧
    (∃ (x : TgAt) (rd rs1 rs2 : Fin 32) (s : State), (tgReady x (tgR 0 0x1A rd rs1 rs2 0) .plain s = true)) ∧
    (∃ (x : TgAt) (rd rs1 : Fin 32) (imm : Fin 65536) (s : State), (tgReady x (tgI 0x04 rd rs1 imm) .plain s = true)) ∧
    (∃ (x : TgAt) (rd rs1 : Fin 32) (imm : Fin 65536) (s : State), (tgReady x (tgI 0x05 rd rs1 imm) .plain s = true)) ∧
    (∃ (x : TgAt) (rd rs1 : Fin 32) (imm : Fin 65536) (s : State), (tgReady x (tgI 0x06 rd rs1 imm) .plain s = true)) ∧
    (∃ (x : TgAt) (rd rs1 : Fin 32) (imm : Fin 65536) (s : State), (tgReady x (tgI 0x07 rd rs1 imm) .plain s = true)) ∧
    (∃ (x : TgAt) (rd : Fin 32) (imm : Fin 65536) (s : State), (tgReady x (tgI 8 rd 0 imm) .plain s = true)) ∧
    (∃ (x : TgAt) (rd rs1 : Fin 32) (imm : Fin 65536) (s : State), (tgReady x (tgI 0x09 rd rs1 imm) .plain s = true)) :=
  ⟨⟨{ e := 3 }, 4, 5, 6, tgHolds (tgR 0 0x00 4 5 6 0), by decide +kernel⟩,
   ⟨{ e := 3 }, 4, 5, 6, tgHolds (tgR 0 0x01 4 5 6 0), by decide +kernel⟩,
   ⟨{ e := 3 }, 4, 5, 6, tgHolds (tgR 0 0x02 4 5 6 0), by decide +kernel⟩,
   ⟨{ e := 3 }, 4, 5, 6, tgHolds (tgR 0 0x03 4 5 6 0), by decide +kernel⟩,
   ⟨{ e := 3 }, 4, 5, 6, tgHolds (tgR 0 0x04 4 5 6 0), by decide +kernel⟩,
   ⟨{ e := 3 }, 4, 5, 6, tgHolds (tgR 0 0x05 4 5 6 0), by decide +kernel⟩,
   ⟨{ e := 3 }, 4, 5, 6, tgHolds (tgR 0 0x06 4 5 6 0), by decide +kernel⟩,
   ⟨{ e := 3 }, 4, 5, 6, tgHolds (tgR 0 0x07 4 5 6 0), by decide +kernel⟩,
   ⟨{ e := 3 }, 4, 5, 7, tgHolds (tgR 0 0x08 4 5 7 0), by decide +kernel⟩,
   ⟨{ e := 3 }, 4, 5, 7, tgHolds (tgR 0 0x09 4 5 7 0), by decide +kernel⟩,
   ⟨{ e := 3 }, 4, 5, 7, tgHolds (tgR 0 0x0A 4 5 7 0), by decide +kernel⟩,
   ⟨{ e := 3 }, 4, 5, 6, tgHolds (tgR 0 0x0B 4 5 6 0), by decide +kernel⟩,
   ⟨{ e := 3 }, 4, 5, 6, tgHolds (tgR 0 0x0C 4 5 6 0), by decide +kernel⟩,
   ⟨{ e := 3 }, 4, 5, 6, tgHolds (tgR 0 0x0D 4 5 6 0), by decide +kernel⟩,
   ⟨{ e := 3 }, 4, 5, 6, tgHolds (tgR 0 0x0E 4 5 6 0), by decide +kernel⟩,
   ⟨{ e := 3 }, 4, 5, 6, 2, tgHolds (tgR 0 0x0F 4 5 6 2), by decide +kernel⟩,
   ⟨{ e := 3 }, 4, 5, tgHolds (tgR 0 0x10 4 5 0 0), by decide +kernel⟩,
   ⟨{ e := 3 }, 4, 5, 6, tgHolds (tgR 0 0x11 4 5 6 0), by decide +kernel⟩,
   ⟨{ e := 3 }, 4, 5, 6, tgHolds (tgR 0 0x12 4 5 6 0), by decide +kernel⟩,
   ⟨{ e := 3 }, 4, 5, tgHolds (tgR 0 0x13 4 5 0 0), by decide +kernel⟩,
   ⟨{ e := 3 }, 4, 5, 6, tgHolds (tgR 0 0x14 4 5 6 0), by decide +kernel⟩,
   ⟨{ e := 3 }, 4, 5, 6, tgHolds (tgR 0 0x15 4 5 6 0), by decide +kernel⟩,
   ⟨{ e := 3 }, 4, 5, 6, tgHolds (tgR 0 0x16 4 5 6 0), by decide +kernel⟩,
   ⟨{ e := 3 }, 4, 5, 6, tgHolds (tgR 0 0x17 4 5 6 0), by decide +kernel⟩,
   ⟨{ e := 3 }, 4, 5, 6, tgHolds (tgR 0 0x18 4 5 6 0), by decide +kernel⟩,
   ⟨{ e := 3 }, 4, 5, 6, tgHolds (tgR 0 0x19 4 5 6 0), by decide +kernel⟩,
   ⟨{ e := 3 }, 4, 5, 6, tgHolds (tgR 0 0x1A 4 5 6 0), by decide +kernel⟩,
   ⟨{ e := 3 }, 4, 5, 8, tgHolds (tgI 0x04 4 5 8), by decide +kernel⟩,
   ⟨{ e := 3 }, 4, 5, 8, tgHolds (tgI 0x05 4 5 8), by decide +kernel⟩,
   ⟨{ e := 3 }, 4, 5, 8, tgHolds (tgI 0x06 4 5 8), by decide +kernel⟩,
   ⟨{ e := 3 }, 4, 5, 8, tgHolds (tgI 0x07 4 5 8), by decide +kernel⟩,
   ⟨{ e := 3 }, 4, 8, tgHolds (tgI 8 4 0 8), by decide +kernel⟩,
   ⟨{ e := 3 }, 4, 5, 8, tgHolds (tgI 0x09 4 5 8), by decide +kernel⟩⟩

theorem witness_TangramAccumulator :
    (∃ (x : TgAt) (a rs1 rs2 : Fin 32) (s : State), (tgReady x (tgR 1 0 a rs1 rs2 0) .plain s = true)) ∧
    (∃ (x : TgAt) (a rs1 rs2 : Fin 32) (s : State), (tgReady x (tgR 1 1 a rs1 rs2 0) .plain s = true)) ∧
    (∃ (x : TgAt) (a rs1 rs2 : Fin 32) (s : State), (tgReady x (tgR 1 2 a rs1 rs2 0) .plain s = true)) ∧
    (∃ (x : TgAt) (a rs1 rs2 : Fin 32) (s : State), (tgReady x (tgR 1 3 a rs1 rs2 0) .plain s = true)) ∧
    (∃ (x : TgAt) (a : Fin 32) (s : State), (tgReady x (tgR 1 4 a 0 0 0) .plain s = true)) ∧
    (∃ (x : TgAt) (a rs1 : Fin 32) (s : State), (tgReady x (tgR 1 5 a rs1 0 0) .plain s = true)) ∧
    (∃ (x : TgAt) (a n : Fin 32) (s : State), (tgReady x (tgR 1 6 a 0 n 0) .plain s = true)) ∧
    (∃ (x : TgAt) (rd a : Fin 32) (s : State), (tgReady x (tgR 1 7 rd a 0 0) .plain s = true)) ∧
    (∃ (x : TgAt) (rd a : Fin 32) (s : State), (tgReady x (tgR 1 8 rd a 0 0) .plain s = true)) ∧
    (∃ (x : TgAt) (rd rs1 rs2 rs3 : Fin 32) (s : State), (tgReady x (tgR 1 9 rd rs1 rs2 rs3) .plain s = true)) :=
  ⟨⟨{ e := 3 }, 1, 5, 6, tgHolds (tgR 1 0 1 5 6 0), by decide +kernel⟩,
   ⟨{ e := 3 }, 1, 5, 6, tgHolds (tgR 1 1 1 5 6 0), by decide +kernel⟩,
   ⟨{ e := 3 }, 1, 5, 6, tgHolds (tgR 1 2 1 5 6 0), by decide +kernel⟩,
   ⟨{ e := 3 }, 1, 5, 6, tgHolds (tgR 1 3 1 5 6 0), by decide +kernel⟩,
   ⟨{ e := 3 }, 1, tgHolds (tgR 1 4 1 0 0 0), by decide +kernel⟩,
   ⟨{ e := 3 }, 1, 5, tgHolds (tgR 1 5 1 5 0 0), by decide +kernel⟩,
   ⟨{ e := 3 }, 1, 7, tgHolds (tgR 1 6 1 0 7 0), by decide +kernel⟩,
   ⟨{ e := 3 }, 4, 1, tgHolds (tgR 1 7 4 1 0 0), by decide +kernel⟩,
   ⟨{ e := 3 }, 4, 1, tgHolds (tgR 1 8 4 1 0 0), by decide +kernel⟩,
   ⟨{ e := 3 }, 4, 5, 6, 2, tgHolds (tgR 1 9 4 5 6 2), by decide +kernel⟩⟩

theorem witness_TangramFloat :
    (∃ (x : TgAt) (rd rs1 rs2 : Fin 32) (s : State), (tgReady x (tgR 2 0x00 rd rs1 rs2 0) .plain s = true)) ∧
    (∃ (x : TgAt) (rd rs1 rs2 : Fin 32) (s : State), (tgReady x (tgR 2 0x01 rd rs1 rs2 0) .plain s = true)) ∧
    (∃ (x : TgAt) (rd rs1 rs2 : Fin 32) (s : State), (tgReady x (tgR 2 0x02 rd rs1 rs2 0) .plain s = true)) ∧
    (∃ (x : TgAt) (rd rs1 rs2 rs3 : Fin 32) (s : State), (tgReady x (tgR 2 3 rd rs1 rs2 rs3) .plain s = true)) ∧
    (∃ (x : TgAt) (rd rs1 rs2 : Fin 32) (s : State), (tgReady x (tgR 2 0x04 rd rs1 rs2 0) .plain s = true)) ∧
    (∃ (x : TgAt) (rd rs1 : Fin 32) (s : State), (tgReady x (tgR 2 5 rd rs1 0 0) .plain s = true)) ∧
    (∃ (x : TgAt) (rd rs1 rs2 : Fin 32) (s : State), (tgReady x (tgR 2 0x06 rd rs1 rs2 0) .plain s = true)) ∧
    (∃ (x : TgAt) (rd rs1 rs2 : Fin 32) (s : State), (tgReady x (tgR 2 0x07 rd rs1 rs2 0) .plain s = true)) ∧
    (∃ (x : TgAt) (rd rs1 : Fin 32) (s : State), (tgReady x (tgR 2 8 rd rs1 0 0) .plain s = true)) ∧
    (∃ (x : TgAt) (rd rs1 : Fin 32) (s : State), (tgReady x (tgR 2 9 rd rs1 0 0) .plain s = true)) ∧
    (∃ (x : TgAt) (rd rs1 rs2 : Fin 32) (s : State), (tgReady x (tgR 2 0x0A rd rs1 rs2 0) .plain s = true)) ∧
    (∃ (x : TgAt) (rd rs1 rs2 : Fin 32) (s : State), (tgReady x (tgR 2 0x0B rd rs1 rs2 0) .plain s = true)) ∧
    (∃ (x : TgAt) (rd rs1 rs2 : Fin 32) (s : State), (tgReady x (tgR 2 0x0C rd rs1 rs2 0) .plain s = true)) ∧
    (∃ (x : TgAt) (rd rs1 : Fin 32) (s : State), (tgReady x (tgR 2 0x0D rd rs1 0 0) .plain s = true)) ∧
    (∃ (x : TgAt) (rd rs1 : Fin 32) (s : State), (tgReady x (tgR 2 0x0E rd rs1 0 0) .plain s = true)) ∧
    (∃ (x : TgAt) (rd rs1 : Fin 32) (s : State), (tgReady x (tgR 2 0x0F rd rs1 0 0) .plain s = true)) ∧
    (∃ (x : TgAt) (rd rs1 : Fin 32) (s : State), (tgReady x (tgR 2 0x10 rd rs1 0 0) .plain s = true)) :=
  ⟨⟨{ e := 3 }, 4, 5, 6, tgHolds (tgR 2 0x00 4 5 6 0), by decide +kernel⟩,
   ⟨{ e := 3 }, 4, 5, 6, tgHolds (tgR 2 0x01 4 5 6 0), by decide +kernel⟩,
   ⟨{ e := 3 }, 4, 5, 6, tgHolds (tgR 2 0x02 4 5 6 0), by decide +kernel⟩,
   ⟨{ e := 3 }, 4, 5, 6, 2, tgHolds (tgR 2 3 4 5 6 2), by decide +kernel⟩,
   ⟨{ e := 3 }, 4, 5, 6, tgHolds (tgR 2 0x04 4 5 6 0), by decide +kernel⟩,
   ⟨{ e := 3 }, 4, 5, tgHolds (tgR 2 5 4 5 0 0), by decide +kernel⟩,
   ⟨{ e := 3 }, 4, 5, 6, tgHolds (tgR 2 0x06 4 5 6 0), by decide +kernel⟩,
   ⟨{ e := 3 }, 4, 5, 6, tgHolds (tgR 2 0x07 4 5 6 0), by decide +kernel⟩,
   ⟨{ e := 3 }, 4, 5, tgHolds (tgR 2 8 4 5 0 0), by decide +kernel⟩,
   ⟨{ e := 3 }, 4, 5, tgHolds (tgR 2 9 4 5 0 0), by decide +kernel⟩,
   ⟨{ e := 3 }, 4, 5, 6, tgHolds (tgR 2 0x0A 4 5 6 0), by decide +kernel⟩,
   ⟨{ e := 3 }, 4, 5, 6, tgHolds (tgR 2 0x0B 4 5 6 0), by decide +kernel⟩,
   ⟨{ e := 3 }, 4, 5, 6, tgHolds (tgR 2 0x0C 4 5 6 0), by decide +kernel⟩,
   ⟨{ e := 3 }, 4, 5, tgHolds (tgR 2 0x0D 4 5 0 0), by decide +kernel⟩,
   ⟨{ e := 3 }, 4, 5, tgHolds (tgR 2 0x0E 4 5 0 0), by decide +kernel⟩,
   ⟨{ e := 3 }, 4, 5, tgHolds (tgR 2 0x0F 4 5 0 0), by decide +kernel⟩,
   ⟨{ e := 3 }, 4, 5, tgHolds (tgR 2 0x10 4 5 0 0), by decide +kernel⟩⟩

theorem witness_TangramControl :
    (∃ (x : TgAt) (s : State), (tgReady x (tgR 3 0 0 0 0 0) .stop s = true) ∧ ((s.tg.get x.e).user = false)) ∧
    (∃ (x : TgAt) (s : State), (tgReady x (tgR 3 0 0 0 0 0) .stop s = true) ∧ ((s.tg.get x.e).user = true)) ∧
    (∃ (x : TgAt) (rd sr : Fin 32) (s : State), (tgReady x (tgR 3 1 rd sr 0 0) .plain s = true)) ∧
    (∃ (x : TgAt) (sr rs1 : Fin 32) (s : State), (tgReady x (tgR 3 2 sr rs1 0 0) .plain s = true) ∧ ((s.tg.get x.e).user = false ∨ sr.val = 17)) ∧
    (∃ (x : TgAt) (sr rs1 : Fin 32) (s : State), (tgReady x (tgR 3 2 sr rs1 0 0) .plain s = true) ∧ ((s.tg.get x.e).user = true) ∧ (sr.val ≠ 17)) ∧
    (∃ (x : TgAt) (rs1 : Fin 32) (s : State), (tgReady x (tgR 3 3 0 rs1 0 0) .plain s = true) ∧ ((s.tg.get x.e).obuf.length < 32)) ∧
    (∃ (x : TgAt) (rs1 : Fin 32) (s : State), (tgReady x (tgR 3 3 0 rs1 0 0) .plain s = true) ∧ (32 ≤ (s.tg.get x.e).obuf.length)) ∧
    (∃ (x : TgAt) (mask value : Fin 256) (s : State), (tgReady x (tgM 0x38 mask value) .setm s = true) ∧ ((s.tg.get x.e).user = false)) ∧
    (∃ (x : TgAt) (s : State), (tgReady x (tgZ 0x39) .stop s = true)) ∧
    (∃ (x : TgAt) (s : State), (tgReady x (tgZ 0x3F) .plain s = true)) ∧
    (∃ (x : TgAt) (rs1 : Fin 32) (s : State), (tgReady x (tgR 3 4 0 rs1 0 0) .branch s = true)) ∧
    (∃ (x : TgAt) (off : Fin 67108864) (s : State), (tgReady x (tgJ 0x28 off) .branch s = true)) ∧
    (∃ (x : TgAt) (off : Fin 67108864) (s : State), (tgReady x (tgJ 0x29 off) .branch s = true)) ∧
    (∃ (x : TgAt) (rs1 rs2 : Fin 32) (off : Fin 65536) (s : State), (tgReady x (tgB 0x20 rs1 rs2 off) .branch s = true) ∧ ((s.tg.get x.e).reg rs1 = (s.tg.get x.e).reg rs2)) ∧
    (∃ (x : TgAt) (rs1 rs2 : Fin 32) (off : Fin 65536) (s : State), (tgReady x (tgB 0x20 rs1 rs2 off) .branch s = true) ∧ (¬ ((s.tg.get x.e).reg rs1 = (s.tg.get x.e).reg rs2))) ∧
    (∃ (x : TgAt) (rs1 rs2 : Fin 32) (off : Fin 65536) (s : State), (tgReady x (tgB 0x21 rs1 rs2 off) .branch s = true) ∧ ((s.tg.get x.e).reg rs1 ≠ (s.tg.get x.e).reg rs2)) ∧
    (∃ (x : TgAt) (rs1 rs2 : Fin 32) (off : Fin 65536) (s : State), (tgReady x (tgB 0x21 rs1 rs2 off) .branch s = true) ∧ (¬ ((s.tg.get x.e).reg rs1 ≠ (s.tg.get x.e).reg rs2))) ∧
    (∃ (x : TgAt) (rs1 rs2 : Fin 32) (off : Fin 65536) (s : State), (tgReady x (tgB 0x22 rs1 rs2 off) .branch s = true) ∧ ((s.tg.get x.e).regS rs1 < (s.tg.get x.e).regS rs2)) ∧
    (∃ (x : TgAt) (rs1 rs2 : Fin 32) (off : Fin 65536) (s : State), (tgReady x (tgB 0x22 rs1 rs2 off) .branch s = true) ∧ (¬ ((s.tg.get x.e).regS rs1 < (s.tg.get x.e).regS rs2))) ∧
    (∃ (x : TgAt) (rs1 rs2 : Fin 32) (off : Fin 65536) (s : State), (tgReady x (tgB 0x23 rs1 rs2 off) .branch s = true) ∧ ((s.tg.get x.e).regS rs2 ≤ (s.tg.get x.e).regS rs1)) ∧
    (∃ (x : TgAt) (rs1 rs2 : Fin 32) (off : Fin 65536) (s : State), (tgReady x (tgB 0x23 rs1 rs2 off) .branch s = true) ∧ (¬ ((s.tg.get x.e).regS rs2 ≤ (s.tg.get x.e).regS rs1))) ∧
    (∃ (x : TgAt) (rs1 rs2 : Fin 32) (off : Fin 65536) (s : State), (tgReady x (tgB 0x24 rs1 rs2 off) .branch s = true) ∧ ((s.tg.get x.e).reg rs1 < (s.tg.get x.e).reg rs2)) ∧
    (∃ (x : TgAt) (rs1 rs2 : Fin 32) (off : Fin 65536) (s : State), (tgReady x (tgB 0x24 rs1 rs2 off) .branch s = true) ∧ (¬ ((s.tg.get x.e).reg rs1 < (s.tg.get x.e).reg rs2))) ∧
    (∃ (x : TgAt) (rs1 rs2 : Fin 32) (off : Fin 65536) (s : State), (tgReady x (tgB 0x25 rs1 rs2 off) .branch s = true) ∧ ((s.tg.get x.e).reg rs2 ≤ (s.tg.get x.e).reg rs1)) ∧
    (∃ (x : TgAt) (rs1 rs2 : Fin 32) (off : Fin 65536) (s : State), (tgReady x (tgB 0x25 rs1 rs2 off) .branch s = true) ∧ (¬ ((s.tg.get x.e).reg rs2 ≤ (s.tg.get x.e).reg rs1))) ∧
    (∃ (x : TgAt) (level : Fin 2) (rs1 : Fin 32) (off : Fin 65536) (s : State), (tgReady x (tgL 0x30 level rs1 off) .loop s = true)) ∧
    (∃ (x : TgAt) (level : Fin 2) (n : Fin 512) (off : Fin 65536) (s : State), (tgReady x (tgL 0x31 level n off) .loop s = true)) :=
  ⟨⟨{ e := 3 }, tgHolds (tgR 3 0 0 0 0 0), by decide +kernel⟩,
   ⟨{ e := 3 }, tgHoldsUser (tgR 3 0 0 0 0 0), by decide +kernel⟩,
   ⟨{ e := 3 }, 4, 4, tgHolds (tgR 3 1 4 4 0 0), by decide +kernel⟩,
   ⟨{ e := 3 }, 4, 5, tgHolds (tgR 3 2 4 5 0 0), by decide +kernel⟩,
   ⟨{ e := 3 }, 4, 5, tgHoldsUser (tgR 3 2 4 5 0 0), by decide +kernel⟩,
   ⟨{ e := 3 }, 5, tgHolds (tgR 3 3 0 5 0 0), by decide +kernel⟩,
   ⟨{ e := 3 }, 5, tgHoldsFull (tgR 3 3 0 5 0 0), by decide +kernel⟩,
   ⟨{ e := 3 }, 12, 4, tgHolds (tgM 0x38 12 4), by decide +kernel⟩,
   ⟨{ e := 3 }, tgHolds (tgZ 0x39), by decide +kernel⟩,
   ⟨{ e := 3 }, tgHolds (tgZ 0x3F), by decide +kernel⟩,
   ⟨{ e := 3 }, 5, tgHolds (tgR 3 4 0 5 0 0), by decide +kernel⟩,
   ⟨{ e := 3 }, 9, tgHolds (tgJ 0x28 9), by decide +kernel⟩,
   ⟨{ e := 3 }, 9, tgHolds (tgJ 0x29 9), by decide +kernel⟩,
   ⟨{ e := 3 }, 5, 6, 9, tgHolds (tgB 0x20 5 6 9), by decide +kernel⟩,
   ⟨{ e := 3 }, 5, 6, 9, tgHoldsLt (tgB 0x20 5 6 9), by decide +kernel⟩,
   ⟨{ e := 3 }, 5, 6, 9, tgHoldsLt (tgB 0x21 5 6 9), by decide +kernel⟩,
   ⟨{ e := 3 }, 5, 6, 9, tgHolds (tgB 0x21 5 6 9), by decide +kernel⟩,
   ⟨{ e := 3 }, 5, 6, 9, tgHoldsLt (tgB 0x22 5 6 9), by decide +kernel⟩,
   ⟨{ e := 3 }, 5, 6, 9, tgHolds (tgB 0x22 5 6 9), by decide +kernel⟩,
   ⟨{ e := 3 }, 5, 6, 9, tgHolds (tgB 0x23 5 6 9), by decide +kernel⟩,
   ⟨{ e := 3 }, 5, 6, 9, tgHoldsLt (tgB 0x23 5 6 9), by decide +kernel⟩,
   ⟨{ e := 3 }, 5, 6, 9, tgHoldsLt (tgB 0x24 5 6 9), by decide +kernel⟩,
   ⟨{ e := 3 }, 5, 6, 9, tgHolds (tgB 0x24 5 6 9), by decide +kernel⟩,
   ⟨{ e := 3 }, 5, 6, 9, tgHolds (tgB 0x25 5 6 9), by decide +kernel⟩,
   ⟨{ e := 3 }, 5, 6, 9, tgHoldsLt (tgB 0x25 5 6 9), by decide +kernel⟩,
   ⟨{ e := 3 }, 0, 5, 9, tgHolds (tgL 0x30 0 5 9), by decide +kernel⟩,
   ⟨{ e := 3 }, 0, 7, 9, tgHolds (tgL 0x31 0 7 9), by decide +kernel⟩⟩

theorem witness_TangramMemory :
    (∃ (x : TgAt) (rd rs1 : Fin 32) (imm : Fin 65536) (data : TgEcc) (s : State), (tgReady x (tgI 0x10 rd rs1 imm) .plain s = true) ∧ (data = .clean) ∧ ((s.tg.get x.e).dAddr rs1 imm % 4 = 0)) ∧
    (∃ (x : TgAt) (rd rs1 : Fin 32) (imm : Fin 65536) (data : TgEcc) (s : State), (tgReady x (tgI 0x10 rd rs1 imm) .plain s = true) ∧ ((s.tg.get x.e).dAddr rs1 imm % 4 ≠ 0)) ∧
    (∃ (x : TgAt) (rd rs1 : Fin 32) (imm : Fin 65536) (data : TgEcc) (s : State), (tgReady x (tgI 0x11 rd rs1 imm) .plain s = true) ∧ (data = .clean) ∧ ((s.tg.get x.e).dAddr rs1 imm % 2 = 0)) ∧
    (∃ (x : TgAt) (rd rs1 : Fin 32) (imm : Fin 65536) (data : TgEcc) (s : State), (tgReady x (tgI 0x12 rd rs1 imm) .plain s = true) ∧ (data = .clean) ∧ ((s.tg.get x.e).dAddr rs1 imm % 2 = 0)) ∧
    (∃ (x : TgAt) (a rs1 : Fin 32) (imm : Fin 65536) (data : TgEcc) (s : State), (tgReady x (tgI 0x13 a rs1 imm) .plain s = true) ∧ (data = .clean) ∧ ((s.tg.get x.e).dAddr rs1 imm % 4 = 0)) ∧
    (∃ (x : TgAt) (rs2 rs1 : Fin 32) (imm : Fin 65536) (s : State), (tgReady x (tgS 0x14 rs2 rs1 imm) .plain s = true) ∧ ((s.tg.get x.e).dAddr rs1 imm % 4 = 0) ∧ (s.tgPaired x.e = false)) ∧
    (∃ (x : TgAt) (rs2 rs1 : Fin 32) (imm : Fin 65536) (s : State), (tgReady x (tgS 0x14 rs2 rs1 imm) .plain s = true) ∧ ((s.tg.get x.e).dAddr rs1 imm % 4 ≠ 0)) ∧
    (∃ (x : TgAt) (rs2 rs1 : Fin 32) (imm : Fin 65536) (s : State), (tgReady x (tgS 0x15 rs2 rs1 imm) .plain s = true) ∧ ((s.tg.get x.e).dAddr rs1 imm % 2 = 0) ∧ (s.tgPaired x.e = false)) ∧
    (∃ (x : TgAt) (a rs1 : Fin 32) (imm : Fin 65536) (s : State), (tgReady x (tgI 0x17 a rs1 imm) .plain s = true) ∧ ((s.tg.get x.e).dAddr rs1 imm % 4 = 0) ∧ (s.tgPaired x.e = false)) ∧
    (∃ (x : TgAt) (rd rs1 : Fin 32) (imm : Fin 65536) (parity : LaneParity) (s : State), (tgReady x (tgI 0x18 rd rs1 imm) .plain s = true) ∧ (parity = .none) ∧ ((s.tg.get x.e).laneAddr rs1 imm % 4 = 0) ∧ (lanePage ((s.tg.get x.e).laneAddr rs1 imm) = true) ∧ (s.checkReq ((s.tg.get x.e).laneAddr rs1 imm) (ownReq (16 + x.e)) .read = none)) ∧
    (∃ (x : TgAt) (rs2 rs1 : Fin 32) (imm : Fin 65536) (s : State), (tgReady x (tgS 0x19 rs2 rs1 imm) .plain s = true) ∧ ((s.tg.get x.e).laneAddr rs1 imm % 4 = 0) ∧ (lanePage ((s.tg.get x.e).laneAddr rs1 imm) = true) ∧ (s.checkReq ((s.tg.get x.e).laneAddr rs1 imm) (ownReq (16 + x.e)) .write = none) ∧ ((s.tg.get x.e).obuf.length < 32)) ∧
    (∃ (x : TgAt) (rs2 rs1 : Fin 32) (imm : Fin 65536) (s : State), (tgReady x (tgS 0x1A rs2 rs1 imm) .plain s = true) ∧ ((s.tg.get x.e).laneAddr rs1 imm % 4 = 0) ∧ (stccPage ((s.tg.get x.e).laneAddr rs1 imm) = true) ∧ (s.checkReq ((s.tg.get x.e).laneAddr rs1 imm) (ownReq (16 + x.e)) .write = none) ∧ ((s.tg.get x.e).obuf.length < 31)) :=
  ⟨⟨{ e := 3 }, 4, 5, 8, .clean, tgHolds (tgI 0x10 4 5 8), by decide +kernel⟩,
   ⟨{ e := 3 }, 4, 5, 8, .clean, tgHoldsLt (tgI 0x10 4 5 8), by decide +kernel⟩,
   ⟨{ e := 3 }, 4, 5, 8, .clean, tgHolds (tgI 0x11 4 5 8), by decide +kernel⟩,
   ⟨{ e := 3 }, 4, 5, 8, .clean, tgHolds (tgI 0x12 4 5 8), by decide +kernel⟩,
   ⟨{ e := 3 }, 1, 5, 8, .clean, tgHolds (tgI 0x13 1 5 8), by decide +kernel⟩,
   ⟨{ e := 3 }, 6, 5, 8, tgHolds (tgS 0x14 6 5 8), by decide +kernel⟩,
   ⟨{ e := 3 }, 6, 5, 8, tgHoldsLt (tgS 0x14 6 5 8), by decide +kernel⟩,
   ⟨{ e := 3 }, 6, 5, 8, tgHolds (tgS 0x15 6 5 8), by decide +kernel⟩,
   ⟨{ e := 3 }, 1, 5, 8, tgHolds (tgI 0x17 1 5 8), by decide +kernel⟩,
   ⟨{ e := 3 }, 4, 5, 8, .none, tgHoldsOpen (tgI 0x18 4 5 8), by decide +kernel⟩,
   ⟨{ e := 3 }, 6, 5, 8, tgHoldsOpen (tgS 0x19 6 5 8), by decide +kernel⟩,
   ⟨{ e := 3 }, 6, 5, 8, tgHoldsPwm (tgS 0x1A 6 5 8), by decide +kernel⟩⟩

theorem witness_TangramIterations :
    (∃ (e : Fin 12) (sl : Fin 8) (a b : Nat) (at_ : Stamp) (s t : State), (s.arrive (isSlotDue e sl) = some (.slot a b at_, t)) ∧ (t.tgLead e = e.val) ∧ (t.on (TG_SLOT_EN e sl) = true) ∧ (tgSlotValid (t.get (TG_SLOT_TYPE e sl)) (t.get (TG_SLOT_SRC e sl)) = true) ∧ ((t.tg.get e).divs.get sl < t.get (TG_SLOT_DIV e sl))) ∧
    (∃ (e : Fin 12) (sl : Fin 8) (a b : Nat) (at_ : Stamp) (s t : State), (s.arrive (isSlotDue e sl) = some (.slot a b at_, t)) ∧ (t.tgLead e = e.val) ∧ (t.on (TG_SLOT_EN e sl) = true) ∧ (tgSlotValid (t.get (TG_SLOT_TYPE e sl)) (t.get (TG_SLOT_SRC e sl)) = true) ∧ (t.get (TG_SLOT_DIV e sl) ≤ (t.tg.get e).divs.get sl)) ∧
    (∃ (e : Fin 12) (sl : Fin 8) (s : State), (s.arrive (isSlotDue e sl) = none)) ∧
    (∃ (e : Fin 12) (sl : Fin 8) (s : State), (s.tgLead e = e.val) ∧ (decide (e.val < nTg s.part) = true)) ∧
    (∃ (e : Fin 12) (sl st : Nat) (s : State), (s.tgLead e = e.val) ∧ (s.on (TG_CTL_RUN e) = true) ∧ (s.on (TG_STAT_BUSY e) = false) ∧ (s.on (TG_STAT_HOLD e) = false) ∧ (s.on (TG_PSTAT_SYNCING e) = false) ∧ (s.on (TG_PSTAT_ESC e) = false) ∧ (s.on (TG_MOVE_GO e) = false) ∧ (s.pow.blk = none) ∧ (lowestPend (s.tg.get e).pend = some (sl, st))) ∧
    (∃ (e : Fin 12) (s : State), (s.on (TG_STAT_BUSY e) = true)) ∧
    (∃ (e : Fin 12) (c : TgCmp) (s : State), (s.tgLead e = e.val) ∧ ((s.tg.get e).ended = true) ∧ (s.tgCompared e = false)) ∧
    (∃ (e : Fin 12) (s : State), (s.tgLead e = e.val) ∧ ((s.tg.get e).ended = true) ∧ (s.tgCompared e = true)) ∧
    (∃ (e : Fin 12) (s : State), (s.tgCompared e = true) ∧ (s.on (TG_STAT_BUSY e) = true)) ∧
    (∃ (e : Fin 12) (s : State), (s.tgLead e = e.val) ∧ (s.on (TG_STAT_BUSY e) = true) ∧ (s.on (TG_SLOTLIM_DEADLINE e (s.tg.get e).dslot) = true)) :=
  ⟨⟨2, 1, 2, 1, {}, { ((((State.reset.set (TG_SLOT_EN 2 1) 1).set (TG_SLOT_TYPE 2 1) 0).set (TG_SLOT_SRC 2 1) 5).set (TG_SLOT_DIV 2 1) 1) with due := [.slot 2 1 {}] }, (((State.reset.set (TG_SLOT_EN 2 1) 1).set (TG_SLOT_TYPE 2 1) 0).set (TG_SLOT_SRC 2 1) 5).set (TG_SLOT_DIV 2 1) 1, by decide +kernel⟩,
   ⟨2, 1, 2, 1, {}, { (((State.reset.set (TG_SLOT_EN 2 1) 1).set (TG_SLOT_TYPE 2 1) 0).set (TG_SLOT_SRC 2 1) 5) with due := [.slot 2 1 {}] }, (((State.reset.set (TG_SLOT_EN 2 1) 1).set (TG_SLOT_TYPE 2 1) 0).set (TG_SLOT_SRC 2 1) 5), by decide +kernel⟩,
   ⟨2, 1, State.reset, by decide +kernel⟩,
   ⟨2, 1, State.reset, by decide +kernel⟩,
   ⟨2, 1, 0, State.set { State.reset with tg := Tab.put {} 2 { pend := [(1, 0)] } } (TG_CTL_RUN 2) 1, by decide +kernel⟩,
   ⟨2, (State.reset.set (TG_STAT_BUSY 2) 1), by decide +kernel⟩,
   ⟨2, .output, { State.reset with tg := Tab.put {} 2 { ended := true } }, by decide +kernel⟩,
   ⟨2, State.set { State.reset with tg := Tab.put {} 2 { ended := true } } (TG_PCTL_PAIR 2) 1, by decide +kernel⟩,
   ⟨2, ((State.reset.set (TG_PCTL_PAIR 2) 1).set (TG_STAT_BUSY 2) 1), by decide +kernel⟩,
   ⟨2, ((State.reset.set (TG_SLOTLIM_DEADLINE 2 0) 9).set (TG_STAT_BUSY 2) 1), by decide +kernel⟩⟩

theorem witness_TangramPairs :
    (∃ (e : Fin 12) (off size v : Nat) (s : State), (s.tgLead e = e.val) ∧ (decide (e.val < nTg s.part) = true)) ∧
    (∃ (e : Fin 12) (p : Bool) (s : State), (e.val % 2 = 1 ∨ s.on (TG_CTL_RUN e) = true ∨ s.on (TG_CTL_RUN (e + 1)) = true) ∧ (decide (e.val < nTg s.part) = true)) ∧
    (∃ (e : Fin 12) (s : State), (e.val % 2 = 0) ∧ (s.on (TG_CTL_RUN e) = false) ∧ (s.on (TG_CTL_RUN (e + 1)) = false) ∧ (s.unusable (72 + e) = false) ∧ (s.unusable (73 + e) = false) ∧ (s.on (TG_PCTL_PAIR e) = false) ∧ (decide (e.val < nTg s.part) = true)) ∧
    (∃ (e : Fin 12) (s : State), (e.val % 2 = 0) ∧ (s.on (TG_CTL_RUN e) = false) ∧ (s.on (TG_CTL_RUN (e + 1)) = false) ∧ (decide (e.val < nTg s.part) = true)) ∧
    (∃ (e : Fin 12) (s : State), (s.on (TG_PSTAT_SYNCING e) = true)) ∧
    (∃ (e : Fin 12) (d : Fin 16) (s : State), (s.on (TG_MOVE_GO e) = false) ∧ (decide (e.val < nTg s.part) = true)) ∧
    (∃ (e : Fin 12) (d : Fin 16) (s : State), (s.on (TG_MOVE_GO e) = true) ∧ (decide (e.val < nTg s.part) = true)) ∧
    (∃ (e : Fin 12) (s : State), (s.on (TG_MOVE_GO e) = true) ∧ (s.on (TG_STAT_BUSY e) = false)) ∧
    (∃ (e : Fin 12) (s : State), (s.on (TG_MOVE_GO e) = true) ∧ (s.on (TG_STAT_HOLD e) = true)) ∧
    (∃ (e : Fin 12) (s : State), (s.on (TG_MOVE_FWD e) = true) ∧ (decide (e.val < nTg s.part) = true)) :=
  ⟨⟨2, 8, 4, 7, State.reset, by decide +kernel⟩,
   ⟨3, true, State.reset, by decide +kernel⟩,
   ⟨2, State.reset, by decide +kernel⟩,
   ⟨2, State.reset, by decide +kernel⟩,
   ⟨2, (State.reset.set (TG_PSTAT_SYNCING 2) 1), by decide +kernel⟩,
   ⟨2, 4, State.reset, by decide +kernel⟩,
   ⟨2, 4, (State.reset.set (TG_MOVE_GO 2) 1), by decide +kernel⟩,
   ⟨2, (State.reset.set (TG_MOVE_GO 2) 1), by decide +kernel⟩,
   ⟨2, ((State.reset.set (TG_MOVE_GO 2) 1).set (TG_STAT_HOLD 2) 1), by decide +kernel⟩,
   ⟨2, (State.reset.set (TG_MOVE_FWD 2) 1), by decide +kernel⟩⟩

theorem witness_PscCommands :
    (∃ (n : Fin 40) (r : Req) (s : State), (hasPsc s.part n = true) ∧ (s.checkReq (a_PSC_CMD n) r .write = none) ∧ (s.idling 85 = false) ∧ (s.pscOwns n r none = true) ∧ ((s.psc.queue.get (pscDieOf n)).length < 64)) ∧
    (∃ (n : Fin 40) (r : Req) (s : State), (hasPsc s.part n = true) ∧ (s.checkReq (a_PSC_CMD n) r .write = none) ∧ (s.idling 85 = false) ∧ (s.pscOwns n r none = true) ∧ ((s.psc.queue.get (pscDieOf n)).length < 64)) ∧
    (∃ (n : Fin 40) (r : Req) (s : State), (hasPsc s.part n = true) ∧ (s.checkReq (a_PSC_CMD n) r .write = none) ∧ (s.idling 85 = false) ∧ (s.pscOwns n r none = true) ∧ ((s.psc.queue.get (pscDieOf n)).length < 64)) ∧
    (∃ (n : Fin 40) (r : Req) (s : State), (hasPsc s.part n = true) ∧ (s.checkReq (a_PSC_CMD n) r .write = none) ∧ (s.idling 85 = false) ∧ (s.pscOwns n r none = true) ∧ ((s.psc.queue.get (pscDieOf n)).length < 64)) ∧
    (∃ (n : Fin 40) (r : Req) (s : State), (hasPsc s.part n = true) ∧ (s.checkReq (a_PSC_CMD n) r .write = none) ∧ (s.idling 85 = false) ∧ (s.pscOwns n r none = true) ∧ ((s.psc.queue.get (pscDieOf n)).length < 64)) ∧
    (∃ (n : Fin 40) (r : Req) (i a : Nat) (x : State × FabEnd) (s : State), (s.pscAt n (some i) = some a) ∧ (hasPsc s.part n = true) ∧ (s.checkReq a r .write = none) ∧ (x = s.viPage r .write a 4 1)) ∧
    (∃ (n : Fin 40) (r : Req) (i a : Nat) (x : State × FabEnd) (s : State), (s.pscAt n (some i) = some a) ∧ (hasPsc s.part n = true) ∧ (s.checkReq a r .write = none) ∧ (x = s.viPage r .write a 4 2)) ∧
    (∃ (n : Fin 40) (r : Req) (i a : Nat) (x : State × FabEnd) (s : State), (s.pscAt n (some i) = some a) ∧ (hasPsc s.part n = true) ∧ (s.checkReq a r .write = none) ∧ (x = s.viPage r .write a 4 3)) ∧
    (∃ (n : Fin 40) (r : Req) (i a : Nat) (x : State × FabEnd) (s : State), (s.pscAt n (some i) = some a) ∧ (hasPsc s.part n = true) ∧ (s.checkReq a r .write = none) ∧ (x = s.viPage r .write a 4 4)) ∧
    (∃ (n : Fin 40) (r : Req) (i a : Nat) (x : State × FabEnd) (s : State), (s.pscAt n (some i) = some a) ∧ (hasPsc s.part n = true) ∧ (s.checkReq a r .write = none) ∧ (x = s.viPage r .write a 4 5)) ∧
    (∃ (n : Fin 40) (r : Req) (s : State), (hasPsc s.part n = true) ∧ (s.checkReq (a_PSC_CMD n) r .write = none) ∧ (s.idling 85 = false) ∧ (s.pscOwns n r none = false)) ∧
    (∃ (n : Fin 40) (r : Req) (t : State) (s : State), (hasPsc s.part n = true) ∧ (s.checkReq (a_PSC_CMD n) r .write = some t)) ∧
    (∃ (f : Fin 2) (c : PscCmd) (q : List PscCmd) (s : State), (s.psc.queue.get f = c :: q) ∧ (c.applied = false) ∧ (s.pscTakes f = true) ∧ (hasDie s.part f = true)) ∧
    (∃ (f : Fin 2) (c : PscCmd) (q : List PscCmd) (s : State), (s.psc.queue.get f = c :: q) ∧ (c.applied = true) ∧ (hasDie s.part f = true)) ∧
    (∃ (f : Fin 2) (c : PscCmd) (q : List PscCmd) (s : State), (s.psc.queue.get f = c :: q) ∧ (s.pscTakes f = true) ∧ (hasDie s.part f = true)) ∧
    (∃ (f : Fin 2) (b : Bool) (s : State), (s.pscTakes f = false) ∧ (hasDie s.part f = true)) ∧
    (∃ (f : Fin 2) (n : Fin 40) (op : Fin 16) (s : State), (isTwin s.part = true) ∧ (s.dieMine = false) ∧ ((s.psc.die.get f).hold = false) ∧ ((s.psc.die.get f).off = false) ∧ (pscDieOf n = f) ∧ (1 ≤ op.val) ∧ (op.val ≤ 5) ∧ (hasDie s.part f = true)) ∧
    (∃ (f : Fin 2) (c : PscCmd) (q : List PscCmd) (s : State), (s.psc.queue.get f = c :: q) ∧ (c.applied = true) ∧ (hasDie s.part f = true)) ∧
    (∃ (f : Fin 2) (c : PscCmd) (q : List PscCmd) (s : State), (s.psc.queue.get f = c :: q) ∧ (c.applied = true) ∧ (hasDie s.part f = true)) ∧
    (∃ (f : Fin 2) (c : PscCmd) (q : List PscCmd) (b : Bool) (s : State), (s.psc.queue.get f = c :: q) ∧ (c.applied = false) ∧ (hasDie s.part f = true)) ∧
    (∃ (f : Fin 2) (c : PscCmd) (q : List PscCmd) (s : State), (s.psc.queue.get f = c :: q) ∧ (c.resent < 3) ∧ (hasDie s.part f = true)) ∧
    (∃ (f : Fin 2) (c : PscCmd) (q : List PscCmd) (s : State), (s.psc.queue.get f = c :: q) ∧ (c.resent = 3) ∧ (hasDie s.part f = true)) :=
  ⟨⟨3, { id := 8 }, openAll, by decide +kernel⟩,
   ⟨3, { id := 8 }, openAll, by decide +kernel⟩,
   ⟨3, { id := 8 }, openAll, by decide +kernel⟩,
   ⟨3, { id := 8 }, openAll, by decide +kernel⟩,
   ⟨3, { id := 8 }, openAll, by decide +kernel⟩,
   ⟨3, { id := 4 }, 7, 0x6007_2000, (((openAll.set (VIM_IATT_PSC 7) 1).set (VIM_PSCMASK_CH 7) 8).viPage { id := 4 } .write 0x6007_2000 4 1), ((openAll.set (VIM_IATT_PSC 7) 1).set (VIM_PSCMASK_CH 7) 8), by decide +kernel, (by decide +kernel), by decide +kernel, rfl⟩,
   ⟨3, { id := 4 }, 7, 0x6007_2000, (((openAll.set (VIM_IATT_PSC 7) 1).set (VIM_PSCMASK_CH 7) 8).viPage { id := 4 } .write 0x6007_2000 4 2), ((openAll.set (VIM_IATT_PSC 7) 1).set (VIM_PSCMASK_CH 7) 8), by decide +kernel, (by decide +kernel), by decide +kernel, rfl⟩,
   ⟨3, { id := 4 }, 7, 0x6007_2000, (((openAll.set (VIM_IATT_PSC 7) 1).set (VIM_PSCMASK_CH 7) 8).viPage { id := 4 } .write 0x6007_2000 4 3), ((openAll.set (VIM_IATT_PSC 7) 1).set (VIM_PSCMASK_CH 7) 8), by decide +kernel, (by decide +kernel), by decide +kernel, rfl⟩,
   ⟨3, { id := 4 }, 7, 0x6007_2000, (((openAll.set (VIM_IATT_PSC 7) 1).set (VIM_PSCMASK_CH 7) 8).viPage { id := 4 } .write 0x6007_2000 4 4), ((openAll.set (VIM_IATT_PSC 7) 1).set (VIM_PSCMASK_CH 7) 8), by decide +kernel, (by decide +kernel), by decide +kernel, rfl⟩,
   ⟨3, { id := 4 }, 7, 0x6007_2000, (((openAll.set (VIM_IATT_PSC 7) 1).set (VIM_PSCMASK_CH 7) 8).viPage { id := 4 } .write 0x6007_2000 4 5), ((openAll.set (VIM_IATT_PSC 7) 1).set (VIM_PSCMASK_CH 7) 8), by decide +kernel, (by decide +kernel), by decide +kernel, rfl⟩,
   ⟨3, { id := 8 }, (openAll.set (PSC_OWN_MODE 3) 3), by decide +kernel⟩,
   ⟨3, { id := 9 }, (State.reset.checkReq (a_PSC_CMD 3) { id := 9 } .write).getD State.reset, State.reset, by decide +kernel⟩,
   ⟨0, { n := 3, op := 1 }, [], { State.reset with psc := { State.reset.psc with queue := Tab.put {} 0 [{ n := 3, op := 1 }], die := Tab.put {} 0 { loaded := true } } }, by decide +kernel⟩,
   ⟨0, { n := 3, op := 1, applied := true }, [], { State.reset with psc := { State.reset.psc with queue := Tab.put {} 0 [{ n := 3, op := 1, applied := true }] } }, by decide +kernel⟩,
   ⟨0, { n := 3, op := 1 }, [], { State.reset with psc := { State.reset.psc with queue := Tab.put {} 0 [{ n := 3, op := 1 }], die := Tab.put {} 0 { loaded := true } } }, by decide +kernel⟩,
   ⟨0, true, { State.reset with psc := { State.reset.psc with die := Tab.put {} 0 { hold := true } } }, by decide +kernel⟩,
   ⟨0, 3, 1, State.set { State.reset with part := .twinB } SYS_TWIN_ROLE 2, by decide +kernel⟩,
   ⟨0, { n := 3, op := 1, applied := true }, [], { State.reset with psc := { State.reset.psc with queue := Tab.put {} 0 [{ n := 3, op := 1, applied := true }] } }, by decide +kernel⟩,
   ⟨0, { n := 3, op := 1, applied := true }, [], { State.reset with psc := { State.reset.psc with queue := Tab.put {} 0 [{ n := 3, op := 1, applied := true }] } }, by decide +kernel⟩,
   ⟨0, { n := 3, op := 1 }, [], true, { State.reset with psc := { State.reset.psc with queue := Tab.put {} 0 [{ n := 3, op := 1 }] } }, by decide +kernel⟩,
   ⟨0, { n := 3, op := 1 }, [], { State.reset with psc := { State.reset.psc with queue := Tab.put {} 0 [{ n := 3, op := 1 }] } }, by decide +kernel⟩,
   ⟨0, { n := 3, op := 1, resent := 3 }, [], { State.reset with psc := { State.reset.psc with queue := Tab.put {} 0 [{ n := 3, op := 1, resent := 3 }] } }, by decide +kernel⟩⟩

theorem witness_PscMeasurement :
    (∃ (n : Nat) (i : Int) (s : State), (s.pscHeld n = false) ∧ (sampleCarried s.part (.cur n i) = true)) ∧
    (∃ (n : Nat) (v : Int) (s : State), (s.pscHeld n = false) ∧ (sampleCarried s.part (.vout n v) = true)) ∧
    (∃ (n m : Nat) (s : State), (s.pscHeld n = false) ∧ ((s.psc.ch.get n).cnt ≠ 0) ∧ (m = (s.psc.ch.get n).sum / (s.psc.ch.get n).cnt) ∧ (sampleCarried s.part (.avg n) = true)) ∧
    (∃ (n : Nat) (i : Int) (s : State), (s.pscHeld n = true) ∧ (sampleCarried s.part (.cur n i) = true)) ∧
    (∃ (f vpwr : Nat) (u : State) (s : State), ((s.psc.die.get f).hold = false) ∧ (u = ((s.dieUpd f (fun d => { d with isum := s.feedSum f, uv := d.uv && decide (vpwr < 6000), uvCh := d.uv && decide (4500 ≤ vpwr) && decide (vpwr < 6000), ov := d.ov && decide (18000 < vpwr), overMs := if 100 * min 80 (s.dget (PSC_FEEDCFG_FEEDLIM f)) < s.feedSum f then d.overMs + 1 else 0 })).dieShow f).roomSee f true) ∧ (sampleCarried s.part (.feed f vpwr) = true)) ∧
    (∃ (g : Nat) (t : Int) (s : State), (t < 1500) ∧ (10 * (s.twarn (if g < 5 then 0 else 1) : Nat) < t) ∧ ((s.psc.die.get (if g < 5 then 0 else 1)).hold = false) ∧ (sampleCarried s.part (.temp g t) = true)) ∧
    (∃ (f : Nat) (s : State), ((s.psc.die.get f).hold = false) ∧ (sampleCarried s.part (.bad f) = true)) ∧
    (∃ (n : Fin 40) (s : State), ((s.psc.ch.get n).low = true) ∧ (s.dget (PSC_CFG_LOWRANGE n) ≠ 0) ∧ (hasPsc s.part n = true)) ∧
    (∃ (n : Fin 40) (s : State), ((s.psc.ch.get n).low = false) ∧ (s.dget (PSC_CFG_LOWRANGE n) ≠ 0) ∧ (hasPsc s.part n = true)) ∧
    (∃ (n : Fin 40) (s : State), (s.dget (PSC_CFG_LOWRANGE n) = 0) ∧ (hasPsc s.part n = true)) ∧
    (∃ (s : State), (s.on PSC_RECCTL_EN = true) ∧ (s.checkReq (s.get PSC_RECBASE_BASE * 4096 + s.get PSC_RECWR_WR % (2 ^ (s.get PSC_RECCTL_SIZE + 12) / 256) * 256) (ownReq 14) .write = none)) ∧
    (∃ (n : Fin 40) (periodic : Bool) (v : Int) (s : State), ((s.psc.ch.get n).st = 0) ∧ ((if periodic then 2 else 1) ≤ s.dget (PSC_CFG_OLOFF n)) ∧ (hasPsc s.part n = true)) ∧
    (∃ (n : Fin 40) (v : Int) (s : State), ((s.psc.ch.get n).checking = true) ∧ ((s.dget (PSC_OL_OLTHR n) : Int) * 50 < v) ∧ (hasPsc s.part n = true)) ∧
    (∃ (n : Fin 40) (v : Int) (s : State), ((s.psc.ch.get n).checking = true) ∧ (v ≤ (s.dget (PSC_OL_OLTHR n) : Int) * 50) ∧ (hasPsc s.part n = true)) ∧
    (∃ (n : Fin 40) (largest : Nat) (s : State), (s.dget (PSC_CFG_ONOL n) = 1) ∧ (s.dget (PSC_CFG_LOWRANGE n) = 1) ∧ ((s.psc.ch.get n).st = 1) ∧ ((s.psc.ch.get n).inrush = 0) ∧ (largest < min 5000 (s.dget (PSC_OL_ONOLTHR n))) ∧ (hasPsc s.part n = true)) :=
  ⟨⟨3, 7, State.reset, by decide +kernel⟩,
   ⟨3, 7, State.reset, by decide +kernel⟩,
   ⟨3, 5, { State.reset with psc := { State.reset.psc with ch := Tab.put {} 3 { sum := 15, cnt := 3, vsum := 9, vcnt := 3 } } }, by decide +kernel⟩,
   ⟨3, 7, { State.reset with psc := { State.reset.psc with die := Tab.put {} 0 { hold := true } } }, by decide +kernel⟩,
   ⟨0, 12000, _, State.reset, by decide +kernel, rfl, by decide +kernel⟩,
   ⟨3, 1450, State.reset, by decide +kernel⟩,
   ⟨0, State.reset, by decide +kernel⟩,
   ⟨3, State.dset { State.reset with psc := { State.reset.psc with ch := Tab.put {} 3 { low := true } } } (PSC_CFG_LOWRANGE 3) 1, by decide +kernel⟩,
   ⟨3, State.dset State.reset (PSC_CFG_LOWRANGE 3) 1, by decide +kernel⟩,
   ⟨3, State.dset State.reset (PSC_CFG_LOWRANGE 3) 0, by decide +kernel⟩,
   ⟨((openAll.set PSC_RECCTL_EN 1).set PSC_RECBASE_BASE 0x10000), by decide +kernel⟩,
   ⟨3, true, 7, State.dset State.reset (PSC_CFG_OLOFF 3) 2, by decide +kernel⟩,
   ⟨3, 100000, { State.reset with psc := { State.reset.psc with ch := Tab.put {} 3 { checking := true } } }, by decide +kernel⟩,
   ⟨3, 0, { State.reset with psc := { State.reset.psc with ch := Tab.put {} 3 { checking := true } } }, by decide +kernel⟩,
   ⟨3, 0, State.dset (State.dset (State.dset { State.reset with psc := { State.reset.psc with ch := Tab.put {} 3 { st := 1 } } } (PSC_CFG_ONOL 3) 1) (PSC_CFG_LOWRANGE 3) 1) (PSC_OL_ONOLTHR 3) 9, by decide +kernel⟩⟩

theorem witness_PscProtection :
    (∃ (n : Fin 40) (l : List Nat) (s : State), (s.dget (PSC_PROT_OCFILT n) + 1 ≤ l.length) ∧ (l.all (fun i => decide (s.pscOcThr n < i)) = true) ∧ (hasPsc s.part n = true)) ∧
    (∃ (n : Fin 40) (l : List Nat) (s : State), (l.all (fun i => decide (s.pscOcThr n < i)) = false) ∧ (hasPsc s.part n = true)) ∧
    (∃ (n : Fin 40) (s : State), ((s.psc.ch.get n).cause ≠ 1) ∧ (hasPsc s.part n = true)) ∧
    (∃ (n : Fin 40) (s : State), ((s.psc.ch.get n).st = 4) ∧ ((s.psc.ch.get n).cause = 1) ∧ ((s.psc.ch.get n).ocCycle = some ((s.pscStep (pscDieOf n) 2).psc.die.get (pscDieOf n)).cycle) ∧ (hasPsc s.part n = true)) ∧
    (∃ (g : Fin 10) (t : Int) (s : State), (1700 ≤ t) ∧ (hasPsc s.part (4 * g) = true)) ∧
    (∃ (n : Fin 40) (q : Nat) (s : State), (s.wireClass n = none) ∧ (hasPsc s.part n = true)) ∧
    (∃ (n : Fin 40) (q itrip tau : Nat) (s : State), (s.wireClass n = some (itrip, tau)) ∧ (s.dget (PSC_PROT_I2TWARN n) = 0) ∧ (wireStep itrip tau (((s.chUpd n (fun c => { c with inrush := c.inrush - 1 })).pscShow n).psc.ch.get n).x q < 2 ^ 48) ∧ (hasPsc s.part n = true)) ∧
    (∃ (n : Fin 40) (s : State), ((s.psc.ch.get n).st = 3) ∧ ((s.psc.ch.get n).otWait = false) ∧ (hasPsc s.part n = true)) ∧
    (∃ (n : Fin 40) (s : State), ((s.psc.ch.get n).live = true) ∧ (hasPsc s.part n = true)) ∧
    (∃ (n : Fin 40) (s : State), ((s.psc.ch.get n).clampTimes = []) ∧ ((if n.val < 36 then 6 else 2) = 6) ∧ (hasPsc s.part n = true)) ∧
    (∃ (n : Fin 40) (per duty : Nat) (s : State), ((s.psc.ch.get n).st = 2) ∧ (per = min 4000 (max 100 (s.dget (PSC_PWMC_PERIOD n)))) ∧ (duty = s.dget (PSC_PWMC_DUTY n)) ∧ (hasPsc s.part n = true)) ∧
    (∃ (n : Fin 40) (s : State), ((s.psc.ch.get n).st = 2) ∧ (pscSteady n (s.psc.ch.get n).per (s.psc.ch.get n).duty = none) ∧ (hasPsc s.part n = true)) ∧
    (∃ (n : Fin 40) (b : Bool) (s : State), ((s.psc.ch.get n).st ≠ 2) ∧ (hasPsc s.part n = true)) ∧
    (∃ (f : Fin 2) (n : Nat) (u s : State), (s.shedDue f none = true) ∧ (u = (s.pscStep f 4).shedAgain f none) ∧ (u.shedPick ((pscOfDie f).filter (fun _ => true)) = some n) ∧ (hasDie s.part f = true)) ∧
    (∃ (f : Fin 2) (u s : State), (s.shedDue f none = true) ∧ (u = (s.pscStep f 4).shedAgain f none) ∧ (u.shedPick ((pscOfDie f).filter (fun _ => true)) = none) ∧ (hasDie s.part f = true)) ∧
    (∃ (f : Fin 2) (hot : Option (Fin 10)) (s : State), (s.shedDue f hot = false) ∧ (hasDie s.part f = true)) ∧
    (∃ (f : Fin 2) (n : Nat) (s : State), (s.restorePick f = some n) ∧ (s.shedRoom f n = true) ∧ (1000 ≤ (s.psc.die.get f).room) ∧ ((s.psc.die.get f).roomCh = n) ∧ (hasDie s.part f = true)) :=
  ⟨⟨3, List.replicate 300 100000, State.reset, by decide +kernel⟩,
   ⟨3, [0], State.reset, by decide +kernel⟩,
   ⟨3, State.reset, by decide +kernel⟩,
   ⟨3, { State.reset with psc := { State.reset.psc with ch := Tab.put {} 3 { st := 4, cause := 1, ocCycle := some 0 } } }, by decide +kernel⟩,
   ⟨3, 1700, State.reset, by decide +kernel⟩,
   ⟨3, 7, State.dset State.reset (PSC_CFG_WCLS 3) 0, by decide +kernel⟩,
   ⟨3, 0, 2500, 50, State.dset (State.dset State.reset (PSC_CFG_WCLS 3) 1) (PSC_PROT_I2TWARN 3) 0, by decide +kernel⟩,
   ⟨3, { State.reset with psc := { State.reset.psc with ch := Tab.put {} 3 { st := 3 } } }, by decide +kernel⟩,
   ⟨3, { State.reset with psc := { State.reset.psc with ch := Tab.put {} 3 { st := 1 } } }, by decide +kernel⟩,
   ⟨3, State.reset, by decide +kernel⟩,
   ⟨3, _, _, { State.reset with psc := { State.reset.psc with ch := Tab.put {} 3 { st := 2 } } }, by decide +kernel, rfl, rfl, by decide +kernel⟩,
   ⟨3, { State.reset with psc := { State.reset.psc with ch := Tab.put {} 3 { st := 2, per := 1000, duty := 512 } } }, by decide +kernel⟩,
   ⟨3, false, State.reset, by decide +kernel⟩,
   ⟨0, 3, _, State.dset { State.reset with psc := { State.reset.psc with ch := Tab.put {} 3 { st := 1 }, die := Tab.put {} 0 { overMs := 5000 } } } (PSC_CFG_PRIO 3) 1, by decide +kernel, rfl, by decide +kernel⟩,
   ⟨0, _, { State.reset with psc := { State.reset.psc with die := Tab.put {} 0 { overMs := 5000 } } }, by decide +kernel, rfl, by decide +kernel⟩,
   ⟨0, none, State.reset, by decide +kernel⟩,
   ⟨0, 3, { State.reset with psc := { State.reset.psc with ch := Tab.put {} 3 { st := 5 }, die := Tab.put {} 0 { room := 1000, roomCh := 3 } } }, by decide +kernel⟩⟩

theorem witness_PscHoldAndFeed :
    (∃ (f : Fin 2) (s : State), (hasDie s.part f = true) ∧ (s.alive = true) ∧ (s.cmp.scan = false) ∧ (s.dieMine = true) ∧ ((s.psc.die.get f).off = false) ∧ ((s.psc.die.get f).hold = false)) ∧
    (∃ (f : Fin 2) (s : State), (hasDie s.part f = true) ∧ (s.alive = true) ∧ (s.cmp.scan = false) ∧ (s.dieMine = true) ∧ ((s.psc.die.get f).off = false) ∧ ((s.psc.die.get f).hold = true)) ∧
    (∃ (f : Fin 2) (s : State), ((s.psc.die.get f).hold = false) ∧ ((s.psc.die.get f).off = false) ∧ (hasDie s.part f = true)) ∧
    (∃ (f : Fin 2) (ms : Nat) (s : State), ((s.psc.die.get f).hold = true) ∧ ((s.psc.die.get f).off = false) ∧ (ms = s.holdMs f) ∧ (hasDie s.part f = true)) ∧
    (∃ (f : Fin 2) (s : State), ((s.psc.die.get f).hold = false) ∧ (hasDie s.part f = true)) ∧
    (∃ (f : Fin 2) (s : State), (s.alive = true) ∧ (hasDie s.part f = true)) ∧
    (∃ (f : Fin 2) (s : State), (hasDie s.part f = true)) ∧
    (∃ (f : Fin 2) (s : State), ((s.psc.die.get f).off = true) ∧ (s.alive = true) ∧ (hasDie s.part f = true)) ∧
    (∃ (f : Fin 2) (s : State), (hasDie s.part f = true) ∧ ((s.psc.die.get f).hold = false) ∧ ((s.psc.die.get f).off = false) ∧ ((s.psc.die.get f).configured = false) ∧ ((s.psc.die.get f).restarted = true)) ∧
    (∃ (f : Fin 2) (v : Nat) (s : State), (v < 6000) ∧ ((s.psc.die.get f).uv = false) ∧ (hasDie s.part f = true)) ∧
    (∃ (f : Fin 2) (v : Nat) (s : State), (6000 ≤ v) ∧ (hasDie s.part f = true)) ∧
    (∃ (f : Fin 2) (v : Nat) (s : State), (18000 < v) ∧ ((s.psc.die.get f).ov = false) ∧ (hasDie s.part f = true)) ∧
    (∃ (f : Fin 2) (v : Nat) (s : State), (v ≤ 18000) ∧ (hasDie s.part f = true)) :=
  ⟨⟨0, State.reset, by decide +kernel⟩,
   ⟨0, { State.reset with psc := { State.reset.psc with die := Tab.put {} 0 { hold := true } } }, by decide +kernel⟩,
   ⟨0, State.reset, by decide +kernel⟩,
   ⟨0, _, { State.reset with psc := { State.reset.psc with die := Tab.put {} 0 { hold := true } } }, by decide +kernel, (by decide +kernel), rfl, by decide +kernel⟩,
   ⟨0, State.reset, by decide +kernel⟩,
   ⟨0, State.reset, by decide +kernel⟩,
   ⟨0, State.reset, by decide +kernel⟩,
   ⟨0, { State.reset with psc := { State.reset.psc with die := Tab.put {} 0 { off := true } } }, by decide +kernel⟩,
   ⟨0, { State.reset with psc := { State.reset.psc with die := Tab.put {} 0 { restarted := true } } }, by decide +kernel⟩,
   ⟨0, 5999, State.reset, by decide +kernel⟩,
   ⟨0, 6000, State.reset, by decide +kernel⟩,
   ⟨0, 18001, State.reset, by decide +kernel⟩,
   ⟨0, 18000, State.reset, by decide +kernel⟩⟩

theorem witness_EthernetPorts :
    (∃ (p : Fin 18) (s : State), (hasPort s.part p = true)) ∧
    (∃ (p : Fin 18) (speed sqi sp : Nat) (u s : State), (s.phyLive p = true) ∧ (2 ≤ p.val) ∧ (p.val < 16) ∧ (sp = (if p.val < 8 then 3 else if p.val < 12 then 2 else 1)) ∧ (u = ((((State.ethSettle { (s.set (EPORT_PHYSTAT_SQI p) sqi) with esw := { s.esw with fault := putBit s.esw.fault (p) false } } (p)).set (EPORT_PHYSTAT_LINK (p)) 1).set (EPORT_PHYSTAT_LOCK (p)) 1).set (EPORT_STAT_SPEED (p)) sp).wakeConfirm (if p.val < 12 then 24 + p.val else 64)) ∧ (u.on (EPORT_CFG_EN p) = true) ∧ (u.portUp p = false) ∧ (hasPort s.part p = true)) ∧
    (∃ (p : Fin 18) (speed sqi : Nat) (s : State), (s.phyLive p = false) ∧ (hasPort s.part p = true)) ∧
    (∃ (p : Fin 18) (s : State), (s.get (EPORT_STAT_STATE p) = 2) ∧ (hasPort s.part p = true)) ∧
    (∃ (p : Fin 18) (s : State), (s.get (EPORT_STAT_STATE p) ≠ 2) ∧ (hasPort s.part p = true)) ∧
    (∃ (p : Fin 22) (u s : State), (u = s.set (EPORT_CFG_EN p) 0) ∧ ((decide (18 ≤ p.val) || hasPort s.part p) = true)) ∧
    (∃ (p : Fin 4) (s : State), (s.on (EPORT_PLCA_EN (12 + p.val)) = true) ∧ (s.get (EPORT_PLCA_NODEID (12 + p.val)) ≠ 0) ∧ (s.get (EPORT_PLCA_NODEID (12 + p.val)) ≠ 255) ∧ (s.on (EPORT_PHYSTAT_LINK (12 + p.val)) = true) ∧ (hasPort s.part (12 + p) = true)) ∧
    (∃ (p : Fin 4) (s : State), (s.on (EPORT_PLCA_EN (12 + p.val)) = true) ∧ (s.on (EPORT_CFG_EN (12 + p.val)) = true) ∧ (s.phyLive (12 + p.val) = true) ∧ (s.get (EPORT_PLCA_NODEID (12 + p.val)) = 0) ∧ (hasPort s.part (12 + p) = true)) ∧
    (∃ (p : Fin 4) (u s : State), (s.on (EPORT_PLCA_EN (12 + p.val)) = true) ∧ (s.on (EPORT_CFG_EN (12 + p.val)) = true) ∧ (s.phyLive (12 + p.val) = true) ∧ (s.get (EPORT_PLCA_NODEID (12 + p.val)) ≠ 0) ∧ (s.get (EPORT_PLCA_NODEID (12 + p.val)) ≠ 255) ∧ (s.portUp (12 + p.val) = false) ∧ (u = ((((State.ethSettle { s with esw := { s.esw with fault := putBit s.esw.fault ((12 + p.val)) false } } ((12 + p.val))).set (EPORT_PHYSTAT_LINK ((12 + p.val))) 1).set (EPORT_PHYSTAT_LOCK ((12 + p.val))) 1).set (EPORT_STAT_SPEED ((12 + p.val))) 1).wakeConfirm 64) ∧ (u.on (EPORT_CFG_EN (12 + p.val)) = true) ∧ (u.portUp (12 + p.val) = false) ∧ (hasPort s.part (12 + p) = true)) :=
  ⟨⟨0, State.reset, by decide +kernel⟩,
   ⟨5, 3, 2, 3, _, (State.set (State.set (State.set { State.reset with pow := { State.reset.pow with bringUp := none } } (EPORT_PHYCFG_PHYEN 5) 1) (EPORT_CFG_EN 5) 1) (PWR_DOMSTAT_UP) 0x3FFFFF), by decide +kernel, (by decide +kernel), by decide +kernel, (by decide +kernel), rfl, by decide +kernel⟩,
   ⟨5, 3, 2, State.reset, by decide +kernel⟩,
   ⟨5, (State.set State.reset (EPORT_STAT_STATE 5) 2), by decide +kernel⟩,
   ⟨5, State.reset, by decide +kernel⟩,
   ⟨5, _, State.reset, rfl, by decide +kernel⟩,
   ⟨1, (State.set (State.set (State.set State.reset (EPORT_PLCA_EN 13) 1) (EPORT_PLCA_NODEID 13) 3) (EPORT_PHYSTAT_LINK 13) 1), by decide +kernel⟩,
   ⟨1, (State.set (State.set (State.set (State.set (State.set { State.reset with pow := { State.reset.pow with bringUp := none } } (EPORT_PLCA_EN 13) 1) (EPORT_CFG_EN 13) 1) (EPORT_PHYCFG_PHYEN 13) 1) (EPORT_PLCA_NODEID 13) 0) (PWR_DOMSTAT_UP) 0x3FFFFF), by decide +kernel⟩,
   ⟨1, _, (State.set (State.set (State.set (State.set (State.set { State.reset with pow := { State.reset.pow with bringUp := none } } (EPORT_PLCA_EN 13) 1) (EPORT_CFG_EN 13) 1) (EPORT_PHYCFG_PHYEN 13) 1) (EPORT_PLCA_NODEID 13) 3) (PWR_DOMSTAT_UP) 0x3FFFFF), by decide +kernel, (by decide +kernel), by decide +kernel, (by decide +kernel), by decide +kernel, (by decide +kernel), rfl, by decide +kernel⟩⟩

theorem witness_EthernetFrames :
    (∃ (p : Fin 22) (rx : EthRx) (s : State), (s.portUp p = true) ∧ (p.val < 20) ∧ (s.esw.wait.get p = none) ∧ ((decide (p.val < 18) && s.on (EPORT_PHYCFG_LPBK p)) = false) ∧ ((decide (18 ≤ p.val) || hasPort s.part p) = true)) ∧
    (∃ (p : Fin 22) (rx : EthRx) (s : State), (s.portUp p = true) ∧ (p.val = 20) ∧ (s.esw.wait.get p = none) ∧ (s.gwOffers rx.bytes = true) ∧ ((decide (18 ≤ p.val) || hasPort s.part p) = true)) ∧
    (∃ (p : Fin 22) (rx : EthRx) (x : Nat × List Nat) (s : State), (s.portUp p = true) ∧ (p.val < 18) ∧ (s.esw.wait.get p = none) ∧ (s.on (EPORT_PHYCFG_LPBK p) = true) ∧ (s.esw.looped.find? (fun x => x.1 == p.val) = some x) ∧ ((decide (18 ≤ p.val) || hasPort s.part p) = true)) ∧
    (∃ (p : Fin 22) (rx : EthRx) (s : State), (s.portUp p = false ∨ p.val = 21 ∨ (s.esw.wait.get p).isSome = true ∨ p.val = 20 ∧ s.gwOffers rx.bytes = false) ∧ ((decide (18 ≤ p.val) || hasPort s.part p) = true)) ∧
    (∃ (p : Fin 22) (u s : State), (u = s.ethEnds.ethSettle p) ∧ (u.portUp p = true) ∧ ((u.ethTx p).endNs ≤ u.pow.elapsed) ∧ ((decide (18 ≤ p.val) || hasPort s.part p) = true)) ∧
    (∃ (p : Fin 22) (u s : State), (u = s.ethEnds.ethSettle p) ∧ (u.portUp p = false) ∧ ((decide (18 ≤ p.val) || hasPort s.part p) = true)) ∧
    (∃ (p : Fin 4) (w : EthWait) (s : State), (s.esw.wait.get (18 + p.val) = some w)) ∧
    (∃ (p : Fin 18) (s : State), (hasPort s.part p = true)) ∧
    (∃ (p : Fin 18) (s : State), (s.on (EPORT_GCLCTL_CHANGE p) = false) ∧ (hasPort s.part p = true)) ∧
    (∃ (p : Fin 18) (s : State), (s.on (EPORT_GCLCTL_CHANGE p) = true) ∧ (hasPort s.part p = true)) ∧
    (∃ (p : Fin 18) (s : State), (hasPort s.part p = true)) ∧
    (∃ (g : Fin 64) (s : State), (s.on (ESW_SGCTL_CHANGE g) = false)) :=
  ⟨⟨5, { bytes := [], at_ := {} }, (State.set State.reset (EPORT_STAT_STATE 5) 3), by decide +kernel⟩,
   ⟨20, { bytes := [1], at_ := {} }, (State.set { State.reset with gw := { State.reset.gw with frames := Tab.put {} 1 [[1]] } } (EPORT_STAT_STATE 20) 3), by decide +kernel⟩,
   ⟨5, { bytes := [], at_ := {} }, (5, [1]), (State.set (State.set { State.reset with esw := { State.reset.esw with looped := [(5, [1])] } } (EPORT_STAT_STATE 5) 3) (EPORT_PHYCFG_LPBK 5) 1), by decide +kernel⟩,
   ⟨5, { bytes := [], at_ := {} }, State.reset, by decide +kernel⟩,
   ⟨5, _, (State.set State.reset (EPORT_STAT_STATE 5) 3), rfl, by decide +kernel⟩,
   ⟨5, _, State.reset, rfl, by decide +kernel⟩,
   ⟨1, { id := 1, fr := {}, queue := 2, dests := [] }, { State.reset with esw := { State.reset.esw with wait := Tab.put {} 19 (some { id := 1, fr := {}, queue := 2, dests := [] }) } }, by decide +kernel⟩,
   ⟨0, State.reset, by decide +kernel⟩,
   ⟨5, State.reset, by decide +kernel⟩,
   ⟨5, (State.set State.reset (EPORT_GCLCTL_CHANGE 5) 1), by decide +kernel⟩,
   ⟨0, State.reset, by decide +kernel⟩,
   ⟨5, State.reset, by decide +kernel⟩⟩

theorem witness_ForwardingTable :
    (∃ (s : State), (s.part ≠ .twinA) ∧ (s.esw.fdb = none)) ∧
    (∃ (s : State), (s.part ≠ .twinA) ∧ (s.esw.fdb = none)) ∧
    (∃ (s : State), (s.part ≠ .twinA) ∧ (s.esw.fdb = none)) ∧
    (∃ (s : State), (s.part ≠ .twinA) ∧ (s.esw.fdb = none)) ∧
    (∃ (s : State), (s.part ≠ .twinA) ∧ (s.esw.fdb = none)) ∧
    (∃ (s : State), (s.part ≠ .twinA) ∧ (s.esw.fdb = none)) ∧
    (∃ (s : State), (s.part = .twinA) ∧ (s.esw.fdb = none)) ∧
    (∃ (s : State), (s.part = .twinA) ∧ (s.esw.fdb = none)) ∧
    (∃ (s : State), (s.part = .twinA) ∧ (s.esw.fdb = none)) ∧
    (∃ (s : State), (s.part = .twinA) ∧ (s.esw.fdb = none)) ∧
    (∃ (s : State), (s.part = .twinA) ∧ (s.esw.fdb = none)) ∧
    (∃ (s : State), (s.part = .twinA) ∧ (s.esw.fdb = none)) ∧
    (∃ (s : State), (s.esw.fdb.isSome = true)) ∧
    (∃ (c : FdbOp) (s : State), (s.esw.fdb = some c) ∧ (s.fdbReady c = true)) ∧
    (∃ (c : FdbOp) (s : State), (s.esw.fdb = some c) ∧ (s.fdbReady c = false)) ∧
    (∃ (s : State), (s.get ESW_FDBCFG_AGETIME ≠ 0)) ∧
    (∃ (s : State), (s.get ESW_FDBCFG_AGETIME = 0)) ∧
    (∃ (k : Fin 4) (s : State), (s.on (ESW_PINSTAT_REVPEND k) = true) ∧ (s.esw.queues = {})) ∧
    (∃ (r : Fin 512) (s : State), (s.on (ESW_FRCTL_EN r) = true) ∧ (s.on (ESW_FRCTL_GEN r) = false) ∧ ((s.esw.frer.get r).started = true)) ∧
    (∃ (b : List Nat) (l : List (List Nat)) (s : State), (s.esw.records = b :: l) ∧ (s.on ESW_SAMPCTL_EN = true) ∧ (ringNext (s.get ESW_SAMPWR_WR % (2 ^ (if 4 ≤ s.get ESW_SAMPCTL_SIZE ∧ s.get ESW_SAMPCTL_SIZE ≤ 16 then s.get ESW_SAMPCTL_SIZE else 4))) (2 ^ (if 4 ≤ s.get ESW_SAMPCTL_SIZE ∧ s.get ESW_SAMPCTL_SIZE ≤ 16 then s.get ESW_SAMPCTL_SIZE else 4)) ≠ s.get ESW_SAMPRD_RD % (2 ^ (if 4 ≤ s.get ESW_SAMPCTL_SIZE ∧ s.get ESW_SAMPCTL_SIZE ≤ 16 then s.get ESW_SAMPCTL_SIZE else 4))) ∧ (s.checkReq (s.get ESW_SAMPBASE_BASE * 4096 + 160 * (s.get ESW_SAMPWR_WR % (2 ^ (if 4 ≤ s.get ESW_SAMPCTL_SIZE ∧ s.get ESW_SAMPCTL_SIZE ≤ 16 then s.get ESW_SAMPCTL_SIZE else 4)))) (ownReq 31) .write = none) ∧ ((s.get ESW_SAMPBASE_BASE * 4096 + 160 * (s.get ESW_SAMPWR_WR % (2 ^ (if 4 ≤ s.get ESW_SAMPCTL_SIZE ∧ s.get ESW_SAMPCTL_SIZE ≤ 16 then s.get ESW_SAMPCTL_SIZE else 4)))) % 4096 + b.length ≤ 4096)) ∧
    (∃ (b : List Nat) (l : List (List Nat)) (t s : State), (s.esw.records = b :: l) ∧ (s.on ESW_SAMPCTL_EN = true) ∧ (ringNext (s.get ESW_SAMPWR_WR % (2 ^ (if 4 ≤ s.get ESW_SAMPCTL_SIZE ∧ s.get ESW_SAMPCTL_SIZE ≤ 16 then s.get ESW_SAMPCTL_SIZE else 4))) (2 ^ (if 4 ≤ s.get ESW_SAMPCTL_SIZE ∧ s.get ESW_SAMPCTL_SIZE ≤ 16 then s.get ESW_SAMPCTL_SIZE else 4)) ≠ s.get ESW_SAMPRD_RD % (2 ^ (if 4 ≤ s.get ESW_SAMPCTL_SIZE ∧ s.get ESW_SAMPCTL_SIZE ≤ 16 then s.get ESW_SAMPCTL_SIZE else 4))) ∧ (s.fabWrite 31 (s.get ESW_SAMPBASE_BASE * 4096 + 160 * (s.get ESW_SAMPWR_WR % (2 ^ (if 4 ≤ s.get ESW_SAMPCTL_SIZE ∧ s.get ESW_SAMPCTL_SIZE ≤ 16 then s.get ESW_SAMPCTL_SIZE else 4)))) b true = (t, false))) :=
  ⟨⟨State.reset, by decide +kernel⟩,
   ⟨State.reset, by decide +kernel⟩,
   ⟨State.reset, by decide +kernel⟩,
   ⟨State.reset, by decide +kernel⟩,
   ⟨State.reset, by decide +kernel⟩,
   ⟨State.reset, by decide +kernel⟩,
   ⟨{ State.reset with part := .twinA }, by decide +kernel⟩,
   ⟨{ State.reset with part := .twinA }, by decide +kernel⟩,
   ⟨{ State.reset with part := .twinA }, by decide +kernel⟩,
   ⟨{ State.reset with part := .twinA }, by decide +kernel⟩,
   ⟨{ State.reset with part := .twinA }, by decide +kernel⟩,
   ⟨{ State.reset with part := .twinA }, by decide +kernel⟩,
   ⟨{ State.reset with esw := { State.reset.esw with fdb := some { op := 5, key := 0, data := 0, frame := 0 } } }, by decide +kernel⟩,
   ⟨{ op := 5, key := 0, data := 0, frame := 0 }, { State.reset with esw := { State.reset.esw with fdb := some { op := 5, key := 0, data := 0, frame := 0 } } }, by decide +kernel⟩,
   ⟨{ op := 6, key := 0, data := 0, frame := 4 }, { State.reset with esw := { State.reset.esw with fdb := some { op := 6, key := 0, data := 0, frame := 4 }, wait := Tab.put {} 18 (some { id := 1, fr := {}, queue := 2, dests := [] }) } }, by decide +kernel⟩,
   ⟨(State.set State.reset (ESW_FDBCFG_AGETIME) 9), by decide +kernel⟩,
   ⟨(State.set State.reset (ESW_FDBCFG_AGETIME) 0), by decide +kernel⟩,
   ⟨1, (State.set State.reset (ESW_PINSTAT_REVPEND 1) 1), by decide +kernel⟩,
   ⟨5, (State.set { State.reset with esw := { State.reset.esw with frer := Tab.put {} 5 { started := true } } } (ESW_FRCTL_EN 5) 1), by decide +kernel⟩,
   ⟨[1], [], (State.set (State.set { openAll with esw := { State.reset.esw with records := [[1]] } } (ESW_SAMPCTL_EN) 1) (ESW_SAMPBASE_BASE) 0x10000), by decide +kernel⟩,
   ⟨[1], [], State.parityError ((State.set (State.set { openAll with esw := { State.reset.esw with records := [[1]] } } (ESW_SAMPCTL_EN) 1) (ESW_SAMPBASE_BASE) 0x10000)) 31, (State.set (State.set { openAll with esw := { State.reset.esw with records := [[1]] } } (ESW_SAMPCTL_EN) 1) (ESW_SAMPBASE_BASE) 0x10000), by decide +kernel⟩⟩

theorem witness_CanControllers :
    (∃ (c : Fin 16) (s : State), (s.on (CAN_CTL_EN c) = false) ∧ (s.tested (87 + c.val) = true) ∧ (decide (c.val < nCan s.part) = true)) ∧
    (∃ (c : Fin 16) (s : State), (s.get (CAN_STAT_STATE c) = 1)) ∧
    (∃ (c : Fin 16) (s : State), (s.get (CAN_STAT_STATE c) ≠ 1)) ∧
    (∃ (c : Fin 16) (fr f : CanFrame) (age : Nat) (s u : State), (s.canHears c = true) ∧ (u = s.set (CAN_STAT_RXACT c) 0) ∧ (u.canHears c = true) ∧ (u.canIn c = true) ∧ (f = { fr with stamp := (s.canStamp + 2 ^ 32 - age % 2 ^ 32) % 2 ^ 32 }) ∧ (f.fmt = 0 ∨ (f.fmt = 1 ∧ u.on (CAN_CTL_FDEN c) = true) ∨ (f.fmt = 2 ∧ u.on (CAN_CTL_XLEN c) = true))) ∧
    (∃ (c : Fin 16) (f : CanFrame) (age : Nat) (s : State), (s.canHears c = false)) ∧
    (∃ (c : Fin 16) (f : CanFrame) (age : Nat) (s u : State), (s.canHears c = true) ∧ (u = s.set (CAN_STAT_RXACT c) 0) ∧ (u.canIn c = false)) ∧
    (∃ (c : Fin 16) (o : Nat) (f : CanFrame) (l : List (Nat × CanFrame)) (s : State), ((s.canSt c).taken = (o, f) :: l) ∧ (o ≠ 127)) ∧
    (∃ (c : Fin 16) (f : CanFrame) (l : List (Nat × CanFrame)) (s u : State), ((s.canSt c).taken = (127, f) :: l) ∧ (s.on CRS_CTL_EN = true) ∧ (s.on (CRS_BUS_RING c) = true) ∧ (u = (s.canUpd c (fun x => { x with taken := l })).canStore c 127 f)) ∧
    (∃ (c : Fin 16) (o : Fin 128) (s : State), (decide (c.val < nCan s.part) = true)) ∧
    (∃ (c : Fin 16) (o : Nat) (s : State), (s.get (CAN_STAT_STATE c) = 2 ∨ s.get (CAN_STAT_STATE c) = 3) ∧ ((s.canSt c).tx = none) ∧ (s.idling (87 + c) = false) ∧ (s.canBest c = some o)) ∧
    (∃ (c : Fin 16) (v : Fin 256) (s : State), ((s.canSt c).tx = none)) ∧
    (∃ (c : Fin 16) (t : CanTx) (v : Fin 256) (w u : State) (s : State), ((s.canSt c).tx = some t) ∧ (s.canDrives c = true) ∧ (s.canDataOk c t.frame = true) ∧ (w = ((((s.canTxEnd c).canReq c t.obj false).set (CAN_OBJSTAT_DONE c t.obj) 1).canMirror c t.obj).set (CAN_OBJSTAMP_STAMP c t.obj) t.stamp) ∧ (w.on (CAN_OBJCFG_IE c t.obj) = false) ∧ (u = State.canErrState ((w.canTdcv c t.frame v).set (CAN_ERR_TEC c) ((w.canTdcv c t.frame v).get (CAN_ERR_TEC c) - 1)) c) ∧ (u.on (CAN_CTL_LOOP c) = false) ∧ ((u.emit (.can c t.frame)).on (CAN_CTL_SELFRX c) = false)) ∧
    (∃ (c : Fin 16) (t : CanTx) (v : Fin 256) (s : State), ((s.canSt c).tx = some t) ∧ ((s.canDrives c = false ∧ s.on (CAN_CTL_LOOP c) = false) ∨ s.canDataOk c t.frame = false)) ∧
    (∃ (c : Fin 16) (t : CanTx) (u s : State), ((s.canSt c).tx = some t) ∧ (u = ((s.canTxEnd c).inc (CAN_ERRCNT_ARBLOST c)).setIf (s.canHears c) (CAN_STAT_RXACT c) 1) ∧ (u.on (CAN_CTL_DAR c) = false) ∧ (t.once = false)) ∧
    (∃ (c : Fin 16) (t : CanTx) (lec : Fin 7) (data : Bool) (u : State) (s : State), ((s.canSt c).tx = some t) ∧ (t.once = true) ∧ (u = (((s.canTxEnd c).inc (CAN_ERRCNT_ERRS c)).set (CAN_ERR_LEC c) lec.val).set (CAN_ERR_LECDATA c) (b2n data)) ∧ (u.get (CAN_ERR_TEC c) ≤ 247)) ∧
    (∃ (c : Fin 16) (t : CanTx) (lec : Fin 7) (data cnt : Bool) (v : Fin 256) (s : State), ((s.canSt c).tx = some t)) ∧
    (∃ (c : Fin 16) (o : Fin 128) (s : State), (decide (c.val < nCan s.part) = true)) ∧
    (∃ (c : Fin 16) (s : State), (s.get (CAN_STAT_STATE c) = 5)) ∧
    (∃ (c : Fin 16) (s : State), ((s.canSt c).tx = none) ∧ ((s.canUpd c (fun x => { x with lom := s.on (CAN_CTL_LOM c) })).canIn c = true) ∧ (decide (c.val < nCan s.part) = true)) ∧
    (∃ (c : Fin 16) (lec : Fin 7) (data : Bool) (i : Fin 9) (s : State), (s.canHears c = true) ∧ (s.canIn c = true) ∧ ((s.canSt c).lom = false)) ∧
    (∃ (c : Fin 16) (s : State), (s.canHears c = true) ∧ (s.canIn c = true) ∧ (s.on (CAN_CTL_PXHD c) = false)) :=
  ⟨⟨5, { State.reset with pow := { State.reset.pow with bringUp := none } }, by decide +kernel⟩,
   ⟨5, (State.set State.reset (CAN_STAT_STATE 5) 1), by decide +kernel⟩,
   ⟨5, State.reset, by decide +kernel⟩,
   ⟨5, {}, _, 0, (State.set State.reset (CAN_STAT_STATE 5) 2), _, by decide +kernel, rfl, by decide +kernel, (by decide +kernel), rfl, by decide +kernel⟩,
   ⟨5, {}, 0, (State.set State.reset (CAN_CTL_LOOP 5) 1), by decide +kernel⟩,
   ⟨5, {}, 0, State.reset, _, by decide +kernel, rfl, by decide +kernel⟩,
   ⟨5, 3, {}, [], { State.reset with can := Tab.put {} 5 { taken := [(3, {})] } }, by decide +kernel⟩,
   ⟨5, {}, [], (State.set (State.set { State.reset with can := Tab.put {} 5 { taken := [(127, {})] } } (CRS_CTL_EN) 1) (CRS_BUS_RING 5) 1), _, by decide +kernel, (by decide +kernel), by decide +kernel, rfl⟩,
   ⟨0, 0, State.reset, by decide +kernel⟩,
   ⟨5, 3, (State.set (State.set (State.set (State.set (State.set State.reset (CAN_STAT_STATE 5) 2) (CAN_CTL_EN 5) 1) (CAN_OBJCTL_TXREQ 5 3) 1) (CAN_OBJCFG_EN 5 3) 1) (CAN_OBJCFG_DIR 5 3) 1), by decide +kernel⟩,
   ⟨5, 0, State.reset, by decide +kernel⟩,
   ⟨5, { obj := 3, frame := {}, stamp := 9 }, 0, _, _, (State.set { State.reset with can := Tab.put {} 5 { tx := some { obj := 3, frame := {}, stamp := 9 } } } (CAN_TRXSTAT_STATE 5) 0), by decide +kernel, (by decide +kernel), by decide +kernel, rfl, by decide +kernel, rfl, by decide +kernel⟩,
   ⟨5, { obj := 3, frame := {}, stamp := 9 }, 0, { State.reset with can := Tab.put {} 5 { tx := some { obj := 3, frame := {}, stamp := 9 }, released := true } }, by decide +kernel⟩,
   ⟨5, { obj := 3, frame := {}, stamp := 9 }, _, { State.reset with can := Tab.put {} 5 { tx := some { obj := 3, frame := {}, stamp := 9 } } }, by decide +kernel, rfl, by decide +kernel⟩,
   ⟨5, { obj := 3, frame := {}, stamp := 9, once := true }, 2, false, (((({ State.reset with can := Tab.put {} 5 { tx := some { obj := 3, frame := {}, stamp := 9, once := true } } } : State).canTxEnd 5).inc (CAN_ERRCNT_ERRS 5)).set (CAN_ERR_LEC 5) 2).set (CAN_ERR_LECDATA 5) 0, ({ State.reset with can := Tab.put {} 5 { tx := some { obj := 3, frame := {}, stamp := 9, once := true } } } : State), by decide +kernel⟩,
   ⟨5, { obj := 3, frame := {}, stamp := 9 }, 2, false, true, 9, { State.reset with can := Tab.put {} 5 { tx := some { obj := 3, frame := {}, stamp := 9 } } }, by decide +kernel⟩,
   ⟨0, 0, State.reset, by decide +kernel⟩,
   ⟨5, (State.set State.reset (CAN_STAT_STATE 5) 5), by decide +kernel⟩,
   ⟨5, (State.set State.reset (CAN_STAT_STATE 5) 2), by decide +kernel⟩,
   ⟨5, 2, true, 8, (State.set State.reset (CAN_STAT_STATE 5) 2), by decide +kernel⟩,
   ⟨5, (State.set State.reset (CAN_STAT_STATE 5) 2), by decide +kernel⟩⟩

theorem witness_BusTransceivers :
    (∃ (c : Fin 16) (s : State), ((s.canSt c).released = false) ∧ (decide (c.val < nCan s.part) = true)) ∧
    (∃ (c : Fin 16) (s : State), ((s.canSt c).released = true) ∧ (decide (c.val < nCan s.part) = true)) ∧
    (∃ (c : Fin 16) (s : State), (decide (c.val < nCan s.part) = true)) ∧
    (∃ (c : Fin 16) (s : State), (decide (c.val < nCan s.part) = true)) ∧
    (∃ (c : Fin 16) (k : Nat) (t : Stamp) (r : Nat) (s u : State), (s.arrive (isCorrDue c) = some (.corr k t r, u)) ∧ (decide (c.val < nCan s.part) = true)) ∧
    (∃ (c : Fin 16) (s : State), (s.arrive (isCorrDue c) = none) ∧ (decide (c.val < nCan s.part) = true)) ∧
    (∃ (b : Fin 24) (s : State), (s.trxPower = true) ∧ (b.val < 16) ∧ (s.get (CAN_TRXSTAT_STATE b) = 2) ∧ (s.on (CAN_TRXCTL_WAKEEN b) = true) ∧ (busCarried s.part b = true)) ∧
    (∃ (b : Fin 24) (s : State), (s.trxPower = true) ∧ (16 ≤ b.val) ∧ (s.get (LIN_CTL_TRXMODE (b - 16)) = 2) ∧ (s.on (LIN_STAT_FORCED (b - 16)) = false) ∧ (s.on (LIN_CTL_WAKEEN (b - 16)) = true) ∧ (busCarried s.part b = true)) ∧
    (∃ (b : Fin 24) (s : State), (b.val < 16) ∧ ((s.canSt b).hot = false) ∧ (busCarried s.part b = true)) ∧
    (∃ (b : Fin 24) (s : State), (16 ≤ b.val) ∧ ((s.lin.get (b - 16)).hot = false) ∧ (busCarried s.part b = true)) ∧
    (∃ (b : Fin 24) (s : State), (b.val < 16) ∧ (busCarried s.part b = true)) ∧
    (∃ (b : Fin 24) (s : State), (16 ≤ b.val) ∧ (busCarried s.part b = true)) :=
  ⟨⟨5, State.reset, by decide +kernel⟩,
   ⟨5, { State.reset with can := Tab.put {} 5 { released := true } }, by decide +kernel⟩,
   ⟨0, State.reset, by decide +kernel⟩,
   ⟨0, State.reset, by decide +kernel⟩,
   ⟨5, 5, {}, 7, { State.reset with due := [.corr 5 {} 7] }, State.reset, by decide +kernel⟩,
   ⟨5, State.reset, by decide +kernel⟩,
   ⟨5, (State.set (State.set State.reset (CAN_TRXSTAT_STATE 5) 2) (CAN_TRXCTL_WAKEEN 5) 1), by decide +kernel⟩,
   ⟨18, (State.set (State.set (State.set State.reset (LIN_CTL_TRXMODE 2) 2) (LIN_STAT_FORCED 2) 0) (LIN_CTL_WAKEEN 2) 1), by decide +kernel⟩,
   ⟨5, State.reset, by decide +kernel⟩,
   ⟨18, State.reset, by decide +kernel⟩,
   ⟨5, State.reset, by decide +kernel⟩,
   ⟨18, State.reset, by decide +kernel⟩⟩

theorem witness_LinChannels :
    (∃ (l : Fin 8) (s : State), (s.on (LIN_CTL_EN l) = true) ∧ (s.on (LIN_CTL_CMDR l) = true) ∧ (s.idling (103 + l) = false) ∧ (s.on (LIN_SCHCTL_RUN l) = true) ∧ ((s.lin.get l).begun = false)) ∧
    (∃ (l : Fin 8) (s : State), (s.on (LIN_CTL_EN l) = true) ∧ (s.on (LIN_CTL_CMDR l) = true) ∧ (s.idling (103 + l) = false) ∧ (s.on (LIN_SCHCTL_RUN l) = false)) ∧
    (∃ (l : Fin 8) (id : Fin 64) (div : Nat) (s : State), (s.on (LIN_CTL_EN l) = true) ∧ (s.linHears l = true) ∧ (s.on (LIN_CTL_CMDR l) = false) ∧ (86 * div ≤ 100 * s.linDiv l) ∧ (100 * s.linDiv l ≤ 114 * div)) ∧
    (∃ (l : Fin 8) (id : Fin 64) (div : Nat) (s : State), (s.on (LIN_CTL_EN l) = true) ∧ (s.linHears l = true) ∧ (s.on (LIN_CTL_CMDR l) = false) ∧ (100 * s.linDiv l < 86 * div ∨ 114 * div < 100 * s.linDiv l)) ∧
    (∃ (l : Fin 8) (id : Fin 64) (div : Nat) (s : State), (s.on (LIN_CTL_EN l) = true) ∧ (s.linHears l = true) ∧ (s.on (LIN_CTL_CMDR l) = true) ∧ ((s.lin.get l).head = some id.val) ∧ (s.linDrives l = true)) ∧
    (∃ (l : Fin 8) (f : LinFrame) (bytes : List Nat) (cks : Nat) (u : State) (s : State), ((s.lin.get l).frame = some f) ∧ (f.dir = 1) ∧ (s.linHears l = true) ∧ (bytes.length = s.linLen l f.id) ∧ (cks = s.linCks l f.id bytes) ∧ (u = State.linEnd (State.addWrap (State.linKeep ((s.set (LIN_FDATA_DATA l f.id) (ofBytes bytes)).set (LIN_FSTAT_NEW l f.id) 1) l f.id bytes) (LIN_FSTAT_SEQ l f.id) 1) l) ∧ (u.on (LIN_FCFG_IE l f.id) = false)) ∧
    (∃ (l : Fin 8) (f : LinFrame) (bytes : List Nat) (cks : Nat) (s : State), ((s.lin.get l).frame = some f) ∧ (f.dir = 1) ∧ (s.linHears l = true) ∧ (bytes.length ≠ s.linLen l f.id ∨ cks ≠ s.linCks l f.id bytes)) ∧
    (∃ (l : Fin 8) (f : LinFrame) (got : Nat) (s : State), ((s.lin.get l).frame = some f) ∧ (f.dir = 1)) ∧
    (∃ (l : Fin 8) (s : State), (l.val < nLin s.part)) ∧
    (∃ (l : Fin 8) (s : State), (decide (l.val < nLin s.part) = true)) :=
  ⟨⟨2, (State.set (State.set (State.set State.reset (LIN_CTL_EN 2) 1) (LIN_CTL_CMDR 2) 1) (LIN_SCHCTL_RUN 2) 1), by decide +kernel⟩,
   ⟨2, (State.set (State.set State.reset (LIN_CTL_EN 2) 1) (LIN_CTL_CMDR 2) 1), by decide +kernel⟩,
   ⟨2, 7, (State.reset.linDiv 2), (State.set (State.set State.reset (LIN_CTL_EN 2) 1) (LIN_CTL_CMDR 2) 0), by decide +kernel⟩,
   ⟨2, 7, 100000000, (State.set (State.set State.reset (LIN_CTL_EN 2) 1) (LIN_CTL_CMDR 2) 0), by decide +kernel⟩,
   ⟨2, 7, 9, (State.set (State.set (State.set (State.set { State.reset with lin := Tab.put {} 2 { head := some 7 } } (LIN_CTL_EN 2) 1) (LIN_CTL_CMDR 2) 1) (LIN_STAT_FORCED 2) 0) (LIN_CTL_TRXMODE 2) 0), by decide +kernel⟩,
   ⟨2, { id := 7, dir := 1 }, List.replicate (State.linLen ({ State.reset with lin := Tab.put {} 2 { frame := some { id := 7, dir := 1 } } } : State) 2 7) 0, State.linCks ({ State.reset with lin := Tab.put {} 2 { frame := some { id := 7, dir := 1 } } } : State) 2 7 (List.replicate (State.linLen ({ State.reset with lin := Tab.put {} 2 { frame := some { id := 7, dir := 1 } } } : State) 2 7) 0), _, ({ State.reset with lin := Tab.put {} 2 { frame := some { id := 7, dir := 1 } } } : State), by decide +kernel, (by decide +kernel), by decide +kernel, (by decide +kernel), by decide +kernel, rfl, by decide +kernel⟩,
   ⟨2, { id := 7, dir := 1 }, [], 7, { State.reset with lin := Tab.put {} 2 { frame := some { id := 7, dir := 1 } } }, by decide +kernel⟩,
   ⟨2, { id := 7, dir := 1 }, 0, { State.reset with lin := Tab.put {} 2 { frame := some { id := 7, dir := 1 } } }, by decide +kernel⟩,
   ⟨2, State.reset, by decide +kernel⟩,
   ⟨0, State.reset, by decide +kernel⟩⟩

theorem witness_CarouselRings :
    (∃ (c : Fin 16) (bytes : List Nat) (s : State), (s.alive = true) ∧ (s.on CRS_CTL_EN = true) ∧ (s.get CRS_STAT_STATE ≠ 5) ∧ (s.crsIgnores bytes = false) ∧ (bitOf (bytes.getD 1 0) 7 = false)) ∧
    (∃ (bb : Bool) (s : State), (s.alive = true) ∧ (s.on CRS_CTL_EN = true) ∧ (s.ringRuns bb = true) ∧ ((bb = false ∨ s.on CRS_CTL_HIER = true)) ∧ (nextAfter (s.pres bb) (s.ring bb).last = s.ringOwn bb) ∧ (s.idling 111 = false) ∧ (s.ringOwn bb ≠ lowest (s.pres bb))) ∧
    (∃ (bb : Bool) (s : State), (s.alive = true) ∧ (s.on CRS_CTL_EN = true) ∧ (s.ringRuns bb = true) ∧ ((bb = false ∨ s.on CRS_CTL_HIER = true)) ∧ (nextAfter (s.pres bb) (s.ring bb).last = s.ringOwn bb) ∧ (s.idling 111 = false) ∧ (s.ringOwn bb = lowest (s.pres bb)) ∧ (s.ringReady bb = false)) ∧
    (∃ (s : State), (s.alive = true) ∧ (s.on CRS_CTL_EN = true) ∧ (s.ringRuns false = true) ∧ (nextAfter (s.pres false) (s.ring false).last = s.ringOwn false) ∧ (s.idling 111 = false) ∧ (s.ringOwn false = lowest (s.pres false)) ∧ (s.ringReady false = true) ∧ (s.crs.loc.reps = 0) ∧ (s.on CRS_CTL_HIER = false)) ∧
    (∃ (bb : Bool) (k : Nat) (s : State), (s.alive = true) ∧ (s.on CRS_CTL_EN = true) ∧ (s.ringRuns bb = true) ∧ (k = nextAfter (s.pres bb) (s.ring bb).last) ∧ (k ≠ s.ringOwn bb) ∧ (bitOf (s.pres bb) k = true)) ∧
    (∃ (s : State), (s.alive = true) ∧ (s.on CRS_CTL_EN = true) ∧ ((s.ring false).forming = true) ∧ ((s.ring false).learn = none) ∧ (s.ringOwn false = lowest (putBit (s.ring false).heard (s.ringOwn false) true))) ∧
    (∃ (v : Bool) (s : State), (v = true ∨ (s.set CRS_CTL_CONSENT (b2n v)).ringPrep false = false)) ∧
    (∃ (i : Fin 64) (s : State), (s.on (CRS_KEEP_WH i) = true) ∧ (s.get CRS_CFG2_KEEPLIM ≠ 0) ∧ (bitOf s.crs.limited i = false)) ∧
    (∃ (s : State), (s.ringPrep false = true)) ∧
    (∃ (s : State), (s.ringPrep false = false)) ∧
    (∃ (s : State), (s.get CRS_STAT_STATE = 5)) ∧
    (∃ (s : State), (s.crs.window = true) ∧ (s.get CRS_WAKEBUS_BUSES = 0) ∧ (s.on CRS_CTL_FWRET = false)) ∧
    (∃ (s : State), (s.crs.window = false)) :=
  ⟨⟨3, [0, 0, 0, 0, 0, 0, 0, 0], (State.set State.reset (CRS_CTL_EN) 1), by decide +kernel⟩,
   ⟨false, (State.set (State.set (State.set (State.set { State.reset with crs := { State.reset.crs with loc := { last := 1 } } } (CRS_CTL_EN) 1) (CRS_STAT_STATE) 2) (CRS_CTL_NODE) 3) (CRS_PRES_NODES) 10), by decide +kernel⟩,
   ⟨false, (State.set (State.set (State.set (State.set State.reset (CRS_CTL_EN) 1) (CRS_STAT_STATE) 2) (CRS_CTL_NODE) 3) (CRS_PRES_NODES) 8), by decide +kernel⟩,
   ⟨(State.set (State.set (State.set (State.set (State.set State.reset (CRS_CTL_EN) 1) (CRS_STAT_STATE) 3) (CRS_CTL_NODE) 3) (CRS_PRES_NODES) 8) (CRS_CTL_HIER) 0), by decide +kernel⟩,
   ⟨false, 1, (State.set (State.set (State.set (State.set State.reset (CRS_CTL_EN) 1) (CRS_STAT_STATE) 2) (CRS_CTL_NODE) 3) (CRS_PRES_NODES) 10), by decide +kernel⟩,
   ⟨(State.set (State.set { State.reset with crs := { State.reset.crs with loc := { forming := true } } } (CRS_CTL_EN) 1) (CRS_CTL_NODE) 3), by decide +kernel⟩,
   ⟨true, State.reset, by decide +kernel⟩,
   ⟨3, (State.set (State.set State.reset (CRS_KEEP_WH 3) 1) (CRS_CFG2_KEEPLIM) 5), by decide +kernel⟩,
   ⟨(State.set State.reset (CRS_STAT_STATE) 4), by decide +kernel⟩,
   ⟨State.reset, by decide +kernel⟩,
   ⟨(State.set State.reset (CRS_STAT_STATE) 5), by decide +kernel⟩,
   ⟨(State.set (State.set { State.reset with crs := { State.reset.crs with window := true } } (CRS_WAKEBUS_BUSES) 0) (CRS_CTL_FWRET) 0), by decide +kernel⟩,
   ⟨State.reset, by decide +kernel⟩⟩

theorem witness_Gateway :
    (∃ (c : Fin 8) (id : Fin 64) (d : List Nat) (l : Nat) (t : State) (s : State), (s.on GW_CTL_EN = true) ∧ (s.idling 112 = false) ∧ ((s.lin.get c).last = some (id.val, d)) ∧ (t = { s with lin := s.lin.upd c (fun x => { x with last := none }) }) ∧ (t.gwMatch { kind := 1, ch := c, obj := id, data := d } = some l)) ∧
    (∃ (q : Fin 8) (bytes : List Nat) (s1 s : State), (s.on GW_CTL_EN = true) ∧ (s.idling 112 = false) ∧ (s.gw.inbox.contains (q.val, bytes) = true) ∧ (s1 = { s with gw := { s.gw with inbox := s.gw.inbox.erase (q.val, bytes) } }) ∧ (gwParse bytes = none)) ∧
    (∃ (q : Fin 8) (bytes : List Nat) (ps : List GwPdu) (s1 s : State), (s.on GW_CTL_EN = true) ∧ (s.idling 112 = false) ∧ (s.gw.inbox.contains (q.val, bytes) = true) ∧ (s1 = { s with gw := { s.gw with inbox := s.gw.inbox.erase (q.val, bytes) } }) ∧ (gwParse bytes = some ps) ∧ (s.gwRoom (q.val / 2) (ps.map (fun p => p.data.length)) = true)) ∧
    (∃ (x : GwSrc) (s : State), (s.on GW_CTL_EN = false)) ∧
    (∃ (c l : Nat) (p : GwPdu) (s : State), (s.on GW_CTL_EN = true) ∧ (s.idling 112 = false) ∧ (s.gwNext = some (c, .pdu p)) ∧ ((s.gwTake c (.pdu p)).gwMatch p = some l)) ∧
    (∃ (c : Nat) (p : GwPdu) (s : State), (s.on GW_CTL_EN = true) ∧ (s.idling 112 = false) ∧ (s.gwNext = some (c, .pdu p)) ∧ ((s.gwTake c (.pdu p)).gwMatch p = none)) ∧
    (∃ (c l : Nat) (s : State), (s.on GW_CTL_EN = true) ∧ (s.idling 112 = false) ∧ (s.gwNext = some (c, .layout l))) ∧
    (∃ (l : Fin 4096) (d : Due) (s t : State), (s.arrive (fun d => d == .layout l) = some (d, t))) ∧
    (∃ (l : Fin 4096) (s : State), (s.arrive (fun d => d == .layout l) = none)) ∧
    (∃ (l : Fin 4096) (s : State), (s.gw.gap.contains l.val = true)) ∧
    (∃ (l : Fin 4096) (s : State), (s.gw.gap.contains l.val = false)) ∧
    (∃ (l : Fin 4096) (s : State), (s.on GW_CTL_EN = true) ∧ (s.gw.sink.contains l.val = true) ∧ (s.on (CAN_OBJCTL_TXREQ (s.get (GW_LSRC_CH l)) (s.get (GW_LSRC_OBJ l))) = false)) ∧
    (∃ (s : State), (s.on GW_FENCE_GO = true)) ∧
    (∃ (a v : Nat) (s : State), (a < 2 ^ 40) ∧ (gwCommitOf a = some a) ∧ (s.mapped a = true)) :=
  ⟨⟨2, 7, [5], 0, { ((State.set (State.set (State.set (State.set (State.set { State.reset with lin := Tab.put {} 2 { last := some (7, [5]) } } (GW_CTL_EN) 1) (GW_LCTL_EN 0) 1) (GW_LCTL_KIND 0) 1) (GW_LSRC_CH 0) 2) (GW_LSRC_LID 0) 7) : State) with lin := ((State.set (State.set (State.set (State.set (State.set { State.reset with lin := Tab.put {} 2 { last := some (7, [5]) } } (GW_CTL_EN) 1) (GW_LCTL_EN 0) 1) (GW_LCTL_KIND 0) 1) (GW_LSRC_CH 0) 2) (GW_LSRC_LID 0) 7) : State).lin.upd 2 (fun x => { x with last := none }) }, ((State.set (State.set (State.set (State.set (State.set { State.reset with lin := Tab.put {} 2 { last := some (7, [5]) } } (GW_CTL_EN) 1) (GW_LCTL_EN 0) 1) (GW_LCTL_KIND 0) 1) (GW_LSRC_CH 0) 2) (GW_LSRC_LID 0) 7) : State), by decide +kernel, (by decide +kernel), by decide +kernel, rfl, by decide +kernel⟩,
   ⟨2, [], { ((State.set { State.reset with gw := { State.reset.gw with inbox := [(2, [])] } } (GW_CTL_EN) 1) : State) with gw := { ((State.set { State.reset with gw := { State.reset.gw with inbox := [(2, [])] } } (GW_CTL_EN) 1) : State).gw with inbox := [] } }, ((State.set { State.reset with gw := { State.reset.gw with inbox := [(2, [])] } } (GW_CTL_EN) 1) : State), by decide +kernel, (by decide +kernel), by decide +kernel, rfl, by decide +kernel⟩,
   ⟨2, (List.replicate 12 0 ++ [0x22, 0xF0, 0x82] ++ List.replicate 15 0), [], { ((State.set { State.reset with gw := { State.reset.gw with inbox := [(2, List.replicate 12 0 ++ [0x22, 0xF0, 0x82] ++ List.replicate 15 0)] } } (GW_CTL_EN) 1) : State) with gw := { ((State.set { State.reset with gw := { State.reset.gw with inbox := [(2, List.replicate 12 0 ++ [0x22, 0xF0, 0x82] ++ List.replicate 15 0)] } } (GW_CTL_EN) 1) : State).gw with inbox := [] } }, ((State.set { State.reset with gw := { State.reset.gw with inbox := [(2, List.replicate 12 0 ++ [0x22, 0xF0, 0x82] ++ List.replicate 15 0)] } } (GW_CTL_EN) 1) : State), by decide +kernel, (by decide +kernel), by decide +kernel, rfl, by decide +kernel⟩,
   ⟨.eth 2 [], (State.set State.reset (GW_CTL_EN) 0), by decide +kernel⟩,
   ⟨3, 0, { kind := 1, ch := 2, obj := 7 }, (State.set (State.set (State.set (State.set (State.set { State.reset with gw := { State.reset.gw with jobs := Tab.put {} 3 [.pdu { kind := 1, ch := 2, obj := 7 }] } } (GW_CTL_EN) 1) (GW_LCTL_EN 0) 1) (GW_LCTL_KIND 0) 1) (GW_LSRC_CH 0) 2) (GW_LSRC_LID 0) 7), by decide +kernel⟩,
   ⟨3, { kind := 1, ch := 2, obj := 7 }, (State.set { State.reset with gw := { State.reset.gw with jobs := Tab.put {} 3 [.pdu { kind := 1, ch := 2, obj := 7 }] } } (GW_CTL_EN) 1), by decide +kernel⟩,
   ⟨3, 0, (State.set { State.reset with gw := { State.reset.gw with jobs := Tab.put {} 3 [.layout 0] } } (GW_CTL_EN) 1), by decide +kernel⟩,
   ⟨5, .layout 5, { State.reset with due := [.layout 5] }, State.reset, by decide +kernel⟩,
   ⟨5, State.reset, by decide +kernel⟩,
   ⟨5, { State.reset with gw := { State.reset.gw with gap := [5] } }, by decide +kernel⟩,
   ⟨5, State.reset, by decide +kernel⟩,
   ⟨5, (State.set { State.reset with gw := { State.reset.gw with sink := [5] } } (GW_CTL_EN) 1), by decide +kernel⟩,
   ⟨(State.set State.reset (GW_FENCE_GO) 1), by decide +kernel⟩,
   ⟨0x4501_0000, 7, State.reset, by decide +kernel⟩⟩

theorem witness_PcieBridge :
    (∃ (r : Req) (k : AccKind) (addr size v : Nat) (s : State), (addr < 2 ^ 40)) ∧
    (∃ (gen width ltssm g w : Nat) (s : State), (s.on PCIE_STAT_LINKUP = false) ∧ (s.on PCIE_CTL_EN = true) ∧ (s.gtb.rc = false) ∧ (s.pow.coreBeat = true) ∧ (s.pow.perst = false) ∧ (s.unusable 113 = false) ∧ (bitOf (s.get PWR_DOMSTAT_UP) 21 = true) ∧ (g = min (max gen 1) (s.get PCIE_CTL_MAXGEN + 1)) ∧ (w = (if s.get PCIE_CTL_LANES = 1 ∨ width = 1 ∨ pcieLanes s.part = 1 then 1 else 2))) ∧
    (∃ (gen width ltssm : Nat) (s : State), (s.on PCIE_STAT_LINKUP = true ∨ s.on PCIE_CTL_EN = false ∨ s.gtb.rc = true)) ∧
    (∃ (s : State), (s.on PCIE_STAT_LINKUP = true)) ∧
    (∃ (tag : Nat) (q : PcieReq) (s : State), (s.pcie.out.find? (fun q => q.tag == tag) = some q)) ∧
    (∃ (tag : Nat) (q : PcieReq) (bytes : List Nat) (s : State), (s.pcie.out.find? (fun q => q.tag == tag) = some q)) ∧
    (∃ (tag : Nat) (q : PcieReq) (bytes : List Nat) (s : State), (s.pcie.out.find? (fun q => q.tag == tag) = some q)) ∧
    (∃ (tag : Nat) (st : Fin 3) (bytes : List Nat) (s : State), (s.pcie.out.find? (fun q => q.tag == tag) = none)) ∧
    (∃ (x : Nat) (s : State), (s.on PCIE_STAT_LINKUP = true)) ∧
    (∃ (s : State), (s.on PCIE_CTL_MODE = false)) ∧
    (∃ (s : State), (!decide (pcieVfs s.part < 0) = true)) ∧
    (∃ (f : Fin 256) (s : State), (f.val ≠ 0) ∧ (s.on (PCIE_FNID_VIEN f) = true) ∧ (!decide (pcieVfs s.part < f.val) = true)) :=
  ⟨⟨{ id := 8 }, .read, 5, 4, 0, State.reset, by decide +kernel⟩,
   ⟨3, 1, 0, 3, 1, (State.set (State.set (State.set State.reset (PCIE_CTL_EN) 1) (PCIE_CTL_MAXGEN) 3) (PWR_DOMSTAT_UP) 0x3FFFFF), by decide +kernel⟩,
   ⟨3, 1, 0, (State.set State.reset (PCIE_STAT_LINKUP) 1), by decide +kernel⟩,
   ⟨(State.set State.reset (PCIE_STAT_LINKUP) 1), by decide +kernel⟩,
   ⟨4, { tag := 4, id := 16, gen := 0, addr := 0x80_0000_0000, size := 4, swap := 0, config := false }, { State.reset with pcie := { State.reset.pcie with out := [{ tag := 4, id := 16, gen := 0, addr := 0x80_0000_0000, size := 4, swap := 0, config := false }] } }, by decide +kernel⟩,
   ⟨4, { tag := 4, id := 16, gen := 0, addr := 0x80_0000_0000, size := 4, swap := 0, config := false }, [], { State.reset with pcie := { State.reset.pcie with out := [{ tag := 4, id := 16, gen := 0, addr := 0x80_0000_0000, size := 4, swap := 0, config := false }] } }, by decide +kernel⟩,
   ⟨4, { tag := 4, id := 16, gen := 0, addr := 0x80_0000_0000, size := 4, swap := 0, config := false }, [], { State.reset with pcie := { State.reset.pcie with out := [{ tag := 4, id := 16, gen := 0, addr := 0x80_0000_0000, size := 4, swap := 0, config := false }] } }, by decide +kernel⟩,
   ⟨4, 0, [], State.reset, by decide +kernel⟩,
   ⟨3, (State.set State.reset (PCIE_STAT_LINKUP) 1), by decide +kernel⟩,
   ⟨(State.set State.reset (PCIE_CTL_MODE) 0), by decide +kernel⟩,
   ⟨State.reset, by decide +kernel⟩,
   ⟨3, (State.set State.reset (PCIE_FNID_VIEN 3) 1), by decide +kernel⟩⟩

theorem witness_InstanceCommands :
    (∃ (i : Fin 256) (t : State) (s : State), (s.on VIM_CMD_GO = false) ∧ (t = s.vimTaken i 1 (s.get VIM_CMDARG_KIND) (s.get VIM_CMDARG_SLOT)) ∧ (t.viState i = 0) ∧ (t.get (VIM_ICFG_BIND i) ≠ 1 ∨ t.fnFree (t.get (VIM_ICFG_FN i)) = true) ∧ (t.genReady i = true) ∧ (t.viBusy i = false) ∧ (¬ nVi t.part ≤ i.val)) ∧
    (∃ (i : Fin 256) (t : State) (s : State), (s.on VIM_CMD_GO = false) ∧ (t = s.vimTaken i 1 (s.get VIM_CMDARG_KIND) (s.get VIM_CMDARG_SLOT)) ∧ (t.viState i = 0) ∧ (t.get (VIM_ICFG_BIND i) ≠ 1 ∨ t.fnFree (t.get (VIM_ICFG_FN i)) = true) ∧ (t.genReady i = false) ∧ (t.viBusy i = false) ∧ (¬ nVi t.part ≤ i.val)) ∧
    (∃ (i : Fin 256) (kind : Fin 8) (slot : Fin 32) (t : State) (s : State), (s.on VIM_CMD_GO = false) ∧ (t = s.vimTaken i 2 kind slot) ∧ (t.viState i = 1 ∨ t.viState i = 4) ∧ (t.viHas i kind slot = false) ∧ (t.viFree i kind slot = true) ∧ (t.viBusy i = false) ∧ (¬ nVi t.part ≤ i.val)) ∧
    (∃ (i : Fin 256) (kind : Fin 8) (slot : Fin 32) (t : State) (s : State), (s.on VIM_CMD_GO = false) ∧ (t = s.vimTaken i 2 kind slot) ∧ (t.viState i = 1 ∨ t.viState i = 4) ∧ (t.viHas i kind slot = true ∨ t.viFree i kind slot = false) ∧ (t.viBusy i = false) ∧ (¬ nVi t.part ≤ i.val)) ∧
    (∃ (i : Fin 256) (kind : Fin 8) (slot : Fin 32) (t : State) (s : State), (s.on VIM_CMD_GO = false) ∧ (t = s.vimTaken i 3 kind slot) ∧ (t.viState i = 1 ∨ t.viState i = 4) ∧ (t.viHas i kind slot = true) ∧ (t.viBusy i = false) ∧ (¬ nVi t.part ≤ i.val)) ∧
    (∃ (i : Fin 256) (t : State) (s : State), (s.on VIM_CMD_GO = false) ∧ (t = s.vimTaken i 4 (s.get VIM_CMDARG_KIND) (s.get VIM_CMDARG_SLOT)) ∧ (t.viState i = 1 ∨ t.viState i = 2) ∧ (t.viBusy i = false) ∧ (¬ nVi t.part ≤ i.val)) ∧
    (∃ (i : Fin 256) (t : State) (s : State), (s.on VIM_CMD_GO = false) ∧ (t = s.vimTaken i 5 (s.get VIM_CMDARG_KIND) (s.get VIM_CMDARG_SLOT)) ∧ (t.viState i = 4) ∧ (t.viBusy i = false) ∧ (¬ nVi t.part ≤ i.val)) ∧
    (∃ (i : Fin 256) (t : State) (s : State), (s.on VIM_CMD_GO = false) ∧ (t = s.vimTaken i 6 (s.get VIM_CMDARG_KIND) (s.get VIM_CMDARG_SLOT)) ∧ (t.viState i = 1 ∨ t.viState i = 2 ∨ t.viState i = 4) ∧ (t.genReady i = true) ∧ (t.viBusy i = false) ∧ (¬ nVi t.part ≤ i.val)) ∧
    (∃ (i : Fin 256) (bind : Fin 4) (fn : Fin 256) (t : State) (s : State), (s.on VIM_CMD_GO = false) ∧ (t = State.vimTaken ((s.set VIM_CMDARG_BIND bind).set VIM_CMDARG_FN fn) i 7 (s.get VIM_CMDARG_KIND) (s.get VIM_CMDARG_SLOT)) ∧ (((s.set VIM_CMDARG_BIND bind).set VIM_CMDARG_FN fn).on VIM_CMD_GO = false) ∧ (((s.set VIM_CMDARG_BIND bind).set VIM_CMDARG_FN fn).get VIM_CMDARG_KIND = s.get VIM_CMDARG_KIND) ∧ (t.viState i = 4) ∧ (t.get VIM_CMDARG_BIND ≠ 1 ∨ t.fnFree (t.get VIM_CMDARG_FN) = true) ∧ (t.genReady i = true) ∧ (t.viBusy i = false) ∧ (¬ nVi t.part ≤ i.val)) ∧
    (∃ (i : Fin 256) (t : State) (s : State), (s.on VIM_CMD_GO = false) ∧ (t = s.vimTaken i 8 (s.get VIM_CMDARG_KIND) (s.get VIM_CMDARG_SLOT)) ∧ (t.viState i = 4) ∧ (t.genReady i = true) ∧ (t.viBusy i = false) ∧ (¬ nVi t.part ≤ i.val)) ∧
    (∃ (i : Fin 256) (s : State), (s.on VIM_CMD_GO = true)) ∧
    (∃ (i : Fin 256) (t : State) (s : State), (s.on VIM_CMD_GO = false) ∧ (t = s.vimTaken i 1 (s.get VIM_CMDARG_KIND) (s.get VIM_CMDARG_SLOT)) ∧ (t.viState i ≠ 0 ∨ nVi t.part ≤ i.val) ∧ (t.viBusy i = false)) ∧
    (∃ (i : Fin 256) (t : State) (s : State), (s.on VIM_CMD_GO = false) ∧ (t = s.vimTaken i 8 (s.get VIM_CMDARG_KIND) (s.get VIM_CMDARG_SLOT)) ∧ (t.viState i ≠ 4 ∨ nVi t.part ≤ i.val) ∧ (t.viBusy i = false)) :=
  ⟨⟨7, State.vimTaken State.reset 7 1 ((State.reset).get VIM_CMDARG_KIND) ((State.reset).get VIM_CMDARG_SLOT), State.reset, by decide +kernel⟩,
   ⟨7, State.vimTaken (State.viUpd State.reset 7 (fun v => { v with genNs := 1 })) 7 1 (((State.viUpd State.reset 7 (fun v => { v with genNs := 1 }))).get VIM_CMDARG_KIND) (((State.viUpd State.reset 7 (fun v => { v with genNs := 1 }))).get VIM_CMDARG_SLOT), (State.viUpd State.reset 7 (fun v => { v with genNs := 1 })), by decide +kernel⟩,
   ⟨7, 0, 3, State.vimTaken (State.set State.reset (VIM_ISTAT_STATE 7) 1) 7 2 0 3, (State.set State.reset (VIM_ISTAT_STATE 7) 1), by decide +kernel⟩,
   ⟨7, 5, 3, State.vimTaken (State.set State.reset (VIM_ISTAT_STATE 7) 1) 7 2 5 3, (State.set State.reset (VIM_ISTAT_STATE 7) 1), by decide +kernel⟩,
   ⟨7, 0, 3, State.vimTaken (State.set (State.set State.reset (VIM_ISTAT_STATE 7) 1) (VIM_IATT_QP 7) 8) 7 3 0 3, (State.set (State.set State.reset (VIM_ISTAT_STATE 7) 1) (VIM_IATT_QP 7) 8), by decide +kernel⟩,
   ⟨7, State.vimTaken (State.set State.reset (VIM_ISTAT_STATE 7) 1) 7 4 (((State.set State.reset (VIM_ISTAT_STATE 7) 1)).get VIM_CMDARG_KIND) (((State.set State.reset (VIM_ISTAT_STATE 7) 1)).get VIM_CMDARG_SLOT), (State.set State.reset (VIM_ISTAT_STATE 7) 1), by decide +kernel⟩,
   ⟨7, State.vimTaken (State.set State.reset (VIM_ISTAT_STATE 7) 4) 7 5 (((State.set State.reset (VIM_ISTAT_STATE 7) 4)).get VIM_CMDARG_KIND) (((State.set State.reset (VIM_ISTAT_STATE 7) 4)).get VIM_CMDARG_SLOT), (State.set State.reset (VIM_ISTAT_STATE 7) 4), by decide +kernel⟩,
   ⟨7, State.vimTaken (State.set State.reset (VIM_ISTAT_STATE 7) 2) 7 6 (((State.set State.reset (VIM_ISTAT_STATE 7) 2)).get VIM_CMDARG_KIND) (((State.set State.reset (VIM_ISTAT_STATE 7) 2)).get VIM_CMDARG_SLOT), (State.set State.reset (VIM_ISTAT_STATE 7) 2), by decide +kernel⟩,
   ⟨7, 0, 0, State.vimTaken ((State.set (State.set State.reset (VIM_ISTAT_STATE 7) 4) VIM_CMDARG_BIND 0).set VIM_CMDARG_FN 0) 7 7 0 0, (State.set State.reset (VIM_ISTAT_STATE 7) 4), by decide +kernel⟩,
   ⟨7, State.vimTaken (State.set State.reset (VIM_ISTAT_STATE 7) 4) 7 8 (((State.set State.reset (VIM_ISTAT_STATE 7) 4)).get VIM_CMDARG_KIND) (((State.set State.reset (VIM_ISTAT_STATE 7) 4)).get VIM_CMDARG_SLOT), (State.set State.reset (VIM_ISTAT_STATE 7) 4), by decide +kernel⟩,
   ⟨7, (State.set State.reset (VIM_CMD_GO) 1), by decide +kernel⟩,
   ⟨7, State.vimTaken (State.set State.reset (VIM_ISTAT_STATE 7) 1) 7 1 (((State.set State.reset (VIM_ISTAT_STATE 7) 1)).get VIM_CMDARG_KIND) (((State.set State.reset (VIM_ISTAT_STATE 7) 1)).get VIM_CMDARG_SLOT), (State.set State.reset (VIM_ISTAT_STATE 7) 1), by decide +kernel⟩,
   ⟨7, State.vimTaken (State.set State.reset (VIM_ISTAT_STATE 7) 1) 7 8 (((State.set State.reset (VIM_ISTAT_STATE 7) 1)).get VIM_CMDARG_KIND) (((State.set State.reset (VIM_ISTAT_STATE 7) 1)).get VIM_CMDARG_SLOT), (State.set State.reset (VIM_ISTAT_STATE 7) 1), by decide +kernel⟩⟩

theorem witness_InstanceLife :
    (∃ (i : Fin 256) (op : Nat) (s : State), ((s.vi.get i).due = some op) ∧ (s.genReady i = true)) ∧
    (∃ (i : Fin 256) (s : State), (s.genReady i = false)) ∧
    (∃ (i : Fin 256) (s : State), (s.viState i ≠ 0) ∧ (s.viBusy i = true) ∧ (decide (i.val < nVi s.part) = true)) ∧
    (∃ (i : Fin 256) (s : State), (s.viState i = 1 ∨ s.viState i = 2 ∨ s.viState i = 4) ∧ (s.viBusy i = false) ∧ (s.genReady i = true) ∧ (decide (i.val < nVi s.part) = true)) ∧
    (∃ (i : Fin 256) (u : State) (s : State), (s.viState i = 5) ∧ (s.on (VIM_IATT_TG i) = false) ∧ (u = (((((s.viRestore i).inc (VIM_ICNT_RESETS i)).addWrap (VI_STAT_RESETS i) 1).viGoto i (s.vi.get i).back).viShow i).viEvent i 4 0) ∧ (u.on VIM_CMD_GO = false)) ∧
    (∃ (i : Fin 256) (expired : Bool) (s : State), (s.viState i = 3) ∧ ((s.vi.get i).ops = []) ∧ ((s.vi.get i).drain = none) ∧ ((s.vi.get i).waiting = []) ∧ (s.on (VIM_IATT_QP i) = false) ∧ (s.viAll i = [])) ∧
    (∃ (i : Fin 256) (expired : Bool) (s : State), (s.viState i ≠ 3) ∧ ((s.vi.get i).drain = none)) ∧
    (∃ (i : Fin 256) (rx : Bool) (slot : Fin 16) (tail : Fin 4096) (s : State), (decide (i.val < nVi s.part) = true)) ∧
    (∃ (i : Fin 256) (slot : Fin 16) (parity : Bool) (s : State), (s.on VIM_GCTL_EN = true) ∧ (s.viState i = 1) ∧ (s.viSlot i slot = true) ∧ ((s.vi.get i).drain ≠ some (0, slot.val)) ∧ (s.on (VI_TXCTL_EN i slot) = true) ∧ ((s.vi.get i).ops = []) ∧ (s.viHead i slot false ≠ s.viTail i slot false)) ∧
    (∃ (p : Fin 2) (parity : List (Fin 256 × Fin 16)) (s : State), (s.esw.core.find? (fun x => x.1 == p.val) = none)) ∧
    (∃ (p : Fin 2) (q : Nat) (f : EthFrame) (parity : List (Fin 256 × Fin 16)) (u : State) (s : State), (s.esw.core.find? (fun x => x.1 == p.val) = some (p.val, q, f)) ∧ (u = { s with esw := { s.esw with core := s.esw.core.erase (p.val, q, f) } }) ∧ (u.on VIM_GCTL_EN = false) ∧ (¬ (p.val = 1 ∧ q = 7 ∧ s.isCarousel f))) ∧
    (∃ (q : Nat) (f : EthFrame) (parity : List (Fin 256 × Fin 16)) (s : State), (s.esw.core.find? (fun x => x.1 == 1) = some (1, q, f)) ∧ (q = 7) ∧ (s.isCarousel f)) ∧
    (∃ (i : Fin 256) (s : State), (decide (i.val < nVi s.part) = true)) ∧
    (∃ (i : Fin 256) (s : State), ((s.vi.get i).ops = []) ∧ (decide (i.val < nVi s.part) = true)) ∧
    (∃ (addr value : Nat) (s : State), (0x4710_0040 ≤ addr) ∧ (addr < 0x4720_0000) ∧ (0x40 ≤ addr % 0x1000) ∧ (s.mapped (addr / 4 * 4) = true)) :=
  ⟨⟨7, 1, { State.reset with vi := Tab.put {} 7 { due := some 1 } }, by decide +kernel⟩,
   ⟨7, { State.reset with vi := Tab.put {} 7 { genNs := 1 } }, by decide +kernel⟩,
   ⟨7, (State.set State.reset (VIM_ISTAT_STATE 7) 3), by decide +kernel⟩,
   ⟨7, (State.set State.reset (VIM_ISTAT_STATE 7) 1), by decide +kernel⟩,
   ⟨7, (((((State.viRestore ((State.set State.reset (VIM_ISTAT_STATE 7) 5)) 7).inc (VIM_ICNT_RESETS 7)).addWrap (VI_STAT_RESETS 7) 1).viGoto 7 (((State.set State.reset (VIM_ISTAT_STATE 7) 5)).vi.get 7).back).viShow 7).viEvent 7 4 0, ((State.set State.reset (VIM_ISTAT_STATE 7) 5)), by decide +kernel⟩,
   ⟨7, false, (State.set State.reset (VIM_ISTAT_STATE 7) 3), by decide +kernel⟩,
   ⟨7, false, State.reset, by decide +kernel⟩,
   ⟨0, false, 0, 0, State.reset, by decide +kernel⟩,
   ⟨7, 3, false, (State.set (State.set (State.set (State.set (State.set (State.set State.reset (VIM_ISTAT_STATE 7) 1) (VIM_GCTL_EN) 1) (VIM_IATT_QP 7) 8) (VI_TXCTL_EN 7 3) 1) (VI_TXTAIL_TAIL 7 3) 1) (VIM_LIM_OUTST 7) 4), by decide +kernel⟩,
   ⟨0, [], State.reset, by decide +kernel⟩,
   ⟨0, 2, {}, [], State.reset, { State.reset with esw := { State.reset.esw with core := [(0, 2, {})] } }, by decide +kernel⟩,
   ⟨7, { rest := [0x88, 0xB5] }, [], { State.reset with esw := { State.reset.esw with core := [(1, 7, { rest := [0x88, 0xB5] })] } }, by decide +kernel⟩,
   ⟨0, State.reset, by decide +kernel⟩,
   ⟨7, State.reset, by decide +kernel⟩,
   ⟨0x4710_0040, 5, State.reset, by decide +kernel⟩⟩

theorem witness_MailboxChannels :
    (∃ (m : Fin 8) (r : Req) (s : State) (t : State), (s.mbx m = 0) ∧ (t = (((s.set (MBX_STATUS_STATE m) 1).set (MBX_STATUS_OWNER m) r.id).set (MBX_STATUS_WORLD m) (b2n (s.worldOf r))).set (MBX_STATUS_GEN m) r.gen)) ∧
    (∃ (m : Fin 8) (r : Req) (s : State), (s.mbx m ≠ 0)) ∧
    (∃ (m : Fin 8) (r : Req) (op : Fin 256) (s : State) (t : State), (s.mbxMine m r = true) ∧ (s.mbx m = 1 ∨ s.mbx m = 4) ∧ (t = ((((s.mbxClear m).set (MBX_STATUS_ERR m) 0).set (MBX_STATUS_STATE m) 2).set (MBX_CMD_OPCODE m) op).set (MBX_CMD_GO m) 1)) ∧
    (∃ (m : Fin 8) (r : Req) (op : Fin 256) (s : State), (s.mbxMine m r = false)) ∧
    (∃ (m : Fin 8) (r : Req) (s : State), (s.mbxMine m r = true) ∧ (s.mbx m ≠ 3)) ∧
    (∃ (m : Fin 8) (r : Req) (s : State), (s.mbxMine m r = true) ∧ (s.mbx m = 3)) ∧
    (∃ (m : Fin 8) (s : State), (s.mbx m = 1 ∨ s.mbx m = 4)) ∧
    (∃ (m : Fin 8) (s : State), (s.mbx m ≠ 1) ∧ (s.mbx m ≠ 4)) :=
  ⟨⟨2, { id := 4 }, State.reset, ((State.reset.set (MBX_STATUS_STATE 2) 1).set (MBX_STATUS_OWNER 2) 4).set (MBX_STATUS_WORLD 2) (b2n (State.reset.worldOf { id := 4 })) |>.set (MBX_STATUS_GEN 2) 0, by decide +kernel⟩,
   ⟨2, { id := 4 }, (State.set (State.set (State.set State.reset (MBX_STATUS_STATE 2) 1) (MBX_STATUS_OWNER 2) 4) (MBX_STATUS_WORLD 2) 1), by decide +kernel⟩,
   ⟨2, { id := 4 }, 3, (State.set (State.set (State.set State.reset (MBX_STATUS_STATE 2) 1) (MBX_STATUS_OWNER 2) 4) (MBX_STATUS_WORLD 2) 1), ((((((State.set (State.set (State.set State.reset (MBX_STATUS_STATE 2) 1) (MBX_STATUS_OWNER 2) 4) (MBX_STATUS_WORLD 2) 1) : State).mbxClear 2).set (MBX_STATUS_ERR 2) 0).set (MBX_STATUS_STATE 2) 2).set (MBX_CMD_OPCODE 2) 3).set (MBX_CMD_GO 2) 1, by decide +kernel⟩,
   ⟨2, { id := 4 }, 3, State.reset, by decide +kernel⟩,
   ⟨2, { id := 4 }, (State.set (State.set (State.set State.reset (MBX_STATUS_STATE 2) 1) (MBX_STATUS_OWNER 2) 4) (MBX_STATUS_WORLD 2) 1), by decide +kernel⟩,
   ⟨2, { id := 4 }, (State.set (State.set (State.set State.reset (MBX_STATUS_STATE 2) 3) (MBX_STATUS_OWNER 2) 4) (MBX_STATUS_WORLD 2) 1), by decide +kernel⟩,
   ⟨2, (State.set (State.set (State.set State.reset (MBX_STATUS_STATE 2) 1) (MBX_STATUS_OWNER 2) 4) (MBX_STATUS_WORLD 2) 1), by decide +kernel⟩,
   ⟨2, State.reset, by decide +kernel⟩⟩

theorem witness_FabricAccesses :
    (∃ (r : Req) (addr size : Nat) (ecc : EccObs) (s : State), (s.alive = true) ∧ (oneGranule addr size = true) ∧ (s.portReach r addr = true) ∧ (s.checkReq addr r .read = none) ∧ (0x800_0000 + 0x4_0000 ≤ addr) ∧ (addr < 0x1140_0000) ∧ (ecc = .clean)) ∧
    (∃ (r : Req) (addr size value : Nat) (s : State), (s.alive = true) ∧ (oneGranule addr size = true) ∧ (s.portReach r addr = true) ∧ (s.checkReq addr r .write = none) ∧ (0x800_0000 + 0x4_0000 ≤ addr) ∧ (addr < 0x1140_0000) ∧ (wholeWords addr size = true)) ∧
    (∃ (r : Req) (acc : AccKind) (addr size value : Nat) (ecc : EccObs) (s : State), (s.alive = true) ∧ (oneGranule addr size = true)) ∧
    (∃ (r : Req) (acc : AccKind) (addr size value : Nat) (ecc : EccObs) (t : State) (s : State), (s.alive = true) ∧ (oneGranule addr size = true) ∧ (s.portReach r addr = true) ∧ (s.checkReq addr r acc = some t) ∧ (ecc ≠ .parity)) ∧
    (∃ (r : Req) (addr size value : Nat) (t : State) (d : Nat) (s : State), (s.alive = true) ∧ (within addr 0x4000_0000 0x800_0000 = true) ∧ (oneGranule addr size = true) ∧ (s.fabDo r none .write addr size value .clean = (t, .data d))) ∧
    (∃ (r : Req) (addr : Nat) (t : State) (d : Nat) (s : State), (s.alive = true) ∧ (within addr 0x4000_0000 0x800_0000 = true) ∧ (oneGranule addr 4 = true) ∧ (s.fabDo r none .read addr 4 0 .clean = (t, .data d))) ∧
    (∃ (r : Req) (addr : Nat) (t : State) (d : Nat) (s : State), (s.alive = true) ∧ (within addr 0x4000_0000 0x800_0000 = true) ∧ (isPair addr = true) ∧ (s.fabDo r none .read addr 4 0 .clean = (t, .data d))) ∧
    (∃ (r : Req) (addr value : Nat) (s : State), (s.regOpen r .write addr 4 = true) ∧ (plainReg s.part addr = true)) ∧
    (∃ (r : Req) (addr size value : Nat) (s : State), (s.regOpen r .write addr size = true)) ∧
    (∃ (r : Req) (addr value : Nat) (s : State), (s.regOpen r .write addr 8 = true) ∧ (isPair addr = true) ∧ (pscAbsent s.part addr = false)) ∧
    (∃ (r : Req) (addr : Nat) (s : State), (s.regOpen r .read addr 4 = true) ∧ (plainReg s.part addr = true)) ∧
    (∃ (r : Req) (addr size : Nat) (s : State), (s.regOpen r .read addr size = true) ∧ (plainReg s.part addr = true)) ∧
    (∃ (r : Req) (addr : Nat) (s : State), (s.regOpen r .read addr 4 = true) ∧ (plainReg s.part addr = true) ∧ (isPair addr = true)) ∧
    (∃ (r : Req) (acc : AccKind) (addr size value k : Nat) (s : State), (s.alive = true) ∧ (oneGranule addr size = true) ∧ (s.portReach r addr = true) ∧ (s.checkReq addr r acc = none) ∧ (within addr 0x2000_0000 0x30_0000 = true) ∧ (k = (addr - 0x2000_0000) / 0x4_0000) ∧ (s.tgLead k = k)) ∧
    (∃ (r : Req) (addr size value : Nat) (s : State), (s.alive = true) ∧ (oneGranule addr size = true) ∧ (s.portReach r addr = true) ∧ (s.checkReq addr r .amo = none) ∧ (0x800_0000 + 0x4_0000 ≤ addr) ∧ (addr < 0x1140_0000)) :=
  ⟨⟨{ id := 4 }, 0x1000_0000, 8, .clean, openAll, by decide +kernel⟩,
   ⟨{ id := 4 }, 0x1000_0000, 8, 5, openAll, by decide +kernel⟩,
   ⟨{ id := 4 }, .read, 0x1000_0000, 8, 5, .clean, openAll, by decide +kernel⟩,
   ⟨{ id := 4 }, .read, 0x0, 8, 5, .clean, (State.reset.checkReq 0 { id := 4 } .read).getD State.reset, State.reset, by decide +kernel⟩,
   ⟨{ id := 4 }, a_GTB_ADJ, 4, 5, (openAll.fabDo { id := 4 } none .write a_GTB_ADJ 4 5 .clean).1, 0, openAll, by decide +kernel⟩,
   ⟨{ id := 4 }, a_GTB_ADJ, (openAll.fabDo { id := 4 } none .read a_GTB_ADJ 4 0 .clean).1, 0, openAll, by decide +kernel⟩,
   ⟨{ id := 4 }, a_GTB_NOW, (openAll.fabDo { id := 4 } none .read a_GTB_NOW 4 0 .clean).1, 0, openAll, by decide +kernel⟩,
   ⟨{ id := 4 }, a_GTB_ADJ, 5, openAll, by decide +kernel⟩,
   ⟨{ id := 4 }, a_GTB_ADJ, 4, 5, openAll, by decide +kernel⟩,
   ⟨{ id := 4 }, a_GTB_TRGCMP 3, 5, openAll, by decide +kernel⟩,
   ⟨{ id := 4 }, a_GTB_ADJ, openAll, by decide +kernel⟩,
   ⟨{ id := 4 }, a_GTB_ADJ, 4, openAll, by decide +kernel⟩,
   ⟨{ id := 4 }, a_GTB_NOW, openAll, by decide +kernel⟩,
   ⟨{ id := 4 }, .read, 0x2000_0000, 4, 0, 0, openAll, by decide +kernel⟩,
   ⟨{ id := 4 }, 0x1000_0000, 8, 5, openAll, by decide +kernel⟩⟩

theorem witness_CoreInstructions :
    (∃ (c : Fin 8) (o : RvObs) (x : RvWord) (t : State) (npc : Nat) (u : State) (s : State), (rvFetched c o s = some (x, t)) ∧ (x.word ≠ some 0x30200073) ∧ (rvRan c x o t = some (npc, u))) ∧
    (∃ (c : Fin 8) (o : RvObs) (x : RvWord) (t : State) (w : Nat) (s : State), (rvFetched c o s = some (x, t)) ∧ (x.word = some w) ∧ (wOp w = 0x13) ∧ (wF3 w = 0)) ∧
    (∃ (c : Fin 8) (o : RvObs) (x : RvWord) (t u : State) (tr : Trap) (s : State), (rvFetched c o s = some (x, t)) ∧ (rvTraps c x o t = some (tr, u))) ∧
    (∃ (c : Fin 8) (o : RvObs) (x : RvWord) (t : State) (s : State), (rvFetched c o s = some (x, t)) ∧ (x.word = some 0x30200073) ∧ (x.raw = 0x30200073) ∧ ((t.core.get c).priv = 3)) ∧
    (∃ (c : Fin 8) (o : RvObs) (x : RvWord) (t : State) (s : State), (rvFetched c o s = some (x, t)) ∧ (x.word = some 0x0000000B) ∧ (x.raw = 0x0000000B) ∧ ((t.core.get c).priv ≠ 3)) ∧
    (∃ (c : Fin 8) (o : RvObs) (x : RvWord) (t : State) (npc : Nat) (u : State) (s : State), (rvFetched c o s = some (x, t)) ∧ (x.word = some x.raw) ∧ (isCkpt x.raw = true) ∧ (rvRan c x o t = some (npc, u))) ∧
    (∃ (c : Fin 8) (o : RvObs) (x : RvWord) (t : State) (npc : Nat) (u : State) (s : State), (rvFetched c o s = some (x, t)) ∧ (x.word = some x.raw) ∧ (isAgreeLd x.raw = true) ∧ (rvRan c x o t = some (npc, u))) ∧
    (∃ (c : Fin 8) (o : RvObs) (x : RvWord) (t : State) (npc : Nat) (u : State) (s : State), (rvFetched c o s = some (x, t)) ∧ (x.word = some x.raw) ∧ (isAgreeRnd x.raw = true) ∧ (rvRan c x o t = some (npc, u))) ∧
    (∃ (c : Fin 8) (o : RvObs) (x : RvWord) (t : State) (npc : Nat) (u : State) (s : State), (rvFetched c o s = some (x, t)) ∧ (x.word = some x.raw) ∧ (isAgreeCyc x.raw = true) ∧ (rvRan c x o t = some (npc, u))) ∧
    (∃ (c : Fin 8) (o : RvObs) (x : RvWord) (t : State) (npc : Nat) (u : State) (s : State), (rvFetched c o s = some (x, t)) ∧ (x.word = some x.raw) ∧ (isGtbrd x.raw = true) ∧ (rvRan c x o t = some (npc, u))) ∧
    (∃ (c : Fin 8) (o : RvObs) (x : RvWord) (t : State) (npc : Nat) (u : State) (s : State), (rvFetched c o s = some (x, t)) ∧ (x.word = some x.raw) ∧ (isGtbrdX x.raw = true) ∧ (rvRan c x o t = some (npc, u))) ∧
    (∃ (c : Fin 8) (o : RvObs) (x : RvWord) (t : State) (npc : Nat) (u : State) (s : State), (rvFetched c o s = some (x, t)) ∧ (x.word = some x.raw) ∧ (isEvpost x.raw = true) ∧ (rvRan c x o t = some (npc, u))) ∧
    (∃ (c : Fin 8) (o : RvObs) (x : RvWord) (t : State) (npc : Nat) (u : State) (s : State), (rvFetched c o s = some (x, t)) ∧ (x.word = some x.raw) ∧ (isCsr 0x7C1 x.raw = true) ∧ (rvRan c x o t = some (npc, u))) ∧
    (∃ (c : Fin 8) (o : RvObs) (x : RvWord) (t : State) (npc : Nat) (u : State) (s : State), (rvFetched c o s = some (x, t)) ∧ (x.word = some x.raw) ∧ (isCsr 0x5C0 x.raw = true) ∧ (rvRan c x o t = some (npc, u))) ∧
    (∃ (c : Fin 8) (o : RvObs) (x : RvWord) (t : State) (npc : Nat) (u : State) (s : State), (rvFetched c o s = some (x, t)) ∧ (x.word = some x.raw) ∧ (isCsr 0x7C2 x.raw = true) ∧ (rvRan c x o t = some (npc, u))) ∧
    (∃ (c : Fin 8) (o : RvObs) (w : Nat) (s : State), (s.rvAt c w o = true) ∧ (wOp w = 0x37)) ∧
    (∃ (c : Fin 8) (o : RvObs) (w : Nat) (s : State), (s.rvAt c w o = true) ∧ (wOp w = 0x17)) ∧
    (∃ (c : Fin 8) (o : RvObs) (w : Nat) (s : State) (v : Nat), (s.rvAt c w o = true) ∧ (wOp w = 0x13) ∧ (aluImm w ((s.core.get c).getX (wRs1 w)) = some v)) ∧
    (∃ (c : Fin 8) (o : RvObs) (w : Nat) (s : State) (v : Nat), (s.rvAt c w o = true) ∧ (wOp w = 0x33) ∧ (aluOp (wF7 w) (wF3 w) ((s.core.get c).getX (wRs1 w)) ((s.core.get c).getX (wRs2 w)) = some v)) ∧
    (∃ (c : Fin 8) (o : RvObs) (w : Nat) (s : State) (v : Nat), (s.rvAt c w o = true) ∧ (wOp w = 0x1B) ∧ (aluImm32 w ((s.core.get c).getX (wRs1 w)) = some v)) ∧
    (∃ (c : Fin 8) (o : RvObs) (w : Nat) (s : State) (v : Nat), (s.rvAt c w o = true) ∧ (wOp w = 0x3B) ∧ (aluOp32 (wF7 w) (wF3 w) (wRs2 w) ((s.core.get c).getX (wRs1 w)) ((s.core.get c).getX (wRs2 w)) = some v)) ∧
    (∃ (c : Fin 8) (o : RvObs) (w : Nat) (s : State), (s.rvAt c w o = true) ∧ (wOp w = 0x6F)) ∧
    (∃ (c : Fin 8) (o : RvObs) (w : Nat) (s : State), (s.rvAt c w o = true) ∧ (wOp w = 0x67) ∧ (wF3 w = 0)) ∧
    (∃ (c : Fin 8) (o : RvObs) (w : Nat) (s : State) (taken : Bool), (s.rvAt c w o = true) ∧ (wOp w = 0x63) ∧ (branchTaken (wF3 w) ((s.core.get c).getX (wRs1 w)) ((s.core.get c).getX (wRs2 w)) = some taken)) ∧
    (∃ (c : Fin 8) (o : RvObs) (w : Nat) (s : State) (v : Nat), (s.rvAt c w o = true) ∧ (wOp w = 0x03) ∧ (wF3 w ≠ 7) ∧ (s.dataAt c .load .read (addI ((s.core.get c).getX (wRs1 w)) (immI w)) (2 ^ (wF3 w % 4)) o = true) ∧ (s.joined c = false) ∧ (v = s.load (addI ((s.core.get c).getX (wRs1 w)) (immI w)) (2 ^ (wF3 w % 4)) % 256 ^ 2 ^ (wF3 w % 4))) ∧
    (∃ (c : Fin 8) (o : RvObs) (w : Nat) (s : State) (ad x : Nat), (s.rvAt c w o = true) ∧ (wOp w = 0x23) ∧ (¬ 4 ≤ wF3 w) ∧ (s.dataAt c .store .write (addI ((s.core.get c).getX (wRs1 w)) (immS w)) (2 ^ wF3 w) o = true) ∧ (s.joined c = false) ∧ (ad = addI ((s.core.get c).getX (wRs1 w)) (immS w)) ∧ (x = (s.core.get c).getX (wRs2 w))) ∧
    (∃ (c : Fin 8) (o : RvObs) (w : Nat) (s : State), (s.rvAt c w o = true) ∧ (w = 0x30200073) ∧ ((s.core.get c).priv = 3)) ∧
    (∃ (c : Fin 8) (o : RvObs) (w : Nat) (s : State), (s.rvAt c w o = true) ∧ (isWcall w = true) ∧ ((s.core.get c).priv ≠ 3)) ∧
    (∃ (c : Fin 8) (o : RvObs) (w : Nat) (s : State), (s.rvAt c w o = true) ∧ (isCkpt w = true)) ∧
    (∃ (c : Fin 8) (o : RvObs) (w : Nat) (s : State) (u : State), (s.rvAt c w o = true) ∧ (isAgreeLd w = true) ∧ (s.dataAt c .load .read ((s.core.get c).getX (wRs1 w)) 8 o = true) ∧ (u = s.agreedTo c 4 8 ((s.core.get c).getX (wRs1 w)) (s.load ((s.core.get c).getX (wRs1 w)) 8)) ∧ (u.joined c = false ∨ u.isLead c = true)) ∧
    (∃ (c : Fin 8) (o : RvObs) (w : Nat) (s : State) (u : State), (s.rvAt c w o = true) ∧ (isAgreeRnd w = true) ∧ (u = s.agreedTo c 4 8 0 (o.rnd % 2 ^ 64)) ∧ (u.joined c = false ∨ u.isLead c = true)) ∧
    (∃ (c : Fin 8) (o : RvObs) (w : Nat) (s : State) (u : State), (s.rvAt c w o = true) ∧ (isAgreeCyc w = true) ∧ (u = s.agreedTo c 4 8 0 ((s.core.get c).cs 0xB00)) ∧ (u.joined c = false ∨ u.isLead c = true)) ∧
    (∃ (c : Fin 8) (o : RvObs) (w : Nat) (s : State) (v : Nat) (u : State), (s.rvAt c w o = true) ∧ (isGtbrd w = true) ∧ ((s.core.get c).counterOk 1 = .ok) ∧ (v = (s.nowNs % 2 ^ 64 + (s.nowFrac + s.get GTB_STAT_QUAL * 256) * 2 ^ 64)) ∧ (u = s.agreedTo c 5 8 0 v) ∧ (u.joined c = false ∨ u.isLead c = true)) ∧
    (∃ (c : Fin 8) (o : RvObs) (w : Nat) (s : State) (v : Nat) (u : State), (s.rvAt c w o = true) ∧ (isGtbrdX w = true) ∧ ((s.core.get c).counterOk 1 = .ok) ∧ (v = (((s.core.get c).gtbrd.map (fun p => p.1 + p.2 % 16 * 256)).getD 0)) ∧ (u = s.agreedTo c 6 8 0 v) ∧ (u.joined c = false ∨ u.isLead c = true)) ∧
    (∃ (c : Fin 8) (o : RvObs) (w : Nat) (s : State) (u : State), (s.rvAt c w o = true) ∧ (isEvpost w = true) ∧ ((s.core.get c).virt = false) ∧ ((s.core.get c).priv ≠ 0) ∧ (u = (if s.joined c then s.push c { kind := 6, addr := 0, size := 4, data := ((s.core.get c).getX (wRs1 w)) % 2 ^ 32, inner := s.coreWorld c, seq := (s.core.get c).seq } else s.raise (32 + c) (((s.core.get c).getX (wRs1 w)) % 2 ^ 32))) ∧ (u.joined c = false ∨ u.isLead c = true)) ∧
    (∃ (c : Fin 8) (o : RvObs) (w : Nat) (s : State) (u : State), (s.rvAt c w o = true) ∧ (isCsr 0x7C1 w = true) ∧ ((s.core.get c).csrCheck 0x7C1 (wF3 w % 4 == 1 || wRs1 w != 0) = .ok) ∧ (wF3 w % 4 ≠ 1 ∨ wRd w ≠ 0) ∧ (s.joined c = false) ∧ (u = (s.claim c true).1)) ∧
    (∃ (c : Fin 8) (o : RvObs) (w : Nat) (s : State) (u : State), (s.rvAt c w o = true) ∧ (isCsr 0x5C0 w = true) ∧ ((s.core.get c).csrCheck 0x5C0 (wF3 w % 4 == 1 || wRs1 w != 0) = .ok) ∧ (wF3 w % 4 ≠ 1 ∨ wRd w ≠ 0) ∧ (s.joined c = false) ∧ (u = (s.claim c false).1)) ∧
    (∃ (c : Fin 8) (o : RvObs) (w : Nat) (s : State) (v : Nat), (s.rvAt c w o = true) ∧ (isCsr 0x7C2 w = true) ∧ ((s.core.get c).priv = 3) ∧ (wF3 w % 4 = 1 ∨ wRs1 w ≠ 0) ∧ (s.joined c = false) ∧ (v = (let src := if 4 ≤ wF3 w then wRs1 w else (s.core.get c).getX (wRs1 w); if wF3 w % 4 = 1 then src else if wF3 w % 4 = 2 then s.csrGet c 0x7C2 ||| src else s.csrGet c 0x7C2 &&& not64 src))) :=
  ⟨⟨1, {}, (rvX (rvHolds id 0x700293)).1, (rvX (rvHolds id 0x700293)).2, (rvY (rvHolds id 0x700293)).1, (rvY (rvHolds id 0x700293)).2, (rvHolds id 0x700293), by decide +kernel⟩,
   ⟨1, {}, (rvX (rvHolds id 0x700293)).1, (rvX (rvHolds id 0x700293)).2, 0x700293, (rvHolds id 0x700293), by decide +kernel⟩,
   ⟨1, {}, (rvX (rvHolds id 0x73)).1, (rvX (rvHolds id 0x73)).2, (rvX (rvHolds id 0x73)).2, { code := 11 }, (rvHolds id 0x73), by decide +kernel⟩,
   ⟨1, {}, (rvX (rvHolds id 0x30200073)).1, (rvX (rvHolds id 0x30200073)).2, (rvHolds id 0x30200073), by decide +kernel⟩,
   ⟨1, {}, (rvX (rvHolds (fun k => { k with priv := 1, csr := ((Tab.put {} 0x3A0 0x1F).put 0x3B0 0xFFFF_FFFF_FFFF) }) 0xB)).1, (rvX (rvHolds (fun k => { k with priv := 1, csr := ((Tab.put {} 0x3A0 0x1F).put 0x3B0 0xFFFF_FFFF_FFFF) }) 0xB)).2, (rvHolds (fun k => { k with priv := 1, csr := ((Tab.put {} 0x3A0 0x1F).put 0x3B0 0xFFFF_FFFF_FFFF) }) 0xB), by decide +kernel⟩,
   ⟨1, {}, (rvX (rvHolds id 0x100B)).1, (rvX (rvHolds id 0x100B)).2, (rvY (rvHolds id 0x100B)).1, (rvY (rvHolds id 0x100B)).2, (rvHolds id 0x100B), by decide +kernel⟩,
   ⟨1, {}, (rvX (rvHolds (fun k => { k with x := Tab.put {} 6 0x1000_0040 }) 0x3228B)).1, (rvX (rvHolds (fun k => { k with x := Tab.put {} 6 0x1000_0040 }) 0x3228B)).2, (rvY (rvHolds (fun k => { k with x := Tab.put {} 6 0x1000_0040 }) 0x3228B)).1, (rvY (rvHolds (fun k => { k with x := Tab.put {} 6 0x1000_0040 }) 0x3228B)).2, (rvHolds (fun k => { k with x := Tab.put {} 6 0x1000_0040 }) 0x3228B), by decide +kernel⟩,
   ⟨1, {}, (rvX (rvHolds id 0x200228B)).1, (rvX (rvHolds id 0x200228B)).2, (rvY (rvHolds id 0x200228B)).1, (rvY (rvHolds id 0x200228B)).2, (rvHolds id 0x200228B), by decide +kernel⟩,
   ⟨1, {}, (rvX (rvHolds id 0x400228B)).1, (rvX (rvHolds id 0x400228B)).2, (rvY (rvHolds id 0x400228B)).1, (rvY (rvHolds id 0x400228B)).2, (rvHolds id 0x400228B), by decide +kernel⟩,
   ⟨1, {}, (rvX (rvHolds id 0x328B)).1, (rvX (rvHolds id 0x328B)).2, (rvY (rvHolds id 0x328B)).1, (rvY (rvHolds id 0x328B)).2, (rvHolds id 0x328B), by decide +kernel⟩,
   ⟨1, {}, (rvX (rvHolds id 0x200328B)).1, (rvX (rvHolds id 0x200328B)).2, (rvY (rvHolds id 0x200328B)).1, (rvY (rvHolds id 0x200328B)).2, (rvHolds id 0x200328B), by decide +kernel⟩,
   ⟨1, {}, (rvX (rvHolds id 0x3400B)).1, (rvX (rvHolds id 0x3400B)).2, (rvY (rvHolds id 0x3400B)).1, (rvY (rvHolds id 0x3400B)).2, (rvHolds id 0x3400B), by decide +kernel⟩,
   ⟨1, {}, (rvX (rvHolds id 0x7C1022F3)).1, (rvX (rvHolds id 0x7C1022F3)).2, (rvY (rvHolds id 0x7C1022F3)).1, (rvY (rvHolds id 0x7C1022F3)).2, (rvHolds id 0x7C1022F3), by decide +kernel⟩,
   ⟨1, {}, (rvX (rvHolds id 0x5C0022F3)).1, (rvX (rvHolds id 0x5C0022F3)).2, (rvY (rvHolds id 0x5C0022F3)).1, (rvY (rvHolds id 0x5C0022F3)).2, (rvHolds id 0x5C0022F3), by decide +kernel⟩,
   ⟨1, {}, (rvX (rvHolds id 0x7C2012F3)).1, (rvX (rvHolds id 0x7C2012F3)).2, (rvY (rvHolds id 0x7C2012F3)).1, (rvY (rvHolds id 0x7C2012F3)).2, (rvHolds id 0x7C2012F3), by decide +kernel⟩,
   ⟨1, {}, 0x122B7, (rvHolds id 0x122B7), by decide +kernel⟩,
   ⟨1, {}, 0x12297, (rvHolds id 0x12297), by decide +kernel⟩,
   ⟨1, {}, 0x700293, (rvHolds id 0x700293), (aluImm 0x700293 (((State.core (rvHolds id 0x700293)).get 1).getX 0)).getD 0, by decide +kernel⟩,
   ⟨1, {}, 0x7302B3, (rvHolds id 0x7302B3), (aluOp 0 0 (((State.core (rvHolds id 0x7302B3)).get 1).getX 6) (((State.core (rvHolds id 0x7302B3)).get 1).getX 7)).getD 0, by decide +kernel⟩,
   ⟨1, {}, 0x70029B, (rvHolds id 0x70029B), (aluImm32 0x70029B (((State.core (rvHolds id 0x70029B)).get 1).getX 0)).getD 0, by decide +kernel⟩,
   ⟨1, {}, 0x7302BB, (rvHolds id 0x7302BB), (aluOp32 0 0 7 (((State.core (rvHolds id 0x7302BB)).get 1).getX 6) (((State.core (rvHolds id 0x7302BB)).get 1).getX 7)).getD 0, by decide +kernel⟩,
   ⟨1, {}, 0x2EF, (rvHolds id 0x2EF), by decide +kernel⟩,
   ⟨1, {}, 0x302E7, (rvHolds id 0x302E7), by decide +kernel⟩,
   ⟨1, {}, 0x730063, (rvHolds id 0x730063), true, by decide +kernel⟩,
   ⟨1, {}, 0x33283, (rvHolds (fun k => { k with x := Tab.put {} 6 0x1000_0040 }) 0x33283), (State.load (rvHolds (fun k => { k with x := Tab.put {} 6 0x1000_0040 }) 0x33283) 0x1000_0040 8), by decide +kernel⟩,
   ⟨1, {}, 0x733023, (rvHolds (fun k => { k with x := Tab.put {} 6 0x1000_0040 }) 0x733023), 0x1000_0040, 0, by decide +kernel⟩,
   ⟨1, {}, 0x30200073, (rvHolds id 0x30200073), by decide +kernel⟩,
   ⟨1, {}, 0xB, (rvHolds (fun k => { k with priv := 1, csr := ((Tab.put {} 0x3A0 0x1F).put 0x3B0 0xFFFF_FFFF_FFFF) }) 0xB), by decide +kernel⟩,
   ⟨1, {}, 0x100B, (rvHolds id 0x100B), by decide +kernel⟩,
   ⟨1, {}, 0x3228B, (rvHolds (fun k => { k with x := Tab.put {} 6 0x1000_0040 }) 0x3228B), (State.agreedTo (rvHolds (fun k => { k with x := Tab.put {} 6 0x1000_0040 }) 0x3228B) 1 4 8 0x1000_0040 (State.load (rvHolds (fun k => { k with x := Tab.put {} 6 0x1000_0040 }) 0x3228B) 0x1000_0040 8)), by decide +kernel, (by decide +kernel), by decide +kernel, rfl, by decide +kernel⟩,
   ⟨1, {}, 0x200228B, (rvHolds id 0x200228B), (State.agreedTo (rvHolds id 0x200228B) 1 4 8 0 0), by decide +kernel, (by decide +kernel), rfl, by decide +kernel⟩,
   ⟨1, {}, 0x400228B, (rvHolds id 0x400228B), (State.agreedTo (rvHolds id 0x400228B) 1 4 8 0 0), by decide +kernel, (by decide +kernel), rfl, by decide +kernel⟩,
   ⟨1, {}, 0x328B, (rvHolds id 0x328B), ((State.nowNs (rvHolds id 0x328B)) % 2 ^ 64 + ((State.nowFrac (rvHolds id 0x328B)) + (State.get (rvHolds id 0x328B) GTB_STAT_QUAL) * 256) * 2 ^ 64), (State.agreedTo (rvHolds id 0x328B) 1 5 8 0 ((State.nowNs (rvHolds id 0x328B)) % 2 ^ 64 + ((State.nowFrac (rvHolds id 0x328B)) + (State.get (rvHolds id 0x328B) GTB_STAT_QUAL) * 256) * 2 ^ 64)), by decide +kernel, (by decide +kernel), by decide +kernel, rfl, rfl, by decide +kernel⟩,
   ⟨1, {}, 0x200328B, (rvHolds id 0x200328B), 0, (State.agreedTo (rvHolds id 0x200328B) 1 6 8 0 0), by decide +kernel, (by decide +kernel), by decide +kernel, (by decide +kernel), rfl, by decide +kernel⟩,
   ⟨1, {}, 0x3400B, (rvHolds id 0x3400B), (if State.joined (rvHolds id 0x3400B) ((1 : Fin 8) : Nat) then State.push (rvHolds id 0x3400B) ((1 : Fin 8) : Nat) { kind := 6, addr := 0, size := 4, data := ((State.core (rvHolds id 0x3400B)).get ((1 : Fin 8) : Nat)).getX (wRs1 0x3400B) % 2 ^ 32, inner := State.coreWorld (rvHolds id 0x3400B) ((1 : Fin 8) : Nat), seq := ((State.core (rvHolds id 0x3400B)).get ((1 : Fin 8) : Nat)).seq } else State.raise (rvHolds id 0x3400B) (32 + ((1 : Fin 8) : Nat)) (((State.core (rvHolds id 0x3400B)).get ((1 : Fin 8) : Nat)).getX (wRs1 0x3400B) % 2 ^ 32)), by decide +kernel, (by decide +kernel), by decide +kernel, (by decide +kernel), rfl, by decide +kernel⟩,
   ⟨1, {}, 0x7C1022F3, (rvHolds id 0x7C1022F3), (State.claim (rvHolds id 0x7C1022F3) 1 true).1, by decide +kernel, (by decide +kernel), by decide +kernel, (by decide +kernel), by decide +kernel, rfl⟩,
   ⟨1, {}, 0x5C0022F3, (rvHolds id 0x5C0022F3), (State.claim (rvHolds id 0x5C0022F3) 1 false).1, by decide +kernel, (by decide +kernel), by decide +kernel, (by decide +kernel), by decide +kernel, rfl⟩,
   ⟨1, {}, 0x7C2012F3, (rvHolds id 0x7C2012F3), 0, by decide +kernel⟩⟩

theorem witness_CoreInterrupts :
    (∃ (c : Fin 8) (i : Nat) (s : State), (s.rvReady c = true) ∧ ((s.core.get c).pbuf = []) ∧ ((s.core.get c).wait = none) ∧ ((s.core.get c).wfi = false) ∧ (s.joined c = false) ∧ (s.pickIrq c = some i)) ∧
    (∃ (c : Fin 8) (s : State), (s.rvReady c = true) ∧ ((s.core.get c).wfi = false) ∧ (s.pickIrq c = none)) ∧
    (∃ (c : Fin 8) (s : State), (s.mip c &&& 0xA0 ≠ 0) ∧ (s.rvReady c = true) ∧ ((s.core.get c).wfi = true) ∧ (s.mip c &&& (s.core.get c).cs 0x304 ≠ 0) ∧ (s.joined c = false)) ∧
    (∃ (c : Fin 8) (s : State), (s.mip c &&& 0xA0 = 0)) ∧
    (∃ (c : Fin 8) (inner : Bool) (addr : Nat) (s : State), ((s.core.get c).live = true) ∧ (s.joined c = false)) ∧
    (∃ (c : Fin 8) (inner : Bool) (addr : Nat) (s : State), ((s.core.get c).live = false)) :=
  ⟨⟨1, 7, { (State.set (State.set (State.set State.reset (PAIR_CFG_SPLIT 0) 1) (mhjvtcmp_CMP 1) 0) (shjvtcmp_CMP 1) 0) with core := Tab.put {} 1 { live := true, csr := ((Tab.put {} 0x304 0x80).put 0x300 8) } }, by decide +kernel⟩,
   ⟨1, { (State.set State.reset (PAIR_CFG_SPLIT 0) 1) with core := Tab.put {} 1 { live := true } }, by decide +kernel⟩,
   ⟨1, { (State.set (State.set (State.set State.reset (PAIR_CFG_SPLIT 0) 1) (mhjvtcmp_CMP 1) 0) (shjvtcmp_CMP 1) 0) with core := Tab.put {} 1 { live := true, wfi := true, csr := Tab.put {} 0x304 0x80 } }, by decide +kernel⟩,
   ⟨1, (State.set (State.set State.reset (mhjvtcmp_CMP 1) 0xFFFF_FFFF) (shjvtcmp_CMP 1) 0xFFFF_FFFF), by decide +kernel⟩,
   ⟨1, true, 0x1000_0000, { (State.set State.reset (PAIR_CFG_SPLIT 0) 1) with core := Tab.put {} 1 { live := true } }, by decide +kernel⟩,
   ⟨1, true, 0, State.reset, by decide +kernel⟩⟩

theorem witness_Pairs :
    (∃ (n : Fin 4) (a : Acs) (b : Acs) (la lb : List Acs) (t : State) (ecc : EccObs) (s : State), (s.get (PAIR_CFG_SPLIT n) = 0) ∧ (s.alive = true) ∧ (s.idling (114 + n) = false) ∧ (s.pst n = 1) ∧ ((s.pair.get n).lq = a :: la) ∧ ((s.pair.get n).sq = b :: lb) ∧ (a.same b = true) ∧ ((s.pair.get n).bus = none) ∧ ((s.pairSet n (fun p => p.pop a)).acsDo n a ecc = some t)) ∧
    (∃ (n : Fin 4) (agree : Bool) (a : Acs) (b : Acs) (la lb : List Acs) (ecc : EccObs) (s : State), (s.get (PAIR_CFG_SPLIT n) = 0) ∧ (s.alive = true) ∧ (s.idling (114 + n) = false) ∧ (s.pst n = 1) ∧ ((s.pair.get n).lq = a :: la) ∧ ((s.pair.get n).sq = b :: lb) ∧ (agree = false ∨ a.same b = false)) ∧
    (∃ (n : Fin 4) (s : State), ((s.pair.get n).lq ≠ []) ∧ ((s.pair.get n).sq = [])) ∧
    (∃ (n : Fin 4) (s : State), ((s.pair.get n).lq = []) ∧ ((s.pair.get n).ckAt = none)) ∧
    (∃ (n : Fin 4) (sigOk : Bool) (s : State), (s.pst n ≠ 1) ∧ ((s.pair.get n).ckAt = none) ∧ (decide (n.val < nPair s.part) = true)) ∧
    (∃ (n : Fin 4) (sigOk : Bool) (t : State) (k : Nat) (s : State), (s.ckBegin n = t) ∧ ((t.pair.get n).ckAt = some k) ∧ (t.pst n = 1) ∧ ((t.core.get (t.leadOf n)).seq = k) ∧ ((t.core.get (t.shadowOf n)).seq = k) ∧ ((t.pair.get n).lq = []) ∧ ((t.pair.get n).commit = none) ∧ (sigOk = true) ∧ ((t.archOf (t.leadOf n)).sig = (t.archOf (t.shadowOf n)).sig) ∧ (decide (n.val < nPair s.part) = true)) ∧
    (∃ (n : Fin 4) (sigOk : Bool) (t : State) (k : Nat) (s : State), (s.ckBegin n = t) ∧ ((t.pair.get n).ckAt = some k) ∧ (t.pst n = 1) ∧ ((t.core.get (t.leadOf n)).seq = k) ∧ ((t.core.get (t.shadowOf n)).seq = k) ∧ ((t.pair.get n).lq = []) ∧ ((t.pair.get n).commit = none) ∧ (sigOk = false) ∧ (decide (n.val < nPair s.part) = true)) ∧
    (∃ (n : Fin 4) (s : State), ((s.pair.get n).commit = none)) ∧
    (∃ (n : Fin 4) (im : CkImage) (s t u : State), ((s.pair.get n).commit = some (im, 0, 0, 0)) ∧ ((s.pair.get n).ckPend = false) ∧ (t = s.pairSet n (fun p => { p with commit := none, image := some im, slot := 1 - p.slot, ckPend := false, journal := p.journal, dbg := p.dbg, released := p.released })) ∧ (u = (((t.coreSet (2 * n) (fun k => k)).coreSet (2 * n + 1) (fun k => k)).jocc n).addWrap (PAIR_CKCNT_CNT n) 1)) ∧
    (∃ (n : Fin 4) (im : CkImage) (s : State), (s.pst n = 2) ∧ ((s.pair.get n).image = some im)) ∧
    (∃ (n : Fin 4) (ok : Bool) (s : State), (s.pst n ≠ 2)) ∧
    (∃ (n : Fin 4) (s : State), (s.pst n = 3) ∧ (s.replayAtEnd n = true)) ∧
    (∃ (n : Fin 4) (us : Nat) (s : State), (s.pst n = 3) ∧ (s.replayAtEnd n = true) ∧ ((s.pair.get n).replayed = (s.pair.get n).released) ∧ ((s.pair.get n).hreq = false) ∧ (us = (s.pow.elapsed - (s.pair.get n).detect) / 1000)) ∧
    (∃ (n : Fin 4) (ok : Bool) (s : State), (s.pst n ≠ 3 ∨ s.replayAtEnd n = false)) :=
  ⟨⟨0, { kind := 1, addr := 0x1000_0000, size := 4, data := 5 }, { kind := 1, addr := 0x1000_0000, size := 4, data := 5 }, [], [], ((State.pairSet { (State.set State.reset (PAIR_STAT_STATE 0) 1) with pair := Tab.put {} 0 { lq := [{ kind := 1, addr := 0x1000_0000, size := 4, data := 5 }], sq := [{ kind := 1, addr := 0x1000_0000, size := 4, data := 5 }] } } 0 (fun p => p.pop { kind := 1, addr := 0x1000_0000, size := 4, data := 5 })).acsDo 0 { kind := 1, addr := 0x1000_0000, size := 4, data := 5 } .clean).getD { (State.set State.reset (PAIR_STAT_STATE 0) 1) with pair := Tab.put {} 0 { lq := [{ kind := 1, addr := 0x1000_0000, size := 4, data := 5 }], sq := [{ kind := 1, addr := 0x1000_0000, size := 4, data := 5 }] } }, .clean, { (State.set State.reset (PAIR_STAT_STATE 0) 1) with pair := Tab.put {} 0 { lq := [{ kind := 1, addr := 0x1000_0000, size := 4, data := 5 }], sq := [{ kind := 1, addr := 0x1000_0000, size := 4, data := 5 }] } }, by decide +kernel⟩,
   ⟨0, false, { kind := 1, addr := 0x1000_0000, size := 4, data := 5 }, { kind := 1, addr := 0x1000_0000, size := 4, data := 5 }, [], [], .clean, { (State.set State.reset (PAIR_STAT_STATE 0) 1) with pair := Tab.put {} 0 { lq := [{ kind := 1, addr := 0x1000_0000, size := 4, data := 5 }], sq := [{ kind := 1, addr := 0x1000_0000, size := 4, data := 5 }] } }, by decide +kernel⟩,
   ⟨0, { State.reset with pair := Tab.put {} 0 { lq := [{ kind := 1, addr := 0x1000_0000, size := 4, data := 5 }] } }, by decide +kernel⟩,
   ⟨0, State.reset, by decide +kernel⟩,
   ⟨0, true, (State.set State.reset (PAIR_STAT_STATE 0) 4), by decide +kernel⟩,
   ⟨0, true, (State.ckBegin (State.set State.reset (PAIR_STAT_STATE 0) 1) 0), 0, (State.set State.reset (PAIR_STAT_STATE 0) 1), by decide +kernel⟩,
   ⟨0, false, (State.ckBegin (State.set State.reset (PAIR_STAT_STATE 0) 1) 0), 0, (State.set State.reset (PAIR_STAT_STATE 0) 1), by decide +kernel⟩,
   ⟨0, State.reset, by decide +kernel⟩,
   ⟨0, { core := {} }, { State.reset with pair := Tab.put {} 0 { commit := some (({ core := {} }, 0, 0, 0) : CkImage × Nat × Nat × Nat) } }, (State.pairSet { State.reset with pair := Tab.put {} 0 { commit := some (({ core := {} }, 0, 0, 0) : CkImage × Nat × Nat × Nat) } } 0 (fun p => { p with commit := none, image := some { core := {} }, slot := 1 - p.slot, ckPend := false })), (((State.coreSet (State.pairSet { State.reset with pair := Tab.put {} 0 { commit := some (({ core := {} }, 0, 0, 0) : CkImage × Nat × Nat × Nat) } } 0 (fun p => { p with commit := none, image := some { core := {} }, slot := 1 - p.slot, ckPend := false })) 0 (fun k => k)).coreSet 1 (fun k => k)).jocc 0).addWrap (PAIR_CKCNT_CNT 0) 1, by decide +kernel⟩,
   ⟨0, { core := {} }, { (State.set State.reset (PAIR_STAT_STATE 0) 2) with pair := Tab.put {} 0 { image := some { core := {} } } }, by decide +kernel⟩,
   ⟨0, true, State.reset, by decide +kernel⟩,
   ⟨0, (State.set State.reset (PAIR_STAT_STATE 0) 3), by decide +kernel⟩,
   ⟨0, 0, (State.set State.reset (PAIR_STAT_STATE 0) 3), by decide +kernel⟩,
   ⟨0, true, State.reset, by decide +kernel⟩⟩

theorem witness_DebugActions :
    (∃ (c : Fin 8) (s : State), (s.dbgOpen = true) ∧ ((s.core.get c).live = true) ∧ ((s.core.get c).stopped = false) ∧ (s.joined c = false)) ∧
    (∃ (c : Fin 8) (s : State), (s.dbgOpen = true) ∧ ((s.core.get c).live = true) ∧ ((s.core.get c).stopped = false) ∧ (s.joined c = true) ∧ (c.val % 2 = 0) ∧ (s.pst (c.val / 2) = 2 ∨ s.pst (c.val / 2) = 3)) ∧
    (∃ (c : Fin 8) (s : State), (s.dbgOpen = true) ∧ ((s.core.get c).live = true) ∧ ((s.core.get c).stopped = false) ∧ (s.joined c = true) ∧ (c.val % 2 = 0) ∧ (s.pst (c.val / 2) = 1) ∧ ((s.pair.get (c.val / 2)).dbg.length < 256)) ∧
    (∃ (c : Fin 8) (s : State), (s.dbgOpen = false)) ∧
    (∃ (c : Fin 8) (s : State), (s.dbgOpen = true) ∧ ((s.core.get c).halted = true) ∧ (s.joined c = false)) ∧
    (∃ (c : Fin 8) (s : State), (s.dbgOpen = true) ∧ ((s.core.get c).halted = true) ∧ (s.joined c = false)) ∧
    (∃ (c : Fin 8) (reg value : Nat) (s : State), (s.dbgOpen = true) ∧ ((s.core.get c).halted = true) ∧ (s.joined c = false)) ∧
    (∃ (c : Fin 8) (words : List Nat) (o : RvObs) (s : State), (s.dbgOpen = true) ∧ ((s.core.get c).halted = true) ∧ ((s.core.get c).pbuf = []) ∧ (s.joined c = false)) :=
  ⟨⟨1, { (State.set { State.reset with cmp := { State.reset.cmp with ks := { lc := 1 } } } (PAIR_CFG_SPLIT 0) 1) with core := Tab.put {} 1 { live := true } }, by decide +kernel⟩,
   ⟨0, { (State.set { State.reset with cmp := { State.reset.cmp with ks := { lc := 1 } } } (PAIR_STAT_STATE 0) 3) with core := Tab.put {} 0 { live := true } }, by decide +kernel⟩,
   ⟨0, { (State.set { State.reset with cmp := { State.reset.cmp with ks := { lc := 1 } } } (PAIR_STAT_STATE 0) 1) with core := Tab.put {} 0 { live := true } }, by decide +kernel⟩,
   ⟨1, State.reset, by decide +kernel⟩,
   ⟨1, { (State.set { State.reset with cmp := { State.reset.cmp with ks := { lc := 1 } } } (PAIR_CFG_SPLIT 0) 1) with core := Tab.put {} 1 { live := true, halted := true } }, by decide +kernel⟩,
   ⟨1, { (State.set { State.reset with cmp := { State.reset.cmp with ks := { lc := 1 } } } (PAIR_CFG_SPLIT 0) 1) with core := Tab.put {} 1 { live := true, halted := true } }, by decide +kernel⟩,
   ⟨1, 0x1005, 9, { (State.set { State.reset with cmp := { State.reset.cmp with ks := { lc := 1 } } } (PAIR_CFG_SPLIT 0) 1) with core := Tab.put {} 1 { live := true, halted := true } }, by decide +kernel⟩,
   ⟨1, [0x13], {}, { (State.set { State.reset with cmp := { State.reset.cmp with ks := { lc := 1 } } } (PAIR_CFG_SPLIT 0) 1) with core := Tab.put {} 1 { live := true, halted := true } }, by decide +kernel⟩⟩

theorem witness_Regions :
    (∃ (r : Req) (t : Fin 17) (k : Fin 32) (v : Nat) (s : State), (s.checkReq (a_RGN_RCTL t k) r .write = none) ∧ (s.slotOpen r t k = true)) ∧
    (∃ (r : Req) (t : Fin 17) (k : Fin 32) (v : Nat) (s : State), (s.checkReq (a_RGN_RCTL t k) r .write = none) ∧ (s.slotOpen r t k = false)) ∧
    (∃ (r : Req) (t : Fin 17) (k : Fin 32) (v : Nat) (u : State) (s : State), (s.checkReq (a_RGN_RCTL t k) r .write = some u)) ∧
    (∃ (r : Req) (k : Fin 8) (v : Nat) (s : State), (s.checkReq (a_RGN_IGRP k) r .write = none)) ∧
    (∃ (r : Req) (k : Fin 8) (v : Nat) (u : State) (s : State), (s.checkReq (a_RGN_IGRP k) r .write = some u)) ∧
    (∃ (envm : Bool) (e : EccObs) (s : State), (s.on RGN_SCRUB_EN = false)) ∧
    (∃ (e : EccObs) (t : State) (s : State), (s.on RGN_SCRUB_EN = true) ∧ (t = s.eccSee (scrubAddr s.part false s.scrub.1) 0 true e) ∧ (s.scrub.1 + 1 < scrubLines s.part false)) ∧
    (∃ (e : EccObs) (t : State) (s : State), (s.on RGN_SCRUB_EN = true) ∧ (t = s.eccSee (scrubAddr s.part true s.scrub.2) 0 true e) ∧ (scrubLines s.part true ≤ s.scrub.2 + 1)) :=
  ⟨⟨{ id := 4 }, 2, 9, 0x8000_0000, openAll, by decide +kernel⟩,
   ⟨{ id := 4 }, 2, 3, 0, openAll, by decide +kernel⟩,
   ⟨{ id := 4, inner := false }, 2, 3, 0, (State.reset.checkReq (a_RGN_RCTL 2 3) { id := 4, inner := false } .write).getD State.reset, State.reset, by decide +kernel⟩,
   ⟨{ id := 4 }, 2, 9, openAll, by decide +kernel⟩,
   ⟨{ id := 4, inner := false }, 2, 9, (State.reset.checkReq (a_RGN_IGRP 2) { id := 4, inner := false } .write).getD State.reset, State.reset, by decide +kernel⟩,
   ⟨false, .clean, (State.set State.reset (RGN_SCRUB_EN) 0), by decide +kernel⟩,
   ⟨.clean, (State.eccSee (State.set State.reset (RGN_SCRUB_EN) 1) (scrubAddr (State.set State.reset (RGN_SCRUB_EN) 1).part false (State.set State.reset (RGN_SCRUB_EN) 1).scrub.1) 0 true .clean), (State.set State.reset (RGN_SCRUB_EN) 1), by decide +kernel⟩,
   ⟨.clean, (State.eccSee ({ (State.set State.reset (RGN_SCRUB_EN) 1) with scrub := (0, scrubLines State.reset.part true - 1) } : State) (scrubAddr ({ (State.set State.reset (RGN_SCRUB_EN) 1) with scrub := (0, scrubLines State.reset.part true - 1) } : State).part true ({ (State.set State.reset (RGN_SCRUB_EN) 1) with scrub := (0, scrubLines State.reset.part true - 1) } : State).scrub.2) 0 true .clean), ({ (State.set State.reset (RGN_SCRUB_EN) 1) with scrub := (0, scrubLines State.reset.part true - 1) } : State), by decide +kernel⟩⟩

theorem witness_Worlds :
    (∃ (h : Fin 8) (s : State), (s.isHart h = true) ∧ (s.on (RGN_WWDT_TIMEOUT h) = true) ∧ ((s.core.get (s.coreOf h)).live = true) ∧ ((s.core.get (s.coreOf h)).halted = false) ∧ (s.coreWorld (s.coreOf h) = true)) ∧
    (∃ (h : Fin 8) (s : State), (s.on (RGN_WWDT_TIMEOUT h) = false)) ∧
    (∃ (h : Fin 8) (r : Req) (s : State), (s.checkReq (a_RGN_WWDT h) r .write = none) ∧ (r.id = h.val) ∧ (r.inner = true) ∧ (decide (h.val < 2 * nPair s.part) = true)) ∧
    (∃ (h : Fin 8) (r : Req) (s : State), (s.checkReq (a_RGN_WWDT h) r .write = none) ∧ (r.id ≠ h.val ∨ r.inner = false) ∧ (decide (h.val < 2 * nPair s.part) = true)) ∧
    (∃ (h : Fin 8) (why : Nat) (s : State), (s.restartWhy h = some why) ∧ (s.isHart h = true) ∧ (s.get (RGN_WSTAT_STATE h) ≠ 2) ∧ (s.get (RGN_WSTAT_STATE h) ≠ 3) ∧ (s.get MBX_GSTAT_CUROP ≠ 0x50)) ∧
    (∃ (h : Fin 8) (s : State), (s.restartWhy h = none)) ∧
    (∃ (h : Fin 8) (why d b : Nat) (t : State) (s : State), (s.cmp.restart.get h = some (why, d)) ∧ (s.cmp.booted = some b) ∧ (d ≠ 0) ∧ (t = State.innerLoad { s with cmp := { s.cmp with restart := s.cmp.restart.put h none } } b h) ∧ (digest (List.replicate 48 0 ++ digest (t.bytes (bankBase b + (t.monCode b).1) (t.monCode b).2)) = s.measAt 1)) ∧
    (∃ (h : Fin 8) (why d b : Nat) (t : State) (s : State), (s.cmp.restart.get h = some (why, d)) ∧ (s.cmp.booted = some b) ∧ (d ≠ 0) ∧ (t = State.innerLoad { s with cmp := { s.cmp with restart := s.cmp.restart.put h none } } b h) ∧ (digest (List.replicate 48 0 ++ digest (t.bytes (bankBase b + (t.monCode b).1) (t.monCode b).2)) ≠ s.measAt 1)) ∧
    (∃ (h : Fin 8) (s : State), (s.cmp.restart.get h = none ∨ s.cmp.booted = none)) :=
  ⟨⟨0, { (State.set State.reset (RGN_WWDT_TIMEOUT 0) 5) with core := (Tab.put {} 0 { live := true }) }, by decide +kernel⟩,
   ⟨0, State.reset, by decide +kernel⟩,
   ⟨4, { id := 4 }, openAll, by decide +kernel⟩,
   ⟨2, { id := 4 }, openAll, by decide +kernel⟩,
   ⟨0, 1, { State.reset with cmp := { State.reset.cmp with restart := Tab.put {} 0 (some (1, 0)) } }, by decide +kernel⟩,
   ⟨0, State.reset, by decide +kernel⟩,
   ⟨2, 4, 5, 0, (State.innerLoad { ({ State.reset with cmp := { State.reset.cmp with booted := some 0, restart := Tab.put {} 2 (some (4, 5)), meas := Tab.put {} 1 (digest (List.replicate 48 0 ++ digest [])) } } : State) with cmp := { ({ State.reset with cmp := { State.reset.cmp with booted := some 0, restart := Tab.put {} 2 (some (4, 5)), meas := Tab.put {} 1 (digest (List.replicate 48 0 ++ digest [])) } } : State).cmp with restart := ({ State.reset with cmp := { State.reset.cmp with booted := some 0, restart := Tab.put {} 2 (some (4, 5)), meas := Tab.put {} 1 (digest (List.replicate 48 0 ++ digest [])) } } : State).cmp.restart.put 2 none } } 0 2), ({ State.reset with cmp := { State.reset.cmp with booted := some 0, restart := Tab.put {} 2 (some (4, 5)), meas := Tab.put {} 1 (digest (List.replicate 48 0 ++ digest [])) } } : State), by decide +kernel, (by decide +kernel), by decide +kernel, rfl, rfl⟩,
   ⟨2, 4, 5, 0, (State.innerLoad { ({ State.reset with cmp := { State.reset.cmp with booted := some 0, restart := Tab.put {} 2 (some (4, 5)), meas := Tab.put {} 1 ([5]) } } : State) with cmp := { ({ State.reset with cmp := { State.reset.cmp with booted := some 0, restart := Tab.put {} 2 (some (4, 5)), meas := Tab.put {} 1 ([5]) } } : State).cmp with restart := ({ State.reset with cmp := { State.reset.cmp with booted := some 0, restart := Tab.put {} 2 (some (4, 5)), meas := Tab.put {} 1 ([5]) } } : State).cmp.restart.put 2 none } } 0 2), ({ State.reset with cmp := { State.reset.cmp with booted := some 0, restart := Tab.put {} 2 (some (4, 5)), meas := Tab.put {} 1 ([5]) } } : State), by decide +kernel, (by decide +kernel), by decide +kernel, rfl, fun e => absurd (congrArg List.length e) (by rw [digest_length]; decide)⟩,
   ⟨0, State.reset, by decide +kernel⟩⟩

theorem witness_SelfTest :
    (∃ (rcOk : Bool) (s : State), (80 ≤ s.get SYS_CORESTAT_VCORE) ∧ (s.get SYS_CORESTAT_VCORE ≤ 120) ∧ (s.on SYS_CLKSTAT_XTAL_OK = true ∨ rcOk = true) ∧ (-400 ≤ s.getS PWR_TEMP_TJ) ∧ (s.getS PWR_TEMP_TJ ≤ 1350)) ∧
    (∃ (rcOk : Bool) (s : State) (t : State), (s.get SYS_CORESTAT_VCORE < 80) ∧ (s.ste.told = true) ∧ (s.on SYS_CLKSTAT_XTAL_OK = true) ∧ (-400 ≤ s.getS PWR_TEMP_TJ) ∧ (s.getS PWR_TEMP_TJ ≤ 1350) ∧ (t = (((s.set STE_COND_VCORE 0).set STE_COND_OSC 1).set STE_COND_TJ 1).set STE_COND_OK 0)) ∧
    (∃ (u : Fin 58) (s : State) (t : State), (8 ≤ u.val) ∧ (s.on STE_CTL_EN = true) ∧ (s.get SYS_READY_STAGE = 3) ∧ (s.unitExists u = true) ∧ (s.ste.next.get (unitLow u) = decide (u.val % 2 = 1)) ∧ (s.inSlice u = false) ∧ (s.inSlice (unitPeer u) = false) ∧ (s.idling 118 = false) ∧ (s.cmp.scan = false) ∧ (s.on STE_COND_OK = true) ∧ (s.unitReady u = true) ∧ (t = (((s.set (STE_USTAT_STATE u) 1).set (STE_USTAT_RETEST u) 0).addWrap STE_STAT_ACTIVE 1))) ∧
    (∃ (u : Fin 58) (s : State), (s.on STE_CTL_EN = true) ∧ (s.get SYS_READY_STAGE = 3) ∧ (s.unitExists u = true) ∧ (s.ste.next.get (unitLow u) = decide (u.val % 2 = 1)) ∧ (s.inSlice u = false) ∧ (s.inSlice (unitPeer u) = false) ∧ (s.idling 118 = false) ∧ (s.cmp.scan = false) ∧ (s.on STE_COND_OK = false)) ∧
    (∃ (u : Fin 58) (s : State), (s.inSlice u = true)) ∧
    (∃ (u : Fin 58) (s : State), (s.inSlice u = true)) ∧
    (∃ (u : Fin 58) (ok : Bool) (s : State), (s.inSlice u = false)) :=
  ⟨⟨true, (State.set State.reset (SYS_CORESTAT_VCORE) 90), by decide +kernel⟩,
   ⟨true, ({ (State.set (State.set State.reset (SYS_CORESTAT_VCORE) 70) (SYS_CLKSTAT_XTAL_OK) 1) with ste := { told := true } } : State), ((((State.set ({ (State.set (State.set State.reset (SYS_CORESTAT_VCORE) 70) (SYS_CLKSTAT_XTAL_OK) 1) with ste := { told := true } } : State) STE_COND_VCORE 0).set STE_COND_OSC 1).set STE_COND_TJ 1).set STE_COND_OK 0), by decide +kernel⟩,
   ⟨20, (State.set (State.set (State.set (State.set State.reset (STE_CTL_EN) 1) (SYS_READY_STAGE) 3) (STE_COND_OK) 1) (PWR_DOMSTAT_UP) 0x3FFFFF), (((State.set (State.set (State.set (State.set (State.set State.reset (STE_CTL_EN) 1) (SYS_READY_STAGE) 3) (STE_COND_OK) 1) (PWR_DOMSTAT_UP) 0x3FFFFF) (STE_USTAT_STATE 20) 1).set (STE_USTAT_RETEST 20) 0).addWrap STE_STAT_ACTIVE 1), by decide +kernel⟩,
   ⟨20, (State.set (State.set (State.set (State.set (State.set State.reset (STE_CTL_EN) 1) (SYS_READY_STAGE) 3) (STE_COND_OK) 1) (PWR_DOMSTAT_UP) 0x3FFFFF) (STE_COND_OK) 0), by decide +kernel⟩,
   ⟨20, (State.set State.reset (STE_USTAT_STATE 20) 1), by decide +kernel⟩,
   ⟨20, (State.set State.reset (STE_USTAT_STATE 20) 1), by decide +kernel⟩,
   ⟨20, true, State.reset, by decide +kernel⟩⟩

theorem witness_Resets :
    (∃ (src : Fin 16) (s : State), (s.pow.vbat = true) ∧ (src = 1 ∨ src = 2 ∨ src = 3)) ∧
    (∃ (s : State), (s.pow.vbat = true) ∧ (s.pow.coreUp = true)) ∧
    (∃ (src : Fin 16) (s : State), (s.pow.vbat = true) ∧ (s.pow.coreUp = true) ∧ (src = 4 ∨ src = 5 ∨ src = 8)) ∧
    (∃ (src : Fin 16) (s : State), (s.pow.vbat = true) ∧ (s.pow.coreUp = true) ∧ (src = 4 ∨ src = 5 ∨ src = 6 ∨ src = 7)) ∧
    (∃ (s : State), (s.pow.vbat = true) ∧ (s.pow.coreUp = true) ∧ (s.dbgOpen = true)) ∧
    (∃ (s : State) (t : State), (s.pow.vbat = true) ∧ (s.pow.pin = false) ∧ (s.pow.coreUp = true) ∧ (t = s.resetKind (if s.pow.settings = true ∧ s.on RST_CFG_PINKIND = false then 4 else 3) 4)) ∧
    (∃ (s : State) (t : State), (s.pow.vbat = true) ∧ (s.pow.pin = false) ∧ (s.pow.coreUp = false) ∧ (t = s.resetKind 2 4)) ∧
    (∃ (s : State), (s.pow.blk = none) ∧ (s.blockReady (s.get RST_BLKRST_BLK) = true)) ∧
    (∃ (s : State), (s.pow.blk = none) ∧ (s.blockReady (s.get RST_BLKRST_BLK) = false)) ∧
    (∃ (n : Nat) (s : State), (s.pow.blk = some n) ∧ (s.blockIdle n = true)) ∧
    (∃ (n : Nat) (s : State), (s.pow.blk = some n) ∧ (s.blockIdle n = false)) :=
  ⟨⟨1, State.reset, by decide +kernel⟩,
   ⟨State.reset, by decide +kernel⟩,
   ⟨4, State.reset, by decide +kernel⟩,
   ⟨7, State.reset, by decide +kernel⟩,
   ⟨{ State.reset with cmp := { State.reset.cmp with ks := { lc := 1 } } }, by decide +kernel⟩,
   ⟨State.reset, (State.reset.resetKind 3 4), by decide +kernel⟩,
   ⟨({ State.reset with pow := { State.reset.pow with coreUp := false } } : State), (({ State.reset with pow := { State.reset.pow with coreUp := false } } : State).resetKind 2 4), by decide +kernel⟩,
   ⟨(State.set State.reset (PWR_DOMSTAT_UP) 0x3FFFFF), by decide +kernel⟩,
   ⟨State.reset, by decide +kernel⟩,
   ⟨0, { State.reset with pow := { State.reset.pow with blk := some 0 } }, by decide +kernel⟩,
   ⟨118, (State.set { State.reset with pow := { State.reset.pow with blk := some 118 } } (STE_USTAT_STATE 9) 1), by decide +kernel⟩⟩

theorem witness_Supplies :
    (∃ (d : Fin 24) (s : State), (14 ≤ d.val) ∧ (bitOf (s.get PWR_DOMCTL_RUN) (d.val - 14) = false) ∧ (s.domainUp d = true)) ∧
    (∃ (d : Fin 24) (cals : List (Nat × Nat × Nat)) (s : State), (14 ≤ d.val) ∧ (bitOf (s.get PWR_DOMCTL_RUN) (d.val - 14) = true) ∧ (s.domainUp d = false)) ∧
    (∃ (s : State) (t : State), (s.pow.vbat = true) ∧ (t = (s.diesOff false).toVbak)) ∧
    (∃ (s : State), (s.pow.vbat = false)) ∧
    (∃ (v : Fin 256) (s : State), (s.pow.vbat = true) ∧ (v.val < 40) ∧ (s.on PWR_STAT_VBATLO = false)) ∧
    (∃ (v : Fin 256) (s : State), (s.pow.vbat = true) ∧ (v.val < 40) ∧ (s.on PWR_STAT_VBATLO = true)) ∧
    (∃ (v : Fin 256) (s : State), (s.pow.vbat = true) ∧ (80 < v.val) ∧ (s.on PWR_STAT_VBATHI = false)) ∧
    (∃ (v : Fin 256) (s : State), (s.pow.vbat = true) ∧ (40 ≤ v.val) ∧ (v.val ≤ 80) ∧ (s.on PWR_STAT_VBATHI = true)) ∧
    (∃ (v : Fin 256) (s : State), (s.pow.vbat = true) ∧ (40 ≤ v.val) ∧ (v.val ≤ 80) ∧ (s.on PWR_STAT_VBATHI = false)) ∧
    (∃ (tj : Int) (s : State), (s.get PWR_VCORE_MODE = 1) ∧ ((10 * (min 125 (max 85 (s.get PWR_VCORE_TLIM)) : Nat) : Int) < tj) ∧ (s.pow.lower < s.vcoreTarget) ∧ (s.pow.hot = false) ∧ (s.pow.bringUp = none)) ∧
    (∃ (tj : Int) (s : State), (s.get PWR_VCORE_MODE ≠ 1)) ∧
    (∃ (cals : List (Nat × Nat × Nat)) (s : State) (ds : List Nat), (s.pow.msUp = false) ∧ (s.pow.vbat = true) ∧ (s.pow.coreUp = true) ∧ (ds = 13 :: (List.range 8).filterMap (fun k => if bitOf (s.get PWR_DOMCTL_RUN) k then some (14 + k) else none))) :=
  ⟨⟨14, (State.set (State.set State.reset (PWR_DOMCTL_RUN) 0) (PWR_DOMSTAT_UP) 0x3FFFFF), by decide +kernel⟩,
   ⟨14, [], (State.set State.reset (PWR_DOMCTL_RUN) 1), by decide +kernel⟩,
   ⟨State.reset, (State.diesOff State.reset false).toVbak, by decide +kernel⟩,
   ⟨{ State.reset with pow := { State.reset.pow with vbat := false } }, by decide +kernel⟩,
   ⟨30, State.reset, by decide +kernel⟩,
   ⟨30, (State.set State.reset (PWR_STAT_VBATLO) 1), by decide +kernel⟩,
   ⟨90, State.reset, by decide +kernel⟩,
   ⟨60, (State.set State.reset (PWR_STAT_VBATHI) 1), by decide +kernel⟩,
   ⟨60, State.reset, by decide +kernel⟩,
   ⟨1400, (State.set (State.set (State.set { State.reset with pow := { State.reset.pow with bringUp := none } } (PWR_VCORE_MODE) 1) (PWR_VCORE_TLIM) 100) (PWR_VCORE_TARGET) 10), by decide +kernel⟩,
   ⟨1400, State.reset, by decide +kernel⟩,
   ⟨[], ({ State.reset with pow := { State.reset.pow with msUp := false } } : State), (13 :: (List.range 8).filterMap (fun k => if bitOf (({ State.reset with pow := { State.reset.pow with msUp := false } } : State).get PWR_DOMCTL_RUN) k then some (14 + k) else none)), by decide +kernel⟩⟩

theorem witness_BackupDomain :
    (∃ (s : State), (s.on PWR_STAT_MAIN = true)) ∧
    (∃ (s : State), (s.on PWR_STAT_MAIN = false)) ∧
    (∃ (s : State) (t : State), (s.on GTB_STAT_GTB_VALID = false) ∧ (t = s.restore (fun k => keyKind k == kindCode .K))) ∧
    (∃ (s : State) (t u : State), (s.on GTB_STAT_GTB_VALID = true) ∧ (t = s.restore (fun k => keyKind k == kindCode .K)) ∧ (u = State.backRaise { t with evr := { t.evr with persist := [], commit := false, areaA := {}, areaB := {} }, pow := { t.pow with gtbRec := (0, 0, false), ticks := 0, recB := false, backLog := [] } } 5) ∧ (u.pow.coreUp = true)) ∧
    (∃ (mv : Nat) (crcOk : Bool) (s : State) (t : State), (t = State.persistCommit (State.backMin { s with pow := { s.pow with ticks := s.pow.ticks + 1 } } mv) { mv := mv, first := crcOk, second := crcOk }) ∧ (t.pow.msUp = false ∨ mv < 2100)) ∧
    (∃ (mv : Nat) (s : State) (t : State), (t = State.persistCommit (State.backMin { s with pow := { s.pow with ticks := s.pow.ticks + 1 } } mv) { mv := mv, first := true, second := true }) ∧ (t.pow.msUp = true) ∧ (2100 ≤ mv)) ∧
    (∃ (v : Fin 256) (s : State), (s.pow.vbat = true) ∧ (v.val < 125) ∧ (s.on PWR_STAT_BAKLOW = false)) ∧
    (∃ (v : Fin 256) (s : State), (s.pow.vbat = true) ∧ (125 ≤ v.val)) :=
  ⟨⟨(State.set State.reset (PWR_STAT_MAIN) 1), by decide +kernel⟩,
   ⟨(State.set State.reset (PWR_STAT_MAIN) 0), by decide +kernel⟩,
   ⟨State.reset, (State.reset.restore (fun k => keyKind k == kindCode .K)), by decide +kernel⟩,
   ⟨((State.set State.reset (GTB_STAT_GTB_VALID) 1)), (State.restore ((State.set State.reset (GTB_STAT_GTB_VALID) 1)) (fun k => keyKind k == kindCode .K)), (State.backRaise { (State.restore ((State.set State.reset (GTB_STAT_GTB_VALID) 1)) (fun k => keyKind k == kindCode .K)) with evr := { ((State.restore ((State.set State.reset (GTB_STAT_GTB_VALID) 1)) (fun k => keyKind k == kindCode .K)) : State).evr with persist := [], commit := false, areaA := {}, areaB := {} }, pow := { ((State.restore ((State.set State.reset (GTB_STAT_GTB_VALID) 1)) (fun k => keyKind k == kindCode .K)) : State).pow with gtbRec := (0, 0, false), ticks := 0, recB := false, backLog := [] } } 5), by decide +kernel, rfl, rfl, by decide +kernel⟩,
   ⟨2000, true, State.reset, (State.persistCommit (State.backMin { State.reset with pow := { State.reset.pow with ticks := State.reset.pow.ticks + 1 } } 2000) { mv := 2000, first := true, second := true }), by decide +kernel⟩,
   ⟨3000, State.reset, (State.persistCommit (State.backMin { State.reset with pow := { State.reset.pow with ticks := State.reset.pow.ticks + 1 } } 3000) { mv := 3000, first := true, second := true }), by decide +kernel⟩,
   ⟨100, State.reset, by decide +kernel⟩,
   ⟨150, State.reset, by decide +kernel⟩⟩

theorem witness_BringUp :
    (∃ (k : Fin 177) (cal : Nat × Nat) (s : State), (s.pow.bringUp.isSome = true) ∧ ((calItems s.warmUp).contains k.val = true) ∧ (s.pow.calDone.contains k.val = false) ∧ (s.itemDue k = true)) ∧
    (∃ (i : Option (Fin 177)) (ok : Bool) (cal : Nat × Nat) (s : State), (s.pow.bringUp = none)) ∧
    (∃ (i : Fin 179) (e : TestEnd) (t : State) (s : State), (s.pow.bringUp.isSome = true) ∧ ((testItems s.warmUp).contains i.val = true) ∧ (s.pow.testDone.contains i.val = false) ∧ (s.itemDue i = true) ∧ (i.val < 87 ∨ 103 ≤ i.val) ∧ (t = State.testEnded { s with pow := { s.pow with testDone := i.val :: s.pow.testDone } } i e)) ∧
    (∃ (i : Fin 179) (e : TestEnd) (s : State), (s.pow.bringUp = none)) ∧
    (∃ (n : Nat) (s : State), (s.pow.bringUp.isSome = true) ∧ (s.pow.pin = false) ∧ (s.get SYS_READY_STAGE = 1) ∧ (s.on MBX_GSTAT_RECOVERY = false) ∧ (s.mirrorsReady = true)) ∧
    (∃ (n : Nat) (peer : Bool) (u : State) (s : State), (s.pow.bringUp.isSome = true) ∧ (s.get SYS_READY_STAGE = 2) ∧ (s.bringUpOver = true) ∧ (isTwin s.part = false) ∧ (u = ((s.setIf s.anyMarked SYS_READY_DEGRADED 1).set SYS_READY_STAGE 3).set SYS_READYT_TFULL (satU 16 n))) ∧
    (∃ (n : Nat) (peer : Bool) (s : State), (s.get SYS_READY_STAGE ≠ 1) ∧ (s.get SYS_READY_STAGE ≠ 2)) ∧
    (∃ (s : State), (s.zoneMay = true) ∧ (s.on CRS_ZOK_LEVEL = false)) ∧
    (∃ (s : State), (s.zoneMay = false)) ∧
    (∃ (s : State), (s.on CRS_ZOK_LEVEL = true)) ∧
    (∃ (b : Fin 40) (s : State), (s.pow.asleep = true) ∧ (s.pow.vbat = true) ∧ (s.wakeDetect b = true)) ∧
    (∃ (b : Fin 40) (s : State), (s.pow.asleep = true) ∧ (s.wakeDetect b = false)) ∧
    (∃ (s : State) (t : State), (s.get CRS_STAT_STATE = 5) ∧ (s.pow.coreUp = true) ∧ (t = s.diesOff true) ∧ (t.crs.window = false)) ∧
    (∃ (s : State), (s.get CRS_STAT_STATE ≠ 5 ∨ s.pow.coreUp = false)) :=
  ⟨⟨20, (0, 0), (State.set (State.set State.reset (PWR_DOMSTAT_UP) 0x3FFFFF) (SYS_READY_STAGE) 1), by decide +kernel⟩,
   ⟨some 8, true, (0, 0), { State.reset with pow := { State.reset.pow with bringUp := none } }, by decide +kernel⟩,
   ⟨20, .pass, (State.testEnded { ((State.set (State.set State.reset (PWR_DOMSTAT_UP) 0x3FFFFF) (SYS_READY_STAGE) 1)) with pow := { ((State.set (State.set State.reset (PWR_DOMSTAT_UP) 0x3FFFFF) (SYS_READY_STAGE) 1)).pow with testDone := 20 :: ((State.set (State.set State.reset (PWR_DOMSTAT_UP) 0x3FFFFF) (SYS_READY_STAGE) 1)).pow.testDone } } 20 .pass), ((State.set (State.set State.reset (PWR_DOMSTAT_UP) 0x3FFFFF) (SYS_READY_STAGE) 1)), by decide +kernel, (by decide +kernel), by decide +kernel, (by decide +kernel), by decide +kernel, rfl⟩,
   ⟨20, .pass, { State.reset with pow := { State.reset.pow with bringUp := none } }, by decide +kernel⟩,
   ⟨5, { (State.set State.reset (SYS_READY_STAGE) 1) with psc := { State.reset.psc with die := Tab.put (Tab.put {} 0 { loaded := true }) 1 { loaded := true } } }, by decide +kernel⟩,
   ⟨5, false, (((State.setIf ({ (State.set State.reset (SYS_READY_STAGE) 2) with pow := { State.reset.pow with calDone := calItems false, testDone := testItems false } } : State) (State.anyMarked ({ (State.set State.reset (SYS_READY_STAGE) 2) with pow := { State.reset.pow with calDone := calItems false, testDone := testItems false } } : State)) SYS_READY_DEGRADED 1).set SYS_READY_STAGE 3).set SYS_READYT_TFULL (satU 16 5)), ({ (State.set State.reset (SYS_READY_STAGE) 2) with pow := { State.reset.pow with calDone := calItems false, testDone := testItems false } } : State), by decide +kernel, (by decide +kernel), by decide +kernel, (by decide +kernel), rfl⟩,
   ⟨5, true, State.reset, by decide +kernel⟩,
   ⟨(State.set State.reset (SYS_READY_STAGE) 3), by decide +kernel⟩,
   ⟨State.reset, by decide +kernel⟩,
   ⟨(State.set State.reset (CRS_ZOK_LEVEL) 1), by decide +kernel⟩,
   ⟨3, { (State.set (State.set State.reset (CAN_TRXCTL_MODE 3) 2) (CAN_TRXCTL_WAKEEN 3) 1) with pow := { State.reset.pow with asleep := true } }, by decide +kernel⟩,
   ⟨3, { (State.set State.reset (CAN_TRXCTL_MODE 3) 0) with pow := { State.reset.pow with asleep := true } }, by decide +kernel⟩,
   ⟨(State.set State.reset (CRS_STAT_STATE) 5), (State.diesOff (State.set State.reset (CRS_STAT_STATE) 5) true), by decide +kernel⟩,
   ⟨State.reset, by decide +kernel⟩⟩

theorem witness_CompassInformation :
    (∃ (m : Fin 8) (t : State) (s : State), (compassRuns s m 0x01 0x3F false false t)) ∧
    (∃ (m : Fin 8) (t : State) (s : State), (compassRuns s m 0x02 0x1E false false t)) ∧
    (∃ (m : Fin 8) (t : State) (s : State), (compassRuns s m 0x03 0x3F false false t)) ∧
    (∃ (m : Fin 8) (nonce : List Nat) (t : State) (s : State), (compassRuns s m 0x14 0x1E false false t) ∧ (nonce.length = 32) ∧ (nonce.all (fun b => decide (b < 256)) = true)) ∧
    (∃ (m : Fin 8) (t : State) (s : State), (compassRuns s m 0x20 0x1E false false t) ∧ (t.arg m 3 < 8) ∧ (t.bufErr m 48 false true = 0)) ∧
    (∃ (m : Fin 8) (t : State) (s : State), (compassRuns s m 0x20 0x1E false false t) ∧ (8 ≤ t.arg m 3)) ∧
    (∃ (m : Fin 8) (t : State) (s : State), (compassRuns s m 0x21 0x1E true false t) ∧ (4 ≤ t.arg m 3) ∧ (t.arg m 3 < 8) ∧ (t.bufErr m 48 true false = 0)) ∧
    (∃ (m : Fin 8) (q : List Nat) (t : State) (s : State), (compassRuns s m 0x22 0x1C false false t) ∧ (t.arg m 3 < 256) ∧ (t.bufErr m (0xA0 + 48 * popCount (t.arg m 3) 8) true true = 0) ∧ (t.cmp.scan = false) ∧ (q = t.quoteBytes m (t.arg m 3) ++ toBytesBE 96 (Config.sign t.free t.cmp.ks.attest (digest (t.quoteBytes m (t.arg m 3)))).toNat)) ∧
    (∃ (m : Fin 8) (cert : List Nat) (t : State) (s : State), (compassRuns s m 0x23 0x1C false false t) ∧ (cert = (Config.certChain t.cmp.ks.attest t.cmp.ks.devId).map (· % 256))) ∧
    (∃ (m : Fin 8) (r : Fin 3 × BitVec 32 × BitVec 384) (t : State) (s : State), (compassRuns s m 0x24 0x1C false false t) ∧ (t.arg m 3 < 4) ∧ (t.arg m 4 = 0 ∨ 4 ≤ t.arg m 4 ∧ t.arg m 4 < 8) ∧ (t.bufErr m 1 true false = 0) ∧ (r = Config.signedBlob (t.cmp.ks.roots.get (t.arg m 3)) (t.bufRead m (t.bufLen m)))) ∧
    (∃ (m : Fin 8) (bytes : List Nat) (t : State) (s : State), (compassRuns s m 0x62 0x1E false false t) ∧ (t.bufLen m ≤ 4096) ∧ (t.bufErr m 1 false true = 0)) :=
  ⟨⟨2, mbxTaken (mbxHolds 3 0x01 []), (mbxHolds 3 0x01 []), by decide +kernel⟩,
   ⟨2, mbxTaken (mbxHolds 3 0x02 []), (mbxHolds 3 0x02 []), by decide +kernel⟩,
   ⟨2, mbxTaken (mbxHolds 3 0x03 []), (mbxHolds 3 0x03 []), by decide +kernel⟩,
   ⟨2, List.replicate 32 7, mbxTaken (mbxHolds 3 0x14 []), (mbxHolds 3 0x14 []), by decide +kernel⟩,
   ⟨2, mbxTaken (mbxHolds 3 0x20 [268435456, 0, 48, 4]), (mbxHolds 3 0x20 [268435456, 0, 48, 4]), by decide +kernel⟩,
   ⟨2, mbxTaken (mbxHolds 3 0x20 [268435456, 0, 48, 9]), (mbxHolds 3 0x20 [268435456, 0, 48, 9]), by decide +kernel⟩,
   ⟨2, mbxTaken (mbxHolds 3 0x21 [268435456, 0, 48, 4]), (mbxHolds 3 0x21 [268435456, 0, 48, 4]), by decide +kernel⟩,
   ⟨2, (mbxTaken (mbxHolds 3 0x22 [268435456, 0, 1024, 4])).quoteBytes 2 ((mbxTaken (mbxHolds 3 0x22 [268435456, 0, 1024, 4])).arg 2 3) ++ toBytesBE 96 (Config.sign (mbxTaken (mbxHolds 3 0x22 [268435456, 0, 1024, 4])).free (mbxTaken (mbxHolds 3 0x22 [268435456, 0, 1024, 4])).cmp.ks.attest (digest ((mbxTaken (mbxHolds 3 0x22 [268435456, 0, 1024, 4])).quoteBytes 2 ((mbxTaken (mbxHolds 3 0x22 [268435456, 0, 1024, 4])).arg 2 3)))).toNat, mbxTaken (mbxHolds 3 0x22 [268435456, 0, 1024, 4]), (mbxHolds 3 0x22 [268435456, 0, 1024, 4]), by decide +kernel, (by decide +kernel), by decide +kernel, (by decide +kernel), rfl⟩,
   ⟨2, (Config.certChain (mbxTaken (mbxHolds 3 0x23 [268435456, 0, 64])).cmp.ks.attest (mbxTaken (mbxHolds 3 0x23 [268435456, 0, 64])).cmp.ks.devId).map (· % 256), mbxTaken (mbxHolds 3 0x23 [268435456, 0, 64]), (mbxHolds 3 0x23 [268435456, 0, 64]), by decide +kernel, rfl⟩,
   ⟨2, Config.signedBlob ((mbxTaken (mbxHolds 3 0x24 [268435456, 0, 64, 1, 5])).cmp.ks.roots.get ((mbxTaken (mbxHolds 3 0x24 [268435456, 0, 64, 1, 5])).arg 2 3)) ((mbxTaken (mbxHolds 3 0x24 [268435456, 0, 64, 1, 5])).bufRead 2 ((mbxTaken (mbxHolds 3 0x24 [268435456, 0, 64, 1, 5])).bufLen 2)), mbxTaken (mbxHolds 3 0x24 [268435456, 0, 64, 1, 5]), (mbxHolds 3 0x24 [268435456, 0, 64, 1, 5]), by decide +kernel, (by decide +kernel), by decide +kernel, (by decide +kernel), rfl⟩,
   ⟨2, [5], mbxTaken (mbxHolds 3 0x62 [268435456, 0, 16]), (mbxHolds 3 0x62 [268435456, 0, 16]), by decide +kernel⟩⟩

theorem witness_LifeCycle :
    (∃ (m : Fin 8) (a b d : Nat) (t : State) (s : State), (compassRunsNv s m 0x10 0x01 false true t) ∧ (t.bufErr m 0x141 true false = 0) ∧ (t.cmp.fails < 8)) ∧
    (∃ (m : Fin 8) (t : State) (s : State), (compassRunsNv s m 0x11 0x06 true true t) ∧ (t.arg m 4 = 0x4C43_4144) ∧ (t.arg m 3 = 2) ∧ (t.cmp.ks.lc = 1) ∧ (t.bufErr m 0x141 true false = 0) ∧ (t.cmp.fails < 8)) ∧
    (∃ (m : Fin 8) (b : Nat) (t : State) (s : State), (compassRunsNv s m 0x11 0x06 true true t) ∧ (t.arg m 4 = 0x4C43_4144) ∧ (t.arg m 3 = 3) ∧ (t.cmp.ks.lc = 2) ∧ (t.arg m 0 = 0) ∧ (t.arg m 1 = 0) ∧ (t.cmp.ks.pending = none) ∧ (t.cmp.booted = some b)) ∧
    (∃ (m : Fin 8) (t : State) (s : State), (compassRunsNv s m 0x12 0x0C true true t) ∧ (t.bufErr m 0x141 true false = 0) ∧ (t.cmp.fails < 8)) ∧
    (∃ (m : Fin 8) (t : State) (s : State), (compassRunsNv s m 0x13 0x1F true true t) ∧ (t.arg m 3 = 0x454E_4421)) ∧
    (∃ (m : Fin 8) (t : State) (s : State), (compassRunsNv s m 0x13 0x1F true true t) ∧ (t.arg m 3 ≠ 0x454E_4421)) ∧
    (∃ (m : Fin 8) (t : State) (s : State), (compassRuns s m 0x15 0x08 true true t) ∧ (t.bufErr m 0x141 true false = 0) ∧ (t.cmp.fails < 8)) ∧
    (∃ (m : Fin 8) (t : State) (s : State), (compassRunsNv s m 0x16 0x04 true true t) ∧ (t.arg m 3 < 4) ∧ (t.bufErr m 52 true false = 0) ∧ (t.cmp.ks.roots.get (t.arg m 3) = [])) ∧
    (∃ (m : Fin 8) (t : State) (s : State), (compassRunsNv s m 0x17 0x0C true true t) ∧ (t.bufErr m 0x141 true false = 0) ∧ (t.cmp.fails < 8)) :=
  ⟨⟨2, 1, 2, 3, mbxTaken (State.set (State.set (mbxHolds 0 0x10 [268435456, 0, 321]) MBX_GSTAT_RECOVERY 1) (MBX_STATUS_OWNER 2) 9), (State.set (State.set (mbxHolds 0 0x10 [268435456, 0, 321]) MBX_GSTAT_RECOVERY 1) (MBX_STATUS_OWNER 2) 9), by decide +kernel⟩,
   ⟨2, mbxTaken (mbxHolds 1 0x11 [268435456, 0, 321, 2, 1279476036]), (mbxHolds 1 0x11 [268435456, 0, 321, 2, 1279476036]), by decide +kernel⟩,
   ⟨2, 0, mbxTaken (State.withCmp (mbxHolds 2 0x11 [0, 0, 0, 3, 1279476036]) (fun c => { c with booted := some 0 })), (State.withCmp (mbxHolds 2 0x11 [0, 0, 0, 3, 1279476036]) (fun c => { c with booted := some 0 })), by decide +kernel⟩,
   ⟨2, mbxTaken (mbxHolds 3 0x12 [268435456, 0, 321]), (mbxHolds 3 0x12 [268435456, 0, 321]), by decide +kernel⟩,
   ⟨2, mbxTaken (mbxHolds 3 0x13 [0, 0, 0, 1162757153]), (mbxHolds 3 0x13 [0, 0, 0, 1162757153]), by decide +kernel⟩,
   ⟨2, mbxTaken (mbxHolds 3 0x13 []), (mbxHolds 3 0x13 []), by decide +kernel⟩,
   ⟨2, mbxTaken (mbxHolds 3 0x15 [268435456, 0, 321]), (mbxHolds 3 0x15 [268435456, 0, 321]), by decide +kernel⟩,
   ⟨2, mbxTaken (mbxHolds 2 0x16 [268435456, 0, 52, 1]), (mbxHolds 2 0x16 [268435456, 0, 52, 1]), by decide +kernel⟩,
   ⟨2, mbxTaken (mbxHolds 3 0x17 [268435456, 0, 321]), (mbxHolds 3 0x17 [268435456, 0, 321]), by decide +kernel⟩⟩

theorem witness_Updates :
    (∃ (m : Fin 8) (b : Nat) (t : State) (s : State), (compassRunsNv s m 0x30 0x0C true true t) ∧ (t.arg m 3 < 2) ∧ (t.cmp.trial = false) ∧ (t.cmp.booted = some b)) ∧
    (∃ (m : Fin 8) (t : State) (s : State), (compassRunsNv s m 0x30 0x0C true true t) ∧ (t.arg m 3 < 2) ∧ (t.cmp.trial = true)) ∧
    (∃ (m : Fin 8) (t : State) (s : State), (compassRunsNv s m 0x31 0x0C true true t) ∧ (updFits t.part (t.arg m 3) (t.arg m 2) = true) ∧ (t.bufErr m 256 true false = 0) ∧ (t.cmp.ks.upd ≠ 0)) ∧
    (∃ (m : Fin 8) (t : State) (s : State), (compassRunsNv s m 0x31 0x0C true true t) ∧ (updFits t.part (t.arg m 3) (t.arg m 2) = true) ∧ (t.bufErr m 256 true false = 0) ∧ (t.cmp.ks.upd = 0)) ∧
    (∃ (m : Fin 8) (f : Nat) (d : List Nat) (t : State) (s : State), (compassRunsNv s m 0x32 0x0C true true t) ∧ (updFits t.part (t.arg m 3) (t.arg m 5) = true) ∧ (t.cmp.ks.upd ≠ 0) ∧ (t.cmp.erasing = false) ∧ (t.cmp.flash = some f)) ∧
    (∃ (m : Fin 8) (b : Nat) (bad : List Nat) (t : State) (s : State), (compassRunsNv s m 0x33 0x0C true true t) ∧ (t.cmp.ks.upd ≠ 0) ∧ (b = t.cmp.ks.bank)) ∧
    (∃ (m : Fin 8) (t : State) (s : State), (compassRunsNv s m 0x34 0x0C true true t) ∧ (t.arg m 3 &&& 0x71 = t.arg m 3) ∧ (t.cmp.ks.upd = 2)) ∧
    (∃ (m : Fin 8) (t : State) (s : State), (compassRunsNv s m 0x34 0x0C true true t) ∧ (t.arg m 3 &&& 0x71 = t.arg m 3) ∧ (t.cmp.ks.upd ≠ 2)) ∧
    (∃ (m : Fin 8) (b roll : Nat) (u : State) (t : State) (s : State), (compassRunsNv s m 0x35 0x0C true false t) ∧ (t.cmp.booted = some b) ∧ (t.cmp.ks.pending = some b) ∧ (roll = (if t.cmp.ks.lc = 3 then max t.cmp.ks.rollback (t.manVersion b) else t.cmp.ks.rollback)) ∧ (u = t.ksSet (fun k => { k with active := b, pending := none, tries := 0, rollback := roll }))) ∧
    (∃ (m : Fin 8) (b : Nat) (t : State) (s : State), (compassRunsNv s m 0x36 0x0C true true t) ∧ (t.arg m 3 < 2) ∧ (b = otherBank (t.cmp.booted.getD t.cmp.ks.active)) ∧ (t.cmp.ks.rollback ≤ t.manVersion b)) ∧
    (∃ (m : Fin 8) (b : Nat) (t : State) (s : State), (compassRunsNv s m 0x36 0x0C true true t) ∧ (t.arg m 3 < 2) ∧ (b = otherBank (t.cmp.booted.getD t.cmp.ks.active)) ∧ (t.manVersion b < t.cmp.ks.rollback)) :=
  ⟨⟨2, 0, mbxTaken (State.withCmp (mbxHolds 3 0x30 []) (fun c => { c with booted := some 0 })), (State.withCmp (mbxHolds 3 0x30 []) (fun c => { c with booted := some 0 })), by decide +kernel⟩,
   ⟨2, mbxTaken (State.withCmp (mbxHolds 3 0x30 []) (fun c => { c with trial := true })), (State.withCmp (mbxHolds 3 0x30 []) (fun c => { c with trial := true })), by decide +kernel⟩,
   ⟨2, mbxTaken (State.withCmp (mbxHolds 3 0x31 [268435456, 0, 256, 0]) (fun c => { c with ks := { c.ks with upd := 1 } })), (State.withCmp (mbxHolds 3 0x31 [268435456, 0, 256, 0]) (fun c => { c with ks := { c.ks with upd := 1 } })), by decide +kernel⟩,
   ⟨2, mbxTaken (mbxHolds 3 0x31 [268435456, 0, 256, 0]), (mbxHolds 3 0x31 [268435456, 0, 256, 0]), by decide +kernel⟩,
   ⟨2, 0, [5], mbxTaken (State.withCmp (mbxHolds 3 0x32 [268435456, 0, 0, 0, 0, 256]) (fun c => { c with ks := { c.ks with upd := 1 }, flash := some 0 })), (State.withCmp (mbxHolds 3 0x32 [268435456, 0, 0, 0, 0, 256]) (fun c => { c with ks := { c.ks with upd := 1 }, flash := some 0 })), by decide +kernel⟩,
   ⟨2, 0, [], mbxTaken (State.withCmp (mbxHolds 3 0x33 []) (fun c => { c with ks := { c.ks with upd := 1 } })), (State.withCmp (mbxHolds 3 0x33 []) (fun c => { c with ks := { c.ks with upd := 1 } })), by decide +kernel⟩,
   ⟨2, mbxTaken (State.withCmp (mbxHolds 3 0x34 [0, 0, 0, 32]) (fun c => { c with ks := { c.ks with upd := 2 } })), (State.withCmp (mbxHolds 3 0x34 [0, 0, 0, 32]) (fun c => { c with ks := { c.ks with upd := 2 } })), by decide +kernel⟩,
   ⟨2, mbxTaken (mbxHolds 3 0x34 [0, 0, 0, 32]), (mbxHolds 3 0x34 [0, 0, 0, 32]), by decide +kernel⟩,
   ⟨2, 0, 0, ((mbxTaken (State.withCmp (mbxHolds 3 0x35 []) (fun c => { c with booted := some 0, ks := { c.ks with pending := some 0 } }))).ksSet (fun k => { k with active := 0, pending := none, tries := 0, rollback := 0 })), mbxTaken (State.withCmp (mbxHolds 3 0x35 []) (fun c => { c with booted := some 0, ks := { c.ks with pending := some 0 } })), (State.withCmp (mbxHolds 3 0x35 []) (fun c => { c with booted := some 0, ks := { c.ks with pending := some 0 } })), by decide +kernel, (by decide +kernel), by decide +kernel, (by decide +kernel), rfl⟩,
   ⟨2, 1, mbxTaken (mbxHolds 3 0x36 []), (mbxHolds 3 0x36 []), by decide +kernel⟩,
   ⟨2, 1, mbxTaken (State.withCmp (mbxHolds 3 0x36 []) (fun c => { c with ks := { c.ks with rollback := 5 } })), (State.withCmp (mbxHolds 3 0x36 []) (fun c => { c with ks := { c.ks with rollback := 5 } })), by decide +kernel⟩⟩

theorem witness_SettingsAndStorage :
    (∃ (m : Fin 8) (b : Nat) (t : State) (s : State), (compassRuns s m 0x40 0x1E true false t) ∧ (t.cfgBank m = some b) ∧ (t.arg m 4 < 1024)) ∧
    (∃ (m : Fin 8) (b : Nat) (t : State) (s : State), (compassRuns s m 0x40 0x1E true false t) ∧ (t.cfgBank m = some b) ∧ (1024 ≤ t.arg m 4)) ∧
    (∃ (m : Fin 8) (b k : Nat) (t : State) (s : State), (compassRunsNv s m 0x41 0x1E true false t) ∧ (t.cfgBank m = some b) ∧ (t.arg m 4 < 1024) ∧ (k = (t.recCopy b).getD 0)) ∧
    (∃ (m : Fin 8) (b : Nat) (t : State) (s : State), (compassRunsNv s m 0x41 0x1E true false t) ∧ (t.cfgBank m = some b) ∧ (1024 ≤ t.arg m 4)) ∧
    (∃ (m : Fin 8) (t : State) (s : State), (compassRuns s m 0x42 0x1E true false t) ∧ (t.arg m 3 % 256 = 0) ∧ (within (t.arg m 3) (bankBase 0) (envmBank t.part) = true)) ∧
    (∃ (m : Fin 8) (t : State) (s : State), (compassRunsNv s m 0x42 0x1E true false t) ∧ (t.arg m 3 % 256 = 0) ∧ (within (t.arg m 3) (bankBase 0) (envmBank t.part) = true)) ∧
    (∃ (m : Fin 8) (l : List PersistEntry) (t : State) (s : State), (compassRuns s m 0x43 0x1E true false t) ∧ (t.bufErr m 512 false true = 0) ∧ (l = t.evr.persist.reverse)) ∧
    (∃ (m : Fin 8) (t : State) (s : State), (compassRuns s m 0x44 0x1E true false t)) ∧
    (∃ (m : Fin 8) (w : List Nat) (t : State) (s : State), (compassRuns s m 0x60 0x1C false false t) ∧ (t.bufErr m 16 true true = 0) ∧ (t.bufLen m ≤ 4096) ∧ (t.bufLen m % 8 = 0) ∧ (t.bufOk m (t.bufLen m + 8) .write = true) ∧ (t.cmp.scan = false) ∧ (w = (Config.keyWrap t.cmp.ks.secret t.cmp.ks.salt (t.mbxOwner m).inner (t.cmp.grp.get m) (t.arg m 3) (t.bufRead m (t.bufLen m))).map (· % 256))) ∧
    (∃ (m : Fin 8) (w : Option (List Nat)) (t : State) (s : State), (compassRuns s m 0x61 0x1C false false t) ∧ (t.bufErr m 16 true true = 0) ∧ (t.bufLen m ≤ 4096) ∧ (t.bufLen m % 8 = 0) ∧ (t.bufOk m (t.bufLen m) .write = true) ∧ (t.cmp.scan = false) ∧ (w = Config.keyUnwrap t.cmp.ks.secret t.cmp.ks.salt (t.mbxOwner m).inner (t.cmp.grp.get m) (t.arg m 3) (t.bufRead m (t.bufLen m)))) ∧
    (∃ (m : Fin 8) (j k : Fin 4294967296) (u : State) (t : State) (s : State), (compassRuns s m 0x70 0x1E true true t) ∧ (t.arg m 3 < 2) ∧ (t.arg m 4 ≠ 0) ∧ (t.arg m 4 ≤ 200) ∧ (t.cmp.erasing = false) ∧ (u = t.xspi 0x70 (t.arg m 3) (t.arg m 4))) ∧
    (∃ (m : Fin 8) (f : Nat) (d : List Nat) (t : State) (s : State), (compassRuns s m 0x71 0x1E true true t) ∧ (t.bufLen m ≤ 0x1_0000) ∧ (t.bufErr m 1 false true = 0) ∧ (t.cmp.erasing = false) ∧ (t.cmp.flash = some f)) ∧
    (∃ (m : Fin 8) (f : Nat) (t : State) (s : State), (compassRuns s m 0x72 0x1E true true t) ∧ (t.bufLen m ≤ 0x1_0000) ∧ (t.arg m 3 % 256 = 0) ∧ (t.bufErr m 1 true false = 0) ∧ (t.cmp.erasing = false) ∧ (t.cmp.flash = some f)) ∧
    (∃ (m : Fin 8) (f : Nat) (u : State) (t : State) (s : State), (compassRuns s m 0x73 0x1E true true t) ∧ (t.arg m 4 = 2) ∧ (t.cmp.erasing = false) ∧ (t.cmp.flash = some f) ∧ (u = t.xspi 0x73 (t.arg m 3) 2)) ∧
    (∃ (m : Fin 8) (t : State) (s : State), (compassRuns s m 0x73 0x1E true true t) ∧ (t.arg m 4 = 0) ∧ (t.arg m 3 % 0x1000 = 0) ∧ (t.cmp.erasing = true)) :=
  ⟨⟨2, 0, mbxTaken (mbxHolds 3 0x40 [0, 0, 0, 0, 5]), (mbxHolds 3 0x40 [0, 0, 0, 0, 5]), by decide +kernel⟩,
   ⟨2, 0, mbxTaken (mbxHolds 3 0x40 [0, 0, 0, 0, 1024]), (mbxHolds 3 0x40 [0, 0, 0, 0, 1024]), by decide +kernel⟩,
   ⟨2, 0, (((mbxTaken (mbxHolds 3 0x41 [0, 0, 0, 0, 5])).recCopy 0).getD 0), mbxTaken (mbxHolds 3 0x41 [0, 0, 0, 0, 5]), (mbxHolds 3 0x41 [0, 0, 0, 0, 5]), by decide +kernel, (by decide +kernel), by decide +kernel, rfl⟩,
   ⟨2, 0, mbxTaken (mbxHolds 3 0x41 [0, 0, 0, 0, 1024]), (mbxHolds 3 0x41 [0, 0, 0, 0, 1024]), by decide +kernel⟩,
   ⟨2, mbxTaken (mbxHolds 3 0x42 [0, 0, 0, 256]), mbxHolds 3 0x42 [0, 0, 0, 256], by decide +kernel⟩,
   ⟨2, mbxTaken (mbxHolds 3 0x42 [0, 0, 0, 256]), mbxHolds 3 0x42 [0, 0, 0, 256], by decide +kernel⟩,
   ⟨2, [], mbxTaken (mbxHolds 3 0x43 [268435456, 0, 512]), (mbxHolds 3 0x43 [268435456, 0, 512]), by decide +kernel⟩,
   ⟨2, mbxTaken (mbxHolds 3 0x44 []), (mbxHolds 3 0x44 []), by decide +kernel⟩,
   ⟨2, (Config.keyWrap (mbxTaken (mbxHolds 3 0x60 [268435456, 0, 16])).cmp.ks.secret (mbxTaken (mbxHolds 3 0x60 [268435456, 0, 16])).cmp.ks.salt ((mbxTaken (mbxHolds 3 0x60 [268435456, 0, 16])).mbxOwner 2).inner ((mbxTaken (mbxHolds 3 0x60 [268435456, 0, 16])).cmp.grp.get 2) ((mbxTaken (mbxHolds 3 0x60 [268435456, 0, 16])).arg 2 3) ((mbxTaken (mbxHolds 3 0x60 [268435456, 0, 16])).bufRead 2 ((mbxTaken (mbxHolds 3 0x60 [268435456, 0, 16])).bufLen 2))).map (· % 256), mbxTaken (mbxHolds 3 0x60 [268435456, 0, 16]), (mbxHolds 3 0x60 [268435456, 0, 16]), by decide +kernel, (by decide +kernel), by decide +kernel, (by decide +kernel), by decide +kernel, (by decide +kernel), rfl⟩,
   ⟨2, Config.keyUnwrap (mbxTaken (mbxHolds 3 0x61 [268435456, 0, 16])).cmp.ks.secret (mbxTaken (mbxHolds 3 0x61 [268435456, 0, 16])).cmp.ks.salt ((mbxTaken (mbxHolds 3 0x61 [268435456, 0, 16])).mbxOwner 2).inner ((mbxTaken (mbxHolds 3 0x61 [268435456, 0, 16])).cmp.grp.get 2) ((mbxTaken (mbxHolds 3 0x61 [268435456, 0, 16])).arg 2 3) ((mbxTaken (mbxHolds 3 0x61 [268435456, 0, 16])).bufRead 2 ((mbxTaken (mbxHolds 3 0x61 [268435456, 0, 16])).bufLen 2)), mbxTaken (mbxHolds 3 0x61 [268435456, 0, 16]), (mbxHolds 3 0x61 [268435456, 0, 16]), by decide +kernel, (by decide +kernel), by decide +kernel, (by decide +kernel), by decide +kernel, (by decide +kernel), rfl⟩,
   ⟨2, 5, 6, State.xspi (mbxTaken (mbxHolds 3 0x70 [0, 0, 0, 1, 100])) 0x70 1 100, mbxTaken (mbxHolds 3 0x70 [0, 0, 0, 1, 100]), (mbxHolds 3 0x70 [0, 0, 0, 1, 100]), by decide +kernel⟩,
   ⟨2, 0, [5], mbxTaken (State.withCmp (mbxHolds 3 0x71 [268435456, 0, 16, 0]) (fun c => { c with flash := some 0 })), (State.withCmp (mbxHolds 3 0x71 [268435456, 0, 16, 0]) (fun c => { c with flash := some 0 })), by decide +kernel⟩,
   ⟨2, 0, mbxTaken (State.withCmp (mbxHolds 3 0x72 [268435456, 0, 16, 0]) (fun c => { c with flash := some 0 })), (State.withCmp (mbxHolds 3 0x72 [268435456, 0, 16, 0]) (fun c => { c with flash := some 0 })), by decide +kernel⟩,
   ⟨2, 0, State.xspi (mbxTaken (State.withCmp (mbxHolds 3 0x73 [0, 0, 0, 0, 2]) (fun c => { c with flash := some 0 }))) 0x73 0 2, mbxTaken (State.withCmp (mbxHolds 3 0x73 [0, 0, 0, 0, 2]) (fun c => { c with flash := some 0 })), (State.withCmp (mbxHolds 3 0x73 [0, 0, 0, 0, 2]) (fun c => { c with flash := some 0 })), by decide +kernel⟩,
   ⟨2, mbxTaken (State.withCmp (mbxHolds 3 0x73 []) (fun c => { c with erasing := true })), (State.withCmp (mbxHolds 3 0x73 []) (fun c => { c with erasing := true })), by decide +kernel⟩⟩

theorem witness_CompassControl :
    (∃ (m : Nat) (res : List Nat) (e : Nat) (s : State), (s.cmp.run = some m) ∧ (s.cmp.res = some (res, e)) ∧ (s.get (MBX_CMD_OPCODE m) ≠ 0x34) ∧ (s.get (MBX_CMD_OPCODE m) ≠ 0x36) ∧ (s.cmp.drop = false)) ∧
    (∃ (s : State), (s.cmp.run = none) ∧ (s.cmp.queue = [])) ∧
    (∃ (m : Fin 8) (t : State) (s : State), (compassRuns s m 0x50 0x1E false false t) ∧ (bf (t.arg m 0) 0 25 = 0) ∧ (t.arg m 0 / 2 ^ 29 = 2) ∧ (t.arg m 2 ≠ 0) ∧ (bitOf (t.arg m 0) 26 = false) ∧ (t.arg m 4 = 0)) ∧
    (∃ (m : Fin 8) (t : State) (s : State), (compassRuns s m 0x50 0x1E false false t) ∧ (bf (t.arg m 0) 0 25 = 0) ∧ (t.arg m 0 / 2 ^ 29 = 3) ∧ (t.arg m 2 ≠ 0) ∧ (bitOf (t.arg m 0) 26 = false)) ∧
    (∃ (m : Fin 8) (t : State) (s : State), (compassRuns s m 0x50 0x1E false false t) ∧ (bf (t.arg m 0) 0 25 = 0) ∧ (t.arg m 0 / 2 ^ 29 = 4) ∧ (t.arg m 2 ≠ 0) ∧ (bitOf (t.arg m 0) 26 = false) ∧ (t.arg m 4 = 0)) ∧
    (∃ (m : Fin 8) (late : List (Fin 119)) (t : State) (s : State), (compassRuns s m 0x50 0x1E false false t) ∧ (bf (t.arg m 0) 0 25 = 0) ∧ (t.arg m 0 / 2 ^ 29 = 0 ∨ t.arg m 0 / 2 ^ 29 = 1) ∧ (t.arg m 2 ≠ 0) ∧ (bitOf (t.arg m 0) 26 = false) ∧ (t.arg m 4 = 0)) ∧
    (∃ (m : Fin 8) (late : List (Fin 119)) (t : State) (s : State), (compassRuns s m 0x50 0x1E false false t) ∧ (bf (t.arg m 0) 0 25 = 0) ∧ (t.arg m 0 / 2 ^ 29 = 7 ∨ t.arg m 2 = 0)) ∧
    (∃ (m : Fin 8) (t : State) (s : State), (compassRuns s m 0x51 0x1E true false t) ∧ (t.arg m 0 < 8) ∧ (t.isHart (t.arg m 0) = true) ∧ (t.get (RGN_WSTAT_STATE (t.arg m 0)) ≠ 3) ∧ (t.get (RGN_WSTAT_STATE (t.arg m 0)) ≠ 2)) ∧
    (∃ (m : Fin 8) (t : State) (s : State), (s.arg m 0 = 1 ∨ s.arg m 0 = 2) ∧ (s.arg m 1 = 0x5253_5421) ∧ (s.lcOk 0x1F = true) ∧ (s.callerOk m true true = true) ∧ (s.takeUp m 0x52 = some t)) ∧
    (∃ (m : Fin 8) (flaky bad : List Nat) (ok : Bool) (sig : Nat) (t : State) (s : State), (compassRuns s m 0x53 0x1E true false t) ∧ (s.arg m 0 = 1) ∧ (s.inSlice (s.arg m 1) = false) ∧ (s.arg m 1 < 58) ∧ (t.unitExists (s.arg m 1) = true) ∧ (t.on STE_COND_OK = true)) ∧
    (∃ (m : Fin 8) (t : State) (u : State) (s : State), (compassRuns s m 0x54 (if isTwin s.part then 0x12 else 0x16) true true t) ∧ (t.arg m 0 = 0x5343_414E) ∧ (u = State.forget (State.restore (State.each (State.each (t.raise 310 0) (List.range 8) (fun v c => (v.coreSet c (fun k => { k with stopped := true })).wstat c)) (List.range 12) (fun v e => (v.set (TG_CTL_RUN e) 0).tgFinish e)) macKeys) (fun a => within a 0x1000_0000 0x140_0000 || within a 0x2000_0000 0x30_0000))) ∧
    (∃ (bad : List Nat) (us : Nat) (s : State), (s.pow.bringUp.isSome = true) ∧ (s.pow.pin = false) ∧ (s.pow.coreUp = true) ∧ (s.pow.vbat = true) ∧ (s.get SYS_READY_STAGE = 0) ∧ (s.coreTested = true) ∧ (s.on PWR_STAT_VBATLO = false) ∧ (s.pow.bringUp ≠ some 4) ∧ (s.cmp.ks.lc = 0 ∨ s.cmp.ks.lc = 5)) ∧
    (∃ (bad : List Nat) (us : Nat) (t : State) (s : State), (s.pow.bringUp.isSome = true) ∧ (s.pow.pin = false) ∧ (s.pow.coreUp = true) ∧ (s.pow.vbat = true) ∧ (s.get SYS_READY_STAGE = 0) ∧ (s.coreTested = true) ∧ (s.on PWR_STAT_VBATLO = false) ∧ (s.pow.bringUp ≠ some 4) ∧ (s.cmp.ks.lc ≠ 0) ∧ (s.cmp.ks.lc ≠ 5) ∧ (s.cmp.ks.pending = none) ∧ (t = { State.islands (((((s.set SYS_READY_STAGE 1).eraseFinish).showLc).set SYS_CLKSTAT_XTAL_OK (b2n (!(((s.set SYS_READY_STAGE 1).eraseFinish).showLc).gtb.rc))).set PWR_DOMSTAT_UP 0x301F) with cmp := { (State.islands (((((s.set SYS_READY_STAGE 1).eraseFinish).showLc).set SYS_CLKSTAT_XTAL_OK (b2n (!(((s.set SYS_READY_STAGE 1).eraseFinish).showLc).gtb.rc))).set PWR_DOMSTAT_UP 0x301F)).cmp with bootUs := us % 2 ^ 32 } })) ∧
    (∃ (bad : List Nat) (us : Nat) (s : State), (s.get SYS_READY_STAGE ≠ 0)) :=
  ⟨⟨2, [5], 0, { State.reset with cmp := { State.reset.cmp with run := some 2, res := some ([5], 0) } }, by decide +kernel⟩,
   ⟨State.reset, by decide +kernel⟩,
   ⟨2, mbxTaken (mbxHolds 3 0x50 [2 * 2 ^ 29, 3, 1, 4]), (mbxHolds 3 0x50 [2 * 2 ^ 29, 3, 1, 4]), by decide +kernel⟩,
   ⟨2, mbxTaken (mbxHolds 3 0x50 [3 * 2 ^ 29, 3, 1, 4]), (mbxHolds 3 0x50 [3 * 2 ^ 29, 3, 1, 4]), by decide +kernel⟩,
   ⟨2, mbxTaken (mbxHolds 3 0x50 [4 * 2 ^ 29, 3, 1, 4]), (mbxHolds 3 0x50 [4 * 2 ^ 29, 3, 1, 4]), by decide +kernel⟩,
   ⟨2, [], mbxTaken (mbxHolds 3 0x50 [1 * 2 ^ 29, 3, 1, 4]), (mbxHolds 3 0x50 [1 * 2 ^ 29, 3, 1, 4]), by decide +kernel⟩,
   ⟨2, [], mbxTaken (mbxHolds 3 0x50 [7 * 2 ^ 29, 3, 1, 4]), (mbxHolds 3 0x50 [7 * 2 ^ 29, 3, 1, 4]), by decide +kernel⟩,
   ⟨2, mbxTaken (mbxHolds 3 0x51 [2]), (mbxHolds 3 0x51 [2]), by decide +kernel⟩,
   ⟨2, mbxTaken (mbxHolds 3 0x52 [1, 1381192737]), mbxHolds 3 0x52 [1, 1381192737], by decide +kernel⟩,
   ⟨2, [], [], true, 0, mbxTaken ((State.set (mbxHolds 3 0x53 [1, 20]) STE_COND_OK 1)), (State.set (mbxHolds 3 0x53 [1, 20]) STE_COND_OK 1), by decide +kernel⟩,
   ⟨2, (mbxTaken (mbxHolds 1 0x54 [1396916558])), (State.forget (State.restore (State.each (State.each ((mbxTaken (mbxHolds 1 0x54 [1396916558])).raise 310 0) (List.range 8) (fun v c => (v.coreSet c (fun k => { k with stopped := true })).wstat c)) (List.range 12) (fun v e => (v.set (TG_CTL_RUN e) 0).tgFinish e)) macKeys) (fun a => within a 0x1000_0000 0x140_0000 || within a 0x2000_0000 0x30_0000)), mbxHolds 1 0x54 [1396916558], by decide +kernel, (by decide +kernel), rfl⟩,
   ⟨[], 5, ({ State.reset with pow := { State.reset.pow with testDone := testItems false }, cmp := { State.reset.cmp with ks := { lc := 0 } } } : State), by decide +kernel⟩,
   ⟨[], 5, { State.islands (((((State.set ({ State.reset with pow := { State.reset.pow with testDone := testItems false }, cmp := { State.reset.cmp with ks := { lc := 3 } } } : State) SYS_READY_STAGE 1).eraseFinish).showLc).set SYS_CLKSTAT_XTAL_OK (b2n (!(((State.set ({ State.reset with pow := { State.reset.pow with testDone := testItems false }, cmp := { State.reset.cmp with ks := { lc := 3 } } } : State) SYS_READY_STAGE 1).eraseFinish).showLc).gtb.rc))).set PWR_DOMSTAT_UP 0x301F) with cmp := { (State.islands (((((State.set ({ State.reset with pow := { State.reset.pow with testDone := testItems false }, cmp := { State.reset.cmp with ks := { lc := 3 } } } : State) SYS_READY_STAGE 1).eraseFinish).showLc).set SYS_CLKSTAT_XTAL_OK (b2n (!(((State.set ({ State.reset with pow := { State.reset.pow with testDone := testItems false }, cmp := { State.reset.cmp with ks := { lc := 3 } } } : State) SYS_READY_STAGE 1).eraseFinish).showLc).gtb.rc))).set PWR_DOMSTAT_UP 0x301F)).cmp with bootUs := 5 % 2 ^ 32 } }, ({ State.reset with pow := { State.reset.pow with testDone := testItems false }, cmp := { State.reset.cmp with ks := { lc := 3 } } } : State), by decide +kernel, (by decide +kernel), by decide +kernel, (by decide +kernel), by decide +kernel, (by decide +kernel), by decide +kernel, (by decide +kernel), by decide +kernel, (by decide +kernel), by decide +kernel, rfl⟩,
   ⟨[], 5, State.set State.reset SYS_READY_STAGE 1, by decide +kernel⟩⟩

end Sys2Proof.Tests
end

section
/-! PROOFS. The twin (R35, R36, R38): what half A sends, what half B does with it, and the statement O2. -/

namespace Sys2Proof.Machine

open Sys2Proof

/-- R35: half A, alive, sends a mirror frame with its cause, and what the frame reports is no longer to be reported. -/
theorem execMirrorFrameSend_halfA {s : State} (hpart : s.part = .twinA) (halive : s.alive = true) :
    execMirrorFrameSend s = .next (if s.twinCause = 0 then s.emit (.link "MIRROR_FRAME" [s.twinCause]) else
      { s.emit (.link "MIRROR_FRAME" [s.twinCause]) with pow := { s.pow with twin := clrBit s.pow.twin s.twinCause, handed := s.pow.handed || s.twinCause == 3 } }) := by
  simp [execMirrorFrameSend, hpart, halive]

/-- R35: half B, standing by, applies what a mirror frame carries, and takes over at a cause. -/
theorem execMirrorFrameReceive_standby {s : State} (c : Fin 4) (items : List MirrorItem) (hpart : s.part = .twinB) (halive : s.alive = true)
    (hrole : (s.set SYS_TWIN_MIRROR_OK 1).get SYS_TWIN_ROLE = 2) :
    execMirrorFrameReceive c items s = .next (if c.val = 0 then (s.set SYS_TWIN_MIRROR_OK 1).each items State.twinItem else
      ((s.set SYS_TWIN_MIRROR_OK 1).each items State.twinItem).takeOver (c.val == 3)) := by
  simp only [execMirrorFrameReceive, hpart, halive, hrole]
  simp

/-- R35: half B in another role leaves what a mirror frame carries, and hands a cause to the takeover. -/
theorem execMirrorFrameReceive_notStandby {s : State} (c : Fin 4) (items : List MirrorItem) (hpart : s.part = .twinB) (halive : s.alive = true)
    (hrole : (s.set SYS_TWIN_MIRROR_OK 1).get SYS_TWIN_ROLE ≠ 2) :
    execMirrorFrameReceive c items s =
      .next (if c.val = 0 then s.set SYS_TWIN_MIRROR_OK 1 else (s.set SYS_TWIN_MIRROR_OK 1).takeOver (c.val == 3)) := by
  simp only [execMirrorFrameReceive, hpart, halive, if_neg hrole]
  simp

/-- R36, R38: at the start of a period of a pair that the part carries, its output stages follow a takeover that waits for it. -/
theorem execTakeoverPwmEnable_carried {s : State} {j : Fin 24} (hj : decide (j.val < nPwm s.part) = true) :
    execTakeoverPwmEnable j s = .next (if bitOf s.pow.takeover j = true then
      State.pwmDrive { s with pow := { s.pow with takeover := putBit s.pow.takeover j false, cut := if s.part = .twinA then putBit s.pow.cut j true else s.pow.cut } } j
      else s) := by
  cases hbit : bitOf s.pow.takeover j <;> simp [execTakeoverPwmEnable, of_decide_eq_true hj, hbit]

/-- Settles O2: each clause is the branch of its command that the clause's premises choose. -/
theorem twinLink : Obligations.TwinLink := by
  unfold Obligations.TwinLink
  refine ⟨?sendCause, ?sendQuiet, ?receiveItems, ?receiveCause, ?timeoutB, ?timeoutOther, fun s => rfl, ?pairEnables, ?pairWaits, ?handoff, ?noHandoff⟩
  case sendCause =>
    intro s hpart halive hcause
    rw [exec_mirrorFrameSend, execMirrorFrameSend_halfA hpart halive, if_neg hcause]
  case sendQuiet =>
    intro s hpart halive hcause
    rw [exec_mirrorFrameSend, execMirrorFrameSend_halfA hpart halive, if_pos hcause, hcause]
  case receiveItems =>
    intro c items s hpart halive hc hrole
    rw [exec_mirrorFrameReceive, execMirrorFrameReceive_standby c items hpart halive hrole, if_pos hc]
  case receiveCause =>
    intro c items s hpart halive hc hrole
    rw [exec_mirrorFrameReceive, execMirrorFrameReceive_notStandby c items hpart halive hrole, if_neg hc]
  case timeoutB =>
    intro s hpart
    rw [exec_mirrorTimeout, execMirrorTimeout, if_pos hpart]
  case timeoutOther =>
    intro s hpart
    rw [exec_mirrorTimeout, execMirrorTimeout, if_neg hpart]
  case pairEnables =>
    intro j s hbit hj
    rw [exec_takeoverPwmEnable, execTakeoverPwmEnable_carried hj, if_pos hbit]
  case pairWaits =>
    intro j s hbit hj
    rw [exec_takeoverPwmEnable, execTakeoverPwmEnable_carried hj, if_neg (by simp [hbit])]
  case handoff =>
    intro s hrole
    rw [exec_twinHandoff, execTwinHandoff, State.handoff, if_pos hrole]
  case noHandoff =>
    intro s hrole
    rw [exec_twinHandoff, execTwinHandoff, State.handoff, if_neg hrole]

end Sys2Proof.Machine
end

section
/-! PROOFS. Hold, mirror and feed of the power dies (R18, R216 to R223): what a heartbeat on the own port does, what the feed's limits do, and the statement O21. -/

namespace Sys2Proof.Machine

open Sys2Proof

/-- R18, R217: a valid heartbeat of the core die, on the port that a supplied die follows, ends the die's hold, or shows its link up. -/
theorem execCommandLinkHeartbeat_valid {s : State} {f : Fin 2} (hdie : hasDie s.part f = true) (halive : s.alive = true) (hscan : s.cmp.scan = false)
    (hmine : s.dieMine = true) (hoff : (s.psc.die.get f).off = false) :
    execCommandLinkHeartbeat f true false s = .next (if (s.psc.die.get f).hold = true then (s.emit (.link "HEARTBEAT" [f])).holdLeave f
      else (s.emit (.link "HEARTBEAT" [f])).set (PSC_DIESTAT_LINKUP f) 1) := by
  cases hhold : (s.psc.die.get f).hold <;> simp [execCommandLinkHeartbeat, hdie, halive, hscan, hmine, hoff, hhold]

/-- R18: a heartbeat of the core die that is not valid does nothing beyond having been sent. -/
theorem execCommandLinkHeartbeat_invalid {s : State} {f : Fin 2} (hdie : hasDie s.part f = true) (halive : s.alive = true) (hscan : s.cmp.scan = false) :
    execCommandLinkHeartbeat f false false s = .next (s.emit (.link "HEARTBEAT" [f])) := by
  simp [execCommandLinkHeartbeat, hdie, halive, hscan]

/-- R218, R219: the load of the mirror of an unconfigured die that is supplied and not in hold writes the mirror to it. -/
theorem State.mirrorLoad_unconfigured {s : State} {f : Nat} (hdie : hasDie s.part f = true) (hhold : (s.psc.die.get f).hold = false)
    (hoff : (s.psc.die.get f).off = false) (hconf : (s.psc.die.get f).configured = false) :
    s.mirrorLoad f =
      (((((s.mirrorWrite f).dieUpd f (fun x => { x with loaded := true })).set (PSC_DIESTAT_LINKUP f) 1).each (pscOfDie f) State.pscShow).dieShow f).restartShow f := by
  simp [State.mirrorLoad, hdie, hhold, hoff, hconf]

/-- Settles O21: each clause is the branch of its command that the clause's premises choose. -/
theorem pscHoldAndFeed : Obligations.PscHoldAndFeed := by
  unfold Obligations.PscHoldAndFeed
  refine ⟨?beat, ?beatInHold, ?holdEnter, ?holdLeave, ?noHold, ?mirrorLoad, ?feedLost, ?feedBack,
    fun f s hdie hhold hoff hconf _ => State.mirrorLoad_unconfigured hdie hhold hoff hconf, ?low, ?notLow, ?high, ?notHigh⟩
  case beat =>
    intro f s hdie halive hscan hmine hoff hhold
    rw [exec_commandLinkHeartbeat, exec_commandLinkHeartbeat, execCommandLinkHeartbeat_valid hdie halive hscan hmine hoff,
      execCommandLinkHeartbeat_invalid hdie halive hscan, if_neg (by simp [hhold])]
    exact ⟨rfl, rfl⟩
  case beatInHold =>
    intro f s hdie halive hscan hmine hoff hhold
    rw [exec_commandLinkHeartbeat, execCommandLinkHeartbeat_valid hdie halive hscan hmine hoff, if_pos hhold]
  case holdEnter =>
    intro f s hhold hoff hdie
    simp [exec_powerDieHoldEnter, execPowerDieHoldEnter, hdie, hhold, hoff]
  case holdLeave =>
    rintro f ms s hhold hoff rfl hdie
    refine ⟨_, _, ?_, rfl, rfl⟩
    simp only [exec_powerDieHoldLeave, execPowerDieHoldLeave, hdie, hhold, hoff]
    rfl
  case noHold =>
    intro f s hhold hdie
    simp [exec_powerDieHoldLeave, execPowerDieHoldLeave, hdie, hhold]
  case mirrorLoad =>
    intro f s halive hdie
    simp [exec_pscMirrorLoad, execPscMirrorLoad, hdie, halive]
  case feedLost =>
    intro f s hdie
    simp [exec_feedPowerOnReset, execFeedPowerOnReset, hdie]
  case feedBack =>
    intro f s hoff halive hdie
    simp [exec_feedRestart, execFeedRestart, hdie, hoff, halive]
  case low =>
    intro f v s hv huv hdie
    simp [exec_feedUndervoltage, execFeedUndervoltage, hdie, huv, Nat.not_le.mpr hv]
  case notLow =>
    intro f v s hv hdie
    simp [exec_feedUndervoltage, execFeedUndervoltage, hdie, hv]
  case high =>
    intro f v s hv hov hdie
    simp [exec_feedOvervoltage, execFeedOvervoltage, hdie, hov, Nat.not_le.mpr hv]
  case notHigh =>
    intro f v s hv hdie
    simp [exec_feedOvervoltage, execFeedOvervoltage, hdie, hv]

end Sys2Proof.Machine
end

section
/-! PROOFS. Fabric accesses (R30, R31, R440, R447, R585, R588, R592, R593): where an admitted request is served, what it is answered, and the statement O34. -/

namespace Sys2Proof.Machine

open Sys2Proof

/-! ### The three commands reach the fabric -/

/-- R30: a request of intact parity is served, and its end answered. -/
theorem exec_fabricRequest_served {s : State} (r : Req) (acc : AccKind) {addr size : Nat} (value : Nat) (ecc : EccObs) (halive : s.alive = true)
    (hone : oneGranule addr size = true) :
    exec (.fabricRequest r acc addr size value true ecc) s = .next (State.answer r (s.fabDo r none acc addr size value ecc)) := by
  simp [exec_fabricRequest, execFabricRequest, halive, hone]

/-- R31: a request of bad parity reaches nothing. -/
theorem exec_fabricRequest_badParity {s : State} (r : Req) (acc : AccKind) {addr size : Nat} (value : Nat) (ecc : EccObs) (halive : s.alive = true)
    (hone : oneGranule addr size = true) :
    exec (.fabricRequest r acc addr size value false ecc) s = .next ((s.raise 316 (r.id % 64)).emit (.resp r.id true 0)) := by
  simp [exec_fabricRequest, execFabricRequest, halive, hone, State.parityError]

/-- R588, R589: a write to the register space is served. -/
theorem exec_registerWrite_served {s : State} (r : Req) {addr size : Nat} (value : Nat) (halive : s.alive = true) (hreg : within addr 0x4000_0000 0x800_0000 = true)
    (hone : oneGranule addr size = true) :
    exec (.registerWrite r addr size value) s = .next (State.answer r (s.fabDo r none .write addr size value .clean)) := by
  simp [exec_registerWrite, execRegisterWrite, halive, hreg, hone]

/-- R593: a read of a register is served. -/
theorem exec_readClear_served {s : State} (r : Req) {addr : Nat} (halive : s.alive = true) (hreg : within addr 0x4000_0000 0x800_0000 = true)
    (hone : oneGranule addr 4 = true) : exec (.readClear r addr) s = .next (State.answer r (s.fabDo r none .read addr 4 0 .clean)) := by
  simp [exec_readClear, execReadClear, halive, hreg, hone]

/-- R592: a read of the low word of a pair is served. -/
theorem exec_pairLowWordRead_served {s : State} (r : Req) {addr : Nat} (halive : s.alive = true) (hreg : within addr 0x4000_0000 0x800_0000 = true)
    (hpair : isPair addr = true) : exec (.pairLowWordRead r addr) s = .next (State.answer r (s.fabDo r none .read addr 4 0 .clean)) := by
  simp [exec_pairLowWordRead, execPairLowWordRead, halive, hreg, hpair]

/-! ### Where an access ends -/

@[simp] theorem State.answer_data (r : Req) (t : State) (d : Nat) : State.answer r (t, .data d) = t.emit (.resp r.id false d) := rfl
@[simp] theorem State.answer_error (r : Req) (t : State) : State.answer r (t, .error) = t.emit (.resp r.id true 0) := rfl

/-- The answer to a register write says whether it was taken. -/
theorem State.answer_taken (r : Req) (t : State) (taken : Bool) :
    State.answer r (t, if taken then .data 0 else .error) = t.emit (.resp r.id (!taken) 0) := by
  cases taken <;> rfl

/-- R447, R451: an access that the checker refuses ends in an error response. -/
theorem State.fabDo_refused {s t : State} {r : Req} {acc : AccKind} {a : Nat} (vi : Option Nat) (size v : Nat) {e : EccObs} (hport : s.portReach r a = true)
    (hcheck : s.checkReq a r acc = some t) (hecc : e ≠ .parity) : s.fabDo r vi acc a size v e = (t, .error) := by
  simp [State.fabDo, hport, hcheck, hecc]

/-- R440: an admitted access between the ROM and the end of SRAM is one to memory. -/
theorem State.fabDo_memory {s : State} {r : Req} {acc : AccKind} {a : Nat} (vi : Option Nat) (size v : Nat) (hport : s.portReach r a = true)
    (hcheck : s.checkReq a r acc = none) (hhi : a < 0x1140_0000) : s.fabDo r vi acc a size v .clean = s.ramAccess r acc a size v .clean := by
  have hpcie : ¬ 0x80_0000_0000 ≤ a := by omega
  have hreg : within a 0x4000_0000 0x2100_0000 = false := by simp [within]; omega
  have htg : within a 0x2000_0000 0x30_0000 = false := by simp [within]; omega
  simp [State.fabDo, hport, hcheck, hpcie, hreg, htg]

/-- R135, R170: an admitted access to the memory of a Tangram engine that leads its context. -/
theorem State.fabDo_tangram {s : State} {r : Req} {acc : AccKind} {a : Nat} (vi : Option Nat) (size v : Nat) (hport : s.portReach r a = true)
    (hcheck : s.checkReq a r acc = none) (htg : within a 0x2000_0000 0x30_0000 = true)
    (hlead : s.tgLead ((a - 0x2000_0000) / 0x4_0000) = (a - 0x2000_0000) / 0x4_0000) :
    s.fabDo r vi acc a size v .clean =
      if acc == .write || acc == .amo then (s.tgMemWrite a size v, .data (if acc == .amo then s.load a size else 0)) else (s, .data (s.load a size)) := by
  have hrange : 0x2000_0000 ≤ a ∧ a < 0x2000_0000 + 0x30_0000 := by simpa [within] using htg
  have hpcie : ¬ 0x80_0000_0000 ≤ a := by omega
  have hreg : within a 0x4000_0000 0x2100_0000 = false := by simp [within]; omega
  simp [State.fabDo, hport, hcheck, hpcie, hreg, htg, hlead]

/-! ### Memory beside the ROM -/

/-- An address above the ROM is not in it. -/
theorem within_rom_above {a : Nat} (h : 0x800_0000 + 0x4_0000 ≤ a) : within a 0x0800_0000 0x4_0000 = false := by
  simp [within]; omega

/-- A read that finds no error gives the bytes that stand there. -/
theorem State.ramAccess_read (s : State) (r : Req) {a : Nat} (size v : Nat) (hlo : 0x800_0000 + 0x4_0000 ≤ a) :
    s.ramAccess r .read a size v .clean = (s, .data (s.load a size)) := by
  simp [State.ramAccess, State.eccSee, within_rom_above hlo]

/-- A write stores its value. -/
theorem State.ramAccess_write (s : State) (r : Req) (a size v : Nat) : s.ramAccess r .write a size v .clean = (s.store a size v, .data 0) := by
  simp [State.ramAccess, State.eccSee]

/-- An atomic stores its value and gives the old one. -/
theorem State.ramAccess_amo (s : State) (r : Req) {a : Nat} (size v : Nat) (hlo : 0x800_0000 + 0x4_0000 ≤ a) :
    s.ramAccess r .amo a size v .clean = (s.store a size v, .data (s.load a size)) := by
  simp [State.ramAccess, State.eccSee, within_rom_above hlo]

/-! ### Registers -/

/-- What `State.regOpen` says of an access beside its checker: the module runs, the address is a register's, and the access is whole. -/
theorem State.regOpen_served {s : State} {r : Req} {acc : AccKind} {a size : Nat} (h : s.regOpen r acc a size = true) :
    s.alive = true ∧ within a 0x4000_0000 0x800_0000 = true ∧ oneGranule a size = true := by
  simp only [State.regOpen, Bool.and_eq_true] at h
  obtain ⟨⟨⟨⟨⟨halive, hreg⟩, -⟩, hone⟩, -⟩, -⟩ := h
  exact ⟨halive, hreg, hone⟩

/-- An admitted register write is answered by whether the register took it. -/
theorem answer_fabDo_regWrite {s : State} {r : Req} {a size : Nat} (v : Nat) (h : s.regOpen r .write a size = true) :
    State.answer r (s.fabDo r none .write a size v .clean) = (s.regFabWrite r none a size v).1.emit (.resp r.id (!(s.regFabWrite r none a size v).2) 0) := by
  rw [fabDo_regWrite s r a size v h, State.answer_taken]

/-- R11, R593: an admitted read of a plain register is answered with what the register shows. -/
theorem answer_fabDo_plainRead {s : State} {r : Req} {a size : Nat} (h : s.regOpen r .read a size = true) (hplain : plainReg s.part a = true) :
    State.answer r (s.fabDo r none .read a size 0 .clean) = (s.regRead blockRead r.id (r.debug || r.id == 9) a size).2.emit
      (.resp r.id false (s.regRead blockRead r.id (r.debug || r.id == 9) a size).1) := by
  rw [fabDo_regRead s r a size 0 h, regFabRead_plain s r a size hplain]
  rfl

/-- R588: a write of 64 bits to a pair that the part carries writes it whole. -/
theorem State.regFabWrite_pair {s : State} (r : Req) (vi : Option Nat) {a : Nat} (v : Nat) (hpair : isPair a = true) (hcarried : pscAbsent s.part a = false) :
    s.regFabWrite r vi a 8 v = ((s.mirrored8 a v).regWrite blockWrite a 8 v, true) := by
  simp [State.regFabWrite, hpair, hcarried]

/-- Settles O34: each command is served by `State.fabDo`, which reaches memory, a Tangram engine or a register. -/
theorem fabricAccesses : Obligations.FabricAccesses := by
  unfold Obligations.FabricAccesses
  refine ⟨?memRead, ?memWrite, ?badParity, ?refused, ?writeAny, ?readAny, ?lowAny, ?writePlain, ?write, ?writePair, ?readPlain, ?readSize, ?lowPlain, ?tangram, ?memAmo⟩
  case memRead =>
    rintro r addr size ecc s halive hone hport hcheck hlo hhi rfl
    rw [exec_fabricRequest_served r .read 0 .clean halive hone, State.fabDo_memory none size 0 hport hcheck hhi, State.ramAccess_read s r size 0 hlo]
    rfl
  case memWrite =>
    intro r addr size value s halive hone hport hcheck _ hhi _
    rw [exec_fabricRequest_served r .write value .clean halive hone, State.fabDo_memory none size value hport hcheck hhi, State.ramAccess_write, State.answer_data]
  case badParity => exact fun r acc addr size value ecc s halive hone => exec_fabricRequest_badParity r acc value ecc halive hone
  case refused =>
    intro r acc addr size value ecc t s halive hone hport hcheck hecc
    rw [exec_fabricRequest_served r acc value ecc halive hone, State.fabDo_refused none size value hport hcheck hecc, State.answer_error]
  case writeAny =>
    intro r addr size value t d s halive hreg hone hdo
    rw [exec_registerWrite_served r value halive hreg hone, hdo, State.answer_data]
  case readAny =>
    intro r addr t d s halive hreg hone hdo
    rw [exec_readClear_served r halive hreg hone, hdo, State.answer_data]
  case lowAny =>
    intro r addr t d s halive hreg hpair hdo
    rw [exec_pairLowWordRead_served r halive hreg hpair, hdo, State.answer_data]
  case writePlain =>
    intro r addr value s hopen hplain
    obtain ⟨halive, hreg, hone⟩ := State.regOpen_served hopen
    rw [exec_registerWrite_served r value halive hreg hone, exec_fabricRequest_served r .write value .clean halive hone, answer_fabDo_regWrite value hopen,
      regFabWrite_plain s r addr value hplain]
    exact ⟨rfl, rfl⟩
  case write =>
    intro r addr size value s hopen
    obtain ⟨halive, hreg, hone⟩ := State.regOpen_served hopen
    rw [exec_registerWrite_served r value halive hreg hone, exec_fabricRequest_served r .write value .clean halive hone, answer_fabDo_regWrite value hopen]
    exact ⟨rfl, rfl⟩
  case writePair =>
    intro r addr value s hopen hpair hcarried
    obtain ⟨halive, hreg, hone⟩ := State.regOpen_served hopen
    rw [exec_registerWrite_served r value halive hreg hone, answer_fabDo_regWrite value hopen, State.regFabWrite_pair r none value hpair hcarried]
    rfl
  case readPlain =>
    intro r addr s hopen hplain
    obtain ⟨halive, hreg, hone⟩ := State.regOpen_served hopen
    rw [exec_readClear_served r halive hreg hone, answer_fabDo_plainRead hopen hplain]
  case readSize =>
    intro r addr size s hopen hplain
    obtain ⟨halive, -, hone⟩ := State.regOpen_served hopen
    rw [exec_fabricRequest_served r .read 0 .clean halive hone, answer_fabDo_plainRead hopen hplain]
  case lowPlain =>
    intro r addr s hopen hplain hpair
    obtain ⟨halive, hreg, -⟩ := State.regOpen_served hopen
    rw [exec_pairLowWordRead_served r halive hreg hpair, answer_fabDo_plainRead hopen hplain]
  case tangram =>
    rintro r acc addr size value k s halive hone hport hcheck htg rfl hlead
    rw [exec_fabricRequest_served r acc value .clean halive hone, State.fabDo_tangram none size value hport hcheck htg hlead]
    cases acc <;> rfl
  case memAmo =>
    intro r addr size value s halive hone hport hcheck hlo hhi
    rw [exec_fabricRequest_served r .amo value .clean halive hone, State.fabDo_memory none size value hport hcheck hhi, State.ramAccess_amo s r size value hlo,
      State.answer_data]

end Sys2Proof.Machine
end

section
/-! PROOFS. Resets (R21, R542 to R549): which sources begin which kind, the reset pin, block resets, and the statement O42. -/

namespace Sys2Proof.Machine

open Sys2Proof

/-- The core die runs where VBAT is valid and the core supply is up. -/
theorem State.alive_iff {s : State} : s.alive = true ↔ s.pow.vbat = true ∧ s.pow.coreUp = true := by
  simp [State.alive]

/-- R542: a power-on reset asked for with valid VBAT by a source that can ask for it. -/
theorem exec_powerOnReset_begins {s : State} {src : Fin 16} (hvbat : s.pow.vbat = true) (hsrc : src = 1 ∨ src = 2 ∨ src = 3) :
    exec (.powerOnReset src) s = .next (s.resetKind 2 src) := by
  rcases hsrc with rfl | rfl | rfl <;> simp [exec_powerOnReset, execPowerOnReset, hvbat]

/-- R542: a cold reset of a running core die by a source that can ask for it. -/
theorem exec_coldReset_begins {s : State} {src : Fin 16} (halive : s.alive = true) (hsrc : src = 4 ∨ src = 5 ∨ src = 8) :
    exec (.coldReset src) s = .next (s.resetKind 3 src) := by
  rcases hsrc with rfl | rfl | rfl <;> simp [exec_coldReset, execColdReset, halive]

/-- R542: a warm reset of a running core die by a source that can ask for it. -/
theorem exec_warmReset_begins {s : State} {src : Fin 16} (halive : s.alive = true) (hsrc : src = 4 ∨ src = 5 ∨ src = 6 ∨ src = 7) :
    exec (.warmReset src) s = .next (s.resetKind 4 src) := by
  rcases hsrc with rfl | rfl | rfl | rfl <;> simp [exec_warmReset, execWarmReset, halive]

/-- The kind of reset that RESET_N begins: power-on with the core die down, else warm where the settings are loaded and name it, else cold (R544). -/
def State.pinKind (s : State) : Nat := if s.pow.coreUp = false then 2 else if s.pow.settings = true ∧ s.on RST_CFG_PINKIND = false then 4 else 3

/-- R544: RESET_N going low begins the reset of its kind and holds it. -/
theorem exec_resetPinAssert_begins {s : State} (hvbat : s.pow.vbat = true) (hpin : s.pow.pin = false) :
    exec .resetPinAssert s = .next { s.resetKind s.pinKind 4 with pow := { (s.resetKind s.pinKind 4).pow with pin := true } } := by
  have hkind : (if !s.pow.coreUp then 2 else if !s.pow.settings || s.on RST_CFG_PINKIND then 3 else 4) = s.pinKind := by
    cases hcore : s.pow.coreUp <;> cases hset : s.pow.settings <;> cases hcfg : s.on RST_CFG_PINKIND <;> simp [State.pinKind, hcore, hset, hcfg]
  simp only [exec_resetPinAssert, execResetPinAssert, hvbat, hpin, hkind]
  rfl

/-- R547: a request for a block reset where no other waits: taken where the block can be reset, else refused. -/
theorem exec_blockReset_free {s : State} (hblk : s.pow.blk = none) :
    exec .blockReset s = .next (if s.blockReady (s.get RST_BLKRST_BLK) = true then
      State.set { s with pow := { s.pow with blk := some (s.get RST_BLKRST_BLK) } } RST_BLKRST_GO 1 else (s.set RST_BLKRST_ERR 1).set RST_BLKRST_GO 0) := by
  cases hready : s.blockReady (s.get RST_BLKRST_BLK) <;> simp [exec_blockReset, execBlockReset, State.blkGo, hblk, hready]

/-- R547, R548: a block that waits for its reset is reset once it is idle. -/
theorem exec_blockIdleReached_waiting {s : State} {n : Nat} (hblk : s.pow.blk = some n) :
    exec .blockIdleReached s = .next (if s.blockIdle n = true then s.blkDone n else s) := by
  simp only [exec_blockIdleReached, execBlockIdleReached, hblk]
  split <;> rfl

/-- R547: a block that waits for its reset and is not idle in time is reset by force. -/
theorem exec_blockIdleTimeout_waiting {s : State} {n : Nat} (hblk : s.pow.blk = some n) :
    exec .blockIdleTimeout s = .next (if s.blockIdle n = true then s else (((s.inc RST_BLKSTAT_FORCED).set RST_BLKSTAT_LAST n).raise 9 n).blkDone n) := by
  simp only [exec_blockIdleTimeout, execBlockIdleTimeout, State.blkForced, hblk]
  split <;> rfl

/-- Settles O42. -/
theorem resets : Obligations.Resets := by
  unfold Obligations.Resets
  refine ⟨fun src s hvbat hsrc => exec_powerOnReset_begins hvbat hsrc, ?collapse,
    fun src s hvbat hcore hsrc => exec_coldReset_begins (State.alive_iff.2 ⟨hvbat, hcore⟩) hsrc,
    fun src s hvbat hcore hsrc => exec_warmReset_begins (State.alive_iff.2 ⟨hvbat, hcore⟩) hsrc, ?ndmreset, ?pinUp, ?pinDown, fun s => rfl, ?blockTaken, ?blockRefused,
    ?idle, ?busy⟩
  case collapse =>
    intro s hvbat hcore
    rw [exec_vddCoreCollapse, execVddCoreCollapse, if_pos (State.alive_iff.2 ⟨hvbat, hcore⟩)]
  case ndmreset =>
    intro s hvbat hcore hopen
    rw [exec_debugNdmreset, execDebugNdmreset, if_pos (by rw [State.alive_iff.2 ⟨hvbat, hcore⟩, hopen]; rfl)]
  case pinUp =>
    rintro s t hvbat hpin hcore rfl
    have hkind : s.pinKind = if s.pow.settings = true ∧ s.on RST_CFG_PINKIND = false then 4 else 3 := by simp [State.pinKind, hcore]
    rw [exec_resetPinAssert_begins hvbat hpin, hkind]
  case pinDown =>
    rintro s t hvbat hpin hcore rfl
    have hkind : s.pinKind = 2 := by simp [State.pinKind, hcore]
    rw [exec_resetPinAssert_begins hvbat hpin, hkind]
  case blockTaken =>
    intro s hblk hready
    rw [exec_blockReset_free hblk, if_pos hready]
  case blockRefused =>
    intro s hblk hready
    rw [exec_blockReset_free hblk, if_neg (by simp [hready])]
  case idle =>
    intro n s hblk hidle
    rw [exec_blockIdleReached_waiting hblk, exec_blockIdleTimeout_waiting hblk, if_pos hidle, if_pos hidle]
    exact ⟨rfl, rfl⟩
  case busy =>
    intro n s hblk hidle
    have hbusy : ¬ s.blockIdle n = true := by simp [hidle]
    rw [exec_blockIdleReached_waiting hblk, exec_blockIdleTimeout_waiting hblk, if_neg hbusy, if_neg hbusy]
    exact ⟨rfl, rfl⟩

end Sys2Proof.Machine
end

section
/-! PROOFS. The alarm latch with all its entries in use (R79): what a counted repeat and an overflow leave, and the statement O54. -/

namespace Sys2Proof.Machine

open Sys2Proof

/-- Bit `n` of a value in which it is set, cut to more than `n` bits. -/
theorem bitOf_setBit_mod {v b n w : Nat} (hb : b < w) (h : bitOf v b = true ∨ b = n) : bitOf (setBit v n % 2 ^ w) b = true := by
  have htest (x : Nat) : bitOf x b = x.testBit b := by
    rw [bitOf, Nat.testBit_eq_decide_div_mod_eq, Nat.shiftRight_eq_div_pow]
    rfl
  rw [htest] at h ⊢
  rw [Nat.testBit_mod_two_pow, setBit, Nat.testBit_or, Nat.one_shiftLeft, Nat.testBit_two_pow]
  rcases h with h | rfl <;> simp [*]

/-- Two saturating counts add up. -/
theorem satU_succ_succ (w n : Nat) : satU w (satU w (n + 1) + 1) = satU w (n + 2) := by
  simp only [satU]
  omega

/-- A saturating count reads back as it was computed: it fits the field. -/
theorem State.inc_get_self (s : State) (f : Fld) : (s.inc f).get f = satU f.w (s.get f + 1) := by
  rw [State.inc, State.addSat, State.get_set_self]
  have hpos : 0 < 2 ^ f.w := Nat.two_pow_pos f.w
  exact Nat.mod_eq_of_lt (by simp only [satU]; omega)

/-- A saturating count leaves every other field. -/
theorem State.inc_get_ne {s : State} {f g : Fld} (h : fldKey g ≠ fldKey f) : (s.inc f).get g = s.get g :=
  State.get_set_ne _ _ _ _ h

/-! ### A repeat that is counted (R74) -/

/-- A field that no loss counter of source `src` holds. -/
def offLoss (src : Nat) (f : Fld) : Prop := ∀ lg : Bool, fldKey f ≠ fldKey (lossFld lg src)

/-- R76: the count of a loss is the only register field that a loss changes. -/
theorem State.countLoss_get {s : State} {lg : Bool} {src : Nat} {at_ : Stamp} {f : Fld} (hf : offLoss src f) :
    (s.countLoss lg src at_).get f = s.get f := by
  rw [State.countLoss, State.inc_get_ne (hf lg)]
  cases lg <;> simp only [apply_ite (State.get · f)] <;> split <;> rfl

/-- R76: a loss leaves the events that wait for the sort. -/
theorem State.countLoss_entering (s : State) (lg : Bool) (src : Nat) (at_ : Stamp) : (s.countLoss lg src at_).evr.entering = s.evr.entering := by
  simp only [State.countLoss, State.inc, State.addSat, State.set_evr]
  cases lg <;> split <;> rfl

/-- R74: a counted repeat changes no register field but the loss counters of its source. -/
theorem State.countRepeat_get {s : State} {e : Ev} {f : Fld} (hf : offLoss e.src f) : (s.countRepeat e).get f = s.get f := by
  simp only [State.countRepeat]
  split <;> split <;> simp only [State.countLoss_get hf]

/-- R74: a counted repeat leaves the events that wait for the sort. -/
theorem State.countRepeat_entering (s : State) (e : Ev) : (s.countRepeat e).evr.entering = s.evr.entering := by
  simp only [State.countRepeat]
  split <;> split <;> simp only [State.countLoss_entering]

/-- R74: an event that enters the router changes no register field but the loss counters of its source. -/
theorem State.enterRaw_get {s : State} {e : Ev} {f : Fld} (hf : offLoss e.src f) : (s.enterRaw e).get f = s.get f := by
  rw [State.enterRaw]
  split
  · exact State.countRepeat_get hf
  · rfl

/-- R74: after an event of a source has entered the router, one of its source waits for the sort. -/
theorem State.enterRaw_waits (s : State) (e : Ev) : (s.enterRaw e).evr.entering.any (fun x => x.src == e.src) = true := by
  rw [State.enterRaw]
  split
  · next h => rw [State.countRepeat_entering, h]
  · simp

/-! ### The latch -/

/-- A state whose entries of the latch are those of `s`. -/
def sameEntries (s t : State) : Prop := ∀ k < 256, t.get (EVR_ALMSRC_VALID k) = s.get (EVR_ALMSRC_VALID k) ∧ t.get (EVR_ALMSRC_SRC k) = s.get (EVR_ALMSRC_SRC k)

/-- The same entries hold the same sources. -/
theorem State.alarmOf_congr {s t : State} (h : sameEntries s t) (src : Nat) : t.alarmOf src = s.alarmOf src := by
  rw [State.alarmOf, State.alarmOf]
  refine List.find?_congr fun k hk => ?_
  obtain ⟨hvalid, hsrc⟩ := h k (List.mem_range.1 hk)
  rw [State.on, State.on, hvalid, hsrc]

/-- All 256 entries are in use. -/
def State.latchFull (s : State) : Prop := ∀ k < 256, s.on (EVR_ALMSRC_VALID k) = true

/-- With all 256 entries in use none is free. -/
theorem State.alarmFree_eq_none {s : State} (hfull : s.latchFull) : s.alarmFree = none := by
  simpa [State.alarmFree, State.latchFull] using hfull

/-- The same entries are in use. -/
theorem State.latchFull_congr {s t : State} (h : sameEntries s t) (hfull : s.latchFull) : t.latchFull := fun k hk => by
  rw [State.on, (h k hk).1]
  exact hfull k hk

/-- R79: the state after an event of source `src` has found no place: its bit of EVR_ALMOVF set, and OVFCNT counted up. -/
def State.overflow (s : State) (src : Nat) : State := (s.setBit (EVR_ALMOVF_SRCBITS (src / 32)) (src % 32) true).inc EVR_ALMSTAT_OVFCNT

/-- R79: an event whose source holds no entry overflows where no entry is free. -/
theorem State.alarmTake_full {s : State} {e : Ev} (hnone : s.alarmOf e.src = none) (hfull : s.latchFull) :
    s.alarmTake e = s.overflow e.src := by
  simp only [State.alarmTake, hnone, State.alarmFree_eq_none hfull]
  rfl

/-- R79: an overflow changes no field outside EVR_ALMOVF and EVR_ALMSTAT. -/
theorem State.overflow_get {s : State} {src : Nat} {f : Fld} (hbits : fldKey f ≠ fldKey (EVR_ALMOVF_SRCBITS (src / 32)))
    (hcount : fldKey f ≠ fldKey EVR_ALMSTAT_OVFCNT) : (s.overflow src).get f = s.get f := by
  rw [State.overflow, State.inc_get_ne hcount, State.setBit, State.get_set_ne _ _ _ _ hbits]

/-- R79: an overflow is counted in OVFCNT. -/
theorem State.overflow_count (s : State) (src : Nat) :
    (s.overflow src).get EVR_ALMSTAT_OVFCNT = satU EVR_ALMSTAT_OVFCNT.w (s.get EVR_ALMSTAT_OVFCNT + 1) := by
  rw [State.overflow, State.inc_get_self, State.setBit,
    State.get_set_ne _ _ _ _ (by simp only [fldKey, EVR_ALMSTAT_OVFCNT, EVR_ALMOVF_SRCBITS, a_EVR_ALMSTAT, a_EVR_ALMOVF]; omega)]

/-- R79: an overflow sets the bit of its source and keeps the bits of EVR_ALMOVF that are set. -/
theorem State.overflow_bit {s : State} {src j b : Nat} (hb : b < 32)
    (h : bitOf (s.get (EVR_ALMOVF_SRCBITS j)) b = true ∨ (j = src / 32 ∧ b = src % 32)) :
    bitOf ((s.overflow src).get (EVR_ALMOVF_SRCBITS j)) b = true := by
  rw [State.overflow, State.inc_get_ne (by simp only [fldKey, EVR_ALMSTAT_OVFCNT, EVR_ALMOVF_SRCBITS, a_EVR_ALMSTAT, a_EVR_ALMOVF]; omega), State.setBit]
  by_cases hj : j = src / 32
  · subst hj
    rw [State.get_set_self]
    exact bitOf_setBit_mod hb (h.imp_right And.right)
  · rw [State.get_set_ne _ _ _ _ (by simp only [fldKey, EVR_ALMOVF_SRCBITS, a_EVR_ALMOVF]; omega)]
    exact h.resolve_right fun h => hj h.1

/-- R79: an overflow leaves the entries. -/
theorem State.overflow_sameEntries (s : State) (src : Nat) : sameEntries s (s.overflow src) := fun k _ => by
  constructor <;> refine State.overflow_get ?_ ?_ <;>
    simp only [fldKey, EVR_ALMSRC_VALID, EVR_ALMSRC_SRC, EVR_ALMOVF_SRCBITS, EVR_ALMSTAT_OVFCNT, a_EVR_ALMSRC, a_EVR_ALMOVF, a_EVR_ALMSTAT] <;> omega

/-- R79: an overflow leaves whether an event is a repeat that reaches the latch. -/
theorem State.overflow_repeatAlarm (s : State) (src : Nat) (x : Ev) : (s.overflow src).repeatAlarm x = s.repeatAlarm x := by
  have hen : (s.overflow src).on (EVR_ROUTE_EN x.src) = s.on (EVR_ROUTE_EN x.src) := by
    rw [State.on, State.on, State.overflow_get]
    all_goals simp only [fldKey, kindCode, EVR_ROUTE_EN, EVR_ALMOVF_SRCBITS, EVR_ALMSTAT_OVFCNT, a_EVR_ROUTE, a_EVR_ALMOVF, a_EVR_ALMSTAT]; omega
  have hcls : (s.overflow src).get (EVR_ROUTE_CLASS x.src) = s.get (EVR_ROUTE_CLASS x.src) := by
    refine State.overflow_get ?_ ?_ <;>
      simp only [fldKey, kindCode, EVR_ROUTE_CLASS, EVR_ALMOVF_SRCBITS, EVR_ALMSTAT_OVFCNT, a_EVR_ROUTE, a_EVR_ALMOVF, a_EVR_ALMSTAT] <;> omega
  simp only [State.repeatAlarm, State.route, hen, hcls]
  rfl

/-- R78, R79: the latch leaves the events that wait for the sort. -/
theorem State.alarmTake_entering (s : State) (e : Ev) : (s.alarmTake e).evr.entering = s.evr.entering := by
  rw [State.alarmTake]
  split
  · rfl
  · split <;> rfl

/-- R78, R79: at a full latch the bits of EVR_ALMOVF that are set stay set. -/
theorem State.alarmTake_bit {s : State} {e : Ev} {j b : Nat} (hfull : s.latchFull) (hj : j < 10) (hb : b < 32)
    (hbit : bitOf (s.get (EVR_ALMOVF_SRCBITS j)) b = true) : bitOf ((s.alarmTake e).get (EVR_ALMOVF_SRCBITS j)) b = true := by
  cases hof : s.alarmOf e.src with
  | none =>
    rw [State.alarmTake_full hof hfull]
    exact State.overflow_bit hb (.inl hbit)
  | some k =>
    simp only [State.alarmTake, hof]
    rw [State.get_set_ne, State.inc_get_ne]
    · exact hbit
    · simp only [fldKey, EVR_ALMOVF_SRCBITS, EVR_ALMSRC_COUNT, a_EVR_ALMOVF, a_EVR_ALMSRC]; omega
    · simp only [fldKey, EVR_ALMOVF_SRCBITS, EVR_ALMLAST_NS, a_EVR_ALMOVF, a_EVR_ALMLAST]; omega

/-! ### Source 30 (R79) -/

/-- R79: the event of source 30 that an overflow of `e` raises. -/
def State.overflowEvent (s : State) (e : Ev) : Ev := { src := 30, word := e.src, at_ := s.stamp }

@[simp] theorem State.overflowEvent_src (s : State) (e : Ev) : (s.overflowEvent e).src = 30 := rfl

/-- R79: the state after an overflow of `e` has raised source 30. -/
def State.overflowed (s : State) (e : Ev) : State := (s.overflow e.src).enterRaw (s.overflowEvent e)

/-- R79: a class 3 event that finds no place overflows and raises source 30, whose repeat reaches the latch at once (R74). -/
theorem State.alarm_full {s : State} {e : Ev} (hnone : s.alarmOf e.src = none) (hfull : s.latchFull) :
    s.alarm e = if s.repeatAlarm { src := 30, word := 0, at_ := {} } = true then (s.overflowed e).alarmTake (s.overflowEvent e) else s.overflowed e := by
  have hplace : s.alarmFull e.src = true := by simp [State.alarmFull, hnone, State.alarmFree_eq_none hfull]
  have hrep : (s.overflow e.src).repeatAlarm (s.overflowEvent e) = s.repeatAlarm { src := 30, word := 0, at_ := {} } :=
    State.overflow_repeatAlarm s _ _
  rw [← hrep, State.alarm, State.alarmTake_full hnone hfull, hplace]
  rfl

/-- R83: a field outside the loss counters' addresses is no loss counter. -/
theorem offLoss_of_addr {f : Fld} (hlo : f.lo < 64) (haddr : f.addr < 0x4002_1000 ∨ 0x4002_2000 ≤ f.addr) : offLoss 30 f := fun lg => by
  have hkind : kindCode f.kind < 8 := by cases f.kind <;> decide
  have hkey : fldKey (lossFld lg 30) = 512 * (if lg then 0x4002_1078 else 0x4002_1878) := by cases lg <;> rfl
  rw [hkey, fldKey]
  split <;> omega

/-- R74, R79: raising source 30 changes no register field but its loss counters. -/
theorem State.overflowed_get (s : State) (e : Ev) {f : Fld} (hf : offLoss 30 f) : (s.overflowed e).get f = (s.overflow e.src).get f :=
  State.enterRaw_get hf

/-- R79: an overflow and its source 30 leave the entries. -/
theorem State.overflowed_sameEntries (s : State) (e : Ev) : sameEntries s (s.overflowed e) := fun k hk => by
  obtain ⟨hvalid, hsource⟩ := State.overflow_sameEntries s e.src k hk
  have haddr : 0x4002_2000 ≤ a_EVR_ALMSRC k := Nat.le_add_right _ _
  rw [State.overflowed_get s e (offLoss_of_addr (by simp [EVR_ALMSRC_VALID]) (.inr haddr)),
    State.overflowed_get s e (offLoss_of_addr (by simp [EVR_ALMSRC_SRC]) (.inr haddr))]
  exact ⟨hvalid, hsource⟩

/-- R79: an overflow sets the bit of its source. -/
theorem State.overflowed_bit (s : State) {e : Ev} (hsrc : e.src < 320) :
    bitOf ((s.overflowed e).get (EVR_ALMOVF_SRCBITS (e.src / 32))) (e.src % 32) = true := by
  have haddr : a_EVR_ALMOVF (e.src / 32) < 0x4002_1000 := by rw [a_EVR_ALMOVF]; omega
  rw [State.overflowed_get s e (offLoss_of_addr (by simp [EVR_ALMOVF_SRCBITS]) (.inl haddr))]
  exact State.overflow_bit (Nat.mod_lt _ (by decide)) (.inr ⟨rfl, rfl⟩)

/-- R79: an overflow counts once in OVFCNT. -/
theorem State.overflowed_count (s : State) (e : Ev) :
    (s.overflowed e).get EVR_ALMSTAT_OVFCNT = satU EVR_ALMSTAT_OVFCNT.w (s.get EVR_ALMSTAT_OVFCNT + 1) := by
  rw [State.overflowed_get s e (offLoss_of_addr (by decide) (.inl (by decide))), State.overflow_count]

/-- Settles O54: the overflow of `e` sets its bit and counts; a repeat of source 30 that reaches the latch meets the same full latch. -/
theorem alarmLatchFull : Obligations.AlarmLatchFull := by
  unfold Obligations.AlarmLatchFull
  intro e s hsrc hnone hfull
  have hentries : sameEntries s (s.overflowed e) := State.overflowed_sameEntries s e
  have hfull' : (s.overflowed e).latchFull := State.latchFull_congr hentries hfull
  have hbit := State.overflowed_bit s hsrc
  have hwaits : (s.overflowed e).evr.entering.any (fun x => x.src == 30) = true := State.enterRaw_waits _ (s.overflowEvent e)
  rw [State.alarm_full hnone hfull]
  refine ⟨?bit, ?once, ?twice, ?raised⟩
  case bit =>
    split
    · exact State.alarmTake_bit hfull' (by omega) (Nat.mod_lt _ (by decide)) hbit
    · exact hbit
  case once =>
    intro hrep
    rw [if_neg (ne_true_of_eq_false hrep), State.overflowed_count]
  case twice =>
    intro hrep hnone30
    have hnone30' : (s.overflowed e).alarmOf (s.overflowEvent e).src = none := (State.alarmOf_congr hentries 30).trans hnone30
    rw [if_pos hrep, State.alarmTake_full hnone30' hfull']
    exact ⟨State.overflow_bit (by decide) (.inr (by simp)), by rw [State.overflow_count, State.overflowed_count, satU_succ_succ]⟩
  case raised =>
    split
    · rwa [State.alarmTake_entering]
    · exact hwaits

end Sys2Proof.Machine
end

section
/-! PROOFS. Triggers and capture units (R53 to R60, R66): the compare value after a firing, what a write or an edge does, and the statements O55 and O3. -/

namespace Sys2Proof.Machine

open Sys2Proof

/-- R54: a compare value that is set reads back, its nanoseconds wrapped at 64 bits. -/
theorem State.trgCmp_setTrgCmp (s : State) (n v : Nat) : (s.setTrgCmp n v).trgCmp n = v % 2 ^ 72 := by
  have hcmp : (s.setTrgCmp n v).get (GTB_TRGCMP_CMP n) = v / 256 % 2 ^ 64 := by
    rw [State.setTrgCmp, State.get_set_ne _ _ _ _ (by simp only [fldKey, GTB_TRGCMP_CMP, GTB_TRGPERF_CMPFRAC, a_GTB_TRGCMP, a_GTB_TRGPERF]; omega),
      State.get_set_self]
    exact Nat.mod_mod _ _
  have hfrac : (s.setTrgCmp n v).get (GTB_TRGPERF_CMPFRAC n) = v % 256 := by
    rw [State.setTrgCmp, State.get_set_self]
    exact Nat.mod_mod _ _
  rw [State.trgCmp, hcmp, hfrac]
  omega

/-- R54, R55: the registers after the firing of a periodic trigger: the count, FIRED and the next compare value; the pulse on its ball touches none. -/
theorem State.fire_regs_periodic {s : State} {n : Nat} (hper : s.on (GTB_TRGCTL_PERIODIC n) = true) :
    (s.fire n).regs = (((s.addWrap (GTB_TRGCNT_CNT n) 1).set (GTB_TRGSTAT_FIRED n) 1).setTrgCmp n (s.trgCmp n + s.trgPer n)).regs := by
  have hper' : (s.follow (s.lineDues n)).on (GTB_TRGCTL_PERIODIC n) = true := hper
  simp only [State.fire, if_pos hper']
  split
  · split <;> rfl
  · rfl

/-- R54: the firing of a periodic trigger adds the period to its compare value. -/
theorem State.fire_trgCmp {s : State} {n : Nat} (hper : s.on (GTB_TRGCTL_PERIODIC n) = true) :
    (s.fire n).trgCmp n = (s.trgCmp n + s.trgPer n) % 2 ^ 72 := by
  calc (s.fire n).trgCmp n = (((s.addWrap (GTB_TRGCNT_CNT n) 1).set (GTB_TRGSTAT_FIRED n) 1).setTrgCmp n (s.trgCmp n + s.trgPer n)).trgCmp n := by
        rw [State.trgCmp, State.get, State.get, State.fire_regs_periodic hper]
        rfl
    _ = (s.trgCmp n + s.trgPer n) % 2 ^ 72 := State.trgCmp_setTrgCmp _ _ _

/-- R53: an enabled trigger whose compare value the GTB has reached fires; any other does nothing. -/
theorem exec_triggerFire_eq (n : Fin 64) (s : State) :
    exec (.triggerFire n) s = .next (if s.on (GTB_TRGCTL_EN n) = true ∧ s.trgCmp n ≤ s.now256 then s.fire n else s) := by
  simp only [exec_triggerFire, execTriggerFire, Bool.and_eq_true, decide_eq_true_eq]
  exact (apply_ite Host.Outcome.next _ _ _).symm

/-- Settles O55: the firing's next compare value is the old one plus the period, of which `trgPer` keeps the 40 ns. -/
theorem triggerPeriods : Obligations.TriggerPeriods := by
  unfold Obligations.TriggerPeriods
  intro n s hen hper hdue
  refine ⟨s.fire n, ?_, State.fire_trgCmp hper⟩
  rw [exec_triggerFire_eq, if_pos ⟨hen, hdue⟩]

/-- R56: a compare value written at or below the GTB makes the enabled trigger fire late. -/
theorem exec_triggerCompareWrite_eq {n : Fin 64} {v : Nat} {s t : State} (ht : t = s.set (GTB_TRGCMP_CMP n) v) :
    exec (.triggerCompareWrite n v) s = .next (if t.on (GTB_TRGCTL_EN n) = true ∧ t.trgCmp n ≤ t.now256 then t.fireLate n else t) := by
  subst ht
  simp only [exec_triggerCompareWrite, execTriggerCompareWrite, Bool.and_eq_true, decide_eq_true_eq]
  exact (apply_ite Host.Outcome.next _ _ _).symm

/-- The state after the fields of GTB_TRGCTL of trigger `n` are written with the word `v`, ARMED following EN (R57, R66). -/
def State.trgCtl (s : State) (n v : Nat) : State :=
  State.arm ((((((s.set (GTB_TRGCTL_EN n) (bf v 31 1)).set (GTB_TRGCTL_PERIODIC n) (bf v 30 1)).set (GTB_TRGCTL_STEPFOLLOW n) (bf v 29 1)).set
    (GTB_TRGCTL_OUTEN n) (bf v 18 1)).set (GTB_TRGCTL_OUT n) (bf v 16 2)).set (GTB_TRGCTL_PULSE n) (bf v 0 16)) n

/-- R56, R57: a write of GTB_TRGCTL that enables a trigger whose compare value lies at or below the GTB makes it fire late. -/
theorem exec_triggerCtlWrite_eq (n : Fin 64) (v : Nat) (s : State) :
    exec (.triggerCtlWrite n v) s = .next (if s.on (GTB_TRGCTL_EN n) = false ∧ (s.trgCtl n v).on (GTB_TRGCTL_EN n) = true ∧
      (s.trgCtl n v).trgCmp n ≤ (s.trgCtl n v).now256 then (s.trgCtl n v).fireLate n else s.trgCtl n v) := by
  simp only [exec_triggerCtlWrite, execTriggerCtlWrite, Bool.and_eq_true, Bool.not_eq_true', decide_eq_true_eq, and_assoc]
  exact (apply_ite Host.Outcome.next _ _ _).symm

/-- R60: a stamp taken while fewer than eight are held is held, and raises source 27. -/
theorem State.capture_held {s : State} {u : Nat} (rising : Bool) (st : Stamp) (hroom : (s.gtb.caps.get u).length < 8) :
    s.capture u rising st =
      (State.capShow { s with gtb := { s.gtb with caps := s.gtb.caps.put u (s.gtb.caps.get u ++ [{ at_ := st, rising := rising }]) } } u).raiseAt 27 u st := by
  rw [State.capture, if_neg (Nat.not_le.2 hroom)]

/-- R60: a stamp taken while eight are held is counted in OVF, and raises source 26. -/
theorem State.capture_overflow {s : State} {u : Nat} (rising : Bool) (st : Stamp) (hfull : 8 ≤ (s.gtb.caps.get u).length) :
    s.capture u rising st = (s.inc (GTB_CAPSTAT_OVF u)).raiseAt 26 u st := by
  rw [State.capture, if_pos hfull]

/-- R59: an edge at a ball that passes the glitch filter of an enabled unit that selects it is captured, its stamp corrected for the filter's delay. -/
theorem exec_captureEdge_ball {u : Fin 32} {rising : Bool} {held : Nat} {s : State} (at_ : Stamp) (hsrc : s.get (GTB_CAPCTL_SRC u) < 8)
    (hen : s.on (GTB_CAPCTL_EN u) = true) (hedge : bitOf (s.get (GTB_CAPCTL_EDGE u)) (if rising then 0 else 1) = true)
    (hheld : 4 * s.get (GTB_CAPCTL_FILT u) ≤ held) :
    exec (.captureEdge u rising at_ held) s = .next (s.capture u rising (stampOf (fineOf at_ - 256 * (4 * s.get (GTB_CAPCTL_FILT u))))) := by
  have hsel : (if rising = true then bitOf (s.get (GTB_CAPCTL_EDGE u)) 0 else bitOf (s.get (GTB_CAPCTL_EDGE u)) 1) = true := by
    cases rising <;> exact hedge
  rw [exec_captureEdge, execCaptureEdge, if_pos hsrc]
  simp [hen, hsel, Nat.not_lt.2 hheld]

/-- R59, R66: an edge of an internal source that has reached an enabled unit is captured, its stamp within 2 ns of the edge. -/
theorem exec_captureEdge_internal {u : Fin 32} {rising b : Bool} {k : Nat} {t : Stamp} {s v : State} (at_ : Stamp) (held : Nat)
    (hsrc : 8 ≤ s.get (GTB_CAPCTL_SRC u)) (hdue : s.arrive (isCapDue u rising) = some (.cap k b t, v)) (hen : s.on (GTB_CAPCTL_EN u) = true) :
    exec (.captureEdge u rising at_ held) s =
      .next (v.capture u rising (stampOf (min (max (fineOf at_) (fineOf t - 512)) (fineOf t + 512)))) := by
  rw [exec_captureEdge, execCaptureEdge, if_neg (Nat.not_lt.2 hsrc), hdue]
  exact if_pos hen

/-- Settles O3: a trigger's clauses are the two sides of its due test, a capture's the two sides of eight held stamps. -/
theorem gtbTriggers : Obligations.GtbTriggers := by
  unfold Obligations.GtbTriggers
  refine ⟨?fires, ?notDue, ?written, ?writtenLate, ?control, ?controlLate, ?ballHeld, ?ballFull, ?internal, fun u s => rfl⟩
  case fires =>
    intro n s hen hdue
    rw [exec_triggerFire_eq, if_pos ⟨hen, hdue⟩]
  case notDue =>
    intro n s hnot
    rw [exec_triggerFire_eq, if_neg fun ⟨hen, hdue⟩ => hnot.elim (ne_false_of_eq_true hen) (Nat.not_lt.2 hdue)]
  case written =>
    intro n v s hnot
    rw [exec_triggerCompareWrite_eq rfl, if_neg fun ⟨hen, hdue⟩ => hnot.elim (ne_false_of_eq_true hen) (Nat.not_lt.2 hdue)]
  case writtenLate =>
    intro n v s hen hdue
    rw [exec_triggerCompareWrite_eq rfl, if_pos ⟨hen, hdue⟩]
  case control =>
    intro n v s hnot
    rw [exec_triggerCtlWrite_eq]
    exact congrArg _ (if_neg fun ⟨hwas, hen, hdue⟩ =>
      hnot.elim (ne_false_of_eq_true hen) (Or.elim · (ne_true_of_eq_false hwas) (Nat.not_lt.2 hdue)))
  case controlLate =>
    intro n v s hwas hen hdue
    rw [exec_triggerCtlWrite_eq]
    exact congrArg _ (if_pos ⟨hwas, hen, hdue⟩)
  case ballHeld =>
    rintro u rising at_ st held s hsrc hen hedge hheld rfl hroom
    rw [exec_captureEdge_ball at_ hsrc hen hedge hheld, State.capture_held rising _ hroom]
  case ballFull =>
    rintro u rising at_ st held s hsrc hen hedge hheld rfl hfull
    rw [exec_captureEdge_ball at_ hsrc hen hedge hheld, State.capture_overflow rising _ hfull]
  case internal =>
    rintro u rising b at_ t st held k s v hsrc hdue hen rfl hroom
    rw [exec_captureEdge_internal at_ held hsrc hdue hen, State.capture_held rising _ hroom]

end Sys2Proof.Machine
end

section
/-! PROOFS. The global time base (R46 to R50, R64, R65, R629): steps, slews, Syncs, peer delay and the selected domain, and the statement O4. -/

namespace Sys2Proof.Machine

open Sys2Proof

/-- R49, R64: a step takes place while SERVO = 0. -/
theorem exec_gtbStep_eq (s : State) : exec .gtbStep s = .next (if s.on GTB_CFG_SERVO = true then s else s.gtbStep (s.getS GTB_ADJ_OFS)) :=
  (apply_ite Host.Outcome.next _ _ _).symm

/-- R629: a slew by a GTB_ADJ other than 0 starts while SERVO = 0. -/
theorem exec_slewStart_eq (s : State) :
    exec .slewStart s = .next (if s.on GTB_CFG_SERVO = true ∨ s.getS GTB_ADJ_OFS = 0 then s
      else { s with gtb := { s.gtb with slew := s.getS GTB_ADJ_OFS * nsUnit } }) := by
  simp only [exec_slewStart, execSlewStart, Bool.or_eq_true, decide_eq_true_eq]
  exact (apply_ite Host.Outcome.next _ _ _).symm

/-- R46: whether a Sync message with this domainNumber, received on port `p`, is one of slot `d`. -/
def State.takesSync (s : State) (d p num : Nat) : Prop := s.on (GTB_DCFG_EN d) = true ∧ s.get (GTB_DCFG_DOMNUM d) = num ∧ s.slavePort d = some p

/-- R46: a Sync that is none of the slot's is ignored. -/
theorem exec_syncReceive_ignored {d : Fin 4} {p : Fin 18} {m : SyncMsg} {s : State} (hnot : ¬ s.takesSync d p m.domNum) :
    exec (.syncReceive d p m) s = .next s := by
  have hcond : ¬ (s.on (GTB_DCFG_EN d) && s.get (GTB_DCFG_DOMNUM d) == m.domNum && s.slavePort d == some p.val) = true := by
    simpa only [State.takesSync, Bool.and_eq_true, beq_iff_eq, and_assoc] using hnot
  rw [exec_syncReceive, execSyncReceive]
  simp [hcond]

/-- R50, R65: SYNCTO Sync intervals without a Sync: the slot is silent, SYNCTO is set and source 23 raised. -/
def State.syncLost (s : State) (d : Nat) : State :=
  (State.set { s with gtb := { s.gtb with doms := s.gtb.doms.upd d (fun x => { x with silent := true }) } } (GTB_DSTAT_SYNCTO d) 1).raise 23 d

/-- R50, R65: a missing Sync in a slot that follows a port is that of `syncLost`, and holdover follows in the selected domain. -/
theorem exec_syncTimeout_following {d : Fin 4} {s : State} (hen : s.on (GTB_DCFG_EN d) = true) (hslave : (s.slavePort d).isSome = true) :
    exec (.syncTimeout d) s = .next ((if s.get GTB_CFG_DOMAIN = d then (s.syncLost d).enterHoldover else s.syncLost d).refreshSlot d) := by
  rw [exec_syncTimeout, execSyncTimeout, if_neg (by simp [hen, Option.isSome_iff_ne_none.1 hslave])]
  rfl

/-- R50: a slot that is disabled enters holdover where it is the selected one. -/
theorem exec_gtbDomainWrite_disable (d : Fin 4) (s : State) :
    exec (.gtbDomainWrite d true) s =
      .next ((if s.get GTB_CFG_DOMAIN = d then (s.set (GTB_DCFG_EN d) 0).enterHoldover else s.set (GTB_DCFG_EN d) 0).refreshSlot d) := rfl

/-- Settles O4: each clause is the branch of its command that the clause's premises choose. -/
theorem gtbTime : Obligations.GtbTime := by
  unfold Obligations.GtbTime
  refine ⟨?step, ?noStep, ?slew, ?noSlew, fun s => ⟨_, rfl⟩, fun s => rfl, ?sync, ?otherSync, ?relay, ?transmit, ?request, ?requested, ?measured,
    ?lostSelected, ?lostOther, fun d s => rfl, ?disableSelected, ?disableOther⟩
  case step =>
    intro s hservo
    rw [exec_gtbStep_eq, if_neg (ne_true_of_eq_false hservo)]
  case noStep =>
    intro s hservo
    rw [exec_gtbStep_eq, if_pos hservo]
  case slew =>
    intro s hservo hadj
    rw [exec_slewStart_eq, if_neg fun h => h.elim (ne_true_of_eq_false hservo) hadj]
  case noSlew =>
    intro s hnone
    rw [exec_slewStart_eq, if_pos hnone]
  case sync =>
    intro d p m s hen hnum hslave hlast hother hport
    rw [exec_syncReceive, execSyncReceive, if_neg (by simp [hport]), if_neg (by simp [hen, hnum, hslave])]
    simp only [hlast]
    rw [if_neg hother]
  case otherSync =>
    intro d p m s hnot _
    exact exec_syncReceive_ignored fun ⟨hen, hnum, hslave⟩ => hnot.elim (ne_false_of_eq_true hen) (Or.elim · (· hnum) (· hslave))
  case relay =>
    intro d m s hlast hen hslave
    rw [exec_syncRelay, execSyncRelay]
    simp only [hlast]
    rw [if_neg (by simp [hen, Option.isSome_iff_ne_none.1 hslave])]
  case transmit =>
    intro d s hen hslave
    rw [exec_syncTransmit, execSyncTransmit, if_neg (by simp [hen, hslave])]
    rfl
  case request =>
    intro p s hptp hport
    rw [exec_pdelayReqTransmit, execPdelayReqTransmit, if_neg (by simp [hport]), if_neg (by simp [hptp])]
  case requested =>
    intro p m s hptp hkind hport
    rw [exec_pdelayReceive, execPdelayReceive, if_neg (by simp [hport]), if_neg (by simp [hptp])]
    simp only [hkind]
  case measured =>
    intro p m s hptp hkind hseq hport
    rw [exec_pdelayReceive, execPdelayReceive, if_neg (by simp [hport]), if_neg (by simp [hptp])]
    simp only [hkind, if_pos hseq]
    exact ⟨_, rfl, by simp⟩
  case lostSelected =>
    intro d s hen hslave hsel
    rw [exec_syncTimeout_following hen hslave, if_pos hsel]
    rfl
  case lostOther =>
    intro d s hen hslave hsel
    rw [exec_syncTimeout_following hen hslave, if_neg hsel]
    rfl
  case disableSelected =>
    intro d s hsel
    rw [exec_gtbDomainWrite_disable, if_pos hsel]
  case disableOther =>
    intro d s hsel
    rw [exec_gtbDomainWrite_disable, if_neg hsel]

end Sys2Proof.Machine
end

section
/-! PROOFS. The event router (R72, R75, R77, R80, R82): the sort, the log's record in its ring and the acknowledgement of an alarm, and the statement O5. -/

namespace Sys2Proof.Machine

open Sys2Proof

/-- R82: the oldest event that has entered goes into the sort, or into the late queue where its stamp lies more than 500 ns back. -/
theorem State.sortTake_cons {e : Ev} {r : List Ev} {s : State} (hq : s.evr.entering = e :: r) :
    s.sortTake = if e.at_.ns + 500 < s.nowNs then { s with evr := { s.evr with entering := r, late := s.evr.late ++ [{ e with typ := .late }] } }
      else { s with evr := { s.evr with entering := r, sorted := sortIns e s.evr.sorted } } := by
  simp only [State.sortTake, hq]

/-- R75: a record has 16 bytes. -/
theorem recordBytes_length (e : Ev) : (recordBytes e).length = 16 := by simp [recordBytes, toBytes_length]

/-- A write that lies in one granule and passes the check is carried out. -/
theorem State.fabWrite_admitted {s : State} {id a : Nat} {bs : List Nat} (hcheck : s.checkReq a (ownReq id) .write = none)
    (hfit : a % 4096 + bs.length ≤ 4096) : s.fabWrite id a bs = (s.setBytes a bs, true) := by
  have hcut : granuleCut a bs.length = bs.length := by rw [granuleCut]; omega
  simp [State.fabWrite, hcut, hcheck]

/-- R77, R84: a full ring with MODE = 0 stops the log path. -/
theorem exec_logRecordWrite_stopped {s : State} (b : Bool) (hen : s.on EVR_LOGCFG_EN = true) (hmode : s.on EVR_LOGCFG_MODE = false)
    (hfull : ringNext (s.get EVR_LOGWR_WR % s.logRing) s.logRing = s.get EVR_LOGRD_RD % s.logRing) : exec (.logRecordWrite b) s = .next s := by
  rw [exec_logRecordWrite, execLogRecordWrite, if_neg (by simp [hen])]
  split
  · rfl
  · exact if_pos (by simp [hmode, hfull])

/-- R75, R84: the oldest record of the log path is written at WR of a ring that is not full, and WR moves on. -/
theorem exec_logRecordWrite_written {e : Ev} {r : List Ev} {s : State} (hen : s.on EVR_LOGCFG_EN = true) (hq : s.evr.logQ = e :: r)
    (hroom : ringNext (s.get EVR_LOGWR_WR % s.logRing) s.logRing ≠ s.get EVR_LOGRD_RD % s.logRing)
    (hcheck : s.checkReq (s.get EVR_LOGBASE_BASE / 4096 * 4096 + 16 * (s.get EVR_LOGWR_WR % s.logRing)) (ownReq 11) .write = none) :
    exec (.logRecordWrite false) s =
      .next (((s.setBytes (s.get EVR_LOGBASE_BASE / 4096 * 4096 + 16 * (s.get EVR_LOGWR_WR % s.logRing)) (recordBytes e)).pathPop true).set EVR_LOGWR_WR
        (ringNext (s.get EVR_LOGWR_WR % s.logRing) s.logRing)) := by
  rw [exec_logRecordWrite, execLogRecordWrite, if_neg (by simp [hen]), hq]
  have hwrite := State.fabWrite_admitted hcheck (bs := recordBytes e) (by rw [recordBytes_length]; omega)
  simp [hroom, hwrite, State.setIf]

/-- R80: an acknowledgement for a source that holds an entry frees it at the entry's count, and is subtracted where it is smaller. -/
theorem exec_alarmAck_held {src k : Nat} {s : State} (count : Nat) (hheld : s.alarmOf (src % 512) = some k) :
    exec (.alarmAck src count) s = .next (
      if count % 2 ^ 16 = s.get (EVR_ALMSRC_COUNT k) then
        (((s.set (EVR_ALMSRC_VALID k) 0).set (EVR_ALMSRC_COUNT k) 0).set EVR_ALMSTAT_USED (s.get EVR_ALMSTAT_USED - 1)).set EVR_ALMSTAT_FULL 0
      else if count % 2 ^ 16 < s.get (EVR_ALMSRC_COUNT k) then s.set (EVR_ALMSRC_COUNT k) (s.get (EVR_ALMSRC_COUNT k) - count % 2 ^ 16)
      else s) := by
  rw [exec_alarmAck, execAlarmAck, hheld]
  simp only [apply_ite Host.Outcome.next]

/-- Settles O5: each clause is the branch of its command that the clause's premises choose. -/
theorem eventRouter : Obligations.EventRouter := by
  unfold Obligations.EventRouter
  refine ⟨?sorted, ?late, ?release, ?lateRelease, ?logWritten, ?logStopped, ?trace, ?ackAll, ?ackPart, ?ackNone⟩
  case sorted =>
    intro e r s hq hnow
    rw [exec_eventEnterEvr, execEventEnterEvr, State.sortTake_cons hq, if_neg (Nat.not_lt.2 hnow)]
  case late =>
    intro e r s hq hnow
    rw [exec_eventEnterEvr, execEventEnterEvr, State.sortTake_cons hq, if_pos hnow]
  case release =>
    intro b e r s hq
    rw [exec_eventRelease, execEventRelease, hq]
  case lateRelease =>
    intro b e r s hq
    rw [exec_lateEventRelease, execLateEventRelease, hq]
  case logWritten =>
    rintro e r a s hen hq hroom rfl hcheck
    exact exec_logRecordWrite_written hen hq hroom hcheck
  case logStopped =>
    intro b s hen hmode hfull
    exact exec_logRecordWrite_stopped b hen hmode hfull
  case trace =>
    intro e r s hen hq
    rw [exec_traceRecordHandoff, execTraceRecordHandoff, if_neg (by simp [hen]), hq]
  case ackAll =>
    intro src count k s hheld hcount
    rw [exec_alarmAck_held count hheld, if_pos hcount]
  case ackPart =>
    intro src count k s hheld hcount
    rw [exec_alarmAck_held count hheld, if_neg hcount.ne, if_pos hcount]
  case ackNone =>
    intro src count s hnone
    rw [exec_alarmAck, execAlarmAck, hnone]

end Sys2Proof.Machine
end

section
/-! PROOFS. The step (R40, R69, R595) and the statement O51. -/

namespace Sys2Proof.Machine

open Sys2Proof

/-- Settles O51: the two clauses are the two cases of the queue. -/
theorem stepRunsFront : Obligations.StepRunsFront := by
  unfold Obligations.StepRunsFront
  refine ⟨?front, ?empty⟩
  case front =>
    intro c rest s hqueue
    rw [step, hqueue]
  case empty =>
    intro s hqueue
    rw [step, hqueue]

end Sys2Proof.Machine
end

section
/-! PROOFS. Converters and groups (R91, R93, R96 to R100): what a start of a converter does, the slot that ends a sequence, what becomes of a group's sets, and the statements O6 and O7. -/

namespace Sys2Proof.Machine

open Sys2Proof

/-! ### Starts of a converter -/

/-- R55, R91: a firing of its trigger line that reaches a converter acts as a write of 1 to START. -/
theorem exec_adcSequenceStart_arrived {n : Fin 8} {d : Due} {s t : State} (harr : s.arrive (fun d => d == .adc n) = some (d, t)) :
    exec (.adcSequenceStart n) s = .next (t.adcStartWrite n) := by
  rw [exec_adcSequenceStart, execAdcSequenceStart, harr]
  exact (apply_ite Host.Outcome.next _ _ _).symm

/-- R94, R96: a start takes an enabled converter that belongs to no group and does not run freely: it begins its sequence, or counts an overrun while one runs. -/
theorem State.adcStartWrite_taken {s : State} {n : Nat} (hen : s.on (ADC_CTL_EN n) = true) (howner : s.adcOwner n = none)
    (hfree : s.on (ADC_CTL_FREERUN n) = false) (hidling : s.idling n = false) :
    s.adcStartWrite n = if (s.conv.adc.get n).running = true then s.adcOverrun n else s.adcBegin n none := by
  rw [State.adcStartWrite, if_pos (by simp [hen, howner, hfree]), State.adcStart, if_neg (by simp [hidling])]

/-- R94, R96: a converter that is disabled or runs freely ignores a start. -/
theorem State.adcStartWrite_ignored {s : State} {n : Nat} (hnot : s.on (ADC_CTL_EN n) = false ∨ s.on (ADC_CTL_FREERUN n) = true) :
    s.adcStartWrite n = s := by
  rw [State.adcStartWrite, if_neg]
  rcases hnot with hen | hfree
  · simp [hen]
  · simp [hfree]

/-! ### The end of a sequence -/

/-- R96: a write below the groups' registers leaves the group that a converter belongs to. -/
theorem State.adcOwner_set {s : State} {f : Fld} (v n : Nat) (hf : fldKey f < fldKey (ADC_GRP_MASK 0)) : (s.set f v).adcOwner n = s.adcOwner n := by
  refine List.find?_congr fun g _ => ?_
  have hen : (s.set f v).get (ADC_GRP_EN g) = s.get (ADC_GRP_EN g) :=
    State.get_set_ne _ _ _ _ (by simp only [fldKey, ADC_GRP_EN, ADC_GRP_MASK, a_ADC_GRP, kindCode] at hf ⊢; omega)
  have hmask : (s.set f v).get (ADC_GRP_MASK g) = s.get (ADC_GRP_MASK g) :=
    State.get_set_ne _ _ _ _ (by simp only [fldKey, ADC_GRP_MASK, a_ADC_GRP, kindCode] at hf ⊢; omega)
  rw [State.on, State.on, hen, hmask]

/-- R91: slot `k` of converter `n` shows value `v` of sequence number `count`, as new. -/
def State.adcStore (s : State) (n k count v : Nat) : State :=
  ((s.set (ADC_RES_NEW n k) 1).set (ADC_RES_SEQNO n k) count).set (ADC_RES_VALUE n k) v

/-- R91: a converter whose sequence has ended, with BUSY cleared. -/
def State.adcEnd (s : State) (n : Nat) (c : AdcConv) : State :=
  State.set { s with conv := { s.conv with adc := s.conv.adc.put n c } } (ADC_STAT_BUSY n) 0

/-- R96: the end of a sequence leaves the group that the converter belongs to. -/
theorem State.adcOwner_adcEnd_adcStore (s : State) (n : Fin 8) {k : Nat} (hk : k < 16) (count v : Nat) (c : AdcConv) :
    ((s.adcStore n k count v).adcEnd n c).adcOwner n = s.adcOwner n := by
  calc ((s.adcStore n k count v).adcEnd n c).adcOwner n
      = (s.adcStore n k count v).adcOwner n :=
        State.adcOwner_set (s := { s.adcStore n k count v with conv := { (s.adcStore n k count v).conv with adc := (s.adcStore n k count v).conv.adc.put n c } })
          _ _ (by simp only [fldKey, ADC_STAT_BUSY, ADC_GRP_MASK, a_ADC_STAT, a_ADC_GRP, kindCode]; omega)
    _ = s.adcOwner n := by
        rw [State.adcStore, State.adcOwner_set, State.adcOwner_set, State.adcOwner_set]
        all_goals simp only [fldKey, ADC_RES_NEW, ADC_RES_SEQNO, ADC_RES_VALUE, ADC_GRP_MASK, a_ADC_RES, a_ADC_GRP, kindCode]; omega

/-- R91, R93, R97: the one slot of an ungrouped sequence, unsigned and without limits, ends it: its corrected code is stored and 80 + n raised. -/
theorem exec_adcSlotComplete_only {n : Fin 8} {w k : Nat} {s : State} (sum : Nat) (err : Int)
    (hconv : s.conv.adc.get n = { running := true, slot := 0, slots := [w], count := k, set := none }) (hfmt : bitOf w 8 = false)
    (hlim : bitOf w 9 = false) (howner : s.adcOwner n = none) :
    exec (.adcSlotComplete n sum err) s =
      .next ((((s.adcStore n 0 k (s.adcCode n (bf w 10 2) (s.adcSum w sum err))).adcEnd n { running := false, slot := 0, slots := [w], count := k, set := none }).raiseC
        (80 + n) k 0).adcFreerun n) := by
  have howner' : (((s.adcStore n 0 k (s.adcCode n (bf w 10 2) (s.adcSum w sum err))).adcEnd n
      { running := false, slot := 0, slots := [w], count := k, set := none }).adcOwner n).isNone = true := by
    rw [State.adcOwner_adcEnd_adcStore s n (by decide), howner, Option.isNone_none]
  rw [exec_adcSlotComplete, execAdcSlotComplete, hconv]
  simp only [List.getElem?_cons_zero, hfmt, hlim, Bool.false_and, Bool.false_eq_true, if_false]
  rw [if_neg (by simp)]
  exact congrArg (fun t => Host.Outcome.next (State.adcFreerun t n)) (if_pos howner')

/-- Settles O6: a trigger and a write of START are the same start; a slot's end stores its result. -/
theorem adcSequences : Obligations.AdcSequences := by
  unfold Obligations.AdcSequences
  refine ⟨?triggered, ?triggeredRunning, ?noTrigger, ?triggeredIgnored, ?started, ?startIgnored, ?freerun, ?slot, ?noSlot⟩
  case triggered =>
    intro n d s t harr hen howner hfree hidling hrun
    rw [exec_adcSequenceStart_arrived harr, State.adcStartWrite_taken hen howner hfree hidling, if_neg (ne_true_of_eq_false hrun)]
  case triggeredRunning =>
    intro n d s t harr hen howner hfree hidling hrun
    rw [exec_adcSequenceStart_arrived harr, State.adcStartWrite_taken hen howner hfree hidling, if_pos hrun]
  case noTrigger =>
    intro n s hnone
    rw [exec_adcSequenceStart, execAdcSequenceStart, hnone]
  case triggeredIgnored =>
    intro n d s t harr hnot
    rw [exec_adcSequenceStart_arrived harr, State.adcStartWrite_ignored hnot]
  case started =>
    intro n s hen howner hfree hidling hrun
    rw [exec_adcStart, execAdcStart, State.adcStartWrite_taken hen howner hfree hidling, if_neg (ne_true_of_eq_false hrun)]
  case startIgnored =>
    intro n s hnot
    rw [exec_adcStart, execAdcStart, State.adcStartWrite_ignored hnot]
  case freerun =>
    intro n en fr s hn
    rw [exec_adcFreerunWrite, execAdcFreerunWrite, if_neg (by simp [hn])]
  case slot =>
    intro n sum w k err s hconv hfmt hlim howner
    exact exec_adcSlotComplete_only sum err hconv hfmt hlim howner
  case noSlot =>
    intro n sum err s hrun
    rw [exec_adcSlotComplete, execAdcSlotComplete, hrun]

/-! ### Groups -/

/-- R98, R100: the next word of a set that is delivered to one engine alone goes there; `par` says whether that write meets a parity error. -/
theorem exec_adcWordDeliver_single {g : Fin 8} {x : AdcSet} {s : State} (par : Bool × Bool)
    (hset : (s.conv.sets.get g).find? (fun y => !y.todo.isEmpty) = some x) (heng : x.eng ≤ 11) (hpair : x.pair = false) {r : State × Bool}
    (hr : State.laneDeliver (s.setUpd g x.id (fun y => { y with todo := y.todo.tail })) x.eng ((x.addr + 4 * x.todo.headD 0) % 0x1_0000)
      (x.words.get (x.todo.headD 0)) par.1 = r) :
    exec (.adcWordDeliver g par) s = .next (if r.2 then r.1 else r.1.setRefused g (r.1.setNow g x)) := by
  subst hr
  rw [exec_adcWordDeliver, execAdcWordDeliver, hset]
  simp only [hpair, Bool.false_and, Bool.or_false]
  rw [if_neg (by simpa using heng)]
  simp [State.each]

/-- Settles O7: a clause is the branch that its arrival, its EN or the set it finds chooses. -/
theorem adcGroups : Obligations.AdcGroups := by
  unfold Obligations.AdcGroups
  refine ⟨?triggered, ?noTrigger, ?started, ?startIgnored, ?word, ?ring, ?complete⟩
  case triggered =>
    intro g d s t harr
    rw [exec_adcGroupStart, execAdcGroupStart, harr]
  case noTrigger =>
    intro g s hnone
    rw [exec_adcGroupStart, execAdcGroupStart, hnone]
  case started =>
    intro g s hen
    rw [exec_adcGroupStartWrite, execAdcGroupStartWrite, if_pos hen]
  case startIgnored =>
    intro g s hen
    rw [exec_adcGroupStartWrite, execAdcGroupStartWrite, if_neg (ne_true_of_eq_false hen)]
  case word =>
    intro g x s t hset heng hpair hdel
    rw [exec_adcWordDeliver_single (false, false) hset heng hpair hdel, if_pos rfl]
  case ring =>
    intro g x par s hset
    refine ⟨_, ?_, rfl⟩
    rw [exec_adcRingWrite, execAdcRingWrite, hset]
  case complete =>
    rintro g x u s hset rfl
    rw [exec_adcSetComplete, execAdcSetComplete, hset]

end Sys2Proof.Machine
end

section
/-! PROOFS. Sigma-delta filters and comparators (R101 to R108): what one bit does to the main and the fast filter, the loss of the clock, the sides of a comparator, and the statement O8. -/

namespace Sys2Proof.Machine

open Sys2Proof

/-! ### Sampling (R101) -/

/-- R101: the filter after SD_DATm is sampled at the edge that EDGE selects: the bit comes before the latest ones, and the window is one longer. -/
def State.sdfSample (s : State) (m : Nat) (l : Bool × Bool) : State :=
  s.sdfUpd m (fun x => { x with bits := ((if s.on (SDF_CTL_EDGE m) then l.2 else l.1) :: x.bits).take 766, win := x.win + 1 })

/-- R101, R102: one clock period of an enabled filter: the bit is sampled, the fast filter compares, and a full window forms a result. -/
theorem State.sdfRun_one {s : State} {m : Nat} (l par : Bool × Bool) (hen : s.on (SDF_CTL_EN m) = true) :
    s.sdfRun m [l] par = if s.sdfOsr m ≤ (((s.sdfSample m l).sdfFast m).conv.sdf.get m).win then ((s.sdfSample m l).sdfFast m).sdfForm m par
      else (s.sdfSample m l).sdfFast m :=
  if_neg (by simp [hen])

/-- R101: a filter that is disabled samples nothing. -/
theorem State.sdfRun_disabled {s : State} {m : Nat} (ls : List (Bool × Bool)) (par : Bool × Bool) (hen : s.on (SDF_CTL_EN m) = false) :
    s.sdfRun m ls par = s := by
  induction ls with
  | nil => rfl
  | cons l ls ih =>
    have hbit : State.sdfBit m par s l = s := if_pos (by simp [hen])
    calc s.sdfRun m (l :: ls) par = (State.sdfBit m par s l).sdfRun m ls par := rfl
      _ = s := by rw [hbit, ih]

/-! ### The main filter (R102, R103) -/

/-- R102, R103: a settled result after one that has been read, with no delivery: it is shifted, stored, and raised on 96 + m. -/
theorem State.sdfForm_settled {s : State} {m : Nat} (par : Bool × Bool) (hdst : s.on (SDF_DST_EN m) = false)
    (hread : (s.conv.sdf.get m).unread = false) (hsettled : (s.conv.sdf.get m).unsettled ≤ 1)
    (hspan : sincSpan (s.sdfOsr m) (s.sdfOrder m) ≤ (s.conv.sdf.get m).bits.length) {v : Nat}
    (hv : v = ofS 32 (sincMain (s.sdfOsr m) (s.sdfOrder m) (s.conv.sdf.get m).bits / 2 ^ min 24 (s.get (SDF_FLT_SHIFT m)))) :
    s.sdfForm m par = ((((s.set (SDF_DATA_DATA m) v).set (SDF_STAT_READY m) 1).set (SDF_STAT_SETTLE m) 0).sdfUpd m
      (fun y => { y with unsettled := 0, unread := true, win := 0 })).raise (96 + m) v := by
  have hu : (s.conv.sdf.get m).unsettled - 1 = 0 := by omega
  subst hv
  simp [State.sdfForm, hu, hspan, hread, hdst, b2n]

/-! ### The fast filter (R104) -/

/-- R104: a fast filter that is disabled compares nothing. -/
theorem State.sdfFast_disabled {s : State} {m : Nat} (hfast : s.on (SDF_FAST_EN m) = false) : s.sdfFast m = s :=
  if_pos (by simp [hfast])

section
variable {s : State} {m : Nat} {out : Int} (hfast : s.on (SDF_FAST_EN m) = true)
  (hspan : sincSpan (s.fastOsr m) (s.fastOrder m) ≤ (s.conv.sdf.get m).bits.length)
  (hout : out = sincFast (s.fastOsr m) (s.fastOrder m) (s.conv.sdf.get m).bits)
include hfast hspan hout

/-- R104: an output above HI, while the line is released, sets FASTHI, asserts the line, raises cause 2 and trips. -/
theorem State.sdfFast_above (hhi : s.getS (SDF_THR_HI m) < out) (hlo : s.getS (SDF_THR_LO m) ≤ out) (hline : (s.conv.sdf.get m).line = false) :
    s.sdfFast m = (State.raiseC (State.sdfUpd ((s.set (SDF_STAT_FASTHI m) 1).set (SDF_STAT_FASTLO m) 0) m (fun x => { x with line := true })) (100 + m) 2 0).tripAll
      (24 + m) := by
  subst hout
  simp [State.sdfFast, hfast, Nat.not_lt.2 hspan, hhi, Int.not_lt.2 hlo, hline, b2n]

/-- R104, R105: an output within HI and LO releases the line, unless a clock loss holds it. -/
theorem State.sdfFast_within (hhi : out ≤ s.getS (SDF_THR_HI m)) (hlo : s.getS (SDF_THR_LO m) ≤ out) :
    s.sdfFast m = ((s.set (SDF_STAT_FASTHI m) 0).set (SDF_STAT_FASTLO m) 0).sdfUpd m (fun x => { x with line := x.lost && x.line }) := by
  subst hout
  simp [State.sdfFast, hfast, Nat.not_lt.2 hspan, Int.not_lt.2 hhi, Int.not_lt.2 hlo, b2n]

end

/-! ### The loss of the clock (R105) -/

/-- R105: an enabled filter whose clock is lost, with CLKLOSS set and cause 1 raised. -/
def State.sdfLose (s : State) (m : Nat) : State := ((s.set (SDF_STAT_CLKLOSS m) 1).sdfUpd m (fun x => { x with lost := true })).raiseC (100 + m) 1 0

/-- R105: the loss of the clock of an enabled filter asserts the line of an enabled fast filter that is released. -/
theorem exec_sdfClockLoss_enabled {m : Fin 4} {s : State} (hen : s.on (SDF_CTL_EN m) = true) :
    exec (.sdfClockLoss m) s = .next (if s.on (SDF_FAST_EN m) = true ∧ (s.conv.sdf.get m).line = false then
      ((s.sdfLose m).sdfUpd m (fun x => { x with line := true })).tripAll (24 + m) else s.sdfLose m) := by
  rw [exec_sdfClockLoss, execSdfClockLoss, if_neg (by simp [hen])]
  simp only [Bool.and_eq_true, Bool.not_eq_true']
  exact (apply_ite Host.Outcome.next _ _ _).symm

/-! ### Comparators (R106, R107) -/

/-- R106, R107: an input on the active side of an enabled comparator sets RAW and is what the trip line follows. -/
theorem exec_comparatorTrip_carried {k : Fin 24} (v : Nat) {s : State} (hk : decide (k.val < nCmp s.part) = true) :
    exec (.comparatorTrip k v) s = .next (if s.on (CMP_CTL_EN k) = true ∧ s.cmpSide k v ≠ 0 then
      ((s.set (CMP_STAT_RAW k) 1).cmpUpd k (fun c => { c with side := s.cmpSide k v, filtered := true })).cmpLine k else s) := by
  rw [exec_comparatorTrip, execComparatorTrip, if_neg (by simp [hk])]
  simp only [Bool.and_eq_true, bne_iff_ne]
  exact (apply_ite Host.Outcome.next _ _ _).symm

/-- Settles O8: each filter clause is one clock period, of which the premises choose what the two filters do. -/
theorem filters : Obligations.Filters := by
  unfold Obligations.Filters
  refine ⟨?result, ?disabled, ?restart, ?above, ?within, ?lossMain, ?lossFast, ?clockBack, ?trip, ?noTrip, ?release, ?blanking⟩
  case result =>
    rintro m l par v s u rfl hv hen hfast hdst hread hsettled hwin hspan
    have hsample : (s.sdfSample m l).sdfFast m = s.sdfSample m l := State.sdfFast_disabled hfast
    have hform := State.sdfForm_settled (s := s.sdfSample m l) par hdst hread hsettled hspan hv
    rw [exec_sdfResult, execSdfResult, State.sdfRun_one l par hen, hsample]
    exact congrArg _ ((if_pos hwin).trans hform)
  case disabled =>
    intro m ls p s hen
    rw [exec_sdfResult, exec_sdfFastTrip, exec_sdfFastTripRelease, execSdfResult, execSdfFastTrip, execSdfFastTripRelease, State.sdfRun_disabled ls p hen]
    exact ⟨rfl, rfl, rfl⟩
  case restart =>
    intro m d s t harr hen
    rw [exec_sdfWindowRestart, execSdfWindowRestart, harr]
    exact if_pos hen
  case above =>
    rintro m l p out s u v rfl hout hen hfast hspan hhi hlo hline rfl hwin
    have habove := State.sdfFast_above (s := s.sdfSample m l) hfast hspan hout hhi hlo hline
    rw [exec_sdfFastTrip, execSdfFastTrip, State.sdfRun_one l p hen, habove]
    exact congrArg _ (if_neg (Nat.not_le.2 hwin))
  case within =>
    rintro m l p out s u rfl hout hen hfast hspan hhi hlo hwin
    have hwithin := State.sdfFast_within (s := s.sdfSample m l) hfast hspan hout hhi hlo
    have hwin' : (((s.sdfSample m l).sdfFast m).conv.sdf.get m).win < s.sdfOsr m := by
      rw [hwithin]
      simpa [State.sdfUpd, State.sdfSample] using hwin
    rw [exec_sdfFastTripRelease, execSdfFastTripRelease, State.sdfRun_one l p hen, if_neg (Nat.not_le.2 hwin'), hwithin]
    rfl
  case lossMain =>
    intro m s hen hfast
    rw [exec_sdfClockLoss_enabled hen, if_neg (by simp [hfast])]
    rfl
  case lossFast =>
    intro m s hen hfast hline
    rw [exec_sdfClockLoss_enabled hen, if_pos ⟨hfast, hline⟩]
    rfl
  case clockBack =>
    intro m s hm
    rw [exec_sdfClockReturn, execSdfClockReturn, if_neg (by simp [hm])]
  case trip =>
    intro k v s hen hside hk
    rw [exec_comparatorTrip_carried v hk, if_pos ⟨hen, hside⟩]
  case noTrip =>
    intro k v s hnot hk
    rw [exec_comparatorTrip_carried v hk, if_neg fun ⟨hen, hside⟩ => hnot.elim (ne_false_of_eq_true hen) hside]
  case release =>
    intro k v s hside hrel hpast hk
    rw [exec_comparatorRelease, execComparatorRelease, if_neg (by simp [hk])]
    simp [hside, hrel, hpast]
  case blanking =>
    intro k s hk
    rw [exec_blankingEnd, execBlankingEnd, if_neg (by simp [hk])]

end Sys2Proof.Machine
end

section
/-! PROOFS. The reference monitor and the external trip balls (R89, R122), and the statement O9. -/

namespace Sys2Proof.Machine

open Sys2Proof

/-- R89: a comparison, `ex` saying whether its deviation exceeds THR and `run` which one of the excursion it is, is shown in DEV and NOW. -/
def State.refShow (s : State) (dev : Int) (run : Nat) (ex : Bool) : State :=
  (State.setS { s with conv := { s.conv with refRun := run } } ADC_REFSTAT_DEV dev).set ADC_REFSTAT_NOW (b2n ex)

/-- R89: a comparison beyond THR is one more of its excursion, of which the third sets MISMATCH, raises source 7 and trips. -/
theorem exec_refMonitorCompare_beyond {dev : Int} {s : State} (hdev : s.get ADC_REFCTL_THR < dev.natAbs) :
    exec (.refMonitorCompare dev) s = .next (if s.conv.refRun + 1 = 3 then
      (((s.refShow dev (s.conv.refRun + 1) true).set ADC_REFSTAT_MISMATCH 1).raise 7 (ofS 16 dev)).tripAll 32 else s.refShow dev (s.conv.refRun + 1) true) := by
  simp only [exec_refMonitorCompare, execRefMonitorCompare, hdev, decide_true, if_true]
  exact (apply_ite Host.Outcome.next _ _ _).symm

/-- R89: a comparison within THR ends the excursion. -/
theorem exec_refMonitorCompare_within {dev : Int} {s : State} (hdev : dev.natAbs ≤ s.get ADC_REFCTL_THR) :
    exec (.refMonitorCompare dev) s = .next (s.refShow dev 0 false) := by
  simp only [exec_refMonitorCompare, execRefMonitorCompare, Nat.not_lt.2 hdev, decide_false, Bool.false_eq_true, if_false]
  rfl

/-- Settles O9: the third comparison beyond THR is the one that finds two before it. -/
theorem refMonitor : Obligations.RefMonitor := by
  unfold Obligations.RefMonitor
  refine ⟨?third, ?beyond, fun dev s hdev => exec_refMonitorCompare_within hdev, ?clear, ?stands, ?low, fun i s => rfl⟩
  case third =>
    intro dev s hdev hrun
    rw [exec_refMonitorCompare_beyond hdev, if_pos (by rw [hrun]), hrun]
    rfl
  case beyond =>
    intro dev s hdev hrun
    rw [exec_refMonitorCompare_beyond hdev, if_neg (by omega)]
    rfl
  case clear =>
    intro s hnow
    rw [exec_refMismatchClear, execRefMismatchClear, if_neg (ne_true_of_eq_false hnow)]
  case stands =>
    intro s hnow
    rw [exec_refMismatchClear, execRefMismatchClear, if_pos hnow]
  case low =>
    intro i s hhigh
    exact if_pos (by simp [hhigh])

end Sys2Proof.Machine
end

section
/-! PROOFS. PWM pairs (R111, R112, R116 to R119, R121, R123, R125): what an edge, a load point, a sync and a trip do to a pair, and the statement O10. -/

namespace Sys2Proof.Machine

open Sys2Proof

/-! ### Edges and load points -/

/-- R111: the counter of a pair reaches an edge that its outputs have: it is taken once, while the pair runs and has started. -/
theorem exec_pwmEdge_reached {j : Fin 24} {outB rise : Bool} {t : Nat} {s : State} (htime : s.pwmEdgeTime j outB rise = some t) :
    exec (.pwmEdge j outB rise false) s = .next (if s.on (PWM_STAT_RUN j) = true ∧ (s.conv.pwm.get j).await = false ∧
      bitOf (s.conv.pwm.get j).taken (pwmBit outB rise) = false then
        ((s.pwmUpd j (fun q => { q with cnt := max q.cnt (t / s.pwmUnit j) })).pwmTakeEdge j outB rise).pwmDrive j else s) := by
  rw [exec_pwmEdge, execPwmEdge]
  simp only [Bool.false_eq_true, if_false, htime, Bool.and_eq_true, Bool.not_eq_true', and_assoc]
  exact (apply_ite Host.Outcome.next _ _ _).symm

/-- R111: a pair that does not run takes no edge. -/
theorem exec_pwmEdge_stopped {j : Fin 24} (outB rise : Bool) {s : State} (hrun : s.on (PWM_STAT_RUN j) = false) :
    exec (.pwmEdge j outB rise false) s = .next s := by
  cases htime : s.pwmEdgeTime j outB rise with
  | none =>
    rw [exec_pwmEdge, execPwmEdge, htime]
    rfl
  | some t => rw [exec_pwmEdge_reached htime, if_neg fun ⟨h, _⟩ => ne_false_of_eq_true h hrun]

/-- R118, R139: the counter of a pair that runs has reached PER / 2, and the slots that follow mid-period are on their way. -/
def State.pwmReachMid (s : State) (j : Nat) : State :=
  (s.pwmUpd j (fun p => { p with cnt := max p.cnt (s.pwmPer j / 2) })).follow (s.slotDues 3 j s.exact)

/-- R118, R119: at mid-period a pair that runs loads a settled set where LOAD names mid-period, and replans the period unless it awaits its first sync. -/
theorem exec_pwmMidPeriod_settled {j : Fin 24} {s : State} (hrun : s.on (PWM_STAT_RUN j) = true) :
    exec (.pwmMidPeriod j true) s = .next (
      if (s.get (PWM_CFG_LOAD j) = 1 ∨ s.get (PWM_CFG_LOAD j) = 2) ∧ (s.conv.pwm.get j).pend.isSome = true then
        if (s.conv.pwm.get j).await = true then (s.pwmReachMid j).pwmLoad j else ((s.pwmReachMid j).pwmLoad j).pwmReplan j (s.pwmPer j / 2)
      else s.pwmReachMid j) := by
  rw [exec_pwmMidPeriod, execPwmMidPeriod, if_neg (by simp [hrun])]
  simp only [Bool.true_and, Bool.and_eq_true, Bool.or_eq_true, beq_iff_eq, apply_ite Host.Outcome.next]
  rfl

/-- R118, R119: with LOAD = 3 a pending set loads after its commit: inside a period of a pair that runs and has started, the period is replanned. -/
theorem exec_pwmSetLoad_pending {j : Fin 24} (c : Nat) {s : State} (hload : s.get (PWM_CFG_LOAD j) = 3) (hpend : (s.conv.pwm.get j).pend.isSome = true) :
    exec (.pwmSetLoad j c) s = .next (if s.on (PWM_STAT_RUN j) = true ∧ (s.conv.pwm.get j).await = false then
      ((s.pwmUpd j (fun p => { p with cnt := c })).pwmLoad j).pwmReplan j c else s.pwmLoad j) := by
  rw [exec_pwmSetLoad, execPwmSetLoad, if_neg (by simp [hload, Option.isSome_iff_ne_none.1 hpend])]
  simp only [Bool.and_eq_true, Bool.not_eq_true']
  exact (apply_ite Host.Outcome.next _ _ _).symm

/-! ### Periods and syncs -/

/-- R116, R118: a pair that runs starts its next period; with SYNC = 1 the wrap is a sync error. -/
theorem exec_pwmPeriodStart_running {j : Fin 24} (settled : Bool) {s : State} (hrun : s.on (PWM_STAT_RUN j) = true) :
    exec (.pwmPeriodStart j settled) s =
      .next (((if s.on (PWM_CFG_SYNC j) = true then s.pwmSyncErr j else s).pwmLoadAt j false settled).pwmStart j 0) := by
  rw [exec_pwmPeriodStart, execPwmPeriodStart, if_neg (by simp [hrun])]

/-- R55, R116: a firing of SYNCTRG inside the sync window of a pair that runs with SYNC = 1 starts a period at PHASE. -/
theorem exec_pwmSync_inWindow {j : Fin 24} {c : Nat} (settled : Bool) {d : Due} {s t : State} (harr : s.arrive (fun d => d == .sync j) = some (d, t))
    (hsync : t.on (PWM_CFG_SYNC j) = true) (hrun : t.on (PWM_STAT_RUN j) = true)
    (hwin : t.pwmPer j * t.pwmUnit j ≤ c * t.pwmUnit j + 4 * t.get (PWM_CFG_SYNCWIN j)) :
    exec (.pwmSync j c settled) s =
      .next (((t.pwmUpd j (fun p => { p with await := false, fresh := false })).pwmLoadAt j false settled).pwmStart j (t.get (PWM_ACT_PHASE_VALUE j))) := by
  rw [exec_pwmSync, execPwmSync, harr]
  simp [hsync, hrun, Nat.not_lt.2 hwin]

/-! ### Trips and forces -/

/-- R123: TRIPCLR is accepted in a latched trip while no selected source is active. -/
theorem exec_pwmTripclr_carried {j : Fin 24} {s : State} (hj : decide (j.val < nPwm s.part) = true) :
    exec (.pwmTripclr j) s = .next (if s.on (PWM_STAT_TRIPPED j) = true ∧ s.pwmActive j = none then s.pwmUpd j (fun p => { p with clr := true }) else s) := by
  rw [exec_pwmTripclr, execPwmTripclr, if_neg (by simp [hj]), State.pwmTripclr]
  simp only [Bool.and_eq_true, Option.isNone_iff_eq_none]

/-- R125: FORCE as written takes effect at once, after the clashes of a pair whose outputs follow it. -/
theorem exec_pwmForceWrite_carried {j : Fin 24} {a b : Fin 4} {s u : State} (hu : u = (s.set (PWM_CTL_FORCEA j) a).set (PWM_CTL_FORCEB j) b)
    (hj : decide (j.val < nPwm s.part) = true) :
    exec (.pwmForceWrite j a b) s = .next ((if u.pwmLive j = true then u.pwmClashes j else u).pwmDrive j) := by
  subst hu
  rw [exec_pwmForceWrite, execPwmForceWrite, if_neg (by simp [hj])]

/-- Settles O10: each clause is the branch of its command that the clause's premises choose. -/
theorem pwmPairs : Obligations.PwmPairs := by
  unfold Obligations.PwmPairs
  refine ⟨?edge, ?edgeStopped, fun j outB s => rfl, ?commit, ?period, ?periodSync, ?midNone, ?midLoad, ?setStopped, ?setRunning, ?sync, ?noSync,
    ?swtrip, fun s => rfl, ?clear, ?noClear, ?enable, ?forceIdle, ?forceLive⟩
  case edge =>
    intro j outB rise t s htime hrun hawait htaken
    rw [exec_pwmEdge_reached htime, if_pos ⟨hrun, hawait, htaken⟩]
  case edgeStopped =>
    intro j outB rise s hrun
    exact exec_pwmEdge_stopped outB rise hrun
  case commit =>
    intro j s hj
    rw [exec_pwmCommit, execPwmCommit, if_neg (by simp [hj])]
  case period =>
    intro j settled s hrun hsync
    rw [exec_pwmPeriodStart_running settled hrun, if_neg (ne_true_of_eq_false hsync)]
  case periodSync =>
    intro j settled s hrun hsync
    rw [exec_pwmPeriodStart_running settled hrun, if_pos hsync]
  case midNone =>
    intro j s hrun hpend
    rw [exec_pwmMidPeriod_settled hrun, if_neg (by simp [hpend])]
    rfl
  case midLoad =>
    intro j s hrun hpend hload hawait
    rw [exec_pwmMidPeriod_settled hrun, if_pos ⟨.inl hload, hpend⟩, if_neg (ne_true_of_eq_false hawait)]
    rfl
  case setStopped =>
    intro j c s hload hpend hrun
    rw [exec_pwmSetLoad_pending c hload hpend, if_neg (by simp [hrun])]
  case setRunning =>
    intro j c s hload hpend hrun hawait
    rw [exec_pwmSetLoad_pending c hload hpend, if_pos ⟨hrun, hawait⟩]
  case sync =>
    intro j c settled d s t harr hsync hrun hwin
    exact exec_pwmSync_inWindow settled harr hsync hrun hwin
  case noSync =>
    intro j c settled s hnone
    rw [exec_pwmSync, execPwmSync, hnone]
  case swtrip =>
    intro j s hj
    rw [exec_pwmSwtrip, execPwmSwtrip, if_neg (by simp [hj])]
  case clear =>
    intro j s htrip hactive hj
    rw [exec_pwmTripclr_carried hj, if_pos ⟨htrip, hactive⟩]
  case noClear =>
    intro j s hnot hj
    rw [exec_pwmTripclr_carried hj, if_neg fun ⟨htrip, hactive⟩ => hnot.elim (ne_false_of_eq_true htrip) (by simp [hactive])]
  case enable =>
    intro j en settled s hj
    rw [exec_pwmEnableWrite, execPwmEnableWrite, if_neg (by simp [hj])]
  case forceIdle =>
    intro j a b s u hu hlive hj
    rw [exec_pwmForceWrite_carried hu hj, if_neg (ne_true_of_eq_false hlive)]
  case forceLive =>
    intro j a b s u hu hlive hj
    rw [exec_pwmForceWrite_carried hu hj, if_pos hlive]

end Sys2Proof.Machine
end

section
/-! PROOFS. Instructions of the Tangram engines (R143, R145 to R167): what a ready engine does with an instruction that only changes its registers, with
a branch, with a special register and at the end of an iteration, and the statements O11, O12, O13 and O14. -/

namespace Sys2Proof.Machine

open Sys2Proof

/-! ### Instructions that only change the engine -/

/-- Settles O11: an integer instruction only changes the engine's registers, so that the issue of a ready engine gives every clause. -/
theorem tangramInteger : Obligations.TangramInteger := by
  unfold Obligations.TangramInteger
  and_intros <;> intros <;> exact tgAlu_ready _ _ _ _ _ ‹_›

/-- Settles O12, as O11: the accumulators and SAT stand in the engine too. -/
theorem tangramAccumulator : Obligations.TangramAccumulator := by
  unfold Obligations.TangramAccumulator
  and_intros <;> intros <;> exact tgAlu_ready _ _ _ _ _ ‹_›

/-- Settles O13, as O11: FFLAGS stand in the engine too. -/
theorem tangramFloat : Obligations.TangramFloat := by
  unfold Obligations.TangramFloat
  and_intros <;> intros <;> exact tgAlu_ready _ _ _ _ _ ‹_›

/-! ### Branches and the other instructions -/

/-- R145, R153: a taken branch costs one slot more, and its target stands behind the delay slot. -/
theorem tgCond_taken {x : TgAt} {w : Nat} {off : Fin 65536} {s : State} {p : State → Bool}
    (hready : tgReady x w .branch s = true) (hp : p s = true) :
    s.tgIssue x w 1 .branch (fun t => t.tgCond x.e (p t) off) =
      .next (((s.tgSet x.e (fun g => g.leave (s.tgTarget x.e 16 off))).tgSet x.e (fun y =>
        { y with ds := some (y.pc, s.tgTarget x.e 16 off), pc := (y.pc + 4) % 0x1_0000, shadow := false, cost := y.cost + 1 + 1 })).tgBoundary x.e) := by
  rw [tgIssue_ready _ _ _ _ _ _ hready, State.tgCond, if_pos hp]
  rfl

/-- R145, R161: a branch not taken resolves to the branch address + 8. -/
theorem tgCond_notTaken {x : TgAt} {w : Nat} {off : Fin 65536} {s : State} {p : State → Bool}
    (hready : tgReady x w .branch s = true) (hp : ¬ p s = true) :
    s.tgIssue x w 1 .branch (fun t => t.tgCond x.e (p t) off) =
      .next ((s.tgSet x.e (fun y =>
        { y with ds := some (y.pc, ((s.tg.get x.e).pc + 8) % 0x1_0000), pc := (y.pc + 4) % 0x1_0000, shadow := false, cost := y.cost + 1 })).tgBoundary
          x.e) := by
  rw [tgIssue_ready _ _ _ _ _ _ hready, State.tgCond, if_neg hp]
  rfl

/-- Settles O14: a ready engine issues, and each clause is the result of its body that the clause's premises choose. -/
theorem tangramControl : Obligations.TangramControl := by
  unfold Obligations.TangramControl
  refine ⟨?eret, ?eretUser, ?mfs, ?mts, ?mtsUser, ?evp, ?evpFull, ?setm, ?end_, ?brk, ?jr, ?jmp, ?call, ?beq, ?beqNot, ?bne, ?bneNot, ?blt, ?bltNot,
    ?bge, ?bgeNot, ?bltu, ?bltuNot, ?bgeu, ?bgeuNot, ?loop, ?loopi⟩
  case eret =>
    intro x s hready huser
    rw [exec_tgEret, execTgEret, tgIssue_ready _ _ _ _ _ _ hready]
    simp only [huser]
    rfl
  case eretUser =>
    intro x s hready huser
    rw [exec_tgEret, execTgEret, tgIssue_ready _ _ _ _ _ _ hready]
    simp only [huser]
    rfl
  case mfs =>
    intro x rd sr s hready
    rw [exec_tgMfs, execTgMfs, tgIssue_ready _ _ _ _ _ _ hready]
    rfl
  case mts =>
    intro x sr rs1 s hready hmay
    rw [exec_tgMts, execTgMts, tgIssue_ready _ _ _ _ _ _ hready]
    dsimp only
    rw [if_neg (by simpa using fun huser => hmay.resolve_left (ne_false_of_eq_true huser))]
    rfl
  case mtsUser =>
    intro x sr rs1 s hready huser hsr
    rw [exec_tgMts, execTgMts, tgIssue_ready _ _ _ _ _ _ hready]
    dsimp only
    rw [if_pos (by simp [huser, hsr])]
    rfl
  case evp =>
    intro x rs1 s hready hroom
    rw [exec_tgEvp, execTgEvp, tgIssue_ready _ _ _ _ _ _ hready, tgPut_ok s x.e [.evp ((s.tg.get x.e).reg rs1)] hroom]
    rfl
  case evpFull =>
    intro x rs1 s hready hfull
    rw [exec_tgEvp, execTgEvp, tgIssue_ready _ _ _ _ _ _ hready, tgPut_full s x.e [.evp ((s.tg.get x.e).reg rs1)] (Nat.lt_succ_of_le hfull)]
    rfl
  case setm =>
    intro x mask value s hready huser
    rw [exec_tgSetm, execTgSetm, tgIssue_ready _ _ _ _ _ _ hready]
    simp only [huser]
    rfl
  case end_ =>
    intro x s hready
    rw [exec_tgEnd, execTgEnd, tgIssue_ready _ _ _ _ _ _ hready, State.tgRetire]
  case brk =>
    intro x s hready
    rw [exec_tgBrk, execTgBrk, tgIssue_ready _ _ _ _ _ _ hready, State.tgRetire]
  case jr =>
    intro x rs1 s hready
    rw [exec_tgJr, execTgJr, tgIssue_ready _ _ _ _ _ _ hready]
  case jmp =>
    intro x off s hready
    rw [exec_tgJmp, execTgJmp, tgIssue_ready _ _ _ _ _ _ hready]
  case call =>
    intro x off s hready
    rw [exec_tgCall, execTgCall, tgIssue_ready _ _ _ _ _ _ hready]
  case beq => exact fun x rs1 rs2 off s hready h => (exec_tgBeq ..).trans (tgCond_taken hready (decide_eq_true h))
  case beqNot => exact fun x rs1 rs2 off s hready h => (exec_tgBeq ..).trans (tgCond_notTaken hready (mt of_decide_eq_true h))
  case bne => exact fun x rs1 rs2 off s hready h => (exec_tgBne ..).trans (tgCond_taken hready (decide_eq_true h))
  case bneNot => exact fun x rs1 rs2 off s hready h => (exec_tgBne ..).trans (tgCond_notTaken hready (mt of_decide_eq_true h))
  case blt => exact fun x rs1 rs2 off s hready h => (exec_tgBlt ..).trans (tgCond_taken hready (decide_eq_true h))
  case bltNot => exact fun x rs1 rs2 off s hready h => (exec_tgBlt ..).trans (tgCond_notTaken hready (mt of_decide_eq_true h))
  case bge => exact fun x rs1 rs2 off s hready h => (exec_tgBge ..).trans (tgCond_taken hready (decide_eq_true h))
  case bgeNot => exact fun x rs1 rs2 off s hready h => (exec_tgBge ..).trans (tgCond_notTaken hready (mt of_decide_eq_true h))
  case bltu => exact fun x rs1 rs2 off s hready h => (exec_tgBltu ..).trans (tgCond_taken hready (decide_eq_true h))
  case bltuNot => exact fun x rs1 rs2 off s hready h => (exec_tgBltu ..).trans (tgCond_notTaken hready (mt of_decide_eq_true h))
  case bgeu => exact fun x rs1 rs2 off s hready h => (exec_tgBgeu ..).trans (tgCond_taken hready (decide_eq_true h))
  case bgeuNot => exact fun x rs1 rs2 off s hready h => (exec_tgBgeu ..).trans (tgCond_notTaken hready (mt of_decide_eq_true h))
  case loop =>
    intro x level rs1 off s hready
    rw [exec_tgLoop, execTgLoop, tgIssue_ready _ _ _ _ _ _ hready]
  case loopi =>
    intro x level n off s hready
    rw [exec_tgLoopi, execTgLoopi, tgIssue_ready _ _ _ _ _ _ hready]

end Sys2Proof.Machine
end

section
/-! PROOFS. Iterations, pairs and moves of the Tangram engines (R135, R139, R141, R167, R168, R170, R172, R177 to R179), and the statements O16 and O17. -/

namespace Sys2Proof.Machine

open Sys2Proof

/-! ### Iterations -/

/-- R139, R55: the oldest occurrence on its way to an enabled, valid slot of a leading engine is counted against DIV. -/
theorem exec_tgOccurrence_due {e : Fin 12} {sl : Fin 8} {a b : Nat} {at_ : Stamp} {s t : State}
    (harr : s.arrive (isSlotDue e sl) = some (.slot a b at_, t)) (hlead : t.tgLead e = e.val) (hen : t.on (TG_SLOT_EN e sl) = true)
    (hvalid : tgSlotValid (t.get (TG_SLOT_TYPE e sl)) (t.get (TG_SLOT_SRC e sl)) = true) :
    exec (.tgOccurrence e sl) s = .next (if (t.tg.get e).divs.get sl < t.get (TG_SLOT_DIV e sl) then
      t.tgSet e (fun x => { x with divs := x.divs.put sl ((t.tg.get e).divs.get sl + 1) })
      else (t.tgSet e (fun x => { x with divs := x.divs.put sl 0 })).tgOccur e sl at_.ns) := by
  rw [exec_tgOccurrence, execTgOccurrence, harr]
  exact congrArg _ (if_neg (by simp [hlead, hen, hvalid]))

/-- R534, R547: with no block reset under way, only a converter or a group of one can have been asked to go idle. -/
theorem State.idling_none {s : State} {n : Nat} (hblk : s.pow.blk = none) (hn : 16 ≤ n) : s.idling n = false := by
  simp [State.idling, hblk, Nat.not_lt.2 hn]

/-- R167: an engine that is not compared releases its buffer at the seal. -/
theorem exec_tgSeal_notCompared {e : Fin 12} (c : TgCmp) {s : State} (hlead : s.tgLead e = e.val) (hended : (s.tg.get e).ended = true)
    (hcmp : s.tgCompared e = false) : exec (.tgSeal e c) s = .next (s.tgRelease e) := by
  rw [exec_tgSeal]
  unfold execTgSeal
  rw [if_neg (by simp [hlead, hended]), if_pos (by simp [hcmp]), done]

/-- Settles O16: each clause is the branch of its command that the clause's premises choose. -/
theorem tangramIterations : Obligations.TangramIterations := by
  unfold Obligations.TangramIterations
  refine ⟨?counted, ?taken, ?noDue, ?swdisp, ?dispatch, ?busy, ?sealAlone, ?sealCompared, ?skew, ?deadline⟩
  case counted =>
    intro e sl a b at_ s t harr hlead hen hvalid hdiv
    rw [exec_tgOccurrence_due harr hlead hen hvalid, if_pos hdiv]
  case taken =>
    intro e sl a b at_ s t harr hlead hen hvalid hdiv
    rw [exec_tgOccurrence_due harr hlead hen hvalid, if_neg (Nat.not_lt.2 hdiv)]
  case noDue =>
    intro e sl s hnone
    rw [exec_tgOccurrence, execTgOccurrence, hnone]
  case swdisp =>
    intro e sl s hlead he
    rw [exec_tgSwdisp, execTgSwdisp, if_neg (by simp [he]), State.tgSwdisp, if_pos hlead]
  case dispatch =>
    intro e sl st s hlead hrun hbusy hhold hsync hesc hmove hblk hpend
    have hidle : s.idling (72 + e) = false := State.idling_none hblk (by omega)
    have hidle' : s.idling (73 + e) = false := State.idling_none hblk (by omega)
    refine ⟨_, ?_, rfl⟩
    rw [exec_tgDispatch, execTgDispatch, if_neg (by simp [hlead, hrun, hbusy, hhold, hsync, hesc, hmove, hidle, hidle']), hpend]
    rfl
  case busy =>
    intro e s hbusy
    rw [exec_tgDispatch, execTgDispatch, if_pos (by simp [hbusy])]
  case sealAlone =>
    intro e c s hlead hended hcmp
    exact exec_tgSeal_notCompared c hlead hended hcmp
  case sealCompared =>
    intro e s hlead hended hcmp
    simp [exec_tgSeal, execTgSeal, done, hlead, hended, hcmp]
  case skew =>
    intro e s hcmp hbusy
    rw [exec_tgSkewTimeout, execTgSkewTimeout, if_pos (by simp [hcmp, hbusy])]
  case deadline =>
    intro e s hlead hbusy hdl
    rw [exec_tgDeadlineExpiry, execTgDeadlineExpiry, if_pos (by simp [hlead, hbusy, hdl])]

/-! ### Pairs and moves -/

/-- R170: PAIR as written on an even engine while both engines are stopped. -/
theorem exec_tgPairWrite_stopped {e : Fin 12} (p : Bool) {s : State} (heven : e.val % 2 = 0) (hrun : s.on (TG_CTL_RUN e) = false)
    (hrun' : s.on (TG_CTL_RUN (e + 1)) = false) (he : decide (e.val < nTg s.part) = true) :
    exec (.tgPairWrite e p) s = .next (
      if p = true ∧ (s.unusable (72 + e) = true ∨ s.unusable (73 + e) = true) then s
      else if p = true ∧ s.on (TG_PCTL_PAIR e) = false then (s.set (TG_PCTL_PAIR e) 1).set (TG_PSTAT_SYNCING e) 1
      else (s.tgSlicesAbort e).set (TG_PCTL_PAIR e) (b2n p)) := by
  rw [exec_tgPairWrite, execTgPairWrite, if_neg (by simp [he]), State.tgPairWrite, if_neg (by simp [heven, hrun, hrun'])]
  simp only [Bool.and_eq_true, Bool.or_eq_true, Bool.not_eq_true']

/-- Settles O17: each clause is the branch of its command that the clause's premises choose. -/
theorem tangramPairs : Obligations.TangramPairs := by
  unfold Obligations.TangramPairs
  refine ⟨?dmem, ?pairIgnored, ?pairSet, ?pairClear, ?synced, ?go, ?goIgnored, ?freeze, ?complete, ?fwdClear⟩
  case dmem =>
    intro e off size v s hlead he
    rw [exec_tgDmemWrite, execTgDmemWrite, if_neg (by simp [he]), if_pos hlead]
  case pairIgnored =>
    intro e p s hnot he
    rw [exec_tgPairWrite, execTgPairWrite, if_neg (by simp [he]), State.tgPairWrite, if_pos (by simpa [or_assoc] using hnot)]
  case pairSet =>
    intro e s heven hrun hrun' hus hus' hpair he
    rw [exec_tgPairWrite_stopped true heven hrun hrun' he, if_neg (by simp [hus, hus']), if_pos ⟨rfl, hpair⟩]
  case pairClear =>
    intro e s heven hrun hrun' he
    rw [exec_tgPairWrite_stopped false heven hrun hrun' he, if_neg (by simp), if_neg (by simp)]
    rfl
  case synced =>
    intro e s hsync
    rw [exec_tgPairSyncDone, execTgPairSyncDone, if_pos hsync]
  case go =>
    intro e d s hgo he
    rw [exec_tgMoveGo, execTgMoveGo, if_neg (by simp [he]), if_neg (ne_true_of_eq_false hgo)]
  case goIgnored =>
    intro e d s hgo he
    rw [exec_tgMoveGo, execTgMoveGo, if_neg (by simp [he]), if_pos hgo]
  case freeze =>
    intro e s hgo hbusy
    rw [exec_tgMoveFreeze, execTgMoveFreeze, if_pos (by simp [hgo, hbusy])]
  case complete =>
    intro e s hgo hhold
    exact ⟨_, (exec_tgMoveComplete e s).trans (if_neg (by simp [hgo, hhold]))⟩
  case fwdClear =>
    intro e s hfwd he
    rw [exec_tgMoveFwdClear, execTgMoveFwdClear, if_neg (by simp [he]), if_pos hfwd]
    rfl

end Sys2Proof.Machine
end

section
/-! PROOFS. Memory below the MSI-X pages (R135, R437, R440, R451, R474), part 1: the bytes that a state holds there (its low bytes), and the
small updates, events and checks that leave them. Of what a command outside `writesMemory` runs, only `State.msix` writes memory: an MSI-X page,
which lies above. In this part and the next ones, one lemma per function of the model says that it leaves the low bytes, from the lemmas of what it calls. -/

namespace Sys2Proof.Machine

open Sys2Proof

/-- The bytes of memory below the MSI-X pages, by address. -/
def State.low (s : State) : Nat → Nat := fun a => if a < 0x6000_0000 then s.byte a else 0

/-- A record update that keeps the memory keeps its low bytes. Not by `rfl` alone: `simp` uses it under the binder of `State.each_low` too. -/
@[simp] theorem State.low_mk {part regs held latch gtb due evr conv tg psc esw can lin crs gw pcie core pair scrub vi vimStart cmp pow ste irqInner irqOuter
    out free pending} (s : State) :
    State.low ⟨part, regs, held, latch, s.mem, gtb, due, evr, conv, tg, psc, esw, can, lin, crs, gw, pcie, core, pair, scrub, vi, vimStart, cmp, pow, ste,
      irqInner, irqOuter, out, free, pending⟩ = s.low := by
  unfold State.low State.byte
  rfl

/-- R437: a byte of an MSI-X page changes no low byte. -/
theorem State.setByte_low (s : State) (a b : Nat) (h : 0x6000_0000 ≤ a) : (s.setByte a b).low = s.low := by
  funext x
  unfold State.low
  split
  · exact State.byte_setByte_ne s a b x (by omega)
  · rfl

@[simp] theorem State.low_ite (c : Prop) [Decidable c] (a b : State) : (if c then a else b).low = if c then a.low else b.low := apply_ite _ _ _ _
@[simp] theorem State.fst_ite {α : Type} (c : Prop) [Decidable c] (a b : State × α) : (if c then a else b).1 = if c then a.1 else b.1 :=
  apply_ite _ _ _ _

@[simp] theorem State.each_low {α : Type} (s : State) (l : List α) (g : State → α → State) (h : ∀ t x, (g t x).low = t.low) :
    (s.each l g).low = s.low := by
  induction l generalizing s with
  | nil => rfl
  | cons x l ih => exact (ih _).trans (h s x)

/-- What a command answers on `s` leaves the low bytes of `s`. -/
def KeepsLow (s : State) (o : Host.Outcome State Fault Refusal) : Prop := ∀ t, o = .next t → t.low = s.low

@[simp] theorem keepsLow_next (s t : State) : KeepsLow s (.next t) ↔ t.low = s.low :=
  ⟨fun h => h t rfl, fun h _ ht => by cases ht; exact h⟩
@[simp] theorem keepsLow_done (s t : State) : KeepsLow s (done t) ↔ t.low = s.low := keepsLow_next s t
@[simp] theorem keepsLow_ite (s : State) (c : Prop) [Decidable c] (a b : Host.Outcome State Fault Refusal) :
    KeepsLow s (if c then a else b) ↔ if c then KeepsLow s a else KeepsLow s b := by
  split <;> rfl

/-! ### Registers, outputs and bytes (R12, R40, R440) -/

@[simp] theorem State.set_low (s : State) (f : Fld) (v : Nat) : (s.set f v).low = s.low := by simp [State.set]
@[simp] theorem State.setS_low (s : State) (f : Fld) (i : Int) : (s.setS f i).low = s.low := by simp [State.setS]
@[simp] theorem State.addSat_low (s : State) (f : Fld) (n : Nat) : (s.addSat f n).low = s.low := by simp [State.addSat]
@[simp] theorem State.inc_low (s : State) (f : Fld) : (s.inc f).low = s.low := by simp [State.inc]
@[simp] theorem State.addWrap_low (s : State) (f : Fld) (n : Nat) : (s.addWrap f n).low = s.low := by simp [State.addWrap]
@[simp] theorem State.setIf_low (s : State) (c : Bool) (f : Fld) (v : Nat) : (s.setIf c f v).low = s.low := by simp [State.setIf]
@[simp] theorem State.setBit_low (s : State) (f : Fld) (n : Nat) (b : Bool) : (s.setBit f n b).low = s.low := by simp [State.setBit]
@[simp] theorem State.track_low (s : State) (f : Fld) (v : Nat) : (s.track f v).low = s.low := by simp [State.track]
@[simp] theorem State.draw_low (s : State) : s.draw.low = s.low := by simp [State.draw]
@[simp] theorem State.emit_low (s : State) (o : Out) : (s.emit o).low = s.low := by simp [State.emit]
@[simp] theorem State.twinReport_low (s : State) (c : Nat) : (s.twinReport c).low = s.low := by simp [State.twinReport]

/-! ### Arrivals (R55, R71) -/

@[simp] theorem State.follow_low (s : State) (l : List Due) : (s.follow l).low = s.low := by simp [State.follow]
theorem State.arrive_low {s t : State} {p : Due → Bool} {d : Due} (h : s.arrive p = some (d, t)) : t.low = s.low := by
  unfold State.arrive at h
  split at h <;> cases h
  rfl

/-! ### Events, the alarm latch and the paths (R67 to R85), with the MSI-X pages that they reach (R474, R477) -/

@[simp] theorem State.setPath_low (s : State) (lg : Bool) (q : List Ev) (lvl : Nat) : (s.setPath lg q lvl).low = s.low := by simp [State.setPath]
@[simp] theorem State.countLoss_low (s : State) (lg : Bool) (src : Nat) (at_ : Stamp) : (s.countLoss lg src at_).low = s.low := by
  simp [State.countLoss]
@[simp] theorem State.countRepeat_low (s : State) (e : Ev) : (s.countRepeat e).low = s.low := by simp [State.countRepeat]
@[simp] theorem State.enterRaw_low (s : State) (e : Ev) : (s.enterRaw e).low = s.low := by simp [State.enterRaw]
@[simp] theorem State.persistAdd_low (s : State) (p : PersistEntry) : (s.persistAdd p).low = s.low := by simp [State.persistAdd]
@[simp] theorem State.areaShow_low (s : State) : s.areaShow.low = s.low := by simp [State.areaShow]
@[simp] theorem State.persistCommit_low (s : State) (b : BakObs) : (s.persistCommit b).low = s.low := by simp [State.persistCommit]
@[simp] theorem State.alarmTake_low (s : State) (e : Ev) : (s.alarmTake e).low = s.low := by
  unfold State.alarmTake
  split
  · simp
  · split <;> simp
@[simp] theorem State.alarm_low (s : State) (e : Ev) : (s.alarm e).low = s.low := by simp [State.alarm]
@[simp] theorem State.enterNow_low (s : State) (e : Ev) : (s.enterNow e).low = s.low := by simp [State.enterNow]
@[simp] theorem State.direct_low (s : State) (e : Ev) : (s.direct e).low = s.low := by simp [State.direct]
@[simp] theorem State.enter_low (s : State) (e : Ev) : (s.enter e).low = s.low := by simp [State.enter]
@[simp] theorem State.msix_low (s : State) (i v : Nat) : (s.msix i v).low = s.low := by
  unfold State.msix
  split
  · rfl
  · exact State.setByte_low _ _ _ (by unfold viMsix; omega)
@[simp] theorem State.viNote_low (s : State) (i b : Nat) : (s.viNote i b).low = s.low := by simp [State.viNote]
@[simp] theorem State.viGoto_low (s : State) (i st : Nat) : (s.viGoto i st).low = s.low := by simp [State.viGoto]
@[simp] theorem State.viFaultMark_low (s : State) (i code : Nat) : (s.viFaultMark i code).low = s.low := by simp [State.viFaultMark]
@[simp] theorem State.viHear_low (s : State) (src word : Nat) : (s.viHear src word).low = s.low := by
  unfold State.viHear
  repeat' split
  all_goals simp
@[simp] theorem State.raise_low (s : State) (src word : Nat) : (s.raise src word).low = s.low := by simp [State.raise]
@[simp] theorem State.raiseAt_low (s : State) (src word : Nat) (at_ : Stamp) : (s.raiseAt src word at_).low = s.low := by simp [State.raiseAt]
@[simp] theorem State.raiseC_low (s : State) (src cause value : Nat) : (s.raiseC src cause value).low = s.low := by simp [State.raiseC]
@[simp] theorem State.raiseSum_low (s : State) (src cause n : Nat) : (s.raiseSum src cause n).low = s.low := by simp [State.raiseSum]
@[simp] theorem State.pathPush_low (s : State) (lg : Bool) (e : Ev) : (s.pathPush lg e).low = s.low := by simp [State.pathPush]
@[simp] theorem State.summary1_low (lg : Bool) (s : State) (src : Nat) : (State.summary1 lg s src).low = s.low := by simp [State.summary1]
@[simp] theorem State.summaries_low (s : State) (lg : Bool) : (s.summaries lg).low = s.low := by simp [State.summaries]
@[simp] theorem State.pathOffer_low (s : State) (lg : Bool) (e : Ev) : (s.pathOffer lg e).low = s.low := by simp [State.pathOffer]
@[simp] theorem State.pathPop_low (s : State) (lg : Bool) : (s.pathPop lg).low = s.low := by simp [State.pathPop]
@[simp] theorem State.pendIrq_low (s : State) (d : Nat) (inner : Bool) (src : Nat) : (s.pendIrq d inner src).low = s.low := by simp [State.pendIrq]
@[simp] theorem State.deliver_low (s : State) (e : Ev) : (s.deliver e).low = s.low := by simp [State.deliver]
@[simp] theorem State.sortTake_low (s : State) : s.sortTake.low = s.low := by
  unfold State.sortTake
  split <;> simp
@[simp] theorem State.evrTake_low (s : State) : s.evrTake.low = s.low := by simp [State.evrTake]

/-! ### Region checks (R447 to R452) -/

@[simp] theorem State.refuse_low (s : State) (a : Nat) (r : Req) (k : AccKind) (chk base : Nat) : (s.refuse a r k chk base).low = s.low := by
  simp [State.refuse]
theorem State.checkReq_low {s t : State} {a : Nat} {r : Req} {k : AccKind} (h : s.checkReq a r k = some t) : t.low = s.low := by
  unfold State.checkReq at h
  split at h
  · cases h; simp
  · split at h
    · cases h
    · split at h <;> cases h <;> simp
@[simp] theorem State.parityError_low (s : State) (id : Nat) : (s.parityError id).low = s.low := by simp [State.parityError]

/-! ### Field writes (R11, R16) -/

@[simp] theorem State.fieldWrite_low (s : State) (f : Fld) (v : Nat) : (s.fieldWrite f v).low = s.low := by simp [State.fieldWrite]
@[simp] theorem State.fieldsWrite_low (s : State) (fs : List Fld) (v : Nat) : (s.fieldsWrite fs v).low = s.low := by simp [State.fieldsWrite]
@[simp] theorem State.restore_low (s : State) (p : Nat → Bool) : (s.restore p).low = s.low := by simp [State.restore]

/-! ### Engines (R171) -/

@[simp] theorem State.tgSet_low (s : State) (e : Nat) (g : TgEng → TgEng) : (s.tgSet e g).low = s.low := by simp [State.tgSet]

end Sys2Proof.Machine
end

section
/-! PROOFS. Memory below the MSI-X pages, part 2: converters, wakes, CAN and gate lists leave it. -/

namespace Sys2Proof.Machine

open Sys2Proof

/-! ### Converters (R91 to R100) -/

@[simp] theorem State.adcBegin_low (s : State) (n : Nat) (set : Option (Nat × Nat)) : (s.adcBegin n set).low = s.low := by simp [State.adcBegin]
@[simp] theorem State.adcOverrun_low (s : State) (n : Nat) : (s.adcOverrun n).low = s.low := by simp [State.adcOverrun]
@[simp] theorem State.adcStart_low (s : State) (n : Nat) : (s.adcStart n).low = s.low := by simp [State.adcStart]
@[simp] theorem keepsLow_adcSequenceStart (n : Fin 8) (s : State) : KeepsLow s (exec (.adcSequenceStart n) s) := by
  rw [exec_adcSequenceStart]
  unfold execAdcSequenceStart
  split
  · simp
  · next h => simp [State.arrive_low h]
@[simp] theorem State.adcStartWrite_low (s : State) (n : Nat) : (s.adcStartWrite n).low = s.low := by simp [State.adcStartWrite]
@[simp] theorem keepsLow_adcStart (n : Fin 8) (s : State) : KeepsLow s (exec (.adcStart n) s) := by simp [exec_adcStart, execAdcStart]
@[simp] theorem State.adcFreerun_low (s : State) (n : Nat) : (s.adcFreerun n).low = s.low := by simp [State.adcFreerun]
@[simp] theorem keepsLow_adcFreerunWrite (n : Fin 8) (en freerun : Bool) (s : State) : KeepsLow s (exec (.adcFreerunWrite n en freerun) s) := by
  simp [exec_adcFreerunWrite, execAdcFreerunWrite]
@[simp] theorem State.setUpd_low (s : State) (g id : Nat) (f : AdcSet → AdcSet) : (s.setUpd g id f).low = s.low := by simp [State.setUpd]
@[simp] theorem State.setWord_low (s : State) (g id n k w : Nat) : (s.setWord g id n k w).low = s.low := by simp [State.setWord]
@[simp] theorem keepsLow_adcSlotComplete (n : Fin 8) (sum : Nat) (err : Int) (s : State) : KeepsLow s (exec (.adcSlotComplete n sum err) s) := by
  rw [exec_adcSlotComplete]
  unfold execAdcSlotComplete
  dsimp only
  repeat' split
  all_goals simp
@[simp] theorem State.grpConflict_low (s : State) (g : Nat) : (s.grpConflict g).low = s.low := by simp [State.grpConflict]
@[simp] theorem State.grpStart_low (s0 : State) (g : Nat) : (s0.grpStart g).low = s0.low := by simp [State.grpStart]
@[simp] theorem keepsLow_adcGroupStart (g : Fin 8) (s : State) : KeepsLow s (exec (.adcGroupStart g) s) := by
  rw [exec_adcGroupStart]
  unfold execAdcGroupStart
  split
  · simp
  · next h => simp [State.arrive_low h]
@[simp] theorem keepsLow_adcGroupStartWrite (g : Fin 8) (s : State) : KeepsLow s (exec (.adcGroupStartWrite g) s) := by
  simp [exec_adcGroupStartWrite, execAdcGroupStartWrite]
@[simp] theorem keepsLow_adcSetComplete (g : Fin 8) (s : State) : KeepsLow s (exec (.adcSetComplete g) s) := by
  rw [exec_adcSetComplete]
  unfold execAdcSetComplete
  split <;> simp

/-! ### Wakes (R324 to R326) -/

@[simp] theorem State.wakeConfirm_low (s : State) (b : Nat) : (s.wakeConfirm b).low = s.low := by simp [State.wakeConfirm]
@[simp] theorem State.zoneLow_low (s : State) (cause : Nat) : (s.zoneLow cause).low = s.low := by simp [State.zoneLow]
@[simp] theorem State.zoneHigh_low (s : State) : s.zoneHigh.low = s.low := by simp [State.zoneHigh]

/-! ### CAN (R277 to R301) -/

@[simp] theorem State.canUpd_low (s : State) (c : Nat) (g : CanSt → CanSt) : (s.canUpd c g).low = s.low := by simp [State.canUpd]
@[simp] theorem State.canFull_low (s : State) (c o : Nat) (b : Bool) : (s.canFull c o b).low = s.low := by simp [State.canFull]
@[simp] theorem State.canReq_low (s : State) (c o : Nat) (b : Bool) : (s.canReq c o b).low = s.low := by simp [State.canReq]
@[simp] theorem State.canMirror_low (s : State) (c o : Nat) : (s.canMirror c o).low = s.low := by simp [State.canMirror]
@[simp] theorem State.canStart_low (s : State) (c : Nat) : (s.canStart c).low = s.low := by simp [State.canStart]
@[simp] theorem State.canErrState_low (s : State) (c : Nat) : (s.canErrState c).low = s.low := by simp [State.canErrState]
@[simp] theorem State.canTxEnd_low (s : State) (c : Nat) : (s.canTxEnd c).low = s.low := by simp [State.canTxEnd]
@[simp] theorem State.canFail_low (s : State) (c o : Nat) : (s.canFail c o).low = s.low := by simp [State.canFail]
@[simp] theorem State.canOffer_low (s : State) (c : Nat) (f : CanFrame) : (s.canOffer c f).low = s.low := by
  unfold State.canOffer
  dsimp only
  repeat' split
  all_goals simp
@[simp] theorem State.canRxGood_low (s : State) (c : Nat) : (s.canRxGood c).low = s.low := by simp [State.canRxGood]
@[simp] theorem State.canTxreq_low (s : State) (c o : Nat) : (s.canTxreq c o).low = s.low := by simp [State.canTxreq]
@[simp] theorem State.canAbort_low (s : State) (c o : Nat) : (s.canAbort c o).low = s.low := by
  unfold State.canAbort
  split <;> simp
@[simp] theorem State.canRecover_low (s : State) (c : Nat) : (s.canRecover c).low = s.low := by simp [State.canRecover]
@[simp] theorem State.canCorrAt_low (s : State) (c : Nat) (at_ : Stamp) (ref : Nat) : (s.canCorrAt c at_ ref).low = s.low := by simp [State.canCorrAt]
@[simp] theorem State.canCorrelate_low (s : State) (c : Nat) : (s.canCorrelate c).low = s.low := by simp [State.canCorrelate]
@[simp] theorem State.canTdcv_low (s : State) (c : Nat) (f : CanFrame) (v : Nat) : (s.canTdcv c f v).low = s.low := by simp [State.canTdcv]
@[simp] theorem State.canTrx_low (s : State) (c : Nat) : (s.canTrx c).low = s.low := by simp [State.canTrx]
@[simp] theorem keepsLow_canStart (c : Fin 16) (s : State) : KeepsLow s (exec (.canStart c) s) := by simp [exec_canStart, execCanStart]
@[simp] theorem keepsLow_canIntegrationDone (c : Fin 16) (s : State) : KeepsLow s (exec (.canIntegrationDone c) s) := by
  simp [exec_canIntegrationDone, execCanIntegrationDone]
@[simp] theorem State.canMirrorSeen_low (s : State) (c : Nat) (f : CanFrame) : (s.canMirrorSeen c f).low = s.low := by
  unfold State.canMirrorSeen
  repeat' split
  all_goals simp
@[simp] theorem keepsLow_canFrameValid (c : Fin 16) (fr : CanFrame) (age : Nat) (s0 : State) : KeepsLow s0 (exec (.canFrameValid c fr age) s0) := by
  simp [exec_canFrameValid, execCanFrameValid]
@[simp] theorem keepsLow_canTxreq (c : Fin 16) (o : Fin 128) (s : State) : KeepsLow s (exec (.canTxreq c o) s) := by
  simp [exec_canTxreq, execCanTxreq]
@[simp] theorem keepsLow_canArbitrationStart (c : Fin 16) (s : State) : KeepsLow s (exec (.canArbitrationStart c) s) := by
  rw [exec_canArbitrationStart]
  unfold execCanArbitrationStart
  split <;> simp
@[simp] theorem keepsLow_canTxSuccess (c : Fin 16) (tdcv : Fin 256) (s : State) : KeepsLow s (exec (.canTxSuccess c tdcv) s) := by
  rw [exec_canTxSuccess]
  unfold execCanTxSuccess
  split <;> simp
@[simp] theorem keepsLow_canTxError (c : Fin 16) (lec : Fin 7) (data count : Bool) (tdcv : Option (Fin 256)) (s : State) :
    KeepsLow s (exec (.canTxError c lec data count tdcv) s) := by
  rw [exec_canTxError]
  unfold execCanTxError
  split
  · simp
  · split <;> simp
@[simp] theorem keepsLow_canArbitrationLost (c : Fin 16) (s : State) : KeepsLow s (exec (.canArbitrationLost c) s) := by
  rw [exec_canArbitrationLost]
  unfold execCanArbitrationLost
  split <;> simp
@[simp] theorem keepsLow_canAbort (c : Fin 16) (o : Fin 128) (s : State) : KeepsLow s (exec (.canAbort c o) s) := by
  simp [exec_canAbort, execCanAbort]
@[simp] theorem keepsLow_canBusoffRecover (c : Fin 16) (s : State) : KeepsLow s (exec (.canBusoffRecover c) s) := by
  simp [exec_canBusoffRecover, execCanBusoffRecover]
@[simp] theorem keepsLow_canBusoffRecovered (c : Fin 16) (s : State) : KeepsLow s (exec (.canBusoffRecovered c) s) := by
  simp [exec_canBusoffRecovered, execCanBusoffRecovered]
@[simp] theorem keepsLow_canLomApply (c : Fin 16) (s : State) : KeepsLow s (exec (.canLomApply c) s) := by simp [exec_canLomApply, execCanLomApply]
@[simp] theorem keepsLow_canRxError (c : Fin 16) (lec : Fin 7) (data : Bool) (inc : Fin 9) (s : State) :
    KeepsLow s (exec (.canRxError c lec data inc) s) := by
  simp [exec_canRxError, execCanRxError]
@[simp] theorem keepsLow_canProtocolException (c : Fin 16) (s : State) : KeepsLow s (exec (.canProtocolException c) s) := by
  simp [exec_canProtocolException, execCanProtocolException]
@[simp] theorem keepsLow_canTxdTimeout (c : Fin 16) (s : State) : KeepsLow s (exec (.canTxdTimeout c) s) := by
  simp [exec_canTxdTimeout, execCanTxdTimeout]
@[simp] theorem keepsLow_canBusReleaseEnd (c : Fin 16) (s : State) : KeepsLow s (exec (.canBusReleaseEnd c) s) := by
  simp [exec_canBusReleaseEnd, execCanBusReleaseEnd]
@[simp] theorem keepsLow_canCorrelation (c : Fin 16) (take : Bool) (s : State) : KeepsLow s (exec (.canCorrelation c take) s) := by
  rw [exec_canCorrelation]
  unfold execCanCorrelation
  split
  · simp
  · split
    · simp
    · split
      · next h => simp [State.arrive_low h]
      · simp
@[simp] theorem keepsLow_busWakeDetect (b : Fin 24) (s : State) : KeepsLow s (exec (.busWakeDetect b) s) := by
  simp [exec_busWakeDetect, execBusWakeDetect]
@[simp] theorem keepsLow_transceiverOvertemp (b : Fin 24) (s : State) : KeepsLow s (exec (.transceiverOvertemp b) s) := by
  simp [exec_transceiverOvertemp, execTransceiverOvertemp]
@[simp] theorem keepsLow_transceiverOvertempEnd (b : Fin 24) (s : State) : KeepsLow s (exec (.transceiverOvertempEnd b) s) := by
  simp [exec_transceiverOvertempEnd, execTransceiverOvertempEnd]

/-! ### Gate lists (R255, R261) -/

@[simp] theorem State.gateChange_low (s : State) (p : Nat) : (s.gateChange p).low = s.low := by simp [State.gateChange]
@[simp] theorem State.gateApply_low (s : State) (p : Nat) : (s.gateApply p).low = s.low := by
  unfold State.gateApply
  split <;> simp
@[simp] theorem State.sgateChange_low (s : State) (g : Nat) : (s.sgateChange g).low = s.low := by simp [State.sgateChange]
@[simp] theorem State.sgateApply_low (s : State) (g : Nat) : (s.sgateApply g).low = s.low := by
  unfold State.sgateApply
  split <;> simp
@[simp] theorem State.gateStepPort_low (s : State) (p : Nat) : (s.gateStepPort p).low = s.low := by
  unfold State.gateStepPort
  dsimp only
  split <;> simp
@[simp] theorem State.gateStepStream_low (s : State) (g : Nat) : (s.gateStepStream g).low = s.low := by
  unfold State.gateStepStream
  split <;> simp
@[simp] theorem State.gateStep_low (s : State) : s.gateStep.low = s.low := by simp [State.gateStep]

end Sys2Proof.Machine
end

section
/-! PROOFS. Memory below the MSI-X pages, part 3: the switch, LIN and Carousel leave it. -/

namespace Sys2Proof.Machine

open Sys2Proof

/-! ### The Rhomboid switch (R229 to R276) -/

@[simp] theorem State.mirrored_low (s : State) (a v : Nat) : (s.mirrored a v).low = s.low := by simp [State.mirrored]
@[simp] theorem State.setEthQ_low (s : State) (p q : Nat) (l : List EthCopy) : (s.setEthQ p q l).low = s.low := by simp [State.setEthQ]
@[simp] theorem State.setFree_low (s : State) (v : Nat) : (s.setFree v).low = s.low := by simp [State.setFree]
@[simp] theorem State.copyGone_low (s : State) (c : EthCopy) : (s.copyGone c).low = s.low := by simp [State.copyGone]
@[simp] theorem State.flushPort_low (s : State) (p : Nat) : (s.flushPort p).low = s.low := by simp [State.flushPort]
@[simp] theorem State.ethSettle_low (s : State) (p : Nat) : (s.ethSettle p).low = s.low := by simp [State.ethSettle]
@[simp] theorem State.pinRefresh_low (s : State) (k : Nat) : (s.pinRefresh k).low = s.low := by simp [State.pinRefresh]
@[simp] theorem State.unmark_low (s : State) (k p : Nat) : (s.unmark k p).low = s.low := by simp [State.unmark]
@[simp] theorem State.pinFail_low (s : State) (k p : Nat) : (s.pinFail k p).low = s.low := by simp [State.pinFail]
@[simp] theorem State.pinPortLeaves_low (s : State) (p : Nat) : (s.pinPortLeaves p).low = s.low := by simp [State.pinPortLeaves]
@[simp] theorem State.pinPortUp_low (s : State) (p : Nat) : (s.pinPortUp p).low = s.low := by simp [State.pinPortUp]
@[simp] theorem State.pinRevert_low (s : State) (k : Nat) : (s.pinRevert k).low = s.low := by
  unfold State.pinRevert
  split <;> simp
@[simp] theorem State.sendEnd_low (s : State) (p : Nat) : (s.sendEnd p).low = s.low := by
  unfold State.sendEnd
  split <;> simp
@[simp] theorem State.ethEnds_low (s : State) : s.ethEnds.low = s.low := by simp [State.ethEnds]
@[simp] theorem State.linkDown_low (s : State) (p : Nat) (cause : optParam Nat 2) : (s.linkDown p cause).low = s.low := by simp [State.linkDown]
@[simp] theorem State.linkUp_low (s : State) (n speed : Nat) : (s.linkUp n speed).low = s.low := by simp [State.linkUp]
@[simp] theorem State.portOff_low (s : State) (p : Nat) : (s.portOff p).low = s.low := by simp [State.portOff]
@[simp] theorem State.putFields_low (s : State) (fs : List Fld) (v : Nat) : (s.putFields fs v).low = s.low := by simp [State.putFields]
@[simp] theorem State.fdbInval_low (s : State) (key : Nat) : (s.fdbInval key).low = s.low := by simp [State.fdbInval]
@[simp] theorem State.fdbUsed_low (s : State) (old new : Bool) : (s.fdbUsed old new).low = s.low := by simp [State.fdbUsed]
@[simp] theorem State.fdbMirror_low (s : State) (i key data : Nat) : (s.fdbMirror i key data).low = s.low := by simp [State.fdbMirror]
@[simp] theorem State.fdbPut_low (s : State) (i key data : Nat) : (s.fdbPut i key data).low = s.low := by simp [State.fdbPut]
@[simp] theorem State.fdbRemove_low (s : State) (i : Nat) : (s.fdbRemove i).low = s.low := by simp [State.fdbRemove]
@[simp] theorem State.fdbError_low (s : State) (c : Nat) : (s.fdbError c).low = s.low := by simp [State.fdbError]
@[simp] theorem State.fdbGo_low (s : State) (op : Nat) : (s.fdbGo op).low = s.low := by simp [State.fdbGo]
@[simp] theorem State.fdbRun_low (s : State) (c : FdbOp) : (s.fdbRun c).low = s.low := by
  unfold State.fdbRun
  repeat' split
  all_goals simp
@[simp] theorem State.fdbLookup_low (s : State) (key : Nat) : (s.fdbLookup key).1.low = s.low := by
  unfold State.fdbLookup
  dsimp only
  split <;> simp
@[simp] theorem State.ethLearn_low (s : State) (f : EthFrame) : (s.ethLearn f).low = s.low := by
  unfold State.ethLearn
  dsimp only
  repeat' split
  all_goals simp
@[simp] theorem State.meterColour_low (s : State) (m len c : Nat) : (s.meterColour m len c).1.low = s.low := by simp [State.meterColour]
@[simp] theorem State.frerTake_low (s : State) (r seq : Nat) : (s.frerTake r seq).1.low = s.low := by simp [State.frerTake]
@[simp] theorem State.sample_low (s : State) (p : Nat) (tx : Bool) (f : EthFrame) (fate mask queue len : Nat) (head : List Nat) :
    (s.sample p tx f fate mask queue len head).low = s.low := by
  simp [State.sample]
@[simp] theorem State.redPass_low (s : State) (p q c : Nat) : (s.redPass p q c).1.low = s.low := by simp [State.redPass]
@[simp] theorem State.admitOne_low (s : State) (f : EthFrame) (q p : Nat) : (s.admitOne f q p).1.low = s.low := by simp [State.admitOne]
@[simp] theorem State.admitAll_low (s : State) (f : EthFrame) (q : Nat) (l) : (s.admitAll f q l).1.low = s.low := by
  induction l generalizing s with
  | nil => rfl
  | cons x l ih => simp [State.admitAll, ih]
@[simp] theorem State.refuseCopy_low (s : State) (p q why : Nat) : (s.refuseCopy p q why).low = s.low := by
  unfold State.refuseCopy
  split <;> simp
@[simp] theorem State.enqueue_low (s : State) (id : Nat) (f : EthFrame) (q : Nat) (l : List (Nat × Option Nat × Bool × Nat)) :
    (s.enqueue id f q l).1.low = s.low := by
  simp [State.enqueue]
@[simp] theorem State.ethFinish_low (s : State) (id : Nat) (f0 : EthFrame) (q : Nat) (dests : List (Nat × Option Nat × Bool)) (first : Bool) :
    (s.ethFinish id f0 q dests first).low = s.low := by
  simp [State.ethFinish]
@[simp] theorem EthRun.s_ite (c : Prop) [Decidable c] (a b : EthRun) : (if c then a else b).s = if c then a.s else b.s := apply_ite _ _ _ _
@[simp] theorem EthRun.andThen_low (r : EthRun) (g : EthRun → EthRun) (h : ∀ r, (g r).s.low = r.s.low) : (r.andThen g).s.low = r.s.low := by
  simp [EthRun.andThen, h]
@[simp] theorem State.macRx_low (s : State) (p : Nat) (bs : List Nat) : (s.macRx p bs).1.low = s.low := by
  unfold State.macRx
  dsimp only
  repeat' split
  all_goals simp
@[simp] theorem EthRun.vlan_low (tci : Option Nat) (r : EthRun) : (r.vlan tci).s.low = r.s.low := by
  simp [EthRun.vlan]
@[simp] theorem EthRun.drop_low (r : EthRun) (i fate : Nat) : (r.drop i fate).s.low = r.s.low := by
  simp [EthRun.drop]
@[simp] theorem EthRun.filtSize_low (i : Nat) (r : EthRun) : (r.filtSize i).s.low = r.s.low := by
  simp [EthRun.filtSize]
@[simp] theorem EthRun.filtGate_low (i : Nat) (r : EthRun) : (r.filtGate i).s.low = r.s.low := by
  simp [EthRun.filtGate]
@[simp] theorem EthRun.filtMeter_low (i : Nat) (r : EthRun) : (r.filtMeter i).s.low = r.s.low := by
  simp [EthRun.filtMeter]
@[simp] theorem EthRun.stream_low (r : EthRun) : r.stream.s.low = r.s.low := by
  unfold EthRun.stream
  split <;> simp
@[simp] theorem EthRun.recover_low (r : EthRun) : r.recover.s.low = r.s.low := by
  unfold EthRun.recover
  split <;> simp
@[simp] theorem EthRun.generate_low (r : EthRun) : r.generate.s.low = r.s.low := by
  unfold EthRun.generate
  split <;> simp
@[simp] theorem State.ethDests_low (s : State) (f : EthFrame) : (s.ethDests f).1.low = s.low := by
  simp [State.ethDests]
@[simp] theorem State.ethRoute_low (s : State) (p : Nat) (at_ : Stamp) (bs : List Nat) : (s.ethRoute p at_ bs).low = s.low := by simp [State.ethRoute]
@[simp] theorem State.ethReceive_low (s : State) (p : Nat) (rx : EthRx) : (s.ethReceive p rx).low = s.low := by
  unfold State.ethReceive
  dsimp only
  repeat' split
  all_goals simp
@[simp] theorem State.macSend_low (s : State) (p a : Nat) : (s.macSend p a).low = s.low := by simp [State.macSend]
@[simp] theorem State.popQ_low (s : State) (p q : Nat) : (s.popQ p q).low = s.low := by simp [State.popQ]
@[simp] theorem State.ptpSend_low (s : State) (p : Nat) (m : PtpMsg) : (s.ptpSend p m).low = s.low := by simp [State.ptpSend]
@[simp] theorem State.ptpSent_low (s : State) (p : Nat) (m : PtpMsg) (t : Stamp) : (s.ptpSent p m t).low = s.low := by
  unfold State.ptpSent
  repeat' split
  all_goals simp
@[simp] theorem State.ethOut_low (s : State) (p : Nat) (f : EthFrame) (bs : List Nat) (t : Stamp) : (s.ethOut p f bs t).low = s.low := by
  unfold State.ethOut
  split
  · simp
  · split <;> simp
@[simp] theorem State.ethStart_low (s : State) (p q : Nat) (c : EthCopy) : (s.ethStart p q c).low = s.low := by
  unfold State.ethStart
  repeat' split
  all_goals simp
@[simp] theorem State.ethSend_low (ready : State → Nat → Bool) (n : Nat) (s : State) (p : Nat) : (State.ethSend ready n s p).low = s.low := by
  induction n generalizing s with
  | zero => rfl
  | succ n ih =>
    unfold State.ethSend
    repeat' split
    all_goals simp [ih]
@[simp] theorem keepsLow_portLinkDown (p : Fin 18) (s : State) : KeepsLow s (exec (.portLinkDown p) s) := by
  simp [exec_portLinkDown, execPortLinkDown]
@[simp] theorem keepsLow_portLinkUp (p : Fin 18) (speed sqi : Nat) (s : State) : KeepsLow s (exec (.portLinkUp p speed sqi) s) := by
  simp [exec_portLinkUp, execPortLinkUp]
@[simp] theorem keepsLow_portHoldExpiry (p : Fin 18) (s : State) : KeepsLow s (exec (.portHoldExpiry p) s) := by
  simp [exec_portHoldExpiry, execPortHoldExpiry]
@[simp] theorem keepsLow_portDisable (p : Fin 22) (s : State) : KeepsLow s (exec (.portDisable p) s) := by simp [exec_portDisable, execPortDisable]
@[simp] theorem keepsLow_plcaBeaconTimeout (p : Fin 4) (s : State) : KeepsLow s (exec (.plcaBeaconTimeout p) s) := by
  simp [exec_plcaBeaconTimeout, execPlcaBeaconTimeout]
@[simp] theorem keepsLow_plcaBeacon (p : Fin 4) (s : State) : KeepsLow s (exec (.plcaBeacon p) s) := by simp [exec_plcaBeacon, execPlcaBeacon]
@[simp] theorem keepsLow_gateEntryAdvance (p : Fin 18) (s : State) : KeepsLow s (exec (.gateEntryAdvance p) s) := by
  simp [exec_gateEntryAdvance, execGateEntryAdvance]
@[simp] theorem keepsLow_gclChangeWrite (p : Fin 18) (s : State) : KeepsLow s (exec (.gclChangeWrite p) s) := by
  simp [exec_gclChangeWrite, execGclChangeWrite]
@[simp] theorem keepsLow_gateListChange (p : Fin 18) (s : State) : KeepsLow s (exec (.gateListChange p) s) := by
  simp [exec_gateListChange, execGateListChange]
@[simp] theorem keepsLow_streamGateChangeWrite (g : Fin 64) (s : State) : KeepsLow s (exec (.streamGateChangeWrite g) s) := by
  simp [exec_streamGateChangeWrite, execStreamGateChangeWrite]
@[simp] theorem keepsLow_streamGateListChange (g : Fin 64) (s : State) : KeepsLow s (exec (.streamGateListChange g) s) := by
  simp [exec_streamGateListChange, execStreamGateListChange]
@[simp] theorem keepsLow_streamGateEntryAdvance (_g : Fin 64) (s : State) : KeepsLow s (exec (.streamGateEntryAdvance _g) s) := by
  simp [exec_streamGateEntryAdvance, execStreamGateEntryAdvance]
@[simp] theorem keepsLow_fdbRead (s : State) : KeepsLow s (exec .fdbRead s) := by simp [exec_fdbRead, execFdbRead]
@[simp] theorem keepsLow_fdbWrite (s : State) : KeepsLow s (exec .fdbWrite s) := by simp [exec_fdbWrite, execFdbWrite]
@[simp] theorem keepsLow_fdbDelete (s : State) : KeepsLow s (exec .fdbDelete s) := by simp [exec_fdbDelete, execFdbDelete]
@[simp] theorem keepsLow_fdbFlush (s : State) : KeepsLow s (exec .fdbFlush s) := by simp [exec_fdbFlush, execFdbFlush]
@[simp] theorem keepsLow_fdbInvcache (s : State) : KeepsLow s (exec .fdbInvcache s) := by simp [exec_fdbInvcache, execFdbInvcache]
@[simp] theorem keepsLow_fdbFence (s : State) : KeepsLow s (exec .fdbFence s) := by simp [exec_fdbFence, execFdbFence]
@[simp] theorem keepsLow_fdbCommandComplete (s : State) : KeepsLow s (exec .fdbCommandComplete s) := by
  rw [exec_fdbCommandComplete]
  unfold execFdbCommandComplete
  split <;> simp
@[simp] theorem State.fdbWindow_low (s : State) (i w v : Nat) : (s.fdbWindow i w v).low = s.low := by simp [State.fdbWindow]
@[simp] theorem keepsLow_fdbWindowWrite (i : Fin 16384) (w : Fin 3) (v : Nat) (s : State) : KeepsLow s (exec (.fdbWindowWrite i w v) s) := by
  simp [exec_fdbWindowWrite, execFdbWindowWrite]
@[simp] theorem keepsLow_fdbCacheExpiry (key : Nat) (s : State) : KeepsLow s (exec (.fdbCacheExpiry key) s) := by
  simp [exec_fdbCacheExpiry, execFdbCacheExpiry]
@[simp] theorem keepsLow_fdbAgeSweep (s : State) : KeepsLow s (exec .fdbAgeSweep s) := by simp [exec_fdbAgeSweep, execFdbAgeSweep]
@[simp] theorem keepsLow_pinRevert (k : Fin 4) (s : State) : KeepsLow s (exec (.pinRevert k) s) := by simp [exec_pinRevert, execPinRevert]
@[simp] theorem keepsLow_pinRevertComplete (k : Fin 4) (s : State) : KeepsLow s (exec (.pinRevertComplete k) s) := by
  simp [exec_pinRevertComplete, execPinRevertComplete]
@[simp] theorem keepsLow_frerRecoveryReset (r : Fin 512) (s : State) : KeepsLow s (exec (.frerRecoveryReset r) s) := by
  simp [exec_frerRecoveryReset, execFrerRecoveryReset]

/-! ### LIN (R303 to R312) -/

@[simp] theorem State.linFrame_low (s : State) (l : Nat) (f : Option LinFrame) : (s.linFrame l f).low = s.low := by simp [State.linFrame]
@[simp] theorem State.linRest_low (s : State) (l : Nat) : (s.linRest l).low = s.low := by simp [State.linRest]
@[simp] theorem State.linOut_low (s : State) (l id : Nat) : (s.linOut l id).low = s.low := by simp [State.linOut]
@[simp] theorem State.linSleep_low (s : State) (l : Nat) : (s.linSleep l).low = s.low := by simp [State.linSleep]
@[simp] theorem State.linEnd_low (s : State) (l : Nat) : (s.linEnd l).low = s.low := by simp [State.linEnd]
@[simp] theorem State.linAfterHeader_low (s : State) (l id : Nat) : (s.linAfterHeader l id).low = s.low := by simp [State.linAfterHeader]
@[simp] theorem State.linError_low (s : State) (l id code : Nat) : (s.linError l id code).low = s.low := by simp [State.linError]
@[simp] theorem State.linStop_low (s : State) (l : Nat) : (s.linStop l).low = s.low := by simp [State.linStop]
@[simp] theorem State.linHeader_low (s : State) (l id : Nat) : (s.linHeader l id).low = s.low := by simp [State.linHeader]
@[simp] theorem keepsLow_linSlotStart (l : Fin 8) (s : State) : KeepsLow s (exec (.linSlotStart l) s) := by simp [exec_linSlotStart, execLinSlotStart]
@[simp] theorem keepsLow_linHeaderReceive (l : Fin 8) (id : Fin 64) (div : Nat) (s : State) : KeepsLow s (exec (.linHeaderReceive l id div) s) := by
  simp [exec_linHeaderReceive, execLinHeaderReceive]
@[simp] theorem State.linKeep_low (s : State) (l id : Nat) (bytes : List Nat) : (s.linKeep l id bytes).low = s.low := by simp [State.linKeep]
@[simp] theorem keepsLow_linResponseComplete (l : Fin 8) (bytes : List Nat) (cks err : Nat) (s : State) :
    KeepsLow s (exec (.linResponseComplete l bytes cks err) s) := by
  rw [exec_linResponseComplete]
  unfold execLinResponseComplete
  repeat' split
  all_goals simp
@[simp] theorem keepsLow_linResponseTimeout (l : Fin 8) (got : Nat) (s : State) : KeepsLow s (exec (.linResponseTimeout l got) s) := by
  rw [exec_linResponseTimeout]
  unfold execLinResponseTimeout
  split <;> simp
@[simp] theorem State.linWake_low (s : State) (l : Nat) : (s.linWake l).low = s.low := by simp [State.linWake]
@[simp] theorem keepsLow_linWakePulse (l : Fin 8) (s : State) : KeepsLow s (exec (.linWakePulse l) s) := by simp [exec_linWakePulse, execLinWakePulse]
@[simp] theorem keepsLow_linTxdTimeout (l : Fin 8) (s : State) : KeepsLow s (exec (.linTxdTimeout l) s) := by
  simp [exec_linTxdTimeout, execLinTxdTimeout]

/-! ### Carousel (R313 to R339) -/

@[simp] theorem State.ringUpd_low (s : State) (bb : Bool) (g : Ring → Ring) : (s.ringUpd bb g).low = s.low := by simp [State.ringUpd]
@[simp] theorem State.setPres_low (s : State) (bb : Bool) (m : Nat) : (s.setPres bb m).low = s.low := by simp [State.setPres]
@[simp] theorem State.keepEnd_low (s : State) (i t : Nat) : (s.keepEnd i t).low = s.low := by simp [State.keepEnd]
@[simp] theorem State.bbKeep_low (s : State) (r : Nat) (consent : Bool) (kw wh : Nat) : (s.bbKeep r consent kw wh).low = s.low := by
  simp [State.bbKeep]
@[simp] theorem State.setRun_low (s : State) (bb : Bool) (n : Nat) : (s.setRun bb n).low = s.low := by simp [State.setRun]
@[simp] theorem State.bbSolo_low (s : State) : s.bbSolo.low = s.low := by simp [State.bbSolo]
@[simp] theorem State.ringCheck_low (s : State) (bb : Bool) : (s.ringCheck bb).low = s.low := by simp [State.ringCheck]
@[simp] theorem State.endRound_low (s : State) (bb : Bool) : (s.endRound bb).low = s.low := by simp [State.endRound]
@[simp] theorem State.ringRemove_low (s : State) (bb : Bool) (k : Nat) : (s.ringRemove bb k).low = s.low := by simp [State.ringRemove]
@[simp] theorem State.powerDownBegin_low (s : State) : s.powerDownBegin.low = s.low := by simp [State.powerDownBegin]
@[simp] theorem State.transceiversOff_low (s : State) : s.transceiversOff.low = s.low := by simp [State.transceiversOff]
@[simp] theorem keepsLow_carouselSlotTimeout (bb : Bool) (s : State) : KeepsLow s (exec (.carouselSlotTimeout bb) s) := by
  simp [exec_carouselSlotTimeout, execCarouselSlotTimeout]
@[simp] theorem keepsLow_keeperLimit (i : Fin 64) (s : State) : KeepsLow s (exec (.keeperLimit i) s) := by simp [exec_keeperLimit, execKeeperLimit]
@[simp] theorem keepsLow_prepareExpiry (s : State) : KeepsLow s (exec .prepareExpiry s) := by simp [exec_prepareExpiry, execPrepareExpiry]
@[simp] theorem keepsLow_sleepTransceiversOff (s : State) : KeepsLow s (exec .sleepTransceiversOff s) := by
  simp [exec_sleepTransceiversOff, execSleepTransceiversOff]
@[simp] theorem State.falseWake_low (s : State) (b : Nat) : (s.falseWake b).low = s.low := by simp [State.falseWake]
@[simp] theorem keepsLow_wakeWindowExpiry (s : State) : KeepsLow s (exec .wakeWindowExpiry s) := by simp [exec_wakeWindowExpiry, execWakeWindowExpiry]

end Sys2Proof.Machine
end

section
/-! PROOFS. Memory below the MSI-X pages, part 4: the mailbox, the cores and their pairs leave it. -/

namespace Sys2Proof.Machine

open Sys2Proof

/-! ### The mailbox (R500 to R508) -/

@[simp] theorem State.mbxClaim_low (s : State) (m : Nat) (r : Req) (vi : Option Nat) : (s.mbxClaim m r vi).low = s.low := by simp [State.mbxClaim]
@[simp] theorem State.mbxClear_low (s : State) (m : Nat) : (s.mbxClear m).low = s.low := by simp [State.mbxClear]
@[simp] theorem State.mbxQueue_low (s : State) (l : List Nat) : (s.mbxQueue l).low = s.low := by simp [State.mbxQueue]
@[simp] theorem State.mbxGo_low (s : State) (m : Nat) (r : Req) (op : Nat) : (s.mbxGo m r op).low = s.low := by simp [State.mbxGo]
@[simp] theorem State.mbxFree_low (s : State) (m : Nat) : (s.mbxFree m).low = s.low := by simp [State.mbxFree]
@[simp] theorem State.mbxLeave_low (s : State) (m : Nat) : (s.mbxLeave m).low = s.low := by simp [State.mbxLeave]
@[simp] theorem State.mbxRelease_low (s : State) (m : Nat) (r : Req) : (s.mbxRelease m r).low = s.low := by simp [State.mbxRelease]
@[simp] theorem State.mbxReclaim_low (s : State) (m why : Nat) : (s.mbxReclaim m why).low = s.low := by simp [State.mbxReclaim]
@[simp] theorem State.mbxGenGone_low (s : State) (i : Nat) : (s.mbxGenGone i).low = s.low := by simp [State.mbxGenGone]
@[simp] theorem keepsLow_mbxClaim (m : Fin 8) (r : Req) (s : State) : KeepsLow s (exec (.mbxClaim m r) s) := by simp [exec_mbxClaim, execMbxClaim]
@[simp] theorem keepsLow_mbxGo (m : Fin 8) (r : Req) (op : Fin 256) (s : State) : KeepsLow s (exec (.mbxGo m r op) s) := by
  simp [exec_mbxGo, execMbxGo]
@[simp] theorem keepsLow_mbxRelease (m : Fin 8) (r : Req) (s : State) : KeepsLow s (exec (.mbxRelease m r) s) := by
  simp [exec_mbxRelease, execMbxRelease]
@[simp] theorem keepsLow_mbxReclaimTimeout (m : Fin 8) (s : State) : KeepsLow s (exec (.mbxReclaimTimeout m) s) := by
  simp [exec_mbxReclaimTimeout, execMbxReclaimTimeout]
theorem State.takeUp_low {s t : State} {m op : Nat} (h : s.takeUp m op = some t) : t.low = s.low := by
  unfold State.takeUp at h
  split at h <;> cases h
  simp
@[simp] theorem CmdRes.s_ite (c : Prop) [Decidable c] (a b : CmdRes) : (if c then a else b).s = if c then a.s else b.s := apply_ite _ _ _ _
@[simp] theorem CmdRes.fail_low (s : State) (e : Nat) : (CmdRes.fail s e).s.low = s.low := rfl
@[simp] theorem State.keepsLow_command (s : State) (m op lcMask : Nat) (inner recov : Bool) (body : State → CmdRes) (h : ∀ t, (body t).s.low = t.low) :
    KeepsLow s (s.command m op lcMask inner recov body) := by
  unfold State.command
  split
  · simp
  · next h1 => simp [h, State.takeUp_low h1]

/-! ### Cores (R371 to R403) -/

@[simp] theorem State.coreSet_low (s : State) (c : Nat) (g : Core → Core) : (s.coreSet c g).low = s.low := by simp [State.coreSet]
@[simp] theorem State.pairSet_low (s : State) (n : Nat) (g : Pair → Pair) : (s.pairSet n g).low = s.low := by simp [State.pairSet]
@[simp] theorem State.wstat_low (s : State) (c : Nat) : (s.wstat c).low = s.low := by simp [State.wstat]
@[simp] theorem State.takeTrap_low (s : State) (c : Nat) (t : Trap) : (s.takeTrap c t).low = s.low := by simp [State.takeTrap]
@[simp] theorem State.csrWrite_low (s : State) (c n v : Nat) : (s.csrWrite c n v).low = s.low := by
  unfold State.csrWrite
  split <;> simp
@[simp] theorem State.berr_low (s : State) (c : Nat) (inner : Bool) (addr : Nat) : (s.berr c inner addr).low = s.low := by simp [State.berr]
@[simp] theorem State.coreReset_low (s : State) (c : Nat) : (s.coreReset c).low = s.low := by simp [State.coreReset]

/-! ### Pairs (R405 to R431) -/

@[simp] theorem State.jocc_low (s : State) (n : Nat) : (s.jocc n).low = s.low := by simp [State.jocc]
@[simp] theorem State.ckBegin_low (s : State) (n : Nat) : (s.ckBegin n).low = s.low := by simp [State.ckBegin]
@[simp] theorem State.jrnAdd_low (s : State) (n : Nat) (e : JEntry) : (s.jrnAdd n e).low = s.low := by simp [State.jrnAdd]
@[simp] theorem State.csrsLoad_low (s : State) (c : Nat) (l : List (Nat × Nat)) : (s.csrsLoad c l).low = s.low := by simp [State.csrsLoad]
@[simp] theorem State.imageLoad_low (s : State) (c : Nat) (i : CkImage) : (s.imageLoad c i).low = s.low := by simp [State.imageLoad]
@[simp] theorem State.ckCommit_low (s : State) (n : Nat) : (s.ckCommit n).low = s.low := by
  unfold State.ckCommit
  split <;> simp
@[simp] theorem State.pairHold_low (s : State) (n : Nat) : (s.pairHold n).low = s.low := by simp [State.pairHold]
@[simp] theorem State.escalate_low (s : State) (n cause : Nat) : (s.escalate n cause).low = s.low := by simp [State.escalate]
@[simp] theorem State.mismatch_low (s : State) (n code : Nat) : (s.mismatch n code).low = s.low := by simp [State.mismatch]
@[simp] theorem State.restoreDone_low (s : State) (n : Nat) (crcOk : Bool) : (s.restoreDone n crcOk).low = s.low := by
  unfold State.restoreDone
  split
  · simp
  · split <;> simp
@[simp] theorem State.dbgWrite_low (s : State) (c reg v : Nat) : (s.dbgWrite c reg v).low = s.low := by simp [State.dbgWrite]
@[simp] theorem State.dbgCatch_low (m : Nat) (s : State) (c : Nat) : (State.dbgCatch m s c).low = s.low := by
  induction m generalizing s with
  | zero => rfl
  | succ m ih =>
    unfold State.dbgCatch
    dsimp only
    split
    · rfl
    · split
      · rfl
      · split <;> simp [ih]
@[simp] theorem State.haltCheck_low (s : State) (n : Nat) : (s.haltCheck n).low = s.low := by simp [State.haltCheck]
@[simp] theorem State.dbgAdd_low (s : State) (n : Nat) (a : DbgAct) : (s.dbgAdd n a).low = s.low := by simp [State.dbgAdd]
@[simp] theorem State.haltPair_low (s : State) (n : Nat) : (s.haltPair n).low = s.low := by simp [State.haltPair]
@[simp] theorem State.replayEnd_low (s : State) (n : Nat) (hashOk : Bool) : (s.replayEnd n hashOk).low = s.low := by simp [State.replayEnd]
@[simp] theorem State.checkpoint_low (s : State) (n : Nat) (sigOk : Bool) : (s.checkpoint n sigOk).low = s.low := by
  unfold State.checkpoint
  dsimp only
  split <;> simp
@[simp] theorem State.soloBegin_low (s : State) (c : Nat) : (s.soloBegin c).low = s.low := by simp [State.soloBegin]
@[simp] theorem State.soloEnd_low (s : State) (c : Nat) : (s.soloEnd c).low = s.low := by
  unfold State.soloEnd
  dsimp only
  split <;> simp
@[simp] theorem State.dbgDo_low (s : State) (c : Nat) (a : DbgAct) (g : State → Nat → State) (hg : ∀ t l, (g t l).low = t.low) :
    (s.dbgDo c a g).low = s.low := by
  unfold State.dbgDo
  repeat' split
  all_goals simp [hg]
@[simp] theorem keepsLow_debugHalt (c : Fin 8) (s : State) : KeepsLow s (exec (.debugHalt c) s) := by simp [exec_debugHalt, execDebugHalt]
@[simp] theorem keepsLow_debugResume (c : Fin 8) (s : State) : KeepsLow s (exec (.debugResume c) s) := by simp [exec_debugResume, execDebugResume]
@[simp] theorem keepsLow_debugStep (c : Fin 8) (s : State) : KeepsLow s (exec (.debugStep c) s) := by
  rw [exec_debugStep]
  unfold execDebugStep
  dsimp only
  split
  · simp
  · rw [keepsLow_ite, keepsLow_done, keepsLow_done, State.dbgDo_low]
    · simp
    · intro t l
      split
      · split <;> simp
      · simp
@[simp] theorem keepsLow_debugAbstractWrite (c : Fin 8) (reg value : Nat) (s : State) : KeepsLow s (exec (.debugAbstractWrite c reg value) s) := by
  rw [exec_debugAbstractWrite]
  unfold execDebugAbstractWrite
  split <;> simp
@[simp] theorem keepsLow_pairLagTimeout (n : Fin 4) (s : State) : KeepsLow s (exec (.pairLagTimeout n) s) := by
  simp [exec_pairLagTimeout, execPairLagTimeout]
@[simp] theorem keepsLow_checkpoint (n : Fin 4) (sigOk : Bool) (s : State) : KeepsLow s (exec (.checkpoint n sigOk) s) := by
  simp [exec_checkpoint, execCheckpoint]
@[simp] theorem keepsLow_checkpointCommit (n : Fin 4) (s : State) : KeepsLow s (exec (.checkpointCommit n) s) := by
  simp [exec_checkpointCommit, execCheckpointCommit]
@[simp] theorem keepsLow_pairRestoreDone (n : Fin 4) (crcOk : Bool) (s : State) : KeepsLow s (exec (.pairRestoreDone n crcOk) s) := by
  simp [exec_pairRestoreDone, execPairRestoreDone]
@[simp] theorem keepsLow_pairReplayEnd (n : Fin 4) (hashOk : Bool) (s : State) : KeepsLow s (exec (.pairReplayEnd n hashOk) s) := by
  simp [exec_pairReplayEnd, execPairReplayEnd]

end Sys2Proof.Machine
end

section
/-! PROOFS. Memory below the MSI-X pages, part 5: PWM pairs, engines, start-up and the time base leave it. -/

namespace Sys2Proof.Machine

open Sys2Proof

/-! ### PWM pairs (R111 to R125) -/

@[simp] theorem State.pwmUpd_low (s : State) (j : Nat) (f : PwmSt → PwmSt) : (s.pwmUpd j f).low = s.low := by simp [State.pwmUpd]
@[simp] theorem State.pwmFree_low (s : State) (j : Nat) (o : Bool) : (s.pwmFree j o).low = s.low := by simp [State.pwmFree]
@[simp] theorem State.blankOpen_low (s : State) (j : Nat) (o : Bool) : (s.blankOpen j o).low = s.low := by simp [State.blankOpen]
@[simp] theorem State.pwmBall_low (s : State) (j : Nat) (o : Bool) (old v : Nat) : (s.pwmBall j o old v).low = s.low := by simp [State.pwmBall]
@[simp] theorem State.pwmDrive_low (s0 : State) (j : Nat) : (s0.pwmDrive j).low = s0.low := by simp [State.pwmDrive]
@[simp] theorem State.pwmClash_low (s : State) (j : Nat) (o : Bool) : (s.pwmClash j o).low = s.low := by simp [State.pwmClash]
@[simp] theorem State.pwmClashes_low (s : State) (j : Nat) : (s.pwmClashes j).low = s.low := by simp [State.pwmClashes]
@[simp] theorem State.pwmTrip_low (s : State) (j c : Nat) : (s.pwmTrip j c).low = s.low := by simp [State.pwmTrip]
@[simp] theorem State.tripAll_low (s : State) (c : Nat) : (s.tripAll c).low = s.low := by simp [State.tripAll]
@[simp] theorem State.pwmRescan_low (s : State) (j : Nat) : (s.pwmRescan j).low = s.low := by
  unfold State.pwmRescan
  split <;> simp
@[simp] theorem State.pwmTripEnd_low (s : State) (j : Nat) : (s.pwmTripEnd j).low = s.low := by simp [State.pwmTripEnd]
@[simp] theorem keepsLow_pwmSwtrip (j : Fin 24) (s : State) : KeepsLow s (exec (.pwmSwtrip j) s) := by simp [exec_pwmSwtrip, execPwmSwtrip]
@[simp] theorem State.pwmGtrip_low (s : State) : s.pwmGtrip.low = s.low := by simp [State.pwmGtrip]
@[simp] theorem keepsLow_pwmGtrip (s : State) : KeepsLow s (exec .pwmGtrip s) := by simp [exec_pwmGtrip, execPwmGtrip]
@[simp] theorem State.pwmTripclr_low (s : State) (j : Nat) : (s.pwmTripclr j).low = s.low := by simp [State.pwmTripclr]
@[simp] theorem keepsLow_pwmTripclr (j : Fin 24) (s : State) : KeepsLow s (exec (.pwmTripclr j) s) := by simp [exec_pwmTripclr, execPwmTripclr]
@[simp] theorem keepsLow_externalTripBallChange (i : Fin 4) (level : Bool) (s : State) : KeepsLow s (exec (.externalTripBallChange i level) s) := by
  simp [exec_externalTripBallChange, execExternalTripBallChange]
@[simp] theorem keepsLow_refMonitorCompare (dev : Int) (s : State) : KeepsLow s (exec (.refMonitorCompare dev) s) := by
  simp [exec_refMonitorCompare, execRefMonitorCompare]
@[simp] theorem keepsLow_refMismatchClear (s : State) : KeepsLow s (exec .refMismatchClear s) := by simp [exec_refMismatchClear, execRefMismatchClear]
@[simp] theorem State.cmpUpd_low (s : State) (k : Nat) (f : CmpSt → CmpSt) : (s.cmpUpd k f).low = s.low := by simp [State.cmpUpd]
@[simp] theorem State.cmpOut_low (s : State) (k : Nat) (v : Bool) : (s.cmpOut k v).low = s.low := by simp [State.cmpOut]
@[simp] theorem State.cmpLine_low (s : State) (k : Nat) : (s.cmpLine k).low = s.low := by simp [State.cmpLine]
@[simp] theorem keepsLow_comparatorTrip (k : Fin 24) (v : Nat) (s : State) : KeepsLow s (exec (.comparatorTrip k v) s) := by
  simp [exec_comparatorTrip, execComparatorTrip]
@[simp] theorem keepsLow_comparatorRelease (k : Fin 24) (v : Nat) (s : State) : KeepsLow s (exec (.comparatorRelease k v) s) := by
  simp [exec_comparatorRelease, execComparatorRelease]
@[simp] theorem keepsLow_blankingEnd (k : Fin 24) (s : State) : KeepsLow s (exec (.blankingEnd k) s) := by simp [exec_blankingEnd, execBlankingEnd]
@[simp] theorem State.pwmRise_low (s : State) (j : Nat) (o : Bool) : (s.pwmRise j o).low = s.low := by simp [State.pwmRise]
@[simp] theorem State.pwmFall_low (s : State) (j : Nat) (o : Bool) : (s.pwmFall j o).low = s.low := by simp [State.pwmFall]
@[simp] theorem State.pwmTakeEdge_low (s : State) (j : Nat) (o rise : Bool) : (s.pwmTakeEdge j o rise).low = s.low := by simp [State.pwmTakeEdge]
@[simp] theorem State.pwmDeadEnd_low (s : State) (j : Nat) (o : Bool) : (s.pwmDeadEnd j o).low = s.low := by simp [State.pwmDeadEnd]
@[simp] theorem keepsLow_pwmEdge (j : Fin 24) (outB rise dead : Bool) (s : State) : KeepsLow s (exec (.pwmEdge j outB rise dead) s) := by
  rw [exec_pwmEdge]
  unfold execPwmEdge
  split
  · simp
  · split <;> simp
@[simp] theorem State.pwmCommit_low (s : State) (j : Nat) : (s.pwmCommit j).low = s.low := by simp [State.pwmCommit]
@[simp] theorem keepsLow_pwmCommit (j : Fin 24) (s : State) : KeepsLow s (exec (.pwmCommit j) s) := by simp [exec_pwmCommit, execPwmCommit]
@[simp] theorem State.pwmLoad_low (s : State) (j : Nat) : (s.pwmLoad j).low = s.low := by
  unfold State.pwmLoad
  split <;> simp
@[simp] theorem State.pwmLoadAt_low (s : State) (j : Nat) (mid settled : Bool) : (s.pwmLoadAt j mid settled).low = s.low := by simp [State.pwmLoadAt]
@[simp] theorem State.pwmLateEdges_low (s : State) (j c : Nat) : (s.pwmLateEdges j c).low = s.low := by simp [State.pwmLateEdges]
@[simp] theorem State.pwmReload_low (c j : Nat) (s : State) (o : Bool) : (State.pwmReload c j s o).low = s.low := by simp [State.pwmReload]
@[simp] theorem State.pwmStart_low (s : State) (j c : Nat) : (s.pwmStart j c).low = s.low := by simp [State.pwmStart]
@[simp] theorem State.pwmReplan_low (s : State) (j c : Nat) : (s.pwmReplan j c).low = s.low := by simp [State.pwmReplan]
@[simp] theorem State.pwmSyncErr_low (s : State) (j : Nat) : (s.pwmSyncErr j).low = s.low := by simp [State.pwmSyncErr]
@[simp] theorem keepsLow_pwmPeriodStart (j : Fin 24) (settled : Bool) (s : State) : KeepsLow s (exec (.pwmPeriodStart j settled) s) := by
  simp [exec_pwmPeriodStart, execPwmPeriodStart]
@[simp] theorem keepsLow_pwmMidPeriod (j : Fin 24) (settled : Bool) (s : State) : KeepsLow s (exec (.pwmMidPeriod j settled) s) := by
  simp [exec_pwmMidPeriod, execPwmMidPeriod]
@[simp] theorem keepsLow_pwmSetLoad (j : Fin 24) (c : Nat) (s : State) : KeepsLow s (exec (.pwmSetLoad j c) s) := by
  simp [exec_pwmSetLoad, execPwmSetLoad]
@[simp] theorem keepsLow_pwmSync (j : Fin 24) (c : Nat) (settled : Bool) (s : State) : KeepsLow s (exec (.pwmSync j c settled) s) := by
  rw [exec_pwmSync]
  unfold execPwmSync
  split
  · simp
  · next h => simp [State.arrive_low h]
@[simp] theorem State.pwmEnable_low (s : State) (j : Nat) (was settled : Bool) : (s.pwmEnable j was settled).low = s.low := by simp [State.pwmEnable]
@[simp] theorem State.pwmEnabled_low (s : State) (j : Nat) (was settled : Bool) : (s.pwmEnabled j was settled).low = s.low := by
  simp [State.pwmEnabled]
@[simp] theorem keepsLow_pwmEnableWrite (j : Fin 24) (en settled : Bool) (s : State) : KeepsLow s (exec (.pwmEnableWrite j en settled) s) := by
  simp [exec_pwmEnableWrite, execPwmEnableWrite]
@[simp] theorem keepsLow_pwmForceWrite (j : Fin 24) (forceA forceB : Fin 4) (s : State) : KeepsLow s (exec (.pwmForceWrite j forceA forceB) s) := by
  simp [exec_pwmForceWrite, execPwmForceWrite]
@[simp] theorem State.sdfUpd_low (s : State) (m : Nat) (f : SdfSt → SdfSt) : (s.sdfUpd m f).low = s.low := by simp [State.sdfUpd]

/-! ### Slices (R568) -/

@[simp] theorem State.sliceOver_low (s : State) (u st : Nat) : (s.sliceOver u st).low = s.low := by simp [State.sliceOver]
@[simp] theorem State.sliceAbort_low (s : State) (u : Nat) : (s.sliceAbort u).low = s.low := by simp [State.sliceAbort]
@[simp] theorem State.tgSlicesAbort_low (s : State) (e : Nat) : (s.tgSlicesAbort e).low = s.low := by simp [State.tgSlicesAbort]

/-! ### Iterations, pairs and moves of the engines (R138 to R180) -/

@[simp] theorem State.tgPendBit_low (s : State) (e : Nat) : (s.tgPendBit e).low = s.low := by simp [State.tgPendBit]
@[simp] theorem State.tgOccur_low (s : State) (e sl stampNs : Nat) : (s.tgOccur e sl stampNs).low = s.low := by simp [State.tgOccur]
@[simp] theorem State.tgCount_low (s : State) (e sl stampNs : Nat) : (s.tgCount e sl stampNs).low = s.low := by simp [State.tgCount]
@[simp] theorem keepsLow_tgOccurrence (e : Fin 12) (sl : Fin 8) (s : State) : KeepsLow s (exec (.tgOccurrence e sl) s) := by
  rw [exec_tgOccurrence]
  unfold execTgOccurrence
  split
  · next h => simp [State.arrive_low h]
  · simp
@[simp] theorem State.tgSwdisp_low (s : State) (e sl : Nat) : (s.tgSwdisp e sl).low = s.low := by simp [State.tgSwdisp]
@[simp] theorem keepsLow_tgSwdisp (e : Fin 12) (sl : Fin 8) (s : State) : KeepsLow s (exec (.tgSwdisp e sl) s) := by
  simp [exec_tgSwdisp, execTgSwdisp]
@[simp] theorem State.laneAlive_low (s : State) : s.laneAlive.low = s.low := by simp [State.laneAlive]
@[simp] theorem State.tgPairWrite_low (s : State) (e : Nat) (pair : Bool) : (s.tgPairWrite e pair).low = s.low := by simp [State.tgPairWrite]
@[simp] theorem keepsLow_tgPairWrite (e : Fin 12) (pair : Bool) (s : State) : KeepsLow s (exec (.tgPairWrite e pair) s) := by
  simp [exec_tgPairWrite, execTgPairWrite]
@[simp] theorem State.tgMoveGo_low (s : State) (e d : Nat) : (s.tgMoveGo e d).low = s.low := by
  unfold State.tgMoveGo
  split
  · simp
  · split <;> simp
@[simp] theorem keepsLow_tgMoveGo (e : Fin 12) (dest : Fin 16) (s : State) : KeepsLow s (exec (.tgMoveGo e dest) s) := by
  simp [exec_tgMoveGo, execTgMoveGo]
@[simp] theorem keepsLow_tgMoveFreeze (e : Fin 12) (s : State) : KeepsLow s (exec (.tgMoveFreeze e) s) := by
  simp [exec_tgMoveFreeze, execTgMoveFreeze]
@[simp] theorem State.tgFwdClear_low (s : State) (e : Nat) : (s.tgFwdClear e).low = s.low := by simp [State.tgFwdClear]
@[simp] theorem keepsLow_tgMoveFwdClear (e : Fin 12) (s : State) : KeepsLow s (exec (.tgMoveFwdClear e) s) := by
  simp [exec_tgMoveFwdClear, execTgMoveFwdClear]

/-! ### Start-up (R518 to R529) -/

@[simp] theorem State.measExtend_low (s : State) (k : Nat) (d : List Nat) : (s.measExtend k d).low = s.low := by simp [State.measExtend]
@[simp] theorem State.vcoreFollow_low (s : State) : s.vcoreFollow.low = s.low := by simp [State.vcoreFollow]
@[simp] theorem State.enterLate_low (s : State) (src word : Nat) (at_ : Stamp) : (s.enterLate src word at_).low = s.low := by simp [State.enterLate]
@[simp] theorem State.bootReport_low (s : State) : s.bootReport.low = s.low := by simp [State.bootReport]
@[simp] theorem State.showLc_low (s : State) : s.showLc.low = s.low := by simp [State.showLc]

/-! ### The global time base (R40 to R66) -/

@[simp] theorem State.setGtb_low (s : State) (now : Nat) (slew : Int) : (s.setGtb now slew).low = s.low := by simp [State.setGtb]
@[simp] theorem State.refreshQual_low (s : State) : s.refreshQual.low = s.low := by simp [State.refreshQual]
@[simp] theorem State.refreshSlot_low (s : State) (d : Nat) : (s.refreshSlot d).low = s.low := by simp [State.refreshSlot]
@[simp] theorem State.setTrgCmp_low (s : State) (n v : Nat) : (s.setTrgCmp n v).low = s.low := by simp [State.setTrgCmp]
@[simp] theorem State.arm_low (s : State) (n : Nat) : (s.arm n).low = s.low := by simp [State.arm]
@[simp] theorem State.fire_low (s0 : State) (n : Nat) : (s0.fire n).low = s0.low := by simp [State.fire]
@[simp] theorem State.fireLate_low (s : State) (n : Nat) : (s.fireLate n).low = s.low := by simp [State.fireLate]
@[simp] theorem keepsLow_triggerFire (n : Fin 64) (s : State) : KeepsLow s (exec (.triggerFire n) s) := by simp [exec_triggerFire, execTriggerFire]
@[simp] theorem keepsLow_triggerCompareWrite (n : Fin 64) (value : Nat) (s : State) : KeepsLow s (exec (.triggerCompareWrite n value) s) := by
  simp [exec_triggerCompareWrite, execTriggerCompareWrite]
@[simp] theorem keepsLow_triggerCtlWrite (n : Fin 64) (value : Nat) (s : State) : KeepsLow s (exec (.triggerCtlWrite n value) s) := by
  simp [exec_triggerCtlWrite, execTriggerCtlWrite]
@[simp] theorem State.stepTrigger_low (old : Nat) (d : Int) (s : State) (n : Nat) : (State.stepTrigger old d s n).low = s.low := by
  simp [State.stepTrigger]
@[simp] theorem State.gtbStep_low (s : State) (d : Int) : (s.gtbStep d).low = s.low := by simp [State.gtbStep]
@[simp] theorem keepsLow_gtbStep (s : State) : KeepsLow s (exec .gtbStep s) := by simp [exec_gtbStep, execGtbStep]
@[simp] theorem keepsLow_slewStart (s : State) : KeepsLow s (exec .slewStart s) := by simp [exec_slewStart, execSlewStart]
@[simp] theorem keepsLow_slewComplete (s : State) : KeepsLow s (exec .slewComplete s) := by simp [exec_slewComplete, execSlewComplete]
@[simp] theorem keepsLow_snapshotTake (s : State) : KeepsLow s (exec .snapshotTake s) := by simp [exec_snapshotTake, execSnapshotTake]
@[simp] theorem State.enterHoldover_low (s : State) : s.enterHoldover.low = s.low := by simp [State.enterHoldover]
@[simp] theorem State.servoSlew_low (s : State) (o : Int) : (s.servoSlew o).low = s.low := by simp [State.servoSlew]
@[simp] theorem State.correct_low (s : State) (o : Int) (first : Bool) : (s.correct o first).low = s.low := by
  unfold State.correct
  split
  · simp
  · split <;> simp
@[simp] theorem State.grandmaster_low (s : State) (d gm : Nat) : (s.grandmaster d gm).low = s.low := by simp [State.grandmaster]
@[simp] theorem State.servoSync_low (s : State) (o : Int) : (s.servoSync o).low = s.low := by simp [State.servoSync]
@[simp] theorem State.holdoverSync_low (s : State) (gm : Nat) (o : Int) : (s.holdoverSync gm o).low = s.low := by simp [State.holdoverSync]
@[simp] theorem keepsLow_syncReceive (d : Fin 4) (p : Fin 18) (msg : SyncMsg) (s : State) : KeepsLow s (exec (.syncReceive d p msg) s) := by
  simp [exec_syncReceive, execSyncReceive]
@[simp] theorem keepsLow_syncRelay (d : Fin 4) (s : State) : KeepsLow s (exec (.syncRelay d) s) := by
  rw [exec_syncRelay]
  unfold execSyncRelay
  dsimp only
  split <;> simp
@[simp] theorem keepsLow_syncTransmit (d : Fin 4) (s : State) : KeepsLow s (exec (.syncTransmit d) s) := by simp [exec_syncTransmit, execSyncTransmit]
@[simp] theorem keepsLow_pdelayReqTransmit (p : Fin 18) (s : State) : KeepsLow s (exec (.pdelayReqTransmit p) s) := by
  simp [exec_pdelayReqTransmit, execPdelayReqTransmit]
@[simp] theorem keepsLow_pdelayReceive (p : Fin 18) (m : PdelayMsg) (s : State) : KeepsLow s (exec (.pdelayReceive p m) s) := by
  rw [exec_pdelayReceive]
  unfold execPdelayReceive
  repeat' split
  all_goals simp
@[simp] theorem keepsLow_syncTimeout (d : Fin 4) (s : State) : KeepsLow s (exec (.syncTimeout d) s) := by simp [exec_syncTimeout, execSyncTimeout]
@[simp] theorem keepsLow_gtbDomainWrite (d : Fin 4) (disable : Bool) (s : State) : KeepsLow s (exec (.gtbDomainWrite d disable) s) := by
  simp [exec_gtbDomainWrite, execGtbDomainWrite]
@[simp] theorem State.capShow_low (s : State) (u : Nat) : (s.capShow u).low = s.low := by
  unfold State.capShow
  dsimp only
  split <;> simp
@[simp] theorem State.capture_low (s : State) (u : Nat) (rising : Bool) (stamp : Stamp) : (s.capture u rising stamp).low = s.low := by
  simp [State.capture]
@[simp] theorem keepsLow_captureEdge (u : Fin 32) (rising : Bool) (stamp : Stamp) (held : Nat) (s : State) :
    KeepsLow s (exec (.captureEdge u rising stamp held) s) := by
  rw [exec_captureEdge]
  unfold execCaptureEdge
  split
  · simp
  · split
    · next h => simp [State.arrive_low h]
    · simp
@[simp] theorem keepsLow_capturePop (u : Fin 32) (s : State) : KeepsLow s (exec (.capturePop u) s) := by simp [exec_capturePop, execCapturePop]

end Sys2Proof.Machine
end

section
/-! PROOFS. Memory below the MSI-X pages, part 6: the gateway, the PCIe bridge and the switch channels leave it. -/

namespace Sys2Proof.Machine

open Sys2Proof

/-! ### The gateway (R340 to R355) -/

@[simp] theorem State.setImg_low (s : State) (l i b : Nat) : (s.setImg l i b).low = s.low := by simp [State.setImg]
@[simp] theorem State.gwFill_low (s : State) (l : Nat) : (s.gwFill l).low = s.low := by simp [State.gwFill]
@[simp] theorem State.setJobs_low (s : State) (c : Nat) (l : List GwJob) : (s.setJobs c l).low = s.low := by simp [State.setJobs]
@[simp] theorem State.gwPut_low (s : State) (c : Nat) (p : GwPdu) : (s.gwPut c p).low = s.low := by simp [State.gwPut]
@[simp] theorem State.gwEnter_low (s : State) (l : Nat) (p : GwPdu) : (s.gwEnter l p).low = s.low := by simp [State.gwEnter]
@[simp] theorem State.gwDue_low (s : State) (l : Nat) : (s.gwDue l).low = s.low := by simp [State.gwDue]
@[simp] theorem State.gwCancel_low (s : State) (l : Nat) : (s.gwCancel l).low = s.low := by simp [State.gwCancel]
@[simp] theorem keepsLow_gwPduReceive (src : GwSrc) (s : State) : KeepsLow s (exec (.gwPduReceive src) s) := by
  rw [exec_gwPduReceive]
  unfold execGwPduReceive
  dsimp only
  repeat' split
  all_goals simp
@[simp] theorem keepsLow_gwLayoutCyclicDue (l : Fin 4096) (s : State) : KeepsLow s (exec (.gwLayoutCyclicDue l) s) := by
  rw [exec_gwLayoutCyclicDue]
  unfold execGwLayoutCyclicDue
  split
  · next h => simp [State.arrive_low h]
  · simp
@[simp] theorem keepsLow_gwMingapExpiry (l : Fin 4096) (s : State) : KeepsLow s (exec (.gwMingapExpiry l) s) := by
  simp [exec_gwMingapExpiry, execGwMingapExpiry]
@[simp] theorem keepsLow_gwFence (s : State) : KeepsLow s (exec .gwFence s) := by simp [exec_gwFence, execGwFence]
@[simp] theorem keepsLow_gwFenceComplete (s : State) : KeepsLow s (exec .gwFenceComplete s) := by simp [exec_gwFenceComplete, execGwFenceComplete]
@[simp] theorem State.gwTaken_low (s : State) (bytes : List Nat) : (s.gwTaken bytes).low = s.low := by
  unfold State.gwTaken
  split <;> simp
@[simp] theorem State.gwEntered_low (s : State) : s.gwEntered.low = s.low := by
  unfold State.gwEntered
  split <;> simp
@[simp] theorem keepsLow_frameReceive (p : Fin 22) (rx : EthRx) (s : State) : KeepsLow s (exec (.frameReceive p rx) s) := by
  rw [exec_frameReceive]
  unfold execFrameReceive
  repeat' split
  all_goals simp
@[simp] theorem keepsLow_frameTransmit (p : Fin 22) (s : State) : KeepsLow s (exec (.frameTransmit p) s) := by
  simp [exec_frameTransmit, execFrameTransmit]
@[simp] theorem State.putWord_low (s : State) (a v : Nat) : (s.putWord a v).low = s.low := by
  unfold State.putWord
  split <;> simp
@[simp] theorem State.gwLayoutChange_low (s old : State) (l : Nat) : (s.gwLayoutChange old l).low = s.low := by
  simp [State.gwLayoutChange]
@[simp] theorem State.gwTableWrite_low (s : State) (a v : Nat) : (s.gwTableWrite a v).low = s.low := by
  unfold State.gwTableWrite
  split
  · simp
  · split
    · dsimp only
      rw [State.low_ite, State.gwLayoutChange_low, ite_self, State.putWord_low, State.each_low]
      intro t w
      split <;> simp
    · simp
@[simp] theorem keepsLow_tableEntryCommitWrite (addr value : Nat) (s : State) : KeepsLow s (exec (.tableEntryCommitWrite addr value) s) := by
  simp [exec_tableEntryCommitWrite, execTableEntryCommitWrite]

/-! ### The PCIe bridge (R356 to R370) -/

@[simp] theorem State.pcieFlush_low (s : State) : s.pcieFlush.low = s.low := by
  unfold State.pcieFlush
  split <;> simp
@[simp] theorem State.pcieWrite_low (s : State) (w id a : Nat) (bs : List Nat) : (s.pcieWrite w id a bs).low = s.low := by
  unfold State.pcieWrite
  dsimp only
  repeat' split
  all_goals simp
@[simp] theorem State.pcieUnmapped_low (s : State) (r : Req) (acc : AccKind) (a : Nat) : (s.pcieUnmapped r acc a).low = s.low := by
  simp [State.pcieUnmapped]
@[simp] theorem State.pcieOut_low (s : State) (r : Req) (vi : Option Nat) (acc : AccKind) (a size value : Nat) :
    (s.pcieOut r vi acc a size value).low = s.low := by
  unfold State.pcieOut
  repeat' split
  all_goals simp
@[simp] theorem keepsLow_pcieOutboundRequest (r : Req) (acc : AccKind) (addr size value : Nat) (s : State) :
    KeepsLow s (exec (.pcieOutboundRequest r acc addr size value) s) := by
  simp [exec_pcieOutboundRequest, execPcieOutboundRequest]
@[simp] theorem State.perstDrive_low (s : State) (v : Nat) : (s.perstDrive v).low = s.low := by simp [State.perstDrive]
@[simp] theorem keepsLow_pcieLinkUp (gen width ltssm : Nat) (s : State) : KeepsLow s (exec (.pcieLinkUp gen width ltssm) s) := by
  simp [exec_pcieLinkUp, execPcieLinkUp]
@[simp] theorem keepsLow_pcieVfEnable (en : Bool) (num : Fin 256) (s : State) : KeepsLow s (exec (.pcieVfEnable en num) s) := by
  simp [exec_pcieVfEnable, execPcieVfEnable]
@[simp] theorem State.pcieRetrain_low (s : State) : s.pcieRetrain.low = s.low := by simp [State.pcieRetrain]
@[simp] theorem State.pciePfirq_low (s : State) (v : Nat) : (s.pciePfirq v).low = s.low := by simp [State.pciePfirq]
@[simp] theorem keepsLow_pcieRetrain (s : State) : KeepsLow s (exec .pcieRetrain s) := by simp [exec_pcieRetrain, execPcieRetrain]
@[simp] theorem keepsLow_pciePfMsix (vectors : Nat) (s : State) : KeepsLow s (exec (.pciePfMsix vectors) s) := by
  simp [exec_pciePfMsix, execPciePfMsix]

/-! ### Protected switch channels (R185 to R228) -/

@[simp] theorem State.dset_low (s : State) (f : Fld) (v : Nat) : (s.dset f v).low = s.low := by simp [State.dset]
@[simp] theorem State.chUpd_low (s : State) (n : Nat) (g : PscCh → PscCh) : (s.chUpd n g).low = s.low := by simp [State.chUpd]
@[simp] theorem State.dieUpd_low (s : State) (f : Nat) (g : PscDie → PscDie) : (s.dieUpd f g).low = s.low := by simp [State.dieUpd]
@[simp] theorem State.pscStep_low (s : State) (f rank : Nat) : (s.pscStep f rank).low = s.low := by simp [State.pscStep]
@[simp] theorem State.pscShow_low (s : State) (n : Nat) : (s.pscShow n).low = s.low := by simp [State.pscShow]
@[simp] theorem State.pscRaise_low (s : State) (n cause : Nat) : (s.pscRaise n cause).low = s.low := by simp [State.pscRaise]
@[simp] theorem State.pscEvent_low (s : State) (n cause : Nat) : (s.pscEvent n cause).low = s.low := by simp [State.pscEvent]
@[simp] theorem State.dieRaise_low (s : State) (f cause v : Nat) : (s.dieRaise f cause v).low = s.low := by simp [State.dieRaise]
@[simp] theorem State.dieShow_low (s : State) (f : Nat) : (s.dieShow f).low = s.low := by simp [State.dieShow]
@[simp] theorem State.dieEvent_low (s : State) (f cause v : Nat) : (s.dieEvent f cause v).low = s.low := by simp [State.dieEvent]
@[simp] theorem State.pscTo_low (s : State) (n st : Nat) (window : Bool) : (s.pscTo n st window).low = s.low := by simp [State.pscTo]
@[simp] theorem State.pscFlag_low (s : State) (n bit : Nat) : (s.pscFlag n bit).low = s.low := by simp [State.pscFlag]
@[simp] theorem State.pscTrip_low (s : State) (n cause : Nat) : (s.pscTrip n cause).low = s.low := by simp [State.pscTrip]
@[simp] theorem State.pscLatch_low (s : State) (n cause : Nat) : (s.pscLatch n cause).low = s.low := by simp [State.pscLatch]
@[simp] theorem State.pscRefuse_low (s : State) (n : Nat) : (s.pscRefuse n).low = s.low := by simp [State.pscRefuse]
@[simp] theorem State.pscCheck_low (s : State) (n : Nat) (v : Int) : (s.pscCheck n v).low = s.low := by simp [State.pscCheck]
@[simp] theorem State.pscApply_low (s0 : State) (n op : Nat) : (s0.pscApply n op).low = s0.low := by
  unfold State.pscApply
  split <;> simp
@[simp] theorem keepsLow_pscCommandApply (f : Fin 2) (crcOk : Bool) (other : Option (Fin 40 × Fin 16)) (s : State) :
    KeepsLow s (exec (.pscCommandApply f crcOk other) s) := by
  rw [exec_pscCommandApply]
  unfold execPscCommandApply
  repeat' split
  all_goals simp
@[simp] theorem State.pscPop_low (s : State) (f : Nat) : (s.pscPop f).low = s.low := by
  unfold State.pscPop
  split <;> simp
@[simp] theorem State.pscFail_low (s : State) (f : Nat) : (s.pscFail f).low = s.low := by
  unfold State.pscFail
  split <;> simp
@[simp] theorem keepsLow_pscAckReceive (f : Fin 2) (crcOk : Bool) (s : State) : KeepsLow s (exec (.pscAckReceive f crcOk) s) := by
  rw [exec_pscAckReceive]
  unfold execPscAckReceive
  split
  · simp
  · split <;> simp
@[simp] theorem keepsLow_pscAckTimeout (f : Fin 2) (s : State) : KeepsLow s (exec (.pscAckTimeout f) s) := by
  rw [exec_pscAckTimeout]
  unfold execPscAckTimeout
  split
  · simp
  · split <;> simp
@[simp] theorem State.roomSee_low (s : State) (f : Nat) (ms : Bool) : (s.roomSee f ms).low = s.low := by
  unfold State.roomSee
  split <;> simp
@[simp] theorem keepsLow_pscSample (m : PscSample) (s : State) : KeepsLow s (exec (.pscSample m) s) := by
  rw [exec_pscSample]
  unfold execPscSample
  split
  · simp
  · split <;> simp
@[simp] theorem keepsLow_pscRangeSwitch (n : Fin 40) (s : State) : KeepsLow s (exec (.pscRangeSwitch n) s) := by
  simp [exec_pscRangeSwitch, execPscRangeSwitch]
@[simp] theorem keepsLow_offstateCheckStart (n : Fin 40) (periodic : Bool) (v : Int) (s : State) :
    KeepsLow s (exec (.offstateCheckStart n periodic v) s) := by
  simp [exec_offstateCheckStart, execOffstateCheckStart]
@[simp] theorem keepsLow_offstateCheckSettled (n : Fin 40) (v : Int) (s : State) : KeepsLow s (exec (.offstateCheckSettled n v) s) := by
  simp [exec_offstateCheckSettled, execOffstateCheckSettled]
@[simp] theorem keepsLow_onstateOpenLoad (n : Fin 40) (largest : Nat) (s : State) : KeepsLow s (exec (.onstateOpenLoad n largest) s) := by
  simp [exec_onstateOpenLoad, execOnstateOpenLoad]
@[simp] theorem keepsLow_pscOvercurrent (n : Fin 40) (samples : List Nat) (s : State) : KeepsLow s (exec (.pscOvercurrent n samples) s) := by
  simp [exec_pscOvercurrent, execPscOvercurrent]
@[simp] theorem keepsLow_pscShortCircuit (n : Fin 40) (s : State) : KeepsLow s (exec (.pscShortCircuit n) s) := by
  simp [exec_pscShortCircuit, execPscShortCircuit]
@[simp] theorem keepsLow_pscGroupOvertemp (g : Fin 10) (t : Int) (s : State) : KeepsLow s (exec (.pscGroupOvertemp g t) s) := by
  simp [exec_pscGroupOvertemp, execPscGroupOvertemp]
@[simp] theorem keepsLow_i2tUpdate (n : Fin 40) (sumSq : Nat) (s : State) : KeepsLow s (exec (.i2tUpdate n sumSq) s) := by
  rw [exec_i2tUpdate]
  unfold execI2tUpdate
  split
  · simp
  · split <;> simp
@[simp] theorem keepsLow_pscRetryDue (n : Fin 40) (s : State) : KeepsLow s (exec (.pscRetryDue n) s) := by simp [exec_pscRetryDue, execPscRetryDue]
@[simp] theorem keepsLow_pscRetryRestore (n : Fin 40) (s : State) : KeepsLow s (exec (.pscRetryRestore n) s) := by
  simp [exec_pscRetryRestore, execPscRetryRestore]
@[simp] theorem keepsLow_pscClampEvent (n : Fin 40) (s : State) : KeepsLow s (exec (.pscClampEvent n) s) := by
  simp [exec_pscClampEvent, execPscClampEvent]
@[simp] theorem keepsLow_pscPwmPeriod (n : Fin 40) (off : Bool) (s : State) : KeepsLow s (exec (.pscPwmPeriod n off) s) := by
  simp [exec_pscPwmPeriod, execPscPwmPeriod]
@[simp] theorem State.shedAgain_low (s : State) (f : Nat) (hot : Option (Fin 10)) : (s.shedAgain f hot).low = s.low := by simp [State.shedAgain]
@[simp] theorem keepsLow_pscShed (f : Fin 2) (hot : Option (Fin 10)) (s : State) : KeepsLow s (exec (.pscShed f hot) s) := by
  rw [exec_pscShed]
  unfold execPscShed
  dsimp only
  repeat' split
  all_goals simp
@[simp] theorem keepsLow_pscRestore (f : Fin 2) (s : State) : KeepsLow s (exec (.pscRestore f) s) := by
  rw [exec_pscRestore]
  unfold execPscRestore
  split
  · simp
  · split <;> simp
@[simp] theorem State.holdLeave_low (s : State) (f : Nat) : (s.holdLeave f).low = s.low := by simp [State.holdLeave]
@[simp] theorem keepsLow_commandLinkHeartbeat (f : Fin 2) (valid other : Bool) (s : State) :
    KeepsLow s (exec (.commandLinkHeartbeat f valid other) s) := by
  simp [exec_commandLinkHeartbeat, execCommandLinkHeartbeat]
@[simp] theorem keepsLow_powerDieHoldEnter (f : Fin 2) (s : State) : KeepsLow s (exec (.powerDieHoldEnter f) s) := by
  simp [exec_powerDieHoldEnter, execPowerDieHoldEnter]
@[simp] theorem keepsLow_powerDieHoldLeave (f : Fin 2) (s : State) : KeepsLow s (exec (.powerDieHoldLeave f) s) := by
  simp [exec_powerDieHoldLeave, execPowerDieHoldLeave]
@[simp] theorem State.mirrorWrite_low (s : State) (f : Nat) : (s.mirrorWrite f).low = s.low := by simp [State.mirrorWrite]
@[simp] theorem State.restartShow_low (s : State) (f : Nat) : (s.restartShow f).low = s.low := by simp [State.restartShow]
@[simp] theorem State.mirrorLoad_low (s : State) (f : Nat) : (s.mirrorLoad f).low = s.low := by simp [State.mirrorLoad]
@[simp] theorem keepsLow_pscMirrorLoad (f : Fin 2) (s : State) : KeepsLow s (exec (.pscMirrorLoad f) s) := by
  simp [exec_pscMirrorLoad, execPscMirrorLoad]
@[simp] theorem keepsLow_feedPowerOnReset (f : Fin 2) (s : State) : KeepsLow s (exec (.feedPowerOnReset f) s) := by
  simp [exec_feedPowerOnReset, execFeedPowerOnReset]
@[simp] theorem keepsLow_feedRestart (f : Fin 2) (s : State) : KeepsLow s (exec (.feedRestart f) s) := by simp [exec_feedRestart, execFeedRestart]
@[simp] theorem State.vpwrShow_low (s : State) (f vpwr : Nat) : (s.vpwrShow f vpwr).low = s.low := by simp [State.vpwrShow]
@[simp] theorem keepsLow_feedUndervoltage (f : Fin 2) (vpwr : Nat) (s : State) : KeepsLow s (exec (.feedUndervoltage f vpwr) s) := by
  simp [exec_feedUndervoltage, execFeedUndervoltage]
@[simp] theorem keepsLow_feedOvervoltage (f : Fin 2) (vpwr : Nat) (s : State) : KeepsLow s (exec (.feedOvervoltage f vpwr) s) := by
  simp [exec_feedOvervoltage, execFeedOvervoltage]

end Sys2Proof.Machine
end

section
/-! PROOFS. Memory below the MSI-X pages, part 7: the VIM, power and the self-test engine leave it. -/

namespace Sys2Proof.Machine

open Sys2Proof

/-! ### The VIM (R471 to R499) -/

@[simp] theorem State.viUpd_low (s : State) (i : Nat) (g : ViSt → ViSt) : (s.viUpd i g).low = s.low := by simp [State.viUpd]
@[simp] theorem State.genNext_low (s : State) (i : Nat) : (s.genNext i).low = s.low := by simp [State.genNext]
@[simp] theorem State.viCanAbort_low (s : State) (i k : Nat) (clear : Bool) : (s.viCanAbort i k clear).low = s.low := by simp [State.viCanAbort]
@[simp] theorem State.viRoutesOff_low (s : State) (i : Nat) : (s.viRoutesOff i).low = s.low := by simp [State.viRoutesOff]
@[simp] theorem State.viResetBegin_low (s : State) (i : Nat) : (s.viResetBegin i).low = s.low := by simp [State.viResetBegin]
@[simp] theorem State.viFault_low (s : State) (i code : Nat) : (s.viFault i code).low = s.low := by simp [State.viFault]
@[simp] theorem State.viResetNow_low (s : State) (i : Nat) : (s.viResetNow i).low = s.low := by simp [State.viResetNow]
@[simp] theorem State.viReset_low (s : State) (i : Nat) : (s.viReset i).low = s.low := by simp [State.viReset]
@[simp] theorem keepsLow_viTenantReset (i : Fin 256) (s : State) : KeepsLow s (exec (.viTenantReset i) s) := by
  simp [exec_viTenantReset, execViTenantReset]
@[simp] theorem State.viDoorbell_low (s : State) (i : Nat) (rx : Bool) (k tail : Nat) : (s.viDoorbell i rx k tail).low = s.low := by
  simp [State.viDoorbell]
@[simp] theorem keepsLow_viDoorbell (i : Fin 256) (rx : Bool) (slot : Fin 16) (tail : Fin 4096) (s : State) :
    KeepsLow s (exec (.viDoorbell i rx slot tail) s) := by
  simp [exec_viDoorbell, execViDoorbell]

/-! ### Dropped slices (R568) -/

@[simp] theorem State.unitRejoin_low (s : State) (u : Nat) : (s.unitRejoin u).low = s.low := by simp [State.unitRejoin]
@[simp] theorem State.sliceDrop_low (s : State) (u : Nat) : (s.sliceDrop u).low = s.low := by simp [State.sliceDrop]
@[simp] theorem State.sliceFull_low (s : State) (n : Nat) : (s.sliceFull n).low = s.low := by simp [State.sliceFull]
@[simp] theorem State.jrnPut_low (s : State) (n : Nat) (e : JEntry) : (s.jrnPut n e).low = s.low := by simp [State.jrnPut]

/-! ### Items and blocks (R542 to R549, R577) -/

@[simp] theorem State.blkGo_low (s : State) (n : Nat) : (s.blkGo n).low = s.low := by simp [State.blkGo]
@[simp] theorem keepsLow_blockReset (s : State) : KeepsLow s (exec .blockReset s) := by simp [exec_blockReset, execBlockReset]
@[simp] theorem State.readyBall_low (s : State) : s.readyBall.low = s.low := by simp [State.readyBall]
@[simp] theorem State.degrade_low (s : State) : s.degrade.low = s.low := by simp [State.degrade]
@[simp] theorem State.markOne_low (s : State) (cause i : Nat) : (s.markOne cause i).low = s.low := by simp [State.markOne]
@[simp] theorem State.markItem_low (s : State) (i cause : Nat) : (s.markItem i cause).low = s.low := by simp [State.markItem]
@[simp] theorem State.calClear_low (s : State) (i : Nat) : (s.calClear i).low = s.low := by simp [State.calClear]
@[simp] theorem State.calSet_low (s : State) (ok : Bool) (x : Nat × Nat × Nat) : (s.calSet ok x).low = s.low := by simp [State.calSet]

/-! ### Power (R530 to R562) -/

@[simp] theorem State.backRaise_low (s : State) (cause : Nat) : (s.backRaise cause).low = s.low := by simp [State.backRaise]
@[simp] theorem State.backMin_low (s : State) (mv : Nat) : (s.backMin mv).low = s.low := by simp [State.backMin]
@[simp] theorem State.toVbak_low (s : State) : s.toVbak.low = s.low := by simp [State.toVbak]
@[simp] theorem keepsLow_backupToVbak (s : State) : KeepsLow s (exec .backupToVbak s) := by simp [exec_backupToVbak, execBackupToVbak]
@[simp] theorem keepsLow_backupToVbat (s : State) : KeepsLow s (exec .backupToVbat s) := by simp [exec_backupToVbat, execBackupToVbat]
@[simp] theorem keepsLow_backupContinuityLoss (mv : Nat) (s : State) : KeepsLow s (exec (.backupContinuityLoss mv) s) := by
  simp [exec_backupContinuityLoss, execBackupContinuityLoss]
@[simp] theorem keepsLow_backupPor (s : State) : KeepsLow s (exec .backupPor s) := by simp [exec_backupPor, execBackupPor]
@[simp] theorem keepsLow_backupGtbRecord (mv : Nat) (crcOk : Bool) (s : State) : KeepsLow s (exec (.backupGtbRecord mv crcOk) s) := by
  simp [exec_backupGtbRecord, execBackupGtbRecord]
@[simp] theorem keepsLow_vbakLow (v : Fin 256) (s : State) : KeepsLow s (exec (.vbakLow v) s) := by simp [exec_vbakLow, execVbakLow]
@[simp] theorem State.ballsOff_low (s : State) (sleep : Bool) : (s.ballsOff sleep).low = s.low := by simp [State.ballsOff]
@[simp] theorem State.diesOff_low (s : State) (sleep : Bool) : (s.diesOff sleep).low = s.low := by simp [State.diesOff]
@[simp] theorem keepsLow_vbatLoss (s : State) : KeepsLow s (exec .vbatLoss s) := by simp [exec_vbatLoss, execVbatLoss]
@[simp] theorem keepsLow_vbatLow (v : Fin 256) (s : State) : KeepsLow s (exec (.vbatLow v) s) := by simp [exec_vbatLow, execVbatLow]
@[simp] theorem State.vbatBack_low (s : State) (v : Nat) : (s.vbatBack v).low = s.low := by simp [State.vbatBack]
@[simp] theorem keepsLow_vbatHigh (v : Fin 256) (s : State) : KeepsLow s (exec (.vbatHigh v) s) := by simp [exec_vbatHigh, execVbatHigh]
@[simp] theorem keepsLow_vbatNormal (v : Fin 256) (s : State) : KeepsLow s (exec (.vbatNormal v) s) := by simp [exec_vbatNormal, execVbatNormal]
@[simp] theorem keepsLow_vcoreThermalStep (tj : Int) (s : State) : KeepsLow s (exec (.vcoreThermalStep tj) s) := by
  simp [exec_vcoreThermalStep, execVcoreThermalStep]
@[simp] theorem keepsLow_resetPinRelease (s : State) : KeepsLow s (exec .resetPinRelease s) := by simp [exec_resetPinRelease, execResetPinRelease]
@[simp] theorem keepsLow_calibrationDone (item : Option (Fin 177)) (ok : Bool) (cal : Nat × Nat) (s : State) :
    KeepsLow s (exec (.calibrationDone item ok cal) s) := by
  simp [exec_calibrationDone, execCalibrationDone]
@[simp] theorem State.oneCopy_low (s : State) (i : Nat) (b : Bool) : (s.oneCopy i b).low = s.low := by simp [State.oneCopy]
@[simp] theorem State.testEnded_low (s : State) (i : Nat) (e : TestEnd) : (s.testEnded i e).low = s.low := by
  unfold State.testEnded
  split <;> simp
@[simp] theorem keepsLow_powerupTestDone (item : Fin 179) (e : TestEnd) (s : State) : KeepsLow s (exec (.powerupTestDone item e) s) := by
  simp [exec_powerupTestDone, execPowerupTestDone]
@[simp] theorem keepsLow_canReady (t : Nat) (s : State) : KeepsLow s (exec (.canReady t) s) := by simp [exec_canReady, execCanReady]
@[simp] theorem keepsLow_fullyReady (t : Nat) (peer : Bool) (s : State) : KeepsLow s (exec (.fullyReady t peer) s) := by
  simp [exec_fullyReady, execFullyReady]
@[simp] theorem State.zoneRequest_low (s : State) : s.zoneRequest.low = s.low := by simp [State.zoneRequest]
@[simp] theorem keepsLow_zoneOkRequest (s : State) : KeepsLow s (exec .zoneOkRequest s) := by simp [exec_zoneOkRequest, execZoneOkRequest]
@[simp] theorem keepsLow_zoneOkDrop (s : State) : KeepsLow s (exec .zoneOkDrop s) := by simp [exec_zoneOkDrop, execZoneOkDrop]
@[simp] theorem keepsLow_zoneOkWatchdog (s : State) : KeepsLow s (exec .zoneOkWatchdog s) := by simp [exec_zoneOkWatchdog, execZoneOkWatchdog]

/-! ### The halves and the twin (R18 to R39) -/

@[simp] theorem State.forceTrx_low (s : State) (f : Bool) : (s.forceTrx f).low = s.low := by simp [State.forceTrx]
@[simp] theorem keepsLow_supplyLinkHeartbeat (s : State) : KeepsLow s (exec .supplyLinkHeartbeat s) := by
  simp [exec_supplyLinkHeartbeat, execSupplyLinkHeartbeat]
@[simp] theorem keepsLow_controlLaneIdleHandshake (s : State) : KeepsLow s (exec .controlLaneIdleHandshake s) := by
  simp [exec_controlLaneIdleHandshake, execControlLaneIdleHandshake]
@[simp] theorem State.laneLoss_low (s : State) : s.laneLoss.low = s.low := by simp [State.laneLoss]
@[simp] theorem keepsLow_controlLaneLoss (s : State) : KeepsLow s (exec .controlLaneLoss s) := by simp [exec_controlLaneLoss, execControlLaneLoss]
@[simp] theorem keepsLow_coreSupplyLapse (s : State) : KeepsLow s (exec .coreSupplyLapse s) := by simp [exec_coreSupplyLapse, execCoreSupplyLapse]
@[simp] theorem keepsLow_vcoreMeasure (millivolt : Nat) (s : State) : KeepsLow s (exec (.vcoreMeasure millivolt) s) := by
  simp [exec_vcoreMeasure, execVcoreMeasure]
@[simp] theorem keepsLow_mirrorFrameSend (s : State) : KeepsLow s (exec .mirrorFrameSend s) := by simp [exec_mirrorFrameSend, execMirrorFrameSend]
@[simp] theorem State.takeOver_low (s : State) (hand : optParam Bool false) : (s.takeOver hand).low = s.low := by simp [State.takeOver]
@[simp] theorem keepsLow_takeover (s : State) : KeepsLow s (exec .takeover s) := by simp [exec_takeover, execTakeover]
@[simp] theorem keepsLow_mirrorTimeout (s : State) : KeepsLow s (exec .mirrorTimeout s) := by simp [exec_mirrorTimeout, execMirrorTimeout]
@[simp] theorem keepsLow_takeoverPwmEnable (j : Fin 24) (s : State) : KeepsLow s (exec (.takeoverPwmEnable j) s) := by
  simp [exec_takeoverPwmEnable, execTakeoverPwmEnable]
@[simp] theorem State.handoff_low (s : State) : s.handoff.low = s.low := by simp [State.handoff]
@[simp] theorem keepsLow_twinHandoff (s : State) : KeepsLow s (exec .twinHandoff s) := by simp [exec_twinHandoff, execTwinHandoff]

/-! ### The self-test engine (R563 to R580) -/

@[simp] theorem State.roundCheck_low (s : State) : s.roundCheck.low = s.low := by simp [State.roundCheck]
@[simp] theorem State.unitPass_low (s : State) (u : Nat) : (s.unitPass u).low = s.low := by simp [State.unitPass]
@[simp] theorem State.unitRetest_low (s : State) (u : Nat) : (s.unitRetest u).low = s.low := by simp [State.unitRetest]
@[simp] theorem State.unitFail_low (s : State) (u : Nat) : (s.unitFail u).low = s.low := by simp [State.unitFail]
@[simp] theorem keepsLow_steConditionCheck (rcOk : Bool) (s : State) : KeepsLow s (exec (.steConditionCheck rcOk) s) := by
  simp [exec_steConditionCheck, execSteConditionCheck]
@[simp] theorem keepsLow_steSliceStart (u0 : Fin 58) (s : State) : KeepsLow s (exec (.steSliceStart u0) s) := by
  simp [exec_steSliceStart, execSteSliceStart]
@[simp] theorem keepsLow_steSliceEnd (u : Fin 58) (ok : Bool) (s : State) : KeepsLow s (exec (.steSliceEnd u ok) s) := by
  simp [exec_steSliceEnd, execSteSliceEnd]
@[simp] theorem State.askedSlice_low (flaky bad : List Nat) (s : State) (u : Nat) : (State.askedSlice flaky bad s u).low = s.low := by
  simp [State.askedSlice]
@[simp] theorem testDone_low (s : State) (code : Nat) (pass : Bool) (sig : Nat) : (testDone s code pass sig).s.low = s.low := by
  simp [testDone]
@[simp] theorem State.testFail_low (s : State) (code i : Nat) : (s.testFail code i).low = s.low := by simp [State.testFail]
@[simp] theorem keepsLow_stRun (m : Fin 8) (flaky bad : List Nat) (ok : Bool) (sig : Nat) (s : State) :
    KeepsLow s (exec (.stRun m flaky bad ok sig) s) := by
  simp [exec_stRun, execStRun]

end Sys2Proof.Machine
end

section
/-! PROOFS. Memory below the MSI-X pages, part 8: regions, Compass and the filters leave it, and the statement O58. -/

namespace Sys2Proof.Machine

open Sys2Proof

/-! ### Regions, restarts and watchdogs (R435 to R470) -/

@[simp] theorem State.eccSee_low (s : State) (a init : Nat) (scrub : Bool) (e : EccObs) : (s.eccSee a init scrub e).low = s.low := by
  unfold State.eccSee
  dsimp only
  split <;> simp
@[simp] theorem keepsLow_scrubLine (envm : Bool) (e : EccObs) (s : State) : KeepsLow s (exec (.scrubLine envm e) s) := by
  simp [exec_scrubLine, execScrubLine]
@[simp] theorem State.applyHeld_low (s : State) (f : Fld) : (s.applyHeld f).low = s.low := by
  unfold State.applyHeld
  split <;> simp
@[simp] theorem State.rctlWrite_low (s : State) (t k v : Nat) : (s.rctlWrite t k v).low = s.low := by simp [State.rctlWrite]
@[simp] theorem keepsLow_regionCtlWrite (r : Req) (t : Fin 17) (k : Fin 32) (v : Nat) (s : State) :
    KeepsLow s (exec (.regionCtlWrite r t k v) s) := by
  rw [exec_regionCtlWrite]
  unfold execRegionCtlWrite
  split
  · next h => simp [State.checkReq_low h]
  · simp
@[simp] theorem State.igrpWrite_low (s : State) (k v : Nat) : (s.igrpWrite k v).low = s.low := by simp [State.igrpWrite]
@[simp] theorem keepsLow_igrpWrite (r : Req) (k : Fin 8) (v : Nat) (s : State) : KeepsLow s (exec (.igrpWrite r k v) s) := by
  rw [exec_igrpWrite]
  unfold execIgrpWrite
  split
  · next h => simp [State.checkReq_low h]
  · simp
@[simp] theorem keepsLow_regionFence (s : State) : KeepsLow s (exec .regionFence s) := by simp [exec_regionFence, execRegionFence]
@[simp] theorem keepsLow_regionFenceComplete (s : State) : KeepsLow s (exec .regionFenceComplete s) := by
  simp [exec_regionFenceComplete, execRegionFenceComplete]
@[simp] theorem keepsLow_worldWatchdogExpiry (h : Fin 8) (s : State) : KeepsLow s (exec (.worldWatchdogExpiry h) s) := by
  simp [exec_worldWatchdogExpiry, execWorldWatchdogExpiry]
@[simp] theorem keepsLow_watchdogKick (h : Fin 8) (r : Req) (s : State) : KeepsLow s (exec (.watchdogKick h r) s) := by
  rw [exec_watchdogKick]
  unfold execWatchdogKick
  split
  · simp
  · split
    · next hr => simp [State.checkReq_low hr]
    · simp

/-! ### Compass (R509 to R529) -/

@[simp] theorem State.keepsLow_commandNv (s : State) (m op lcMask : Nat) (inner recov : Bool) (body : State → CmdRes) (h : ∀ t, (body t).s.low = t.low) :
    KeepsLow s (s.commandNv m op lcMask inner recov body) := by
  simp [State.commandNv, h]
@[simp] theorem State.ksSet_low (s : State) (g : KeyStore → KeyStore) : (s.ksSet g).low = s.low := by simp [State.ksSet]
@[simp] theorem keepsLow_getInfo (m : Fin 8) (s : State) : KeepsLow s (exec (.getInfo m) s) := by simp [exec_getInfo, execGetInfo]
@[simp] theorem keepsLow_getBootstat (m : Fin 8) (s : State) : KeepsLow s (exec (.getBootstat m) s) := by simp [exec_getBootstat, execGetBootstat]
@[simp] theorem keepsLow_echo (m : Fin 8) (s : State) : KeepsLow s (exec (.echo m) s) := by simp [exec_echo, execEcho]
@[simp] theorem CmdRes.orRun_low (s : State) (e : Nat) (k : CmdRes) (h : k.s.low = s.low) : (CmdRes.orRun s e k).s.low = s.low := by
  simp [CmdRes.orRun, h]
@[simp] theorem State.withToken_low (s : State) (m op kind : Nat) (k : State → CmdRes) (h : ∀ t, (k t).s.low = t.low) :
    (s.withToken m op kind k).s.low = s.low := by
  simp [State.withToken, h]
@[simp] theorem State.lcSet_low (s : State) (lc : Nat) : (s.lcSet lc).low = s.low := by
  simp [State.lcSet]
@[simp] theorem keepsLow_provDevid (m : Fin 8) (secret attest devId : Nat) (s : State) : KeepsLow s (exec (.provDevid m secret attest devId) s) := by
  simp [exec_provDevid, execProvDevid]
@[simp] theorem keepsLow_lcChallenge (m : Fin 8) (nonce : List Nat) (s : State) : KeepsLow s (exec (.lcChallenge m nonce) s) := by
  simp [exec_lcChallenge, execLcChallenge]
@[simp] theorem keepsLow_nonceExpiry (s : State) : KeepsLow s (exec .nonceExpiry s) := by simp [exec_nonceExpiry, execNonceExpiry]
@[simp] theorem keepsLow_dbgUnlock (m : Fin 8) (s : State) : KeepsLow s (exec (.dbgUnlock m) s) := by simp [exec_dbgUnlock, execDbgUnlock]
@[simp] theorem keepsLow_provRootkey (m : Fin 8) (s : State) : KeepsLow s (exec (.provRootkey m) s) := by simp [exec_provRootkey, execProvRootkey]
@[simp] theorem keepsLow_keyRevoke (m : Fin 8) (s : State) : KeepsLow s (exec (.keyRevoke m) s) := by simp [exec_keyRevoke, execKeyRevoke]
@[simp] theorem keepsLow_measExtend (m : Fin 8) (s : State) : KeepsLow s (exec (.measExtend m) s) := by simp [exec_measExtend, execMeasExtend]
@[simp] theorem keepsLow_verifyImage (m : Fin 8) (s : State) : KeepsLow s (exec (.verifyImage m) s) := by simp [exec_verifyImage, execVerifyImage]
@[simp] theorem State.eccBank_low (s : State) (b : Nat) (bad : List Nat) : (s.eccBank b bad).low = s.low := by simp [State.eccBank]
@[simp] theorem keepsLow_updVerify (m : Fin 8) (bad : List Nat) (s : State) : KeepsLow s (exec (.updVerify m bad) s) := by
  simp [exec_updVerify, execUpdVerify]
@[simp] theorem keepsLow_updActivate (m : Fin 8) (s : State) : KeepsLow s (exec (.updActivate m) s) := by simp [exec_updActivate, execUpdActivate]
@[simp] theorem keepsLow_updConfirm (m : Fin 8) (s : State) : KeepsLow s (exec (.updConfirm m) s) := by
  rw [exec_updConfirm, execUpdConfirm]
  refine State.keepsLow_commandNv _ _ _ _ _ _ _ fun t => ?_
  dsimp only
  split <;> simp
@[simp] theorem keepsLow_updRevert (m : Fin 8) (s : State) : KeepsLow s (exec (.updRevert m) s) := by simp [exec_updRevert, execUpdRevert]
@[simp] theorem keepsLow_cfgRead (m : Fin 8) (s : State) : KeepsLow s (exec (.cfgRead m) s) := by
  rw [exec_cfgRead, execCfgRead]
  refine State.keepsLow_command _ _ _ _ _ _ _ fun t => ?_
  split
  · rfl
  · split
    · rfl
    · split <;> rfl
@[simp] theorem keepsLow_envmRefresh (m : Fin 8) (corrected : Nat) (ecc : EccObs) (nvmOk : Bool) (s : State) :
    KeepsLow s (exec (.envmRefresh m corrected ecc nvmOk) s) := by
  simp [exec_envmRefresh, execEnvmRefresh]
@[simp] theorem keepsLow_persistClear (m : Fin 8) (s : State) : KeepsLow s (exec (.persistClear m) s) := by simp [exec_persistClear, execPersistClear]
@[simp] theorem State.xspi_low (s : State) (op a n : Nat) : (s.xspi op a n).low = s.low := by simp [State.xspi]
@[simp] theorem keepsLow_xspiInit (m : Fin 8) (found : Option (Fin 4294967296 × Fin 4294967296)) (s : State) :
    KeepsLow s (exec (.xspiInit m found) s) := by
  rw [exec_xspiInit]
  unfold execXspiInit
  split <;> simp
@[simp] theorem keepsLow_xspiProgram (m : Fin 8) (ok : Bool) (s : State) : KeepsLow s (exec (.xspiProgram m ok) s) := by
  simp [exec_xspiProgram, execXspiProgram]
@[simp] theorem keepsLow_xspiErase (m : Fin 8) (ok : Bool) (s : State) : KeepsLow s (exec (.xspiErase m ok) s) := by
  simp [exec_xspiErase, execXspiErase]
@[simp] theorem keepsLow_xspiEraseDone (s : State) : KeepsLow s (exec .xspiEraseDone s) := by simp [exec_xspiEraseDone, execXspiEraseDone]

/-! ### Releases and acknowledgements (R69 to R85) -/

@[simp] theorem keepsLow_eventEnterEvr (s : State) : KeepsLow s (exec .eventEnterEvr s) := by simp [exec_eventEnterEvr, execEventEnterEvr]
@[simp] theorem keepsLow_eventRelease (b : BakObs) (s : State) : KeepsLow s (exec (.eventRelease b) s) := by
  rw [exec_eventRelease]
  unfold execEventRelease
  split <;> simp
@[simp] theorem keepsLow_lateEventRelease (b : BakObs) (s : State) : KeepsLow s (exec (.lateEventRelease b) s) := by
  rw [exec_lateEventRelease]
  unfold execLateEventRelease
  split <;> simp
@[simp] theorem keepsLow_traceRecordHandoff (s : State) : KeepsLow s (exec .traceRecordHandoff s) := by
  rw [exec_traceRecordHandoff]
  unfold execTraceRecordHandoff
  split
  · simp
  · split <;> simp
@[simp] theorem keepsLow_alarmAck (src count : Nat) (s : State) : KeepsLow s (exec (.alarmAck src count) s) := by
  rw [exec_alarmAck]
  unfold execAlarmAck
  split <;> simp

/-! ### Function-level resets (R366) -/

@[simp] theorem keepsLow_pcieFunctionLevelReset (f : Fin 256) (s : State) : KeepsLow s (exec (.pcieFunctionLevelReset f) s) := by
  simp [exec_pcieFunctionLevelReset, execPcieFunctionLevelReset]

/-! ### Store errors (R392) -/

@[simp] theorem State.storeError_low (s : State) (c : Nat) (inner : Bool) (addr : Nat) : (s.storeError c inner addr).low = s.low := by
  simp [State.storeError]

/-! ### Interrupts of the cores (R380, R397 to R415) -/

@[simp] theorem State.ckAfter_low (s : State) (c : Nat) : (s.ckAfter c).low = s.low := by simp [State.ckAfter]
@[simp] theorem State.stepped_low (s : State) (c : Nat) : (s.stepped c).low = s.low := by simp [State.stepped]
@[simp] theorem State.takeIrq_low (s : State) (c i : Nat) : (s.takeIrq c i).low = s.low := by simp [State.takeIrq]
@[simp] theorem State.irqNow_low (s : State) (c : Nat) : (s.irqNow c).low = s.low := by
  unfold State.irqNow
  split <;> simp
@[simp] theorem State.retire_low (s : State) (c npc : Nat) (o : RvObs) : (s.retire c npc o).low = s.low := by simp [State.retire]
@[simp] theorem State.wfiEnd_low (s : State) (c : Nat) : (s.wfiEnd c).low = s.low := by simp [State.wfiEnd]
@[simp] theorem keepsLow_interruptTake (c0 : Fin 8) (s : State) : KeepsLow s (exec (.interruptTake c0) s) := by
  rw [exec_interruptTake]
  unfold execInterruptTake
  dsimp only
  repeat' split
  all_goals simp
@[simp] theorem keepsLow_timerCompareMatch (c : Fin 8) (s : State) : KeepsLow s (exec (.timerCompareMatch c) s) := by
  simp [exec_timerCompareMatch, execTimerCompareMatch]
@[simp] theorem keepsLow_storeErrorResponse (c : Fin 8) (inner : Bool) (addr : Nat) (s : State) :
    KeepsLow s (exec (.storeErrorResponse c inner addr) s) := by
  simp [exec_storeErrorResponse, execStoreErrorResponse]

/-! ### Sigma-delta filters (R101 to R105) -/

@[simp] theorem keepsLow_sdfWindowRestart (m : Fin 4) (s : State) : KeepsLow s (exec (.sdfWindowRestart m) s) := by
  rw [exec_sdfWindowRestart]
  unfold execSdfWindowRestart
  split
  · simp
  · next h => simp [State.arrive_low h]
@[simp] theorem keepsLow_sdfClockLoss (m : Fin 4) (s : State) : KeepsLow s (exec (.sdfClockLoss m) s) := by simp [exec_sdfClockLoss, execSdfClockLoss]
@[simp] theorem keepsLow_sdfClockReturn (m : Fin 4) (s : State) : KeepsLow s (exec (.sdfClockReturn m) s) := by
  simp [exec_sdfClockReturn, execSdfClockReturn]

/-! ### The frame -/

/-- R135, R437: a command that is not among `writesMemory` leaves the bytes below the MSI-X pages. -/
theorem keepsLow_of_not_writesMemory {i : Instr} (hi : writesMemory i = false) (s : State) : KeepsLow s (exec i s) := by
  cases i
  all_goals first
    | exact absurd hi Bool.true_eq_false.mp
    | simp

/-- Settles O58: the bytes below the MSI-X pages are the same function before and after the command. -/
theorem memoryFrame : Obligations.MemoryFrame := by
  unfold Obligations.MemoryFrame
  intro i s t a hi hstep ha
  have hlow : t.low = s.low := keepsLow_of_not_writesMemory hi s t hstep
  simpa [State.low, ha] using congrFun hlow a

end Sys2Proof.Machine
end

section
/-! PROOFS. Commands to the power dies (R188 to R193): what a write of a command is answered, what the link does with the front frame of a die's queue,
and the statement O18. -/

namespace Sys2Proof.Machine

open Sys2Proof

/-! ### The write of a command (R188, R189, R191) -/

section Written

variable {n : Fin 40} {r : Req} {s : State}

/-- R447: a write of a command that the checkers refuse is answered with an error. -/
theorem State.pscWritten_denied {t : State} (op : Nat) (hn : hasPsc s.part n = true) (hcheck : s.checkReq (a_PSC_CMD n) r .write = some t) :
    s.pscWritten n op r none = .next (t.emit (.resp r.id true 0)) := by
  simp [State.pscWritten, State.pscAt, hn, hcheck]

/-- An admitted write to the channel's own register goes to the PSC block, and what the block does not take is answered with an error. -/
theorem State.pscWritten_own (op : Nat) (hn : hasPsc s.part n = true) (hcheck : s.checkReq (a_PSC_CMD n) r .write = none) :
    s.pscWritten n op r none = if (s.pscCommand n op r none).2 = true then .next (s.pscCommand n op r none).1
      else .next ((s.pscCommand n op r none).1.emit (.resp r.id true 0)) := by
  simp only [State.pscWritten, State.pscAt, hn, hcheck, Bool.not_true, Bool.false_eq_true, if_false]
  rfl

/-- R188: a defined operation of the channel's owner goes to the end of its die's queue, which has room, and CMDPEND is set. -/
theorem State.pscCommand_queued {op : Nat} (hop : 1 ≤ op ∧ op ≤ 5) (hidle : s.idling 85 = false) (howns : s.pscOwns n r none = true)
    (hroom : (s.psc.queue.get (pscDieOf n)).length < 64) :
    s.pscCommand n op r none = (State.set
      { s with psc := { s.psc with queue := s.psc.queue.upd (pscDieOf n) (fun q => q ++ [{ n := n, op := op }]) } } (PSC_STAT_CMDPEND n) 1, true) := by
  rw [State.pscCommand, if_neg (by simp [hidle]), if_neg (by simp [howns]), if_neg (by omega)]
  exact if_neg (Nat.not_le.mpr hroom)

/-- R189, R191: an operation of another owner is a violation, sets REFUSED and is not taken. -/
theorem State.pscCommand_notOwned (op : Nat) (hidle : s.idling 85 = false) (howns : s.pscOwns n r none = false) :
    s.pscCommand n op r none = ((s.refuse (a_PSC_CMD n) r .write 9 0x4200_0000).pscRefuse n, false) := by
  rw [State.pscCommand, if_neg (by simp [hidle]), if_pos (by simp [howns])]

/-- R188: a write of a defined operation by the channel's owner queues the command. -/
theorem State.pscWritten_queued {op : Nat} (hop : 1 ≤ op ∧ op ≤ 5) (hn : hasPsc s.part n = true) (hcheck : s.checkReq (a_PSC_CMD n) r .write = none)
    (hidle : s.idling 85 = false) (howns : s.pscOwns n r none = true) (hroom : (s.psc.queue.get (pscDieOf n)).length < 64) :
    s.pscWritten n op r none = .next (State.set
      { s with psc := { s.psc with queue := s.psc.queue.upd (pscDieOf n) (fun q => q ++ [{ n := n, op := op }]) } } (PSC_STAT_CMDPEND n) 1) := by
  rw [State.pscWritten_own op hn hcheck, State.pscCommand_queued hop hidle howns hroom, if_pos rfl]

/-- R189, R191: a write by another owner is answered with an error. -/
theorem State.pscWritten_notOwned (op : Nat) (hn : hasPsc s.part n = true) (hcheck : s.checkReq (a_PSC_CMD n) r .write = none)
    (hidle : s.idling 85 = false) (howns : s.pscOwns n r none = false) :
    s.pscWritten n op r none = .next (((s.refuse (a_PSC_CMD n) r .write 9 0x4200_0000).pscRefuse n).emit (.resp r.id true 0)) := by
  rw [State.pscWritten_own op hn hcheck, State.pscCommand_notOwned op hidle howns, if_neg Bool.false_ne_true]

/-- R474: an admitted write to the copy of the register that a page of `viPage` holds is served by that page. -/
theorem State.pscWritten_page {i a : Nat} (op : Nat) (hat : s.pscAt n (some i) = some a) (hn : hasPsc s.part n = true)
    (hcheck : s.checkReq a r .write = none) :
    s.pscWritten n op r (some i) = .next (if (s.viPage r .write a 4 op).2 = .error then (s.viPage r .write a 4 op).1.emit (.resp r.id true 0)
      else (s.viPage r .write a 4 op).1) := by
  by_cases herr : (s.viPage r .write a 4 op).2 = .error <;> simp [State.pscWritten, hat, hn, hcheck, State.pscTaken, herr]

end Written

/-! ### The frames on the link of a die (R190, R192) -/

section Link

variable {f : Fin 2} {c : PscCmd} {q : List PscCmd} {s : State}

/-- R190, R192: the front frame reaches a die that takes frames: one with a CRC error is discarded and counted, one already applied is left. -/
theorem exec_pscCommandApply_front (crcOk : Bool) (hq : s.psc.queue.get f = c :: q) (htakes : s.pscTakes f = true) (hdie : hasDie s.part f = true) :
    exec (.pscCommandApply f crcOk none) s = .next (
      if crcOk = false then s.inc (PSC_LINKSTAT_CRCERR f)
      else if c.applied = true then s
      else (State.pscStep { s with psc := { s.psc with queue := s.psc.queue.put f ({ c with applied := true } :: q) } } f 5).pscApply c.n c.op) := by
  rw [exec_pscCommandApply, execPscCommandApply, if_neg (by simp [hdie]), hq]
  cases crcOk <;> cases happ : c.applied <;> simp [htakes, happ]

/-- R217 to R219, R221: no frame reaches a die that takes none. -/
theorem exec_pscCommandApply_untaken (crcOk : Bool) (htakes : s.pscTakes f = false) (hdie : hasDie s.part f = true) :
    exec (.pscCommandApply f crcOk none) s = .next s := by
  rw [exec_pscCommandApply, execPscCommandApply, if_neg (by simp [hdie])]
  cases hq : s.psc.queue.get f with
  | nil => rfl
  | cons c q => exact if_pos (by simp [htakes])

/-- R221: a die that follows the other half of a twin applies what arrives on that half's port. -/
theorem exec_pscCommandApply_other {n : Fin 40} {op : Fin 16} (htwin : isTwin s.part = true) (hmine : s.dieMine = false)
    (hhold : (s.psc.die.get f).hold = false) (hoff : (s.psc.die.get f).off = false) (hn : pscDieOf n = f) (hlo : 1 ≤ op.val) (hhi : op.val ≤ 5)
    (hdie : hasDie s.part f = true) : exec (.pscCommandApply f true (some (n, op))) s = .next ((s.pscStep f 5).pscApply n op) := by
  rw [exec_pscCommandApply, execPscCommandApply, if_neg (by simp [hdie])]
  exact if_pos (by simp [htwin, hmine, hhold, hoff, hn, hlo, hhi])

/-- R190, R226: only the acknowledgement of an applied front frame counts: intact it takes the frame off, with a CRC error it is counted. -/
theorem exec_pscAckReceive_front (crcOk : Bool) (hq : s.psc.queue.get f = c :: q) (hdie : hasDie s.part f = true) :
    exec (.pscAckReceive f crcOk) s = .next (
      if c.applied = false then s else if crcOk = false then s.inc (PSC_LINKSTAT_CRCERR f) else s.pscPop f) := by
  rw [exec_pscAckReceive, execPscAckReceive, if_neg (by simp [hdie]), hq]
  cases happ : c.applied <;> cases crcOk <;> simp [happ]

/-- R190: the front frame leaves the queue, and CMDPEND stays for another command of its channel. -/
theorem State.pscPop_front (hq : s.psc.queue.get f = c :: q) :
    s.pscPop f = State.set { s with psc := { s.psc with queue := s.psc.queue.put f q } } (PSC_STAT_CMDPEND c.n) (b2n (q.any (fun d => d.n == c.n))) := by
  simp only [State.pscPop, hq]

/-- R190: an unacknowledged front frame is resent three times, and then has failed. -/
theorem exec_pscAckTimeout_front (hq : s.psc.queue.get f = c :: q) (hdie : hasDie s.part f = true) :
    exec (.pscAckTimeout f) s = .next (
      if c.resent < 3 then
        State.inc { s with psc := { s.psc with queue := s.psc.queue.put f ({ c with resent := c.resent + 1 } :: q) } } (PSC_LINKSTAT_RETRIES f)
      else s.pscFail f) := by
  rw [exec_pscAckTimeout, execPscAckTimeout, if_neg (by simp [hdie]), hq]
  by_cases hres : c.resent < 3 <;> simp [hres]

/-- R190: the failed front frame leaves the queue with CMDFAIL, FAILS and the causes 14 of its channel and 3 of its die. -/
theorem State.pscFail_front {u : State} (hq : s.psc.queue.get f = c :: q)
    (hu : u = ((s.pscPop f).set (PSC_STAT_CMDFAIL c.n) 1).inc (PSC_LINKSTAT_FAILS f)) :
    s.pscFail f = (u.pscRaise c.n 14).dieRaise f 3 (u.get (PSC_LINKSTAT_FAILS f)) := by
  simp only [State.pscFail, hq, hu]

end Link

/-- Settles O18: the writes of the five operations are one command with its number, and each other clause is the branch that its premises choose. -/
theorem pscCommands : Obligations.PscCommands := by
  unfold Obligations.PscCommands
  refine ⟨?on, ?off, ?pwm, ?clear, ?olcheck, ?pageOn, ?pageOff, ?pagePwm, ?pageClear, ?pageOlcheck, ?notOwned, ?denied, ?apply, ?applied, ?crcError,
    ?untaken, ?otherHalf, ?ack, ?ackCrcError, ?ackEarly, ?resend, ?fail⟩
  case on => exact fun n r s => State.pscWritten_queued (op := 1) (by decide)
  case off => exact fun n r s => State.pscWritten_queued (op := 2) (by decide)
  case pwm => exact fun n r s => State.pscWritten_queued (op := 3) (by decide)
  case clear => exact fun n r s => State.pscWritten_queued (op := 4) (by decide)
  case olcheck => exact fun n r s => State.pscWritten_queued (op := 5) (by decide)
  case pageOn => exact fun n r i a x s hat hn hcheck hx => hx ▸ State.pscWritten_page 1 hat hn hcheck
  case pageOff => exact fun n r i a x s hat hn hcheck hx => hx ▸ State.pscWritten_page 2 hat hn hcheck
  case pagePwm => exact fun n r i a x s hat hn hcheck hx => hx ▸ State.pscWritten_page 3 hat hn hcheck
  case pageClear => exact fun n r i a x s hat hn hcheck hx => hx ▸ State.pscWritten_page 4 hat hn hcheck
  case pageOlcheck => exact fun n r i a x s hat hn hcheck hx => hx ▸ State.pscWritten_page 5 hat hn hcheck
  case notOwned => exact fun n r s => State.pscWritten_notOwned 1
  case denied => exact fun n r t s => State.pscWritten_denied 1
  case apply =>
    intro f c q s hq happ htakes hdie
    rw [exec_pscCommandApply_front true hq htakes hdie, if_neg (by simp), if_neg (by simp [happ])]
  case applied =>
    intro f c q s hq happ hdie
    cases htakes : s.pscTakes f with
    | false => exact exec_pscCommandApply_untaken true htakes hdie
    | true => rw [exec_pscCommandApply_front true hq htakes hdie, if_neg (by simp), if_pos happ]
  case crcError =>
    intro f c q s hq htakes hdie
    rw [exec_pscCommandApply_front false hq htakes hdie, if_pos rfl]
  case untaken => exact fun f b s => exec_pscCommandApply_untaken b
  case otherHalf => exact fun f n op s => exec_pscCommandApply_other
  case ack =>
    intro f c q s hq happ hdie
    rw [exec_pscAckReceive_front true hq hdie, if_neg (by simp [happ]), if_neg (by simp), State.pscPop_front hq]
  case ackCrcError =>
    intro f c q s hq happ hdie
    rw [exec_pscAckReceive_front false hq hdie, if_neg (by simp [happ]), if_pos rfl]
  case ackEarly =>
    intro f c q b s hq happ hdie
    rw [exec_pscAckReceive_front b hq hdie, if_pos happ]
  case resend =>
    intro f c q s hq hres hdie
    rw [exec_pscAckTimeout_front hq hdie, if_pos hres]
  case fail =>
    intro f c q s hq hres hdie
    refine ⟨_, rfl, ?_⟩
    rw [exec_pscAckTimeout_front hq hdie, if_neg (by omega), State.pscFail_front hq rfl]

end Sys2Proof.Machine
end

section
/-! PROOFS. Measurements of the power dies (R196 to R201): what a sample keeps and shows, the range, the record of a millisecond, the open-load checks, and
the statement O19. -/

namespace Sys2Proof.Machine

open Sys2Proof

/-! ### The range of a channel (R197) -/

/-- R197: a channel's range follows LOWRANGE and, with it, the last sample in the low range or the run of small samples in the normal one. -/
theorem exec_pscRangeSwitch_carried {n : Fin 40} {low : Bool} {s : State} (hn : hasPsc s.part n = true)
    (hlow : low = (s.dget (PSC_CFG_LOWRANGE n) != 0 &&
      (if (s.psc.ch.get n).low then decide ((s.psc.ch.get n).lastI ≤ 5500) else decide (50 ≤ (s.psc.ch.get n).lowRun)))) :
    exec (.pscRangeSwitch n) s = .next ((s.chUpd n (fun c => { c with low := low })).pscShow n) := by
  rw [exec_pscRangeSwitch, execPscRangeSwitch, if_neg (by simp [hn]), hlow]

/-! ### The record of the last millisecond (R199) -/

/-- R199: the record of the last millisecond: the time, the currents of the feeds, current and voltage of each channel, and zeros. -/
def State.pscRecord (s : State) : List Nat :=
  toBytes 8 s.nowNs ++ toBytes 2 (s.get (PSC_FEEDSTAT_ISUM 0)) ++ toBytes 2 (s.get (PSC_FEEDSTAT_ISUM 1)) ++ toBytes 4 0 ++
    (List.range 40).flatMap (fun k => toBytes 2 (s.get (PSC_CURAVG_I k)) ++ toBytes 2 (ofS 16 (s.psc.ch.get k).vmean)) ++ List.replicate 80 0

/-- R199: a record has 256 bytes. -/
theorem State.pscRecord_length (s : State) : s.pscRecord.length = 256 := by
  simp [State.pscRecord, toBytes_length, List.length_flatMap]

/-- R199: the record is written at WR of its ring of `n` records, and WR moves on. -/
theorem exec_pscRecordWrite_written {n : Nat} {s : State} (hring : n = 2 ^ (s.get PSC_RECCTL_SIZE + 12) / 256) (hen : s.on PSC_RECCTL_EN = true)
    (hcheck : s.checkReq (s.get PSC_RECBASE_BASE * 4096 + s.get PSC_RECWR_WR % n * 256) (ownReq 14) .write = none) :
    exec (.pscRecordWrite false) s = .next ((s.setBytes (s.get PSC_RECBASE_BASE * 4096 + s.get PSC_RECWR_WR % n * 256) s.pscRecord).set PSC_RECWR_WR
      (ringNext (s.get PSC_RECWR_WR % n) n)) := by
  subst hring
  have hwrite := State.fabWrite_admitted hcheck (bs := s.pscRecord) (by rw [State.pscRecord_length]; omega)
  rw [State.pscRecord] at hwrite ⊢
  rw [exec_pscRecordWrite, execPscRecordWrite, if_neg (by simp [hen])]
  simp only [hwrite, if_true]

/-! ### Open-load checks (R200, R201) -/

/-- R200: the end of the settle time of a check takes the pull-up off, and finds an open load where the output is above the threshold. -/
theorem exec_offstateCheckSettled_checking {n : Fin 40} (v : Int) {s : State} (hcheck : (s.psc.ch.get n).checking = true) (hn : hasPsc s.part n = true) :
    exec (.offstateCheckSettled n v) s = .next (
      if (s.dget (PSC_OL_OLTHR n) : Int) * 50 < v then
        (((s.chUpd n (fun c => { c with checking := false })).pscFlag n 14).chUpd n (fun c => { c with oldet := satU 8 (c.oldet + 1) })).pscEvent n 9
      else s.chUpd n (fun c => { c with checking := false })) := by
  rw [exec_offstateCheckSettled, execOffstateCheckSettled, if_neg (by simp [hn]), if_neg (by simp [hcheck])]
  simp only [apply_ite Host.Outcome.next]

/-- Settles O19: each clause is the branch of its command that the clause's premises choose. -/
theorem pscMeasurement : Obligations.PscMeasurement := by
  unfold Obligations.PscMeasurement
  refine ⟨?current, ?voltage, ?average, ?currentHeld, ?feed, ?temperature, ?badFrame, ?lowRange, ?normalRange, ?noLowRange, ?record, ?checkStart,
    ?openLoad, ?noOpenLoad, ?onStateOpen⟩
  case current =>
    intro n i s hheld hcarried
    rw [exec_pscSample, execPscSample, if_neg (by simp [hcarried])]
    exact if_neg (by simp [hheld])
  case voltage =>
    intro n v s hheld hcarried
    rw [exec_pscSample, execPscSample, if_neg (by simp [hcarried])]
    exact if_neg (by simp [hheld])
  case average =>
    rintro n m s hheld hcnt rfl hcarried
    rw [exec_pscSample, execPscSample, if_neg (by simp [hcarried])]
    simp [hheld, hcnt]
  case currentHeld =>
    intro n i s hheld hcarried
    rw [exec_pscSample, execPscSample, if_neg (by simp [hcarried])]
    exact if_pos hheld
  case feed =>
    rintro f vpwr u s hhold rfl hcarried
    rw [exec_pscSample, execPscSample, if_neg (by simp [hcarried])]
    exact if_neg (by simp [hhold])
  case temperature =>
    intro g t s hcool hwarm hhold hcarried
    rw [exec_pscSample, execPscSample, if_neg (by simp [hcarried])]
    simp [hhold, hcool, Int.not_le.mpr hwarm]
  case badFrame =>
    intro f s hhold hcarried
    rw [exec_pscSample, execPscSample, if_neg (by simp [hcarried])]
    exact if_neg (by simp [hhold])
  case lowRange =>
    intro n s hlow hset hn
    exact exec_pscRangeSwitch_carried hn (by simp [hlow, hset])
  case normalRange =>
    intro n s hlow hset hn
    exact exec_pscRangeSwitch_carried hn (by simp [hlow, hset])
  case noLowRange =>
    intro n s hset hn
    exact exec_pscRangeSwitch_carried hn (by simp [hset])
  case record => exact fun s hen hcheck => exec_pscRecordWrite_written rfl hen hcheck
  case checkStart =>
    intro n periodic v s hoff hset hn
    rw [exec_offstateCheckStart, execOffstateCheckStart, if_neg (by simp [hn]), if_pos (by simp [hoff, hset])]
  case openLoad =>
    intro n v s hcheck hv hn
    rw [exec_offstateCheckSettled_checking v hcheck hn, if_pos hv]
  case noOpenLoad =>
    intro n v s hcheck hv hn
    rw [exec_offstateCheckSettled_checking v hcheck hn, if_neg (Int.not_lt.mpr hv)]
  case onStateOpen =>
    intro n largest s honol hlow hst hinrush hlargest hn
    rw [exec_onstateOpenLoad, execOnstateOpenLoad, if_neg (by simp [hn])]
    exact if_pos (by simp [honol, hlow, hst, hinrush, Nat.lt_min.mp hlargest])

end Sys2Proof.Machine
end

section
/-! PROOFS. Links, holds and PLCA of the Ethernet ports (R229, R230, R237, R253, R254): how a port comes up, what ends its hold and what a beacon does, and
the statement O22. -/

namespace Sys2Proof.Machine

open Sys2Proof

/-- R229, R253, R326: an enabled port that was down goes up with its link, with cause 1. -/
theorem State.linkUp_enabled {s u : State} {n speed : Nat}
    (hu : u = ((((State.ethSettle { s with esw := { s.esw with fault := putBit s.esw.fault n false } } n).set (EPORT_PHYSTAT_LINK n) 1).set
      (EPORT_PHYSTAT_LOCK n) 1).set (EPORT_STAT_SPEED n) speed).wakeConfirm (if n < 12 then 24 + n else 64))
    (hen : u.on (EPORT_CFG_EN n) = true) (hdown : u.portUp n = false) :
    s.linkUp n speed = (((u.set (EPORT_STAT_STATE n) 3).raiseC (232 + n) 1 0).pinPortUp n).ethSettle n := by
  subst hu
  exact if_pos (by rw [hen, hdown]; rfl)

/-- R229: the speed code that a port between 2 and 15 shows follows from its number alone. -/
theorem exec_portLinkUp_fixedSpeed {p : Fin 18} {s : State} (speed sqi : Nat) (hlive : s.phyLive p = true) (hlo : 2 ≤ p.val) (hhi : p.val < 16)
    (hport : hasPort s.part p = true) :
    exec (.portLinkUp p speed sqi) s =
      .next ((s.set (EPORT_PHYSTAT_SQI p) sqi).linkUp p (if p.val < 8 then 3 else if p.val < 12 then 2 else 1)) := by
  rw [exec_portLinkUp, execPortLinkUp, if_neg (by simp [hport]), if_neg (by simp [hlive])]
  simp only [if_neg (Nat.not_lt.mpr hlo), if_pos hhi]

/-- R253: a hold that expires flushes the port's queues and takes it down with cause 3; a port in another state has no hold. -/
theorem exec_portHoldExpiry_carried {p : Fin 18} {s : State} (hport : hasPort s.part p = true) :
    exec (.portHoldExpiry p) s = .next (
      if s.get (EPORT_STAT_STATE p) = 2 then ((s.flushPort p).set (EPORT_STAT_STATE p) 1).raiseC (232 + p) 3 0 else s) := by
  rw [exec_portHoldExpiry, execPortHoldExpiry, if_neg (by simp [hport])]
  simp only [apply_ite Host.Outcome.next]

/-- R230: a PLCA cycle of an enabled port with a live PHY: node 0 sends the beacon, and a follower whose port is down comes up. -/
theorem exec_plcaBeacon_enabled {p : Fin 4} {s : State} (hplca : s.on (EPORT_PLCA_EN (12 + p.val)) = true) (hen : s.on (EPORT_CFG_EN (12 + p.val)) = true)
    (hlive : s.phyLive (12 + p.val) = true) (hport : hasPort s.part (12 + p) = true) :
    exec (.plcaBeacon p) s = .next (
      if s.get (EPORT_PLCA_NODEID (12 + p.val)) = 0 then
        s.emit (.link "PLCA_BEACON" [12 + p.val, s.get (EPORT_PLCA_NCNT (12 + p.val)), s.get (EPORT_PLCA_TO (12 + p.val))])
      else if s.get (EPORT_PLCA_NODEID (12 + p.val)) = 255 ∨ s.portUp (12 + p.val) = true then s
      else s.linkUp (12 + p.val) 1) := by
  rw [exec_plcaBeacon, execPlcaBeacon, if_neg (by simp [hport])]
  simp [hplca, hen, hlive, apply_ite Host.Outcome.next]

/-- Settles O22: each clause is the branch of its command that the clause's premises choose. -/
theorem ethernetPorts : Obligations.EthernetPorts := by
  unfold Obligations.EthernetPorts
  refine ⟨?linkDown, ?linkUp, ?noPhy, fun p s => rfl, ?holdExpires, ?noHold, ?disable, ?beaconLost, ?coordinator, ?follower⟩
  case linkDown =>
    intro p s hport
    rw [exec_portLinkDown, execPortLinkDown, if_neg (by simp [hport])]
  case linkUp =>
    rintro p speed sqi sp u s hlive hlo hhi rfl hu hen hdown hport
    rw [exec_portLinkUp_fixedSpeed speed sqi hlive hlo hhi hport, State.linkUp_enabled hu hen hdown]
  case noPhy =>
    intro p speed sqi s hlive hport
    rw [exec_portLinkUp, execPortLinkUp, if_neg (by simp [hport]), if_pos (by simp [hlive])]
  case holdExpires =>
    intro p s hhold hport
    rw [exec_portHoldExpiry_carried hport, if_pos hhold]
  case noHold =>
    intro p s hhold hport
    rw [exec_portHoldExpiry_carried hport, if_neg hhold]
  case disable =>
    rintro p u s rfl hport
    rw [exec_portDisable, execPortDisable, if_neg (by simp [hport])]
  case beaconLost =>
    intro p s hplca hid hplain hlink hport
    rw [exec_plcaBeaconTimeout, execPlcaBeaconTimeout, if_neg (by simp [hport])]
    exact if_pos (by simp [hplca, hid, hplain, hlink])
  case coordinator =>
    intro p s hplca hen hlive hid hport
    rw [exec_plcaBeacon_enabled hplca hen hlive hport, if_pos hid]
  case follower =>
    intro p u s hplca hen hlive hid hplain hdown hu hen' hdown' hport
    rw [exec_plcaBeacon_enabled hplca hen hlive hport, if_neg hid, if_neg (by simp [hplain, hdown]),
      State.linkUp_enabled (by rw [hu, if_neg (by omega : ¬ 12 + p.val < 12)]) hen' hdown']

end Sys2Proof.Machine
end

section
/-! PROOFS. Frames of the switch ports and gate lists (R237, R250, R255, R256, R261, R340): which frame a port takes and sends, and the statement O23. -/

namespace Sys2Proof.Machine

open Sys2Proof

/-- The part carries port `p`: the internal ports 18 to 21 are in every part (R1, R227). -/
def State.carriesPort (s : State) (p : Nat) : Bool := decide (18 ≤ p) || hasPort s.part p

/-- The port takes no frame: it is down, it is port 21, which only sends, or a frame waits at it (R237, R250). -/
def State.portShut (s : State) (p : Nat) : Bool := !s.portUp p || p == 21 || (s.esw.wait.get p).isSome

/-- An up port but 21 at which no frame waits is not shut. -/
theorem State.portShut_eq_false_iff {s : State} {p : Nat} : s.portShut p = false ↔ s.portUp p = true ∧ p ≠ 21 ∧ s.esw.wait.get p = none := by
  simp [State.portShut, and_assoc]

section Receive

variable {p : Fin 22} {s : State}

/-- R237, R250: a shut port takes no frame. -/
theorem exec_frameReceive_shut (rx : EthRx) (hshut : s.portShut p = true) (hport : s.carriesPort p = true) :
    exec (.frameReceive p rx) s = .next s := by
  rw [State.carriesPort] at hport
  rw [exec_frameReceive, execFrameReceive, if_neg (by simp [hport])]
  exact if_pos hshut

/-- R237, R348: a port that is not looped takes the frame; port 20 takes what the gateway offers. -/
theorem exec_frameReceive_open (rx : EthRx) (hopen : s.portShut p = false) (hloop : (decide (p.val < 18) && s.on (EPORT_PHYCFG_LPBK p)) = false)
    (hport : s.carriesPort p = true) :
    exec (.frameReceive p rx) s = .next (
      if p.val = 20 then
        (if s.gwOffers rx.bytes = true then (State.ethReceive { s with gw := { s.gw with port := some rx.bytes } } p rx).gwEntered else s)
      else s.ethReceive p rx) := by
  rw [State.carriesPort] at hport
  rw [State.portShut] at hopen
  rw [exec_frameReceive, execFrameReceive, if_neg (by simp [hport]), if_neg (by simp [hopen]), if_neg (by simp [hloop])]
  simp only [apply_ite Host.Outcome.next]

/-- R276: a port with a looped PHY receives the oldest frame that it has sent. -/
theorem exec_frameReceive_looped {x : Nat × List Nat} (rx : EthRx) (hopen : s.portShut p = false) (hp : p.val < 18)
    (hloop : s.on (EPORT_PHYCFG_LPBK p) = true) (hfind : s.esw.looped.find? (fun x => x.1 == p.val) = some x) (hport : s.carriesPort p = true) :
    exec (.frameReceive p rx) s =
      .next (State.ethReceive { s with esw := { s.esw with looped := s.esw.looped.erase x } } p { rx with bytes := x.2 }) := by
  rw [State.carriesPort] at hport
  rw [State.portShut] at hopen
  rw [exec_frameReceive, execFrameReceive, if_neg (by simp [hport]), if_neg (by simp [hopen]), if_pos (by simp [hp, hloop]), hfind]

end Receive

/-- R255, R340: a port that is up and whose last frame has ended starts its next one; another port is only settled. -/
theorem exec_frameTransmit_carried {p : Fin 22} {s u : State} (hu : u = s.ethEnds.ethSettle p) (hport : s.carriesPort p = true) :
    exec (.frameTransmit p) s = .next (
      if u.portUp p = true ∧ (u.ethTx p).endNs ≤ u.pow.elapsed then
        State.ethSend (fun t q => p.val != 20 || t.gwReady q) (1 + (List.range 8).foldl (fun a q => a + (u.ethQ p q).length) 0) u p
      else u) := by
  rw [State.carriesPort] at hport
  rw [exec_frameTransmit, execFrameTransmit, if_neg (by simp [hport])]
  simp only [← hu, Bool.and_eq_true, decide_eq_true_eq, apply_ite Host.Outcome.next]

/-- R256: a write of 1 to CHANGE starts the change of the gate list, unless one is pending. -/
theorem exec_gclChangeWrite_carried {p : Fin 18} {s : State} (hport : hasPort s.part p = true) :
    exec (.gclChangeWrite p) s = .next (
      if s.on (EPORT_GCLCTL_CHANGE p) = true then s else (s.mirrored (a_EPORT_GCLCTL p) (s.regNow (a_EPORT_GCLCTL p) + 2 ^ 30)).gateChange p) := by
  rw [exec_gclChangeWrite, execGclChangeWrite, if_neg (by simp [hport])]
  simp only [apply_ite Host.Outcome.next]

/-- Settles O23. -/
theorem ethernetFrames : Obligations.EthernetFrames := by
  unfold Obligations.EthernetFrames
  refine ⟨?line, ?gateway, ?looped, ?notTaken, ?send, ?noSend, ?resume, ?gateEntry, ?change, ?changePending, ?changeTime, ?streamChange,
    fun g s => ⟨rfl, rfl⟩⟩
  case line =>
    intro p rx s hup hp hwait hloop hport
    rw [exec_frameReceive_open rx (State.portShut_eq_false_iff.2 ⟨hup, by omega, hwait⟩) hloop hport, if_neg (by omega)]
  case gateway =>
    intro p rx s hup hp hwait hoffer hport
    rw [exec_frameReceive_open rx (State.portShut_eq_false_iff.2 ⟨hup, by omega, hwait⟩) (by simp [hp]) hport, if_pos hp, if_pos hoffer]
  case looped =>
    intro p rx x s hup hp hwait hloop hfind hport
    exact exec_frameReceive_looped rx (State.portShut_eq_false_iff.2 ⟨hup, by omega, hwait⟩) hp hloop hfind hport
  case notTaken =>
    intro p rx s hnot hport
    cases hshut : s.portShut p with
    | true => exact exec_frameReceive_shut rx hshut hport
    | false =>
      obtain ⟨hup, hne, hwait⟩ := State.portShut_eq_false_iff.1 hshut
      obtain ⟨hp, hnone⟩ : p.val = 20 ∧ s.gwOffers rx.bytes = false := by simpa [hup, hne, hwait] using hnot
      rw [exec_frameReceive_open rx hshut (by simp [hp]) hport, if_pos hp, if_neg (by simp [hnone])]
  case send =>
    intro p u s hu hup hidle hport
    rw [exec_frameTransmit_carried hu hport, if_pos ⟨hup, hidle⟩]
  case noSend =>
    intro p u s hu hdown hport
    rw [exec_frameTransmit_carried hu hport, if_neg (by simp [hdown])]
  case resume =>
    intro p w s hwait
    simp only [exec_internalIngressResume, execInternalIngressResume, hwait]
  case gateEntry =>
    intro p s hport
    rw [exec_gateEntryAdvance, execGateEntryAdvance, if_neg (by simp [hport])]
  case change =>
    intro p s hfree hport
    rw [exec_gclChangeWrite_carried hport, if_neg (by simp [hfree])]
  case changePending =>
    intro p s hpending hport
    rw [exec_gclChangeWrite_carried hport, if_pos hpending]
  case changeTime =>
    intro p s hport
    rw [exec_gateListChange, execGateListChange, if_neg (by simp [hport])]
  case streamChange =>
    intro g s hfree
    rw [exec_streamGateChangeWrite, execStreamGateChangeWrite, if_neg (by simp [hfree])]

end Sys2Proof.Machine
end

section
/-! PROOFS. The forwarding table, pin groups, sequence recovery and the sample ring (R241, R243 to R245, R249, R264, R266, R267): what a command of the table
starts, where a sample record goes, and the statement O24. -/

namespace Sys2Proof.Machine

open Sys2Proof

/-! ### Commands of the forwarding table (R243, R244) -/

/-- R243: the command of operation `op`, with the key and the data that the registers show when it starts. -/
def State.fdbCommand (s : State) (op : Nat) : FdbOp :=
  { op := op, key := (s.set ESW_FDBCMD_OP op).get ESW_FDBKEY_VID * 2 ^ 48 + (s.set ESW_FDBCMD_OP op).get ESW_FDBKEY_MAC,
    data := (s.set ESW_FDBCMD_OP op).fieldsRead fdbOut, frame := s.esw.nextId }

/-- R243: the state that holds the command of operation `op` until it completes. -/
def State.fdbHeld (s : State) (op : Nat) : State := { s.set ESW_FDBCMD_OP op with esw := { s.esw with fdb := some (s.fdbCommand op) } }

section Start

variable {s : State} {op : Nat}

/-- R243, R270: an operation from 1 to 6, started while no command runs, is held and GO reads 1; half A of a twin also sends it over the mirror link. -/
theorem State.fdbGo_starts (hop : 1 ≤ op ∧ op ≤ 6) (hfree : s.esw.fdb = none) :
    s.fdbGo op = State.set (if s.part = .twinA then
      (s.fdbHeld op).emit (.link "MIRROR_FDBCMD" [op, (s.fdbCommand op).key, (s.fdbCommand op).data]) else s.fdbHeld op) ESW_FDBCMD_GO 1 := by
  rw [State.fdbGo, if_neg (by simp [hfree]), if_neg (by omega)]
  rfl

/-- R243: what starts on a part that is not half A of a twin. -/
theorem State.fdbGo_starts_unmirrored (hop : 1 ≤ op ∧ op ≤ 6) (hpart : s.part ≠ .twinA) (hfree : s.esw.fdb = none) :
    Host.Outcome.next (s.fdbGo op) = (.next ((s.fdbHeld op).set ESW_FDBCMD_GO 1) : Host.Outcome State Fault Refusal) := by
  rw [State.fdbGo_starts hop hfree, if_neg hpart]

/-- R243, R270: what starts on half A of a twin. -/
theorem State.fdbGo_starts_mirrored (hop : 1 ≤ op ∧ op ≤ 6) (hpart : s.part = .twinA) (hfree : s.esw.fdb = none) :
    Host.Outcome.next (s.fdbGo op) =
      (.next (State.set ((s.fdbHeld op).emit (.link "MIRROR_FDBCMD" [op, (s.fdbCommand op).key, (s.fdbCommand op).data])) ESW_FDBCMD_GO 1) :
        Host.Outcome State Fault Refusal) := by
  rw [State.fdbGo_starts hop hfree, if_pos hpart]

end Start

/-- R243, R244: a command whose turn has come is carried out and GO reads 0; until then it waits. -/
theorem exec_fdbCommandComplete_started {s : State} {c : FdbOp} (hcmd : s.esw.fdb = some c) :
    exec .fdbCommandComplete s = .next (
      if s.fdbReady c = true then State.set { s.fdbRun c with esw := { (s.fdbRun c).esw with fdb := none } } ESW_FDBCMD_GO 0 else s) := by
  simp only [exec_fdbCommandComplete, execFdbCommandComplete, hcmd, apply_ite Host.Outcome.next]

/-! ### Pin groups (R249) -/

/-- A switch that holds no copy has empty queues. -/
theorem State.ethQ_empty {s : State} (hq : s.esw.queues = {}) (p q : Nat) : s.ethQ p q = [] := by
  rw [State.ethQ, hq]
  rfl

/-! ### The ring of sample records (R266, R267) -/

/-- R266, R267: the oldest record goes to WR of an enabled ring of `n` records that is not full; where its write fails, sampling ends with cause 2 of
source 260. -/
theorem exec_sampleRecordWrite_room {s t : State} {b : List Nat} {l : List (List Nat)} {parity ok : Bool} {n : Nat}
    (hring : n = 2 ^ (if 4 ≤ s.get ESW_SAMPCTL_SIZE ∧ s.get ESW_SAMPCTL_SIZE ≤ 16 then s.get ESW_SAMPCTL_SIZE else 4))
    (hq : s.esw.records = b :: l) (hen : s.on ESW_SAMPCTL_EN = true)
    (hroom : ringNext (s.get ESW_SAMPWR_WR % n) n ≠ s.get ESW_SAMPRD_RD % n)
    (hwrite : s.fabWrite 31 (s.get ESW_SAMPBASE_BASE * 4096 + 160 * (s.get ESW_SAMPWR_WR % n)) b parity = (t, ok)) :
    exec (.sampleRecordWrite parity) s = .next (
      if ok = true then State.set { t with esw := { t.esw with records := l } } ESW_SAMPWR_WR (ringNext (s.get ESW_SAMPWR_WR % n) n)
      else (t.set ESW_SAMPCTL_EN 0).raiseC 260 2 0) := by
  rw [exec_sampleRecordWrite, execSampleRecordWrite, hq]
  simp only [← hring, hen, beq_eq_false_iff_ne.mpr hroom, hwrite, Bool.not_true, Bool.false_and, Bool.or_self, Bool.false_eq_true, if_false]
  cases ok <;> simp [State.setIf]

/-- Settles O24: the twelve starts of a table command are one fact with its operation. -/
theorem forwardingTable : Obligations.ForwardingTable := by
  unfold Obligations.ForwardingTable
  refine ⟨?read, ?write, ?delete, ?flush, ?invcache, ?fence, ?readA, ?writeA, ?deleteA, ?flushA, ?invcacheA, ?fenceA, ?second, ?complete, ?waits,
    fun i w v s => rfl, fun key s => rfl, ?ages, ?noAgeing, fun k s => rfl, ?reverted, ?idle, ?record, ?recordParity⟩
  case read => exact fun s => State.fdbGo_starts_unmirrored (op := 1) (by decide)
  case write => exact fun s => State.fdbGo_starts_unmirrored (op := 2) (by decide)
  case delete => exact fun s => State.fdbGo_starts_unmirrored (op := 3) (by decide)
  case flush => exact fun s => State.fdbGo_starts_unmirrored (op := 4) (by decide)
  case invcache => exact fun s => State.fdbGo_starts_unmirrored (op := 5) (by decide)
  case fence => exact fun s => State.fdbGo_starts_unmirrored (op := 6) (by decide)
  case readA => exact fun s => State.fdbGo_starts_mirrored (op := 1) (by decide)
  case writeA => exact fun s => State.fdbGo_starts_mirrored (op := 2) (by decide)
  case deleteA => exact fun s => State.fdbGo_starts_mirrored (op := 3) (by decide)
  case flushA => exact fun s => State.fdbGo_starts_mirrored (op := 4) (by decide)
  case invcacheA => exact fun s => State.fdbGo_starts_mirrored (op := 5) (by decide)
  case fenceA => exact fun s => State.fdbGo_starts_mirrored (op := 6) (by decide)
  case second =>
    intro s hbusy
    rw [exec_fdbRead, execFdbRead, State.fdbGo, if_pos hbusy]
  case complete =>
    intro c s hcmd hready
    rw [exec_fdbCommandComplete_started hcmd, if_pos hready]
  case waits =>
    intro c s hcmd hready
    rw [exec_fdbCommandComplete_started hcmd, if_neg (by simp [hready])]
  case ages =>
    intro s hage
    rw [exec_fdbAgeSweep, execFdbAgeSweep, if_neg hage]
  case noAgeing =>
    intro s hage
    rw [exec_fdbAgeSweep, execFdbAgeSweep, if_pos hage]
  case reverted =>
    intro k s hpending hq
    simp [exec_pinRevertComplete, execPinRevertComplete, hpending, State.ethQ_empty hq]
  case idle =>
    intro r s hen hgen hstarted
    rw [exec_frerRecoveryReset, execFrerRecoveryReset, if_pos (by simp [hen, hgen, hstarted])]
  case record =>
    intro b l s hq hen hroom hcheck hfit
    rw [exec_sampleRecordWrite_room rfl hq hen hroom (State.fabWrite_admitted hcheck hfit), if_pos rfl]
  case recordParity =>
    intro b l t s hq hen hroom hwrite
    rw [exec_sampleRecordWrite_room rfl hq hen hroom hwrite, if_neg Bool.false_ne_true]

end Sys2Proof.Machine
end

section
/-! PROOFS. The CAN controllers (R277 to R292): which valid frame a controller takes, what ends a transmission, and the statement O25. -/

namespace Sys2Proof.Machine

open Sys2Proof

/-! ### Receiving (R284, R285) -/

/-- R284, R309: controller `c` takes a valid frame: it hears its bus and is in traffic, and the frame's format is enabled. -/
def State.canTakes (s : State) (c : Nat) (f : CanFrame) : Bool :=
  s.canHears c && s.canIn c && decide (f.fmt < 3) && (f.fmt != 1 || s.on (CAN_CTL_FDEN c)) && (f.fmt != 2 || s.on (CAN_CTL_XLEN c))

/-- R309: classic frames are always enabled, FD frames with FDEN and XL frames with XLEN. -/
theorem State.canTakes_of_format {s : State} {c : Nat} {f : CanFrame} (hhears : s.canHears c = true) (hin : s.canIn c = true)
    (hfmt : f.fmt = 0 ∨ (f.fmt = 1 ∧ s.on (CAN_CTL_FDEN c) = true) ∨ (f.fmt = 2 ∧ s.on (CAN_CTL_XLEN c) = true)) :
    s.canTakes c f = true := by
  obtain hclassic | ⟨hfd, hen⟩ | ⟨hxl, hen⟩ := hfmt <;> simp [State.canTakes, *]

/-- A controller outside traffic takes no frame. -/
theorem State.canTakes_of_out {s : State} {c : Nat} (f : CanFrame) (hout : s.canIn c = false) : s.canTakes c f = false := by
  simp [State.canTakes, hout]

/-- R284, R295: a frame that a hearing controller has seen ends its reception; one that it takes gets the stamp of its start and goes to the objects. -/
theorem exec_canFrameValid_heard {c : Fin 16} {fr f : CanFrame} {age : Nat} {s u : State} (hhears : s.canHears c = true)
    (hu : u = s.set (CAN_STAT_RXACT c) 0) (hf : f = { fr with stamp := (s.canStamp + 2 ^ 32 - age % 2 ^ 32) % 2 ^ 32 }) :
    exec (.canFrameValid c fr age) s = .next (
      if u.canTakes c f = true then (((u.canRxGood c).canMirrorSeen c f).canOffer c f).wakeConfirm c else u) := by
  subst hu hf
  simp only [exec_canFrameValid, execCanFrameValid, hhears, if_true]
  exact (apply_ite Host.Outcome.next _ _ _).symm

/-- R285, R314: the oldest taken frame goes into its object; the ring's message object is free again at once. -/
theorem exec_canObjectWrite_taken {c : Fin 16} {o : Nat} {f : CanFrame} {l : List (Nat × CanFrame)} {s u : State} (htaken : (s.canSt c).taken = (o, f) :: l)
    (hu : u = (s.canUpd c (fun x => { x with taken := l })).canStore c o f) :
    exec (.canObjectWrite c) s = .next (if o = 127 ∧ s.on CRS_CTL_EN = true ∧ s.on (CRS_BUS_RING c) = true then u.canFull c o false else u) := by
  subst hu
  simp only [exec_canObjectWrite, execCanObjectWrite, htaken]

/-! ### The end of a transmission (R281, R290, R291) -/

section Transmission

variable {c : Fin 16} {s : State}

/-- A measured delay leaves the state of every controller. -/
@[simp] theorem State.canTdcv_canSt (s : State) (c k : Nat) (f : CanFrame) (v : Nat) : (s.canTdcv c f v).canSt k = s.canSt k := by
  rw [State.canTdcv]
  split <;> rfl

/-- R281, R297: no frame is sent whole on a bus that the transceiver does not drive, nor with a data phase that its delay forbids. -/
theorem exec_canTxSuccess_unsent {t : CanTx} (v : Fin 256) (htx : (s.canSt c).tx = some t)
    (hunsent : (s.canDrives c = false ∧ s.on (CAN_CTL_LOOP c) = false) ∨ s.canDataOk c t.frame = false) : exec (.canTxSuccess c v) s = .next s := by
  simp only [exec_canTxSuccess, execCanTxSuccess, htx]
  exact if_pos (by simpa using hunsent)

/-- R290: the state once the request of a frame sent whole is done: its object holds the stamp of the start. -/
def State.canSent (s : State) (c : Nat) (t : CanTx) : State :=
  ((((s.canTxEnd c).canReq c t.obj false).set (CAN_OBJSTAT_DONE c t.obj) 1).canMirror c t.obj).set (CAN_OBJSTAMP_STAMP c t.obj) t.stamp

/-- R286, R290, R291, R293: a frame sent whole ends its request, raises cause 2 with IE, lowers the transmit error counter, stands on the bus unless the
controller is looped, and with SELFRX is offered to the controller's own objects. -/
theorem exec_canTxSuccess_sent {t : CanTx} {v : Fin 256} {w x u z : State} (htx : (s.canSt c).tx = some t)
    (hdrives : (s.canDrives c || s.on (CAN_CTL_LOOP c)) = true) (hdata : s.canDataOk c t.frame = true)
    (hw : w = s.canSent c t)
    (hx : x = (if w.on (CAN_OBJCFG_IE c t.obj) = true then w.raiseC (193 + 2 * c.val) 2 t.obj else w).canTdcv c t.frame v)
    (hu : u = (x.set (CAN_ERR_TEC c) (x.get (CAN_ERR_TEC c) - 1)).canErrState c)
    (hz : z = if u.on (CAN_CTL_LOOP c) = true then u else u.emit (.can c t.frame)) :
    exec (.canTxSuccess c v) s = .next (if z.on (CAN_CTL_SELFRX c) = true then z.canOffer c t.frame else z) := by
  subst hw hx hu hz
  simp only [exec_canTxSuccess, execCanTxSuccess, htx]
  exact if_neg (by simp [hdrives, hdata])

/-- R281: the delay measured before an error is kept first. -/
theorem exec_canTxError_measured {t : CanTx} (lec : Fin 7) (data count : Bool) (v : Fin 256) (htx : (s.canSt c).tx = some t) :
    exec (.canTxError c lec data count (some v)) s = exec (.canTxError c lec data count none) (s.canTdcv c t.frame v) := by
  simp only [exec_canTxError, execCanTxError, State.canTdcv_canSt, htx]

/-- R290, R291: an error that keeps the transmit error counter within 8 bits ends the transmission; the request fails with DAR or where it is sent once. -/
theorem exec_canTxError_within {t : CanTx} {lec : Fin 7} {data count : Bool} {tec : Nat} {u w : State} (htx : (s.canSt c).tx = some t)
    (hu : u = (((s.canTxEnd c).inc (CAN_ERRCNT_ERRS c)).set (CAN_ERR_LEC c) lec.val).set (CAN_ERR_LECDATA c) (b2n data))
    (htec : tec = u.get (CAN_ERR_TEC c) + if count = true then 8 else 0) (hwithin : tec ≤ 255)
    (hw : w = (u.set (CAN_ERR_TEC c) (satU 8 tec)).canErrState c) :
    exec (.canTxError c lec data count none) s = .next (if (w.on (CAN_CTL_DAR c) || t.once) = true then w.canFail c t.obj else w) := by
  simp only [exec_canTxError, execCanTxError, htx, ← hu, ← htec, if_neg (Nat.not_lt.mpr hwithin), ← hw]

/-- R290, R309: a lost arbitration is counted, and the controller receives the winner; the request fails with DAR or where it is sent once. -/
theorem exec_canArbitrationLost_sending {t : CanTx} {u : State} (htx : (s.canSt c).tx = some t)
    (hu : u = ((s.canTxEnd c).inc (CAN_ERRCNT_ARBLOST c)).setIf (s.canHears c) (CAN_STAT_RXACT c) 1) :
    exec (.canArbitrationLost c) s = .next (if (u.on (CAN_CTL_DAR c) || t.once) = true then u.canFail c t.obj else u) := by
  simp only [exec_canArbitrationLost, execCanArbitrationLost, htx, ← hu]

end Transmission

/-- Settles O25: each clause is the branch of its command that the clause's premises choose. -/
theorem canControllers : Obligations.CanControllers := by
  unfold Obligations.CanControllers
  refine ⟨?start, ?integrated, ?notIntegrating, ?valid, ?deaf, ?outside, ?written, ?ring, ?request, ?arbitration, ?nothingSent, ?sent, ?unsent, ?lost,
    ?error, ?measured, ?abort, fun c s => rfl, ?recovered, ?listenOnly, ?rxError, ?exception⟩
  case start =>
    intro c s hoff htested hcarried
    rw [exec_canStart, execCanStart, if_neg (by simp [hcarried]), if_neg (by simp [hoff]), if_pos htested]
  case integrated =>
    intro c s hst
    rw [exec_canIntegrationDone, execCanIntegrationDone, if_pos hst]
  case notIntegrating =>
    intro c s hst
    rw [exec_canIntegrationDone, execCanIntegrationDone, if_neg hst]
  case valid =>
    intro c fr f age s u hhears hu hstill hin hf hfmt
    rw [exec_canFrameValid_heard hhears hu hf, if_pos (State.canTakes_of_format hstill hin hfmt)]
  case deaf =>
    intro c f age s hdeaf
    simp [exec_canFrameValid, execCanFrameValid, hdeaf]
  case outside =>
    intro c f age s u hhears hu hout
    rw [exec_canFrameValid_heard hhears hu rfl, if_neg (by simp [State.canTakes_of_out _ hout])]
  case written =>
    intro c o f l s htaken ho
    rw [exec_canObjectWrite_taken htaken rfl, if_neg (by simp [ho])]
  case ring =>
    intro c f l s u htaken hen hring hu
    rw [exec_canObjectWrite_taken htaken hu, if_pos ⟨rfl, hen, hring⟩]
  case request =>
    intro c o s hcarried
    rw [exec_canTxreq, execCanTxreq, if_neg (by simp [hcarried])]
  case arbitration =>
    intro c o s hst htx hidle hbest
    rw [exec_canArbitrationStart, execCanArbitrationStart]
    simp only [if_pos (And.intro hst (And.intro htx hidle)), hbest]
  case nothingSent =>
    intro c v s htx
    exact ⟨by simp only [exec_canTxSuccess, execCanTxSuccess, htx], by simp only [exec_canArbitrationLost, execCanArbitrationLost, htx]⟩
  case sent =>
    intro c t v w u s htx hdrives hdata hw hie hu hloop hself
    have hsilent : (if w.on (CAN_OBJCFG_IE c t.obj) = true then w.raiseC (193 + 2 * c.val) 2 t.obj else w) = w := if_neg (by simp [hie])
    rw [exec_canTxSuccess_sent htx (by simp [hdrives]) hdata hw rfl (hsilent ▸ hu) (if_neg (by simp [hloop])).symm, if_neg (by simp [hself])]
  case unsent => exact fun c t v s htx hunsent => exec_canTxSuccess_unsent v htx hunsent
  case lost =>
    intro c t u s htx hu hdar honce
    rw [exec_canArbitrationLost_sending htx hu, if_neg (by simp [hdar, honce])]
  case error =>
    intro c t lec data u s htx honce hu htec
    rw [exec_canTxError_within htx hu rfl (by rw [if_pos rfl]; omega) rfl, if_pos rfl, if_pos (by simp [honce])]
  case measured => exact fun c t lec data cnt v s htx => exec_canTxError_measured lec data cnt v htx
  case abort =>
    intro c o s hcarried
    rw [exec_canAbort, execCanAbort, if_neg (by simp [hcarried])]
  case recovered =>
    intro c s hst
    rw [exec_canBusoffRecovered, execCanBusoffRecovered, if_pos hst]
  case listenOnly =>
    intro c s htx hin hcarried
    rw [exec_canLomApply, execCanLomApply, if_neg (by simp [hcarried]), if_neg (by simp [htx])]
    simp only [hin, if_true]
  case rxError =>
    intro c lec data i s hhears hin hlom
    rw [exec_canRxError, execCanRxError, if_pos (by simp [hhears, hin])]
    exact congrArg Host.Outcome.next (if_neg (by simpa [State.canSt, State.inc, State.addSat] using hlom))
  case exception =>
    intro c s hhears hin hpxhd
    rw [exec_canProtocolException, execCanProtocolException, if_pos (by simp [hhears, hin, hpxhd])]

end Sys2Proof.Machine
end

section
/-! PROOFS. The transceivers of CAN and LIN (R294, R296, R299, R300): dominant timeouts, correlations, wake phases, over-temperature, and the statement
O26. -/

namespace Sys2Proof.Machine

open Sys2Proof

/-- Settles O26: each clause is the branch of its command that the clause's premises choose; buses from 16 on are LIN. -/
theorem busTransceivers : Obligations.BusTransceivers := by
  unfold Obligations.BusTransceivers
  refine ⟨?timeout, ?released, ?releaseEnd, ?taken, ?firing, ?noFiring, ?wakeCan, ?wakeLin, ?hotCan, ?hotLin, ?cooledCan, ?cooledLin⟩
  case timeout =>
    intro c s hdriven hcarried
    rw [exec_canTxdTimeout, execCanTxdTimeout, if_neg (by simp [hcarried]), if_neg (by simp [hdriven])]
  case released =>
    intro c s hreleased hcarried
    rw [exec_canTxdTimeout, execCanTxdTimeout, if_neg (by simp [hcarried]), if_pos hreleased]
  case releaseEnd =>
    intro c s hcarried
    rw [exec_canBusReleaseEnd, execCanBusReleaseEnd, if_neg (by simp [hcarried])]
  case taken =>
    intro c s hcarried
    rw [exec_canCorrelation, execCanCorrelation, if_neg (by simp [hcarried]), if_pos rfl]
  case firing =>
    intro c k t r s u harrive hcarried
    rw [exec_canCorrelation, execCanCorrelation, if_neg (by simp [hcarried]), if_neg Bool.false_ne_true, harrive]
  case noFiring =>
    intro c s harrive hcarried
    rw [exec_canCorrelation, execCanCorrelation, if_neg (by simp [hcarried]), if_neg Bool.false_ne_true, harrive]
  case wakeCan =>
    intro b s hpower hcan hsleep hen hcarried
    rw [exec_busWakeDetect, execBusWakeDetect, if_neg (by simp [hcarried]), if_neg (by simp [hpower]), if_pos hcan, if_pos ⟨hsleep, hen⟩]
  case wakeLin =>
    intro b s hpower hlin hsleep hforced hen hcarried
    rw [exec_busWakeDetect, execBusWakeDetect, if_neg (by simp [hcarried]), if_neg (by simp [hpower]), if_neg (by omega)]
    exact if_pos ⟨hsleep, by simp [hforced], hen⟩
  case hotCan =>
    intro b s hcan hcool hcarried
    rw [exec_transceiverOvertemp, execTransceiverOvertemp, if_neg (by simp [hcarried]), if_pos hcan, if_neg (by simp [hcool])]
  case hotLin =>
    intro b s hlin hcool hcarried
    rw [exec_transceiverOvertemp, execTransceiverOvertemp, if_neg (by simp [hcarried]), if_neg (by omega)]
    exact if_neg (by simp [hcool])
  case cooledCan =>
    intro b s hcan hcarried
    rw [exec_transceiverOvertempEnd, execTransceiverOvertempEnd, if_neg (by simp [hcarried]), if_pos hcan]
  case cooledLin =>
    intro b s hlin hcarried
    rw [exec_transceiverOvertempEnd, execTransceiverOvertempEnd, if_neg (by simp [hcarried]), if_neg (by omega)]

end Sys2Proof.Machine
end

section
/-! PROOFS. The LIN channels (R299, R303 to R307): the rate that a responder accepts, the end of a subscribed response, and the statement O27. -/

namespace Sys2Proof.Machine

open Sys2Proof

section Channel

variable {l : Fin 8} {s : State}

/-- R303, R304: a responder answers a header whose rate lies within 14 % of its own, and counts any other with code 5. -/
theorem exec_linHeaderReceive_responder {id : Fin 64} {div : Nat} (hen : s.on (LIN_CTL_EN l) = true) (hhears : s.linHears l = true)
    (hresponder : s.on (LIN_CTL_CMDR l) = false) :
    exec (.linHeaderReceive l id div) s = .next (
      if 86 * div ≤ 100 * s.linDiv l ∧ 100 * s.linDiv l ≤ 114 * div then s.linAfterHeader l id else (s.set (LIN_STAT_LEC l) 5).inc (LIN_STAT_ERRS l)) := by
  rw [exec_linHeaderReceive, execLinHeaderReceive, if_neg (by simp [hen, hhears]), if_neg (by simp [hresponder])]
  simp only [apply_ite Host.Outcome.next]

/-- R304: the state after a subscribed response is stored and counted, and its frame has ended. -/
def State.linStored (s : State) (l id : Nat) (bytes : List Nat) : State :=
  ((((s.set (LIN_FDATA_DATA l id) (ofBytes bytes)).set (LIN_FSTAT_NEW l id) 1).linKeep l id bytes).addWrap (LIN_FSTAT_SEQ l id) 1).linEnd l

/-- R304, R305, R326: a subscribed response without a framing or bit error is stored where its length and checksum are right, with IE raises cause 1, and shows
that its bus is awake; a wrong one is code 1. -/
theorem exec_linResponseComplete_subscribed {f : LinFrame} {bytes : List Nat} {cks : Nat} {u : State} (hframe : (s.lin.get l).frame = some f)
    (hdir : f.dir = 1) (hhears : s.linHears l = true) (hu : u = s.linStored l f.id bytes) :
    exec (.linResponseComplete l bytes cks 0) s = .next (
      if bytes.length ≠ s.linLen l f.id ∨ cks ≠ s.linCks l f.id bytes then s.linError l f.id 1
      else (if u.on (LIN_FCFG_IE l f.id) = true then u.raiseC (224 + l.val) 1 f.id else u).wakeConfirm (16 + l.val)) := by
  rw [State.linStored] at hu
  simp only [exec_linResponseComplete, execLinResponseComplete, hframe]
  rw [if_neg (by decide), if_neg (by simp [hdir, hhears])]
  simp [hdir, ← hu, apply_ite Host.Outcome.next]

end Channel

/-- Settles O27. -/
theorem linChannels : Obligations.LinChannels := by
  unfold Obligations.LinChannels
  refine ⟨?slot, ?stopped, ?inRate, ?offRate, ?own, ?right, ?wrong, ?timeout, ?wake, ?dominant⟩
  case slot =>
    intro l s hen hcmdr hidle hrun hfirst
    rw [exec_linSlotStart, execLinSlotStart, if_neg (by simp [hen, hcmdr, hidle]), if_neg (by simp [hrun])]
    simp [hfirst]
  case stopped =>
    intro l s hen hcmdr hidle hstop
    rw [exec_linSlotStart, execLinSlotStart, if_neg (by simp [hen, hcmdr, hidle]), if_pos (by simp [hstop])]
  case inRate =>
    intro l id div s hen hhears hresponder hlow hhigh
    rw [exec_linHeaderReceive_responder hen hhears hresponder, if_pos ⟨hlow, hhigh⟩]
  case offRate =>
    intro l id div s hen hhears hresponder hoff
    rw [exec_linHeaderReceive_responder hen hhears hresponder, if_neg (by omega)]
  case own =>
    intro l id div s hen hhears hcmdr hhead hdrives
    rw [exec_linHeaderReceive, execLinHeaderReceive, if_neg (by simp [hen, hhears]), if_pos hcmdr, if_pos ⟨hhead, hdrives⟩]
  case right =>
    intro l f bytes cks u s hframe hdir hhears hlen hcks hu hie
    rw [exec_linResponseComplete_subscribed hframe hdir hhears hu, if_neg (by simp [hlen, hcks]), if_neg (by simp [hie])]
  case wrong =>
    intro l f bytes cks s hframe hdir hhears hwrong
    rw [exec_linResponseComplete_subscribed hframe hdir hhears rfl, if_pos hwrong]
  case timeout =>
    intro l f got s hframe hdir
    simp only [exec_linResponseTimeout, execLinResponseTimeout, hframe, if_pos hdir]
  case wake =>
    intro l s hcarried
    rw [exec_linWakePulse, execLinWakePulse, if_neg (by simp [hcarried])]
  case dominant =>
    intro l s hcarried
    rw [exec_linTxdTimeout, execLinTxdTimeout, if_neg (by simp [hcarried])]

end Sys2Proof.Machine
end

section
/-! PROOFS. Bring-up, sleep and wake (R323 to R326, R333, R334, R551, R553, R575): a calibration or test that is due, the end of bring-up, the level of
ZONE_OK, and the statement O45. -/

namespace Sys2Proof.Machine

open Sys2Proof

section Ready

variable {s : State}

/-- R551, R554: a calibration that is due is taken once; its result is stored, and an item that has failed is marked. -/
theorem exec_calibrationDone_due {k : Fin 177} (ok : Bool) (cal : Nat × Nat) (hup : s.pow.bringUp.isSome = true)
    (hitem : (calItems s.warmUp).contains k.val = true) (hnew : s.pow.calDone.contains k.val = false) (hdue : s.itemDue k = true) {t : State}
    (ht : t = State.calSet { s with pow := { s.pow with calDone := k.val :: s.pow.calDone } } ok (k.val, cal)) :
    exec (.calibrationDone (some k) ok cal) s = .next (if ok = true then t else t.markItem k 1) := by
  have hrange : k.val ≠ 255 := by omega
  rw [exec_calibrationDone, execCalibrationDone, if_neg (by simp [Option.ne_none_iff_isSome.mpr hup, -List.contains_eq_mem, hitem, hnew, hdue]), ht]
  simp [hrange]

/-- R575: a power-up test that is due is taken once; outside the items of the CAN controllers, which may start (R576), nothing but its result is left. -/
theorem exec_powerupTestDone_due {i : Fin 179} (e : TestEnd) (hup : s.pow.bringUp.isSome = true)
    (hitem : (testItems s.warmUp).contains i.val = true) (hnew : s.pow.testDone.contains i.val = false) (hdue : s.itemDue i = true)
    (hcan : i.val < 87 ∨ 103 ≤ i.val) {t : State}
    (ht : t = State.testEnded { s with pow := { s.pow with testDone := i.val :: s.pow.testDone } } i e) :
    exec (.powerupTestDone i e) s =
      .next (t.setIf ((testItems t.warmUp).all (fun k => t.pow.testDone.contains k || !t.itemDue k)) STE_STAT_PUDONE 1) := by
  have hnoCan : ∀ p : Prop, ¬ (87 ≤ i.val ∧ i.val < 103 ∧ p) := fun _ h => by omega
  rw [exec_powerupTestDone, execPowerupTestDone, if_neg (by simp [Option.ne_none_iff_isSome.mpr hup, -List.contains_eq_mem, hitem, hnew, hdue]), ht]
  simp only [if_neg (hnoCan _)]

/-- R333: the level of ZONE_OK falls with its cause, where it is high. -/
theorem State.zoneLow_of_high (cause : Nat) (hhigh : s.on CRS_ZOK_LEVEL = true) :
    s.zoneLow cause = (((s.set CRS_ZOK_LEVEL 0).set CRS_ZOK_CAUSE cause).raiseC 269 1 cause).emit (.ball "ZONE_OK" 0 0) := if_pos hhigh

/-- R334: the level of ZONE_OK rises, where it is low. -/
theorem State.zoneHigh_of_low (hlow : s.on CRS_ZOK_LEVEL = false) :
    s.zoneHigh = ((s.set CRS_ZOK_LEVEL 1).raiseC 269 2 0).emit (.ball "ZONE_OK" 0 1) := if_neg (by simp [hlow])

end Ready

/-- Settles O45: each clause is the branch of its command that the clause's premises choose. -/
theorem bringUp : Obligations.BringUp := by
  unfold Obligations.BringUp
  refine ⟨?calibration, ?noCalibration, ?test, ?noTest, ?canReady, ?fullyReady, ?otherStage, ?zoneRises, ?zoneStays, ?zoneFalls, ?wake, ?noWake,
    ?sleep, ?noSleep⟩
  case calibration =>
    intro k cal s hup hitem hnew hdue
    exact ⟨by rw [exec_calibrationDone_due true cal hup hitem hnew hdue rfl, if_pos rfl],
      by rw [exec_calibrationDone_due false cal hup hitem hnew hdue rfl, if_neg Bool.false_ne_true]⟩
  case noCalibration =>
    intro i ok cal s hup
    simp [exec_calibrationDone, execCalibrationDone, hup]
  case test => exact fun i e t s hup hitem hnew hdue hcan ht => exec_powerupTestDone_due e hup hitem hnew hdue hcan ht
  case noTest =>
    intro i e s hup
    rw [exec_powerupTestDone, execPowerupTestDone, if_pos (by simp [hup])]
  case canReady =>
    intro n s hup hpin hstage hrecovery hmirrors
    rw [exec_canReady, execCanReady, if_neg (by simp [Option.ne_none_iff_isSome.mpr hup, hpin, hstage, hrecovery, hmirrors])]
  case fullyReady =>
    intro n peer u s hup hstage hover hpart hu
    rw [exec_fullyReady, execFullyReady, if_neg (by simp [Option.ne_none_iff_isSome.mpr hup, hstage, hover])]
    simp only [hpart, Bool.false_eq_true, if_false, hu]
  case otherStage =>
    intro n peer s hnot1 hnot2
    exact ⟨by rw [exec_canReady, execCanReady, if_pos (by simp [hnot1])], by rw [exec_fullyReady, execFullyReady, if_pos (by simp [hnot2])]⟩
  case zoneRises =>
    intro s hmay hlow
    rw [exec_zoneOkRequest, execZoneOkRequest, State.zoneRequest, if_pos hmay, State.zoneHigh_of_low hlow]
  case zoneStays =>
    intro s hmay
    rw [exec_zoneOkRequest, execZoneOkRequest, State.zoneRequest, if_neg (by simp [hmay])]
  case zoneFalls =>
    intro s hhigh
    exact ⟨by rw [exec_zoneOkDrop, execZoneOkDrop, State.zoneLow_of_high 1 hhigh],
      by rw [exec_zoneOkWatchdog, execZoneOkWatchdog, State.zoneLow_of_high 2 hhigh]⟩
  case wake =>
    intro b s hasleep hvbat hdetect
    rw [exec_wakeReport, execWakeReport, if_pos hasleep, if_pos (by simp [hvbat, hdetect])]
  case noWake =>
    intro b s hasleep hdetect
    rw [exec_wakeReport, execWakeReport, if_pos hasleep, if_neg (by simp [hdetect])]
  case sleep =>
    intro s t hstate hcore ht hwindow
    rw [exec_sleepCorePowerOff, execSleepCorePowerOff, if_neg (by simp [hstate, hcore]), ← ht]
    exact congrArg Host.Outcome.next (if_neg (by simp [hwindow]))
  case noSleep =>
    intro s hnot
    rw [exec_sleepCorePowerOff, execSleepCorePowerOff, if_pos (by simpa using hnot)]

end Sys2Proof.Machine
end

section
/-! PROOFS. The gateway (R338, R340, R342, R347, R348, R350, R351, R353, R355): what becomes of a frame from port 20 and of the next job, and the statement
O29. -/

namespace Sys2Proof.Machine

open Sys2Proof

section Serving

variable {s : State}

/-- R338: a gateway that is disabled takes, processes and forms nothing. -/
theorem exec_gateway_disabled (x : GwSrc) (hoff : s.on GW_CTL_EN = false) :
    exec (.gwPduReceive x) s = .next s ∧ exec .gwPduProcess s = .next s ∧ exec .gwPduForm s = .next s := by
  have hclosed : (!s.on GW_CTL_EN || s.idling 112) = true := by simp [hoff]
  exact ⟨by rw [exec_gwPduReceive, execGwPduReceive.eq_def, if_pos hclosed], by rw [exec_gwPduProcess, execGwPduProcess, if_pos hclosed],
    by rw [exec_gwPduForm, execGwPduForm, if_pos hclosed]⟩

/-- R340, R350: a frame on its way from port 20 is counted and discarded where it does not parse; the PDUs of one that parses enter the buffer of its class, or
the frame waits for room there. -/
theorem exec_gwPduReceive_eth_arrived {q : Fin 8} {bytes : List Nat} {s1 : State} (hen : s.on GW_CTL_EN = true) (hrun : s.idling 112 = false)
    (harrived : s.gw.inbox.contains (q.val, bytes) = true)
    (hs1 : s1 = { s with gw := { s.gw with inbox := s.gw.inbox.erase (q.val, bytes) } }) :
    exec (.gwPduReceive (.eth q bytes)) s = .next ((gwParse bytes).elim ((s1.inc GW_ERR_BADFRM).raiseSum 278 0 1) (fun ps =>
      if s.gwRoom (q.val / 2) (ps.map (fun p => p.data.length)) = true then s1.each ps (fun t p => t.gwPut (q.val / 2) p) else s)) := by
  subst hs1
  rw [exec_gwPduReceive, execGwPduReceive, if_neg (by simp [hen, hrun])]
  simp only [harrived, Bool.not_true, Bool.false_eq_true, if_false]
  cases hparse : gwParse bytes with
  | none => rfl
  | some ps => exact (apply_ite Host.Outcome.next _ _ _).symm

/-- R342, R351: the next job, a receive PDU, leaves its class; it is processed by its layout, and counted where it has none. -/
theorem exec_gwPduProcess_next {c : Nat} {p : GwPdu} {t : State} (hen : s.on GW_CTL_EN = true) (hrun : s.idling 112 = false)
    (hnext : s.gwNext = some (c, .pdu p)) (ht : t = s.gwTake c (.pdu p)) :
    exec .gwPduProcess s = .next ((t.gwMatch p).elim ((t.inc GW_ERR_NOMATCH).raiseSum 276 0 1) (fun l => t.gwProcess l p.data)) := by
  subst ht
  rw [exec_gwPduProcess, execGwPduProcess, if_neg (by simp [hen, hrun])]
  simp only [hnext]
  cases hmatch : (s.gwTake c (.pdu p)).gwMatch p with
  | none => simp only [Option.elim_none]
  | some l => simp only [Option.elim_some]

end Serving

/-- Settles O29: each clause is the branch of its command that the clause's premises choose. -/
theorem gateway : Obligations.Gateway := by
  unfold Obligations.Gateway
  refine ⟨?lin, ?badFrame, ?frame, fun x s => exec_gateway_disabled x, ?processed, ?unmatched, ?formed, ?fires, ?noFiring, ?gapEnds, ?noGap, ?sinkReady,
    fun s => rfl, ?fenceClears, ?commit⟩
  case lin =>
    intro c id d l t s hen hrun hlast ht hmatch
    subst ht
    rw [exec_gwPduReceive, execGwPduReceive, if_neg (by simp [hen, hrun])]
    simp only [hlast, if_true, hmatch]
  case badFrame =>
    intro q bytes s1 s hen hrun harrived hs1 hparse
    rw [exec_gwPduReceive_eth_arrived hen hrun harrived hs1, hparse, Option.elim_none]
  case frame =>
    intro q bytes ps s1 s hen hrun harrived hs1 hparse hroom
    rw [exec_gwPduReceive_eth_arrived hen hrun harrived hs1, hparse, Option.elim_some, if_pos hroom]
  case processed =>
    intro c l p s hen hrun hnext hmatch
    rw [exec_gwPduProcess_next hen hrun hnext rfl, hmatch, Option.elim_some]
  case unmatched =>
    intro c p s hen hrun hnext hmatch
    rw [exec_gwPduProcess_next hen hrun hnext rfl, hmatch, Option.elim_none]
  case formed =>
    intro c l s hen hrun hnext
    rw [exec_gwPduForm, execGwPduForm, if_neg (by simp [hen, hrun])]
    simp only [hnext]
  case fires =>
    intro l d s t harrive
    rw [exec_gwLayoutCyclicDue, execGwLayoutCyclicDue, harrive]
  case noFiring =>
    intro l s harrive
    rw [exec_gwLayoutCyclicDue, execGwLayoutCyclicDue, harrive]
  case gapEnds =>
    intro l s hgap
    rw [exec_gwMingapExpiry, execGwMingapExpiry, if_pos hgap]
  case noGap =>
    intro l s hgap
    rw [exec_gwMingapExpiry, execGwMingapExpiry, if_neg (ne_true_of_eq_false hgap)]
  case sinkReady =>
    intro l s hen hwaits hclear
    rw [exec_gwSinkReady, execGwSinkReady, if_pos (by simp only [hen, hwaits, hclear, Bool.not_false, Bool.and_self])]
  case fenceClears =>
    intro s hgo
    rw [exec_gwFenceComplete, execGwFenceComplete, if_pos hgo]
  case commit =>
    intro a v s ha hcommit hmapped
    rw [exec_tableEntryCommitWrite, execTableEntryCommitWrite, Nat.mod_eq_of_lt ha]
    exact if_pos ⟨hcommit, hmapped⟩

end Sys2Proof.Machine
end

section
/-! PROOFS. The PCIe bridge (R356, R357, R360, R363 to R366, R370, R615): what a completion does with the request that waits for it, what a function level
reset reaches, and the statement O30. -/

namespace Sys2Proof.Machine

open Sys2Proof

/-- R363, R364: a completion other than UR ends the request of its tag and reaches the initiator, with data or as an error. -/
theorem exec_pcieCompletion_outstanding {s : State} {tag : Nat} {q : PcieReq} {status : Fin 3} (bytes : List Nat)
    (hout : s.pcie.out.find? (fun q => q.tag == tag) = some q) (hstatus : status.val ≠ 1) :
    exec (.pcieCompletion tag status bytes) s =
      .next ((s.pcieComplete q status bytes).pcieHear q (decide (status.val ≠ 0)) (q.value bytes) (toBytes q.size (q.value bytes))) := by
  have hnotUr : (q.config && status.val == 1) = false := by simp [hstatus]
  simp only [exec_pcieCompletion, execPcieCompletion, hout, hnotUr, Bool.not_false, Bool.and_true, Bool.false_eq_true, if_false]

/-- R365, R486: a function level reset is reported; of PF0 it disables every window, of a VF it resets what is bound to it. -/
theorem exec_pcieFunctionLevelReset_carried {s : State} {f : Fin 256} (hcarried : ¬ pcieVfs s.part < f.val) :
    exec (.pcieFunctionLevelReset f) s = .next (
      if f.val = 0 then (s.raise 291 f).each (List.range 64) (fun t w => (t.set (PCIE_IWCTL_EN w) 0).set (PCIE_OWCTL_EN w) 0)
      else if s.on (PCIE_FNID_VIEN f) = true then (s.raise 291 f).viReset (s.get (PCIE_FNID_VI f)) else s.raise 291 f) := by
  rw [exec_pcieFunctionLevelReset, execPcieFunctionLevelReset, if_neg (by simpa using hcarried)]
  simp only [apply_ite Host.Outcome.next]

/-- Settles O30: each clause is the branch of its command that the clause's premises choose. -/
theorem pcieBridge : Obligations.PcieBridge := by
  unfold Obligations.PcieBridge
  refine ⟨?outbound, ?linkUp, ?noLink, fun en num s => rfl, ?retrain, fun v s => rfl, ?timeout, ?success, ?abort, ?unknownTag, ?linkDown, ?perst,
    fun x s => rfl, ?resetPf0, ?resetVf⟩
  case outbound =>
    intro r k addr size v s haddr
    rw [exec_pcieOutboundRequest, execPcieOutboundRequest, Nat.mod_eq_of_lt haddr]
  case linkUp =>
    intro gen width ltssm g w s hdown hen hclock hbeat hperst husable hdomain hg hw
    subst hg hw
    rw [exec_pcieLinkUp, execPcieLinkUp, if_neg (by simp [hdown, hen, hclock, hbeat, hperst, husable, hdomain])]
  case noLink =>
    intro gen width ltssm s hnot
    rw [exec_pcieLinkUp, execPcieLinkUp, if_pos (by obtain h | h | h := hnot <;> simp [h])]
  case retrain =>
    intro s hup
    rw [exec_pcieRetrain, execPcieRetrain, State.pcieRetrain, if_pos hup]
  case timeout =>
    intro tag q s hout
    simp only [exec_pcieCompletionTimeout, execPcieCompletionTimeout, hout]
  case success => exact fun tag q bytes s hout => exec_pcieCompletion_outstanding bytes hout (by decide)
  case abort => exact fun tag q bytes s hout => exec_pcieCompletion_outstanding bytes hout (by decide)
  case unknownTag =>
    intro tag st bytes s hnone
    exact ⟨by simp only [exec_pcieCompletion, execPcieCompletion, hnone], by simp only [exec_pcieCompletionTimeout, execPcieCompletionTimeout, hnone]⟩
  case linkDown =>
    intro x s hup
    rw [exec_pcieLinkDown, execPcieLinkDown, if_pos hup]
  case perst =>
    intro s hendpoint
    have hnotRoot : ¬ s.on PCIE_CTL_MODE = true := ne_true_of_eq_false hendpoint
    exact ⟨by rw [exec_pciePerst, execPciePerst, if_neg hnotRoot]; rfl, by rw [exec_pciePerst, execPciePerst, if_neg hnotRoot]; rfl⟩
  case resetPf0 =>
    intro s _
    rw [exec_pcieFunctionLevelReset_carried (Nat.not_lt_zero _)]
    exact congrArg Host.Outcome.next (if_pos rfl)
  case resetVf =>
    intro f s hvf hbound hcarried
    rw [exec_pcieFunctionLevelReset_carried (by simpa using hcarried), if_neg hvf, if_pos hbound]

end Sys2Proof.Machine
end

section
/-! PROOFS. Interrupts of the cores (R380, R399, R400, R415): what a core that is no copy of a joined pair takes, and the statement O36. -/

namespace Sys2Proof.Machine

open Sys2Proof

section Unpaired

variable {s : State} {c : Nat}

/-- R415: a core that is not in WFI ends none. -/
theorem State.wfiEnd_awake (hawake : (s.core.get c).wfi = false) : s.wfiEnd c = s := by
  simp [State.wfiEnd, hawake]

/-- R415: a pending interrupt that mie enables ends the WFI of an unpaired core: it retires. -/
theorem State.wfiEnd_pending (hwfi : (s.core.get c).wfi = true) (hpending : s.mip c &&& (s.core.get c).cs 0x304 ≠ 0) (hsolo : s.joined c = false) :
    s.wfiEnd c = (s.retire c ((s.core.get c).pc + 4) {}).stepped c := by
  simp [State.wfiEnd, hwfi, hpending, hsolo]

/-- R400: an unpaired core takes the interrupt that it picks. -/
theorem State.irqNow_picked {i : Nat} (hpick : s.pickIrq c = some i) (hsolo : s.joined c = false) : s.irqNow c = s.takeIrq c i := by
  simp [State.irqNow, hpick, hsolo]

/-- R415: an unpaired core takes its interrupts as they come. -/
theorem State.irqFresh_unpaired (hsolo : s.joined c = false) : s.irqFresh c = true := by
  simp [State.irqFresh, hsolo]

/-- R380: an error response to a store of an unpaired core enters its own mhjvberr. -/
theorem State.storeError_unpaired (inner : Bool) (addr : Nat) (hsolo : s.joined c = false) : s.storeError c inner addr = s.berr c inner addr := by
  simp [State.storeError, hsolo]

end Unpaired

/-- Settles O36: each clause is the branch of its command that the clause's premises choose. -/
theorem coreInterrupts : Obligations.CoreInterrupts := by
  unfold Obligations.CoreInterrupts
  refine ⟨?taken, ?nonePending, ?endsWfi, ?notReached, ?storeError, ?dead⟩
  case taken =>
    intro c i s hready hpbuf hwait hawake hsolo hpick
    rw [exec_interruptTake, execInterruptTake, if_neg (by simp [hready, hpbuf, hwait, State.irqFresh_unpaired hsolo])]
    simp only [State.wfiEnd_awake hawake, hpick, State.irqNow_picked hpick hsolo, done]
  case nonePending =>
    intro c s _ hawake hnone
    rw [exec_interruptTake, execInterruptTake]
    split
    · rfl
    · simp only [State.wfiEnd_awake hawake, hnone, done]
  case endsWfi =>
    intro c s hreached hready hwfi hpending hsolo
    rw [exec_timerCompareMatch, execTimerCompareMatch, if_neg (by simp [hreached, hready]), State.wfiEnd_pending hwfi hpending hsolo, done]
  case notReached =>
    intro c s hearly
    rw [exec_timerCompareMatch, execTimerCompareMatch, if_pos (.inl hearly), done]
  case storeError =>
    intro c inner addr s hlive hsolo
    rw [exec_storeErrorResponse, execStoreErrorResponse, if_pos hlive, State.storeError_unpaired _ _ hsolo, done]
  case dead =>
    intro c inner addr s hdead
    rw [exec_storeErrorResponse, execStoreErrorResponse, if_neg (by simp [hdead]), done]

end Sys2Proof.Machine
end

section
/-! PROOFS. Debug of a core that is no copy of a joined pair (R373, R430, R431, R512): what a debug action reaches, and the statement O38. -/

namespace Sys2Proof.Machine

open Sys2Proof

section Debugged

variable {s : State} {c : Nat}

/-- R430: a debug request on an unpaired core acts on that core. -/
theorem State.dbgCore_unpaired (hsolo : s.joined c = false) : s.dbgCore c = some c := by
  simp [State.dbgCore, hsolo]

/-- R430: an action on an unpaired core is done at once and recorded nowhere. -/
theorem State.dbgDo_unpaired (a : DbgAct) (g : State → Nat → State) (hsolo : s.joined c = false) : s.dbgDo c a g = g s c := by
  simp [State.dbgDo, State.dbgCore_unpaired hsolo, hsolo]

/-- R430: an abstract write splits and joins no pair. -/
@[simp] theorem State.joined_dbgWrite (s : State) (c reg v d : Nat) : (s.dbgWrite c reg v).joined d = s.joined d := by
  unfold State.dbgWrite
  split
  · rfl
  · split
    · rfl
    · split
      · rfl
      · exact State.joined_csrWrite s c reg _ d

/-- R431: a halt of a joined pair whose string replay journal has room is recorded and stops the lead. -/
theorem State.haltPair_room {n : Nat} (hroom : (s.pair.get n).dbg.length < 256) :
    s.haltPair n = (((s.dbgAdd n .halt).coreSet (s.leadOf n) Core.halt).wstat (s.leadOf n)).haltCheck n :=
  if_neg (Nat.not_le.2 hroom)

/-- R512: with the debug port closed a halt, a resume and a step do nothing. -/
theorem exec_debug_closed (c : Fin 8) (hclosed : s.dbgOpen = false) :
    exec (.debugHalt c) s = .next s ∧ exec (.debugResume c) s = .next s ∧ exec (.debugStep c) s = .next s := by
  refine ⟨?_, ?_, ?_⟩
  · rw [exec_debugHalt, execDebugHalt, if_pos (by simp [hclosed]), done]
  · rw [exec_debugResume, execDebugResume, if_neg (by simp [hclosed]), done]
  · rw [exec_debugStep, execDebugStep]
    split
    · rfl
    · exact if_neg (by simp [hclosed])

/-- R431: a halt that reaches a core that runs: an unpaired core stops; of a pair only the even hart is presented, and a restart or replay ends first. -/
theorem exec_debugHalt_running {c : Fin 8} (hopen : s.dbgOpen = true) (hlive : (s.core.get c).live = true) (hruns : (s.core.get c).stopped = false) :
    exec (.debugHalt c) s = .next (
      if s.joined c = true then
        if c.val % 2 = 1 then s
        else if s.pst (c.val / 2) = 2 ∨ s.pst (c.val / 2) = 3 then s.pairSet (c.val / 2) (fun p => { p with hreq := true })
        else s.haltPair (c.val / 2)
      else (s.coreSet c Core.halt).wstat c) := by
  rw [exec_debugHalt, execDebugHalt, if_neg (by simp [hopen]), if_neg (by simp [hlive, hruns])]
  simp only [done, apply_ite Host.Outcome.next]

end Debugged

/-- Settles O38: each clause is the branch of its command that the clause's premises choose. -/
theorem debugActions : Obligations.DebugActions := by
  unfold Obligations.DebugActions
  refine ⟨?halt, ?haltWaits, ?haltPair, fun c s hclosed => exec_debug_closed c hclosed, ?resume, ?step, ?write, ?buffer⟩
  case halt =>
    intro c s hopen hlive hruns hsolo
    rw [exec_debugHalt_running hopen hlive hruns, if_neg (by simp [hsolo])]
  case haltWaits =>
    intro c s hopen hlive hruns hpaired heven hbusy
    rw [exec_debugHalt_running hopen hlive hruns, if_pos hpaired, if_neg (by omega), if_pos hbusy]
  case haltPair =>
    intro c s hopen hlive hruns hpaired heven hpst hroom
    rw [exec_debugHalt_running hopen hlive hruns, if_pos hpaired, if_neg (by omega), if_neg (by omega), State.haltPair_room hroom]
  case resume =>
    intro c s hopen hhalted hsolo
    rw [exec_debugResume, execDebugResume]
    simp only [hopen, hhalted, State.dbgDo_unpaired _ _ hsolo, State.joined_wstat, State.joined_coreSet, hsolo, Bool.true_or, Bool.and_self, if_true,
      Bool.false_eq_true, if_false, done]
  case step =>
    intro c s hopen hhalted hsolo
    rw [exec_debugStep, execDebugStep, State.dbgCore_unpaired hsolo]
    simp only [hopen, hhalted, State.dbgDo_unpaired _ _ hsolo, State.joined_coreSet, hsolo, Bool.and_self, if_true, Bool.false_eq_true, if_false, done]
  case write =>
    intro c reg value s hopen hhalted hsolo
    rw [exec_debugAbstractWrite, execDebugAbstractWrite, State.dbgCore_unpaired hsolo]
    simp only [hopen, hhalted, State.dbgDo_unpaired _ _ hsolo, State.joined_dbgWrite, hsolo, Bool.and_self, Bool.false_and, if_true, Bool.false_eq_true,
      if_false, done]
  case buffer =>
    intro c words o s hopen hhalted hpbuf hsolo
    rw [exec_debugProgramBuffer, execDebugProgramBuffer, State.dbgCore_unpaired hsolo]
    simp only [hopen, hhalted, hpbuf, State.dbgDo_unpaired _ _ hsolo, State.joined_coreSet, hsolo, beq_self_eq_true, Bool.and_self, Bool.false_and, if_true,
      Bool.false_eq_true, if_false, done]

end Sys2Proof.Machine
end

section
/-! PROOFS. Instructions of an application core run on a state (R371, R384, R387 to R392, R398, R408, R409): what each leaves and where it goes on. -/

namespace Sys2Proof.Machine

open Sys2Proof

section Run

variable {c w raw pc npc : Nat} {o : RvObs} {s : State}

/-! ### Registers -/

/-- An integer register as an instruction reads it. -/
theorem getX_run (c r : Nat) (s : State) : getX c r s = .ok ((s.core.get c).getX r) s := rfl
/-- An integer register written. -/
theorem setX_run (c r v : Nat) (s : State) : setX c r v s = .ok ⟨⟩ (s.coreSet c (fun k => k.setX r v)) := rfl
/-- A result written to rd. -/
theorem putX_run (c w v : Nat) (s : State) : putX c w (some v) s = .ok ⟨⟩ (s.coreSet c (fun k => k.setX (wRd w) v)) := rfl
/-- R384: a branch or a jump leaves an entry of the core's world in the predictor. -/
theorem predict_run (c : Nat) (s : State) :
    predict c s = .ok ⟨⟩ (s.coreSet c (fun k => { k with pred := k.pred ||| (if s.coreWorld c then 2 else 1) })) := rfl

/-! ### Integer instructions (R371) -/

theorem rvExec_lui (hop : wOp w = 0x37) : rvExec c w raw pc npc o s = .ok npc (s.coreSet c (fun k => k.setX (wRd w) (w64 (immU w)))) := by
  simp [rvExec, rv_bind, rv_map, rvCore_run, setX_run, hop]

theorem rvExec_auipc (hop : wOp w = 0x17) : rvExec c w raw pc npc o s = .ok npc (s.coreSet c (fun k => k.setX (wRd w) (addI pc (immU w)))) := by
  simp [rvExec, rv_bind, rv_map, rvCore_run, setX_run, hop]

/-- The result of OP-IMM, OP, OP-IMM-32 and OP-32: the operation that the word names, of its register operands. -/
def Core.aluResult (k : Core) (w : Nat) : Option Nat :=
  match wOp w with
  | 0x13 => aluImm w (k.getX (wRs1 w))
  | 0x33 => aluOp (wF7 w) (wF3 w) (k.getX (wRs1 w)) (k.getX (wRs2 w))
  | 0x1B => aluImm32 w (k.getX (wRs1 w))
  | 0x3B => aluOp32 (wF7 w) (wF3 w) (wRs2 w) (k.getX (wRs1 w)) (k.getX (wRs2 w))
  | _ => none

theorem rvExec_alu {v : Nat} (hv : (s.core.get c).aluResult w = some v) :
    rvExec c w raw pc npc o s = .ok npc (s.coreSet c (fun k => k.setX (wRd w) v)) := by
  unfold Core.aluResult at hv
  split at hv
  case h_5 => cases hv
  all_goals simp [rvExec, rv_bind, rv_map, rvCore_run, putX_run, *]

theorem rvExec_jal (hop : wOp w = 0x6F) :
    rvExec c w raw pc npc o s = .ok (addI pc (immJ w))
      ((s.coreSet c (fun k => { k with pred := k.pred ||| (if s.coreWorld c then 2 else 1) })).coreSet c (fun k => k.setX (wRd w) npc)) := by
  simp [rvExec, rv_bind, rv_map, rvCore_run, predict_run, setX_run, hop]

theorem rvExec_jalr (hop : wOp w = 0x67) (hf3 : wF3 w = 0) :
    rvExec c w raw pc npc o s = .ok (addI ((s.core.get c).getX (wRs1 w)) (immI w) / 2 * 2)
      ((s.coreSet c (fun k => { k with pred := k.pred ||| (if s.coreWorld c then 2 else 1) })).coreSet c (fun k => k.setX (wRd w) npc)) := by
  simp [rvExec, rv_bind, rv_map, rvCore_run, predict_run, setX_run, hop, hf3]

theorem rvExec_branch {taken : Bool} (hop : wOp w = 0x63)
    (htaken : branchTaken (wF3 w) ((s.core.get c).getX (wRs1 w)) ((s.core.get c).getX (wRs2 w)) = some taken) :
    rvExec c w raw pc npc o s = .ok (if taken then addI pc (immB w) else npc)
      (s.coreSet c (fun k => { k with pred := k.pred ||| (if s.coreWorld c then 2 else 1) })) := by
  simp [rvExec, rv_bind, rv_map, rvCore_run, predict_run, hop, htaken]

/-! ### Loads and stores (R371, R374, R376, R377) -/

/-- An aligned access that no check turns away is one part. -/
theorem parts_aligned {v : Va} {acc : AccKind} {n pa : Nat} {a : Attr} (hloc : located c v acc s = .ok (pa, a) s) (haligned : v.va % n = 0) :
    parts c v acc n s = .ok (a, [(pa, n)]) s := by
  simp [parts, rv_bind, rv_pure, hloc, haligned]

/-- A read of SRAM by an unpaired core, in one part. -/
theorem readParts_sram {a n : Nat} (hsolo : s.joined c = false) (hattr : attrOf a = .sram) (hport : s.portReach (s.coreReq c) a = true)
    (hcheck : s.checkReq a (s.coreReq c) .read = none) : readParts c false .clean [(a, n)] s = .ok (false, s.load a n) s := by
  have hfab := s.coreFab_cached c a n .read (.inl rfl) (by simp [hattr, Attr.cached]) hport hcheck
  simp [readParts, fab, rv_bind, rv_pure, rv_get, rv_modifyGet, hfab, hsolo]

/-- A load of an unpaired core from SRAM. -/
theorem loadAt_sram {a n : Nat} (hdata : s.dataAt c .load .read a n o = true) (hsolo : s.joined c = false) :
    loadAt c { m := .load, va := a, priv := (s.core.get c).priv, virt := (s.core.get c).virt } n o s = .ok (s.load a n % 256 ^ n) s := by
  obtain ⟨-, htrig, hloc, haligned, hport, hcheck, hattr, hbad, -, -⟩ := dataAt_run hdata
  have hparts := parts_aligned hloc haligned
  have hread := readParts_sram (n := n) hsolo hattr hport hcheck
  simp [loadAt, agreed, rv_bind, rv_pure, rv_get, htrig, hparts, hread, hsolo, hbad, Attr.cached, Va.seen]

theorem rvExec_load (hop : wOp w = 0x03) (hf3 : wF3 w ≠ 7)
    (hdata : s.dataAt c .load .read (addI ((s.core.get c).getX (wRs1 w)) (immI w)) (2 ^ (wF3 w % 4)) o = true) (hsolo : s.joined c = false) :
    rvExec c w raw pc npc o s = .ok npc (s.coreSet c (fun k => k.setX (wRd w)
      (let v := s.load (addI ((s.core.get c).getX (wRs1 w)) (immI w)) (2 ^ (wF3 w % 4)) % 256 ^ 2 ^ (wF3 w % 4)
       if wF3 w < 4 then sext (8 * 2 ^ (wF3 w % 4)) v else v))) := by
  obtain ⟨hva, -⟩ := dataAt_run hdata
  simp [rvExec, loadInstr, rv_bind, rv_map, rvCore_run, setX_run, hop, hf3, hva, loadAt_sram hdata hsolo]

/-- A store of an unpaired core to SRAM keeps the core's own reservation (R373). -/
theorem storeAt_sram {a n : Nat} (x : Nat) (hdata : s.dataAt c .store .write a n o = true) (hsolo : s.joined c = false) :
    storeAt c { m := .store, va := a, priv := (s.core.get c).priv, virt := (s.core.get c).virt } n x s =
      .ok ⟨⟩ ((s.store a n (x % 256 ^ n)).coreSet c (fun k => { k with res := (s.core.get c).res })) := by
  obtain ⟨-, htrig, hloc, haligned, hport, hcheck, hattr, -, -, -⟩ := dataAt_run hdata
  have hparts := parts_aligned hloc haligned
  have hfab := s.coreFab_sram_write c a n (x % 256 ^ n) hattr hport hcheck
  simp [storeAt, storeParts, State.coreWrite, rv_bind, rv_pure, rv_get, rv_set, htrig, hparts, hfab, hsolo, Attr.cached, Va.seen]

theorem rvExec_store (hop : wOp w = 0x23) (hf3 : ¬ 4 ≤ wF3 w)
    (hdata : s.dataAt c .store .write (addI ((s.core.get c).getX (wRs1 w)) (immS w)) (2 ^ wF3 w) o = true) (hsolo : s.joined c = false) :
    rvExec c w raw pc npc o s = .ok npc
      ((s.store (addI ((s.core.get c).getX (wRs1 w)) (immS w)) (2 ^ wF3 w) ((s.core.get c).getX (wRs2 w) % 256 ^ 2 ^ wF3 w)).coreSet c
        (fun k => { k with res := (s.core.get c).res })) := by
  obtain ⟨hva, -⟩ := dataAt_run hdata
  simp [rvExec, storeInstr, rv_bind, rv_map, rvCore_run, hop, hf3, hva, storeAt_sram _ hdata hsolo]

/-! ### The Xhjv instructions (R387 to R392, R409, R410) -/

/-- R388: WCALL below M-mode is a trap of its own. -/
theorem rvExec_wcall (hw : isWcall w = true) (hpriv : (s.core.get c).priv ≠ 3) : rvExec c w raw pc npc o s = .error (.trap { code := 24 }) s := by
  obtain rfl : w = 0x0000000B := by simpa [isWcall] using hw
  have hop : wOp 0x0000000B = 0x0B := by decide
  simp [rvExec, customInstr, wcallInstr, rv_bind, rv_map, rv_throw, rvCore_run, hop, hw, hpriv]

/-- R392: CKPT itself changes nothing. -/
theorem rvExec_ckpt (hw : isCkpt w = true) : rvExec c w w pc npc o s = .ok npc s := by
  obtain rfl : w = 0x0000100B := by simpa [isCkpt] using hw
  exact rvExec_custom (by decide) rfl

/-- A word of the rows from AGREE.LD on is neither WCALL nor CKPT. -/
theorem customInstr_fields (hop : wOp w = 0x0B) (hf3 : 2 ≤ wF3 w) :
    customInstr c w o =
      if isAgreeLd w then (do setX c (wRd w) (← agreeLoad c (← getX c (wRs1 w)) o))
      else if isAgreeRnd w then agreeRnd c w o
      else if isAgreeCyc w then agreeCyc c w
      else if isGtbrd w then gtbrdInstr c w
      else if isGtbrdX w then gtbrdXInstr c w
      else if isEvpost w then evpostInstr c w
      else illegal w := by
  obtain ⟨-, hwcall, hckpt⟩ := custom_word hop rfl hf3
  simp [customInstr, hwcall, hckpt]

/-- R387: GTBRD and GTBRD.X pass where a read of time would. -/
theorem timeAllowed_ok (hok : (s.core.get c).counterOk 1 = .ok) : timeAllowed c w s = .ok ⟨⟩ s := by
  simp [timeAllowed, rv_bind, rv_pure, rvCore_run, hok]

section Agreed

-- The core reads its agreed inputs afresh: it is unpaired, or the lead of a pair that runs and has used its journal up (R409, R425).
variable (hfresh : s.joined c = false ∨ (s.isLead c = true ∧ s.jNext c = none ∧ (s.pst (c / 2) = 1 ∨ s.pst (c / 2) = 4)))

include hfresh

/-- R409: a value that the core has at hand is taken as it is. -/
theorem agreed_pure (kind size addr v : Nat) : agreed c kind size addr (pure (false, v)) s = .ok (false, v) (s.agreedTo c kind size addr v) :=
  agreed_at hfresh rfl

/-- R389: AGREE.LD gives the 8 bytes at its address. -/
theorem agreeLoad_sram {a : Nat} (hdata : s.dataAt c .load .read a 8 o = true) :
    agreeLoad c a o s = .ok (s.load a 8) (s.agreedTo c 4 8 a (s.load a 8)) := by
  obtain ⟨hva, htrig, -, haligned, hport, hcheck, hattr, -, hpmp, htrans⟩ := dataAt_run hdata
  have hfab := s.coreFab_cached c a 8 .read (.inl rfl) (by simp [hattr, Attr.cached]) hport hcheck
  simp [agreeLoad, agreed_at (v := s.load a 8) hfresh, fab, rv_bind, rv_pure, rv_get, rv_modifyGet, rvCore_run, hva, htrig, haligned, htrans, hpmp, hattr,
    hfab, Va.seen]

theorem rvExec_agreeLd (hw : isAgreeLd w = true) (hdata : s.dataAt c .load .read ((s.core.get c).getX (wRs1 w)) 8 o = true) :
    rvExec c w w pc npc o s = .ok npc ((s.agreedTo c 4 8 ((s.core.get c).getX (wRs1 w)) (s.load ((s.core.get c).getX (wRs1 w)) 8)).coreSet c
      (fun k => k.setX (wRd w) (s.load ((s.core.get c).getX (wRs1 w)) 8))) := by
  obtain ⟨⟨hop, hf3⟩, -⟩ : (wOp w = 0x0B ∧ wF3 w = 2) ∧ _ := by simpa [isAgreeLd, and_assoc] using hw
  refine rvExec_custom hop ?_
  simp [customInstr_fields hop (by omega), hw, rv_bind, getX_run, setX_run, agreeLoad_sram hfresh hdata]

/-- R389: AGREE.RND gives the bits of the random bit generator. -/
theorem rvExec_agreeRnd (hw : isAgreeRnd w = true) :
    rvExec c w w pc npc o s = .ok npc ((s.agreedTo c 4 8 0 (o.rnd % 2 ^ 64)).coreSet c (fun k => k.setX (wRd w) (o.rnd % 2 ^ 64))) := by
  obtain ⟨⟨⟨hop, hf3⟩, hf7⟩, -⟩ : ((wOp w = 0x0B ∧ wF3 w = 2) ∧ wF7 w = 1) ∧ _ := by simpa [isAgreeRnd, and_assoc] using hw
  refine rvExec_custom hop ?_
  simp [customInstr_fields hop (by omega), isAgreeLd, hf7, hw, agreeRnd, rv_bind, setX_run, agreed_pure hfresh]

/-- R389: AGREE.CYC gives the lead's mcycle. -/
theorem rvExec_agreeCyc (hw : isAgreeCyc w = true) :
    rvExec c w w pc npc o s = .ok npc ((s.agreedTo c 4 8 0 ((s.core.get c).cs 0xB00)).coreSet c (fun k => k.setX (wRd w) ((s.core.get c).cs 0xB00))) := by
  obtain ⟨⟨⟨hop, hf3⟩, hf7⟩, -⟩ : ((wOp w = 0x0B ∧ wF3 w = 2) ∧ wF7 w = 2) ∧ _ := by simpa [isAgreeCyc, and_assoc] using hw
  refine rvExec_custom hop ?_
  simp [customInstr_fields hop (by omega), isAgreeLd, isAgreeRnd, hf7, hw, agreeCyc, rv_bind, rvCore_run, setX_run, agreed_pure hfresh]

/-- R390: GTBRD gives the nanoseconds of the global time base and keeps the fraction and the quality of the same tick. -/
theorem rvExec_gtbrd {v : Nat} (hw : isGtbrd w = true) (hok : (s.core.get c).counterOk 1 = .ok)
    (hv : v = s.nowNs % 2 ^ 64 + (s.nowFrac + s.get GTB_STAT_QUAL * 256) * 2 ^ 64) :
    rvExec c w w pc npc o s = .ok npc (((s.agreedTo c 5 8 0 v).coreSet c (fun k => { k with gtbrd := some (v / 2 ^ 64 % 256, v / 2 ^ 72) })).coreSet c
      (fun k => k.setX (wRd w) (v % 2 ^ 64))) := by
  obtain ⟨⟨hop, hf3⟩, -⟩ : (wOp w = 0x0B ∧ wF3 w = 3) ∧ _ := by simpa [isGtbrd, and_assoc] using hw
  refine rvExec_custom hop ?_
  subst hv
  simp [customInstr_fields hop (by omega), isAgreeLd, isAgreeRnd, isAgreeCyc, hf3, hw, gtbrdInstr, rv_bind, rv_get, timeAllowed_ok hok,
    agreed_pure hfresh, rvSet_run, setX_run]

/-- R390: GTBRD.X gives the fraction and the quality that the last GTBRD has kept, 0 before the first. -/
theorem rvExec_gtbrdX {v : Nat} (hw : isGtbrdX w = true) (hok : (s.core.get c).counterOk 1 = .ok)
    (hv : v = ((s.core.get c).gtbrd.map (fun p => p.1 + p.2 % 16 * 256)).getD 0) :
    rvExec c w w pc npc o s = .ok npc ((s.agreedTo c 6 8 0 v).coreSet c (fun k => k.setX (wRd w) v)) := by
  obtain ⟨⟨⟨hop, hf3⟩, hf7⟩, -⟩ : ((wOp w = 0x0B ∧ wF3 w = 3) ∧ wF7 w = 1) ∧ _ := by simpa [isGtbrdX, and_assoc] using hw
  refine rvExec_custom hop ?_
  subst hv
  cases hkept : (s.core.get c).gtbrd <;>
    simp [customInstr_fields hop (by omega), isAgreeLd, isAgreeRnd, isAgreeCyc, isGtbrd, hf3, hf7, hw, gtbrdXInstr, rv_bind, rvCore_run,
      timeAllowed_ok hok, agreed_pure hfresh, setX_run, hkept]

end Agreed

/-- R391, R412: what EVPOST does with the value `v`: an unpaired core raises source 32 + c, a copy posts through the release buffer of its pair. -/
def State.evposted (s : State) (c v : Nat) : State :=
  if s.joined c then s.push c { kind := 6, addr := 0, size := 4, data := v, inner := s.coreWorld c, seq := (s.core.get c).seq } else s.raise (32 + c) v

theorem rvExec_evpost (hw : isEvpost w = true) (hvirt : (s.core.get c).virt = false) (hpriv : (s.core.get c).priv ≠ 0) :
    rvExec c w w pc npc o s = .ok npc (s.evposted c ((s.core.get c).getX (wRs1 w) % 2 ^ 32)) := by
  obtain ⟨⟨hop, hf3⟩, -⟩ : (wOp w = 0x0B ∧ wF3 w = 4) ∧ _ := by simpa [isEvpost, and_assoc] using hw
  refine rvExec_custom hop ?_
  simp [customInstr_fields hop (by omega), isAgreeLd, isAgreeRnd, isAgreeCyc, isGtbrd, isGtbrdX, hf3, hw, evpostInstr, rv_bind, rv_modify,
    rvCore_run, hvirt, hpriv, State.evposted]

/-! ### MRET and CSR instructions (R384, R395, R398) -/

theorem rvExec_mret (hpriv : (s.core.get c).priv = 3) :
    rvExec c 0x30200073 raw pc npc o s = .ok ((s.core.get c).cs 0x341) ((s.coreSet c Core.afterMret).wstat c) := by
  have hop : wOp 0x30200073 = 0x73 := by decide
  have hf3 : wF3 0x30200073 = 0 := by decide
  simp [rvExec, systemAll, systemInstr, rv_bind, rvCore_run, hop, hf3, mretInstr_machine s c 0x30200073 hpriv]

/-- A CSR instruction that completes goes on at the next address. -/
theorem rvExec_csr {n : Nat} {u : State} (hw : isCsr n w = true) (hrun : csrInstr c w s = .ok ⟨⟩ u) : rvExec c w raw pc npc o s = .ok npc u := by
  obtain ⟨⟨hop, hf3⟩, -⟩ : (wOp w = 0x73 ∧ wF3 w % 4 ≠ 0) ∧ wCsr w = n := by simpa [isCsr] using hw
  have hsys := systemAll_csr (npc := npc) (o := o) (fun h0 => hf3 (by rw [h0])) (fun h4 => hf3 (by rw [h4])) hrun
  simp [rvExec, rv_bind, rvCore_run, hop, hsys]

/-- R398: a claim by an instruction of an unpaired core, in the file of mhjvclaim or of shjvclaim. -/
theorem csrInput_claim {n : Nat} {inner : Bool} (hn : n = if inner then 0x7C1 else 0x5C0) (hsolo : s.joined c = false) :
    csrInput c n s = .ok (s.claim c inner).2 (s.claim c inner).1 := by
  subst hn
  cases inner <;> simp [csrInput, agreed, State.csrRead, rv_bind, rv_map, rv_get, rv_modifyGet, hsolo]

/-- What a CSR instruction with the word `w` writes over the value `old`: its source, or `old` with the source's bits set or cleared. -/
def Core.csrNew (k : Core) (w old : Nat) : Nat :=
  let src := if 4 ≤ wF3 w then wRs1 w else k.getX (wRs1 w)
  if wF3 w % 4 = 1 then src else if wF3 w % 4 = 2 then old ||| src else old &&& not64 src

/-- A write of a CSR by an instruction, minstret aside. -/
theorem csrPut_run {n : Nat} (v : Nat) (hn : n ≠ 0xB02) : csrPut c n v s = .ok ⟨⟩ (s.csrWrite c n (v % 2 ^ 64)) := by
  simp [csrPut, rv_modify, hn]

/-- A CSR instruction that its check admits reads, writes and sets rd: `n` has no counterpart in the virtual modes, and is no floating-point CSR, mip or
minstret. -/
theorem csrInstr_ok {n old : Nat} {t : State} (hcsr : wCsr w = n) (hvirt : csrVirt n = n) (hhigh : ¬ n < 4) (hmip : n ≠ 0x344) (hret : n ≠ 0xB02)
    (hcheck : (s.core.get c).csrCheck n (wF3 w % 4 == 1 || wRs1 w != 0) = .ok)
    (hread : (if (wF3 w % 4 != 1 || wRd w != 0) = true then csrInput c n else pure 0) s = .ok old t) :
    csrInstr c w s = .ok ⟨⟩ ((if (wF3 w % 4 == 1 || wRs1 w != 0) = true then t.csrWrite c n ((s.core.get c).csrNew w old % 2 ^ 64) else t).coreSet c
      (fun k => k.setX (wRd w) old)) := by
  simp only [csrInstr, rv_bind, rvCore_run, hcsr, hcheck, hvirt, ite_self, hread, hmip, false_and, if_false]
  cases hwr : (wF3 w % 4 == 1 || wRs1 w != 0)
  · simp [setX_run]
  · simp [rv_bind, csrPut_run _ hret, hhigh, setX_run, Core.csrNew]

/-- R398: a CSR instruction that reads mhjvclaim or shjvclaim claims; what it writes there is dropped. -/
theorem csrInstr_claim {n : Nat} {inner : Bool} (hn : n = if inner then 0x7C1 else 0x5C0) (hcsr : wCsr w = n)
    (hcheck : (s.core.get c).csrCheck n (wF3 w % 4 == 1 || wRs1 w != 0) = .ok) (hread : wF3 w % 4 ≠ 1 ∨ wRd w ≠ 0) (hsolo : s.joined c = false) :
    csrInstr c w s = .ok ⟨⟩ ((s.claim c inner).1.coreSet c (fun k => k.setX (wRd w) (s.claim c inner).2)) := by
  have hinput := csrInput_claim hn hsolo
  have hdrop : ∀ (t : State) (v : Nat), t.csrWrite c n v = t := by subst hn; cases inner <;> intro t v <;> rfl
  obtain ⟨hvirt, hhigh, hmip, hret⟩ : csrVirt n = n ∧ ¬ n < 4 ∧ n ≠ 0x344 ∧ n ≠ 0xB02 := by subst hn; cases inner <;> decide
  rw [csrInstr_ok hcsr hvirt hhigh hmip hret hcheck (by rwa [if_pos (by simpa using hread)]), hdrop, ite_self]

/-- R384: a CSR instruction that writes mhjvctl, in M-mode. -/
theorem csrInstr_mhjvctl (hcsr : wCsr w = 0x7C2) (hpriv : (s.core.get c).priv = 3) (hwrite : wF3 w % 4 = 1 ∨ wRs1 w ≠ 0) :
    csrInstr c w s = .ok ⟨⟩ ((s.csrWrite c 0x7C2 ((s.core.get c).csrNew w (s.csrGet c 0x7C2) % 2 ^ 64)).coreSet c
      (fun k => k.setX (wRd w) (if wF3 w % 4 = 1 ∧ wRd w = 0 then 0 else s.csrGet c 0x7C2))) := by
  have hwr : (wF3 w % 4 == 1 || wRs1 w != 0) = true := by simpa using hwrite
  have hcheck : (s.core.get c).csrCheck 0x7C2 (wF3 w % 4 == 1 || wRs1 w != 0) = .ok := by simp [Core.csrCheck, csrExists, hpriv]
  have hinput : csrInput c 0x7C2 s = .ok (s.csrGet c 0x7C2) s := rfl
  by_cases hskip : wF3 w % 4 = 1 ∧ wRd w = 0
  · rw [csrInstr_ok hcsr rfl (by decide) (by decide) (by decide) hcheck (by rw [if_neg (by simpa using hskip)]; rfl), if_pos hwr, if_pos hskip]
    simp [Core.csrNew, hskip.1]
  · rw [csrInstr_ok hcsr rfl (by decide) (by decide) (by decide) hcheck
      (by rwa [if_pos (by simpa [Classical.or_iff_not_imp_left] using hskip)]), if_pos hwr, if_neg hskip]

end Run

end Sys2Proof.Machine
end

section
/-! PROOFS. Steps of an application core (R371, R388, R392, R395): what becomes of an instruction that completes or traps, where it has been fetched and where
the state shows that it comes next, and the statement O35. -/

namespace Sys2Proof.Machine

open Sys2Proof

/-- R469: what RGN_WSTAT shows changes no lead. -/
@[simp] theorem State.isLead_wstat (s : State) (c d : Nat) : (s.wstat c).isLead d = s.isLead d := by
  unfold State.wstat
  dsimp only
  split
  · rfl
  · split <;> rfl

/-- A change of a core makes and ends no lead. -/
@[simp] theorem State.isLead_coreSet (s : State) (c d : Nat) (g : Core → Core) : (s.coreSet c g).isLead d = s.isLead d := rfl

/-- A change of a core leaves it unpaired or a lead. -/
theorem State.leads_coreSet {s : State} {c d : Nat} (g : Core → Core) (h : s.joined d = false ∨ s.isLead d = true) :
    (s.coreSet c g).joined d = false ∨ (s.coreSet c g).isLead d = true := by
  rwa [State.joined_coreSet, State.isLead_coreSet]

/-- A word that a command wants is none that it does not want. -/
theorem ne_of_wanted {want : Nat → Bool} {w v : Nat} (hw : want w = true) (hv : want v = false) : w ≠ v := by
  rintro rfl
  exact absurd hw (by simp [hv])

/-- MRET and CKPT stand in the SYSTEM and the custom-0 opcodes. -/
theorem plain_word {w : Nat} (hop : wOp w ≠ 0x73 ∧ wOp w ≠ 0x0B) : w ≠ 0x30200073 ∧ isCkpt w = false := by
  obtain ⟨hsystem, hcustom⟩ := hop
  refine ⟨?_, Bool.eq_false_iff.2 fun hckpt => ?_⟩
  · rintro rfl
    exact hsystem (by decide)
  · obtain rfl : w = 0x0000100B := by simpa [isCkpt] using hckpt
    exact hcustom (by decide)

/-! ### One instruction that has been fetched -/

section One

variable {c npc : Nat} {o : RvObs} {x : RvWord} {t u : State}

/-- A fetched instruction that is a 32-bit word, or stands for one, runs that word. -/
theorem rvRun_word {w : Nat} (hx : x.word = some w) :
    rvRun c x o t = rvExec c w x.raw (t.core.get c).pc (((t.core.get c).pc + x.len) % 2 ^ 64) o t := by
  simp [rvRun, rv_bind, rvCore_run, hx]

/-- R392, R394, R395: an instruction that completes on an unpaired core or on a lead retires; MRET then enters the shadow, and CKPT of a lead asks for its
checkpoint. -/
theorem State.rvOne_completes (hrun : rvRun c x o t = .ok npc u) (hstay : u.joined c = false ∨ u.isLead c = true) :
    t.rvOne c x o = State.stepped (
      if x.word = some 0x30200073 then (u.retire c npc o).mretAfter c
      else if x.word.any isCkpt = true ∧ u.joined c = true then (u.retire c npc o).ckBegin (c / 2)
      else u.retire c npc o) c := by
  have hnotMissed : u.trapMissed c = false := by obtain hsolo | hlead := hstay <;> simp [State.trapMissed, *]
  have hjoined : (u.retire c npc o).joined c = u.joined c := rfl
  have hlead : (u.retire c npc o).isLead c = u.isLead c := rfl
  simp only [State.rvOne, hrun, hnotMissed, Bool.false_eq_true, if_false]
  by_cases hmret : x.word = some 0x30200073
  · have hckpt : isCkpt 0x30200073 = false := by decide
    simp [hmret, hckpt]
  · obtain hsolo | hleads := hstay <;> simp [*]

/-- An instruction other than MRET and CKPT that completes only retires. -/
theorem State.rvOne_retires (hrun : rvRun c x o t = .ok npc u) (hstay : u.joined c = false ∨ u.isLead c = true) (hmret : x.word ≠ some 0x30200073)
    (hckpt : x.word.any isCkpt = false) : t.rvOne c x o = (u.retire c npc o).stepped c := by
  rw [State.rvOne_completes hrun hstay, if_neg hmret, if_neg (by simp [hckpt])]

/-- R416: an instruction that traps steps into its trap. -/
theorem State.rvOne_trapped {tr : Trap} (hrun : rvRun c x o t = .error (.trap tr) u) : t.rvOne c x o = (u.trapStep c (tr.asFetched x.raw)).stepped c := by
  simp [State.rvOne, hrun]

end One

/-! ### Steps of an unpaired core -/

section Fetched

variable {c npc : Nat} {o : RvObs} {x : RvWord} {s t u : State} {want : Nat → Bool}

/-- A fetched instruction other than MRET that runs to its end on an unpaired core retires. -/
theorem State.rvStep_ran (hfetched : rvFetched c o s = some (x, t)) (hwant : want (x.word.getD 0) = true) (hmret : x.word ≠ some 0x30200073)
    (hran : rvRan c x o t = some (npc, u)) : s.rvStep c o want = (u.retire c npc o).stepped c := by
  rw [(State.rvStep_fetched hfetched hwant).1]
  obtain hone | hckpt := State.rvOne_ran hran
  · rw [hone, if_neg hmret]
  · exact State.rvOne_ckpt hran hckpt

/-- The same for a command that stands for one 32-bit instruction other than MRET. -/
theorem State.rvStep_ran_wanted (hmret : want 0x30200073 = false) (hfetched : rvFetched c o s = some (x, t)) (hword : x.word = some x.raw)
    (hwant : want x.raw = true) (hran : rvRan c x o t = some (npc, u)) : s.rvStep c o want = (u.retire c npc o).stepped c := by
  refine State.rvStep_ran hfetched (by rwa [hword]) ?_ hran
  rw [hword]
  exact fun h => ne_of_wanted hwant hmret (Option.some.inj h)

end Fetched

/-! ### Steps of a core whose next instruction the state shows -/

section At

variable {c w npc : Nat} {o : RvObs} {s u : State} {want : Nat → Bool}

/-- A core that executes an instruction next is unpaired, or the lead of a pair that runs and has used its journal up. -/
theorem State.rvAt_fresh (hat : s.rvAt c w o = true) :
    s.joined c = false ∨ (s.isLead c = true ∧ s.jNext c = none ∧ (s.pst (c / 2) = 1 ∨ s.pst (c / 2) = 4)) :=
  (State.rvStep_at (want := fun _ => true) hat rfl).2

/-- It runs for itself: it is unpaired or a lead. -/
theorem State.rvAt_leads (hat : s.rvAt c w o = true) : s.joined c = false ∨ s.isLead c = true :=
  (State.rvAt_fresh hat).imp id And.left

/-- An instruction that comes next and completes, other than MRET and CKPT, retires. -/
theorem State.rvStep_retires (hat : s.rvAt c w o = true) (hwant : want w = true) (hplain : w ≠ 0x30200073 ∧ isCkpt w = false)
    (hstay : u.joined c = false ∨ u.isLead c = true)
    (hrun : rvExec c w w (s.core.get c).pc (((s.core.get c).pc + 4) % 2 ^ 64) o s = .ok npc u) : s.rvStep c o want = (u.retire c npc o).stepped c := by
  obtain ⟨hmret, hckpt⟩ := hplain
  rw [(State.rvStep_at hat hwant).1]
  exact State.rvOne_retires ((rvRun_word rfl).trans hrun) hstay (by simpa using hmret) (by simpa using hckpt)

/-- The same for a command that stands for one instruction other than MRET and CKPT. -/
theorem State.rvStep_retires_wanted (hmret : want 0x30200073 = false) (hckpt : want 0x0000100B = false) (hat : s.rvAt c w o = true)
    (hwant : want w = true) (hstay : u.joined c = false ∨ u.isLead c = true)
    (hrun : rvExec c w w (s.core.get c).pc (((s.core.get c).pc + 4) % 2 ^ 64) o s = .ok npc u) : s.rvStep c o want = (u.retire c npc o).stepped c :=
  State.rvStep_retires hat hwant ⟨ne_of_wanted hwant hmret, beq_false_of_ne (ne_of_wanted hwant hckpt)⟩ hstay hrun

/-- R371: the next instruction, outside SYSTEM and custom-0. -/
theorem exec_rvInstruction_retires {c : Fin 8} (hat : s.rvAt c w o = true) (hop : wOp w ≠ 0x73 ∧ wOp w ≠ 0x0B)
    (hstay : u.joined c = false ∨ u.isLead c = true)
    (hrun : rvExec c w w (s.core.get c).pc (((s.core.get c).pc + 4) % 2 ^ 64) o s = .ok npc u) :
    exec (.rvInstruction c o) s = .next ((u.retire c npc o).stepped c) := by
  rw [exec_rvInstruction, execRvInstruction, done, State.rvStep_retires hat rfl (plain_word hop) hstay hrun]

/-- The same for one that changes its own core alone. -/
theorem exec_rvInstruction_core {c : Fin 8} {g : Core → Core} (hat : s.rvAt c w o = true) (hop : wOp w ≠ 0x73 ∧ wOp w ≠ 0x0B)
    (hrun : rvExec c w w (s.core.get c).pc (((s.core.get c).pc + 4) % 2 ^ 64) o s = .ok npc (s.coreSet c g)) :
    exec (.rvInstruction c o) s = .next (((s.coreSet c g).retire c npc o).stepped c) :=
  exec_rvInstruction_retires hat hop (State.leads_coreSet _ (State.rvAt_leads hat)) hrun

/-- R395: MRET in M-mode on an unpaired core or a lead. -/
theorem State.rvOne_mret {x : RvWord} (hx : x.word = some 0x30200073) (hpriv : (s.core.get c).priv = 3) (hleads : s.joined c = false ∨ s.isLead c = true) :
    s.rvOne c x o = (State.mretAfter (State.retire ((s.coreSet c Core.afterMret).wstat c) c ((s.core.get c).cs 0x341) o) c).stepped c := by
  have hstay : ((s.coreSet c Core.afterMret).wstat c).joined c = false ∨ ((s.coreSet c Core.afterMret).wstat c).isLead c = true := by
    rw [State.joined_wstat, State.isLead_wstat]
    exact hleads
  rw [State.rvOne_completes ((rvRun_word hx).trans (rvExec_mret hpriv)) hstay, if_pos hx]

/-- MRET and CKPT are no CSR instructions. -/
theorem isCsr_mret_ckpt (n : Nat) : isCsr n 0x30200073 = false ∧ isCsr n 0x0000100B = false := by
  have hf3 : wF3 0x30200073 % 4 = 0 := by decide
  have hop : wOp 0x0000100B ≠ 0x73 := by decide
  simp [isCsr, hf3, hop]

/-- R398: a claim that comes next, in the file of mhjvclaim or of shjvclaim. -/
theorem State.rvStep_claim {n : Nat} {inner : Bool} (hn : n = if inner then 0x7C1 else 0x5C0) (hat : s.rvAt c w o = true) (hw : isCsr n w = true)
    (hcheck : (s.core.get c).csrCheck n (wF3 w % 4 == 1 || wRs1 w != 0) = .ok) (hread : wF3 w % 4 ≠ 1 ∨ wRd w ≠ 0) (hsolo : s.joined c = false) :
    s.rvStep c o (isCsr n) = (State.retire ((s.claim c inner).1.coreSet c (fun k => k.setX (wRd w) (s.claim c inner).2)) c
      (((s.core.get c).pc + 4) % 2 ^ 64) o).stepped c := by
  obtain ⟨-, hcsr⟩ : _ ∧ wCsr w = n := by simpa [isCsr] using hw
  obtain ⟨hmret, hckpt⟩ := isCsr_mret_ckpt n
  exact State.rvStep_retires_wanted hmret hckpt hat hw (State.leads_coreSet _ (.inl (claim_joined hsolo)))
    (rvExec_csr hw (csrInstr_claim hn hcsr hcheck hread hsolo))

end At

/-- Settles O35: a fetched instruction that completes retires, and each instruction that the state shows completes as its own rule says. -/
theorem coreInstructions : Obligations.CoreInstructions := by
  unfold Obligations.CoreInstructions
  refine ⟨?ran, ?addiFetched, ?trapped, ?mretFetched, ?wcallFetched, ?ckptFetched, ?agreeLdFetched, ?agreeRndFetched, ?agreeCycFetched, ?gtbrdFetched,
    ?gtbrdXFetched, ?evpostFetched, ?claimInnerFetched, ?claimOuterFetched, ?mhjvctlFetched, ?lui, ?auipc, ?opImm, ?op, ?opImm32, ?op32, ?jal, ?jalr,
    ?branch, ?load, ?store, ?mret, ?wcall, ?ckpt, ?agreeLd, ?agreeRnd, ?agreeCyc, ?gtbrd, ?gtbrdX, ?evpost, ?claimInner, ?claimOuter, ?mhjvctl⟩
  case ran =>
    intro c o x t npc u s hfetched hmret hran
    rw [exec_rvInstruction, execRvInstruction, done, State.rvStep_ran hfetched rfl hmret hran]
  case addiFetched =>
    intro c o x t w s hfetched hx hop hf3
    obtain ⟨hone, hsolo⟩ := State.rvStep_fetched (want := fun _ => true) hfetched rfl
    have hplain := plain_word (w := w) (by omega)
    have hrun := (rvRun_word (c := c) (o := o) (t := t) hx).trans (rvExec_alu (by simp [Core.aluResult, aluImm, hop, hf3]; rfl))
    rw [exec_rvInstruction, execRvInstruction, done, hone, State.rvOne_retires hrun (.inl hsolo) (by simpa [hx] using hplain.1) (by simpa [hx] using hplain.2)]
  case trapped =>
    intro c o x t u tr s hfetched htraps
    rw [exec_rvInstruction, execRvInstruction, done, (State.rvStep_fetched hfetched rfl).1, State.rvOne_traps htraps]
  case mretFetched =>
    intro c o x t s hfetched hx _ hpriv
    obtain ⟨hone, hsolo⟩ := State.rvStep_fetched (want := fun w => w == 0x30200073) hfetched (by rw [hx]; rfl)
    rw [exec_mret, execMret, done, hone, State.rvOne_mret hx hpriv (.inl hsolo)]
  case wcallFetched =>
    intro c o x t s hfetched hx _ hpriv
    obtain ⟨hone, hsolo⟩ := State.rvStep_fetched (want := isWcall) hfetched (by rw [hx]; rfl)
    rw [exec_wcall, execWcall, done, hone, State.rvOne_trap ((rvRun_word hx).trans (rvExec_wcall rfl hpriv)) hsolo]
    rfl
  case ckptFetched | agreeLdFetched | agreeRndFetched | agreeCycFetched | gtbrdFetched | gtbrdXFetched | evpostFetched | claimInnerFetched | claimOuterFetched |
      mhjvctlFetched =>
    intro c o x t npc u s hfetched hx hw hran
    exact congrArg Host.Outcome.next (State.rvStep_ran_wanted rfl hfetched hx hw hran)
  case lui => exact fun c o w s hat hop => exec_rvInstruction_core hat (by omega) (rvExec_lui hop)
  case auipc => exact fun c o w s hat hop => exec_rvInstruction_core hat (by omega) (rvExec_auipc hop)
  case opImm | op | opImm32 | op32 =>
    exact fun c o w s v hat hop hv => exec_rvInstruction_core hat (by omega) (rvExec_alu (by simpa [Core.aluResult, hop] using hv))
  case jal =>
    intro c o w s hat hop
    exact exec_rvInstruction_retires hat (by omega) (State.leads_coreSet _ (State.leads_coreSet _ (State.rvAt_leads hat))) (rvExec_jal hop)
  case jalr =>
    intro c o w s hat hop hf3
    exact exec_rvInstruction_retires hat (by omega) (State.leads_coreSet _ (State.leads_coreSet _ (State.rvAt_leads hat))) (rvExec_jalr hop hf3)
  case branch => exact fun c o w s taken hat hop htaken => exec_rvInstruction_core hat (by omega) (rvExec_branch hop htaken)
  case load =>
    rintro c o w s _ hat hop hf3 hdata hsolo rfl
    exact exec_rvInstruction_retires hat (by omega) (State.leads_coreSet _ (.inl hsolo)) (rvExec_load hop hf3 hdata hsolo)
  case store =>
    rintro c o w s _ _ hat hop hf3 hdata hsolo rfl rfl
    exact exec_rvInstruction_retires hat (by omega) (State.leads_coreSet _ (.inl ((State.joined_store ..).trans hsolo))) (rvExec_store hop hf3 hdata hsolo)
  case mret =>
    rintro c o _ s hat rfl hpriv
    rw [exec_mret, execMret, done, (State.rvStep_at hat rfl).1, State.rvOne_mret rfl hpriv (State.rvAt_leads hat)]
  case wcall =>
    intro c o w s hat hw hpriv
    rw [exec_wcall, execWcall, done, (State.rvStep_at hat hw).1, State.rvOne_trapped ((rvRun_word rfl).trans (rvExec_wcall hw hpriv))]
    rfl
  case ckpt =>
    intro c o w s hat hw
    have hmret : w ≠ 0x30200073 := ne_of_wanted hw rfl
    rw [exec_ckpt, execCkpt, done, (State.rvStep_at hat hw).1, State.rvOne_completes ((rvRun_word rfl).trans (rvExec_ckpt hw)) (State.rvAt_leads hat)]
    simp [hmret, hw]
  case agreeLd =>
    rintro c o w s _ hat hw hdata rfl hstay
    exact congrArg Host.Outcome.next (State.rvStep_retires_wanted rfl rfl hat hw (State.leads_coreSet _ hstay) (rvExec_agreeLd (State.rvAt_fresh hat) hw hdata))
  case agreeRnd =>
    rintro c o w s _ hat hw rfl hstay
    exact congrArg Host.Outcome.next (State.rvStep_retires_wanted rfl rfl hat hw (State.leads_coreSet _ hstay) (rvExec_agreeRnd (State.rvAt_fresh hat) hw))
  case agreeCyc =>
    rintro c o w s _ hat hw rfl hstay
    exact congrArg Host.Outcome.next (State.rvStep_retires_wanted rfl rfl hat hw (State.leads_coreSet _ hstay) (rvExec_agreeCyc (State.rvAt_fresh hat) hw))
  case gtbrd =>
    rintro c o w s v _ hat hw hok hv rfl hstay
    exact congrArg Host.Outcome.next (State.rvStep_retires_wanted rfl rfl hat hw (State.leads_coreSet _ (State.leads_coreSet _ hstay))
      (rvExec_gtbrd (State.rvAt_fresh hat) hw hok hv))
  case gtbrdX =>
    rintro c o w s v _ hat hw hok hv rfl hstay
    exact congrArg Host.Outcome.next (State.rvStep_retires_wanted rfl rfl hat hw (State.leads_coreSet _ hstay) (rvExec_gtbrdX (State.rvAt_fresh hat) hw hok hv))
  case evpost =>
    rintro c o w s _ hat hw hvirt hpriv rfl hstay
    exact congrArg Host.Outcome.next (State.rvStep_retires_wanted rfl rfl hat hw hstay (rvExec_evpost hw hvirt hpriv))
  case claimInner =>
    rintro c o w s _ hat hw hcheck hread hsolo rfl
    exact congrArg Host.Outcome.next (State.rvStep_claim (inner := true) rfl hat hw hcheck hread hsolo)
  case claimOuter =>
    rintro c o w s _ hat hw hcheck hread hsolo rfl
    exact congrArg Host.Outcome.next (State.rvStep_claim (inner := false) rfl hat hw hcheck hread hsolo)
  case mhjvctl =>
    rintro c o w s _ hat hw hpriv hwrite hsolo rfl
    obtain ⟨-, hcsr⟩ : _ ∧ wCsr w = 0x7C2 := by simpa [isCsr] using hw
    exact congrArg Host.Outcome.next (State.rvStep_retires_wanted rfl rfl hat hw (State.leads_coreSet _ (.inl ((State.joined_csrWrite ..).trans hsolo)))
      (rvExec_csr hw (csrInstr_mhjvctl hcsr hpriv hwrite)))

end Sys2Proof.Machine
end

section
/-! PROOFS. The mailbox channels (R501 to R505): claim, GO, release and reclaim, each by its owner or by another requester. -/

namespace Sys2Proof.Machine

open Sys2Proof

theorem State.mbxClaim_free {s : State} {m : Nat} {r : Req} {vi : Option Nat} (h : s.mbx m = 0) :
    s.mbxClaim m r vi =
      let t := (((s.set (MBX_STATUS_STATE m) 1).set (MBX_STATUS_OWNER m) r.id).set (MBX_STATUS_WORLD m) (b2n (s.worldOf r))).set (MBX_STATUS_GEN m) r.gen
      { t with cmp := { t.cmp with vi := t.cmp.vi.put m vi, grp := t.cmp.grp.put m (s.groupOf r.id) } } :=
  if_neg (not_not.2 h)

theorem State.mbxClaim_taken {s : State} {m : Nat} {r : Req} {vi : Option Nat} (h : s.mbx m ≠ 0) : s.mbxClaim m r vi = s := if_pos h

theorem State.mbxGo_mine {s : State} {m op : Nat} {r : Req} (hmine : s.mbxMine m r = true) (h : s.mbx m = 1 ∨ s.mbx m = 4) :
    s.mbxGo m r op =
      let t := ((((s.mbxClear m).set (MBX_STATUS_ERR m) 0).set (MBX_STATUS_STATE m) 2).set (MBX_CMD_OPCODE m) op).set (MBX_CMD_GO m) 1
      t.mbxQueue (t.cmp.queue ++ [m]) :=
  if_neg (by simpa [hmine, mbxOWNED, mbxDONE] using not_and_of_not_or_not (h.imp not_not.2 not_not.2))

theorem State.mbxGo_other {s : State} {m op : Nat} {r : Req} (h : s.mbxMine m r = false) : s.mbxGo m r op = s := if_pos (by simp [h])

theorem State.mbxRelease_other {s : State} {m : Nat} {r : Req} (h : s.mbxMine m r = false) : s.mbxRelease m r = s := by simp [State.mbxRelease, h]

theorem State.mbxLeave_idle {s : State} {m : Nat} (h : s.mbx m ≠ 3) : s.mbxLeave m = s.mbxFree m := if_neg h

theorem State.mbxLeave_running {s : State} {m : Nat} (h : s.mbx m = 3) : s.mbxLeave m = { s with cmp := { s.cmp with drop := true } } := if_pos h

theorem State.mbxReclaim_held {s : State} {m why : Nat} (h : s.mbx m = 1 ∨ s.mbx m = 4) :
    s.mbxReclaim m why = ((s.mbxFree m).inc MBX_RECL_RECLAIMED).raise 302 (m * 256 + why) := by
  rw [State.mbxReclaim, if_neg (by unfold mbxFREE; omega), State.mbxLeave_idle (by omega)]

/-- Settles O33: who may claim, start, release or lose a channel, case by case over its state (R529). -/
theorem mailboxChannels : Obligations.MailboxChannels := by
  unfold Obligations.MailboxChannels
  refine ⟨?claim, ?taken, ?go, ?other, ?release, ?running, ?reclaim, ?live⟩
  case claim =>
    rintro m r s _ hfree rfl
    rw [exec_mbxClaim, execMbxClaim, State.mbxClaim_free hfree]
  case taken =>
    intro m r s hheld
    rw [exec_mbxClaim, execMbxClaim, State.mbxClaim_taken hheld]
  case go =>
    rintro m r op s _ hmine hidle rfl
    rw [exec_mbxGo, execMbxGo, State.mbxGo_mine hmine hidle]
  case other =>
    intro m r op s hother
    rw [exec_mbxGo, execMbxGo, State.mbxGo_other hother, exec_mbxRelease, execMbxRelease, State.mbxRelease_other hother]
    exact ⟨rfl, rfl⟩
  case release =>
    intro m r s hmine hidle
    rw [exec_mbxRelease, execMbxRelease, State.mbxRelease, if_pos hmine, State.mbxLeave_idle hidle]
  case running =>
    intro m r s hmine hrun
    rw [exec_mbxRelease, execMbxRelease, State.mbxRelease, if_pos hmine, State.mbxLeave_running hrun]
  case reclaim =>
    intro m s hheld
    rw [exec_mbxReclaimTimeout, execMbxReclaimTimeout]
    exact (if_pos hheld).trans (congrArg Host.Outcome.next (State.mbxReclaim_held hheld))
  case live =>
    intro m s howned hdone
    exact if_neg (not_or.2 ⟨howned, hdone⟩)

end Sys2Proof.Machine
end

section
/-! PROOFS. What every command of the table checks first: refuted, for an ST_RUN of all units waits before any check (R570). -/

namespace Sys2Proof.Machine

open Sys2Proof

/-- In BLANK, channel 0 has queued an ST_RUN of code 2, a scan of every unit, and unit 0 is in a slice. -/
def scanAskedInSlice : State :=
  { (((State.reset.set (MBX_CMD_OPCODE 0) 0x53).set (MBX_ARG_ARG 0 0) 2).set (STE_USTAT_STATE 0) 1) with cmp := { queue := [0] } }

/-- Compass does not take up an ST_RUN of code 2 while any unit is in a slice: nothing changes. -/
theorem exec_stRun_scan_waits {m : Fin 8} {flaky bad : List Nat} {ok : Bool} {sig : Nat} {s : State} (hcode : s.arg m 0 = 2)
    (hslice : (List.range 58).any s.inSlice = true) : exec (.stRun m flaky bad ok sig) s = .next s :=
  if_pos (.inr ⟨hcode, hslice⟩)

/-- Refutes O57: an ST_RUN of all units (code 2) that finds a unit in a slice waits in its queue even in BLANK, which its row does not have, where the
statement has it fail with LCSTATE. -/
theorem not_mailboxChecks : ¬ Obligations.MailboxChecks := by
  unfold Obligations.MailboxChecks
  intro h
  have hwaits : exec (.stRun 0 [] [] true 0) scanAskedInSlice = .next scanAskedInSlice := exec_stRun_scan_waits rfl rfl
  obtain ⟨t, htake⟩ : ∃ t, scanAskedInSlice.takeUp 0 0x53 = some t := ⟨_, rfl⟩
  have hblank : t.lcOk 0x1E = false := by
    obtain rfl := Option.some.inj htake
    rfl
  have hfails := (h (.stRun 0 [] [] true 0) ⟨0, 0x53, 0x1E, true, false⟩ scanAskedInSlice t rfl rfl htake).1 hblank
  have hres : scanAskedInSlice.cmp.res = (CmdRes.fail t errLCSTATE).answer.cmp.res :=
    congrArg (fun u : State => u.cmp.res) (Host.Outcome.next.inj (hwaits.symm.trans hfails))
  exact absurd hres (by simp [scanAskedInSlice, CmdRes.answer])

end Sys2Proof.Machine
end

section
/-! PROOFS. What Compass tells of itself (R510, R522, R523): each command taken up with its arguments in order answers as its row says. -/

namespace Sys2Proof.Machine

open Sys2Proof

/-- A body runs where its buffer is in order. -/
@[simp] theorem CmdRes.orRun_zero (s : State) (k : CmdRes) : CmdRes.orRun s 0 k = k := rfl

/-- 32 random bytes are taken as they are. -/
theorem nonce_taken {nonce : List Nat} (hlen : nonce.length = 32) (hbyte : nonce.all (fun b => decide (b < 256)) = true) :
    (List.range 32).map (fun i => nonce.getD i 0 % 256) = nonce := by
  refine List.ext_getElem (by simp [hlen]) fun i h1 h2 => ?_
  have hi : nonce[i] < 256 := by simpa using List.all_eq_true.1 hbyte nonce[i] (List.getElem_mem h2)
  simp [h2, Nat.mod_eq_of_lt hi]

/-- Settles O46: every clause takes the command's body after its checks (`command_runs`) and follows the one branch that the arguments leave. -/
theorem compassInformation : Obligations.CompassInformation := by
  unfold Obligations.CompassInformation
  refine ⟨?getInfo, ?getBootstat, ?echo, ?lcChallenge, ?nonceExpiry, ?measRead, ?measReadArg, ?measExtend, ?quote, ?getCert, ?verifyImage, ?rng⟩
  case getInfo => exact fun m t s hrun => State.command_runs _ hrun
  case getBootstat => exact fun m t s hrun => State.command_runs _ hrun
  case echo => exact fun m t s hrun => State.command_runs _ hrun
  case lcChallenge =>
    intro m nonce t s hrun hlen hbyte
    rw [exec_lcChallenge, execLcChallenge, State.command_runs _ hrun, nonce_taken hlen hbyte]
  case nonceExpiry => exact fun s => rfl
  case measRead =>
    intro m t s hrun harg hbuf
    rw [exec_measRead, execMeasRead, State.command_runs _ hrun]
    simp [Nat.not_le.2 harg, hbuf]
  case measReadArg =>
    intro m t s hrun harg
    rw [exec_measRead, execMeasRead, State.command_runs _ hrun, if_pos harg]
  case measExtend =>
    intro m t s hrun hlow hhigh hbuf
    rw [exec_measExtend, execMeasExtend, State.command_runs _ hrun]
    simp [Nat.not_lt.2 hlow, Nat.not_le.2 hhigh, hbuf]
  case quote =>
    rintro m _ t s hrun harg hbuf hscan rfl
    rw [exec_quote, execQuote, State.command_runs _ hrun]
    simp [Nat.not_le.2 harg, hbuf, hscan]
  case getCert =>
    rintro m _ t s hrun rfl
    rw [exec_getCert, execGetCert, State.command_runs _ hrun]
  case verifyImage =>
    rintro m _ t s hrun hslot hext hbuf rfl
    have hargs : ¬(4 ≤ t.arg m 3 ∨ (t.arg m 4 ≠ 0 ∧ (t.arg m 4 < 4 ∨ 8 ≤ t.arg m 4))) := by omega
    rw [exec_verifyImage, execVerifyImage, State.command_runs _ hrun]
    simp only [if_neg hargs, hbuf, CmdRes.orRun_zero]
  case rng =>
    intro m bytes t s hrun hlen hbuf
    rw [exec_rng, execRng, State.command_runs _ hrun]
    simp [Nat.not_lt.2 hlen, hbuf]

end Sys2Proof.Machine
end

section
/-! PROOFS. The life cycle (R512 to R516): what a command under a token does where the token is accepted, and where it is not. -/

namespace Sys2Proof.Machine

open Sys2Proof

/-- Settles O47: `withToken_read` says what a token does to every command that asks for one; the rest is the command's own branch. -/
theorem lifeCycle : Obligations.LifeCycle := by
  unfold Obligations.LifeCycle
  refine ⟨?provDevid, ?lcAdvanceMaker, ?lcAdvanceField, ?lcReturn, ?lcEnd, ?lcEndWord, ?dbgUnlock, ?provRootkey, ?keyRevoke⟩
  case provDevid =>
    intro m a b d t s hrun hbuf hfails
    rw [exec_provDevid, execProvDevid, State.commandNv_runs _ hrun, State.withToken_read _ hbuf hfails]
  case lcAdvanceMaker =>
    intro m t s hrun hword hnext hlc hbuf hfails
    rw [exec_lcAdvance, execLcAdvance, State.commandNv_runs _ hrun]
    simp [hword, hnext, hlc, State.withToken_read _ hbuf hfails]
  case lcAdvanceField =>
    intro m b t s hrun hword hnext hlc hlow hhigh hpending hbooted
    rw [exec_lcAdvance, execLcAdvance, State.commandNv_runs _ hrun]
    simp [hword, hnext, hlc, hlow, hhigh, hpending, hbooted]
  case lcReturn =>
    intro m t s hrun hbuf hfails
    rw [exec_lcReturn, execLcReturn, State.commandNv_runs _ hrun, State.withToken_read _ hbuf hfails]
  case lcEnd =>
    intro m t s hrun hword
    rw [exec_lcEnd, execLcEnd, State.commandNv_runs _ hrun, if_neg (not_not.2 hword)]
  case lcEndWord =>
    intro m t s hrun hword
    rw [exec_lcEnd, execLcEnd, State.commandNv_runs _ hrun, if_pos hword]
  case dbgUnlock =>
    intro m t s hrun hbuf hfails
    rw [exec_dbgUnlock, execDbgUnlock, State.command_runs _ hrun, State.withToken_read _ hbuf hfails]
  case provRootkey =>
    intro m t s hrun hslot hbuf hempty
    rw [exec_provRootkey, execProvRootkey, State.commandNv_runs _ hrun]
    simp [Nat.not_le.2 hslot, hbuf, hempty]
  case keyRevoke =>
    intro m t s hrun hbuf hfails
    rw [exec_keyRevoke, execKeyRevoke, State.commandNv_runs _ hrun, State.withToken_read _ hbuf hfails]

end Sys2Proof.Machine
end

section
/-! PROOFS. The update of a software bank (R524, R525): each command of it with the bank in the state that its row asks for, and in another. -/

namespace Sys2Proof.Machine

open Sys2Proof

/-- Settles O48: each command with its bank opened, verified, pending or booted, and each refusal of its row. -/
theorem updates : Obligations.Updates := by
  unfold Obligations.Updates
  refine ⟨?begin, ?beginTrial, ?write, ?writeClosed, ?fromXspi, ?verify, ?activate, ?activateUnverified, ?confirm, ?revert, ?revertOld⟩
  case begin =>
    intro m b t s hrun harg htrial hbooted
    rw [exec_updBegin, execUpdBegin, State.commandNv_runs _ hrun]
    simp [Nat.not_le.2 harg, htrial, hbooted]
  case beginTrial =>
    intro m t s hrun harg htrial
    rw [exec_updBegin, execUpdBegin, State.commandNv_runs _ hrun]
    simp [Nat.not_le.2 harg, htrial]
  case write =>
    intro m t s hrun hfits hbuf hopen
    rw [exec_updWrite, execUpdWrite, State.commandNv_runs _ hrun]
    simp [hfits, hbuf, hopen]
  case writeClosed =>
    intro m t s hrun hfits hbuf hclosed
    rw [exec_updWrite, execUpdWrite, State.commandNv_runs _ hrun]
    simp [hfits, hbuf, hclosed]
  case fromXspi =>
    intro m f d t s hrun hfits hopen herasing hflash
    rw [exec_updFromXspi, execUpdFromXspi, State.commandNv_runs _ hrun]
    simp [hfits, hopen, herasing, hflash]
  case verify =>
    rintro m _ bad t s hrun hopen rfl
    rw [exec_updVerify, execUpdVerify, State.commandNv_runs _ hrun, if_neg hopen]
    rfl
  case activate =>
    intro m t s hrun hbits hverified
    rw [exec_updActivate, execUpdActivate, State.commandNv_runs _ hrun]
    simp [hbits, hverified]
  case activateUnverified =>
    intro m t s hrun hbits hverified
    rw [exec_updActivate, execUpdActivate, State.commandNv_runs _ hrun]
    simp [hbits, hverified]
  case confirm =>
    rintro m b _ _ t s hrun hbooted hpending rfl rfl
    rw [exec_updConfirm, execUpdConfirm, State.commandNv_runs _ hrun]
    simp [hbooted, hpending]
  case revert =>
    rintro m _ t s hrun harg rfl hversion
    rw [exec_updRevert, execUpdRevert, State.commandNv_runs _ hrun]
    simp [Nat.not_le.2 harg, Nat.not_lt.2 hversion]
  case revertOld =>
    rintro m _ t s hrun harg rfl hversion
    rw [exec_updRevert, execUpdRevert, State.commandNv_runs _ hrun]
    simp [Nat.not_le.2 harg, hversion]

end Sys2Proof.Machine
end

section
/-! PROOFS. Settings records, eNVM, the persistent area, wrapped keys and external flash (R445, R510, R526). -/

namespace Sys2Proof.Machine

open Sys2Proof

/-- KEY_WRAP and KEY_UNWRAP with a whole buffer and live secrets: the bytes made from the buffer's, or AUTH. -/
theorem State.wrapping_made {s : State} {m grow : Nat} {f : List Nat → Option (List Nat)} (hbuf : s.bufErr m 16 true true = 0) (hlen : s.bufLen m ≤ 4096)
    (hwhole : s.bufLen m % 8 = 0) (hroom : s.bufOk m (s.bufLen m + grow) .write = true) (hscan : s.cmp.scan = false) :
    s.wrapping m grow f = match f (s.bufRead m (s.bufLen m)) with
      | some d => { s := s.setBytes (s.bufAddr m) (d.map (· % 256)), res := [(d.map (· % 256)).length] }
      | none => CmdRes.fail s errAUTH := by
  have hfits : ¬(4096 < s.bufLen m ∨ s.bufLen m % 8 ≠ 0) := by omega
  simp only [State.wrapping, hbuf, ne_eq, not_true_eq_false, if_false, if_neg hfits, hroom, hscan]
  rfl

/-- Settles O49: settings records, refresh, the persistent area, wrapped keys and the external flash, clause by clause. -/
theorem settingsAndStorage : Obligations.SettingsAndStorage := by
  unfold Obligations.SettingsAndStorage
  refine ⟨?cfgRead, ?cfgReadArg, ?cfgWrite, ?cfgWriteArg, ?refreshClean, ?refreshTwo, ?persistRead, ?persistClear, ?keyWrap, ?keyUnwrap, ?xspiInit,
    ?xspiRead, ?xspiProgram, ?xspiErase, ?xspiBusy, ?eraseDone⟩
  case cfgRead =>
    intro m b t s hrun hbank hword
    rw [exec_cfgRead, execCfgRead, State.command_runs _ hrun]
    cases hcopy : t.recCopy b <;> simp [hbank, Nat.not_le.2 hword, hcopy]
  case cfgReadArg =>
    intro m b t s hrun hbank hword
    rw [exec_cfgRead, execCfgRead, State.command_runs _ hrun]
    simp [hbank, hword]
  case cfgWrite =>
    rintro m b _ t s hrun hbank hword rfl
    rw [exec_cfgWrite, execCfgWrite, State.commandNv_runs _ hrun]
    simp [hbank, Nat.not_le.2 hword]
  case cfgWriteArg =>
    intro m b t s hrun hbank hword
    rw [exec_cfgWrite, execCfgWrite, State.commandNv_runs _ hrun]
    simp [hbank, hword]
  case refreshClean =>
    intro m t s hrun hpage hbank
    rw [exec_envmRefresh, execEnvmRefresh, Nat.zero_min, if_pos rfl, State.command_runs _ hrun]
    simp [hpage, hbank, State.each]
  case refreshTwo =>
    intro m t s hrun hpage hbank
    rw [exec_envmRefresh, execEnvmRefresh, if_neg (by decide), State.commandNv_runs _ hrun]
    simp [hpage, hbank, List.range_succ]
  case persistRead =>
    rintro m _ t s hrun hbuf rfl
    rw [exec_persistRead, execPersistRead, State.command_runs _ hrun, hbuf, CmdRes.orRun_zero]
  case persistClear => exact fun m t s hrun => State.command_runs _ hrun
  case keyWrap =>
    rintro m _ t s hrun hbuf hlen hwhole hroom hscan rfl
    rw [exec_keyWrap, execKeyWrap, State.command_runs _ hrun, State.wrapping_made hbuf hlen hwhole hroom hscan]
  case keyUnwrap =>
    rintro m w t s hrun hbuf hlen hwhole hroom hscan hw
    rw [exec_keyUnwrap, execKeyUnwrap, State.command_runs _ hrun, State.wrapping_made hbuf hlen hwhole hroom hscan, ← hw]
    cases w <;> rfl
  case xspiInit =>
    rintro m j k _ t s hrun hdev hclk hfast herasing rfl
    rw [exec_xspiInit, execXspiInit, State.command_runs _ hrun]
    simp [Nat.not_le.2 hdev, hclk, Nat.not_lt.2 hfast, herasing]
  case xspiRead =>
    intro m f d t s hrun hlen hbuf herasing hflash
    rw [exec_xspiRead, execXspiRead, State.command_runs _ hrun]
    simp [Nat.not_lt.2 hlen, hbuf, herasing, hflash]
  case xspiProgram =>
    intro m f t s hrun hlen hpage hbuf herasing hflash
    rw [exec_xspiProgram, execXspiProgram, State.command_runs _ hrun]
    simp [Nat.not_lt.2 hlen, hpage, hbuf, herasing, hflash]
  case xspiErase =>
    rintro m f _ t s hrun hkind herasing hflash rfl
    rw [exec_xspiErase, execXspiErase, State.command_runs _ hrun]
    simp [hkind, herasing, hflash]
  case xspiBusy =>
    intro m t s hrun hkind hsector herasing
    rw [exec_xspiErase, execXspiErase, State.command_runs _ hrun]
    simp [hkind, hsector, herasing]
  case eraseDone => exact fun s => rfl

end Sys2Proof.Machine
end

section
/-! PROOFS. Completion, HANDOVER, restarts, resets, tests on request, scan and secure boot (R504, R510, R511, R520, R578, R580). -/

namespace Sys2Proof.Machine

open Sys2Proof

/-- A running command whose channel keeps its owner completes: results, ERR, DONE and source 296. -/
theorem State.mbxComplete_kept {s : State} {m e : Nat} {res : List Nat} (hrun : s.cmp.run = some m) (hres : s.cmp.res = some (res, e)) (hdrop : s.cmp.drop = false) :
    s.mbxComplete = State.raise (((State.set ((State.each { s with cmp := { s.cmp with run := none, res := none, drop := false } } (res.zipIdx.take 8)
      (fun t p => t.set (MBX_RESULT_RESULT m p.2) p.1)).set (MBX_STATUS_ERR m) e) (MBX_CMD_GO m) 0).set (MBX_STATUS_STATE m) 4).set MBX_GSTAT_CUROP 0) 296
      (s.get (MBX_CMD_OPCODE m) * 2 ^ 24 + e * 2 ^ 16 + m * 256 + s.get (MBX_STATUS_OWNER m)) := by
  simp only [State.mbxComplete, hrun, hres, hdrop, Bool.false_eq_true, if_false, mbxDONE]

/-- The channel that runs completes; only UPD_ACTIVATE and UPD_REVERT may ask for a reset with it. -/
theorem exec_mbxCommandComplete_running {s : State} {m : Nat} (hrun : s.cmp.run = some m) (h34 : s.get (MBX_CMD_OPCODE m) ≠ 0x34) (h36 : s.get (MBX_CMD_OPCODE m) ≠ 0x36) :
    exec .mbxCommandComplete s = .next s.mbxComplete := by
  simp only [exec_mbxCommandComplete, execMbxCommandComplete, hrun, beq_eq_false_iff_ne.2 h34, beq_eq_false_iff_ne.2 h36]
  rfl

/-- What HANDOVER does once its argument words are in order: the kind chooses. -/
theorem exec_handover_kind {s t : State} {m : Fin 8} {late : List (Fin 119)} (hrun : compassRuns s m 0x50 0x1E false false t) (hflags : bf (t.arg m 0) 0 25 = 0)
    (hkind : t.arg m 0 / 2 ^ 29 < 5) (hcount : t.arg m 2 ≠ 0) (hforce : bitOf (t.arg m 0) 26 = false) (hrest : t.arg m 0 / 2 ^ 29 = 3 ∨ t.arg m 4 = 0) :
    exec (.handover m late) s = .next (CmdRes.answer
      (if t.arg m 0 / 2 ^ 29 = 2 then t.handPsc m (t.mbxOwner m) (t.arg m 0) (t.arg m 1) (t.arg m 2) (t.arg m 3)
       else if t.arg m 0 / 2 ^ 29 = 3 then t.handCan m (t.mbxOwner m) (t.arg m 0) (t.arg m 1) (t.arg m 2) (t.arg m 3) (t.arg m 4)
       else if t.arg m 0 / 2 ^ 29 = 4 then t.handSources (t.mbxOwner m) (t.arg m 0) (t.arg m 1) (t.arg m 2) (t.arg m 3)
       else t.handPages m (t.mbxOwner m) (t.arg m 0 / 2 ^ 29) (t.arg m 0) (t.arg m 1) (t.arg m 2) (t.arg m 3) (late.map Fin.val))) := by
  have hargs : ¬(t.arg m 0 / 2 ^ 29 = 7 ∨ t.arg m 2 = 0 ∨ ((t.arg m 0 / 2 ^ 29 = 5 ∨ t.arg m 0 / 2 ^ 29 = 6) ∧ t.arg m 2 ≠ 1) ∨
      (bitOf (t.arg m 0) 26 = true ∧ t.arg m 0 / 2 ^ 29 ≠ 0) ∨ (t.arg m 0 / 2 ^ 29 ≠ 3 ∧ t.arg m 4 ≠ 0)) := by
    simp only [hforce, Bool.false_eq_true, false_and, false_or]
    omega
  rw [exec_handover, execHandover, State.command_runs _ hrun]
  simp only [if_neg (not_not.2 hflags), if_neg hargs]

/-- HANDOVER of a kind that does not exist, or of nothing. -/
theorem exec_handover_arg {s t : State} {m : Fin 8} {late : List (Fin 119)} (hrun : compassRuns s m 0x50 0x1E false false t) (hflags : bf (t.arg m 0) 0 25 = 0)
    (hargs : t.arg m 0 / 2 ^ 29 = 7 ∨ t.arg m 2 = 0) : exec (.handover m late) s = .next (CmdRes.fail t errARG).answer := by
  rw [exec_handover, execHandover, State.command_runs _ hrun, if_neg (not_not.2 hflags), if_pos (by omega)]

/-- A cold start as far as the choice of the bank: READY stage 1, the erasure finished, the domains of the start up, and the time noted. -/
def State.bootCold (s : State) (us : Nat) : State :=
  let u := ((s.set SYS_READY_STAGE 1).eraseFinish).showLc
  let v := ((u.set SYS_CLKSTAT_XTAL_OK (b2n (!u.gtb.rc))).set PWR_DOMSTAT_UP 0x301F).islands
  { v with cmp := { v.cmp with bootUs := us % 2 ^ 32 } }

/-- Compass may start after a cold reset, and VBAT lets it program (R520, R532). -/
structure State.StartsCold (s : State) : Prop where
  asked : s.pow.bringUp.isSome = true
  pin : s.pow.pin = false
  core : s.pow.coreUp = true
  vbat : s.pow.vbat = true
  stage : s.get SYS_READY_STAGE = 0
  tested : s.coreTested = true
  charged : s.on PWR_STAT_VBATLO = false
  cold : s.pow.bringUp ≠ some 4

/-- A secure boot that may start, with nothing pending, or without a bank to boot. -/
theorem State.StartsCold.exec_secureBoot {s : State} (h : s.StartsCold) (bad : List Nat) (us : Nat) (hbank : s.cmp.ks.lc = 0 ∨ s.cmp.ks.lc = 5 ∨ s.cmp.ks.pending = none) :
    exec (.secureBoot bad us) s = .next (
      let t := s.bootCold us
      let r := t.bootWith s.cmp.ks.active bad
      let q := r.1.bootWith (otherBank s.cmp.ks.active) bad
      if s.cmp.ks.lc = 0 ∨ s.cmp.ks.lc = 5 then t.recovery else if r.2 = true then r.1 else if q.2 = true then q.1 else q.1.recovery) := by
  have hcold : (s.pow.bringUp != some 4) = true := bne_iff_ne.2 h.cold
  simp only [Machine.exec_secureBoot, execSecureBoot, Option.isNone_eq_false_iff.2 h.asked, h.pin, h.core, h.vbat, h.stage, h.tested, h.charged, hcold,
    Bool.not_true, Bool.or_false, Bool.false_and, bne_self_eq_false, Bool.false_eq_true, if_false, if_true]
  by_cases hlc : s.cmp.ks.lc = 0 ∨ s.cmp.ks.lc = 5
  · rw [if_pos hlc, if_pos hlc]
    rfl
  · have hnone : s.cmp.ks.pending = none := by tauto
    simp only [if_neg hlc, hnone, Option.getD_none, ite_self, reduceCtorEq, if_false]
    split
    · next hok => exact congrArg Host.Outcome.next (if_pos hok).symm
    · next hbad =>
      refine Eq.trans ?_ (congrArg Host.Outcome.next (if_neg hbad).symm)
      exact (apply_ite Host.Outcome.next _ _ _).symm

/-- Settles O50: each command taken up with its arguments in order, and each that its arguments stop. -/
theorem compassControl : Obligations.CompassControl := by
  unfold Obligations.CompassControl
  refine ⟨?complete, ?idle, ?handPsc, ?handCan, ?handSources, ?handPages, ?handArg, ?innerRestart, ?resetReq, ?stRun, ?scanEnable, ?recovery, ?boot, ?started⟩
  case complete =>
    intro m res e s hrun hres h34 h36 hdrop
    rw [exec_mbxCommandComplete_running hrun h34 h36, State.mbxComplete_kept hrun hres hdrop]
  case idle =>
    intro s hrun hqueue
    simp only [exec_mbxCommandComplete, execMbxCommandComplete, hrun, hqueue]
  case handPsc =>
    intro m t s hrun hflags hkind hcount hforce hrest
    rw [exec_handover_kind hrun hflags (by omega) hcount hforce (.inr hrest), if_pos hkind]
  case handCan =>
    intro m t s hrun hflags hkind hcount hforce
    rw [exec_handover_kind hrun hflags (by omega) hcount hforce (.inl hkind), if_neg (by omega), if_pos hkind]
  case handSources =>
    intro m t s hrun hflags hkind hcount hforce hrest
    rw [exec_handover_kind hrun hflags (by omega) hcount hforce (.inr hrest), if_neg (by omega), if_neg (by omega), if_pos hkind]
  case handPages =>
    intro m late t s hrun hflags hkind hcount hforce hrest
    rw [exec_handover_kind hrun hflags (by omega) hcount hforce (.inr hrest), if_neg (by omega), if_neg (by omega), if_neg (by omega)]
  case handArg => exact fun m late t s hrun hflags hargs => exec_handover_arg hrun hflags hargs
  case innerRestart =>
    intro m t s hrun hlt hhart h3 h2
    rw [exec_innerRestart, execInnerRestart, State.command_runs _ hrun]
    simp [hlt, hhart, h3, h2]
  case resetReq =>
    intro m t s hkind hword hlc hcaller htake
    have hok : (s.arg m 0 == 1 || s.arg m 0 == 2) = true := by simpa using hkind
    simp only [exec_resetReq, execResetReq, hlc, hcaller, hok, hword, htake]
    rfl
  case stRun =>
    intro m flaky bad ok sig t s hrun hcode hidle hunit hexists hcond
    rw [exec_stRun, execStRun, if_neg (by simp [hcode, hidle]), State.command_runs _ hrun]
    simp [hcode, Nat.not_le.2 hunit, hexists, hcond]
  case scanEnable =>
    rintro m t _ s hrun hword rfl
    rw [exec_scanEnable, execScanEnable, State.command_runs _ hrun, if_neg (not_not.2 hword)]
  case recovery =>
    intro bad us s hasked hpin hcore hvbat hstage htested hcharged hcold hlc
    rw [State.StartsCold.exec_secureBoot ⟨hasked, hpin, hcore, hvbat, hstage, htested, hcharged, hcold⟩ bad us (by tauto)]
    exact congrArg Host.Outcome.next (if_pos hlc)
  case boot =>
    rintro bad us _ s hasked hpin hcore hvbat hstage htested hcharged hcold h0 h5 hnone rfl
    rw [State.StartsCold.exec_secureBoot ⟨hasked, hpin, hcore, hvbat, hstage, htested, hcharged, hcold⟩ bad us (by tauto)]
    exact congrArg Host.Outcome.next (if_neg (not_or.2 ⟨h0, h5⟩))
  case started =>
    intro bad us s hstage
    simp [exec_secureBoot, execSecureBoot, hstage]

end Sys2Proof.Machine
end

section
/-! PROOFS. Redundant pairs (R412 to R427): release, lag, checkpoints, restore and replay. -/

namespace Sys2Proof.Machine

open Sys2Proof

/-- A running pair compares the oldest accesses of its copies: one that differs is a mismatch, one that agrees is issued. -/
theorem State.release_running {s : State} {n : Nat} {agree : Bool} {a b : Acs} {la lb : List Acs} {ecc : EccObs} (hjoined : s.get (PAIR_CFG_SPLIT n) = 0)
    (halive : s.alive = true) (hbusy : s.idling (114 + n) = false) (hst : s.pst n = 1) (hl : (s.pair.get n).lq = a :: la) (hs : (s.pair.get n).sq = b :: lb) :
    s.release n agree ecc =
      if !agree || !a.same b then s.mismatch n 1
      else if (s.pair.get n).bus.isSome then s else ((s.pairSet n (fun p => p.pop a)).acsDo n a ecc).getD s := by
  have hopen : ¬(s.get (PAIR_CFG_SPLIT n) ≠ 0 ∨ s.alive = false ∨ s.idling (114 + n) = true) := by simp [hjoined, halive, hbusy]
  simp only [State.release, if_neg hopen, hst, hl, hs]
  cases (s.pairSet n (fun p => p.pop a)).acsDo n a ecc <;> rfl

/-- A lead's access that the shadow does not produce in time. -/
theorem exec_pairLagTimeout_lags {s : State} {n : Fin 4} (hl : (s.pair.get n).lq ≠ []) (hs : (s.pair.get n).sq = []) :
    exec (.pairLagTimeout n) s = .next (s.mismatch n 5) := if_pos (.inl ⟨hl, hs⟩)

/-- Nothing is outstanding: no access of the lead, no checkpoint. -/
theorem exec_pairLagTimeout_idle {s : State} {n : Fin 4} (hl : (s.pair.get n).lq = []) (hck : (s.pair.get n).ckAt = none) : exec (.pairLagTimeout n) s = .next s :=
  if_neg (by simp [hl, hck])

theorem State.ckBegin_not_running {s : State} {n : Nat} (h : s.pst n ≠ 1) : s.ckBegin n = s := if_pos (.inl h)

theorem exec_checkpoint_carried {s : State} {n : Fin 4} (sigOk : Bool) (h : decide (n.val < nPair s.part) = true) :
    exec (.checkpoint n sigOk) s = .next (s.checkpoint n sigOk) := if_neg (by simp [h])

theorem State.checkpoint_none {s : State} {n : Nat} {sigOk : Bool} (h : ((s.ckBegin n).pair.get n).ckAt = none) : s.checkpoint n sigOk = s.ckBegin n := by
  simp only [State.checkpoint, h]

/-- Both copies stand at the checkpoint and nothing before it waits: the signatures decide. -/
theorem State.checkpoint_reached {s t : State} {n k : Nat} {sigOk : Bool} (ht : s.ckBegin n = t) (hck : (t.pair.get n).ckAt = some k) (hst : t.pst n = 1)
    (hlead : (t.core.get (t.leadOf n)).seq = k) (hshadow : (t.core.get (t.shadowOf n)).seq = k) (hl : (t.pair.get n).lq = []) (hcommit : (t.pair.get n).commit = none) :
    s.checkpoint n sigOk =
      if !sigOk || (t.archOf (t.leadOf n)).sig != (t.archOf (t.shadowOf n)).sig then t.mismatch n 3
      else t.pairSet n (fun p => { p with ckAt := none, commit := some (t.archOf (t.leadOf n), (t.core.get (t.leadOf n)).jpos, (t.core.get (t.leadOf n)).dpos,
        (p.released.filter (fun (a : Acs) => decide (a.seq < k))).length) }) := by
  subst ht
  have hwaits : ¬((s.ckBegin n).pst n ≠ 1 ∨ ((s.ckBegin n).core.get ((s.ckBegin n).leadOf n)).seq ≠ k ∨ ((s.ckBegin n).core.get ((s.ckBegin n).shadowOf n)).seq ≠ k ∨
      ((s.ckBegin n).pair.get n).lq.any (fun (a : Acs) => decide (a.seq < k)) ∨ ((s.ckBegin n).pair.get n).commit.isSome) := by
    simp [hst, hlead, hshadow, hl, hcommit]
  simp only [State.checkpoint, hck, hwaits, if_false]

theorem State.ckCommit_none {s : State} {n : Nat} (h : (s.pair.get n).commit = none) : s.ckCommit n = s := by simp only [State.ckCommit, h]

/-- A commit that frees nothing, and behind which no request waits. -/
theorem State.ckCommit_image {s : State} {n : Nat} {im : CkImage} (h : (s.pair.get n).commit = some (im, 0, 0, 0)) (hpend : (s.pair.get n).ckPend = false) :
    s.ckCommit n =
      let t := s.pairSet n (fun p => { p with commit := none, image := some im, slot := 1 - p.slot, ckPend := false, journal := p.journal, dbg := p.dbg, released := p.released })
      let u := (((t.coreSet (2 * n) (fun k => k)).coreSet (2 * n + 1) (fun k => k)).jocc n).addWrap (PAIR_CKCNT_CNT n) 1
      u.set (PAIR_CNT_DBGJ n) (u.pair.get n).dbg.length := by
  simp only [State.ckCommit, h, hpend]
  rfl

theorem State.restoreDone_image {s : State} {n : Nat} {crcOk : Bool} {im : CkImage} (hst : s.pst n = 2) (him : (s.pair.get n).image = some im) :
    s.restoreDone n crcOk = if !crcOk then s.escalate n 4 else
      (((s.imageLoad (2 * n) im).imageLoad (2 * n + 1) im).pairSet n (fun p => { p with replayed := [], lq := [], sq := [], traps := [] })).set (PAIR_STAT_STATE n) 3 := by
  simp only [State.restoreDone, if_neg (not_not.2 hst), him]

theorem State.replayEnd_not {s : State} {n : Nat} {hashOk : Bool} (h : s.pst n ≠ 3 ∨ s.replayAtEnd n = false) : s.replayEnd n hashOk = s := if_pos (by simpa using h)

/-- A replay that has reached its end with a hash that differs escalates. -/
theorem State.replayEnd_differs {s : State} {n : Nat} (hst : s.pst n = 3) (hend : s.replayAtEnd n = true) : s.replayEnd n false = s.escalate n 3 := by
  simp [State.replayEnd, hst, hend]

/-- A replay that has released again what was released before returns to running. -/
theorem State.replayEnd_agrees {s : State} {n : Nat} (hst : s.pst n = 3) (hend : s.replayAtEnd n = true) (hsame : (s.pair.get n).replayed = (s.pair.get n).released)
    (hreq : (s.pair.get n).hreq = false) :
    s.replayEnd n true =
      let us := (s.pow.elapsed - (s.pair.get n).detect) / 1000
      State.raiseC (State.pairSet ((((s.set (PAIR_REC_LAST n) (satU 16 us)).track (PAIR_REC_MAX n) us)).set (PAIR_STAT_STATE n) 1) n
        (fun p => { p with replayed := [], hreq := false })) (40 + 2 * n) 7 (satU 16 us) := by
  simp [State.replayEnd, hst, hend, hsame, hreq]

/-- Settles O37: each step of a pair's life, from the release of an access to the end of a replay. -/
theorem pairs : Obligations.Pairs := by
  unfold Obligations.Pairs
  refine ⟨?release, ?differs, ?lags, ?noLag, ?noCheckpoint, ?checkpoint, ?badSignature, ?noCommit, ?commit, ?restore, ?noRestore, ?replayBad, ?replayGood, ?noReplay⟩
  case release =>
    intro n a b la lb t ecc s hjoined halive hbusy hst hl hs hsame hbus hdo
    rw [exec_pairAccessRelease, execPairAccessRelease, State.release_running hjoined halive hbusy hst hl hs]
    simp [hsame, hbus, hdo]
  case differs =>
    intro n agree a b la lb ecc s hjoined halive hbusy hst hl hs hdiffers
    have hcode : (!agree || !a.same b) = true := by simpa using hdiffers
    rw [exec_pairAccessRelease, execPairAccessRelease, State.release_running hjoined halive hbusy hst hl hs, if_pos hcode]
  case lags => exact fun n s hl hs => exec_pairLagTimeout_lags hl hs
  case noLag => exact fun n s hl hck => exec_pairLagTimeout_idle hl hck
  case noCheckpoint =>
    intro n sigOk s hst hck hcarried
    have hbegin : s.ckBegin n = s := State.ckBegin_not_running hst
    rw [exec_checkpoint_carried sigOk hcarried, State.checkpoint_none (by rw [hbegin, hck]), hbegin]
  case checkpoint =>
    intro n sigOk t k s ht hck hst hlead hshadow hl hcommit hok hsame hcarried
    rw [exec_checkpoint_carried sigOk hcarried, State.checkpoint_reached ht hck hst hlead hshadow hl hcommit, if_neg (by simp [hok, hsame])]
  case badSignature =>
    intro n sigOk t k s ht hck hst hlead hshadow hl hcommit hbad hcarried
    rw [exec_checkpoint_carried sigOk hcarried, State.checkpoint_reached ht hck hst hlead hshadow hl hcommit, if_pos (by simp [hbad])]
  case noCommit => exact fun n s hcommit => congrArg Host.Outcome.next (State.ckCommit_none hcommit)
  case commit =>
    rintro n im s _ _ hcommit hpend rfl rfl
    exact congrArg Host.Outcome.next (State.ckCommit_image hcommit hpend)
  case restore =>
    intro n im s hst him
    exact ⟨congrArg Host.Outcome.next (State.restoreDone_image hst him), congrArg Host.Outcome.next (State.restoreDone_image hst him)⟩
  case noRestore => exact fun n ok s hst => congrArg Host.Outcome.next (if_pos hst)
  case replayBad => exact fun n s hst hend => congrArg Host.Outcome.next (State.replayEnd_differs hst hend)
  case replayGood =>
    rintro n _ s hst hend hsame hreq rfl
    exact congrArg Host.Outcome.next (State.replayEnd_agrees hst hend hsame hreq)
  case noReplay => exact fun n ok s h => congrArg Host.Outcome.next (State.replayEnd_not h)

end Sys2Proof.Machine
end

section
/-! PROOFS. Region checkers and the scrubber (R443, R448, R453 to R455), and the worlds' watchdogs and restarts (R461 to R466). -/

namespace Sys2Proof.Machine

open Sys2Proof

/-- A write of RGN_RCTL that the checker permits meets an open slot or a closed one. -/
theorem exec_regionCtlWrite_permitted {s : State} {r : Req} {t : Fin 17} {k : Fin 32} (v : Nat) (h : s.checkReq (a_RGN_RCTL t k) r .write = none) :
    exec (.regionCtlWrite r t k v) s =
      if s.slotOpen r t k then .next ((s.rctlWrite t k v).emit (.resp r.id false 0)) else .next (s.emit (.resp r.id true 0)) := by
  simp only [exec_regionCtlWrite, execRegionCtlWrite, h]

/-- The scrubber that runs reads its next line, and a pass that ends is reported. -/
theorem exec_scrubLine_runs {s : State} (envm : Bool) (e : EccObs) (h : s.on RGN_SCRUB_EN = true) :
    exec (.scrubLine envm e) s =
      let k := if envm then s.scrub.2 else s.scrub.1
      let t := s.eccSee (scrubAddr s.part envm k) 0 true e
      let last := decide (scrubLines s.part envm ≤ k + 1)
      let n := if last then 0 else k + 1
      let u : State := { t with scrub := if envm then (t.scrub.1, n) else (n, t.scrub.2) }
      .next (if last then u.raiseC 318 0 (b2n envm) else u) :=
  if_neg (by simp [h])

/-- Settles O39: RGN_RCTL, RGN_IGRP, FENCE and the scrubber, each as its checker and its enable leave it. -/
theorem regions : Obligations.Regions := by
  unfold Obligations.Regions
  refine ⟨?slotOpen, ?slotClosed, ?ctlRefused, ?igrp, ?igrpRefused, ?fence, ?scrubOff, ?scrubNext, ?scrubLast⟩
  case slotOpen =>
    intro r t k v s hcheck hopen
    rw [exec_regionCtlWrite_permitted v hcheck, if_pos hopen]
  case slotClosed =>
    intro r t k v s hcheck hclosed
    rw [exec_regionCtlWrite_permitted v hcheck, if_neg (by simp [hclosed])]
  case ctlRefused =>
    intro r t k v u s hcheck
    simp only [exec_regionCtlWrite, execRegionCtlWrite, hcheck]
  case igrp =>
    intro r k v s hcheck
    simp only [exec_igrpWrite, execIgrpWrite, hcheck]
  case igrpRefused =>
    intro r k v u s hcheck
    simp only [exec_igrpWrite, execIgrpWrite, hcheck]
  case fence => exact fun s => ⟨rfl, rfl⟩
  case scrubOff => exact fun envm e s hoff => if_pos (by simp [hoff])
  case scrubNext =>
    rintro e _ s hon rfl hmore
    simp [exec_scrubLine_runs false e hon, Nat.not_le.2 hmore]
  case scrubLast =>
    rintro e _ s hon rfl hend
    simp [exec_scrubLine_runs true e hon, hend, b2n]

/-! ### Worlds -/

/-- RGN_WWDT.KICK of a hart that the part has, written by a request that the checker permits. -/
theorem exec_watchdogKick_permitted {s : State} {h : Fin 8} {r : Req} (hcarried : decide (h.val < 2 * nPair s.part) = true)
    (hcheck : s.checkReq (a_RGN_WWDT h) r .write = none) :
    exec (.watchdogKick h r) s =
      if kickOk h r then .next (s.emit (.resp r.id false 0)) else .next ((s.refuse (a_RGN_WWDT h) r .write 7 0x4000_0000).emit (.resp r.id true 0)) := by
  simp only [exec_watchdogKick, execWatchdogKick, hcarried, hcheck]
  rfl

/-- Compass completes a restart that it has taken up: the code of the reloaded hart measures as recorded, or does not. -/
theorem exec_innerWorldRestartComplete_taken {s : State} {h : Fin 8} {why d b : Nat} (hwhy : s.cmp.restart.get h = some (why, d)) (hbooted : s.cmp.booted = some b) (hd : d ≠ 0) :
    exec (.innerWorldRestartComplete h) s =
      let t := State.innerLoad { s with cmp := { s.cmp with restart := s.cmp.restart.put h none } } b h
      if digest (List.replicate 48 0 ++ digest (t.bytes (bankBase b + (t.monCode b).1) (t.monCode b).2)) == s.measAt 1 then
        .next (((t.set (RGN_WSTAT_STATE h) 1).hartStart h (t.entryAt b true) why (t.saveArea b h)).raiseC 298 2 (satU 16 ((s.pow.elapsed + 1 - d) / 1000)))
      else .next (((t.coreSet h (fun k => { k with stopped := true })).set (RGN_WSTAT_STATE h) 3).raiseC 299 1 h) := by
  simp only [exec_innerWorldRestartComplete, execInnerWorldRestartComplete, hwhy, hbooted, if_neg hd]

/-- Settles O40: the watchdog, its kick, and the restart from its taking up to its end. -/
theorem worlds : Obligations.Worlds := by
  unfold Obligations.Worlds
  refine ⟨?expires, ?off, ?kick, ?alien, ?begins, ?noReason, ?restarts, ?stays, ?none⟩
  case expires =>
    intro h s hhart hon hlive hrun hinner
    simp only [exec_worldWatchdogExpiry, execWorldWatchdogExpiry, hhart, hon, hlive, hrun, hinner]
    rfl
  case off =>
    intro h s hoff
    exact if_neg (by simp [hoff])
  case kick =>
    intro h r s hcheck hid hinner hcarried
    rw [exec_watchdogKick_permitted hcarried hcheck, if_pos (by simp [kickOk, hid, hinner])]
  case alien =>
    intro h r s hcheck halien hcarried
    rw [exec_watchdogKick_permitted hcarried hcheck, if_neg]
    simpa [kickOk, or_iff_not_imp_left] using halien
  case begins =>
    intro h why s hwhy hhart h2 h3 hop
    simp only [exec_innerWorldRestartBegin, execInnerWorldRestartBegin, hwhy]
    exact if_pos (by simp [hhart, h2, h3, hop])
  case noReason =>
    intro h s hwhy
    simp only [exec_innerWorldRestartBegin, execInnerWorldRestartBegin, hwhy]
  case restarts =>
    rintro h why d b _ s hwhy hbooted hd rfl hmeas
    rw [exec_innerWorldRestartComplete_taken hwhy hbooted hd]
    exact if_pos (beq_iff_eq.2 hmeas)
  case stays =>
    rintro h why d b _ s hwhy hbooted hd rfl hmeas
    rw [exec_innerWorldRestartComplete_taken hwhy hbooted hd]
    exact if_neg (mt beq_iff_eq.1 hmeas)
  case none =>
    rintro h s (hwhy | hbooted)
    · simp only [exec_innerWorldRestartComplete, execInnerWorldRestartComplete, hwhy]
    · cases hwhy : s.cmp.restart.get h <;> simp only [exec_innerWorldRestartComplete, execInnerWorldRestartComplete, hwhy, hbooted]

end Sys2Proof.Machine
end

section
/-! PROOFS. Self-test slices and the conditions they run under (R563 to R571). -/

namespace Sys2Proof.Machine

open Sys2Proof

/-- All three conditions hold: the failure is over. -/
theorem exec_steConditionCheck_holds {s : State} {rcOk : Bool} (hlow : 80 ≤ s.get SYS_CORESTAT_VCORE) (hhigh : s.get SYS_CORESTAT_VCORE ≤ 120)
    (hclock : s.on SYS_CLKSTAT_XTAL_OK = true ∨ rcOk = true) (hcold : -400 ≤ s.getS PWR_TEMP_TJ) (hhot : s.getS PWR_TEMP_TJ ≤ 1350) :
    exec (.steConditionCheck rcOk) s = .next { (((s.set STE_COND_VCORE 1).set STE_COND_OSC 1).set STE_COND_TJ 1).set STE_COND_OK 1 with
      ste := { s.ste with failNs := 0, told := false } } := by
  have hosc : (s.on SYS_CLKSTAT_XTAL_OK || rcOk) = true := by simpa using hclock
  simp only [exec_steConditionCheck, execSteConditionCheck, hlow, hhigh, hosc, hcold, hhot, decide_true, Bool.and_self, if_true]
  rfl

/-- The voltage is too low and the failure has been told: it is timed, and running slices end. -/
theorem exec_steConditionCheck_undervoltage {s : State} {rcOk : Bool} (hlow : s.get SYS_CORESTAT_VCORE < 80) (htold : s.ste.told = true)
    (hclock : s.on SYS_CLKSTAT_XTAL_OK = true) (hcold : -400 ≤ s.getS PWR_TEMP_TJ) (hhot : s.getS PWR_TEMP_TJ ≤ 1350) :
    exec (.steConditionCheck rcOk) s =
      let t := (((s.set STE_COND_VCORE 0).set STE_COND_OSC 1).set STE_COND_TJ 1).set STE_COND_OK 0
      .next (State.each { t with ste := { t.ste with failNs := if s.ste.failNs = 0 then s.pow.refNs + 1 else s.ste.failNs } } ((List.range 58).filter t.inSlice) State.sliceDrop) := by
  simp only [exec_steConditionCheck, execSteConditionCheck, decide_eq_false (Nat.not_le.2 hlow), hclock, hcold, hhot, htold, decide_true, Bool.true_or,
    Bool.false_and, Bool.not_true, Bool.false_eq_true, if_false]
  rfl

/-- The turn of unit `u` has come and nothing stands against a slice of it (R566, R570). -/
structure State.SliceDue (s : State) (u : Nat) : Prop where
  enabled : s.on STE_CTL_EN = true
  stage : s.get SYS_READY_STAGE = 3
  present : s.unitExists u = true
  turn : s.ste.next.get (unitLow u) = decide (u % 2 = 1)
  idle : s.inSlice u = false
  peer : s.inSlice (unitPeer u) = false
  block : s.idling 118 = false
  noScan : s.cmp.scan = false

/-- A slice that is due waits where the conditions or the block forbid it, and starts where they do not. -/
theorem State.SliceDue.exec_steSliceStart {s : State} {u : Fin 58} (h : s.SliceDue u) :
    exec (.steSliceStart u) s =
      if !s.on STE_COND_OK || !s.unitReady u then .next (s.set (STE_USTAT_STATE u) 2)
      else
        let t := ((s.set (STE_USTAT_STATE u) 1).set (STE_USTAT_RETEST u) 0).addWrap STE_STAT_ACTIVE 1
        let v : State := { t with ste := { t.ste with next := t.ste.next.put (unitLow u) (decide (u.val % 2 = 0)) } }
        .next (if u.val < 8 then v.soloBegin u else v) := by
  refine (if_neg ?_).trans rfl
  simp [h.enabled, h.stage, h.present, h.turn, h.idle, h.peer, h.block, h.noScan]

/-- Settles O41: the conditions as they hold and fail, and a slice from its turn to its end. -/
theorem selfTest : Obligations.SelfTest := by
  unfold Obligations.SelfTest
  refine ⟨?holds, ?undervoltage, ?starts, ?waits, ?passes, ?fails, ?noSlice⟩
  case holds => exact fun rcOk s hlow hhigh hclock hcold hhot => exec_steConditionCheck_holds hlow hhigh hclock hcold hhot
  case undervoltage =>
    rintro rcOk s _ hlow htold hclock hcold hhot rfl
    exact exec_steConditionCheck_undervoltage hlow htold hclock hcold hhot
  case starts =>
    rintro u s _ hcopy hen hstage hexists hturn hidle hpeer hblock hscan hcond hready rfl
    have hdue : s.SliceDue u := ⟨hen, hstage, hexists, hturn, hidle, hpeer, hblock, hscan⟩
    rw [hdue.exec_steSliceStart, if_neg (by simp [hcond, hready])]
    exact congrArg Host.Outcome.next (if_neg (Nat.not_lt.2 hcopy))
  case waits =>
    intro u s hen hstage hexists hturn hidle hpeer hblock hscan hcond
    have hdue : s.SliceDue u := ⟨hen, hstage, hexists, hturn, hidle, hpeer, hblock, hscan⟩
    rw [hdue.exec_steSliceStart, if_pos (by simp [hcond])]
  case passes =>
    intro u s hslice
    exact if_neg (by simp [hslice])
  case fails =>
    intro u s hslice
    refine (if_neg (by simp [hslice])).trans ?_
    rw [if_neg (by decide)]
    exact (apply_ite Host.Outcome.next _ _ _).symm
  case noSlice => exact fun u ok s hslice => if_pos (by simp [hslice])

end Sys2Proof.Machine
end

section
/-! PROOFS. Supplies (R530 to R536, R543) and the backup domain (R537 to R541, R558). -/

namespace Sys2Proof.Machine

open Sys2Proof

/-- A domain that comes on with no failed part: its reset, cause 1, and the calibrations of its items. -/
theorem exec_domainOn_whole {s : State} {d : Fin 24} (cals : List (Nat × Nat × Nat)) (hlow : 14 ≤ d.val) (hrun : bitOf (s.get PWR_DOMCTL_RUN) (d.val - 14) = true)
    (hdown : s.domainUp d = false) :
    exec (.domainOn d [] cals) s = .next (State.domSettled (State.each ((((s.setBit PWR_DOMSTAT_UP d true).islands).domainReset d).raiseC 11 1 d)
      (cals.filter (fun c => itemDomain c.1 == some d.val)) (fun t c => t.calSet true c))) :=
  if_pos (by simp [hlow, hrun, hdown])

/-- VBAT low: it is shown, and the first time it is flagged with its cause. -/
theorem exec_vbatLow_present {s : State} {v : Fin 256} (hvbat : s.pow.vbat = true) (hv : v.val < 40) :
    exec (.vbatLow v) s =
      let t := (s.set PWR_STAT_VBAT v).set PWR_STAT_VBATHI 0
      if s.on PWR_STAT_VBATLO then .next t else .next (((t.set PWR_STAT_VBATLO 1).raiseC 2 1 v).vcoreFollow) :=
  if_neg (by simp [hvbat, hv])

/-- VBAT high: it is shown, and the first time it is flagged with its cause. -/
theorem exec_vbatHigh_present {s : State} {v : Fin 256} (hvbat : s.pow.vbat = true) (hv : 80 < v.val) :
    exec (.vbatHigh v) s =
      let t := (s.set PWR_STAT_VBAT v).vbatBack v
      if s.on PWR_STAT_VBATHI then .next t else .next ((t.set PWR_STAT_VBATHI 1).evrTake.raiseC 2 2 v) :=
  if_neg (by simp [hvbat, hv])

/-- VBAT normal: what stood as high ends with its cause. -/
theorem exec_vbatNormal_present {s : State} {v : Fin 256} (hvbat : s.pow.vbat = true) (hlow : 40 ≤ v.val) (hhigh : v.val ≤ 80) :
    exec (.vbatNormal v) s =
      let t := s.set PWR_STAT_VBAT v
      if s.on PWR_STAT_VBATHI then .next (((t.set PWR_STAT_VBATHI 0).raiseC 2 3 v).vbatBack v) else .next (t.vbatBack v) :=
  if_neg (by simp [hvbat, hlow, hhigh])

/-- In mode 0b01, above the limit and with a step left, the set point falls; the first step is reported. -/
theorem exec_vcoreThermalStep_hot {s : State} {tj : Int} (hmode : s.get PWR_VCORE_MODE = 1)
    (hlim : (10 * (min 125 (max 85 (s.get PWR_VCORE_TLIM)) : Nat) : Int) < tj) (hstep : s.pow.lower < s.vcoreTarget) (hcool : s.pow.hot = false)
    (hrun : s.pow.bringUp = none) :
    exec (.vcoreThermalStep tj) s =
      .next (((State.raiseC { s.setS PWR_TEMP_TJ tj with pow := { s.pow with lower := s.pow.lower + 1, hot := true } } 8 1 (ofS 16 tj))).vcoreFollow) := by
  have hsteps : ¬(s.get PWR_VCORE_MODE ≠ 1 ∨ (s.cmp.booted.isNone && s.pow.bringUp.any (fun k => decide (k < 4))) = true) := by simp [hmode, hrun]
  have hpow : (s.setS PWR_TEMP_TJ tj).pow = s.pow := rfl
  simp only [exec_vcoreThermalStep, execVcoreThermalStep, if_neg hsteps, if_pos hlim, hpow, if_pos hstep, hcool, Bool.false_eq_true, if_false]

/-- The mixed-signal supply returns with every part whole. -/
theorem exec_msSupplyReturn_whole {s : State} (cals : List (Nat × Nat × Nat)) (hms : s.pow.msUp = false) (hvbat : s.pow.vbat = true) (hcore : s.pow.coreUp = true) :
    exec (.msSupplyReturn [] cals) s =
      let ds := 13 :: (List.range 8).filterMap (fun k => if bitOf (s.get PWR_DOMCTL_RUN) k then some (14 + k) else none)
      .next (State.each (State.each (State.set (State.gtbRestore (State.each (State.islands (State.each { s with pow := { s.pow with msUp := true } } ds
        (fun t d => t.setBit PWR_DOMSTAT_UP d true))) ds State.domainReset) false) SYS_CLKSTAT_XTAL_OK (b2n (!s.gtb.rc))) (ds.flatMap domainBlocks)
        (fun t i => t.calClear i)) (cals.filter (fun c => (itemDomain c.1).any (fun d => ds.contains d))) (fun t c => t.calSet true c)) :=
  if_neg (by simp [hms, State.alive, hvbat, hcore])

/-- Settles O43: domains, VBAT and its flags, the core's set point, and the return of the mixed-signal supply. -/
theorem supplies : Obligations.Supplies := by
  unfold Obligations.Supplies
  refine ⟨?domainOff, ?domainOn, ?loss, ?valid, ?low, ?lowAgain, ?high, ?normalEnds, ?normal, ?hot, ?fixedMode, ?msReturn⟩
  case domainOff =>
    intro d s hlow hrun hup
    exact if_pos (by simp [hlow, hrun, hup])
  case domainOn => exact fun d cals s hlow hrun hdown => exec_domainOn_whole cals hlow hrun hdown
  case loss =>
    intro s t hvbat ht
    rw [exec_vbatLoss, execVbatLoss, if_neg (by simp [hvbat]), ← ht]
  case valid =>
    intro s hvbat
    exact ⟨if_pos (by simp [hvbat]), if_neg (by simp [hvbat])⟩
  case low =>
    intro v s hvbat hv hfirst
    rw [exec_vbatLow_present hvbat hv, hfirst]
    rfl
  case lowAgain =>
    intro v s hvbat hv hagain
    rw [exec_vbatLow_present hvbat hv, hagain]
    rfl
  case high =>
    intro v s hvbat hv hfirst
    rw [exec_vbatHigh_present hvbat hv, hfirst]
    rfl
  case normalEnds =>
    intro v s hvbat hlow hhigh hflag
    rw [exec_vbatNormal_present hvbat hlow hhigh, hflag]
    rfl
  case normal =>
    intro v s hvbat hlow hhigh hflag
    rw [exec_vbatNormal_present hvbat hlow hhigh, hflag]
    rfl
  case hot => exact fun tj s hmode hlim hstep hcool hrun => exec_vcoreThermalStep_hot hmode hlim hstep hcool hrun
  case fixedMode =>
    intro tj s hmode
    exact if_pos (.inl hmode)
  case msReturn =>
    rintro cals s _ hms hvbat hcore rfl
    exact exec_msSupplyReturn_whole cals hms hvbat hcore

/-! ### The backup domain -/

theorem State.toVbak_main {s : State} (h : s.on PWR_STAT_MAIN = true) : s.toVbak = ((s.set PWR_STAT_MAIN 0).inc PWR_BAKSTAT_SWITCHES).backRaise 1 := if_pos h

theorem State.toVbak_backup {s : State} (h : s.on PWR_STAT_MAIN = false) : s.toVbak = s := if_neg (by simp [h])

/-- The backup domain as its power-on reset leaves it, before what that takes from the time base. -/
def State.backupCleared (s : State) : State :=
  let t := s.restore (fun k => keyKind k == kindCode .K)
  State.backRaise { t with evr := { t.evr with persist := [], commit := false, areaA := {}, areaB := {} }, pow := { t.pow with gtbRec := (0, 0, false), ticks := 0, recB := false, backLog := [] } } 5

theorem exec_backupPor_untimed {s : State} (h : s.on GTB_STAT_GTB_VALID = false) : exec .backupPor s = .next s.backupCleared := by
  simp only [exec_backupPor, execBackupPor, h]
  rfl

theorem exec_backupPor_timed {s : State} (h : s.on GTB_STAT_GTB_VALID = true) (hcore : s.backupCleared.pow.coreUp = true) :
    exec .backupPor s = .next (s.backupCleared.raise 22 0) := by
  simp only [exec_backupPor, execBackupPor, h, if_true]
  exact congrArg Host.Outcome.next (if_pos hcore)

/-- The state in which a backup tick decides about its record. -/
def State.ticked (s : State) (mv : Nat) (crcOk : Bool) : State :=
  State.persistCommit (State.backMin { s with pow := { s.pow with ticks := s.pow.ticks + 1 } } mv) { mv := mv, first := crcOk, second := crcOk }

theorem exec_backupGtbRecord_skips {s : State} {mv : Nat} {crcOk : Bool} (h : (s.ticked mv crcOk).pow.msUp = false ∨ mv < 2100) :
    exec (.backupGtbRecord mv crcOk) s = .next (s.ticked mv crcOk) :=
  if_pos (by simpa [State.ticked] using h)

/-- A backup tick whose write ends with a good CRC. -/
theorem exec_backupGtbRecord_good (s : State) (mv : Nat) :
    exec (.backupGtbRecord mv true) s =
      let t := s.ticked mv true
      let b := !t.pow.recB
      if !t.pow.msUp || decide (mv < 2100) then .next t
      else .next ((State.set { t with pow := { t.pow with gtbRec := (t.nowNs, t.pow.ticks, t.on GTB_STAT_GTB_VALID), recB := b } }
        (if b then PWR_BAKSTAT_RECB else PWR_BAKSTAT_RECA) 1).set PWR_BAKSTAT_CONT 1) := rfl

/-- A record goes into the older copy, which then stands. -/
theorem exec_backupGtbRecord_writes {s : State} {mv : Nat} (hms : (s.ticked mv true).pow.msUp = true) (hmv : 2100 ≤ mv) :
    exec (.backupGtbRecord mv true) s =
      let t := s.ticked mv true
      .next ((State.set { t with pow := { t.pow with gtbRec := (t.nowNs, t.pow.ticks, t.on GTB_STAT_GTB_VALID), recB := !t.pow.recB } }
        (if t.pow.recB then PWR_BAKSTAT_RECA else PWR_BAKSTAT_RECB) 1).set PWR_BAKSTAT_CONT 1) := by
  rw [exec_backupGtbRecord_good]
  generalize s.ticked mv true = t at hms ⊢
  refine (if_neg (by simp [hms, hmv])).trans ?_
  cases hcopy : t.pow.recB <;> simp [hcopy]

/-- VBAK measured while VBAT is present. -/
theorem exec_vbakLow_present {s : State} {v : Fin 256} (hvbat : s.pow.vbat = true) :
    exec (.vbakLow v) s =
      let t := s.set PWR_STAT_VBAK v
      if 125 ≤ v.val then .next (t.set PWR_STAT_BAKLOW 0) else if s.on PWR_STAT_BAKLOW then .next t else .next ((t.set PWR_STAT_BAKLOW 1).backRaise 2) :=
  if_neg (by simp [hvbat])

/-- Settles O44: the arbiter, the continuity, the reset and the records of the backup domain, and the state of VBAK. -/
theorem backupDomain : Obligations.BackupDomain := by
  unfold Obligations.BackupDomain
  refine ⟨?toBackup, ?onBackup, ?toMain, ?continuity, ?porUntimed, ?porTimed, ?recordSkipped, ?recordWritten, ?low, ?charged⟩
  case toBackup => exact fun s hmain => congrArg Host.Outcome.next (State.toVbak_main hmain)
  case onBackup => exact fun s hback => congrArg Host.Outcome.next (State.toVbak_backup hback)
  case toMain => exact fun s => rfl
  case continuity => exact fun mv s => rfl
  case porUntimed =>
    rintro s _ huntimed rfl
    exact exec_backupPor_untimed huntimed
  case porTimed =>
    rintro s _ _ htimed rfl rfl hcore
    exact exec_backupPor_timed htimed hcore
  case recordSkipped =>
    rintro mv crcOk s _ rfl hskip
    exact exec_backupGtbRecord_skips hskip
  case recordWritten =>
    rintro mv s _ rfl hms hmv
    exact exec_backupGtbRecord_writes hms hmv
  case low =>
    intro v s hvbat hv hfirst
    rw [exec_vbakLow_present hvbat]
    simp only [if_neg (Nat.not_le.2 hv), hfirst]
    rfl
  case charged =>
    intro v s hvbat hv
    rw [exec_vbakLow_present hvbat]
    exact if_pos hv

end Sys2Proof.Machine
end

section
/-! PROOFS. Commands of the VIM (R485 to R494): each that is taken up for a VI at rest has the effect of its row. -/

namespace Sys2Proof.Machine

open Sys2Proof

/-- A command for a VI that nothing is under way for runs as it is taken up. -/
theorem State.vimCmd_runs {s t : State} {i op kind slot : Nat} (hgo : s.on VIM_CMD_GO = false) (ht : t = s.vimTaken i op kind slot) (hidle : t.viBusy i = false) :
    s.vimCmd i op kind slot = t.vimRun i op kind slot := by
  subst ht
  simp only [State.vimCmd, hgo, State.vimTry, hidle, Bool.false_eq_true, if_false]

/-- A command while GO reads 1. -/
theorem State.vimCmd_busy {s : State} {i op kind slot : Nat} (hgo : s.on VIM_CMD_GO = true) : s.vimCmd i op kind slot = (s.set VIM_CMD_ERR 1).set VIM_CMD_ERRC 4 := if_pos hgo

section
variable {t : State} {i kind slot : Nat} (hcarried : ¬ nVi t.part ≤ i)
include hcarried

theorem State.vimRun_create (hst : t.viState i = 0) (hbind : t.get (VIM_ICFG_BIND i) ≠ 1 ∨ t.fnFree (t.get (VIM_ICFG_FN i)) = true) :
    t.vimRun i 1 kind slot = if t.genReady i then t.vimGen i 1 else t.viUpd i (fun v => { v with due := some 1 }) := by
  have hfree : ¬(t.get (VIM_ICFG_BIND i) = 1 ∧ (!t.fnFree (t.get (VIM_ICFG_FN i))) = true) := by simpa [or_iff_not_imp_left] using hbind
  simp only [State.vimRun, if_neg hcarried, hst, ne_eq, not_true_eq_false, if_false, if_neg hfree]

theorem State.vimRun_attach (hst : t.viState i = 1 ∨ t.viState i = 4) :
    t.vimRun i 2 kind slot = if t.viHas i kind slot || !t.viFree i kind slot then t.vimErr 2
      else (((t.viOwn i kind slot 2).viMark i kind slot true).viShow i).vimDone 0 := by
  rw [State.vimRun, if_neg hcarried]
  exact if_neg (by omega)

theorem State.vimRun_detach (hst : t.viState i = 1 ∨ t.viState i = 4) :
    t.vimRun i 3 kind slot = if !t.viHas i kind slot then t.vimErr 2 else t.viUpd i (fun v => { v with drain := some (kind, slot) }) := by
  rw [State.vimRun, if_neg hcarried]
  exact if_neg (by omega)

theorem State.vimRun_quiesce (hst : t.viState i = 1 ∨ t.viState i = 2) : t.vimRun i 4 kind slot = t.viGoto i 3 := by
  rw [State.vimRun, if_neg hcarried]
  exact if_neg (by omega)

theorem State.vimRun_resume (hst : t.viState i = 4) :
    t.vimRun i 5 kind slot = ((t.viGoto i (if (t.vi.get i).faulted then 2 else 1)).viUpd i (fun v => { v with faulted := false })).vimDone 0 := by
  rw [State.vimRun, if_neg hcarried]
  exact if_neg (by omega)

theorem State.vimRun_reset (hst : t.viState i = 1 ∨ t.viState i = 2 ∨ t.viState i = 4) (hgen : t.genReady i = true) : t.vimRun i 6 kind slot = t.viResetBegin i := by
  rw [State.vimRun, if_neg hcarried]
  refine (if_neg (by omega)).trans ?_
  rw [State.viResetNow, if_pos hst, if_pos hgen]

theorem State.vimRun_migrate (hst : t.viState i = 4) (hbind : t.get VIM_CMDARG_BIND ≠ 1 ∨ t.fnFree (t.get VIM_CMDARG_FN) = true) (hgen : t.genReady i = true) :
    t.vimRun i 7 kind slot = t.vimGen i 7 := by
  have hfree : ¬(t.get VIM_CMDARG_BIND = 1 ∧ (!(t.fnFree (t.get VIM_CMDARG_FN) ||
      (t.get (VIM_ICFG_BIND i) == 1 && t.get (VIM_ICFG_FN i) == t.get VIM_CMDARG_FN))) = true) := by
    rcases hbind with hbind | hbind <;> simp [hbind]
  simp only [State.vimRun, if_neg hcarried, hst, ne_eq, not_true_eq_false, if_false, if_neg hfree, hgen, if_true]

theorem State.vimRun_takedown (hst : t.viState i = 4) (hgen : t.genReady i = true) : t.vimRun i 8 kind slot = t.vimGen i 8 := by
  simp only [State.vimRun, if_neg hcarried, hst, ne_eq, not_true_eq_false, if_false, hgen, if_true]

end

/-- CREATE in another state than VOID, or of a VI that the part does not carry. -/
theorem State.vimRun_create_not {t : State} {i kind slot : Nat} (h : t.viState i ≠ 0 ∨ nVi t.part ≤ i) : t.vimRun i 1 kind slot = t.vimErr 1 := by
  by_cases hcarried : nVi t.part ≤ i
  · exact if_pos hcarried
  · exact (if_neg hcarried).trans (if_pos (h.resolve_right hcarried))

/-- TAKEDOWN in another state than QUIESCED, or of a VI that the part does not carry. -/
theorem State.vimRun_takedown_not {t : State} {i kind slot : Nat} (h : t.viState i ≠ 4 ∨ nVi t.part ≤ i) : t.vimRun i 8 kind slot = t.vimErr 1 := by
  by_cases hcarried : nVi t.part ≤ i
  · exact if_pos hcarried
  · exact (if_neg hcarried).trans (if_pos (h.resolve_right hcarried))

/-- Settles O31: the effect of each command in a state of its From column, and the failures by GO and by state. -/
theorem instanceCommands : Obligations.InstanceCommands := by
  unfold Obligations.InstanceCommands
  refine ⟨?create, ?createWaits, ?attach, ?attachFails, ?detach, ?quiesce, ?resume, ?reset, ?migrate, ?takedown, ?goBusy, ?createFails, ?takedownFails⟩
  case create =>
    intro i t s hgo ht hst hbind hgen hidle hcarried
    rw [exec_vimCreate, execVimCreate, State.vimCmd_runs hgo ht hidle, State.vimRun_create hcarried hst hbind, if_pos hgen]
  case createWaits =>
    intro i t s hgo ht hst hbind hgen hidle hcarried
    rw [exec_vimCreate, execVimCreate, State.vimCmd_runs hgo ht hidle, State.vimRun_create hcarried hst hbind, hgen, if_neg Bool.false_ne_true]
  case attach =>
    intro i kind slot t s hgo ht hst hhas hfree hidle hcarried
    rw [exec_vimAttach, execVimAttach, State.vimCmd_runs hgo ht hidle, State.vimRun_attach hcarried hst, if_neg (by simp [hhas, hfree])]
  case attachFails =>
    intro i kind slot t s hgo ht hst htaken hidle hcarried
    rw [exec_vimAttach, execVimAttach, State.vimCmd_runs hgo ht hidle, State.vimRun_attach hcarried hst, if_pos (by simpa using htaken)]
  case detach =>
    intro i kind slot t s hgo ht hst hhas hidle hcarried
    rw [exec_vimDetach, execVimDetach, State.vimCmd_runs hgo ht hidle, State.vimRun_detach hcarried hst, if_neg (by simp [hhas])]
  case quiesce =>
    intro i t s hgo ht hst hidle hcarried
    rw [exec_vimQuiesce, execVimQuiesce, State.vimCmd_runs hgo ht hidle, State.vimRun_quiesce hcarried hst]
  case resume =>
    intro i t s hgo ht hst hidle hcarried
    rw [exec_vimResume, execVimResume, State.vimCmd_runs hgo ht hidle, State.vimRun_resume hcarried hst]
  case reset =>
    intro i t s hgo ht hst hgen hidle hcarried
    rw [exec_vimReset, execVimReset, State.vimCmd_runs hgo ht hidle, State.vimRun_reset hcarried hst hgen]
  case migrate =>
    intro i bind fn t s hgo ht hgoSet _ hst hbind hgen hidle hcarried
    rw [exec_vimMigrate, execVimMigrate, hgo, if_neg Bool.false_ne_true, State.vimCmd_runs hgoSet ht hidle, State.vimRun_migrate hcarried hst hbind hgen]
  case takedown =>
    intro i t s hgo ht hst hgen hidle hcarried
    rw [exec_vimTakedown, execVimTakedown, State.vimCmd_runs hgo ht hidle, State.vimRun_takedown hcarried hst hgen]
  case goBusy => exact fun i s hgo => ⟨congrArg Host.Outcome.next (State.vimCmd_busy hgo), congrArg Host.Outcome.next (State.vimCmd_busy hgo)⟩
  case createFails =>
    intro i t s hgo ht hst hidle
    rw [exec_vimCreate, execVimCreate, State.vimCmd_runs hgo ht hidle, State.vimRun_create_not hst]
  case takedownFails =>
    intro i t s hgo ht hst hidle
    rw [exec_vimTakedown, execVimTakedown, State.vimCmd_runs hgo ht hidle, State.vimRun_takedown_not hst]

end Sys2Proof.Machine
end

section
/-! PROOFS. Requests to unmapped targets (R452): refused, counted, latched where nothing is latched, and reported. -/

namespace Sys2Proof.Machine

open Sys2Proof

/-- The count and the latch of a request to an unmapped target, before the event that reports it. -/
def State.unmappedLatched (s : State) (a : Nat) (r : Req) (k : AccKind) : State :=
  if s.on RGN_VINFO_VALID then (s.inc RGN_VCNT_CNT).inc RGN_VINFO_MORE
  else (((((((s.inc RGN_VCNT_CNT).set RGN_VINFO_VALID 1).set RGN_VINFO_INIT r.id).set RGN_VINFO_WORLD (b2n (s.worldOf r))).set RGN_VINFO_ACC (accCode k)).set
    RGN_VINFO_CHK 0x1F).set RGN_VINFO_GEN r.gen).set RGN_VADDR_ADDR a

/-- R451, R452: what refuses a request to an unmapped target latches it and raises source 315. -/
theorem State.refuse_unmapped (s : State) (a : Nat) (r : Req) (k : AccKind) :
    ∃ w, s.refuse a r k 0x1F 0 = (s.unmappedLatched a r k).raise 315 w := ⟨_, rfl⟩

theorem State.checkReq_unmapped {s : State} {a : Nat} {r : Req} {k : AccKind} (h : s.mapped a = false) : s.checkReq a r k = some (s.refuse a r k 0x1F 0) :=
  if_pos (by simp [h])

theorem State.unmappedLatched_mem (s : State) (a : Nat) (r : Req) (k : AccKind) : (s.unmappedLatched a r k).mem = s.mem := by
  unfold State.unmappedLatched
  split <;> rfl

theorem State.unmappedLatched_count (s : State) (a : Nat) (r : Req) (k : AccKind) :
    (s.unmappedLatched a r k).get RGN_VCNT_CNT = satU RGN_VCNT_CNT.w (s.get RGN_VCNT_CNT + 1) := by
  unfold State.unmappedLatched
  split
  · rw [State.inc_get_ne (by decide), State.inc_get_self]
  · iterate 7 rw [State.get_set_ne _ _ _ _ (by decide)]
    exact State.inc_get_self ..

section
variable {s : State} (hfree : s.on RGN_VINFO_VALID = false) (a : Nat) (r : Req) (k : AccKind)
include hfree

theorem State.unmappedLatched_free : s.unmappedLatched a r k =
    (((((((s.inc RGN_VCNT_CNT).set RGN_VINFO_VALID 1).set RGN_VINFO_INIT r.id).set RGN_VINFO_WORLD (b2n (s.worldOf r))).set RGN_VINFO_ACC (accCode k)).set
      RGN_VINFO_CHK 0x1F).set RGN_VINFO_GEN r.gen).set RGN_VADDR_ADDR a := if_neg (by simp [hfree])

theorem State.unmappedLatched_valid : (s.unmappedLatched a r k).get RGN_VINFO_VALID = 1 := by
  rw [State.unmappedLatched_free hfree]
  iterate 6 rw [State.get_set_ne _ _ _ _ (by decide)]
  exact State.get_set_self ..

theorem State.unmappedLatched_init : (s.unmappedLatched a r k).get RGN_VINFO_INIT = r.id % 64 := by
  rw [State.unmappedLatched_free hfree]
  iterate 5 rw [State.get_set_ne _ _ _ _ (by decide)]
  exact State.get_set_self ..

theorem State.unmappedLatched_world : (s.unmappedLatched a r k).get RGN_VINFO_WORLD = b2n (s.worldOf r) := by
  rw [State.unmappedLatched_free hfree]
  iterate 4 rw [State.get_set_ne _ _ _ _ (by decide)]
  rw [State.get_set_self]
  cases s.worldOf r <;> rfl

theorem State.unmappedLatched_acc : (s.unmappedLatched a r k).get RGN_VINFO_ACC = accCode k := by
  rw [State.unmappedLatched_free hfree]
  iterate 3 rw [State.get_set_ne _ _ _ _ (by decide)]
  rw [State.get_set_self]
  cases k <;> rfl

theorem State.unmappedLatched_chk : (s.unmappedLatched a r k).get RGN_VINFO_CHK = 0x1F := by
  rw [State.unmappedLatched_free hfree]
  iterate 2 rw [State.get_set_ne _ _ _ _ (by decide)]
  exact State.get_set_self ..

theorem State.unmappedLatched_gen : (s.unmappedLatched a r k).get RGN_VINFO_GEN = r.gen % 2 ^ RGN_VINFO_GEN.w := by
  rw [State.unmappedLatched_free hfree, State.get_set_ne _ _ _ _ (by decide)]
  exact State.get_set_self ..

theorem State.unmappedLatched_addr (ha : a < 2 ^ 40) : (s.unmappedLatched a r k).get RGN_VADDR_ADDR = a := by
  rw [State.unmappedLatched_free hfree, State.get_set_self]
  exact Nat.mod_eq_of_lt ha

end

section
variable {s : State} (hheld : s.on RGN_VINFO_VALID = true) (a : Nat) (r : Req) (k : AccKind)
include hheld

theorem State.unmappedLatched_held : s.unmappedLatched a r k = (s.inc RGN_VCNT_CNT).inc RGN_VINFO_MORE := if_pos hheld

theorem State.unmappedLatched_more : (s.unmappedLatched a r k).get RGN_VINFO_MORE = satU RGN_VINFO_MORE.w (s.get RGN_VINFO_MORE + 1) := by
  rw [State.unmappedLatched_held hheld, State.inc_get_self, State.inc_get_ne (by decide)]

theorem State.unmappedLatched_keeps (f : Fld) (hcnt : fldKey f ≠ fldKey RGN_VCNT_CNT) (hmore : fldKey f ≠ fldKey RGN_VINFO_MORE) :
    (s.unmappedLatched a r k).get f = s.get f := by
  rw [State.unmappedLatched_held hheld, State.inc_get_ne hmore, State.inc_get_ne hcnt]

end

/-- A granule lies within the address space of the fabric. -/
theorem oneGranule_lt {a n : Nat} (h : oneGranule a n = true) : a < 2 ^ 40 := by
  simp only [oneGranule, Bool.and_eq_true, decide_eq_true_eq] at h
  exact h.2

/-- Settles O56: the request ends where its checker refuses it, with the latch of `unmappedLatched`. -/
theorem unmappedTargets : Obligations.UnmappedTargets := by
  unfold Obligations.UnmappedTargets
  intro r acc a n v e s halive hone hport hmapped hecc
  obtain ⟨w, hrefuse⟩ := State.refuse_unmapped s a r acc
  refine ⟨s.unmappedLatched a r acc, w, ?answer, State.unmappedLatched_mem .., State.unmappedLatched_count .., ?free, ?held⟩
  case answer =>
    rw [exec_fabricRequest_served r acc v e halive hone, State.fabDo_refused none n v hport (State.checkReq_unmapped hmapped) hecc, hrefuse, State.answer_error]
  case free =>
    intro hfree
    exact ⟨State.unmappedLatched_valid hfree .., State.unmappedLatched_chk hfree .., State.unmappedLatched_init hfree .., State.unmappedLatched_world hfree ..,
      State.unmappedLatched_acc hfree .., State.unmappedLatched_gen hfree .., State.unmappedLatched_addr hfree a r acc (oneGranule_lt hone)⟩
  case held =>
    intro hheld
    exact ⟨State.unmappedLatched_more hheld .., State.unmappedLatched_keeps hheld a r acc _ (by decide) (by decide),
      State.unmappedLatched_keeps hheld a r acc _ (by decide) (by decide)⟩

end Sys2Proof.Machine
end

section
/-! PROOFS. Canonical memory, part 1 of 8: the rules of composition, the memory, the registers and the events. `s.Canon` says that the memory of `s` is in canonical form. One lemma per function of the model, `State.Canon.<function>`, in the order of the model: the function keeps the form. The lemmas on `if`, on folds and on record updates put them together. -/

namespace Sys2Proof.Machine
open Sys2Proof

variable {s t : State} {r : EthRun}

/-- The memory of a state is in canonical form: a structure of its own, so that a proof follows the model's functions by their names. -/
structure State.Canon (s : State) : Prop where
  wf : Memory.wf s

/-- What a command answers is a state in canonical form, where it is a state. -/
def CanonOut : Host.Outcome State Fault Refusal → Prop
  | .next t => t.Canon
  | _ => True

/-- The state in the result of a Tangram instruction. -/
def TgRes.st : TgRes → State
  | .halted s | .ok s | .branch s _ _ | .goto s _ | .setm s | .stop s | .trap s _ _ => s

/-- A record update that keeps the memory keeps its form. -/
theorem State.Canon.upd {part regs held latch gtb due evr conv tg psc esw can lin crs gw pcie core pair scrub vi vimStart cmp pow ste irqInner irqOuter
    out free pending} (h : s.Canon) :
    State.Canon ⟨part, regs, held, latch, s.mem, gtb, due, evr, conv, tg, psc, esw, can, lin, crs, gw, pcie, core, pair, scrub, vi, vimStart, cmp, pow,
      ste, irqInner, irqOuter, out, free, pending⟩ :=
  ⟨h.wf⟩

theorem State.Canon.ite {c : Prop} [Decidable c] {a b : State} (ha : a.Canon) (hb : b.Canon) : (if c then a else b).Canon := by
  split <;> assumption
theorem State.Canon.also {c : Prop} [Decidable c] {a b : State} (hb : b.Canon) (ha : b.Canon → a.Canon) : (if c then a else b).Canon := .ite (ha hb) hb
theorem State.Canon.unless {c : Prop} [Decidable c] {a b : State} (ha : a.Canon) (hb : a.Canon → b.Canon) : (if c then a else b).Canon := .ite ha (hb ha)
theorem State.Canon.iteFst {α : Type} {c : Prop} [Decidable c] {a b : State × α} (ha : a.1.Canon) (hb : b.1.Canon) : (if c then a else b).1.Canon := by
  split <;> assumption
theorem State.Canon.iteSnd {α : Type} {c : Prop} [Decidable c] {a b : α × State} (ha : a.2.Canon) (hb : b.2.Canon) : (if c then a else b).2.Canon := by
  split <;> assumption
theorem State.Canon.iteRun {c : Prop} [Decidable c] {a b : EthRun} (ha : a.s.Canon) (hb : b.s.Canon) : (if c then a else b).s.Canon := by
  split <;> assumption
theorem State.Canon.iteGw {c : Prop} [Decidable c] {a b : GwTouch} (ha : a.s.Canon) (hb : b.s.Canon) : (if c then a else b).s.Canon := by
  split <;> assumption
theorem State.Canon.iteS {c : Prop} [Decidable c] {a b : CmdRes} (ha : a.s.Canon) (hb : b.s.Canon) : (if c then a else b).s.Canon := by
  split <;> assumption
theorem State.Canon.iteSt {c : Prop} [Decidable c] {a b : TgRes} (ha : a.st.Canon) (hb : b.st.Canon) : (if c then a else b).st.Canon := by
  split <;> assumption
theorem State.Canon.shared {u : State} (h : s.Canon) (f : s.Canon → u.Canon) : u.Canon := f h
theorem CanonOut.shared {o} (h : s.Canon) (f : s.Canon → CanonOut o) : CanonOut o := f h
theorem State.Canon.fst_eq {α : Type} {p : State × α} {b : α} (e : p = (t, b)) (h : p.1.Canon) : t.Canon := by
  subst e
  exact h
theorem State.Canon.snd_eq {α : Type} {p : α × State} {b : α} (e : p = (b, t)) (h : p.2.Canon) : t.Canon := by
  subst e
  exact h

theorem State.Canon.fst {α : Type} {b : α} (h : s.Canon) : (s, b).1.Canon := h
theorem State.Canon.snd {α : Type} {b : α} (h : s.Canon) : (b, s).2.Canon := h
theorem State.Canon.res {l e} (h : s.Canon) : (CmdRes.mk s l e).s.Canon := h
theorem State.Canon.atOk (h : s.Canon) : (TgRes.ok s).st.Canon := h
theorem State.Canon.atBranch (h : s.Canon) {a b} : (TgRes.branch s a b).st.Canon := h
theorem State.Canon.atGoto (h : s.Canon) {a} : (TgRes.goto s a).st.Canon := h
theorem State.Canon.atSetm (h : s.Canon) : (TgRes.setm s).st.Canon := h
theorem State.Canon.atTrap (h : s.Canon) {a b} : (TgRes.trap s a b).st.Canon := h

theorem CanonOut.next (h : s.Canon) : CanonOut (.next s) := h
theorem CanonOut.ite {c : Prop} [Decidable c] {a b : Host.Outcome State Fault Refusal} (ha : CanonOut a) (hb : CanonOut b) :
    CanonOut (if c then a else b) := by
  split <;> assumption
theorem State.Canon.next (h : s.Canon) : CanonOut (.next s) := h

/-- The state that a part of an instruction of a core leaves is in canonical form. -/
def CanonRes {α : Type} : EStateM.Result Stop State α → Prop
  | .ok _ t | .error _ t => t.Canon

theorem CanonRes.ok {α : Type} {a : α} (h : CanonRes (.ok a s)) : s.Canon := h
theorem CanonRes.error {α : Type} {e : Stop} (h : CanonRes (.error e s : EStateM.Result Stop State α)) : s.Canon := h

/-- A part of an instruction of a core leaves a memory in canonical form. -/
structure Rv.Keeps {α : Type} (m : Rv α) : Prop where
  run : ∀ {s : State}, s.Canon → CanonRes (m s)

theorem Rv.Keeps.pure {α : Type} {a : α} : Rv.Keeps (Pure.pure a) := ⟨fun h => h⟩
theorem Rv.Keeps.throw {α : Type} {e : Stop} : Rv.Keeps (throw e : Rv α) := ⟨fun h => h⟩
theorem Rv.Keeps.bind {α β : Type} {m : Rv α} {f : α → Rv β} (hm : Rv.Keeps m) (hf : ∀ a, Rv.Keeps (f a)) : Rv.Keeps (m >>= f) := by
  refine ⟨fun hs => ?_⟩
  have h1 := hm.run hs
  show CanonRes (EStateM.bind m f _)
  unfold EStateM.bind
  split
  · next e => rw [e] at h1; exact (hf _).run h1
  · next e => rw [e] at h1; exact h1
theorem Rv.Keeps.get {α : Type} {f : State → Rv α} (hf : ∀ s, s.Canon → Rv.Keeps (f s)) : Rv.Keeps (MonadState.get >>= f) :=
  ⟨fun hs => (hf _ hs).run hs⟩
theorem Rv.Keeps.set (h : t.Canon) : Rv.Keeps (MonadStateOf.set t : Rv PUnit) := ⟨fun _ => h⟩
theorem Rv.Keeps.modify {g : State → State} (hg : ∀ s, s.Canon → (g s).Canon) : Rv.Keeps (modify g : Rv PUnit) := ⟨fun hs => hg _ hs⟩
theorem Rv.Keeps.modifyGet {α : Type} {g : State → α × State} (hg : ∀ s, s.Canon → (g s).2.Canon) : Rv.Keeps (modifyGet g : Rv α) :=
  ⟨fun hs => hg _ hs⟩
theorem Rv.Keeps.ite {α : Type} {c : Prop} [Decidable c] {a b : Rv α} (ha : Rv.Keeps a) (hb : Rv.Keeps b) : Rv.Keeps (if c then a else b) := by
  split <;> assumption

/-! ### Functions of Machine/Ops -/

theorem State.Canon.set (h : s.Canon) {f v} : (s.set f v).Canon := h.upd
theorem State.Canon.setS (h : s.Canon) {f i} : (s.setS f i).Canon := h.set
theorem State.Canon.addSat (h : s.Canon) {f n} : (s.addSat f n).Canon := h.set
theorem State.Canon.inc (h : s.Canon) {f} : (s.inc f).Canon := h.addSat
theorem State.Canon.addWrap (h : s.Canon) {f n} : (s.addWrap f n).Canon := h.set
theorem State.Canon.setIf (h : s.Canon) {c f v} : (s.setIf c f v).Canon := .ite h.set h
theorem State.Canon.setBit (h : s.Canon) {f n b} : (s.setBit f n b).Canon := h.set
theorem State.Canon.track (h : s.Canon) {f v} : (s.track f v).Canon := .ite h.set h
theorem State.Canon.each {α : Type} {l : List α} {g : State → α → State} (h : s.Canon) (hg : ∀ {t} x, t.Canon → (g t x).Canon) : (s.each l g).Canon :=
  List.foldlRecOn l g h fun _ ht x _ => hg x ht
theorem State.Canon.setByte (h : s.Canon) {a b} : (s.setByte a b).Canon := ⟨s.setByte_wf a b h.wf⟩
theorem State.Canon.zero (h : s.Canon) {a n} : (s.zero a n).Canon := ⟨s.zero_wf a n h.wf⟩
theorem State.Canon.setBytes (h : s.Canon) {a bs} : (s.setBytes a bs).Canon := ⟨s.setBytes_wf a bs h.wf⟩
theorem State.Canon.store (h : s.Canon) {a n v} : (s.store a n v).Canon := h.setBytes
theorem State.Canon.draw (h : s.Canon) : s.draw.Canon := h.upd
theorem State.Canon.emit (h : s.Canon) {o} : (s.emit o).Canon := h.upd
theorem State.Canon.twinReport (h : s.Canon) {c} : (s.twinReport c).Canon := .ite h.upd h

/-! ### Functions of Machine/Follow -/

theorem State.Canon.follow (h : s.Canon) {l} : (s.follow l).Canon := h.upd
theorem State.Canon.arrive {p d} (e : s.arrive p = some (d, t)) (h : s.Canon) : t.Canon := by
  unfold State.arrive at e
  split at e <;> cases e
  exact h.upd

/-! ### Functions of Machine/Events -/

theorem State.Canon.setPath (h : s.Canon) {lg q lvl} : (s.setPath lg q lvl).Canon := .ite h.upd.set.set h.upd.set.set
theorem State.Canon.countLoss (h : s.Canon) {lg src at_} : (s.countLoss lg src at_).Canon := .inc (.ite (.ite h.upd h.upd) h)
theorem State.Canon.countRepeat (h : s.Canon) {e} : (s.countRepeat e).Canon := .also (.ite h.countLoss h) fun hs => hs.countLoss
theorem State.Canon.enterRaw (h : s.Canon) {e} : (s.enterRaw e).Canon := .ite h.countRepeat h.upd
theorem State.Canon.persistAdd (h : s.Canon) {p} : (s.persistAdd p).Canon := h.upd
theorem State.Canon.areaShow (h : s.Canon) : s.areaShow.Canon := h.set.set
theorem State.Canon.persistCommit (h : s.Canon) {b} : (s.persistCommit b).Canon :=
  .ite h (.areaShow (.unless (.ite h.upd h.upd) fun hs => .ite hs.upd hs.upd))
theorem State.Canon.alarmTake (h : s.Canon) {e} : (s.alarmTake e).Canon := by
  unfold State.alarmTake
  dsimp only
  split
  · exact h.upd.inc.set
  · split
    · exact h.set.set.set.set.set.addWrap.set.persistAdd
    · exact h.setBit.inc
theorem State.Canon.alarm (h : s.Canon) {e} : (s.alarm e).Canon := .ite h.alarmTake (.also h.alarmTake.enterRaw fun hs => hs.alarmTake)
theorem State.Canon.enterNow (h : s.Canon) {e} : (s.enterNow e).Canon := .ite h.enterRaw.alarm h.enterRaw
theorem State.Canon.direct (h : s.Canon) {e} : (s.direct e).Canon := .ite h.follow h
theorem State.Canon.enter (h : s.Canon) {e} : (s.enter e).Canon := .ite h h.enterNow.direct
theorem State.Canon.msix (h : s.Canon) {i v} : (s.msix i v).Canon := .ite h.emit h.setByte
theorem State.Canon.viNote (h : s.Canon) {i b} : (s.viNote i b).Canon :=
  .ite h <| .ite h.setBit <| .ite h.setBit.msix <| .ite h.setBit.setBit.enter h.setBit
theorem State.Canon.viGoto (h : s.Canon) {i st} : (s.viGoto i st).Canon := .ite h.set.set.addWrap <| .ite h.set.set.set h.set.set
theorem State.Canon.viFaultMark (h : s.Canon) {i code} : (s.viFaultMark i code).Canon :=
  .ite h.set.set.inc.viNote.enter.upd (.also h.set.set.inc.viNote.enter fun hs => .unless hs.upd.viGoto fun hs2 => hs2.upd)
theorem State.Canon.viEscalation (h : s.Canon) {e} : (s.viEscalation e).Canon := by
  unfold State.viEscalation
  split
  · exact h.viFaultMark
  · exact h
theorem State.Canon.viHear (h : s.Canon) {src word} : (s.viHear src word).Canon := by
  unfold State.viHear
  refine .ite h <| .ite ?_ ?_
  · split
    · exact h.viNote
    · exact h
  · refine .ite ?_ ?_
    · split
      · exact h.viNote
      · exact h
    · refine .ite ?_ h
      split
      · exact h.viNote
      · exact h
theorem State.Canon.raise (h : s.Canon) {src word} : (s.raise src word).Canon := h.enter.viHear
theorem State.Canon.raiseAt (h : s.Canon) {src word at_} : (s.raiseAt src word at_).Canon := h.enter
theorem State.Canon.raiseC (h : s.Canon) {src cause value} : (s.raiseC src cause value).Canon := h.raise
theorem State.Canon.raiseSum (h : s.Canon) {src cause n} : (s.raiseSum src cause n).Canon := .ite h.upd.raise h.upd
theorem State.Canon.pathPush (h : s.Canon) {lg e} : (s.pathPush lg e).Canon := .ite h.setPath.raise h.setPath
theorem State.Canon.summary1 (h : s.Canon) {lg src} : (State.summary1 lg s src).Canon := .ite h.set.pathPush h
theorem State.Canon.summaries (h : s.Canon) {lg} : (s.summaries lg).Canon := .each h fun _ ht => ht.summary1
theorem State.Canon.pathOffer (h : s.Canon) {lg e} : (s.pathOffer lg e).Canon :=
  .ite h <| .ite (.setIf (.countLoss (.ite h.summaries h))) (.pathPush (.ite h.summaries h))
theorem State.Canon.pathPop (h : s.Canon) {lg} : (s.pathPop lg).Canon := .ite h.setPath.summaries h.setPath
theorem State.Canon.pendIrq (h : s.Canon) {d inner src} : (s.pendIrq d inner src).Canon := .ite h <| .ite h.upd h.upd
theorem State.Canon.deliver (h : s.Canon) {e} : (s.deliver e).Canon :=
  .ite h (.also (.also (.also (.ite h.pendIrq h) fun hs => hs.pathOffer) fun hs => hs.pathOffer) fun hs => hs.alarm)
theorem State.Canon.sortTake (h : s.Canon) : s.sortTake.Canon := by
  unfold State.sortTake
  dsimp only
  split
  · exact h
  · exact .ite h.upd.upd h.upd.upd
theorem State.Canon.evrTake (h : s.Canon) : s.evrTake.Canon := .each h fun _ ht => ht.sortTake

/-! ### Functions of Machine/Check -/

theorem State.Canon.refuse (h : s.Canon) {a r k chk base} : (s.refuse a r k chk base).Canon :=
  .raise (.ite (.inc (.ite h.inc.inc h.inc)) (.set (.set (.set (.set (.set (.set (.set (.ite h.inc.inc h.inc)))))))))
theorem State.Canon.checkReq {a r k} (e : s.checkReq a r k = some t) (h : s.Canon) : t.Canon := by
  unfold State.checkReq at e
  split at e
  · cases e; exact h.refuse
  · split at e
    · cases e
    · split at e <;> cases e <;> exact h.refuse
theorem State.Canon.parityError (h : s.Canon) {id} : (s.parityError id).Canon := h.raise
theorem State.Canon.fabWrite (h : s.Canon) {id a bs parity} : (s.fabWrite id a bs parity).1.Canon := by
  unfold State.fabWrite
  dsimp only
  refine .iteFst h.parityError ?_
  split
  · next e =>
      exact .checkReq e h
  · refine .iteFst h.setBytes ?_
    split
    · next e =>
        exact .checkReq e h.setBytes
    · exact h.setBytes.setBytes

/-! ### Functions of Machine/Access -/

theorem State.Canon.fieldWrite (h : s.Canon) {f v} : (s.fieldWrite f v).Canon := h.set
theorem State.Canon.fieldsWrite (h : s.Canon) {fs v} : (s.fieldsWrite fs v).Canon := .each h fun _ ht => ht.fieldWrite
theorem State.Canon.clearRc (h : s.Canon) {fs} : (s.clearRc fs).Canon := .each h fun _ ht => .ite ht.set ht
/-- A hook of a register write leaves a memory in canonical form where both its states hold one. -/
def WriteHook.Keeps (hook : WriteHook) : Prop := ∀ (a v : Nat) (s t : State), s.Canon → t.Canon → (hook a v s t).Canon

theorem State.Canon.regApply (h : s.Canon) {hook base fs v} (hk : WriteHook.Keeps hook) : (State.regApply hook s base fs v).Canon :=
  hk _ _ _ _ h h.fieldsWrite
theorem State.Canon.write4 (h : s.Canon) {hook a v} (hk : WriteHook.Keeps hook) : (State.write4 hook s a v).Canon := by
  unfold State.write4
  split
  · exact h
  · exact .ite (.ite h.upd (h.upd.regApply hk)) (h.regApply hk)
theorem State.Canon.regWrite (h : s.Canon) {hook a size v} (hk : WriteHook.Keeps hook) : (State.regWrite hook s a size v).Canon := by
  unfold State.regWrite
  refine .ite ?_ (h.write4 hk)
  split
  · exact .ite (h.upd.regApply hk) ((h.write4 hk).write4 hk)
  · exact h.write4 hk
/-- Both hooks of a register read leave a memory in canonical form. -/
def ReadHook.Keeps (hook : ReadHook) : Prop := ∀ (a : Nat) (s : State), s.Canon → (hook.before a s).Canon ∧ (hook.after a s).Canon

theorem State.Canon.read4 (h : s.Canon) {hook id debug a} (hk : ReadHook.Keeps hook) : (State.read4 hook s id debug a).2.Canon := by
  unfold State.read4
  split
  · exact h
  · exact .ite (hk _ _ h).1.upd (hk _ _ (hk _ _ h).1.upd.clearRc).2
theorem State.Canon.regRead (h : s.Canon) {hook id debug a size} (hk : ReadHook.Keeps hook) : (State.regRead hook s id debug a size).2.Canon := by
  unfold State.regRead
  refine .iteSnd ?_ (h.read4 hk)
  split
  · exact .iteSnd (.ite (hk _ _ h).1.upd (hk _ _ (hk _ _ h).1.upd.clearRc).2) ((h.read4 hk).read4 hk)
  · exact h.read4 hk
theorem State.Canon.restore (h : s.Canon) {p} : (s.restore p).Canon := h.upd
theorem State.Canon.unhold (h : s.Canon) {p} : (s.unhold p).Canon := h.upd
theorem State.Canon.restoreBlock (h : s.Canon) {b n} : (s.restoreBlock b n).Canon := h.restore.unhold
theorem State.Canon.restoreWarm (h : s.Canon) : s.restoreWarm.Canon := h.restore.unhold
theorem State.Canon.restoreCold (h : s.Canon) : s.restoreCold.Canon := h.restore.unhold

/-! ### Functions of Machine/TgMem -/

theorem State.Canon.tgSet (h : s.Canon) {e g} : (s.tgSet e g).Canon := .ite h.upd.upd h.upd
theorem State.Canon.tgFault (h : s.Canon) {e cause code val} : (s.tgFault e cause code val).Canon := h.raise
theorem State.Canon.dmemIn (h : s.Canon) {e off size v} : (s.dmemIn e off size v).Canon := .ite (.ite h.inc.tgFault h.upd) h.store
theorem State.Canon.dmemFlush (h : s.Canon) {e} : (s.dmemFlush e).Canon := .each h.upd fun _ ht => ht.store
theorem State.Canon.tgDeliver (h : s.Canon) {e off v} : (s.tgDeliver e off v).Canon := h.dmemIn
theorem State.Canon.tgFabricDmem (h : s.Canon) {e off size v} : (s.tgFabricDmem e off size v).Canon :=
  .each h fun _ ht => .each ht fun _ hu => hu.dmemIn
theorem State.Canon.laneDeliver (h : s.Canon) {e off v parity} : (s.laneDeliver e off v parity).1.Canon := by
  unfold State.laneDeliver
  refine .iteFst h.parityError ?_
  split
  · next e =>
      exact .checkReq e h
  · exact h.tgDeliver

end Sys2Proof.Machine
end

section
/-! PROOFS. Canonical memory, part 2 of 8: converters, buses and the switch. One lemma per function of the model, in its order. -/

namespace Sys2Proof.Machine
open Sys2Proof

variable {s t : State} {r : EthRun}

/-! ### Functions of Machine/Adc -/

theorem State.Canon.adcBegin (h : s.Canon) {n set} : (s.adcBegin n set).Canon := h.upd.set
theorem State.Canon.adcOverrun (h : s.Canon) {n} : (s.adcOverrun n).Canon := h.inc.raiseC
theorem State.Canon.adcStart (h : s.Canon) {n} : (s.adcStart n).Canon := .ite h <| .ite h.adcOverrun h.adcBegin
theorem State.Canon.execAdcSequenceStart (h : s.Canon) {n} : CanonOut (execAdcSequenceStart n s) := by
  unfold Machine.execAdcSequenceStart
  split
  · exact h.next
  · next e =>
      exact .ite (.next (.adcStart (.arrive e h))) (.next (.arrive e h))
theorem State.Canon.adcStartWrite (h : s.Canon) {n} : (s.adcStartWrite n).Canon := .ite h.adcStart h
theorem State.Canon.execAdcStart (h : s.Canon) {n} : CanonOut (execAdcStart n s) := h.adcStartWrite.next
theorem State.Canon.adcFreerun (h : s.Canon) {n} : (s.adcFreerun n).Canon := .ite h.adcBegin h
theorem State.Canon.execAdcFreerunWrite (h : s.Canon) {n en freerun} : CanonOut (execAdcFreerunWrite n en freerun s) :=
  .ite h.next h.set.set.adcFreerun.next
theorem State.Canon.setUpd (h : s.Canon) {g id f} : (s.setUpd g id f).Canon := h.upd
theorem State.Canon.setWord (h : s.Canon) {g id n k w} : (s.setWord g id n k w).Canon := h.setUpd
theorem State.Canon.execAdcSlotComplete (h : s.Canon) {n sum err} : CanonOut (execAdcSlotComplete n sum err s) := by
  unfold Machine.execAdcSlotComplete
  dsimp only
  split
  · refine .shared ?_ fun h3 => .ite h3.upd.next (.next (.adcFreerun (.also h3.upd.set fun hs => hs.raiseC)))
    split
    · exact .setWord (.also h.set.set.set fun hs => hs.setBit.raiseC)
    · exact .also h.set.set.set fun hs => hs.setBit.raiseC
  · exact h.next
theorem State.Canon.grpConflict (h : s.Canon) {g} : (s.grpConflict g).Canon := h.set
theorem State.Canon.grpStart {s0 : State} (h : s0.Canon) {g} : (s0.grpStart g).Canon :=
  .unless h.grpConflict fun hs => .unless (.each hs fun _ ht => ht.adcOverrun) fun hs2 => .each hs2.upd fun _ ht => ht.adcBegin
theorem State.Canon.execAdcGroupStart (h : s.Canon) {g} : CanonOut (execAdcGroupStart g s) := by
  unfold Machine.execAdcGroupStart
  split
  · exact h.next
  · next e =>
      exact .next (.grpStart (.arrive e h))
theorem State.Canon.execAdcGroupStartWrite (h : s.Canon) {g} : CanonOut (execAdcGroupStartWrite g s) := .ite h.grpStart.next h.next
theorem State.Canon.setRefused (h : s.Canon) {g x} : (s.setRefused g x).Canon := .ite h.set h.set.setUpd.raiseC
theorem State.Canon.execAdcWordDeliver (h : s.Canon) {g parity} : CanonOut (execAdcWordDeliver g parity s) := by
  unfold Machine.execAdcWordDeliver
  dsimp only
  split
  · exact h.next
  · exact .ite h.setUpd.setRefused.next (.next (.each h.setUpd fun _ ht => .unless ht.laneDeliver fun hs => hs.setRefused))
theorem State.Canon.execAdcRingWrite (h : s.Canon) {g parity} : CanonOut (execAdcRingWrite g parity s) := by
  unfold Machine.execAdcRingWrite
  dsimp only
  split
  · exact h.next
  · exact .next (.set (.setUpd (.each h fun _ ht => .ite ht.fabWrite ht.fabWrite.setRefused)))
theorem State.Canon.execAdcSetComplete (h : s.Canon) {g} : CanonOut (execAdcSetComplete g s) := by
  unfold Machine.execAdcSetComplete
  dsimp only
  split
  · exact h.next
  · exact h.upd.addWrap.raiseC.next

/-! ### Functions of Machine/Wake -/

theorem State.Canon.wakeConfirm (h : s.Canon) {b} : (s.wakeConfirm b).Canon := .ite h.upd.set.set.raiseC h
theorem State.Canon.zoneLow (h : s.Canon) {cause} : (s.zoneLow cause).Canon := .ite h.set.set.raiseC.emit h
theorem State.Canon.zoneHigh (h : s.Canon) : s.zoneHigh.Canon := .ite h h.set.raiseC.emit

/-! ### Functions of Machine/Can -/

theorem State.Canon.canUpd (h : s.Canon) {c g} : (s.canUpd c g).Canon := h.upd
theorem State.Canon.canFull (h : s.Canon) {c o b} : (s.canFull c o b).Canon := h.set.setBit
theorem State.Canon.canReq (h : s.Canon) {c o b} : (s.canReq c o b).Canon := h.set.setBit
theorem State.Canon.canMirror (h : s.Canon) {c o} : (s.canMirror c o).Canon := .ite h.emit h
theorem State.Canon.canStart (h : s.Canon) {c} : (s.canStart c).Canon := .ite h.setIf.canUpd.set.set.set.set h.set.set
theorem State.Canon.canOff (h : s.Canon) {c} : (s.canOff c).Canon := h.canUpd.set.set.set.set.set
theorem State.Canon.canErrState (h : s.Canon) {c} : (s.canErrState c).Canon := .ite h.set.raiseC <| .ite h.set.raiseC h
theorem State.Canon.canTxEnd (h : s.Canon) {c} : (s.canTxEnd c).Canon := h.canUpd.set.set
theorem State.Canon.canFail (h : s.Canon) {c o} : (s.canFail c o).Canon := h.canReq.set.canMirror.raiseC
theorem State.Canon.canOffer (h : s.Canon) {c f} : (s.canOffer c f).Canon := by
  unfold State.canOffer
  dsimp only
  split
  · exact h.inc
  · split
    · exact h.canUpd
    · exact h.set.inc.raiseC
theorem State.Canon.canStore (h : s.Canon) {c o f} : (s.canStore c o f).Canon :=
  .also (.canFull (.addWrap (.set (.also (.unless h.setBytes.set.set.set.set.set fun hs => hs.set.set) fun hs => hs.set.set.set.set)))) fun hs => hs.raiseC
theorem State.Canon.canRxGood (h : s.Canon) {c} : (s.canRxGood c).Canon := .ite h <| .ite h <| .ite h.set.canErrState h.draw.set.canErrState
theorem State.Canon.canTxreq (h : s.Canon) {c o} : (s.canTxreq c o).Canon := .ite h.canReq.canMirror h
theorem State.Canon.canAbort (h : s.Canon) {c o} : (s.canAbort c o).Canon := by
  unfold State.canAbort
  split
  · exact .ite h.canUpd <| .ite h.canFail h
  · exact .ite h.canFail h
theorem State.Canon.canRecover (h : s.Canon) {c} : (s.canRecover c).Canon := .ite h.set h
theorem State.Canon.canCorrAt (h : s.Canon) {c at_ ref} : (s.canCorrAt c at_ ref).Canon := h.set.set.set.addWrap
theorem State.Canon.canCorrelate (h : s.Canon) {c} : (s.canCorrelate c).Canon := h.canCorrAt
theorem State.Canon.canTdcv (h : s.Canon) {c f v} : (s.canTdcv c f v).Canon := .ite h.set h
theorem State.Canon.canTrx (h : s.Canon) {c} : (s.canTrx c).Canon := h.set
theorem State.Canon.execCanStart (h : s.Canon) {c} : CanonOut (execCanStart c s) := .ite h.next <| .ite h.next <| .ite h.canStart.next h.set.next
theorem State.Canon.execCanIntegrationDone (h : s.Canon) {c} : CanonOut (execCanIntegrationDone c s) := .ite h.set.next h.next
theorem State.Canon.canMirrorSeen (h : s.Canon) {c f} : (s.canMirrorSeen c f).Canon := by
  unfold State.canMirrorSeen
  dsimp only
  refine .ite ?_ h
  split
  · exact h.canReq
  · exact h
theorem State.Canon.execCanFrameValid {s0 : State} (h : s0.Canon) {c fr age} : CanonOut (execCanFrameValid c fr age s0) :=
  .ite (.next (.wakeConfirm (.canOffer (.canMirrorSeen (.canRxGood (.ite h.set h)))))) (.next (.ite h.set h))
theorem State.Canon.execCanObjectWrite (h : s.Canon) {c} : CanonOut (execCanObjectWrite c s) := by
  unfold Machine.execCanObjectWrite
  dsimp only
  split
  · exact h.next
  · exact .next (.also h.canUpd.canStore fun hs => hs.canFull)
theorem State.Canon.execCanTxreq (h : s.Canon) {c o} : CanonOut (execCanTxreq c o s) := .ite h.next h.canTxreq.next
theorem State.Canon.execCanArbitrationStart (h : s.Canon) {c} : CanonOut (execCanArbitrationStart c s) := by
  unfold Machine.execCanArbitrationStart
  dsimp only
  refine .ite ?_ h.next
  split
  · exact h.canUpd.set.set.set.next
  · exact h.next
theorem State.Canon.execCanTxSuccess (h : s.Canon) {c tdcv} : CanonOut (execCanTxSuccess c tdcv s) := by
  unfold Machine.execCanTxSuccess
  dsimp only
  split
  · exact h.next
  · exact .ite h.next (.next (.also (.unless (.canErrState (.set (.canTdcv
      (.also h.canTxEnd.canReq.set.canMirror.set fun hs => hs.raiseC)))) fun hs => hs.emit) fun hs => hs.canOffer))
theorem State.Canon.execCanTxError (h : s.Canon) {c lec data count tdcv} : CanonOut (execCanTxError c lec data count tdcv s) := by
  unfold Machine.execCanTxError
  dsimp only
  split
  · exact h.next
  · exact .next (.also (.ite (.raiseC (.inc (.set (.set (.set (.set (.inc (.canTxEnd (by split; exacts [h.canTdcv, h]))))))))) (.canErrState (.set
      (.set (.set (.inc (.canTxEnd (by split; exacts [h.canTdcv, h])))))))) fun hs => hs.canFail)
theorem State.Canon.execCanArbitrationLost (h : s.Canon) {c} : CanonOut (execCanArbitrationLost c s) := by
  unfold Machine.execCanArbitrationLost
  dsimp only
  split
  · exact h.next
  · exact .next (.also h.canTxEnd.inc.setIf fun hs => hs.canFail)
theorem State.Canon.execCanAbort (h : s.Canon) {c o} : CanonOut (execCanAbort c o s) := .ite h.next h.canAbort.next
theorem State.Canon.execCanBusoffRecover (h : s.Canon) {c} : CanonOut (execCanBusoffRecover c s) := h.canRecover.next
theorem State.Canon.execCanBusoffRecovered (h : s.Canon) {c} : CanonOut (execCanBusoffRecovered c s) := .ite h.set.set.set.raiseC.next h.next
theorem State.Canon.execCanLomApply (h : s.Canon) {c} : CanonOut (execCanLomApply c s) :=
  .ite h.next <| .ite h.next (.next (.ite h.canUpd.set h.canUpd))
theorem State.Canon.execCanRxError (h : s.Canon) {c lec data inc} : CanonOut (execCanRxError c lec data inc s) :=
  .ite (.next (.unless h.inc.set.set.set fun hs => hs.addSat.canErrState)) h.next
theorem State.Canon.execCanProtocolException (h : s.Canon) {c} : CanonOut (execCanProtocolException c s) := .ite h.set.set.set.raiseC.next h.next
theorem State.Canon.execCanTxdTimeout (h : s.Canon) {c} : CanonOut (execCanTxdTimeout c s) := .ite h.next <| .ite h.next h.canUpd.set.raiseC.next
theorem State.Canon.execCanBusReleaseEnd (h : s.Canon) {c} : CanonOut (execCanBusReleaseEnd c s) := .ite h.next h.canUpd.next
theorem State.Canon.execCanCorrelation (h : s.Canon) {c take} : CanonOut (execCanCorrelation c take s) := by
  unfold Machine.execCanCorrelation
  refine .ite h.next <| .ite h.canCorrelate.next ?_
  split
  · next e =>
      exact .next (.canCorrAt (.arrive e h))
  · exact h.next
theorem State.Canon.execBusWakeDetect (h : s.Canon) {b} : CanonOut (execBusWakeDetect b s) :=
  .ite h.next <| .ite h.next <| .ite (.ite h.set.next h.next) <| .ite h.set.raiseC.next h.next
theorem State.Canon.execTransceiverOvertemp (h : s.Canon) {b} : CanonOut (execTransceiverOvertemp b s) :=
  .ite h.next <| .ite (.ite h.next h.canUpd.set.raiseC.next) <| .ite h.next h.upd.set.raiseC.next
theorem State.Canon.execTransceiverOvertempEnd (h : s.Canon) {b} : CanonOut (execTransceiverOvertempEnd b s) :=
  .ite h.next <| .ite h.canUpd.next h.upd.next
theorem State.Canon.canWrite {old : State} (h : old.Canon) (h1 : s.Canon) {a v} : (canWrite a v old s).Canon :=
  .ite (.ite (.also (.also (.ite h1.canRecover h1) fun hs => hs.set) fun hs => hs.canStart) (.also (.also
    (.ite h1.canRecover h1) fun hs => hs.set) fun hs => hs.canOff)) <| .ite h.upd <| .ite (.ite h1.canCorrelate h1) <| .ite h1.canTrx <|
    .ite (.ite h.upd h1) <| .ite (.ite (.ite h1.set.set h1) <| .ite (.also (.ite h1.canReq.canTxreq h1.canReq) fun hs => hs.canAbort) <|
    .ite (.ite h1.canFull.set h1.canFull) h1) h1
theorem State.Canon.canBefore (h : s.Canon) {a} : (canBefore a s).Canon := .ite h.set <| .ite h.set h
theorem State.Canon.canReset (h : s.Canon) {c} : (s.canReset c).Canon := h.restoreBlock.canUpd

/-! ### Functions of Machine/Gates -/

theorem State.Canon.gateChange (h : s.Canon) {p} : (s.gateChange p).Canon := h.upd.set.set
theorem State.Canon.gateApply (h : s.Canon) {p} : (s.gateApply p).Canon := by
  unfold State.gateApply
  dsimp only
  split
  · exact h
  · exact h.upd.set.set.raiseC
theorem State.Canon.sgateChange (h : s.Canon) {g} : (s.sgateChange g).Canon := h.upd.set.set
theorem State.Canon.sgateApply (h : s.Canon) {g} : (s.sgateApply g).Canon := by
  unfold State.sgateApply
  dsimp only
  split
  · exact h
  · exact h.upd.set.set.raiseC
theorem State.Canon.gateStepPort (h : s.Canon) {p} : (s.gateStepPort p).Canon := by
  unfold State.gateStepPort
  dsimp only
  split
  · exact .also (.ite h.inc.raiseC h) fun hs => hs.gateApply
  · exact .ite h.inc.raiseC h
theorem State.Canon.gateStepStream (h : s.Canon) {g} : (s.gateStepStream g).Canon := by
  unfold State.gateStepStream
  split
  · exact .ite h.sgateApply h
  · exact h
theorem State.Canon.gateStep (h : s.Canon) : s.gateStep.Canon := .each (.each h fun _ ht => ht.gateStepPort) fun _ ht => ht.gateStepStream

/-! ### Functions of Machine/Esw -/

theorem State.Canon.mirrored (h : s.Canon) {a v} : (s.mirrored a v).Canon := .ite h.emit h
theorem State.Canon.mirrored8 (h : s.Canon) {a v} : (s.mirrored8 a v).Canon := .ite h.emit h
theorem State.Canon.setEthQ (h : s.Canon) {p q l} : (s.setEthQ p q l).Canon := h.upd.set.track
theorem State.Canon.setFree (h : s.Canon) {v} : (s.setFree v).Canon := .ite h.set.setIf.raiseC h.set.setIf
theorem State.Canon.copyGone (h : s.Canon) {c} : (s.copyGone c).Canon := .ite h.upd.setFree h.upd
theorem State.Canon.flushPort (h : s.Canon) {p} : (s.flushPort p).Canon := .each h fun _ ht => .setEthQ (.each ht fun _ hu => hu.inc.inc.copyGone)
theorem State.Canon.ethSettle (h : s.Canon) {p} : (s.ethSettle p).Canon := .ite h.upd h.upd.set
theorem State.Canon.pinRefresh (h : s.Canon) {k} : (s.pinRefresh k).Canon := h.set
theorem State.Canon.unmark (h : s.Canon) {k p} : (s.unmark k p).Canon := .each h fun _ ht => ht.setEthQ
theorem State.Canon.pinFail (h : s.Canon) {k p} : (s.pinFail k p).Canon := by
  unfold State.pinFail
  exact .pinRefresh (.raiseC (.inc (.set (.set (.upd (.each h.unmark.unmark fun _ ht => .ite ht ht.ethSettle.setEthQ.setEthQ))))))
theorem State.Canon.pinPortLeaves (h : s.Canon) {p} : (s.pinPortLeaves p).Canon := .each h fun _ ht => .ite (.ite ht.pinFail ht.pinRefresh) ht
theorem State.Canon.pinPortUp (h : s.Canon) {p} : (s.pinPortUp p).Canon := .each h fun _ ht => .ite ht.pinRefresh ht
theorem State.Canon.pinRevert (h : s.Canon) {k} : (s.pinRevert k).Canon := by
  unfold State.pinRevert
  dsimp only
  refine .ite ?_ h.set
  exact .pinRefresh (.set (.set (by split; exacts [h, .upd (.each h fun _ ht => ht.setEthQ)])))
theorem State.Canon.sendEnd (h : s.Canon) {p} : (s.sendEnd p).Canon := by
  unfold State.sendEnd
  dsimp only
  split
  · exact h.upd.copyGone
  · exact h
theorem State.Canon.ethEnds (h : s.Canon) : s.ethEnds.Canon := .each h fun _ ht => .ite ht.sendEnd ht
theorem State.Canon.linkDown (h : s.Canon) {p cause} : (s.linkDown p cause).Canon :=
  .also h.ethSettle.set.set.set fun hs => hs.upd.sendEnd.set.inc.raiseC.pinPortLeaves
theorem State.Canon.linkUp (h : s.Canon) {n speed} : (s.linkUp n speed).Canon :=
  .also h.upd.ethSettle.set.set.set.wakeConfirm fun hs => hs.set.raiseC.pinPortUp.ethSettle
theorem State.Canon.csmaUp (h : s.Canon) {n} : (s.csmaUp n).Canon := .ite h.linkUp h
theorem State.Canon.portOff (h : s.Canon) {p} : (s.portOff p).Canon := .also h.ethSettle.flushPort.set.upd fun hs => hs.pinPortLeaves
theorem State.Canon.putFields (h : s.Canon) {fs v} : (s.putFields fs v).Canon := .each h fun _ ht => ht.set
theorem State.Canon.fdbInval (h : s.Canon) {key} : (s.fdbInval key).Canon := h.upd
theorem State.Canon.fdbUsed (h : s.Canon) {old new} : (s.fdbUsed old new).Canon := h.set
theorem State.Canon.fdbMirror (h : s.Canon) {i key data} : (s.fdbMirror i key data).Canon := .ite h.emit h
theorem State.Canon.fdbPut (h : s.Canon) {i key data} : (s.fdbPut i key data).Canon := h.fdbInval.fdbInval.set.set.putFields.fdbUsed.fdbMirror
theorem State.Canon.fdbRemove (h : s.Canon) {i} : (s.fdbRemove i).Canon := h.fdbInval.set.fdbUsed.fdbMirror
theorem State.Canon.fdbError (h : s.Canon) {c} : (s.fdbError c).Canon := h.set.set.raiseC
theorem State.Canon.fdbGo (h : s.Canon) {op} : (s.fdbGo op).Canon := .ite h.fdbError <| .ite h.set.set.fdbError (.set (.ite h.set.upd.emit h.set.upd))
theorem State.Canon.fdbRun (h : s.Canon) {c} : (s.fdbRun c).Canon := by
  unfold State.fdbRun
  dsimp only
  split
  · split
    · exact h.putFields
    · exact h.fdbError
  · split
    · exact h.fdbPut
    · split
      · exact h.fdbPut
      · split
        · exact h.fdbPut
        · exact h.fdbError
  · split
    · exact h.fdbRemove
    · exact h.fdbError
  · exact .each h fun _ ht => .ite ht.fdbRemove ht
  · exact h.upd
  · exact h
theorem State.Canon.fdbLookup (h : s.Canon) {key} : (s.fdbLookup key).1.Canon := by
  unfold State.fdbLookup
  dsimp only
  split
  · exact .iteFst h.draw h.draw.upd
  · exact h.upd
theorem State.Canon.ethLearn (h : s.Canon) {f} : (s.ethLearn f).Canon := by
  unfold State.ethLearn
  dsimp only
  refine .ite h ?_
  split
  · exact .ite h <| .ite h.fdbPut h.fdbPut.inc.raiseSum
  · split
    · exact h.fdbPut
    · exact h.inc.raiseSum
theorem State.Canon.meterChange {old : State} (h : s.Canon) (_h1 : old.Canon) {m} : (s.meterChange old m).Canon := h.upd
theorem State.Canon.meterColour (h : s.Canon) {m len c} : (s.meterColour m len c).1.Canon := h.upd
theorem State.Canon.frerTake (h : s.Canon) {r seq} : (s.frerTake r seq).1.Canon :=
  .iteFst h.upd.set <| .iteFst h <| .iteFst (.iteFst h h.upd.set) <| .iteFst h <| .iteFst h h.upd
theorem State.Canon.sample (h : s.Canon) {p tx f fate mask queue len head} : (s.sample p tx f fate mask queue len head).Canon :=
  .ite h (.unless (.ite h.upd.draw h.upd) fun hs => .ite hs.inc.raiseSum hs.upd)
theorem State.Canon.redPass (h : s.Canon) {p q c} : (s.redPass p q c).1.Canon := .iteFst h <| .iteFst h <| .iteFst h h.draw
theorem State.Canon.admitOne (h : s.Canon) {f q p} : (s.admitOne f q p).1.Canon :=
  .iteFst h <| .iteFst h <| .iteFst h.redPass <| .iteFst h.redPass h.redPass
theorem State.Canon.admitAll (h : s.Canon) {f q l} : (s.admitAll f q l).1.Canon := by
  induction l generalizing s with
  | nil => exact h
  | cons x l ih => exact ih h.admitOne
theorem State.Canon.refuseCopy (h : s.Canon) {p q why} : (s.refuseCopy p q why).Canon := by
  unfold State.refuseCopy
  split
  · exact h.inc
  · exact h.inc
  · exact h.inc.inc
  · exact h.inc.raiseSum
theorem State.Canon.enqueue (h : s.Canon) {id f q l} : (s.enqueue id f q l).1.Canon :=
  .iteFst (.each h fun _ ht => ht.refuseCopy) (.each (.setFree (.upd (.each h fun _ ht => ht.refuseCopy))) fun _ ht => ht.ethSettle.setEthQ)
theorem State.Canon.ethFinish (h : s.Canon) {id f0 q dests first} : (s.ethFinish id f0 q dests first).Canon :=
  .ite (.also h.admitAll.upd fun hs => hs.raiseSum) h.admitAll.enqueue.upd.ethLearn.sample
theorem State.Canon.andThen (h : r.s.Canon) {g : EthRun → EthRun} (hg : ∀ {q : EthRun}, q.s.Canon → (g q).s.Canon) : (r.andThen g).s.Canon :=
  .iteRun (hg h) h
theorem State.Canon.macRx (h : s.Canon) {p bs} : (s.macRx p bs).1.Canon := by
  unfold State.macRx
  dsimp only
  refine .iteFst h.fst ?_
  split
  · exact h.fst
  · refine .iteFst h.inc.fst ?_
    split
    · exact h.inc.fst
    · exact .iteFst h.fst <| .iteFst h.inc.fst <| .iteFst h.inc.fst h.set.fst
theorem State.Canon.vlan (h : r.s.Canon) {tci} : (EthRun.vlan tci r).s.Canon := .iteRun h <| .iteRun h.inc h
theorem State.Canon.drop (h : r.s.Canon) {i fate} : (r.drop i fate).s.Canon := h.inc
theorem State.Canon.filtSize (h : r.s.Canon) {i} : (EthRun.filtSize i r).s.Canon := .iteRun (.drop (.ite h.set.raiseC h)) <| .iteRun h.drop h
theorem State.Canon.filtGate (h : r.s.Canon) {i} : (EthRun.filtGate i r).s.Canon := .iteRun h <| .iteRun h (.drop (.ite h.inc.set.raiseC h.inc))
theorem State.Canon.filtMeter (h : r.s.Canon) {i} : (EthRun.filtMeter i r).s.Canon :=
  .iteRun h <| .iteRun (.iteRun h.meterColour.inc.raiseSum.drop h.meterColour.inc) <|
    .iteRun (.iteRun h.meterColour.inc.drop h.meterColour.inc) h.meterColour
theorem State.Canon.stream (h : r.s.Canon) : r.stream.s.Canon := by
  unfold EthRun.stream
  dsimp only
  split
  · exact h
  · exact .andThen (.andThen (.andThen h.inc fun ht => ht.filtSize) fun ht => ht.filtGate) fun ht => ht.filtMeter
theorem State.Canon.recover (h : r.s.Canon) : r.recover.s.Canon := by
  unfold EthRun.recover
  dsimp only
  split
  · exact .iteRun h.frerTake.inc <| .iteRun h.frerTake.inc.raiseSum h.frerTake
  · exact h
theorem State.Canon.generate (h : r.s.Canon) : r.generate.s.Canon := by
  unfold EthRun.generate
  split
  · exact h.addWrap
  · exact h
theorem State.Canon.ethDests (h : s.Canon) {f} : (s.ethDests f).1.Canon := .iteFst h h.fdbLookup
theorem State.Canon.ethRoute (h : s.Canon) {p at_ bs} : (s.ethRoute p at_ bs).Canon :=
  .ite (.sample (.andThen (.andThen (.andThen h fun ht => ht.vlan) fun ht => ht.stream) fun ht => ht.recover)) <|
    .ite (.sample (.ethLearn (.andThen (.andThen (.andThen h fun ht => ht.vlan) fun ht => ht.stream) fun ht => ht.recover))) <|
    .ite (.sample (.ethDests (.andThen (.andThen (.andThen h fun ht => ht.vlan) fun ht => ht.stream) fun ht => ht.recover))) (.ethFinish (.upd
    (.generate (.ethDests (.andThen (.andThen (.andThen h fun ht => ht.vlan) fun ht => ht.stream) fun ht => ht.recover)))))
theorem State.Canon.ethReceive (h : s.Canon) {p rx} : (s.ethReceive p rx).Canon := by
  unfold State.ethReceive
  dsimp only
  refine .ite h.addSat.inc.addWrap <| .ite (.addWrap (.inc (.ite h.addSat.wakeConfirm h.addSat))) ?_
  split
  · exact .macRx (.addWrap (.addWrap (.ite h.addSat.wakeConfirm h.addSat)))
  · exact .unless (.macRx (.addWrap (.addWrap (.ite h.addSat.wakeConfirm h.addSat)))) fun hs => hs.ethRoute
theorem State.Canon.macSend (h : s.Canon) {p a} : (s.macSend p a).Canon := .ite h.set.raiseC <| .ite h.set.raiseC h.set
theorem State.Canon.popQ (h : s.Canon) {p q} : (s.popQ p q).Canon := h.setEthQ
theorem State.Canon.ptpSend (h : s.Canon) {p m} : (s.ptpSend p m).Canon := h.upd.admitAll.enqueue
theorem State.Canon.ptpSent (h : s.Canon) {p m t} : (s.ptpSent p m t).Canon := by
  unfold State.ptpSent
  dsimp only
  split
  · split
    · exact h.ptpSend
    · exact h.ptpSend
  · exact h.upd
  · exact h.ptpSend
  · exact h
  · exact h
theorem State.Canon.ethOut (h : s.Canon) {p f bs t} : (s.ethOut p f bs t).Canon := by
  unfold State.ethOut
  dsimp only
  refine .ite h.upd ?_
  split
  · exact h.emit.ptpSent
  · exact h.emit
theorem State.Canon.ethStart (h : s.Canon) {p q c} : (s.ethStart p q c).Canon :=
  .ethOut (.sample (.ite (.upd (.upd (.addWrap (.addWrap (.popQ (.iteFst (by split; exacts [h.macSend, h]) h)))))) (.also (.upd (.addWrap (.addWrap
    (.popQ (.iteFst (by split; exacts [h.macSend, h]) h))))) fun hs => hs.upd)))
theorem State.Canon.ethSend (h : s.Canon) {ready n p} : (State.ethSend ready n s p).Canon := by
  induction n generalizing s with
  | zero => exact h
  | succ n ih =>
    unfold State.ethSend
    split
    · exact h
    · split
      · exact h
      · exact .ite h.ethStart <| .ite (ih h.popQ.copyGone.inc.inc.raiseSum) (ih h.popQ.copyGone.inc)
theorem State.Canon.execPortLinkDown (h : s.Canon) {p} : CanonOut (execPortLinkDown p s) := .ite h.next h.upd.linkDown.next
theorem State.Canon.execPortLinkUp (h : s.Canon) {p speed sqi} : CanonOut (execPortLinkUp p speed sqi s) :=
  .ite h.next <| .ite h.next h.set.linkUp.next
theorem State.Canon.execPortHoldExpiry (h : s.Canon) {p} : CanonOut (execPortHoldExpiry p s) := .ite h.next <| .ite h.flushPort.set.raiseC.next h.next
theorem State.Canon.execPortDisable (h : s.Canon) {p} : CanonOut (execPortDisable p s) := .ite h.next h.set.mirrored.portOff.next
theorem State.Canon.execPlcaBeaconTimeout (h : s.Canon) {p} : CanonOut (execPlcaBeaconTimeout p s) := .ite h.next <| .ite h.linkDown.next h.next
theorem State.Canon.execPlcaBeacon (h : s.Canon) {p} : CanonOut (execPlcaBeacon p s) :=
  .ite h.next <| .ite h.next <| .ite h.emit.next <| .ite h.next h.linkUp.next
theorem State.Canon.execGateEntryAdvance (h : s.Canon) {p} : CanonOut (execGateEntryAdvance p s) := .ite h.next h.ethSettle.next
theorem State.Canon.execGclChangeWrite (h : s.Canon) {p} : CanonOut (execGclChangeWrite p s) := .ite h.next <| .ite h.next h.mirrored.gateChange.next
theorem State.Canon.execGateListChange (h : s.Canon) {p} : CanonOut (execGateListChange p s) := .ite h.next h.ethSettle.gateApply.ethSettle.next
theorem State.Canon.execStreamGateChangeWrite (h : s.Canon) {g} : CanonOut (execStreamGateChangeWrite g s) := .ite h.next h.mirrored.sgateChange.next
theorem State.Canon.execStreamGateListChange (h : s.Canon) {g} : CanonOut (execStreamGateListChange g s) := h.sgateApply.next
theorem State.Canon.execStreamGateEntryAdvance (h : s.Canon) {_g} : CanonOut (execStreamGateEntryAdvance _g s) := h.next
theorem State.Canon.execFdbRead (h : s.Canon) : CanonOut (execFdbRead s) := h.fdbGo.next
theorem State.Canon.execFdbWrite (h : s.Canon) : CanonOut (execFdbWrite s) := h.fdbGo.next
theorem State.Canon.execFdbDelete (h : s.Canon) : CanonOut (execFdbDelete s) := h.fdbGo.next
theorem State.Canon.execFdbFlush (h : s.Canon) : CanonOut (execFdbFlush s) := h.fdbGo.next
theorem State.Canon.execFdbInvcache (h : s.Canon) : CanonOut (execFdbInvcache s) := h.fdbGo.next
theorem State.Canon.execFdbFence (h : s.Canon) : CanonOut (execFdbFence s) := h.fdbGo.next
theorem State.Canon.execFdbCommandComplete (h : s.Canon) : CanonOut (execFdbCommandComplete s) := by
  unfold Machine.execFdbCommandComplete
  dsimp only
  split
  · exact h.next
  · exact .ite h.fdbRun.upd.set.next h.next
theorem State.Canon.fdbWindow (h : s.Canon) {i w v} : (s.fdbWindow i w v).Canon :=
  .ite h.putFields.fdbUsed <| .ite h.set.fdbUsed.upd h.set.fdbUsed.upd.set.set
theorem State.Canon.execFdbWindowWrite (h : s.Canon) {i w v} : CanonOut (execFdbWindowWrite i w v s) := h.mirrored.fdbWindow.next
theorem State.Canon.execFdbCacheExpiry (h : s.Canon) {key} : CanonOut (execFdbCacheExpiry key s) := h.upd.next
theorem State.Canon.execFdbAgeSweep (h : s.Canon) : CanonOut (execFdbAgeSweep s) :=
  .ite h.next (.next (.each h fun _ ht => .ite (.ite ht.fdbRemove ht.inc) ht))
theorem State.Canon.execPinRevert (h : s.Canon) {k} : CanonOut (execPinRevert k s) := h.mirrored.pinRevert.next
theorem State.Canon.execPinRevertComplete (h : s.Canon) {k} : CanonOut (execPinRevertComplete k s) := .ite h.set.set.raiseC.next h.next
theorem State.Canon.execFrerRecoveryReset (h : s.Canon) {r} : CanonOut (execFrerRecoveryReset r s) := .ite h.upd.raiseC.next h.next
theorem State.Canon.execSampleRecordWrite (h : s.Canon) {parity} : CanonOut (execSampleRecordWrite parity s) := by
  unfold Machine.execSampleRecordWrite
  dsimp only
  split
  · exact h.next
  · refine .ite h.next ?_
    split
    · next e =>
        exact .next (.raiseC (.set (.fst_eq e h.fabWrite)))
    · next e =>
        exact .next (.setIf (.set (.upd (.fst_eq e h.fabWrite))))
theorem State.Canon.ignored {old : State} (_h : s.Canon) (h1 : old.Canon) : (s.ignored old).Canon := h1.upd
theorem State.Canon.eportWrite {old : State} (h : old.Canon) (h1 : s.Canon) {a v} : (eportWrite a v old s).Canon :=
  .unless (.ignored h1 h) fun hs => .ite (.ite h1.portOff <| .ite (.ite h1.set.pinPortUp h1.set.csmaUp) h1) <| .ite (.ite h1.linkDown h1.csmaUp) <|
    .ite h1.csmaUp <| .ite h1.set <| .ite (.each h1 fun _ ht => ht.set) <| .ite (.ite h1.gateChange.ethSettle h1.ethSettle) <| .ite hs <|
    .ite (.ite hs <| .ite h1.set <| .ite h1.set h1) h1
theorem State.Canon.eswWrite {old : State} (h : old.Canon) (h1 : s.Canon) {a v} : (eswWrite a v old s).Canon :=
  .ite (.eportWrite h h1) <| .ite h1.set <| .ite (.ite (.ite h.fdbError h1.fdbGo) h1) <|
    .ite (.ite (.pinRevert (.ite h1 h1.upd)) (.pinRefresh (.ite h1 h1.upd))) <| .ite (.ite h1.set.fdbUsed <| .ite h1.fdbUsed h1) <|
    .ite (.meterChange h1 h) <| .ite (.ite (.ite h1.sgateChange h1) <| .ite (.ignored h1 h) h1) h1
theorem State.Canon.eswBefore (h : s.Canon) {a} : (eswBefore a s).Canon := .ite h.ethSettle h
theorem State.Canon.eswReset (h : s.Canon) : s.eswReset.Canon := .each h.restoreBlock.restoreBlock.upd fun _ ht => ht.set

/-! ### Functions of Machine/Lin -/

theorem State.Canon.linFrame (h : s.Canon) {l f} : (s.linFrame l f).Canon := h.upd
theorem State.Canon.linRest (h : s.Canon) {l} : (s.linRest l).Canon := h.set
theorem State.Canon.linOut (h : s.Canon) {l id} : (s.linOut l id).Canon := .ite h.emit h
theorem State.Canon.linSleep (h : s.Canon) {l} : (s.linSleep l).Canon := .also h.upd.linOut.set fun hs => hs.emit
theorem State.Canon.linEnd (h : s.Canon) {l} : (s.linEnd l).Canon := .also h.linFrame.linRest fun hs => hs.linSleep
theorem State.Canon.linAfterHeader (h : s.Canon) {l id} : (s.linAfterHeader l id).Canon := .ite h.set.linFrame.set h.set.linEnd
theorem State.Canon.linError (h : s.Canon) {l id code} : (s.linError l id code).Canon := h.set.set.set.inc.raiseC.linEnd
theorem State.Canon.linStop (h : s.Canon) {l} : (s.linStop l).Canon := .ite h.upd h.upd.linRest
theorem State.Canon.linHeader (h : s.Canon) {l id} : (s.linHeader l id).Canon := h.linOut.linFrame.upd.set
theorem State.Canon.execLinSlotStart (h : s.Canon) {l} : CanonOut (execLinSlotStart l s) :=
  .ite h.next <| .ite h.linStop.next (.next (.linHeader (.set (.ite h.upd.addWrap h.upd))))
theorem State.Canon.execLinHeaderReceive (h : s.Canon) {l id div} : CanonOut (execLinHeaderReceive l id div s) :=
  .ite h.next <| .ite (.ite h.linAfterHeader.next h.next) <| .ite h.linAfterHeader.next h.set.inc.next
theorem State.Canon.linKeep (h : s.Canon) {l id bytes} : (s.linKeep l id bytes).Canon := h.upd
theorem State.Canon.execLinResponseComplete (h : s.Canon) {l bytes cks err} : CanonOut (execLinResponseComplete l bytes cks err s) := by
  unfold Machine.execLinResponseComplete
  dsimp only
  split
  · split
    · exact .ite h.linError.next h.next
    · exact h.next
  · exact .ite h.linError.next <| .ite h.next <| .ite h.linError.next (.next (.unless (.also (.linEnd (.addWrap (.linKeep
      (.ite h.emit h.set.set)))) fun hs => hs.raiseC) fun hs => hs.wakeConfirm))
theorem State.Canon.execLinResponseTimeout (h : s.Canon) {l got} : CanonOut (execLinResponseTimeout l got s) := by
  unfold Machine.execLinResponseTimeout
  split
  · exact h.next
  · exact .ite h.linError.next h.next
theorem State.Canon.linWake (h : s.Canon) {l} : (s.linWake l).Canon := .ite h.emit h
theorem State.Canon.execLinWakePulse (h : s.Canon) {l} : CanonOut (execLinWakePulse l s) := .ite h.next h.linWake.next
theorem State.Canon.execLinTxdTimeout (h : s.Canon) {l} : CanonOut (execLinTxdTimeout l s) := .ite h.next h.set.raiseC.next
theorem State.Canon.linWrite {old : State} (_h : old.Canon) (h1 : s.Canon) {a v} : (linWrite a v old s).Canon :=
  .ite (.ite (.unless (.ite h1.linWake h1) fun hs => hs.linRest) (.linStop (.linFrame (.ite h1.linWake h1)))) h1
theorem State.Canon.linReset (h : s.Canon) {l} : (s.linReset l).Canon := h.restoreBlock.upd

/-! ### Functions of Machine/Crs -/

theorem State.Canon.ringUpd (h : s.Canon) {bb g} : (s.ringUpd bb g).Canon := .ite h.upd h.upd
theorem State.Canon.setPres (h : s.Canon) {bb m} : (s.setPres bb m).Canon := .ite h.set h.set.set
theorem State.Canon.crsCan (h : s.Canon) {c src bytes} : (s.crsCan c src bytes).Canon := .ite h h.set.set.setBytes.set.canTxreq
theorem State.Canon.crsIn (h : s.Canon) {bs} : (s.crsIn bs).Canon := .ite h <| .ite h.upd h.ethReceive
theorem State.Canon.crsFlush (h : s.Canon) : s.crsFlush.Canon := .each h.upd fun _ ht => ht.crsIn
theorem State.Canon.crsEth (h : s.Canon) {bb bytes} : (s.crsEth bb bytes).Canon := h.crsIn
theorem State.Canon.crsObjects (h : s.Canon) {c} : (s.crsObjects c).Canon :=
  .ite h <| .set <| .set <| .set <| .set <| List.foldlRecOn _ _ h.set.set fun _ ht _ _ => ht.set.set.set.set
theorem State.Canon.crsSend (h : s.Canon) {bb bytes} : (s.crsSend bb bytes).Canon := .ite h.crsEth (.crsEth (.each h fun _ ht => ht.crsCan))
theorem State.Canon.keepMsg (h : s.Canon) {i consent} : (s.keepMsg i consent).Canon := .ite h.upd.set.set <| .ite h.upd <| .ite h.upd h
theorem State.Canon.keepEnd (h : s.Canon) {i t} : (s.keepEnd i t).Canon := h.set.set.raise
theorem State.Canon.bbKeep (h : s.Canon) {r consent kw wh} : (s.bbKeep r consent kw wh).Canon := .ite (.ite h.set.raise h) <| .ite h.set.set.set h.set
theorem State.Canon.setRun (h : s.Canon) {bb n} : (s.setRun bb n).Canon := .ite h.ringUpd h.ringUpd.set
theorem State.Canon.bbSolo (h : s.Canon) : s.bbSolo.Canon := .ite (.ite (.ite h h.set.raiseC) h.set) h
theorem State.Canon.ringCheck (h : s.Canon) {bb} : (s.ringCheck bb).Canon :=
  .unless (.ite h <| .ite (.ite h <| .ite h.set.raiseC h.set.raiseC) <| .ite h.set h.set) fun hs => hs.bbSolo
theorem State.Canon.endRound (h : s.Canon) {bb} : (s.endRound bb).Canon :=
  .ringCheck (.setRun (.ite h.set (.each h.set.upd fun _ ht => .ite ht.keepEnd ht)))
theorem State.Canon.startRound (h : s.Canon) {bb} : (s.startRound bb).Canon :=
  .unless (.ringUpd (.setPres (.each h fun _ ht => ht.raiseC))) fun hs => hs.setRun.ringCheck
theorem State.Canon.ringRecord (h : s.Canon) {bb i consent allc rep} : (s.ringRecord bb i consent allc rep).Canon :=
  .also (.ite h.ringUpd h.ringUpd.keepMsg) fun hs => hs.endRound
theorem State.Canon.enterPrepare (h : s.Canon) {bb} : (s.enterPrepare bb).Canon := .ite h.set.raiseC h.set.raiseC
theorem State.Canon.sendSleep (h : s.Canon) {bb} : (s.sendSleep bb).Canon := h.crsSend.enterPrepare
theorem State.Canon.ringAgain (h : s.Canon) {bb} : (s.ringAgain bb).Canon := .ite h.setRun.ringUpd.set h.setRun.ringUpd.set
theorem State.Canon.ringCancel (h : s.Canon) {bb g} : (s.ringCancel bb g).Canon :=
  .ite h.ringAgain (.bbSolo (.also h.ringAgain.raiseC fun hs => hs.crsSend.ringAgain))
theorem State.Canon.bbFollow (h : s.Canon) : s.bbFollow.Canon := .ite h.sendSleep <| .ite h h.crsSend.ringCancel
theorem State.Canon.sendRing (h : s.Canon) {bb} : (s.sendRing bb).Canon := h.crsSend.ringRecord
theorem State.Canon.ringRemove (h : s.Canon) {bb k} : (s.ringRemove bb k).Canon :=
  .bbSolo (.also (.ite h.setPres.raiseC.ringUpd.bbKeep (.also h.setPres.raiseC.ringUpd fun hs => hs.keepEnd)) fun hs => hs.endRound)
theorem State.Canon.sendAlive (h : s.Canon) {bb} : (s.sendAlive bb).Canon := .crsSend (.ite h.ringUpd.setPres.set h.ringUpd.setPres.set)
theorem State.Canon.carouselEnable (h : s.Canon) : s.carouselEnable.Canon := by
  unfold State.carouselEnable
  exact .also (.sendAlive (.each h.set fun _ ht => ht.crsObjects)) fun hs => hs.sendAlive
theorem State.Canon.consentWrite (h : s.Canon) {v} : (s.consentWrite v).Canon := .ite h.set.crsSend.keepMsg.ringCancel h.set
theorem State.Canon.ringAlive (h : s.Canon) {bb i} : (s.ringAlive bb i).Canon :=
  .ite h.ringUpd.ringCancel <| .ite h.ringUpd.setRun.ringCheck h.ringUpd
theorem State.Canon.ringLearn (h : s.Canon) {bb i round} : (s.ringLearn bb i round).Canon :=
  .ite (.ite h.ringUpd.setPres.set h.ringUpd.setPres.set) <| .ite h.ringUpd h.ringUpd.setPres.raiseC
theorem State.Canon.ringTake (h : s.Canon) {bb i round consent allc rep kw wh} : (s.ringTake bb i round consent allc rep kw wh).Canon :=
  .ite (.unless (.ite h.bbKeep h) fun hs => .ringCancel (.ite hs hs.keepMsg)) (.unless (.also
    (.ite h.bbKeep h) fun hs => hs.ringLearn) fun hs => .ringRecord (.unless (.ite hs hs.set.startRound) fun hs2 => hs2.setPres.raiseC.setRun))
theorem State.Canon.carouselTake (h : s.Canon) {bytes} : (s.carouselTake bytes).Canon :=
  .ite h <| .ite h.raiseC <| .ite h.ringAlive <| .ite (.ite (.also h.enterPrepare fun hs => hs.bbFollow) h) h.ringTake
theorem State.Canon.powerDownBegin (h : s.Canon) : s.powerDownBegin.Canon :=
  .each h.set fun _ ht => .also ht.set.linStop fun hs => .ite hs.upd hs.linSleep
theorem State.Canon.transceiversOff (h : s.Canon) : s.transceiversOff.Canon :=
  .each (.each (.each (.zoneLow (.raiseC (.each h.upd fun _ ht => ht.linEnd))) fun _ ht => ht.set.set.canTrx) fun _ ht => ht.set.set.linRest) fun _ ht => ht.linkDown
theorem State.Canon.execCarouselEnable (h : s.Canon) : CanonOut (execCarouselEnable s) := h.carouselEnable.next
theorem State.Canon.execCarouselMessageReceive (h : s.Canon) {bytes} : CanonOut (execCarouselMessageReceive bytes s) := h.carouselTake.next
theorem State.Canon.execCarouselRelay (h : s.Canon) {from_ bytes} : CanonOut (execCarouselRelay from_ bytes s) := by
  unfold Machine.execCarouselRelay
  dsimp only
  refine .ite h.next ?_
  split
  · exact .next (.crsEth (.each h fun _ ht => ht.crsCan))
  · exact .next (.each h fun _ ht => ht.crsCan)
theorem State.Canon.execCarouselSend (h : s.Canon) {bb} : CanonOut (execCarouselSend bb s) :=
  .ite h.next <| .ite (.next (.ite h.sendSleep.bbFollow h.sendSleep)) <| .ite h.addWrap.startRound.sendRing.next h.sendRing.next
theorem State.Canon.execCarouselSlotTimeout (h : s.Canon) {bb} : CanonOut (execCarouselSlotTimeout bb s) := .ite h.ringRemove.next h.next
theorem State.Canon.execCarouselFormTimeout (h : s.Canon) {bb} : CanonOut (execCarouselFormTimeout bb s) :=
  .ite (.next (.bbSolo (.sendRing (.ite h.setPres.ringUpd.set.set h.setPres.ringUpd.set.set.raiseC)))) h.next
theorem State.Canon.execConsentWrite (h : s.Canon) {v} : CanonOut (execConsentWrite v s) := h.consentWrite.next
theorem State.Canon.execKeeperLimit (h : s.Canon) {i} : CanonOut (execKeeperLimit i s) := .ite h.upd.raise.next h.next
theorem State.Canon.execPrepareExpiry (h : s.Canon) : CanonOut (execPrepareExpiry s) := .ite h.powerDownBegin.next h.next
theorem State.Canon.execSleepTransceiversOff (h : s.Canon) : CanonOut (execSleepTransceiversOff s) := .ite h.transceiversOff.next h.next
theorem State.Canon.falseWake (h : s.Canon) {b} : (s.falseWake b).Canon := .also h.set.inc.inc.raiseC fun hs => hs.set.raiseC
theorem State.Canon.execWakeWindowExpiry (h : s.Canon) : CanonOut (execWakeWindowExpiry s) :=
  .ite h.next (.next (.also (.upd (.each h fun _ ht => ht.falseWake)) fun hs => hs.powerDownBegin))
theorem State.Canon.ringOff (h : s.Canon) {bb} : (s.ringOff bb).Canon := h.ringUpd.setPres.set
theorem State.Canon.crsWrite {old : State} (_h : old.Canon) (h1 : s.Canon) {a v} : (crsWrite a v old s).Canon :=
  .ite (.ite h1.set.consentWrite.carouselEnable <| .ite h1.set.consentWrite.ringOff.ringOff <|
    .ite h1.set.consentWrite.sendAlive (.also h1.set.consentWrite fun hs => hs.ringOff)) <| .ite (.each h1 fun _ ht => ht.crsObjects) h1
theorem State.Canon.crsBefore (h : s.Canon) {a} : (crsBefore a s).Canon := .ite (.ite h.set h) h
theorem State.Canon.crsReset (h : s.Canon) : s.crsReset.Canon := .also h.restoreBlock.upd fun hs => hs.carouselEnable

end Sys2Proof.Machine
end

section
/-! PROOFS. Canonical memory, part 3 of 8: the mailbox, the cores, the pairs and the Tangram engines. One lemma per function of the model, in its order. -/

namespace Sys2Proof.Machine
open Sys2Proof

variable {s t : State} {r : EthRun}

/-! ### Functions of Machine/Mbx -/

theorem State.Canon.mbxClaim (h : s.Canon) {m r vi} : (s.mbxClaim m r vi).Canon := .ite h h.set.set.set.set.upd
theorem State.Canon.mbxClear (h : s.Canon) {m} : (s.mbxClear m).Canon := .each h fun _ ht => ht.set
theorem State.Canon.mbxQueue (h : s.Canon) {l} : (s.mbxQueue l).Canon := h.upd.set
theorem State.Canon.mbxGo (h : s.Canon) {m r op} : (s.mbxGo m r op).Canon := .ite h h.mbxClear.set.set.set.set.mbxQueue
theorem State.Canon.mbxFree (h : s.Canon) {m} : (s.mbxFree m).Canon :=
  .mbxQueue (.setIf (.upd (.each (.each h.mbxClear fun _ ht => ht.set) fun _ ht => ht.set)))
theorem State.Canon.mbxLeave (h : s.Canon) {m} : (s.mbxLeave m).Canon := .ite h.upd h.mbxFree
theorem State.Canon.mbxRelease (h : s.Canon) {m r} : (s.mbxRelease m r).Canon := .ite h.mbxLeave h
theorem State.Canon.mbxReclaim (h : s.Canon) {m why} : (s.mbxReclaim m why).Canon := .ite h h.mbxLeave.inc.raise
theorem State.Canon.mbxGenGone (h : s.Canon) {i} : (s.mbxGenGone i).Canon := .each h fun _ ht => ht.mbxReclaim
theorem State.Canon.mbxHartGone (hs : s.Canon) {h} : (s.mbxHartGone h).Canon := .each hs fun _ ht => ht.mbxReclaim
theorem State.Canon.execMbxClaim (h : s.Canon) {m r} : CanonOut (execMbxClaim m r s) := h.mbxClaim.next
theorem State.Canon.execMbxGo (h : s.Canon) {m r op} : CanonOut (execMbxGo m r op s) := h.mbxGo.next
theorem State.Canon.execMbxRelease (h : s.Canon) {m r} : CanonOut (execMbxRelease m r s) := h.mbxRelease.next
theorem State.Canon.execMbxReclaimTimeout (h : s.Canon) {m} : CanonOut (execMbxReclaimTimeout m s) := .ite h.mbxReclaim.next h.next
theorem State.Canon.fail (h : s.Canon) {e} : (CmdRes.fail s e).s.Canon := h
theorem State.Canon.takeUp {m op} (e : s.takeUp m op = some t) (h : s.Canon) : t.Canon := by
  unfold State.takeUp at e
  split at e <;> cases e
  exact h.mbxQueue.upd.set.set.set
theorem State.Canon.command (h : s.Canon) {m op mask inner recov} {body : State → CmdRes} (hb : ∀ {t}, t.Canon → (body t).s.Canon) :
    CanonOut (s.command m op mask inner recov body) := by
  unfold State.command
  split
  · exact h.next
  · next e => exact .next <| .upd <| .iteS (h.takeUp e) <| .iteS (h.takeUp e) (hb (h.takeUp e))
theorem State.Canon.mbxComplete (h : s.Canon) : s.mbxComplete.Canon := by
  unfold State.mbxComplete
  dsimp only
  split
  · exact .also (.raise (.set (.set (.set (.set (.each h.upd fun _ ht => ht.set)))))) fun hs => hs.mbxFree
  · exact h

/-! ### Functions of Machine/Hart -/

theorem State.Canon.coreSet (h : s.Canon) {c g} : (s.coreSet c g).Canon := h.upd
theorem State.Canon.pairSet (h : s.Canon) {n g} : (s.pairSet n g).Canon := h.upd
theorem State.Canon.wstat (h : s.Canon) {c} : (s.wstat c).Canon := .ite h <| .ite h h.set
theorem State.Canon.takeTrap (h : s.Canon) {c t} : (s.takeTrap c t).Canon :=
  .ite h.coreSet.wstat <| .ite h.coreSet.set.set.wstat <| .ite h.coreSet.set h.coreSet
theorem State.Canon.claim (h : s.Canon) {c inner} : (s.claim c inner).1.Canon := by
  unfold State.claim
  dsimp only
  refine .iteFst ?_ ?_
  · split
    · exact h
    · exact h.upd
  · refine .iteFst h ?_
    split
    · exact h
    · exact h.upd
theorem State.Canon.csrRead (h : s.Canon) {c n} : (s.csrRead c n).1.Canon := by
  unfold State.csrRead
  split
  · exact h.claim
  · exact h.claim
  · exact h.set
  · exact h
theorem State.Canon.csrWrite (h : s.Canon) {c n v} : (s.csrWrite c n v).Canon := by
  unfold State.csrWrite
  dsimp only
  split
  · exact h.set
  · exact h
  · exact h
  · exact .ite h.set.coreSet h.set
  · exact h.set
  · exact h.set
  · exact .ite h.set h
  · exact h.coreSet
theorem State.Canon.berr (h : s.Canon) {c inner addr} : (s.berr c inner addr).Canon := .ite h.inc h.set.set.set
theorem State.Canon.coreReset (h : s.Canon) {c} : (s.coreReset c).Canon := .coreSet (.each h.upd fun _ ht => ht.set)
theorem State.Canon.coreStart (h : s.Canon) {c pc a0 a1 a2} : (s.coreStart c pc a0 a1 a2).Canon := h.coreReset.coreSet.wstat

/-! ### Functions of Machine/Pair -/

theorem State.Canon.jocc (h : s.Canon) {n} : (s.jocc n).Canon := h.set.track
theorem State.Canon.ckBegin (h : s.Canon) {n} : (s.ckBegin n).Canon := .ite h <| .ite h.pairSet h.pairSet
theorem State.Canon.jrnAdd (h : s.Canon) {n e} : (s.jrnAdd n e).Canon := .also h.pairSet.jocc fun hs => hs.inc.ckBegin
theorem State.Canon.csrsLoad (h : s.Canon) {c l} : (s.csrsLoad c l).Canon := .each h fun _ ht => ht.set
theorem State.Canon.imageLoad (h : s.Canon) {c i} : (s.imageLoad c i).Canon := h.csrsLoad.coreSet
theorem State.Canon.pairFresh (h : s.Canon) {n} : (s.pairFresh n).Canon := h.imageLoad.pairSet.jocc.set.set
theorem State.Canon.ckCommit (h : s.Canon) {n} : (s.ckCommit n).Canon := by
  unfold State.ckCommit
  dsimp only
  split
  · exact h
  · exact .also h.pairSet.coreSet.coreSet.jocc.addWrap.set fun hs => hs.ckBegin
theorem State.Canon.pairHold (h : s.Canon) {n} : (s.pairHold n).Canon := h.coreReset.coreReset.pairSet.jocc.set
theorem State.Canon.escalate (h : s.Canon) {n cause} : (s.escalate n cause).Canon := h.pairHold.set.set.raiseC
theorem State.Canon.pairShow (h : s.Canon) {n} : (s.pairShow n).Canon := h.set
theorem State.Canon.mismatch (h : s.Canon) {n code} : (s.mismatch n code).Canon :=
  .ite h <| .ite h.pairSet.coreSet.coreSet.jocc.set.inc.set.set.raiseC.set.escalate
    (.also h.pairSet.coreSet.coreSet.jocc.set.inc.set.set.raiseC.set fun hs => hs.escalate)
theorem State.Canon.restoreDone (h : s.Canon) {n crcOk} : (s.restoreDone n crcOk).Canon := by
  unfold State.restoreDone
  dsimp only
  refine .ite h ?_
  split
  · exact h.escalate
  · exact .ite h.escalate h.imageLoad.imageLoad.pairSet.set
theorem State.Canon.dbgWrite (h : s.Canon) {c reg v} : (s.dbgWrite c reg v).Canon := .ite h.coreSet <| .ite h.coreSet <| .ite h.coreSet h.csrWrite
theorem State.Canon.dbgCatch (h : s.Canon) {m c} : (State.dbgCatch m s c).Canon := by
  induction m generalizing s with
  | zero => exact h
  | succ m ih =>
    unfold State.dbgCatch
    dsimp only
    split
    · exact h
    · refine .ite h ?_
      split
      · exact ih h.coreSet.dbgWrite
      · exact h.coreSet.coreSet
      · exact ih h.coreSet
theorem State.Canon.haltCheck (h : s.Canon) {n} : (s.haltCheck n).Canon := .ite h.dbgCatch.coreSet.set h
theorem State.Canon.dbgAdd (h : s.Canon) {n a} : (s.dbgAdd n a).Canon := h.pairSet.coreSet.set
theorem State.Canon.haltPair (h : s.Canon) {n} : (s.haltPair n).Canon := .ite h.emit h.dbgAdd.coreSet.wstat.haltCheck
theorem State.Canon.replayEnd (h : s.Canon) {n hashOk} : (s.replayEnd n hashOk).Canon :=
  .ite h <| .ite h.escalate (.also h.set.track.set.pairSet.raiseC fun hs => hs.haltPair)
theorem State.Canon.checkpoint (h : s.Canon) {n sigOk} : (s.checkpoint n sigOk).Canon := by
  unfold State.checkpoint
  dsimp only
  split
  · exact h.ckBegin
  · exact .ite h.ckBegin <| .ite h.ckBegin.mismatch h.ckBegin.pairSet
theorem State.Canon.soloBegin (h : s.Canon) {c} : (s.soloBegin c).Canon := h.pairSet.coreSet.set
theorem State.Canon.soloEnd (h : s.Canon) {c} : (s.soloEnd c).Canon := by
  unfold State.soloEnd
  dsimp only
  split
  · exact h
  · exact h.imageLoad.pairSet.set
theorem State.Canon.dbgDo (h : s.Canon) {c a} {g : State → Nat → State} (hg : ∀ {t} l, t.Canon → (g t l).Canon) : (s.dbgDo c a g).Canon := by
  unfold State.dbgDo
  split
  · exact h
  · exact .ite (.ite h.emit (hg _ h.dbgAdd)) (hg _ h)
theorem State.Canon.execDebugHalt (h : s.Canon) {c} : CanonOut (execDebugHalt c s) :=
  .ite h.next <| .ite h.next <| .ite (.ite h.next <| .ite h.pairSet.next h.haltPair.next) h.coreSet.wstat.next
theorem State.Canon.execDebugResume (h : s.Canon) {c} : CanonOut (execDebugResume c s) :=
  .ite (.next (.dbgDo h fun _ ht => .also ht.coreSet.wstat fun hs => .ite hs.coreSet.set hs.coreSet)) h.next
theorem State.Canon.execDebugStep (h : s.Canon) {c} : CanonOut (execDebugStep c s) := by
  unfold Machine.execDebugStep
  dsimp only
  split
  · exact h.next
  · exact .ite (.next (.dbgDo h fun _ ht => .ite (.also ht.coreSet.coreSet fun hs => hs.set) ht.coreSet)) h.next
theorem State.Canon.execDebugAbstractWrite (h : s.Canon) {c reg value} : CanonOut (execDebugAbstractWrite c reg value s) := by
  unfold Machine.execDebugAbstractWrite
  dsimp only
  split
  · exact h.next
  · exact .ite (.ite (.next (.coreSet (.dbgWrite (.dbgDo h fun _ ht => ht.dbgWrite)))) (.next (.dbgDo h fun _ ht => ht.dbgWrite))) h.next
theorem State.Canon.execPairLagTimeout (h : s.Canon) {n} : CanonOut (execPairLagTimeout n s) := .ite h.mismatch.next h.next
theorem State.Canon.execCheckpoint (h : s.Canon) {n sigOk} : CanonOut (execCheckpoint n sigOk s) := .ite h.next h.checkpoint.next
theorem State.Canon.execCheckpointCommit (h : s.Canon) {n} : CanonOut (execCheckpointCommit n s) := h.ckCommit.next
theorem State.Canon.execPairRestoreDone (h : s.Canon) {n crcOk} : CanonOut (execPairRestoreDone n crcOk s) := h.restoreDone.next
theorem State.Canon.execPairReplayEnd (h : s.Canon) {n hashOk} : CanonOut (execPairReplayEnd n hashOk s) := h.replayEnd.next

/-! ### Functions of Machine/Pwm -/

theorem State.Canon.pwmUpd (h : s.Canon) {j f} : (s.pwmUpd j f).Canon := h.upd
theorem State.Canon.pwmFree (h : s.Canon) {j o} : (s.pwmFree j o).Canon := .ite h.pwmUpd <| .ite h.pwmUpd h
theorem State.Canon.blankOpen (h : s.Canon) {j o} : (s.blankOpen j o).Canon := .each h fun _ ht => .ite ht.upd ht
theorem State.Canon.pwmBall (h : s.Canon) {j o old v} : (s.pwmBall j o old v).Canon := .ite h (.also h.pwmUpd.emit fun hs => hs.follow.blankOpen)
theorem State.Canon.pwmDrive {s0 : State} (h : s0.Canon) {j} : (s0.pwmDrive j).Canon :=
  .also (.pwmBall (.unless h.pwmFree.pwmFree fun hs => hs.pwmBall)) fun hs => hs.pwmBall
theorem State.Canon.pwmClash (h : s.Canon) {j o} : (s.pwmClash j o).Canon :=
  .ite h <| .ite (.ite (.ite h.inc.pwmUpd h) <| .ite h.pwmUpd <| .ite h.inc.pwmUpd h) <| .ite h.inc.pwmUpd h
theorem State.Canon.pwmClashes (h : s.Canon) {j} : (s.pwmClashes j).Canon := h.pwmClash.pwmClash
theorem State.Canon.pwmTrip (h : s.Canon) {j c} : (s.pwmTrip j c).Canon :=
  .ite h.pwmUpd <| .ite (.ite h.set.set.raiseC h) (.pwmDrive (.raiseC (.pwmUpd (.ite h.set.set.setBit.set h.set.set.setBit.set))))
theorem State.Canon.tripAll (h : s.Canon) {c} : (s.tripAll c).Canon := .each h fun _ ht => .ite ht.pwmTrip ht
theorem State.Canon.pwmRescan (h : s.Canon) {j} : (s.pwmRescan j).Canon := by
  unfold State.pwmRescan
  split
  · exact h.pwmTrip
  · exact h
theorem State.Canon.pwmTripEnd (h : s.Canon) {j} : (s.pwmTripEnd j).Canon :=
  .ite h.set.setBit.pwmUpd <| .ite (.ite h.pwmUpd.set.setBit.pwmUpd h.pwmUpd) h
theorem State.Canon.execPwmSwtrip (h : s.Canon) {j} : CanonOut (execPwmSwtrip j s) := .ite h.next h.pwmTrip.next
theorem State.Canon.pwmGtrip (h : s.Canon) : s.pwmGtrip.Canon := .each h fun _ ht => .ite ht.pwmTrip ht
theorem State.Canon.execPwmGtrip (h : s.Canon) : CanonOut (execPwmGtrip s) := h.pwmGtrip.next
theorem State.Canon.pwmTripclr (h : s.Canon) {j} : (s.pwmTripclr j).Canon := .ite h.pwmUpd h
theorem State.Canon.execPwmTripclr (h : s.Canon) {j} : CanonOut (execPwmTripclr j s) := .ite h.next h.pwmTripclr.next
theorem State.Canon.execExternalTripBallChange (h : s.Canon) {i level} : CanonOut (execExternalTripBallChange i level s) :=
  .ite h.upd.tripAll.next h.upd.next
theorem State.Canon.execRefMonitorCompare (h : s.Canon) {dev} : CanonOut (execRefMonitorCompare dev s) :=
  .ite h.upd.setS.set.set.raise.tripAll.next h.upd.setS.set.next
theorem State.Canon.execRefMismatchClear (h : s.Canon) : CanonOut (execRefMismatchClear s) := .ite h.next h.set.next
theorem State.Canon.cmpUpd (h : s.Canon) {k f} : (s.cmpUpd k f).Canon := h.upd
theorem State.Canon.cmpOut (h : s.Canon) {k v} : (s.cmpOut k v).Canon := .ite h h.set.follow
theorem State.Canon.cmpLine (h : s.Canon) {k} : (s.cmpLine k).Canon := .ite h <| .ite h.cmpOut.inc.set.raise.tripAll <| .ite h.cmpOut h
theorem State.Canon.execComparatorTrip (h : s.Canon) {k v} : CanonOut (execComparatorTrip k v s) :=
  .ite h.next <| .ite h.set.cmpUpd.cmpLine.next h.next
theorem State.Canon.execComparatorRelease (h : s.Canon) {k v} : CanonOut (execComparatorRelease k v s) :=
  .ite h.next <| .ite (.ite h.set.cmpUpd.cmpLine.next h.cmpUpd.next) h.next
theorem State.Canon.execBlankingEnd (h : s.Canon) {k} : CanonOut (execBlankingEnd k s) := .ite h.next h.cmpUpd.cmpLine.next
theorem State.Canon.cmpOff (h : s.Canon) {k} : (s.cmpOff k).Canon := .ite h h.set.cmpOut.cmpUpd
theorem State.Canon.pwmRise (h : s.Canon) {j o} : (s.pwmRise j o).Canon := .ite h <| .ite h.pwmUpd.inc.pwmUpd h.pwmUpd
theorem State.Canon.pwmFall (h : s.Canon) {j o} : (s.pwmFall j o).Canon := h.pwmUpd
theorem State.Canon.pwmTakeEdge (h : s.Canon) {j o rise} : (s.pwmTakeEdge j o rise).Canon :=
  .ite h.pwmUpd.inc <| .ite h.pwmUpd.pwmRise h.pwmUpd.pwmFall
theorem State.Canon.pwmDeadEnd (h : s.Canon) {j o} : (s.pwmDeadEnd j o).Canon := .ite (.ite h.pwmBall h) <| .ite h.pwmUpd.pwmDrive h
theorem State.Canon.execPwmEdge (h : s.Canon) {j outB rise dead} : CanonOut (execPwmEdge j outB rise dead s) := by
  unfold Machine.execPwmEdge
  dsimp only
  refine .ite (.ite h.pwmDeadEnd.next h.next) ?_
  split
  · exact .ite h.pwmUpd.pwmTakeEdge.pwmDrive.next h.next
  · exact h.next
theorem State.Canon.pwmCommit (h : s.Canon) {j} : (s.pwmCommit j).Canon := h.pwmUpd.set
theorem State.Canon.execPwmCommit (h : s.Canon) {j} : CanonOut (execPwmCommit j s) := .ite h.next h.pwmCommit.next
theorem State.Canon.pwmLoad (h : s.Canon) {j} : (s.pwmLoad j).Canon := by
  unfold State.pwmLoad
  dsimp only
  split
  · exact h.pwmUpd.set.set.set.set.set.set.set
  · exact h
theorem State.Canon.pwmLoadAt (h : s.Canon) {j mid settled} : (s.pwmLoadAt j mid settled).Canon := .ite h.pwmLoad h
theorem State.Canon.pwmLateEdges (h : s.Canon) {j c} : (s.pwmLateEdges j c).Canon := .each h fun _ ht => ht.inc.pwmTakeEdge
theorem State.Canon.pwmReload (h : s.Canon) {c j o} : (State.pwmReload c j s o).Canon := .pwmUpd (.ite h.setIf <| .ite (.ite h h.pwmRise) h.pwmFall)
theorem State.Canon.pwmStart (h : s.Canon) {j c} : (s.pwmStart j c).Canon :=
  .ite h.pwmUpd.pwmTripEnd.follow.pwmDrive (.pwmDrive (.also h.pwmUpd.pwmTripEnd.follow.pwmReload.pwmReload fun hs => hs.pwmClashes))
theorem State.Canon.pwmReplan (h : s.Canon) {j c} : (s.pwmReplan j c).Canon := .ite h.pwmLateEdges.pwmStart h.pwmLateEdges.pwmDrive
theorem State.Canon.pwmSyncErr (h : s.Canon) {j} : (s.pwmSyncErr j).Canon := h.inc.raiseC
theorem State.Canon.execPwmPeriodStart (h : s.Canon) {j settled} : CanonOut (execPwmPeriodStart j settled s) :=
  .ite h.next (.next (.pwmStart (.pwmLoadAt (.ite h.pwmSyncErr h))))
theorem State.Canon.execPwmMidPeriod (h : s.Canon) {j settled} : CanonOut (execPwmMidPeriod j settled s) :=
  .ite h.next <| .ite (.ite h.pwmUpd.follow.pwmLoad.next h.pwmUpd.follow.pwmLoad.pwmReplan.next) h.pwmUpd.follow.next
theorem State.Canon.execPwmSetLoad (h : s.Canon) {j c} : CanonOut (execPwmSetLoad j c s) :=
  .ite h.next <| .ite h.pwmUpd.pwmLoad.pwmReplan.next h.pwmLoad.next
theorem State.Canon.execPwmSync {s0 : State} (h : s0.Canon) {j c settled} : CanonOut (execPwmSync j c settled s0) := by
  unfold Machine.execPwmSync
  dsimp only
  split
  · exact h.next
  · next e =>
      exact .ite (.next (.arrive e h)) (.next (.pwmStart (.pwmLoadAt (.pwmUpd (.ite (.pwmSyncErr (.arrive e h)) (.arrive e h))))))
theorem State.Canon.pwmEnable (h : s.Canon) {j was settled} : (s.pwmEnable j was settled).Canon :=
  .ite h.pwmLoadAt.set.pwmUpd.pwmStart <| .ite h.set.pwmUpd.pwmDrive h
theorem State.Canon.pwmEnabled (h : s.Canon) {j was settled} : (s.pwmEnabled j was settled).Canon := .ite h.pwmEnable.pwmRescan h.pwmEnable
theorem State.Canon.execPwmEnableWrite (h : s.Canon) {j en settled} : CanonOut (execPwmEnableWrite j en settled s) :=
  .ite h.next h.set.pwmEnabled.next
theorem State.Canon.execPwmForceWrite (h : s.Canon) {j forceA forceB} : CanonOut (execPwmForceWrite j forceA forceB s) :=
  .ite h.next (.next (.pwmDrive (.ite h.set.set.pwmClashes h.set.set)))
theorem State.Canon.sdfUpd (h : s.Canon) {m f} : (s.sdfUpd m f).Canon := h.upd
theorem State.Canon.sdfClockOff (h : s.Canon) {m} : (s.sdfClockOff m).Canon := .ite h.emit h
theorem State.Canon.convWrite {old : State} (_h : old.Canon) (h1 : s.Canon) {a v} : (convWrite a v old s).Canon :=
  .ite (.ite (.also (.ite h1.adcFreerun h1) fun hs => hs.adcStartWrite) h1) <|
    .ite (.ite (.also (.each h1 fun _ ht => ht.grpConflict) fun hs => hs.grpStart) h1) <| .ite h1.set <|
    .ite (.ite (.also (.also (.pwmDrive (.also h1.pwmEnabled fun hs => hs.pwmClashes)) fun hs => hs.pwmTrip) fun hs => hs.pwmTripclr) <|
    .ite (.ite h1.pwmCommit h1) <| .ite h1.pwmRescan.pwmDrive h1) <| .ite (.ite h1.pwmGtrip h1) <| .ite (.ite h1.cmpOff h1) <|
    .ite (.ite h1.emit <| .ite h1.emit h1) <| .ite (.unless (.unless (.ite h1.sdfUpd <|
    .ite h1.sdfUpd h1) fun hs => hs.emit) fun hs => hs.set.set.sdfUpd) h1
theorem convWrite_keeps : WriteHook.Keeps convWrite := fun _ _ _ _ h h1 => h.convWrite h1
theorem State.Canon.convBefore (h : s.Canon) {a} : (convBefore a s).Canon := .ite (.ite h.set.pwmUpd.draw h.set) h
theorem State.Canon.convAfter (h : s.Canon) {a} : (convAfter a s).Canon := .ite h.sdfUpd h

theorem convRead_keeps : ReadHook.Keeps convRead := fun _ _ h => ⟨h.convBefore, h.convAfter⟩

/-! ### Functions of Machine/Slice -/

theorem State.Canon.sliceOver (h : s.Canon) {u st} : (s.sliceOver u st).Canon := h.set.set
theorem State.Canon.sliceAbort (h : s.Canon) {u} : (s.sliceAbort u).Canon := .ite h.sliceOver.inc.raiseSum h
theorem State.Canon.tgSlicesAbort (h : s.Canon) {e} : (s.tgSlicesAbort e).Canon := h.sliceAbort.sliceAbort

/-! ### Functions of Machine/Tangram -/

theorem State.Canon.tgPendBit (h : s.Canon) {e} : (s.tgPendBit e).Canon := h.set
theorem State.Canon.tgRepair (h : s.Canon) {base e a odd} : (State.tgRepair base e a odd s).Canon := .ite h.store h.store
theorem State.Canon.tgFinish (h : s.Canon) {e} : (s.tgFinish e).Canon :=
  .set (.unless (.upd (.each h.track.tgSet fun _ ht => ht.set)) fun hs => .each hs fun _ ht => ht.dmemFlush)
theorem State.Canon.tgOccur (h : s.Canon) {e sl stampNs} : (s.tgOccur e sl stampNs).Canon := .ite h <| .ite h.inc.inc.raise h.tgSet.tgPendBit
theorem State.Canon.tgCount (h : s.Canon) {e sl stampNs} : (s.tgCount e sl stampNs).Canon := .ite h <| .ite h.tgSet h.tgSet.tgOccur
theorem State.Canon.execTgOccurrence (h : s.Canon) {e sl} : CanonOut (execTgOccurrence e sl s) := by
  unfold Machine.execTgOccurrence
  split
  · next e =>
      exact .next (.tgCount (.arrive e h))
  · exact h.next
theorem State.Canon.tgSwdisp (h : s.Canon) {e sl} : (s.tgSwdisp e sl).Canon := .ite h.tgOccur h
theorem State.Canon.execTgSwdisp (h : s.Canon) {e sl} : CanonOut (execTgSwdisp e sl s) := .ite h.next h.tgSwdisp.next
theorem State.Canon.execTgDispatch (h : s.Canon) {e} : CanonOut (execTgDispatch e s) := by
  unfold Machine.execTgDispatch
  dsimp only
  refine .ite h.next ?_
  split
  · exact h.next
  · exact .next (.tgPendBit (.each (.tgSet (.each h fun _ ht => ht.dmemFlush)) fun _ ht => ht.set.set))
theorem State.Canon.tgUndo (h : s.Canon) {e} : (s.tgUndo e).Canon :=
  List.foldlRecOn _ _ h fun _ ht _ _ => .each ht fun _ hu => hu.store
theorem State.Canon.tgEscalate (h : s.Canon) {e cause} : (s.tgEscalate e cause).Canon :=
  .viEscalation (.raise (.also (.each h.tgSlicesAbort.tgFinish.set.tgSet.tgPendBit fun _ ht => ht.pwmTrip) fun hs => hs.twinReport))
theorem State.Canon.tgMismatch (h : s.Canon) {e c} {fix : State → State} (hf : ∀ {t}, t.Canon → (fix t).Canon) : (s.tgMismatch e c fix).Canon :=
  have hu := hf h.inc.set.raise.tgUndo
  .ite hu.tgSet.tgEscalate <| .ite hu.tgSet.tgEscalate hu.tgSet.tgSet.set
theorem State.Canon.laneAlive (h : s.Canon) : s.laneAlive.Canon := h.upd
theorem State.Canon.tgSend (h : s.Canon) {l o} : (State.tgSend l s o).Canon := by
  unfold State.tgSend
  split
  · exact .ite (.write4 h.laneAlive convWrite_keeps) h.laneAlive
  · exact h.raise
theorem State.Canon.tgRelease (h : s.Canon) {e} : (s.tgRelease e).Canon := .tgFinish (.addWrap (.each h fun _ ht => ht.tgSend))
theorem State.Canon.execTgSeal (h : s.Canon) {e cmp} : CanonOut (execTgSeal e cmp s) := by
  unfold Machine.execTgSeal
  refine .ite h.next <| .ite h.tgRelease.next ?_
  split
  · exact h.tgRelease.next
  · exact .next <| h.tgMismatch id
  · exact .next <| h.tgMismatch id
theorem State.Canon.execTgSkewTimeout (h : s.Canon) {e} : CanonOut (execTgSkewTimeout e s) := .ite (.next <| h.tgMismatch id) h.next
theorem State.Canon.execTgDeadlineExpiry (h : s.Canon) {e} : CanonOut (execTgDeadlineExpiry e s) := .ite h.set.tgFault.tgFinish.next h.next
theorem State.Canon.tgDoubleFault (h : s.Canon) {e code epc} : (s.tgDoubleFault e code epc).Canon := h.set.tgFault.tgFinish
theorem State.Canon.tgCause (h : s.Canon) {e code epc ds shadow loopEnd lvl} : (s.tgCause e code epc ds shadow loopEnd lvl).Canon :=
  h.set.set.set.set.set.set
theorem State.Canon.tgEnter (h : s.Canon) {e code eval epc tgt shadow lvl} : (s.tgEnter e code eval epc tgt shadow lvl).Canon :=
  .ite h.tgDoubleFault h.tgSet.tgCause.set.tgFault
theorem State.Canon.tgBoundary (h : s.Canon) {e} : (s.tgBoundary e).Canon := .ite h.tgSet.draw.tgEnter h
theorem State.Canon.tgTrap (h : s.Canon) {e code eval} : (s.tgTrap e code eval).Canon := by
  unfold State.tgTrap
  dsimp only
  split
  · exact h.tgEnter.tgBoundary
  · exact h.tgEnter.tgBoundary
theorem State.Canon.tgNext (h : s.Canon) {e cost shadow} : (s.tgNext e cost shadow).Canon := h.tgSet.tgBoundary
theorem State.Canon.tgRetire {r : TgRes} (h : r.st.Canon) {e cost} : (State.tgRetire e cost r).Canon := by
  unfold State.tgRetire
  split
  · next e =>
      exact h.tgNext
  · next e =>
      exact h.tgNext
  · next e =>
      exact h.tgSet.tgBoundary
  · next e =>
      exact h.tgSet.tgBoundary
  · next e =>
      exact h.tgSet
  · next e =>
      exact h.tgTrap
  · next e =>
      exact h
theorem State.Canon.tgCorrected (h : s.Canon) {e c} : (s.tgCorrected e c).Canon := by
  unfold State.tgCorrected
  split
  · exact h.inc
  · exact h
theorem State.Canon.tgIssue (h : s.Canon) {x w cost k} {body : State → TgRes} (hb : ∀ {t}, t.Canon → (body t).st.Canon) :
    CanonOut (State.tgIssue x w cost k body s) := by
  unfold State.tgIssue
  refine .ite h.next ?_
  split
  · exact .next <| h.tgMismatch fun ht => ht.tgRepair
  · exact .next h.tgTrap
  · have hc {c} : (s.tgCorrected x.e c).Canon := h.tgCorrected
    exact .ite hc.tgTrap.next <| .ite h.next <| .ite hc.tgTrap.next <| .ite hc.tgTrap.next (hb hc).tgRetire.next
theorem State.Canon.tgAlu (h : s.Canon) {x w cost f} : CanonOut (State.tgAlu x w cost f s) := h.tgIssue (fun ht => ht.tgSet)
theorem State.Canon.tgDmemEcc (h : s.Canon) {e a c} {k : State → TgRes} (hk : ∀ {t}, t.Canon → (k t).st.Canon) : (s.tgDmemEcc e a c k).st.Canon := by
  unfold State.tgDmemEcc
  split
  · exact h.tgMismatch fun ht => ht.tgRepair
  · exact h
  · exact hk h.tgCorrected
theorem State.Canon.tgStore (h : s.Canon) {e parts} : (s.tgStore e parts).st.Canon :=
  .iteSt h <| List.foldlRecOn parts _ (motive := State.Canon) h fun _ ht _ _ => .each (.ite ht.tgSet ht) fun _ hu => hu.store
theorem State.Canon.tgPut (h : s.Canon) {e l} : (s.tgPut e l).st.Canon := .iteSt h.atTrap h.tgSet.atOk
theorem State.Canon.tgLane (h : s.Canon) {e a ac page} {k : State → TgRes} (hk : ∀ {t}, t.Canon → (k t).st.Canon) : (s.tgLane e a ac page k).st.Canon := by
  unfold State.tgLane
  refine .iteSt h <| .iteSt h ?_
  split
  · next e => exact h.checkReq e
  · exact hk h
theorem State.Canon.tgLdc (h : s.Canon) {e a parity} : (s.tgLdc e a parity).2.Canon := by
  unfold State.tgLdc
  dsimp only
  split
  · exact h.tgSet.snd
  · exact .iteSnd h.laneAlive.parityError.snd <| .iteSnd (.snd (.parityError (.regRead h.laneAlive convRead_keeps))) (.snd (.tgSet
      (.regRead h.laneAlive convRead_keeps)))
theorem State.Canon.tgSetSr (h : s.Canon) {e sr v} : (s.tgSetSr e sr v).Canon := by
  unfold State.tgSetSr
  split
  · exact h.set
  · exact h.tgCause
  · exact h.tgSet
  · exact h.tgSet
  · exact h.tgSet
  · exact h.tgSet
  · exact h.tgSet
  · exact h.tgSet
  · exact h.tgSet
  · exact h.tgSet
  · exact h.tgSet
  · exact h.tgSet
  · exact h.tgSet
  · exact h.tgSet
  · exact h
theorem State.Canon.execTgDmemWrite (h : s.Canon) {e off size v} : CanonOut (execTgDmemWrite e off size v s) :=
  .ite h.next <| .ite h.tgFabricDmem.next h.next
theorem State.Canon.tgPairWrite (h : s.Canon) {e pair} : (s.tgPairWrite e pair).Canon := .ite h <| .ite h <| .ite h.set.set h.tgSlicesAbort.set
theorem State.Canon.execTgPairWrite (h : s.Canon) {e pair} : CanonOut (execTgPairWrite e pair s) := .ite h.next h.tgPairWrite.next
theorem State.Canon.execTgPairSyncDone (h : s.Canon) {e} : CanonOut (execTgPairSyncDone e s) :=
  .ite (.next <| .set ⟨copyWindow_wf _ _ _ _ h.wf⟩) h.next
theorem State.Canon.tgMoveGo (h : s.Canon) {e d} : (s.tgMoveGo e d).Canon := by
  unfold State.tgMoveGo
  refine .ite h ?_
  split
  · exact h.set.set.set.raise
  · exact h.tgSlicesAbort.set
theorem State.Canon.execTgMoveGo (h : s.Canon) {e dest} : CanonOut (execTgMoveGo e dest s) := .ite h.next <| .ite h.next h.set.tgMoveGo.next
theorem State.Canon.execTgMoveFreeze (h : s.Canon) {e} : CanonOut (execTgMoveFreeze e s) := .ite h.set.next h.next
theorem State.Canon.tgCopyTo (h : s.Canon) {base len p} : (State.tgCopyTo base len s p).Canon :=
  .upd (.each (.each h.upd fun _ ht => ht.store) fun _ ht => ht.dmemIn)
theorem State.Canon.tgCopySlot (h : s.Canon) {e d k} : (State.tgCopySlot e d s k).Canon := h.set.set.set.set.set.set.set.set.set
theorem State.Canon.execTgMoveComplete (h : s.Canon) {e} : CanonOut (execTgMoveComplete e s) :=
  .ite h.next (.next (.raise (.set (.set (.set (.tgPendBit (.tgPendBit (.tgSet (.tgSet (.set (.set (.set (.each
    (.each h fun _ ht => ht.tgCopyTo) fun _ ht => ht.tgCopySlot)))))))))))))
theorem State.Canon.tgFwdClear (h : s.Canon) {e} : (s.tgFwdClear e).Canon := h.set.set
theorem State.Canon.execTgMoveFwdClear (h : s.Canon) {e} : CanonOut (execTgMoveFwdClear e s) := .ite h.next <| .ite h.tgFwdClear.next h.next
theorem State.Canon.tgReset1 (h : s.Canon) {e} : (s.tgReset1 e).Canon := h.upd.restoreBlock
theorem State.Canon.tgReset (h : s.Canon) {e} : (s.tgReset e).Canon := .ite h.tgSlicesAbort.tgReset1.tgReset1 h.tgSlicesAbort.tgReset1
theorem State.Canon.tgWrite {old : State} (h : old.Canon) (h1 : s.Canon) {a v} : (tgWrite a v old s).Canon :=
  .ite h <| .ite (.each h1 fun _ ht => ht.tgSwdisp) <| .ite (.ite h h1.set.tgPairWrite) <| .ite (.also (.setIf (.set (.ite h1.set <|
    .ite h1.set h1.tgFwdClear))) fun hs => hs.tgMoveGo) <| .ite (.ite h1.tgSet h1) h1

end Sys2Proof.Machine
end

section
/-! PROOFS. Canonical memory, part 4 of 8: boot, the global time base, the gateway and PCIe. One lemma per function of the model, in its order. -/

namespace Sys2Proof.Machine
open Sys2Proof

variable {s t : State} {r : EthRun}

/-! ### Functions of Machine/Boot -/

theorem State.Canon.recWrite (h : s.Canon) {b k words seq} : (s.recWrite b k words seq).Canon := h.setBytes
theorem State.Canon.recCommit (h : s.Canon) {b words} : (s.recCommit b words).Canon := h.recWrite.recWrite
theorem State.Canon.measExtend (h : s.Canon) {k d} : (s.measExtend k d).Canon := h.upd
theorem State.Canon.measBoot (h : s.Canon) {b} : (s.measBoot b).Canon := .each h.upd.measExtend.measExtend.measExtend fun _ ht => ht.measExtend
theorem State.Canon.cfgReg (h : s.Canon) {a v} : (s.cfgReg a v).Canon := by
  unfold State.cfgReg
  split
  · exact .each h fun _ ht => ht.set
  · exact h
theorem State.Canon.cfgRoute (h : s.Canon) {n} : (s.cfgRoute n).Canon := .ite h.set h
theorem State.Canon.cfgCan (h : s.Canon) : s.cfgCan.Canon :=
  .also (.each (.each h fun _ ht => ht.set.set.set) fun _ ht => .ite
    (.each ht fun _ hu => hu.set.set.set) ht) fun hs => .each hs fun _ ht => ht.set.set
theorem State.Canon.vcoreFollow (h : s.Canon) : s.vcoreFollow.Canon := .set (.ite h.upd h.upd)
theorem State.Canon.domainsUp (h : s.Canon) : s.domainsUp.Canon :=
  .set (.also (.each h fun _ ht => .ite ht ht.zero) fun hs => .each hs fun _ ht => ht.pwmBall.pwmBall)
theorem State.Canon.islands (h : s.Canon) : s.islands.Canon := h.set
theorem State.Canon.cfgApply (h : s.Canon) : s.cfgApply.Canon :=
  .each (.each (.vcoreFollow (.cfgCan (.each (.each h fun _ ht => ht.cfgReg) fun _ ht => ht.cfgRoute))) fun _ ht => ht.set) fun _ ht => ht.set
theorem State.Canon.place (h : s.Canon) {a src area} : (s.place a src area).Canon := h.zero.setBytes
theorem State.Canon.innerLoad (hs : s.Canon) {b h} : (s.innerLoad b h).Canon := hs.place
theorem State.Canon.loadImages (h : s.Canon) {b} : (s.loadImages b).Canon :=
  .each (.each h fun _ ht => ht.innerLoad) fun _ ht => .ite ht.setBytes <| .ite ht.setBytes <| .ite ht.setBytes ht
theorem State.Canon.slotSet (h : s.Canon) {t r base lim pi po} : (s.slotSet t r base lim pi po).Canon := h.set.set.set.set.set
theorem State.Canon.monSlots (h : s.Canon) {b} : (s.monSlots b).Canon := .each h.slotSet fun _ ht => ht.slotSet
theorem State.Canon.hartStart (hs : s.Canon) {h pc a1 a2} : (s.hartStart h pc a1 a2).Canon :=
  .ite hs <| .ite (.ite hs.pairSet.coreReset.coreReset.coreStart.pairSet.jocc.set hs.pairSet.coreReset.coreReset.coreStart.pairFresh) hs.coreStart
theorem State.Canon.hartBoot (hs : s.Canon) {h} : (s.hartBoot h).Canon := by
  unfold State.hartBoot
  split
  · exact hs.hartStart
  · exact hs
theorem State.Canon.loadAndStart (h : s.Canon) {b} : (s.loadAndStart b).Canon := by
  unfold State.loadAndStart
  dsimp only
  exact .also (.each (.measBoot <| .loadImages <| .monSlots <| .ite h.upd <| .islands <| .domainsUp <| .cfgApply h.upd)
    fun _ ht => ht.hartBoot) fun hs => hs.carouselEnable
theorem State.Canon.bootTry (h : s.Canon) {b ecc} : (s.bootTry b ecc).1.Canon := by
  unfold State.bootTry
  dsimp only
  refine .iteFst (.fst (.loadAndStart ?_)) (.fst (.also (.raiseC (.evrTake h.upd)) fun hs => hs.upd))
  exact .shared (.raiseC (.evrTake h.upd)) fun h2 => .ite h2.evrTake.raiseC (.ite h2.evrTake.raiseC h2)
theorem State.Canon.enterLate (h : s.Canon) {src word at_} : (s.enterLate src word at_).Canon := .ite h <| .ite h.upd h.evrTake.raiseAt
theorem State.Canon.bootReport (h : s.Canon) : s.bootReport.Canon := .upd (.each h.raise fun _ ht => ht.enterLate)
theorem State.Canon.recovery (h : s.Canon) : s.recovery.Canon := h.bootReport.set.evrTake.raiseC
theorem State.Canon.showLc (h : s.Canon) : s.showLc.Canon := h.set
theorem State.Canon.bankErase (h : s.Canon) {b} : (s.bankErase b).Canon := h.zero
theorem State.Canon.eraseFinish (h : s.Canon) : s.eraseFinish.Canon := .ite h.bankErase.bankErase.upd h

/-! ### Functions of Machine/Gtb -/

theorem State.Canon.setGtb (h : s.Canon) {now slew} : (s.setGtb now slew).Canon := h.upd
theorem State.Canon.gtbTick (h : s.Canon) : s.gtbTick.Canon := .ite h.setGtb.upd.set h.setGtb
theorem State.Canon.refreshQual (h : s.Canon) : s.refreshQual.Canon := h.set
theorem State.Canon.refreshSlot (h : s.Canon) {d} : (s.refreshSlot d).Canon := .ite h <| .ite h.set h.set.raise
theorem State.Canon.setTrgCmp (h : s.Canon) {n v} : (s.setTrgCmp n v).Canon := h.set.set
theorem State.Canon.arm (h : s.Canon) {n} : (s.arm n).Canon := h.set
theorem State.Canon.fire {s0 : State} (h : s0.Canon) {n} : (s0.fire n).Canon :=
  .also (.ite h.follow.addWrap.set.setTrgCmp h.follow.addWrap.set.set.set) fun hs => .ite hs.upd.emit hs.upd
theorem State.Canon.outEnds (h : s.Canon) : s.outEnds.Canon := .each h fun _ ht => .ite ht.upd.emit ht
theorem State.Canon.fireLate (h : s.Canon) {n} : (s.fireLate n).Canon := h.fire.set.raise
theorem State.Canon.execTriggerFire (h : s.Canon) {n} : CanonOut (execTriggerFire n s) := .ite h.fire.next h.next
theorem State.Canon.execTriggerCompareWrite (h : s.Canon) {n value} : CanonOut (execTriggerCompareWrite n value s) :=
  .ite h.set.fireLate.next h.set.next
theorem State.Canon.execTriggerCtlWrite (h : s.Canon) {n value} : CanonOut (execTriggerCtlWrite n value s) :=
  .ite h.set.set.set.set.set.set.arm.fireLate.next h.set.set.set.set.set.set.arm.next
theorem State.Canon.stepTrigger (h : s.Canon) {old d n} : (State.stepTrigger old d s n).Canon :=
  .ite h <| .ite h.setTrgCmp <| .ite (.ite (.ite h.fireLate h.fireLate.setTrgCmp.addSat.raise) h.fireLate) h
theorem State.Canon.gtbStep (h : s.Canon) {d} : (s.gtbStep d).Canon := .enter (.gateStep (.each h.setGtb.set fun _ ht => ht.stepTrigger))
theorem State.Canon.execGtbStep (h : s.Canon) : CanonOut (execGtbStep s) := .ite h.next h.gtbStep.next
theorem State.Canon.execSlewStart (h : s.Canon) : CanonOut (execSlewStart s) := .ite h.next h.upd.next
theorem State.Canon.execSlewComplete (h : s.Canon) : CanonOut (execSlewComplete s) := h.setGtb.next
theorem State.Canon.execSnapshotTake (h : s.Canon) : CanonOut (execSnapshotTake s) := h.set.set.set.next
theorem State.Canon.enterHoldover (h : s.Canon) : s.enterHoldover.Canon := .ite h.upd h.upd.set.set.set.refreshQual.refreshSlot.raise
theorem State.Canon.servoSlew (h : s.Canon) {o} : (s.servoSlew o).Canon := h.setS.draw
theorem State.Canon.correct (h : s.Canon) {o first} : (s.correct o first).Canon := by
  unfold State.correct
  dsimp only
  refine .ite h.upd.gtbStep.set ?_
  split
  · exact h.upd.servoSlew
  · exact .ite h.upd.gtbStep h.upd.servoSlew
  · exact .ite h.upd.gtbStep h.upd.servoSlew
theorem State.Canon.grandmaster (h : s.Canon) {d gm} : (s.grandmaster d gm).Canon :=
  .ite (.ite h.upd.set.inc.raise.enterHoldover h.upd.set.inc.raise) h.upd.set
theorem State.Canon.servoSync (h : s.Canon) {o} : (s.servoSync o).Canon :=
  .ite h.upd.set.raise.correct <| .ite h.upd.upd.set.raise.correct h.upd.correct
theorem State.Canon.holdoverSync (h : s.Canon) {gm o} : (s.holdoverSync gm o).Canon := .ite h.upd (.also h.upd.set.raise fun hs => hs.correct)
theorem State.Canon.execSyncReceive (h : s.Canon) {d p msg} : CanonOut (execSyncReceive d p msg s) :=
  .ite h.next <| .ite h.next (.next (.refreshSlot (.refreshQual (.also h.grandmaster.upd.setS.setS fun hs => .ite hs.holdoverSync <|
    .ite hs.servoSync hs))))
theorem State.Canon.execSyncRelay (h : s.Canon) {d} : CanonOut (execSyncRelay d s) := by
  unfold Machine.execSyncRelay
  dsimp only
  split
  · exact h.next
  · exact .ite h.next (.next (.each h.upd fun _ ht => ht.ptpSend))
theorem State.Canon.execSyncTransmit (h : s.Canon) {d} : CanonOut (execSyncTransmit d s) :=
  .ite h.next (.next (.refreshSlot (.each h.upd fun _ ht => ht.ptpSend)))
theorem State.Canon.execPdelayReqTransmit (h : s.Canon) {p} : CanonOut (execPdelayReqTransmit p s) := .ite h.next <| .ite h.next h.upd.ptpSend.next
theorem State.Canon.execPdelayReceive (h : s.Canon) {p m} : CanonOut (execPdelayReceive p m s) := by
  unfold Machine.execPdelayReceive
  dsimp only
  refine .ite h.next <| .ite h.next ?_
  split
  · exact h.ptpSend.next
  · exact .ite h.upd.next h.next
  · exact .ite h.upd.next h.next
  · exact h.next
  · exact h.next
theorem State.Canon.execSyncTimeout (h : s.Canon) {d} : CanonOut (execSyncTimeout d s) :=
  .ite h.next (.next (.refreshSlot (.also h.upd.set.raise fun hs => hs.enterHoldover)))
theorem State.Canon.execGtbDomainWrite (h : s.Canon) {d disable} : CanonOut (execGtbDomainWrite d disable s) :=
  .ite (.next (.refreshSlot (.ite h.set.enterHoldover h.set))) h.set.enterHoldover.refreshSlot.next
theorem State.Canon.capShow (h : s.Canon) {u} : (s.capShow u).Canon := by
  unfold State.capShow
  dsimp only
  split
  · exact h.set.set.set.set.set
  · exact h.set.set.set.set.set
theorem State.Canon.capture (h : s.Canon) {u rising stamp} : (s.capture u rising stamp).Canon := .ite h.inc.raiseAt h.upd.capShow.raiseAt
theorem State.Canon.execCaptureEdge (h : s.Canon) {u rising stamp held} : CanonOut (execCaptureEdge u rising stamp held s) := by
  unfold Machine.execCaptureEdge
  dsimp only
  refine .ite (.ite h.next h.capture.next) ?_
  split
  · next e =>
      exact .ite (.next (.capture (.arrive e h))) (.next (.arrive e h))
  · exact h.next
theorem State.Canon.execCapturePop (h : s.Canon) {u} : CanonOut (execCapturePop u s) := h.upd.capShow.next

/-! ### Functions of Machine/Gw -/

theorem State.Canon.setImg (h : s.Canon) {l i b} : (s.setImg l i b).Canon := h.upd
theorem State.Canon.gwFill (h : s.Canon) {l} : (s.gwFill l).Canon := .each h fun _ ht => ht.setImg
theorem State.Canon.setJobs (h : s.Canon) {c l} : (s.setJobs c l).Canon := h.upd.set.track
theorem State.Canon.gwPut (h : s.Canon) {c p} : (s.gwPut c p).Canon := h.setJobs
theorem State.Canon.gwEnter (h : s.Canon) {l p} : (s.gwEnter l p).Canon := .ite h.gwPut h.inc.raiseSum
theorem State.Canon.route {t : GwTouch} (h : t.s.Canon) {data r} : (GwTouch.route data t r).s.Canon := by
  unfold GwTouch.route
  dsimp only
  refine .iteGw h <| .iteGw h.inc ?_
  split
  · exact .ite h.inc.raiseSum h
  · exact .each (.ite h.inc.raiseSum h) fun _ ht => ht.setImg
theorem State.Canon.gwDue (h : s.Canon) {l} : (s.gwDue l).Canon := .ite h <| .ite h.inc.raiseSum h.set.setJobs
theorem State.Canon.gwDueGap (h : s.Canon) {l} : (s.gwDueGap l).Canon := .ite h.gwDue <| .ite h h.upd
theorem State.Canon.gwCancel (h : s.Canon) {l} : (s.gwCancel l).Canon := .set (.upd (.each h fun _ ht => .ite ht.setJobs ht))
theorem State.Canon.gwSent (h : s.Canon) {l} : (s.gwSent l).Canon := h.upd.set.addWrap
theorem State.Canon.gwRefused (h : s.Canon) {l} : (s.gwRefused l).Canon := h.set.raise
theorem State.Canon.gwSendCan (h : s.Canon) {l} : (s.gwSendCan l).Canon := by
  unfold State.gwSendCan
  dsimp only
  refine .ite h.gwRefused ?_
  split
  · next e =>
      exact .gwRefused (.checkReq e h)
  · split
    · next e =>
        exact .gwRefused (.checkReq e h)
    · exact h.setBytes.set.canTxreq.gwSent
theorem State.Canon.gwSendLin (h : s.Canon) {l} : (s.gwSendLin l).Canon := by
  unfold State.gwSendLin
  dsimp only
  refine .ite h.gwRefused ?_
  split
  · next e =>
      exact .gwRefused (.checkReq e h)
  · exact h.set.gwSent
theorem State.Canon.gwFrame (h : s.Canon) {c f} : (s.gwFrame c f).Canon := h.upd.emit
theorem State.Canon.gwSendEth {l} (e : s.gwSendEth l = some t) (hs : s.Canon) : t.Canon := by
  unfold State.gwSendEth at e
  extract_lets at e
  split at e
  · split at e
    · cases e; exact hs.gwRefused
    · split at e
      · cases e
      · cases e; exact .set <| .each (.each hs.gwFrame.addWrap fun _ ht => ht.gwSent) fun _ ht => ht.inc
  · split at e
    · cases e; exact hs.gwRefused
    · split at e
      · cases e
      · cases e; exact hs.draw.gwFrame.addWrap.gwSent
theorem State.Canon.gwOps (h : s.Canon) {n} : (s.gwOps n).Canon := h.addWrap
theorem State.Canon.gwForm {l} (e : s.gwForm l = some t) (h : s.Canon) : t.Canon := by
  unfold State.gwForm at e
  dsimp only at e
  split at e
  · split at e <;> cases e
    · exact h.upd
    · exact h.gwOps.gwSendCan
  · cases e; exact h.gwOps.gwSendLin
  · exact .gwSendEth e h.gwOps
  · exact .gwSendEth e h.gwOps
  · cases e; exact h.set

theorem State.Canon.gwFormed (h : s.Canon) {l} : ((s.gwForm l).getD s).Canon := by
  cases e : s.gwForm l with
  | none => exact h
  | some t => exact .gwForm e h
theorem State.Canon.gwTake (h : s.Canon) {c j} : (s.gwTake c j).Canon := h.setJobs
theorem State.Canon.execGwPduReceive (h : s.Canon) {src} : CanonOut (execGwPduReceive src s) := by
  unfold Machine.execGwPduReceive
  dsimp only
  refine .ite h.next ?_
  split
  · refine .ite ?_ h.next
    split
    · exact h.gwEnter.canFull.next
    · exact h.next
  · split
    · refine .ite ?_ h.next
      split
      · exact h.upd.gwEnter.next
      · exact h.upd.next
    · exact h.next
  · refine .ite h.next ?_
    split
    · exact h.upd.inc.raiseSum.next
    · exact .ite (.next (.each h.upd fun _ ht => ht.gwPut)) h.next
theorem State.Canon.gwProcess (h : s.Canon) {l data} : (s.gwProcess l data).Canon := by
  unfold State.gwProcess
  extract_lets fwd d n s1 cnt u s2
  have h1 : s1.Canon := .ite (.each h fun _ ht => ht.setImg) h
  have hu : u.s.Canon := List.foldlRecOn _ _ (motive := fun t : GwTouch => t.s.Canon) h1 fun _ ht _ _ => ht.route
  exact .each hu.gwOps.addWrap fun _ ht => .ite ht.gwDueGap ht
theorem State.Canon.execGwPduProcess (h : s.Canon) : CanonOut (execGwPduProcess s) := by
  unfold Machine.execGwPduProcess
  dsimp only
  refine .ite h.next ?_
  split
  · split
    · exact h.gwTake.gwProcess.next
    · exact h.gwTake.inc.raiseSum.next
  · exact h.next
theorem State.Canon.execGwLayoutCyclicDue (h : s.Canon) {l} : CanonOut (execGwLayoutCyclicDue l s) := by
  unfold Machine.execGwLayoutCyclicDue
  split
  · next e =>
      exact .next (.gwDue (.arrive e h))
  · exact h.next
theorem State.Canon.execGwMingapExpiry (h : s.Canon) {l} : CanonOut (execGwMingapExpiry l s) := .ite h.upd.gwDue.next h.next
theorem State.Canon.execGwPduForm (h : s.Canon) : CanonOut (execGwPduForm s) := by
  unfold Machine.execGwPduForm
  refine .ite h.next ?_
  split
  · exact h.gwTake.gwFormed.next
  · exact h.next
theorem State.Canon.execGwSinkReady (h : s.Canon) {l} : CanonOut (execGwSinkReady l s) := .ite h.upd.gwFormed.next h.next
theorem State.Canon.execGwFence (h : s.Canon) : CanonOut (execGwFence s) := h.set.next
theorem State.Canon.execGwFenceComplete (h : s.Canon) : CanonOut (execGwFenceComplete s) := .ite h.set.raise.next h.next
theorem State.Canon.gwTaken (h : s.Canon) {bytes} : (s.gwTaken bytes).Canon := by
  unfold State.gwTaken
  dsimp only
  split
  · exact h.upd
  · exact h
theorem State.Canon.gwEntered (h : s.Canon) : s.gwEntered.Canon := by
  unfold State.gwEntered
  dsimp only
  split
  · exact h.upd.gwTaken
  · exact h
theorem State.Canon.execFrameReceive (h : s.Canon) {p rx} : CanonOut (execFrameReceive p rx s) := by
  unfold Machine.execFrameReceive
  dsimp only
  refine .ite h.next <| .ite h.next <| .ite ?_ (.ite (.ite h.upd.ethReceive.gwEntered.next h.next) h.ethReceive.next)
  split
  · exact h.upd.ethReceive.next
  · exact h.next
theorem State.Canon.execFrameTransmit (h : s.Canon) {p} : CanonOut (execFrameTransmit p s) := by
  unfold Machine.execFrameTransmit
  dsimp only
  have h1 := h.ethEnds.ethSettle (p := p)
  refine .ite h.next ?_
  generalize s.ethEnds.ethSettle p = u at h1 ⊢
  exact .ite h1.ethSend.next h1.next
theorem State.Canon.putWord (h : s.Canon) {a v} : (s.putWord a v).Canon := by
  unfold State.putWord
  dsimp only
  split
  · exact h
  · exact h.fieldsWrite
theorem State.Canon.gwLayoutChange {old : State} (h : s.Canon) (_h1 : old.Canon) {l} : (s.gwLayoutChange old l).Canon :=
  .ite h.gwFill <| .ite h.gwCancel h
theorem State.Canon.gwTableWrite (h : s.Canon) {a v} : (s.gwTableWrite a v).Canon := by
  unfold State.gwTableWrite
  dsimp only
  split
  · exact h.putWord
  · refine .ite ?_ h.upd
    refine .ite ?_ ?_
    · exact .gwLayoutChange (.putWord (.each h fun _ ht => by split; exacts [ht.putWord.upd, ht])) h
    · exact .putWord (.each h fun _ ht => by split; exacts [ht.putWord.upd, ht])
theorem State.Canon.execTableEntryCommitWrite (h : s.Canon) {addr value} : CanonOut (execTableEntryCommitWrite addr value s) :=
  .ite h.gwTableWrite.next h.next
theorem State.Canon.gwReset (h : s.Canon) : s.gwReset.Canon := .each h.restoreBlock.upd fun _ ht => ht.gwFill

/-! ### Functions of Machine/Pcie -/

theorem State.Canon.pcieFlush (h : s.Canon) : s.pcieFlush.Canon := by
  unfold State.pcieFlush
  dsimp only
  split
  · exact h
  · exact h.upd.emit
theorem State.Canon.pcieWrite (h : s.Canon) {w id a bs} : (s.pcieWrite w id a bs).Canon := by
  unfold State.pcieWrite
  dsimp only
  refine .ite ?_ (.each h.pcieFlush fun _ ht => ht.emit)
  split
  · exact h.upd
  · exact h.pcieFlush.upd
theorem State.Canon.pcieUnmapped (h : s.Canon) {r acc a} : (s.pcieUnmapped r acc a).Canon := h.refuse.emit
theorem State.Canon.pcieOut (h : s.Canon) {r vi acc a size value} : (s.pcieOut r vi acc a size value).Canon := by
  unfold State.pcieOut
  dsimp only
  split
  · exact h.pcieUnmapped
  · refine .ite h.emit <| .ite (.ite h.emit h.emit) <| .ite h.pcieWrite.emit <| .ite h ?_
    split
    · exact h
    · exact .ite h.pcieFlush.upd.emit (.each h.pcieFlush.upd fun _ ht => ht.emit)
theorem State.Canon.pcieDone (h : s.Canon) {tag} : (s.pcieDone tag).Canon := h.upd
theorem State.Canon.pcieComplete (h : s.Canon) {q status bytes} : (s.pcieComplete q status bytes).Canon :=
  .ite h.pcieDone.emit <| .ite h.pcieDone.emit h.pcieDone.emit.raiseSum
theorem State.Canon.pcieDown (h : s.Canon) : s.pcieDown.Canon := .raiseC (.inc (.set (.set (.set (.upd (.each h fun _ ht => ht.emit))))))
theorem State.Canon.execPcieOutboundRequest (h : s.Canon) {r acc addr size value} : CanonOut (execPcieOutboundRequest r acc addr size value s) :=
  h.pcieOut.next
theorem State.Canon.perstDrive (h : s.Canon) {v} : (s.perstDrive v).Canon := .ite h.upd.emit h
theorem State.Canon.execPcieLinkUp (h : s.Canon) {gen width ltssm} : CanonOut (execPcieLinkUp gen width ltssm s) :=
  .ite h.next h.perstDrive.set.set.set.set.raiseC.next
theorem State.Canon.execPcieVfEnable (h : s.Canon) {en num} : CanonOut (execPcieVfEnable en num s) := h.set.set.raise.next
theorem State.Canon.pcieRetrain (h : s.Canon) : s.pcieRetrain.Canon := .ite h.inc.raiseC h
theorem State.Canon.pciePfirq (h : s.Canon) {v} : (s.pciePfirq v).Canon := .each h fun _ ht => ht.emit
theorem State.Canon.execPcieRetrain (h : s.Canon) : CanonOut (execPcieRetrain s) := h.pcieRetrain.next
theorem State.Canon.execPciePfMsix (h : s.Canon) {vectors} : CanonOut (execPciePfMsix vectors s) := h.pciePfirq.next

end Sys2Proof.Machine
end

section
/-! PROOFS. Canonical memory, part 5 of 8: supply channels, the VIM, power and regions. One lemma per function of the model, in its order. -/

namespace Sys2Proof.Machine
open Sys2Proof

variable {s t : State} {r : EthRun}

/-! ### Functions of Machine/Psc -/

theorem State.Canon.dset (h : s.Canon) {f v} : (s.dset f v).Canon := h.upd
theorem State.Canon.chUpd (h : s.Canon) {n g} : (s.chUpd n g).Canon := h.upd
theorem State.Canon.dieUpd (h : s.Canon) {f g} : (s.dieUpd f g).Canon := h.upd
theorem State.Canon.pscStep (h : s.Canon) {f rank} : (s.pscStep f rank).Canon := h.dieUpd
theorem State.Canon.pscForward (h : s.Canon) {n} : (s.pscForward n).Canon := .chUpd (.also (.each h fun _ ht => ht.dset) fun hs => hs.chUpd)
theorem State.Canon.pscShow (h : s.Canon) {n} : (s.pscShow n).Canon :=
  .ite h (.set (.set (.set (.set (.set (.set (.chUpd (.each h.set.set.set.set.set fun _ ht => .ite ht.set ht))))))))
theorem State.Canon.pscRaise (h : s.Canon) {n cause} : (s.pscRaise n cause).Canon := h.raise
theorem State.Canon.pscEvent (h : s.Canon) {n cause} : (s.pscEvent n cause).Canon := .ite (.ite h.chUpd h) h.pscShow.pscRaise
theorem State.Canon.dieRaise (h : s.Canon) {f cause v} : (s.dieRaise f cause v).Canon := h.raise
theorem State.Canon.dieShow (h : s.Canon) {f} : (s.dieShow f).Canon :=
  .ite h (.also (.each (.each h.set.set fun _ ht => ht.set) fun _ ht => ht.set.set) fun hs => hs.set.dieUpd)
theorem State.Canon.dieEvent (h : s.Canon) {f cause v} : (s.dieEvent f cause v).Canon := .ite h h.dieShow.dieRaise
theorem State.Canon.pscTo (h : s.Canon) {n st window} : (s.pscTo n st window).Canon := h.chUpd.pscShow
theorem State.Canon.pscFlag (h : s.Canon) {n bit} : (s.pscFlag n bit).Canon := h.chUpd
theorem State.Canon.pscTrip (h : s.Canon) {n cause} : (s.pscTrip n cause).Canon :=
  .ite h <| .ite h.pscFlag.chUpd.chUpd.pscTo.pscEvent h.pscFlag.chUpd.pscTo.pscEvent.pscEvent
theorem State.Canon.pscLatch (h : s.Canon) {n cause} : (s.pscLatch n cause).Canon := h.pscFlag.chUpd.pscTo.pscEvent
theorem State.Canon.pscRefuse (h : s.Canon) {n} : (s.pscRefuse n).Canon := h.set.pscRaise
theorem State.Canon.pscCommand (h : s.Canon) {n op r vi} : (s.pscCommand n op r vi).1.Canon :=
  .iteFst h <| .iteFst h.refuse.pscRefuse <| .iteFst h.set <| .iteFst h.pscRefuse h.upd.set
theorem State.Canon.pscCheck (h : s.Canon) {n v} : (s.pscCheck n v).Canon := .ite h.pscFlag.chUpd.pscEvent h.chUpd
theorem State.Canon.pscApply {s0 : State} (h : s0.Canon) {n op} : (s0.pscApply n op).Canon := by
  unfold State.pscApply
  dsimp only
  split
  · exact .ite h.chUpd.pscTo <| .ite h.chUpd.pscTo <| .ite h.chUpd.chUpd <| .ite h.chUpd h.chUpd.pscRefuse
  · exact .ite h.chUpd h.chUpd.pscTo
  · exact .ite h.chUpd.pscTo <| .ite h.chUpd.pscTo <| .ite h.chUpd.chUpd <| .ite h.chUpd h.chUpd.pscRefuse
  · exact .ite (.ite h.chUpd.pscRefuse h.chUpd.pscTo) h.chUpd
  · exact .ite (.ite h.chUpd h.chUpd.pscCheck) h.chUpd.pscRefuse
theorem State.Canon.execPscCommandApply (h : s.Canon) {f crcOk other} : CanonOut (execPscCommandApply f crcOk other s) := by
  unfold Machine.execPscCommandApply
  dsimp only
  refine .ite h.next ?_
  split
  · exact .ite h.pscStep.pscApply.next h.next
  · split
    · exact h.next
    · exact .ite h.next <| .ite h.inc.next <| .ite h.next h.upd.pscStep.pscApply.next
theorem State.Canon.pscPop (h : s.Canon) {f} : (s.pscPop f).Canon := by
  unfold State.pscPop
  dsimp only
  split
  · exact h
  · exact h.upd.set
theorem State.Canon.pscFail (h : s.Canon) {f} : (s.pscFail f).Canon := by
  unfold State.pscFail
  dsimp only
  split
  · exact h
  · exact h.pscPop.set.inc.pscRaise.dieRaise
theorem State.Canon.execPscAckReceive (h : s.Canon) {f crcOk} : CanonOut (execPscAckReceive f crcOk s) := by
  unfold Machine.execPscAckReceive
  refine .ite h.next ?_
  split
  · exact h.next
  · exact .ite h.next <| .ite h.inc.next h.pscPop.next
theorem State.Canon.execPscAckTimeout (h : s.Canon) {f} : CanonOut (execPscAckTimeout f s) := by
  unfold Machine.execPscAckTimeout
  dsimp only
  refine .ite h.next ?_
  split
  · exact h.next
  · exact .ite h.upd.inc.next h.pscFail.next
theorem State.Canon.roomSee (h : s.Canon) {f ms} : (s.roomSee f ms).Canon := by
  unfold State.roomSee
  split
  · exact h.dieUpd
  · exact .ite h.dieUpd <| .ite h h.dieUpd
theorem State.Canon.execPscSample (h : s.Canon) {m} : CanonOut (execPscSample m s) := by
  unfold Machine.execPscSample
  dsimp only
  refine .ite h.next ?_
  split
  · exact .ite h.chUpd.next h.chUpd.addWrap.set.set.next
  · exact .ite h.chUpd.next h.chUpd.setS.next
  · exact .ite h.chUpd.next h.chUpd.set.next
  · exact .ite h.upd.dieUpd.dieShow.roomSee.next h.upd.dieUpd.dieShow.roomSee.setS.next
  · exact .ite h.dieUpd.dieShow.roomSee.next h.dieUpd.dieShow.roomSee.set.set.next
  · exact .ite h.next h.inc.next
theorem State.Canon.execPscRangeSwitch (h : s.Canon) {n} : CanonOut (execPscRangeSwitch n s) := .ite h.next h.chUpd.pscShow.next
theorem State.Canon.execPscRecordWrite (h : s.Canon) {parity} : CanonOut (execPscRecordWrite parity s) :=
  .ite h.next <| .ite h.fabWrite.set.next h.fabWrite.set.dieRaise.next
theorem State.Canon.execOffstateCheckStart (h : s.Canon) {n periodic v} : CanonOut (execOffstateCheckStart n periodic v s) :=
  .ite h.next <| .ite h.pscCheck.next h.next
theorem State.Canon.execOffstateCheckSettled (h : s.Canon) {n v} : CanonOut (execOffstateCheckSettled n v s) :=
  .ite h.next <| .ite h.next <| .ite h.chUpd.pscFlag.chUpd.pscEvent.next h.chUpd.next
theorem State.Canon.execOnstateOpenLoad (h : s.Canon) {n largest} : CanonOut (execOnstateOpenLoad n largest s) :=
  .ite h.next <| .ite h.pscFlag.chUpd.pscEvent.next h.next
theorem State.Canon.execPscOvercurrent (h : s.Canon) {n samples} : CanonOut (execPscOvercurrent n samples s) :=
  .ite h.next <| .ite h.pscStep.pscTrip.next h.next
theorem State.Canon.execPscShortCircuit (h : s.Canon) {n} : CanonOut (execPscShortCircuit n s) :=
  .ite h.next <| .ite h.pscStep.chUpd.pscShow.next h.pscStep.pscTrip.next
theorem State.Canon.execPscGroupOvertemp (h : s.Canon) {g t} : CanonOut (execPscGroupOvertemp g t s) :=
  .ite h.next <| .ite h.next (.next (.each h.upd.pscStep.dieUpd.dieShow fun _ ht => ht.pscTrip))
theorem State.Canon.execI2tUpdate (h : s.Canon) {n sumSq} : CanonOut (execI2tUpdate n sumSq s) := by
  unfold Machine.execI2tUpdate
  dsimp only
  refine .ite h.next ?_
  split
  · exact h.chUpd.pscShow.next
  · exact .ite (.next (.pscLatch (.pscStep (.also h.chUpd.pscShow.chUpd.pscShow fun hs => hs.pscFlag.pscEvent)))) (.next
      (.also h.chUpd.pscShow.chUpd.pscShow fun hs => hs.pscFlag.pscEvent))
theorem State.Canon.execPscRetryDue (h : s.Canon) {n} : CanonOut (execPscRetryDue n s) := .ite h.next <| .ite h.pscStep.chUpd.pscTo.next h.next
theorem State.Canon.execPscRetryRestore (h : s.Canon) {n} : CanonOut (execPscRetryRestore n s) := .ite h.next <| .ite h.chUpd.pscShow.next h.next
theorem State.Canon.execPscClampEvent (h : s.Canon) {n} : CanonOut (execPscClampEvent n s) :=
  .ite h.next <| .ite h.pscFlag.chUpd.pscShow.pscStep.pscLatch.next h.pscFlag.chUpd.pscShow.next
theorem State.Canon.execPscPwmPeriod (h : s.Canon) {n off} : CanonOut (execPscPwmPeriod n off s) :=
  .ite h.next <| .ite h.next <| .ite (.ite h.chUpd.next h.next) h.chUpd.next
theorem State.Canon.shedAgain (h : s.Canon) {f hot} : (s.shedAgain f hot).Canon := h.dieUpd
theorem State.Canon.execPscShed (h : s.Canon) {f hot} : CanonOut (execPscShed f hot s) := by
  unfold Machine.execPscShed
  dsimp only
  refine .ite h.next <| .ite h.next ?_
  split
  · exact .next (.pscEvent (.pscTo (.chUpd (by split; exacts [.unless h.pscStep.shedAgain fun hs => hs.dieUpd.dieEvent, h.pscStep.shedAgain]))))
  · exact .next (.dieEvent (.dieUpd (by split; exacts [.unless h.pscStep.shedAgain fun hs => hs.dieUpd.dieEvent, h.pscStep.shedAgain])))
theorem State.Canon.execPscRestore (h : s.Canon) {f} : CanonOut (execPscRestore f s) := by
  unfold Machine.execPscRestore
  dsimp only
  refine .ite h.next ?_
  split
  · exact h.next
  · exact .ite h.pscStep.dieUpd.pscTo.pscEvent.next h.next
theorem State.Canon.holdLeave (h : s.Canon) {f} : (s.holdLeave f).Canon :=
  .each (.each (.dieRaise (.dieRaise (.dieShow (.each h.dieUpd.set.set.set fun _ ht => ht.set.pscShow)))) fun _ ht => .ite ht.chUpd.pscRaise ht) fun _ ht => ht.pscFail
theorem State.Canon.execCommandLinkHeartbeat (h : s.Canon) {f valid other} : CanonOut (execCommandLinkHeartbeat f valid other s) :=
  .ite h.next <| .ite (.next (.ite h h.emit)) <| .ite (.next (.holdLeave (.ite h h.emit))) (.next (.set (.ite h h.emit)))
theorem State.Canon.execPowerDieHoldEnter (h : s.Canon) {f} : CanonOut (execPowerDieHoldEnter f s) :=
  .ite h.next <| .ite h.next (.next (.each (.each h.dieUpd.set.set fun _ ht => ht.set) fun _ ht => ht.chUpd))
theorem State.Canon.execPowerDieHoldLeave (h : s.Canon) {f} : CanonOut (execPowerDieHoldLeave f s) := .ite h.next <| .ite h.holdLeave.next h.next
theorem State.Canon.mirrorWrite (h : s.Canon) {f} : (s.mirrorWrite f).Canon :=
  .dieUpd (.each (.each h fun _ ht => ht.dset) fun _ ht => .ite ht.chUpd ht)
theorem State.Canon.restartShow (h : s.Canon) {f} : (s.restartShow f).Canon := .ite h.dieUpd.set.dieRaise h
theorem State.Canon.mirrorLoad (h : s.Canon) {f} : (s.mirrorLoad f).Canon :=
  .ite h.dieUpd (.restartShow (.dieShow (.each (.set (.dieUpd (.ite (.each h fun _ ht => ht.set) h.mirrorWrite))) fun _ ht => ht.pscShow)))
theorem State.Canon.execPscMirrorLoad (h : s.Canon) {f} : CanonOut (execPscMirrorLoad f s) := .ite h.next <| .ite h.mirrorLoad.next h.next
theorem State.Canon.execFeedPowerOnReset (h : s.Canon) {f} : CanonOut (execFeedPowerOnReset f s) :=
  .ite h.next (.next (.each (.set (.dieUpd (.each h.pscStep fun _ ht => ht.dset))) fun _ ht => ht.chUpd.pscShow))
theorem State.Canon.execFeedRestart (h : s.Canon) {f} : CanonOut (execFeedRestart f s) :=
  .ite h.next <| .ite h.next <| .ite h.dieUpd.mirrorLoad.next h.dieUpd.next
theorem State.Canon.vpwrShow (h : s.Canon) {f vpwr} : (s.vpwrShow f vpwr).Canon := .ite h h.set
theorem State.Canon.execFeedUndervoltage (h : s.Canon) {f vpwr} : CanonOut (execFeedUndervoltage f vpwr s) :=
  .ite h.next <| .ite h.next <| .ite h.dieUpd.dieShow.vpwrShow.next h.dieUpd.dieShow.vpwrShow.dieEvent.next
theorem State.Canon.execFeedOvervoltage (h : s.Canon) {f vpwr} : CanonOut (execFeedOvervoltage f vpwr s) :=
  .ite h.next <| .ite h.next <| .ite h.dieUpd.dieShow.vpwrShow.next h.dieUpd.dieShow.vpwrShow.dieEvent.next
theorem State.Canon.pscWrite (h : s.Canon) {a} : (pscWrite a s).Canon :=
  .ite (.ite h.pscForward h) <| .ite (.each h fun _ ht => .ite (.each ht fun _ hu => hu.dset) ht) <| .ite (.ite (.each h fun _ ht => ht.dset) h) h
theorem State.Canon.pscBefore (h : s.Canon) {a} : (pscBefore a s).Canon := .ite h.set h
theorem State.Canon.pscAfter (h : s.Canon) {a} : (pscAfter a s).Canon := .ite h.chUpd h

/-! ### Functions of Machine/Vim -/

theorem State.Canon.viUpd (h : s.Canon) {i g} : (s.viUpd i g).Canon := h.upd
theorem State.Canon.viEvent (h : s.Canon) {i cause value} : (s.viEvent i cause value).Canon := h.raise
theorem State.Canon.viShow (h : s.Canon) {i} : (s.viShow i).Canon :=
  .each (.each (.each h.set.set.set.set.set fun _ ht => ht.set.set) fun _ ht => ht.set) fun _ ht => ht.set
theorem State.Canon.genNext (h : s.Canon) {i} : (s.genNext i).Canon := h.set.set.viUpd.mbxGenGone
theorem State.Canon.viStale (h : s.Canon) {i} : (s.viStale i).Canon := .ite h.inc.upd.viEvent h.inc.upd
theorem State.Canon.viMark (h : s.Canon) {i kind slot b} : (s.viMark i kind slot b).Canon := by
  unfold State.viMark
  split
  · exact h.setBit
  · exact h.setBit
  · exact h.set
  · exact h.set
  · exact h.set
  · exact h
theorem State.Canon.viOwn (h : s.Canon) {i kind slot mode} : (s.viOwn i kind slot mode).Canon := by
  unfold State.viOwn
  split
  · exact .each h fun _ ht => ht.set.set
  · exact .each h fun _ ht => ht.set.set
  · exact h
theorem State.Canon.viCanAbort (h : s.Canon) {i k clear} : (s.viCanAbort i k clear).Canon :=
  .each h fun _ ht => .also (.ite ht.canAbort ht) fun hs => hs.canFull.set
theorem State.Canon.viRoutesOff (h : s.Canon) {i} : (s.viRoutesOff i).Canon := .each h fun _ ht => ht.set
theorem State.Canon.viTgZero (h : s.Canon) {i} : (s.viTgZero i).Canon := .each h fun _ ht => ht.zero.zero
theorem State.Canon.viTake (h : s.Canon) {i kind slot} : (s.viTake i kind slot).Canon := .viMark (.viOwn (.ite (.each h fun _ ht => ht.set) h))
theorem State.Canon.viRestore (h : s.Canon) {i} : (s.viRestore i).Canon := h.restore.unhold.zero
theorem State.Canon.vimErr (h : s.Canon) {c} : (s.vimErr c).Canon := h.set.set.set
theorem State.Canon.vimDone (h : s.Canon) {abandoned} : (s.vimDone abandoned).Canon := h.set.set.set
theorem State.Canon.fnBind (h : s.Canon) {i on} : (s.fnBind i on).Canon := .ite h <| .ite h.set.set h.set
theorem State.Canon.viResetBegin (h : s.Canon) {i} : (s.viResetBegin i).Canon :=
  .viUpd (.also (.each h.genNext.viGoto fun _ ht => ht.viCanAbort) fun hs => hs.viRoutesOff)
theorem State.Canon.viFault (h : s.Canon) {i code} : (s.viFault i code).Canon := .also h.viFaultMark fun hs => hs.viResetBegin
theorem State.Canon.viResetNow (h : s.Canon) {i} : (s.viResetNow i).Canon := .ite (.ite h.viResetBegin h.viUpd) h
theorem State.Canon.viReset (h : s.Canon) {i} : (s.viReset i).Canon := .ite h <| .ite h.viUpd h.viResetNow
theorem State.Canon.vimGen (h : s.Canon) {i op} : (s.vimGen i op).Canon :=
  .ite h.viUpd.genNext.viRestore.fnBind.set.viGoto.viShow.vimDone <| .ite h.viUpd.fnBind.genNext.set.set.fnBind.set.vimDone <|
    .ite (.vimDone (.viShow (.set (.viGoto (.upd (.viRestore (.fnBind (.genNext (.each (.viTgZero (.also (.each h.viUpd fun _ ht => .zero
    (.each ht.viCanAbort fun _ hu => hu.restoreBlock)) fun hs => hs.viRoutesOff)) fun _ ht => ht.viTake))))))))) h.viUpd
theorem State.Canon.vimTaken (h : s.Canon) {i op kind slot} : (s.vimTaken i op kind slot).Canon := h.set.set.set.set.set.upd
theorem State.Canon.vimRun (h : s.Canon) {i op kind slot} : (s.vimRun i op kind slot).Canon := by
  unfold State.vimRun
  dsimp only
  refine .ite h.vimErr ?_
  split
  · exact .ite h.vimErr <| .ite h.vimErr <| .ite h.vimGen h.viUpd
  · exact .ite h.vimErr <| .ite h.vimErr h.viOwn.viMark.viShow.vimDone
  · exact .ite h.vimErr <| .ite h.vimErr h.viUpd
  · exact .ite h.vimErr h.viGoto
  · exact .ite h.vimErr h.viGoto.viUpd.vimDone
  · exact .ite h.vimErr h.viResetNow
  · exact .ite h.vimErr <| .ite h.vimErr <| .ite h.vimGen h.viUpd
  · exact .ite h.vimErr <| .ite h.vimGen h.viUpd
  · exact h.vimErr
theorem State.Canon.vimTry (h : s.Canon) {i op kind slot} : (s.vimTry i op kind slot).Canon := .ite h.viUpd h.vimRun
theorem State.Canon.vimCmd (h : s.Canon) {i op kind slot} : (s.vimCmd i op kind slot).Canon := .ite h.set.set h.vimTaken.vimTry
theorem State.Canon.viServe (h : s.Canon) {n i} : (State.viServe n s i).Canon := by
  induction n generalizing s with
  | zero => exact h
  | succ n ih =>
    unfold State.viServe
    refine .ite h ?_
    split
    · exact h
    · exact ih (.ite h.viUpd.vimRun h.viUpd.viResetNow)
theorem State.Canon.viServeAll (h : s.Canon) {i} : (s.viServeAll i).Canon := h.viServe
theorem State.Canon.execVimCreate (h : s.Canon) {i} : CanonOut (execVimCreate i s) := h.vimCmd.next
theorem State.Canon.execVimAttach (h : s.Canon) {i kind slot} : CanonOut (execVimAttach i kind slot s) := h.vimCmd.next
theorem State.Canon.execVimDetach (h : s.Canon) {i kind slot} : CanonOut (execVimDetach i kind slot s) := h.vimCmd.next
theorem State.Canon.execVimQuiesce (h : s.Canon) {i} : CanonOut (execVimQuiesce i s) := h.vimCmd.next
theorem State.Canon.execVimResume (h : s.Canon) {i} : CanonOut (execVimResume i s) := h.vimCmd.next
theorem State.Canon.execVimReset (h : s.Canon) {i} : CanonOut (execVimReset i s) := h.vimCmd.next
theorem State.Canon.execVimMigrate (h : s.Canon) {i bind fn} : CanonOut (execVimMigrate i bind fn s) := .ite h.set.set.next h.set.set.vimCmd.next
theorem State.Canon.execVimTakedown (h : s.Canon) {i} : CanonOut (execVimTakedown i s) := h.vimCmd.next
theorem State.Canon.execVimGenChangeDue (h : s.Canon) {i} : CanonOut (execVimGenChangeDue i s) := by
  unfold Machine.execVimGenChangeDue
  split
  · exact h.next
  · exact .ite h.next <| .ite h.viResetBegin.next h.vimGen.viServeAll.next
theorem State.Canon.execViTenantReset (h : s.Canon) {i} : CanonOut (execViTenantReset i s) := .ite h.next h.viReset.next
theorem State.Canon.execViResetComplete (h : s.Canon) {i} : CanonOut (execViResetComplete i s) := by
  unfold Machine.execViResetComplete
  dsimp only
  refine .ite h.next <| .next <| .viServeAll <|
    .also (.viEvent <| .viShow <| .viGoto <| .addWrap <| .inc <| .viRestore ?_) fun hs => hs.vimDone
  split
  · exact h
  · exact .tgReset <| .viTgZero <| List.foldlRecOn _ _ h fun _ ht _ _ => ht.pwmTrip
theorem State.Canon.execVimQuiesceComplete (h : s.Canon) {i expired} : CanonOut (execVimQuiesceComplete i expired s) := by
  unfold Machine.execVimQuiesceComplete
  dsimp only
  refine .ite h.next <| .ite h.next <| .next <| .viServeAll <| .viEvent <| .vimDone ?_
  have h2 {cans : List (Nat × Nat)} {f} : ((s.each cans fun t p => t.viCanAbort i p.2 false).viUpd i f).Canon :=
    .viUpd (.each h fun _ ht => ht.viCanAbort)
  split
  · exact h2.viTake.viShow.viUpd
  · exact h2.viGoto
theorem State.Canon.viRefill (h : s.Canon) {i} : (s.viRefill i).Canon := h.viUpd
theorem State.Canon.viTokens {i n} (e : s.viTokens i n = some t) (h : s.Canon) : t.Canon := by
  unfold State.viTokens at e
  dsimp only at e
  split at e <;> cases e
  exact h.viRefill.viUpd
theorem State.Canon.viInbound (h : s.Canon) {i n} : (s.viInbound i n).Canon := h.viRefill.viUpd
theorem State.Canon.viWait (h : s.Canon) {i} : (s.viWait i).Canon := .ite h h.inc.viUpd
theorem State.Canon.viRead (h : s.Canon) {i p a n} : (s.viRead i p a n).1.Canon := by
  unfold State.viRead
  dsimp only
  split
  · next e =>
      exact .checkReq e h
  · refine .iteFst ?_ (.iteFst h h)
    split
    · exact h
    · exact .iteFst h.pcieOut h.pcieOut
theorem State.Canon.viWrite (h : s.Canon) {i p a bs} : (s.viWrite i p a bs).1.Canon := by
  unfold State.viWrite
  dsimp only
  split
  · next e =>
      exact .checkReq e h
  · exact .iteFst h.pcieOut <| .iteFst h.setBytes h
theorem State.Canon.viDrop (h : s.Canon) {i o} : (s.viDrop i o).Canon := h.viUpd
theorem State.Canon.viPush (h : s.Canon) {i o} : (s.viPush i o).Canon := h.viUpd
theorem State.Canon.viBack (h : s.Canon) {i o stamp status len} : (s.viBack i o stamp status len).Canon := by
  unfold State.viBack
  dsimp only
  refine .ite h.viFault ?_
  split
  · exact h.viWait.viPush
  · next e =>
      exact .ite (.viFault (.viWrite (.viTokens e h))) (.also (.also (.also
          (.viWrite (.viTokens e h)) fun hs => hs.inc) fun hs => hs.set) fun hs => hs.viNote)
theorem State.Canon.viBad (h : s.Canon) {i o code} : (s.viBad i o code).Canon := .ite h.viBack.viFault h.viFault
theorem State.Canon.viSend (h : s.Canon) {i o bs} : (s.viSend i o bs).Canon :=
  .ite h.inc.viBack <| .ite h <| .ite h.ethReceive.viUpd.viPush h.ethReceive.viUpd.viBack
theorem State.Canon.viEntered (h : s.Canon) {i} : (s.viEntered i).Canon := .each h fun _ ht => .ite ht.viDrop.viStale ht.viDrop.viBack
theorem State.Canon.execInternalIngressResume (h : s.Canon) {p} : CanonOut (execInternalIngressResume p s) :=
  .next (.crsFlush (.gwEntered (.each (by split; exacts [h.ethFinish, h]) fun _ ht => ht.viEntered)))
theorem State.Canon.viFill (h : s.Canon) {i o} : (s.viFill i o).Canon := by
  unfold State.viFill
  dsimp only
  refine .ite h.viBack <| .ite h.viBad ?_
  split
  · exact h.viWait.viPush
  · next e =>
      exact .ite (.viBack (.viWrite (.viTokens e h))) (.viBad (.viWrite (.viTokens e h)))
theorem State.Canon.viGo (h : s.Canon) {parity n i o} : (State.viGo parity n s i o).Canon := by
  induction n generalizing s parity o with
  | zero => exact h
  | succ n ih =>
    unfold State.viGo
    dsimp only
    split
    · exact h.viBack
    · refine .ite h.viFill <| .ite h.viBack <| .ite h.viBad <| .ite h.viPush ?_
      split
      · exact h.viWait.viPush
      · next e =>
        have hx {p a len} : (if parity = true then (State.parityError _ (29 + p), ViRead.error) else State.viRead _ i p a len).1.Canon :=
          .iteFst (h.viTokens e).parityError (h.viTokens e).viRead
        split
        · exact hx.viBad
        · exact hx.viPush
        · exact hx.viPush
        · exact .ite hx.viSend <| .ite hx.viFill (ih hx)
theorem State.Canon.viMore (h : s.Canon) {n i} : (State.viMore n s i).Canon := by
  induction n generalizing s with
  | zero => exact h
  | succ n ih =>
    unfold State.viMore
    dsimp only
    refine .ite h ?_
    split
    · exact h
    · exact .ite (ih h.viDrop.viGo) h.viDrop.viGo
theorem State.Canon.viTagData (h : s.Canon) {tag err bs} : (s.viTagData tag err bs).Canon := by
  unfold State.viTagData
  dsimp only
  split
  · exact h
  · exact .ite h.viDrop.viStale <| .ite h.viDrop.viPush (.viMore (.ite h.viDrop.viBad <| .ite h.viDrop.viSend <| .ite h.viDrop.viFill h.viDrop.viGo))
theorem State.Canon.viDoorbell (h : s.Canon) {i rx k tail} : (s.viDoorbell i rx k tail).Canon := .ite h <| .ite h.set h.set.viFault
theorem State.Canon.execViDoorbell (h : s.Canon) {i rx slot tail} : CanonOut (execViDoorbell i rx slot tail s) := .ite h.next h.viDoorbell.next
theorem State.Canon.execViTxFrame (h : s.Canon) {i slot parity} : CanonOut (execViTxFrame i slot parity s) := .ite h.next h.viGo.next
theorem State.Canon.viCopy (h : s.Canon) {q f parity x} : (State.viCopy q f parity s x).Canon := .ite h.inc <| .ite h.viGo h.viUpd
theorem State.Canon.execViRxDeliver (h : s.Canon) {p parity} : CanonOut (execViRxDeliver p parity s) := by
  unfold Machine.execViRxDeliver
  dsimp only
  split
  · exact h.next
  · exact .ite h.upd.next <| .ite h.upd.inc.next (.next (.each h.upd fun _ ht => ht.viCopy))
theorem State.Canon.execViBucketRefill (h : s.Canon) {i} : CanonOut (execViBucketRefill i s) := .ite h.next h.viRefill.viMore.next
theorem State.Canon.vimSums (h : s.Canon) : s.vimSums.Canon := h.set.set
theorem State.Canon.vimPage {old : State} (h : old.Canon) (h1 : s.Canon) {i o} : (State.vimPage i o old s).Canon :=
  .ite (.ite h1 h1.set.set) <| .ite (.ite h.upd.set h1.vimSums) <| .ite (.ite h.upd.set h1.viShow) h1
theorem State.Canon.vimWrite {old : State} (h : old.Canon) (h1 : s.Canon) {a v} : (vimWrite a v old s).Canon :=
  .ite (.ite h1 <| .ite h.upd.set.set h1.vimTaken.vimTry) <| .ite (.vimPage h h1) h1
theorem vimWrite_keeps : WriteHook.Keeps vimWrite := fun _ _ _ _ h h1 => h.vimWrite h1
theorem State.Canon.execVimMapWrite (h : s.Canon) {addr value} : CanonOut (execVimMapWrite addr value s) :=
  .ite (.next (.regWrite h vimWrite_keeps)) h.next

/-! ### Functions of Machine/Link -/

theorem State.Canon.unitRejoin (h : s.Canon) {u} : (s.unitRejoin u).Canon := .ite h.soloEnd h
theorem State.Canon.sliceDrop (h : s.Canon) {u} : (s.sliceDrop u).Canon := .ite h.sliceAbort.unitRejoin h
theorem State.Canon.sliceFull (h : s.Canon) {n} : (s.sliceFull n).Canon := .ite h.sliceDrop.sliceDrop h
theorem State.Canon.jrnPut (h : s.Canon) {n e} : (s.jrnPut n e).Canon := h.jrnAdd.sliceFull
theorem State.Canon.jrnResp (h : s.Canon) {n a err v} : (s.jrnResp n a err v).Canon := h.jrnPut
theorem State.Canon.coreHear (h : s.Canon) {c err v} : (s.coreHear c err v).Canon := by
  unfold State.coreHear
  refine .ite ?_ h.coreSet
  split
  · exact h
  · exact h.pairSet.jrnResp
theorem State.Canon.pcieHear (h : s.Canon) {q err v bytes} : (s.pcieHear q err v bytes).Canon := .ite h.viTagData <| .ite h.coreHear h
theorem State.Canon.linkLost (h : s.Canon) : s.linkLost.Canon := .each h.pcieDown fun _ ht => ht.pcieHear
theorem State.Canon.execPcieCompletionTimeout (h : s.Canon) {tag} : CanonOut (execPcieCompletionTimeout tag s) := by
  unfold Machine.execPcieCompletionTimeout
  split
  · exact h.pcieDone.inc.raiseSum.emit.pcieHear.next
  · exact h.next
theorem State.Canon.execPcieCompletion (h : s.Canon) {tag status bytes} : CanonOut (execPcieCompletion tag status bytes s) := by
  unfold Machine.execPcieCompletion
  dsimp only
  split
  · exact h.pcieComplete.pcieHear.next
  · exact h.next
theorem State.Canon.execPcieLinkDown (h : s.Canon) {ltssm} : CanonOut (execPcieLinkDown ltssm s) := .ite h.linkLost.set.next h.next
theorem State.Canon.pcieRegWrite {old : State} (h : old.Canon) (h1 : s.Canon) {a v} : (pcieRegWrite a v old s).Canon :=
  .ite (.unless (.ite h1.pcieRetrain h1) fun hs => .perstDrive (.ite hs.linkLost hs)) <| .ite h1.pciePfirq <| .ite (.ite h.upd h1) <|
    .ite (.ite h.upd h1) h1
theorem State.Canon.pcieReset (h : s.Canon) : s.pcieReset.Canon := .upd (.restoreBlock (.ite h.linkLost h))
theorem State.Canon.execPciePerst (h : s.Canon) {low} : CanonOut (execPciePerst low s) := .ite h.next (.next (.upd (.ite h.pcieReset h)))

/-! ### Functions of Machine/Reset -/

theorem State.Canon.pwmReset (h : s.Canon) {j} : (s.pwmReset j).Canon := h.pwmBall.pwmBall.pwmUpd.restoreBlock
theorem State.Canon.grpReset (h : s.Canon) {g} : (s.grpReset g).Canon :=
  .each (.restoreBlock (.upd (.each h fun _ ht => by split; exacts [.ite ht.upd.set ht, ht]))) fun _ ht => ht.grpConflict
theorem State.Canon.gtbReset (h : s.Canon) : s.gtbReset.Canon := .restoreBlock (.each h.upd fun _ ht => .ite ht ht.emit)
theorem State.Canon.pscDrop (h : s.Canon) : s.pscDrop.Canon := .each h.upd fun _ ht => ht.set
theorem State.Canon.pscReset (h : s.Canon) : s.pscReset.Canon := h.sliceAbort.sliceAbort.restoreBlock.pscDrop.mirrorLoad.mirrorLoad
theorem State.Canon.pairReset (h : s.Canon) {n} : (s.pairReset n).Canon :=
  .ite h.sliceAbort.sliceAbort.restoreBlock.coreReset.coreReset.hartBoot.hartBoot h.sliceAbort.sliceAbort.restoreBlock.pairHold.hartBoot
theorem State.Canon.steAbort (h : s.Canon) : s.steAbort.Canon := .each h fun _ ht => .also ht.sliceAbort fun hs => hs.soloEnd
theorem State.Canon.blockReset (h : s.Canon) {n} : (s.blockReset n).Canon :=
  .ite h.upd.restoreBlock <| .ite h.grpReset <| .ite h.pwmReset <| .ite h.restoreBlock.upd.set.set <| .ite h.restoreBlock.emit <|
    .ite h.upd.sdfClockOff.restoreBlock <| .ite h.tgReset <| .ite h.gtbReset <| .ite h.pscReset <| .ite h.eswReset <| .ite h.canReset <|
    .ite h.linReset <| .ite h.crsReset <| .ite h.gwReset <| .ite h.pcieReset <| .ite h.pairReset <| .ite h.steAbort.restoreBlock h
theorem State.Canon.blkGo (h : s.Canon) {n} : (s.blkGo n).Canon := .ite h <| .ite h.set.set h.upd.set
theorem State.Canon.blkDone (h : s.Canon) {n} : (s.blkDone n).Canon := h.upd.blockReset.inc.set
theorem State.Canon.blkForced (h : s.Canon) {n} : (s.blkForced n).Canon := h.inc.set.raise
theorem State.Canon.execBlockReset (h : s.Canon) : CanonOut (execBlockReset s) := h.blkGo.next
theorem State.Canon.execBlockIdleReached (h : s.Canon) : CanonOut (execBlockIdleReached s) := by
  unfold Machine.execBlockIdleReached
  split
  · exact .ite h.blkDone.next h.next
  · exact h.next
theorem State.Canon.execBlockIdleTimeout (h : s.Canon) : CanonOut (execBlockIdleTimeout s) := by
  unfold Machine.execBlockIdleTimeout
  split
  · exact .ite h.next h.blkForced.blkDone.next
  · exact h.next
theorem State.Canon.domainFields (h : s.Canon) {d} : (s.domainFields d).Canon := .each h fun _ ht => ht.restore.unhold
theorem State.Canon.domainCfg (h : s.Canon) {d} : (s.domainCfg d).Canon := .each h fun _ ht => ht.cfgReg
theorem State.Canon.domainReset (h : s.Canon) {d} : (s.domainReset d).Canon :=
  .domainCfg (.domainFields (.each (.each h fun _ ht => ht.blockReset) fun _ ht => ht.linkDown.portOff))
theorem State.Canon.domainGone (h : s.Canon) {d} : (s.domainGone d).Canon :=
  .islands (.setBit (.also (.also (.each (.each h fun _ ht => ht.blockReset) fun _ ht => ht.linkDown)
      fun hs => .each hs fun _ ht => ht.pwmBall.pwmBall) fun hs => .perstDrive (.ite hs.linkLost hs)))
theorem State.Canon.domctlWrite {old : State} (h : s.Canon) (_h1 : old.Canon) : (s.domctlWrite old).Canon := .ite h.set <| .ite h.set h
theorem State.Canon.domSettled (h : s.Canon) : s.domSettled.Canon := h.setIf
theorem State.Canon.execDomainOff (h : s.Canon) {d} : CanonOut (execDomainOff d s) := .ite h.raiseC.domainGone.domSettled.next h.next
theorem State.Canon.readyBall (h : s.Canon) : s.readyBall.Canon := h.emit
theorem State.Canon.degrade (h : s.Canon) : s.degrade.Canon := .ite h.set.readyBall h.set
theorem State.Canon.markOne (h : s.Canon) {cause i} : (s.markOne cause i).Canon := .ite h h.setBit.degrade.evrTake.raiseC
theorem State.Canon.markItem (h : s.Canon) {i cause} : (s.markItem i cause).Canon :=
  .ite h (.also (.ite h.markOne.linkDown.portOff h.markOne) fun hs => .tripAll (.set (.each hs fun _ ht => ht.markOne)))
theorem State.Canon.calClear (h : s.Canon) {i} : (s.calClear i).Canon := .ite h.set h
theorem State.Canon.calSet (h : s.Canon) {ok x} : (s.calSet ok x).Canon := .ite h.calClear <| .ite h.set.set.set h
theorem State.Canon.execDomainOn (h : s.Canon) {d failed cals} : CanonOut (execDomainOn d failed cals s) :=
  .ite (.next (.domSettled (.unless (.each (.each h.setBit.islands.domainReset.raiseC fun _ ht => ht.calSet) fun _ ht => ht.markItem)
      fun hs => hs.set.evrTake.raiseC))) h.next
theorem State.Canon.gtbKeep (h : s.Canon) : s.gtbKeep.Canon := .each h.upd.set.set.refreshQual fun _ ht => ht.refreshSlot
theorem State.Canon.backNote (h : s.Canon) {boot src w} : (s.backNote boot src w).Canon := .ite h.upd h.raise
theorem State.Canon.gtbRestore (h : s.Canon) {boot} : (s.gtbRestore boot).Canon :=
  .ite h.upd.set.set.set.set.refreshQual (.also h.upd.set.set.set.set.refreshQual.backNote fun hs => hs.backNote)
theorem State.Canon.forget (h : s.Canon) {p} : (s.forget p).Canon := ⟨s.forget_wf p h.wf⟩
theorem State.Canon.coreHidden {s0 : State} (h : s0.Canon) {kind} : (s0.coreHidden kind).Canon := .ite h.upd.forget <| .ite h.upd.forget h.upd.forget
theorem State.Canon.hiddenReset (h : s.Canon) {kind} : (s.hiddenReset kind).Canon :=
  .upd (.coreHidden (.pscDrop (.ite (.each h fun _ ht => ht.pwmReset) (.each h fun _ ht => ht.pwmBall.pwmBall))))
theorem State.Canon.coreDown (h : s.Canon) : s.coreDown.Canon := h.restore.unhold.coreHidden.upd.emit
theorem State.Canon.trxAfter (h : s.Canon) : s.trxAfter.Canon := .each (.each h fun _ ht => ht.canTrx) fun _ ht => ht.linRest
theorem State.Canon.backServe (h : s.Canon) : s.backServe.Canon := .ite h.setIf.setIf.upd.backNote h.setIf.setIf.upd.areaShow
theorem State.Canon.outputsReset (h : s.Canon) {kind} : (s.outputsReset kind).Canon :=
  .each (.ite h h.perstDrive) fun _ ht => .sdfClockOff (.also (.ite ht.emit ht) fun hs => hs.emit)
theorem State.Canon.stormShow (h : s.Canon) : s.stormShow.Canon := h.set
theorem State.Canon.resetKind (h : s.Canon) {kind0 src0} : (s.resetKind kind0 src0).Canon :=
  .emit (.unless (.unless (.emit (.also (.also (.setIf (.set (.upd (.ite (.inc (.set (.set (.addWrap (.set (.set (.ite (.gtbRestore (.backServe
    (.upd (.hiddenReset (.ite (.each h.outputsReset.restoreWarm fun _ ht => ht.setIf) (.each h.outputsReset.restoreCold fun _ ht => ht.set))))))
    (.gtbKeep (.upd (.hiddenReset (.ite (.each h.outputsReset.restoreWarm fun _ ht => ht.setIf)
    (.each h.outputsReset.restoreCold fun _ ht => ht.set)))))))))))) (.set (.set (.set (.addWrap (.set (.set (.ite (.gtbRestore (.backServe (.upd
    (.hiddenReset (.ite (.each h.outputsReset.restoreWarm fun _ ht => ht.setIf) (.each h.outputsReset.restoreCold fun _ ht => ht.set))))))
    (.gtbKeep (.upd (.hiddenReset (.ite (.each h.outputsReset.restoreWarm fun _ ht => ht.setIf)
    (.each h.outputsReset.restoreCold fun _ ht => ht.set)))))))))))))))) fun hs => hs.raise) fun hs => hs.raiseC.emit)) fun hs => hs.trxAfter) fun hs => hs.vcoreFollow)

/-! ### Functions of Machine/Power -/

theorem State.Canon.backRaise (h : s.Canon) {cause} : (s.backRaise cause).Canon := .ite h.raise h.upd
theorem State.Canon.backMin (h : s.Canon) {mv} : (s.backMin mv).Canon := .ite h.set h
theorem State.Canon.toVbak (h : s.Canon) : s.toVbak.Canon := .ite h.set.inc.backRaise h
theorem State.Canon.execBackupToVbak (h : s.Canon) : CanonOut (execBackupToVbak s) := h.toVbak.next
theorem State.Canon.execBackupToVbat (h : s.Canon) : CanonOut (execBackupToVbat s) := h.set.next
theorem State.Canon.execBackupContinuityLoss (h : s.Canon) {mv} : CanonOut (execBackupContinuityLoss mv s) := h.backMin.set.next
theorem State.Canon.execBackupPor (h : s.Canon) : CanonOut (execBackupPor s) := .next (.also h.restore.upd.backRaise fun hs => .ite hs.raise hs.upd)
theorem State.Canon.execBackupGtbRecord (h : s.Canon) {mv crcOk} : CanonOut (execBackupGtbRecord mv crcOk s) :=
  .ite h.upd.backMin.persistCommit.next <| .ite h.upd.backMin.persistCommit.upd.set.set.next h.upd.backMin.persistCommit.upd.set.next
theorem State.Canon.execVbakLow (h : s.Canon) {v} : CanonOut (execVbakLow v s) :=
  .ite h.set.next <| .ite h.set.set.next <| .ite h.set.next h.set.set.backRaise.next
theorem State.Canon.ballsOff (h : s.Canon) {sleep} : (s.ballsOff sleep).Canon :=
  .emit (.emit (.emit (.perstDrive (.each (.each h fun _ ht => ht.pwmBall.pwmBall) fun _ ht => ht.emit.emit.emit))))
theorem State.Canon.diesOff (h : s.Canon) {sleep} : (s.diesOff sleep).Canon := .upd (.set (.each h.ballsOff fun _ ht => ht.linkDown))
theorem State.Canon.execVbatLoss (h : s.Canon) : CanonOut (execVbatLoss s) := .ite h.next h.diesOff.toVbak.upd.next
theorem State.Canon.execVbatValid (h : s.Canon) : CanonOut (execVbatValid s) := .ite h.next h.upd.resetKind.next
theorem State.Canon.execVbatLow (h : s.Canon) {v} : CanonOut (execVbatLow v s) :=
  .ite h.next <| .ite h.set.set.next h.set.set.set.raiseC.vcoreFollow.next
theorem State.Canon.vbatBack (h : s.Canon) {v} : (s.vbatBack v).Canon := .ite h.set.set.raiseC.vcoreFollow h
theorem State.Canon.execVbatHigh (h : s.Canon) {v} : CanonOut (execVbatHigh v s) :=
  .ite h.next <| .ite h.set.vbatBack.next h.set.vbatBack.set.evrTake.raiseC.next
theorem State.Canon.execVbatNormal (h : s.Canon) {v} : CanonOut (execVbatNormal v s) :=
  .ite h.next <| .ite h.set.set.raiseC.vbatBack.next h.set.vbatBack.next
theorem State.Canon.execVcoreThermalStep (h : s.Canon) {tj} : CanonOut (execVcoreThermalStep tj s) :=
  .ite h.setS.next <| .ite (.ite (.next (.vcoreFollow (.ite h.setS.upd h.setS.upd.raiseC))) h.setS.next) <|
    .ite (.next (.vcoreFollow (.ite h.setS.upd.raiseC h.setS.upd))) h.setS.next
theorem State.Canon.execPowerOnReset (h : s.Canon) {src} : CanonOut (execPowerOnReset src s) := .ite h.resetKind.next h.next
theorem State.Canon.execVddCoreCollapse (h : s.Canon) : CanonOut (execVddCoreCollapse s) := .ite h.coreDown.next h.next
theorem State.Canon.execColdReset (h : s.Canon) {src} : CanonOut (execColdReset src s) := .ite h.resetKind.next h.next
theorem State.Canon.execWarmReset (h : s.Canon) {src} : CanonOut (execWarmReset src s) := .ite h.resetKind.next h.next
theorem State.Canon.execDebugNdmreset (h : s.Canon) : CanonOut (execDebugNdmreset s) := .ite h.resetKind.next h.next
theorem State.Canon.execResetPinAssert (h : s.Canon) : CanonOut (execResetPinAssert s) := .ite h.next h.resetKind.upd.next
theorem State.Canon.execResetPinRelease (h : s.Canon) : CanonOut (execResetPinRelease s) := h.upd.next
theorem State.Canon.execMsSupplyReturn (h : s.Canon) {failed cals} : CanonOut (execMsSupplyReturn failed cals s) :=
  .ite h.next (.next (.each (.each (.each (.set (.gtbRestore (.each (.islands
    (.each h.upd fun _ ht => ht.setBit)) fun _ ht => ht.domainReset))) fun _ ht => ht.calClear) fun _ ht => ht.calSet) fun _ ht => ht.markItem))
theorem State.Canon.execCalibrationDone (h : s.Canon) {item ok cal} : CanonOut (execCalibrationDone item ok cal s) :=
  .ite h.next (.next (.ite h.upd.calSet h.upd.calSet.markItem))
theorem State.Canon.oneCopy (h : s.Canon) {i b} : (s.oneCopy i b).Canon := h.set.setBit.degrade
theorem State.Canon.testEnded (h : s.Canon) {i e} : (s.testEnded i e).Canon := by
  unfold State.testEnded
  split
  · exact h
  · exact h.set.raiseC
  · exact .ite h.oneCopy h
  · exact .ite h.raise <| .ite (.each h fun _ ht => ht.markItem) <| .ite h.oneCopy.oneCopy.raiseC h.markItem
theorem State.Canon.execPowerupTestDone (h : s.Canon) {item e} : CanonOut (execPowerupTestDone item e s) :=
  .ite h.next (.next (.setIf (.also h.upd.testEnded fun hs => hs.canStart)))
theorem State.Canon.execCanReady (h : s.Canon) {t} : CanonOut (execCanReady t s) := .ite h.next h.set.set.bootReport.raiseC.readyBall.next
theorem State.Canon.execFullyReady (h : s.Canon) {t peer} : CanonOut (execFullyReady t peer s) :=
  .ite h.next (.next (.readyBall (.raiseC (.also h.setIf.set.set.upd fun hs => .each hs.set fun _ ht => ht.pwmDrive))))
theorem State.Canon.zoneRequest (h : s.Canon) : s.zoneRequest.Canon := .ite h.zoneHigh h
theorem State.Canon.execZoneOkRequest (h : s.Canon) : CanonOut (execZoneOkRequest s) := h.zoneRequest.next
theorem State.Canon.execZoneOkDrop (h : s.Canon) : CanonOut (execZoneOkDrop s) := h.zoneLow.next
theorem State.Canon.execZoneOkWatchdog (h : s.Canon) : CanonOut (execZoneOkWatchdog s) := h.zoneLow.next
theorem State.Canon.wakeRecord (h : s.Canon) {b} : (s.wakeRecord b).Canon := .ite h.setBit h.addWrap.set.set.set.set.upd
theorem State.Canon.execWakeReport (h : s.Canon) {b} : CanonOut (execWakeReport b s) :=
  .ite (.ite h.wakeRecord.resetKind.next h.next) <| .ite h.wakeRecord.next <| .ite h.wakeRecord.next h.next
theorem State.Canon.execSleepCorePowerOff (h : s.Canon) : CanonOut (execSleepCorePowerOff s) :=
  .ite h.next (.next (.also h.diesOff.upd fun hs => hs.resetKind))

/-! ### Functions of Machine/Arch -/

theorem State.Canon.forceTrx (h : s.Canon) {f} : (s.forceTrx f).Canon := .each (.each h fun _ ht => ht.set.canTrx) fun _ ht => ht.set
theorem State.Canon.execSupplyLinkHeartbeat (h : s.Canon) : CanonOut (execSupplyLinkHeartbeat s) :=
  .ite h.next <| .ite h.emit.next h.emit.upd.forceTrx.readyBall.next
theorem State.Canon.beatLost (h : s.Canon) : s.beatLost.Canon :=
  .emit (.perstDrive (.also (.each h.upd.zoneLow.forceTrx fun _ ht => ht.linkDown) fun hs => hs.linkLost))
theorem State.Canon.execInterfaceHeartbeatLoss (h : s.Canon) : CanonOut (execInterfaceHeartbeatLoss s) := .ite h.beatLost.next h.next
theorem State.Canon.execControlLaneIdleHandshake (h : s.Canon) : CanonOut (execControlLaneIdleHandshake s) := .ite h.next h.laneAlive.emit.next
theorem State.Canon.laneLoss (h : s.Canon) : s.laneLoss.Canon := .ite h.upd.tripAll h
theorem State.Canon.execControlLaneLoss (h : s.Canon) : CanonOut (execControlLaneLoss s) := h.laneLoss.next
theorem State.Canon.execCoreSupplyLapse (h : s.Canon) : CanonOut (execCoreSupplyLapse s) := h.set.set.raise.next
theorem State.Canon.execVcoreMeasure (h : s.Canon) {millivolt} : CanonOut (execVcoreMeasure millivolt s) := h.set.set.next
theorem State.Canon.execXtalFallback (h : s.Canon) : CanonOut (execXtalFallback s) :=
  .ite h.next (.next (.refreshQual (.enterHoldover (.also (.each h.upd.set.set.raise fun _ ht => ht.linkDown) fun hs => hs.linkLost))))
theorem State.Canon.execMsSupplyLoss (h : s.Canon) : CanonOut (execMsSupplyLoss s) :=
  .ite h.next (.next (.upd (.each (.set (.islands (.setBit (.gtbReset
    (.each h.zoneLow.raise.twinReport fun _ ht => .ite ht.domainGone ht))))) fun _ ht => ht.emit.emit.emit)))
theorem State.Canon.execMirrorFrameSend (h : s.Canon) : CanonOut (execMirrorFrameSend s) := .ite h.next (.next (.ite h.emit h.emit.upd))
theorem State.Canon.takeOver (h : s.Canon) {hand} : (s.takeOver hand).Canon :=
  .ite (.ite h.upd (.each h.upd fun _ ht => ht.pwmDrive)) <|
    .ite h (.each h.upd.raise.emit.emit.set.inc fun _ ht => .also ht.set.canUpd fun hs => hs.set)
theorem State.Canon.execTakeover (h : s.Canon) : CanonOut (execTakeover s) := h.takeOver.next
theorem State.Canon.execMirrorTimeout (h : s.Canon) : CanonOut (execMirrorTimeout s) := .ite h.set.takeOver.next h.next
theorem State.Canon.execTakeoverPwmEnable (h : s.Canon) {j} : CanonOut (execTakeoverPwmEnable j s) := .ite h.next <| .ite h.upd.pwmDrive.next h.next
theorem State.Canon.handoff (h : s.Canon) : s.handoff.Canon := .ite h.upd.twinReport h
theorem State.Canon.execTwinHandoff (h : s.Canon) : CanonOut (execTwinHandoff s) := h.handoff.next

/-! ### Functions of Machine/Ste -/

theorem State.Canon.roundCheck (h : s.Canon) : s.roundCheck.Canon := .ite h.upd.addWrap.raise h
theorem State.Canon.unitPass (h : s.Canon) {u} : (s.unitPass u).Canon := h.upd.addWrap.roundCheck
theorem State.Canon.unitRetest (h : s.Canon) {u} : (s.unitRetest u).Canon := h.set.raise
theorem State.Canon.unitFail (h : s.Canon) {u} : (s.unitFail u).Canon := .also h.set.inc.setBit.degrade.raise fun hs => hs.handoff
theorem State.Canon.execSteConditionCheck (h : s.Canon) {rcOk} : CanonOut (execSteConditionCheck rcOk s) :=
  .ite h.set.set.set.set.upd.next <| .ite (.next (.raise (.upd (.each h.set.set.set.set.upd fun _ ht => ht.sliceDrop)))) (.next
    (.each h.set.set.set.set.upd fun _ ht => ht.sliceDrop))
theorem State.Canon.execSteSliceStart (h : s.Canon) {u0} : CanonOut (execSteSliceStart u0 s) :=
  .ite h.next <| .ite h.set.next (.next (.also h.set.set.addWrap.upd fun hs => hs.soloBegin))
theorem State.Canon.execSteSliceEnd (h : s.Canon) {u ok} : CanonOut (execSteSliceEnd u ok s) :=
  .ite h.next <| .ite h.sliceOver.unitRejoin.unitPass.next <| .ite h.sliceOver.unitFail.next h.unitRetest.next
theorem State.Canon.askedSlice (h : s.Canon) {flaky bad u} : (State.askedSlice flaky bad s u).Canon :=
  .ite (.unitFail (.ite h.unitRetest.soloBegin h.unitRetest)) (.unitPass (.ite h.unitRetest h.set))
theorem State.Canon.testDone (h : s.Canon) {code pass sig} : (testDone s code pass sig).s.Canon := h.raise
theorem State.Canon.testFail (h : s.Canon) {code i} : (s.testFail code i).Canon := .ite h.markItem.coreSet.wstat h.markItem
theorem State.Canon.execStRun (h : s.Canon) {m flaky bad ok sig} : CanonOut (execStRun m flaky bad ok sig s) :=
  .ite h.next (h.command (fun ht => .iteS (.iteS ht.fail <| .iteS ht.fail <| .iteS ht.fail ht.askedSlice.testDone) <| .iteS (.iteS ht.fail <|
    .iteS ht.fail (.testDone (.each ht fun _ hu => hu.askedSlice))) <| .iteS ht.fail <| .iteS ht.fail <|
    .iteS ht.fail (.testDone (.ite ht ht.testFail))))
theorem State.Canon.execScanEnable (h : s.Canon) {m} : CanonOut (execScanEnable m s) :=
  h.command (fun ht => .iteS ht.fail (.upd (.forget (.restore (.each (.each ht.raise fun _ hu => hu.coreSet.wstat) fun _ hu => hu.set.tgFinish)))))

/-! ### Functions of Machine/Rgn -/

theorem State.Canon.eccSee (h : s.Canon) {a init scrub e} : (s.eccSee a init scrub e).Canon := by
  unfold State.eccSee
  dsimp only
  split
  · exact h
  · exact h.parityError
  · exact h.inc.raiseSum
  · exact .raise (.ite h.inc h.inc.set.set.set.set.set.set)
theorem State.Canon.execScrubLine (h : s.Canon) {envm e} : CanonOut (execScrubLine envm e s) :=
  .ite h.next (.next (.ite h.eccSee.upd.raiseC h.eccSee.upd))
theorem State.Canon.applyHeld (h : s.Canon) {f} : (s.applyHeld f).Canon := by
  unfold State.applyHeld
  split
  · exact h.upd.set
  · exact h
theorem State.Canon.rctlWrite (h : s.Canon) {t k v} : (s.rctlWrite t k v).Canon := h.applyHeld.applyHeld.applyHeld.applyHeld.set.set
theorem State.Canon.execRegionCtlWrite (h : s.Canon) {r t k v} : CanonOut (execRegionCtlWrite r t k v s) := by
  unfold Machine.execRegionCtlWrite
  split
  · next e =>
      exact .next (.emit (.checkReq e h))
  · exact .ite h.rctlWrite.emit.next h.emit.next
theorem State.Canon.igrpWrite (h : s.Canon) {k v} : (s.igrpWrite k v).Canon := .each h fun _ ht => ht.set.set
theorem State.Canon.execIgrpWrite (h : s.Canon) {r k v} : CanonOut (execIgrpWrite r k v s) := by
  unfold Machine.execIgrpWrite
  split
  · next e =>
      exact .next (.emit (.checkReq e h))
  · exact h.igrpWrite.emit.next
theorem State.Canon.execRegionFence (h : s.Canon) : CanonOut (execRegionFence s) := h.set.next
theorem State.Canon.execRegionFenceComplete (h : s.Canon) : CanonOut (execRegionFenceComplete s) := h.set.next
theorem State.Canon.execWorldWatchdogExpiry (hs : s.Canon) {h} : CanonOut (execWorldWatchdogExpiry h s) := .ite hs.upd.next hs.next
theorem State.Canon.execWatchdogKick (hs : s.Canon) {h r} : CanonOut (execWatchdogKick h r s) := by
  unfold Machine.execWatchdogKick
  refine .ite hs.next ?_
  split
  · next e =>
      exact .next (.emit (.checkReq e hs))
  · exact .ite hs.emit.next hs.refuse.emit.next
theorem State.Canon.hartStop (hs : s.Canon) {h} : (s.hartStop h).Canon := .ite hs.sliceAbort.sliceAbort.pairHold hs.coreSet
theorem State.Canon.wstatShow (hs : s.Canon) {h} : (s.wstatShow h).Canon := hs.set
theorem State.Canon.restartBegin (hs : s.Canon) {h reason} : (s.restartBegin h reason).Canon := by
  unfold State.restartBegin
  dsimp only
  refine .ite hs.upd.hartStop.coreSet.set.raiseC ?_
  exact .upd (.hartStop (by split; exacts [hs.set.set.set.inc.raiseC.mbxHartGone.setBytes, hs.set.set.set.inc.raiseC.mbxHartGone]))
theorem State.Canon.execInnerWorldRestartBegin (hs : s.Canon) {h} : CanonOut (execInnerWorldRestartBegin h s) := by
  unfold Machine.execInnerWorldRestartBegin
  split
  · exact .ite hs.restartBegin.next hs.next
  · exact hs.next
theorem State.Canon.execInnerWorldRestartComplete (h : s.Canon) {h0} : CanonOut (execInnerWorldRestartComplete h0 s) := by
  unfold Machine.execInnerWorldRestartComplete
  dsimp only
  split
  · exact .ite h.next <| .ite h.upd.innerLoad.set.hartStart.raiseC.next h.upd.innerLoad.coreSet.set.raiseC.next
  · exact h.next
/-- Slots set as asked, where enough are free, leave a memory in canonical form. -/
def CanonOpt : Option State → Prop
  | some t => t.Canon
  | none => True

theorem CanonOpt.ite {c : Prop} [Decidable c] {a b : Option State} (ha : CanonOpt a) (hb : CanonOpt b) : CanonOpt (if c then a else b) := by
  split <;> assumption

theorem State.Canon.cutSlots (h : s.Canon) {t lo hi} : CanonOpt (s.cutSlots t lo hi) := by
  refine List.foldlRecOn _ _ (motive := CanonOpt) h fun a ha r _ => ?_
  cases a with
  | none => trivial
  | some u =>
    have hu : u.Canon := ha
    refine .ite hu <| .ite hu.set <| .ite hu.set <| .ite hu.set ?_
    split
    · trivial
    · exact hu.set.slotSet
theorem State.Canon.grantedOpt (h : s.Canon) {l perm} : CanonOpt (s.grantSlots l perm) := by
  refine List.foldlRecOn _ _ (motive := CanonOpt) h fun a ha x _ => ?_
  cases a with
  | none => trivial
  | some u =>
    have hv := State.Canon.cutSlots (s := u) (t := x.1) (lo := x.2.1) (hi := x.2.2) ha
    dsimp only
    split
    · trivial
    · next e => rw [e] at hv; exact hv
    · next e =>
      rw [e] at hv
      split
      · trivial
      · exact State.Canon.slotSet hv

theorem State.Canon.grantSlots (h : s.Canon) {l perm} (e : s.grantSlots l perm = some t) : t.Canon := by
  have ht := h.grantedOpt (l := l) (perm := perm)
  rw [e] at ht
  exact ht
theorem State.Canon.unpend (h : s.Canon) {src} : (s.unpend src).1.Canon := .iteFst h.upd h.upd
theorem State.Canon.reroute (h : s.Canon) {l dest} : (s.reroute l dest).1.Canon :=
  List.foldlRecOn l _ (motive := fun a : State × Nat => a.1.Canon) h fun _ ha _ _ => ha.unpend.set.set.set
theorem State.Canon.handReset (h : s.Canon) {late blocks} : (s.handReset late blocks).1.Canon :=
  List.foldlRecOn blocks _ (motive := fun a : State × Nat => a.1.Canon) h fun _ ha _ _ =>
    .iteFst ha <| .inc <| .blockReset <| .ite ha.evrTake.blkForced ha
theorem State.Canon.handDone (h : s.Canon) {kind forced cleared} : (handDone s kind forced cleared).s.Canon := h.raise
theorem State.Canon.handPages (h : s.Canon) {m o kind fl first n owner late} : (s.handPages m o kind fl first n owner late).s.Canon := by
  unfold State.handPages
  dsimp only
  split
  · exact h.fail
  · refine .iteS h.fail <| .iteS h.fail ?_
    split
    · exact h.fail
    · next e =>
      refine .handDone <| .reroute <| .also ?_ fun hs => .each hs fun _ ht => ht.zero
      exact .shared (.iteFst (h.grantSlots e).handReset (h.grantSlots e)) fun hr =>
        .ite (.ite hr.restoreBlock.upd hr.restoreBlock) hr
theorem State.Canon.handPsc (h : s.Canon) {m o fl first n owner} : (s.handPsc m o fl first n owner).s.Canon :=
  .iteS h.fail <| .iteS h.fail (.handDone (.reroute (.each h fun _ ht => ht.set.set.set)))
theorem State.Canon.handCan (h : s.Canon) {m o fl first n owner c} : (s.handCan m o fl first n owner c).s.Canon :=
  .iteS h.fail <| .iteS h.fail (.handDone (.also (.also (.each h fun _ ht => ht.set.set.set) fun hs => .each hs fun _ ht => ht.canAbort.set)
      fun hs => .each hs fun _ ht => ht.restore.zero))
theorem State.Canon.handSources (h : s.Canon) {o fl first n owner} : (s.handSources o fl first n owner).s.Canon :=
  .iteS h.fail <| .iteS h.fail h.reroute.handDone
theorem State.Canon.execHandover (h : s.Canon) {m late} : CanonOut (execHandover m late s) :=
  h.command (fun ht => .iteS ht.fail <| .iteS ht.fail <| .iteS ht.handPsc <| .iteS ht.handCan <| .iteS ht.handSources ht.handPages)

end Sys2Proof.Machine
end

section
/-! PROOFS. Canonical memory, part 6 of 8: Compass, the event ring and the fabric. One lemma per function of the model, in its order. -/

namespace Sys2Proof.Machine
open Sys2Proof

variable {s t : State} {r : EthRun}

/-! ### Functions of Machine/Compass -/

theorem State.Canon.execMbxCommandComplete (h : s.Canon) : CanonOut (execMbxCommandComplete s) := by
  unfold Machine.execMbxCommandComplete
  dsimp only
  split
  · refine .ite h.next ?_
    split
    · next e =>
        exact .next (.mbxComplete (.upd (.takeUp e h)))
    · exact h.next
  · exact .ite h.mbxComplete.resetKind.next h.mbxComplete.next
  · exact h.next
theorem State.Canon.commandNv (h : s.Canon) {m op mask inner recov} {body : State → CmdRes} (hb : ∀ {t}, t.Canon → (body t).s.Canon) :
    CanonOut (s.commandNv m op mask inner recov body) := .ite h.set.next (h.command hb)
theorem State.Canon.ksSet (h : s.Canon) {g} : (s.ksSet g).Canon := h.upd
theorem State.Canon.orRun {k : CmdRes} (h : s.Canon) (h1 : k.s.Canon) {e} : (CmdRes.orRun s e k).s.Canon := .iteS h.fail h1
theorem State.Canon.execGetInfo (h : s.Canon) {m} : CanonOut (execGetInfo m s) := h.command (fun ht => ht)
theorem State.Canon.execGetBootstat (h : s.Canon) {m} : CanonOut (execGetBootstat m s) := h.command (fun ht => ht)
theorem State.Canon.execEcho (h : s.Canon) {m} : CanonOut (execEcho m s) := h.command (fun ht => ht)
theorem State.Canon.withToken (h : s.Canon) {m op kind} {k : State → CmdRes} (hk : ∀ {t}, t.Canon → (k t).s.Canon) : (s.withToken m op kind k).s.Canon :=
  .orRun h <| .iteS h <| .iteS h.upd.raise (hk h.upd)
theorem State.Canon.lcSet (h : s.Canon) {lc} : (s.lcSet lc).Canon := h.ksSet.showLc.raise
theorem State.Canon.lcErase (h : s.Canon) : s.lcErase.Canon := h.bankErase.bankErase.ksSet.upd
theorem State.Canon.execProvDevid (h : s.Canon) {m secret attest devId} : CanonOut (execProvDevid m secret attest devId s) :=
  h.commandNv (fun ht => .withToken ht fun hu => hu.ksSet.lcSet)
theorem State.Canon.execLcAdvance (h : s.Canon) {m} : CanonOut (execLcAdvance m s) :=
  h.commandNv (fun ht => .iteS ht.fail <| .iteS (.withToken ht fun hu => hu.bankErase.bankErase.lcSet) <| .iteS ht.fail <|
    .iteS ht.fail (by split; exacts [ht.fail, .iteS ht.fail ht.ksSet.lcSet]))
theorem State.Canon.execLcReturn (h : s.Canon) {m} : CanonOut (execLcReturn m s) := h.commandNv (fun ht => .withToken ht fun hu => hu.lcErase.lcSet)
theorem State.Canon.execLcEnd (h : s.Canon) {m} : CanonOut (execLcEnd m s) := h.commandNv (fun ht => .iteS ht.fail ht.lcErase.ksSet.lcSet)
theorem State.Canon.execLcChallenge (h : s.Canon) {m nonce} : CanonOut (execLcChallenge m nonce s) := h.command (fun ht => ht.upd)
theorem State.Canon.execNonceExpiry (h : s.Canon) : CanonOut (execNonceExpiry s) := h.upd.next
theorem State.Canon.execDbgUnlock (h : s.Canon) {m} : CanonOut (execDbgUnlock m s) := h.command (fun ht => .withToken ht fun hu => hu.upd)
theorem State.Canon.execProvRootkey (h : s.Canon) {m} : CanonOut (execProvRootkey m s) :=
  h.commandNv (fun ht => .iteS ht.fail (.orRun ht (.iteS ht.fail ht.ksSet.res)))
theorem State.Canon.execKeyRevoke (h : s.Canon) {m} : CanonOut (execKeyRevoke m s) :=
  h.commandNv (fun ht => .withToken ht fun hu => .iteS hu.fail <| .iteS hu.fail hu.ksSet.res)
theorem State.Canon.execMeasRead (h : s.Canon) {m} : CanonOut (execMeasRead m s) := h.command (fun ht => .iteS ht.fail (.orRun ht ht.setBytes))
theorem State.Canon.execMeasExtend (h : s.Canon) {m} : CanonOut (execMeasExtend m s) := h.command (fun ht => .iteS ht.fail (.orRun ht ht.measExtend))
theorem State.Canon.execQuote (h : s.Canon) {m} : CanonOut (execQuote m s) :=
  h.command (fun ht => .iteS ht.fail (.orRun ht (.iteS ht.fail ht.draw.setBytes)))
theorem State.Canon.execGetCert (h : s.Canon) {m} : CanonOut (execGetCert m s) := h.command (fun ht => .orRun ht ht.setBytes)
theorem State.Canon.execVerifyImage (h : s.Canon) {m} : CanonOut (execVerifyImage m s) :=
  h.command (fun ht => .iteS ht.fail (.orRun ht (.iteS ht.fail <| .iteS ht.fail <| .iteS ht.fail <| .ite ht ht.measExtend)))
theorem State.Canon.execUpdBegin (h : s.Canon) {m nvmOk} : CanonOut (execUpdBegin m nvmOk s) :=
  h.commandNv (fun ht => .iteS ht.fail <| .iteS ht.fail <| .iteS ht.fail ht.recCommit.ksSet.raiseC.res)
theorem State.Canon.updProgram (h : s.Canon) {o l} : (s.updProgram o l).Canon := h.setBytes.ksSet
theorem State.Canon.execUpdWrite (h : s.Canon) {m nvmOk} : CanonOut (execUpdWrite m nvmOk s) :=
  h.commandNv (fun ht => .iteS ht.fail (.orRun ht (.iteS ht.fail <| .iteS ht.fail ht.updProgram)))
theorem State.Canon.execUpdFromXspi (h : s.Canon) {m data nvmOk} : CanonOut (execUpdFromXspi m data nvmOk s) :=
  h.commandNv (fun ht => .iteS ht.fail <| .iteS ht.fail <| .iteS ht.fail (by split; exacts [.iteS ht.fail ht.updProgram, ht.fail]))
theorem State.Canon.eccBank (h : s.Canon) {b bad} : (s.eccBank b bad).Canon := .each h fun _ ht => ht.eccSee
theorem State.Canon.execUpdVerify (h : s.Canon) {m bad} : CanonOut (execUpdVerify m bad s) :=
  h.commandNv (fun ht => .iteS ht.fail (.orRun ht.eccBank ht.ksSet.res))
theorem State.Canon.execUpdActivate (h : s.Canon) {m} : CanonOut (execUpdActivate m s) :=
  h.commandNv (fun ht => .iteS ht.fail <| .iteS ht.fail ht.ksSet.raiseC)
theorem State.Canon.execUpdConfirm (h : s.Canon) {m} : CanonOut (execUpdConfirm m s) :=
  h.commandNv (fun ht => by split; exacts [ht.fail, .iteS ht.fail ht.ksSet.upd.raiseC])
theorem State.Canon.execUpdRevert (h : s.Canon) {m} : CanonOut (execUpdRevert m s) :=
  h.commandNv (fun ht => .iteS ht.fail <| .iteS ht.fail <| .iteS ht.fail ht.ksSet.raiseC)
theorem State.Canon.execCfgRead (h : s.Canon) {m} : CanonOut (execCfgRead m s) :=
  h.command (fun ht => by split; exacts [ht.fail, .iteS ht.fail (by split; exacts [ht, ht.fail])])
theorem State.Canon.execCfgWrite (h : s.Canon) {m nvmOk} : CanonOut (execCfgWrite m nvmOk s) :=
  h.commandNv (fun ht => by split; exacts [ht.fail, .iteS ht.fail <| .iteS ht.fail ht.recCommit.res])
theorem State.Canon.execEnvmRefresh (h : s.Canon) {m corrected ecc nvmOk} : CanonOut (execEnvmRefresh m corrected ecc nvmOk s) :=
  .ite (h.command (fun ht => .iteS ht.fail <| .iteS ht.eccSee.fail <|
    .iteS (.fail (.each ht fun _ hu => hu.eccSee)) (.each ht fun _ hu => hu.eccSee))) (h.commandNv (fun ht => .iteS ht.fail <|
    .iteS ht.eccSee.fail <| .iteS (.fail (.each ht fun _ hu => hu.eccSee)) (.each ht fun _ hu => hu.eccSee)))
theorem State.Canon.execPersistRead (h : s.Canon) {m} : CanonOut (execPersistRead m s) := h.command (fun ht => .orRun ht ht.setBytes)
theorem State.Canon.execPersistClear (h : s.Canon) {m} : CanonOut (execPersistClear m s) := h.command (fun ht => ht.upd)
theorem State.Canon.execInnerRestart (h : s.Canon) {m} : CanonOut (execInnerRestart m s) :=
  h.command (fun ht => .iteS ht.fail <| .iteS ht.fail <| .iteS ht ht.restartBegin)
theorem State.Canon.execResetReq (h : s.Canon) {m} : CanonOut (execResetReq m s) := by
  unfold Machine.execResetReq
  dsimp only
  refine .ite ?_ (h.command (fun ht => ht.fail))
  split
  · next e =>
      exact .next (.resetKind (.takeUp e h))
  · exact h.next
theorem State.Canon.wrapping (h : s.Canon) {m grow f} : (s.wrapping m grow f).s.Canon := by
  unfold State.wrapping
  dsimp only
  refine .iteS h.fail <| .iteS h.fail <| .iteS h.fail <| .iteS h.fail ?_
  split
  · exact h.setBytes
  · exact h.fail
theorem State.Canon.execKeyWrap (h : s.Canon) {m} : CanonOut (execKeyWrap m s) := h.command (fun ht => ht.wrapping)
theorem State.Canon.execKeyUnwrap (h : s.Canon) {m} : CanonOut (execKeyUnwrap m s) := h.command (fun ht => ht.wrapping)
theorem State.Canon.execRng (h : s.Canon) {m bytes} : CanonOut (execRng m bytes s) := h.command (fun ht => .iteS ht.fail (.orRun ht ht.setBytes))
theorem State.Canon.xspi (h : s.Canon) {op a n} : (s.xspi op a n).Canon := h.emit
theorem State.Canon.execXspiInit (h : s.Canon) {m found} : CanonOut (execXspiInit m found s) :=
  h.command (fun ht => .iteS ht.fail <| .iteS ht.fail (by split; exacts [ht.xspi.upd, ht.xspi.fail]))
theorem State.Canon.execXspiRead (h : s.Canon) {m data} : CanonOut (execXspiRead m data s) :=
  h.command (fun ht => .iteS ht.fail (.orRun ht (.iteS ht.fail (by split; exacts [ht.xspi.setBytes, ht.fail]))))
theorem State.Canon.execXspiProgram (h : s.Canon) {m ok} : CanonOut (execXspiProgram m ok s) :=
  h.command (fun ht => .iteS ht.fail (.orRun ht (.iteS ht.fail <| .iteS ht.fail <| .iteS ht.emit.fail ht.emit)))
theorem State.Canon.execXspiErase (h : s.Canon) {m ok} : CanonOut (execXspiErase m ok s) :=
  h.command (fun ht => .iteS ht.fail <| .iteS ht.fail <| .iteS ht.fail <| .iteS ht.xspi.fail ht.xspi.upd)
theorem State.Canon.execXspiEraseDone (h : s.Canon) : CanonOut (execXspiEraseDone s) := h.upd.next
theorem State.Canon.bootWith (h : s.Canon) {b bad} : (s.bootWith b bad).1.Canon := h.eccBank.bootTry
theorem State.Canon.execSecureBoot (h : s.Canon) {bad us} : CanonOut (execSecureBoot bad us s) :=
  .ite h.next <| .ite h.set.next <| .ite (.next (.recovery (.upd (.also h.set.eraseFinish.showLc fun hs => hs.set.set.islands)))) <|
    .ite (.next (.bootWith (.also (.upd (.also h.set.eraseFinish.showLc fun hs => hs.set.set.islands)) fun hs => hs.ksSet))) <|
    .ite (.next (.bootWith (.bootWith (.also (.upd (.also h.set.eraseFinish.showLc fun hs => hs.set.set.islands)) fun hs => hs.ksSet)))) (.next
    (.recovery (.bootWith (.bootWith (.also (.upd (.also h.set.eraseFinish.showLc fun hs => hs.set.set.islands)) fun hs => hs.ksSet)))))

/-! ### Functions of Machine/Evr -/

theorem State.Canon.execEventEnterEvr (h : s.Canon) : CanonOut (execEventEnterEvr s) := h.sortTake.next
theorem State.Canon.execEventRelease (h : s.Canon) {b} : CanonOut (execEventRelease b s) := by
  unfold Machine.execEventRelease
  dsimp only
  split
  · exact h.next
  · exact h.upd.deliver.persistCommit.next
theorem State.Canon.execLateEventRelease (h : s.Canon) {b} : CanonOut (execLateEventRelease b s) := by
  unfold Machine.execLateEventRelease
  dsimp only
  split
  · exact h.next
  · exact h.upd.deliver.persistCommit.next
theorem State.Canon.execLogRecordWrite (h : s.Canon) {parity} : CanonOut (execLogRecordWrite parity s) := by
  unfold Machine.execLogRecordWrite
  dsimp only
  refine .ite h.next ?_
  split
  · exact h.next
  · refine .ite h.next ?_
    split
    · next e =>
        exact .next (.raise (.set (.fst_eq e h.fabWrite)))
    · next e =>
        exact .next (.setIf (.set (.pathPop (.fst_eq e h.fabWrite))))
theorem State.Canon.execTraceRecordHandoff (h : s.Canon) : CanonOut (execTraceRecordHandoff s) := by
  unfold Machine.execTraceRecordHandoff
  refine .ite h.next ?_
  split
  · exact h.next
  · exact h.pathPop.emit.next
theorem State.Canon.execAlarmAck (h : s.Canon) {src count} : CanonOut (execAlarmAck src count s) := by
  unfold Machine.execAlarmAck
  dsimp only
  split
  · exact h.next
  · exact .ite h.set.set.set.set.next <| .ite h.set.next h.next

/-! ### Functions of Machine/Fabric -/

theorem State.Canon.ran (h : s.Canon) {o} (ho : CanonOut o) : (s.ran o).Canon := by
  cases o with
  | next t => exact ho
  | fault r => exact h
  | refused r => exact h
theorem State.Canon.sysWrite {old : State} (h : old.Canon) (h1 : s.Canon) {a v} : (sysWrite a v old s).Canon :=
  .ite (.ite (.ignored h1 h) <| .ite h1.handoff h1) h1
theorem State.Canon.powerWrite {old : State} (h : old.Canon) (h1 : s.Canon) {a v} : (powerWrite a v old s).Canon :=
  .ite (.ite (.setIf (.ignored h1 h)) <| .ite h1.set.blkGo h1) <| .ite (.domctlWrite h1 h) <| .ite h1.vcoreFollow h1
theorem State.Canon.gtbWrite {old : State} (_h : old.Canon) (h1 : s.Canon) {a v} : (gtbWrite a v old s).Canon :=
  .ite (.ite h1.set h1.setS) <| .ite (.refreshSlot (.refreshSlot (.enterHoldover (.ite h1.upd h1)))) <|
    .ite (.also (.ite (.ran h1 h1.execSlewStart) h1) fun hs => .ran hs hs.execGtbStep) <| .ite (.ite (.ran h1 h1.execSnapshotTake) h1) <|
    .ite (.ite (.refreshSlot (.ite h1.enterHoldover h1)) <| .ite h1.set h1.refreshSlot) <| .ite (.ite (.ite h1.arm.fireLate h1.arm) <|
    .ite (.ite h1.fireLate h1) h1) <| .ite (.ite h1.upd.capShow h1) h1
theorem State.Canon.crsRegWrite {old : State} (h : old.Canon) (h1 : s.Canon) {a v} : (crsRegWrite a v old s).Canon :=
  .ite (.also (.ite h1.zoneRequest h1) fun hs => hs.zoneLow) (.crsWrite h h1)
theorem blockWrite_keeps : WriteHook.Keeps blockWrite := fun _ _ _ _ h h1 =>
  .ite (h.sysWrite h1) <| .ite (h.powerWrite h1) <| .ite (h.gtbWrite h1) <| .ite (h1.ran h1.execAlarmAck) <|
    .ite (.ite h1.ckBegin <| .ite h1.track h1) <| .ite (h.tgWrite h1) <| .ite (h.convWrite h1) <| .ite h1.pscWrite <|
    .ite (h.eswWrite h1) <| .ite (h.canWrite h1) <| .ite (h.linWrite h1) <| .ite (h.crsRegWrite h1) <| .ite h1.track <|
    .ite (h.pcieRegWrite h1) <| .ite (h.vimWrite h1) h1
theorem State.Canon.sysCap (h : s.Canon) : s.sysCap.Canon := h.set.set.set.set.set.set
theorem State.Canon.blockBefore (h : s.Canon) {a} : (blockBefore a s).Canon :=
  .ite h.set.set <| .ite h.sysCap <| .ite (.ite h h.set) <| .ite h.stormShow <| .ite h.set <| .ite (.ite h.pairShow h) <|
    .ite (.ite h.set.set.set h) <| .ite (.ite h.wstatShow h) <| .ite h.convBefore <| .ite h.pscBefore <| .ite h.eswBefore <| .ite h.canBefore <|
    .ite h.crsBefore <| .ite h.set h
theorem State.Canon.blockAfter (h : s.Canon) {a} : (blockAfter a s).Canon := .ite h.convAfter <| .ite h.pscAfter h

theorem blockRead_keeps : ReadHook.Keeps blockRead := fun _ _ h => ⟨h.blockBefore, h.blockAfter⟩
theorem State.Canon.mbxWrite4 (h : s.Canon) {r vi a v} : (s.mbxWrite4 r vi a v).Canon := by
  unfold State.mbxWrite4
  exact .ite h <| .ite (.ite h <| .ite h.mbxGo h.set) <| .ite (.ite (.ite h.mbxClaim h) <| .ite h.mbxRelease h) <| .ite (.ite h.set h) h
theorem State.Canon.mbxRead4 (h : s.Canon) {r a} : (s.mbxRead4 r a).2.Canon := by
  unfold State.mbxRead4
  exact .iteSnd (.iteSnd (.read4 h blockRead_keeps) <| .iteSnd (.read4 h blockRead_keeps) h) (.read4 h blockRead_keeps)
theorem State.Canon.rgnWrite4 (h : s.Canon) {r a v} : (s.rgnWrite4 r a v).1.Canon := by
  unfold State.rgnWrite4
  dsimp only
  split
  · exact .iteFst h.igrpWrite.fst <| .iteFst h.refuse.fst (.fst (.write4 h blockWrite_keeps))
  · exact .iteFst h.fst <| .iteFst h.fst <| .iteFst h.rctlWrite.fst <| .iteFst h.upd.fst h.fst
theorem State.Canon.canRefuse (h : s.Canon) {c o a r k} : (s.canRefuse c o a r k).Canon := h.refuse.raiseC
theorem State.Canon.canGuard {c off a r vi k} (e : s.canGuard c off a r vi k = some t) (h : s.Canon) : t.Canon := by
  unfold State.canGuard at e
  split at e
  · cases e
  · split at e
    · cases e; exact h.canRefuse
    · split at e <;> cases e
      exact h
theorem State.Canon.word (h : s.Canon) {r vi a v} : (s.word r vi a v).1.Canon := by
  have hm : ((s.mirrored a v).write4 blockWrite a v).Canon := .write4 h.mirrored blockWrite_keeps
  unfold State.word
  dsimp only
  split
  · exact h.mbxWrite4.fst
  · refine .iteFst h.rgnWrite4 <| .iteFst h <| .iteFst h.pscCommand ?_
    split
    · exact .fst (.ite h.mirrored.fdbWindow h)
    · refine .iteFst ?_ <| .iteFst h.mirrored.gwTableWrite.fst hm.fst
      split
      · next e => exact .canGuard e h
      · exact .iteFst h.mirrored.store.fst hm.fst
theorem State.Canon.regFabWrite (h : s.Canon) {r vi a size v} : (s.regFabWrite r vi a size v).1.Canon :=
  .iteFst h.word <| .iteFst h.fst <| .iteFst (.fst (.regWrite h.mirrored8 blockWrite_keeps)) h.word.word.fst
theorem State.Canon.regFabRead0 (h : s.Canon) {r vi a size} : (s.regFabRead0 r vi a size).1.Canon := by
  have hr {dbg} : (s.regRead blockRead r.id dbg a size).2.Canon := h.regRead blockRead_keeps
  unfold State.regFabRead0
  dsimp only
  split
  · exact h
  · split
    · exact .iteFst h.mbxRead4.fst h.mbxRead4.mbxRead4.fst
    · refine .iteFst ?_ hr.fst
      split
      · next e => exact .canGuard e h
      · exact .iteFst h.fst hr.fst
theorem State.Canon.regFabRead (h : s.Canon) {r vi a size} : (s.regFabRead r vi a size).1.Canon := .iteFst h.regFabRead0 h.regFabRead0
theorem State.Canon.viCanMay (h : s.Canon) {i c ch o} : (s.viCanMay i c ch o).1.Canon := .iteFst h <| .iteFst h.inc h.viUpd
theorem State.Canon.viPsc (h : s.Canon) {i n op r} : (s.viPsc i n op r).1.Canon := .iteFst h.set.inc h.pscCommand
theorem State.Canon.tgMemWrite (h : s.Canon) {a size v} : (s.tgMemWrite a size v).Canon := .ite h.tgFabricDmem (.each h fun _ ht => ht.store)
theorem viPageHook_keeps {i : Nat} : WriteHook.Keeps (viPageHook i) := fun _ _ _ _ _ ht => .ite ht.viReset ht
theorem State.Canon.msixWrite (h : s.Canon) {i x n v} : (s.msixWrite i x n v).Canon :=
  .each (.each h fun _ ht => .ite ht ht.setByte) fun _ ht => .ite ht.setByte.msix ht
theorem State.Canon.viWord (h : s.Canon) {i r x v} : (s.viWord i r x v).1.Canon := by
  have hb {t : State} {b} (ht : t.Canon) : ((t.mirrored b v).write4 blockWrite b v).Canon := .write4 ht.mirrored blockWrite_keeps
  unfold State.viWord
  extract_lets a
  split
  · exact h
  · exact h.msixWrite.fst
  · exact .iteFst (.iteFst h h.viDoorbell.fst) <| .iteFst h (.fst (.write4 h viPageHook_keeps))
  · exact .iteFst h h.viPsc
  · exact .iteFst h <| .iteFst (hb h).fst <| .iteFst (hb h).fst h.upd.fst
  · refine .iteFst h ?_
    split
    · next e => exact .canGuard e h
    · exact .iteFst (.iteFst (hb h.viCanMay).fst h.viCanMay) (hb h).fst
  · refine .iteFst h <| .iteFst h.tgMemWrite.fst <| .iteFst ?_ (.fst (.write4 h blockWrite_keeps))
    split
    · next e => exact .canGuard e h
    · exact h.mirrored.store.fst
theorem State.Canon.viWordRead (h : s.Canon) {i r x} : (s.viWordRead i r x).1.Canon := by
  unfold State.viWordRead
  dsimp only
  split
  · exact h
  · exact h
  · exact .read4 h blockRead_keeps
  · exact h
  · exact .read4 h blockRead_keeps
  · split
    · next e =>
        exact .canGuard e h
    · exact .read4 h blockRead_keeps
  · refine .iteFst h <| .iteFst ?_ (.read4 h blockRead_keeps)
    split
    · next e =>
        exact .canGuard e h
    · exact h
theorem State.Canon.viPage (h : s.Canon) {r acc a size v} : (s.viPage r acc a size v).1.Canon :=
  .iteFst h.refuse.fst <| .iteFst h.viStale.fst <| .iteFst (.iteFst (.fst (.regWrite h viPageHook_keeps)) (.fst (.regRead h blockRead_keeps))) <|
    .iteFst (.fst (.iteFst h.viWord.viWord h.viWord.fst)) (.fst (.iteFst h.viWordRead.viWordRead h.viWordRead.fst))
theorem State.Canon.ramAccess (h : s.Canon) {r acc a size v e} : (s.ramAccess r acc a size v e).1.Canon :=
  .iteFst (.ite h.eccSee h) <| .iteFst (.store (.ite h.eccSee h)) <| .ite h.eccSee h
theorem State.Canon.ramLost (h : s.Canon) {a} : (s.ramLost a).Canon := by
  unfold State.ramLost
  dsimp only
  refine .ite h ?_
  split
  · exact h
  · exact .ite h.canAbort <| .ite h.canFull.set.inc.raiseC h
theorem State.Canon.regSpace (h : s.Canon) {r vi acc a size v} : (s.regSpace r vi acc a size v).1.Canon :=
  .iteFst h.viPage <| .iteFst h.regFabWrite h.regFabRead
theorem State.Canon.blockRamDo (h : s.Canon) {r vi acc a size v e} : (s.blockRamDo r vi acc a size v e).1.Canon :=
  .iteFst h.regSpace <| .iteFst h.regSpace.eccSee h.eccSee.ramLost
theorem State.Canon.pcieAccess (h : s.Canon) {r vi acc a size v} : (s.pcieAccess r vi acc a size v).1.Canon := by
  unfold State.pcieAccess
  dsimp only
  refine .iteFst h.pcieOut ?_
  split
  · exact .iteFst h.pcieOut.upd h.pcieOut
  · exact h.pcieOut
theorem State.Canon.fabDo (h : s.Canon) {r vi acc a size v e} : (s.fabDo r vi acc a size v e).1.Canon := by
  unfold State.fabDo
  dsimp only
  refine .iteFst h <| .iteFst h.parityError ?_
  split
  · next e =>
      exact .checkReq e h
  · exact .iteFst h.pcieAccess <| .iteFst (.iteFst h.refuse <| .iteFst h.blockRamDo h.regSpace) <| .iteFst (.iteFst h <|
      .iteFst h.tgMemWrite h) h.ramAccess
theorem State.Canon.fabLrSc (h : s.Canon) {r acc a size v e} : (s.fabLrSc r acc a size v e).1.Canon := by
  unfold State.fabLrSc
  refine .iteFst h.fabDo ?_
  split
  · next e =>
      exact .checkReq e h
  · exact h.fabDo
theorem State.Canon.answer {x : State × FabEnd} (h : x.1.Canon) {r} : (State.answer r x).Canon := by
  unfold State.answer
  split
  · exact h.emit
  · exact h.emit
  · exact h
theorem State.Canon.execFabricRequest (h : s.Canon) {r acc addr size value parityOk ecc} :
    CanonOut (execFabricRequest r acc addr size value parityOk ecc s) :=
  .ite h.next <| .ite h.parityError.emit.next h.fabDo.answer.next
theorem State.Canon.pscTaken (h : s.Canon) {n op r vi a} : (s.pscTaken n op r vi a).1.Canon := by
  unfold State.pscTaken
  dsimp only
  split
  · exact h.pscCommand
  · exact h.viPage
theorem State.Canon.pscWritten (h : s.Canon) {n op r vi} : CanonOut (s.pscWritten n op r vi) := by
  unfold Machine.State.pscWritten
  dsimp only
  split
  · exact h.next
  · refine .ite h.next ?_
    split
    · next e =>
        exact .next (.emit (.checkReq e h))
    · exact .ite h.pscTaken.next h.pscTaken.emit.next
theorem State.Canon.execPscOn (h : s.Canon) {n r vi} : CanonOut (execPscOn n r vi s) := h.pscWritten
theorem State.Canon.execPscOff (h : s.Canon) {n r vi} : CanonOut (execPscOff n r vi s) := h.pscWritten
theorem State.Canon.execPscPwm (h : s.Canon) {n r vi} : CanonOut (execPscPwm n r vi s) := h.pscWritten
theorem State.Canon.execPscClear (h : s.Canon) {n r vi} : CanonOut (execPscClear n r vi s) := h.pscWritten
theorem State.Canon.execPscOlcheck (h : s.Canon) {n r vi} : CanonOut (execPscOlcheck n r vi s) := h.pscWritten
theorem State.Canon.execRegisterWrite (h : s.Canon) {r addr size value} : CanonOut (execRegisterWrite r addr size value s) :=
  .ite h.fabDo.answer.next h.next
theorem State.Canon.execReadClear (h : s.Canon) {r addr} : CanonOut (execReadClear r addr s) := .ite h.fabDo.answer.next h.next
theorem State.Canon.execPairLowWordRead (h : s.Canon) {r addr} : CanonOut (execPairLowWordRead r addr s) := .ite h.fabDo.answer.next h.next

/-! ### Functions of Machine/Inbound -/

theorem State.Canon.inPiece {x : InAcc} (h : x.1.Canon) {r vi write e p} : (State.inPiece r vi write e x p).1.Canon := by
  unfold State.inPiece
  dsimp only
  refine .iteFst h.inc.raiseSum ?_
  split
  · exact h.fabDo
  · exact h.fabDo.inc.raiseSum

theorem State.Canon.inServe (h : s.Canon) {r vi write e l} : (s.inServe r vi write e l).1.Canon := by
  refine List.foldlRecOn l _ (motive := fun x : State × Nat × List Nat => x.1.Canon) h fun x hx t _ => ?_
  cases t with
  | unsupported => exact hx.inc.raiseSum
  | seg a u bs => exact List.foldlRecOn (inPieces a u bs) _ (motive := fun y : InAcc => y.1.Canon) hx fun _ hy _ _ => hy.inPiece
theorem State.Canon.inDone {x : State × ℕ × List ℕ} (h : x.1.Canon) {fn write} : (State.inDone fn write x).Canon := .ite h h.emit
theorem State.Canon.pcieInbound (h : s.Canon) {x} : (s.pcieInbound x).Canon := by
  unfold State.pcieInbound
  dsimp only
  refine .ite h ?_
  split
  · exact h.inc.raise
  · exact .ite h.inServe.inDone <| .ite h.inServe.inDone h.viInbound.inServe.inDone
theorem State.Canon.execPcieInboundRequest (h : s.Canon) {x} : CanonOut (execPcieInboundRequest x s) := h.pcieInbound.next
theorem State.Canon.execPcieFunctionLevelReset (h : s.Canon) {f} : CanonOut (execPcieFunctionLevelReset f s) :=
  .ite h.next <| .ite (.next (.each h.raise fun _ ht => ht.set.set)) <| .ite h.raise.viReset.next h.raise.next

end Sys2Proof.Machine
end

section
/-! PROOFS. Canonical memory, part 7 of 8: the RISC-V cores. One lemma per function of the model, in its order. -/

namespace Sys2Proof.Machine
open Sys2Proof

variable {s t : State} {r : EthRun}

/-! ### Functions of Machine/RvMem -/

theorem Rv.Keeps.fault {α : Type} {v : Va} {code : Nat} : Rv.Keeps (v.fault code : Rv α) := .throw
theorem Rv.Keeps.guestFault {α : Type} {v : Va} {gpa tinst : Nat} : Rv.Keeps (v.guestFault gpa tinst : Rv α) := .throw
theorem State.Canon.noneLogged (h : s.Canon) {c pa k} : (s.noneLogged c pa k).Canon := .ite h <| .ite h.refuse h.refuse
theorem State.Canon.push (h : s.Canon) {c a} : (s.push c a).Canon := h.pairSet
theorem Rv.Keeps.rvCore {c} : Rv.Keeps (rvCore c) := .get fun _ _hs => .pure
theorem Rv.Keeps.rvSet {c g} : Rv.Keeps (rvSet c g) := .modify fun _ ht => ht.coreSet
theorem State.Canon.jUse (h : s.Canon) {c} : (s.jUse c).Canon := h.pairSet.coreSet
theorem Rv.Keeps.agreed {c kind size addr fresh} (hf : Rv.Keeps fresh) : Rv.Keeps (agreed c kind size addr fresh) :=
  .get fun _ hs => .ite hf (by
    split
    · exact .ite .throw (.bind (.set hs.jUse) fun _ => .pure)
    · exact .ite (.bind hf fun _ => .bind (.modify fun _ ht => ht.jrnPut.coreSet) fun _ => .pure) .throw)
theorem State.Canon.coreFab (h : s.Canon) {c acc pa size v e} : (s.coreFab c acc pa size v e).1.Canon := .iteFst h.fabDo.upd h.fabDo
theorem Rv.Keeps.fab {c acc pa size v e} : Rv.Keeps (fab c acc pa size v e) := .modifyGet fun _ ht => ht.coreFab
theorem Rv.Keeps.also {α : Type} {c : Prop} [Decidable c] {m n : Rv α} (hn : Rv.Keeps n) (hm : Rv.Keeps n → Rv.Keeps m) :
    Rv.Keeps (if c then m else n) := .ite (hm hn) hn
theorem Rv.Keeps.presented {c a e act} (ha : ∀ f, act = some f → Rv.Keeps f) : Rv.Keeps (presented c a e act) := by
  refine .get fun _ _ => .bind .rvCore fun _ => .ite ?_ ?_
  · refine .also (.get fun _ hs => ?_) fun hr => .bind (.modify fun _ ht => ht.push.coreSet) fun _ => hr
    split
    · exact .throw
    · exact .ite .throw (.bind (.set hs.jUse.coreSet) fun _ => .pure)
  · split
    · exact .bind .rvSet fun _ => .pure
    · exact .throw
    · split
      · exact ha _ rfl
      · refine .bind .fab fun _ => ?_
        split
        · exact .pure
        · exact .pure
        · exact .get fun _ _ => .ite (.bind .rvSet fun _ => .throw) .throw

theorem Rv.Keeps.presentedBy {c a e f} (hf : Rv.Keeps f) : Rv.Keeps (Machine.presented c a e (some f)) :=
  .presented fun _ e => Option.some.inj e ▸ hf
theorem State.Canon.storeError (h : s.Canon) {c inner addr} : (s.storeError c inner addr).Canon :=
  .ite h.berr <| .ite h.berr.jrnPut.coreSet <| .ite h h.jrnPut
theorem State.Canon.coreWrite (h : s.Canon) {c pa size v e} : (s.coreWrite c pa size v e).1.Canon := h.coreFab.coreSet
theorem Rv.Keeps.posted {c kind pa size v e} : Rv.Keeps (posted c kind pa size v e) :=
  .get fun _ hs => .ite (.modify fun _ ht => ht.push) <| .set (.ite hs.coreWrite.storeError hs.coreWrite)
theorem Rv.Keeps.ptRead {c v pa} : Rv.Keeps (ptRead c v pa) := by
  unfold Machine.ptRead
  refine .get fun _ hs => .bind .rvCore fun _ => .ite .fault <| .bind .fab fun _ => ?_
  split
  · exact .pure
  · exact .fault
theorem Rv.Keeps.ptWrite {c v pa pte} : Rv.Keeps (ptWrite c v pa pte) := .get fun _ _hs => .bind .rvCore fun _ => .ite .fault .posted
theorem Rv.Keeps.walk {store va top rd wr ok bad} (hr : ∀ a, Rv.Keeps (rd a)) (hw : ∀ a p, Rv.Keeps (wr a p)) (hb : Rv.Keeps bad) {l base} :
    Rv.Keeps (walk store va top rd wr ok bad l base) := by
  induction l generalizing base with
  | zero => exact hb
  | succ l ih => exact .bind (hr _) fun _ => .ite hb <| .ite (.ite hb ih) <| .ite hb <| .ite (.bind (hw _ _) fun _ => .pure) .pure
theorem Rv.Keeps.gStage {c v need tinst gpa} : Rv.Keeps (gStage c v need tinst gpa) :=
  .bind .rvCore fun _ => .ite .pure <| .ite .guestFault <| .walk (fun _ => .ptRead) (fun _ _ => .ptWrite) .guestFault
theorem Rv.Keeps.translate {c v} : Rv.Keeps (translate c v) :=
  .bind .rvCore fun _ => .ite .pure <| .ite (.ite .gStage .pure) <| .ite .fault <|
    .bind (.walk (fun _ => .bind (.ite .gStage .pure) fun _ => .ptRead) (fun _ _ => .bind
    (.ite .gStage .pure) fun _ => .ptWrite) .fault) fun _ => .ite .gStage .pure
theorem Rv.Keeps.triggers {c m va} : Rv.Keeps (triggers c m va) := by
  unfold Machine.triggers
  refine .get fun _ hs => .bind .rvCore fun _ => .ite .pure <| ?_
  split
  · exact .pure
  · exact .ite (.ite .pure .throw) .throw
theorem Rv.Keeps.located {c v acc} : Rv.Keeps (located c v acc) :=
  .bind .translate fun _ => .get fun _ _hs => .bind .rvCore fun _ => .ite .fault <|
    .ite (.bind (.modify fun _ ht => ht.noneLogged) fun _ => .fault) <| .ite .fault <| .ite .fault .pure
theorem Rv.Keeps.parts {c v acc n} : Rv.Keeps (parts c v acc n) :=
  .bind .located fun _ => .ite .pure <| .ite .fault <| .ite .pure <| .bind .located fun _ => .ite .fault .pure
theorem Rv.Keeps.readParts {c bad seen ps} : Rv.Keeps (readParts c bad seen ps) := by
  induction ps with
  | nil => exact .pure
  | cons p ps ih =>
    refine .get fun _ _ => .bind .fab fun _ => ?_
    split
    · exact .bind ih fun _ => .pure
    · exact .pure
theorem Rv.Keeps.loadAt {c v n o} : Rv.Keeps (loadAt c v n o) :=
  .bind .triggers fun _ => .bind .parts fun _ => .get fun _ _hs => .bind (.ite (.agreed .readParts) <| .presented nofun) fun _ => .ite .fault <|
    .ite (.bind .rvSet fun _ => .pure) .pure
theorem Rv.Keeps.storeParts {c v io ps x} : Rv.Keeps (storeParts c v io ps x) := by
  induction ps generalizing x with
  | nil => exact .pure
  | cons p ps ih => exact .get fun _ hs => .ite (.bind .posted fun _ => ih) (.bind (.set hs.coreWrite) fun _ => .ite (.bind .throw fun _ => ih) ih)
theorem Rv.Keeps.storeAt {c v n x} : Rv.Keeps (storeAt c v n x) := .bind .triggers fun _ => .bind .parts fun _ => .storeParts
theorem Rv.Keeps.plainVa {c m va o} : Rv.Keeps (plainVa c m va o) := .bind .rvCore fun _ => .pure
theorem Rv.Keeps.atomicAt {c f5 n va x o} : Rv.Keeps (atomicAt c f5 n va x o) := by
  unfold Machine.atomicAt
  refine .bind .plainVa fun _ => .bind .triggers fun _ => .ite .fault <| .bind .located fun _ => .ite .fault <| .get fun _ hs => .ite .fault <|
      .bind ?_ fun _ => .ite .fault .pure
  exact .presentedBy (.get fun _ hs2 => .bind .rvCore fun _ => .ite (.bind .rvSet fun _ => .pure) <| .bind (.set (.iteFst hs2.coreFab <|
      .iteFst hs2.coreFab hs2.coreFab.coreSet)) fun _ => .ite (.bind .rvSet fun _ => .ite (.bind .rvSet fun _ => by split; exacts [.pure,
      .pure]) <| by split; exacts [.pure, .pure]) <| .ite (.bind .rvSet fun _ => by split; exacts [.pure, .pure]) <| by split; exacts [.pure, .pure])
theorem Rv.Keeps.agreeLoad {c va o} : Rv.Keeps (agreeLoad c va o) := by
  unfold Machine.agreeLoad
  refine .bind .plainVa fun _ => .bind .triggers fun _ => .ite .fault <|
      .bind .translate fun _ => .get fun _ hs => .bind .rvCore fun _ => .ite .fault <| .bind ?_ fun _ => .ite .fault .pure
  refine .ite (.presented nofun) <| ?_
  exact .agreed (.bind .fab fun _ => by split; exacts [.pure, .pure])
theorem Rv.Keeps.fetchHalf {c va o} : Rv.Keeps (fetchHalf c va o) := by
  unfold Machine.fetchHalf
  refine .bind .rvCore fun _ => .bind .located fun _ => .ite .fault <| .bind .fab fun _ => ?_
  split
  · exact .pure
  · exact .fault
theorem Rv.Keeps.fetchWord {c o} : Rv.Keeps (fetchWord c o) := by
  unfold Machine.fetchWord
  refine .bind .rvCore fun _ => ?_
  split
  · exact .pure
  · exact .bind .triggers fun _ => .bind .fetchHalf fun _ => .ite (.bind .fetchHalf fun _ => .pure) .pure

/-! ### Functions of Machine/RvExec -/

theorem Rv.Keeps.illegal {α : Type} {w : Nat} : Rv.Keeps (illegal w : Rv α) := .throw
theorem Rv.Keeps.virtual {α : Type} {w : Nat} : Rv.Keeps (virtual w : Rv α) := .throw
theorem Rv.Keeps.getX {c r} : Rv.Keeps (getX c r) := .bind .rvCore fun _ => .pure
theorem Rv.Keeps.setX {c r v} : Rv.Keeps (setX c r v) := .rvSet
theorem Rv.Keeps.putX {c w r} : Rv.Keeps (putX c w r) := by
  unfold Machine.putX
  split
  · exact .setX
  · exact .illegal
theorem Rv.Keeps.predict {c} : Rv.Keeps (predict c) := .modify fun _ ht => ht.coreSet
theorem Rv.Keeps.drained {c} : Rv.Keeps (drained c) := .get fun _ _hs => .ite .throw .pure
theorem Rv.Keeps.csrInput {c n} : Rv.Keeps (csrInput c n) :=
  .ite (.bind (.agreed (.modifyGet fun _ ht => ht.csrRead)) fun _ => .pure) <|
    .ite (.bind (.agreed (.modifyGet fun _ ht => ht.csrRead)) fun _ => .pure) <| .bind (.modifyGet fun _ ht => ht.csrRead) fun _ => .pure
theorem Rv.Keeps.csrPut {c n v} : Rv.Keeps (csrPut c n v) := .modify fun _ ht => .ite ht.csrWrite.csrWrite ht.csrWrite
theorem Rv.Keeps.csrInstr {c w} : Rv.Keeps (csrInstr c w) := by
  unfold Machine.csrInstr
  refine .bind .rvCore fun _ => ?_
  dsimp only
  split
  · exact .illegal
  · exact .virtual
  · exact .bind (.ite .csrInput .pure) fun _ => .ite (.bind .csrPut fun _ => .ite (.bind .rvSet fun _ => .setX) .setX) .setX
theorem Rv.Keeps.sretInstr {c w} : Rv.Keeps (sretInstr c w) :=
  .bind .rvCore fun _ => .ite (.ite .virtual .illegal) <| .ite (.ite .virtual <| .bind .rvSet fun _ => .pure) <| .ite .illegal <|
    .bind .rvSet fun _ => .bind (.modify fun _ ht => ht.wstat) fun _ => .pure
theorem Rv.Keeps.mretInstr {c w} : Rv.Keeps (mretInstr c w) :=
  .bind .rvCore fun _ => .ite .illegal <| .bind .rvSet fun _ => .bind (.modify fun _ ht => ht.wstat) fun _ => .pure
theorem Rv.Keeps.wfiInstr {c w} : Rv.Keeps (wfiInstr c w) :=
  .get fun _ _hs => .bind .rvCore fun _ => .ite (.ite .virtual .illegal) <| .ite .illegal <| .ite .virtual <| .ite .pure <| .ite .pure <|
    .ite (.bind .rvSet fun _ => .throw) .pure
theorem Rv.Keeps.fenceVma {c w} : Rv.Keeps (fenceVma c w) :=
  .bind .rvCore fun _ => .ite (.ite (.ite .virtual .drained) <| .ite .illegal .drained) <| .ite .virtual <| .ite .illegal .drained
theorem Rv.Keeps.hyperAccess {c w o} : Rv.Keeps (hyperAccess c w o) :=
  .bind .rvCore fun _ => .ite .illegal <| .ite .virtual <| .ite .illegal <| .ite .storeAt <| .bind .loadAt fun _ => .setX
theorem Rv.Keeps.systemInstr {c w npc} : Rv.Keeps (systemInstr c w npc) :=
  .bind .rvCore fun _ => .ite .throw <| .ite .throw <| .ite .sretInstr <| .ite .mretInstr <| .ite (.bind .wfiInstr fun _ => .pure) <|
    .ite (.bind .fenceVma fun _ => .pure) .illegal
theorem Rv.Keeps.timeAllowed {c w} : Rv.Keeps (timeAllowed c w) := by
  unfold Machine.timeAllowed
  refine .bind .rvCore fun _ => ?_
  split
  · exact .pure
  · exact .illegal
  · exact .virtual
theorem Rv.Keeps.wcallInstr {c w} : Rv.Keeps (wcallInstr c w) := .bind .rvCore fun _ => .ite .illegal .throw
theorem Rv.Keeps.agreeRnd {c w o} : Rv.Keeps (agreeRnd c w o) := .bind (.agreed .pure) fun _ => .setX
theorem Rv.Keeps.agreeCyc {c w} : Rv.Keeps (agreeCyc c w) := .bind .rvCore fun _ => .bind (.agreed .pure) fun _ => .setX
theorem Rv.Keeps.gtbrdInstr {c w} : Rv.Keeps (gtbrdInstr c w) :=
  .bind .timeAllowed fun _ => .get fun _ _hs => .bind (.agreed .pure) fun _ => .bind .rvSet fun _ => .setX
theorem Rv.Keeps.gtbrdXInstr {c w} : Rv.Keeps (gtbrdXInstr c w) :=
  .bind .timeAllowed fun _ => .bind .rvCore fun _ => .bind (.agreed .pure) fun _ => .setX
theorem Rv.Keeps.evpostInstr {c w} : Rv.Keeps (evpostInstr c w) :=
  .bind .rvCore fun _ => .ite .virtual <| .ite .illegal <| .modify fun _ ht => .ite ht.push ht.raise
theorem Rv.Keeps.customInstr {c w o} : Rv.Keeps (customInstr c w o) :=
  .ite .wcallInstr <| .ite .pure <| .ite (.bind .getX fun _ => .bind .agreeLoad fun _ => .setX) <| .ite .agreeRnd <| .ite .agreeCyc <|
    .ite .gtbrdInstr <| .ite .gtbrdXInstr <| .ite .evpostInstr .illegal
theorem Rv.Keeps.loadInstr {c w o} : Rv.Keeps (loadInstr c w o) :=
  .bind .rvCore fun _ => .ite .illegal <| .bind .plainVa fun _ => .bind .loadAt fun _ => .setX
theorem Rv.Keeps.storeInstr {c w o} : Rv.Keeps (storeInstr c w o) := .bind .rvCore fun _ => .ite .illegal <| .bind .plainVa fun _ => .storeAt
theorem Rv.Keeps.amoInstr {c w o} : Rv.Keeps (amoInstr c w o) := .bind .rvCore fun _ => .ite .illegal <| .bind .atomicAt fun _ => .setX
theorem Rv.Keeps.setF {c r v} : Rv.Keeps (setF c r v) := .rvSet
theorem Rv.Keeps.raiseF {c fl} : Rv.Keeps (raiseF c fl) := .ite .pure .rvSet
theorem Rv.Keeps.fpInstr {c w o} : Rv.Keeps (fpInstr c w o) := by
  unfold Machine.fpInstr
  refine .bind .rvCore fun _ => .ite .illegal <| .ite (.ite .illegal <| .bind .plainVa fun _ => .bind .loadAt fun _ => .setF) <|
      .ite (.ite .illegal <| .bind .plainVa fun _ => .storeAt) <| .ite ?_ ?_
  · split
    · exact .illegal
    · exact .bind .setF fun _ => .raiseF
    · exact .bind .setX fun _ => .raiseF
  · split
    · exact .illegal
    · exact .bind .setF fun _ => .raiseF
theorem Rv.Keeps.systemAll {c w npc o} : Rv.Keeps (systemAll c w npc o) := by
  unfold Machine.systemAll
  split
  · exact .systemInstr
  · exact .bind .hyperAccess fun _ => .pure
  · exact .bind .csrInstr fun _ => .pure
theorem Rv.Keeps.rvExec {c w raw pc npc o} : Rv.Keeps (rvExec c w raw pc npc o) := by
  unfold Machine.rvExec
  refine .bind .rvCore fun _ => ?_
  dsimp only
  split
  · exact .bind .setX fun _ => .pure
  · exact .bind .setX fun _ => .pure
  · exact .bind .predict fun _ => .bind .setX fun _ => .pure
  · exact .ite .illegal <| .bind .predict fun _ => .bind .setX fun _ => .pure
  · split
    · exact .illegal
    · exact .bind .predict fun _ => .pure
  · exact .bind .loadInstr fun _ => .pure
  · exact .bind .storeInstr fun _ => .pure
  · exact .bind .putX fun _ => .pure
  · exact .bind .putX fun _ => .pure
  · exact .bind .putX fun _ => .pure
  · exact .bind .putX fun _ => .pure
  · split
    · exact .ite (.bind .drained fun _ => .pure) .pure
    · exact .bind .drained fun _ => .pure
    · exact .bind .illegal fun _ => .pure
  · exact .bind .amoInstr fun _ => .pure
  · exact .systemAll
  · exact .bind .customInstr fun _ => .pure
  · exact .ite (.bind .fpInstr fun _ => .pure) .illegal

/-! ### Functions of Machine/Rv -/

theorem State.Canon.ckAfter (h : s.Canon) {c} : (s.ckAfter c).Canon := .ite h.pairSet h
theorem State.Canon.stepped (h : s.Canon) {c} : (s.stepped c).Canon := .also (.ckAfter (.ite h.coreSet.wstat h)) fun hs => hs.haltCheck
theorem State.Canon.takeIrq (h : s.Canon) {c i} : (s.takeIrq c i).Canon := h.coreSet.takeTrap
theorem State.Canon.irqNow (h : s.Canon) {c} : (s.irqNow c).Canon := by
  unfold State.irqNow
  dsimp only
  split
  · exact h
  · exact .ite h.takeIrq h.jrnPut.coreSet.takeIrq
theorem State.Canon.mretAfter (h : s.Canon) {c} : (s.mretAfter c).Canon := .ite h <| .ite h.coreSet.irqNow h.coreSet
theorem State.Canon.retire (h : s.Canon) {c npc o} : (s.retire c npc o).Canon := h.coreSet
theorem State.Canon.trapStep (h : s.Canon) {c t} : (s.trapStep c t).Canon := by
  unfold State.trapStep
  dsimp only
  refine .ite h.takeTrap <| .ite h.pairSet.takeTrap <| .ite h.takeTrap ?_
  split
  · exact .ite h.pairSet.takeTrap h.mismatch
  · exact h.mismatch
theorem State.Canon.rvInputs (h : s.Canon) {m c} : (State.rvInputs m s c).1.Canon := by
  induction m generalizing s with
  | zero => exact h
  | succ m ih =>
    unfold State.rvInputs
    split
    · exact h
    · exact .iteFst (ih h.jUse.berr) <| .iteFst h.jUse.takeIrq h
theorem Rv.Keeps.rvWord {c o} : Rv.Keeps (rvWord c o) := .bind .fetchWord fun _ => .pure
theorem Rv.Keeps.rvRun {c x o} : Rv.Keeps (rvRun c x o) := by
  unfold Machine.rvRun
  refine .bind .rvCore fun _ => ?_
  dsimp only
  split
  · exact .illegal
  · exact .rvExec
theorem State.Canon.trigStop (h : s.Canon) {c} : (s.trigStop c).Canon := .ite (.ite h.dbgAdd.coreSet.wstat h) h.coreSet.wstat
theorem State.Canon.rvOne (h : s.Canon) {c x o} : (s.rvOne c x o).Canon := by
  have hr := (Rv.Keeps.rvRun (c := c) (x := x) (o := o)).run h
  unfold State.rvOne
  split
  · next e =>
    rw [e] at hr
    have ht := CanonRes.ok hr
    exact .ite ht.mismatch <| .stepped <| .also (.also ht.retire fun hs => hs.mretAfter) fun hs => hs.ckBegin
  · next e =>
    rw [e] at hr
    have ht := CanonRes.error hr
    split
    · exact ht
    · exact ht.trapStep.stepped
    · exact ht.mismatch
    · exact ht.trigStop.stepped
theorem State.Canon.rvDebug (h : s.Canon) {c x o} : (s.rvDebug c x o).Canon := by
  unfold State.rvDebug
  extract_lets k s0 after rest
  have hr := (Rv.Keeps.rvRun (c := c) (x := x) (o := o)).run (h.coreSet : s0.Canon)
  have ha {t : State} {l : List Nat} (ht : t.Canon) : (after t l).Canon := ht.coreSet.stepped
  refine .ite (ha h) ?_
  split
  · next e => rw [e] at hr; exact ha (CanonRes.ok hr)
  · next e =>
    rw [e] at hr
    have ht := CanonRes.error hr
    split
    · exact ht.coreSet
    · exact ht.mismatch
    · exact ha (.ite ht ht.emit)
theorem State.Canon.rvStep (h : s.Canon) {c o want} : (s.rvStep c o want).Canon := by
  unfold State.rvStep
  extract_lets s1 y
  have h1 : s1.Canon := .ite h.dbgCatch h
  have hy : y.1.Canon := .iteFst h1.rvInputs h1
  have hw := (Rv.Keeps.rvWord (c := c) (o := o)).run hy
  refine .ite h <| .ite h <| .ite h1.mismatch <| .ite h1.escalate <| .ite (.ite hy.stepped h) ?_
  split
  · next e =>
    rw [e] at hw
    exact .ite h <| .ite (CanonRes.ok hw).rvDebug (CanonRes.ok hw).rvOne
  · next e =>
    rw [e] at hw
    have ht := CanonRes.error hw
    refine .ite h ?_
    split
    · exact ht.trapStep.stepped
    · exact ht.mismatch
    · exact ht.trigStop.stepped
    · exact ht
theorem State.Canon.execRvInstruction (h : s.Canon) {c o} : CanonOut (execRvInstruction c o s) := h.rvStep.next
theorem State.Canon.execMret (h : s.Canon) {c o} : CanonOut (execMret c o s) := h.rvStep.next
theorem State.Canon.execWcall (h : s.Canon) {c o} : CanonOut (execWcall c o s) := h.rvStep.next
theorem State.Canon.execCkpt (h : s.Canon) {c o} : CanonOut (execCkpt c o s) := h.rvStep.next
theorem State.Canon.execAgreeLd (h : s.Canon) {c o} : CanonOut (execAgreeLd c o s) := h.rvStep.next
theorem State.Canon.execAgreeRnd (h : s.Canon) {c o} : CanonOut (execAgreeRnd c o s) := h.rvStep.next
theorem State.Canon.execAgreeCyc (h : s.Canon) {c o} : CanonOut (execAgreeCyc c o s) := h.rvStep.next
theorem State.Canon.execGtbrd (h : s.Canon) {c o} : CanonOut (execGtbrd c o s) := h.rvStep.next
theorem State.Canon.execGtbrdX (h : s.Canon) {c o} : CanonOut (execGtbrdX c o s) := h.rvStep.next
theorem State.Canon.execEvpost (h : s.Canon) {c o} : CanonOut (execEvpost c o s) := h.rvStep.next
theorem State.Canon.execClaimReadInner (h : s.Canon) {c o} : CanonOut (execClaimReadInner c o s) := h.rvStep.next
theorem State.Canon.execClaimReadOuter (h : s.Canon) {c o} : CanonOut (execClaimReadOuter c o s) := h.rvStep.next
theorem State.Canon.execPredictorFlush (h : s.Canon) {c o} : CanonOut (execPredictorFlush c o s) := h.rvStep.next
theorem State.Canon.wfiEnd (h : s.Canon) {c} : (s.wfiEnd c).Canon := .ite h.retire.stepped h
theorem State.Canon.execInterruptTake (h : s.Canon) {c0} : CanonOut (execInterruptTake c0 s) := by
  unfold Machine.execInterruptTake
  dsimp only
  refine .ite h.next ?_
  split
  · exact h.next
  · exact h.wfiEnd.irqNow.stepped.next
theorem State.Canon.execTimerCompareMatch (h : s.Canon) {c} : CanonOut (execTimerCompareMatch c s) := .ite h.next h.wfiEnd.next
theorem State.Canon.execStoreErrorResponse (h : s.Canon) {c inner addr} : CanonOut (execStoreErrorResponse c inner addr s) :=
  .ite h.storeError.next h.next
theorem State.Canon.acsResp (h : s.Canon) {n a e} : (s.acsResp n a e).Canon := by
  unfold State.acsResp
  split
  · exact h.jrnResp
  · exact h.jrnResp
theorem State.Canon.acsDo {n a ecc} (e : s.acsDo n a ecc = some t) (h : s.Canon) : t.Canon := by
  unfold State.acsDo at e
  extract_lets l r go res keep clear at e
  have hgo {acc v} : (go acc v).1.Canon := .iteFst h.fabLrSc h.fabDo
  split at e
  · cases e; exact .ite hgo.coreSet.storeError hgo.coreSet
  · cases e; exact .ite hgo.coreSet.storeError hgo.coreSet
  · cases e; exact hgo.coreSet.acsResp
  · cases e; exact .acsResp <| .ite hgo hgo.coreSet
  · split at e <;> cases e
    · exact hgo.coreSet.acsResp
    · exact h.coreSet.acsResp
  · cases e; exact h.raise
  · split at e
    · cases e; exact hgo.acsResp
    · split at e <;> cases e
      exact hgo.upd.pairSet
theorem State.Canon.release (h : s.Canon) {n agree ecc} : (s.release n agree ecc).Canon := by
  unfold State.release
  dsimp only
  refine .ite h ?_
  split
  · refine .ite h ?_
    split
    · next e =>
        exact .acsDo e h.pairSet
    · exact h
  · refine .ite h.mismatch <| .ite h ?_
    split
    · next e =>
        exact .acsDo e h.pairSet
    · exact h
  · exact .ite h.mismatch <| .ite h.pairSet h
  · exact h
theorem State.Canon.execPairAccessRelease (h : s.Canon) {n agree ecc} : CanonOut (execPairAccessRelease n agree ecc s) := h.release.next
theorem State.Canon.pbufRun (h : s.Canon) {m c o} : (State.pbufRun m s c o).Canon := by
  induction m generalizing s with
  | zero => exact h
  | succ m ih => exact .ite h (ih h.rvStep)
theorem State.Canon.execDebugProgramBuffer (h : s.Canon) {c words o} : CanonOut (execDebugProgramBuffer c words o s) := by
  unfold Machine.execDebugProgramBuffer
  dsimp only
  split
  · exact h.next
  · exact .ite (.next (.dbgDo h fun _ ht => .pbufRun (.ite ht.coreSet.set.coreSet ht.coreSet))) h.next

end Sys2Proof.Machine
end

section
/-! PROOFS. Canonical memory, part 8 of 8: Tangram instructions, the dispatch of every command, and the step. One lemma per function of the model, in its order. -/

namespace Sys2Proof.Machine
open Sys2Proof

variable {s t : State} {r : EthRun}

/-! ### Functions of Machine/Sdf -/

theorem State.Canon.sdfForm (h : s.Canon) {m parity} : (s.sdfForm m parity).Canon := by
  unfold State.sdfForm
  extract_lets x u r p settled v s' s0 s1 eng pair off q s2 s3
  have h1 : s1.Canon := .set <| .set <| .set <| .ite (.inc <| .ite h h.draw) (.ite h h.draw)
  have hq : q.1.Canon := .iteFst h1 <| .iteFst h1 <| List.foldlRecOn _ _ (motive := fun a : State × Bool × Bool => a.1.Canon) h1
    fun _ ha _ _ => ha.laneDeliver
  exact .raise <| .ite hq.sdfUpd.raiseC hq.sdfUpd
theorem State.Canon.sdfFast (h : s.Canon) {m} : (s.sdfFast m).Canon :=
  .ite h <| .ite h.set.set.sdfUpd <| .ite h.set.set h.set.set.sdfUpd.raiseC.tripAll
theorem State.Canon.sdfBit (h : s.Canon) {m parity l} : (State.sdfBit m parity s l).Canon := .ite h (.also h.sdfUpd.sdfFast fun hs => hs.sdfForm)
theorem State.Canon.sdfRun (h : s.Canon) {m levels parity} : (s.sdfRun m levels parity).Canon := .each h fun _ ht => ht.sdfBit
theorem State.Canon.execSdfResult (h : s.Canon) {m levels parity} : CanonOut (execSdfResult m levels parity s) := h.sdfRun.next
theorem State.Canon.execSdfFastTrip (h : s.Canon) {m levels parity} : CanonOut (execSdfFastTrip m levels parity s) := h.sdfRun.next
theorem State.Canon.execSdfFastTripRelease (h : s.Canon) {m levels parity} : CanonOut (execSdfFastTripRelease m levels parity s) := h.sdfRun.next
theorem State.Canon.execSdfWindowRestart (h : s.Canon) {m} : CanonOut (execSdfWindowRestart m s) := by
  unfold Machine.execSdfWindowRestart
  split
  · exact h.next
  · next e =>
      exact .ite (.next (.sdfUpd (.arrive e h))) (.next (.arrive e h))
theorem State.Canon.execSdfClockLoss (h : s.Canon) {m} : CanonOut (execSdfClockLoss m s) :=
  .ite h.next <| .ite h.set.sdfUpd.raiseC.sdfUpd.tripAll.next h.set.sdfUpd.raiseC.next
theorem State.Canon.execSdfClockReturn (h : s.Canon) {m} : CanonOut (execSdfClockReturn m s) := .ite h.next h.sdfUpd.next

/-! ### Functions of Machine/TgInstr -/

theorem State.Canon.tgJump (h : s.Canon) {e target} : (s.tgJump e target).st.Canon := h.tgSet.atBranch
theorem State.Canon.tgCond (h : s.Canon) {e taken off} : (s.tgCond e taken off).st.Canon := .iteSt h.tgSet.atBranch h.atBranch
theorem State.Canon.tgLoop (h : s.Canon) {e level count off w} : (s.tgLoop e level count off w).st.Canon :=
  .iteSt h.atTrap <| .iteSt h.tgSet.atGoto h.tgSet.atOk
theorem State.Canon.execTgAdd (h : s.Canon) {x rd rs1 rs2} : CanonOut (execTgAdd x rd rs1 rs2 s) := h.tgAlu
theorem State.Canon.execTgSub (h : s.Canon) {x rd rs1 rs2} : CanonOut (execTgSub x rd rs1 rs2 s) := h.tgAlu
theorem State.Canon.execTgAnd (h : s.Canon) {x rd rs1 rs2} : CanonOut (execTgAnd x rd rs1 rs2 s) := h.tgAlu
theorem State.Canon.execTgOr (h : s.Canon) {x rd rs1 rs2} : CanonOut (execTgOr x rd rs1 rs2 s) := h.tgAlu
theorem State.Canon.execTgXor (h : s.Canon) {x rd rs1 rs2} : CanonOut (execTgXor x rd rs1 rs2 s) := h.tgAlu
theorem State.Canon.execTgShl (h : s.Canon) {x rd rs1 rs2} : CanonOut (execTgShl x rd rs1 rs2 s) := h.tgAlu
theorem State.Canon.execTgShr (h : s.Canon) {x rd rs1 rs2} : CanonOut (execTgShr x rd rs1 rs2 s) := h.tgAlu
theorem State.Canon.execTgSra (h : s.Canon) {x rd rs1 rs2} : CanonOut (execTgSra x rd rs1 rs2 s) := h.tgAlu
theorem State.Canon.execTgShli (h : s.Canon) {x rd rs1 n} : CanonOut (execTgShli x rd rs1 n s) := h.tgAlu
theorem State.Canon.execTgShri (h : s.Canon) {x rd rs1 n} : CanonOut (execTgShri x rd rs1 n s) := h.tgAlu
theorem State.Canon.execTgSrai (h : s.Canon) {x rd rs1 n} : CanonOut (execTgSrai x rd rs1 n s) := h.tgAlu
theorem State.Canon.execTgMin (h : s.Canon) {x rd rs1 rs2} : CanonOut (execTgMin x rd rs1 rs2 s) := h.tgAlu
theorem State.Canon.execTgMax (h : s.Canon) {x rd rs1 rs2} : CanonOut (execTgMax x rd rs1 rs2 s) := h.tgAlu
theorem State.Canon.execTgMinu (h : s.Canon) {x rd rs1 rs2} : CanonOut (execTgMinu x rd rs1 rs2 s) := h.tgAlu
theorem State.Canon.execTgMaxu (h : s.Canon) {x rd rs1 rs2} : CanonOut (execTgMaxu x rd rs1 rs2 s) := h.tgAlu
theorem State.Canon.execTgClamp (h : s.Canon) {x rd rs1 rs2 rs3} : CanonOut (execTgClamp x rd rs1 rs2 rs3 s) := h.tgAlu
theorem State.Canon.execTgAbs (h : s.Canon) {x rd rs1} : CanonOut (execTgAbs x rd rs1 s) := h.tgAlu
theorem State.Canon.execTgSlt (h : s.Canon) {x rd rs1 rs2} : CanonOut (execTgSlt x rd rs1 rs2 s) := h.tgAlu
theorem State.Canon.execTgSltu (h : s.Canon) {x rd rs1 rs2} : CanonOut (execTgSltu x rd rs1 rs2 s) := h.tgAlu
theorem State.Canon.execTgClz (h : s.Canon) {x rd rs1} : CanonOut (execTgClz x rd rs1 s) := h.tgAlu
theorem State.Canon.execTgMul (h : s.Canon) {x rd rs1 rs2} : CanonOut (execTgMul x rd rs1 rs2 s) := h.tgAlu
theorem State.Canon.execTgMulh (h : s.Canon) {x rd rs1 rs2} : CanonOut (execTgMulh x rd rs1 rs2 s) := h.tgAlu
theorem State.Canon.execTgMulhu (h : s.Canon) {x rd rs1 rs2} : CanonOut (execTgMulhu x rd rs1 rs2 s) := h.tgAlu
theorem State.Canon.execTgDiv (h : s.Canon) {x rd rs1 rs2} : CanonOut (execTgDiv x rd rs1 rs2 s) := h.tgAlu
theorem State.Canon.execTgDivu (h : s.Canon) {x rd rs1 rs2} : CanonOut (execTgDivu x rd rs1 rs2 s) := h.tgAlu
theorem State.Canon.execTgRem (h : s.Canon) {x rd rs1 rs2} : CanonOut (execTgRem x rd rs1 rs2 s) := h.tgAlu
theorem State.Canon.execTgRemu (h : s.Canon) {x rd rs1 rs2} : CanonOut (execTgRemu x rd rs1 rs2 s) := h.tgAlu
theorem State.Canon.execTgAddi (h : s.Canon) {x rd rs1 imm} : CanonOut (execTgAddi x rd rs1 imm s) := h.tgAlu
theorem State.Canon.execTgAndi (h : s.Canon) {x rd rs1 imm} : CanonOut (execTgAndi x rd rs1 imm s) := h.tgAlu
theorem State.Canon.execTgOri (h : s.Canon) {x rd rs1 imm} : CanonOut (execTgOri x rd rs1 imm s) := h.tgAlu
theorem State.Canon.execTgXori (h : s.Canon) {x rd rs1 imm} : CanonOut (execTgXori x rd rs1 imm s) := h.tgAlu
theorem State.Canon.execTgLui (h : s.Canon) {x rd imm} : CanonOut (execTgLui x rd imm s) := h.tgAlu
theorem State.Canon.execTgSlti (h : s.Canon) {x rd rs1 imm} : CanonOut (execTgSlti x rd rs1 imm s) := h.tgAlu
theorem State.Canon.execTgMacq (h : s.Canon) {x a rs1 rs2} : CanonOut (execTgMacq x a rs1 rs2 s) := h.tgAlu
theorem State.Canon.execTgMsuq (h : s.Canon) {x a rs1 rs2} : CanonOut (execTgMsuq x a rs1 rs2 s) := h.tgAlu
theorem State.Canon.execTgMulq (h : s.Canon) {x a rs1 rs2} : CanonOut (execTgMulq x a rs1 rs2 s) := h.tgAlu
theorem State.Canon.execTgMaci (h : s.Canon) {x a rs1 rs2} : CanonOut (execTgMaci x a rs1 rs2 s) := h.tgAlu
theorem State.Canon.execTgAclr (h : s.Canon) {x a} : CanonOut (execTgAclr x a s) := h.tgAlu
theorem State.Canon.execTgAcld (h : s.Canon) {x a rs1} : CanonOut (execTgAcld x a rs1 s) := h.tgAlu
theorem State.Canon.execTgAcsr (h : s.Canon) {x a n} : CanonOut (execTgAcsr x a n s) := h.tgAlu
theorem State.Canon.execTgSatq (h : s.Canon) {x rd a} : CanonOut (execTgSatq x rd a s) := h.tgAlu
theorem State.Canon.execTgSati (h : s.Canon) {x rd a} : CanonOut (execTgSati x rd a s) := h.tgAlu
theorem State.Canon.execTgPiu (h : s.Canon) {x rd rs1 rs2 rs3} : CanonOut (execTgPiu x rd rs1 rs2 rs3 s) := h.tgAlu
theorem State.Canon.execTgFadd (h : s.Canon) {x rd rs1 rs2} : CanonOut (execTgFadd x rd rs1 rs2 s) := h.tgAlu
theorem State.Canon.execTgFsub (h : s.Canon) {x rd rs1 rs2} : CanonOut (execTgFsub x rd rs1 rs2 s) := h.tgAlu
theorem State.Canon.execTgFmul (h : s.Canon) {x rd rs1 rs2} : CanonOut (execTgFmul x rd rs1 rs2 s) := h.tgAlu
theorem State.Canon.execTgFma (h : s.Canon) {x rd rs1 rs2 rs3} : CanonOut (execTgFma x rd rs1 rs2 rs3 s) := h.tgAlu
theorem State.Canon.execTgFdiv (h : s.Canon) {x rd rs1 rs2} : CanonOut (execTgFdiv x rd rs1 rs2 s) := h.tgAlu
theorem State.Canon.execTgFsqrt (h : s.Canon) {x rd rs1} : CanonOut (execTgFsqrt x rd rs1 s) := h.tgAlu
theorem State.Canon.execTgFmin (h : s.Canon) {x rd rs1 rs2} : CanonOut (execTgFmin x rd rs1 rs2 s) := h.tgAlu
theorem State.Canon.execTgFmax (h : s.Canon) {x rd rs1 rs2} : CanonOut (execTgFmax x rd rs1 rs2 s) := h.tgAlu
theorem State.Canon.execTgFabs (h : s.Canon) {x rd rs1} : CanonOut (execTgFabs x rd rs1 s) := h.tgAlu
theorem State.Canon.execTgFneg (h : s.Canon) {x rd rs1} : CanonOut (execTgFneg x rd rs1 s) := h.tgAlu
theorem State.Canon.execTgFeq (h : s.Canon) {x rd rs1 rs2} : CanonOut (execTgFeq x rd rs1 rs2 s) := h.tgAlu
theorem State.Canon.execTgFlt (h : s.Canon) {x rd rs1 rs2} : CanonOut (execTgFlt x rd rs1 rs2 s) := h.tgAlu
theorem State.Canon.execTgFle (h : s.Canon) {x rd rs1 rs2} : CanonOut (execTgFle x rd rs1 rs2 s) := h.tgAlu
theorem State.Canon.execTgFcvtws (h : s.Canon) {x rd rs1} : CanonOut (execTgFcvtws x rd rs1 s) := h.tgAlu
theorem State.Canon.execTgFcvtsw (h : s.Canon) {x rd rs1} : CanonOut (execTgFcvtsw x rd rs1 s) := h.tgAlu
theorem State.Canon.execTgFcvtqs (h : s.Canon) {x rd rs1} : CanonOut (execTgFcvtqs x rd rs1 s) := h.tgAlu
theorem State.Canon.execTgFcvtsq (h : s.Canon) {x rd rs1} : CanonOut (execTgFcvtsq x rd rs1 s) := h.tgAlu
theorem State.Canon.execTgEret (h : s.Canon) {x} : CanonOut (execTgEret x s) := h.tgIssue (fun ht => .iteSt ht.atTrap ht.tgSet.atGoto)
theorem State.Canon.execTgMfs (h : s.Canon) {x rd sr} : CanonOut (execTgMfs x rd sr s) := h.tgIssue (fun ht => ht.tgSet.atOk)
theorem State.Canon.execTgMts (h : s.Canon) {x sr rs1} : CanonOut (execTgMts x sr rs1 s) := h.tgIssue (fun ht => .iteSt ht ht.tgSetSr)
theorem State.Canon.execTgEvp (h : s.Canon) {x rs1} : CanonOut (execTgEvp x rs1 s) := h.tgIssue (fun ht => ht.tgPut)
theorem State.Canon.execTgSetm (h : s.Canon) {x mask value} : CanonOut (execTgSetm x mask value s) :=
  h.tgIssue (fun ht => .iteSt ht.atTrap ht.tgSet.atSetm)
theorem State.Canon.execTgEnd (h : s.Canon) {x} : CanonOut (execTgEnd x s) := h.tgIssue id
theorem State.Canon.execTgBrk (h : s.Canon) {x} : CanonOut (execTgBrk x s) := h.tgIssue (fun ht => ht.draw)
theorem State.Canon.execTgJr (h : s.Canon) {x rs1} : CanonOut (execTgJr x rs1 s) := h.tgIssue (fun ht => ht.tgJump)
theorem State.Canon.execTgJmp (h : s.Canon) {x off} : CanonOut (execTgJmp x off s) := h.tgIssue (fun ht => ht.tgJump)
theorem State.Canon.execTgCall (h : s.Canon) {x off} : CanonOut (execTgCall x off s) := h.tgIssue (fun ht => ht.tgSet.tgJump)
theorem State.Canon.execTgBeq (h : s.Canon) {x rs1 rs2 off} : CanonOut (execTgBeq x rs1 rs2 off s) := h.tgIssue (fun ht => ht.tgCond)
theorem State.Canon.execTgBne (h : s.Canon) {x rs1 rs2 off} : CanonOut (execTgBne x rs1 rs2 off s) := h.tgIssue (fun ht => ht.tgCond)
theorem State.Canon.execTgBlt (h : s.Canon) {x rs1 rs2 off} : CanonOut (execTgBlt x rs1 rs2 off s) := h.tgIssue (fun ht => ht.tgCond)
theorem State.Canon.execTgBge (h : s.Canon) {x rs1 rs2 off} : CanonOut (execTgBge x rs1 rs2 off s) := h.tgIssue (fun ht => ht.tgCond)
theorem State.Canon.execTgBltu (h : s.Canon) {x rs1 rs2 off} : CanonOut (execTgBltu x rs1 rs2 off s) := h.tgIssue (fun ht => ht.tgCond)
theorem State.Canon.execTgBgeu (h : s.Canon) {x rs1 rs2 off} : CanonOut (execTgBgeu x rs1 rs2 off s) := h.tgIssue (fun ht => ht.tgCond)
theorem State.Canon.execTgLoop (h : s.Canon) {x level rs1 off} : CanonOut (execTgLoop x level rs1 off s) := h.tgIssue (fun ht => ht.tgLoop)
theorem State.Canon.execTgLoopi (h : s.Canon) {x level n off} : CanonOut (execTgLoopi x level n off s) := h.tgIssue (fun ht => ht.tgLoop)
theorem State.Canon.execTgLw (h : s.Canon) {x rd rs1 imm data} : CanonOut (execTgLw x rd rs1 imm data s) :=
  h.tgIssue (fun ht => .iteSt ht.atTrap (.tgDmemEcc ht fun hu => hu.tgSet.atOk))
theorem State.Canon.execTgLh (h : s.Canon) {x rd rs1 imm data} : CanonOut (execTgLh x rd rs1 imm data s) :=
  h.tgIssue (fun ht => .iteSt ht.atTrap (.tgDmemEcc ht fun hu => hu.tgSet.atOk))
theorem State.Canon.execTgLhu (h : s.Canon) {x rd rs1 imm data} : CanonOut (execTgLhu x rd rs1 imm data s) :=
  h.tgIssue (fun ht => .iteSt ht.atTrap (.tgDmemEcc ht fun hu => hu.tgSet.atOk))
theorem State.Canon.execTgLacc (h : s.Canon) {x a rs1 imm data} : CanonOut (execTgLacc x a rs1 imm data s) :=
  h.tgIssue (fun ht => .iteSt ht.atTrap (.tgDmemEcc ht fun hu => hu.tgSet.atOk))
theorem State.Canon.execTgSw (h : s.Canon) {x rs2 rs1 imm} : CanonOut (execTgSw x rs2 rs1 imm s) := h.tgIssue (fun ht => .iteSt ht ht.tgStore)
theorem State.Canon.execTgSh (h : s.Canon) {x rs2 rs1 imm} : CanonOut (execTgSh x rs2 rs1 imm s) := h.tgIssue (fun ht => .iteSt ht ht.tgStore)
theorem State.Canon.execTgSacc (h : s.Canon) {x a rs1 imm} : CanonOut (execTgSacc x a rs1 imm s) := h.tgIssue (fun ht => .iteSt ht ht.tgStore)
theorem State.Canon.execTgLdc (h : s.Canon) {x rd rs1 imm parity} : CanonOut (execTgLdc x rd rs1 imm parity s) :=
  h.tgIssue fun ht => ht.tgLane fun hu => by
    split
    · next e => exact .atOk <| .tgSet <| .snd_eq e hu.tgLdc
    · next e => exact .snd_eq e hu.tgLdc
theorem State.Canon.execTgStc (h : s.Canon) {x rs2 rs1 imm} : CanonOut (execTgStc x rs2 rs1 imm s) :=
  h.tgIssue (fun ht => .tgLane ht fun hu => hu.tgPut)
theorem State.Canon.execTgStcc (h : s.Canon) {x rs2 rs1 imm} : CanonOut (execTgStcc x rs2 rs1 imm s) :=
  h.tgIssue (fun ht => .tgLane ht fun hu => hu.tgPut)

/-! ### Functions of Machine/Twin -/

theorem State.Canon.twinWrite (h : s.Canon) {a v} : (s.twinWrite a v).Canon :=
  .ite h.fdbWindow <| .ite h.store <| .ite (.also (.write4 h blockWrite_keeps) fun hs => hs.set) (.unless
    (.write4 h blockWrite_keeps) fun hs => .ite h.gwTableWrite <| .ite hs h)
theorem State.Canon.twinItem (h : s.Canon) {x} : (s.twinItem x).Canon := by
  unfold State.twinItem
  dsimp only
  split
  · exact h.twinWrite
  · exact h.fdbPut
  · exact h.store
  · exact h.twinWrite.twinWrite
  · exact .ite h.fdbRun h
  · exact h.upd.set.setS.setS
  · exact h.canReq.set.set
theorem State.Canon.execMirrorFrameReceive (h : s.Canon) {cause items} : CanonOut (execMirrorFrameReceive cause items s) :=
  .ite h.next (.next (.unless (.ite (.each h.set fun _ ht => ht.twinItem) h.set) fun hs => hs.takeOver))

/-! ### Functions of Machine/Dispatch -/

theorem State.Canon.exec (h : s.Canon) {i} : CanonOut (exec i s) := by
  unfold Machine.exec
  split
  · exact h.execRegisterWrite
  · exact h.execReadClear
  · exact h.execPairLowWordRead
  · exact h.execFabricRequest
  · exact h.execCommandLinkHeartbeat
  · exact h.execPowerDieHoldEnter
  · exact h.execPowerDieHoldLeave
  · exact h.execSupplyLinkHeartbeat
  · exact h.execInterfaceHeartbeatLoss
  · exact h.execControlLaneIdleHandshake
  · exact h.execControlLaneLoss
  · exact h.execCoreSupplyLapse
  · exact h.execVcoreMeasure
  · exact h.execXtalFallback
  · exact h.execMsSupplyLoss
  · exact h.execMsSupplyReturn
  · exact h.execMirrorFrameSend
  · exact h.execMirrorFrameReceive
  · exact h.execMirrorTimeout
  · exact h.execTakeover
  · exact h.execTakeoverPwmEnable
  · exact h.execTwinHandoff
  · exact h.execSlewStart
  · exact h.execSlewComplete
  · exact h.execGtbStep
  · exact h.execSnapshotTake
  · exact h.execSyncReceive
  · exact h.execSyncRelay
  · exact h.execSyncTransmit
  · exact h.execPdelayReqTransmit
  · exact h.execPdelayReceive
  · exact h.execSyncTimeout
  · exact h.execGtbDomainWrite
  · exact h.execTriggerFire
  · exact h.execTriggerCompareWrite
  · exact h.execTriggerCtlWrite
  · exact h.execCaptureEdge
  · exact h.execCapturePop
  · exact h.execEventEnterEvr
  · exact h.execEventRelease
  · exact h.execLateEventRelease
  · exact h.execLogRecordWrite
  · exact h.execTraceRecordHandoff
  · exact h.execAlarmAck
  · exact h.execRefMonitorCompare
  · exact h.execRefMismatchClear
  · exact h.execAdcSequenceStart
  · exact h.execAdcStart
  · exact h.execAdcFreerunWrite
  · exact h.execAdcSlotComplete
  · exact h.execAdcGroupStart
  · exact h.execAdcGroupStartWrite
  · exact h.execAdcWordDeliver
  · exact h.execAdcSetComplete
  · exact h.execAdcRingWrite
  · exact h.execSdfResult
  · exact h.execSdfWindowRestart
  · exact h.execSdfFastTrip
  · exact h.execSdfClockLoss
  · exact h.execComparatorTrip
  · exact h.execComparatorRelease
  · exact h.execBlankingEnd
  · exact h.execPwmPeriodStart
  · exact h.execPwmMidPeriod
  · exact h.execPwmEdge
  · exact h.execPwmSync
  · exact h.execPwmCommit
  · exact h.execPwmSetLoad
  · exact h.execPwmSwtrip
  · exact h.execPwmGtrip
  · exact h.execPwmTripclr
  · exact h.execPwmEnableWrite
  · exact h.execPwmForceWrite
  · exact h.execTgDmemWrite
  · exact h.execTgOccurrence
  · exact h.execTgSwdisp
  · exact h.execTgDispatch
  · exact h.execTgAdd
  · exact h.execTgSub
  · exact h.execTgAnd
  · exact h.execTgOr
  · exact h.execTgXor
  · exact h.execTgShl
  · exact h.execTgShr
  · exact h.execTgSra
  · exact h.execTgShli
  · exact h.execTgShri
  · exact h.execTgSrai
  · exact h.execTgMin
  · exact h.execTgMax
  · exact h.execTgMinu
  · exact h.execTgMaxu
  · exact h.execTgClamp
  · exact h.execTgAbs
  · exact h.execTgSlt
  · exact h.execTgSltu
  · exact h.execTgClz
  · exact h.execTgMul
  · exact h.execTgMulh
  · exact h.execTgMulhu
  · exact h.execTgDiv
  · exact h.execTgDivu
  · exact h.execTgRem
  · exact h.execTgRemu
  · exact h.execTgMacq
  · exact h.execTgMsuq
  · exact h.execTgMulq
  · exact h.execTgMaci
  · exact h.execTgAclr
  · exact h.execTgAcld
  · exact h.execTgAcsr
  · exact h.execTgSatq
  · exact h.execTgSati
  · exact h.execTgPiu
  · exact h.execTgFadd
  · exact h.execTgFsub
  · exact h.execTgFmul
  · exact h.execTgFma
  · exact h.execTgFdiv
  · exact h.execTgFsqrt
  · exact h.execTgFmin
  · exact h.execTgFmax
  · exact h.execTgFabs
  · exact h.execTgFneg
  · exact h.execTgFeq
  · exact h.execTgFlt
  · exact h.execTgFle
  · exact h.execTgFcvtws
  · exact h.execTgFcvtsw
  · exact h.execTgFcvtqs
  · exact h.execTgFcvtsq
  · exact h.execTgEret
  · exact h.execTgMfs
  · exact h.execTgMts
  · exact h.execTgEvp
  · exact h.execTgJr
  · exact h.execTgAddi
  · exact h.execTgAndi
  · exact h.execTgOri
  · exact h.execTgXori
  · exact h.execTgLui
  · exact h.execTgSlti
  · exact h.execTgLw
  · exact h.execTgLh
  · exact h.execTgLhu
  · exact h.execTgLacc
  · exact h.execTgSw
  · exact h.execTgSh
  · exact h.execTgSacc
  · exact h.execTgLdc
  · exact h.execTgStc
  · exact h.execTgStcc
  · exact h.execTgBeq
  · exact h.execTgBne
  · exact h.execTgBlt
  · exact h.execTgBge
  · exact h.execTgBltu
  · exact h.execTgBgeu
  · exact h.execTgJmp
  · exact h.execTgCall
  · exact h.execTgLoop
  · exact h.execTgLoopi
  · exact h.execTgSetm
  · exact h.execTgEnd
  · exact h.execTgBrk
  · exact h.execTgSeal
  · exact h.execTgSkewTimeout
  · exact h.execTgDeadlineExpiry
  · exact h.execTgPairWrite
  · exact h.execTgPairSyncDone
  · exact h.execTgMoveGo
  · exact h.execTgMoveFreeze
  · exact h.execTgMoveComplete
  · exact h.execTgMoveFwdClear
  · exact h.execPscOn
  · exact h.execPscOff
  · exact h.execPscPwm
  · exact h.execPscClear
  · exact h.execPscOlcheck
  · exact h.execPscCommandApply
  · exact h.execPscAckReceive
  · exact h.execPscAckTimeout
  · exact h.execPscSample
  · exact h.execPscRangeSwitch
  · exact h.execPscOvercurrent
  · exact h.execPscShortCircuit
  · exact h.execPscGroupOvertemp
  · exact h.execI2tUpdate
  · exact h.execPscRetryDue
  · exact h.execPscRetryRestore
  · exact h.execPscClampEvent
  · exact h.execPscPwmPeriod
  · exact h.execOffstateCheckStart
  · exact h.execOffstateCheckSettled
  · exact h.execOnstateOpenLoad
  · exact h.execPscShed
  · exact h.execPscRestore
  · exact h.execPscRecordWrite
  · exact h.execPscMirrorLoad
  · exact h.execFeedPowerOnReset
  · exact h.execFeedRestart
  · exact h.execFeedUndervoltage
  · exact h.execFeedOvervoltage
  · exact h.execPortLinkDown
  · exact h.execPortLinkUp
  · exact h.execPortHoldExpiry
  · exact h.execPortDisable
  · exact h.execPlcaBeaconTimeout
  · exact h.execPlcaBeacon
  · exact h.execFrameReceive
  · exact h.execFrameTransmit
  · exact h.execInternalIngressResume
  · exact h.execGateEntryAdvance
  · exact h.execGclChangeWrite
  · exact h.execGateListChange
  · exact h.execStreamGateChangeWrite
  · exact h.execStreamGateListChange
  · exact h.execStreamGateEntryAdvance
  · exact h.execFdbRead
  · exact h.execFdbWrite
  · exact h.execFdbDelete
  · exact h.execFdbFlush
  · exact h.execFdbInvcache
  · exact h.execFdbFence
  · exact h.execFdbCommandComplete
  · exact h.execFdbWindowWrite
  · exact h.execFdbCacheExpiry
  · exact h.execFdbAgeSweep
  · exact h.execPinRevert
  · exact h.execPinRevertComplete
  · exact h.execFrerRecoveryReset
  · exact h.execSampleRecordWrite
  · exact h.execCanStart
  · exact h.execCanFrameValid
  · exact h.execCanObjectWrite
  · exact h.execCanTxreq
  · exact h.execCanArbitrationStart
  · exact h.execCanTxSuccess
  · exact h.execCanTxError
  · exact h.execCanArbitrationLost
  · exact h.execCanAbort
  · exact h.execCanBusoffRecover
  · exact h.execCanBusoffRecovered
  · exact h.execCanLomApply
  · exact h.execCanTxdTimeout
  · exact h.execCanCorrelation
  · exact h.execBusWakeDetect
  · exact h.execTransceiverOvertemp
  · exact h.execTransceiverOvertempEnd
  · exact h.execLinSlotStart
  · exact h.execLinHeaderReceive
  · exact h.execLinResponseComplete
  · exact h.execLinResponseTimeout
  · exact h.execLinWakePulse
  · exact h.execCarouselEnable
  · exact h.execCarouselMessageReceive
  · exact h.execCarouselRelay
  · exact h.execCarouselSend
  · exact h.execCarouselSlotTimeout
  · exact h.execCarouselFormTimeout
  · exact h.execConsentWrite
  · exact h.execKeeperLimit
  · exact h.execPrepareExpiry
  · exact h.execSleepTransceiversOff
  · exact h.execSleepCorePowerOff
  · exact h.execWakeReport
  · exact h.execWakeWindowExpiry
  · exact h.execZoneOkRequest
  · exact h.execZoneOkDrop
  · exact h.execZoneOkWatchdog
  · exact h.execGwPduReceive
  · exact h.execGwPduProcess
  · exact h.execGwLayoutCyclicDue
  · exact h.execGwMingapExpiry
  · exact h.execGwPduForm
  · exact h.execGwSinkReady
  · exact h.execGwFence
  · exact h.execGwFenceComplete
  · exact h.execTableEntryCommitWrite
  · exact h.execPcieInboundRequest
  · exact h.execPcieOutboundRequest
  · exact h.execPcieCompletion
  · exact h.execPcieCompletionTimeout
  · exact h.execPcieLinkUp
  · exact h.execPcieLinkDown
  · exact h.execPcieFunctionLevelReset
  · exact h.execPcieVfEnable
  · exact h.execPciePerst
  · exact h.execPcieRetrain
  · exact h.execPciePfMsix
  · exact h.execRvInstruction
  · exact h.execMret
  · exact h.execWcall
  · exact h.execCkpt
  · exact h.execAgreeLd
  · exact h.execAgreeRnd
  · exact h.execAgreeCyc
  · exact h.execGtbrd
  · exact h.execGtbrdX
  · exact h.execEvpost
  · exact h.execClaimReadInner
  · exact h.execClaimReadOuter
  · exact h.execInterruptTake
  · exact h.execTimerCompareMatch
  · exact h.execPredictorFlush
  · exact h.execStoreErrorResponse
  · exact h.execPairAccessRelease
  · exact h.execPairLagTimeout
  · exact h.execCheckpoint
  · exact h.execCheckpointCommit
  · exact h.execPairRestoreDone
  · exact h.execPairReplayEnd
  · exact h.execDebugHalt
  · exact h.execDebugResume
  · exact h.execDebugStep
  · exact h.execDebugAbstractWrite
  · exact h.execDebugProgramBuffer
  · exact h.execDebugNdmreset
  · exact h.execRegionCtlWrite
  · exact h.execIgrpWrite
  · exact h.execRegionFence
  · exact h.execRegionFenceComplete
  · exact h.execScrubLine
  · exact h.execWorldWatchdogExpiry
  · exact h.execWatchdogKick
  · exact h.execInnerWorldRestartBegin
  · exact h.execInnerWorldRestartComplete
  · exact h.execVimCreate
  · exact h.execVimAttach
  · exact h.execVimDetach
  · exact h.execVimQuiesce
  · exact h.execVimQuiesceComplete
  · exact h.execVimResume
  · exact h.execVimReset
  · exact h.execVimMigrate
  · exact h.execVimTakedown
  · exact h.execVimGenChangeDue
  · exact h.execVimMapWrite
  · exact h.execViTenantReset
  · exact h.execViResetComplete
  · exact h.execViDoorbell
  · exact h.execViTxFrame
  · exact h.execViRxDeliver
  · exact h.execViBucketRefill
  · exact h.execMbxClaim
  · exact h.execMbxGo
  · exact h.execMbxRelease
  · exact h.execMbxReclaimTimeout
  · exact h.execMbxCommandComplete
  · exact h.execGetInfo
  · exact h.execGetBootstat
  · exact h.execEcho
  · exact h.execProvDevid
  · exact h.execLcAdvance
  · exact h.execLcReturn
  · exact h.execLcEnd
  · exact h.execLcChallenge
  · exact h.execNonceExpiry
  · exact h.execDbgUnlock
  · exact h.execProvRootkey
  · exact h.execKeyRevoke
  · exact h.execMeasRead
  · exact h.execMeasExtend
  · exact h.execQuote
  · exact h.execGetCert
  · exact h.execVerifyImage
  · exact h.execUpdBegin
  · exact h.execUpdWrite
  · exact h.execUpdFromXspi
  · exact h.execUpdVerify
  · exact h.execUpdActivate
  · exact h.execUpdConfirm
  · exact h.execUpdRevert
  · exact h.execCfgRead
  · exact h.execCfgWrite
  · exact h.execEnvmRefresh
  · exact h.execPersistRead
  · exact h.execPersistClear
  · exact h.execHandover
  · exact h.execInnerRestart
  · exact h.execResetReq
  · exact h.execStRun
  · exact h.execScanEnable
  · exact h.execKeyWrap
  · exact h.execKeyUnwrap
  · exact h.execRng
  · exact h.execXspiInit
  · exact h.execXspiRead
  · exact h.execXspiProgram
  · exact h.execXspiErase
  · exact h.execXspiEraseDone
  · exact h.execSecureBoot
  · exact h.execVbatValid
  · exact h.execVbatLoss
  · exact h.execVbatLow
  · exact h.execVbatHigh
  · exact h.execVbatNormal
  · exact h.execDomainOff
  · exact h.execDomainOn
  · exact h.execVcoreThermalStep
  · exact h.execBackupToVbak
  · exact h.execBackupToVbat
  · exact h.execBackupContinuityLoss
  · exact h.execBackupPor
  · exact h.execBackupGtbRecord
  · exact h.execPowerOnReset
  · exact h.execVddCoreCollapse
  · exact h.execColdReset
  · exact h.execWarmReset
  · exact h.execResetPinAssert
  · exact h.execResetPinRelease
  · exact h.execBlockReset
  · exact h.execBlockIdleReached
  · exact h.execBlockIdleTimeout
  · exact h.execCalibrationDone
  · exact h.execCanReady
  · exact h.execFullyReady
  · exact h.execSteConditionCheck
  · exact h.execSteSliceStart
  · exact h.execSteSliceEnd
  · exact h.execPowerupTestDone
  · exact h.execExternalTripBallChange
  · exact h.execSdfFastTripRelease
  · exact h.execSdfClockReturn
  · exact h.execCanRxError
  · exact h.execCanProtocolException
  · exact h.execCanIntegrationDone
  · exact h.execCanBusReleaseEnd
  · exact h.execLinTxdTimeout
  · exact h.execVbakLow

/-! ### Functions of Machine/Tick -/

theorem State.Canon.mergeAged (h : s.Canon) : s.mergeAged.Canon := by
  unfold State.mergeAged
  split
  · exact .ite h.pcieFlush h
  · exact h
theorem State.Canon.tick (h : s.Canon) : s.tick.Canon :=
  .ethEnds (.mergeAged (.upd (.also (.also (.ite h.gtbTick.outEnds h) fun hs => hs.upd) fun hs => hs.upd)))

/-! ### Functions of Machine/Step -/

theorem State.Canon.step (h : s.Canon) : CanonOut (step s) := by
  unfold Machine.step
  split
  · exact h.tick.next
  · exact h.upd.exec

/-- Settles O60: every instruction leaves a canonical memory canonical, by the lemma of each state operation it uses. -/
theorem memoryForm : Obligations.MemoryForm := by
  unfold Obligations.MemoryForm
  intro s t hwf e
  have h := State.Canon.step ⟨hwf⟩
  rw [e] at h
  exact h.wf

end Sys2Proof.Machine
end

section
/-! PROOFS. The state after the first power-up (R14, R440, R542): no table lists anything, so a field reads its reset value and a byte 0. -/

namespace Sys2Proof.Machine

open Sys2Proof

/-- R14: a field of an empty register file reads its reset value. -/
theorem State.get_of_no_cells {s : State} (h : s.regs.cells = []) (f : Fld) : s.get f = f.rst := by
  rw [State.get, h, cellsGet]

/-- R440: a byte of an empty memory reads 0. -/
theorem State.byte_of_no_cells {s : State} (h : s.mem = []) (a : Nat) : s.byte a = 0 := by
  rw [State.byte, h, cellsGet]
  rfl

/-- Settles O52: the reset state lists no field and no byte. -/
theorem resetState : Obligations.ResetState := by
  unfold Obligations.ResetState
  exact ⟨rfl, State.get_of_no_cells rfl, rfl, State.byte_of_no_cells rfl⟩

end Sys2Proof.Machine
end

section
/-! PROOFS. Reads through the debug port (R12): an admitted read of a register takes its value and changes the read latch alone. -/

namespace Sys2Proof.Machine

open Sys2Proof

variable {s : State} {r : Req} {a : Nat}

/-- R587, R589: an admitted 32-bit access at a multiple of 4 in the register space is open. -/
theorem State.regOpen_word {acc : AccKind} (halive : s.alive = true) (hform : acc = .read ∨ acc = .write) (halign : a % 4 = 0) (hlo : 0x4000_0000 ≤ a)
    (hhi : a < 0x4800_0000) (hport : s.portReach r a = true) (hcheck : s.checkReq a r acc = none) : s.regOpen r acc a 4 = true := by
  have hreg : within a 0x4000_0000 0x800_0000 = true := by simp [within]; omega
  have hacc : regForm acc a 4 = true := by rcases hform with rfl | rfl <;> simp [regForm, halign]
  have hone : oneGranule a 4 = true := by simp [oneGranule]; omega
  simp [State.regOpen, halive, hreg, hacc, hone, hport, hcheck]

/-- R283, R289: a 32-bit read of a register that the part carries, outside the mailbox page and, in a CAN page, not turned away, is one of the register. -/
theorem State.regFabRead0_word (hcarried : pscAbsent s.part a = false) (hmbx : within a 0x4000_8000 0x1000 = false)
    (hcan : within a 0x4400_0000 0x10_0000 = true →
      a % 0x1_0000 < 0x2000 ∧ s.canGuard ((a - 0x4400_0000) / 0x1_0000) (a % 0x1_0000) a r none .read = none) :
    s.regFabRead0 r none a 4 = ((s.read4 blockRead r.id (r.debug || r.id == 9) a).2, some (s.read4 blockRead r.id (r.debug || r.id == 9) a).1) := by
  unfold State.regFabRead0
  rw [if_neg (by simp [hcarried]), if_neg (by simp [hmbx])]
  split
  · next hpage =>
    obtain ⟨hoff, hguard⟩ := hcan hpage
    simp [hguard, Nat.not_le.mpr hoff, State.regRead]
  · rfl

/-- R273: a 32-bit read in an EPORT page that its port does not carry gives 0, any other the register's word. -/
theorem State.regFabRead_word {x : State × Nat} (hread : s.regFabRead0 r none a 4 = (x.1, some x.2)) :
    s.regFabRead r none a 4 =
      (x.1, some (if within a 0x4310_0000 0x1_6000 then (if eportCarries a then x.2 % 2 ^ 32 else 0) else x.2)) := by
  unfold State.regFabRead
  rw [hread]
  split <;> simp [eportShown]

/-- R12, R592: a read through the debug port takes the value of the register and leaves every field as it stood when it was taken. -/
theorem State.read4_debug {hook : ReadHook} {id : Nat} {d : RegDef} {i j o : Nat} (hfind : findReg a allRegs = some (d, i, j, o)) :
    (∀ f, (s.read4 hook id true a).2.get f = (hook.before (a - o) s).get f) ∧
      (o = 0 → (s.read4 hook id true a).1 = (hook.before (a - o) s).fieldsRead (d.flds i j) % 2 ^ 32) := by
  unfold State.read4
  rw [hfind]
  exact ⟨fun _ => rfl, fun ho => if_pos ho⟩

/-- R12, R273: such a read through the debug port is answered with the word that the register shows. -/
theorem exec_readClear_debug (hdebug : r.debug = true) (hopen : s.regOpen r .read a 4 = true)
    (hread : s.regFabRead0 r none a 4 = ((s.read4 blockRead r.id (r.debug || r.id == 9) a).2, some (s.read4 blockRead r.id (r.debug || r.id == 9) a).1)) :
    exec (.readClear r a) s = .next ((s.read4 blockRead r.id true a).2.emit (.resp r.id false
      (if within a 0x4310_0000 0x1_6000 then (if eportCarries a then (s.read4 blockRead r.id true a).1 % 2 ^ 32 else 0)
       else (s.read4 blockRead r.id true a).1))) := by
  obtain ⟨halive, hreg, hone⟩ := State.regOpen_served hopen
  rw [hdebug, Bool.true_or] at hread
  rw [exec_readClear_served r halive hreg hone, fabDo_regRead s r a 4 0 hopen,
    State.regFabRead_word (x := ((s.read4 blockRead r.id true a).2, (s.read4 blockRead r.id true a).1)) hread]
  rfl

/-- Settles O53: the read ends at the register, where the debug port leaves the fields. -/
theorem debugReads : Obligations.DebugReads := by
  unfold Obligations.DebugReads
  intro r a d i j o s hdebug halive halign hlo hhi hmbx hcarried hcan hport hcheck hfind
  have hanswer := exec_readClear_debug hdebug (State.regOpen_word halive (.inl rfl) halign hlo hhi hport hcheck)
    (State.regFabRead0_word hcarried hmbx hcan)
  obtain ⟨hfields, hvalue⟩ := State.read4_debug (s := s) (hook := blockRead) (id := r.id) hfind
  refine ⟨_, _, hanswer, hfields, fun ho => ?_⟩
  rw [hvalue ho]
  cases within a 0x4310_0000 0x1_6000 <;> cases eportCarries a <;> simp [blockRead]

end Sys2Proof.Machine
end

section
/-! PROOFS. What a command leaves unchanged (R2, R3, R595), part 1 of 10: lists of pieces, frames and their rules of composition. `Frame L z s`
says that `s` agrees with `z` in the queue, the part and every piece outside the list `L`. The parts that follow give one lemma per function of the
model, `Frame.<function>`, in the order of the model; its premise `hp` lists the pieces that the function may change. Where a proof calls it, `hp` is
found by comparing that list with the caller's. These comparisons are many and small, so they are run one after another (`Elab.async false`). -/

namespace Sys2Proof.Machine

open Sys2Proof
set_option Elab.async false

/-! ### Lists of pieces -/

/-- The pieces of a list as the bits of a number, so that a computation compares two lists. -/
def Piece.mask : List Piece → Nat
  | [] => 0
  | p :: ps => 2 ^ p.ctorIdx ||| Piece.mask ps

theorem Piece.testBit_two_pow (p q : Piece) : (2 ^ q.ctorIdx).testBit p.ctorIdx = decide (p = q) := by
  rw [Nat.testBit_two_pow, decide_eq_decide, eq_comm]
  exact (Function.LeftInverse.injective Piece.ofNat_ctorIdx).eq_iff

theorem Piece.testBit_mask (p : Piece) (ps : List Piece) : (Piece.mask ps).testBit p.ctorIdx = decide (p ∈ ps) := by
  induction ps with
  | nil => simp [Piece.mask]
  | cons q ps ih => simp [Piece.mask, Nat.testBit_or, Piece.testBit_two_pow, ih]

/-- The list `L` holds every piece of `M`. -/
def Covers (L M : List Piece) : Prop := M ⊆ L

/-- What covers a list covers each list whose bits are among the bits of that one. -/
theorem Covers.of {L M K : List Piece} (h : Covers L M) (hk : Nat.beq (Piece.mask K &&& Piece.mask M) (Piece.mask K) = true) : Covers L K := by
  intro p hp
  have hbit := congrArg (fun n => n.testBit p.ctorIdx) (Nat.eq_of_beq_eq_true hk)
  simp only [Nat.testBit_and, Piece.testBit_mask, hp, decide_true, Bool.true_and, decide_eq_true_eq] at hbit
  exact h hbit

/-! ### Frames -/

/-- The state `s` with the piece `p` as `t` has it. -/
def Piece.put : Piece → State → State → State
  | .regs, t, s => { s with regs := t.regs }
  | .held, t, s => { s with held := t.held }
  | .latch, t, s => { s with latch := t.latch }
  | .mem, t, s => { s with mem := t.mem }
  | .gtb, t, s => { s with gtb := t.gtb }
  | .due, t, s => { s with due := t.due }
  | .evr, t, s => { s with evr := t.evr }
  | .conv, t, s => { s with conv := t.conv }
  | .tg, t, s => { s with tg := t.tg }
  | .psc, t, s => { s with psc := t.psc }
  | .esw, t, s => { s with esw := t.esw }
  | .can, t, s => { s with can := t.can }
  | .lin, t, s => { s with lin := t.lin }
  | .crs, t, s => { s with crs := t.crs }
  | .gw, t, s => { s with gw := t.gw }
  | .pcie, t, s => { s with pcie := t.pcie }
  | .core, t, s => { s with core := t.core }
  | .pair, t, s => { s with pair := t.pair }
  | .scrub, t, s => { s with scrub := t.scrub }
  | .vi, t, s => { s with vi := t.vi }
  | .vimStart, t, s => { s with vimStart := t.vimStart }
  | .cmp, t, s => { s with cmp := t.cmp }
  | .pow, t, s => { s with pow := t.pow }
  | .ste, t, s => { s with ste := t.ste }
  | .irqInner, t, s => { s with irqInner := t.irqInner }
  | .irqOuter, t, s => { s with irqOuter := t.irqOuter }
  | .out, t, s => { s with out := t.out }
  | .free, t, s => { s with free := t.free }

theorem Piece.put_pending (p : Piece) (t s : State) : (p.put t s).pending = s.pending := by cases p <;> rfl
theorem Piece.put_part (p : Piece) (t s : State) : (p.put t s).part = s.part := by cases p <;> rfl
theorem Piece.put_same {p q : Piece} (h : p ≠ q) (t s : State) : q.same (p.put t s) s := by
  have hput : q.same (p.put t s) (if p = q then t else s) := by cases p <;> cases q <;> rfl
  rwa [if_neg h] at hput

theorem Piece.put_same_self (p : Piece) (t s : State) : p.same (p.put t s) t := by cases p <;> rfl

theorem Piece.same_refl (p : Piece) (s : State) : p.same s s := by cases p <;> rfl
theorem Piece.same_trans {p : Piece} {s t u : State} (h : p.same s t) (hu : p.same t u) : p.same s u := by
  cases p <;> exact Eq.trans h hu

/-- The state `s` agrees with `z` in the queue, the part and every piece outside `L`. -/
structure Frame (L : List Piece) (z s : State) : Prop where
  pending : s.pending = z.pending
  part : s.part = z.part
  same : ∀ p ∉ L, p.same s z

variable {L : List Piece} {z s t : State}

theorem Frame.refl : Frame L s s := ⟨rfl, rfl, fun p _ => p.same_refl s⟩

theorem Frame.put (h : Frame L z s) {p : Piece} (hp : p ∈ L) : Frame L z (p.put t s) where
  pending := (p.put_pending t s).trans h.pending
  part := (p.put_part t s).trans h.part
  same q hq := Piece.same_trans (Piece.put_same (fun (e : p = q) => hq (e ▸ hp)) t s) (h.same q hq)

/-- A piece from another state of the frame stays within it. -/
theorem Frame.mix (h : Frame L z s) (ht : Frame L z t) (p : Piece) : Frame L z (p.put t s) where
  pending := (p.put_pending t s).trans h.pending
  part := (p.put_part t s).trans h.part
  same q hq := by
    by_cases hpq : p = q
    · exact hpq ▸ Piece.same_trans (Piece.put_same_self p t s) (ht.same p (hpq ▸ hq))
    · exact Piece.same_trans (Piece.put_same hpq t s) (h.same q hq)

/-! ### One rule per piece: an update of the piece stays within a frame that holds it -/

theorem Frame.updRegs (h : Frame L z s) {x} (hp : Covers L [.regs] := by exact hp.of rfl) : Frame L z { s with regs := x } :=
  h.put (p := .regs) (t := { s with regs := x }) (hp List.mem_cons_self)
theorem Frame.updHeld (h : Frame L z s) {x} (hp : Covers L [.held] := by exact hp.of rfl) : Frame L z { s with held := x } :=
  h.put (p := .held) (t := { s with held := x }) (hp List.mem_cons_self)
theorem Frame.updLatch (h : Frame L z s) {x} (hp : Covers L [.latch] := by exact hp.of rfl) : Frame L z { s with latch := x } :=
  h.put (p := .latch) (t := { s with latch := x }) (hp List.mem_cons_self)
theorem Frame.updMem (h : Frame L z s) {x} (hp : Covers L [.mem] := by exact hp.of rfl) : Frame L z { s with mem := x } :=
  h.put (p := .mem) (t := { s with mem := x }) (hp List.mem_cons_self)
theorem Frame.updGtb (h : Frame L z s) {x} (hp : Covers L [.gtb] := by exact hp.of rfl) : Frame L z { s with gtb := x } :=
  h.put (p := .gtb) (t := { s with gtb := x }) (hp List.mem_cons_self)
theorem Frame.updDue (h : Frame L z s) {x} (hp : Covers L [.due] := by exact hp.of rfl) : Frame L z { s with due := x } :=
  h.put (p := .due) (t := { s with due := x }) (hp List.mem_cons_self)
theorem Frame.updEvr (h : Frame L z s) {x} (hp : Covers L [.evr] := by exact hp.of rfl) : Frame L z { s with evr := x } :=
  h.put (p := .evr) (t := { s with evr := x }) (hp List.mem_cons_self)
theorem Frame.updConv (h : Frame L z s) {x} (hp : Covers L [.conv] := by exact hp.of rfl) : Frame L z { s with conv := x } :=
  h.put (p := .conv) (t := { s with conv := x }) (hp List.mem_cons_self)
theorem Frame.updTg (h : Frame L z s) {x} (hp : Covers L [.tg] := by exact hp.of rfl) : Frame L z { s with tg := x } :=
  h.put (p := .tg) (t := { s with tg := x }) (hp List.mem_cons_self)
theorem Frame.updPsc (h : Frame L z s) {x} (hp : Covers L [.psc] := by exact hp.of rfl) : Frame L z { s with psc := x } :=
  h.put (p := .psc) (t := { s with psc := x }) (hp List.mem_cons_self)
theorem Frame.updEsw (h : Frame L z s) {x} (hp : Covers L [.esw] := by exact hp.of rfl) : Frame L z { s with esw := x } :=
  h.put (p := .esw) (t := { s with esw := x }) (hp List.mem_cons_self)
theorem Frame.updCan (h : Frame L z s) {x} (hp : Covers L [.can] := by exact hp.of rfl) : Frame L z { s with can := x } :=
  h.put (p := .can) (t := { s with can := x }) (hp List.mem_cons_self)
theorem Frame.updLin (h : Frame L z s) {x} (hp : Covers L [.lin] := by exact hp.of rfl) : Frame L z { s with lin := x } :=
  h.put (p := .lin) (t := { s with lin := x }) (hp List.mem_cons_self)
theorem Frame.updCrs (h : Frame L z s) {x} (hp : Covers L [.crs] := by exact hp.of rfl) : Frame L z { s with crs := x } :=
  h.put (p := .crs) (t := { s with crs := x }) (hp List.mem_cons_self)
theorem Frame.updGw (h : Frame L z s) {x} (hp : Covers L [.gw] := by exact hp.of rfl) : Frame L z { s with gw := x } :=
  h.put (p := .gw) (t := { s with gw := x }) (hp List.mem_cons_self)
theorem Frame.updPcie (h : Frame L z s) {x} (hp : Covers L [.pcie] := by exact hp.of rfl) : Frame L z { s with pcie := x } :=
  h.put (p := .pcie) (t := { s with pcie := x }) (hp List.mem_cons_self)
theorem Frame.updCore (h : Frame L z s) {x} (hp : Covers L [.core] := by exact hp.of rfl) : Frame L z { s with core := x } :=
  h.put (p := .core) (t := { s with core := x }) (hp List.mem_cons_self)
theorem Frame.updPair (h : Frame L z s) {x} (hp : Covers L [.pair] := by exact hp.of rfl) : Frame L z { s with pair := x } :=
  h.put (p := .pair) (t := { s with pair := x }) (hp List.mem_cons_self)
theorem Frame.updScrub (h : Frame L z s) {x} (hp : Covers L [.scrub] := by exact hp.of rfl) : Frame L z { s with scrub := x } :=
  h.put (p := .scrub) (t := { s with scrub := x }) (hp List.mem_cons_self)
theorem Frame.updVi (h : Frame L z s) {x} (hp : Covers L [.vi] := by exact hp.of rfl) : Frame L z { s with vi := x } :=
  h.put (p := .vi) (t := { s with vi := x }) (hp List.mem_cons_self)
theorem Frame.updVimStart (h : Frame L z s) {x} (hp : Covers L [.vimStart] := by exact hp.of rfl) : Frame L z { s with vimStart := x } :=
  h.put (p := .vimStart) (t := { s with vimStart := x }) (hp List.mem_cons_self)
theorem Frame.updCmp (h : Frame L z s) {x} (hp : Covers L [.cmp] := by exact hp.of rfl) : Frame L z { s with cmp := x } :=
  h.put (p := .cmp) (t := { s with cmp := x }) (hp List.mem_cons_self)
theorem Frame.updPow (h : Frame L z s) {x} (hp : Covers L [.pow] := by exact hp.of rfl) : Frame L z { s with pow := x } :=
  h.put (p := .pow) (t := { s with pow := x }) (hp List.mem_cons_self)
theorem Frame.updSte (h : Frame L z s) {x} (hp : Covers L [.ste] := by exact hp.of rfl) : Frame L z { s with ste := x } :=
  h.put (p := .ste) (t := { s with ste := x }) (hp List.mem_cons_self)
theorem Frame.updIrqInner (h : Frame L z s) {x} (hp : Covers L [.irqInner] := by exact hp.of rfl) : Frame L z { s with irqInner := x } :=
  h.put (p := .irqInner) (t := { s with irqInner := x }) (hp List.mem_cons_self)
theorem Frame.updIrqOuter (h : Frame L z s) {x} (hp : Covers L [.irqOuter] := by exact hp.of rfl) : Frame L z { s with irqOuter := x } :=
  h.put (p := .irqOuter) (t := { s with irqOuter := x }) (hp List.mem_cons_self)
theorem Frame.updOut (h : Frame L z s) {x} (hp : Covers L [.out] := by exact hp.of rfl) : Frame L z { s with out := x } :=
  h.put (p := .out) (t := { s with out := x }) (hp List.mem_cons_self)
theorem Frame.updFree (h : Frame L z s) {x} (hp : Covers L [.free] := by exact hp.of rfl) : Frame L z { s with free := x } :=
  h.put (p := .free) (t := { s with free := x }) (hp List.mem_cons_self)

/-! ### Two pieces that an update changes together -/

theorem Frame.updMemCore (h : Frame L z s) {x y} (hp : Covers L [.mem, .core] := by exact hp.of rfl) : Frame L z { s with mem := x, core := y } :=
  (h.updMem (x := x)).updCore (x := y)
theorem Frame.updMemTg (h : Frame L z s) {x y} (hp : Covers L [.mem, .tg] := by exact hp.of rfl) : Frame L z { s with mem := x, tg := y } :=
  (h.updMem (x := x)).updTg (x := y)
theorem Frame.updEswPow (h : Frame L z s) {x y} (hp : Covers L [.esw, .pow] := by exact hp.of rfl) : Frame L z { s with esw := x, pow := y } :=
  (h.updEsw (x := x)).updPow (x := y)
theorem Frame.updEvrPow (h : Frame L z s) {x y} (hp : Covers L [.evr, .pow] := by exact hp.of rfl) : Frame L z { s with evr := x, pow := y } :=
  (h.updEvr (x := x)).updPow (x := y)
theorem Frame.updDuePow (h : Frame L z s) {x y} (hp : Covers L [.due, .pow] := by exact hp.of rfl) : Frame L z { s with due := x, pow := y } :=
  (h.updDue (x := x)).updPow (x := y)
theorem Frame.updGtbPow (h : Frame L z s) {x y} (hp : Covers L [.gtb, .pow] := by exact hp.of rfl) : Frame L z { s with gtb := x, pow := y } :=
  (h.updGtb (x := x)).updPow (x := y)
theorem Frame.updCmpPow (h : Frame L z s) {x y} (hp : Covers L [.cmp, .pow] := by exact hp.of rfl) : Frame L z { s with cmp := x, pow := y } :=
  (h.updCmp (x := x)).updPow (x := y)

/-! ### Rules of composition -/

/-- What a command answers is a state within the frame, where it is a state. -/
def FrameOut (L : List Piece) (z : State) : Host.Outcome State Fault Refusal → Prop
  | .next t => Frame L z t
  | _ => True

/-- The same of the optional state of a grant. -/
def FrameOpt (L : List Piece) (z : State) : Option State → Prop
  | some t => Frame L z t
  | none => True

/-- The state that a part of an instruction of a core leaves is within the frame. -/
def FrameRes (L : List Piece) (z : State) {α : Type} : EStateM.Result Stop State α → Prop
  | .ok _ t | .error _ t => Frame L z t

/-- A part of an instruction of a core changes pieces of `L` alone. -/
structure Rv.Frames (L : List Piece) (z : State) {α : Type} (m : Rv α) : Prop where
  run : ∀ {s : State}, Frame L z s → FrameRes L z (m s)

theorem Frame.ite {c : Prop} [Decidable c] {a b : State} (ha : Frame L z a) (hb : Frame L z b) : Frame L z (if c then a else b) := by
  split <;> assumption
theorem Frame.also {c : Prop} [Decidable c] {a b : State} (hb : Frame L z b) (ha : Frame L z b → Frame L z a) : Frame L z (if c then a else b) :=
  .ite (ha hb) hb
theorem Frame.unless {c : Prop} [Decidable c] {a b : State} (ha : Frame L z a) (hb : Frame L z a → Frame L z b) : Frame L z (if c then a else b) :=
  .ite ha (hb ha)
theorem Frame.iteFst {α : Type} {c : Prop} [Decidable c] {a b : State × α} (ha : Frame L z a.1) (hb : Frame L z b.1) : Frame L z (if c then a else b).1 := by
  split <;> assumption
theorem Frame.iteSnd {α : Type} {c : Prop} [Decidable c] {a b : α × State} (ha : Frame L z a.2) (hb : Frame L z b.2) : Frame L z (if c then a else b).2 := by
  split <;> assumption
theorem Frame.iteRun {c : Prop} [Decidable c] {a b : EthRun} (ha : Frame L z a.s) (hb : Frame L z b.s) : Frame L z (if c then a else b).s := by
  split <;> assumption
theorem Frame.iteGw {c : Prop} [Decidable c] {a b : GwTouch} (ha : Frame L z a.s) (hb : Frame L z b.s) : Frame L z (if c then a else b).s := by
  split <;> assumption
theorem Frame.iteS {c : Prop} [Decidable c] {a b : CmdRes} (ha : Frame L z a.s) (hb : Frame L z b.s) : Frame L z (if c then a else b).s := by
  split <;> assumption
theorem Frame.iteSt {c : Prop} [Decidable c] {a b : TgRes} (ha : Frame L z a.st) (hb : Frame L z b.st) : Frame L z (if c then a else b).st := by
  split <;> assumption
theorem Frame.shared {u : State} (h : Frame L z s) (f : Frame L z s → Frame L z u) : Frame L z u := f h
theorem FrameOut.shared {o} (h : Frame L z s) (f : Frame L z s → FrameOut L z o) : FrameOut L z o := f h
theorem Frame.fst_eq {α : Type} {p : State × α} {b : α} (e : p = (t, b)) (h : Frame L z p.1) : Frame L z t := by
  subst e
  exact h
theorem Frame.snd_eq {α : Type} {p : α × State} {b : α} (e : p = (b, t)) (h : Frame L z p.2) : Frame L z t := by
  subst e
  exact h

theorem Frame.fst {α : Type} {b : α} (h : Frame L z s) : Frame L z (s, b).1 := h
theorem Frame.snd {α : Type} {b : α} (h : Frame L z s) : Frame L z (b, s).2 := h
theorem Frame.res {l e} (h : Frame L z s) : Frame L z (CmdRes.mk s l e).s := h
theorem Frame.atOk (h : Frame L z s) : Frame L z (TgRes.ok s).st := h
theorem Frame.atBranch (h : Frame L z s) {a b} : Frame L z (TgRes.branch s a b).st := h
theorem Frame.atGoto (h : Frame L z s) {a} : Frame L z (TgRes.goto s a).st := h
theorem Frame.atSetm (h : Frame L z s) : Frame L z (TgRes.setm s).st := h
theorem Frame.atTrap (h : Frame L z s) {a b} : Frame L z (TgRes.trap s a b).st := h

theorem FrameOut.next (h : Frame L z s) : FrameOut L z (.next s) := h
theorem FrameOut.ite {c : Prop} [Decidable c] {a b : Host.Outcome State Fault Refusal} (ha : FrameOut L z a) (hb : FrameOut L z b) :
    FrameOut L z (if c then a else b) := by
  split <;> assumption
theorem FrameOpt.ite {c : Prop} [Decidable c] {a b : Option State} (ha : FrameOpt L z a) (hb : FrameOpt L z b) : FrameOpt L z (if c then a else b) := by
  split <;> assumption
theorem Frame.next (h : Frame L z s) : FrameOut L z (.next s) := h

theorem FrameRes.ok {α : Type} {a : α} (h : FrameRes L z (.ok a s)) : Frame L z s := h
theorem FrameRes.error {α : Type} {e : Stop} (h : FrameRes L z (.error e s : EStateM.Result Stop State α)) : Frame L z s := h

theorem Rv.Frames.pure {α : Type} {a : α} : Rv.Frames L z (Pure.pure a) := ⟨fun h => h⟩
theorem Rv.Frames.throw {α : Type} {e : Stop} : Rv.Frames L z (throw e : Rv α) := ⟨fun h => h⟩
theorem Rv.Frames.bind {α β : Type} {m : Rv α} {f : α → Rv β} (hm : Rv.Frames L z m) (hf : ∀ a, Rv.Frames L z (f a)) : Rv.Frames L z (m >>= f) := by
  refine ⟨fun hs => ?_⟩
  have h1 := hm.run hs
  show FrameRes L z (EStateM.bind m f _)
  unfold EStateM.bind
  split
  · next e => rw [e] at h1; exact (hf _).run h1
  · next e => rw [e] at h1; exact h1
theorem Rv.Frames.get {α : Type} {f : State → Rv α} (hf : ∀ s, Frame L z s → Rv.Frames L z (f s)) : Rv.Frames L z (MonadState.get >>= f) :=
  ⟨fun hs => (hf _ hs).run hs⟩
theorem Rv.Frames.set (h : Frame L z t) : Rv.Frames L z (MonadStateOf.set t : Rv PUnit) := ⟨fun _ => h⟩
theorem Rv.Frames.modify {g : State → State} (hg : ∀ s, Frame L z s → Frame L z (g s)) : Rv.Frames L z (modify g : Rv PUnit) := ⟨fun hs => hg _ hs⟩
theorem Rv.Frames.modifyGet {α : Type} {g : State → α × State} (hg : ∀ s, Frame L z s → Frame L z (g s).2) : Rv.Frames L z (modifyGet g : Rv α) :=
  ⟨fun hs => hg _ hs⟩
theorem Rv.Frames.ite {α : Type} {c : Prop} [Decidable c] {a b : Rv α} (ha : Rv.Frames L z a) (hb : Rv.Frames L z b) :
    Rv.Frames L z (if c then a else b) := by
  split <;> assumption

/-! ### Lists of pieces that several functions share -/

def eventPieces : List Piece := [.regs, .mem, .due, .evr, .core, .out]
def enginePieces : List Piece := [.regs, .mem, .due, .evr, .conv, .tg, .core, .vi, .pow, .out, .free]
def convEventPieces : List Piece := [.regs, .mem, .due, .evr, .conv, .core, .out]
def eswEventPieces : List Piece := [.regs, .mem, .due, .evr, .esw, .core, .out]
def pscEventPieces : List Piece := [.regs, .mem, .due, .evr, .psc, .core, .out]
def ringPieces : List Piece := [.regs, .mem, .due, .evr, .esw, .crs, .core, .out, .free]
def cmpEventPieces : List Piece := [.regs, .mem, .due, .evr, .core, .cmp, .out]
def corePieces : List Piece :=
  [.regs, .held, .latch, .mem, .gtb, .due, .evr, .conv, .tg, .psc, .esw, .can, .lin, .crs, .gw, .pcie, .core, .pair, .vi, .vimStart, .cmp, .pow,
    .irqInner, .irqOuter, .out, .free]
def accessPieces : List Piece :=
  [.regs, .held, .latch, .mem, .gtb, .due, .evr, .conv, .tg, .psc, .esw, .can, .lin, .crs, .gw, .pcie, .core, .pair, .vi, .vimStart, .cmp, .pow,
    .out, .free]
def powEventPieces : List Piece := [.regs, .mem, .due, .evr, .core, .pow, .out]
def tgEventPieces : List Piece := [.regs, .mem, .due, .evr, .tg, .core, .out]
def canEventPieces : List Piece := [.regs, .mem, .due, .evr, .can, .core, .out]
def pairEventPieces : List Piece := [.regs, .mem, .due, .evr, .core, .pair, .out]
def pairStopPieces : List Piece := [.regs, .mem, .due, .evr, .pcie, .core, .pair, .out]
def vimPieces : List Piece := [.regs, .held, .mem, .due, .evr, .can, .core, .vi, .vimStart, .cmp, .out]
def resetPieces : List Piece :=
  [.regs, .held, .latch, .mem, .gtb, .due, .evr, .conv, .tg, .psc, .esw, .can, .lin, .crs, .gw, .pcie, .core, .pair, .vi, .vimStart, .cmp, .pow,
    .ste, .irqInner, .irqOuter, .out]
def gptpPieces : List Piece := [.regs, .mem, .gtb, .due, .evr, .esw, .core, .out, .free]
def gtbEventPieces : List Piece := [.regs, .mem, .gtb, .due, .evr, .core, .out]
def crsEventPieces : List Piece := [.regs, .mem, .due, .evr, .crs, .core, .out]
def gwEventPieces : List Piece := [.regs, .mem, .due, .evr, .gw, .core, .out]
def viStopPieces : List Piece := [.regs, .mem, .due, .evr, .can, .core, .vi, .cmp, .out]
def viFramePieces : List Piece := [.regs, .mem, .due, .evr, .esw, .can, .crs, .pcie, .core, .vi, .cmp, .out, .free]
def viAccessPieces : List Piece :=
  [.regs, .held, .latch, .mem, .gtb, .due, .evr, .conv, .tg, .psc, .esw, .can, .lin, .crs, .pcie, .core, .pair, .vi, .vimStart, .cmp, .pow, .out,
    .free]
def pcieEventPieces : List Piece := [.regs, .mem, .due, .evr, .pcie, .core, .out]
def viMovePieces : List Piece := [.regs, .held, .mem, .due, .evr, .can, .core, .vi, .cmp, .out]
def domainPieces : List Piece :=
  [.regs, .held, .mem, .gtb, .due, .evr, .conv, .tg, .psc, .esw, .can, .lin, .crs, .gw, .pcie, .core, .pair, .vi, .cmp, .pow, .out, .free]
def linkLossPieces : List Piece := [.regs, .mem, .due, .evr, .esw, .crs, .core, .out]
def sdfPieces : List Piece := [.regs, .mem, .due, .evr, .conv, .tg, .core, .out, .free]
def deliveryPieces : List Piece := [.regs, .mem, .due, .evr, .core, .irqInner, .irqOuter, .out]
def gwFormPieces : List Piece := [.regs, .mem, .due, .evr, .gw, .core, .out, .free]
def pcieLossPieces : List Piece := [.regs, .mem, .due, .evr, .esw, .can, .crs, .pcie, .core, .pair, .vi, .cmp, .out, .free]
def mirrorLoadPieces : List Piece :=
  [.regs, .held, .mem, .gtb, .due, .evr, .conv, .tg, .psc, .esw, .can, .lin, .crs, .gw, .pcie, .core, .pair, .vi, .vimStart, .cmp, .pow, .out, .free]
def pscWritePieces : List Piece :=
  [.regs, .held, .mem, .gtb, .due, .evr, .conv, .tg, .psc, .esw, .can, .lin, .crs, .pcie, .core, .pair, .vi, .vimStart, .cmp, .pow, .out, .free]
def bootPieces : List Piece := [.regs, .mem, .due, .evr, .conv, .esw, .crs, .pcie, .core, .pair, .cmp, .pow, .out, .free]
def tgTimeoutPieces : List Piece := [.regs, .mem, .due, .evr, .conv, .tg, .core, .vi, .pow, .out]
def restartPieces : List Piece := [.regs, .mem, .due, .evr, .pcie, .core, .pair, .cmp, .out]
def takeoverPieces : List Piece := [.regs, .mem, .due, .evr, .conv, .esw, .can, .core, .pow, .out]
def hiddenPieces : List Piece :=
  [.latch, .due, .evr, .tg, .psc, .esw, .can, .lin, .crs, .gw, .pcie, .core, .pair, .vi, .vimStart, .cmp, .pow, .ste, .irqInner, .irqOuter]
def coreHiddenPieces : List Piece :=
  [.latch, .mem, .due, .evr, .tg, .psc, .esw, .can, .lin, .crs, .gw, .pcie, .core, .pair, .vi, .vimStart, .cmp, .pow, .ste, .irqInner, .irqOuter]
def hiddenResetPieces : List Piece :=
  [.regs, .held, .latch, .mem, .due, .evr, .conv, .tg, .psc, .esw, .can, .lin, .crs, .gw, .pcie, .core, .pair, .vi, .vimStart, .cmp, .pow, .ste,
    .irqInner, .irqOuter, .out]
def coreDownPieces : List Piece :=
  [.regs, .held, .latch, .mem, .due, .evr, .tg, .psc, .esw, .can, .lin, .crs, .gw, .pcie, .core, .pair, .vi, .vimStart, .cmp, .pow, .ste, .irqInner,
    .irqOuter, .out]
def handoverPieces : List Piece :=
  [.regs, .held, .mem, .gtb, .due, .evr, .conv, .tg, .psc, .esw, .can, .lin, .crs, .gw, .pcie, .core, .pair, .vi, .cmp, .irqInner, .irqOuter, .out,
    .free]

end Sys2Proof.Machine
end

section
/-! PROOFS. What a command leaves unchanged, part 2 of 10: registers, memory, events and the accesses to registers. -/

namespace Sys2Proof.Machine
open Sys2Proof
set_option Elab.async false

variable {L : List Piece} {z s t : State} {r : EthRun}

/-! ### Functions of Machine/Ops -/

theorem Frame.set (h : Frame L z s) {f v} (hp : Covers L [.regs] := by exact hp.of rfl) : Frame L z (s.set f v) := h.updRegs
theorem Frame.setS (h : Frame L z s) {f i} (hp : Covers L [.regs] := by exact hp.of rfl) : Frame L z (s.setS f i) := h.set
theorem Frame.addSat (h : Frame L z s) {f n} (hp : Covers L [.regs] := by exact hp.of rfl) : Frame L z (s.addSat f n) := h.set
theorem Frame.inc (h : Frame L z s) {f} (hp : Covers L [.regs] := by exact hp.of rfl) : Frame L z (s.inc f) := h.addSat
theorem Frame.addWrap (h : Frame L z s) {f n} (hp : Covers L [.regs] := by exact hp.of rfl) : Frame L z (s.addWrap f n) := h.set
theorem Frame.setIf (h : Frame L z s) {c f v} (hp : Covers L [.regs] := by exact hp.of rfl) : Frame L z (s.setIf c f v) := .ite h.set h
theorem Frame.setBit (h : Frame L z s) {f n b} (hp : Covers L [.regs] := by exact hp.of rfl) : Frame L z (s.setBit f n b) := h.set
theorem Frame.track (h : Frame L z s) {f v} (hp : Covers L [.regs] := by exact hp.of rfl) : Frame L z (s.track f v) := .ite h.set h
theorem Frame.each {α : Type} {l : List α} {g : State → α → State} (h : Frame L z s) (hg : ∀ {t} x, Frame L z t → Frame L z (g t x)) :
    Frame L z (s.each l g) :=
  List.foldlRecOn l g h fun _ ht x _ => hg x ht
theorem Frame.setByte (h : Frame L z s) {a b} (hp : Covers L [.mem, .core] := by exact hp.of rfl) : Frame L z (s.setByte a b) := h.updMemCore
theorem Frame.zero (h : Frame L z s) {a n} (hp : Covers L [.mem, .core] := by exact hp.of rfl) : Frame L z (s.zero a n) := h.updMemCore
theorem Frame.setBytes (h : Frame L z s) {a bs} (hp : Covers L [.mem, .core] := by exact hp.of rfl) : Frame L z (s.setBytes a bs) := by
  induction bs generalizing s a with
  | nil => exact h
  | cons b bs ih => exact ih h.setByte
theorem Frame.store (h : Frame L z s) {a n v} (hp : Covers L [.mem, .core] := by exact hp.of rfl) : Frame L z (s.store a n v) := h.setBytes
theorem Frame.draw (h : Frame L z s) (hp : Covers L [.free] := by exact hp.of rfl) : Frame L z s.draw := h.updFree
theorem Frame.emit (h : Frame L z s) {o} (hp : Covers L [.out] := by exact hp.of rfl) : Frame L z (s.emit o) := h.updOut
theorem Frame.twinReport (h : Frame L z s) {c} (hp : Covers L [.pow] := by exact hp.of rfl) : Frame L z (s.twinReport c) := .ite h.updPow h

/-! ### Functions of Machine/Follow -/

theorem Frame.follow (h : Frame L z s) {l} (hp : Covers L [.due] := by exact hp.of rfl) : Frame L z (s.follow l) := h.updDue
theorem Frame.arrive {p d} (e : s.arrive p = some (d, t)) (h : Frame L z s) (hp : Covers L [.due] := by exact hp.of rfl) : Frame L z t := by
  unfold State.arrive at e
  split at e <;> cases e
  exact h.updDue

/-! ### Functions of Machine/Events -/

theorem Frame.setPath (h : Frame L z s) {lg q lvl} (hp : Covers L [.regs, .evr] := by exact hp.of rfl) : Frame L z (s.setPath lg q lvl) :=
  .ite h.updEvr.set.set h.updEvr.set.set
theorem Frame.countLoss (h : Frame L z s) {lg src at_} (hp : Covers L [.regs, .evr] := by exact hp.of rfl) : Frame L z (s.countLoss lg src at_) :=
  .inc (.ite (.ite h.updEvr h.updEvr) h)
theorem Frame.countRepeat (h : Frame L z s) {e} (hp : Covers L [.regs, .evr] := by exact hp.of rfl) : Frame L z (s.countRepeat e) :=
  .also (.ite h.countLoss h) fun hs => hs.countLoss
theorem Frame.enterRaw (h : Frame L z s) {e} (hp : Covers L [.regs, .evr] := by exact hp.of rfl) : Frame L z (s.enterRaw e) := .ite h.countRepeat h.updEvr
theorem Frame.persistAdd (h : Frame L z s) {p} (hp : Covers L [.evr] := by exact hp.of rfl) : Frame L z (s.persistAdd p) := h.updEvr
theorem Frame.areaShow (h : Frame L z s) (hp : Covers L [.regs] := by exact hp.of rfl) : Frame L z s.areaShow := h.set.set
theorem Frame.persistCommit (h : Frame L z s) {b} (hp : Covers L [.regs, .evr] := by exact hp.of rfl) : Frame L z (s.persistCommit b) :=
  .ite h (.areaShow (.unless (.ite h.updEvr h.updEvr) fun hs => .ite hs.updEvr hs.updEvr))
theorem Frame.alarmTake (h : Frame L z s) {e} (hp : Covers L [.regs, .evr] := by exact hp.of rfl) : Frame L z (s.alarmTake e) := by
  unfold State.alarmTake
  dsimp only
  split
  · exact h.updEvr.inc.set
  · split
    · exact h.set.set.set.set.set.addWrap.set.persistAdd
    · exact h.setBit.inc
theorem Frame.alarm (h : Frame L z s) {e} (hp : Covers L [.regs, .evr] := by exact hp.of rfl) : Frame L z (s.alarm e) :=
  .ite h.alarmTake (.also h.alarmTake.enterRaw fun hs => hs.alarmTake)
theorem Frame.enterNow (h : Frame L z s) {e} (hp : Covers L [.regs, .evr] := by exact hp.of rfl) : Frame L z (s.enterNow e) := .ite h.enterRaw.alarm h.enterRaw
theorem Frame.direct (h : Frame L z s) {e} (hp : Covers L [.due] := by exact hp.of rfl) : Frame L z (s.direct e) := .ite h.follow h
theorem Frame.enter (h : Frame L z s) {e} (hp : Covers L [.regs, .due, .evr] := by exact hp.of rfl) : Frame L z (s.enter e) := .ite h h.enterNow.direct
theorem Frame.msix (h : Frame L z s) {i v} (hp : Covers L [.mem, .core, .out] := by exact hp.of rfl) : Frame L z (s.msix i v) := .ite h.emit h.setByte
theorem Frame.viNote (h : Frame L z s) {i b} (hp : Covers L eventPieces := by exact hp.of rfl) : Frame L z (s.viNote i b) :=
  .ite h <| .ite h.setBit <| .ite h.setBit.msix <| .ite h.setBit.setBit.enter h.setBit
theorem Frame.viGoto (h : Frame L z s) {i st} (hp : Covers L [.regs] := by exact hp.of rfl) : Frame L z (s.viGoto i st) :=
  .ite h.set.set.addWrap <| .ite h.set.set.set h.set.set
theorem Frame.viFaultMark (h : Frame L z s) {i code}
    (hp : Covers L [.regs, .mem, .due, .evr, .core, .vi, .out] := by exact hp.of rfl) : Frame L z (s.viFaultMark i code) :=
  .ite h.set.set.inc.viNote.enter.updVi (.also h.set.set.inc.viNote.enter fun hs => .unless hs.updVi.viGoto fun hs2 => hs2.updVi)
theorem Frame.viEscalation (h : Frame L z s) {e}
    (hp : Covers L [.regs, .mem, .due, .evr, .core, .vi, .out] := by exact hp.of rfl) : Frame L z (s.viEscalation e) := by
  unfold State.viEscalation
  split
  · exact h.viFaultMark
  · exact h
theorem Frame.viHear (h : Frame L z s) {src word} (hp : Covers L eventPieces := by exact hp.of rfl) : Frame L z (s.viHear src word) := by
  unfold State.viHear
  refine .ite h <| .ite ?_ ?_
  · split
    · exact h.viNote
    · exact h
  · refine .ite ?_ ?_
    · split
      · exact h.viNote
      · exact h
    · refine .ite ?_ h
      split
      · exact h.viNote
      · exact h
theorem Frame.raise (h : Frame L z s) {src word} (hp : Covers L eventPieces := by exact hp.of rfl) : Frame L z (s.raise src word) := h.enter.viHear
theorem Frame.raiseAt (h : Frame L z s) {src word at_}
    (hp : Covers L [.regs, .due, .evr] := by exact hp.of rfl) : Frame L z (s.raiseAt src word at_) := h.enter
theorem Frame.raiseC (h : Frame L z s) {src cause value} (hp : Covers L eventPieces := by exact hp.of rfl) : Frame L z (s.raiseC src cause value) := h.raise
theorem Frame.raiseSum (h : Frame L z s) {src cause n} (hp : Covers L eventPieces := by exact hp.of rfl) : Frame L z (s.raiseSum src cause n) :=
  .ite h.updEvr.raise h.updEvr
theorem Frame.pathPush (h : Frame L z s) {lg e} (hp : Covers L eventPieces := by exact hp.of rfl) : Frame L z (s.pathPush lg e) :=
  .ite h.setPath.raise h.setPath
theorem Frame.summary1 (h : Frame L z s) {lg src} (hp : Covers L eventPieces := by exact hp.of rfl) : Frame L z (State.summary1 lg s src) :=
  .ite h.set.pathPush h
theorem Frame.summaries (h : Frame L z s) {lg} (hp : Covers L eventPieces := by exact hp.of rfl) : Frame L z (s.summaries lg) := .each h fun _ ht => ht.summary1
theorem Frame.pathOffer (h : Frame L z s) {lg e} (hp : Covers L eventPieces := by exact hp.of rfl) : Frame L z (s.pathOffer lg e) :=
  .ite h <| .ite (.setIf (.countLoss (.ite h.summaries h))) (.pathPush (.ite h.summaries h))
theorem Frame.pathPop (h : Frame L z s) {lg} (hp : Covers L eventPieces := by exact hp.of rfl) : Frame L z (s.pathPop lg) := .ite h.setPath.summaries h.setPath
theorem Frame.pendIrq (h : Frame L z s) {d inner src}
    (hp : Covers L [.irqInner, .irqOuter] := by exact hp.of rfl) : Frame L z (s.pendIrq d inner src) := .ite h <| .ite h.updIrqInner h.updIrqOuter
theorem Frame.deliver (h : Frame L z s) {e} (hp : Covers L deliveryPieces := by exact hp.of rfl) : Frame L z (s.deliver e) :=
  .ite h (.also (.also (.also (.ite h.pendIrq h) fun hs => hs.pathOffer) fun hs => hs.pathOffer) fun hs => hs.alarm)
theorem Frame.sortTake (h : Frame L z s) (hp : Covers L [.evr] := by exact hp.of rfl) : Frame L z s.sortTake := by
  unfold State.sortTake
  dsimp only
  split
  · exact h
  · exact .ite h.updEvr h.updEvr
theorem Frame.evrTake (h : Frame L z s) (hp : Covers L [.evr] := by exact hp.of rfl) : Frame L z s.evrTake := .each h fun _ ht => ht.sortTake

/-! ### Functions of Machine/Check -/

theorem Frame.refuse (h : Frame L z s) {a r k chk base} (hp : Covers L eventPieces := by exact hp.of rfl) : Frame L z (s.refuse a r k chk base) :=
  .raise <| .ite (.inc (.ite h.inc.inc h.inc)) <| .set <| .set <| .set <| .set <| .set <| .set <| .set <| .ite h.inc.inc h.inc
theorem Frame.checkReq {a r k} (e : s.checkReq a r k = some t) (h : Frame L z s) (hp : Covers L eventPieces := by exact hp.of rfl) : Frame L z t := by
  unfold State.checkReq at e
  split at e
  · cases e; exact h.refuse
  · split at e
    · cases e
    · split at e <;> cases e <;> exact h.refuse
theorem Frame.parityError (h : Frame L z s) {id} (hp : Covers L eventPieces := by exact hp.of rfl) : Frame L z (s.parityError id) := h.raise
theorem Frame.fabWrite (h : Frame L z s) {id a bs parity}
    (hp : Covers L eventPieces := by exact hp.of rfl) : Frame L z (s.fabWrite id a bs parity).1 := by
  unfold State.fabWrite
  dsimp only
  refine .iteFst h.parityError ?_
  split
  · next e =>
      exact .checkReq e h
  · refine .iteFst h.setBytes ?_
    split
    · next e =>
        exact .checkReq e h.setBytes
    · exact h.setBytes.setBytes

/-! ### Functions of Machine/Access -/

theorem Frame.fieldWrite (h : Frame L z s) {f v} (hp : Covers L [.regs] := by exact hp.of rfl) : Frame L z (s.fieldWrite f v) := h.set
theorem Frame.fieldsWrite (h : Frame L z s) {fs v} (hp : Covers L [.regs] := by exact hp.of rfl) : Frame L z (s.fieldsWrite fs v) :=
  .each h fun _ ht => ht.fieldWrite
theorem Frame.clearRc (h : Frame L z s) {fs} (hp : Covers L [.regs] := by exact hp.of rfl) : Frame L z (s.clearRc fs) := .each h fun _ ht => .ite ht.set ht
/-- A hook of a register write changes pieces of `L` alone where both its states do. -/
def WriteHook.Frames (L : List Piece) (z : State) (hook : WriteHook) : Prop :=
  ∀ (a v : Nat) (s t : State), Frame L z s → Frame L z t → Frame L z (hook a v s t)

theorem Frame.regApply (h : Frame L z s) {hook base fs v} (hk : WriteHook.Frames L z hook)
    (hp : Covers L [.regs] := by exact hp.of rfl) : Frame L z (State.regApply hook s base fs v) :=
  hk _ _ _ _ h h.fieldsWrite
theorem Frame.write4 (h : Frame L z s) {hook a v} (hk : WriteHook.Frames L z hook)
    (hp : Covers L [.regs, .held] := by exact hp.of rfl) : Frame L z (State.write4 hook s a v) := by
  unfold State.write4
  split
  · exact h
  · exact .ite (.ite h.updHeld (h.updHeld.regApply hk)) (h.regApply hk)
theorem Frame.regWrite (h : Frame L z s) {hook a size v} (hk : WriteHook.Frames L z hook)
    (hp : Covers L [.regs, .held] := by exact hp.of rfl) : Frame L z (State.regWrite hook s a size v) := by
  unfold State.regWrite
  refine .ite ?_ (h.write4 hk)
  split
  · exact .ite (h.updHeld.regApply hk) ((h.write4 hk).write4 hk)
  · exact h.write4 hk
/-- Both hooks of a register read change pieces of `L` alone. -/
def ReadHook.Frames (L : List Piece) (z : State) (hook : ReadHook) : Prop :=
  ∀ (a : Nat) (s : State), Frame L z s → Frame L z (hook.before a s) ∧ Frame L z (hook.after a s)

theorem Frame.read4 (h : Frame L z s) {hook id debug a} (hk : ReadHook.Frames L z hook)
    (hp : Covers L [.regs, .latch] := by exact hp.of rfl) : Frame L z (State.read4 hook s id debug a).2 := by
  unfold State.read4
  split
  · exact h
  · exact .ite ((hk _ _ h).1.updLatch) (hk _ _ ((hk _ _ h).1.updLatch).clearRc).2
theorem Frame.regRead (h : Frame L z s) {hook id debug a size} (hk : ReadHook.Frames L z hook)
    (hp : Covers L [.regs, .latch] := by exact hp.of rfl) : Frame L z (State.regRead hook s id debug a size).2 := by
  unfold State.regRead
  refine .iteSnd ?_ (h.read4 hk)
  split
  · exact .iteSnd (.ite ((hk _ _ h).1.updLatch) (hk _ _ ((hk _ _ h).1.updLatch).clearRc).2) ((h.read4 hk).read4 hk)
  · exact h.read4 hk
theorem Frame.restore (h : Frame L z s) {p} (hp : Covers L [.regs] := by exact hp.of rfl) : Frame L z (s.restore p) := h.updRegs
theorem Frame.unhold (h : Frame L z s) {p} (hp : Covers L [.held] := by exact hp.of rfl) : Frame L z (s.unhold p) := h.updHeld
theorem Frame.restoreBlock (h : Frame L z s) {b n} (hp : Covers L [.regs, .held] := by exact hp.of rfl) : Frame L z (s.restoreBlock b n) := h.restore.unhold
theorem Frame.restoreWarm (h : Frame L z s) (hp : Covers L [.regs, .held] := by exact hp.of rfl) : Frame L z s.restoreWarm := h.restore.unhold
theorem Frame.restoreCold (h : Frame L z s) (hp : Covers L [.regs, .held] := by exact hp.of rfl) : Frame L z s.restoreCold := h.restore.unhold

/-! ### Functions of Machine/TgMem -/

theorem Frame.tgSet (h : Frame L z s) {e g} (hp : Covers L [.tg] := by exact hp.of rfl) : Frame L z (s.tgSet e g) := .ite h.updTg h.updTg
theorem Frame.tgFault (h : Frame L z s) {e cause code val}
    (hp : Covers L eventPieces := by exact hp.of rfl) : Frame L z (s.tgFault e cause code val) := h.raise
theorem Frame.dmemIn (h : Frame L z s) {e off size v} (hp : Covers L tgEventPieces := by exact hp.of rfl) : Frame L z (s.dmemIn e off size v) :=
  .ite (.ite h.inc.tgFault h.updTg) h.store
theorem Frame.dmemFlush (h : Frame L z s) {e} (hp : Covers L [.mem, .tg, .core] := by exact hp.of rfl) : Frame L z (s.dmemFlush e) :=
  .each h.updTg fun _ ht => ht.store
theorem Frame.tgDeliver (h : Frame L z s) {e off v} (hp : Covers L tgEventPieces := by exact hp.of rfl) : Frame L z (s.tgDeliver e off v) := h.dmemIn
theorem Frame.tgFabricDmem (h : Frame L z s) {e off size v}
    (hp : Covers L tgEventPieces := by exact hp.of rfl) : Frame L z (s.tgFabricDmem e off size v) :=
  .each h fun _ ht => .each ht fun _ hu => hu.dmemIn
theorem Frame.laneDeliver (h : Frame L z s) {e off v parity}
    (hp : Covers L tgEventPieces := by exact hp.of rfl) : Frame L z (s.laneDeliver e off v parity).1 := by
  unfold State.laneDeliver
  refine .iteFst h.parityError ?_
  split
  · next e =>
      exact .checkReq e h
  · exact h.tgDeliver

end Sys2Proof.Machine
end

section
/-! PROOFS. What a command leaves unchanged, part 3 of 10: converters, buses and the switch. -/

namespace Sys2Proof.Machine
open Sys2Proof
set_option Elab.async false

variable {L : List Piece} {z s t : State} {r : EthRun}

/-! ### Functions of Machine/Adc -/

theorem Frame.adcBegin (h : Frame L z s) {n set} (hp : Covers L [.regs, .conv] := by exact hp.of rfl) : Frame L z (s.adcBegin n set) := h.updConv.set
theorem Frame.adcOverrun (h : Frame L z s) {n} (hp : Covers L eventPieces := by exact hp.of rfl) : Frame L z (s.adcOverrun n) := h.inc.raiseC
theorem Frame.adcStart (h : Frame L z s) {n} (hp : Covers L convEventPieces := by exact hp.of rfl) : Frame L z (s.adcStart n) :=
  .ite h <| .ite h.adcOverrun h.adcBegin
theorem Frame.execAdcSequenceStart (h : Frame L z s) {n}
    (hp : Covers L convEventPieces := by exact hp.of rfl) : FrameOut L z (execAdcSequenceStart n s) := by
  unfold Machine.execAdcSequenceStart
  split
  · exact h.next
  · next e =>
      exact .ite (.next (.adcStart (.arrive e h))) (.next (.arrive e h))
theorem Frame.adcStartWrite (h : Frame L z s) {n} (hp : Covers L convEventPieces := by exact hp.of rfl) : Frame L z (s.adcStartWrite n) := .ite h.adcStart h
theorem Frame.execAdcStart (h : Frame L z s) {n} (hp : Covers L convEventPieces := by exact hp.of rfl) : FrameOut L z (execAdcStart n s) := h.adcStartWrite.next
theorem Frame.adcFreerun (h : Frame L z s) {n} (hp : Covers L [.regs, .conv] := by exact hp.of rfl) : Frame L z (s.adcFreerun n) := .ite h.adcBegin h
theorem Frame.execAdcFreerunWrite (h : Frame L z s) {n en freerun}
    (hp : Covers L [.regs, .conv] := by exact hp.of rfl) : FrameOut L z (execAdcFreerunWrite n en freerun s) :=
  .ite h.next h.set.set.adcFreerun.next
theorem Frame.setUpd (h : Frame L z s) {g id f} (hp : Covers L [.conv] := by exact hp.of rfl) : Frame L z (s.setUpd g id f) := h.updConv
theorem Frame.setWord (h : Frame L z s) {g id n k w} (hp : Covers L [.conv] := by exact hp.of rfl) : Frame L z (s.setWord g id n k w) := h.setUpd
theorem Frame.execAdcSlotComplete (h : Frame L z s) {n sum err}
    (hp : Covers L convEventPieces := by exact hp.of rfl) : FrameOut L z (execAdcSlotComplete n sum err s) := by
  unfold Machine.execAdcSlotComplete
  dsimp only
  split
  · refine .shared ?_ fun h3 => .ite h3.updConv.next (.next (.adcFreerun (.also h3.updConv.set fun hs => hs.raiseC)))
    split
    · exact .setWord (.also h.set.set.set fun hs => hs.setBit.raiseC)
    · exact .also h.set.set.set fun hs => hs.setBit.raiseC
  · exact h.next
theorem Frame.grpConflict (h : Frame L z s) {g} (hp : Covers L [.regs] := by exact hp.of rfl) : Frame L z (s.grpConflict g) := h.set
theorem Frame.grpStart {s0 : State} (h : Frame L z s0) {g} (hp : Covers L convEventPieces := by exact hp.of rfl) : Frame L z (s0.grpStart g) :=
  .unless h.grpConflict fun hs => .unless (.each hs fun _ ht => ht.adcOverrun) fun hs2 => .each hs2.updConv fun _ ht => ht.adcBegin
theorem Frame.execAdcGroupStart (h : Frame L z s) {g} (hp : Covers L convEventPieces := by exact hp.of rfl) : FrameOut L z (execAdcGroupStart g s) := by
  unfold Machine.execAdcGroupStart
  split
  · exact h.next
  · next e =>
      exact .next (.grpStart (.arrive e h))
theorem Frame.execAdcGroupStartWrite (h : Frame L z s) {g}
    (hp : Covers L convEventPieces := by exact hp.of rfl) : FrameOut L z (execAdcGroupStartWrite g s) := .ite h.grpStart.next h.next
theorem Frame.setRefused (h : Frame L z s) {g x} (hp : Covers L convEventPieces := by exact hp.of rfl) : Frame L z (s.setRefused g x) :=
  .ite h.set h.set.setUpd.raiseC
theorem Frame.execAdcWordDeliver (h : Frame L z s) {g parity}
    (hp : Covers L [.regs, .mem, .due, .evr, .conv, .tg, .core, .out] := by exact hp.of rfl) : FrameOut L z (execAdcWordDeliver g parity s) := by
  unfold Machine.execAdcWordDeliver
  dsimp only
  split
  · exact h.next
  · exact .ite h.setUpd.setRefused.next (.next (.each h.setUpd fun _ ht => .unless ht.laneDeliver fun hs => hs.setRefused))
theorem Frame.execAdcRingWrite (h : Frame L z s) {g parity}
    (hp : Covers L convEventPieces := by exact hp.of rfl) : FrameOut L z (execAdcRingWrite g parity s) := by
  unfold Machine.execAdcRingWrite
  dsimp only
  split
  · exact h.next
  · exact .next <| .set <| .setUpd <| .each h fun _ ht => .ite ht.fabWrite ht.fabWrite.setRefused
theorem Frame.execAdcSetComplete (h : Frame L z s) {g}
    (hp : Covers L convEventPieces := by exact hp.of rfl) : FrameOut L z (execAdcSetComplete g s) := by
  unfold Machine.execAdcSetComplete
  dsimp only
  split
  · exact h.next
  · exact h.updConv.addWrap.raiseC.next

/-! ### Functions of Machine/Wake -/

theorem Frame.wakeConfirm (h : Frame L z s) {b} (hp : Covers L crsEventPieces := by exact hp.of rfl) : Frame L z (s.wakeConfirm b) :=
  .ite h.updCrs.set.set.raiseC h
theorem Frame.zoneLow (h : Frame L z s) {cause} (hp : Covers L eventPieces := by exact hp.of rfl) : Frame L z (s.zoneLow cause) := .ite h.set.set.raiseC.emit h
theorem Frame.zoneHigh (h : Frame L z s) (hp : Covers L eventPieces := by exact hp.of rfl) : Frame L z s.zoneHigh := .ite h h.set.raiseC.emit

/-! ### Functions of Machine/Can -/

theorem Frame.canUpd (h : Frame L z s) {c g} (hp : Covers L [.can] := by exact hp.of rfl) : Frame L z (s.canUpd c g) := h.updCan
theorem Frame.canFull (h : Frame L z s) {c o b} (hp : Covers L [.regs] := by exact hp.of rfl) : Frame L z (s.canFull c o b) := h.set.setBit
theorem Frame.canReq (h : Frame L z s) {c o b} (hp : Covers L [.regs] := by exact hp.of rfl) : Frame L z (s.canReq c o b) := h.set.setBit
theorem Frame.canMirror (h : Frame L z s) {c o} (hp : Covers L [.out] := by exact hp.of rfl) : Frame L z (s.canMirror c o) := .ite h.emit h
theorem Frame.canStart (h : Frame L z s) {c} (hp : Covers L [.regs, .can] := by exact hp.of rfl) : Frame L z (s.canStart c) :=
  .ite h.setIf.canUpd.set.set.set.set h.set.set
theorem Frame.canOff (h : Frame L z s) {c} (hp : Covers L [.regs, .can] := by exact hp.of rfl) : Frame L z (s.canOff c) := h.canUpd.set.set.set.set.set
theorem Frame.canErrState (h : Frame L z s) {c} (hp : Covers L eventPieces := by exact hp.of rfl) : Frame L z (s.canErrState c) :=
  .ite h.set.raiseC <| .ite h.set.raiseC h
theorem Frame.canTxEnd (h : Frame L z s) {c} (hp : Covers L [.regs, .can] := by exact hp.of rfl) : Frame L z (s.canTxEnd c) := h.canUpd.set.set
theorem Frame.canFail (h : Frame L z s) {c o} (hp : Covers L eventPieces := by exact hp.of rfl) : Frame L z (s.canFail c o) := h.canReq.set.canMirror.raiseC
theorem Frame.canOffer (h : Frame L z s) {c f} (hp : Covers L canEventPieces := by exact hp.of rfl) : Frame L z (s.canOffer c f) := by
  unfold State.canOffer
  dsimp only
  split
  · exact h.inc
  · split
    · exact h.canUpd
    · exact h.set.inc.raiseC
theorem Frame.canStore (h : Frame L z s) {c o f} (hp : Covers L eventPieces := by exact hp.of rfl) : Frame L z (s.canStore c o f) :=
  .also (.canFull (.addWrap (.set (.also (.unless h.setBytes.set.set.set.set.set fun hs => hs.set.set) fun hs => hs.set.set.set.set)))) fun hs => hs.raiseC
theorem Frame.canRxGood (h : Frame L z s) {c}
    (hp : Covers L [.regs, .mem, .due, .evr, .core, .out, .free] := by exact hp.of rfl) : Frame L z (s.canRxGood c) :=
  .ite h <| .ite h <| .ite h.set.canErrState h.draw.set.canErrState
theorem Frame.canTxreq (h : Frame L z s) {c o} (hp : Covers L [.regs, .out] := by exact hp.of rfl) : Frame L z (s.canTxreq c o) := .ite h.canReq.canMirror h
theorem Frame.canAbort (h : Frame L z s) {c o} (hp : Covers L canEventPieces := by exact hp.of rfl) : Frame L z (s.canAbort c o) := by
  unfold State.canAbort
  split
  · exact .ite h.canUpd <| .ite h.canFail h
  · exact .ite h.canFail h
theorem Frame.canRecover (h : Frame L z s) {c} (hp : Covers L [.regs] := by exact hp.of rfl) : Frame L z (s.canRecover c) := .ite h.set h
theorem Frame.canCorrAt (h : Frame L z s) {c at_ ref} (hp : Covers L [.regs] := by exact hp.of rfl) : Frame L z (s.canCorrAt c at_ ref) := h.set.set.set.addWrap
theorem Frame.canCorrelate (h : Frame L z s) {c} (hp : Covers L [.regs] := by exact hp.of rfl) : Frame L z (s.canCorrelate c) := h.canCorrAt
theorem Frame.canTdcv (h : Frame L z s) {c f v} (hp : Covers L [.regs] := by exact hp.of rfl) : Frame L z (s.canTdcv c f v) := .ite h.set h
theorem Frame.canTrx (h : Frame L z s) {c} (hp : Covers L [.regs] := by exact hp.of rfl) : Frame L z (s.canTrx c) := h.set
theorem Frame.execCanStart (h : Frame L z s) {c} (hp : Covers L [.regs, .can] := by exact hp.of rfl) : FrameOut L z (execCanStart c s) :=
  .ite h.next <| .ite h.next <| .ite h.canStart.next h.set.next
theorem Frame.execCanIntegrationDone (h : Frame L z s) {c}
    (hp : Covers L [.regs] := by exact hp.of rfl) : FrameOut L z (execCanIntegrationDone c s) := .ite h.set.next h.next
theorem Frame.canMirrorSeen (h : Frame L z s) {c f} (hp : Covers L [.regs] := by exact hp.of rfl) : Frame L z (s.canMirrorSeen c f) := by
  unfold State.canMirrorSeen
  dsimp only
  refine .ite ?_ h
  split
  · exact h.canReq
  · exact h
theorem Frame.execCanFrameValid {s0 : State} (h : Frame L z s0) {c fr age}
    (hp : Covers L [.regs, .mem, .due, .evr, .can, .crs, .core, .out, .free] := by exact hp.of rfl) : FrameOut L z (execCanFrameValid c fr age s0) :=
  .ite (.next (.wakeConfirm (.canOffer (.canMirrorSeen (.canRxGood (.ite h.set h)))))) (.next (.ite h.set h))
theorem Frame.execCanObjectWrite (h : Frame L z s) {c} (hp : Covers L canEventPieces := by exact hp.of rfl) : FrameOut L z (execCanObjectWrite c s) := by
  unfold Machine.execCanObjectWrite
  dsimp only
  split
  · exact h.next
  · exact .next (.also h.canUpd.canStore fun hs => hs.canFull)
theorem Frame.execCanTxreq (h : Frame L z s) {c o} (hp : Covers L [.regs, .out] := by exact hp.of rfl) : FrameOut L z (execCanTxreq c o s) :=
  .ite h.next h.canTxreq.next
theorem Frame.execCanArbitrationStart (h : Frame L z s) {c}
    (hp : Covers L [.regs, .can] := by exact hp.of rfl) : FrameOut L z (execCanArbitrationStart c s) := by
  unfold Machine.execCanArbitrationStart
  dsimp only
  refine .ite ?_ h.next
  split
  · exact h.canUpd.set.set.set.next
  · exact h.next
theorem Frame.execCanTxSuccess (h : Frame L z s) {c tdcv}
    (hp : Covers L canEventPieces := by exact hp.of rfl) : FrameOut L z (execCanTxSuccess c tdcv s) := by
  unfold Machine.execCanTxSuccess
  dsimp only
  split
  · exact h.next
  · exact .ite h.next (.next (.also (.unless (.canErrState (.set (.canTdcv
      (.also h.canTxEnd.canReq.set.canMirror.set fun hs => hs.raiseC)))) fun hs => hs.emit) fun hs => hs.canOffer))
theorem Frame.execCanTxError (h : Frame L z s) {c lec data count tdcv}
    (hp : Covers L canEventPieces := by exact hp.of rfl) : FrameOut L z (execCanTxError c lec data count tdcv s) := by
  unfold Machine.execCanTxError
  split
  · exact h.next
  · extract_lets s0 s1 tec s2 s3
    have hs0 : Frame L z s0 := by
      dsimp only [s0]
      split
      · exact h.canTdcv
      · exact h
    have hs2 : Frame L z s2 := hs0.canTxEnd.inc.set.set.set
    have hs3 : Frame L z s3 := .ite hs2.set.inc.raiseC hs2.canErrState
    exact .next (.also hs3 fun hs => hs.canFail)
theorem Frame.execCanArbitrationLost (h : Frame L z s) {c}
    (hp : Covers L canEventPieces := by exact hp.of rfl) : FrameOut L z (execCanArbitrationLost c s) := by
  unfold Machine.execCanArbitrationLost
  dsimp only
  split
  · exact h.next
  · exact .next (.also h.canTxEnd.inc.setIf fun hs => hs.canFail)
theorem Frame.execCanAbort (h : Frame L z s) {c o} (hp : Covers L canEventPieces := by exact hp.of rfl) : FrameOut L z (execCanAbort c o s) :=
  .ite h.next h.canAbort.next
theorem Frame.execCanBusoffRecover (h : Frame L z s) {c} (hp : Covers L [.regs] := by exact hp.of rfl) : FrameOut L z (execCanBusoffRecover c s) :=
  h.canRecover.next
theorem Frame.execCanBusoffRecovered (h : Frame L z s) {c}
    (hp : Covers L eventPieces := by exact hp.of rfl) : FrameOut L z (execCanBusoffRecovered c s) := .ite h.set.set.set.raiseC.next h.next
theorem Frame.execCanLomApply (h : Frame L z s) {c} (hp : Covers L [.regs, .can] := by exact hp.of rfl) : FrameOut L z (execCanLomApply c s) :=
  .ite h.next <| .ite h.next (.next (.ite h.canUpd.set h.canUpd))
theorem Frame.execCanRxError (h : Frame L z s) {c lec data inc}
    (hp : Covers L eventPieces := by exact hp.of rfl) : FrameOut L z (execCanRxError c lec data inc s) :=
  .ite (.next (.unless h.inc.set.set.set fun hs => hs.addSat.canErrState)) h.next
theorem Frame.execCanProtocolException (h : Frame L z s) {c}
    (hp : Covers L eventPieces := by exact hp.of rfl) : FrameOut L z (execCanProtocolException c s) := .ite h.set.set.set.raiseC.next h.next
theorem Frame.execCanTxdTimeout (h : Frame L z s) {c} (hp : Covers L canEventPieces := by exact hp.of rfl) : FrameOut L z (execCanTxdTimeout c s) :=
  .ite h.next <| .ite h.next h.canUpd.set.raiseC.next
theorem Frame.execCanBusReleaseEnd (h : Frame L z s) {c} (hp : Covers L [.can] := by exact hp.of rfl) : FrameOut L z (execCanBusReleaseEnd c s) :=
  .ite h.next h.canUpd.next
theorem Frame.execCanCorrelation (h : Frame L z s) {c take}
    (hp : Covers L [.regs, .due] := by exact hp.of rfl) : FrameOut L z (execCanCorrelation c take s) := by
  unfold Machine.execCanCorrelation
  refine .ite h.next <| .ite h.canCorrelate.next ?_
  split
  · next e =>
      exact .next (.canCorrAt (.arrive e h))
  · exact h.next
theorem Frame.execBusWakeDetect (h : Frame L z s) {b} (hp : Covers L eventPieces := by exact hp.of rfl) : FrameOut L z (execBusWakeDetect b s) :=
  .ite h.next <| .ite h.next <| .ite (.ite h.set.next h.next) <| .ite h.set.raiseC.next h.next
theorem Frame.execTransceiverOvertemp (h : Frame L z s) {b}
    (hp : Covers L [.regs, .mem, .due, .evr, .can, .lin, .core, .out] := by exact hp.of rfl) : FrameOut L z (execTransceiverOvertemp b s) :=
  .ite h.next <| .ite (.ite h.next h.canUpd.set.raiseC.next) <| .ite h.next h.updLin.set.raiseC.next
theorem Frame.execTransceiverOvertempEnd (h : Frame L z s) {b}
    (hp : Covers L [.can, .lin] := by exact hp.of rfl) : FrameOut L z (execTransceiverOvertempEnd b s) :=
  .ite h.next <| .ite h.canUpd.next h.updLin.next
theorem Frame.canWrite {old : State} (h : Frame L z old) (h1 : Frame L z s) {a v}
    (hp : Covers L canEventPieces := by exact hp.of rfl) : Frame L z (canWrite a v old s) :=
  .ite (.ite (.also (.also (.ite h1.canRecover h1) fun hs => hs.set) fun hs => hs.canStart) (.also (.also
    (.ite h1.canRecover h1) fun hs => hs.set) fun hs => hs.canOff)) <| .ite (h.mix h1 .held) <| .ite (.ite h1.canCorrelate h1) <| .ite h1.canTrx <|
    .ite (.ite (h.mix h1 .held) h1) <| .ite (.ite (.ite h1.set.set h1) <| .ite (.also (.ite h1.canReq.canTxreq h1.canReq) fun hs => hs.canAbort) <|
    .ite (.ite h1.canFull.set h1.canFull) h1) h1
theorem Frame.canBefore (h : Frame L z s) {a} (hp : Covers L [.regs] := by exact hp.of rfl) : Frame L z (canBefore a s) := .ite h.set <| .ite h.set h
theorem Frame.canReset (h : Frame L z s) {c} (hp : Covers L [.regs, .held, .can] := by exact hp.of rfl) : Frame L z (s.canReset c) := h.restoreBlock.canUpd

/-! ### Functions of Machine/Gates -/

theorem Frame.gateChange (h : Frame L z s) {p} (hp : Covers L [.regs, .esw] := by exact hp.of rfl) : Frame L z (s.gateChange p) := h.updEsw.set.set
theorem Frame.gateApply (h : Frame L z s) {p} (hp : Covers L eswEventPieces := by exact hp.of rfl) : Frame L z (s.gateApply p) := by
  unfold State.gateApply
  dsimp only
  split
  · exact h
  · exact h.updEsw.set.set.raiseC
theorem Frame.sgateChange (h : Frame L z s) {g} (hp : Covers L [.regs, .esw] := by exact hp.of rfl) : Frame L z (s.sgateChange g) := h.updEsw.set.set
theorem Frame.sgateApply (h : Frame L z s) {g} (hp : Covers L eswEventPieces := by exact hp.of rfl) : Frame L z (s.sgateApply g) := by
  unfold State.sgateApply
  dsimp only
  split
  · exact h
  · exact h.updEsw.set.set.raiseC
theorem Frame.gateStepPort (h : Frame L z s) {p} (hp : Covers L eswEventPieces := by exact hp.of rfl) : Frame L z (s.gateStepPort p) := by
  unfold State.gateStepPort
  dsimp only
  split
  · exact .also (.ite h.inc.raiseC h) fun hs => hs.gateApply
  · exact .ite h.inc.raiseC h
theorem Frame.gateStepStream (h : Frame L z s) {g} (hp : Covers L eswEventPieces := by exact hp.of rfl) : Frame L z (s.gateStepStream g) := by
  unfold State.gateStepStream
  split
  · exact .ite h.sgateApply h
  · exact h
theorem Frame.gateStep (h : Frame L z s) (hp : Covers L eswEventPieces := by exact hp.of rfl) : Frame L z s.gateStep :=
  .each (.each h fun _ ht => ht.gateStepPort) fun _ ht => ht.gateStepStream

/-! ### Functions of Machine/Esw -/

theorem Frame.mirrored (h : Frame L z s) {a v} (hp : Covers L [.out] := by exact hp.of rfl) : Frame L z (s.mirrored a v) := .ite h.emit h
theorem Frame.mirrored8 (h : Frame L z s) {a v} (hp : Covers L [.out] := by exact hp.of rfl) : Frame L z (s.mirrored8 a v) := .ite h.emit h
theorem Frame.setEthQ (h : Frame L z s) {p q l} (hp : Covers L [.regs, .esw] := by exact hp.of rfl) : Frame L z (s.setEthQ p q l) := h.updEsw.set.track
theorem Frame.setFree (h : Frame L z s) {v} (hp : Covers L eventPieces := by exact hp.of rfl) : Frame L z (s.setFree v) := .ite h.set.setIf.raiseC h.set.setIf
theorem Frame.copyGone (h : Frame L z s) {c} (hp : Covers L eswEventPieces := by exact hp.of rfl) : Frame L z (s.copyGone c) := .ite h.updEsw.setFree h.updEsw
theorem Frame.flushPort (h : Frame L z s) {p} (hp : Covers L eswEventPieces := by exact hp.of rfl) : Frame L z (s.flushPort p) :=
  .each h fun _ ht => .setEthQ (.each ht fun _ hu => hu.inc.inc.copyGone)
theorem Frame.ethSettle (h : Frame L z s) {p} (hp : Covers L [.regs, .esw] := by exact hp.of rfl) : Frame L z (s.ethSettle p) := .ite h.updEsw h.updEsw.set
theorem Frame.pinRefresh (h : Frame L z s) {k} (hp : Covers L [.regs] := by exact hp.of rfl) : Frame L z (s.pinRefresh k) := h.set
theorem Frame.unmark (h : Frame L z s) {k p} (hp : Covers L [.regs, .esw] := by exact hp.of rfl) : Frame L z (s.unmark k p) := .each h fun _ ht => ht.setEthQ
theorem Frame.pinFail (h : Frame L z s) {k p} (hp : Covers L eswEventPieces := by exact hp.of rfl) : Frame L z (s.pinFail k p) := by
  unfold State.pinFail
  exact .pinRefresh <| .raiseC <| .inc <| .set <| .set <| .updEsw <| .each h.unmark.unmark fun _ ht => .ite ht ht.ethSettle.setEthQ.setEthQ
theorem Frame.pinPortLeaves (h : Frame L z s) {p} (hp : Covers L eswEventPieces := by exact hp.of rfl) : Frame L z (s.pinPortLeaves p) :=
  .each h fun _ ht => .ite (.ite ht.pinFail ht.pinRefresh) ht
theorem Frame.pinPortUp (h : Frame L z s) {p} (hp : Covers L [.regs] := by exact hp.of rfl) : Frame L z (s.pinPortUp p) :=
  .each h fun _ ht => .ite ht.pinRefresh ht
theorem Frame.pinRevert (h : Frame L z s) {k} (hp : Covers L [.regs, .esw] := by exact hp.of rfl) : Frame L z (s.pinRevert k) := by
  unfold State.pinRevert
  dsimp only
  refine .ite ?_ h.set
  exact .pinRefresh <| .set <| .set <| by split; exacts [h, .updEsw (.each h fun _ ht => ht.setEthQ)]
theorem Frame.sendEnd (h : Frame L z s) {p} (hp : Covers L eswEventPieces := by exact hp.of rfl) : Frame L z (s.sendEnd p) := by
  unfold State.sendEnd
  dsimp only
  split
  · exact h.updEsw.copyGone
  · exact h
theorem Frame.ethEnds (h : Frame L z s) (hp : Covers L eswEventPieces := by exact hp.of rfl) : Frame L z s.ethEnds := .each h fun _ ht => .ite ht.sendEnd ht
theorem Frame.linkDown (h : Frame L z s) {p cause} (hp : Covers L eswEventPieces := by exact hp.of rfl) : Frame L z (s.linkDown p cause) :=
  .also h.ethSettle.set.set.set fun hs => hs.updEsw.sendEnd.set.inc.raiseC.pinPortLeaves
theorem Frame.linkUp (h : Frame L z s) {n speed} (hp : Covers L linkLossPieces := by exact hp.of rfl) : Frame L z (s.linkUp n speed) :=
  .also h.updEsw.ethSettle.set.set.set.wakeConfirm fun hs => hs.set.raiseC.pinPortUp.ethSettle
theorem Frame.csmaUp (h : Frame L z s) {n} (hp : Covers L linkLossPieces := by exact hp.of rfl) : Frame L z (s.csmaUp n) := .ite h.linkUp h
theorem Frame.portOff (h : Frame L z s) {p} (hp : Covers L eswEventPieces := by exact hp.of rfl) : Frame L z (s.portOff p) :=
  .also h.ethSettle.flushPort.set.updEsw fun hs => hs.pinPortLeaves
theorem Frame.putFields (h : Frame L z s) {fs v} (hp : Covers L [.regs] := by exact hp.of rfl) : Frame L z (s.putFields fs v) := .each h fun _ ht => ht.set
theorem Frame.fdbInval (h : Frame L z s) {key} (hp : Covers L [.esw] := by exact hp.of rfl) : Frame L z (s.fdbInval key) := h.updEsw
theorem Frame.fdbUsed (h : Frame L z s) {old new} (hp : Covers L [.regs] := by exact hp.of rfl) : Frame L z (s.fdbUsed old new) := h.set
theorem Frame.fdbMirror (h : Frame L z s) {i key data} (hp : Covers L [.out] := by exact hp.of rfl) : Frame L z (s.fdbMirror i key data) := .ite h.emit h
theorem Frame.fdbPut (h : Frame L z s) {i key data} (hp : Covers L [.regs, .esw, .out] := by exact hp.of rfl) : Frame L z (s.fdbPut i key data) :=
  h.fdbInval.fdbInval.set.set.putFields.fdbUsed.fdbMirror
theorem Frame.fdbRemove (h : Frame L z s) {i} (hp : Covers L [.regs, .esw, .out] := by exact hp.of rfl) : Frame L z (s.fdbRemove i) :=
  h.fdbInval.set.fdbUsed.fdbMirror
theorem Frame.fdbError (h : Frame L z s) {c} (hp : Covers L eventPieces := by exact hp.of rfl) : Frame L z (s.fdbError c) := h.set.set.raiseC
theorem Frame.fdbGo (h : Frame L z s) {op} (hp : Covers L eswEventPieces := by exact hp.of rfl) : Frame L z (s.fdbGo op) :=
  .ite h.fdbError <| .ite h.set.set.fdbError (.set (.ite h.set.updEsw.emit h.set.updEsw))
theorem Frame.fdbRun (h : Frame L z s) {c} (hp : Covers L eswEventPieces := by exact hp.of rfl) : Frame L z (s.fdbRun c) := by
  unfold State.fdbRun
  dsimp only
  split
  · split
    · exact h.putFields
    · exact h.fdbError
  · split
    · exact h.fdbPut
    · split
      · exact h.fdbPut
      · split
        · exact h.fdbPut
        · exact h.fdbError
  · split
    · exact h.fdbRemove
    · exact h.fdbError
  · exact .each h fun _ ht => .ite ht.fdbRemove ht
  · exact h.updEsw
  · exact h
theorem Frame.fdbLookup (h : Frame L z s) {key} (hp : Covers L [.esw, .free] := by exact hp.of rfl) : Frame L z (s.fdbLookup key).1 := by
  unfold State.fdbLookup
  dsimp only
  split
  · exact .iteFst h.draw h.draw.updEsw
  · exact h.updEsw
theorem Frame.ethLearn (h : Frame L z s) {f} (hp : Covers L eswEventPieces := by exact hp.of rfl) : Frame L z (s.ethLearn f) := by
  unfold State.ethLearn
  dsimp only
  refine .ite h ?_
  split
  · exact .ite h <| .ite h.fdbPut h.fdbPut.inc.raiseSum
  · split
    · exact h.fdbPut
    · exact h.inc.raiseSum
theorem Frame.meterChange {old : State} (h : Frame L z s) (_h1 : Frame L z old) {m}
    (hp : Covers L [.esw] := by exact hp.of rfl) : Frame L z (s.meterChange old m) := h.updEsw
theorem Frame.meterColour (h : Frame L z s) {m len c} (hp : Covers L [.esw] := by exact hp.of rfl) : Frame L z (s.meterColour m len c).1 := h.updEsw
theorem Frame.frerTake (h : Frame L z s) {r seq} (hp : Covers L [.regs, .esw] := by exact hp.of rfl) : Frame L z (s.frerTake r seq).1 :=
  .iteFst h.updEsw.set <| .iteFst h <| .iteFst (.iteFst h h.updEsw.set) <| .iteFst h <| .iteFst h h.updEsw
theorem Frame.sample (h : Frame L z s) {p tx f fate mask queue len head}
    (hp : Covers L [.regs, .mem, .due, .evr, .esw, .core, .out, .free] := by exact hp.of rfl) : Frame L z (s.sample p tx f fate mask queue len head) :=
  .ite h (.unless (.ite h.updEsw.draw h.updEsw) fun hs => .ite hs.inc.raiseSum hs.updEsw)
theorem Frame.redPass (h : Frame L z s) {p q c} (hp : Covers L [.free] := by exact hp.of rfl) : Frame L z (s.redPass p q c).1 :=
  .iteFst h <| .iteFst h <| .iteFst h h.draw
theorem Frame.admitOne (h : Frame L z s) {f q p} (hp : Covers L [.free] := by exact hp.of rfl) : Frame L z (s.admitOne f q p).1 :=
  .iteFst h <| .iteFst h <| .iteFst h.redPass <| .iteFst h.redPass h.redPass
theorem Frame.admitAll (h : Frame L z s) {f q l} (hp : Covers L [.free] := by exact hp.of rfl) : Frame L z (s.admitAll f q l).1 := by
  induction l generalizing s with
  | nil => exact h
  | cons x l ih => exact ih h.admitOne
theorem Frame.refuseCopy (h : Frame L z s) {p q why} (hp : Covers L eventPieces := by exact hp.of rfl) : Frame L z (s.refuseCopy p q why) := by
  unfold State.refuseCopy
  split
  · exact h.inc
  · exact h.inc
  · exact h.inc.inc
  · exact h.inc.raiseSum
theorem Frame.enqueue (h : Frame L z s) {id f q l} (hp : Covers L eswEventPieces := by exact hp.of rfl) : Frame L z (s.enqueue id f q l).1 :=
  .iteFst (.each h fun _ ht => ht.refuseCopy) (.each (.setFree (.updEsw (.each h fun _ ht => ht.refuseCopy))) fun _ ht => ht.ethSettle.setEthQ)
theorem Frame.ethFinish (h : Frame L z s) {id f0 q dests first}
    (hp : Covers L [.regs, .mem, .due, .evr, .esw, .core, .out, .free] := by exact hp.of rfl) : Frame L z (s.ethFinish id f0 q dests first) :=
  .ite (.also h.admitAll.updEsw fun hs => hs.raiseSum) h.admitAll.enqueue.updEsw.ethLearn.sample
theorem Frame.andThen (h : Frame L z r.s) {g : EthRun → EthRun} (hg : ∀ {q : EthRun}, Frame L z q.s → Frame L z (g q).s) :
    Frame L z (r.andThen g).s :=
  .iteRun (hg h) h
theorem Frame.macRx (h : Frame L z s) {p bs} (hp : Covers L [.regs] := by exact hp.of rfl) : Frame L z (s.macRx p bs).1 := by
  unfold State.macRx
  dsimp only
  refine .iteFst h.fst ?_
  split
  · exact h.fst
  · refine .iteFst h.inc.fst ?_
    split
    · exact h.inc.fst
    · exact .iteFst h.fst <| .iteFst h.inc.fst <| .iteFst h.inc.fst h.set.fst
theorem Frame.vlan (h : Frame L z r.s) {tci} (hp : Covers L [.regs] := by exact hp.of rfl) : Frame L z (EthRun.vlan tci r).s := .iteRun h <| .iteRun h.inc h
theorem Frame.drop (h : Frame L z r.s) {i fate} (hp : Covers L [.regs] := by exact hp.of rfl) : Frame L z (r.drop i fate).s := h.inc
theorem Frame.filtSize (h : Frame L z r.s) {i} (hp : Covers L eventPieces := by exact hp.of rfl) : Frame L z (EthRun.filtSize i r).s :=
  .iteRun (.drop (.ite h.set.raiseC h)) <| .iteRun h.drop h
theorem Frame.filtGate (h : Frame L z r.s) {i} (hp : Covers L eventPieces := by exact hp.of rfl) : Frame L z (EthRun.filtGate i r).s :=
  .iteRun h <| .iteRun h (.drop (.ite h.inc.set.raiseC h.inc))
theorem Frame.filtMeter (h : Frame L z r.s) {i} (hp : Covers L eswEventPieces := by exact hp.of rfl) : Frame L z (EthRun.filtMeter i r).s :=
  .iteRun h <| .iteRun (.iteRun h.meterColour.inc.raiseSum.drop h.meterColour.inc) <|
    .iteRun (.iteRun h.meterColour.inc.drop h.meterColour.inc) h.meterColour
theorem Frame.stream (h : Frame L z r.s) (hp : Covers L eswEventPieces := by exact hp.of rfl) : Frame L z r.stream.s := by
  unfold EthRun.stream
  dsimp only
  split
  · exact h
  · exact .andThen (.andThen (.andThen h.inc fun ht => ht.filtSize) fun ht => ht.filtGate) fun ht => ht.filtMeter
theorem Frame.recover (h : Frame L z r.s) (hp : Covers L eswEventPieces := by exact hp.of rfl) : Frame L z r.recover.s := by
  unfold EthRun.recover
  dsimp only
  split
  · exact .iteRun h.frerTake.inc <| .iteRun h.frerTake.inc.raiseSum h.frerTake
  · exact h
theorem Frame.generate (h : Frame L z r.s) (hp : Covers L [.regs] := by exact hp.of rfl) : Frame L z r.generate.s := by
  unfold EthRun.generate
  split
  · exact h.addWrap
  · exact h
theorem Frame.ethDests (h : Frame L z s) {f} (hp : Covers L [.esw, .free] := by exact hp.of rfl) : Frame L z (s.ethDests f).1 := .iteFst h h.fdbLookup
theorem Frame.ethRoute (h : Frame L z s) {p at_ bs}
    (hp : Covers L [.regs, .mem, .due, .evr, .esw, .core, .out, .free] := by exact hp.of rfl) : Frame L z (s.ethRoute p at_ bs) := by
  unfold State.ethRoute
  extract_lets r0 r d g ring q _ _ s1
  have hr : Frame L z r.s := .andThen (.andThen (.andThen h fun ht => ht.vlan) fun ht => ht.stream) fun ht => ht.recover
  have hs1 : Frame L z s1 := .updEsw (.generate hr.ethDests)
  exact .ite hr.sample <| .ite hr.ethLearn.sample <| .ite hr.ethDests.sample hs1.ethFinish
theorem Frame.ethReceive (h : Frame L z s) {p rx} (hp : Covers L ringPieces := by exact hp.of rfl) : Frame L z (s.ethReceive p rx) := by
  unfold State.ethReceive
  dsimp only
  refine .ite h.addSat.inc.addWrap <| .ite (.addWrap (.inc (.ite h.addSat.wakeConfirm h.addSat))) ?_
  split
  · exact .macRx <| .addWrap <| .addWrap <| .ite h.addSat.wakeConfirm h.addSat
  · exact .unless (.macRx (.addWrap (.addWrap (.ite h.addSat.wakeConfirm h.addSat)))) fun hs => hs.ethRoute
theorem Frame.macSend (h : Frame L z s) {p a} (hp : Covers L eventPieces := by exact hp.of rfl) : Frame L z (s.macSend p a) :=
  .ite h.set.raiseC <| .ite h.set.raiseC h.set
theorem Frame.popQ (h : Frame L z s) {p q} (hp : Covers L [.regs, .esw] := by exact hp.of rfl) : Frame L z (s.popQ p q) := h.setEthQ
theorem Frame.ptpSend (h : Frame L z s) {p m}
    (hp : Covers L [.regs, .mem, .due, .evr, .esw, .core, .out, .free] := by exact hp.of rfl) : Frame L z (s.ptpSend p m) := h.updEsw.admitAll.enqueue
theorem Frame.ptpSent (h : Frame L z s) {p m t} (hp : Covers L gptpPieces := by exact hp.of rfl) : Frame L z (s.ptpSent p m t) := by
  unfold State.ptpSent
  dsimp only
  split
  · split
    · exact h.ptpSend
    · exact h.ptpSend
  · exact h.updGtb
  · exact h.ptpSend
  · exact h
  · exact h
theorem Frame.ethOut (h : Frame L z s) {p f bs t} (hp : Covers L gptpPieces := by exact hp.of rfl) : Frame L z (s.ethOut p f bs t) := by
  unfold State.ethOut
  dsimp only
  refine .ite h.updEsw ?_
  split
  · exact h.emit.ptpSent
  · exact h.emit
theorem Frame.ethStart (h : Frame L z s) {p q c}
    (hp : Covers L [.regs, .mem, .gtb, .due, .evr, .esw, .gw, .core, .out, .free] := by exact hp.of rfl) : Frame L z (s.ethStart p q c) :=
  .ethOut <| .sample <| .shared (.updEsw <| .addWrap <| .addWrap <| .popQ <| .iteFst (by split; exacts [h.macSend, h]) h) fun hs =>
    .ite hs.updEsw (.ite hs.updGw hs)
theorem Frame.ethSend (h : Frame L z s) {ready n p}
    (hp : Covers L [.regs, .mem, .gtb, .due, .evr, .esw, .gw, .core, .out, .free] := by exact hp.of rfl) : Frame L z (State.ethSend ready n s p) := by
  induction n generalizing s with
  | zero => exact h
  | succ n ih =>
    unfold State.ethSend
    split
    · exact h
    · split
      · exact h
      · exact .ite h.ethStart <| .ite (ih h.popQ.copyGone.inc.inc.raiseSum) (ih h.popQ.copyGone.inc)
theorem Frame.execPortLinkDown (h : Frame L z s) {p} (hp : Covers L eswEventPieces := by exact hp.of rfl) : FrameOut L z (execPortLinkDown p s) :=
  .ite h.next h.updEsw.linkDown.next
theorem Frame.execPortLinkUp (h : Frame L z s) {p speed sqi}
    (hp : Covers L linkLossPieces := by exact hp.of rfl) : FrameOut L z (execPortLinkUp p speed sqi s) :=
  .ite h.next <| .ite h.next h.set.linkUp.next
theorem Frame.execPortHoldExpiry (h : Frame L z s) {p} (hp : Covers L eswEventPieces := by exact hp.of rfl) : FrameOut L z (execPortHoldExpiry p s) :=
  .ite h.next <| .ite h.flushPort.set.raiseC.next h.next
theorem Frame.execPortDisable (h : Frame L z s) {p} (hp : Covers L eswEventPieces := by exact hp.of rfl) : FrameOut L z (execPortDisable p s) :=
  .ite h.next h.set.mirrored.portOff.next
theorem Frame.execPlcaBeaconTimeout (h : Frame L z s) {p}
    (hp : Covers L eswEventPieces := by exact hp.of rfl) : FrameOut L z (execPlcaBeaconTimeout p s) := .ite h.next <| .ite h.linkDown.next h.next
theorem Frame.execPlcaBeacon (h : Frame L z s) {p} (hp : Covers L linkLossPieces := by exact hp.of rfl) : FrameOut L z (execPlcaBeacon p s) :=
  .ite h.next <| .ite h.next <| .ite h.emit.next <| .ite h.next h.linkUp.next
theorem Frame.execGateEntryAdvance (h : Frame L z s) {p}
    (hp : Covers L [.regs, .esw] := by exact hp.of rfl) : FrameOut L z (execGateEntryAdvance p s) := .ite h.next h.ethSettle.next
theorem Frame.execGclChangeWrite (h : Frame L z s) {p}
    (hp : Covers L [.regs, .esw, .out] := by exact hp.of rfl) : FrameOut L z (execGclChangeWrite p s) := .ite h.next <| .ite h.next h.mirrored.gateChange.next
theorem Frame.execGateListChange (h : Frame L z s) {p} (hp : Covers L eswEventPieces := by exact hp.of rfl) : FrameOut L z (execGateListChange p s) :=
  .ite h.next h.ethSettle.gateApply.ethSettle.next
theorem Frame.execStreamGateChangeWrite (h : Frame L z s) {g}
    (hp : Covers L [.regs, .esw, .out] := by exact hp.of rfl) : FrameOut L z (execStreamGateChangeWrite g s) := .ite h.next h.mirrored.sgateChange.next
theorem Frame.execStreamGateListChange (h : Frame L z s) {g}
    (hp : Covers L eswEventPieces := by exact hp.of rfl) : FrameOut L z (execStreamGateListChange g s) := h.sgateApply.next
theorem Frame.execStreamGateEntryAdvance (h : Frame L z s) {_g} : FrameOut L z (execStreamGateEntryAdvance _g s) := h.next
theorem Frame.execFdbRead (h : Frame L z s) (hp : Covers L eswEventPieces := by exact hp.of rfl) : FrameOut L z (execFdbRead s) := h.fdbGo.next
theorem Frame.execFdbWrite (h : Frame L z s) (hp : Covers L eswEventPieces := by exact hp.of rfl) : FrameOut L z (execFdbWrite s) := h.fdbGo.next
theorem Frame.execFdbDelete (h : Frame L z s) (hp : Covers L eswEventPieces := by exact hp.of rfl) : FrameOut L z (execFdbDelete s) := h.fdbGo.next
theorem Frame.execFdbFlush (h : Frame L z s) (hp : Covers L eswEventPieces := by exact hp.of rfl) : FrameOut L z (execFdbFlush s) := h.fdbGo.next
theorem Frame.execFdbInvcache (h : Frame L z s) (hp : Covers L eswEventPieces := by exact hp.of rfl) : FrameOut L z (execFdbInvcache s) := h.fdbGo.next
theorem Frame.execFdbFence (h : Frame L z s) (hp : Covers L eswEventPieces := by exact hp.of rfl) : FrameOut L z (execFdbFence s) := h.fdbGo.next
theorem Frame.execFdbCommandComplete (h : Frame L z s)
    (hp : Covers L eswEventPieces := by exact hp.of rfl) : FrameOut L z (execFdbCommandComplete s) := by
  unfold Machine.execFdbCommandComplete
  dsimp only
  split
  · exact h.next
  · exact .ite h.fdbRun.updEsw.set.next h.next
theorem Frame.fdbWindow (h : Frame L z s) {i w v} (hp : Covers L [.regs, .held] := by exact hp.of rfl) : Frame L z (s.fdbWindow i w v) :=
  .ite h.putFields.fdbUsed <| .ite h.set.fdbUsed.updHeld h.set.fdbUsed.updHeld.set.set
theorem Frame.execFdbWindowWrite (h : Frame L z s) {i w v}
    (hp : Covers L [.regs, .held, .out] := by exact hp.of rfl) : FrameOut L z (execFdbWindowWrite i w v s) := h.mirrored.fdbWindow.next
theorem Frame.execFdbCacheExpiry (h : Frame L z s) {key} (hp : Covers L [.esw] := by exact hp.of rfl) : FrameOut L z (execFdbCacheExpiry key s) := h.updEsw.next
theorem Frame.execFdbAgeSweep (h : Frame L z s) (hp : Covers L [.regs, .esw, .out] := by exact hp.of rfl) : FrameOut L z (execFdbAgeSweep s) :=
  .ite h.next (.next (.each h fun _ ht => .ite (.ite ht.fdbRemove ht.inc) ht))
theorem Frame.execPinRevert (h : Frame L z s) {k} (hp : Covers L [.regs, .esw, .out] := by exact hp.of rfl) : FrameOut L z (execPinRevert k s) :=
  h.mirrored.pinRevert.next
theorem Frame.execPinRevertComplete (h : Frame L z s) {k}
    (hp : Covers L eventPieces := by exact hp.of rfl) : FrameOut L z (execPinRevertComplete k s) := .ite h.set.set.raiseC.next h.next
theorem Frame.execFrerRecoveryReset (h : Frame L z s) {r}
    (hp : Covers L eswEventPieces := by exact hp.of rfl) : FrameOut L z (execFrerRecoveryReset r s) := .ite h.updEsw.raiseC.next h.next
theorem Frame.execSampleRecordWrite (h : Frame L z s) {parity}
    (hp : Covers L eswEventPieces := by exact hp.of rfl) : FrameOut L z (execSampleRecordWrite parity s) := by
  unfold Machine.execSampleRecordWrite
  dsimp only
  split
  · exact h.next
  · refine .ite h.next ?_
    split
    · next e =>
        exact .next <| .raiseC <| .set <| .fst_eq e h.fabWrite
    · next e =>
        exact .next <| .setIf <| .set <| .updEsw <| .fst_eq e h.fabWrite
theorem Frame.ignored {old : State} (h : Frame L z s) (h1 : Frame L z old) : Frame L z (s.ignored old) := h1.mix h .held
theorem Frame.eportWrite {old : State} (h : Frame L z old) (h1 : Frame L z s) {a v}
    (hp : Covers L linkLossPieces := by exact hp.of rfl) : Frame L z (eportWrite a v old s) :=
  .unless (.ignored h1 h) fun hs => .ite (.ite h1.portOff <| .ite (.ite h1.set.pinPortUp h1.set.csmaUp) h1) <| .ite (.ite h1.linkDown h1.csmaUp) <|
    .ite h1.csmaUp <| .ite h1.set <| .ite (.each h1 fun _ ht => ht.set) <| .ite (.ite h1.gateChange.ethSettle h1.ethSettle) <| .ite hs <|
    .ite (.ite hs <| .ite h1.set <| .ite h1.set h1) h1
theorem Frame.eswWrite {old : State} (h : Frame L z old) (h1 : Frame L z s) {a v}
    (hp : Covers L linkLossPieces := by exact hp.of rfl) : Frame L z (eswWrite a v old s) :=
  .ite (.eportWrite h h1) <| .ite h1.set <| .ite (.ite (.ite h.fdbError h1.fdbGo) h1) <|
    .ite (.ite (.pinRevert (.ite h1 h1.updEsw)) (.pinRefresh (.ite h1 h1.updEsw))) <| .ite (.ite h1.set.fdbUsed <| .ite h1.fdbUsed h1) <|
    .ite (.meterChange h1 h) <| .ite (.ite (.ite h1.sgateChange h1) <| .ite (.ignored h1 h) h1) h1
theorem Frame.eswBefore (h : Frame L z s) {a} (hp : Covers L [.regs, .esw] := by exact hp.of rfl) : Frame L z (eswBefore a s) := .ite h.ethSettle h
theorem Frame.eswReset (h : Frame L z s) (hp : Covers L [.regs, .held, .esw] := by exact hp.of rfl) : Frame L z s.eswReset :=
  .each h.restoreBlock.restoreBlock.updEsw fun _ ht => ht.set

/-! ### Functions of Machine/Lin -/

theorem Frame.linFrame (h : Frame L z s) {l f} (hp : Covers L [.lin] := by exact hp.of rfl) : Frame L z (s.linFrame l f) := h.updLin
theorem Frame.linRest (h : Frame L z s) {l} (hp : Covers L [.regs] := by exact hp.of rfl) : Frame L z (s.linRest l) := h.set
theorem Frame.linOut (h : Frame L z s) {l id} (hp : Covers L [.out] := by exact hp.of rfl) : Frame L z (s.linOut l id) := .ite h.emit h
theorem Frame.linSleep (h : Frame L z s) {l} (hp : Covers L [.regs, .lin, .out] := by exact hp.of rfl) : Frame L z (s.linSleep l) :=
  .also h.updLin.linOut.set fun hs => hs.emit
theorem Frame.linEnd (h : Frame L z s) {l} (hp : Covers L [.regs, .lin, .out] := by exact hp.of rfl) : Frame L z (s.linEnd l) :=
  .also h.linFrame.linRest fun hs => hs.linSleep
theorem Frame.linAfterHeader (h : Frame L z s) {l id} (hp : Covers L [.regs, .lin, .out] := by exact hp.of rfl) : Frame L z (s.linAfterHeader l id) :=
  .ite h.set.linFrame.set h.set.linEnd
theorem Frame.linError (h : Frame L z s) {l id code}
    (hp : Covers L [.regs, .mem, .due, .evr, .lin, .core, .out] := by exact hp.of rfl) : Frame L z (s.linError l id code) := h.set.set.set.inc.raiseC.linEnd
theorem Frame.linStop (h : Frame L z s) {l} (hp : Covers L [.regs, .lin] := by exact hp.of rfl) : Frame L z (s.linStop l) := .ite h.updLin h.updLin.linRest
theorem Frame.linHeader (h : Frame L z s) {l id} (hp : Covers L [.regs, .lin, .out] := by exact hp.of rfl) : Frame L z (s.linHeader l id) :=
  h.linOut.linFrame.updLin.set
theorem Frame.execLinSlotStart (h : Frame L z s) {l}
    (hp : Covers L [.regs, .lin, .out] := by exact hp.of rfl) : FrameOut L z (execLinSlotStart l s) :=
  .ite h.next <| .ite h.linStop.next <| .next <| .linHeader <| .set <| .ite h.updLin.addWrap h.updLin
theorem Frame.execLinHeaderReceive (h : Frame L z s) {l id div}
    (hp : Covers L [.regs, .lin, .out] := by exact hp.of rfl) : FrameOut L z (execLinHeaderReceive l id div s) :=
  .ite h.next <| .ite (.ite h.linAfterHeader.next h.next) <| .ite h.linAfterHeader.next h.set.inc.next
theorem Frame.linKeep (h : Frame L z s) {l id bytes} (hp : Covers L [.lin] := by exact hp.of rfl) : Frame L z (s.linKeep l id bytes) := h.updLin
theorem Frame.execLinResponseComplete (h : Frame L z s) {l bytes cks err}
    (hp : Covers L [.regs, .mem, .due, .evr, .lin, .crs, .core, .out] := by exact hp.of rfl) : FrameOut L z (execLinResponseComplete l bytes cks err s) := by
  unfold Machine.execLinResponseComplete
  dsimp only
  split
  · split
    · exact .ite h.linError.next h.next
    · exact h.next
  · exact .ite h.linError.next <| .ite h.next <| .ite h.linError.next (.next (.unless (.also (.linEnd (.addWrap (.linKeep
      (.ite h.emit h.set.set)))) fun hs => hs.raiseC) fun hs => hs.wakeConfirm))
theorem Frame.execLinResponseTimeout (h : Frame L z s) {l got}
    (hp : Covers L [.regs, .mem, .due, .evr, .lin, .core, .out] := by exact hp.of rfl) : FrameOut L z (execLinResponseTimeout l got s) := by
  unfold Machine.execLinResponseTimeout
  split
  · exact h.next
  · exact .ite h.linError.next h.next
theorem Frame.linWake (h : Frame L z s) {l} (hp : Covers L [.out] := by exact hp.of rfl) : Frame L z (s.linWake l) := .ite h.emit h
theorem Frame.execLinWakePulse (h : Frame L z s) {l} (hp : Covers L [.out] := by exact hp.of rfl) : FrameOut L z (execLinWakePulse l s) :=
  .ite h.next h.linWake.next
theorem Frame.execLinTxdTimeout (h : Frame L z s) {l} (hp : Covers L eventPieces := by exact hp.of rfl) : FrameOut L z (execLinTxdTimeout l s) :=
  .ite h.next h.set.raiseC.next
theorem Frame.linWrite {old : State} (_h : Frame L z old) (h1 : Frame L z s) {a v}
    (hp : Covers L [.regs, .lin, .out] := by exact hp.of rfl) : Frame L z (linWrite a v old s) :=
  .ite (.ite (.unless (.ite h1.linWake h1) fun hs => hs.linRest) (.linStop (.linFrame (.ite h1.linWake h1)))) h1
theorem Frame.linReset (h : Frame L z s) {l} (hp : Covers L [.regs, .held, .lin] := by exact hp.of rfl) : Frame L z (s.linReset l) := h.restoreBlock.updLin

/-! ### Functions of Machine/Crs -/

theorem Frame.ringUpd (h : Frame L z s) {bb g} (hp : Covers L [.crs] := by exact hp.of rfl) : Frame L z (s.ringUpd bb g) := .ite h.updCrs h.updCrs
theorem Frame.setPres (h : Frame L z s) {bb m} (hp : Covers L [.regs] := by exact hp.of rfl) : Frame L z (s.setPres bb m) := .ite h.set h.set.set
theorem Frame.crsCan (h : Frame L z s) {c src bytes}
    (hp : Covers L [.regs, .mem, .core, .out] := by exact hp.of rfl) : Frame L z (s.crsCan c src bytes) := .ite h h.set.set.setBytes.set.canTxreq
theorem Frame.crsIn (h : Frame L z s) {bs} (hp : Covers L ringPieces := by exact hp.of rfl) : Frame L z (s.crsIn bs) := .ite h <| .ite h.updCrs h.ethReceive
theorem Frame.crsFlush (h : Frame L z s) (hp : Covers L ringPieces := by exact hp.of rfl) : Frame L z s.crsFlush := .each h.updCrs fun _ ht => ht.crsIn
theorem Frame.crsEth (h : Frame L z s) {bb bytes} (hp : Covers L ringPieces := by exact hp.of rfl) : Frame L z (s.crsEth bb bytes) := h.crsIn
theorem Frame.crsObjects (h : Frame L z s) {c} (hp : Covers L [.regs] := by exact hp.of rfl) : Frame L z (s.crsObjects c) :=
  .ite h <| .set <| .set <| .set <| .set <| List.foldlRecOn _ _ h.set.set fun _ ht _ _ => ht.set.set.set.set
theorem Frame.crsSend (h : Frame L z s) {bb bytes} (hp : Covers L ringPieces := by exact hp.of rfl) : Frame L z (s.crsSend bb bytes) :=
  .ite h.crsEth (.crsEth (.each h fun _ ht => ht.crsCan))
theorem Frame.keepMsg (h : Frame L z s) {i consent} (hp : Covers L [.regs, .crs] := by exact hp.of rfl) : Frame L z (s.keepMsg i consent) :=
  .ite h.updCrs.set.set <| .ite h.updCrs <| .ite h.updCrs h
theorem Frame.keepEnd (h : Frame L z s) {i t} (hp : Covers L eventPieces := by exact hp.of rfl) : Frame L z (s.keepEnd i t) := h.set.set.raise
theorem Frame.bbKeep (h : Frame L z s) {r consent kw wh} (hp : Covers L eventPieces := by exact hp.of rfl) : Frame L z (s.bbKeep r consent kw wh) :=
  .ite (.ite h.set.raise h) <| .ite h.set.set.set h.set
theorem Frame.setRun (h : Frame L z s) {bb n} (hp : Covers L [.regs, .crs] := by exact hp.of rfl) : Frame L z (s.setRun bb n) := .ite h.ringUpd h.ringUpd.set
theorem Frame.bbSolo (h : Frame L z s) (hp : Covers L eventPieces := by exact hp.of rfl) : Frame L z s.bbSolo := .ite (.ite (.ite h h.set.raiseC) h.set) h
theorem Frame.ringCheck (h : Frame L z s) {bb} (hp : Covers L eventPieces := by exact hp.of rfl) : Frame L z (s.ringCheck bb) :=
  .unless (.ite h <| .ite (.ite h <| .ite h.set.raiseC h.set.raiseC) <| .ite h.set h.set) fun hs => hs.bbSolo
theorem Frame.endRound (h : Frame L z s) {bb} (hp : Covers L crsEventPieces := by exact hp.of rfl) : Frame L z (s.endRound bb) :=
  .ringCheck <| .setRun <| .ite h.set <| .each h.set.updCrs fun _ ht => .ite ht.keepEnd ht
theorem Frame.startRound (h : Frame L z s) {bb} (hp : Covers L crsEventPieces := by exact hp.of rfl) : Frame L z (s.startRound bb) :=
  .unless (.ringUpd (.setPres (.each h fun _ ht => ht.raiseC))) fun hs => hs.setRun.ringCheck
theorem Frame.ringRecord (h : Frame L z s) {bb i consent allc rep}
    (hp : Covers L crsEventPieces := by exact hp.of rfl) : Frame L z (s.ringRecord bb i consent allc rep) :=
  .also (.ite h.ringUpd h.ringUpd.keepMsg) fun hs => hs.endRound
theorem Frame.enterPrepare (h : Frame L z s) {bb} (hp : Covers L eventPieces := by exact hp.of rfl) : Frame L z (s.enterPrepare bb) :=
  .ite h.set.raiseC h.set.raiseC
theorem Frame.sendSleep (h : Frame L z s) {bb} (hp : Covers L ringPieces := by exact hp.of rfl) : Frame L z (s.sendSleep bb) := h.crsSend.enterPrepare
theorem Frame.ringAgain (h : Frame L z s) {bb} (hp : Covers L [.regs, .crs] := by exact hp.of rfl) : Frame L z (s.ringAgain bb) :=
  .ite h.setRun.ringUpd.set h.setRun.ringUpd.set
theorem Frame.ringCancel (h : Frame L z s) {bb g} (hp : Covers L ringPieces := by exact hp.of rfl) : Frame L z (s.ringCancel bb g) :=
  .ite h.ringAgain (.bbSolo (.also h.ringAgain.raiseC fun hs => hs.crsSend.ringAgain))
theorem Frame.bbFollow (h : Frame L z s) (hp : Covers L ringPieces := by exact hp.of rfl) : Frame L z s.bbFollow :=
  .ite h.sendSleep <| .ite h h.crsSend.ringCancel
theorem Frame.sendRing (h : Frame L z s) {bb} (hp : Covers L ringPieces := by exact hp.of rfl) : Frame L z (s.sendRing bb) := h.crsSend.ringRecord
theorem Frame.ringRemove (h : Frame L z s) {bb k} (hp : Covers L crsEventPieces := by exact hp.of rfl) : Frame L z (s.ringRemove bb k) :=
  .bbSolo (.also (.ite h.setPres.raiseC.ringUpd.bbKeep (.also h.setPres.raiseC.ringUpd fun hs => hs.keepEnd)) fun hs => hs.endRound)
theorem Frame.sendAlive (h : Frame L z s) {bb} (hp : Covers L ringPieces := by exact hp.of rfl) : Frame L z (s.sendAlive bb) :=
  .crsSend (.ite h.ringUpd.setPres.set h.ringUpd.setPres.set)
theorem Frame.carouselEnable (h : Frame L z s) (hp : Covers L ringPieces := by exact hp.of rfl) : Frame L z s.carouselEnable := by
  unfold State.carouselEnable
  exact .also (.sendAlive (.each h.set fun _ ht => ht.crsObjects)) fun hs => hs.sendAlive
theorem Frame.consentWrite (h : Frame L z s) {v} (hp : Covers L ringPieces := by exact hp.of rfl) : Frame L z (s.consentWrite v) :=
  .ite h.set.crsSend.keepMsg.ringCancel h.set
theorem Frame.ringAlive (h : Frame L z s) {bb i} (hp : Covers L ringPieces := by exact hp.of rfl) : Frame L z (s.ringAlive bb i) :=
  .ite h.ringUpd.ringCancel <| .ite h.ringUpd.setRun.ringCheck h.ringUpd
theorem Frame.ringLearn (h : Frame L z s) {bb i round} (hp : Covers L crsEventPieces := by exact hp.of rfl) : Frame L z (s.ringLearn bb i round) :=
  .ite (.ite h.ringUpd.setPres.set h.ringUpd.setPres.set) <| .ite h.ringUpd h.ringUpd.setPres.raiseC
theorem Frame.ringTake (h : Frame L z s) {bb i round consent allc rep kw wh}
    (hp : Covers L ringPieces := by exact hp.of rfl) : Frame L z (s.ringTake bb i round consent allc rep kw wh) :=
  .ite (.unless (.ite h.bbKeep h) fun hs => .ringCancel (.ite hs hs.keepMsg)) (.unless (.also
    (.ite h.bbKeep h) fun hs => hs.ringLearn) fun hs => .ringRecord (.unless (.ite hs hs.set.startRound) fun hs2 => hs2.setPres.raiseC.setRun))
theorem Frame.carouselTake (h : Frame L z s) {bytes} (hp : Covers L ringPieces := by exact hp.of rfl) : Frame L z (s.carouselTake bytes) :=
  .ite h <| .ite h.raiseC <| .ite h.ringAlive <| .ite (.ite (.also h.enterPrepare fun hs => hs.bbFollow) h) h.ringTake
theorem Frame.powerDownBegin (h : Frame L z s) (hp : Covers L [.regs, .lin, .out] := by exact hp.of rfl) : Frame L z s.powerDownBegin :=
  .each h.set fun _ ht => .also ht.set.linStop fun hs => .ite hs.updLin hs.linSleep
theorem Frame.transceiversOff (h : Frame L z s)
    (hp : Covers L [.regs, .mem, .due, .evr, .esw, .lin, .crs, .core, .out] := by exact hp.of rfl) : Frame L z s.transceiversOff :=
  .each (.each (.each (.zoneLow (.raiseC (.each h.updCrs fun _ ht => ht.linEnd))) fun _ ht => ht.set.set.canTrx) fun _ ht => ht.set.set.linRest) fun _ ht =>
    ht.linkDown
theorem Frame.execCarouselEnable (h : Frame L z s) (hp : Covers L ringPieces := by exact hp.of rfl) : FrameOut L z (execCarouselEnable s) :=
  h.carouselEnable.next
theorem Frame.execCarouselMessageReceive (h : Frame L z s) {bytes}
    (hp : Covers L ringPieces := by exact hp.of rfl) : FrameOut L z (execCarouselMessageReceive bytes s) := h.carouselTake.next
theorem Frame.execCarouselRelay (h : Frame L z s) {from_ bytes}
    (hp : Covers L ringPieces := by exact hp.of rfl) : FrameOut L z (execCarouselRelay from_ bytes s) := by
  unfold Machine.execCarouselRelay
  dsimp only
  refine .ite h.next ?_
  split
  · exact .next (.crsEth (.each h fun _ ht => ht.crsCan))
  · exact .next (.each h fun _ ht => ht.crsCan)
theorem Frame.execCarouselSend (h : Frame L z s) {bb} (hp : Covers L ringPieces := by exact hp.of rfl) : FrameOut L z (execCarouselSend bb s) :=
  .ite h.next <| .ite (.next (.ite h.sendSleep.bbFollow h.sendSleep)) <| .ite h.addWrap.startRound.sendRing.next h.sendRing.next
theorem Frame.execCarouselSlotTimeout (h : Frame L z s) {bb}
    (hp : Covers L crsEventPieces := by exact hp.of rfl) : FrameOut L z (execCarouselSlotTimeout bb s) := .ite h.ringRemove.next h.next
theorem Frame.execCarouselFormTimeout (h : Frame L z s) {bb}
    (hp : Covers L ringPieces := by exact hp.of rfl) : FrameOut L z (execCarouselFormTimeout bb s) :=
  .ite (.next (.bbSolo (.sendRing (.ite h.setPres.ringUpd.set.set h.setPres.ringUpd.set.set.raiseC)))) h.next
theorem Frame.execConsentWrite (h : Frame L z s) {v} (hp : Covers L ringPieces := by exact hp.of rfl) : FrameOut L z (execConsentWrite v s) :=
  h.consentWrite.next
theorem Frame.execKeeperLimit (h : Frame L z s) {i} (hp : Covers L crsEventPieces := by exact hp.of rfl) : FrameOut L z (execKeeperLimit i s) :=
  .ite h.updCrs.raise.next h.next
theorem Frame.execPrepareExpiry (h : Frame L z s) (hp : Covers L [.regs, .lin, .out] := by exact hp.of rfl) : FrameOut L z (execPrepareExpiry s) :=
  .ite h.powerDownBegin.next h.next
theorem Frame.execSleepTransceiversOff (h : Frame L z s)
    (hp : Covers L [.regs, .mem, .due, .evr, .esw, .lin, .crs, .core, .out] := by exact hp.of rfl) : FrameOut L z (execSleepTransceiversOff s) :=
  .ite h.transceiversOff.next h.next
theorem Frame.falseWake (h : Frame L z s) {b} (hp : Covers L eventPieces := by exact hp.of rfl) : Frame L z (s.falseWake b) :=
  .also h.set.inc.inc.raiseC fun hs => hs.set.raiseC
theorem Frame.execWakeWindowExpiry (h : Frame L z s)
    (hp : Covers L [.regs, .mem, .due, .evr, .lin, .crs, .core, .out] := by exact hp.of rfl) : FrameOut L z (execWakeWindowExpiry s) :=
  .ite h.next (.next (.also (.updCrs (.each h fun _ ht => ht.falseWake)) fun hs => hs.powerDownBegin))
theorem Frame.ringOff (h : Frame L z s) {bb} (hp : Covers L [.regs, .crs] := by exact hp.of rfl) : Frame L z (s.ringOff bb) := h.ringUpd.setPres.set
theorem Frame.crsWrite {old : State} (_h : Frame L z old) (h1 : Frame L z s) {a v}
    (hp : Covers L ringPieces := by exact hp.of rfl) : Frame L z (crsWrite a v old s) :=
  .ite (.ite h1.set.consentWrite.carouselEnable <| .ite h1.set.consentWrite.ringOff.ringOff <|
    .ite h1.set.consentWrite.sendAlive (.also h1.set.consentWrite fun hs => hs.ringOff)) <| .ite (.each h1 fun _ ht => ht.crsObjects) h1
theorem Frame.crsBefore (h : Frame L z s) {a} (hp : Covers L [.regs] := by exact hp.of rfl) : Frame L z (crsBefore a s) := .ite (.ite h.set h) h
theorem Frame.crsReset (h : Frame L z s)
    (hp : Covers L [.regs, .held, .mem, .due, .evr, .esw, .crs, .core, .out, .free] := by exact hp.of rfl) : Frame L z s.crsReset :=
  .also h.restoreBlock.updCrs fun hs => hs.carouselEnable

end Sys2Proof.Machine
end

section
/-! PROOFS. What a command leaves unchanged, part 4 of 10: the mailbox, the cores, the pairs and the Tangram engines. -/

namespace Sys2Proof.Machine
open Sys2Proof
set_option Elab.async false

variable {L : List Piece} {z s t : State} {r : EthRun}

/-! ### Functions of Machine/Mbx -/

theorem Frame.mbxClaim (h : Frame L z s) {m r vi} (hp : Covers L [.regs, .cmp] := by exact hp.of rfl) : Frame L z (s.mbxClaim m r vi) :=
  .ite h h.set.set.set.set.updCmp
theorem Frame.mbxClear (h : Frame L z s) {m} (hp : Covers L [.regs] := by exact hp.of rfl) : Frame L z (s.mbxClear m) := .each h fun _ ht => ht.set
theorem Frame.mbxQueue (h : Frame L z s) {l} (hp : Covers L [.regs, .cmp] := by exact hp.of rfl) : Frame L z (s.mbxQueue l) := h.updCmp.set
theorem Frame.mbxGo (h : Frame L z s) {m r op} (hp : Covers L [.regs, .cmp] := by exact hp.of rfl) : Frame L z (s.mbxGo m r op) :=
  .ite h h.mbxClear.set.set.set.set.mbxQueue
theorem Frame.mbxFree (h : Frame L z s) {m} (hp : Covers L [.regs, .cmp] := by exact hp.of rfl) : Frame L z (s.mbxFree m) :=
  .mbxQueue <| .setIf <| .updCmp <| .each (.each h.mbxClear fun _ ht => ht.set) fun _ ht => ht.set
theorem Frame.mbxLeave (h : Frame L z s) {m} (hp : Covers L [.regs, .cmp] := by exact hp.of rfl) : Frame L z (s.mbxLeave m) := .ite h.updCmp h.mbxFree
theorem Frame.mbxRelease (h : Frame L z s) {m r} (hp : Covers L [.regs, .cmp] := by exact hp.of rfl) : Frame L z (s.mbxRelease m r) := .ite h.mbxLeave h
theorem Frame.mbxReclaim (h : Frame L z s) {m why} (hp : Covers L cmpEventPieces := by exact hp.of rfl) : Frame L z (s.mbxReclaim m why) :=
  .ite h h.mbxLeave.inc.raise
theorem Frame.mbxGenGone (h : Frame L z s) {i} (hp : Covers L cmpEventPieces := by exact hp.of rfl) : Frame L z (s.mbxGenGone i) :=
  .each h fun _ ht => ht.mbxReclaim
theorem Frame.mbxHartGone (hs : Frame L z s) {h} (hp : Covers L cmpEventPieces := by exact hp.of rfl) : Frame L z (s.mbxHartGone h) :=
  .each hs fun _ ht => ht.mbxReclaim
theorem Frame.execMbxClaim (h : Frame L z s) {m r} (hp : Covers L [.regs, .cmp] := by exact hp.of rfl) : FrameOut L z (execMbxClaim m r s) := h.mbxClaim.next
theorem Frame.execMbxGo (h : Frame L z s) {m r op} (hp : Covers L [.regs, .cmp] := by exact hp.of rfl) : FrameOut L z (execMbxGo m r op s) := h.mbxGo.next
theorem Frame.execMbxRelease (h : Frame L z s) {m r} (hp : Covers L [.regs, .cmp] := by exact hp.of rfl) : FrameOut L z (execMbxRelease m r s) :=
  h.mbxRelease.next
theorem Frame.execMbxReclaimTimeout (h : Frame L z s) {m}
    (hp : Covers L cmpEventPieces := by exact hp.of rfl) : FrameOut L z (execMbxReclaimTimeout m s) := .ite h.mbxReclaim.next h.next
theorem Frame.fail (h : Frame L z s) {e} : Frame L z (CmdRes.fail s e).s := h
theorem Frame.takeUp {m op} (e : s.takeUp m op = some t) (h : Frame L z s) (hp : Covers L [.regs, .cmp] := by exact hp.of rfl) : Frame L z t := by
  unfold State.takeUp at e
  split at e <;> cases e
  exact h.mbxQueue.updCmp.set.set.set
theorem Frame.command (h : Frame L z s) {m op mask inner recov} {body : State → CmdRes} (hb : ∀ {t}, Frame L z t → Frame L z (body t).s)
    (hp : Covers L [.regs, .cmp] := by exact hp.of rfl) : FrameOut L z (s.command m op mask inner recov body) := by
  unfold State.command
  split
  · exact h.next
  · next e => exact .next <| .updCmp <| .iteS (h.takeUp e) <| .iteS (h.takeUp e) (hb (h.takeUp e))
theorem Frame.mbxComplete (h : Frame L z s) (hp : Covers L cmpEventPieces := by exact hp.of rfl) : Frame L z s.mbxComplete := by
  unfold State.mbxComplete
  dsimp only
  split
  · exact .also (.raise (.set (.set (.set (.set (.each h.updCmp fun _ ht => ht.set)))))) fun hs => hs.mbxFree
  · exact h

/-! ### Functions of Machine/Hart -/

theorem Frame.coreSet (h : Frame L z s) {c g} (hp : Covers L [.core] := by exact hp.of rfl) : Frame L z (s.coreSet c g) := h.updCore
theorem Frame.pairSet (h : Frame L z s) {n g} (hp : Covers L [.pair] := by exact hp.of rfl) : Frame L z (s.pairSet n g) := h.updPair
theorem Frame.wstat (h : Frame L z s) {c} (hp : Covers L [.regs] := by exact hp.of rfl) : Frame L z (s.wstat c) := .ite h <| .ite h h.set
theorem Frame.takeTrap (h : Frame L z s) {c t} (hp : Covers L [.regs, .core] := by exact hp.of rfl) : Frame L z (s.takeTrap c t) :=
  .ite h.coreSet.wstat <| .ite h.coreSet.set.set.wstat <| .ite h.coreSet.set h.coreSet
theorem Frame.claim (h : Frame L z s) {c inner} (hp : Covers L [.irqInner, .irqOuter] := by exact hp.of rfl) : Frame L z (s.claim c inner).1 := by
  unfold State.claim
  dsimp only
  refine .iteFst ?_ ?_
  · split
    · exact h
    · exact h.updIrqInner
  · refine .iteFst h ?_
    split
    · exact h
    · exact h.updIrqOuter
theorem Frame.csrRead (h : Frame L z s) {c n} (hp : Covers L [.regs, .irqInner, .irqOuter] := by exact hp.of rfl) : Frame L z (s.csrRead c n).1 := by
  unfold State.csrRead
  split
  · exact h.claim
  · exact h.claim
  · exact h.set
  · exact h
theorem Frame.csrWrite (h : Frame L z s) {c n v} (hp : Covers L [.regs, .core] := by exact hp.of rfl) : Frame L z (s.csrWrite c n v) := by
  unfold State.csrWrite
  dsimp only
  split
  · exact h.set
  · exact h
  · exact h
  · exact .ite h.set.coreSet h.set
  · exact h.set
  · exact h.set
  · exact .ite h.set h
  · exact h.coreSet
theorem Frame.berr (h : Frame L z s) {c inner addr} (hp : Covers L [.regs] := by exact hp.of rfl) : Frame L z (s.berr c inner addr) := .ite h.inc h.set.set.set
theorem Frame.coreReset (h : Frame L z s) {c} (hp : Covers L [.regs, .pcie, .core] := by exact hp.of rfl) : Frame L z (s.coreReset c) :=
  .coreSet (.each h.updPcie fun _ ht => ht.set)
theorem Frame.coreStart (h : Frame L z s) {c pc a0 a1 a2}
    (hp : Covers L [.regs, .pcie, .core] := by exact hp.of rfl) : Frame L z (s.coreStart c pc a0 a1 a2) := h.coreReset.coreSet.wstat

/-! ### Functions of Machine/Pair -/

theorem Frame.jocc (h : Frame L z s) {n} (hp : Covers L [.regs] := by exact hp.of rfl) : Frame L z (s.jocc n) := h.set.track
theorem Frame.ckBegin (h : Frame L z s) {n} (hp : Covers L [.pair] := by exact hp.of rfl) : Frame L z (s.ckBegin n) := .ite h <| .ite h.pairSet h.pairSet
theorem Frame.jrnAdd (h : Frame L z s) {n e} (hp : Covers L [.regs, .pair] := by exact hp.of rfl) : Frame L z (s.jrnAdd n e) :=
  .also h.pairSet.jocc fun hs => hs.inc.ckBegin
theorem Frame.csrsLoad (h : Frame L z s) {c l} (hp : Covers L [.regs] := by exact hp.of rfl) : Frame L z (s.csrsLoad c l) := .each h fun _ ht => ht.set
theorem Frame.imageLoad (h : Frame L z s) {c i} (hp : Covers L [.regs, .core] := by exact hp.of rfl) : Frame L z (s.imageLoad c i) := h.csrsLoad.coreSet
theorem Frame.pairFresh (h : Frame L z s) {n} (hp : Covers L [.regs, .core, .pair] := by exact hp.of rfl) : Frame L z (s.pairFresh n) :=
  h.imageLoad.pairSet.jocc.set.set
theorem Frame.ckCommit (h : Frame L z s) {n} (hp : Covers L [.regs, .core, .pair] := by exact hp.of rfl) : Frame L z (s.ckCommit n) := by
  unfold State.ckCommit
  dsimp only
  split
  · exact h
  · exact .also h.pairSet.coreSet.coreSet.jocc.addWrap.set fun hs => hs.ckBegin
theorem Frame.pairHold (h : Frame L z s) {n} (hp : Covers L [.regs, .pcie, .core, .pair] := by exact hp.of rfl) : Frame L z (s.pairHold n) :=
  h.coreReset.coreReset.pairSet.jocc.set
theorem Frame.escalate (h : Frame L z s) {n cause} (hp : Covers L pairStopPieces := by exact hp.of rfl) : Frame L z (s.escalate n cause) :=
  h.pairHold.set.set.raiseC
theorem Frame.pairShow (h : Frame L z s) {n} (hp : Covers L [.regs] := by exact hp.of rfl) : Frame L z (s.pairShow n) := h.set
theorem Frame.mismatch (h : Frame L z s) {n code} (hp : Covers L pairStopPieces := by exact hp.of rfl) : Frame L z (s.mismatch n code) :=
  .ite h <| .ite h.pairSet.coreSet.coreSet.jocc.set.inc.set.set.raiseC.set.escalate
    (.also h.pairSet.coreSet.coreSet.jocc.set.inc.set.set.raiseC.set fun hs => hs.escalate)
theorem Frame.restoreDone (h : Frame L z s) {n crcOk} (hp : Covers L pairStopPieces := by exact hp.of rfl) : Frame L z (s.restoreDone n crcOk) := by
  unfold State.restoreDone
  dsimp only
  refine .ite h ?_
  split
  · exact h.escalate
  · exact .ite h.escalate h.imageLoad.imageLoad.pairSet.set
theorem Frame.dbgWrite (h : Frame L z s) {c reg v} (hp : Covers L [.regs, .core] := by exact hp.of rfl) : Frame L z (s.dbgWrite c reg v) :=
  .ite h.coreSet <| .ite h.coreSet <| .ite h.coreSet h.csrWrite
theorem Frame.dbgCatch (h : Frame L z s) {m c} (hp : Covers L [.regs, .core] := by exact hp.of rfl) : Frame L z (State.dbgCatch m s c) := by
  induction m generalizing s with
  | zero => exact h
  | succ m ih =>
    unfold State.dbgCatch
    dsimp only
    split
    · exact h
    · refine .ite h ?_
      split
      · exact ih h.coreSet.dbgWrite
      · exact h.coreSet.coreSet
      · exact ih h.coreSet
theorem Frame.haltCheck (h : Frame L z s) {n} (hp : Covers L [.regs, .core] := by exact hp.of rfl) : Frame L z (s.haltCheck n) := .ite h.dbgCatch.coreSet.set h
theorem Frame.dbgAdd (h : Frame L z s) {n a} (hp : Covers L [.regs, .core, .pair] := by exact hp.of rfl) : Frame L z (s.dbgAdd n a) := h.pairSet.coreSet.set
theorem Frame.haltPair (h : Frame L z s) {n} (hp : Covers L [.regs, .core, .pair, .out] := by exact hp.of rfl) : Frame L z (s.haltPair n) :=
  .ite h.emit h.dbgAdd.coreSet.wstat.haltCheck
theorem Frame.replayEnd (h : Frame L z s) {n hashOk} (hp : Covers L pairStopPieces := by exact hp.of rfl) : Frame L z (s.replayEnd n hashOk) :=
  .ite h <| .ite h.escalate (.also h.set.track.set.pairSet.raiseC fun hs => hs.haltPair)
theorem Frame.checkpoint (h : Frame L z s) {n sigOk} (hp : Covers L pairStopPieces := by exact hp.of rfl) : Frame L z (s.checkpoint n sigOk) := by
  unfold State.checkpoint
  dsimp only
  split
  · exact h.ckBegin
  · exact .ite h.ckBegin <| .ite h.ckBegin.mismatch h.ckBegin.pairSet
theorem Frame.soloBegin (h : Frame L z s) {c} (hp : Covers L [.regs, .core, .pair] := by exact hp.of rfl) : Frame L z (s.soloBegin c) := h.pairSet.coreSet.set
theorem Frame.soloEnd (h : Frame L z s) {c} (hp : Covers L [.regs, .core, .pair] := by exact hp.of rfl) : Frame L z (s.soloEnd c) := by
  unfold State.soloEnd
  dsimp only
  split
  · exact h
  · exact h.imageLoad.pairSet.set
theorem Frame.dbgDo (h : Frame L z s) {c a} {g : State → Nat → State} (hg : ∀ {t} l, Frame L z t → Frame L z (g t l))
    (hp : Covers L [.regs, .core, .pair, .out] := by exact hp.of rfl) : Frame L z (s.dbgDo c a g) := by
  unfold State.dbgDo
  split
  · exact h
  · exact .ite (.ite h.emit (hg _ h.dbgAdd)) (hg _ h)
theorem Frame.execDebugHalt (h : Frame L z s) {c}
    (hp : Covers L [.regs, .core, .pair, .out] := by exact hp.of rfl) : FrameOut L z (execDebugHalt c s) :=
  .ite h.next <| .ite h.next <| .ite (.ite h.next <| .ite h.pairSet.next h.haltPair.next) h.coreSet.wstat.next
theorem Frame.execDebugResume (h : Frame L z s) {c}
    (hp : Covers L [.regs, .core, .pair, .out] := by exact hp.of rfl) : FrameOut L z (execDebugResume c s) :=
  .ite (.next (.dbgDo h fun _ ht => .also ht.coreSet.wstat fun hs => .ite hs.coreSet.set hs.coreSet)) h.next
theorem Frame.execDebugStep (h : Frame L z s) {c}
    (hp : Covers L [.regs, .core, .pair, .out] := by exact hp.of rfl) : FrameOut L z (execDebugStep c s) := by
  unfold Machine.execDebugStep
  dsimp only
  split
  · exact h.next
  · exact .ite (.next (.dbgDo h fun _ ht => .ite (.also ht.coreSet.coreSet fun hs => hs.set) ht.coreSet)) h.next
theorem Frame.execDebugAbstractWrite (h : Frame L z s) {c reg value}
    (hp : Covers L [.regs, .core, .pair, .out] := by exact hp.of rfl) : FrameOut L z (execDebugAbstractWrite c reg value s) := by
  unfold Machine.execDebugAbstractWrite
  dsimp only
  split
  · exact h.next
  · exact .ite (.ite (.next (.coreSet (.dbgWrite (.dbgDo h fun _ ht => ht.dbgWrite)))) (.next (.dbgDo h fun _ ht => ht.dbgWrite))) h.next
theorem Frame.execPairLagTimeout (h : Frame L z s) {n} (hp : Covers L pairStopPieces := by exact hp.of rfl) : FrameOut L z (execPairLagTimeout n s) :=
  .ite h.mismatch.next h.next
theorem Frame.execCheckpoint (h : Frame L z s) {n sigOk}
    (hp : Covers L pairStopPieces := by exact hp.of rfl) : FrameOut L z (execCheckpoint n sigOk s) := .ite h.next h.checkpoint.next
theorem Frame.execCheckpointCommit (h : Frame L z s) {n}
    (hp : Covers L [.regs, .core, .pair] := by exact hp.of rfl) : FrameOut L z (execCheckpointCommit n s) := h.ckCommit.next
theorem Frame.execPairRestoreDone (h : Frame L z s) {n crcOk}
    (hp : Covers L pairStopPieces := by exact hp.of rfl) : FrameOut L z (execPairRestoreDone n crcOk s) := h.restoreDone.next
theorem Frame.execPairReplayEnd (h : Frame L z s) {n hashOk}
    (hp : Covers L pairStopPieces := by exact hp.of rfl) : FrameOut L z (execPairReplayEnd n hashOk s) := h.replayEnd.next

/-! ### Functions of Machine/Pwm -/

theorem Frame.pwmUpd (h : Frame L z s) {j f} (hp : Covers L [.conv] := by exact hp.of rfl) : Frame L z (s.pwmUpd j f) := h.updConv
theorem Frame.pwmFree (h : Frame L z s) {j o} (hp : Covers L [.conv] := by exact hp.of rfl) : Frame L z (s.pwmFree j o) := .ite h.pwmUpd <| .ite h.pwmUpd h
theorem Frame.blankOpen (h : Frame L z s) {j o} (hp : Covers L [.conv] := by exact hp.of rfl) : Frame L z (s.blankOpen j o) :=
  .each h fun _ ht => .ite ht.updConv ht
theorem Frame.pwmBall (h : Frame L z s) {j o old v} (hp : Covers L [.due, .conv, .out] := by exact hp.of rfl) : Frame L z (s.pwmBall j o old v) :=
  .ite h (.also h.pwmUpd.emit fun hs => hs.follow.blankOpen)
theorem Frame.pwmDrive {s0 : State} (h : Frame L z s0) {j} (hp : Covers L [.due, .conv, .out] := by exact hp.of rfl) : Frame L z (s0.pwmDrive j) :=
  .also (.pwmBall (.unless h.pwmFree.pwmFree fun hs => hs.pwmBall)) fun hs => hs.pwmBall
theorem Frame.pwmClash (h : Frame L z s) {j o} (hp : Covers L [.regs, .conv] := by exact hp.of rfl) : Frame L z (s.pwmClash j o) :=
  .ite h <| .ite (.ite (.ite h.inc.pwmUpd h) <| .ite h.pwmUpd <| .ite h.inc.pwmUpd h) <| .ite h.inc.pwmUpd h
theorem Frame.pwmClashes (h : Frame L z s) {j} (hp : Covers L [.regs, .conv] := by exact hp.of rfl) : Frame L z (s.pwmClashes j) := h.pwmClash.pwmClash
theorem Frame.pwmTrip (h : Frame L z s) {j c} (hp : Covers L convEventPieces := by exact hp.of rfl) : Frame L z (s.pwmTrip j c) :=
  .ite h.pwmUpd <| .ite (.ite h.set.set.raiseC h) <| .pwmDrive <| .raiseC <| .pwmUpd <| .ite h.set.set.setBit.set h.set.set.setBit.set
theorem Frame.tripAll (h : Frame L z s) {c} (hp : Covers L convEventPieces := by exact hp.of rfl) : Frame L z (s.tripAll c) :=
  .each h fun _ ht => .ite ht.pwmTrip ht
theorem Frame.pwmRescan (h : Frame L z s) {j} (hp : Covers L convEventPieces := by exact hp.of rfl) : Frame L z (s.pwmRescan j) := by
  unfold State.pwmRescan
  split
  · exact h.pwmTrip
  · exact h
theorem Frame.pwmTripEnd (h : Frame L z s) {j} (hp : Covers L [.regs, .conv] := by exact hp.of rfl) : Frame L z (s.pwmTripEnd j) :=
  .ite h.set.setBit.pwmUpd <| .ite (.ite h.pwmUpd.set.setBit.pwmUpd h.pwmUpd) h
theorem Frame.execPwmSwtrip (h : Frame L z s) {j} (hp : Covers L convEventPieces := by exact hp.of rfl) : FrameOut L z (execPwmSwtrip j s) :=
  .ite h.next h.pwmTrip.next
theorem Frame.pwmGtrip (h : Frame L z s) (hp : Covers L convEventPieces := by exact hp.of rfl) : Frame L z s.pwmGtrip := .each h fun _ ht => .ite ht.pwmTrip ht
theorem Frame.execPwmGtrip (h : Frame L z s) (hp : Covers L convEventPieces := by exact hp.of rfl) : FrameOut L z (execPwmGtrip s) := h.pwmGtrip.next
theorem Frame.pwmTripclr (h : Frame L z s) {j} (hp : Covers L [.conv] := by exact hp.of rfl) : Frame L z (s.pwmTripclr j) := .ite h.pwmUpd h
theorem Frame.execPwmTripclr (h : Frame L z s) {j} (hp : Covers L [.conv] := by exact hp.of rfl) : FrameOut L z (execPwmTripclr j s) :=
  .ite h.next h.pwmTripclr.next
theorem Frame.execExternalTripBallChange (h : Frame L z s) {i level}
    (hp : Covers L convEventPieces := by exact hp.of rfl) : FrameOut L z (execExternalTripBallChange i level s) :=
  .ite h.updConv.tripAll.next h.updConv.next
theorem Frame.execRefMonitorCompare (h : Frame L z s) {dev}
    (hp : Covers L convEventPieces := by exact hp.of rfl) : FrameOut L z (execRefMonitorCompare dev s) :=
  .ite h.updConv.setS.set.set.raise.tripAll.next h.updConv.setS.set.next
theorem Frame.execRefMismatchClear (h : Frame L z s) (hp : Covers L [.regs] := by exact hp.of rfl) : FrameOut L z (execRefMismatchClear s) :=
  .ite h.next h.set.next
theorem Frame.cmpUpd (h : Frame L z s) {k f} (hp : Covers L [.conv] := by exact hp.of rfl) : Frame L z (s.cmpUpd k f) := h.updConv
theorem Frame.cmpOut (h : Frame L z s) {k v} (hp : Covers L [.regs, .due] := by exact hp.of rfl) : Frame L z (s.cmpOut k v) := .ite h h.set.follow
theorem Frame.cmpLine (h : Frame L z s) {k} (hp : Covers L convEventPieces := by exact hp.of rfl) : Frame L z (s.cmpLine k) :=
  .ite h <| .ite h.cmpOut.inc.set.raise.tripAll <| .ite h.cmpOut h
theorem Frame.execComparatorTrip (h : Frame L z s) {k v}
    (hp : Covers L convEventPieces := by exact hp.of rfl) : FrameOut L z (execComparatorTrip k v s) :=
  .ite h.next <| .ite h.set.cmpUpd.cmpLine.next h.next
theorem Frame.execComparatorRelease (h : Frame L z s) {k v}
    (hp : Covers L convEventPieces := by exact hp.of rfl) : FrameOut L z (execComparatorRelease k v s) :=
  .ite h.next <| .ite (.ite h.set.cmpUpd.cmpLine.next h.cmpUpd.next) h.next
theorem Frame.execBlankingEnd (h : Frame L z s) {k} (hp : Covers L convEventPieces := by exact hp.of rfl) : FrameOut L z (execBlankingEnd k s) :=
  .ite h.next h.cmpUpd.cmpLine.next
theorem Frame.cmpOff (h : Frame L z s) {k} (hp : Covers L [.regs, .due, .conv] := by exact hp.of rfl) : Frame L z (s.cmpOff k) := .ite h h.set.cmpOut.cmpUpd
theorem Frame.pwmRise (h : Frame L z s) {j o} (hp : Covers L [.regs, .conv] := by exact hp.of rfl) : Frame L z (s.pwmRise j o) :=
  .ite h <| .ite h.pwmUpd.inc.pwmUpd h.pwmUpd
theorem Frame.pwmFall (h : Frame L z s) {j o} (hp : Covers L [.conv] := by exact hp.of rfl) : Frame L z (s.pwmFall j o) := h.pwmUpd
theorem Frame.pwmTakeEdge (h : Frame L z s) {j o rise} (hp : Covers L [.regs, .conv] := by exact hp.of rfl) : Frame L z (s.pwmTakeEdge j o rise) :=
  .ite h.pwmUpd.inc <| .ite h.pwmUpd.pwmRise h.pwmUpd.pwmFall
theorem Frame.pwmDeadEnd (h : Frame L z s) {j o} (hp : Covers L [.due, .conv, .out] := by exact hp.of rfl) : Frame L z (s.pwmDeadEnd j o) :=
  .ite (.ite h.pwmBall h) <| .ite h.pwmUpd.pwmDrive h
theorem Frame.execPwmEdge (h : Frame L z s) {j outB rise dead}
    (hp : Covers L [.regs, .due, .conv, .out] := by exact hp.of rfl) : FrameOut L z (execPwmEdge j outB rise dead s) := by
  unfold Machine.execPwmEdge
  dsimp only
  refine .ite (.ite h.pwmDeadEnd.next h.next) ?_
  split
  · exact .ite h.pwmUpd.pwmTakeEdge.pwmDrive.next h.next
  · exact h.next
theorem Frame.pwmCommit (h : Frame L z s) {j} (hp : Covers L [.regs, .conv] := by exact hp.of rfl) : Frame L z (s.pwmCommit j) := h.pwmUpd.set
theorem Frame.execPwmCommit (h : Frame L z s) {j} (hp : Covers L [.regs, .conv] := by exact hp.of rfl) : FrameOut L z (execPwmCommit j s) :=
  .ite h.next h.pwmCommit.next
theorem Frame.pwmLoad (h : Frame L z s) {j} (hp : Covers L [.regs, .conv] := by exact hp.of rfl) : Frame L z (s.pwmLoad j) := by
  unfold State.pwmLoad
  dsimp only
  split
  · exact h.pwmUpd.set.set.set.set.set.set.set
  · exact h
theorem Frame.pwmLoadAt (h : Frame L z s) {j mid settled}
    (hp : Covers L [.regs, .conv] := by exact hp.of rfl) : Frame L z (s.pwmLoadAt j mid settled) := .ite h.pwmLoad h
theorem Frame.pwmLateEdges (h : Frame L z s) {j c} (hp : Covers L [.regs, .conv] := by exact hp.of rfl) : Frame L z (s.pwmLateEdges j c) :=
  .each h fun _ ht => ht.inc.pwmTakeEdge
theorem Frame.pwmReload (h : Frame L z s) {c j o} (hp : Covers L [.regs, .conv] := by exact hp.of rfl) : Frame L z (State.pwmReload c j s o) :=
  .pwmUpd (.ite h.setIf <| .ite (.ite h h.pwmRise) h.pwmFall)
theorem Frame.pwmStart (h : Frame L z s) {j c} (hp : Covers L [.regs, .due, .conv, .out] := by exact hp.of rfl) : Frame L z (s.pwmStart j c) :=
  .ite h.pwmUpd.pwmTripEnd.follow.pwmDrive (.pwmDrive (.also h.pwmUpd.pwmTripEnd.follow.pwmReload.pwmReload fun hs => hs.pwmClashes))
theorem Frame.pwmReplan (h : Frame L z s) {j c} (hp : Covers L [.regs, .due, .conv, .out] := by exact hp.of rfl) : Frame L z (s.pwmReplan j c) :=
  .ite h.pwmLateEdges.pwmStart h.pwmLateEdges.pwmDrive
theorem Frame.pwmSyncErr (h : Frame L z s) {j} (hp : Covers L eventPieces := by exact hp.of rfl) : Frame L z (s.pwmSyncErr j) := h.inc.raiseC
theorem Frame.execPwmPeriodStart (h : Frame L z s) {j settled}
    (hp : Covers L convEventPieces := by exact hp.of rfl) : FrameOut L z (execPwmPeriodStart j settled s) :=
  .ite h.next <| .next <| .pwmStart <| .pwmLoadAt <| .ite h.pwmSyncErr h
theorem Frame.execPwmMidPeriod (h : Frame L z s) {j settled}
    (hp : Covers L [.regs, .due, .conv, .out] := by exact hp.of rfl) : FrameOut L z (execPwmMidPeriod j settled s) :=
  .ite h.next <| .ite (.ite h.pwmUpd.follow.pwmLoad.next h.pwmUpd.follow.pwmLoad.pwmReplan.next) h.pwmUpd.follow.next
theorem Frame.execPwmSetLoad (h : Frame L z s) {j c}
    (hp : Covers L [.regs, .due, .conv, .out] := by exact hp.of rfl) : FrameOut L z (execPwmSetLoad j c s) :=
  .ite h.next <| .ite h.pwmUpd.pwmLoad.pwmReplan.next h.pwmLoad.next
theorem Frame.execPwmSync {s0 : State} (h : Frame L z s0) {j c settled}
    (hp : Covers L convEventPieces := by exact hp.of rfl) : FrameOut L z (execPwmSync j c settled s0) := by
  unfold Machine.execPwmSync
  dsimp only
  split
  · exact h.next
  · next e =>
      exact .ite (.next (.arrive e h)) <| .next <| .pwmStart <| .pwmLoadAt <| .pwmUpd <| .ite (.pwmSyncErr (.arrive e h)) <| .arrive e h
theorem Frame.pwmEnable (h : Frame L z s) {j was settled}
    (hp : Covers L [.regs, .due, .conv, .out] := by exact hp.of rfl) : Frame L z (s.pwmEnable j was settled) :=
  .ite h.pwmLoadAt.set.pwmUpd.pwmStart <| .ite h.set.pwmUpd.pwmDrive h
theorem Frame.pwmEnabled (h : Frame L z s) {j was settled}
    (hp : Covers L convEventPieces := by exact hp.of rfl) : Frame L z (s.pwmEnabled j was settled) := .ite h.pwmEnable.pwmRescan h.pwmEnable
theorem Frame.execPwmEnableWrite (h : Frame L z s) {j en settled}
    (hp : Covers L convEventPieces := by exact hp.of rfl) : FrameOut L z (execPwmEnableWrite j en settled s) :=
  .ite h.next h.set.pwmEnabled.next
theorem Frame.execPwmForceWrite (h : Frame L z s) {j forceA forceB}
    (hp : Covers L [.regs, .due, .conv, .out] := by exact hp.of rfl) : FrameOut L z (execPwmForceWrite j forceA forceB s) :=
  .ite h.next <| .next <| .pwmDrive <| .ite h.set.set.pwmClashes h.set.set
theorem Frame.sdfUpd (h : Frame L z s) {m f} (hp : Covers L [.conv] := by exact hp.of rfl) : Frame L z (s.sdfUpd m f) := h.updConv
theorem Frame.sdfClockOff (h : Frame L z s) {m} (hp : Covers L [.out] := by exact hp.of rfl) : Frame L z (s.sdfClockOff m) := .ite h.emit h
theorem Frame.convWrite {old : State} (_h : Frame L z old) (h1 : Frame L z s) {a v}
    (hp : Covers L convEventPieces := by exact hp.of rfl) : Frame L z (convWrite a v old s) :=
  .ite (.ite (.also (.ite h1.adcFreerun h1) fun hs => hs.adcStartWrite) h1) <|
    .ite (.ite (.also (.each h1 fun _ ht => ht.grpConflict) fun hs => hs.grpStart) h1) <| .ite h1.set <|
    .ite (.ite (.also (.also (.pwmDrive (.also h1.pwmEnabled fun hs => hs.pwmClashes)) fun hs => hs.pwmTrip) fun hs => hs.pwmTripclr) <|
    .ite (.ite h1.pwmCommit h1) <| .ite h1.pwmRescan.pwmDrive h1) <| .ite (.ite h1.pwmGtrip h1) <| .ite (.ite h1.cmpOff h1) <|
    .ite (.ite h1.emit <| .ite h1.emit h1) <| .ite (.unless (.unless (.ite h1.sdfUpd <|
    .ite h1.sdfUpd h1) fun hs => hs.emit) fun hs => hs.set.set.sdfUpd) h1
theorem convWrite_frames (hp : Covers L convEventPieces := by exact hp.of rfl) : WriteHook.Frames L z convWrite := fun _ _ _ _ h h1 => h.convWrite h1
theorem Frame.convBefore (h : Frame L z s) {a} (hp : Covers L [.regs, .conv, .free] := by exact hp.of rfl) : Frame L z (convBefore a s) :=
  .ite (.ite h.set.pwmUpd.draw h.set) h
theorem Frame.convAfter (h : Frame L z s) {a} (hp : Covers L [.conv] := by exact hp.of rfl) : Frame L z (convAfter a s) := .ite h.sdfUpd h

theorem convRead_frames (hp : Covers L [.regs, .conv, .free] := by exact hp.of rfl) : ReadHook.Frames L z convRead :=
  fun _ _ h => ⟨h.convBefore, h.convAfter⟩

/-! ### Functions of Machine/Slice -/

theorem Frame.sliceOver (h : Frame L z s) {u st} (hp : Covers L [.regs] := by exact hp.of rfl) : Frame L z (s.sliceOver u st) := h.set.set
theorem Frame.sliceAbort (h : Frame L z s) {u} (hp : Covers L eventPieces := by exact hp.of rfl) : Frame L z (s.sliceAbort u) := .ite h.sliceOver.inc.raiseSum h
theorem Frame.tgSlicesAbort (h : Frame L z s) {e} (hp : Covers L eventPieces := by exact hp.of rfl) : Frame L z (s.tgSlicesAbort e) := h.sliceAbort.sliceAbort

/-! ### Functions of Machine/Tangram -/

theorem Frame.tgPendBit (h : Frame L z s) {e} (hp : Covers L [.regs] := by exact hp.of rfl) : Frame L z (s.tgPendBit e) := h.set
theorem Frame.tgRepair (h : Frame L z s) {base e a odd}
    (hp : Covers L [.mem, .core] := by exact hp.of rfl) : Frame L z (State.tgRepair base e a odd s) := .ite h.store h.store
theorem Frame.tgFinish (h : Frame L z s) {e} (hp : Covers L [.regs, .mem, .tg, .core, .pow] := by exact hp.of rfl) : Frame L z (s.tgFinish e) :=
  .set (.unless (.updPow (.each h.track.tgSet fun _ ht => ht.set)) fun hs => .each hs fun _ ht => ht.dmemFlush)
theorem Frame.tgOccur (h : Frame L z s) {e sl stampNs} (hp : Covers L tgEventPieces := by exact hp.of rfl) : Frame L z (s.tgOccur e sl stampNs) :=
  .ite h <| .ite h.inc.inc.raise h.tgSet.tgPendBit
theorem Frame.tgCount (h : Frame L z s) {e sl stampNs} (hp : Covers L tgEventPieces := by exact hp.of rfl) : Frame L z (s.tgCount e sl stampNs) :=
  .ite h <| .ite h.tgSet h.tgSet.tgOccur
theorem Frame.execTgOccurrence (h : Frame L z s) {e sl}
    (hp : Covers L tgEventPieces := by exact hp.of rfl) : FrameOut L z (execTgOccurrence e sl s) := by
  unfold Machine.execTgOccurrence
  split
  · next e =>
      exact .next (.tgCount (.arrive e h))
  · exact h.next
theorem Frame.tgSwdisp (h : Frame L z s) {e sl} (hp : Covers L tgEventPieces := by exact hp.of rfl) : Frame L z (s.tgSwdisp e sl) := .ite h.tgOccur h
theorem Frame.execTgSwdisp (h : Frame L z s) {e sl} (hp : Covers L tgEventPieces := by exact hp.of rfl) : FrameOut L z (execTgSwdisp e sl s) :=
  .ite h.next h.tgSwdisp.next
theorem Frame.execTgDispatch (h : Frame L z s) {e}
    (hp : Covers L [.regs, .mem, .tg, .core] := by exact hp.of rfl) : FrameOut L z (execTgDispatch e s) := by
  unfold Machine.execTgDispatch
  dsimp only
  refine .ite h.next ?_
  split
  · exact h.next
  · exact .next (.tgPendBit (.each (.tgSet (.each h fun _ ht => ht.dmemFlush)) fun _ ht => ht.set.set))
theorem Frame.tgUndo (h : Frame L z s) {e} (hp : Covers L [.mem, .core] := by exact hp.of rfl) : Frame L z (s.tgUndo e) :=
  List.foldlRecOn _ _ h fun _ ht _ _ => .each ht fun _ hu => hu.store
theorem Frame.tgEscalate (h : Frame L z s) {e cause} (hp : Covers L tgTimeoutPieces := by exact hp.of rfl) : Frame L z (s.tgEscalate e cause) :=
  .viEscalation (.raise (.also (.each h.tgSlicesAbort.tgFinish.set.tgSet.tgPendBit fun _ ht => ht.pwmTrip) fun hs => hs.twinReport))
theorem Frame.tgMismatch (h : Frame L z s) {e c} {fix : State → State} (hf : ∀ {t}, Frame L z t → Frame L z (fix t))
    (hp : Covers L tgTimeoutPieces := by exact hp.of rfl) : Frame L z (s.tgMismatch e c fix) :=
  have hu := hf h.inc.set.raise.tgUndo
  .ite hu.tgSet.tgEscalate <| .ite hu.tgSet.tgEscalate hu.tgSet.tgSet.set
theorem Frame.laneAlive (h : Frame L z s) (hp : Covers L [.conv] := by exact hp.of rfl) : Frame L z s.laneAlive := h.updConv
theorem Frame.tgSend (h : Frame L z s) {l o}
    (hp : Covers L [.regs, .held, .mem, .due, .evr, .conv, .core, .out] := by exact hp.of rfl) : Frame L z (State.tgSend l s o) := by
  unfold State.tgSend
  split
  · exact .ite (.write4 h.laneAlive convWrite_frames) h.laneAlive
  · exact h.raise
theorem Frame.tgRelease (h : Frame L z s) {e}
    (hp : Covers L [.regs, .held, .mem, .due, .evr, .conv, .tg, .core, .pow, .out] := by exact hp.of rfl) : Frame L z (s.tgRelease e) :=
  .tgFinish (.addWrap (.each h fun _ ht => ht.tgSend))
theorem Frame.execTgSeal (h : Frame L z s) {e cmp}
    (hp : Covers L [.regs, .held, .mem, .due, .evr, .conv, .tg, .core, .vi, .pow, .out] := by exact hp.of rfl) : FrameOut L z (execTgSeal e cmp s) := by
  unfold Machine.execTgSeal
  refine .ite h.next <| .ite h.tgRelease.next ?_
  split
  · exact h.tgRelease.next
  · exact .next <| h.tgMismatch id
  · exact .next <| h.tgMismatch id
theorem Frame.execTgSkewTimeout (h : Frame L z s) {e} (hp : Covers L tgTimeoutPieces := by exact hp.of rfl) : FrameOut L z (execTgSkewTimeout e s) :=
  .ite (.next <| h.tgMismatch id) h.next
theorem Frame.execTgDeadlineExpiry (h : Frame L z s) {e}
    (hp : Covers L [.regs, .mem, .due, .evr, .tg, .core, .pow, .out] := by exact hp.of rfl) : FrameOut L z (execTgDeadlineExpiry e s) :=
  .ite h.set.tgFault.tgFinish.next h.next
theorem Frame.tgDoubleFault (h : Frame L z s) {e code epc}
    (hp : Covers L [.regs, .mem, .due, .evr, .tg, .core, .pow, .out] := by exact hp.of rfl) : Frame L z (s.tgDoubleFault e code epc) := h.set.tgFault.tgFinish
theorem Frame.tgCause (h : Frame L z s) {e code epc ds shadow loopEnd lvl}
    (hp : Covers L [.regs] := by exact hp.of rfl) : Frame L z (s.tgCause e code epc ds shadow loopEnd lvl) :=
  h.set.set.set.set.set.set
theorem Frame.tgEnter (h : Frame L z s) {e code eval epc tgt shadow lvl}
    (hp : Covers L [.regs, .mem, .due, .evr, .tg, .core, .pow, .out] := by exact hp.of rfl) : Frame L z (s.tgEnter e code eval epc tgt shadow lvl) :=
  .ite h.tgDoubleFault h.tgSet.tgCause.set.tgFault
theorem Frame.tgBoundary (h : Frame L z s) {e}
    (hp : Covers L [.regs, .mem, .due, .evr, .tg, .core, .pow, .out, .free] := by exact hp.of rfl) : Frame L z (s.tgBoundary e) := .ite h.tgSet.draw.tgEnter h
theorem Frame.tgTrap (h : Frame L z s) {e code eval}
    (hp : Covers L [.regs, .mem, .due, .evr, .tg, .core, .pow, .out, .free] := by exact hp.of rfl) : Frame L z (s.tgTrap e code eval) := by
  unfold State.tgTrap
  dsimp only
  split
  · exact h.tgEnter.tgBoundary
  · exact h.tgEnter.tgBoundary
theorem Frame.tgNext (h : Frame L z s) {e cost shadow}
    (hp : Covers L [.regs, .mem, .due, .evr, .tg, .core, .pow, .out, .free] := by exact hp.of rfl) : Frame L z (s.tgNext e cost shadow) := h.tgSet.tgBoundary
theorem Frame.tgRetire {r : TgRes} (h : Frame L z r.st) {e cost}
    (hp : Covers L [.regs, .mem, .due, .evr, .tg, .core, .pow, .out, .free] := by exact hp.of rfl) : Frame L z (State.tgRetire e cost r) := by
  unfold State.tgRetire
  split
  · next e =>
      exact h.tgNext
  · next e =>
      exact h.tgNext
  · next e =>
      exact h.tgSet.tgBoundary
  · next e =>
      exact h.tgSet.tgBoundary
  · next e =>
      exact h.tgSet
  · next e =>
      exact h.tgTrap
  · next e =>
      exact h
theorem Frame.tgCorrected (h : Frame L z s) {e c} (hp : Covers L [.regs] := by exact hp.of rfl) : Frame L z (s.tgCorrected e c) := by
  unfold State.tgCorrected
  split
  · exact h.inc
  · exact h
theorem Frame.tgIssue (h : Frame L z s) {x w cost k} {body : State → TgRes} (hb : ∀ {t}, Frame L z t → Frame L z (body t).st)
    (hp : Covers L enginePieces := by exact hp.of rfl) : FrameOut L z (State.tgIssue x w cost k body s) := by
  unfold State.tgIssue
  refine .ite h.next ?_
  split
  · exact .next <| h.tgMismatch fun ht => ht.tgRepair
  · exact .next h.tgTrap
  · have hc {c} : Frame L z (s.tgCorrected x.e c) := h.tgCorrected
    exact .ite hc.tgTrap.next <| .ite h.next <| .ite hc.tgTrap.next <| .ite hc.tgTrap.next (hb hc).tgRetire.next
theorem Frame.tgAlu (h : Frame L z s) {x w cost f} (hp : Covers L enginePieces := by exact hp.of rfl) : FrameOut L z (State.tgAlu x w cost f s) :=
  h.tgIssue (fun ht => ht.tgSet)
theorem Frame.tgDmemEcc (h : Frame L z s) {e a c} {k : State → TgRes} (hk : ∀ {t}, Frame L z t → Frame L z (k t).st)
    (hp : Covers L tgTimeoutPieces := by exact hp.of rfl) : Frame L z (s.tgDmemEcc e a c k).st := by
  unfold State.tgDmemEcc
  split
  · exact h.tgMismatch fun ht => ht.tgRepair
  · exact h
  · exact hk h.tgCorrected
theorem Frame.tgStore (h : Frame L z s) {e parts} (hp : Covers L [.mem, .tg, .core] := by exact hp.of rfl) : Frame L z (s.tgStore e parts).st :=
  .iteSt h <| List.foldlRecOn parts _ (motive := Frame L z) h fun _ ht _ _ => .each (.ite ht.tgSet ht) fun _ hu => hu.store
theorem Frame.tgPut (h : Frame L z s) {e l} (hp : Covers L [.tg] := by exact hp.of rfl) : Frame L z (s.tgPut e l).st := .iteSt h.atTrap h.tgSet.atOk
theorem Frame.tgLane (h : Frame L z s) {e a ac page} {k : State → TgRes} (hk : ∀ {t}, Frame L z t → Frame L z (k t).st)
    (hp : Covers L eventPieces := by exact hp.of rfl) : Frame L z (s.tgLane e a ac page k).st := by
  unfold State.tgLane
  refine .iteSt h <| .iteSt h ?_
  split
  · next e => exact h.checkReq e
  · exact hk h
theorem Frame.tgLdc (h : Frame L z s) {e a parity}
    (hp : Covers L [.regs, .latch, .mem, .due, .evr, .conv, .tg, .core, .out, .free] := by exact hp.of rfl) : Frame L z (s.tgLdc e a parity).2 := by
  unfold State.tgLdc
  dsimp only
  split
  · exact h.tgSet.snd
  · exact .iteSnd h.laneAlive.parityError.snd <| .iteSnd (.snd (.parityError (.regRead h.laneAlive convRead_frames))) (.snd (.tgSet
      (.regRead h.laneAlive convRead_frames)))
theorem Frame.tgSetSr (h : Frame L z s) {e sr v} (hp : Covers L [.regs, .tg] := by exact hp.of rfl) : Frame L z (s.tgSetSr e sr v) := by
  unfold State.tgSetSr
  split
  · exact h.set
  · exact h.tgCause
  · exact h.tgSet
  · exact h.tgSet
  · exact h.tgSet
  · exact h.tgSet
  · exact h.tgSet
  · exact h.tgSet
  · exact h.tgSet
  · exact h.tgSet
  · exact h.tgSet
  · exact h.tgSet
  · exact h.tgSet
  · exact h.tgSet
  · exact h
theorem Frame.execTgDmemWrite (h : Frame L z s) {e off size v}
    (hp : Covers L tgEventPieces := by exact hp.of rfl) : FrameOut L z (execTgDmemWrite e off size v s) :=
  .ite h.next <| .ite h.tgFabricDmem.next h.next
theorem Frame.tgPairWrite (h : Frame L z s) {e pair} (hp : Covers L eventPieces := by exact hp.of rfl) : Frame L z (s.tgPairWrite e pair) :=
  .ite h <| .ite h <| .ite h.set.set h.tgSlicesAbort.set
theorem Frame.execTgPairWrite (h : Frame L z s) {e pair}
    (hp : Covers L eventPieces := by exact hp.of rfl) : FrameOut L z (execTgPairWrite e pair s) := .ite h.next h.tgPairWrite.next
theorem Frame.execTgPairSyncDone (h : Frame L z s) {e}
    (hp : Covers L [.regs, .mem, .tg] := by exact hp.of rfl) : FrameOut L z (execTgPairSyncDone e s) :=
  .ite h.updMemTg.set.next h.next
theorem Frame.tgMoveGo (h : Frame L z s) {e d} (hp : Covers L eventPieces := by exact hp.of rfl) : Frame L z (s.tgMoveGo e d) := by
  unfold State.tgMoveGo
  refine .ite h ?_
  split
  · exact h.set.set.set.raise
  · exact h.tgSlicesAbort.set
theorem Frame.execTgMoveGo (h : Frame L z s) {e dest} (hp : Covers L eventPieces := by exact hp.of rfl) : FrameOut L z (execTgMoveGo e dest s) :=
  .ite h.next <| .ite h.next h.set.tgMoveGo.next
theorem Frame.execTgMoveFreeze (h : Frame L z s) {e} (hp : Covers L [.regs] := by exact hp.of rfl) : FrameOut L z (execTgMoveFreeze e s) :=
  .ite h.set.next h.next
theorem Frame.tgCopyTo (h : Frame L z s) {base len p} (hp : Covers L tgEventPieces := by exact hp.of rfl) : Frame L z (State.tgCopyTo base len s p) :=
  .updTg (.each (.each h.updTg fun _ ht => ht.store) fun _ ht => ht.dmemIn)
theorem Frame.tgCopySlot (h : Frame L z s) {e d k} (hp : Covers L [.regs] := by exact hp.of rfl) : Frame L z (State.tgCopySlot e d s k) :=
  h.set.set.set.set.set.set.set.set.set
theorem Frame.execTgMoveComplete (h : Frame L z s) {e} (hp : Covers L tgEventPieces := by exact hp.of rfl) : FrameOut L z (execTgMoveComplete e s) := by
  unfold Machine.execTgMoveComplete
  extract_lets d base len pairs s1 s2 s3 pend s4 s5 s6
  have hs2 : Frame L z s2 := .each (.each h fun _ ht => ht.tgCopyTo) fun _ ht => ht.tgCopySlot
  have hs5 : Frame L z s5 := hs2.set.set.set.tgSet.tgSet.tgPendBit.tgPendBit
  exact .ite h.next hs5.set.set.set.raise.next
theorem Frame.tgFwdClear (h : Frame L z s) {e} (hp : Covers L [.regs] := by exact hp.of rfl) : Frame L z (s.tgFwdClear e) := h.set.set
theorem Frame.execTgMoveFwdClear (h : Frame L z s) {e} (hp : Covers L [.regs] := by exact hp.of rfl) : FrameOut L z (execTgMoveFwdClear e s) :=
  .ite h.next <| .ite h.tgFwdClear.next h.next
theorem Frame.tgReset1 (h : Frame L z s) {e} (hp : Covers L [.regs, .held, .tg] := by exact hp.of rfl) : Frame L z (s.tgReset1 e) := h.updTg.restoreBlock
theorem Frame.tgReset (h : Frame L z s) {e}
    (hp : Covers L [.regs, .held, .mem, .due, .evr, .tg, .core, .out] := by exact hp.of rfl) : Frame L z (s.tgReset e) :=
  .ite h.tgSlicesAbort.tgReset1.tgReset1 h.tgSlicesAbort.tgReset1
theorem Frame.tgWrite {old : State} (h : Frame L z old) (h1 : Frame L z s) {a v}
    (hp : Covers L tgEventPieces := by exact hp.of rfl) : Frame L z (tgWrite a v old s) :=
  .ite h <| .ite (.each h1 fun _ ht => ht.tgSwdisp) <| .ite (.ite h h1.set.tgPairWrite) <| .ite (.also (.setIf (.set (.ite h1.set <|
    .ite h1.set h1.tgFwdClear))) fun hs => hs.tgMoveGo) <| .ite (.ite h1.tgSet h1) h1

end Sys2Proof.Machine
end

section
/-! PROOFS. What a command leaves unchanged, part 5 of 10: boot, the global time base, the gateway and PCIe. -/

namespace Sys2Proof.Machine
open Sys2Proof
set_option Elab.async false

variable {L : List Piece} {z s t : State} {r : EthRun}

/-! ### Functions of Machine/Boot -/

theorem Frame.recWrite (h : Frame L z s) {b k words seq} (hp : Covers L [.mem, .core] := by exact hp.of rfl) : Frame L z (s.recWrite b k words seq) :=
  h.setBytes
theorem Frame.recCommit (h : Frame L z s) {b words} (hp : Covers L [.mem, .core] := by exact hp.of rfl) : Frame L z (s.recCommit b words) := h.recWrite.recWrite
theorem Frame.measExtend (h : Frame L z s) {k d} (hp : Covers L [.cmp] := by exact hp.of rfl) : Frame L z (s.measExtend k d) := h.updCmp
theorem Frame.measBoot (h : Frame L z s) {b} (hp : Covers L [.cmp] := by exact hp.of rfl) : Frame L z (s.measBoot b) :=
  .each h.updCmp.measExtend.measExtend.measExtend fun _ ht => ht.measExtend
theorem Frame.cfgReg (h : Frame L z s) {a v} (hp : Covers L [.regs] := by exact hp.of rfl) : Frame L z (s.cfgReg a v) := by
  unfold State.cfgReg
  split
  · exact .each h fun _ ht => ht.set
  · exact h
theorem Frame.cfgRoute (h : Frame L z s) {n} (hp : Covers L [.regs] := by exact hp.of rfl) : Frame L z (s.cfgRoute n) := .ite h.set h
theorem Frame.cfgCan (h : Frame L z s) (hp : Covers L [.regs] := by exact hp.of rfl) : Frame L z s.cfgCan :=
  .also (.each (.each h fun _ ht => ht.set.set.set) fun _ ht => .ite
    (.each ht fun _ hu => hu.set.set.set) ht) fun hs => .each hs fun _ ht => ht.set.set
theorem Frame.vcoreFollow (h : Frame L z s) (hp : Covers L [.regs, .pow] := by exact hp.of rfl) : Frame L z s.vcoreFollow := .set (.ite h.updPow h.updPow)
theorem Frame.domainsUp (h : Frame L z s) (hp : Covers L [.regs, .mem, .due, .conv, .core, .out] := by exact hp.of rfl) : Frame L z s.domainsUp :=
  .set (.also (.each h fun _ ht => .ite ht ht.zero) fun hs => .each hs fun _ ht => ht.pwmBall.pwmBall)
theorem Frame.islands (h : Frame L z s) (hp : Covers L [.regs] := by exact hp.of rfl) : Frame L z s.islands := h.set
theorem Frame.cfgApply (h : Frame L z s) (hp : Covers L [.regs, .pow] := by exact hp.of rfl) : Frame L z s.cfgApply :=
  .each (.each (.vcoreFollow (.cfgCan (.each (.each h fun _ ht => ht.cfgReg) fun _ ht => ht.cfgRoute))) fun _ ht => ht.set) fun _ ht => ht.set
theorem Frame.place (h : Frame L z s) {a src area} (hp : Covers L [.mem, .core] := by exact hp.of rfl) : Frame L z (s.place a src area) := h.zero.setBytes
theorem Frame.innerLoad (hs : Frame L z s) {b h} (hp : Covers L [.mem, .core] := by exact hp.of rfl) : Frame L z (s.innerLoad b h) := hs.place
theorem Frame.loadImages (h : Frame L z s) {b} (hp : Covers L [.mem, .core] := by exact hp.of rfl) : Frame L z (s.loadImages b) :=
  .each (.each h fun _ ht => ht.innerLoad) fun _ ht => .ite ht.setBytes <| .ite ht.setBytes <| .ite ht.setBytes ht
theorem Frame.slotSet (h : Frame L z s) {t r base lim pi po}
    (hp : Covers L [.regs] := by exact hp.of rfl) : Frame L z (s.slotSet t r base lim pi po) := h.set.set.set.set.set
theorem Frame.monSlots (h : Frame L z s) {b} (hp : Covers L [.regs] := by exact hp.of rfl) : Frame L z (s.monSlots b) := .each h.slotSet fun _ ht => ht.slotSet
theorem Frame.hartStart (hs : Frame L z s) {h pc a1 a2}
    (hp : Covers L [.regs, .pcie, .core, .pair] := by exact hp.of rfl) : Frame L z (s.hartStart h pc a1 a2) :=
  .ite hs <| .ite (.ite hs.pairSet.coreReset.coreReset.coreStart.pairSet.jocc.set hs.pairSet.coreReset.coreReset.coreStart.pairFresh) hs.coreStart
theorem Frame.hartBoot (hs : Frame L z s) {h} (hp : Covers L [.regs, .pcie, .core, .pair] := by exact hp.of rfl) : Frame L z (s.hartBoot h) := by
  unfold State.hartBoot
  split
  · exact hs.hartStart
  · exact hs
theorem Frame.loadAndStart (h : Frame L z s) {b} (hp : Covers L bootPieces := by exact hp.of rfl) : Frame L z (s.loadAndStart b) := by
  unfold State.loadAndStart
  dsimp only
  exact .also (.each (.measBoot <| .loadImages <| .monSlots <| .ite h.updCmpPow <| .islands <| .domainsUp <| .cfgApply h.updCmpPow)
    fun _ ht => ht.hartBoot) fun hs => hs.carouselEnable
theorem Frame.bootTry (h : Frame L z s) {b ecc} (hp : Covers L bootPieces := by exact hp.of rfl) : Frame L z (s.bootTry b ecc).1 := by
  unfold State.bootTry
  dsimp only
  refine .iteFst (.fst (.loadAndStart ?_)) (.fst (.also (.raiseC (.evrTake h.updCmp)) fun hs => hs.updCmp))
  exact .shared (.raiseC (.evrTake h.updCmp)) fun h2 => .ite h2.evrTake.raiseC (.ite h2.evrTake.raiseC h2)
theorem Frame.enterLate (h : Frame L z s) {src word at_}
    (hp : Covers L [.regs, .due, .evr] := by exact hp.of rfl) : Frame L z (s.enterLate src word at_) := .ite h <| .ite h.updEvr h.evrTake.raiseAt
theorem Frame.bootReport (h : Frame L z s) (hp : Covers L powEventPieces := by exact hp.of rfl) : Frame L z s.bootReport :=
  .updPow (.each h.raise fun _ ht => ht.enterLate)
theorem Frame.recovery (h : Frame L z s) (hp : Covers L powEventPieces := by exact hp.of rfl) : Frame L z s.recovery := h.bootReport.set.evrTake.raiseC
theorem Frame.showLc (h : Frame L z s) (hp : Covers L [.regs] := by exact hp.of rfl) : Frame L z s.showLc := h.set
theorem Frame.bankErase (h : Frame L z s) {b} (hp : Covers L [.mem, .core] := by exact hp.of rfl) : Frame L z (s.bankErase b) := h.zero
theorem Frame.eraseFinish (h : Frame L z s) (hp : Covers L [.mem, .core, .cmp] := by exact hp.of rfl) : Frame L z s.eraseFinish :=
  .ite h.bankErase.bankErase.updCmp h

/-! ### Functions of Machine/Gtb -/

theorem Frame.setGtb (h : Frame L z s) {now slew} (hp : Covers L [.gtb] := by exact hp.of rfl) : Frame L z (s.setGtb now slew) := h.updGtb
theorem Frame.refreshQual (h : Frame L z s) (hp : Covers L [.regs] := by exact hp.of rfl) : Frame L z s.refreshQual := h.set
theorem Frame.refreshSlot (h : Frame L z s) {d} (hp : Covers L eventPieces := by exact hp.of rfl) : Frame L z (s.refreshSlot d) :=
  .ite h <| .ite h.set h.set.raise
theorem Frame.setTrgCmp (h : Frame L z s) {n v} (hp : Covers L [.regs] := by exact hp.of rfl) : Frame L z (s.setTrgCmp n v) := h.set.set
theorem Frame.arm (h : Frame L z s) {n} (hp : Covers L [.regs] := by exact hp.of rfl) : Frame L z (s.arm n) := h.set
theorem Frame.fire {s0 : State} (h : Frame L z s0) {n} (hp : Covers L [.regs, .gtb, .due, .out] := by exact hp.of rfl) : Frame L z (s0.fire n) :=
  .also (.ite h.follow.addWrap.set.setTrgCmp h.follow.addWrap.set.set.set) fun hs => .ite hs.updGtb.emit hs.updGtb
theorem Frame.fireLate (h : Frame L z s) {n} (hp : Covers L gtbEventPieces := by exact hp.of rfl) : Frame L z (s.fireLate n) := h.fire.set.raise
theorem Frame.execTriggerFire (h : Frame L z s) {n}
    (hp : Covers L [.regs, .gtb, .due, .out] := by exact hp.of rfl) : FrameOut L z (execTriggerFire n s) := .ite h.fire.next h.next
theorem Frame.execTriggerCompareWrite (h : Frame L z s) {n value}
    (hp : Covers L gtbEventPieces := by exact hp.of rfl) : FrameOut L z (execTriggerCompareWrite n value s) :=
  .ite h.set.fireLate.next h.set.next
theorem Frame.execTriggerCtlWrite (h : Frame L z s) {n value}
    (hp : Covers L gtbEventPieces := by exact hp.of rfl) : FrameOut L z (execTriggerCtlWrite n value s) :=
  .ite h.set.set.set.set.set.set.arm.fireLate.next h.set.set.set.set.set.set.arm.next
theorem Frame.stepTrigger (h : Frame L z s) {old d n}
    (hp : Covers L gtbEventPieces := by exact hp.of rfl) : Frame L z (State.stepTrigger old d s n) :=
  .ite h <| .ite h.setTrgCmp <| .ite (.ite (.ite h.fireLate h.fireLate.setTrgCmp.addSat.raise) h.fireLate) h
theorem Frame.gtbStep (h : Frame L z s) {d}
    (hp : Covers L [.regs, .mem, .gtb, .due, .evr, .esw, .core, .out] := by exact hp.of rfl) : Frame L z (s.gtbStep d) :=
  .enter (.gateStep (.each h.setGtb.set fun _ ht => ht.stepTrigger))
theorem Frame.execGtbStep (h : Frame L z s)
    (hp : Covers L [.regs, .mem, .gtb, .due, .evr, .esw, .core, .out] := by exact hp.of rfl) : FrameOut L z (execGtbStep s) := .ite h.next h.gtbStep.next
theorem Frame.execSlewStart (h : Frame L z s) (hp : Covers L [.gtb] := by exact hp.of rfl) : FrameOut L z (execSlewStart s) := .ite h.next h.updGtb.next
theorem Frame.execSlewComplete (h : Frame L z s) (hp : Covers L [.gtb] := by exact hp.of rfl) : FrameOut L z (execSlewComplete s) := h.setGtb.next
theorem Frame.execSnapshotTake (h : Frame L z s) (hp : Covers L [.regs] := by exact hp.of rfl) : FrameOut L z (execSnapshotTake s) := h.set.set.set.next
theorem Frame.enterHoldover (h : Frame L z s) (hp : Covers L gtbEventPieces := by exact hp.of rfl) : Frame L z s.enterHoldover :=
  .ite h.updGtb h.updGtb.set.set.set.refreshQual.refreshSlot.raise
theorem Frame.servoSlew (h : Frame L z s) {o} (hp : Covers L [.regs, .free] := by exact hp.of rfl) : Frame L z (s.servoSlew o) := h.setS.draw
theorem Frame.correct (h : Frame L z s) {o first} (hp : Covers L gptpPieces := by exact hp.of rfl) : Frame L z (s.correct o first) := by
  unfold State.correct
  dsimp only
  refine .ite h.updGtb.gtbStep.set ?_
  split
  · exact h.updGtb.servoSlew
  · exact .ite h.updGtb.gtbStep h.updGtb.servoSlew
  · exact .ite h.updGtb.gtbStep h.updGtb.servoSlew
theorem Frame.grandmaster (h : Frame L z s) {d gm} (hp : Covers L gtbEventPieces := by exact hp.of rfl) : Frame L z (s.grandmaster d gm) :=
  .ite (.ite h.updGtb.set.inc.raise.enterHoldover h.updGtb.set.inc.raise) h.updGtb.set
theorem Frame.servoSync (h : Frame L z s) {o} (hp : Covers L gptpPieces := by exact hp.of rfl) : Frame L z (s.servoSync o) :=
  .ite h.updGtb.set.raise.correct <| .ite h.updGtb.set.raise.correct h.updGtb.correct
theorem Frame.holdoverSync (h : Frame L z s) {gm o} (hp : Covers L gptpPieces := by exact hp.of rfl) : Frame L z (s.holdoverSync gm o) :=
  .ite h.updGtb (.also h.updGtb.set.raise fun hs => hs.correct)
theorem Frame.execSyncReceive (h : Frame L z s) {d p msg}
    (hp : Covers L gptpPieces := by exact hp.of rfl) : FrameOut L z (execSyncReceive d p msg s) :=
  .ite h.next <| .ite h.next (.next (.refreshSlot (.refreshQual (.also h.grandmaster.updGtb.setS.setS fun hs => .ite hs.holdoverSync <|
    .ite hs.servoSync hs))))
theorem Frame.execSyncRelay (h : Frame L z s) {d} (hp : Covers L gptpPieces := by exact hp.of rfl) : FrameOut L z (execSyncRelay d s) := by
  unfold Machine.execSyncRelay
  dsimp only
  split
  · exact h.next
  · exact .ite h.next (.next (.each h.updGtb fun _ ht => ht.ptpSend))
theorem Frame.execSyncTransmit (h : Frame L z s) {d} (hp : Covers L gptpPieces := by exact hp.of rfl) : FrameOut L z (execSyncTransmit d s) :=
  .ite h.next <| .next <| .refreshSlot <| .each h.updGtb fun _ ht => ht.ptpSend
theorem Frame.execPdelayReqTransmit (h : Frame L z s) {p}
    (hp : Covers L gptpPieces := by exact hp.of rfl) : FrameOut L z (execPdelayReqTransmit p s) := .ite h.next <| .ite h.next h.updGtb.ptpSend.next
theorem Frame.execPdelayReceive (h : Frame L z s) {p m} (hp : Covers L gptpPieces := by exact hp.of rfl) : FrameOut L z (execPdelayReceive p m s) := by
  unfold Machine.execPdelayReceive
  dsimp only
  refine .ite h.next <| .ite h.next ?_
  split
  · exact h.ptpSend.next
  · exact .ite h.updGtb.next h.next
  · exact .ite h.updGtb.next h.next
  · exact h.next
  · exact h.next
theorem Frame.execSyncTimeout (h : Frame L z s) {d} (hp : Covers L gtbEventPieces := by exact hp.of rfl) : FrameOut L z (execSyncTimeout d s) :=
  .ite h.next <| .next <| .refreshSlot <| .also h.updGtb.set.raise fun hs => hs.enterHoldover
theorem Frame.execGtbDomainWrite (h : Frame L z s) {d disable}
    (hp : Covers L gtbEventPieces := by exact hp.of rfl) : FrameOut L z (execGtbDomainWrite d disable s) :=
  .ite (.next (.refreshSlot (.ite h.set.enterHoldover h.set))) h.set.enterHoldover.refreshSlot.next
theorem Frame.capShow (h : Frame L z s) {u} (hp : Covers L [.regs] := by exact hp.of rfl) : Frame L z (s.capShow u) := by
  unfold State.capShow
  dsimp only
  split
  · exact h.set.set.set.set.set
  · exact h.set.set.set.set.set
theorem Frame.capture (h : Frame L z s) {u rising stamp}
    (hp : Covers L [.regs, .gtb, .due, .evr] := by exact hp.of rfl) : Frame L z (s.capture u rising stamp) := .ite h.inc.raiseAt h.updGtb.capShow.raiseAt
theorem Frame.execCaptureEdge (h : Frame L z s) {u rising stamp held}
    (hp : Covers L [.regs, .gtb, .due, .evr] := by exact hp.of rfl) : FrameOut L z (execCaptureEdge u rising stamp held s) := by
  unfold Machine.execCaptureEdge
  dsimp only
  refine .ite (.ite h.next h.capture.next) ?_
  split
  · next e =>
      exact .ite (.next (.capture (.arrive e h))) (.next (.arrive e h))
  · exact h.next
theorem Frame.execCapturePop (h : Frame L z s) {u} (hp : Covers L [.regs, .gtb] := by exact hp.of rfl) : FrameOut L z (execCapturePop u s) :=
  h.updGtb.capShow.next

/-! ### Functions of Machine/Gw -/

theorem Frame.setImg (h : Frame L z s) {l i b} (hp : Covers L [.gw] := by exact hp.of rfl) : Frame L z (s.setImg l i b) := h.updGw
theorem Frame.gwFill (h : Frame L z s) {l} (hp : Covers L [.gw] := by exact hp.of rfl) : Frame L z (s.gwFill l) := .each h fun _ ht => ht.setImg
theorem Frame.setJobs (h : Frame L z s) {c l} (hp : Covers L [.regs, .gw] := by exact hp.of rfl) : Frame L z (s.setJobs c l) := h.updGw.set.track
theorem Frame.gwPut (h : Frame L z s) {c p} (hp : Covers L [.regs, .gw] := by exact hp.of rfl) : Frame L z (s.gwPut c p) := h.setJobs
theorem Frame.gwEnter (h : Frame L z s) {l p} (hp : Covers L gwEventPieces := by exact hp.of rfl) : Frame L z (s.gwEnter l p) := .ite h.gwPut h.inc.raiseSum
theorem Frame.route {t : GwTouch} (h : Frame L z t.s) {data r} (hp : Covers L gwEventPieces := by exact hp.of rfl) : Frame L z (GwTouch.route data t r).s := by
  unfold GwTouch.route
  dsimp only
  refine .iteGw h <| .iteGw h.inc ?_
  split
  · exact .ite h.inc.raiseSum h
  · exact .each (.ite h.inc.raiseSum h) fun _ ht => ht.setImg
theorem Frame.gwDue (h : Frame L z s) {l} (hp : Covers L gwEventPieces := by exact hp.of rfl) : Frame L z (s.gwDue l) :=
  .ite h <| .ite h.inc.raiseSum h.set.setJobs
theorem Frame.gwDueGap (h : Frame L z s) {l} (hp : Covers L gwEventPieces := by exact hp.of rfl) : Frame L z (s.gwDueGap l) := .ite h.gwDue <| .ite h h.updGw
theorem Frame.gwCancel (h : Frame L z s) {l} (hp : Covers L [.regs, .gw] := by exact hp.of rfl) : Frame L z (s.gwCancel l) :=
  .set (.updGw (.each h fun _ ht => .ite ht.setJobs ht))
theorem Frame.gwSent (h : Frame L z s) {l} (hp : Covers L [.regs, .gw] := by exact hp.of rfl) : Frame L z (s.gwSent l) := h.updGw.set.addWrap
theorem Frame.gwRefused (h : Frame L z s) {l} (hp : Covers L eventPieces := by exact hp.of rfl) : Frame L z (s.gwRefused l) := h.set.raise
theorem Frame.gwSendCan (h : Frame L z s) {l} (hp : Covers L gwEventPieces := by exact hp.of rfl) : Frame L z (s.gwSendCan l) := by
  unfold State.gwSendCan
  dsimp only
  refine .ite h.gwRefused ?_
  split
  · next e =>
      exact .gwRefused (.checkReq e h)
  · split
    · next e =>
        exact .gwRefused (.checkReq e h)
    · exact h.setBytes.set.canTxreq.gwSent
theorem Frame.gwSendLin (h : Frame L z s) {l} (hp : Covers L gwEventPieces := by exact hp.of rfl) : Frame L z (s.gwSendLin l) := by
  unfold State.gwSendLin
  dsimp only
  refine .ite h.gwRefused ?_
  split
  · next e =>
      exact .gwRefused (.checkReq e h)
  · exact h.set.gwSent
theorem Frame.gwFrame (h : Frame L z s) {c f} (hp : Covers L [.gw, .out] := by exact hp.of rfl) : Frame L z (s.gwFrame c f) := h.updGw.emit
theorem Frame.gwSendEth {l} (e : s.gwSendEth l = some t) (hs : Frame L z s) (hp : Covers L gwFormPieces := by exact hp.of rfl) : Frame L z t := by
  unfold State.gwSendEth at e
  extract_lets at e
  split at e
  · split at e
    · cases e; exact hs.gwRefused
    · split at e
      · cases e
      · cases e; exact .set <| .each (.each hs.gwFrame.addWrap fun _ ht => ht.gwSent) fun _ ht => ht.inc
  · split at e
    · cases e; exact hs.gwRefused
    · split at e
      · cases e
      · cases e; exact hs.draw.gwFrame.addWrap.gwSent
theorem Frame.gwOps (h : Frame L z s) {n} (hp : Covers L [.regs] := by exact hp.of rfl) : Frame L z (s.gwOps n) := h.addWrap
theorem Frame.gwForm {l} (e : s.gwForm l = some t) (h : Frame L z s) (hp : Covers L gwFormPieces := by exact hp.of rfl) : Frame L z t := by
  unfold State.gwForm at e
  dsimp only at e
  split at e
  · split at e <;> cases e
    · exact h.updGw
    · exact h.gwOps.gwSendCan
  · cases e; exact h.gwOps.gwSendLin
  · exact .gwSendEth e h.gwOps
  · exact .gwSendEth e h.gwOps
  · cases e; exact h.set

theorem Frame.gwFormed (h : Frame L z s) {l} (hp : Covers L gwFormPieces := by exact hp.of rfl) : Frame L z ((s.gwForm l).getD s) := by
  cases e : s.gwForm l with
  | none => exact h
  | some t => exact .gwForm e h
theorem Frame.gwTake (h : Frame L z s) {c j} (hp : Covers L [.regs, .gw] := by exact hp.of rfl) : Frame L z (s.gwTake c j) := h.setJobs
theorem Frame.execGwPduReceive (h : Frame L z s) {src}
    (hp : Covers L [.regs, .mem, .due, .evr, .lin, .gw, .core, .out] := by exact hp.of rfl) : FrameOut L z (execGwPduReceive src s) := by
  unfold Machine.execGwPduReceive
  dsimp only
  refine .ite h.next ?_
  split
  · refine .ite ?_ h.next
    split
    · exact h.gwEnter.canFull.next
    · exact h.next
  · split
    · refine .ite ?_ h.next
      split
      · exact h.updLin.gwEnter.next
      · exact h.updLin.next
    · exact h.next
  · refine .ite h.next ?_
    split
    · exact h.updGw.inc.raiseSum.next
    · exact .ite (.next (.each h.updGw fun _ ht => ht.gwPut)) h.next
theorem Frame.gwProcess (h : Frame L z s) {l data} (hp : Covers L gwEventPieces := by exact hp.of rfl) : Frame L z (s.gwProcess l data) := by
  unfold State.gwProcess
  extract_lets fwd d n s1 cnt u s2
  have h1 : Frame L z s1 := .ite (.each h fun _ ht => ht.setImg) h
  have hu : Frame L z u.s := List.foldlRecOn _ _ (motive := fun t : GwTouch => Frame L z t.s) h1 fun _ ht _ _ => ht.route
  exact .each hu.gwOps.addWrap fun _ ht => .ite ht.gwDueGap ht
theorem Frame.execGwPduProcess (h : Frame L z s) (hp : Covers L gwFormPieces := by exact hp.of rfl) : FrameOut L z (execGwPduProcess s) := by
  unfold Machine.execGwPduProcess
  dsimp only
  refine .ite h.next ?_
  split
  · split
    · exact h.gwTake.gwProcess.next
    · exact h.gwTake.inc.raiseSum.next
  · exact h.next
theorem Frame.execGwLayoutCyclicDue (h : Frame L z s) {l}
    (hp : Covers L gwEventPieces := by exact hp.of rfl) : FrameOut L z (execGwLayoutCyclicDue l s) := by
  unfold Machine.execGwLayoutCyclicDue
  split
  · next e =>
      exact .next (.gwDue (.arrive e h))
  · exact h.next
theorem Frame.execGwMingapExpiry (h : Frame L z s) {l} (hp : Covers L gwEventPieces := by exact hp.of rfl) : FrameOut L z (execGwMingapExpiry l s) :=
  .ite h.updGw.gwDue.next h.next
theorem Frame.execGwPduForm (h : Frame L z s) (hp : Covers L gwFormPieces := by exact hp.of rfl) : FrameOut L z (execGwPduForm s) := by
  unfold Machine.execGwPduForm
  refine .ite h.next ?_
  split
  · exact h.gwTake.gwFormed.next
  · exact h.next
theorem Frame.execGwSinkReady (h : Frame L z s) {l} (hp : Covers L gwFormPieces := by exact hp.of rfl) : FrameOut L z (execGwSinkReady l s) :=
  .ite h.updGw.gwFormed.next h.next
theorem Frame.execGwFence (h : Frame L z s) (hp : Covers L [.regs] := by exact hp.of rfl) : FrameOut L z (execGwFence s) := h.set.next
theorem Frame.execGwFenceComplete (h : Frame L z s) (hp : Covers L eventPieces := by exact hp.of rfl) : FrameOut L z (execGwFenceComplete s) :=
  .ite h.set.raise.next h.next
theorem Frame.gwTaken (h : Frame L z s) {bytes} (hp : Covers L [.gw] := by exact hp.of rfl) : Frame L z (s.gwTaken bytes) := by
  unfold State.gwTaken
  dsimp only
  split
  · exact h.updGw
  · exact h
theorem Frame.gwEntered (h : Frame L z s) (hp : Covers L [.gw] := by exact hp.of rfl) : Frame L z s.gwEntered := by
  unfold State.gwEntered
  dsimp only
  split
  · exact h.updGw.gwTaken
  · exact h
theorem Frame.execFrameReceive (h : Frame L z s) {p rx}
    (hp : Covers L [.regs, .mem, .due, .evr, .esw, .crs, .gw, .core, .out, .free] := by exact hp.of rfl) : FrameOut L z (execFrameReceive p rx s) := by
  unfold Machine.execFrameReceive
  dsimp only
  refine .ite h.next <| .ite h.next <| .ite ?_ (.ite (.ite h.updGw.ethReceive.gwEntered.next h.next) h.ethReceive.next)
  split
  · exact h.updEsw.ethReceive.next
  · exact h.next
theorem Frame.execFrameTransmit (h : Frame L z s) {p}
    (hp : Covers L [.regs, .mem, .gtb, .due, .evr, .esw, .gw, .core, .out, .free] := by exact hp.of rfl) : FrameOut L z (execFrameTransmit p s) := by
  unfold Machine.execFrameTransmit
  dsimp only
  have h1 := h.ethEnds.ethSettle (p := p)
  refine .ite h.next ?_
  generalize s.ethEnds.ethSettle p = u at h1 ⊢
  exact .ite h1.ethSend.next h1.next
theorem Frame.putWord (h : Frame L z s) {a v} (hp : Covers L [.regs] := by exact hp.of rfl) : Frame L z (s.putWord a v) := by
  unfold State.putWord
  dsimp only
  split
  · exact h
  · exact h.fieldsWrite
theorem Frame.gwLayoutChange {old : State} (h : Frame L z s) (_h1 : Frame L z old) {l}
    (hp : Covers L [.regs, .gw] := by exact hp.of rfl) : Frame L z (s.gwLayoutChange old l) :=
  .ite h.gwFill <| .ite h.gwCancel h
theorem Frame.gwTableWrite (h : Frame L z s) {a v} (hp : Covers L [.regs, .gw] := by exact hp.of rfl) : Frame L z (s.gwTableWrite a v) := by
  unfold State.gwTableWrite
  dsimp only
  split
  · exact h.putWord
  · refine .ite ?_ h.updGw
    refine .ite ?_ ?_
    · exact .gwLayoutChange (.putWord (.each h fun _ ht => by split; exacts [ht.putWord.updGw, ht])) h
    · exact .putWord (.each h fun _ ht => by split; exacts [ht.putWord.updGw, ht])
theorem Frame.execTableEntryCommitWrite (h : Frame L z s) {addr value}
    (hp : Covers L [.regs, .gw] := by exact hp.of rfl) : FrameOut L z (execTableEntryCommitWrite addr value s) :=
  .ite h.gwTableWrite.next h.next
theorem Frame.gwReset (h : Frame L z s) (hp : Covers L [.regs, .held, .gw] := by exact hp.of rfl) : Frame L z s.gwReset :=
  .each h.restoreBlock.updGw fun _ ht => ht.gwFill

/-! ### Functions of Machine/Pcie -/

theorem Frame.pcieFlush (h : Frame L z s) (hp : Covers L [.pcie, .out] := by exact hp.of rfl) : Frame L z s.pcieFlush := by
  unfold State.pcieFlush
  dsimp only
  split
  · exact h
  · exact h.updPcie.emit
theorem Frame.pcieWrite (h : Frame L z s) {w id a bs} (hp : Covers L [.pcie, .out] := by exact hp.of rfl) : Frame L z (s.pcieWrite w id a bs) := by
  unfold State.pcieWrite
  dsimp only
  refine .ite ?_ (.each h.pcieFlush fun _ ht => ht.emit)
  split
  · exact h.updPcie
  · exact h.pcieFlush.updPcie
theorem Frame.pcieUnmapped (h : Frame L z s) {r acc a} (hp : Covers L eventPieces := by exact hp.of rfl) : Frame L z (s.pcieUnmapped r acc a) := h.refuse.emit
theorem Frame.pcieOut (h : Frame L z s) {r vi acc a size value}
    (hp : Covers L pcieEventPieces := by exact hp.of rfl) : Frame L z (s.pcieOut r vi acc a size value) := by
  unfold State.pcieOut
  dsimp only
  split
  · exact h.pcieUnmapped
  · refine .ite h.emit <| .ite (.ite h.emit h.emit) <| .ite h.pcieWrite.emit <| .ite h ?_
    split
    · exact h
    · exact .ite h.pcieFlush.updPcie.emit (.each h.pcieFlush.updPcie fun _ ht => ht.emit)
theorem Frame.pcieDone (h : Frame L z s) {tag} (hp : Covers L [.pcie] := by exact hp.of rfl) : Frame L z (s.pcieDone tag) := h.updPcie
theorem Frame.pcieComplete (h : Frame L z s) {q status bytes}
    (hp : Covers L pcieEventPieces := by exact hp.of rfl) : Frame L z (s.pcieComplete q status bytes) :=
  .ite h.pcieDone.emit <| .ite h.pcieDone.emit h.pcieDone.emit.raiseSum
theorem Frame.pcieDown (h : Frame L z s) (hp : Covers L pcieEventPieces := by exact hp.of rfl) : Frame L z s.pcieDown :=
  .raiseC <| .inc <| .set <| .set <| .set <| .updPcie <| .each h fun _ ht => ht.emit
theorem Frame.execPcieOutboundRequest (h : Frame L z s) {r acc addr size value}
    (hp : Covers L pcieEventPieces := by exact hp.of rfl) : FrameOut L z (execPcieOutboundRequest r acc addr size value s) :=
  h.pcieOut.next
theorem Frame.perstDrive (h : Frame L z s) {v} (hp : Covers L [.pow, .out] := by exact hp.of rfl) : Frame L z (s.perstDrive v) := .ite h.updPow.emit h
theorem Frame.execPcieLinkUp (h : Frame L z s) {gen width ltssm}
    (hp : Covers L powEventPieces := by exact hp.of rfl) : FrameOut L z (execPcieLinkUp gen width ltssm s) :=
  .ite h.next h.perstDrive.set.set.set.set.raiseC.next
theorem Frame.execPcieVfEnable (h : Frame L z s) {en num}
    (hp : Covers L eventPieces := by exact hp.of rfl) : FrameOut L z (execPcieVfEnable en num s) := h.set.set.raise.next
theorem Frame.pcieRetrain (h : Frame L z s) (hp : Covers L eventPieces := by exact hp.of rfl) : Frame L z s.pcieRetrain := .ite h.inc.raiseC h
theorem Frame.pciePfirq (h : Frame L z s) {v} (hp : Covers L [.out] := by exact hp.of rfl) : Frame L z (s.pciePfirq v) := .each h fun _ ht => ht.emit
theorem Frame.execPcieRetrain (h : Frame L z s) (hp : Covers L eventPieces := by exact hp.of rfl) : FrameOut L z (execPcieRetrain s) := h.pcieRetrain.next
theorem Frame.execPciePfMsix (h : Frame L z s) {vectors} (hp : Covers L [.out] := by exact hp.of rfl) : FrameOut L z (execPciePfMsix vectors s) :=
  h.pciePfirq.next

end Sys2Proof.Machine
end

section
/-! PROOFS. What a command leaves unchanged, part 6 of 10: supply channels, the VIM, power and regions. -/

namespace Sys2Proof.Machine
open Sys2Proof
set_option Elab.async false

variable {L : List Piece} {z s t : State} {r : EthRun}

/-! ### Functions of Machine/Psc -/

theorem Frame.dset (h : Frame L z s) {f v} (hp : Covers L [.psc] := by exact hp.of rfl) : Frame L z (s.dset f v) := h.updPsc
theorem Frame.chUpd (h : Frame L z s) {n g} (hp : Covers L [.psc] := by exact hp.of rfl) : Frame L z (s.chUpd n g) := h.updPsc
theorem Frame.dieUpd (h : Frame L z s) {f g} (hp : Covers L [.psc] := by exact hp.of rfl) : Frame L z (s.dieUpd f g) := h.updPsc
theorem Frame.pscStep (h : Frame L z s) {f rank} (hp : Covers L [.psc] := by exact hp.of rfl) : Frame L z (s.pscStep f rank) := h.dieUpd
theorem Frame.pscForward (h : Frame L z s) {n} (hp : Covers L [.psc] := by exact hp.of rfl) : Frame L z (s.pscForward n) :=
  .chUpd (.also (.each h fun _ ht => ht.dset) fun hs => hs.chUpd)
theorem Frame.pscShow (h : Frame L z s) {n} (hp : Covers L [.regs, .psc] := by exact hp.of rfl) : Frame L z (s.pscShow n) :=
  .ite h <| .set <| .set <| .set <| .set <| .set <| .set <| .chUpd <| .each h.set.set.set.set.set fun _ ht => .ite ht.set ht
theorem Frame.pscRaise (h : Frame L z s) {n cause} (hp : Covers L eventPieces := by exact hp.of rfl) : Frame L z (s.pscRaise n cause) := h.raise
theorem Frame.pscEvent (h : Frame L z s) {n cause} (hp : Covers L pscEventPieces := by exact hp.of rfl) : Frame L z (s.pscEvent n cause) :=
  .ite (.ite h.chUpd h) h.pscShow.pscRaise
theorem Frame.dieRaise (h : Frame L z s) {f cause v} (hp : Covers L eventPieces := by exact hp.of rfl) : Frame L z (s.dieRaise f cause v) := h.raise
theorem Frame.dieShow (h : Frame L z s) {f} (hp : Covers L [.regs, .psc] := by exact hp.of rfl) : Frame L z (s.dieShow f) :=
  .ite h (.also (.each (.each h.set.set fun _ ht => ht.set) fun _ ht => ht.set.set) fun hs => hs.set.dieUpd)
theorem Frame.dieEvent (h : Frame L z s) {f cause v} (hp : Covers L pscEventPieces := by exact hp.of rfl) : Frame L z (s.dieEvent f cause v) :=
  .ite h h.dieShow.dieRaise
theorem Frame.pscTo (h : Frame L z s) {n st window} (hp : Covers L [.regs, .psc] := by exact hp.of rfl) : Frame L z (s.pscTo n st window) := h.chUpd.pscShow
theorem Frame.pscFlag (h : Frame L z s) {n bit} (hp : Covers L [.psc] := by exact hp.of rfl) : Frame L z (s.pscFlag n bit) := h.chUpd
theorem Frame.pscTrip (h : Frame L z s) {n cause} (hp : Covers L pscEventPieces := by exact hp.of rfl) : Frame L z (s.pscTrip n cause) :=
  .ite h <| .ite h.pscFlag.chUpd.chUpd.pscTo.pscEvent h.pscFlag.chUpd.pscTo.pscEvent.pscEvent
theorem Frame.pscLatch (h : Frame L z s) {n cause} (hp : Covers L pscEventPieces := by exact hp.of rfl) : Frame L z (s.pscLatch n cause) :=
  h.pscFlag.chUpd.pscTo.pscEvent
theorem Frame.pscRefuse (h : Frame L z s) {n} (hp : Covers L eventPieces := by exact hp.of rfl) : Frame L z (s.pscRefuse n) := h.set.pscRaise
theorem Frame.pscCommand (h : Frame L z s) {n op r vi} (hp : Covers L pscEventPieces := by exact hp.of rfl) : Frame L z (s.pscCommand n op r vi).1 :=
  .iteFst h <| .iteFst h.refuse.pscRefuse <| .iteFst h.set <| .iteFst h.pscRefuse h.updPsc.set
theorem Frame.pscCheck (h : Frame L z s) {n v} (hp : Covers L pscEventPieces := by exact hp.of rfl) : Frame L z (s.pscCheck n v) :=
  .ite h.pscFlag.chUpd.pscEvent h.chUpd
theorem Frame.pscApply {s0 : State} (h : Frame L z s0) {n op} (hp : Covers L pscEventPieces := by exact hp.of rfl) : Frame L z (s0.pscApply n op) := by
  unfold State.pscApply
  dsimp only
  split
  · exact .ite h.chUpd.pscTo <| .ite h.chUpd.pscTo <| .ite h.chUpd.chUpd <| .ite h.chUpd h.chUpd.pscRefuse
  · exact .ite h.chUpd h.chUpd.pscTo
  · exact .ite h.chUpd.pscTo <| .ite h.chUpd.pscTo <| .ite h.chUpd.chUpd <| .ite h.chUpd h.chUpd.pscRefuse
  · exact .ite (.ite h.chUpd.pscRefuse h.chUpd.pscTo) h.chUpd
  · exact .ite (.ite h.chUpd h.chUpd.pscCheck) h.chUpd.pscRefuse
theorem Frame.execPscCommandApply (h : Frame L z s) {f crcOk other}
    (hp : Covers L pscEventPieces := by exact hp.of rfl) : FrameOut L z (execPscCommandApply f crcOk other s) := by
  unfold Machine.execPscCommandApply
  dsimp only
  refine .ite h.next ?_
  split
  · exact .ite h.pscStep.pscApply.next h.next
  · split
    · exact h.next
    · exact .ite h.next <| .ite h.inc.next <| .ite h.next h.updPsc.pscStep.pscApply.next
theorem Frame.pscPop (h : Frame L z s) {f} (hp : Covers L [.regs, .psc] := by exact hp.of rfl) : Frame L z (s.pscPop f) := by
  unfold State.pscPop
  dsimp only
  split
  · exact h
  · exact h.updPsc.set
theorem Frame.pscFail (h : Frame L z s) {f} (hp : Covers L pscEventPieces := by exact hp.of rfl) : Frame L z (s.pscFail f) := by
  unfold State.pscFail
  dsimp only
  split
  · exact h
  · exact h.pscPop.set.inc.pscRaise.dieRaise
theorem Frame.execPscAckReceive (h : Frame L z s) {f crcOk}
    (hp : Covers L [.regs, .psc] := by exact hp.of rfl) : FrameOut L z (execPscAckReceive f crcOk s) := by
  unfold Machine.execPscAckReceive
  refine .ite h.next ?_
  split
  · exact h.next
  · exact .ite h.next <| .ite h.inc.next h.pscPop.next
theorem Frame.execPscAckTimeout (h : Frame L z s) {f} (hp : Covers L pscEventPieces := by exact hp.of rfl) : FrameOut L z (execPscAckTimeout f s) := by
  unfold Machine.execPscAckTimeout
  dsimp only
  refine .ite h.next ?_
  split
  · exact h.next
  · exact .ite h.updPsc.inc.next h.pscFail.next
theorem Frame.roomSee (h : Frame L z s) {f ms} (hp : Covers L [.psc] := by exact hp.of rfl) : Frame L z (s.roomSee f ms) := by
  unfold State.roomSee
  split
  · exact h.dieUpd
  · exact .ite h.dieUpd <| .ite h h.dieUpd
theorem Frame.execPscSample (h : Frame L z s) {m} (hp : Covers L [.regs, .psc] := by exact hp.of rfl) : FrameOut L z (execPscSample m s) := by
  unfold Machine.execPscSample
  dsimp only
  refine .ite h.next ?_
  split
  · exact .ite h.chUpd.next h.chUpd.addWrap.set.set.next
  · exact .ite h.chUpd.next h.chUpd.setS.next
  · exact .ite h.chUpd.next h.chUpd.set.next
  · exact .ite h.updPsc.dieUpd.dieShow.roomSee.next h.updPsc.dieUpd.dieShow.roomSee.setS.next
  · exact .ite h.dieUpd.dieShow.roomSee.next h.dieUpd.dieShow.roomSee.set.set.next
  · exact .ite h.next h.inc.next
theorem Frame.execPscRangeSwitch (h : Frame L z s) {n} (hp : Covers L [.regs, .psc] := by exact hp.of rfl) : FrameOut L z (execPscRangeSwitch n s) :=
  .ite h.next h.chUpd.pscShow.next
theorem Frame.execPscRecordWrite (h : Frame L z s) {parity}
    (hp : Covers L eventPieces := by exact hp.of rfl) : FrameOut L z (execPscRecordWrite parity s) :=
  .ite h.next <| .ite h.fabWrite.set.next h.fabWrite.set.dieRaise.next
theorem Frame.execOffstateCheckStart (h : Frame L z s) {n periodic v}
    (hp : Covers L pscEventPieces := by exact hp.of rfl) : FrameOut L z (execOffstateCheckStart n periodic v s) :=
  .ite h.next <| .ite h.pscCheck.next h.next
theorem Frame.execOffstateCheckSettled (h : Frame L z s) {n v}
    (hp : Covers L pscEventPieces := by exact hp.of rfl) : FrameOut L z (execOffstateCheckSettled n v s) :=
  .ite h.next <| .ite h.next <| .ite h.chUpd.pscFlag.chUpd.pscEvent.next h.chUpd.next
theorem Frame.execOnstateOpenLoad (h : Frame L z s) {n largest}
    (hp : Covers L pscEventPieces := by exact hp.of rfl) : FrameOut L z (execOnstateOpenLoad n largest s) :=
  .ite h.next <| .ite h.pscFlag.chUpd.pscEvent.next h.next
theorem Frame.execPscOvercurrent (h : Frame L z s) {n samples}
    (hp : Covers L pscEventPieces := by exact hp.of rfl) : FrameOut L z (execPscOvercurrent n samples s) :=
  .ite h.next <| .ite h.pscStep.pscTrip.next h.next
theorem Frame.execPscShortCircuit (h : Frame L z s) {n}
    (hp : Covers L pscEventPieces := by exact hp.of rfl) : FrameOut L z (execPscShortCircuit n s) :=
  .ite h.next <| .ite h.pscStep.chUpd.pscShow.next h.pscStep.pscTrip.next
theorem Frame.execPscGroupOvertemp (h : Frame L z s) {g t}
    (hp : Covers L pscEventPieces := by exact hp.of rfl) : FrameOut L z (execPscGroupOvertemp g t s) :=
  .ite h.next <| .ite h.next (.next (.each h.updPsc.pscStep.dieUpd.dieShow fun _ ht => ht.pscTrip))
theorem Frame.execI2tUpdate (h : Frame L z s) {n sumSq}
    (hp : Covers L pscEventPieces := by exact hp.of rfl) : FrameOut L z (execI2tUpdate n sumSq s) := by
  unfold Machine.execI2tUpdate
  dsimp only
  refine .ite h.next ?_
  split
  · exact h.chUpd.pscShow.next
  · exact .ite (.next (.pscLatch (.pscStep (.also h.chUpd.pscShow.chUpd.pscShow fun hs => hs.pscFlag.pscEvent)))) (.next
      (.also h.chUpd.pscShow.chUpd.pscShow fun hs => hs.pscFlag.pscEvent))
theorem Frame.execPscRetryDue (h : Frame L z s) {n} (hp : Covers L [.regs, .psc] := by exact hp.of rfl) : FrameOut L z (execPscRetryDue n s) :=
  .ite h.next <| .ite h.pscStep.chUpd.pscTo.next h.next
theorem Frame.execPscRetryRestore (h : Frame L z s) {n}
    (hp : Covers L [.regs, .psc] := by exact hp.of rfl) : FrameOut L z (execPscRetryRestore n s) := .ite h.next <| .ite h.chUpd.pscShow.next h.next
theorem Frame.execPscClampEvent (h : Frame L z s) {n} (hp : Covers L pscEventPieces := by exact hp.of rfl) : FrameOut L z (execPscClampEvent n s) :=
  .ite h.next <| .ite h.pscFlag.chUpd.pscShow.pscStep.pscLatch.next h.pscFlag.chUpd.pscShow.next
theorem Frame.execPscPwmPeriod (h : Frame L z s) {n off} (hp : Covers L [.psc] := by exact hp.of rfl) : FrameOut L z (execPscPwmPeriod n off s) :=
  .ite h.next <| .ite h.next <| .ite (.ite h.chUpd.next h.next) h.chUpd.next
theorem Frame.shedAgain (h : Frame L z s) {f hot} (hp : Covers L [.psc] := by exact hp.of rfl) : Frame L z (s.shedAgain f hot) := h.dieUpd
theorem Frame.execPscShed (h : Frame L z s) {f hot} (hp : Covers L pscEventPieces := by exact hp.of rfl) : FrameOut L z (execPscShed f hot s) := by
  unfold Machine.execPscShed
  dsimp only
  refine .ite h.next <| .ite h.next ?_
  split
  · exact .next <| .pscEvent <| .pscTo <| .chUpd <| by split; exacts [.unless h.pscStep.shedAgain fun hs => hs.dieUpd.dieEvent, h.pscStep.shedAgain]
  · exact .next <| .dieEvent <| .dieUpd <| by split; exacts [.unless h.pscStep.shedAgain fun hs => hs.dieUpd.dieEvent, h.pscStep.shedAgain]
theorem Frame.execPscRestore (h : Frame L z s) {f} (hp : Covers L pscEventPieces := by exact hp.of rfl) : FrameOut L z (execPscRestore f s) := by
  unfold Machine.execPscRestore
  dsimp only
  refine .ite h.next ?_
  split
  · exact h.next
  · exact .ite h.pscStep.dieUpd.pscTo.pscEvent.next h.next
theorem Frame.holdLeave (h : Frame L z s) {f} (hp : Covers L pscEventPieces := by exact hp.of rfl) : Frame L z (s.holdLeave f) :=
  .each (.each (.dieRaise (.dieRaise (.dieShow (.each h.dieUpd.set.set.set fun _ ht => ht.set.pscShow)))) fun _ ht => .ite ht.chUpd.pscRaise ht) fun _ ht =>
    ht.pscFail
theorem Frame.execCommandLinkHeartbeat (h : Frame L z s) {f valid other}
    (hp : Covers L pscEventPieces := by exact hp.of rfl) : FrameOut L z (execCommandLinkHeartbeat f valid other s) :=
  .ite h.next <| .ite (.next (.ite h h.emit)) <| .ite (.next (.holdLeave (.ite h h.emit))) <| .next <| .set <| .ite h h.emit
theorem Frame.execPowerDieHoldEnter (h : Frame L z s) {f}
    (hp : Covers L [.regs, .psc] := by exact hp.of rfl) : FrameOut L z (execPowerDieHoldEnter f s) :=
  .ite h.next <| .ite h.next (.next (.each (.each h.dieUpd.set.set fun _ ht => ht.set) fun _ ht => ht.chUpd))
theorem Frame.execPowerDieHoldLeave (h : Frame L z s) {f}
    (hp : Covers L pscEventPieces := by exact hp.of rfl) : FrameOut L z (execPowerDieHoldLeave f s) := .ite h.next <| .ite h.holdLeave.next h.next
theorem Frame.mirrorWrite (h : Frame L z s) {f} (hp : Covers L [.psc] := by exact hp.of rfl) : Frame L z (s.mirrorWrite f) :=
  .dieUpd (.each (.each h fun _ ht => ht.dset) fun _ ht => .ite ht.chUpd ht)
theorem Frame.restartShow (h : Frame L z s) {f} (hp : Covers L pscEventPieces := by exact hp.of rfl) : Frame L z (s.restartShow f) :=
  .ite h.dieUpd.set.dieRaise h
theorem Frame.mirrorLoad (h : Frame L z s) {f} (hp : Covers L pscEventPieces := by exact hp.of rfl) : Frame L z (s.mirrorLoad f) :=
  .ite h.dieUpd <| .restartShow <| .dieShow <| .each (.set (.dieUpd (.ite (.each h fun _ ht => ht.set) h.mirrorWrite))) fun _ ht => ht.pscShow
theorem Frame.execPscMirrorLoad (h : Frame L z s) {f} (hp : Covers L pscEventPieces := by exact hp.of rfl) : FrameOut L z (execPscMirrorLoad f s) :=
  .ite h.next <| .ite h.mirrorLoad.next h.next
theorem Frame.execFeedPowerOnReset (h : Frame L z s) {f}
    (hp : Covers L [.regs, .psc] := by exact hp.of rfl) : FrameOut L z (execFeedPowerOnReset f s) :=
  .ite h.next (.next (.each (.set (.dieUpd (.each h.pscStep fun _ ht => ht.dset))) fun _ ht => ht.chUpd.pscShow))
theorem Frame.execFeedRestart (h : Frame L z s) {f} (hp : Covers L pscEventPieces := by exact hp.of rfl) : FrameOut L z (execFeedRestart f s) :=
  .ite h.next <| .ite h.next <| .ite h.dieUpd.mirrorLoad.next h.dieUpd.next
theorem Frame.vpwrShow (h : Frame L z s) {f vpwr} (hp : Covers L [.regs] := by exact hp.of rfl) : Frame L z (s.vpwrShow f vpwr) := .ite h h.set
theorem Frame.execFeedUndervoltage (h : Frame L z s) {f vpwr}
    (hp : Covers L pscEventPieces := by exact hp.of rfl) : FrameOut L z (execFeedUndervoltage f vpwr s) :=
  .ite h.next <| .ite h.next <| .ite h.dieUpd.dieShow.vpwrShow.next h.dieUpd.dieShow.vpwrShow.dieEvent.next
theorem Frame.execFeedOvervoltage (h : Frame L z s) {f vpwr}
    (hp : Covers L pscEventPieces := by exact hp.of rfl) : FrameOut L z (execFeedOvervoltage f vpwr s) :=
  .ite h.next <| .ite h.next <| .ite h.dieUpd.dieShow.vpwrShow.next h.dieUpd.dieShow.vpwrShow.dieEvent.next
theorem Frame.pscWrite (h : Frame L z s) {a} (hp : Covers L [.psc] := by exact hp.of rfl) : Frame L z (pscWrite a s) :=
  .ite (.ite h.pscForward h) <| .ite (.each h fun _ ht => .ite (.each ht fun _ hu => hu.dset) ht) <| .ite (.ite (.each h fun _ ht => ht.dset) h) h
theorem Frame.pscBefore (h : Frame L z s) {a} (hp : Covers L [.regs] := by exact hp.of rfl) : Frame L z (pscBefore a s) := .ite h.set h
theorem Frame.pscAfter (h : Frame L z s) {a} (hp : Covers L [.psc] := by exact hp.of rfl) : Frame L z (pscAfter a s) := .ite h.chUpd h

/-! ### Functions of Machine/Vim -/

theorem Frame.viUpd (h : Frame L z s) {i g} (hp : Covers L [.vi] := by exact hp.of rfl) : Frame L z (s.viUpd i g) := h.updVi
theorem Frame.viEvent (h : Frame L z s) {i cause value} (hp : Covers L eventPieces := by exact hp.of rfl) : Frame L z (s.viEvent i cause value) := h.raise
theorem Frame.viShow (h : Frame L z s) {i} (hp : Covers L [.regs] := by exact hp.of rfl) : Frame L z (s.viShow i) :=
  .each (.each (.each h.set.set.set.set.set fun _ ht => ht.set.set) fun _ ht => ht.set) fun _ ht => ht.set
theorem Frame.genNext (h : Frame L z s) {i}
    (hp : Covers L [.regs, .mem, .due, .evr, .core, .vi, .cmp, .out] := by exact hp.of rfl) : Frame L z (s.genNext i) := h.set.set.viUpd.mbxGenGone
theorem Frame.viStale (h : Frame L z s) {i} (hp : Covers L eventPieces := by exact hp.of rfl) : Frame L z (s.viStale i) :=
  .ite h.inc.updEvr.viEvent h.inc.updEvr
theorem Frame.viMark (h : Frame L z s) {i kind slot b} (hp : Covers L [.regs] := by exact hp.of rfl) : Frame L z (s.viMark i kind slot b) := by
  unfold State.viMark
  split
  · exact h.setBit
  · exact h.setBit
  · exact h.set
  · exact h.set
  · exact h.set
  · exact h
theorem Frame.viOwn (h : Frame L z s) {i kind slot mode} (hp : Covers L [.regs] := by exact hp.of rfl) : Frame L z (s.viOwn i kind slot mode) := by
  unfold State.viOwn
  split
  · exact .each h fun _ ht => ht.set.set
  · exact .each h fun _ ht => ht.set.set
  · exact h
theorem Frame.viCanAbort (h : Frame L z s) {i k clear} (hp : Covers L canEventPieces := by exact hp.of rfl) : Frame L z (s.viCanAbort i k clear) :=
  .each h fun _ ht => .also (.ite ht.canAbort ht) fun hs => hs.canFull.set
theorem Frame.viRoutesOff (h : Frame L z s) {i} (hp : Covers L [.regs] := by exact hp.of rfl) : Frame L z (s.viRoutesOff i) := .each h fun _ ht => ht.set
theorem Frame.viTgZero (h : Frame L z s) {i} (hp : Covers L [.mem, .core] := by exact hp.of rfl) : Frame L z (s.viTgZero i) := .each h fun _ ht => ht.zero.zero
theorem Frame.viTake (h : Frame L z s) {i kind slot} (hp : Covers L [.regs] := by exact hp.of rfl) : Frame L z (s.viTake i kind slot) :=
  .viMark (.viOwn (.ite (.each h fun _ ht => ht.set) h))
theorem Frame.viRestore (h : Frame L z s) {i} (hp : Covers L [.regs, .held, .mem, .core] := by exact hp.of rfl) : Frame L z (s.viRestore i) :=
  h.restore.unhold.zero
theorem Frame.vimErr (h : Frame L z s) {c} (hp : Covers L [.regs] := by exact hp.of rfl) : Frame L z (s.vimErr c) := h.set.set.set
theorem Frame.vimDone (h : Frame L z s) {abandoned} (hp : Covers L [.regs] := by exact hp.of rfl) : Frame L z (s.vimDone abandoned) := h.set.set.set
theorem Frame.fnBind (h : Frame L z s) {i on} (hp : Covers L [.regs] := by exact hp.of rfl) : Frame L z (s.fnBind i on) := .ite h <| .ite h.set.set h.set
theorem Frame.viResetBegin (h : Frame L z s) {i} (hp : Covers L viStopPieces := by exact hp.of rfl) : Frame L z (s.viResetBegin i) :=
  .viUpd (.also (.each h.genNext.viGoto fun _ ht => ht.viCanAbort) fun hs => hs.viRoutesOff)
theorem Frame.viFault (h : Frame L z s) {i code} (hp : Covers L viStopPieces := by exact hp.of rfl) : Frame L z (s.viFault i code) :=
  .also h.viFaultMark fun hs => hs.viResetBegin
theorem Frame.viResetNow (h : Frame L z s) {i} (hp : Covers L viStopPieces := by exact hp.of rfl) : Frame L z (s.viResetNow i) :=
  .ite (.ite h.viResetBegin h.viUpd) h
theorem Frame.viReset (h : Frame L z s) {i} (hp : Covers L viStopPieces := by exact hp.of rfl) : Frame L z (s.viReset i) := .ite h <| .ite h.viUpd h.viResetNow
theorem Frame.vimGen (h : Frame L z s) {i op} (hp : Covers L viMovePieces := by exact hp.of rfl) : Frame L z (s.vimGen i op) := by
  unfold State.vimGen
  extract_lets s0 s1 s2 all cans t1 t2 t3 t4 t5
  have hs2 : Frame L z s2 := h.viUpd.fnBind.genNext.set.set
  have ht2 : Frame L z t2 := .also (.each h.viUpd fun _ ht => .zero (.each ht.viCanAbort fun _ hu => hu.restoreBlock)) fun hs => hs.viRoutesOff
  have ht3 : Frame L z t3 := .each ht2.viTgZero fun _ ht => ht.viTake
  have ht5 : Frame L z t5 := ht3.genNext.fnBind.viRestore.updVi
  exact .ite h.viUpd.genNext.viRestore.fnBind.set.viGoto.viShow.vimDone <| .ite hs2.fnBind.set.vimDone <| .ite ht5.viGoto.set.viShow.vimDone h.viUpd
theorem Frame.vimTaken (h : Frame L z s) {i op kind slot}
    (hp : Covers L [.regs, .vimStart] := by exact hp.of rfl) : Frame L z (s.vimTaken i op kind slot) := h.set.set.set.set.set.updVimStart
theorem Frame.vimRun (h : Frame L z s) {i op kind slot} (hp : Covers L viMovePieces := by exact hp.of rfl) : Frame L z (s.vimRun i op kind slot) := by
  unfold State.vimRun
  dsimp only
  refine .ite h.vimErr ?_
  split
  · exact .ite h.vimErr <| .ite h.vimErr <| .ite h.vimGen h.viUpd
  · exact .ite h.vimErr <| .ite h.vimErr h.viOwn.viMark.viShow.vimDone
  · exact .ite h.vimErr <| .ite h.vimErr h.viUpd
  · exact .ite h.vimErr h.viGoto
  · exact .ite h.vimErr h.viGoto.viUpd.vimDone
  · exact .ite h.vimErr h.viResetNow
  · exact .ite h.vimErr <| .ite h.vimErr <| .ite h.vimGen h.viUpd
  · exact .ite h.vimErr <| .ite h.vimGen h.viUpd
  · exact h.vimErr
theorem Frame.vimTry (h : Frame L z s) {i op kind slot} (hp : Covers L viMovePieces := by exact hp.of rfl) : Frame L z (s.vimTry i op kind slot) :=
  .ite h.viUpd h.vimRun
theorem Frame.vimCmd (h : Frame L z s) {i op kind slot} (hp : Covers L vimPieces := by exact hp.of rfl) : Frame L z (s.vimCmd i op kind slot) :=
  .ite h.set.set h.vimTaken.vimTry
theorem Frame.viServe (h : Frame L z s) {n i} (hp : Covers L viMovePieces := by exact hp.of rfl) : Frame L z (State.viServe n s i) := by
  induction n generalizing s with
  | zero => exact h
  | succ n ih =>
    unfold State.viServe
    refine .ite h ?_
    split
    · exact h
    · exact ih (.ite h.viUpd.vimRun h.viUpd.viResetNow)
theorem Frame.viServeAll (h : Frame L z s) {i} (hp : Covers L viMovePieces := by exact hp.of rfl) : Frame L z (s.viServeAll i) := h.viServe
theorem Frame.execVimCreate (h : Frame L z s) {i} (hp : Covers L vimPieces := by exact hp.of rfl) : FrameOut L z (execVimCreate i s) := h.vimCmd.next
theorem Frame.execVimAttach (h : Frame L z s) {i kind slot}
    (hp : Covers L vimPieces := by exact hp.of rfl) : FrameOut L z (execVimAttach i kind slot s) := h.vimCmd.next
theorem Frame.execVimDetach (h : Frame L z s) {i kind slot}
    (hp : Covers L vimPieces := by exact hp.of rfl) : FrameOut L z (execVimDetach i kind slot s) := h.vimCmd.next
theorem Frame.execVimQuiesce (h : Frame L z s) {i} (hp : Covers L vimPieces := by exact hp.of rfl) : FrameOut L z (execVimQuiesce i s) := h.vimCmd.next
theorem Frame.execVimResume (h : Frame L z s) {i} (hp : Covers L vimPieces := by exact hp.of rfl) : FrameOut L z (execVimResume i s) := h.vimCmd.next
theorem Frame.execVimReset (h : Frame L z s) {i} (hp : Covers L vimPieces := by exact hp.of rfl) : FrameOut L z (execVimReset i s) := h.vimCmd.next
theorem Frame.execVimMigrate (h : Frame L z s) {i bind fn}
    (hp : Covers L vimPieces := by exact hp.of rfl) : FrameOut L z (execVimMigrate i bind fn s) := .ite h.set.set.next h.set.set.vimCmd.next
theorem Frame.execVimTakedown (h : Frame L z s) {i} (hp : Covers L vimPieces := by exact hp.of rfl) : FrameOut L z (execVimTakedown i s) := h.vimCmd.next
theorem Frame.execVimGenChangeDue (h : Frame L z s) {i} (hp : Covers L viMovePieces := by exact hp.of rfl) : FrameOut L z (execVimGenChangeDue i s) := by
  unfold Machine.execVimGenChangeDue
  split
  · exact h.next
  · exact .ite h.next <| .ite h.viResetBegin.next h.vimGen.viServeAll.next
theorem Frame.execViTenantReset (h : Frame L z s) {i} (hp : Covers L viStopPieces := by exact hp.of rfl) : FrameOut L z (execViTenantReset i s) :=
  .ite h.next h.viReset.next
theorem Frame.execViResetComplete (h : Frame L z s) {i}
    (hp : Covers L [.regs, .held, .mem, .due, .evr, .conv, .tg, .can, .core, .vi, .cmp, .out] := by exact hp.of rfl) :
    FrameOut L z (execViResetComplete i s) := by
  unfold Machine.execViResetComplete
  dsimp only
  refine .ite h.next <| .next <| .viServeAll <|
    .also (.viEvent <| .viShow <| .viGoto <| .addWrap <| .inc <| .viRestore ?_) fun hs => hs.vimDone
  split
  · exact h
  · exact .tgReset <| .viTgZero <| List.foldlRecOn _ _ h fun _ ht _ _ => ht.pwmTrip
theorem Frame.execVimQuiesceComplete (h : Frame L z s) {i expired}
    (hp : Covers L viMovePieces := by exact hp.of rfl) : FrameOut L z (execVimQuiesceComplete i expired s) := by
  unfold Machine.execVimQuiesceComplete
  dsimp only
  refine .ite h.next <| .ite h.next <| .next <| .viServeAll <| .viEvent <| .vimDone ?_
  have h2 {cans : List (Nat × Nat)} {f} : Frame L z ((s.each cans fun t p => t.viCanAbort i p.2 false).viUpd i f) :=
    .viUpd (.each h fun _ ht => ht.viCanAbort)
  split
  · exact h2.viTake.viShow.viUpd
  · exact h2.viGoto
theorem Frame.viRefill (h : Frame L z s) {i} (hp : Covers L [.vi] := by exact hp.of rfl) : Frame L z (s.viRefill i) := h.viUpd
theorem Frame.viTokens {i n} (e : s.viTokens i n = some t) (h : Frame L z s) (hp : Covers L [.vi] := by exact hp.of rfl) : Frame L z t := by
  unfold State.viTokens at e
  dsimp only at e
  split at e <;> cases e
  exact h.viRefill.viUpd
theorem Frame.viInbound (h : Frame L z s) {i n} (hp : Covers L [.vi] := by exact hp.of rfl) : Frame L z (s.viInbound i n) := h.viRefill.viUpd
theorem Frame.viWait (h : Frame L z s) {i} (hp : Covers L [.regs, .vi] := by exact hp.of rfl) : Frame L z (s.viWait i) := .ite h h.inc.viUpd
theorem Frame.viRead (h : Frame L z s) {i p a n} (hp : Covers L pcieEventPieces := by exact hp.of rfl) : Frame L z (s.viRead i p a n).1 := by
  unfold State.viRead
  dsimp only
  split
  · next e =>
      exact .checkReq e h
  · refine .iteFst ?_ (.iteFst h h)
    split
    · exact h
    · exact .iteFst h.pcieOut h.pcieOut
theorem Frame.viWrite (h : Frame L z s) {i p a bs} (hp : Covers L pcieEventPieces := by exact hp.of rfl) : Frame L z (s.viWrite i p a bs).1 := by
  unfold State.viWrite
  dsimp only
  split
  · next e =>
      exact .checkReq e h
  · exact .iteFst h.pcieOut <| .iteFst h.setBytes h
theorem Frame.viDrop (h : Frame L z s) {i o} (hp : Covers L [.vi] := by exact hp.of rfl) : Frame L z (s.viDrop i o) := h.viUpd
theorem Frame.viPush (h : Frame L z s) {i o} (hp : Covers L [.vi] := by exact hp.of rfl) : Frame L z (s.viPush i o) := h.viUpd
theorem Frame.viBack (h : Frame L z s) {i o stamp status len}
    (hp : Covers L [.regs, .mem, .due, .evr, .can, .pcie, .core, .vi, .cmp, .out] := by exact hp.of rfl) : Frame L z (s.viBack i o stamp status len) := by
  unfold State.viBack
  dsimp only
  refine .ite h.viFault ?_
  split
  · exact h.viWait.viPush
  · next e =>
      exact .ite (.viFault (.viWrite (.viTokens e h))) (.also (.also (.also
          (.viWrite (.viTokens e h)) fun hs => hs.inc) fun hs => hs.set) fun hs => hs.viNote)
theorem Frame.viBad (h : Frame L z s) {i o code}
    (hp : Covers L [.regs, .mem, .due, .evr, .can, .pcie, .core, .vi, .cmp, .out] := by exact hp.of rfl) : Frame L z (s.viBad i o code) :=
  .ite h.viBack.viFault h.viFault
theorem Frame.viSend (h : Frame L z s) {i o bs} (hp : Covers L viFramePieces := by exact hp.of rfl) : Frame L z (s.viSend i o bs) :=
  .ite h.inc.viBack <| .ite h <| .ite h.ethReceive.viUpd.viPush h.ethReceive.viUpd.viBack
theorem Frame.viEntered (h : Frame L z s) {i}
    (hp : Covers L [.regs, .mem, .due, .evr, .can, .pcie, .core, .vi, .cmp, .out] := by exact hp.of rfl) : Frame L z (s.viEntered i) :=
  .each h fun _ ht => .ite ht.viDrop.viStale ht.viDrop.viBack
theorem Frame.execInternalIngressResume (h : Frame L z s) {p}
    (hp : Covers L [.regs, .mem, .due, .evr, .esw, .can, .crs, .gw, .pcie, .core, .vi, .cmp, .out, .free] := by exact hp.of rfl) :
    FrameOut L z (execInternalIngressResume p s) :=
  .next <| .crsFlush <| .gwEntered <| .each (by split; exacts [h.ethFinish, h]) fun _ ht => ht.viEntered
theorem Frame.viFill (h : Frame L z s) {i o}
    (hp : Covers L [.regs, .mem, .due, .evr, .can, .pcie, .core, .vi, .cmp, .out] := by exact hp.of rfl) : Frame L z (s.viFill i o) := by
  unfold State.viFill
  dsimp only
  refine .ite h.viBack <| .ite h.viBad ?_
  split
  · exact h.viWait.viPush
  · next e =>
      exact .ite (.viBack (.viWrite (.viTokens e h))) <| .viBad <| .viWrite <| .viTokens e h
theorem Frame.viGo (h : Frame L z s) {parity n i o} (hp : Covers L viFramePieces := by exact hp.of rfl) : Frame L z (State.viGo parity n s i o) := by
  induction n generalizing s parity o with
  | zero => exact h
  | succ n ih =>
    unfold State.viGo
    dsimp only
    split
    · exact h.viBack
    · refine .ite h.viFill <| .ite h.viBack <| .ite h.viBad <| .ite h.viPush ?_
      split
      · exact h.viWait.viPush
      · next e =>
        have hx {p a len} : Frame L z (if parity = true then (State.parityError _ (29 + p), ViRead.error) else State.viRead _ i p a len).1 :=
          .iteFst (h.viTokens e).parityError (h.viTokens e).viRead
        split
        · exact hx.viBad
        · exact hx.viPush
        · exact hx.viPush
        · exact .ite hx.viSend <| .ite hx.viFill (ih hx)
theorem Frame.viMore (h : Frame L z s) {n i} (hp : Covers L viFramePieces := by exact hp.of rfl) : Frame L z (State.viMore n s i) := by
  induction n generalizing s with
  | zero => exact h
  | succ n ih =>
    unfold State.viMore
    dsimp only
    refine .ite h ?_
    split
    · exact h
    · exact .ite (ih h.viDrop.viGo) h.viDrop.viGo
theorem Frame.viTagData (h : Frame L z s) {tag err bs} (hp : Covers L viFramePieces := by exact hp.of rfl) : Frame L z (s.viTagData tag err bs) := by
  unfold State.viTagData
  dsimp only
  split
  · exact h
  · exact .ite h.viDrop.viStale <| .ite h.viDrop.viPush (.viMore (.ite h.viDrop.viBad <| .ite h.viDrop.viSend <| .ite h.viDrop.viFill h.viDrop.viGo))
theorem Frame.viDoorbell (h : Frame L z s) {i rx k tail} (hp : Covers L viStopPieces := by exact hp.of rfl) : Frame L z (s.viDoorbell i rx k tail) :=
  .ite h <| .ite h.set h.set.viFault
theorem Frame.execViDoorbell (h : Frame L z s) {i rx slot tail}
    (hp : Covers L viStopPieces := by exact hp.of rfl) : FrameOut L z (execViDoorbell i rx slot tail s) := .ite h.next h.viDoorbell.next
theorem Frame.execViTxFrame (h : Frame L z s) {i slot parity}
    (hp : Covers L viFramePieces := by exact hp.of rfl) : FrameOut L z (execViTxFrame i slot parity s) := .ite h.next h.viGo.next
theorem Frame.viCopy (h : Frame L z s) {q f parity x} (hp : Covers L viFramePieces := by exact hp.of rfl) : Frame L z (State.viCopy q f parity s x) :=
  .ite h.inc <| .ite h.viGo h.viUpd
theorem Frame.execViRxDeliver (h : Frame L z s) {p parity}
    (hp : Covers L viFramePieces := by exact hp.of rfl) : FrameOut L z (execViRxDeliver p parity s) := by
  unfold Machine.execViRxDeliver
  dsimp only
  split
  · exact h.next
  · exact .ite h.updEsw.next <| .ite h.updEsw.inc.next (.next (.each h.updEsw fun _ ht => ht.viCopy))
theorem Frame.execViBucketRefill (h : Frame L z s) {i} (hp : Covers L viFramePieces := by exact hp.of rfl) : FrameOut L z (execViBucketRefill i s) :=
  .ite h.next h.viRefill.viMore.next
theorem Frame.vimSums (h : Frame L z s) (hp : Covers L [.regs] := by exact hp.of rfl) : Frame L z s.vimSums := h.set.set
theorem Frame.vimPage {old : State} (h : Frame L z old) (h1 : Frame L z s) {i o}
    (hp : Covers L [.regs] := by exact hp.of rfl) : Frame L z (State.vimPage i o old s) :=
  .ite (.ite h1 h1.set.set) <| .ite (.ite (h1.ignored h).set h1.vimSums) <| .ite (.ite (h1.ignored h).set h1.viShow) h1
theorem Frame.vimWrite {old : State} (h : Frame L z old) (h1 : Frame L z s) {a v}
    (hp : Covers L vimPieces := by exact hp.of rfl) : Frame L z (vimWrite a v old s) :=
  .ite (.ite h1 <| .ite (h1.ignored h).set.set h1.vimTaken.vimTry) <| .ite (.vimPage h h1) h1
theorem vimWrite_frames (hp : Covers L vimPieces := by exact hp.of rfl) : WriteHook.Frames L z vimWrite := fun _ _ _ _ h h1 => h.vimWrite h1
theorem Frame.execVimMapWrite (h : Frame L z s) {addr value}
    (hp : Covers L vimPieces := by exact hp.of rfl) : FrameOut L z (execVimMapWrite addr value s) :=
  .ite (.next (.regWrite h vimWrite_frames)) h.next

/-! ### Functions of Machine/Link -/

theorem Frame.unitRejoin (h : Frame L z s) {u} (hp : Covers L [.regs, .core, .pair] := by exact hp.of rfl) : Frame L z (s.unitRejoin u) := .ite h.soloEnd h
theorem Frame.sliceDrop (h : Frame L z s) {u} (hp : Covers L pairEventPieces := by exact hp.of rfl) : Frame L z (s.sliceDrop u) :=
  .ite h.sliceAbort.unitRejoin h
theorem Frame.sliceFull (h : Frame L z s) {n} (hp : Covers L pairEventPieces := by exact hp.of rfl) : Frame L z (s.sliceFull n) := .ite h.sliceDrop.sliceDrop h
theorem Frame.jrnPut (h : Frame L z s) {n e} (hp : Covers L pairEventPieces := by exact hp.of rfl) : Frame L z (s.jrnPut n e) := h.jrnAdd.sliceFull
theorem Frame.jrnResp (h : Frame L z s) {n a err v} (hp : Covers L pairEventPieces := by exact hp.of rfl) : Frame L z (s.jrnResp n a err v) := h.jrnPut
theorem Frame.coreHear (h : Frame L z s) {c err v} (hp : Covers L pairEventPieces := by exact hp.of rfl) : Frame L z (s.coreHear c err v) := by
  unfold State.coreHear
  refine .ite ?_ h.coreSet
  split
  · exact h
  · exact h.pairSet.jrnResp
theorem Frame.pcieHear (h : Frame L z s) {q err v bytes}
    (hp : Covers L pcieLossPieces := by exact hp.of rfl) : Frame L z (s.pcieHear q err v bytes) := .ite h.viTagData <| .ite h.coreHear h
theorem Frame.linkLost (h : Frame L z s) (hp : Covers L pcieLossPieces := by exact hp.of rfl) : Frame L z s.linkLost := .each h.pcieDown fun _ ht => ht.pcieHear
theorem Frame.execPcieCompletionTimeout (h : Frame L z s) {tag}
    (hp : Covers L pcieLossPieces := by exact hp.of rfl) : FrameOut L z (execPcieCompletionTimeout tag s) := by
  unfold Machine.execPcieCompletionTimeout
  split
  · exact h.pcieDone.inc.raiseSum.emit.pcieHear.next
  · exact h.next
theorem Frame.execPcieCompletion (h : Frame L z s) {tag status bytes}
    (hp : Covers L pcieLossPieces := by exact hp.of rfl) : FrameOut L z (execPcieCompletion tag status bytes s) := by
  unfold Machine.execPcieCompletion
  dsimp only
  split
  · exact h.pcieComplete.pcieHear.next
  · exact h.next
theorem Frame.execPcieLinkDown (h : Frame L z s) {ltssm}
    (hp : Covers L pcieLossPieces := by exact hp.of rfl) : FrameOut L z (execPcieLinkDown ltssm s) := .ite h.linkLost.set.next h.next
theorem Frame.pcieRegWrite {old : State} (h : Frame L z old) (h1 : Frame L z s) {a v}
    (hp : Covers L [.regs, .mem, .due, .evr, .esw, .can, .crs, .pcie, .core, .pair, .vi, .cmp, .pow, .out, .free] := by exact hp.of rfl) :
    Frame L z (pcieRegWrite a v old s) :=
  .ite (.unless (.ite h1.pcieRetrain h1) fun hs => .perstDrive (.ite hs.linkLost hs)) <| .ite h1.pciePfirq <| .ite (.ite (h1.ignored h) h1) <|
    .ite (.ite (h1.ignored h) h1) h1
theorem Frame.pcieReset (h : Frame L z s)
    (hp : Covers L [.regs, .held, .mem, .due, .evr, .esw, .can, .crs, .pcie, .core, .pair, .vi, .cmp, .out, .free] := by exact hp.of rfl) :
    Frame L z s.pcieReset :=
  .updPcie (.restoreBlock (.ite h.linkLost h))
theorem Frame.execPciePerst (h : Frame L z s) {low}
    (hp : Covers L [.regs, .held, .mem, .due, .evr, .esw, .can, .crs, .pcie, .core, .pair, .vi, .cmp, .pow, .out, .free] := by exact hp.of rfl) :
    FrameOut L z (execPciePerst low s) :=
  .ite h.next <| .next <| .updPow <| .ite h.pcieReset h

/-! ### Functions of Machine/Reset -/

theorem Frame.pwmReset (h : Frame L z s) {j} (hp : Covers L [.regs, .held, .due, .conv, .out] := by exact hp.of rfl) : Frame L z (s.pwmReset j) :=
  h.pwmBall.pwmBall.pwmUpd.restoreBlock
theorem Frame.grpReset (h : Frame L z s) {g} (hp : Covers L [.regs, .held, .conv] := by exact hp.of rfl) : Frame L z (s.grpReset g) :=
  .each (.restoreBlock (.updConv (.each h fun _ ht => by split; exacts [.ite ht.updConv.set ht, ht]))) fun _ ht => ht.grpConflict
theorem Frame.gtbReset (h : Frame L z s) (hp : Covers L [.regs, .held, .gtb, .out] := by exact hp.of rfl) : Frame L z s.gtbReset :=
  .restoreBlock (.each h.updGtb fun _ ht => .ite ht ht.emit)
theorem Frame.pscDrop (h : Frame L z s) (hp : Covers L [.regs, .psc] := by exact hp.of rfl) : Frame L z s.pscDrop := .each h.updPsc fun _ ht => ht.set
theorem Frame.pscReset (h : Frame L z s)
    (hp : Covers L [.regs, .held, .mem, .due, .evr, .psc, .core, .out] := by exact hp.of rfl) : Frame L z s.pscReset :=
  h.sliceAbort.sliceAbort.restoreBlock.pscDrop.mirrorLoad.mirrorLoad
theorem Frame.pairReset (h : Frame L z s) {n}
    (hp : Covers L [.regs, .held, .mem, .due, .evr, .pcie, .core, .pair, .out] := by exact hp.of rfl) : Frame L z (s.pairReset n) :=
  .ite h.sliceAbort.sliceAbort.restoreBlock.coreReset.coreReset.hartBoot.hartBoot h.sliceAbort.sliceAbort.restoreBlock.pairHold.hartBoot
theorem Frame.steAbort (h : Frame L z s) (hp : Covers L pairEventPieces := by exact hp.of rfl) : Frame L z s.steAbort :=
  .each h fun _ ht => .also ht.sliceAbort fun hs => hs.soloEnd
theorem Frame.blockReset (h : Frame L z s) {n}
    (hp : Covers L [.regs, .held, .mem, .gtb, .due, .evr, .conv, .tg, .psc, .esw, .can, .lin, .crs, .gw, .pcie, .core, .pair, .vi, .cmp, .out, .free] :=
      by exact hp.of rfl) : Frame L z (s.blockReset n) :=
  .ite h.updConv.restoreBlock <| .ite h.grpReset <| .ite h.pwmReset <| .ite h.restoreBlock.updConv.set.set <| .ite h.restoreBlock.emit <|
    .ite h.updConv.sdfClockOff.restoreBlock <| .ite h.tgReset <| .ite h.gtbReset <| .ite h.pscReset <| .ite h.eswReset <| .ite h.canReset <|
    .ite h.linReset <| .ite h.crsReset <| .ite h.gwReset <| .ite h.pcieReset <| .ite h.pairReset <| .ite h.steAbort.restoreBlock h
theorem Frame.blkGo (h : Frame L z s) {n} (hp : Covers L [.regs, .pow] := by exact hp.of rfl) : Frame L z (s.blkGo n) := .ite h <| .ite h.set.set h.updPow.set
theorem Frame.blkDone (h : Frame L z s) {n} (hp : Covers L domainPieces := by exact hp.of rfl) : Frame L z (s.blkDone n) := h.updPow.blockReset.inc.set
theorem Frame.blkForced (h : Frame L z s) {n} (hp : Covers L eventPieces := by exact hp.of rfl) : Frame L z (s.blkForced n) := h.inc.set.raise
theorem Frame.execBlockReset (h : Frame L z s) (hp : Covers L [.regs, .pow] := by exact hp.of rfl) : FrameOut L z (execBlockReset s) := h.blkGo.next
theorem Frame.execBlockIdleReached (h : Frame L z s) (hp : Covers L domainPieces := by exact hp.of rfl) : FrameOut L z (execBlockIdleReached s) := by
  unfold Machine.execBlockIdleReached
  split
  · exact .ite h.blkDone.next h.next
  · exact h.next
theorem Frame.execBlockIdleTimeout (h : Frame L z s) (hp : Covers L domainPieces := by exact hp.of rfl) : FrameOut L z (execBlockIdleTimeout s) := by
  unfold Machine.execBlockIdleTimeout
  split
  · exact .ite h.next h.blkForced.blkDone.next
  · exact h.next
theorem Frame.domainFields (h : Frame L z s) {d} (hp : Covers L [.regs, .held] := by exact hp.of rfl) : Frame L z (s.domainFields d) :=
  .each h fun _ ht => ht.restore.unhold
theorem Frame.domainCfg (h : Frame L z s) {d} (hp : Covers L [.regs] := by exact hp.of rfl) : Frame L z (s.domainCfg d) := .each h fun _ ht => ht.cfgReg
theorem Frame.domainReset (h : Frame L z s) {d}
    (hp : Covers L [.regs, .held, .mem, .gtb, .due, .evr, .conv, .tg, .psc, .esw, .can, .lin, .crs, .gw, .pcie, .core, .pair, .vi, .cmp, .out, .free] :=
      by exact hp.of rfl) : Frame L z (s.domainReset d) :=
  .domainCfg (.domainFields (.each (.each h fun _ ht => ht.blockReset) fun _ ht => ht.linkDown.portOff))
theorem Frame.domainGone (h : Frame L z s) {d} (hp : Covers L domainPieces := by exact hp.of rfl) : Frame L z (s.domainGone d) :=
  .islands (.setBit (.also (.also (.each (.each h fun _ ht => ht.blockReset) fun _ ht => ht.linkDown)
      fun hs => .each hs fun _ ht => ht.pwmBall.pwmBall) fun hs => .perstDrive (.ite hs.linkLost hs)))
theorem Frame.domctlWrite {old : State} (h : Frame L z s) (_h1 : Frame L z old)
    (hp : Covers L [.regs] := by exact hp.of rfl) : Frame L z (s.domctlWrite old) := .ite h.set <| .ite h.set h
theorem Frame.domSettled (h : Frame L z s) (hp : Covers L [.regs] := by exact hp.of rfl) : Frame L z s.domSettled := h.setIf
theorem Frame.execDomainOff (h : Frame L z s) {d} (hp : Covers L domainPieces := by exact hp.of rfl) : FrameOut L z (execDomainOff d s) :=
  .ite h.raiseC.domainGone.domSettled.next h.next
theorem Frame.readyBall (h : Frame L z s) (hp : Covers L [.out] := by exact hp.of rfl) : Frame L z s.readyBall := h.emit
theorem Frame.degrade (h : Frame L z s) (hp : Covers L [.regs, .out] := by exact hp.of rfl) : Frame L z s.degrade := .ite h.set.readyBall h.set
theorem Frame.markOne (h : Frame L z s) {cause i} (hp : Covers L eventPieces := by exact hp.of rfl) : Frame L z (s.markOne cause i) :=
  .ite h h.setBit.degrade.evrTake.raiseC
theorem Frame.markItem (h : Frame L z s) {i cause}
    (hp : Covers L [.regs, .mem, .due, .evr, .conv, .esw, .core, .out] := by exact hp.of rfl) : Frame L z (s.markItem i cause) :=
  .ite h <| .also (.ite h.markOne.linkDown.portOff h.markOne) fun hs => .tripAll <| .set <| .each hs fun _ ht => ht.markOne
theorem Frame.calClear (h : Frame L z s) {i} (hp : Covers L [.regs] := by exact hp.of rfl) : Frame L z (s.calClear i) := .ite h.set h
theorem Frame.calSet (h : Frame L z s) {ok x} (hp : Covers L [.regs] := by exact hp.of rfl) : Frame L z (s.calSet ok x) :=
  .ite h.calClear <| .ite h.set.set.set h
theorem Frame.execDomainOn (h : Frame L z s) {d failed cals}
    (hp : Covers L [.regs, .held, .mem, .gtb, .due, .evr, .conv, .tg, .psc, .esw, .can, .lin, .crs, .gw, .pcie, .core, .pair, .vi, .cmp, .out, .free] :=
      by exact hp.of rfl) : FrameOut L z (execDomainOn d failed cals s) :=
  .ite (.next (.domSettled (.unless (.each (.each h.setBit.islands.domainReset.raiseC fun _ ht => ht.calSet) fun _ ht => ht.markItem)
      fun hs => hs.set.evrTake.raiseC))) h.next
theorem Frame.gtbKeep (h : Frame L z s) (hp : Covers L gtbEventPieces := by exact hp.of rfl) : Frame L z s.gtbKeep :=
  .each h.updGtb.set.set.refreshQual fun _ ht => ht.refreshSlot
theorem Frame.backNote (h : Frame L z s) {boot src w} (hp : Covers L powEventPieces := by exact hp.of rfl) : Frame L z (s.backNote boot src w) :=
  .ite h.updPow h.raise
theorem Frame.gtbRestore (h : Frame L z s) {boot}
    (hp : Covers L [.regs, .mem, .gtb, .due, .evr, .core, .pow, .out] := by exact hp.of rfl) : Frame L z (s.gtbRestore boot) :=
  .ite h.updGtb.set.set.set.set.refreshQual (.also h.updGtb.set.set.set.set.refreshQual.backNote fun hs => hs.backNote)
theorem Frame.forget (h : Frame L z s) {p} (hp : Covers L [.mem] := by exact hp.of rfl) : Frame L z (s.forget p) := h.updMem
theorem Frame.updHidden (h : Frame L z s) {la du ev tg ps es ca li cr gw pc co pa vi st cm po te ii io}
    (hp : Covers L hiddenPieces := by exact hp.of rfl) :
    Frame L z { s with
      latch := la, due := du, evr := ev, tg := tg, psc := ps, esw := es, can := ca, lin := li, crs := cr, gw := gw, pcie := pc, core := co, pair := pa, vi := vi
      vimStart := st, cmp := cm, pow := po, ste := te, irqInner := ii, irqOuter := io } :=
  have h1 := (((((h.updLatch (x := la)).updDue (x := du)).updEvr (x := ev)).updTg (x := tg)).updPsc (x := ps)).updEsw (x := es)
  have h2 := ((((h1.updCan (x := ca)).updLin (x := li)).updCrs (x := cr)).updGw (x := gw)).updPcie (x := pc)
  have h3 := ((((h2.updCore (x := co)).updPair (x := pa)).updVi (x := vi)).updVimStart (x := st)).updCmp (x := cm)
  (((h3.updPow (x := po)).updSte (x := te)).updIrqInner (x := ii)).updIrqOuter (x := io)
theorem Frame.coreHidden (h : Frame L z s) {kind}
    (hp : Covers L coreHiddenPieces := by exact hp.of rfl) : Frame L z (s.coreHidden kind) :=
  .ite h.updHidden.forget <| .ite h.updHidden.forget h.updHidden.forget
theorem Frame.hiddenReset (h : Frame L z s) {kind}
    (hp : Covers L hiddenResetPieces := by exact hp.of rfl) : Frame L z (s.hiddenReset kind) :=
  .updConv <| .coreHidden <| .pscDrop <| .ite (.each h fun _ ht => ht.pwmReset) <| .each h fun _ ht => ht.pwmBall.pwmBall
theorem Frame.coreDown (h : Frame L z s)
    (hp : Covers L coreDownPieces := by exact hp.of rfl) : Frame L z s.coreDown :=
  h.restore.unhold.coreHidden.updPow.emit
theorem Frame.trxAfter (h : Frame L z s) (hp : Covers L [.regs] := by exact hp.of rfl) : Frame L z s.trxAfter :=
  .each (.each h fun _ ht => ht.canTrx) fun _ ht => ht.linRest
theorem Frame.backServe (h : Frame L z s) (hp : Covers L powEventPieces := by exact hp.of rfl) : Frame L z s.backServe :=
  .ite h.setIf.setIf.updEvr.backNote h.setIf.setIf.updEvr.areaShow
theorem Frame.outputsReset (h : Frame L z s) {kind} (hp : Covers L [.pow, .out] := by exact hp.of rfl) : Frame L z (s.outputsReset kind) :=
  .each (.ite h h.perstDrive) fun _ ht => .sdfClockOff (.also (.ite ht.emit ht) fun hs => hs.emit)
theorem Frame.stormShow (h : Frame L z s) (hp : Covers L [.regs] := by exact hp.of rfl) : Frame L z s.stormShow := h.set
theorem Frame.resetKind (h : Frame L z s) {kind0 src0} (hp : Covers L resetPieces := by exact hp.of rfl) : Frame L z (s.resetKind kind0 src0) := by
  unfold State.resetKind
  extract_lets wide recent esc kind src again zok was sb s1 s2 _ s3 s4 s5 _ s6 s7 s8 s9 s10
  have hs1 : Frame L z s1 := .ite (.each h.outputsReset.restoreWarm fun _ ht => ht.setIf) (.each h.outputsReset.restoreCold fun _ ht => ht.set)
  have hs3 : Frame L z s3 := .ite (.gtbRestore (.backServe hs1.hiddenReset.updGtb)) (.gtbKeep hs1.hiddenReset.updGtb)
  have hs5 : Frame L z s5 := .ite hs3.set.set.addWrap.set.set.inc hs3.set.set.addWrap.set.set.set
  have hs7 : Frame L z s7 := .setIf (.set hs5.updPow)
  have hs9 : Frame L z s9 := .emit (.also (.also hs7 fun hs => hs.raise) fun hs => hs.raiseC.emit)
  have hs10 : Frame L z s10 := .ite hs9 hs9.trxAfter
  exact .emit (.ite hs10 hs10.vcoreFollow)

/-! ### Functions of Machine/Power -/

theorem Frame.backRaise (h : Frame L z s) {cause} (hp : Covers L powEventPieces := by exact hp.of rfl) : Frame L z (s.backRaise cause) :=
  .ite h.raise h.updPow
theorem Frame.backMin (h : Frame L z s) {mv} (hp : Covers L [.regs] := by exact hp.of rfl) : Frame L z (s.backMin mv) := .ite h.set h
theorem Frame.toVbak (h : Frame L z s) (hp : Covers L powEventPieces := by exact hp.of rfl) : Frame L z s.toVbak := .ite h.set.inc.backRaise h
theorem Frame.execBackupToVbak (h : Frame L z s) (hp : Covers L powEventPieces := by exact hp.of rfl) : FrameOut L z (execBackupToVbak s) := h.toVbak.next
theorem Frame.execBackupToVbat (h : Frame L z s) (hp : Covers L [.regs] := by exact hp.of rfl) : FrameOut L z (execBackupToVbat s) := h.set.next
theorem Frame.execBackupContinuityLoss (h : Frame L z s) {mv}
    (hp : Covers L [.regs] := by exact hp.of rfl) : FrameOut L z (execBackupContinuityLoss mv s) := h.backMin.set.next
theorem Frame.execBackupPor (h : Frame L z s) (hp : Covers L powEventPieces := by exact hp.of rfl) : FrameOut L z (execBackupPor s) :=
  .next (.also h.restore.updEvrPow.backRaise fun hs => .ite hs.raise hs.updEvrPow)
theorem Frame.execBackupGtbRecord (h : Frame L z s) {mv crcOk}
    (hp : Covers L [.regs, .evr, .pow] := by exact hp.of rfl) : FrameOut L z (execBackupGtbRecord mv crcOk s) :=
  .ite h.updPow.backMin.persistCommit.next <| .ite h.updPow.backMin.persistCommit.updPow.set.set.next h.updPow.backMin.persistCommit.updPow.set.next
theorem Frame.execVbakLow (h : Frame L z s) {v} (hp : Covers L powEventPieces := by exact hp.of rfl) : FrameOut L z (execVbakLow v s) :=
  .ite h.set.next <| .ite h.set.set.next <| .ite h.set.next h.set.set.backRaise.next
theorem Frame.ballsOff (h : Frame L z s) {sleep} (hp : Covers L [.due, .conv, .pow, .out] := by exact hp.of rfl) : Frame L z (s.ballsOff sleep) :=
  .emit <| .emit <| .emit <| .perstDrive <| .each (.each h fun _ ht => ht.pwmBall.pwmBall) fun _ ht => ht.emit.emit.emit
theorem Frame.diesOff (h : Frame L z s) {sleep}
    (hp : Covers L [.regs, .mem, .due, .evr, .conv, .esw, .core, .pow, .out] := by exact hp.of rfl) : Frame L z (s.diesOff sleep) :=
  .updDuePow (.set (.each h.ballsOff fun _ ht => ht.linkDown))
theorem Frame.execVbatLoss (h : Frame L z s)
    (hp : Covers L [.regs, .mem, .due, .evr, .conv, .esw, .core, .pow, .out] := by exact hp.of rfl) : FrameOut L z (execVbatLoss s) :=
  .ite h.next h.diesOff.toVbak.updPow.next
theorem Frame.execVbatValid (h : Frame L z s) (hp : Covers L resetPieces := by exact hp.of rfl) : FrameOut L z (execVbatValid s) :=
  .ite h.next h.updPow.resetKind.next
theorem Frame.execVbatLow (h : Frame L z s) {v} (hp : Covers L powEventPieces := by exact hp.of rfl) : FrameOut L z (execVbatLow v s) :=
  .ite h.next <| .ite h.set.set.next h.set.set.set.raiseC.vcoreFollow.next
theorem Frame.vbatBack (h : Frame L z s) {v} (hp : Covers L powEventPieces := by exact hp.of rfl) : Frame L z (s.vbatBack v) :=
  .ite h.set.set.raiseC.vcoreFollow h
theorem Frame.execVbatHigh (h : Frame L z s) {v} (hp : Covers L powEventPieces := by exact hp.of rfl) : FrameOut L z (execVbatHigh v s) :=
  .ite h.next <| .ite h.set.vbatBack.next h.set.vbatBack.set.evrTake.raiseC.next
theorem Frame.execVbatNormal (h : Frame L z s) {v} (hp : Covers L powEventPieces := by exact hp.of rfl) : FrameOut L z (execVbatNormal v s) :=
  .ite h.next <| .ite h.set.set.raiseC.vbatBack.next h.set.vbatBack.next
theorem Frame.execVcoreThermalStep (h : Frame L z s) {tj}
    (hp : Covers L powEventPieces := by exact hp.of rfl) : FrameOut L z (execVcoreThermalStep tj s) :=
  .ite h.setS.next <| .ite (.ite (.next (.vcoreFollow (.ite h.setS.updPow h.setS.updPow.raiseC))) h.setS.next) <|
    .ite (.next (.vcoreFollow (.ite h.setS.updPow.raiseC h.setS.updPow))) h.setS.next
theorem Frame.execPowerOnReset (h : Frame L z s) {src} (hp : Covers L resetPieces := by exact hp.of rfl) : FrameOut L z (execPowerOnReset src s) :=
  .ite h.resetKind.next h.next
theorem Frame.execVddCoreCollapse (h : Frame L z s)
    (hp : Covers L coreDownPieces := by exact hp.of rfl) : FrameOut L z (execVddCoreCollapse s) :=
  .ite h.coreDown.next h.next
theorem Frame.execColdReset (h : Frame L z s) {src} (hp : Covers L resetPieces := by exact hp.of rfl) : FrameOut L z (execColdReset src s) :=
  .ite h.resetKind.next h.next
theorem Frame.execWarmReset (h : Frame L z s) {src} (hp : Covers L resetPieces := by exact hp.of rfl) : FrameOut L z (execWarmReset src s) :=
  .ite h.resetKind.next h.next
theorem Frame.execDebugNdmreset (h : Frame L z s) (hp : Covers L resetPieces := by exact hp.of rfl) : FrameOut L z (execDebugNdmreset s) :=
  .ite h.resetKind.next h.next
theorem Frame.execResetPinAssert (h : Frame L z s) (hp : Covers L resetPieces := by exact hp.of rfl) : FrameOut L z (execResetPinAssert s) :=
  .ite h.next h.resetKind.updPow.next
theorem Frame.execResetPinRelease (h : Frame L z s) (hp : Covers L [.pow] := by exact hp.of rfl) : FrameOut L z (execResetPinRelease s) := h.updPow.next
theorem Frame.execMsSupplyReturn (h : Frame L z s) {failed cals}
    (hp : Covers L domainPieces := by exact hp.of rfl) : FrameOut L z (execMsSupplyReturn failed cals s) :=
  .ite h.next (.next (.each (.each (.each (.set (.gtbRestore (.each (.islands
    (.each h.updPow fun _ ht => ht.setBit)) fun _ ht => ht.domainReset))) fun _ ht => ht.calClear) fun _ ht => ht.calSet) fun _ ht => ht.markItem))
theorem Frame.execCalibrationDone (h : Frame L z s) {item ok cal}
    (hp : Covers L [.regs, .mem, .due, .evr, .conv, .esw, .core, .pow, .out] := by exact hp.of rfl) : FrameOut L z (execCalibrationDone item ok cal s) :=
  .ite h.next (.next (.ite h.updPow.calSet h.updPow.calSet.markItem))
theorem Frame.oneCopy (h : Frame L z s) {i b} (hp : Covers L [.regs, .out] := by exact hp.of rfl) : Frame L z (s.oneCopy i b) := h.set.setBit.degrade
theorem Frame.testEnded (h : Frame L z s) {i e}
    (hp : Covers L [.regs, .mem, .due, .evr, .conv, .esw, .core, .out] := by exact hp.of rfl) : Frame L z (s.testEnded i e) := by
  unfold State.testEnded
  split
  · exact h
  · exact h.set.raiseC
  · exact .ite h.oneCopy h
  · exact .ite h.raise <| .ite (.each h fun _ ht => ht.markItem) <| .ite h.oneCopy.oneCopy.raiseC h.markItem
theorem Frame.execPowerupTestDone (h : Frame L z s) {item e}
    (hp : Covers L takeoverPieces := by exact hp.of rfl) : FrameOut L z (execPowerupTestDone item e s) :=
  .ite h.next <| .next <| .setIf <| .also h.updPow.testEnded fun hs => hs.canStart
theorem Frame.execCanReady (h : Frame L z s) {t} (hp : Covers L powEventPieces := by exact hp.of rfl) : FrameOut L z (execCanReady t s) :=
  .ite h.next h.set.set.bootReport.raiseC.readyBall.next
theorem Frame.execFullyReady (h : Frame L z s) {t peer}
    (hp : Covers L [.regs, .mem, .due, .evr, .conv, .core, .pow, .out] := by exact hp.of rfl) : FrameOut L z (execFullyReady t peer s) :=
  .ite h.next <| .next <| .readyBall <| .raiseC <| .also h.setIf.set.set.updPow fun hs => .each hs.set fun _ ht => ht.pwmDrive
theorem Frame.zoneRequest (h : Frame L z s) (hp : Covers L eventPieces := by exact hp.of rfl) : Frame L z s.zoneRequest := .ite h.zoneHigh h
theorem Frame.execZoneOkRequest (h : Frame L z s) (hp : Covers L eventPieces := by exact hp.of rfl) : FrameOut L z (execZoneOkRequest s) := h.zoneRequest.next
theorem Frame.execZoneOkDrop (h : Frame L z s) (hp : Covers L eventPieces := by exact hp.of rfl) : FrameOut L z (execZoneOkDrop s) := h.zoneLow.next
theorem Frame.execZoneOkWatchdog (h : Frame L z s) (hp : Covers L eventPieces := by exact hp.of rfl) : FrameOut L z (execZoneOkWatchdog s) := h.zoneLow.next
theorem Frame.wakeRecord (h : Frame L z s) {b} (hp : Covers L [.regs, .crs] := by exact hp.of rfl) : Frame L z (s.wakeRecord b) :=
  .ite h.setBit h.addWrap.set.set.set.set.updCrs
theorem Frame.execWakeReport (h : Frame L z s) {b} (hp : Covers L resetPieces := by exact hp.of rfl) : FrameOut L z (execWakeReport b s) :=
  .ite (.ite h.wakeRecord.resetKind.next h.next) <| .ite h.wakeRecord.next <| .ite h.wakeRecord.next h.next
theorem Frame.execSleepCorePowerOff (h : Frame L z s) (hp : Covers L resetPieces := by exact hp.of rfl) : FrameOut L z (execSleepCorePowerOff s) :=
  .ite h.next (.next (.also h.diesOff.updPow fun hs => hs.resetKind))

/-! ### Functions of Machine/Arch -/

theorem Frame.forceTrx (h : Frame L z s) {f} (hp : Covers L [.regs] := by exact hp.of rfl) : Frame L z (s.forceTrx f) :=
  .each (.each h fun _ ht => ht.set.canTrx) fun _ ht => ht.set
theorem Frame.execSupplyLinkHeartbeat (h : Frame L z s)
    (hp : Covers L [.regs, .pow, .out] := by exact hp.of rfl) : FrameOut L z (execSupplyLinkHeartbeat s) :=
  .ite h.next <| .ite h.emit.next h.emit.updPow.forceTrx.readyBall.next
theorem Frame.beatLost (h : Frame L z s)
    (hp : Covers L [.regs, .mem, .due, .evr, .esw, .can, .crs, .pcie, .core, .pair, .vi, .cmp, .pow, .out, .free] := by exact hp.of rfl) :
    Frame L z s.beatLost :=
  .emit (.perstDrive (.also (.each h.updPow.zoneLow.forceTrx fun _ ht => ht.linkDown) fun hs => hs.linkLost))
theorem Frame.execInterfaceHeartbeatLoss (h : Frame L z s)
    (hp : Covers L [.regs, .mem, .due, .evr, .esw, .can, .crs, .pcie, .core, .pair, .vi, .cmp, .pow, .out, .free] := by exact hp.of rfl) :
    FrameOut L z (execInterfaceHeartbeatLoss s) :=
  .ite h.beatLost.next h.next
theorem Frame.execControlLaneIdleHandshake (h : Frame L z s)
    (hp : Covers L [.conv, .out] := by exact hp.of rfl) : FrameOut L z (execControlLaneIdleHandshake s) := .ite h.next h.laneAlive.emit.next
theorem Frame.laneLoss (h : Frame L z s) (hp : Covers L convEventPieces := by exact hp.of rfl) : Frame L z s.laneLoss := .ite h.updConv.tripAll h
theorem Frame.execControlLaneLoss (h : Frame L z s) (hp : Covers L convEventPieces := by exact hp.of rfl) : FrameOut L z (execControlLaneLoss s) :=
  h.laneLoss.next
theorem Frame.execCoreSupplyLapse (h : Frame L z s) (hp : Covers L eventPieces := by exact hp.of rfl) : FrameOut L z (execCoreSupplyLapse s) :=
  h.set.set.raise.next
theorem Frame.execVcoreMeasure (h : Frame L z s) {millivolt}
    (hp : Covers L [.regs] := by exact hp.of rfl) : FrameOut L z (execVcoreMeasure millivolt s) := h.set.set.next
theorem Frame.execXtalFallback (h : Frame L z s)
    (hp : Covers L [.regs, .mem, .gtb, .due, .evr, .esw, .can, .crs, .pcie, .core, .pair, .vi, .cmp, .out, .free] := by exact hp.of rfl) :
    FrameOut L z (execXtalFallback s) :=
  .ite h.next <| .next <| .refreshQual <| .enterHoldover <| .also (.each h.updGtb.set.set.raise fun _ ht => ht.linkDown) fun hs => hs.linkLost
theorem Frame.execMsSupplyLoss (h : Frame L z s) (hp : Covers L domainPieces := by exact hp.of rfl) : FrameOut L z (execMsSupplyLoss s) :=
  .ite h.next (.next (.updDuePow (.each (.set (.islands (.setBit (.gtbReset
    (.each h.zoneLow.raise.twinReport fun _ ht => .ite ht.domainGone ht))))) fun _ ht => ht.emit.emit.emit)))
theorem Frame.execMirrorFrameSend (h : Frame L z s) (hp : Covers L [.pow, .out] := by exact hp.of rfl) : FrameOut L z (execMirrorFrameSend s) :=
  .ite h.next (.next (.ite h.emit h.emit.updPow))
theorem Frame.takeOver (h : Frame L z s) {hand} (hp : Covers L takeoverPieces := by exact hp.of rfl) : Frame L z (s.takeOver hand) :=
  .ite (.ite h.updEswPow (.each h.updEswPow fun _ ht => ht.pwmDrive)) <|
    .ite h (.each h.updEswPow.raise.emit.emit.set.inc fun _ ht => .also ht.set.canUpd fun hs => hs.set)
theorem Frame.execTakeover (h : Frame L z s) (hp : Covers L takeoverPieces := by exact hp.of rfl) : FrameOut L z (execTakeover s) := h.takeOver.next
theorem Frame.execMirrorTimeout (h : Frame L z s) (hp : Covers L takeoverPieces := by exact hp.of rfl) : FrameOut L z (execMirrorTimeout s) :=
  .ite h.set.takeOver.next h.next
theorem Frame.execTakeoverPwmEnable (h : Frame L z s) {j}
    (hp : Covers L [.due, .conv, .pow, .out] := by exact hp.of rfl) : FrameOut L z (execTakeoverPwmEnable j s) :=
  .ite h.next <| .ite h.updPow.pwmDrive.next h.next
theorem Frame.handoff (h : Frame L z s) (hp : Covers L [.pow] := by exact hp.of rfl) : Frame L z s.handoff := .ite h.updPow.twinReport h
theorem Frame.execTwinHandoff (h : Frame L z s) (hp : Covers L [.pow] := by exact hp.of rfl) : FrameOut L z (execTwinHandoff s) := h.handoff.next

/-! ### Functions of Machine/Ste -/

theorem Frame.roundCheck (h : Frame L z s)
    (hp : Covers L [.regs, .mem, .due, .evr, .core, .ste, .out] := by exact hp.of rfl) : Frame L z s.roundCheck := .ite h.updSte.addWrap.raise h
theorem Frame.unitPass (h : Frame L z s) {u}
    (hp : Covers L [.regs, .mem, .due, .evr, .core, .ste, .out] := by exact hp.of rfl) : Frame L z (s.unitPass u) := h.updSte.addWrap.roundCheck
theorem Frame.unitRetest (h : Frame L z s) {u} (hp : Covers L eventPieces := by exact hp.of rfl) : Frame L z (s.unitRetest u) := h.set.raise
theorem Frame.unitFail (h : Frame L z s) {u} (hp : Covers L powEventPieces := by exact hp.of rfl) : Frame L z (s.unitFail u) :=
  .also h.set.inc.setBit.degrade.raise fun hs => hs.handoff
theorem Frame.execSteConditionCheck (h : Frame L z s) {rcOk}
    (hp : Covers L [.regs, .mem, .due, .evr, .core, .pair, .ste, .out] := by exact hp.of rfl) : FrameOut L z (execSteConditionCheck rcOk s) :=
  .ite h.set.set.set.set.updSte.next <| .ite (.next (.raise (.updSte (.each h.set.set.set.set.updSte fun _ ht => ht.sliceDrop)))) (.next
    (.each h.set.set.set.set.updSte fun _ ht => ht.sliceDrop))
theorem Frame.execSteSliceStart (h : Frame L z s) {u0}
    (hp : Covers L [.regs, .core, .pair, .ste] := by exact hp.of rfl) : FrameOut L z (execSteSliceStart u0 s) :=
  .ite h.next <| .ite h.set.next (.next (.also h.set.set.addWrap.updSte fun hs => hs.soloBegin))
theorem Frame.execSteSliceEnd (h : Frame L z s) {u ok}
    (hp : Covers L [.regs, .mem, .due, .evr, .core, .pair, .pow, .ste, .out] := by exact hp.of rfl) : FrameOut L z (execSteSliceEnd u ok s) :=
  .ite h.next <| .ite h.sliceOver.unitRejoin.unitPass.next <| .ite h.sliceOver.unitFail.next h.unitRetest.next
theorem Frame.askedSlice (h : Frame L z s) {flaky bad u}
    (hp : Covers L [.regs, .mem, .due, .evr, .core, .pair, .pow, .ste, .out] := by exact hp.of rfl) : Frame L z (State.askedSlice flaky bad s u) :=
  .ite (.unitFail (.ite h.unitRetest.soloBegin h.unitRetest)) (.unitPass (.ite h.unitRetest h.set))
theorem Frame.testDone (h : Frame L z s) {code pass sig} (hp : Covers L eventPieces := by exact hp.of rfl) : Frame L z (testDone s code pass sig).s := h.raise
theorem Frame.testFail (h : Frame L z s) {code i}
    (hp : Covers L [.regs, .mem, .due, .evr, .conv, .esw, .core, .out] := by exact hp.of rfl) : Frame L z (s.testFail code i) :=
  .ite h.markItem.coreSet.wstat h.markItem
theorem Frame.execStRun (h : Frame L z s) {m flaky bad ok sig}
    (hp : Covers L [.regs, .mem, .due, .evr, .conv, .esw, .core, .pair, .cmp, .pow, .ste, .out] := by exact hp.of rfl) :
    FrameOut L z (execStRun m flaky bad ok sig s) :=
  .ite h.next (h.command (fun ht => .iteS (.iteS ht.fail <| .iteS ht.fail <| .iteS ht.fail ht.askedSlice.testDone) <| .iteS (.iteS ht.fail <|
    .iteS ht.fail (.testDone (.each ht fun _ hu => hu.askedSlice))) <| .iteS ht.fail <| .iteS ht.fail <|
    .iteS ht.fail (.testDone (.ite ht ht.testFail))))
theorem Frame.execScanEnable (h : Frame L z s) {m}
    (hp : Covers L [.regs, .mem, .due, .evr, .tg, .core, .cmp, .pow, .out] := by exact hp.of rfl) : FrameOut L z (execScanEnable m s) :=
  h.command fun ht => .iteS ht.fail <| .updCmp <| .forget <| .restore <| .each (.each ht.raise fun _ hu => hu.coreSet.wstat) fun _ hu => hu.set.tgFinish

/-! ### Functions of Machine/Rgn -/

theorem Frame.eccSee (h : Frame L z s) {a init scrub e} (hp : Covers L eventPieces := by exact hp.of rfl) : Frame L z (s.eccSee a init scrub e) := by
  unfold State.eccSee
  dsimp only
  split
  · exact h
  · exact h.parityError
  · exact h.inc.raiseSum
  · exact .raise (.ite h.inc h.inc.set.set.set.set.set.set)
theorem Frame.execScrubLine (h : Frame L z s) {envm e}
    (hp : Covers L [.regs, .mem, .due, .evr, .core, .scrub, .out] := by exact hp.of rfl) : FrameOut L z (execScrubLine envm e s) :=
  .ite h.next (.next (.ite h.eccSee.updScrub.raiseC h.eccSee.updScrub))
theorem Frame.applyHeld (h : Frame L z s) {f} (hp : Covers L [.regs, .held] := by exact hp.of rfl) : Frame L z (s.applyHeld f) := by
  unfold State.applyHeld
  split
  · exact h.updHeld.set
  · exact h
theorem Frame.rctlWrite (h : Frame L z s) {t k v} (hp : Covers L [.regs, .held] := by exact hp.of rfl) : Frame L z (s.rctlWrite t k v) :=
  h.applyHeld.applyHeld.applyHeld.applyHeld.set.set
theorem Frame.execRegionCtlWrite (h : Frame L z s) {r t k v}
    (hp : Covers L [.regs, .held, .mem, .due, .evr, .core, .out] := by exact hp.of rfl) : FrameOut L z (execRegionCtlWrite r t k v s) := by
  unfold Machine.execRegionCtlWrite
  split
  · next e =>
      exact .next (.emit (.checkReq e h))
  · exact .ite h.rctlWrite.emit.next h.emit.next
theorem Frame.igrpWrite (h : Frame L z s) {k v} (hp : Covers L [.regs] := by exact hp.of rfl) : Frame L z (s.igrpWrite k v) := .each h fun _ ht => ht.set.set
theorem Frame.execIgrpWrite (h : Frame L z s) {r k v} (hp : Covers L eventPieces := by exact hp.of rfl) : FrameOut L z (execIgrpWrite r k v s) := by
  unfold Machine.execIgrpWrite
  split
  · next e =>
      exact .next (.emit (.checkReq e h))
  · exact h.igrpWrite.emit.next
theorem Frame.execRegionFence (h : Frame L z s) (hp : Covers L [.regs] := by exact hp.of rfl) : FrameOut L z (execRegionFence s) := h.set.next
theorem Frame.execRegionFenceComplete (h : Frame L z s) (hp : Covers L [.regs] := by exact hp.of rfl) : FrameOut L z (execRegionFenceComplete s) := h.set.next
theorem Frame.execWorldWatchdogExpiry (hs : Frame L z s) {h}
    (hp : Covers L [.cmp] := by exact hp.of rfl) : FrameOut L z (execWorldWatchdogExpiry h s) := .ite hs.updCmp.next hs.next
theorem Frame.execWatchdogKick (hs : Frame L z s) {h r} (hp : Covers L eventPieces := by exact hp.of rfl) : FrameOut L z (execWatchdogKick h r s) := by
  unfold Machine.execWatchdogKick
  refine .ite hs.next ?_
  split
  · next e =>
      exact .next (.emit (.checkReq e hs))
  · exact .ite hs.emit.next hs.refuse.emit.next
theorem Frame.hartStop (hs : Frame L z s) {h} (hp : Covers L pairStopPieces := by exact hp.of rfl) : Frame L z (s.hartStop h) :=
  .ite hs.sliceAbort.sliceAbort.pairHold hs.coreSet
theorem Frame.wstatShow (hs : Frame L z s) {h} (hp : Covers L [.regs] := by exact hp.of rfl) : Frame L z (s.wstatShow h) := hs.set
theorem Frame.restartBegin (hs : Frame L z s) {h reason} (hp : Covers L restartPieces := by exact hp.of rfl) : Frame L z (s.restartBegin h reason) := by
  unfold State.restartBegin
  dsimp only
  refine .ite hs.updCmp.hartStop.coreSet.set.raiseC ?_
  exact .updCmp (.hartStop (by split; exacts [hs.set.set.set.inc.raiseC.mbxHartGone.setBytes, hs.set.set.set.inc.raiseC.mbxHartGone]))
theorem Frame.execInnerWorldRestartBegin (hs : Frame L z s) {h}
    (hp : Covers L restartPieces := by exact hp.of rfl) : FrameOut L z (execInnerWorldRestartBegin h s) := by
  unfold Machine.execInnerWorldRestartBegin
  split
  · exact .ite hs.restartBegin.next hs.next
  · exact hs.next
theorem Frame.execInnerWorldRestartComplete (h : Frame L z s) {h0}
    (hp : Covers L restartPieces := by exact hp.of rfl) : FrameOut L z (execInnerWorldRestartComplete h0 s) := by
  unfold Machine.execInnerWorldRestartComplete
  dsimp only
  split
  · exact .ite h.next <| .ite h.updCmp.innerLoad.set.hartStart.raiseC.next h.updCmp.innerLoad.coreSet.set.raiseC.next
  · exact h.next
theorem Frame.cutSlots (h : Frame L z s) {t lo hi} (hp : Covers L [.regs] := by exact hp.of rfl) : FrameOpt L z (s.cutSlots t lo hi) := by
  refine List.foldlRecOn _ _ (motive := FrameOpt L z) h fun a ha r _ => ?_
  cases a with
  | none => trivial
  | some u =>
    have hu : Frame L z u := ha
    refine .ite hu <| .ite hu.set <| .ite hu.set <| .ite hu.set ?_
    split
    · trivial
    · exact hu.set.slotSet
theorem Frame.grantedOpt (h : Frame L z s) {l perm} (hp : Covers L [.regs] := by exact hp.of rfl) : FrameOpt L z (s.grantSlots l perm) := by
  refine List.foldlRecOn _ _ (motive := FrameOpt L z) h fun a ha x _ => ?_
  cases a with
  | none => trivial
  | some u =>
    have hv := Frame.cutSlots (s := u) (t := x.1) (lo := x.2.1) (hi := x.2.2) ha
    dsimp only
    split
    · trivial
    · next e => rw [e] at hv; exact hv
    · next e =>
      rw [e] at hv
      split
      · trivial
      · exact Frame.slotSet hv

theorem Frame.grantSlots (h : Frame L z s) {l perm} (e : s.grantSlots l perm = some t) (hp : Covers L [.regs] := by exact hp.of rfl) : Frame L z t := by
  have ht := h.grantedOpt (l := l) (perm := perm)
  rw [e] at ht
  exact ht
theorem Frame.unpend (h : Frame L z s) {src} (hp : Covers L [.irqInner, .irqOuter] := by exact hp.of rfl) : Frame L z (s.unpend src).1 :=
  .iteFst h.updIrqInner.fst h.updIrqOuter.fst
theorem Frame.reroute (h : Frame L z s) {l dest}
    (hp : Covers L [.regs, .irqInner, .irqOuter] := by exact hp.of rfl) : Frame L z (s.reroute l dest).1 :=
  List.foldlRecOn l _ (motive := fun a : State × Nat => Frame L z a.1) h fun _ ha _ _ => ha.unpend.set.set.set
theorem Frame.handReset (h : Frame L z s) {late blocks}
    (hp : Covers L [.regs, .held, .mem, .gtb, .due, .evr, .conv, .tg, .psc, .esw, .can, .lin, .crs, .gw, .pcie, .core, .pair, .vi, .cmp, .out, .free] :=
      by exact hp.of rfl) : Frame L z (s.handReset late blocks).1 :=
  List.foldlRecOn blocks _ (motive := fun a : State × Nat => Frame L z a.1) h fun _ ha _ _ =>
    .iteFst ha <| .inc <| .blockReset <| .ite ha.evrTake.blkForced ha
theorem Frame.handDone (h : Frame L z s) {kind forced cleared}
    (hp : Covers L eventPieces := by exact hp.of rfl) : Frame L z (handDone s kind forced cleared).s := h.raise
theorem Frame.handPages (h : Frame L z s) {m o kind fl first n owner late}
    (hp : Covers L handoverPieces := by exact hp.of rfl) : Frame L z (s.handPages m o kind fl first n owner late).s := by
  unfold State.handPages
  dsimp only
  split
  · exact h.fail
  · refine .iteS h.fail <| .iteS h.fail ?_
    split
    · exact h.fail
    · next e =>
      refine .handDone <| .reroute <| .also ?_ fun hs => .each hs fun _ ht => ht.zero
      exact .shared (.iteFst (h.grantSlots e).handReset (h.grantSlots e)) fun hr =>
        .ite (.ite hr.restoreBlock.updGtb hr.restoreBlock) hr
theorem Frame.handPsc (h : Frame L z s) {m o fl first n owner}
    (hp : Covers L deliveryPieces := by exact hp.of rfl) : Frame L z (s.handPsc m o fl first n owner).s :=
  .iteS h.fail <| .iteS h.fail <| .handDone <| .reroute <| .each h fun _ ht => ht.set.set.set
theorem Frame.handCan (h : Frame L z s) {m o fl first n owner c}
    (hp : Covers L canEventPieces := by exact hp.of rfl) : Frame L z (s.handCan m o fl first n owner c).s :=
  .iteS h.fail <| .iteS h.fail (.handDone (.also (.also (.each h fun _ ht => ht.set.set.set) fun hs => .each hs fun _ ht => ht.canAbort.set)
      fun hs => .each hs fun _ ht => ht.restore.zero))
theorem Frame.handSources (h : Frame L z s) {o fl first n owner}
    (hp : Covers L deliveryPieces := by exact hp.of rfl) : Frame L z (s.handSources o fl first n owner).s :=
  .iteS h.fail <| .iteS h.fail h.reroute.handDone
theorem Frame.execHandover (h : Frame L z s) {m late}
    (hp : Covers L handoverPieces := by exact hp.of rfl) : FrameOut L z (execHandover m late s) :=
  h.command (fun ht => .iteS ht.fail <| .iteS ht.fail <| .iteS ht.handPsc <| .iteS ht.handCan <| .iteS ht.handSources ht.handPages)

end Sys2Proof.Machine
end

section
/-! PROOFS. What a command leaves unchanged, part 7 of 10: Compass, the event router and the fabric. -/

namespace Sys2Proof.Machine
open Sys2Proof
set_option Elab.async false

variable {L : List Piece} {z s t : State} {r : EthRun}

/-! ### Functions of Machine/Compass -/

theorem Frame.execMbxCommandComplete (h : Frame L z s) (hp : Covers L resetPieces := by exact hp.of rfl) : FrameOut L z (execMbxCommandComplete s) := by
  unfold Machine.execMbxCommandComplete
  dsimp only
  split
  · refine .ite h.next ?_
    split
    · next e =>
        exact .next <| .mbxComplete <| .updCmp <| .takeUp e h
    · exact h.next
  · exact .ite h.mbxComplete.resetKind.next h.mbxComplete.next
  · exact h.next
theorem Frame.commandNv (h : Frame L z s) {m op mask inner recov} {body : State → CmdRes} (hb : ∀ {t}, Frame L z t → Frame L z (body t).s)
    (hp : Covers L [.regs, .cmp] := by exact hp.of rfl) : FrameOut L z (s.commandNv m op mask inner recov body) := .ite h.set.next (h.command hb)
theorem Frame.ksSet (h : Frame L z s) {g} (hp : Covers L [.cmp] := by exact hp.of rfl) : Frame L z (s.ksSet g) := h.updCmp
theorem Frame.orRun {k : CmdRes} (h : Frame L z s) (h1 : Frame L z k.s) {e} : Frame L z (CmdRes.orRun s e k).s := .iteS h.fail h1
theorem Frame.execGetInfo (h : Frame L z s) {m} (hp : Covers L [.regs, .cmp] := by exact hp.of rfl) : FrameOut L z (execGetInfo m s) := h.command (fun ht => ht)
theorem Frame.execGetBootstat (h : Frame L z s) {m} (hp : Covers L [.regs, .cmp] := by exact hp.of rfl) : FrameOut L z (execGetBootstat m s) :=
  h.command (fun ht => ht)
theorem Frame.execEcho (h : Frame L z s) {m} (hp : Covers L [.regs, .cmp] := by exact hp.of rfl) : FrameOut L z (execEcho m s) := h.command (fun ht => ht)
theorem Frame.withToken (h : Frame L z s) {m op kind} {k : State → CmdRes} (hk : ∀ {t}, Frame L z t → Frame L z (k t).s)
    (hp : Covers L cmpEventPieces := by exact hp.of rfl) : Frame L z (s.withToken m op kind k).s :=
  .orRun h <| .iteS h <| .iteS h.updCmp.raise (hk h.updCmp)
theorem Frame.lcSet (h : Frame L z s) {lc} (hp : Covers L cmpEventPieces := by exact hp.of rfl) : Frame L z (s.lcSet lc) := h.ksSet.showLc.raise
theorem Frame.lcErase (h : Frame L z s) (hp : Covers L [.mem, .evr, .core, .cmp] := by exact hp.of rfl) : Frame L z s.lcErase :=
  h.bankErase.bankErase.ksSet.updEvr
theorem Frame.execProvDevid (h : Frame L z s) {m secret attest devId}
    (hp : Covers L cmpEventPieces := by exact hp.of rfl) : FrameOut L z (execProvDevid m secret attest devId s) :=
  h.commandNv (fun ht => .withToken ht fun hu => hu.ksSet.lcSet)
theorem Frame.execLcAdvance (h : Frame L z s) {m} (hp : Covers L cmpEventPieces := by exact hp.of rfl) : FrameOut L z (execLcAdvance m s) :=
  h.commandNv (fun ht => .iteS ht.fail <| .iteS (.withToken ht fun hu => hu.bankErase.bankErase.lcSet) <| .iteS ht.fail <|
    .iteS ht.fail (by split; exacts [ht.fail, .iteS ht.fail ht.ksSet.lcSet]))
theorem Frame.execLcReturn (h : Frame L z s) {m} (hp : Covers L cmpEventPieces := by exact hp.of rfl) : FrameOut L z (execLcReturn m s) :=
  h.commandNv (fun ht => .withToken ht fun hu => hu.lcErase.lcSet)
theorem Frame.execLcEnd (h : Frame L z s) {m} (hp : Covers L cmpEventPieces := by exact hp.of rfl) : FrameOut L z (execLcEnd m s) :=
  h.commandNv (fun ht => .iteS ht.fail ht.lcErase.ksSet.lcSet)
theorem Frame.execLcChallenge (h : Frame L z s) {m nonce}
    (hp : Covers L [.regs, .cmp] := by exact hp.of rfl) : FrameOut L z (execLcChallenge m nonce s) := h.command (fun ht => ht.updCmp)
theorem Frame.execNonceExpiry (h : Frame L z s) (hp : Covers L [.cmp] := by exact hp.of rfl) : FrameOut L z (execNonceExpiry s) := h.updCmp.next
theorem Frame.execDbgUnlock (h : Frame L z s) {m} (hp : Covers L cmpEventPieces := by exact hp.of rfl) : FrameOut L z (execDbgUnlock m s) :=
  h.command (fun ht => .withToken ht fun hu => hu.updCmp)
theorem Frame.execProvRootkey (h : Frame L z s) {m} (hp : Covers L [.regs, .cmp] := by exact hp.of rfl) : FrameOut L z (execProvRootkey m s) :=
  h.commandNv fun ht => .iteS ht.fail <| .orRun ht <| .iteS ht.fail ht.ksSet.res
theorem Frame.execKeyRevoke (h : Frame L z s) {m} (hp : Covers L cmpEventPieces := by exact hp.of rfl) : FrameOut L z (execKeyRevoke m s) :=
  h.commandNv (fun ht => .withToken ht fun hu => .iteS hu.fail <| .iteS hu.fail hu.ksSet.res)
theorem Frame.execMeasRead (h : Frame L z s) {m} (hp : Covers L [.regs, .mem, .core, .cmp] := by exact hp.of rfl) : FrameOut L z (execMeasRead m s) :=
  h.command (fun ht => .iteS ht.fail (.orRun ht ht.setBytes))
theorem Frame.execMeasExtend (h : Frame L z s) {m} (hp : Covers L [.regs, .cmp] := by exact hp.of rfl) : FrameOut L z (execMeasExtend m s) :=
  h.command (fun ht => .iteS ht.fail (.orRun ht ht.measExtend))
theorem Frame.execQuote (h : Frame L z s) {m}
    (hp : Covers L [.regs, .mem, .core, .cmp, .free] := by exact hp.of rfl) : FrameOut L z (execQuote m s) :=
  h.command fun ht => .iteS ht.fail <| .orRun ht <| .iteS ht.fail ht.draw.setBytes
theorem Frame.execGetCert (h : Frame L z s) {m} (hp : Covers L [.regs, .mem, .core, .cmp] := by exact hp.of rfl) : FrameOut L z (execGetCert m s) :=
  h.command (fun ht => .orRun ht ht.setBytes)
theorem Frame.execVerifyImage (h : Frame L z s) {m} (hp : Covers L [.regs, .cmp] := by exact hp.of rfl) : FrameOut L z (execVerifyImage m s) :=
  h.command fun ht => .iteS ht.fail <| .orRun ht <| .iteS ht.fail <| .iteS ht.fail <| .iteS ht.fail <| .ite ht ht.measExtend
theorem Frame.execUpdBegin (h : Frame L z s) {m nvmOk} (hp : Covers L cmpEventPieces := by exact hp.of rfl) : FrameOut L z (execUpdBegin m nvmOk s) :=
  h.commandNv (fun ht => .iteS ht.fail <| .iteS ht.fail <| .iteS ht.fail ht.recCommit.ksSet.raiseC.res)
theorem Frame.updProgram (h : Frame L z s) {o l} (hp : Covers L [.mem, .core, .cmp] := by exact hp.of rfl) : Frame L z (s.updProgram o l) := h.setBytes.ksSet
theorem Frame.execUpdWrite (h : Frame L z s) {m nvmOk}
    (hp : Covers L [.regs, .mem, .core, .cmp] := by exact hp.of rfl) : FrameOut L z (execUpdWrite m nvmOk s) :=
  h.commandNv fun ht => .iteS ht.fail <| .orRun ht <| .iteS ht.fail <| .iteS ht.fail ht.updProgram
theorem Frame.execUpdFromXspi (h : Frame L z s) {m data nvmOk}
    (hp : Covers L [.regs, .mem, .core, .cmp] := by exact hp.of rfl) : FrameOut L z (execUpdFromXspi m data nvmOk s) :=
  h.commandNv (fun ht => .iteS ht.fail <| .iteS ht.fail <| .iteS ht.fail (by split; exacts [.iteS ht.fail ht.updProgram, ht.fail]))
theorem Frame.eccBank (h : Frame L z s) {b bad} (hp : Covers L eventPieces := by exact hp.of rfl) : Frame L z (s.eccBank b bad) := .each h fun _ ht => ht.eccSee
theorem Frame.execUpdVerify (h : Frame L z s) {m bad} (hp : Covers L cmpEventPieces := by exact hp.of rfl) : FrameOut L z (execUpdVerify m bad s) :=
  h.commandNv (fun ht => .iteS ht.fail (.orRun ht.eccBank ht.ksSet.res))
theorem Frame.execUpdActivate (h : Frame L z s) {m} (hp : Covers L cmpEventPieces := by exact hp.of rfl) : FrameOut L z (execUpdActivate m s) :=
  h.commandNv (fun ht => .iteS ht.fail <| .iteS ht.fail ht.ksSet.raiseC)
theorem Frame.execUpdConfirm (h : Frame L z s) {m} (hp : Covers L cmpEventPieces := by exact hp.of rfl) : FrameOut L z (execUpdConfirm m s) :=
  h.commandNv (fun ht => by split; exacts [ht.fail, .iteS ht.fail ht.ksSet.updCmp.raiseC])
theorem Frame.execUpdRevert (h : Frame L z s) {m} (hp : Covers L cmpEventPieces := by exact hp.of rfl) : FrameOut L z (execUpdRevert m s) :=
  h.commandNv (fun ht => .iteS ht.fail <| .iteS ht.fail <| .iteS ht.fail ht.ksSet.raiseC)
theorem Frame.execCfgRead (h : Frame L z s) {m} (hp : Covers L [.regs, .cmp] := by exact hp.of rfl) : FrameOut L z (execCfgRead m s) :=
  h.command (fun ht => by split; exacts [ht.fail, .iteS ht.fail (by split; exacts [ht, ht.fail])])
theorem Frame.execCfgWrite (h : Frame L z s) {m nvmOk}
    (hp : Covers L [.regs, .mem, .core, .cmp] := by exact hp.of rfl) : FrameOut L z (execCfgWrite m nvmOk s) :=
  h.commandNv (fun ht => by split; exacts [ht.fail, .iteS ht.fail <| .iteS ht.fail ht.recCommit.res])
theorem Frame.execEnvmRefresh (h : Frame L z s) {m corrected ecc nvmOk}
    (hp : Covers L cmpEventPieces := by exact hp.of rfl) : FrameOut L z (execEnvmRefresh m corrected ecc nvmOk s) :=
  .ite (h.command (fun ht => .iteS ht.fail <| .iteS ht.eccSee.fail <|
    .iteS (.fail (.each ht fun _ hu => hu.eccSee)) (.each ht fun _ hu => hu.eccSee))) (h.commandNv (fun ht => .iteS ht.fail <|
    .iteS ht.eccSee.fail <| .iteS (.fail (.each ht fun _ hu => hu.eccSee)) (.each ht fun _ hu => hu.eccSee)))
theorem Frame.execPersistRead (h : Frame L z s) {m}
    (hp : Covers L [.regs, .mem, .core, .cmp] := by exact hp.of rfl) : FrameOut L z (execPersistRead m s) := h.command (fun ht => .orRun ht ht.setBytes)
theorem Frame.execPersistClear (h : Frame L z s) {m}
    (hp : Covers L [.regs, .evr, .cmp] := by exact hp.of rfl) : FrameOut L z (execPersistClear m s) := h.command (fun ht => ht.updEvr)
theorem Frame.execInnerRestart (h : Frame L z s) {m} (hp : Covers L restartPieces := by exact hp.of rfl) : FrameOut L z (execInnerRestart m s) :=
  h.command (fun ht => .iteS ht.fail <| .iteS ht.fail <| .iteS ht ht.restartBegin)
theorem Frame.execResetReq (h : Frame L z s) {m} (hp : Covers L resetPieces := by exact hp.of rfl) : FrameOut L z (execResetReq m s) := by
  unfold Machine.execResetReq
  dsimp only
  refine .ite ?_ (h.command (fun ht => ht.fail))
  split
  · next e =>
      exact .next (.resetKind (.takeUp e h))
  · exact h.next
theorem Frame.wrapping (h : Frame L z s) {m grow f} (hp : Covers L [.mem, .core] := by exact hp.of rfl) : Frame L z (s.wrapping m grow f).s := by
  unfold State.wrapping
  dsimp only
  refine .iteS h.fail <| .iteS h.fail <| .iteS h.fail <| .iteS h.fail ?_
  split
  · exact h.setBytes
  · exact h.fail
theorem Frame.execKeyWrap (h : Frame L z s) {m} (hp : Covers L [.regs, .mem, .core, .cmp] := by exact hp.of rfl) : FrameOut L z (execKeyWrap m s) :=
  h.command (fun ht => ht.wrapping)
theorem Frame.execKeyUnwrap (h : Frame L z s) {m}
    (hp : Covers L [.regs, .mem, .core, .cmp] := by exact hp.of rfl) : FrameOut L z (execKeyUnwrap m s) := h.command (fun ht => ht.wrapping)
theorem Frame.execRng (h : Frame L z s) {m bytes}
    (hp : Covers L [.regs, .mem, .core, .cmp] := by exact hp.of rfl) : FrameOut L z (execRng m bytes s) :=
  h.command (fun ht => .iteS ht.fail (.orRun ht ht.setBytes))
theorem Frame.xspi (h : Frame L z s) {op a n} (hp : Covers L [.out] := by exact hp.of rfl) : Frame L z (s.xspi op a n) := h.emit
theorem Frame.execXspiInit (h : Frame L z s) {m found}
    (hp : Covers L [.regs, .cmp, .out] := by exact hp.of rfl) : FrameOut L z (execXspiInit m found s) :=
  h.command (fun ht => .iteS ht.fail <| .iteS ht.fail (by split; exacts [(ht.xspi.updCmp), ht.xspi.fail]))
theorem Frame.execXspiRead (h : Frame L z s) {m data}
    (hp : Covers L [.regs, .mem, .core, .cmp, .out] := by exact hp.of rfl) : FrameOut L z (execXspiRead m data s) :=
  h.command fun ht => .iteS ht.fail <| .orRun ht <| .iteS ht.fail <| by split; exacts [ht.xspi.setBytes, ht.fail]
theorem Frame.execXspiProgram (h : Frame L z s) {m ok}
    (hp : Covers L [.regs, .cmp, .out] := by exact hp.of rfl) : FrameOut L z (execXspiProgram m ok s) :=
  h.command fun ht => .iteS ht.fail <| .orRun ht <| .iteS ht.fail <| .iteS ht.fail <| .iteS ht.emit.fail ht.emit
theorem Frame.execXspiErase (h : Frame L z s) {m ok}
    (hp : Covers L [.regs, .cmp, .out] := by exact hp.of rfl) : FrameOut L z (execXspiErase m ok s) :=
  h.command (fun ht => .iteS ht.fail <| .iteS ht.fail <| .iteS ht.fail <| .iteS ht.xspi.fail ht.xspi.updCmp)
theorem Frame.execXspiEraseDone (h : Frame L z s) (hp : Covers L [.cmp] := by exact hp.of rfl) : FrameOut L z (execXspiEraseDone s) := h.updCmp.next
theorem Frame.bootWith (h : Frame L z s) {b bad} (hp : Covers L bootPieces := by exact hp.of rfl) : Frame L z (s.bootWith b bad).1 := h.eccBank.bootTry
theorem Frame.execSecureBoot (h : Frame L z s) {bad us} (hp : Covers L bootPieces := by exact hp.of rfl) : FrameOut L z (execSecureBoot bad us s) := by
  unfold Machine.execSecureBoot
  extract_lets ks first s0 cold s1 _ s2 s3 r q
  have hs2 : Frame L z s2 := .updCmp (.also h.set.eraseFinish.showLc fun hs => hs.set.set.islands)
  have hr : Frame L z r.1 := .bootWith (.also hs2 fun hs => hs.ksSet)
  exact .ite h.next <| .ite h.set.next <| .ite hs2.recovery.next <| .ite hr.next <| .ite hr.bootWith.next hr.bootWith.recovery.next

/-! ### Functions of Machine/Evr -/

theorem Frame.execEventEnterEvr (h : Frame L z s) (hp : Covers L [.evr] := by exact hp.of rfl) : FrameOut L z (execEventEnterEvr s) := h.sortTake.next
theorem Frame.execEventRelease (h : Frame L z s) {b} (hp : Covers L deliveryPieces := by exact hp.of rfl) : FrameOut L z (execEventRelease b s) := by
  unfold Machine.execEventRelease
  dsimp only
  split
  · exact h.next
  · exact h.updEvr.deliver.persistCommit.next
theorem Frame.execLateEventRelease (h : Frame L z s) {b}
    (hp : Covers L deliveryPieces := by exact hp.of rfl) : FrameOut L z (execLateEventRelease b s) := by
  unfold Machine.execLateEventRelease
  dsimp only
  split
  · exact h.next
  · exact h.updEvr.deliver.persistCommit.next
theorem Frame.execLogRecordWrite (h : Frame L z s) {parity}
    (hp : Covers L eventPieces := by exact hp.of rfl) : FrameOut L z (execLogRecordWrite parity s) := by
  unfold Machine.execLogRecordWrite
  dsimp only
  refine .ite h.next ?_
  split
  · exact h.next
  · refine .ite h.next ?_
    split
    · next e =>
        exact .next <| .raise <| .set <| .fst_eq e h.fabWrite
    · next e =>
        exact .next <| .setIf <| .set <| .pathPop <| .fst_eq e h.fabWrite
theorem Frame.execTraceRecordHandoff (h : Frame L z s) (hp : Covers L eventPieces := by exact hp.of rfl) : FrameOut L z (execTraceRecordHandoff s) := by
  unfold Machine.execTraceRecordHandoff
  refine .ite h.next ?_
  split
  · exact h.next
  · exact h.pathPop.emit.next
theorem Frame.execAlarmAck (h : Frame L z s) {src count} (hp : Covers L [.regs] := by exact hp.of rfl) : FrameOut L z (execAlarmAck src count s) := by
  unfold Machine.execAlarmAck
  dsimp only
  split
  · exact h.next
  · exact .ite h.set.set.set.set.next <| .ite h.set.next h.next

/-! ### Functions of Machine/Fabric -/

theorem Frame.ran (h : Frame L z s) {o} (ho : FrameOut L z o) : Frame L z (s.ran o) := by
  cases o with
  | next t => exact ho
  | fault r => exact h
  | refused r => exact h
theorem Frame.sysWrite {old : State} (h : Frame L z old) (h1 : Frame L z s) {a v}
    (hp : Covers L [.pow] := by exact hp.of rfl) : Frame L z (sysWrite a v old s) :=
  .ite (.ite (.ignored h1 h) <| .ite h1.handoff h1) h1
theorem Frame.powerWrite {old : State} (h : Frame L z old) (h1 : Frame L z s) {a v}
    (hp : Covers L [.regs, .pow] := by exact hp.of rfl) : Frame L z (powerWrite a v old s) :=
  .ite (.ite (.setIf (.ignored h1 h)) <| .ite h1.set.blkGo h1) <| .ite (.domctlWrite h1 h) <| .ite h1.vcoreFollow h1
theorem Frame.gtbWrite {old : State} (_h : Frame L z old) (h1 : Frame L z s) {a v}
    (hp : Covers L [.regs, .mem, .gtb, .due, .evr, .esw, .core, .out] := by exact hp.of rfl) : Frame L z (gtbWrite a v old s) :=
  .ite (.ite h1.set h1.setS) <| .ite (.refreshSlot (.refreshSlot (.enterHoldover (.ite h1.updGtb h1)))) <|
    .ite (.also (.ite (.ran h1 h1.execSlewStart) h1) fun hs => .ran hs hs.execGtbStep) <| .ite (.ite (.ran h1 h1.execSnapshotTake) h1) <|
    .ite (.ite (.refreshSlot (.ite h1.enterHoldover h1)) <| .ite h1.set h1.refreshSlot) <| .ite (.ite (.ite h1.arm.fireLate h1.arm) <|
    .ite (.ite h1.fireLate h1) h1) <| .ite (.ite h1.updGtb.capShow h1) h1
theorem Frame.crsRegWrite {old : State} (h : Frame L z old) (h1 : Frame L z s) {a v}
    (hp : Covers L ringPieces := by exact hp.of rfl) : Frame L z (crsRegWrite a v old s) :=
  .ite (.also (.ite h1.zoneRequest h1) fun hs => hs.zoneLow) (.crsWrite h h1)
theorem blockWrite_frames (hp : Covers L pscWritePieces := by exact hp.of rfl) : WriteHook.Frames L z blockWrite := fun _ _ _ _ h h1 =>
  .ite (h.sysWrite h1) <| .ite (h.powerWrite h1) <| .ite (h.gtbWrite h1) <| .ite (h1.ran h1.execAlarmAck) <|
    .ite (.ite h1.ckBegin <| .ite h1.track h1) <| .ite (h.tgWrite h1) <| .ite (h.convWrite h1) <| .ite h1.pscWrite <|
    .ite (h.eswWrite h1) <| .ite (h.canWrite h1) <| .ite (h.linWrite h1) <| .ite (h.crsRegWrite h1) <| .ite h1.track <|
    .ite (h.pcieRegWrite h1) <| .ite (h.vimWrite h1) h1
theorem Frame.sysCap (h : Frame L z s) (hp : Covers L [.regs] := by exact hp.of rfl) : Frame L z s.sysCap := h.set.set.set.set.set.set
theorem Frame.blockBefore (h : Frame L z s) {a} (hp : Covers L [.regs, .conv, .esw, .free] := by exact hp.of rfl) : Frame L z (blockBefore a s) :=
  .ite h.set.set <| .ite h.sysCap <| .ite (.ite h h.set) <| .ite h.stormShow <| .ite h.set <| .ite (.ite h.pairShow h) <|
    .ite (.ite h.set.set.set h) <| .ite (.ite h.wstatShow h) <| .ite h.convBefore <| .ite h.pscBefore <| .ite h.eswBefore <| .ite h.canBefore <|
    .ite h.crsBefore <| .ite h.set h
theorem Frame.blockAfter (h : Frame L z s) {a} (hp : Covers L [.conv, .psc] := by exact hp.of rfl) : Frame L z (blockAfter a s) :=
  .ite h.convAfter <| .ite h.pscAfter h

theorem blockRead_frames (hp : Covers L [.regs, .conv, .psc, .esw, .free] := by exact hp.of rfl) : ReadHook.Frames L z blockRead :=
  fun _ _ h => ⟨h.blockBefore, h.blockAfter⟩
theorem Frame.mbxWrite4 (h : Frame L z s) {r vi a v} (hp : Covers L [.regs, .cmp] := by exact hp.of rfl) : Frame L z (s.mbxWrite4 r vi a v) := by
  unfold State.mbxWrite4
  exact .ite h <| .ite (.ite h <| .ite h.mbxGo h.set) <| .ite (.ite (.ite h.mbxClaim h) <| .ite h.mbxRelease h) <| .ite (.ite h.set h) h
theorem Frame.mbxRead4 (h : Frame L z s) {r a}
    (hp : Covers L [.regs, .latch, .conv, .psc, .esw, .free] := by exact hp.of rfl) : Frame L z (s.mbxRead4 r a).2 := by
  unfold State.mbxRead4
  exact .iteSnd (.iteSnd (.read4 h blockRead_frames) <| .iteSnd (.read4 h blockRead_frames) h) (.read4 h blockRead_frames)
theorem Frame.rgnWrite4 (h : Frame L z s) {r a v} (hp : Covers L pscWritePieces := by exact hp.of rfl) : Frame L z (s.rgnWrite4 r a v).1 := by
  unfold State.rgnWrite4
  dsimp only
  split
  · exact .iteFst h.igrpWrite.fst <| .iteFst h.refuse.fst (.fst (.write4 h blockWrite_frames))
  · exact .iteFst h.fst <| .iteFst h.fst <| .iteFst h.rctlWrite.fst <| .iteFst h.updHeld.fst h.fst
theorem Frame.canRefuse (h : Frame L z s) {c o a r k} (hp : Covers L eventPieces := by exact hp.of rfl) : Frame L z (s.canRefuse c o a r k) := h.refuse.raiseC
theorem Frame.canGuard {c off a r vi k} (e : s.canGuard c off a r vi k = some t) (h : Frame L z s)
    (hp : Covers L eventPieces := by exact hp.of rfl) : Frame L z t := by
  unfold State.canGuard at e
  split at e
  · cases e
  · split at e
    · cases e; exact h.canRefuse
    · split at e <;> cases e
      exact h
theorem Frame.word (h : Frame L z s) {r vi a v} (hp : Covers L mirrorLoadPieces := by exact hp.of rfl) : Frame L z (s.word r vi a v).1 := by
  have hm : Frame L z ((s.mirrored a v).write4 blockWrite a v) := .write4 h.mirrored blockWrite_frames
  unfold State.word
  dsimp only
  split
  · exact h.mbxWrite4.fst
  · refine .iteFst h.rgnWrite4 <| .iteFst h <| .iteFst h.pscCommand ?_
    split
    · exact .fst (.ite h.mirrored.fdbWindow h)
    · refine .iteFst ?_ <| .iteFst h.mirrored.gwTableWrite.fst hm.fst
      split
      · next e => exact .canGuard e h
      · exact .iteFst h.mirrored.store.fst hm.fst
theorem Frame.regFabWrite (h : Frame L z s) {r vi a size v}
    (hp : Covers L mirrorLoadPieces := by exact hp.of rfl) : Frame L z (s.regFabWrite r vi a size v).1 :=
  .iteFst h.word <| .iteFst h.fst <| .iteFst (.fst (.regWrite h.mirrored8 blockWrite_frames)) h.word.word.fst
theorem Frame.regFabRead0 (h : Frame L z s) {r vi a size}
    (hp : Covers L [.regs, .latch, .mem, .due, .evr, .conv, .psc, .esw, .core, .out, .free] := by exact hp.of rfl) :
    Frame L z (s.regFabRead0 r vi a size).1 := by
  have hr {dbg} : Frame L z (s.regRead blockRead r.id dbg a size).2 := h.regRead blockRead_frames
  unfold State.regFabRead0
  dsimp only
  split
  · exact h
  · split
    · exact .iteFst h.mbxRead4.fst h.mbxRead4.mbxRead4.fst
    · refine .iteFst ?_ hr.fst
      split
      · next e => exact .canGuard e h
      · exact .iteFst h.fst hr.fst
theorem Frame.regFabRead (h : Frame L z s) {r vi a size}
    (hp : Covers L [.regs, .latch, .mem, .due, .evr, .conv, .psc, .esw, .core, .out, .free] := by exact hp.of rfl) : Frame L z (s.regFabRead r vi a size).1 :=
  .iteFst h.regFabRead0 h.regFabRead0
theorem Frame.viCanMay (h : Frame L z s) {i c ch o} (hp : Covers L [.regs, .vi] := by exact hp.of rfl) : Frame L z (s.viCanMay i c ch o).1 :=
  .iteFst h <| .iteFst h.inc h.viUpd
theorem Frame.viPsc (h : Frame L z s) {i n op r} (hp : Covers L pscEventPieces := by exact hp.of rfl) : Frame L z (s.viPsc i n op r).1 :=
  .iteFst h.set.inc h.pscCommand
theorem Frame.tgMemWrite (h : Frame L z s) {a size v} (hp : Covers L tgEventPieces := by exact hp.of rfl) : Frame L z (s.tgMemWrite a size v) :=
  .ite h.tgFabricDmem (.each h fun _ ht => ht.store)
theorem viPageHook_frames {i : Nat} (hp : Covers L viStopPieces := by exact hp.of rfl) : WriteHook.Frames L z (viPageHook i) :=
  fun _ _ _ _ _ ht => .ite ht.viReset ht
theorem Frame.msixWrite (h : Frame L z s) {i x n v} (hp : Covers L [.mem, .core, .out] := by exact hp.of rfl) : Frame L z (s.msixWrite i x n v) :=
  .each (.each h fun _ ht => .ite ht ht.setByte) fun _ ht => .ite ht.setByte.msix ht
theorem Frame.viWord (h : Frame L z s) {i r x v} (hp : Covers L pscWritePieces := by exact hp.of rfl) : Frame L z (s.viWord i r x v).1 := by
  have hb {t : State} {b} (ht : Frame L z t) : Frame L z ((t.mirrored b v).write4 blockWrite b v) := .write4 ht.mirrored blockWrite_frames
  unfold State.viWord
  extract_lets a
  split
  · exact h
  · exact h.msixWrite.fst
  · exact .iteFst (.iteFst h h.viDoorbell.fst) <| .iteFst h (.fst (.write4 h viPageHook_frames))
  · exact .iteFst h h.viPsc
  · exact .iteFst h <| .iteFst (hb h).fst <| .iteFst (hb h).fst h.updHeld.fst
  · refine .iteFst h ?_
    split
    · next e => exact .canGuard e h
    · exact .iteFst (.iteFst (hb h.viCanMay).fst h.viCanMay) (hb h).fst
  · refine .iteFst h <| .iteFst h.tgMemWrite.fst <| .iteFst ?_ (.fst (.write4 h blockWrite_frames))
    split
    · next e => exact .canGuard e h
    · exact h.mirrored.store.fst
theorem Frame.viWordRead (h : Frame L z s) {i r x}
    (hp : Covers L [.regs, .latch, .mem, .due, .evr, .conv, .psc, .esw, .core, .out, .free] := by exact hp.of rfl) : Frame L z (s.viWordRead i r x).1 := by
  unfold State.viWordRead
  dsimp only
  split
  · exact h
  · exact h
  · exact .read4 h blockRead_frames
  · exact h
  · exact .read4 h blockRead_frames
  · split
    · next e =>
        exact .canGuard e h
    · exact .read4 h blockRead_frames
  · refine .iteFst h <| .iteFst ?_ (.read4 h blockRead_frames)
    split
    · next e =>
        exact .canGuard e h
    · exact h
theorem Frame.viPage (h : Frame L z s) {r acc a size v}
    (hp : Covers L viAccessPieces := by exact hp.of rfl) : Frame L z (s.viPage r acc a size v).1 :=
  .iteFst h.refuse.fst <| .iteFst h.viStale.fst <| .iteFst (.iteFst (.fst (.regWrite h viPageHook_frames)) (.fst (.regRead h blockRead_frames))) <|
    .iteFst (.fst (.iteFst h.viWord.viWord h.viWord.fst)) (.fst (.iteFst h.viWordRead.viWordRead h.viWordRead.fst))
theorem Frame.ramAccess (h : Frame L z s) {r acc a size v e}
    (hp : Covers L eventPieces := by exact hp.of rfl) : Frame L z (s.ramAccess r acc a size v e).1 :=
  .iteFst (.ite h.eccSee h) <| .iteFst (.store (.ite h.eccSee h)) <| .ite h.eccSee h
theorem Frame.ramLost (h : Frame L z s) {a} (hp : Covers L canEventPieces := by exact hp.of rfl) : Frame L z (s.ramLost a) := by
  unfold State.ramLost
  dsimp only
  refine .ite h ?_
  split
  · exact h
  · exact .ite h.canAbort <| .ite h.canFull.set.inc.raiseC h
theorem Frame.regSpace (h : Frame L z s) {r vi acc a size v}
    (hp : Covers L accessPieces := by exact hp.of rfl) : Frame L z (s.regSpace r vi acc a size v).1 :=
  .iteFst h.viPage <| .iteFst h.regFabWrite h.regFabRead
theorem Frame.blockRamDo (h : Frame L z s) {r vi acc a size v e}
    (hp : Covers L accessPieces := by exact hp.of rfl) : Frame L z (s.blockRamDo r vi acc a size v e).1 :=
  .iteFst h.regSpace <| .iteFst h.regSpace.eccSee h.eccSee.ramLost
theorem Frame.pcieAccess (h : Frame L z s) {r vi acc a size v}
    (hp : Covers L pcieEventPieces := by exact hp.of rfl) : Frame L z (s.pcieAccess r vi acc a size v).1 := by
  unfold State.pcieAccess
  dsimp only
  refine .iteFst h.pcieOut ?_
  split
  · exact .iteFst h.pcieOut.updOut h.pcieOut
  · exact h.pcieOut
theorem Frame.fabDo (h : Frame L z s) {r vi acc a size v e}
    (hp : Covers L accessPieces := by exact hp.of rfl) : Frame L z (s.fabDo r vi acc a size v e).1 := by
  unfold State.fabDo
  dsimp only
  refine .iteFst h <| .iteFst h.parityError ?_
  split
  · next e =>
      exact .checkReq e h
  · exact .iteFst h.pcieAccess <| .iteFst (.iteFst h.refuse <| .iteFst h.blockRamDo h.regSpace) <| .iteFst (.iteFst h <|
      .iteFst h.tgMemWrite h) h.ramAccess
theorem Frame.fabLrSc (h : Frame L z s) {r acc a size v e}
    (hp : Covers L accessPieces := by exact hp.of rfl) : Frame L z (s.fabLrSc r acc a size v e).1 := by
  unfold State.fabLrSc
  refine .iteFst h.fabDo ?_
  split
  · next e =>
      exact .checkReq e h
  · exact h.fabDo
theorem Frame.answer {x : State × FabEnd} (h : Frame L z x.1) {r} (hp : Covers L [.out] := by exact hp.of rfl) : Frame L z (State.answer r x) := by
  unfold State.answer
  split
  · exact h.emit
  · exact h.emit
  · exact h
theorem Frame.execFabricRequest (h : Frame L z s) {r acc addr size value parityOk ecc}
    (hp : Covers L accessPieces := by exact hp.of rfl) : FrameOut L z (execFabricRequest r acc addr size value parityOk ecc s) :=
  .ite h.next <| .ite h.parityError.emit.next h.fabDo.answer.next
theorem Frame.pscTaken (h : Frame L z s) {n op r vi a} (hp : Covers L viAccessPieces := by exact hp.of rfl) : Frame L z (s.pscTaken n op r vi a).1 := by
  unfold State.pscTaken
  dsimp only
  split
  · exact h.pscCommand
  · exact h.viPage
theorem Frame.pscWritten (h : Frame L z s) {n op r vi} (hp : Covers L viAccessPieces := by exact hp.of rfl) : FrameOut L z (s.pscWritten n op r vi) := by
  unfold Machine.State.pscWritten
  dsimp only
  split
  · exact h.next
  · refine .ite h.next ?_
    split
    · next e =>
        exact .next (.emit (.checkReq e h))
    · exact .ite h.pscTaken.next h.pscTaken.emit.next
theorem Frame.execPscOn (h : Frame L z s) {n r vi} (hp : Covers L viAccessPieces := by exact hp.of rfl) : FrameOut L z (execPscOn n r vi s) := h.pscWritten
theorem Frame.execPscOff (h : Frame L z s) {n r vi} (hp : Covers L viAccessPieces := by exact hp.of rfl) : FrameOut L z (execPscOff n r vi s) := h.pscWritten
theorem Frame.execPscPwm (h : Frame L z s) {n r vi} (hp : Covers L viAccessPieces := by exact hp.of rfl) : FrameOut L z (execPscPwm n r vi s) := h.pscWritten
theorem Frame.execPscClear (h : Frame L z s) {n r vi} (hp : Covers L viAccessPieces := by exact hp.of rfl) : FrameOut L z (execPscClear n r vi s) :=
  h.pscWritten
theorem Frame.execPscOlcheck (h : Frame L z s) {n r vi}
    (hp : Covers L viAccessPieces := by exact hp.of rfl) : FrameOut L z (execPscOlcheck n r vi s) := h.pscWritten
theorem Frame.execRegisterWrite (h : Frame L z s) {r addr size value}
    (hp : Covers L accessPieces := by exact hp.of rfl) : FrameOut L z (execRegisterWrite r addr size value s) :=
  .ite h.fabDo.answer.next h.next
theorem Frame.execReadClear (h : Frame L z s) {r addr} (hp : Covers L accessPieces := by exact hp.of rfl) : FrameOut L z (execReadClear r addr s) :=
  .ite h.fabDo.answer.next h.next
theorem Frame.execPairLowWordRead (h : Frame L z s) {r addr}
    (hp : Covers L accessPieces := by exact hp.of rfl) : FrameOut L z (execPairLowWordRead r addr s) := .ite h.fabDo.answer.next h.next

/-! ### Functions of Machine/Inbound -/

theorem Frame.inPiece {x : InAcc} (h : Frame L z x.1) {r vi write e p}
    (hp : Covers L accessPieces := by exact hp.of rfl) : Frame L z (State.inPiece r vi write e x p).1 := by
  unfold State.inPiece
  dsimp only
  refine .iteFst h.inc.raiseSum ?_
  split
  · exact h.fabDo
  · exact h.fabDo.inc.raiseSum

theorem Frame.inServe (h : Frame L z s) {r vi write e l}
    (hp : Covers L accessPieces := by exact hp.of rfl) : Frame L z (s.inServe r vi write e l).1 := by
  refine List.foldlRecOn l _ (motive := fun x : State × Nat × List Nat => Frame L z x.1) h fun x hx t _ => ?_
  cases t with
  | unsupported => exact hx.inc.raiseSum
  | seg a u bs => exact List.foldlRecOn (inPieces a u bs) _ (motive := fun y : InAcc => Frame L z y.1) hx fun _ hy _ _ => hy.inPiece
theorem Frame.inDone {x : State × ℕ × List ℕ} (h : Frame L z x.1) {fn write}
    (hp : Covers L [.out] := by exact hp.of rfl) : Frame L z (State.inDone fn write x) := .ite h h.emit
theorem Frame.pcieInbound (h : Frame L z s) {x} (hp : Covers L accessPieces := by exact hp.of rfl) : Frame L z (s.pcieInbound x) := by
  unfold State.pcieInbound
  dsimp only
  refine .ite h ?_
  split
  · exact h.inc.raise
  · exact .ite h.inServe.inDone <| .ite h.inServe.inDone h.viInbound.inServe.inDone
theorem Frame.execPcieInboundRequest (h : Frame L z s) {x}
    (hp : Covers L accessPieces := by exact hp.of rfl) : FrameOut L z (execPcieInboundRequest x s) := h.pcieInbound.next
theorem Frame.execPcieFunctionLevelReset (h : Frame L z s) {f}
    (hp : Covers L viStopPieces := by exact hp.of rfl) : FrameOut L z (execPcieFunctionLevelReset f s) :=
  .ite h.next <| .ite (.next (.each h.raise fun _ ht => ht.set.set)) <| .ite h.raise.viReset.next h.raise.next

end Sys2Proof.Machine
end

section
/-! PROOFS. What a command leaves unchanged, part 8 of 10: the RISC-V cores. -/

namespace Sys2Proof.Machine
open Sys2Proof
set_option Elab.async false

variable {L : List Piece} {z s t : State} {r : EthRun}

/-! ### Functions of Machine/RvMem -/

theorem Rv.Frames.fault {α : Type} {v : Va} {code : Nat} : Rv.Frames L z (v.fault code : Rv α) := .throw
theorem Rv.Frames.guestFault {α : Type} {v : Va} {gpa tinst : Nat} : Rv.Frames L z (v.guestFault gpa tinst : Rv α) := .throw
theorem Frame.noneLogged (h : Frame L z s) {c pa k} (hp : Covers L eventPieces := by exact hp.of rfl) : Frame L z (s.noneLogged c pa k) :=
  .ite h <| .ite h.refuse h.refuse
theorem Frame.push (h : Frame L z s) {c a} (hp : Covers L [.pair] := by exact hp.of rfl) : Frame L z (s.push c a) := h.pairSet
theorem Rv.Frames.rvCore {c} : Rv.Frames L z (rvCore c) := .get fun _ _hs => .pure
theorem Rv.Frames.rvSet {c g} (hp : Covers L [.core] := by exact hp.of rfl) : Rv.Frames L z (rvSet c g) := .modify fun _ ht => ht.coreSet
theorem Frame.jUse (h : Frame L z s) {c} (hp : Covers L [.core, .pair] := by exact hp.of rfl) : Frame L z (s.jUse c) := h.pairSet.coreSet
theorem Rv.Frames.agreed {c kind size addr fresh} (hf : Rv.Frames L z fresh)
    (hp : Covers L pairEventPieces := by exact hp.of rfl) : Rv.Frames L z (agreed c kind size addr fresh) :=
  .get fun _ hs => .ite hf (by
    split
    · exact .ite .throw (.bind (.set hs.jUse) fun _ => .pure)
    · exact .ite (.bind hf fun _ => .bind (.modify fun _ ht => ht.jrnPut.coreSet) fun _ => .pure) .throw)
theorem Frame.coreFab (h : Frame L z s) {c acc pa size v e}
    (hp : Covers L accessPieces := by exact hp.of rfl) : Frame L z (s.coreFab c acc pa size v e).1 := .iteFst h.fabDo.updPcie h.fabDo
theorem Rv.Frames.fab {c acc pa size v e} (hp : Covers L accessPieces := by exact hp.of rfl) : Rv.Frames L z (fab c acc pa size v e) :=
  .modifyGet fun _ ht => ht.coreFab
theorem Rv.Frames.also {α : Type} {c : Prop} [Decidable c] {m n : Rv α} (hn : Rv.Frames L z n) (hm : Rv.Frames L z n → Rv.Frames L z m) :
    Rv.Frames L z (if c then m else n) := .ite (hm hn) hn
theorem Rv.Frames.presented {c a e act} (ha : ∀ f, act = some f → Rv.Frames L z f)
    (hp : Covers L accessPieces := by exact hp.of rfl) : Rv.Frames L z (presented c a e act) := by
  refine .get fun _ _ => .bind .rvCore fun _ => .ite ?_ ?_
  · refine .also (.get fun _ hs => ?_) fun hr => .bind (.modify fun _ ht => ht.push.coreSet) fun _ => hr
    split
    · exact .throw
    · exact .ite .throw (.bind (.set hs.jUse.coreSet) fun _ => .pure)
  · split
    · exact .bind .rvSet fun _ => .pure
    · exact .throw
    · split
      · exact ha _ rfl
      · refine .bind .fab fun _ => ?_
        split
        · exact .pure
        · exact .pure
        · exact .get fun _ _ => .ite (.bind .rvSet fun _ => .throw) .throw

theorem Rv.Frames.presentedBy {c a e f} (hf : Rv.Frames L z f)
    (hp : Covers L accessPieces := by exact hp.of rfl) : Rv.Frames L z (Machine.presented c a e (some f)) :=
  .presented fun _ e => Option.some.inj e ▸ hf
theorem Frame.storeError (h : Frame L z s) {c inner addr}
    (hp : Covers L pairEventPieces := by exact hp.of rfl) : Frame L z (s.storeError c inner addr) :=
  .ite h.berr <| .ite h.berr.jrnPut.coreSet <| .ite h h.jrnPut
theorem Frame.coreWrite (h : Frame L z s) {c pa size v e}
    (hp : Covers L accessPieces := by exact hp.of rfl) : Frame L z (s.coreWrite c pa size v e).1 := h.coreFab.coreSet
theorem Rv.Frames.posted {c kind pa size v e} (hp : Covers L accessPieces := by exact hp.of rfl) : Rv.Frames L z (posted c kind pa size v e) :=
  .get fun _ hs => .ite (.modify fun _ ht => ht.push) <| .set (.ite hs.coreWrite.storeError hs.coreWrite)
theorem Rv.Frames.ptRead {c v pa} (hp : Covers L accessPieces := by exact hp.of rfl) : Rv.Frames L z (ptRead c v pa) := by
  unfold Machine.ptRead
  refine .get fun _ hs => .bind .rvCore fun _ => .ite .fault <| .bind .fab fun _ => ?_
  split
  · exact .pure
  · exact .fault
theorem Rv.Frames.ptWrite {c v pa pte} (hp : Covers L accessPieces := by exact hp.of rfl) : Rv.Frames L z (ptWrite c v pa pte) :=
  .get fun _ _hs => .bind .rvCore fun _ => .ite .fault .posted
theorem Rv.Frames.walk {store va top rd wr ok bad} (hr : ∀ a, Rv.Frames L z (rd a)) (hw : ∀ a p, Rv.Frames L z (wr a p)) (hb : Rv.Frames L z bad) {l base} :
    Rv.Frames L z (walk store va top rd wr ok bad l base) := by
  induction l generalizing base with
  | zero => exact hb
  | succ l ih => exact .bind (hr _) fun _ => .ite hb <| .ite (.ite hb ih) <| .ite hb <| .ite (.bind (hw _ _) fun _ => .pure) .pure
theorem Rv.Frames.gStage {c v need tinst gpa} (hp : Covers L accessPieces := by exact hp.of rfl) : Rv.Frames L z (gStage c v need tinst gpa) :=
  .bind .rvCore fun _ => .ite .pure <| .ite .guestFault <| .walk (fun _ => .ptRead) (fun _ _ => .ptWrite) .guestFault
theorem Rv.Frames.translate {c v} (hp : Covers L accessPieces := by exact hp.of rfl) : Rv.Frames L z (translate c v) :=
  .bind .rvCore fun _ => .ite .pure <| .ite (.ite .gStage .pure) <| .ite .fault <|
    .bind (.walk (fun _ => .bind (.ite .gStage .pure) fun _ => .ptRead) (fun _ _ => .bind
    (.ite .gStage .pure) fun _ => .ptWrite) .fault) fun _ => .ite .gStage .pure
theorem Rv.Frames.triggers {c m va} : Rv.Frames L z (triggers c m va) := by
  unfold Machine.triggers
  refine .get fun _ hs => .bind .rvCore fun _ => .ite .pure <| ?_
  split
  · exact .pure
  · exact .ite (.ite .pure .throw) .throw
theorem Rv.Frames.located {c v acc} (hp : Covers L accessPieces := by exact hp.of rfl) : Rv.Frames L z (located c v acc) :=
  .bind .translate fun _ => .get fun _ _hs => .bind .rvCore fun _ => .ite .fault <|
    .ite (.bind (.modify fun _ ht => ht.noneLogged) fun _ => .fault) <| .ite .fault <| .ite .fault .pure
theorem Rv.Frames.parts {c v acc n} (hp : Covers L accessPieces := by exact hp.of rfl) : Rv.Frames L z (parts c v acc n) :=
  .bind .located fun _ => .ite .pure <| .ite .fault <| .ite .pure <| .bind .located fun _ => .ite .fault .pure
theorem Rv.Frames.readParts {c bad seen ps} (hp : Covers L accessPieces := by exact hp.of rfl) : Rv.Frames L z (readParts c bad seen ps) := by
  induction ps with
  | nil => exact .pure
  | cons p ps ih =>
    refine .get fun _ _ => .bind .fab fun _ => ?_
    split
    · exact .bind ih fun _ => .pure
    · exact .pure
theorem Rv.Frames.loadAt {c v n o} (hp : Covers L accessPieces := by exact hp.of rfl) : Rv.Frames L z (loadAt c v n o) :=
  .bind .triggers fun _ => .bind .parts fun _ => .get fun _ _hs => .bind (.ite (.agreed .readParts) <| .presented nofun) fun _ => .ite .fault <|
    .ite (.bind .rvSet fun _ => .pure) .pure
theorem Rv.Frames.storeParts {c v io ps x} (hp : Covers L accessPieces := by exact hp.of rfl) : Rv.Frames L z (storeParts c v io ps x) := by
  induction ps generalizing x with
  | nil => exact .pure
  | cons p ps ih => exact .get fun _ hs => .ite (.bind .posted fun _ => ih) (.bind (.set hs.coreWrite) fun _ => .ite (.bind .throw fun _ => ih) ih)
theorem Rv.Frames.storeAt {c v n x} (hp : Covers L accessPieces := by exact hp.of rfl) : Rv.Frames L z (storeAt c v n x) :=
  .bind .triggers fun _ => .bind .parts fun _ => .storeParts
theorem Rv.Frames.plainVa {c m va o} : Rv.Frames L z (plainVa c m va o) := .bind .rvCore fun _ => .pure
theorem Rv.Frames.atomicAt {c f5 n va x o} (hp : Covers L accessPieces := by exact hp.of rfl) : Rv.Frames L z (atomicAt c f5 n va x o) := by
  unfold Machine.atomicAt
  refine .bind .plainVa fun _ => .bind .triggers fun _ => .ite .fault <| .bind .located fun _ => .ite .fault <| .get fun _ hs => .ite .fault <|
      .bind ?_ fun _ => .ite .fault .pure
  exact .presentedBy (.get fun _ hs2 => .bind .rvCore fun _ => .ite (.bind .rvSet fun _ => .pure) <| .bind (.set (.iteFst hs2.coreFab <|
      .iteFst hs2.coreFab hs2.coreFab.coreSet)) fun _ => .ite (.bind .rvSet fun _ => .ite (.bind .rvSet fun _ => by split; exacts [.pure,
      .pure]) <| by split; exacts [.pure, .pure]) <| .ite (.bind .rvSet fun _ => by split; exacts [.pure, .pure]) <| by split; exacts [.pure, .pure])
theorem Rv.Frames.agreeLoad {c va o} (hp : Covers L accessPieces := by exact hp.of rfl) : Rv.Frames L z (agreeLoad c va o) := by
  unfold Machine.agreeLoad
  refine .bind .plainVa fun _ => .bind .triggers fun _ => .ite .fault <|
      .bind .translate fun _ => .get fun _ hs => .bind .rvCore fun _ => .ite .fault <| .bind ?_ fun _ => .ite .fault .pure
  refine .ite (.presented nofun) <| ?_
  exact .agreed (.bind .fab fun _ => by split; exacts [.pure, .pure])
theorem Rv.Frames.fetchHalf {c va o} (hp : Covers L accessPieces := by exact hp.of rfl) : Rv.Frames L z (fetchHalf c va o) := by
  unfold Machine.fetchHalf
  refine .bind .rvCore fun _ => .bind .located fun _ => .ite .fault <| .bind .fab fun _ => ?_
  split
  · exact .pure
  · exact .fault
theorem Rv.Frames.fetchWord {c o} (hp : Covers L accessPieces := by exact hp.of rfl) : Rv.Frames L z (fetchWord c o) := by
  unfold Machine.fetchWord
  refine .bind .rvCore fun _ => ?_
  split
  · exact .pure
  · exact .bind .triggers fun _ => .bind .fetchHalf fun _ => .ite (.bind .fetchHalf fun _ => .pure) .pure

/-! ### Functions of Machine/RvExec -/

theorem Rv.Frames.illegal {α : Type} {w : Nat} : Rv.Frames L z (illegal w : Rv α) := .throw
theorem Rv.Frames.virtual {α : Type} {w : Nat} : Rv.Frames L z (virtual w : Rv α) := .throw
theorem Rv.Frames.getX {c r} : Rv.Frames L z (getX c r) := .bind .rvCore fun _ => .pure
theorem Rv.Frames.setX {c r v} (hp : Covers L [.core] := by exact hp.of rfl) : Rv.Frames L z (setX c r v) := .rvSet
theorem Rv.Frames.putX {c w r} (hp : Covers L [.core] := by exact hp.of rfl) : Rv.Frames L z (putX c w r) := by
  unfold Machine.putX
  split
  · exact .setX
  · exact .illegal
theorem Rv.Frames.predict {c} (hp : Covers L [.core] := by exact hp.of rfl) : Rv.Frames L z (predict c) := .modify fun _ ht => ht.coreSet
theorem Rv.Frames.drained {c} : Rv.Frames L z (drained c) := .get fun _ _hs => .ite .throw .pure
theorem Rv.Frames.csrInput {c n}
    (hp : Covers L [.regs, .mem, .due, .evr, .core, .pair, .irqInner, .irqOuter, .out] := by exact hp.of rfl) : Rv.Frames L z (csrInput c n) :=
  .ite (.bind (.agreed (.modifyGet fun _ ht => ht.csrRead)) fun _ => .pure) <|
    .ite (.bind (.agreed (.modifyGet fun _ ht => ht.csrRead)) fun _ => .pure) <| .bind (.modifyGet fun _ ht => ht.csrRead) fun _ => .pure
theorem Rv.Frames.csrPut {c n v} (hp : Covers L [.regs, .core] := by exact hp.of rfl) : Rv.Frames L z (csrPut c n v) :=
  .modify fun _ ht => .ite ht.csrWrite.csrWrite ht.csrWrite
theorem Rv.Frames.csrInstr {c w}
    (hp : Covers L [.regs, .mem, .due, .evr, .core, .pair, .irqInner, .irqOuter, .out] := by exact hp.of rfl) : Rv.Frames L z (csrInstr c w) := by
  unfold Machine.csrInstr
  refine .bind .rvCore fun _ => ?_
  dsimp only
  split
  · exact .illegal
  · exact .virtual
  · exact .bind (.ite .csrInput .pure) fun _ => .ite (.bind .csrPut fun _ => .ite (.bind .rvSet fun _ => .setX) .setX) .setX
theorem Rv.Frames.sretInstr {c w} (hp : Covers L [.regs, .core] := by exact hp.of rfl) : Rv.Frames L z (sretInstr c w) :=
  .bind .rvCore fun _ => .ite (.ite .virtual .illegal) <| .ite (.ite .virtual <| .bind .rvSet fun _ => .pure) <| .ite .illegal <|
    .bind .rvSet fun _ => .bind (.modify fun _ ht => ht.wstat) fun _ => .pure
theorem Rv.Frames.mretInstr {c w} (hp : Covers L [.regs, .core] := by exact hp.of rfl) : Rv.Frames L z (mretInstr c w) :=
  .bind .rvCore fun _ => .ite .illegal <| .bind .rvSet fun _ => .bind (.modify fun _ ht => ht.wstat) fun _ => .pure
theorem Rv.Frames.wfiInstr {c w} (hp : Covers L [.core] := by exact hp.of rfl) : Rv.Frames L z (wfiInstr c w) :=
  .get fun _ _hs => .bind .rvCore fun _ => .ite (.ite .virtual .illegal) <| .ite .illegal <| .ite .virtual <| .ite .pure <| .ite .pure <|
    .ite (.bind .rvSet fun _ => .throw) .pure
theorem Rv.Frames.fenceVma {c w} : Rv.Frames L z (fenceVma c w) :=
  .bind .rvCore fun _ => .ite (.ite (.ite .virtual .drained) <| .ite .illegal .drained) <| .ite .virtual <| .ite .illegal .drained
theorem Rv.Frames.hyperAccess {c w o} (hp : Covers L accessPieces := by exact hp.of rfl) : Rv.Frames L z (hyperAccess c w o) :=
  .bind .rvCore fun _ => .ite .illegal <| .ite .virtual <| .ite .illegal <| .ite .storeAt <| .bind .loadAt fun _ => .setX
theorem Rv.Frames.systemInstr {c w npc} (hp : Covers L [.regs, .core] := by exact hp.of rfl) : Rv.Frames L z (systemInstr c w npc) :=
  .bind .rvCore fun _ => .ite .throw <| .ite .throw <| .ite .sretInstr <| .ite .mretInstr <| .ite (.bind .wfiInstr fun _ => .pure) <|
    .ite (.bind .fenceVma fun _ => .pure) .illegal
theorem Rv.Frames.timeAllowed {c w} : Rv.Frames L z (timeAllowed c w) := by
  unfold Machine.timeAllowed
  refine .bind .rvCore fun _ => ?_
  split
  · exact .pure
  · exact .illegal
  · exact .virtual
theorem Rv.Frames.wcallInstr {c w} : Rv.Frames L z (wcallInstr c w) := .bind .rvCore fun _ => .ite .illegal .throw
theorem Rv.Frames.agreeRnd {c w o} (hp : Covers L pairEventPieces := by exact hp.of rfl) : Rv.Frames L z (agreeRnd c w o) :=
  .bind (.agreed .pure) fun _ => .setX
theorem Rv.Frames.agreeCyc {c w} (hp : Covers L pairEventPieces := by exact hp.of rfl) : Rv.Frames L z (agreeCyc c w) :=
  .bind .rvCore fun _ => .bind (.agreed .pure) fun _ => .setX
theorem Rv.Frames.gtbrdInstr {c w} (hp : Covers L pairEventPieces := by exact hp.of rfl) : Rv.Frames L z (gtbrdInstr c w) :=
  .bind .timeAllowed fun _ => .get fun _ _hs => .bind (.agreed .pure) fun _ => .bind .rvSet fun _ => .setX
theorem Rv.Frames.gtbrdXInstr {c w} (hp : Covers L pairEventPieces := by exact hp.of rfl) : Rv.Frames L z (gtbrdXInstr c w) :=
  .bind .timeAllowed fun _ => .bind .rvCore fun _ => .bind (.agreed .pure) fun _ => .setX
theorem Rv.Frames.evpostInstr {c w} (hp : Covers L pairEventPieces := by exact hp.of rfl) : Rv.Frames L z (evpostInstr c w) :=
  .bind .rvCore fun _ => .ite .virtual <| .ite .illegal <| .modify fun _ ht => .ite ht.push ht.raise
theorem Rv.Frames.customInstr {c w o} (hp : Covers L accessPieces := by exact hp.of rfl) : Rv.Frames L z (customInstr c w o) :=
  .ite .wcallInstr <| .ite .pure <| .ite (.bind .getX fun _ => .bind .agreeLoad fun _ => .setX) <| .ite .agreeRnd <| .ite .agreeCyc <|
    .ite .gtbrdInstr <| .ite .gtbrdXInstr <| .ite .evpostInstr .illegal
theorem Rv.Frames.loadInstr {c w o} (hp : Covers L accessPieces := by exact hp.of rfl) : Rv.Frames L z (loadInstr c w o) :=
  .bind .rvCore fun _ => .ite .illegal <| .bind .plainVa fun _ => .bind .loadAt fun _ => .setX
theorem Rv.Frames.storeInstr {c w o} (hp : Covers L accessPieces := by exact hp.of rfl) : Rv.Frames L z (storeInstr c w o) :=
  .bind .rvCore fun _ => .ite .illegal <| .bind .plainVa fun _ => .storeAt
theorem Rv.Frames.amoInstr {c w o} (hp : Covers L accessPieces := by exact hp.of rfl) : Rv.Frames L z (amoInstr c w o) :=
  .bind .rvCore fun _ => .ite .illegal <| .bind .atomicAt fun _ => .setX
theorem Rv.Frames.setF {c r v} (hp : Covers L [.core] := by exact hp.of rfl) : Rv.Frames L z (setF c r v) := .rvSet
theorem Rv.Frames.raiseF {c fl} (hp : Covers L [.core] := by exact hp.of rfl) : Rv.Frames L z (raiseF c fl) := .ite .pure .rvSet
theorem Rv.Frames.fpInstr {c w o} (hp : Covers L accessPieces := by exact hp.of rfl) : Rv.Frames L z (fpInstr c w o) := by
  unfold Machine.fpInstr
  refine .bind .rvCore fun _ => .ite .illegal <| .ite (.ite .illegal <| .bind .plainVa fun _ => .bind .loadAt fun _ => .setF) <|
      .ite (.ite .illegal <| .bind .plainVa fun _ => .storeAt) <| .ite ?_ ?_
  · split
    · exact .illegal
    · exact .bind .setF fun _ => .raiseF
    · exact .bind .setX fun _ => .raiseF
  · split
    · exact .illegal
    · exact .bind .setF fun _ => .raiseF
theorem Rv.Frames.systemAll {c w npc o} (hp : Covers L corePieces := by exact hp.of rfl) : Rv.Frames L z (systemAll c w npc o) := by
  unfold Machine.systemAll
  split
  · exact .systemInstr
  · exact .bind .hyperAccess fun _ => .pure
  · exact .bind .csrInstr fun _ => .pure
theorem Rv.Frames.rvExec {c w raw pc npc o} (hp : Covers L corePieces := by exact hp.of rfl) : Rv.Frames L z (rvExec c w raw pc npc o) := by
  unfold Machine.rvExec
  refine .bind .rvCore fun _ => ?_
  dsimp only
  split
  · exact .bind .setX fun _ => .pure
  · exact .bind .setX fun _ => .pure
  · exact .bind .predict fun _ => .bind .setX fun _ => .pure
  · exact .ite .illegal <| .bind .predict fun _ => .bind .setX fun _ => .pure
  · split
    · exact .illegal
    · exact .bind .predict fun _ => .pure
  · exact .bind .loadInstr fun _ => .pure
  · exact .bind .storeInstr fun _ => .pure
  · exact .bind .putX fun _ => .pure
  · exact .bind .putX fun _ => .pure
  · exact .bind .putX fun _ => .pure
  · exact .bind .putX fun _ => .pure
  · split
    · exact .ite (.bind .drained fun _ => .pure) .pure
    · exact .bind .drained fun _ => .pure
    · exact .bind .illegal fun _ => .pure
  · exact .bind .amoInstr fun _ => .pure
  · exact .systemAll
  · exact .bind .customInstr fun _ => .pure
  · exact .ite (.bind .fpInstr fun _ => .pure) .illegal

/-! ### Functions of Machine/Rv -/

theorem Frame.ckAfter (h : Frame L z s) {c} (hp : Covers L [.pair] := by exact hp.of rfl) : Frame L z (s.ckAfter c) := .ite h.pairSet h
theorem Frame.stepped (h : Frame L z s) {c} (hp : Covers L [.regs, .core, .pair] := by exact hp.of rfl) : Frame L z (s.stepped c) :=
  .also (.ckAfter (.ite h.coreSet.wstat h)) fun hs => hs.haltCheck
theorem Frame.takeIrq (h : Frame L z s) {c i} (hp : Covers L [.regs, .core] := by exact hp.of rfl) : Frame L z (s.takeIrq c i) := h.coreSet.takeTrap
theorem Frame.irqNow (h : Frame L z s) {c} (hp : Covers L pairEventPieces := by exact hp.of rfl) : Frame L z (s.irqNow c) := by
  unfold State.irqNow
  dsimp only
  split
  · exact h
  · exact .ite h.takeIrq h.jrnPut.coreSet.takeIrq
theorem Frame.mretAfter (h : Frame L z s) {c} (hp : Covers L pairEventPieces := by exact hp.of rfl) : Frame L z (s.mretAfter c) :=
  .ite h <| .ite h.coreSet.irqNow h.coreSet
theorem Frame.retire (h : Frame L z s) {c npc o} (hp : Covers L [.core] := by exact hp.of rfl) : Frame L z (s.retire c npc o) := h.coreSet
theorem Frame.trapStep (h : Frame L z s) {c t} (hp : Covers L pairStopPieces := by exact hp.of rfl) : Frame L z (s.trapStep c t) := by
  unfold State.trapStep
  dsimp only
  refine .ite h.takeTrap <| .ite h.pairSet.takeTrap <| .ite h.takeTrap ?_
  split
  · exact .ite h.pairSet.takeTrap h.mismatch
  · exact h.mismatch
theorem Frame.rvInputs (h : Frame L z s) {m c} (hp : Covers L [.regs, .core, .pair] := by exact hp.of rfl) : Frame L z (State.rvInputs m s c).1 := by
  induction m generalizing s with
  | zero => exact h
  | succ m ih =>
    unfold State.rvInputs
    split
    · exact h
    · exact .iteFst (ih h.jUse.berr) <| .iteFst h.jUse.takeIrq h
theorem Rv.Frames.rvWord {c o} (hp : Covers L accessPieces := by exact hp.of rfl) : Rv.Frames L z (rvWord c o) := .bind .fetchWord fun _ => .pure
theorem Rv.Frames.rvRun {c x o} (hp : Covers L corePieces := by exact hp.of rfl) : Rv.Frames L z (rvRun c x o) := by
  unfold Machine.rvRun
  refine .bind .rvCore fun _ => ?_
  dsimp only
  split
  · exact .illegal
  · exact .rvExec
theorem Frame.trigStop (h : Frame L z s) {c} (hp : Covers L [.regs, .core, .pair] := by exact hp.of rfl) : Frame L z (s.trigStop c) :=
  .ite (.ite h.dbgAdd.coreSet.wstat h) h.coreSet.wstat
theorem Frame.rvOne (h : Frame L z s) {c x o} (hp : Covers L corePieces := by exact hp.of rfl) : Frame L z (s.rvOne c x o) := by
  have hr := (Rv.Frames.rvRun (c := c) (x := x) (o := o)).run h
  unfold State.rvOne
  split
  · next e =>
    rw [e] at hr
    have ht := FrameRes.ok hr
    exact .ite ht.mismatch <| .stepped <| .also (.also ht.retire fun hs => hs.mretAfter) fun hs => hs.ckBegin
  · next e =>
    rw [e] at hr
    have ht := FrameRes.error hr
    split
    · exact ht
    · exact ht.trapStep.stepped
    · exact ht.mismatch
    · exact ht.trigStop.stepped
theorem Frame.rvDebug (h : Frame L z s) {c x o} (hp : Covers L corePieces := by exact hp.of rfl) : Frame L z (s.rvDebug c x o) := by
  unfold State.rvDebug
  extract_lets k s0 after rest
  have hr := (Rv.Frames.rvRun (c := c) (x := x) (o := o)).run (h.coreSet : Frame L z s0)
  have ha {t : State} {l : List Nat} (ht : Frame L z t) : Frame L z (after t l) := ht.coreSet.stepped
  refine .ite (ha h) ?_
  split
  · next e => rw [e] at hr; exact ha (FrameRes.ok hr)
  · next e =>
    rw [e] at hr
    have ht := FrameRes.error hr
    split
    · exact ht.coreSet
    · exact ht.mismatch
    · exact ha (.ite ht ht.emit)
theorem Frame.rvStep (h : Frame L z s) {c o want} (hp : Covers L corePieces := by exact hp.of rfl) : Frame L z (s.rvStep c o want) := by
  unfold State.rvStep
  extract_lets s1 y
  have h1 : Frame L z s1 := .ite h.dbgCatch h
  have hy : Frame L z y.1 := .iteFst h1.rvInputs h1
  have hw := (Rv.Frames.rvWord (c := c) (o := o)).run hy
  refine .ite h <| .ite h <| .ite h1.mismatch <| .ite h1.escalate <| .ite (.ite hy.stepped h) ?_
  split
  · next e =>
    rw [e] at hw
    exact .ite h <| .ite (FrameRes.ok hw).rvDebug (FrameRes.ok hw).rvOne
  · next e =>
    rw [e] at hw
    have ht := FrameRes.error hw
    refine .ite h ?_
    split
    · exact ht.trapStep.stepped
    · exact ht.mismatch
    · exact ht.trigStop.stepped
    · exact ht
theorem Frame.execRvInstruction (h : Frame L z s) {c o} (hp : Covers L corePieces := by exact hp.of rfl) : FrameOut L z (execRvInstruction c o s) :=
  h.rvStep.next
theorem Frame.execMret (h : Frame L z s) {c o} (hp : Covers L corePieces := by exact hp.of rfl) : FrameOut L z (execMret c o s) := h.rvStep.next
theorem Frame.execWcall (h : Frame L z s) {c o} (hp : Covers L corePieces := by exact hp.of rfl) : FrameOut L z (execWcall c o s) := h.rvStep.next
theorem Frame.execCkpt (h : Frame L z s) {c o} (hp : Covers L corePieces := by exact hp.of rfl) : FrameOut L z (execCkpt c o s) := h.rvStep.next
theorem Frame.execAgreeLd (h : Frame L z s) {c o} (hp : Covers L corePieces := by exact hp.of rfl) : FrameOut L z (execAgreeLd c o s) := h.rvStep.next
theorem Frame.execAgreeRnd (h : Frame L z s) {c o} (hp : Covers L corePieces := by exact hp.of rfl) : FrameOut L z (execAgreeRnd c o s) := h.rvStep.next
theorem Frame.execAgreeCyc (h : Frame L z s) {c o} (hp : Covers L corePieces := by exact hp.of rfl) : FrameOut L z (execAgreeCyc c o s) := h.rvStep.next
theorem Frame.execGtbrd (h : Frame L z s) {c o} (hp : Covers L corePieces := by exact hp.of rfl) : FrameOut L z (execGtbrd c o s) := h.rvStep.next
theorem Frame.execGtbrdX (h : Frame L z s) {c o} (hp : Covers L corePieces := by exact hp.of rfl) : FrameOut L z (execGtbrdX c o s) := h.rvStep.next
theorem Frame.execEvpost (h : Frame L z s) {c o} (hp : Covers L corePieces := by exact hp.of rfl) : FrameOut L z (execEvpost c o s) := h.rvStep.next
theorem Frame.execClaimReadInner (h : Frame L z s) {c o} (hp : Covers L corePieces := by exact hp.of rfl) : FrameOut L z (execClaimReadInner c o s) :=
  h.rvStep.next
theorem Frame.execClaimReadOuter (h : Frame L z s) {c o} (hp : Covers L corePieces := by exact hp.of rfl) : FrameOut L z (execClaimReadOuter c o s) :=
  h.rvStep.next
theorem Frame.execPredictorFlush (h : Frame L z s) {c o} (hp : Covers L corePieces := by exact hp.of rfl) : FrameOut L z (execPredictorFlush c o s) :=
  h.rvStep.next
theorem Frame.wfiEnd (h : Frame L z s) {c} (hp : Covers L [.regs, .core, .pair] := by exact hp.of rfl) : Frame L z (s.wfiEnd c) := .ite h.retire.stepped h
theorem Frame.execInterruptTake (h : Frame L z s) {c0}
    (hp : Covers L pairEventPieces := by exact hp.of rfl) : FrameOut L z (execInterruptTake c0 s) := by
  unfold Machine.execInterruptTake
  dsimp only
  refine .ite h.next ?_
  split
  · exact h.next
  · exact h.wfiEnd.irqNow.stepped.next
theorem Frame.execTimerCompareMatch (h : Frame L z s) {c}
    (hp : Covers L [.regs, .core, .pair] := by exact hp.of rfl) : FrameOut L z (execTimerCompareMatch c s) := .ite h.next h.wfiEnd.next
theorem Frame.execStoreErrorResponse (h : Frame L z s) {c inner addr}
    (hp : Covers L pairEventPieces := by exact hp.of rfl) : FrameOut L z (execStoreErrorResponse c inner addr s) :=
  .ite h.storeError.next h.next
theorem Frame.acsResp (h : Frame L z s) {n a e} (hp : Covers L pairEventPieces := by exact hp.of rfl) : Frame L z (s.acsResp n a e) := by
  unfold State.acsResp
  split
  · exact h.jrnResp
  · exact h.jrnResp
theorem Frame.acsDo {n a ecc} (e : s.acsDo n a ecc = some t) (h : Frame L z s) (hp : Covers L accessPieces := by exact hp.of rfl) : Frame L z t := by
  unfold State.acsDo at e
  extract_lets l r go res keep clear at e
  have hgo {acc v} : Frame L z (go acc v).1 := .iteFst h.fabLrSc h.fabDo
  split at e
  · cases e; exact .ite hgo.coreSet.storeError hgo.coreSet
  · cases e; exact .ite hgo.coreSet.storeError hgo.coreSet
  · cases e; exact hgo.coreSet.acsResp
  · cases e; exact .acsResp <| .ite hgo hgo.coreSet
  · split at e <;> cases e
    · exact hgo.coreSet.acsResp
    · exact h.coreSet.acsResp
  · cases e; exact h.raise
  · split at e
    · cases e; exact hgo.acsResp
    · split at e <;> cases e
      exact hgo.updPcie.pairSet
theorem Frame.release (h : Frame L z s) {n agree ecc} (hp : Covers L accessPieces := by exact hp.of rfl) : Frame L z (s.release n agree ecc) := by
  unfold State.release
  dsimp only
  refine .ite h ?_
  split
  · refine .ite h ?_
    split
    · next e =>
        exact .acsDo e h.pairSet
    · exact h
  · refine .ite h.mismatch <| .ite h ?_
    split
    · next e =>
        exact .acsDo e h.pairSet
    · exact h
  · exact .ite h.mismatch <| .ite h.pairSet h
  · exact h
theorem Frame.execPairAccessRelease (h : Frame L z s) {n agree ecc}
    (hp : Covers L accessPieces := by exact hp.of rfl) : FrameOut L z (execPairAccessRelease n agree ecc s) := h.release.next
theorem Frame.pbufRun (h : Frame L z s) {m c o} (hp : Covers L corePieces := by exact hp.of rfl) : Frame L z (State.pbufRun m s c o) := by
  induction m generalizing s with
  | zero => exact h
  | succ m ih => exact .ite h (ih h.rvStep)
theorem Frame.execDebugProgramBuffer (h : Frame L z s) {c words o}
    (hp : Covers L corePieces := by exact hp.of rfl) : FrameOut L z (execDebugProgramBuffer c words o s) := by
  unfold Machine.execDebugProgramBuffer
  dsimp only
  split
  · exact h.next
  · exact .ite (.next (.dbgDo h fun _ ht => .pbufRun (.ite ht.coreSet.set.coreSet ht.coreSet))) h.next

end Sys2Proof.Machine
end

section
/-! PROOFS. What a command leaves unchanged, part 9 of 10: Tangram instructions, the twins and the dispatch of every command. -/

namespace Sys2Proof.Machine
open Sys2Proof
set_option Elab.async false

variable {L : List Piece} {z s t : State} {r : EthRun}

/-! ### Functions of Machine/Sdf -/

theorem Frame.sdfForm (h : Frame L z s) {m parity} (hp : Covers L sdfPieces := by exact hp.of rfl) : Frame L z (s.sdfForm m parity) := by
  unfold State.sdfForm
  extract_lets x u r p settled v s' s0 s1 eng pair off q s2 s3
  have h1 : Frame L z s1 := .set <| .set <| .set <| .ite (.inc <| .ite h h.draw) (.ite h h.draw)
  have hq : Frame L z q.1 := .iteFst h1 <| .iteFst h1 <| List.foldlRecOn _ _ (motive := fun a : State × Bool × Bool => Frame L z a.1) h1
    fun _ ha _ _ => ha.laneDeliver
  exact .raise <| .ite hq.sdfUpd.raiseC hq.sdfUpd
theorem Frame.sdfFast (h : Frame L z s) {m} (hp : Covers L convEventPieces := by exact hp.of rfl) : Frame L z (s.sdfFast m) :=
  .ite h <| .ite h.set.set.sdfUpd <| .ite h.set.set h.set.set.sdfUpd.raiseC.tripAll
theorem Frame.sdfBit (h : Frame L z s) {m parity l} (hp : Covers L sdfPieces := by exact hp.of rfl) : Frame L z (State.sdfBit m parity s l) :=
  .ite h (.also h.sdfUpd.sdfFast fun hs => hs.sdfForm)
theorem Frame.sdfRun (h : Frame L z s) {m levels parity} (hp : Covers L sdfPieces := by exact hp.of rfl) : Frame L z (s.sdfRun m levels parity) :=
  .each h fun _ ht => ht.sdfBit
theorem Frame.execSdfResult (h : Frame L z s) {m levels parity}
    (hp : Covers L sdfPieces := by exact hp.of rfl) : FrameOut L z (execSdfResult m levels parity s) := h.sdfRun.next
theorem Frame.execSdfFastTrip (h : Frame L z s) {m levels parity}
    (hp : Covers L sdfPieces := by exact hp.of rfl) : FrameOut L z (execSdfFastTrip m levels parity s) := h.sdfRun.next
theorem Frame.execSdfFastTripRelease (h : Frame L z s) {m levels parity}
    (hp : Covers L sdfPieces := by exact hp.of rfl) : FrameOut L z (execSdfFastTripRelease m levels parity s) := h.sdfRun.next
theorem Frame.execSdfWindowRestart (h : Frame L z s) {m}
    (hp : Covers L [.due, .conv] := by exact hp.of rfl) : FrameOut L z (execSdfWindowRestart m s) := by
  unfold Machine.execSdfWindowRestart
  split
  · exact h.next
  · next e =>
      exact .ite (.next (.sdfUpd (.arrive e h))) (.next (.arrive e h))
theorem Frame.execSdfClockLoss (h : Frame L z s) {m} (hp : Covers L convEventPieces := by exact hp.of rfl) : FrameOut L z (execSdfClockLoss m s) :=
  .ite h.next <| .ite h.set.sdfUpd.raiseC.sdfUpd.tripAll.next h.set.sdfUpd.raiseC.next
theorem Frame.execSdfClockReturn (h : Frame L z s) {m} (hp : Covers L [.conv] := by exact hp.of rfl) : FrameOut L z (execSdfClockReturn m s) :=
  .ite h.next h.sdfUpd.next

/-! ### Functions of Machine/TgInstr -/

theorem Frame.tgJump (h : Frame L z s) {e target} (hp : Covers L [.tg] := by exact hp.of rfl) : Frame L z (s.tgJump e target).st := h.tgSet.atBranch
theorem Frame.tgCond (h : Frame L z s) {e taken off} (hp : Covers L [.tg] := by exact hp.of rfl) : Frame L z (s.tgCond e taken off).st :=
  .iteSt h.tgSet.atBranch h.atBranch
theorem Frame.tgLoop (h : Frame L z s) {e level count off w}
    (hp : Covers L [.tg] := by exact hp.of rfl) : Frame L z (s.tgLoop e level count off w).st :=
  .iteSt h.atTrap <| .iteSt h.tgSet.atGoto h.tgSet.atOk
theorem Frame.execTgAdd (h : Frame L z s) {x rd rs1 rs2}
    (hp : Covers L enginePieces := by exact hp.of rfl) : FrameOut L z (execTgAdd x rd rs1 rs2 s) := h.tgAlu
theorem Frame.execTgSub (h : Frame L z s) {x rd rs1 rs2}
    (hp : Covers L enginePieces := by exact hp.of rfl) : FrameOut L z (execTgSub x rd rs1 rs2 s) := h.tgAlu
theorem Frame.execTgAnd (h : Frame L z s) {x rd rs1 rs2}
    (hp : Covers L enginePieces := by exact hp.of rfl) : FrameOut L z (execTgAnd x rd rs1 rs2 s) := h.tgAlu
theorem Frame.execTgOr (h : Frame L z s) {x rd rs1 rs2} (hp : Covers L enginePieces := by exact hp.of rfl) : FrameOut L z (execTgOr x rd rs1 rs2 s) := h.tgAlu
theorem Frame.execTgXor (h : Frame L z s) {x rd rs1 rs2}
    (hp : Covers L enginePieces := by exact hp.of rfl) : FrameOut L z (execTgXor x rd rs1 rs2 s) := h.tgAlu
theorem Frame.execTgShl (h : Frame L z s) {x rd rs1 rs2}
    (hp : Covers L enginePieces := by exact hp.of rfl) : FrameOut L z (execTgShl x rd rs1 rs2 s) := h.tgAlu
theorem Frame.execTgShr (h : Frame L z s) {x rd rs1 rs2}
    (hp : Covers L enginePieces := by exact hp.of rfl) : FrameOut L z (execTgShr x rd rs1 rs2 s) := h.tgAlu
theorem Frame.execTgSra (h : Frame L z s) {x rd rs1 rs2}
    (hp : Covers L enginePieces := by exact hp.of rfl) : FrameOut L z (execTgSra x rd rs1 rs2 s) := h.tgAlu
theorem Frame.execTgShli (h : Frame L z s) {x rd rs1 n} (hp : Covers L enginePieces := by exact hp.of rfl) : FrameOut L z (execTgShli x rd rs1 n s) := h.tgAlu
theorem Frame.execTgShri (h : Frame L z s) {x rd rs1 n} (hp : Covers L enginePieces := by exact hp.of rfl) : FrameOut L z (execTgShri x rd rs1 n s) := h.tgAlu
theorem Frame.execTgSrai (h : Frame L z s) {x rd rs1 n} (hp : Covers L enginePieces := by exact hp.of rfl) : FrameOut L z (execTgSrai x rd rs1 n s) := h.tgAlu
theorem Frame.execTgMin (h : Frame L z s) {x rd rs1 rs2}
    (hp : Covers L enginePieces := by exact hp.of rfl) : FrameOut L z (execTgMin x rd rs1 rs2 s) := h.tgAlu
theorem Frame.execTgMax (h : Frame L z s) {x rd rs1 rs2}
    (hp : Covers L enginePieces := by exact hp.of rfl) : FrameOut L z (execTgMax x rd rs1 rs2 s) := h.tgAlu
theorem Frame.execTgMinu (h : Frame L z s) {x rd rs1 rs2}
    (hp : Covers L enginePieces := by exact hp.of rfl) : FrameOut L z (execTgMinu x rd rs1 rs2 s) := h.tgAlu
theorem Frame.execTgMaxu (h : Frame L z s) {x rd rs1 rs2}
    (hp : Covers L enginePieces := by exact hp.of rfl) : FrameOut L z (execTgMaxu x rd rs1 rs2 s) := h.tgAlu
theorem Frame.execTgClamp (h : Frame L z s) {x rd rs1 rs2 rs3}
    (hp : Covers L enginePieces := by exact hp.of rfl) : FrameOut L z (execTgClamp x rd rs1 rs2 rs3 s) := h.tgAlu
theorem Frame.execTgAbs (h : Frame L z s) {x rd rs1} (hp : Covers L enginePieces := by exact hp.of rfl) : FrameOut L z (execTgAbs x rd rs1 s) := h.tgAlu
theorem Frame.execTgSlt (h : Frame L z s) {x rd rs1 rs2}
    (hp : Covers L enginePieces := by exact hp.of rfl) : FrameOut L z (execTgSlt x rd rs1 rs2 s) := h.tgAlu
theorem Frame.execTgSltu (h : Frame L z s) {x rd rs1 rs2}
    (hp : Covers L enginePieces := by exact hp.of rfl) : FrameOut L z (execTgSltu x rd rs1 rs2 s) := h.tgAlu
theorem Frame.execTgClz (h : Frame L z s) {x rd rs1} (hp : Covers L enginePieces := by exact hp.of rfl) : FrameOut L z (execTgClz x rd rs1 s) := h.tgAlu
theorem Frame.execTgMul (h : Frame L z s) {x rd rs1 rs2}
    (hp : Covers L enginePieces := by exact hp.of rfl) : FrameOut L z (execTgMul x rd rs1 rs2 s) := h.tgAlu
theorem Frame.execTgMulh (h : Frame L z s) {x rd rs1 rs2}
    (hp : Covers L enginePieces := by exact hp.of rfl) : FrameOut L z (execTgMulh x rd rs1 rs2 s) := h.tgAlu
theorem Frame.execTgMulhu (h : Frame L z s) {x rd rs1 rs2}
    (hp : Covers L enginePieces := by exact hp.of rfl) : FrameOut L z (execTgMulhu x rd rs1 rs2 s) := h.tgAlu
theorem Frame.execTgDiv (h : Frame L z s) {x rd rs1 rs2}
    (hp : Covers L enginePieces := by exact hp.of rfl) : FrameOut L z (execTgDiv x rd rs1 rs2 s) := h.tgAlu
theorem Frame.execTgDivu (h : Frame L z s) {x rd rs1 rs2}
    (hp : Covers L enginePieces := by exact hp.of rfl) : FrameOut L z (execTgDivu x rd rs1 rs2 s) := h.tgAlu
theorem Frame.execTgRem (h : Frame L z s) {x rd rs1 rs2}
    (hp : Covers L enginePieces := by exact hp.of rfl) : FrameOut L z (execTgRem x rd rs1 rs2 s) := h.tgAlu
theorem Frame.execTgRemu (h : Frame L z s) {x rd rs1 rs2}
    (hp : Covers L enginePieces := by exact hp.of rfl) : FrameOut L z (execTgRemu x rd rs1 rs2 s) := h.tgAlu
theorem Frame.execTgAddi (h : Frame L z s) {x rd rs1 imm}
    (hp : Covers L enginePieces := by exact hp.of rfl) : FrameOut L z (execTgAddi x rd rs1 imm s) := h.tgAlu
theorem Frame.execTgAndi (h : Frame L z s) {x rd rs1 imm}
    (hp : Covers L enginePieces := by exact hp.of rfl) : FrameOut L z (execTgAndi x rd rs1 imm s) := h.tgAlu
theorem Frame.execTgOri (h : Frame L z s) {x rd rs1 imm}
    (hp : Covers L enginePieces := by exact hp.of rfl) : FrameOut L z (execTgOri x rd rs1 imm s) := h.tgAlu
theorem Frame.execTgXori (h : Frame L z s) {x rd rs1 imm}
    (hp : Covers L enginePieces := by exact hp.of rfl) : FrameOut L z (execTgXori x rd rs1 imm s) := h.tgAlu
theorem Frame.execTgLui (h : Frame L z s) {x rd imm} (hp : Covers L enginePieces := by exact hp.of rfl) : FrameOut L z (execTgLui x rd imm s) := h.tgAlu
theorem Frame.execTgSlti (h : Frame L z s) {x rd rs1 imm}
    (hp : Covers L enginePieces := by exact hp.of rfl) : FrameOut L z (execTgSlti x rd rs1 imm s) := h.tgAlu
theorem Frame.execTgMacq (h : Frame L z s) {x a rs1 rs2}
    (hp : Covers L enginePieces := by exact hp.of rfl) : FrameOut L z (execTgMacq x a rs1 rs2 s) := h.tgAlu
theorem Frame.execTgMsuq (h : Frame L z s) {x a rs1 rs2}
    (hp : Covers L enginePieces := by exact hp.of rfl) : FrameOut L z (execTgMsuq x a rs1 rs2 s) := h.tgAlu
theorem Frame.execTgMulq (h : Frame L z s) {x a rs1 rs2}
    (hp : Covers L enginePieces := by exact hp.of rfl) : FrameOut L z (execTgMulq x a rs1 rs2 s) := h.tgAlu
theorem Frame.execTgMaci (h : Frame L z s) {x a rs1 rs2}
    (hp : Covers L enginePieces := by exact hp.of rfl) : FrameOut L z (execTgMaci x a rs1 rs2 s) := h.tgAlu
theorem Frame.execTgAclr (h : Frame L z s) {x a} (hp : Covers L enginePieces := by exact hp.of rfl) : FrameOut L z (execTgAclr x a s) := h.tgAlu
theorem Frame.execTgAcld (h : Frame L z s) {x a rs1} (hp : Covers L enginePieces := by exact hp.of rfl) : FrameOut L z (execTgAcld x a rs1 s) := h.tgAlu
theorem Frame.execTgAcsr (h : Frame L z s) {x a n} (hp : Covers L enginePieces := by exact hp.of rfl) : FrameOut L z (execTgAcsr x a n s) := h.tgAlu
theorem Frame.execTgSatq (h : Frame L z s) {x rd a} (hp : Covers L enginePieces := by exact hp.of rfl) : FrameOut L z (execTgSatq x rd a s) := h.tgAlu
theorem Frame.execTgSati (h : Frame L z s) {x rd a} (hp : Covers L enginePieces := by exact hp.of rfl) : FrameOut L z (execTgSati x rd a s) := h.tgAlu
theorem Frame.execTgPiu (h : Frame L z s) {x rd rs1 rs2 rs3}
    (hp : Covers L enginePieces := by exact hp.of rfl) : FrameOut L z (execTgPiu x rd rs1 rs2 rs3 s) := h.tgAlu
theorem Frame.execTgFadd (h : Frame L z s) {x rd rs1 rs2}
    (hp : Covers L enginePieces := by exact hp.of rfl) : FrameOut L z (execTgFadd x rd rs1 rs2 s) := h.tgAlu
theorem Frame.execTgFsub (h : Frame L z s) {x rd rs1 rs2}
    (hp : Covers L enginePieces := by exact hp.of rfl) : FrameOut L z (execTgFsub x rd rs1 rs2 s) := h.tgAlu
theorem Frame.execTgFmul (h : Frame L z s) {x rd rs1 rs2}
    (hp : Covers L enginePieces := by exact hp.of rfl) : FrameOut L z (execTgFmul x rd rs1 rs2 s) := h.tgAlu
theorem Frame.execTgFma (h : Frame L z s) {x rd rs1 rs2 rs3}
    (hp : Covers L enginePieces := by exact hp.of rfl) : FrameOut L z (execTgFma x rd rs1 rs2 rs3 s) := h.tgAlu
theorem Frame.execTgFdiv (h : Frame L z s) {x rd rs1 rs2}
    (hp : Covers L enginePieces := by exact hp.of rfl) : FrameOut L z (execTgFdiv x rd rs1 rs2 s) := h.tgAlu
theorem Frame.execTgFsqrt (h : Frame L z s) {x rd rs1} (hp : Covers L enginePieces := by exact hp.of rfl) : FrameOut L z (execTgFsqrt x rd rs1 s) := h.tgAlu
theorem Frame.execTgFmin (h : Frame L z s) {x rd rs1 rs2}
    (hp : Covers L enginePieces := by exact hp.of rfl) : FrameOut L z (execTgFmin x rd rs1 rs2 s) := h.tgAlu
theorem Frame.execTgFmax (h : Frame L z s) {x rd rs1 rs2}
    (hp : Covers L enginePieces := by exact hp.of rfl) : FrameOut L z (execTgFmax x rd rs1 rs2 s) := h.tgAlu
theorem Frame.execTgFabs (h : Frame L z s) {x rd rs1} (hp : Covers L enginePieces := by exact hp.of rfl) : FrameOut L z (execTgFabs x rd rs1 s) := h.tgAlu
theorem Frame.execTgFneg (h : Frame L z s) {x rd rs1} (hp : Covers L enginePieces := by exact hp.of rfl) : FrameOut L z (execTgFneg x rd rs1 s) := h.tgAlu
theorem Frame.execTgFeq (h : Frame L z s) {x rd rs1 rs2}
    (hp : Covers L enginePieces := by exact hp.of rfl) : FrameOut L z (execTgFeq x rd rs1 rs2 s) := h.tgAlu
theorem Frame.execTgFlt (h : Frame L z s) {x rd rs1 rs2}
    (hp : Covers L enginePieces := by exact hp.of rfl) : FrameOut L z (execTgFlt x rd rs1 rs2 s) := h.tgAlu
theorem Frame.execTgFle (h : Frame L z s) {x rd rs1 rs2}
    (hp : Covers L enginePieces := by exact hp.of rfl) : FrameOut L z (execTgFle x rd rs1 rs2 s) := h.tgAlu
theorem Frame.execTgFcvtws (h : Frame L z s) {x rd rs1} (hp : Covers L enginePieces := by exact hp.of rfl) : FrameOut L z (execTgFcvtws x rd rs1 s) := h.tgAlu
theorem Frame.execTgFcvtsw (h : Frame L z s) {x rd rs1} (hp : Covers L enginePieces := by exact hp.of rfl) : FrameOut L z (execTgFcvtsw x rd rs1 s) := h.tgAlu
theorem Frame.execTgFcvtqs (h : Frame L z s) {x rd rs1} (hp : Covers L enginePieces := by exact hp.of rfl) : FrameOut L z (execTgFcvtqs x rd rs1 s) := h.tgAlu
theorem Frame.execTgFcvtsq (h : Frame L z s) {x rd rs1} (hp : Covers L enginePieces := by exact hp.of rfl) : FrameOut L z (execTgFcvtsq x rd rs1 s) := h.tgAlu
theorem Frame.execTgEret (h : Frame L z s) {x} (hp : Covers L enginePieces := by exact hp.of rfl) : FrameOut L z (execTgEret x s) :=
  h.tgIssue (fun ht => .iteSt ht.atTrap ht.tgSet.atGoto)
theorem Frame.execTgMfs (h : Frame L z s) {x rd sr} (hp : Covers L enginePieces := by exact hp.of rfl) : FrameOut L z (execTgMfs x rd sr s) :=
  h.tgIssue (fun ht => ht.tgSet.atOk)
theorem Frame.execTgMts (h : Frame L z s) {x sr rs1} (hp : Covers L enginePieces := by exact hp.of rfl) : FrameOut L z (execTgMts x sr rs1 s) :=
  h.tgIssue (fun ht => .iteSt ht ht.tgSetSr)
theorem Frame.execTgEvp (h : Frame L z s) {x rs1} (hp : Covers L enginePieces := by exact hp.of rfl) : FrameOut L z (execTgEvp x rs1 s) :=
  h.tgIssue (fun ht => ht.tgPut)
theorem Frame.execTgSetm (h : Frame L z s) {x mask value}
    (hp : Covers L enginePieces := by exact hp.of rfl) : FrameOut L z (execTgSetm x mask value s) :=
  h.tgIssue (fun ht => .iteSt ht.atTrap ht.tgSet.atSetm)
theorem Frame.execTgEnd (h : Frame L z s) {x} (hp : Covers L enginePieces := by exact hp.of rfl) : FrameOut L z (execTgEnd x s) := h.tgIssue id
theorem Frame.execTgBrk (h : Frame L z s) {x} (hp : Covers L enginePieces := by exact hp.of rfl) : FrameOut L z (execTgBrk x s) := h.tgIssue (fun ht => ht.draw)
theorem Frame.execTgJr (h : Frame L z s) {x rs1} (hp : Covers L enginePieces := by exact hp.of rfl) : FrameOut L z (execTgJr x rs1 s) :=
  h.tgIssue (fun ht => ht.tgJump)
theorem Frame.execTgJmp (h : Frame L z s) {x off} (hp : Covers L enginePieces := by exact hp.of rfl) : FrameOut L z (execTgJmp x off s) :=
  h.tgIssue (fun ht => ht.tgJump)
theorem Frame.execTgCall (h : Frame L z s) {x off} (hp : Covers L enginePieces := by exact hp.of rfl) : FrameOut L z (execTgCall x off s) :=
  h.tgIssue (fun ht => ht.tgSet.tgJump)
theorem Frame.execTgBeq (h : Frame L z s) {x rs1 rs2 off}
    (hp : Covers L enginePieces := by exact hp.of rfl) : FrameOut L z (execTgBeq x rs1 rs2 off s) := h.tgIssue (fun ht => ht.tgCond)
theorem Frame.execTgBne (h : Frame L z s) {x rs1 rs2 off}
    (hp : Covers L enginePieces := by exact hp.of rfl) : FrameOut L z (execTgBne x rs1 rs2 off s) := h.tgIssue (fun ht => ht.tgCond)
theorem Frame.execTgBlt (h : Frame L z s) {x rs1 rs2 off}
    (hp : Covers L enginePieces := by exact hp.of rfl) : FrameOut L z (execTgBlt x rs1 rs2 off s) := h.tgIssue (fun ht => ht.tgCond)
theorem Frame.execTgBge (h : Frame L z s) {x rs1 rs2 off}
    (hp : Covers L enginePieces := by exact hp.of rfl) : FrameOut L z (execTgBge x rs1 rs2 off s) := h.tgIssue (fun ht => ht.tgCond)
theorem Frame.execTgBltu (h : Frame L z s) {x rs1 rs2 off}
    (hp : Covers L enginePieces := by exact hp.of rfl) : FrameOut L z (execTgBltu x rs1 rs2 off s) := h.tgIssue (fun ht => ht.tgCond)
theorem Frame.execTgBgeu (h : Frame L z s) {x rs1 rs2 off}
    (hp : Covers L enginePieces := by exact hp.of rfl) : FrameOut L z (execTgBgeu x rs1 rs2 off s) := h.tgIssue (fun ht => ht.tgCond)
theorem Frame.execTgLoop (h : Frame L z s) {x level rs1 off}
    (hp : Covers L enginePieces := by exact hp.of rfl) : FrameOut L z (execTgLoop x level rs1 off s) := h.tgIssue (fun ht => ht.tgLoop)
theorem Frame.execTgLoopi (h : Frame L z s) {x level n off}
    (hp : Covers L enginePieces := by exact hp.of rfl) : FrameOut L z (execTgLoopi x level n off s) := h.tgIssue (fun ht => ht.tgLoop)
theorem Frame.execTgLw (h : Frame L z s) {x rd rs1 imm data}
    (hp : Covers L enginePieces := by exact hp.of rfl) : FrameOut L z (execTgLw x rd rs1 imm data s) :=
  h.tgIssue (fun ht => .iteSt ht.atTrap (.tgDmemEcc ht fun hu => hu.tgSet.atOk))
theorem Frame.execTgLh (h : Frame L z s) {x rd rs1 imm data}
    (hp : Covers L enginePieces := by exact hp.of rfl) : FrameOut L z (execTgLh x rd rs1 imm data s) :=
  h.tgIssue (fun ht => .iteSt ht.atTrap (.tgDmemEcc ht fun hu => hu.tgSet.atOk))
theorem Frame.execTgLhu (h : Frame L z s) {x rd rs1 imm data}
    (hp : Covers L enginePieces := by exact hp.of rfl) : FrameOut L z (execTgLhu x rd rs1 imm data s) :=
  h.tgIssue (fun ht => .iteSt ht.atTrap (.tgDmemEcc ht fun hu => hu.tgSet.atOk))
theorem Frame.execTgLacc (h : Frame L z s) {x a rs1 imm data}
    (hp : Covers L enginePieces := by exact hp.of rfl) : FrameOut L z (execTgLacc x a rs1 imm data s) :=
  h.tgIssue (fun ht => .iteSt ht.atTrap (.tgDmemEcc ht fun hu => hu.tgSet.atOk))
theorem Frame.execTgSw (h : Frame L z s) {x rs2 rs1 imm}
    (hp : Covers L enginePieces := by exact hp.of rfl) : FrameOut L z (execTgSw x rs2 rs1 imm s) := h.tgIssue (fun ht => .iteSt ht ht.tgStore)
theorem Frame.execTgSh (h : Frame L z s) {x rs2 rs1 imm}
    (hp : Covers L enginePieces := by exact hp.of rfl) : FrameOut L z (execTgSh x rs2 rs1 imm s) := h.tgIssue (fun ht => .iteSt ht ht.tgStore)
theorem Frame.execTgSacc (h : Frame L z s) {x a rs1 imm}
    (hp : Covers L enginePieces := by exact hp.of rfl) : FrameOut L z (execTgSacc x a rs1 imm s) := h.tgIssue (fun ht => .iteSt ht ht.tgStore)
theorem Frame.execTgLdc (h : Frame L z s) {x rd rs1 imm parity}
    (hp : Covers L [.regs, .latch, .mem, .due, .evr, .conv, .tg, .core, .vi, .pow, .out, .free] := by exact hp.of rfl) :
    FrameOut L z (execTgLdc x rd rs1 imm parity s) :=
  h.tgIssue fun ht => ht.tgLane fun hu => by
    split
    · next e => exact .atOk <| .tgSet <| .snd_eq e hu.tgLdc
    · next e => exact .snd_eq e hu.tgLdc
theorem Frame.execTgStc (h : Frame L z s) {x rs2 rs1 imm}
    (hp : Covers L enginePieces := by exact hp.of rfl) : FrameOut L z (execTgStc x rs2 rs1 imm s) :=
  h.tgIssue (fun ht => .tgLane ht fun hu => hu.tgPut)
theorem Frame.execTgStcc (h : Frame L z s) {x rs2 rs1 imm}
    (hp : Covers L enginePieces := by exact hp.of rfl) : FrameOut L z (execTgStcc x rs2 rs1 imm s) :=
  h.tgIssue (fun ht => .tgLane ht fun hu => hu.tgPut)

/-! ### Functions of Machine/Twin -/

theorem Frame.twinWrite (h : Frame L z s) {a v} (hp : Covers L mirrorLoadPieces := by exact hp.of rfl) : Frame L z (s.twinWrite a v) :=
  .ite h.fdbWindow <| .ite h.store <| .ite (.also (.write4 h blockWrite_frames) fun hs => hs.set) (.unless
    (.write4 h blockWrite_frames) fun hs => .ite h.gwTableWrite <| .ite hs h)
theorem Frame.twinItem (h : Frame L z s) {x} (hp : Covers L mirrorLoadPieces := by exact hp.of rfl) : Frame L z (s.twinItem x) := by
  unfold State.twinItem
  dsimp only
  split
  · exact h.twinWrite
  · exact h.fdbPut
  · exact h.store
  · exact h.twinWrite.twinWrite
  · exact .ite h.fdbRun h
  · exact h.updGtb.set.setS.setS
  · exact h.canReq.set.set
theorem Frame.execMirrorFrameReceive (h : Frame L z s) {cause items}
    (hp : Covers L mirrorLoadPieces := by exact hp.of rfl) : FrameOut L z (execMirrorFrameReceive cause items s) :=
  .ite h.next (.next (.unless (.ite (.each h.set fun _ ht => ht.twinItem) h.set) fun hs => hs.takeOver))

/-! ### Functions of Machine/Dispatch -/

theorem Frame.exec (h : Frame L z s) {i} (hp : Covers L (touched i)) : FrameOut L z (exec i s) := by
  unfold Machine.exec
  split <;> conv at hp => arg 2; whnf
  · exact h.execRegisterWrite
  · exact h.execReadClear
  · exact h.execPairLowWordRead
  · exact h.execFabricRequest
  · exact h.execCommandLinkHeartbeat
  · exact h.execPowerDieHoldEnter
  · exact h.execPowerDieHoldLeave
  · exact h.execSupplyLinkHeartbeat
  · exact h.execInterfaceHeartbeatLoss
  · exact h.execControlLaneIdleHandshake
  · exact h.execControlLaneLoss
  · exact h.execCoreSupplyLapse
  · exact h.execVcoreMeasure
  · exact h.execXtalFallback
  · exact h.execMsSupplyLoss
  · exact h.execMsSupplyReturn
  · exact h.execMirrorFrameSend
  · exact h.execMirrorFrameReceive
  · exact h.execMirrorTimeout
  · exact h.execTakeover
  · exact h.execTakeoverPwmEnable
  · exact h.execTwinHandoff
  · exact h.execSlewStart
  · exact h.execSlewComplete
  · exact h.execGtbStep
  · exact h.execSnapshotTake
  · exact h.execSyncReceive
  · exact h.execSyncRelay
  · exact h.execSyncTransmit
  · exact h.execPdelayReqTransmit
  · exact h.execPdelayReceive
  · exact h.execSyncTimeout
  · exact h.execGtbDomainWrite
  · exact h.execTriggerFire
  · exact h.execTriggerCompareWrite
  · exact h.execTriggerCtlWrite
  · exact h.execCaptureEdge
  · exact h.execCapturePop
  · exact h.execEventEnterEvr
  · exact h.execEventRelease
  · exact h.execLateEventRelease
  · exact h.execLogRecordWrite
  · exact h.execTraceRecordHandoff
  · exact h.execAlarmAck
  · exact h.execRefMonitorCompare
  · exact h.execRefMismatchClear
  · exact h.execAdcSequenceStart
  · exact h.execAdcStart
  · exact h.execAdcFreerunWrite
  · exact h.execAdcSlotComplete
  · exact h.execAdcGroupStart
  · exact h.execAdcGroupStartWrite
  · exact h.execAdcWordDeliver
  · exact h.execAdcSetComplete
  · exact h.execAdcRingWrite
  · exact h.execSdfResult
  · exact h.execSdfWindowRestart
  · exact h.execSdfFastTrip
  · exact h.execSdfClockLoss
  · exact h.execComparatorTrip
  · exact h.execComparatorRelease
  · exact h.execBlankingEnd
  · exact h.execPwmPeriodStart
  · exact h.execPwmMidPeriod
  · exact h.execPwmEdge
  · exact h.execPwmSync
  · exact h.execPwmCommit
  · exact h.execPwmSetLoad
  · exact h.execPwmSwtrip
  · exact h.execPwmGtrip
  · exact h.execPwmTripclr
  · exact h.execPwmEnableWrite
  · exact h.execPwmForceWrite
  · exact h.execTgDmemWrite
  · exact h.execTgOccurrence
  · exact h.execTgSwdisp
  · exact h.execTgDispatch
  · exact h.execTgAdd
  · exact h.execTgSub
  · exact h.execTgAnd
  · exact h.execTgOr
  · exact h.execTgXor
  · exact h.execTgShl
  · exact h.execTgShr
  · exact h.execTgSra
  · exact h.execTgShli
  · exact h.execTgShri
  · exact h.execTgSrai
  · exact h.execTgMin
  · exact h.execTgMax
  · exact h.execTgMinu
  · exact h.execTgMaxu
  · exact h.execTgClamp
  · exact h.execTgAbs
  · exact h.execTgSlt
  · exact h.execTgSltu
  · exact h.execTgClz
  · exact h.execTgMul
  · exact h.execTgMulh
  · exact h.execTgMulhu
  · exact h.execTgDiv
  · exact h.execTgDivu
  · exact h.execTgRem
  · exact h.execTgRemu
  · exact h.execTgMacq
  · exact h.execTgMsuq
  · exact h.execTgMulq
  · exact h.execTgMaci
  · exact h.execTgAclr
  · exact h.execTgAcld
  · exact h.execTgAcsr
  · exact h.execTgSatq
  · exact h.execTgSati
  · exact h.execTgPiu
  · exact h.execTgFadd
  · exact h.execTgFsub
  · exact h.execTgFmul
  · exact h.execTgFma
  · exact h.execTgFdiv
  · exact h.execTgFsqrt
  · exact h.execTgFmin
  · exact h.execTgFmax
  · exact h.execTgFabs
  · exact h.execTgFneg
  · exact h.execTgFeq
  · exact h.execTgFlt
  · exact h.execTgFle
  · exact h.execTgFcvtws
  · exact h.execTgFcvtsw
  · exact h.execTgFcvtqs
  · exact h.execTgFcvtsq
  · exact h.execTgEret
  · exact h.execTgMfs
  · exact h.execTgMts
  · exact h.execTgEvp
  · exact h.execTgJr
  · exact h.execTgAddi
  · exact h.execTgAndi
  · exact h.execTgOri
  · exact h.execTgXori
  · exact h.execTgLui
  · exact h.execTgSlti
  · exact h.execTgLw
  · exact h.execTgLh
  · exact h.execTgLhu
  · exact h.execTgLacc
  · exact h.execTgSw
  · exact h.execTgSh
  · exact h.execTgSacc
  · exact h.execTgLdc
  · exact h.execTgStc
  · exact h.execTgStcc
  · exact h.execTgBeq
  · exact h.execTgBne
  · exact h.execTgBlt
  · exact h.execTgBge
  · exact h.execTgBltu
  · exact h.execTgBgeu
  · exact h.execTgJmp
  · exact h.execTgCall
  · exact h.execTgLoop
  · exact h.execTgLoopi
  · exact h.execTgSetm
  · exact h.execTgEnd
  · exact h.execTgBrk
  · exact h.execTgSeal
  · exact h.execTgSkewTimeout
  · exact h.execTgDeadlineExpiry
  · exact h.execTgPairWrite
  · exact h.execTgPairSyncDone
  · exact h.execTgMoveGo
  · exact h.execTgMoveFreeze
  · exact h.execTgMoveComplete
  · exact h.execTgMoveFwdClear
  · exact h.execPscOn
  · exact h.execPscOff
  · exact h.execPscPwm
  · exact h.execPscClear
  · exact h.execPscOlcheck
  · exact h.execPscCommandApply
  · exact h.execPscAckReceive
  · exact h.execPscAckTimeout
  · exact h.execPscSample
  · exact h.execPscRangeSwitch
  · exact h.execPscOvercurrent
  · exact h.execPscShortCircuit
  · exact h.execPscGroupOvertemp
  · exact h.execI2tUpdate
  · exact h.execPscRetryDue
  · exact h.execPscRetryRestore
  · exact h.execPscClampEvent
  · exact h.execPscPwmPeriod
  · exact h.execOffstateCheckStart
  · exact h.execOffstateCheckSettled
  · exact h.execOnstateOpenLoad
  · exact h.execPscShed
  · exact h.execPscRestore
  · exact h.execPscRecordWrite
  · exact h.execPscMirrorLoad
  · exact h.execFeedPowerOnReset
  · exact h.execFeedRestart
  · exact h.execFeedUndervoltage
  · exact h.execFeedOvervoltage
  · exact h.execPortLinkDown
  · exact h.execPortLinkUp
  · exact h.execPortHoldExpiry
  · exact h.execPortDisable
  · exact h.execPlcaBeaconTimeout
  · exact h.execPlcaBeacon
  · exact h.execFrameReceive
  · exact h.execFrameTransmit
  · exact h.execInternalIngressResume
  · exact h.execGateEntryAdvance
  · exact h.execGclChangeWrite
  · exact h.execGateListChange
  · exact h.execStreamGateChangeWrite
  · exact h.execStreamGateListChange
  · exact h.execStreamGateEntryAdvance
  · exact h.execFdbRead
  · exact h.execFdbWrite
  · exact h.execFdbDelete
  · exact h.execFdbFlush
  · exact h.execFdbInvcache
  · exact h.execFdbFence
  · exact h.execFdbCommandComplete
  · exact h.execFdbWindowWrite
  · exact h.execFdbCacheExpiry
  · exact h.execFdbAgeSweep
  · exact h.execPinRevert
  · exact h.execPinRevertComplete
  · exact h.execFrerRecoveryReset
  · exact h.execSampleRecordWrite
  · exact h.execCanStart
  · exact h.execCanFrameValid
  · exact h.execCanObjectWrite
  · exact h.execCanTxreq
  · exact h.execCanArbitrationStart
  · exact h.execCanTxSuccess
  · exact h.execCanTxError
  · exact h.execCanArbitrationLost
  · exact h.execCanAbort
  · exact h.execCanBusoffRecover
  · exact h.execCanBusoffRecovered
  · exact h.execCanLomApply
  · exact h.execCanTxdTimeout
  · exact h.execCanCorrelation
  · exact h.execBusWakeDetect
  · exact h.execTransceiverOvertemp
  · exact h.execTransceiverOvertempEnd
  · exact h.execLinSlotStart
  · exact h.execLinHeaderReceive
  · exact h.execLinResponseComplete
  · exact h.execLinResponseTimeout
  · exact h.execLinWakePulse
  · exact h.execCarouselEnable
  · exact h.execCarouselMessageReceive
  · exact h.execCarouselRelay
  · exact h.execCarouselSend
  · exact h.execCarouselSlotTimeout
  · exact h.execCarouselFormTimeout
  · exact h.execConsentWrite
  · exact h.execKeeperLimit
  · exact h.execPrepareExpiry
  · exact h.execSleepTransceiversOff
  · exact h.execSleepCorePowerOff
  · exact h.execWakeReport
  · exact h.execWakeWindowExpiry
  · exact h.execZoneOkRequest
  · exact h.execZoneOkDrop
  · exact h.execZoneOkWatchdog
  · exact h.execGwPduReceive
  · exact h.execGwPduProcess
  · exact h.execGwLayoutCyclicDue
  · exact h.execGwMingapExpiry
  · exact h.execGwPduForm
  · exact h.execGwSinkReady
  · exact h.execGwFence
  · exact h.execGwFenceComplete
  · exact h.execTableEntryCommitWrite
  · exact h.execPcieInboundRequest
  · exact h.execPcieOutboundRequest
  · exact h.execPcieCompletion
  · exact h.execPcieCompletionTimeout
  · exact h.execPcieLinkUp
  · exact h.execPcieLinkDown
  · exact h.execPcieFunctionLevelReset
  · exact h.execPcieVfEnable
  · exact h.execPciePerst
  · exact h.execPcieRetrain
  · exact h.execPciePfMsix
  · exact h.execRvInstruction
  · exact h.execMret
  · exact h.execWcall
  · exact h.execCkpt
  · exact h.execAgreeLd
  · exact h.execAgreeRnd
  · exact h.execAgreeCyc
  · exact h.execGtbrd
  · exact h.execGtbrdX
  · exact h.execEvpost
  · exact h.execClaimReadInner
  · exact h.execClaimReadOuter
  · exact h.execInterruptTake
  · exact h.execTimerCompareMatch
  · exact h.execPredictorFlush
  · exact h.execStoreErrorResponse
  · exact h.execPairAccessRelease
  · exact h.execPairLagTimeout
  · exact h.execCheckpoint
  · exact h.execCheckpointCommit
  · exact h.execPairRestoreDone
  · exact h.execPairReplayEnd
  · exact h.execDebugHalt
  · exact h.execDebugResume
  · exact h.execDebugStep
  · exact h.execDebugAbstractWrite
  · exact h.execDebugProgramBuffer
  · exact h.execDebugNdmreset
  · exact h.execRegionCtlWrite
  · exact h.execIgrpWrite
  · exact h.execRegionFence
  · exact h.execRegionFenceComplete
  · exact h.execScrubLine
  · exact h.execWorldWatchdogExpiry
  · exact h.execWatchdogKick
  · exact h.execInnerWorldRestartBegin
  · exact h.execInnerWorldRestartComplete
  · exact h.execVimCreate
  · exact h.execVimAttach
  · exact h.execVimDetach
  · exact h.execVimQuiesce
  · exact h.execVimQuiesceComplete
  · exact h.execVimResume
  · exact h.execVimReset
  · exact h.execVimMigrate
  · exact h.execVimTakedown
  · exact h.execVimGenChangeDue
  · exact h.execVimMapWrite
  · exact h.execViTenantReset
  · exact h.execViResetComplete
  · exact h.execViDoorbell
  · exact h.execViTxFrame
  · exact h.execViRxDeliver
  · exact h.execViBucketRefill
  · exact h.execMbxClaim
  · exact h.execMbxGo
  · exact h.execMbxRelease
  · exact h.execMbxReclaimTimeout
  · exact h.execMbxCommandComplete
  · exact h.execGetInfo
  · exact h.execGetBootstat
  · exact h.execEcho
  · exact h.execProvDevid
  · exact h.execLcAdvance
  · exact h.execLcReturn
  · exact h.execLcEnd
  · exact h.execLcChallenge
  · exact h.execNonceExpiry
  · exact h.execDbgUnlock
  · exact h.execProvRootkey
  · exact h.execKeyRevoke
  · exact h.execMeasRead
  · exact h.execMeasExtend
  · exact h.execQuote
  · exact h.execGetCert
  · exact h.execVerifyImage
  · exact h.execUpdBegin
  · exact h.execUpdWrite
  · exact h.execUpdFromXspi
  · exact h.execUpdVerify
  · exact h.execUpdActivate
  · exact h.execUpdConfirm
  · exact h.execUpdRevert
  · exact h.execCfgRead
  · exact h.execCfgWrite
  · exact h.execEnvmRefresh
  · exact h.execPersistRead
  · exact h.execPersistClear
  · exact h.execHandover
  · exact h.execInnerRestart
  · exact h.execResetReq
  · exact h.execStRun
  · exact h.execScanEnable
  · exact h.execKeyWrap
  · exact h.execKeyUnwrap
  · exact h.execRng
  · exact h.execXspiInit
  · exact h.execXspiRead
  · exact h.execXspiProgram
  · exact h.execXspiErase
  · exact h.execXspiEraseDone
  · exact h.execSecureBoot
  · exact h.execVbatValid
  · exact h.execVbatLoss
  · exact h.execVbatLow
  · exact h.execVbatHigh
  · exact h.execVbatNormal
  · exact h.execDomainOff
  · exact h.execDomainOn
  · exact h.execVcoreThermalStep
  · exact h.execBackupToVbak
  · exact h.execBackupToVbat
  · exact h.execBackupContinuityLoss
  · exact h.execBackupPor
  · exact h.execBackupGtbRecord
  · exact h.execPowerOnReset
  · exact h.execVddCoreCollapse
  · exact h.execColdReset
  · exact h.execWarmReset
  · exact h.execResetPinAssert
  · exact h.execResetPinRelease
  · exact h.execBlockReset
  · exact h.execBlockIdleReached
  · exact h.execBlockIdleTimeout
  · exact h.execCalibrationDone
  · exact h.execCanReady
  · exact h.execFullyReady
  · exact h.execSteConditionCheck
  · exact h.execSteSliceStart
  · exact h.execSteSliceEnd
  · exact h.execPowerupTestDone
  · exact h.execExternalTripBallChange
  · exact h.execSdfFastTripRelease
  · exact h.execSdfClockReturn
  · exact h.execCanRxError
  · exact h.execCanProtocolException
  · exact h.execCanIntegrationDone
  · exact h.execCanBusReleaseEnd
  · exact h.execLinTxdTimeout
  · exact h.execVbakLow

end Sys2Proof.Machine
end

section
/-! PROOFS. What a command leaves unchanged, part 10 of 10: commands on a unit that the part does not carry, and the statement O59. -/

namespace Sys2Proof.Machine
open Sys2Proof

variable {s : State}

/-! ### Commands on a unit that the part does not carry -/

/-- A command whose first guard fails answers with the state as it stands. -/
theorem guarded_eq_next {c : Bool} {o : Host.Outcome State Fault Refusal} (hc : c = false) : (if (!c) = true then done s else o) = .next s := by
  rw [hc]
  rfl

theorem exec_of_not_carried {i : Instr} (hi : carried s.part i = false) : exec i s = .next s := by
  cases i
  case commandLinkHeartbeat f _ _ =>
    have hdie : hasDie s.part f = false := hi
    exact if_pos (by simp [hdie])
  case pcieFunctionLevelReset f =>
    have hvf : pcieVfs s.part < f.val := by simpa [carried] using hi
    exact if_pos (by simp [hvf])
  case powerDieHoldEnter | powerDieHoldLeave | takeoverPwmEnable | syncReceive | pdelayReqTransmit | pdelayReceive | adcFreerunWrite |
    comparatorTrip | comparatorRelease | blankingEnd | pwmCommit | pwmSwtrip | pwmTripclr | pwmEnableWrite | pwmForceWrite | tgDmemWrite | tgSwdisp |
    tgPairWrite | tgMoveGo | tgMoveFwdClear | pscCommandApply | pscAckReceive | pscAckTimeout | pscSample | pscRangeSwitch | pscOvercurrent |
    pscShortCircuit | pscGroupOvertemp | i2tUpdate | pscRetryDue | pscRetryRestore | pscClampEvent | pscPwmPeriod | offstateCheckStart |
    offstateCheckSettled | onstateOpenLoad | pscShed | pscRestore | pscMirrorLoad | feedPowerOnReset | feedRestart | feedUndervoltage |
    feedOvervoltage | portLinkDown | portLinkUp | portHoldExpiry | portDisable | plcaBeaconTimeout | plcaBeacon | frameReceive | frameTransmit |
    gateEntryAdvance | gclChangeWrite | gateListChange | canStart | canTxreq | canAbort | canLomApply | canTxdTimeout | canCorrelation |
    busWakeDetect | transceiverOvertemp | transceiverOvertempEnd | checkpoint | watchdogKick | viTenantReset | viDoorbell | viBucketRefill |
    sdfClockReturn | canBusReleaseEnd | linTxdTimeout =>
    exact guarded_eq_next hi
  all_goals exact absurd hi Bool.noConfusion

/-- Settles O59: a command changes the pieces that the frames of its functions name, and a command on a unit that the part does not carry fails its guard. -/
theorem untouched : Obligations.Untouched := by
  refine ⟨fun i s t e => ?_, fun i s => exec_of_not_carried⟩
  have hout : FrameOut (touched i) s (exec i s) := Frame.refl.exec fun _ hp => hp
  obtain ⟨hpending, hpart, hsame⟩ : Frame (touched i) s t := by rwa [e] at hout
  exact ⟨hpending, hpart, hsame⟩

end Sys2Proof.Machine
end
